-- ==== Sys2Proof/Word.lean ====
section
/-! DEFINITION. Word types and the sparse table type that every register file, buffer and array of the module uses. -/
namespace Sys2Proof

/-- One byte of memory (R6). -/
abbrev Byte := BitVec 8
/-- A scalar register, counter or 64-bit field (R115, R93). -/
abbrev Word := BitVec 64
/-- One vector lane (R124). -/
abbrev Lane := BitVec 32
/-- A byte address of the 44-bit local address space (R28). -/
abbrev Addr := BitVec 44

/-- A sparse table: numbered entries, the numbers strictly rising; a number that is not listed holds the
table's default value. -/
abbrev Tab (α : Type) := List (Nat × α)

end Sys2Proof
end

