-- ==== Sys2Proof/Syntax.lean ====
section
/-! DEFINITION. The commands of the block: one constructor for each row of the spec's table of operations and
events, and the operand types they carry. A command names the place it acts on and the values that come from
outside the module; everything else it takes from the state. -/
namespace Sys2Proof

/-- The two doors of the dictionary (R15). -/
inductive Door where
  | m | h
  deriving DecidableEq, Repr

/-- The frame of a Stanan request as the module received it (R476, R477, R479): the door, the source and destination addresses, the
header's version, session and sequence, whether the check and the length hold, and whether the type, the body
length and the reserved zeros hold. -/
structure Frame where
  door : Door
  src : BitVec 48
  dst : BitVec 48
  ver : BitVec 8
  session : BitVec 16
  seq : BitVec 16
  sound : Bool
  formed : Bool
  deriving DecidableEq, Repr

/-- What the meters of 10 us say (R432): the energy in microjoules of the core and cluster islands, of the stacks and Sepia engines, of the
links, router halves and pools, of the host link, and of everything else; the retired operations of each cluster, weighted per engine; and the
bytes of each partition at the stacks, on the links and on the host link. -/
structure EnergyMeter where
  coreE : Nat
  stackE : Nat
  linkE : Nat
  hostE : Nat
  restE : Nat
  ops : List Nat
  stackBytes : List Nat
  linkBytes : List Nat
  hostBytes : List Nat
  deriving DecidableEq, Repr

/-- A read that a March engine makes and what it returns: the bank, whether in the checkerboard run, the element and the operation in
it, from 0, the row, and the 256 data bits with the 32 check bits above them (R166). -/
structure MarchRead where
  bank : Fin 32
  checker : Bool
  elem : Fin 6
  op : Fin 5
  row : Fin 8192
  got : BitVec 288
  deriving DecidableEq, Repr

/-- What the check bits of the words read by one operation show (R162): clean or with `n` granules corrected, or
an uncorrectable granule. -/
inductive Ecc where
  | ok (corrected : Nat)
  | uncorrectable
  deriving DecidableEq, Repr

/-- Who writes BANK.CTRL: a core's DMA with one of its M-ops, or a host function (R153, R154). -/
inductive BankReq where
  | dma (core : Fin 288) (id : Nat)
  | host (fn : Fin 17)
  deriving DecidableEq, Repr


/-- How a lane ended a loopback test (R257): no signal, or its bit errors and whether it kept lock throughout. -/
inductive LaneResult where
  | noSignal
  | measured (lock : Bool) (errors : Nat)
  deriving DecidableEq, Repr

/-- What a receive lane of a link says of itself while the link trains: who sends on it (serial, and the coordinate and link of `CAP.COORD`),
the sender's number of the lane, and whether its polarity is inverted (R234, R247). -/
structure LaneId where
  serial : Nat
  coord : Nat
  lane : Nat
  inverted : Bool
  deriving DecidableEq, Repr

/-- How a unit of a COPY ends at the host link and in what it reads: well, a host translation failure (R222), or
uncorrectable data (R162, R177). -/
inductive CopyResult where
  | ok (corrected : Nat)
  | translation
  | uncorrectable
  deriving DecidableEq, Repr

/-- How a replay ends (R387): END or a context fault, the replay limit, or a firing of the progress watchdog. -/
inductive ReplayEnd where
  | ended | limit | watchdog
  deriving DecidableEq, Repr

/-- What a requester offers in NEGOTIATE_ALGORITHMS, algorithm by algorithm of R353: ECDSA P-384, SHA-384, ECDHE P-384,
AES-256-GCM, and SHA-384 for measurements. -/
structure Algorithms where
  signature : Bool
  hash : Bool
  exchange : Bool
  aead : Bool
  measurement : Bool
  deriving DecidableEq, Repr

/-- The commands, in the order of the table. Each constructor's comment gives the rule and the meaning the
table states for its row. -/
inductive Instr where
  /-- NOP (R116): C-op that does nothing for one cycle; the all-zero word. -/
  | nop (core : Fin 288)
  /-- END (R116): C-op that stops issue and moves the context to Draining. -/
  | endOp (core : Fin 288)
  /-- YIELD (R90): C-op that switches to another Ready context, if there is one. -/
  | yield (core : Fin 288)
  /-- LI (R116): C-op that loads a sign-extended immediate into sD. -/
  | li (core : Fin 288)
  /-- LIH (R116): C-op that places the immediate in the upper 32 bits of sD. -/
  | lih (core : Fin 288)
  /-- ADD (R116): C-op sD = sA + op2 modulo 2^64. -/
  | add (core : Fin 288)
  /-- SUB (R116): C-op sD = sA - op2 modulo 2^64. -/
  | sub (core : Fin 288)
  /-- MUL (R116): C-op sD = low 64 bits of sA x op2. -/
  | mul (core : Fin 288)
  /-- AND (R116): C-op bitwise AND of sA with op2. -/
  | and (core : Fin 288)
  /-- OR (R116): C-op bitwise OR of sA with op2. -/
  | or (core : Fin 288)
  /-- XOR (R116): C-op bitwise XOR of sA with op2. -/
  | xor (core : Fin 288)
  /-- SHL (R116): C-op that shifts sA left by op2[5:0]. -/
  | shl (core : Fin 288)
  /-- SHR (R116): C-op logical right shift of sA by op2[5:0]. -/
  | shr (core : Fin 288)
  /-- SRA (R116): C-op arithmetic right shift of sA by op2[5:0]. -/
  | sra (core : Fin 288)
  /-- SLT (R116): C-op signed compare of sA with op2, setting sD to 1 or 0. -/
  | slt (core : Fin 288)
  /-- SLTU (R116): C-op unsigned compare of sA with op2, setting sD to 1 or 0. -/
  | sltu (core : Fin 288)
  /-- LDS (R116): C-op that loads 8 scratchpad bytes into sD through the vector ports. -/
  | lds (core : Fin 288)
  /-- STS (R116): C-op that stores sD to 8 scratchpad bytes through the vector ports. -/
  | sts (core : Fin 288)
  /-- BEQ (R116): Branch taken if sA equals sB. -/
  | beq (core : Fin 288)
  /-- BNE (R116): Branch taken if sA differs from sB. -/
  | bne (core : Fin 288)
  /-- BLT (R116): Branch taken if sA is less than sB, signed. -/
  | blt (core : Fin 288)
  /-- BGE (R116): Branch taken if sA is at least sB, signed. -/
  | bge (core : Fin 288)
  /-- BLTU (R116): Branch taken if sA is less than sB, unsigned. -/
  | bltu (core : Fin 288)
  /-- BGEU (R116): Branch taken if sA is at least sB, unsigned. -/
  | bgeu (core : Fin 288)
  /-- JAL (R116): C-op that jumps relative and links PC + 1 into sD. -/
  | jal (core : Fin 288)
  /-- JR (R116): C-op that jumps to the index held in sA. -/
  | jr (core : Fin 288)
  /-- LOOP (R116): C-op that decrements sD and branches while sD is not zero. -/
  | loop (core : Fin 288)
  /-- WAIT (R116): C-op that holds the context Waiting until a counter reaches a value. -/
  | wait (core : Fin 288)
  /-- SIG (R93): C-op that adds a value to a granted completion counter. -/
  | sig (core : Fin 288)
  /-- CSET (R93): C-op that sets a granted completion counter to a value. -/
  | cset (core : Fin 288)
  /-- CRD (R116): C-op that reads a completion counter into sD. -/
  | crd (core : Fin 288)
  /-- FENCE (R117): C-op that waits for earlier T-ops, V-ops or M-ops selected by a mask. -/
  | fence (core : Fin 288)
  /-- CID (R116): C-op that returns core, slot, partition and coordinate in sD. -/
  | cid (core : Fin 288)
  /-- TIME (R116): C-op that returns the island's latest copy of the local time base. -/
  | time (core : Fin 288)
  /-- TDL (R104): T-op that loads a tile register from 32 scratchpad bytes. -/
  | tdl (core : Fin 288)
  /-- TADV (R104): T-op that advances TD.BASE and TD.INDEX of a tile register. -/
  | tadv (core : Fin 288)
  /-- TZERO (R104): T-op that clears an accumulator set and makes it untyped. -/
  | tzero (core : Fin 288)
  /-- TLDACC (R104): T-op that copies a binary32 or INT32 tile into an accumulator set. -/
  | tldacc (core : Fin 288)
  /-- TSTACC (R107): T-op that converts an accumulator set into a tile. -/
  | tstacc (core : Fin 288)
  /-- MMA_FP4 (R105): Matrix multiply-accumulate of the FP4 class. -/
  | mmaFp4 (core : Fin 288)
  /-- MMA_FP8 (R105): Matrix multiply-accumulate of the FP8 class. -/
  | mmaFp8 (core : Fin 288)
  /-- MMA_F16 (R105): Matrix multiply-accumulate of the 16-bit class. -/
  | mmaF16 (core : Fin 288)
  /-- MMA_FP32 (R105): Matrix multiply-accumulate of the FP32 class. -/
  | mmaFp32 (core : Fin 288)
  /-- MMA_INT8 (R105): Integer multiply-accumulate into an INT32 set. -/
  | mmaInt8 (core : Fin 288)
  /-- T_OP_START (R109): A queued T-op starts once the previous one leaves occupancy, and its checks are made. -/
  | tOpStart (core : Fin 288)
  /-- T_OP_COMPLETE (R93): A T-op completes, with its writes visible and its CE counter signalled. -/
  | tOpComplete (core : Fin 288) (ecc : Ecc)
  /-- DMA_CP (R111): M-op that copies bytes between local addresses. -/
  | dmaCp (core : Fin 288)
  /-- RPUT (R111): M-op that copies local bytes to a global fabric address. -/
  | rput (core : Fin 288) (ecc : Ecc)
  /-- RGET (R111): M-op that copies bytes from a global fabric address to a local one. -/
  | rget (core : Fin 288)
  /-- CSIG (R111): M-op that adds to a counter of a core of this module. -/
  | csig (core : Fin 288)
  /-- RSIG (R111): M-op that adds to a counter of a core on another module. -/
  | rsig (core : Fin 288)
  /-- TBL (R111): M-op that issues a 64-byte Sepia table command. -/
  | tbl (core : Fin 288) (ecc : Ecc)
  /-- M_OP_COMPLETE (R113): An M-op completes when its last write or reply is visible, and its counters are signalled. -/
  | mOpComplete (core : Fin 288) (id : Nat) (ecc dest : Ecc)
  /-- VLD (R130): V-op that loads a packed array into lane form. -/
  | vld (core : Fin 288)
  /-- VLDS (R130): V-op strided load. -/
  | vlds (core : Fin 288)
  /-- VST (R130): V-op that stores lanes as a packed array. -/
  | vst (core : Fin 288)
  /-- VSTS (R130): V-op strided store. -/
  | vsts (core : Fin 288)
  /-- VGATH (R130): V-op gather by per-lane index. -/
  | vgath (core : Fin 288)
  /-- VSCAT (R130): V-op scatter by per-lane index. -/
  | vscat (core : Fin 288)
  /-- VSCADD (R134): V-op two-phase scatter-add into binary32, INT32 or BX32 elements. -/
  | vscadd (core : Fin 288)
  /-- VBCS (R135): V-op that broadcasts a scalar into every active lane. -/
  | vbcs (core : Fin 288)
  /-- VLANE (R135): V-op that returns one lane to a scalar register. -/
  | vlane (core : Fin 288)
  /-- VIOTA (R135): V-op that writes an arithmetic sequence across the lanes. -/
  | viota (core : Fin 288)
  /-- FADD (R135): Lane-wise binary32 add. -/
  | fadd (core : Fin 288)
  /-- FSUB (R135): Lane-wise binary32 subtract. -/
  | fsub (core : Fin 288)
  /-- FMUL (R135): Lane-wise binary32 multiply. -/
  | fmul (core : Fin 288)
  /-- FFMA (R135): Lane-wise fused multiply-add with one rounding. -/
  | ffma (core : Fin 288)
  /-- FMAX (R135): Lane-wise IEEE maximum. -/
  | fmax (core : Fin 288)
  /-- FMIN (R135): Lane-wise IEEE minimum. -/
  | fmin (core : Fin 288)
  /-- FABS (R135): Lane-wise clear of the sign bit. -/
  | fabs (core : Fin 288)
  /-- FNEG (R135): Lane-wise inversion of the sign bit. -/
  | fneg (core : Fin 288)
  /-- IADD (R135): Lane-wise INT32 add. -/
  | iadd (core : Fin 288)
  /-- ISUB (R135): Lane-wise INT32 subtract. -/
  | isub (core : Fin 288)
  /-- IMUL (R135): Lane-wise INT32 multiply, low 32 bits. -/
  | imul (core : Fin 288)
  /-- IMAX (R135): Lane-wise signed maximum. -/
  | imax (core : Fin 288)
  /-- IMIN (R135): Lane-wise signed minimum. -/
  | imin (core : Fin 288)
  /-- VAND (R135): Lane-wise bitwise AND. -/
  | vand (core : Fin 288)
  /-- VOR (R135): Lane-wise bitwise OR. -/
  | vor (core : Fin 288)
  /-- VXOR (R135): Lane-wise bitwise XOR. -/
  | vxor (core : Fin 288)
  /-- VSHL (R135): Lane-wise left shift. -/
  | vshl (core : Fin 288)
  /-- VSHR (R135): Lane-wise logical right shift. -/
  | vshr (core : Fin 288)
  /-- VSRA (R135): Lane-wise arithmetic right shift. -/
  | vsra (core : Fin 288)
  /-- FCMP (R135): Floating-point compare into a predicate. -/
  | fcmp (core : Fin 288)
  /-- ICMP (R135): Integer compare into a predicate. -/
  | icmp (core : Fin 288)
  /-- SEL (R135): Lane-wise select by a predicate. -/
  | sel (core : Fin 288)
  /-- PLOGIC (R135): Logic operation on predicate registers. -/
  | plogic (core : Fin 288)
  /-- PSET (R135): V-op that sets a predicate register from a scalar. -/
  | pset (core : Fin 288)
  /-- PGET (R135): V-op that copies a predicate register to a scalar. -/
  | pget (core : Fin 288)
  /-- VPERM (R135): Lane permutation by per-lane index. -/
  | vperm (core : Fin 288)
  /-- VROT (R135): Lane rotation. -/
  | vrot (core : Fin 288)
  /-- VRED (R136): Lane reduction by a fixed tree into lane 0. -/
  | vred (core : Fin 288)
  /-- VREDBX (R136): Exact BX32 lane reduction into lane 0 of a quad. -/
  | vredbx (core : Fin 288)
  /-- VCVT (R137): Lane-wise format conversion. -/
  | vcvt (core : Fin 288)
  /-- MXPK (R137): Encoding of two MX blocks with their scales. -/
  | mxpk (core : Fin 288)
  /-- MXUNPK (R137): Decoding of MX elements to binary32. -/
  | mxunpk (core : Fin 288)
  /-- BXDEP (R139): Lane-wise BX32 deposit. -/
  | bxdep (core : Fin 288)
  /-- BXMRG (R139): Lane-wise BX32 merge. -/
  | bxmrg (core : Fin 288)
  /-- BXFIN (R139): Lane-wise BX32 finalise. -/
  | bxfin (core : Fin 288)
  /-- VFUNC (R140): Lane-wise transcendental function. -/
  | vfunc (core : Fin 288)
  /-- V_OP_START (R142): A queued V-op, LDS or STS starts once its registers and the engine are free. -/
  | vOpStart (core : Fin 288)
  /-- V_OP_COMPLETE (R144): A V-op completes, with its results visible and its CE counter signalled. -/
  | vOpComplete (core : Fin 288) (ecc : Ecc)
  /-- DISPATCH_ENTRY (R89): A dispatch entry takes an Empty slot, or waits for one, and starts the program copy. -/
  | dispatchEntry (core : Fin 288)
  /-- PROGRAM_COPY_COMPLETE (R90): The program copy ends and the context becomes Ready. -/
  | programCopyComplete (core : Fin 288) (slot : Fin 4)
  /-- PROGRAM_COPY_FAULT (R90): A fault on the program copy moves the context to Draining. -/
  | programCopyFault (core : Fin 288) (slot : Fin 4) (uncorrectable : Bool)
  /-- CONTEXT_SWITCH (R91): The scalar unit picks the next Ready context and switches to it in 4 cycles. -/
  | contextSwitch (core : Fin 288)
  /-- COUNTER_CHANGED (R94): A counter change over EV03 re-evaluates pending waits and releases contexts. -/
  | counterChanged (core : Fin 288)
  /-- ASYNCHRONOUS_FAULT (R121): A fault found after issue moves the context to Draining. -/
  | asynchronousFault (core : Fin 288) (slot : Fin 4) (word : Word) (code : Fin 14) (info : Addr)
  /-- CONTEXT_DRAINED (R90): The last started operation of a Draining context ends; the slot becomes Empty and its status is reported. -/
  | contextDrained (core : Fin 288) (slot : Fin 4)
  /-- BANK_CTRL_WRITE (R155): An 8-byte write to BANK.CTRL is accepted by the owner agent, held, or ignored. -/
  | bankCtrlWrite (core : Fin 288) (bank : Fin 32) (who : BankReq) (value : Word)
  /-- HANDOVER_POINT (R156): An accepted bank write takes effect once old accesses and power transitions have ended. -/
  | handoverPoint (core : Fin 288) (bank : Fin 32)
  /-- COLLISION (R160): A non-processor read that collides with a processor write re-reads the word later. -/
  | collision (core : Fin 288) (cls : Fin 5)
  /-- MARCH_REQUEST (R169): A write to a March request element starts a test on one bank, or is refused. -/
  | marchRequest (frame : Frame) (core : Fin 288) (value : BitVec 16)
  /-- MARCH_TEST_END (R170): A bank test ends in pass or fail, and the result is recorded. -/
  | marchTestEnd (core : Fin 288) (reads : List MarchRead)
  /-- POOL_MARCH_END (R171): A pool bring-up test ends, possibly making the cluster unavailable. -/
  | poolMarchEnd (cluster : Fin 24) (reads : List MarchRead)
  /-- HBM_READ (R177): A sector read of a partition is decoded, corrected or reported uncorrectable. -/
  | hbmRead (part : Fin 16) (addr : Addr) (parity : Bool) (errs : Nat)
  /-- SECTOR_WRITE (R199): A write to a sector passes through the base die, logging a before-image when needed. -/
  | sectorWrite (part : Fin 16) (addr : Addr) (data : List Byte)
  /-- LEDGER_ROOM_FREED (R202): Writes waiting for slice room proceed once a sweep or restore frees room. -/
  | ledgerRoomFreed (stack : Fin 16)
  /-- COMMITTED_VIEW_READ (R201): A committed-view read returns a before-image or the live sector. -/
  | committedViewRead (part : Fin 16) (addr : Addr)
  /-- PATROL_READ (R178): The patrol reads sectors in idle slots to meet the patrol interval. -/
  | patrolRead (stack : Fin 16) (errs : Nat)
  /-- SPARE_PAIR_ASSIGN (R180): A channel number written to OD 0x8010 starts mirroring and the copy. -/
  | sparePairAssign (frame : Frame) (stack : Fin 16) (channel : Fin 32)
  /-- SPARE_PAIR_CANCEL (R181): 0xFF written to OD 0x8010 stops the migration. -/
  | sparePairCancel (frame : Frame) (stack : Fin 16)
  /-- SPARE_PAIR_COPY_DONE (R180): The spare pair copy ends and the pair is Armed. -/
  | sparePairCopyDone (stack : Fin 16)
  /-- LOOKUP (R189): Table command that writes looked-up rows. -/
  | sepiaLookup (id : Nat) (seen : List Ecc)
  /-- POOL (R190): Table command that pools bags of rows. -/
  | sepiaPool (id : Nat) (seen : List Ecc)
  /-- SCATTER_ADD (R190): Table command that adds gradient rows into table rows. -/
  | scatterAdd (id : Nat) (seen : List Ecc)
  /-- ROW_UPDATE (R191): Table command that applies an optimiser update to each distinct row. -/
  | rowUpdate (id : Nat) (seen : List Ecc)
  /-- STREAM_COPY (R189): Table command that copies sectors. -/
  | streamCopy (id : Nat) (seen : List Ecc)
  /-- FILL (R189): Table command that writes a repeated pattern, optionally as a scrub. -/
  | sepiaFill (id : Nat) (seen : List Ecc)
  /-- SEPIA_COMMAND_COMPLETE (R187): A command or share ends and its completion is reported in arrival order. -/
  | sepiaCommandComplete (id : Nat)
  /-- SEPIA_WATCHDOG_EXPIRY (R197): The Sepia watchdog reaches its interval, raising fault 0x06 and bypass. -/
  | sepiaWatchdogExpiry (stack : Fin 16)
  /-- SEPIA_BYPASS (R196): A write to OD 0x8002 moves an engine into or out of bypass at its safe point. -/
  | sepiaBypass (frame : Frame) (stack : Fin 16) (value : Bool)
  /-- EPOCH_COLOUR_DELIVERY (R198): The epoch agent delivers the next colour over EV07 and the stacks take it together. -/
  | epochColourDelivery (part : Fin 16)
  /-- EPOCH_DECISION_DELIVERY (R340): A decision reaches the stacks over EV07, starting a sweep or a restore. -/
  | epochDecisionDelivery (part : Fin 16)
  /-- SWEEP_END (R200): The sweep of a committed epoch ends on a stack and its slice space is released. -/
  | sweepEnd (stack : Fin 16) (part : Fin 16)
  /-- RESTORE_END (R200): A stack ends the restore of an aborted epoch. -/
  | restoreEnd (stack : Fin 16) (part : Fin 16)
  /-- DOORBELL (R216): A write of TAIL.INDEX publishes slots or is an ignored sequence. -/
  | doorbell (fn : Fin 17) (queue : Fin 1024) (value : Word)
  /-- QUEUE_ENABLE (R215): QCTRL.EN written 1 enables or resumes a queue. -/
  | queueEnable (fn : Fin 17) (queue : Fin 1024) (value : Word)
  /-- QUEUE_CLOSE (R215): QCTRL.EN written 0 disables or closes a queue. -/
  | queueClose (fn : Fin 17) (queue : Fin 1024) (value : Word)
  /-- QUEUE_CONFIG_WRITE (R214): A write to QUEUE.RING, QUEUE.CQ or the other QUEUE.CTRL fields. -/
  | queueConfigWrite (fn : Fin 17) (queue : Fin 1024) (reg : Fin 3) (value : Word)
  /-- CQH_INDEX_WRITE (R218): The driver advances the completion ring head. -/
  | cqhIndexWrite (fn : Fin 17) (queue : Fin 1024) (value : Word)
  /-- ABI_REQ_WRITE (R213): A write of ABI.REQ negotiates the host queue ABI version. -/
  | abiReqWrite (fn : Fin 17) (value : Word)
  /-- FN_EVENT_CLEAR (R210): An RW1C write clears bits of FN.EVENT. -/
  | fnEventClear (fn : Fin 17) (value : Word)
  /-- FN_WIN_WRITE (R211): A write of FN.WIN0 or FN.WIN1 sets a host window. -/
  | fnWinWrite (fn : Fin 17) (win : Fin 2) (value : Word)
  /-- HCNT_VALUE_WRITE (R229): A host write sets a host counter. -/
  | hcntValueWrite (fn : Fin 17) (part : Fin 16) (cnt : Fin 512) (value : Word)
  /-- HCNT_THRESH_WRITE (R229): A threshold write arms a host counter. -/
  | hcntThreshWrite (fn : Fin 17) (part : Fin 16) (cnt : Fin 512) (value : Word)
  /-- HCNT_CTRL_WRITE (R229): A write of HCNT.CTRL sets enable and vector. -/
  | hcntCtrlWrite (fn : Fin 17) (part : Fin 16) (cnt : Fin 512) (value : Word)
  /-- DESCRIPTOR_FETCH (R217): Published slots are fetched in ring order. -/
  | descriptorFetch (queue : Fin 1024)
  /-- DESCRIPTOR_DISPATCH (R217): The dispatcher serves the next descriptor of a queue once nothing holds it. -/
  | descriptorDispatch
  /-- NOP_DESCRIPTOR (R220): Descriptor that completes with no effect. -/
  | nopDescriptor
  /-- KERNEL (R221): Descriptor that launches a context on each core of a set. -/
  | descKernel
  /-- COPY (R222): Descriptor that moves bytes between host and local memory. -/
  | descCopy
  /-- TABLE (R223): Descriptor that issues a table command. -/
  | descTable
  /-- COLLECTIVE (R300): Descriptor that admits a collective in a group. -/
  | descCollective
  /-- WAIT_COUNTER (R224): Descriptor that holds dispatch until a counter reaches a value. -/
  | waitCounter
  /-- SIGNAL_COUNTER (R224): Descriptor that adds to or sets a host or core counter. -/
  | signalCounter
  /-- FENCE_DESCRIPTOR (R224): Descriptor that holds dispatch until earlier descriptors of its scope complete. -/
  | fenceDescriptor
  /-- EPOCH_BEGIN (R324): Descriptor that opens an epoch of the partition. -/
  | epochBegin
  /-- EPOCH_VOTE (R224): Descriptor that casts the member's vote for the open epoch. -/
  | epochVote
  /-- COPY_UNIT_DONE (R222): A 4,096-byte unit of a COPY completes or fails. -/
  | copyUnitDone (queue : Fin 1024) (index : Nat) (unit : Nat) (result : CopyResult)
  /-- DESCRIPTOR_COMPLETE (R228): A descriptor completes, writing its done map, record, counter add and MSI-X. -/
  | descriptorComplete
  /-- WAIT_COUNTER_TIMEOUT (R224): The timeout of WAIT_COUNTER expires and its queue becomes Stopped. -/
  | waitCounterTimeout (queue : Fin 1024)
  /-- FUNCTION_LEVEL_RESET (R231): A function level reset disables the function's queues. -/
  | functionLevelReset (fn : Fin 17)
  /-- HOST_LINK_LOSS (R231): Loss of the host link, handled as a function level reset of every function. -/
  | hostLinkLoss (perst cable : Bool)
  /-- HOST_WINDOW_READ (R212): A host read through a BAR window is served or refused. -/
  | hostWindowRead (fn : Fin 17) (win : Fin 2) (off : BitVec 36) (len : Fin 4097) (ecc : Ecc)
  /-- HOST_WINDOW_WRITE (R211): A host write through a BAR window is served or refused. -/
  | hostWindowWrite (fn : Fin 17) (win : Fin 2) (off : BitVec 36) (data : List Byte) (ecc : Ecc)
  /-- REGISTER_WRITE (R230): A write to a BAR 0 register with no row of its own, read-only fields ignored. -/
  | registerWrite (fn : Fin 17) (off : BitVec 23) (value : Word)
  /-- LINK_ENABLE (R245): A write of true to OD 0x4001 moves a Disabled link to Detect. -/
  | linkEnable (frame : Frame) (link : Fin 12)
  /-- LINK_DISABLE (R255): A write of false to OD 0x4001 disables the link at its safe point. -/
  | linkDisable (frame : Frame) (link : Fin 12)
  /-- SIGNAL_DETECT (R245): Signal on at least four lanes moves Detect to Negotiate. -/
  | signalDetect (link : Fin 12) (lanes : BitVec 9)
  /-- TRAINING_TIMEOUT (R245): The training timer expires and the link goes Down with no partner. -/
  | trainingTimeout (link : Fin 12)
  /-- CAPABILITY_EXCHANGED (R247): Both capability messages are exchanged and the version is agreed or refused. -/
  | capabilityExchanged (link : Fin 12) (blocks : List (List Byte))
  /-- EQUALISE_DONE (R245): Every lane has converged or given up, leading to Align or Down. -/
  | equaliseDone (link : Fin 12) (failing : BitVec 9)
  /-- ALIGN_DONE (R245): Lanes are deskewed and locked, and the link enters Qualify. -/
  | alignDone (link : Fin 12) (seen : List (Option LaneId)) (partner : BitVec 9)
  /-- QUALIFY_WINDOW_END (R250): The 1 s qualification window ends and lanes pass or fail. -/
  | qualifyWindowEnd (link : Fin 12) (errors : List Nat) (uncorrectable : Nat)
  /-- QUAL_RESULT (R250): Control message carrying an end's qualification result. -/
  | qualResult (link : Fin 12)
  /-- DEGRADE_WINDOW_END (R251): A 1 ms error window ends and a lane may be declared failing. -/
  | degradeWindowEnd (link : Fin 12) (lane : Fin 9) (errors : Nat) (uncorrectable : Nat)
  /-- LOSS_OF_SIGNAL (R251): A lane loses signal or lock and is declared failing. -/
  | lossOfSignal (link : Fin 12) (lanes : BitVec 9)
  /-- SWAP_REQ (R252): Control message asking the partner to move a failing position to the spare lane. -/
  | swapReq (link : Fin 12)
  /-- SWAP_ACK (R252): Control message confirming a spare-lane swap. -/
  | swapAck (link : Fin 12)
  /-- HALF_REQ (R253): Control message asking to narrow the link to half width. -/
  | halfReq (link : Fin 12)
  /-- HALF_ACK (R253): Control message confirming the narrowing. -/
  | halfAck (link : Fin 12)
  /-- SWAP_TIMEOUT (R245): A swap or narrowing is not acknowledged within 100 us and the link goes Down. -/
  | swapTimeout (link : Fin 12)
  /-- DOWN (R243): Control message by which the partner takes the link Down. -/
  | linkDown (link : Fin 12)
  /-- RETRY_INTERVAL_EXPIRY (R245): The retry interval ends and a Down link returns to Detect. -/
  | retryIntervalExpiry (link : Fin 12)
  /-- FLIT_RECEIVE (R240): A received flit is checked, passed on or discarded, possibly entering resync. -/
  | flitReceive (link : Fin 12) (lanes : List (List Nat))
  /-- CREDIT_SYNC (R242): Control message whose cumulative counts free the credits of lost slots. -/
  | creditSync (link : Fin 12)
  /-- CREDIT_SYNC_SEND (R242): A transmitter sends CREDIT_SYNC at least once per microsecond. -/
  | creditSyncSend (link : Fin 12)
  /-- LOOPBACK_REQUEST (R256): A write to OD 0x4030 starts a loopback test or is refused. -/
  | loopbackRequest (frame : Frame) (link : Fin 12) (value : BitVec 32)
  /-- LOOPBACK_END (R257): A loopback test ends and lane results are reported. -/
  | loopbackEnd (link : Fin 12) (results : List LaneResult) (delay : BitVec 32)
  /-- PACKET_ROUTE (R267): A packet reaching a router is delivered locally, forwarded or discarded. -/
  | packetRoute (link : Fin 12)
  /-- WRITE (R276): WRITE request executed once under the reissue window. -/
  | fabricWrite (ecc : Ecc)
  /-- READ (R263): READ request answered with READ_DATA or ERROR. -/
  | fabricRead (ecc : Ecc)
  /-- READ_DATA (R277): Reply carrying read data, matched to its request. -/
  | fabricReadData (ecc : Ecc)
  /-- ACK (R277): Reply that completes a request. -/
  | fabricAck
  /-- SIGNAL (R263): Request that adds a delta to a core counter, or a pace message. -/
  | fabricSignal
  /-- ERROR (R265): Error reply that faults or reissues the request. -/
  | fabricError
  /-- REQUEST_TIMEOUT (R275): A request's timeout expires, leading to a reissue or a final fabric timeout. -/
  | requestTimeout (dst : BitVec 20) (part : Fin 16) (seq : BitVec 24)
  /-- COORDINATE_WRITE (R260): A write of OD 0x4400 assigns the module coordinate. -/
  | coordinateWrite (frame : Frame) (value : BitVec 32)
  /-- ROUTING_TABLE_WRITE (R266): A write of a routing table BLOB. -/
  | routingTableWrite (frame : Frame) (table : Bool) (bytes : List Byte)
  /-- SWAP_REQUEST (R273): A write of OD 0x4412 schedules a drain-and-swap. -/
  | swapRequest (frame : Frame) (value : Word)
  /-- SWAP_STOP (R272): At fabric time T the module stops injecting and freezes its timers. -/
  | swapStop
  /-- SWAP_APPLY (R272): At T + D held packets are discarded and the requested table becomes active. -/
  | swapApply
  /-- SWAP_RESUME (R272): At T + D + 1 us injection and timers resume. -/
  | swapResume
  /-- WINDOW_ENTRY_RELEASE (R276): A reissue-window entry is released after the hold time without arrivals. -/
  | windowEntryRelease (src : BitVec 20) (part : Fin 16)
  /-- LIMITER_INCREASE (R280): An increase interval ends and the flow's rate rises if there was no halving. -/
  | limiterIncrease (dst : BitVec 20) (part : Fin 16)
  /-- LIMITER_IDLE_RELEASE (R280): An idle limiter entry is released. -/
  | limiterIdleRelease (dst : BitVec 20) (part : Fin 16)
  /-- TIME_MESSAGE (R282): A received TIME message updates offset and path and steers fabric time. -/
  | timeMessage (link : Fin 12)
  /-- TIME_SEND (R282): Every 10 us each Active link sends TIME. -/
  | timeSend (link : Fin 12)
  /-- UP (R296): COLLECTIVE packet carrying a child's partial up the tree. -/
  | collUp (bad : Bool) (ecc : Ecc)
  /-- DOWN_PHASE (R304): COLLECTIVE DOWN packet carrying a result chunk, written and forwarded. -/
  | downPhase (ecc : Ecc)
  /-- GRANT (R302): COLLECTIVE GRANT packet raising a chunk limit and carrying fingerprints. -/
  | collGrant
  /-- COLLECTIVE_ABORT (R306): COLLECTIVE ABORT packet that ends the collective at the receiver. -/
  | collectiveAbort
  /-- CHUNK_COMBINED (R301): All contributions of a chunk are present and the node forms its partial. -/
  | chunkCombined (group : Fin 4096) (chunk : Fin 1048576) (bad : Option (Fin 8)) (ecc dest : Ecc)
  /-- COLLECTIVE_TIMEOUT (R306): The collective's timeout runs out and it ends with sub-status 0x03. -/
  | collectiveTimeout (group : Fin 4096)
  /-- GROUP_DESCRIPTOR_WRITE (R290): A group descriptor write is accepted, held or refused. -/
  | groupDescriptorWrite (frame : Frame) (group : Fin 4096) (bytes : List Byte)
  /-- VOTE (R332): EPOCH packet carrying a subtree's commit vote and count. -/
  | epochVoteMsg
  /-- ABORT_VOTE (R332): EPOCH packet carrying an abort cause to the coordinator. -/
  | abortVote
  /-- RECORD (R333): EPOCH packet asking a replica to record a decision. -/
  | epochRecord
  /-- TAKE (R335): EPOCH packet by which a successor starts a takeover. -/
  | epochTake
  /-- PROMISE (R335): EPOCH packet by which a replica answers TAKE. -/
  | epochPromise
  /-- DECIDE (R329): EPOCH packet delivering the decision down the tree. -/
  | epochDecide
  /-- QUERY (R337): EPOCH packet by which a member in doubt asks for the outcome. -/
  | epochQuery
  /-- ANSWER (R329): EPOCH packet answering a QUERY. -/
  | epochAnswer
  /-- RESTORED (R332): EPOCH packet reporting ended restores up the tree. -/
  | epochRestored
  /-- CLEAR (R329): EPOCH packet returning Fenced members to Closed. -/
  | epochClear
  /-- VOTE_TIMEOUT (R332): The coordinator's vote timer ends and it decides abort with cause 6. -/
  | voteTimeout (group : Fin 4096)
  /-- OUTCOME_TIMEOUT (R329): The outcome timer ends, sending QUERY, resending RECORD or TAKE. -/
  | outcomeTimeout (group : Fin 4096) (machine : Bool)
  /-- CLEAR_TIMEOUT (R329): The clear timeout ends and a Fenced member or Clearing coordinator moves on. -/
  | clearTimeout (group : Fin 4096) (machine : Bool)
  /-- PARTITION_CREATE (R345): Partition command 1 requests creation. -/
  | partitionCreate (frame : Frame) (part : Fin 16)
  /-- PARTITION_TEARDOWN (R365): Partition command 2 starts teardown. -/
  | partitionTeardown (frame : Frame) (part : Fin 16)
  /-- CREATION_DONE (R344): The creation steps end and the partition becomes Live or Draining. -/
  | creationDone (part : Fin 16)
  /-- DRAIN_END (R365): The in-flight count reaches 0 or 10 ms pass, and scrubbing starts. -/
  | drainEnd (part : Fin 16) (timedOut : Bool)
  /-- SCRUB_DONE (R365): Scrubbing and key destruction end and the scrub record is written. -/
  | scrubDone (part : Fin 16) (bad : List (Fin 288 × Fin 32))
  /-- PEER_ADMISSION_WRITE (R349): A write of the peer admission element. -/
  | peerAdmissionWrite (frame : Frame) (part : Fin 16) (value : BitVec 32)
  /-- FABRIC_WINDOW_WRITE (R350): A write of a fabric window element. -/
  | fabricWindowWrite (frame : Frame) (part : Fin 16) (win : Fin 64) (data : List Byte)
  /-- CREATE_JOB_SECRET (R358): A key selector written at the key root makes Onyx draw a job secret. -/
  | createJobSecret (frame : Frame) (sel : BitVec 8)
  /-- MAKE_OFFER (R358): A member's Onyx makes an ephemeral key pair and an offer. -/
  | makeOffer (frame : Frame) (sel : BitVec 8)
  /-- GRANT_REQUEST (R358): The key root checks an offer and wraps the secret into a grant. -/
  | grantRequest (frame : Frame) (data : List Byte)
  /-- INSTALL_GRANT (R358): A member checks and installs a grant. -/
  | installGrant (frame : Frame) (data : List Byte)
  /-- DESTROY_JOB_SECRET (R358): A job secret and its flow keys are destroyed. -/
  | destroyJobSecret (frame : Frame) (sel : BitVec 8)
  /-- UNSEAL_REQUEST (R363): Onyx checks and decrypts a weight envelope into partition memory. -/
  | unsealRequest (frame : Frame) (data : List Byte)
  /-- TAMPER (R367): A tamper trigger clears the key store and sends the module to Red. -/
  | tamper (cause : Fin 4)
  /-- GET_VERSION (R353): SPDM request answered with the supported versions. -/
  | getVersion (fn : Fin 17)
  /-- GET_CAPABILITIES (R353): SPDM capability request. -/
  | getCapabilities (fn : Fin 17) (ver : BitVec 8)
  /-- NEGOTIATE_ALGORITHMS (R353): SPDM algorithm negotiation. -/
  | negotiateAlgorithms (fn : Fin 17) (offered : Algorithms)
  /-- GET_DIGESTS (R353): SPDM certificate digest request. -/
  | getDigests (fn : Fin 17)
  /-- GET_CERTIFICATE (R353): SPDM request for the slot 0 certificate chain. -/
  | getCertificate (fn : Fin 17) (slot : BitVec 8) (off : BitVec 16) (len : BitVec 16)
  /-- CHALLENGE (R353): SPDM challenge-response authentication. -/
  | challenge (fn : Fin 17) (slot : BitVec 8) (nonce : BitVec 256)
  /-- GET_MEASUREMENTS (R354): SPDM request for measurement blocks. -/
  | getMeasurements (fn : Fin 17) (index : BitVec 8) (nonce : BitVec 256)
  /-- KEY_EXCHANGE (R353): SPDM request that starts a secured session. -/
  | keyExchange (fn : Fin 17) (slot : BitVec 8) (half : BitVec 16)
  /-- FINISH (R353): SPDM request that completes session establishment. -/
  | finish (fn : Fin 17) (session : BitVec 32) (verified : Bool)
  /-- HEARTBEAT (R353): SPDM session heartbeat. -/
  | heartbeat (fn : Fin 17) (session : BitVec 32)
  /-- KEY_UPDATE (R353): SPDM session key update. -/
  | keyUpdate (fn : Fin 17) (session : BitVec 32)
  /-- END_SESSION (R356): SPDM request that ends a session and destroys its keys. -/
  | endSession (fn : Fin 17) (session : BitVec 32)
  /-- IDE_KEY_GET (R357): Vendor-defined request returning an IDE stream key in a secured session. -/
  | ideKeyGet (session : BitVec 32) (stream : Fin 17) (dir : Bool) (subStream : Fin 3)
  /-- SET_POLICY (R368): Vendor-defined request setting the owner's trace opt-in. -/
  | setPolicy (fn : Fin 17) (session : BitVec 32) (policy : BitVec 32)
  /-- KEY_PROG (R357): IDE_KM request that programs a stream key, checked against the generated key. -/
  | keyProg (session : BitVec 32) (stream : Fin 17) (dir : Bool) (subStream : Fin 3) (key : BitVec 256)
  /-- K_SET_GO (R356): IDE_KM request that activates stream keys. -/
  | kSetGo (session : BitVec 32) (stream : Fin 17) (dir : Bool) (subStream : Fin 3)
  /-- K_SET_STOP (R356): IDE_KM request that destroys stream keys. -/
  | kSetStop (session : BitVec 32) (stream : Fin 17) (dir : Bool) (subStream : Fin 3)
  /-- LOCK_INTERFACE_REQUEST (R355): TDISP request moving a TDI to CONFIG_LOCKED. -/
  | lockInterfaceRequest (part : Fin 16) (session : BitVec 32)
  /-- START_INTERFACE_REQUEST (R355): TDISP request moving a TDI to RUN. -/
  | startInterfaceRequest (part : Fin 16) (session : BitVec 32) (nonce : BitVec 256)
  /-- STOP_INTERFACE_REQUEST (R355): TDISP request that tears down and re-creates the partition. -/
  | stopInterfaceRequest (part : Fin 16) (session : BitVec 32)
  /-- GET_DEVICE_INTERFACE_REPORT (R355): TDISP request returning BAR ranges and measurement block 7. -/
  | getDeviceInterfaceReport (part : Fin 16) (session : BitVec 32)
  /-- IDE_INTEGRITY_FAILURE (R355): An IDE integrity failure moves the TDI to ERROR. -/
  | ideIntegrityFailure (fn : Fin 17)
  /-- PROGRESS_WATCHDOG_FIRE (R373): A core's watchdog fires, raising fault 0x01 and a core reset with replay. -/
  | progressWatchdogFire (core : Fin 288)
  /-- STALL_TIMER_EXPIRY (R374): A queue's stall timer reaches its interval and raises fault 0x02. -/
  | stallTimerExpiry (queue : Fin 1024)
  /-- PLL_LOSS_OF_LOCK (R371): An island's PLL loses lock, raising a clocking fault and a reset. -/
  | pllLossOfLock (island : Fin 372)
  /-- CONTROL_STATE_ERROR (R371): An uncorrectable control-store error raises fault 0x05 and a reset. -/
  | controlStateError (cluster : Option (Fin 24))
  /-- SLATE_SILENCE (R371): The standby finds the active Slate controller silent for 20 ms and takes over. -/
  | slateSilence
  /-- RESET_CORE (R376): Reset request scope 1: native core reset. -/
  | resetCore (frame : Frame) (target : BitVec 28)
  /-- RESET_CLUSTER (R376): Reset request scope 2: native cluster reset. -/
  | resetCluster (frame : Frame) (target : BitVec 28)
  /-- RESET_COMPUTE_PART (R380): Reset request scope 3: compute-part reset. -/
  | resetComputePart (frame : Frame) (target : BitVec 28)
  /-- RESET_WHOLE_MODULE (R376): Reset request scope 4: whole-module reset. -/
  | resetWholeModule (frame : Frame) (target : BitVec 28)
  /-- LEGACY_CORE (R389): Reset request scope 5: legacy core step. -/
  | legacyCore (frame : Frame) (target : BitVec 28)
  /-- LEGACY_CLUSTER (R389): Reset request scope 6: legacy cluster step. -/
  | legacyCluster (frame : Frame) (target : BitVec 28)
  /-- LEGACY_PARTITION (R389): Reset request scope 7: legacy partition step. -/
  | legacyPartition (frame : Frame) (target : BitVec 28)
  /-- LEGACY_WHOLE_MODULE (R389): Reset request scope 8: legacy whole-module step. -/
  | legacyWholeModule (frame : Frame) (target : BitVec 28)
  /-- RESET_RELEASE (R376): A reset ends and its domain takes work again. -/
  | resetRelease (scope : Fin 9) (target : Fin 512) (spareBad : BitVec 16)
  /-- RESET_OVERRUN (R376): A native reset passes its max bound and the next larger scope takes over. -/
  | resetOverrun (scope : Fin 5) (target : Fin 512)
  /-- FENCE_END (R383): A fence ends when nothing is outstanding or the drain limit passes. -/
  | fenceEnd (isCluster : Bool) (num : Fin 288) (timedOut : Bool)
  /-- CROSSING_SEAL (R56): Reset phases that disagree for 8 cycles seal the crossing. -/
  | crossingSeal (cluster : Fin 24) (bit : Fin 20)
  /-- REPLAY_START (R385): A suspect context is relaunched in replay mode. -/
  | replayStart (core : Fin 288)
  /-- REPLAY_END (R387): A replay ends by END, fault, limit or watchdog, giving a verdict. -/
  | replayEnd (core : Fin 288) (how : ReplayEnd)
  /-- PRECHARGE_MATE (R396): The precharge pin mates and the bulk capacitance charges. -/
  | prechargeMate (input : Fin 72001)
  /-- PRSNT_MATE (R396): The presence pin mates or breaks. -/
  | prsntMate (mated : Bool)
  /-- MAIN_BLADES_MATE (R398): The 60 V blades mate and SLOT_ID is latched. -/
  | mainBladesMate (input : Fin 72001) (straps : BitVec 6)
  /-- MAIN_SWITCH_CLOSE (R396): The main switch closes once its conditions hold, and power-up begins. -/
  | mainSwitchClose
  /-- INPUT_OUT_OF_RANGE (R452): The input leaves 50-64 V or presence is lost, opening the main switch. -/
  | inputOutOfRange (input : Int) (precharge : Bool)
  /-- HOLDUP_END (R452): The hold-up ends and the rails leave regulation. -/
  | holdupEnd
  /-- PWR_GOOD (R400): The rails come up and PWR_GOOD is asserted. -/
  | pwrGood
  /-- SLATE_BOOT_DONE (R400): Both Slate controllers have booted and the active one is chosen. -/
  | slateBootDone (aCur : Bool) (aLast : Bool) (bCur : Bool) (bLast : Bool)
  /-- ONYX_REGENERATION_DONE (R351): Onyx regenerates its key pairs and checks them against the certificate. -/
  | onyxRegenerationDone (ok : Bool)
  /-- MEMORY_TRAINING_DONE (R400): A memory controller has trained its stack interface. -/
  | memoryTrainingDone (stack : Fin 16) (failing : BitVec 64)
  /-- HBM_TEST_DONE (R401): The HBM test of a stack ends, marking rows and pairs. -/
  | hbmTestDone (stack : Fin 16) (rows : List (Fin 50331648))
  /-- GREY_EXIT (R405): Bring-up completes and the module enters White, Green or Amber. -/
  | greyExit
  /-- MOD_RESET (R455): MOD_RESET# low for 10 us starts and holds a whole-module reset. -/
  | modReset
  /-- MOD_RESET_RELEASE (R455): Release of MOD_RESET# lets the whole-module reset proceed. -/
  | modResetRelease
  /-- REMOVE_REQ (R456): REMOVE_REQ# held low for 1 ms acts as the Remove command. -/
  | removeReq
  /-- REMOVE (R409): Service command 1 starts a requested removal. -/
  | removeCmd (frame : Frame)
  /-- RETURN_TO_SERVICE (R408): Service command 2 returns a Black module to Grey by a whole-module reset. -/
  | returnToService (frame : Frame)
  /-- FABRIC_RELEASE (R410): The fabric release lets the removing module take its links down. -/
  | fabricRelease (frame : Frame) (value : Bool)
  /-- REMOVAL_TIMEOUT (R410): The removal timeout runs out and the module proceeds to take its links down. -/
  | removalTimeout
  /-- REMOVAL_TEARDOWNS_DONE (R409): All partitions are torn down and the removal awaits release. -/
  | removalTeardownsDone
  /-- REMOVAL_LINKS_DOWN (R409): Outbound queues empty or 1 ms pass, and the links send DOWN and go to Disabled before Black. -/
  | removalLinksDown
  /-- DEFECT_MARK_WRITE (R404): A write of core defect marks, staged to the next cluster reset. -/
  | defectMarkWrite (frame : Frame) (cluster : Fin 24) (value : BitVec 32)
  /-- ROW_REMAP_LIST_WRITE (R414): A write replaces the row remap list. -/
  | rowRemapListWrite (frame : Frame) (bytes : List Byte)
  /-- FAILING_PAIRS_WRITE (R414): A write of failing pairs triggers a spare-pair assignment. -/
  | failingPairsWrite (frame : Frame) (stack : Fin 16) (value : BitVec 32)
  /-- POWER_GRANT_WRITE (R417): A write of the power grant. -/
  | powerGrantWrite (frame : Frame) (value : BitVec 16)
  /-- POWER_METER_SAMPLE (R419): A meter sample updates averages and drives the peak limiter and grant gating. -/
  | powerMeterSample (millivolts : Nat) (milliamps : Nat) (idle : Nat) (run : Nat)
  /-- DROOP_STRETCH (R422): A supply below threshold stretches a cycle and may widen the guard band. -/
  | droopStretch (island : Fin 372)
  /-- GUARD_BAND_NARROW (R422): 10 s without a stretch narrows the guard band by one level. -/
  | guardBandNarrow
  /-- CEILING_RECOMPUTE (R423): Every 100 us the ceiling is recomputed and reported if lowered. -/
  | ceilingRecompute
  /-- PACE_TICK (R428): At a pace tick the member switches frequency over EV08. -/
  | paceTick
  /-- REPORT (R427): Pace REPORT carrying a subtree's lowest ceiling toward the leader. -/
  | paceReport
  /-- SET (R427): Pace SET carrying the group frequency and tick, forwarded to children. -/
  | paceSet
  /-- RAISE_HOLD_EXPIRY (R427): M stays above F for the hold time and the leader raises F. -/
  | raiseHoldExpiry
  /-- REPORT_REFRESH (R427): The refresh interval expires and a member sends REPORT again. -/
  | reportRefresh
  /-- ENERGY_ATTRIBUTION (R432): Every 10 us input energy is attributed to partitions. -/
  | energyAttribution (m : EnergyMeter)
  /-- THERMAL_SAMPLE (R433): Every 10 ms the sensors are read, estimated and checked. -/
  | thermalSample (readings : List Int) (predicted : List Int)
  /-- SENSOR_FAILED (R436): A sensor suspect for 2 s is declared failed. -/
  | sensorFailed (sensor : Fin 196)
  /-- LOW_FLOW (R438): A flow estimate below threshold for 5 s raises an event. -/
  | lowFlow
  /-- LEAK_MEASUREMENT (R440): Every 10 ms the leak loop is measured and classed. -/
  | leakMeasurement (ohms : Nat)
  /-- LEAK_SELF_TEST (R439): Every 10 s the loop measures its references. -/
  | leakSelfTest (low : Nat) (high : Nat)
  /-- SAFETY_CAUSE_STORE (R442): The active Slate controller stores the latched cause. -/
  | safetyCauseStore
  /-- SAFETY_SWITCH_OPEN (R442): The main switch opens after the cause is stored or 100 ms pass. -/
  | safetySwitchOpen
  /-- DIE_COMPARATOR_TRIP (R435): A die at 120 C gates its islands and starts the safety power-off. -/
  | dieComparatorTrip (die : Fin 4)
  /-- MANAGER_ABSENCE_EXPIRY (R445): The manager-absence timer reaches its limit and sets AC.MGR. -/
  | managerAbsenceExpiry
  /-- TELEMETRY_SAMPLE (R497): Once per second a telemetry record is buffered. -/
  | telemetrySample
  /-- OPEN (R480): Stanan request that opens a session and negotiates the version. -/
  | openSession (frame : Frame) (vmin : BitVec 8) (vmax : BitVec 8) (flags : BitVec 8) (resume : BitVec 32)
  /-- CLOSE (R482): Stanan request that ends a session. -/
  | closeSession (frame : Frame)
  /-- KEEPALIVE (R482): Stanan request that keeps a session alive. -/
  | keepalive (frame : Frame)
  /-- READ_OBJECT (R484): Stanan READ of an object or whole array. -/
  | readObject (frame : Frame) (index : BitVec 16) (sub : BitVec 8) (all : Bool)
  /-- WRITE_OBJECT (R485): Stanan WRITE of an object without a row of its own, decided by change class. -/
  | writeObject (frame : Frame) (index : BitVec 16) (sub : BitVec 8) (all : Bool) (bytes : List Byte)
  /-- SEG_READ_INIT (R489): Stanan request that opens a segmented read and snapshots the value. -/
  | segReadInit (frame : Frame) (index : BitVec 16) (sub : BitVec 8) (all : Bool)
  /-- SEG_READ_DATA (R488): Stanan request that returns one segment. -/
  | segReadData (frame : Frame) (seg : BitVec 16)
  /-- SEG_WRITE_INIT (R489): Stanan request that opens a segmented write. -/
  | segWriteInit (frame : Frame) (index : BitVec 16) (sub : BitVec 8) (all : Bool) (total : BitVec 32)
  /-- SEG_WRITE_DATA (R489): Stanan request that carries one segment; the last decides the write. -/
  | segWriteData (frame : Frame) (seg : BitVec 16) (bytes : List Byte)
  /-- SEG_ABORT (R489): Stanan request that ends a transfer with nothing applied. -/
  | segAbort (frame : Frame)
  /-- EVENT_ACK (R491): Stanan request that acknowledges events. -/
  | eventAck (frame : Frame) (seq : BitVec 32)
  /-- DISCOVER (R476): Stanan request, which on the broadcast address is answered later by ANNOUNCE. -/
  | discover (src dst : BitVec 48) (sound : Bool) (formed : Bool)
  /-- ANNOUNCE (R476): The module broadcasts or sends ANNOUNCE on its schedule. -/
  | announce
  /-- EVENT_RESEND (R491): An event unacknowledged for 500 ms is sent again. -/
  | eventResend (session : BitVec 16) (seq : BitVec 32)
  /-- SESSION_TIMEOUT (R482): A session silent for the session timeout ends. -/
  | sessionTimeout (session : BitVec 16)
  /-- SEGMENT_IDLE_TIMEOUT (R489): A transfer idle for 5 s ends with nothing applied. -/
  | segmentIdleTimeout (session : BitVec 16)
  /-- BEACON (R475): A PLCA beacon resumes transmit opportunities and applies pending PLCA settings. -/
  | beacon
  /-- BEACON_TIMEOUT (R475): No beacon for 4 ms moves the module to CSMA/CD. -/
  | beaconTimeout
  /-- REQ_TAIL_WRITE (R496): The driver publishes mailbox requests. -/
  | reqTailWrite (value : BitVec 16)
  /-- RSP_HEAD_WRITE (R496): The driver frees mailbox response slots. -/
  | rspHeadWrite (value : BitVec 16)
  /-- FIRMWARE_IMAGE_PART (R527): A part of a firmware image written to OD 0xB003. -/
  | firmwareImagePart (frame : Frame) (bytes : List Byte)
  /-- LOADING_DONE (R529): The new controller runs the image with its mirror synchronised, or the load fails. -/
  | loadingDone (ok : Bool)
  /-- HAND_OVER (R531): Update command 1 starts a handover to the new controller. -/
  | handOver (frame : Frame)
  /-- HANDOVER_DONE (R531): The standby confirms and takes the doors; the update enters Trial. -/
  | handoverDone
  /-- HANDOVER_CONFIRM_TIMEOUT (R529): The new controller does not confirm within 1 ms and the update returns to Loaded. -/
  | handoverConfirmTimeout
  /-- COMPLETE (R529): Update command 2 loads the image into the former active controller. -/
  | fwComplete (frame : Frame)
  /-- COMPLETING_DONE (R529): The other controller runs the image and fuses advance. -/
  | completingDone
  /-- REVERT (R529): Update command 3 hands back and restores the last image. -/
  | fwRevert (frame : Frame)
  /-- REVERTING_DONE (R529): The new controller runs its last image as standby; Idle. -/
  | revertingDone
  /-- CANCEL (R529): Update command 4 discards the partial or loaded image. -/
  | fwCancel (frame : Frame)
  /-- FUSE_STEP (R526): One anti-rollback fuse step is blown per ms. -/
  | fuseStep
  /-- LICENCE_WRITE (R539): A licence written to OD 0x6450 is verified and persisted as pending. -/
  | licenceWrite (frame : Frame) (bytes : List Byte)
  /-- TRACE_RECORD (R543): The sink accepts a Lilac record, numbers it and delivers it to rings and port. -/
  | traceRecord (full : Bool)
  /-- TRACE_FRAME (R548): The trace port sends a frame on alternate lanes. -/
  | traceFrame
  /-- SNAPSHOT_LATCH (R552): At t_s every counter site of the group latches its value. -/
  | snapshotLatch (session : BitVec 16)
  /-- SWAP_DESKEW_DONE (R252): The receiving end has deskewed on the new lane map after a swap or narrowing, checks the generation and sends SWAP_ACK or HALF_ACK. -/
  | swapDeskewDone (link : Fin 12) (gen : Fin 16)
  /-- ALIGNMENT_LOST (R245): An Active receiver loses codeword lock or alignment, enters resync, and goes Down when this happens three times within 1 ms. -/
  | alignmentLost (link : Fin 12)
  /-- SEPIA_INTERNAL_CHECK_FAILURE (R197): A Sepia engine's per-cycle internal check fails, raising fault 0x06 at once and putting the engine in bypass. -/
  | sepiaInternalCheckFailure (stack : Fin 16)
  /-- ONYX_OPERATION_DONE (R358): Onyx completes a job-secret, offer, grant, install or unseal operation and reports it over EV11, ending the busy state and publishing the offer, grant or unseal status. -/
  | onyxOperationDone (unsealing : Bool)
  /-- HOST_LINK_TRAINED (R205): The host link trains up after PERST# is released, the cable is connected or the link retrains, updating OD 0x9002 and applying the staged rate limit. -/
  | hostLinkTrained (rate : Fin 7) (width : Fin 17)
  /-- INPUT_RETURN (R454): 60 V returns on a seated module after a loss of input, powering the housekeeping logic and latching SLOT_ID again. -/
  | inputReturn (input : Fin 72001) (straps : BitVec 6)
  /-- TCK_CYCLE (R466): A TCK edge advances each die's TAP controller under TMS, shifting the instruction, IDCODE, boundary or bypass registers. -/
  | tckCycle (tms : Bool) (tdi : Bool) (removeReq : Bool) (perst : Bool)
  /-- TRST_ASSERT (R465): TRST# driven low resets every TAP controller to Test-Logic-Reset with IDCODE selected. -/
  | trstAssert
  /-- VERIFICATION_DONE (R529): Verification of a received firmware image ends, and the update enters Loading or an end state from 16 to 20. -/
  | verificationDone
  /-- CANCELLING_DONE (R529): The new controller has restored its last slot and restarted, and the update moves from Cancelling to Idle. -/
  | cancellingDone
  deriving DecidableEq, Repr

end Sys2Proof
end

