-- ==== Sys2Proof/Decode.lean ====
section
/-! DEFINITION. The commands that words spell. No row of the table of operations and events gives bits: a command is an operation or
an event, with the values it brings, and not a word. -/
namespace Sys2Proof

/-- The command that a word of `nbits` bits spells: none, for any word. -/
def decodeTableWord (_nbits _w : Nat) : Option Instr := none

end Sys2Proof
end

