-- ==== Sys2Proof/Config.lean ====
section
/-! DEFINITION. What the manual leaves open: the free values (constants with no body, so that no proof can see
what they are) and the values of secret or outside computations. -/
namespace Sys2Proof.Config

/-- A free value: the `n`-th value the module takes where the manual states none (log entry 4). -/
opaque freeBits : Nat → Nat

/-- Which of the binary32 results within the error that R140 allows VFUNC delivers, counted from the least: selector, input lane (log
entry 5). -/
opaque vfuncPick : Nat → Lane → Nat

/-- The 32 check bits of a 32-byte word, 8 for each granule: the manual names the kind of code and not the code (R162; log entry 158). -/
opaque checkBits : Nat → Nat

/-- Whether the copy of the local time base that a core's TIME reads has not yet taken the latest multiple of 40 ns, by core and local
time, where R116 lets it be either (log entry 44). -/
opaque timeLags : Nat → Nat → Bool

/-- The level at `REMOVE_REQ#` at a local time at which no command shows it: the commands say when it has been low for 1 ms, and not when it
rises again (R456, R473; log entry 42). -/
opaque removeReqLevel : Nat → Bool

/-- The level at `PERST#` at a local time after a command has shown it low and before one shows it high (R462, R468; log entry 42). -/
opaque perstLevel : Nat → Bool

/-- The seed that a loopback pattern has on a lane: derived from the lane's number, the manual does not say how (R256; log entry 165). -/
opaque loopSeed : Nat → Nat

/-- The pattern that the HBM test derives from an address and leaves there: the manual does not give it (R401; log entry 76). -/
opaque hbmPattern : Nat → Byte

/-- What the management ring's slots read as, by local time and byte, while a partition's region overlaps the ring: the manual states no
bytes, and R347 shuts out those of memory (R546; log entry 177). -/
opaque ringHidden : Nat → Nat → Byte

/-- How many replies that wait for injection an endpoint's reply store holds in Escape mode, less one: the manual gives no size (R271; log
entry 166). -/
opaque replyStore : Nat

/-- Whether a settings format holds a persisted object, and whether its range takes a value of it: the manual leaves the formats open (R536;
log entry 85). -/
opaque formatHolds : Nat → Nat → Bool
opaque formatTakes : Nat → Nat → Nat → Bool

/-! ### Onyx (log entry 3)

The mathematics of the curves and lattices of R352, on keys that no one else has: nothing in the model says what these functions answer. How
they compose is the model's (`Crypto`, `Security`). -/

/-- The private halves that Onyx regenerates (the identity pair, the agreement pair) and that of the SPDM leaf (R351, R353). -/
opaque identityKey : Nat
opaque agreementKey : Nat
opaque leafKey : Nat
/-- The certificate chain of OD 0x6402, the identity certificate that offers and grants carry, and the leaf's certificate (R351, R353, R358). -/
opaque certChain : List Byte
opaque identityCert : List Byte
opaque leafCert : List Byte
/-- ECDH and ECDSA P-384: the public point of a private half, whether bytes are a point, the secret shared with a point, the signature of a
digest, and whether one verifies under a point. -/
opaque p384Public : Nat → List Byte
opaque p384Point : List Byte → Bool
opaque ecdhShared : Nat → List Byte → List Byte
opaque ecdsaSign : Nat → List Byte → List Byte
opaque ecdsaVerifies : List Byte → List Byte → List Byte → Bool
/-- ML-DSA-65: the same for its public key. -/
opaque mldsaPublic : Nat → List Byte
opaque mldsaSign : Nat → List Byte → List Byte
opaque mldsaVerifies : List Byte → List Byte → List Byte → Bool
/-- ML-KEM-768: the encapsulation key of a private half, whether bytes are one, the ciphertext and the secret of an encapsulation with given
randomness, and the secret of a decapsulation. -/
opaque mlkemPublic : Nat → List Byte
opaque mlkemKey : List Byte → Bool
opaque mlkemEncaps : List Byte → Nat → List Byte × List Byte
opaque mlkemDecaps : Nat → List Byte → List Byte
/-- Whether a certificate chains to the Dalzewin root with a usage (0 identity, 1 firmware signing, 2 licence signing), and the P-384 and
ML-DSA-65 public keys that it binds (R358, R525, R537). -/
opaque certTrusted : Nat → List Byte → Bool
opaque certKeys : List Byte → List Byte × List Byte
/-- The address that the host has given a BAR of a function, by function and BAR: no command shows it (R208, R355; log entry 183). -/
opaque barBase : Nat → Nat → Nat
/-- What measurement blocks 1, 2 and 3 digest: the Onyx ROM and firmware, the active Slate image's and the Sepia component, by the image they come from
(R354). -/
opaque onyxComponent : List Byte → List Byte
opaque slateComponent : List Byte → List Byte
opaque sepiaComponent : List Byte → List Byte

end Sys2Proof.Config
end

