-- ==== Sys2Proof/Machine/Tab.lean ====
section
/-! DEFINITION. The operations of a sparse table, and small bit and byte helpers that the whole model shares. -/
namespace Sys2Proof.Machine

/-- The value at number `k` of a table whose unlisted entries hold `d`. -/
def tget {α : Type} (d : α) : Tab α → Nat → α
  | [], _ => d
  | (k', v) :: t, k => if k = k' then v else tget d t k

/-- The value listed at number `k`, if the table lists one. -/
def tfind {α : Type} : Tab α → Nat → Option α
  | [], _ => none
  | (k', v) :: t, k => if k = k' then some v else tfind t k

/-- The table with number `k` no longer listed. -/
def tdel {α : Type} : Tab α → Nat → Tab α
  | [], _ => []
  | (k', v') :: t, k => if k = k' then tdel t k else (k', v') :: tdel t k

/-- The table with `v` listed at number `k`, in rising order. -/
def tput {α : Type} : Tab α → Nat → α → Tab α
  | [], k, v => [(k, v)]
  | (k', v') :: t, k, v =>
    if k = k' then (k, v) :: t else if k < k' then (k, v) :: (k', v') :: t else (k', v') :: tput t k v

/-- Writes `v` at number `k` of a table whose unlisted entries hold `d`: the default is never listed. -/
def tset {α : Type} [DecidableEq α] (d : α) (t : Tab α) (k : Nat) (v : α) : Tab α :=
  if v = d then tdel t k else tput t k v

/-- The numbers of a table rise strictly. -/
def tsorted {α : Type} : Tab α → Bool
  | [] => true
  | [_] => true
  | (a, _) :: (b, v) :: t => decide (a < b) && tsorted ((b, v) :: t)

/-- The canonical form of a table with default `d`: rising numbers, and no listed default. -/
def tcanon {α : Type} [DecidableEq α] (d : α) (t : Tab α) : Bool :=
  tsorted t && t.all (fun e => decide (e.2 ≠ d))

/-- Bits [hi:lo] of a number (R6). -/
def bits (hi lo n : Nat) : Nat := (n >>> lo) % 2 ^ (hi + 1 - lo)

/-- Whether bit `k` of a number is set. -/
def bit (k n : Nat) : Bool := (n >>> k) % 2 == 1

/-- The number with bit `k` set or cleared. -/
def withBit (k : Nat) (b : Bool) (n : Nat) : Nat :=
  if b then (if bit k n then n else n + 2 ^ k) else (if bit k n then n - 2 ^ k else n)

/-- The number of bits set among bits 0 to `k` - 1. -/
def popCount : Nat → Nat → Nat
  | 0, _ => 0
  | k + 1, n => popCount k n + (if bit k n then 1 else 0)

/-- The numbers below `k` whose bit is set, rising. -/
def bitList (k n : Nat) : List Nat := (List.range k).filter (fun i => bit i n)

/-- `n` as `k` bytes, little-endian (R6). -/
def leBytes : Nat → Nat → List Byte
  | 0, _ => []
  | k + 1, n => BitVec.ofNat 8 n :: leBytes k (n / 256)

/-- The number that little-endian bytes hold (R6). -/
def leNat : List Byte → Nat
  | [] => 0
  | b :: bs => b.toNat + 256 * leNat bs

/-- The bytes from position `i`, `k` of them. -/
def slice (bs : List Byte) (i k : Nat) : List Byte := (bs.drop i).take k

/-- The little-endian number in bytes `i` to `i + k - 1`. -/
def fieldAt (bs : List Byte) (i k : Nat) : Nat := leNat (slice bs i k)

/-- A two's complement reading of the low `w` bits of `n`. -/
def toSigned (w n : Nat) : Int :=
  let m := n % 2 ^ w
  if m < 2 ^ (w - 1) then (m : Int) else (m : Int) - (2 ^ w : Nat)

/-- The `w`-bit two's complement code of an integer. -/
def ofSigned (w : Nat) (z : Int) : Nat := (z % ((2 ^ w : Nat) : Int)).toNat

/-- The `w`-bit code of bit list. -/
def b2n (b : Bool) : Nat := if b then 1 else 0

/-- The first element of a list that meets a test, replaced by a function of it. -/
def updFirst {α : Type} (p : α → Bool) (f : α → α) : List α → List α
  | [] => []
  | x :: xs => if p x then f x :: xs else x :: updFirst p f xs

/-- Every element of a list that meets a test, replaced by a function of it. -/
def updAll {α : Type} (p : α → Bool) (f : α → α) (xs : List α) : List α :=
  xs.map (fun x => if p x then f x else x)

/-- A list with the element at position `i` replaced; a position beyond the end changes nothing. -/
def setAt {α : Type} : List α → Nat → α → List α
  | [], _, _ => []
  | _ :: xs, 0, v => v :: xs
  | x :: xs, i + 1, v => x :: setAt xs i v

/-- The element at position `i`, or `d`. -/
def getAt {α : Type} (d : α) : List α → Nat → α
  | [], _ => d
  | x :: _, 0 => x
  | _ :: xs, i + 1 => getAt d xs i

/-- The bytes padded with zeros or cut to `k`. -/
def padTo (k : Nat) (bs : List Byte) : List Byte := (bs ++ List.replicate (k - bs.length) 0).take k

end Sys2Proof.Machine
end

