-- ==== Sys2Proof/Machine/Fec.lean ====
section
/-! DEFINITION. Forward error correction on a link: RS(544,514) over GF(2^10), pairs of codewords, and their symbols on lanes (R236 to
R238). -/
namespace Sys2Proof.Machine

/-! ### GF(2^10), modulo x^10 + x^3 + 1 (IEEE 802.3 clause 91, R236) -/

def gfMul (a b : Nat) : Nat :=
  let p := (List.range 10).foldl (fun r i => if bit i b then r ^^^ a <<< i else r) 0
  (List.range 9).foldl (fun r i => if bit (18 - i) r then r ^^^ 0x409 <<< (8 - i) else r) p

/-- The inverse of a non-zero element: its power 2^10 - 2. -/
def gfInv (a : Nat) : Nat :=
  ((List.range 9).foldl (fun (r : Nat × Nat) _ => let q := gfMul r.2 r.2; (gfMul r.1 q, q)) (1, a)).1

/-- The powers of an element from 0 to `n` - 1. -/
def gfPowers (a : Nat) : Nat → List Nat
  | 0 => []
  | n + 1 => 1 :: (gfPowers a n).map (gfMul a)

/-- A polynomial, lowest coefficient first, at a point. -/
def gfEval (p : List Nat) (x : Nat) : Nat := p.foldr (fun c r => c ^^^ gfMul x r) 0

/-- The sum of two polynomials. -/
def gfAdd : List Nat → List Nat → List Nat
  | [], q => q
  | p, [] => p
  | a :: p, b :: q => (a ^^^ b) :: gfAdd p q

/-! ### The code -/

/-- The generator polynomial's coefficients from x^29 down to x^0; that of x^30 is 1. Its roots are the powers 0 to 29 of 2. -/
def rsGen : List Nat :=
  [575, 552, 187, 230, 552, 1, 108, 565, 282, 249, 593, 132, 94, 720, 495, 385, 942, 503, 883, 361, 788, 610, 193, 392,
   127, 185, 158, 128, 834, 523]

/-- The 30 parity symbols of a message, first symbol first: the remainder of the message times x^30. -/
def rsParity (m : List Nat) : List Nat :=
  m.foldl (fun r x =>
    let k := x ^^^ r.headD 0
    (r.drop 1 ++ [0]).zipWith (fun a g => a ^^^ gfMul k g) rsGen) (List.replicate 30 0)

/-- The codeword of a 514-symbol message (R236). -/
@[irreducible] def rsEncode (m : List Nat) : List Nat := m ++ rsParity m

/-- The 30 syndromes of received symbols. -/
def rsSyndromes (r : List Nat) : List Nat :=
  (gfPowers 2 30).map (fun a => r.foldl (fun s x => gfMul a s ^^^ x) 0)

/-- The state of the search for the shortest register that generates the syndromes: its polynomial and length, the one before the last
lengthening with its discrepancy, and the steps since. -/
structure Lfsr where
  c : List Nat
  l : Nat
  b : List Nat
  d : Nat
  m : Nat

/-- One step of the search, on syndrome `n`. -/
def Lfsr.step (syn : List Nat) (x : Lfsr) (n : Nat) : Lfsr :=
  let d := (List.range (min x.l n + 1)).foldl (fun r i => r ^^^ gfMul (getAt 0 x.c i) (getAt 0 syn (n - i))) 0
  if d = 0 then { x with m := x.m + 1 }
  else
    let k := gfMul d (gfInv x.d)
    let c := gfAdd x.c (List.replicate x.m 0 ++ x.b.map (gfMul k))
    if 2 * x.l ≤ n then ⟨c, n + 1 - x.l, x.c, d, 1⟩ else { x with c := c, m := x.m + 1 }

/-- The errors of received symbols, as their places from the first symbol and the values to add, where at most 15 explain the syndromes. -/
def rsErrors (r : List Nat) : List (Nat × Nat) :=
  let syn := rsSyndromes r
  let x := (List.range 30).foldl (Lfsr.step syn) ⟨[1], 0, [1], 1, 1⟩
  let loc := x.c
  let ev := ((List.range 30).map (fun n =>
    (List.range (n + 1)).foldl (fun s i => s ^^^ gfMul (getAt 0 loc i) (getAt 0 syn (n - i))) 0))
  let der := (List.range (loc.length - 1)).map (fun k => if k % 2 = 0 then getAt 0 loc (k + 1) else 0)
  ((gfPowers 2 544).mapIdx (fun i a => (i, a))).filterMap (fun e =>
    let inv := gfInv e.2
    if gfEval loc inv = 0 then some (543 - e.1, gfMul e.2 (gfMul (gfEval ev inv) (gfInv (gfEval der inv)))) else none)

/-- Symbols with errors added at places. -/
def rsFix (r : List Nat) (e : List (Nat × Nat)) : List Nat :=
  r.mapIdx (fun i x => match e.find? (fun y => y.1 == i) with
    | some y => x ^^^ y.2
    | none => x)

/-- What the decoder makes of 544 received symbols: the codeword that differs from them in at most 15 places, with those places and the
bits that differ; or nothing, for an uncorrectable one (R238). -/
@[irreducible] def rsDecode (r : List Nat) : Option (List Nat × List (Nat × Nat)) :=
  if rsParity (r.take 514) = r.drop 514 then some (r, [])
  else
    let e := rsErrors r
    let c := rsFix r e
    if e.length ≤ 15 && rsParity (c.take 514) = c.drop 514 then some (c, e) else none

/-! ### Pairs (R236) -/

/-- The 512 symbols of half the bytes of a pair, and the bytes back. The order of the bits is not stated: DESIGN CHOICE, ten bits from the
lowest of the first byte upward (log entry 165). -/
def symbolsOf (bs : List Byte) : List Nat := (List.range 512).map (fun i => bits (10 * i + 9) (10 * i) (leNat bs))
def bytesOf (l : List Nat) : List Byte := leBytes 640 (l.foldr (fun x n => x + 1024 * n) 0)

/-- The two symbols of a codeword header: the alignment code, the pair sequence, the lane-map generation. -/
def headSymbols (code seq gen : Nat) : List Nat :=
  let h := code * 2 ^ 12 + seq % 256 * 2 ^ 4 + gen % 16
  [h % 1024, h / 1024]

/-- A pair as a link sends it: its sequence number, its lane map (generation, the position on lane 8, the half; 0xF none) and its five
flits. -/
structure FlitPair where
  seq : Nat
  gen : Nat
  spare : Nat
  half : Nat
  flits : List (List Byte)
  deriving DecidableEq, Repr

/-- The codewords A and B. -/
def FlitPair.codewords (p : FlitPair) : List Nat × List Nat :=
  let bs := p.flits.flatten
  (rsEncode (headSymbols 0xA5 p.seq p.gen ++ symbolsOf (bs.take 640)),
   rsEncode (headSymbols 0x5A p.seq p.gen ++ symbolsOf (bs.drop 640)))

/-! ### Symbols on lanes (R237, R252) -/

/-- The lane positions in use, in the order in which they take symbols: 8, or the 4 of a half (DEDUCED: symbol s of a codeword goes to the
half's position s mod 4; log entry 165). -/
def positions (half : Nat) : List Nat := if half = 0xF then List.range 8 else (List.range 4).map (fun p => 4 * half + p)

/-- The lane that serves a position: its own, or lane 8 for the one replaced. -/
def laneAt (spare p : Nat) : Nat := if p = spare then 8 else p

/-- The symbols that each of the nine lanes carries of a pair: of every symbol that goes to its position, A's and then B's. -/
def spread (spare half : Nat) (ab : List Nat × List Nat) : List (List Nat) :=
  let ps := positions half
  let w := ps.length
  (List.range 9).map (fun k =>
    match ps.findIdx? (fun p => laneAt spare p == k) with
    | none => []
    | some q => (List.range (544 / w)).flatMap (fun t => [getAt 0 ab.1 (t * w + q), getAt 0 ab.2 (t * w + q)]))

/-- The codewords that nine lanes carry. -/
def gather (spare half : Nat) (lanes : List (List Nat)) : List Nat × List Nat :=
  let ps := positions half
  let w := ps.length
  let sym := fun (o s : Nat) => getAt 0 (getAt [] lanes (laneAt spare (getAt 0 ps (s % w)))) (2 * (s / w) + o)
  ((List.range 544).map (sym 0), (List.range 544).map (sym 1))

/-- What the lanes carry of a pair. -/
def FlitPair.lanes (p : FlitPair) : List (List Nat) := spread p.spare p.half p.codewords

/-- The lane that carries symbol `s` of a codeword. -/
def laneOfSymbol (spare half s : Nat) : Nat :=
  let ps := positions half
  laneAt spare (getAt 0 ps (s % ps.length))

/-- What a receiver makes of the lanes of a pair: the two codewords where they are correctable, the symbols corrected, and the bit errors
by lane (R237, R238). -/
structure PairSeen where
  a : Option (List Nat)
  b : Option (List Nat)
  corrected : Nat
  errs : List (Nat × Nat)

@[irreducible] def pairSeen (spare half : Nat) (lanes : List (List Nat)) : PairSeen :=
  let g := gather spare half lanes
  let x := rsDecode g.1
  let y := rsDecode g.2
  let fixed := ((x.map (·.2)).getD []) ++ ((y.map (·.2)).getD [])
  ⟨x.map (·.1), y.map (·.1), fixed.length, fixed.map (fun e => (laneOfSymbol spare half e.1, popCount 10 e.2))⟩

/-- The 640 bytes of flits that a codeword carries. -/
def codeBytes (c : List Nat) : List Byte := bytesOf ((c.drop 2).take 512)

end Sys2Proof.Machine
end

