-- ==== Sys2Proof/Machine/State.lean ====
section
/-! DEFINITION. The state of the module: every register, queue, table, counter, mode and pin that the spec
names, the queue of waiting commands, and the state after reset. -/
namespace Sys2Proof.Machine

/-! ### Cores, contexts and scratchpad banks (R86 to R171) -/

/-- The states of a context slot (R90). -/
inductive CtxSt where
  | empty | loading | ready | running | waiting | draining
  deriving DecidableEq, Repr

/-- What a Waiting context waits for: a counter to reach a value (R116), or a fence mask (R117). -/
inductive WaitFor where
  | nothing
  | counter (cnt : Nat) (v : Word)
  | fence (mask : Nat)
  deriving DecidableEq, Repr

/-- The descriptor that a unit of work belongs to: the module-wide queue number and the count at which the
descriptor was fetched on that queue (R217, R226). -/
structure DescRef where
  queue : Nat
  index : Nat
  deriving DecidableEq, Repr

/-- A dispatch entry of a KERNEL descriptor (R88, R89, R221). -/
structure Launch where
  desc : DescRef
  prog : Nat
  base : Nat
  len : Nat
  grant : Word
  acc0 : Bool
  acc1 : Bool
  seed : Word
  args : List Word
  part : Nat
  gen : Nat
  replay : Bool
  deriving DecidableEq, Repr

/-- One context slot: the context of R88 with its vector state (R124), fault record (R123) and numeric
status (R145). Unlisted scalar, vector and predicate registers hold 0, and an unlisted tile register is
unloaded (R89, R124). `off` is the target outside the region to which the instruction at the PC has led, with the `GRP` and `OP` of
that instruction, until it would be fetched (R98). -/
structure Ctx where
  st : CtxSt
  pc : Nat
  sreg : Tab Word
  treg : Tab (BitVec 256)
  vreg : Tab Lane
  preg : Tab Word
  launch : Launch
  wait : WaitFor
  faultCode : Nat
  faultGrp : Nat
  faultOp : Nat
  faultInfo : Nat
  bxovf : Bool
  inv : Bool
  off : Option (Nat × Nat)
  deriving DecidableEq, Repr

/-- The type tag of an accumulator set (R108). -/
inductive AccTag where
  | untyped | fp | int
  deriving DecidableEq, Repr

/-- An accumulator set: 128 rows of 96 elements, element (i, j) at number 96 i + j (R86, R107, R108). -/
structure AccSet where
  tag : AccTag
  poisoned : Bool
  elems : Tab Lane
  deriving DecidableEq, Repr

/-- A queued T-op, V-op, LDS or STS: its slot, its word and the scalar operands read at issue (R109, R129). -/
structure QOp where
  slot : Nat
  w : Word
  sa : Word
  sb : Word
  sd : Word
  data : Nat
  deriving DecidableEq, Repr

/-- Where an M-op stands: queued, in execution, or waiting for a bank's handover point (R86, R114, R156). -/
inductive MPhase where
  | queued | started | handover
  deriving DecidableEq, Repr

/-- An M-op with the register values read at issue (R110, R114), the number of fabric requests it still
awaits, and whether one of them has failed. -/
structure MOp where
  id : Nat
  slot : Nat
  w : Word
  d : Word
  d1 : Word
  s : Word
  s1 : Word
  l : Word
  phase : MPhase
  left : Nat
  err : Nat
  errInfo : Nat
  deriving DecidableEq, Repr

/-- The bank power states (R163). -/
inductive Pwr where
  | lit | dim | dark
  deriving DecidableEq, Repr


/-- A write that stands at a bank: who made it and its value (R156). -/
structure BankWrite where
  who : BankReq
  v : Word
  deriving DecidableEq, Repr

/-- A scratchpad bank: owner class and neighbour in effect, power state, the accepted write on its way to
its handover point, the writes held behind it, and its March marks (R153 to R165). -/
structure Bank where
  owner : Nat
  nbr : Nat
  pwr : Pwr
  moving : Option BankWrite
  held : List BankWrite
  failed : Bool
  deriving DecidableEq, Repr

/-- A running March test (R166 to R169): the bank under test, the algorithm (0 March C-, 1 March SS), destroying or not, whether it is
the bring-up test of the 32 banks in turn, and that test's first failing bank and row so far. -/
structure March where
  bank : Nat
  alg : Nat
  destroy : Bool
  bringup : Bool
  first : Option (Nat × Nat)
  deriving DecidableEq, Repr

/-- A logical core (R86). -/
structure Core where
  ctx : Tab Ctx
  cur : Nat
  cnt : Tab Word
  acc0 : AccSet
  acc1 : AccSet
  tq : List QOp
  tRun : Option QOp
  vq : List QOp
  vRun : Option QOp
  mops : List MOp
  nextM : Nat
  waitq : List Launch
  bank : Tab Bank
  march : Option March
  coll : Nat
  act : Tab Nat
  deriving DecidableEq, Repr

/-- The launch fields of a slot that no launch has filled. -/
def Launch.blank : Launch := ⟨⟨0, 0⟩, 0, 0, 0, 0, false, false, 0, [], 0, 0, false⟩

/-- A slot after reset (R90, R123). -/
def Ctx.blank : Ctx := ⟨.empty, 0, [], [], [], [], Launch.blank, .nothing, 0, 0, 0, 0, false, false, none⟩

def AccSet.blank : AccSet := ⟨.untyped, false, []⟩

/-- A bank after reset: owner Core and Lit (R154, R158). -/
def Bank.blank : Bank := ⟨0, 0, .lit, none, [], false⟩

/-- A core after reset (R90, R93). -/
def Core.blank : Core :=
  ⟨[], 3, [], AccSet.blank, AccSet.blank, [], none, [], none, [], 0, [], [], none, 0, []⟩

/-! ### The object dictionary (R15 to R19, R499 to R508) -/

/-- A dictionary value: a number in the encoding of its type, or bytes (BLOB, STR32). -/
inductive OdVal where
  | num (n : Nat)
  | blob (bs : List Byte)
  deriving DecidableEq, Repr

/-- The dictionary's held values. The number of an element is index times 256 plus subindex. `app` lists the
values in force that differ from their defaults, and `acc` the values accepted and not yet applied (R17 to R19).
Objects that report a state machine are views of that machine and are held by it. -/
structure Od where
  app : Tab OdVal
  acc : Tab OdVal
  deriving DecidableEq, Repr

/-! ### Clock islands and crossings (R39 to R59) -/

/-- One observable event crossing (R46): busy, pending. -/
structure Xing where
  busy : Bool
  pending : Bool
  deriving DecidableEq, Repr

/-- Clocks and crossings: the local time base in ns (R43), the ns since power was applied (the model's own count, for
intervals that outlast a whole-module reset), fabric time and whether it is locked (R281 to R284),
the core clock in MHz (R39), the event crossings
EV01 to EV13 by number times 65,536 plus instance (R46, R51), the reset phases of the endpoints of sealable
crossings, by endpoint number (R56). -/
structure Clk where
  localTime : Nat
  uptime : Nat
  fabricTime : Nat
  fabricLocked : Bool
  coreMHz : Nat
  xing : Tab Xing
  phase : Tab Bool
  deriving DecidableEq, Repr

/-! ### Management: sessions, events, telemetry, mailbox (R474 to R498) -/

/-- An event in the buffer (R490, R491), with the local time at which it was raised. -/
structure Event where
  seq : Nat
  code : Nat
  index : Nat
  sub : Nat
  time : Nat
  detail : Nat
  at_ : Nat
  deriving DecidableEq, Repr

/-- An open segmented transfer (R488, R489): read or write, the object, the whole length, the value snapshot
of a read or the received segments of a write, whether the snapshot of OD 0xA002 has been latched (R552), and the local time of its last request. -/
structure Xfer where
  write : Bool
  index : Nat
  sub : Nat
  all : Bool
  total : Nat
  value : List Byte
  segs : Tab (List Byte)
  latched : Bool
  at_ : Nat
  deriving DecidableEq, Repr

/-- A Stanan request's type and body (R478, R480, R484, R488, R491). -/
inductive SReq where
  | open_ (vmin vmax flags resume : Nat)
  | close
  | keepalive
  | read (index sub : Nat) (all : Bool)
  | write (index sub : Nat) (all : Bool) (bs : List Byte)
  /-- A whole value of a command that has a row of its own, in one WRITE or, when longer, in segments. -/
  | put (index sub : Nat) (bs : List Byte)
  | segReadInit (index sub : Nat) (all : Bool)
  | segReadData (seg : Nat)
  | segWriteInit (index sub : Nat) (all : Bool) (total : Nat)
  | segWriteData (seg : Nat) (bs : List Byte)
  | segAbort
  | eventAck (seq : Nat)
  /-- A message of no client type, or whose body is too short for the fields of its type. -/
  | bad (typ : Nat)
  deriving DecidableEq, Repr

/-- A session (R480 to R483, R491, R552). `slot` is its element of OD 0x1111. `acked` and `sent` are the
highest event acknowledged and sent. `top` is the highest request number executed, none while `fresh`; `heard` the local time of the last message, with the
timeout in force. `store` keeps the last 8 responses, and `early` the requests
that wait for their turn (R483). -/
structure Session where
  id : Nat
  slot : Nat
  door : Door
  src : Nat
  ver : Nat
  flags : Nat
  acked : Nat
  sent : Nat
  top : Nat
  fresh : Bool
  heard : Nat
  timeout : Nat
  store : List (Nat × List Byte)
  xfer : Option Xfer
  early : List (Frame × SReq)
  snapGroup : Nat
  deriving DecidableEq, Repr

/-- The BAR 0 mailbox (R495, R496): the four indices, the request and response slot bytes, held messages. -/
structure Mbx where
  reqTail : Nat
  reqHead : Nat
  rspTail : Nat
  rspHead : Nat
  reqSlots : Tab Byte
  rspSlots : Tab (List Byte)
  held : List (List Byte)
  deriving DecidableEq, Repr

/-- A telemetry record (R497). -/
structure Telem where
  time : Nat
  power : Nat
  limit : Nat
  zones : List Int
  deriving DecidableEq, Repr

/-- The management agent (R474 to R498). `plcaId` and `plcaSeen` are the node ID in use and whether beacons are
seen; `lastIds` the 64 session IDs allocated most recently; `absence` the local
time since which the manager-absence timer runs; `held` the requests that a handover holds, and `discovers` the DISCOVERs to be answered (R476, R487). -/
structure Mgmt where
  sessions : List Session
  lastIds : List Nat
  events : List Event
  nextEvent : Nat
  telem : List Telem
  mbx : Mbx
  plcaId : Nat
  plcaSeen : Bool
  plcaTimer : Nat
  plcaBurst : Nat
  absence : Option Nat
  held : List (Frame × SReq)
  discovers : List Nat
  deriving DecidableEq, Repr

/-! ### Trace (R541 to R549) -/

/-- A Lilac record (R541) before the sink numbers it: time, kind, code, source, address, data, partition if
valid, whether fabric time was unlocked, and whether observers outside the partition see no address and data (R368). -/
structure Lilac where
  time : Nat
  kind : Nat
  code : Nat
  src : Nat
  addr : Nat
  data : Nat
  part : Option Nat
  unlocked : Bool
  hide : Bool
  deriving DecidableEq, Repr

/-- A trace ring's header (R545). -/
structure RingHdr where
  next : Nat
  written : Nat
  lost : Nat
  time : Nat
  deriving DecidableEq, Repr

/-- The trace path: records on their way to the sink (EV12), the next LR.SEQ,
the port queue, the frame count, the ring headers (0 management, p + 1 partition p), and the last 58 bits sent on each lane of the
trace port, the last one in bit 0 (R548). -/
structure Trace where
  src : List Lilac
  seq : Nat
  portq : List (List Byte)
  frame : Nat
  hdr : Tab RingHdr
  scr : Tab Nat
  deriving DecidableEq, Repr

/-! ### Faults, resets, replay (R370 to R392) -/

/-- What a device fault names (FR.KIND and FR.TARGET, R372). -/
structure Target where
  kind : Nat
  num : Nat
  deriving DecidableEq, Repr

/-- A reset under way (R376, R389): its scope as RQ.SCOPE, its target, its start, whether it is the action of a
fault, whether it belongs to a replay, whether Red holds it, the 24 cluster tags at its start (R380), and the stacks, a bit each, whose spare
pair was Armed then (R180). -/
structure ResetRun where
  scope : Nat
  target : Nat
  start : Nat
  fault : Bool
  replay : Bool
  held : Bool
  tags : List Nat
  armed : Nat
  deriving DecidableEq, Repr

/-- A domain that is fenced (R383): a core or a cluster. -/
structure Fence where
  isCluster : Bool
  num : Nat
  deriving DecidableEq, Repr

/-- A suspect of a core hang: its slot and launch, and whether its replay hung (R384 to R388). -/
structure Suspect where
  slot : Nat
  launch : Launch
  hung : Bool
  deriving DecidableEq, Repr

/-- A search for the guilty context of a core (R385): suspects to replay, those replayed, the one running. -/
structure Replay where
  core : Nat
  todo : List Suspect
  cur : Option Suspect
  past : List Suspect
  start : Nat
  deriving DecidableEq, Repr

/-- Resets, fences and replays in progress, the local times of the fault resets within the escalation window,
when each tag value was last current (R382, R390: tag number times 256 plus value; tags 0 to 23 are the clusters', tag
24 + p the Indigo tag of Pp), and the tags that wait for the lifetime rule. -/
structure Faults where
  resets : List ResetRun
  fences : List Fence
  replays : List Replay
  faultTimes : List Nat
  tagTimes : Tab Nat
  tagWait : List Nat
  deriving DecidableEq, Repr

/-! ### Service state, insertion and removal (R396 to R410, R442 to R457) -/

/-- The service states (R38, R405). -/
inductive Svc where
  | white | grey | green | amber | red | black
  deriving DecidableEq, Repr

/-- Pins, power stage and service state. `removal` is the step of OD 0x2011 [2:0] and `removalTimedOut` its bit 7;
`precharge`, `present` and `blades` the contacts mated; `slotId` the strap levels of SLOT_ID; `input` the input voltage in mV; `bulkReady` that the bulk lies within 3 V of it; `holdup` that a loss of input is being ridden
through; `modReset` that MOD_RESET# is low; `released` the local time since which the removal may take its links down (R410); `safety` the latched cause of a safety power-off in
the layout of OD 0x3450, with its local time, whether it is stored, and `locked` that the switch stays open after it; `absentAt` the local time since which the
input is absent; `perst` that PERST# is high and `cable` that a host cable is connected; `alert` that ALERT# is driven low; `begun` that step 4 of R400 has run and `linksDone` the links that have ended training since (R402),
`memTrained`, `memTested` the stacks that have trained and ended their test, a bit each, and `marchAt` the local time at which the tests of
step 7 started (R171), `resetLow` that the pin of MOD_RESET# is low whether or not the module heeds it, and `reqSeen` when a command last showed
the level at REMOVE_REQ#, with that level (R468, R473); `perstAt` when one last showed that at PERST#; `offRuns` that a safety power-off runs (R442), `reopened`
that the main switch has opened since the module was inserted, `readyAt` the local time from which it may close again (R452), and `removeAt` when the removal
was accepted (R409). -/
structure Life where
  svc : Svc
  removal : Nat
  removalTimedOut : Bool
  precharge : Bool
  present : Bool
  blades : Bool
  slotId : Nat
  input : Nat
  bulkReady : Bool
  mainSwitch : Bool
  powerGood : Bool
  holdup : Bool
  modReset : Bool
  released : Option Nat
  safety : Nat
  safetyAt : Nat
  safetyStored : Bool
  locked : Bool
  absentAt : Option Nat
  perst : Bool
  cable : Bool
  memTrained : Nat
  memTested : Nat
  alert : Bool
  begun : Bool
  linksDone : Nat
  marchAt : Nat
  resetLow : Bool
  reqSeen : Option (Nat × Bool)
  perstAt : Nat
  offRuns : Bool
  reopened : Bool
  readyAt : Nat
  removeAt : Nat
  deriving DecidableEq, Repr

/-! ### Packets and links (R233 to R263) -/

/-- A packet: the header fields of R262, its payload (the ciphertext of an encrypted one), and the wrap count, reply index and tag of R360.
`die` is no field of it: the Indigo die whose router half has received it (R276). -/
structure Pkt where
  op : Nat
  vc : Nat
  dst : Nat
  src : Nat
  dpart : Nat
  spart : Nat
  win : Nat
  offset : Nat
  seq : Nat
  gen : Nat
  len : Nat
  ce : Bool
  rcore : Nat
  rcnt : Nat
  mark : Bool
  echo : Bool
  dline : Bool
  esc : Bool
  reissue : Bool
  dim : Nat
  status : Nat
  hops : Nat
  aux : Nat
  keyid : Nat
  reserved : Nat
  payload : List Byte
  wrap : Nat
  ridx : Nat
  tag : Nat
  die : Nat
  deriving DecidableEq, Repr

/-- The link states (R245, OD 0x4002). -/
inductive LinkSt where
  | disabled | detect | negotiate | equalise | align | qualify | active | activeHalf | down | loopback
  deriving DecidableEq, Repr

/-- A swap to the spare or a narrowing that a receiving end drives (R252, R253): the failing or replaced position
(0xF none), the half (0xF for a swap, which changes no width), and the new lane-map generation. -/
structure Repair where
  pos : Nat
  half : Nat
  gen : Nat
  deriving DecidableEq, Repr

/-- A loopback test (R256): mode (4 at a partner that accepts), duration in ms, the state in which the link was when it started, whether
it runs at full rate, whether the partner has accepted, and the pattern. -/
structure Loop where
  mode : Nat
  ms : Nat
  before : LinkSt
  full : Bool
  accepted : Bool
  pat : Nat
  deriving DecidableEq, Repr

/-- A link (R233 to R257). `disableAt` is the local time at which a write of false was accepted; `rxFail` the
failing positions of the receive direction, bit 8 lane 8; `rxSpare`, `txSpare` the position that lane 8 serves and
`rxHalf`, `txHalf` the half in use (0xF none); `pend` failures that wait for a repair to end; `asm` the slots of the
packet being assembled; `rx` the packets received and not yet routed; `ctl` the control messages received;
`txq` the packets queued for sending; `sent`, `rcvd`, `freed`, `credit` the cumulative slots per channel; `ratio` the
sum of a lane's bit errors over its windows and `nwin` the windows in it; `unc` its consecutive windows of R251's third case; `lanes`, by
receive lane, who sends on it (R234); `errs`, by lane, the bits corrected in its present window and `bad` the codewords of the window that
were uncorrectable (R238, R250); `lost` the lanes that have lost signal or lock; `start` what equalisation starts from: a preset, or none for
the coefficients stored (R249); `flitSeq` and `pairSeq` the numbers of the next flit and pair sent (R236, R239); `farOk` the value of OD 0x4032 that the
link took at its last Negotiate, none before one is taken (R256, R259). -/
structure Link where
  st : LinkSt
  disableAt : Option Nat
  attempts : Nat
  halfOk : Bool
  rxFail : Nat
  rxSpare : Nat
  txSpare : Nat
  rxHalf : Nat
  txHalf : Nat
  rxGen : Nat
  txGen : Nat
  repair : Option Repair
  txHold : Bool
  pend : List Nat
  mine : Option Bool
  partner : Option Bool
  resync : Bool
  lastSeq : Option Nat
  discards : Nat
  asm : List Byte
  rx : List Pkt
  ctl : List (List Byte)
  txq : List Pkt
  sent : Tab Nat
  rcvd : Tab Nat
  freed : Tab Nat
  credit : Tab Nat
  alignLost : List Nat
  ratio : Tab Nat
  nwin : Tab Nat
  unc : Tab Nat
  loop : Option Loop
  lanes : List (Option LaneId)
  errs : Tab Nat
  bad : Nat
  lost : Nat
  start : Option Nat
  flitSeq : Nat
  pairSeq : Nat
  farOk : Option Bool
  deriving DecidableEq, Repr

/-- A link after reset (R245, R259). -/
def Link.blank : Link :=
  ⟨.disabled, none, 0, false, 0, 0xF, 0xF, 0xF, 0xF, 0, 0, none, false, [], none, none, false, none, 0, [], [], [], [],
   [], [], [], [], [], [], [], [], none, [], [], 0, 0, none, 0, 0, none⟩

/-! ### Fabric (R260 to R286) -/

/-- Whom a request belongs to, and what its reply completes. -/
inductive ReqOwner where
  /-- A store or signal of an M-op of a core. -/
  | mop (core id : Nat)
  /-- A READ of an RGET, and the local address of its bytes. -/
  | get (core id dst : Nat)
  /-- A result write of a table command, for one of its units. -/
  | sepia (id unit : Nat)
  /-- A packet of a collective, by the descriptor that it runs. -/
  | coll (ref : DescRef)
  /-- A packet of the epoch protocol: group, kind, epoch, and the rank it is sent to (RECORD, TAKE, QUERY). -/
  | epoch (group kind epoch rank : Nat)
  /-- A pace message. -/
  | pace
  deriving DecidableEq, Repr

/-- An outstanding request (R274, R275): its packet, its owner, the attempts made, the time of the last one, and the
reissue limit and timeout taken when it was issued. -/
structure Req where
  pkt : Pkt
  owner : ReqOwner
  tries : Nat
  at_ : Nat
  limit : Nat
  timeout : Nat
  deriving DecidableEq, Repr

/-- A flow's numbering at its source (R274, R360): destination, source partition, next number, the times that the numbers have passed from
0xFF_FFFF to 0, and by key selector that count when its job secret was installed. -/
structure Flow where
  dst : Nat
  spart : Nat
  next : Nat
  wrap : Nat
  base : Tab Nat
  deriving DecidableEq, Repr

/-- A flow whose keys an Indigo die caches (R359): the die, the key selector, the requester's and the responder's coordinates, `PKT.SPART`, and the
partition of this module that the flow belongs to (R356). -/
structure FlowKey where
  die : Nat
  sel : Nat
  asker : Nat
  asked : Nat
  spart : Nat
  part : Nat
  deriving DecidableEq, Repr

/-- A flow's reissue window at its destination (R276): the highest number done, the numbers in progress, the numbers done with their
replies, the die that holds it, and the time of the last arrival. -/
structure Win where
  src : Nat
  spart : Nat
  top : Nat
  started : Tab Bool
  replies : Tab Pkt
  die : Nat
  last : Nat
  deriving DecidableEq, Repr

/-- A rate limiter entry (R280): rate in bytes per second, the time of its last halving, whether this increase
interval contained one, the time of its last packet, its die; the level of its token bucket in 10^-9 byte, and the time of that level. -/
structure Limiter where
  dst : Nat
  spart : Nat
  rate : Nat
  halvedAt : Option Nat
  halved : Bool
  last : Nat
  die : Nat
  level : Nat
  filled : Nat
  deriving DecidableEq, Repr

/-- The drain-and-swap (R272): table, stop time, drain interval in ns, deadlock mode to apply. -/
structure SwapReq where
  table : Nat
  stop : Nat
  drain : Nat
  deriving DecidableEq, Repr

/-- The fabric endpoint and routers. `inbox` holds the packets delivered locally and not yet acted on, `waiting` the
requests that a full flow or the outstanding limit holds back (R274), `frozen` what a table swap holds (R272), `held` the packets of the
endpoint that wait for tokens or for room in an output queue (R278, R280), `spill` the level and time of the overflow limiter's bucket, and
`stale` the requests that have been released with their generation: destination, partition, number, tag (R277, R382), `keys` the flows
whose keys the dies cache (R359), and `late` the requests whose replies a cluster's network interface absorbs after a legacy cluster reset, in
the form of `stale` (R389); `begun` the requests of the inbox, as they came, that have been admitted and whose access waits at its target
(R202, R350, R364), and `winWait` those of them that a window's pending setting waits for (R350). -/
structure Fabric where
  inbox : List Pkt
  out : List Req
  waiting : List Req
  flows : List Flow
  wins : List Win
  limiters : List Limiter
  swap : Option SwapReq
  stopped : Bool
  frozen : List Pkt
  marks : Nat
  held : List Pkt
  spill : Nat × Nat
  stale : List (Nat × Nat × Nat × Nat)
  keys : List FlowKey
  late : List (Nat × Nat × Nat × Nat)
  begun : List Pkt
  winWait : List Pkt
  deriving DecidableEq, Repr

/-- What a link's TIME exchange holds (R281, R282): the last TM.TX received and its arrival, and the partner's
distance, flags and root, and the path delay last computed, in ps. -/
structure LinkTime where
  ptx : Nat
  prx : Nat
  dist : Nat
  flags : Nat
  root : Nat
  path : Int
  deriving DecidableEq, Repr

/-- Fabric-time steering (R281 to R284): the parent link, the root followed, the distance, the exchanges in a row
within 50 ns, the offset still to be slewed and the fraction of a nanosecond, both in ps, and the rate of a module that has lost its parent,
in ps for each 10 ns (R284). -/
structure FTime where
  links : Tab LinkTime
  parent : Option Nat
  root : Nat
  dist : Nat
  good : Nat
  slew : Int
  frac : Int
  free : Int
  deriving DecidableEq, Repr


/-! ### Memory stacks and Sepia (R173 to R204) -/

/-- A ledger entry (R198 to R200, R321, R322): partition, epoch, sector number, colour, before-image, whether that was
uncorrectable, whether its epoch has committed, and the HBM address of its 128 bytes in the slice. -/
structure LEntry where
  part : Nat
  epoch : Nat
  sector : Nat
  colour : Nat
  before : List Byte
  uncorr : Bool
  committed : Bool
  at_ : Nat
  deriving DecidableEq, Repr

/-- A sweep or a restore under way on a stack (R200). -/
structure StackWork where
  part : Nat
  stack : Nat
  colour : Nat
  restore : Bool
  deriving DecidableEq, Repr

/-- A write that waits at a base die for slice room or a restore (R200, R202). -/
structure HeldWrite where
  part : Nat
  addr : Nat
  bytes : List Byte
  deriving DecidableEq, Repr

/-- A hot-row cache and its admission history (R203): the sectors held, the reads counted, and the misses of the last 2^20
reads with the count at each. -/
structure Hot where
  lines : List Nat
  reads : Nat
  misses : List (Nat × Nat)
  deriving DecidableEq, Repr

def Hot.blank : Hot := ⟨[], 0, []⟩

/-- An access that waits for slice room (R202, R323): the first sector without room, the entries that the access needs on that sector's stack, and
whether ledger full has been reported for it. -/
structure Short where
  sector : Nat
  need : Nat
  told : Bool
  deriving DecidableEq, Repr

/-- The stacks: sector colours by sector number (R198), the ledger entries in the order written, sweeps and restores
under way, partitions whose new colour is being delivered, decisions on their way to the stacks (partition, commit),
waiting writes, sectors stored uncorrectable (R177), the
local times of corrected errors by DRAM row and the rows served from spare rows (R179), the sector the patrol
reads next, by stack, from its first one (R178, R413), the ranges marked scrubbed, base and length (R345), the hot-row caches by stack (R203), and by partition the
reads through the aperture that were outstanding when the value that waits in OD 0x5810 was accepted (R30), and the accesses that
now wait for slice room, counted once (R202), and by 16 times the partition plus the stack the entry of the slice that is written
next (R322), and the HBM ranges, first byte and the byte after, that still hold the pattern of their test (R401). -/
structure Memory where
  colour : Tab Nat
  ledger : List LEntry
  work : List StackWork
  delivering : List Nat
  deciding : List (Nat × Bool)
  held : List HeldWrite
  bad : List Nat
  rowErrs : Tab (List Nat)
  remap : List Nat
  patrol : Tab Nat
  scrubbed : List (Nat × Nat)
  hot : Tab Hot
  apWait : Tab (List (Nat × Nat × Nat))
  short : List Short
  tail : Tab Nat
  pattern : List (Nat × Nat)
  deriving DecidableEq, Repr

/-- Who issued a table command (R187): an M-op of a core, or a descriptor. -/
inductive Issuer where
  | core (core id : Nat)
  | desc (d : DescRef)
  deriving DecidableEq, Repr

/-- A table command in the engines (R185 to R193): its number in order of arrival, issuer, partition, job seed and 512
bits, whether it has been executed, its status and its units done, the units of which a result write was refused or lost (R192, R193), and
whether one was lost behind a sealed crossing, so that the command never completes (R57). -/
structure SCmd where
  id : Nat
  who : Issuer
  part : Nat
  seed : Nat
  bits : Nat
  done : Bool
  status : Nat
  units : List Nat
  refused : List Nat
  lost : Bool
  deriving DecidableEq, Repr

/-- The Sepia engines: the commands in order of arrival that are not yet reported, the next number, and by instance of EV06 the index
that crosses beside it: of the last command reported (R51, R187). `seen` is the model's own: what the check bits will show the next accesses
of the command under way, empty between steps (R162, R177). -/
structure Sepia where
  cmds : List SCmd
  next : Nat
  last : Tab Nat
  seen : List Ecc
  deriving DecidableEq, Repr


/-! ### Epochs (R315 to R341) -/

/-- A member's states (R329). -/
inductive MemSt where
  | closed | opened | doomed | voted | inDoubt | restoring | fenced
  deriving DecidableEq, Repr

/-- The coordinator machine's states (R332, OD 0x5804). -/
inductive CoSt where
  | idle | collecting | recording | decided | clearing | taking | deferred
  deriving DecidableEq, Repr

/-- The epoch tree: the copy of a group descriptor's fields that an epoch uses (R324). Members are 24-bit references. -/
structure Tree where
  gen : Nat
  n : Nat
  rank : Nat
  parent : Nat
  child : List Nat
  succ : List Nat
  deriving DecidableEq, Repr

/-- A partition's epoch agent as a member (R324 to R331): state, group, number open or last opened, tree, last abort
cause, whether this epoch's cause has been counted, whether any epoch has been decided since creation, the last
decided number, the last colour, whether a descriptor has failed since EPOCH_BEGIN, the EPOCH_BEGIN that waits for the
colour, the EPOCH_VOTE that waits for the outcome, whether the DECIDE has been forwarded, a CLEAR that is kept, whether
the restore has ended and RESTORED has been sent, and the place in the round of queries. -/
structure Ep where
  st : MemSt
  group : Nat
  epoch : Nat
  tree : Tree
  cause : Nat
  counted : Bool
  anyDecided : Bool
  lastDecided : Nat
  colour : Nat
  failed : Bool
  beginDesc : Option DescRef
  voteDesc : Option DescRef
  forwarded : Bool
  clearKept : Bool
  restored : Bool
  sentUp : Bool
  asked : Nat
  deriving DecidableEq, Repr

def Tree.blank : Tree := ⟨0, 0, 0, 0, [], []⟩
def Ep.blank : Ep :=
  ⟨.closed, 0, 0, Tree.blank, 0, false, false, 0, 0, false, none, none, false, false, false, false, 0⟩

/-- A decision, or a replica's record of one: epoch, value (1 commit, 2 abort), cause, term. -/
structure Dec where
  epoch : Nat
  value : Nat
  cause : Nat
  term : Nat
  deriving DecidableEq, Repr

/-- A VOTE or RESTORED received: epoch, sender, count. -/
structure Vote where
  epoch : Nat
  from_ : Nat
  count : Nat
  deriving DecidableEq, Repr

/-- A PROMISE received: rank, recorded value, cause and term. -/
structure Promise where
  rank : Nat
  value : Nat
  cause : Nat
  term : Nat
  deriving DecidableEq, Repr

/-- The coordinator or taker machine of one epoch (R332, R335): its state, its decision with the term, the replicas that have acknowledged it, the
PROMISEs received, and the rank that a Deferred machine asks next. -/
structure Mach where
  epoch : Nat
  st : CoSt
  dec : Dec
  acks : List Nat
  promises : List Promise
  asked : Nat
  deriving DecidableEq, Repr

/-- The machine of an epoch before it starts: Idle. -/
def Mach.blank (epoch : Nat) : Mach := ⟨epoch, .idle, ⟨epoch, 0, 0, 0⟩, [], [], 0⟩

/-- What an agent holds for a group (R332 to R337): VOTEs and RESTOREDs received, decisions held, decisions recorded as a
replica, the promised term by epoch, the machines that are not Idle in the order in which they started, the ranks that have failed with the epoch, and
the epoch for which the all-failed event was raised. -/
structure Agent where
  votes : List Vote
  restored : List Vote
  held : List Dec
  records : List Dec
  promised : Tab Nat
  machs : List Mach
  failed : List (Nat × Nat)
  attention : Option Nat
  deriving DecidableEq, Repr

def Agent.blank : Agent := ⟨[], [], [], [], [], [], [], none⟩


/-! ### The host side (R205 to R232) -/

/-- A PCIe function's registers (R210, R213, R211) and its MSI-X vectors: unmasked, table words (two for
each vector), pending. -/
structure Fn where
  abiAgreed : Nat
  abiReq : Nat
  feat : Nat
  event : Nat
  win0 : Nat
  win1 : Nat
  msixOpen : Tab Bool
  msixTab : Tab Word
  msixPend : Tab Bool
  deriving DecidableEq, Repr

def Fn.blank : Fn := ⟨0, 0, 0, 0, 0, 0, [], [], []⟩

/-- The states of a queue (R214, QS.CODE). -/
inductive QCode where
  | disabled | enabled | closing | stopped | guilty
  deriving DecidableEq, Repr

/-- A descriptor fetched and not yet consumed: its count on the queue, the index of its slot 0, its bytes, and the
local time since which it is the next to be dispatched and waits (R217, R224). -/
structure Fetched where
  index : Nat
  slot : Nat
  bytes : List Byte
  since : Option Nat
  deriving DecidableEq, Repr

/-- A queue (R214 to R218): the registers RING, CQ and CTRL as written, the state, HEAD, TAIL, CQWR, CQHEAD and the
record phase, the descriptors fetched, how many were fetched since reset, and the interval of OD 0x7021 with which its stall timer last
started, in s (R374). -/
structure Queue where
  ring : Nat
  cq : Nat
  ctrl : Nat
  code : QCode
  head : Nat
  tail : Nat
  cqwr : Nat
  cqhead : Nat
  phase : Bool
  fetched : List Fetched
  count : Nat
  stall : Nat
  deriving DecidableEq, Repr

def Queue.blank : Queue := ⟨0, 0, 0, .disabled, 0, 0, 0, 0, false, [], 0, 30⟩

/-- How a progress unit ended: status, sub-status and detail (R225, R226). -/
structure UEnd where
  status : Nat
  sub : Nat
  detail : Nat
  deriving DecidableEq, Repr

/-- A descriptor dispatched and not yet completed (R217, R220, R226): its queue and count, its partition and slot
index, its bytes, the number of its progress units, how each unit that has ended ended, the units started (COPY),
whether it has finished, an outcome that replaces the units' (R231), the outcome without units (IGNORED, TIMEOUT and
the like), the detail of an epoch vote, and whether a function level reset has silenced it. -/
structure Flight where
  ref : DescRef
  part : Nat
  slot : Nat
  bytes : List Byte
  units : Nat
  ends : Tab UEnd
  started : Nat
  finished : Bool
  force : Option UEnd
  detail : Nat
  silent : Bool
  deriving DecidableEq, Repr

/-- A host counter (R229): value, threshold, enable, armed, vector. -/
structure HCnt where
  value : Word
  thresh : Word
  en : Bool
  armed : Bool
  vec : Nat
  deriving DecidableEq, Repr

def HCnt.blank : HCnt := ⟨0, 0, false, false, 0⟩

/-- The dispatcher (R217, R224): descriptors dispatched, the order in which they finished, the queue served last, and
the queue whose next descriptor the dispatcher has chosen. -/
structure Disp where
  flights : List Flight
  order : List DescRef
  last : Nat
  chosen : Option Nat
  deriving DecidableEq, Repr



/-! ### Collectives (R287 to R314) -/

/-- A collective at this member (R299 to R306): its descriptor, group, instance, partition and 512 bits, the bytes of the
group descriptor it runs under, its chunks, the pool slots leased, whether it runs on the endpoint path; the up limit held
and the one last granted to the children, the down limit held from each child by position; the bytes received up, by
chunk times 8 plus child position, and on the pool path what they are; the chunks whose partial or result has been
formed; the bytes received down by chunk; the DOWN packets that wait for a child's grant; how it ended, if early; the chunks whose own access
a sealed crossing has lost (R57). -/
structure Coll where
  ref : DescRef
  group : Nat
  inst : Nat
  part : Nat
  bits : Nat
  gd : List Byte
  chunks : Nat
  lease : List Nat
  endpoint : Bool
  upLim : Nat
  upSent : Nat
  downLim : Tab Nat
  got : Tab Nat
  slots : Tab (Tab Byte)
  formed : Tab Bool
  down : Tab Nat
  hold : List (Nat × Pkt)
  ended : Option UEnd
  lost : List Nat
  deriving DecidableEq, Repr

/-- The collective engines: the collectives running or ending, the groups that have admitted one since their descriptor was
written, the GRANTs held for the next instance, the retired pool slots (pool k's slot i is 4,096 k + i). -/
structure Colls where
  run : List Coll
  begun : Tab Bool
  grants : List Pkt
  retired : List Nat
  deriving DecidableEq, Repr


/-! ### Partitions (R342 to R369) -/

/-- The partition states (R344). -/
inductive PartSt where
  | absent | creating | live | draining | scrubbing
  deriving DecidableEq, Repr

/-- A partition: its state, whether a teardown is held and a re-creation is pending (R344, R355), the clusters,
HBM regions and secure setting taken at its creation (R343), its counters (R550 group 10), the fabric time of its
teardown's step 1, the accesses cut in step 3, its teardowns since the last whole-module reset (R366), whether a
TDISP stop waits for its re-creation (R355), and whether this teardown has destroyed a content key (R365, R366). -/
structure Part where
  st : PartSt
  held : Bool
  recreate : Bool
  clusters : Nat
  regions : List (Nat × Nat)
  secure : Bool
  addrFaults : Nat
  invConv : Nat
  bxOvf : Nat
  isoEventAt : Nat
  drainAt : Nat
  cut : Nat
  downs : Nat
  stopWaits : Bool
  content : Bool
  deriving DecidableEq, Repr

def Part.blank : Part := ⟨.absent, false, false, 0, [], false, 0, 0, 0, 0, 0, 0, 0, false, false⟩


/-! ### Onyx, attestation, TDISP, IDE (R351 to R369) -/

/-- What Onyx is working on for the job secrets (R358): a key selector at the key root or at a member, an offer, a grant. -/
inductive OJob where
  | create (sel : Nat)
  | offer (sel : Nat)
  | grant (bs : List Byte)
  | install (bs : List Byte)
  deriving DecidableEq, Repr

/-- An unseal under way (R363): partition, envelope, grant, destination and its length. -/
structure Unseal where
  part : Nat
  env : Nat
  grant : Nat
  dst : Nat
  len : Nat
  deriving DecidableEq, Repr

/-- Onyx: its work, the ephemeral key pair and the job secret of each slot of OD 0x6416 (R358), the partitions' HBM keys
(number 16 is the module memory key, R356), and whether the key store holds the private halves of R351, regenerated and matching. -/
structure Onyx where
  job : Option OJob
  unsealing : Option Unseal
  eph : Tab Nat
  secret : Tab Nat
  hbmKey : Tab Nat
  identity : Bool
  deriving DecidableEq, Repr

/-- A secured SPDM session (R353): its identifier, whether FINISH has completed it. -/
structure SpdmSess where
  id : Nat
  open_ : Bool
  key : Nat
  deriving DecidableEq, Repr

/-- A function's SPDM responder: the last of GET_VERSION (1), GET_CAPABILITIES (2) and NEGOTIATE_ALGORITHMS (3) done in
order, the version in use, and the secured sessions (R353). -/
structure Spdm where
  stage : Nat
  ver : Nat
  sess : List SpdmSess
  deriving DecidableEq, Repr

def Spdm.blank : Spdm := ⟨0, 0, []⟩

/-- An IDE stream (R205, R356, R357): the generated keys, the keys programmed and the keys active, each by direction times
3 plus sub-stream. -/
structure Ide where
  key : Tab Nat
  prog : Tab Bool
  go : Tab Bool
  deriving DecidableEq, Repr

def Ide.blank : Ide := ⟨[], [], []⟩

/-- The security side: Onyx, the SPDM responders and IDE streams by function, and the start nonce of each locked TDI. -/
structure Sec where
  onyx : Onyx
  spdm : Tab Spdm
  ide : Tab Ide
  nonce : Tab Nat
  deriving DecidableEq, Repr


/-! ### Power, pace, droop, temperature, coolant, leak loop (R415 to R446) -/

/-- Power and pace (R416 to R430): the 10 us averages of the last second with their local times, the gating duty in
sixteenths, whether the peak limiter acts, the draws measured with every island gated and at g = 0, the ceiling and the thermal ceiling in MHz, the group frequency F, the SET held
(frequency, tick index modulo 2^32), the pace group in effect, the children's reports by `GD.GEN` and position, the value last sent
up, the local time since which M has stayed above F, the local times of the stretches of the
last ms, with the last one, whether lockstep is broken (R428), and whether the group named was seen to be Undefined (R425), the samples of the
last ms, local time and microwatts (R416), the microjoules of each element of OD 0x3040 below its last whole millijoule (R431), and the dies whose islands their comparator has
gated, a bit each in the order of `idcode` (R435). -/
structure Power where
  peaks : List (Nat × Nat)
  gate : Nat
  limiting : Bool
  idle : Nat
  run : Nat
  ceil : Nat
  thermCeil : Nat
  f : Nat
  next : Option (Nat × Nat)
  group : Nat
  reports : Tab Nat
  sent : Nat
  above : Option Nat
  stretches : List Nat
  lastStretch : Nat
  broken : Bool
  astray : Bool
  samples : List (Nat × Nat)
  micro : Tab Nat
  dies : Nat
  deriving DecidableEq, Repr

/-- A sample that waits in the Indigo dies while a handover runs (R531): the readings and predictions of a thermal sample, a leak-loop
resistance, a leak self-test. -/
inductive Sample where
  | temps (readings predicted : List Int)
  | leak (ohms : Nat)
  | selfTest (pass : Bool)
  deriving DecidableEq, Repr

/-- Temperatures, coolant and the leak loop (R433 to R441): the local time since which each sensor is suspect, each zone
class's last minimum and the maximum since (m°C), whether the rise has been seen, whether the zone was above its trip limit at
the last sample, the local time since which the flow is low and whether that was reported, whether the inlet's throttle event stands, consecutive wet, open
and indeterminate readings, whether a self-test has passed, the leak-loop fault's cause, the self-tests passed in a row since it, and whether
every reading since the last one was dry; `held` the samples that a handover holds, in order (R531). -/
structure Thermal where
  suspectAt : Tab Nat
  zmin : Tab Int
  zmax : Tab Int
  rose : Tab Bool
  tripped : Tab Bool
  lowSince : Option Nat
  lowTold : Bool
  inletHigh : Bool
  wet : Nat
  opened : Nat
  indet : Nat
  tested : Bool
  leakCause : Nat
  passes : Nat
  dry : Bool
  held : List Sample
  deriving DecidableEq, Repr

/-! ### Test access port (R465 to R468) -/

/-- The states of a TAP controller (IEEE 1149.1). -/
inductive TapSt where
  | reset | idle
  | selDr | capDr | shDr | ex1Dr | pauDr | ex2Dr | updDr
  | selIr | capIr | shIr | ex1Ir | pauIr | ex2Ir | updIr
  deriving DecidableEq, Repr

/-- A die's TAP controller: state, instruction, and the instruction and data shift registers, cell 0 first (nearest TDO). -/
structure Tap where
  st : TapSt
  ir : Nat
  irSh : List Bool
  drSh : List Bool
  deriving DecidableEq, Repr

/-- A TAP controller after its reset (R465, R466). -/
def Tap.blank : Tap := ⟨.reset, 2, [], []⟩

/-! ### Slate controllers and firmware (R524 to R536) -/

/-- A firmware image: the header fields that the module uses, and its bytes; the image shipped has no bytes here. -/
structure Img where
  svn : Nat
  hwMin : Nat
  version : Nat
  setMin : Nat
  setFmt : Nat
  bytes : List Byte
  deriving DecidableEq, Repr

/-- What a Slate controller does: it runs firmware, runs its ROM loader, restarts, or is silent. -/
inductive SlateSt where
  | runs | rom | restarting | silent
  deriving DecidableEq, Repr

/-- A Slate controller: its state, its current and last slots (R529, R532), and the image it runs or last ran. -/
structure Slate where
  st : SlateSt
  cur : Option Img
  last : Option Img
  img : Option Img
  deriving DecidableEq, Repr

/-- The firmware side: controllers A and B, whether B is active, the update state (OD 0xB005), the controller that loads the image, the parts
received by number with the total, the image under way, whether the handover under way hands back, the new settings
format held beside the one in force (R536), the security version that the fuses still advance to, and the Onyx and Sepia components in
effect, by the image they come from (R533), and of the settings in the other format those that differ from the settings in force, by element
(R536). -/
structure Fw where
  a : Slate
  b : Slate
  bActive : Bool
  state : Nat
  newB : Bool
  parts : Tab (List Byte)
  total : Nat
  image : Option Img
  back : Bool
  fmtNew : Option Nat
  fuseTo : Nat
  comp : Option Img
  other : Tab OdVal
  deriving DecidableEq, Repr

/-! ### What the module emits -/

/-- The responses of SPDM, IDE_KM and TDISP by their names in those standards (R353, R355, R357). -/
inductive Rsp where
  | version | capabilities | algorithms | digests | certificate | challengeAuth | measurements | keyExchangeRsp | finishRsp
  | heartbeatAck | keyUpdateAck | endSessionAck | vendorDefined | kpAck | kGoStopAck
  | lockResponse | startResponse | stopResponse | interfaceReport
  | error | tdispError
  deriving DecidableEq, Repr

/-- What leaves the module, in order: the model's own record of messages, packets and interrupts. -/
inductive Out where
  | stanan (dst : Nat) (msg : List Byte)
  | msix (fn vec : Nat)
  | traceFrame (bs sent : List Byte)
  /-- A packet sent on a link. -/
  | packet (link : Nat) (p : Pkt)
  /-- A control message sent on a link: message code and the bytes from byte 13 (R243). -/
  | control (link code : Nat) (bs : List Byte)
  /-- A pair of codewords sent on a link; its lanes carry `FlitPair.lanes` (R236, R237). Pairs of idle flits between those sent are timing,
  and left out (log entry 165). -/
  | pair (link : Nat) (p : FlitPair)
  /-- Training blocks sent on the nine lanes of a link, each with its capability message (R245, R247). -/
  | capability (link : Nat) (blocks : List (List Byte))
  /-- The lanes failing in the receive direction, sent to the partner in the exchange of lane maps (R245). -/
  | laneMap (link failing : Nat)
  /-- 256 pairs of alignment blocks sent on a link under a new lane map (R252). -/
  | blocks (link gen : Nat)
  /-- The test pattern of OD 0x4030 that a lane sends: 0 PRBS31 or 1 PRBS13Q, at full rate or at 26.5625 GBd, from the lane's seed (R256). -/
  | pattern (link lane pat : Nat) (full : Bool) (seed : Nat)
  /-- What a far-end partner in Loopback returns: the symbols of each received lane, on the transmit lane of its number (R256). -/
  | looped (link : Nat) (lanes : List (List Nat))
  /-- What a base die delivers for a sector read: the address, the data, or none for an uncorrectable sector (R177, R201). -/
  | memData (addr : Nat) (bs : Option (List Byte))
  /-- The completion of a host read: requester function, status (0 successful, 1 Unsupported Request, 2 poisoned), data (R212). -/
  | completion (fn status : Nat) (bs : List Byte)
  /-- A response on a function's DOE mailbox: SPDM, IDE_KM or TDISP, and its fields (R353). -/
  | doe (fn : Nat) (rsp : Rsp) (body : List Byte)
  /-- The level at TDO during a shift cycle (R465). -/
  | tdo (level : Bool)
  deriving DecidableEq, Repr

/-! ### The whole -/

/-- The faults that stop the model. -/
inductive Fault where
  /-- Raised by INPUT_OUT_OF_RANGE for an input beyond 0 to 72 V, which can damage the part (R451): the spec gives
  no effect. Safe: the model stops where the hardware may go on. -/
  | inputBeyondAbsolute
  deriving DecidableEq, Repr

/-- The refusals of the model. -/
inductive Refusal where
  /-- Raised by an arm of `exec` that has no meaning yet. Safe: no next state is claimed. -/
  | notModelled (mnemonic : String)
  deriving DecidableEq, Repr

/-- What persisted storage holds: objects, and the firmware slots with the update's state (R507, R523, R532). -/
structure Stored where
  od : Od
  fw : Fw
  deriving DecidableEq, Repr

/-- The module's state. `stored` is what persisted storage held when the main switch opened: the hold-up begins no write of it (R452). -/
structure State where
  pending : List Instr
  mem : List Host.Cell
  hostMem : List Host.Cell
  od : Od
  clk : Clk
  links : Tab Link
  fabric : Fabric
  ftime : FTime
  memory : Memory
  sepia : Sepia
  eps : Tab Ep
  agents : Tab Agent
  queues : Tab Queue
  colls : Colls
  hcnt : Tab HCnt
  disp : Disp
  cores : Tab Core
  parts : Tab Part
  fns : Tab Fn
  mgmt : Mgmt
  trace : Trace
  faults : Faults
  sec : Sec
  power : Power
  thermal : Thermal
  taps : Tab Tap
  fw : Fw
  life : Life
  stored : Option Stored
  free : Nat
  out : List Out
  deriving DecidableEq, Repr


/-! ### The state after reset -/

/-- The firmware as shipped: its header values are not stated (log entry 10). -/
def Img.shipped : Img := ⟨0, 0, 0, 0, 0, []⟩
def Slate.shipped : Slate := ⟨.runs, some Img.shipped, some Img.shipped, some Img.shipped⟩

def Od.reset : Od := ⟨[], []⟩
def Clk.reset : Clk := ⟨0, 0, 0, false, 1200, [], []⟩
def Fabric.reset : Fabric := ⟨[], [], [], [], [], [], none, false, [], 0, [], (4096 * 10 ^ 9, 0), [], [], [], [], []⟩
def FTime.reset : FTime := ⟨[], none, 0, 0xFF, 0, 0, 0, 0⟩
def Memory.reset : Memory := ⟨[], [], [], [], [], [], [], [], [], [], [], [], [], [], [], []⟩
def Sepia.reset : Sepia := ⟨[], 0, [], []⟩
def Colls.reset : Colls := ⟨[], [], [], []⟩
def Disp.reset : Disp := ⟨[], [], 0, none⟩
def Mbx.reset : Mbx := ⟨0, 0, 0, 0, [], [], []⟩
def Mgmt.reset : Mgmt := ⟨[], [], [], 1, [], Mbx.reset, 0xFF, false, 32, 0, none, [], []⟩
def Trace.reset : Trace := ⟨[], 0, [], 0, [], []⟩
/-- The whole-module reset that the module is coming out of (R400). -/
def Faults.reset : Faults := ⟨[⟨4, 0, 0, false, false, false, [], 0⟩], [], [], [], [], []⟩
def Onyx.reset : Onyx := ⟨none, none, [], [], [], false⟩
def Sec.reset : Sec := ⟨Onyx.reset, [], [], []⟩
def Power.reset : Power := ⟨[], 0, false, 0, 0, 1200, 2100, 1200, none, 0xFFFF, [], 2100, none, [], 0, false, false, [], [], 0⟩
def Thermal.reset : Thermal := ⟨[], [], [], [], [], none, false, false, 0, 0, 0, false, 0, 0, false, []⟩
def Fw.reset : Fw := ⟨Slate.shipped, Slate.shipped, false, 0, true, [], 0, none, false, none, 0, some Img.shipped, []⟩

/-- The pins and the power stage of a seated and powered module: every contact mated, 60 V at the input, every strap of `SLOT_ID` at 0, the
side-band inputs released, no host, with `PERST#` at its pull-up (R462; log entry 1). -/
def Life.reset : Life :=
  ⟨.grey, 0, false, true, true, true, 0, 60000, true, true, true, false, false, none, 0, 0, false, false, none, true, false,
   0, 0, false, false, 0, 0, false, none, 0, false, false, 0, 0⟩

/-- The module right after its reset (R400, R405): Grey, every register and object at its default, every queue and table
empty, no command waiting. -/
def State.reset : State where
  pending := []
  mem := []
  hostMem := []
  od := Od.reset
  clk := Clk.reset
  links := []
  fabric := Fabric.reset
  ftime := FTime.reset
  memory := Memory.reset
  sepia := Sepia.reset
  eps := []
  agents := []
  queues := []
  colls := Colls.reset
  hcnt := []
  disp := Disp.reset
  cores := []
  parts := []
  fns := []
  mgmt := Mgmt.reset
  trace := Trace.reset
  faults := Faults.reset
  sec := Sec.reset
  power := Power.reset
  thermal := Thermal.reset
  taps := []
  fw := Fw.reset
  life := Life.reset
  stored := none
  free := 0
  out := []

end Sys2Proof.Machine
end

