-- ==== Sys2Proof/Machine/DictTable.lean ====
section
/-! DEFINITION. The object dictionary's index: each object's type, element count, rights by door, change class,
default and range (R15 to R17, R499 to R502, R511 to R522 and the tables of the chapters they name). -/
namespace Sys2Proof.Machine

/-- The object types (R15, R501). -/
inductive OdTy where
  | u8 | u16 | u32 | u64 | i32 | i16 | bool | enum8 | bits32 | str32 | blob
  deriving DecidableEq, Repr

/-- The change classes (R17); `now` marks a Live object whose safe point is "at once" (R504), and `lockedW` a
Locked object that is writable while its block is stopped (R505). -/
inductive OdCls where
  | now | live | staged | locked | lockedW
  deriving DecidableEq, Repr

/-- Whom an element belongs to, for the filters of R509 and R510. -/
inductive OdOwner where
  | none | part | link | lane
  deriving DecidableEq, Repr

/-- One object: `n` is 0 for a scalar; rights are read and write at the management and the host door. -/
structure OdInfo where
  idx : Nat
  ty : OdTy
  n : Nat
  mr : Bool
  mw : Bool
  hr : Bool
  hw : Bool
  cls : OdCls
  dflt : Nat
  lo : Nat
  hi : Nat
  own : OdOwner
  deriving DecidableEq, Repr

/-- Bytes of a value (R15, R501); a BLOB has no fixed size. -/
def OdTy.size : OdTy → Option Nat
  | .u8 | .bool | .enum8 => some 1
  | .u16 | .i16 => some 2
  | .u32 | .i32 | .bits32 => some 4
  | .u64 => some 8
  | .str32 => some 32
  | .blob => none

/-- The largest code of a numeric type. -/
def OdTy.top (t : OdTy) : Nat := match t.size with
  | some k => 2 ^ (8 * k) - 1
  | none => 0

/-- A read-only object, R:B. -/
def odR (idx : Nat) (ty : OdTy) (n dflt : Nat) (own : OdOwner := .none) : OdInfo :=
  ⟨idx, ty, n, true, false, true, false, .locked, dflt, 0, ty.top, own⟩
/-- RW:M R:H. -/
def odM (idx : Nat) (ty : OdTy) (n : Nat) (cls : OdCls) (dflt lo hi : Nat) (own : OdOwner := .none) : OdInfo :=
  ⟨idx, ty, n, true, true, true, false, cls, dflt, lo, hi, own⟩
/-- RW:B. -/
def odB (idx : Nat) (ty : OdTy) (n : Nat) (cls : OdCls) (dflt lo hi : Nat) (own : OdOwner := .none) : OdInfo :=
  ⟨idx, ty, n, true, true, true, true, cls, dflt, lo, hi, own⟩
/-- W:M. -/
def odW (idx : Nat) (ty : OdTy) (cls : OdCls) : OdInfo :=
  ⟨idx, ty, 0, false, true, false, false, cls, 0, 0, if ty = .bool then 1 else ty.top, .none⟩

/-- Identity, sessions, service state, defect maps (R511 to R513, R473). -/
def odTable1 : List OdInfo := [
  odR 0x1000 .u64 0 1, odR 0x1001 .enum8 0 0xFF, odR 0x1002 .str32 0 0, odR 0x1003 .u16 0 0x0100,
  odR 0x1004 .u16 4 0x0302, odR 0x1010 .u32 4 0,
  odR 0x1100 .u16 0 0x0301, odR 0x1101 .u64 0 0, odM 0x1102 .u8 0 .live 0xFF 1 0xFF, odR 0x1103 .u32 0 0xFF00,
  odM 0x1104 .u8 0 .live 32 16 255, odM 0x1105 .u8 0 .live 0 0 3, odB 0x1110 .u16 0 .live 10 2 600,
  odR 0x1111 .blob 5 0, odM 0x1112 .u16 0 .live 10 1 300, odR 0x1120 .blob 0 0, odR 0x1121 .u32 0 1,
  odR 0x1122 .u64 0 0, odR 0x1130 .u64 2 0, odR 0x1131 .u64 4 0,
  odR 0x2000 .enum8 0 1, odR 0x2001 .bits32 0 3, odR 0x2002 .bits32 0 0, odR 0x2003 .bits32 0 0,
  odR 0x2004 .u8 0 0, odM 0x2005 .bits32 0 .now 0 0 0xFFFF_FFFF, odR 0x2006 .bits32 0 0,
  odM 0x2010 .enum8 0 .now 0 1 2, odR 0x2011 .u8 0 0, odW 0x2012 .bool .now, odM 0x2013 .u32 0 .live 30 1 3600,
  odR 0x2100 .u32 24 0x000C_0000, odM 0x2101 .bits32 24 .staged 0 0 0xFFFF_FFFF, odM 0x2110 .blob 0 .staged 0 0 0,
  odM 0x2120 .bits32 16 .live 0 0 0xFFFF_FFFF]

/-- Power, thermal and coolant (R514). -/
def odTable2 : List OdInfo := [
  odM 0x3000 .u16 0 .live 2000 600 2400, odR 0x3001 .u16 0 0, odR 0x3002 .u16 0 0, odR 0x3003 .u32 0 0x07D0_0001,
  odR 0x3004 .u16 0 0, odM 0x3010 .u16 0 .live 0xFFFF 0 0xFFFF, odB 0x3011 .u16 0 .live 1800 600 2100,
  odR 0x3012 .u32 0 0, odM 0x3013 .u32 0 .live 500 100 100000, odM 0x3014 .u32 0 .live 10 1 10000,
  odM 0x3015 .u32 0 .live 100 10 10000, odR 0x3016 .u64 4 0, odM 0x3020 .u16 0 .staged 1200 600 1800,
  odM 0x3030 .enum8 0 .staged 3 0 3, odR 0x3031 .u64 0 0, odR 0x3032 .enum8 0 3, odR 0x3040 .u64 17 0,
  odR 0x3041 .u64 0 0, odR 0x3400 .i32 196 0, odR 0x3401 .enum8 196 0, odM 0x3402 .i16 5 .live 0 0 0xFFFF,
  odR 0x3403 .i16 5 0, odR 0x3410 .i32 0 45000, odR 0x3411 .u32 0 0, odR 0x3420 .u16 0 0,
  odM 0x3421 .u16 0 .live 1400 500 2000, odR 0x3430 .u64 5 0, odR 0x3440 .u32 0 0, odR 0x3441 .enum8 0 0,
  odR 0x3442 .u64 2 0, odR 0x3450 .u32 0 0, odR 0x3451 .u32 0 0, odR 0x3460 .u32 0 0,
  odM 0x3461 .u32 0 .live 600 60 86400]

/-- Links, routing, fabric time, congestion (R515, R516). OD 0x4422 gives coordinate bits [19:0] and no range: a value above them is
out of range (DESIGN CHOICE, log entry 176). -/
def odTable3 : List OdInfo := [
  odR 0x4000 .u32 0 0x0302_000C, odM 0x4001 .bool 12 .live 1 0 1 .link, odR 0x4002 .enum8 12 0 .link,
  odR 0x4003 .enum8 12 0 .link, odR 0x4004 .u32 12 0 .link, odM 0x4005 .bool 12 .staged 0 0 1 .link,
  odR 0x4007 .u32 12 0xFFFF_0000 .link, odR 0x4008 .u64 12 0 .link, odR 0x4009 .u32 12 0xF_FFFF .link,
  odM 0x400A .u64 12 .staged 0 0 (2 ^ 64 - 1) .link, odM 0x4010 .u32 0 .staged 3000 100 60000,
  odM 0x4011 .u32 0 .staged 10 1 3600, odM 0x4012 .u8 0 .staged 2 1 8,
  odM 0x4015 .u8 12 .staged 0 0 7 .link, odM 0x4016 .blob 12 .staged 0 0 0 .link,
  odM 0x4017 .u32 0 .live 100000 20000 1000000, odR 0x4020 .u32 108 0 .lane, odR 0x4021 .u64 12 0 .link,
  odR 0x4022 .u64 12 0 .link, odR 0x4023 .u64 12 0 .link, odR 0x4024 .u32 12 0 .link, odR 0x4025 .u64 12 0 .link,
  odR 0x4026 .u64 12 0 .link, odM 0x4030 .u32 12 .now 0 0 0xFFFF_FFFF .link, odR 0x4031 .u32 108 0 .lane,
  odM 0x4032 .bool 0 .live 1 0 1, odR 0x4033 .u32 12 0 .link,
  odM 0x4400 .u32 0 .lockedW 0xF_FFFF 0 0xF_FFFF, odM 0x4401 .enum8 0 .staged 0 0 1, odR 0x4402 .enum8 0 0,
  odM 0x4403 .u16 0 .live 400 1 511, odM 0x4410 .blob 0 .lockedW 0 0 0, odM 0x4411 .blob 0 .lockedW 0 0 0,
  odM 0x4412 .u64 0 .now 0 0 (2 ^ 64 - 1), odM 0x4413 .u32 0 .staged 50 5 10000, odR 0x4414 .enum8 0 0,
  odR 0x4415 .u64 0 0, odR 0x4416 .u64 4 0, odM 0x4420 .u32 0 .live 50 1 100000,
  odM 0x4421 .u32 0 .live 1000 1 100000, odM 0x4422 .u32 0 .live 0xF_FFC0 0 0xF_FFFF,
  odM 0x4423 .u8 0 .live 3 0 15, odR 0x4424 .u64 4 0, odM 0x4425 .u32 0 .live 2000000 0 0xFFFF_FFFF,
  odR 0x4430 .u64 0 0, odM 0x4440 .bool 0 .live 0 0 1, odR 0x4441 .u64 0 0, odR 0x4442 .u32 0 0x00FF_000F,
  odR 0x4443 .u64 0 0, odR 0x4444 .i32 0 0, odR 0x4445 .u32 0 0, odM 0x4800 .u16 0 .live 512 64 2048,
  odM 0x4801 .u8 0 .staged 25 1 100, odM 0x4802 .u8 0 .live 1 1 50, odM 0x4803 .u16 0 .live 20 1 500,
  odM 0x4804 .u32 0 .live 10000 1000 1000000, odM 0x4805 .u32 0 .live 20000 1000 1000000,
  odM 0x4806 .u32 0 .live 1000 10 1000000, odB 0x4807 .u16 0 .live 1024 1 0xFFFF, odR 0x4810 .u64 3 0]

/-- Collectives, pools, epochs (R517). -/
def odTable4 : List OdInfo := [
  odR 0x5000 .u32 0 0x1000_0010, odR 0x5001 .u16 2 4096, odM 0x5003 .u16 16 .live 512 0 8192 .part,
  odR 0x5004 .u16 16 0 .part, odR 0x5010 .u64 16 0 .part, odR 0x5011 .u64 32 0, odR 0x5012 .u64 10 0,
  odR 0x5020 .u32 0 0, odR 0x5800 .u32 0 0x0010_4003, odR 0x5801 .u32 16 0 .part, odR 0x5802 .u64 16 0 .part,
  odR 0x5803 .u64 16 0 .part, odR 0x5804 .u8 16 0 .part, odB 0x5810 .u64 16 .live 0x040_0000_0000 0 0x0B0_0000_0000 .part,
  odM 0x5820 .u32 0 .live 60000 1 3600000, odM 0x5821 .u32 0 .live 1000 10 600000,
  odM 0x5822 .u32 0 .live 10000 100 3600000, odB 0x5830 .blob 16 .staged 0 0 0 .part,
  odB 0x5840 .u64 16 .staged 0 0 (2 ^ 64 - 1) .part, odB 0x5841 .u16 16 .staged 0 0 0xFFFF .part,
  odR 0x5850 .u64 16 0 .part, odR 0x5851 .u64 16 0 .part, odR 0x5852 .u64 16 0 .part, odR 0x5860 .u64 16 0 .part,
  odR 0x5861 .u64 16 0 .part, odR 0x5862 .u64 8 0, odR 0x5863 .u32 0 0, odR 0x5864 .u64 0 0]

/-- Partitions, security, licences (R518). -/
def odTable5 : List OdInfo := [
  odR 0x6000 .u8 0 4, odM 0x6001 .enum8 16 .now 0 0 2 .part, odR 0x6002 .enum8 16 0 .part,
  odM 0x6003 .bits32 16 .lockedW 0 0 0xFFFF_FFFF .part, odM 0x6004 .blob 16 .lockedW 0 0 0 .part,
  odM 0x6005 .bool 16 .lockedW 0 0 1 .part, odR 0x6006 .u8 16 0 .part, odR 0x6008 .u64 16 0 .part,
  odB 0x6010 .u32 16 .live 0 0 0xFFFF_FFFF .part, odR 0x6020 .blob 16 0 .part, odR 0x6030 .u32 16 0 .part,
  odR 0x6031 .enum8 16 0 .part, odR 0x6400 .blob 0 0, odR 0x6401 .blob 0 0, odR 0x6402 .blob 0 0,
  odR 0x6403 .blob 6 0, odW 0x6410 .u8 .now, odW 0x6411 .u8 .now,
  ⟨0x6412, .blob, 0, true, false, false, false, .locked, 0, 0, 0, .none⟩, odW 0x6413 .blob .now,
  ⟨0x6414, .blob, 0, true, false, false, false, .locked, 0, 0, 0, .none⟩, odW 0x6415 .blob .now,
  odR 0x6416 .u16 32 0, odW 0x6417 .u8 .now, odR 0x6418 .u64 2 0,
  ⟨0x6420, .blob, 0, false, true, false, true, .now, 0, 0, 0, .none⟩, odR 0x6421 .u64 16 0 .part,
  odR 0x6440 .u32 0 0, odR 0x6441 .bits32 0 0, odM 0x6450 .blob 0 .staged 0 0 0, odR 0x6451 .enum8 0 0,
  odR 0x6452 .bits32 0 0]

/-- Faults, resets, clock islands (R519). -/
def odTable6 : List OdInfo := [
  odR 0x7000 .u32 0 0, odB 0x7001 .u32 0 .now 0 0 0xFFFF_FFFF, odR 0x7002 .u32 0 0, odR 0x7003 .u64 4 0,
  odR 0x7004 .u64 4 0, odR 0x7010 .blob 64 0, odR 0x7011 .u64 17 0, odM 0x7020 .u32 0 .live 100 10 10000,
  odM 0x7021 .u32 0 .live 30 0 3600, odM 0x7022 .u32 0 .live 200 20 60000, odM 0x7023 .bool 0 .live 1 0 1,
  odM 0x7024 .u32 0 .live 10000 100 100000, odR 0x7025 .u64 4 0, odR 0x7030 .u8 24 0, odR 0x7031 .u8 16 0 .part,
  odR 0x7032 .u64 0 0, odR 0x7033 .u64 0 0, odM 0x7040 .u8 0 .live 4 1 64, odM 0x7041 .u32 0 .live 600 10 86400,
  odR 0x7042 .u8 0 0, odM 0x7050 .bool 0 .staged 0 0 1, odR 0x7800 .u16 0 372, odR 0x7801 .u64 0 0,
  odR 0x7802 .u32 9 0, odR 0x7810 .bits32 24 0, odR 0x7811 .u32 0 0, odM 0x7812 .bool 0 .staged 0 0 1,
  odR 0x7820 .u64 13 0]

/-- Memory, Sepia, scratchpad (R520). -/
def odTable7 : List OdInfo := [
  odR 0x8000 .u8 0 16, odR 0x8001 .u64 16 0xC_0000_0000, odM 0x8002 .bool 16 .live 0 0 1, odR 0x8003 .u64 16 0,
  odM 0x8004 .u32 0 .live 100 10 10000, odM 0x8010 .u8 16 .now 0xFF 0 0xFF, odR 0x8011 .enum8 16 0,
  odR 0x8012 .u32 16 0, odR 0x8020 .u64 16 0, odR 0x8021 .u64 16 0, odM 0x8022 .u8 0 .live 8 2 64,
  odM 0x8030 .u32 0 .live 86400 3600 604800, odM 0x8040 .bool 16 .live 1 0 1, odM 0x8041 .u8 0 .live 2 1 15,
  odR 0x8042 .u64 32 0, odR 0x8050 .u64 16 0, odR 0x8060 .u64 16 0, odR 0x8061 .u8 16 0,
  odM 0x8800 .enum8 0 .staged 0 0 1, odM 0x8801 .u16 144 .live 0 0 0xFFFF, odM 0x8802 .u16 144 .live 0 0 0xFFFF,
  odR 0x8803 .u32 144 0, odR 0x8804 .u32 144 0, odR 0x8805 .u32 24 0, odR 0x8808 .u64 5 0, odR 0x8809 .u64 0 0,
  odR 0x880A .u64 0 0, odR 0x880B .u64 0 0]

/-- Host interface, counters, trace, firmware (R521, R522). -/
def odTable8 : List OdInfo := [
  odR 0x9000 .u16 0 0x0302, odM 0x9001 .bool 16 .lockedW 0 0 1 .part, odR 0x9002 .u16 0 0,
  odM 0x9003 .enum8 0 .staged 6 1 6, odR 0x9010 .u64 17 0, odR 0x9011 .u64 13 0, odR 0x9012 .u64 16 0 .part,
  odR 0xA000 .u16 0 4096, odB 0xA001 .u16 0 .now 0 0 31, odR 0xA002 .blob 0 0,
  odM 0xA200 .bits32 0 .live 0 0 0xFFFF_FFFF, odM 0xA201 .enum8 0 .live 0 0 3, odM 0xA202 .blob 0 .lockedW 0 0 0,
  odB 0xA203 .blob 16 .lockedW 0 0 0 .part, odM 0xA204 .bool 0 .live 0 0 1, odR 0xA210 .u64 0 0,
  odR 0xB000 .u32 0 0, odR 0xB001 .u32 0 0, odR 0xB002 .u8 0 0, odW 0xB003 .blob .now, odM 0xB004 .enum8 0 .now 0 1 4,
  odR 0xB005 .enum8 0 0, odR 0xB006 .enum8 0 0, odR 0xB010 .u16 0 0]

def odTable : List OdInfo :=
  odTable1 ++ odTable2 ++ odTable3 ++ odTable4 ++ odTable5 ++ odTable6 ++ odTable7 ++ odTable8

/-- The families spread over several indexes (R502): group descriptors, states and instances, fabric windows,
counters. -/
def odFamily (idx : Nat) : Option OdInfo :=
  if 0x5100 ≤ idx && idx ≤ 0x511F then some (odB idx .blob 128 .staged 0 0 0)
  else if 0x5200 ≤ idx && idx ≤ 0x521F then some (odR idx .enum8 128 0)
  else if 0x5300 ≤ idx && idx ≤ 0x531F then some (odR idx .u16 128 0)
  else if 0x6100 ≤ idx && idx ≤ 0x610F then some (odB idx .blob 64 .live 0 0 0)
  else if 0xA100 ≤ idx && idx ≤ 0xA11F then some (odR idx .u64 128 0)
  else none

/-- The object at an index (R499). -/
def odInfo (idx : Nat) : Option OdInfo := (odFamily idx).orElse (fun _ => odTable.find? (fun o => o.idx == idx))

/-- The number of an element in the dictionary's store. -/
def odKey (idx sub : Nat) : Nat := idx * 256 + sub

/-- The entries whose default lists several values, in element order (R500, R511, R514, R515, R39). -/
def odListDefault (idx sub : Nat) : Option Nat :=
  match idx with
  | 0x1010 => [0x1A41_04E7, 0x1A40_04E7, 0x1A40_14E7, 0x1A41_14E7][sub - 1]?
  | 0x1004 => [0x0301, 0x0302, 0x0302, 0x1312][sub - 1]?
  | 0x3402 => [95, 95, 85, 65, 45][sub - 1]?
  | 0x3403 => [110, 110, 95, 75, 55][sub - 1]?
  | 0x4015 => some (if sub ≤ 8 then 0 else 4)
  | 0x7802 => [1800000, 1800000, 1600000, 1562500, 2000000, 2000000, 1000000, 800000, 500000][sub - 1]?
  | _ => none

/-- The default of an element (R500). -/
def odDefault (idx sub : Nat) : OdVal :=
  match odInfo idx with
  | none => .num 0
  | some o =>
    if o.ty = .blob then .blob []
    else if o.ty = .str32 then .blob (List.replicate 32 0)
    else if o.n ≠ 0 && sub = 0 then .num o.n
    else .num ((odListDefault idx sub).getD o.dflt)

/-- Whether an object is persisted (R507). -/
def odPersisted (idx : Nat) : Bool :=
  [0x1102, 0x2101, 0x2110, 0x2120, 0x3430, 0x3450, 0x3451, 0x4016, 0x6440, 0x6450].contains idx

/-- The partition that an element belongs to, if it belongs to one (R509, R510). -/
def odPart (idx sub : Nat) : Option Nat :=
  if 0x6100 ≤ idx && idx ≤ 0x610F then some (idx - 0x6100)
  else if idx = 0x5011 then (if 1 ≤ sub then some ((sub - 1) / 2) else none)
  else if idx = 0x3040 || idx = 0x9010 then (if 1 ≤ sub && sub ≤ 16 then some (sub - 1) else none)
  else match odInfo idx with
    | some o => if o.own = .part && sub ≠ 0 then some (sub - 1) else none
    | none => none

/-- The link that an element belongs to, if it belongs to one (R502, R510). -/
def odLink (idx sub : Nat) : Option Nat :=
  match odInfo idx with
  | some o =>
    if sub = 0 then none
    else match o.own with
      | .link => some (sub - 1)
      | .lane => some ((sub - 1) / 9)
      | _ => none
  | none => none

end Sys2Proof.Machine
end

