-- ==== Sys2Proof/Machine/Ops.lean ====
section
/-! DEFINITION. The operations that every chapter shares: dictionary values and counters, time, event crossings,
Stanan messages and events, Lilac records, fault records, service state, and the emission of output. -/
namespace Sys2Proof.Machine

/-! ### Dictionary values (R15 to R19, R506, R508) -/

/-- The value in force of an element (R17). -/
def State.odGet (s : State) (idx sub : Nat) : OdVal := tget (odDefault idx sub) s.od.app (odKey idx sub)

def OdVal.toNat : OdVal → Nat
  | .num n => n
  | .blob _ => 0
def OdVal.bytes : OdVal → List Byte
  | .num _ => []
  | .blob b => b

def State.odNum (s : State) (idx sub : Nat) : Nat := (s.odGet idx sub).toNat
def State.odBlob (s : State) (idx sub : Nat) : List Byte := (s.odGet idx sub).bytes
def State.odBool (s : State) (idx sub : Nat) : Bool := s.odNum idx sub != 0

/-- Puts a value in force. -/
def State.odSet (s : State) (idx sub : Nat) (v : OdVal) : State :=
  { s with od := { s.od with app := tset (odDefault idx sub) s.od.app (odKey idx sub) v } }
def State.odSetN (s : State) (idx sub n : Nat) : State := s.odSet idx sub (.num n)

/-- The value last accepted and not yet applied (R19). -/
def State.odPending (s : State) (idx sub : Nat) : Option OdVal := tfind s.od.acc (odKey idx sub)

/-- Accepts a value to be applied later; the last one accepted stands (R18). -/
def State.odAccept (s : State) (idx sub : Nat) (v : OdVal) : State :=
  { s with od := { s.od with acc := tput s.od.acc (odKey idx sub) v } }

/-- Applies the value last accepted, if one waits: the object's safe point or event (R17, R18). -/
def State.odApply (s : State) (idx sub : Nat) : State :=
  match s.odPending idx sub with
  | none => s
  | some v => { s.odSet idx sub v with od := { (s.odSet idx sub v).od with acc := tdel s.od.acc (odKey idx sub) } }

/-- Applies the values of several elements. -/
def State.odApplyAll (s : State) (l : List (Nat × Nat)) : State := l.foldl (fun s p => s.odApply p.1 p.2) s

/-- The number an object's block uses at a safe point: the pending value is applied first (R17). -/
def State.odLive (s : State) (idx sub : Nat) : Nat := (s.odApply idx sub).odNum idx sub

/-- Adds to a counter: a U64 wraps, a narrower one saturates at all ones (R508). -/
def State.odAdd (s : State) (idx sub n : Nat) : State :=
  let v := s.odNum idx sub + n
  let top := match odInfo idx with
    | some o => o.ty.top
    | none => 2 ^ 64 - 1
  s.odSetN idx sub (if top = 2 ^ 64 - 1 then v % 2 ^ 64 else min v top)

def State.odInc (s : State) (idx sub : Nat) : State := s.odAdd idx sub 1

/-- The feature set in effect (R538): that of the 260C while no licence is. -/
def State.features (s : State) : Nat := if s.odNum 0x6452 0 = 0 then 9 else s.odNum 0x6452 0

/-! ### Time, output, free values -/

/-- The local time that intervals are measured with, and fabric time (R284). The local time base itself starts at 0 again at a
whole-module reset (R43), which some intervals outlast (R390, R413). -/
def State.now (s : State) : Nat := s.clk.uptime
def State.fab (s : State) : Nat := s.clk.fabricTime

/-- Emits one item of output. -/
def State.emit (s : State) (o : Out) : State := { s with out := s.out ++ [o] }

/-- Takes the next free value (log entry 4): `w` bits that nothing constrains. -/
def State.freeVal (s : State) (w : Nat) : Nat × State :=
  (Config.freeBits s.free % 2 ^ w, { s with free := s.free + 1 })

/-! ### Functions, MSI-X (R210) -/

def State.fn (s : State) (k : Nat) : Fn := tget Fn.blank s.fns k
def State.setFn (s : State) (k : Nat) (f : Fn) : State := { s with fns := tset Fn.blank s.fns k f }

/-- The functions that the variant has: PF0 and a VF for each licensed partition (R205). -/
def State.hasFn (s : State) (fn : Nat) : Bool := decide (fn ≤ s.odNum 0x6000 0)

/-- Signals an MSI-X vector of a function: sent, or pending while the vector is masked (R210). -/
def State.msix (s : State) (k vec : Nat) : State :=
  if tget false (s.fn k).msixOpen vec then s.emit (.msix k vec)
  else s.setFn k { s.fn k with msixPend := tset false (s.fn k).msixPend vec true }

/-- Sets a bit of FN.EVENT; vector 0 is signalled when it changes from 0 to 1 (R210). -/
def State.fnEvent (s : State) (k b : Nat) : State :=
  if bit b (s.fn k).event then s
  else (s.setFn k { s.fn k with event := withBit b true (s.fn k).event }).msix k 0

/-! ### Event crossings (R46, R51) -/

/-- The number of an instance of a crossing. The spec names the crossings and lists no instances (DESIGN CHOICE, log entry 160): EV01 has
one per queue, EV02 and EV05 one per cluster, EV03 and EV13 one per core, EV04 one per vector of each function, EV06 one per stack and
cluster, EV07 one per partition, EV08 one per core and cluster, EV09 one per link, EV10 and EV11 one, EV12 one per unit that a record
names as its source. -/
def xingKey (ev i : Nat) : Nat := ev * 65536 + i

/-- The instance of EV04 that carries a vector of a function, of EV06 from a stack to a cluster, and of EV12 for the records of one kind
about one unit. -/
def evVector (fn vec : Nat) : Nat := fn * 2048 + vec % 2048
def evReturn (stack cluster : Nat) : Nat := stack * 32 + cluster
def evSource (kind src : Nat) : Nat := kind * 4096 + src % 4096

/-- The destination pulse of a launched event where it acts by itself: a threshold's MSI-X message, and the interrupt of a mailbox
response (R46 step 2, R51). At every other crossing the destination reads the value that crosses beside the event. -/
def State.landed (s : State) (ev i : Nat) : State :=
  if ev = 4 then s.msix (i / 2048) (i % 2048) else if ev = 10 then s.fnEvent 0 2 else s

/-- A source pulse at instance `i` of observable crossing `ev` (1 to 13): it launches, sets pending, or merges
into the pending event, which the crossing's merge counter counts (R46). -/
def State.pulse (s : State) (ev i : Nat) : State :=
  let k := xingKey ev i
  let x := tget ⟨false, false⟩ s.clk.xing k
  if !x.busy then ({ s with clk := { s.clk with xing := tset ⟨false, false⟩ s.clk.xing k ⟨true, false⟩ } }).landed ev i
  else if !x.pending then { s with clk := { s.clk with xing := tset ⟨false, false⟩ s.clk.xing k ⟨true, true⟩ } }
  else s.odInc 0x7820 ev

/-- Whether a pulse at that instance would merge (R46). -/
def State.wouldMerge (s : State) (ev i : Nat) : Bool :=
  let x := tget ⟨false, false⟩ s.clk.xing (xingKey ev i)
  x.busy && x.pending

/-- The end of every busy period: a pending event is launched and its bit cleared (R46 step 5). -/
def Clk.settle (c : Clk) : Clk :=
  { c with xing := c.xing.filterMap (fun e => if e.2.pending then some (e.1, ⟨true, false⟩) else none) }

/-- The busy periods end, and each event launched then has its own destination pulse (R46 steps 2 and 5). -/
def State.settle (s : State) : State :=
  let c := s.clk.settle
  c.xing.foldl (fun s e => s.landed (e.1 / 65536) (e.1 % 65536)) { s with clk := c }

/-- A reset empties the event crossings of its group: their busy and pending bits are cleared (R54). -/
def State.xingClear (s : State) (q : Nat → Nat → Bool) : State :=
  { s with clk := { s.clk with xing := s.clk.xing.filter (fun e => !q (e.1 / 65536) (e.1 % 65536)) } }

/-! ### CRC-32C (R240) -/

/-- Eight shift steps of the reflected CRC. -/
def crcBits : Nat → Nat → Nat
  | 0, c => c
  | k + 1, c => crcBits k (if c % 2 = 1 then (c / 2) ^^^ 0x82F6_3B78 else c / 2)

/-- CRC-32C over bytes: reflected, initial value and final XOR all ones (R240). -/
def crc32c (bs : List Byte) : Nat :=
  (bs.foldl (fun c b => crcBits 8 (c ^^^ b.toNat)) 0xFFFF_FFFF) ^^^ 0xFFFF_FFFF

/-- A partition. -/
def State.part (s : State) (p : Nat) : Part := tget Part.blank s.parts p
def State.setPart (s : State) (p : Nat) (x : Part) : State := { s with parts := tset Part.blank s.parts p x }
/-- The function that serves a partition: its VF when OD 0x9001 assigns it, PF0 otherwise (R206). -/
def State.serving (s : State) (p : Nat) : Nat := if s.odBool 0x9001 (p + 1) then p + 1 else 0

/-! ### Stanan messages and events (R477, R490 to R492, R495, R496) -/

/-- A message with its header and check (R477). -/
def stMsg (ver typ sess seq : Nat) (body : List Byte) : List Byte :=
  let m := leBytes 1 ver ++ leBytes 1 typ ++ leBytes 2 sess ++ leBytes 2 seq ++ leBytes 2 body.length ++ body
  m ++ leBytes 4 (crc32c m)

/-- Writes a message to the next response slot, or holds it while the slots are full; the advance crosses EV10,
and where it lands sets EVT.MBX (R51, R496). -/
def State.mbxPut (s : State) (m : List Byte) : State :=
  let b := s.mgmt.mbx
  if b.held.isEmpty && (b.rspTail + 2 ^ 16 - b.rspHead) % 2 ^ 16 < 4 then
    let b' := { b with rspSlots := tput b.rspSlots (b.rspTail % 4) m, rspTail := (b.rspTail + 1) % 2 ^ 16 }
    ({ s with mgmt := { s.mgmt with mbx := b' } }).pulse 10 0
  else { s with mgmt := { s.mgmt with mbx := { b with held := b.held ++ [m] } } }

/-- The broadcast address. -/
def broadcast : Nat := 2 ^ 48 - 1

/-- A message as a frame of the management door carries it: zeros fill a short one up to 46 bytes (R477). -/
def framed (m : List Byte) : List Byte := m ++ List.replicate (46 - m.length) 0

/-- Sends a message to a session's client through its door. -/
def State.sendTo (s : State) (door : Door) (src : Nat) (m : List Byte) : State :=
  match door with
  | .m => s.emit (.stanan src (framed m))
  | .h => s.mbxPut m

/-- The body of an EVENT (R490). -/
def Event.body (e : Event) (again : Bool) : List Byte :=
  leBytes 4 e.seq ++ leBytes 2 e.code ++ leBytes 2 e.index ++ leBytes 1 e.sub ++ leBytes 1 (b2n again) ++
  leBytes 2 0 ++ leBytes 8 e.time ++ leBytes 8 e.detail ++ leBytes 4 0

/-- Replaces the session with an identifier. -/
def Mgmt.setSession (m : Mgmt) (id : Nat) (f : Session → Session) : Mgmt :=
  { m with sessions := updFirst (fun x => x.id == id) f m.sessions }

/-- Sends one session the events it is due: in order, at most 8 unacknowledged (R491). -/
def State.deliverOne (s : State) (se : Session) : State :=
  if bit 0 se.flags then
    let due := (s.mgmt.events.filter (fun e => decide (e.seq > se.sent))).take (8 - (se.sent - se.acked))
    let s := due.foldl (fun s e => s.sendTo se.door se.src (stMsg se.ver 0x40 se.id 0 (e.body false))) s
    { s with mgmt := s.mgmt.setSession se.id (fun x => { x with sent := due.foldl (fun m e => max m e.seq) x.sent }) }
  else s

/-- Sends every session the events it is due. -/
def State.deliver (s : State) : State := s.mgmt.sessions.foldl State.deliverOne s

/-- Raises an event: it enters the buffer of the last 60 s, at most 4,096 events, the oldest dropped first and
counted, and is delivered (R490, R491). -/
def State.raise (s : State) (code idx sub detail : Nat) : State :=
  let e : Event := ⟨s.mgmt.nextEvent, code, idx, sub, s.fab, detail, s.now⟩
  let kept := s.mgmt.events.filter (fun x => decide (s.now ≤ x.at_ + 60_000_000_000))
  let full := decide (kept.length ≥ 4096)
  let s := if full then s.odInc 0x1122 0 else s
  let s := { s with mgmt := { s.mgmt with
    events := (if full then kept.drop 1 else kept) ++ [e],
    nextEvent := (s.mgmt.nextEvent + 1) % 2 ^ 32 } }
  s.deliver

/-! ### Lilac records (R541 to R543) -/

/-- Whether the records of a partition hide their addresses and data: it is secure and has not opted in (R368, R549). -/
def State.hides (s : State) (part : Option Nat) : Bool := part.any (fun p => (s.part p).secure && !bit 0 (s.odNum 0x6030 (p + 1)))

/-- A source emits a record when its kind is enabled; the next record is the setting's safe point (R542). What it may show is settled here, by
the partition's policy at the event (R368). -/
def State.lilac (s : State) (kind code src addr data : Nat) (part : Option Nat) : State :=
  let s := s.odApply 0xA200 0
  if bit (kind - 1) (s.odNum 0xA200 0) then
    let r : Lilac := ⟨s.fab, kind, code, src, addr, data, part, !s.clk.fabricLocked, s.hides part⟩
    ({ s with trace := { s.trace with src := s.trace.src ++ [r] } }).pulse 12 (evSource kind src)
  else s

/-! ### Service state, causes, alert (R405, R406, R457) -/

def Svc.code : Svc → Nat
  | .white => 0 | .grey => 1 | .green => 2 | .amber => 3 | .red => 4 | .black => 5

/-- ALERT# follows OD 0x2005 (R457). -/
def State.alertLine (s : State) : State := { s with life := { s.life with alert := s.odNum 0x2005 0 != 0 } }

/-- Sets a bit of OD 0x2005 (R457). -/
def State.alertSet (s : State) (b : Nat) (on : Bool) : State :=
  (s.odSetN 0x2005 0 (withBit b on (s.odNum 0x2005 0))).alertLine

/-- A session of the management door is open (R445). -/
def State.managed (s : State) : Bool := s.mgmt.sessions.any (fun x => x.door == .m)

/-- What starts as the module leaves Grey, for whichever state: the manager-absence timer, while no session is open, and the patrol's first pass
(R413, R445). -/
def State.leavesGrey (s : State) : State :=
  { s with mgmt := { s.mgmt with absence := if s.managed then none else some s.now }, memory := { s.memory with patrol := [] } }

/-- Enters a service state, with the event of R492, EVT.STATE of every function that the module has, and `ALERT#` where R405 names it. -/
def State.enter (s : State) (v : Svc) (alert : Bool) : State :=
  if s.life.svc = v then s
  else
    let old := s.life.svc
    let s := if old = .grey then s.leavesGrey else s
    let s := ({ s with life := { s.life with svc := v } }).odSetN 0x2000 0 v.code
    let s := if alert then s.alertSet 0 true else s
    let s := ((List.range 17).filter s.hasFn).foldl (fun s k => s.fnEvent k 3) s
    s.raise 0x0001 0x2000 0 (old.code * 256 + v.code)

/-- Sets or clears an Amber cause and moves between Green and Amber (R405, R406). -/
def State.amber (s : State) (b : Nat) (on : Bool) : State :=
  let s := s.odSetN 0x2002 0 (withBit b on (s.odNum 0x2002 0))
  if s.life.svc = .green && s.odNum 0x2002 0 != 0 then s.enter .amber false
  else if s.life.svc = .amber && s.odNum 0x2002 0 == 0 then s.enter .green false
  else s

/-- Provisioned: a coordinate and a verified licence (R405); OD 0x2001 reports what is missing (R406). -/
def State.provisioned (s : State) : Bool := s.odNum 0x2001 0 == 0

/-- Leaves White once provisioned (R405). -/
def State.leaveWhite (s : State) : State :=
  if s.life.svc = .white && s.provisioned then
    s.enter (if s.odNum 0x2002 0 == 0 then .green else .amber) false
  else s

/-- Green and Amber take host work (R38). -/
def State.inService (s : State) : Bool := s.life.svc == .green || s.life.svc == .amber

/-! ### Fault records (R371, R372) -/

/-- Writes a fault record, counts the code, raises the event and emits the Lilac record (R371, R372); `st` is the service
state after the action. -/
def State.faultRecordAs (s : State) (st code action kind target : Nat) (part : Option Nat) (esc : Bool) (detail : Nat) :
    State :=
  let n := s.odNum 0x7000 0
  let seq := n % 65536
  let w := (s.fab % 2 ^ 64) * 2 ^ 192 + (detail % 2 ^ 64) * 2 ^ 128 + seq * 2 ^ 112 + code * 2 ^ 104 + action * 2 ^ 100 +
    st * 2 ^ 96 + kind * 2 ^ 92 + target * 2 ^ 80 + part.getD 0 * 2 ^ 76 + b2n part.isSome * 2 ^ 75 +
    b2n esc * 2 ^ 74
  let e := seq % 64 + 1
  let s := (s.odSet 0x7010 e (.blob (leBytes 32 w))).odInc 0x7000 0
  let s := s.odInc 0x7011 code
  let s := s.raise 0x0002 0x7010 e (seq * 256 + code)
  s.lilac 6 code target 0 detail part

def State.faultRecord (s : State) (code action kind target : Nat) (part : Option Nat) (esc : Bool) (detail : Nat) :
    State := s.faultRecordAs s.life.svc.code code action kind target part esc detail

/-! ### Cores -/

def State.core (s : State) (n : Nat) : Core := tget Core.blank s.cores n
def State.setCore (s : State) (n : Nat) (c : Core) : State := { s with cores := tset Core.blank s.cores n c }

/-- The cluster index d × 12 + c of a core (R11). -/
def clusterOf (n : Nat) : Nat := n / 12

/-- Whether a cluster is unavailable (R26, R404): MAP.EXCL is 0xF. -/
def State.clusterDown (s : State) (c : Nat) : Bool := bits 19 16 (s.odNum 0x2100 (c + 1)) == 0xF

/-- The physical position on which a logical core runs (R404). -/
def State.physOf (s : State) (n : Nat) : Nat :=
  let ex := bits 19 16 (s.odNum 0x2100 (clusterOf n + 1))
  if n % 12 < ex then n % 12 else n % 12 + 1

/-- Sealed flags (R59): a cluster's, by bit, and the crossing between a core and its cluster. What a sealed crossing carries is
lost (R57). -/
def State.sealed (s : State) (c b : Nat) : Bool := bit b (s.odNum 0x7810 (c + 1))
def State.coreSealed (s : State) (n : Nat) : Bool := s.sealed (clusterOf n) (s.physOf n)

/-! ### Addresses (R28 to R31, R347, R555) -/

/-- What an address of the local address space holds (R28). -/
inductive Region where
  | hbm (a : Nat)
  | view (a : Nat)
  | aperture (o : Nat)
  | spad (core off : Nat)
  | istore (core off : Nat)
  | pool (cluster off : Nat)
  | coreCtl (core off : Nat)
  | ctl
  | reserved
  deriving DecidableEq, Repr

/-- The region of a local address (R28, R29, R555); the windows of an unavailable cluster are reserved. -/
def State.region (s : State) (a : Nat) : Region :=
  if a < 0x0C0_0000_0000 then .hbm a
  else if a < 0x100_0000_0000 then .view (a - 0x0C0_0000_0000)
  else if a < 0x100_4800_0000 then
    let n := (a - 0x100_0000_0000) / 0x40_0000
    let o := (a - 0x100_0000_0000) % 0x40_0000
    if s.clusterDown (clusterOf n) then .reserved
    else if o < 0x30_0000 then .spad n o
    else if o < 0x32_0000 then .istore n (o - 0x30_0000)
    else .reserved
  else if a < 0x101_0000_0000 then .reserved
  else if a < 0x101_0C00_0000 then
    let c := (a - 0x101_0000_0000) / 0x80_0000
    if s.clusterDown c then .reserved else .pool c ((a - 0x101_0000_0000) % 0x80_0000)
  else if a < 0x200_0000_0000 then .reserved
  else if a < 0x200_1200_0000 then .coreCtl ((a - 0x200_0000_0000) / 0x10_0000) ((a - 0x200_0000_0000) % 0x10_0000)
  else if a < 0x250_0000_0000 then .ctl
  else if a < 0x280_0000_0000 then .reserved
  else if a < 0x290_0000_0000 then .aperture (a - 0x280_0000_0000)
  else .reserved

/-- The base of a core's window, of its instruction store, and of a cluster pool (R29). -/
def spadBase (n : Nat) : Nat := 0x100_0000_0000 + n * 0x40_0000
def istoreBase (n : Nat) : Nat := spadBase n + 0x30_0000
def poolBase (c : Nat) : Nat := 0x101_0000_0000 + c * 0x80_0000

/-- Whether a partition holds a cluster, and whether an HBM address lies in its regions (R347). -/
def Part.hasCluster (x : Part) (c : Nat) : Bool := bit c x.clusters
def Part.hasHbm (x : Part) (a : Nat) : Bool := x.regions.any (fun r => decide (r.1 ≤ a) && decide (a < r.1 + r.2))

/-! ### Memory bytes -/

/-- One byte of local memory, and one byte of host memory; a byte nothing has written reads 0 (log entry 2). -/
def State.rd (s : State) (a : Nat) : Byte := tget 0 s.mem a
def State.rdN (s : State) (a k : Nat) : List Byte := (List.range k).map (fun i => s.rd (a + i))
def State.hrd (s : State) (a : Nat) : Byte := tget 0 s.hostMem a
def State.hrdN (s : State) (a k : Nat) : List Byte := (List.range k).map (fun i => s.hrd (a + i))

/-- Writes bytes from an address up. -/
def memPut (m : List Host.Cell) (a : Nat) : List Byte → List Host.Cell
  | [] => m
  | b :: bs => memPut (tset (0 : Byte) m a b) (a + 1) bs

def State.wr (s : State) (a : Nat) (bs : List Byte) : State := { s with mem := memPut s.mem a bs }
def State.hwr (s : State) (a : Nat) (bs : List Byte) : State := { s with hostMem := memPut s.hostMem a bs }

/-- Sets a range of local memory to zero: no byte of it stays listed. -/
def State.zero (s : State) (lo len : Nat) : State :=
  { s with mem := s.mem.filter (fun c => !(decide (lo ≤ c.1) && decide (c.1 < lo + len))) }

/-- The canonical form of the memories: addresses strictly rising and no listed zero. -/
def Memory.wf (m : List Host.Cell) : Bool := tcanon (0 : Byte) m

end Sys2Proof.Machine
end

