-- ==== Sys2Proof/Machine/Formats.lean ====
section
/-! DEFINITION. Number formats, exact values, rounding, stochastic rounding, MX blocks (R61 to R75). -/
namespace Sys2Proof.Machine

/-- An exact value: a NaN, a signed infinity, or plus or minus `m` times 2 to the power `e` (R62, R63). -/
inductive FV where
  | nan
  | inf (neg : Bool)
  | fin (neg : Bool) (m : Nat) (e : Int)
  deriving DecidableEq, Repr

/-- A floating-point format of R62 and R63: exponent and fraction widths, bias, the largest significand of
the largest binade, and whether it has infinities and NaNs. -/
structure FFmt where
  eb : Nat
  fb : Nat
  bias : Nat
  maxN : Nat
  hasInf : Bool
  hasNan : Bool
  nanCode : Nat
  deriving DecidableEq, Repr

/-- binary32, binary16, bfloat16, E5M2, E4M3, E3M2, E2M3, E2M1 (R62, R63). -/
def fBinary32 : FFmt := ⟨8, 23, 127, 0xFF_FFFF, true, true, 0x7FC0_0000⟩
def fBinary16 : FFmt := ⟨5, 10, 15, 0x7FF, true, true, 0x7E00⟩
def fBfloat16 : FFmt := ⟨8, 7, 127, 0xFF, true, true, 0x7FC0⟩
def fE5M2 : FFmt := ⟨5, 2, 15, 7, true, true, 0x7E⟩
def fE4M3 : FFmt := ⟨4, 3, 7, 14, false, true, 0x7F⟩
def fE3M2 : FFmt := ⟨3, 2, 3, 7, false, false, 0⟩
def fE2M3 : FFmt := ⟨2, 3, 1, 15, false, false, 0⟩
def fE2M1 : FFmt := ⟨2, 1, 1, 3, false, false, 0⟩

/-- The exponent of the largest binade of a format. -/
def FFmt.emax (f : FFmt) : Int := ((2 ^ f.eb - 1 : Nat) : Int) - f.bias - (if f.hasInf then 1 else 0)

/-- The value of a code of a floating-point format (R62, R63). -/
def decodeF (f : FFmt) (c : Nat) : FV :=
  let neg := bit (f.eb + f.fb) c
  let e := bits (f.eb + f.fb - 1) f.fb c
  let m := c % 2 ^ f.fb
  if e = 2 ^ f.eb - 1 && f.hasInf then (if m = 0 then .inf neg else .nan)
  else if f.hasNan && !f.hasInf && c % 2 ^ (f.eb + f.fb) = f.nanCode then .nan
  else if e = 0 then .fin neg m (1 - (f.bias : Int) - f.fb)
  else .fin neg (2 ^ f.fb + m) ((e : Int) - f.bias - f.fb)

/-- The rounding modes of R71. -/
inductive Rnd where
  | rne | sr | rtz
  deriving DecidableEq, Repr

/-- `floor(log2 |x|)` of a finite value other than zero. -/
def fvExp (m : Nat) (e : Int) : Int := (Nat.log2 m : Int) + e

/-- Picks the lower or the upper neighbour (R72, R75): `n` and the discarded part `rem / 2 ^ s`. -/
def pickUp (rnd : Rnd) (r n rem s : Nat) : Bool :=
  match rnd with
  | .rne => decide (rem * 2 > 2 ^ s) || (decide (rem * 2 = 2 ^ s) && n % 2 == 1)
  | .sr => decide (r < rem * 2 ^ 32 / 2 ^ s)
  | .rtz => false

/-- Rounds `m * 2 ^ e` onto the grid of spacing `2 ^ q`; the result counts units of `2 ^ q` (R72). -/
def roundGrid (rnd : Rnd) (r m : Nat) (e q : Int) : Nat :=
  if e ≥ q then m <<< (e - q).toNat
  else
    let s := (q - e).toNat
    let n := m >>> s
    if pickUp rnd r n (m % 2 ^ s) s then n + 1 else n

/-- The magnitude code of a format for the largest finite value, and for infinity. -/
def FFmt.maxCode (f : FFmt) : Nat := (f.emax + f.bias - 1).toNat * 2 ^ f.fb + f.maxN
def FFmt.infCode (f : FFmt) : Nat := (2 ^ f.eb - 1) * 2 ^ f.fb

/-- The code of a magnitude with a sign. -/
def FFmt.signed (f : FFmt) (neg : Bool) (c : Nat) : Nat := c + b2n neg * 2 ^ (f.eb + f.fb)

/-- Converts an exact value into a floating-point format under R72 and R73. The flag is the invalid result. -/
def encodeF (f : FFmt) (rnd : Rnd) (sat : Bool) (r : Nat) : FV → Nat × Bool
  | .nan => if f.hasNan then (f.nanCode, false) else (0, true)
  | .inf neg => (f.signed neg (if f.hasInf && !sat then f.infCode else f.maxCode), false)
  | .fin neg m e =>
    if m = 0 then (f.signed neg 0, false)
    else
      let ee := min (max (fvExp m e) (1 - (f.bias : Int))) f.emax
      let n := roundGrid rnd r m e (ee - f.fb)
      let c := (ee + f.bias - 1).toNat * 2 ^ f.fb + n
      if c ≤ f.maxCode then (f.signed neg c, false)
      else (f.signed neg (if f.hasInf && !sat then f.infCode else f.maxCode), false)

/-- Converts an exact value into a `w`-bit integer within `lo` to `hi` under R72 and R73. -/
def encodeI (lo hi : Int) (rnd : Rnd) (r : Nat) : FV → Int × Bool
  | .nan => (0, true)
  | .inf neg => (if neg then lo else hi, false)
  | .fin neg m e =>
    let n : Int := roundGrid rnd r m e 0
    let v := if neg then -n else n
    (max lo (min hi v), false)

/-- The exact value of an integer. -/
def fvOfInt (z : Int) : FV := .fin (decide (z < 0)) z.natAbs 0

/-- Exact product; an infinity times zero is a NaN (R106, R135). -/
def mulFV : FV → FV → FV
  | .nan, _ => .nan
  | _, .nan => .nan
  | .inf a, .inf b => .inf (a != b)
  | .inf a, .fin b m _ => if m = 0 then .nan else .inf (a != b)
  | .fin a m _, .inf b => if m = 0 then .nan else .inf (a != b)
  | .fin a m e, .fin b n g => .fin (a != b) (m * n) (e + g)

/-- The signed integer of a significand moved to exponent `q`, with `q` at most its own exponent. -/
def alignTo (neg : Bool) (m : Nat) (e q : Int) : Int :=
  let n : Int := m <<< (e - q).toNat
  if neg then -n else n

/-- Exact sum; infinities of opposite sign give a NaN, and an exact zero is +0 unless both operands are
negative zeros (R61, R64, R65). -/
def addFV : FV → FV → FV
  | .nan, _ => .nan
  | _, .nan => .nan
  | .inf a, .inf b => if a = b then .inf a else .nan
  | .inf a, .fin _ _ _ => .inf a
  | .fin _ _ _, .inf b => .inf b
  | .fin a m e, .fin b n g =>
    let q := min e g
    let z := alignTo a m e q + alignTo b n g q
    if z = 0 then .fin (a && b && m = 0 && n = 0) 0 0 else .fin (decide (z < 0)) z.natAbs q

/-- The value with its sign inverted. -/
def negFV : FV → FV
  | .nan => .nan
  | .inf a => .inf (!a)
  | .fin a m e => .fin (!a) m e

/-- The value times 2 to the power `k`. -/
def scaleFV (k : Int) : FV → FV
  | .fin a m e => .fin a m (e + k)
  | v => v

/-- A binary32 lane as an exact value, and an exact value rounded once to binary32, to nearest even (R61). -/
def dec32 (x : Lane) : FV := decodeF fBinary32 x.toNat
def rne32 (v : FV) : Lane := BitVec.ofNat 32 (encodeF fBinary32 .rne false 0 v).1

/-- Binary32 add, subtract, multiply and fused multiply-add, each rounded once (R61, R135). -/
def fadd (a b : Lane) : Lane := rne32 (addFV (dec32 a) (dec32 b))
def fsub (a b : Lane) : Lane := rne32 (addFV (dec32 a) (negFV (dec32 b)))
def fmul (a b : Lane) : Lane := rne32 (mulFV (dec32 a) (dec32 b))
def ffma (a b c : Lane) : Lane := rne32 (addFV (mulFV (dec32 a) (dec32 b)) (dec32 c))

/-- The exact quotient with a sticky bit: enough bits that one rounding of it is one rounding of the
quotient itself. `p` is how many bits below the leading bit are kept. -/
def divFV (p : Nat) : FV → FV → FV
  | .nan, _ => .nan
  | _, .nan => .nan
  | .inf _, .inf _ => .nan
  | .inf a, .fin b _ _ => .inf (a != b)
  | .fin a _ _, .inf b => .fin (a != b) 0 0
  | .fin a m e, .fin b n g =>
    if n = 0 then (if m = 0 then .nan else .inf (a != b))
    else if m = 0 then .fin (a != b) 0 0
    else
      let s := p + 2 + (Nat.log2 n + 1)
      let q := (m <<< s) / n
      let st := if (m <<< s) % n = 0 then 0 else 1
      .fin (a != b) (2 * q + st) (e - g - s - 1)

/-- The integer square root, by bits from the top. -/
def isqrtAux : Nat → Nat → Nat → Nat
  | 0, _, acc => acc
  | k + 1, n, acc =>
    let t := acc + 2 ^ k
    isqrtAux k n (if t * t ≤ n then t else acc)
def isqrt (n : Nat) : Nat := isqrtAux (Nat.log2 n / 2 + 1) n 0

/-- The square root with a sticky bit, as `divFV`: a negative value gives a NaN, and zero keeps its sign. -/
def sqrtFV (p : Nat) : FV → FV
  | .nan => .nan
  | .inf neg => if neg then .nan else .inf false
  | .fin neg m e =>
    if m = 0 then .fin neg 0 0
    else if neg then .nan
    else
      let s0 := 2 * (p + 2)
      let s := if (e - s0) % 2 = 0 then s0 else s0 + 1
      let n := m <<< s
      let r := isqrt n
      .fin false (2 * r + (if r * r = n then 0 else 1)) ((e - s) / 2 - 1)

/-- Order of two values that are not NaN: below, equal or above; -0 equals +0. -/
def cmpFV : FV → FV → Ordering
  | .inf a, .inf b => if a = b then .eq else if a then .lt else .gt
  | .inf a, _ => if a then .lt else .gt
  | _, .inf b => if b then .gt else .lt
  | .fin a m e, .fin b n g =>
    let q := min e g
    compare (alignTo a m e q) (alignTo b n g q)
  | _, _ => .eq

def FV.isNan : FV → Bool
  | .nan => true
  | _ => false

/-- FMAX and FMIN: NaN if either operand is NaN, and -0 below +0 (R135). -/
def fmaxmin (isMax : Bool) (a b : Lane) : Lane :=
  let x := dec32 a
  let y := dec32 b
  if x.isNan || y.isNan then 0x7FC0_0000#32
  else match cmpFV x y with
    | .lt => if isMax then b else a
    | .gt => if isMax then a else b
    | .eq => if isMax then (if a.toNat < 2 ^ 31 then a else b) else (if a.toNat < 2 ^ 31 then b else a)

/-- FABS and FNEG; a NaN gives the canonical NaN (R64, R135). -/
def fabs (a : Lane) : Lane := if (dec32 a).isNan then 0x7FC0_0000#32 else a &&& 0x7FFF_FFFF#32
def fneg (a : Lane) : Lane := if (dec32 a).isNan then 0x7FC0_0000#32 else a ^^^ 0x8000_0000#32

/-- The conditions of FCMP (R135): 0 EQ, 1 NE, 2 LT, 3 LE, 4 GT, 5 GE, 6 unordered. -/
def fcmp (k : Nat) (a b : Lane) : Bool :=
  let x := dec32 a
  let y := dec32 b
  if x.isNan || y.isNan then k == 1 || k == 6
  else
    let o := cmpFV x y
    match k with
    | 0 => o == .eq
    | 1 => o != .eq
    | 2 => o == .lt
    | 3 => o != .gt
    | 4 => o == .gt
    | 5 => o != .lt
    | _ => false

/-- The conditions of ICMP (R135): 0 EQ, 1 NE, 2 LT, 3 LE, 4 LTU, 5 LEU. -/
def icmp (k : Nat) (a b : Lane) : Bool :=
  match k with
  | 0 => a == b
  | 1 => a != b
  | 2 => a.slt b
  | 3 => a.sle b
  | 4 => a.ult b
  | _ => a.ule b

/-- An element format of R99 (codes 0x00 to 0x10). -/
inductive Fmt where
  | binary32 | binary16 | bfloat16 | e4m3 | e5m2 | e3m2 | e2m3 | e2m1 | int8 | int32
  | mxE4m3 | mxE5m2 | mxE3m2 | mxE2m3 | mxFp4 | mxInt8 | bx32
  deriving DecidableEq, Repr

/-- The format of a 5-bit format code; 0x11 to 0x1F are reserved (R99). -/
def fmtOf (c : Nat) : Option Fmt :=
  [Fmt.binary32, .binary16, .bfloat16, .e4m3, .e5m2, .e3m2, .e2m3, .e2m1, .int8, .int32,
   .mxE4m3, .mxE5m2, .mxE3m2, .mxE2m3, .mxFp4, .mxInt8, .bx32][c]?

/-- Bits per element (R99). -/
def Fmt.w : Fmt → Nat
  | .binary32 => 32 | .binary16 => 16 | .bfloat16 => 16 | .e4m3 => 8 | .e5m2 => 8 | .e3m2 => 6 | .e2m3 => 6
  | .e2m1 => 4 | .int8 => 8 | .int32 => 32 | .mxE4m3 => 8 | .mxE5m2 => 8 | .mxE3m2 => 6 | .mxE2m3 => 6
  | .mxFp4 => 4 | .mxInt8 => 8 | .bx32 => 128

def Fmt.isMx : Fmt → Bool
  | .mxE4m3 | .mxE5m2 | .mxE3m2 | .mxE2m3 | .mxFp4 | .mxInt8 => true
  | _ => false

/-- Integer destinations of R71: INT8, INT32 and MXINT8. -/
def Fmt.isInt : Fmt → Bool
  | .int8 | .int32 | .mxInt8 => true
  | _ => false

/-- The floating-point layout of a format or of an MX format's elements; `none` for integers and BX32. -/
def Fmt.layout : Fmt → Option FFmt
  | .binary32 => some fBinary32 | .binary16 => some fBinary16 | .bfloat16 => some fBfloat16
  | .e4m3 | .mxE4m3 => some fE4M3 | .e5m2 | .mxE5m2 => some fE5M2
  | .e3m2 | .mxE3m2 => some fE3M2 | .e2m3 | .mxE2m3 => some fE2M3
  | .e2m1 | .mxFp4 => some fE2M1
  | _ => none

/-- The exact value of an element code in lane form; an MXINT8 element is its integer times 2 to the power
-6, and an MX element is without its block's scale (R62, R66, R68). -/
def decodeElem (f : Fmt) (c : Nat) : FV :=
  match f.layout with
  | some l => decodeF l (c % 2 ^ f.w)
  | none =>
    match f with
    | .int8 => fvOfInt (toSigned 8 c)
    | .int32 => fvOfInt (toSigned 32 c)
    | .mxInt8 => scaleFV (-6) (fvOfInt (toSigned 8 c))
    | _ => .nan

/-- Converts an exact value into a scalar format under R72 and R73; the code is in lane form. -/
def encodeElem (f : Fmt) (rnd : Rnd) (sat : Bool) (r : Nat) (v : FV) : Nat × Bool :=
  match f.layout with
  | some l => encodeF l rnd sat r v
  | none =>
    match f with
    | .int8 => let p := encodeI (-128) 127 rnd r v; (ofSigned 8 p.1, p.2)
    | .int32 => let p := encodeI (-2147483648) 2147483647 rnd r v; (ofSigned 32 p.1, p.2)
    | _ => (0, false)

/-- The mode a 2-bit `RND` field names (R71): 0b11 is reserved. -/
def rndOf (c : Nat) : Option Rnd :=
  match c with
  | 0 => some .rne
  | 1 => some .sr
  | 2 => some .rtz
  | _ => none

/-- The mode that `RND` names for a destination; `none` raises the illegal-instruction fault (R71). -/
def rndFor (c : Nat) (dst : Fmt) : Option Rnd :=
  match rndOf c with
  | some .rtz => if dst.isInt then some .rtz else none
  | x => x

/-- Ten rounds of Philox4x32 (R74). -/
def philoxRounds : Nat → (Nat × Nat × Nat × Nat) → (Nat × Nat) → (Nat × Nat × Nat × Nat)
  | 0, c, _ => c
  | n + 1, (c0, c1, c2, c3), (k0, k1) =>
    let p0 := 0xD251_1F53 * c0
    let p1 := 0xCD9E_8D57 * c2
    philoxRounds n
      ((p1 / 2 ^ 32) ^^^ c1 ^^^ k0, p1 % 2 ^ 32, (p0 / 2 ^ 32) ^^^ c3 ^^^ k1, p0 % 2 ^ 32)
      ((k0 + 0x9E37_79B9) % 2 ^ 32, (k1 + 0xBB67_AE85) % 2 ^ 32)

/-- The random word of element `i` of tensor `t` under job seed `k` (R74). -/
def philox (k i t : Nat) : Nat :=
  let j := i % 2 ^ 64 / 4
  let o := philoxRounds 10 (j % 2 ^ 32, j / 2 ^ 32, t % 2 ^ 32, 0) (k % 2 ^ 32, k / 2 ^ 32 % 2 ^ 32)
  match i % 4 with
  | 0 => o.1
  | 1 => o.2.1
  | 2 => o.2.2.1
  | _ => o.2.2.2

/-- The element emax of an MX format (R68). -/
def mxEmax : Fmt → Int
  | .mxE4m3 => 8 | .mxE5m2 => 15 | .mxE3m2 => 4 | .mxE2m3 => 2 | .mxFp4 => 2 | _ => 0

/-- The element's value under its block's scale byte (R69). -/
def decodeMx (f : Fmt) (scale c : Nat) : FV :=
  if scale = 0xFF then .nan else scaleFV ((scale : Int) - 127) (decodeElem f c)

/-- The larger of two exponents of the values other than zero. -/
def maxExp : List FV → Option Int
  | [] => none
  | .fin _ m e :: vs =>
    if m = 0 then maxExp vs
    else match maxExp vs with
      | none => some (fvExp m e)
      | some x => some (max x (fvExp m e))
  | _ :: vs => maxExp vs

def FV.isFin : FV → Bool
  | .fin _ _ _ => true
  | _ => false

/-- One element of an encoded block: the conversion of the exact quotient, saturated (R70 step 3). -/
def mxElem (f : Fmt) (rnd : Rnd) (scale r : Nat) (v : FV) : Nat :=
  let q := scaleFV (127 - (scale : Int)) v
  match f.layout with
  | some l => (encodeF l rnd true r q).1
  | none => ofSigned 8 (encodeI (-127) 127 rnd r (scaleFV 6 q)).1

/-- The zero element of a value's sign, 0x00 for MXINT8 (R70 step 2). -/
def mxZero (f : Fmt) : FV → Nat
  | .fin neg _ _ => if f = .mxInt8 then 0 else b2n neg * 2 ^ (f.w - 1)
  | _ => 0

/-- MX encoding of one block of source values with their random words: scale and elements (R70). -/
def encodeMx (f : Fmt) (rnd : Rnd) (vs : List (FV × Nat)) : Nat × List Nat :=
  if vs.any (fun v => !v.1.isFin) then (0xFF, vs.map (fun _ => 0))
  else match maxExp (vs.map (·.1)) with
    | none => (0x7F, vs.map (fun v => mxZero f v.1))
    | some a =>
      let scale := (max 0 (min 254 (a - mxEmax f + 127))).toNat
      (scale, vs.map (fun v => mxElem f rnd scale v.2 v.1))

/-- Whether an MX conversion is invalid: R145 has MXPK and TSTACC set the flag for a NaN to FP6, FP4 or INT8, and R70 step 1 names no
invalid result. DEDUCED: a NaN source sets it where the format's elements are FP6, FP4 or INT8 (log entry 156). -/
def mxInvalid (f : Fmt) (vs : List FV) : Bool := !(f == .mxE4m3 || f == .mxE5m2) && vs.any FV.isNan

/-- The integer that a finite value is, if it is one. -/
def fvInt : FV → Option Int
  | .fin neg m e =>
    if e ≥ 0 then some (alignTo neg m e 0)
    else if m % 2 ^ (-e).toNat = 0 then
      let n : Int := m >>> (-e).toNat
      some (if neg then -n else n)
    else none
  | _ => none

/-- The power of two that a finite positive value is, if it is one. -/
def fvPow2 : FV → Option Int
  | .fin false m e => if m ≠ 0 && m = 2 ^ Nat.log2 m then some (fvExp m e) else none
  | _ => none

/-- sin(πx) and cos(πx) at integers and odd multiples of 0.5 (R140, R141); `none` elsewhere. -/
def sinpiExact (neg : Bool) (v : FV) : Option Lane :=
  match fvInt v with
  | some _ => some (if neg then 0x8000_0000#32 else 0)
  | none =>
    match fvInt (scaleFV 1 v) with
    | some k => some (if k % 4 = 1 then 0x3F80_0000#32 else 0xBF80_0000#32)
    | none => none
def cospiExact (v : FV) : Option Lane :=
  match fvInt v with
  | some k => some (if k % 2 = 0 then 0x3F80_0000#32 else 0xBF80_0000#32)
  | none =>
    match fvInt (scaleFV 1 v) with
    | some _ => some 0
    | none => none

end Sys2Proof.Machine
end

