-- ==== Sys2Proof/Machine/Bx32.lean ====
section
/-! DEFINITION. BX32, the binned exact accumulation format (R76 to R84). -/
namespace Sys2Proof.Machine

/-- A BX32 value (R76): its two folds as integers, its bin and its flags. -/
structure BX where
  fold0 : Int
  fold1 : Int
  bin : Nat
  nan : Bool
  pinf : Bool
  ninf : Bool
  ovf : Bool
  deriving DecidableEq, Repr

/-- The empty value (R76). -/
def BX.empty : BX := ⟨0, 0, 0, false, false, false, false⟩

/-- The value that 128 bits hold; a reserved bin reads as NaN with folds and bin zero, its other flags kept
(R76, R82). -/
def bxOfNat (n : Nat) : BX :=
  let b := bits 15 4 n
  if b < 12 then
    ⟨toSigned 56 (bits 127 72 n), toSigned 56 (bits 71 16 n), b, bit 3 n, bit 2 n, bit 1 n, bit 0 n⟩
  else ⟨0, 0, 0, true, bit 2 n, bit 1 n, bit 0 n⟩

/-- The 128 bits of a value (R76). -/
def BX.toNat (a : BX) : Nat :=
  ofSigned 56 a.fold0 * 2 ^ 72 + ofSigned 56 a.fold1 * 2 ^ 16 + a.bin % 2 ^ 12 * 16 +
  b2n a.nan * 8 + b2n a.pinf * 4 + b2n a.ninf * 2 + b2n a.ovf

/-- `add56` of R78: the sum modulo 2^56, and whether it left the 56-bit range. -/
def add56 (f v : Int) : Int × Bool :=
  let s := f + v
  (toSigned 56 (ofSigned 56 s), decide (s < -(2 ^ 55 : Int)) || decide (s > 2 ^ 55 - 1))

/-- Renormalising to a bin at or above the value's own (R79). -/
def BX.renorm (a : BX) (b : Nat) : BX :=
  let n := b - a.bin
  if n = 0 then a
  else if n = 1 then { a with fold1 := a.fold0, fold0 := 0, bin := b }
  else { a with fold1 := 0, fold0 := 0, bin := b }

/-- Depositing a finite addend, as its parts: sign, biased exponent at least 1, significand (R78). -/
def BX.depositFin (a : BX) (neg : Bool) (ex m : Nat) : BX :=
  let p := ex + Nat.log2 m
  let t := p / 24
  let d : Int := 24 * (t : Int) - ex
  let hi0 : Nat := if d ≤ 0 then m <<< (-d).toNat else m >>> d.toNat
  let lo0 : Nat := if d ≤ 0 then 0 else (m % 2 ^ d.toNat) <<< (24 - d.toNat)
  let hi : Int := if neg then -(hi0 : Int) else hi0
  let lo : Int := if neg then -(lo0 : Int) else lo0
  let a := if t > a.bin then a.renorm t else a
  if t = a.bin then
    let x := add56 a.fold0 hi
    let y := add56 a.fold1 lo
    { a with fold0 := x.1, fold1 := y.1, ovf := a.ovf || x.2 || y.2 }
  else if t + 1 = a.bin then
    let y := add56 a.fold1 hi
    { a with fold1 := y.1, ovf := a.ovf || y.2 }
  else a

/-- Depositing a binary32 addend (R78). -/
def BX.deposit (a : BX) (x : Lane) : BX :=
  match dec32 x with
  | .nan => { a with nan := true }
  | .inf neg => if neg then { a with ninf := true } else { a with pinf := true }
  | .fin neg m _ =>
    if m = 0 then a else a.depositFin neg (max (bits 30 23 x.toNat) 1) m

/-- Merging two values (R80). -/
def BX.merge (a c : BX) : BX :=
  let b := max a.bin c.bin
  let a' := a.renorm b
  let c' := c.renorm b
  let x := add56 a'.fold0 c'.fold0
  let y := add56 a'.fold1 c'.fold1
  { fold0 := x.1, fold1 := y.1, bin := b, nan := a.nan || c.nan, pinf := a.pinf || c.pinf,
    ninf := a.ninf || c.ninf, ovf := a.ovf || c.ovf || x.2 || y.2 }

/-- The exact value that a finalise rounds, specials included (R81). -/
def BX.value (a : BX) : FV :=
  if a.nan || a.ovf || (a.pinf && a.ninf) then .nan
  else if a.pinf then .inf false
  else if a.ninf then .inf true
  else
    let z := a.fold0 * 2 ^ 24 + a.fold1
    .fin (decide (z < 0)) z.natAbs (24 * (a.bin : Int) - 174)

/-- Finalising to a floating-point format with one rounding (R81). -/
def BX.finalise (a : BX) (f : FFmt) (rnd : Rnd) (sat : Bool) (r : Nat) : Nat :=
  (encodeF f rnd sat r a.value).1

end Sys2Proof.Machine
end

