-- ==== Sys2Proof/Machine/Operands.lean ====
section
/-! DEFINITION. The instruction frame and its fields, the encoding checks of every group, and tile descriptors
(R96 to R103, R110 to R112, R115 to R117, R127, R130 to R140). -/
namespace Sys2Proof.Machine

/-- GRP and OP of a word (R96). -/
def fGrp (w : Word) : Nat := bits 63 62 w.toNat
def fOp (w : Word) : Nat := bits 61 56 w.toNat

/-- A mask of bits hi to lo. -/
def fieldMask (hi lo : Nat) : Nat := 2 ^ (hi + 1) - 2 ^ lo

/-- Whether a word has no bit set in its operand part outside a mask (R97). -/
def onlyIn (mask : Nat) (w : Word) : Bool := (w.toNat % 2 ^ 56) &&& (2 ^ 56 - 1 - mask) == 0

/-- Sign extension of the low `k` bits to 64 bits. -/
def sext64 (k n : Nat) : Word := BitVec.ofInt 64 (toSigned k n)

/-! C-op fields (R115). -/
def cSD (w : Word) : Nat := bits 55 51 w.toNat
def cSA (w : Word) : Nat := bits 50 46 w.toNat
def cSB (w : Word) : Nat := bits 45 41 w.toNat
def cCNT (w : Word) : Nat := bits 40 35 w.toNat
def cIMM (w : Word) : Word := sext64 32 w.toNat

def mSDf : Nat := fieldMask 55 51
def mSAf : Nat := fieldMask 50 46
def mSBf : Nat := fieldMask 45 41
def mCNTf : Nat := fieldMask 40 35
def mIMMf : Nat := fieldMask 31 0

/-- The operand bits that each C-op uses; `none` for an `OP` that R116 does not list. -/
def cMask (op : Nat) : Option Nat :=
  if op ≤ 2 then some 0
  else if op ≤ 4 then some (mSDf + mIMMf)
  else if op ≤ 0x11 then some (mSDf + mSAf + mSBf + mIMMf)
  else if op ≤ 0x17 then some (mSAf + mSBf + mIMMf)
  else match op with
    | 0x18 => some (mSDf + mIMMf)
    | 0x19 => some mSAf
    | 0x1A => some (mSDf + mIMMf)
    | 0x1B | 0x1C | 0x1D => some (mSAf + mCNTf + mIMMf)
    | 0x1E => some (mSDf + mCNTf)
    | 0x1F => some (fieldMask 2 0)
    | 0x20 | 0x21 => some mSDf
    | _ => none

/-! T-op fields (R103). -/
def tZ (w : Word) : Bool := bit 55 w.toNat
def tACC (w : Word) : Nat := bits 54 54 w.toNat
def tTA (w : Word) : Nat := bits 53 51 w.toNat
def tTB (w : Word) : Nat := bits 50 48 w.toNat
def tSA (w : Word) : Nat := bits 47 43 w.toNat
def tSB (w : Word) : Nat := bits 42 38 w.toNat
def tRND (w : Word) : Nat := bits 37 36 w.toNat
def tSAT (w : Word) : Bool := bit 35 w.toNat
def tCE (w : Word) : Bool := bit 34 w.toNat
def tCNT (w : Word) : Nat := bits 33 28 w.toNat
def tIMM (w : Word) : Word := sext64 24 w.toNat

/-- The operand bits that each T-op uses (R104); every T-op accepts CE and CNT. -/
def tMask (op : Nat) : Option Nat :=
  let ce := fieldMask 34 28
  match op with
  | 0x00 => some (ce + fieldMask 53 51 + fieldMask 47 43 + fieldMask 23 0)
  | 0x01 => some (ce + fieldMask 53 51 + fieldMask 47 43 + fieldMask 42 38)
  | 0x02 => some (ce + fieldMask 54 54)
  | 0x03 => some (ce + fieldMask 54 51)
  | 0x04 => some (ce + fieldMask 54 51 + fieldMask 37 35)
  | 0x10 | 0x11 | 0x12 | 0x13 | 0x14 => some (ce + fieldMask 55 48)
  | _ => none

/-! M-op fields (R110). -/
def oSD (w : Word) : Nat := bits 55 51 w.toNat
def oSS (w : Word) : Nat := bits 50 46 w.toNat
def oSL (w : Word) : Nat := bits 45 41 w.toNat
def oCE (w : Word) : Bool := bit 40 w.toNat
def oCNT (w : Word) : Nat := bits 39 34 w.toNat
def oRCE (w : Word) : Bool := bit 33 w.toNat
def oRCORE (w : Word) : Nat := bits 32 24 w.toNat
def oRCNT (w : Word) : Nat := bits 23 18 w.toNat

/-- The operand bits that each M-op uses (R111). -/
def mMask (op : Nat) : Option Nat :=
  match op with
  | 0x00 => some (fieldMask 55 34)
  | 0x01 | 0x02 => some (fieldMask 55 18)
  | 0x03 => some (fieldMask 45 18)
  | 0x04 => some (fieldMask 55 51 + fieldMask 45 18)
  | 0x05 => some (fieldMask 50 46 + fieldMask 40 34)
  | _ => none

/-! V-op fields (R127). -/
def vVD (w : Word) : Nat := bits 55 51 w.toNat
def vVA (w : Word) : Nat := bits 50 46 w.toNat
def vVB (w : Word) : Nat := bits 45 41 w.toNat
def vVC (w : Word) : Nat := bits 40 36 w.toNat
def vSA (w : Word) : Nat := bits 35 31 w.toNat
def vPG (w : Word) : Nat := bits 30 28 w.toNat
def vPZ (w : Word) : Bool := bit 27 w.toNat
def vFMT (w : Word) : Nat := bits 26 22 w.toNat
def vRND (w : Word) : Nat := bits 21 20 w.toNat
def vSAT (w : Word) : Bool := bit 19 w.toNat
def vCE (w : Word) : Bool := bit 18 w.toNat
def vCNT (w : Word) : Nat := bits 17 12 w.toNat
def vIMM (w : Word) : Nat := bits 11 0 w.toNat
def vIMMs (w : Word) : Word := sext64 12 w.toNat

def kVD : Nat := fieldMask 55 51
def kVA : Nat := fieldMask 50 46
def kVB : Nat := fieldMask 45 41
def kVC : Nat := fieldMask 40 36
def kSA : Nat := fieldMask 35 31
def kPG : Nat := fieldMask 30 28
def kPZ : Nat := fieldMask 27 27
def kFMT : Nat := fieldMask 26 22
def kRND : Nat := fieldMask 21 19
def kIMM : Nat := fieldMask 11 0
def kPD : Nat := fieldMask 53 51
def kPA : Nat := fieldMask 48 46
def kPB : Nat := fieldMask 43 41
def kPC : Nat := fieldMask 38 36

/-- The operand bits that each V-op uses (R130, R135 to R140); every V-op accepts CE and CNT (R144). A
predicate field stands in the low three bits of its field (R127). -/
def vMask (w : Word) : Option Nat :=
  let ce := fieldMask 18 12
  let g := kPG + kPZ
  match fOp w with
  | 0x00 => some (ce + kVD + kSA + g + kFMT + kIMM)
  | 0x01 => some (ce + kVD + kSA + kVB + g + kFMT + kIMM)
  | 0x02 => some (ce + kVA + kSA + kPG + kFMT + kIMM)
  | 0x03 => some (ce + kVA + kSA + kVB + kPG + kFMT + kIMM)
  | 0x04 => some (ce + kVD + kVA + kSA + g + kFMT + kIMM)
  | 0x05 | 0x06 => some (ce + kVA + kVB + kSA + kPG + kFMT + kIMM)
  | 0x07 => some (ce + kVD + kSA + g)
  | 0x08 => some (ce + kVD + kVA + kSA)
  | 0x09 => some (ce + kVD + kSA + g + kIMM)
  | 0x13 => some (ce + kVD + kVA + kVB + kVC + g)
  | 0x16 | 0x17 => some (ce + kVD + kVA + g)
  | 0x24 | 0x25 => some (ce + kPD + kVA + kVB + g + fieldMask 2 0)
  | 0x26 => some (ce + kVD + kVA + kVB + kPC + g)
  | 0x28 => some (ce + kPD + kPA + kPB + fieldMask 1 0)
  | 0x29 => some (ce + kPD + kSA)
  | 0x2A => some (ce + kVD + kPA)
  | 0x2C => some (ce + kVD + kVA + kVB + g)
  | 0x2D => some (ce + kVD + kVA + kSA + g + kIMM)
  | 0x30 => some (ce + kVD + kVA + kPG + fieldMask 1 0)
  | 0x31 => some (ce + kVD + kVA + kPG + fieldMask 0 0 + (if bit 0 w.toNat then 0 else kFMT))
  | 0x34 => some (ce + kVD + kVA + g + kFMT + kRND + fieldMask 4 0 + (if vRND w = 1 then kVB + kSA else 0))
  | 0x35 => some (ce + kVD + kVA + kVC + kFMT + kRND + (if vRND w = 1 then kVB + kSA else 0))
  | 0x36 => some (ce + kVD + kVA + kVC + kFMT)
  | 0x38 | 0x3A => some (ce + kVD + kVA + g + kFMT)
  | 0x39 => some (ce + kVD + kVA + kVB + g)
  | 0x3C => some (ce + kVD + kVA + g + fieldMask 3 0)
  | op =>
    if (0x10 ≤ op && op ≤ 0x15) || (0x18 ≤ op && op ≤ 0x22) then some (ce + kVD + kVA + kVB + g) else none

def mult4 (n : Nat) : Bool := n % 4 == 0

/-- The format, selector, quad and rounding checks of a V-op (R125, R130, R135 to R140, R146). -/
def vLegalSel (w : Word) : Bool :=
  let f := fmtOf (vFMT w)
  let isBx := f == some .bx32
  let wide := match f with
    | some x => decide (x.w ≥ 8) && !(x == .mxE3m2 || x == .mxE2m3 || x == .mxFp4)
    | none => false
  match fOp w with
  | 0x00 => f.isSome && (!isBx || mult4 (vVD w))
  | 0x01 | 0x04 => wide && (!isBx || mult4 (vVD w))
  | 0x02 => f.isSome && (!isBx || mult4 (vVA w))
  | 0x03 | 0x05 => wide && (!isBx || mult4 (vVA w))
  | 0x06 => f == some .binary32 || f == some .int32 || isBx
  | 0x24 => decide (vIMM w ≤ 6)
  | 0x25 => decide (vIMM w ≤ 5)
  | 0x31 =>
    mult4 (vVD w) && (if bit 0 w.toNat then mult4 (vVA w) else decide (vFMT w ≤ 2))
  | 0x34 =>
    decide (vFMT w ≤ 9) && decide (vIMM w ≤ 9) &&
      (match fmtOf (vIMM w) with
        | some d => (rndFor (vRND w) d).isSome
        | none => false)
  | 0x35 =>
    (match f with
      | some d => d.isMx && (rndFor (vRND w) d).isSome
      | none => false)
  | 0x36 => (match f with
      | some d => d.isMx
      | none => false)
  | 0x38 => mult4 (vVD w) && decide (vFMT w ≤ 2)
  | 0x39 => mult4 (vVD w) && mult4 (vVA w) && mult4 (vVB w)
  | 0x3A => mult4 (vVA w) && (vFMT w == 0 || vFMT w == 2)
  | 0x3C => decide (vIMM w ≤ 10)
  | _ => true

/-- Whether a word's `OP` is listed for its group (R97). -/
def listed (w : Word) : Bool :=
  match fGrp w with
  | 0 => (cMask (fOp w)).isSome
  | 1 => (tMask (fOp w)).isSome
  | 2 => (mMask (fOp w)).isSome
  | _ => (vMask w).isSome

/-- Whether a counter is in a grant mask (R93). -/
def granted (mask : Word) (cnt : Nat) : Bool := bit cnt mask.toNat

/-- The encoding and grant checks made at issue (R93, R97, R92, R71, R112, R146): whether the word is a
legal instruction for a context with these grants. -/
def legal (w : Word) (grant : Word) (acc0 acc1 : Bool) : Bool :=
  match fGrp w with
  | 0 =>
    (match cMask (fOp w) with
      | some m => onlyIn m w
      | none => false) &&
    (if 0x1B ≤ fOp w && fOp w ≤ 0x1E then granted grant (cCNT w) else true)
  | 1 =>
    (match tMask (fOp w) with
      | some m => onlyIn m w
      | none => false) &&
    (if tCE w then granted grant (tCNT w) else true) &&
    (if fOp w ≥ 2 then (if tACC w = 0 then acc0 else acc1) else true)
  | 2 =>
    (match mMask (fOp w) with
      | some m => onlyIn m w
      | none => false) &&
    (if oCE w then granted grant (oCNT w) else true) &&
    decide (oRCORE w < 288) &&
    (if fOp w = 3 || fOp w = 4 then oRCE w else true)
  | _ =>
    (match vMask w with
      | some m => onlyIn m w
      | none => false) && vLegalSel w &&
    (if vCE w then granted grant (vCNT w) else true)

/-! Tile descriptors (R99 to R102). -/

/-- The fields of a tile descriptor (R100). -/
structure TileD where
  index : Nat
  tensor : Nat
  scale : Nat
  base : Nat
  stride : Nat
  rows : Nat
  cols : Nat
  fmt : Nat
  mxaxis : Nat
  ipitch : Nat
  rsvd : Nat
  deriving DecidableEq, Repr

/-- The descriptor in 256 bits (R100). -/
def tileOf (d : BitVec 256) : TileD :=
  let n := d.toNat
  { index := bits 255 192 n, tensor := bits 191 160 n, scale := bits 159 138 n, base := bits 127 106 n,
    stride := bits 105 90 n, rows := bits 89 77 n, cols := bits 76 64 n, fmt := bits 63 59 n,
    mxaxis := bits 58 58 n, ipitch := bits 57 26 n, rsvd := bits 137 128 n + bits 25 0 n }

/-- The validity of a descriptor (R101). -/
def TileD.valid (t : TileD) : Bool :=
  match fmtOf t.fmt with
  | none => false
  | some f =>
    let rb := t.cols * f.w / 8
    t.rsvd == 0 && decide (1 ≤ t.rows) && decide (t.rows ≤ 4096) && decide (1 ≤ t.cols) &&
    decide (t.cols ≤ 4096) && t.base % 32 == 0 && decide (rb ≤ t.stride * 32) && decide (1 ≤ t.stride) &&
    (if f.w = 6 then t.cols % 4 == 0 && t.stride % 3 == 0 else true) &&
    (if f.w = 4 then t.cols % 2 == 0 else true) &&
    decide (t.base + (t.rows - 1) * t.stride * 32 + rb ≤ 0x30_0000) &&
    (if f.isMx then
      (if t.mxaxis = 0 then t.cols else t.rows) % 32 == 0 && decide (t.scale + t.rows * t.cols / 32 ≤ 0x30_0000)
    else t.scale == 0 && t.mxaxis == 0)

/-- The tensor index of element (r, c) (R102). -/
def TileD.elemIndex (t : TileD) (r c : Nat) : Nat := (t.index + r * t.ipitch + c) % 2 ^ 64

/-- The scratchpad offset of the scale byte of element (r, c) (R102). -/
def TileD.scaleOff (t : TileD) (r c : Nat) : Nat :=
  if t.mxaxis = 0 then t.scale + r * t.cols / 32 + c / 32 else t.scale + r / 32 * t.cols + c

/-- The `w`-bit element `i` of a packed array at byte offset `a`, read through a byte reader (R67). -/
def packedGet (rd : Nat → Byte) (a w i : Nat) : Nat :=
  let b := w * i
  let k := (b % 8 + w + 7) / 8
  (leNat ((List.range k).map (fun j => rd (a + b / 8 + j))) >>> (b % 8)) % 2 ^ w

/-- The code of element (r, c) of a tile (R99, R67). -/
def TileD.code (t : TileD) (rd : Nat → Byte) (f : Fmt) (r c : Nat) : Nat :=
  packedGet rd (t.base + r * t.stride * 32) f.w c

/-- Every byte offset that a tile's elements occupy, and those of its scale array (R101, R102). -/
def TileD.bytesOf (t : TileD) (f : Fmt) : List Nat :=
  (List.range t.rows).flatMap (fun r =>
    (List.range ((t.cols * f.w + 7) / 8)).map (fun j => t.base + r * t.stride * 32 + j)) ++
  (if f.isMx then (List.range (t.rows * t.cols / 32)).map (fun j => t.scale + j) else [])

end Sys2Proof.Machine
end

