-- ==== Sys2Proof/Machine/Tensor.lean ====
section
/-! DEFINITION. The tensor engine's arithmetic: the checks a T-op makes when it starts, and its effect on tile
registers, accumulator sets and scratchpad (R104 to R108). -/
namespace Sys2Proof.Machine

/-- A context's slot, and a core with a slot replaced. -/
def Core.slot (c : Core) (k : Nat) : Ctx := tget Ctx.blank c.ctx k
def Core.withSlot (c : Core) (k : Nat) (x : Ctx) : Core := { c with ctx := tset Ctx.blank c.ctx k x }

/-- An accumulator set by its number, and its replacement (R103). -/
def Core.acc (c : Core) (k : Nat) : AccSet := if k = 0 then c.acc0 else c.acc1
def Core.withAcc (c : Core) (k : Nat) (a : AccSet) : Core :=
  if k = 0 then { c with acc0 := a } else { c with acc1 := a }

/-- The row of R105 that a format stands in, for an MMA of the class of an `OP`. -/
def mmaRow (op : Nat) (f : Fmt) : Option Nat :=
  match op, f with
  | 0x10, .e2m1 | 0x10, .e3m2 | 0x10, .e2m3 => some 1
  | 0x10, .mxFp4 | 0x10, .mxE3m2 | 0x10, .mxE2m3 => some 2
  | 0x11, .e4m3 | 0x11, .e5m2 => some 3
  | 0x11, .mxE4m3 | 0x11, .mxE5m2 => some 4
  | 0x11, .mxInt8 => some 5
  | 0x12, .binary16 | 0x12, .bfloat16 => some 6
  | 0x13, .binary32 => some 7
  | 0x14, .int8 => some 8
  | _, _ => none

/-- The type an MMA's class gives the set (R105, R108). -/
def mmaTag (op : Nat) : AccTag := if op = 0x14 then .int else .fp

/-- A loaded tile register that holds a valid descriptor. -/
def tileReg (x : Ctx) (r : Nat) : Option (TileD × Fmt) :=
  match tfind x.treg r with
  | none => none
  | some d =>
    match fmtOf (tileOf d).fmt with
    | none => none
    | some f => some (tileOf d, f)

/-- The operand classes of an MMA (R105, R108). -/
def mmaOk (op : Nat) (z : Bool) (tag : AccTag) (a b : TileD × Fmt) : Bool :=
  decide (a.1.rows ≤ 128) && decide (b.1.cols ≤ 96) && decide (b.1.rows = a.1.cols) &&
  (match mmaRow op a.2, mmaRow op b.2 with
    | some x, some y => x == y
    | _, _ => false) &&
  (if a.2.isMx then a.1.mxaxis == 0 && b.1.mxaxis == 1 && a.1.cols % 32 == 0 else true) &&
  (z || tag == .untyped || tag == mmaTag op)

/-- TADV's new descriptor (R104): the sums are formed in 64 bits before the check. -/
def tadv (d : BitVec 256) (sa sb : Word) : Option (BitVec 256) :=
  let t := tileOf d
  let nb := (t.base + sa.toNat) % 2 ^ 64
  let ni := (t.index + sb.toNat) % 2 ^ 64
  if nb < 2 ^ 22 && { t with base := nb, index := ni }.valid then
    some (BitVec.ofNat 256 (d.toNat - t.base * 2 ^ 106 - t.index * 2 ^ 192 + nb * 2 ^ 106 + ni * 2 ^ 192))
  else none

/-- The faults a T-op raises when it starts (R104): the fault code and FAULT.INFO. Where a TSTACC fails the check of R71 and an
operand-class check at once the manual gives no order; DESIGN CHOICE: the illegal-instruction fault comes first (log entry 155). -/
def tStartFault (c : Core) (q : QOp) : Option (Nat × Nat) :=
  let x := c.slot q.slot
  let ta := tTA q.w
  let a := c.acc (tACC q.w)
  match fOp q.w with
  | 0x00 => if (tileOf (BitVec.ofNat 256 q.data)).valid then none else some (3, ta)
  | 0x01 =>
    (match tfind x.treg ta with
      | none => some (3, ta)
      | some d => if (tadv d q.sa q.sb).isSome then none else some (3, ta))
  | 0x02 => none
  | 0x03 =>
    (match tileReg x ta with
      | none => some (3, ta)
      | some (t, f) =>
        let tag : AccTag := if f = .int32 then .int else .fp
        if (f = .binary32 || f = .int32) && t.rows ≤ 128 && t.cols ≤ 96 &&
          (a.tag == .untyped || a.tag == tag) then none else some (4, 0))
  | 0x04 =>
    (match tileReg x ta with
      | none => some (3, ta)
      | some (t, f) =>
        if (rndFor (tRND q.w) f).isNone then some (1, 0)
        else if t.rows ≤ 128 && t.cols ≤ 96 && f != .bx32 && !(a.tag == .fp && (f == .int8 || f == .int32)) then none
        else some (4, 0))
  | op =>
    (match tileReg x ta, tileReg x (tTB q.w) with
      | none, _ => some (3, ta)
      | _, none => some (3, tTB q.w)
      | some a', some b' => if mmaOk op (tZ q.w) a.tag a' b' then none else some (4, 0))

/-- One level of the fixed pairwise tree (R106, R136). -/
def pairLevel (add : Lane → Lane → Lane) : List Lane → List Lane
  | a :: b :: xs => add a b :: pairLevel add xs
  | xs => xs
def pairTree (add : Lane → Lane → Lane) : Nat → List Lane → List Lane
  | 0, xs => xs
  | n + 1, xs => pairTree add n (pairLevel add xs)

/-- The sum of one k-block of an element, before its MX scale (R106). -/
def mmaBlock (rd : Nat → Byte) (a b : TileD × Fmt) (i j k0 : Nat) : Lane :=
  let prods := (List.range 32).map (fun q =>
    if k0 + q < a.1.cols then
      rne32 (mulFV (decodeElem a.2 (a.1.code rd a.2 i (k0 + q))) (decodeElem b.2 (b.1.code rd b.2 (k0 + q) j)))
    else 0)
  (pairTree fadd 5 prods).headD 0

/-- One k-block of an element with its MX scale (R106). -/
def mmaBlockScaled (rd : Nat → Byte) (a b : TileD × Fmt) (i j k0 : Nat) : Lane :=
  let s := mmaBlock rd a b i j k0
  if a.2.isMx then
    let sa := (rd (a.1.scaleOff i k0)).toNat
    let sb := (rd (b.1.scaleOff k0 j)).toNat
    if sa = 0xFF || sb = 0xFF then 0x7FC0_0000
    else rne32 (scaleFV ((sa : Int) - 127 + sb - 127) (dec32 s))
  else s

/-- The exact integer sum of an element's products, modulo 2^32 (R106, R66). -/
def mmaInt (rd : Nat → Byte) (a b : TileD × Fmt) (i j : Nat) : Lane :=
  BitVec.ofInt 32 ((List.range a.1.cols).foldl (fun s k =>
    s + toSigned 8 (a.1.code rd a.2 i k) * toSigned 8 (b.1.code rd b.2 k j)) 0)

/-- MMA on one element of the set (R106). -/
def mmaElem (op : Nat) (rd : Nat → Byte) (a b : TileD × Fmt) (old : Lane) (i j : Nat) : Lane :=
  if op = 0x14 then old + mmaInt rd a b i j
  else (List.range ((a.1.cols + 31) / 32)).foldl (fun s q => fadd s (mmaBlockScaled rd a b i j (32 * q))) old

/-- The grid of element positions of a tile, row by row. -/
def grid (rows cols : Nat) : List (Nat × Nat) :=
  (List.range rows).flatMap (fun r => (List.range cols).map (fun c => (r, c)))

/-- MMA on a set (R106): with `Z` the set is cleared first, and only elements inside M by N change. A poisoned set that is not
cleared keeps its tag (R108). -/
def mmaSet (op : Nat) (z : Bool) (rd : Nat → Byte) (a b : TileD × Fmt) (s : AccSet) : AccSet :=
  let e0 := if z then [] else s.elems
  { tag := if s.poisoned && !z then s.tag else mmaTag op, poisoned := s.poisoned && !z,
    elems := (grid a.1.rows b.1.cols).foldl (fun e p =>
      tset 0 e (96 * p.1 + p.2) (mmaElem op rd a b (tget 0 e (96 * p.1 + p.2)) p.1 p.2)) e0 }

/-- TLDACC on a set (R104, R108). -/
def tldacc (rd : Nat → Byte) (t : TileD × Fmt) (s : AccSet) : AccSet :=
  { tag := if t.2 = .int32 then .int else .fp, poisoned := false,
    elems := (grid t.1.rows t.1.cols).foldl (fun e p =>
      tset 0 e (96 * p.1 + p.2) (BitVec.ofNat 32 (t.1.code rd t.2 p.1 p.2))) s.elems }

/-- The exact value of a set's element for TSTACC: poisoned reads as a NaN (R107). -/
def accValue (s : AccSet) (i j : Nat) : FV :=
  let x := tget 0 s.elems (96 * i + j)
  if s.poisoned then .nan
  else if s.tag = .int then fvOfInt (toSigned 32 x.toNat) else dec32 x

/-- The random word of an element of a tile under a job seed (R74, R102). -/
def tileRand (seed : Nat) (t : TileD) (r c : Nat) : Nat := philox seed (t.elemIndex r c) t.tensor

/-- One row of a tile as bytes (R67). -/
def packRow (w : Nat) (codes : List Nat) : List Byte :=
  leBytes ((codes.length * w + 7) / 8) (codes.reverse.foldl (fun a c => a * 2 ^ w + c % 2 ^ w) 0)

/-- TSTACC to a scalar format: the rows to write, in order, and whether a conversion was invalid (R107). -/
def tstScalar (s : AccSet) (t : TileD) (f : Fmt) (rnd : Rnd) (sat : Bool) (seed : Nat) :
    List (Nat × List Byte) × Bool :=
  let rows := (List.range t.rows).map (fun r =>
    (List.range t.cols).map (fun c => encodeElem f rnd sat (tileRand seed t r c) (accValue s r c)))
  (rows.zipIdx.map (fun p => (t.base + p.2 * t.stride * 32, packRow f.w (p.1.map (·.1)))),
    rows.any (fun r => r.any (·.2)))

/-- The encoded MX block that element (r, c) lies in (R70, R102). -/
def tstBlock (s : AccSet) (t : TileD) (f : Fmt) (rnd : Rnd) (seed r c : Nat) : Nat × List Nat :=
  encodeMx f rnd ((List.range 32).map (fun k =>
    let p : Nat × Nat := if t.mxaxis = 0 then (r, c / 32 * 32 + k) else (r / 32 * 32 + k, c)
    (accValue s p.1 p.2, tileRand seed t p.1 p.2)))

/-- Whether a TSTACC to an MX format meets a NaN that its elements cannot hold (R107, R145; log entry 156). -/
def tstMxInv (s : AccSet) (t : TileD) (f : Fmt) : Bool :=
  mxInvalid f ((grid t.rows t.cols).map (fun p => accValue s p.1 p.2))

/-- TSTACC to an MX format: the element rows and the scale array (R107). -/
def tstMx (s : AccSet) (t : TileD) (f : Fmt) (rnd : Rnd) (seed : Nat) : List (Nat × List Byte) :=
  (List.range t.rows).map (fun r =>
    (t.base + r * t.stride * 32, packRow f.w ((List.range t.cols).map (fun c =>
      ((tstBlock s t f rnd seed r c).2)[if t.mxaxis = 0 then c % 32 else r % 32]?.getD 0)))) ++
  ((grid t.rows t.cols).filter (fun p => (if t.mxaxis = 0 then p.2 else p.1) % 32 == 0)).map (fun p =>
    (t.scaleOff p.1 p.2, [BitVec.ofNat 8 (tstBlock s t f rnd seed p.1 p.2).1]))

/-- The scratchpad offsets that a T-op reads (R104, R106). -/
def tReads (c : Core) (q : QOp) : List Nat :=
  let x := c.slot q.slot
  match fOp q.w with
  | 0x03 => (match tileReg x (tTA q.w) with
    | some (t, f) => t.bytesOf f
    | none => [])
  | 0x00 | 0x01 | 0x02 | 0x04 => []
  | _ => (match tileReg x (tTA q.w), tileReg x (tTB q.w) with
    | some (t, f), some (u, g) => t.bytesOf f ++ u.bytesOf g
    | _, _ => [])

/-- The effect of a T-op that started without fault: the core, the scratchpad rows it writes in order, and
whether a conversion was invalid (R104 to R108). -/
def tEffect (c : Core) (q : QOp) (rd : Nat → Byte) : Core × List (Nat × List Byte) × Bool :=
  let x := c.slot q.slot
  let ta := tTA q.w
  let k := tACC q.w
  let a := c.acc k
  match fOp q.w with
  | 0x00 => (c.withSlot q.slot { x with treg := tput x.treg ta (BitVec.ofNat 256 q.data) }, [], false)
  | 0x01 =>
    (match (tfind x.treg ta).bind (fun d => tadv d q.sa q.sb) with
      | some d => (c.withSlot q.slot { x with treg := tput x.treg ta d }, [], false)
      | none => (c, [], false))
  | 0x02 => (c.withAcc k AccSet.blank, [], false)
  | 0x03 =>
    (match tileReg x ta with
      | some t => (c.withAcc k (tldacc rd t a), [], false)
      | none => (c, [], false))
  | 0x04 =>
    (match tileReg x ta with
      | some (t, f) =>
        (match rndFor (tRND q.w) f with
          | some rnd =>
            if f.isMx then (c, tstMx a t f rnd x.launch.seed.toNat, tstMxInv a t f)
            else let p := tstScalar a t f rnd (tSAT q.w) x.launch.seed.toNat; (c, p.1, p.2)
          | none => (c, [], false))
      | none => (c, [], false))
  | op =>
    (match tileReg x ta, tileReg x (tTB q.w) with
      | some a', some b' => (c.withAcc k (mmaSet op (tZ q.w) rd a' b' a), [], false)
      | _, _ => (c, [], false))

/-- A T-op abandoned while it reads: an MMA or TLDACC poisons the set it writes (R121). -/
def tAbandon (c : Core) (q : QOp) : Core :=
  let k := tACC q.w
  if fOp q.w = 3 || fOp q.w ≥ 0x10 then c.withAcc k { c.acc k with poisoned := true } else c

end Sys2Proof.Machine
end

