-- ==== Sys2Proof/Machine/Vfunc.lean ====
section
/-! DEFINITION. VFUNC (R140, R141): enclosures of the exact results in fixed point, and the module's choice of a binary32 result within
the error that R140 allows. -/
namespace Sys2Proof.Machine

/-! ### Fixed point

Integers in units of 2^-128. A series is cut where its rest is below that unit, and a division drops less than it, so that a result
lies within 2^-100 of its exact value, relative to it. -/

def fxOne : Int := 2 ^ 128
def fxMul (a b : Int) : Int := a * b / fxOne

/-- A power series in `z` with coefficients `c`, from the term numbered `k`, `n` terms more. -/
def fxSeries (c : Nat → Int) (z : Int) : Nat → Nat → Int
  | 0, k => c k
  | n + 1, k => c k + fxMul z (fxSeries c z n (k + 1))

/-- Twice the inverse hyperbolic tangent of `a / b`, at most a third. -/
def fxAtanh2 (a b : Int) : Int :=
  let z := a * fxOne / b
  fxMul (2 * z) (fxSeries (fun k => fxOne / (2 * k + 1)) (fxMul z z) 45 0)

def fxLn2 : Int := fxAtanh2 1 3

/-- The arctangent of 1 / `n`. -/
def fxAtan (n : Int) : Int :=
  fxMul (fxOne / n) (fxSeries (fun k => fxOne / (2 * k + 1)) (-(fxOne / (n * n))) 60 0)
def fxPi : Int := 16 * fxAtan 5 - 4 * fxAtan 239

/-- Taylor's series of the exponential, `n` terms from the term numbered `k`. -/
def fxExpAux (z : Int) : Nat → Nat → Int
  | 0, _ => fxOne
  | n + 1, k => fxOne + fxMul z (fxExpAux z n (k + 1)) / k

/-- The exponential of a number from 0 to 1. -/
def fxExp (z : Int) : Int := fxExpAux z 45 1

/-- The fixed-point number nearest below a value, and the value of a fixed-point number. -/
def fxOf : FV → Int
  | .fin neg m e =>
    let z : Int := if neg then -(m : Int) else m
    if e + 128 ≥ 0 then z <<< (e + 128).toNat else z / 2 ^ (-(e + 128)).toNat
  | _ => 0
def fvOfFx (z : Int) (k : Int) : FV := .fin (decide (z < 0)) z.natAbs (k - 128)

/-! ### The functions -/

/-- 2 to the power `t`, in fixed point. -/
def fvExp2 (t : Int) : FV := fvOfFx (fxExp (fxMul (t % fxOne) fxLn2)) (t / fxOne)

/-- e to the power of a value between -200 and 200. -/
def fvExpE (x : FV) : FV := fvExp2 (fxOf x * fxOne / fxLn2)

/-- Whether a value's magnitude reaches a limit. -/
def fvBig (lim : Int) : FV → Bool
  | .fin _ m e => cmpFV (.fin false m e) (fvOfInt lim) != .lt
  | _ => true

/-- The natural logarithm of a positive value, in fixed point. -/
def fxLog (m : Nat) (e : Int) : Int :=
  let k := Nat.log2 m
  (e + k) * fxLn2 + fxAtanh2 ((m : Int) - 2 ^ k) ((m : Int) + 2 ^ k)

/-- sin(z) / z from z squared, `n` terms from the term numbered `k`. -/
def fxSincAux (zz : Int) : Nat → Nat → Int
  | 0, _ => fxOne
  | n + 1, k => fxOne - fxMul zz (fxSincAux zz n (k + 1)) / (2 * k * (2 * k + 1))

/-- sin(πx) / x for a value from 0 to a half, in fixed point. -/
def fxSinc (x : FV) : Int :=
  let z := fxMul fxPi (fxOf x)
  fxMul fxPi (fxSincAux (fxMul z z) 25 1)

/-- An enclosure of a value whose magnitude is below 1 brought below 1. -/
def fvBelowOne : FV → FV
  | .fin neg m e => if fvBig 1 (.fin neg m e) then .fin neg (2 ^ 120 - 1) (-120) else .fin neg m e
  | v => v

/-- sin(πx) for a value that is no integer: `x` is brought to 0 to a half by its symmetries. -/
def fvSinPi (neg : Bool) (m : Nat) (e : Int) : FV :=
  let one := (1 : Nat) <<< (-e).toNat
  let r := m % one
  let h := if 2 * r ≤ one then r else one - r
  fvBelowOne (mulFV (.fin (neg != (m / one % 2 == 1)) h e) (fvOfFx (fxSinc (.fin false h e)) 0))

/-- cos(πx) = sin(π (1/2 - x)) for a value with a fractional part. -/
def fvCosPi (m : Nat) (e : Int) : FV :=
  let e' := min e (-1)
  let z := alignTo false 1 (-1) e' - alignTo false m e e'
  fvSinPi (decide (z < 0)) z.natAbs e'

/-- tanh(x): for small x by its series, else by the exponential. -/
def fvTanh (neg : Bool) (m : Nat) (e : Int) : FV :=
  let x : FV := .fin false m e
  if fvBig 40 x then .fin neg (2 ^ 120 - 1) (-120)
  else if fvExp m e < -13 then
    let q := fxMul (fxOf x) (fxOf x)
    mulFV (.fin neg m e) (fvOfFx (fxOne - q / 3 + fxMul q q * 2 / 15) 0)
  else
    let u := fxOf (fvExpE (.fin true m (e + 1)))
    fvOfFx ((if neg then -1 else 1) * ((fxOne - u) * fxOne / (fxOne + u))) 0

/-- 1 / (1 + e^-x). -/
def fvSigmoid (neg : Bool) (m : Nat) (e : Int) : FV :=
  let x : FV := .fin neg m e
  if fvBig 200 x then (if neg then .fin false 1 (-280) else .fin false (2 ^ 120 - 1) (-120))
  else
    let u := fvExpE x
    divFV 120 u (addFV u (.fin false 1 0))

/-- The exact result of a selector on a finite value, within 2^-64 of it, relative (R140). -/
def vfuncValue (sel : Nat) (neg : Bool) (m : Nat) (e : Int) : FV :=
  let x : FV := .fin neg m e
  match sel with
  | 0 => divFV 120 (.fin false 1 0) x
  | 1 => sqrtFV 120 (divFV 300 (.fin false 1 0) x)
  | 3 => if fvBig 200 x then (if neg then .fin false 1 (-280) else .fin false 1 200) else fvExp2 (fxOf x)
  | 4 => if fvBig 150 x then (if neg then .fin false 1 (-200) else .fin false 1 200) else fvExpE x
  | 5 => fvOfFx (fxLog m e * fxOne / fxLn2) 0
  | 6 => fvOfFx (fxLog m e) 0
  | 7 => fvTanh neg m e
  | 8 => fvSigmoid neg m e
  | 9 => fvSinPi neg m e
  | _ => fvCosPi m e

/-! ### The results that the bound allows -/

/-- The number of a binary32 magnitude at most `m * 2 ^ e`, counted from 0, and at least it. Infinity is 2^128 here. -/
def keyDown (m : Nat) (e : Int) : Nat :=
  if m = 0 then 0
  else
    let ee := min (max (fvExp m e) (-126)) 127
    min fBinary32.infCode ((ee + 126).toNat * 2 ^ 23 + roundGrid .rtz 0 m e (ee - 23))
def keyUp (m : Nat) (e : Int) : Nat :=
  let k := keyDown m e
  if cmpFV (decodeF fBinary32 k) (.fin false m e) = .lt then k + 1 else k

/-- The least number of a binary32 value at or above `z * 2 ^ e`, and the greatest at or below it; a number below 0 is that of a
negative value. -/
def keyAbove (z e : Int) : Int := if z < 0 then -(keyDown z.natAbs e) else keyUp z.natAbs e
def keyBelow (z e : Int) : Int := if z < 0 then -(keyUp z.natAbs e) else keyDown z.natAbs e

/-- One of the binary32 values within a bound of an exact result: `b` ulps of it, or the absolute 2^`w`. `pick` numbers them from the least. The
exact result lies within 2^-60 of the value given, relative to it; the ulp is that of the least magnitude it can have, and a value counts only
where the bound holds for all of that width. A result beyond the binary32 range is infinite (R73, R140, R141). -/
def within (b : Nat) (w : Option Int) (pick : Nat) : FV → Lane
  | .fin neg m e =>
    if m * 2 ^ (e + 200).toNat ≥ (2 ^ 25 - 1) * 2 ^ 303 then BitVec.ofNat 32 (fBinary32.signed neg fBinary32.infCode)
    else
      let u := (max (fvExp m e) (-126)) - 23
      let q := min (min e (u - 60)) (w.getD u)
      let z := alignTo neg m e q
      let width : Int := ((1 <<< (u - 36 - q).toNat : Nat) : Int)
      let least := (max (fvExp (z.natAbs - width.toNat) q) (-126)) - 23
      let d : Int := match w with
        | some w => ((1 <<< (w - q).toNat : Nat) : Int)
        | none => ((b <<< (least - q).toNat : Nat) : Int)
      let lo := keyAbove (z + width - d) q
      let hi := keyBelow (z - width + d) q
      let k := lo + ((pick % ((hi - lo).toNat + 1) : Nat) : Int)
      BitVec.ofNat 32 (fBinary32.signed (decide (k < 0) || (k == 0 && neg)) k.natAbs)
  | v => rne32 v

/-- Whether a positive value lies in [0.5, 2], where R140 bounds the logarithms absolutely. -/
def nearOne (m : Nat) (e : Int) : Bool :=
  cmpFV (.fin false m e) (.fin false 1 (-1)) != .lt && cmpFV (.fin false m e) (fvOfInt 2) != .gt

/-- The result beyond the stated cases: a fixed function of the input bits within the bound (R140; log entry 5). -/
def vfuncOther (sel : Nat) (x : Lane) (neg : Bool) (m : Nat) (e : Int) : Lane :=
  let b := match sel with
    | 0 | 1 => 1
    | 7 | 8 => 3
    | _ => 2
  let w := if (sel == 5 || sel == 6) && nearOne m e then some (-22) else none
  within b w (Config.vfuncPick sel x) (vfuncValue sel neg m e)

/-- VFUNC on one lane (R140, R141): specials and exact cases as the tables state them, SQRT correctly
rounded, every other result a fixed choice within its bound. -/
def vfuncLane (sel : Nat) (x : Lane) : Lane :=
  let one : Lane := 0x3F80_0000
  let pinf : Lane := 0x7F80_0000
  let ninf : Lane := 0xFF80_0000
  let qnan : Lane := 0x7FC0_0000
  match dec32 x with
  | .nan => qnan
  | .inf neg =>
    match sel with
    | 0 => if neg then 0x8000_0000 else 0
    | 1 => if neg then qnan else 0
    | 2 => if neg then qnan else pinf
    | 3 | 4 => if neg then 0 else pinf
    | 5 | 6 => if neg then qnan else pinf
    | 7 => if neg then 0xBF80_0000 else one
    | 8 => if neg then 0 else one
    | _ => qnan
  | .fin neg m e =>
    if m = 0 then
      match sel with
      | 0 | 1 => if neg then ninf else pinf
      | 2 => x
      | 3 | 4 => one
      | 5 | 6 => ninf
      | 7 => x
      | 8 => 0x3F00_0000
      | 9 => x
      | _ => one
    else
      match sel with
      | 0 =>
        if m = 2 ^ Nat.log2 m && decide (fvExp m e ≤ 126) then rne32 (.fin neg 1 (-(fvExp m e))) else vfuncOther 0 x neg m e
      | 1 =>
        if neg then qnan
        else match fvPow2 (.fin neg m e) with
          | some k => if k % 2 = 0 then rne32 (.fin false 1 (-(k / 2))) else vfuncOther 1 x neg m e
          | none => vfuncOther 1 x neg m e
      | 2 => rne32 (sqrtFV 60 (.fin neg m e))
      | 3 =>
        if cmpFV (.fin neg m e) (fvOfInt 128) ≠ .lt then pinf
        else if cmpFV (.fin neg m e) (fvOfInt (-151)) ≠ .gt then 0
        else match fvInt (.fin neg m e) with
          | some k => rne32 (.fin false 1 k)
          | none => vfuncOther 3 x neg m e
      | 4 => vfuncOther 4 x neg m e
      | 5 =>
        if neg then qnan
        else match fvPow2 (.fin neg m e) with
          | some k => rne32 (fvOfInt k)
          | none => vfuncOther 5 x neg m e
      | 6 => if neg then qnan else if x = one then 0 else vfuncOther 6 x neg m e
      | 7 => vfuncOther 7 x neg m e
      | 8 => vfuncOther 8 x neg m e
      | 9 => (sinpiExact neg (.fin neg m e)).getD (vfuncOther 9 x neg m e)
      | _ => (cospiExact (.fin neg m e)).getD (vfuncOther 10 x neg m e)

end Sys2Proof.Machine
end

