-- ==== Sys2Proof/Machine/Vector.lean ====
section
/-! DEFINITION. The vector engine's arithmetic: the lanes, addresses, reads and effects of V-ops, LDS and STS
(R124 to R141). -/
namespace Sys2Proof.Machine

/-- Lane `l` of v`r` (R124). -/
def Ctx.lane (x : Ctx) (r l : Nat) : Lane := tget 0 x.vreg (64 * r + l)

/-- A predicate register; p0 reads as all ones (R124). -/
def Ctx.pred (x : Ctx) (p : Nat) : Word := if p = 0 then BitVec.allOnes 64 else tget 0 x.preg p

/-- A write of a predicate register; writes to p0 are discarded (R124). -/
def Ctx.setPred (x : Ctx) (p : Nat) (v : Word) : Ctx :=
  if p = 0 then x else { x with preg := tset 0 x.preg p v }

/-- A scalar register; s0 reads 0 (R115). -/
def Ctx.s (x : Ctx) (r : Nat) : Word := if r = 0 then 0 else tget 0 x.sreg r

/-- A write of a scalar register; writes to s0 are discarded (R115). -/
def Ctx.setS (x : Ctx) (r : Nat) (v : Word) : Ctx :=
  if r = 0 then x else { x with sreg := tset 0 x.sreg r v }

/-- Whether a lane is active under a V-op's guard (R128). -/
def vActive (x : Ctx) (w : Word) (l : Nat) : Bool := bit l (x.pred (vPG w)).toNat

/-- The lanes of a V-op that are active, rising (R128). -/
def vLanes (x : Ctx) (w : Word) : List Nat := (List.range 64).filter (vActive x w)

/-- BX32 value `l` of the quad that starts at register `r` (R125). -/
def Ctx.quad (x : Ctx) (r l : Nat) : Nat :=
  (List.range 4).foldl (fun a j => a + (x.lane (r + j) l).toNat * 2 ^ (32 * j)) 0

/-- Writes lanes of one register: active lanes take their values, inactive lanes keep theirs or take 0 (R128). -/
def Ctx.setLanes (x : Ctx) (w : Word) (r : Nat) (f : Nat → Lane) : Ctx :=
  { x with vreg := (List.range 64).foldl (fun v l =>
      if vActive x w l then tset 0 v (64 * r + l) (f l)
      else if vPZ w then tset 0 v (64 * r + l) 0 else v) x.vreg }

/-- Writes a quad's lanes in the same way; the empty value is 0 (R125, R128). -/
def Ctx.setQuads (x : Ctx) (w : Word) (r : Nat) (f : Nat → Nat) : Ctx :=
  { x with vreg := (List.range 64).foldl (fun v l =>
      if vActive x w l then
        (List.range 4).foldl (fun v j => tset 0 v (64 * (r + j) + l) (BitVec.ofNat 32 (f l >>> (32 * j)))) v
      else if vPZ w then (List.range 4).foldl (fun v j => tset 0 v (64 * (r + j) + l) 0) v else v) x.vreg }

/-- Writes lane 0 of one register (R136). -/
def Ctx.setLane0 (x : Ctx) (r : Nat) (v : Lane) : Ctx := { x with vreg := tset 0 x.vreg (64 * r) v }
/-- Writes lane 0 of a quad (R136). -/
def Ctx.setQuad0 (x : Ctx) (r : Nat) (n : Nat) : Ctx :=
  { x with vreg := (List.range 4).foldl (fun v j => tset 0 v (64 * (r + j)) (BitVec.ofNat 32 (n >>> (32 * j)))) x.vreg }

/-- Bits per element that a memory V-op moves (R99, R130). -/
def vW (w : Word) : Nat :=
  match fmtOf (vFMT w) with
  | some f => f.w
  | none => 8

/-- The byte address of a lane's element, and the bit within that byte at which it starts (R130, R67). R130 forms the base modulo
2^64; DESIGN CHOICE: so is every lane's address (log entry 155). -/
def vAddr (x : Ctx) (q : QOp) (l : Nat) : Nat × Nat :=
  let a := (q.sa + vIMMs q.w).toNat
  let e := vW q.w / 8
  match fOp q.w with
  | 0x00 | 0x02 => ((a + vW q.w * l / 8) % 2 ^ 64, vW q.w * l % 8)
  | 0x01 | 0x03 => ((a + l * q.sb.toNat) % 2 ^ 64, 0)
  | 0x04 => ((a + (x.lane (vVA q.w) l).toNat * e) % 2 ^ 64, 0)
  | _ => ((a + (x.lane (vVB q.w) l).toNat * e) % 2 ^ 64, 0)

/-- The byte offsets that a lane's element occupies (R67, R131). -/
def vBytes (x : Ctx) (q : QOp) (l : Nat) : List Nat :=
  let p := vAddr x q l
  (List.range ((p.2 + vW q.w + 7) / 8)).map (fun j => p.1 + j)

/-- Whether a lane's element meets R131. -/
def vAddrOk (x : Ctx) (q : QOp) (l : Nat) : Bool :=
  let p := vAddr x q l
  decide (p.1 + (p.2 + vW q.w + 7) / 8 ≤ 0x30_0000) &&
  (if vW q.w < 8 then true else p.1 % (vW q.w / 8) == 0)

/-- Whether a queued operation reaches the scratchpad. -/
def vMem (q : QOp) : Bool := fGrp q.w == 0 || fOp q.w ≤ 0x06

/-- The lanes that reach the scratchpad with their bytes; LDS and STS count as lane 0 (R116, R130). -/
def vTouched (x : Ctx) (q : QOp) : List (Nat × List Nat) :=
  if fGrp q.w = 0 then [(0, (List.range 8).map (fun j => q.data + j))]
  else if fOp q.w ≤ 0x06 then (vLanes x q.w).map (fun l => (l, vBytes x q l))
  else []

/-- The lowest offending lane's offset under R131, if an active lane breaks it (R146). -/
def vAddrFault (x : Ctx) (q : QOp) : Option Nat :=
  if fGrp q.w = 3 && fOp q.w ≤ 0x06 then
    ((vLanes x q.w).find? (fun l => !vAddrOk x q l)).map (fun l => (vAddr x q l).1)
  else none

/-- Bytes written over a reader: the byte at an offset. -/
def ovGet (rd : Nat → Byte) (o : Tab Byte) (a : Nat) : Byte := (tfind o a).getD (rd a)

/-- The `w`-bit element at a byte address and bit, through bytes already written. -/
def ovElem (rd : Nat → Byte) (o : Tab Byte) (p : Nat × Nat) (w : Nat) : Nat :=
  (leNat ((List.range ((p.2 + w + 7) / 8)).map (fun j => ovGet rd o (p.1 + j))) >>> p.2) % 2 ^ w

/-- Stores a `w`-bit element; the other bits of shared bytes stay as they are (R131). -/
def ovPut (rd : Nat → Byte) (o : Tab Byte) (p : Nat × Nat) (w v : Nat) : Tab Byte :=
  let k := (p.2 + w + 7) / 8
  let old := leNat ((List.range k).map (fun j => ovGet rd o (p.1 + j)))
  let new := old - ((old >>> p.2) % 2 ^ w) * 2 ^ p.2 + (v % 2 ^ w) * 2 ^ p.2
  ((leBytes k new).zipIdx).foldl (fun o b => tput o (p.1 + b.2) b.1) o

/-- What a completed vector-queue operation leaves: the context, the scratchpad bytes written, and whether a
conversion was invalid and a BX32 result has `BX.OVF` set (R145). -/
structure VRes where
  ctx : Ctx
  bytes : Tab Byte
  inv : Bool
  ovf : Bool
  deriving DecidableEq, Repr

/-- The value a lane stores (R130): the lane form's low bits, or the quad's 128 bits. -/
def vStoreVal (x : Ctx) (w : Word) (l : Nat) : Nat :=
  if vFMT w = 0x10 then x.quad (vVA w) l else (x.lane (vVA w) l).toNat

/-- Loads of VLD, VLDS and VGATH (R130). -/
def vLoad (x : Ctx) (q : QOp) (rd : Nat → Byte) : Ctx :=
  if vFMT q.w = 0x10 then x.setQuads q.w (vVD q.w) (fun l => ovElem rd [] (vAddr x q l) 128)
  else x.setLanes q.w (vVD q.w) (fun l => BitVec.ofNat 32 (ovElem rd [] (vAddr x q l) (vW q.w)))

/-- Stores of VST, VSTS and VSCAT: the highest lane wins (R132). -/
def vStore (x : Ctx) (q : QOp) (rd : Nat → Byte) : Tab Byte :=
  (vLanes x q.w).foldl (fun o l => ovPut rd o (vAddr x q l) (vW q.w) (vStoreVal x q.w l)) []

/-- VSCADD on one element (R134). -/
def scaddElem (fmt : Nat) (old : Nat) (v : Lane) : Nat :=
  match fmt with
  | 0x00 => (fadd (BitVec.ofNat 32 old) v).toNat
  | 0x10 => ((bxOfNat old).deposit v).toNat
  | _ => (BitVec.ofNat 32 old + v).toNat

/-- VSCADD: the active lanes in rising order (R134). -/
def vScadd (x : Ctx) (q : QOp) (rd : Nat → Byte) : Tab Byte :=
  (vLanes x q.w).foldl (fun o l =>
    ovPut rd o (vAddr x q l) (vW q.w)
      (scaddElem (vFMT q.w) (ovElem rd o (vAddr x q l) (vW q.w)) (x.lane (vVA q.w) l))) []

/-- Whether a BX32 VSCADD leaves `BX.OVF` set in a target (R145). -/
def vScaddOvf (x : Ctx) (q : QOp) (rd : Nat → Byte) (o : Tab Byte) : Bool :=
  vFMT q.w == 0x10 && (vLanes x q.w).any (fun l => bit 0 (ovElem rd o (vAddr x q l) 128))

/-- FADD and FSUB: a sum that is exactly zero is +0, of two negative zeros too (R135). -/
def vSum (a b : FV) : Lane :=
  match addFV a b with
  | .fin _ 0 _ => 0
  | v => rne32 v

/-- The two-operand lane arithmetic (R135), by `OP`. -/
def vAlu (op : Nat) (a b : Lane) : Lane :=
  match op with
  | 0x10 => vSum (dec32 a) (dec32 b)
  | 0x11 => vSum (dec32 a) (negFV (dec32 b))
  | 0x12 => fmul a b
  | 0x14 => fmaxmin true a b
  | 0x15 => fmaxmin false a b
  | 0x16 => fabs a
  | 0x17 => fneg a
  | 0x18 => a + b
  | 0x19 => a - b
  | 0x1A => a * b
  | 0x1B => if a.slt b then b else a
  | 0x1C => if a.slt b then a else b
  | 0x1D => a &&& b
  | 0x1E => a ||| b
  | 0x1F => a ^^^ b
  | 0x20 => a <<< (b.toNat % 32)
  | 0x21 => a >>> (b.toNat % 32)
  | _ => a.sshiftRight (b.toNat % 32)

/-- Writes predicate bits of active lanes; inactive lanes keep or clear theirs (R128). -/
def predBits (x : Ctx) (w : Word) (old : Word) (f : Nat → Bool) : Word :=
  BitVec.ofNat 64 ((List.range 64).foldl (fun n l =>
    n + (if vActive x w l then b2n (f l) else if vPZ w then 0 else b2n (bit l old.toNat)) * 2 ^ l) 0)

/-- PLOGIC's four operations (R135). -/
def plogic (k : Nat) (a b : Word) : Word :=
  match k with
  | 0 => a &&& b
  | 1 => a ||| b
  | 2 => a ^^^ b
  | _ => a &&& ~~~b

/-- The random word of lane `l` (R138). -/
def vRand (x : Ctx) (q : QOp) (l : Nat) : Nat :=
  philox x.launch.seed.toNat (q.sa.toNat + l) (q.sb.toNat % 2 ^ 32)

/-- VCVT on one lane (R137): equal codes copy the lane form. -/
def vcvtLane (q : QOp) (r : Nat) (a : Lane) : Nat × Bool :=
  match fmtOf (vFMT q.w), fmtOf (vIMM q.w % 32) with
  | some f, some g =>
    if f = g then (a.toNat % 2 ^ f.w, false)
    else
      match rndFor (vRND q.w) g with
      | some rnd => encodeElem g rnd (vSAT q.w) r (decodeElem f a.toNat)
      | none => (0, false)
  | _, _ => (0, false)

/-- The addend of a BX32 deposit, widened exactly to binary32 (R136, R139). -/
def bxAddend (fmt : Nat) (a : Lane) : Lane :=
  match fmt with
  | 1 => rne32 (decodeF fBinary16 (a.toNat % 2 ^ 16))
  | 2 => rne32 (decodeF fBfloat16 (a.toNat % 2 ^ 16))
  | _ => a

/-- MXPK: the encoded blocks of lanes 0 to 31 and 32 to 63 (R137). -/
def mxpkBlock (x : Ctx) (q : QOp) (f : Fmt) (rnd : Rnd) (b : Nat) : Nat × List Nat :=
  encodeMx f rnd ((List.range 32).map (fun k =>
    (dec32 (x.lane (vVA q.w) (32 * b + k)), vRand x q (32 * b + k))))

/-- VRED (R136). -/
def vRed (x : Ctx) (w : Word) : Lane :=
  let vs := (vLanes x w).map (x.lane (vVA w))
  match vIMM w % 4 with
  | 0 => (pairTree fadd 6 ((List.range 64).map (fun l =>
      if vActive x w l then x.lane (vVA w) l else 0x8000_0000))).headD 0
  | 1 => vs.foldl (fmaxmin true) 0xFF80_0000
  | 2 => vs.foldl (fmaxmin false) 0x7F80_0000
  | _ => vs.foldl (· + ·) 0

/-- VREDBX (R136). -/
def vRedBx (x : Ctx) (w : Word) : BX :=
  if bit 0 w.toNat then
    (vLanes x w).foldl (fun a l => a.merge (bxOfNat (x.quad (vVA w) l))) BX.empty
  else
    (vLanes x w).foldl (fun a l => a.deposit (bxAddend (vFMT w) (x.lane (vVA w) l))) BX.empty

/-- Only the context changes. -/
def vOnly (x : Ctx) : VRes := ⟨x, [], false, false⟩

/-- BXDEP and BXMRG on one lane (R139). -/
def bxdepLane (x : Ctx) (w : Word) (l : Nat) : BX :=
  (bxOfNat (x.quad (vVD w) l)).deposit (bxAddend (vFMT w) (x.lane (vVA w) l))
def bxmrgLane (x : Ctx) (w : Word) (l : Nat) : BX :=
  (bxOfNat (x.quad (vVA w) l)).merge (bxOfNat (x.quad (vVB w) l))

/-- The effect of a V-op, LDS or STS that completes without fault (R116, R130 to R141). MXPK with `VD` = `VC` is given no order of its
two writes; DESIGN CHOICE: the scales stand (log entry 155). -/
def vEffect (x : Ctx) (q : QOp) (rd : Nat → Byte) : VRes :=
  let w := q.w
  let vd := vVD w
  if fGrp w = 0 then
    (if fOp w = 0x10 then vOnly (x.setS (cSD w) (BitVec.ofNat 64 (ovElem rd [] (q.data, 0) 64)))
     else ⟨x, ovPut rd [] (q.data, 0) 64 q.sd.toNat, false, false⟩)
  else
    match fOp w with
    | 0x00 | 0x01 | 0x04 => vOnly (vLoad x q rd)
    | 0x02 | 0x03 | 0x05 => ⟨x, vStore x q rd, false, false⟩
    | 0x06 => let o := vScadd x q rd; ⟨x, o, false, vScaddOvf x q rd o⟩
    | 0x07 => vOnly (x.setLanes w vd (fun _ => BitVec.ofNat 32 q.sa.toNat))
    | 0x08 => vOnly (x.setS vd (BitVec.ofNat 64 (x.lane (vVA w) (q.sa.toNat % 64)).toNat))
    | 0x09 => vOnly (x.setLanes w vd (fun l => BitVec.ofNat 32 (q.sa.toNat + l * (vIMMs w).toNat)))
    | 0x13 => vOnly (x.setLanes w vd (fun l => ffma (x.lane (vVA w) l) (x.lane (vVB w) l) (x.lane (vVC w) l)))
    | 0x24 => vOnly (x.setPred (vd % 8) (predBits x w (x.pred (vd % 8)) (fun l =>
        fcmp (vIMM w % 8) (x.lane (vVA w) l) (x.lane (vVB w) l))))
    | 0x25 => vOnly (x.setPred (vd % 8) (predBits x w (x.pred (vd % 8)) (fun l =>
        icmp (vIMM w % 8) (x.lane (vVA w) l) (x.lane (vVB w) l))))
    | 0x26 => vOnly (x.setLanes w vd (fun l =>
        if bit l (x.pred (vVC w % 8)).toNat then x.lane (vVA w) l else x.lane (vVB w) l))
    | 0x28 => vOnly (x.setPred (vd % 8) (plogic (vIMM w % 4) (x.pred (vVA w % 8)) (x.pred (vVB w % 8))))
    | 0x29 => vOnly (x.setPred (vd % 8) q.sa)
    | 0x2A => vOnly (x.setS vd (x.pred (vVA w % 8)))
    | 0x2C => vOnly (x.setLanes w vd (fun l => x.lane (vVA w) ((x.lane (vVB w) l).toNat % 64)))
    | 0x2D => vOnly (x.setLanes w vd (fun l => x.lane (vVA w) ((BitVec.ofNat 64 l + q.sa + vIMMs w).toNat % 64)))
    | 0x30 => vOnly (x.setLane0 vd (vRed x w))
    | 0x31 => let r := vRedBx x w; ⟨x.setQuad0 vd r.toNat, [], false, r.ovf⟩
    | 0x34 =>
      ⟨x.setLanes w vd (fun l => BitVec.ofNat 32 (vcvtLane q (vRand x q l) (x.lane (vVA w) l)).1), [],
        (vLanes x w).any (fun l => (vcvtLane q (vRand x q l) (x.lane (vVA w) l)).2), false⟩
    | 0x35 =>
      (match fmtOf (vFMT w) with
        | some f =>
          (match rndFor (vRND w) f with
            | some rnd =>
              let b0 := mxpkBlock x q f rnd 0
              let b1 := mxpkBlock x q f rnd 1
              let y := x.setLanes w vd (fun l => BitVec.ofNat 32 (getAt 0 (if l < 32 then b0.2 else b1.2) (l % 32)))
              ⟨y.setLanes w (vVC w) (fun l =>
                if l = 0 then BitVec.ofNat 32 b0.1 else if l = 1 then BitVec.ofNat 32 b1.1 else 0), [],
                mxInvalid f ((List.range 64).map (fun l => dec32 (x.lane (vVA w) l))), false⟩
            | none => vOnly x)
        | none => vOnly x)
    | 0x36 =>
      (match fmtOf (vFMT w) with
        | some f => vOnly (x.setLanes w vd (fun l =>
            rne32 (decodeMx f ((x.lane (vVC w) (l / 32)).toNat % 256) (x.lane (vVA w) l).toNat)))
        | none => vOnly x)
    | 0x38 => ⟨x.setQuads w vd (fun l => (bxdepLane x w l).toNat), [], false,
        (vLanes x w).any (fun l => (bxdepLane x w l).ovf)⟩
    | 0x39 => ⟨x.setQuads w vd (fun l => (bxmrgLane x w l).toNat), [], false,
        (vLanes x w).any (fun l => (bxmrgLane x w l).ovf)⟩
    | 0x3A => vOnly (x.setLanes w vd (fun l => BitVec.ofNat 32
        ((bxOfNat (x.quad (vVA w) l)).finalise (if vFMT w = 2 then fBfloat16 else fBinary32) .rne false 0)))
    | 0x3C => vOnly (x.setLanes w vd (fun l => vfuncLane (vIMM w % 16) (x.lane (vVA w) l)))
    | op => vOnly (x.setLanes w vd (fun l => vAlu op (x.lane (vVA w) l) (x.lane (vVB w) l)))

/-- The scalar register that a queued operation will write, for the scalar interlock (R116, R135). -/
def vSDest (q : QOp) : Option Nat :=
  if fGrp q.w = 0 then (if fOp q.w = 0x10 then some (cSD q.w) else none)
  else if fOp q.w = 0x08 || fOp q.w = 0x2A then some (vVD q.w) else none

end Sys2Proof.Machine
end

