-- ==== Sys2Proof/Machine/CoreOps.lean ====
section
/-! DEFINITION. What every instruction of a core shares: fetch and issue, the scalar interlock, branches, context
faults, counters and waits, bank checks and scratchpad access (R87, R90 to R98, R115 to R121, R153, R157). -/
namespace Sys2Proof.Machine

/-- The Running context's slot, if one is Running (R91). -/
def Core.running (c : Core) : Option Nat := (List.range 4).find? (fun k => (c.slot k).st == .running)

/-- The instruction word at an index of a context's region (R86, R98). -/
def State.iword (s : State) (n base pc : Nat) : Word := BitVec.ofNat 64 (leNat (s.rdN (istoreBase n + 8 * (base + pc)) 8))

/-- What a core is about to issue: its Running slot and the word at its PC. -/
def State.fetch (s : State) (n : Nat) : Option (Nat × Word) :=
  match (s.core n).running with
  | none => none
  | some k => let x := (s.core n).slot k; some (k, s.iword n x.launch.base x.pc)

/-- Whether a slot has started or queued work on an engine. FENCE's V bit names V-ops only; DESIGN CHOICE: an LDS or STS of the context
in the vector queue holds it too, for they run in the same queue (R116, R117; log entry 155). -/
def Core.tBusy (c : Core) (k : Nat) : Bool := c.tq.any (fun q => q.slot == k) || c.tRun.any (fun q => q.slot == k)
def Core.vBusy (c : Core) (k : Nat) : Bool := c.vq.any (fun q => q.slot == k) || c.vRun.any (fun q => q.slot == k)
def Core.mBusy (c : Core) (k : Nat) : Bool := c.mops.any (fun q => q.slot == k && q.err == 0)

/-- A counter's value, and its change over EV03 (R93, R94). -/
def Core.counter (c : Core) (k : Nat) : Word := tget 0 c.cnt k
def Core.setCounter (c : Core) (k : Nat) (v : Word) : Core := { c with cnt := tset 0 c.cnt k v }
def State.setCnt (s : State) (n k : Nat) (v : Word) : State := (s.setCore n ((s.core n).setCounter k v)).pulse 3 n
def State.addCnt (s : State) (n k : Nat) (v : Word) : State := s.setCnt n k ((s.core n).counter k + v)

/-- A change that comes to a cluster from the router: lost behind a sealed inbound crossing (R57). -/
def State.cntIn (s : State) (n k : Nat) (v : Word) : State := if s.sealed (clusterOf n) 17 then s else s.setCnt n k v
def State.addIn (s : State) (n k : Nat) (v : Word) : State := s.cntIn n k ((s.core n).counter k + v)

/-- Whether a fence's mask is satisfied: no earlier T-op, V-op or M-op of the context is left (R117). -/
def Core.fenceDone (c : Core) (k m : Nat) : Bool :=
  !((bit 0 m && c.tBusy k) || (bit 1 m && c.vBusy k) || (bit 2 m && c.mBusy k))

/-- Whether a wait's condition holds now (R116, R117). -/
def Core.waitDone (c : Core) (k : Nat) : Bool :=
  match (c.slot k).wait with
  | .nothing => true
  | .counter cnt v => v.ule (c.counter cnt)
  | .fence m => c.fenceDone k m

/-- Releases every Waiting context whose condition holds (R90, R94). -/
def Core.release (c : Core) : Core :=
  (List.range 4).foldl (fun c k =>
    if (c.slot k).st = .waiting && c.waitDone k then
      c.withSlot k { c.slot k with st := .ready, wait := .nothing } else c) c

/-- Releases waiting contexts after an engine completion or a counter change. -/
def State.releaseCore (s : State) (n : Nat) : State := s.setCore n (s.core n).release

/-- A context fault (R119, R123): the slot records it and drains; queued, unstarted work of an asynchronous
fault's context is discarded (R90). -/
def Core.fault (c : Core) (k : Nat) (code grp op info : Nat) : Core :=
  let x := c.slot k
  if x.st = .empty || x.st = .draining then c
  else
    let c := c.withSlot k { x with st := .draining, wait := .nothing, faultCode := code, faultGrp := grp, faultOp := op,
                                   faultInfo := info % 2 ^ 44 }
    c

/-- Discards a context's queued, unstarted T-ops, V-ops and M-ops (R90). -/
def Core.discard (c : Core) (k : Nat) : Core :=
  { c with tq := c.tq.filter (fun q => q.slot != k), vq := c.vq.filter (fun q => q.slot != k),
           mops := c.mops.filter (fun m => !(m.slot == k && m.phase == .queued)) }

/-- A synchronous fault of the word at the PC: no effect, and the PC stays (R120). -/
def State.syncFault (s : State) (n k : Nat) (w : Word) (code info : Nat) : State :=
  s.setCore n ((s.core n).fault k code (fGrp w) (fOp w) info)

/-- An asynchronous fault (R121): a context already Draining keeps its first record. -/
def State.asyncFault (s : State) (n k : Nat) (w : Word) (code info : Nat) : State :=
  let c := s.core n
  let x := c.slot k
  if x.st = .empty then s
  else if x.st = .draining then
    (if x.faultCode = 0 then
      s.setCore n ((c.withSlot k { x with faultCode := code, faultGrp := fGrp w, faultOp := fOp w,
                                           faultInfo := info % 2 ^ 44 }).discard k)
    else s.setCore n (c.discard k))
  else s.setCore n ((c.fault k code (fGrp w) (fOp w) info).discard k)

/-- A change of a core's progress count crosses EV13 and restarts its watchdog's timer, the safe point of OD 0x7020 (R51, R373). The
model holds one value of OD 0x7020 for all cores: the first timer that restarts applies it (DESIGN CHOICE, log entry 160). -/
def State.progressed (s : State) (n : Nat) : State := (s.pulse 13 n).odApply 0x7020 0

/-- Adds to an activity counter of a core (R551; when each counts is log entry 189). -/
def Core.addAct (c : Core) (k n : Nat) : Core := { c with act := tset 0 c.act k ((tget 0 c.act k + n) % 2 ^ 64) }

/-- The same on the module's core. -/
def State.addAct (s : State) (n k v : Nat) : State := s.setCore n ((s.core n).addAct k v)

/-- Retires an instruction and moves its context to a new PC: inside the region the context goes on; outside it
the instruction-address fault is recorded with the PC at this instruction (R98, R120). -/
def State.goto (s : State) (n k : Nat) (w : Word) (pc' : Word) : State :=
  let c := (s.core n).addAct 0 1
  let x := c.slot k
  if pc'.toNat < x.launch.len then (s.setCore n (c.withSlot k { x with pc := pc'.toNat })).progressed n
  else (s.setCore n (c.fault k 2 (fGrp w) (fOp w) (pc'.toNat % 2 ^ 44))).progressed n

/-- Where a context Running on the core has been led outside its region, the next fetch raises the instruction-address fault; the PC
stays at the instruction that led there (R98). -/
def Core.overrun (c : Core) : Core :=
  match c.running with
  | none => c
  | some k =>
    match (c.slot k).off with
    | none => c
    | some (t, g) => (c.withSlot k { c.slot k with off := none }).fault k 2 (g / 64) (g % 64) t

/-- The next PC in line. -/
def State.pcNext (s : State) (n k : Nat) : Word := BitVec.ofNat 64 (((s.core n).slot k).pc + 1)

/-- Retires an instruction that goes on in line (R91). -/
def State.retire (s : State) (n k : Nat) (w : Word) : State := s.goto n k w (s.pcNext n k)

/-- Retires an instruction that gives up the scalar unit: its context moves in line, and where that leads out of the region the fault
waits for the fetch, when the context runs again (R90, R98). -/
def State.leave (s : State) (n k : Nat) (w : Word) : State :=
  let c := (s.core n).addAct 0 1
  let x := c.slot k
  if x.pc + 1 < x.launch.len then (s.setCore n (c.withSlot k { x with pc := x.pc + 1 })).progressed n
  else (s.setCore n (c.withSlot k { x with off := some (x.pc + 1, fGrp w * 64 + fOp w) })).progressed n

/-- Writes a scalar register of a context (R115). -/
def State.putS (s : State) (n k r : Nat) (v : Word) : State :=
  s.setCore n ((s.core n).withSlot k (((s.core n).slot k).setS r v))

/-- The scalar registers that an instruction reads or writes, for the interlock (R116). -/
def scalarUse (w : Word) : List Nat :=
  match fGrp w with
  | 0 =>
    (if fOp w = 0x1E || fOp w = 0x20 || fOp w = 0x21 then [cSD w]
     else if fOp w ≤ 2 || fOp w = 0x1F then []
     else [cSD w, cSA w, cSB w])
  | 1 => [tSA w, tSB w]
  | 2 => [oSD w, oSD w + 1, oSS w, oSS w + 1, oSL w]
  | _ => [vVD w, vVA w, vVB w, vSA w]

/-- Whether an instruction waits for a scalar result still in the vector queue (R116, R135). -/
def Core.interlocked (c : Core) (k : Nat) (w : Word) : Bool :=
  (c.vq ++ c.vRun.toList).any (fun q => q.slot == k && (match vSDest q with
    | some r => r != 0 && (scalarUse w).contains r
    | none => false))

/-- Issues the Running context's next instruction when it is the one named and nothing holds it: an encoding or
grant that R97 forbids raises the illegal-instruction fault, and otherwise `f` gives the instruction's effect. The command of any
instruction finds a word whose `OP` its group does not list, which is no instruction and has no command of its own (R97, R119). A TBL
reports the address of its command block whatever its fault (R123). -/
def issue (s : State) (n : Fin 288) (grp op : Nat) (f : Nat → Word → State) : Host.Outcome State Fault Refusal :=
  match s.fetch n with
  | none => .next s
  | some (k, w) =>
    if fGrp w = grp && fOp w = op then
      let x := (s.core n).slot k
      if !legal w x.launch.grant x.launch.acc0 x.launch.acc1 then
        .next (s.syncFault n k w 1 (if grp = 2 && op = 5 then (x.s (oSS w)).toNat else 0))
      else if (s.core n).interlocked k w then .next s
      else .next (f k w)
    else if !listed w then .next (s.syncFault n k w 1 0)
    else .next s

/-- The register values of the context that issues. -/
def State.sreg (s : State) (n k r : Nat) : Word := ((s.core n).slot k).s r

/-- The second operand of a C-op (R115). -/
def State.op2 (s : State) (n k : Nat) (w : Word) : Word := s.sreg n k (cSB w) + cIMM w

/-- A C-op that writes sD and goes on (R116). -/
def State.alu (s : State) (n k : Nat) (w : Word) (v : Word) : State := (s.putS n k (cSD w) v).retire n k w

/-- A branch: taken to PC + sext(IMM), or in line (R116). -/
def State.branch (s : State) (n k : Nat) (w : Word) (taken : Bool) : State :=
  if taken then s.goto n k w (BitVec.ofNat 64 ((s.core n).slot k).pc + cIMM w) else s.retire n k w

/-- The first Ready slot after the current one, in the order 0, 1, 2, 3, 0 (R91). Before the first switch after a reset the manual names
no current slot; DESIGN CHOICE: slot 3, so that slot 0 is looked at first (`Core.blank`; log entry 155). -/
def Core.nextReady (c : Core) : Option Nat :=
  ([1, 2, 3, 4].map (fun i => (c.cur + i) % 4)).find? (fun k => (c.slot k).st == .ready)

/-- Switches the scalar unit to the next Ready context, if nothing is Running and one is Ready (R90, R91); a context that stands outside
its region then faults at its fetch (R98). -/
def Core.switch (c : Core) : Core :=
  match c.running, c.nextReady with
  | none, some k => Core.overrun { c.withSlot k { c.slot k with st := .running } with cur := k }
  | _, _ => c

/-! Scratchpad banks (R147, R153, R157, R163). -/

def Core.bankOf (c : Core) (b : Nat) : Bank := tget Bank.blank c.bank b
def Core.setBank (c : Core) (b : Nat) (x : Bank) : Core := { c with bank := tset Bank.blank c.bank b x }

/-- The bank of a scratchpad offset (R147). -/
def bankNo (o : Nat) : Nat := o / 32 % 32

/-- A bank that is Lit and stays so: no change away from Lit is on its way, and it has not failed (R163, R170). -/
def Bank.isLit (b : Bank) : Bool :=
  b.pwr == .lit && !b.failed &&
  (match b.moving with
    | some m => bits 11 10 m.v.toNat == 0
    | none => true)

/-- Whether a preserving March test holds every access to a bank (R169). -/
def Core.underTest (c : Core) (b : Nat) : Bool :=
  match c.march with
  | some m => m.bank == b && !m.destroy
  | none => false

/-- Whether the processor ports reach an offset (R153, R157). -/
def Core.portOk (c : Core) (o : Nat) : Bool :=
  decide (o < 0x30_0000) && (c.bankOf (bankNo o)).owner == 0 && (c.bankOf (bankNo o)).isLit

/-- The scratchpad of a core as a byte reader. -/
def State.spad (s : State) (n : Nat) : Nat → Byte := fun o => s.rd (spadBase n + o)

/-- The bytes of a row that the processor ports reach before the first word that they do not. -/
def Core.portRun (c : Core) (o len : Nat) : Nat := ((List.range len).takeWhile (fun i => c.portOk (o + i))).length

/-- Writes of the processor ports, in order, up to the first word they cannot reach: the words before it, of its own row too, keep
their new data (R121, R157). -/
def spadWrite (n : Nat) (s : State) : List (Nat × List Byte) → State × Bool
  | [] => (s, true)
  | (o, bs) :: rest =>
    let k := (s.core n).portRun o bs.length
    if k = bs.length then spadWrite n (s.wr (spadBase n + o) bs) rest
    else (s.wr (spadBase n + o) (bs.take k), false)

/-- Whether a write leaves part of an 8-byte granule, which it then reads (R148). -/
def partGranule (a len : Nat) : Bool := a % 8 != 0 || (a + len) % 8 != 0

/-- A write cut at the 32-byte words that it touches, in order (R147). -/
def wordCuts (r : Nat × List Byte) : List (Nat × List Byte) :=
  let w := r.1 / 32
  (List.range ((r.1 % 32 + r.2.length + 31) / 32)).map (fun i =>
    let lo := max r.1 (32 * (w + i))
    let hi := min (r.1 + r.2.length) (32 * (w + i) + 32)
    (lo, slice r.2 (lo - r.1) (hi - lo)))

/-- Counts what the check bits of an operation's reads showed (R162). -/
def State.eccCount (s : State) (e : Ecc) : State :=
  match e with
  | .ok 0 => s
  | .ok k => s.odAdd 0x880A 0 k
  | .uncorrectable => s.odInc 0x880B 0

/-- Signals a completion counter of a context's operation (R93). -/
def State.signalCE (s : State) (n : Nat) (ce : Bool) (cnt : Nat) (v : Nat) : State :=
  if ce then s.addCnt n cnt (BitVec.ofNat 64 v) else s

end Sys2Proof.Machine
end

