-- ==== Sys2Proof/Machine/Crypto.lean ====
section
/-! DEFINITION. The standards' algorithms that Onyx and the links use and that no secret hides: SHA-384 (FIPS 180-4), HMAC (FIPS 198-1), the
key derivation of R352, AES-256 (FIPS 197) in its GCM mode (SP 800-38D) and its XTS mode (IEEE 1619), and the hybrid forms of R352 over the
curves and lattices of `Config` (R21, R352, R356, R359 to R362). -/
namespace Sys2Proof.Machine

/-- The number that big-endian bytes hold, and `n` as `k` big-endian bytes. -/
def beNat (bs : List Byte) : Nat := leNat bs.reverse
def beBytes (k n : Nat) : List Byte := (leBytes k n).reverse

/-- Bytes added bit by bit. -/
def xorBytes (a b : List Byte) : List Byte := a.zipWith (fun x y => x ^^^ y) b

/-- Bytes cut into blocks of `k`, the last one shorter, with fuel for their number. -/
def chunksOf (k : Nat) : Nat → List Byte → List (List Byte)
  | 0, _ => []
  | n + 1, bs => if bs.isEmpty then [] else bs.take k :: chunksOf k n (bs.drop k)

/-! ### SHA-384 (FIPS 180-4) -/

def shaK : List Nat :=
  [0x428A_2F98_D728_AE22, 0x7137_4491_23EF_65CD, 0xB5C0_FBCF_EC4D_3B2F, 0xE9B5_DBA5_8189_DBBC, 0x3956_C25B_F348_B538,
   0x59F1_11F1_B605_D019, 0x923F_82A4_AF19_4F9B, 0xAB1C_5ED5_DA6D_8118, 0xD807_AA98_A303_0242, 0x1283_5B01_4570_6FBE,
   0x2431_85BE_4EE4_B28C, 0x550C_7DC3_D5FF_B4E2, 0x72BE_5D74_F27B_896F, 0x80DE_B1FE_3B16_96B1, 0x9BDC_06A7_25C7_1235,
   0xC19B_F174_CF69_2694, 0xE49B_69C1_9EF1_4AD2, 0xEFBE_4786_384F_25E3, 0x0FC1_9DC6_8B8C_D5B5, 0x240C_A1CC_77AC_9C65] ++
  [0x2DE9_2C6F_592B_0275, 0x4A74_84AA_6EA6_E483, 0x5CB0_A9DC_BD41_FBD4, 0x76F9_88DA_8311_53B5, 0x983E_5152_EE66_DFAB,
   0xA831_C66D_2DB4_3210, 0xB003_27C8_98FB_213F, 0xBF59_7FC7_BEEF_0EE4, 0xC6E0_0BF3_3DA8_8FC2, 0xD5A7_9147_930A_A725,
   0x06CA_6351_E003_826F, 0x1429_2967_0A0E_6E70, 0x27B7_0A85_46D2_2FFC, 0x2E1B_2138_5C26_C926, 0x4D2C_6DFC_5AC4_2AED,
   0x5338_0D13_9D95_B3DF, 0x650A_7354_8BAF_63DE, 0x766A_0ABB_3C77_B2A8, 0x81C2_C92E_47ED_AEE6, 0x9272_2C85_1482_353B] ++
  [0xA2BF_E8A1_4CF1_0364, 0xA81A_664B_BC42_3001, 0xC24B_8B70_D0F8_9791, 0xC76C_51A3_0654_BE30, 0xD192_E819_D6EF_5218,
   0xD699_0624_5565_A910, 0xF40E_3585_5771_202A, 0x106A_A070_32BB_D1B8, 0x19A4_C116_B8D2_D0C8, 0x1E37_6C08_5141_AB53,
   0x2748_774C_DF8E_EB99, 0x34B0_BCB5_E19B_48A8, 0x391C_0CB3_C5C9_5A63, 0x4ED8_AA4A_E341_8ACB, 0x5B9C_CA4F_7763_E373,
   0x682E_6FF3_D6B2_B8A3, 0x748F_82EE_5DEF_B2FC, 0x78A5_636F_4317_2F60, 0x84C8_7814_A1F0_AB72, 0x8CC7_0208_1A64_39EC] ++
  [0x90BE_FFFA_2363_1E28, 0xA450_6CEB_DE82_BDE9, 0xBEF9_A3F7_B2C6_7915, 0xC671_78F2_E372_532B, 0xCA27_3ECE_EA26_619C,
   0xD186_B8C7_21C0_C207, 0xEADA_7DD6_CDE0_EB1E, 0xF57D_4F7F_EE6E_D178, 0x06F0_67AA_7217_6FBA, 0x0A63_7DC5_A2C8_98A6,
   0x113F_9804_BEF9_0DAE, 0x1B71_0B35_131C_471B, 0x28DB_77F5_2304_7D84, 0x32CA_AB7B_40C7_2493, 0x3C9E_BE0A_15C9_BEBC,
   0x431D_67C4_9C10_0D4C, 0x4CC5_D4BE_CB3E_42B6, 0x597F_299C_FC65_7E2A, 0x5FCB_6FAB_3AD6_FAEC, 0x6C44_198C_4A47_5817]

def shaInit : List Nat :=
  [0xCBBB_9D5D_C105_9ED8, 0x629A_292A_367C_D507, 0x9159_015A_3070_DD17, 0x152F_ECD8_F70E_5939,
   0x6733_2667_FFC0_0B31, 0x8EB4_4A87_6858_1511, 0xDB0C_2E0D_64F9_8FA7, 0x47B5_481D_BEFA_4FA4]

def rotr64 (n x : Nat) : Nat := (x >>> n ||| x <<< (64 - n)) % 2 ^ 64

/-- The 80 words of a block's schedule, each from the 16 before it, the latest first. -/
def shaWords : Nat → List Nat → List Nat
  | 0, l => l
  | k + 1, l =>
    let w := fun (i : Nat) => getAt 0 l i
    let s0 := rotr64 1 (w 14) ^^^ rotr64 8 (w 14) ^^^ (w 14 >>> 7)
    let s1 := rotr64 19 (w 1) ^^^ rotr64 61 (w 1) ^^^ (w 1 >>> 6)
    shaWords k ((w 15 + s0 + w 6 + s1) % 2 ^ 64 :: l)

/-- One round on the eight working variables. -/
def shaRound (v : List Nat) (kw : Nat × Nat) : List Nat :=
  match v with
  | [a, b, c, d, e, f, g, h] =>
    let s1 := rotr64 14 e ^^^ rotr64 18 e ^^^ rotr64 41 e
    let ch := (e &&& f) ^^^ ((e ^^^ (2 ^ 64 - 1)) &&& g)
    let t1 := h + s1 + ch + kw.1 + kw.2
    let s0 := rotr64 28 a ^^^ rotr64 34 a ^^^ rotr64 39 a
    let maj := (a &&& b) ^^^ (a &&& c) ^^^ (b &&& c)
    [(t1 + s0 + maj) % 2 ^ 64, a, b, c, (d + t1) % 2 ^ 64, e, f, g]
  | _ => v

def shaBlock (h : List Nat) (b : List Byte) : List Nat :=
  let w := (shaWords 64 ((chunksOf 8 16 b).map beNat).reverse).reverse
  let v := (shaK.zip w).foldl shaRound h
  h.zipWith (fun x y => (x + y) % 2 ^ 64) v

/-- The bytes with the padding of a 128-byte block code. -/
def shaPad (bs : List Byte) : List Byte :=
  bs ++ [0x80] ++ List.replicate ((239 - bs.length % 128) % 128) 0 ++ beBytes 16 (8 * bs.length)

@[irreducible] def sha384 (bs : List Byte) : List Byte :=
  let m := shaPad bs
  (((chunksOf 128 (m.length / 128) m).foldl shaBlock shaInit).flatMap (beBytes 8)).take 48

/-! ### HMAC and the key derivation (R352) -/

@[irreducible] def hmac384 (key bs : List Byte) : List Byte :=
  let k := padTo 128 (if key.length > 128 then sha384 key else key)
  sha384 (k.map (fun x => x ^^^ 0x5C) ++ sha384 (k.map (fun x => x ^^^ 0x36) ++ bs))

/-- The bytes of an ASCII label. -/
def ascii (l : String) : List Byte := l.toList.map (fun c => BitVec.ofNat 8 c.toNat)

/-- `KDF(Z, label, fields)`: extraction under a zero salt, and one block of the expansion in counter mode, which gives 48 bytes (R352). The
counter is 32 bits, big-endian, before the label and the fields, and the salt has the block's length, as SP 800-56C has them (DEDUCED from
the standard that R352 names; log entry 166). -/
@[irreducible] def kdf (z : List Byte) (label : String) (fields : List Byte) : List Byte :=
  hmac384 (hmac384 (List.replicate 128 0) z) (beBytes 4 1 ++ ascii label ++ fields)

/-! ### AES-256 (FIPS 197) -/

/-- A product in GF(2^8), modulo x^8 + x^4 + x^3 + x + 1. -/
def aesMul (a b : Nat) : Nat :=
  let p := (List.range 8).foldl (fun r i => if bit i b then r ^^^ a <<< i else r) 0
  (List.range 7).foldl (fun r i => if bit (14 - i) r then r ^^^ 0x11B <<< (6 - i) else r) p

/-- The S-box: the inverse, the power 254, and the affine map. -/
def aesSub (x : Nat) : Nat :=
  let inv := ((List.range 7).foldl (fun (r : Nat × Nat) _ => let q := aesMul r.2 r.2; (aesMul r.1 q, q)) (1, x)).1
  let rot := fun (k : Nat) => (inv <<< k ||| inv >>> (8 - k)) % 256
  inv ^^^ rot 1 ^^^ rot 2 ^^^ rot 3 ^^^ rot 4 ^^^ 0x63

/-- The words of the key schedule, the latest first, each of four bytes. -/
def aesKeys : Nat → List (List Nat) → List (List Nat)
  | 0, l => l
  | n + 1, l =>
    let i := l.length
    let t := getAt [] l 0
    let t := if i % 8 = 0 then
        ((t.drop 1 ++ t.take 1).map aesSub).mapIdx (fun j x => if j = 0 then x ^^^ 2 ^ (i / 8 - 1) else x)
      else if i % 8 = 4 then t.map aesSub else t
    aesKeys n ((getAt [] l 7).zipWith (fun x y => x ^^^ y) t :: l)

/-- The 15 round keys of a 32-byte key, 16 bytes each. -/
def aesRounds (key : List Byte) : List (List Nat) :=
  let w := (aesKeys 52 ((chunksOf 4 8 key).map (fun b => b.map BitVec.toNat)).reverse).reverse
  (List.range 15).map (fun r => ((w.drop (4 * r)).take 4).flatten)

/-- The rows of the state, column by column, shifted. -/
def aesShift (s : List Nat) : List Nat := (List.range 16).map (fun i => getAt 0 s ((i + 4 * (i % 4)) % 16))

/-- The columns mixed. -/
def aesMix (s : List Nat) : List Nat :=
  (List.range 16).map (fun i =>
    let at_ := fun (k : Nat) => getAt 0 s (i / 4 * 4 + (i + k) % 4)
    aesMul 2 (at_ 0) ^^^ aesMul 3 (at_ 1) ^^^ at_ 2 ^^^ at_ 3)

/-- The encryption of a 16-byte block. -/
def aesBlock (ks : List (List Nat)) (b : List Byte) : List Byte :=
  let add := fun (s k : List Nat) => s.zipWith (fun x y => x ^^^ y) k
  let s := add (b.map BitVec.toNat) (getAt [] ks 0)
  let s := (List.range 13).foldl (fun s r => add (aesMix (aesShift (s.map aesSub))) (getAt [] ks (r + 1))) s
  (add (aesShift (s.map aesSub)) (getAt [] ks 14)).map (BitVec.ofNat 8)

/-! ### GCM (SP 800-38D) -/

/-- A product in GF(2^128), the highest bit of the first byte standing for 1. -/
def ghMul (x y : Nat) : Nat :=
  ((List.range 128).foldl (fun (r : Nat × Nat) i =>
    (if bit (127 - i) x then r.1 ^^^ r.2 else r.1,
     if r.2 % 2 = 1 then r.2 / 2 ^^^ 0xE1 * 2 ^ 120 else r.2 / 2)) (0, y)).1

/-- GHASH of whole blocks, each padded with zeros. -/
def ghash (h : Nat) (bs : List Byte) (x : Nat) : Nat :=
  (chunksOf 16 (bs.length / 16 + 1) bs).foldl (fun x b => ghMul (x ^^^ beNat (padTo 16 b)) h) x

/-- The stream that a 12-byte nonce gives from counter 2 on, added to bytes. -/
def gcmStream (ks : List (List Nat)) (nonce bs : List Byte) : List Byte :=
  ((chunksOf 16 (bs.length / 16 + 1) bs).mapIdx (fun i b => xorBytes b (aesBlock ks (nonce ++ beBytes 4 (i + 2))))).flatten

/-- The 16-byte tag of a ciphertext and its additional data. -/
def gcmTag (ks : List (List Nat)) (nonce aad ct : List Byte) : List Byte :=
  let h := beNat (aesBlock ks (List.replicate 16 0))
  let x := ghash h ct (ghash h aad 0)
  let x := ghMul (x ^^^ (8 * aad.length * 2 ^ 64 + 8 * ct.length)) h
  xorBytes (beBytes 16 x) (aesBlock ks (nonce ++ beBytes 4 1))

/-- The ciphertext of bytes under a key, with its tag. -/
@[irreducible] def gcmSeal (key nonce aad pt : List Byte) : List Byte × List Byte :=
  let ks := aesRounds key
  let ct := gcmStream ks nonce pt
  (ct, gcmTag ks nonce aad ct)

/-- The plaintext, where the leading bytes of the tag are the ones given. -/
@[irreducible] def gcmOpen (key nonce aad ct tag : List Byte) : Option (List Byte) :=
  let ks := aesRounds key
  if (gcmTag ks nonce aad ct).take tag.length = tag then some (gcmStream ks nonce ct) else none

/-! ### XTS (IEEE 1619, R356) -/

/-- The tweak of the next block: a product by x in GF(2^128), little-endian. -/
def xtsNext (t : Nat) : Nat := t * 2 % 2 ^ 128 ^^^ (if bit 127 t then 0x87 else 0)

/-- A 64-byte sector as one data unit under a 512-bit key, whose first 32 bytes encrypt the data and whose last 32 the tweak. -/
@[irreducible] def xtsSector (key tweak : Nat) (bs : List Byte) : List Byte :=
  let data := aesRounds (leBytes 32 (key % 2 ^ 256))
  let t := leNat (aesBlock (aesRounds (leBytes 32 (key / 2 ^ 256))) (leBytes 16 tweak))
  ((chunksOf 16 4 bs).foldl (fun (r : List Byte × Nat) b =>
    let m := leBytes 16 r.2
    (r.1 ++ xorBytes (aesBlock data (xorBytes b m)) m, xtsNext r.2)) ([], t)).1

/-! ### The hybrid forms (R351, R352) -/

/-- The public parts of a hybrid agreement key pair: the point and the encapsulation key. -/
def agreePublic (k : Nat) : List Byte := padTo 97 (Config.p384Public k) ++ padTo 1184 (Config.mlkemPublic k)
/-- Whether 97 and 1,184 bytes are such parts. -/
def agreeOk (point kem : List Byte) : Bool := Config.p384Point point && Config.mlkemKey kem

/-- Z at the end that encapsulates, with its point and its ciphertext: the ECDH secret, then the ML-KEM secret. -/
def agreeSend (k : Nat) (point kem : List Byte) : List Byte × List Byte :=
  let e := Config.mlkemEncaps kem k
  (padTo 48 (Config.ecdhShared k point) ++ padTo 32 e.2, padTo 97 (Config.p384Public k) ++ padTo 1088 e.1)
/-- Z at the end that decapsulates. -/
def agreeReceive (k : Nat) (point ct : List Byte) : List Byte :=
  padTo 48 (Config.ecdhShared k point) ++ padTo 32 (Config.mlkemDecaps k ct)

/-- A hybrid signature over the digest of bytes by the identity key: 96 bytes, then 3,309. -/
def hybridSign (m : List Byte) : List Byte :=
  padTo 96 (Config.ecdsaSign Config.identityKey (sha384 m)) ++ padTo 3309 (Config.mldsaSign Config.identityKey (sha384 m))

/-- Bytes verify under a certificate that is trusted for a usage: both parts of the hybrid signature do. -/
def hybridVerifies (usage : Nat) (cert m sig : List Byte) : Bool :=
  let k := Config.certKeys cert
  let d := sha384 m
  Config.certTrusted usage cert && Config.ecdsaVerifies k.1 d (sig.take 96) && Config.mldsaVerifies k.2 d (sig.drop 96)

/-- The identity public keys (OD 0x6400), and the agreement public keys with the identity's signature (OD 0x6401). -/
def identityKeys : List Byte := padTo 97 (Config.p384Public Config.identityKey) ++ padTo 1952 (Config.mldsaPublic Config.identityKey)
def agreementKeys : List Byte := agreePublic Config.agreementKey ++ hybridSign (agreePublic Config.agreementKey)

/-- The key that wraps under a shared secret: the first 32 bytes of its derivation (R352). -/
def wrapKey (z : List Byte) (label : String) (fields : List Byte) : List Byte := (kdf z label fields).take 32
/-- The zero nonce of a wrap (R362). -/
def zeroNonce : List Byte := List.replicate 12 0

end Sys2Proof.Machine
end

