-- ==== Sys2Proof/Machine/LinkOps.lean ====
section
/-! DEFINITION. The links' shared operations: packets as bytes, what a link sends, state changes, lane repair, and the queue behind each
link (R233 to R259, R262). -/
namespace Sys2Proof.Machine

def State.link (s : State) (n : Nat) : Link := tget Link.blank s.links n
def State.setLink (s : State) (n : Nat) (l : Link) : State := { s with links := tset Link.blank s.links n l }
def State.updLink (s : State) (n : Nat) (f : Link → Link) : State := s.setLink n (f (s.link n))

def LinkSt.code : LinkSt → Nat
  | .disabled => 0 | .detect => 1 | .negotiate => 2 | .equalise => 3 | .align => 4 | .qualify => 5
  | .active => 6 | .activeHalf => 7 | .down => 8 | .loopback => 9

/-- Active, at full or half width (R245). -/
def LinkSt.up (l : LinkSt) : Bool := l == .active || l == .activeHalf

/-- A die's comparator has gated its islands (R435): the dies in the order F0, C0, C1, F1. -/
def State.dieGated (s : State) (d : Nat) : Bool := bit d s.power.dies
/-- The Indigo die of a link's router half (R2): L0 to L3, L8 and L9 on F0, the others on F1. -/
def linkDie (n : Nat) : Nat := if n < 4 || n = 8 || n = 9 then 0 else 1
def State.linkGated (s : State) (n : Nat) : Bool := s.dieGated (if linkDie n = 0 then 0 else 3)

/-- Whether a link is Active. -/
def State.linkUp (s : State) (n : Nat) : Bool := (s.link n).st.up && !s.linkGated n

/-- The agreed Henyx Link version (R247, OD 0x4004), and whether a feature is in use. -/
def State.linkVer (s : State) (n : Nat) : Nat := bits 31 24 (s.odNum 0x4004 (n + 1))
def State.linkFeat (s : State) (n k : Nat) : Bool := bit k (s.odNum 0x4004 (n + 1))

/-! ### Packets as bytes (R262, R360) -/

/-- The 32 header bytes of a packet, each field held to its bits (R262). -/
def Pkt.header (p : Pkt) : List Byte :=
  leBytes 32 (p.op % 16 * 2 ^ 252 + p.vc % 4 * 2 ^ 250 + p.dst % 2 ^ 20 * 2 ^ 230 + p.src % 2 ^ 20 * 2 ^ 210 + p.dpart % 16 * 2 ^ 206 +
    p.spart % 16 * 2 ^ 202 + p.win % 64 * 2 ^ 196 + p.offset % 2 ^ 40 * 2 ^ 156 + p.seq % 2 ^ 24 * 2 ^ 132 + p.gen % 256 * 2 ^ 124 +
    p.len % 512 * 2 ^ 115 + b2n p.ce * 2 ^ 114 + p.rcore % 512 * 2 ^ 105 + p.rcnt % 64 * 2 ^ 99 + b2n p.mark * 2 ^ 98 +
    b2n p.echo * 2 ^ 97 + b2n p.dline * 2 ^ 96 + b2n p.esc * 2 ^ 95 + b2n p.reissue * 2 ^ 94 + p.dim % 4 * 2 ^ 92 +
    p.status % 16 * 2 ^ 88 + p.hops % 512 * 2 ^ 79 + p.aux % 2 ^ 32 * 2 ^ 47 + p.keyid % 256 * 2 ^ 39 + p.reserved % 2 ^ 39)

/-- The packet that bytes hold: 32 header bytes, the payload, and after an encrypted one its tag slot. -/
def pktOf (bs : List Byte) : Pkt :=
  let h := leNat (bs.take 32)
  let op := bits 255 252 h
  let len := bits 123 115 h
  let n := if op = 1 then 0 else len
  let tail := bs.drop (32 + (n + 15) / 16 * 16)
  let tag := fieldAt tail 0 16
  { op := op, vc := bits 251 250 h, dst := bits 249 230 h, src := bits 229 210 h, dpart := bits 209 206 h,
    spart := bits 205 202 h, win := bits 201 196 h, offset := bits 195 156 h, seq := bits 155 132 h, gen := bits 131 124 h,
    len := len, ce := bit 114 h, rcore := bits 113 105 h, rcnt := bits 104 99 h, mark := bit 98 h, echo := bit 97 h,
    dline := bit 96 h, esc := bit 95 h, reissue := bit 94 h, dim := bits 93 92 h, status := bits 91 88 h,
    hops := bits 87 79 h, aux := bits 78 47 h, keyid := bits 46 39 h, reserved := bits 38 0 h,
    payload := slice bs 32 n, wrap := bits 27 0 tag, ridx := bits 31 28 tag, tag := bits 127 32 tag, die := 0 }

/-- The payload bytes that a packet carries: none for READ. -/
def Pkt.carried (p : Pkt) : Nat := if p.op = 1 then 0 else p.len

/-- A packet's bytes on a link: header, payload in whole slots, and the last slot of an encrypted one (R262, R360). -/
def Pkt.bytes (p : Pkt) : List Byte :=
  p.header ++ padTo ((p.carried + 15) / 16 * 16) p.payload ++
  (if p.keyid = 0 then [] else leBytes 16 (p.tag % 2 ^ 96 * 2 ^ 32 + p.ridx % 16 * 2 ^ 28 + p.wrap % 2 ^ 28))

/-- Slots on a link: header, payload, and the tag of an encrypted packet (R262). -/
def Pkt.slots (p : Pkt) : Nat := 2 + (p.carried + 15) / 16 + (if p.keyid = 0 then 0 else 1)

/-- A malformed packet (R262). -/
def Pkt.malformed (p : Pkt) : Bool :=
  decide (p.op ≥ 8) || decide (p.status ≥ 8) || p.reserved != 0 || decide (p.len > 256)

/-! ### What a link sends (R236, R239, R240, R242, R243) -/

/-- A flit before it has its number, its credits and its check: type, starts, ends, and the bytes of its slots. -/
structure Body where
  typ : Nat
  sop : Nat
  eop : Nat
  bytes : List Byte

def Body.idle : Body := ⟨0, 0, 0, []⟩
def Body.control (code : Nat) (bs : List Byte) : Body := ⟨2, 0, 0, leBytes 1 code ++ bs⟩

/-- The data flits of packets, which fill slots one after another from slot 0 of the first flit (R239, R241). -/
def dataBodies (ps : List Pkt) : List Body :=
  let slots := ps.flatMap (fun p =>
    let n := p.slots
    (List.range n).map (fun i => (decide (i = 0), decide (i + 1 = n), slice p.bytes (16 * i) 16)))
  (List.range ((slots.length + 14) / 15)).map (fun k =>
    let x := (slots.drop (15 * k)).take 15
    let mask := fun (f : Bool × Bool × List Byte → Bool) => (x.mapIdx (fun j y => if f y then 2 ^ j else 0)).sum
    ⟨1, mask (·.1), mask (·.2.1), x.flatMap (·.2.2)⟩)

/-- The next flit of a link. It returns the credits of channels 0 and 1 where its number is even, and of 2 and 3 where it is odd; which two
channels a flit names is not stated (DESIGN CHOICE, log entry 165). -/
def Link.flit (l : Link) (b : Body) : List Byte :=
  let v := l.flitSeq % 2 * 2
  let h := b.typ * 2 ^ 92 + b.sop * 2 ^ 77 + b.eop * 2 ^ 62 + l.flitSeq % 4096 * 2 ^ 50 + v * 2 ^ 48 + tget 0 l.freed v % 2 ^ 20 * 2 ^ 28 +
    (v + 1) * 2 ^ 26 + tget 0 l.freed (v + 1) % 2 ^ 20 * 2 ^ 6
  let bs := leBytes 12 h ++ padTo 240 b.bytes
  bs ++ leBytes 4 (crc32c bs)

/-- The message that asks for a repair (R252, R253). -/
def Repair.code (r : Repair) : Nat := if r.half = 0xF then 0x02 else 0x04
def Repair.fields (r : Repair) : List Byte :=
  if r.half = 0xF then leBytes 1 r.pos ++ leBytes 1 r.gen
  else leBytes 1 r.half ++ leBytes 1 (if r.pos = 0xF then 0xFF else r.pos) ++ leBytes 1 r.gen

/-- Sends up to five flits as a pair. What is left of it holds idle flits, or while a repair waits for its end the request again: it is sent
in every flit until acknowledged, and DESIGN CHOICE: flits with data or another message go on between, as the other direction keeps
running (R252, R254; log entry 165). -/
def State.sendPair (s : State) (n : Nat) (bs : List Body) : State :=
  let l := s.link n
  let fill := match l.repair with
    | some r => Body.control r.code r.fields
    | none => Body.idle
  let r := (bs ++ List.replicate (5 - bs.length) fill).foldl (fun (a : Link × List (List Byte)) b =>
    ({ a.1 with flitSeq := (a.1.flitSeq + 1) % 4096 }, a.2 ++ [a.1.flit b])) (l, [])
  (s.setLink n { r.1 with pairSeq := (l.pairSeq + 1) % 256 }).emit (.pair n ⟨l.pairSeq, l.txGen, l.txSpare, l.txHalf, r.2⟩)

/-- Sends flits, five to a pair, with fuel for the pairs. -/
def State.sendBodies (n : Nat) : Nat → State → List Body → State
  | 0, s, _ => s
  | k + 1, s, bs => if bs.isEmpty then s else State.sendBodies n k (s.sendPair n (bs.take 5)) (bs.drop 5)

/-- Sends a control message (R243). -/
def State.control (s : State) (n code : Nat) (bs : List Byte) : State :=
  (s.emit (.control n code bs)).sendPair n [Body.control code bs]

/-- The capability message of each lane of a link (R247). -/
def State.capBlocks (s : State) (n flags : Nat) : List (List Byte) :=
  (List.range 9).map (fun k =>
    let b := leBytes 1 2 ++ leBytes 1 3 ++ leBytes 2 7 ++ leBytes 8 (s.odNum 0x1000 0) ++
      leBytes 3 (s.odNum 0x4400 0 % 2 ^ 20 + n * 2 ^ 20) ++ leBytes 1 k ++
      leBytes 1 (flags + b2n (s.odBool 0x4005 (n + 1))) ++ List.replicate 43 0
    b ++ leBytes 4 (crc32c b))

/-- Sends capability messages, with flag 1 for a loopback request and flag 2 for its acceptance (R247, R256). -/
def State.capSend (s : State) (n flags : Nat) : State := s.emit (.capability n (s.capBlocks n flags))

/-! ### State changes (R245, R255, R259) -/

/-- The lane-map word of OD 0x4007. -/
def Link.mapWord (l : Link) : Nat :=
  l.rxSpare * 2 ^ 28 + l.txSpare * 2 ^ 24 + l.rxHalf * 2 ^ 20 + l.txHalf * 2 ^ 16 + l.rxFail % 2 ^ 9

/-- OD 0x4007 shows the lane map. -/
def State.showMap (s : State) (n : Nat) : State := s.odSetN 0x4007 (n + 1) (s.link n).mapWord

/-- The links that the licence enables: all 12 on the 260F, L0 to L7 on the 260C (R2, R258). -/
def State.links260C (s : State) : Bool := !bit 1 s.features
def State.linkLicensed (s : State) (n : Nat) : Bool := if n < 8 then bit 0 s.features else bit 1 s.features

/-- AC.LINK: an enabled link is Down or at half width; in Grey the cause is recorded as elsewhere (R255, R406). -/
def State.linkAmber (s : State) : State :=
  s.amber 2 ((List.range 12).any (fun n =>
    s.odBool 0x4001 (n + 1) && ((s.link n).st == .down || (s.link n).st == .activeHalf)))

/-- GP.LINKS: every enabled, licensed link has ended training, Active or Down, since bring-up began (R402). -/
def State.linksProgress (s : State) : State :=
  if s.life.begun && s.life.svc == .grey && (List.range 12).all (fun n =>
      !(s.odBool 0x4001 (n + 1) && s.linkLicensed n) || bit n s.life.linksDone) then
    s.odSetN 0x2003 0 (withBit 7 true (s.odNum 0x2003 0))
  else s
def State.linkEnded (s : State) (n : Nat) : State :=
  ({ s with life := { s.life with linksDone := withBit n true s.life.linksDone } }).linksProgress

/-- The event of a link: state change, spare swap or narrowing (R492). -/
def State.linkEvent (s : State) (n : Nat) : State :=
  s.raise 0x0003 0x4002 (n + 1) ((s.link n).st.code * 256 + s.odNum 0x4003 (n + 1))

/-- OD 0x4442 and 0x4443 show the steering. -/
def State.showTime (s : State) : State :=
  let root := s.ftime.dist == 0 && s.odBool 0x4440 0
  let st := if s.clk.fabricLocked then 2 else if s.ftime.parent.isSome then 1 else 0
  (s.odSetN 0x4442 0 (st * 2 ^ 24 + s.ftime.dist * 2 ^ 16 + s.ftime.parent.getD 0xF)).odSetN 0x4443 0
    (if s.ftime.parent.isSome || root then s.ftime.root else 0)

/-- The module has no time parent any more: it runs free at its last slewed rate, unlocked, and shows it (R283 to R286). -/
def State.timeFree (s : State) : State :=
  let rate : Int := if s.ftime.slew > 0 then 1 else if s.ftime.slew < 0 then -1 else s.ftime.free
  { s with ftime := { s.ftime with parent := none, good := 0, dist := 0xFF, slew := 0, free := rate },
           clk := { s.clk with fabricLocked := false } }.showTime

/-- A link that leaves Active is no time parent (R283). -/
def State.timeLost (s : State) (n : Nat) : State := if s.ftime.parent = some n then s.timeFree else s

/-- What a link loses when it leaves Active: the packets it holds (R245, R267). -/
def Link.drop (l : Link) : Link :=
  { l with asm := [], rx := [], ctl := [], txq := [], repair := none, txHold := false, pend := [], resync := false,
           lastSeq := none, discards := 0, sent := [], rcvd := [], freed := [], credit := [], alignLost := [] }

/-- A link state change: OD 0x4002, the transition count, the EV09 crossing, the event, AC.LINK and fault
0x0C for an enabled link that is Down or at half width (R245, R255, R371). -/
def State.linkGo (s : State) (n : Nat) (st : LinkSt) (reason : Nat) : State :=
  let l := s.link n
  let s := if l.st.up && !st.up then (s.setLink n l.drop).timeLost n else s
  let s := s.updLink n (fun l => { l with st := st })
  let s := (s.odSetN 0x4002 (n + 1) st.code).odSetN 0x4003 (n + 1) reason
  let s := (s.odInc 0x4025 (n + 1)).pulse 9 n
  let s := (s.linkEvent n).linkAmber
  let s := if st == .active || st == .activeHalf || st == .down then s.linkEnded n else s
  if (st == .down || st == .activeHalf) && s.odBool 0x4001 (n + 1) then s.faultRecord 0x0C 1 4 n none false st.code else s

/-- Into Down, with its reason; the retry interval is taken (R245, R259). -/
def State.linkFail (s : State) (n reason : Nat) : State := (s.linkGo n .down reason).odApply 0x4011 0

/-- Into Down for lost lanes, sending DOWN to the partner (R245). -/
def State.lanesLost (s : State) (n : Nat) : State :=
  let up := s.linkUp n
  let s := if up then s.control n 0x07 (leBytes 1 7) else s
  s.linkFail n 7

/-- The link's endpoints leave reset: the events of its crossing are discarded (R53, R54). -/
def State.linkReset (s : State) (n : Nat) : State := s.xingClear (fun ev i => ev == 9 && i == n)

/-- Whether a link accepts a far-end loopback request: the value of OD 0x4032 that it took at its last Negotiate; before the first it is the
value in force (R256, R259). -/
def State.farOk (s : State) (n : Nat) : Bool := (s.link n).farOk.getD (s.odBool 0x4032 0)

/-- A link enters Negotiate and takes an accepted OD 0x4032; each other link keeps the value that it has until its own Negotiate (R17, R259).
-/
def State.farTake (s : State) (n : Nat) : State :=
  let old := s.odBool 0x4032 0
  let s := (List.range 12).foldl (fun s k => s.updLink k (fun l => { l with farOk := some (l.farOk.getD old) })) s
  let s := s.odApply 0x4032 0
  s.updLink n (fun l => { l with farOk := some (s.odBool 0x4032 0) })

/-- Into Negotiate: the settings that wait for it apply, and the capability blocks go out (R245, R259). -/
def State.enterNegotiate (s : State) (n : Nat) : State :=
  (((s.odApplyAll [(0x4005, n + 1), (0x400A, n + 1)]).farTake n).linkGo n .negotiate 0).capSend n 0

/-- Into Detect: the training timer starts, with the timeout and attempts taken here (R245, R259). -/
def State.linkDetect (s : State) (n : Nat) : State :=
  let s := (s.odApply 0x4010 0).odApply 0x4012 0
  let a := s.odNum 0x4012 0
  let s := s.updLink n (fun l => { Link.blank with attempts := a, st := l.st, farOk := l.farOk })
  ((s.linkReset n).linkGo n .detect 0).showMap n

/-- A loopback test of the link's own is in progress; mode 4 is the far end of a partner's. -/
def Link.testing (l : Link) : Bool :=
  match l.loop with
  | none => false
  | some lb => lb.mode != 4

/-- The lanes of a link whose test was abandoned report status 6 (R257). -/
def State.testAbandoned (s : State) (n : Nat) : State :=
  (List.range 9).foldl (fun s k => s.odSetN 0x4031 (9 * n + k + 1) (6 * 2 ^ 28)) s

/-- Into Disabled: packets on the link are lost, and a test of its own in progress is abandoned (R245, R257). -/
def State.linkOff (s : State) (n : Nat) : State :=
  let s := if (s.link n).testing then s.testAbandoned n else s
  let s := if (s.link n).st = .disabled then s else s.linkGo n .disabled 0
  ((s.updLink n (fun l => { Link.blank with farOk := l.farOk })).linkReset n).showMap n

/-! ### Lanes that fail (R252, R253) -/

/-- The width that a set of failing positions of one direction leaves: `none` for Down, or the position on lane 8 (0xF
none) and the half (0xF full). A bad lane 8 counts as a failing lane (log entry 21). -/
def laneFit (fails : Nat) (swapOk halfOk : Bool) : Option (Nat × Nat) :=
  let ps := bitList 8 fails
  let spareBad := bit 8 fails || !swapOk
  match ps with
  | [] => some (0xF, 0xF)
  | [p] =>
    if !spareBad then some (p, 0xF)
    else if !halfOk then none
    else if p < 4 then some (0xF, 1) else some (0xF, 0)
  | [p, q] =>
    if !halfOk then none
    else if q < 4 then some (0xF, 1)
    else if p ≥ 4 then some (0xF, 0)
    else if spareBad then none else some (p, 0)
  | _ => none

/-- Whether a half can carry a direction with these failing positions: at most one of them in the half, and lane 8
good where there is one (R253). -/
def halfFits (fails half : Nat) (swapOk : Bool) : Bool :=
  let ps := (bitList 8 fails).filter (fun p => decide (p / 4 = half))
  match ps with
  | [] => true
  | [_] => swapOk && !bit 8 fails
  | _ => false

/-- The one failing position that lane 8 serves in a half. -/
def halfSpare (fails half : Nat) : Nat := ((bitList 8 fails).find? (fun p => decide (p / 4 = half))).getD 0xF

/-- The spare and half of both directions for their failing positions: full width where each of them can have it, and otherwise one half
for both, positions 4 to 7 where a direction asks for them (R253). -/
def bothFit (rx tx : Nat) (swapOk halfOk : Bool) : Option (Nat × Nat × Nat) :=
  match laneFit rx swapOk halfOk, laneFit tx swapOk halfOk with
  | some a, some b =>
    if a.2 = 0xF && b.2 = 0xF then some (a.1, b.1, 0xF)
    else
      let h := if a.2 = 1 || b.2 = 1 then 1 else 0
      if halfOk && halfFits rx h swapOk && halfFits tx h swapOk then some (halfSpare rx h, halfSpare tx h, h) else none
  | _, _ => none

/-- Whether a lane of the receive direction serves a position. -/
def Link.uses (l : Link) (lane : Nat) : Bool := (positions l.rxHalf).any (fun p => laneAt l.rxSpare p == lane)

/-- Begins a repair: its request goes out (R252 step 2). -/
def State.askRepair (s : State) (n : Nat) (r : Repair) : State :=
  (s.updLink n (fun l => { l with repair := some r })).control n r.code r.fields

/-- The receiver enters resync: the packet being assembled is dropped, and its slots are freed (R241). -/
def Link.enterResync (l : Link) : Link :=
  let vc := (pktOf l.asm).vc
  let k := l.asm.length / 16
  if k < 2 then { l with asm := [], resync := true }
  else { l with asm := [], resync := true, rcvd := tset 0 l.rcvd vc ((tget 0 l.rcvd vc + k) % 2 ^ 20),
                freed := tset 0 l.freed vc ((tget 0 l.freed vc + k) % 2 ^ 20) }

/-- An Active receiver declares a lane failing: a swap to the spare, a narrowing, or Down (R245, R252, R253). A
failure during a repair waits for its end (R254), that of the spare to which a repair under way goes too; a lane that serves no position is
only marked. -/
def State.laneFails (s : State) (n lane : Nat) : State :=
  let inUse := (s.link n).uses lane || (lane == 8 && (s.link n).repair.any (fun r => r.pos != 0xF))
  let s := (s.updLink n (fun l => { l.enterResync with rxFail := withBit lane true l.rxFail })).showMap n
  let l := s.link n
  if !inUse then s
  else if l.repair.isSome then s.setLink n { l with pend := l.pend ++ [lane] }
  else if s.linkVer n < 3 then s.lanesLost n
  else
    let swapOk := s.linkFeat n 0
    let g := (l.rxGen + 1) % 16
    if lane != 8 && swapOk && l.rxSpare == 0xF && !bit 8 l.rxFail then s.askRepair n ⟨lane, 0xF, g⟩
    else if l.halfOk && l.rxHalf == 0xF then
      match laneFit l.rxFail swapOk true with
      | some (sp, h) => s.askRepair n ⟨sp, if h = 0xF then (if lane < 4 then 1 else 0) else h, g⟩
      | none => s.lanesLost n
    else s.lanesLost n

/-! ### Credits and the send queue (R242, R270, R271) -/

/-- Whether the fabric runs in Escape mode (R270, R271). -/
def State.escapeMode (s : State) : Bool := s.odNum 0x4401 0 == 1

/-- Slots of a receiver's buffer that one channel has (R242). -/
def State.vcSlots (s : State) (n : Nat) : Nat :=
  (if n < 8 then 0x8_0000 else 0x40_0000) / 16 / (if s.escapeMode then 3 else 4)

/-- The free credits of a channel of a link. -/
def State.freeCredits (s : State) (n vc : Nat) : Nat :=
  let l := s.link n
  s.vcSlots n - (tget 0 l.sent vc + 2 ^ 20 - tget 0 l.credit vc) % 2 ^ 20

/-- Slots queued on one channel of a link. -/
def Link.queued (l : Link) (vc : Nat) : Nat := ((l.txq.filter (fun p => p.vc == vc)).map Pkt.slots).sum

/-- Sends one packet on a link. -/
def State.linkTx (s : State) (n : Nat) (p : Pkt) : State :=
  (s.updLink n (fun l => { l with sent := tset 0 l.sent p.vc ((tget 0 l.sent p.vc + p.slots) % 2 ^ 20) })).emit (.packet n p)

/-- Sends the queued packets of each channel that have credits, in order within a channel; nothing while a repair of
the transmit direction holds data (R242, R252). -/
def State.drainLink (s : State) (n : Nat) : State :=
  if !s.linkUp n || (s.link n).txHold then s
  else
    let q := (s.link n).txq
    let r := q.foldl (fun (a : State × List Pkt × List Pkt) p =>
      if a.2.1.any (fun x => x.vc == p.vc) || a.1.freeCredits n p.vc < p.slots then (a.1, a.2.1 ++ [p], a.2.2)
      else (a.1.linkTx n p, a.2.1, a.2.2 ++ [p])) (s, [], [])
    let bs := dataBodies r.2.2
    State.sendBodies n bs.length (r.1.updLink n (fun l => { l with txq := r.2.1 })) bs

/-- Whether a link's output queue has room for a packet: it holds 2,048 slots of each channel (R278). -/
def State.queueRoom (s : State) (n : Nat) (p : Pkt) : Bool := decide ((s.link n).queued p.vc + p.slots ≤ 2048)

/-- Queues a packet to a link; over the mark threshold the packet is marked, and one mark in N is traced (R279). -/
def State.linkPut (s : State) (n : Nat) (p : Pkt) : State :=
  let s := s.odApply 0x4800 0
  let depth := (s.link n).queued p.vc
  let deep := decide (depth > s.odNum 0x4800 0)
  let s := if deep then
      let s := (s.odInc 0x4810 1).odApply 0x4807 0
      let m := s.fabric.marks + 1
      let s := { s with fabric := { s.fabric with marks := m } }
      if m % s.odNum 0x4807 0 = 0 then s.lilac 4 0 n (p.src * 2 ^ 20 + p.dst) depth (some p.spart) else s
    else s
  let p := if deep then { p with mark := true } else p
  (s.updLink n (fun l => { l with txq := l.txq ++ [p] })).drainLink n

end Sys2Proof.Machine
end

