-- ==== Sys2Proof/Machine/FabricOps.lean ====
section
/-! DEFINITION. The fabric's shared operations: routes, injection, rate limiters, requests and replies, and the table
swap (R260 to R285). -/
namespace Sys2Proof.Machine

/-- The module's own coordinate (R260). -/
def State.own (s : State) : Nat := s.odNum 0x4400 0

/-- Dimension `d` (0 X, 1 Y, 2 Z) of a packed coordinate (R13). -/
def coordDim (d c : Nat) : Nat :=
  match d with
  | 0 => bits 19 13 c
  | 1 => bits 12 6 c
  | _ => bits 5 0 c

/-! ### Routing tables (R266) -/

/-- The bytes of a table (0 A, 1 B), and of the active one. -/
def State.rtable (s : State) (t : Nat) : List Byte := s.odBlob (0x4410 + t) 0
def State.active (s : State) : List Byte := s.rtable (s.odNum 0x4402 0)

/-- Fields of a table; an empty table has no entries, no block and no links (R267). -/
def rtExt (t : List Byte) (d : Nat) : Nat := fieldAt t (2 + d) 1
def rtOrg (t : List Byte) (d : Nat) : Nat := fieldAt t (5 + d) 1
def rtRing (t : List Byte) (d : Nat) : Bool := bit d (fieldAt t 1 1)
def rtDir (t : List Byte) (d dir : Nat) : Nat := fieldAt t (8 + 4 * d + 2 * dir) 2
def rtNexc (t : List Byte) : Nat := fieldAt t 24 2
def rtNesc (t : List Byte) : Nat := fieldAt t 26 2
def rtExc (t : List Byte) : List Nat := (List.range (rtNexc t)).map (fun i => fieldAt t (64 + 8 * i) 8)
def rtEsc (t : List Byte) : List Nat := (List.range (rtNesc t)).map (fun i => fieldAt t (64 + 8 * (rtNexc t + i)) 8)

/-- Whether a coordinate matches an entry (R267). -/
def exMatches (e dst : Nat) : Bool := (dst ^^^ bits 63 44 e) &&& bits 43 24 e == 0

/-- The links that a mask may name: all 12, or L0 to L7 on the 260C (R2, R266). -/
def State.maskOk (s : State) (m : Nat) : Bool := m < 2 ^ 12 && (!s.links260C || m < 2 ^ 8)

/-- A table that R266 accepts; an empty BLOB is no table. What stands in its Reserved bytes and bits is ignored (R7). -/
def State.tableOk (s : State) (t : List Byte) : Bool :=
  decide (t.length = 64 + 8 * (rtNexc t + rtNesc t)) && fieldAt t 0 1 == 1 && decide (fieldAt t 1 1 < 8) &&
  (List.range 3).all (fun d =>
    let top := if d = 2 then 64 else 128
    decide (1 ≤ rtExt t d) && decide (rtExt t d ≤ top) && decide (rtOrg t d + rtExt t d ≤ top)) &&
  (List.range 8).all (fun i => s.maskOk (fieldAt t (8 + 2 * i) 2)) &&
  decide (rtNexc t ≤ 4096) && decide (rtNesc t ≤ 1024) &&
  (rtExc t).all (fun e => s.maskOk (bits 23 12 e) && decide (bits 11 10 e < 3)) &&
  (rtEsc t).all (fun e => s.maskOk (bits 23 12 e) && bits 11 10 e == 0)

/-! ### The choice of an output (R267, R270, R271) -/

/-- What a router does with a packet: deliver it, answer unreachable, or send it on one of a mask's links, with
whether the hop turns, the dimension of the mask (0 none, 1 X, 2 Y, 3 Z) and its direction (0 +, 1 -). -/
inductive Route where
  | deliver
  | unreachable
  | out (mask : Nat) (turn : Bool) (dim dir : Nat)
  deriving DecidableEq, Repr

/-- Whether a destination lies in the table's block. -/
def inBlock (t : List Byte) (dst : Nat) : Bool :=
  !t.isEmpty && (List.range 3).all (fun d =>
    decide (rtOrg t d ≤ coordDim d dst) && decide (coordDim d dst < rtOrg t d + rtExt t d))

/-- The direction in a dimension: 0 for +, 1 for -; a tie on a ring goes + (R267). -/
def dirOf (t : List Byte) (own dst d : Nat) : Nat :=
  let n := rtExt t d
  let f := (coordDim d dst + n - coordDim d own % n) % n
  if rtRing t d then (if f ≤ n - f then 0 else 1)
  else (if coordDim d dst > coordDim d own then 0 else 1)

/-- `route` of R267. -/
def State.route0 (s : State) (p : Pkt) : Route :=
  let t := s.active
  if p.dst = s.own then .deliver
  else match (rtExc t).find? (fun e => exMatches e p.dst) with
  | some e => if bits 11 10 e = 2 then .unreachable else .out (bits 23 12 e) (bits 11 10 e == 1) 0 0
  | none =>
    if !inBlock t p.dst then .out (fieldAt t 20 2) true 0 0
    else match (List.range 3).find? (fun d => coordDim d p.dst != coordDim d s.own) with
    | none => .deliver
    | some d => let dir := dirOf t s.own p.dst d; .out (rtDir t d dir) (p.dim != d + 1) (d + 1) dir

/-- The Active links of a mask; Escape mode leaves version 2 links out (R267, R271). -/
def State.live (s : State) (mask : Nat) : List Nat :=
  (bitList 12 mask).filter (fun n => s.linkUp n && (!s.escapeMode || decide (s.linkVer n ≥ 3)))

/-- `h(p)` of R267. -/
def Pkt.hash (p : Pkt) : Nat := crc32c (leBytes 8 (p.src * 2 ^ 28 + p.dst * 2 ^ 8 + p.spart * 2 ^ 4))

/-- The link of a mask that a packet takes, and its place among the live ones. -/
def State.pick (s : State) (p : Pkt) (mask : Nat) : Option Nat :=
  let l := s.live mask
  l[p.hash % l.length]?

def Pkt.isReply (p : Pkt) : Bool := p.op == 2 || p.op == 3 || p.op == 7

/-- The escape route of a packet: the first escape entry it matches, otherwise up (R271). -/
def State.escapeMask (s : State) (dst : Nat) : Nat :=
  match (rtEsc s.active).find? (fun e => exMatches e dst) with
  | some e => bits 23 12 e
  | none => fieldAt s.active 22 2

/-- The minimal candidates of Escape mode with the dimension of each (R271). -/
def State.minimal (s : State) (dst : Nat) : List (Nat × Nat) :=
  let t := s.active
  (List.range 3).flatMap (fun d =>
    if coordDim d dst = coordDim d s.own then []
    else
      let n := rtExt t d
      let f := (coordDim d dst + n - coordDim d s.own % n) % n
      let dirs := if rtRing t d && f == n - f then [0, 1] else [dirOf t s.own dst d]
      dirs.flatMap (fun dir => (s.live (rtDir t d dir)).map (fun l => (l, d + 1))))

/-- The candidate with the most free credits on a channel, the lowest link on a tie. -/
def State.bestCredit (s : State) (vc : Nat) (l : List (Nat × Nat)) : Option (Nat × Nat) :=
  l.foldl (fun b c => match b with
    | none => if s.freeCredits c.1 vc > 0 then some c else none
    | some b =>
      if s.freeCredits c.1 vc > s.freeCredits b.1 vc || (s.freeCredits c.1 vc = s.freeCredits b.1 vc && c.1 < b.1) then
        some c else some b) none

/-- The output of a packet that a router sends on: the link and the header after R268, R270 and R271; `none` where no
Active link or no escape route serves it, with whether that is answered unreachable. -/
def State.output (s : State) (p : Pkt) (mask : Nat) (turn : Bool) (dim dir : Nat) : Sum Bool (Nat × Pkt) :=
  let adaptive := if p.isReply then 1 else 0
  if !s.escapeMode then
    match s.pick p mask with
    | none => .inl false
    | some n =>
      let t := s.active
      let d := dim - 1
      let date := dim != 0 && rtRing t d &&
        ((dir == 0 && coordDim d s.own == rtOrg t d + rtExt t d - 1) || (dir == 1 && coordDim d s.own == rtOrg t d))
      let dl := (p.dline && !turn) || date
      .inr (n, { p with dline := dl, vc := (if p.isReply then 2 else 0) + b2n dl, dim := dim })
  else
    let esc := fun (p : Pkt) =>
      let m := s.escapeMask p.dst
      if m = 0 then Sum.inl true
      else match s.pick p m with
        | none => Sum.inl false
        | some n => Sum.inr (n, { p with esc := true, vc := 2, dim := 0 })
    if p.esc then esc p
    else if dim = 0 then
      match s.pick p mask with
      | none => .inl false
      | some n => .inr (n, { p with vc := adaptive, dim := 0 })
    else match s.bestCredit adaptive (s.minimal p.dst) with
      | some (n, d) => .inr (n, { p with vc := adaptive, dim := d })
      | none => esc p

/-- The reply to a request: SRC and DST exchanged, the request's SEQ, GEN, SPART and window fields, its mark echoed
(R263, R279). -/
def Pkt.reply (p : Pkt) (op status aux keyid : Nat) (payload : List Byte) : Pkt :=
  { p with op := op, status := status, aux := aux, keyid := keyid, src := p.dst, dst := p.src, len := payload.length,
           payload := payload, mark := false, echo := p.mark, dline := false, esc := false, reissue := false, dim := 0,
           hops := 0, ce := false, rcore := 0, rcnt := 0, vc := 0, ridx := 0, tag := 0 }

/-- What becomes of a packet at the router: delivered here, answered as unreachable, lost with an element of OD 0x4416, or sent on a
link. -/
inductive Way where
  | deliver
  | unreachable
  | lost (element : Nat)
  | hop (link : Nat) (p : Pkt)
  deriving DecidableEq, Repr

/-- The way of a packet (R261, R267 to R271). One on the escape channel stays on it until it is delivered. -/
def State.way (s : State) (p : Pkt) : Way :=
  if p.dst = 0xF_FFFF || s.own = 0xF_FFFF then .lost 3
  else
    let hop := fun (r : Sum Bool (Nat × Pkt)) => match r with
      | .inl true => Way.unreachable
      | .inl false => .lost 1
      | .inr (n, q) => if p.hops + 1 > s.odNum 0x4403 0 then .lost 2 else .hop n { q with hops := p.hops + 1 }
    if s.escapeMode && p.esc && p.dst ≠ s.own then hop (s.output p 0 false 0 0)
    else match s.route0 p with
      | .deliver => .deliver
      | .unreachable => .unreachable
      | .out mask turn dim dir => hop (s.output p mask turn dim dir)

/-- One pass of a packet through the router: local delivery, a hop, a counted discard, or the ERROR that answers a
request as unreachable (R261, R267 to R269). -/
def State.routeOnce (s : State) (p : Pkt) : State × Option Pkt :=
  let s := s.odApply 0x4403 0
  match s.way p with
  | .deliver => ({ s with fabric := { s.fabric with inbox := s.fabric.inbox ++ [p] } }, none)
  | .unreachable => if p.isReply then (s.odInc 0x4416 1, none) else (s, some (p.reply 7 5 0 0 []))
  | .lost k => (s.odInc 0x4416 k, none)
  | .hop n q => (s.linkPut n q, none)

/-- Routes a packet, and the answer that its routing draws. -/
def State.route (s : State) (p : Pkt) : State :=
  match s.routeOnce p with
  | (s, none) => s
  | (s, some r) => (s.routeOnce r).1

/-- Whether the output queue of a packet's way has no room for it (R278). -/
def State.wayFull (s : State) (p : Pkt) : Bool :=
  match s.way p with
  | .hop n q => !s.queueRoom n q
  | _ => false

/-- Whether the output queue that a packet goes to, or the one that the ERROR which answers it goes to, has no room, under the hop limit
that its routing takes (R267 to R269, R278). -/
def State.routeFull (s : State) (p : Pkt) : Bool :=
  let s := s.odApply 0x4403 0
  s.wayFull p || (s.way p == .unreachable && !p.isReply && s.wayFull (p.reply 7 5 0 0 []))

/-! ### Packet encryption (R359, R360)

A packet's payload crosses the links encrypted. The endpoint encrypts as it injects, and decrypts as the packet is taken from the inbox. -/

/-- The job secret installed for a key selector, in its 48 bytes. -/
def State.jobSecret (s : State) (sel : Nat) : Option (List Byte) :=
  ((List.range 32).find? (fun i => let v := s.odNum 0x6416 (i + 1); bits 15 8 v == sel && decide (bits 7 0 v ≥ 2))).map
    (fun i => leBytes 48 (tget 0 s.sec.onyx.secret i))

/-- The requester and the responder of a packet's flow. -/
def Pkt.asker (p : Pkt) : Nat := if p.isReply then p.dst else p.src
def Pkt.asked (p : Pkt) : Nat := if p.isReply then p.src else p.dst

/-- The flow key of a packet's direction, 32 bytes, and its salt, 4 bytes. The fields' widths and the order of key and salt are not stated
(DESIGN CHOICE, log entry 166). -/
def Pkt.flowKey (p : Pkt) (secret : List Byte) : List Byte × List Byte :=
  let k := kdf secret "HX-FLOW" (leBytes 1 p.keyid ++ leBytes 4 p.asker ++ leBytes 4 p.asked ++ leBytes 1 p.spart ++ leBytes 1 (b2n p.isReply))
  (k.take 32, slice k 32 4)

/-- Bytes 0 to 3 of an encrypted packet's last slot. -/
def Pkt.slotHead (p : Pkt) : List Byte := leBytes 4 (p.ridx % 16 * 2 ^ 28 + p.wrap % 2 ^ 28)

/-- The nonce of a packet under its salt, and its additional data. -/
def Pkt.nonce (p : Pkt) (salt : List Byte) : List Byte := salt ++ p.slotHead ++ leBytes 3 p.seq ++ leBytes 1 (b2n p.isReply)
def Pkt.aad (p : Pkt) : List Byte :=
  { p with vc := 0, mark := false, echo := false, dline := false, esc := false, reissue := false, dim := 0, hops := 0 }.header ++ p.slotHead

/-- The packet encrypted; one whose selector names no installed secret at its sender goes out as it is, with a tag of zeros (DESIGN CHOICE: no
rule says what the sender does; log entry 166). -/
def State.seal (s : State) (p : Pkt) : Pkt :=
  if p.keyid = 0 then p
  else match s.jobSecret p.keyid with
    | none => { p with tag := 0 }
    | some z =>
      let k := p.flowKey z
      let r := gcmSeal k.1 (p.nonce k.2) p.aad (p.payload.take p.carried)
      { p with payload := r.1, tag := leNat (r.2.take 12) }

/-- What an arriving packet holds: itself with its payload in clear, or the element of OD 0x6418 that counts its discard: 2 where no secret
is installed, 1 where the tag fails. -/
def State.opened (s : State) (p : Pkt) : Except Nat Pkt :=
  if p.keyid = 0 then .ok p
  else match s.jobSecret p.keyid with
    | none => .error 2
    | some z =>
      let k := p.flowKey z
      match gcmOpen k.1 (p.nonce k.2) p.aad (p.payload.take p.carried) (leBytes 12 p.tag) with
      | none => .error 1
      | some bs => .ok { p with payload := bs }

/-- The keys of a packet's flow are in the cache of a die: they are derived, unless they are there already; where the die holds those of
16,384 flows, one gives way, and which one is not stated (a free value; log entry 166). -/
def State.keyCached (s : State) (p : Pkt) (part : Nat) : State :=
  if p.keyid = 0 || (s.jobSecret p.keyid).isNone then s
  else
    let k : FlowKey := ⟨p.die, p.keyid, p.asker, p.asked, p.spart, part⟩
    if s.fabric.keys.contains k then s
    else
      let mine := s.fabric.keys.filter (fun x => x.die == p.die)
      if mine.length < 16384 then { s with fabric := { s.fabric with keys := s.fabric.keys ++ [k] } }
      else
        let f := s.freeVal 14
        let gone := mine[f.1]?
        { f.2 with fabric := { f.2.fabric with keys := f.2.fabric.keys.filter (fun x => some x != gone) ++ [k] } }

/-! ### Rate limiters (R280) -/

/-- The link rate in bytes per second: 400 GB/s at version 3, 200 GB/s at version 2, half of that at half width. -/
def State.linkRate (s : State) (n : Nat) : Nat :=
  (if s.linkVer n ≥ 3 then 400_000_000_000 else 200_000_000_000) / (if (s.link n).st == .activeHalf then 2 else 1)

/-- The rate of the link that a flow leaves on. -/
def State.flowRate (s : State) (p : Pkt) : Nat :=
  match s.route0 p with
  | .out mask _ _ _ => match s.pick p mask with
    | some n => s.linkRate n
    | none => 400_000_000_000
  | _ => 400_000_000_000

/-- A token bucket of 4 KiB, in units of 10^-9 byte: its level after the time since it was last looked at, at a rate in bytes per second. -/
def bucket (level filled rate now : Nat) : Nat := min (4096 * 10 ^ 9) (level + rate * (now - filled))

/-- The full size of a packet: header, payload and tag. -/
def Pkt.size (p : Pkt) : Nat := 32 + p.carried + (if p.keyid = 0 then 0 else 16)

/-- A limiter entry with its bucket filled up to a time. -/
def Limiter.upTo (l : Limiter) (now : Nat) : Limiter := { l with level := bucket l.level l.filled l.rate now, filled := now }

def Limiter.is (dst spart : Nat) (l : Limiter) : Bool := l.dst == dst && l.spart == spart

/-- A flow's limiter entry is there: found, created at the cold-start rate with a full bucket, or, where no entry is free, nowhere. The die
that a flow's entry takes and the level that it starts at are not stated (DESIGN CHOICE, log entry 23). -/
def State.limiterFor (s : State) (p : Pkt) : State :=
  if s.fabric.limiters.any (Limiter.is p.dst p.spart) || s.fabric.limiters.length ≥ 32768 then s
  else
    let s := s.odApply 0x4801 0
    let d := if (s.fabric.limiters.filter (fun l => l.die == 0)).length < 16384 then 0 else 1
    let e : Limiter := ⟨p.dst, p.spart, s.flowRate p * s.odNum 0x4801 0 / 100, none, false, s.now, d, 4096 * 10 ^ 9, s.now⟩
    { s with fabric := { s.fabric with limiters := s.fabric.limiters ++ [e] } }

/-- A packet draws on its flow's limiter, or on the overflow limiter, which stays at the cold-start rate; `none` where the bucket does not
hold the packet's size. -/
def State.draw (s : State) (p : Pkt) : Option State :=
  let cost := p.size * 10 ^ 9
  match s.fabric.limiters.find? (Limiter.is p.dst p.spart) with
  | some l =>
    let l := l.upTo s.now
    if l.level < cost then none
    else some { s with fabric := { s.fabric with
      limiters := updFirst (Limiter.is p.dst p.spart) (fun _ => { l with level := l.level - cost, last := s.now }) s.fabric.limiters } }
  | none =>
    let n := bucket s.fabric.spill.1 s.fabric.spill.2 (s.flowRate p * s.odNum 0x4801 0 / 100) s.now
    if n < cost then none
    else some ({ s with fabric := { s.fabric with spill := (n - cost, s.now) } }.odInc 0x4810 3)

/-- A reply with ECHO halves its flow's rate, at most once per hold-off and not below the minimum (R280). -/
def State.echo (s : State) (p : Pkt) : State :=
  if p.echo then
    let s := s.odApplyAll [(0x4805, 0), (0x4802, 0)]
    let s := s.odInc 0x4810 2
    let rate := s.flowRate { p with dst := p.src, src := p.dst }
    let f := fun (l : Limiter) =>
      let due := match l.halvedAt with
        | none => true
        | some t => decide (s.now ≥ t + s.odNum 0x4805 0)
      if due then
        { l.upTo s.now with rate := max (l.rate / 2) (rate * s.odNum 0x4802 0 / 100), halvedAt := some s.now, halved := true }
      else l
    { s with fabric := { s.fabric with limiters := updFirst (Limiter.is p.src p.spart) f s.fabric.limiters } }
  else s

/-! ### Injection, requests, replies (R272, R274 to R277) -/

/-- An endpoint injects a packet now, where its limiter holds the tokens and the output queue the room. -/
def State.tryInject (s : State) (p : Pkt) : Option State :=
  if s.routeFull p then none
  else ((s.limiterFor p).draw p).map (fun s => (s.keyCached p (if p.isReply then p.dpart else p.spart)).route (s.seal p))

/-- An endpoint's packet that cannot go yet is held, and the later ones of its flow behind it (R278, R280). -/
def State.injectNow (s : State) (p : Pkt) : State :=
  if s.fabric.held.any (fun q => q.dst == p.dst && q.spart == p.spart) then { s with fabric := { s.fabric with held := s.fabric.held ++ [p] } }
  else match s.tryInject p with
    | some s => s
    | none => { s with fabric := { s.fabric with held := s.fabric.held ++ [p] } }

/-- An endpoint injects a packet; a table swap holds it (R272), and an unassigned module injects none (R261). -/
def State.inject (s : State) (p : Pkt) : State :=
  if s.fabric.stopped then { s with fabric := { s.fabric with frozen := s.fabric.frozen ++ [p] } }
  else if s.own = 0xF_FFFF then s
  else s.injectNow p

/-- The held packets are tried again, in their order. -/
def State.retryHeld (s : State) : State :=
  if s.fabric.stopped || s.fabric.held.isEmpty || s.own = 0xF_FFFF then s
  else s.fabric.held.foldl State.injectNow { s with fabric := { s.fabric with held := [] } }

/-- A flow's numbering at its source. -/
def State.flow (s : State) (dst spart : Nat) : Flow :=
  (s.fabric.flows.find? (fun f => f.dst == dst && f.spart == spart)).getD ⟨dst, spart, 0, 0, []⟩

def State.setFlow (s : State) (f : Flow) : State :=
  let key := fun (g : Flow) => g.dst == f.dst && g.spart == f.spart
  { s with fabric := { s.fabric with
      flows := if s.fabric.flows.any key then updFirst key (fun _ => f) s.fabric.flows else s.fabric.flows ++ [f] } }

/-- The Indigo die of the unit that makes a request: a core's own die. Which die the units of the module count on is not stated: DESIGN CHOICE,
die 0, and the issuing core's for a table command (R27, R274; log entry 166). -/
def State.reqDie (s : State) (o : ReqOwner) : Nat :=
  match o with
  | .mop n _ | .get n _ _ => n / 144
  | .sepia id _ => match (s.sepia.cmds.find? (fun x => x.id == id)).map SCmd.who with
    | some (Issuer.core n _) => n / 144
    | _ => 0
  | _ => 0

/-- The domain whose unit makes a request: a cluster for its cores' requests and their table commands, and otherwise the Indigo tag of the
partition, at number 24 + p (R381). -/
def State.ownerDomain (s : State) (o : ReqOwner) (spart : Nat) : Nat :=
  match o with
  | .mop n _ | .get n _ _ => clusterOf n
  | .sepia id _ => match s.sepia.cmds.find? (fun x => x.id == id) with
    | some x => match x.who with
      | .core n _ => clusterOf n
      | .desc _ => 24 + spart
    | none => 24 + spart
  | _ => 24 + spart

/-- The core for which a request is made: by an M-op of its own, or by a table command that one issued. -/
def State.ownerCore (s : State) (o : ReqOwner) : Option Nat :=
  match o with
  | .mop n _ | .get n _ _ => some n
  | .sepia id _ => match (s.sepia.cmds.find? (fun x => x.id == id)).map SCmd.who with
    | some (Issuer.core n _) => some n
    | _ => none
  | _ => none

/-- Whether a fence's domain makes a request (R383). -/
def State.fenceOwns (s : State) (f : Fence) (o : ReqOwner) (spart : Nat) : Bool :=
  if f.isCluster then f.num == s.ownerDomain o spart else s.ownerCore o == some f.num

/-- A fence holds the domain of a request: it issues no new one, and the replies to those outstanding are absorbed (R383). -/
def State.fencedOwner (s : State) (o : ReqOwner) (spart : Nat) : Bool := s.faults.fences.any (fun f => s.fenceOwns f o spart)

/-- Whether a unit may issue on a flow now: fewer than 65,536 requests outstanding and 32,768 on its die, and within 1,024 of the flow's oldest
(R274). -/
def State.mayIssue (s : State) (o : ReqOwner) (dst spart : Nat) : Bool :=
  !s.fencedOwner o spart &&
  decide (s.fabric.out.length < 65536) &&
  decide ((s.fabric.out.filter (fun r => r.pkt.die == s.reqDie o)).length < 32768) &&
  (match s.fabric.out.find? (fun r => r.pkt.dst == dst && r.pkt.spart == spart) with
    | none => true
    | some r => decide (((s.flow dst spart).next + 2 ^ 24 - r.pkt.seq) % 2 ^ 24 < 1024))

/-- A core's request that a sealed crossing loses: its requester times out (R57). -/
def State.sentSealed (s : State) (o : ReqOwner) : Bool :=
  match o with
  | .mop n _ | .get n _ _ => s.coreSealed n || s.sealed (clusterOf n) 19
  | _ => false

/-- Issues a request: it takes its flow's next number, its timeout and reissue limit, and is sent (R274, R275). -/
def State.issueReq (s : State) (r : Req) : State :=
  let s := s.odApplyAll [(0x4420, 0), (0x4421, 0), (0x4422, 0), (0x4423, 0)]
  let f := s.flow r.pkt.dst r.pkt.spart
  let near := (r.pkt.dst ^^^ s.own) &&& s.odNum 0x4422 0 == 0
  let key := bits 23 16 (s.odNum 0x6010 (r.pkt.spart + 1))
  let p := { r.pkt with seq := f.next, wrap := f.wrap - tget 0 f.base key, src := s.own, keyid := key, die := s.reqDie r.owner }
  let s := s.setFlow { f with next := (f.next + 1) % 2 ^ 24, wrap := if f.next + 1 = 2 ^ 24 then f.wrap + 1 else f.wrap }
  let r := { r with pkt := p, tries := 0, at_ := s.now, limit := s.odNum 0x4423 0,
                    timeout := 1000 * s.odNum (if near then 0x4420 else 0x4421) 0 }
  let s := { s with fabric := { s.fabric with
    out := s.fabric.out ++ [r],
    stale := s.fabric.stale.filter (fun x => !(x.1 == p.dst && x.2.1 == p.spart && x.2.2.1 == p.seq)),
    late := s.fabric.late.filter (fun x => !(x.1 == p.dst && x.2.1 == p.spart && x.2.2.1 == p.seq)) } }
  if s.sentSealed r.owner then s else s.inject p

/-- Makes a request, at once or once its flow may issue it. -/
def State.request (s : State) (owner : ReqOwner) (p : Pkt) : State :=
  let r : Req := ⟨p, owner, 0, 0, 0, 0⟩
  if s.mayIssue owner p.dst p.spart && !(s.fabric.waiting.any (fun w => w.pkt.dst == p.dst && w.pkt.spart == p.spart)) then
    s.issueReq r
  else { s with fabric := { s.fabric with waiting := s.fabric.waiting ++ [r] } }

/-- Issues the requests that waited and may now go. -/
def State.wake (s : State) : State :=
  let w := s.fabric.waiting
  w.foldl (fun s r =>
    if s.mayIssue r.owner r.pkt.dst r.pkt.spart && !(s.fabric.waiting.any (fun x => x.pkt.dst == r.pkt.dst && x.pkt.spart == r.pkt.spart))
    then s.issueReq r
    else { s with fabric := { s.fabric with waiting := s.fabric.waiting ++ [r] } })
    { s with fabric := { s.fabric with waiting := [] } }

/-- The outstanding request that a reply answers (R277): its flow, number and generation tag. -/
def Req.answers (r : Req) (p : Pkt) : Bool :=
  r.pkt.dst == p.src && r.pkt.spart == p.spart && r.pkt.seq == p.seq

/-- Takes a request out of the outstanding ones; requests that waited may go. -/
def State.reqGone (s : State) (dst spart seq : Nat) : State :=
  { s with fabric := { s.fabric with
      out := s.fabric.out.filter (fun r => !(r.pkt.dst == dst && r.pkt.spart == spart && r.pkt.seq == seq)) } }.wake

/-- Sends a request again, under its number, with REISSUE set (R274, R275). -/
def State.reissue (s : State) (r : Req) : State :=
  let p := { r.pkt with reissue := true }
  let s := { s with fabric := { s.fabric with
    out := updFirst (fun x => x.pkt.dst == r.pkt.dst && x.pkt.spart == r.pkt.spart && x.pkt.seq == r.pkt.seq)
      (fun x => { x with pkt := p, tries := x.tries + 1, at_ := s.now }) s.fabric.out } }
  if s.sentSealed r.owner then s.odInc 0x4424 1 else (s.odInc 0x4424 1).inject p

/-- Releases every outstanding or waiting request that meets a test, never to be reissued; what the endpoint still holds of it goes, and its
late replies are known (R277, R382). -/
def State.releaseReqs (s : State) (q : Req → Bool) : State :=
  let gone := s.fabric.out.filter q
  let keep := fun (p : Pkt) => p.isReply || !gone.any (fun (r : Req) => r.pkt.dst == p.dst && r.pkt.spart == p.spart && r.pkt.seq == p.seq)
  { s with fabric := { s.fabric with
      out := s.fabric.out.filter (fun r => !q r), waiting := s.fabric.waiting.filter (fun r => !q r),
      held := s.fabric.held.filter keep, frozen := s.fabric.frozen.filter keep,
      stale := s.fabric.stale ++ gone.map (fun (r : Req) => (r.pkt.dst, r.pkt.spart, r.pkt.seq, r.pkt.gen)) } }.wake

/-- Generation tags: a cluster's, for its cores' requests, and a partition's Indigo tag (R381). -/
def State.coreTag (s : State) (core : Nat) : Nat := s.odNum 0x7030 (clusterOf core + 1)
def State.indigoTag (s : State) (p : Nat) : Nat := s.odNum 0x7031 (p + 1)

/-- A request packet of a partition before its number is given. -/
def Pkt.req (op dst dpart spart gen : Nat) (payload : List Byte) : Pkt :=
  { op := op, vc := 0, dst := dst, src := 0, dpart := dpart, spart := spart, win := 0, offset := 0, seq := 0, gen := gen,
    len := payload.length, ce := false, rcore := 0, rcnt := 0, mark := false, echo := false, dline := false, esc := false,
    reissue := false, dim := 0, status := 0, hops := 0, aux := 0, keyid := 0, reserved := 0, payload := payload, wrap := 0,
    ridx := 0, tag := 0, die := 0 }

/-- The pieces of a transfer of `len` bytes at a remote offset, cut at every 256-byte boundary (R264): the remote offset of
each piece, and its length. -/
def cut256 : Nat → Nat → Nat → List (Nat × Nat)
  | 0, _, _ => []
  | k + 1, o, len => if len = 0 then [] else
      let n := min len (256 - o % 256)
      (o, n) :: cut256 k (o + n) (len - n)

end Sys2Proof.Machine
end

