-- ==== Sys2Proof/Machine/HostOps.lean ====
section
/-! DEFINITION. The host side's shared operations: queues, host counters, ignored sequences, descriptors' fields, units and
completion (R206 to R231). -/
namespace Sys2Proof.Machine

/-! ### Queues and counters -/

def State.queue (s : State) (q : Nat) : Queue := tget Queue.blank s.queues q
def State.setQueue (s : State) (q : Nat) (x : Queue) : State := { s with queues := tset Queue.blank s.queues q x }
def State.updQueue (s : State) (q : Nat) (f : Queue → Queue) : State := s.setQueue q (f (s.queue q))

/-- The partition of a module-wide queue number (R209). -/
def qPart (q : Nat) : Nat := q / 64

def QCode.code : QCode → Nat
  | .disabled => 0 | .enabled => 1 | .closing => 2 | .stopped => 3 | .guilty => 4

/-- A queue state change: EVT.STOP or EVT.GUILTY of the serving function, and the Lilac record (R210, R215, R542). -/
def State.qGo (s : State) (q : Nat) (c : QCode) : State :=
  if (s.queue q).code = c then s
  else
    let s := s.updQueue q (fun x => { x with code := c })
    let f := s.serving (qPart q)
    let s := match c with
      | .stopped => s.fnEvent f 0
      | .guilty => s.fnEvent f 1
      | _ => s
    s.lilac 1 3 q 0 (c.code * 2 ^ 16) (some (qPart q))

/-- Ring and completion-ring sizes (R214). -/
def Queue.slots (x : Queue) : Nat := 2 ^ (bits 4 0 x.ring)
def Queue.records (x : Queue) : Nat := 2 ^ (bits 4 0 x.cq)
def Queue.ringAddr (x : Queue) : Nat := x.ring / 4096 * 4096

/-- Where host memory holds the byte that a queue addresses: under the queue's PASID where `QCTRL.PASID_EN` is set, each PASID being an
address space of its own (R205, R214; DESIGN CHOICE, log entry 163). `QCTRL.ATS` changes who translates, not what the address names. -/
def Queue.host (x : Queue) (a : Nat) : Nat := if bit 23 x.ctrl then (1 + bits 43 24 x.ctrl) * 2 ^ 64 + a else a
def Queue.ringBase (x : Queue) : Nat := x.host x.ringAddr
def Queue.cqBase (x : Queue) : Nat := x.host (x.cq / 4096 * 4096)
/-- The completion ring is full (R218). -/
def Queue.cqFull (x : Queue) : Bool := (x.cqwr + 1) % x.records == x.cqhead
/-- Slots fetched and not yet consumed (R216). -/
def Queue.fetchedSlots (x : Queue) : Nat := (x.fetched.map (fun f => f.bytes.length / 64)).sum

/-- An ignored sequence: counted for its partition and its kind, EVT.IGN, and a Lilac record (R230). DESIGN CHOICE: where no partition applies
EVT.IGN is set on the function written, and none applies to a WIN.PART not served and to an ABI.REQ with a queue open (log entry 181). -/
def State.ignored (s : State) (kind : Nat) (part queue : Option Nat) (fn off val : Nat) : State :=
  let s := (s.odInc 0x9010 (match part with | some p => p + 1 | none => 17)).odInc 0x9011 kind
  let s := s.fnEvent (match part with | some p => s.serving p | none => fn) 4
  s.lilac 7 kind (queue.getD 0xFFFF) off (val % 2 ^ 64) part

/-- The row of a request on a function that the module has. -/
def onFn (s : State) (fn : Nat) (f : State) : Host.Outcome State Fault Refusal := if s.hasFn fn then .next f else .next s

/-- Host counters (R229). -/
def State.hc (s : State) (p h : Nat) : HCnt := tget HCnt.blank s.hcnt (p * 512 + h)
def State.setHc (s : State) (p h : Nat) (x : HCnt) : State := { s with hcnt := tset HCnt.blank s.hcnt (p * 512 + h) x }

/-- Tests a counter's threshold: firing disarms it and sends its vector's message through EV04, where firings that merge share one
message (R51, R229). -/
def State.hcTest (s : State) (p h : Nat) : State :=
  let x := s.hc p h
  if x.en && x.armed && x.thresh.ule x.value then
    (s.setHc p h { x with armed := false }).pulse 4 (evVector (s.serving p) x.vec)
  else s

/-- A change of a host counter's value. -/
def State.hcSet (s : State) (p h : Nat) (v : Word) : State := (s.setHc p h { s.hc p h with value := v }).hcTest p h
def State.hcAdd (s : State) (p h : Nat) (v : Word) : State := s.hcSet p h ((s.hc p h).value + v)

/-- Clears the counters of a partition (R229, R345). -/
def State.hcClear (s : State) (p : Nat) : State :=
  { s with hcnt := s.hcnt.filter (fun e => !(decide (p * 512 ≤ e.1) && decide (e.1 < (p + 1) * 512))) }

/-! ### Descriptors (R219 to R223) -/

/-- The fields of the header and bodies; bit `k` of slot `j` is bit 512 j + k. -/
def dNum (bs : List Byte) : Nat := leNat bs
def dType (d : Nat) : Nat := bits 7 0 d
def dSlots (d : Nat) : Nat := bits 9 8 d + 1
def dQuiet (d : Nat) : Bool := bit 21 d
def dHce (d : Nat) : Bool := bit 22 d
def dHcnt (d : Nat) : Nat := bits 31 23 d
def dTag (d : Nat) : Nat := bits 63 32 d
def dDmap (d : Nat) : Nat := bits 127 64 d

def krnSeed (d : Nat) : Nat := bits 511 448 d
def krnGrant (d : Nat) : Nat := bits 447 384 d
def krnProg (d : Nat) : Nat := bits 383 340 d
def krnBase (d : Nat) : Nat := bits 339 326 d
def krnLen (d : Nat) : Nat := bits 325 311 d
def krnAcc (d : Nat) : Nat := bits 310 309 d
def krnCores (d : Nat) : Nat := bits (512 + 287) 512 d
def krnArg (d k : Nat) : Nat := bits (1024 + 64 * k - 1) (1024 + 64 * k - 64) d

def cpySrc (d : Nat) : Nat := bits 511 448 d
def cpyDst (d : Nat) : Nat := bits 447 384 d
def cpyLen (d : Nat) : Nat := bits 383 344 d
def cpySrcH (d : Nat) : Bool := bit 343 d
def cpyDstH (d : Nat) : Bool := bit 342 d
def cpyCE (d : Nat) : Bool := bit 341 d
def cpyCore (d : Nat) : Nat := bits 340 332 d
def cpyCnt (d : Nat) : Nat := bits 331 326 d

def tblSeed (d : Nat) : Nat := bits 511 448 d
def tblCmd (d : Nat) : Nat := d >>> 512

def colGroup (d : Nat) : Nat := bits 511 500 d
def colKind (d : Nat) : Nat := bits 499 496 d
def colOpr (d : Nat) : Nat := bits 495 492 d
def colFmt (d : Nat) : Nat := bits 491 487 d
def colRnd (d : Nat) : Nat := bits 486 485 d
def colSrc (d : Nat) : Nat := bits 484 441 d
def colDst (d : Nat) : Nat := bits 440 397 d
def colCount (d : Nat) : Nat := bits 396 365 d
def colTmo (d : Nat) : Nat := bits 364 333 d
def colTensor (d : Nat) : Nat := bits 332 301 d
def colCE (d : Nat) : Bool := bit 300 d
def colCore (d : Nat) : Nat := bits 299 291 d
def colCnt (d : Nat) : Nat := bits 290 285 d

/-- WAIT_COUNTER and SIGNAL_COUNTER share their first fields. -/
def wtValue (d : Nat) : Nat := bits 511 448 d
def wtCore (d : Nat) : Bool := bit 447 d
def wtIdx (d : Nat) : Nat := bits 446 438 d
def wtCnt (d : Nat) : Nat := bits 437 432 d
def wtTmo (d : Nat) : Nat := bits 431 400 d
def sgSet (d : Nat) : Bool := bit 431 d
def fncPart (d : Nat) : Bool := bit 511 d
def epGroup (d : Nat) : Nat := bits 511 500 d
def epEpoch (d : Nat) : Nat := bits 499 436 d
def epAbort (d : Nat) : Bool := bit 435 d

/-- Slots of a type; `none` for a reserved one, TABLE under version 2 included (R213, R220). -/
def typeSlots (v t : Nat) : Option Nat :=
  match t with
  | 0 | 2 | 4 | 5 | 6 | 7 | 8 | 9 => some 1
  | 1 => some 3
  | 3 => if v ≥ 3 then some 2 else none
  | _ => none

/-- The lowest bit of slot 0 that a type's body uses; bits 128 up to it are reserved (R221 to R223). -/
def bodyLow (t : Nat) : Nat :=
  match t with
  | 1 => 309 | 2 => 326 | 3 => 448 | 4 => 285 | 5 => 400 | 6 => 431 | 7 => 436 | 8 => 435 | 9 => 511
  | _ => 512

/-- Reserved bits of a descriptor are 0 (R213, R219 to R223). -/
def reservedOk (v d : Nat) : Bool :=
  let t := dType d
  bits 20 10 d == 0 && (v ≥ 3 || (!dQuiet d && dDmap d == 0)) && bits (bodyLow t - 1) 128 d == 0 &&
  (t != 1 || (bits 1023 (512 + 288) d == 0 && bits 1535 (1024 + 384) d == 0))

/-- The fields of a descriptor lie within their ranges (R220 to R223). -/
def rangeOk (d : Nat) : Bool :=
  dDmap d % 8 == 0 &&
  (match dType d with
  | 1 => krnProg d % 8 == 0 && decide (1 ≤ krnLen d) && decide (krnBase d + krnLen d ≤ 16384) && krnCores d != 0
  | 2 => !(cpySrcH d && cpyDstH d) && decide (cpyCore d < 288) && (cpySrcH d || decide (cpySrc d < 2 ^ 44)) &&
         (cpyDstH d || decide (cpyDst d < 2 ^ 44))
  | 4 => decide (colKind d ≤ 4) && decide (colOpr d ≤ 2) && decide (colCore d < 288)
  | 5 | 6 => if wtCore d then decide (wtIdx d < 288) else wtCnt d == 0
  | _ => true)

/-- The cores of a KERNEL's set, rising (R221). -/
def krnList (d : Nat) : List Nat := bitList 288 (krnCores d)

/-! ### Units and flights (R217, R226, R227) -/

def State.flight? (s : State) (r : DescRef) : Option Flight := s.disp.flights.find? (fun f => f.ref == r)
def State.updFlight (s : State) (r : DescRef) (f : Flight → Flight) : State :=
  { s with disp := { s.disp with flights := updFirst (fun x => x.ref == r) f s.disp.flights } }

/-- A partition is being torn down: its descriptors finish when its scrub record is written (R231, R365). -/
def State.tearing (s : State) (p : Nat) : Bool := (s.part p).st == .draining || (s.part p).st == .scrubbing

/-- A descriptor finishes: it takes its place in the order of completion (R218). -/
def State.flightDone (s : State) (r : DescRef) : State :=
  match s.flight? r with
  | none => s
  | some f =>
    if f.finished || s.tearing f.part then s
    else
      let s := s.updFlight r (fun f => { f with finished := true })
      { s with disp := { s.disp with order := s.disp.order ++ [r] } }

/-- A progress unit ends; the descriptor finishes with its last unit. -/
def State.unitEnd (s : State) (r : DescRef) (u : Nat) (e : UEnd) : State :=
  match s.flight? r with
  | none => s
  | some f =>
    if f.finished || (tfind f.ends u).isSome then s
    else
      let ends := tput f.ends u e
      let s := s.updFlight r (fun f => { f with ends := ends })
      if ends.length ≥ f.units then s.flightDone r else s

/-- The unit of a KERNEL that is a core's (R220). -/
def coreUnit (d core : Nat) : Nat := popCount core (krnCores d)
def State.coreEnd (s : State) (r : DescRef) (core : Nat) (e : UEnd) : State :=
  match s.flight? r with
  | none => s
  | some f => s.unitEnd r (coreUnit (dNum f.bytes) core) e

/-- Finishes a descriptor with one outcome, whatever its units (R231). -/
def State.flightForce (s : State) (r : DescRef) (e : UEnd) : State :=
  match s.flight? r with
  | none => s
  | some f =>
    if f.finished || s.tearing f.part then s else (s.updFlight r (fun f => { f with force := some e })).flightDone r

/-- The verdict of a replay: a descriptor ends GUILTY, at once or with its last unit (R231, R387). -/
def State.flightGuilty (s : State) (r : DescRef) : State :=
  match s.flight? r with
  | none => s
  | some f =>
    let s := s.updFlight r (fun f => { f with force := some ⟨0xD, 0, 0⟩ })
    if f.ends.length ≥ f.units then s.flightDone r else s

/-- The outcome of a descriptor: of the lowest unit that did not end OK (R226). -/
def Flight.outcome (f : Flight) : UEnd :=
  match f.force with
  | some e => e
  | none =>
    match f.ends.find? (fun e => e.2.status != 0) with
    | some (_, e) => e
    | none => ⟨0, 0, f.detail⟩

def Flight.unitDone (f : Flight) (u : Nat) : Bool :=
  match tfind f.ends u with
  | some e => e.status == 0
  | none => false

/-- CR.FRONTIER, CR.DONE and the done map (R225, R227). -/
def Flight.frontier (f : Flight) : Nat := ((List.range f.units).find? (fun u => !f.unitDone u)).getD f.units
def Flight.doneBits (f : Flight) : Nat :=
  let g := max 1 ((f.units + 63) / 64)
  (List.range 64).foldl (fun a k =>
    let lo := k * g
    let hi := min ((k + 1) * g) f.units
    if lo < hi && (List.range (hi - lo)).all (fun i => f.unitDone (lo + i)) then a + 2 ^ k else a) 0
def Flight.doneMap (f : Flight) : List Byte :=
  (List.range ((f.units + 7) / 8)).map (fun i =>
    BitVec.ofNat 8 ((List.range 8).foldl (fun a b => if f.unitDone (8 * i + b) then a + 2 ^ b else a) 0))

/-- A completion record (R225). -/
def Flight.record (f : Flight) (e : UEnd) (dmapw phase : Bool) : List Byte :=
  leBytes 32 (dTag (dNum f.bytes) * 2 ^ 224 + e.detail % 2 ^ 32 * 2 ^ 192 + f.frontier % 2 ^ 32 * 2 ^ 160 +
    f.doneBits * 2 ^ 96 + f.units % 2 ^ 32 * 2 ^ 64 + f.slot * 2 ^ 48 + e.status * 2 ^ 40 + e.sub * 2 ^ 32 +
    f.ref.queue % 64 * 2 ^ 26 + b2n dmapw * 2 + b2n phase)

/-- The flights of a queue that have not completed and still report (QS.OUT). -/
def State.qOut (s : State) (q : Nat) : Nat := (s.disp.flights.filter (fun f => f.ref.queue == q && !f.silent)).length

/-- A Closing queue goes to Disabled when its last descriptor has completed (R215). -/
def State.qDrained (s : State) (q : Nat) : State :=
  if (s.queue q).code = .closing && s.qOut q = 0 then
    (s.updQueue q (fun x => { x with fetched := [] })).qGo q .disabled
  else s

/-- What the descriptor itself counts at completion with status OK: a COPY its length, a COLLECTIVE 1 (R222, R291). -/
def State.endCount (s : State) (d : Nat) : State :=
  if dType d = 2 && cpyCE d then s.addIn (cpyCore d) (cpyCnt d) (BitVec.ofNat 64 (cpyLen d))
  else if dType d = 4 && colCE d then s.addIn (colCore d) (colCnt d) 1
  else s

/-- A queue's stall timer starts, with the interval last accepted: the safe point of OD 0x7021 is each queue's own (R374). -/
def State.stallStart (s : State) (q : Nat) : State :=
  let s := s.odApply 0x7021 0
  s.updQueue q (fun x => { x with stall := s.odNum 0x7021 0 })

/-- A descriptor's completion, in the order of R228: done map, record, counter add, MSI-X. One with a status other than OK in an epoch fails
it (R224, R328). A silenced one writes nothing to the host (R231); DESIGN CHOICE: nor does it count in OD 0x9012 or add its `CPY.CE` or
`COL.CE`, of which R231 and R232 do not speak (log entry 175). The queue's stall timer restarts (R374). -/
def State.complete (s : State) (f : Flight) : State :=
  let s := { s with disp := { s.disp with flights := s.disp.flights.filter (fun x => x.ref != f.ref),
                                          order := s.disp.order.filter (fun r => r != f.ref) } }
  let e := f.outcome
  let ep := tget Ep.blank s.eps f.part
  let s := if e.status ≠ 0 && ep.st != .closed then
      { s with eps := tset Ep.blank s.eps f.part { ep with failed := true } } else s
  if f.silent then s.stallStart f.ref.queue
  else
    let d := dNum f.bytes
    let q := f.ref.queue
    let map := dDmap d != 0 && e.status != 0
    let s := if e.status = 0 then s.endCount d else s
    let s := if map then s.hwr ((s.queue q).host (dDmap d)) f.doneMap else s
    let x := s.queue q
    let s := if dQuiet d && e.status = 0 then s
      else
        let s := s.hwr (x.cqBase + 32 * x.cqwr) (f.record e map x.phase)
        s.setQueue q { x with cqwr := (x.cqwr + 1) % x.records,
                              phase := if x.cqwr + 1 = x.records then !x.phase else x.phase }
    let s := if dHce d then s.hcAdd f.part (dHcnt d) 1 else s
    let s := s.odInc 0x9012 (f.part + 1)
    let s := s.lilac 1 2 q (x.ringAddr + 64 * f.slot)
      (dTag d * 2 ^ 32 + x.code.code * 2 ^ 16 + e.status * 2 ^ 8 + dType d) (some f.part)
    (s.stallStart q).qDrained q

/-- The serviceability of a queue (R215); its partition exists when it is Live (log entry 24). -/
def State.serviceable (s : State) (fn q : Nat) : Bool :=
  let x := s.queue q
  s.inService && (s.fn fn).abiAgreed != 0 && (s.part (qPart q)).st == .live &&
  decide (6 ≤ bits 4 0 x.ring) && decide (bits 4 0 x.ring ≤ 16) && decide (6 ≤ bits 4 0 x.cq) && decide (bits 4 0 x.cq ≤ 16)

/-- Marks the first fetched descriptor of a queue as the next to be dispatched, from now. -/
def State.qFront (s : State) (q : Nat) : State :=
  s.updQueue q (fun x => match x.fetched with
    | f :: rest => { x with fetched := { f with since := some (f.since.getD s.now) } :: rest }
    | [] => x)

/-- The first descriptor leaves a queue: its slots are consumed and HEAD advances over them (R216, R217). -/
def State.qConsume (s : State) (q : Nat) : State :=
  (s.updQueue q (fun x => match x.fetched with
    | f :: rest => { x with fetched := rest, head := (x.head + f.bytes.length / 64) % x.slots }
    | [] => x)).qFront q

/-- Stops every Enabled queue that meets a test (R215, R231). -/
def State.stopQueues (s : State) (q : Nat → Bool) : State :=
  s.queues.foldl (fun s e => if q e.1 && (s.queue e.1).code = .enabled then s.qGo e.1 .stopped else s) s

end Sys2Proof.Machine
end

