-- ==== Sys2Proof/Machine/EpochOps.lean ====
section
/-! DEFINITION. Groups as their descriptors give them (R288, R289), and the epoch agents: member states, votes, decisions,
replicas and takeovers (R324 to R337). -/
namespace Sys2Proof.Machine

/-! ### Group descriptors (R289, R305, R314) -/

/-- The dictionary index and subindex of a group's elements from the base of its array (R314). -/
def gIdx (base g : Nat) : Nat := base + g / 128
def gSub (g : Nat) : Nat := g % 128 + 1

def State.gd (s : State) (g : Nat) : List Byte := s.odBlob (gIdx 0x5100 g) (gSub g)
def State.gSt (s : State) (g : Nat) : Nat := s.odNum (gIdx 0x5200 g) (gSub g)

def gdFlags (b : List Byte) : Nat := fieldAt b 1 1
def gdPart (b : List Byte) : Nat := fieldAt b 2 1
def gdFan (b : List Byte) : Nat := fieldAt b 3 1
def gdGen (b : List Byte) : Nat := fieldAt b 4 1
def gdDepth (b : List Byte) : Nat := fieldAt b 5 1
def gdN (b : List Byte) : Nat := fieldAt b 8 4
def gdRank (b : List Byte) : Nat := fieldAt b 12 4
def gdTmo (b : List Byte) : Nat := fieldAt b 16 4
def gdParent (b : List Byte) : Nat := fieldAt b 20 4
def gdSucc (b : List Byte) (k : Nat) : Nat := fieldAt b (56 + 4 * k) 4
def gdSeed (b : List Byte) : Nat := fieldAt b 72 8
def gdStage (b : List Byte) : Nat := fieldAt b 80 8
def gdStageLen (b : List Byte) : Nat := fieldAt b 88 4
/-- The reference that means none (R289). -/
def refNone : Nat := 0x000F_FFFF
def gdChildren (b : List Byte) : List Nat :=
  ((List.range 8).map (fun k => fieldAt b (24 + 4 * k) 4)).filter (fun r => r != refNone)

/-- Coordinate and partition of a member reference (R289). -/
def refCoord (r : Nat) : Nat := bits 19 0 r
def refPart (r : Nat) : Nat := bits 23 20 r

/-- The epoch tree that a descriptor gives (R324). -/
def treeOf (b : List Byte) : Tree :=
  { gen := gdGen b, n := gdN b, rank := gdRank b, parent := gdParent b, child := gdChildren b,
    succ := (List.range 4).map (gdSucc b) }

/-! ### Agents and members -/

def State.ep (s : State) (p : Nat) : Ep := tget Ep.blank s.eps p
def State.setEp (s : State) (p : Nat) (e : Ep) : State := { s with eps := tset Ep.blank s.eps p e }
def State.agent (s : State) (g : Nat) : Agent := tget Agent.blank s.agents g
def State.setAgent (s : State) (g : Nat) (a : Agent) : State := { s with agents := tset Agent.blank s.agents g a }

def MemSt.code : MemSt → Nat
  | .closed => 0 | .opened => 1 | .doomed => 2 | .voted => 3 | .inDoubt => 4 | .restoring => 5 | .fenced => 6
def CoSt.code : CoSt → Nat
  | .idle => 0 | .collecting => 1 | .recording => 2 | .decided => 3 | .clearing => 4 | .taking => 5 | .deferred => 6

/-- The epoch is open at a member in these states (R329). -/
def MemSt.isOpen : MemSt → Bool
  | .opened | .doomed | .voted | .inDoubt | .restoring => true
  | _ => false

/-- Replicas and quorum (R325). -/
def Tree.replicas (t : Tree) : Nat := min 3 (t.n - 1)
def Tree.quorum (t : Tree) : Nat := if t.replicas ≤ 1 then t.replicas else 2

/-- OD 0x5801 to 0x5803 show a member (R341). -/
def State.showEp (s : State) (p : Nat) : State :=
  let e := s.ep p
  ((s.odSetN 0x5801 (p + 1) (e.st.code * 2 ^ 24 + e.group * 2 ^ 12 + e.cause * 2 ^ 8 + e.tree.gen)).odSetN
    0x5802 (p + 1) e.epoch).odSetN 0x5803 (p + 1) e.lastDecided

/-- A transition of a member, with its Lilac record (R341, R542). -/
def State.epGo (s : State) (p : Nat) (st : MemSt) : State :=
  let e := s.ep p
  let s := s.setEp p { e with st := st }
  let s := s.showEp p
  s.lilac 2 st.code e.group e.epoch (e.st.code * 2 ^ 24 + st.code * 2 ^ 16 + e.cause * 2 ^ 8) (some p)

/-- The abort cause of a member's epoch; its first one is counted (R341). -/
def State.epCause (s : State) (p c : Nat) : State :=
  let e := s.ep p
  let s := s.setEp p { e with cause := c, counted := true }
  (if e.counted then s else s.odInc 0x5862 c).showEp p

/-- The partition of a group, by its epoch tree's holder. -/
def State.gPart (s : State) (g : Nat) : Nat := gdPart (s.gd g) % 16

/-- The tree under which an agent serves a group: of the open epoch, otherwise of the descriptor (R324, R327). -/
def State.treeFor (s : State) (g : Nat) : Option Tree :=
  match (List.range 16).find? (fun p => (s.ep p).group == g && (s.ep p).st != .closed) with
  | some p => some (s.ep p).tree
  | none => if (s.gd g).isEmpty then none else some (treeOf (s.gd g))

/-- The partition whose agent serves a group. -/
def State.agentPart (s : State) (g : Nat) : Nat :=
  match (List.range 16).find? (fun p => (s.ep p).group == g && (s.ep p).st != .closed) with
  | some p => p
  | none => s.gPart g

/-- The machine of an epoch; one that has not started is Idle (R332). -/
def State.mach (s : State) (g epoch : Nat) : Mach := ((s.agent g).machs.find? (fun m => m.epoch == epoch)).getD (Mach.blank epoch)
def State.setMach (s : State) (g : Nat) (m : Mach) : State :=
  let a := s.agent g
  let l := if m.st = .idle then a.machs.filter (fun x => x.epoch != m.epoch)
    else if a.machs.any (fun x => x.epoch == m.epoch) then updFirst (fun x => x.epoch == m.epoch) (fun _ => m) a.machs
    else a.machs ++ [m]
  s.setAgent g { a with machs := l }

/-- The machine that OD 0x5804 shows: that of the highest epoch, since an element has room for one (R332, R341; DESIGN CHOICE, log entry 168). -/
def State.coShown (s : State) (g : Nat) : Nat :=
  ((s.agent g).machs.foldl (fun (b : Option Mach) m => if b.any (fun x => decide (m.epoch < x.epoch)) then b else some m) none).elim 0 (·.st.code)

/-- A transition of the machine of an epoch, with its Lilac record (R332, R341). -/
def State.coGo (s : State) (g epoch : Nat) (st : CoSt) : State :=
  let m := s.mach g epoch
  let p := s.agentPart g
  let s := s.setMach g { m with st := st }
  (s.odSetN 0x5804 (p + 1) (s.coShown g)).lilac 2 (16 + st.code) g epoch (m.st.code * 2 ^ 24 + st.code * 2 ^ 16 + m.dec.cause * 2 ^ 8) (some p)

/-- Sends an EPOCH packet (R326). `rank` is the addressee's rank where an answer to it matters. -/
def State.epSend (s : State) (g ref kind term epoch value cause rterm count rank : Nat) : State :=
  let p := s.agentPart g
  let gen := match s.treeFor g with
    | some t => t.gen
    | none => 0
  let body := leBytes 8 epoch ++ leBytes 1 value ++ leBytes 1 cause ++ leBytes 1 rterm ++ leBytes 1 0 ++ leBytes 4 count
  s.request (.epoch g kind epoch rank)
    { Pkt.req 6 (refCoord ref) (refPart ref) p (s.indigoTag p) body with
      aux := g * 2 ^ 20 + kind * 2 ^ 16 + gen * 2 ^ 8 + term }

/-- A decision of a group's epoch that the agent holds, or has recorded (R333, R337). -/
def Agent.heldDec (a : Agent) (epoch : Nat) : Option Dec := a.held.find? (fun d => d.epoch == epoch)
def Agent.record (a : Agent) (epoch : Nat) : Option Dec := a.records.find? (fun d => d.epoch == epoch)

/-- Keeps the newest 16 epochs of a list, one entry for each (R337). -/
def keepDec (l : List Dec) (d : Dec) : List Dec :=
  let l := (l.filter (fun x => x.epoch != d.epoch)) ++ [d]
  l.drop (l.length - 16)

/-- The agent holds a decision. -/
def State.hold (s : State) (g : Nat) (d : Dec) : State :=
  s.setAgent g { s.agent g with held := keepDec (s.agent g).held d }

/-- A decision on its way to the stacks over EV07 (R329, R340). -/
def State.toStacks (s : State) (p : Nat) (commit : Bool) : State :=
  { s with memory := { s.memory with deciding := s.memory.deciding ++ [(p, commit)] } }.pulse 7 p

/-- The event of R492 code 0x0008, and the stale-message count (R327, R329). -/
def State.epAttention (s : State) (p k : Nat) : State := s.raise 0x0008 0x5801 (p + 1) k
def State.contradict (s : State) (p : Nat) : State := (s.odInc 0x5864 0).epAttention p 2

/-- Forwards a DECIDE or CLEAR to the children of the tree (R326). -/
def State.toChildren (s : State) (p kind value cause : Nat) : State :=
  let e := s.ep p
  e.tree.child.foldl (fun s r => s.epSend e.group r kind 0 e.epoch value cause 0 0 0) s

/-- Enters Restoring: the stacks restore, and the abort counts (R329, R341). -/
def State.startRestore (s : State) (p : Nat) : State :=
  let e := s.ep p
  let s := s.setEp p { e with restored := false, sentUp := false, anyDecided := true, lastDecided := e.epoch }
  ((s.epGo p .restoring).toStacks p false).odInc 0x5861 (p + 1)

/-- Closes with a commit: sweep, outcome, counts (R329, R341). -/
def State.commitClose (s : State) (p : Nat) : State :=
  let e := s.ep p
  let s := s.setEp p { e with anyDecided := true, lastDecided := e.epoch, voteDesc := none }
  let s := ((s.epGo p .closed).toStacks p true).odInc 0x5860 (p + 1)
  match e.voteDesc with
  | some r => (s.updFlight r (fun f => { f with detail := 1 })).unitEnd r 0 ⟨0, 0, 1⟩
  | none => s

/-- A decision reaches a member (R329): `fwd` says whether the member forwards it to its children. -/
def State.memberDecide (s : State) (p value cause : Nat) (fwd : Bool) : State :=
  let e := s.ep p
  let forward := fun (s : State) =>
    if fwd && !(s.ep p).forwarded then
      (s.setEp p { s.ep p with forwarded := true }).toChildren p 5 value cause
    else s
  match e.st with
  | .opened =>
    if value = 2 then forward ((s.epCause p cause).epGo p .doomed) else s.contradict p
  | .doomed => if value = 2 then forward s else s.contradict p
  | .voted | .inDoubt =>
    if value = 2 then (forward (s.epCause p cause)).startRestore p else (forward s).commitClose p
  | .restoring | .fenced => if value = 2 then forward s else s.contradict p
  | .closed => s

/-- RECORD to each replica that has not acknowledged, other than this member (R326, R332). -/
def State.sendRecords (s : State) (g epoch : Nat) : State :=
  match s.treeFor g with
  | none => s
  | some t =>
    let m := s.mach g epoch
    (List.range t.replicas).foldl (fun s k =>
      if k + 1 = t.rank || m.acks.contains (k + 1) then s
      else s.epSend g (t.succ.getD (k + 1) refNone) 2 m.dec.term epoch m.dec.value m.dec.cause 0 0 (k + 1)) s

/-- The members to which a decision's DECIDE and CLEAR go: the children, and from a taker the successors too (R335). -/
def Tree.deciders (t : Tree) (term : Nat) : List Nat :=
  if term = 0 then t.child
  else ((t.succ.drop 1).filter (fun r => r != refNone && r != t.succ.getD t.rank refNone)) ++ t.child

/-- The machine has its quorum: Decided, DECIDE to the children (a taker sends it to the successors too), its own member
applies it, and it goes on to Idle or Clearing (R332, R335). -/
def State.coDecided (s : State) (g epoch : Nat) : State :=
  let p := s.agentPart g
  match s.treeFor g with
  | none => s
  | some t =>
    let d := (s.mach g epoch).dec
    let s := (s.coGo g epoch .decided).hold g d
    let s := (t.deciders d.term).foldl (fun s r => s.epSend g r 5 0 epoch d.value d.cause 0 0 0) s
    let e := s.ep p
    let s := if e.group = g && e.epoch = epoch then s.memberDecide p d.value d.cause false else s
    if d.value = 1 then s.coGo g epoch .idle else (s.odApply 0x5822 0).coGo g epoch .clearing

/-- Checks the acknowledgements of Recording: Q for the coordinator, Q - 1 for a taker (R332). -/
def State.coCheck (s : State) (g epoch : Nat) : State :=
  match s.treeFor g with
  | none => s
  | some t =>
    let m := s.mach g epoch
    if m.st = .recording && m.acks.length + (if m.dec.term = 0 then 0 else 1) ≥ t.quorum then s.coDecided g epoch else s

/-- The deciding member decides: Recording under its term, with a timer (R332, R338). A taker is a replica and has recorded its decision
(R332, R335). The cause is counted at the decider (R341). -/
def State.coDecide (s : State) (g : Nat) (d : Dec) : State :=
  let p := s.agentPart g
  let s := s.odApply 0x5821 0
  let s := s.setMach g { s.mach g d.epoch with dec := d, acks := [] }
  let s := if d.term = 0 then s else s.setAgent g { s.agent g with records := keepDec (s.agent g).records d }
  let s := s.coGo g d.epoch .recording
  let e := s.ep p
  let s := if d.value = 2 && e.group = g && e.epoch = d.epoch && e.st != .closed then s.epCause p d.cause
    else if d.value = 2 then s.odInc 0x5862 d.cause else s
  (s.sendRecords g d.epoch).coCheck g d.epoch

/-- Idle to Collecting: the vote timeout is taken (R332, R338). -/
def State.coCollect (s : State) (g epoch : Nat) : State :=
  if (s.mach g epoch).st = .idle && ((s.agent g).heldDec epoch).isNone then
    (s.odApply 0x5820 0).coGo g epoch .collecting
  else s

/-- An abort cause reaches the coordinator (R332). -/
def State.coAbort (s : State) (g epoch cause : Nat) : State :=
  let s := s.coCollect g epoch
  if (s.mach g epoch).st = .collecting then s.coDecide g ⟨epoch, 2, cause, 0⟩ else s

/-- An abort vote of this member: to its own coordinator machine, or by ABORT_VOTE (R328). -/
def State.sendAbort (s : State) (p cause : Nat) : State :=
  let e := s.ep p
  let s := s.epCause p cause
  if e.tree.rank = 0 then s.coAbort e.group e.epoch cause
  else s.epSend e.group (e.tree.succ.getD 0 refNone) 1 0 e.epoch 2 cause 0 0 0

/-- An abort cause 3, 4, 5 or 8 at an Open member (R328, R329). -/
def State.castAbort (s : State) (p cause : Nat) : State :=
  if (s.ep p).st = .opened then (s.epGo p .doomed).sendAbort p cause else s

/-- The votes, or RESTOREDs, of a member's children for an epoch, when all have arrived: their counts' sum (R326). -/
def childCount (e : Ep) (l : List Vote) : Option Nat :=
  let mine := l.filter (fun v => v.epoch == e.epoch)
  if e.tree.child.all (fun r => mine.any (fun v => v.from_ == r)) then
    some (1 + (e.tree.child.map (fun r => ((mine.find? (fun v => v.from_ == r)).map (·.count)).getD 0)).sum)
  else none

/-- A Voted member sends its VOTE up, or at the coordinator decides, once every child's VOTE has arrived (R326, R332). -/
def State.voteUp (s : State) (p : Nat) : State :=
  let e := s.ep p
  if e.sentUp || !(e.st == .voted || e.st == .inDoubt) then s
  else match childCount e (s.agent e.group).votes with
  | none => s
  | some n =>
    let s := s.setEp p { e with sentUp := true }
    if e.tree.rank ≠ 0 then s.epSend e.group e.tree.parent 0 0 e.epoch 1 0 0 n 0
    else if (s.mach e.group e.epoch).st = .collecting then
      if n = e.tree.n then s.coDecide e.group ⟨e.epoch, 1, 0, 0⟩
      else (s.epAttention p 3).coDecide e.group ⟨e.epoch, 2, 2, 0⟩
    else s

/-- Into Closed from Fenced, forwarding a CLEAR where one came (R329). -/
def State.clearClose (s : State) (p : Nat) (fwd : Bool) : State :=
  let s := if fwd then s.toChildren p 9 2 (s.ep p).cause else s
  (s.setEp p { s.ep p with clearKept := false }).epGo p .closed

/-- The coordinator or taker ends Clearing: CLEAR to the members it sent DECIDE to (R332, R335). -/
def State.coClear (s : State) (g epoch : Nat) : State :=
  let d := (s.mach g epoch).dec
  match s.treeFor g with
  | none => s.coGo g epoch .idle
  | some t =>
    let s := (t.deciders d.term).foldl (fun s r => s.epSend g r 9 0 epoch 2 d.cause 0 0 0) s
    let p := s.agentPart g
    let s := s.coGo g epoch .idle
    if (s.ep p).group = g && (s.ep p).epoch = epoch then
      (if (s.ep p).st = .fenced then s.clearClose p false
       else if (s.ep p).st = .restoring then s.setEp p { s.ep p with clearKept := true } else s)
    else s

/-- A Fenced member sends RESTORED up, or at the coordinator ends Clearing on a full count, once every child's RESTORED
has arrived (R326, R332). -/
def State.restoredUp (s : State) (p : Nat) : State :=
  let e := s.ep p
  if e.sentUp || e.st != .fenced then s
  else match childCount e (s.agent e.group).restored with
  | none => s
  | some n =>
    let s := s.setEp p { e with sentUp := true }
    if e.tree.rank ≠ 0 then s.epSend e.group e.tree.parent 8 0 e.epoch 2 0 0 n 0
    else if (s.mach e.group e.epoch).st = .clearing && n = e.tree.n then s.coClear e.group e.epoch else s

/-- A member's restore has ended on all 16 stacks: Fenced, the EPOCH_VOTE completes with the abort, and a CLEAR that was
kept goes straight on to Closed; the coordinator has no parent, and sent the CLEAR that it kept (R326, R329). -/
def State.enterFenced (s : State) (p : Nat) : State :=
  let e := s.ep p
  let s := s.setEp p { e with restored := true, sentUp := false, voteDesc := none }
  let s := s.odApply 0x5822 0
  let s := s.epGo p .fenced
  let s := match e.voteDesc with
    | some r => (s.updFlight r (fun f => { f with detail := 2 })).unitEnd r 0 ⟨0, 0, 2⟩
    | none => s
  let s := s.restoredUp p
  if (s.ep p).clearKept && (s.ep p).st = .fenced then
    let s := if (s.ep p).sentUp || e.tree.rank = 0 then s
      else (s.setEp p { s.ep p with sentUp := true }).epSend e.group e.tree.parent 8 0 e.epoch 2 0 0 1 0
    s.clearClose p (e.tree.rank != 0)
  else s

/-- The next QUERY of a member in doubt: the coordinator, then the successors in turn (R329, R337). -/
def State.query (s : State) (p : Nat) : State :=
  let e := s.ep p
  let k := if e.asked = e.tree.rank then e.asked + 1 else e.asked
  if k > e.tree.replicas then s.setEp p { e with asked := k }
  else
    let s := s.setEp p { e with asked := k + 1 }
    s.epSend e.group (e.tree.succ.getD k refNone) 6 0 e.epoch 0 0 0 0 k

/-- The next QUERY of a Deferred machine, which acts as a member in doubt (R329, R332). -/
def State.coQuery (s : State) (g epoch : Nat) : State :=
  match s.treeFor g with
  | none => s
  | some t =>
    let m := s.mach g epoch
    let k := if m.asked = t.rank then m.asked + 1 else m.asked
    if k > t.replicas then s
    else (s.setMach g { m with asked := k + 1 }).epSend g (t.succ.getD k refNone) 6 0 epoch 0 0 0 0 k

/-- Whether this member is in doubt about an epoch of a group, and whether a Deferred machine is, with no member here that asks. -/
def State.doubts (s : State) (g epoch : Nat) : Bool :=
  let e := s.ep (s.agentPart g)
  e.group == g && e.epoch == epoch && e.st == .inDoubt
def State.coDoubts (s : State) (g epoch : Nat) : Bool := (s.mach g epoch).st == .deferred && !s.doubts g epoch

/-- The taker has PROMISEs from Q replicas: it adopts the recorded decision of highest term, or decides abort with cause 7
(R335). -/
def State.takeCheck (s : State) (g epoch : Nat) : State :=
  match s.treeFor g with
  | none => s
  | some t =>
    let m := s.mach g epoch
    if m.st = .taking && m.promises.length ≥ t.quorum then
      let best := m.promises.foldl (fun (b : Promise) q => if q.value != 0 && (b.value == 0 || q.term > b.term) then q else b)
        ⟨0, 0, 0, 0⟩
      if best.value = 0 then s.coDecide g ⟨epoch, 2, 7, t.rank⟩
      else s.coDecide g ⟨epoch, best.value, best.cause, t.rank⟩
    else s

/-- TAKE to every other replica whose PROMISE has not come (R335). -/
def State.sendTakes (s : State) (g epoch : Nat) : State :=
  match s.treeFor g with
  | none => s
  | some t =>
    let m := s.mach g epoch
    (List.range t.replicas).foldl (fun s j =>
      if j + 1 = t.rank || m.promises.any (fun q => q.rank == j + 1) then s
      else s.epSend g (t.succ.getD (j + 1) refNone) 3 t.rank epoch 0 0 0 0 (j + 1)) s

/-- A takeover by this member, successor k, begins: its own PROMISE, TAKE to every other replica, and the decision at once where its own PROMISE is
a quorum (R335). -/
def State.takeover (s : State) (g epoch : Nat) : State :=
  match s.treeFor g with
  | none => s
  | some t =>
    let a := s.agent g
    let k := t.rank
    let r := (a.record epoch).getD ⟨epoch, 0, 0, 0⟩
    let s := s.setAgent g { a with promised := tput a.promised epoch k }
    let s := ((s.odApply 0x5821 0).coGo g epoch .taking).odInc 0x5863 0
    let s := s.setMach g { s.mach g epoch with dec := ⟨epoch, 0, 0, k⟩, acks := [], promises := [⟨k, r.value, r.cause, r.term⟩] }
    (s.sendTakes g epoch).takeCheck g epoch

/-- Whether ranks 0 to k - 1 have all failed for an epoch (R335, R336). -/
def Agent.allFailed (a : Agent) (epoch k : Nat) : Bool := (List.range k).all (fun i => a.failed.contains (epoch, i))

/-- A successor that holds no decision asks the first rank before it that has not failed, or takes over where all have
(R335). -/
def State.probe (s : State) (g epoch : Nat) : State :=
  match s.treeFor g with
  | none => s
  | some t =>
    let a := s.agent g
    let k := t.rank
    if 1 ≤ k && k ≤ t.replicas && (a.heldDec epoch).isNone && ((s.mach g epoch).st == .idle || (s.mach g epoch).st == .deferred) then
      match (List.range k).find? (fun i => !a.failed.contains (epoch, i)) with
      | none => s.takeover g epoch
      | some j => s.epSend g (t.succ.getD j refNone) 6 0 epoch 0 0 0 0 j
    else s

/-- A rank has failed for a QUERY or a TAKE: a successor whose predecessors have all failed takes over; otherwise the next
is asked, and when all have failed the event is raised once (R335, R336). -/
def State.rankFailed (s : State) (g epoch rank : Nat) : State :=
  let p := s.agentPart g
  let a := s.agent g
  let s := s.setAgent g { a with failed := if a.failed.contains (epoch, rank) then a.failed else a.failed ++ [(epoch, rank)] }
  let a := s.agent g
  let e := s.ep p
  let k := match s.treeFor g with
    | some t => t.rank
    | none => 0
  if s.coDoubts g epoch then s.coQuery g epoch
  else if s.doubts g epoch then
    if 1 ≤ k && k ≤ e.tree.replicas && a.allFailed epoch k && ((s.mach g epoch).st == .idle || (s.mach g epoch).st == .deferred) then
      s.takeover g epoch
    else if a.allFailed epoch (e.tree.replicas + 1) && a.attention ≠ some epoch then
      (s.setAgent g { a with attention := some epoch }).epAttention p 1
    else s.query p
  else s.probe g epoch

end Sys2Proof.Machine
end

