-- ==== Sys2Proof/Machine/Memory.lean ====
section
/-! DEFINITION. Access to the local address space: who may reach what (R28 to R31, R153, R347, R555), the core control
registers (R123, R145, R154, R161, R165), and the memory stacks with their epoch logic (R177, R198 to R202). -/
namespace Sys2Proof.Machine

/-! ### Sectors, stacks, ledger slices -/

/-- Bytes of one stack (R175). -/
def stackSize : Nat := 0xC_0000_0000
def stackOf (a : Nat) : Nat := a / stackSize

/-- The partition whose regions hold an HBM address (R347). -/
def State.holder (s : State) (a : Nat) : Option Nat :=
  (List.range 16).find? (fun p => (s.part p).st != .absent && (s.part p).hasHbm a)

/-- Two ranges share an address. -/
def rangesMeet (a b : Nat × Nat) : Bool := decide (a.1 < b.1 + b.2) && decide (b.1 < a.1 + a.2)

/-- Ranges of bytes without those from `lo` up to `hi`. -/
def cutRange (lo hi : Nat) (l : List (Nat × Nat)) : List (Nat × Nat) :=
  l.flatMap (fun r => (if r.1 < min r.2 lo then [(r.1, min r.2 lo)] else []) ++ (if max r.1 hi < r.2 then [(max r.1 hi, r.2)] else []))

/-- HBM bytes from `lo` up to `hi` no longer hold the pattern of the HBM test (R401). -/
def State.patternCut (s : State) (lo hi : Nat) : State :=
  { s with memory := { s.memory with pattern := cutRange lo hi s.memory.pattern } }

/-- A byte of HBM as the module itself reads it: what was written, or the test's pattern where nothing has been since (R401, R546). No requester
reaches a byte that holds the pattern, since a creation fills every region of a partition first (R345, R347). -/
def State.hbmByte (s : State) (a : Nat) : Byte :=
  if s.memory.pattern.any (fun r => decide (r.1 ≤ a) && decide (a < r.2)) then Config.hbmPattern a else s.rd a

/-- A partition's protected regions: base and length (R318). -/
def State.regionsOf (s : State) (p : Nat) : List (Nat × Nat) :=
  let b := s.odBlob 0x5830 (p + 1)
  (List.range (b.length / 16)).map (fun i => (fieldAt b (16 * i) 8, fieldAt b (16 * i + 8) 8))
def State.isProtected (s : State) (p a : Nat) : Bool :=
  (s.regionsOf p).any (fun r => decide (r.1 ≤ a) && decide (a < r.1 + r.2))

/-- Slice size in entries of each stack, and whether an HBM address lies in a declared slice (R319, R320, R322). -/
def State.sliceEntries (s : State) (p : Nat) : Nat := s.odNum 0x5841 (p + 1) * 8192
def State.inSlice (s : State) (a : Nat) : Bool :=
  (List.range 16).any (fun p =>
    let off := s.odNum 0x5840 (p + 1)
    let len := s.odNum 0x5841 (p + 1) * 0x10_0000
    decide (off ≤ a % stackSize) && decide (a % stackSize < off + len))

/-- The colour of a partition's open epoch; 0 for none (R198, OD 0x8061). -/
def State.openColour (s : State) (p : Nat) : Nat := s.odNum 0x8061 (p + 1)
def State.colourOf (s : State) (sector : Nat) : Nat := tget 0 s.memory.colour sector

/-- A sector's epoch bit: its colour is that of its partition's open epoch (R198). -/
def State.epochBit (s : State) (sector : Nat) : Bool :=
  match s.holder (64 * sector) with
  | some p => s.openColour p != 0 && s.colourOf sector == s.openColour p
  | none => false

/-- The 128 bytes of a ledger entry (R321). -/
def LEntry.bytes (e : LEntry) : List Byte :=
  let w := (if e.uncorr then 0 else leNat e.before) + 64 * e.sector * 2 ^ 512 + e.epoch % 2 ^ 64 * 2 ^ 576 + e.colour * 2 ^ 640 + b2n e.uncorr * 2 ^ 642 +
    e.part * 2 ^ 648
  let bs := leBytes 124 w
  bs ++ leBytes 4 (crc32c bs)

/-- Whether an entry's check fails: the base die cannot read its bytes, or `LE.CHECK` is not theirs (R321). -/
def State.entryBad (s : State) (e : LEntry) : Bool :=
  s.memory.bad.contains (e.at_ / 64) || s.memory.bad.contains (e.at_ / 64 + 1) ||
  leBytes 4 (crc32c (s.rdN e.at_ 124)) != s.rdN (e.at_ + 124) 4

/-- A ledger entry is appended to its slice's circular log: the record, and its bytes in the slice (R321, R322). -/
def State.logEntry (s : State) (e : LEntry) : State :=
  let k := e.part * 16 + stackOf (64 * e.sector)
  let i := tget 0 s.memory.tail k
  let e := { e with at_ := stackOf (64 * e.sector) * stackSize + s.odNum 0x5840 (e.part + 1) + 128 * i }
  let m := s.memory
  ({ s with memory := { m with ledger := m.ledger ++ [e], tail := tset 0 m.tail k ((i + 1) % s.sliceEntries e.part),
                               bad := m.bad.filter (fun x => x != e.at_ / 64 && x != e.at_ / 64 + 1) } }).wr e.at_ e.bytes

/-- The before-image that a committed view shows for a sector, while its epoch bit is set (R201). -/
def State.beforeImage (s : State) (sector : Nat) : Option LEntry :=
  if s.epochBit sector then s.memory.ledger.find? (fun e => e.sector == sector && !e.committed) else none

/-- OD 0x5850 shows the entries a partition holds (R341). -/
def State.showLedger (s : State) (p : Nat) : State :=
  s.odSetN 0x5850 (p + 1) (s.memory.ledger.filter (fun e => e.part == p)).length

/-! ### The hot-row cache (R203) -/

/-- A cache starts empty. -/
def State.hotClear (s : State) (k : Nat) : State := { s with memory := { s.memory with hot := tdel s.memory.hot k } }

/-- A sector is admitted. The sets are not stated: past 16 lines a line that nothing states may leave, and one does when all
131,072 are in use (log entry 40). -/
def State.hotAdmit (s : State) (k sector : Nat) : State :=
  let h := tget Hot.blank s.memory.hot k
  let put := fun (s : State) (l : List Nat) =>
    { s with memory := { s.memory with hot := tset Hot.blank s.memory.hot k { h with lines := l ++ [sector] } } }
  if h.lines.length < 16 then put s h.lines
  else
    let f := s.freeVal 17
    let v := f.1 % (h.lines.length + 1)
    put f.2 (if v < h.lines.length then h.lines.eraseIdx v else if h.lines.length < 131072 then h.lines else h.lines.drop 1)

/-- A read of a stack: whether the cache serves it, its counts, and the admission on the n-th miss. A line that the read finds with a
parity error is discarded, and the read, which the DRAM serves, counts as a miss (DESIGN CHOICE, log entry 40). -/
def State.hotRead (s : State) (x : Nat) (parity : Bool) : State × Bool :=
  let k := x / stackSize
  let s := s.odApply 0x8041 0
  if !s.odBool 0x8040 (k + 1) || s.odBool 0x8002 (k + 1) then (s, false)
  else
    let h : Hot := tget Hot.blank s.memory.hot k
    let n := h.reads + 1
    let hit := h.lines.contains (x / 64) && !parity
    let late := h.misses.filter (fun m => decide (n < m.2 + 2 ^ 20))
    let h : Hot := { h with
      lines := if parity then h.lines.filter (fun l => l != x / 64) else h.lines
      reads := n, misses := if hit then late else late ++ [(x / 64, n)] }
    let s := { s with memory := { s.memory with hot := tset Hot.blank s.memory.hot k h } }
    if hit then (s.odInc 0x8042 (2 * k + 1), true)
    else
      let s := s.odInc 0x8042 (2 * k + 2)
      if decide ((h.misses.filter (fun (m : Nat × Nat) => m.1 == x / 64)).length ≥ s.odNum 0x8041 0) then (s.hotAdmit k (x / 64), false) else (s, false)

/-- The safe point of OD 0x8040, the engine's next command start: a changed enable empties the cache. -/
def State.hotEnable (s : State) (k : Nat) : State :=
  let was := s.odBool 0x8040 (k + 1)
  let s := s.odApply 0x8040 (k + 1)
  if s.odBool 0x8040 (k + 1) == was then s else s.hotClear k

/-! ### Corrected and uncorrectable sectors (R175 to R179, R414) -/

/-- The DRAM row of an HBM address, as one number over all stacks (R175). -/
def rowKey (x : Nat) : Nat :=
  let a := x % stackSize
  let u := a / 2 ^ 14 * 256 + a % 256
  ((stackOf x * 64 + bits 13 8 a) * 32 + bits 14 10 u) * 24576 + u / 2 ^ 15

/-- An entry of the row remap list, OD 0x2110, for a row (R414), and the row of an entry. -/
def remapEntry (k : Nat) : Nat := k / 24576 * 2 ^ 49 + k % 24576 * 2 ^ 34
def entryRow (e : Nat) : Nat := e / 2 ^ 49 * 24576 + bits 48 34 e

/-- The entries of a remap list's bytes, and the list last accepted. -/
def remapOf (bs : List Byte) : List Nat := (List.range (bs.length / 8)).map (fun i => fieldAt bs (8 * i) 8)
def State.remapBytes (s : State) : List Byte := (s.odPending 0x2110 0).elim (s.odBlob 0x2110 0) OdVal.bytes

/-- The module appends a row to the remap list; a list already full adds nothing and raises an event (R414). -/
def State.addRemap (s : State) (k : Nat) : State :=
  let bs := s.remapBytes
  if (remapOf bs).contains (remapEntry k) then s
  else if (remapOf bs).length ≥ 4096 then s.raise 0x000A 0x2110 0 (k / 24576 / 2048)
  else s.odAccept 0x2110 0 (.blob (bs ++ leBytes 8 (remapEntry k)))

/-- A corrected symbol: counted, and a row that reaches the threshold within 24 hours becomes a remap candidate (R177,
R179). -/
def State.corrected (s : State) (x : Nat) : State :=
  let s := (s.odInc 0x8020 (stackOf x + 1)).odApply 0x8022 0
  let k := rowKey x
  let times := ((tget [] s.memory.rowErrs k).filter (fun t => decide (s.now < t + 86_400_000_000_000))) ++ [s.now]
  let s := { s with memory := { s.memory with rowErrs := tset [] s.memory.rowErrs k times } }
  if times.length ≥ s.odNum 0x8022 0 then s.addRemap k else s

/-- A sector becomes uncorrectable as stored (R177). -/
def State.spoil (s : State) (x : Nat) : State :=
  let m := s.memory
  { s with memory := { m with bad := if m.bad.contains (x / 64) then m.bad else m.bad ++ [x / 64] } }.odInc 0x8021 (stackOf x + 1)

/-- What the code finds in a codeword with `errs` symbols in error: corrected, uncorrectable, or for three and more either
of them, where a miscorrection leaves data and colour that nothing constrains (R176, R177; log entry 26). -/
def State.decodeSector (s : State) (x errs : Nat) : State × Bool :=
  if s.memory.bad.contains (x / 64) then (s.odInc 0x8021 (stackOf x + 1), false)
  else if errs = 0 then (s, true)
  else if errs = 1 then (s.corrected x, true)
  else if errs = 2 then (s.spoil x, false)
  else
    let f := s.freeVal 1
    if f.1 = 0 then (f.2.spoil x, false)
    else
      let d := f.2.freeVal 512
      let c := d.2.freeVal 2
      let s := c.2.wr (64 * (x / 64)) (leBytes 64 d.1)
      ({ s with memory := { s.memory with colour := tset 0 s.memory.colour (x / 64) c.1 } }.corrected x, true)

/-! ### Who may reach what -/

/-- The outcome of the address and partition checks. -/
inductive Reach where
  | ok | address | isolation
  deriving DecidableEq, Repr

/-- Whether a range of local addresses meets the committed-view aperture. -/
def meetsAperture (a len : Nat) : Bool := len != 0 && decide (a < 0x290_0000_0000) && decide (0x280_0000_0000 < a + len)

/-- The reads through the aperture that are outstanding for a partition: started DMA.CPs, by core and number; COPY descriptors, by queue
and slot; table commands, by number; program copies, by core and slot with their descriptor (R30, R92). -/
def State.apertureReads (s : State) (p : Nat) : List (Nat × Nat × Nat) :=
  s.cores.flatMap (fun e => (e.2.mops.filter (fun m => m.phase == .started && fOp m.w == 0 && (e.2.slot m.slot).launch.part == p &&
    meetsAperture m.s.toNat m.l.toNat)).map (fun m => (0, e.1, m.id))) ++
  (s.disp.flights.filter (fun f =>
    let d := leNat f.bytes
    bits 7 0 d == 2 && !f.finished && f.part == p && !bit 343 d && meetsAperture (bits 511 448 d) (bits 383 344 d))).map
      (fun f => (1, f.ref.queue, f.ref.index)) ++
  (s.sepia.cmds.filter (fun x => !x.done && x.part == p &&
    (meetsAperture (bits 223 180 x.bits) 1 || meetsAperture (bits 105 62 x.bits) 1))).map (fun x => (2, x.id, 0)) ++
  s.cores.flatMap (fun e => ((List.range 4).filter (fun k =>
    let x := e.2.slot k
    x.st == .loading && x.launch.part == p && meetsAperture x.launch.prog (8 * x.launch.len))).map
      (fun k => (3, 4 * e.1 + k, (e.2.slot k).launch.desc.index * 65536 + (e.2.slot k).launch.desc.queue)))

/-- Whether the base that waits in OD 0x5810 waits still: for a read that was outstanding when it was accepted. -/
def State.apertureHeld (s : State) (p : Nat) : Bool :=
  (s.odPending 0x5810 (p + 1)).isSome && (s.apertureReads p).any (fun r => (tget [] s.memory.apWait p).contains r)

/-- The base in effect: the value last accepted from its safe point on, until then the one before (R17, R30). -/
def State.apertureBase (s : State) (p : Nat) : Nat :=
  match s.odPending 0x5810 (p + 1) with
  | some v => if s.apertureHeld p then s.odNum 0x5810 (p + 1) else v.toNat
  | none => s.odNum 0x5810 (p + 1)

/-- A base is accepted: an earlier one whose safe point has come was applied before it, and it waits for what is outstanding now. -/
def State.apertureTake (s : State) (p n : Nat) : State :=
  let s := if s.apertureHeld p then s else s.odApply 0x5810 (p + 1)
  { s with memory := { s.memory with apWait := tset [] s.memory.apWait p (s.apertureReads p) } }.odAccept 0x5810 (p + 1) (.num n)

/-- The committed-view aperture's HBM address for a requester's partition (R30). -/
def State.apertureAt (s : State) (p o : Nat) : Nat := s.apertureBase p + o

/-- A core control register's value at a block offset; `none` for a reserved offset (R123, R145, R154, R161, R165,
R555). -/
def State.ctlReg (s : State) (n o : Nat) : Option Word :=
  let c := s.core n
  if o < 0x400 then
    let x := c.slot (o / 0x100)
    match o % 0x100 / 8 with
    | 0 => some (match x.st with
        | .empty => 0 | .loading => 1 | .ready => 2 | .running => 3 | .waiting => 4 | .draining => 5)
    | 1 => some (BitVec.ofNat 64 x.pc)
    | 2 => some (BitVec.ofNat 64 (x.faultCode * 2 ^ 56 + x.faultGrp * 2 ^ 54 + x.faultOp * 2 ^ 48 + x.faultInfo))
    | 3 => some x.launch.grant
    | 4 => some (BitVec.ofNat 64 (x.launch.base * 2 ^ 50 + x.launch.len * 2 ^ 35 + x.launch.gen * 2 ^ 27 +
        x.launch.part * 2 ^ 23 + b2n x.launch.acc1 * 2 ^ 22 + b2n x.launch.acc0 * 2 ^ 21))
    | 5 => some (BitVec.ofNat 64 (b2n x.bxovf * 2 + b2n x.inv))
    | _ => none
  else if 0x1_0000 ≤ o && o < 0x1_0200 then some (c.counter ((o - 0x1_0000) / 8))
  else if 0x2_0000 ≤ o && o < 0x2_0200 then
    let b := (o - 0x2_0000) / 0x10
    let x := c.bankOf b
    let pwr := fun (p : Pwr) => match p with | .lit => 0 | .dim => 1 | .dark => 2
    if (o - 0x2_0000) % 0x10 < 8 then
      match x.moving with
      | some m => some (m.v &&& 0xCF7#64)
      | none => some (BitVec.ofNat 64 (pwr x.pwr * 2 ^ 10 + x.nbr * 2 ^ 4 + x.owner))
    else
      let test := match c.march with | some m => m.bank == b | none => false
      some (BitVec.ofNat 64 (b2n x.failed * 2 ^ 7 + b2n test * 2 ^ 6 + b2n x.moving.isSome * 2 ^ 5 + x.owner * 2 ^ 2 +
        (if x.failed then 2 else pwr x.pwr)))
  else if 0x2_0200 ≤ o && o < 0x2_0208 then some (BitVec.ofNat 64 c.coll)
  else none

/-- Whether an offset of a core control block is a byte of BANK.CTRL, its one writable register. -/
def isBankCtrl (o : Nat) : Bool := decide (0x2_0000 ≤ o) && decide (o < 0x2_0200) && decide (o % 0x10 < 8)

/-- The checks of R31 and R347 on one byte. A core control block of another partition's core is a control register that
the requester may not reach (R555; log entry 25). -/
def State.reach (s : State) (p a : Nat) (write : Bool) : Reach :=
  let hbm := fun (x : Nat) =>
    if s.inSlice x then Reach.address else if (s.part p).hasHbm x then .ok else .isolation
  match s.region a with
  | .hbm x => hbm x
  | .view x => if write then .address else hbm x
  | .aperture o => if write then .address else hbm (s.apertureAt p o)
  | .spad n _ | .istore n _ => if (s.part p).hasCluster (clusterOf n) then .ok else .isolation
  | .pool c _ => if (s.part p).hasCluster c then .ok else .isolation
  | .coreCtl n o =>
    if !(s.part p).hasCluster (clusterOf n) || s.clusterDown (clusterOf n) then .address
    else if write then (if isBankCtrl o then .ok else .address)
    else if (s.ctlReg n o).isSome then .ok else .address
  | .ctl | .reserved => .address

/-- Addresses at which the outcome of `reach` can change: the map's bounds, the windows of the cores and pools, the
partitions' regions and the slices. -/
def State.breaks (s : State) (p : Nat) : List Nat :=
  [0x0C0_0000_0000, 0x100_0000_0000, 0x100_4800_0000, 0x101_0000_0000, 0x101_0C00_0000, 0x200_0000_0000,
   0x250_0000_0000, 0x280_0000_0000, 0x290_0000_0000] ++
  (List.range 288).flatMap (fun n => [spadBase n, spadBase n + 0x30_0000, spadBase n + 0x32_0000]) ++
  (List.range 24).map poolBase ++
  (let marks := (s.part p).regions.flatMap (fun r => [r.1, r.1 + r.2]) ++
      (List.range 16).flatMap (fun k => (List.range 16).flatMap (fun q =>
        let b := k * stackSize + s.odNum 0x5840 (q + 1)
        [b, b + s.odNum 0x5841 (q + 1) * 0x10_0000]))
   marks ++ marks.map (fun m => m + 0x0C0_0000_0000) ++
   marks.map (fun m => m + 0x280_0000_0000 - s.apertureBase p))

/-- The addresses at which a range is checked: every byte of a short one; for a long one its start and the breaks in
it. A long range that meets core control space meets a reserved offset of it. -/
def State.probes (s : State) (p a len : Nat) : List Nat :=
  if len ≤ 4096 then (List.range len).map (fun i => a + i)
  else a :: (s.breaks p).filter (fun b => decide (a < b) && decide (b < a + len))

/-- The checks of R31 and R347 on a range: an address fault of any byte comes first. -/
def State.reachAll (s : State) (p a len : Nat) (write : Bool) : Reach :=
  let rs := (s.probes p a len).map (fun x => s.reach p x write)
  let ctl := decide (len > 4096) && decide (a < 0x200_1200_0000) && decide (a + len > 0x200_0000_0000)
  if ctl || rs.any (· == .address) then .address else if rs.any (· == .isolation) then .isolation else .ok

/-- An address fault of a partition is counted (R31), and an isolation fault, with its event at most once a second
(R347). -/
def State.countAddress (s : State) (p : Nat) : State :=
  s.setPart p { s.part p with addrFaults := ((s.part p).addrFaults + 1) % 2 ^ 64 }
def State.countIsolation (s : State) (p : Nat) : State :=
  let s := s.odInc 0x6008 (p + 1)
  if s.now ≥ (s.part p).isoEventAt then
    (s.setPart p { s.part p with isoEventAt := s.now + 1_000_000_000 }).raise 0x0006 0x6008 (p + 1) (s.odNum 0x6008 (p + 1))
  else s
def State.countReach (s : State) (p : Nat) (r : Reach) : State :=
  match r with
  | .ok => s
  | .address => s.countAddress p
  | .isolation => s.countIsolation p

/-! ### Requesters of a scratchpad bank (R153, R157) -/

/-- The non-processor requesters: a core's DMA, fabric inbound, the collective engine, which a bank takes for fabric inbound (R295), a Sepia
return stream, the host. -/
inductive Who where
  | dma (core : Nat)
  | fabric
  | coll
  | sepia
  | host
  deriving DecidableEq, Repr

/-- Whether a bank admits a requester (R153). -/
def Bank.admits (b : Bank) (home : Nat) (who : Who) (write : Bool) : Bool :=
  let nbr := fun (k : Nat) => decide (k / 12 = home / 12) && decide (k % 12 = b.nbr) && k != home
  match b.owner, who with
  | 0, .dma k => if write then k == home else true
  | 0, .fabric | 0, .coll => !write
  | 0, .host => !write
  | 1, .dma k => nbr k
  | 2, .fabric | 2, .coll => true
  | 3, .sepia => write
  | 4, .host => true
  | _, _ => false

/-- Whether a requester reaches a scratchpad byte now, and whether a preserving test holds it (R157, R169). -/
def State.bankFor (s : State) (who : Who) (n o : Nat) (write : Bool) : Bool :=
  let b := (s.core n).bankOf (bankNo o)
  b.isLit && b.admits n who write
def State.bankHeld (s : State) (n o : Nat) : Bool := (s.core n).underTest (bankNo o)

/-- The requesters of a cluster pool: its cluster's core DMAs, fabric inbound writes and Sepia return streams (R149). -/
def poolAdmits (c : Nat) (who : Who) (write : Bool) : Bool :=
  match who with
  | .dma k => clusterOf k == c
  | .fabric | .coll | .sepia => write
  | .host => false

/-- Whether a byte serves a requester: its bank or its pool; core control space serves every requester of its partition with the access
that a register gives (R149, R153, R157, R555). -/
def State.serves (s : State) (who : Who) (a : Nat) (write : Bool) : Bool :=
  match s.region a with
  | .spad n o => s.bankFor who n o write
  | .pool c _ => poolAdmits c who write
  | _ => true

/-- Whether a range meets core control space, and whether it is a fabric inbound request that does: none reaches it, so that it is an address
fault (R31, R155). -/
def meetsCtl (a len : Nat) : Bool := decide (0 < len) && decide (a < 0x200_1200_0000) && decide (a + len > 0x200_0000_0000)
def ctlFromFabric (who : Who) (a len : Nat) : Bool := who == .fabric && meetsCtl a len

/-! ### The stacks -/

/-- The HBM address that an address shows, live or through a committed view. -/
def State.hbmOf (s : State) (p a : Nat) : Option (Nat × Bool) :=
  match s.region a with
  | .hbm x => some (x, false)
  | .view x => some (x, true)
  | .aperture o => some (s.apertureAt p o, true)
  | _ => none

/-- Whether a read of a sector delivers no data: stored uncorrectable, or a before-image that was (R177, R321). -/
def State.uncorrectable (s : State) (x : Nat) (committed : Bool) : Bool :=
  match committed, s.beforeImage (x / 64) with
  | true, some e => e.uncorr || s.entryBad e
  | _, _ => s.memory.bad.contains (x / 64)

/-- A sector that a restore has still to write back (R200). -/
def State.restoring (s : State) (sector : Nat) : Bool :=
  match s.beforeImage sector with
  | some e => s.memory.work.any (fun w => w.restore && w.part == e.part && w.stack == stackOf (64 * sector) && w.colour == e.colour)
  | none => false

/-- The first sector of a range and how many it touches. -/
def sectorsOf (a len : Nat) : List Nat :=
  if len = 0 then [] else (List.range ((a + len - 1) / 64 - a / 64 + 1)).map (fun i => a / 64 + i)

/-- Whether a sector's next write needs a ledger entry (R199). -/
def State.needsEntry (s : State) (sector : Nat) : Bool :=
  match s.holder (64 * sector) with
  | none => false
  | some p => s.isProtected p (64 * sector) && s.openColour p != 0 && s.colourOf sector != s.openColour p

/-- Free entries of a partition's slice in a stack (R322). -/
def State.sliceRoom (s : State) (p stack : Nat) : Nat :=
  s.sliceEntries p - (s.memory.ledger.filter (fun e => e.part == p && stackOf (64 * e.sector) == stack)).length

/-- What holds a write to live HBM: nothing; a colour delivery, a restore or another waiting write; a full slice, with
its partition, the sector and the entries needed on its stack; or the drop of R330. -/
inductive Gate where
  | go
  | wait
  | full (part sector need : Nat)
  | drop (part : Nat)
  deriving DecidableEq, Repr

/-- The gate of a write of a range (R198, R200, R202, R330). A requester's access waits as a whole, at its first sector without room; the
rules speak of each write and do not cut an access into writes (DESIGN CHOICE, log entry 164). -/
def State.gate (s : State) (a len : Nat) : Gate :=
  let secs := sectorsOf a len
  if secs.any (fun k => s.restoring k || s.memory.held.any (fun h => (sectorsOf h.addr h.bytes.length).contains k) ||
      (match s.holder (64 * k) with
        | some p => s.memory.delivering.contains p && s.isProtected p (64 * k)
        | none => false)) then .wait
  else
    let need := secs.filter s.needsEntry
    let count := fun (p k : Nat) => (need.filter (fun j => s.holder (64 * j) == some p && stackOf (64 * j) == stackOf (64 * k))).length
    let short := need.find? (fun k =>
      match s.holder (64 * k) with
      | some p => decide (s.sliceRoom p (stackOf (64 * k)) < count p k)
      | none => false)
    match short with
    | none => .go
    | some k =>
      let p := (s.holder (64 * k)).getD 0
      if (s.ep p).st = .doomed then .drop p else .full p k (count p k)

/-- Ledger full is reported to the partition's agent for a stack (R323). -/
def State.fullReport (s : State) (p stack : Nat) : State :=
  let mine := fun (x : Short) => stackOf (64 * x.sector) == stack && s.holder (64 * x.sector) == some p
  let l := updAll mine (fun x => { x with told := true }) s.memory.short
  let s : State := { s with memory := { s.memory with short := l } }
  ((s.odInc 0x5851 (p + 1)).raise 0x0007 0x5851 (p + 1) stack).castAbort p 5

/-- A write waits for room at a sector: it is counted once, and with no sweep or restore of the partition on that stack ledger full is
reported to the agent, once for the wait (R202, R323). A second write to the sector waits behind it and is not counted (R187, R202). -/
def State.ledgerFull (s : State) (p sector need : Nat) : State :=
  let stack := stackOf (64 * sector)
  let idle := !s.memory.work.any (fun w => w.part == p && w.stack == stack)
  match s.memory.short.find? (fun x => x.sector == sector) with
  | some x => if idle && !x.told then s.fullReport p stack else s
  | none =>
    let s := { s with memory := { s.memory with short := s.memory.short ++ [Short.mk sector need false] } }.odInc 0x8060 (stack + 1)
    if idle then s.fullReport p stack else s

/-- A write waits: counted where it waits for room. -/
def State.noteGate (s : State) (g : Gate) : State :=
  match g with
  | .full p k n => s.ledgerFull p k n
  | .drop p => s.odInc 0x5852 (p + 1)
  | _ => s

/-- The delivery of a partition's next colour starts, once an EPOCH_BEGIN waits for it, no decision is on its way, and the sweep or restore
of the last epoch of that colour has ended on every stack; from then on the partition's writes to protected sectors are held (R198). -/
def State.colourStart (s : State) (p : Nat) : State :=
  let e := s.ep p
  if e.beginDesc.isNone || s.memory.delivering.contains p || s.memory.deciding.any (fun d => d.1 == p) ||
      s.memory.work.any (fun w => w.part == p && w.colour == e.colour % 3 + 1) then s
  else { s with memory := { s.memory with delivering := s.memory.delivering ++ [p] } }

/-- One write within one sector, past the gate: a before-image where R199 asks for one, the data, the colour; a full
sector replaces an uncorrectable one (R177). -/
def State.sectorPut (s : State) (a : Nat) (bs : List Byte) : State :=
  let k := a / 64
  let p := s.holder a
  let c := match p with
    | some p => if s.isProtected p a then s.openColour p else 0
    | none => 0
  let s := match p with
    | some p =>
      if c != 0 && s.colourOf k != c then
        let lost := s.memory.bad.contains k
        let img : List Byte := if lost then List.replicate 64 0 else s.rdN (64 * k) 64
        s.logEntry ⟨p, (s.ep p).epoch, k, c, img, lost, false, 0⟩
      else s
    | none => s
  let m := s.memory
  let m := { m with colour := tset 0 m.colour k c, short := m.short.filter (fun x => x.sector != k), bad := if bs.length = 64 then m.bad.filter (fun x => x != k) else m.bad }
  let s := { s with memory := m }.wr a bs
  match p with
  | some p => if c != 0 then s.showLedger p else s
  | none => s

/-- The part of a write that falls in one sector. -/
def pieceOf (a : Nat) (bs : List Byte) (k : Nat) : Nat × List Byte :=
  let lo := max a (64 * k)
  let hi := min (a + bs.length) (64 * k + 64)
  (lo, slice bs (lo - a) (hi - lo))

/-- A write of live HBM, sector by sector (R199). -/
def State.hbmPut (s : State) (a : Nat) (bs : List Byte) : State :=
  (sectorsOf a bs.length).foldl (fun s k => let q := pieceOf a bs k; s.sectorPut q.1 q.2) s

/-- A byte as a requester of a partition reads it (R30, R201). -/
def State.rdAs (s : State) (p a : Nat) : Byte :=
  match s.region a with
  | .coreCtl n o => match s.ctlReg n o with
    | some v => BitVec.ofNat 8 (v.toNat >>> (8 * (o % 8)))
    | none => 0
  | _ => match s.hbmOf p a with
    | some (x, true) => match s.beforeImage (x / 64) with
      | some e => getAt 0 e.before (x % 64)
      | none => s.rd x
    | some (x, false) => s.rd x
    | none => s.rd a
def State.rdRange (s : State) (p a len : Nat) : List Byte := (List.range len).map (fun i => s.rdAs p (a + i))

/-- A write of bytes to local memory, past the checks: HBM through the base die, everything else plainly. One to BANK.CTRL that is none of
R154's is ignored and counted (R155). -/
def State.put (s : State) (a : Nat) (bs : List Byte) : State :=
  match s.region a with
  | .hbm x => s.hbmPut x bs
  | .coreCtl _ _ => if bs.isEmpty then s else s.odInc 0x8809 0
  | _ => s.wr a bs

/-! ### One access -/

/-- The outcome of an access. -/
inductive Acc where
  | ok | wait | address | isolation | bank | uncorrectable
  | full (part sector need : Nat)
  | drop (part : Nat)
  deriving DecidableEq, Repr

/-- The scratchpad bytes of a range: core and offset. -/
def State.spadBytes (s : State) (a len : Nat) : List (Nat × Nat) :=
  (List.range len).filterMap (fun i => match s.region (a + i) with
    | .spad n o => some (n, o)
    | _ => none)

/-- All the checks of an access by a requester of a partition to a range, in the order of R31, R347, R153 and R199. R149 names a pool's
requesters and no outcome for another; DESIGN CHOICE: it is refused as by a bank (R157; log entry 159). -/
def State.access (s : State) (who : Who) (p a len : Nat) (write : Bool) : Acc :=
  match (if ctlFromFabric who a len then Reach.address else s.reachAll p a len write) with
  | .address => .address
  | .isolation => .isolation
  | .ok =>
    let sp := s.spadBytes a len
    if sp.any (fun x => s.bankHeld x.1 x.2) then .wait
    else if (List.range len).any (fun i => !s.serves who (a + i) write) then .bank
    else
      let hb := (sectorsOf a len).filterMap (fun k => s.hbmOf p (64 * k))
      if write then
        let part := fun (k : Nat) => decide (64 * k < a) || decide (64 * k + 64 > a + len)
        if hb.isEmpty then .ok
        else if (sectorsOf a len).any (fun k => part k && s.memory.bad.contains k) then .uncorrectable
        else match s.gate a len with
          | .go => .ok
          | .wait => .wait
          | .full q k n => .full q k n
          | .drop q => .drop q
      else if hb.any (fun x => if x.2 then s.memory.deciding.any (fun d => some d.1 == s.holder x.1) else s.restoring (x.1 / 64))
      then .wait
      else if hb.any (fun x => s.uncorrectable x.1 x.2) then .uncorrectable
      else .ok

/-- Whether a range touches a scratchpad or a pool. -/
def State.onChip (s : State) (a len : Nat) : Bool :=
  (List.range len).any (fun i => match s.region (a + i) with
    | .spad _ _ | .pool _ _ => true
    | _ => false)

/-- The sectors of a write that it leaves part of, and which it then reads (R177). -/
def partSectors (a len : Nat) : List Nat := (sectorsOf a len).filter (fun k => decide (64 * k < a) || decide (64 * k + 64 > a + len))

/-- What the check bits show a write, and whether it is not made: one that leaves part of a granule, or part of a sector, reads it, counts
what that read finds, and is not made over one that cannot be corrected (R148, R162, R177). -/
def State.eccSeen (s : State) (e : Ecc) (a len : Nat) : State × Bool :=
  if s.onChip a len then (if partGranule a len then (s.eccCount e, e == .uncorrectable) else (s, false))
  else match s.region a, e, partSectors a len with
    | .hbm _, .ok k, l => ((l.take k).foldl (fun s j => s.corrected (64 * j)) s, false)
    | .hbm _, .uncorrectable, j :: _ => (s.spoil (64 * j), true)
    | _, _, _ => (s, false)

/-- The sectors of a range pass the hot-row cache; those that the DRAM serves, in order (R203). A before-image lies in the ledger's slice
and is not read through it (log entry 40). -/
def State.hotRange (s : State) (p a len : Nat) : State × List Nat :=
  (sectorsOf a len).foldl (fun (r : State × List Nat) k =>
    match r.1.hbmOf p (64 * k) with
    | some (x, c) =>
      if c && (r.1.beforeImage (x / 64)).isSome then r
      else
        let h := r.1.hotRead x false
        (h.1, if h.2 then r.2 else r.2 ++ [x])
    | none => r) (s, [])

/-- What a read of a range leaves beside its data, and whether it delivers none: a stack's read passes the hot-row cache; corrected words
or codewords are counted, one to each of the first sectors that the DRAM serves; an uncorrectable one is counted, and a sector stays
uncorrectable as stored (R162, R177, R203). -/
def State.readSeen (s : State) (e : Ecc) (p a len : Nat) : State × Bool :=
  let r := s.hotRange p a len
  if s.onChip a len then (r.1.eccCount e, e == .uncorrectable)
  else match e, r.2 with
    | .ok k, l => ((l.take k).foldl State.corrected r.1, false)
    | .uncorrectable, x :: _ => (r.1.spoil x, true)
    | .uncorrectable, [] => (r.1, false)

/-- What an access that does not go on leaves: its fault or its wait is counted (R31, R157, R202, R347). -/
def State.noteAcc (s : State) (p : Nat) (r : Acc) : State :=
  match r with
  | .address => s.countAddress p
  | .isolation => s.countIsolation p
  | .full q k n => s.ledgerFull q k n
  | .drop q => s.odInc 0x5852 (q + 1)
  | .uncorrectable => s
  | _ => s

/-- What an event leaves: its state, or where an access of a partition holds it back, the state before it with the wait noted (R202). -/
def State.orHeld (s : State) (r : Except (Nat × Acc) State) : State :=
  match r with
  | .ok t => t
  | .error w => s.noteAcc w.1 w.2

/-- The same of a host access, where a bank's refusal is counted as R31 counts (R157, R212). -/
def State.noteHost (s : State) (p : Nat) (r : Acc) : State := if r = .bank then s.countAddress p else s.noteAcc p r

/-- A local address behind a sealed inbound crossing: the request is lost (R57). -/
def State.sealedAt (s : State) (a : Nat) : Bool :=
  match s.region a with
  | .spad n _ | .istore n _ | .coreCtl n _ => s.sealed (clusterOf n) 17 || s.coreSealed n
  | .pool c _ => s.sealed c 17
  | _ => false

/-- A range that a sealed inbound crossing hides, at its start or at its end. -/
def State.sealedRange (s : State) (a len : Nat) : Bool := len != 0 && (s.sealedAt a || s.sealedAt (a + len - 1))

/-- Counts uncorrectable sectors of a read in their stacks (R177). -/
def State.countBad (s : State) (p a len : Nat) : State :=
  (sectorsOf a len).foldl (fun s k => match s.hbmOf p (64 * k) with
    | some (x, c) => if s.uncorrectable x c then s.odInc 0x8021 (stackOf x + 1) else s
    | none => s) s

end Sys2Proof.Machine
end

