-- ==== Sys2Proof/Machine/MOps.lean ====
section
/-! DEFINITION. The M-ops: issue with its checks, start, replies, and completion (R93, R110 to R114, R119, R121). -/
namespace Sys2Proof.Machine

/-! ### Table commands reach the engines (R184 to R187) -/

/-- The stack that holds an address, live or through a committed view, of a partition's requester. -/
def State.stackAt (s : State) (p a : Nat) : Option Nat := (s.hbmOf p a).map (fun x => stackOf x.1)

/-- The stacks whose engines execute a table command (R186). R186 names no engine for an address that lies in no stack, nor for a reserved
`CMD.OP`: DESIGN CHOICE, the engine of S0 takes the first, and the table's the second, each to refuse it (log entry 164). -/
def State.cmdStacks (s : State) (p c : Nat) : List Nat :=
  let op := bits 511 504 c
  let tab := bits 351 224 c
  let one := fun (a : Nat) => [((s.stackAt p a).getD 0) % 16]
  if op = 5 then one (bits 223 180 c)
  else if op = 6 then one (bits 179 136 c)
  else if bit 42 tab then List.range 16
  else one (bits 127 88 tab)

/-- Whether the engines of a command have room: 256 commands each (R186). -/
def State.enginesFree (s : State) (p c : Nat) : Bool :=
  (s.cmdStacks p c).all (fun k =>
    decide ((s.sepia.cmds.filter (fun x => !x.done && (s.cmdStacks x.part x.bits).contains k)).length < 256))

/-- A table command is queued at its executing engines; in bypass the fallback unit takes it and counts it (R186, R196). -/
def State.pushCmd (s : State) (who : Issuer) (p seed c : Nat) : State :=
  let s := ((s.cmdStacks p c).filter (fun k => s.odBool 0x8002 (k + 1))).foldl (fun s k => s.odInc 0x8003 (k + 1)) s
  { s with sepia := { s.sepia with
    cmds := s.sepia.cmds ++ [⟨s.sepia.next, who, p, seed, c, false, 0, [], [], false⟩], next := s.sepia.next + 1 } }

/-! ### Shared parts -/

def State.mop? (s : State) (n id : Nat) : Option MOp := (s.core n).mops.find? (fun m => m.id == id)
def State.updMop (s : State) (n id : Nat) (f : MOp → MOp) : State :=
  s.setCore n { s.core n with mops := updFirst (fun m => m.id == id) f (s.core n).mops }
def State.dropMop (s : State) (n id : Nat) : State :=
  s.setCore n { s.core n with mops := (s.core n).mops.filter (fun m => m.id != id) }

/-- The partition of a core's requests: its context's (R346). -/
def State.slotPart (s : State) (n k : Nat) : Nat := ((s.core n).slot k).launch.part
def State.slotGen (s : State) (n k : Nat) : Nat := ((s.core n).slot k).launch.gen

/-- An M-op faults: the context records it, and the M-op signals nothing more (R119, R121). -/
def State.mFault (s : State) (n : Nat) (m : MOp) (code info : Nat) : State :=
  ((s.updMop n m.id (fun x => { x with err := code, errInfo := info })).asyncFault n m.slot m.w code info).releaseCore n

/-- The end of an M-op without fault: CE adds `v` once (R93). -/
def State.mDone (s : State) (n : Nat) (m : MOp) (v : Nat) : State :=
  ((s.dropMop n m.id).signalCE n (oCE m.w) (oCNT m.w) v).releaseCore n

/-- Whether a slot's context runs in replay mode, and what replay mode reads and writes: HBM through the fixed committed view,
and only the core's own windows are written (R386). -/
def State.slotReplay (s : State) (n k : Nat) : Bool := ((s.core n).slot k).launch.replay
def replayAddr (a : Nat) : Nat := if a < 0x0C0_0000_0000 then a + 0x0C0_0000_0000 else a
def State.readAt (s : State) (n k a : Nat) : Nat := if s.slotReplay n k then replayAddr a else a
def State.ownWindow (s : State) (n a : Nat) : Bool :=
  match s.region a with
  | .spad k _ | .istore k _ | .coreCtl k _ => k == n
  | _ => false
def State.discards (s : State) (n k a : Nat) : Bool := s.slotReplay n k && !s.ownWindow n a

/-- Whether a reset under way covers a cluster, and whether it covers a core (R376, R389). -/
def State.coversCluster (s : State) (r : ResetRun) (c : Nat) : Bool :=
  match r.scope with
  | 2 | 6 => r.target == c
  | 3 | 4 | 8 => true
  | 7 => (s.part r.target).hasCluster c
  | _ => false
def State.coversCore (s : State) (r : ResetRun) (n : Nat) : Bool :=
  match r.scope with
  | 1 | 5 => r.target == n
  | _ => s.coversCluster r (clusterOf n)

/-- A core that answers as a target in reset: fenced, or in a reset that has not been released (R112, R265, R383). -/
def State.coreBlocked (s : State) (n : Nat) : Bool :=
  s.faults.fences.any (fun f => if f.isCluster then f.num == clusterOf n else f.num == n) ||
  s.faults.resets.any (fun r => s.coversCore r n)

/-- The fault code of an access that did not go on (R119). -/
def accFault : Acc → Nat
  | .address | .bank => 0x07
  | .isolation => 0x0C
  | .uncorrectable => 0x0B
  | .drop _ => 0x0A
  | _ => 0

/-- `FAULT.INFO` of an access that did not go on: the local address for an address fault, 0 otherwise (R123). -/
def accInfo (r : Acc) (a : Nat) : Nat := if accFault r = 7 then a else 0

/-- Whether an access waits. -/
def Acc.waits : Acc → Bool
  | .wait | .full _ _ _ => true
  | _ => false

/-- Whether a write is dropped whole: it changes nothing (R330). -/
def Acc.drops : Acc → Bool
  | .drop _ => true
  | _ => false

/-- The fields of a global address pair (R112). -/
def gaCoord (d : Word) : Nat := bits 19 0 d.toNat
def gaPart (d : Word) : Nat := bits 23 20 d.toNat
def gaWin (d : Word) : Nat := bits 29 24 d.toNat
def gaOk (d d1 : Word) : Bool := bits 63 30 d.toNat == 0 && bits 63 40 d1.toNat == 0 && gaCoord d != 0xF_FFFF

/-! ### Order on one sector (R32, R114) -/

/-- A range by the storage that it names: a part of it in a committed view lies where the HBM that it shows lies (R30). -/
def State.plain (s : State) (p a len : Nat) : List (Nat × Nat) :=
  [(0, 0x0C0_0000_0000, 0), (0x0C0_0000_0000, 0x100_0000_0000, 0), (0x100_0000_0000, 0x280_0000_0000, 0x100_0000_0000),
   (0x280_0000_0000, 0x290_0000_0000, s.apertureBase p), (0x290_0000_0000, 2 ^ 65, 0x290_0000_0000)].filterMap (fun g =>
    let lo := max a g.1
    let hi := min (a + len) g.2.1
    if lo < hi then some (g.2.2 + (lo - g.1), hi - lo) else none)

/-- The local ranges that an M-op has still to read or write, as address and length. One that has faulted still takes the pieces that its
requests bring (R121). -/
def State.mRanges (s : State) (n : Nat) (m : MOp) : List (Nat × Nat) :=
  let src := s.readAt n m.slot m.s.toNat
  let rs : List (Nat × Nat) := match fOp m.w with
  | 0 => [(src, m.l.toNat), (m.d.toNat, m.l.toNat)]
  | 1 => if m.phase = .queued then [(src, m.l.toNat)] else []
  | 2 => [(m.d.toNat, m.l.toNat)]
  | 5 => if m.phase = .queued then [(src, 64)] else []
  | _ => []
  rs.flatMap (fun r => s.plain (s.slotPart n m.slot) r.1 r.2)

/-- Two ranges touch one 64-byte sector. -/
def sectorsMeet (x y : Nat × Nat) : Bool :=
  decide (0 < x.2) && decide (0 < y.2) && decide (x.1 / 64 ≤ (y.1 + y.2 - 1) / 64) && decide (y.1 / 64 ≤ (x.1 + x.2 - 1) / 64)

/-- Whether an M-op that the core's DMA was given before the one numbered `id` has still to access a sector of these ranges: the
accesses of one requester to one sector take effect in issue order (R32, R114). -/
def State.mBehind (s : State) (n id : Nat) (rs : List (Nat × Nat)) : Bool :=
  (s.core n).mops.any (fun e => decide (e.id < id) && (e.err == 0 || e.left != 0) &&
    (s.mRanges n e).any (fun x => rs.any (sectorsMeet x)))

/-! ### Issue (R110, R112, R113) -/

/-- The synchronous fault of an M-op at issue, if it has one: code and information (R112, R113). An address fault reports the local
address (R123). DEDUCED: for a bad global pair that is the M-op's own local operand, and an RSIG, which has none, reports 0 (log entry
157). Where a length above 2^24 and a bad pair meet, neither rule goes first; DESIGN CHOICE: the length fault is reported (log entry 172). -/
def mIssueFault (op : Nat) (w : Word) (m : MOp) : Option (Nat × Nat) :=
  if op ≤ 2 && m.l.toNat > 2 ^ 24 then some (6, 0)
  else match op with
  | 1 => if oSD w = 31 || !gaOk m.d m.d1 then some (7, m.s.toNat) else none
  | 2 => if oSS w = 31 || !gaOk m.s m.s1 then some (7, m.d.toNat) else none
  | 4 => if bits 63 24 m.d.toNat != 0 || gaCoord m.d = 0xF_FFFF then some (7, 0) else none
  | 5 => if m.s.toNat % 64 ≠ 0 then some (7, m.s.toNat) else none
  | _ => none

/-- Adds an M-op's request count. -/
def State.mLeft (s : State) (n id k : Nat) : State := s.updMop n id (fun x => { x with phase := .started, left := k })

/-- What a start that reads local memory finds there: an RPUT its source, a TBL its command block. It waits for its own event, which says
what the check bits show (R162, R177); the rest start without. -/
def mNeedsEcc (m : MOp) : Bool := fOp m.w == 1 || fOp m.w == 5

/-- Starts one M-op: `none` where it has to wait, behind an earlier access of the core's DMA to a sector that it reads too, or for the event
that tells what its read finds (R32, R110, R111, R162, R264); in replay mode nothing leaves the core (R386). How much of an RPUT has been sent
when its source faults part-way is not stated; DESIGN CHOICE: the source is read before the first packet leaves, so that nothing has (R121;
log entry 172). DESIGN CHOICE: a piece whose offset passes 2^40 - 1 has its low 40 bits in the header's field (R262; log entry 182). -/
def State.mStart1 (s : State) (n : Nat) (m : MOp) (e : Option Ecc) : Option State :=
  let p := s.slotPart n m.slot
  let gen := s.slotGen n m.slot
  let len := m.l.toNat
  let src := s.readAt n m.slot m.s.toNat
  let rp := s.slotReplay n m.slot
  if fOp m.w ≠ 0 && (fOp m.w ≠ 2 || rp) && s.mBehind n m.id (s.mRanges n m) then none
  else if mNeedsEcc m && e.isNone then none
  else match fOp m.w with
  | 1 =>
    let r := s.access (.dma n) p src len false
    if r.waits then none
    else if r ≠ .ok then some (((s.noteAcc p r).countBad p src len).mFault n { m with phase := .started } (accFault r) (accInfo r m.s.toNat))
    else
      let x := s.readSeen (e.getD (.ok 0)) p src len
      if x.2 then some (x.1.mFault n { m with phase := .started } 0x0B 0)
      else if rp then some (x.1.mLeft n m.id 0)
      else
      let o := bits 39 0 m.d1.toNat
      let cuts := cut256 (len / 256 + 2) o len
      let s := (x.1.mLeft n m.id cuts.length).addAct n 3 len
      some (cuts.foldl (fun s c =>
        s.request (.mop n m.id)
          { Pkt.req 0 (gaCoord m.d) (gaPart m.d) p gen (s.rdRange p (src + (c.1 - o)) c.2) with
            win := gaWin m.d, offset := c.1 % 2 ^ 40, ce := oRCE m.w, rcore := if oRCE m.w then oRCORE m.w else 0,
            rcnt := if oRCE m.w then oRCNT m.w else 0 }) s)
  | 2 =>
    if rp then
      let r := if s.ownWindow n m.d.toNat then s.access (.dma n) p m.d.toNat len true else .ok
      if r.waits then none
      else if r ≠ .ok then some ((s.noteAcc p r).mFault n { m with phase := .started } (accFault r) (accInfo r m.d.toNat))
      else
        let s := if s.ownWindow n m.d.toNat then s.put m.d.toNat (List.replicate len 0) else s
        some (s.mLeft n m.id 0)
    else
    let o := bits 39 0 m.s1.toNat
    let cuts := cut256 (len / 256 + 2) o len
    let s := s.mLeft n m.id cuts.length
    some (cuts.foldl (fun s c =>
      s.request (.get n m.id (m.d.toNat + (c.1 - o)))
        { Pkt.req 1 (gaCoord m.s) (gaPart m.s) p gen [] with
          len := c.2, win := gaWin m.s, offset := c.1 % 2 ^ 40, ce := oRCE m.w, rcore := if oRCE m.w then oRCORE m.w else 0,
          rcnt := if oRCE m.w then oRCNT m.w else 0 }) s)
  | 4 =>
    if rp then some (s.mLeft n m.id 0) else
    let s := s.mLeft n m.id 1
    some (s.request (.mop n m.id)
      { Pkt.req 4 (gaCoord m.d) (gaPart m.d) p gen (leBytes 8 m.l.toNat) with rcore := oRCORE m.w, rcnt := oRCNT m.w })
  | 5 =>
    if rp then some (s.mLeft n m.id 0) else
    let r := s.access (.dma n) p m.s.toNat 64 false
    if r.waits then none
    else if r ≠ .ok then some (((s.noteAcc p r).countBad p m.s.toNat 64).mFault n m (accFault r) m.s.toNat)
    else
      let c := leNat (s.rdRange p m.s.toNat 64)
      let x := s.readSeen (e.getD (.ok 0)) p m.s.toNat 64
      if x.2 then some (x.1.mFault n m 0x0B 0)
      else if s.enginesFree p c then some ((x.1.mLeft n m.id 1).pushCmd (.core n m.id) p ((s.core n).slot m.slot).launch.seed.toNat c)
      else none
  | _ => some (s.mLeft n m.id 0)

/-- Starts queued M-ops in order while fewer than 64 execute; `pick` names the one whose read the event tells of (R86, R114). -/
def State.mStart (pick : Option (Nat × Ecc)) : Nat → State → Nat → State
  | 0, s, _ => s
  | k + 1, s, n =>
    let c := s.core n
    if (c.mops.filter (fun m => m.phase != .queued)).length ≥ 64 then s
    else match c.mops.find? (fun m => m.phase == .queued) with
    | none => s
    | some m => match s.mStart1 n m ((pick.filter (fun e => e.1 == m.id)).map (·.2)) with
      | none => s
      | some s => State.mStart pick k (s.updMop n m.id (fun x => { x with phase := .started })) n

/-- Issues an M-op into the queue of 32: its register values are read now, and a full queue stalls (R86, R91, R114). `ecc` is what its read
finds where it starts at once. -/
def mIssue (n : Fin 288) (op : Nat) (ecc : Ecc) (s : State) : Host.Outcome State Fault Refusal :=
  issue s n 2 op (fun k w =>
    let c := s.core n
    let pair := fun (r : Nat) => if r = 31 then (0 : Word) else s.sreg n k (r + 1)
    let m : MOp := ⟨c.nextM, k, w, s.sreg n k (oSD w), pair (oSD w), s.sreg n k (oSS w), pair (oSS w), s.sreg n k (oSL w),
      .queued, 0, 0, 0⟩
    match mIssueFault op w m with
    | some (code, info) => s.syncFault n k w code info
    | none =>
      if (c.mops.filter (fun m => m.phase == .queued)).length ≥ 32 then s
      else
        let s := s.setCore n { c with mops := c.mops ++ [m], nextM := c.nextM + 1 }
        State.mStart (some (m.id, ecc)) 33 (s.retire n k w) n)

/-- DMA.CP: copy sL bytes from local address sS to local address sD (R111). -/
def execDmaCp (core : Fin 288) (s : State) : Host.Outcome State Fault Refusal := mIssue core 0 (.ok 0) s

/-- RPUT: copy sL bytes from local address sS to the global address in sD, sD+1; `ecc` is what the check bits of its source show where it
starts at once (R111, R162, R264). -/
def execRput (core : Fin 288) (ecc : Ecc) (s : State) : Host.Outcome State Fault Refusal := mIssue core 1 ecc s

/-- RGET: copy sL bytes from the global address in sS, sS+1 to local address sD (R111, R264). -/
def execRget (core : Fin 288) (s : State) : Host.Outcome State Fault Refusal := mIssue core 2 (.ok 0) s

/-- CSIG: add sL to counter RCNT of core RCORE of this module (R111, R112). -/
def execCsig (core : Fin 288) (s : State) : Host.Outcome State Fault Refusal := mIssue core 3 (.ok 0) s

/-- RSIG: add sL to counter RCNT of core RCORE on the module and partition in sD (R111, R112). -/
def execRsig (core : Fin 288) (s : State) : Host.Outcome State Fault Refusal := mIssue core 4 (.ok 0) s

/-- TBL: issue the table command held in the 64 bytes at local address sS; `ecc` is what their check bits show where it starts at once (R111,
R162, R184). -/
def execTbl (core : Fin 288) (ecc : Ecc) (s : State) : Host.Outcome State Fault Refusal := mIssue core 5 ecc s

/-! ### Completion -/

/-- Whether a range lies in scratchpads. -/
def State.inSpad (s : State) (a len : Nat) : Bool := (s.spadBytes a len).length == len

/-- A copy that faults keeps a prefix of its bytes: any number up to the first byte that faults, which the manual does
not state; where an uncorrectable word ends it, that may be any of its bytes (R121; log entry 4). A prefix for which a ledger slice has no room is not
written. -/
def State.copyPrefix (s : State) (n slot p src dst len : Nat) : State :=
  let bad := (List.range len).find? (fun i =>
    s.access (.dma n) p (src + i) 1 false != .ok || s.access (.dma n) p (dst + i) 1 true != .ok)
  let f := s.freeVal 24
  let k := f.1 % (bad.getD (len - 1) + 1)
  if s.slotReplay n slot && !s.ownWindow n dst then s
  else if f.2.access (.dma n) p dst k true != .ok then f.2
  else (f.2.put dst (f.2.rdRange p src k)).addAct n 3 k

/-- The access of a DMA.CP to its destination; in replay mode only its reach counts (R386). -/
def State.dmaDst (s : State) (n : Nat) (m : MOp) : Acc :=
  let p := s.slotPart n m.slot
  if s.discards n m.slot m.d.toNat then (match s.reachAll p m.d.toNat m.l.toNat true with
      | .ok => Acc.ok
      | .address => .address
      | .isolation => .isolation) else s.access (.dma n) p m.d.toNat m.l.toNat true

/-- Whether a DMA.CP writes a BANK.CTRL: 8 aligned bytes from a scratchpad (R154). -/
def State.dmaCtl (s : State) (m : MOp) : Bool :=
  match s.region m.d.toNat with
  | .coreCtl _ o => isBankCtrl o && m.l.toNat = 8 && o % 8 = 0 && s.inSpad m.s.toNat 8
  | _ => false

/-- Whether a DMA.CP to core control space is no write of a BANK.CTRL. -/
def State.dmaCtlBad (s : State) (m : MOp) : Bool :=
  m.l.toNat > 0 && (match s.region m.d.toNat with | .coreCtl _ _ => !s.dmaCtl m | _ => false)

/-- What the check bits show a DMA.CP: `ecc` in its reads, and `dest` in the granules and sectors that it writes in part; and whether one of
them cannot be corrected (R148, R162, R177). -/
def State.dmaSeen (s : State) (n : Nat) (m : MOp) (ecc dest : Ecc) : State × Bool :=
  let e := s.readSeen ecc (s.slotPart n m.slot) (s.readAt n m.slot m.s.toNat) m.l.toNat
  if e.2 || s.discards n m.slot m.d.toNat || s.dmaCtl m then e else e.1.eccSeen dest m.d.toNat m.l.toNat

/-- The copy of a DMA.CP (R111 to R113): its checks on both ranges, and its bytes. A fault part-way through a range reports the operand's
own address; R123 does not say which address of the range it is (DESIGN CHOICE, log entry 155). R154 has BANK.CTRL written as 8 bytes from
a scratchpad; DESIGN CHOICE: any other DMA.CP to it is an address fault (log entry 155). What a copy whose source and destination overlap
writes is not stated; DESIGN CHOICE: the whole source is read before the first byte is written (log entry 172). -/
def State.dmaCopy (s : State) (n : Nat) (m : MOp) (ecc dest : Ecc) : State :=
  let p := s.slotPart n m.slot
  let src := s.readAt n m.slot m.s.toNat
  let dst := m.d.toNat
  let len := m.l.toNat
  let r := s.access (.dma n) p src len false
  let w := s.dmaDst n m
  if r.waits || w.waits then (s.noteAcc p r).noteAcc p w
  else if r ≠ .ok then ((((s.noteAcc p r).countBad p src len).copyPrefix n m.slot p src dst len).mFault n m (accFault r) (accInfo r src)).dropMop n m.id
  else if w.drops then ((s.noteAcc p w).mFault n m 0x0A (accInfo w dst)).dropMop n m.id
  else if w ≠ .ok then ((((s.noteAcc p w).countBad p dst len).copyPrefix n m.slot p src dst len).mFault n m (accFault w) (accInfo w dst)).dropMop n m.id
  else if s.dmaCtlBad m then ((s.countAddress p).mFault n m 0x07 dst).dropMop n m.id
  else
    let x := s.dmaSeen n m ecc dest
    let t := x.1
    if x.2 then ((t.copyPrefix n m.slot p src dst len).mFault n m 0x0B 0).dropMop n m.id
    else if s.discards n m.slot dst then t.mDone n m len
    else if s.dmaCtl m then t
    else ((t.put dst (t.rdRange p src len)).addAct n 3 len).mDone n m len

/-- The cluster whose scratchpad, pool or control block an address names. -/
def State.clusterAt (s : State) (a : Nat) : Option Nat :=
  match s.region a with
  | .spad n _ | .istore n _ | .coreCtl n _ => some (clusterOf n)
  | .pool c _ => some c
  | _ => none

/-- Whether an M-op of a core cannot end for a sealed crossing on its way: its own core's; out of its cluster and back; into another
cluster, or to another core of its own (R57). -/
def State.mSealed (s : State) (n : Nat) (m : MOp) : Bool :=
  let c := clusterOf n
  let behind := fun (a : Nat) =>
    if s.clusterAt a = some c then (match s.region a with
      | .spad k _ | .istore k _ | .coreCtl k _ => s.coreSealed k
      | _ => false)
    else s.sealed c 19 || s.sealed c 18 || s.sealedAt a
  s.coreSealed n || (match fOp m.w with
  | 0 => m.l.toNat != 0 && (behind (s.readAt n m.slot m.s.toNat) || behind m.d.toNat)
  | 3 => clusterOf (oRCORE m.w) != c && (s.sealed c 19 || s.sealed (clusterOf (oRCORE m.w)) 17)
  | _ => false)

/-- M_OP_COMPLETE: the M-op with a number ends: a DMA.CP makes its copy; an RPUT or RGET whose replies are all in adds its
length; CSIG adds to its counter, or faults on a target outside the partition or in reset; RSIG adds 1. A queued M-op
that waited for its start tries again, and one that has faulted leaves (R93, R112 to R114). A copy to BANK.CTRL ends at
the bank instead (R156), and nothing ends behind a sealed crossing (R57). -/
def execMOpComplete (core : Fin 288) (id : Nat) (ecc dest : Ecc) (s : State) : Host.Outcome State Fault Refusal :=
  match s.mop? core id with
  | none => .next s
  | some m =>
    if m.phase = .queued then .next (State.mStart (some (id, ecc)) 33 s core)
    else if m.err ≠ 0 then
      (if m.left = 0 then .next (State.mStart none 33 (s.dropMop core id) core) else .next s)
    else if s.mSealed core m then .next s
    else
      let p := s.slotPart core m.slot
      match fOp m.w with
      | 0 => if s.mBehind core id (s.mRanges core m) then .next s else .next (State.mStart none 33 (s.dmaCopy core m ecc dest) core)
      | 3 =>
        let t := oRCORE m.w
        if !(s.part p).hasCluster (clusterOf t) then
          .next (State.mStart none 33 (((s.countIsolation p).mFault core m 0x0C 0).dropMop core id) core)
        else if s.slotReplay core m.slot && t ≠ core.val then .next (State.mStart none 33 (s.mDone core m 1) core)
        else if s.coreBlocked t then .next (State.mStart none 33 ((s.mFault core m 0x0A 0).dropMop core id) core)
        else .next (State.mStart none 33 ((s.addCnt t (oRCNT m.w) m.l).mDone core m 1) core)
      | 5 => if s.slotReplay core m.slot then .next (State.mStart none 33 (s.mDone core m 1) core) else .next s
      | op =>
        if m.left ≠ 0 then .next s
        else .next (State.mStart none 33 (s.mDone core m (if op = 4 then 1 else m.l.toNat)) core)

/-! ### Replies to an M-op's requests (R265, R275, R277) -/

/-- One of an M-op's requests has been answered. -/
def State.mAnswered (s : State) (n id : Nat) : State := s.updMop n id (fun x => { x with left := x.left - 1 })

/-- One of an M-op's requests has ended in a fault (R265): the information is the offset for a window fault (R123). -/
def State.mReqFault (s : State) (n id code : Nat) (pkt : Pkt) : State :=
  match s.mop? n id with
  | none => s
  | some m =>
    let s := s.mAnswered n id
    if m.err ≠ 0 then s else s.mFault n { m with left := m.left - 1 } code (if code = 8 then pkt.offset else 0)

/-- The bytes of an RGET's piece arrive: they are written to local memory, or the M-op faults, over a granule or a sector that the piece
leaves part of and that cannot be corrected too (R148, R162, R177); an error where the write has to wait, behind an earlier access of the core's DMA to its sectors too (R32, R111, R121). A fault reports the piece's own address
(DESIGN CHOICE, log entry 155). -/
def State.getArrives (s : State) (n id dst : Nat) (bs : List Byte) (ecc : Ecc) : Except (Nat × Acc) State :=
  match s.mop? n id with
  | none => .ok s
  | some m =>
    let p := s.slotPart n m.slot
    let w := s.access (.dma n) p dst bs.length true
    if w.waits then .error (p, w)
    else if s.mBehind n id (s.plain p dst bs.length) then .error (p, .wait)
    else
      let ctl := (List.range bs.length).any (fun i => match s.region (dst + i) with | .coreCtl _ _ => true | _ => false)
      let s := s.mAnswered n id
      if w ≠ .ok then
        let s := (s.noteAcc p w).countBad p dst bs.length
        .ok (if m.err ≠ 0 then s else s.mFault n { m with left := m.left - 1 } (accFault w) (accInfo w dst))
      else if ctl then .ok (if m.err ≠ 0 then s else (s.countAddress p).mFault n m 0x07 dst)
      else
        let e := s.eccSeen ecc dst bs.length
        if e.2 then .ok (if m.err ≠ 0 then e.1 else e.1.mFault n { m with left := m.left - 1 } 0x0B 0)
        else .ok ((e.1.put dst bs).addAct n 3 bs.length)

end Sys2Proof.Machine
end

