-- ==== Sys2Proof/Machine/Bank.lean ====
section
/-! DEFINITION. Bank ownership and power (R153 to R158, R163, R164), collisions (R160) and the March engines (R166 to R171). -/
namespace Sys2Proof.Machine

/-- Whether a March test runs on a bank (R165). -/
def Core.testing (c : Core) (b : Nat) : Bool := c.march.any (fun m => m.bank == b)

/-- Writes a bank of a core. -/
def State.setBank (s : State) (n b : Nat) (x : Bank) : State := s.setCore n ((s.core n).setBank b x)

/-- The fields of BANK.CTRL (R154). -/
def bOwner (v : Word) : Nat := bits 2 0 v.toNat
def bNbr (v : Word) : Nat := bits 7 4 v.toNat
def bPwr (v : Word) : Nat := bits 11 10 v.toNat

def pwrOf (k : Nat) : Pwr := if k = 1 then .dim else if k = 2 then .dark else .lit

/-- The bank's current owner agent is the writer (R153). -/
def Bank.ownedBy (x : Bank) (home : Nat) (who : BankReq) : Bool :=
  match who with
  | .dma c _ =>
    if x.owner = 1 then c.val / 12 == home / 12 && c.val % 12 == x.nbr else x.owner != 4 && c.val == home
  | .host _ => x.owner == 4

/-- A well-formed write (R155). -/
def Bank.wellFormed (x : Bank) (home : Nat) (v : Word) : Bool :=
  decide (bOwner v ≤ 4) && (bOwner v == 1 || bNbr v == 0) &&
  (bOwner v != 1 || (decide (bNbr v < 12) && bNbr v != home % 12)) &&
  bPwr v != 3 && !(bPwr v == 1 && x.pwr == .dark)

/-- A write completes to its requester: a DMA.CP counts its 8 bytes (R93, R156). -/
def State.bankWritten (s : State) (who : BankReq) : State :=
  match who with
  | .dma c id => match s.mop? c.val id with
    | some m => (s.addAct c.val 3 8).mDone c.val m 8
    | none => s
  | .host _ => s

/-- A write is taken at a bank: it sets out for its handover point, or is ignored and counted (R155, R156). -/
def State.bankTake (s : State) (n b : Nat) (w : BankWrite) : State :=
  let x := (s.core n).bankOf b
  if x.ownedBy n w.who && x.wellFormed n w.v then s.setBank n b { x with moving := some w }
  else (s.odInc 0x8809 0).bankWritten w.who

/-- A write reaches a bank: it is held behind an earlier write, or while a test runs on the bank (R156, R169). -/
def State.bankWrite (s : State) (n b : Nat) (w : BankWrite) : State :=
  let x := (s.core n).bankOf b
  let s := match w.who with
    | .dma c id => s.updMop c.val id (fun m => { m with phase := .handover })
    | .host _ => s
  if x.moving.isSome || (s.core n).testing b then s.setBank n b { x with held := x.held ++ [w] } else s.bankTake n b w

/-- Takes held writes in arrival order until one sets out (R156); while a test runs on the bank they stay held (R169). -/
def State.bankHeldGo : Nat → State → Nat → Nat → State
  | 0, s, _, _ => s
  | k + 1, s, n, b =>
    let x := (s.core n).bankOf b
    match (if (s.core n).testing b then [] else x.held), x.moving with
    | w :: rest, none => State.bankHeldGo k ((s.setBank n b { x with held := rest }).bankTake n b w) n b
    | _, _ => s

/-- The bank's bytes of a scratchpad are zero (R164, R167). -/
def State.bankZero (s : State) (n b : Nat) : State :=
  { s with mem := s.mem.filter (fun c =>
      !(decide (spadBase n ≤ c.1) && decide (c.1 < spadBase n + 0x30_0000) && bankNo (c.1 - spadBase n) == b)) }

/-- The local address of BANK.CTRL of a bank (R154). -/
def bankCtrlAddr (n b : Nat) : Nat := 0x200_0000_0000 + n * 0x10_0000 + 0x2_0000 + b * 0x10

/-- BANK_CTRL_WRITE: an 8-byte write reaches a bank. A core's DMA writes the value its DMA.CP carries from its source, and a
host function the value given, when it serves a partition that holds the core; neither reaches a bank behind a sealed crossing (R57, R154,
R155, R206). -/
def execBankCtrlWrite (core : Fin 288) (bank : Fin 32) (who : BankReq) (value : Word) (s : State) :
    Host.Outcome State Fault Refusal :=
  match who with
  | .dma c id =>
    match s.mop? c.val id with
    | none => .next s
    | some m =>
      let p := s.slotPart c.val m.slot
      let src := s.readAt c.val m.slot m.s.toNat
      if !s.discards c.val m.slot m.d.toNat && !s.mSealed c.val m && fOp m.w = 0 && m.phase = .started && m.err = 0 && m.l.toNat = 8 && m.d.toNat = bankCtrlAddr core.val bank.val &&
          s.inSpad m.s.toNat 8 && !s.mBehind c.val id (s.mRanges c.val m) && s.access (.dma c.val) p src 8 false = .ok && s.reachAll p m.d.toNat 8 true = .ok &&
          value.toNat = leNat (s.rdRange p src 8) then
        .next (s.bankWrite core.val bank.val ⟨who, value⟩)
      else .next s
  | .host fn =>
    if (List.range 16).any (fun p => s.serving p == fn.val && (s.part p).hasCluster (clusterOf core.val)) &&
        !s.clusterDown (clusterOf core.val) && !s.sealedAt (bankCtrlAddr core.val bank.val) then
      .next (s.bankWrite core.val bank.val ⟨who, value⟩)
    else .next s

/-- Whether the vector engine's running VSCADD holds a bank (R134, R156). -/
def Core.scatters (c : Core) (b : Nat) : Bool :=
  match c.vRun with
  | some q => fGrp q.w == 3 && fOp q.w == 0x06 &&
      (vTouched (c.slot q.slot) q).any (fun l => l.2.any (fun o => bankNo o == b))
  | none => false

/-- HANDOVER_POINT: the accepted write of a bank takes effect, its requester's write completes, and the writes held behind it
are taken. A bank that leaves Dark holds zeros (R156, R163, R164). -/
def execHandoverPoint (core : Fin 288) (bank : Fin 32) (s : State) : Host.Outcome State Fault Refusal :=
  let x := (s.core core.val).bankOf bank.val
  match x.moving with
  | none => .next s
  | some w =>
    if (s.core core.val).scatters bank.val then .next s
    else
      let s := if x.pwr = .dark && pwrOf (bPwr w.v) = .lit then s.bankZero core.val bank.val else s
      let s := s.setBank core.val bank.val
        { x with owner := bOwner w.v, nbr := bNbr w.v, pwr := pwrOf (bPwr w.v), moving := none }
      .next (State.bankHeldGo (x.held.length + 1) (s.bankWritten w.who) core.val bank.val)

/-- COLLISION: a non-processor read of a class, in the bit order of SPAD.COLL, collides with a processor write: its flag is
set, it is counted, and the word is read again. The Sepia return class never reads (R160, R161). -/
def execCollision (core : Fin 288) (cls : Fin 5) (s : State) : Host.Outcome State Fault Refusal :=
  if cls.val = 3 || s.clusterDown (clusterOf core.val) then .next s
  else
    let c := s.core core.val
    .next ((s.setCore core.val { c with coll := withBit cls.val true c.coll }).odInc 0x8808 (cls.val + 1))

/-! ### March tests -/

/-- The operations of a March element (R166). -/
inductive MarchOp where
  | r0 | r1 | w0 | w1
  deriving DecidableEq, Repr

/-- A March element: descending row order or ascending, and its operations on a row. An element that R166 lets run in either order
runs in ascending order here (DESIGN CHOICE, log entry 158). -/
structure MarchElem where
  down : Bool
  ops : List MarchOp
  deriving DecidableEq, Repr

/-- March C-, and March SS (R166). -/
def marchElems (alg : Nat) : List MarchElem :=
  if alg = 0 then
    [⟨false, [.w0]⟩, ⟨false, [.r0, .w1]⟩, ⟨false, [.r1, .w0]⟩, ⟨true, [.r0, .w1]⟩, ⟨true, [.r1, .w0]⟩, ⟨false, [.r0]⟩]
  else
    [⟨false, [.w0]⟩, ⟨false, [.r0, .r0, .w0, .r0, .w1]⟩, ⟨false, [.r1, .r1, .w1, .r1, .w0]⟩,
     ⟨true, [.r0, .r0, .w0, .r0, .w1]⟩, ⟨true, [.r1, .r1, .w1, .r1, .w0]⟩, ⟨false, [.r0]⟩]

/-- The operations that a test makes on one row: both backgrounds, and in preserving mode a prediction pass before the test pass (R166 to
R168). -/
def marchOps (alg : Nat) (destroy : Bool) : Nat :=
  2 * ((marchElems alg).map (fun e => e.ops.length)).sum * (if destroy then 1 else 2)

/-- The core cycles of a test of one bank with a number of rows (R168, R171). -/
def marchCycles (alg : Nat) (destroy : Bool) (rows : Nat) : Nat := marchOps alg destroy * rows

/-- What w0 writes in a row in destroying mode: zeros, or the checkerboard, in which every second bit is inverted and every second row
is the inverse of its neighbours; which bit comes first is not stated (R166; DESIGN CHOICE, log entry 158). -/
def marchZero (checker : Bool) (row : Nat) : BitVec 288 :=
  if !checker then 0
  else BitVec.ofNat 288 ((List.range 288).foldl (fun n i => n + (i + row) % 2 * 2 ^ i) 0)

/-- What a row holds, with its check bits (R162). -/
def State.rowWord (s : State) (base bank row : Nat) : BitVec 288 :=
  let d := leNat (s.rdN (base + row * 1024 + bank * 32) 32)
  BitVec.ofNat 288 (d + Config.checkBits d % 2 ^ 32 * 2 ^ 256)

/-- What a read of the algorithm has to return: the background or its inverse; in preserving mode the present word or its inverse. `none`
where the algorithm has no read there (R166, R167). -/
def State.marchExpect (s : State) (alg : Nat) (destroy : Bool) (base rows : Nat) (r : MarchRead) : Option (BitVec 288) :=
  let z := if destroy then marchZero r.checker r.row.val else s.rowWord base r.bank.val r.row.val
  if r.row.val < rows then
    match ((marchElems alg)[r.elem.val]?).bind (fun e => e.ops[r.op.val]?) with
    | some .r0 => some z
    | some .r1 => some (~~~z)
    | _ => none
  else none

/-- When the engine makes a read, counted in operations from its test's start: bank by bank, the solid background first (R166, R168). -/
def marchWhen (alg rows : Nat) (r : MarchRead) : Nat :=
  let es := marchElems alg
  let before := ((es.take r.elem.val).map (fun e => e.ops.length)).sum
  let e := es.getD r.elem.val ⟨false, []⟩
  let pos := if e.down then rows - 1 - r.row.val else r.row.val
  ((2 * r.bank.val + b2n r.checker) * (marchOps alg true / 2) + before) * rows + pos * e.ops.length + r.op.val

/-- The first read of a test that returns other than it has to (R166, R170). -/
def State.marchFirst (s : State) (alg : Nat) (destroy : Bool) (base rows : Nat) (reads : List MarchRead) : Option MarchRead :=
  (reads.filter (fun r => match s.marchExpect alg destroy base rows r with
    | some v => r.got != v
    | none => false)).foldl (fun a r => match a with
      | none => some r
      | some x => if marchWhen alg rows r < marchWhen alg rows x then some r else a) none

/-- The objects of a core's requests and results (R169, R170). -/
def marchReqObj (n : Nat) : Nat := if n < 144 then 0x8801 else 0x8802
def marchResObj (n : Nat) : Nat := if n < 144 then 0x8803 else 0x8804
def State.marchResult (s : State) (n st bank alg mode row : Nat) : State :=
  s.odSetN (marchResObj n) (n % 144 + 1) (st * 2 ^ 28 + bank * 2 ^ 23 + alg * 2 ^ 22 + mode * 2 ^ 21 + row * 2 ^ 9)

/-- The contents of a bank are undefined: every byte is a free value (R170; log entry 4). -/
def State.bankFree (s : State) (n b : Nat) : State :=
  (List.range 3072).foldl (fun s r =>
    let f := s.freeVal 256
    f.2.wr (spadBase n + r * 1024 + b * 32) (leBytes 32 f.1)) s

/-- A core's engine takes the request last accepted, unless a test runs (R169, R172). What the bank holds while a destroying test runs is
a free value to whoever reads it (log entry 4). -/
def State.marchTake (s : State) (n : Nat) : State :=
  let i := marchReqObj n
  let k := n % 144 + 1
  if (s.core n).march.isSome then s
  else match s.odPending i k with
  | none => s
  | some _ =>
    let s := s.odApply i k
    let v := s.odNum i k
    if !bit 7 v then s
    else
      let b := bits 4 0 v
      let alg := bits 5 5 v
      let destroy := bit 6 v
      let c := s.core n
      let x := c.bankOf b
      if !x.isLit || (destroy && ((List.range 4).any (fun k => (c.slot k).st != .empty) || x.owner != 0)) then
        s.marchResult n 4 b alg (b2n destroy) 0
      else
        let s := if destroy then s.bankFree n b else s
        (s.setCore n { s.core n with march := some ⟨b, alg, destroy, false, none⟩ }).marchResult n 1 b alg (b2n destroy) 0

/-- MARCH_REQUEST's action once the object is written; reserved bits are ignored (R7, R169). -/
def State.marchRequest (s : State) (n v : Nat) : State :=
  (s.odAccept (marchReqObj n) (n % 144 + 1) (.num (v % 256))).marchTake n

/-- OD 0x2100 of a cluster follows its marks in effect and its pool's failure (R404), and with it AC.CLUSTER (R26). -/
def mapWord (marks : Nat) (pool : Bool) : Nat :=
  let k := popCount 13 marks
  let ex := if pool || k ≥ 2 then 0xF else (bitList 13 marks).headD 12
  b2n pool * 2 ^ 31 + ex * 2 ^ 16 + marks % 2 ^ 13
def State.clusterAmber (s : State) : State := s.amber 3 ((List.range 24).any s.clusterDown)

/-- Marks in effect change: the map, the Amber cause, and the fault record of a cluster that becomes unavailable (R26, R371). -/
def State.setMap (s : State) (c marks : Nat) (pool : Bool) : State :=
  let was := s.clusterDown c
  let s := (s.odSetN 0x2100 (c + 1) (mapWord marks pool)).clusterAmber
  if s.clusterDown c && !was then s.faultRecord 0x0D 1 2 c none false 0 else s

/-- AC.BANK stands while a scratchpad bank has failed (R170, R406). -/
def State.bankAmber (s : State) : State :=
  s.amber 5 (s.cores.any (fun e => e.2.bank.any (fun b => b.2.failed)))

/-- A bank fails: it is held not Lit, with its fault record (R170, R371). BANK.STAT then shows Dark (DEDUCED, log entry 31). -/
def State.bankFail (s : State) (n b : Nat) : State :=
  let x := (s.core n).bankOf b
  ((s.setBank n b { x with failed := true }).bankAmber).faultRecord 0x09 1 1 n none false b

/-- GP.MARCH: the bring-up tests of the scratchpads and pools have all ended (R402). -/
def State.marchProgress (s : State) : State :=
  if s.life.begun && !s.cores.any (fun e => e.2.march.any (·.bringup)) &&
     !(List.range 24).any (fun c => bits 31 28 (s.odNum 0x8805 (c + 1)) == 1) then
    s.odSetN 0x2003 0 (withBit 5 true (s.odNum 0x2003 0))
  else s

/-- A test marks a core's position defective, in the marks in force and in a value that waits for them (R170, R403, R404). -/
def State.markDefect (s : State) (n : Nat) : State :=
  let k := clusterOf n + 1
  let s := match s.odPending 0x2101 k with
    | some (.num v) => s.odAccept 0x2101 k (.num (withBit (s.physOf n) true v))
    | _ => s
  s.odSetN 0x2101 k (withBit (s.physOf n) true (s.odNum 0x2101 k))

/-- MARCH_TEST_END: a core's engine ends the test of one bank, whose reads returned what the list says and what they had to everywhere
else. The bring-up test goes on to the next bank, and after bank 31 reports the first failing bank, or 31. A requested test reports its bank;
a destroying test leaves zeros, and a failing preserving test undefined contents. A failing position is marked defective. Writes held at the
bank and a request that waited are then taken (R166 to R170, R403). -/
def execMarchTestEnd (core : Fin 288) (reads : List MarchRead) (s : State) : Host.Outcome State Fault Refusal :=
  let n := core.val
  match (s.core n).march with
  | none => .next s
  | some m =>
    let b := m.bank
    let bad := s.marchFirst m.alg m.destroy (spadBase n) 3072 (reads.filter (fun r => r.bank.val == b))
    let first := match m.first with
      | some f => some f
      | none => bad.map (fun r => (b, r.row.val))
    let more := m.bringup && decide (b < 31)
    let s := s.setCore n { s.core n with march := if more then some { m with bank := b + 1, first := first } else none }
    let s := if more then s.marchResult n 1 (b + 1) m.alg 1 0
      else match first with
        | none => s.marchResult n 2 b m.alg (b2n m.destroy) 0
        | some f => s.marchResult n 3 f.1 m.alg (b2n m.destroy) f.2
    let s := if m.destroy then s.bankZero n b else if bad.isSome then s.bankFree n b else s
    let s := if bad.isNone then s
      else (s.bankFail n b).markDefect n
    let s := State.bankHeldGo (((s.core n).bankOf b).held.length + 1) s n b
    .next ((if m.bringup then s.marchProgress else s).marchTake n)

/-- The result of a pool's test (R171). -/
def poolResult (st bank alg row : Nat) : Nat := st * 2 ^ 28 + bank * 2 ^ 23 + alg * 2 ^ 22 + row * 2 ^ 9

/-- The bank of a pool under test: the tests of all pools started together, and a bank takes its operations, one in each core cycle (R168,
R171). DEDUCED: by the core clock now in force, which does not change while the module is Grey (log entry 173). -/
def State.poolBank (s : State) : Nat :=
  min 31 ((s.now - s.life.marchAt) * s.clk.coreMHz / 1000 / marchCycles (s.odNum 0x8800 0) true 8192)

/-- A reset cuts off a pool's running test, which reports the bank that it had reached (R171). What the pool then holds is not stated; DESIGN
CHOICE: its bytes stay as they were (log entry 173). -/
def State.poolAbandon (s : State) (c : Nat) : State :=
  if bits 31 28 (s.odNum 0x8805 (c + 1)) ≠ 1 then s
  else s.odSetN 0x8805 (c + 1) (poolResult 5 s.poolBank (s.odNum 0x8800 0) 0)

/-- POOL_MARCH_END: a pool's running bring-up test of its 32 banks ends, whose reads returned what the list says and what they had to
everywhere else; the pool then holds zeros, and a pool that fails makes its cluster unavailable. The engine reports the failure of a pool whose
cluster was unavailable already too (R26, R166, R171). -/
def execPoolMarchEnd (cluster : Fin 24) (reads : List MarchRead) (s : State) : Host.Outcome State Fault Refusal :=
  let c := cluster.val
  if bits 31 28 (s.odNum 0x8805 (c + 1)) ≠ 1 then .next s
  else
    let alg := s.odNum 0x8800 0
    let bad := s.marchFirst alg true (poolBase c) 8192 reads
    let s := (s.odSetN 0x8805 (c + 1) (match bad with
      | none => poolResult 2 31 alg 0
      | some r => poolResult 3 r.bank.val alg r.row.val)).zero (poolBase c) 0x80_0000
    let t := s.setMap c (bits 12 0 (s.odNum 0x2100 (c + 1))) true
    .next (if bad.isNone then s else if s.clusterDown c then t.faultRecord 0x0D 1 2 c none false 0 else t).marchProgress

end Sys2Proof.Machine
end

