-- ==== Sys2Proof/Machine/SepiaOps.lean ====
section
/-! DEFINITION. The table commands' fields, checks and arithmetic (R182 to R191). -/
namespace Sys2Proof.Machine

/-! ### Fields of a command and of its table descriptor (R182, R185) -/

def cmOp (c : Nat) : Nat := bits 511 504 c
def cmMode (c : Nat) : Nat := bits 503 496 c
def cmOfmt (c : Nat) : Nat := bits 495 491 c
def cmRnd (c : Nat) : Nat := bits 490 489 c
def cmSat (c : Nat) : Bool := bit 488 c
def cmGlob (c : Nat) : Bool := bit 487 c
def cmRce (c : Nat) : Bool := bit 486 c
def cmRcore (c : Nat) : Nat := bits 485 477 c
def cmRcnt (c : Nat) : Nat := bits 476 471 c
def cmIndex (c : Nat) : Nat := bits 447 384 c
def cmTensor (c : Nat) : Nat := bits 383 352 c
def cmTable (c : Nat) : Nat := bits 351 224 c
def cmSrc (c : Nat) : Nat := bits 223 180 c
def cmDst (c : Nat) : Nat := bits 179 136 c
def cmDstG (c : Nat) : Nat := bits 135 106 c
def cmAux (c : Nat) : Nat := bits 105 62 c
def cmCount (c : Nat) : Nat := bits 61 32 c
def cmBags (c : Nat) : Nat := bits 31 8 c

def tbBase (t : Nat) : Nat := bits 127 88 t
def tbRb (t : Nat) : Nat := (bits 87 80 t + 1) * 64
def tbRows (t : Nat) : Nat := bits 79 48 t
def tbFmt (t : Nat) : Nat := bits 47 43 t
def tbStripe (t : Nat) : Bool := bit 42 t
def tbElems (t : Nat) : Nat := bits 41 27 t

/-- The element format of a table: codes 0x00 to 0x04, 0x08 and 0x09 (R182). -/
def tbFormat (t : Nat) : Option Fmt :=
  if tbFmt t ≤ 4 || tbFmt t = 8 || tbFmt t = 9 then fmtOf (tbFmt t) else none

/-- Bytes of a table's element. -/
def fmtBytes (f : Fmt) : Nat := f.w / 8

/-- The address of a row (R183). -/
def tbRow (t r : Nat) : Nat :=
  if tbStripe t then r % 16 * stackSize + tbBase t + r / 16 * tbRb t else tbBase t + r * tbRb t

/-- The stack of a row. -/
def tbStack (t r : Nat) : Nat := if tbStripe t then r % 16 else stackOf (tbBase t)

/-- A valid descriptor (R183), with the ranges of R182. -/
def tbValid (t : Nat) : Bool :=
  bits 26 0 t == 0 && tbBase t % 64 == 0 && decide (1 ≤ tbRows t) && decide (1 ≤ tbElems t) &&
  decide (tbElems t ≤ 16384) &&
  (match tbFormat t with
    | none => false
    | some f => decide (tbElems t * f.w ≤ tbRb t * 8)) &&
  (if tbStripe t then decide (tbBase t + (tbRows t + 15) / 16 * tbRb t ≤ stackSize)
   else decide (stackOf (tbBase t) < 16) &&
     stackOf (tbBase t) == stackOf (tbBase t + tbRows t * tbRb t - 1))

/-- The address ranges that a table's extent covers. -/
def tbExtent (t : Nat) : List (Nat × Nat) :=
  if tbStripe t then (List.range 16).map (fun k => (k * stackSize + tbBase t, (tbRows t + 15 - k) / 16 * tbRb t))
  else [(tbBase t, tbRows t * tbRb t)]

/-- `Pitch` of R189. -/
def pitch (n w : Nat) : Nat := (n * w + 255) / 256 * 32

/-- Progress units of a command (R191): entries, bags or sectors. -/
def cmUnits (c : Nat) : Nat := if cmOp c = 2 then cmBags c else cmCount c

/-- Where the state begins in a row, and the bytes of a row that ROW_UPDATE writes (R191). -/
def stateAt (t : Nat) : Nat :=
  match tbFormat t with
  | some f => (tbElems t * f.w / 8 + 3) / 4 * 4
  | none => 0
def updBytes (t mode : Nat) : Nat :=
  match mode with
  | 0 => match tbFormat t with | some f => tbElems t * fmtBytes f | none => 0
  | 1 => stateAt t + 4 * tbElems t
  | 2 => stateAt t + 4
  | _ => stateAt t + 4 * tbElems t + 4

/-! ### The checks of R188 -/

/-- The rounding mode of a command into a format: 0b11 is reserved, and RTZ rounds to integers only (R71). -/
def cmRound (c : Nat) (f : Fmt) : Option Rnd := rndFor (cmRnd c) f

/-- The conditions of a command's own section (R189). -/
def State.cmOwn (s : State) (p c : Nat) : Bool :=
  let t := cmTable c
  let m := cmMode c
  let o := cmOfmt c
  let rounds := fun (k : Nat) => match fmtOf k with
    | some f => (cmRound c f).isSome
    | none => false
  match cmOp c with
  | 1 => m == 0 && (o == tbFmt t || o == 0 || o == 2) && rounds o
  | 2 => decide (m % 4 < 3) && decide (m < 8) && decide (tbFmt t ≤ 4) && rounds o &&
      (o == 0 || o == 2 || (o == 16 && m == 4))
  | 3 => (m == 0 || m == 4) &&
      ((decide (tbFmt t ≤ 4) && rounds (tbFmt t)) || (tbFmt t == 9 && m == 0))
  | 4 => decide (m < 4) && decide (tbFmt t ≤ 2) && rounds (tbFmt t) && decide (updBytes t m ≤ tbRb t)
  | 5 => m == 0 && cmSrc c % 64 == 0 && (!cmGlob c && cmDst c % 64 == 0 || cmGlob c && cmDst c % 64 == 0) &&
      (cmCount c == 0 || ((s.stackAt p (cmSrc c)).isSome &&
        s.stackAt p (cmSrc c) == s.stackAt p (cmSrc c + 64 * cmCount c - 1)))
  | 6 => m == 0 && cmDst c % 64 == 0 &&
      (cmCount c == 0 || (decide (cmDst c + 64 * cmCount c ≤ 16 * stackSize) &&
        stackOf (cmDst c) == stackOf (cmDst c + 64 * cmCount c - 1)))
  | _ => false

/-- The command as a whole is well formed (R188, R189). -/
def State.cmFormed (s : State) (p c : Nat) : Bool :=
  let op := cmOp c
  decide (1 ≤ op) && decide (op ≤ 6) && bits 470 448 c == 0 && bits 7 0 c == 0 && cmRnd c != 3 &&
  (!cmRce c || decide (cmRcore c < 288)) && (op == 2 || cmBags c == 0) &&
  (if cmGlob c then (op == 1 || op == 2 || op == 5) && decide (cmDst c < 2 ^ 40) else cmDstG c == 0) &&
  (if op ≥ 5 then cmTable c == 0 else tbValid (cmTable c)) && s.cmOwn p c

/-- Bytes of a destination row: its elements, and the distance from row to row (R189). -/
def outWidth (c : Nat) : Nat := match fmtOf (cmOfmt c) with | some f => f.w | none => 0
def outBytes (c : Nat) : Nat := tbElems (cmTable c) * outWidth c / 8
def outPitch (c : Nat) : Nat := pitch (tbElems (cmTable c)) (outWidth c)

/-- A span of `n` rows. -/
def spanOf (a n step len : Nat) : Nat × Nat := (a, if n = 0 then 0 else (n - 1) * step + len)

/-- The ranges that a command reads, and the local ones that it writes (R188). -/
def cmReads (c : Nat) : List (Nat × Nat) :=
  let n := cmCount c
  let g := pitch (tbElems (cmTable c)) 32
  match cmOp c with
  | 1 => (cmSrc c, 4 * n) :: tbExtent (cmTable c)
  | 2 => (cmSrc c, 4 * n) :: (cmAux c, 4 * (cmBags c + 1)) :: tbExtent (cmTable c)
  | 3 => [(cmAux c, 4 * n), spanOf (cmSrc c) n g (4 * tbElems (cmTable c))]
  | 4 => [(cmAux c, 4 * n), spanOf (cmSrc c) n g (4 * tbElems (cmTable c)), (cmDst c, 64)]
  | 5 => [(cmSrc c, 64 * n)]
  | _ => []
def cmWrites (c : Nat) : List (Nat × Nat) :=
  match cmOp c with
  | 1 => if cmGlob c then [] else [spanOf (cmDst c) (cmCount c) (outPitch c) (outBytes c)]
  | 2 => if cmGlob c then [] else [spanOf (cmDst c) (cmBags c) (outPitch c) (outBytes c)]
  | 3 | 4 => tbExtent (cmTable c)
  | 5 => if cmGlob c then [] else [(cmDst c, 64 * cmCount c)]
  | _ => [(cmDst c, 64 * cmCount c)]

/-- The status of the check before memory is touched: 0, or DESCRIPTOR, ADDRESS or ISOLATION (R188). A global destination at the
coordinate 0xF_FFFF is refused at issue (R261); the status is not named: DESIGN CHOICE, ADDRESS, as R112 raises the address fault (log
entry 164). -/
def State.cmCheck (s : State) (p c : Nat) : Nat :=
  if !s.cmFormed p c then 2
  else
    let rs := (cmReads c).map (fun r => s.reachAll p r.1 r.2 false) ++ (cmWrites c).map (fun r => s.reachAll p r.1 r.2 true)
    if rs.any (· == .address) || (cmGlob c && cmDstG c % 2 ^ 20 == 0xF_FFFF) then 3
    else if rs.any (· == .isolation) || (cmRce c && !cmGlob c && !(s.part p).hasCluster (clusterOf (cmRcore c))) then 4
    else 0

/-! ### Index lists -/

/-- U32 words of an array as a partition reads them. -/
def State.words32 (s : State) (p a n : Nat) : List Nat := (List.range n).map (fun i => leNat (s.rdRange p (a + 4 * i) 4))

/-- The numbers of a list without repeats, in order of first appearance. -/
def distinct (l : List Nat) : List Nat := l.foldl (fun acc x => if acc.contains x then acc else acc ++ [x]) []

/-- The entries of an index list, each with its row if that is not a bad index. -/
def entries (t : Nat) (idx : List Nat) : List (Option Nat) := idx.map (fun r => if r < tbRows t then some r else none)

/-- The positions in a list that name a row. -/
def placesOf (es : List (Option Nat)) (r : Nat) : List Nat :=
  (List.range es.length).filter (fun j => getAt none es j == some r)

/-- The bags of an offset array: the entries of each, or none for an affected bag (R189). -/
def bagsOf (off : List Nat) (bags count : Nat) : List (Option (List Nat)) :=
  (List.range bags).map (fun b =>
    let lo := getAt 0 off b
    let hi := getAt 0 off (b + 1)
    if lo ≤ hi && hi ≤ count && (b != 0 || lo == 0) && (b + 1 != bags || hi == count) then
      some ((List.range (hi - lo)).map (fun i => lo + i))
    else none)

/-- Whether the exact buffers of the engines hold the distinct rows (R188, R189). -/
def bufferOk (t : Nat) (rows : List Nat) : Bool :=
  (List.range 16).all (fun k =>
    decide ((rows.filter (fun r => tbStack t r == k)).length * tbElems t * 16 ≤ 0x40_0000))

/-- The ranges that a command reads and writes locally, its table by the rows that its index list names; nothing for one that fails its
check (R187, R188). -/
def State.cmTouch (s : State) (p c : Nat) : List (Nat × Nat) × List (Nat × Nat) :=
  let t := cmTable c
  let flat := fun (r : Nat × Nat) => (((s.hbmOf p r.1).map (·.1)).getD r.1, r.2)
  let rows := if cmOp c ≥ 5 then [] else
    ((entries t (s.words32 p (if cmOp c ≥ 3 then cmAux c else cmSrc c) (cmCount c))).filterMap id).map (fun r => (tbRow t r, tbRb t))
  let plain := fun (l : List (Nat × Nat)) => (l.filter (fun r => cmOp c ≥ 5 || !(tbExtent t).contains r)).map flat
  if s.cmCheck p c ≠ 0 then ([], []) else (plain (cmReads c) ++ rows, plain (cmWrites c) ++ (if cmOp c = 3 || cmOp c = 4 then rows else []))

/-! ### Elements -/

/-- The codes of a row's weight elements. -/
def State.rowCodes (s : State) (t r : Nat) (f : Fmt) : List Nat :=
  (List.range (tbElems t)).map (fun c => leNat (s.rdN (tbRow t r + c * fmtBytes f) (fmtBytes f)))

/-- An element widened exactly to binary32 (R72). -/
def widen (f : Fmt) (code : Nat) : Lane := rne32 (decodeElem f code)

/-- The random word of an element of a row or bag (R185). -/
def cmRand (c seed r e : Nat) : Nat := philox seed ((cmIndex c + r * tbElems (cmTable c) + e) % 2 ^ 64) (cmTensor c)

/-- A value converted to a format under the command's rounding and saturation. -/
def cmConv (c seed r e : Nat) (f : Fmt) (v : FV) : Nat :=
  match cmRound c f with
  | some rnd => (encodeElem f rnd (cmSat c) (cmRand c seed r e) v).1
  | none => 0

/-- Codes packed as bytes. -/
def packCodes (n : Nat) (l : List Nat) : List Byte := l.flatMap (leBytes n)

/-- The output row of LOOKUP, converted to the output format (R73, R189). -/
def lookupRow (c seed r : Nat) (f g : Fmt) (codes : List Nat) : List Byte :=
  packCodes (fmtBytes g) (codes.mapIdx (fun e x => cmConv c seed r e g (decodeElem f x)))

/-! ### POOL (R190) -/

/-- Sums or maxima, element by element, over a list that is not empty. -/
def foldRows (f : Lane → Lane → Lane) : List (List Lane) → List Lane
  | [] => []
  | x :: xs => xs.foldl (fun a b => a.zipWith f b) x

/-- The partial results of the stacks that hold rows of a bag, combined in rising stack number. -/
def poolFold (f : Lane → Lane → Lane) (t : Nat) (rows : List (Nat × List Lane)) : List Lane :=
  foldRows f ((List.range 16).filterMap (fun k =>
    match rows.filter (fun x => tbStack t x.1 == k) with
    | [] => none
    | l => some (foldRows f (l.map (·.2)))))

/-- The partial BX32 values of an element over a bag, merged in rising stack number. -/
def poolBx (t : Nat) (rows : List (Nat × Lane)) : BX :=
  (List.range 16).foldl (fun a k =>
    match rows.filter (fun x => tbStack t x.1 == k) with
    | [] => a
    | l => a.merge (l.foldl (fun b x => b.deposit x.2) BX.empty)) BX.empty

/-- The result of one bag: `rows` holds each valid row's number and widened elements, in list order. R190 converts to another format under
`CMD.RND` and `CMD.SAT`; DESIGN CHOICE: a binary32 result of FP32 accumulation, or of max, is the last RNE32 value as it stands, so an
infinity remains one under `CMD.SAT` 1 (log entry 164). -/
def poolBag (c seed b : Nat) (g : Fmt) (rows : List (Nat × List Lane)) : List Byte :=
  let t := cmTable c
  let m := cmMode c
  let n := tbElems t
  let conv := fun (e : Nat) (v : Lane) => if g = .binary32 then v.toNat else cmConv c seed b e g (dec32 v)
  if rows.isEmpty then
    (if g = .bx32 then packCodes 16 (List.replicate n BX.empty.toNat) else packCodes (fmtBytes g) (List.replicate n 0))
  else if m % 4 = 2 then packCodes (fmtBytes g) ((poolFold (fmaxmin true) t rows).mapIdx conv)
  else if m < 4 then
    let sum := poolFold fadd t rows
    let res := if m = 0 then sum else sum.map (fun x => rne32 (divFV 60 (dec32 x) (fvOfInt rows.length)))
    packCodes (fmtBytes g) (res.mapIdx conv)
  else
    let bx := (List.range n).map (fun e => poolBx t (rows.map (fun x => (x.1, getAt 0 x.2 e))))
    if g = .bx32 then packCodes 16 (bx.map BX.toNat)
    else packCodes (fmtBytes g) (bx.mapIdx (fun e a =>
      cmConv c seed b e g (if m % 4 = 1 then divFV 300 a.value (fvOfInt rows.length) else a.value)))

/-! ### SCATTER_ADD (R190) -/

/-- One entry of sequential mode. -/
def scatterElem (c seed r e : Nat) (f : Fmt) (old g : Nat) : Nat :=
  if f = .int32 then (old + g) % 2 ^ 32
  else
    cmConv c seed r e f (dec32 (fadd (widen f old) (BitVec.ofNat 32 g)))

/-- One row of exact mode, from its old element and its gradients. -/
def exactElem (c seed r e : Nat) (f : Fmt) (old : Nat) (gs : List Nat) : Nat :=
  let a := gs.foldl (fun a g => a.deposit (BitVec.ofNat 32 g)) (BX.empty.deposit (widen f old))
  if f = .binary32 || f = .bfloat16 then cmConv c seed r e f a.value
  else cmConv c seed r e f (dec32 (rne32 a.value))

/-! ### ROW_UPDATE (R191) -/

def fdiv (a b : Lane) : Lane := rne32 (divFV 60 (dec32 a) (dec32 b))
def fsqrt (a : Lane) : Lane := rne32 (sqrtFV 60 (dec32 a))
/-- binary32 one. -/
def one32 : Lane := 0x3F80_0000#32

/-- The hyperparameters: lr, mu or b1, b2, eps, wd, c1, c2. -/
structure Hyper where
  lr : Lane
  b1 : Lane
  b2 : Lane
  eps : Lane
  wd : Lane
  c1 : Lane
  c2 : Lane

/-- `row_update` of R191: the new weights as binary32 and the new state words, from the old weights, the state words and
the combined gradients. -/
def rowUpdate (mode : Nat) (h : Hyper) (w : List Lane) (st : List Lane) (g : List Lane) : List Lane × List Lane :=
  let n := w.length
  let d := g.zipWith (fun gc wc => fadd gc (fmul h.wd wc)) w
  let q := rne32 (divFV 60 (dec32 (rne32 (d.foldl (fun a x => a.deposit (fmul x x)) BX.empty).value)) (fvOfInt n))
  match mode with
  | 0 => (w.zipWith (fun wc dc => fsub wc (fmul h.lr dc)) d, [])
  | 1 =>
    let u := (st.take n).zipWith (fun uc dc => fadd (fmul h.b1 uc) dc) d
    (w.zipWith (fun wc uc => fsub wc (fmul h.lr uc)) u, u)
  | 2 =>
    let a := fadd (getAt 0 st 0) q
    (w.zipWith (fun wc dc => fsub wc (fdiv (fmul h.lr dc) (fadd (fsqrt a) h.eps))) d, [a])
  | _ =>
    let m := (st.take n).zipWith (fun mc dc => fadd (fmul h.b1 mc) (fmul (fsub one32 h.b1) dc)) d
    let v := fadd (fmul h.b2 (getAt 0 st n)) (fmul (fsub one32 h.b2) q)
    (w.zipWith (fun wc mc => fsub wc (fdiv (fmul h.lr (fmul mc h.c1)) (fadd (fsqrt (fmul v h.c2)) h.eps))) m, m ++ [v])

/-- Words of the state that a mode keeps. -/
def stateWords (mode n : Nat) : Nat :=
  match mode with
  | 0 => 0
  | 1 => n
  | 2 => 1
  | _ => n + 1

end Sys2Proof.Machine
end

