-- ==== Sys2Proof/Machine/Sepia.lean ====
section
/-! DEFINITION. The table commands' execution, their reports, the watchdog and bypass (R186 to R197). -/
namespace Sys2Proof.Machine

/-! ### Units -/

/-- How a progress unit ends: done, held back by an access, or failing with a status of R192. -/
inductive SRes where
  | ok (s : State)
  | wait (part : Nat) (a : Acc)
  | fail (status : Nat) (s : State)

/-- The status of an access that did not go on (R188, R192, R330). -/
def accStatus : Acc → Nat
  | .address => 3
  | .isolation => 4
  | .bank => 6
  | .uncorrectable => 8
  | .drop _ => 9
  | _ => 0

/-- Changes the command with a number. -/
def State.updCmd (s : State) (id : Nat) (f : SCmd → SCmd) : State :=
  { s with sepia := { s.sepia with cmds := updFirst (fun x => x.id == id) f s.sepia.cmds } }

/-- What the check bits show the next access of the command under way. -/
def State.seenNext (s : State) : Ecc × State :=
  match s.sepia.seen with
  | [] => (.ok 0, s)
  | e :: r => (e, { s with sepia := { s.sepia with seen := r } })

/-- A read of an engine, through its stack's hot-row cache (R162, R177, R203). -/
def State.sepiaRead (s : State) (p a len : Nat) : SRes :=
  let r := s.access .sepia p a len false
  if r.waits then .wait p r
  else if r = .ok then
    let e := s.seenNext
    let x := e.2.readSeen e.1 p a len
    if x.2 then .fail 8 x.1 else .ok x.1
  else .fail (accStatus r) ((s.noteAcc p r).countBad p a len)

/-- A local write of an engine; the result write of a unit counts its bytes on `CMD.RCNT` once it is visible (R193). Over a granule or a sector
that it leaves part of and that cannot be corrected it is not made (R148, R162, R177). Behind a sealed crossing it is lost, and its command
never completes (R57). -/
def State.sepiaWrite (s : State) (x : SCmd) (a : Nat) (bs : List Byte) (result : Option Nat) : SRes :=
  let p := x.part
  let c := x.bits
  let w := s.access .sepia p a bs.length true
  if w.waits then .wait p w
  else if s.sealedAt a then
    .ok (s.updCmd x.id (fun x => { x with lost := true, refused := x.refused ++ result.toList }))
  else if w = .ok then
    let e := s.seenNext
    let g := e.2.eccSeen e.1 a bs.length
    if g.2 then .fail 8 g.1
    else
      let s := g.1.put a bs
      .ok (if result.isSome && cmRce c then s.addIn (cmRcore c) (cmRcnt c) (BitVec.ofNat 64 bs.length) else s)
  else .fail (accStatus w) ((s.noteAcc p w).countBad p a bs.length)

/-- Runs `f` after a unit's earlier part went well. -/
def SRes.bind (r : SRes) (f : State → SRes) : SRes :=
  match r with
  | .ok s => f s
  | .wait p a => .wait p a
  | .fail k s => .fail k s

/-- The generation tag of a command's requests: the launch's for a core, the partition's for a descriptor (R381). -/
def State.cmdTag (s : State) (x : SCmd) : Nat :=
  match x.who with
  | .core n id => match s.mop? n id with
    | some m => s.slotGen n m.slot
    | none => s.coreTag n
  | .desc _ => s.indigoTag x.part

/-- The bytes of a result go to their destination: a local write, or fabric writes (R193). -/
def State.sepiaOut (s : State) (x : SCmd) (unit o : Nat) (bs : List Byte) : SRes :=
  let c := x.bits
  if cmGlob c then
    let g := cmDstG c
    .ok ((cut256 (bs.length / 256 + 2) (cmDst c + o) bs.length).foldl (fun s q =>
      s.request (.sepia x.id unit)
        { Pkt.req 0 (g % 2 ^ 20) (bits 23 20 g) x.part (s.cmdTag x) (slice bs (q.1 - (cmDst c + o)) q.2) with
          win := bits 29 24 g, offset := q.1 % 2 ^ 40, ce := cmRce c, rcore := if cmRce c then cmRcore c else 0,
          rcnt := if cmRce c then cmRcnt c else 0 }) s)
  else s.sepiaWrite x (cmDst c + o) bs (some unit)

/-- The units of a command in the order in which they are taken: the unit numbers of each step, and the step. -/
abbrev Plan := List (List Nat × (State → SRes))

/-- Takes the steps of a plan. After the first failing one no new unit is taken; a later one ends only if it was under
way, which the manual leaves open (R192; log entry 4). Answers the status and the units done, or what holds a step back. -/
def runPlan : Plan → State → Nat → List Nat → Except (Nat × Acc) (State × Nat × List Nat)
  | [], s, st, done => .ok (s, st, done)
  | (us, f) :: rest, s, st, done =>
    if st = 0 then
      match f s with
      | .ok s => runPlan rest s 0 (done ++ us)
      | .wait p a => .error (p, a)
      | .fail k s => runPlan rest s k done
    else
      let v := s.freeVal 1
      if v.1 = 0 then runPlan rest v.2 st done
      else match f v.2 with
        | .ok s => runPlan rest s st (done ++ us)
        | _ => runPlan rest v.2 st done

/-- The row read of a unit. -/
def State.readRow (s : State) (p t r len : Nat) (f : State → SRes) : SRes := (s.sepiaRead p (tbRow t r) len).bind f

/-- The plan of LOOKUP (R189). -/
def planLookup (x : SCmd) (f g : Fmt) (es : List (Option Nat)) : Plan :=
  let c := x.bits
  let t := cmTable c
  es.mapIdx (fun j e => ([j], fun s =>
    match e with
    | none => s.sepiaOut x j (j * outPitch c) (List.replicate (outBytes c) 0)
    | some r => s.readRow x.part t r (tbElems t * fmtBytes f) (fun s =>
        s.sepiaOut x j (j * outPitch c) (lookupRow c x.seed r f g (s.rowCodes t r f)))))

/-- Reads every row of a bag. -/
def State.readRows (s : State) (p t len : Nat) : List Nat → SRes
  | [] => .ok s
  | r :: rs => s.readRow p t r len (fun s => s.readRows p t len rs)

/-- The plan of POOL (R190). BX32 elements lie where `CMD.DST` puts them, at any address: R76 aligns them to 16 bytes in scratchpad and HBM,
and no rule refuses a command for it (DESIGN CHOICE, log entry 164). -/
def planPool (x : SCmd) (f g : Fmt) (es : List (Option Nat)) (bags : List (Option (List Nat))) : Plan :=
  let c := x.bits
  let t := cmTable c
  bags.mapIdx (fun b ks => ([b], fun s =>
    let rows := (ks.getD []).filterMap (fun j => getAt none es j)
    (s.readRows x.part t (tbElems t * fmtBytes f) rows).bind (fun s =>
      s.sepiaOut x b (b * outPitch c)
        (poolBag c x.seed b g (rows.map (fun r => (r, (s.rowCodes t r f).map (widen f))))))))

/-- Gradient row `j`. -/
def State.gradRow (s : State) (p c j : Nat) : List Nat :=
  s.words32 p (cmSrc c + j * pitch (tbElems (cmTable c)) 32) (tbElems (cmTable c))
def State.readGrad (s : State) (p c j : Nat) (f : State → SRes) : SRes :=
  (s.sepiaRead p (cmSrc c + j * pitch (tbElems (cmTable c)) 32) (4 * tbElems (cmTable c))).bind f
def State.readGrads (s : State) (p c : Nat) : List Nat → SRes
  | [] => .ok s
  | j :: js => s.readGrad p c j (fun s => s.readGrads p c js)

/-- The plan of SCATTER_ADD, sequential (R190). -/
def planSeq (x : SCmd) (f : Fmt) (es : List (Option Nat)) : Plan :=
  let c := x.bits
  let t := cmTable c
  es.mapIdx (fun j e => ([j], fun s =>
    match e with
    | none => .ok s
    | some r => s.readGrad x.part c j (fun s => s.readRow x.part t r (tbElems t * fmtBytes f) (fun s =>
        s.sepiaWrite x (tbRow t r)
          (let g := s.gradRow x.part c j
           packCodes (fmtBytes f) ((s.rowCodes t r f).mapIdx (fun e o => scatterElem c x.seed r e f o (getAt 0 g e))))
          none))))

/-- The steps over distinct rows: bad entries are done with nothing, and the entries of a row together. -/
def rowPlan (es : List (Option Nat)) (f : Nat → List Nat → State → SRes) : Plan :=
  ((List.range es.length).filter (fun j => (getAt none es j).isNone)).map (fun j => ([j], SRes.ok)) ++
  (distinct (es.filterMap id)).map (fun r => (placesOf es r, f r (placesOf es r)))

/-- The plan of SCATTER_ADD, exact (R190). -/
def planExact (x : SCmd) (f : Fmt) (es : List (Option Nat)) : Plan :=
  let c := x.bits
  let t := cmTable c
  rowPlan es (fun r js s => (s.readGrads x.part c js).bind (fun s =>
    s.readRow x.part t r (tbElems t * fmtBytes f) (fun s =>
      let gs := js.map (fun j => s.gradRow x.part c j)
      s.sepiaWrite x (tbRow t r)
        (packCodes (fmtBytes f) ((s.rowCodes t r f).mapIdx (fun e o =>
          exactElem c x.seed r e f o (gs.map (fun g => getAt 0 g e))))) none)))

/-- The hyperparameter block (R191). -/
def State.hyper (s : State) (p a : Nat) : Hyper :=
  let w := fun (k : Nat) => BitVec.ofNat 32 (leNat (s.rdRange p (a + 4 * k) 4))
  ⟨w 0, w 1, w 2, w 3, w 4, w 5, w 6⟩

/-- The plan of ROW_UPDATE (R191). -/
def planUpdate (x : SCmd) (f : Fmt) (es : List (Option Nat)) (h : Hyper) : Plan :=
  let c := x.bits
  let t := cmTable c
  let m := cmMode c
  let n := tbElems t
  rowPlan es (fun r js s => (s.readGrads x.part c js).bind (fun s =>
    s.readRow x.part t r (updBytes t m) (fun s =>
      let gs := js.map (fun j => s.gradRow x.part c j)
      let g := (List.range n).map (fun e =>
        rne32 (gs.foldl (fun a l => a.deposit (BitVec.ofNat 32 (getAt 0 l e))) BX.empty).value)
      let st := (List.range (stateWords m n)).map (fun k =>
        BitVec.ofNat 32 (leNat (s.rdN (tbRow t r + stateAt t + 4 * k) 4)))
      let u := rowUpdate m h ((s.rowCodes t r f).map (widen f)) st g
      let wts := packCodes (fmtBytes f) (u.1.mapIdx (fun e v => cmConv c x.seed r e f (dec32 v)))
      let gap := if m = 0 then [] else s.rdN (tbRow t r + wts.length) (stateAt t - wts.length)
      s.sepiaWrite x (tbRow t r) (wts ++ gap ++ packCodes 4 (u.2.map BitVec.toNat)) none)))

/-- The plans of STREAM_COPY and FILL (R189). -/
def planCopy (x : SCmd) : Plan :=
  let c := x.bits
  (List.range (cmCount c)).map (fun k => ([k], fun s =>
    (s.sepiaRead x.part (cmSrc c + 64 * k) 64).bind (fun s =>
      s.sepiaOut x k (64 * k) (s.rdRange x.part (cmSrc c + 64 * k) 64))))
def planFill (x : SCmd) : Plan :=
  let c := x.bits
  (List.range (cmCount c)).map (fun k => ([k], fun s =>
    s.sepiaOut x k (64 * k) ((List.replicate 16 (leBytes 4 (cmAux c % 2 ^ 32))).flatten)))

/-! ### A command as a whole -/

/-- A command has been executed with a status and the units done, but for those whose result was lost. -/
def State.cmdDone (s : State) (id st : Nat) (us : List Nat) : State :=
  s.updCmd id (fun x => { x with done := true, status := st, units := us.filter (fun u => !x.refused.contains u) })

/-- Result writes of a command that await their replies. -/
def State.cmdLeft (s : State) (id : Nat) : Nat :=
  ((s.fabric.out ++ s.fabric.waiting).filter (fun r => match r.owner with
    | .sepia i _ => i == id
    | _ => false)).length

/-- Reads that come before the units: index lists, offsets, hyperparameters. -/
def State.readLists (s : State) (p : Nat) : List (Nat × Nat) → SRes
  | [] => .ok s
  | r :: rs => (s.sepiaRead p r.1 r.2).bind (fun s => s.readLists p rs)

/-- Runs a command (R188 to R193); or what holds one of its accesses back. -/
def State.cmdRun (s : State) (x : SCmd) : Except (Nat × Acc) State :=
  let c := x.bits
  let p := x.part
  let t := cmTable c
  let st := s.cmCheck p c
  if st ≠ 0 then
    .ok ((if st = 3 then s.countAddress p else if st = 4 then s.countIsolation p else s).cmdDone x.id st [])
  else
    let n := cmCount c
    let lists := match cmOp c with
      | 1 => [(cmSrc c, 4 * n)]
      | 2 => [(cmSrc c, 4 * n), (cmAux c, 4 * (cmBags c + 1))]
      | 3 => [(cmAux c, 4 * n)]
      | 4 => [(cmAux c, 4 * n), (cmDst c, 64)]
      | _ => []
    match s.readLists p lists with
    | .wait p a => .error (p, a)
    | .fail k s => .ok (s.cmdDone x.id k [])
    | .ok s =>
      let idx := if cmOp c ≥ 5 then [] else s.words32 p (if cmOp c ≥ 3 then cmAux c else cmSrc c) n
      let es := entries t idx
      let bags := if cmOp c = 2 then bagsOf (s.words32 p (cmAux c) (cmBags c + 1)) (cmBags c) n else []
      let bad := if cmOp c = 2 then
          (bags.map (fun b => match b with
            | none => 1
            | some ks => (ks.filter (fun j => (getAt none es j).isNone)).length)).sum
        else (es.filter Option.isNone).length
      let exact := cmOp c = 4 || (cmOp c = 3 && cmMode c = 4)
      if exact && !bufferOk t (distinct (es.filterMap id)) then .ok (s.cmdDone x.id 5 [])
      else
        let s := if bad = 0 then s else s.odAdd 0x8050 (p + 1) bad
        let f := (tbFormat t).getD .binary32
        let g := (fmtOf (cmOfmt c)).getD .binary32
        let plan := match cmOp c with
          | 1 => planLookup x f g es
          | 2 => planPool x f g es bags
          | 3 => if cmMode c = 4 then planExact x f es else planSeq x f es
          | 4 => planUpdate x f es (s.hyper p (cmDst c))
          | 5 => planCopy x
          | _ => planFill x
        match runPlan plan s 0 [] with
        | .error w => .error w
        | .ok (s, st, done) =>
          .ok (s.cmdDone x.id (if st = 0 && bad ≠ 0 then 1 else st) (if cmGlob c then [] else done))

/-- What is left of a command: its execution, or acknowledgements, or a result that a sealed crossing has lost. -/
def State.cmdOpen (s : State) (x : SCmd) : Bool := !x.done || s.cmdLeft x.id != 0 || x.lost

/-- Commands of a stack that have not completed. -/
def State.onStack (s : State) (k : Nat) : List SCmd :=
  s.sepia.cmds.filter (fun x => (s.cmdStacks x.part x.bits).contains k && s.cmdOpen x)

/-- The commands that an engine executes: it starts them in order of arrival and executes up to 8 at once (R186, R187). -/
def State.executing (s : State) (k : Nat) : List SCmd := (s.onStack k).take 8

/-- A later command may not finish before an earlier one where they meet in a sector and one of them writes there (R187). -/
def meet (a b : List (Nat × Nat) × List (Nat × Nat)) : Bool :=
  let hit := fun (r w : Nat × Nat) => r.2 != 0 && w.2 != 0 &&
    decide (r.1 / 64 ≤ (w.1 + w.2 - 1) / 64) && decide (w.1 / 64 ≤ (r.1 + r.2 - 1) / 64)
  (a.1 ++ a.2).any (fun r => b.2.any (hit r)) || a.2.any (fun r => b.1.any (hit r))

/-- Whether a command can go on: every one of its engines executes it, and no earlier command of one of them that is not executed meets it
in a sector (R186, R187). -/
def State.cmdTurn (s : State) (x : SCmd) : Bool :=
  let mine := s.cmdStacks x.part x.bits
  !x.done && mine.all (fun k => (s.executing k).any (fun y => y.id == x.id)) &&
  s.sepia.cmds.all (fun y => !(decide (y.id < x.id) && !y.done && (s.cmdStacks y.part y.bits).any (fun k => mine.contains k)) ||
    !meet (s.cmTouch y.part y.bits) (s.cmTouch x.part x.bits))

/-- Goes on with a command whose turn has come: it is executed, or an access of it waits, which is counted where R202 says. The settings
whose safe point is a command's start or a restart of the watchdog apply (R197, R203, R204). `seen` is what the check bits show its accesses,
in order. -/
def State.cmdTry (s : State) (x : SCmd) (seen : List Ecc) : State :=
  if !s.cmdTurn x then s
  else
    let t := ((s.cmdStacks x.part x.bits).foldl (fun s k => s.hotEnable k) s).odApply 0x8004 0
    let r := s.orHeld ({ t with sepia := { t.sepia with seen := seen } }.cmdRun x)
    { r with sepia := { r.sepia with seen := [] } }

/-- Goes on with the command with a number, when it is of the row's kind. -/
def sepiaRow (op id : Nat) (seen : List Ecc) (s : State) : Host.Outcome State Fault Refusal :=
  match s.sepia.cmds.find? (fun x => x.id == id) with
  | none => .next s
  | some x => .next (if cmOp x.bits = op then s.cmdTry x seen else s)

/-- LOOKUP (R189). -/
def execSepiaLookup (id : Nat) (seen : List Ecc) (s : State) : Host.Outcome State Fault Refusal := sepiaRow 1 id seen s

/-- POOL (R189, R190). -/
def execSepiaPool (id : Nat) (seen : List Ecc) (s : State) : Host.Outcome State Fault Refusal := sepiaRow 2 id seen s

/-- SCATTER_ADD (R189, R190). -/
def execScatterAdd (id : Nat) (seen : List Ecc) (s : State) : Host.Outcome State Fault Refusal := sepiaRow 3 id seen s

/-- ROW_UPDATE (R189, R191). -/
def execRowUpdate (id : Nat) (seen : List Ecc) (s : State) : Host.Outcome State Fault Refusal := sepiaRow 4 id seen s

/-- STREAM_COPY (R189). -/
def execStreamCopy (id : Nat) (seen : List Ecc) (s : State) : Host.Outcome State Fault Refusal := sepiaRow 5 id seen s

/-- FILL (R189). -/
def execSepiaFill (id : Nat) (seen : List Ecc) (s : State) : Host.Outcome State Fault Refusal := sepiaRow 6 id seen s

/-! ### Bypass (R196) -/

/-- AC.BYPASS: an engine is in bypass (R196, R406). -/
def State.bypassAmber (s : State) : State :=
  s.amber 8 ((List.range 16).any (fun k => s.odBool 0x8002 (k + 1)))

/-- A pending value of OD 0x8002 applies; the cache empties on entering or leaving bypass (R196, R203). -/
def State.bypassPut (s : State) (k : Nat) : State :=
  let was := s.odBool 0x8002 (k + 1)
  let s := s.odApply 0x8002 (k + 1)
  if s.odBool 0x8002 (k + 1) == was then s else s.hotClear k

/-- The safe point of OD 0x8002: a pending value applies once no command executes on the stack (R196). -/
def State.bypassSafe (s : State) : State :=
  ((List.range 16).foldl (fun s k =>
    if (s.odPending 0x8002 (k + 1)).isSome && (s.onStack k).isEmpty then s.bypassPut k else s) s).bypassAmber

/-! ### Reports (R187, R192) -/

/-- The fault of a TBL for a status (R192). -/
def statusFault (st : Nat) : Nat :=
  match st with
  | 4 => 0x0C
  | 7 => 0x08
  | 8 => 0x0B
  | 9 => 0x0A
  | 10 => 0x09
  | _ => 0x07

/-- Same issuer for the order of reports: the cluster of a core, or the host dispatcher. -/
def Issuer.same (a b : Issuer) : Bool :=
  match a, b with
  | .core m _, .core n _ => clusterOf m == clusterOf n
  | .desc _, .desc _ => true
  | _, _ => false

/-- Each executing engine reports a command to a cluster over its instance of EV06, with the command's index beside it (R51, R187). -/
def State.cmdEvent (s : State) (x : SCmd) (c : Nat) : State :=
  (s.cmdStacks x.part x.bits).foldl (fun s k =>
    { s with sepia := { s.sepia with last := tset 0 s.sepia.last (evReturn k c) x.id } }.pulse 6 (evReturn k c)) s

/-- A command's units done, as the units of its descriptor that have ended OK (R192, R227). -/
def SCmd.ends (x : SCmd) : Tab UEnd := x.units.foldl (fun (t : Tab UEnd) u => tput t u ⟨0, 0, 0⟩) []

/-- The TABLE descriptors that meet a test have the units that their commands have done so far (R227). -/
def State.tableEnds (s : State) (q : SCmd → Bool) : State :=
  (s.sepia.cmds.filter q).foldl (fun s x => match x.who with
    | .desc d => s.updFlight d (fun f => { f with ends := x.ends })
    | .core _ _ => s) s

/-- A completed command is reported to its issuer; a core that a fence holds since its reset absorbs the report (R93, R187, R192, R226, R383). -/
def State.cmdReport (s : State) (x : SCmd) : State :=
  let s := { s with sepia := { s.sepia with cmds := s.sepia.cmds.filter (fun y => y.id != x.id) } }
  match x.who with
  | .core n id =>
    if s.sealed (clusterOf n) 18 then s
    else
    let s := s.cmdEvent x (clusterOf n)
    (match s.mop? n id with
      | none => if s.faults.fences.contains (⟨false, n⟩ : Fence) then s.odInc 0x7033 0 else s
      | some m =>
        if m.err ≠ 0 then s.dropMop n id
        else if x.status ≤ 1 then s.mDone n m 1
        else (s.mFault n m (statusFault x.status) m.s.toNat).dropMop n id)
  | .desc d =>
    (s.updFlight d (fun f => { f with ends := x.ends })).flightForce d
      (if x.status ≤ 1 then ⟨0, x.status, 0⟩ else ⟨5, x.status, 0⟩)

/-- Whether a report may go: the command is complete, and no earlier one of its issuer that shares an engine with it waits for its own. A
striped command's shares are reported together, when the last has ended; R187 speaks of each engine (DESIGN CHOICE, log entry 164). -/
def State.mayReport (s : State) (x : SCmd) : Bool :=
  let mine := s.cmdStacks x.part x.bits
  !s.cmdOpen x && s.sepia.cmds.all (fun y =>
    !(decide (y.id < x.id) && y.who.same x.who && (s.cmdStacks y.part y.bits).any (fun k => mine.contains k)))

/-- SEPIA_COMMAND_COMPLETE: the command with a number has ended, its result writes are acknowledged and no earlier command
of its issuer on its engines waits for its report: it is reported (R187, R193). A command with a reserved `CMD.OP` ends DESCRIPTOR first
(R188). -/
def execSepiaCommandComplete (id : Nat) (s : State) : Host.Outcome State Fault Refusal :=
  let s := match s.sepia.cmds.find? (fun x => x.id == id) with
    | some x => if cmOp x.bits = 0 || cmOp x.bits > 6 then s.cmdTry x [] else s
    | none => s
  match s.sepia.cmds.find? (fun x => x.id == id) with
  | none => .next s
  | some x =>
    if !s.mayReport x then .next s
    else
      let s := (s.cmdReport x).bypassSafe
      .next (match x.who with
        | .core n _ => State.mStart none 33 s n
        | .desc _ => s)

/-! ### Replies to result writes (R193) -/

/-- A result write is acknowledged: its unit is done once none of its writes is left and none was refused (R192). The progress restarts
the engine's watchdog (R197, R204). -/
def State.sepiaAcked (s : State) (id unit : Nat) : State :=
  if (s.fabric.out ++ s.fabric.waiting).any (fun r => r.owner == .sepia id unit) then s
  else (s.updCmd id (fun x => { x with
    units := if x.units.contains unit || x.refused.contains unit then x.units else x.units ++ [unit] })).odApply 0x8004 0

/-- A result write of a unit has failed: the first status stands. -/
def State.sepiaRefused (s : State) (id unit st : Nat) : State :=
  s.updCmd id (fun x => { x with status := if x.status ≤ 1 then st else x.status, refused := x.refused ++ [unit] })

/-! ### Abandonment (R195, R197) -/

/-- Abandons commands: each ends ABANDONED with what it has done, and its result writes are released. -/
def State.abandon (s : State) (q : SCmd → Bool) : State :=
  let ids := (s.sepia.cmds.filter (fun x => q x && s.cmdOpen x)).map (·.id)
  let s := s.releaseReqs (fun r => match r.owner with
    | .sepia i _ => ids.contains i
    | _ => false)
  let cmds := updAll (fun x => ids.contains x.id) (fun x => { x with done := true, status := 9, lost := false }) s.sepia.cmds
  { s with sepia := { s.sepia with cmds := cmds } }

/-- Fault 0x06: the record, bypass, and the commands in execution on the engine, at most 8, end ABANDONED (R197). R197 gives the fallback unit
what arrives afterwards and says nothing of the commands that were queued behind those; DESIGN CHOICE: the fallback unit takes them too, and
counts them (R196; log entry 174). -/
def State.engineFault (s : State) (k : Nat) : State :=
  let ids := (s.executing k).map (·.id)
  let s := s.abandon (fun x => ids.contains x.id)
  let s := s.odAdd 0x8003 (k + 1) ((s.onStack k).filter (fun x => !ids.contains x.id)).length
  let s := (s.odAccept 0x8002 (k + 1) (.num 1)).bypassPut k
  s.bypassAmber.faultRecord 0x06 8 3 k none false 0

/-- Whether a request has not left: it is still to be issued, or its packet waits for tokens, for room, or for credits in a link's queue
(R274, R278, R280). -/
def State.unsent (s : State) (r : Req) : Bool :=
  let same := fun (q : Pkt) => !q.isReply && q.dst == r.pkt.dst && q.spart == r.pkt.spart && q.seq == r.pkt.seq
  s.fabric.waiting.contains r || s.fabric.held.any same || s.links.any (fun e => e.2.txq.any same)

/-- Whether a command in execution waits on something outside the engine: slice room, a restore, a bank, or fabric credits, for which its
result writes wait to leave (R197). -/
def State.cmdWaits (s : State) (x : SCmd) : Bool :=
  if x.done then
    s.cmdLeft x.id != 0 && (s.fabric.out ++ s.fabric.waiting).all (fun r => match r.owner with
      | .sepia i _ => i != x.id || s.unsent r
      | _ => true)
  else match s.cmdRun x with
    | .ok _ => false
    | .error w => w.2.waits

/-- SEPIA_WATCHDOG_EXPIRY: the watchdog of an engine reaches its interval; it does not run without a command in execution, nor while all of
them wait on something outside the engine, nor in bypass, where the engine's command unit is out of service (R196, R197). -/
def execSepiaWatchdogExpiry (stack : Fin 16) (s : State) : Host.Outcome State Fault Refusal :=
  if s.odBool 0x8002 (stack + 1) || (s.executing stack).all s.cmdWaits then .next s else .next ((s.odApply 0x8004 0).engineFault stack)

/-- SEPIA_INTERNAL_CHECK_FAILURE: the engine's internal check fails, which runs with its command unit (R196, R197). -/
def execSepiaInternalCheckFailure (stack : Fin 16) (s : State) : Host.Outcome State Fault Refusal :=
  .next (if s.odBool 0x8002 (stack + 1) then s else s.engineFault stack)

end Sys2Proof.Machine
end

