-- ==== Sys2Proof/Machine/Arrivals.lean ====
section
/-! DEFINITION. A packet's arrival at its destination: keys and tags, the reissue window, admission, the targets that answer
as resetting, and the answer (R262 to R265, R276, R277, R349, R360, R380 to R383). -/
namespace Sys2Proof.Machine

/-! ### The inbox and its keys (R358 to R360) -/

/-- A key selector has an installed job secret: a slot of OD 0x6416 in state root or installed. -/
def State.keyInstalled (s : State) (k : Nat) : Bool :=
  (List.range 32).any (fun i => let v := s.odNum 0x6416 (i + 1); bits 15 8 v == k && decide (bits 7 0 v ≥ 2))

/-- A packet in clear, or as it came where it cannot be opened. -/
def State.clear (s : State) (p : Pkt) : Pkt :=
  match s.opened p with
  | .ok q => q
  | .error _ => p

/-- The first packet in the inbox that in clear meets a test, taken out of it as it came. -/
def State.take (s : State) (q : Pkt → Bool) : Option (Pkt × State) :=
  match s.fabric.inbox.find? (fun p => q (s.clear p)) with
  | none => none
  | some p => some (p, { s with fabric := { s.fabric with inbox := s.fabric.inbox.erase p } })

/-- A packet taken from the inbox is opened, with its flow's keys in the cache; one that cannot be opened is discarded and counted (R360). -/
def State.unseal (s : State) (p : Pkt) : Except State (Pkt × State) :=
  match s.opened p with
  | .ok q => .ok (q, s.keyCached p (if p.isReply then p.spart else p.dpart))
  | .error e => .error (s.odInc 0x6418 e)

/-! ### The reissue window (R276) -/

def Win.is (src spart : Nat) (w : Win) : Bool := w.src == src && w.spart == spart

/-- How far a number lies behind the highest done; one ahead of it counts as 0 behind. -/
def Win.behind (w : Win) (n : Nat) : Nat :=
  let d := (w.top + 2 ^ 24 - n) % 2 ^ 24
  if d < 2 ^ 23 then d else 0

/-- A number is in progress. -/
def Win.start (w : Win) (n : Nat) : Win := { w with started := tput w.started n true }

/-- A number is done with its reply: the window advances to it where it lies ahead, and numbers that leave the window are forgotten. -/
def Win.finish (w : Win) (n : Nat) (r : Pkt) : Win :=
  let ahead := decide ((n + 2 ^ 24 - w.top) % 2 ^ 24 < 2 ^ 23)
  let w := { w with top := if ahead then n else w.top, replies := tput w.replies n r }
  { w with started := w.started.filter (fun e => decide (w.behind e.1 < 1024)),
           replies := w.replies.filter (fun e => decide (w.behind e.1 < 1024)) }

def State.updWin (s : State) (src spart : Nat) (f : Win → Win) : State :=
  { s with fabric := { s.fabric with wins := updFirst (Win.is src spart) f s.fabric.wins } }

/-- The key selector of the replies that a partition sends (R349). -/
def State.replyKey (s : State) (p : Nat) : Nat := bits 23 16 (s.odNum 0x6010 (p + 1))

/-- The replies of an endpoint: ACK, READ_DATA, ERROR. -/
def State.ackOf (s : State) (p : Pkt) : Pkt := p.reply 3 0 0 (s.replyKey p.dpart) []
def State.dataOf (s : State) (p : Pkt) (bs : List Byte) : Pkt := p.reply 2 0 0 (s.replyKey p.dpart) bs
def State.errorOf (s : State) (p : Pkt) (status aux : Nat) : Pkt := p.reply 7 status aux (s.replyKey p.dpart) []

/-- The index of a request's next reply: the number of replies already sent for it, up to 15 (R360). -/
def State.replyIdx (s : State) (p : Pkt) : Nat :=
  match (s.fabric.wins.find? (Win.is p.src p.spart)).bind (fun w => tfind w.replies p.seq) with
  | some r => min 15 (r.ridx + 1)
  | none => 0

/-- Sends a request's reply, under the index of its turn, and keeps it in the window: the request is done (R276, R360). -/
def State.answer (s : State) (p r : Pkt) : State :=
  let r := { r with ridx := s.replyIdx p }
  (s.updWin p.src p.spart (fun w => w.finish p.seq r)).inject r

/-- What becomes of an arriving request: there is none; it is dealt with; or it is executed, for the first time or (a READ)
again. -/
inductive Arr where
  | none
  | done (s : State)
  | act (p : Pkt) (again : Bool) (s : State)

/-- The replies that wait for injection: what the reply store holds. -/
def State.storedReplies (s : State) : Nat := ((s.fabric.held ++ s.fabric.frozen).filter Pkt.isReply).length

/-- A new flow's window entry: on the die whose router half received the request while that has a free entry, and on the other otherwise
(R276). Nothing of the flow is done yet. -/
def State.newWin (s : State) (p : Pkt) : Win :=
  let used := (s.fabric.wins.filter (fun w => w.die == p.die)).length
  ⟨p.src, p.spart, (p.seq + 2 ^ 24 - 1) % 2 ^ 24, [(p.seq, true)], [], if used < 16384 then p.die else 1 - p.die, s.now⟩

/-- The arrival of a request up to its execution: the admission setting applies, out of service, a full reply store in Escape mode, the
tag, the window (R265, R271, R276, R349, R360). -/
def State.arrive (s : State) (q : Pkt → Bool) : Arr :=
  match s.take q with
  | Option.none => .none
  | some (p, s) =>
    let s := s.odApply 0x6010 (p.dpart + 1)
    if s.escapeMode && s.storedReplies > Config.replyStore then .done (s.odInc 0x4424 4)
    else if !s.inService || (s.life.removal != 0 && p.op != 6) then .done (s.inject (s.errorOf p 7 0))
    else match s.unseal p with
    | .error s => .done s
    | .ok (p, s) =>
      match s.fabric.wins.find? (Win.is p.src p.spart) with
      | Option.none =>
        if s.fabric.wins.length ≥ 32768 then .done ((s.odInc 0x4424 4).inject (s.errorOf p 6 0))
        else .act p false { s with fabric := { s.fabric with wins := s.fabric.wins ++ [s.newWin p] } }
      | some w =>
        let s := s.updWin p.src p.spart (fun w => { w with last := s.now })
        if w.behind p.seq ≥ 1024 then .done (s.odInc 0x4424 2)
        else match tfind w.replies p.seq with
        | some r =>
          if p.op = 1 then .act p true s
          else
            .done (s.answer p { r with echo := p.mark })
        | Option.none =>
          if (tfind w.started p.seq).isSome then .done (s.odInc 0x4424 2)
          else .act p false (s.updWin p.src p.spart (fun w => w.start p.seq))

/-- Two packets are of one request: their flow and number. -/
def Pkt.sameRequest (p q : Pkt) : Bool := p.src == q.src && p.spart == q.spart && p.seq == q.seq

/-- Whether a request's access has been admitted before and waits at its target. -/
def State.isBegun (s : State) (p : Pkt) : Bool := s.fabric.begun.any p.sameRequest

/-- A request of the inbox has been admitted and waits; and one that waits no more. -/
def State.begin (s : State) (p : Pkt) : State :=
  if s.isBegun p then s else { s with fabric := { s.fabric with begun := s.fabric.begun ++ [p] } }

/-- A window's pending setting waits for a request admitted through the window before it was written (R350). -/
def State.windowHeld (s : State) (p w : Nat) : Bool := s.fabric.winWait.any (fun q => q.dpart == p && q.win == w)

/-- Requests that meet a test are at their end: what waited for the last of a window's is applied (R350). -/
def State.begunCut (s : State) (gone : Pkt → Bool) : State :=
  let was := s.fabric.winWait
  let s := { s with fabric := { s.fabric with
    begun := s.fabric.begun.filter (fun q => !gone q), winWait := was.filter (fun q => !gone q) } }
  s.odApplyAll ((was.filter (fun q => !s.windowHeld q.dpart q.win)).map (fun q => (0x6100 + q.dpart, q.win + 1)))

def State.begunGone (s : State) (p : Pkt) : State := s.begunCut p.sameRequest

/-- A row that executes an arriving request. Where the body cannot go on yet, its wait is noted, and the request stays admitted. -/
def serve (s : State) (q : Pkt → Bool) (f : Pkt → Bool → State → Except (Nat × Acc) State) :
    Host.Outcome State Fault Refusal :=
  match s.take q with
  | none => .next s
  | some (raw, _) => match s.arrive q with
    | .none => .next s
    | .done s' => .next (s'.begunGone raw)
    | .act p again s' => match f p again s' with
      | .ok t => .next (t.begunGone raw)
      | .error w => .next ((s.noteAcc w.1 w.2).begin raw)

/-! ### Refusals (R265, R349, R365, R380, R383) -/

/-- The generation tag of a partition's first reset domain (R381). -/
def State.partTag (s : State) (p : Nat) : Nat :=
  match bitList 24 (s.part p).clusters with
  | c :: _ => s.odNum 0x7030 (c + 1)
  | [] => 0

/-- The tag that answers for a cluster in a native reset: the one at the reset's start (R263, R380). -/
def State.resetTag (s : State) (c : Nat) : Nat :=
  match s.faults.resets.find? (fun r => (r.scope == 2 && r.target == c) || r.scope == 3 || r.scope == 4) with
  | some r => r.tags.getD c (s.odNum 0x7030 (c + 1))
  | none => s.odNum 0x7030 (c + 1)

/-- A compute-part or whole-module reset is under way. -/
def State.computeReset (s : State) : Bool := s.faults.resets.any (fun r => r.scope == 3 || r.scope == 4 || r.scope == 8)

/-- Whether a cluster is fenced or in a native reset. -/
def State.clusterBlocked (s : State) (c : Nat) : Bool :=
  s.faults.fences.any (fun f => f.isCluster && f.num == c) || s.faults.resets.any (fun r => s.coversCluster r c)

/-- The tag with which a local address answers as resetting, if it does (R265, R380, R383). -/
def State.targetReset (s : State) (p a : Nat) : Option Nat :=
  match s.region a with
  | .spad n _ | .istore n _ | .coreCtl n _ => if s.coreBlocked n then some (s.resetTag (clusterOf n)) else none
  | .pool c _ => if s.clusterBlocked c then some (s.resetTag c) else none
  | .hbm _ | .view _ | .aperture _ =>
    if s.computeReset then
      some (match bitList 24 (s.part p).clusters with
        | c :: _ => s.resetTag c
        | [] => 0)
    else none
  | _ => none

/-- A request is admitted: key selector and source partition (R349). -/
def State.admitted (s : State) (p : Pkt) : Bool :=
  let v := s.odNum 0x6010 (p.dpart + 1)
  p.keyid == bits 23 16 v && bit p.spart v

/-- The refusal of a request before its target is looked at: admission, the core that it names, a partition that is being
torn down. Status and auxiliary field (R265, R365). One that was admitted before is not judged again (R364). -/
def State.refusal (s : State) (p : Pkt) : Option (Nat × Nat) :=
  if s.isBegun p then none
  else if !s.admitted p then some (4, 0)
  else if (p.ce || (p.op == 4 && decide (p.rcore < 288))) &&
      !(p.rcore < 288 && (s.part p.dpart).hasCluster (clusterOf p.rcore)) then some (4, 0)
  else if (s.part p.dpart).st == .draining || (s.part p.dpart).st == .scrubbing then some (2, s.partTag p.dpart)
  else none

/-- A window's setting is accepted: it applies once every request already admitted through the window has completed (R350). -/
def State.windowTake (s : State) (p w : Nat) (b : List Byte) : State :=
  let through := s.fabric.begun.filter (fun q => decide (q.op ≤ 1) && q.dpart == p && q.win == w)
  let keep := s.fabric.winWait.filter (fun q => !(q.dpart == p && q.win == w))
  let s := ({ s with fabric := { s.fabric with winWait := keep ++ through } }).odAccept (0x6100 + p) (w + 1) (.blob b)
  if through.isEmpty then s.odApply (0x6100 + p) (w + 1) else s

/-- A window's base, length and rights (R350). -/
def State.window (s : State) (p w : Nat) : Nat × Nat × Nat :=
  let b := s.odBlob (0x6100 + p) (w + 1)
  (fieldAt b 0 8, fieldAt b 8 8, fieldAt b 16 1)

/-- Sectors of a partition's protected regions in a range, for the refusal of R331. -/
def State.refusedWrite (s : State) (p a len : Nat) : Bool :=
  ((s.ep p).st == .restoring || (s.ep p).st == .fenced) &&
  (sectorsOf a len).any (fun k => s.isProtected p (64 * k))

/-- An arrival is counted on a completion counter, over EV05 (R51, R93). -/
def State.arrivalCount (s : State) (core cnt n : Nat) : State :=
  if s.sealed (clusterOf core) 17 then s else (s.addIn core cnt (BitVec.ofNat 64 n)).pulse 5 (clusterOf core)

end Sys2Proof.Machine
end

