-- ==== Sys2Proof/Machine/CollOps.lean ====
section
/-! DEFINITION. The collectives' shared operations: what R292 permits, chunks, arithmetic, leases, grants, packets, the end of
a collective, and group descriptors (R288 to R311). -/
namespace Sys2Proof.Machine

/-! ### Kinds, modes and chunks (R291 to R293) -/

def gdExact (b : List Byte) : Bool := bit 0 (gdFlags b)
def gdHalf (b : List Byte) : Bool := bit 1 (gdFlags b)
def gdOz2 (b : List Byte) : Bool := bit 2 (gdFlags b)

/-- The up wire, in bytes per element, of kinds 0, 1 and 4. -/
def upWidth (b : List Byte) (d : Nat) : Nat :=
  if gdExact b then (if colOpr d = 0 then 16 else 4) else if gdHalf b then 2 else 4

/-- Bits per element of `COL.FMT`. -/
def colW (d : Nat) : Nat := match fmtOf (colFmt d) with | some f => f.w | none => 0

def colReduces (d : Nat) : Bool := colKind d == 0 || colKind d == 1 || colKind d == 4

/-- Elements of the result, and its bytes. -/
def colResult (b : List Byte) (d : Nat) : Nat := if colKind d = 2 then gdN b * colCount d else colCount d
def colBytes (b : List Byte) (d : Nat) : Nat := colResult b d * colW d / 8

/-- Elements of a full chunk of kinds 0, 1 and 4 (R293). -/
def chunkElems (b : List Byte) (d : Nat) : Nat := 16384 / upWidth b d

/-- The number of chunks (R293). -/
def colChunks (b : List Byte) (d : Nat) : Nat :=
  if colReduces d then (colCount d + chunkElems b d - 1) / chunkElems b d else (colBytes b d + 16383) / 16384

/-- A combination of R292 and R313. -/
def colPermitted (b : List Byte) (d : Nat) : Bool :=
  let f := colFmt d
  let r := colRnd d
  decide (1 ≤ colCount d) && decide (colChunks b d ≤ 2 ^ 20) &&
  (if colReduces d then
    decide (colOpr d ≤ 2) &&
    (if gdOz2 b then !gdExact b && !gdHalf b && f == 0 && r == 0
     else if gdExact b then
       (if colOpr d = 0 then ((f == 0 || f == 2) && (r == 0 || r == 1)) || (f == 16 && r == 0)
        else (f == 0 || f == 2) && r == 0)
     else if gdHalf b then f == 2 && (r == 0 || r == 1)
     else (f == 0 && r == 0) || (f == 2 && (r == 0 || r == 1))) &&
    (colKind d != 1 || colCount d % gdN b == 0)
   else colOpr d == 0 && (decide (f ≤ 9) || f == 16) && colCount d * colW d % 8 == 0 && r == 0 && (!gdOz2 b || f == 0))

/-- Elements of a chunk, its bytes on the up wire and on the down wire. -/
def Coll.elems (c : Coll) (j : Nat) : Nat := min (chunkElems c.gd c.bits) (colCount c.bits - j * chunkElems c.gd c.bits)
def Coll.upBytes (c : Coll) (j : Nat) : Nat := c.elems j * upWidth c.gd c.bits
def Coll.downBytes (c : Coll) (j : Nat) : Nat :=
  if colReduces c.bits then c.elems j * colW c.bits / 8 else min 16384 (colBytes c.gd c.bits - 16384 * j)

/-- The place in the result's bytes at which a chunk begins. -/
def Coll.at (c : Coll) (j : Nat) : Nat :=
  if colReduces c.bits then j * chunkElems c.gd c.bits * colW c.bits / 8 else 16384 * j

/-- Bytes of a member's segment: kind 1's part of the result, kind 2's input. -/
def Coll.segBytes (c : Coll) : Nat :=
  if colKind c.bits = 1 then colCount c.bits / gdN c.gd * colW c.bits / 8 else colCount c.bits * colW c.bits / 8

/-- The part of a chunk that lies in a range of the result's bytes, as offsets in the chunk. -/
def Coll.overlap (c : Coll) (j lo hi : Nat) : Nat × Nat :=
  let a := max lo (c.at j) - c.at j
  let b := min hi (c.at j + c.downBytes j) - c.at j
  (a, max a b)

/-- The part of a chunk that this member contributes in kind 2. -/
def Coll.own2 (c : Coll) (j : Nat) : Nat × Nat :=
  c.overlap j (gdRank c.gd * c.segBytes) ((gdRank c.gd + 1) * c.segBytes)

/-- The ranks of a subtree, level by level, as intervals (R288). -/
def subtree : Nat → Nat → Nat → Nat → Nat → List (Nat × Nat)
  | 0, _, _, _, _ => []
  | k + 1, f, n, lo, hi => if lo ≥ n then [] else (lo, min hi (n - 1)) :: subtree k f n (lo * f + 1) (hi * f + f)

/-- Whether a chunk is sent down to a rank (R304): always, but for kind 1 where the chunk meets its subtree's segments, and
kind 4 never. -/
def Coll.downTo (c : Coll) (j rank : Nat) : Bool :=
  match colKind c.bits with
  | 4 => false
  | 1 => (subtree 24 (gdFan c.gd) (gdN c.gd) rank rank).any (fun iv =>
      let o := c.overlap j (iv.1 * c.segBytes) ((iv.2 + 1) * c.segBytes)
      decide (o.1 < o.2))
  | _ => true

/-- Rank of the child at a position. -/
def Coll.childRank (c : Coll) (k : Nat) : Nat := gdRank c.gd * gdFan c.gd + 1 + k

/-- The part of a chunk that goes to this member's `COL.DST`, and the place in `COL.DST` of its first byte (R291). -/
def Coll.dstPart (c : Coll) (j : Nat) : Nat × Nat × Nat :=
  let r := gdRank c.gd
  match colKind c.bits with
  | 1 =>
    let o := c.overlap j (r * c.segBytes) ((r + 1) * c.segBytes)
    (o.1, o.2, c.at j + o.1 - r * c.segBytes)
  | 4 => if r = 0 then (0, c.downBytes j, c.at j) else (0, 0, 0)
  | _ => (0, c.downBytes j, c.at j)

/-- Input and output bytes at this member (R291). -/
def colSrcBytes (b : List Byte) (d : Nat) : Nat :=
  if colKind d = 3 && gdRank b ≠ 0 then 0 else colCount d * colW d / 8
def colDstBytes (b : List Byte) (d : Nat) : Nat :=
  match colKind d with
  | 1 => colCount d / gdN b * colW d / 8
  | 2 => gdN b * colCount d * colW d / 8
  | 4 => if gdRank b = 0 then colCount d * colW d / 8 else 0
  | _ => colCount d * colW d / 8

/-! ### Arithmetic (R296) -/

/-- The random word of element `i` of the collective's vector. -/
def Coll.rand (c : Coll) (i : Nat) : Nat := philox (gdSeed c.gd) i (colTensor c.bits)

def Coll.rnd (c : Coll) : Rnd := if colRnd c.bits = 1 then .sr else .rne

/-- A value converted to a floating-point format under `COL.RND` and SAT 0. -/
def Coll.cvt (c : Coll) (f : FFmt) (i : Nat) (v : FV) : Nat := (encodeF f c.rnd false (c.rand i) v).1

/-- The own input of an element, widened to binary32. -/
def Coll.input (c : Coll) (code : Nat) : Lane := if colFmt c.bits = 2 then rne32 (decodeF fBfloat16 code) else BitVec.ofNat 32 code

/-- A partial on the wire, widened. -/
def Coll.wire (c : Coll) (code : Nat) : Lane :=
  if upWidth c.gd c.bits = 2 then rne32 (decodeF fBfloat16 code) else BitVec.ofNat 32 code

/-- Whether a collective accumulates exactly. -/
def Coll.isExact (c : Coll) : Bool := gdExact c.gd && colOpr c.bits == 0

/-- The Fixed-order accumulation of an element: own input, then the children in rank order. -/
def Coll.fixed (c : Coll) (x : Nat) (ps : List Nat) : Lane :=
  ps.foldl (fun a p =>
    match colOpr c.bits with
    | 0 => fadd a (c.wire p)
    | 1 => fmaxmin true a (c.wire p)
    | _ => fmaxmin false a (c.wire p)) (c.input x)

/-- The Exact accumulation of an element. -/
def Coll.exact (c : Coll) (x : Nat) (ps : List Nat) : BX :=
  let own := if colFmt c.bits = 16 then BX.empty.merge (bxOfNat x) else BX.empty.deposit (c.input x)
  ps.foldl (fun a p => a.merge (bxOfNat p)) own

/-- The partial of element `i`, as its code on the up wire. -/
def Coll.partialCode (c : Coll) (i x : Nat) (ps : List Nat) : Nat :=
  if c.isExact then (c.exact x ps).toNat
  else if upWidth c.gd c.bits = 2 then c.cvt fBfloat16 i (dec32 (c.fixed x ps))
  else (c.fixed x ps).toNat

/-- The result of element `i`, as its code in `COL.FMT`. -/
def Coll.resultCode (c : Coll) (i x : Nat) (ps : List Nat) : Nat :=
  if c.isExact then
    (match colFmt c.bits with
    | 16 => (c.exact x ps).toNat
    | 2 => c.cvt fBfloat16 i (c.exact x ps).value
    | _ => c.cvt fBinary32 i (c.exact x ps).value)
  else c.cvt (if colFmt c.bits = 2 then fBfloat16 else fBinary32) i (dec32 (c.fixed x ps))

/-- The codes of `w`-byte elements. -/
def codesOf (w : Nat) (bs : List Byte) : List Nat := (List.range (bs.length / w)).map (fun i => leNat (slice bs (w * i) w))

/-- A chunk formed from the own input bytes and the children's partials: on the up wire, or as the result. -/
def Coll.form (c : Coll) (j : Nat) (own : List Byte) (kids : List (List Byte)) (result : Bool) : List Byte :=
  let u := upWidth c.gd c.bits
  let w := colW c.bits / 8
  let ks := kids.map (codesOf u)
  let out := (codesOf w own).mapIdx (fun e x =>
    let ps := ks.map (fun l => getAt 0 l e)
    let i := j * chunkElems c.gd c.bits + e
    if result then c.resultCode i x ps else c.partialCode i x ps)
  packCodes (if result then w else u) out

/-! ### Group and instance -/

/-- The group's collective that has not ended, if it is Active. -/
def State.coll? (s : State) (g : Nat) : Option Coll := s.colls.run.find? (fun c => c.group == g && c.ended.isNone)
def State.updColl (s : State) (r : DescRef) (f : Coll → Coll) : State :=
  { s with colls := { s.colls with run := updFirst (fun c => c.ref == r) f s.colls.run } }

def State.gInst (s : State) (g : Nat) : Nat := s.odNum (gIdx 0x5300 g) (gSub g)
def State.setGSt (s : State) (g st : Nat) : State := s.odSetN (gIdx 0x5200 g) (gSub g) st

/-- The group's current instance (R303): the one admitted last, unless the group is Broken. -/
def State.current (s : State) (g : Nat) : Option Nat :=
  if tget false s.colls.begun g && s.gSt g != 3 then some ((s.gInst g + 65535) % 65536) else none

/-- Fingerprints (R300). -/
def descFp (d : Nat) : Nat :=
  crc32c (leBytes 8 (colCount d + 2 ^ 32 * (colFmt d + 2 ^ 5 * (colOpr d + 2 ^ 4 * (colKind d + 2 ^ 4 * colRnd d)))))
def groupFp (b : List Byte) : Nat :=
  crc32c (slice b 1 1 ++ slice b 3 1 ++ slice b 4 1 ++ slice b 5 1 ++ slice b 8 4 ++ slice b 72 8)

/-! ### Packets (R294) -/

/-- A packet's phase, instance, generation, byte offset; its group and chunk. -/
def colPhase (p : Pkt) : Nat := p.win / 16
def colInst (p : Pkt) : Nat := bits 31 16 p.offset
def colGen (p : Pkt) : Nat := bits 39 32 p.offset
def colOff (p : Pkt) : Nat := bits 13 0 p.offset
def auxGroup (p : Pkt) : Nat := bits 31 20 p.aux
def auxChunk (p : Pkt) : Nat := bits 19 0 p.aux
/-- The member reference of a packet's sender. -/
def senderRef (p : Pkt) : Nat := p.spart * 2 ^ 20 + p.src

/-- A COLLECTIVE packet to a member. -/
def State.colPkt (s : State) (c : Coll) (ref phase j off : Nat) (bs : List Byte) : Pkt :=
  { Pkt.req 5 (refCoord ref) (refPart ref) c.part (s.indigoTag c.part) bs with
    win := phase * 16, offset := gdGen c.gd * 2 ^ 32 + c.inst * 2 ^ 16 + off, aux := c.group * 2 ^ 20 + j }

def State.colSend (s : State) (c : Coll) (p : Pkt) : State := s.request (.coll c.ref) p

/-- The 256-byte blocks of a chunk's bytes from an offset. -/
def blocksOf (off : Nat) (bs : List Byte) : List (Nat × List Byte) :=
  (cut256 (bs.length / 256 + 2) off bs.length).map (fun q => (q.1, slice bs (q.1 - off) q.2))

/-- A GRANT (R294, R300). -/
def State.grant (s : State) (c : Coll) (ref limit dir : Nat) : State :=
  s.colSend c (s.colPkt c ref 2 0 0
    (leBytes 4 limit ++ leBytes 1 dir ++ leBytes 3 0 ++ leBytes 4 (descFp c.bits) ++ leBytes 4 (groupFp c.gd)))

/-- A GRANT with direction up to every child. -/
def State.grantUp (s : State) (c : Coll) (limit : Nat) : State :=
  (gdChildren c.gd).foldl (fun s r => s.grant c r limit 0) (s.updColl c.ref (fun c => { c with upSent := limit }))

/-- Sends a chunk's bytes down to the children that it goes to; without a child's grant they wait (R302, R304). -/
def State.sendDown (s : State) (ref : DescRef) (j off : Nat) (bs : List Byte) : State :=
  match s.colls.run.find? (fun c => c.ref == ref) with
  | none => s
  | some c => (gdChildren c.gd).zipIdx.foldl (fun s (x : Nat × Nat) =>
      if !c.downTo j (c.childRank x.2) then s
      else (blocksOf off bs).foldl (fun s b =>
        let p := s.colPkt c x.1 1 j b.1 b.2
        if tget 0 c.downLim x.2 > j then s.colSend c p
        else s.updColl ref (fun c => { c with hold := c.hold ++ [(x.2, p)] })) s) s

/-- Requests of a collective that still await a reply, of one phase and chunk. -/
def State.collOut (s : State) (c : Coll) (q : Pkt → Bool) : Bool :=
  (s.fabric.out ++ s.fabric.waiting).any (fun r => r.owner == .coll c.ref && q r.pkt)

/-! ### Leases (R298, R299, R308) -/

/-- Slots leased from a pool, and its free slots. -/
def State.poolUsed (s : State) (k : Nat) : List Nat :=
  (s.colls.run.flatMap (fun c => c.lease)).filter (fun x => x / 4096 == k)
def State.poolFree (s : State) (k : Nat) : List Nat :=
  ((List.range 4096).map (fun i => 4096 * k + i)).filter (fun x =>
    !(s.poolUsed k).contains x && !s.colls.retired.contains x)

/-- OD 0x5001 and 0x5004 show the pools. -/
def State.showPools (s : State) : State :=
  let s := (List.range 2).foldl (fun s k => s.odSetN 0x5001 (k + 1) (s.poolFree k).length) s
  (List.range 16).foldl (fun s p =>
    s.odSetN 0x5004 (p + 1) ((s.colls.run.filter (fun c => c.part == p)).map (fun c => c.lease.length)).sum) s

/-- Slots of a lease: none for kinds 2 and 3 or without children. -/
def leaseSize (b : List Byte) (d : Nat) : Nat :=
  let n := (gdChildren b).length
  if !colReduces d || n = 0 then 0
  else min (gdDepth b) (colChunks b d) * (if gdExact b && colOpr d = 0 then 1 else n)

/-- The slots granted, or none where the lease is refused (R299). -/
def State.lease (s : State) (p g l : Nat) : Option (List Nat) :=
  let held := ((s.colls.run.filter (fun c => c.part == p)).map (fun c => c.lease.length)).sum
  if l = 0 then some []
  else if held + l > s.odNum 0x5003 (p + 1) then none
  else if (s.poolFree (g % 2)).length ≥ l then some ((s.poolFree (g % 2)).take l)
  else if (s.poolFree (1 - g % 2)).length ≥ l then some ((s.poolFree (1 - g % 2)).take l)
  else none

/-- A slot is retired (R308). -/
def State.retireSlot (s : State) (k : Nat) : State :=
  let s := { s with colls := { s.colls with retired := if s.colls.retired.contains k then s.colls.retired else s.colls.retired ++ [k] } }
  let s := (s.odSetN 0x5020 0 s.colls.retired.length).amber 6 true
  s.showPools.faultRecord 0x0A 1 9 (k / 4096) none false k

/-! ### The end of a collective (R304 to R306) -/

/-- A chunk is done at this member (R304). -/
def State.chunkDone (s : State) (c : Coll) (j : Nat) : Bool :=
  let r := gdRank c.gd
  let k := colKind c.bits
  let forms := if r = 0 then true
    else if k = 2 then decide ((c.own2 j).1 < (c.own2 j).2) else colReduces c.bits
  let recv := r != 0 && c.downTo j r
  (!forms || tget false c.formed j) &&
  !s.collOut c (fun p => decide (p.win / 16 ≤ 1) && auxChunk p == j &&
    (colPhase p == 1 || k != 2 || decide ((c.own2 j).1 ≤ colOff p ∧ colOff p < (c.own2 j).2))) &&
  (!recv || tget 0 c.down j == c.downBytes j) &&
  !(c.hold.any (fun x => auxChunk x.2 == j))

/-- Applies the descriptor write that a group holds, or leaves the group as it is (R305). A pace group that is re-formed drops the SET it
holds, and takes F from the new leader's first one (R430). -/
def State.applyGroup (s : State) (g : Nat) : State :=
  match s.odPending (gIdx 0x5100 g) (gSub g) with
  | none => s
  | some v =>
    let s := s.odApply (gIdx 0x5100 g) (gSub g)
    let s := { s with colls := { s.colls with begun := tset false s.colls.begun g false,
                                              grants := s.colls.grants.filter (fun p => auxGroup p != g) } }
    let s := if g = s.power.group then { s with power := { s.power with next := none, above := none } } else s
    (s.setGSt g (if v.bytes.isEmpty then 0 else 1)).odSetN (gIdx 0x5300 g) (gSub g) 0

/-- The descriptor of a collective that has ended completes, with its done map, once its packets are settled (R306). -/
def State.collFinish (s : State) (c : Coll) : State :=
  match c.ended with
  | none => s
  | some e =>
    if s.collOut c (fun p => colPhase p != 3) then s
    else
      let ends := (List.range c.chunks).foldl (fun (t : Tab UEnd) j => if s.chunkDone c j then tput t j ⟨0, 0, 0⟩ else t) []
      let s := { s with colls := { s.colls with run := s.colls.run.filter (fun x => x.ref != c.ref) } }
      (s.updFlight c.ref (fun f => { f with ends := ends })).flightForce c.ref e

/-- The Lilac record of an admission (1) or an end (2 OK, 3 early) (R542). -/
def State.collTrace (s : State) (c : Coll) (code sub : Nat) : State :=
  s.lilac 3 code c.group (colDst c.bits) (c.inst * 2 ^ 32 + sub * 2 ^ 8 + b2n c.endpoint) (some c.part)

/-- The tree neighbours of this member: its parent and its children. -/
def Coll.neighbours (c : Coll) : List Nat := (if gdRank c.gd = 0 then [] else [gdParent c.gd]) ++ gdChildren c.gd

/-- A collective ends early (R306): Broken, the lease released, ABORT to the tree neighbours but `from_`, and a held
descriptor write applied. -/
def State.collEnd (s : State) (c : Coll) (e : UEnd) (abortSub : Nat) (from_ : Option Nat) : State :=
  let s := (if e.status = 6 then s.odInc 0x5012 e.sub else s).collTrace c 3 (if e.status = 6 then e.sub else 0)
  let s := (s.updColl c.ref (fun c => { c with ended := some e, lease := [] })).setGSt c.group 3
  let s := (c.neighbours.filter (fun r => some r != from_)).foldl (fun s r =>
    s.colSend c (s.colPkt c r 3 0 0 (leBytes 8 abortSub))) s
  let s := (s.applyGroup c.group).showPools
  s.collFinish { c with ended := some e, lease := [] }

/-- A COLLECTIVE_ERROR with a sub-status. -/
def State.collFail (s : State) (c : Coll) (sub : Nat) : State := s.collEnd c ⟨6, sub, 0⟩ sub none

/-- The collective completes OK when every chunk is done (R304, R305). -/
def State.collCheck (s : State) (ref : DescRef) : State :=
  match s.colls.run.find? (fun c => c.ref == ref) with
  | none => s
  | some c =>
    match c.ended with
    | some _ => s.collFinish c
    | none =>
      if (List.range c.chunks).all (s.chunkDone c) then
        let ends := (List.range c.chunks).foldl (fun (t : Tab UEnd) j => tput t j ⟨0, 0, 0⟩) []
        let s := { s with colls := { s.colls with run := s.colls.run.filter (fun x => x.ref != ref) } }
        let s := ((s.setGSt c.group 1).applyGroup c.group).showPools.collTrace c 2 0
        (s.updFlight ref (fun f => { f with ends := ends })).flightForce ref ⟨0, 0, 0⟩
      else s

/-- Leading chunks whose slots are released: the partial is acknowledged, or the result formed (R302). -/
def State.released (s : State) (c : Coll) : Nat :=
  ((List.range c.chunks).find? (fun j =>
    !tget false c.formed j || s.collOut c (fun p => colPhase p == 0 && auxChunk p == j))).getD c.chunks

/-- Raises the children's up limit as slots are released (R302). -/
def State.regrant (s : State) (ref : DescRef) : State :=
  match s.colls.run.find? (fun c => c.ref == ref && c.ended.isNone) with
  | none => s
  | some c =>
    if colReduces c.bits && !(gdChildren c.gd).isEmpty then
      let l := s.released c + gdDepth c.gd
      if l > c.upSent then s.grantUp c l else s
    else s

/-! ### Access to `COL.SRC` and `COL.DST` (R295, R306, R309, R330) -/

/-- How an access of the collective engine ends a collective. -/
def collAcc : Acc → UEnd
  | .address => ⟨7, 0, 0⟩
  | .isolation => ⟨8, 0, 0⟩
  | .uncorrectable => ⟨9, 0, 0⟩
  | .drop _ => ⟨6, 5, 0⟩
  | _ => ⟨6, 7, 0⟩

/-- The sub-status that an ABORT carries for an outcome. -/
def UEnd.abortSub (e : UEnd) : Nat := if e.status = 6 then e.sub else 0

/-- An access that ends the collective. -/
def State.collBad (s : State) (c : Coll) (a : Acc) : State :=
  let e := collAcc a
  (s.noteAcc c.part a).collEnd c e e.abortSub none

/-! ### GRANTs (R300, R302) -/

/-- A GRANT takes effect for the collective that it names (R300, R302). -/
def State.takeGrant (s : State) (ref : DescRef) (p : Pkt) : State :=
  match s.colls.run.find? (fun c => c.ref == ref && c.ended.isNone) with
  | none => s
  | some c =>
    let limit := fieldAt p.payload 0 4
    if fieldAt p.payload 8 4 ≠ descFp c.bits || fieldAt p.payload 12 4 ≠ groupFp c.gd then s.collFail c 8
    else if fieldAt p.payload 4 1 = 0 then
      if senderRef p = gdParent c.gd && gdRank c.gd ≠ 0 && limit > c.upLim then
        let s := s.updColl ref (fun c => { c with upLim := limit })
        if colKind c.bits = 2 then s.grantUp { c with upLim := limit } limit else s
      else s
    else
      match (gdChildren c.gd).idxOf? (senderRef p) with
      | none => s
      | some k =>
        if limit > tget 0 c.downLim k then
          let hold := c.hold.filter (fun x => !(x.1 == k && decide (auxChunk x.2 < limit)))
          let s := s.updColl ref (fun c => { c with downLim := tput c.downLim k limit, hold := hold })
          (c.hold.filter (fun x => x.1 == k && decide (auxChunk x.2 < limit))).foldl (fun s x => s.colSend c x.2) s
        else s

/-! ### Admission (R300) -/

/-- What the dispatch of a COLLECTIVE comes to: it is held, it completes at once with an outcome and a number of units, or
the group admits it. -/
inductive Admit where
  | hold
  | done (e : UEnd) (units : Nat)
  | go (b : List Byte)
  deriving DecidableEq, Repr

/-- Steps 1 to 5 of admission. -/
def State.admission (s : State) (p d : Nat) : Admit :=
  let g := colGroup d
  let b := s.gd g
  if s.gSt g = 0 then .done ⟨6, 2, 0⟩ 1
  else if !colPermitted b d then .done ⟨6, 1, 0⟩ 1
  else
    let u := colChunks b d
    if gdPart b ≠ p then .done ⟨8, 0, 0⟩ u
    else
      let r1 := s.reachAll p (colSrc d) (colSrcBytes b d) false
      let r2 := s.reachAll p (colDst d) (colDstBytes b d) true
      if r1 = .address || r2 = .address then .done ⟨7, 0, 0⟩ u
      else if r1 = .isolation || r2 = .isolation then .done ⟨8, 0, 0⟩ u
      else if s.gSt g = 3 then .done ⟨6, 2, 0⟩ u
      else if s.gSt g = 2 then .hold
      else .go b

/-- Step 6: the instance number, the lease or the endpoint path, Active, the GRANTs, and the GRANTs that were held. -/
def State.admitGo (s : State) (ref : DescRef) (p d : Nat) (b : List Byte) : State :=
  let g := colGroup d
  let inst := s.gInst g
  let s := if leaseSize b d = 0 then s else s.odApply 0x5003 (p + 1)
  let u := colChunks b d
  let l := s.lease p g (leaseSize b d)
  let s := if l.isNone then s.odInc 0x5010 (p + 1) else s
  let s := s.odInc 0x5011 (2 * p + (if l.isNone then 2 else 1))
  let c : Coll := ⟨ref, g, inst, p, d, b, u, l.getD [], l.isNone, 0, 0, [], [], [], [], [], [], none, []⟩
  let s := { s with colls := { s.colls with run := s.colls.run ++ [c], begun := tset false s.colls.begun g true } }
  let s := ((s.setGSt g 2).odSetN (gIdx 0x5300 g) (gSub g) ((inst + 1) % 65536)).showPools.collTrace c 1 0
  let s := if gdRank b = 0 then s else s.grant c (gdParent b) u 1
  let lim := if colReduces d then gdDepth b else if colKind d = 2 && gdRank b = 0 then u else 0
  let s := s.grantUp c lim
  let mine := s.colls.grants.filter (fun q => auxGroup q == g && colInst q == inst)
  let s := { s with colls := { s.colls with grants := s.colls.grants.filter (fun q => !(auxGroup q == g && colInst q == inst)) } }
  mine.foldl (fun s q => s.takeGrant ref q) s

/-! ### Resets and teardown (R309, R310) -/

/-- A native compute-part reset ends every collective: ABORT with 0x05, Broken, and the descriptor completes RESET. -/
def State.collsReset (s : State) : State :=
  s.colls.run.foldl (fun s c =>
    let s := if c.ended.isNone then (s.odInc 0x5012 5).collEnd c ⟨0xB, 3, 0⟩ 5 none else s
    let ends := (List.range c.chunks).foldl (fun (t : Tab UEnd) j => if s.chunkDone c j then tput t j ⟨0, 0, 0⟩ else t) []
    let s := { s with colls := { s.colls with run := s.colls.run.filter (fun x => x.ref != c.ref) } }
    ((s.updFlight c.ref (fun f => { f with ends := ends })).flightForce c.ref ⟨0xB, 3, 0⟩).showPools) s

/-- Teardown of a partition: held descriptor writes are discarded, its collectives end with ABORT 0x05, and its descriptors become Undefined
(R305, R310). -/
def State.collsTeardown (s : State) (p : Nat) : State :=
  let mine := (List.range 4096).filter (fun g => !(s.gd g).isEmpty && gdPart (s.gd g) == p)
  let s := { s with od := { s.od with acc := mine.foldl (fun t g => tdel t (odKey (gIdx 0x5100 g) (gSub g))) s.od.acc } }
  let s := (s.colls.run.filter (fun c => c.part == p)).foldl (fun s c =>
    let s := if c.ended.isNone then s.collEnd c ⟨0xC, 0, 0⟩ 5 none else s
    let ends := (List.range c.chunks).foldl (fun (t : Tab UEnd) j => if s.chunkDone c j then tput t j ⟨0, 0, 0⟩ else t) []
    let s := s.updFlight c.ref (fun f => { f with ends := ends })
    let run := s.colls.run.filter (fun x => x.ref != c.ref)
    { s with colls := { s.colls with run := run } }) s
  (mine.foldl (fun s g =>
    let s := { s with colls := { s.colls with begun := tset false s.colls.begun g false,
                                              grants := s.colls.grants.filter (fun q => auxGroup q != g) } }
    ((s.odSet (gIdx 0x5100 g) (gSub g) (.blob [])).setGSt g 0).odSetN (gIdx 0x5300 g) (gSub g) 0) s).showPools

/-! ### Descriptor writes (R290, R305) -/

/-- A descriptor that R290 accepts: its ranges, its tree, its staging area. `serves` says whether the writer may name its
partition. -/
def State.groupOk (s : State) (b : List Byte) (serves : Nat → Bool) : Bool :=
  let n := gdN b
  let r := gdRank b
  let f := gdFan b
  let c := min f (n - (r * f + 1))
  let kids := (List.range 8).map (fun k => fieldAt b (24 + 4 * k) 4)
  let okRef := fun (x : Nat) => x / 2 ^ 24 == 0
  b.isEmpty ||
  (b.length == 128 && fieldAt b 0 1 == 1 && decide (gdFlags b < 8) && decide (gdPart b < 16) &&
   decide (3 ≤ f) && decide (f ≤ 8) && decide (1 ≤ gdDepth b) && decide (gdDepth b ≤ 64) && fieldAt b 6 2 == 0 &&
   decide (1 ≤ n) && decide (n ≤ 1_048_576) && decide (r < n) && decide (1 ≤ gdTmo b) && decide (gdTmo b ≤ 100_000_000) &&
   (slice b 92 36).all (fun x => x == 0) && !(gdExact b && gdHalf b) && !(gdOz2 b && (gdExact b || gdHalf b)) &&
   okRef (gdParent b) && kids.all okRef && ((List.range 4).map (gdSucc b)).all okRef &&
   (s.part (gdPart b)).st != .absent && serves (gdPart b) &&
   ((gdParent b == refNone) == (r == 0)) &&
   (gdChildren b).length == c && (kids.take c).all (fun x => x != refNone) &&
   ((List.range 4).all (fun k => (gdSucc b k == refNone) == decide (k ≥ n))) &&
   (r != 0 || refCoord (gdSucc b 0) == s.own) &&
   (if c = 0 then gdStage b == 0
    else gdStage b % 0x4000 == 0 && decide (gdDepth b * c * 16384 ≤ gdStageLen b) &&
      decide (gdStage b + gdStageLen b ≤ 16 * stackSize) &&
      s.reachAll (gdPart b) (gdStage b) (gdStageLen b) true == .ok))

/-- An accepted descriptor write is held while the group is Active and applied at once otherwise (R305). -/
def State.groupWrite (s : State) (g : Nat) (b : List Byte) : State :=
  let s := s.odAccept (gIdx 0x5100 g) (gSub g) (.blob b)
  if s.gSt g = 2 then s else s.applyGroup g

end Sys2Proof.Machine
end

