-- ==== Sys2Proof/Machine/CollRows.lean ====
section
/-! DEFINITION. The commands of the collectives: the packets that arrive, the chunk that is combined, the timeout, and what the
replies to a collective's packets do (R294 to R306). -/
namespace Sys2Proof.Machine

/-- The refusal of a COLLECTIVE packet, whose key and source partition are judged first (R295, R310, R349). During a compute-part reset a packet of a described group is answered with status 2 whatever
its instance, as its group may be Broken by that reset (R309). -/
def State.colRefusal (s : State) (p : Pkt) : Option (Nat × Nat) :=
  let g := auxGroup p
  let st := (s.part p.dpart).st
  let cur := s.current g
  if !s.admitted p then some (4, 0)
  else if st == .draining || st == .scrubbing then some (2, s.partTag p.dpart)
  else if s.gSt g = 0 || gdPart (s.gd g) ≠ p.dpart || gdGen (s.gd g) ≠ colGen p then some (1, 0)
  else if s.computeReset then
    some (2, match bitList 24 (s.part p.dpart).clusters with
      | c :: _ => s.resetTag c
      | [] => 0)
  else if cur ≠ some (colInst p) && !(colPhase p == 2 && colInst p == s.gInst g) then some (1, 0)
  else none

/-- The status of a reply for an access that ended the collective (R295, R330). -/
def accReply (a : Acc) : Nat :=
  match a with
  | .uncorrectable => 3
  | .drop _ => 2
  | _ => 1

/-- A COLLECTIVE packet of one phase arrives: refused, acknowledged where its instance is over, or executed by `f`, which
answers it. -/
def colRow (s : State) (phase : Nat) (f : Pkt → Coll → State → Except (Nat × Acc) State) :
    Host.Outcome State Fault Refusal :=
  serve s (fun p => p.op == 5 && colPhase p == phase) (fun p _ s =>
    match s.colRefusal p with
    | some (st, aux) => .ok (s.answer p (s.errorOf p st aux))
    | none =>
      match s.coll? (auxGroup p) with
      | none => .ok (s.answer p (s.ackOf p))
      | some c => if c.inst ≠ colInst p then .ok (s.answer p (s.ackOf p)) else f p c s)

/-- Writes bytes of the result to `COL.DST`: done, held back, or refused, over a granule or sector that it leaves part of and that cannot be
corrected too (R148, R162, R177). -/
def State.colPut (s : State) (c : Coll) (a : Nat) (bs : List Byte) (ecc : Ecc) : Acc × State :=
  if bs.isEmpty then (.ok, s)
  else
    let r := s.access .coll c.part a bs.length true
    if r = .ok then
      let e := s.eccSeen ecc a bs.length
      if e.2 then (.uncorrectable, e.1) else (.ok, e.1.put a bs)
    else (r, s.countBad c.part a bs.length)

/-- A collective's own access has been lost behind a sealed crossing: the chunk is never formed (R57). -/
def Coll.loses (j : Nat) (c : Coll) : Coll := { c with lost := c.lost ++ [j] }

/-- The place of a child's chunk in the staging area (R301). -/
def Coll.stage (c : Coll) (j k : Nat) : Nat :=
  gdStage c.gd + (j % gdDepth c.gd * (gdChildren c.gd).length + k) * 16384

/-- The slot of a child's chunk (R298). -/
def Coll.slotOf (c : Coll) (j k : Nat) : Nat :=
  let n := if c.isExact then 1 else (gdChildren c.gd).length
  getAt 0 c.lease (j % (c.lease.length / max 1 n) * n + (if c.isExact then 0 else k))

/-- UP: a child's bytes enter its slot or the staging area; in kind 2 they go on to the root, which writes them to `COL.DST`
(R296, R301, R302). `bad` says that an Exact slot met an uncorrectable granule in the merge (R308), and `ecc` what a write of part of a granule
or of a sector finds. A write behind a sealed crossing is lost, and the packet is answered by nothing (R57). -/
def execCollUp (bad : Bool) (ecc : Ecc) (s : State) : Host.Outcome State Fault Refusal :=
  colRow s 0 (fun p c s =>
    let j := auxChunk p
    let n := p.payload.length
    let ok := fun (s : State) => .ok (s.answer p (s.ackOf p))
    if j ≥ c.chunks then ok s
    else if colKind c.bits = 2 then
      if gdRank c.gd ≠ 0 then ok (s.colSend c (s.colPkt c (gdParent c.gd) 0 j (colOff p) p.payload))
      else
        let at_ := colDst c.bits + c.at j + colOff p
        let w := s.colPut c at_ p.payload ecc
        if s.sealedRange at_ n then .ok s
        else if w.1.waits then .error (c.part, w.1)
        else if w.1 = .ok then
          ok (w.2.updColl c.ref (fun c => { c with got := tput c.got (8 * j) (tget 0 c.got (8 * j) + n) }))
        else .ok ((w.2.collBad c w.1).answer p (s.errorOf p (accReply w.1) (if accReply w.1 = 2 then s.partTag p.dpart else 0)))
    else
      match (gdChildren c.gd).idxOf? (senderRef p) with
      | none => ok s
      | some k =>
        let key := 8 * j + k
        let got := fun (c : Coll) => { c with got := tput c.got key (tget 0 c.got key + n) }
        if tget false c.formed j then ok s
        else if c.endpoint then
          let w := s.colPut c (c.stage j k + colOff p) p.payload ecc
          if w.1.waits then .error (c.part, w.1)
          else if w.1 = .ok then ok (w.2.updColl c.ref got)
          else .ok ((w.2.collBad c w.1).answer p (s.errorOf p (accReply w.1) (if accReply w.1 = 2 then s.partTag p.dpart else 0)))
        else if bad && c.isExact then
          .ok (((s.retireSlot (c.slotOf j k)).collFail c 9).answer p (s.errorOf p 3 0))
        else
          let cell := (p.payload.zipIdx).foldl (fun (t : Tab Byte) x => tput t (colOff p + x.2) x.1) (tget [] c.slots key)
          ok (s.updColl c.ref (fun c => { got c with slots := tput c.slots key cell })))

/-- DOWN: the bytes of the own segment are written, and the packet is forwarded; `ecc` is what a write of part of a granule or of a sector
finds. A write behind a sealed crossing is lost, and the packet is answered by nothing (R57, R295, R304). -/
def execDownPhase (ecc : Ecc) (s : State) : Host.Outcome State Fault Refusal :=
  colRow s 1 (fun p c s =>
    let j := auxChunk p
    let o := colOff p
    let n := p.payload.length
    if j ≥ c.chunks then .ok (s.answer p (s.ackOf p))
    else
      let d := c.dstPart j
      let lo := max o d.1
      let hi := min (o + n) d.2.1
      let at_ := colDst c.bits + d.2.2 + (lo - d.1)
      let w := s.colPut c at_ (slice p.payload (lo - o) (hi - lo)) ecc
      if s.sealedRange at_ (hi - lo) then .ok s
      else if w.1.waits then .error (c.part, w.1)
      else if w.1 = .ok then
        let s := w.2.updColl c.ref (fun c => { c with down := tput c.down j (tget 0 c.down j + n) })
        let s := s.sendDown c.ref j o p.payload
        .ok ((s.answer p (s.ackOf p)).collCheck c.ref)
      else .ok ((w.2.collBad c w.1).answer p (s.errorOf p (accReply w.1) (if accReply w.1 = 2 then s.partTag p.dpart else 0))))

/-- GRANT: a limit rises; one for the next instance is held until that is admitted (R302). -/
def execCollGrant (s : State) : Host.Outcome State Fault Refusal :=
  serve s (fun p => p.op == 5 && colPhase p == 2) (fun p _ s =>
    match s.colRefusal p with
    | some (st, aux) => .ok (s.answer p (s.errorOf p st aux))
    | none =>
      let s := s.answer p (s.ackOf p)
      if s.current (auxGroup p) ≠ some (colInst p) then
        .ok { s with colls := { s.colls with grants := s.colls.grants ++ [p] } }
      else match s.coll? (auxGroup p) with
        | none => .ok s
        | some c => .ok ((s.takeGrant c.ref p).collCheck c.ref))

/-- ABORT from a tree neighbour: the collective ends with 0x04, and the sub-status of the member where it first ended goes on; one from
anywhere else is acknowledged and does nothing (R306; the latter DESIGN CHOICE, log entry 167). -/
def execCollectiveAbort (s : State) : Host.Outcome State Fault Refusal :=
  colRow s 3 (fun p c s =>
    if !c.neighbours.contains (senderRef p) then .ok (s.answer p (s.ackOf p))
    else .ok ((s.collEnd c ⟨6, 4, 0⟩ (fieldAt p.payload 0 1) (some (senderRef p))).answer p (s.ackOf p)))

/-- Every contribution of a chunk that this member waits for is present, and its parent lets it send (R301, R302). -/
def State.readyChunk (s : State) (c : Coll) (j : Nat) : Bool :=
  let kids := (gdChildren c.gd).length
  decide (j < c.chunks) && !tget false c.formed j && !c.lost.contains j && (s.coll? c.group).isSome &&
  (match colKind c.bits with
  | 3 => gdRank c.gd == 0
  | 2 =>
    let o := c.own2 j
    if gdRank c.gd = 0 then tget 0 c.got (8 * j) + (o.2 - o.1) == c.downBytes j
    else decide (o.1 < o.2) && decide (c.upLim > j)
  | _ => (List.range kids).all (fun k => tget 0 c.got (8 * j + k) == c.upBytes j) &&
      (gdRank c.gd == 0 || decide (c.upLim > j)))

def Coll.markFormed (j : Nat) (c : Coll) : Coll :=
  { c with formed := tput c.formed j true, slots := c.slots.filter (fun e => e.1 / 8 != j) }

/-- The bytes that a child has contributed to a chunk. -/
def State.kidBytes (s : State) (c : Coll) (j k : Nat) : List Byte :=
  if c.endpoint then s.rdRange c.part (c.stage j k) (c.upBytes j)
  else (List.range (c.upBytes j)).map (fun i => tget 0 (tget [] c.slots (8 * j + k)) i)

/-- Sends a chunk up, from an offset in it. -/
def State.sendUp (s : State) (c : Coll) (j off : Nat) (bs : List Byte) : State :=
  (blocksOf off bs).foldl (fun s b => s.colSend c (s.colPkt c (gdParent c.gd) 0 j b.1 b.2)) s

/-- The own input of a chunk, as address and length, and where the root puts its part of the result. -/
def Coll.ownIn (c : Coll) (j : Nat) : Nat × Nat :=
  match colKind c.bits with
  | 2 => (colSrc c.bits + (c.at j + (c.own2 j).1 - gdRank c.gd * c.segBytes), (c.own2 j).2 - (c.own2 j).1)
  | 3 => (colSrc c.bits + c.at j, c.downBytes j)
  | _ => (colSrc c.bits + c.at j, c.elems j * (colW c.bits / 8))
def Coll.rootOut (c : Coll) (j : Nat) : Nat × Nat :=
  if colReduces c.bits then (colDst c.bits + (c.dstPart j).2.2, (c.dstPart j).2.1 - (c.dstPart j).1)
  else (colDst c.bits + c.at j + (if colKind c.bits = 2 then (c.own2 j).1 else 0), (c.ownIn j).2)

/-- The node's own work on a chunk: its partial goes up, or at the root the result is written and goes down (R296, R304).
`bad` names a child's slot in which the read met an uncorrectable granule (R308); `ecc` is what the read of the own input finds, and `dest` what
a write of part of a granule or of a sector does (R306). -/
def State.combine (s : State) (c : Coll) (j : Nat) (bad : Option Nat) (ecc dest : Ecc) : Except (Nat × Acc) State :=
  let root := gdRank c.gd == 0
  let kids := List.range (gdChildren c.gd).length
  let own := c.ownIn j
  let r := if own.2 = 0 then Acc.ok else s.access .coll c.part own.1 own.2 false
  let st := if c.endpoint && colReduces c.bits then
      (kids.map (fun k => s.access .coll c.part (c.stage j k) (c.upBytes j) false)).find? (fun a => a != .ok)
    else none
  let dst := c.rootOut j
  if s.sealedRange own.1 own.2 || root && s.sealedRange dst.1 dst.2 then .ok (s.updColl c.ref (Coll.loses j))
  else if r.waits then .error (c.part, r)
  else if r ≠ .ok then .ok ((s.countBad c.part own.1 own.2).collBad c r)
  else match st with
  | some a => if a.waits then .error (c.part, a) else .ok (s.collFail c 9)
  | none =>
    match (if c.endpoint || kids.isEmpty || !colReduces c.bits then none else bad) with
    | some k => .ok ((s.retireSlot (c.slotOf j k)).collFail c 9)
    | none =>
      let mine := s.rdRange c.part own.1 own.2
      let seen := s.readSeen (if own.2 = 0 then .ok 0 else ecc) c.part own.1 own.2
      let s := seen.1
      if seen.2 then .ok (s.collBad c .uncorrectable)
      else if colReduces c.bits then
        let out := c.form j mine (kids.map (s.kidBytes c j)) root
        if !root then .ok (((s.updColl c.ref (Coll.markFormed j)).sendUp c j 0 out).collCheck c.ref)
        else
          let p := s.colPut c dst.1 (slice out (c.dstPart j).1 dst.2) dest
          if p.1.waits then .error (c.part, p.1)
          else if p.1 ≠ .ok then .ok (p.2.collBad c p.1)
          else .ok ((((p.2.updColl c.ref (Coll.markFormed j)).sendDown c.ref j 0 out).regrant c.ref).collCheck c.ref)
      else if !root then
        .ok (((s.updColl c.ref (Coll.markFormed j)).sendUp c j (c.own2 j).1 mine).collCheck c.ref)
      else
        let p := s.colPut c dst.1 mine dest
        if p.1.waits then .error (c.part, p.1)
        else if p.1 ≠ .ok then .ok (p.2.collBad c p.1)
        else
          let all := if colKind c.bits = 2 then p.2.rdRange c.part (colDst c.bits + c.at j) (c.downBytes j) else mine
          .ok (((p.2.updColl c.ref (Coll.markFormed j)).sendDown c.ref j 0 all).collCheck c.ref)

/-- CHUNK_COMBINED: the node does its own work on a chunk (R301). -/
def execChunkCombined (group : Fin 4096) (chunk : Fin 1048576) (bad : Option (Fin 8)) (ecc dest : Ecc) (s : State) :
    Host.Outcome State Fault Refusal :=
  match s.coll? group with
  | none => .next s
  | some c =>
    if s.readyChunk c chunk then .next (s.orHeld (s.combine c chunk (bad.map Fin.val) ecc dest)) else .next s

/-- COLLECTIVE_TIMEOUT: the timeout of the group's collective runs out; it is frozen while a table swap stops the fabric
(R306). -/
def execCollectiveTimeout (group : Fin 4096) (s : State) : Host.Outcome State Fault Refusal :=
  match s.coll? group with
  | none => .next s
  | some c => if s.fabric.stopped then .next s else .next (s.collFail c 3)

/-! ### Replies (R295, R306) -/

/-- A packet of a collective has been acknowledged. -/
def State.collAcked (s : State) (ref : DescRef) : State :=
  match s.colls.run.find? (fun c => c.ref == ref) with
  | none => s
  | some c => (s.regrant c.ref).collCheck c.ref

/-- A packet has drawn an ERROR, or its final timeout (status 16): the collective ends with the sub-status of R306. A DOWN answered with status 1
met either the first or the third row of R295; the reply does not say which, so the sub-status is one of the two, left free (log entry 167). -/
def State.collRefused (s : State) (ref : DescRef) (st : Nat) (p : Pkt) : State :=
  match s.colls.run.find? (fun c => c.ref == ref) with
  | none => s
  | some c =>
    if c.ended.isSome then s.collFinish c
    else if colPhase p = 3 then s
    else if st = 1 && colPhase p = 1 then
      let f := s.freeVal 1
      f.2.collFail c (if f.1 = 1 then 7 else 2)
    else s.collFail c (match st with
      | 1 => 2
      | 2 => 5
      | 3 => 9
      | 4 => 7
      | 7 => 0xA
      | _ => 6)

end Sys2Proof.Machine
end

