-- ==== Sys2Proof/Machine/ContextOps.lean ====
section
/-! DEFINITION. Contexts from launch to end: the dispatch entry, the program copy, the switch, releases, faults found after
issue, and the report of a drained context (R88 to R92, R94, R119 to R124). -/
namespace Sys2Proof.Machine

/-- Two regions of the instruction store share an instruction. -/
def regionsMeet (b l b' l' : Nat) : Bool := decide (b < b' + l') && decide (b' < b + l)

/-- Why a launch is refused beside the resident contexts: 1 region overlap, 2 accumulator granted (R89, R226). -/
def Core.refuses (c : Core) (l : Launch) : Option Nat :=
  let res := (List.range 4).filter (fun k => (c.slot k).st != .empty)
  if res.any (fun k => let x := (c.slot k).launch; regionsMeet x.base x.len l.base l.len) then some 1
  else if res.any (fun k => let x := (c.slot k).launch; (x.acc0 && l.acc0) || (x.acc1 && l.acc1)) then some 2
  else none

/-- A slot at launch: PC 0, s1 to s6 the arguments, everything else cleared, and the granted accumulator sets hold 0
(R89, R123, R124, R145). -/
def Core.launch (c : Core) (k : Nat) (l : Launch) : Core :=
  let x : Ctx := { Ctx.blank with
    st := .loading, launch := l,
    sreg := (List.range 6).foldl (fun t i => tset 0 t (i + 1) (getAt 0 l.args i)) [] }
  let c := c.withSlot k x
  { c with acc0 := if l.acc0 then AccSet.blank else c.acc0, acc1 := if l.acc1 then AccSet.blank else c.acc1 }

/-- DISPATCH_ENTRY: the first waiting entry of a core takes its lowest Empty slot and its program copy starts, or it is refused
and its unit ends REFUSED. It waits for a slot, for a destroying March test, for a reset, and for the replays of its core
(R89, R90, R169, R385). -/
def execDispatchEntry (core : Fin 288) (s : State) : Host.Outcome State Fault Refusal :=
  let n := core.val
  let c := s.core n
  let testing := match c.march with | some m => m.destroy | none => false
  match c.waitq, (List.range 4).find? (fun k => (c.slot k).st == .empty) with
  | l :: rest, some k =>
    if testing || s.coreBlocked n || s.coreSealed n || s.sealed (clusterOf n) 16 || s.faults.replays.any (fun r => r.core == n) then .next s
    else
      let s := s.setCore n { c with waitq := rest }
      match c.refuses l with
      | some sub => .next (s.coreEnd l.desc n ⟨3, sub, 0⟩)
      | none => .next (s.setCore n ((s.core n).launch k l))
  | _, _ => .next s

/-- The program copy ends in a fault: it is recorded, an address fault with the program's address, and the context drains (R90, R119,
R123). -/
def State.copyFault (s : State) (n k code : Nat) : State :=
  s.setCore n ((s.core n).fault k code 0 0 (if code = 7 then ((s.core n).slot k).launch.prog else 0))

/-- PROGRAM_COPY_COMPLETE: the program stands in the instruction region and the context becomes Ready; a read that the
address rules refuse is a fault on the copy; a replay copies
from the committed view (R31, R89, R90, R386). -/
def execProgramCopyComplete (core : Fin 288) (slot : Fin 4) (s : State) : Host.Outcome State Fault Refusal :=
  let n := core.val
  let x := (s.core n).slot slot.val
  if x.st ≠ .loading then .next s
  else
    let l := x.launch
    let a := s.readAt n slot.val l.prog
    let r := s.access (.dma n) l.part a (8 * l.len) false
    if r.waits || s.coreSealed n || s.sealed (clusterOf n) 18 then .next s
    else if r ≠ .ok then
      .next (((s.noteAcc l.part r).countBad l.part a (8 * l.len)).copyFault n slot.val (accFault r))
    else
      let s := (s.readSeen (.ok 0) l.part a (8 * l.len)).1.wr (istoreBase n + 8 * l.base) (s.rdRange l.part a (8 * l.len))
      .next (s.setCore n ((s.core n).withSlot slot.val { x with st := .ready }))

/-- PROGRAM_COPY_FAULT: the copy meets an address that it may not read, or an uncorrectable word; each is counted where it is found (R31,
R90, R119, R162, R177, R347). -/
def execProgramCopyFault (core : Fin 288) (slot : Fin 4) (uncorrectable : Bool) (s : State) :
    Host.Outcome State Fault Refusal :=
  let n := core.val
  let x := (s.core n).slot slot.val
  if x.st ≠ .loading || s.coreSealed n || s.sealed (clusterOf n) 18 then .next s
  else
    let l := x.launch
    let a := s.readAt n slot.val l.prog
    let r := s.access (.dma n) l.part a (8 * l.len) false
    let e := s.readSeen .uncorrectable l.part a (8 * l.len)
    if r.waits then .next s
    else if r ≠ .ok then .next (((s.noteAcc l.part r).countBad l.part a (8 * l.len)).copyFault n slot.val (accFault r))
    else if uncorrectable && e.2 then .next (e.1.copyFault n slot.val 0x0B)
    else .next s

/-- CONTEXT_SWITCH: with nothing Running, the first Ready slot after the current one runs (R90, R91). -/
def execContextSwitch (core : Fin 288) (s : State) : Host.Outcome State Fault Refusal :=
  .next (s.setCore core.val (s.core core.val).switch)

/-- COUNTER_CHANGED: EV03 reports a change, and every Waiting context whose condition holds becomes Ready (R90, R94). -/
def execCounterChanged (core : Fin 288) (s : State) : Host.Outcome State Fault Refusal :=
  .next (s.releaseCore core.val)

/-- The started operation of a slot with a word is abandoned, and signals nothing: a T-op, a V-op or an M-op (R121). -/
def State.abandonOp (s : State) (n k code : Nat) (w : Word) : State :=
  let c := s.core n
  let is := fun (q : QOp) => q.slot == k && q.w == w
  match c.tRun.filter is with
  | some q => s.setCore n { tAbandon c q with tRun := none }
  | none =>
    if c.vRun.any is then s.setCore n { c with vRun := none }
    else match c.mops.find? (fun m => m.slot == k && m.w == w && m.phase == .started && m.err == 0) with
    | none => s
    | some m => if m.left = 0 then s.dropMop n m.id else s.updMop n m.id (fun m => { m with err := code })

/-- ASYNCHRONOUS_FAULT: a fault with a code of R119, of an issued instruction, is found in a resident context, which drains;
its queued, unstarted work is discarded, and the faulting operation, where it has started, is abandoned (R90, R119, R121). -/
def execAsynchronousFault (core : Fin 288) (slot : Fin 4) (word : Word) (code : Fin 14) (info : Addr) (s : State) :
    Host.Outcome State Fault Refusal :=
  if code.val = 0 then .next s
  else .next (((s.abandonOp core.val slot.val code.val word).asyncFault core.val slot.val word code.val info.toNat).releaseCore core.val)

/-- The end that a drained context reports: OK after END, FAULT with its code, core and PC otherwise (R221, R225, R226). -/
def Ctx.endStatus (x : Ctx) (n : Nat) : UEnd :=
  if x.faultCode = 0 then ⟨0, 0, 0⟩ else ⟨4, x.faultCode, n * 2 ^ 23 + x.pc * 2 ^ 9⟩

/-- CONTEXT_DRAINED: a Draining context's last operation has ended; its slot is Empty, its region and grants are released, and
the dispatcher learns how it ended. A replayed suspect is let go without a report, for its verdict ends it (R90, R385, R386). -/
def execContextDrained (core : Fin 288) (slot : Fin 4) (s : State) : Host.Outcome State Fault Refusal :=
  let n := core.val
  let k := slot.val
  let c := s.core n
  let x := c.slot k
  if x.st ≠ .draining || c.tBusy k || c.vBusy k || c.mBusy k then .next s
  else
    let s := s.setCore n (c.withSlot k { x with st := .empty })
    .next (if x.launch.replay then s else s.coreEnd x.launch.desc n (x.endStatus n))

end Sys2Proof.Machine
end

