-- ==== Sys2Proof/Machine/Stacks.lean ====
section
/-! DEFINITION. The commands of the memory stacks: reads and their correction, writes and the ledger, the patrol, the spare
pair, and the delivery of colours and decisions (R176 to R181, R198 to R202, R340). -/
namespace Sys2Proof.Machine

/-- The Cobalt die of a stack has its islands gated (R175, R435). -/
def State.stackGated (s : State) (k : Nat) : Bool := s.dieGated (if k < 8 then 1 else 2)

/-- HBM_READ: the base die settles a sector read of a partition, from its hot-row cache, or from the DRAM with a number of symbols in
error (R177, R203). It waits behind a write of its partition to the sector that waits (R32). A read that the partition checks do not admit is counted, and no plaintext leaves (R31, R174, R347). -/
def execHbmRead (part : Fin 16) (addr : Addr) (parity : Bool) (errs : Nat) (s : State) : Host.Outcome State Fault Refusal :=
  let x := 64 * (addr.toNat / 64)
  match s.region x with
  | .hbm x =>
    if s.reach part x false ≠ .ok then .next (s.countReach part (s.reach part x false))
    else if s.stackGated (stackOf x) || s.restoring (x / 64) ||
      s.memory.held.any (fun h => h.part == part.val && (sectorsOf h.addr h.bytes.length).contains (x / 64)) then .next s
    else
      let c := s.hotRead x parity
      let r := if c.2 && !c.1.memory.bad.contains (x / 64) then (c.1, true) else c.1.decodeSector x errs
      .next (r.1.emit (.memData x (if r.2 then some (r.1.rdN x 64) else none)))
  | _ => .next s

/-- SECTOR_WRITE: a partition's write within a sector passes through the base die: logged where R199 asks for it, waiting
where there is no room, dropped in a Doomed epoch (R199, R202, R330). -/
def execSectorWrite (part : Fin 16) (addr : Addr) (data : List Byte) (s : State) : Host.Outcome State Fault Refusal :=
  let a := addr.toNat
  match s.region a with
  | .hbm x =>
    if s.stackGated (stackOf x) then .next s
    else match s.reachAll part a data.length true with
    | .ok =>
      if (sectorsOf a data.length).any (fun k => s.memory.bad.contains k && (pieceOf a data k).2.length < 64) then
        .next (s.countBad part a data.length)
      else
        let g := s.gate a data.length
        let s := s.noteGate g
        (match g with
          | .go => .next (s.hbmPut a data)
          | .drop _ => .next s
          | _ => .next { s with memory := { s.memory with held := s.memory.held ++ [⟨part, a, data⟩] } })
    | r => .next (s.countReach part r)
  | _ => .next s

/-- LEDGER_ROOM_FREED: the writes that wait at a stack proceed in order where nothing holds them any more; in a Doomed
epoch those without room are dropped (R202, R330). -/
def execLedgerRoomFreed (stack : Fin 16) (s : State) : Host.Outcome State Fault Refusal :=
  let all := s.memory.held
  if s.stackGated stack then .next s
  else .next (all.foldl (fun s h =>
    if stackOf h.addr ≠ stack then { s with memory := { s.memory with held := s.memory.held ++ [h] } }
    else match s.gate h.addr h.bytes.length with
      | .go => s.hbmPut h.addr h.bytes
      | .drop p => s.odInc 0x5852 (p + 1)
      | _ => { s with memory := { s.memory with held := s.memory.held ++ [h] } })
    { s with memory := { s.memory with held := [] } })

/-- COMMITTED_VIEW_READ: a partition reads a sector through a committed view: the before-image while the sector's epoch
bit is set, else the live sector; held while a decision is being delivered (R201, R340). -/
def execCommittedViewRead (part : Fin 16) (addr : Addr) (s : State) : Host.Outcome State Fault Refusal :=
  let a := 64 * (addr.toNat / 64)
  match s.hbmOf part a with
  | some (x, true) =>
    (match s.reach part a false with
      | .ok =>
        if s.stackGated (stackOf x) || s.memory.deciding.any (fun d => some d.1 == s.holder x) then .next s
        else if s.uncorrectable x true then .next ((s.odInc 0x8021 (stackOf x + 1)).emit (.memData a none))
        else .next ((s.readSeen (.ok 0) part a 64).1.emit (.memData a (some (s.rdRange part a 64))))
      | r => .next (s.countReach part r))
  | _ => .next s

/-- PATROL_READ: the patrol reads a stack's next sector in an idle slot, from sector 0 on as the module has left Grey; an uncorrectable one is
counted and reported; a pass that has read every sector starts again with the interval then in force (R178, R413, R492; that sectors go in rising order
DEDUCED from R413, log entry 179). -/
def execPatrolRead (stack : Fin 16) (errs : Nat) (s : State) : Host.Outcome State Fault Refusal :=
  let k := stack.val
  if s.life.svc == .grey || s.stackGated k then .next s
  else
    let n := tget 0 s.memory.patrol k
    let r := s.decodeSector (k * stackSize + 64 * n) errs
    let s := if r.2 then r.1 else r.1.raise 0x000A 0x8021 (k + 1) k
    if n + 1 = stackSize / 64 then
      .next ({ s with memory := { s.memory with patrol := tset 0 s.memory.patrol k 0 } }.odApply 0x8030 0)
    else .next { s with memory := { s.memory with patrol := tset 0 s.memory.patrol k (n + 1) } }

/-! ### The spare pair (R180, R181) -/

/-- AC.PAIR: a spare has failed, or a pair marked failing has not been swapped (R181, R406). -/
def State.pairAmber (s : State) : State :=
  s.amber 7 ((List.range 16).any (fun k =>
    let st := s.odNum 0x8011 (k + 1)
    let served := if st = 3 then 2 ^ s.odNum 0x8010 (k + 1) else 0
    st == 4 || (s.odNum 0x2120 (k + 1) ^^^ (s.odNum 0x2120 (k + 1) &&& served)) != 0))

/-- A spare pair's state changes, with its event, and fault 0x0B when the spare has failed (R181, R371, R492). -/
def State.spareGo (s : State) (k st : Nat) : State :=
  let s := ((s.odSetN 0x8011 (k + 1) st).raise 0x000A 0x8011 (k + 1) k).pairAmber
  if st = 4 then s.faultRecord 0x0B 1 3 k none false (s.odNum 0x8010 (k + 1)) else s

/-- Whether a value may be written to OD 0x8010 (R180, R181). -/
def State.spareOk (s : State) (k v : Nat) : Bool :=
  (v < 32 || v == 0xFF) && s.odNum 0x8011 (k + 1) != 3 && s.odNum 0x8011 (k + 1) != 4

/-- A write of OD 0x8010 takes effect at once: mirroring and the copy start, or stop (R180, R181). DESIGN CHOICE: a channel written while the
pair is Migrating or Armed starts Migrating again with that channel (log entry 185). -/
def State.spareWrite (s : State) (k v : Nat) : State :=
  let s := s.odSetN 0x8010 (k + 1) v
  if v = 0xFF then (if s.odNum 0x8011 (k + 1) = 0 then s else s.spareGo k 0) else s.spareGo k 1

/-- SPARE_PAIR_COPY_DONE: the copy ends and the pair is Armed (R180). -/
def execSparePairCopyDone (stack : Fin 16) (s : State) : Host.Outcome State Fault Refusal :=
  if s.odNum 0x8011 (stack + 1) = 1 then .next (s.spareGo stack 2) else .next s

/-! ### Colours and decisions (R198, R200, R329, R340) -/

/-- EPOCH_COLOUR_DELIVERY: the stacks take the partition's next colour together, once its delivery has started (`State.colourStart`); the member opens, or is Doomed where an abort is held, and the EPOCH_BEGIN completes (R198, R329). -/
def execEpochColourDelivery (part : Fin 16) (s : State) : Host.Outcome State Fault Refusal :=
  let e := s.ep part
  match e.beginDesc with
  | none => .next s
  | some r =>
    let c := e.colour % 3 + 1
    if !s.memory.delivering.contains part.val then .next s
    else
      let short := s.memory.short.filter (fun x => s.holder (64 * x.sector) != some part.val)
      let s := { s with memory := { s.memory with
        delivering := s.memory.delivering.filter (fun p => p != part.val), short := short } }.pulse 7 part
      let s := s.odSetN 0x8061 (part + 1) c
      let s := s.setEp part { e with beginDesc := none, colour := c, failed := false, counted := false, voteDesc := none,
                                     forwarded := false, clearKept := false, restored := false, sentUp := false, asked := 0 }
      let held := ((s.agent e.group).heldDec e.epoch).filter (fun d => d.value == 2)
      let s := match held with
        | some d =>
          let s := ((s.epCause part d.cause).epGo part .doomed).toChildren part 5 2 d.cause
          s.setEp part { s.ep part with forwarded := true }
        | none => s.epGo part .opened
      let s := if e.tree.rank = 0 then s.coCollect e.group e.epoch else s
      .next (s.unitEnd r 0 ⟨0, 0, 0⟩)

/-- The 16 sweeps or restores of a decided epoch. -/
def allStacks (p c : Nat) (restore : Bool) : List StackWork := (List.range 16).map (fun k => ⟨p, k, c, restore⟩)

/-- EPOCH_DECISION_DELIVERY: the decision has reached all 16 stacks: a sweep starts and the colour is no longer current,
or a restore starts (R200, R340). -/
def execEpochDecisionDelivery (part : Fin 16) (s : State) : Host.Outcome State Fault Refusal :=
  match s.memory.deciding.find? (fun d => d.1 == part.val) with
  | none => .next s
  | some d =>
    let c := (s.ep part).colour
    let m := { s.memory with deciding := s.memory.deciding.erase d, work := s.memory.work ++ allStacks part c (!d.2) }
    if d.2 then
      let m := { m with ledger := updAll (fun e => e.part == part.val && !e.committed) (fun e => { e with committed := true }) m.ledger }
      .next (({ s with memory := m }.odSetN 0x8061 (part + 1) 0).colourStart part)
    else .next ({ s with memory := m }.colourStart part)

/-- Staged ledger settings apply when the partition is Closed and no sweep of its ledger remains (R318). A new slice's log starts at its first
entry (DESIGN CHOICE, log entry 19). -/
def State.ledgerSettings (s : State) (p : Nat) : State :=
  if (s.ep p).st = .closed && !(s.memory.work.any (fun w => w.part == p)) && !(s.memory.deciding.any (fun d => d.1 == p)) then
    let t := s.odApplyAll [(0x5830, p + 1), (0x5840, p + 1), (0x5841, p + 1)]
    if t.odNum 0x5840 (p + 1) = s.odNum 0x5840 (p + 1) && t.odNum 0x5841 (p + 1) = s.odNum 0x5841 (p + 1) then t
    else { t with memory := { t.memory with tail := t.memory.tail.filter (fun e => e.1 / 16 != p) } }
  else s

/-- The end of a partition's last work on a stack: where it has freed too little room for the writes that wait, that is reported; otherwise a
write that yet finds none reports it (R323). -/
def State.stillFull (s : State) (p stack : Nat) : State :=
  let mine := fun (x : Short) => stackOf (64 * x.sector) == stack && s.holder (64 * x.sector) == some p
  if s.memory.work.any (fun w => w.part == p && w.stack == stack) || !s.memory.short.any mine then s
  else if s.sliceRoom p stack < ((s.memory.short.filter mine).map (·.need)).sum then s.fullReport p stack
  else { s with memory := { s.memory with short := updAll mine (fun x => { x with told := false }) s.memory.short } }

/-- SWEEP_END: the sweep of a committed epoch ends on a stack: colours that still equal the committed one become 0 and its
entries are released (R200). -/
def execSweepEnd (stack part : Fin 16) (s : State) : Host.Outcome State Fault Refusal :=
  match s.memory.work.find? (fun w => w.part == part.val && w.stack == stack.val && !w.restore) with
  | none => .next s
  | some w =>
    let mine := fun (e : LEntry) => e.part == part.val && stackOf (64 * e.sector) == stack.val && e.colour == w.colour && e.committed
    let m := s.memory
    let col := (m.ledger.filter mine).foldl (fun c e =>
      if tget 0 c e.sector = w.colour then tset 0 c e.sector 0 else c) m.colour
    let s := { s with memory := { m with colour := col, ledger := m.ledger.filter (fun e => !mine e), work := m.work.erase w } }
    .next ((((s.showLedger part).stillFull part stack).ledgerSettings part).colourStart part)

/-- Writes before-images back with colour 0 and releases their entries; one whose check fails is counted, and its sector reads as uncorrectable
(R200, R321). -/
def State.restoreEntries (s : State) (mine : LEntry → Bool) : State :=
  let s := (s.memory.ledger.filter mine).foldl (fun s e =>
    let m := s.memory
    let bad := m.bad.filter (fun x => x != e.sector)
    let lost := s.entryBad e
    let s := { s with memory := { m with colour := tset 0 m.colour e.sector 0, bad := if e.uncorr || lost then bad ++ [e.sector] else bad } }
    (if lost then s.odInc 0x8021 (stackOf e.at_ + 1) else s).wr (64 * e.sector) e.before) s
  { s with memory := { s.memory with ledger := s.memory.ledger.filter (fun e => !mine e) } }

/-- RESTORE_END: a stack ends the restore of an aborted epoch: every before-image is written back with colour 0 and its
entries are released; with the last of the 16 stacks the member is Fenced (R200, R321, R329). Until then the epoch is open, and a first
write to a sector of a stack that has ended its restore is logged (R329, R331). R200 restores every entry of the aborted epoch and does not
say when such a late one is restored: DESIGN CHOICE, with the last stack's end (log entry 164). -/
def execRestoreEnd (stack part : Fin 16) (s : State) : Host.Outcome State Fault Refusal :=
  match s.memory.work.find? (fun w => w.part == part.val && w.stack == stack.val && w.restore) with
  | none => .next s
  | some w =>
    let mine := fun (e : LEntry) => e.part == part.val && e.colour == w.colour && !e.committed
    let s := s.restoreEntries (fun e => mine e && stackOf (64 * e.sector) == stack.val)
    let s := { s with memory := { s.memory with work := s.memory.work.erase w } }
    let s := (s.showLedger part).stillFull part stack
    if s.memory.work.any (fun w => w.part == part.val && w.restore) then .next s
    else
      let s := ((s.restoreEntries mine).showLedger part).odSetN 0x8061 (part + 1) 0
      .next ((((if (s.ep part).st = .restoring then s.enterFenced part else s)).ledgerSettings part).colourStart part)

end Sys2Proof.Machine
end

