-- ==== Sys2Proof/Machine/EpochRows.lean ====
section
/-! DEFINITION. The commands of the epoch protocol: the packets that arrive, the timers, and what the replies to the agents'
packets do (R326 to R337). -/
namespace Sys2Proof.Machine

/-- The fields of an EPOCH packet (R326). -/
def epKind (p : Pkt) : Nat := bits 19 16 p.aux
def epGen (p : Pkt) : Nat := bits 15 8 p.aux
def epTerm (p : Pkt) : Nat := bits 7 0 p.aux
def epNum (p : Pkt) : Nat := fieldAt p.payload 0 8
def epValue (p : Pkt) : Nat := fieldAt p.payload 8 1
def epCauseOf (p : Pkt) : Nat := fieldAt p.payload 9 1
def epRterm (p : Pkt) : Nat := fieldAt p.payload 10 1
def epCount (p : Pkt) : Nat := fieldAt p.payload 12 4
def epGrp (p : Pkt) : Nat := bits 31 20 p.aux
def epFrom (p : Pkt) : Nat := p.spart * 2 ^ 20 + p.src

/-- Whether a packet matches an epoch tree known here (R327). -/
def State.epKnown (s : State) (p : Pkt) : Bool :=
  match s.treeFor (epGrp p) with
  | some t => t.gen == epGen p && s.agentPart (epGrp p) == p.dpart && decide (epKind p < 10)
  | none => false

/-- An EPOCH packet of a kind arrives: refused, or acted on by `f` and acknowledged; `f` answers nothing where the packet is
refused under R334. -/
def epRow (s : State) (kind : Nat → Bool) (f : Pkt → State → Option State) :
    Host.Outcome State Fault Refusal :=
  serve s (fun p => p.op == 6 && kind (epKind p)) (fun p _ s =>
    if !s.admitted p then .ok (s.answer p (s.errorOf p 4 0))
    else if !s.epKnown p then .ok ((s.odInc 0x5864 0).answer p (s.errorOf p 1 0))
    else match f p s with
      | some s => .ok ((s.answer p (s.ackOf p)).ledgerSettings p.dpart)
      | none => .ok ((s.odInc 0x5864 0).answer p (s.errorOf p 1 0)))

/-- The member here runs the epoch that a packet names. -/
def State.epMine (s : State) (p : Pkt) : Bool :=
  let e := s.ep p.dpart
  e.group == epGrp p && e.epoch == epNum p && e.st != .closed

/-- A VOTE or RESTORED added to a list, one for each epoch and sender. -/
def addVote (l : List Vote) (v : Vote) : List Vote :=
  l.filter (fun x => !(x.epoch == v.epoch && x.from_ == v.from_)) ++ [v]

/-- The rank of this member in a group's tree. -/
def State.gRank (s : State) (g : Nat) : Nat := match s.treeFor g with | some t => t.rank | none => 0

/-- VOTE: a subtree votes commit; a packet of a reserved kind is refused here too (R326, R327, R332). -/
def execEpochVoteMsg (s : State) : Host.Outcome State Fault Refusal :=
  epRow s (fun k => k == 0 || decide (k ≥ 10)) (fun p s =>
    let g := epGrp p
    let s := if s.gRank g = 0 then s.coCollect g (epNum p) else s
    let a := s.agent g
    let s := s.setAgent g { a with votes := addVote a.votes ⟨epNum p, epFrom p, epCount p⟩ }
    some (if s.epMine p then s.voteUp p.dpart else s))

/-- ABORT_VOTE: an abort cause reaches the coordinator (R332). -/
def execAbortVote (s : State) : Host.Outcome State Fault Refusal :=
  epRow s (fun k => k == 1) (fun p s =>
    some (if s.gRank (epGrp p) = 0 then s.coAbort (epGrp p) (epNum p) (epCauseOf p) else s))

/-- RECORD: a replica records a decision, unless its promised term is higher (R333, R334). -/
def execEpochRecord (s : State) : Host.Outcome State Fault Refusal :=
  epRow s (fun k => k == 2) (fun p s =>
    let a := s.agent (epGrp p)
    if epTerm p < tget 0 a.promised (epNum p) then none
    else some (s.setAgent (epGrp p) { a with records := keepDec a.records ⟨epNum p, epValue p, epCauseOf p, epTerm p⟩ }))

/-- TAKE: a replica raises its promised term and sends PROMISE with what it has recorded (R335). -/
def execEpochTake (s : State) : Host.Outcome State Fault Refusal :=
  epRow s (fun k => k == 3) (fun p s =>
    let g := epGrp p
    let a := s.agent g
    let t := tget 0 a.promised (epNum p)
    if t > epTerm p then some s
    else
      let s := s.setAgent g { a with promised := tset 0 a.promised (epNum p) (max t (epTerm p)) }
      let r := (a.record (epNum p)).getD ⟨epNum p, 0, 0, 0⟩
      some (s.epSend g (epFrom p) 4 0 (epNum p) r.value r.cause r.term 0 0))

/-- PROMISE: one more replica has answered the taker (R335). -/
def execEpochPromise (s : State) : Host.Outcome State Fault Refusal :=
  epRow s (fun k => k == 4) (fun p s =>
    let g := epGrp p
    match s.treeFor g with
    | none => some s
    | some t =>
      let r := (t.succ.idxOf? (epFrom p)).getD 0
      let m := s.mach g (epNum p)
      if m.st = .taking && r ≠ 0 && !(m.promises.any (fun q => q.rank == r)) then
        some ((s.setMach g { m with promises := m.promises ++ [⟨r, epValue p, epCauseOf p, epRterm p⟩] }).takeCheck g (epNum p))
      else some s)

/-- A machine that takes over or is Deferred rests once the decision of its epoch is learnt (R332, R335). -/
def State.coRest (s : State) (g epoch : Nat) : State :=
  if (s.mach g epoch).st = .taking || (s.mach g epoch).st = .deferred then s.coGo g epoch .idle else s

/-- A decision is learnt by DECIDE or ANSWER: it is held, a machine that takes over or is deferred rests, and the member
applies it; a decision that contradicts one held is discarded (R329, R332, R335). -/
def State.learn (s : State) (g p : Nat) (d : Dec) : State :=
  match (s.agent g).heldDec d.epoch with
  | some h => if h.value ≠ d.value then s.contradict p else
      (let s := s.coRest g d.epoch
       let e := s.ep p
       if e.group = g && e.epoch = d.epoch then s.memberDecide p d.value d.cause true else s)
  | none =>
    let e := s.ep p
    let mine := e.group = g && e.epoch = d.epoch && e.st ≠ .closed
    if mine && d.value = 1 && (e.st == .opened || e.st == .doomed) then s.contradict p
    else
      let s := (s.hold g d).coRest g d.epoch
      if mine then s.memberDecide p d.value d.cause true else s

/-- DECIDE: the decision reaches a member (R329). -/
def execEpochDecide (s : State) : Host.Outcome State Fault Refusal :=
  epRow s (fun k => k == 5) (fun p s =>
    some (s.learn (epGrp p) p.dpart ⟨epNum p, epValue p, epCauseOf p, 0⟩))

/-- QUERY: the agent answers with the decision it holds, pending, or unknown; a successor that holds none looks for a
takeover (R335, R337). -/
def execEpochQuery (s : State) : Host.Outcome State Fault Refusal :=
  epRow s (fun k => k == 6) (fun p s =>
    let g := epGrp p
    let a := s.agent g
    match a.heldDec (epNum p) with
    | some d => some (s.epSend g (epFrom p) 7 0 (epNum p) d.value d.cause d.term 0 0)
    | none =>
      let st := (s.mach g (epNum p)).st
      let busy := st == .collecting || st == .recording || st == .taking
      let s := s.epSend g (epFrom p) 7 0 (epNum p) (if busy then 3 else 0) 0 0 0 0
      some (if busy then s else s.probe g (epNum p)))

/-- ANSWER: a member in doubt, or a Deferred machine, learns the outcome or asks the next in turn (R329, R332). -/
def execEpochAnswer (s : State) : Host.Outcome State Fault Refusal :=
  epRow s (fun k => k == 7) (fun p s =>
    if epValue p = 1 || epValue p = 2 then
      some (s.learn (epGrp p) p.dpart ⟨epNum p, epValue p, epCauseOf p, epRterm p⟩)
    else some (if s.coDoubts (epGrp p) (epNum p) then s.coQuery (epGrp p) (epNum p)
      else if s.doubts (epGrp p) (epNum p) then s.query p.dpart else s))

/-- RESTORED: a subtree has restored (R326, R332). -/
def execEpochRestored (s : State) : Host.Outcome State Fault Refusal :=
  epRow s (fun k => k == 8) (fun p s =>
    let a := s.agent (epGrp p)
    let s := s.setAgent (epGrp p) { a with restored := addVote a.restored ⟨epNum p, epFrom p, epCount p⟩ }
    some (if s.epMine p then s.restoredUp p.dpart else s))

/-- CLEAR: a Fenced member closes and forwards it; a Restoring one keeps it (R329). -/
def execEpochClear (s : State) : Host.Outcome State Fault Refusal :=
  epRow s (fun k => k == 9) (fun p s =>
    if !s.epMine p then some s
    else match (s.ep p.dpart).st with
      | .fenced => some (s.clearClose p.dpart true)
      | .restoring => some (s.setEp p.dpart { s.ep p.dpart with clearKept := true })
      | _ => some s)

/-! ### Timers: frozen while a table swap stops the fabric (R338) -/

/-- The machine of a group whose timer a row means: of those in a state, the one that started first (R332, R338). -/
def State.machIn (s : State) (g : Nat) (q : Mach → Bool) : Option Mach := (s.agent g).machs.find? q

/-- VOTE_TIMEOUT: the coordinator decides abort with cause 6 (R332). -/
def execVoteTimeout (group : Fin 4096) (s : State) : Host.Outcome State Fault Refusal :=
  match s.machIn group (fun m => m.st == .collecting) with
  | some m => if s.fabric.stopped then .next s else .next (s.coDecide group ⟨m.epoch, 2, 6, 0⟩)
  | none => .next s

/-- OUTCOME_TIMEOUT: the member's timer (`machine` false) sends it into doubt or has it ask again once all have been tried;
the machine's timer sends RECORD or TAKE again, or has a Deferred machine ask again (R329, R332, R335). -/
def execOutcomeTimeout (group : Fin 4096) (machine : Bool) (s : State) : Host.Outcome State Fault Refusal :=
  let g := group.val
  if s.fabric.stopped then .next s
  else
    let t := s.odApply 0x5821 0
    if machine then
      (match s.machIn g (fun m => m.st == .recording || m.st == .taking || (m.st == .deferred && !s.doubts g m.epoch)) with
      | none => .next s
      | some m => .next (match m.st with
        | .recording => t.sendRecords g m.epoch
        | .taking => (t.sendTakes g m.epoch).takeCheck g m.epoch
        | _ => (t.setMach g { m with asked := 0 }).coQuery g m.epoch))
    else
      let p := s.agentPart g
      let e := s.ep p
      if e.group ≠ g then .next s
      else if e.st = .voted then .next (((t.setEp p { e with asked := 0 }).epGo p .inDoubt).query p)
      else if e.st = .inDoubt && e.asked > e.tree.replicas then .next ((t.setEp p { e with asked := 0 }).query p)
      else .next s

/-- CLEAR_TIMEOUT: a Fenced member closes, or the machine ends Clearing (R329, R332). -/
def execClearTimeout (group : Fin 4096) (machine : Bool) (s : State) : Host.Outcome State Fault Refusal :=
  let g := group.val
  let p := s.agentPart g
  if s.fabric.stopped then .next s
  else if machine then
    (match s.machIn g (fun m => m.st == .clearing) with
    | some m => .next ((s.coClear g m.epoch).ledgerSettings p)
    | none => .next s)
  else if (s.ep p).group = g && (s.ep p).st = .fenced then .next ((s.clearClose p true).ledgerSettings p)
  else .next s

/-! ### Replies -/

/-- An EPOCH packet has been acknowledged: a RECORD counts for its replica, and a rank that answers a QUERY or TAKE has not failed (R332, R336). -/
def State.epAcked (s : State) (g kind epoch rank : Nat) : State :=
  let a := s.agent g
  let a := if kind = 6 || kind = 3 then { a with failed := a.failed.filter (fun x => x != (epoch, rank)) } else a
  let s := if kind = 6 || kind = 3 then s.setAgent g a else s
  let m := s.mach g epoch
  if kind = 2 && m.st = .recording && !m.acks.contains rank then (s.setMach g { m with acks := m.acks ++ [rank] }).coCheck g epoch
  else s

/-- An EPOCH packet has drawn an ERROR, or its final timeout (status 16): a RECORD refused defers the machine, whose member is
in doubt, or which rests where the outcome has been learnt already; a QUERY or TAKE that finds its rank out of service or silent has found a failed rank (R332, R334, R336). -/
def State.epRefused (s : State) (g kind epoch rank st : Nat) : State :=
  let m := s.mach g epoch
  if kind = 2 && st = 1 && m.st = .recording then
    let s := (s.setMach g { m with asked := 0 }).coGo g epoch .deferred
    let p := s.agentPart g
    let e := s.ep p
    if ((s.agent g).heldDec epoch).isSome then s.coRest g epoch
    else if e.group = g && e.epoch = epoch && e.st = .voted then (((s.odApply 0x5821 0).setEp p { e with asked := 0 }).epGo p .inDoubt).query p
    else if s.doubts g epoch then s
    else s.coQuery g epoch
  else if (kind = 6 || kind = 3) && (st = 7 || st = 16) then s.rankFailed g epoch rank
  else s

end Sys2Proof.Machine
end

