-- ==== Sys2Proof/Machine/Links.lean ====
section
/-! DEFINITION. The commands of the links: training, qualification, lane repair, pairs of codewords and their flits, credits and loopback
(R233 to R259). Timer expiries and measurements arrive as commands. -/
namespace Sys2Proof.Machine

/-- A write of OD 0x4001 takes effect: true takes a Disabled link to Detect at once; false waits for its safe point,
the first moment at which the link's queues hold no packet, or 1 ms (R245, R255). -/
def State.linkEnableSet (s : State) (n : Nat) (on : Bool) : State :=
  let s := s.odSetN 0x4001 (n + 1) (b2n on)
  if on then
    let s := s.updLink n (fun l => { l with disableAt := none })
    if (s.link n).st == .disabled && s.linkLicensed n && s.life.begun && s.life.svc != .black then s.linkDetect n
    else s.linksProgress.linkAmber
  else if (s.link n).txq.isEmpty then s.linkOff n
  else s.updLink n (fun l => { l with disableAt := some s.now })

/-- The safe point of an accepted false, tested at every tick (R255). -/
def State.linkDisableTick (s : State) (n : Nat) : State :=
  match (s.link n).disableAt with
  | none => s
  | some t => if (s.link n).txq.isEmpty || s.now ≥ t + 1_000_000 then s.linkOff n else s

/-- SIGNAL_DETECT: signal on at least 4 lanes takes Detect to Negotiate, where the staged settings apply (R245, R259). -/
def execSignalDetect (link : Fin 12) (lanes : BitVec 9) (s : State) : Host.Outcome State Fault Refusal :=
  if (s.link link).st == .detect && popCount 9 lanes.toNat ≥ 4 then
    .next (s.enterNegotiate link)
  else .next s

/-- A link leaves Loopback: it returns to Disabled, or to the state before; one that was Down returns to Detect while its enable is true
(R245, R257). -/
def State.loopReturn (s : State) (n : Nat) (before : LinkSt) : State :=
  let s := s.updLink n (fun l => { l with loop := none })
  match before with
  | .down => if s.odBool 0x4001 (n + 1) then s.linkDetect n else s.linkOff n
  | .detect => s.linkDetect n
  | .negotiate => s.enterNegotiate n
  | _ => s.linkOff n

/-- TRAINING_TIMEOUT: Detect or Negotiate ends in Down with no partner; a far-end loopback request that nobody
accepted ends with status 4 on every lane (R245, R256). -/
def execTrainingTimeout (link : Fin 12) (s : State) : Host.Outcome State Fault Refusal :=
  match (s.link link).st with
  | .detect | .negotiate => .next (s.linkFail link 1)
  | .loopback =>
    match (s.link link).loop with
    | some lb =>
      if lb.mode = 1 && !lb.accepted then
        let s := (List.range 9).foldl (fun s k => s.odSetN 0x4031 (9 * link + k + 1) (4 * 2 ^ 28)) s
        .next (s.loopReturn link lb.before)
      else .next s
    | none => .next s
  | _ => .next s

/-- The fields of a capability message (R247). -/
structure Cap where
  vmin : Nat
  vmax : Nat
  feat : Nat
  flags : Nat
  id : LaneId
  deriving DecidableEq, Repr

/-- What a lane's training block says, with its polarity corrected; a block whose check fails both ways is no message (R234, R247). -/
def capOf (b : List Byte) : Option Cap :=
  let good := fun (b : List Byte) => b.length == 64 && fieldAt b 60 4 == crc32c (b.take 60)
  let read := fun (b : List Byte) (inv : Bool) =>
    (⟨fieldAt b 0 1, fieldAt b 1 1, fieldAt b 2 2, fieldAt b 16 1, ⟨fieldAt b 4 8, bits 23 0 (fieldAt b 12 3), fieldAt b 15 1, inv⟩⟩ : Cap)
  let neg := b.map (fun x => ~~~x)
  if good b then some (read b false) else if good neg then some (read neg true) else none

/-- A receiver sees lane numbers from two senders, or one lane number twice (R234). -/
def miswired (l : List (Option LaneId)) : Bool :=
  let xs := l.filterMap id
  xs.any (fun a => xs.any (fun b => a.serial != b.serial || a.coord != b.coord) ||
    decide ((xs.filter (fun b => b.lane == a.lane)).length > 1))

/-- What equalisation starts from, with the pending settings applied: the coefficients stored with the same partner's serial, or the preset
(R249). -/
def State.eqStart (s : State) (n : Nat) : State :=
  let s := s.odApplyAll [(0x4015, n + 1), (0x4016, n + 1)]
  let b := s.odBlob 0x4016 (n + 1)
  let stored := !b.isEmpty && fieldAt b 0 8 == s.odNum 0x4008 (n + 1)
  s.updLink n (fun l => { l with start := if stored then none else some (s.odNum 0x4015 (n + 1)) })

/-- A link of a test's own sends the pattern on its nine lanes, each from the seed of its number (R256). -/
def State.sendPattern (s : State) (n : Nat) : State :=
  match (s.link n).loop with
  | some lb => if lb.mode = 4 then s
    else (List.range 9).foldl (fun s k => s.emit (.pattern n k lb.pat lb.full (Config.loopSeed k))) s
  | none => s

/-- CAPABILITY_EXCHANGED: the messages that the nine receive lanes carry: version and features are agreed, or training fails; a
loopback request is accepted where R256 allows it, and an acceptance is taken (R234, R245, R247, R248). -/
def execCapabilityExchanged (link : Fin 12) (blocks : List (List Byte)) (s : State) : Host.Outcome State Fault Refusal :=
  let caps := blocks.map capOf
  let lanes := caps.map (Option.map Cap.id)
  match caps.filterMap id with
  | [] => .next s
  | c :: _ =>
    let st := (s.link link).st
    if bit 1 c.flags && c.vmax ≥ 3 && (st == .detect || st == .negotiate || st == .down) && s.farOk link then
      let s := s.updLink link (fun l => { l with loop := some ⟨4, 0, st, false, true, 0⟩ })
      .next ((s.capSend link 4).linkGo link .loopback 0)
    else if st == .loopback then
      .next (if bit 2 c.flags && c.vmax ≥ 3 && (s.link link).loop.any (fun b => !b.accepted) then
        (s.updLink link (fun l => { l with loop := l.loop.map (fun b => { b with accepted := true }) })).sendPattern link else s)
    else if st != .negotiate then .next s
    else
      let serial := c.id.serial
      let s := (s.odSetN 0x4008 (link + 1) serial).odSetN 0x4009 (link + 1) c.id.coord
      if miswired lanes then .next (s.linkFail link 4)
      else if c.vmax < 2 || c.vmin > 3 then .next (s.linkFail link 2)
      else if s.odNum 0x400A (link + 1) ≠ 0 && s.odNum 0x400A (link + 1) ≠ serial then .next (s.linkFail link 3)
      else
        let v := min c.vmax 3
        let feat := if v ≥ 3 then c.feat % 8 else 0
        let half := v ≥ 3 && bit 1 feat && bit 0 c.flags && s.odBool 0x4005 (link + 1)
        let s := s.odSetN 0x4004 (link + 1) (v * 2 ^ 24 + feat)
        let s := s.updLink link (fun l => { l with halfOk := half, lanes := lanes })
        .next ((s.eqStart link).linkGo link .equalise 0)

/-- The width for a set of failing positions at the link's version; version 2 has no spare and no half width (R248). -/
def State.fit (s : State) (n fails : Nat) : Option (Nat × Nat) :=
  if s.linkVer n ≥ 3 then laneFit fails (s.linkFeat n 0) (s.link n).halfOk
  else if fails % 256 = 0 then some (0xF, 0xF) else none

/-- EQUALISE_DONE: every lane converged or was given up; the failing lanes allow operation or the link goes Down
(R245, R253). A lane that failed an earlier qualification is replaced by the spare, or left out at half width, where that can be, and is
tried again where it cannot; R245 re-equalises it and substitutes the spare where R252 allows, with no more said (DESIGN CHOICE, log entry
165). -/
def execEqualiseDone (link : Fin 12) (failing : BitVec 9) (s : State) : Host.Outcome State Fault Refusal :=
  let l := s.link link
  if l.st == .equalise then
    let all := failing.toNat ||| l.rxFail
    match (match s.fit link all with
      | some x => some (all, x)
      | none => (s.fit link failing.toNat).map (fun x => (failing.toNat, x))) with
    | none => .next (s.linkFail link 5)
    | some (f, sp, h) =>
      .next ((s.setLink link { l with rxFail := f, rxSpare := sp, rxHalf := h }).linkGo link .align 0 |>.showMap link)
  else .next s

/-- ALIGN_DONE: lanes deskewed and codewords locked, each lane known by its number; lane maps are exchanged, and both directions take
the width that both can serve (R234, R245, R253). R245 names no reason for two maps that do not go together: DESIGN CHOICE, equalisation
failed (log entry 165). -/
def execAlignDone (link : Fin 12) (seen : List (Option LaneId)) (partner : BitVec 9) (s : State) : Host.Outcome State Fault Refusal :=
  let l := s.link link
  if l.st == .align then
    if miswired seen then .next (s.linkFail link 4)
    else
      let s := s.emit (.laneMap link l.rxFail)
      match (if s.linkVer link ≥ 3 then bothFit l.rxFail partner.toNat (s.linkFeat link 0) l.halfOk
        else if l.rxFail % 256 = 0 && partner.toNat % 256 = 0 then some (0xF, 0xF, 0xF) else none) with
      | none => .next (s.linkFail link 5)
      | some (rx, tx, h) =>
        .next ((s.setLink link { l with lanes := seen, lost := 0, rxSpare := rx, txSpare := tx, rxHalf := h, txHalf := h, mine := none,
                                        partner := none, errs := [], bad := 0 }).linkGo link .qualify 0 |>.showMap link)
  else .next s

/-- Stores the converged coefficients with the partner serial (R249). The manual gives neither their values nor the
layout of OD 0x4016: the serial's 8 bytes come first, and the rest is a free value (log entry 22). -/
def State.storeCoeffs (s : State) (n : Nat) : State :=
  let f := s.freeVal 576
  f.2.odSet 0x4016 (n + 1) (.blob (leBytes 8 (s.odNum 0x4008 (n + 1)) ++ leBytes 72 f.1))

/-- Active once both ends report pass; another attempt, or Down, once either reports fail (R245). -/
def State.qualResolve (s : State) (n : Nat) : State :=
  let l := s.link n
  match l.mine, l.partner with
  | some true, some true =>
    let s := s.setLink n { l with sent := [], rcvd := [], freed := [], credit := [], resync := true, errs := [], bad := 0 }
    let s := s.linkGo n (if l.rxHalf = 0xF && l.txHalf = 0xF then .active else .activeHalf) 0
    s.storeCoeffs n
  | some false, _ | _, some false =>
    if l.attempts ≤ 1 then s.linkFail n 6
    else
      let s := s.setLink n { l with attempts := l.attempts - 1, mine := none, partner := none }
      (s.eqStart n).linkGo n .equalise 0
  | _, _ => s

/-- The bits that a lane carries in a time given in ms: 425 Gbit/s, or 212.5 Gbit/s at version 2 (R236, R248). -/
def State.laneBits (s : State) (n ms : Nat) : Nat := (if s.linkVer n ≥ 3 then 425_000_000 else 212_500_000) * ms

/-- The ratio of R250: at most 2 x 10^-5. -/
def ratioOk (errors bits : Nat) : Bool := decide (errors * 100_000 ≤ 2 * bits)

/-- QUALIFY_WINDOW_END: the 1 s window ends. Each lane has the bits corrected in the pairs received and those of the operand, from pairs
that did not come as commands and, on lane 8, from its own pattern; it passes on its ratio, with no uncorrectable codeword, and with
signal and lock kept. The end passes when every lane in use passes, and sends QUAL_RESULT (R250). -/
def execQualifyWindowEnd (link : Fin 12) (errors : List Nat) (uncorrectable : Nat) (s : State) : Host.Outcome State Fault Refusal :=
  let l := s.link link
  if l.st == .qualify && l.mine.isNone then
    let ok := fun (k : Nat) => ratioOk (tget 0 l.errs k + getAt 0 errors k) (s.laneBits link 1000) && l.bad + uncorrectable == 0 && !bit k l.lost
    let failing := ((List.range (if s.linkVer link ≥ 3 then 9 else 8)).map (fun k => if ok k then 0 else 2 ^ k)).sum
    let pass := (List.range 9).all (fun k => !l.uses k || ok k)
    let s := s.setLink link { l with mine := some pass, rxFail := l.rxFail ||| failing, errs := [], bad := 0 }
    let s := (s.showMap link).control link 0x06 (leBytes 1 (b2n pass) ++ leBytes 2 failing)
    .next (s.qualResolve link)
  else .next s

/-- The first control message received on a link when it has a given code, and the link without it. -/
def State.takeCtl (s : State) (n code : Nat) : Option (List Byte × State) :=
  match (s.link n).ctl with
  | m :: rest => if fieldAt m 0 1 = code then some (m, s.updLink n (fun l => { l with ctl := rest })) else none
  | [] => none

/-- QUAL_RESULT: the partner's result (R250). -/
def execQualResult (link : Fin 12) (s : State) : Host.Outcome State Fault Refusal :=
  match s.takeCtl link 0x06 with
  | none => .next s
  | some (m, s) =>
    if (s.link link).st == .qualify then
      .next ((s.updLink link (fun l => { l with partner := some (fieldAt m 1 1 == 1) })).qualResolve link)
    else .next s

/-- DEGRADE_WINDOW_END: a lane's 1 ms window ends, with the bits corrected in the pairs received and those of the operand, as in R250, and
the number of uncorrectable codewords in which it carried every symbol error; a breach, or the third such window with at least 4, makes
the lane failing; the last 1 s is reported (R251). -/
def execDegradeWindowEnd (link : Fin 12) (lane : Fin 9) (errors uncorrectable : Nat) (s : State) :
    Host.Outcome State Fault Refusal :=
  if s.linkUp link then
    let s := s.odApply 0x4017 0
    let l := s.link link
    let e := tget 0 l.errs lane + errors
    let u := if uncorrectable ≥ 4 then tget 0 l.unc lane + 1 else 0
    let k := tget 0 l.nwin lane + 1
    let sum := tget 0 l.ratio lane + e
    let s := if k = 1000 then s.odSetN 0x4020 (9 * link + lane + 1) (min (sum * 10 ^ 12 / s.laneBits link 1000) (2 ^ 32 - 1)) else s
    let s := s.setLink link { l with errs := tset 0 l.errs lane 0,
                                     unc := tset 0 l.unc lane (if u ≥ 3 then 0 else u),
                                     nwin := tset 0 l.nwin lane (if k = 1000 then 0 else k),
                                     ratio := tset 0 l.ratio lane (if k = 1000 then 0 else sum) }
    if e * 10 ^ 9 > s.odNum 0x4017 0 * s.laneBits link 1 || u ≥ 3 then .next (s.laneFails link lane) else .next s
  else .next s

/-- LOSS_OF_SIGNAL: lanes lose signal or lock. Of an Active link, three or more lost since it trained take it Down, and fewer are failing
lanes; in Qualify a lost lane does not pass (R245, R250, R251). -/
def execLossOfSignal (link : Fin 12) (lanes : BitVec 9) (s : State) : Host.Outcome State Fault Refusal :=
  let l := s.link link
  if l.st.up || l.st == .qualify then
    let new := (bitList 9 lanes.toNat).filter (fun k => !bit k l.lost)
    let s := s.setLink link { l with lost := l.lost ||| lanes.toNat }
    if !l.st.up then .next s
    else if popCount 9 (l.lost ||| lanes.toNat) ≥ 3 then .next (s.linkFail link 7)
    else .next (new.foldl (fun s k => if s.linkUp link then s.laneFails link k else s) s)
  else .next s

/-- SWAP_REQ: the transmitting end moves the failing position to lane 8 and sends alignment blocks; a repeat of the same
generation is acted on once (R252, R254). A link without the swap in use, as at version 2, takes no such message (R248). DESIGN CHOICE: the
swap is counted in OD 0x4024 and reported at the receiving end alone, which drives it, when it ends (log entry 165). -/
def execSwapReq (link : Fin 12) (s : State) : Host.Outcome State Fault Refusal :=
  match s.takeCtl link 0x02 with
  | none => .next s
  | some (m, s) =>
    let pos := fieldAt m 1 1
    let gen := fieldAt m 2 1 % 16
    let l := s.link link
    if !l.st.up || s.linkVer link < 3 || !s.linkFeat link 0 then .next s
    else if l.txGen = gen then .next (s.emit (.blocks link gen))
    else
      let s := s.setLink link { l with txSpare := pos % 16, txGen := gen, txHold := true }
      .next ((s.showMap link).emit (.blocks link gen))

/-- SWAP_ACK: both ends resume data flits (R252). -/
def execSwapAck (link : Fin 12) (s : State) : Host.Outcome State Fault Refusal :=
  match s.takeCtl link 0x03 with
  | none => .next s
  | some (m, s) =>
    if (s.link link).st.up && fieldAt m 1 1 % 16 = (s.link link).txGen then
      .next ((s.updLink link (fun l => { l with txHold := false })).drainLink link)
    else .next s

/-- HALF_REQ: the partner narrows; both directions take the same half, or the link goes Down where a half cannot be
served (R253). -/
def execHalfReq (link : Fin 12) (s : State) : Host.Outcome State Fault Refusal :=
  match s.takeCtl link 0x04 with
  | none => .next s
  | some (m, s) =>
    let half := fieldAt m 1 1
    let rep := fieldAt m 2 1
    let gen := fieldAt m 3 1 % 16
    let l := s.link link
    if !l.st.up then .next s
    else if l.txGen = gen then .next (s.emit (.blocks link gen))
    else if !l.halfOk || half > 1 || !halfFits l.rxFail half (s.linkFeat link 0) then .next (s.lanesLost link)
    else
      let s := s.setLink link { l.enterResync with txSpare := if rep = 0xFF then 0xF else rep % 16, txHalf := half, rxHalf := half,
                                                   rxSpare := halfSpare l.rxFail half, txGen := gen, txHold := true }
      .next ((s.showMap link).emit (.blocks link gen))

/-- HALF_ACK: the narrowing is confirmed, and data flits resume at half width (R252, R253). -/
def execHalfAck (link : Fin 12) (s : State) : Host.Outcome State Fault Refusal :=
  match s.takeCtl link 0x05 with
  | none => .next s
  | some (m, s) =>
    if (s.link link).st.up && fieldAt m 1 1 % 16 = (s.link link).txGen then
      let s := s.updLink link (fun l => { l with txHold := false })
      let s := if (s.link link).st == .active then s.linkGo link .activeHalf 0 else s
      .next (s.drainLink link)
    else .next s

/-- SWAP_DESKEW_DONE: the receiving end has deskewed on the new map; with the right generation it acknowledges, a swap is counted and
the repair reported, and the next failure that waited is taken (R252, R254). At a narrowing the transmit direction keeps on lane 8 only a
position of its half, the one of the partner's failing positions there (R253). -/
def execSwapDeskewDone (link : Fin 12) (gen : Fin 16) (s : State) : Host.Outcome State Fault Refusal :=
  let l := s.link link
  match l.repair with
  | none => .next s
  | some r =>
    if !l.st.up || r.gen ≠ gen then .next s
    else
      let swap := r.half == 0xF
      let s := s.setLink link { l.enterResync with
        repair := none, rxGen := r.gen, rxSpare := r.pos, rxHalf := if swap then l.rxHalf else r.half,
        txHalf := if swap then l.txHalf else r.half,
        txSpare := if swap || decide (l.txSpare / 4 = r.half) then l.txSpare else 0xF, pend := [] }
      let s := s.control link (if swap then 0x03 else 0x05) (leBytes 1 r.gen)
      let s := (if swap then s.odInc 0x4024 (link + 1) else s).showMap link
      let s := if swap then s.linkEvent link else s.linkGo link .activeHalf 0
      .next (l.pend.foldl (fun s p => if s.linkUp link && (s.link link).uses p then s.laneFails link p else s) s)

/-- SWAP_TIMEOUT: a repair that is not acknowledged within 100 us takes the link Down (R245). -/
def execSwapTimeout (link : Fin 12) (s : State) : Host.Outcome State Fault Refusal :=
  if (s.link link).st.up && ((s.link link).repair.isSome || (s.link link).txHold) then .next (s.linkFail link 9)
  else .next s

/-- DOWN: the partner takes the link Down (R243, R245). -/
def execLinkDown (link : Fin 12) (s : State) : Host.Outcome State Fault Refusal :=
  match s.takeCtl link 0x07 with
  | none => .next s
  | some (_, s) => .next (if s.linkUp link then s.linkFail link 8 else s)

/-- RETRY_INTERVAL_EXPIRY: a Down link whose enable is true returns to Detect (R245). -/
def execRetryIntervalExpiry (link : Fin 12) (s : State) : Host.Outcome State Fault Refusal :=
  if (s.link link).st == .down && s.odBool 0x4001 (link + 1) then .next (s.linkDetect link) else .next s

/-! ### Flits (R239 to R242) -/

/-- A discarded flit: counted, and the 64th in a row enters resync (R240, R241). -/
def State.flitDiscard (s : State) (n : Nat) : State :=
  let s := s.odInc 0x4023 (n + 1)
  let l := s.link n
  let l := { l with discards := l.discards + 1 }
  s.setLink n (if l.discards % 64 = 0 then l.enterResync else l)

/-- One slot of an accepted data flit (R239, R241): a start begins a packet, a continuation extends one, and an end
completes it; a packet whose slots and length disagree is malformed (R262). -/
def State.slot (s : State) (n : Nat) (sop eop : Bool) (b : List Byte) : State :=
  let l := s.link n
  let l := if sop then { l with asm := b, resync := false }
           else if l.resync || l.asm.isEmpty then l
           else { l with asm := l.asm ++ b }
  if eop && !l.resync && !l.asm.isEmpty then
    let p := pktOf l.asm
    let k := l.asm.length / 16
    let l := { l with asm := [], rcvd := tset 0 l.rcvd p.vc ((tget 0 l.rcvd p.vc + k) % 2 ^ 20) }
    if k ≠ p.slots then
      (s.setLink n { l with freed := tset 0 l.freed p.vc ((tget 0 l.freed p.vc + k) % 2 ^ 20) }).odInc 0x4416 4
    else s.setLink n { l with rx := l.rx ++ [p] }
  else s.setLink n l

/-- A flit after FEC: it is discarded on a bad CRC, a reserved type or a reserved message; a sequence gap enters resync; a control flit
delivers its message and a data flit its slots; the credit fields return credits (R239 to R243). Flits of a direction in repair are lost
from the lane's failure on (R252); DESIGN CHOICE: of those that still arrive whole the data slots are, and a message, such as the other
direction's acknowledgement, is taken (log entry 165). -/
def State.flitIn (s : State) (n : Nat) (flit : List Byte) : State :=
  let h := leNat (flit.take 12)
  let typ := bits 95 92 h
  let code := fieldAt flit 12 1
  if flit.length ≠ 256 || fieldAt flit 252 4 ≠ crc32c (flit.take 252) || typ > 2 || (typ = 2 && (code = 0 || code > 8)) then s.flitDiscard n
  else
    let seq := bits 61 50 h
    let l := s.link n
    let gap := match l.lastSeq with
      | some q => decide (seq ≠ (q + 1) % 4096)
      | none => false
    let l := if gap then l.enterResync else l
    let s := s.setLink n { l with
      lastSeq := some seq, discards := 0,
      credit := tset 0 (tset 0 l.credit (bits 49 48 h) (bits 47 28 h)) (bits 27 26 h) (bits 25 6 h) }
    if typ = 2 then s.updLink n (fun l => { l with ctl := l.ctl ++ [slice flit 12 240] })
    else if typ = 1 && l.repair.isNone && l.st.up then
      (List.range 15).foldl (fun s j => s.slot n (bit (77 + j) h) (bit (62 + j) h) (slice flit (12 + 16 * j) 16)) s
    else s

/-- The lanes as their sender numbers them (R234). -/
def Link.inOrder (l : Link) (lanes : List (List Nat)) : List (List Nat) :=
  if l.lanes.isEmpty then lanes
  else (List.range 9).map (fun k =>
    match l.lanes.findIdx? (fun x => (x.map LaneId.lane) == some k) with
    | some j => getAt [] lanes j
    | none => [])

/-- The five flits of a pair; one with a bit in an uncorrectable codeword is lost (R236, R238). -/
def PairSeen.flits (x : PairSeen) : List (Option (List Byte)) :=
  let a := x.a.map codeBytes
  let b := x.b.map codeBytes
  [a.map (slice · 0 256), a.map (slice · 256 256), a.bind (fun u => b.map (fun v => slice u 512 128 ++ slice v 0 128)),
   b.map (slice · 128 256), b.map (slice · 384 256)]

/-- FLIT_RECEIVE: the symbols of a pair arrive on the nine lanes, with their polarity corrected. Its two codewords are corrected, the bits
in error counted on their lanes, and its five flits taken in order; the flits of an uncorrectable codeword are discarded, and the receiver
enters resync (R234, R236 to R243). The far end of a loopback test returns the lanes as they come (R256). -/
def execFlitReceive (link : Fin 12) (lanes : List (List Nat)) (s : State) : Host.Outcome State Fault Refusal :=
  let l := s.link link
  if l.st == .loopback then .next (if l.loop.any (fun b => b.mode == 4) then s.emit (.looped link lanes) else s)
  else if !(l.st.up || l.st == .qualify) then .next s
  else
    let x := pairSeen l.rxSpare l.rxHalf (l.inOrder lanes)
    let lost := b2n x.a.isNone + b2n x.b.isNone
    let s := (s.odAdd 0x4021 (link + 1) x.corrected).odAdd 0x4022 (link + 1) lost
    let l := { l with errs := x.errs.foldl (fun t e => tset 0 t e.1 (tget 0 t e.1 + e.2)) l.errs, bad := l.bad + lost }
    let s := s.setLink link (if lost = 0 then l else l.enterResync)
    let s := x.flits.foldl (fun s f => match f with
      | some f => s.flitIn link f
      | none => s.flitDiscard link) s
    .next ((s.drainLink link).retryHeld)

/-- CREDIT_SYNC: the slots sent and not received are freed and counted (R242). -/
def execCreditSync (link : Fin 12) (s : State) : Host.Outcome State Fault Refusal :=
  if (s.link link).asm.length = 16 then .next s
  else match s.takeCtl link 0x01 with
  | none => .next s
  | some (m, s) =>
    .next ((List.range 4).foldl (fun s vc =>
      let l := s.link link
      let part := if !l.asm.isEmpty && (pktOf l.asm).vc = vc then l.asm.length / 16 else 0
      let lost := (fieldAt m (1 + 4 * vc) 4 + 2 ^ 20 - (tget 0 l.rcvd vc + part) % 2 ^ 20) % 2 ^ 20
      (s.setLink link { l with rcvd := tset 0 l.rcvd vc ((tget 0 l.rcvd vc + lost) % 2 ^ 20),
                               freed := tset 0 l.freed vc ((tget 0 l.freed vc + lost) % 2 ^ 20) }).odAdd
        0x4026 (link + 1) lost) s)

/-- CREDIT_SYNC_SEND: an Active transmitter sends its cumulative counts (R242). -/
def execCreditSyncSend (link : Fin 12) (s : State) : Host.Outcome State Fault Refusal :=
  if s.linkUp link then
    .next (s.control link 0x01 ((List.range 4).flatMap (fun vc => leBytes 4 (tget 0 (s.link link).sent vc))))
  else .next s

/-- ALIGNMENT_LOST: the receiver enters resync; the third loss within 1 ms takes the link Down (R241, R245). -/
def execAlignmentLost (link : Fin 12) (s : State) : Host.Outcome State Fault Refusal :=
  if s.linkUp link then
    let l := (s.link link).enterResync
    let times := (l.alignLost.filter (fun t => decide (s.now < t + 1_000_000))) ++ [s.now]
    let s := s.setLink link { l with alignLost := times }
    .next (if times.length ≥ 3 then s.linkFail link 10 else s)
  else .next s

/-! ### Loopback (R256, R257) -/

/-- Whether a value may be written to OD 0x4030 (R256). -/
def loopOk (v : Nat) : Bool :=
  bits 30 29 v ≤ 2 && bits 27 26 v ≤ 1 && (bits 27 26 v == 0 || bit 28 v) &&
  (!bit 31 v || (decide (1 ≤ bits 15 0 v) && decide (bits 15 0 v ≤ 60000)))

/-- A write of OD 0x4030 starts a test on a Disabled or Down link, and is answered with status 5 on any other (R256). -/
def State.loopbackStart (s : State) (n v : Nat) : State :=
  let s := s.odSetN 0x4030 (n + 1) v
  let st := (s.link n).st
  if !bit 31 v then s
  else if st == .disabled || st == .down then
    let s := (List.range 9).foldl (fun s k => s.odSetN 0x4031 (9 * n + k + 1) (1 * 2 ^ 28)) s
    let s := (s.updLink n (fun l => { l with loop := some ⟨bits 30 29 v, bits 15 0 v, st, bit 28 v, false, bits 27 26 v⟩ })).linkGo n .loopback 0
    if bits 30 29 v = 1 then s.capSend n 2 else s.sendPattern n
  else (List.range 9).foldl (fun s k => s.odSetN 0x4031 (9 * n + k + 1) (5 * 2 ^ 28)) s

/-- The result word of a lane: a continuity test passes on no bit error, and a full-rate one on the ratio of R250 over the test's bits with
lock kept (R257). -/
def laneWord (full : Bool) (bits : Nat) : LaneResult → Nat
  | .noSignal => 4 * 2 ^ 28
  | .measured lock e =>
    let pass := if full then lock && ratioOk e bits else e == 0
    (if pass then 2 else 3) * 2 ^ 28 + min e 0xFFF_FFFF

/-- LOOPBACK_END: the lanes report, with the round-trip delay in the far-end and external modes, and the link returns
(R245, R257). -/
def execLoopbackEnd (link : Fin 12) (results : List LaneResult) (delay : BitVec 32) (s : State) :
    Host.Outcome State Fault Refusal :=
  match (s.link link).st, (s.link link).loop with
  | .loopback, some lb =>
    let s := if lb.mode = 4 then s
      else (List.range 9).foldl (fun s k =>
        s.odSetN 0x4031 (9 * link + k + 1) (laneWord lb.full (425_000_000 * lb.ms) (getAt LaneResult.noSignal results k))) s
    let s := if lb.mode = 1 || lb.mode = 2 then s.odSetN 0x4033 (link + 1) delay.toNat else s
    .next (s.loopReturn link lb.before)
  | _, _ => .next s

end Sys2Proof.Machine
end

