-- ==== Sys2Proof/Machine/FabricRows.lean ====
section
/-! DEFINITION. The commands of the fabric: routing, requests and replies that arrive, timeouts, the table swap, limiters and
window entries, and fabric time (R260 to R285). -/
namespace Sys2Proof.Machine

/-- The packet that the router takes next of those received on a link: the oldest one that heads its channel and goes where there is room
(R242, R278). -/
def State.nextIn (s : State) : List Pkt → List Nat → Option Pkt
  | [], _ => none
  | p :: ps, blocked =>
    if blocked.contains p.vc then s.nextIn ps blocked
    else if p.malformed || !s.routeFull p then some p else s.nextIn ps (p.vc :: blocked)

/-- PACKET_ROUTE: a packet received on a link passes the router; its slots are freed, and the credits go back in the pair that the link sends
next; a malformed one is discarded and counted (R242, R262, R267). -/
def execPacketRoute (link : Fin 12) (s : State) : Host.Outcome State Fault Refusal :=
  match s.nextIn (s.link link).rx [] with
  | none => .next s
  | some p =>
    let s := s.updLink link (fun l =>
      { l with rx := l.rx.erase p, freed := tset 0 l.freed p.vc ((tget 0 l.freed p.vc + p.slots) % 2 ^ 20) })
    let s := if p.malformed then s.odInc 0x4416 4 else s.route { p with die := linkDie link }
    .next (if s.linkUp link then s.sendPair link [] else s)

/-! ### Requests (R263, R265) -/

/-- The local address of a request through its window, or nothing for a window fault (R33, R350). -/
def State.windowAt (s : State) (p : Pkt) (right : Nat) : Option Nat :=
  let w := s.window p.dpart p.win
  if w.2.1 = 0 || p.offset + p.len > w.2.1 || p.offset ≥ w.2.1 || !bit right w.2.2 then none else some (w.1 + p.offset)

/-- The status of the reply to an access that did not go on (R33, R265, R330, R347). -/
def memReply (a : Acc) : Nat :=
  match a with
  | .isolation => 4
  | .uncorrectable => 3
  | .drop _ => 2
  | _ => 1

/-- A refused request: its ERROR. -/
def State.refuseReq (s : State) (p : Pkt) (st : Nat) : State :=
  s.answer p (s.errorOf p st (if st = 2 then s.partTag p.dpart else 0))

/-- WRITE: the bytes land at the window offset, the completion counter counts them, and an ACK answers (R93, R263, R265,
R331); a partial write over an uncorrectable scratchpad or pool granule is a data error (R162). -/
def execFabricWrite (ecc : Ecc) (s : State) : Host.Outcome State Fault Refusal :=
  serve s (fun p => p.op == 0) (fun p _ s =>
    match s.refusal p with
    | some (st, aux) => .ok (s.answer p (s.errorOf p st aux))
    | none =>
      match s.windowAt p 1 with
      | none => .ok (s.refuseReq p 1)
      | some a =>
        if s.sealedAt a then .ok s
        else match s.targetReset p.dpart a with
        | some tag => .ok (s.answer p (s.errorOf p 2 tag))
        | none =>
          if s.refusedWrite p.dpart a p.payload.length then .ok (s.refuseReq p 2)
          else
            let r := s.access .fabric p.dpart a p.payload.length true
            if r.waits then .error (p.dpart, r)
            else if r = .ok then
              let e := s.eccSeen ecc a p.payload.length
              let s := e.1
              if e.2 then .ok (s.refuseReq p 3)
              else
              let s := s.put a p.payload
              let s := if p.ce then s.arrivalCount p.rcore p.rcnt p.payload.length else s
              .ok (s.answer p (s.ackOf p))
            else .ok (((s.noteAcc p.dpart r).countBad p.dpart a p.payload.length).refuseReq p (memReply r)))

/-- READ: the bytes at the window offset go back; the completion counter counts them once (R93, R263, R276); an uncorrectable scratchpad or
pool granule is a data error (R162). -/
def execFabricRead (ecc : Ecc) (s : State) : Host.Outcome State Fault Refusal :=
  serve s (fun p => p.op == 1) (fun p again s =>
    match s.refusal p with
    | some (st, aux) => .ok (s.answer p (s.errorOf p st aux))
    | none =>
      match s.windowAt p 0 with
      | none => .ok (s.refuseReq p 1)
      | some a =>
        if s.sealedAt a then .ok s
        else match s.targetReset p.dpart a with
        | some tag => .ok (s.answer p (s.errorOf p 2 tag))
        | none =>
          let r := s.access .fabric p.dpart a p.len false
          if r.waits then .error (p.dpart, r)
          else if r = .ok then
            let e := s.readSeen ecc p.dpart a p.len
            let s := e.1
            if e.2 then .ok (s.refuseReq p 3)
            else
            let d := s.dataOf p (s.rdRange p.dpart a p.len)
            let s := if p.ce && !again then s.arrivalCount p.rcore p.rcnt p.len else s
            .ok (s.answer p d)
          else .ok (((s.noteAcc p.dpart r).countBad p.dpart a p.len).refuseReq p (memReply r)))

/-- A pace message (R426). -/
def Pkt.isPace (p : Pkt) : Bool := p.op == 4 && p.rcore == 0x1FF && p.rcnt == 0x3F

/-- SIGNAL: the delta is added to a counter; one that names no logical core and is no pace message is a window fault (R263, R426). -/
def execFabricSignal (s : State) : Host.Outcome State Fault Refusal :=
  serve s (fun p => p.op == 4 && !p.isPace) (fun p _ s =>
    match s.refusal p with
    | some (st, aux) => .ok (s.answer p (s.errorOf p st aux))
    | none =>
      if p.rcore ≥ 288 then .ok ((s.odInc 0x3016 4).answer p (s.errorOf p 1 0))
      else if s.sealed (clusterOf p.rcore) 17 then .ok s
      else if s.coreBlocked p.rcore then .ok (s.answer p (s.errorOf p 2 (s.resetTag (clusterOf p.rcore))))
      else .ok ((s.arrivalCount p.rcore p.rcnt (fieldAt p.payload 0 8)).answer p (s.ackOf p)))

/-! ### Replies (R275, R277, R360, R383) -/

/-- The outstanding request that a reply answers. -/
def State.answered (s : State) (p : Pkt) : Option Req := s.fabric.out.find? (fun r => r.answers p && r.pkt.gen == p.gen)

/-- A reply that nothing outstanding matches: counted as of a stale generation where its request is out under another tag, or was released
with its generation, or where the tag is none of the partition's current ones, and as a duplicate otherwise. One that comes for a cluster
after its legacy reset is absorbed instead (R389). -/
def State.stray (s : State) (p : Pkt) : State :=
  if s.fabric.late.contains (p.src, p.spart, p.seq, p.gen) then
    { s with fabric := { s.fabric with late := s.fabric.late.erase (p.src, p.spart, p.seq, p.gen) } }.odInc 0x7033 0
  else
  let tags := s.indigoTag p.spart :: (bitList 24 (s.part p.spart).clusters).map (fun c => s.odNum 0x7030 (c + 1))
  if s.fabric.out.any (fun r => r.answers p) || s.fabric.stale.contains (p.src, p.spart, p.seq, p.gen) || !tags.contains p.gen then
    s.odInc 0x4430 0
  else s.odInc 0x4424 2

/-- The first reply of an operation arrives: discarded, stray, absorbed by a fence, or given to `f` with its request. -/
def replyRow (s : State) (op : Nat) (f : Pkt → Req → State → Except (Nat × Acc) State) : Host.Outcome State Fault Refusal :=
  match s.take (fun p => p.op == op) with
  | none => .next s
  | some (p, s') =>
    match s'.unseal p with
    | .error s' => .next s'
    | .ok (p, s') =>
      match s'.answered p with
      | none => .next (s'.stray p)
      | some r =>
        let s' := s'.echo p
        if s'.fencedOwner r.owner r.pkt.spart then .next ((s'.reqGone p.src p.spart p.seq).odInc 0x7033 0)
        else .next (s.orHeld (f p r s'))

/-- What a request's acknowledgement does for its owner. -/
def State.ownerAcked (s : State) (r : Req) : State :=
  match r.owner with
  | .mop n id => s.mAnswered n id
  | .get _ _ _ => s
  | .sepia id u => s.sepiaAcked id u
  | .coll ref => s.collAcked ref
  | .epoch g k e rank => s.epAcked g k e rank
  | .pace => s

/-- What a request's failure does for its owner: the status of an ERROR, or 16 for the final timeout (R265, R275). -/
def State.ownerFailed (s : State) (r : Req) (st : Nat) : State :=
  let code := match st with
    | 1 => 8
    | 2 => 0xA
    | 3 => 0xB
    | 4 => 0xC
    | _ => 9
  let cmd := match st with
    | 1 => 7
    | 2 => 9
    | 3 => 8
    | 4 => 4
    | _ => 10
  match r.owner with
  | .mop n id | .get n id _ => s.mReqFault n id code r.pkt
  | .sepia id u => s.sepiaRefused id u cmd
  | .coll ref => s.collRefused ref st r.pkt
  | .epoch g k e rank => s.epRefused g k e rank st
  | .pace => s

/-- READ_DATA: the bytes arrive at the reader; `ecc` is what a write of part of a granule or of a sector finds there (R162, R177, R263). -/
def execFabricReadData (ecc : Ecc) (s : State) : Host.Outcome State Fault Refusal :=
  replyRow s 2 (fun p r s =>
    match r.owner with
    | .get n id dst => (s.getArrives n id dst p.payload ecc).map (fun s => s.reqGone p.src p.spart p.seq)
    | _ => .ok (s.reqGone p.src p.spart p.seq))

/-- ACK: a request has been executed (R263). -/
def execFabricAck (s : State) : Host.Outcome State Fault Refusal :=
  replyRow s 3 (fun p r s => .ok ((s.reqGone p.src p.spart p.seq).ownerAcked r))

/-- ERROR: unreachable and busy reissue the request while attempts remain; every other status ends it with its fault, and a
target-resetting reply is an abort cause of the partition's open epoch (R265, R275, R277, R328). -/
def execFabricError (s : State) : Host.Outcome State Fault Refusal :=
  replyRow s 7 (fun p r s =>
    if p.status = 5 || p.status = 6 then
      let s := if p.status = 6 then s.odInc 0x4424 4 else s
      .ok (if r.tries < r.limit then s.reissue r else s)
    else
      let s := (s.reqGone p.src p.spart p.seq).ownerFailed r p.status
      .ok (if p.status = 2 then s.castAbort r.pkt.spart 4 else s))

/-- REQUEST_TIMEOUT: the timeout of an outstanding request runs out: it is reissued, or its last attempt ends it; request
timers stand still while a table swap stops the fabric (R272, R275). -/
def execRequestTimeout (dst : BitVec 20) (part : Fin 16) (seq : BitVec 24) (s : State) : Host.Outcome State Fault Refusal :=
  match s.fabric.out.find? (fun r => r.pkt.dst == dst.toNat && r.pkt.spart == part.val && r.pkt.seq == seq.toNat) with
  | none => .next s
  | some r =>
    if s.fabric.stopped then .next s
    else if r.tries < r.limit then .next (s.reissue r)
    else .next (((s.reqGone dst.toNat part seq.toNat).odInc 0x4424 3).ownerFailed r 16)

/-! ### Settings and the table swap (R260, R266, R272, R273) -/

/-- Whether a coordinate may be written (R260). -/
def State.coordOk (s : State) (v : Nat) : Bool := decide (v < 2 ^ 20) && !s.inService

/-- A coordinate takes effect at once (R260, R405, R406). -/
def State.coordWrite (s : State) (v : Nat) : State :=
  let s := s.odSetN 0x4400 0 v
  (s.odSetN 0x2001 0 (withBit 1 (v == 0xF_FFFF) (s.odNum 0x2001 0))).leaveWhite

/-- Whether a table may be written (R266). -/
def State.tableWriteOk (s : State) (t : Nat) (b : List Byte) : Bool := s.odNum 0x4402 0 != t && s.tableOk b

/-- Whether a swap request is accepted; busy between its stop and its resumption is for the caller (R273). -/
def State.swapOk (s : State) (v : Nat) : Bool :=
  let t := bits 63 63 v
  decide (bits 62 0 v ≥ s.fab + 100_000) && !(s.rtable t).isEmpty && s.odNum 0x4402 0 != t && s.clk.fabricLocked

/-- A swap request is accepted (R272). -/
def State.swapRequest (s : State) (v : Nat) : State :=
  let s := ((s.odApply 0x4413 0).odSetN 0x4412 0 v).odSetN 0x4414 0 1
  { s with fabric := { s.fabric with swap := some ⟨bits 63 63 v, bits 62 0 v, 1000 * s.odNum 0x4413 0⟩ } }

/-- A swap request is refused: OD 0x4414 reports it, unless an earlier request stands scheduled, which the refusal leaves in force (R273; the latter
DESIGN CHOICE, log entry 166). -/
def State.swapRefused (s : State) : State := if s.fabric.swap.isSome then s else s.odSetN 0x4414 0 4

/-- SWAP_STOP: at time T the endpoints stop injecting and the request timers stand still (R272 step 3). -/
def execSwapStop (s : State) : Host.Outcome State Fault Refusal :=
  if s.fabric.swap.isSome && !s.fabric.stopped then
    .next ({ s with fabric := { s.fabric with stopped := true } }.odSetN 0x4414 0 2)
  else .next s

/-- SWAP_APPLY: packets still held in the router are discarded and counted, the requested table becomes active, and a new
deadlock mode applies (R272 step 5). -/
def execSwapApply (s : State) : Host.Outcome State Fault Refusal :=
  match s.fabric.swap with
  | none => .next s
  | some q =>
    if !s.fabric.stopped then .next s
    else
      let held := ((List.range 12).map (fun n => (s.link n).txq.length + (s.link n).rx.length)).sum
      let s := (List.range 12).foldl (fun s n =>
        s.updLink n (fun l => { l with txq := [], rx := [],
                                       freed := l.rx.foldl (fun t p => tset 0 t p.vc ((tget 0 t p.vc + p.slots) % 2 ^ 20)) l.freed })) s
      let s := ((s.odAdd 0x4415 0 held).odSetN 0x4402 0 q.table).odApply 0x4401 0
      .next { s with fabric := { s.fabric with swap := none } }

/-- SWAP_RESUME: injection and the timers resume (R272 step 6). -/
def execSwapResume (s : State) : Host.Outcome State Fault Refusal :=
  if s.fabric.stopped && s.fabric.swap.isNone then
    let held := s.fabric.frozen
    let s := { s with fabric := { s.fabric with stopped := false, frozen := [] } }.odSetN 0x4414 0 3
    .next (held.foldl State.inject s.retryHeld)
  else .next s

/-! ### Window entries and limiters (R276, R280) -/

/-- WINDOW_ENTRY_RELEASE: a flow has had no arrival for the window hold time (R276). -/
def execWindowEntryRelease (src : BitVec 20) (part : Fin 16) (s : State) : Host.Outcome State Fault Refusal :=
  if s.fabric.wins.any (Win.is src.toNat part) then
    let s := s.odApply 0x4425 0
    .next { s with fabric := { s.fabric with wins := s.fabric.wins.filter (fun w => !Win.is src.toNat part w) } }
  else .next s

/-- LIMITER_INCREASE: an increase interval of a flow ends; without a halving in it the rate rises by the step (R280). -/
def execLimiterIncrease (dst : BitVec 20) (part : Fin 16) (s : State) : Host.Outcome State Fault Refusal :=
  match s.fabric.limiters.find? (Limiter.is dst.toNat part) with
  | none => .next s
  | some l =>
    let s := s.odApplyAll [(0x4803, 0), (0x4804, 0)]
    let top := s.flowRate { Pkt.req 0 dst.toNat 0 part 0 [] with src := s.own }
    let rate := if l.halved then l.rate else min (l.rate + top * s.odNum 0x4803 0 / 1000) top
    .next { s with fabric := { s.fabric with
      limiters := updFirst (Limiter.is dst.toNat part) (fun l => { l.upTo s.now with rate := rate, halved := false }) s.fabric.limiters } }

/-- LIMITER_IDLE_RELEASE: a flow has been idle for the limiter idle time (R280). -/
def execLimiterIdleRelease (dst : BitVec 20) (part : Fin 16) (s : State) : Host.Outcome State Fault Refusal :=
  if s.fabric.limiters.any (Limiter.is dst.toNat part) then
    let s := s.odApply 0x4806 0
    .next { s with fabric := { s.fabric with limiters := s.fabric.limiters.filter (fun l => !Limiter.is dst.toNat part l) } }
  else .next s

/-! ### Fabric time (R281 to R284) -/

/-- This module is a time root (OD 0x4440) or follows one; the winning root is the lowest serial (R281). -/
def State.timeChoose (s : State) : State :=
  let own := s.odNum 0x1000 0
  let cands := (List.range 12).filterMap (fun n => match tfind s.ftime.links n with
    | some t => if s.linkUp n && t.dist < 0xFF then some (n, t) else none
    | none => none)
  let roots := (if s.odBool 0x4440 0 then [own] else []) ++ cands.map (fun c => c.2.root)
  match roots with
  | [] => s.timeFree
  | r :: rs =>
    let win := rs.foldl min r
    if s.odBool 0x4440 0 && win = own then
      { s with ftime := { s.ftime with parent := none, dist := 0, root := own, slew := 0, free := 0 },
               clk := { s.clk with fabricLocked := true } }
    else
      match cands.filter (fun c => c.2.root == win) with
      | [] => s
      | c :: cs =>
        let best := cs.foldl (fun b x => if x.2.dist < b.2.dist then x else b) c
        { s with ftime := { s.ftime with parent := some best.1, dist := min 0xFF (best.2.dist + 1), root := win, free := 0 } }

/-- TIME_MESSAGE: the oldest TIME message of a link is recorded, the parent is chosen, and the parent's message steers: a step
beyond 10 µs, a slew otherwise; lock after 10 exchanges within 50 ns, lost beyond 200 ns (R281 to R283). The path delay is kept beside it. A message that
echoes nothing yet gives no offset. -/
def execTimeMessage (link : Fin 12) (s : State) : Host.Outcome State Fault Refusal :=
  match s.takeCtl link 8 with
  | none => .next s
  | some (m, s) =>
    let b := m.drop 1
    let t4 := s.fab
    let t3 := fieldAt b 0 8
    let t1 := fieldAt b 8 8
    let t2 := fieldAt b 16 8
    let path : Int := if t1 = 0 && t2 = 0 then 0 else 500 * (((t4 : Int) - t1) - ((t3 : Int) - t2))
    let s := { s with ftime := { s.ftime with
      links := tput s.ftime.links link ⟨t3, t4, fieldAt b 24 1, fieldAt b 25 1, fieldAt b 26 8, path⟩ } }
    let s := s.timeChoose
    if s.ftime.parent ≠ some link.val || (t1 = 0 && t2 = 0) then .next s.showTime
    else
      let ps : Int := 500 * (((t2 : Int) - t1) - ((t4 : Int) - t3))
      let ns : Int := ps / 1000
      let s := s.odSetN 0x4444 0 (ofSigned 32 ns)
      if ps.natAbs > 10_000_000 then
        let s := { s with clk := { s.clk with fabricTime := ((s.fab : Int) + ns).toNat, fabricLocked := false },
                          ftime := { s.ftime with slew := 0, good := 0 } }
        .next ((s.odInc 0x4445 0).lilac 8 0 link 0 (ofSigned 64 ns) none).showTime
      else
        let good := if ps.natAbs < 50_000 then s.ftime.good + 1 else 0
        let lock := if ps.natAbs > 200_000 then false else s.clk.fabricLocked || decide (good ≥ 10)
        .next { s with clk := { s.clk with fabricLocked := lock }, ftime := { s.ftime with slew := ps, good := min good 10 } }.showTime

/-- TIME_SEND: an Active link sends TIME; OD 0x4440 takes effect here (R281, R282). -/
def execTimeSend (link : Fin 12) (s : State) : Host.Outcome State Fault Refusal :=
  if s.linkUp link then
    let s := (s.odApply 0x4440 0).timeChoose.showTime
    let t := (tfind s.ftime.links link).getD ⟨0, 0, 0xFF, 0, 0, 0⟩
    let root := s.ftime.dist == 0 && s.odBool 0x4440 0
    .next (s.control link 0x08 (leBytes 8 s.fab ++ leBytes 8 t.ptx ++ leBytes 8 t.prx ++ leBytes 1 s.ftime.dist ++
      leBytes 1 (b2n s.clk.fabricLocked + 2 * b2n root) ++ leBytes 8 (if root || s.ftime.parent.isSome then s.ftime.root else 0)))
  else .next s

end Sys2Proof.Machine
end

