-- ==== Sys2Proof/Machine/HostRows.lean ====
section
/-! DEFINITION. The host's register writes and the descriptors: queues, host counters, fetch, dispatch, each descriptor type,
and completion (R206 to R231). -/
namespace Sys2Proof.Machine

/-! ### Queue registers (R214 to R218) -/

/-- A function serves the partition of a queue (R206). -/
def State.servesQ (s : State) (fn q : Nat) : Bool := s.serving (qPart q) == fn

/-- The BAR 0 offset of a queue's register and of a host counter's (R209, R229). -/
def qOff (q r : Nat) : Nat := 0x40_0000 + q * 0x1000 + r
def hcOff (p h r : Nat) : Nat := 0x20_0000 + p * 0x4000 + h * 0x20 + r

/-- An ignored sequence of a queue's register. -/
def State.qIgnored (s : State) (kind q r : Nat) (v : Word) : State :=
  s.ignored kind (some (qPart q)) (some q) (s.serving (qPart q)) (qOff q r) v.toNat

/-- The VF of a partition is a TDI in CONFIG_LOCKED or RUN (R207, OD 0x6031). -/
def State.frozen (s : State) (p : Nat) : Bool :=
  s.serving p != 0 && (s.odNum 0x6031 (p + 1) == 1 || s.odNum 0x6031 (p + 1) == 2)

/-- The doorbell (R216). -/
def State.doorbell (s : State) (q : Nat) (v : Word) : State :=
  let x := s.queue q
  let t := bits 15 0 v.toNat
  if !(x.code == .enabled || x.code == .stopped) || !s.inService then s.qIgnored 1 q 0x40 v
  else if t ≥ x.slots then s.qIgnored 2 q 0x40 v
  else if (t + x.slots - x.head) % x.slots < x.fetchedSlots then s.qIgnored 3 q 0x40 v
  else (s.setQueue q { x with tail := t }).pulse 1 q

/-- DOORBELL: a function that serves the queue writes TAIL.INDEX: the slots up to it are published, or it is an ignored
sequence (R216). -/
def execDoorbell (fn : Fin 17) (queue : Fin 1024) (value : Word) (s : State) : Host.Outcome State Fault Refusal :=
  if s.servesQ fn.val queue.val then .next (s.doorbell queue.val value) else .next s

/-- QCTRL.EN written (R215, R230). An enable sets HEAD, TAIL and CQWR to 0; CQHEAD keeps the driver's index (R215). -/
def State.writeEn (s : State) (fn q : Nat) (v : Word) : State :=
  let x := s.queue q
  let on := bit 0 v.toNat
  let set := fun (s : State) => s.updQueue q (fun x => { x with ctrl := withBit 0 on x.ctrl })
  if on then
    match x.code with
    | .disabled =>
      if s.serviceable fn q then
        set ((s.setQueue q { x with head := 0, tail := 0, cqwr := 0, phase := true, fetched := [] }).qGo
          q .enabled)
      else s.qIgnored 5 q 0x10 v
    | .stopped => if s.serviceable fn q then (set (s.qGo q .enabled)).qFront q else s.qIgnored 5 q 0x10 v
    | .closing => s.qIgnored 5 q 0x10 v
    | .guilty => if s.serviceable fn q then set s else s.qIgnored 5 q 0x10 v
    | .enabled => set s
  else
    match x.code with
    | .enabled | .stopped | .guilty =>
      if s.qOut q = 0 then set ((s.setQueue q { x with fetched := [] }).qGo q .disabled) else set (s.qGo q .closing)
    | .closing | .disabled => set s

/-- A write of QUEUE.CTRL: the other fields take effect while the queue is Disabled; elsewhere a write that changes them is
ignored whole, and so is one that would enable a queue that is not serviceable (R207, R214, R230). -/
def State.writeCtrl (s : State) (fn q : Nat) (v : Word) : State :=
  let x := s.queue q
  let other := fun (n : Nat) => bits 43 22 n
  if other v.toNat ≠ other x.ctrl then
    if x.code ≠ .disabled || s.frozen (qPart q) then s.qIgnored 4 q 0x10 v
    else if bit 0 v.toNat && !s.serviceable fn q then s.qIgnored 5 q 0x10 v
    else (s.setQueue q { x with ctrl := other v.toNat * 2 ^ 22 + b2n (bit 0 x.ctrl) }).writeEn fn q v
  else s.writeEn fn q v

/-- A write of QUEUE.RING (false) or QUEUE.CQ (true): ignored while frozen, and where it changes a queue that is not Disabled (R207,
R214). -/
def State.writeRing (s : State) (q : Nat) (cq : Bool) (v : Word) : State :=
  let x := s.queue q
  let n := v.toNat / 4096 * 4096 + bits 4 0 v.toNat
  if s.frozen (qPart q) then s.qIgnored 4 q (if cq then 8 else 0) v
  else if n = (if cq then x.cq else x.ring) then s
  else if x.code ≠ .disabled then s.qIgnored 4 q (if cq then 8 else 0) v
  else s.setQueue q (if cq then { x with cq := n } else { x with ring := n })

/-- QUEUE_ENABLE: QUEUE.CTRL is written with QCTRL.EN 1 and the other fields of the value (R214, R215). -/
def execQueueEnable (fn : Fin 17) (queue : Fin 1024) (value : Word) (s : State) : Host.Outcome State Fault Refusal :=
  if s.servesQ fn.val queue.val then .next (s.writeCtrl fn.val queue.val (value ||| 1)) else .next s

/-- QUEUE_CLOSE: QUEUE.CTRL is written with QCTRL.EN 0 and the other fields of the value (R214, R215). -/
def execQueueClose (fn : Fin 17) (queue : Fin 1024) (value : Word) (s : State) : Host.Outcome State Fault Refusal :=
  if s.servesQ fn.val queue.val then .next (s.writeCtrl fn.val queue.val (value &&& ~~~1)) else .next s

/-- QUEUE_CONFIG_WRITE: QUEUE.RING (0), QUEUE.CQ (1) or QUEUE.CTRL (2) is written (R214). -/
def execQueueConfigWrite (fn : Fin 17) (queue : Fin 1024) (reg : Fin 3) (value : Word) (s : State) :
    Host.Outcome State Fault Refusal :=
  if !s.servesQ fn.val queue.val then .next s
  else if reg.val = 2 then .next (s.writeCtrl fn.val queue.val value)
  else .next (s.writeRing queue.val (reg.val == 1) value)

/-- A write of CQH.INDEX (R218). -/
def State.writeCqh (s : State) (q : Nat) (v : Word) : State :=
  let x := s.queue q
  let h := bits 15 0 v.toNat
  let r := x.records
  if h ≥ r || (h + r - x.cqhead % r) % r > (x.cqwr + r - x.cqhead % r) % r then s.qIgnored 10 q 0x20 v
  else s.setQueue q { x with cqhead := h }

/-- CQH_INDEX_WRITE: the driver's read index advances, or the write is an ignored sequence (R218). -/
def execCqhIndexWrite (fn : Fin 17) (queue : Fin 1024) (value : Word) (s : State) : Host.Outcome State Fault Refusal :=
  if s.servesQ fn.val queue.val then .next (s.writeCqh queue.val value) else .next s

/-! ### Function registers and host counters (R210, R211, R213, R229) -/

/-- The queues that a function serves and that are not Disabled. -/
def State.fnOpen (s : State) (fn : Nat) : Bool := s.queues.any (fun e => s.servesQ fn e.1 && e.2.code != .disabled)

/-- The feature bits of a version of the host queue ABI (R20, R213). -/
def abiFeatures (v : Nat) : Nat := if v = 2 then 0x18 else if v = 3 then 0x1F else 0

/-- A write of ABI.REQ: the agreed version, and FN.FEAT for it (R213). -/
def State.writeAbi (s : State) (fn : Nat) (v : Word) : State :=
  if s.fnOpen fn then s.ignored 11 none none fn 0x008 v.toNat
  else
    let r := bits 7 0 v.toNat
    let v := if r < 2 then 0 else min r 3
    s.setFn fn { s.fn fn with abiReq := r, abiAgreed := v, feat := abiFeatures v }

/-- ABI_REQ_WRITE: the agreed version is the lower of the value and 3, or 0 below 2 (R213). -/
def execAbiReqWrite (fn : Fin 17) (value : Word) (s : State) : Host.Outcome State Fault Refusal :=
  onFn s fn.val (s.writeAbi fn.val value)

/-- FN_EVENT_CLEAR: the bits written 1 are cleared (R210). -/
def State.clearEvents (s : State) (fn : Nat) (v : Word) : State :=
  s.setFn fn { s.fn fn with event := (List.range 5).foldl (fun e b => if bit b v.toNat then withBit b false e else e) (s.fn fn).event }
def execFnEventClear (fn : Fin 17) (value : Word) (s : State) : Host.Outcome State Fault Refusal :=
  onFn s fn.val (s.clearEvents fn.val value)

/-- The fields of FN.WIN0 and FN.WIN1 (R210). -/
def winBase (w : Nat) : Nat := bits 43 36 w
def winEn (w : Nat) : Bool := bit 7 w
def winPart (w : Nat) : Nat := bits 3 0 w
def Fn.win (f : Fn) (w : Nat) : Nat := if w = 0 then f.win0 else f.win1

/-- A write of FN.WIN0 or FN.WIN1 (R207, R210). -/
def State.writeWin (s : State) (fn w : Nat) (v : Word) : State :=
  let n := v.toNat
  let m := winBase n * 2 ^ 36 + b2n (winEn n) * 2 ^ 7 + winPart n
  if fn ≠ 0 && s.frozen (fn - 1) then s.ignored 4 (some (fn - 1)) none fn (0x020 + 8 * w) n
  else if s.serving (winPart n) ≠ fn then s.ignored 11 none none fn (0x020 + 8 * w) n
  else s.setFn fn (if w = 0 then { s.fn fn with win0 := m } else { s.fn fn with win1 := m })

/-- FN_WIN_WRITE: a window is set, unless WIN.PART is not served or the register is frozen (R207, R210). -/
def execFnWinWrite (fn : Fin 17) (win : Fin 2) (value : Word) (s : State) : Host.Outcome State Fault Refusal :=
  onFn s fn.val (s.writeWin fn.val win.val value)

/-- HCNT_VALUE_WRITE: a host write sets a counter of a served partition (R229). -/
def execHcntValueWrite (fn : Fin 17) (part : Fin 16) (cnt : Fin 512) (value : Word) (s : State) :
    Host.Outcome State Fault Refusal :=
  if s.serving part.val = fn.val then .next (s.hcSet part.val cnt.val value) else .next s

/-- A threshold write arms the counter and tests it (R229). -/
def State.writeThresh (s : State) (p h : Nat) (v : Word) : State :=
  (s.setHc p h { s.hc p h with thresh := v, armed := true }).hcTest p h

/-- HCNT_THRESH_WRITE (R229). -/
def execHcntThreshWrite (fn : Fin 17) (part : Fin 16) (cnt : Fin 512) (value : Word) (s : State) :
    Host.Outcome State Fault Refusal :=
  if s.serving part.val = fn.val then .next (s.writeThresh part.val cnt.val value) else .next s

/-- A write of HCNT.CTRL: the enable and the vector, unless the vector is 0 or beyond the function's table (R229, R230). -/
def State.writeHcCtrl (s : State) (fn p h : Nat) (v : Word) : State :=
  let vec := bits 10 0 v.toNat
  if vec = 0 || vec ≥ (if fn = 0 then 2048 else 256) then s.ignored 11 (some p) none fn (hcOff p h 0x10) v.toNat
  else s.setHc p h { s.hc p h with en := bit 15 v.toNat, vec := vec }

/-- HCNT_CTRL_WRITE (R229). -/
def execHcntCtrlWrite (fn : Fin 17) (part : Fin 16) (cnt : Fin 512) (value : Word) (s : State) :
    Host.Outcome State Fault Refusal :=
  if s.serving part.val = fn.val then .next (s.writeHcCtrl fn.val part.val cnt.val value) else .next s

/-! ### Fetch (R216, R217) -/

/-- The bytes of `n` slots from an index of a ring, wrapping at its end. -/
def State.slotsAt (s : State) (x : Queue) (i n : Nat) : List Byte :=
  (List.range n).flatMap (fun k => s.hrdN (x.ringBase + 64 * ((i + k) % x.slots)) 64)

/-- DESCRIPTOR_FETCH: an Enabled queue fetches its next descriptor once all its slots are published (R217). -/
def execDescriptorFetch (queue : Fin 1024) (s : State) : Host.Outcome State Fault Refusal :=
  let q := queue.val
  let x := s.queue q
  let next := (x.head + x.fetchedSlots) % x.slots
  let avail := (x.tail + x.slots - next) % x.slots
  if x.code ≠ .enabled || avail = 0 then .next s
  else
    let n := dSlots (dNum (s.slotsAt x next 1))
    if avail < n then .next s
    else
      let f : Fetched := ⟨x.count, next, s.slotsAt x next n, none⟩
      let s := if x.fetched.isEmpty && s.qOut q = 0 then s.stallStart q else s
      .next ((s.updQueue q (fun x => { x with fetched := x.fetched ++ [f], count := x.count + 1 })).qFront q)

/-! ### Dispatch (R217, R220, R224) -/

/-- The units of a COPY (R220). -/
def cpyUnits (d : Nat) : Nat := (cpyLen d + 4095) / 4096

/-- What the dispatcher finds at the front of a queue that may dispatch: nothing to do yet, an ignored sequence, a descriptor
outside its partition with its units, one whose target is unavailable with its units, or one free to dispatch. -/
inductive Turn where
  | held
  | ignore (kind : Nat)
  | isolated (units : Nat)
  | unavailable (units : Nat)
  | go
  deriving DecidableEq, Repr

/-- A descriptor's cores, counters and addresses outside its partition, with the number of its units (R220). -/
def State.outside (s : State) (p d : Nat) : Option Nat :=
  let badCore := fun (n : Nat) => !(s.part p).hasCluster (clusterOf n)
  match dType d with
  | 1 =>
    if (krnList d).any badCore || s.reachAll p (krnProg d) (8 * krnLen d) false = .isolation then some (krnList d).length else none
  | 2 =>
    if (!cpySrcH d && s.reachAll p (cpySrc d) (cpyLen d) false == .isolation) ||
        (!cpyDstH d && s.reachAll p (cpyDst d) (cpyLen d) true == .isolation) || (cpyCE d && badCore (cpyCore d)) then
      some (cpyUnits d)
    else none
  | 4 => if colCE d && badCore (colCore d) then some 1 else none
  | 5 | 6 => if wtCore d && badCore (wtIdx d) then some 1 else none
  | 7 =>
    if s.gSt (epGroup d) != 0 && gdPart (s.gd (epGroup d)) != p then some 1 else none
  | _ => none

/-- A descriptor other than a KERNEL whose counter is a core's of an unavailable cluster, or of one behind a sealed dispatch crossing, with
the number of its units; a table command's counter is the module's own where its destination is (R26, R57, R193). -/
def State.targetGone (s : State) (d : Nat) : Option Nat :=
  let gone := fun (n : Nat) => s.clusterDown (clusterOf n) || s.sealed (clusterOf n) 16
  match dType d with
  | 2 => if cpyCE d && gone (cpyCore d) then some (cpyUnits d) else none
  | 3 => let c := tblCmd d; if cmRce c && !cmGlob c && gone (cmRcore c) then some (cmUnits c) else none
  | 4 => if colCE d && gone (colCore d) then some 1 else none
  | 5 | 6 => if wtCore d && gone (wtIdx d) then some 1 else none
  | _ => none

/-- Flights of a partition that have not completed. -/
def State.partFlights (s : State) (p : Nat) : Nat := (s.disp.flights.filter (fun f => f.part == p)).length

/-- What holds each type at the front of a queue (R220, R224, R300, R324). -/
def State.typeHeld (s : State) (q d : Nat) : Bool :=
  let p := qPart q
  match dType d with
  | 2 => decide ((s.disp.flights.filter (fun f => dType (dNum f.bytes) == 2 && !f.finished)).length ≥ 64)
  | 3 => !s.enginesFree p (tblCmd d)
  | 4 => s.admission p d == .hold
  | 5 => if wtCore d then !(BitVec.ofNat 64 (wtValue d)).ule ((s.core (wtIdx d)).counter (wtCnt d))
         else !(BitVec.ofNat 64 (wtValue d)).ule (s.hc p (wtIdx d)).value
  | 7 => s.partFlights p != 0 || (s.ep p).st != .closed
  | 8 => s.partFlights p != 0
  | 9 => s.disp.flights.any (fun f => if fncPart d then f.part == p else f.ref.queue == q)
  | _ => false

/-- An epoch descriptor that stands at the front of an Enabled queue with room: the local time since which it does (R224). -/
def State.epochFront (s : State) (q : Nat) : Option Nat :=
  let x := s.queue q
  match x.fetched with
  | f :: _ =>
    if (dType (dNum f.bytes) == 7 || dType (dNum f.bytes) == 8) && x.code == .enabled && decide (s.qOut q < 256) && !x.cqFull then
      some (f.since.getD 0) else none
  | [] => none

/-- Whether an epoch descriptor at the front of another queue of the partition holds this one's dispatch; of two, the one that came to
its front first holds the other (R224). -/
def State.epochWaits (s : State) (q : Nat) : Bool :=
  s.queues.any (fun e => e.1 != q && qPart e.1 == qPart q &&
    (match s.epochFront e.1, s.epochFront q with
      | some t, some u => decide (t < u) || (t == u && decide (e.1 < q))
      | some _, none => true
      | none, _ => false))

/-- Whether a queue may not dispatch whatever stands at its front: not Enabled, 256 descriptors out, a full completion ring, or an epoch
being opened or decided, or waiting to be (R215, R217, R224). -/
def State.queueHeld (s : State) (q : Nat) : Bool :=
  let e := s.ep (qPart q)
  (s.queue q).code != .enabled || decide (s.qOut q ≥ 256) || (s.queue q).cqFull || e.beginDesc.isSome || e.voteDesc.isSome ||
  s.epochWaits q

/-- The front descriptor on its own; an epoch number that is not above the last one decided is out of range (R220, R224, R230, R317). -/
def State.frontTurn (s : State) (q d : Nat) : Turn :=
  let p := qPart q
  let e := s.ep p
  let v := (s.fn (s.serving p)).abiAgreed
  match typeSlots v (dType d) with
  | none => .ignore 6
  | some n =>
    if dSlots d ≠ n || !reservedOk v d || !rangeOk d || (dType d == 7 && e.anyDecided && decide (epEpoch d ≤ e.lastDecided)) then .ignore 7
    else if dType d = 7 && e.st.isOpen then .ignore 8
    else if dType d = 8 && !((e.st == .opened || e.st == .doomed) && e.group == epGroup d && e.epoch == epEpoch d) then .ignore 9
    else match s.outside p d with
      | some u => .isolated u
      | none => match s.targetGone d with
        | some u => .unavailable u
        | none => if s.typeHeld q d then .held else .go

/-- The front of a queue, in its turn (R217). -/
def State.turn (s : State) (q : Nat) : Turn :=
  match (s.queue q).fetched with
  | [] => .held
  | f :: _ => if s.queueHeld q then .held else s.frontTurn q (dNum f.bytes)

/-- The queues in the order of the dispatcher's round (R217). -/
def State.round (s : State) : List Nat :=
  let ks := s.queues.map (·.1)
  ks.filter (fun k => decide (k > s.disp.last)) ++ ks.filter (fun k => decide (k ≤ s.disp.last))

/-- The front descriptor of a queue is dispatched with a number of units: it leaves the queue and its record of progress
starts (R216, R217, R542). -/
def State.launchDesc (s : State) (q units : Nat) : State × DescRef × Nat :=
  let x := s.queue q
  match x.fetched with
  | [] => (s, ⟨q, 0⟩, 0)
  | f :: _ =>
    let d := dNum f.bytes
    let r : DescRef := ⟨q, f.index⟩
    let fl : Flight := ⟨r, qPart q, f.slot, f.bytes, units, [], 0, false, none, 0, false⟩
    let s := { s with disp := { s.disp with flights := s.disp.flights ++ [fl], last := q, chosen := none } }
    let s := s.lilac 1 1 q (x.ringAddr + 64 * f.slot) (dTag d * 2 ^ 32 + x.code.code * 2 ^ 16 + dType d) (some (qPart q))
    (s.qConsume q, r, d)

/-- Dispatches a descriptor that ends with one outcome at once. -/
def State.endNow (s : State) (q units : Nat) (e : UEnd) : State :=
  let (s, r, _) := s.launchDesc q units
  s.flightForce r e

/-- DESCRIPTOR_DISPATCH: the dispatcher turns to the next queue with work free to dispatch. An ignored sequence and a
descriptor outside its partition or with an unavailable target end at once; any other stands chosen for the event of its type (R217, R220, R230). -/
def execDescriptorDispatch (s : State) : Host.Outcome State Fault Refusal :=
  match s.round.find? (fun q => s.turn q != .held) with
  | none => .next { s with disp := { s.disp with chosen := none } }
  | some q =>
    match s.turn q with
    | .ignore k =>
      let x := s.queue q
      let d := match x.fetched with | f :: _ => dNum f.bytes | [] => 0
      let s := s.endNow q 1 ⟨1, k, 0⟩
      .next (s.ignored k (some (qPart q)) (some q) (s.serving (qPart q)) (qOff q 0x40) (d % 2 ^ 64))
    | .isolated u => .next ((s.countIsolation (qPart q)).endNow q u ⟨8, 0, 0⟩)
    | .unavailable u => .next (s.endNow q u ⟨2, 0, 0⟩)
    | _ => .next { s with disp := { s.disp with chosen := some q } }

/-- A type's event: it acts on the chosen queue while that queue's front is of the type and still free to dispatch. -/
def descRow (s : State) (t : Nat) (f : Nat → Nat → State) : Host.Outcome State Fault Refusal :=
  match s.disp.chosen with
  | none => .next s
  | some q =>
    match (s.queue q).fetched with
    | [] => .next s
    | x :: _ =>
      let d := dNum x.bytes
      if dType d = t && s.turn q = .go then .next (f q d) else .next s

/-- NOP: completes with no effect (R220). -/
def execNopDescriptor (s : State) : Host.Outcome State Fault Refusal :=
  descRow s 0 (fun q _ =>
    let (s, r, _) := s.launchDesc q 1
    s.unitEnd r 0 ⟨0, 0, 0⟩)

/-- A core's dispatch entry for a KERNEL (R88, R89, R221). -/
def launchOf (r : DescRef) (p gen d : Nat) : Launch :=
  ⟨r, krnProg d, krnBase d, krnLen d, BitVec.ofNat 64 (krnGrant d), bit 0 (krnAcc d), bit 1 (krnAcc d),
   BitVec.ofNat 64 (krnSeed d), (List.range 6).map (fun k => BitVec.ofNat 64 (krnArg d (k + 1))), p, gen, false⟩

/-- KERNEL: a dispatch entry is placed at every core of the set; a core of an unavailable cluster, or behind a sealed dispatch
crossing, ends UNAVAILABLE (R220, R221). -/
def execDescKernel (s : State) : Host.Outcome State Fault Refusal :=
  descRow s 1 (fun q d =>
    let (s, r, _) := s.launchDesc q (krnList d).length
    (krnList d).foldl (fun s n =>
      let c := clusterOf n
      if s.clusterDown c || s.sealed c 16 then s.coreEnd r n ⟨2, 0, 0⟩
      else
        let k := s.core n
        (s.setCore n { k with waitq := k.waitq ++ [launchOf r (qPart q) (s.coreTag n) d] }).pulse 2 c) s)

/-- COPY: the copy engine takes the descriptor and starts its first 8 units; one of length 0 completes (R222). -/
def execDescCopy (s : State) : Host.Outcome State Fault Refusal :=
  descRow s 2 (fun q d =>
    let u := cpyUnits d
    let (s, r, _) := s.launchDesc q u
    if u = 0 then s.flightDone r
    else s.updFlight r (fun f => { f with started := min 8 u }))

/-- TABLE: the command is queued at its executing engines (R186, R223). -/
def execDescTable (s : State) : Host.Outcome State Fault Refusal :=
  descRow s 3 (fun q d =>
    let (s, r, _) := s.launchDesc q (cmUnits (tblCmd d))
    s.pushCmd (.desc r) (qPart q) (tblSeed d) (tblCmd d))

/-- What an admission that fails is counted in: the partition's refused accesses, or the collectives ended with its sub-status, of which element 1 has no
other source than R292 (DEDUCED, log entry 167). -/
def State.admitFailed (s : State) (p : Nat) (e : UEnd) : State :=
  match e.status with
  | 6 => s.odInc 0x5012 e.sub
  | 7 => s.countAddress p
  | 8 => s.countIsolation p
  | _ => s

/-- COLLECTIVE: the group admits the collective, or it ends at once; a range or group that it may not use is counted (R31, R300, R347). -/
def execDescCollective (s : State) : Host.Outcome State Fault Refusal :=
  descRow s 4 (fun q d =>
    match s.admission (qPart q) d with
    | .hold => s
    | .done e u => (s.admitFailed (qPart q) e).endNow q u e
    | .go b =>
      let (s, r, _) := s.launchDesc q (colChunks b d)
      s.admitGo r (qPart q) d b)

/-- WAIT_COUNTER: its condition holds and it completes OK (R224). -/
def execWaitCounter (s : State) : Host.Outcome State Fault Refusal :=
  descRow s 5 (fun q _ =>
    let (s, r, _) := s.launchDesc q 1
    s.unitEnd r 0 ⟨0, 0, 0⟩)

/-- SIGNAL_COUNTER: changes the named counter once (R224). -/
def execSignalCounter (s : State) : Host.Outcome State Fault Refusal :=
  descRow s 6 (fun q d =>
    let (s, r, _) := s.launchDesc q 1
    let v := BitVec.ofNat 64 (wtValue d)
    let s := if wtCore d then (if sgSet d then s.cntIn (wtIdx d) (wtCnt d) v else s.addIn (wtIdx d) (wtCnt d) v)
      else (if sgSet d then s.hcSet (qPart q) (wtIdx d) v else s.hcAdd (qPart q) (wtIdx d) v)
    s.unitEnd r 0 ⟨0, 0, 0⟩)

/-- FENCE: every earlier descriptor of its scope has completed, and it completes OK (R224). -/
def execFenceDescriptor (s : State) : Host.Outcome State Fault Refusal :=
  descRow s 9 (fun q _ =>
    let (s, r, _) := s.launchDesc q 1
    s.unitEnd r 0 ⟨0, 0, 0⟩)

/-- EPOCH_BEGIN: a group that is Undefined opens nothing; otherwise the agent copies the epoch tree, and the delivery of the
partition's next colour starts (R198, R324). -/
def execEpochBegin (s : State) : Host.Outcome State Fault Refusal :=
  descRow s 7 (fun q d =>
    let p := qPart q
    let g := epGroup d
    if s.gSt g = 0 then s.endNow q 1 ⟨6, 2, 0⟩
    else
      let (s, r, _) := s.launchDesc q 1
      let s := s.setEp p { s.ep p with group := g, epoch := epEpoch d, tree := treeOf (s.gd g), cause := 0, beginDesc := some r }
      s.colourStart p)

/-- EPOCH_VOTE: a Doomed member restores; an Open one votes abort where the descriptor asks for it or a descriptor has failed,
and commit otherwise (R224, R328, R329). -/
def execEpochVote (s : State) : Host.Outcome State Fault Refusal :=
  descRow s 8 (fun q d =>
    let p := qPart q
    let (s, r, _) := s.launchDesc q 1
    let e := s.ep p
    let s := s.setEp p { e with voteDesc := some r }
    if e.st = .doomed then s.startRestore p
    else if epAbort d || e.failed then (s.sendAbort p (if epAbort d then 1 else 2)).startRestore p
    else ((s.odApply 0x5821 0).epGo p .voted).voteUp p)

/-! ### Completion -/

/-- A COPY ends when every unit is done, or after one that failed (R222). -/
def State.copyCheck (s : State) (r : DescRef) : State :=
  match s.flight? r with
  | none => s
  | some f =>
    let bad := f.ends.any (fun e => e.2.status != 0)
    if f.finished then s
    else if bad && f.ends.length ≥ f.started then s.flightDone r
    else if !bad && f.ends.length ≥ f.units then s.flightDone r
    else if bad then s
    else s.updFlight r (fun f => { f with started := min f.units (f.ends.length + 8) })

/-- The status of a unit whose local access did not go on (R226, R330). -/
def copyStatus : Acc → UEnd
  | .address | .bank => ⟨7, 0, 0⟩
  | .isolation => ⟨8, 0, 0⟩
  | .uncorrectable => ⟨9, 0, 0⟩
  | _ => ⟨0, 0, 0⟩

/-- Writes bytes of a COPY to its destination: host memory as the queue addresses it, or local memory. -/
def State.copyOut (s : State) (x : Queue) (d a : Nat) (bs : List Byte) : State :=
  if cpyDstH d then s.hwr (x.host a) bs else s.put a bs

/-- COPY_UNIT_DONE: a unit under way of a COPY completes, or fails: only that unit can be partly written, with a prefix that the
manual does not state, and no later unit starts; nothing ends behind a sealed crossing (R57, R162, R177, R222; log entry 4). -/
def execCopyUnitDone (queue : Fin 1024) (index unit : Nat) (result : CopyResult) (s : State) :
    Host.Outcome State Fault Refusal :=
  let r : DescRef := ⟨queue.val, index⟩
  match s.flight? r with
  | none => .next s
  | some f =>
    let d := dNum f.bytes
    let x := s.queue queue.val
    if dType d ≠ 2 || f.finished || unit ≥ f.started || (tfind f.ends unit).isSome || (s.part f.part).st = .scrubbing then .next s
    else
      let p := f.part
      let n := min 4096 (cpyLen d - 4096 * unit)
      let src := cpySrc d + 4096 * unit
      let dst := cpyDst d + 4096 * unit
      let ra := if cpySrcH d then Acc.ok else s.access .host p src n false
      let wa := if cpyDstH d then Acc.ok else s.access .host p dst n true
      let data := fun (s : State) => if cpySrcH d then s.hrdN (x.host src) n else s.rdRange p src n
      let seen := fun (e : Ecc) =>
        let a := if cpySrcH d then (s, false) else s.readSeen e p src n
        if cpyDstH d || a.2 then a else if e = .uncorrectable then s.eccSeen e dst n else a
      let stop := fun (s : State) (e : UEnd) (touch : Bool) =>
        let k := s.freeVal 12
        let s := if touch then k.2.copyOut x d dst ((data k.2).take (k.1 % n)) else s
        (s.updFlight r (fun f => { f with ends := tput f.ends unit e })).copyCheck r
      if ra.waits || wa.waits then .next ((s.noteAcc p ra).noteAcc p wa)
      else if (!cpySrcH d && s.sealedAt src) || (!cpyDstH d && s.sealedAt dst) then .next s
      else if ra ≠ .ok then .next (stop ((s.noteHost p ra).countBad p src n) (copyStatus ra) false)
      else match wa with
        | .ok => match result with
          | .translation => if cpySrcH d || cpyDstH d then .next (stop s ⟨7, 1, 0⟩ true) else .next s
          | .uncorrectable =>
            let e := seen .uncorrectable
            if e.2 then .next (stop e.1 ⟨9, 0, 0⟩ true) else .next s
          | .ok corrected =>
            let s := (seen (.ok corrected)).1.copyOut x d dst (data s)
            .next ((s.updFlight r (fun f => { f with ends := tput f.ends unit ⟨0, 0, 0⟩ })).copyCheck r)
        | w => .next (stop ((s.noteHost p w).countBad p dst n) (copyStatus w) false)

/-- A descriptor waits for the verdict of a replay (R387). -/
def State.suspected (s : State) (r : DescRef) : Bool :=
  s.faults.replays.any (fun x => (x.todo ++ x.cur.toList ++ x.past).any (fun y => y.launch.desc == r))

/-- DESCRIPTOR_COMPLETE: the first descriptor in the order of ending whose completion ring has room completes (R218, R228). -/
def execDescriptorComplete (s : State) : Host.Outcome State Fault Refusal :=
  let fs := s.disp.order.filterMap s.flight?
  match fs.find? (fun f => !s.suspected f.ref && (f.silent || !(s.queue f.ref.queue).cqFull || (dQuiet (dNum f.bytes) && f.outcome.status == 0))) with
  | none => .next s
  | some f => .next (s.complete f)

/-- WAIT_COUNTER_TIMEOUT: the timeout of the WAIT_COUNTER at a queue's front passes before its condition holds: it completes
TIMEOUT and its queue is Stopped (R215, R224). -/
def execWaitCounterTimeout (queue : Fin 1024) (s : State) : Host.Outcome State Fault Refusal :=
  let q := queue.val
  let x := s.queue q
  match x.fetched with
  | [] => .next s
  | f :: _ =>
    let d := dNum f.bytes
    if dType d = 5 && wtTmo d ≠ 0 && !s.queueHeld q && s.frontTurn q d = .held then
      .next ((s.endNow q 1 ⟨0xA, 0, 0⟩).qGo q .stopped)
    else .next s

/-! ### Windows (R211, R212) -/

/-- Whether a function's window serves at all: enabled, its partition served, and its TDI not in ERROR (R207, R212). -/
def State.winOpen (s : State) (fn w : Nat) : Bool :=
  let x := (s.fn fn).win w
  winEn x && s.serving (winPart x) == fn && !(fn != 0 && s.odNum 0x6031 fn == 3)

/-- HOST_WINDOW_READ: a read of up to 4,096 bytes is served as the window's partition, completes Unsupported Request and is counted, or
completes poisoned; behind a sealed crossing nothing answers it (R31, R57, R208, R211, R212). -/
def execHostWindowRead (fn : Fin 17) (win : Fin 2) (off : BitVec 36) (len : Fin 4097) (ecc : Ecc) (s : State) :
    Host.Outcome State Fault Refusal :=
  let x := (s.fn fn.val).win win.val
  let p := winPart x
  let a := winBase x * 2 ^ 36 + off.toNat
  let n := len.val
  if !s.hasFn fn.val then .next s
  else if !s.winOpen fn.val win.val || off.toNat + n > 2 ^ 36 then .next ((s.countAddress p).emit (.completion fn.val 1 []))
  else
    match s.access .host p a n false with
    | .ok =>
      let e := s.readSeen ecc p a n
      if s.sealedAt a then .next s
      else if e.2 then .next (e.1.emit (.completion fn.val 2 []))
      else .next (e.1.emit (.completion fn.val 0 (s.rdRange p a n)))
    | .uncorrectable => .next ((s.countBad p a n).emit (.completion fn.val 2 []))
    | .wait => .next s
    | r => .next ((s.noteHost p r).emit (.completion fn.val 1 []))

/-- The granules or sectors of a host write that are not made: those it writes in part over uncorrectable data (R148, R177, R212). On
chip and in HBM the check bits' outcome does not say which of two such granules or sectors it names: a free value chooses among the first,
the last and both (log entry 162). -/
def State.windowPut (s : State) (ecc : Ecc) (a : Nat) (bs : List Byte) : State :=
  let n := bs.length
  if s.onChip a n then
    let e := s.eccSeen ecc a n
    if !e.2 then e.1.put a bs
    else
      let f := e.1.freeVal 2
      let head := if a % 8 = 0 then 0 else min n (8 - a % 8)
      let tail := if (a + n) % 8 = 0 then 0 else min (n - head) ((a + n) % 8)
      let k := if head = 0 then 1 else if tail = 0 then 0 else f.1 % 3
      let lo := if k = 1 then 0 else head
      let hi := if k = 0 then 0 else tail
      f.2.put (a + lo) ((bs.drop lo).take (n - lo - hi))
  else
    let l := (partSectors a n).filter (fun k => !s.memory.bad.contains k)
    let t := match ecc with
      | .ok k => (l.take k).foldl (fun s k => s.corrected (64 * k)) s
      | .uncorrectable =>
        let f := s.freeVal 2
        let hit := if l.length ≤ 1 || f.1 % 3 = 2 then l else if f.1 % 3 = 0 then l.take 1 else l.drop 1
        hit.foldl (fun s k => s.spoil (64 * k)) f.2
    (sectorsOf a n).foldl (fun r k =>
      let q := pieceOf a bs k
      if q.2.length = 64 || !t.memory.bad.contains k then r.put q.1 q.2
      else if s.memory.bad.contains k then r.odInc 0x8021 (stackOf q.1 + 1)
      else r) t

/-- HOST_WINDOW_WRITE: a write is served as the window's partition, or discarded and counted; a partial write over uncorrectable data is
not made; 8 bytes at a BANK.CTRL go to the bank; behind a sealed crossing the write is lost (R31, R57, R154, R211, R212). -/
def execHostWindowWrite (fn : Fin 17) (win : Fin 2) (off : BitVec 36) (data : List Byte) (ecc : Ecc) (s : State) :
    Host.Outcome State Fault Refusal :=
  let x := (s.fn fn.val).win win.val
  let p := winPart x
  let a := winBase x * 2 ^ 36 + off.toNat
  let n := data.length
  if !s.hasFn fn.val then .next s
  else if !s.winOpen fn.val win.val || off.toNat + n > 2 ^ 36 then .next (s.countAddress p)
  else
    match s.access .host p a n true with
    | .ok =>
      if s.sealedAt a then .next s
      else match s.region a with
      | .coreCtl k o =>
        if n = 8 && o % 16 = 0 then .next (s.bankWrite k ((o - 0x2_0000) / 0x10) ⟨.host fn, BitVec.ofNat 64 (leNat data)⟩)
        else .next (s.countAddress p)
      | _ => .next (s.windowPut ecc a data)
    | .uncorrectable => match s.gate a n with
      | .go => .next (s.windowPut ecc a data)
      | g => .next (s.noteGate g)
    | r => .next (s.noteHost p r)

end Sys2Proof.Machine
end

