-- ==== Sys2Proof/Machine/Rings.lean ====
section
/-! DEFINITION. The trace rings in HBM, their settings and the sink's (R544 to R547). -/
namespace Sys2Proof.Machine

/-- A ring's setting: base and length; none where it is not set. Ring 0 is the management ring, p + 1 that of Pp. -/
def ringObj (k : Nat) : Nat × Nat := if k = 0 then (0xA202, 0) else (0xA203, k)
def State.ringSet (s : State) (k : Nat) : Option (Nat × Nat) :=
  let b := s.odBlob (ringObj k).1 (ringObj k).2
  if b.length = 16 then some (fieldAt b 0 8, fieldAt b 8 8) else none

def RingHdr.blank : RingHdr := ⟨0, 0, 0, 0⟩
def State.ringHdr (s : State) (k : Nat) : RingHdr := tget RingHdr.blank s.trace.hdr k
def State.setHdr (s : State) (k : Nat) (h : RingHdr) : State :=
  { s with trace := { s.trace with hdr := tset RingHdr.blank s.trace.hdr k h } }
def RingHdr.bytes (h : RingHdr) : List Byte := leBytes 8 h.next ++ leBytes 8 h.written ++ leBytes 8 h.lost ++ leBytes 8 h.time

/-- The management ring overlaps a region of a partition that is not Absent (R546). -/
def State.ringBlocked (s : State) (base len : Nat) : Bool :=
  (List.range 16).any (fun p => (s.part p).st != .absent && (s.part p).regions.any (fun r => rangesMeet (base, len) r))

/-- A record for a ring is dropped (R546, R547). -/
def State.ringLost (s : State) (k : Nat) : State := s.setHdr k { s.ringHdr k with lost := (s.ringHdr k).lost + 1 }

/-- A record is written to a ring, and then the header that counts it (R545). A cleared header names slot 1. The sink is no base die: a
slot or header that a declared slice covers is an address fault, which changes nothing, and the record is dropped and counted (R320; the count
DESIGN CHOICE, log entry 177). -/
def State.ringWrite (s : State) (k : Nat) (time : Nat) (bs : List Byte) : State :=
  match s.ringSet k with
  | none => s
  | some (base, len) =>
    let h := s.ringHdr k
    let i := max 1 h.next
    if (k = 0 && s.ringBlocked base len) || s.inSlice base || s.inSlice (base + 32 * i) then s.ringLost k
    else
      let h := { h with next := if i + 1 < len / 32 then i + 1 else 1, written := h.written + 1, time := time }
      ((((s.hbmPut (base + 32 * i) bs).hbmPut base h.bytes).patternCut (base + 32 * i) (base + 32 * i + 32)).patternCut base (base + 32)).setHdr k h

/-- The settings of the rings apply when the sink starts delivering to a ring; setting one clears its header (R505, R545). -/
def State.ringApply (s : State) (k : Nat) : State :=
  let o := ringObj k
  match s.odPending o.1 o.2 with
  | none => s
  | some _ =>
    let s := (s.odApply o.1 o.2).setHdr k RingHdr.blank
    match s.ringSet k with
    | some (base, _) => if (k = 0 && s.ringBlocked base 32) || s.inSlice base then s
      else (s.hbmPut base RingHdr.blank.bytes).patternCut base (base + 32)
    | none => s

/-- The sink's setting applies (R544). -/
def State.sinkApply (s : State) : State :=
  let was := s.odNum 0xA201 0
  let s := s.odApply 0xA201 0
  if was = 0 && s.odNum 0xA201 0 ≠ 0 then (List.range 17).foldl State.ringApply s else s

end Sys2Proof.Machine
end

