-- ==== Sys2Proof/Machine/Resets.lean ====
section
/-! DEFINITION. Device faults and resets: what each reset scope does at its start and at its release, generation tags and
fences, escalation and Red (R53 to R59, R376 to R383, R389 to R392). -/
namespace Sys2Proof.Machine

/-! ### Crossings (R54, R56 to R59) -/

/-- The two endpoints of a sealable crossing, by cluster and bit of OD 0x7810: the one in the core or cluster, and the one in
the surviving island (R55, R56). -/
def epIn (c b : Nat) : Nat := 2 * (32 * c + b)
def epOut (c b : Nat) : Nat := 2 * (32 * c + b) + 1
def State.phaseOf (s : State) (e : Nat) : Bool := tget false s.clk.phase e
def State.setPhase (s : State) (e : Nat) (v : Bool) : State :=
  { s with clk := { s.clk with phase := tset false s.clk.phase e v } }

/-- AC.SEAL stands while any sealed flag is set (R57). -/
def State.sealAmber (s : State) : State := s.amber 4 ((List.range 24).any (fun c => s.odNum 0x7810 (c + 1) != 0))

/-- Only the endpoint in the core or cluster is reset: its phase inverts (R56). -/
def State.flipIn (s : State) (c b : Nat) : State := s.setPhase (epIn c b) (!s.phaseOf (epIn c b))

/-- Both endpoints are reset together: both phases invert, and they agree (R56). -/
def State.flipPair (s : State) (c b : Nat) : State :=
  let v := !s.phaseOf (epOut c b)
  (s.setPhase (epOut c b) v).setPhase (epIn c b) v

/-- They are reset together in a native reset: at its release the crossing reopens (R58). -/
def State.flipBoth (s : State) (c b : Nat) : State :=
  let s := s.flipPair c b
  s.odSetN 0x7810 (c + 1) (withBit b false (s.odNum 0x7810 (c + 1)))

/-- The sealable crossings of a cluster (R59). -/
def sealBits : List Nat := List.range 13 ++ [16, 17, 18, 19]
def State.reopenCluster (s : State) (c : Nat) : State := (sealBits.foldl (fun s b => s.flipBoth c b) s).sealAmber

/-! ### Units and queues (R231) -/

/-- The KERNEL descriptors that have a unit left on a core; an entry that waits there for a slot counts (R231). -/
def State.kernelsOn (s : State) (n : Nat) : List DescRef :=
  (s.disp.flights.filter (fun f =>
    let d := dNum f.bytes
    !f.finished && dType d == 1 && bit n (krnCores d) && (tfind f.ends (coreUnit d n)).isNone)).map (·.ref)

/-- A core or cluster reset stops the queues of those descriptors, and the units end RESET. -/
def State.resetUnits (s : State) (n sub : Nat) : State :=
  (s.kernelsOn n).foldl (fun s r =>
    (if (s.queue r.queue).code = .enabled then s.qGo r.queue .stopped else s).coreEnd r n ⟨0xB, sub, 0⟩) s

/-! ### A core's own state (R90, R158, R377) -/

/-- The banks of a core that have failed, at their reset value but for that: only the spare brings one back (R158, R170). -/
def Core.onlyFailed (c : Core) : Tab Bank :=
  (c.bank.filter (fun e => e.2.failed)).map (fun e => (e.1, { Bank.blank with failed := true }))

/-- Slots Empty, counters 0, engines and queues empty; failed banks stay failed. -/
def Core.cleared (c : Core) (keep : Bool) : Core :=
  { Core.blank with
    waitq := if keep then c.waitq else [], nextM := c.nextM, act := c.act, bank := c.onlyFailed }

/-- A running March test is abandoned: its result says so, and what it left of the bank is a free value (R170; log entry 4). For a test that a
teardown cuts off R170 names no status; DESIGN CHOICE: the same one, 5 (log entry 173). -/
def State.marchAbandon (s : State) (n : Nat) : State :=
  match (s.core n).march with
  | none => s
  | some m => (s.marchResult n 5 m.bank m.alg (b2n m.destroy) 0).bankFree n m.bank

/-- The requests that a core has not issued yet go with it (R383). -/
def State.unissued (s : State) (n : Nat) : State :=
  { s with fabric := { s.fabric with waiting := s.fabric.waiting.filter (fun r => match r.owner with
      | .mop k _ | .get k _ _ => k != n
      | _ => true) } }

/-- A native reset of a core: Dark banks come to Lit with zeros, the crossings of the core are emptied, and everything of
R90 and R158 takes its reset value. -/
def State.coreClear (s : State) (n : Nat) (keep : Bool) : State :=
  let s := (s.marchAbandon n).unissued n
  let c := s.core n
  let s := c.bank.foldl (fun s e => if e.2.pwr = .dark then s.bankZero n e.1 else s) s
  (s.setCore n (c.cleared keep)).xingClear (fun ev i => (ev == 3 || ev == 8 || ev == 13) && i == n)

/-- The cores of a cluster. -/
def coresOf (c : Nat) : List Nat := (List.range 12).map (fun i => 12 * c + i)

/-! ### Generation tags and fences (R381 to R383) -/

/-- The domain of an outstanding request (R381). -/
def State.domainOf (s : State) (r : Req) : Nat := s.ownerDomain r.owner r.pkt.spart

/-- A tag's value, by its number. -/
def State.tag (s : State) (k : Nat) : Nat := if k < 24 then s.odNum 0x7030 (k + 1) else s.odNum 0x7031 (k - 24 + 1)
def State.setTag (s : State) (k v : Nat) : State :=
  if k < 24 then s.odSetN 0x7030 (k + 1) v else s.odSetN 0x7031 (k - 24 + 1) v

/-- OD 0x6006 shows the tag of each partition's first reset domain (R381). -/
def State.showTags (s : State) : State := (List.range 16).foldl (fun s p => s.odSetN 0x6006 (p + 1) (s.partTag p)) s

/-- The request lifetime L in ns (R382). -/
def State.lifetime (s : State) : Nat := (s.odNum 0x4423 0 + 1) * s.odNum 0x4421 0 * 1000

/-- A domain's tag may advance: the next value was last current more than L before (R382). -/
def State.tagReady (s : State) (k : Nat) : Bool :=
  match tfind s.faults.tagTimes (256 * k + (s.tag k + 1) % 256) with
  | none => true
  | some t => decide (s.now > t + s.lifetime)

/-- Releases the outstanding requests that meet a test; an M-op whose request goes will have no reply (R382, R383). -/
def State.dropReqs (s : State) (q : Req → Bool) : State :=
  let gone := (s.fabric.out ++ s.fabric.waiting).filter q
  let s := s.releaseReqs q
  gone.foldl (fun s r => match r.owner with
    | .mop n id | .get n id _ => s.dropMop n id
    | _ => s) s

/-- The fence of a domain (R383). -/
def State.fence (s : State) (isCluster : Bool) (num : Nat) : State :=
  if s.faults.fences.contains (⟨isCluster, num⟩ : Fence) then s
  else ({ s with faults := { s.faults with fences := s.faults.fences ++ [(⟨isCluster, num⟩ : Fence)] } }.odInc 0x7032 0).odApply 0x7024 0
def State.unfence (s : State) (q : Fence → Bool) : State :=
  { s with faults := { s.faults with fences := s.faults.fences.filter (fun f => !q f) } }

/-- A tag advances by 1, modulo 256, and releases what carries the old value; where the lifetime rule forbids it, the domain is
fenced and the advance waits (R382). -/
def State.tagAdvance (s : State) (k : Nat) : State :=
  if s.tagReady k then
    let old := s.tag k
    let s := s.dropReqs (fun r => s.domainOf r == k && r.pkt.gen == old)
    let s := { s with faults := { s.faults with
      tagTimes := tput s.faults.tagTimes (256 * k + old) s.now,
      tagWait := s.faults.tagWait.filter (fun x => x != k) } }
    (s.setTag k ((old + 1) % 256)).showTags
  else
    let s := s.fence true k
    if s.faults.tagWait.contains k then s else { s with faults := { s.faults with tagWait := s.faults.tagWait ++ [k] } }

/-- A fence's domain made a request (R383). -/
def State.inFence (s : State) (f : Fence) (r : Req) : Bool := s.fenceOwns f r.owner r.pkt.spart

/-- Whether a fenced domain has something outstanding (R383). -/
def State.fenceBusy (s : State) (f : Fence) : Bool := s.fabric.out.any (s.inFence f)

/-! ### Scopes (R376, R379, R389) -/

/-- Whether a reset of a scope and target lies inside a reset under way, an equal one among them. -/
def State.inside (s : State) (scope target : Nat) (r : ResetRun) : Bool :=
  match scope with
  | 1 | 5 => s.coversCore r target
  | 2 | 6 => s.coversCluster r target
  | 7 => (bitList 24 (s.part target).clusters).all (fun c => s.coversCluster r c)
  | 3 => r.scope == 3 || r.scope == 4 || r.scope == 8
  | _ => r.scope == 4 || r.scope == 8

/-- OD 0x7002 shows a state of the request that it names (R378). -/
def State.resetStatus (s : State) (scope target st : Nat) : State :=
  s.odSetN 0x7002 0 (scope * 2 ^ 28 + st * 2 ^ 24 + target)
def State.resetShown (s : State) (scope target : Nat) : Bool :=
  let v := s.odNum 0x7002 0
  bits 31 28 v == scope && bits 27 24 v == 1 && bits 8 0 v == target

/-- A run of a scope and target, to compare with those under way. -/
def ResetRun.of (scope target : Nat) : ResetRun := ⟨scope, target, 0, false, false, false, [], 0⟩

/-- Whether a reset lies inside a larger one under way (R379). -/
def State.insideLarger (s : State) (scope target : Nat) (r : ResetRun) : Bool :=
  s.inside scope target r && !s.inside r.scope r.target (ResetRun.of scope target)

/-- Resets under way that meet a test end as part of a larger one; OD 0x7002 says so of a request (R378, R379). -/
def State.endResets (s : State) (q : ResetRun → Bool) : State :=
  let s := (s.faults.resets.filter q).foldl (fun s r =>
    if s.resetShown r.scope r.target then s.resetStatus r.scope r.target 4
    else if r.scope = 4 && s.resetShown 8 0 then s.resetStatus 8 0 4 else s) s
  { s with faults := { s.faults with resets := s.faults.resets.filter (fun r => !q r) } }

/-- Resets that a new one contains end as part of it, and so do replays on its cores (R379). -/
def State.takeOver (s : State) (n : ResetRun) : State :=
  let s := s.endResets (fun r => s.inside r.scope r.target n)
  { s with faults := { s.faults with
      replays := if n.scope = 1 || n.scope = 5 then s.faults.replays
                 else s.faults.replays.filter (fun x => !s.coversCore n x.core) } }

/-- The stacks whose spare pair is Armed (R180). -/
def State.armedNow (s : State) : Nat :=
  (List.range 16).foldl (fun m k => if s.odNum 0x8011 (k + 1) = 2 then m + 2 ^ k else m) 0

/-- A reset is under way. -/
def State.addReset (s : State) (scope target : Nat) (fault replay held : Bool) : State :=
  let n : ResetRun := ⟨scope, target, s.now, fault, replay, held, (List.range 24).map (fun c => s.odNum 0x7030 (c + 1)), s.armedNow⟩
  let s := s.takeOver n
  let s := { s with faults := { s.faults with resets := s.faults.resets ++ [n] } }
  if scope ≤ 4 then s.lilac 6 0x20 target 0 scope none else s

/-! ### What each scope does at its start -/

/-- The local accesses that a core has started: they run to completion, and a fence absorbs what they come to (R383). -/
def State.localOps (s : State) (n : Nat) : Nat :=
  ((s.core n).mops.filter (fun m => m.phase != .queued && m.err == 0 && (fOp m.w == 0 || fOp m.w == 3))).length

/-- A core that is reset is fenced, and its started local accesses are absorbed (R383). -/
def State.coreFence (s : State) (n : Nat) (keep : Bool) : State :=
  let k := s.localOps n
  let s := (s.coreClear n keep).fence false n
  if k = 0 then s else s.odAdd 0x7033 0 k

/-- Native core reset: the core is fenced, its units end RESET, its state is cleared (R383, R384). -/
def State.beginCore (s : State) (n : Nat) : State := (s.resetUnits n 1).coreFence n false

/-- A cluster's cores and their table commands go; queues stop and units end RESET with sub-status 2; a bring-up test of its pool is cut
off (R171, R195, R226, R231). -/
def State.clusterClear (s : State) (c : Nat) : State :=
  let s := s.poolAbandon c
  let s := (coresOf c).foldl (fun s n => (s.resetUnits n 2).coreClear n false) s
  let s := s.abandon (fun x => match x.who with
    | .core n _ => clusterOf n == c
    | .desc _ => false)
  s.xingClear (fun ev i => (ev == 2 || ev == 5) && i == c || ev == 6 && i % 32 == c || ev == 8 && i == 512 + c)

/-- Native cluster reset: the cluster tag advances, which releases its requests and the fences of its cores (R382). -/
def State.beginCluster (s : State) (c : Nat) : State :=
  ((s.clusterClear c).unfence (fun f => if f.isCluster then f.num == c else clusterOf f.num == c)).tagAdvance c

/-- Compute-part reset, steps 3 to 7 of R380. -/
def State.beginCompute (s : State) : State :=
  let s := (List.range 16).foldl (fun s p => s.castAbort p 3) s
  let s := { s with memory := { s.memory with hot := [] } }
  let s := ((s.collsReset.abandon (fun _ => true)).stopQueues (fun _ => true)).tableEnds (fun _ => true)
  let s := (s.disp.flights.map (·.ref)).foldl (fun s r => s.flightForce r ⟨0xB, 3, 0⟩) s
  let s := s.cores.foldl (fun s e => s.coreClear e.1 false) s
  let s := (List.range 24).foldl (fun s c => s.poolAbandon c) s
  let s := s.xingClear (fun ev _ => ev == 2 || ev == 3 || ev == 5 || ev == 6 || ev == 7 || ev == 8 || ev == 13)
  let s := s.unfence (fun f => !f.isCluster || f.num < 24)
  (List.range 24).foldl (fun s c => s.tagAdvance c) s

/-! ### What each scope does at its release -/

/-- The failed banks of a core, and a core with these failed. -/
def Core.failedBanks (c : Core) : List Nat := (List.range 32).filter (fun b => (c.bankOf b).failed)
def Core.withFailed (c : Core) (l : List Nat) : Core :=
  (List.range 32).foldl (fun c b => c.setBank b { c.bankOf b with failed := l.contains b }) c

/-- The cores of a cluster run on other positions than before, `was` by logical core: a core's window holds what its new position held, and
zeros where that was the spare, whose Dark banks come to Lit (R147, R164, R404). -/
def State.moveBanks (s : State) (c : Nat) (was : List Nat) : State :=
  let lo := spadBase (12 * c)
  let cells := s.mem.filter (fun x => decide (lo ≤ x.1) && decide (x.1 < lo + 12 * 0x40_0000))
  cells.foldl (fun s x =>
    let k := (x.1 - lo) / 0x40_0000
    match (coresOf c).find? (fun n => was[k]? == some (s.physOf n)) with
    | some n => s.wr (spadBase n + (x.1 - lo) % 0x40_0000) [x.2]
    | none => s) (s.zero lo (12 * 0x40_0000))

/-- The marks of a cluster take effect: a logical core has the banks of the position on which it now runs, with the failed ones, and those of
a position that leaves the map leave with it (R164, R170, R403, R404). -/
def State.applyMarks (s : State) (c : Nat) : State :=
  let was := (coresOf c).map (fun n => (s.physOf n, (s.core n).failedBanks))
  let s := s.odApply 0x2101 (c + 1)
  let s := s.setMap c (bits 12 0 (s.odNum 0x2101 (c + 1))) (bit 31 (s.odNum 0x2100 (c + 1)))
  let s := if (coresOf c).map s.physOf = was.map (·.1) then s else s.moveBanks c (was.map (·.1))
  ((coresOf c).foldl (fun s n =>
    s.setCore n ((s.core n).withFailed (((was.find? (fun w => w.1 == s.physOf n)).map (·.2)).getD []))) s).bankAmber

/-- Spare pairs that were Armed when the reset began come into service, or fail their own training; one whose copy ended later waits for the next
reset (R180, R181). -/
def State.applySpares (s : State) (bad armed : Nat) : State :=
  (List.range 16).foldl (fun s k =>
    if s.odNum 0x8011 (k + 1) = 2 && bit k armed then s.spareGo k (if bit k bad then 4 else 3) else s) s

/-- The active Slate controller assigns the spare pair of a stack to a channel marked failing, unless the element names
another channel or cannot be written (R180, R403, R414). -/
def State.assignSpare (s : State) (k : Nat) : State :=
  let s := s.odApply 0x2120 (k + 1)
  match bitList 32 (s.odNum 0x2120 (k + 1)) with
  | [] => s.pairAmber
  | c :: _ =>
    let st := s.odNum 0x8011 (k + 1)
    let cur := s.odNum 0x8010 (k + 1)
    if s.spareOk k c && (cur = 0xFF || (st = 0 && cur = c)) then s.spareWrite k c else s.pairAmber

/-- A channel's pair is marked failing, with fault 0x0B (R179, R371). -/
def State.pairFailing (s : State) (k c : Nat) : State :=
  let v := match s.odPending 0x2120 (k + 1) with
    | some (.num n) => n
    | _ => s.odNum 0x2120 (k + 1)
  if bit c v then s
  else ((s.odAccept 0x2120 (k + 1) (.num (withBit c true v))).assignSpare k).faultRecord 0x0B 1 3 k none false c

/-- The rows of the remap list are served from spare rows, 32 in each bank; a bank with none left marks its pair as failing
(R174, R179). -/
def State.applyRemap (s : State) : State :=
  let s := s.odApply 0x2110 0
  let rows := (remapOf (s.odBlob 0x2110 0)).map entryRow
  let r := rows.foldl (fun (x : List Nat × List Nat) k =>
    if x.1.contains k then x
    else if (x.1.filter (fun j => j / 24576 == k / 24576)).length < 32 then (x.1 ++ [k], x.2)
    else (x.1, x.2 ++ [k])) ([], [])
  let s := { s with memory := { s.memory with remap := r.1 } }
  let s := (List.range 16).foldl (fun s k =>
    s.odSetN 0x8012 (k + 1) ((r.1.filter (fun j => j / 24576 / 2048 == k)).length)) s
  r.2.foldl (fun s k => s.pairFailing (k / 24576 / 2048) (k / 24576 / 64 % 32)) s

/-- Links that the licence adds begin training (R3). -/
def State.linksAdded (s : State) : State :=
  (List.range 12).foldl (fun s n =>
    if decide (n ≥ 8) && s.odBool 0x4001 (n + 1) && s.linkLicensed n && (s.link n).st == .disabled && s.life.begun &&
       s.life.svc != .black then s.linkDetect n else s) s

/-- A pending licence takes effect (R3, R540). -/
def State.applyLicence (s : State) : State :=
  match s.odPending 0x6450 0 with
  | none => s
  | some v =>
    let feat := fieldAt v.bytes 12 4
    let name := if feat = 0xF then "HX-OZ4-260F" else "HX-OZ4-260C"
    let s := (((s.odApply 0x6450 0).odSetN 0x6452 0 feat).odSetN 0x6451 0 1).odSetN 0x1001 0 (if feat = 0xF then 0 else 1)
    let s := (s.odSet 0x1002 0 (.blob (padTo 32 (name.toList.map (fun c => BitVec.ofNat 8 c.toNat))))).odSetN 0x6000 0
      (if feat = 0xF then 16 else 4)
    (s.odSetN 0x2001 0 (withBit 0 false (s.odNum 0x2001 0))).leaveWhite.linksAdded

/-- AC.TEST stands while test mode is on (R406). -/
def State.testAmber (s : State) : State := s.amber 1 (s.odBool 0x7050 0)

/-- The droop predictor starts at the level of OD 0x3030 (R413, R422). -/
def State.bandStart (s : State) : State :=
  let s := (s.odApply 0x3030 0).odSetN 0x3032 0 ((s.odApply 0x3030 0).odNum 0x3030 0)
  { s with power := { s.power with stretches := [], lastStretch := s.now } }

/-- What the end of a compute-part reset applies: the staged settings, the defect maps, Armed spares, remap candidates, a
pending licence; the crossings reopen (R58, R380). -/
def State.computeApply (s : State) (spareBad armed : Nat) : State :=
  let s := ((s.odApply 0x7812 0).odApply 0x7050 0).testAmber.bandStart
  let s := ((s.applySpares spareBad armed).applyRemap).applyLicence
  (List.range 24).foldl (fun s c => (s.applyMarks c).reopenCluster c) s

/-- Red is left or entered by the service state; leaving Green and Amber stops every queue and faults the TDIs (R231, R355). -/
def State.leaveService (s : State) : State :=
  let s := s.stopQueues (fun _ => true)
  (List.range 16).foldl (fun s p =>
    if s.odNum 0x6031 (p + 1) = 1 || s.odNum 0x6031 (p + 1) = 2 then s.odSetN 0x6031 (p + 1) 3 else s) s

/-- Entry into Red: the cause, queues Stopped, and a compute-part reset that is held; R405 names no `ALERT#` for it (R392, R405, R457). -/
def State.enterRed (s : State) (code : Nat) : State :=
  if s.life.svc = .red || s.life.svc = .black then s
  else
    let s := ((s.odSetN 0x7042 0 code).enter .red false).leaveService
    let s := s.endResets (fun r => r.scope == 4 || r.scope == 8 || r.scope == 3)
    (s.addReset 3 0 false false true).beginCompute

/-! ### The whole-module reset (R376, R377, R405, R506) -/

/-- Read-only objects that a whole-module reset leaves as they are: identity, sessions and events, state kept in persisted
storage or until power removal, the report of the reset itself, and the spare pairs (R372, R498, R506 to R508). -/
def odKept (idx : Nat) : Bool :=
  (decide (0x1000 ≤ idx) && decide (idx < 0x1200)) || (decide (0x2000 ≤ idx) && decide (idx ≤ 0x2006) && idx != 0x2003) ||
  (decide (0xB000 ≤ idx) && decide (idx < 0xC000)) ||
  [0x3040, 0x3041, 0x3430, 0x3450, 0x3451, 0x6000, 0x6400, 0x6401, 0x6402, 0x6403, 0x6440, 0x6451, 0x6452, 0x7000, 0x7002, 0x7010,
   0x8011].contains idx

/-- Objects that a whole-module reset clears although they are writable (R506). -/
def odCleared (idx : Nat) : Bool :=
  idx == 0x4410 || idx == 0x4411 || idx == 0x4412 || (decide (0x5100 ≤ idx) && decide (idx ≤ 0x511F))

def odWritable (idx : Nat) : Bool := match odInfo idx with
  | some o => o.mw || o.hw
  | none => false

/-- The pending values that the reset applies: every Live and Staged one but OD 0x8010 (R506); a Locked one waits on. -/
def odResetApplies (idx : Nat) : Bool := match odInfo idx with
  | some o => (o.cls == .live || o.cls == .staged || o.cls == .now) && idx != 0x8010 && idx != 0x6450
  | none => false

/-- The dictionary across a whole-module reset; a sink that starts delivering takes the settings of its rings (R505, R506). -/
def State.odModuleReset (s : State) : State :=
  let s := s.od.acc.foldl (fun s e =>
    if !odResetApplies (e.1 / 256) then s
    else if e.1 / 256 = 0xA201 then s.sinkApply
    else s.odApply (e.1 / 256) (e.1 % 256)) s
  { s with od := { s.od with app := s.od.app.filter (fun e =>
      let i := e.1 / 256
      (odWritable i || odKept i) && !odCleared i) } }

/-- A whole-module reset takes the Onyx and Sepia components from the active controller's current image, in Idle only (R533). -/
def Fw.componentsTaken (f : Fw) : Fw :=
  if f.state = 0 then { f with comp := (if f.bActive then f.b else f.a).cur } else f

/-- What a whole-module reset does before the islands lose their state: its record, the links to Disabled, the report of a request that it
overtakes, the dictionary, and the loopback tests that it abandons. -/
def State.resetOpens (s : State) (run : ResetRun) : State :=
  let s := s.lilac 6 0x20 0 0 4 none
  let tests := (List.range 12).filter (fun n => (s.link n).testing)
  let s := (List.range 12).foldl (fun s n => if (s.link n).st = .disabled then s else s.linkOff n) s
  tests.foldl State.testAbandoned (s.takeOver run).odModuleReset

/-- The islands at their reset values, with what R170, R377, R482, R506 and R533 keep of the state before. -/
def State.resetBase (old : State) (run : ResetRun) : State := { State.reset with
  pending := old.pending, hostMem := old.hostMem, od := old.od, mgmt := old.mgmt, taps := old.taps, fw := old.fw.componentsTaken,
  free := old.free, out := old.out,
  cores := old.cores.filterMap (fun e =>
    if e.2.failedBanks.isEmpty then none else some (e.1, { Core.blank with bank := e.2.onlyFailed })),
  clk := { Clk.reset with uptime := old.clk.uptime, coreMHz := old.clk.coreMHz, phase := old.clk.phase },
  trace := { Trace.reset with frame := old.trace.frame, scr := old.trace.scr },
  faults := { Faults.reset with resets := [run], faultTimes := old.faults.faultTimes },
  power := { Power.reset with idle := old.power.idle, run := old.power.run, peaks := old.power.peaks, gate := old.power.gate,
                              limiting := old.power.limiting, samples := old.power.samples, micro := old.power.micro,
                              dies := old.power.dies },
  thermal := { Thermal.reset with wet := old.thermal.wet, tripped := old.thermal.tripped },
  stored := old.stored,
  life := { old.life with removal := 0, removalTimedOut := false, released := none, begun := false, linksDone := 0, memTrained := 0,
                          memTested := 0 } }

/-- A whole-module reset begins: the links go to Disabled, every island but the Slate controllers loses its state, and the module
is Grey. A held one waits for `MOD_RESET#` (R455). -/
def State.moduleReset (s : State) (fault held : Bool) : State :=
  let run : ResetRun := ⟨4, 0, s.now, fault, false, held, [], s.armedNow⟩
  let s := (s.resetOpens run).resetBase run
  let s := s.odSetN 0x3003 0 (s.odNum 0x3000 0 * 2 ^ 16 + 1)
  let s := ((((s.amber 9 false).sealAmber).bankAmber).clusterAmber).bypassAmber
  let s := (s.amber 6 false).amber 11 false
  (s.alertSet 1 false).enter .grey false

end Sys2Proof.Machine
end

