-- ==== Sys2Proof/Machine/Faults.lean ====
section
/-! DEFINITION. The commands of faults and resets: detection, escalation, requests, releases, overruns, fences, seals, and the
search for a guilty context (R370 to R392). -/
namespace Sys2Proof.Machine

/-! ### Escalation (R379, R390, R391) -/

/-- The recovery interval of a fault reset: until its release, and for a hang until the verdict (R391). -/
def State.recovering (s : State) : Bool := s.faults.resets.any (fun r => r.fault && !r.held) || !s.faults.replays.isEmpty

/-- The fault resets started within the window of OD 0x7041 (R390). -/
def State.recentResets (s : State) : List Nat :=
  s.faults.faultTimes.filter (fun t => decide (s.now ≤ t + s.odNum 0x7041 0 * 1_000_000_000))

/-- Whether a fault reset is replaced by entry into Red (R390, R391). -/
def State.escalates (s : State) : Bool :=
  s.life.svc == .grey || s.odBool 0x7050 0 || s.recovering || decide (s.recentResets.length + 1 > s.odNum 0x7040 0)

/-- Entry into Red in place of an action, with its record (R390, R391). -/
def State.redFault (s : State) (code kind num : Nat) (part : Option Nat) (esc : Bool) (detail : Nat) : State :=
  (s.enterRed code).faultRecord code 6 kind num part esc detail

/-- What a reset of a native scope does at its start. -/
def State.beginScope (s : State) (scope target : Nat) : State :=
  match scope with
  | 1 => s.beginCore target
  | 2 => s.beginCluster target
  | _ => s.beginCompute

/-- A device fault whose action is a reset: absorbed into a larger reset under way, replaced by Red, or the reset, counted
(R371, R379, R390). A fault whose reset equals the one under way is not inside a larger one: it goes on to R390 and R391. `action` is FR.ACTION when the reset is made. -/
def State.faultReset (s : State) (code action scope target kind num : Nat) (part : Option Nat) (detail : Nat) : State :=
  if s.life.svc = .black || s.faults.resets.any (s.insideLarger scope target) then
    s.faultRecord code action kind num part false detail
  else
    let s := (s.odApply 0x7040 0).odApply 0x7041 0
    if s.escalates then s.redFault code kind num part true detail
    else
      let s := (s.odInc 0x7003 scope)
      let s := { s with faults := { s.faults with faultTimes := s.faults.faultTimes ++ [s.now] } }
      if scope = 4 then (s.faultRecordAs 1 code action kind num part false detail).moduleReset true false
      else ((s.addReset scope target true false false).beginScope scope target).faultRecord code action kind num part false detail

/-! ### Hangs (R373, R384) -/

/-- The engines of a core that hold engine work, coded as bits 8 to 11 of `FR.DETAIL`: scalar, tensor, vector, core DMA (R371, R373). -/
def State.workMask (s : State) (n : Nat) : Nat :=
  let c := s.core n
  b2n c.running.isSome * 2 ^ 8 + b2n (!c.tq.isEmpty || c.tRun.isSome) * 2 ^ 9 + b2n (!c.vq.isEmpty || c.vRun.isSome) * 2 ^ 10 +
  b2n (c.mops.any (fun m => m.phase != .queued && (fOp m.w == 0 || fOp m.w == 5))) * 2 ^ 11

/-- The engine work that lets the progress watchdog of a core run; the time in which a preserving March test of the core is waited for
does not count (R373). -/
def State.engineWork (s : State) (n : Nat) : Bool :=
  s.workMask n != 0 && !(s.core n).march.any (fun m => !m.destroy)

/-- The contexts that a hang makes suspects: every slot that is not Empty (R384). -/
def State.suspects (s : State) (n : Nat) : List Suspect :=
  ((List.range 4).filter (fun k => ((s.core n).slot k).st != .empty)).map (fun k => ⟨k, ((s.core n).slot k).launch, false⟩)

/-! ### The search for the guilty context (R385 to R388) -/

def State.replayOf (s : State) (n : Nat) : Option Replay := s.faults.replays.find? (fun r => r.core == n)
def State.setReplay (s : State) (n : Nat) (f : Replay → Replay) : State :=
  { s with faults := { s.faults with replays := updFirst (fun r => r.core == n) f s.faults.replays } }
def State.endReplay (s : State) (n : Nat) : State :=
  { s with faults := { s.faults with replays := s.faults.replays.filter (fun r => r.core != n) } }

/-- A suspect's Stopped queue returns to Enabled (R387, R388). -/
def State.enableAgain (s : State) (x : Suspect) : State :=
  if (s.queue x.launch.desc.queue).code = .stopped then s.qGo x.launch.desc.queue .enabled else s

/-- The position of a core is marked defective and its cluster is reset (R388). -/
def State.coreDefect (s : State) (n : Nat) : State :=
  let c := clusterOf n
  let v := match s.odPending 0x2101 (c + 1) with
    | some (.num k) => k
    | _ => s.odNum 0x2101 (c + 1)
  let s := s.odAccept 0x2101 (c + 1) (.num (withBit (s.physOf n) true v))
  (s.addReset 2 c false true false).beginCluster c

/-- The verdict of a search, with fault 0x11 (R387, R388). Where some but not all of three or four replays hung, the manual
names no guilty context and none is taken (log entry 27). Only an Enabled or Stopped queue becomes Guilty (R215). -/
def State.verdict (s : State) (n : Nat) (past : List Suspect) : State :=
  let s := s.endReplay n
  let hung := past.filter (·.hung)
  let h := hung.length
  let k := past.length
  let part := (past.head?).map (fun x => x.launch.part)
  let record := fun (s : State) (g : Nat) => s.faultRecord 0x11 0 1 n part false (g + k * 2 ^ 8 + h * 2 ^ 12)
  match hung with
  | [] => record (past.foldl State.enableAgain (s.odInc 0x7025 3)) 0xFF
  | [g] =>
    let s := (past.filter (fun x => !x.hung)).foldl State.enableAgain (s.odInc 0x7025 2)
    let c := (s.queue g.launch.desc.queue).code
    let s := if c = .enabled || c = .stopped then s.qGo g.launch.desc.queue .guilty else s
    record (s.flightGuilty g.launch.desc) g.slot
  | _ =>
    let s := past.foldl State.enableAgain s
    if h = k then record ((s.odInc 0x7025 4).coreDefect n) 0xFF else record s 0xFF

/-- A replay ends: the core is reset again, with its fence, and after the last one the verdict follows (R383, R385, R387). -/
def State.replayEnds (s : State) (n : Nat) (hung : Bool) : State :=
  match s.replayOf n with
  | none => s
  | some r => match r.cur with
    | none => s
    | some x =>
      let past := r.past ++ [{ x with hung := hung }]
      let s := s.coreFence n true
      if r.todo.isEmpty then s.verdict n past else s.setReplay n (fun r => { r with cur := none, past := past })

/-- PROGRESS_WATCHDOG_FIRE: the watchdog of a core with engine work reaches its interval. Inside a replay it ends the replay; otherwise it is fault 0x01: a core
reset, and the search when OD 0x7023 allows it. Every change of the progress count restarts the timer, so that at the firing each
engine with work is one without progress (R373, R384, R387; DEDUCED, log entry 169). -/
def execProgressWatchdogFire (core : Fin 288) (s : State) : Host.Outcome State Fault Refusal :=
  let n := core.val
  if !s.engineWork n then .next s
  else if (s.replayOf n).any (fun r => r.cur.isSome) then .next (s.replayEnds n true)
  else
    let s := (s.odApply 0x7020 0).odApply 0x7023 0
    let xs := s.suspects n
    let part := (xs.head?).map (fun x => x.launch.part)
    let detail := s.workMask n + xs.foldl (fun a x => a + 2 ^ x.slot) 0
    let go := s.odBool 0x7023 0
    let t := s.faultReset 0x01 (if go then 9 else 2) 1 n 1 n part detail
    let made := t.faults.resets.any (fun r => r.scope == 1 && r.target == n)
    if go && made && !xs.isEmpty then
      .next { t with faults := { t.faults with replays := t.faults.replays ++ [⟨n, xs, none, [], t.now⟩] } }
    else .next t

/-- REPLAY_START: the next suspect of a core is relaunched in replay mode, once the core has been released and no other replay
of its partition runs (R385, R386). -/
def execReplayStart (core : Fin 288) (s : State) : Host.Outcome State Fault Refusal :=
  let n := core.val
  match s.replayOf n with
  | none => .next s
  | some r => match r.cur, r.todo with
    | none, x :: rest =>
      if s.coreBlocked n || s.faults.replays.any (fun y => y.cur.any (fun z => z.launch.part == x.launch.part)) then .next s
      else
        let s := ((s.odApply 0x7022 0).odInc 0x7025 1).coreClear n true
        let s := s.setCore n ((s.core n).launch x.slot { x.launch with replay := true })
        .next (s.setReplay n (fun r => { r with todo := rest, cur := some x, start := s.now }))
    | _, _ => .next s

/-- REPLAY_END: a replay ends by END or a context fault, by the replay limit, or by a firing of the watchdog (R387). -/
def execReplayEnd (core : Fin 288) (how : ReplayEnd) (s : State) : Host.Outcome State Fault Refusal :=
  let n := core.val
  match (s.replayOf n).bind (·.cur) with
  | none => .next s
  | some x =>
    let st := ((s.core n).slot x.slot).st
    match how with
    | .ended => if st = .empty || st = .draining then .next (s.replayEnds n false) else .next s
    | .limit => .next (s.replayEnds n false)
    | .watchdog => if s.engineWork n then .next (s.replayEnds n true) else .next s

/-! ### The other device faults of this chapter (R371, R374) -/

/-- STALL_TIMER_EXPIRY: a queue that holds a descriptor reaches the stall interval with which its timer started: fault 0x02, and the timer
restarts (R374). -/
def execStallTimerExpiry (queue : Fin 1024) (s : State) : Host.Outcome State Fault Refusal :=
  let q := queue.val
  let x := s.queue q
  let open_ := s.disp.flights.filter (fun f => f.ref.queue == q && !f.silent)
  match open_.map (·.slot) ++ x.fetched.map (·.slot) with
  | [] => .next s
  | i :: _ =>
    if x.stall = 0 then .next s else .next ((s.faultRecord 0x02 0 5 q (some (qPart q)) false i).stallStart q)

/-- PLL_LOSS_OF_LOCK: an island's phase-locked loop loses lock. Islands are numbered in the order of R27: 312 core islands, 24
cluster islands, and the others (R371, log entry 28). -/
def execPllLossOfLock (island : Fin 372) (s : State) : Host.Outcome State Fault Refusal :=
  let i := island.val
  if i < 312 then .next (s.faultReset 0x04 3 2 (i / 13) 8 i none 0)
  else if i < 336 then .next (s.faultReset 0x04 3 2 (i - 312) 8 i none 0)
  else .next (s.faultReset 0x04 5 4 0 8 i none 0)

/-- CONTROL_STATE_ERROR: an uncorrectable error in a cluster network interface, or in another control store (R371). -/
def execControlStateError (cluster : Option (Fin 24)) (s : State) : Host.Outcome State Fault Refusal :=
  match cluster with
  | some c => .next (s.faultReset 0x05 3 2 c.val 2 c.val none 0)
  | none => .next (s.faultReset 0x05 5 4 0 0 0 none 0)

/-! ### Requests (R378, R389) -/

/-- The native scope under which a request is counted (R395). -/
def nativeScope (k : Nat) : Nat := match k with
  | 5 => 1
  | 6 | 7 => 2
  | 8 => 4
  | k => k

/-- The partition that holds a cluster (R342). -/
def State.clusterHolder (s : State) (c : Nat) : Option Nat :=
  (List.range 16).find? (fun p => (s.part p).st != .absent && (s.part p).hasCluster c)

/-- The status of a reset request: R493's code. DESIGN CHOICE (log entry 169): a core with a search for the guilty context is in the reset
of its hang until the verdict, so that a request for it is busy (R378, R379, R385). -/
def State.resetCheck (s : State) (door : Door) (v : Nat) : Nat :=
  let scope := bits 31 28 v
  let t := bits 8 0 v
  let cl := if scope = 1 || scope = 5 then t / 12 else t
  let mine := match s.clusterHolder cl with
    | some p => s.serving p == 0
    | none => false
  if door = .h && !((scope = 1 || scope = 2) && mine) then 2
  else if scope = 0 then 0
  else if scope > 8 || (scope ≥ 5 && !s.odBool 0x7812 0) then 3
  else if (scope = 3 || scope = 4 || scope = 8) && t ≠ 0 then 3
  else if (scope = 1 || scope = 5) && (t ≥ 288 || s.clusterDown cl) then 3
  else if (scope = 2 || scope = 6) && (t ≥ 24 || s.clusterDown cl) then 3
  else if scope = 7 && (t ≥ 16 || (s.part t).st == .absent) then 3
  else if s.faults.resets.any (fun r => s.inside scope t r) || ((scope = 1 || scope = 5) && s.faults.replays.any (fun r => r.core == t)) then 5
  else 0

/-- A reset request is refused: OD 0x7002 says so, unless it shows one that runs, which the refusal leaves shown (R378; the latter DESIGN
CHOICE, log entry 169). -/
def State.resetRefused (s : State) (v : Nat) : State :=
  if bits 27 24 (s.odNum 0x7002 0) = 1 then s else s.resetStatus (bits 31 28 v) (bits 8 0 v) 3

/-- The collision flags of cores stay as they were: they last until a native reset (R161). -/
def State.keepColl (s : State) (l : List Nat) (f : State → State) : State :=
  l.foldl (fun t n => t.setCore n { t.core n with coll := (s.core n).coll }) (f s)

/-- A legacy step starts with the fence of its scope, which drains before the reset; a partition's votes and table commands end (R389). -/
def State.beginLegacy (s : State) (scope target : Nat) : State :=
  match scope with
  | 5 => s.fence false target
  | 6 => s.fence true target
  | _ =>
    let s := ((s.castAbort target 3).abandon (fun x => x.part == target)).tableEnds (fun x => x.part == target)
    (bitList 24 (s.part target).clusters).foldl (fun s c => s.fence true c) s

/-- The drain of a legacy step's fence has ended, and what it fenced is reset (R389). -/
def State.legacyGo (s : State) (f : Fence) : State :=
  if f.isCluster then
    (if s.faults.resets.any (fun r => (r.scope == 6 || r.scope == 7) && s.coversCluster r f.num) then
      s.keepColl (coresOf f.num) (fun s => s.clusterClear f.num) else s)
  else if s.faults.resets.any (fun r => r.scope == 5 && r.target == f.num) then
    s.keepColl [f.num] (fun s => (s.resetUnits f.num 1).coreClear f.num false)
  else s

/-- An accepted reset request (R378, R389, R390). -/
def State.resetRequest (s : State) (v : Nat) : State :=
  let scope := bits 31 28 v
  let t := bits 8 0 v
  if scope = 0 then s
  else
    let s := (s.odInc 0x7004 (nativeScope scope)).resetStatus scope t 1
    if scope = 4 || scope = 8 then s.moduleReset false false
    else
      let s := s.addReset scope t false false false
      if scope ≤ 3 then s.beginScope scope t else s.beginLegacy scope t

/-! ### Release, overrun, fences, seals -/

/-- A core, or the cores of a cluster, take the March requests that waited (R169, R504). -/
def State.marchTakes (s : State) (l : List Nat) : State := l.foldl State.marchTake s

/-- The end of the bring-up steps that a whole-module reset runs: step 8 of R400. -/
def State.stepEight (s : State) (spareBad armed : Nat) : State :=
  let s := s.computeApply spareBad armed
  let s := (List.range 16).foldl State.assignSpare s
  s.odSetN 0x2003 0 (withBit 6 true (s.odNum 0x2003 0))

/-- What stands in the way of a release: a held reset, the fences of its scope, a tag that waits, bring-up steps (R380, R382,
R383, R400), and in Grey a removal, which abandons bring-up (R408). -/
def State.releaseWaits (s : State) (r : ResetRun) : Bool :=
  r.held ||
  (match r.scope with
  | 1 | 5 => s.faults.fences.any (fun f => !f.isCluster && f.num == r.target)
  | 2 | 6 => s.faults.fences.any (fun f => f.isCluster && f.num == r.target)
  | 3 => s.faults.tagWait.any (fun k => decide (k < 24))
  | 7 => s.faults.fences.any (fun f => f.isCluster && decide (f.num < 24) && (s.part r.target).hasCluster f.num)
  | _ => s.life.removal != 0 || !(bit 3 (s.odNum 0x2003 0) && bit 4 (s.odNum 0x2003 0) && bit 5 (s.odNum 0x2003 0)))

/-- What a release does, by scope. A legacy partition reset is no native reset: both endpoints of a crossing between a core and its
cluster come out of it, and no sealed flag is cleared (R58). -/
def State.releaseScope (s : State) (r : ResetRun) (spareBad : Nat) : State :=
  let t := r.target
  match r.scope with
  | 1 => ((s.flipBoth (clusterOf t) (s.physOf t)).sealAmber).marchTakes [t]
  | 2 | 6 => ((s.applyMarks t).reopenCluster t).marchTakes (coresOf t)
  | 3 => (s.computeApply spareBad r.armed).marchTakes (List.range 288)
  | 5 => (s.flipIn (clusterOf t) (s.physOf t)).marchTakes [t]
  | 7 => (bitList 24 (s.part t).clusters).foldl (fun s c =>
      let s := s.applyMarks c
      let s := (List.range 13).foldl (fun s b => s.flipPair c b) s
      (([16, 17, 18, 19].foldl (fun s b => s.flipIn c b) s).sealAmber).marchTakes (coresOf c)) s
  | _ => s.stepEight spareBad r.armed

/-- RESET_RELEASE: a reset ends and its domain takes work again. `spareBad` names the stacks whose spare pair fails its own
training at this reset (R181, R376, R380, R389). -/
def execResetRelease (scope : Fin 9) (target : Fin 512) (spareBad : BitVec 16) (s : State) : Host.Outcome State Fault Refusal :=
  match s.faults.resets.find? (fun r => r.scope == scope.val && r.target == target.val) with
  | none => .next s
  | some r =>
    if s.releaseWaits r then .next s
    else
      let s := s.releaseScope r spareBad.toNat
      let s := { s with faults := { s.faults with resets := s.faults.resets.filter (fun x => x != r) } }
      let s := if s.resetShown r.scope r.target then s.resetStatus r.scope r.target 2
        else if r.scope = 4 && s.resetShown 8 0 then s.resetStatus 8 0 2 else s
      .next (if r.scope ≤ 4 then s.lilac 6 0x21 r.target 0 r.scope none else s)

/-- The scope and target that take over from a reset that overruns (R376). -/
def largerScope (scope target : Nat) : Nat × Nat :=
  match scope with
  | 1 => (2, clusterOf target)
  | 2 => (3, 0)
  | _ => (4, 0)

/-- RESET_OVERRUN: a native reset passes its max bound: fault 0x03, and the next larger scope takes over. A whole-module reset
has none, and the module is Grey, so it enters Red (R376, R391). -/
def execResetOverrun (scope : Fin 5) (target : Fin 512) (s : State) : Host.Outcome State Fault Refusal :=
  match s.faults.resets.find? (fun r => r.scope == scope.val && r.target == target.val && !r.held) with
  | none => .next s
  | some r =>
    let s := if s.resetShown r.scope r.target then s.resetStatus r.scope r.target 5 else s
    let kind := if r.scope = 1 then 1 else if r.scope = 2 then 2 else 0
    if r.scope = 4 then .next (s.redFault 0x03 kind 0 none true r.scope)
    else
      let l := largerScope r.scope r.target
      .next (s.faultReset 0x03 (l.1 + 1) l.1 l.2 kind r.target none r.scope)

/-- The drain limit of a fence passes: every entry left is released. The late replies of a cluster under a legacy cluster step are absorbed at its
network interface (R383, R389). -/
def State.drainOut (s : State) (f : Fence) : State :=
  let gone := (s.fabric.out.filter (s.inFence f)).map (fun r => (r.pkt.dst, r.pkt.spart, r.pkt.seq, r.pkt.gen))
  let s := s.dropReqs (s.inFence f)
  if f.isCluster && s.faults.resets.any (fun r => r.scope == 6 && r.target == f.num) then
    { s with fabric := { s.fabric with late := s.fabric.late ++ gone, stale := s.fabric.stale.filter (fun x => !gone.contains x) } }
  else s

/-- FENCE_END: a fence ends when nothing of its domain is outstanding or the drain limit passes, which releases what is left; a tag that
waited advances when the lifetime rule allows it, and its fence lasts until then; a legacy step then resets its islands (R382, R383,
R389). -/
def execFenceEnd (isCluster : Bool) (num : Fin 288) (timedOut : Bool) (s : State) : Host.Outcome State Fault Refusal :=
  let f : Fence := ⟨isCluster, num.val⟩
  if !s.faults.fences.contains f then .next s
  else
    let drained := if timedOut then s.drainOut f else s
    if isCluster && s.faults.tagWait.contains num.val then
      (if s.tagReady num.val then .next (((drained.unfence (fun x => x == f)).legacyGo f).tagAdvance num.val) else .next drained)
    else if s.fenceBusy f && !timedOut then .next s
    else .next ((drained.unfence (fun x => x == f)).legacyGo f)

/-- CROSSING_SEAL: the reset phases of a crossing's endpoints have disagreed for 8 cycles: it seals, with its flag, count, fault
0x08, event and Amber (R56, R57). -/
def execCrossingSeal (cluster : Fin 24) (bit : Fin 20) (s : State) : Host.Outcome State Fault Refusal :=
  let c := cluster.val
  let b := bit.val
  let w := s.odNum 0x7810 (c + 1)
  if !sealBits.contains b || s.phaseOf (epIn c b) = s.phaseOf (epOut c b) || Machine.bit b w then .next s
  else
    let w := withBit b true w
    let s := ((s.odSetN 0x7810 (c + 1) w).odInc 0x7811 0).sealAmber
    .next ((s.raise 0x0004 0x7810 (c + 1) w).faultRecord 0x08 1 2 c none false w)

end Sys2Proof.Machine
end

