-- ==== Sys2Proof/Machine/Partitions.lean ====
section
/-! DEFINITION. Partitions: creation, teardown, scrubbing, peer admission and fabric windows (R342 to R350, R364 to R366). -/
namespace Sys2Proof.Machine

/-- The object that shows a partition's state (R369). -/
def State.partGo (s : State) (p : Nat) (st : PartSt) : State :=
  (s.setPart p { s.part p with st := st }).odSetN 0x6002 (p + 1)
    (match st with | .absent => 0 | .creating => 1 | .live => 2 | .draining => 3 | .scrubbing => 4)

/-! ### Creation (R343 to R345) -/

/-- The resources that a creation would take: clusters, regions, secure, served by a VF; the writes made while Absent count
(R343, R505). -/
def State.askedNum (s : State) (i k : Nat) : Nat := ((s.odPending i k).elim (s.odGet i k) id).toNat
def State.askedBlob (s : State) (i k : Nat) : List Byte := ((s.odPending i k).elim (s.odGet i k) id).bytes
def State.askedClusters (s : State) (p : Nat) : Nat := bits 23 0 (s.askedNum 0x6003 (p + 1))
def regionList (b : List Byte) : List (Nat × Nat) := (List.range (b.length / 16)).map (fun i => (fieldAt b (16 * i) 8, fieldAt b (16 * i + 8) 8))
def State.askedRegions (s : State) (p : Nat) : List (Nat × Nat) := regionList (s.askedBlob 0x6004 (p + 1))

def pairwiseApart : List (Nat × Nat) → Bool
  | [] => true
  | r :: rs => rs.all (fun x => !rangesMeet r x) && pairwiseApart rs

/-- What R345 asks of a creation. -/
def State.createOk (s : State) (p : Nat) : Bool :=
  let cs := s.askedClusters p
  let rs := s.askedRegions p
  let others := (List.range 16).filter (fun q => q != p && (s.part q).st != .absent)
  cs != 0 && (bitList 24 cs).all (fun c => !s.clusterDown c && others.all (fun q => !(s.part q).hasCluster c)) &&
  !rs.isEmpty && pairwiseApart rs && others.all (fun q => (s.part q).regions.all (fun r => rs.all (fun x => !rangesMeet r x))) &&
  (s.askedNum 0x6005 (p + 1) == 0 || s.askedNum 0x9001 (p + 1) != 0)

/-- The list of regions that OD 0x6004 accepts (R343). -/
def regionsOk (b : List Byte) : Bool :=
  b.length % 16 == 0 && decide (b.length ≤ 512) &&
  (regionList b).all (fun r => r.1 % 0x10_0000 == 0 && r.2 % 0x10_0000 == 0 && r.2 != 0 && decide (r.1 + r.2 ≤ 0x0C0_0000_0000))

/-- An HBM address lies in a scrubbed unit (R345). -/
def State.isScrubbed (s : State) (a : Nat) : Bool := s.memory.scrubbed.any (fun r => decide (r.1 ≤ a) && decide (a < r.1 + r.2))

/-- FILL with the scrub flag over the addresses that meet a test: zero bytes, colour 0, no uncorrectable sector (R173, R198). -/
def State.scrubFill (s : State) (q : Nat → Bool) : State :=
  { s with
    mem := s.mem.filter (fun c => !(decide (c.1 < 0x0C0_0000_0000) && q c.1)),
    memory := { s.memory with colour := s.memory.colour.filter (fun e => !q (64 * e.1)),
                              bad := s.memory.bad.filter (fun k => !q (64 * k)) } }

/-- The cores of a set of clusters. -/
def coresIn (cs : Nat) : List Nat := (bitList 24 cs).flatMap coresOf

/-- Creation begins: the objects are applied, the windows are emptied, Onyx draws the HBM key, unscrubbed parts are filled with
zeros, banks and counters take their reset values, and no epoch is decided (R317, R344, R345). -/
def State.create (s : State) (p : Nat) : State :=
  let s := s.odApplyAll [(0x6003, p + 1), (0x6004, p + 1), (0x6005, p + 1), (0x9001, p + 1)]
  let cs := s.askedClusters p
  let rs := s.askedRegions p
  let s := s.setPart p { s.part p with
    clusters := cs, regions := rs, secure := s.odBool 0x6005 (p + 1), held := false, recreate := false, content := false }
  let s := s.partGo p .creating
  let k := odKey (0x6100 + p) 0
  let s := { s with od := ⟨s.od.app.filter (fun e => !(decide (k < e.1) && decide (e.1 ≤ k + 64))),
                           s.od.acc.filter (fun e => !(decide (k < e.1) && decide (e.1 ≤ k + 64)))⟩ }
  let f := s.freeVal 512
  let s := { f.2 with sec := { f.2.sec with onyx := { f.2.sec.onyx with hbmKey := tput f.2.sec.onyx.hbmKey p f.1 } } }
  let s := s.scrubFill (fun a => (s.part p).hasHbm a && !s.isScrubbed a)
  let s := rs.foldl (fun s r => s.patternCut r.1 (r.1 + r.2)) s
  let s := (coresIn cs).foldl (fun s n =>
    let c := s.core n
    let s := c.bank.foldl (fun s e => if e.2.pwr = .dark then s.bankZero n e.1 else s) s
    s.setCore n { c with cnt := [], bank := (c.bank.filter (fun e => e.2.failed)).map (fun e => (e.1, { Bank.blank with failed := true })) }) s
  let s := s.setEp p { s.ep p with anyDecided := false, lastDecided := 0 }
  ((s.hcClear p).showTags).showEp p

/-! ### Teardown (R364, R365) -/

/-- A partition's queues go to Closing, and what they hold undispatched is discarded (R231). -/
def State.closeQueues (s : State) (p : Nat) : State :=
  (List.range 64).foldl (fun s j =>
    let q := 64 * p + j
    if (s.queue q).code = .disabled then s
    else (s.updQueue q (fun y => { y with fetched := [] })).qGo q .closing) s

/-- A core's contexts go to Draining with fault 0x0D, and its waiting dispatch entries go (R90, R365). -/
def Core.torn (c : Core) : Core :=
  (List.range 4).foldl (fun (c : Core) k =>
    if (c.slot k).st = .empty then c else (c.fault k 0x0D 0 0 0).discard k) { c with waitq := [] }

/-- An open epoch casts ABORT_VOTE with cause 8, and the member is Closed without a restore; its ledger entries, sweeps, restores and deliveries are
discarded, and no colour is current; with the member Closed and no sweep left, settings staged for its ledger apply (R318, R329, R394). -/
def State.epTorn (s : State) (p : Nat) : State :=
  let s := s.castAbort p 8
  let s := if (s.ep p).st == .closed then s else s.epGo p .closed
  let s := s.setEp p { s.ep p with beginDesc := none, voteDesc := none }
  let m := s.memory
  (({ s with memory := { m with
      ledger := m.ledger.filter (fun e => e.part != p), work := m.work.filter (fun w => w.part != p),
      delivering := m.delivering.filter (fun q => q != p), deciding := m.deciding.filter (fun d => d.1 != p),
      tail := m.tail.filter (fun e => e.1 / 16 != p) } }.odSetN 0x8061 (p + 1) 0).showLedger p).ledgerSettings p

/-- Steps 1 and 2: Draining; queues, contexts, table commands, collectives and the open epoch end; the TDI is in ERROR unless a
TDISP stop asked for the teardown; the partition's tags advance. -/
def State.teardown (s : State) (p : Nat) : State :=
  let x := s.part p
  let cores := coresIn x.clusters
  let s := ((s.setPart p { x with held := false, drainAt := s.fab, cut := 0 }).partGo p .draining).closeQueues p
  let s := { s with faults := { s.faults with replays := s.faults.replays.filter (fun r => !cores.contains r.core) } }
  let s := cores.foldl (fun s n => s.setCore n (s.core n).torn) s
  let s := (((s.abandon (fun y => y.part == p)).tableEnds (fun y => y.part == p)).collsTeardown p).epTorn p
  let t := s.odNum 0x6031 (p + 1)
  let s := if !x.recreate && (t == 1 || t == 2) then s.odSetN 0x6031 (p + 1) 3 else s
  (bitList 24 x.clusters ++ [24 + p]).foldl (fun s k => s.tagAdvance k) s

/-- Writes of BANK.CTRL that a host function has under way at a core's banks: they have reached the scratchpad (R156, R364). -/
def Core.hostWrites (c : Core) : Nat :=
  let host := fun (w : BankWrite) => match w.who with
    | .host _ => true
    | .dma _ _ => false
  (c.bank.map (fun e => (e.2.moving.toList ++ e.2.held).countP host)).sum

/-- Fabric requests to a partition that were admitted and wait at their targets (R364). -/
def State.begunFor (s : State) (p : Nat) : List Pkt := s.fabric.begun.filter (fun q => q.dpart == p)

/-- The in-flight count (R364). -/
def State.inFlight (s : State) (p : Nat) : Nat :=
  let cores := coresIn (s.part p).clusters
  let ops := (cores.map (fun n =>
    let c := s.core n
    (c.mops.filter (fun m => m.phase != .queued)).length + b2n c.tRun.isSome + b2n c.vRun.isSome + c.hostWrites)).sum
  let copies := ((s.disp.flights.filter (fun f => f.part == p && dType (dNum f.bytes) == 2 && !f.finished)).map
    (fun f => f.started - f.ends.length)).sum
  ops + copies + (s.memory.held.filter (fun h => h.part == p)).length + (s.begunFor p).length +
    b2n (s.sec.onyx.unsealing.any (fun u => u.part == p))

/-- The end of an unseal: its status, and the engine is free (R363). -/
def State.unsealEnd (s : State) (p code seg : Nat) : State :=
  let s := { s with sec := { s.sec with onyx := { s.sec.onyx with unsealing := none } } }
  s.odSetN 0x6421 (p + 1) (code * 2 ^ 56 + seg)

/-- Step 3's cancellation: every remaining access is cut at its unit, with no write landing (R365). The COPY units under way are cut too, as they
end no more in a Scrubbing partition, writes of BANK.CTRL on their way, and requests that wait at their targets, which nothing answers. -/
def State.cutAll (s : State) (p : Nat) : State :=
  let cutKey := s.sec.onyx.unsealing.any (fun u => u.part == p)
  let s := s.setPart p { s.part p with cut := s.inFlight p, content := cutKey }
  let s := (coresIn (s.part p).clusters).foldl (fun s n =>
    let c := s.core n
    s.setCore n { c with mops := [], tRun := none, vRun := none, tq := [], vq := [],
                         bank := c.bank.map (fun e => (e.1, { e.2 with moving := none, held := [] })) }) s
  let gone := s.begunFor p
  let s := ({ s with fabric := { s.fabric with inbox := s.fabric.inbox.filter (fun q => !gone.contains q) } }).begunCut gone.contains
  let s := { s with memory := { s.memory with held := s.memory.held.filter (fun h => h.part != p) } }
  if cutKey then s.unsealEnd p 8 0 else s

/-- Cached flow keys that meet a test go (R356). -/
def State.dropKeys (s : State) (q : FlowKey → Bool) : State :=
  { s with fabric := { s.fabric with keys := s.fabric.keys.filter (fun k => !q k) } }

/-- A job secret goes, with its slots and flow keys (R356, R358). -/
def State.destroySecret (s : State) (sel : Nat) : State :=
  let s := s.dropKeys (fun k => k.sel == sel)
  (List.range 32).foldl (fun s i =>
    let v := s.odNum 0x6416 (i + 1)
    if v ≠ 0 && bits 15 8 v = sel then
      let o := s.sec.onyx
      let o := { o with eph := tdel o.eph i, secret := tdel o.secret i }
      ({ s with sec := { s.sec with onyx := o } }).odSetN 0x6416 (i + 1) 0
    else s) s

/-- The key selector of a partition's traffic (R349). -/
def State.admKey (s : State) (p : Nat) : Nat := bits 23 16 (s.askedNum 0x6010 (p + 1))

/-- The scrub record (R366), over the state after steps 4 and 5. -/
def State.scrubRecord (s : State) (p keys result : Nat) : List Byte :=
  let x := s.part p
  let w := (s.fab % 2 ^ 64) * 2 ^ 448 + (x.drainAt % 2 ^ 64) * 2 ^ 384 + ((x.regions.map (·.2)).sum % 2 ^ 64) * 2 ^ 320 +
    32 * (coresIn x.clusters).length * 2 ^ 288 + (x.cut % 2 ^ 32) * 2 ^ 256 + (x.downs % 2 ^ 16) * 2 ^ 240 +
    s.partTag p * 2 ^ 232 + p * 2 ^ 228 + result * 2 ^ 224 + keys * 2 ^ 216
  let bs := leBytes 64 w
  leBytes 4 (crc32c (bs.drop 4)) ++ bs.drop 4

/-- Step 4: regions, banks, pools, counters and registers are scrubbed, and what the stacks hold for the partition goes. -/
def State.scrub (s : State) (p : Nat) : State :=
  let x := s.part p
  let s := s.scrubFill x.hasHbm
  let s := { s with memory := { s.memory with
    held := s.memory.held.filter (fun h => h.part != p), short := s.memory.short.filter (fun x => s.holder (64 * x.sector) != some p),
    hot := s.memory.hot.map (fun (e : Nat × Hot) => (e.1, { e.2 with lines := e.2.lines.filter (fun k => !x.hasHbm (64 * k)) })) } }
  let s := (coresIn x.clusters).foldl (fun s n => s.keepColl [n] (fun s => (s.coreClear n false).zero (spadBase n) 0x30_0000)) s
  let s := (bitList 24 x.clusters).foldl (fun s c => s.zero (poolBase c) 0x80_0000) s
  s.hcClear p

/-- Step 5: the keys that go, and the field SR.KEYS: the HBM key, the flow keys, and the job secret when no other partition that
is not Absent uses its selector; a content key went with the unseal that was cut (R356, R365). -/
def State.scrubKeys (s : State) (p : Nat) (content : Bool) : Nat × State :=
  let k := s.admKey p
  let flows := s.fabric.keys.any (fun x => x.part == p)
  let s := s.dropKeys (fun x => x.part == p)
  let others := (List.range 16).any (fun q => q != p && (s.part q).st != .absent && s.admKey q == k)
  let job := k != 0 && !others && s.keyInstalled k
  let s := { s with sec := { s.sec with onyx := { s.sec.onyx with hbmKey := tdel s.sec.onyx.hbmKey p } } }
  let s := if job then s.destroySecret k else s
  (1 + 2 * b2n flows + 4 * b2n content + 8 * b2n job, s)

/-- Step 6: the record, the scrub map, the descriptors' TEARDOWN, the queues Disabled, the partition Absent with its event, and
the creation that a TDISP stop asked for. -/
def State.scrubEnd (s : State) (p keys result : Nat) : State :=
  let x := { s.part p with downs := (s.part p).downs + 1 }
  let s := s.setPart p x
  let s := s.odSet 0x6020 (p + 1) (.blob (s.scrubRecord p keys result))
  let s := { s with memory := { s.memory with
    scrubbed := s.memory.scrubbed.filter (fun r => !x.regions.contains r) ++ x.regions } }
  let s := ((s.odSetN 0x6030 (p + 1) 0).odSet 0xA203 (p + 1) (.blob []))
  let s := { s with od := { s.od with acc := tdel s.od.acc (odKey 0xA203 (p + 1)) }, trace := { s.trace with hdr := tdel s.trace.hdr (p + 1) } }
  let s := s.partGo p .absent
  let s := s.setPart p { Part.blank with addrFaults := x.addrFaults, invConv := x.invConv, bxOvf := x.bxOvf, downs := x.downs,
                                         isoEventAt := x.isoEventAt, recreate := x.recreate, stopWaits := x.stopWaits }
  let refs := (s.disp.flights.filter (fun f => f.part == p)).map (·.ref)
  let s := refs.foldl (fun s r => s.flightForce r ⟨0xC, 0, 0⟩) (s.tableEnds (fun y => y.part == p))
  let s := refs.foldl (fun s r => match s.flight? r with
    | some f => if f.silent || !(s.queue r.queue).cqFull then s.complete f else s
    | none => s) s
  let s := (List.range 64).foldl (fun s j =>
    let q := 64 * p + j
    if (s.queue q).code = .closing && s.qOut q = 0 then s.qGo q .disabled else s) s
  let s := s.raise 0x0005 0x6002 (p + 1) 0
  if x.recreate then s.create p else s

/-! ### The command element and the events (R344) -/

/-- The status of a partition command: R493's code (R344, R345). -/
def State.partCheck (s : State) (p v : Nat) : Nat :=
  if p ≥ s.odNum 0x6000 0 then 4
  else if v = 1 then
    match (s.part p).st with
    | .absent => if s.createOk p then 0 else 3
    | .draining | .scrubbing => 5
    | _ => 0
  else if v ≤ 2 then 0 else 3

/-- An accepted partition command. -/
def State.partCommand (s : State) (p v : Nat) : State :=
  if v = 1 then (if (s.part p).st = .absent then s.create p else s)
  else if v = 2 then
    match (s.part p).st with
    | .creating => s.setPart p { s.part p with held := true }
    | .live => s.teardown p
    | _ => s
  else s

/-- CREATION_DONE: the creation steps end: Live with its event, or Draining when a teardown is held; a TDISP stop that waited is
answered (R344, R355). -/
def execCreationDone (part : Fin 16) (s : State) : Host.Outcome State Fault Refusal :=
  let p := part.val
  let x := s.part p
  if x.st ≠ .creating then .next s
  else if x.held then .next (s.teardown p)
  else
    let s := (s.partGo p .live).raise 0x0005 0x6002 (p + 1) 2
    if x.stopWaits then .next ((s.setPart p { s.part p with stopWaits := false }).emit (.doe (p + 1) .stopResponse []))
    else .next s

/-- DRAIN_END: the in-flight count of a Draining partition is 0, or 10 ms have passed and the rest is cut (R344, R365). -/
def execDrainEnd (part : Fin 16) (timedOut : Bool) (s : State) : Host.Outcome State Fault Refusal :=
  let p := part.val
  if (s.part p).st ≠ .draining then .next s
  else if s.inFlight p = 0 then .next (s.partGo p .scrubbing)
  else if timedOut then .next ((s.cutAll p).partGo p .scrubbing)
  else .next s

/-- SCRUB_DONE: steps 4 to 6 end; `bad` holds the banks that failed their March-zero. A compute-part reset delays it (R365, R366). -/
def execScrubDone (part : Fin 16) (bad : List (Fin 288 × Fin 32)) (s : State) : Host.Outcome State Fault Refusal :=
  let p := part.val
  if (s.part p).st ≠ .scrubbing || s.faults.resets.any (fun r => r.scope == 3 && !r.held) then .next s
  else
    let s := s.scrub p
    let mine := bad.filter (fun b => (s.part p).hasCluster (clusterOf b.1.val))
    let s := mine.foldl (fun s b => s.bankFail b.1.val b.2.val) s
    let k := s.scrubKeys p (s.part p).content
    .next (k.2.scrubEnd p k.1 (b2n (!mine.isEmpty)))

/-! ### Peer admission and windows (R348 to R350) -/

/-- R348: who may write, and when. -/
def State.guarded (s : State) (door : Door) (p : Nat) : Bool :=
  let x := s.part p
  let t := s.odNum 0x6031 (p + 1)
  x.st == .live && !(x.secure && (t == 1 || t == 2)) && (door == .m || s.serving p == 0)

/-- The status of a write of the peer admission element (R348, R349). -/
def State.admitCheck (s : State) (door : Door) (p v : Nat) : Nat :=
  let k := bits 23 16 v
  if !s.guarded door p then 2
  else if (k = 0 && (s.part p).secure) || (k ≠ 0 && !s.keyInstalled k) then 3 else 0

/-- The status of a write of a fabric window (R348, R350). -/
def State.windowCheck (s : State) (door : Door) (p : Nat) (b : List Byte) : Nat :=
  let base := fieldAt b 0 8
  let len := fieldAt b 8 8
  let r := fieldAt b 16 1
  let view := match s.region base with
    | .view _ | .aperture _ => true
    | _ => false
  if !s.guarded door p then 2
  else if b.length ≠ 32 then 3
  else if base % 256 ≠ 0 || len % 256 ≠ 0 || len > 2 ^ 40 || r > 3 || (slice b 17 15).any (fun x => x != 0) then 3
  else if len ≠ 0 && (s.reachAll p base len (bit 1 r) != .ok || (view && bit 1 r)) then 3
  else 0

end Sys2Proof.Machine
end

