-- ==== Sys2Proof/Machine/Security.lean ====
section
/-! DEFINITION. Onyx, attestation, TDISP, IDE and the tamper response (R351 to R364, R367, R368). -/
namespace Sys2Proof.Machine

def State.onyx (s : State) (f : Onyx → Onyx) : State := { s with sec := { s.sec with onyx := f s.sec.onyx } }

/-- The serial number (OD 0x1000). -/
def State.serial (s : State) : Nat := s.odNum 0x1000 0

/-! ### Job secrets (R358) -/

/-- The slot that a key selector has, or the first empty one. -/
def State.secretSlot (s : State) (sel : Nat) : Option Nat :=
  match (List.range 32).find? (fun i => let v := s.odNum 0x6416 (i + 1); v != 0 && bits 15 8 v == sel) with
  | some i => some i
  | none => (List.range 32).find? (fun i => s.odNum 0x6416 (i + 1) == 0)

/-- The slot of a selector in a state: 1 offered, 2 root, 3 installed. -/
def State.slotIn (s : State) (sel st : Nat) : Option Nat :=
  (List.range 32).find? (fun i => s.odNum 0x6416 (i + 1) == sel * 256 + st)

/-- What lies before the signature in bytes that end in a 2-byte certificate length at `at_`, the certificate and a hybrid signature, and
whether it verifies. -/
def signedOk (usage at_ : Nat) (b : List Byte) : Bool :=
  let c := fieldAt b at_ 2
  b.length == at_ + 2 + c + 3405 && hybridVerifies usage (slice b (at_ + 2) c) (b.take (at_ + 2 + c)) (b.drop (at_ + 2 + c))

/-- An offer: version, selector, serial, public parts, certificate, signature. -/
def offerOk (b : List Byte) : Bool := fieldAt b 0 1 == 1 && fieldAt b 1 1 != 0 && signedOk 0 1291 b

/-- A grant: version, selector, the root's and the member's serial, ciphertext parts, wrapped secret, certificate, signature. -/
def grantOk (b : List Byte) : Bool := fieldAt b 0 1 == 1 && fieldAt b 1 1 != 0 && signedOk 0 1251 b

/-- Bytes with the module's identity certificate and its signature over everything before it (R352, R358). -/
def signed (b : List Byte) : List Byte :=
  let c := Config.identityCert.take 65535
  let m := b ++ leBytes 2 c.length ++ c
  m ++ hybridSign m

def makeOffer (serial sel eph : Nat) : List Byte := signed (leBytes 1 1 ++ leBytes 1 sel ++ leBytes 8 serial ++ agreePublic eph)

/-- The 48 bytes of a job secret under the key of its grant, or out of it: GCM's stream under a zero nonce. The field of 48 bytes holds no tag
(DESIGN CHOICE, log entry 184); the grant's signature covers it. -/
def jobWrap (z : List Byte) (sel root member : Nat) (bs : List Byte) : List Byte :=
  gcmStream (aesRounds (wrapKey z "HX-JOB" (leBytes 1 sel ++ leBytes 8 root ++ leBytes 8 member))) zeroNonce bs

/-- A key root's grant of a secret against an offer, with a fresh ephemeral half (R358). -/
def makeGrant (serial : Nat) (offer : List Byte) (secret eph : Nat) : List Byte :=
  let sel := fieldAt offer 1 1
  let x := agreeSend eph (slice offer 10 97) (slice offer 107 1184)
  signed (leBytes 1 1 ++ leBytes 1 sel ++ leBytes 8 serial ++ slice offer 2 8 ++ x.2 ++
    jobWrap x.1 sel serial (fieldAt offer 2 8) (leBytes 48 secret))

/-- The secret that a member unwraps from a grant with its ephemeral half (R358). -/
def openGrant (b : List Byte) (eph : Nat) : Nat :=
  leNat (jobWrap (agreeReceive eph (slice b 18 97) (slice b 115 1088)) (fieldAt b 1 1) (fieldAt b 2 8) (fieldAt b 10 8) (slice b 1203 48))

/-- Whether Onyx refuses a write of OD 0x6410, 0x6411, 0x6413, 0x6415 or 0x6417 (R358). -/
def State.jobBad (s : State) (idx : Nat) (b : List Byte) : Bool :=
  let sel := fieldAt b 0 1
  match idx with
    | 0x6410 | 0x6411 => sel == 0 || (s.secretSlot sel).isNone
    | 0x6413 => !(offerOk b && agreeOk (slice b 10 97) (slice b 107 1184) && (s.slotIn (fieldAt b 1 1) 2).isSome)
    | 0x6415 => !(grantOk b && fieldAt b 10 8 == s.serial && Config.p384Point (slice b 18 97) && (s.slotIn (fieldAt b 1 1) 1).isSome)
    | _ => sel == 0 || (List.range 16).any (fun p => (s.part p).st != .absent && s.admKey p == sel)

/-- The status of such a write: R493's code (R358). -/
def State.jobCheck (s : State) (idx : Nat) (b : List Byte) : Nat :=
  if s.jobBad idx b then 3 else if idx ≠ 0x6417 && s.sec.onyx.job.isSome then 5 else 0

/-- An accepted write of those objects: Onyx starts, or destroys the secret (R358). -/
def State.jobWrite (s : State) (idx : Nat) (b : List Byte) : State :=
  let sel := fieldAt b 0 1
  match idx with
  | 0x6410 => s.onyx (fun o => { o with job := some (.create sel) })
  | 0x6411 => s.onyx (fun o => { o with job := some (.offer sel) })
  | 0x6413 => s.onyx (fun o => { o with job := some (.grant b) })
  | 0x6415 => s.onyx (fun o => { o with job := some (.install b) })
  | _ => s.destroySecret sel

/-- A selector has a new job secret: each flow's wraps count from now, and flow keys derived under an earlier one are gone (R359, R360). -/
def State.secretNew (s : State) (sel : Nat) : State :=
  let s := s.dropKeys (fun k => k.sel == sel)
  { s with fabric := { s.fabric with flows := updAll (fun _ => true) (fun f => { f with base := tset 0 f.base sel f.wrap }) s.fabric.flows } }

/-- What Onyx's job-secret work comes to (R358). It signs with the identity key, while the key store holds it (R351, R367). -/
def State.jobDone (s : State) (j : OJob) : State :=
  let s := s.onyx (fun o => { o with job := none })
  match j with
  | .create sel => match s.secretSlot sel with
    | none => s
    | some i =>
      let f := s.freeVal 384
      ((f.2.onyx (fun o => { o with secret := tput o.secret i f.1 })).odSetN 0x6416 (i + 1) (sel * 256 + 2)).secretNew sel
  | .offer sel => match (if s.sec.onyx.identity then s.secretSlot sel else none) with
    | none => s
    | some i =>
      let f := s.freeVal 384
      let s := (f.2.onyx (fun o => { o with eph := tput o.eph i f.1 })).odSetN 0x6416 (i + 1) (sel * 256 + 1)
      s.odSet 0x6412 0 (.blob (makeOffer s.serial sel f.1))
  | .grant b => match (if s.sec.onyx.identity then s.slotIn (fieldAt b 1 1) 2 else none) with
    | none => s
    | some i =>
      let f := s.freeVal 384
      f.2.odSet 0x6414 0 (.blob (makeGrant s.serial b (tget 0 s.sec.onyx.secret i) f.1))
  | .install b => match s.slotIn (fieldAt b 1 1) 1 with
    | none => s
    | some i =>
      let k := openGrant b (tget 0 s.sec.onyx.eph i)
      ((s.onyx (fun o => { o with secret := tput o.secret i k, eph := tdel o.eph i })).odSetN 0x6416 (i + 1)
        (fieldAt b 1 1 * 256 + 3)).secretNew (fieldAt b 1 1)

/-! ### Measurements (R354) -/

/-- The bytes of an array's elements in order. -/
def State.elemBytes (s : State) (idx n k : Nat) : List Byte := (List.range n).flatMap (fun i => leBytes k (s.odNum idx (i + 1)))

/-- The bytes of an image, for its measurement blocks. -/
def imgBytes (i : Option Img) : List Byte := i.elim [] (·.bytes)
/-- The active controller, and the image it runs. -/
def Fw.active (f : Fw) : Slate := if f.bActive then f.b else f.a
def State.activeImage (s : State) : List Byte := imgBytes s.fw.active.img

/-- Measurement block 1 to 6, and block 7 of a VF's partition. -/
def State.block (s : State) (k : Nat) : List Byte :=
  sha384 (match k with
    | 1 => Config.onyxComponent (imgBytes s.fw.comp)
    | 2 => Config.slateComponent s.activeImage
    | 3 => Config.sepiaComponent (imgBytes s.fw.comp)
    | 4 => leBytes 1 (s.odNum 0xB002 0) ++ leBytes 1 (s.odNum 0x1001 0)
    | 5 => s.odBlob 0x6450 0
    | _ => s.elemBytes 0x6005 16 1 ++ s.elemBytes 0x9001 16 1)
def State.block7 (s : State) (p : Nat) : List Byte :=
  sha384 (leBytes 4 (s.odNum 0x6003 (p + 1)) ++ s.odBlob 0x6004 (p + 1) ++ leBytes 4 (s.odNum 0x6010 (p + 1)) ++
    (List.range 64).flatMap (fun w => s.odBlob (0x6100 + p) (w + 1)))
/-- The measurement digest of the module. -/
def State.measurement (s : State) : List Byte :=
  sha384 ((List.range 6).flatMap (fun i => s.block (i + 1)))

/-! ### Unseal (R361 to R363) -/

/-- The status of an unseal request (R363): its layout, a licensed partition, the serving function, one at a time. -/
def State.unsealCheck (s : State) (door : Door) (b : List Byte) : Nat :=
  let p := fieldAt b 0 1
  if b.length ≠ 40 then 3
  else if door = .h && p < 16 && s.serving p ≠ 0 then 2
  else if p < 16 && p ≥ s.odNum 0x6000 0 then 4
  else if p ≥ 16 || (slice b 1 7).any (fun x => x != 0) then 3
  else if s.sec.onyx.unsealing.isSome then 5 else 0

def State.unsealWrite (s : State) (b : List Byte) : State :=
  let p := fieldAt b 0 1
  (s.onyx (fun o => { o with unsealing := some ⟨p, fieldAt b 8 8, fieldAt b 16 8, fieldAt b 24 8, fieldAt b 32 8⟩ })).odSetN
    0x6421 (p + 1) (1 * 2 ^ 56)

/-- A leaf carried up through a proof to the root: a node with an odd index has its sibling on the left; one with an even index has it on the
right, or passes up unpaired. An unpaired node is the last of its level, and of every level above, so that it is from then on unpaired
wherever its index is even: the proof then holds a sibling for each odd index left and no more (R361). With a proof too short for that there
is no root. -/
def climb : Nat → Nat → List Byte → List (List Byte) → Option (List Byte)
  | 0, i, h, l => if i = 0 && l.isEmpty then some h else none
  | n + 1, i, h, l =>
    let left := popCount 20 i
    if l.length < left then none
    else match l with
      | [] => some h
      | x :: xs =>
        if i % 2 = 1 then climb n (i / 2) (sha384 (leBytes 1 1 ++ (x ++ h))) xs
        else if l.length = left then climb n (i / 2) h l
        else climb n (i / 2) (sha384 (leBytes 1 1 ++ (h ++ x))) xs

/-- The root that a set grant's proof gives for this module; a set has at most 2^20 leaves (R361). -/
def State.proofRoot (s : State) (g : List Byte) : Option (List Byte) :=
  let leaf := sha384 (leBytes 1 0 ++ leBytes 8 s.serial ++ sha384 (s.odBlob 0x6400 0))
  let i := fieldAt g 1 4
  let d := fieldAt g 5 1
  if i ≥ 2 ^ 20 || d > 20 then none
  else climb 20 i leaf ((List.range d).map (fun k => slice g (1239 + 48 * k) 48))

/-- A range lies in the partition's HBM (R363). -/
def State.inHbm (s : State) (p a len : Nat) : Bool :=
  decide (a + len ≤ 0x0C0_0000_0000) && s.reachAll p a len true == .ok

/-- The access that the writes of an unseal make, which may have to wait at the stacks (R202). -/
def State.unsealAcc (s : State) (u : Unseal) : Acc := s.access .fabric u.part u.dst u.len true

/-- The set key that the module unwraps from a grant with its agreement key, while the key store holds it (R351, R362). -/
def State.setKey (s : State) (g root : List Byte) : Option (List Byte) :=
  let z := agreeReceive Config.agreementKey (slice g 6 97) (slice g 103 1088)
  if !s.sec.onyx.identity || !Config.p384Point (slice g 6 97) then none
  else gcmOpen (wrapKey z "HX-SET" (leBytes 8 s.serial ++ root)) zeroNonce [] (slice g 1191 32) (slice g 1223 16)

/-- The content key that an envelope's header holds under a set key, and segment `i`'s plaintext from its ciphertext and tag (R361). -/
def contentKey (setKey h : List Byte) : Option (List Byte) := gcmOpen setKey (slice h 160 12) (h.take 112) (slice h 112 32) (slice h 144 16)
def openSegment (key h : List Byte) (i : Nat) (bs : List Byte) : Option (List Byte) :=
  let n := bs.length - 16
  gcmOpen key (slice h 160 8 ++ leBytes 4 i) (h.take 172 ++ leBytes 4 i) (bs.take n) (bs.drop n)

/-- The bytes of plaintext segment `i` of an image of `len` bytes, and a segment decrypted from its envelope (R361). -/
def segLen (len i : Nat) : Nat := min 0x10_0000 (len - 0x10_0000 * i)
def State.segment (s : State) (u : Unseal) (key h : List Byte) (len i : Nat) : Option (List Byte) :=
  openSegment key h i (s.rdRange u.part (u.env + 256 + 0x10_0010 * i) (segLen len i + 16))

/-- The segments in turn: decrypted and written; a failure names its segment (R363). -/
def State.unsealSegs (s : State) (u : Unseal) (key h : List Byte) (len : Nat) : Nat → Nat → Option Nat × State
  | 0, _ => (none, s)
  | k + 1, i =>
    match s.segment u key h len i with
    | none => (some i, s)
    | some bs => State.unsealSegs (s.put (u.dst + 0x10_0000 * i) (padTo (segLen len i) bs)) u key h len k (i + 1)

/-- Onyx's checks and actions in the order of R363: the code, the segment, and the state. -/
def State.unsealRun (s : State) (u : Unseal) : Nat × Nat × State :=
  let p := u.part
  let h := s.rdRange p u.env 256
  let segs := fieldAt h 4 4
  let len := fieldAt h 8 8
  let root := slice h 16 48
  let meas := slice h 64 48
  let depth := fieldAt (s.rdRange p u.grant 6) 5 1
  let g := s.rdRange p u.grant (1239 + 48 * depth)
  let ranges := s.inHbm p u.env 256 && s.inHbm p u.grant 6 && s.inHbm p u.env (256 + len + 16 * segs) &&
    s.inHbm p u.grant (1239 + 48 * depth) && s.inHbm p u.dst u.len
  let form := fieldAt h 0 1 == 1 && decide (fieldAt h 1 1 < 2) && fieldAt h 2 2 == 0 && (slice h 172 84).all (fun x => x == 0) &&
    (len + 0xF_FFFF) / 0x10_0000 == segs
  if !(s.inService && (s.part p).st == .live && (fieldAt h 1 1 % 2 == 0 || (s.part p).secure) && ranges && form &&
      decide (len ≤ u.len)) then (7, 0, s)
  else if fieldAt g 0 1 ≠ 1 || s.proofRoot g ≠ some root then (3, 0, s)
  else if meas.any (fun x => x != 0) && meas != s.measurement then (4, 0, s)
  else match (s.setKey g root).bind (fun k => contentKey k h) with
    | none => (5, 0, s)
    | some k =>
      match s.unsealSegs u k h len segs 0 with
      | (none, s) => (2, 0, s)
      | (some i, s) => (6, i, s.put u.dst (List.replicate u.len 0))

/-- ONYX_OPERATION_DONE: Onyx completes its job-secret work, or the unseal, and reports it over EV11 (R51, R358, R363). An
unseal whose writes wait at the stacks is not done yet; where R330 drops them, they change nothing, and the unseal is abandoned, as a target in reset would have
it (the code DESIGN CHOICE, log entry 180). -/
def execOnyxOperationDone (unsealing : Bool) (s : State) : Host.Outcome State Fault Refusal :=
  if unsealing then
    match s.sec.onyx.unsealing with
    | none => .next s
    | some u =>
      let r := s.unsealRun u
      let writes := r.1 == 2 || r.1 == 6
      let a := s.unsealAcc u
      if writes && a.waits then .next (s.noteAcc u.part a)
      else if writes && a.drops then .next (((s.noteAcc u.part a).unsealEnd u.part 8 0).pulse 11 0)
      else .next ((r.2.2.unsealEnd u.part r.1 r.2.1).pulse 11 0)
  else
    match s.sec.onyx.job with
    | none => .next s
    | some j => .next ((s.jobDone j).pulse 11 0)

/-! ### Encryption of HBM (R356) -/

/-- What the DRAM of a stack holds for the sector at a live-view address: `mem` is what the base die decrypts, and the cells hold the XTS
ciphertext under the key of the partition that holds the sector, or under the module memory key. With the key destroyed nothing in the model
says what they hold. No command reads the cells; a probe of the package does (R367). -/
def State.cells (s : State) (x : Nat) : Option (List Byte) :=
  (tfind s.sec.onyx.hbmKey ((s.holder x).getD 16)).map (fun k => xtsSector k (x / 64) (s.rdN (x / 64 * 64) 64))

/-! ### Tamper (R367) -/

/-- The key store is cleared: every key and secret of R356 goes, with the private halves of R351, and an unseal is abandoned. -/
def State.clearKeys (s : State) : State :=
  let s := match s.sec.onyx.unsealing with
    | some u => s.unsealEnd u.part 8 0
    | none => s
  let s := ((List.range 32).foldl (fun s i => s.odSetN 0x6416 (i + 1) 0) s).dropKeys (fun _ => true)
  { s with sec := { onyx := { s.sec.onyx with job := none, eph := [], secret := [], hbmKey := [], identity := false },
                    spdm := s.sec.spdm.map (fun e => (e.1, { e.2 with sess := [] })), ide := [], nonce := s.sec.nonce } }

/-- TAMPER: a trigger clears the key store and sends the module to Red with fault 0x0E. Cause 0 supply, 1 clock, 2 temperature, 3
shield (R367, R369, R371). -/
def execTamper (cause : Fin 4) (s : State) : Host.Outcome State Fault Refusal :=
  let s := s.clearKeys.odInc 0x6440 0
  let s := s.odSetN 0x6441 0 (withBit (cause.val + 1) true (s.odNum 0x6441 0))
  .next (s.redFault 0x0E 0 0 none false (s.odNum 0x6441 0))

/-! ### SPDM (R353, R354) -/

def State.spdm (s : State) (fn : Nat) : Spdm := tget Spdm.blank s.sec.spdm fn
def State.setSpdm (s : State) (fn : Nat) (x : Spdm) : State :=
  { s with sec := { s.sec with spdm := tset Spdm.blank s.sec.spdm fn x } }

/-- A response on a function's DOE mailbox. -/
def State.doe (s : State) (fn : Nat) (r : Rsp) (b : List Byte) : State := s.emit (.doe fn r b)
def State.spdmError (s : State) (fn : Nat) : State := s.doe fn .error []

/-- A secured session of a function, completed by FINISH. -/
def State.secured (s : State) (fn session : Nat) : Bool := (s.spdm fn).sess.any (fun x => x.id == session && x.open_)

/-- A request that only a secured session carries. -/
def inSession (s : State) (fn session : Nat) (f : State) : Host.Outcome State Fault Refusal :=
  onFn s fn (if s.secured fn session then f else s.spdmError fn)

/-- GET_VERSION: versions 1.2 and 1.3 (R20, R353). -/
def execGetVersion (fn : Fin 17) (s : State) : Host.Outcome State Fault Refusal :=
  onFn s fn ((s.setSpdm fn { s.spdm fn with stage := 1 }).doe fn .version (leBytes 1 2 ++ leBytes 1 0x12 ++ leBytes 1 0x13))

/-- GET_CAPABILITIES at a version of the module's (R353). -/
def execGetCapabilities (fn : Fin 17) (ver : BitVec 8) (s : State) : Host.Outcome State Fault Refusal :=
  onFn s fn (if (s.spdm fn).stage ≥ 1 && (ver.toNat == 0x12 || ver.toNat == 0x13) then
    (s.setSpdm fn { s.spdm fn with stage := 2, ver := ver.toNat }).doe fn .capabilities (leBytes 2 4096)
  else s.spdmError fn)

/-- NEGOTIATE_ALGORITHMS: the algorithms of R353, where the requester offers each. -/
def execNegotiateAlgorithms (fn : Fin 17) (offered : Algorithms) (s : State) : Host.Outcome State Fault Refusal :=
  onFn s fn (if (s.spdm fn).stage ≥ 2 && offered.signature && offered.hash && offered.exchange && offered.aead && offered.measurement then
    (s.setSpdm fn { s.spdm fn with stage := 3 }).doe fn .algorithms []
  else s.spdmError fn)

/-- A request that needs negotiated algorithms. -/
def negotiated (s : State) (fn : Nat) (f : State) : Host.Outcome State Fault Refusal :=
  onFn s fn (if (s.spdm fn).stage = 3 then f else s.spdmError fn)

/-- The chain in slot 0: that of OD 0x6402, with the leaf (R353). -/
def State.slot0 (s : State) : List Byte := s.odBlob 0x6402 0 ++ Config.leafCert

/-- The leaf's signature, ECDSA P-384 with SHA-384, while the key store holds its key (R353, R367). -/
def State.leafSign (s : State) (m : List Byte) : Option (List Byte) :=
  if s.sec.onyx.identity then some (padTo 96 (Config.ecdsaSign Config.leafKey (sha384 m))) else none

/-- A response that ends in the leaf's signature over the requester's part and its own; an error where Onyx cannot sign. -/
def State.doeSigned (s : State) (fn : Nat) (r : Rsp) (asked b : List Byte) : State :=
  match s.leafSign (asked ++ b) with
  | some g => s.doe fn r (b ++ g)
  | none => s.spdmError fn

/-- GET_DIGESTS: the digest of the chain in slot 0 (R353). -/
def execGetDigests (fn : Fin 17) (s : State) : Host.Outcome State Fault Refusal :=
  negotiated s fn (s.doe fn .digests (sha384 s.slot0))

/-- GET_CERTIFICATE: a portion of the chain in slot 0, and what remains of it (R353). -/
def execGetCertificate (fn : Fin 17) (slot : BitVec 8) (off len : BitVec 16) (s : State) : Host.Outcome State Fault Refusal :=
  let c := s.slot0
  negotiated s fn (if slot.toNat ≠ 0 || off.toNat > c.length then s.spdmError fn
    else
      let b := slice c off.toNat (min len.toNat 4096)
      s.doe fn .certificate (leBytes 2 b.length ++ leBytes 2 (c.length - off.toNat - b.length) ++ b))

/-- CHALLENGE: proof of the identity of slot 0 over the requester's nonce and a fresh one (R353). -/
def execChallenge (fn : Fin 17) (slot : BitVec 8) (nonce : BitVec 256) (s : State) : Host.Outcome State Fault Refusal :=
  let f := s.freeVal 256
  let b := sha384 s.slot0 ++ leBytes 32 f.1
  negotiated s fn (if slot.toNat ≠ 0 then s.spdmError fn else f.2.doeSigned fn .challengeAuth (leBytes 32 nonce.toNat) b)

/-- GET_MEASUREMENTS: the number of blocks (index 0), one block, or all of them (0xFF), signed; block 7 on a VF only (R354). -/
def execGetMeasurements (fn : Fin 17) (index : BitVec 8) (nonce : BitVec 256) (s : State) : Host.Outcome State Fault Refusal :=
  let n := if fn.val = 0 then 6 else 7
  let blk := fun (k : Nat) => leBytes 1 k ++ (if k = 7 then s.block7 (fn.val - 1) else s.block k)
  let i := index.toNat
  let body := if i = 0 then some (leBytes 1 n)
    else if i ≤ n then some (blk i)
    else if i = 0xFF then some ((List.range n).flatMap (fun k => blk (k + 1)))
    else none
  negotiated s fn (match body with
    | none => s.spdmError fn
    | some b => s.doeSigned fn .measurements (leBytes 32 nonce.toNat) b)

/-- KEY_EXCHANGE: a secured session starts, at most 4 of a function; Onyx draws the ECDHE share, whose 96 bytes the response carries under
the leaf's signature (R353, R356). The requester's share is not an operand, and the private half stands for the session's keys. -/
def execKeyExchange (fn : Fin 17) (slot : BitVec 8) (half : BitVec 16) (s : State) : Host.Outcome State Fault Refusal :=
  let x := s.spdm fn
  negotiated s fn (if slot.toNat ≠ 0 || x.sess.length ≥ 4 || !s.sec.onyx.identity then s.spdmError fn
    else
      let r := ((List.range 4).find? (fun k => !x.sess.any (fun y => y.id / 2 ^ 16 == k))).getD 0
      let id := r * 2 ^ 16 + half.toNat
      let f := s.freeVal 384
      (f.2.setSpdm fn { x with sess := x.sess ++ [⟨id, false, f.1⟩] }).doeSigned fn .keyExchangeRsp (leBytes 2 half.toNat)
        (leBytes 2 r ++ padTo 96 ((Config.p384Public f.1).drop 1)))

/-- FINISH: the session is established, or goes when its check fails (R353). -/
def execFinish (fn : Fin 17) (session : BitVec 32) (verified : Bool) (s : State) : Host.Outcome State Fault Refusal :=
  let x := s.spdm fn
  onFn s fn (if !x.sess.any (fun y => y.id == session.toNat && !y.open_) then s.spdmError fn
    else if verified then
      (s.setSpdm fn { x with sess := updFirst (fun y => y.id == session.toNat) (fun y => { y with open_ := true }) x.sess }).doe
        fn .finishRsp []
    else (s.setSpdm fn { x with sess := x.sess.filter (fun y => y.id != session.toNat) }).spdmError fn)

/-- HEARTBEAT of a session (R353). -/
def execHeartbeat (fn : Fin 17) (session : BitVec 32) (s : State) : Host.Outcome State Fault Refusal :=
  inSession s fn session.toNat (s.doe fn .heartbeatAck [])

/-- KEY_UPDATE: the session's keys are replaced (R353). -/
def execKeyUpdate (fn : Fin 17) (session : BitVec 32) (s : State) : Host.Outcome State Fault Refusal :=
  let x := s.spdm fn
  let f := s.freeVal 256
  inSession s fn session.toNat
    ((f.2.setSpdm fn { x with sess := updFirst (fun y => y.id == session.toNat) (fun y => { y with key := f.1 }) x.sess }).doe
      fn .keyUpdateAck [])

/-- END_SESSION: the session and its keys go (R356). -/
def execEndSession (fn : Fin 17) (session : BitVec 32) (s : State) : Host.Outcome State Fault Refusal :=
  let x := s.spdm fn
  inSession s fn session.toNat
    ((s.setSpdm fn { x with sess := x.sess.filter (fun y => y.id != session.toNat) }).doe fn .endSessionAck [])

/-! ### IDE (R356, R357) -/

def State.ide (s : State) (k : Nat) : Ide := tget Ide.blank s.sec.ide k
def State.setIde (s : State) (k : Nat) (x : Ide) : State := { s with sec := { s.sec with ide := tset Ide.blank s.sec.ide k x } }
/-- A key's number in its stream: direction times 3 plus sub-stream. -/
def ideSub (dir : Bool) (sub : Nat) : Nat := 3 * b2n dir + sub
/-- The stream is in the secure state: all its keys are active. Stream k belongs to function k (log entry 29). -/
def State.ideSecure (s : State) (k : Nat) : Bool := (List.range 6).all (fun i => tget false (s.ide k).go i)

/-- IDE_KEY_GET in a secured session on PF0: the generated key of a stream, direction and sub-stream (R357). -/
def execIdeKeyGet (session : BitVec 32) (stream : Fin 17) (dir : Bool) (subStream : Fin 3) (s : State) :
    Host.Outcome State Fault Refusal :=
  let x := s.ide stream
  let i := ideSub dir subStream
  inSession s 0 session.toNat (match tfind x.key i with
    | some k => s.doe 0 .vendorDefined (leBytes 32 k)
    | none =>
      let f := s.freeVal 256
      (f.2.setIde stream { x with key := tput x.key i f.1 }).doe 0 .vendorDefined (leBytes 32 f.1))

/-- KEY_PROG: a key that differs from the generated one is refused with an error status and the stream stays unkeyed (R357). -/
def execKeyProg (session : BitVec 32) (stream : Fin 17) (dir : Bool) (subStream : Fin 3) (key : BitVec 256) (s : State) :
    Host.Outcome State Fault Refusal :=
  let x := s.ide stream
  let i := ideSub dir subStream
  inSession s 0 session.toNat (if tfind x.key i = some key.toNat then
      (s.setIde stream { x with prog := tset false x.prog i true }).doe 0 .kpAck (leBytes 1 0)
    else s.doe 0 .kpAck (leBytes 1 1))

/-- K_SET_GO: a programmed key becomes active (R356). -/
def execKSetGo (session : BitVec 32) (stream : Fin 17) (dir : Bool) (subStream : Fin 3) (s : State) :
    Host.Outcome State Fault Refusal :=
  let x := s.ide stream
  let i := ideSub dir subStream
  inSession s 0 session.toNat (if tget false x.prog i then
      (s.setIde stream { x with go := tset false x.go i true }).doe 0 .kGoStopAck []
    else s.spdmError 0)

/-- K_SET_STOP: the key is destroyed (R356). -/
def execKSetStop (session : BitVec 32) (stream : Fin 17) (dir : Bool) (subStream : Fin 3) (s : State) :
    Host.Outcome State Fault Refusal :=
  let x := s.ide stream
  let i := ideSub dir subStream
  inSession s 0 session.toNat
    ((s.setIde stream ⟨tdel x.key i, tdel x.prog i, tdel x.go i⟩).doe 0 .kGoStopAck [])

/-! ### TDISP (R355) -/

/-- SET_POLICY in a secured session on the serving VF while its TDI is CONFIG_LOCKED or RUN: the owner's opt-in, bit 0 (R368). -/
def execSetPolicy (fn : Fin 17) (session : BitVec 32) (policy : BitVec 32) (s : State) : Host.Outcome State Fault Refusal :=
  let t := s.odNum 0x6031 fn
  inSession s fn session.toNat (if fn.val ≥ 1 && s.serving (fn.val - 1) = fn.val && (t = 1 || t = 2) then
      (s.odSetN 0x6030 fn (policy.toNat % 2)).doe fn .vendorDefined []
    else s.spdmError fn)

/-- A TDISP request to the VF of a partition that is not secure or does not exist is an INVALID_REQUEST. -/
def tdisp (s : State) (p session : Nat) (f : State) : Host.Outcome State Fault Refusal :=
  onFn s (p + 1) (if (s.part p).st = .absent || !(s.part p).secure then s.doe (p + 1) .tdispError (leBytes 1 1)
    else if s.secured (p + 1) session then f else s.doe (p + 1) .tdispError (leBytes 1 1))

/-- The error of a request that the TDI's state does not take. -/
def State.tdiState (s : State) (p : Nat) : State := s.doe (p + 1) .tdispError (leBytes 1 4)

/-- LOCK_INTERFACE_REQUEST: CONFIG_LOCKED, with a start nonce, where the partition is Live and the VF's IDE stream secure (R355). -/
def execLockInterfaceRequest (part : Fin 16) (session : BitVec 32) (s : State) : Host.Outcome State Fault Refusal :=
  let p := part.val
  tdisp s p session.toNat (if s.odNum 0x6031 (p + 1) = 0 && (s.part p).st = .live && s.ideSecure (p + 1) then
      let f := s.freeVal 256
      (({ f.2 with sec := { f.2.sec with nonce := tput f.2.sec.nonce p f.1 } }).odSetN 0x6031 (p + 1) 1).doe (p + 1) .lockResponse
        (leBytes 32 f.1)
    else s.tdiState p)

/-- START_INTERFACE_REQUEST: RUN where the start nonce matches (R355). -/
def execStartInterfaceRequest (part : Fin 16) (session : BitVec 32) (nonce : BitVec 256) (s : State) :
    Host.Outcome State Fault Refusal :=
  let p := part.val
  tdisp s p session.toNat (if s.odNum 0x6031 (p + 1) = 1 && tfind s.sec.nonce p = some nonce.toNat then
      (({ s with sec := { s.sec with nonce := tdel s.sec.nonce p } }).odSetN 0x6031 (p + 1) 2).doe (p + 1) .startResponse []
    else s.tdiState p)

/-- STOP_INTERFACE_REQUEST: CONFIG_UNLOCKED, and the partition is torn down and created again; the response follows when it is
Live. One that is Creating holds the teardown, as for command 2 (R344, R355). -/
def execStopInterfaceRequest (part : Fin 16) (session : BitVec 32) (s : State) : Host.Outcome State Fault Refusal :=
  let p := part.val
  tdisp s p session.toNat (if s.odNum 0x6031 (p + 1) = 0 then s.tdiState p
    else
      let s := (s.setPart p { s.part p with recreate := true, stopWaits := true }).odSetN 0x6031 (p + 1) 0
      let s := { s with sec := { s.sec with nonce := tdel s.sec.nonce p } }
      match (s.part p).st with
      | .live => s.teardown p
      | .creating => s.setPart p { s.part p with held := true }
      | _ => s)

/-- GET_DEVICE_INTERFACE_REPORT: the ranges of the VF's BARs, each a base and a size, and measurement block 7 (R208, R355). -/
def execGetDeviceInterfaceReport (part : Fin 16) (session : BitVec 32) (s : State) : Host.Outcome State Fault Refusal :=
  let p := part.val
  let range := fun (bar size : Nat) => leBytes 8 (Config.barBase (p + 1) bar) ++ leBytes 8 size
  tdisp s p session.toNat (s.doe (p + 1) .interfaceReport
    (range 0 0x80_0000 ++ range 2 0x10_0000_0000 ++ range 4 0x10_0000_0000 ++ s.block7 p))

/-- A TDI enters ERROR: the VF's queues are Stopped (R207, R355). -/
def State.tdiError (s : State) (p : Nat) : State :=
  if s.odNum 0x6031 (p + 1) = 1 || s.odNum 0x6031 (p + 1) = 2 then
    (s.odSetN 0x6031 (p + 1) 3).stopQueues (fun q => qPart q == p)
  else s

/-- IDE_INTEGRITY_FAILURE on a function's stream: the stream leaves the secure state and the TDI is in ERROR (R355). -/
def execIdeIntegrityFailure (fn : Fin 17) (s : State) : Host.Outcome State Fault Refusal :=
  let s := s.setIde fn { s.ide fn with go := [] }
  if fn.val = 0 then .next s else .next (s.tdiError (fn.val - 1))

end Sys2Proof.Machine
end

