-- ==== Sys2Proof/Machine/Firmware.lean ====
section
/-! DEFINITION. Firmware images, the update states, boot of the Slate controllers, anti-rollback fuses and licences (R523 to
R540). -/
namespace Sys2Proof.Machine

/-! ### The two controllers -/

def Fw.slate (f : Fw) (b : Bool) : Slate := if b then f.b else f.a
def Fw.setSlate (f : Fw) (b : Bool) (x : Slate) : Fw := if b then { f with b := x } else { f with a := x }
def State.fwSet (s : State) (f : Fw → Fw) : State := { s with fw := f s.fw }
def State.slate (s : State) (b : Bool) : Slate := s.fw.slate b
def State.setSlate (s : State) (b : Bool) (f : Slate → Slate) : State := s.fwSet (fun x => x.setSlate b (f (x.slate b)))

/-- The active controller runs firmware; a standby runs. -/
def State.activeRuns (s : State) : Bool := (s.slate s.fw.bActive).st == .runs
def State.standbyRuns (s : State) : Bool := s.activeRuns && (s.slate (!s.fw.bActive)).st == .runs

def imgVersion (i : Option Img) : Nat := i.elim 0 (·.version)

/-- The objects that show the firmware side: versions, active controller, update state (R523, R528), and AC.SLATE, which stands
while a controller runs its ROM loader, is silent, or restarts outside an update: no standby remains then (R371, R406, R532). -/
def State.fwShow (s : State) : State :=
  let act := s.slate s.fw.bActive
  let s := s.odSetN 0xB000 0 (imgVersion act.img)
  let s := s.odSetN 0xB001 0 (if s.standbyRuns then imgVersion (s.slate (!s.fw.bActive)).img else 0)
  let s := (s.odSetN 0xB006 0 (b2n s.fw.bActive)).odSetN 0xB005 0 s.fw.state
  let updates := s.fw.state = 3 || s.fw.state = 7 || s.fw.state = 8 || s.fw.state = 9
  let down := fun b => (s.slate b).st == .rom || (s.slate b).st == .silent || ((s.slate b).st == .restarting && !updates)
  s.amber 10 (down false || down true)

/-- A transition of the update state, with its event, whose detail no chapter gives (R492, R528). -/
def State.fwGo (s : State) (st : Nat) : State :=
  let old := s.fw.state
  let s := (s.fwSet (fun f => { f with state := st })).fwShow
  if old = st then s else s.raise 0x000D 0xB005 0 0

/-- Neither controller runs firmware: controller A's ROM loader takes the image itself (R534). -/
def State.noFirmware (s : State) : Bool := !((s.slate false).st == .runs) && !((s.slate true).st == .runs)

/-- Controller A's ROM loader serves the management door, since neither controller can boot (R532). -/
def State.romServes (s : State) : Bool := s.noFirmware && (s.slate false).st == .rom
/-- The highest Stanan version served: the ROM loader serves version 1 (R498, R532). -/
def State.topVersion (s : State) : Nat := if s.romServes then 1 else 3
/-- The objects that the ROM loader serves (R532). -/
def romObject (idx : Nat) : Bool := (decide (0x1000 ≤ idx) && decide (idx ≤ 0x1004)) || (decide (0xB000 ≤ idx) && decide (idx ≤ 0xB006))

/-! ### Images (R524, R525) -/

/-- The fields of an image's header. -/
def imgOf (b : List Byte) : Img :=
  ⟨fieldAt b 5 1, fieldAt b 6 2, fieldAt b 8 4, fieldAt b 12 2, fieldAt b 14 2, b⟩

/-- Component entry `k`: type, offset, length, digest. -/
def cmpType (b : List Byte) (k : Nat) : Nat := fieldAt b (64 + 64 * k) 1
def cmpOff (b : List Byte) (k : Nat) : Nat := fieldAt b (68 + 64 * k) 4
def cmpLen (b : List Byte) (k : Nat) : Nat := fieldAt b (72 + 64 * k) 4
def cmpHash (b : List Byte) (k : Nat) : List Byte := slice b (80 + 64 * k) 48

/-- Two components do not overlap. -/
def cmpApart (b : List Byte) (i j : Nat) : Bool :=
  decide (cmpOff b i + cmpLen b i ≤ cmpOff b j) || decide (cmpOff b j + cmpLen b j ≤ cmpOff b i)

/-- Magic, format, lengths, offsets and component types (R524, R525). -/
def imgLayout (b : List Byte) : Bool :=
  let sig := fieldAt b 20 4
  fieldAt b 0 4 == 0x4D49_5848 && fieldAt b 4 1 == 1 && decide (fieldAt b 5 1 ≤ 64) &&
  decide (fieldAt b 12 2 ≤ fieldAt b 14 2) && fieldAt b 16 4 == b.length && decide (4096 ≤ b.length) &&
  decide (b.length ≤ 33554432) && b.length == sig + 2 + fieldAt b sig 2 + 3405 &&
  (List.range 3).all (fun k =>
    decide (1 ≤ cmpType b k) && decide (cmpType b k ≤ 3) && cmpOff b k % 256 == 0 && decide (256 ≤ cmpOff b k) &&
    decide (cmpOff b k + cmpLen b k ≤ sig)) &&
  (cmpType b 0 != cmpType b 1 && cmpType b 0 != cmpType b 2 && cmpType b 1 != cmpType b 2) &&
  cmpApart b 0 1 && cmpApart b 0 2 && cmpApart b 1 2

/-- The chain, the signature and the three digests (R525). -/
def imgSigned (b : List Byte) : Bool :=
  let sig := fieldAt b 20 4
  let c := fieldAt b sig 2
  hybridVerifies 1 (slice b (sig + 2) c) (b.take sig) (b.drop (sig + 2 + c)) && (List.range 3).all (fun k => sha384 (slice b (cmpOff b k) (cmpLen b k)) == cmpHash b k)

/-- The settings formats (R535): the new firmware reads the format in force, or the running firmware writes the older one. -/
def State.settingsFit (s : State) (i : Img) : Bool :=
  let c := s.odNum 0xB010 0
  (decide (i.setMin ≤ c) && decide (c ≤ i.setFmt)) ||
  (decide (c > i.setFmt) && s.activeRuns && (s.fw.active.img.elim false (fun r => decide (r.setMin ≤ i.setFmt))))

/-- Where Verifying goes: an end state 16 to 20 of the first check that fails, or Loading (R529). -/
def State.verifyEnd (s : State) (b : List Byte) : Nat :=
  let i := imgOf b
  if !imgLayout b then 16
  else if i.hwMin > s.odNum 0x1003 0 then 17
  else if !imgSigned b then 18
  else if i.svn < s.odNum 0xB002 0 then 19
  else if !s.settingsFit i then 20
  else 3

/-! ### Parts (R527) -/

/-- A standby, or a controller in its ROM loader, is there to take an image (R527, R534). -/
def State.canTake (s : State) : Bool :=
  let other := (s.slate (!s.fw.bActive)).st
  (s.activeRuns && (other == .runs || other == .rom)) || (s.noFirmware && (s.slate false).st == .rom)

/-- The status of a part: R493's code (R527). -/
def State.partStatus (s : State) (b : List Byte) : Nat :=
  let off := fieldAt b 0 4
  let total := fieldAt b 4 4
  let st := s.fw.state
  if b.length < 8 || off % 32768 ≠ 0 || total < 4096 || total > 33554432 || off ≥ total ||
     b.length ≠ 8 + min 32768 (total - off) || (st = 1 && total ≠ s.fw.total) then 3
  else if !s.canTake || !(st = 0 || st = 1 || st ≥ 16) then 5
  else 0

/-- An accepted part: the first one discards what was there; the last missing one starts Verifying (R529). -/
def State.partTake (s : State) (b : List Byte) : State :=
  let off := fieldAt b 0 4
  let total := fieldAt b 4 4
  let s := if s.fw.state = 1 then s
    else (s.fwSet (fun f => { f with parts := [], total := total, image := none, newB := !f.bActive })).fwGo 1
  let s := s.fwSet (fun f => { f with parts := tput f.parts (off / 32768) (b.drop 8) })
  if s.fw.parts.length = (total + 32767) / 32768 then s.fwGo 2 else s

/-- The image that the parts make, in order. -/
def Fw.received (f : Fw) : List Byte := f.parts.flatMap (·.2)

/-! ### Settings formats (R535, R536) -/

/-- The persisted objects that a format need not hold: every format holds the licence, the defect maps and the safety counters (R507, R536). -/
def migrates (idx : Nat) : Bool := [0x1102, 0x3430, 0x4016, 0x6440].contains idx
/-- The settings that a format lacks or refuses, by element. -/
def State.unfit (s : State) (f : Nat) : Tab OdVal :=
  s.od.app.filter (fun e => migrates (e.1 / 256) &&
    !(Config.formatHolds f (e.1 / 256) &&
      Config.formatTakes f (e.1 / 256) (match e.2 with | .num n => n | .blob b => leNat b)))
/-- The conversion begins: each value that the new format's range refuses is named by an event (R536). -/
def State.migrationEvents (s : State) (f : Nat) : State :=
  (s.unfit f).foldl (fun s e =>
    if Config.formatHolds f (e.1 / 256) then s.raise 0x000D (e.1 / 256) (e.1 % 256) 0 else s) s
/-- The settings come into force in the new format: what it lacks or refuses takes its default (R536). -/
def State.toFormat (s : State) (f : Nat) : State :=
  let gone := s.unfit f
  (gone.foldl (fun s e => s.odSet (e.1 / 256) (e.1 % 256) (odDefault (e.1 / 256) (e.1 % 256))) s).fwSet (fun x => { x with other := gone })
/-- They come back into force in the old format, which holds everything written since as well (R536). -/
def State.fromFormat (s : State) : State :=
  (s.fw.other.foldl (fun s e =>
    if s.odGet (e.1 / 256) (e.1 % 256) = odDefault (e.1 / 256) (e.1 % 256) then s.odSet (e.1 / 256) (e.1 % 256) e.2 else s) s).fwSet
    (fun x => { x with other := [] })
/-- The format in force changes to the one held beside it, which is then the other (R536). -/
def State.formatSwap (s : State) : State :=
  match s.fw.fmtNew with
  | none => s
  | some n =>
    let c := s.odNum 0xB010 0
    ((if s.fw.bActive == s.fw.newB then s.toFormat n else s.fromFormat).odSetN 0xB010 0 n).fwSet (fun f => { f with fmtNew := some c })

/-! ### Loading and restarts (R529, R534) -/

/-- A controller stores an image: current moves to last, and it restarts. One in its ROM loader has no slot that boots, so that it keeps none
to restore (R529, R532, R534). -/
def Slate.load (x : Slate) (i : Option Img) : Slate :=
  { x with st := .restarting, last := if x.st = .rom then none else x.cur, cur := i }
/-- A controller restores its last slot and restarts from it. -/
def Slate.restore (x : Slate) : Slate := { x with st := .restarting, cur := x.last }

/-- The active role passes to the other controller, or both restart: the events on their way to and from them are discarded (R53, R54). -/
def State.slateCross (s : State) : State := s.xingClear (fun ev _ => ev == 9 || ev == 10 || ev == 11)

/-- VERIFICATION_DONE: the checks end in an end state, or Loading begins on the new controller; with no firmware at all, on both
(R529, R534). -/
def execVerificationDone (s : State) : Host.Outcome State Fault Refusal :=
  if s.fw.state ≠ 2 then .next s
  else
    let b := s.fw.received
    let e := s.verifyEnd b
    let s := s.fwSet (fun f => { f with parts := [] })
    if e ≠ 3 then .next (s.fwGo e)
    else
      let i := imgOf b
      let both := s.noFirmware
      let s := s.fwSet (fun f => { f with image := some i, fmtNew := some i.setFmt })
      let s := s.setSlate s.fw.newB (fun x => x.load (some i))
      let s := if both then (s.setSlate (!s.fw.newB) (fun x => x.load (some i))).slateCross else s
      .next ((s.migrationEvents i.setFmt).fwGo 3)

/-- The other controller of an update; whether it runs firmware. -/
def State.loadsBoth (s : State) : Bool := !((s.slate (!s.fw.newB)).st == .runs)

/-- A restarted controller runs its current slot. -/
def Slate.boots (x : Slate) : Slate := match x.cur with
  | some i => { x with st := .runs, img := some i }
  | none => { x with st := .rom, img := none }

/-- What the end of an update does: the fuses have a value to advance to, and the other settings copy goes (R526, R536). -/
def State.fwFinish (s : State) : State :=
  (s.fwSet (fun f => { f with fmtNew := none, other := [], fuseTo := max f.fuseTo (f.image.elim 0 (·.svn)), image := none })).fwGo 0

/-- COMPLETING_DONE: the old controller runs the image too: Idle (R529). -/
def execCompletingDone (s : State) : Host.Outcome State Fault Refusal :=
  if s.fw.state ≠ 7 then .next s
  else .next ((s.setSlate (!s.fw.newB) Slate.boots).fwFinish)

/-- REVERTING_DONE: the new controller runs its last image, or its ROM loader, again: Idle (R529, R534). -/
def execRevertingDone (s : State) : Host.Outcome State Fault Refusal :=
  if s.fw.state ≠ 8 || s.fw.back then .next s
  else .next (((s.setSlate s.fw.newB Slate.boots).fwSet (fun f => { f with fmtNew := none, other := [], image := none })).fwGo 0)

/-- CANCELLING_DONE: the partial image is gone, and a new controller that was loaded runs its last image: Idle (R529). -/
def execCancellingDone (s : State) : Host.Outcome State Fault Refusal :=
  if s.fw.state ≠ 9 then .next s
  else
    let s := if (s.slate s.fw.newB).st == .restarting then s.setSlate s.fw.newB Slate.boots else s
    .next ((s.fwSet (fun f => { f with fmtNew := none, other := [], image := none })).fwGo 0)

/-- FUSE_STEP: one anti-rollback step is blown (R526). -/
def execFuseStep (s : State) : Host.Outcome State Fault Refusal :=
  if s.odNum 0xB002 0 < s.fw.fuseTo then .next (s.odInc 0xB002 0) else .next s

/-! ### Update commands (R530) -/

/-- The status of a value of OD 0xB004: R493's code. -/
def State.updateCheck (s : State) (v : Nat) : Nat :=
  let st := s.fw.state
  if (v = 1 && st = 4) || (v = 2 && st = 6) || (v = 3 && st = 6) || (v = 4 && (st = 1 || st = 4 || st ≥ 16)) then 0 else 3

/-- An accepted command: hand over, complete, revert, cancel (R529). -/
def State.updateCommand (s : State) (v : Nat) : State :=
  match v with
  | 1 => s.fwGo 5
  | 2 => (s.setSlate (!s.fw.newB) (fun x => x.load s.fw.image)).fwGo 7
  | 3 => (s.fwSet (fun f => { f with back := true })).fwGo 8
  | _ =>
    let s := if s.fw.state = 4 then s.setSlate s.fw.newB Slate.restore else s
    (s.fwSet (fun f => { f with parts := [] })).fwGo 9

/-! ### Handover (R531) -/

/-- The handover's switch: the standby is active, and the settings format in force is the one its firmware uses (R536). -/
def State.switchOver (s : State) : State :=
  (s.fwSet (fun f => { f with bActive := !f.bActive })).slateCross.formatSwap

/-- A handover ends: Trial, or, handing back, the new controller restores its last slot (R529). -/
def State.handedOver (s : State) : State :=
  if s.fw.state = 5 then s.switchOver.fwGo 6
  else if s.fw.state = 8 && s.fw.back then
    let s := (s.switchOver.fwSet (fun f => { f with back := false })).setSlate s.fw.newB Slate.restore
    s.fwShow
  else s

/-- Whether requests are held for a handover (R487, R531). -/
def State.handing (s : State) : Bool := s.fw.state == 5 || (s.fw.state == 8 && s.fw.back)

/-- The active controller is silent: fault 0x07, and the other one takes over. In Loading and Completing it abandons its load and
restarts; in Trial the silent one restarts (R371, R529). During a handover the takeover ends it (DESIGN CHOICE, log entry 35). -/
def State.slateSilent (s : State) : State :=
  let a := s.fw.bActive
  let st := s.fw.state
  let s := s.setSlate a (fun x => { x with st := if st = 6 then .restarting else .silent })
  let s := if st = 3 || st = 7 then s.setSlate (!a) (fun x => { x with st := .restarting }) else s
  let s := if st = 5 || st = 6 then s.switchOver else (s.fwSet (fun f => { f with bActive := !a })).slateCross
  let s := if st = 3 || st = 6 || st = 7 then s.fwGo 22
    else if st = 5 then s.fwGo 6
    else if st = 8 && s.fw.back then ((s.fwSet (fun f => { f with back := false }))).fwShow
    else s.fwShow
  s.faultRecord 0x07 7 0 0 none false 0

/-- Whether the silence of the active controller is found: its partner runs, or loads in Loading or Completing. -/
def State.silenceSeen (s : State) : Bool :=
  s.activeRuns && ((s.slate (!s.fw.bActive)).st == .runs || ((s.fw.state == 3 || s.fw.state == 7) && (s.slate (!s.fw.bActive)).st == .restarting))

/-! ### Boot (R532) -/

/-- Whether a slot's image boots: it passed R525's checks, and R526's and its hardware revision allow it. -/
def State.bootable (s : State) (i : Option Img) (sound : Bool) : Bool :=
  sound && i.elim false (fun i => decide (i.svn ≥ s.odNum 0xB002 0) && decide (i.hwMin ≤ s.odNum 0x1003 0))

/-- A restarting controller boots its current slot, its last slot, or its ROM loader. -/
def State.bootOne (s : State) (b : Bool) (curOk lastOk : Bool) : State :=
  let x := s.slate b
  if x.st != .restarting then s
  else if s.bootable x.cur curOk then s.setSlate b (fun x => { x with st := .runs, img := x.cur })
  else if s.bootable x.last lastOk then s.setSlate b (fun x => { x with st := .runs, img := x.last })
  else s.setSlate b (fun x => { x with st := .rom, img := none })

/-- What becomes, at power-up, of an update that a power loss cut (R532), and the controller that boots first. -/
def State.updateAfterLoss (s : State) : State :=
  let st := s.fw.state
  if st = 1 || st = 2 then (s.fwSet (fun f => { f with parts := [], image := none })).fwGo 0
  else if (3 ≤ st && st ≤ 6) || st = 8 || st = 9 then
    let n := s.fw.newB
    let undo := fun (s : State) (b : Bool) =>
      if s.fw.image.isSome && (s.slate b).cur == s.fw.image then s.setSlate b Slate.restore else s
    let inForce := s.fw.bActive == n
    let s := (undo (undo s n) (!n)).fwSet (fun f => { f with bActive := !n })
    let s := if inForce then s.formatSwap else s
    (s.fwSet (fun f => { f with back := false, image := none, fmtNew := none, other := [], parts := [] })).fwGo 23
  else if st = 7 then s.fwSet (fun f => { f with bActive := f.newB })
  else s.fwSet (fun f => { f with bActive := false })

/-! ### Licences (R537 to R540) -/

/-- The licence in effect and the pending one. -/
def State.licence (s : State) : List Byte := s.odBlob 0x6450 0
def State.licencePending (s : State) : Option (List Byte) := (s.odPending 0x6450 0).map OdVal.bytes

def licLayout (b : List Byte) : Bool :=
  decide (34 ≤ b.length) && b.length == 34 + fieldAt b 32 2 + 3405 && fieldAt b 0 1 == 1 && fieldAt b 1 3 == 0 &&
  (slice b 20 12).all (fun x => x == 0)
def licFeat (b : List Byte) : Nat := fieldAt b 12 4
def licSeq (b : List Byte) : Nat := fieldAt b 16 4

/-- One set of features holds another. -/
def featHolds (big small : Nat) : Bool := (big &&& small) == small

/-- The checks of R539, in order. -/
def State.licenceOk (s : State) (b : List Byte) : Bool :=
  let held := (if s.licence.isEmpty then [] else [s.licence]) ++ s.licencePending.toList
  licLayout b && fieldAt b 4 8 == s.serial && signedOk 2 32 b && (licFeat b == 0xF || licFeat b == 9) &&
  held.all (fun h => featHolds (licFeat b) (licFeat h)) &&
  (held.contains b || held.all (fun h => decide (licSeq h < licSeq b)))

/-- An accepted licence: pending, or in effect at once where none is; one already held changes nothing (R539, R540). -/
def State.licenceTake (s : State) (b : List Byte) : State :=
  if s.licence == b || s.licencePending == some b then s
  else
    let none_ := s.licence.isEmpty
    let s := s.odAccept 0x6450 0 (.blob b)
    if none_ then s.applyLicence else s.odSetN 0x6451 0 2

/-! ### Presence on the management pair (R474 to R476) -/


/-- The PLCA node ID that the settings give (R474). -/
def State.plcaPick (s : State) : Nat :=
  let v := s.odNum 0x1102 0
  let k := s.odNum 0x2004 0 % 32
  if 1 ≤ v && v ≤ 31 then v else if k ≠ 0 then k else 0xFF

/-- The PLCA settings take effect (R474, R475). -/
def State.plcaTake (s : State) : State :=
  let s := s.odApplyAll [(0x1102, 0), (0x1104, 0), (0x1105, 0)]
  { s with mgmt := { s.mgmt with plcaId := s.plcaPick, plcaTimer := s.odNum 0x1104 0, plcaBurst := s.odNum 0x1105 0 } }

/-- An ANNOUNCE, the safe point of OD 0x1112 (R476, R478, R498). -/
def State.announceTo (s : State) (dst : Nat) : State :=
  let s := s.odApply 0x1112 0
  s.sendTo .m dst (stMsg s.topVersion 0x41 0 0
    (leBytes 8 s.serial ++ leBytes 1 (s.odNum 0x2004 0) ++ leBytes 1 s.mgmt.plcaId ++ leBytes 1 1 ++ leBytes 1 s.topVersion ++
     leBytes 1 s.life.svc.code ++ leBytes 3 0 ++ leBytes 4 (s.odNum 0x4400 0)))

end Sys2Proof.Machine
end

