-- ==== Sys2Proof/Machine/Lifecycle.lean ====
section
/-! DEFINITION. Insertion, power-up and bring-up, the exit from Grey, `MOD_RESET#`, removal and power loss (R396 to R414, R447 to
R457). -/
namespace Sys2Proof.Machine

def State.lifeSet (s : State) (f : Life → Life) : State := { s with life := f s.life }

/-! ### Bring-up (R400, R402) -/

/-- Sets a bit of Grey progress; the power stage and the active controller show as they are (R402). -/
def State.progress (s : State) (k : Nat) : State :=
  let v := withBit k true (s.odNum 0x2003 0)
  s.odSetN 0x2003 0 (withBit 1 (s.activeRuns || bit 1 v) (withBit 0 (s.life.powerGood || bit 0 v) v))

/-- Stores the latched cause of a safety power-off and counts it (R442, R443). -/
def State.storeCause (s : State) : State :=
  ((s.odSetN 0x3450 0 s.life.safety).odInc 0x3451 0).lifeSet (fun l => { l with safetyStored := true })

/-- Step 7 begins: every core of an available cluster is under its bring-up test, from bank 0, and every cluster's pool (R168, R171,
R400). -/
def State.bringupMarch (s : State) : State :=
  let s := s.odApply 0x8800 0
  let alg := s.odNum 0x8800 0
  let s := (List.range 24).foldl (fun s c =>
    let s := s.odSetN 0x8805 (c + 1) (poolResult 1 0 alg 0)
    (coresOf c).foldl (fun s n =>
      (s.setCore n { s.core n with march := some ⟨0, alg, true, true, none⟩ }).marchResult n 1 0 alg 1 0) s) s
  (s.lifeSet (fun l => { l with marchAt := s.now })).marchProgress

/-- Step 4 and the start of steps 5 to 7, once steps 2 and 3 are done and nothing holds them: defect maps, the stored cause,
the core clock, the links that train, the March tests (R397, R400, R408, R455). -/
def State.stepFour (s : State) : State :=
  let p := s.odNum 0x2003 0
  if s.life.begun || !(bit 1 p && bit 2 p) || s.life.modReset || s.life.removal != 0 || s.life.svc != .grey then s
  else
    let s := s.lifeSet (fun l => { l with begun := true })
    let s := (List.range 24).foldl (fun s c => s.applyMarks c) s
    let s := if s.life.safety != 0 && !s.life.safetyStored then s.storeCause else s
    let f := s.odNum 0x3020 0
    let s := { s with clk := { s.clk with coreMHz := f }, power := { s.power with ceil := f } }
    let s := s.bandStart
    let s := (List.range 12).foldl (fun s n =>
      if s.odBool 0x4001 (n + 1) && s.linkLicensed n && (s.link n).st == .disabled then s.linkDetect n else s) s
    s.linksProgress.bringupMarch

/-- PWR_GOOD: the rails are up (R400 step 1). -/
def execPwrGood (s : State) : Host.Outcome State Fault Refusal :=
  if s.life.mainSwitch && !s.life.powerGood then .next ((s.lifeSet (fun l => { l with powerGood := true })).progress 0) else .next s

/-- SLATE_BOOT_DONE: restarting controllers boot; at power-up the update that a power loss cut is settled and the active
controller is chosen, A unless it fails, and announces itself (R400 step 2, R476, R532). The operands say which slots pass the checks of R525. -/
def execSlateBootDone (aCur aLast bCur bLast : Bool) (s : State) : Host.Outcome State Fault Refusal :=
  let powerUp := !bit 1 (s.odNum 0x2003 0) && !s.activeRuns && (s.slate false).st == .restarting && (s.slate true).st == .restarting
  if !s.life.powerGood then .next s
  else if powerUp then
    let s := s.updateAfterLoss
    let redo := s.fw.state = 7
    let s := if redo && !s.fw.newB then s.bootOne false aCur aLast
      else if redo then s.bootOne true bCur bLast
      else (s.bootOne false aCur aLast).bootOne true bCur bLast
    let s := if s.activeRuns then s
      else if (s.slate (!s.fw.bActive)).st == .runs then s.fwSet (fun f => { f with bActive := !f.bActive })
      else s.fwSet (fun f => { f with bActive := false })
    let s := (s.fwSet Fw.componentsTaken).fwShow
    .next (if s.activeRuns then ((s.progress 1).plcaTake.announceTo broadcast).stepFour else s)
  else if s.fw.state = 3 || s.fw.state = 7 || s.fw.state = 8 || s.fw.state = 9 then .next s
  else .next (((s.bootOne false aCur aLast).bootOne true bCur bLast).fwShow)

/-- LOADING_DONE: the new controller runs the image: Loaded; with no firmware before, both run it, A active, and the update is
Idle. A failure restores the last slot: state 21 (R529, R534). -/
def execLoadingDone (ok : Bool) (s : State) : Host.Outcome State Fault Refusal :=
  if s.fw.state ≠ 3 then .next s
  else
    let n := s.fw.newB
    let both := s.loadsBoth
    if ok then
      let s := s.setSlate n Slate.boots
      if both then
        let s := (s.setSlate (!n) Slate.boots).fwSet (fun f => { f with bActive := false })
        let s := match s.fw.fmtNew with
          | some k => (s.toFormat k).odSetN 0xB010 0 k
          | none => s
        .next (((s.fwFinish.progress 1).plcaTake.announceTo broadcast).stepFour)
      else .next (s.fwGo 4)
    else
      let s := s.setSlate n Slate.restore
      let s := if both then s.setSlate (!n) Slate.restore else s
      .next ((s.fwSet (fun f => { f with fmtNew := none, other := [], image := none })).fwGo 21)

/-- ONYX_REGENERATION_DONE: Onyx regenerates its keys, and the module memory key is drawn; a mismatch is fault 0x0E (R351, R356,
R400 step 3). -/
def execOnyxRegenerationDone (ok : Bool) (s : State) : Host.Outcome State Fault Refusal :=
  if !s.life.powerGood || s.life.modReset || bit 2 (s.odNum 0x2003 0) || s.life.svc != .grey || s.life.removal != 0 then .next s
  else if ok then
    let s := ((s.odSet 0x6400 0 (.blob identityKeys)).odSet 0x6401 0 (.blob agreementKeys)).odSet 0x6402 0
      (.blob Config.certChain)
    let f := s.freeVal 512
    let s := f.2.onyx (fun o => { o with identity := true, hbmKey := tput o.hbmKey 16 f.1 })
    .next ((s.progress 2).stepFour)
  else
    let s := s.odSetN 0x6441 0 (withBit 0 true (s.odNum 0x6441 0))
    .next (s.redFault 0x0E 0 0 none false (s.odNum 0x6441 0))

/-- Bring-up of the memory goes on: step 4 has run, and neither Red nor a removal has ended it. -/
def State.bringingUp (s : State) : Bool := s.life.begun && s.life.svc == .grey && s.life.removal == 0

/-- MEMORY_TRAINING_DONE: a stack's interface ends training; more failing pseudo-channels than a spare pair replaces mean Red, and
fewer mark their channels failing (R400 step 6, R401; the latter DEDUCED, log entry 36). -/
def execMemoryTrainingDone (stack : Fin 16) (failing : BitVec 64) (s : State) : Host.Outcome State Fault Refusal :=
  let k := stack.val
  if !s.bringingUp || bit k s.life.memTrained then .next s
  else if popCount 64 failing.toNat > 2 then .next (s.redFault 0x05 3 k none true 0)
  else
    let s := s.lifeSet (fun l => { l with memTrained := withBit k true l.memTrained })
    let s := ((bitList 64 failing.toNat).map (· / 2)).eraseDups.foldl (fun s c => s.pairFailing k c) s
    .next (if s.life.memTrained = 0xFFFF then s.progress 3 else s)

/-- HBM_TEST_DONE: a stack's test ends, with its pattern in place; the rows it found are marked for remap at step 8. A row's number is its bank of the stack
(pseudo-channel times 32 plus bank) times 24,576 plus the row (R401). -/
def execHbmTestDone (stack : Fin 16) (rows : List (Fin 50331648)) (s : State) : Host.Outcome State Fault Refusal :=
  let k := stack.val
  if !s.bringingUp || !bit k s.life.memTrained || bit k s.life.memTested then .next s
  else
    let s := rows.foldl (fun s r => s.addRemap (k * 50331648 + r.val)) s
    let s := s.lifeSet (fun l => { l with memTested := withBit k true l.memTested })
    let s : State := { s with memory := { s.memory with pattern := s.memory.pattern ++ [(k * stackSize, (k + 1) * stackSize)] } }
    .next (if s.life.memTested = 0xFFFF then s.progress 4 else s)

/-- GREY_EXIT: bring-up is complete: White, Green or Amber, with `ALERT#` (R400 step 9, R405). -/
def execGreyExit (s : State) : Host.Outcome State Fault Refusal :=
  if s.life.svc != .grey || s.life.removal != 0 || s.odNum 0x2003 0 % 1024 ≠ 1023 then .next s
  else
    let s := s.linkAmber
    let v : Svc := if !s.provisioned then .white else if s.odNum 0x2002 0 == 0 then .green else .amber
    .next (s.enter v true)

/-! ### Insertion (R396 to R398, R448) -/

/-- The input lies in the operating range (R450). -/
def inputGood (mv : Nat) : Bool := decide (50000 ≤ mv) && decide (mv ≤ 64000)

/-- What a loss of power leaves: the persisted objects, those set at manufacture or held by the licence, the fuses and the
housekeeping logic (R400, R506, R507, R540). -/
def odOutlasts (idx : Nat) : Bool :=
  odPersisted idx || [0x1000, 0x1001, 0x1002, 0x1003, 0x1010, 0x2004, 0x2005, 0x6000, 0x6451, 0x6452, 0xB002, 0xB010].contains idx

/-- What persisted storage and the fuses hold (R507, R526, R532). -/
def odStored (idx : Nat) : Bool := odOutlasts idx && idx != 0x2004 && idx != 0x2005

/-- What persisted storage holds now. -/
def State.storage (s : State) : Stored :=
  ⟨⟨s.od.app.filter (fun e => odStored (e.1 / 256)), s.od.acc.filter (fun e => odPersisted (e.1 / 256))⟩, s.fw⟩

/-- The die rails are gone: every volatile thing is lost; the stores as they stood when the hold-up began, the fuses, the update's state and
the pins stay, and so do the safety monitor's counts (R43, R405, R412, R443, R452, R507, R523, R532). -/
def State.powerLost (s : State) : State :=
  let old := s
  let st := s.stored.getD s.storage
  let s : State := { State.reset with
    pending := old.pending, hostMem := old.hostMem, free := old.free, out := old.out,
    od := ⟨st.od.app.foldl (fun t e => tput t e.1 e.2)
      (old.od.app.filter (fun e => odOutlasts (e.1 / 256) && !odStored (e.1 / 256))), st.od.acc⟩,
    clk := { Clk.reset with uptime := old.clk.uptime },
    faults := { Faults.reset with resets := [] },
    thermal := { Thermal.reset with wet := old.thermal.wet, tripped := old.thermal.tripped },
    fw := { st.fw with a := { st.fw.a with st := .restarting, img := none }, b := { st.fw.b with st := .restarting, img := none } },
    life := { old.life with svc := .grey, removal := 0, removalTimedOut := false, released := none, powerGood := false,
                            holdup := false, begun := false, linksDone := 0, memTrained := 0, memTested := 0 } }
  (s.alertSet 1 false).odSetN 0x2001 0 (if s.licence.isEmpty then 3 else 2)

/-- The housekeeping logic loses 60 V: the safety monitor with its latch, and OD 0x2005, go, and `ALERT#` is released (R443, R457). -/
def State.housekeepingOff (s : State) : State :=
  let s := { s with thermal := { s.thermal with wet := 0, tripped := [] } }
  ((s.lifeSet (fun l => { l with safety := 0, safetyStored := false, offRuns := false })).odSetN 0x2005 0 0).alertLine

/-- The main switch opens: the cores and clusters are gated, the rails are held from the bulk, and no write of persisted storage begins any
more; one that a safety power-off was about to open stays open under R442 (R397, R442, R452). -/
def State.switchOpens (s : State) : State :=
  if s.life.mainSwitch then
    ({ s with power := { s.power with gate := 16 }, stored := if s.life.powerGood then some s.storage else none }).lifeSet (fun l =>
      { l with mainSwitch := false, holdup := l.powerGood, locked := l.locked || l.offRuns, offRuns := false, reopened := true })
  else s

/-- The input comes back to a seated module: after an opening the switch may close once the conditions have held for 100 ms; a switch
that a safety power-off holds is free when the input has been absent for 1 s (R442, R452). The bulk charges through PRECHG (R396). -/
def State.inputSeen (s : State) (mv : Nat) : State :=
  let free_ := match s.life.absentAt with
    | some t => decide (s.now ≥ t + 1_000_000_000)
    | none => false
  s.lifeSet (fun l => { l with
    input := mv, absentAt := none, bulkReady := l.precharge, locked := l.locked && !free_,
    readyAt := if l.reopened then s.now + 100_000_000 else s.now })

/-- `SLOT_ID` is latched (R398, R454). -/
def State.slotLatch (s : State) (straps : Nat) : State := (s.lifeSet (fun l => { l with slotId := straps })).odSetN 0x2004 0 straps

/-- PRECHARGE_MATE: the precharge pin mates and the bulk charges; the module that is not seated yet has had no power (R396 step 2). -/
def execPrechargeMate (input : Fin 72001) (s : State) : Host.Outcome State Fault Refusal :=
  if s.life.present then .next s
  else .next (s.housekeepingOff.lifeSet (fun l => { l with precharge := true, bulkReady := inputGood input.val, reopened := false }))

/-- PRSNT_MATE: the presence pin mates after precharge, or breaks, after the blades; a switch that was closed opens. The contacts break in
reverse order, so that the precharge pin breaks next, with no row of its own (R396 step 3, R448, R452; the latter DESIGN CHOICE, log entry 178). -/
def execPrsntMate (mated : Bool) (s : State) : Host.Outcome State Fault Refusal :=
  if mated then
    (if s.life.precharge then .next (s.lifeSet (fun l => { l with present := true })) else .next s)
  else
    .next (s.switchOpens.lifeSet (fun l => { l with
      present := false, blades := false, precharge := false, bulkReady := false, input := 0,
      absentAt := l.absentAt.orElse (fun _ => some s.now) }))

/-- MAIN_BLADES_MATE: the blades mate and `SLOT_ID` is latched (R396 step 4, R398, R454). -/
def execMainBladesMate (input : Fin 72001) (straps : BitVec 6) (s : State) : Host.Outcome State Fault Refusal :=
  if !s.life.present || s.life.blades then .next s
  else
    let s := s.lifeSet (fun l => { l with blades := true })
    if input.val < 50000 then .next (s.lifeSet (fun l => { l with input := input.val }))
    else .next ((s.inputSeen input.val).slotLatch straps.toNat)

/-- MAIN_SWITCH_CLOSE: the conditions of step 5 hold, and power-up begins, held while `MOD_RESET#` is low (R396, R397, R400, R452, R455). -/
def execMainSwitchClose (s : State) : Host.Outcome State Fault Refusal :=
  let l := s.life
  if l.present && l.precharge && l.blades && l.bulkReady && inputGood l.input && !l.locked && !l.holdup && !l.mainSwitch &&
     !l.powerGood && decide (s.now ≥ l.readyAt) then
    .next (({ s with stored := none, faults := { s.faults with resets := [⟨4, 0, s.now, false, false, l.resetLow, [], 0⟩] } }).lifeSet
      (fun l => { l with mainSwitch := true, modReset := l.resetLow }))
  else .next s

/-- INPUT_OUT_OF_RANGE: the input at the blades takes a value in mV, and `precharge` says whether PRECHG still has 60 V. Outside 50 to 64 V
the switch opens; so it does where the input rises to more than 3 V above the bulk, which holds the voltage before; and the housekeeping logic loses its power with PRECHG.
Beyond 0 to 72 V the part can be damaged, and the spec says no more (R397, R451, R452). -/
def execInputOutOfRange (input : Int) (precharge : Bool) (s : State) : Host.Outcome State Fault Refusal :=
  if input < 0 || input > 72000 then .fault .inputBeyondAbsolute
  else
    let mv := input.toNat
    if inputGood mv then
      (if !s.life.mainSwitch || !inputGood s.life.input then .next s
       else if mv > s.life.input + 3000 then .next (s.switchOpens.inputSeen mv)
       else .next (s.lifeSet (fun l => { l with input := mv })))
    else
      let s := s.switchOpens
      let s := s.lifeSet (fun l => { l with
        input := mv, bulkReady := decide (mv > 64000), absentAt := if mv < 50000 then l.absentAt.orElse (fun _ => some s.now) else l.absentAt })
      .next (if precharge then s else s.housekeepingOff)

/-- INPUT_RETURN: the input comes back on a seated module, after its loss or from above 64 V; after a loss the housekeeping logic latches
`SLOT_ID` again (R452, R454). -/
def execInputReturn (input : Fin 72001) (straps : BitVec 6) (s : State) : Host.Outcome State Fault Refusal :=
  if s.life.present && s.life.blades && !s.life.mainSwitch && (s.life.absentAt.isSome || !inputGood s.life.input) &&
     decide (input.val ≥ 50000) then
    let t := s.inputSeen input.val
    .next (if s.life.absentAt.isSome then t.slotLatch straps.toNat else t)
  else .next s

/-- HOLDUP_END: the rails leave regulation and `PWR_GOOD` goes low (R452 step 4). -/
def execHoldupEnd (s : State) : Host.Outcome State Fault Refusal :=
  if s.life.holdup then .next { s.powerLost with stored := none } else .next s

/-! ### `MOD_RESET#` (R397, R455) -/

/-- A safety power-off runs: from its confirmation until the main switch opens (R442). The latched cause outlasts it (R443). -/
def State.poweringOff (s : State) : Bool := s.life.offRuns

/-- MOD_RESET: the pin is low: a whole-module reset that is held, or power-up that holds after step 2; during a safety power-off, nothing. -/
def execModReset (s : State) : Host.Outcome State Fault Refusal :=
  let s := s.lifeSet (fun l => { l with resetLow := true })
  if s.life.modReset || s.poweringOff then .next s
  else
    let s := s.lifeSet (fun l => { l with modReset := true })
    if s.life.powerGood && bit 1 (s.odNum 0x2003 0) || s.life.powerGood && s.activeRuns then .next (s.moduleReset false true)
    else .next s

/-- MOD_RESET_RELEASE: the held reset, or power-up, goes on. -/
def execModResetRelease (s : State) : Host.Outcome State Fault Refusal :=
  let s := s.lifeSet (fun l => { l with resetLow := false })
  if !s.life.modReset then .next s
  else
    let s := s.lifeSet (fun l => { l with modReset := false })
    let rs := updAll (fun r => r.scope == 4 && r.held) (fun r => { r with held := false, start := s.now }) s.faults.resets
    .next ({ s with faults := { s.faults with resets := rs } }).stepFour

/-! ### Removal (R408 to R411, R456) -/

/-- OD 0x2011 and its event. -/
def State.removalGo (s : State) (k : Nat) : State :=
  let s := s.lifeSet (fun l => { l with removal := k })
  let v := k + (if s.life.removalTimedOut then 128 else 0)
  (s.odSetN 0x2011 0 v).raise 0x000B 0x2011 0 v

/-- A removal in Grey abandons bring-up at once: the tests of step 7 end as at a reset, the links that train go to Disabled, and no release
follows (R408). -/
def State.bringupAbandon (s : State) : State :=
  if s.life.svc != .grey then s
  else
    let s := (List.range 288).foldl (fun s n =>
      let s := s.marchAbandon n
      s.setCore n { s.core n with march := none }) s
    let s := (List.range 24).foldl State.poolAbandon s
    (List.range 12).foldl (fun s n => if (s.link n).st.up || (s.link n).st == .disabled || (s.link n).st == .down then s else s.linkOff n) s

/-- Command 1 is accepted: step 1 of R409. While a removal is under way it changes nothing. -/
def State.removalStart (s : State) : State :=
  if s.life.removal != 0 then s
  else
    let s := (s.lifeSet (fun l => { l with removalTimedOut := false, released := none, removeAt := s.now })).amber 9 true
    let s := (s.removalGo 1).bringupAbandon
    (List.range 16).foldl (fun s p => s.partCommand p 2) s

/-- The status of a service command: R493's code (R408). -/
def State.serviceCheck (s : State) (v : Nat) : Nat :=
  if v = 1 then (if s.life.svc = .black then 3 else 0)
  else if v = 2 then (if s.life.svc = .black then 0 else 3)
  else 3

/-- REMOVE_REQ: the pin held low for 1 ms is command 1 (R456). -/
def execRemoveReq (s : State) : Host.Outcome State Fault Refusal :=
  let s := s.lifeSet (fun l => { l with reqSeen := some (s.now, false) })
  if s.life.modReset || !s.life.powerGood || !s.activeRuns || s.serviceCheck 1 ≠ 0 then .next s else .next s.removalStart

/-- A module with no coordinate is released at once (R410). -/
def State.unassigned (s : State) : Bool := s.odNum 0x4400 0 == 0xF_FFFF

/-- Step 2 has ended: no coordinator of this module is Recording, or the outcome timeout that bounds the step has passed (R409). -/
def State.agentsSettled (s : State) : Bool :=
  s.agents.all (fun e => e.2.machs.all (fun m => m.st != .recording)) || decide (s.now ≥ s.life.removeAt + s.odNum 0x5821 0 * 1_000_000)

/-- REMOVAL_TEARDOWNS_DONE: no partition is left and no coordinator records, and the removal awaits its release (R409 steps 2 to 4, R410). -/
def execRemovalTeardownsDone (s : State) : Host.Outcome State Fault Refusal :=
  if s.life.removal ≠ 1 || (List.range 16).any (fun p => (s.part p).st != .absent) || !s.agentsSettled then .next s
  else .next (((s.odApply 0x2013 0).lifeSet (fun l => { l with released := if s.unassigned then some s.now else none })).removalGo 2)

/-- The fabric release: accepted in step 4 only, which ends with the first release and with the timeout (R410). -/
def State.releaseCheck (s : State) (v : Bool) : Nat := if v && !(s.life.removal == 2 && s.life.released.isNone) then 3 else 0
def State.releaseTake (s : State) (v : Bool) : State := if v then s.lifeSet (fun l => { l with released := l.released.orElse (fun _ => some s.now) }) else s

/-- REMOVAL_TIMEOUT: the timeout of OD 0x2013 runs out before a release (R410). -/
def execRemovalTimeout (s : State) : Host.Outcome State Fault Refusal :=
  if s.life.removal = 2 && s.life.released.isNone then
    .next ((s.lifeSet (fun l => { l with released := some s.now, removalTimedOut := true })).removalGo 2)
  else .next s

/-- The removal's links may go down: it is released, and no packet is queued for a link or 1 ms has passed since (R409 step 5). -/
def State.linksMayGo (s : State) : Bool :=
  s.life.removal == 2 && s.agentsSettled && s.life.released.any (fun t =>
    (List.range 12).all (fun n => (s.link n).txq.isEmpty) || decide (s.now ≥ t + 1_000_000))

/-- REMOVAL_LINKS_DOWN: every link sends DOWN with reason 8 and is Disabled; the compute part is held in reset, and the module is
Black (R409 steps 5 and 6). -/
def execRemovalLinksDown (s : State) : Host.Outcome State Fault Refusal :=
  if !s.linksMayGo then .next s
  else
    let s := (List.range 12).foldl (fun s n =>
      if (s.link n).st = .disabled then s
      else
        let s := if s.linkUp n then s.control n 0x07 (leBytes 1 8) else s
        s.linkOff n) s
    let s := s.removalGo 3
    let s := { s with faults := { s.faults with
      resets := s.faults.resets.filter (fun r => r.scope != 3 && r.scope != 4 && r.scope != 8) } }
    let s := (s.addReset 3 0 false false true).beginCompute
    let s := { s with power := { s.power with gate := 16 } }
    .next ((s.enter .black true).leaveService)

/-! ### Defect maps (R403, R414) -/

/-- Whether a row remap list may be written (R414, R175). -/
def remapListOk (b : List Byte) : Bool :=
  b.length % 8 == 0 && decide (b.length ≤ 8 * 4096) &&
  (remapOf b).all (fun e => e % 2 ^ 34 == 0 && decide (bits 48 34 e < 24576))

end Sys2Proof.Machine
end

