-- ==== Sys2Proof/Machine/Power.lean ====
section
/-! DEFINITION. Power grants and metering, droop, the frequency ceiling, pace groups and energy (R415 to R432). -/
namespace Sys2Proof.Machine

def State.pwr (s : State) (f : Power → Power) : State := { s with power := f s.power }

/-! ### The effective limit (R417, R418, R420) -/

/-- A sensor's status: 0 good, 1 suspect, 2 failed (OD 0x3401). -/
def State.sensorSt (s : State) (i : Nat) : Nat := s.odNum 0x3401 i
/-- A coolant pair has failed: the inlet's sensors are 193 and 194, the outlet's 195 and 196 (R433, R438). -/
def State.inletFailed (s : State) : Bool := s.sensorSt 193 == 2 && s.sensorSt 194 == 2
def State.outletFailed (s : State) : Bool := s.sensorSt 195 == 2 && s.sensorSt 196 == 2

/-- The safety floor is in force (R418). -/
def State.safetyFloor (s : State) : Bool := s.thermal.leakCause != 0 || s.inletFailed || s.outletFailed
/-- The effective limit in watts. -/
def State.wattLimit (s : State) : Nat := if s.safetyFloor then min (s.odNum 0x3000 0) 600 else s.odNum 0x3000 0

/-- The smallest duty whose predicted power fits a limit, or 15 (R420). -/
def gateFor (idle run limit : Nat) : Nat :=
  ((List.range 16).find? (fun (g : Nat) => decide ((idle : Int) * 16 + ((run : Int) - idle) * (16 - (g : Int)) ≤ 16 * (limit : Int)))).getD 15
/-- The gating duty is computed again; a safety power-off, a die that its comparator has gated and Black gate everything (R409, R420, R435,
R442). While the peak limiter acts, the duty rises by a sixteenth at each sample instead where that is more (R419; the amount DESIGN CHOICE, log entry
170). -/
def State.regate (s : State) : State :=
  if s.life.offRuns || s.power.dies != 0 || s.life.svc == .black then s
  else s.pwr (fun p =>
    let g := gateFor p.idle p.run s.wattLimit
    { p with gate := if p.limiting then max g (min 15 (p.gate + 1)) else g })

/-! ### The ceiling (R423, R424) -/

/-- The rows of the power profile: frequency and watts. -/
def profile : List (Nat × Nat) :=
  [(600, 560), (1000, 860), (1200, 1040), (1400, 1260), (1600, 1510), (1800, 1800), (2000, 2140), (2100, 2330)]
/-- The profile at a frequency, interpolated between its rows, in 1/400 W. -/
def profileAt : List (Nat × Nat) → Nat → Nat
  | (fa, ta) :: (fb, tb) :: rest, f =>
    if f ≤ fb then 400 * ta + 400 / (fb - fa) * (f - fa) * (tb - ta) else profileAt ((fb, tb) :: rest) f
  | [(_, t)], _ => 400 * t
  | [], _ => 0

/-- The frequencies of the ceiling's calculation: 600 to 2,100 MHz in steps of 25, rising. -/
def freqs : List Nat := (List.range 61).map (fun k => 600 + 25 * k)
/-- The grant ceiling: the highest step that fits, at least 600 MHz. -/
def grantCeil (avg running limit : Nat) : Nat :=
  (freqs.filter (fun f => decide (avg * profileAt profile f ≤ limit * profileAt profile running))).getLastD 600

def State.grantCeil (s : State) : Nat := Machine.grantCeil (s.odNum 0x3001 0) s.clk.coreMHz s.wattLimit
/-- The start frequency bounds the ceiling until the first thermal sample. -/
def State.startCeil (s : State) : Nat := if s.odNum 0x3411 0 = 0 then s.odNum 0x3020 0 else 2100
/-- The ceiling: the lowest of the four. -/
def State.ceiling (s : State) : Nat := min (min 2100 s.grantCeil) (min s.power.thermCeil s.startCeil)

/-- What set the ceiling, in the code of OD 0x3012 (R446). -/
def State.ceilCause (s : State) : Nat :=
  let c := s.ceiling
  if s.startCeil = c && s.odNum 0x3411 0 = 0 then 4
  else if s.safetyFloor && s.grantCeil = c then 3
  else if s.grantCeil = c && c < 2100 then 1
  else if s.power.thermCeil = c && c < 2100 then 2
  else 0

/-! ### Pace groups (R425 to R430) -/

/-- The pace group that acts: none where the group named is Undefined (R425). -/
def State.paceGroup (s : State) : Option Nat :=
  let g := s.power.group
  if g = 0xFFFF || s.gSt g = 0 then none else some g
def State.leads (s : State) : Bool := match s.paceGroup with
  | none => true
  | some g => gdRank (s.gd g) == 0

/-- The frequency code, and the pace message's payload (R426). -/
def freqCode (f : Nat) : Nat := (f - 600) / 25
def paceBody (kind group gen freq tick : Nat) : List Byte :=
  leBytes 8 (kind * 2 ^ 60 + group % 4096 * 2 ^ 48 + gen % 256 * 2 ^ 40 + freqCode freq % 256 * 2 ^ 32 + tick % 2 ^ 32)

def State.paceSend (s : State) (g ref kind freq tick : Nat) : State :=
  let b := s.gd g
  let p := gdPart b % 16
  s.request .pace { Pkt.req 4 (refCoord ref) p p (s.indigoTag p) (paceBody kind g (gdGen b) freq tick) with rcore := 0x1FF, rcnt := 0x3F }

/-- Where a child's report is kept: by its place in the descriptor and the descriptor's `GD.GEN`, so that a re-formed group starts with no
reports (R312, R427, R430). -/
def reportKey (gen i : Nat) : Nat := 16 * gen + i
/-- The lowest of the member's ceiling and its children's reports. -/
def State.lowest (s : State) : Nat :=
  let gen := gdGen (s.gd s.power.group)
  (s.power.reports.filter (fun e => e.1 / 16 == gen)).foldl (fun m e => min m e.2) s.power.ceil

/-- A member sends its lowest value to its parent (R427). -/
def State.sendReport (s : State) : State :=
  match s.paceGroup with
  | none => s
  | some g =>
    if s.leads then s
    else
      let s := s.odApply 0x3015 0
      let m := s.lowest
      (s.pwr (fun p => { p with sent := m })).paceSend g (gdParent (s.gd g)) 1 m 0

/-- SET goes to every child. -/
def State.setsDown (s : State) (g freq tick : Nat) : State :=
  (gdChildren (s.gd g)).foldl (fun s r => s.paceSend g r 2 freq tick) s

/-- The leader's F, which a SET on its way already names. -/
def State.targetF (s : State) : Nat := s.power.next.elim s.power.f (·.1)

/-- F becomes a value: SETs with the first tick at least the pace lead ahead (R427). -/
def State.leaderSet (s : State) (g m : Nat) : State :=
  let s := s.odApply 0x3013 0
  let tick := (s.fab + s.odNum 0x3013 0 * 1000 + 999_999) / 1_000_000
  (s.pwr (fun p => { p with next := some (m, tick % 2 ^ 32), above := none })).setsDown g m tick

/-- The leader's M. -/
def State.leaderM (s : State) : Nat := min (s.odNum 0x3011 0) s.lowest

/-- What follows a change of the ceiling, of a report or of the requested frequency (R427). -/
def State.paceEval (s : State) : State :=
  match s.paceGroup with
  | none => s
  | some g =>
    if s.leads then
      let s := s.odApply 0x3014 0
      let m := s.leaderM
      if m < s.targetF then s.leaderSet g m
      else if m = s.targetF then s.pwr (fun p => { p with above := none })
      else s.pwr (fun p => { p with above := p.above.orElse (fun _ => some s.now) })
    else if s.lowest = s.power.sent then s
    else s.sendReport

/-- The ceiling is computed again, and reported where it changes the lowest value (R423, R427). -/
def State.ceilingNow (s : State) : State := (s.pwr (fun p => { p with ceil := s.ceiling })).paceEval

/-- The Lilac record of a SET applied, or of a lockstep break (R542). -/
def State.paceLilac (s : State) (code : Nat) : State :=
  s.lilac 5 code s.power.group 0 (freqCode s.power.f % 256 * 2 ^ 8 + freqCode s.clk.coreMHz % 256)
    (s.paceGroup.map (fun g => gdPart (s.gd g) % 16))

/-- Lockstep: a member that runs below F, at a lower frequency or with its clock gated, has broken it, and each break is counted once (R428,
R429; DEDUCED from the example of R430, log entry 170). -/
def State.lockstepNow (s : State) : State :=
  let b := s.paceGroup.isSome && (decide (s.clk.coreMHz < s.power.f) || s.power.gate != 0)
  let t := s.pwr (fun p => { p with broken := b })
  if b && !s.power.broken then (t.odInc 0x3016 3).paceLilac 2 else t

/-- The effective limit changes: OD 0x3003, the ceiling and the gating follow at once (R418, R420, R423). -/
def State.limitNow (s : State) : State :=
  let v := s.wattLimit * 2 ^ 16 + (if s.safetyFloor then 2 else 1)
  if s.odNum 0x3003 0 = v then s else ((s.odSetN 0x3003 0 v).ceilingNow).regate.lockstepNow

/-! ### Commands -/

/-- The average over the samples of the last `span` ns, in W (R416). -/
def State.average (s : State) (span : Nat) : Nat :=
  let l := (s.power.samples.filter (fun e => decide (s.now < e.1 + span))).map (·.2)
  l.sum / (l.length * 1_000_000)

/-- POWER_METER_SAMPLE: a sample of the input, in mV and mA: the grant applies; the sliding averages and the highest one of the last second; the peak
limiter while the 10 us average exceeds 2,450 W, and the grant gating (R416 to R420). `idle` and `run` are the draws measured with every island
gated and at g = 0. -/
def execPowerMeterSample (millivolts milliamps idle run : Nat) (s : State) : Host.Outcome State Fault Refusal :=
  let s := (s.odApply 0x3000 0).odSetN 0x3004 0 (min millivolts 65535)
  let was := s.power.limiting
  let s := s.pwr (fun p => { p with
    samples := p.samples.filter (fun e => decide (s.now < e.1 + 1_000_000)) ++ [(s.now, millivolts * milliamps)] })
  let avg1ms := s.average 1_000_000
  let avg10us := s.average 10_000
  let ps := (s.power.peaks.filter (fun e => decide (s.now ≤ e.1 + 1_000_000_000) && decide (avg10us < e.2))) ++ [(s.now, avg10us)]
  let s := s.pwr (fun p => { p with peaks := ps, limiting := decide (avg10us > 2450), idle := idle, run := run })
  let s := (s.odSetN 0x3001 0 (min avg1ms 65535)).odSetN 0x3002 0 (min (ps.foldl (fun m e => max m e.2) 0) 65535)
  let s := s.limitNow
  .next (if avg1ms > s.wattLimit || s.power.limiting || was then s.regate.lockstepNow else s)

/-- DROOP_STRETCH: a stretched cycle is counted; 16 within 1 ms widen the guard band by one level (R422). -/
def execDroopStretch (_island : Fin 372) (s : State) : Host.Outcome State Fault Refusal :=
  let s := s.odInc 0x3031 0
  let l := (s.power.stretches.filter (fun t => decide (s.now ≤ t + 1_000_000))) ++ [s.now]
  let wide := decide (l.length ≥ 16)
  let s := s.pwr (fun p => { p with stretches := if wide then [] else l, lastStretch := s.now })
  .next (if wide then s.odSetN 0x3032 0 (min 3 (s.odNum 0x3032 0 + 1)) else s)

/-- GUARD_BAND_NARROW: after 10 s without a stretch the guard band narrows by one level (R422). -/
def execGuardBandNarrow (s : State) : Host.Outcome State Fault Refusal :=
  if s.now < s.power.lastStretch + 10_000_000_000 then .next s
  else .next ((s.pwr (fun p => { p with lastStretch := s.now })).odSetN 0x3032 0 (s.odNum 0x3032 0 - 1))

/-- CEILING_RECOMPUTE: every 100 us (R423). -/
def execCeilingRecompute (s : State) : Host.Outcome State Fault Refusal := .next s.ceilingNow

/-- The pace group named takes effect; one that is Undefined, or comes to be so, raises an event (R425, R430). -/
def State.paceGroupTake (s : State) : State :=
  let s := s.odApply 0x3010 0
  let g := s.odNum 0x3010 0
  let s := if g = s.power.group then s
    else s.pwr (fun p => { p with
      group := g, reports := [], f := s.clk.coreMHz, next := none, sent := 2100, above := none, astray := false })
  let lost := g != 0xFFFF && s.gSt g == 0
  let t := s.pwr (fun p => { p with astray := lost })
  if lost && !s.power.astray then t.raise 0x000D 0x3010 0 0 else t

/-- A SET whose tick has come takes effect, unless it would raise the frequency while fabric time is not locked (R428, R430). -/
def State.setTakes (s : State) : State :=
  match s.power.next with
  | none => s
  | some (f, t) =>
    let due := decide ((s.fab / 1_000_000 + 2 ^ 32 - t) % 2 ^ 32 < 2 ^ 31)
    if !due || (!s.clk.fabricLocked && f > s.clk.coreMHz) then s
    else (s.pwr (fun p => { p with f := f, next := none })).odInc 0x3016 1

/-- The frequency of the core and cluster islands changes, through EV08; a merge there is a clocking fault of the island's cluster
(R51, R52, R371, R428). -/
def State.switchFreq (s : State) (f : Nat) : State :=
  let insts := (List.range 288) ++ (List.range 24).map (fun c => 512 + c)
  let bad := insts.filter (fun i => s.wouldMerge 8 i)
  let s := insts.foldl (fun s i => s.pulse 8 i) s
  let s := { s with clk := { s.clk with coreMHz := f } }
  bad.foldl (fun s i => s.faultReset 0x04 3 2 (if i < 512 then clusterOf i else i - 512) 7 8 none 0) s

/-- PACE_TICK: the requested frequency, the pace group and a SET that is due apply; the member runs at the lower of F and its
ceiling; gating is computed again from the draw that the power profile predicts at the new frequency, and a member that comes to run below F has broken
lockstep (R420, R425, R428, R430; the prediction DEDUCED from the example of R430, log entry 170). -/
def execPaceTick (s : State) : Host.Outcome State Fault Refusal :=
  let sets := s.odNum 0x3016 1
  let s := ((s.odApply 0x3011 0).paceGroupTake).setTakes
  let s := match s.paceGroup with
    | none => s.pwr (fun p => { p with f := min (s.odNum 0x3011 0) p.ceil })
    | some _ => s.paceEval
  let f := min s.power.f s.power.ceil
  let s := if f = s.clk.coreMHz then s
    else (s.pwr (fun p => { p with run := p.run * profileAt profile f / profileAt profile s.clk.coreMHz })).switchFreq f
  let s := if s.odNum 0x3016 1 = sets then s else s.paceLilac 1
  .next s.regate.lockstepNow

/-- The fields of a pace message. -/
def Pkt.paceKind (p : Pkt) : Nat := bits 63 60 (leNat p.payload)
def Pkt.paceFreq (p : Pkt) : Nat := 600 + 25 * bits 39 32 (leNat p.payload)
def Pkt.paceTick (p : Pkt) : Nat := bits 31 0 (leNat p.payload)

/-- A pace message that R426 refuses; the partitions are of the combination that it must have. -/
def State.paceBad (s : State) (p : Pkt) : Bool :=
  let w := leNat p.payload
  match s.paceGroup with
  | none => true
  | some g => p.dpart != gdPart (s.gd g) % 16 || p.spart != p.dpart || bits 59 48 w != g || bits 47 40 w != gdGen (s.gd g) || (p.paceKind != 1 && p.paceKind != 2)

/-- A pace message is admitted and answered, and acts. -/
def paceRow (s : State) (q : Pkt → Bool) (f : Pkt → State → State) : Host.Outcome State Fault Refusal :=
  serve s (fun p => p.isPace && q p) (fun p _ s =>
    match s.refusal p with
    | some (st, aux) => .ok (s.answer p (s.errorOf p st aux))
    | none =>
      if s.paceBad p then .ok ((s.odInc 0x3016 4).answer p (s.errorOf p 1 0))
      else .ok (f p (s.answer p (s.ackOf p))))

/-- REPORT: a child's lowest value is kept, and the module acts on it (R427). -/
def execPaceReport (s : State) : Host.Outcome State Fault Refusal :=
  paceRow s (fun p => p.paceKind == 1) (fun p s =>
    match s.paceGroup with
    | none => s
    | some g => match (gdChildren (s.gd g)).findIdx? (fun r => refCoord r == p.src) with
      | none => s
      | some i => (s.pwr (fun x => { x with reports := tput x.reports (reportKey (gdGen (s.gd g)) i) p.paceFreq })).paceEval)

/-- SET: held until its tick, or the next one where it comes late, and forwarded to the children; one already held changes
nothing (R427, R428). A pace message of a reserved kind is refused here (R426). -/
def execPaceSet (s : State) : Host.Outcome State Fault Refusal :=
  paceRow s (fun p => p.paceKind != 1) (fun p s =>
    match s.paceGroup with
    | none => s
    | some g =>
      if s.power.next = some (p.paceFreq, p.paceTick) then s
      else
        let cur := s.fab / 1_000_000
        let late := decide ((cur + 2 ^ 32 - p.paceTick) % 2 ^ 32 < 2 ^ 31)
        let s := if late then s.odInc 0x3016 2 else s
        let t := if late then (cur + 1) % 2 ^ 32 else p.paceTick
        (s.pwr (fun x => { x with next := some (p.paceFreq, t) })).setsDown g p.paceFreq p.paceTick)

/-- RAISE_HOLD_EXPIRY: M has stayed above F for the hold time, and F becomes M (R427). -/
def execRaiseHoldExpiry (s : State) : Host.Outcome State Fault Refusal :=
  match s.paceGroup, s.power.above with
  | some g, some t =>
    if s.leads && s.leaderM > s.targetF && s.now ≥ t + s.odNum 0x3014 0 * 1_000_000 then .next (s.leaderSet g s.leaderM) else .next s
  | _, _ => .next s

/-- REPORT_REFRESH: a member reports again (R427). -/
def execReportRefresh (s : State) : Host.Outcome State Fault Refusal := .next s.sendReport

/-- An energy shared out in proportion to weights, the last element for no partition; what no weight takes is its own (R432). -/
def shareOut (energy : Nat) (weights : List Nat) : List Nat :=
  let l := (List.range 16).map (fun i => energy * getAt 0 weights i / weights.sum)
  l ++ [energy - l.sum]

/-- The weights of the core and cluster islands, by the partition that holds each cluster (R432). -/
def State.opsWeights (s : State) (ops : List Nat) : List Nat :=
  let held := fun p => ((List.range 24).filter (fun c => (s.part p).st != .absent && (s.part p).hasCluster c)).map (fun c => getAt 0 ops c)
  let own := (List.range 16).map (fun p => (held p).sum)
  own ++ [ops.sum - own.sum]

/-- The microjoules of each element of OD 0x3040 in 10 us: the table of R432. -/
def State.energyShares (s : State) (m : EnergyMeter) : List Nat :=
  let a := shareOut m.coreE (s.opsWeights m.ops)
  let b := shareOut m.stackE m.stackBytes
  let c := shareOut m.linkE m.linkBytes
  let d := shareOut m.hostE m.hostBytes
  (List.range 17).map (fun i => getAt 0 a i + getAt 0 b i + getAt 0 c i + getAt 0 d i + (if i = 16 then m.restE else 0))

/-- ENERGY_ATTRIBUTION: the energy of 10 us goes to the partitions by activity, in microjoules; each element of OD 0x3040 counts whole
millijoules, and OD 0x3041 their sum (R431, R432). -/
def execEnergyAttribution (m : EnergyMeter) (s : State) : Host.Outcome State Fault Refusal :=
  let l := s.energyShares m
  .next ((List.range 17).foldl (fun s i =>
    let v := tget 0 s.power.micro i + getAt 0 l i
    ((s.pwr (fun p => { p with micro := tset 0 p.micro i (v % 1000) })).odAdd 0x3040 (i + 1) (v / 1000)).odAdd 0x3041 0 (v / 1000)) s)

/-- The pace state of OD 0x3012 (R446). -/
def State.paceView (s : State) : Nat :=
  freqCode s.power.f % 256 * 2 ^ 24 + freqCode s.power.ceil % 256 * 2 ^ 16 + freqCode s.clk.coreMHz % 256 * 2 ^ 8 +
  s.ceilCause * 2 ^ 4 + b2n s.leads * 2 ^ 3 + b2n (!s.clk.fabricLocked) * 2 ^ 2

end Sys2Proof.Machine
end

