-- ==== Sys2Proof/Machine/Thermal.lean ====
section
/-! DEFINITION. Temperatures, coolant, the leak loop, the safety power-off, and the manager's absence (R433 to R445, R497). -/
namespace Sys2Proof.Machine

def State.thm (s : State) (f : Thermal → Thermal) : State := { s with thermal := f s.thermal }

/-! ### Sensors and zones (R433, R434, R436) -/

/-- The zones of R434 in their order: Cobalt, Indigo, stack, outlet, inlet; the elements of their sensors. -/
def zoneSensors (z : Nat) : List Nat :=
  match z with
  | 0 => (List.range 128).map (· + 33)
  | 1 => (List.range 32).map (· + 161)
  | 2 => (List.range 32).map (· + 1)
  | 3 => [195, 196]
  | _ => [193, 194]
def zoneOf (i : Nat) : Nat :=
  if i ≤ 32 then 2 else if i ≤ 160 then 0 else if i ≤ 192 then 1 else if i ≤ 194 then 4 else 3

/-- The neighbours of a point of an n by n grid whose first element is `base`. -/
def gridNeighbours (base n k : Nat) : List Nat :=
  let r := k / n
  let c := k % n
  (if r > 0 then [base + k - n] else []) ++ (if r + 1 < n then [base + k + n] else []) ++
  (if c > 0 then [base + k - 1] else []) ++ (if c + 1 < n then [base + k + 1] else [])

/-- The neighbours of a sensor: stacks stand four to a row (R433). -/
def neighbours (i : Nat) : List Nat :=
  if i ≤ 32 then
    let st := (i - 1) / 2
    let beside := (if st % 4 > 0 then [st - 1] else []) ++ (if st % 4 < 3 then [st + 1] else [])
    (if i % 2 = 1 then i + 1 else i - 1) :: beside.flatMap (fun k => [2 * k + 1, 2 * k + 2])
  else if i ≤ 160 then
    let k := i - 33
    gridNeighbours (33 + k / 64 * 64) 8 (k % 64)
  else if i ≤ 192 then
    let k := i - 161
    gridNeighbours (161 + k / 16 * 16) 4 (k % 16)
  else [if i % 2 = 1 then i + 1 else i - 1]

/-- Twice the median of readings: the middle one, or the two middle ones together. -/
def median2 (l : List Int) : Option Int :=
  let a := l.mergeSort (fun x y => decide (x ≤ y))
  let n := a.length
  if n = 0 then none else some (getAt 0 a ((n - 1) / 2) + getAt 0 a (n / 2))

/-- The reading of a sensor, from OD 0x3400. -/
def State.temp (s : State) (i : Nat) : Int := toSigned 32 (s.odNum 0x3400 i)
/-- A zone's throttle and trip limit in m°C. -/
def State.throttle (s : State) (z : Nat) : Int := toSigned 16 (s.odNum 0x3402 (z + 1)) * 1000
def State.trip (s : State) (z : Nat) : Int := toSigned 16 (s.odNum 0x3403 (z + 1)) * 1000

/-- A zone's hottest sensor that is not failed. -/
def State.hottest (s : State) (z : Nat) : Option Nat :=
  (zoneSensors z).foldl (fun m i =>
    if s.sensorSt i = 2 then m
    else match m with
      | none => some i
      | some j => if s.temp i > s.temp j then some i else m) none
def State.zoneTemp (s : State) (z : Nat) : Option Int := (s.hottest z).map s.temp
def State.zoneHasFailed (s : State) (z : Nat) : Bool := (zoneSensors z).any (fun i => s.sensorSt i == 2)

/-- Whether a sensor disagrees: by more than 15 K with the median of its neighbours that are not failed and with its prediction
(R436). Without such a neighbour there is no disagreement (DEDUCED, log entry 38). -/
def State.disagrees (s : State) (i : Nat) (predicted : Int) : Bool :=
  let t := s.temp i
  match median2 (((neighbours i).filter (fun j => s.sensorSt j != 2)).map s.temp) with
  | none => false
  | some m => decide ((2 * t - m).natAbs > 30_000) && decide ((t - predicted).natAbs > 15_000)

/-- AC.SENSOR: a sensor is suspect or failed, or the leak loop's sensor fault stands (R406, R436, R441). -/
def State.sensorAmber (s : State) : State :=
  s.amber 11 (s.thermal.leakCause != 0 || (List.range 196).any (fun i => s.sensorSt (i + 1) != 0))

/-- Fault 0x0F with a cause of 1 to 5 (R371, R444), and its event. -/
def State.physicalFault (s : State) (cause elem idx sub : Nat) : State :=
  (s.raise 0x0009 idx sub (cause * 256 + elem)).faultRecord 0x0F 1 0 0 none false (cause * 256 + elem)

/-! ### Safety power-off (R442, R443) -/

/-- A safety power-off begins, unless one runs or the module has no power: everything is gated, the cause is latched over an earlier one,
`ALERT#` is driven (R442 step 1, R443). -/
def State.powerOff (s : State) (cause elem : Nat) : State :=
  if s.life.offRuns || !s.life.mainSwitch then s
  else
    let s := s.lifeSet (fun l => { l with safety := cause * 2 ^ 24 + elem, safetyAt := s.now, safetyStored := false, offRuns := true })
    (s.pwr (fun p => { p with gate := 16 })).alertSet 2 true

/-- SAFETY_CAUSE_STORE: the active Slate controller stores the cause, with the event and the Lilac record (R442 step 2). -/
def execSafetyCauseStore (s : State) : Host.Outcome State Fault Refusal :=
  if !s.poweringOff || s.life.safetyStored || !s.activeRuns || s.handing then .next s
  else
    let cause := bits 31 24 s.life.safety
    let elem := bits 7 0 s.life.safety
    let s := s.storeCause
    let s := if cause = 16 then s.raise 0x0009 0x3441 0 (cause * 256) else s.raise 0x0009 0x3401 elem (cause * 256 + elem)
    .next (s.lilac 6 0x0F 0 0 (cause * 256 + elem) none)

/-- SAFETY_SWITCH_OPEN: the cause is stored, or 100 ms have passed: the switch opens and stays open, and `PWR_GOOD` goes low (R442
step 3). -/
def execSafetySwitchOpen (s : State) : Host.Outcome State Fault Refusal :=
  if s.poweringOff && (s.life.safetyStored || decide (s.now ≥ s.life.safetyAt + 100_000_000)) then
    .next (s.powerLost.lifeSet (fun l => { l with mainSwitch := false, locked := true, offRuns := false, reopened := true }))
  else .next s

/-- DIE_COMPARATOR_TRIP: a die at 120 °C, in the order F0, C0, C1, F1: its islands are gated, and a safety power-off starts (R435). -/
def execDieComparatorTrip (die : Fin 4) (s : State) : Host.Outcome State Fault Refusal :=
  if !s.life.powerGood then .next s
  else .next ((s.pwr (fun p => { p with dies := withBit die.val true p.dies })).powerOff 17 0)

/-! ### The thermal sample -/

/-- OD 0x3400 takes the readings (R433). -/
def State.readings (s : State) (l : List Int) : State :=
  (List.range 196).foldl (fun s k => s.odSetN 0x3400 (k + 1) (ofSigned 32 (getAt 0 l k))) s

/-- The sensors' agreement (R436). -/
def State.readSensors (s : State) (predicted : List Int) : State :=
  let bad := (List.range 196).map (fun k => s.disagrees (k + 1) (getAt 0 predicted k))
  let s := (List.range 196).foldl (fun s k =>
    let i := k + 1
    if s.sensorSt i = 2 then s
    else if getAt false bad k then
      (s.odSetN 0x3401 i 1).thm (fun t => { t with suspectAt := if (tfind t.suspectAt i).isSome then t.suspectAt else tput t.suspectAt i s.now })
    else (s.odSetN 0x3401 i 0).thm (fun t => { t with suspectAt := tdel t.suspectAt i })) s
  s.sensorAmber

/-- A coolant sensor's value for the estimates: a failed one reads its zone's throttle limit (R436, R438). -/
def State.coolant (s : State) (i : Nat) : Int := if s.sensorSt i = 2 then s.throttle (zoneOf i) else s.temp i
/-- Twice the mean of the inlet pair and of the outlet pair; a failed inlet pair is taken as 45 °C (R438). -/
def State.inlet2 (s : State) : Int := if s.inletFailed then 90_000 else s.coolant 193 + s.coolant 194
def State.outlet2 (s : State) : Int := s.coolant 195 + s.coolant 196

/-- The estimator's inlet: 45 °C until ten samples (R413, R433). -/
def State.estimate (s : State) : State :=
  let s := s.odInc 0x3411 0
  let s := s.odSetN 0x3410 0 (ofSigned 32 (if s.odNum 0x3411 0 < 10 then 45_000 else s.inlet2 / 2))
  if s.odNum 0x3411 0 = 10 then s.progress 9 else s

/-- The coolant flow in mL/min, P × 60,000 ÷ (3,900 × rise); with no rise the manual states no result: a free value (R438, log
entries 4 and 39). -/
def State.flowEstimate (s : State) : State :=
  let s := s.odApply 0x3421 0
  let d := s.outlet2 - s.inlet2
  let f := s.freeVal 16
  let s := if d ≤ 0 then f.2.odSetN 0x3420 0 f.1
    else s.odSetN 0x3420 0 (min 65535 (s.odNum 0x3001 0 * 400_000 / (13 * d.toNat)))
  if s.odNum 0x3420 0 < s.odNum 0x3421 0 then s.thm (fun t => { t with lowSince := t.lowSince.orElse (fun _ => some s.now) })
  else s.thm (fun t => { t with lowSince := none, lowTold := false })

/-- The thermal ceiling moves by one step (R423, R434, R436): down while a zone that throttles lies above its limit, up while
every zone lies 3 K below and none has a failed sensor. -/
def State.thermalStep (s : State) : State :=
  let s := (List.range 5).foldl (fun s z => s.odApply 0x3402 (z + 1)) s
  let hot := (List.range 4).any (fun z => (s.zoneTemp z).any (fun t => decide (t > s.throttle z)))
  let cool := (List.range 5).all (fun z =>
    !s.zoneHasFailed z && (s.zoneTemp z).all (fun t => decide (t + 3000 ≤ s.throttle z)))
  let c := s.power.thermCeil
  let c' := if hot then max 600 (c - 25) else if cool then min 2100 (c + 25) else c
  s.pwr (fun p => { p with thermCeil := c' })

/-- The inlet above its throttle limit raises an event, once for each crossing (R434, R492). -/
def State.inletEvent (s : State) : State :=
  let high := (s.zoneTemp 4).any (fun t => decide (t > s.throttle 4))
  let s := if high && !s.thermal.inletHigh then s.raise 0x0009 0x3401 ((s.hottest 4).getD 193) ((s.hottest 4).getD 193) else s
  s.thm (fun t => { t with inletHigh := high })

/-- A zone above its trip limit on two consecutive samples starts a safety power-off (R434, R443, R444). -/
def State.tripCheck (s : State) (z : Nat) : State :=
  let high := (s.zoneTemp z).any (fun t => decide (t > s.trip z))
  let was := tget false s.thermal.tripped z
  let s := s.thm (fun t => { t with tripped := tset false t.tripped z high })
  if high && was then s.powerOff (if z = 3 then 20 else if z = 4 then 19 else 18) ((s.hottest z).getD 0) else s

/-- Thermal cycles: a rise of more than 30 K above the last minimum and a fall of more than 30 K below the maximum (R437). -/
def State.cycles (s : State) (z : Nat) : State :=
  match s.zoneTemp z with
  | none => s
  | some t =>
    let lo := (tfind s.thermal.zmin z).getD t
    if tget false s.thermal.rose z then
      let hi := max t ((tfind s.thermal.zmax z).getD t)
      if t + 30_000 < hi then
        (s.odInc 0x3430 (z + 1)).thm (fun h => { h with rose := tdel h.rose z, zmin := tput h.zmin z t, zmax := tdel h.zmax z })
      else s.thm (fun h => { h with zmax := tput h.zmax z hi })
    else if t > lo + 30_000 then s.thm (fun h => { h with rose := tput h.rose z true, zmax := tput h.zmax z t })
    else s.thm (fun h => { h with zmin := tput h.zmin z (min lo t) })

/-- A sample waits for the end of a handover (R531). -/
def State.holdSample (s : State) (x : Sample) : State := s.thm (fun t => { t with held := t.held ++ [x] })

/-- The active Slate controller evaluates a thermal sample (R423, R433 to R438). -/
def State.evalTemps (s : State) (readings predicted : List Int) : State :=
  let s := (List.range 5).foldl State.cycles ((((s.readings readings).readSensors predicted).estimate).flowEstimate)
  (s.thermalStep.inletEvent).ceilingNow

/-- THERMAL_SAMPLE: the 196 readings and the estimator's predictions in m°C; before step 4 of R400 only the safety monitor takes them, and
during a handover the evaluation waits (R400, R423, R433 to R438, R443, R531). -/
def execThermalSample (readings predicted : List Int) (s : State) : Host.Outcome State Fault Refusal :=
  if !s.life.powerGood then .next s
  else
    let s := (List.range 5).foldl State.tripCheck (s.readings readings)
    if !s.life.begun then .next s
    else .next (if s.handing then s.holdSample (.temps readings predicted) else s.evalTemps readings predicted)

/-- SENSOR_FAILED: a sensor that has been suspect for 2 s, of 200 samples, is failed: fault 0x0F; with both of a coolant pair
failed the safety floor is in force; not during a handover (R418, R436, R438, R531). -/
def execSensorFailed (sensor : Fin 196) (s : State) : Host.Outcome State Fault Refusal :=
  let i := sensor.val + 1
  match tfind s.thermal.suspectAt i with
  | none => .next s
  | some t =>
    if s.sensorSt i ≠ 1 || s.now < t + 2_000_000_000 || s.odNum 0x3411 0 < 200 || s.handing then .next s
    else
      let s := ((s.odSetN 0x3401 i 2).thm (fun h => { h with suspectAt := tdel h.suspectAt i })).sensorAmber
      let s := s.physicalFault 1 i 0x3401 i
      let pair := (zoneOf i = 4 && s.inletFailed) || (zoneOf i = 3 && s.outletFailed)
      .next (if pair then (s.physicalFault 5 i 0x3401 i).limitNow else s)

/-- LOW_FLOW: the estimate has been below the threshold for 5 s (R438). -/
def execLowFlow (s : State) : Host.Outcome State Fault Refusal :=
  match s.thermal.lowSince with
  | none => .next s
  | some t =>
    if s.thermal.lowTold || s.now < t + 5_000_000_000 then .next s
    else .next ((s.thm (fun h => { h with lowTold := true })).raise 0x0009 0x3420 0 0)

/-! ### Leak loop (R439 to R441) -/

/-- A leak-loop sensor fault; a failed self-test begins a new stretch of readings, the others end with one that is not dry (R441). -/
def State.leakFault (s : State) (cause : Nat) : State :=
  if s.thermal.leakCause != 0 then s
  else
    let s := (s.odSetN 0x3441 0 3).thm (fun t => { t with leakCause := cause, passes := 0, dry := cause == 4 })
    let s := ((s.alertSet 1 true).sensorAmber).physicalFault cause 0 0x3441 0
    s.limitNow

/-- The classes of a reading (R439). -/
def leakWet (ohms : Nat) : Bool := decide (ohms < 7000)
def leakOpen (ohms : Nat) : Bool := decide (ohms > 100_000)
def leakDry (ohms : Nat) : Bool := decide (8500 ≤ ohms) && decide (ohms ≤ 11_500)

/-- The active Slate controller evaluates a reading: three open or 100 indeterminate ones in a row are a sensor fault (R440, R441). -/
def State.evalLeak (s : State) (ohms : Nat) : State :=
  let s := s.thm (fun t => { t with
    opened := if leakOpen ohms then t.opened + 1 else 0,
    indet := if !leakWet ohms && !leakOpen ohms && !leakDry ohms then t.indet + 1 else 0, dry := t.dry && leakDry ohms })
  if !s.life.begun then s
  else if s.thermal.opened ≥ 3 then s.leakFault 2
  else if s.thermal.indet ≥ 100 then s.leakFault 3
  else if leakDry ohms && s.thermal.tested && s.thermal.leakCause == 0 then s.odSetN 0x3441 0 1
  else s

/-- LEAK_MEASUREMENT: the loop's resistance in ohms: the safety monitor's wet rule acts at once, three wet readings confirming a leak, and the
rest of the evaluation waits during a handover (R439 to R441, R443, R531). -/
def execLeakMeasurement (ohms : Nat) (s : State) : Host.Outcome State Fault Refusal :=
  if !s.life.powerGood then .next s
  else
    let s := (s.odSetN 0x3440 0 (min ohms (2 ^ 32 - 1))).thm (fun t => { t with wet := if leakWet ohms then t.wet + 1 else 0 })
    let s := if s.thermal.wet ≥ 3 then (s.odSetN 0x3441 0 2).powerOff 16 0 else s
    .next (if s.handing then s.holdSample (.leak ohms) else s.evalLeak ohms)

/-- The active Slate controller evaluates a self-test: a failure is a sensor fault, and three passes with dry readings throughout clear one
(R402, R439 to R441). -/
def State.evalSelfTest (s : State) (pass : Bool) : State :=
  let s := (s.odInc 0x3442 (if pass then 1 else 2)).progress 8
  if !pass then (s.thm (fun t => { t with passes := 0, dry := true })).leakFault 4
  else
    let n := if s.thermal.dry then s.thermal.passes + 1 else 0
    let s := s.thm (fun t => { t with tested := true, passes := n, dry := true })
    if s.thermal.leakCause != 0 && n ≥ 3 then
      let s := ((s.thm (fun t => { t with leakCause := 0 })).odSetN 0x3441 0 1).alertSet 1 false
      s.sensorAmber.limitNow
    else s

/-- A reading within 5% of a reference, in ohms (R439). -/
def leakNear (ref ohms : Nat) : Bool := decide (95 * ref ≤ 100 * ohms) && decide (100 * ohms ≤ 105 * ref)

/-- LEAK_SELF_TEST: the readings of the internal 10 kΩ and 1 MΩ references, which pass where each lies within 5%; the evaluation waits
during a handover (R439, R531). -/
def execLeakSelfTest (low high : Nat) (s : State) : Host.Outcome State Fault Refusal :=
  if !s.life.begun then .next s
  else
    let pass := leakNear 10_000 low && leakNear 1_000_000 high
    .next (if s.handing then s.holdSample (.selfTest pass) else s.evalSelfTest pass)

/-- A handover ends: the samples that it held are evaluated, in order (R531). -/
def State.samplesRun (s : State) : State :=
  s.thermal.held.foldl (fun s x => match x with
    | .temps r p => s.evalTemps r p
    | .leak r => s.evalLeak r
    | .selfTest b => s.evalSelfTest b) (s.thm (fun t => { t with held := [] }))

/-! ### The manager's absence and telemetry (R445, R497) -/

/-- OD 0x3460: seconds since the timer started (R445). -/
def State.absenceSeconds (s : State) : Nat := s.mgmt.absence.elim 0 (fun t => min ((s.now - t) / 1_000_000_000) (2 ^ 32 - 1))

/-- MANAGER_ABSENCE_EXPIRY: the timer reaches OD 0x3461: AC.MGR, and nothing else (R445). -/
def execManagerAbsenceExpiry (s : State) : Host.Outcome State Fault Refusal :=
  let s := s.odApply 0x3461 0
  if s.mgmt.absence.isSome && s.absenceSeconds ≥ s.odNum 0x3461 0 then .next (s.amber 12 true) else .next s

/-- TELEMETRY_SAMPLE: once a second, a record of the last 60 (R445, R497). A zone with no good sensor shows its throttle limit. -/
def execTelemetrySample (s : State) : Host.Outcome State Fault Refusal :=
  let r : Telem := ⟨s.fab, s.odNum 0x3001 0, s.odNum 0x3003 0,
    (List.range 5).map (fun z => (s.zoneTemp z).getD (s.throttle z))⟩
  let l := s.mgmt.telem ++ [r]
  .next { s with mgmt := { s.mgmt with telem := l.drop (l.length - 60) } }

/-- The bytes of OD 0x1120. -/
def Telem.bytes (r : Telem) : List Byte :=
  leBytes 8 r.time ++ leBytes 2 r.power ++ leBytes 2 0 ++ leBytes 4 r.limit ++
  r.zones.flatMap (fun t => leBytes 2 (ofSigned 16 (t / 10))) ++ leBytes 6 0

end Sys2Proof.Machine
end

