-- ==== Sys2Proof/Machine/TapOps.lean ====
section
/-! DEFINITION. The test access port: four TAP controllers in a chain (R465 to R468). -/
namespace Sys2Proof.Machine

/-- The next state of a TAP controller (IEEE 1149.1, R465). -/
def TapSt.next (st : TapSt) (tms : Bool) : TapSt :=
  match st, tms with
  | .reset, true => .reset | .reset, false => .idle
  | .idle, true => .selDr | .idle, false => .idle
  | .selDr, true => .selIr | .selDr, false => .capDr
  | .capDr, true => .ex1Dr | .capDr, false => .shDr
  | .shDr, true => .ex1Dr | .shDr, false => .shDr
  | .ex1Dr, true => .updDr | .ex1Dr, false => .pauDr
  | .pauDr, true => .ex2Dr | .pauDr, false => .pauDr
  | .ex2Dr, true => .updDr | .ex2Dr, false => .shDr
  | .updDr, true => .selDr | .updDr, false => .idle
  | .selIr, true => .reset | .selIr, false => .capIr
  | .capIr, true => .ex1Ir | .capIr, false => .shIr
  | .shIr, true => .ex1Ir | .shIr, false => .shIr
  | .ex1Ir, true => .updIr | .ex1Ir, false => .pauIr
  | .pauIr, true => .ex2Ir | .pauIr, false => .pauIr
  | .ex2Ir, true => .updIr | .ex2Ir, false => .shIr
  | .updIr, true => .selDr | .updIr, false => .idle

/-- `k` bits of a number, bit 0 first. -/
def bitsOf (k n : Nat) : List Bool := (List.range k).map (fun i => bit i n)
def natOf (l : List Bool) : Nat := l.foldr (fun b n => b2n b + 2 * n) 0

/-- The dies of the chain, from TDI: 0 F0, 1 C0, 2 C1, 3 F1; their IDCODEs and boundary lengths (R465, R467, R468). -/
def idcode (d : Nat) : Nat := [0x1A41_04E7, 0x1A40_04E7, 0x1A40_14E7, 0x1A41_14E7].getD d 0
def boundaryLen (d : Nat) : Nat := if d = 0 || d = 3 then 48 else 16

/-- The cells of a die's boundary register (R468), with the levels at `REMOVE_REQ#` and `PERST#`. -/
def State.boundary (s : State) (d : Nat) (removeReq perst : Bool) : List Bool :=
  let l := s.life
  let pins := bitsOf 6 l.slotId ++ [!l.resetLow, removeReq, !l.alert, l.powerGood, !l.present]
  let pins := if d = 0 then pins ++ [perst, false] else if d = 3 then pins else []
  pins ++ List.replicate (boundaryLen d - pins.length) false

/-- What Capture-DR loads (R466). -/
def State.captured (s : State) (d : Nat) (ir : Nat) (removeReq perst : Bool) : List Bool :=
  if ir = 2 then bitsOf 32 (idcode d) else if ir = 3 then s.boundary d removeReq perst else [false]

/-- One die's controller over one TCK cycle: capture or shift, then the next state, then the update (R465, R466). -/
def State.tapCycle (s : State) (d : Nat) (t : Tap) (tms tdi removeReq perst : Bool) : Tap :=
  let t := match t.st with
    | .capDr => { t with drSh := s.captured d t.ir removeReq perst }
    | .shDr => { t with drSh := t.drSh.drop 1 ++ [tdi] }
    | .capIr => { t with irSh := bitsOf 6 1 }
    | .shIr => { t with irSh := t.irSh.drop 1 ++ [tdi] }
    | _ => t
  let st := t.st.next tms
  let ir := match st with
    | .reset => 2
    | .updIr => natOf t.irSh
    | _ => t.ir
  { t with st := st, ir := ir }

/-- The bit that a die drives on its TDO while it shifts. -/
def Tap.tdo (t : Tap) : Bool := match t.st with
  | .shDr => t.drSh.headD false
  | .shIr => t.irSh.headD false
  | _ => false
def Tap.shifts (t : Tap) : Bool := t.st == .shDr || t.st == .shIr

def State.tap (s : State) (d : Nat) : Tap := tget Tap.blank s.taps d

/-- TCK_CYCLE: one cycle of TCK with the levels at TMS and TDI, and at the two pins that move with no row of their own; TDO is driven during a shift (R465, R466). -/
def execTckCycle (tms tdi removeReq perst : Bool) (s : State) : Host.Outcome State Fault Refusal :=
  if !s.life.powerGood then .next s
  else
    let old := s
    let inAt := fun d => if d = 0 then tdi else (old.tap (d - 1)).tdo
    let s := { s with life := { s.life with reqSeen := some (s.now, removeReq), perst := perst, perstAt := s.now } }
    let s := if (old.tap 3).shifts then s.emit (.tdo (old.tap 3).tdo) else s
    .next ((List.range 4).foldl (fun s d =>
      { s with taps := tset Tap.blank s.taps d (old.tapCycle d (old.tap d) tms (inAt d) removeReq perst) }) s)

/-- TRST_ASSERT: every controller is in Test-Logic-Reset with IDCODE selected (R465, R466). -/
def execTrstAssert (s : State) : Host.Outcome State Fault Refusal := .next { s with taps := [] }

end Sys2Proof.Machine
end

