-- ==== Sys2Proof/Machine/TraceOps.lean ====
section
/-! DEFINITION. The trace sink, the rings, the trace port and the counter space (R541 to R554). -/
namespace Sys2Proof.Machine

/-! ### Records and rings (R541, R543 to R546, R549) -/

/-- A record with its number, and with its address and data withheld or not (R541, R549). -/
def Lilac.bytes (r : Lilac) (seq : Nat) (hide : Bool) : List Byte :=
  leBytes 32 (r.time % 2 ^ 64 * 2 ^ 192 + r.kind * 2 ^ 184 + r.code % 256 * 2 ^ 176 + seq % 65536 * 2 ^ 160 + r.part.getD 0 * 2 ^ 156 +
    b2n r.part.isSome * 2 ^ 155 + b2n hide * 2 ^ 154 + b2n r.unlocked * 2 ^ 153 + r.src % 65536 * 2 ^ 128 +
    (if hide then 0 else r.addr % 2 ^ 64 * 2 ^ 64 + r.data % 2 ^ 64))

/-- TRACE_RECORD: the sink accepts the next record, numbers it, and delivers it: to its partition's ring and to the management ring as
OD 0xA201 says, and to the port while that is enabled. A record that finds the sink's queue full is dropped, and counted (R543 to
R549). -/
def execTraceRecord (full : Bool) (s : State) : Host.Outcome State Fault Refusal :=
  match s.trace.src with
  | [] => .next s
  | r :: rest =>
    let s := s.sinkApply
    let seq := s.trace.seq
    let s := { s with trace := { s.trace with src := rest, seq := (seq + 1) % 65536 } }
    let sink := s.odNum 0xA201 0
    let mgmt := decide (sink = 1 ∨ sink = 3) && (s.ringSet 0).isSome
    let own := match r.part with
      | some p => if decide (sink ≥ 2) && (s.ringSet (p + 1)).isSome then some (p + 1) else none
      | none => none
    if full then
      let s := s.odInc 0xA210 0
      let s := if mgmt then s.ringLost 0 else s
      .next (match own with
        | some k => s.ringLost k
        | none => s)
    else
      let shown := r.bytes seq r.hide
      let s := if mgmt then s.ringWrite 0 r.time shown else s
      let s := match own with
        | some k => s.ringWrite k r.time (r.bytes seq false)
        | none => s
      if !s.odBool 0xA204 0 then .next s
      else if s.trace.portq.length ≥ 1024 then .next (s.odInc 0xA210 0)
      else .next { s with trace := { s.trace with portq := s.trace.portq ++ [shown] } }

/-! ### The trace port (R548) -/

/-- A frame of the trace port. -/
def frameOf (n : Nat) (recs : List (List Byte)) : List Byte :=
  let body := leBytes 2 n ++ leBytes 1 (n % 2) ++ leBytes 1 recs.length ++ padTo 256 recs.flatten
  leBytes 4 0x4C49_4C41 ++ body ++ leBytes 4 (crc32c body)

/-- One bit through a lane's scrambler x^58 + x^39 + 1: the bit sent, and the last 58 bits sent (R548). -/
def scrambleBit (st : Nat) (d : Bool) : Bool × Nat :=
  let b := d ^^ bit 38 st ^^ bit 57 st
  (b, (2 * st + b2n b) % 2 ^ 58)
def scrambleByte (st : Nat) (x : Byte) : Byte × Nat :=
  let r := (List.range 8).foldl (fun (a : Nat × Nat) i =>
    let p := scrambleBit a.2 (bit i x.toNat)
    (a.1 + b2n p.1 * 2 ^ i, p.2)) (0, st)
  (BitVec.ofNat 8 r.1, r.2)
/-- Bytes as a lane sends them, the least significant bit of each first (R548). -/
def scramble : Nat → List Byte → List Byte × Nat
  | st, [] => ([], st)
  | st, x :: xs =>
    let p := scrambleByte st x
    let r := scramble p.2 xs
    (p.1 :: r.1, r.2)

/-- TRACE_FRAME: the port sends a frame with up to eight records, empty while it is not enabled, scrambled on its lane; the lanes are idle in
a whole-module reset (R464, R548). -/
def execTraceFrame (s : State) : Host.Outcome State Fault Refusal :=
  if !s.life.powerGood || s.faults.resets.any (fun r => r.scope == 4 || r.scope == 8) then .next s
  else
    let s := s.odApply 0xA204 0
    let l := if s.odBool 0xA204 0 then s.trace.portq.take 8 else []
    let n := s.trace.frame
    let f := frameOf n l
    let r := scramble (tget 0 s.trace.scr (n % 2)) f
    let s := { s with trace := { s.trace with
      portq := s.trace.portq.drop l.length, frame := n + 1, scr := tset 0 s.trace.scr (n % 2) r.2 } }
    .next (s.emit (.traceFrame f r.1))

/-! ### Counters (R550, R551) -/

/-- The objects of a snapshot group, in order (R550). -/
def groupObjs (g : Nat) : List Nat :=
  match g with
  | 0 => [0x7000, 0x7003, 0x7004, 0x7011, 0x7025, 0x7032, 0x7033, 0x7811, 0x7820, 0xA210, 0x1122, 0x1130, 0x1131]
  | 1 => [0x3016, 0x3031, 0x3040, 0x3041, 0x3430, 0x3442, 0x3451]
  | 2 => [0x4021, 0x4022, 0x4023, 0x4024, 0x4025, 0x4026]
  | 3 => [0x4415, 0x4416, 0x4424, 0x4430, 0x4445, 0x4810]
  | 4 => [0x8003, 0x8020, 0x8021, 0x8042, 0x8050, 0x8060]
  | 5 => [0x8808, 0x8809, 0x880A, 0x880B]
  | 6 => [0x9010, 0x9011, 0x9012]
  | 7 => [0x5010, 0x5011, 0x5012, 0x5020]
  | 8 => [0x5851, 0x5852, 0x5860, 0x5861, 0x5862, 0x5863, 0x5864]
  | 9 => [0x6008, 0x6418, 0x6440]
  | _ => []

/-- The elements of an object: subindex 0 of a scalar, 1 to n of an array. -/
def elemsOf (idx : Nat) : List (Nat × Nat) :=
  match odInfo idx with
  | some o => if o.n = 0 then [(idx, 0)] else (List.range o.n).map (fun i => (idx, i + 1))
  | none => []

/-- The element that counter `j` of a group shows, for the groups of objects. -/
def counterElem (g j : Nat) : Option (Nat × Nat) := ((groupObjs g).flatMap elemsOf)[j]?

/-- A counter of the counter space (R550, R551). -/
def State.counterAt (s : State) (c : Nat) : Nat :=
  let g := c / 128
  if g = 10 then
    let j := c % 128
    if j < 16 then (s.part j).addrFaults else if j < 32 then (s.part (j - 16)).invConv
    else if j < 48 then (s.part (j - 32)).bxOvf else 0
  else if 2048 ≤ c && c < 2048 + 4 * 288 then
    let n := (c - 2048) / 4
    if s.clusterDown (clusterOf n) then 0 else tget 0 (s.core n).act ((c - 2048) % 4)
  else match counterElem g (c % 128) with
    | some e => s.odNum e.1 e.2
    | none => 0

/-- The partition that a counter belongs to, if it belongs to one (R552; log entry 190). -/
def State.counterPart (s : State) (c : Nat) : Option Nat :=
  let g := c / 128
  if g = 10 then (if c % 128 < 48 then some (c % 16) else none)
  else if 2048 ≤ c && c < 2048 + 4 * 288 then
    let n := clusterOf ((c - 2048) / 4)
    (List.range 16).find? (fun p => (s.part p).st != .absent && (s.part p).hasCluster n)
  else match counterElem g (c % 128) with
    | some e => odPart e.1 e.2
    | none => none

/-- A counter as a door sees it: through the host door those of a partition that PF0 does not serve read 0 (R552). -/
def State.counterFor (s : State) (door : Door) (c : Nat) : Nat :=
  if door = .h && (s.counterPart c).any (fun p => s.serving p != 0) then 0 else s.counterAt c

/-- The 1,040 bytes of a snapshot of a group (R552). -/
def State.snapshot (s : State) (door : Door) (g : Nat) : List Byte :=
  leBytes 2 g ++ leBytes 6 0 ++ leBytes 8 s.fab ++ (List.range 128).flatMap (fun j => leBytes 8 (s.counterFor door (128 * g + j)))

end Sys2Proof.Machine
end

