-- ==== Sys2Proof/Machine/Dict.lean ====
section
/-! DEFINITION. The dictionary as a door sees it: views, filters, checks and effects of a write (R15 to R19, R484 to R489, R499 to
R510). -/
namespace Sys2Proof.Machine

/-! ### What an element shows -/

/-- The station address: 02, then bits [39:0] of the serial number (R476). -/
def State.station (s : State) : Nat := 2 * 2 ^ 40 + s.serial % 2 ^ 40

/-- The element of OD 0x1111 of a session (R498). -/
def Session.bytes (x : Session) : List Byte :=
  leBytes 2 x.id ++ leBytes 1 x.ver ++ leBytes 1 x.flags ++ leBytes 4 (if x.ver = 1 then 0 else if x.ver = 2 then 3 else 0xF) ++
  leBytes 6 x.src ++ leBytes 2 0

/-- PLCA's state: 0 without a node ID, 1 with its transmit opportunity, 2 awaiting a beacon (R475, R498). -/
def State.plcaState (s : State) : Nat := if s.mgmt.plcaId = 0xFF then 0 else if s.mgmt.plcaSeen then 1 else 2

/-- The level at `REMOVE_REQ#`: as a command of this time shows it, and a free value while none does (R456, R473; log entry 42). -/
def State.removeReqHigh (s : State) : Bool :=
  match s.life.reqSeen with
  | some (t, high) => if t = s.now then high else Config.removeReqLevel s.now
  | none => Config.removeReqLevel s.now

/-- The level at `PERST#`: an assertion is a command, so that a high level stays until one; a low one was seen at its time (R462, R473; log entry
42). -/
def State.perstHigh (s : State) : Bool := s.life.perst || (s.life.perstAt != s.now && Config.perstLevel s.now)

/-- The side-band levels (R473). -/
def State.sideBand (s : State) : Nat :=
  let l := s.life
  b2n (!l.resetLow) + 2 * b2n s.removeReqHigh + 4 * b2n l.present + 8 * b2n s.perstHigh + 16 * b2n l.alert + 32 * b2n l.powerGood

/-- The value last accepted for an element, applied or not (R19). -/
def State.odHeld (s : State) (idx sub : Nat) : OdVal := (s.odPending idx sub).elim (s.odGet idx sub) id

/-- A ring object: its setting, its header, and for the management ring its records; while a partition's region overlaps that ring, no byte of
memory shows (R347, R545, R546). -/
def State.ringView (s : State) (k : Nat) : List Byte :=
  let o := ringObj k
  let b := (s.odHeld o.1 o.2).bytes
  if b.isEmpty then []
  else
    let base := fieldAt b 0 8
    let len := fieldAt b 8 8
    b ++ (s.ringHdr k).bytes ++
      (if k ≠ 0 then []
       else if s.ringBlocked base len then (List.range (len - 32)).map (Config.ringHidden s.now)
       else (List.range (len - 32)).map (fun i => s.hbmByte (base + 32 + i)))

/-- What an element shows before any filter: a view of the state that the object reports, or the value last accepted (R19). -/
def State.odShow (s : State) (snap : Nat) (idx sub : Nat) : OdVal :=
  if 0xA100 ≤ idx && idx ≤ 0xA11F && sub ≠ 0 then .num (s.counterAt ((idx - 0xA100) * 128 + sub - 1))
  else match idx with
    | 0x1101 => .num s.station
    | 0x1103 => .num (s.mgmt.plcaId * 256 + s.plcaState)
    | 0x1111 => if sub = 0 then .num 5
        else .blob ((s.mgmt.sessions.find? (fun x => x.slot == sub)).elim [] Session.bytes)
    | 0x1120 => .blob (s.mgmt.telem.flatMap Telem.bytes)
    | 0x1121 => .num s.mgmt.nextEvent
    | 0x2006 => .num s.sideBand
    | 0x3012 => .num s.paceView
    | 0x3460 => .num s.absenceSeconds
    | 0x4441 => .num s.fab
    | 0x6403 => if sub = 0 then .num 6 else .blob (s.block sub)
    | 0x7801 => .num s.clk.localTime
    | 0x7802 => if sub = 1 || sub = 2 then .num (1000 * s.clk.coreMHz) else odDefault idx sub
    | 0x8801 | 0x8803 => if sub ≠ 0 && s.clusterDown ((sub - 1) / 12) then .num 0 else s.odHeld idx sub
    | 0x8802 | 0x8804 => if sub ≠ 0 && s.clusterDown (12 + (sub - 1) / 12) then .num 0 else s.odHeld idx sub
    | 0xA001 => .num snap
    | 0xA002 => .blob (List.replicate 1040 0)
    | 0xA202 => .blob (s.ringView 0)
    | 0xA203 => if sub = 0 then .num 16 else .blob (s.ringView sub)
    | _ => s.odHeld idx sub

/-- Whether a value last accepted is not applied yet (R19). -/
def State.odWaits (s : State) (idx sub : Nat) : Bool :=
  (if idx = 0x5810 && sub ≠ 0 then s.apertureHeld (sub - 1) else (s.odPending idx sub).isSome) ||
  (idx == 0x4001 && sub != 0 && (s.link (sub - 1)).disableAt.isSome) ||
  (idx == 0x4412 && s.fabric.swap.isSome && !s.fabric.stopped)

/-- The group of a descriptor, state or instance element (R502). -/
def groupOf (idx sub : Nat) : Option Nat :=
  if (0x5100 ≤ idx && idx ≤ 0x511F) || (0x5200 ≤ idx && idx ≤ 0x521F) || (0x5300 ≤ idx && idx ≤ 0x531F) then
    (if sub = 0 then none else some ((idx % 0x20) * 128 + sub - 1))
  else none

/-- The partition that a group's descriptor names, if it has one. -/
def State.groupPart (s : State) (g : Nat) : Option Nat :=
  let b := (s.odHeld (gIdx 0x5100 g) (gSub g)).bytes
  if b.isEmpty then none else some (gdPart b)

/-- Objects whose elements the host door reads whatever the partition: R318 and R348 filter their writes only (R509). -/
def readsFree (idx : Nat) : Bool :=
  idx == 0x5830 || idx == 0x5840 || idx == 0x5841 || idx == 0x6010 || (decide (0x6100 ≤ idx) && decide (idx ≤ 0x610F))

/-- A record of a secure partition that the reader does not serve (R372). -/
def State.recordHidden (s : State) (sub : Nat) : Bool :=
  let w := leNat (s.odBlob 0x7010 sub)
  bit 75 w && (s.part (bits 79 76 w)).secure && s.serving (bits 79 76 w) != 0

/-- Whether a host-door read shows the default instead (R314, R341, R372, R509, R552; log entry 190). -/
def State.odHidden (s : State) (idx sub : Nat) : Bool :=
  let away := fun (p : Option Nat) => p.any (fun p => s.serving p != 0)
  if 0xA100 ≤ idx && idx ≤ 0xA11F && sub ≠ 0 then away (s.counterPart ((idx - 0xA100) * 128 + sub - 1))
  else if idx = 0x7010 then s.recordHidden sub
  else match groupOf idx sub with
    | some g => away (s.groupPart g)
    | none => !readsFree idx && away (odPart idx sub)

/-- Whether an object has a subindex (R499). -/
def OdInfo.hasSub (o : OdInfo) (sub : Nat) : Bool := if o.n = 0 then sub == 0 else decide (sub ≤ o.n)

/-- An element that the licence disables: of links L8 to L11 and their lanes, and of partitions above the number licensed (R2,
R510). What is no element of its object is none (R499). -/
def State.unlicensed (s : State) (idx sub : Nat) : Bool :=
  (odInfo idx).any (fun o => o.hasSub sub) && ((odLink idx sub).any (fun n => !s.linkLicensed n) || (odPart idx sub).any (fun p => decide (p ≥ s.odNum 0x6000 0)))

/-- The value a door reads in an element. -/
def State.odView (s : State) (door : Door) (snap idx sub : Nat) : OdVal :=
  if s.unlicensed idx sub || (door == .h && s.odHidden idx sub) then
    (if 0xA100 ≤ idx && idx ≤ 0xA11F then .num 0 else odDefault idx sub)
  else s.odShow snap idx sub

/-- Whether the element that a door reads has an accepted value that waits (R484); what is hidden waits for nothing. -/
def State.odViewWaits (s : State) (door : Door) (idx sub : Nat) : Bool :=
  !(s.unlicensed idx sub || (door == .h && s.odHidden idx sub)) && s.odWaits idx sub

/-- A value in its type's encoding (R15). -/
def odBytes (t : OdTy) : OdVal → List Byte
  | .num n => leBytes (t.size.getD 0) n
  | .blob b => b

/-! ### The checks of a write (R504) -/

/-- Several causes: the status that comes first in the order of R493. -/
def firstStatus (l : List Nat) : Nat := (([2, 4, 6, 7, 3, 5, 1] : List Nat).find? (fun c => l.contains c)).getD 0

/-- The bits of a numeric object that are neither Reserved nor undefined: the others are ignored on write and read as 0 (R7, R15, R169,
R256, R349, R378). -/
def odMask (idx : Nat) : Nat :=
  match idx with
  | 0x2005 => 1
  | 0x2101 => 0x1FFF
  | 0x6003 => 0xFF_FFFF
  | 0xA200 => 0xFF
  | 0x4030 => 0xFC00_FFFF
  | 0x6010 => 0x00FF_FFFF
  | 0x7001 => 0xF000_01FF
  | 0x8801 | 0x8802 => 0xFF
  | _ => 2 ^ 64 - 1

/-- A range is covered by a list of ranges. -/
def covered (rs : List (Nat × Nat)) : Nat → Nat → Nat → Bool
  | 0, a, b => decide (b ≤ a)
  | k + 1, a, b =>
    if b ≤ a then true
    else match rs.find? (fun r => decide (r.1 ≤ a) && decide (a < r.1 + r.2)) with
      | some r => covered rs k (r.1 + r.2) b
      | none => false

/-- The HBM of a partition: that of its creation, or that it asks for (R343). -/
def State.hbmFor (s : State) (p : Nat) : List (Nat × Nat) :=
  if (s.part p).st == .absent then s.askedRegions p else (s.part p).regions

/-- The ledger slices of a partition in the 16 stacks (R319). -/
def slicesAt (off size : Nat) : List (Nat × Nat) :=
  if size = 0 then [] else (List.range 16).map (fun k => (k * stackSize + off, size * 0x10_0000))

/-- Protected regions, offset and size together (R318, R319). -/
def State.ledgerOk (s : State) (p : Nat) (b : List Byte) (off size : Nat) : Bool :=
  let rs := regionList b
  let sl := slicesAt off size
  let inside := fun (r : Nat × Nat) => covered (s.hbmFor p) 40 r.1 (r.1 + r.2)
  b.length % 16 == 0 && decide (b.length ≤ 1024) && off % 0x10_0000 == 0 && decide (size ≤ 3072) &&
  decide (off + size * 0x10_0000 ≤ stackSize) &&
  rs.all (fun r => r.1 % 0x1_0000 == 0 && r.2 % 0x1_0000 == 0 && r.2 != 0 && decide (r.1 + r.2 ≤ 0x0C0_0000_0000) && inside r &&
    sl.all (fun x => !rangesMeet x r)) &&
  pairwiseApart rs && sl.all inside && (rs.isEmpty || size != 0)

/-- The ranges of every declared slice and protected region, as last accepted (R545). -/
def State.declared (s : State) : List (Nat × Nat) :=
  (List.range 16).flatMap (fun p =>
    slicesAt (s.askedNum 0x5840 (p + 1)) (s.askedNum 0x5841 (p + 1)) ++ regionList (s.askedBlob 0x5830 (p + 1)))

/-- A ring's setting (R545, R546). -/
def State.ringOk (s : State) (k : Nat) (b : List Byte) : Bool :=
  let r := (fieldAt b 0 8, fieldAt b 8 8)
  b.isEmpty ||
  (b.length == 16 && r.1 % 0x1_0000 == 0 && r.2 % 32 == 0 && decide (r.1 + r.2 ≤ 0x0C0_0000_0000) &&
   s.declared.all (fun x => !rangesMeet x r) &&
   (if k = 0 then decide (32768 ≤ r.2) && decide (r.2 ≤ 65504) &&
      (List.range 16).all (fun p => (s.part p).st == .absent || (s.part p).regions.all (fun x => !rangesMeet x r))
    else r.2 % 0x1_0000 == 0 && decide (0x1_0000 ≤ r.2) && decide (r.2 ≤ 0x4000_0000) && covered (s.hbmFor (k - 1)) 40 r.1 (r.1 + r.2)))

/-- A Locked object's block is running (R505). -/
def State.lockedNow (s : State) (idx sub : Nat) : Bool :=
  match idx with
  | 0x4400 => s.inService
  | 0x4410 => s.odNum 0x4402 0 == 0
  | 0x4411 => s.odNum 0x4402 0 == 1
  | 0x6003 | 0x6004 | 0x6005 | 0x9001 => (s.part (sub - 1)).st != .absent
  | 0xA202 | 0xA203 => s.odNum 0xA201 0 != 0
  | _ => false

/-- The status that an object's own rule gives a number (its range in the index is checked beside this). -/
def State.ownNum (s : State) (door : Door) (idx sub n : Nat) : Nat :=
  let ok := fun (b : Bool) => if b then 0 else 3
  match idx with
  | 0x1102 => ok (n ≤ 31 || n == 0xFF)
  | 0x2010 => s.serviceCheck n
  | 0x2012 => s.releaseCheck (n == 1)
  | 0x3010 => ok (n ≤ 4095 || n == 0xFFFF)
  | 0x3011 | 0x3020 => ok (n % 25 == 0)
  | 0x3402 => ok (decide (toSigned 16 n ≤ toSigned 16 (odDefault idx sub).toNat))
  | 0x4030 => ok (loopOk n)
  | 0x4400 => ok (decide (n < 2 ^ 20))
  | 0x4412 => firstStatus [ok (s.swapOk n), if s.fabric.stopped then 5 else 0]
  | 0x4425 => ok (decide (n ≥ (s.askedNum 0x4423 0 + 1) * s.askedNum 0x4421 0))
  | 0x5810 => ok (n % 2 ^ 36 == 0)
  | 0x5840 => ok (s.ledgerOk (sub - 1) (s.askedBlob 0x5830 sub) n (s.askedNum 0x5841 sub))
  | 0x5841 => ok (s.ledgerOk (sub - 1) (s.askedBlob 0x5830 sub) (s.askedNum 0x5840 sub) n)
  | 0x6001 => s.partCheck (sub - 1) n
  | 0x6010 => s.admitCheck door (sub - 1) n
  | 0x6410 | 0x6411 | 0x6417 => s.jobCheck idx (leBytes 1 n)
  | 0x7001 => s.resetCheck door n
  | 0x7022 => ok (decide (n ≥ 2 * s.askedNum 0x7020 0))
  | 0x7050 => ok (n == 0 || (List.range 16).all (fun p => (s.part p).st == .absent))
  | 0x8010 => ok (s.spareOk (sub - 1) n)
  | 0x8801 => ok (!s.clusterDown ((sub - 1) / 12))
  | 0x8802 => ok (!s.clusterDown (12 + (sub - 1) / 12))
  | 0xB004 => s.updateCheck n
  | _ => 0

/-- The status that an object's own rule gives bytes. -/
def State.ownBlob (s : State) (door : Door) (idx sub : Nat) (b : List Byte) : Nat :=
  let ok := fun (b : Bool) => if b then 0 else 3
  match groupOf idx sub with
  | some g =>
    if door == .h && (s.groupPart g).any (fun p => s.serving p != 0) then 2
    else if !b.isEmpty && gdPart b < 16 && decide (gdPart b ≥ s.odNum 0x6000 0) then 4
    else ok (s.groupOk b (fun p => door == .m || s.serving p == 0))
  | none =>
    if 0x6100 ≤ idx && idx ≤ 0x610F then s.windowCheck door (idx - 0x6100) b
    else match idx with
      | 0x2110 => ok (remapListOk b)
      | 0x4016 => ok b.isEmpty
      | 0x4410 | 0x4411 => ok (s.tableOk b)
      | 0x5830 => ok (s.ledgerOk (sub - 1) b (s.askedNum 0x5840 sub) (s.askedNum 0x5841 sub))
      | 0x6004 => ok (regionsOk b)
      | 0x6413 | 0x6415 => s.jobCheck idx b
      | 0x6420 => s.unsealCheck door b
      | 0x6450 => ok (s.licenceOk b)
      | 0xA202 => ok (s.ringOk 0 b)
      | 0xA203 => ok (s.ringOk sub b)
      | 0xB003 => s.partStatus b
      | _ => 0

/-- A host-door write to an element of a partition that PF0 does not serve, and a write of either door to the admission element or a window
that R348 guards (R318, R348, R494, R509). -/
def State.writeBarred (s : State) (door : Door) (idx sub : Nat) : Bool :=
  (odPart idx sub).any (fun p => (door == .h && s.serving p != 0) ||
    ((idx == 0x6010 || (decide (0x6100 ≤ idx) && decide (idx ≤ 0x610F))) && !s.guarded door p))

/-- The rights of a door (R16). -/
def OdInfo.reads (o : OdInfo) (d : Door) : Bool := match d with | .m => o.mr | .h => o.hr
def OdInfo.writes (o : OdInfo) (d : Door) : Bool := match d with | .m => o.mw | .h => o.hw

/-- What existence, rights and licence say of a write to one element: 0 where nothing stands against it (R489, R504). -/
def State.writeAdmit (s : State) (door : Door) (idx sub : Nat) : Nat :=
  match odInfo idx with
  | none => 6
  | some o => firstStatus [
      if !o.writes door || (o.n != 0 && sub == 0) || s.writeBarred door idx sub then 2 else 0,
      if s.unlicensed idx sub then 4 else 0,
      if !o.hasSub sub then 6 else 0]

/-- The same of a whole-array write (R489, R503). -/
def allAdmit (door : Door) (idx : Nat) : Nat :=
  match odInfo idx with
  | none => 6
  | some o => if !o.writes door then 2 else if o.n = 0 || o.ty.size.isNone then 7 else 0

/-- The value that bytes spell for a type, where their length fits it (R15, R484). -/
def odRead (t : OdTy) (bs : List Byte) : Option OdVal :=
  match t.size with
  | none => if bs.length ≤ 65535 then some (.blob bs) else none
  | some k => if bs.length = k then (if t = .str32 then some (.blob bs) else some (.num (leNat bs))) else none

/-- The status of a write of bytes to one element, and the value they spell (R493, R504). -/
def State.odStatus (s : State) (door : Door) (idx sub : Nat) (bs : List Byte) : Nat × OdVal :=
  match odInfo idx with
  | none => (6, .num 0)
  | some o =>
    let a := s.writeAdmit door idx sub
    match odRead o.ty bs with
    | none => (firstStatus [a, 7], .num 0)
    | some v =>
      if a ≠ 0 then (a, v)
      else
        let v : OdVal := match v with
          | .num n => .num (n &&& odMask idx)
          | .blob b => .blob b
        let own := match v with
          | .num n => s.ownNum door idx sub n
          | .blob b => s.ownBlob door idx sub b
        let range := match v with
          | .num n => if o.lo ≤ n && n ≤ o.hi || idx = 0x3402 then 0 else 3
          | .blob _ => 0
        (firstStatus [own, range, if o.cls == .lockedW && s.lockedNow idx sub then 1 else 0], v)

/-! ### The effect of an accepted write -/

/-- Whether an accepted write acts only after its response: a whole-module reset (R378, R408). -/
def actsAfter (idx n : Nat) : Bool := (idx == 0x7001 && (bits 31 28 n == 4 || bits 31 28 n == 8)) || (idx == 0x2010 && n == 2)

/-- That act. -/
def State.actAfter (s : State) (idx n : Nat) : State :=
  if idx = 0x7001 then s.resetRequest n else s.moduleReset false false

/-- Accepts a number (R485, R504). -/
def State.takeNum (s : State) (idx sub n : Nat) : State :=
  match idx with
  | 0x2005 => if bit 0 n then s.alertSet 0 false else s
  | 0x2010 => if n = 1 then s.removalStart else s
  | 0x2012 => s.releaseTake (n == 1)
  | 0x2120 => ((s.odAccept idx sub (.num n)).assignSpare (sub - 1))
  | 0x4001 => s.linkEnableSet (sub - 1) (n == 1)
  | 0x4030 => s.loopbackStart (sub - 1) n
  | 0x4400 => s.coordWrite n
  | 0x4412 => s.swapRequest n
  | 0x5810 => s.apertureTake (sub - 1) n
  | 0x5840 | 0x5841 => (s.odAccept idx sub (.num n)).ledgerSettings (sub - 1)
  | 0x6001 => s.partCommand (sub - 1) n
  | 0x6410 | 0x6411 | 0x6417 => s.jobWrite idx (leBytes 1 n)
  | 0x7001 => let s := s.odSetN idx 0 n; if actsAfter idx n then s else s.resetRequest n
  | 0x8002 => (s.odAccept idx sub (.num n)).bypassSafe
  | 0x8010 => s.spareWrite (sub - 1) n
  | 0x8801 => s.marchRequest (sub - 1) n
  | 0x8802 => s.marchRequest (144 + sub - 1) n
  | 0xB004 => s.updateCommand n
  | _ => match odInfo idx with
    | some o => if o.cls = .now then s.odSetN idx sub n else s.odAccept idx sub (.num n)
    | none => s

/-- Accepts bytes (R485, R504). -/
def State.takeBlob (s : State) (idx sub : Nat) (b : List Byte) : State :=
  match groupOf idx sub with
  | some g => s.groupWrite g b
  | none =>
    if 0x6100 ≤ idx && idx ≤ 0x610F then s.windowTake (idx - 0x6100) (sub - 1) b
    else match idx with
    | 0x4410 | 0x4411 => s.odSet idx 0 (.blob b)
    | 0x5830 => (s.odAccept idx sub (.blob b)).ledgerSettings (sub - 1)
    | 0x6413 | 0x6415 => s.jobWrite idx b
    | 0x6420 => s.unsealWrite b
    | 0x6450 => s.licenceTake b
    | 0xB003 => s.partTake b
    | _ => match odInfo idx with
      | some o => if o.cls = .now then s.odSet idx sub (.blob b) else s.odAccept idx sub (.blob b)
      | none => s

def State.odTake (s : State) (idx sub : Nat) (v : OdVal) : State :=
  match v with
  | .num n => s.takeNum idx sub n
  | .blob b => s.takeBlob idx sub b

/-- A write that finds its Locked block running: counted at its door, and an ignored sequence on the host door (R485). -/
def State.odIgnored (s : State) (door : Door) (idx sub : Nat) : State :=
  match door with
  | .m => s.odInc 0x1130 1
  | .h => (s.odInc 0x1130 2).ignored 13 (odPart idx sub) none 0 0x1000 (idx * 256 + sub)

/-! ### Whole requests -/

/-- The outcome of a write: its status, whether it waits, the state after it. -/
structure WrOut where
  status : Nat
  pend : Bool
  st : State

/-- A write of one element (R485). -/
def State.writeOne (s : State) (door : Door) (idx sub : Nat) (bs : List Byte) : WrOut :=
  let r := s.odStatus door idx sub bs
  if r.1 = 0 then
    let s := s.odTake idx sub r.2
    ⟨0, s.odWaits idx sub, s⟩
  else ⟨r.1, false,
    if r.1 = 1 then s.odIgnored door idx sub
    else match idx, r.2 with
      | 0x4412, .num _ => if r.1 = 3 then s.swapRefused else s
      | 0x7001, .num v => if r.1 = 2 || r.1 = 3 || r.1 = 5 then s.resetRefused v else s
      | _, _ => s⟩

/-- The elements of a whole-array write, each against the state with the earlier ones accepted; one that the licence disables is
left alone when it carries its default (R503, R510). -/
def State.writeElems (s : State) (door : Door) (o : OdInfo) (k : Nat) : List Nat → List Byte → List Nat × State
  | [], _ => ([], s)
  | i :: is, bs =>
    let b := bs.take k
    if s.unlicensed o.idx i && b == odBytes o.ty (odDefault o.idx i) then s.writeElems door o k is (bs.drop k)
    else
      let r := s.odStatus door o.idx i b
      let t := if r.1 = 0 then s.odTake o.idx i r.2 else s
      let rest := t.writeElems door o k is (bs.drop k)
      (r.1 :: rest.1, rest.2)

/-- A whole-array write (R503). -/
def State.writeAll (s : State) (door : Door) (idx : Nat) (bs : List Byte) : WrOut :=
  match odInfo idx with
  | none => ⟨6, false, s⟩
  | some o =>
    match (if o.n = 0 then none else o.ty.size) with
    | none => ⟨if o.writes door then 7 else 2, false, s⟩
    | some k =>
      if !o.writes door then ⟨2, false, s⟩
      else if bs.length ≠ 1 + o.n * k || fieldAt bs 0 1 ≠ o.n then ⟨7, false, s⟩
      else
        let r := s.writeElems door o k ((List.range o.n).map (· + 1)) (bs.drop 1)
        let st := firstStatus r.1
        if st = 0 then ⟨0, (List.range o.n).any (fun i => r.2.odWaits idx (i + 1)), r.2⟩
        else ⟨st, false, if st = 1 then s.odIgnored door idx 0 else s⟩

/-- A write request (R484, R485). -/
def State.write (s : State) (door : Door) (idx sub : Nat) (all : Bool) (bs : List Byte) : WrOut :=
  if all then s.writeAll door idx bs else s.writeOne door idx sub bs

/-- A read: its status, whether its value waits, and the value's bytes, of any length (R484, R489, R503). -/
def State.readAny (s : State) (door : Door) (snap idx sub : Nat) (all : Bool) : Nat × Bool × List Byte :=
  match odInfo idx with
  | none => (6, false, [])
  | some o =>
    if !o.reads door then (2, false, [])
    else if !o.hasSub sub then (6, false, [])
    else if all then
      match (if o.n = 0 then none else o.ty.size) with
      | none => (7, false, [])
      | some _ => (0, (List.range o.n).any (fun i => s.odViewWaits door idx (i + 1)),
          leBytes 1 o.n ++ (List.range o.n).flatMap (fun i => odBytes o.ty (s.odView door snap idx (i + 1))))
    else if o.n ≠ 0 && sub = 0 then (0, false, leBytes 1 o.n)
    else (0, s.odViewWaits door idx sub, odBytes o.ty (s.odView door snap idx sub))

end Sys2Proof.Machine
end

