-- ==== Sys2Proof/Machine/Mgmt.lean ====
section
/-! DEFINITION. The Stanan protocol: checks, sessions, requests, segmented transfers, events, the mailbox's request side (R474 to
R498). -/
namespace Sys2Proof.Machine

def State.mgmtSet (s : State) (f : Mgmt → Mgmt) : State := { s with mgmt := f s.mgmt }
def State.session? (s : State) (id : Nat) : Option Session := s.mgmt.sessions.find? (fun x => x.id == id)
def State.updSession (s : State) (id : Nat) (f : Session → Session) : State := s.mgmtSet (fun m => m.setSession id f)

/-! ### Messages -/

/-- The type of a request (R478). -/
def SReq.typ : SReq → Nat
  | .open_ .. => 1 | .close => 2 | .keepalive => 3 | .read .. => 4 | .write .. => 5
  | .segReadInit .. => 6 | .segReadData _ => 7 | .segWriteInit .. => 8 | .segWriteData .. => 9 | .segAbort => 10
  | .eventAck _ => 11
  | .bad t => t
  | .put _ _ bs => if bs.length ≤ 1024 then 5 else 9

/-- The index and subindex that a response repeats, where its request names them (R484). -/
def SReq.target : SReq → Nat × Nat
  | .read i k _ | .write i k _ _ | .segReadInit i k _ | .segWriteInit i k _ _ => (i, k)
  | .put i k bs => if bs.length ≤ 1024 then (i, k) else (0, 0)
  | _ => (0, 0)

/-- Whether a request sets RQ.ALL, and whether RQ.SUB is then 0 (R484). -/
def SReq.isAll : SReq → Bool
  | .read _ _ a | .write _ _ a _ | .segReadInit _ _ a | .segWriteInit _ _ a _ => a
  | _ => false

/-- Whether a request sets reserved bits that its fields show: [7:1] of OP.FLAGS (R479, R480). -/
def SReq.reservedSet : SReq → Bool
  | .open_ _ _ flags _ => decide (flags ≥ 2)
  | _ => false

/-- The body of a response (R484); the pending flag is 0 at version 1 (R481). -/
def rsBody (ver status : Nat) (pend : Bool) (t : Nat × Nat) (data : List Byte) : List Byte :=
  leBytes 1 status ++ leBytes 1 (b2n (pend && decide (ver ≥ 2))) ++ leBytes 2 t.1 ++ leBytes 1 t.2 ++ leBytes 3 0 ++ data

/-- The session that a frame belongs to: of its door, opened from its source address, or from the mailbox (R479). -/
def State.sessionOf (s : State) (f : Frame) : Option Session :=
  s.mgmt.sessions.find? (fun x => x.id == f.session.toNat && x.door == f.door && (f.door == .h || x.src == f.src.toNat))

/-- An error response: counted where an element of OD 0x1131 is its own (R479). It is encoded at the session's version, at the
highest one without a session. -/
def State.refuseMsg (s : State) (f : Frame) (q : SReq) (status elem : Nat) : State :=
  let s := if elem = 0 then s else s.odInc 0x1131 elem
  let ver := (s.sessionOf f).elim s.topVersion (·.ver)
  s.sendTo f.door f.src.toNat
    (stMsg ver (q.typ % 128 + 128) f.session.toNat f.seq.toNat (rsBody ver status false q.target []))

/-- Whether a request's data fits the 1,488 bytes that a body has (R477). -/
def SReq.fits : SReq → Bool
  | .write _ _ _ bs | .segWriteData _ bs => decide (bs.length ≤ 1484)
  | _ => true

/-- The type and body of a message as the request they spell, and whether the body has the length and the reserved zeros of its type; none
for a DISCOVER in order, which only the broadcast address answers (R476, R478 to R480, R484, R488, R491). -/
def reqOf (typ : Nat) (b : List Byte) : Option (SReq × Bool) :=
  let n := b.length
  let idx := fieldAt b 0 2
  let sub := fieldAt b 2 1
  let all := bit 0 (fieldAt b 3 1)
  let flags := fieldAt b 3 1 < 2
  let bad : Option (SReq × Bool) := some (.bad typ, false)
  match typ with
  | 1 => if n = 8 then some (.open_ (fieldAt b 0 1) (fieldAt b 1 1) (fieldAt b 2 1) (fieldAt b 4 4), fieldAt b 3 1 == 0) else bad
  | 2 => if n = 0 then some (.close, true) else bad
  | 3 => if n = 0 then some (.keepalive, true) else bad
  | 4 => if n = 4 then some (.read idx sub all, flags) else bad
  | 5 => if n ≥ 4 then some (.write idx sub all (b.drop 4), flags) else bad
  | 6 => if n = 4 then some (.segReadInit idx sub all, flags) else bad
  | 7 => if n = 4 then some (.segReadData idx, fieldAt b 2 2 == 0) else bad
  | 8 => if n = 8 then some (.segWriteInit idx sub all (fieldAt b 4 4), flags) else bad
  | 9 => if n ≥ 4 then some (.segWriteData idx (b.drop 4), fieldAt b 2 2 == 0) else bad
  | 10 => if n = 0 then some (.segAbort, true) else bad
  | 11 => if n = 8 then some (.eventAck (fieldAt b 0 4), fieldAt b 4 4 == 0) else bad
  | 12 => if n = 0 then none else bad
  | _ => bad

/-- The message in a mailbox slot: its frame and request, with what R479's first two checks find (R477, R495). -/
def slotReq (m : List Byte) : Option (Frame × SReq) :=
  let n := fieldAt m 6 2
  let sound := n ≤ 1488 && fieldAt m (8 + n) 4 == crc32c (m.take (8 + n))
  let frame := fun (formed : Bool) =>
    (⟨.h, 0, 0, BitVec.ofNat 8 (fieldAt m 0 1), BitVec.ofNat 16 (fieldAt m 2 2), BitVec.ofNat 16 (fieldAt m 4 2), sound, formed⟩ : Frame)
  if !sound then some (frame false, .bad (fieldAt m 1 1))
  else (reqOf (fieldAt m 1 1) (slice m 8 n)).map (fun r => (frame r.2, r.1))

/-! ### Sessions (R480 to R482) -/

/-- A session ends: its transfer goes with it; with the management door's last one the absence timer starts (R445, R482). -/
def State.endSession (s : State) (id : Nat) : State :=
  match s.session? id with
  | none => s
  | some x =>
    let s := s.mgmtSet (fun m => { m with sessions := m.sessions.filter (fun y => y.id != id) })
    if x.door == .m && !s.managed && s.life.svc != .grey then s.mgmtSet (fun m => { m with absence := some s.now }) else s

/-- The highest version in both ranges (R20, R480). -/
def commonVersion (vmin vmax : Nat) : Option Nat := ([3, 2, 1] : List Nat).find? (fun v => decide (vmin ≤ v) && decide (v ≤ vmax))

/-- The feature bits of a version (R481). -/
def verFeatures (v : Nat) : Nat := if v = 1 then 0 else if v = 2 then 3 else 0xF

/-- The oldest event held, or the next one where none is. -/
def State.oldestEvent (s : State) : Nat := (s.mgmt.events.head?).elim s.mgmt.nextEvent (·.seq)

/-- The body of an OPEN's response (R480). -/
def State.openBody (s : State) (status ver id : Nat) : List Byte :=
  leBytes 1 status ++ leBytes 1 ver ++ leBytes 2 id ++ leBytes 4 (if ver = 0 then 0 else verFeatures ver) ++
  leBytes 2 (s.odNum 0x1110 0) ++ leBytes 2 0 ++ leBytes 4 s.oldestEvent ++ leBytes 4 s.mgmt.nextEvent ++ leBytes 1 1 ++ leBytes 1 s.topVersion

/-- A session identifier: any but 0, 0xFFFF, those in use and the 64 given most recently; the manual leaves the choice open. -/
def State.pickId (s : State) : Nat × State :=
  let f := s.freeVal 16
  let used := s.mgmt.lastIds ++ s.mgmt.sessions.map (·.id) ++ [0, 0xFFFF]
  ((((List.range 80).map (fun i => (f.1 + i) % 65536)).find? (fun n => !used.contains n)).getD 1, f.2)

/-- The events held above OP.RESUME are sent, after the number of those that have been dropped (R491). -/
def State.replayEvents (s : State) (id resume : Nat) : State :=
  match s.session? id with
  | none => s
  | some x =>
    if !bit 0 x.flags then s
    else
      let last := if resume = 0xFFFF_FFFF then 0 else min resume (s.mgmt.nextEvent - 1)
      let old := s.oldestEvent
      let gone := old - 1 - last
      let from_ := max last (old - 1)
      let s := if gone = 0 then s
        else s.sendTo x.door x.src (stMsg x.ver 0x40 id 0
          ((Event.mk (old - 1) 0x000C 0x1122 0 s.fab gone s.now).body false))
      let s := s.updSession id (fun y => { y with acked := from_, sent := from_ })
      (s.session? id).elim s s.deliverOne

/-- Events that are older than 60 s leave the buffer (R491). -/
def State.agedEvents (s : State) : State :=
  s.mgmtSet (fun m => { m with events := m.events.filter (fun e => decide (s.now ≤ e.at_ + 60_000_000_000)) })

/-- OPEN: on the management door it first ends the session of its source address (R480, R482). -/
def State.openReq (s : State) (f : Frame) (vmin vmax flags resume : Nat) : State :=
  let src := f.src.toNat
  let answer := fun (s : State) (ver id : Nat) (body : List Byte) => s.sendTo f.door src (stMsg ver 0x81 id f.seq.toNat body)
  let s := if f.door == .m then
      (s.mgmt.sessions.filter (fun x => x.door == .m && x.src == src)).foldl (fun s x => s.endSession x.id) s
    else s
  match commonVersion vmin (min vmax s.topVersion) with
  | none => answer s s.topVersion 0 (s.openBody 9 0 0)
  | some ver =>
    let mine := s.mgmt.sessions.filter (fun x => x.door == f.door)
    if mine.length ≥ (if f.door == .m then 4 else 1) then answer s s.topVersion 0 (s.openBody 0xB 0 0)
    else
      let s := s.odApply 0x1110 0
      let p := s.pickId
      let s := p.2.agedEvents
      let slots : List Nat := if f.door == .m then [1, 2, 3, 4] else [5]
      let slot := (slots.find? (fun k => !mine.any (fun x => x.slot == k))).getD 1
      let x : Session := ⟨p.1, slot, f.door, if f.door == .m then src else 0, ver, flags, 0, 0, 0, true, s.now, s.odNum 0x1110 0,
        [], none, [], 0⟩
      let ids := s.mgmt.lastIds ++ [p.1]
      let s := s.mgmtSet (fun m => { m with sessions := m.sessions ++ [x], lastIds := ids.drop (ids.length - 64) })
      let s := if f.door == .m then (s.mgmtSet (fun m => { m with absence := none })).amber 12 false else s
      ((answer s ver p.1 (s.openBody 0 ver p.1))).replayEvents p.1 resume

/-! ### Requests of a session (R484 to R491) -/

/-- The answer to a request: the body of its response, the state, and what happens once the response has left. -/
structure Ans where
  body : List Byte
  st : State
  after : State → State

/-- A status with no data. -/
def State.say (s : State) (x : Session) (q : SReq) (status : Nat) (pend : Bool) : Ans :=
  ⟨rsBody x.ver status pend q.target [], s, id⟩

/-- Segments of a value (R488). -/
def segCount (total : Nat) : Nat := (total + 1023) / 1024

/-- Whether a value of an object may travel in segments: a BLOB, or anything longer than 1,024 bytes (R484, R489). -/
def segAllowed (idx : Nat) (all : Bool) (len : Nat) : Bool :=
  match odInfo idx with
  | none => false
  | some o => if o.ty = .blob && !all then decide (len ≤ 65535)
      else decide (len > 1024) && (match o.ty.size with
        | some k => len == (if all then 1 + o.n * k else k)
        | none => false)

/-- SEG_READ_INIT (R489); the refusals in the order of R493. `RS.PENDING` tells of the value whose transfer this response opens, and no
SEG_READ_DATA response carries it (DESIGN CHOICE, log entry 161). The value of OD 0xA002 is latched later; until then its group stands for it (R552). -/
def State.segReadStart (s : State) (x : Session) (q : SReq) (idx sub : Nat) (all : Bool) : Ans :=
  let r := s.readAny x.door x.snapGroup idx sub all
  let st := firstStatus [r.1, if r.1 = 0 && !segAllowed idx all r.2.2.length then 7 else 0, if x.xfer.isSome then 5 else 0]
  if st ≠ 0 then s.say x q st false
  else
      let n := r.2.2.length
      let v := if idx = 0xA002 then leBytes 2 x.snapGroup else r.2.2
      let t : Xfer := ⟨false, idx, sub, all, n, v, [], false, s.now⟩
      ⟨rsBody x.ver 0 r.2.1 q.target (leBytes 4 n), if n = 0 then s else s.updSession x.id (fun y => { y with xfer := some t }), id⟩

/-- SEG_READ_DATA; a snapshot that has not been latched makes it wait. The transfer ends when every segment has been sent. -/
def State.segRead (s : State) (x : Session) (q : SReq) (k : Nat) : Option Ans :=
  match x.xfer with
  | none => some (s.say x q 0xA false)
  | some t =>
    if t.write then some (s.say x q 0xA false)
    else if t.index = 0xA002 && !t.latched then none
    else if 1024 * k ≥ t.total then some (s.say x q 0xA false)
    else
      let segs := tput t.segs k []
      let next := if segs.length = segCount t.total then none else some { t with segs := segs, at_ := s.now }
      some ⟨rsBody x.ver 0 false q.target (slice t.value (1024 * k) 1024), s.updSession x.id (fun y => { y with xfer := next }), id⟩

/-- A decided write of a transfer (R489). -/
def State.segDecide (s : State) (x : Session) (q : SReq) (idx sub : Nat) (all : Bool) (bs : List Byte) : Ans :=
  let w := s.write x.door idx sub all bs
  w.st.say x q w.status w.pend

/-- SEG_WRITE_INIT: existence, rights, licence and the length allowed (R489). A transfer of no bytes is decided at once. -/
def State.segWriteStart (s : State) (x : Session) (q : SReq) (idx sub : Nat) (all : Bool) (total : Nat) : Ans :=
  let rights := if all then allAdmit x.door idx else s.writeAdmit x.door idx sub
  let st := firstStatus [rights, if segAllowed idx all total then 0 else 7, if x.xfer.isSome then 5 else 0]
  if st ≠ 0 then s.say x q st false
  else if total = 0 then s.segDecide x q idx sub all []
  else
      let t : Xfer := ⟨true, idx, sub, all, total, [], [], false, s.now⟩
      (s.updSession x.id (fun y => { y with xfer := some t })).say x q 0 false

/-- SEG_WRITE_DATA: within the window and of the right length, or the transfer ends; the last missing segment decides (R489). -/
def State.segWrite (s : State) (x : Session) (q : SReq) (k : Nat) (bs : List Byte) : Ans :=
  let stop := fun (s : State) => s.updSession x.id (fun y => { y with xfer := none })
  match x.xfer with
  | none => s.say x q 0xA false
  | some t =>
    if !t.write then s.say x q 0xA false
    else
      let n := segCount t.total
      let base := ((List.range n).find? (fun i => (tfind t.segs i).isNone)).getD n
      if k < base || k ≥ n || k ≥ base + (if x.ver = 3 then 8 else 1) || bs.length ≠ min 1024 (t.total - 1024 * k) then
        (stop s).say x q 0xA false
      else
        let segs := tput t.segs k bs
        if segs.length = n then (stop s).segDecide x q t.index t.sub t.all (segs.flatMap (·.2))
        else (s.updSession x.id (fun y => { y with xfer := some { t with segs := segs, at_ := s.now } })).say x q 0 false

/-- WRITE (R485). OD 0xA001 is a value of the session (R552). -/
def State.writeReq (s : State) (x : Session) (q : SReq) (idx sub : Nat) (all : Bool) (bs : List Byte) : Ans :=
  let w := s.write x.door idx sub all bs
  let n := leNat bs
  if w.status = 0 && idx = 0xA001 then
    (s.updSession x.id (fun y => { y with snapGroup := n })).say x q 0 false
  else
    ⟨rsBody x.ver w.status w.pend q.target [], w.st, if w.status = 0 && actsAfter idx n then fun s => s.actAfter idx n else id⟩

/-- The object that a request names. -/
def SReq.object : SReq → Option Nat
  | .read i _ _ | .write i _ _ _ | .segReadInit i _ _ | .segWriteInit i _ _ _ | .put i _ _ => some i
  | _ => none

/-- The execution of a request in its turn; none while it waits. The ROM loader knows few objects (R532). -/
def State.stanExec (s : State) (x : Session) (q : SReq) : Option Ans :=
  if s.romServes && q.object.any (fun i => !romObject i) then some (s.say x q 6 false)
  else match q with
  | .open_ .. | .bad _ => some (s.say x q 0 false)
  | .close => some ⟨rsBody x.ver 0 false q.target [], s, fun s => s.endSession x.id⟩
  | .keepalive => some (s.say x q 0 false)
  | .read i k a =>
    let r := s.readAny x.door x.snapGroup i k a
    if r.1 ≠ 0 then some (s.say x q r.1 false)
    else if r.2.2.length > 1024 then some (s.say x q 7 false)
    else some ⟨rsBody x.ver 0 r.2.1 q.target r.2.2, s, id⟩
  | .write i k a bs => some (s.writeReq x q i k a bs)
  | .put i k bs => some (s.writeReq x q i k false bs)
  | .segReadInit i k a => some (s.segReadStart x q i k a)
  | .segReadData k => s.segRead x q k
  | .segWriteInit i k a n => some (s.segWriteStart x q i k a n)
  | .segWriteData k bs => some (s.segWrite x q k bs)
  | .segAbort => some (if x.xfer.isNone then s.say x q 0xA false
      else (s.updSession x.id (fun y => { y with xfer := none })).say x q 0 false)
  | .eventAck n => some ⟨rsBody x.ver 0 false q.target [],
      s.updSession x.id (fun y => { y with acked := if n ≤ y.sent then max n y.acked else y.acked }),
      fun s => (s.session? x.id).elim s s.deliverOne⟩

/-- A request executes in its turn: its response is stored with the last 8 and sent (R483). -/
def State.stanTurn (s : State) (x : Session) (seq : Nat) (q : SReq) : Option State :=
  match s.stanExec x q with
  | none => none
  | some a =>
    let m := stMsg x.ver (q.typ + 128) x.id seq a.body
    let s := a.st.updSession x.id (fun y =>
      let l := y.store ++ [(seq, m)]
      { y with top := seq, fresh := false, store := l.drop (l.length - 8) })
    some (a.after (s.sendTo x.door x.src m))

/-- The requests of a session that wait for their turn, as far as they can go. -/
def State.earlyRun : Nat → Nat → State → State
  | 0, _, s => s
  | k + 1, id, s =>
    match s.session? id with
    | none => s
    | some x =>
      match x.early.find? (fun e => x.fresh || e.1.seq.toNat == (x.top + 1) % 65536) with
      | none => s
      | some e =>
        match s.stanTurn x e.1.seq.toNat e.2 with
        | none => s
        | some t => earlyRun k id (t.updSession id (fun y => { y with early := y.early.filter (fun z => z.1.seq != e.1.seq) }))

/-- A request of a session after the checks of R479: answered again from the store, executed in its order, held for its turn, or
out of the window (R483). -/
def State.ordered (s : State) (x : Session) (f : Frame) (q : SReq) : State :=
  let seq := f.seq.toNat
  match x.store.find? (fun e => e.1 == seq) with
  | some e => s.sendTo x.door x.src e.2
  | none =>
    let d := (seq + 65536 - (x.top + 1) % 65536) % 65536
    if !x.fresh && d > (if x.ver = 1 then 1 else 8) then s.refuseMsg f q 0xA 0
    else if x.early.any (fun e => e.1.seq == f.seq) then s
    else earlyRun 9 x.id (s.updSession x.id (fun y => { y with early := y.early ++ [(f, q)] }))

/-- A received request goes through the checks of R479. -/
def State.receive (s : State) (f : Frame) (q : SReq) : State :=
  if !f.sound || !q.fits then s.odInc 0x1131 1
  else if !f.formed || (q.isAll && q.target.2 != 0) || q.reservedSet then s.refuseMsg f q 0xC 2
  else match q with
    | .open_ a b c d => s.openReq f a b c d
    | _ =>
      match s.sessionOf f with
      | none => s.refuseMsg f q 8 3
      | some x =>
        if f.ver.toNat ≠ x.ver then s.refuseMsg f q 9 3
        else if q.isAll && x.ver != 3 then s.refuseMsg f q 0xC 2
        else
          let s := s.odApply 0x1110 0
          let s := s.updSession x.id (fun y => { y with heard := s.now, timeout := s.odNum 0x1110 0 })
          (s.session? x.id).elim s (fun x => s.ordered x f q)

/-- A door is served: by the active Slate controller, and the management door by the ROM loader where there is none (R487, R532). -/
def State.served (s : State) (d : Door) : Bool := s.activeRuns || (s.romServes && d == .m)

/-- Whether a door takes a frame: the management door takes those to the station address and to the broadcast address (R476). -/
def State.accepts (s : State) (f : Frame) : Bool := f.door == .h || f.dst.toNat == s.station || f.dst.toNat == broadcast

/-- The mailbox's next published request, and the state in which it is taken: the message is what its slot holds, whichever row says that one
arrives (R495, R496). -/
def State.mbxNext (s : State) : Option (Frame × SReq) × State :=
  let b := s.mgmt.mbx
  let k := b.reqHead % 4
  (slotReq ((List.range 0x600).map (fun i => tget (0 : Byte) b.reqSlots (0x600 * k + i))),
   s.mgmtSet (fun m => { m with mbx := { b with reqHead := (b.reqHead + 1) % 65536 } }))

/-- The row of a request. The active Slate controller serves it; one from the mailbox takes a published slot; during a handover it is
held (R476, R487, R496). -/
def stanReq (f : Frame) (q : SReq) (s : State) : Host.Outcome State Fault Refusal :=
  let b := s.mgmt.mbx
  if !s.served f.door || !s.accepts f || (f.door == .h && b.reqTail == b.reqHead) then .next s
  else
    match if f.door == .h then s.mbxNext else (some (f, q), s) with
    | (none, s) => .next s
    | (some r, s) => if s.handing then .next (s.mgmtSet (fun m => { m with held := m.held ++ [r] })) else .next (s.receive r.1 r.2)

/-- What a handover held goes on: the samples are evaluated, and the requests executed, in order (R487, R531). -/
def State.heldRun (s : State) : State :=
  let s := s.samplesRun
  s.mgmt.held.foldl (fun s e => s.receive e.1 e.2) (s.mgmtSet (fun m => { m with held := [] }))

/-- A write of one object, as a request: the whole value, however many messages carry it (log entry 43). -/
def stanWrite (f : Frame) (idx sub : Nat) (bs : List Byte) (s : State) : Host.Outcome State Fault Refusal :=
  stanReq f (.put idx sub bs) s

/-- The counter sites latch a session's snapshot, and its waiting requests go on (R552). -/
def State.latched (s : State) (x : Session) (t : Xfer) : State :=
  let y := { t with latched := true, value := s.snapshot x.door (fieldAt t.value 0 2) }
  earlyRun 9 x.id (s.updSession x.id (fun z => { z with xfer := some y }))

end Sys2Proof.Machine
end

