-- ==== Sys2Proof/Machine/MgmtRows.lean ====
section
/-! DEFINITION. The commands of the management port: Stanan requests, the port's own events, the writes of single objects that have a
row of their own, and the handover of the Slate controllers (R474 to R498, R524 to R540). -/
namespace Sys2Proof.Machine

/-! ### Stanan requests (R478 to R491) -/

/-- OPEN (R480). -/
def execOpenSession (frame : Frame) (vmin vmax flags : BitVec 8) (resume : BitVec 32) (s : State) : Host.Outcome State Fault Refusal :=
  stanReq frame (.open_ vmin.toNat vmax.toNat flags.toNat resume.toNat) s

/-- CLOSE (R482). -/
def execCloseSession (frame : Frame) (s : State) : Host.Outcome State Fault Refusal := stanReq frame .close s

/-- KEEPALIVE (R482). -/
def execKeepalive (frame : Frame) (s : State) : Host.Outcome State Fault Refusal := stanReq frame .keepalive s

/-- READ (R484). -/
def execReadObject (frame : Frame) (index : BitVec 16) (sub : BitVec 8) (all : Bool) (s : State) :
    Host.Outcome State Fault Refusal :=
  stanReq frame (.read index.toNat sub.toNat all) s

/-- WRITE (R484, R485). -/
def execWriteObject (frame : Frame) (index : BitVec 16) (sub : BitVec 8) (all : Bool) (bytes : List Byte) (s : State) :
    Host.Outcome State Fault Refusal :=
  stanReq frame (.write index.toNat sub.toNat all bytes) s

/-- SEG_READ_INIT (R488, R489). -/
def execSegReadInit (frame : Frame) (index : BitVec 16) (sub : BitVec 8) (all : Bool) (s : State) :
    Host.Outcome State Fault Refusal :=
  stanReq frame (.segReadInit index.toNat sub.toNat all) s

/-- SEG_READ_DATA (R488, R489). -/
def execSegReadData (frame : Frame) (seg : BitVec 16) (s : State) : Host.Outcome State Fault Refusal :=
  stanReq frame (.segReadData seg.toNat) s

/-- SEG_WRITE_INIT (R488, R489). -/
def execSegWriteInit (frame : Frame) (index : BitVec 16) (sub : BitVec 8) (all : Bool) (total : BitVec 32) (s : State) :
    Host.Outcome State Fault Refusal :=
  stanReq frame (.segWriteInit index.toNat sub.toNat all total.toNat) s

/-- SEG_WRITE_DATA (R488, R489). -/
def execSegWriteData (frame : Frame) (seg : BitVec 16) (bytes : List Byte) (s : State) : Host.Outcome State Fault Refusal :=
  stanReq frame (.segWriteData seg.toNat bytes) s

/-- SEG_ABORT (R489). -/
def execSegAbort (frame : Frame) (s : State) : Host.Outcome State Fault Refusal := stanReq frame .segAbort s

/-- EVENT_ACK (R491). -/
def execEventAck (frame : Frame) (seq : BitVec 32) (s : State) : Host.Outcome State Fault Refusal :=
  stanReq frame (.eventAck seq.toNat) s

/-- DISCOVER: on the broadcast address an ANNOUNCE will answer it, and on the station address nothing; a malformed one is answered MALFORMED
(R476, R478, R479). -/
def execDiscover (src dst : BitVec 48) (sound formed : Bool) (s : State) : Host.Outcome State Fault Refusal :=
  if !s.served .m || !(dst.toNat == s.station || dst.toNat == broadcast) then .next s
  else if !sound then .next (s.odInc 0x1131 1)
  else if !formed then .next ((s.odInc 0x1131 2).sendTo .m src.toNat (stMsg s.topVersion 0x8C 0 0 (rsBody s.topVersion 0xC false (0, 0) [])))
  else if dst.toNat == broadcast then .next (s.mgmtSet (fun m => { m with discovers := m.discovers ++ [src.toNat] }))
  else .next s

/-! ### The port's own events -/

/-- ANNOUNCE: the oldest DISCOVER is answered; with none, the interval ends and a module without a session on the management door
announces itself (R476). -/
def execAnnounce (s : State) : Host.Outcome State Fault Refusal :=
  if !s.served .m then .next s
  else match s.mgmt.discovers with
    | d :: rest => .next ((s.mgmtSet (fun m => { m with discovers := rest })).announceTo d)
    | [] => if s.managed then .next s else .next (s.announceTo broadcast)

/-- EVENT_RESEND: an event sent and not acknowledged for 500 ms is sent again, with its flag (R491). -/
def execEventResend (session : BitVec 16) (seq : BitVec 32) (s : State) : Host.Outcome State Fault Refusal :=
  match s.session? session.toNat, s.mgmt.events.find? (fun e => e.seq == seq.toNat) with
  | some x, some e =>
    if x.acked < e.seq && e.seq ≤ x.sent && bit 0 x.flags && s.activeRuns && decide (s.now ≥ e.at_ + 500_000_000) then
      .next (s.sendTo x.door x.src (stMsg x.ver 0x40 x.id 0 (e.body true)))
    else .next s
  | _, _ => .next s

/-- SESSION_TIMEOUT: a session silent for the timeout in force ends (R482). -/
def execSessionTimeout (session : BitVec 16) (s : State) : Host.Outcome State Fault Refusal :=
  match s.session? session.toNat with
  | none => .next s
  | some x => if s.now ≥ x.heard + x.timeout * 1_000_000_000 then .next (s.endSession x.id) else .next s

/-- SEGMENT_IDLE_TIMEOUT: a transfer idle for 5 s ends with nothing applied (R489). -/
def execSegmentIdleTimeout (session : BitVec 16) (s : State) : Host.Outcome State Fault Refusal :=
  match (s.session? session.toNat).bind (·.xfer) with
  | none => .next s
  | some t =>
    if s.now ≥ t.at_ + 5_000_000_000 then .next (s.updSession session.toNat (fun x => { x with xfer := none })) else .next s

/-- SNAPSHOT_LATCH: at t_s the counter sites latch their values for a session's open read of OD 0xA002 (R552). -/
def execSnapshotLatch (session : BitVec 16) (s : State) : Host.Outcome State Fault Refusal :=
  match s.session? session.toNat with
  | none => .next s
  | some x => match x.xfer with
    | none => .next s
    | some t => if t.write || t.index ≠ 0xA002 || t.latched then .next s else .next (s.latched x t)

/-- BEACON: the module returns to its transmit opportunity, and changed PLCA settings take effect (R475). -/
def execBeacon (s : State) : Host.Outcome State Fault Refusal :=
  if s.activeRuns then .next (s.plcaTake.mgmtSet (fun m => { m with plcaSeen := true })) else .next s

/-- BEACON_TIMEOUT: no beacon for 4 ms: CSMA/CD (R475). -/
def execBeaconTimeout (s : State) : Host.Outcome State Fault Refusal := .next (s.mgmtSet (fun m => { m with plcaSeen := false }))

/-! ### The mailbox's indices (R496) -/

/-- A write of REQ.TAIL: a count that keeps at most 4 requests and does not move back, or a refused write. -/
def State.reqTail (s : State) (t : Nat) : State :=
  let b := s.mgmt.mbx
  let k := (t + 65536 - b.reqHead) % 65536
  if k ≤ 4 && k ≥ (b.reqTail + 65536 - b.reqHead) % 65536 then s.mgmtSet (fun m => { m with mbx := { b with reqTail := t } })
  else s.odInc 0x1131 4

/-- Held messages go into slots that are free. -/
def State.mbxFlush (s : State) : State :=
  let held := s.mgmt.mbx.held
  held.foldl State.mbxPut (s.mgmtSet (fun m => { m with mbx := { m.mbx with held := [] } }))

/-- A write of RSP.HEAD: not beyond RSP.TAIL, or a refused write. -/
def State.rspHead (s : State) (h : Nat) : State :=
  let b := s.mgmt.mbx
  if (h + 65536 - b.rspHead) % 65536 ≤ (b.rspTail + 65536 - b.rspHead) % 65536 then
    (s.mgmtSet (fun m => { m with mbx := { b with rspHead := h } })).mbxFlush
  else s.odInc 0x1131 4

/-- REQ_TAIL_WRITE. -/
def execReqTailWrite (value : BitVec 16) (s : State) : Host.Outcome State Fault Refusal := .next (s.reqTail value.toNat)

/-- RSP_HEAD_WRITE. -/
def execRspHeadWrite (value : BitVec 16) (s : State) : Host.Outcome State Fault Refusal := .next (s.rspHead value.toNat)

/-! ### Writes of single objects -/

/-- MARCH_REQUEST: OD 0x8801 or 0x8802 (R169). -/
def execMarchRequest (frame : Frame) (core : Fin 288) (value : BitVec 16) (s : State) : Host.Outcome State Fault Refusal :=
  stanWrite frame (marchReqObj core.val) (core.val % 144 + 1) (leBytes 2 value.toNat) s

/-- SPARE_PAIR_ASSIGN: OD 0x8010 names a channel (R180). -/
def execSparePairAssign (frame : Frame) (stack : Fin 16) (channel : Fin 32) (s : State) : Host.Outcome State Fault Refusal :=
  stanWrite frame 0x8010 (stack.val + 1) (leBytes 1 channel.val) s

/-- SPARE_PAIR_CANCEL: 0xFF (R180). -/
def execSparePairCancel (frame : Frame) (stack : Fin 16) (s : State) : Host.Outcome State Fault Refusal :=
  stanWrite frame 0x8010 (stack.val + 1) [0xFF] s

/-- SEPIA_BYPASS: OD 0x8002 (R196). -/
def execSepiaBypass (frame : Frame) (stack : Fin 16) (value : Bool) (s : State) : Host.Outcome State Fault Refusal :=
  stanWrite frame 0x8002 (stack.val + 1) (leBytes 1 (b2n value)) s

/-- LINK_ENABLE: OD 0x4001 true (R245). -/
def execLinkEnable (frame : Frame) (link : Fin 12) (s : State) : Host.Outcome State Fault Refusal :=
  stanWrite frame 0x4001 (link.val + 1) [1] s

/-- LINK_DISABLE: OD 0x4001 false (R255). -/
def execLinkDisable (frame : Frame) (link : Fin 12) (s : State) : Host.Outcome State Fault Refusal :=
  stanWrite frame 0x4001 (link.val + 1) [0] s

/-- LOOPBACK_REQUEST: OD 0x4030 (R256). -/
def execLoopbackRequest (frame : Frame) (link : Fin 12) (value : BitVec 32) (s : State) : Host.Outcome State Fault Refusal :=
  stanWrite frame 0x4030 (link.val + 1) (leBytes 4 value.toNat) s

/-- COORDINATE_WRITE: OD 0x4400 (R260). -/
def execCoordinateWrite (frame : Frame) (value : BitVec 32) (s : State) : Host.Outcome State Fault Refusal :=
  stanWrite frame 0x4400 0 (leBytes 4 value.toNat) s

/-- ROUTING_TABLE_WRITE: OD 0x4410 or 0x4411 (R266). -/
def execRoutingTableWrite (frame : Frame) (table : Bool) (bytes : List Byte) (s : State) : Host.Outcome State Fault Refusal :=
  stanWrite frame (0x4410 + b2n table) 0 bytes s

/-- SWAP_REQUEST: OD 0x4412 (R272, R273). -/
def execSwapRequest (frame : Frame) (value : Word) (s : State) : Host.Outcome State Fault Refusal :=
  stanWrite frame 0x4412 0 (leBytes 8 value.toNat) s

/-- GROUP_DESCRIPTOR_WRITE: an element of OD 0x5100 to 0x511F (R290, R305). -/
def execGroupDescriptorWrite (frame : Frame) (group : Fin 4096) (bytes : List Byte) (s : State) :
    Host.Outcome State Fault Refusal :=
  stanWrite frame (gIdx 0x5100 group.val) (gSub group.val) bytes s

/-- PARTITION_CREATE: OD 0x6001 with 1 (R344, R345). -/
def execPartitionCreate (frame : Frame) (part : Fin 16) (s : State) : Host.Outcome State Fault Refusal :=
  stanWrite frame 0x6001 (part.val + 1) [1] s

/-- PARTITION_TEARDOWN: OD 0x6001 with 2 (R344, R365). -/
def execPartitionTeardown (frame : Frame) (part : Fin 16) (s : State) : Host.Outcome State Fault Refusal :=
  stanWrite frame 0x6001 (part.val + 1) [2] s

/-- PEER_ADMISSION_WRITE: OD 0x6010 (R348, R349). -/
def execPeerAdmissionWrite (frame : Frame) (part : Fin 16) (value : BitVec 32) (s : State) : Host.Outcome State Fault Refusal :=
  stanWrite frame 0x6010 (part.val + 1) (leBytes 4 value.toNat) s

/-- FABRIC_WINDOW_WRITE: OD 0x6100 + p (R350). -/
def execFabricWindowWrite (frame : Frame) (part : Fin 16) (win : Fin 64) (data : List Byte) (s : State) :
    Host.Outcome State Fault Refusal :=
  stanWrite frame (0x6100 + part.val) (win.val + 1) data s

/-- CREATE_JOB_SECRET: OD 0x6410 (R358). -/
def execCreateJobSecret (frame : Frame) (sel : BitVec 8) (s : State) : Host.Outcome State Fault Refusal :=
  stanWrite frame 0x6410 0 (leBytes 1 sel.toNat) s

/-- MAKE_OFFER: OD 0x6411 (R358). -/
def execMakeOffer (frame : Frame) (sel : BitVec 8) (s : State) : Host.Outcome State Fault Refusal :=
  stanWrite frame 0x6411 0 (leBytes 1 sel.toNat) s

/-- GRANT_REQUEST: OD 0x6413 (R358). -/
def execGrantRequest (frame : Frame) (data : List Byte) (s : State) : Host.Outcome State Fault Refusal :=
  stanWrite frame 0x6413 0 data s

/-- INSTALL_GRANT: OD 0x6415 (R358). -/
def execInstallGrant (frame : Frame) (data : List Byte) (s : State) : Host.Outcome State Fault Refusal :=
  stanWrite frame 0x6415 0 data s

/-- DESTROY_JOB_SECRET: OD 0x6417 (R358). -/
def execDestroyJobSecret (frame : Frame) (sel : BitVec 8) (s : State) : Host.Outcome State Fault Refusal :=
  stanWrite frame 0x6417 0 (leBytes 1 sel.toNat) s

/-- UNSEAL_REQUEST: OD 0x6420 (R363). -/
def execUnsealRequest (frame : Frame) (data : List Byte) (s : State) : Host.Outcome State Fault Refusal :=
  stanWrite frame 0x6420 0 data s

/-- A reset request of a scope: OD 0x7001 (R378). -/
def resetWrite (frame : Frame) (scope : Nat) (target : BitVec 28) (s : State) : Host.Outcome State Fault Refusal :=
  stanWrite frame 0x7001 0 (leBytes 4 (scope * 2 ^ 28 + target.toNat)) s

/-- RESET_CORE: scope 1. -/
def execResetCore (frame : Frame) (target : BitVec 28) (s : State) : Host.Outcome State Fault Refusal := resetWrite frame 1 target s
/-- RESET_CLUSTER: scope 2. -/
def execResetCluster (frame : Frame) (target : BitVec 28) (s : State) : Host.Outcome State Fault Refusal := resetWrite frame 2 target s
/-- RESET_COMPUTE_PART: scope 3. -/
def execResetComputePart (frame : Frame) (target : BitVec 28) (s : State) : Host.Outcome State Fault Refusal :=
  resetWrite frame 3 target s
/-- RESET_WHOLE_MODULE: scope 4. -/
def execResetWholeModule (frame : Frame) (target : BitVec 28) (s : State) : Host.Outcome State Fault Refusal :=
  resetWrite frame 4 target s
/-- LEGACY_CORE: scope 5 (R389). -/
def execLegacyCore (frame : Frame) (target : BitVec 28) (s : State) : Host.Outcome State Fault Refusal := resetWrite frame 5 target s
/-- LEGACY_CLUSTER: scope 6. -/
def execLegacyCluster (frame : Frame) (target : BitVec 28) (s : State) : Host.Outcome State Fault Refusal :=
  resetWrite frame 6 target s
/-- LEGACY_PARTITION: scope 7. -/
def execLegacyPartition (frame : Frame) (target : BitVec 28) (s : State) : Host.Outcome State Fault Refusal :=
  resetWrite frame 7 target s
/-- LEGACY_WHOLE_MODULE: scope 8. -/
def execLegacyWholeModule (frame : Frame) (target : BitVec 28) (s : State) : Host.Outcome State Fault Refusal :=
  resetWrite frame 8 target s

/-- REMOVE: OD 0x2010 with 1 (R408). -/
def execRemoveCmd (frame : Frame) (s : State) : Host.Outcome State Fault Refusal := stanWrite frame 0x2010 0 [1] s

/-- RETURN_TO_SERVICE: OD 0x2010 with 2 (R408). -/
def execReturnToService (frame : Frame) (s : State) : Host.Outcome State Fault Refusal := stanWrite frame 0x2010 0 [2] s

/-- FABRIC_RELEASE: OD 0x2012 (R410). -/
def execFabricRelease (frame : Frame) (value : Bool) (s : State) : Host.Outcome State Fault Refusal :=
  stanWrite frame 0x2012 0 (leBytes 1 (b2n value)) s

/-- DEFECT_MARK_WRITE: OD 0x2101 (R404). -/
def execDefectMarkWrite (frame : Frame) (cluster : Fin 24) (value : BitVec 32) (s : State) : Host.Outcome State Fault Refusal :=
  stanWrite frame 0x2101 (cluster.val + 1) (leBytes 4 value.toNat) s

/-- ROW_REMAP_LIST_WRITE: OD 0x2110 (R414). -/
def execRowRemapListWrite (frame : Frame) (bytes : List Byte) (s : State) : Host.Outcome State Fault Refusal :=
  stanWrite frame 0x2110 0 bytes s

/-- FAILING_PAIRS_WRITE: OD 0x2120 (R414). -/
def execFailingPairsWrite (frame : Frame) (stack : Fin 16) (value : BitVec 32) (s : State) : Host.Outcome State Fault Refusal :=
  stanWrite frame 0x2120 (stack.val + 1) (leBytes 4 value.toNat) s

/-- POWER_GRANT_WRITE: OD 0x3000 (R417). -/
def execPowerGrantWrite (frame : Frame) (value : BitVec 16) (s : State) : Host.Outcome State Fault Refusal :=
  stanWrite frame 0x3000 0 (leBytes 2 value.toNat) s

/-- FIRMWARE_IMAGE_PART: OD 0xB003 (R527). -/
def execFirmwareImagePart (frame : Frame) (bytes : List Byte) (s : State) : Host.Outcome State Fault Refusal :=
  stanWrite frame 0xB003 0 bytes s

/-- LICENCE_WRITE: OD 0x6450 (R539). -/
def execLicenceWrite (frame : Frame) (bytes : List Byte) (s : State) : Host.Outcome State Fault Refusal :=
  stanWrite frame 0x6450 0 bytes s

/-- HAND_OVER: OD 0xB004 with 1 (R529, R530). -/
def execHandOver (frame : Frame) (s : State) : Host.Outcome State Fault Refusal := stanWrite frame 0xB004 0 [1] s
/-- COMPLETE: 2. -/
def execFwComplete (frame : Frame) (s : State) : Host.Outcome State Fault Refusal := stanWrite frame 0xB004 0 [2] s
/-- REVERT: 3. -/
def execFwRevert (frame : Frame) (s : State) : Host.Outcome State Fault Refusal := stanWrite frame 0xB004 0 [3] s
/-- CANCEL: 4. -/
def execFwCancel (frame : Frame) (s : State) : Host.Outcome State Fault Refusal := stanWrite frame 0xB004 0 [4] s

/-! ### Handover (R476, R487, R529, R531) -/

/-- HANDOVER_DONE: the standby has confirmed and taken the doors; the held requests are executed. -/
def execHandoverDone (s : State) : Host.Outcome State Fault Refusal :=
  if s.handing then .next ((s.handedOver.announceTo broadcast).heldRun) else .next s

/-- HANDOVER_CONFIRM_TIMEOUT: the new controller does not confirm within 1 ms: Loaded again, and the held requests are executed
(R529). -/
def execHandoverConfirmTimeout (s : State) : Host.Outcome State Fault Refusal :=
  if s.fw.state = 5 then .next ((s.fwGo 4).heldRun) else .next s

/-- SLATE_SILENCE: the active controller is found silent, and the other takes over (R371). -/
def execSlateSilence (s : State) : Host.Outcome State Fault Refusal :=
  if s.silenceSeen then .next ((s.slateSilent.announceTo broadcast).heldRun) else .next s

end Sys2Proof.Machine
end

