-- ==== Sys2Proof/Machine/HostDoor.lean ====
section
/-! DEFINITION. BAR 0 as a whole, function level reset, and the host link (R205, R209, R210, R230 to R232, R495, R496). -/
namespace Sys2Proof.Machine

/-! ### What BAR 0 shows (R209, R210, R214, R229) -/

/-- FN.ID: the service state, the partitions served, the number (R210). -/
def State.fnId (s : State) (fn : Nat) : Nat :=
  s.life.svc.code * 2 ^ 32 + ((List.range 16).map (fun p => b2n (s.serving p == fn) * 2 ^ (16 + p))).sum + fn

/-- QUEUE.STATE (R214). -/
def State.queueState (s : State) (q : Nat) : Nat :=
  let x := s.queue q
  x.cqwr * 2 ^ 48 + x.head * 2 ^ 32 + x.tail * 2 ^ 16 + s.qOut q

/-- Eight bytes of the mailbox on PF0: its registers, and its slots (R495, R496). -/
def State.readMbx (s : State) (off : Nat) : Option Word :=
  let b := s.mgmt.mbx
  let w := fun (n : Nat) => some (BitVec.ofNat 64 n)
  match off with
  | 0x1000 => w b.reqTail
  | 0x1008 => w b.reqHead
  | 0x1010 => w b.rspTail
  | 0x1018 => w b.rspHead
  | 0x1020 => w (b2n (!b.held.isEmpty) * 2 + b2n s.activeRuns)
  | _ =>
    if 0x1800 ≤ off && off < 0x3000 then w (leNat ((List.range 8).map (fun i => tget (0 : Byte) b.reqSlots (off - 0x1800 + i))))
    else if 0x3000 ≤ off && off < 0x4800 then
      w (leNat (slice (padTo 0x600 (tget [] b.rspSlots ((off - 0x3000) / 0x600))) ((off - 0x3000) % 0x600) 8))
    else none

/-- The value of a register of BAR 0 that a function shows; reserved ranges aside. -/
def State.readBar0 (s : State) (fn off : Nat) : Option Word :=
  let f := s.fn fn
  let w := fun (n : Nat) => some (BitVec.ofNat 64 n)
  if off < 0x1000 then
    match off with
    | 0x000 => w (s.fnId fn)
    | 0x008 => w (f.abiAgreed * 256 + f.abiReq)
    | 0x010 => w f.feat
    | 0x018 => w f.event
    | 0x020 => w f.win0
    | 0x028 => w f.win1
    | _ => none
  else if off < 0x5000 then (if fn = 0 then s.readMbx off else none)
  else if 0x10_0000 ≤ off && off < 0x10_8000 then some (tget 0 f.msixTab ((off - 0x10_0000) / 8))
  else if 0x18_0000 ≤ off && off < 0x18_0100 then
    w (((List.range 64).map (fun b => b2n (tget false f.msixPend ((off - 0x18_0000) * 8 + b)) * 2 ^ b)).sum)
  else if 0x20_0000 ≤ off && off < 0x24_0000 then
    let p := (off - 0x20_0000) / 0x4000
    let c := s.hc p ((off - 0x20_0000) % 0x4000 / 0x20)
    if s.serving p ≠ fn then none
    else match off % 0x20 with
      | 0x00 => some c.value
      | 0x08 => some c.thresh
      | 0x10 => w (b2n c.en * 2 ^ 15 + b2n c.armed * 2 ^ 14 + c.vec)
      | _ => w 0
  else if 0x40_0000 ≤ off then
    let q := (off - 0x40_0000) / 0x1000
    let x := s.queue q
    if q ≥ 1024 || s.serving (qPart q) ≠ fn then none
    else match off % 0x1000 with
      | 0x000 => w x.ring
      | 0x008 => w x.cq
      | 0x010 => w x.ctrl
      | 0x018 => w (s.queueState q)
      | 0x020 => w x.cqhead
      | 0x028 => w x.code.code
      | 0x040 => w x.tail
      | _ => none
  else none

/-! ### Writes of BAR 0 (R209) -/

/-- A register whose every field is read-only is written (R230). -/
def State.readOnly (s : State) (fn off : Nat) (part queue : Option Nat) (v : Word) : State := s.ignored 12 part queue fn off v.toNat

/-- MSI-X vectors of a function (R205). -/
def vectors (fn : Nat) : Nat := if fn = 0 then 2048 else 256

/-- A write of the MSI-X table: word 0 holds the address, word 1 the data and the mask bit; a pending vector that is unmasked sends
its message (R209, R210). -/
def State.writeMsix (s : State) (fn vec w : Nat) (v : Word) : State :=
  let f := s.fn fn
  let f := { f with msixTab := tset (0 : Word) f.msixTab (2 * vec + w) v }
  if w = 0 then s.setFn fn f
  else
    let on := !bit 32 v.toNat
    let pend := tget false f.msixPend vec
    let s := s.setFn fn { f with msixOpen := tset false f.msixOpen vec on,
                                 msixPend := if on then tset false f.msixPend vec false else f.msixPend }
    if on && pend then s.emit (.msix fn vec) else s

/-- A write of a queue's page by its serving function (R214). -/
def State.writeQueuePage (s : State) (fn q o : Nat) (v : Word) : State :=
  match o with
  | 0x000 => s.writeRing q false v
  | 0x008 => s.writeRing q true v
  | 0x010 => s.writeCtrl fn q v
  | 0x018 | 0x028 => s.readOnly fn (qOff q o) (some (qPart q)) (some q) v
  | 0x020 => s.writeCqh q v
  | 0x040 => s.doorbell q v
  | _ => s

/-- A write of 8 bytes to BAR 0 of a function; reserved ranges discard it (R209, R212). DESIGN CHOICE: the fourth word of a host counter,
reserved as a whole, is such a range and no register of kind 12 (R229, R230; log entry 181). -/
def State.writeBar0 (s : State) (fn off : Nat) (v : Word) : State :=
  if off < 0x1000 then
    match off with
    | 0x000 | 0x010 => s.readOnly fn off none none v
    | 0x008 => s.writeAbi fn v
    | 0x018 => s.clearEvents fn v
    | 0x020 => s.writeWin fn 0 v
    | 0x028 => s.writeWin fn 1 v
    | _ => s
  else if off < 0x5000 then
    if fn ≠ 0 then s
    else if off = 0x1000 then s.reqTail (bits 15 0 v.toNat)
    else if off = 0x1018 then s.rspHead (bits 15 0 v.toNat)
    else if off = 0x1008 || off = 0x1010 || off = 0x1020 then s.readOnly 0 off none none v
    else if 0x1800 ≤ off && off < 0x3000 then
      s.mgmtSet (fun m => { m with mbx := { m.mbx with
        reqSlots := (leBytes 8 v.toNat).zipIdx.foldl (fun t e => tset (0 : Byte) t (off - 0x1800 + e.2) e.1) m.mbx.reqSlots } })
    else s
  else if 0x10_0000 ≤ off && off < 0x10_8000 then
    let i := (off - 0x10_0000) / 16
    if i < vectors fn then s.writeMsix fn i ((off / 8) % 2) v else s
  else if 0x18_0000 ≤ off && off < 0x18_0100 then s.readOnly fn off none none v
  else if 0x20_0000 ≤ off && off < 0x24_0000 then
    let p := (off - 0x20_0000) / 0x4000
    let h := (off - 0x20_0000) % 0x4000 / 0x20
    if s.serving p ≠ fn then s
    else match off % 0x20 with
      | 0x00 => s.hcSet p h v
      | 0x08 => s.writeThresh p h v
      | 0x10 => s.writeHcCtrl fn p h v
      | _ => s
  else if 0x40_0000 ≤ off then
    let q := (off - 0x40_0000) / 0x1000
    if q < 1024 && s.serving (qPart q) = fn then s.writeQueuePage fn q (off % 0x1000) v else s
  else s

/-- REGISTER_WRITE: a write of 8 bytes to a register of BAR 0 (R209, R230). -/
def execRegisterWrite (fn : Fin 17) (off : BitVec 23) (value : Word) (s : State) : Host.Outcome State Fault Refusal :=
  onFn s fn.val (s.writeBar0 fn.val (off.toNat / 8 * 8) value)

/-! ### Function level reset and the host link (R231, R232) -/

/-- A function level reset: queues Disabled with what they fetched discarded, dispatched descriptors run on silently, the function's
registers, counters and MSI-X at reset, its secured sessions and IDE keys gone, its TDI in ERROR; for PF0 the mailbox too (R213,
R229, R231, R355, R356, R496). -/
def State.flr (s : State) (fn : Nat) : State :=
  let mine := fun (q : Nat) => s.serving (qPart q) == fn
  let qs := (s.queues.map (·.1)).filter mine
  let s := { s with disp := { s.disp with flights := updAll (fun f => qs.contains f.ref.queue) (fun f => { f with silent := true }) s.disp.flights } }
  let s := qs.foldl (fun s q =>
    (s.updQueue q (fun x => { x with fetched := [], ctrl := withBit 0 false x.ctrl })).qGo q .disabled) s
  let s := (List.range 16).foldl (fun s p => if s.serving p = fn then s.hcClear p else s) s
  let s := if fn = 0 then s else s.tdiError (fn - 1)
  let s := { s with sec := { s.sec with spdm := tdel s.sec.spdm fn, ide := tdel s.sec.ide fn } }
  let s := s.setFn fn Fn.blank
  if fn ≠ 0 then s
  else
    let s := (s.mgmt.sessions.filter (fun x => x.door == .h)).foldl (fun s x => s.endSession x.id) s
    s.mgmtSet (fun m => { m with mbx := { Mbx.reset with reqSlots := m.mbx.reqSlots, rspSlots := m.mbx.rspSlots } })

/-- FUNCTION_LEVEL_RESET (R231). -/
def execFunctionLevelReset (fn : Fin 17) (s : State) : Host.Outcome State Fault Refusal :=
  if s.hasFn fn.val then .next (s.flr fn.val) else .next s

/-- HOST_LINK_LOSS: fault 0x10 is reported, and every function is reset. The operands are the level at `PERST#`, which the module's pull-up
holds high where no cable is, and whether a cable is connected after the loss (R231, R371, R462). -/
def execHostLinkLoss (perst cable : Bool) (s : State) : Host.Outcome State Fault Refusal :=
  let s := s.faultRecord 0x10 0 0 0 none false 0
  let s := s.lifeSet (fun l => { l with perst := perst || !cable, perstAt := s.now, cable := cable })
  .next ((List.range 17).foldl State.flr (s.odSetN 0x9002 0 0))

/-- The widths that the host link trains to, and its code for a rate (R205, R232). -/
def hostWidth (w : Nat) : Bool := w == 1 || w == 2 || w == 4 || w == 8 || w == 16

/-- HOST_LINK_TRAINED: the host link trains at a rate code up to the limit, which applies now, and at a width; `PERST#` is high and a
cable is connected; not before step 2 of R400 has chosen an active Slate controller (R205, R232, R462). A rate above the limit or a width that the link lacks does not occur. -/
def execHostLinkTrained (rate : Fin 7) (width : Fin 17) (s : State) : Host.Outcome State Fault Refusal :=
  if !s.life.powerGood || !(s.activeRuns || bit 1 (s.odNum 0x2003 0)) then .next s
  else
    let s := (s.odApply 0x9003 0).lifeSet (fun l => { l with perst := true, cable := true })
    if 1 ≤ rate.val && rate.val ≤ s.odNum 0x9003 0 && hostWidth width.val then .next (s.odSetN 0x9002 0 (rate.val * 256 + width.val))
    else .next s

end Sys2Proof.Machine
end

