-- ==== Sys2Proof/Machine/Scalar.lean ====
section
/-! DEFINITION. The C-ops (R90, R93, R115 to R117). Each meaning issues the Running context's next instruction
when the word at its PC is that operation. -/
namespace Sys2Proof.Machine

/-- NOP: no effect for one cycle (R116). -/
def execNop (core : Fin 288) (s : State) : Host.Outcome State Fault Refusal :=
  issue s core 0 0x00 (fun k w => s.retire core k w)

/-- END: the context stops issuing and drains; its PC stays at END (R90, R116). -/
def execEndOp (core : Fin 288) (s : State) : Host.Outcome State Fault Refusal :=
  issue s core 0 0x01 (fun k _ => 
    let s := s.setCore core (((s.core core).addAct 0 1).withSlot k { (s.core core).slot k with st := .draining })
    s.progressed core)

/-- YIELD: to Ready when another context is Ready, which is switched to (R90, R91). -/
def execYield (core : Fin 288) (s : State) : Host.Outcome State Fault Refusal :=
  issue s core 0 0x02 (fun k w => 
    if (s.core core).nextReady.isSome then
      let t := s.leave core k w
      let c := t.core core
      t.setCore core (c.withSlot k { c.slot k with st := .ready }).switch
    else s.retire core k w)

/-- LI: sD = sext(IMM) (R116). -/
def execLi (core : Fin 288) (s : State) : Host.Outcome State Fault Refusal :=
  issue s core 0 0x03 (fun k w => s.alu core k w (cIMM w))

/-- LIH: sD = (IMM << 32) or sD[31:0] (R116). -/
def execLih (core : Fin 288) (s : State) : Host.Outcome State Fault Refusal :=
  issue s core 0 0x04 (fun k w => s.alu core k w ((cIMM w <<< 32) ||| (s.sreg core k (cSD w) &&& 0xFFFF_FFFF#64)))

/-- ADD: sD = sA + op2 (R115, R116). -/
def execAdd (core : Fin 288) (s : State) : Host.Outcome State Fault Refusal :=
  issue s core 0 0x5 (fun k w => s.alu core k w (s.sreg core k (cSA w) + s.op2 core k w))

/-- SUB: sD = sA - op2 (R115, R116). -/
def execSub (core : Fin 288) (s : State) : Host.Outcome State Fault Refusal :=
  issue s core 0 0x6 (fun k w => s.alu core k w (s.sreg core k (cSA w) - s.op2 core k w))

/-- MUL: the low 64 bits of sA x op2 (R115, R116). -/
def execMul (core : Fin 288) (s : State) : Host.Outcome State Fault Refusal :=
  issue s core 0 0x7 (fun k w => s.alu core k w (s.sreg core k (cSA w) * s.op2 core k w))

/-- AND: bitwise with op2 (R115, R116). -/
def execAnd (core : Fin 288) (s : State) : Host.Outcome State Fault Refusal :=
  issue s core 0 0x8 (fun k w => s.alu core k w (s.sreg core k (cSA w) &&& s.op2 core k w))

/-- OR: bitwise with op2 (R115, R116). -/
def execOr (core : Fin 288) (s : State) : Host.Outcome State Fault Refusal :=
  issue s core 0 0x9 (fun k w => s.alu core k w (s.sreg core k (cSA w) ||| s.op2 core k w))

/-- XOR: bitwise with op2 (R115, R116). -/
def execXor (core : Fin 288) (s : State) : Host.Outcome State Fault Refusal :=
  issue s core 0 0xa (fun k w => s.alu core k w (s.sreg core k (cSA w) ^^^ s.op2 core k w))

/-- SHL: sA shifted left by op2[5:0] (R115, R116). -/
def execShl (core : Fin 288) (s : State) : Host.Outcome State Fault Refusal :=
  issue s core 0 0xb (fun k w => s.alu core k w (s.sreg core k (cSA w) <<< ((s.op2 core k w).toNat % 64)))

/-- SHR: sA shifted right by op2[5:0], filled with 0 (R115, R116). -/
def execShr (core : Fin 288) (s : State) : Host.Outcome State Fault Refusal :=
  issue s core 0 0xc (fun k w => s.alu core k w (s.sreg core k (cSA w) >>> ((s.op2 core k w).toNat % 64)))

/-- SRA: sA shifted right by op2[5:0], filled with the sign (R115, R116). -/
def execSra (core : Fin 288) (s : State) : Host.Outcome State Fault Refusal :=
  issue s core 0 0xd (fun k w => s.alu core k w (BitVec.sshiftRight (s.sreg core k (cSA w)) ((s.op2 core k w).toNat % 64)))

/-- SLT: 1 if sA < op2, signed (R115, R116). -/
def execSlt (core : Fin 288) (s : State) : Host.Outcome State Fault Refusal :=
  issue s core 0 0xe (fun k w => s.alu core k w (if (s.sreg core k (cSA w)).slt (s.op2 core k w) then 1 else 0))

/-- SLTU: 1 if sA < op2, unsigned (R115, R116). -/
def execSltu (core : Fin 288) (s : State) : Host.Outcome State Fault Refusal :=
  issue s core 0 0xf (fun k w => s.alu core k w (if (s.sreg core k (cSA w)).ult (s.op2 core k w) then 1 else 0))

/-- LDS: queues a load of 8 scratchpad bytes into sD; a misaligned or high offset faults at issue (R116). -/
def execLds (core : Fin 288) (s : State) : Host.Outcome State Fault Refusal :=
  issue s core 0 0x10 (fun k w => 
    let a := (s.sreg core k (cSA w) + s.op2 core k w).toNat
    if a % 8 ≠ 0 || a > 0x2F_FFF8 then s.syncFault core k w 5 0
    else if (s.core core).vq.length ≥ 16 then s
    else
      let c := s.core core
      (s.setCore core { c with vq := c.vq ++ [⟨k, w, 0, 0, s.sreg core k (cSD w), a⟩] }).retire core k w)

/-- STS: queues a store of sD to 8 scratchpad bytes; a misaligned or high offset faults at issue (R116). -/
def execSts (core : Fin 288) (s : State) : Host.Outcome State Fault Refusal :=
  issue s core 0 0x11 (fun k w => 
    let a := (s.sreg core k (cSA w) + s.op2 core k w).toNat
    if a % 8 ≠ 0 || a > 0x2F_FFF8 then s.syncFault core k w 5 0
    else if (s.core core).vq.length ≥ 16 then s
    else
      let c := s.core core
      (s.setCore core { c with vq := c.vq ++ [⟨k, w, 0, 0, s.sreg core k (cSD w), a⟩] }).retire core k w)

/-- BEQ: compares sA with sB and branches to PC + sext(IMM) (R116). -/
def execBeq (core : Fin 288) (s : State) : Host.Outcome State Fault Refusal :=
  issue s core 0 0x12 (fun k w => s.branch core k w (s.sreg core k (cSA w) == s.sreg core k (cSB w)))

/-- BNE: compares sA with sB and branches to PC + sext(IMM) (R116). -/
def execBne (core : Fin 288) (s : State) : Host.Outcome State Fault Refusal :=
  issue s core 0 0x13 (fun k w => s.branch core k w (s.sreg core k (cSA w) != s.sreg core k (cSB w)))

/-- BLT: compares sA with sB and branches to PC + sext(IMM) (R116). -/
def execBlt (core : Fin 288) (s : State) : Host.Outcome State Fault Refusal :=
  issue s core 0 0x14 (fun k w => s.branch core k w ((s.sreg core k (cSA w)).slt (s.sreg core k (cSB w))))

/-- BGE: compares sA with sB and branches to PC + sext(IMM) (R116). -/
def execBge (core : Fin 288) (s : State) : Host.Outcome State Fault Refusal :=
  issue s core 0 0x15 (fun k w => s.branch core k w (!(s.sreg core k (cSA w)).slt (s.sreg core k (cSB w))))

/-- BLTU: compares sA with sB and branches to PC + sext(IMM) (R116). -/
def execBltu (core : Fin 288) (s : State) : Host.Outcome State Fault Refusal :=
  issue s core 0 0x16 (fun k w => s.branch core k w ((s.sreg core k (cSA w)).ult (s.sreg core k (cSB w))))

/-- BGEU: compares sA with sB and branches to PC + sext(IMM) (R116). -/
def execBgeu (core : Fin 288) (s : State) : Host.Outcome State Fault Refusal :=
  issue s core 0 0x17 (fun k w => s.branch core k w (!(s.sreg core k (cSA w)).ult (s.sreg core k (cSB w))))

/-- JAL: sD = PC + 1; PC = PC + sext(IMM) (R116). -/
def execJal (core : Fin 288) (s : State) : Host.Outcome State Fault Refusal :=
  issue s core 0 0x18 (fun k w => (s.putS core k (cSD w) (s.pcNext core k)).goto core k w (BitVec.ofNat 64 ((s.core core).slot k).pc + cIMM w))

/-- JR: PC = sA (R116). -/
def execJr (core : Fin 288) (s : State) : Host.Outcome State Fault Refusal :=
  issue s core 0 0x19 (fun k w => s.goto core k w (s.sreg core k (cSA w)))

/-- LOOP: sD = sD - 1; if sD is not 0, PC = PC + sext(IMM) (R116). -/
def execLoop (core : Fin 288) (s : State) : Host.Outcome State Fault Refusal :=
  issue s core 0 0x1A (fun k w => 
    let v := s.sreg core k (cSD w) - 1
    let t := s.putS core k (cSD w) v
    t.branch core k w (t.sreg core k (cSD w) != 0))

/-- WAIT: the context waits until the counter is at least sA + sext(IMM), unsigned (R90, R116). -/
def execWait (core : Fin 288) (s : State) : Host.Outcome State Fault Refusal :=
  issue s core 0 0x1B (fun k w => 
    let v := s.sreg core k (cSA w) + cIMM w
    if v.ule ((s.core core).counter (cCNT w)) then s.retire core k w
    else
      let t := s.leave core k w
      let c := t.core core
      t.setCore core (c.withSlot k { c.slot k with st := .waiting, wait := .counter (cCNT w) v }).switch)

/-- SIG: counter += sA + sext(IMM) (R93, R116). -/
def execSig (core : Fin 288) (s : State) : Host.Outcome State Fault Refusal :=
  issue s core 0 0x1C (fun k w => (s.addCnt core (cCNT w) (s.sreg core k (cSA w) + cIMM w)).retire core k w)

/-- CSET: counter = sA + sext(IMM) (R93, R116). -/
def execCset (core : Fin 288) (s : State) : Host.Outcome State Fault Refusal :=
  issue s core 0 0x1D (fun k w => (s.setCnt core (cCNT w) (s.sreg core k (cSA w) + cIMM w)).retire core k w)

/-- CRD: sD = the counter (R116). -/
def execCrd (core : Fin 288) (s : State) : Host.Outcome State Fault Refusal :=
  issue s core 0 0x1E (fun k w => s.alu core k w ((s.core core).counter (cCNT w)))

/-- FENCE: the context waits until its earlier T-ops, V-ops and M-ops of the mask have completed (R117). -/
def execFence (core : Fin 288) (s : State) : Host.Outcome State Fault Refusal :=
  issue s core 0 0x1F (fun k w => 
    if (s.core core).fenceDone k (bits 2 0 w.toNat) then s.retire core k w
    else
      let t := s.leave core k w
      let c := t.core core
      t.setCore core (c.withSlot k { c.slot k with st := .waiting, wait := .fence (bits 2 0 w.toNat) }).switch)

/-- CID: logical core, slot, partition and own coordinate (R116). -/
def execCid (core : Fin 288) (s : State) : Host.Outcome State Fault Refusal :=
  issue s core 0 0x20 (fun k w => 
    s.alu core k w (BitVec.ofNat 64 (core.val + k * 2 ^ 9 + ((s.core core).slot k).launch.part * 2 ^ 16 +
      (s.odNum 0x4400 0 % 2 ^ 20) * 2 ^ 20)))

/-- The island's latest copy of the local time base: the latest multiple of 40 ns, or the one before it while that one is less than 4
core cycles old, which R116 leaves open (R43, R116; log entry 44). -/
def State.timeCopy (s : State) (n : Nat) : Nat :=
  let q := s.clk.localTime / 40 * 40
  if Config.timeLags n s.clk.localTime && decide (s.clk.localTime % 40 * s.clk.coreMHz < 4000) then q - 40 else q

/-- TIME: the island's latest copy of the local time base (R43, R116). -/
def execTime (core : Fin 288) (s : State) : Host.Outcome State Fault Refusal :=
  issue s core 0 0x21 (fun k w => s.alu core k w (BitVec.ofNat 64 (s.timeCopy core)))

end Sys2Proof.Machine
end

