-- ==== Sys2Proof/Machine/TensorOps.lean ====
section
/-! DEFINITION. The T-ops: issue into the tensor queue, start with its checks, and completion with its effect
(R93, R104 to R109, R120, R121). -/
namespace Sys2Proof.Machine

/-- Puts a T-op into the queue of 8 with its scalar operands read at issue; a full queue stalls (R86, R91, R109). -/
def State.tPush (s : State) (n k : Nat) (w : Word) : State :=
  let c := s.core n
  if c.tq.length ≥ 8 then s
  else (s.setCore n { c with tq := c.tq ++ [⟨k, w, s.sreg n k (tSA w), s.sreg n k (tSB w), 0, 0⟩] }).retire n k w

/-- TDL's scratchpad offset, checked at issue (R104). -/
def State.tdlOff (s : State) (n k : Nat) (w : Word) : Nat := (s.sreg n k (tSA w) + tIMM w).toNat

/-- TDL: queues the load of a tile register; a misaligned or high offset faults at issue (R104). -/
def execTdl (core : Fin 288) (s : State) : Host.Outcome State Fault Refusal :=
  issue s core 1 0x00 (fun k w => 
    if s.tdlOff core k w % 32 ≠ 0 || s.tdlOff core k w > 0x2F_FFE0 then s.syncFault core k w 5 0 else s.tPush core k w)

/-- TADV: queues the advance of TD.BASE and TD.INDEX (R104). -/
def execTadv (core : Fin 288) (s : State) : Host.Outcome State Fault Refusal :=
  issue s core 1 0x01 (fun k w => s.tPush core k w)

/-- TZERO: queues the clearing of an accumulator set (R104). -/
def execTzero (core : Fin 288) (s : State) : Host.Outcome State Fault Refusal :=
  issue s core 1 0x02 (fun k w => s.tPush core k w)

/-- TLDACC: queues the load of a tile into an accumulator set (R104). -/
def execTldacc (core : Fin 288) (s : State) : Host.Outcome State Fault Refusal :=
  issue s core 1 0x03 (fun k w => s.tPush core k w)

/-- TSTACC: queues the store of an accumulator set into a tile (R104, R107). -/
def execTstacc (core : Fin 288) (s : State) : Host.Outcome State Fault Refusal :=
  issue s core 1 0x04 (fun k w => s.tPush core k w)

/-- MMA.FP4 (R105). -/
def execMmaFp4 (core : Fin 288) (s : State) : Host.Outcome State Fault Refusal :=
  issue s core 1 0x10 (fun k w => s.tPush core k w)

/-- MMA.FP8 (R105). -/
def execMmaFp8 (core : Fin 288) (s : State) : Host.Outcome State Fault Refusal :=
  issue s core 1 0x11 (fun k w => s.tPush core k w)

/-- MMA.F16 (R105). -/
def execMmaF16 (core : Fin 288) (s : State) : Host.Outcome State Fault Refusal :=
  issue s core 1 0x12 (fun k w => s.tPush core k w)

/-- MMA.FP32 (R105). -/
def execMmaFp32 (core : Fin 288) (s : State) : Host.Outcome State Fault Refusal :=
  issue s core 1 0x13 (fun k w => s.tPush core k w)

/-- MMA.INT8 (R105). -/
def execMmaInt8 (core : Fin 288) (s : State) : Host.Outcome State Fault Refusal :=
  issue s core 1 0x14 (fun k w => s.tPush core k w)

/-- Whether a T-op's reads wait for a preserving March test of one of their banks (R169). -/
def Core.testHolds (c : Core) (offs : List Nat) : Bool := offs.any (fun o => c.underTest (bankNo o))

/-- T_OP_START: the head of the queue starts once the previous T-op has left: TDL reads its 32 bytes, the checks on
registers, sets and formats are made, and a T-op that fails one has no effect and signals nothing (R104, R109,
R119). -/
def execTOpStart (core : Fin 288) (s : State) : Host.Outcome State Fault Refusal :=
  let c := s.core core
  match c.tRun, c.tq with
  | none, q :: rest =>
    let off := (q.sa + tIMM q.w).toNat
    let isTdl := fOp q.w == 0
    let offs := (List.range 32).map (fun i => off + i)
    if isTdl && c.testHolds offs then .next s
    else if isTdl && !offs.all c.portOk then
      .next (((s.setCore core { c with tq := rest }).asyncFault core q.slot q.w 5 0).releaseCore core)
    else
      let q := if isTdl then { q with data := leNat (offs.map (s.spad core)) } else q
      let c := { c with tq := rest }
      match tStartFault c q with
      | some (code, info) => .next (((s.setCore core c).asyncFault core q.slot q.w code info).releaseCore core)
      | none => .next (s.setCore core { c with tRun := some q })
  | _, _ => .next s

/-- The end of a T-op without fault: its effect, its counter, the numeric status and the release of waits (R93,
R107, R117, R145). -/
def State.tFinish (s : State) (n : Nat) (q : QOp) : State :=
  let c := { s.core n with tRun := none }
  let r := tEffect c q (s.spad n)
  let s := s.setCore n r.1
  let w := spadWrite n s r.2.1
  let s := w.1
  if !w.2 then (s.asyncFault n q.slot q.w 5 0).releaseCore n
  else
    let x := (s.core n).slot q.slot
    let s := if r.2.2 then
        let s := s.setCore n ((s.core n).withSlot q.slot { x with inv := true })
        s.setPart x.launch.part { s.part x.launch.part with invConv := ((s.part x.launch.part).invConv + 1) % 2 ^ 64 }
      else s
    ((s.signalCE n (tCE q.w) (tCNT q.w) 1).progressed n).releaseCore n

/-- Whether a T-op's accesses read a word: its operands, or a granule that a write leaves part of (R148). -/
def tMeets (reads : List Nat) (rows : List (Nat × List Byte)) : Bool :=
  !reads.isEmpty || rows.any (fun r => partGranule r.1 r.2.length)

/-- Twice the core cycles that an MMA takes for each k (R105). -/
def mmaCycles2 (op : Nat) : Nat :=
  match op with
  | 0x10 => 1
  | 0x12 => 4
  | 0x13 => 16
  | _ => 2

/-- The largest number of distinct 32-byte words that scratchpad offsets name in any one bank (R109). -/
def bankLoad (offs : List Nat) : Nat :=
  let words := (offs.map (· / 32)).eraseDups
  (List.range 32).foldl (fun m b => max m (words.filter (fun w => bankNo (32 * w) == b)).length) 0

/-- The core cycles for which a T-op holds the tensor engine: its occupancy (R109). -/
def tOcc (c : Core) (q : QOp) : Nat :=
  match fOp q.w, tileReg (c.slot q.slot) (tTA q.w) with
  | 0x00, _ | 0x01, _ | 0x02, _ => 1
  | 0x03, some (t, _) => (t.rows * t.cols + 127) / 128
  | 0x04, some (t, f) => (if f.isMx then 2 else 1) * ((t.rows * t.cols + 127) / 128)
  | op, some (t, _) => max ((t.cols * mmaCycles2 op + 1) / 2) (bankLoad (tReads c q))
  | _, none => 0

/-- T_OP_COMPLETE: the started T-op's reads and writes are made and it ends; a read of a bank it may not reach, or
of an uncorrectable word, abandons it. The words written before that one keep their new data; at which of its words a TSTACC meets it is the
core's affair, a free value; and so is for how many cycles of its occupancy an abandoned T-op has held the engine (R93, R109, R121, R148, R162,
R551; log entries 4 and 189). -/
def execTOpComplete (core : Fin 288) (ecc : Ecc) (s : State) : Host.Outcome State Fault Refusal :=
  let c := s.core core
  match c.tRun with
  | none => .next s
  | some q =>
    let reads := tReads c q
    let rows := (tEffect c q (s.spad core)).2.1
    let writes := rows.flatMap (fun r => (List.range r.2.length).map (fun i => r.1 + i))
    if c.testHolds (reads ++ writes) then .next s
    else
      let s := if tMeets reads rows then s.eccCount ecc else s
      let occ := tOcc c q
      let h := s.freeVal 16
      let out := ({ tAbandon c q with tRun := none }).addAct 1 (h.1 % (occ + 1))
      if !reads.all c.portOk then
        .next (((h.2.setCore core out).asyncFault core q.slot q.w 5 0).releaseCore core)
      else if ecc = .uncorrectable && tMeets reads rows then
        let cuts := rows.flatMap wordCuts
        let f := h.2.freeVal 24
        let s := if cuts.isEmpty then h.2 else (spadWrite core f.2 (cuts.take (f.1 % cuts.length))).1
        .next (((s.setCore core out).asyncFault core q.slot q.w 0x0B 0).releaseCore core)
      else .next ((s.addAct core 1 occ).tFinish core q)

end Sys2Proof.Machine
end

