-- ==== Sys2Proof/Machine/VectorOps.lean ====
section
/-! DEFINITION. The V-ops: issue into the vector queue, start with the address checks, and completion with the
effect (R128 to R146); LDS and STS start and complete in the same queue (R142). -/
namespace Sys2Proof.Machine

/-- Puts a V-op into the queue of 16 with its scalar operands read at issue; a full queue stalls (R129, R142). -/
def State.vPush (s : State) (n k : Nat) (w : Word) : State :=
  let c := s.core n
  if c.vq.length ≥ 16 then s
  else (s.setCore n { c with vq := c.vq ++ [⟨k, w, s.sreg n k (vSA w), s.sreg n k (vVB w), 0, 0⟩] }).retire n k w

/-- VLD (R130): queued at issue; its lanes are computed when it completes. -/
def execVld (core : Fin 288) (s : State) : Host.Outcome State Fault Refusal :=
  issue s core 3 0x00 (fun k w => s.vPush core k w)

/-- VLDS (R130): queued at issue; its lanes are computed when it completes. -/
def execVlds (core : Fin 288) (s : State) : Host.Outcome State Fault Refusal :=
  issue s core 3 0x01 (fun k w => s.vPush core k w)

/-- VST (R130): queued at issue; its lanes are computed when it completes. -/
def execVst (core : Fin 288) (s : State) : Host.Outcome State Fault Refusal :=
  issue s core 3 0x02 (fun k w => s.vPush core k w)

/-- VSTS (R130): queued at issue; its lanes are computed when it completes. -/
def execVsts (core : Fin 288) (s : State) : Host.Outcome State Fault Refusal :=
  issue s core 3 0x03 (fun k w => s.vPush core k w)

/-- VGATH (R130): queued at issue; its lanes are computed when it completes. -/
def execVgath (core : Fin 288) (s : State) : Host.Outcome State Fault Refusal :=
  issue s core 3 0x04 (fun k w => s.vPush core k w)

/-- VSCAT (R130): queued at issue; its lanes are computed when it completes. -/
def execVscat (core : Fin 288) (s : State) : Host.Outcome State Fault Refusal :=
  issue s core 3 0x05 (fun k w => s.vPush core k w)

/-- VSCADD (R130, R134): queued at issue; its lanes are computed when it completes. -/
def execVscadd (core : Fin 288) (s : State) : Host.Outcome State Fault Refusal :=
  issue s core 3 0x06 (fun k w => s.vPush core k w)

/-- VBCS (R135): queued at issue; its lanes are computed when it completes. -/
def execVbcs (core : Fin 288) (s : State) : Host.Outcome State Fault Refusal :=
  issue s core 3 0x07 (fun k w => s.vPush core k w)

/-- VLANE (R135): queued at issue; its lanes are computed when it completes. -/
def execVlane (core : Fin 288) (s : State) : Host.Outcome State Fault Refusal :=
  issue s core 3 0x08 (fun k w => s.vPush core k w)

/-- VIOTA (R135): queued at issue; its lanes are computed when it completes. -/
def execViota (core : Fin 288) (s : State) : Host.Outcome State Fault Refusal :=
  issue s core 3 0x09 (fun k w => s.vPush core k w)

/-- FADD (R135): queued at issue; its lanes are computed when it completes. -/
def execFadd (core : Fin 288) (s : State) : Host.Outcome State Fault Refusal :=
  issue s core 3 0x10 (fun k w => s.vPush core k w)

/-- FSUB (R135): queued at issue; its lanes are computed when it completes. -/
def execFsub (core : Fin 288) (s : State) : Host.Outcome State Fault Refusal :=
  issue s core 3 0x11 (fun k w => s.vPush core k w)

/-- FMUL (R135): queued at issue; its lanes are computed when it completes. -/
def execFmul (core : Fin 288) (s : State) : Host.Outcome State Fault Refusal :=
  issue s core 3 0x12 (fun k w => s.vPush core k w)

/-- FFMA (R135): queued at issue; its lanes are computed when it completes. -/
def execFfma (core : Fin 288) (s : State) : Host.Outcome State Fault Refusal :=
  issue s core 3 0x13 (fun k w => s.vPush core k w)

/-- FMAX (R135): queued at issue; its lanes are computed when it completes. -/
def execFmax (core : Fin 288) (s : State) : Host.Outcome State Fault Refusal :=
  issue s core 3 0x14 (fun k w => s.vPush core k w)

/-- FMIN (R135): queued at issue; its lanes are computed when it completes. -/
def execFmin (core : Fin 288) (s : State) : Host.Outcome State Fault Refusal :=
  issue s core 3 0x15 (fun k w => s.vPush core k w)

/-- FABS (R135): queued at issue; its lanes are computed when it completes. -/
def execFabs (core : Fin 288) (s : State) : Host.Outcome State Fault Refusal :=
  issue s core 3 0x16 (fun k w => s.vPush core k w)

/-- FNEG (R135): queued at issue; its lanes are computed when it completes. -/
def execFneg (core : Fin 288) (s : State) : Host.Outcome State Fault Refusal :=
  issue s core 3 0x17 (fun k w => s.vPush core k w)

/-- IADD (R135): queued at issue; its lanes are computed when it completes. -/
def execIadd (core : Fin 288) (s : State) : Host.Outcome State Fault Refusal :=
  issue s core 3 0x18 (fun k w => s.vPush core k w)

/-- ISUB (R135): queued at issue; its lanes are computed when it completes. -/
def execIsub (core : Fin 288) (s : State) : Host.Outcome State Fault Refusal :=
  issue s core 3 0x19 (fun k w => s.vPush core k w)

/-- IMUL (R135): queued at issue; its lanes are computed when it completes. -/
def execImul (core : Fin 288) (s : State) : Host.Outcome State Fault Refusal :=
  issue s core 3 0x1a (fun k w => s.vPush core k w)

/-- IMAX (R135): queued at issue; its lanes are computed when it completes. -/
def execImax (core : Fin 288) (s : State) : Host.Outcome State Fault Refusal :=
  issue s core 3 0x1b (fun k w => s.vPush core k w)

/-- IMIN (R135): queued at issue; its lanes are computed when it completes. -/
def execImin (core : Fin 288) (s : State) : Host.Outcome State Fault Refusal :=
  issue s core 3 0x1c (fun k w => s.vPush core k w)

/-- AND on lanes (R135): queued at issue; its lanes are computed when it completes. -/
def execVand (core : Fin 288) (s : State) : Host.Outcome State Fault Refusal :=
  issue s core 3 0x1d (fun k w => s.vPush core k w)

/-- OR on lanes (R135): queued at issue; its lanes are computed when it completes. -/
def execVor (core : Fin 288) (s : State) : Host.Outcome State Fault Refusal :=
  issue s core 3 0x1e (fun k w => s.vPush core k w)

/-- XOR on lanes (R135): queued at issue; its lanes are computed when it completes. -/
def execVxor (core : Fin 288) (s : State) : Host.Outcome State Fault Refusal :=
  issue s core 3 0x1f (fun k w => s.vPush core k w)

/-- SHL on lanes (R135): queued at issue; its lanes are computed when it completes. -/
def execVshl (core : Fin 288) (s : State) : Host.Outcome State Fault Refusal :=
  issue s core 3 0x20 (fun k w => s.vPush core k w)

/-- SHR on lanes (R135): queued at issue; its lanes are computed when it completes. -/
def execVshr (core : Fin 288) (s : State) : Host.Outcome State Fault Refusal :=
  issue s core 3 0x21 (fun k w => s.vPush core k w)

/-- SRA on lanes (R135): queued at issue; its lanes are computed when it completes. -/
def execVsra (core : Fin 288) (s : State) : Host.Outcome State Fault Refusal :=
  issue s core 3 0x22 (fun k w => s.vPush core k w)

/-- FCMP (R135): queued at issue; its lanes are computed when it completes. -/
def execFcmp (core : Fin 288) (s : State) : Host.Outcome State Fault Refusal :=
  issue s core 3 0x24 (fun k w => s.vPush core k w)

/-- ICMP (R135): queued at issue; its lanes are computed when it completes. -/
def execIcmp (core : Fin 288) (s : State) : Host.Outcome State Fault Refusal :=
  issue s core 3 0x25 (fun k w => s.vPush core k w)

/-- SEL (R135): queued at issue; its lanes are computed when it completes. -/
def execSel (core : Fin 288) (s : State) : Host.Outcome State Fault Refusal :=
  issue s core 3 0x26 (fun k w => s.vPush core k w)

/-- PLOGIC (R135): queued at issue; its lanes are computed when it completes. -/
def execPlogic (core : Fin 288) (s : State) : Host.Outcome State Fault Refusal :=
  issue s core 3 0x28 (fun k w => s.vPush core k w)

/-- PSET (R135): queued at issue; its lanes are computed when it completes. -/
def execPset (core : Fin 288) (s : State) : Host.Outcome State Fault Refusal :=
  issue s core 3 0x29 (fun k w => s.vPush core k w)

/-- PGET (R135): queued at issue; its lanes are computed when it completes. -/
def execPget (core : Fin 288) (s : State) : Host.Outcome State Fault Refusal :=
  issue s core 3 0x2a (fun k w => s.vPush core k w)

/-- VPERM (R135): queued at issue; its lanes are computed when it completes. -/
def execVperm (core : Fin 288) (s : State) : Host.Outcome State Fault Refusal :=
  issue s core 3 0x2c (fun k w => s.vPush core k w)

/-- VROT (R135): queued at issue; its lanes are computed when it completes. -/
def execVrot (core : Fin 288) (s : State) : Host.Outcome State Fault Refusal :=
  issue s core 3 0x2d (fun k w => s.vPush core k w)

/-- VRED (R136): queued at issue; its lanes are computed when it completes. -/
def execVred (core : Fin 288) (s : State) : Host.Outcome State Fault Refusal :=
  issue s core 3 0x30 (fun k w => s.vPush core k w)

/-- VREDBX (R136): queued at issue; its lanes are computed when it completes. -/
def execVredbx (core : Fin 288) (s : State) : Host.Outcome State Fault Refusal :=
  issue s core 3 0x31 (fun k w => s.vPush core k w)

/-- VCVT (R137): queued at issue; its lanes are computed when it completes. -/
def execVcvt (core : Fin 288) (s : State) : Host.Outcome State Fault Refusal :=
  issue s core 3 0x34 (fun k w => s.vPush core k w)

/-- MXPK (R137): queued at issue; its lanes are computed when it completes. -/
def execMxpk (core : Fin 288) (s : State) : Host.Outcome State Fault Refusal :=
  issue s core 3 0x35 (fun k w => s.vPush core k w)

/-- MXUNPK (R137): queued at issue; its lanes are computed when it completes. -/
def execMxunpk (core : Fin 288) (s : State) : Host.Outcome State Fault Refusal :=
  issue s core 3 0x36 (fun k w => s.vPush core k w)

/-- BXDEP (R139): queued at issue; its lanes are computed when it completes. -/
def execBxdep (core : Fin 288) (s : State) : Host.Outcome State Fault Refusal :=
  issue s core 3 0x38 (fun k w => s.vPush core k w)

/-- BXMRG (R139): queued at issue; its lanes are computed when it completes. -/
def execBxmrg (core : Fin 288) (s : State) : Host.Outcome State Fault Refusal :=
  issue s core 3 0x39 (fun k w => s.vPush core k w)

/-- BXFIN (R139): queued at issue; its lanes are computed when it completes. -/
def execBxfin (core : Fin 288) (s : State) : Host.Outcome State Fault Refusal :=
  issue s core 3 0x3a (fun k w => s.vPush core k w)

/-- VFUNC (R140): queued at issue; its lanes are computed when it completes. -/
def execVfunc (core : Fin 288) (s : State) : Host.Outcome State Fault Refusal :=
  issue s core 3 0x3c (fun k w => s.vPush core k w)

/-- The lowest lane that the processor ports may not serve: a bank that is not owned or not Lit (R146, R157). -/
def vPortFault (c : Core) (x : Ctx) (q : QOp) : Option Nat :=
  ((vTouched x q).find? (fun t => !t.2.all c.portOk)).map (fun t => if fGrp q.w = 0 then 0 else (vAddr x q t.1).1)

/-- V_OP_START: the head of the vector queue starts once the engine is free; a V-op checks the addresses of all its
active lanes before its first access (R131, R142, R146). -/
def execVOpStart (core : Fin 288) (s : State) : Host.Outcome State Fault Refusal :=
  let c := s.core core
  match c.vRun, c.vq with
  | none, q :: rest =>
    let x := c.slot q.slot
    (match vAddrFault x q with
      | some a => .next (((s.setCore core { c with vq := rest }).asyncFault core q.slot q.w 5 a).releaseCore core)
      | none => .next (s.setCore core { c with vq := rest, vRun := some q }))
  | _, _ => .next s

/-- The end of a vector-queue operation without fault: registers, scratchpad, numeric status, counter (R144, R145). -/
def State.vFinish (s : State) (n : Nat) (q : QOp) : State :=
  let c := s.core n
  let r := vEffect (c.slot q.slot) q (s.spad n)
  let x := { r.ctx with inv := r.ctx.inv || r.inv, bxovf := r.ctx.bxovf || r.ovf }
  let c := { (c.withSlot q.slot x) with vRun := none }
  let c := if fGrp q.w = 3 then c.addAct 2 1 else c
  let s := s.setCore n c
  let s := r.bytes.foldl (fun s b => s.wr (spadBase n + b.1) [b.2]) s
  let p := x.launch.part
  let s := if r.inv then s.setPart p { s.part p with invConv := ((s.part p).invConv + 1) % 2 ^ 64 } else s
  let s := if r.ovf then s.setPart p { s.part p with bxOvf := ((s.part p).bxOvf + 1) % 2 ^ 64 } else s
  ((s.signalCE n (fGrp q.w == 3 && vCE q.w) (vCNT q.w) 1).progressed n).releaseCore n

/-- Whether an operation reads a scratchpad word: a load or a scatter-add does, and a store whose bytes leave part of an 8-byte granule
(R134, R146, R148). -/
def vMeets (q : QOp) (offs written : List Nat) : Bool :=
  !offs.isEmpty && ((fGrp q.w == 3 && fOp q.w == 0x06) || offs.any (fun o => !written.contains o) ||
    written.any (fun o => (List.range 8).any (fun i => !written.contains (o / 8 * 8 + i))))

/-- V_OP_COMPLETE: the started operation's results are written, or it faults and writes nothing (R144, R146, R162).
It waits while a preserving March test holds one of its banks (R169). -/
def execVOpComplete (core : Fin 288) (ecc : Ecc) (s : State) : Host.Outcome State Fault Refusal :=
  let c := s.core core
  match c.vRun with
  | none => .next s
  | some q =>
    let x := c.slot q.slot
    let offs := (vTouched x q).flatMap (·.2)
    if offs.any (fun o => c.underTest (bankNo o)) then .next s
    else
      match vPortFault c x q with
      | some a => .next (((s.setCore core { c with vRun := none }).asyncFault core q.slot q.w 5 a).releaseCore core)
      | none =>
        let reads := vMeets q offs ((vEffect x q (s.spad core)).bytes.map (·.1))
        let s := if reads then s.eccCount ecc else s
        if reads && ecc = .uncorrectable then
          .next (((s.setCore core { c with vRun := none }).asyncFault core q.slot q.w 0x0B 0).releaseCore core)
        else .next (s.vFinish core q)

end Sys2Proof.Machine
end

