-- ==== Sys2Proof/Machine/Dispatch.lean ====
section
/-! DEFINITION. The dispatch of a command to its meaning: one arm for each row of the table. -/
namespace Sys2Proof.Machine

def exec (i : Instr) (s : State) : Host.Outcome State Fault Refusal :=
  match i with
  | .nop core => Sys2Proof.Machine.execNop core s
  | .endOp core => Sys2Proof.Machine.execEndOp core s
  | .yield core => Sys2Proof.Machine.execYield core s
  | .li core => Sys2Proof.Machine.execLi core s
  | .lih core => Sys2Proof.Machine.execLih core s
  | .add core => Sys2Proof.Machine.execAdd core s
  | .sub core => Sys2Proof.Machine.execSub core s
  | .mul core => Sys2Proof.Machine.execMul core s
  | .and core => Sys2Proof.Machine.execAnd core s
  | .or core => Sys2Proof.Machine.execOr core s
  | .xor core => Sys2Proof.Machine.execXor core s
  | .shl core => Sys2Proof.Machine.execShl core s
  | .shr core => Sys2Proof.Machine.execShr core s
  | .sra core => Sys2Proof.Machine.execSra core s
  | .slt core => Sys2Proof.Machine.execSlt core s
  | .sltu core => Sys2Proof.Machine.execSltu core s
  | .lds core => Sys2Proof.Machine.execLds core s
  | .sts core => Sys2Proof.Machine.execSts core s
  | .beq core => Sys2Proof.Machine.execBeq core s
  | .bne core => Sys2Proof.Machine.execBne core s
  | .blt core => Sys2Proof.Machine.execBlt core s
  | .bge core => Sys2Proof.Machine.execBge core s
  | .bltu core => Sys2Proof.Machine.execBltu core s
  | .bgeu core => Sys2Proof.Machine.execBgeu core s
  | .jal core => Sys2Proof.Machine.execJal core s
  | .jr core => Sys2Proof.Machine.execJr core s
  | .loop core => Sys2Proof.Machine.execLoop core s
  | .wait core => Sys2Proof.Machine.execWait core s
  | .sig core => Sys2Proof.Machine.execSig core s
  | .cset core => Sys2Proof.Machine.execCset core s
  | .crd core => Sys2Proof.Machine.execCrd core s
  | .fence core => Sys2Proof.Machine.execFence core s
  | .cid core => Sys2Proof.Machine.execCid core s
  | .time core => Sys2Proof.Machine.execTime core s
  | .tdl core => Sys2Proof.Machine.execTdl core s
  | .tadv core => Sys2Proof.Machine.execTadv core s
  | .tzero core => Sys2Proof.Machine.execTzero core s
  | .tldacc core => Sys2Proof.Machine.execTldacc core s
  | .tstacc core => Sys2Proof.Machine.execTstacc core s
  | .mmaFp4 core => Sys2Proof.Machine.execMmaFp4 core s
  | .mmaFp8 core => Sys2Proof.Machine.execMmaFp8 core s
  | .mmaF16 core => Sys2Proof.Machine.execMmaF16 core s
  | .mmaFp32 core => Sys2Proof.Machine.execMmaFp32 core s
  | .mmaInt8 core => Sys2Proof.Machine.execMmaInt8 core s
  | .tOpStart core => Sys2Proof.Machine.execTOpStart core s
  | .tOpComplete core ecc => Sys2Proof.Machine.execTOpComplete core ecc s
  | .dmaCp core => Sys2Proof.Machine.execDmaCp core s
  | .rput core ecc => Sys2Proof.Machine.execRput core ecc s
  | .rget core => Sys2Proof.Machine.execRget core s
  | .csig core => Sys2Proof.Machine.execCsig core s
  | .rsig core => Sys2Proof.Machine.execRsig core s
  | .tbl core ecc => Sys2Proof.Machine.execTbl core ecc s
  | .mOpComplete core id ecc dest => Sys2Proof.Machine.execMOpComplete core id ecc dest s
  | .vld core => Sys2Proof.Machine.execVld core s
  | .vlds core => Sys2Proof.Machine.execVlds core s
  | .vst core => Sys2Proof.Machine.execVst core s
  | .vsts core => Sys2Proof.Machine.execVsts core s
  | .vgath core => Sys2Proof.Machine.execVgath core s
  | .vscat core => Sys2Proof.Machine.execVscat core s
  | .vscadd core => Sys2Proof.Machine.execVscadd core s
  | .vbcs core => Sys2Proof.Machine.execVbcs core s
  | .vlane core => Sys2Proof.Machine.execVlane core s
  | .viota core => Sys2Proof.Machine.execViota core s
  | .fadd core => Sys2Proof.Machine.execFadd core s
  | .fsub core => Sys2Proof.Machine.execFsub core s
  | .fmul core => Sys2Proof.Machine.execFmul core s
  | .ffma core => Sys2Proof.Machine.execFfma core s
  | .fmax core => Sys2Proof.Machine.execFmax core s
  | .fmin core => Sys2Proof.Machine.execFmin core s
  | .fabs core => Sys2Proof.Machine.execFabs core s
  | .fneg core => Sys2Proof.Machine.execFneg core s
  | .iadd core => Sys2Proof.Machine.execIadd core s
  | .isub core => Sys2Proof.Machine.execIsub core s
  | .imul core => Sys2Proof.Machine.execImul core s
  | .imax core => Sys2Proof.Machine.execImax core s
  | .imin core => Sys2Proof.Machine.execImin core s
  | .vand core => Sys2Proof.Machine.execVand core s
  | .vor core => Sys2Proof.Machine.execVor core s
  | .vxor core => Sys2Proof.Machine.execVxor core s
  | .vshl core => Sys2Proof.Machine.execVshl core s
  | .vshr core => Sys2Proof.Machine.execVshr core s
  | .vsra core => Sys2Proof.Machine.execVsra core s
  | .fcmp core => Sys2Proof.Machine.execFcmp core s
  | .icmp core => Sys2Proof.Machine.execIcmp core s
  | .sel core => Sys2Proof.Machine.execSel core s
  | .plogic core => Sys2Proof.Machine.execPlogic core s
  | .pset core => Sys2Proof.Machine.execPset core s
  | .pget core => Sys2Proof.Machine.execPget core s
  | .vperm core => Sys2Proof.Machine.execVperm core s
  | .vrot core => Sys2Proof.Machine.execVrot core s
  | .vred core => Sys2Proof.Machine.execVred core s
  | .vredbx core => Sys2Proof.Machine.execVredbx core s
  | .vcvt core => Sys2Proof.Machine.execVcvt core s
  | .mxpk core => Sys2Proof.Machine.execMxpk core s
  | .mxunpk core => Sys2Proof.Machine.execMxunpk core s
  | .bxdep core => Sys2Proof.Machine.execBxdep core s
  | .bxmrg core => Sys2Proof.Machine.execBxmrg core s
  | .bxfin core => Sys2Proof.Machine.execBxfin core s
  | .vfunc core => Sys2Proof.Machine.execVfunc core s
  | .vOpStart core => Sys2Proof.Machine.execVOpStart core s
  | .vOpComplete core ecc => Sys2Proof.Machine.execVOpComplete core ecc s
  | .dispatchEntry core => Sys2Proof.Machine.execDispatchEntry core s
  | .programCopyComplete core slot => Sys2Proof.Machine.execProgramCopyComplete core slot s
  | .programCopyFault core slot uncorrectable => Sys2Proof.Machine.execProgramCopyFault core slot uncorrectable s
  | .contextSwitch core => Sys2Proof.Machine.execContextSwitch core s
  | .counterChanged core => Sys2Proof.Machine.execCounterChanged core s
  | .asynchronousFault core slot word code info => Sys2Proof.Machine.execAsynchronousFault core slot word code info s
  | .contextDrained core slot => Sys2Proof.Machine.execContextDrained core slot s
  | .bankCtrlWrite core bank who value => Sys2Proof.Machine.execBankCtrlWrite core bank who value s
  | .handoverPoint core bank => Sys2Proof.Machine.execHandoverPoint core bank s
  | .collision core cls => Sys2Proof.Machine.execCollision core cls s
  | .marchRequest frame core value => Sys2Proof.Machine.execMarchRequest frame core value s
  | .marchTestEnd core reads => Sys2Proof.Machine.execMarchTestEnd core reads s
  | .poolMarchEnd cluster reads => Sys2Proof.Machine.execPoolMarchEnd cluster reads s
  | .hbmRead part addr parity errs => Sys2Proof.Machine.execHbmRead part addr parity errs s
  | .sectorWrite part addr data => Sys2Proof.Machine.execSectorWrite part addr data s
  | .ledgerRoomFreed stack => Sys2Proof.Machine.execLedgerRoomFreed stack s
  | .committedViewRead part addr => Sys2Proof.Machine.execCommittedViewRead part addr s
  | .patrolRead stack errs => Sys2Proof.Machine.execPatrolRead stack errs s
  | .sparePairAssign frame stack channel => Sys2Proof.Machine.execSparePairAssign frame stack channel s
  | .sparePairCancel frame stack => Sys2Proof.Machine.execSparePairCancel frame stack s
  | .sparePairCopyDone stack => Sys2Proof.Machine.execSparePairCopyDone stack s
  | .sepiaLookup id seen => Sys2Proof.Machine.execSepiaLookup id seen s
  | .sepiaPool id seen => Sys2Proof.Machine.execSepiaPool id seen s
  | .scatterAdd id seen => Sys2Proof.Machine.execScatterAdd id seen s
  | .rowUpdate id seen => Sys2Proof.Machine.execRowUpdate id seen s
  | .streamCopy id seen => Sys2Proof.Machine.execStreamCopy id seen s
  | .sepiaFill id seen => Sys2Proof.Machine.execSepiaFill id seen s
  | .sepiaCommandComplete id => Sys2Proof.Machine.execSepiaCommandComplete id s
  | .sepiaWatchdogExpiry stack => Sys2Proof.Machine.execSepiaWatchdogExpiry stack s
  | .sepiaBypass frame stack value => Sys2Proof.Machine.execSepiaBypass frame stack value s
  | .epochColourDelivery part => Sys2Proof.Machine.execEpochColourDelivery part s
  | .epochDecisionDelivery part => Sys2Proof.Machine.execEpochDecisionDelivery part s
  | .sweepEnd stack part => Sys2Proof.Machine.execSweepEnd stack part s
  | .restoreEnd stack part => Sys2Proof.Machine.execRestoreEnd stack part s
  | .doorbell fn queue value => Sys2Proof.Machine.execDoorbell fn queue value s
  | .queueEnable fn queue value => Sys2Proof.Machine.execQueueEnable fn queue value s
  | .queueClose fn queue value => Sys2Proof.Machine.execQueueClose fn queue value s
  | .queueConfigWrite fn queue reg value => Sys2Proof.Machine.execQueueConfigWrite fn queue reg value s
  | .cqhIndexWrite fn queue value => Sys2Proof.Machine.execCqhIndexWrite fn queue value s
  | .abiReqWrite fn value => Sys2Proof.Machine.execAbiReqWrite fn value s
  | .fnEventClear fn value => Sys2Proof.Machine.execFnEventClear fn value s
  | .fnWinWrite fn win value => Sys2Proof.Machine.execFnWinWrite fn win value s
  | .hcntValueWrite fn part cnt value => Sys2Proof.Machine.execHcntValueWrite fn part cnt value s
  | .hcntThreshWrite fn part cnt value => Sys2Proof.Machine.execHcntThreshWrite fn part cnt value s
  | .hcntCtrlWrite fn part cnt value => Sys2Proof.Machine.execHcntCtrlWrite fn part cnt value s
  | .descriptorFetch queue => Sys2Proof.Machine.execDescriptorFetch queue s
  | .descriptorDispatch => Sys2Proof.Machine.execDescriptorDispatch s
  | .nopDescriptor => Sys2Proof.Machine.execNopDescriptor s
  | .descKernel => Sys2Proof.Machine.execDescKernel s
  | .descCopy => Sys2Proof.Machine.execDescCopy s
  | .descTable => Sys2Proof.Machine.execDescTable s
  | .descCollective => Sys2Proof.Machine.execDescCollective s
  | .waitCounter => Sys2Proof.Machine.execWaitCounter s
  | .signalCounter => Sys2Proof.Machine.execSignalCounter s
  | .fenceDescriptor => Sys2Proof.Machine.execFenceDescriptor s
  | .epochBegin => Sys2Proof.Machine.execEpochBegin s
  | .epochVote => Sys2Proof.Machine.execEpochVote s
  | .copyUnitDone queue index unit result => Sys2Proof.Machine.execCopyUnitDone queue index unit result s
  | .descriptorComplete => Sys2Proof.Machine.execDescriptorComplete s
  | .waitCounterTimeout queue => Sys2Proof.Machine.execWaitCounterTimeout queue s
  | .functionLevelReset fn => Sys2Proof.Machine.execFunctionLevelReset fn s
  | .hostLinkLoss perst cable => Sys2Proof.Machine.execHostLinkLoss perst cable s
  | .hostWindowRead fn win off len ecc => Sys2Proof.Machine.execHostWindowRead fn win off len ecc s
  | .hostWindowWrite fn win off data ecc => Sys2Proof.Machine.execHostWindowWrite fn win off data ecc s
  | .registerWrite fn off value => Sys2Proof.Machine.execRegisterWrite fn off value s
  | .linkEnable frame link => Sys2Proof.Machine.execLinkEnable frame link s
  | .linkDisable frame link => Sys2Proof.Machine.execLinkDisable frame link s
  | .signalDetect link lanes => Sys2Proof.Machine.execSignalDetect link lanes s
  | .trainingTimeout link => Sys2Proof.Machine.execTrainingTimeout link s
  | .capabilityExchanged link blocks => Sys2Proof.Machine.execCapabilityExchanged link blocks s
  | .equaliseDone link failing => Sys2Proof.Machine.execEqualiseDone link failing s
  | .alignDone link seen partner => Sys2Proof.Machine.execAlignDone link seen partner s
  | .qualifyWindowEnd link errors uncorrectable => Sys2Proof.Machine.execQualifyWindowEnd link errors uncorrectable s
  | .qualResult link => Sys2Proof.Machine.execQualResult link s
  | .degradeWindowEnd link lane errors uncorrectable => Sys2Proof.Machine.execDegradeWindowEnd link lane errors uncorrectable s
  | .lossOfSignal link lanes => Sys2Proof.Machine.execLossOfSignal link lanes s
  | .swapReq link => Sys2Proof.Machine.execSwapReq link s
  | .swapAck link => Sys2Proof.Machine.execSwapAck link s
  | .halfReq link => Sys2Proof.Machine.execHalfReq link s
  | .halfAck link => Sys2Proof.Machine.execHalfAck link s
  | .swapTimeout link => Sys2Proof.Machine.execSwapTimeout link s
  | .linkDown link => Sys2Proof.Machine.execLinkDown link s
  | .retryIntervalExpiry link => Sys2Proof.Machine.execRetryIntervalExpiry link s
  | .flitReceive link lanes => Sys2Proof.Machine.execFlitReceive link lanes s
  | .creditSync link => Sys2Proof.Machine.execCreditSync link s
  | .creditSyncSend link => Sys2Proof.Machine.execCreditSyncSend link s
  | .loopbackRequest frame link value => Sys2Proof.Machine.execLoopbackRequest frame link value s
  | .loopbackEnd link results delay => Sys2Proof.Machine.execLoopbackEnd link results delay s
  | .packetRoute link => Sys2Proof.Machine.execPacketRoute link s
  | .fabricWrite ecc => Sys2Proof.Machine.execFabricWrite ecc s
  | .fabricRead ecc => Sys2Proof.Machine.execFabricRead ecc s
  | .fabricReadData ecc => Sys2Proof.Machine.execFabricReadData ecc s
  | .fabricAck => Sys2Proof.Machine.execFabricAck s
  | .fabricSignal => Sys2Proof.Machine.execFabricSignal s
  | .fabricError => Sys2Proof.Machine.execFabricError s
  | .requestTimeout dst part seq => Sys2Proof.Machine.execRequestTimeout dst part seq s
  | .coordinateWrite frame value => Sys2Proof.Machine.execCoordinateWrite frame value s
  | .routingTableWrite frame table bytes => Sys2Proof.Machine.execRoutingTableWrite frame table bytes s
  | .swapRequest frame value => Sys2Proof.Machine.execSwapRequest frame value s
  | .swapStop => Sys2Proof.Machine.execSwapStop s
  | .swapApply => Sys2Proof.Machine.execSwapApply s
  | .swapResume => Sys2Proof.Machine.execSwapResume s
  | .windowEntryRelease src part => Sys2Proof.Machine.execWindowEntryRelease src part s
  | .limiterIncrease dst part => Sys2Proof.Machine.execLimiterIncrease dst part s
  | .limiterIdleRelease dst part => Sys2Proof.Machine.execLimiterIdleRelease dst part s
  | .timeMessage link => Sys2Proof.Machine.execTimeMessage link s
  | .timeSend link => Sys2Proof.Machine.execTimeSend link s
  | .collUp bad ecc => Sys2Proof.Machine.execCollUp bad ecc s
  | .downPhase ecc => Sys2Proof.Machine.execDownPhase ecc s
  | .collGrant => Sys2Proof.Machine.execCollGrant s
  | .collectiveAbort => Sys2Proof.Machine.execCollectiveAbort s
  | .chunkCombined group chunk bad ecc dest => Sys2Proof.Machine.execChunkCombined group chunk bad ecc dest s
  | .collectiveTimeout group => Sys2Proof.Machine.execCollectiveTimeout group s
  | .groupDescriptorWrite frame group bytes => Sys2Proof.Machine.execGroupDescriptorWrite frame group bytes s
  | .epochVoteMsg => Sys2Proof.Machine.execEpochVoteMsg s
  | .abortVote => Sys2Proof.Machine.execAbortVote s
  | .epochRecord => Sys2Proof.Machine.execEpochRecord s
  | .epochTake => Sys2Proof.Machine.execEpochTake s
  | .epochPromise => Sys2Proof.Machine.execEpochPromise s
  | .epochDecide => Sys2Proof.Machine.execEpochDecide s
  | .epochQuery => Sys2Proof.Machine.execEpochQuery s
  | .epochAnswer => Sys2Proof.Machine.execEpochAnswer s
  | .epochRestored => Sys2Proof.Machine.execEpochRestored s
  | .epochClear => Sys2Proof.Machine.execEpochClear s
  | .voteTimeout group => Sys2Proof.Machine.execVoteTimeout group s
  | .outcomeTimeout group machine => Sys2Proof.Machine.execOutcomeTimeout group machine s
  | .clearTimeout group machine => Sys2Proof.Machine.execClearTimeout group machine s
  | .partitionCreate frame part => Sys2Proof.Machine.execPartitionCreate frame part s
  | .partitionTeardown frame part => Sys2Proof.Machine.execPartitionTeardown frame part s
  | .creationDone part => Sys2Proof.Machine.execCreationDone part s
  | .drainEnd part timedOut => Sys2Proof.Machine.execDrainEnd part timedOut s
  | .scrubDone part bad => Sys2Proof.Machine.execScrubDone part bad s
  | .peerAdmissionWrite frame part value => Sys2Proof.Machine.execPeerAdmissionWrite frame part value s
  | .fabricWindowWrite frame part win data => Sys2Proof.Machine.execFabricWindowWrite frame part win data s
  | .createJobSecret frame sel => Sys2Proof.Machine.execCreateJobSecret frame sel s
  | .makeOffer frame sel => Sys2Proof.Machine.execMakeOffer frame sel s
  | .grantRequest frame data => Sys2Proof.Machine.execGrantRequest frame data s
  | .installGrant frame data => Sys2Proof.Machine.execInstallGrant frame data s
  | .destroyJobSecret frame sel => Sys2Proof.Machine.execDestroyJobSecret frame sel s
  | .unsealRequest frame data => Sys2Proof.Machine.execUnsealRequest frame data s
  | .tamper cause => Sys2Proof.Machine.execTamper cause s
  | .getVersion fn => Sys2Proof.Machine.execGetVersion fn s
  | .getCapabilities fn ver => Sys2Proof.Machine.execGetCapabilities fn ver s
  | .negotiateAlgorithms fn offered => Sys2Proof.Machine.execNegotiateAlgorithms fn offered s
  | .getDigests fn => Sys2Proof.Machine.execGetDigests fn s
  | .getCertificate fn slot off len => Sys2Proof.Machine.execGetCertificate fn slot off len s
  | .challenge fn slot nonce => Sys2Proof.Machine.execChallenge fn slot nonce s
  | .getMeasurements fn index nonce => Sys2Proof.Machine.execGetMeasurements fn index nonce s
  | .keyExchange fn slot half => Sys2Proof.Machine.execKeyExchange fn slot half s
  | .finish fn session verified => Sys2Proof.Machine.execFinish fn session verified s
  | .heartbeat fn session => Sys2Proof.Machine.execHeartbeat fn session s
  | .keyUpdate fn session => Sys2Proof.Machine.execKeyUpdate fn session s
  | .endSession fn session => Sys2Proof.Machine.execEndSession fn session s
  | .ideKeyGet session stream dir subStream => Sys2Proof.Machine.execIdeKeyGet session stream dir subStream s
  | .setPolicy fn session policy => Sys2Proof.Machine.execSetPolicy fn session policy s
  | .keyProg session stream dir subStream key => Sys2Proof.Machine.execKeyProg session stream dir subStream key s
  | .kSetGo session stream dir subStream => Sys2Proof.Machine.execKSetGo session stream dir subStream s
  | .kSetStop session stream dir subStream => Sys2Proof.Machine.execKSetStop session stream dir subStream s
  | .lockInterfaceRequest part session => Sys2Proof.Machine.execLockInterfaceRequest part session s
  | .startInterfaceRequest part session nonce => Sys2Proof.Machine.execStartInterfaceRequest part session nonce s
  | .stopInterfaceRequest part session => Sys2Proof.Machine.execStopInterfaceRequest part session s
  | .getDeviceInterfaceReport part session => Sys2Proof.Machine.execGetDeviceInterfaceReport part session s
  | .ideIntegrityFailure fn => Sys2Proof.Machine.execIdeIntegrityFailure fn s
  | .progressWatchdogFire core => Sys2Proof.Machine.execProgressWatchdogFire core s
  | .stallTimerExpiry queue => Sys2Proof.Machine.execStallTimerExpiry queue s
  | .pllLossOfLock island => Sys2Proof.Machine.execPllLossOfLock island s
  | .controlStateError cluster => Sys2Proof.Machine.execControlStateError cluster s
  | .slateSilence => Sys2Proof.Machine.execSlateSilence s
  | .resetCore frame target => Sys2Proof.Machine.execResetCore frame target s
  | .resetCluster frame target => Sys2Proof.Machine.execResetCluster frame target s
  | .resetComputePart frame target => Sys2Proof.Machine.execResetComputePart frame target s
  | .resetWholeModule frame target => Sys2Proof.Machine.execResetWholeModule frame target s
  | .legacyCore frame target => Sys2Proof.Machine.execLegacyCore frame target s
  | .legacyCluster frame target => Sys2Proof.Machine.execLegacyCluster frame target s
  | .legacyPartition frame target => Sys2Proof.Machine.execLegacyPartition frame target s
  | .legacyWholeModule frame target => Sys2Proof.Machine.execLegacyWholeModule frame target s
  | .resetRelease scope target spareBad => Sys2Proof.Machine.execResetRelease scope target spareBad s
  | .resetOverrun scope target => Sys2Proof.Machine.execResetOverrun scope target s
  | .fenceEnd isCluster num timedOut => Sys2Proof.Machine.execFenceEnd isCluster num timedOut s
  | .crossingSeal cluster bit => Sys2Proof.Machine.execCrossingSeal cluster bit s
  | .replayStart core => Sys2Proof.Machine.execReplayStart core s
  | .replayEnd core how => Sys2Proof.Machine.execReplayEnd core how s
  | .prechargeMate input => Sys2Proof.Machine.execPrechargeMate input s
  | .prsntMate mated => Sys2Proof.Machine.execPrsntMate mated s
  | .mainBladesMate input straps => Sys2Proof.Machine.execMainBladesMate input straps s
  | .mainSwitchClose => Sys2Proof.Machine.execMainSwitchClose s
  | .inputOutOfRange input precharge => Sys2Proof.Machine.execInputOutOfRange input precharge s
  | .holdupEnd => Sys2Proof.Machine.execHoldupEnd s
  | .pwrGood => Sys2Proof.Machine.execPwrGood s
  | .slateBootDone aCur aLast bCur bLast => Sys2Proof.Machine.execSlateBootDone aCur aLast bCur bLast s
  | .onyxRegenerationDone ok => Sys2Proof.Machine.execOnyxRegenerationDone ok s
  | .memoryTrainingDone stack failing => Sys2Proof.Machine.execMemoryTrainingDone stack failing s
  | .hbmTestDone stack rows => Sys2Proof.Machine.execHbmTestDone stack rows s
  | .greyExit => Sys2Proof.Machine.execGreyExit s
  | .modReset => Sys2Proof.Machine.execModReset s
  | .modResetRelease => Sys2Proof.Machine.execModResetRelease s
  | .removeReq => Sys2Proof.Machine.execRemoveReq s
  | .removeCmd frame => Sys2Proof.Machine.execRemoveCmd frame s
  | .returnToService frame => Sys2Proof.Machine.execReturnToService frame s
  | .fabricRelease frame value => Sys2Proof.Machine.execFabricRelease frame value s
  | .removalTimeout => Sys2Proof.Machine.execRemovalTimeout s
  | .removalTeardownsDone => Sys2Proof.Machine.execRemovalTeardownsDone s
  | .removalLinksDown => Sys2Proof.Machine.execRemovalLinksDown s
  | .defectMarkWrite frame cluster value => Sys2Proof.Machine.execDefectMarkWrite frame cluster value s
  | .rowRemapListWrite frame bytes => Sys2Proof.Machine.execRowRemapListWrite frame bytes s
  | .failingPairsWrite frame stack value => Sys2Proof.Machine.execFailingPairsWrite frame stack value s
  | .powerGrantWrite frame value => Sys2Proof.Machine.execPowerGrantWrite frame value s
  | .powerMeterSample millivolts milliamps idle run => Sys2Proof.Machine.execPowerMeterSample millivolts milliamps idle run s
  | .droopStretch island => Sys2Proof.Machine.execDroopStretch island s
  | .guardBandNarrow => Sys2Proof.Machine.execGuardBandNarrow s
  | .ceilingRecompute => Sys2Proof.Machine.execCeilingRecompute s
  | .paceTick => Sys2Proof.Machine.execPaceTick s
  | .paceReport => Sys2Proof.Machine.execPaceReport s
  | .paceSet => Sys2Proof.Machine.execPaceSet s
  | .raiseHoldExpiry => Sys2Proof.Machine.execRaiseHoldExpiry s
  | .reportRefresh => Sys2Proof.Machine.execReportRefresh s
  | .energyAttribution m => Sys2Proof.Machine.execEnergyAttribution m s
  | .thermalSample readings predicted => Sys2Proof.Machine.execThermalSample readings predicted s
  | .sensorFailed sensor => Sys2Proof.Machine.execSensorFailed sensor s
  | .lowFlow => Sys2Proof.Machine.execLowFlow s
  | .leakMeasurement ohms => Sys2Proof.Machine.execLeakMeasurement ohms s
  | .leakSelfTest low high => Sys2Proof.Machine.execLeakSelfTest low high s
  | .safetyCauseStore => Sys2Proof.Machine.execSafetyCauseStore s
  | .safetySwitchOpen => Sys2Proof.Machine.execSafetySwitchOpen s
  | .dieComparatorTrip die => Sys2Proof.Machine.execDieComparatorTrip die s
  | .managerAbsenceExpiry => Sys2Proof.Machine.execManagerAbsenceExpiry s
  | .telemetrySample => Sys2Proof.Machine.execTelemetrySample s
  | .openSession frame vmin vmax flags resume => Sys2Proof.Machine.execOpenSession frame vmin vmax flags resume s
  | .closeSession frame => Sys2Proof.Machine.execCloseSession frame s
  | .keepalive frame => Sys2Proof.Machine.execKeepalive frame s
  | .readObject frame index sub all => Sys2Proof.Machine.execReadObject frame index sub all s
  | .writeObject frame index sub all bytes => Sys2Proof.Machine.execWriteObject frame index sub all bytes s
  | .segReadInit frame index sub all => Sys2Proof.Machine.execSegReadInit frame index sub all s
  | .segReadData frame seg => Sys2Proof.Machine.execSegReadData frame seg s
  | .segWriteInit frame index sub all total => Sys2Proof.Machine.execSegWriteInit frame index sub all total s
  | .segWriteData frame seg bytes => Sys2Proof.Machine.execSegWriteData frame seg bytes s
  | .segAbort frame => Sys2Proof.Machine.execSegAbort frame s
  | .eventAck frame seq => Sys2Proof.Machine.execEventAck frame seq s
  | .discover src dst sound formed => Sys2Proof.Machine.execDiscover src dst sound formed s
  | .announce => Sys2Proof.Machine.execAnnounce s
  | .eventResend session seq => Sys2Proof.Machine.execEventResend session seq s
  | .sessionTimeout session => Sys2Proof.Machine.execSessionTimeout session s
  | .segmentIdleTimeout session => Sys2Proof.Machine.execSegmentIdleTimeout session s
  | .beacon => Sys2Proof.Machine.execBeacon s
  | .beaconTimeout => Sys2Proof.Machine.execBeaconTimeout s
  | .reqTailWrite value => Sys2Proof.Machine.execReqTailWrite value s
  | .rspHeadWrite value => Sys2Proof.Machine.execRspHeadWrite value s
  | .firmwareImagePart frame bytes => Sys2Proof.Machine.execFirmwareImagePart frame bytes s
  | .loadingDone ok => Sys2Proof.Machine.execLoadingDone ok s
  | .handOver frame => Sys2Proof.Machine.execHandOver frame s
  | .handoverDone => Sys2Proof.Machine.execHandoverDone s
  | .handoverConfirmTimeout => Sys2Proof.Machine.execHandoverConfirmTimeout s
  | .fwComplete frame => Sys2Proof.Machine.execFwComplete frame s
  | .completingDone => Sys2Proof.Machine.execCompletingDone s
  | .fwRevert frame => Sys2Proof.Machine.execFwRevert frame s
  | .revertingDone => Sys2Proof.Machine.execRevertingDone s
  | .fwCancel frame => Sys2Proof.Machine.execFwCancel frame s
  | .fuseStep => Sys2Proof.Machine.execFuseStep s
  | .licenceWrite frame bytes => Sys2Proof.Machine.execLicenceWrite frame bytes s
  | .traceRecord full => Sys2Proof.Machine.execTraceRecord full s
  | .traceFrame => Sys2Proof.Machine.execTraceFrame s
  | .snapshotLatch session => Sys2Proof.Machine.execSnapshotLatch session s
  | .swapDeskewDone link gen => Sys2Proof.Machine.execSwapDeskewDone link gen s
  | .alignmentLost link => Sys2Proof.Machine.execAlignmentLost link s
  | .sepiaInternalCheckFailure stack => Sys2Proof.Machine.execSepiaInternalCheckFailure stack s
  | .onyxOperationDone unsealing => Sys2Proof.Machine.execOnyxOperationDone unsealing s
  | .hostLinkTrained rate width => Sys2Proof.Machine.execHostLinkTrained rate width s
  | .inputReturn input straps => Sys2Proof.Machine.execInputReturn input straps s
  | .tckCycle tms tdi removeReq perst => Sys2Proof.Machine.execTckCycle tms tdi removeReq perst s
  | .trstAssert => Sys2Proof.Machine.execTrstAssert s
  | .verificationDone => Sys2Proof.Machine.execVerificationDone s
  | .cancellingDone => Sys2Proof.Machine.execCancellingDone s

end Sys2Proof.Machine
end

