-- ==== Sys2Proof/Machine/Tick.lean ====
section
/-! DEFINITION. What 10 ns of the local time base do when no command waits (R43, R46, R255, R283). -/
namespace Sys2Proof.Machine

/-- One period of the reference: the counts of time advance by 10 ns, fabric time with up to 100 ppm of slew; a module without a time
parent runs at the rate it had last (R284). -/
def State.advance (s : State) : State :=
  let d : Int := if s.ftime.slew > 0 then 1 else if s.ftime.slew < 0 then -1 else 0
  let ps := s.ftime.frac + 10000 + (if s.ftime.parent.isNone && s.ftime.slew = 0 then s.ftime.free else d)
  { s with
    clk := { s.clk with localTime := (s.clk.localTime + 10) % 2 ^ 64, fabricTime := s.clk.fabricTime + (ps / 1000).toNat }
    ftime := { s.ftime with slew := s.ftime.slew - d, frac := ps % 1000 } }

/-- A tick: time passes; while the module has power its time bases count, event crossings settle, and links that are being disabled
reach their safe point, and packets that waited for tokens are tried again (log entry 1). -/
def State.tick (s : State) : State :=
  let s := { s with clk := { s.clk with uptime := s.clk.uptime + 10 } }
  if !s.life.powerGood then s
  else
    let s := s.advance
    ((List.range 12).foldl State.linkDisableTick s.settle).retryHeld

end Sys2Proof.Machine
end

