-- ==== Sys2Proof/Safety.lean ====
section
/-! DEFINITION. What a safe run of the block is, and the words in which the statements speak of it. -/
namespace Sys2Proof.Machine

/-- The step answers a next state: the block neither faults nor refuses. -/
def State.goesOn (s : State) : Prop := ∃ t, step s = .next t

/-- The invariant of the model: both memories are in their canonical form. -/
def State.Inv (s : State) : Prop := Memory.wf s.mem = true ∧ Memory.wf s.hostMem = true

/-- A command answers a next state of which `P` holds. -/
def Answers (c : Instr) (s : State) (P : State → Prop) : Prop := ∃ t, exec c s = .next t ∧ P t

/-! ### Cores -/

/-- The Running context of core `n` is in slot `k`; its next instruction `w` is operation `op` of group `grp`, its encoding and
grants allow it (R97), and no result in the vector queue holds it (R116). -/
def State.Issues (s : State) (n : Fin 288) (grp op k : Nat) (w : Word) : Prop :=
  s.fetch n = some (k, w) ∧ fGrp w = grp ∧ fOp w = op ∧
  legal w ((s.core n).slot k).launch.grant ((s.core n).slot k).launch.acc0 ((s.core n).slot k).launch.acc1 = true ∧
  (s.core n).interlocked k w = false

/-- The region of a slot holds an instruction after the current one (R86, R98). -/
def State.InLine (s : State) (n : Fin 288) (k : Nat) : Prop :=
  ((s.core n).slot k).pc + 1 < ((s.core n).slot k).launch.len ∧ ((s.core n).slot k).launch.len ≤ 16384

/-- Only the cores, the event crossings and the crossings' merge counters (OD 0x7820) differ, and a value that waits for a watchdog's timer
to restart may have been applied (OD 0x7020). -/
def State.OnlyCores (s t : State) : Prop :=
  t = { s with cores := t.cores, clk := { s.clk with xing := t.clk.xing }, od := t.od } ∧
  (∀ i j, j < 256 → i ≠ 0x7820 → i ≠ 0x7020 → t.odGet i j = s.odGet i j) ∧
  (∀ i j, j < 256 → i ≠ 0x7020 → t.odPending i j = s.odPending i j) ∧ t.odLive 0x7020 0 = s.odLive 0x7020 0

/-- Only core `n` differs, beside event crossings. -/
def State.OnlyCore (s t : State) (n : Fin 288) : Prop := s.OnlyCores t ∧ ∀ m, m ≠ n.val → t.core m = s.core m

/-- Core `n` is `c` but for its contexts and its activity counters; no other core, and no context but that of slot `k`, differs. -/
def State.OnlySlot (s t : State) (n : Fin 288) (k : Nat) (c : Core) : Prop :=
  s.OnlyCore t n ∧ t.core n = { c with ctx := (t.core n).ctx, act := (t.core n).act } ∧
  ∀ j, j ≠ k → (t.core n).slot j = (s.core n).slot j

/-- The context of slot `k` goes on at `pc` with its scalar registers as stated beside; the core is `c` but for its contexts. -/
def State.MovedTo (s t : State) (n : Fin 288) (k pc : Nat) (c : Core) : Prop :=
  s.OnlySlot t n k c ∧ (t.core n).slot k = { (s.core n).slot k with pc := pc, sreg := ((t.core n).slot k).sreg }

/-- The context of slot `k` goes on at `pc`; the core is as before but for its contexts. -/
def State.Moved (s t : State) (n : Fin 288) (k pc : Nat) : Prop := s.MovedTo t n k pc (s.core n)

/-- The context of slot `k` drains with a fault record; its PC, its launch and its vector state are as before. -/
def State.Faulted (s t : State) (n : Fin 288) (k code grp op info : Nat) : Prop :=
  s.OnlySlot t n k (s.core n) ∧
  (t.core n).slot k = { (s.core n).slot k with
    st := .draining, wait := .nothing, faultCode := code, faultGrp := grp, faultOp := op, faultInfo := info,
    sreg := ((t.core n).slot k).sreg }

/-- A Ready context that the scalar unit takes up: it runs, or, where its last instruction led out of its region, it drains with the
instruction-address fault of the fetch there (R90, R98). -/
def Ctx.taken (x : Ctx) : Ctx :=
  match x.off with
  | none => { x with st := .running }
  | some (tgt, g) => { x with
      st := .draining, wait := .nothing, off := none, faultCode := 2, faultGrp := g / 64, faultOp := g % 64,
      faultInfo := tgt % 2 ^ 44 }

/-- The context of slot `k` has issued its instruction and stops in state `st`; the first Ready slot after it is taken up, if there is one
and no other context is Running (R90, R91). -/
def State.Paused (s t : State) (n : Fin 288) (k : Nat) (st : CtxSt) (w : WaitFor) : Prop :=
  s.OnlyCore t n ∧
  t.core n = { s.core n with ctx := (t.core n).ctx, act := (t.core n).act, cur := (t.core n).cur } ∧
  (∀ j, j ≠ k → (t.core n).slot j = (s.core n).slot j ∨
    (t.core n).slot j = ((s.core n).slot j).taken ∧ ((s.core n).slot j).st = .ready) ∧
  (t.core n).slot k = { (s.core n).slot k with st := st, wait := w, pc := ((s.core n).slot k).pc + 1 } ∧
  ((s.core n).cur = k → (∀ j, j ≠ k → ((s.core n).slot j).st ≠ .running) → ∀ j, (s.core n).nextReady = some j →
    (t.core n).slot j = ((s.core n).slot j).taken ∧ (t.core n).cur = j)

/-- The scalar registers of a context are as before. -/
def State.SameS (s t : State) (n : Fin 288) (k : Nat) : Prop := ∀ j, t.sreg n k j = s.sreg n k j

/-- The scalar registers of a context after a write of register `r`; s0 reads 0 and discards writes (R115). -/
def State.WroteS (s t : State) (n : Fin 288) (k r : Nat) (v : Word) : Prop :=
  ∀ j, t.sreg n k j = if j = r ∧ j ≠ 0 then v else s.sreg n k j

/-- The commands that issue a C-op with two operands, with its `OP` and its function of sA and op2 (R115, R116). -/
def aluRows : List ((Fin 288 → Instr) × Nat × (Word → Word → Word)) :=
  [(.add, 0x05, fun a b => a + b), (.sub, 0x06, fun a b => a - b), (.mul, 0x07, fun a b => a * b),
   (.and, 0x08, fun a b => a &&& b), (.or, 0x09, fun a b => a ||| b), (.xor, 0x0A, fun a b => a ^^^ b),
   (.shl, 0x0B, fun a b => a <<< (b.toNat % 64)), (.shr, 0x0C, fun a b => a >>> (b.toNat % 64)),
   (.sra, 0x0D, fun a b => a.sshiftRight (b.toNat % 64)),
   (.slt, 0x0E, fun a b => if a.toInt < b.toInt then 1 else 0),
   (.sltu, 0x0F, fun a b => if a.toNat < b.toNat then 1 else 0)]

/-- The commands that issue another C-op with a scalar result, with its `OP` and its result (R116). -/
def moveRows : List ((Fin 288 → Instr) × Nat × (State → Fin 288 → Nat → Word → Word)) :=
  [(.li, 0x03, fun _ _ _ w => cIMM w),
   (.lih, 0x04, fun s n k w => (cIMM w <<< 32) ||| (s.sreg n k (cSD w) &&& 0xFFFF_FFFF#64)),
   (.crd, 0x1E, fun s n _ w => (s.core n).counter (cCNT w)),
   (.cid, 0x20, fun s n k _ => BitVec.ofNat 64 (n.val + k * 2 ^ 9 + ((s.core n).slot k).launch.part * 2 ^ 16 +
      (s.odNum 0x4400 0 % 2 ^ 20) * 2 ^ 20))]

/-- The commands that issue a conditional branch, with its `OP` and its condition on sA and sB (R116). -/
def branchRows : List ((Fin 288 → Instr) × Nat × (Word → Word → Bool)) :=
  [(.beq, 0x12, fun a b => decide (a = b)), (.bne, 0x13, fun a b => decide (a ≠ b)),
   (.blt, 0x14, fun a b => decide (a.toInt < b.toInt)), (.bge, 0x15, fun a b => decide (a.toInt ≥ b.toInt)),
   (.bltu, 0x16, fun a b => decide (a.toNat < b.toNat)), (.bgeu, 0x17, fun a b => decide (a.toNat ≥ b.toNat))]

/-- The commands that issue a T-op without a check of their own at issue, with its `OP` (R104, R105). -/
def tensorRows : List ((Fin 288 → Instr) × Nat) :=
  [(.tadv, 0x01), (.tzero, 0x02), (.tldacc, 0x03), (.tstacc, 0x04), (.mmaFp4, 0x10), (.mmaFp8, 0x11), (.mmaF16, 0x12),
   (.mmaFp32, 0x13), (.mmaInt8, 0x14)]

/-- The commands that issue a V-op, with its `OP` (R130, R135 to R140). -/
def vectorRows : List ((Fin 288 → Instr) × Nat) :=
  [(.vld, 0x00), (.vlds, 0x01), (.vst, 0x02), (.vsts, 0x03), (.vgath, 0x04), (.vscat, 0x05), (.vscadd, 0x06), (.vbcs, 0x07),
   (.vlane, 0x08), (.viota, 0x09), (.fadd, 0x10), (.fsub, 0x11), (.fmul, 0x12), (.ffma, 0x13), (.fmax, 0x14), (.fmin, 0x15),
   (.fabs, 0x16), (.fneg, 0x17), (.iadd, 0x18), (.isub, 0x19), (.imul, 0x1A), (.imax, 0x1B), (.imin, 0x1C)] ++
  [(.vand, 0x1D), (.vor, 0x1E), (.vxor, 0x1F), (.vshl, 0x20), (.vshr, 0x21), (.vsra, 0x22), (.fcmp, 0x24), (.icmp, 0x25),
   (.sel, 0x26), (.plogic, 0x28), (.pset, 0x29), (.pget, 0x2A), (.vperm, 0x2C), (.vrot, 0x2D), (.vred, 0x30), (.vredbx, 0x31),
   (.vcvt, 0x34), (.mxpk, 0x35), (.mxunpk, 0x36), (.bxdep, 0x38), (.bxmrg, 0x39), (.bxfin, 0x3A), (.vfunc, 0x3C)]

/-- The commands that issue an M-op, with its `OP`; an RPUT and a TBL say what the check bits of their source show (R111, R162). -/
def moveEngineRows : List ((Ecc → Fin 288 → Instr) × Nat) :=
  [(fun _ => .dmaCp, 0), (fun e n => .rput n e, 1), (fun _ => .rget, 2), (fun _ => .csig, 3), (fun _ => .rsig, 4), (fun e n => .tbl n e, 5)]

/-! ### The host side -/

/-- The dispatcher has chosen queue `q`, whose first descriptor `f` is of type `ty` and free to dispatch (R217, R220); its partition is
not being torn down, and no descriptor in flight carries its number. -/
def State.Front (s : State) (q ty : Nat) (f : Fetched) : Prop :=
  s.disp.chosen = some q ∧ (s.queue q).fetched.head? = some f ∧ dType (dNum f.bytes) = ty ∧ s.turn q = .go ∧
  s.tearing (qPart q) = false ∧ s.flight? ⟨q, f.index⟩ = none

/-- The first descriptor `f` of queue `q` has left it: its slots are consumed, and no other queue differs (R216, R217). -/
def State.Took (s t : State) (q : Nat) (f : Fetched) : Prop :=
  (t.queue q).fetched.map Fetched.bytes = ((s.queue q).fetched.drop 1).map Fetched.bytes ∧
  (t.queue q).head = ((s.queue q).head + f.bytes.length / 64) % (s.queue q).slots ∧
  (t.queue q).tail = (s.queue q).tail ∧ (∀ r, r ≠ q → t.queue r = s.queue r) ∧ t.disp.last = q

/-- The descriptor `f` of queue `q` has left its queue and has finished with outcome `e`, last in the order of completion (R218). -/
def State.Ended (s t : State) (q : Nat) (f : Fetched) (e : UEnd) : Prop :=
  s.Took t q f ∧ t.disp.order = s.disp.order ++ [⟨q, f.index⟩] ∧
  ∃ x, t.flight? ⟨q, f.index⟩ = some x ∧ x.finished = true ∧ x.outcome = e ∧ x.bytes = f.bytes ∧ x.part = qPart q

/-- The descriptor `f` of queue `q` has left its queue and is in flight with `n` units, none of which has ended (R217, R220). -/
def State.InFlight (s t : State) (q : Nat) (f : Fetched) (n : Nat) : Prop :=
  s.Took t q f ∧ t.disp.order = s.disp.order ∧
  ∃ x, t.flight? ⟨q, f.index⟩ = some x ∧ x.finished = false ∧ x.ends = [] ∧ x.units = n ∧ x.bytes = f.bytes ∧ x.part = qPart q

/-! ### The Sepia engines -/

/-- Command `x` is the one with number `id`, of operation `op`, and its turn has come: its engines execute it, and no earlier command of
theirs that is not executed meets it in a sector (R186, R187); no change of a hot-row cache's enable or of the watchdog's interval waits
(R203, R204). -/
def State.InTurn (s : State) (id op : Nat) (x : SCmd) : Prop :=
  s.sepia.cmds.find? (fun y => y.id == id) = some x ∧ s.cmdTurn x = true ∧ x.refused = [] ∧ cmOp x.bits = op ∧
  s.odPending 0x8004 0 = none ∧ ∀ k, k < 16 → s.odPending 0x8040 (k + 1) = none

/-- The command with number `id` has been executed with a status and the units that are done (R192). -/
def State.Executed (s t : State) (id st : Nat) (units : List Nat) : Prop :=
  t.sepia.next = s.sepia.next ∧
  t.sepia.cmds.find? (fun y => y.id == id) = (s.sepia.cmds.find? (fun y => y.id == id)).map (fun x =>
    { x with done := true, status := st, units := units })

/-! ### Links and fabric -/

/-- Link `n` has gone to a state for a reason, which OD 0x4002 and 0x4003 report (R245); no other link, no core and no memory byte
differs: another link keeps the value of OD 0x4032 that it has taken, whatever link takes the next (R17, R259). -/
def State.LinkAt (s t : State) (n : Nat) (st : LinkSt) (reason : Nat) : Prop :=
  (t.link n).st = st ∧ t.odNum 0x4002 (n + 1) = st.code ∧ t.odNum 0x4003 (n + 1) = reason ∧
  (∀ m, m ≠ n → m < 12 → t.link m = { s.link m with farOk := (t.link m).farOk } ∧ t.farOk m = s.farOk m) ∧
  t.cores = s.cores ∧ t.mem = s.mem

/-- The first control message received on link `n` is `m`, of a code, with `rest` behind it (R243). -/
def State.Message (s : State) (n code : Nat) (m : List Byte) (rest : List (List Byte)) : Prop :=
  (s.link n).ctl = m :: rest ∧ fieldAt m 0 1 = code

/-- The first packet delivered here that meets `q` is in clear `p`, encrypted or not: its flow has no window entry and there is room for
one, the reply store is not full, the module is in service, and its partition admits it (R265, R271, R276, R349, R360). -/
def State.Arrives (s : State) (p : Pkt) (q : Pkt → Bool) : Prop :=
  (∃ x, s.fabric.inbox.find? (fun y => q (s.clear y)) = some x ∧ s.opened x = .ok p) ∧ s.inService = true ∧ s.life.removal = 0 ∧
  (s.escapeMode = true → s.storedReplies ≤ Config.replyStore) ∧
  s.odPending 0x6010 (p.dpart + 1) = none ∧ s.fabric.wins.find? (Win.is p.src p.spart) = none ∧
  s.fabric.wins.length < 32768 ∧ s.admitted p = true

/-- The request `p` has been answered: its window entry keeps the reply, of an operation, status and payload, to its source, with its
number and generation tag (R263, R276). -/
def State.Answered (t : State) (p : Pkt) (op status : Nat) (bs : List Byte) : Prop :=
  ∃ w r, w ∈ t.fabric.wins ∧ w.src = p.src ∧ w.spart = p.spart ∧ tfind w.replies p.seq = some r ∧
    r.op = op ∧ r.status = status ∧ r.payload = bs ∧ r.dst = p.src ∧ r.src = p.dst ∧ r.seq = p.seq ∧ r.gen = p.gen

/-- The first packet delivered here of a reply's operation is in clear `p`, encrypted or not: it answers the outstanding request `r`, whose
owner is not fenced; no setting of the echo waits, and no request (R275, R277, R360, R383). -/
def State.Reply (s : State) (p : Pkt) (op : Nat) (r : Req) : Prop :=
  (∃ x, s.fabric.inbox.find? (fun y => (s.clear y).op == op) = some x ∧ s.opened x = .ok p) ∧
  s.fabric.out.find? (fun r => r.answers p && r.pkt.gen == p.gen) = some r ∧
  s.fencedOwner r.owner r.pkt.spart = false ∧ s.fabric.waiting = []

/-- The outstanding requests without the one that a reply of its flow and number ends (R277). -/
def State.without (s : State) (p : Pkt) : List Req :=
  s.fabric.out.filter (fun r => !(r.pkt.dst == p.src && r.pkt.spart == p.spart && r.pkt.seq == p.seq))

/-- The path delay that a TIME message gives, in ps; none while it echoes nothing (R282). -/
def State.pathOf (s : State) (m : List Byte) : Int :=
  if fieldAt m 9 8 = 0 ∧ fieldAt m 17 8 = 0 then 0
  else 500 * (((s.fab : Int) - fieldAt m 9 8) - ((fieldAt m 1 8 : Int) - fieldAt m 17 8))

/-- A TIME message `m` has been taken from link `n` and recorded, and the parent is chosen (R281, R282). -/
def State.timeHeard (s : State) (n : Fin 12) (m : List Byte) (rest : List (List Byte)) : State :=
  let heard := tput s.ftime.links n ⟨fieldAt m 1 8, s.fab, fieldAt m 25 1, fieldAt m 26 1, fieldAt m 27 8, s.pathOf m⟩
  { s with links := tset Link.blank s.links n { s.link n with ctl := rest },
           ftime := { s.ftime with links := heard } }.timeChoose

/-! ### Collectives and epochs -/

/-- A COLLECTIVE packet of a phase is the next to arrive, and it is for the running collective `c` (R294, R295). -/
def State.CollArrives (s : State) (phase : Nat) (p : Pkt) (c : Coll) : Prop :=
  s.Arrives p (fun p => p.op == 5 && colPhase p == phase) ∧ s.colRefusal p = none ∧ s.coll? (auxGroup p) = some c ∧
  c.inst = colInst p ∧ s.colls.run.find? (fun x => x.ref == c.ref) = some c

/-- The collective `c` has ended early with a sub-status: its group is Broken, its slots are released and the end is counted (R306). -/
def State.CollBroken (s t : State) (c : Coll) (sub : Nat) : Prop :=
  t.mem = s.mem ∧ t.gSt c.group = 3 ∧ t.odNum 0x5012 sub = (s.odNum 0x5012 sub + 1) % 2 ^ 64 ∧
  ∀ x, t.colls.run.find? (fun x => x.ref == c.ref) = some x → x.ended = some ⟨6, sub, 0⟩ ∧ x.lease = []

/-- An EPOCH packet of a kind is the next to arrive, and it matches an epoch tree known here (R326, R327). -/
def State.EpArrives (s : State) (kind : Nat) (p : Pkt) : Prop :=
  s.Arrives p (fun p => p.op == 6 && epKind p == kind) ∧ s.epKnown p = true

/-! ### Security -/

/-- A function's DOE mailbox has answered `r` with bytes `b`; of the rest only that function's responder, the IDE streams, the TDIs
and the count of free values may differ (R353). -/
def State.Replied (s t : State) (fn : Nat) (r : Rsp) (b : List Byte) : Prop :=
  t = { s with sec := t.sec, od := t.od, free := t.free, out := s.out ++ [.doe fn r b] } ∧ t.sec.onyx = s.sec.onyx ∧
  (∀ k, k ≠ fn → t.spdm k = s.spdm k) ∧ ∀ i j, j < 256 → i ≠ 0x6030 → i ≠ 0x6031 → t.odGet i j = s.odGet i j

/-! ### Faults and resets -/

/-- A device fault whose action is a reset of a scope and target finds nothing in its way: the module is not Black, no reset under way
contains it, no setting of the escalation waits, and it does not escalate (R371, R379, R390). -/
def State.Calm (s : State) (scope target : Nat) : Prop :=
  s.life.svc ≠ .black ∧ (∀ r ∈ s.faults.resets, s.inside scope target r = false) ∧ s.odPending 0x7040 0 = none ∧
  s.odPending 0x7041 0 = none ∧ s.escalates = false

/-- The fault has made its reset: the reset is under way, counted by its scope, and the fault by its code (R371). -/
def State.ResetMade (s t : State) (code scope target : Nat) : Prop :=
  (∃ r ∈ t.faults.resets, r.scope = scope ∧ r.target = target ∧ r.fault = true ∧ r.held = false) ∧
  t.odNum 0x7003 scope = (s.odNum 0x7003 scope + 1) % 2 ^ 64 ∧ t.odNum 0x7011 code = (s.odNum 0x7011 code + 1) % 2 ^ 64

/-- A core is as a native reset leaves it: every slot Empty, every counter 0, no engine at work (R90, R377). -/
def State.CoreReset (t : State) (n : Nat) : Prop :=
  (∀ k, ((t.core n).slot k).st = .empty) ∧ (∀ k, (t.core n).counter k = 0) ∧ (t.core n).tRun = none ∧ (t.core n).vRun = none ∧
  (t.core n).mops = []

/-! ### The management port -/

/-- A request of frame `f` is the next in order of the session `x` of the management door, whose other requests have all been executed,
and no handover holds it (R476, R479, R483, R487). -/
def State.NextIn (s : State) (f : Frame) (x : Session) : Prop :=
  s.handing = false ∧ f.door = .m ∧ s.accepts f = true ∧ f.sound = true ∧ f.formed = true ∧ s.sessionOf f = some x ∧
  s.session? x.id = some x ∧ f.ver.toNat = x.ver ∧ s.odPending 0x1110 0 = none ∧ x.early = [] ∧
  (∀ e ∈ x.store, e.1 ≠ f.seq.toNat) ∧ (x.fresh = true ∨ f.seq.toNat = (x.top + 1) % 65536)

/-- Such a request, which the active Slate controller serves (R487). -/
def State.InSession (s : State) (f : Frame) (x : Session) : Prop := s.activeRuns = true ∧ s.NextIn f x

/-- The response of a type and body to the request of frame `f` in session `x` (R477, R478). -/
def response (f : Frame) (x : Session) (typ : Nat) (body : List Byte) : Out :=
  .stanan x.src (framed (stMsg x.ver (typ + 128) x.id f.seq.toNat body))

/-- The request has been answered with a type and body, its number is the session's highest executed one, and nothing but the
management state differs; no other session does (R483, R484). -/
def State.Served (s t : State) (f : Frame) (x : Session) (typ : Nat) (body : List Byte) : Prop :=
  t = { s with mgmt := t.mgmt, out := s.out ++ [response f x typ body] } ∧
  (∀ y ∈ s.mgmt.sessions, y.id ≠ x.id → y ∈ t.mgmt.sessions) ∧ t.mgmt.events = s.mgmt.events ∧
  (∀ y, t.session? x.id = some y → y.top = f.seq.toNat ∧ y.fresh = false ∧ y.heard = s.now)

/-- The object, subindex and bytes that a command with a row of its own writes, and its frame (R169, R180, R196, R245, R255, R256, R260,
R266, R272, R290, R344, R348, R350, R358, R363, R378, R389, R404, R408, R410, R414, R417, R527, R530, R539). -/
def objectOf (c : Instr) : Option (Frame × Nat × Nat × List Byte) :=
  match c with
  | .marchRequest f n v => some (f, if n.val < 144 then 0x8801 else 0x8802, n.val % 144 + 1, leBytes 2 v.toNat)
  | .sparePairAssign f k c => some (f, 0x8010, k.val + 1, leBytes 1 c.val)
  | .sparePairCancel f k => some (f, 0x8010, k.val + 1, [0xFF])
  | .sepiaBypass f k v => some (f, 0x8002, k.val + 1, leBytes 1 (b2n v))
  | .linkEnable f n => some (f, 0x4001, n.val + 1, [1])
  | .linkDisable f n => some (f, 0x4001, n.val + 1, [0])
  | .loopbackRequest f n v => some (f, 0x4030, n.val + 1, leBytes 4 v.toNat)
  | .coordinateWrite f v => some (f, 0x4400, 0, leBytes 4 v.toNat)
  | .routingTableWrite f k b => some (f, 0x4410 + b2n k, 0, b)
  | .swapRequest f v => some (f, 0x4412, 0, leBytes 8 v.toNat)
  | .groupDescriptorWrite f g b => some (f, 0x5100 + g.val / 128, g.val % 128 + 1, b)
  | .partitionCreate f p => some (f, 0x6001, p.val + 1, [1])
  | .partitionTeardown f p => some (f, 0x6001, p.val + 1, [2])
  | .peerAdmissionWrite f p v => some (f, 0x6010, p.val + 1, leBytes 4 v.toNat)
  | .fabricWindowWrite f p w b => some (f, 0x6100 + p.val, w.val + 1, b)
  | .createJobSecret f v => some (f, 0x6410, 0, leBytes 1 v.toNat)
  | .makeOffer f v => some (f, 0x6411, 0, leBytes 1 v.toNat)
  | .grantRequest f b => some (f, 0x6413, 0, b)
  | .installGrant f b => some (f, 0x6415, 0, b)
  | .destroyJobSecret f v => some (f, 0x6417, 0, leBytes 1 v.toNat)
  | .unsealRequest f b => some (f, 0x6420, 0, b)
  | .resetCore f t => some (f, 0x7001, 0, leBytes 4 (1 * 2 ^ 28 + t.toNat))
  | .resetCluster f t => some (f, 0x7001, 0, leBytes 4 (2 * 2 ^ 28 + t.toNat))
  | .resetComputePart f t => some (f, 0x7001, 0, leBytes 4 (3 * 2 ^ 28 + t.toNat))
  | .resetWholeModule f t => some (f, 0x7001, 0, leBytes 4 (4 * 2 ^ 28 + t.toNat))
  | .legacyCore f t => some (f, 0x7001, 0, leBytes 4 (5 * 2 ^ 28 + t.toNat))
  | .legacyCluster f t => some (f, 0x7001, 0, leBytes 4 (6 * 2 ^ 28 + t.toNat))
  | .legacyPartition f t => some (f, 0x7001, 0, leBytes 4 (7 * 2 ^ 28 + t.toNat))
  | .legacyWholeModule f t => some (f, 0x7001, 0, leBytes 4 (8 * 2 ^ 28 + t.toNat))
  | .removeCmd f => some (f, 0x2010, 0, [1])
  | .returnToService f => some (f, 0x2010, 0, [2])
  | .fabricRelease f v => some (f, 0x2012, 0, leBytes 1 (b2n v))
  | .defectMarkWrite f c v => some (f, 0x2101, c.val + 1, leBytes 4 v.toNat)
  | .rowRemapListWrite f b => some (f, 0x2110, 0, b)
  | .failingPairsWrite f k v => some (f, 0x2120, k.val + 1, leBytes 4 v.toNat)
  | .powerGrantWrite f v => some (f, 0x3000, 0, leBytes 2 v.toNat)
  | .firmwareImagePart f b => some (f, 0xB003, 0, b)
  | .handOver f => some (f, 0xB004, 0, [1])
  | .fwComplete f => some (f, 0xB004, 0, [2])
  | .fwRevert f => some (f, 0xB004, 0, [3])
  | .fwCancel f => some (f, 0xB004, 0, [4])
  | .licenceWrite f b => some (f, 0x6450, 0, b)
  | _ => none

/-- A command that writes one object is in its turn, and the write is accepted: its status is 0 (R485, R493). -/
def State.Takes (s : State) (c : Instr) : Prop :=
  ∃ f idx sub bs x, objectOf c = some (f, idx, sub, bs) ∧ s.InSession f x ∧ (s.odStatus .m idx sub bs).1 = 0

/-! ### The machine -/

/-- The commands that may write a byte of local or host memory (R28, R29, R206). Every other command writes none. -/
def stores (c : Instr) : Bool :=
  match c with
  | .tOpComplete _ _ | .dmaCp _ | .rput _ _ | .rget _ | .csig _ | .rsig _ | .tbl _ _ | .mOpComplete _ _ _ _
  | .vOpComplete _ _ | .programCopyComplete _ _ | .handoverPoint _ _ | .marchRequest _ _ _ | .marchTestEnd _ _
  | .poolMarchEnd _ _ | .hbmRead _ _ _ _ | .sectorWrite _ _ _ | .ledgerRoomFreed _ | .patrolRead _ _
  | .sparePairAssign _ _ _ | .sparePairCancel _ _ | .sepiaLookup _ _ | .sepiaPool _ _ | .scatterAdd _ _ | .rowUpdate _ _
  | .streamCopy _ _ | .sepiaFill _ _ | .sepiaCommandComplete _ | .sepiaBypass _ _ _ | .restoreEnd _ _
  | .copyUnitDone _ _ _ _ | .descriptorComplete | .hostWindowWrite _ _ _ _ _ | .linkEnable _ _ | .linkDisable _ _
  | .loopbackRequest _ _ _ | .fabricWrite _ | .fabricReadData _ | .coordinateWrite _ _ | .routingTableWrite _ _ _
  | .swapRequest _ _ | .collUp _ _ | .downPhase _ | .chunkCombined _ _ _ _ _ | .groupDescriptorWrite _ _ _
  | .partitionCreate _ _ | .partitionTeardown _ _ | .scrubDone _ _ | .peerAdmissionWrite _ _ _
  | .fabricWindowWrite _ _ _ _ | .createJobSecret _ _ | .makeOffer _ _ | .grantRequest _ _ | .installGrant _ _
  | .destroyJobSecret _ _ | .unsealRequest _ _ | .tamper _ | .progressWatchdogFire _ | .pllLossOfLock _
  | .controlStateError _ | .slateSilence | .resetCore _ _ | .resetCluster _ _ | .resetComputePart _ _
  | .resetWholeModule _ _ | .legacyCore _ _ | .legacyCluster _ _ | .legacyPartition _ _ | .legacyWholeModule _ _
  | .resetOverrun _ _ | .resetRelease _ _ _ | .fenceEnd _ _ _ | .slateBootDone _ _ _ _ | .loadingDone _ | .modResetRelease | .replayStart _ | .replayEnd _ _ | .holdupEnd | .onyxRegenerationDone _
  | .memoryTrainingDone _ _ | .modReset | .removeReq | .removeCmd _ | .returnToService _ | .fabricRelease _ _
  | .removalLinksDown | .defectMarkWrite _ _ _ | .rowRemapListWrite _ _ | .failingPairsWrite _ _ _
  | .powerGrantWrite _ _ | .paceTick | .safetySwitchOpen | .openSession _ _ _ _ _ | .closeSession _ | .keepalive _
  | .readObject _ _ _ _ | .writeObject _ _ _ _ _ | .segReadInit _ _ _ _ | .segReadData _ _ | .segWriteInit _ _ _ _ _
  | .segWriteData _ _ _ | .segAbort _ | .eventAck _ _ | .firmwareImagePart _ _ | .handOver _ | .handoverDone
  | .handoverConfirmTimeout | .fwComplete _ | .fwRevert _ | .fwCancel _ | .licenceWrite _ _ | .traceRecord _
  | .snapshotLatch _ | .onyxOperationDone _ => true
  | _ => false

/-- The commands that issue an instruction of the scalar, the tensor or the vector group (R86, R95). -/
def computeRows : List (Fin 288 → Instr) :=
  aluRows.map (·.1) ++ moveRows.map (·.1) ++ branchRows.map (·.1) ++ tensorRows.map (·.1) ++ vectorRows.map (·.1) ++
  [.nop, .endOp, .yield, .lds, .sts, .jal, .jr, .loop, .wait, .sig, .cset, .fence, .time, .tdl]

/-! ### BX32 -/

/-- A BX32 value built from `n` addends by deposits and merges, beginning with empty values (R76, R83). -/
inductive Built : Nat → BX → Prop where
  | empty : Built 0 BX.empty
  | deposit {n : Nat} {a : BX} (x : Lane) : Built n a → Built (n + 1) (a.deposit x)
  | merge {m n : Nat} {a c : BX} : Built m a → Built n c → Built (m + n) (a.merge c)

end Sys2Proof.Machine
end

