-- ==== Sys2Proof/Certificates/Slice0/Obligations.lean ====
section
/-! DEFINITION. The statements for the provers, family by family. -/
open Sys2Proof Sys2Proof.Machine

/-! ### Cores (R86 to R172) -/

/-- Every two-operand C-op writes its result to sD and goes on in line (R115, R116); nothing else changes but the core's activity
count and the retirement event. LI, LIH, CRD and CID write sD and go on in line; TIME writes a multiple of 40 ns that is no greater
than the local time and less than it by under 40 ns and 4 core cycles (R116). -/
def Obligations.CopResults : Prop :=
  (∀ e ∈ aluRows, ∀ (n : Fin 288) (s : State) (k : Nat) (w : Word),
     s.Issues n 0 e.2.1 k w → s.InLine n k →
     Answers (e.1 n) s fun t =>
       s.WroteS t n k (cSD w) (e.2.2 (s.sreg n k (cSA w)) (s.sreg n k (cSB w) + cIMM w)) ∧
       s.Moved t n k (((s.core n).slot k).pc + 1)) ∧
  ((∀ e ∈ moveRows, ∀ (n : Fin 288) (s : State) (k : Nat) (w : Word),
     s.Issues n 0 e.2.1 k w → s.InLine n k →
     Answers (e.1 n) s fun t =>
       s.WroteS t n k (cSD w) (e.2.2 s n k w) ∧ s.Moved t n k (((s.core n).slot k).pc + 1)) ∧
   ∀ (n : Fin 288) (s : State) (k : Nat) (w : Word), s.Issues n 0 0x21 k w → s.InLine n k → Answers (.time n) s fun t =>
     s.Moved t n k (((s.core n).slot k).pc + 1) ∧ ∃ v : Nat, v % 40 = 0 ∧ v ≤ s.clk.localTime ∧
       (s.clk.localTime - v) * s.clk.coreMHz < 40 * s.clk.coreMHz + 4000 ∧ s.WroteS t n k (cSD w) (BitVec.ofNat 64 v))

/-- A conditional branch goes to PC + sext(IMM) when its comparison holds and in line when not; a target outside the region records
the instruction-address fault with the PC at the branch (R98, R116). JAL, JR and LOOP: the register they write and where they go;
outside the region the register is still written and the instruction-address fault is recorded (R98, R116). At the last instruction
of its region a C-op in line has its effect, and the instruction-address fault of the next fetch is recorded with the PC at it; a
WAIT or FENCE that is not satisfied waits first, and the fault then stands when the context runs again (R86, R90, R98). -/
def Obligations.CopControl : Prop :=
  (∀ e ∈ branchRows, ∀ (n : Fin 288) (s : State) (k : Nat) (w : Word), s.Issues n 0 e.2.1 k w →
     let x := (s.core n).slot k
     let target : Word := if e.2.2 (s.sreg n k (cSA w)) (s.sreg n k (cSB w)) then BitVec.ofNat 64 x.pc + cIMM w
       else BitVec.ofNat 64 (x.pc + 1)
     (target.toNat < x.launch.len → Answers (e.1 n) s fun t =>
       s.Moved t n k target.toNat ∧ s.SameS t n k) ∧
     (x.launch.len ≤ target.toNat → Answers (e.1 n) s fun t =>
       s.Faulted t n k 2 0 e.2.1 (target.toNat % 2 ^ 44) ∧ s.SameS t n k)) ∧
  (∀ (n : Fin 288) (s : State) (k : Nat) (w : Word),
     let x := (s.core n).slot k
     let far : Word := BitVec.ofNat 64 x.pc + cIMM w
     let next : Word := BitVec.ofNat 64 (x.pc + 1)
     let down : Word := s.sreg n k (cSD w) - 1
     let goes := fun (c : Instr) (op : Nat) (target : Word) (q : State → Prop) =>
       (target.toNat < x.launch.len → Answers c s fun t => s.Moved t n k target.toNat ∧ q t) ∧
       (x.launch.len ≤ target.toNat → Answers c s fun t => s.Faulted t n k 2 0 op (target.toNat % 2 ^ 44) ∧ q t)
     (s.Issues n 0 0x18 k w → goes (.jal n) 0x18 far (fun t => s.WroteS t n k (cSD w) next)) ∧
     (s.Issues n 0 0x19 k w → goes (.jr n) 0x19 (s.sreg n k (cSA w)) (fun t => s.SameS t n k)) ∧
     (s.Issues n 0 0x1A k w → goes (.loop n) 0x1A (if cSD w ≠ 0 ∧ down ≠ 0 then far else next)
       (fun t => s.WroteS t n k (cSD w) down))) ∧
  (∀ (n : Fin 288) (s : State) (k : Nat) (w : Word),
     let x := (s.core n).slot k
     let v := s.sreg n k (cSA w) + cIMM w
     let waits := fun (c : Instr) (wf : WaitFor) => Answers c s fun t => s.OnlyCore t n ∧
       (t.core n).slot k = { x with st := .waiting, wait := wf, off := some (x.launch.len, fOp w) }
     x.pc + 1 = x.launch.len → x.launch.len ≤ 16384 →
     (∀ e ∈ aluRows, s.Issues n 0 e.2.1 k w → Answers (e.1 n) s fun t =>
       s.Faulted t n k 2 0 e.2.1 x.launch.len ∧
       s.WroteS t n k (cSD w) (e.2.2 (s.sreg n k (cSA w)) (s.sreg n k (cSB w) + cIMM w))) ∧
     (s.Issues n 0 0x00 k w → Answers (.nop n) s fun t => s.Faulted t n k 2 0 0 x.launch.len ∧ s.SameS t n k) ∧
     (s.Issues n 0 0x1B k w → ((s.core n).counter (cCNT w)).toNat < v.toNat → waits (.wait n) (.counter (cCNT w) v)) ∧
     (s.Issues n 0 0x1F k w → (s.core n).fenceDone k (bits 2 0 w.toNat) = false →
       waits (.fence n) (.fence (bits 2 0 w.toNat))) ∧
     (s.Issues n 0 0x01 k w → Answers (.endOp n) s fun t =>
       s.OnlySlot t n k (s.core n) ∧ (t.core n).slot k = { x with st := .draining }))

/-- NOP has no effect; SIG and CSET change their counter modulo 2^64 and no other; a WAIT or FENCE that is satisfied goes on (R93,
R116, R117). A WAIT or FENCE that is not satisfied makes the context Waiting, YIELD makes it Ready when another context is Ready and
goes on when none is, and END makes it Draining with the PC at END (R90, R116, R117). -/
def Obligations.CopCountersAndWaits : Prop :=
  (∀ (n : Fin 288) (s : State) (k : Nat) (w : Word), s.InLine n k →
     let v := s.sreg n k (cSA w) + cIMM w
     let on := ((s.core n).slot k).pc + 1
     (s.Issues n 0 0x00 k w → Answers (.nop n) s fun t => s.Moved t n k on ∧ s.SameS t n k) ∧
     (s.Issues n 0 0x1C k w → Answers (.sig n) s fun t =>
       (∀ j, (t.core n).counter j = if j = cCNT w then (s.core n).counter j + v else (s.core n).counter j) ∧
       s.MovedTo t n k on { s.core n with cnt := (t.core n).cnt } ∧ s.SameS t n k) ∧
     (s.Issues n 0 0x1D k w → Answers (.cset n) s fun t =>
       (∀ j, (t.core n).counter j = if j = cCNT w then v else (s.core n).counter j) ∧
       s.MovedTo t n k on { s.core n with cnt := (t.core n).cnt } ∧ s.SameS t n k) ∧
     (s.Issues n 0 0x1B k w → v.toNat ≤ ((s.core n).counter (cCNT w)).toNat →
       Answers (.wait n) s fun t => s.Moved t n k on ∧ s.SameS t n k) ∧
     (s.Issues n 0 0x1F k w →
       ¬ (bit 0 w.toNat = true ∧ (s.core n).tBusy k = true) → ¬ (bit 1 w.toNat = true ∧ (s.core n).vBusy k = true) →
       ¬ (bit 2 w.toNat = true ∧ (s.core n).mBusy k = true) →
       Answers (.fence n) s fun t => s.Moved t n k on ∧ s.SameS t n k)) ∧
  (∀ (n : Fin 288) (s : State) (k : Nat) (w : Word), s.InLine n k →
     let v := s.sreg n k (cSA w) + cIMM w
     (s.Issues n 0 0x1B k w → ((s.core n).counter (cCNT w)).toNat < v.toNat →
       Answers (.wait n) s fun t => s.Paused t n k .waiting (.counter (cCNT w) v)) ∧
     (s.Issues n 0 0x1F k w → ((bit 0 w.toNat = true ∧ (s.core n).tBusy k = true) ∨
         (bit 1 w.toNat = true ∧ (s.core n).vBusy k = true) ∨ (bit 2 w.toNat = true ∧ (s.core n).mBusy k = true)) →
       Answers (.fence n) s fun t => s.Paused t n k .waiting (.fence (bits 2 0 w.toNat))) ∧
     (s.Issues n 0 0x02 k w → (s.core n).nextReady.isSome = true → (s.core n).cur = k →
       Answers (.yield n) s fun t => s.Paused t n k .ready ((s.core n).slot k).wait) ∧
     (s.Issues n 0 0x02 k w → (s.core n).nextReady = none →
       Answers (.yield n) s fun t => s.Moved t n k (((s.core n).slot k).pc + 1) ∧ s.SameS t n k) ∧
     (s.Issues n 0 0x01 k w → Answers (.endOp n) s fun t =>
       s.OnlySlot t n k (s.core n) ∧ (t.core n).slot k = { (s.core n).slot k with st := .draining }))

/-- LDS and STS queue an access of 8 bytes at sA + op2 behind the vector engine's work; an offset that is not a multiple of 8 or
lies above 0x2F_FFF8 raises the scratchpad-access fault at issue (R116, R129). A T-op enters the tensor queue with its scalar
operands read at issue; TDL only with an aligned offset inside the scratchpad, and with the scratchpad-access fault otherwise (R104,
R109). A V-op enters the vector queue with its scalar operands read at issue (R129, R142). An M-op that has no fault at issue enters
the move engine's queue with its operand registers read at issue; it stays queued while 64 M-ops execute (R86, R110, R114), whatever
its read would have found. -/
def Obligations.EngineIssue : Prop :=
  (∀ e ∈ [((Instr.lds : Fin 288 → Instr), 0x10), (Instr.sts, 0x11)], ∀ (n : Fin 288) (s : State) (k : Nat) (w : Word),
     s.Issues n 0 e.2 k w → s.InLine n k →
     let a := (s.sreg n k (cSA w) + (s.sreg n k (cSB w) + cIMM w)).toNat
     (a % 8 = 0 → a ≤ 0x2F_FFF8 → (s.core n).vq.length < 16 → Answers (e.1 n) s fun t =>
       s.MovedTo t n k (((s.core n).slot k).pc + 1)
         { s.core n with vq := (s.core n).vq ++ [⟨k, w, 0, 0, s.sreg n k (cSD w), a⟩] } ∧ s.SameS t n k) ∧
     (¬ (a % 8 = 0 ∧ a ≤ 0x2F_FFF8) → Answers (e.1 n) s fun t => s.Faulted t n k 5 0 e.2 0 ∧ s.SameS t n k)) ∧
  ((∀ e ∈ tensorRows, ∀ (n : Fin 288) (s : State) (k : Nat) (w : Word),
     s.Issues n 1 e.2 k w → s.InLine n k → (s.core n).tq.length < 8 → Answers (e.1 n) s fun t =>
       s.MovedTo t n k (((s.core n).slot k).pc + 1)
         { s.core n with tq := (s.core n).tq ++ [⟨k, w, s.sreg n k (tSA w), s.sreg n k (tSB w), 0, 0⟩] } ∧ s.SameS t n k) ∧
   (∀ (n : Fin 288) (s : State) (k : Nat) (w : Word), s.Issues n 1 0x00 k w → s.InLine n k →
     let a := (s.sreg n k (tSA w) + tIMM w).toNat
     (a % 32 = 0 → a ≤ 0x2F_FFE0 → (s.core n).tq.length < 8 → Answers (.tdl n) s fun t =>
       s.MovedTo t n k (((s.core n).slot k).pc + 1)
         { s.core n with tq := (s.core n).tq ++ [⟨k, w, s.sreg n k (tSA w), s.sreg n k (tSB w), 0, 0⟩] } ∧ s.SameS t n k) ∧
     (¬ (a % 32 = 0 ∧ a ≤ 0x2F_FFE0) → Answers (.tdl n) s fun t => s.Faulted t n k 5 1 0 0 ∧ s.SameS t n k))) ∧
  (∀ e ∈ vectorRows, ∀ (n : Fin 288) (s : State) (k : Nat) (w : Word),
     s.Issues n 3 e.2 k w → s.InLine n k → (s.core n).vq.length < 16 → Answers (e.1 n) s fun t =>
       s.MovedTo t n k (((s.core n).slot k).pc + 1)
         { s.core n with vq := (s.core n).vq ++ [⟨k, w, s.sreg n k (vSA w), s.sreg n k (vVB w), 0, 0⟩] } ∧ s.SameS t n k) ∧
  (∀ e ∈ moveEngineRows, ∀ (ecc : Ecc) (n : Fin 288) (s : State) (k : Nat) (w : Word),
     s.Issues n 2 e.2 k w → s.InLine n k →
     let c := s.core n
     let pair := fun (r : Nat) => if r = 31 then (0 : Word) else s.sreg n k (r + 1)
     let m : MOp := ⟨c.nextM, k, w, s.sreg n k (oSD w), pair (oSD w), s.sreg n k (oSS w), pair (oSS w), s.sreg n k (oSL w),
       .queued, 0, 0, 0⟩
     mIssueFault e.2 w m = none → (c.mops.filter (fun m => m.phase == .queued)).length < 32 →
     (c.mops.filter (fun m => m.phase != .queued)).length ≥ 64 → Answers (e.1 ecc n) s fun t =>
       s.MovedTo t n k ((c.slot k).pc + 1) { c with mops := c.mops ++ [m], nextM := c.nextM + 1 } ∧ s.SameS t n k)

/-- A word that is no legal instruction of its context, or whose `OP` its group does not list, raises the illegal-instruction fault:
the context drains with the PC at the word, and nothing else changes; a TBL reports its command block's address, any other word 0
(R93, R97, R120, R123). -/
def Obligations.IllegalInstruction : Prop :=
  ∀ ecc : Ecc, ∀ e ∈ aluRows.map (fun e => (e.1, 0, e.2.1)) ++ moveRows.map (fun e => (e.1, 0, e.2.1)) ++
      branchRows.map (fun e => (e.1, 0, e.2.1)) ++ tensorRows.map (fun e => (e.1, 1, e.2)) ++
      vectorRows.map (fun e => (e.1, 3, e.2)) ++ moveEngineRows.map (fun e => (e.1 ecc, 2, e.2)) ++
      [(.nop, 0, 0x00), (.endOp, 0, 0x01), (.yield, 0, 0x02), (.lds, 0, 0x10), (.sts, 0, 0x11), (.jal, 0, 0x18), (.jr, 0, 0x19),
       (.loop, 0, 0x1A), (.wait, 0, 0x1B), (.sig, 0, 0x1C), (.cset, 0, 0x1D), (.fence, 0, 0x1F), (.time, 0, 0x21), (.tdl, 1, 0x00)],
    ∀ (n : Fin 288) (s : State) (k : Nat) (w : Word),
      s.fetch n = some (k, w) →
      (listed w = false → Answers (e.1 n) s fun t =>
        s.Faulted t n k 1 (fGrp w) (fOp w) 0 ∧ s.SameS t n k ∧ t.clk = s.clk ∧ t.od = s.od) ∧
      (fGrp w = e.2.1 → fOp w = e.2.2 → legal w ((s.core n).slot k).launch.grant ((s.core n).slot k).launch.acc0 ((s.core n).slot k).launch.acc1 = false → Answers (e.1 n) s fun t =>
        s.Faulted t n k 1 e.2.1 e.2.2 (if e.2.1 = 2 ∧ e.2.2 = 5 then (s.sreg n k (oSS w)).toNat % 2 ^ 44 else 0) ∧
        s.SameS t n k ∧ t.clk = s.clk ∧ t.od = s.od)

/-- The head of an idle engine's queue starts: a T-op other than TDL that its checks let start, or a V-op that meets no address
fault; a T-op that faults at its start has no effect but the fault record and the discard of its context's queued work (R104, R109,
R121, R131, R142). An MMA that completes gives each element of M by N the fixed-order sum of R106, leaves the others as they were
or, with Z = 1, cleared, sets the type of the set, unless the set stays poisoned, signals its counter once, and adds its occupancy
to the tensor engine's busy cycles (R93, R105, R106, R108; that the cycles are counted at completion is log entry 189). A T-op whose
reads meet an uncorrectable word is abandoned: its context drains with the fault 0x0B, no counter is signalled, memory is unchanged,
and an MMA or TLDACC poisons the set it writes (R121, R162). -/
def Obligations.TensorEngine : Prop :=
  (∀ (n : Fin 288) (s : State) (q : QOp) (rest : List QOp),
     let c := s.core n
     (c.tRun = none → c.tq = q :: rest → fOp q.w ≠ 0 → tStartFault c q = none → Answers (.tOpStart n) s fun t =>
       t = { s with cores := t.cores } ∧ (∀ m, m ≠ n.val → t.core m = s.core m) ∧
       t.core n = { c with tq := rest, tRun := some q }) ∧
     (c.vRun = none → c.vq = q :: rest → vAddrFault (c.slot q.slot) q = none → Answers (.vOpStart n) s fun t =>
       t = { s with cores := t.cores } ∧ (∀ m, m ≠ n.val → t.core m = s.core m) ∧
       t.core n = { c with vq := rest, vRun := some q }) ∧
     (∀ code info, c.tRun = none → c.tq = q :: rest → fOp q.w ≠ 0 → tStartFault c q = some (code, info) →
       (c.slot q.slot).st ≠ .empty → (c.slot q.slot).st ≠ .draining → Answers (.tOpStart n) s fun t =>
         t = { s with cores := t.cores } ∧ (∀ m, m ≠ n.val → t.core m = s.core m) ∧
         (t.core n).tRun = none ∧ (t.core n).acc0 = c.acc0 ∧ (t.core n).acc1 = c.acc1 ∧ (t.core n).cnt = c.cnt ∧
         (t.core n).tq = rest.filter (fun r => r.slot != q.slot) ∧
         ((t.core n).slot q.slot).st = .draining ∧ ((t.core n).slot q.slot).treg = (c.slot q.slot).treg ∧
         ((t.core n).slot q.slot).faultCode = code)) ∧
  (∀ (n : Fin 288) (s : State) (q : QOp) (a b : TileD × Fmt) (e : Nat),
     let c := s.core n
     let k := tACC q.w
     let old := fun i => if tZ q.w then (0 : Lane) else tget 0 (c.acc k).elems i
     c.tRun = some q → fOp q.w ∈ [0x10, 0x11, 0x12, 0x13, 0x14] → tileReg (c.slot q.slot) (tTA q.w) = some a →
     tileReg (c.slot q.slot) (tTB q.w) = some b → b.1.cols ≤ 96 →
     (∀ o ∈ tReads c q, c.portOk o = true ∧ c.underTest (bankNo o) = false) →
     Answers (.tOpComplete n (.ok e)) s fun t =>
       (t.core n).tRun = none ∧ t.mem = s.mem ∧ (∀ m, m ≠ n.val → t.core m = s.core m) ∧
       ((t.core n).acc k).tag = (if (c.acc k).poisoned = true ∧ tZ q.w = false then (c.acc k).tag else mmaTag (fOp q.w)) ∧
       ((t.core n).acc k).poisoned = ((c.acc k).poisoned && !tZ q.w) ∧ (t.core n).acc (1 - k) = c.acc (1 - k) ∧
       (∀ i j, i < a.1.rows → j < b.1.cols → tget 0 ((t.core n).acc k).elems (96 * i + j) =
         mmaElem (fOp q.w) (s.spad n) a b (old (96 * i + j)) i j) ∧
       (∀ i j, j < 96 → ¬ (i < a.1.rows ∧ j < b.1.cols) →
         tget 0 ((t.core n).acc k).elems (96 * i + j) = old (96 * i + j)) ∧
       (∀ x, (t.core n).counter x = if tCE q.w ∧ x = tCNT q.w then c.counter x + 1 else c.counter x) ∧
       (t.core n).act = tset 0 c.act 1 ((tget 0 c.act 1 + tOcc c q) % 2 ^ 64)) ∧
  (∀ (n : Fin 288) (s : State) (q : QOp),
     let c := s.core n
     c.tRun = some q → (∀ o ∈ tReads c q, c.portOk o = true ∧ c.underTest (bankNo o) = false) → fOp q.w ≠ 4 →
     (c.slot q.slot).st ≠ .empty → (c.slot q.slot).st ≠ .draining →
     Answers (.tOpComplete n .uncorrectable) s fun t =>
       (t.core n).tRun = none ∧ t.mem = s.mem ∧ (t.core n).cnt = c.cnt ∧ (∀ m, m ≠ n.val → t.core m = s.core m) ∧
       ((t.core n).slot q.slot).st = .draining ∧ ((t.core n).slot q.slot).faultCode = 0x0B ∧
       (t.core n).acc (tACC q.w) = (if fOp q.w = 3 ∨ fOp q.w ≥ 0x10 then { c.acc (tACC q.w) with poisoned := true }
         else c.acc (tACC q.w)) ∧
       t.odNum 0x880B 0 = (s.odNum 0x880B 0 + 1) % 2 ^ 64)

/-- A V-op with one lane result completes: active lanes of v[VD] take the result, inactive lanes keep their value or, with PZ = 1,
hold 0; every other vector register and memory are unchanged, and CE adds 1 once (R124, R128, R135, R144). VLANE and PGET write
s[VD], PSET, FCMP and ICMP write p[VD mod 8] lane by lane; writes of s0 and p0 are discarded (R115, R124, R128, R135). -/
def Obligations.VectorEngine : Prop :=
  (∀ e ∈ ([(0x07, fun _ q _ => BitVec.ofNat 32 q.sa.toNat),
       (0x09, fun _ q l => BitVec.ofNat 32 (q.sa.toNat + l * (vIMMs q.w).toNat)),
       (0x10, fun x q l => fadd (x.lane (vVA q.w) l) (x.lane (vVB q.w) l)),
       (0x11, fun x q l => fsub (x.lane (vVA q.w) l) (x.lane (vVB q.w) l)),
       (0x12, fun x q l => fmul (x.lane (vVA q.w) l) (x.lane (vVB q.w) l)),
       (0x13, fun x q l => ffma (x.lane (vVA q.w) l) (x.lane (vVB q.w) l) (x.lane (vVC q.w) l)),
       (0x18, fun x q l => x.lane (vVA q.w) l + x.lane (vVB q.w) l),
       (0x19, fun x q l => x.lane (vVA q.w) l - x.lane (vVB q.w) l),
       (0x1A, fun x q l => x.lane (vVA q.w) l * x.lane (vVB q.w) l),
       (0x1D, fun x q l => x.lane (vVA q.w) l &&& x.lane (vVB q.w) l),
       (0x1E, fun x q l => x.lane (vVA q.w) l ||| x.lane (vVB q.w) l),
       (0x1F, fun x q l => x.lane (vVA q.w) l ^^^ x.lane (vVB q.w) l),
       (0x26, fun x q l => if bit l (x.pred (vVC q.w % 8)).toNat then x.lane (vVA q.w) l else x.lane (vVB q.w) l),
       (0x2C, fun x q l => x.lane (vVA q.w) ((x.lane (vVB q.w) l).toNat % 64)),
       (0x2D, fun x q l => x.lane (vVA q.w) ((BitVec.ofNat 64 l + q.sa + vIMMs q.w).toNat % 64))] :
       List (Nat × (Ctx → QOp → Nat → Lane))),
     ∀ (n : Fin 288) (s : State) (q : QOp) (ecc : Ecc),
       let c := s.core n
       let x := c.slot q.slot
       c.vRun = some q → fGrp q.w = 3 → fOp q.w = e.1 → Answers (.vOpComplete n ecc) s fun t =>
         let y := (t.core n).slot q.slot
         (t.core n).vRun = none ∧ t.mem = s.mem ∧ (∀ m, m ≠ n.val → t.core m = s.core m) ∧
         (∀ r l, l < 64 → y.lane r l = if r = vVD q.w then
           (if vActive x q.w l then e.2 x q l else if vPZ q.w then 0 else x.lane r l) else x.lane r l) ∧
         y.preg = x.preg ∧ y.sreg = x.sreg ∧ y.treg = x.treg ∧ y.inv = x.inv ∧ y.bxovf = x.bxovf ∧
         (∀ j, (t.core n).counter j = if vCE q.w ∧ j = vCNT q.w then c.counter j + 1 else c.counter j)) ∧
  (∀ (n : Fin 288) (s : State) (q : QOp) (ecc : Ecc),
     let c := s.core n
     let x := c.slot q.slot
     let done := fun (P : Ctx → Prop) => Answers (.vOpComplete n ecc) s fun t =>
       (t.core n).vRun = none ∧ t.mem = s.mem ∧ ((t.core n).slot q.slot).vreg = x.vreg ∧ P ((t.core n).slot q.slot)
     let sdest := fun (v : Word) (y : Ctx) => y.preg = x.preg ∧ ∀ r, y.s r = if r = vVD q.w ∧ r ≠ 0 then v else x.s r
     let pdest := fun (f : Nat → Bool) (y : Ctx) => y.sreg = x.sreg ∧
       (∀ p, p ≠ vVD q.w % 8 → y.pred p = x.pred p) ∧
       ∀ l, l < 64 → vVD q.w % 8 ≠ 0 → bit l (y.pred (vVD q.w % 8)).toNat = f l
     let guarded := fun (f : Nat → Bool) (l : Nat) =>
       if vActive x q.w l then f l else if vPZ q.w then false else bit l (x.pred (vVD q.w % 8)).toNat
     c.vRun = some q → fGrp q.w = 3 →
     (fOp q.w = 0x08 → done (sdest (BitVec.ofNat 64 (x.lane (vVA q.w) (q.sa.toNat % 64)).toNat))) ∧
     (fOp q.w = 0x2A → done (sdest (x.pred (vVA q.w % 8)))) ∧
     (fOp q.w = 0x29 → done (pdest (fun l => bit l q.sa.toNat))) ∧
     (fOp q.w = 0x24 → done (pdest (guarded (fun l =>
       fcmp (vIMM q.w % 8) (x.lane (vVA q.w) l) (x.lane (vVB q.w) l))))) ∧
     (fOp q.w = 0x25 → done (pdest (guarded (fun l =>
       icmp (vIMM q.w % 8) (x.lane (vVA q.w) l) (x.lane (vVB q.w) l))))))

/-- LDS loads the 8 bytes at its offset and STS stores them, little-endian, and no other byte of memory changes; with a bank that
the ports may not reach nothing is written and the scratchpad-access fault is recorded (R116, R144, R146, R157). The end of an M-op
with no other M-op queued and no sealed crossing on its way: DMA.CP, with no earlier access of its core's DMA left to a sector of
its ranges, makes its copy, adds its length and counts its bytes (log entry 189), CSIG adds to the counter of its target, an RPUT,
RGET or RSIG whose replies are in signals its own counter (R32, R93, R111, R112, R114). -/
def Obligations.EngineTransfers : Prop :=
  (∀ (n : Fin 288) (s : State) (q : QOp) (e : Nat),
     let c := s.core n
     let x := c.slot q.slot
     let free := ∀ i, i < 8 → c.portOk (q.data + i) = true ∧ c.underTest (bankNo (q.data + i)) = false
     c.vRun = some q → fGrp q.w = 0 →
     (fOp q.w = 0x10 → free → Answers (.vOpComplete n (.ok e)) s fun t =>
       t.mem = s.mem ∧ (t.core n).vRun = none ∧ ∀ r, ((t.core n).slot q.slot).s r =
         if r = cSD q.w ∧ r ≠ 0 then BitVec.ofNat 64 (leNat (s.rdN (spadBase n + q.data) 8)) else x.s r) ∧
     (fOp q.w = 0x11 → free → Answers (.vOpComplete n (.ok e)) s fun t =>
       t.rdN (spadBase n + q.data) 8 = leBytes 8 q.sd.toNat ∧ (t.core n).vRun = none ∧
       ((t.core n).slot q.slot).sreg = x.sreg ∧
       ∀ a, ¬ (spadBase n + q.data ≤ a ∧ a < spadBase n + q.data + 8) → t.rd a = s.rd a) ∧
     ((∃ i, i < 8 ∧ c.portOk (q.data + i) = false) → (∀ i, i < 8 → c.underTest (bankNo (q.data + i)) = false) →
       x.st ≠ .empty → x.st ≠ .draining → Answers (.vOpComplete n (.ok e)) s fun t =>
         t.mem = s.mem ∧ (t.core n).vRun = none ∧ (t.core n).cnt = c.cnt ∧
         ((t.core n).slot q.slot).faultCode = 5 ∧ ((t.core n).slot q.slot).sreg = x.sreg)) ∧
  (∀ (n : Fin 288) (s : State) (m : MOp) (ecc dest : Ecc),
     let c := s.core n
     let p := s.slotPart n m.slot
     let signalled := fun (v : Word) (t : State) =>
       (t.core n).mops = c.mops.filter (fun x => x.id != m.id) ∧
       ∀ x, (t.core n).counter x = if oCE m.w ∧ x = oCNT m.w then c.counter x + v else c.counter x
     s.mop? n m.id = some m → m.phase = .started → m.err = 0 → (∀ x ∈ c.mops, x.phase ≠ .queued) →
     s.mSealed n m = false → s.slotReplay n m.slot = false →
     (fOp m.w = 0 → s.mBehind n m.id (s.mRanges n m) = false → s.access (.dma n) p m.s.toNat m.l.toNat false = .ok → s.access (.dma n) p m.d.toNat m.l.toNat true = .ok →
       (∀ k o, s.region m.d.toNat ≠ .coreCtl k o) → Answers (.mOpComplete n m.id (.ok 0) (.ok 0)) s fun t =>
         t.mem = (s.put m.d.toNat (s.rdRange p m.s.toNat m.l.toNat)).mem ∧ signalled (BitVec.ofNat 64 m.l.toNat) t ∧
         (t.core n).act = tset 0 c.act 3 ((tget 0 c.act 3 + m.l.toNat) % 2 ^ 64)) ∧
     (fOp m.w = 3 → (s.part p).hasCluster (clusterOf (oRCORE m.w)) = true → s.coreBlocked (oRCORE m.w) = false →
       oRCORE m.w ≠ n.val → Answers (.mOpComplete n m.id ecc dest) s fun t =>
         t.mem = s.mem ∧ signalled 1 t ∧ ∀ x, (t.core (oRCORE m.w)).counter x =
           if x = oRCNT m.w then (s.core (oRCORE m.w)).counter x + m.l else (s.core (oRCORE m.w)).counter x) ∧
     (fOp m.w ∈ [1, 2] → m.left = 0 → Answers (.mOpComplete n m.id ecc dest) s fun t =>
       t.mem = s.mem ∧ signalled (BitVec.ofNat 64 m.l.toNat) t) ∧
     (fOp m.w = 4 → m.left = 0 → Answers (.mOpComplete n m.id ecc dest) s fun t => t.mem = s.mem ∧ signalled 1 t))

/-- A launch that meets no resident region or grant takes the lowest Empty slot: Loading, PC 0, s1 to s6 the arguments, every other
register 0, no fault and no numeric status; granted accumulator sets hold 0 (R89, R123, R124, R145). That the lowest Empty slot is
taken is the model's choice (log entry 59). The program copy puts the program into the context's region of the instruction store and
the context becomes Ready; a copy whose program the address rules refuse records 0x07 with the program's address, or 0x0C, one that
meets an uncorrectable word 0x0B, and the context drains; the copy is no fault while neither is so (R31, R89, R90, R119, R123). -/
def Obligations.Launching : Prop :=
  (∀ (n : Fin 288) (s : State) (l : Launch) (rest : List Launch) (k : Nat),
     let c := s.core n
     c.march = none → c.waitq = l :: rest → k < 4 → (c.slot k).st = .empty → (∀ j, j < k → (c.slot j).st ≠ .empty) →
     s.coreBlocked n = false → s.coreSealed n = false → s.sealed (clusterOf n) 16 = false →
     (∀ r ∈ s.faults.replays, r.core ≠ n.val) → c.refuses l = none →
     Answers (.dispatchEntry n) s fun t =>
       let x := (t.core n).slot k
       t = { s with cores := t.cores } ∧ (∀ m, m ≠ n.val → t.core m = s.core m) ∧ (t.core n).waitq = rest ∧
       (∀ j, j ≠ k → (t.core n).slot j = c.slot j) ∧
       x = { Ctx.blank with st := .loading, launch := l, sreg := x.sreg } ∧
       (∀ r, x.s r = if 1 ≤ r ∧ r ≤ 6 then getAt 0 l.args (r - 1) else 0) ∧
       (t.core n).acc0 = (if l.acc0 then AccSet.blank else c.acc0) ∧
       (t.core n).acc1 = (if l.acc1 then AccSet.blank else c.acc1) ∧
       t.core n = { c with ctx := (t.core n).ctx, acc0 := (t.core n).acc0, acc1 := (t.core n).acc1, waitq := rest }) ∧
  (∀ (n : Fin 288) (k : Fin 4) (s : State),
     let x := (s.core n).slot k
     let l := x.launch
     x.st = .loading →
     (s.access (.dma n) l.part l.prog (8 * l.len) false = .ok → l.replay = false → s.coreSealed n = false →
       s.sealed (clusterOf n) 18 = false → Answers (.programCopyComplete n k) s fun t =>
         t = { s with mem := t.mem, cores := t.cores, memory := { s.memory with hot := t.memory.hot }, od := t.od } ∧ (∀ m, m ≠ n.val → t.core m = s.core m) ∧
         t.core n = (s.core n).withSlot k { x with st := .ready } ∧
         (∀ i, i < 8 * l.len → t.rd (istoreBase n + 8 * l.base + i) = s.rdAs l.part (l.prog + i)) ∧
         ∀ a, ¬ (istoreBase n + 8 * l.base ≤ a ∧ a < istoreBase n + 8 * l.base + 8 * l.len) → t.rd a = s.rd a) ∧
     (∀ u r, s.access (.dma n) l.part (s.readAt n k l.prog) (8 * l.len) false = r → s.coreSealed n = false →
       s.sealed (clusterOf n) 18 = false →
       let code := if r = .address ∨ r = .bank then 0x07 else if r = .isolation then 0x0C else 0x0B
       (r = .ok → u = false → Answers (.programCopyFault n k u) s fun t => t = s) ∧
       (r = .address ∨ r = .bank ∨ r = .isolation ∨
         (r = .ok ∧ u = true ∧ s.onChip (s.readAt n k l.prog) (8 * l.len) = true) → Answers (.programCopyFault n k u) s fun t =>
         t.mem = s.mem ∧ (∀ m, m ≠ n.val → t.core m = s.core m) ∧
         t.core n = (s.core n).withSlot k { x with
           st := .draining, wait := .nothing, faultCode := code, faultGrp := 0, faultOp := 0,
           faultInfo := if code = 7 then l.prog % 2 ^ 44 else 0 })))

/-- With nothing Running, the first Ready slot after the current one in the order 0, 1, 2, 3, 0 runs, and no other slot changes; a
context that was led outside its region when it gave up the scalar unit faults at that fetch: it drains with code 0x02, its PC at
the instruction that led there (R90, R91, R98). A counter's change makes exactly the Waiting contexts Ready whose condition holds
now: the counter is at least the awaited value, unsigned, or the awaited engines hold none of the context's work (R90, R94, R116,
R117). An asynchronous fault of a resident context is recorded, the context drains and its queued, unstarted operations are
discarded; a context that drains with a record keeps it; the faulting operation, where it has started, is abandoned, and everything
else that has started goes on; the counters and, unless a tensor operation is abandoned, registers and accumulator sets are
unchanged (R90, R119, R121). A context that drains with no operation left on any engine leaves its slot Empty, and nothing else of
its core changes; while one is left it stays as it is (R90, R226). -/
def Obligations.Contexts : Prop :=
  (∀ (n : Fin 288) (s : State) (d : Nat),
     let c := s.core n
     let k := (c.cur + d) % 4
     let x := c.slot k
     (∀ j, j < 4 → (c.slot j).st ≠ .running) → 1 ≤ d → d ≤ 4 → x.st = .ready →
     (∀ e, 1 ≤ e → e < d → (c.slot ((c.cur + e) % 4)).st ≠ .ready) → Answers (.contextSwitch n) s fun t =>
       t = { s with cores := t.cores } ∧ (∀ m, m ≠ n.val → t.core m = s.core m) ∧
       t.core n = { c with ctx := (t.core n).ctx, cur := k } ∧ (∀ j, j ≠ k → (t.core n).slot j = c.slot j) ∧
       (t.core n).slot k = x.taken ∧
       (x.off = none → x.taken = { x with st := .running }) ∧
       ∀ tgt g, x.off = some (tgt, g) → x.taken = { x with
         st := .draining, wait := .nothing, off := none, faultCode := 2, faultGrp := g / 64, faultOp := g % 64,
         faultInfo := tgt % 2 ^ 44 }) ∧
  (∀ (n : Fin 288) (s : State),
     let c := s.core n
     Answers (.counterChanged n) s fun t =>
       t = { s with cores := t.cores } ∧ (∀ m, m ≠ n.val → t.core m = s.core m) ∧
       t.core n = { c with ctx := (t.core n).ctx } ∧
       ∀ j, j < 4 →
         let due := (c.slot j).st = .waiting ∧ (match (c.slot j).wait with
           | .nothing => True
           | .counter x v => v.toNat ≤ (c.counter x).toNat
           | .fence m => (bit 0 m = true → c.tBusy j = false) ∧ (bit 1 m = true → c.vBusy j = false) ∧
               (bit 2 m = true → c.mBusy j = false))
         (due → (t.core n).slot j = { c.slot j with st := .ready, wait := .nothing }) ∧
         (¬ due → (t.core n).slot j = c.slot j)) ∧
  (∀ (n : Fin 288) (k : Fin 4) (w : Word) (code : Fin 14) (info : Addr) (s : State),
     let c := s.core n
     let x := c.slot k
     code.val ≠ 0 → x.st ≠ .empty → Answers (.asynchronousFault n k w code info) s fun t =>
       let y := (t.core n).slot k
       t = { s with cores := t.cores } ∧ (∀ m, m ≠ n.val → t.core m = s.core m) ∧
       let is := fun (q : QOp) => q.slot == k.val && q.w == w
       y.st = .draining ∧ y.pc = x.pc ∧ y.sreg = x.sreg ∧ y.vreg = x.vreg ∧ y.preg = x.preg ∧
       y.faultCode = (if x.st = .draining ∧ x.faultCode ≠ 0 then x.faultCode else code.val) ∧
       y.faultInfo = (if x.st = .draining ∧ x.faultCode ≠ 0 then x.faultInfo else info.toNat % 2 ^ 44) ∧
       (t.core n).tq = c.tq.filter (fun q => q.slot != k.val) ∧ (t.core n).vq = c.vq.filter (fun q => q.slot != k.val) ∧
       (t.core n).tRun = (if c.tRun.any is = true then none else c.tRun) ∧
       (t.core n).vRun = (if c.tRun.any is = false ∧ c.vRun.any is = true then none else c.vRun) ∧ (t.core n).cnt = c.cnt ∧
       (c.tRun.any is = false → y.treg = x.treg ∧ (t.core n).acc0 = c.acc0 ∧ (t.core n).acc1 = c.acc1) ∧
       ((∀ m ∈ c.mops, ¬ (m.slot = k.val ∧ m.w = w ∧ m.phase = .started)) →
         (t.core n).mops = c.mops.filter (fun m => !(m.slot == k.val && m.phase == .queued)))) ∧
  (∀ (n : Fin 288) (k : Fin 4) (s : State),
     let c := s.core n
     (c.slot k).st = .draining →
     (c.tBusy k = false → c.vBusy k = false → c.mBusy k = false → Answers (.contextDrained n k) s fun t =>
       t.core n = c.withSlot k { c.slot k with st := .empty } ∧ (∀ m, m ≠ n.val → t.core m = s.core m) ∧
       t = { s with cores := t.cores, disp := t.disp } ∧ ((c.slot k).launch.replay = true → t.disp = s.disp)) ∧
     ((c.tBusy k = true ∨ c.vBusy k = true ∨ c.mBusy k = true) → Answers (.contextDrained n k) s fun t => t = s))

/-- A well-formed BANK.CTRL write of the bank's owner, the host or a core's DMA, sets out for its handover point and is held behind
an earlier one; any other is ignored and counted at OD 0x8809, and a DMA.CP then ends with its 8 bytes (R93, R153, R155, R156). At
its handover point a write gives the bank its owner, neighbour and power state, and completes to its requester: a DMA.CP adds its 8
bytes; a bank that leaves Dark for Lit reads zero, and no other byte of memory changes (R93, R154, R156, R163, R164). A collision of
a class that reads sets its sticky flag and counts it; a class-3 report, and one of an unavailable cluster, changes nothing (R160,
R161). A requested March test whose reads all return what they have to reports result 2; one with a failing read reports result 3
with the row of the first, and its bank fails: it is not Lit. A destroying test leaves its bank zero, a preserving one that passes
leaves memory as it was, one that fails leaves undefined contents. A pool's bring-up test leaves the pool zero and reports 2, or 3
with the bank and row of the first failing read, which makes the cluster unavailable. No other byte of memory changes (R26, R166 to
R171). -/
def Obligations.Banks : Prop :=
  ((∀ (n : Fin 288) (b : Fin 32) (f : Fin 17) (v : Word) (s : State) (p : Nat),
     let x := (s.core n).bankOf b
     p < 16 → s.serving p = f.val → (s.part p).hasCluster (clusterOf n) = true → s.clusterDown (clusterOf n) = false →
     s.sealedAt (bankCtrlAddr n b) = false → (s.core n).testing b = false →
     (x.moving.isSome = true → Answers (.bankCtrlWrite n b (.host f) v) s fun t =>
       t = s.setBank n b { x with held := x.held ++ [⟨.host f, v⟩] }) ∧
     (x.moving = none → x.owner = 4 → x.wellFormed n v = true → Answers (.bankCtrlWrite n b (.host f) v) s fun t =>
       t = s.setBank n b { x with moving := some ⟨.host f, v⟩ }) ∧
     (x.moving = none → (x.owner ≠ 4 ∨ x.wellFormed n v = false) → Answers (.bankCtrlWrite n b (.host f) v) s fun t =>
       t = { s with od := t.od } ∧ t.odNum 0x8809 0 = (s.odNum 0x8809 0 + 1) % 2 ^ 64)) ∧
   ∀ (n c : Fin 288) (b : Fin 32) (id : Nat) (m : MOp) (v : Word) (s : State),
     let x := (s.core n).bankOf b
     let p := s.slotPart c m.slot
     let owns := if x.owner = 1 then clusterOf c = clusterOf n ∧ c.val % 12 = x.nbr else x.owner ≠ 4 ∧ c = n
     let taken := fun (y : Bank) => Answers (.bankCtrlWrite n b (.dma c id) v) s fun t =>
       t = { s with cores := t.cores } ∧ (t.core n).bankOf b = y ∧ (∀ j, j ≠ b.val → (t.core n).bankOf j = (s.core n).bankOf j) ∧
       t.mop? c id = some { m with phase := .handover } ∧ (∀ k, k ≠ n.val → k ≠ c.val → t.core k = s.core k)
     s.mop? c id = some m → fOp m.w = 0 → m.phase = .started → m.err = 0 → m.l = 8 → m.d.toNat = bankCtrlAddr n b →
     s.slotReplay c m.slot = false → s.mSealed c m = false → s.mBehind c id (s.mRanges c m) = false → s.inSpad m.s.toNat 8 = true →
     s.access (.dma c) p m.s.toNat 8 false = .ok → s.reachAll p m.d.toNat 8 true = .ok → v.toNat = leNat (s.rdRange p m.s.toNat 8) →
     (s.core n).testing b = false →
     (x.moving.isSome = true → taken { x with held := x.held ++ [⟨.dma c id, v⟩] }) ∧
     (x.moving = none → owns → x.wellFormed n v = true → taken { x with moving := some ⟨.dma c id, v⟩ }) ∧
     (x.moving = none → ¬ (owns ∧ x.wellFormed n v = true) → Answers (.bankCtrlWrite n b (.dma c id) v) s fun t =>
       t.mem = s.mem ∧ (∀ j, (t.core n).bankOf j = (s.core n).bankOf j) ∧ (∀ k, k ≠ c.val → t.core k = s.core k) ∧
       (t.core c).mops = (s.core c).mops.filter (fun y => y.id != id) ∧
       (∀ k, (t.core c).counter k = if oCE m.w ∧ k = oCNT m.w then (s.core c).counter k + 8 else (s.core c).counter k) ∧
       t.odNum 0x8809 0 = (s.odNum 0x8809 0 + 1) % 2 ^ 64)) ∧
  (∀ (n : Fin 288) (b : Fin 32) (s : State) (who : BankReq) (v : Word),
     let x := (s.core n).bankOf b
     let wakes := x.pwr = .dark ∧ bits 11 10 v.toNat ≠ 1 ∧ bits 11 10 v.toNat ≠ 2
     x.moving = some ⟨who, v⟩ → x.held = [] → (s.core n).scatters b = false → Answers (.handoverPoint n b) s fun t =>
       let y := (t.core n).bankOf b
       t = { s with mem := t.mem, cores := t.cores, clk := t.clk, od := t.od } ∧
       (∀ m, m ≠ n.val → (∀ c id, who = .dma c id → m ≠ c.val) → t.core m = s.core m) ∧
       y = { x with owner := bits 2 0 v.toNat, nbr := bits 7 4 v.toNat, pwr := pwrOf (bits 11 10 v.toNat), moving := none } ∧
       (∀ j, j ≠ b.val → (t.core n).bankOf j = (s.core n).bankOf j) ∧
       (∀ f, who = .host f → t.clk = s.clk ∧ t.od = s.od ∧ (t.core n).ctx = (s.core n).ctx ∧ (t.core n).mops = (s.core n).mops ∧
         (t.core n).cnt = (s.core n).cnt) ∧
       (∀ c id m, who = .dma c id → s.mop? c id = some m →
         (t.core c).mops = (s.core c).mops.filter (fun y => y.id != id) ∧
         ∀ k, (t.core c).counter k = if oCE m.w ∧ k = oCNT m.w then (s.core c).counter k + 8 else (s.core c).counter k) ∧
       (∀ o, o < 0x30_0000 → bankNo o = b.val → wakes → t.rd (spadBase n + o) = 0) ∧
       ∀ a, (¬ wakes ∨ ¬ (spadBase n ≤ a ∧ a < spadBase n + 0x30_0000 ∧ bankNo (a - spadBase n) = b.val)) →
         t.rd a = s.rd a) ∧
  (∀ (n : Fin 288) (k : Fin 5) (s : State), s.clusterDown (clusterOf n) = false →
     (k.val ≠ 3 → Answers (.collision n k) s fun t =>
       t = { s with cores := t.cores, od := t.od } ∧ (∀ m, m ≠ n.val → t.core m = s.core m) ∧
       t.core n = { s.core n with coll := (t.core n).coll } ∧
       (∀ j, j < 5 → bit j (t.core n).coll = (decide (j = k.val) || bit j (s.core n).coll)) ∧
       t.odNum 0x8808 (k.val + 1) = (s.odNum 0x8808 (k.val + 1) + 1) % 2 ^ 64) ∧
     (k.val = 3 → Answers (.collision n k) s fun t => t = s)) ∧
  ((∀ (n : Fin 288) (s : State) (m : March) (reads : List MarchRead),
     let c := s.core n
     let bad := s.marchFirst m.alg m.destroy (spadBase n) 3072 (reads.filter (fun r => r.bank.val == m.bank))
     let word := fun (st row : Nat) =>
       st * 2 ^ 28 + m.bank * 2 ^ 23 + m.alg * 2 ^ 22 + (if m.destroy then 1 else 0) * 2 ^ 21 + row * 2 ^ 9
     let its := fun (a : Nat) => spadBase n ≤ a ∧ a < spadBase n + 0x30_0000 ∧ bankNo (a - spadBase n) = m.bank
     let ends := fun (t : State) => (t.core n).march = none ∧ (t.core n).ctx = c.ctx ∧ (∀ m', m' ≠ n.val → t.core m' = s.core m') ∧
       (∀ o, m.destroy = true → o < 0x30_0000 → bankNo o = m.bank → t.rd (spadBase n + o) = 0) ∧
       ∀ a, ¬ its a → t.rd a = s.rd a
     c.march = some m → m.bringup = false → m.first = none → m.bank < 32 → (c.bankOf m.bank).held = [] →
     s.odPending (marchReqObj n) (n % 144 + 1) = none →
     (bad = none → Answers (.marchTestEnd n reads) s fun t =>
       t = { s with mem := t.mem, cores := t.cores, od := t.od } ∧ t.core n = { c with march := none } ∧ ends t ∧
       t.odNum (marchResObj n) (n % 144 + 1) = word 2 0 ∧ (m.destroy = false → t.mem = s.mem)) ∧
     (∀ r, bad = some r → Answers (.marchTestEnd n reads) s fun t =>
       ends t ∧ t.odNum (marchResObj n) (n % 144 + 1) = word 3 r.row ∧
       (t.core n).bankOf m.bank = { c.bankOf m.bank with failed := true } ∧
       ∀ j, j ≠ m.bank → (t.core n).bankOf j = c.bankOf j)) ∧
   (∀ (c : Fin 24) (s : State) (reads : List MarchRead),
     let bad := s.marchFirst (s.odNum 0x8800 0) true (poolBase c) 8192 reads
     let zeroed := fun (t : State) => (∀ o, o < 0x80_0000 → t.rd (poolBase c + o) = 0) ∧
       ∀ a, ¬ (poolBase c ≤ a ∧ a < poolBase c + 0x80_0000) → t.rd a = s.rd a
     s.odNum 0x8805 (c + 1) / 2 ^ 28 % 16 = 1 →
     (bad = none → Answers (.poolMarchEnd c reads) s fun t =>
       t = { s with mem := t.mem, od := t.od } ∧
       t.odNum 0x8805 (c + 1) = 2 * 2 ^ 28 + 31 * 2 ^ 23 + s.odNum 0x8800 0 * 2 ^ 22 ∧ zeroed t) ∧
     (∀ r, bad = some r → Answers (.poolMarchEnd c reads) s fun t =>
       t.odNum 0x8805 (c + 1) = 3 * 2 ^ 28 + r.bank * 2 ^ 23 + s.odNum 0x8800 0 * 2 ^ 22 + r.row * 2 ^ 9 ∧ zeroed t ∧
       t.clusterDown c = true)))

/-! ### The host door and descriptors (R205 to R236) -/

/-- A doorbell of an Enabled or Stopped queue, in service, with a tail inside the ring and not behind the fetched slots, is
recorded; any other changes no queue and is counted as an ignored sequence (R216, R230). Enabling a serviceable Disabled queue
resets HEAD, TAIL, CQWR and its phase and makes it Enabled; a Stopped one becomes Enabled with its indices kept; one that is not
serviceable, or that is Closing, is an ignored sequence of kind 5. Closing an Enabled, Stopped or Guilty queue makes it Disabled
when nothing of it is outstanding and Closing when something is (R214, R215, R230). That CQHEAD is 0 at an enable, and that
serviceable needs a Live partition, are the model's choices (log entries 62, 24). -/
def Obligations.QueuesAndDoorbells : Prop :=
  (∀ (fn : Fin 17) (q : Fin 1024) (v : Word) (s : State),
     let x := s.queue q
     let t' := v.toNat % 2 ^ 16
     let open_ := (x.code = .enabled ∨ x.code = .stopped) ∧ s.inService = true
     let behind := (t' + x.slots - x.head) % x.slots < x.fetchedSlots
     s.serving (q / 64) = fn.val →
     (open_ → t' < x.slots → ¬ behind → Answers (.doorbell fn q v) s fun t =>
       t = { s with queues := t.queues, clk := t.clk, od := t.od } ∧
       ∀ r, t.queue r = if r = q.val then { x with tail := t' } else s.queue r) ∧
     (∀ k, (¬ open_ ∧ k = 1 ∨ open_ ∧ x.slots ≤ t' ∧ k = 2 ∨ open_ ∧ t' < x.slots ∧ behind ∧ k = 3) →
       Answers (.doorbell fn q v) s fun t =>
         t.queues = s.queues ∧ t.mem = s.mem ∧ t.hostMem = s.hostMem ∧
         t.odNum 0x9010 (q / 64 + 1) = (s.odNum 0x9010 (q / 64 + 1) + 1) % 2 ^ 64 ∧
         t.odNum 0x9011 k = (s.odNum 0x9011 k + 1) % 2 ^ 64 ∧ bit 4 (t.fn fn).event = true)) ∧
  (∀ (fn : Fin 17) (q : Fin 1024) (v : Word) (s : State),
     let x := s.queue q
     s.serving (q / 64) = fn.val → bits 43 22 v.toNat = bits 43 22 x.ctrl →
     (x.code = .disabled → s.serviceable fn q = true → Answers (.queueEnable fn q v) s fun t =>
       t.queue q = { x with code := .enabled, head := 0, tail := 0, cqwr := 0, phase := true, fetched := [],
                            ctrl := withBit 0 true x.ctrl } ∧ ∀ r, r ≠ q.val → t.queue r = s.queue r) ∧
     (x.code = .stopped → s.serviceable fn q = true → Answers (.queueEnable fn q v) s fun t =>
       t.queue q = { x with code := .enabled, ctrl := withBit 0 true x.ctrl, fetched := (t.queue q).fetched } ∧
       (t.queue q).fetched.map Fetched.bytes = x.fetched.map Fetched.bytes ∧ ∀ r, r ≠ q.val → t.queue r = s.queue r) ∧
     ((x.code ∈ [.disabled, .stopped, .guilty] ∧ s.serviceable fn q = false ∨ x.code = .closing) → Answers (.queueEnable fn q v) s fun t =>
       t.queues = s.queues ∧ t.odNum 0x9011 5 = (s.odNum 0x9011 5 + 1) % 2 ^ 64) ∧
     ((x.code = .enabled ∨ x.code = .stopped ∨ x.code = .guilty) →
       (s.qOut q = 0 → Answers (.queueClose fn q v) s fun t =>
         t.queue q = { x with code := .disabled, fetched := [], ctrl := withBit 0 false x.ctrl }) ∧
       (s.qOut q ≠ 0 → Answers (.queueClose fn q v) s fun t =>
         t.queue q = { x with code := .closing, ctrl := withBit 0 false x.ctrl })))

/-- RING and CQ are written while the queue is Disabled; a write that would change them otherwise, and every write while the
partition's TDI freezes them, is an ignored sequence of kind 4; CQHEAD takes an index among the records written, and any other is an
ignored sequence of kind 10 (R207, R214, R218). ABI.REQ agrees the lower of its value and 3, and none below 2, while no queue is
open, and FN.FEAT shows the features of the agreed version; FN.EVENT clears the bits written 1; a window takes its fields when its
partition is served and it is not frozen. Nothing else changes, and a function that the module does not have takes no write (R20,
R205, R207, R210, R213). A write of BAR 0 at the offset of a register is the write of that register: it answers what the register's
own command answers, and nothing for a function that the module does not have (R205, R209, R210, R214, R229). -/
def Obligations.HostRegisters : Prop :=
  (∀ (fn : Fin 17) (q : Fin 1024) (v : Word) (s : State),
     let x := s.queue q
     let n := v.toNat / 4096 * 4096 + v.toNat % 32
     let h := v.toNat % 2 ^ 16
     let r := x.records
     let inside := h < r ∧ (h + r - x.cqhead % r) % r ≤ (x.cqwr + r - x.cqhead % r) % r
     let only := fun (y : Queue) (t : State) =>
       t = { s with queues := t.queues } ∧ ∀ k, t.queue k = if k = q.val then y else s.queue k
     s.serving (q / 64) = fn.val →
     (x.code = .disabled → s.frozen (q / 64) = false →
       Answers (.queueConfigWrite fn q 0 v) s (only { x with ring := n }) ∧
       Answers (.queueConfigWrite fn q 1 v) s (only { x with cq := n })) ∧
     (s.frozen (q / 64) = true ∨ (x.code ≠ .disabled ∧ n ≠ x.ring) → Answers (.queueConfigWrite fn q 0 v) s fun t =>
       t.queues = s.queues ∧ t.odNum 0x9011 4 = (s.odNum 0x9011 4 + 1) % 2 ^ 64) ∧
     (s.frozen (q / 64) = true ∨ (x.code ≠ .disabled ∧ n ≠ x.cq) → Answers (.queueConfigWrite fn q 1 v) s fun t =>
       t.queues = s.queues ∧ t.odNum 0x9011 4 = (s.odNum 0x9011 4 + 1) % 2 ^ 64) ∧
     (x.code ≠ .disabled → bits 43 22 v.toNat ≠ bits 43 22 x.ctrl → Answers (.queueConfigWrite fn q 2 v) s fun t =>
       t.queues = s.queues ∧ t.odNum 0x9011 4 = (s.odNum 0x9011 4 + 1) % 2 ^ 64) ∧
     (inside → Answers (.cqhIndexWrite fn q v) s (only { x with cqhead := h })) ∧
     (¬ inside → Answers (.cqhIndexWrite fn q v) s fun t =>
       t.queues = s.queues ∧ t.odNum 0x9011 10 = (s.odNum 0x9011 10 + 1) % 2 ^ 64)) ∧
  (∀ (fn : Fin 17) (v : Word) (s : State),
     let f := s.fn fn
     let only := fun (g : Fn) (t : State) =>
       t = { s with fns := t.fns } ∧ ∀ k, t.fn k = if k = fn.val then g else s.fn k
     let a := v.toNat % 256
     let win := bits 43 36 v.toNat * 2 ^ 36 + (if bit 7 v.toNat then 128 else 0) + v.toNat % 16
     let here := s.hasFn fn = true
     (¬ here → ∀ w, Answers (.abiReqWrite fn v) s (fun t => t = s) ∧ Answers (.fnEventClear fn v) s (fun t => t = s) ∧
       Answers (.fnWinWrite fn w v) s (fun t => t = s)) ∧
     (here → s.fnOpen fn = false → Answers (.abiReqWrite fn v) s
       (only { f with
         abiReq := a, abiAgreed := if a < 2 then 0 else if a < 3 then a else 3,
         feat := if a < 2 then 0 else if a < 3 then 0x18 else 0x1F })) ∧
     (here → Answers (.fnEventClear fn v) s fun t =>
       t = { s with fns := t.fns } ∧ (∀ k, k ≠ fn.val → t.fn k = s.fn k) ∧ t.fn fn = { f with event := (t.fn fn).event } ∧
       ∀ b, bit b (t.fn fn).event = (bit b f.event && !(decide (b < 5) && bit b v.toNat))) ∧
     (here → s.serving (v.toNat % 16) = fn.val → (fn.val = 0 ∨ s.frozen (fn - 1) = false) →
       Answers (.fnWinWrite fn 0 v) s (only { f with win0 := win }) ∧
       Answers (.fnWinWrite fn 1 v) s (only { f with win1 := win })) ∧
     (here → ∀ w, s.serving (v.toNat % 16) ≠ fn.val → (fn.val = 0 ∨ s.frozen (fn - 1) = false) →
       Answers (.fnWinWrite fn w v) s fun t =>
         (t.fn fn).win0 = f.win0 ∧ (t.fn fn).win1 = f.win1 ∧ t.odNum 0x9011 11 = (s.odNum 0x9011 11 + 1) % 2 ^ 64)) ∧
  (∀ (fn : Fin 17) (v : Word) (s : State),
     (∀ o, s.hasFn fn = false → Answers (.registerWrite fn o v) s fun t => t = s) ∧ (s.hasFn fn = true →
     (∀ q : Fin 1024, s.serving (q / 64) = fn.val →
       exec (.registerWrite fn (BitVec.ofNat 23 (0x40_0000 + q * 0x1000)) v) s = exec (.queueConfigWrite fn q 0 v) s ∧
       exec (.registerWrite fn (BitVec.ofNat 23 (0x40_0000 + q * 0x1000 + 8)) v) s = exec (.queueConfigWrite fn q 1 v) s ∧
       exec (.registerWrite fn (BitVec.ofNat 23 (0x40_0000 + q * 0x1000 + 0x10)) v) s = exec (.queueConfigWrite fn q 2 v) s ∧
       exec (.registerWrite fn (BitVec.ofNat 23 (0x40_0000 + q * 0x1000 + 0x20)) v) s = exec (.cqhIndexWrite fn q v) s ∧
       exec (.registerWrite fn (BitVec.ofNat 23 (0x40_0000 + q * 0x1000 + 0x40)) v) s = exec (.doorbell fn q v) s) ∧
     (∀ (p : Fin 16) (h : Fin 512), s.serving p = fn.val →
       exec (.registerWrite fn (BitVec.ofNat 23 (0x20_0000 + p * 0x4000 + h * 0x20)) v) s = exec (.hcntValueWrite fn p h v) s ∧
       exec (.registerWrite fn (BitVec.ofNat 23 (0x20_0000 + p * 0x4000 + h * 0x20 + 8)) v) s = exec (.hcntThreshWrite fn p h v) s ∧
       exec (.registerWrite fn (BitVec.ofNat 23 (0x20_0000 + p * 0x4000 + h * 0x20 + 16)) v) s = exec (.hcntCtrlWrite fn p h v) s) ∧
     Answers (.registerWrite fn 0x008 v) s (fun t => exec (.abiReqWrite fn v) s = .next t) ∧
     Answers (.registerWrite fn 0x018 v) s (fun t => exec (.fnEventClear fn v) s = .next t) ∧
     Answers (.registerWrite fn 0x020 v) s (fun t => exec (.fnWinWrite fn 0 v) s = .next t) ∧
     Answers (.registerWrite fn 0x028 v) s (fun t => exec (.fnWinWrite fn 1 v) s = .next t)))

/-- A host counter fires when it is enabled and armed and its value is at least its threshold, unsigned: firing disarms it, and its
vector's EV04 crossing, when it is free, signals the vector or leaves it pending; a busy crossing takes the firing as pending, and
one that has a firing pending merges it and counts the merge. A write of the value, of the threshold, which arms, and of the control
register do so or not as R229 says, and touch no other counter (R46, R51, R229). SIGNAL_COUNTER sets or adds to the counter it names
once and ends OK: a core counter changes modulo 2^64 and no other of its core, a host counter likewise; behind its cluster's sealed
inbound crossing the change is lost (R57, R94, R224, R229). -/
def Obligations.HostCounting : Prop :=
  (∀ (fn : Fin 17) (p : Fin 16) (h : Fin 512) (v : Word) (s : State), s.serving p = fn.val →
     let x := s.hc p h
     let result := fun (y : HCnt) (t : State) =>
       let fires := y.en = true ∧ y.armed = true ∧ y.thresh.toNat ≤ y.value.toNat
       t = { s with hcnt := t.hcnt, clk := t.clk, od := t.od, fns := t.fns, out := t.out } ∧
       (∀ q k, k < 512 → ¬ (q = p.val ∧ k = h.val) → t.hc q k = s.hc q k) ∧
       (fires → t.hc p h = { y with armed := false } ∧
         let vec := y.vec % 2048
         let ev := tget ⟨false, false⟩ s.clk.xing (xingKey 4 (evVector fn vec))
         let ev' := tget ⟨false, false⟩ t.clk.xing (xingKey 4 (evVector fn vec))
         (ev.busy = false → ev'.busy = true ∧ ev'.pending = false ∧
           (tget false (s.fn fn).msixOpen vec = true → t.out = s.out ++ [.msix fn vec]) ∧
           (tget false (s.fn fn).msixOpen vec = false → tget false (t.fn fn).msixPend vec = true ∧ t.out = s.out)) ∧
         (ev.busy = true → ev'.busy = true ∧ ev'.pending = true ∧ t.out = s.out ∧ t.fns = s.fns ∧
           (ev.pending = true → t.odNum 0x7820 4 = (s.odNum 0x7820 4 + 1) % 2 ^ 64))) ∧
       (¬ fires → t.hc p h = y ∧ t.out = s.out ∧ t.fns = s.fns)
     Answers (.hcntValueWrite fn p h v) s (result { x with value := v }) ∧
     Answers (.hcntThreshWrite fn p h v) s (result { x with thresh := v, armed := true }) ∧
     (v.toNat % 2048 ≠ 0 → v.toNat % 2048 < (if fn.val = 0 then 2048 else 256) →
       Answers (.hcntCtrlWrite fn p h v) s fun t =>
         t = { s with hcnt := t.hcnt } ∧ t.hc p h = { x with en := bit 15 v.toNat, vec := v.toNat % 2048 } ∧
         ∀ q k, k < 512 → ¬ (q = p.val ∧ k = h.val) → t.hc q k = s.hc q k)) ∧
  (∀ (s : State) (q : Nat) (f : Fetched), s.Front q 6 f →
     let d := dNum f.bytes
     let p := qPart q
     let v := BitVec.ofNat 64 (wtValue d)
     (wtCore d = true → s.sealed (clusterOf (wtIdx d)) 17 = true → Answers .signalCounter s fun t =>
       s.Ended t q f ⟨0, 0, 0⟩ ∧ t.hcnt = s.hcnt ∧ t.cores = s.cores) ∧
     (wtCore d = true → s.sealed (clusterOf (wtIdx d)) 17 = false → Answers .signalCounter s fun t =>
       s.Ended t q f ⟨0, 0, 0⟩ ∧ t.hcnt = s.hcnt ∧ (∀ n, n ≠ wtIdx d → t.core n = s.core n) ∧
       t.core (wtIdx d) = { s.core (wtIdx d) with cnt := (t.core (wtIdx d)).cnt } ∧
       ∀ k, (t.core (wtIdx d)).counter k = if k = wtCnt d then
         (if sgSet d then v else (s.core (wtIdx d)).counter k + v) else (s.core (wtIdx d)).counter k) ∧
     (wtCore d = false → Answers .signalCounter s fun t =>
       s.Ended t q f ⟨0, 0, 0⟩ ∧ t.cores = s.cores ∧
       (t.hc p (wtIdx d)).value = (if sgSet d then v else (s.hc p (wtIdx d)).value + v) ∧
       ∀ h, h < 512 → h ≠ wtIdx d → t.hc p h = s.hc p h))

/-- An Enabled queue fetches its next descriptor once all its slots are published: its bytes are the ring's, wrapping from the last
slot to slot 0, and neither the indices nor any other queue changes; while they are not published nothing is fetched (R216, R217).
The dispatcher turns to the first queue of its round that is not held: one free to dispatch stands chosen; an ignored sequence is
consumed, ends IGNORED with its kind and is counted; a descriptor outside its partition ends with the isolation status, and one
whose counter's core is unavailable with UNAVAILABLE (R26, R217, R220, R230). NOP, and WAIT_COUNTER and FENCE once nothing holds
them, leave their queue and end OK with no other effect; a WAIT_COUNTER whose condition has not held when its timeout passes ends
TIMEOUT and its queue is Stopped; one that its queue holds back, whatever its condition, has no timeout (R215, R217, R220, R224). -/
def Obligations.DescriptorFlow : Prop :=
  (∀ (q : Fin 1024) (s : State),
     let x := s.queue q
     let next := (x.head + x.fetchedSlots) % x.slots
     let ready := (x.tail + x.slots - next) % x.slots
     let n := (s.hrd (x.ringBase + 64 * next + 1)).toNat % 4 + 1
     x.code = .enabled →
     (0 < ready → n ≤ ready → Answers (.descriptorFetch q) s fun t =>
       let y := t.queue q
       t = { s with queues := t.queues } ∧ (∀ r, r ≠ q.val → t.queue r = s.queue r) ∧
       y = { x with fetched := y.fetched, count := x.count + 1 } ∧
       y.fetched.map Fetched.bytes = x.fetched.map Fetched.bytes ++
         [(List.range (64 * n)).map (fun i => s.hrd (x.ringBase + 64 * ((next + i / 64) % x.slots) + i % 64))] ∧
       (y.fetched.map Fetched.slot) = x.fetched.map Fetched.slot ++ [next]) ∧
     ((ready = 0 ∨ ready < n) → Answers (.descriptorFetch q) s fun t => t = s)) ∧
  (∀ (s : State) (q : Nat) (f : Fetched),
     s.round.find? (fun r => s.turn r != .held) = some q → (s.queue q).fetched.head? = some f →
     s.tearing (qPart q) = false → s.flight? ⟨q, f.index⟩ = none →
     (s.turn q = .go → Answers .descriptorDispatch s fun t => t = { s with disp := { s.disp with chosen := some q } }) ∧
     (∀ k, s.turn q = .ignore k → Answers .descriptorDispatch s fun t =>
       s.Ended t q f ⟨1, k, 0⟩ ∧ t.odNum 0x9011 k = (s.odNum 0x9011 k + 1) % 2 ^ 64 ∧ t.mem = s.mem ∧ t.cores = s.cores) ∧
     (∀ u, s.turn q = .isolated u → Answers .descriptorDispatch s fun t =>
       s.Ended t q f ⟨8, 0, 0⟩ ∧ t.mem = s.mem ∧ t.cores = s.cores) ∧
     (∀ u, s.turn q = .unavailable u → Answers .descriptorDispatch s fun t =>
       s.Ended t q f ⟨2, 0, 0⟩ ∧ t.mem = s.mem ∧ t.cores = s.cores)) ∧
  ((∀ e ∈ [(Instr.nopDescriptor, 0), (Instr.waitCounter, 5), (Instr.fenceDescriptor, 9)],
     ∀ (s : State) (q : Nat) (f : Fetched), s.Front q e.2 f → Answers e.1 s fun t =>
       s.Ended t q f ⟨0, 0, 0⟩ ∧
       t = { s with queues := t.queues, disp := t.disp, trace := t.trace, od := t.od, clk := t.clk }) ∧
   (∀ (s : State) (q : Fin 1024) (f : Fetched),
     (s.queue q).fetched.head? = some f → dType (dNum f.bytes) = 5 → wtTmo (dNum f.bytes) ≠ 0 →
     (s.queueHeld q = false → s.frontTurn q (dNum f.bytes) = .held → s.tearing (qPart q) = false → s.flight? ⟨q, f.index⟩ = none →
       Answers (.waitCounterTimeout q) s fun t => s.Ended t q f ⟨0xA, 0, 0⟩ ∧ (t.queue q).code = .stopped ∧ t.mem = s.mem) ∧
     (s.queueHeld q = true ∨ s.frontTurn q (dNum f.bytes) = .go → Answers (.waitCounterTimeout q) s fun t => t = s)))

/-- A KERNEL whose cores are available places its dispatch entry at every core of its set and at no other, in order behind those
that wait (R88, R89, R220, R221). A COPY starts its first 8 units of 4,096 bytes, one of length 0 ends OK at once; a TABLE is queued
at the engines behind the commands there; a COLLECTIVE that admission turns away ends at once with the outcome of R300, and one that
it admits takes the group's instance number, which advances (R186, R222, R223, R300). EPOCH_BEGIN of a defined group copies the
epoch tree, and the delivery of the next colour starts unless a decision is on its way or a sweep or restore of that colour still
runs; of an Undefined one it ends with COLLECTIVE_ERROR 2. EPOCH_VOTE makes an Open member that is not the coordinator Voted, and a
member that is Doomed, or whose descriptor asks for an abort, Restoring, with the decision on its way to the stacks (R198, R224,
R324, R328, R329). How EPOCH_BEGIN waits for its colour is the model's choice (log entry 60). -/
def Obligations.DescriptorKinds : Prop :=
  (∀ (s : State) (q : Nat) (f : Fetched), s.Front q 1 f →
     let d := dNum f.bytes
     (∀ n, n < 288 → bit n (krnCores d) = true → s.clusterDown (clusterOf n) = false ∧ s.sealed (clusterOf n) 16 = false) →
     Answers .descKernel s fun t =>
       s.InFlight t q f ((List.range 288).filter (fun n => bit n (krnCores d))).length ∧ t.mem = s.mem ∧
       ∀ n, n < 288 → t.core n = if bit n (krnCores d) then
           { s.core n with waitq := (s.core n).waitq ++
             [⟨⟨q, f.index⟩, krnProg d, krnBase d, krnLen d, BitVec.ofNat 64 (krnGrant d), bit 0 (krnAcc d), bit 1 (krnAcc d),
               BitVec.ofNat 64 (krnSeed d), (List.range 6).map (fun k => BitVec.ofNat 64 (krnArg d (k + 1))), qPart q,
               s.coreTag n, false⟩] }
         else s.core n) ∧
  (∀ (s : State) (q : Nat) (f : Fetched),
     let d := dNum f.bytes
     let p := qPart q
     (s.Front q 2 f → cpyLen d ≠ 0 → Answers .descCopy s fun t =>
       s.InFlight t q f ((cpyLen d + 4095) / 4096) ∧ t.mem = s.mem ∧ t.hostMem = s.hostMem ∧
       ∃ x, t.flight? ⟨q, f.index⟩ = some x ∧ x.started = min 8 ((cpyLen d + 4095) / 4096)) ∧
     (s.Front q 2 f → cpyLen d = 0 → Answers .descCopy s fun t => s.Ended t q f ⟨0, 0, 0⟩ ∧ t.mem = s.mem) ∧
     (s.Front q 3 f → Answers .descTable s fun t =>
       s.InFlight t q f (cmUnits (tblCmd d)) ∧ t.mem = s.mem ∧
       t.sepia.cmds = s.sepia.cmds ++ [⟨s.sepia.next, .desc ⟨q, f.index⟩, p, tblSeed d, tblCmd d, false, 0, [], [], false⟩]) ∧
     (∀ e u, s.Front q 4 f → s.admission p d = .done e u → Answers .descCollective s fun t =>
       s.Ended t q f e ∧ t.colls = s.colls ∧ t.mem = s.mem) ∧
     (∀ b, s.Front q 4 f → s.admission p d = .go b → gdN b = 1 → gdRank b = 0 → gdChildren b = [] → s.colls.grants = [] →
       (∀ c ∈ s.colls.run, c.ref ≠ ⟨q, f.index⟩) → Answers .descCollective s fun t =>
         s.InFlight t q f (colChunks b d) ∧ t.mem = s.mem ∧ t.gSt (colGroup d) = 2 ∧
         t.gInst (colGroup d) = (s.gInst (colGroup d) + 1) % 65536 ∧
         ∃ c, t.colls.run = s.colls.run ++ [c] ∧ c.ref = ⟨q, f.index⟩ ∧ c.group = colGroup d ∧ c.inst = s.gInst (colGroup d) ∧
           c.chunks = colChunks b d ∧ c.ended = none)) ∧
  (∀ (s : State) (q : Nat) (f : Fetched),
     let d := dNum f.bytes
     let p := qPart q
     let e := s.ep p
     let busy := s.memory.delivering.contains p ∨ (∃ x ∈ s.memory.deciding, x.1 = p) ∨
       ∃ w ∈ s.memory.work, w.part = p ∧ w.colour = e.colour % 3 + 1
     (s.Front q 7 f → s.gSt (epGroup d) ≠ 0 → Answers .epochBegin s fun t =>
       s.InFlight t q f 1 ∧ t.mem = s.mem ∧
       (¬ busy → t.memory = { s.memory with delivering := s.memory.delivering ++ [p] }) ∧ (busy → t.memory = s.memory) ∧
       t.ep p = { e with group := epGroup d, epoch := epEpoch d, tree := treeOf (s.gd (epGroup d)), cause := 0,
                         beginDesc := some ⟨q, f.index⟩ } ∧ ∀ r, r ≠ p → t.ep r = s.ep r) ∧
     (s.Front q 7 f → s.gSt (epGroup d) = 0 → Answers .epochBegin s fun t =>
       s.Ended t q f ⟨6, 2, 0⟩ ∧ t.eps = s.eps ∧ t.memory = s.memory) ∧
     (s.Front q 8 f → e.st = .opened → e.failed = false → epAbort d = false → e.tree.rank ≠ 0 → Answers .epochVote s fun t =>
       s.InFlight t q f 1 ∧ (t.ep p).st = .voted ∧ (t.ep p).voteDesc = some ⟨q, f.index⟩ ∧ t.memory.deciding = s.memory.deciding) ∧
     (s.Front q 8 f → (e.st = .doomed ∨ e.st = .opened ∧ e.tree.rank ≠ 0 ∧ (epAbort d = true ∨ e.failed = true)) →
       Answers .epochVote s fun t =>
         s.InFlight t q f 1 ∧ (t.ep p).st = .restoring ∧ (t.ep p).lastDecided = e.epoch ∧
         t.memory.deciding = s.memory.deciding ++ [(p, false)]))

/-- A unit of a COPY that is under way moves its bytes from local memory to host memory, from host memory to local memory, or within
local memory, and ends OK; no other byte of the written side of host memory changes. Local addresses that the partition may not use
end it ADDRESS or ISOLATION, and nothing is copied; an untranslated host address ends it ADDRESS, and its bytes outside the unit are
untouched (R212, R220, R222, R226). A completion writes its 32-byte record at the ring's write index, which advances modulo the
ring's size with the phase inverted on a wrap, counts for the partition, and adds 1 to the host counter where the descriptor asks
for it; a QUIET descriptor that ended OK writes no record. No other byte of host memory changes (R218, R225, R228). -/
def Obligations.CopiesAndCompletions : Prop :=
  (∀ (q : Fin 1024) (i u : Nat) (s : State) (f : Flight),
     let d := dNum f.bytes
     let n := min 4096 (cpyLen d - 4096 * u)
     let src := cpySrc d + 4096 * u
     let dst := cpyDst d + 4096 * u
     let hsrc := (s.queue q).host src
     let hdst := (s.queue q).host dst
     let ends := fun (t : State) (e : UEnd) => ∃ x, t.flight? ⟨q, i⟩ = some x ∧ tfind x.ends u = some e ∧ x.units = f.units
     s.flight? ⟨q, i⟩ = some f → dType d = 2 → f.finished = false → u < f.started → tfind f.ends u = none →
     (s.part f.part).st ≠ .scrubbing →
     (cpySrcH d = false → cpyDstH d = true → s.access .host f.part src n false = .ok → s.sealedAt src = false →
       (∀ k, Answers (.copyUnitDone q i u (.ok k)) s fun t =>
         t.mem = s.mem ∧ (∀ j, j < n → t.hrd (hdst + j) = s.rdAs f.part (src + j)) ∧
         (∀ a, ¬ (hdst ≤ a ∧ a < hdst + n) → t.hrd a = s.hrd a) ∧ ends t ⟨0, 0, 0⟩) ∧
       Answers (.copyUnitDone q i u .translation) s fun t =>
         t.mem = s.mem ∧ (∀ a, ¬ (hdst ≤ a ∧ a < hdst + n) → t.hrd a = s.hrd a) ∧ ends t ⟨7, 1, 0⟩) ∧
     (cpySrcH d = true → cpyDstH d = false → s.access .host f.part dst n true = .ok → s.sealedAt dst = false →
       ∀ k, Answers (.copyUnitDone q i u (.ok k)) s fun t =>
         t.hostMem = s.hostMem ∧ t.mem = (s.put dst (s.hrdN hsrc n)).mem ∧ ends t ⟨0, 0, 0⟩) ∧
     (cpySrcH d = false → cpyDstH d = false → s.access .host f.part src n false = .ok → s.access .host f.part dst n true = .ok →
       s.sealedAt src = false → s.sealedAt dst = false → ∀ k, Answers (.copyUnitDone q i u (.ok k)) s fun t =>
         t.hostMem = s.hostMem ∧ t.mem = (s.put dst (s.rdRange f.part src n)).mem ∧ ends t ⟨0, 0, 0⟩) ∧
     (∀ r r', (cpySrcH d = false → s.sealedAt src = false) → (cpyDstH d = false → s.sealedAt dst = false) →
       (r = .address ∨ r = .isolation) → (cpySrcH d = false ∧ s.access .host f.part src n false = r ∧
           (cpyDstH d = true ∨ (s.access .host f.part dst n true).waits = false) ∨
         cpySrcH d = true ∧ cpyDstH d = false ∧ s.access .host f.part dst n true = r) →
       Answers (.copyUnitDone q i u r') s fun t =>
         t.mem = s.mem ∧ t.hostMem = s.hostMem ∧ ends t ⟨if r = .address then 7 else 8, 0, 0⟩)) ∧
  (∀ (s : State) (r : DescRef) (rest : List DescRef) (f : Flight),
     let d := dNum f.bytes
     let x := s.queue r.queue
     let a := x.cqBase + 32 * x.cqwr
     let counted := fun (t : State) => t.odNum 0x9012 (f.part + 1) = (s.odNum 0x9012 (f.part + 1) + 1) % 2 ^ 64 ∧
       (dHce d = true → (t.hc f.part (dHcnt d)).value = (s.hc f.part (dHcnt d)).value + 1) ∧
       (dHce d = false → t.hcnt = s.hcnt)
     s.disp.order = r :: rest → s.flight? r = some f → s.suspected r = false → f.silent = false → f.part < 16 →
     (x.cqFull = false → (dQuiet d = false ∨ f.outcome.status ≠ 0) → (dDmap d = 0 ∨ f.outcome.status = 0) →
       Answers .descriptorComplete s fun t =>
         t.hrdN a 32 = f.record f.outcome false x.phase ∧ (∀ b, ¬ (a ≤ b ∧ b < a + 32) → t.hrd b = s.hrd b) ∧
         (t.queue r.queue).cqwr = (x.cqwr + 1) % x.records ∧
         (t.queue r.queue).phase = (if x.cqwr + 1 = x.records then !x.phase else x.phase) ∧
         t.flight? r = none ∧ t.mem = s.mem ∧ counted t) ∧
     (dQuiet d = true → f.outcome.status = 0 → Answers .descriptorComplete s fun t =>
       t.hostMem = s.hostMem ∧ (t.queue r.queue).cqwr = x.cqwr ∧ (t.queue r.queue).phase = x.phase ∧
       t.flight? r = none ∧ t.mem = s.mem ∧ counted t))

/-- A window access is made on behalf of the window's partition: a read that is admitted answers the bytes and changes no memory, or
completes poisoned where its on-chip words are uncorrectable; a write that is admitted stores its bytes, or none where it lies in
one granule or sector, of which it leaves part, that cannot be corrected; an access through a window that is closed, or beyond its
end, or of an address that the partition does not have, is counted: a read completes Unsupported Request and a write is discarded. A
function that the module does not have is not served (R31, R148, R162, R177, R205, R208, R211, R212). A function level reset leaves
the function's registers at reset, its queues Disabled with nothing fetched, and its host counters cleared, and silences what it has
dispatched; the loss of the host link does so to every queue and clears the link's state; a link that trains within its limit, once
an active Slate controller is chosen, reports its rate and width (R205, R229, R231, R232, R462). Which registers a function level
reset keeps is the model's choice (log entry 64). -/
def Obligations.HostFunctions : Prop :=
  (∀ (fn : Fin 17) (w : Fin 2) (off : BitVec 36) (s : State),
     let x := if w.val = 0 then (s.fn fn).win0 else (s.fn fn).win1
     let p := x % 16
     let a := bits 43 36 x * 2 ^ 36 + off.toNat
     let open_ := bit 7 x = true ∧ s.serving p = fn.val ∧ (fn.val = 0 ∨ s.odNum 0x6031 fn ≠ 3)
     let counted := fun (t : State) => (t.part p).addrFaults = ((s.part p).addrFaults + 1) % 2 ^ 64 ∧ ∀ q, q ≠ p → t.part q = s.part q
     let refused := fun (n : Nat) (write : Bool) => ¬ open_ ∨ 2 ^ 36 < off.toNat + n ∨ s.access .host p a n write = .address
     (s.hasFn fn = false → ∀ (len : Fin 4097) (bs : List Byte) e, Answers (.hostWindowRead fn w off len e) s (fun t => t = s) ∧
       Answers (.hostWindowWrite fn w off bs e) s (fun t => t = s)) ∧
     (s.hasFn fn = true →
       (∀ len : Fin 4097, open_ → off.toNat + len ≤ 2 ^ 36 → s.access .host p a len false = .ok → s.sealedAt a = false →
         (∀ k, Answers (.hostWindowRead fn w off len (.ok k)) s fun t =>
           t.out = s.out ++ [.completion fn 0 ((List.range len).map (fun i => s.rdAs p (a + i)))] ∧
           t = { s with
             out := t.out, od := t.od, free := t.free, mgmt := t.mgmt, trace := t.trace
             memory := { s.memory with hot := t.memory.hot, rowErrs := t.memory.rowErrs } }) ∧
         (s.onChip a len = true → Answers (.hostWindowRead fn w off len .uncorrectable) s fun t =>
           t.out = s.out ++ [.completion fn 2 []] ∧ t.mem = s.mem ∧
           t.odNum 0x880B 0 = (s.odNum 0x880B 0 + 1) % 2 ^ 64)) ∧
       (∀ (len : Fin 4097) e, refused len false → Answers (.hostWindowRead fn w off len e) s fun t =>
         t = { s with out := s.out ++ [.completion fn 1 []], parts := t.parts } ∧ counted t) ∧
       (∀ bs : List Byte, open_ → off.toNat + bs.length ≤ 2 ^ 36 → s.access .host p a bs.length true = .ok → s.sealedAt a = false →
         (∀ n o, s.region a ≠ .coreCtl n o) →
         (∀ k, Answers (.hostWindowWrite fn w off bs (.ok k)) s fun t =>
           t.mem = (s.put a bs).mem ∧ t.hostMem = s.hostMem ∧ t.cores = s.cores ∧ t.parts = s.parts ∧
           (k = 0 → t = { s.put a bs with od := t.od })) ∧
         (bs ≠ [] → s.onChip a bs.length = true ∧ a % 8 + bs.length ≤ 8 ∧ bs.length < 8 ∨
             s.onChip a bs.length = false ∧ a % 64 + bs.length ≤ 64 ∧ bs.length < 64 →
           Answers (.hostWindowWrite fn w off bs .uncorrectable) s fun t =>
             t.mem = s.mem ∧ t.hostMem = s.hostMem ∧ t.cores = s.cores ∧ t.parts = s.parts)) ∧
       (∀ (bs : List Byte) e, refused bs.length true → Answers (.hostWindowWrite fn w off bs e) s fun t =>
         t = { s with parts := t.parts } ∧ counted t))) ∧
  ((∀ (fn : Fin 17) (s : State), s.hasFn fn = true → fn.val ≠ 0 → Answers (.functionLevelReset fn) s fun t =>
     t.fn fn = Fn.blank ∧ t.mem = s.mem ∧ t.hostMem = s.hostMem ∧
     (∀ q, s.serving (q / 64) = fn.val → q < 1024 → (t.queue q).code = .disabled ∧ (t.queue q).fetched = []) ∧
     (∀ p h, p < 16 → h < 512 → s.serving p = fn.val → t.hc p h = HCnt.blank) ∧
     (∀ p h, p < 16 → h < 512 → s.serving p ≠ fn.val → t.hc p h = s.hc p h) ∧
     ∀ r x, s.flight? r = some x → r.queue < 1024 → s.serving (r.queue / 64) = fn.val → (s.queue r.queue) ≠ Queue.blank →
       ∃ y, t.flight? r = some y ∧ y.silent = true ∧ y.bytes = x.bytes) ∧
   (∀ (perst cable : Bool) (s : State), Answers (.hostLinkLoss perst cable) s fun t =>
     t.life = { s.life with perst := perst || !cable, perstAt := s.now, cable := cable } ∧ t.odNum 0x9002 0 = 0 ∧ t.mem = s.mem ∧ t.hostMem = s.hostMem ∧
     ∀ q, q < 1024 → (t.queue q).code = .disabled ∧ (t.queue q).fetched = []) ∧
   (∀ (r : Fin 7) (w : Fin 17) (s : State), s.life.powerGood = true → (s.activeRuns = true ∨ bit 1 (s.odNum 0x2003 0) = true) →
     1 ≤ r.val → r.val ≤ s.odLive 0x9003 0 →
     w.val ∈ [1, 2, 4, 8, 16] → Answers (.hostLinkTrained r w) s fun t =>
       t = { s with od := t.od, life := { s.life with perst := true, cable := true } } ∧
       t.odNum 0x9002 0 = r * 256 + w))

/-! ### Memory stacks and Sepia (R173 to R204, R318 to R323) -/

/-- A read by its partition of a sound sector without an error in its codeword delivers its 64 bytes and changes nothing but the
output; with one symbol in error the same bytes are delivered and the correction is counted; with two nothing is delivered and the
sector is uncorrectable as stored. A hot-row line is delivered whatever its codeword holds, and the hit is counted. A sector that
the partition may not reach delivers nothing, and the refusal is counted (R31, R174, R176, R177, R203, R347). A partition's write
within one sector lands and no other byte changes. In a protected region under an open epoch whose colour the sector does not carry,
the ledger first takes the sector's before-image and the sector takes the colour; a write without room waits, and its wait is
counted once, and in a Doomed epoch it is dropped and counted (R199, R202, R330). A stack whose die the comparator has gated takes
none (R435). A read through a committed view delivers the before-image while the sector's epoch is undecided, and the live sector
otherwise; it changes nothing but the output and what the hot-row cache keeps and counts (R30, R201, R203). -/
def Obligations.Sectors : Prop :=
  (∀ (p : Fin 16) (addr : Addr) (par : Bool) (s : State),
     let x := addr.toNat / 64 * 64
     let k := stackOf x
     let counted := fun (t : State) => (t.part p).addrFaults = ((s.part p).addrFaults + 1) % 2 ^ 64
     addr.toNat < 0x0C0_0000_0000 →
     (s.reach p x false = .ok → s.stackGated k = false → s.restoring (x / 64) = false → x / 64 ∉ s.memory.bad → s.odPending 0x8041 0 = none →
       (∀ h ∈ s.memory.held, h.part = p.val → x / 64 ∉ sectorsOf h.addr h.bytes.length) →
       (s.odBool 0x8040 (k + 1) = false →
         (Answers (.hbmRead p addr par 0) s fun t => t = { s with out := s.out ++ [.memData x (some (s.rdN x 64))] }) ∧
         (Answers (.hbmRead p addr par 1) s fun t =>
           t.out.getLast? = some (.memData x (some (s.rdN x 64))) ∧ t.mem = s.mem ∧ t.memory.bad = s.memory.bad ∧
           t.odNum 0x8020 (k + 1) = (s.odNum 0x8020 (k + 1) + 1) % 2 ^ 64) ∧
         (Answers (.hbmRead p addr par 2) s fun t =>
           t.out.getLast? = some (.memData x none) ∧ t.mem = s.mem ∧ t.memory.bad = s.memory.bad ++ [x / 64] ∧
           t.odNum 0x8021 (k + 1) = (s.odNum 0x8021 (k + 1) + 1) % 2 ^ 64)) ∧
       (s.odBool 0x8040 (k + 1) = true → s.odBool 0x8002 (k + 1) = false → x / 64 ∈ (tget Hot.blank s.memory.hot k).lines →
         ∀ e, Answers (.hbmRead p addr false e) s fun t =>
           t.out.getLast? = some (.memData x (some (s.rdN x 64))) ∧ t.mem = s.mem ∧ t.memory.bad = s.memory.bad ∧
           t.odNum 0x8042 (2 * k + 1) = (s.odNum 0x8042 (2 * k + 1) + 1) % 2 ^ 64)) ∧
     (∀ e, s.reach p x false = .address → Answers (.hbmRead p addr par e) s fun t =>
       t = { s with parts := t.parts } ∧ counted t) ∧
     (∀ e, s.reach p x false = .isolation → Answers (.hbmRead p addr par e) s fun t =>
       t.out = s.out ∧ t.mem = s.mem ∧ t.memory = s.memory ∧ t.odNum 0x6008 (p + 1) = (s.odNum 0x6008 (p + 1) + 1) % 2 ^ 64)) ∧
  (∀ (p q : Fin 16) (addr : Addr) (bs : List Byte) (s : State),
     let a := addr.toNat
     let k := a / 64
     let c := if s.isProtected q a then s.openColour q else 0
     (s.stackGated (stackOf a) = true → Answers (.sectorWrite p addr bs) s fun t => t = s) ∧
     (s.stackGated (stackOf a) = false → a < 0x0C0_0000_0000 → 0 < bs.length → a % 64 + bs.length ≤ 64 → s.reachAll p a bs.length true = .ok → k ∉ s.memory.bad →
     s.holder a = some q.val →
     (s.gate a bs.length = .go → Answers (.sectorWrite p addr bs) s fun t =>
       t = { s with mem := t.mem, memory := t.memory, od := t.od } ∧
       (∀ i, i < bs.length → t.rd (a + i) = getAt 0 bs i) ∧ (∀ b, ¬ (a ≤ b ∧ b < a + bs.length) → t.rd b = s.rd b) ∧
       (∀ j, t.colourOf j = if j = k then c else s.colourOf j) ∧
       t.memory.ledger = s.memory.ledger ++ (if c ≠ 0 ∧ s.colourOf k ≠ c then
         [⟨q, (s.ep q).epoch, k, c, s.rdN (64 * k) 64, false, false, (t.memory.ledger.getLastD ⟨0, 0, 0, 0, [], false, false, 0⟩).at_⟩] else [])) ∧
     (s.gate a bs.length = .wait → Answers (.sectorWrite p addr bs) s fun t =>
       t = { s with memory := { s.memory with held := s.memory.held ++ [⟨p, a, bs⟩] } }) ∧
     (∀ r j n, s.gate a bs.length = .full r j n → Answers (.sectorWrite p addr bs) s fun t =>
       t.mem = s.mem ∧ t.memory.held = s.memory.held ++ [⟨p, a, bs⟩] ∧ t.memory.ledger = s.memory.ledger ∧
       t.odNum 0x8060 (stackOf (64 * j) + 1) =
         (if ∃ x ∈ s.memory.short, x.sector = j then s.odNum 0x8060 (stackOf (64 * j) + 1) else (s.odNum 0x8060 (stackOf (64 * j) + 1) + 1) % 2 ^ 64)) ∧
     (∀ r, s.gate a bs.length = .drop r → Answers (.sectorWrite p addr bs) s fun t =>
       t = { s with od := t.od } ∧ t.odNum 0x5852 (r + 1) = (s.odNum 0x5852 (r + 1) + 1) % 2 ^ 64))) ∧
  (∀ (p : Fin 16) (addr : Addr) (s : State),
     let a := addr.toNat / 64 * 64
     let x := a - 0x0C0_0000_0000
     0x0C0_0000_0000 ≤ a → a < 0x100_0000_0000 → s.reach p a false = .ok → s.stackGated (stackOf x) = false →
     (∀ d ∈ s.memory.deciding, s.holder x ≠ some d.1) →
     (∀ e, s.beforeImage (x / 64) = some e → e.uncorr = false → s.entryBad e = false → Answers (.committedViewRead p addr) s fun t =>
       t = { s with out := s.out ++ [.memData a (some ((List.range 64).map (fun i => getAt 0 e.before i)))] }) ∧
     (s.beforeImage (x / 64) = none → x / 64 ∉ s.memory.bad → Answers (.committedViewRead p addr) s fun t =>
       t.out = s.out ++ [.memData a (some ((List.range 64).map (fun i => s.rd (x + i))))] ∧
       t = { s with out := t.out, od := t.od, free := t.free, memory := { s.memory with hot := t.memory.hot } } ∧
       (s.odBool 0x8040 (stackOf x + 1) = false → t.memory = s.memory)))

/-- The stacks take a partition's next colour together and its member opens; a commit that has reached them makes its entries
committed, ends the colour and starts the 16 sweeps; an abort starts the 16 restores; memory is as before (R198, R200, R329, R340).
A sweep ends on a stack: its committed entries are released, a sector whose colour is still the epoch's has colour 0, and memory is
as before. A restore ends on a stack: every sector of the stack that the epoch has an entry for holds its before-image again with
colour 0, with the last of the partition's stacks every sector that it still has an entry for, and no other byte changes (R200,
R321). -/
def Obligations.EpochMemory : Prop :=
  (∀ (p : Fin 16) (s : State),
     let e := s.ep p
     let c := e.colour % 3 + 1
     (∀ r, e.beginDesc = some r → p.val ∈ s.memory.delivering → (s.agent e.group).heldDec e.epoch = none → e.tree.rank ≠ 0 →
       Answers (.epochColourDelivery p) s fun t =>
         t.mem = s.mem ∧ t.openColour p = c ∧ (t.ep p).st = .opened ∧ (t.ep p).colour = c ∧ (t.ep p).beginDesc = none ∧
         (t.ep p).epoch = e.epoch ∧ (∀ q, q ≠ p.val → t.ep q = s.ep q) ∧
         t.memory = { s.memory with delivering := s.memory.delivering.filter (fun q => q != p.val), short := t.memory.short }) ∧
     (∀ d, s.memory.deciding.find? (fun d => d.1 == p.val) = some d → Answers (.epochDecisionDelivery p) s fun t =>
       t = { s with memory := t.memory, od := t.od } ∧
       t.memory.work = s.memory.work ++ (List.range 16).map (fun k => ⟨p, k, e.colour, !d.2⟩) ∧
       t.memory.deciding = s.memory.deciding.erase d ∧
       (d.2 = true → t.openColour p = 0 ∧ t.memory.ledger = s.memory.ledger.map (fun l =>
         if l.part = p.val then { l with committed := true } else l)) ∧
       (d.2 = false → t.openColour p = s.openColour p ∧ t.memory.ledger = s.memory.ledger))) ∧
  (∀ (k p : Fin 16) (s : State) (w : StackWork),
     let mine := fun (l : LEntry) =>
       l.part = p.val ∧ stackOf (64 * l.sector) = k.val ∧ l.colour = w.colour ∧ l.committed = true
     (s.memory.work.find? (fun w => w.part == p.val && w.stack == k.val && !w.restore) = some w →
       Answers (.sweepEnd k p) s fun t =>
         t.mem = s.mem ∧ t.memory.work = s.memory.work.erase w ∧
         (∀ l, l ∈ t.memory.ledger ↔ l ∈ s.memory.ledger ∧ ¬ mine l) ∧
         (∀ l ∈ s.memory.ledger, mine l → s.colourOf l.sector = w.colour → t.colourOf l.sector = 0) ∧
         (∀ j, (∀ l ∈ s.memory.ledger, mine l → l.sector ≠ j) → t.colourOf j = s.colourOf j)) ∧
     (s.memory.work.find? (fun w => w.part == p.val && w.stack == k.val && w.restore) = some w →
       s.memory.ledger.Pairwise (fun l m => l.sector ≠ m.sector) → (∀ l ∈ s.memory.ledger, l.before.length = 64) →
       let last := ∀ x ∈ s.memory.work.erase w, ¬ (x.part = p.val ∧ x.restore = true)
       let its := fun (l : LEntry) => l.part = p.val ∧ l.colour = w.colour ∧ l.committed = false ∧ (stackOf (64 * l.sector) = k.val ∨ last)
       Answers (.restoreEnd k p) s fun t =>
         t.memory.work = s.memory.work.erase w ∧ (∀ l, l ∈ t.memory.ledger ↔ l ∈ s.memory.ledger ∧ ¬ its l) ∧
         (∀ l ∈ s.memory.ledger, its l → t.colourOf l.sector = 0 ∧
           ∀ i, i < 64 → t.rd (64 * l.sector + i) = getAt 0 l.before i) ∧
         (∀ a, (∀ l ∈ s.memory.ledger, its l → a / 64 ≠ l.sector) → t.rd a = s.rd a)))

/-- When room is freed at a stack, a write that waits there alone and is held by nothing more lands and waits no longer; writes of
other stacks wait on and memory is as before (R202). Once the module has left Grey, the patrol reads the next sector of a stack: a
sound one changes nothing but the patrol's place, and one with two symbols in error is counted and uncorrectable as stored; a spare
pair whose copy ends is Armed (R178, R180). -/
def Obligations.StackUpkeep : Prop :=
  (∀ (k : Fin 16) (s : State),
     (∀ h, s.memory.held = [h] → stackOf h.addr = k.val → s.stackGated k = false →
       ({ s with memory := { s.memory with held := [] } }).gate h.addr h.bytes.length = .go →
       Answers (.ledgerRoomFreed k) s fun t =>
         t.memory.held = [] ∧ t.mem = (({ s with memory := { s.memory with held := [] } }).hbmPut h.addr h.bytes).mem) ∧
     ((∀ h ∈ s.memory.held, stackOf h.addr ≠ k.val) → Answers (.ledgerRoomFreed k) s fun t => t = s)) ∧
  ((∀ (k : Fin 16) (s : State),
     let n := tget 0 s.memory.patrol k
     let x := k.val * (stackSize / 64) + n
     (s.life.svc = .grey → ∀ e, Answers (.patrolRead k e) s fun t => t = s) ∧
     (s.life.svc ≠ .grey → s.stackGated k = false → n + 1 < stackSize / 64 →
       (x ∉ s.memory.bad → Answers (.patrolRead k 0) s fun t =>
         t = { s with memory := { s.memory with patrol := t.memory.patrol } } ∧
         ∀ j, tget 0 t.memory.patrol j = tget 0 s.memory.patrol j + (if j = k then 1 else 0)) ∧
       (x ∉ s.memory.bad → Answers (.patrolRead k 2) s fun t =>
         t.memory.bad = s.memory.bad ++ [x] ∧ t.mem = s.mem ∧ tget 0 t.memory.patrol k = n + 1 ∧
         t.odNum 0x8021 (k + 1) = (s.odNum 0x8021 (k + 1) + 1) % 2 ^ 64))) ∧
   (∀ (k : Fin 16) (s : State), s.odNum 0x8011 (k + 1) = 1 → Answers (.sparePairCopyDone k) s fun t =>
     t.odNum 0x8011 (k + 1) = 2 ∧ t.odNum 0x8010 (k + 1) = s.odNum 0x8010 (k + 1) ∧ t.mem = s.mem ∧ t.memory = s.memory))

/-- The commands with one unit and a local destination that pass the checks of R188 and meet no fault: FILL writes its pattern,
STREAM_COPY its source sector, LOOKUP its row converted to the output format or, for a bad index, zeros, POOL the widened row of a
bag of one, sequential SCATTER_ADD and ROW_UPDATE by SGD the row with their gradient applied; each has then been executed with every
unit done. One whose source word the check bits cannot correct ends UNCORRECTABLE with none (R162, R188 to R192). A command that
fails a check of R188 ends with that status, no unit done, and memory, cores and every other command unchanged (R188, R192). -/
def Obligations.SepiaWork : Prop :=
  (∀ (id : Nat) (x : SCmd) (s : State) (seen : List Ecc),
     let c := x.bits
     let p := x.part
     let t := cmTable c
     let f := (tbFormat t).getD .binary32
     let o := (fmtOf (cmOfmt c)).getD .binary32
     let n := tbElems t
     let reads := fun (a len : Nat) => s.access .sepia p a len false = .ok
     let writes := fun (a len : Nat) => s.access .sepia p a len true = .ok
     let r := leNat (s.rdRange p (cmSrc c) 4)
     let r' := leNat (s.rdRange p (cmAux c) 4)
     let g := s.words32 p (cmSrc c) n
     let done := fun (e : Instr) (a : Nat) (bs : List Byte) => Answers e s fun y =>
       s.Executed y id 0 [0] ∧ y.mem = (s.put a bs).mem ∧ y.hostMem = s.hostMem ∧ y.cores = s.cores
     s.cmCheck p c = 0 → cmGlob c = false → cmRce c = false → cmCount c = 1 →
     (s.InTurn id 5 x → reads (cmSrc c) 64 → (s.hotRange p (cmSrc c) 64).2 ≠ [] → Answers (.streamCopy id [.uncorrectable]) s fun y =>
       s.Executed y id 8 [] ∧ y.mem = s.mem ∧ y.hostMem = s.hostMem) ∧
     ((∀ e ∈ seen, e = .ok 0) →
     (s.InTurn id 6 x → writes (cmDst c) 64 →
       done (.sepiaFill id seen) (cmDst c) ((List.replicate 16 (leBytes 4 (cmAux c))).flatten)) ∧
     (s.InTurn id 5 x → reads (cmSrc c) 64 → writes (cmDst c) 64 →
       done (.streamCopy id seen) (cmDst c) (s.rdRange p (cmSrc c) 64)) ∧
     (s.InTurn id 1 x → reads (cmSrc c) 4 → writes (cmDst c) (outBytes c) → r < tbRows t → reads (tbRow t r) (n * fmtBytes f) →
       done (.sepiaLookup id seen) (cmDst c)
         (packCodes (fmtBytes o) ((s.rowCodes t r f).mapIdx (fun e v => cmConv c x.seed r e o (decodeElem f v))))) ∧
     (s.InTurn id 1 x → reads (cmSrc c) 4 → tbRows t ≤ r →
       let s' := s.odAdd 0x8050 (p + 1) 1
       s'.access .sepia p (cmDst c) (outBytes c) true = .ok → Answers (.sepiaLookup id seen) s fun y =>
         s.Executed y id 1 [0] ∧ y.mem = (s'.put (cmDst c) (List.replicate (outBytes c) 0)).mem ∧
         y.odNum 0x8050 (p + 1) = (s.odNum 0x8050 (p + 1) + 1) % 2 ^ 64) ∧
     (s.InTurn id 2 x → cmMode c = 0 → cmOfmt c = 0 → cmBags c = 1 → reads (cmSrc c) 4 → reads (cmAux c) 8 →
       s.words32 p (cmAux c) 2 = [0, 1] → r < tbRows t → reads (tbRow t r) (n * fmtBytes f) → writes (cmDst c) (n * 4) →
       done (.sepiaPool id seen) (cmDst c) (packCodes 4 ((s.rowCodes t r f).map (fun v => (widen f v).toNat)))) ∧
     (s.InTurn id 3 x → cmMode c = 0 → reads (cmAux c) 4 → r' < tbRows t → reads (cmSrc c) (4 * n) →
       reads (tbRow t r') (n * fmtBytes f) → writes (tbRow t r') (n * fmtBytes f) →
       done (.scatterAdd id seen) (tbRow t r') (packCodes (fmtBytes f) ((List.range n).map (fun e =>
         scatterElem c x.seed r' e f (getAt 0 (s.rowCodes t r' f) e) (getAt 0 g e))))) ∧
     (s.InTurn id 4 x → cmMode c = 0 → tbFmt t = 0 → reads (cmAux c) 4 → reads (cmDst c) 64 → r' < tbRows t →
       reads (cmSrc c) (4 * n) → reads (tbRow t r') (n * 4) → writes (tbRow t r') (n * 4) →
       let h := s.hyper p (cmDst c)
       done (.rowUpdate id seen) (tbRow t r') (packCodes 4 ((List.range n).map (fun e =>
         let w := widen f (getAt 0 (s.rowCodes t r' f) e)
         let v := rne32 (BX.empty.deposit (BitVec.ofNat 32 (getAt 0 g e))).value
         cmConv c x.seed r' e f (dec32 (fsub w (fmul h.lr (fadd v (fmul h.wd w))))))))))) ∧
  (∀ e ∈ [((Instr.sepiaLookup : Nat → List Ecc → Instr), 1), (.sepiaPool, 2), (.scatterAdd, 3), (.rowUpdate, 4), (.streamCopy, 5), (.sepiaFill, 6)],
     ∀ (id : Nat) (seen : List Ecc) (x : SCmd) (s : State), s.InTurn id e.2 x → s.cmCheck x.part x.bits ≠ 0 → Answers (e.1 id seen) s fun t =>
       s.Executed t id (s.cmCheck x.part x.bits) [] ∧ s.cmCheck x.part x.bits ∈ [2, 3, 4] ∧
       t.mem = s.mem ∧ t.hostMem = s.hostMem ∧ t.cores = s.cores ∧
       ∀ j, j ≠ id → t.sepia.cmds.find? (fun y => y.id == j) = s.sepia.cmds.find? (fun y => y.id == j))

/-- An executed command whose result writes are acknowledged, with no earlier one of its issuer on its engines, is reported: a
descriptor finishes OK or BAD_INDEX, a TBL's M-op leaves and its counter counts 1; the command leaves the engines. While such an
earlier one is there it is not reported (R93, R187, R192, R226). A watchdog that expires over a command in execution that waits on
nothing outside the engine, or a failing internal check, puts the engine in bypass and ends its first 8 commands in execution
ABANDONED; memory is as before. While all of them wait outside it the watchdog does not run, and in bypass neither it nor the check
does (R196, R197). -/
def Obligations.SepiaEnds : Prop :=
  (∀ (id : Nat) (x : SCmd) (s : State),
     s.sepia.cmds.find? (fun y => y.id == id) = some x → x.done = true → x.status ≤ 1 → s.cmdLeft id = 0 → x.lost = false →
     1 ≤ cmOp x.bits → cmOp x.bits ≤ 6 →
     let ahead := fun (y : SCmd) => y.id < id ∧ y.who.same x.who = true ∧ ∃ k ∈ s.cmdStacks x.part x.bits, k ∈ s.cmdStacks y.part y.bits
     ((∃ y ∈ s.sepia.cmds, ahead y) → Answers (.sepiaCommandComplete id) s fun t => t = s) ∧
     ((∀ y ∈ s.sepia.cmds, ¬ ahead y) → (∀ k, k < 16 → s.odPending 0x8002 (k + 1) = none) →
     (∀ d f, x.who = .desc d → s.flight? d = some f → f.finished = false → s.tearing f.part = false →
       Answers (.sepiaCommandComplete id) s fun t =>
         t.sepia.cmds = s.sepia.cmds.filter (fun y => y.id != id) ∧ t.disp.order = s.disp.order ++ [d] ∧ t.mem = s.mem ∧
         ∃ y, t.flight? d = some y ∧ y.finished = true ∧ y.outcome = ⟨0, x.status, 0⟩) ∧
     (∀ n i m, x.who = .core n i → s.mop? n i = some m → m.err = 0 → s.sealed (clusterOf n) 18 = false →
       (∀ y ∈ (s.core n).mops, y.phase ≠ .queued) → Answers (.sepiaCommandComplete id) s fun t =>
         t.sepia.cmds = s.sepia.cmds.filter (fun y => y.id != id) ∧ t.mem = s.mem ∧
         (t.core n).mops = (s.core n).mops.filter (fun y => y.id != m.id) ∧
         ∀ k, (t.core n).counter k = if oCE m.w ∧ k = oCNT m.w then (s.core n).counter k + 1 else (s.core n).counter k))) ∧
  (∀ (k : Fin 16) (s : State),
     let after := fun (t : State) =>
       t.odNum 0x8002 (k + 1) = 1 ∧ t.mem = s.mem ∧ t.hostMem = s.hostMem ∧ t.cores = s.cores ∧
       ∀ y ∈ t.sepia.cmds, (∃ x ∈ (s.onStack k).take 8, x.id = y.id) → y.done = true ∧ y.status = 9
     (s.odBool 0x8002 (k + 1) = false → ((∃ x ∈ (s.onStack k).take 8, s.cmdWaits x = false) → Answers (.sepiaWatchdogExpiry k) s after) ∧
       Answers (.sepiaInternalCheckFailure k) s after) ∧
     (s.odBool 0x8002 (k + 1) = true ∨ (∀ x ∈ (s.onStack k).take 8, s.cmdWaits x = true) → Answers (.sepiaWatchdogExpiry k) s fun t => t = s) ∧
     (s.odBool 0x8002 (k + 1) = true → Answers (.sepiaInternalCheckFailure k) s fun t => t = s))

/-! ### Links and fabric (R237 to R288) -/

/-- Five flits that leave as a pair arrive: its two codewords laid over the lanes in use, with the spare and the half of the lane
map, are gathered and decoded without a correction to the same flits in their order (R236, R237, R252, R253). -/
def Obligations.CodewordPairs : Prop :=
  ∀ (p : FlitPair), p.flits.length = 5 → (∀ f ∈ p.flits, f.length = 256) → p.half ∈ [0, 1, 0xF] →
    (p.spare = 0xF ∨ p.spare ∈ positions p.half) →
    let x := pairSeen p.spare p.half p.lanes
    x.flits = p.flits.map some ∧ x.corrected = 0 ∧ x.errs = []

/-- A capability message is read from its bytes where its CRC is right, and from their complements, as a lane of inverted polarity,
where it is right only there; the nine that a link sends hold versions 2 to 3, features 7, the module's serial and coordinate, the
lane, and a right CRC (R234, R247). Training goes forward: signal on at least 4 lanes, an agreed capability message, equalised
lanes, alignment with the exchange of lane maps, and a qualification that passes at both ends take a link from Detect over
Negotiate, Equalise, Align and Qualify to Active. A lane passes on at most 2 bit errors in 10^5, no uncorrectable codeword and no
loss of signal, and an end when every lane in use does. An end that fails, or whose partner does, starts another attempt at once, or
goes Down when it was the last. Equalisation starts from the coefficients stored with the partner's serial, else from the preset
(R234, R245, R247, R249, R250). -/
def Obligations.LinkTrains : Prop :=
  (∀ (n : Fin 12) (s : State) (bs : List Byte),
     let good := fun (b : List Byte) => b.length = 64 ∧ fieldAt b 60 4 = crc32c (b.take 60)
     let is := fun (b : List Byte) (inv : Bool) (c : Cap) =>
       c.vmin = fieldAt b 0 1 ∧ c.vmax = fieldAt b 1 1 ∧ c.feat = fieldAt b 2 2 ∧ c.flags = fieldAt b 16 1 ∧
       c.id = ⟨fieldAt b 4 8, fieldAt b 12 3, fieldAt b 15 1, inv⟩
     let neg := bs.map (fun x => ~~~x)
     (good bs → ∃ c, capOf bs = some c ∧ is bs false c) ∧
     (¬ good bs → good neg → ∃ c, capOf bs = some c ∧ is neg true c) ∧
     (¬ good bs → ¬ good neg → capOf bs = none) ∧
     (s.capBlocks n 0).length = 9 ∧
     ∀ k, k < 9 →
       let b := (s.capBlocks n 0).getD k []
       good b ∧ fieldAt b 0 1 = 2 ∧ fieldAt b 1 1 = 3 ∧ fieldAt b 2 2 = 7 ∧ fieldAt b 4 8 = s.odNum 0x1000 0 % 2 ^ 64 ∧
       fieldAt b 12 3 = s.odNum 0x4400 0 % 2 ^ 20 + n * 2 ^ 20 ∧ fieldAt b 15 1 = k ∧
       fieldAt b 16 1 = (if s.odBool 0x4005 (n + 1) then 1 else 0)) ∧
  (∀ (n : Fin 12) (s : State),
     let l := s.link n
     (∀ lanes : BitVec 9, l.st = .detect → 4 ≤ popCount 9 lanes.toNat → Answers (.signalDetect n lanes) s fun t =>
       s.LinkAt t n .negotiate 0 ∧ t.out.getLast? = some (.capability n (t.capBlocks n 0))) ∧
     (∀ blocks c rest, l.st = .negotiate → (blocks.map capOf).filterMap id = c :: rest → bit 1 c.flags = false →
       miswired (blocks.map (fun b => (capOf b).map Cap.id)) = false → 2 ≤ c.vmax → c.vmin ≤ 3 →
       (s.odNum 0x400A (n + 1) = 0 ∨ s.odNum 0x400A (n + 1) = c.id.serial) →
       Answers (.capabilityExchanged n blocks) s fun t =>
         let kept := t.odBlob 0x4016 (n + 1)
         s.LinkAt t n .equalise 0 ∧ t.linkVer n = min c.vmax 3 ∧ t.odNum 0x4008 (n + 1) = c.id.serial ∧
         (t.link n).lanes = blocks.map (fun b => (capOf b).map Cap.id) ∧
         (t.link n).start = (if kept ≠ [] ∧ fieldAt kept 0 8 = c.id.serial then none else some (t.odNum 0x4015 (n + 1)))) ∧
     (l.st = .equalise → l.rxFail = 0 → Answers (.equaliseDone n 0) s fun t =>
       s.LinkAt t n .align 0 ∧ (t.link n).rxFail = 0 ∧ (t.link n).rxSpare = 0xF ∧ (t.link n).rxHalf = 0xF) ∧
     (∀ seen, l.st = .align → l.rxFail = 0 → miswired seen = false → Answers (.alignDone n seen 0) s fun t =>
       s.LinkAt t n .qualify 0 ∧ (t.link n).mine = none ∧ (t.link n).partner = none ∧ (t.link n).lanes = seen ∧
       (t.link n).rxHalf = 0xF ∧ (t.link n).txHalf = 0xF ∧ .laneMap n 0 ∈ t.out) ∧
     (∀ errors lost, l.st = .qualify → l.mine = none → l.partner = none →
       let sent := (if 3 ≤ s.linkVer n then 425_000_000 else 212_500_000) * 1000
       let ok := fun (k : Nat) => (tget 0 l.errs k + getAt 0 errors k) * 100_000 ≤ 2 * sent ∧ l.bad + lost = 0 ∧ bit k l.lost = false
       let pass := ∀ k, k < 9 → l.uses k = true → ok k
       (pass → Answers (.qualifyWindowEnd n errors lost) s fun t =>
         t = { s with links := t.links, od := t.od, out := t.out } ∧ (t.link n).st = .qualify ∧ (t.link n).mine = some true ∧
         (l.uses 8 = true → .control n 0x06 (leBytes 1 1 ++ leBytes 2 0) ∈ t.out)) ∧
       (¬ pass → 1 < l.attempts → Answers (.qualifyWindowEnd n errors lost) s fun t =>
         s.LinkAt t n .equalise 0 ∧ (t.link n).attempts = l.attempts - 1 ∧ (t.link n).mine = none ∧ (t.link n).partner = none) ∧
       (¬ pass → l.attempts ≤ 1 → Answers (.qualifyWindowEnd n errors lost) s fun t => s.LinkAt t n .down 6)) ∧
     (∀ m rest, l.st = .qualify → s.Message n 0x06 m rest → fieldAt m 1 1 ≠ 1 →
       (1 < l.attempts → Answers (.qualResult n) s fun t =>
         s.LinkAt t n .equalise 0 ∧ (t.link n).attempts = l.attempts - 1 ∧ (t.link n).mine = none ∧ (t.link n).partner = none) ∧
       (l.attempts ≤ 1 → Answers (.qualResult n) s fun t => s.LinkAt t n .down 6)) ∧
     (∀ m rest, l.st = .qualify → l.mine = some true → l.rxHalf = 0xF → l.txHalf = 0xF → s.Message n 0x06 m rest →
       fieldAt m 1 1 = 1 → Answers (.qualResult n) s fun t =>
         s.LinkAt t n .active 0 ∧ (t.link n).sent = [] ∧ (t.link n).resync = true))

/-- What takes a link Down, each with its reason: no partner, a miswire, no common version, another partner than the one configured,
lost lanes, the partner, a repair that is not acknowledged, the third loss of alignment within 1 ms. A Down link that is enabled
returns to Detect with its attempts renewed (R245, R259). A loopback test that ends reports each lane's status and errors and
returns its link to Disabled, or to Detect where it was Down and is enabled; a continuity test passes on no error, a full-rate one
on the ratio of R250 with lock kept. A far-end request of version 3 is accepted where it may be, and the link is in Loopback and
sends back what it receives; a request that nobody accepts ends with status 4 (R245, R256, R257). -/
def Obligations.LinkEnds : Prop :=
  (∀ (n : Fin 12) (s : State),
     let l := s.link n
     let down := fun (c : Instr) (reason : Nat) => Answers c s fun t =>
       s.LinkAt t n .down reason
     let broken := fun (c : Instr) (reason : Nat) => s.linkUp n = true → Answers c s fun t =>
       s.LinkAt t n .down reason ∧ (t.link n).rx = [] ∧ (t.link n).txq = [] ∧ (t.link n).repair = none
     ((l.st = .detect ∨ l.st = .negotiate) → down (.trainingTimeout n) 1) ∧
     (∀ blocks c rest, l.st = .negotiate → (blocks.map capOf).filterMap id = c :: rest → bit 1 c.flags = false →
       let wired := miswired (blocks.map (fun b => (capOf b).map Cap.id)) = false
       (¬ wired → down (.capabilityExchanged n blocks) 4) ∧
       (wired → (c.vmax < 2 ∨ 3 < c.vmin) → down (.capabilityExchanged n blocks) 2) ∧
       (wired → 2 ≤ c.vmax → c.vmin ≤ 3 → s.odNum 0x400A (n + 1) ≠ 0 → s.odNum 0x400A (n + 1) ≠ c.id.serial →
         down (.capabilityExchanged n blocks) 3)) ∧
     (∀ lanes : BitVec 9, 3 ≤ popCount 9 (l.lost ||| lanes.toNat) → broken (.lossOfSignal n lanes) 7) ∧
     (∀ m rest, s.Message n 0x07 m rest → broken (.linkDown n) 8) ∧
     ((l.repair.isSome = true ∨ l.txHold = true) → broken (.swapTimeout n) 9) ∧
     (∀ a b, l.alignLost = [a, b] → s.now < a + 1_000_000 → s.now < b + 1_000_000 →
       broken (.alignmentLost n) 10) ∧
     (s.linkUp n = true → l.alignLost = [] → Answers (.alignmentLost n) s fun t =>
       t = { s with links := t.links } ∧ (t.link n).st = l.st ∧ (t.link n).resync = true ∧ (t.link n).asm = [] ∧
       (t.link n).alignLost = [s.now]) ∧
     (l.st = .down → s.odBool 0x4001 (n + 1) = true → Answers (.retryIntervalExpiry n) s fun t =>
       s.LinkAt t n .detect 0 ∧ (t.link n).attempts = s.odLive 0x4012 0)) ∧
  (∀ (n : Fin 12) (rs : List LaneResult) (d : BitVec 32) (s : State),
     let l := s.link n
     let back := fun (b : LinkSt) => if b = .down then (if s.odBool 0x4001 (n + 1) then .detect else .disabled)
       else if b = .detect ∨ b = .negotiate then b else LinkSt.disabled
     (∀ lb, l.st = .loopback → l.loop = some lb → lb.mode < 4 → Answers (.loopbackEnd n rs d) s fun t =>
       s.LinkAt t n (back lb.before) 0 ∧ (t.link n).loop = none ∧ (lb.mode = 1 ∨ lb.mode = 2 → t.odNum 0x4033 (n + 1) = d.toNat) ∧
       ∀ k, k < 9 → t.odNum 0x4031 (9 * n + k + 1) = match getAt LaneResult.noSignal rs k with
         | .noSignal => 4 * 2 ^ 28
         | .measured lock e =>
           let pass := if lb.full then lock && decide (e * 100_000 ≤ 2 * (425_000_000 * lb.ms)) else decide (e = 0)
           (if pass then 2 else 3) * 2 ^ 28 + min e 0xFFF_FFFF) ∧
     (∀ lb, l.st = .loopback → l.loop = some lb → lb.mode = 1 → lb.accepted = false → Answers (.trainingTimeout n) s fun t =>
       s.LinkAt t n (back lb.before) 0 ∧ ∀ k, k < 9 → t.odNum 0x4031 (9 * n + k + 1) = 4 * 2 ^ 28) ∧
     (∀ blocks c rest, (l.st = .detect ∨ l.st = .negotiate ∨ l.st = .down) → (blocks.map capOf).filterMap id = c :: rest →
       bit 1 c.flags = true → 3 ≤ c.vmax → s.farOk n = true → Answers (.capabilityExchanged n blocks) s fun t =>
         s.LinkAt t n .loopback 0 ∧ (t.link n).loop.map Loop.mode = some 4 ∧ .capability n (s.capBlocks n 4) ∈ t.out) ∧
     (∀ lanes, l.st = .loopback → l.loop.map Loop.mode = some 4 → Answers (.flitReceive n lanes) s fun t =>
       t = { s with out := s.out ++ [.looped n lanes] }))

/-- Lane repair: a breach of the degrade threshold asks the partner for a swap to the spare; SWAP_REQ moves the position to lane 8
and holds data, SWAP_ACK releases it, and a link without the swap in use takes no such request; HALF_REQ narrows both directions to
one half, and HALF_ACK makes the link half width; the deskewed receiver acknowledges with its generation, at full width and at a
half (R248, R251 to R254). -/
def Obligations.LaneRepair : Prop :=
  ∀ (n : Fin 12) (s : State),
    let l := s.link n
    let asked := fun (t : State) => { l with
      ctl := (t.link n).ctl, flitSeq := (t.link n).flitSeq, pairSeq := (t.link n).pairSeq }
    (∀ (k : Fin 9) (errors lost : Nat), k.val < 8 → s.linkUp n = true → 3 ≤ s.linkVer n →
      s.odLive 0x4017 0 * 425_000_000 < (tget 0 l.errs k + errors) * 10 ^ 9 →
      s.linkFeat n 0 = true → l.uses k = true → l.rxSpare = 0xF → bit 8 l.rxFail = false → l.repair = none →
      Answers (.degradeWindowEnd n k errors lost) s fun t =>
        (t.link n).repair = some ⟨k, 0xF, (l.rxGen + 1) % 16⟩ ∧ bit k (t.link n).rxFail = true ∧ (t.link n).st = l.st ∧
        .control n 0x02 (leBytes 1 k ++ leBytes 1 ((l.rxGen + 1) % 16)) ∈ t.out) ∧
    (∀ m rest, s.Message n 0x02 m rest → (s.linkVer n < 3 ∨ s.linkFeat n 0 = false) → Answers (.swapReq n) s fun t =>
      t = { s with links := t.links } ∧ t.link n = { l with ctl := rest }) ∧
    (∀ m rest, s.Message n 0x02 m rest → l.st.up = true → 3 ≤ s.linkVer n → s.linkFeat n 0 = true → fieldAt m 2 1 % 16 ≠ l.txGen → Answers (.swapReq n) s fun t =>
      t = { s with links := t.links, od := t.od, out := t.out } ∧ t.out = s.out ++ [.blocks n (fieldAt m 2 1 % 16)] ∧
      t.link n = { l with ctl := rest, txSpare := fieldAt m 1 1 % 16, txGen := fieldAt m 2 1 % 16, txHold := true }) ∧
    (∀ m rest, s.Message n 0x03 m rest → l.st.up = true → fieldAt m 1 1 % 16 = l.txGen → l.txq = [] →
      Answers (.swapAck n) s fun t =>
        t = { s with links := t.links } ∧ t.link n = { l with ctl := rest, txHold := false }) ∧
    (∀ m rest, s.Message n 0x04 m rest → l.st.up = true → fieldAt m 3 1 % 16 ≠ l.txGen → l.halfOk = true →
      fieldAt m 1 1 ≤ 1 → halfFits l.rxFail (fieldAt m 1 1) (s.linkFeat n 0) = true → Answers (.halfReq n) s fun t =>
        t = { s with links := t.links, od := t.od, out := t.out } ∧ (t.link n).txHalf = fieldAt m 1 1 ∧
        (t.link n).rxHalf = fieldAt m 1 1 ∧ (t.link n).txHold = true ∧ (t.link n).txGen = fieldAt m 3 1 % 16 ∧
        t.out = s.out ++ [.blocks n (fieldAt m 3 1 % 16)]) ∧
    (∀ m rest, s.Message n 0x05 m rest → l.st = .active → fieldAt m 1 1 % 16 = l.txGen → l.txq = [] →
      Answers (.halfAck n) s fun t => s.LinkAt t n .activeHalf 0 ∧ (t.link n).txHold = false ∧ (t.link n).txHalf = l.txHalf) ∧
    (∀ (g : Fin 16) (pos : Nat), l.repair = some ⟨pos, 0xF, g⟩ → l.st.up = true → l.pend = [] → l.asm = [] →
      Answers (.swapDeskewDone n g) s fun t =>
        t.link n = { asked t with repair := none, rxGen := g, rxSpare := pos, resync := true } ∧
        .control n 0x03 (leBytes 1 g) ∈ t.out ∧ t.odNum 0x4024 (n + 1) = min (s.odNum 0x4024 (n + 1) + 1) (2 ^ 32 - 1)) ∧
    (∀ (g : Fin 16) (pos h : Nat), l.repair = some ⟨pos, h, g⟩ → h < 2 → l.st = .active → l.pend = [] →
      Answers (.swapDeskewDone n g) s fun t =>
        s.LinkAt t n .activeHalf 0 ∧ (t.link n).repair = none ∧ (t.link n).rxGen = g ∧ (t.link n).rxSpare = pos ∧
        (t.link n).rxHalf = h ∧ (t.link n).txHalf = h ∧ .control n 0x05 (leBytes 1 g) ∈ t.out)

/-- The lanes of a pair are decoded: the symbols corrected and the codewords that are not correctable are counted, and so is every
flit that is discarded, for a lost codeword, a bad CRC, a reserved type or a reserved message. Five sound idle and control flits in
sequence deliver their messages in order and return their credits; with both codewords lost the receiver is in resync (R236 to
R243). CREDIT_SYNC brings each channel's received count to the partner's sent count modulo 2^20 and frees what was lost; the
transmitter sends its four counts in a flit of the next number, with its CRC and the credits of the channels it names (R239, R240,
R242). -/
def Obligations.FlitsAndCredits : Prop :=
  (∀ (n : Fin 12) (lanes : List (List Nat)) (s : State),
     let l := s.link n
     let x := pairSeen l.rxSpare l.rxHalf (l.inOrder lanes)
     let head := fun (f : List Byte) => leNat (f.take 12)
     let typ := fun (f : List Byte) => bits 95 92 (head f)
     let seq := fun (f : List Byte) => bits 61 50 (head f)
     let code := fun (f : List Byte) => fieldAt f 12 1
     let sound := fun (f : List Byte) => f.length = 256 ∧ fieldAt f 252 4 = crc32c (f.take 252) ∧ typ f ≤ 2 ∧
       (typ f = 2 → 1 ≤ code f ∧ code f ≤ 8)
     let none' := fun (c : Option (List Nat)) => if c.isSome then 0 else 1
     l.st.up = true → s.fabric.held = [] → l.txq = [] →
     Answers (.flitReceive n lanes) s (fun t =>
       t.odNum 0x4021 (n + 1) = (s.odNum 0x4021 (n + 1) + x.corrected) % 2 ^ 64 ∧
       t.odNum 0x4022 (n + 1) = (s.odNum 0x4022 (n + 1) + none' x.a + none' x.b) % 2 ^ 64 ∧
       t.cores = s.cores ∧ t.mem = s.mem ∧ (∀ j, j ≠ n.val → t.link j = s.link j) ∧
       ((∀ o ∈ x.flits, ∃ f, o = some f ∧ sound f) → t.odNum 0x4023 (n + 1) = s.odNum 0x4023 (n + 1)) ∧
       ((∀ o ∈ x.flits, ∀ f, o = some f → ¬ sound f) → t.odNum 0x4023 (n + 1) = (s.odNum 0x4023 (n + 1) + 5) % 2 ^ 64) ∧
       (x.a = none → x.b = none → (t.link n).resync = true ∧ (t.link n).asm = [] ∧ (t.link n).ctl = l.ctl)) ∧
     (∀ fs : List (List Byte), x.flits = fs.map some → (∀ f ∈ fs, sound f ∧ typ f ≠ 1) →
       let q := fun i => seq (fs.getD i [])
       (l.lastSeq = none ∨ l.lastSeq = some ((q 0 + 4095) % 4096)) → (∀ i, i < 4 → q (i + 1) = (q i + 1) % 4096) →
       Answers (.flitReceive n lanes) s fun t =>
         let h := head (fs.getD 4 [])
         (t.link n).ctl = l.ctl ++ ((fs.filter (fun f => typ f == 2)).map (fun f => slice f 12 240)) ∧
         (t.link n).lastSeq = some (q 4) ∧ (t.link n).discards = 0 ∧ (t.link n).rx = l.rx ∧ (t.link n).asm = l.asm ∧
         tget 0 (t.link n).credit (bits 27 26 h) = bits 25 6 h)) ∧
  (∀ (n : Fin 12) (s : State),
     let l := s.link n
     (∀ m rest, s.Message n 0x01 m rest → l.asm = [] → Answers (.creditSync n) s fun t =>
       t = { s with links := t.links, od := t.od } ∧ (∀ j, j ≠ n.val → t.link j = s.link j) ∧
       t.link n = { l with ctl := rest, rcvd := (t.link n).rcvd, freed := (t.link n).freed } ∧
       ∀ vc, vc < 4 → tget 0 (t.link n).rcvd vc = fieldAt m (1 + 4 * vc) 4 % 2 ^ 20 ∧
         (tget 0 (t.link n).freed vc + tget 0 l.rcvd vc) % 2 ^ 20 =
           (tget 0 l.freed vc + tget 0 (t.link n).rcvd vc) % 2 ^ 20) ∧
     (s.linkUp n = true → Answers (.creditSyncSend n) s fun t =>
       let m := leBytes 4 (tget 0 l.sent 0) ++ leBytes 4 (tget 0 l.sent 1) ++ leBytes 4 (tget 0 l.sent 2) ++ leBytes 4 (tget 0 l.sent 3)
       t = { s with links := t.links, out := t.out } ∧ .control n 0x01 m ∈ t.out ∧
       t.link n = { l with flitSeq := (t.link n).flitSeq, pairSeq := (l.pairSeq + 1) % 256 } ∧
       match t.out.getLast? with
       | some (.pair k p) =>
         k = n.val ∧ p.seq = l.pairSeq ∧ p.gen = l.txGen ∧ p.spare = l.txSpare ∧ p.half = l.txHalf ∧ p.flits.length = 5 ∧
         slice (p.flits.getD 0 []) 12 17 = leBytes 1 1 ++ m ∧ bits 95 92 (leNat ((p.flits.getD 0 []).take 12)) = 2 ∧
         ∀ i, i < 5 →
           let f := p.flits.getD i []
           let h := leNat (f.take 12)
           let c := bits 49 48 h
           f.length = 256 ∧ fieldAt f 252 4 = crc32c (f.take 252) ∧ bits 61 50 h = (l.flitSeq + i) % 4096 ∧
           bits 27 26 h = c + 1 ∧ bits 47 28 h = tget 0 l.freed c % 2 ^ 20 ∧ bits 25 6 h = tget 0 l.freed (c + 1) % 2 ^ 20
       | _ => False))

/-- A packet that its sender encrypts is read by a receiver that holds the same job secret as it was in clear, whatever the hops
between changed in its header; under another tag nothing of it is read (R359, R360). -/
def Obligations.PacketEncryption : Prop :=
  ∀ (s t : State) (p : Pkt) (z : List Byte), p.keyid ≠ 0 → s.jobSecret p.keyid = some z → t.jobSecret p.keyid = some z →
    p.payload.length = p.carried →
    ∀ (vc dim hops : Nat) (mark dline esc : Bool),
      let sent := s.seal p
      let hop := fun (q : Pkt) => { q with vc := vc, dim := dim, hops := hops, mark := mark, dline := dline, esc := esc }
      sent = { p with payload := sent.payload, tag := sent.tag } ∧ sent.payload.length = p.payload.length ∧
      t.opened (hop sent) = .ok (hop { p with tag := sent.tag }) ∧
      ∀ x, x % 2 ^ 96 ≠ sent.tag → t.opened (hop { sent with tag := x }) = .error 1

/-- The router frees a received packet's slots, gives the credits back in the next pair, and delivers a packet that is addressed to
this module; a malformed one, and one whose destination or whose router has no coordinate, is discarded and counted (R242, R261,
R262, R267). An admitted WRITE stores its payload at its window offset and is acknowledged; a READ is answered with the bytes there;
a SIGNAL adds its delta to the counter that it names; a WRITE or READ with CE adds its length to its counter. A request whose window
does not hold it draws the window fault, an uncorrectable scratchpad or pool granule a data error, and a packet whose tag fails or
whose secret is not installed no answer but a count; nothing changes at their target (R33, R93, R162, R263, R265, R276, R360). -/
def Obligations.FabricArrivals : Prop :=
  (∀ (n : Fin 12) (s : State) (p : Pkt) (rest : List Pkt),
     let l := s.link n
     let freed := { l with rx := rest, freed := tset 0 l.freed p.vc ((tget 0 l.freed p.vc + p.slots) % 2 ^ 20) }
     let taken := fun (t : State) => (∀ j, j ≠ n.val → t.link j = s.link j) ∧
       (s.linkUp n = false → t.out = s.out ∧ t.link n = freed) ∧
       (s.linkUp n = true → t.link n = { freed with flitSeq := (t.link n).flitSeq, pairSeq := (l.pairSeq + 1) % 256 } ∧
         match t.out.getLast? with
         | some (.pair k q) => k = n.val ∧ t.out.dropLast = s.out ∧ q.flits.length = 5
         | _ => False)
     let lost := fun (k : Nat) => Answers (.packetRoute n) s fun t =>
       t = { s with links := t.links, od := t.od, out := t.out } ∧ taken t ∧ t.odNum 0x4416 k = (s.odNum 0x4416 k + 1) % 2 ^ 64
     l.rx = p :: rest →
     (p.malformed = false → p.dst = s.own → s.own ≠ 0xF_FFFF → Answers (.packetRoute n) s fun t =>
       t = { s with links := t.links, od := t.od, out := t.out,
                    fabric := { s.fabric with inbox := s.fabric.inbox ++ [{ p with die := if n.val ∈ [0, 1, 2, 3, 8, 9] then 0 else 1 }] } } ∧
       taken t) ∧
     (p.malformed = true → lost 4) ∧ (p.malformed = false → (p.dst = 0xF_FFFF ∨ s.own = 0xF_FFFF) → lost 3)) ∧
  (∀ (s : State) (p : Pkt) (a : Nat),
     let free := s.sealedAt a = false ∧ s.targetReset p.dpart a = none ∧ s.refusal p = none
     let counted := fun (on : Bool) (v : Nat) (t : State) => ∀ n k, (t.core n).counter k =
       if on ∧ n = p.rcore ∧ k = p.rcnt then (s.core n).counter k + BitVec.ofNat 64 v else (s.core n).counter k
     s.sealed (clusterOf p.rcore) 17 = false →
     (s.Arrives p (fun p => p.op == 0) → free → s.windowAt p 1 = some a → s.refusedWrite p.dpart a p.payload.length = false →
       s.access .fabric p.dpart a p.payload.length true = .ok →
       (∀ k, Answers (.fabricWrite (.ok k)) s fun t =>
         t.mem = (s.put a p.payload).mem ∧ t.Answered p 3 0 [] ∧ counted p.ce p.payload.length t) ∧
       (s.onChip a p.payload.length = true → partGranule a p.payload.length = true →
         Answers (.fabricWrite .uncorrectable) s fun t =>
           t.mem = s.mem ∧ t.cores = s.cores ∧ t.Answered p 7 3 [] ∧ t.odNum 0x880B 0 = (s.odNum 0x880B 0 + 1) % 2 ^ 64)) ∧
     (s.Arrives p (fun p => p.op == 1) → free → s.windowAt p 0 = some a → s.access .fabric p.dpart a p.len false = .ok →
       (∀ k, Answers (.fabricRead (.ok k)) s fun t =>
         t.mem = s.mem ∧ t.Answered p 2 0 ((List.range p.len).map (fun i => s.rdAs p.dpart (a + i))) ∧ counted p.ce p.len t) ∧
       (s.onChip a p.len = true → Answers (.fabricRead .uncorrectable) s fun t =>
         t.mem = s.mem ∧ t.cores = s.cores ∧ t.Answered p 7 3 [] ∧ t.odNum 0x880B 0 = (s.odNum 0x880B 0 + 1) % 2 ^ 64)) ∧
     (s.Arrives p (fun p => p.op == 4 && !p.isPace) → s.refusal p = none → p.rcore < 288 → s.coreBlocked p.rcore = false →
       Answers (.fabricSignal) s fun t =>
         t.mem = s.mem ∧ t.Answered p 3 0 [] ∧ counted true (fieldAt p.payload 0 8) t) ∧
     (s.Arrives p (fun p => p.op == 0) → s.refusal p = none → s.windowAt p 1 = none → ∀ e, Answers (.fabricWrite e) s fun t =>
       t.mem = s.mem ∧ t.cores = s.cores ∧ t.Answered p 7 1 []) ∧
     (s.Arrives p (fun p => p.op == 1) → s.refusal p = none → s.windowAt p 0 = none → ∀ e, Answers (.fabricRead e) s fun t =>
       t.mem = s.mem ∧ t.cores = s.cores ∧ t.Answered p 7 1 []) ∧
     (∀ x k, s.fabric.inbox.find? (fun y => (s.clear y).op == 0) = some x → s.opened x = .error k → s.inService = true →
       s.life.removal = 0 → (s.escapeMode = true → s.storedReplies ≤ Config.replyStore) → ∀ e, Answers (.fabricWrite e) s fun t =>
         t.mem = s.mem ∧ t.cores = s.cores ∧ t.fabric.inbox = s.fabric.inbox.erase x ∧
         t.fabric.out = s.fabric.out ∧ t.fabric.wins = s.fabric.wins ∧ t.odNum 0x6418 k = (s.odNum 0x6418 k + 1) % 2 ^ 64))

/-- A reply ends its request: an ACK tells the M-op that one request less is left; READ_DATA stores its bytes at the reader; an
ERROR other than unreachable and busy faults the M-op with the code of R265, and those two send the request again under its number
while attempts remain (R263, R265, R275, R277). A reply to any outstanding request completes. An ACK takes the request out, and
marks the unit of a table command's result write done with its last one. READ_DATA takes it out, with one left less at its M-op,
unless the write has to wait. An ERROR takes it out, with the command's status where it was a table command's, but unreachable or
busy at the last attempt leaves it to its timeout. One that nothing outstanding matches is discarded and counted (R192, R193, R263,
R265, R275, R277, R381, R389). A request that times out is sent again under its number, marked as a reissue and counted, while
attempts remain and the fabric is not stopped; its last attempt ends it and faults its M-op with 0x09, or ends a table command's
result write (R192, R265, R275, R277). -/
def Obligations.FabricEnds : Prop :=
  (∀ (s : State) (p : Pkt) (r : Req) (n id : Nat) (m : MOp),
     let left := fun (t : State) => t.mop? n id = some { m with left := m.left - 1 }
     s.mop? n id = some m →
     (s.Reply p 3 r → r.owner = .mop n id → Answers .fabricAck s fun t =>
       t.fabric.out = s.without p ∧ t.mem = s.mem ∧ left t) ∧
     (∀ dst, s.Reply p 2 r → r.owner = .get n id dst →
       s.access (.dma n) (s.slotPart n m.slot) dst p.payload.length true = .ok →
       (∀ i, i < p.payload.length → ∀ k o, s.region (dst + i) ≠ .coreCtl k o) →
       s.mBehind n id (s.plain (s.slotPart n m.slot) dst p.payload.length) = false → Answers (.fabricReadData (.ok 0)) s fun t =>
         t.fabric.out = s.without p ∧ t.mem = (s.put dst p.payload).mem ∧ left t) ∧
     (∀ st code, (st, code) ∈ [(1, 8), (2, 0xA), (3, 0xB), (4, 0xC), (7, 9)] → s.Reply p 7 r → r.owner = .mop n id → p.status = st →
       m.err = 0 → ((s.core n).slot m.slot).st ∉ [.empty, .draining] → (s.ep r.pkt.spart).st = .closed →
       Answers .fabricError s fun t =>
         t.fabric.out = s.without p ∧ t.mem = s.mem ∧ ((t.core n).slot m.slot).st = .draining ∧
         ((t.core n).slot m.slot).faultCode = code) ∧
     (s.Reply p 7 r → p.status = 5 → r.tries < r.limit → Answers .fabricError s fun t =>
       t.cores = s.cores ∧ t.mem = s.mem ∧ ∃ x ∈ t.fabric.out, x.tries = r.tries + 1 ∧ x.pkt = { r.pkt with reissue := true } ∧
         x.owner = r.owner)) ∧
  (∀ (s : State) (p : Pkt) (r : Req) (ecc : Ecc),
     let same := fun (t : State) => t.mem = s.mem ∧ t.hostMem = s.hostMem ∧ t.cores = s.cores
     let gone := fun (t : State) => t.fabric.out = s.without p
     let cmd := fun (y : State) (id : Nat) => y.sepia.cmds.find? (fun x => x.id == id)
     (s.Reply p 3 r → Answers .fabricAck s fun t =>
       (r.owner = .pace → gone t ∧ same t) ∧
       (∀ id u, r.owner = .sepia id u → gone t ∧ same t ∧ ((∀ x ∈ s.without p, x.owner ≠ .sepia id u) →
         cmd t id = (cmd s id).map (fun x => { x with units := if u ∈ x.units ∨ u ∈ x.refused then x.units else x.units ++ [u] })))) ∧
     (s.Reply p 2 r → Answers (.fabricReadData ecc) s fun t =>
       ((∀ n id dst, r.owner ≠ .get n id dst) → gone t ∧ same t) ∧
       (∀ n id dst, r.owner = .get n id dst → s.mop? n id = none → gone t ∧ same t) ∧
       ∀ n id dst m, r.owner = .get n id dst → s.mop? n id = some m →
         let q := s.slotPart n m.slot
         let w := s.access (.dma n) q dst p.payload.length true
         let waits := w.waits = true ∨ s.mBehind n id (s.plain q dst p.payload.length) = true
         (waits → same t ∧ t.mop? n id = some m) ∧
         (¬ waits → gone t ∧ ∃ m', t.mop? n id = some m' ∧ m'.left = m.left - 1)) ∧
     (s.Reply p 7 r → Answers .fabricError s fun t =>
       (p.status ∈ [5, 6] → r.limit ≤ r.tries → same t ∧ t.fabric.out = s.fabric.out) ∧
       (p.status ∉ [2, 5, 6] → r.owner = .pace → gone t ∧ same t) ∧
       ∀ id u, r.owner = .sepia id u → ∀ e ∈ [(1, 7), (3, 8), (4, 4)], p.status = e.1 → gone t ∧ same t ∧
         cmd t id = (cmd s id).map (fun x => { x with status := if x.status ≤ 1 then e.2 else x.status, refused := x.refused ++ [u] })) ∧
     ∀ e ∈ [(.fabricReadData ecc, 2), (Instr.fabricAck, 3), (.fabricError, 7)], ∀ x,
       s.fabric.inbox.find? (fun y => (s.clear y).op == e.2) = some x → s.opened x = .ok p →
       s.fabric.out.find? (fun r => r.answers p && r.pkt.gen == p.gen) = none → Answers e.1 s fun t =>
         same t ∧ t.fabric.out = s.fabric.out ∧ t.fabric.inbox = s.fabric.inbox.erase x ∧
         ∃ k ∈ [(0x4424, 2), (0x4430, 0), (0x7033, 0)], t.odNum k.1 k.2 = (s.odNum k.1 k.2 + 1) % 2 ^ 64) ∧
  (∀ (dst : BitVec 20) (part : Fin 16) (seq : BitVec 24) (s : State) (r : Req),
     let found := s.fabric.out.find? (fun r => r.pkt.dst == dst.toNat && r.pkt.spart == part.val && r.pkt.seq == seq.toNat)
     (found = none → Answers (.requestTimeout dst part seq) s fun t => t = s) ∧
     (∀ id u, found = some r → (r.owner = .sepia id u ∨ r.owner = .pace) → s.fabric.stopped = false → r.limit ≤ r.tries → s.fabric.waiting = [] →
       Answers (.requestTimeout dst part seq) s fun t =>
         t.mem = s.mem ∧ t.cores = s.cores ∧ t.odNum 0x4424 3 = (s.odNum 0x4424 3 + 1) % 2 ^ 64 ∧
         t.fabric.out = s.fabric.out.filter (fun x => !(x.pkt.dst == dst.toNat && x.pkt.spart == part.val && x.pkt.seq == seq.toNat)) ∧
         ∀ id u, r.owner = .sepia id u → t.sepia.cmds.find? (fun x => x.id == id) = (s.sepia.cmds.find? (fun x => x.id == id)).map (fun x =>
           { x with status := if x.status ≤ 1 then 10 else x.status, refused := x.refused ++ [u] })) ∧
     (found = some r → s.fabric.stopped = false → r.tries < r.limit → Answers (.requestTimeout dst part seq) s fun t =>
       t.cores = s.cores ∧ t.mem = s.mem ∧ t.odNum 0x4424 1 = (s.odNum 0x4424 1 + 1) % 2 ^ 64 ∧
       t.fabric.out.find? (fun r => r.pkt.dst == dst.toNat && r.pkt.spart == part.val && r.pkt.seq == seq.toNat) =
         some { r with pkt := { r.pkt with reissue := true }, tries := r.tries + 1, at_ := s.now }) ∧
     (∀ n id m, found = some r → s.fabric.stopped = false → r.limit ≤ r.tries → r.owner = .mop n id → s.mop? n id = some m → m.err = 0 →
       ((s.core n).slot m.slot).st ∉ [.empty, .draining] → s.fabric.waiting = [] →
       Answers (.requestTimeout dst part seq) s fun t =>
         t.mem = s.mem ∧ ((t.core n).slot m.slot).st = .draining ∧ ((t.core n).slot m.slot).faultCode = 9 ∧
         ∀ x ∈ t.fabric.out, ¬ (x.pkt.dst = dst.toNat ∧ x.pkt.spart = part.val ∧ x.pkt.seq = seq.toNat)) ∧
     (found = some r → s.fabric.stopped = true → Answers (.requestTimeout dst part seq) s fun t => t = s))

/-- The table swap: at its time injection stops; then what the router still holds is discarded and counted and the requested table
is the active one; then injection goes on with what was held back (R272). The hold time releases a flow's reissue window and its
idle time its limiter; an increase interval without a halving raises the rate by its step, never beyond the link's, and one with a
halving leaves it and clears the mark; its bucket fills to the moment at the rate that it had, to 4 KiB at most. No other flow
changes (R276, R280). TIME: an Active link sends fabric time, the last received time and its arrival; a message of the parent with
an offset within 10 us is slewed, with its path delay kept, counts towards the lock when it is within 50 ns, and beyond 10 us steps
fabric time and loses the lock (R281 to R284). -/
def Obligations.FabricTiming : Prop :=
  (∀ (s : State) (q : SwapReq),
     (s.fabric.swap = some q → s.fabric.stopped = false → Answers .swapStop s fun t =>
       t = { s with od := t.od, fabric := { s.fabric with stopped := true } } ∧ t.odNum 0x4414 0 = 2) ∧
     (s.fabric.swap = some q → q.table < 2 → s.fabric.stopped = true → Answers .swapApply s fun t =>
       t = { s with od := t.od, links := t.links, fabric := { s.fabric with swap := none } } ∧ t.odNum 0x4402 0 = q.table ∧
       (∀ n, n < 12 → (t.link n).txq = [] ∧ (t.link n).rx = [] ∧ (t.link n).st = (s.link n).st) ∧
       t.odNum 0x4415 0 = (s.odNum 0x4415 0 +
         ((List.range 12).map (fun n => (s.link n).txq.length + (s.link n).rx.length)).sum) % 2 ^ 64) ∧
     (s.fabric.swap = none → s.fabric.stopped = true → s.fabric.frozen = [] → s.fabric.held = [] → Answers .swapResume s fun t =>
       t = { s with od := t.od, fabric := { s.fabric with stopped := false } } ∧ t.odNum 0x4414 0 = 3)) ∧
  (∀ (d : BitVec 20) (p : Fin 16) (s : State),
     (∀ w ∈ s.fabric.wins, w.src = d.toNat → w.spart = p.val → Answers (.windowEntryRelease d p) s fun t =>
       t = { s with od := t.od, fabric := { s.fabric with wins := t.fabric.wins } } ∧
       ∀ x, x ∈ t.fabric.wins ↔ x ∈ s.fabric.wins ∧ ¬ (x.src = d.toNat ∧ x.spart = p.val)) ∧
     (∀ l ∈ s.fabric.limiters, l.dst = d.toNat → l.spart = p.val → Answers (.limiterIdleRelease d p) s fun t =>
       t = { s with od := t.od, fabric := { s.fabric with limiters := t.fabric.limiters } } ∧
       ∀ x, x ∈ t.fabric.limiters ↔ x ∈ s.fabric.limiters ∧ ¬ (x.dst = d.toNat ∧ x.spart = p.val)) ∧
     (∀ l, s.fabric.limiters.find? (Limiter.is d.toNat p) = some l → s.odPending 0x4803 0 = none → s.odPending 0x4804 0 = none →
       Answers (.limiterIncrease d p) s fun t =>
         let top := s.flowRate { Pkt.req 0 d.toNat 0 p 0 [] with src := s.own }
         let rate := if l.halved then l.rate else min (l.rate + top * s.odNum 0x4803 0 / 1000) top
         t = { s with fabric := { s.fabric with limiters := t.fabric.limiters } } ∧
         t.fabric.limiters.find? (Limiter.is d.toNat p) = 
           some { l with
             halved := false, rate := rate, filled := s.now
             level := min (4096 * 10 ^ 9) (l.level + l.rate * (s.now - l.filled)) })) ∧
  (∀ (n : Fin 12) (s : State),
     (s.linkUp n = true → Answers (.timeSend n) s fun t =>
       t.mem = s.mem ∧ t.cores = s.cores ∧ t.clk.fabricTime = s.clk.fabricTime ∧
         match t.out[s.out.length]? with
         | some (.control k code bs) => k = n.val ∧ code = 0x08 ∧ bs.length = 34 ∧ fieldAt bs 0 8 = s.fab % 2 ^ 64 ∧
           fieldAt bs 8 8 = (match tfind s.ftime.links n.val with | some x => x.ptx % 2 ^ 64 | none => 0) ∧
           fieldAt bs 16 8 = (match tfind s.ftime.links n.val with | some x => x.prx % 2 ^ 64 | none => 0)
         | _ => False) ∧
     (∀ (m : List Byte) (rest : List (List Byte)),
       let t3 := fieldAt m 1 8
       let t1 := fieldAt m 9 8
       let t2 := fieldAt m 17 8
       let ps : Int := 500 * (((t2 : Int) - t1) - ((s.fab : Int) - t3))
       s.Message n 8 m rest → (s.timeHeard n m rest).ftime.parent = some n.val → (t1 ≠ 0 ∨ t2 ≠ 0) →
       (ps.natAbs ≤ 10_000_000 → Answers (.timeMessage n) s fun t =>
         t.ftime.slew = ps ∧ (tfind t.ftime.links n.val).map LinkTime.path = some (500 * (((s.fab : Int) - t1) - ((t3 : Int) - t2))) ∧
         t.clk.fabricTime = s.clk.fabricTime ∧ t.mem = s.mem ∧ t.cores = s.cores ∧
         t.ftime.good = (if ps.natAbs < 50_000 then min (s.ftime.good + 1) 10 else 0)) ∧
       (10_000_000 < ps.natAbs → Answers (.timeMessage n) s fun t =>
         t.clk.fabricTime = ((s.fab : Int) + ps / 1000).toNat ∧ t.clk.fabricLocked = false ∧ t.ftime.good = 0 ∧
         t.ftime.slew = 0 ∧ t.mem = s.mem ∧ t.cores = s.cores)))

/-! ### Collectives, epochs, partitions and security (R289 to R369) -/

/-- COLLECTIVE packets: an UP chunk enters its child's slot; a DOWN packet writes the part of the result that this member keeps, or,
where that leaves part of a granule that cannot be corrected, is a data error; a GRANT raises the limit for the chunks that may be
sent; an ABORT of a tree neighbour ends the collective with sub-status 4, and another changes nothing, which is the model's choice
(log entry 167). Each is acknowledged. A packet of a partition that is torn down or of a compute part in reset is answered with
status 2, one for no current instance with status 1, and neither changes the collectives (R162, R294 to R296, R302, R304, R306,
R309). The node's own work on a chunk of a reduction: with every contribution present the root combines its input with the
children's partials, in rank order, and writes its part of the result to COL.DST; another member forms its partial and writes
nothing. A collective whose timeout runs out ends with sub-status 3 (R296, R301, R304, R306). -/
def Obligations.Collectives : Prop :=
  (∀ (s : State) (p : Pkt) (c : Coll),
     let j := auxChunk p
     let n := p.payload.length
     (∀ k ecc, s.CollArrives 0 p c → j < c.chunks → colKind c.bits ≠ 2 → (gdChildren c.gd).idxOf? (senderRef p) = some k →
       tget false c.formed j = false → c.endpoint = false → Answers (.collUp false ecc) s fun t =>
         t.mem = s.mem ∧ t.cores = s.cores ∧ t.Answered p 3 0 [] ∧ ∃ x, t.coll? (auxGroup p) = some x ∧
         x = { c with got := x.got, slots := x.slots } ∧ tget 0 x.got (8 * j + k) = tget 0 c.got (8 * j + k) + n ∧
         ∀ i, i < n → tget 0 (tget [] x.slots (8 * j + k)) (colOff p + i) = getAt 0 p.payload i) ∧
     (let d := c.dstPart j
      let lo := max (colOff p) d.1
      let bs := slice p.payload (lo - colOff p) (min (colOff p + n) d.2.1 - lo)
      let a := colDst c.bits + d.2.2 + (lo - d.1)
      s.CollArrives 1 p c → j < c.chunks → bs ≠ [] → s.access .coll c.part a bs.length true = .ok → s.sealedRange a bs.length = false →
       (Answers (.downPhase (.ok 0)) s fun t => t.mem = (s.put a bs).mem ∧ t.Answered p 3 0 []) ∧
       (s.onChip a bs.length = true → partGranule a bs.length = true → Answers (.downPhase .uncorrectable) s fun t =>
         t.mem = s.mem ∧ t.Answered p 7 3 [])) ∧
     (s.CollArrives 2 p c → s.current (auxGroup p) = some (colInst p) → fieldAt p.payload 8 4 = descFp c.bits →
       fieldAt p.payload 12 4 = groupFp c.gd → fieldAt p.payload 4 1 = 0 → senderRef p = gdParent c.gd → gdRank c.gd ≠ 0 →
       c.upLim < fieldAt p.payload 0 4 → colReduces c.bits = true → (∃ i, i < c.chunks ∧ tget false c.formed i = false) →
       Answers .collGrant s fun t => t.mem = s.mem ∧ t.cores = s.cores ∧ t.Answered p 3 0 [] ∧
         t.coll? (auxGroup p) = some { c with upLim := fieldAt p.payload 0 4 }) ∧
     (s.CollArrives 3 p c → s.odPending (gIdx 0x5100 c.group) (gSub c.group) = none →
       (senderRef p ∈ c.neighbours → Answers .collectiveAbort s fun t => s.CollBroken t c 4 ∧ t.Answered p 3 0 []) ∧
       (senderRef p ∉ c.neighbours → Answers .collectiveAbort s fun t =>
         t.mem = s.mem ∧ t.cores = s.cores ∧ t.colls = s.colls ∧ t.Answered p 3 0 [])) ∧
     (let part := (s.part p.dpart).st
      let refused := fun (c : Instr) (st : Nat) => Answers c s fun t =>
        t.mem = s.mem ∧ t.cores = s.cores ∧ t.colls = s.colls ∧ t.Answered p 7 st []
      ∀ ecc, s.Arrives p (fun p => p.op == 5 && colPhase p == 1) →
       ((part = .draining ∨ part = .scrubbing) → refused (.downPhase ecc) 2) ∧
       (part ≠ .draining → part ≠ .scrubbing → s.gSt (auxGroup p) = 0 → refused (.downPhase ecc) 1) ∧
       (part ≠ .draining → part ≠ .scrubbing → s.gSt (auxGroup p) ≠ 0 → gdPart (s.gd (auxGroup p)) = p.dpart →
         gdGen (s.gd (auxGroup p)) = colGen p →
         (s.computeReset = true → refused (.downPhase ecc) 2) ∧
         (s.computeReset = false → s.current (auxGroup p) ≠ some (colInst p) → refused (.downPhase ecc) 1)))) ∧
  (∀ (g : Fin 4096) (j : Fin 1048576) (s : State) (c : Coll),
     let src := colSrc c.bits + c.at j
     let len := c.elems j * (colW c.bits / 8)
     let kids := (List.range (gdChildren c.gd).length).map (s.kidBytes c j)
     let out := c.form j (s.rdRange c.part src len) kids true
     let d := c.dstPart j
     let bs := slice out d.1 (d.2.1 - d.1)
     s.coll? g = some c → s.colls.run.find? (fun x => x.ref == c.ref) = some c →
     (s.readyChunk c j = true → colReduces c.bits = true → c.endpoint = false →
       (len ≠ 0 → s.access .coll c.part src len false = .ok) → s.sealedRange src len = false →
       (gdRank c.gd = 0 → bs ≠ [] → s.access .coll c.part (colDst c.bits + d.2.2) bs.length true = .ok →
         s.sealedRange (colDst c.bits + d.2.2) (d.2.1 - d.1) = false →
         Answers (.chunkCombined g j none (.ok 0) (.ok 0)) s fun t => t.mem = (s.put (colDst c.bits + d.2.2) bs).mem) ∧
       (gdRank c.gd ≠ 0 → Answers (.chunkCombined g j none (.ok 0) (.ok 0)) s fun t => t.mem = s.mem)) ∧
     (s.fabric.stopped = false → s.odPending (gIdx 0x5100 c.group) (gSub c.group) = none →
       Answers (.collectiveTimeout g) s fun t => s.CollBroken t c 3))

/-- Epoch packets at the agents: VOTE and RESTORED are kept with their counts, a full count at the coordinator decides commit, an
ABORT_VOTE decides abort with its cause; a replica records what RECORD carries unless it has promised a higher term; TAKE raises the
promised term; a PROMISE counts for its rank; QUERY changes no member. Each is acknowledged (R326, R332 to R335). -/
def Obligations.EpochAgents : Prop :=
  ∀ (s : State) (p : Pkt),
    let g := epGrp p
    let a := s.agent g
    let e := s.ep p.dpart
    let n := epNum p
    let m := s.mach g n
    let done := fun (c : Instr) (P : State → Prop) => Answers c s fun t => t.mem = s.mem ∧ t.Answered p 3 0 [] ∧ P t
    let decided := fun (t : State) (d : Dec) => (t.mach g n).dec = d ∨ (t.agent g).heldDec n = some d
    let vote : Vote := ⟨n, epFrom p, epCount p⟩
    (s.Arrives p (fun p => p.op == 6 && (epKind p == 0 || decide (epKind p ≥ 10))) → s.epKnown p = true →
      done .epochVoteMsg (fun t => (t.agent g).votes = addVote a.votes vote) ∧
      (s.epMine p = true → e.st = .voted → e.sentUp = false → e.tree.rank = 0 → m.st = .collecting → a.heldDec n = none →
        childCount e (addVote a.votes vote) = some e.tree.n →
        done .epochVoteMsg (fun t => decided t ⟨n, 1, 0, 0⟩))) ∧
    (s.EpArrives 1 p → s.gRank g = 0 → m.st = .collecting → a.heldDec n = none →
      done .abortVote (fun t => decided t ⟨n, 2, epCauseOf p, 0⟩)) ∧
    (s.EpArrives 2 p → tget 0 a.promised n ≤ epTerm p → done .epochRecord (fun t => t.eps = s.eps ∧
      t.agent g = { a with records := keepDec a.records ⟨n, epValue p, epCauseOf p, epTerm p⟩ })) ∧
    (s.EpArrives 2 p → epTerm p < tget 0 a.promised n → Answers .epochRecord s fun t =>
      t.agents = s.agents ∧ t.eps = s.eps ∧ t.Answered p 7 1 [] ∧
      t.odNum 0x5864 0 = (s.odNum 0x5864 0 + 1) % 2 ^ 64) ∧
    (s.EpArrives 3 p → tget 0 a.promised n ≤ epTerm p → done .epochTake (fun t => t.eps = s.eps ∧
      t.agent g = { a with promised := (t.agent g).promised } ∧ tget 0 (t.agent g).promised n = epTerm p)) ∧
    (∀ tr k, s.EpArrives 4 p → s.treeFor g = some tr → tr.succ.idxOf? (epFrom p) = some k → k ≠ 0 → m.st = .taking →
      (∀ q ∈ m.promises, q.rank ≠ k) →
      (m.promises.length + 1 < tr.quorum → done .epochPromise (fun t => t.eps = s.eps ∧
        t.agent g = { a with machs := (t.agent g).machs } ∧
        t.mach g n = { m with promises := m.promises ++ [⟨k, epValue p, epCauseOf p, epRterm p⟩] } ∧
        ∀ x, x ≠ n → t.mach g x = s.mach g x)) ∧
      (tr.quorum ≤ m.promises.length + 1 → (∀ q ∈ m.promises, q.value = 0) → epValue p = 0 → a.heldDec n = none →
        done .epochPromise (fun t => decided t ⟨n, 2, 7, tr.rank⟩))) ∧
    (∀ d, s.EpArrives 6 p → a.heldDec n = some d →
      done .epochQuery (fun t => t.eps = s.eps ∧ t.agents = s.agents)) ∧
    (s.EpArrives 8 p → done .epochRestored (fun t => (t.agent g).restored = addVote a.restored vote))

/-- Epoch packets at a member, and its timers: a decision closes a Voted or In doubt member with commit or starts its restore with
abort; an ANSWER without one has it ask the next in turn; CLEAR closes a Fenced member and is kept by a Restoring one. The timers
send a Voted member into doubt, close a Fenced one, and have the coordinator abort a vote or end Clearing (R329, R332, R338). The
epoch timers: the vote timeout decides abort with cause 6, a Voted member goes into doubt, RECORD goes out again, a Fenced member
closes and Clearing ends. A timer row means the machine that started first, which is the model's choice (R329, R332, R335, R338; log
entry 168). -/
def Obligations.EpochMembers : Prop :=
  (∀ (s : State) (p : Pkt),
     let g := epGrp p
     let e := s.ep p.dpart
     let n := epNum p
     let done := fun (c : Instr) (P : State → Prop) => Answers c s fun t => t.mem = s.mem ∧ t.Answered p 3 0 [] ∧ P t
     let decides := fun (kind : Nat) (c : Instr) => s.EpArrives kind p → s.epMine p = true → e.st = .voted ∨ e.st = .inDoubt →
       (s.agent g).heldDec n = none →
       (epValue p = 1 → done c (fun t => (t.ep p.dpart).st = .closed ∧ (t.ep p.dpart).lastDecided = n ∧
         t.odNum 0x5860 (p.dpart + 1) = (s.odNum 0x5860 (p.dpart + 1) + 1) % 2 ^ 64)) ∧
       (epValue p = 2 → done c (fun t => (t.ep p.dpart).st = .restoring ∧ (t.ep p.dpart).lastDecided = n ∧
         t.odNum 0x5861 (p.dpart + 1) = (s.odNum 0x5861 (p.dpart + 1) + 1) % 2 ^ 64))
     decides 5 .epochDecide ∧ decides 7 .epochAnswer ∧
     (s.EpArrives 7 p → s.epMine p = true → e.st = .inDoubt → epValue p = 0 ∨ epValue p = 3 →
       let k := if e.asked = e.tree.rank then e.asked + 1 else e.asked
       done .epochAnswer (fun t => t.agents = s.agents ∧
         t.ep p.dpart = { e with asked := if k ≤ e.tree.replicas then k + 1 else e.asked })) ∧
     (s.EpArrives 9 p → s.epMine p = true → e.st = .fenced →
       done .epochClear (fun t => t.ep p.dpart = { e with st := .closed, clearKept := false })) ∧
     (s.EpArrives 9 p → s.epMine p = true → e.st = .restoring →
       done .epochClear (fun t => t.ep p.dpart = { e with clearKept := true }))) ∧
  (∀ (g : Fin 4096) (s : State),
     let a := s.agent g
     let p := s.agentPart g
     let e := s.ep p
     let first := fun (q : Mach → Bool) => a.machs.find? q
     s.fabric.stopped = false →
     (∀ m, first (fun m => m.st == .collecting) = some m → a.heldDec m.epoch = none → Answers (.voteTimeout g) s fun t => t.mem = s.mem ∧
       ((t.mach g m.epoch).dec = ⟨m.epoch, 2, 6, 0⟩ ∨ (t.agent g).heldDec m.epoch = some ⟨m.epoch, 2, 6, 0⟩)) ∧
     (e.group = g → e.st = .voted → Answers (.outcomeTimeout g false) s fun t => t.mem = s.mem ∧ t.agents = s.agents ∧
       t.ep p = { e with st := .inDoubt, asked := (t.ep p).asked }) ∧
     (∀ m, first (fun m => m.st == .recording || m.st == .taking || (m.st == .deferred && !s.doubts g m.epoch)) = some m →
       m.st = .recording → Answers (.outcomeTimeout g true) s fun t => t.mem = s.mem ∧ t.agents = s.agents ∧ t.eps = s.eps) ∧
     (e.group = g → e.st = .fenced → Answers (.clearTimeout g false) s fun t => t.mem = s.mem ∧ t.agents = s.agents ∧
       t.ep p = { e with st := .closed, clearKept := false }) ∧
     (∀ m, first (fun m => m.st == .clearing) = some m → Answers (.clearTimeout g true) s fun t =>
       t.mem = s.mem ∧ (t.mach g m.epoch).st = .idle))

/-- Accepted writes for partitions and security: an Absent partition begins its creation and a Live one its teardown; admission
waits for the next arrival, and a window stands once no request admitted through it waits; Onyx has its work; a secret that is
destroyed leaves no slot (R344, R348 to R350, R358, R363, R365). The ends of a partition's steps: creation makes it Live; a drain
with nothing in flight goes on to scrubbing; the scrub leaves its HBM regions and its cores' scratchpads at 0, every other HBM byte
as it was, and the partition Absent with one teardown more; a bank that fails its March-zero is failed and no longer Lit (R170,
R344, R345, R365, R366). -/
def Obligations.Partitions : Prop :=
  (∀ (f : Frame) (s : State),
     let takes := fun (c : Instr) (P : State → Prop) => s.Takes c → Answers c s P
     let onyx := fun (c : Instr) (j : OJob) => takes c fun t => t.sec.onyx = { s.sec.onyx with job := some j } ∧ t.mem = s.mem
     (∀ p : Fin 16,
       ((s.part p).st = .absent → takes (.partitionCreate f p) fun t => (t.part p).st = .creating ∧
         (t.part p).clusters = s.askedClusters p ∧ (t.part p).regions = s.askedRegions p ∧ t.odNum 0x6002 (p + 1) = 1) ∧
       ((s.part p).st = .live → takes (.partitionTeardown f p) fun t => (t.part p).st = .draining ∧
         t.odNum 0x6002 (p + 1) = 3 ∧ ∀ j, j < 64 → (t.queue (64 * p + j)).fetched = [] ∨ (s.queue (64 * p + j)).code = .disabled) ∧
       ((s.part p).st = .creating → takes (.partitionTeardown f p) fun t => t.part p = { s.part p with held := true }) ∧
       (∀ v : BitVec 32, takes (.peerAdmissionWrite f p v) fun t => t.odPending 0x6010 (p + 1) = some (.num (v.toNat % 2 ^ 24)) ∧
         t.odGet 0x6010 (p + 1) = s.odGet 0x6010 (p + 1)) ∧
       (∀ (w : Fin 64) (b : List Byte),
         let through := ∃ q ∈ s.fabric.begun, q.op ≤ 1 ∧ q.dpart = p.val ∧ q.win = w.val
         (¬ through → takes (.fabricWindowWrite f p w b) fun t =>
           t.window p w = (fieldAt b 0 8, fieldAt b 8 8, fieldAt b 16 1) ∧ t.mem = s.mem) ∧
         (through → takes (.fabricWindowWrite f p w b) fun t => t.window p w = s.window p w ∧
           t.odPending (0x6100 + p) (w + 1) = some (.blob b) ∧ t.mem = s.mem))) ∧
     (∀ v : BitVec 8,
       onyx (.createJobSecret f v) (.create v.toNat) ∧ onyx (.makeOffer f v) (.offer v.toNat) ∧
       (takes (.destroyJobSecret f v) fun t => (∀ i, i < 32 → t.odNum 0x6416 (i + 1) ≠ 0 →
         bits 15 8 (t.odNum 0x6416 (i + 1)) ≠ v.toNat) ∧ t.mem = s.mem)) ∧
     (∀ b : List Byte,
       onyx (.grantRequest f b) (.grant b) ∧ onyx (.installGrant f b) (.install b) ∧
       let u : Unseal := ⟨fieldAt b 0 1, fieldAt b 8 8, fieldAt b 16 8, fieldAt b 24 8, fieldAt b 32 8⟩
       (takes (.unsealRequest f b) fun t => t.sec.onyx = { s.sec.onyx with unsealing := some u } ∧ t.mem = s.mem))) ∧
  (∀ (p : Fin 16) (s : State),
     let x := s.part p
     (x.st = .creating → x.held = false → Answers (.creationDone p) s fun t =>
       t.part p = { x with st := .live, stopWaits := false } ∧ t.odNum 0x6002 (p + 1) = 2 ∧ t.mem = s.mem ∧ t.cores = s.cores ∧
       ∀ q, q ≠ p.val → t.part q = s.part q) ∧
     (∀ late, x.st = .draining → s.inFlight p = 0 → Answers (.drainEnd p late) s fun t =>
       t = { s with parts := t.parts, od := t.od } ∧ t.part p = { x with st := .scrubbing } ∧ t.odNum 0x6002 (p + 1) = 4 ∧
       ∀ q, q ≠ p.val → t.part q = s.part q) ∧
     (x.st = .scrubbing → x.recreate = false → s.faults.resets = [] → Answers (.scrubDone p []) s fun t =>
       (t.part p).st = .absent ∧ (t.part p).downs = x.downs + 1 ∧ t.odNum 0x6002 (p + 1) = 0 ∧
       (t.odBlob 0x6020 (p + 1)).length = 64 ∧
       (∀ a, a < 0x0C0_0000_0000 → t.rd a = if x.hasHbm a then 0 else s.rd a) ∧
       ∀ n o, n < 288 → x.hasCluster (clusterOf n) = true → o < 0x30_0000 → t.rd (spadBase n + o) = 0) ∧
     (∀ (n : Fin 288) (k : Fin 32), x.st = .scrubbing → x.recreate = false → s.faults.resets = [] → x.hasCluster (clusterOf n) = true →
       Answers (.scrubDone p [(n, k)]) s fun t =>
         (t.part p).st = .absent ∧ ((t.core n).bankOf k).failed = true ∧ ((t.core n).bankOf k).isLit = false ∧
         ∀ m j, m < 288 → j < 32 → (m ≠ n.val ∨ j ≠ k.val) → ((t.core m).bankOf j).failed = ((s.core m).bankOf j).failed))

/-- SPDM: the responder of a function that the module has answers in the order version, capabilities, algorithms; once negotiated it
gives digests, the certificate chain with its leaf, and under the leaf's signature a challenge, measurements and the shares of
secured sessions, at most 4; once the key store has lost its private halves it answers a challenge with an error (R353, R354, R367).
What the manual leaves to the standard is the model's choice (log entry 71). -/
def Obligations.Attestation : Prop :=
  ∀ (fn : Fin 17) (s : State),
    let x := s.spdm fn
    let chain := s.odBlob 0x6402 0 ++ Config.leafCert
    let sig := fun (m : List Byte) => padTo 96 (Config.ecdsaSign Config.leafKey (sha384 m))
    let same := fun (t : State) => t.sec.ide = s.sec.ide ∧ t.od = s.od
    let plain := fun (c : Instr) (r : Rsp) (b : List Byte) =>
      Answers c s fun t => s.Replied t fn r b ∧ t.spdm fn = x ∧ same t
    s.hasFn fn = true →
    (Answers (.getVersion fn) s fun t =>
      s.Replied t fn .version (leBytes 1 2 ++ leBytes 1 0x12 ++ leBytes 1 0x13) ∧ same t ∧ t.spdm fn = { x with stage := 1 }) ∧
    (∀ ver : BitVec 8, 1 ≤ x.stage → ver = 0x12 ∨ ver = 0x13 → Answers (.getCapabilities fn ver) s fun t =>
      s.Replied t fn .capabilities (leBytes 2 4096) ∧ same t ∧ t.spdm fn = { x with stage := 2, ver := ver.toNat }) ∧
    (2 ≤ x.stage → Answers (.negotiateAlgorithms fn ⟨true, true, true, true, true⟩) s fun t =>
      s.Replied t fn .algorithms [] ∧ same t ∧ t.spdm fn = { x with stage := 3 }) ∧
    (x.stage = 3 →
      plain (.getDigests fn) .digests (sha384 chain) ∧
      (∀ off len : BitVec 16, off.toNat ≤ chain.length →
        let b := slice chain off.toNat (min len.toNat 4096)
        plain (.getCertificate fn 0 off len) .certificate
          (leBytes 2 b.length ++ leBytes 2 (chain.length - off.toNat - b.length) ++ b)) ∧
      (∀ nonce : BitVec 256, s.sec.onyx.identity = true → Answers (.challenge fn 0 nonce) s fun t => t.spdm fn = x ∧ same t ∧ ∃ r,
        let b := sha384 chain ++ leBytes 32 r
        s.Replied t fn .challengeAuth (b ++ sig (leBytes 32 nonce.toNat ++ b))) ∧
      (∀ nonce : BitVec 256, s.sec.onyx.identity = false → Answers (.challenge fn 0 nonce) s fun t =>
        ∃ b, s.Replied t fn .error b ∧ t.spdm fn = x ∧ same t) ∧
      (∀ (k : BitVec 8) (nonce : BitVec 256), s.sec.onyx.identity = true → 1 ≤ k.toNat → k.toNat ≤ 6 →
        let b := leBytes 1 k.toNat ++ s.block k.toNat
        plain (.getMeasurements fn k nonce) .measurements (b ++ sig (leBytes 32 nonce.toNat ++ b))) ∧
      (∀ half : BitVec 16, s.sec.onyx.identity = true → x.sess.length < 4 → Answers (.keyExchange fn 0 half) s fun t => same t ∧ ∃ r k, r < 4 ∧
        (∀ y ∈ x.sess, y.id / 2 ^ 16 ≠ r) ∧
        (let b := leBytes 2 r ++ padTo 96 ((Config.p384Public k).drop 1)
         s.Replied t fn .keyExchangeRsp (b ++ sig (leBytes 2 half.toNat ++ b))) ∧
        t.spdm fn = { x with sess := x.sess ++ [⟨r * 2 ^ 16 + half.toNat, false, k⟩] })) ∧
    (∀ (id : BitVec 32) (y : SpdmSess), x.sess.find? (fun y => y.id == id.toNat) = some y → y.open_ = false →
      Answers (.finish fn id true) s fun t => s.Replied t fn .finishRsp [] ∧ same t ∧
        (t.spdm fn).sess.find? (fun y => y.id == id.toNat) = some { y with open_ := true }) ∧
    (∀ id : BitVec 32, s.secured fn id.toNat = true →
      plain (.heartbeat fn id) .heartbeatAck [] ∧
      (Answers (.keyUpdate fn id) s fun t => s.Replied t fn .keyUpdateAck [] ∧ same t ∧
        ∀ y ∈ x.sess, y.id ≠ id.toNat → y ∈ (t.spdm fn).sess) ∧
      (Answers (.endSession fn id) s fun t => s.Replied t fn .endSessionAck [] ∧ same t ∧
        ∀ y, y ∈ (t.spdm fn).sess ↔ y ∈ x.sess ∧ y.id ≠ id.toNat))

/-- IDE and TDISP, in a secured session: a key is given out, programmed only with the same value, made active and destroyed; the TDI
of a secure partition is locked with a start nonce when it is Live and its stream secure, runs when the nonce is given back,
reports, and is stopped with a teardown; a broken stream puts a locked or running TDI in ERROR (R355 to R357, R368). That stream k
belongs to function k, and what the manual leaves to the standards, are the model's choices (log entries 29, 71). -/
def Obligations.StreamsAndInterfaces : Prop :=
  ∀ (id : BitVec 32) (s : State),
    (∀ (k : Fin 17) (dir : Bool) (sub : Fin 3) (key : BitVec 256),
      let i := ideSub dir sub
      let x := s.ide k
      s.secured 0 id.toNat = true →
      (∀ v, tfind x.key i = some v → Answers (.ideKeyGet id k dir sub) s fun t =>
        s.Replied t 0 .vendorDefined (leBytes 32 v) ∧ t.sec = s.sec) ∧
      (tfind x.key i = some key.toNat → Answers (.keyProg id k dir sub key) s fun t =>
        s.Replied t 0 .kpAck (leBytes 1 0) ∧ t.ide k = { x with prog := tset false x.prog i true }) ∧
      (tfind x.key i ≠ some key.toNat → Answers (.keyProg id k dir sub key) s fun t =>
        s.Replied t 0 .kpAck (leBytes 1 1) ∧ t.sec = s.sec) ∧
      (tget false x.prog i = true → Answers (.kSetGo id k dir sub) s fun t =>
        s.Replied t 0 .kGoStopAck [] ∧ t.ide k = { x with go := tset false x.go i true }) ∧
      (Answers (.kSetStop id k dir sub) s fun t => s.Replied t 0 .kGoStopAck [] ∧
        t.ide k = ⟨tdel x.key i, tdel x.prog i, tdel x.go i⟩)) ∧
    (∀ p : Fin 16,
      let tdi := s.odNum 0x6031 (p + 1)
      s.hasFn (p + 1) = true → (s.part p).secure = true → (s.part p).st ≠ .absent → s.secured (p + 1) id.toNat = true →
      (tdi = 0 → (s.part p).st = .live → s.ideSecure (p + 1) = true → Answers (.lockInterfaceRequest p id) s fun t =>
        t.odNum 0x6031 (p + 1) = 1 ∧ ∃ n, tfind t.sec.nonce p = some n ∧ s.Replied t (p + 1) .lockResponse (leBytes 32 n)) ∧
      (∀ n : BitVec 256, tdi = 1 → tfind s.sec.nonce p = some n.toNat → Answers (.startInterfaceRequest p id n) s fun t =>
        t.odNum 0x6031 (p + 1) = 2 ∧ tfind t.sec.nonce p = none ∧ s.Replied t (p + 1) .startResponse []) ∧
      (∀ n : BitVec 256, tdi = 1 → tfind s.sec.nonce p ≠ some n.toNat → Answers (.startInterfaceRequest p id n) s fun t =>
        t.sec = s.sec ∧ t.od = s.od ∧ s.Replied t (p + 1) .tdispError (leBytes 1 4)) ∧
      (tdi ≠ 0 → (s.part p).st = .live → Answers (.stopInterfaceRequest p id) s fun t =>
        t.odNum 0x6031 (p + 1) = 0 ∧ (t.part p).st = .draining ∧ (t.part p).recreate = true) ∧
      (Answers (.getDeviceInterfaceReport p id) s fun t => t.sec = s.sec ∧ t.od = s.od ∧ s.Replied t (p + 1) .interfaceReport
        ((([0, 2, 4] : List Nat).zip [0x80_0000, 0x10_0000_0000, 0x10_0000_0000]).flatMap (fun b => leBytes 8 (Config.barBase (p + 1) b.1) ++ leBytes 8 b.2) ++ s.block7 p)) ∧
      (∀ (fn : Fin 17) (v : BitVec 32), fn.val = p + 1 → s.serving p = p + 1 → tdi = 1 ∨ tdi = 2 →
        Answers (.setPolicy fn id v) s fun t => t.sec = s.sec ∧ t.odNum 0x6030 (p + 1) = v.toNat % 2 ∧
          s.Replied t (p + 1) .vendorDefined [])) ∧
    (∀ (p : Fin 16) (fn : Fin 17), fn.val = p + 1 → s.odNum 0x6031 (p + 1) = 1 ∨ s.odNum 0x6031 (p + 1) = 2 →
      Answers (.ideIntegrityFailure fn) s fun t => t.odNum 0x6031 (p + 1) = 3 ∧ t.ideSecure fn = false ∧ t.mem = s.mem)

/-- Onyx: a job secret's slot shows root when it has been created and installed with what a grant unwraps to, which is what its root
wrapped wherever both ends of the agreement hold the same shared secret; an unseal ends with the code that its checks give, and
writes memory only where it succeeds or a segment fails, and only its destination; no flow key of an earlier secret is kept; a
tamper trigger destroys every key and sends the module to Red (R358, R359, R363, R367). -/
def Obligations.OnyxAndTamper : Prop :=
  ∀ s : State,
    (∀ sel i, s.sec.onyx.job = some (.create sel) → s.secretSlot sel = some i → Answers (.onyxOperationDone false) s fun t =>
      t.odNum 0x6416 (i + 1) = sel * 256 + 2 ∧ t.sec.onyx.job = none ∧ (tfind t.sec.onyx.secret i).isSome = true ∧
      (∀ k ∈ t.fabric.keys, k.sel ≠ sel) ∧ t.mem = s.mem) ∧
    (∀ b i, s.sec.onyx.job = some (.install b) → s.slotIn (fieldAt b 1 1) 1 = some i →
      let k := openGrant b (tget 0 s.sec.onyx.eph i)
      Answers (.onyxOperationDone false) s fun t =>
        t.odNum 0x6416 (i + 1) = fieldAt b 1 1 * 256 + 3 ∧ tfind t.sec.onyx.secret i = some k ∧
        tfind t.sec.onyx.eph i = none ∧ t.sec.onyx.job = none ∧ (∀ k ∈ t.fabric.keys, k.sel ≠ fieldAt b 1 1) ∧ t.mem = s.mem) ∧
    (∀ (serial secret e m : Nat) (offer : List Byte), serial < 2 ^ 64 → secret < 2 ^ 384 → 1291 ≤ offer.length →
      let x := agreeSend e (slice offer 10 97) (slice offer 107 1184)
      agreeReceive m (x.2.take 97) (x.2.drop 97) = x.1 → openGrant (makeGrant serial offer secret e) m = secret) ∧
    (∀ u, s.sec.onyx.unsealing = some u → (s.unsealAcc u).waits = false → Answers (.onyxOperationDone true) s fun t =>
      let r := s.unsealRun u
      t.sec.onyx.unsealing = none ∧ t.odNum 0x6421 (u.part + 1) = r.1 * 2 ^ 56 + r.2.1 ∧ t.mem = r.2.2.mem ∧
      (s.inService = false → r.1 = 7) ∧ (r.1 ≠ 2 → r.1 ≠ 6 → t.mem = s.mem) ∧
      ∀ a, a < u.dst ∨ u.dst + u.len ≤ a → t.rd a = s.rd a) ∧
    (∀ cause : Fin 4, s.life.svc ≠ .red → s.life.svc ≠ .black → Answers (.tamper cause) s fun t =>
      t.life.svc = .red ∧ t.sec.onyx.secret = [] ∧ t.sec.onyx.eph = [] ∧ t.sec.onyx.hbmKey = [] ∧ t.sec.onyx.unsealing = none ∧
      t.sec.onyx.identity = false ∧ t.sec.ide = [] ∧ t.fabric.keys = [] ∧ bit (cause.val + 1) (t.odNum 0x6441 0) = true ∧ t.odNum 0x7042 0 = 0x0E)

/-! ### Faults, resets, power (R370 to R473) -/

/-- Device faults: a progress watchdog resets its core, and starts the search for the guilty context when OD 0x7023 allows it; a
clock loop or a control store resets its cluster, or the module. A fault that escalates sends the module to Red instead. A stall is
recorded only (R371, R373, R374, R384, R390). -/
def Obligations.DeviceFaults : Prop :=
  ∀ s : State,
    (∀ n : Fin 288, s.engineWork n = true → (∀ r ∈ s.faults.replays, r.core ≠ n) → s.odPending 0x7020 0 = none →
      s.odPending 0x7023 0 = none →
      (s.Calm 1 n → Answers (.progressWatchdogFire n) s fun t => s.ResetMade t 1 1 n ∧ t.CoreReset n ∧
        (⟨false, n⟩ : Fence) ∈ t.faults.fences ∧ (∀ m, m ≠ n.val → t.core m = s.core m) ∧
        t.faults.replays = s.faults.replays ++ (if s.odNum 0x7023 0 ≠ 0 ∧ s.suspects n ≠ [] then
          [⟨n, s.suspects n, none, [], t.now⟩] else [])) ∧
      (s.life.svc = .green → s.faults.resets = [] → s.odPending 0x7040 0 = none → s.odPending 0x7041 0 = none →
        s.escalates = true → Answers (.progressWatchdogFire n) s fun t => t.life.svc = .red ∧ t.odNum 0x7042 0 = 1)) ∧
    (∀ (i : Fin 372) (c : Fin 24), i.val < 312 ∧ c.val = i.val / 13 ∨ i.val = 312 + c.val → s.Calm 2 c →
      Answers (.pllLossOfLock i) s fun t => s.ResetMade t 4 2 c ∧ ∀ n, clusterOf n = c.val → t.CoreReset n) ∧
    (∀ i : Fin 372, 336 ≤ i.val → s.Calm 4 0 → Answers (.pllLossOfLock i) s fun t =>
      t.life.svc = .grey ∧ t.faults.resets.map (fun r => (r.scope, r.fault)) = [(4, true)] ∧ ∀ n, t.CoreReset n) ∧
    (∀ c : Fin 24, s.Calm 2 c → Answers (.controlStateError (some c)) s fun t => s.ResetMade t 5 2 c ∧
      ∀ n, clusterOf n = c.val → t.CoreReset n) ∧
    (∀ (q : Fin 1024) (i : Nat) (rest : List Nat),
      (s.disp.flights.filter (fun f => f.ref.queue == q.val && !f.silent)).map (·.slot) ++
        (s.queue q).fetched.map (·.slot) = i :: rest →
      ((s.queue q).stall = 0 → Answers (.stallTimerExpiry q) s fun t => t = s) ∧
      ((s.queue q).stall ≠ 0 → Answers (.stallTimerExpiry q) s fun t =>
        t.odNum 0x7011 2 = (s.odNum 0x7011 2 + 1) % 2 ^ 64 ∧ t.queue q = { s.queue q with stall := s.odLive 0x7021 0 } ∧
        (∀ j, j ≠ q.val → t.queue j = s.queue j) ∧ t.disp = s.disp ∧ t.cores = s.cores ∧
        t.mem = s.mem ∧ t.faults = s.faults ∧ t.life = s.life))

/-- Accepted reset requests: each native and legacy scope is counted and its reset is under way at its target; a native one leaves
its cores as their reset leaves them, and a legacy one fences what it will reset and drains first; a whole-module request resets the
module (R376, R378, R383, R389, R395). That memory reads 0 after a whole-module reset is the model's choice (log entry 76). A reset
ends at its release, and that of a cluster opens its crossings again with their phases in agreement; one that overruns is taken over
by the next larger scope, and a whole-module one leads to Red; a fence ends when nothing of it is outstanding, and a legacy reset
then resets what it fenced; a crossing whose phases disagree seals, with its flag and its count (R56 to R59, R376, R383, R389,
R391). That a joint reset makes the phases agree as it does is the model's choice (log entry 73). The search for the guilty context:
a suspect is relaunched in replay mode on its core; a replay that ends leaves the core reset and its result kept while suspects are
left; the only one that hung makes its Enabled or Stopped queue Guilty (R215, R385 to R388). -/
def Obligations.Resets : Prop :=
  (∀ (f : Frame) (g : BitVec 28) (s : State),
     let tg := g.toNat % 512
     let begun := fun (k : Nat) (c : Instr) (P : State → Prop) => s.Takes c → Answers c s fun t =>
       (∃ r ∈ t.faults.resets, r.scope = k ∧ r.target = tg ∧ r.fault = false ∧ r.held = false) ∧
       t.odNum 0x7004 (nativeScope k) = (s.odNum 0x7004 (nativeScope k) + 1) % 2 ^ 64 ∧ P t
     let module := fun (c : Instr) => s.Takes c → Answers c s fun t =>
       t.life.svc = .grey ∧ t.mem = [] ∧ (∀ n, t.CoreReset n) ∧ (∀ n, (t.link n).st = .disabled) ∧
       t.faults.resets.map (fun r => (r.scope, r.fault, r.held)) = [(4, false, false)] ∧ t.hostMem = s.hostMem
     begun 1 (.resetCore f g) (fun t => t.CoreReset tg) ∧
     begun 2 (.resetCluster f g) (fun t => ∀ n, clusterOf n = tg → t.CoreReset n) ∧
     begun 3 (.resetComputePart f g) (fun t => ∀ n, n < 288 → t.CoreReset n) ∧
     begun 5 (.legacyCore f g) (fun t => (⟨false, tg⟩ : Fence) ∈ t.faults.fences) ∧
     begun 6 (.legacyCluster f g) (fun t => (⟨true, tg⟩ : Fence) ∈ t.faults.fences) ∧
     begun 7 (.legacyPartition f g) (fun t => ∀ c, c < 24 → (s.part tg).hasCluster c = true → (⟨true, c⟩ : Fence) ∈ t.faults.fences) ∧
     module (.resetWholeModule f g) ∧ module (.legacyWholeModule f g)) ∧
  (∀ s : State,
     (∀ (k : Fin 9) (g : Fin 512) (bad : BitVec 16) (r : ResetRun),
       s.faults.resets.find? (fun r => r.scope == k.val && r.target == g.val) = some r → s.releaseWaits r = false →
       Answers (.resetRelease k g bad) s fun t => t.faults.resets = s.faults.resets.filter (fun x => x != r) ∧
         (k.val = 2 → g.val < 24 → ∀ b ∈ sealBits, t.phaseOf (epIn g b) = t.phaseOf (epOut g b) ∧
           bit b (t.odNum 0x7810 (g + 1)) = false)) ∧
     (∀ (k : Fin 5) (g : Fin 512) (r : ResetRun), 1 ≤ k.val → k.val ≤ 3 →
       s.faults.resets.find? (fun r => r.scope == k.val && r.target == g.val && !r.held) = some r →
       let l := largerScope k g
       l.1 ≤ 3 → s.Calm l.1 l.2 → Answers (.resetOverrun k g) s fun t => s.ResetMade t 3 l.1 l.2) ∧
     (∀ (g : Fin 512) (r : ResetRun),
       s.faults.resets.find? (fun r => r.scope == 4 && r.target == g.val && !r.held) = some r → s.life.svc = .grey →
       Answers (.resetOverrun 4 g) s fun t => t.life.svc = .red ∧ t.odNum 0x7042 0 = 3) ∧
     (∀ (c : Bool) (n : Fin 288) (late : Bool), (⟨c, n⟩ : Fence) ∈ s.faults.fences → n.val ∉ s.faults.tagWait →
       s.fenceBusy ⟨c, n⟩ = false ∨ late = true → Answers (.fenceEnd c n late) s fun t =>
         t.faults.fences = s.faults.fences.filter (fun f => f != ⟨c, n⟩) ∧
         ((c = false ∧ ∃ r ∈ s.faults.resets, r.scope = 5 ∧ r.target = n.val) → t.CoreReset n) ∧
         ((c = true ∧ ∃ r ∈ s.faults.resets, r.scope = 6 ∧ r.target = n.val) → ∀ m, m < 288 → clusterOf m = n.val → t.CoreReset m)) ∧
     (∀ (c : Fin 24) (b : Fin 20), b.val ∈ sealBits → s.phaseOf (epIn c b) ≠ s.phaseOf (epOut c b) → s.sealed c b = false →
       Answers (.crossingSeal c b) s fun t => t.sealed c b = true ∧ (∀ k, k ≠ b.val → t.sealed c k = s.sealed c k) ∧
         t.odNum 0x7811 0 = min (s.odNum 0x7811 0 + 1) (2 ^ 32 - 1) ∧ t.cores = s.cores ∧ t.mem = s.mem)) ∧
  (∀ (n : Fin 288) (s : State) (r : Replay) (x : Suspect),
     s.replayOf n = some r →
     (∀ rest, r.cur = none → r.todo = x :: rest → s.coreBlocked n = false → (∀ y ∈ s.faults.replays, y.cur = none) →
       Answers (.replayStart n) s fun t => ((t.core n).slot x.slot).st = .loading ∧
         ((t.core n).slot x.slot).launch = { x.launch with replay := true } ∧
         (∀ k, k ≠ x.slot → ((t.core n).slot k).st = .empty) ∧
         t.replayOf n = some { r with todo := rest, cur := some x, start := t.now }) ∧
     (r.cur = some x → r.todo ≠ [] → Answers (.replayEnd n .limit) s fun t => t.CoreReset n ∧
       t.replayOf n = some { r with cur := none, past := r.past ++ [{ x with hung := false }] }) ∧
     (r.cur = some x → r.todo = [] → r.past = [] → s.engineWork n = true →
       (s.queue x.launch.desc.queue).code ∈ [.enabled, .stopped] → Answers (.replayEnd n .watchdog) s fun t =>
       t.CoreReset n ∧ (∀ y ∈ t.faults.replays, y.core ≠ n) ∧ (t.queue x.launch.desc.queue).code = .guilty ∧
       t.odNum 0x7011 0x11 = (s.odNum 0x7011 0x11 + 1) % 2 ^ 64))

/-- Insertion and loss of power: the pins mate in order, the input is taken with SLOT_ID, and the switch closes when its conditions
hold; the rails come up with PWR_GOOD. An input below 50 V opens the switch, and the end of the hold-up loses memory and every
volatile state; an input beyond 0 to 72 V is outside what the spec describes (R396 to R398, R451 to R454). That lost memory reads 0
is the model's choice (log entry 76). Bring-up, MOD_RESET# and the exit from Grey: each step sets its bit of OD 0x2003; a held
whole-module reset goes on when the pin is released; a complete bring-up leaves Grey for White, Green or Amber (R400 to R405, R455).
That lost memory reads 0 is the model's choice (log entry 76). Requested removal: it sets AC.REMOVAL and tears every Live partition
down; with none left it awaits its release, which a timeout gives; then, once nothing is queued for a link or 1 ms has passed, every
link is Disabled, the compute part is held in reset, and the module is Black (R408 to R410, R456). -/
def Obligations.InsertionToRemoval : Prop :=
  (∀ (mv : Fin 72001) (straps : BitVec 6) (s : State),
     let life := fun (c : Instr) (f : Life → Life) => Answers c s fun t =>
       t.life = f s.life ∧ t.mem = s.mem ∧ t.cores = s.cores ∧ t.links = s.links
     (s.life.present = false → Answers (.prechargeMate mv) s fun t => t.life.precharge = true ∧ t.life.present = false ∧
       t.life.bulkReady = inputGood mv ∧ t.life.locked = s.life.locked ∧ t.odNum 0x2005 0 = 0 ∧ t.life.alert = false) ∧
     (s.life.precharge = true → life (.prsntMate true) (fun l => { l with present := true })) ∧
     (Answers (.prsntMate false) s fun t => t.life.present = false ∧ t.life.blades = false ∧ t.life.mainSwitch = false) ∧
     (s.life.present = true → s.life.blades = false → 50_000 ≤ mv.val → Answers (.mainBladesMate mv straps) s fun t =>
       t.life.blades = true ∧ t.life.input = mv ∧ t.life.slotId = straps.toNat ∧ t.odNum 0x2004 0 = straps.toNat) ∧
     (s.life.present = true → s.life.precharge = true → s.life.blades = true → s.life.bulkReady = true →
       inputGood s.life.input = true → s.life.locked = false → s.life.holdup = false → s.life.mainSwitch = false →
       s.life.powerGood = false → s.life.readyAt ≤ s.now →
       life .mainSwitchClose (fun l => { l with mainSwitch := true, modReset := l.resetLow })) ∧
     (s.life.mainSwitch = true → s.life.powerGood = false → Answers .pwrGood s fun t =>
       t.life = { s.life with powerGood := true } ∧ bit 0 (t.odNum 0x2003 0) = true) ∧
     (∀ on, 64_000 < mv.val → Answers (.inputOutOfRange mv on) s fun t => t.life.mainSwitch = false ∧ t.life.input = mv ∧
       (on = true → t.life.absentAt = s.life.absentAt) ∧ t.mem = s.mem) ∧
     (∀ on, mv.val < 50_000 → Answers (.inputOutOfRange mv on) s fun t => t.life.mainSwitch = false ∧ t.life.input = mv ∧
       t.life.bulkReady = false ∧ t.mem = s.mem) ∧
     (∀ (v : Int) (on : Bool), v < 0 ∨ 72_000 < v → exec (.inputOutOfRange v on) s = .fault .inputBeyondAbsolute) ∧
     (s.life.present = true → s.life.blades = true → s.life.mainSwitch = false → s.life.absentAt = none →
       inputGood s.life.input = false → 50_000 ≤ mv.val → Answers (.inputReturn mv straps) s fun t =>
         t.life.input = mv ∧ t.life.slotId = s.life.slotId ∧ t.life.bulkReady = s.life.precharge ∧ t.mem = s.mem) ∧
     (s.life.present = true → s.life.blades = true → s.life.mainSwitch = false → s.life.absentAt ≠ none → 50_000 ≤ mv.val →
       Answers (.inputReturn mv straps) s fun t => t.life.input = mv ∧ t.life.slotId = straps.toNat ∧
         t.life.absentAt = none ∧ t.mem = s.mem) ∧
     (s.life.holdup = true → Answers .holdupEnd s fun t => t.life.powerGood = false ∧ t.life.svc = .grey ∧ t.mem = [] ∧
       t.cores = [] ∧ t.hostMem = s.hostMem ∧ t.pending = s.pending)) ∧
  (∀ s : State,
     (s.life.powerGood = true → s.life.modReset = false → bit 2 (s.odNum 0x2003 0) = false → s.life.svc = .grey →
       s.life.removal = 0 → Answers (.onyxRegenerationDone true) s fun t =>
         t.sec.onyx.identity = true ∧ bit 2 (t.odNum 0x2003 0) = true ∧ t.odBlob 0x6402 0 = Config.certChain) ∧
     (∀ k : Fin 16, s.bringingUp = true → bit k s.life.memTrained = false → Answers (.memoryTrainingDone k 0) s fun t =>
       bit k t.life.memTrained = true ∧ (t.life.memTrained = 0xFFFF → bit 3 (t.odNum 0x2003 0) = true) ∧ t.mem = s.mem) ∧
     (∀ k : Fin 16, s.bringingUp = true → bit k s.life.memTrained = true → bit k s.life.memTested = false →
       Answers (.hbmTestDone k []) s fun t => bit k t.life.memTested = true ∧ t.life.memTrained = s.life.memTrained ∧
         (t.life.memTested = 0xFFFF → bit 4 (t.odNum 0x2003 0) = true)) ∧
     (s.life.svc = .grey → s.life.removal = 0 → s.odNum 0x2003 0 % 1024 = 1023 → Answers .greyExit s fun t =>
       (t.life.svc = .white ↔ s.provisioned = false) ∧ (t.life.svc = .white ∨ t.life.svc = .green ∨ t.life.svc = .amber) ∧
       t.odNum 0x2000 0 = t.life.svc.code ∧ bit 0 (t.odNum 0x2005 0) = true ∧ t.mem = s.mem) ∧
     (s.life.modReset = false → s.poweringOff = false → s.life.powerGood = true → s.activeRuns = true →
       Answers .modReset s fun t => t.life.modReset = true ∧ t.life.svc = .grey ∧ t.mem = [] ∧ (∀ n, t.CoreReset n) ∧
         t.faults.resets.map (fun r => (r.scope, r.held)) = [(4, true)]) ∧
     (s.life.modReset = true → Answers .modResetRelease s fun t => t.life.modReset = false ∧
       ∀ r ∈ t.faults.resets, r.scope = 4 → r.held = false)) ∧
  (∀ s : State,
     (s.life.modReset = false → s.life.powerGood = true → s.activeRuns = true → s.life.svc ≠ .black → s.life.removal = 0 →
       Answers .removeReq s fun t => t.life.removal = 1 ∧ t.odNum 0x2011 0 = 1 ∧ bit 9 (t.odNum 0x2002 0) = true ∧
         ∀ p, p < 16 → (s.part p).st = .live → (t.part p).st = .draining) ∧
     (s.life.removal = 1 → (∀ p, p < 16 → (s.part p).st = .absent) → Answers .removalTeardownsDone s fun t =>
       t.life.removal = 2 ∧ t.life.released = (if s.unassigned then some s.now else none) ∧ t.parts = s.parts ∧ t.links = s.links) ∧
     (s.life.removal = 2 → s.life.released = none → Answers .removalTimeout s fun t =>
       t.life.removal = 2 ∧ t.life.released = some s.now ∧ t.odNum 0x2011 0 = 130 ∧ t.links = s.links) ∧
     (∀ r, s.life.removal = 2 → s.life.released = some r → (∃ n, n < 12 ∧ (s.link n).txq ≠ []) → s.now < r + 1_000_000 →
       Answers .removalLinksDown s fun t => t = s) ∧
     (∀ r, s.life.removal = 2 → s.life.released = some r → ((∀ n, n < 12 → (s.link n).txq = []) ∨ r + 1_000_000 ≤ s.now) →
       s.life.svc ≠ .black → Answers .removalLinksDown s fun t =>
       t.life.svc = .black ∧ t.life.removal = 3 ∧ (∀ n, n < 12 → (t.link n).st = .disabled) ∧
       (∀ n, n < 288 → t.CoreReset n) ∧ t.power.gate = 16 ∧ ∃ r ∈ t.faults.resets, r.scope = 3 ∧ r.held = true))

/-- Power: a meter sample is reported with its sliding averages, sets the peak limiter above 2,450 W, which raises the duty by a
sixteenth (the model's choice, log entry 170), and gates by the grant when its average exceeds the effective limit; a stretched
cycle is counted and the 16th within 1 ms widens the guard band by one level of 3; 10 s without one narrow it; the ceiling is the
lowest of its four; the metered energy is shared out whole, and whole millijoules are added to their partition's element and to the
module's (R416 to R424, R431, R432). Pace: without a group a tick runs the cores at the requested frequency under the ceiling; in
one, a REPORT is kept for its child, a SET for its tick, the leader raises F when its hold has passed, and a refresh reports the
lowest value (R425 to R428). -/
def Obligations.Power : Prop :=
  (∀ s : State,
     (∀ mv ma idle run, s.odPending 0x3000 0 = none →
       let l := s.power.samples.filter (fun e => decide (s.now < e.1 + 1_000_000)) ++ [(s.now, mv * ma)]
       let average := fun (span : Nat) =>
         let x := (l.filter (fun e => decide (s.now < e.1 + span))).map (·.2)
         x.sum / (x.length * 1_000_000)
       let g := gateFor idle run s.wattLimit
       Answers (.powerMeterSample mv ma idle run) s fun t =>
         t.odNum 0x3004 0 = min mv 65535 ∧ t.odNum 0x3001 0 = min (average 1_000_000) 65535 ∧
         t.power.limiting = decide (2450 < average 10_000) ∧ t.power.samples = l ∧ t.mem = s.mem ∧ t.cores = s.cores ∧
         (s.life.offRuns = false → s.power.dies = 0 → s.life.svc ≠ .black →
           (average 10_000 ≤ 2450 → s.wattLimit < average 1_000_000 → t.power.gate = g) ∧
           (2450 < average 10_000 → s.odNum 0x3003 0 = s.wattLimit * 2 ^ 16 + (if s.safetyFloor then 2 else 1) →
             t.power.gate = max g (min 15 (s.power.gate + 1))))) ∧
     (∀ i : Fin 372, let recent := s.power.stretches.filter (fun x => decide (s.now ≤ x + 1_000_000))
       Answers (.droopStretch i) s fun t => t = { s with od := t.od, power := t.power } ∧
         t.odNum 0x3031 0 = (s.odNum 0x3031 0 + 1) % 2 ^ 64 ∧ t.power.lastStretch = s.now ∧
         t.odNum 0x3032 0 = (if recent.length < 15 then s.odNum 0x3032 0 else min 3 (s.odNum 0x3032 0 + 1))) ∧
     (s.power.lastStretch + 10_000_000_000 ≤ s.now → Answers .guardBandNarrow s fun t =>
       t = { s with od := t.od, power := { s.power with lastStretch := s.now } } ∧
       t.odNum 0x3032 0 = s.odNum 0x3032 0 - 1) ∧
     (Answers .ceilingRecompute s fun t => t.power.ceil = s.ceiling ∧ t.clk.coreMHz = s.clk.coreMHz ∧ t.mem = s.mem ∧
       t.cores = s.cores) ∧
     (∀ m : EnergyMeter,
       let l := s.energyShares m
       let v := fun (i : Nat) => tget 0 s.power.micro i + getAt 0 l i
       l.length = 17 ∧ l.sum = m.coreE + m.stackE + m.linkE + m.hostE + m.restE ∧
       Answers (.energyAttribution m) s fun t => t = { s with od := t.od, power := { s.power with micro := t.power.micro } } ∧
         t.odNum 0x3041 0 = (s.odNum 0x3041 0 + ((List.range 17).map (fun i => v i / 1000)).sum) % 2 ^ 64 ∧
         ∀ i, i < 17 → t.odNum 0x3040 (i + 1) = (s.odNum 0x3040 (i + 1) + v i / 1000) % 2 ^ 64 ∧ tget 0 t.power.micro i = v i % 1000)) ∧
  (∀ s : State,
     (s.power.group = 0xFFFF → s.odNum 0x3010 0 = 0xFFFF → s.odPending 0x3010 0 = none → s.odPending 0x3011 0 = none →
       s.power.next = none → Answers .paceTick s fun t =>
         t.power.f = min (s.odNum 0x3011 0) s.power.ceil ∧ t.clk.coreMHz = min (s.odNum 0x3011 0) s.power.ceil) ∧
     (∀ (p : Pkt) (g i : Nat), s.paceGroup = some g → s.refusal p = none → s.paceBad p = false →
       (s.Arrives p (fun p => p.isPace && p.paceKind == 1) →
         (gdChildren (s.gd g)).findIdx? (fun r => refCoord r == p.src) = some i → Answers .paceReport s fun t =>
           tfind t.power.reports (reportKey (gdGen (s.gd g)) i) = some p.paceFreq ∧ t.Answered p 3 0 [] ∧ t.mem = s.mem ∧ t.cores = s.cores) ∧
       (s.Arrives p (fun p => p.isPace && p.paceKind != 1) →
         2 ^ 31 ≤ (s.fab / 1_000_000 + 2 ^ 32 - p.paceTick) % 2 ^ 32 → Answers .paceSet s fun t =>
           t.power.next = some (p.paceFreq, p.paceTick) ∧ t.power.f = s.power.f ∧ t.Answered p 3 0 [] ∧ t.mem = s.mem ∧
           t.cores = s.cores)) ∧
     (∀ g since, s.paceGroup = some g → s.leads = true → s.power.above = some since → s.targetF < s.leaderM →
       since + s.odNum 0x3014 0 * 1_000_000 ≤ s.now → Answers .raiseHoldExpiry s fun t =>
         t.power.next.map (·.1) = some s.leaderM ∧ t.power.above = none ∧ t.clk.coreMHz = s.clk.coreMHz) ∧
     (∀ g, s.paceGroup = some g → s.leads = false → Answers .reportRefresh s fun t =>
       t.power.sent = s.lowest ∧ t.clk.coreMHz = s.clk.coreMHz ∧ t.mem = s.mem))

/-- Temperatures: a sample is reported sensor by sensor and moves the thermal ceiling by one step of 25 MHz between 600 and 2,100
MHz, down while a zone that throttles is above its limit and up while every zone is 3 K below; a sensor that stays suspect fails;
low flow is told once; during a handover the evaluation waits; telemetry keeps the last 60 records; a manager's absence sets AC.MGR
(R423, R433 to R438, R445, R497, R531). Which zones a failed sensor counts in is the model's choice (log entry 93). Safety: a third
wet reading or a die at 120 C latches its cause and gates everything; a self-test, which passes where both references read within
5%, is counted, and a failed one is a sensor fault; during a handover the evaluation of a reading waits; the cause is stored once;
then the switch opens and stays open, and power is gone (R435, R439 to R443, R531). That lost memory reads 0 is the model's choice
(log entry 76). -/
def Obligations.Cooling : Prop :=
  (∀ s : State,
     (∀ l pr : List Int, s.life.powerGood = true → Answers (.thermalSample l pr) s fun t => t.mem = s.mem ∧ t.cores = s.cores ∧
       (∀ k, k < 196 → t.odNum 0x3400 (k + 1) = ofSigned 32 (getAt 0 l k)) ∧
       (s.life.begun = true → s.handing = true → t.thermal.held = s.thermal.held ++ [.temps l pr] ∧ t.power.thermCeil = s.power.thermCeil) ∧
       (s.life.begun = true → s.handing = false →
         let hot := (List.range 4).any (fun z => (t.zoneTemp z).any (fun x => decide (x > t.throttle z)))
         let cool := (List.range 5).all (fun z => !t.zoneHasFailed z && (t.zoneTemp z).all (fun x => decide (x + 3000 ≤ t.throttle z)))
         let c := s.power.thermCeil
         t.power.thermCeil = (if hot then max 600 (c - 25) else if cool then min 2100 (c + 25) else c))) ∧
     (∀ (k : Fin 196) (since : Nat), tfind s.thermal.suspectAt (k + 1) = some since → s.sensorSt (k + 1) = 1 →
       since + 2_000_000_000 ≤ s.now → 200 ≤ s.odNum 0x3411 0 → s.handing = false → Answers (.sensorFailed k) s fun t =>
         t.sensorSt (k + 1) = 2 ∧ (∀ j, j < 256 → j ≠ k + 1 → t.sensorSt j = s.sensorSt j) ∧ t.mem = s.mem) ∧
     (∀ since, s.thermal.lowSince = some since → s.thermal.lowTold = false → since + 5_000_000_000 ≤ s.now →
       Answers .lowFlow s fun t => t.thermal = { s.thermal with lowTold := true } ∧ t.mgmt.nextEvent = (s.mgmt.nextEvent + 1) % 2 ^ 32 ∧
         t.mem = s.mem) ∧
     (s.odPending 0x3461 0 = none → s.mgmt.absence ≠ none → s.odNum 0x3461 0 ≤ s.absenceSeconds →
       Answers .managerAbsenceExpiry s fun t => bit 12 (t.odNum 0x2002 0) = true ∧ t.mem = s.mem ∧ t.cores = s.cores) ∧
     (Answers .telemetrySample s fun t => t = { s with mgmt := t.mgmt } ∧ t.mgmt.telem.length = min 60 (s.mgmt.telem.length + 1) ∧
       t.mgmt.telem.getLast? = some ⟨s.fab, s.odNum 0x3001 0, s.odNum 0x3003 0,
         (List.range 5).map (fun z => (s.zoneTemp z).getD (s.throttle z))⟩)) ∧
  (∀ s : State,
     (∀ ohms, s.life.powerGood = true → ohms < 7000 → 2 ≤ s.thermal.wet → s.life.offRuns = false → s.life.mainSwitch = true →
       Answers (.leakMeasurement ohms) s fun t => t.odNum 0x3440 0 = ohms ∧ t.odNum 0x3441 0 = 2 ∧
         t.life.safety = 16 * 2 ^ 24 ∧ t.power.gate = 16 ∧ bit 2 (t.odNum 0x2005 0) = true ∧ t.mem = s.mem) ∧
     (∀ ohms, s.life.powerGood = true → 8500 ≤ ohms → ohms ≤ 11_500 → s.life.begun = true → s.thermal.tested = true →
       s.thermal.leakCause = 0 → Answers (.leakMeasurement ohms) s fun t => t.odNum 0x3440 0 = ohms ∧
         (s.handing = false → t.odNum 0x3441 0 = 1) ∧ (s.handing = true → t.thermal.held = s.thermal.held ++ [.leak ohms]) ∧
         t.thermal.wet = 0 ∧ t.life = s.life ∧ t.mem = s.mem) ∧
     (∀ low high, s.life.begun = true → s.handing = false →
       let pass := 9_500 ≤ low ∧ low ≤ 10_500 ∧ 950_000 ≤ high ∧ high ≤ 1_050_000
       Answers (.leakSelfTest low high) s fun t =>
       t.odNum 0x3442 (if pass then 1 else 2) = (s.odNum 0x3442 (if pass then 1 else 2) + 1) % 2 ^ 64 ∧
       bit 8 (t.odNum 0x2003 0) = true ∧
       (pass → t.thermal.tested = true) ∧
       (¬ pass → s.thermal.leakCause = 0 → t.thermal.leakCause = 4 ∧ t.odNum 0x3441 0 = 3)) ∧
     (∀ d : Fin 4, s.life.powerGood = true → s.life.offRuns = false → s.life.mainSwitch = true → Answers (.dieComparatorTrip d) s fun t =>
       t.life.safety = 17 * 2 ^ 24 ∧ t.power.gate = 16 ∧ bit d t.power.dies = true ∧ bit 2 (t.odNum 0x2005 0) = true ∧ t.mem = s.mem) ∧
     (s.poweringOff = true → s.life.safetyStored = false → s.activeRuns = true → s.handing = false →
       Answers .safetyCauseStore s fun t => t.odNum 0x3450 0 = s.life.safety ∧ t.life.safetyStored = true ∧
         t.odNum 0x3451 0 = min (s.odNum 0x3451 0 + 1) (2 ^ 32 - 1) ∧ t.mem = s.mem) ∧
     (s.poweringOff = true → s.life.safetyStored = true → Answers .safetySwitchOpen s fun t =>
       t.life.mainSwitch = false ∧ t.life.locked = true ∧ t.life.powerGood = false ∧ t.mem = [] ∧ t.hostMem = s.hostMem))

/-! ### Management, firmware, trace and test access (R465 to R468, R474 to R555) -/

/-- Requests in a session: a READ gives the value that the door sees, with its pending flag, and an object that does not exist is
answered 6; KEEPALIVE is answered; CLOSE ends the session; a segmented read gives the length, then its segments; a segmented write
keeps each segment; SEG_ABORT ends the transfer; EVENT_ACK raises the acknowledged number. A ROM loader that serves the door knows
the objects 0x1000 to 0x1004 and 0xB000 to 0xB006 and answers 6 for every other (R482 to R491, R532). -/
def Obligations.SessionRequests : Prop :=
  ∀ (f : Frame) (s : State) (x : Session),
    let served := fun (c : Instr) (typ : Nat) (body : List Byte) (P : State → Prop) =>
      Answers c s fun t => s.Served t f x typ body ∧ P t
    let keep := fun (u : Option Xfer) (t : State) => ∃ y, t.session? x.id = some y ∧ y.xfer = u
    (∀ (i : BitVec 16) (k : BitVec 8) (bs : List Byte), s.romServes = true → s.NextIn f x →
      (i < 0x1000 ∨ (0x1004 < i ∧ i < 0xB000) ∨ 0xB006 < i) →
      served (.readObject f i k false) 4 (rsBody x.ver 6 false (i.toNat, k.toNat) []) (keep x.xfer) ∧
      served (.writeObject f i k false bs) 5 (rsBody x.ver 6 false (i.toNat, k.toNat) []) (keep x.xfer)) ∧
    (s.InSession f x →
    served (.keepalive f) 3 (rsBody x.ver 0 false (0, 0) []) (keep x.xfer) ∧
    (Answers (.closeSession f) s fun t => t.out = s.out ++ [response f x 2 (rsBody x.ver 0 false (0, 0) [])] ∧
      t.session? x.id = none ∧ t = { s with mgmt := t.mgmt, out := t.out }) ∧
    (∀ (i : BitVec 16) (k : BitVec 8),
      let r := s.readAny .m x.snapGroup i.toNat k.toNat false
      (r.1 = 0 → r.2.2.length ≤ 1024 →
        served (.readObject f i k false) 4 (rsBody x.ver 0 r.2.1 (i.toNat, k.toNat) r.2.2) (keep x.xfer)) ∧
      (odInfo i.toNat = none →
        served (.readObject f i k false) 4 (rsBody x.ver 6 false (i.toNat, k.toNat) []) (keep x.xfer)) ∧
      (x.xfer = none → r.1 = 0 → segAllowed i.toNat false r.2.2.length = true → r.2.2 ≠ [] → i ≠ 0xA002 →
        served (.segReadInit f i k false) 6 (rsBody x.ver 0 r.2.1 (i.toNat, k.toNat) (leBytes 4 r.2.2.length))
          (keep (some ⟨false, i.toNat, k.toNat, false, r.2.2.length, r.2.2, [], false, s.now⟩))) ∧
      (∀ n : BitVec 32, x.xfer = none → s.writeAdmit .m i.toNat k.toNat = 0 → segAllowed i.toNat false n.toNat = true →
        n ≠ 0 → served (.segWriteInit f i k false n) 8 (rsBody x.ver 0 false (i.toNat, k.toNat) [])
          (keep (some ⟨true, i.toNat, k.toNat, false, n.toNat, [], [], false, s.now⟩)))) ∧
    (∀ (k : BitVec 16) (u : Xfer), x.xfer = some u →
      (u.write = false → u.index ≠ 0xA002 → 1024 * k.toNat < u.total →
        served (.segReadData f k) 7 (rsBody x.ver 0 false (0, 0) (slice u.value (1024 * k.toNat) 1024)) (fun _ => True)) ∧
      (∀ bs, u.write = true → u.segs = [] → k = 0 → 1024 < u.total → bs.length = 1024 →
        served (.segWriteData f k bs) 9 (rsBody x.ver 0 false (0, 0) [])
          (keep (some { u with segs := [(0, bs)], at_ := s.now }))) ∧
      served (.segAbort f) 10 (rsBody x.ver 0 false (0, 0) []) (keep none)) ∧
    (∀ n : BitVec 32, bit 0 x.flags = false → n.toNat ≤ x.sent →
      served (.eventAck f n) 11 (rsBody x.ver 0 false (0, 0) []) (fun t => ∃ y, t.session? x.id = some y ∧
        y.acked = max n.toNat x.acked)))

/-- A WRITE in a session is answered with the status of R493 that the checks give; a value that is accepted waits as the last one
accepted while its class says so and stands at once otherwise, and a write that is not accepted leaves the object and the memory as
they were (R17, R18, R484, R485, R504). -/
def Obligations.ObjectWrites : Prop :=
  ∀ (f : Frame) (s : State) (x : Session) (bs : List Byte), s.InSession f x →
    (∀ (i : BitVec 16) (k : BitVec 8) (o : OdInfo) (n : Nat), bs.length ≤ 1484 → odInfo i.toNat = some o →
      s.odStatus .m i.toNat k.toNat bs = (0, .num n) → o.cls = .live ∨ o.cls = .staged →
      i.toNat ∉ [0x2120, 0x4001, 0x5840, 0x5841, 0x8002, 0x8801, 0x8802] →
      Answers (.writeObject f i k false bs) s fun t =>
        response f x 5 (rsBody x.ver 0 true (i.toNat, k.toNat) []) ∈ t.out ∧ t.odPending i.toNat k.toNat = some (.num n) ∧
        t.odGet i.toNat k.toNat = s.odGet i.toNat k.toNat ∧ t.mem = s.mem ∧ t.cores = s.cores) ∧
    (∀ (i : BitVec 16) (k : BitVec 8), bs.length ≤ 1484 → (s.odStatus .m i.toNat k.toNat bs).1 ≠ 0 →
      Answers (.writeObject f i k false bs) s fun t => t = { s with mgmt := t.mgmt, od := t.od, out := t.out } ∧
        response f x 5 (rsBody x.ver (s.odStatus .m i.toNat k.toNat bs).1 false (i.toNat, k.toNat) []) ∈ t.out ∧
        ∀ a b, b < 256 → a ≠ 0x1130 → t.odGet a b = s.odGet a b ∧ t.odPending a b = s.odPending a b) ∧
    (∀ c idx sub, objectOf c = some (f, idx, sub, bs) → bs.length ≤ 1024 → Answers c s fun t =>
      let st := (s.odStatus .m idx sub bs).1
      (∃ pend, response f x 5 (rsBody x.ver st pend (idx, sub) []) ∈ t.out) ∧
      (st ≠ 0 → t = { s with mgmt := t.mgmt, od := t.od, out := t.out }))

/-- The port's own events: OPEN gives a session at the highest common version, which is 1 where a ROM loader serves; a DISCOVER on
the broadcast address is answered by an ANNOUNCE in its turn; a frame to another address than the station's and the broadcast
address changes nothing; a mailbox request that a handover holds is what its slot's bytes spell; an event is sent again after 500
ms; a session ends that is silent for its timeout, and a transfer that is idle for 5 s; beacons keep the transmit opportunity; the
mailbox's indices move forward by at most its slots (R475, R476, R480, R482, R489, R491, R496, R532). Which session number OPEN
gives is free (log entry 111). -/
def Obligations.PortEvents : Prop :=
  ∀ s : State,
    (∀ (f : Frame) (lo hi fl : BitVec 8) (resume : BitVec 32) (ver : Nat), s.activeRuns = true → s.handing = false →
      f.door = .m → s.accepts f = true → f.sound = true → f.formed = true → fl.toNat ≤ 1 → commonVersion lo.toNat hi.toNat = some ver →
      (s.mgmt.sessions.filter (fun x => x.door == .m)).length < 4 → Answers (.openSession f lo hi fl resume) s fun t =>
        (∃ x ∈ t.mgmt.sessions, x.door = .m ∧ x.src = f.src.toNat ∧ x.ver = ver ∧ x.flags = fl.toNat ∧ x.id ≠ 0) ∧
        t.mgmt.absence = none ∧ t.mem = s.mem ∧ t.cores = s.cores) ∧
    (∀ (f : Frame) (lo hi fl : BitVec 8) (resume : BitVec 32), s.romServes = true → s.handing = false →
      f.door = .m → s.accepts f = true → f.sound = true → f.formed = true → fl.toNat ≤ 1 → lo ≤ 1 → 1 ≤ hi →
      (s.mgmt.sessions.filter (fun x => x.door == .m)).length < 4 → Answers (.openSession f lo hi fl resume) s fun t =>
        ∃ x ∈ t.mgmt.sessions, x.door = .m ∧ x.src = f.src.toNat ∧ x.ver = 1 ∧ x.flags = fl.toNat ∧ x.id ≠ 0) ∧
    (∀ src dst : BitVec 48, s.activeRuns = true →
      (dst.toNat = broadcast → Answers (.discover src dst true true) s fun t =>
        t = { s with mgmt := { s.mgmt with discovers := s.mgmt.discovers ++ [src.toNat] } }) ∧
      (dst.toNat ≠ broadcast → Answers (.discover src dst true true) s fun t => t = s)) ∧
    (∀ f : Frame, f.door = .m → s.accepts f = false → (Answers (.keepalive f) s fun t => t = s) ∧
      (Answers (.closeSession f) s fun t => t = s) ∧ Answers (.segAbort f) s fun t => t = s) ∧
    (∀ f : Frame, f.door = .h → s.activeRuns = true → s.handing = true → s.mgmt.mbx.reqTail ≠ s.mgmt.mbx.reqHead →
      let b := s.mgmt.mbx
      let slot := (List.range 0x600).map (fun i => tget (0 : Byte) b.reqSlots (0x600 * (b.reqHead % 4) + i))
      let next := { s with mgmt := { s.mgmt with
        mbx := { b with reqHead := (b.reqHead + 1) % 65536 }, held := s.mgmt.held ++ (slotReq slot).toList } }
      (Answers (.keepalive f) s fun t => t = next) ∧ Answers (.closeSession f) s fun t => t = next) ∧
    (∀ d rest, s.activeRuns = true → s.odPending 0x1112 0 = none → s.mgmt.discovers = d :: rest → Answers .announce s fun t =>
      t = { s with mgmt := { s.mgmt with discovers := rest }, out := t.out } ∧ ∃ m, t.out = s.out ++ [.stanan d m] ∧
        fieldAt m 1 1 = 0x41 ∧ fieldAt m 8 8 = s.serial % 2 ^ 64) ∧
    (∀ (id : BitVec 16) (n : BitVec 32) (x : Session) (e : Event), s.session? id.toNat = some x → x.door = .m →
      s.mgmt.events.find? (fun e => e.seq == n.toNat) = some e → x.acked < e.seq → e.seq ≤ x.sent → bit 0 x.flags = true →
      s.activeRuns = true → e.at_ + 500_000_000 ≤ s.now → Answers (.eventResend id n) s fun t =>
        t = { s with out := s.out ++ [.stanan x.src (framed (stMsg x.ver 0x40 x.id 0 (e.body true)))] }) ∧
    (∀ (id : BitVec 16) (x : Session), s.session? id.toNat = some x →
      (x.heard + x.timeout * 1_000_000_000 ≤ s.now → Answers (.sessionTimeout id) s fun t =>
        t = { s with mgmt := t.mgmt } ∧ t.session? id.toNat = none ∧ ∀ y ∈ s.mgmt.sessions, y.id ≠ id.toNat → y ∈ t.mgmt.sessions) ∧
      (s.now < x.heard + x.timeout * 1_000_000_000 → Answers (.sessionTimeout id) s fun t => t = s)) ∧
    (∀ (id : BitVec 16) (x : Session) (u : Xfer), s.session? id.toNat = some x → x.xfer = some u →
      (u.at_ + 5_000_000_000 ≤ s.now → Answers (.segmentIdleTimeout id) s fun t =>
        t = { s with mgmt := t.mgmt } ∧ t.session? id.toNat = some { x with xfer := none }) ∧
      (s.now < u.at_ + 5_000_000_000 → Answers (.segmentIdleTimeout id) s fun t => t = s)) ∧
    (s.activeRuns = true → s.odPending 0x1102 0 = none → s.odPending 0x1104 0 = none → s.odPending 0x1105 0 = none →
      Answers .beacon s fun t => t = { s with mgmt := { s.mgmt with
        plcaSeen := true, plcaId := s.plcaPick, plcaTimer := s.odNum 0x1104 0, plcaBurst := s.odNum 0x1105 0 } }) ∧
    (Answers .beaconTimeout s fun t => t = { s with mgmt := { s.mgmt with plcaSeen := false } }) ∧
    (∀ v : BitVec 16,
      let b := s.mgmt.mbx
      let k := (v.toNat + 65536 - b.reqHead) % 65536
      (k ≤ 4 → (b.reqTail + 65536 - b.reqHead) % 65536 ≤ k → Answers (.reqTailWrite v) s fun t =>
        t = { s with mgmt := { s.mgmt with mbx := { b with reqTail := v.toNat } } }) ∧
      (4 < k → Answers (.reqTailWrite v) s fun t => t = { s with od := t.od } ∧
        t.odNum 0x1131 4 = (s.odNum 0x1131 4 + 1) % 2 ^ 64) ∧
      ((v.toNat + 65536 - b.rspHead) % 65536 ≤ (b.rspTail + 65536 - b.rspHead) % 65536 → b.held = [] →
        Answers (.rspHeadWrite v) s fun t => t = { s with mgmt := { s.mgmt with mbx := { b with rspHead := v.toNat } } })) ∧
    (∀ (id : BitVec 16) (x : Session) (u : Xfer), s.session? id.toNat = some x → x.xfer = some u → u.write = false →
      u.index = 0xA002 → u.latched = false → x.early = [] → Answers (.snapshotLatch id) s fun t =>
        t = { s with mgmt := t.mgmt } ∧ ∃ y, t.session? id.toNat = some y ∧
        y.xfer = some { u with latched := true, value := s.snapshot x.door (fieldAt u.value 0 2) })

/-- Accepted writes for memory, links, fabric, groups: a March request starts a test or waits; a spare pair is assigned or given up;
an engine is bypassed; a link is enabled, disabled or tested, a far-end test asking the partner with flag 2; a coordinate, a table,
a swap and a group descriptor are taken (R169, R180, R196, R245, R255, R256, R260, R266, R272, R290, R305). Accepted service,
defect, power, firmware and licence writes (R404, R408, R410, R414, R417, R527 to R530, R539, R540). That lost memory reads 0, and
that a release of false is accepted, are the model's choices (log entries 76, 90). -/
def Obligations.ObjectRequests : Prop :=
  (∀ (f : Frame) (s : State),
     let takes := fun (c : Instr) (P : State → Prop) => s.Takes c → Answers c s P
     (∀ (n : Fin 288) (v : BitVec 16),
       ((s.core n).march.isSome = true → takes (.marchRequest f n v) fun t =>
         t.odPending (marchReqObj n) (n.val % 144 + 1) = some (.num (v.toNat % 256)) ∧ t.cores = s.cores ∧ t.mem = s.mem) ∧
       ((s.core n).march = none → bit 7 v.toNat = true → bit 6 v.toNat = false → ((s.core n).bankOf (bits 4 0 v.toNat)).isLit = true →
         takes (.marchRequest f n v) fun t => t.mem = s.mem ∧
           t.core n = { s.core n with march := some ⟨bits 4 0 v.toNat, bits 5 5 v.toNat, false, false, none⟩ })) ∧
     (∀ (k : Fin 16) (c : Fin 32), takes (.sparePairAssign f k c) fun t =>
       t.odNum 0x8010 (k + 1) = c ∧ t.odNum 0x8011 (k + 1) = 1 ∧ t.mem = s.mem) ∧
     (∀ k : Fin 16, takes (.sparePairCancel f k) fun t => t.odNum 0x8010 (k + 1) = 0xFF ∧ t.odNum 0x8011 (k + 1) = 0) ∧
     (∀ (k : Fin 16) (v : Bool), s.onStack k = [] → takes (.sepiaBypass f k v) fun t =>
       t.odBool 0x8002 (k + 1) = v ∧ t.odPending 0x8002 (k + 1) = none) ∧
     (∀ n : Fin 12, (s.link n).st = .disabled → s.linkLicensed n = true → s.life.begun = true → s.life.svc ≠ .black →
       takes (.linkEnable f n) fun t => (t.link n).st = .detect ∧ t.odNum 0x4001 (n + 1) = 1 ∧
         ∀ m, m ≠ n.val → t.link m = s.link m) ∧
     (∀ n : Fin 12, takes (.linkDisable f n) fun t => t.odNum 0x4001 (n + 1) = 0 ∧
       (if (s.link n).txq = [] then (t.link n).st = .disabled else t.link n = { s.link n with disableAt := some s.now }) ∧
       ∀ m, m ≠ n.val → t.link m = s.link m) ∧
     (∀ (n : Fin 12) (v : BitVec 32), bit 31 v.toNat = true → (s.link n).st = .disabled ∨ (s.link n).st = .down →
       takes (.loopbackRequest f n v) fun t => (t.link n).st = .loopback ∧
         (t.link n).loop = some ⟨bits 30 29 v.toNat, bits 15 0 v.toNat, (s.link n).st, bit 28 v.toNat, false, bits 27 26 v.toNat⟩ ∧
         (bits 30 29 v.toNat = 1 → .capability n (t.capBlocks n 2) ∈ t.out) ∧
         (bits 30 29 v.toNat ≠ 1 → ∀ k, k < 9 →
           .pattern n k (bits 27 26 v.toNat) (bit 28 v.toNat) (Config.loopSeed k) ∈ t.out)) ∧
     (∀ v : BitVec 32, takes (.coordinateWrite f v) fun t => t.own = v.toNat ∧ t.mem = s.mem ∧ t.links = s.links) ∧
     (∀ (k : Bool) (b : List Byte), takes (.routingTableWrite f k b) fun t => t.rtable (b2n k) = b ∧
       t.rtable (1 - b2n k) = s.rtable (1 - b2n k) ∧ t.fabric = s.fabric) ∧
     (∀ v : Word, takes (.swapRequest f v) fun t => t.odNum 0x4414 0 = 1 ∧ t.fabric.stopped = s.fabric.stopped ∧
       t.fabric.swap = some ⟨bits 63 63 v.toNat, bits 62 0 v.toNat, 1000 * s.odLive 0x4413 0⟩) ∧
     (∀ (g : Fin 4096) (b : List Byte),
       (s.gSt g ≠ 2 → takes (.groupDescriptorWrite f g b) fun t => t.gd g = b ∧ t.gSt g = (if b = [] then 0 else 1) ∧ t.gInst g = 0) ∧
       (s.gSt g = 2 → takes (.groupDescriptorWrite f g b) fun t => t.gd g = s.gd g ∧ t.gSt g = 2 ∧
         t.odPending (0x5100 + g / 128) (g % 128 + 1) = some (.blob b)))) ∧
  (∀ (f : Frame) (s : State),
     let takes := fun (c : Instr) (P : State → Prop) => s.Takes c → Answers c s P
     let update := fun (c : Instr) (st : Nat) => takes c fun t => t.fw.state = st ∧ t.odNum 0xB005 0 = st ∧ t.mem = s.mem
     (s.life.removal = 0 → takes (.removeCmd f) fun t => t.life.removal = 1 ∧ t.odNum 0x2011 0 = 1) ∧
     (takes (.returnToService f) fun t => t.life.svc = .grey ∧ t.life.removal = 0 ∧ t.mem = []) ∧
     (∀ v : Bool, takes (.fabricRelease f v) fun t => t.links = s.links ∧
       t.life.released = (if v = true ∧ s.life.released = none then some s.now else s.life.released)) ∧
     (∀ (c : Fin 24) (v : BitVec 32), takes (.defectMarkWrite f c v) fun t =>
       t.odPending 0x2101 (c + 1) = some (.num (v.toNat % 2 ^ 13)) ∧ t.odNum 0x2100 (c + 1) = s.odNum 0x2100 (c + 1) ∧
       t.cores = s.cores) ∧
     (∀ b : List Byte, takes (.rowRemapListWrite f b) fun t => t.odPending 0x2110 0 = some (.blob b) ∧ t.memory = s.memory) ∧
     (∀ (k : Fin 16) (v : BitVec 32), takes (.failingPairsWrite f k v) fun t => t.odNum 0x2120 (k + 1) = v.toNat ∧ t.mem = s.mem) ∧
     (∀ v : BitVec 16, takes (.powerGrantWrite f v) fun t => t.odPending 0x3000 0 = some (.num v.toNat) ∧ t.power = s.power) ∧
     (∀ b : List Byte,
       let k := fieldAt b 0 4 / 32768
       let n := (fieldAt b 4 4 + 32767) / 32768
       takes (.firmwareImagePart f b) fun t => tfind t.fw.parts k = some (b.drop 8) ∧
         t.fw.state = (if t.fw.parts.length = n then 2 else 1) ∧ t.mem = s.mem) ∧
     update (.handOver f) 5 ∧ update (.fwComplete f) 7 ∧ update (.fwRevert f) 8 ∧ update (.fwCancel f) 9 ∧
     (∀ b : List Byte,
       (s.licence = [] → s.licencePending = none → takes (.licenceWrite f b) fun t => t.licence = b ∧ t.odNum 0x6451 0 = 1 ∧
         t.features = licFeat b) ∧
       (s.licence ≠ [] → s.licence ≠ b → s.licencePending ≠ some b → takes (.licenceWrite f b) fun t =>
         t.licence = s.licence ∧ t.licencePending = some b ∧ t.odNum 0x6451 0 = 2)))

/-- An update's steps: verification ends in an end state or begins the load, with the old image kept as the last one unless the
controller is in its ROM loader; the load ends in Loaded or restores the last slot; the handover makes the standby active;
completing, reverting and cancelling end Idle (R525, R529, R531, R534). At power-up with no update under way a controller whose
current image passes its checks runs it, A is active, and the module announces itself; an active controller that is found silent
hands the doors to its partner with fault 0x07; and a fuse step raises the version that OD 0xB002 shows by 1 (R371, R476, R526,
R532). That a silent controller stays silent is the model's choice (log entry 87). -/
def Obligations.Firmware : Prop :=
  (∀ s : State,
     let n := s.fw.newB
     let e := s.verifyEnd s.fw.received
     let goes := fun (c : Instr) (st : Nat) (P : State → Prop) =>
       Answers c s fun t => t.fw.state = st ∧ t.odNum 0xB005 0 = st ∧ t.mem = s.mem ∧ P t
     (s.fw.state = 2 → e ≠ 3 → goes .verificationDone e fun t => t.fw.parts = [] ∧ ∀ b, t.slate b = s.slate b) ∧
     (s.fw.state = 2 → e = 3 → s.noFirmware = false → goes .verificationDone 3 fun t =>
       t.fw.parts = [] ∧ t.fw.image = some (imgOf s.fw.received) ∧ (t.slate n).st = .restarting ∧
       (t.slate n).cur = some (imgOf s.fw.received) ∧ t.slate (!n) = s.slate (!n) ∧
       (t.slate n).last = if (s.slate n).st = .rom then none else (s.slate n).cur) ∧
     (s.fw.state = 3 → s.loadsBoth = false → ∀ i, (s.slate n).cur = some i →
       (goes (.loadingDone true) 4 fun t => (t.slate n).st = .runs ∧ (t.slate n).img = some i ∧ t.slate (!n) = s.slate (!n)) ∧
       (goes (.loadingDone false) 21 fun t => (t.slate n).st = .restarting ∧ (t.slate n).cur = (s.slate n).last ∧
         t.slate (!n) = s.slate (!n))) ∧
     (s.mgmt.held = [] →
       (s.fw.state = 5 → (goes .handoverDone 6 fun t => t.fw.bActive = !s.fw.bActive ∧ ∃ m, t.out.getLast? = some (.stanan broadcast m)) ∧
         goes .handoverConfirmTimeout 4 fun t => t.fw.bActive = s.fw.bActive) ∧
       (s.fw.state = 8 → s.fw.back = true → goes .handoverDone 8 fun t => t.fw.bActive = (!s.fw.bActive) ∧ t.fw.back = false ∧
         (t.slate n).st = .restarting ∧ (t.slate n).cur = (s.slate n).last)) ∧
     (s.fw.state = 7 → ∀ i, (s.slate (!n)).cur = some i → goes .completingDone 0 fun t =>
       (t.slate (!n)).st = .runs ∧ (t.slate (!n)).img = some i ∧ t.fw.fuseTo = max s.fw.fuseTo (s.fw.image.elim 0 (·.svn))) ∧
     (s.fw.state = 8 → s.fw.back = false → ∀ i, (s.slate n).cur = some i → goes .revertingDone 0 fun t =>
       (t.slate n).st = .runs ∧ (t.slate n).img = some i ∧ t.fw.fuseTo = s.fw.fuseTo) ∧
     (s.fw.state = 9 → goes .cancellingDone 0 fun t => t.fw.image = none ∧ t.slate (!n) = s.slate (!n))) ∧
  (∀ s : State,
     (s.life.powerGood = true → s.fw.state = 0 → bit 1 (s.odNum 0x2003 0) = false →
       (∀ b, (s.slate b).st = .restarting ∧ s.bootable (s.slate b).cur true = true) →
       Answers (.slateBootDone true true true true) s fun t =>
         (∀ b, (t.slate b).st = .runs ∧ (t.slate b).img = (s.slate b).cur) ∧ t.fw.bActive = false ∧
         bit 1 (t.odNum 0x2003 0) = true ∧ (∃ m, Out.stanan broadcast m ∈ t.out) ∧ t.mem = s.mem) ∧
     (s.silenceSeen = true → s.mgmt.held = [] → Answers .slateSilence s fun t =>
       t.fw.bActive = (!s.fw.bActive) ∧ t.odNum 0x7011 7 = (s.odNum 0x7011 7 + 1) % 2 ^ 64 ∧
       (t.slate s.fw.bActive).st = (if s.fw.state = 6 then .restarting else .silent) ∧ t.mem = s.mem) ∧
     (s.odNum 0xB002 0 < s.fw.fuseTo → s.fw.fuseTo < 256 → Answers .fuseStep s fun t =>
       t = { s with od := t.od } ∧ t.odNum 0xB002 0 = s.odNum 0xB002 0 + 1 ∧ ∀ i j, j < 256 → i ≠ 0xB002 → t.odGet i j = s.odGet i j))

/-- The sink numbers each record and delivers it: to the port's queue while the port is on; to the management ring, whose header
counts it, with no other byte written; a record that finds the queue full is counted as lost. A frame carries up to eight records of
the queue, with its number, scrambled on its lane, whose scrambler goes on from frame to frame (R543 to R549). When a ring's header
is cleared is the model's choice (log entry 100). What a lane's scrambler x^58 + x^39 + 1 sends, a receiver that holds the last 58
bits sent recovers: each bit sent is the bit to be sent XOR the bits sent 39 and 58 before it (R548). A TCK cycle takes every
controller of the chain to the state that TMS selects, and a die in Shift-DR or Shift-IR takes in the bit of the die before it; TDO
is driven while the last one shifts; the levels of the two pins without a row of their own are those given; Capture-DR loads a die's
IDCODE while IDCODE is selected; a reset of the port leaves every controller in Test-Logic-Reset with IDCODE selected (R465 to
R467). -/
def Obligations.TraceAndTest : Prop :=
  (∀ (s : State) (r : Lilac) (rest : List Lilac),
     let sent : Trace := { s.trace with src := rest, seq := (s.trace.seq + 1) % 65536 }
     let shown := r.bytes s.trace.seq r.hide
     (s.trace.src = r :: rest → s.odPending 0xA201 0 = none →
       (s.odNum 0xA201 0 = 0 → s.odBool 0xA204 0 = true → s.trace.portq.length < 1024 → Answers (.traceRecord false) s fun t =>
         t = { s with trace := { sent with portq := s.trace.portq ++ [shown] } }) ∧
       (s.odNum 0xA201 0 = 0 → Answers (.traceRecord true) s fun t => t = { s with trace := sent, od := t.od } ∧
         t.odNum 0xA210 0 = (s.odNum 0xA210 0 + 1) % 2 ^ 64) ∧
       (∀ base len, s.odNum 0xA201 0 = 1 → s.odBool 0xA204 0 = false → s.ringSet 0 = some (base, len) →
         s.ringBlocked base len = false → Answers (.traceRecord false) s fun t =>
           let h := s.ringHdr 0
           let i := max 1 h.next
           t.ringHdr 0 = ⟨if i + 1 < len / 32 then i + 1 else 1, h.written + 1, h.lost, r.time⟩ ∧ t.trace.src = rest ∧
           t.rdN (base + 32 * i) 32 = shown ∧ t.rdN base 32 = (t.ringHdr 0).bytes ∧
           ∀ a, ¬ (base + 32 * i ≤ a ∧ a < base + 32 * i + 32) → ¬ (base ≤ a ∧ a < base + 32) → t.rd a = s.rd a)) ∧
     (s.life.powerGood = true → (∀ r ∈ s.faults.resets, r.scope ≠ 4 ∧ r.scope ≠ 8) → s.odPending 0xA204 0 = none →
       let l := if s.odBool 0xA204 0 = true then s.trace.portq.take 8 else []
       Answers .traceFrame s fun t =>
         let lane := s.trace.frame % 2
         let made := scramble (tget 0 s.trace.scr lane) (frameOf s.trace.frame l)
         t = { s with trace := t.trace, out := s.out ++ [.traceFrame (frameOf s.trace.frame l) made.1] } ∧
         t.trace.portq = s.trace.portq.drop l.length ∧ t.trace.frame = s.trace.frame + 1 ∧ tget 0 t.trace.scr lane = made.2 ∧
         tget 0 t.trace.scr (1 - lane) = tget 0 s.trace.scr (1 - lane))) ∧
  (∀ (st : Nat) (bs : List Byte), st < 2 ^ 58 →
     let sent := (scramble st bs).1
     -- the bits on the lane, the 58 before these bytes among them
     let wire := fun (i : Nat) => if i < 58 then bit (57 - i) st else bit ((i - 58) % 8) (getAt 0 sent ((i - 58) / 8)).toNat
     sent.length = bs.length ∧
     ∀ i, i < 8 * bs.length → wire (58 + i) = ((bit (i % 8) (getAt 0 bs (i / 8)).toNat ^^ wire (19 + i)) ^^ wire i)) ∧
  (∀ s : State,
     (∀ tms tdi req perst, s.life.powerGood = true → Answers (.tckCycle tms tdi req perst) s fun t =>
       t = { s with taps := t.taps, out := t.out,
                    life := { s.life with reqSeen := some (s.now, req), perst := perst, perstAt := s.now } } ∧
       t.out = s.out ++ (if (s.tap 3).shifts = true then [.tdo (s.tap 3).tdo] else []) ∧
       ∀ d, d < 4 →
         let x := s.tap d
         let inp := if d = 0 then tdi else (s.tap (d - 1)).tdo
         (t.tap d).st = x.st.next tms ∧
         (x.st = .shDr → (t.tap d).drSh = x.drSh.drop 1 ++ [inp]) ∧ (x.st = .shIr → (t.tap d).irSh = x.irSh.drop 1 ++ [inp]) ∧
         (x.st = .capDr → x.ir = 2 → (t.tap d).drSh = bitsOf 32 (idcode d)) ∧
         (x.st.next tms = .reset → (t.tap d).ir = 2) ∧
         (x.st.next tms = .updIr → (t.tap d).ir = natOf (t.tap d).irSh)) ∧
     Answers .trstAssert s fun t => t = { s with taps := t.taps } ∧ ∀ d, (t.tap d).st = .reset ∧ (t.tap d).ir = 2)

/-! ### BX32 and scalar operands (R76 to R83, R115) -/

/-- Merging two BX32 values ORs their flags, takes the higher bin and adds the folds that belong to it and to the bin below, each
modulo 2^56 with BX.OVF set where a sum leaves its range; it is commutative, and merging with the empty value leaves a value
unchanged (R80, R76). -/
def Obligations.BxMerge : Prop :=
  (∀ a c : BX,
    let r := a.merge c
    let b := max a.bin c.bin
    let hi := fun x : BX => if x.bin = b then x.fold0 else 0
    let lo := fun x : BX => if x.bin = b then x.fold1 else if x.bin + 1 = b then x.fold0 else 0
    let out := fun z : Int => z < -(2 ^ 55) ∨ 2 ^ 55 ≤ z
    r.toNat = (c.merge a).toNat ∧ r = c.merge a ∧ r.bin = b ∧
    r.nan = (a.nan || c.nan) ∧ r.pinf = (a.pinf || c.pinf) ∧ r.ninf = (a.ninf || c.ninf) ∧
    (r.ovf = true ↔ a.ovf = true ∨ c.ovf = true ∨ out (hi a + hi c) ∨ out (lo a + lo c)) ∧
    ¬ out r.fold0 ∧ ¬ out r.fold1 ∧ (2 ^ 56 : Int) ∣ r.fold0 - (hi a + hi c) ∧ (2 ^ 56 : Int) ∣ r.fold1 - (lo a + lo c)) ∧
  ∀ a : BX, -(2 ^ 55) ≤ a.fold0 → a.fold0 < 2 ^ 55 → -(2 ^ 55) ≤ a.fold1 → a.fold1 < 2 ^ 55 → a.merge BX.empty = a

/-- A BX32 value built from at most 2^31 addends by any sequence of deposits and merges never sets BX.OVF: each fold's magnitude
stays below 2^55. Beyond them BX.OVF is set when a fold leaves its range, and the value then finalises to the canonical NaN; whether
that happens can depend on the order of the merges (R83). -/
def Obligations.BxNeverOverflows : Prop :=
  (∀ (n : Nat) (a : BX), Built n a → n ≤ 2 ^ 31 → a.ovf = false ∧ a.fold0.natAbs ≤ n * (2 ^ 24 - 1) ∧
    a.fold1.natAbs ≤ n * (2 ^ 24 - 1) ∧ n * (2 ^ 24 - 1) < 2 ^ 55) ∧
  (∀ a c : BX, a.bin = c.bin → 2 ^ 55 ≤ a.fold0 + c.fold0 → (a.merge c).ovf = true) ∧
  (∀ (a : BX) (rnd : Rnd) (sat : Bool) (r : Nat), a.ovf = true →
    a.finalise fBinary32 rnd sat r = 0x7FC0_0000 ∧ a.finalise fBfloat16 rnd sat r = 0x7FC0) ∧
  ∃ a b c : BX, ((a.merge b).merge c).ovf = true ∧ (a.merge (b.merge c)).ovf = false

/-- The layout of a C-op, op2, register s0, and scalar arithmetic modulo 2^64 (R115). -/
def Obligations.ScalarOperands : Prop :=
  ∀ (n : Fin 288) (s : State) (k : Nat) (w : Word),
    let a := (s.sreg n k (cSA w)).toNat
    let b := (s.op2 n k w).toNat
    let result := fun (c : Instr) (v : Nat) => Answers c s fun t => ∀ j,
      (t.sreg n k j).toNat = if j = cSD w ∧ j ≠ 0 then v % 2 ^ 64 else (s.sreg n k j).toNat
    cSD w = w.toNat / 2 ^ 51 % 32 ∧ cSA w = w.toNat / 2 ^ 46 % 32 ∧ cSB w = w.toNat / 2 ^ 41 % 32 ∧ cCNT w = w.toNat / 2 ^ 35 % 64 ∧
    (cIMM w).toInt = toSigned 32 w.toNat ∧
    b = ((s.sreg n k (cSB w)).toNat + (cIMM w).toNat) % 2 ^ 64 ∧
    s.sreg n k 0 = 0 ∧ (∀ (r j : Nat) (v : Word), (s.putS n k r v).sreg n k j = if j = r ∧ j ≠ 0 then v else s.sreg n k j) ∧
    (s.Issues n 0 0x05 k w → result (.add n) (a + b)) ∧ (s.Issues n 0 0x06 k w → result (.sub n) (2 ^ 64 + a - b)) ∧
    (s.Issues n 0 0x07 k w → result (.mul n) (a * b))

/-! ### The machine -/

/-- A step with a command at the front of the queue is that command's effect with the queue's rest. -/
def Obligations.FrontCommand : Prop :=
  ∀ (c : Instr) (rest : List Instr) (s : State), step { s with pending := c :: rest } = exec c { s with pending := rest }

/-- With no command waiting, a step is 10 ns of the local time base (the model's choice: log entry 1): the counts of time advance
while the module has power, fabric time by the slew as well, an event that was pending is launched, and nothing else happens while
no link is being disabled and no packet waits for tokens. A message of an interrupt leaves only for a launched event of a threshold
or the mailbox. -/
def Obligations.IdleStep : Prop :=
  ∀ s : State, s.pending = [] → ∃ t, step s = .next t ∧
    t.pending = [] ∧ t.mem = s.mem ∧ t.hostMem = s.hostMem ∧ t.cores = s.cores ∧ t.clk.uptime = s.clk.uptime + 10 ∧
    (s.life.powerGood = false → t = { s with clk := { s.clk with uptime := s.clk.uptime + 10 } }) ∧
    (s.life.powerGood = true → t.clk.localTime = (s.clk.localTime + 10) % 2 ^ 64 ∧
      (let d : Int := if s.ftime.slew > 0 then 1 else if s.ftime.slew < 0 then -1 else if s.ftime.parent = none then s.ftime.free else 0
       0 ≤ s.ftime.frac → -10_000 ≤ d →
        (1000 * t.clk.fabricTime + t.ftime.frac : Int) = 1000 * s.clk.fabricTime + s.ftime.frac + 10_000 + d) ∧
      ((∀ n, n < 12 → (s.link n).disableAt = none) → s.fabric.held = [] →
        t = { s with clk := t.clk, ftime := t.ftime, fns := t.fns, out := t.out } ∧
        (∀ e, e ∈ t.clk.xing ↔ e.2.busy = true ∧ e.2.pending = false ∧ ∃ x ∈ s.clk.xing, x.1 = e.1 ∧ x.2.pending = true) ∧
        ((∀ e ∈ s.clk.xing, e.2.pending = true → e.1 / 65536 ≠ 4 ∧ e.1 / 65536 ≠ 10) → t.fns = s.fns ∧ t.out = s.out)))

/-- Right after reset no command waits and both memories are in their canonical form. What reset leaves: Grey, no fault counted,
links Disabled, partitions Absent, queues Disabled, host counters and completion counters 0, every slot Empty with PC 0, no epoch
open, groups not set, every bank Lit and owned by its core, the local time base at 0 (R43, R90, R215, R229, R245, R290, R329, R344,
R377, R405). That memory which nothing has written reads 0, and which state reset is, are the model's choices (log entries 2, 1). -/
def Obligations.ResetState : Prop :=
  (State.reset.Inv ∧ State.reset.pending = []) ∧
  (let s := State.reset
   s.life.svc = .grey ∧ s.odNum 0x2000 0 = 1 ∧ s.odNum 0x7000 0 = 0 ∧ s.clk.localTime = 0 ∧ s.odNum 0x4400 0 = 0xF_FFFF ∧
   (∀ n, (s.link n).st = .disabled) ∧ (∀ p, (s.part p).st = .absent) ∧ (∀ q, (s.queue q).code = .disabled) ∧
   (∀ p h, (s.hc p h).value = 0 ∧ (s.hc p h).armed = false) ∧ (∀ p, (s.ep p).st = .closed) ∧ (∀ g, g < 4096 → s.gSt g = 0) ∧
   (∀ n k, ((s.core n).slot k).st = .empty ∧ ((s.core n).slot k).pc = 0 ∧ (s.core n).counter k = 0) ∧
   (∀ n b, ((s.core n).bankOf b).isLit = true ∧ ((s.core n).bankOf b).owner = 0) ∧ (∀ a, s.rd a = 0 ∧ s.hrd a = 0))

/-- Every step keeps both memories in their canonical form, whatever the state that holds it. -/
def Obligations.StepKeepsInv : Prop :=
 ∀ s t : State, s.Inv → step s = .next t → t.Inv

/-- A command never writes the queue of the commands that wait, and one that stores nothing leaves every byte of both memories. -/
def Obligations.QueueAndMemory : Prop :=
  ∀ (c : Instr) (s t : State), exec c s = .next t →
    t.pending = s.pending ∧ (stores c = false → t.mem = s.mem ∧ t.hostMem = s.hostMem ∧ ∀ a, t.rd a = s.rd a ∧ t.hrd a = s.hrd a)

/-- Every command answers a next state in every state, but for an input beyond 0 to 72 V, which stops by name (R451). -/
def Obligations.EveryCommandAnswers : Prop :=
  ∀ (c : Instr) (s : State),
    (∃ t, exec c s = .next t) ∨
    ∃ v k, c = .inputOutOfRange v k ∧ (v < 0 ∨ 72000 < v) ∧ exec c s = .fault .inputBeyondAbsolute

/-- No instruction of the scalar, tensor or vector group changes, by its issue, another core, another context but for the one that
it lets the scalar unit take up, what waits before it in an engine's queue, an engine's running operation, an accumulator set, a
bank or anything outside its core but event crossings (R86, R90, R91, R118). -/
def Obligations.ContextIsolation : Prop :=
  ∀ f ∈ computeRows, ∀ (n : Fin 288) (s t : State), exec (f n) s = .next t →
    let c := s.core n
    let d := t.core n
    s.OnlyCore t n ∧
    d = { c with ctx := d.ctx, cur := d.cur, cnt := d.cnt, tq := d.tq, vq := d.vq, act := d.act } ∧
    (∃ l, d.tq = c.tq ++ l ∧ ∀ q ∈ l, c.running = some q.slot) ∧ (∃ l, d.vq = c.vq ++ l ∧ ∀ q ∈ l, c.running = some q.slot) ∧
    ∀ j, c.running ≠ some j → d.slot j = c.slot j ∨ (d.slot j = (c.slot j).taken ∧ (c.slot j).st = .ready)
end

