-- ==== Sys2Proof/Laws/Kept.lean ====
section
/-! SUPPORT. What the operations of the model leave alone: the queue of waiting commands and the two memories. Each law is
named after its operation; an operation that has no law here writes one of them. -/
set_option linter.all false
namespace Sys2Proof.Machine

/-- The queue and the two memories. -/
def State.kept (s : State) : List Instr × List Host.Cell × List Host.Cell := (s.pending, s.mem, s.hostMem)

theorem kept_with (x : State) (od : Od) (clk : Clk) (links : Tab Link) (fabric : Fabric) (ftime : FTime) (memory : Memory) (sepia : Sepia) (eps : Tab Ep) (agents : Tab Agent) (queues : Tab Queue) (colls : Colls) (hcnt : Tab HCnt) (disp : Disp) (cores : Tab Core) (parts : Tab Part) (fns : Tab Fn) (mgmt : Mgmt) (trace : Trace) (faults : Faults) (sec : Sec) (power : Power) (thermal : Thermal) (taps : Tab Tap) (fw : Fw) (life : Life) (stored : Option Stored) (free : Nat) (out : List Out) :
    State.kept (State.mk x.pending x.mem x.hostMem od clk links fabric ftime memory sepia eps agents queues colls hcnt disp cores parts fns mgmt trace faults sec power thermal taps fw life stored free out) = x.kept := rfl

theorem kept_ite (c : Prop) [Decidable c] (a b : State) :
    (if c then a else b).kept = if c then a.kept else b.kept := by split <;> rfl

theorem kept_foldl {α : Type} {f : State → α → State} {l : List α} {x s : State}
    (h : ∀ t a, (f t a).kept = t.kept) (h0 : x.kept = s.kept) : (l.foldl f x).kept = s.kept := by
  induction l generalizing x with
  | nil => exact h0
  | cons a l ih => exact ih ((h x a).trans h0)

@[simp] theorem State.freeVal_kept (s : State) (w : Nat) :
    (State.freeVal s w).2.kept = s.kept := by
  unfold State.freeVal
  repeat' (first | with_reducible rfl | simp only [↓kept_with, ↓kept_ite, ite_self] | refine kept_foldl (fun _ _ => ?_) ?_ | split | rfl)

@[simp] theorem State.keyCached_kept (s : State) (p : Pkt) (part : Nat) :
    (State.keyCached s p part).kept = s.kept := by
  unfold State.keyCached
  repeat' (first | with_reducible rfl | simp only [↓kept_with, ↓kept_ite, ite_self, ↓State.freeVal_kept] | refine kept_foldl (fun _ _ => ?_) ?_ | split | rfl)

@[simp] theorem State.odSet_kept (s : State) (idx : Nat) (sub : Nat) (v : OdVal) :
    (State.odSet s idx sub v).kept = s.kept := by
  unfold State.odSet
  repeat' (first | with_reducible rfl | simp only [↓kept_with, ↓kept_ite, ite_self] | refine kept_foldl (fun _ _ => ?_) ?_ | split | rfl)

@[simp] theorem State.odApply_kept (s : State) (idx : Nat) (sub : Nat) :
    (State.odApply s idx sub).kept = s.kept := by
  unfold State.odApply
  repeat' (first | with_reducible rfl | simp only [↓kept_with, ↓kept_ite, ite_self, ↓State.odSet_kept] | refine kept_foldl (fun _ _ => ?_) ?_ | split | rfl)

@[simp] theorem State.limiterFor_kept (s : State) (p : Pkt) :
    (State.limiterFor s p).kept = s.kept := by
  unfold State.limiterFor
  repeat' (first | with_reducible rfl | simp only [↓kept_with, ↓kept_ite, ite_self, ↓State.odApply_kept] | refine kept_foldl (fun _ _ => ?_) ?_ | split | rfl)

@[simp] theorem State.odSetN_kept (s : State) (idx : Nat) (sub : Nat) (n : Nat) :
    (State.odSetN s idx sub n).kept = s.kept := by
  unfold State.odSetN
  repeat' (first | with_reducible rfl | simp only [↓kept_with, ↓kept_ite, ite_self, ↓State.odSet_kept] | refine kept_foldl (fun _ _ => ?_) ?_ | split | rfl)

@[simp] theorem State.odAdd_kept (s : State) (idx : Nat) (sub : Nat) (n : Nat) :
    (State.odAdd s idx sub n).kept = s.kept := by
  unfold State.odAdd
  repeat' (first | with_reducible rfl | simp only [↓kept_with, ↓kept_ite, ite_self, ↓State.odSetN_kept] | refine kept_foldl (fun _ _ => ?_) ?_ | split | rfl)

@[simp] theorem State.odInc_kept (s : State) (idx : Nat) (sub : Nat) :
    (State.odInc s idx sub).kept = s.kept := by
  unfold State.odInc
  repeat' (first | with_reducible rfl | simp only [↓kept_with, ↓kept_ite, ite_self, ↓State.odAdd_kept] | refine kept_foldl (fun _ _ => ?_) ?_ | split | rfl)

@[simp] theorem State.emit_kept (s : State) (o : Out) :
    (State.emit s o).kept = s.kept := by
  unfold State.emit
  repeat' (first | with_reducible rfl | simp only [↓kept_with, ↓kept_ite, ite_self] | refine kept_foldl (fun _ _ => ?_) ?_ | split | rfl)

@[simp] theorem State.setLink_kept (s : State) (n : Nat) (l : Link) :
    (State.setLink s n l).kept = s.kept := by
  unfold State.setLink
  repeat' (first | with_reducible rfl | simp only [↓kept_with, ↓kept_ite, ite_self] | refine kept_foldl (fun _ _ => ?_) ?_ | split | rfl)

@[simp] theorem State.updLink_kept (s : State) (n : Nat) (f : Link → Link) :
    (State.updLink s n f).kept = s.kept := by
  unfold State.updLink
  repeat' (first | with_reducible rfl | simp only [↓kept_with, ↓kept_ite, ite_self, ↓State.setLink_kept] | refine kept_foldl (fun _ _ => ?_) ?_ | split | rfl)

@[simp] theorem State.linkTx_kept (s : State) (n : Nat) (p : Pkt) :
    (State.linkTx s n p).kept = s.kept := by
  unfold State.linkTx
  repeat' (first | with_reducible rfl | simp only [↓kept_with, ↓kept_ite, ite_self, ↓State.emit_kept, ↓State.updLink_kept] | refine kept_foldl (fun _ _ => ?_) ?_ | split | rfl)

@[simp] theorem State.sendPair_kept (s : State) (n : Nat) (bs : List Body) :
    (State.sendPair s n bs).kept = s.kept := by
  unfold State.sendPair
  repeat' (first | with_reducible rfl | simp only [↓kept_with, ↓kept_ite, ite_self, ↓State.emit_kept, ↓State.setLink_kept] | refine kept_foldl (fun _ _ => ?_) ?_ | split | rfl)

@[simp] theorem State.sendBodies_kept (n : Nat) (x1 : Nat) (x2 : State) (x3 : List Body) :
    (State.sendBodies n x1 x2 x3).kept = x2.kept := by
  induction x1 generalizing x2 x3 with
  | zero => rfl
  | succ k ih =>
    simp only [State.sendBodies]
    split
    · rfl
    · rw [ih, State.sendPair_kept]

@[simp] theorem State.drainLink_kept (s : State) (n : Nat) :
    (State.drainLink s n).kept = s.kept := by
  have hf : ∀ (l : List Pkt) (a : State × List Pkt × List Pkt), (l.foldl (fun (a : State × List Pkt × List Pkt) p =>
      if a.2.1.any (fun x => x.vc == p.vc) || a.1.freeCredits n p.vc < p.slots then (a.1, a.2.1 ++ [p], a.2.2)
      else (a.1.linkTx n p, a.2.1, a.2.2 ++ [p])) a).1.kept = a.1.kept := by
    intro l
    induction l with
    | nil => intro a; rfl
    | cons p l ih =>
      intro a
      rw [List.foldl_cons, ih]
      split
      · rfl
      · exact State.linkTx_kept _ _ _
  unfold State.drainLink
  split
  · rfl
  · simp only [State.sendBodies_kept, State.updLink_kept, hf]

@[simp] theorem State.setFn_kept (s : State) (k : Nat) (f : Fn) :
    (State.setFn s k f).kept = s.kept := by
  unfold State.setFn
  repeat' (first | with_reducible rfl | simp only [↓kept_with, ↓kept_ite, ite_self] | refine kept_foldl (fun _ _ => ?_) ?_ | split | rfl)

@[simp] theorem State.msix_kept (s : State) (k : Nat) (vec : Nat) :
    (State.msix s k vec).kept = s.kept := by
  unfold State.msix
  repeat' (first | with_reducible rfl | simp only [↓kept_with, ↓kept_ite, ite_self, ↓State.emit_kept, ↓State.setFn_kept] | refine kept_foldl (fun _ _ => ?_) ?_ | split | rfl)

@[simp] theorem State.fnEvent_kept (s : State) (k : Nat) (b : Nat) :
    (State.fnEvent s k b).kept = s.kept := by
  unfold State.fnEvent
  repeat' (first | with_reducible rfl | simp only [↓kept_with, ↓kept_ite, ite_self, ↓State.msix_kept, ↓State.setFn_kept] | refine kept_foldl (fun _ _ => ?_) ?_ | split | rfl)

@[simp] theorem State.landed_kept (s : State) (ev : Nat) (i : Nat) :
    (State.landed s ev i).kept = s.kept := by
  unfold State.landed
  repeat' (first | with_reducible rfl | simp only [↓kept_with, ↓kept_ite, ite_self, ↓State.fnEvent_kept, ↓State.msix_kept] | refine kept_foldl (fun _ _ => ?_) ?_ | split | rfl)

@[simp] theorem State.pulse_kept (s : State) (ev : Nat) (i : Nat) :
    (State.pulse s ev i).kept = s.kept := by
  unfold State.pulse
  repeat' (first | with_reducible rfl | simp only [↓kept_with, ↓kept_ite, ite_self, ↓State.landed_kept, ↓State.odInc_kept] | refine kept_foldl (fun _ _ => ?_) ?_ | split | rfl)

@[simp] theorem State.lilac_kept (s : State) (kind : Nat) (code : Nat) (src : Nat) (addr : Nat) (data : Nat) (part : Option Nat) :
    (State.lilac s kind code src addr data part).kept = s.kept := by
  unfold State.lilac
  repeat' (first | with_reducible rfl | simp only [↓kept_with, ↓kept_ite, ite_self, ↓State.odApply_kept, ↓State.pulse_kept] | refine kept_foldl (fun _ _ => ?_) ?_ | split | rfl)

@[simp] theorem State.linkPut_kept (s : State) (n : Nat) (p : Pkt) :
    (State.linkPut s n p).kept = s.kept := by
  unfold State.linkPut
  repeat' (first | with_reducible rfl | simp only [↓kept_with, ↓kept_ite, ite_self, ↓State.drainLink_kept, ↓State.lilac_kept, ↓State.odApply_kept, ↓State.odInc_kept, ↓State.updLink_kept] | refine kept_foldl (fun _ _ => ?_) ?_ | split | rfl)

@[simp] theorem State.routeOnce_kept (s : State) (p : Pkt) :
    (State.routeOnce s p).1.kept = s.kept := by
  unfold State.routeOnce
  repeat' (first | with_reducible rfl | simp only [↓kept_with, ↓kept_ite, ite_self, ↓State.linkPut_kept, ↓State.odApply_kept, ↓State.odInc_kept] | refine kept_foldl (fun _ _ => ?_) ?_ | split | rfl)

@[simp] theorem State.route_kept (s : State) (p : Pkt) :
    (State.route s p).kept = s.kept := by
  unfold State.route; split
  · next h => rw [← State.routeOnce_kept s p, h]
  · next h => rw [State.routeOnce_kept, ← State.routeOnce_kept s p, h]

/-- What a limiter's draw and an injection leave alone. -/
theorem State.draw_kept {s t : State} {p : Pkt} (h : s.draw p = some t) : t.kept = s.kept := by
  unfold State.draw at h
  simp only at h
  repeat' (first | cases h | split at h | rfl | simp only [State.odInc_kept])
  all_goals rfl

theorem State.tryInject_kept {s t : State} {p : Pkt} (h : s.tryInject p = some t) : t.kept = s.kept := by
  unfold State.tryInject at h
  split at h
  · cases h
  · obtain ⟨x, hx, rfl⟩ := Option.map_eq_some_iff.mp h
    rw [State.route_kept, State.keyCached_kept, State.draw_kept hx, State.limiterFor_kept]

@[simp] theorem State.injectNow_kept (s : State) (p : Pkt) :
    (State.injectNow s p).kept = s.kept := by
  unfold State.injectNow
  split
  · rfl
  · split
    · next h => exact State.tryInject_kept h
    · rfl

@[simp] theorem State.inject_kept (s : State) (p : Pkt) :
    (State.inject s p).kept = s.kept := by
  unfold State.inject
  repeat' (first | with_reducible rfl | simp only [↓kept_with, ↓kept_ite, ite_self, ↓State.injectNow_kept] | refine kept_foldl (fun _ _ => ?_) ?_ | split | rfl)

@[simp] theorem State.odApplyAll_kept (s : State) (l : List (Nat × Nat)) :
    (State.odApplyAll s l).kept = s.kept := by
  unfold State.odApplyAll
  repeat' (first | with_reducible rfl | simp only [↓kept_with, ↓kept_ite, ite_self, ↓State.odApply_kept] | refine kept_foldl (fun _ _ => ?_) ?_ | split | rfl)

@[simp] theorem State.setFlow_kept (s : State) (f : Flow) :
    (State.setFlow s f).kept = s.kept := by
  unfold State.setFlow
  repeat' (first | with_reducible rfl | simp only [↓kept_with, ↓kept_ite, ite_self] | refine kept_foldl (fun _ _ => ?_) ?_ | split | rfl)

@[simp] theorem State.issueReq_kept (s : State) (r : Req) :
    (State.issueReq s r).kept = s.kept := by
  unfold State.issueReq
  repeat' (first | with_reducible rfl | simp only [↓kept_with, ↓kept_ite, ite_self, ↓State.inject_kept, ↓State.odApplyAll_kept, ↓State.setFlow_kept] | refine kept_foldl (fun _ _ => ?_) ?_ | split | rfl)

@[simp] theorem State.wake_kept (s : State) :
    (State.wake s).kept = s.kept := by
  unfold State.wake
  repeat' (first | with_reducible rfl | simp only [↓kept_with, ↓kept_ite, ite_self, ↓State.issueReq_kept] | refine kept_foldl (fun _ _ => ?_) ?_ | split | rfl)

@[simp] theorem State.releaseReqs_kept (s : State) (q : Req → Bool) :
    (State.releaseReqs s q).kept = s.kept := by
  unfold State.releaseReqs
  repeat' (first | with_reducible rfl | simp only [↓kept_with, ↓kept_ite, ite_self, ↓State.wake_kept] | refine kept_foldl (fun _ _ => ?_) ?_ | split | rfl)

@[simp] theorem State.abandon_kept (s : State) (q : SCmd → Bool) :
    (State.abandon s q).kept = s.kept := by
  unfold State.abandon
  repeat' (first | with_reducible rfl | simp only [↓kept_with, ↓kept_ite, ite_self, ↓State.releaseReqs_kept] | refine kept_foldl (fun _ _ => ?_) ?_ | split | rfl)

@[simp] theorem State.setCore_kept (s : State) (n : Nat) (c : Core) :
    (State.setCore s n c).kept = s.kept := by
  unfold State.setCore
  repeat' (first | with_reducible rfl | simp only [↓kept_with, ↓kept_ite, ite_self] | refine kept_foldl (fun _ _ => ?_) ?_ | split | rfl)

@[simp] theorem State.dropMop_kept (s : State) (n : Nat) (id : Nat) :
    (State.dropMop s n id).kept = s.kept := by
  unfold State.dropMop
  repeat' (first | with_reducible rfl | simp only [↓kept_with, ↓kept_ite, ite_self, ↓State.setCore_kept] | refine kept_foldl (fun _ _ => ?_) ?_ | split | rfl)

@[simp] theorem State.updMop_kept (s : State) (n : Nat) (id : Nat) (f : MOp → MOp) :
    (State.updMop s n id f).kept = s.kept := by
  unfold State.updMop
  repeat' (first | with_reducible rfl | simp only [↓kept_with, ↓kept_ite, ite_self, ↓State.setCore_kept] | refine kept_foldl (fun _ _ => ?_) ?_ | split | rfl)

@[simp] theorem State.abandonOp_kept (s : State) (n : Nat) (k : Nat) (code : Nat) (w : Word) :
    (State.abandonOp s n k code w).kept = s.kept := by
  unfold State.abandonOp
  repeat' (first | with_reducible rfl | simp only [↓kept_with, ↓kept_ite, ite_self, ↓State.dropMop_kept, ↓State.setCore_kept, ↓State.updMop_kept] | refine kept_foldl (fun _ _ => ?_) ?_ | split | rfl)

@[simp] theorem State.addAct_kept (s : State) (n : Nat) (k : Nat) (v : Nat) :
    (State.addAct s n k v).kept = s.kept := by
  unfold State.addAct
  repeat' (first | with_reducible rfl | simp only [↓kept_with, ↓kept_ite, ite_self, ↓State.setCore_kept] | refine kept_foldl (fun _ _ => ?_) ?_ | split | rfl)

@[simp] theorem State.setCnt_kept (s : State) (n : Nat) (k : Nat) (v : Word) :
    (State.setCnt s n k v).kept = s.kept := by
  unfold State.setCnt
  repeat' (first | with_reducible rfl | simp only [↓kept_with, ↓kept_ite, ite_self, ↓State.pulse_kept, ↓State.setCore_kept] | refine kept_foldl (fun _ _ => ?_) ?_ | split | rfl)

@[simp] theorem State.addCnt_kept (s : State) (n : Nat) (k : Nat) (v : Word) :
    (State.addCnt s n k v).kept = s.kept := by
  unfold State.addCnt
  repeat' (first | with_reducible rfl | simp only [↓kept_with, ↓kept_ite, ite_self, ↓State.setCnt_kept] | refine kept_foldl (fun _ _ => ?_) ?_ | split | rfl)

@[simp] theorem State.cntIn_kept (s : State) (n : Nat) (k : Nat) (v : Word) :
    (State.cntIn s n k v).kept = s.kept := by
  unfold State.cntIn
  repeat' (first | with_reducible rfl | simp only [↓kept_with, ↓kept_ite, ite_self, ↓State.setCnt_kept] | refine kept_foldl (fun _ _ => ?_) ?_ | split | rfl)

@[simp] theorem State.addIn_kept (s : State) (n : Nat) (k : Nat) (v : Word) :
    (State.addIn s n k v).kept = s.kept := by
  unfold State.addIn
  repeat' (first | with_reducible rfl | simp only [↓kept_with, ↓kept_ite, ite_self, ↓State.cntIn_kept] | refine kept_foldl (fun _ _ => ?_) ?_ | split | rfl)

@[simp] theorem State.odAccept_kept (s : State) (idx : Nat) (sub : Nat) (v : OdVal) :
    (State.odAccept s idx sub v).kept = s.kept := by
  unfold State.odAccept
  repeat' (first | with_reducible rfl | simp only [↓kept_with, ↓kept_ite, ite_self] | refine kept_foldl (fun _ _ => ?_) ?_ | split | rfl)

@[simp] theorem State.mbxPut_kept (s : State) (m : List Byte) :
    (State.mbxPut s m).kept = s.kept := by
  unfold State.mbxPut
  repeat' (first | with_reducible rfl | simp only [↓kept_with, ↓kept_ite, ite_self, ↓State.pulse_kept] | refine kept_foldl (fun _ _ => ?_) ?_ | split | rfl)

@[simp] theorem State.sendTo_kept (s : State) (door : Door) (src : Nat) (m : List Byte) :
    (State.sendTo s door src m).kept = s.kept := by
  unfold State.sendTo
  repeat' (first | with_reducible rfl | simp only [↓kept_with, ↓kept_ite, ite_self, ↓State.emit_kept, ↓State.mbxPut_kept] | refine kept_foldl (fun _ _ => ?_) ?_ | split | rfl)

@[simp] theorem State.deliverOne_kept (s : State) (se : Session) :
    (State.deliverOne s se).kept = s.kept := by
  unfold State.deliverOne
  repeat' (first | with_reducible rfl | simp only [↓kept_with, ↓kept_ite, ite_self, ↓State.sendTo_kept] | refine kept_foldl (fun _ _ => ?_) ?_ | split | rfl)

@[simp] theorem State.deliver_kept (s : State) :
    (State.deliver s).kept = s.kept := by
  unfold State.deliver
  repeat' (first | with_reducible rfl | simp only [↓kept_with, ↓kept_ite, ite_self, ↓State.deliverOne_kept] | refine kept_foldl (fun _ _ => ?_) ?_ | split | rfl)

@[simp] theorem State.raise_kept (s : State) (code : Nat) (idx : Nat) (sub : Nat) (detail : Nat) :
    (State.raise s code idx sub detail).kept = s.kept := by
  unfold State.raise
  repeat' (first | with_reducible rfl | simp only [↓kept_with, ↓kept_ite, ite_self, ↓State.deliver_kept, ↓State.odInc_kept] | refine kept_foldl (fun _ _ => ?_) ?_ | split | rfl)

@[simp] theorem State.addRemap_kept (s : State) (k : Nat) :
    (State.addRemap s k).kept = s.kept := by
  unfold State.addRemap
  repeat' (first | with_reducible rfl | simp only [↓kept_with, ↓kept_ite, ite_self, ↓State.odAccept_kept, ↓State.raise_kept] | refine kept_foldl (fun _ _ => ?_) ?_ | split | rfl)

@[simp] theorem State.resetStatus_kept (s : State) (scope : Nat) (target : Nat) (st : Nat) :
    (State.resetStatus s scope target st).kept = s.kept := by
  unfold State.resetStatus
  repeat' (first | with_reducible rfl | simp only [↓kept_with, ↓kept_ite, ite_self, ↓State.odSetN_kept] | refine kept_foldl (fun _ _ => ?_) ?_ | split | rfl)

@[simp] theorem State.endResets_kept (s : State) (q : ResetRun → Bool) :
    (State.endResets s q).kept = s.kept := by
  unfold State.endResets
  repeat' (first | with_reducible rfl | simp only [↓kept_with, ↓kept_ite, ite_self, ↓State.resetStatus_kept] | refine kept_foldl (fun _ _ => ?_) ?_ | split | rfl)

@[simp] theorem State.takeOver_kept (s : State) (n : ResetRun) :
    (State.takeOver s n).kept = s.kept := by
  unfold State.takeOver
  repeat' (first | with_reducible rfl | simp only [↓kept_with, ↓kept_ite, ite_self, ↓State.endResets_kept] | refine kept_foldl (fun _ _ => ?_) ?_ | split | rfl)

@[simp] theorem State.addReset_kept (s : State) (scope : Nat) (target : Nat) (fault : Bool) (replay : Bool) (held : Bool) :
    (State.addReset s scope target fault replay held).kept = s.kept := by
  unfold State.addReset
  repeat' (first | with_reducible rfl | simp only [↓kept_with, ↓kept_ite, ite_self, ↓State.lilac_kept, ↓State.takeOver_kept] | refine kept_foldl (fun _ _ => ?_) ?_ | split | rfl)

@[simp] theorem State.setPart_kept (s : State) (p : Nat) (x : Part) :
    (State.setPart s p x).kept = s.kept := by
  unfold State.setPart
  repeat' (first | with_reducible rfl | simp only [↓kept_with, ↓kept_ite, ite_self] | refine kept_foldl (fun _ _ => ?_) ?_ | split | rfl)

@[simp] theorem State.countAddress_kept (s : State) (p : Nat) :
    (State.countAddress s p).kept = s.kept := by
  unfold State.countAddress
  repeat' (first | with_reducible rfl | simp only [↓kept_with, ↓kept_ite, ite_self, ↓State.setPart_kept] | refine kept_foldl (fun _ _ => ?_) ?_ | split | rfl)

@[simp] theorem State.countIsolation_kept (s : State) (p : Nat) :
    (State.countIsolation s p).kept = s.kept := by
  unfold State.countIsolation
  repeat' (first | with_reducible rfl | simp only [↓kept_with, ↓kept_ite, ite_self, ↓State.odInc_kept, ↓State.raise_kept, ↓State.setPart_kept] | refine kept_foldl (fun _ _ => ?_) ?_ | split | rfl)

@[simp] theorem State.admitFailed_kept (s : State) (p : Nat) (e : UEnd) :
    (State.admitFailed s p e).kept = s.kept := by
  unfold State.admitFailed
  repeat' (first | with_reducible rfl | simp only [↓kept_with, ↓kept_ite, ite_self, ↓State.countAddress_kept, ↓State.countIsolation_kept, ↓State.odInc_kept] | refine kept_foldl (fun _ _ => ?_) ?_ | split | rfl)

@[simp] theorem State.collTrace_kept (s : State) (c : Coll) (code : Nat) (sub : Nat) :
    (State.collTrace s c code sub).kept = s.kept := by
  unfold State.collTrace
  repeat' (first | with_reducible rfl | simp only [↓kept_with, ↓kept_ite, ite_self, ↓State.lilac_kept] | refine kept_foldl (fun _ _ => ?_) ?_ | split | rfl)

@[simp] theorem State.request_kept (s : State) (owner : ReqOwner) (p : Pkt) :
    (State.request s owner p).kept = s.kept := by
  unfold State.request
  repeat' (first | with_reducible rfl | simp only [↓kept_with, ↓kept_ite, ite_self, ↓State.issueReq_kept] | refine kept_foldl (fun _ _ => ?_) ?_ | split | rfl)

@[simp] theorem State.colSend_kept (s : State) (c : Coll) (p : Pkt) :
    (State.colSend s c p).kept = s.kept := by
  unfold State.colSend
  repeat' (first | with_reducible rfl | simp only [↓kept_with, ↓kept_ite, ite_self, ↓State.request_kept] | refine kept_foldl (fun _ _ => ?_) ?_ | split | rfl)

@[simp] theorem State.grant_kept (s : State) (c : Coll) (ref : Nat) (limit : Nat) (dir : Nat) :
    (State.grant s c ref limit dir).kept = s.kept := by
  unfold State.grant
  repeat' (first | with_reducible rfl | simp only [↓kept_with, ↓kept_ite, ite_self, ↓State.colSend_kept] | refine kept_foldl (fun _ _ => ?_) ?_ | split | rfl)

@[simp] theorem State.updColl_kept (s : State) (r : DescRef) (f : Coll → Coll) :
    (State.updColl s r f).kept = s.kept := by
  unfold State.updColl
  repeat' (first | with_reducible rfl | simp only [↓kept_with, ↓kept_ite, ite_self] | refine kept_foldl (fun _ _ => ?_) ?_ | split | rfl)

@[simp] theorem State.grantUp_kept (s : State) (c : Coll) (limit : Nat) :
    (State.grantUp s c limit).kept = s.kept := by
  unfold State.grantUp
  repeat' (first | with_reducible rfl | simp only [↓kept_with, ↓kept_ite, ite_self, ↓State.grant_kept, ↓State.updColl_kept] | refine kept_foldl (fun _ _ => ?_) ?_ | split | rfl)

@[simp] theorem State.setGSt_kept (s : State) (g : Nat) (st : Nat) :
    (State.setGSt s g st).kept = s.kept := by
  unfold State.setGSt
  repeat' (first | with_reducible rfl | simp only [↓kept_with, ↓kept_ite, ite_self, ↓State.odSetN_kept] | refine kept_foldl (fun _ _ => ?_) ?_ | split | rfl)

@[simp] theorem State.showPools_kept (s : State) :
    (State.showPools s).kept = s.kept := by
  unfold State.showPools
  repeat' (first | with_reducible rfl | simp only [↓kept_with, ↓kept_ite, ite_self, ↓State.odSetN_kept] | refine kept_foldl (fun _ _ => ?_) ?_ | split | rfl)

@[simp] theorem State.applyGroup_kept (s : State) (g : Nat) :
    (State.applyGroup s g).kept = s.kept := by
  unfold State.applyGroup
  repeat' (first | with_reducible rfl | simp only [↓kept_with, ↓kept_ite, ite_self, ↓State.odApply_kept, ↓State.odSetN_kept, ↓State.setGSt_kept] | refine kept_foldl (fun _ _ => ?_) ?_ | split | rfl)

@[simp] theorem State.updFlight_kept (s : State) (r : DescRef) (f : Flight → Flight) :
    (State.updFlight s r f).kept = s.kept := by
  unfold State.updFlight
  repeat' (first | with_reducible rfl | simp only [↓kept_with, ↓kept_ite, ite_self] | refine kept_foldl (fun _ _ => ?_) ?_ | split | rfl)

@[simp] theorem State.flightDone_kept (s : State) (r : DescRef) :
    (State.flightDone s r).kept = s.kept := by
  unfold State.flightDone
  repeat' (first | with_reducible rfl | simp only [↓kept_with, ↓kept_ite, ite_self, ↓State.updFlight_kept] | refine kept_foldl (fun _ _ => ?_) ?_ | split | rfl)

@[simp] theorem State.flightForce_kept (s : State) (r : DescRef) (e : UEnd) :
    (State.flightForce s r e).kept = s.kept := by
  unfold State.flightForce
  repeat' (first | with_reducible rfl | simp only [↓kept_with, ↓kept_ite, ite_self, ↓State.flightDone_kept, ↓State.updFlight_kept] | refine kept_foldl (fun _ _ => ?_) ?_ | split | rfl)

@[simp] theorem State.collFinish_kept (s : State) (c : Coll) :
    (State.collFinish s c).kept = s.kept := by
  unfold State.collFinish
  repeat' (first | with_reducible rfl | simp only [↓kept_with, ↓kept_ite, ite_self, ↓State.flightForce_kept, ↓State.updFlight_kept] | refine kept_foldl (fun _ _ => ?_) ?_ | split | rfl)

@[simp] theorem State.collEnd_kept (s : State) (c : Coll) (e : UEnd) (abortSub : Nat) (from_ : Option Nat) :
    (State.collEnd s c e abortSub from_).kept = s.kept := by
  unfold State.collEnd
  repeat' (first | with_reducible rfl | simp only [↓kept_with, ↓kept_ite, ite_self, ↓State.applyGroup_kept, ↓State.colSend_kept, ↓State.collFinish_kept, ↓State.collTrace_kept, ↓State.odInc_kept, ↓State.setGSt_kept, ↓State.showPools_kept, ↓State.updColl_kept] | refine kept_foldl (fun _ _ => ?_) ?_ | split | rfl)

@[simp] theorem State.collFail_kept (s : State) (c : Coll) (sub : Nat) :
    (State.collFail s c sub).kept = s.kept := by
  unfold State.collFail
  repeat' (first | with_reducible rfl | simp only [↓kept_with, ↓kept_ite, ite_self, ↓State.collEnd_kept] | refine kept_foldl (fun _ _ => ?_) ?_ | split | rfl)

@[simp] theorem State.takeGrant_kept (s : State) (ref : DescRef) (p : Pkt) :
    (State.takeGrant s ref p).kept = s.kept := by
  unfold State.takeGrant
  repeat' (first | with_reducible rfl | simp only [↓kept_with, ↓kept_ite, ite_self, ↓State.colSend_kept, ↓State.collFail_kept, ↓State.grantUp_kept, ↓State.updColl_kept] | refine kept_foldl (fun _ _ => ?_) ?_ | split | rfl)

@[simp] theorem State.admitGo_kept (s : State) (ref : DescRef) (p : Nat) (d : Nat) (b : List Byte) :
    (State.admitGo s ref p d b).kept = s.kept := by
  unfold State.admitGo
  repeat' (first | with_reducible rfl | simp only [↓kept_with, ↓kept_ite, ite_self, ↓State.collTrace_kept, ↓State.grant_kept, ↓State.grantUp_kept, ↓State.odApply_kept, ↓State.odInc_kept, ↓State.odSetN_kept, ↓State.setGSt_kept, ↓State.showPools_kept, ↓State.takeGrant_kept] | refine kept_foldl (fun _ _ => ?_) ?_ | split | rfl)

@[simp] theorem State.advance_kept (s : State) :
    (State.advance s).kept = s.kept := by
  unfold State.advance
  repeat' (first | with_reducible rfl | simp only [↓kept_with, ↓kept_ite, ite_self] | refine kept_foldl (fun _ _ => ?_) ?_ | split | rfl)

@[simp] theorem State.mgmtSet_kept (s : State) (f : Mgmt → Mgmt) :
    (State.mgmtSet s f).kept = s.kept := by
  unfold State.mgmtSet
  repeat' (first | with_reducible rfl | simp only [↓kept_with, ↓kept_ite, ite_self] | refine kept_foldl (fun _ _ => ?_) ?_ | split | rfl)

@[simp] theorem State.agedEvents_kept (s : State) :
    (State.agedEvents s).kept = s.kept := by
  unfold State.agedEvents
  repeat' (first | with_reducible rfl | simp only [↓kept_with, ↓kept_ite, ite_self, ↓State.mgmtSet_kept] | refine kept_foldl (fun _ _ => ?_) ?_ | split | rfl)

@[simp] theorem State.alertLine_kept (s : State) :
    (State.alertLine s).kept = s.kept := by
  unfold State.alertLine
  repeat' (first | with_reducible rfl | simp only [↓kept_with, ↓kept_ite, ite_self] | refine kept_foldl (fun _ _ => ?_) ?_ | split | rfl)

@[simp] theorem State.alertSet_kept (s : State) (b : Nat) (on : Bool) :
    (State.alertSet s b on).kept = s.kept := by
  unfold State.alertSet
  repeat' (first | with_reducible rfl | simp only [↓kept_with, ↓kept_ite, ite_self, ↓State.alertLine_kept, ↓State.odSetN_kept] | refine kept_foldl (fun _ _ => ?_) ?_ | split | rfl)

@[simp] theorem State.putS_kept (s : State) (n : Nat) (k : Nat) (r : Nat) (v : Word) :
    (State.putS s n k r v).kept = s.kept := by
  unfold State.putS
  repeat' (first | with_reducible rfl | simp only [↓kept_with, ↓kept_ite, ite_self, ↓State.setCore_kept] | refine kept_foldl (fun _ _ => ?_) ?_ | split | rfl)

@[simp] theorem State.progressed_kept (s : State) (n : Nat) :
    (State.progressed s n).kept = s.kept := by
  unfold State.progressed
  repeat' (first | with_reducible rfl | simp only [↓kept_with, ↓kept_ite, ite_self, ↓State.odApply_kept, ↓State.pulse_kept] | refine kept_foldl (fun _ _ => ?_) ?_ | split | rfl)

@[simp] theorem State.goto_kept (s : State) (n : Nat) (k : Nat) (w : Word) (pc' : Word) :
    (State.goto s n k w pc').kept = s.kept := by
  unfold State.goto
  repeat' (first | with_reducible rfl | simp only [↓kept_with, ↓kept_ite, ite_self, ↓State.progressed_kept, ↓State.setCore_kept] | refine kept_foldl (fun _ _ => ?_) ?_ | split | rfl)

@[simp] theorem State.retire_kept (s : State) (n : Nat) (k : Nat) (w : Word) :
    (State.retire s n k w).kept = s.kept := by
  unfold State.retire
  repeat' (first | with_reducible rfl | simp only [↓kept_with, ↓kept_ite, ite_self, ↓State.goto_kept] | refine kept_foldl (fun _ _ => ?_) ?_ | split | rfl)

@[simp] theorem State.alu_kept (s : State) (n : Nat) (k : Nat) (w : Word) (v : Word) :
    (State.alu s n k w v).kept = s.kept := by
  unfold State.alu
  repeat' (first | with_reducible rfl | simp only [↓kept_with, ↓kept_ite, ite_self, ↓State.putS_kept, ↓State.retire_kept] | refine kept_foldl (fun _ _ => ?_) ?_ | split | rfl)

@[simp] theorem State.leavesGrey_kept (s : State) :
    (State.leavesGrey s).kept = s.kept := by
  unfold State.leavesGrey
  repeat' (first | with_reducible rfl | simp only [↓kept_with, ↓kept_ite, ite_self] | refine kept_foldl (fun _ _ => ?_) ?_ | split | rfl)

@[simp] theorem State.enter_kept (s : State) (v : Svc) (alert : Bool) :
    (State.enter s v alert).kept = s.kept := by
  unfold State.enter
  repeat' (first | with_reducible rfl | simp only [↓kept_with, ↓kept_ite, ite_self, ↓State.alertSet_kept, ↓State.fnEvent_kept, ↓State.leavesGrey_kept, ↓State.odSetN_kept, ↓State.raise_kept] | refine kept_foldl (fun _ _ => ?_) ?_ | split | rfl)

@[simp] theorem State.amber_kept (s : State) (b : Nat) (on : Bool) :
    (State.amber s b on).kept = s.kept := by
  unfold State.amber
  repeat' (first | with_reducible rfl | simp only [↓kept_with, ↓kept_ite, ite_self, ↓State.enter_kept, ↓State.odSetN_kept] | refine kept_foldl (fun _ _ => ?_) ?_ | split | rfl)

@[simp] theorem State.announceTo_kept (s : State) (dst : Nat) :
    (State.announceTo s dst).kept = s.kept := by
  unfold State.announceTo
  repeat' (first | with_reducible rfl | simp only [↓kept_with, ↓kept_ite, ite_self, ↓State.odApply_kept, ↓State.sendTo_kept] | refine kept_foldl (fun _ _ => ?_) ?_ | split | rfl)

@[simp] theorem State.updWin_kept (s : State) (src : Nat) (spart : Nat) (f : Win → Win) :
    (State.updWin s src spart f).kept = s.kept := by
  unfold State.updWin
  repeat' (first | with_reducible rfl | simp only [↓kept_with, ↓kept_ite, ite_self] | refine kept_foldl (fun _ _ => ?_) ?_ | split | rfl)

@[simp] theorem State.answer_kept (s : State) (p : Pkt) (r : Pkt) :
    (State.answer s p r).kept = s.kept := by
  unfold State.answer
  repeat' (first | with_reducible rfl | simp only [↓kept_with, ↓kept_ite, ite_self, ↓State.inject_kept, ↓State.updWin_kept] | refine kept_foldl (fun _ _ => ?_) ?_ | split | rfl)

@[simp] theorem State.apertureTake_kept (s : State) (p : Nat) (n : Nat) :
    (State.apertureTake s p n).kept = s.kept := by
  unfold State.apertureTake
  repeat' (first | with_reducible rfl | simp only [↓kept_with, ↓kept_ite, ite_self, ↓State.odAccept_kept, ↓State.odApply_kept] | refine kept_foldl (fun _ _ => ?_) ?_ | split | rfl)

@[simp] theorem State.leaveWhite_kept (s : State) :
    (State.leaveWhite s).kept = s.kept := by
  unfold State.leaveWhite
  repeat' (first | with_reducible rfl | simp only [↓kept_with, ↓kept_ite, ite_self, ↓State.enter_kept] | refine kept_foldl (fun _ _ => ?_) ?_ | split | rfl)

@[simp] theorem State.faultRecordAs_kept (s : State) (st : Nat) (code : Nat) (action : Nat) (kind : Nat) (target : Nat) (part : Option Nat) (esc : Bool) (detail : Nat) :
    (State.faultRecordAs s st code action kind target part esc detail).kept = s.kept := by
  unfold State.faultRecordAs
  repeat' (first | with_reducible rfl | simp only [↓kept_with, ↓kept_ite, ite_self, ↓State.lilac_kept, ↓State.odInc_kept, ↓State.odSet_kept, ↓State.raise_kept] | refine kept_foldl (fun _ _ => ?_) ?_ | split | rfl)

@[simp] theorem State.faultRecord_kept (s : State) (code : Nat) (action : Nat) (kind : Nat) (target : Nat) (part : Option Nat) (esc : Bool) (detail : Nat) :
    (State.faultRecord s code action kind target part esc detail).kept = s.kept := by
  unfold State.faultRecord
  repeat' (first | with_reducible rfl | simp only [↓kept_with, ↓kept_ite, ite_self, ↓State.faultRecordAs_kept] | refine kept_foldl (fun _ _ => ?_) ?_ | split | rfl)

@[simp] theorem State.linkAmber_kept (s : State) :
    (State.linkAmber s).kept = s.kept := by
  unfold State.linkAmber
  repeat' (first | with_reducible rfl | simp only [↓kept_with, ↓kept_ite, ite_self, ↓State.amber_kept] | refine kept_foldl (fun _ _ => ?_) ?_ | split | rfl)

@[simp] theorem State.linksProgress_kept (s : State) :
    (State.linksProgress s).kept = s.kept := by
  unfold State.linksProgress
  repeat' (first | with_reducible rfl | simp only [↓kept_with, ↓kept_ite, ite_self, ↓State.odSetN_kept] | refine kept_foldl (fun _ _ => ?_) ?_ | split | rfl)

@[simp] theorem State.linkEnded_kept (s : State) (n : Nat) :
    (State.linkEnded s n).kept = s.kept := by
  unfold State.linkEnded
  repeat' (first | with_reducible rfl | simp only [↓kept_with, ↓kept_ite, ite_self, ↓State.linksProgress_kept] | refine kept_foldl (fun _ _ => ?_) ?_ | split | rfl)

@[simp] theorem State.linkEvent_kept (s : State) (n : Nat) :
    (State.linkEvent s n).kept = s.kept := by
  unfold State.linkEvent
  repeat' (first | with_reducible rfl | simp only [↓kept_with, ↓kept_ite, ite_self, ↓State.raise_kept] | refine kept_foldl (fun _ _ => ?_) ?_ | split | rfl)

@[simp] theorem State.showTime_kept (s : State) :
    (State.showTime s).kept = s.kept := by
  unfold State.showTime
  repeat' (first | with_reducible rfl | simp only [↓kept_with, ↓kept_ite, ite_self, ↓State.odSetN_kept] | refine kept_foldl (fun _ _ => ?_) ?_ | split | rfl)

@[simp] theorem State.timeFree_kept (s : State) :
    (State.timeFree s).kept = s.kept := by
  unfold State.timeFree
  repeat' (first | with_reducible rfl | simp only [↓kept_with, ↓kept_ite, ite_self, ↓State.showTime_kept] | refine kept_foldl (fun _ _ => ?_) ?_ | split | rfl)

@[simp] theorem State.timeLost_kept (s : State) (n : Nat) :
    (State.timeLost s n).kept = s.kept := by
  unfold State.timeLost
  repeat' (first | with_reducible rfl | simp only [↓kept_with, ↓kept_ite, ite_self, ↓State.timeFree_kept] | refine kept_foldl (fun _ _ => ?_) ?_ | split | rfl)

@[simp] theorem State.linkGo_kept (s : State) (n : Nat) (st : LinkSt) (reason : Nat) :
    (State.linkGo s n st reason).kept = s.kept := by
  unfold State.linkGo
  repeat' (first | with_reducible rfl | simp only [↓kept_with, ↓kept_ite, ite_self, ↓State.faultRecord_kept, ↓State.linkAmber_kept, ↓State.linkEnded_kept, ↓State.linkEvent_kept, ↓State.odInc_kept, ↓State.odSetN_kept, ↓State.pulse_kept, ↓State.setLink_kept, ↓State.timeLost_kept, ↓State.updLink_kept] | refine kept_foldl (fun _ _ => ?_) ?_ | split | rfl)

@[simp] theorem State.xingClear_kept (s : State) (q : Nat → Nat → Bool) :
    (State.xingClear s q).kept = s.kept := by
  unfold State.xingClear
  repeat' (first | with_reducible rfl | simp only [↓kept_with, ↓kept_ite, ite_self] | refine kept_foldl (fun _ _ => ?_) ?_ | split | rfl)

@[simp] theorem State.linkReset_kept (s : State) (n : Nat) :
    (State.linkReset s n).kept = s.kept := by
  unfold State.linkReset
  repeat' (first | with_reducible rfl | simp only [↓kept_with, ↓kept_ite, ite_self, ↓State.xingClear_kept] | refine kept_foldl (fun _ _ => ?_) ?_ | split | rfl)

@[simp] theorem State.showMap_kept (s : State) (n : Nat) :
    (State.showMap s n).kept = s.kept := by
  unfold State.showMap
  repeat' (first | with_reducible rfl | simp only [↓kept_with, ↓kept_ite, ite_self, ↓State.odSetN_kept] | refine kept_foldl (fun _ _ => ?_) ?_ | split | rfl)

@[simp] theorem State.linkDetect_kept (s : State) (n : Nat) :
    (State.linkDetect s n).kept = s.kept := by
  unfold State.linkDetect
  repeat' (first | with_reducible rfl | simp only [↓kept_with, ↓kept_ite, ite_self, ↓State.linkGo_kept, ↓State.linkReset_kept, ↓State.odApply_kept, ↓State.showMap_kept, ↓State.updLink_kept] | refine kept_foldl (fun _ _ => ?_) ?_ | split | rfl)

@[simp] theorem State.linksAdded_kept (s : State) :
    (State.linksAdded s).kept = s.kept := by
  unfold State.linksAdded
  repeat' (first | with_reducible rfl | simp only [↓kept_with, ↓kept_ite, ite_self, ↓State.linkDetect_kept] | refine kept_foldl (fun _ _ => ?_) ?_ | split | rfl)

@[simp] theorem State.applyLicence_kept (s : State) :
    (State.applyLicence s).kept = s.kept := by
  unfold State.applyLicence
  repeat' (first | with_reducible rfl | simp only [↓kept_with, ↓kept_ite, ite_self, ↓State.leaveWhite_kept, ↓State.linksAdded_kept, ↓State.odApply_kept, ↓State.odSet_kept, ↓State.odSetN_kept] | refine kept_foldl (fun _ _ => ?_) ?_ | split | rfl)

@[simp] theorem State.pairAmber_kept (s : State) :
    (State.pairAmber s).kept = s.kept := by
  unfold State.pairAmber
  repeat' (first | with_reducible rfl | simp only [↓kept_with, ↓kept_ite, ite_self, ↓State.amber_kept] | refine kept_foldl (fun _ _ => ?_) ?_ | split | rfl)

@[simp] theorem State.spareGo_kept (s : State) (k : Nat) (st : Nat) :
    (State.spareGo s k st).kept = s.kept := by
  unfold State.spareGo
  repeat' (first | with_reducible rfl | simp only [↓kept_with, ↓kept_ite, ite_self, ↓State.faultRecord_kept, ↓State.odSetN_kept, ↓State.pairAmber_kept, ↓State.raise_kept] | refine kept_foldl (fun _ _ => ?_) ?_ | split | rfl)

@[simp] theorem State.spareWrite_kept (s : State) (k : Nat) (v : Nat) :
    (State.spareWrite s k v).kept = s.kept := by
  unfold State.spareWrite
  repeat' (first | with_reducible rfl | simp only [↓kept_with, ↓kept_ite, ite_self, ↓State.odSetN_kept, ↓State.spareGo_kept] | refine kept_foldl (fun _ _ => ?_) ?_ | split | rfl)

@[simp] theorem State.assignSpare_kept (s : State) (k : Nat) :
    (State.assignSpare s k).kept = s.kept := by
  unfold State.assignSpare
  repeat' (first | with_reducible rfl | simp only [↓kept_with, ↓kept_ite, ite_self, ↓State.odApply_kept, ↓State.pairAmber_kept, ↓State.spareWrite_kept] | refine kept_foldl (fun _ _ => ?_) ?_ | split | rfl)

@[simp] theorem State.pairFailing_kept (s : State) (k : Nat) (c : Nat) :
    (State.pairFailing s k c).kept = s.kept := by
  unfold State.pairFailing
  repeat' (first | with_reducible rfl | simp only [↓kept_with, ↓kept_ite, ite_self, ↓State.assignSpare_kept, ↓State.faultRecord_kept, ↓State.odAccept_kept] | refine kept_foldl (fun _ _ => ?_) ?_ | split | rfl)

@[simp] theorem State.applyRemap_kept (s : State) :
    (State.applyRemap s).kept = s.kept := by
  unfold State.applyRemap
  repeat' (first | with_reducible rfl | simp only [↓kept_with, ↓kept_ite, ite_self, ↓State.odApply_kept, ↓State.odSetN_kept, ↓State.pairFailing_kept] | refine kept_foldl (fun _ _ => ?_) ?_ | split | rfl)

@[simp] theorem State.applySpares_kept (s : State) (bad : Nat) (armed : Nat) :
    (State.applySpares s bad armed).kept = s.kept := by
  unfold State.applySpares
  repeat' (first | with_reducible rfl | simp only [↓kept_with, ↓kept_ite, ite_self, ↓State.spareGo_kept] | refine kept_foldl (fun _ _ => ?_) ?_ | split | rfl)

@[simp] theorem State.arrivalCount_kept (s : State) (core : Nat) (cnt : Nat) (n : Nat) :
    (State.arrivalCount s core cnt n).kept = s.kept := by
  unfold State.arrivalCount
  repeat' (first | with_reducible rfl | simp only [↓kept_with, ↓kept_ite, ite_self, ↓State.addIn_kept, ↓State.pulse_kept] | refine kept_foldl (fun _ _ => ?_) ?_ | split | rfl)

@[simp] theorem State.control_kept (s : State) (n : Nat) (code : Nat) (bs : List Byte) :
    (State.control s n code bs).kept = s.kept := by
  unfold State.control
  repeat' (first | with_reducible rfl | simp only [↓kept_with, ↓kept_ite, ite_self, ↓State.emit_kept, ↓State.sendPair_kept] | refine kept_foldl (fun _ _ => ?_) ?_ | split | rfl)

@[simp] theorem State.askRepair_kept (s : State) (n : Nat) (r : Repair) :
    (State.askRepair s n r).kept = s.kept := by
  unfold State.askRepair
  repeat' (first | with_reducible rfl | simp only [↓kept_with, ↓kept_ite, ite_self, ↓State.control_kept, ↓State.updLink_kept] | refine kept_foldl (fun _ _ => ?_) ?_ | split | rfl)

@[simp] theorem State.asyncFault_kept (s : State) (n : Nat) (k : Nat) (w : Word) (code : Nat) (info : Nat) :
    (State.asyncFault s n k w code info).kept = s.kept := by
  unfold State.asyncFault
  repeat' (first | with_reducible rfl | simp only [↓kept_with, ↓kept_ite, ite_self, ↓State.setCore_kept] | refine kept_foldl (fun _ _ => ?_) ?_ | split | rfl)

@[simp] theorem State.bandStart_kept (s : State) :
    (State.bandStart s).kept = s.kept := by
  unfold State.bandStart
  repeat' (first | with_reducible rfl | simp only [↓kept_with, ↓kept_ite, ite_self, ↓State.odApply_kept, ↓State.odSetN_kept] | refine kept_foldl (fun _ _ => ?_) ?_ | split | rfl)

@[simp] theorem State.bankAmber_kept (s : State) :
    (State.bankAmber s).kept = s.kept := by
  unfold State.bankAmber
  repeat' (first | with_reducible rfl | simp only [↓kept_with, ↓kept_ite, ite_self, ↓State.amber_kept] | refine kept_foldl (fun _ _ => ?_) ?_ | split | rfl)

@[simp] theorem State.setBank_kept (s : State) (n : Nat) (b : Nat) (x : Bank) :
    (State.setBank s n b x).kept = s.kept := by
  unfold State.setBank
  repeat' (first | with_reducible rfl | simp only [↓kept_with, ↓kept_ite, ite_self, ↓State.setCore_kept] | refine kept_foldl (fun _ _ => ?_) ?_ | split | rfl)

@[simp] theorem State.bankFail_kept (s : State) (n : Nat) (b : Nat) :
    (State.bankFail s n b).kept = s.kept := by
  unfold State.bankFail
  repeat' (first | with_reducible rfl | simp only [↓kept_with, ↓kept_ite, ite_self, ↓State.bankAmber_kept, ↓State.faultRecord_kept, ↓State.setBank_kept] | refine kept_foldl (fun _ _ => ?_) ?_ | split | rfl)

@[simp] theorem State.releaseCore_kept (s : State) (n : Nat) :
    (State.releaseCore s n).kept = s.kept := by
  unfold State.releaseCore
  repeat' (first | with_reducible rfl | simp only [↓kept_with, ↓kept_ite, ite_self, ↓State.setCore_kept] | refine kept_foldl (fun _ _ => ?_) ?_ | split | rfl)

@[simp] theorem State.signalCE_kept (s : State) (n : Nat) (ce : Bool) (cnt : Nat) (v : Nat) :
    (State.signalCE s n ce cnt v).kept = s.kept := by
  unfold State.signalCE
  repeat' (first | with_reducible rfl | simp only [↓kept_with, ↓kept_ite, ite_self, ↓State.addCnt_kept] | refine kept_foldl (fun _ _ => ?_) ?_ | split | rfl)

@[simp] theorem State.mDone_kept (s : State) (n : Nat) (m : MOp) (v : Nat) :
    (State.mDone s n m v).kept = s.kept := by
  unfold State.mDone
  repeat' (first | with_reducible rfl | simp only [↓kept_with, ↓kept_ite, ite_self, ↓State.dropMop_kept, ↓State.releaseCore_kept, ↓State.signalCE_kept] | refine kept_foldl (fun _ _ => ?_) ?_ | split | rfl)

@[simp] theorem State.bankWritten_kept (s : State) (who : BankReq) :
    (State.bankWritten s who).kept = s.kept := by
  unfold State.bankWritten
  repeat' (first | with_reducible rfl | simp only [↓kept_with, ↓kept_ite, ite_self, ↓State.addAct_kept, ↓State.mDone_kept] | refine kept_foldl (fun _ _ => ?_) ?_ | split | rfl)

@[simp] theorem State.bankTake_kept (s : State) (n : Nat) (b : Nat) (w : BankWrite) :
    (State.bankTake s n b w).kept = s.kept := by
  unfold State.bankTake
  repeat' (first | with_reducible rfl | simp only [↓kept_with, ↓kept_ite, ite_self, ↓State.bankWritten_kept, ↓State.odInc_kept, ↓State.setBank_kept] | refine kept_foldl (fun _ _ => ?_) ?_ | split | rfl)

@[simp] theorem State.bankHeldGo_kept (x0 : Nat) (x1 : State) (x2 : Nat) (x3 : Nat) :
    (State.bankHeldGo x0 x1 x2 x3).kept = x1.kept := by
  induction x0 generalizing x1 with
  | zero => rfl
  | succ k ih =>
    simp only [State.bankHeldGo]
    split
    · rw [ih, State.bankTake_kept, State.setBank_kept]
    · rfl

@[simp] theorem State.bankWrite_kept (s : State) (n : Nat) (b : Nat) (w : BankWrite) :
    (State.bankWrite s n b w).kept = s.kept := by
  unfold State.bankWrite
  repeat' (first | with_reducible rfl | simp only [↓kept_with, ↓kept_ite, ite_self, ↓State.bankTake_kept, ↓State.setBank_kept, ↓State.updMop_kept] | refine kept_foldl (fun _ _ => ?_) ?_ | split | rfl)

@[simp] theorem State.begin_kept (s : State) (p : Pkt) :
    (State.begin s p).kept = s.kept := by
  unfold State.begin
  repeat' (first | with_reducible rfl | simp only [↓kept_with, ↓kept_ite, ite_self] | refine kept_foldl (fun _ _ => ?_) ?_ | split | rfl)

@[simp] theorem State.setEp_kept (s : State) (p : Nat) (e : Ep) :
    (State.setEp s p e).kept = s.kept := by
  unfold State.setEp
  repeat' (first | with_reducible rfl | simp only [↓kept_with, ↓kept_ite, ite_self] | refine kept_foldl (fun _ _ => ?_) ?_ | split | rfl)

@[simp] theorem State.showEp_kept (s : State) (p : Nat) :
    (State.showEp s p).kept = s.kept := by
  unfold State.showEp
  repeat' (first | with_reducible rfl | simp only [↓kept_with, ↓kept_ite, ite_self, ↓State.odSetN_kept] | refine kept_foldl (fun _ _ => ?_) ?_ | split | rfl)

@[simp] theorem State.epGo_kept (s : State) (p : Nat) (st : MemSt) :
    (State.epGo s p st).kept = s.kept := by
  unfold State.epGo
  repeat' (first | with_reducible rfl | simp only [↓kept_with, ↓kept_ite, ite_self, ↓State.lilac_kept, ↓State.setEp_kept, ↓State.showEp_kept] | refine kept_foldl (fun _ _ => ?_) ?_ | split | rfl)

@[simp] theorem State.setAgent_kept (s : State) (g : Nat) (a : Agent) :
    (State.setAgent s g a).kept = s.kept := by
  unfold State.setAgent
  repeat' (first | with_reducible rfl | simp only [↓kept_with, ↓kept_ite, ite_self] | refine kept_foldl (fun _ _ => ?_) ?_ | split | rfl)

@[simp] theorem State.setMach_kept (s : State) (g : Nat) (m : Mach) :
    (State.setMach s g m).kept = s.kept := by
  unfold State.setMach
  repeat' (first | with_reducible rfl | simp only [↓kept_with, ↓kept_ite, ite_self, ↓State.setAgent_kept] | refine kept_foldl (fun _ _ => ?_) ?_ | split | rfl)

@[simp] theorem State.coGo_kept (s : State) (g : Nat) (epoch : Nat) (st : CoSt) :
    (State.coGo s g epoch st).kept = s.kept := by
  unfold State.coGo
  repeat' (first | with_reducible rfl | simp only [↓kept_with, ↓kept_ite, ite_self, ↓State.lilac_kept, ↓State.odSetN_kept, ↓State.setMach_kept] | refine kept_foldl (fun _ _ => ?_) ?_ | split | rfl)

@[simp] theorem State.coCollect_kept (s : State) (g : Nat) (epoch : Nat) :
    (State.coCollect s g epoch).kept = s.kept := by
  unfold State.coCollect
  repeat' (first | with_reducible rfl | simp only [↓kept_with, ↓kept_ite, ite_self, ↓State.coGo_kept, ↓State.odApply_kept] | refine kept_foldl (fun _ _ => ?_) ?_ | split | rfl)

@[simp] theorem State.epSend_kept (s : State) (g : Nat) (ref : Nat) (kind : Nat) (term : Nat) (epoch : Nat) (value : Nat) (cause : Nat) (rterm : Nat) (count : Nat) (rank : Nat) :
    (State.epSend s g ref kind term epoch value cause rterm count rank).kept = s.kept := by
  unfold State.epSend
  repeat' (first | with_reducible rfl | simp only [↓kept_with, ↓kept_ite, ite_self, ↓State.request_kept] | refine kept_foldl (fun _ _ => ?_) ?_ | split | rfl)

@[simp] theorem State.hold_kept (s : State) (g : Nat) (d : Dec) :
    (State.hold s g d).kept = s.kept := by
  unfold State.hold
  repeat' (first | with_reducible rfl | simp only [↓kept_with, ↓kept_ite, ite_self, ↓State.setAgent_kept] | refine kept_foldl (fun _ _ => ?_) ?_ | split | rfl)

@[simp] theorem State.toStacks_kept (s : State) (p : Nat) (commit : Bool) :
    (State.toStacks s p commit).kept = s.kept := by
  unfold State.toStacks
  repeat' (first | with_reducible rfl | simp only [↓kept_with, ↓kept_ite, ite_self, ↓State.pulse_kept] | refine kept_foldl (fun _ _ => ?_) ?_ | split | rfl)

@[simp] theorem State.unitEnd_kept (s : State) (r : DescRef) (u : Nat) (e : UEnd) :
    (State.unitEnd s r u e).kept = s.kept := by
  unfold State.unitEnd
  repeat' (first | with_reducible rfl | simp only [↓kept_with, ↓kept_ite, ite_self, ↓State.flightDone_kept, ↓State.updFlight_kept] | refine kept_foldl (fun _ _ => ?_) ?_ | split | rfl)

@[simp] theorem State.commitClose_kept (s : State) (p : Nat) :
    (State.commitClose s p).kept = s.kept := by
  unfold State.commitClose
  repeat' (first | with_reducible rfl | simp only [↓kept_with, ↓kept_ite, ite_self, ↓State.epGo_kept, ↓State.odInc_kept, ↓State.setEp_kept, ↓State.toStacks_kept, ↓State.unitEnd_kept, ↓State.updFlight_kept] | refine kept_foldl (fun _ _ => ?_) ?_ | split | rfl)

@[simp] theorem State.epAttention_kept (s : State) (p : Nat) (k : Nat) :
    (State.epAttention s p k).kept = s.kept := by
  unfold State.epAttention
  repeat' (first | with_reducible rfl | simp only [↓kept_with, ↓kept_ite, ite_self, ↓State.raise_kept] | refine kept_foldl (fun _ _ => ?_) ?_ | split | rfl)

@[simp] theorem State.contradict_kept (s : State) (p : Nat) :
    (State.contradict s p).kept = s.kept := by
  unfold State.contradict
  repeat' (first | with_reducible rfl | simp only [↓kept_with, ↓kept_ite, ite_self, ↓State.epAttention_kept, ↓State.odInc_kept] | refine kept_foldl (fun _ _ => ?_) ?_ | split | rfl)

@[simp] theorem State.epCause_kept (s : State) (p : Nat) (c : Nat) :
    (State.epCause s p c).kept = s.kept := by
  unfold State.epCause
  repeat' (first | with_reducible rfl | simp only [↓kept_with, ↓kept_ite, ite_self, ↓State.odInc_kept, ↓State.setEp_kept, ↓State.showEp_kept] | refine kept_foldl (fun _ _ => ?_) ?_ | split | rfl)

@[simp] theorem State.startRestore_kept (s : State) (p : Nat) :
    (State.startRestore s p).kept = s.kept := by
  unfold State.startRestore
  repeat' (first | with_reducible rfl | simp only [↓kept_with, ↓kept_ite, ite_self, ↓State.epGo_kept, ↓State.odInc_kept, ↓State.setEp_kept, ↓State.toStacks_kept] | refine kept_foldl (fun _ _ => ?_) ?_ | split | rfl)

@[simp] theorem State.toChildren_kept (s : State) (p : Nat) (kind : Nat) (value : Nat) (cause : Nat) :
    (State.toChildren s p kind value cause).kept = s.kept := by
  unfold State.toChildren
  repeat' (first | with_reducible rfl | simp only [↓kept_with, ↓kept_ite, ite_self, ↓State.epSend_kept] | refine kept_foldl (fun _ _ => ?_) ?_ | split | rfl)

@[simp] theorem State.memberDecide_kept (s : State) (p : Nat) (value : Nat) (cause : Nat) (fwd : Bool) :
    (State.memberDecide s p value cause fwd).kept = s.kept := by
  unfold State.memberDecide
  repeat' (first | with_reducible rfl | simp only [↓kept_with, ↓kept_ite, ite_self, ↓State.commitClose_kept, ↓State.contradict_kept, ↓State.epCause_kept, ↓State.epGo_kept, ↓State.setEp_kept, ↓State.startRestore_kept, ↓State.toChildren_kept] | refine kept_foldl (fun _ _ => ?_) ?_ | split | rfl)

@[simp] theorem State.coDecided_kept (s : State) (g : Nat) (epoch : Nat) :
    (State.coDecided s g epoch).kept = s.kept := by
  unfold State.coDecided
  repeat' (first | with_reducible rfl | simp only [↓kept_with, ↓kept_ite, ite_self, ↓State.coGo_kept, ↓State.epSend_kept, ↓State.hold_kept, ↓State.memberDecide_kept, ↓State.odApply_kept] | refine kept_foldl (fun _ _ => ?_) ?_ | split | rfl)

@[simp] theorem State.coCheck_kept (s : State) (g : Nat) (epoch : Nat) :
    (State.coCheck s g epoch).kept = s.kept := by
  unfold State.coCheck
  repeat' (first | with_reducible rfl | simp only [↓kept_with, ↓kept_ite, ite_self, ↓State.coDecided_kept] | refine kept_foldl (fun _ _ => ?_) ?_ | split | rfl)

@[simp] theorem State.sendRecords_kept (s : State) (g : Nat) (epoch : Nat) :
    (State.sendRecords s g epoch).kept = s.kept := by
  unfold State.sendRecords
  repeat' (first | with_reducible rfl | simp only [↓kept_with, ↓kept_ite, ite_self, ↓State.epSend_kept] | refine kept_foldl (fun _ _ => ?_) ?_ | split | rfl)

@[simp] theorem State.coDecide_kept (s : State) (g : Nat) (d : Dec) :
    (State.coDecide s g d).kept = s.kept := by
  unfold State.coDecide
  repeat' (first | with_reducible rfl | simp only [↓kept_with, ↓kept_ite, ite_self, ↓State.coCheck_kept, ↓State.coGo_kept, ↓State.epCause_kept, ↓State.odApply_kept, ↓State.odInc_kept, ↓State.sendRecords_kept, ↓State.setAgent_kept, ↓State.setMach_kept] | refine kept_foldl (fun _ _ => ?_) ?_ | split | rfl)

@[simp] theorem State.coAbort_kept (s : State) (g : Nat) (epoch : Nat) (cause : Nat) :
    (State.coAbort s g epoch cause).kept = s.kept := by
  unfold State.coAbort
  repeat' (first | with_reducible rfl | simp only [↓kept_with, ↓kept_ite, ite_self, ↓State.coCollect_kept, ↓State.coDecide_kept] | refine kept_foldl (fun _ _ => ?_) ?_ | split | rfl)

@[simp] theorem State.sendAbort_kept (s : State) (p : Nat) (cause : Nat) :
    (State.sendAbort s p cause).kept = s.kept := by
  unfold State.sendAbort
  repeat' (first | with_reducible rfl | simp only [↓kept_with, ↓kept_ite, ite_self, ↓State.coAbort_kept, ↓State.epCause_kept, ↓State.epSend_kept] | refine kept_foldl (fun _ _ => ?_) ?_ | split | rfl)

@[simp] theorem State.castAbort_kept (s : State) (p : Nat) (cause : Nat) :
    (State.castAbort s p cause).kept = s.kept := by
  unfold State.castAbort
  repeat' (first | with_reducible rfl | simp only [↓kept_with, ↓kept_ite, ite_self, ↓State.epGo_kept, ↓State.sendAbort_kept] | refine kept_foldl (fun _ _ => ?_) ?_ | split | rfl)

@[simp] theorem State.fence_kept (s : State) (isCluster : Bool) (num : Nat) :
    (State.fence s isCluster num).kept = s.kept := by
  unfold State.fence
  repeat' (first | with_reducible rfl | simp only [↓kept_with, ↓kept_ite, ite_self, ↓State.odApply_kept, ↓State.odInc_kept] | refine kept_foldl (fun _ _ => ?_) ?_ | split | rfl)

@[simp] theorem State.tableEnds_kept (s : State) (q : SCmd → Bool) :
    (State.tableEnds s q).kept = s.kept := by
  unfold State.tableEnds
  repeat' (first | with_reducible rfl | simp only [↓kept_with, ↓kept_ite, ite_self, ↓State.updFlight_kept] | refine kept_foldl (fun _ _ => ?_) ?_ | split | rfl)

@[simp] theorem State.beginLegacy_kept (s : State) (scope : Nat) (target : Nat) :
    (State.beginLegacy s scope target).kept = s.kept := by
  unfold State.beginLegacy
  repeat' (first | with_reducible rfl | simp only [↓kept_with, ↓kept_ite, ite_self, ↓State.abandon_kept, ↓State.castAbort_kept, ↓State.fence_kept, ↓State.tableEnds_kept] | refine kept_foldl (fun _ _ => ?_) ?_ | split | rfl)

@[simp] theorem State.begunCut_kept (s : State) (gone : Pkt → Bool) :
    (State.begunCut s gone).kept = s.kept := by
  unfold State.begunCut
  repeat' (first | with_reducible rfl | simp only [↓kept_with, ↓kept_ite, ite_self, ↓State.odApplyAll_kept] | refine kept_foldl (fun _ _ => ?_) ?_ | split | rfl)

@[simp] theorem State.begunGone_kept (s : State) (p : Pkt) :
    (State.begunGone s p).kept = s.kept := by
  unfold State.begunGone
  repeat' (first | with_reducible rfl | simp only [↓kept_with, ↓kept_ite, ite_self, ↓State.begunCut_kept] | refine kept_foldl (fun _ _ => ?_) ?_ | split | rfl)

@[simp] theorem State.fwSet_kept (s : State) (f : Fw → Fw) :
    (State.fwSet s f).kept = s.kept := by
  unfold State.fwSet
  repeat' (first | with_reducible rfl | simp only [↓kept_with, ↓kept_ite, ite_self] | refine kept_foldl (fun _ _ => ?_) ?_ | split | rfl)

@[simp] theorem State.setSlate_kept (s : State) (b : Bool) (f : Slate → Slate) :
    (State.setSlate s b f).kept = s.kept := by
  unfold State.setSlate
  repeat' (first | with_reducible rfl | simp only [↓kept_with, ↓kept_ite, ite_self, ↓State.fwSet_kept] | refine kept_foldl (fun _ _ => ?_) ?_ | split | rfl)

@[simp] theorem State.bootOne_kept (s : State) (b : Bool) (curOk : Bool) (lastOk : Bool) :
    (State.bootOne s b curOk lastOk).kept = s.kept := by
  unfold State.bootOne
  repeat' (first | with_reducible rfl | simp only [↓kept_with, ↓kept_ite, ite_self, ↓State.setSlate_kept] | refine kept_foldl (fun _ _ => ?_) ?_ | split | rfl)

@[simp] theorem State.branch_kept (s : State) (n : Nat) (k : Nat) (w : Word) (taken : Bool) :
    (State.branch s n k w taken).kept = s.kept := by
  unfold State.branch
  repeat' (first | with_reducible rfl | simp only [↓kept_with, ↓kept_ite, ite_self, ↓State.goto_kept, ↓State.retire_kept] | refine kept_foldl (fun _ _ => ?_) ?_ | split | rfl)

@[simp] theorem State.lifeSet_kept (s : State) (f : Life → Life) :
    (State.lifeSet s f).kept = s.kept := by
  unfold State.lifeSet
  repeat' (first | with_reducible rfl | simp only [↓kept_with, ↓kept_ite, ite_self] | refine kept_foldl (fun _ _ => ?_) ?_ | split | rfl)

@[simp] theorem State.marchProgress_kept (s : State) :
    (State.marchProgress s).kept = s.kept := by
  unfold State.marchProgress
  repeat' (first | with_reducible rfl | simp only [↓kept_with, ↓kept_ite, ite_self, ↓State.odSetN_kept] | refine kept_foldl (fun _ _ => ?_) ?_ | split | rfl)

@[simp] theorem State.marchResult_kept (s : State) (n : Nat) (st : Nat) (bank : Nat) (alg : Nat) (mode : Nat) (row : Nat) :
    (State.marchResult s n st bank alg mode row).kept = s.kept := by
  unfold State.marchResult
  repeat' (first | with_reducible rfl | simp only [↓kept_with, ↓kept_ite, ite_self, ↓State.odSetN_kept] | refine kept_foldl (fun _ _ => ?_) ?_ | split | rfl)

@[simp] theorem State.bringupMarch_kept (s : State) :
    (State.bringupMarch s).kept = s.kept := by
  unfold State.bringupMarch
  repeat' (first | with_reducible rfl | simp only [↓kept_with, ↓kept_ite, ite_self, ↓State.lifeSet_kept, ↓State.marchProgress_kept, ↓State.marchResult_kept, ↓State.odApply_kept, ↓State.odSetN_kept, ↓State.setCore_kept] | refine kept_foldl (fun _ _ => ?_) ?_ | split | rfl)

@[simp] theorem State.bypassAmber_kept (s : State) :
    (State.bypassAmber s).kept = s.kept := by
  unfold State.bypassAmber
  repeat' (first | with_reducible rfl | simp only [↓kept_with, ↓kept_ite, ite_self, ↓State.amber_kept] | refine kept_foldl (fun _ _ => ?_) ?_ | split | rfl)

@[simp] theorem State.hotClear_kept (s : State) (k : Nat) :
    (State.hotClear s k).kept = s.kept := by
  unfold State.hotClear
  repeat' (first | with_reducible rfl | simp only [↓kept_with, ↓kept_ite, ite_self] | refine kept_foldl (fun _ _ => ?_) ?_ | split | rfl)

@[simp] theorem State.bypassPut_kept (s : State) (k : Nat) :
    (State.bypassPut s k).kept = s.kept := by
  unfold State.bypassPut
  repeat' (first | with_reducible rfl | simp only [↓kept_with, ↓kept_ite, ite_self, ↓State.hotClear_kept, ↓State.odApply_kept] | refine kept_foldl (fun _ _ => ?_) ?_ | split | rfl)

@[simp] theorem State.bypassSafe_kept (s : State) :
    (State.bypassSafe s).kept = s.kept := by
  unfold State.bypassSafe
  repeat' (first | with_reducible rfl | simp only [↓kept_with, ↓kept_ite, ite_self, ↓State.bypassAmber_kept, ↓State.bypassPut_kept] | refine kept_foldl (fun _ _ => ?_) ?_ | split | rfl)

@[simp] theorem State.capSend_kept (s : State) (n : Nat) (flags : Nat) :
    (State.capSend s n flags).kept = s.kept := by
  unfold State.capSend
  repeat' (first | with_reducible rfl | simp only [↓kept_with, ↓kept_ite, ite_self, ↓State.emit_kept] | refine kept_foldl (fun _ _ => ?_) ?_ | split | rfl)

@[simp] theorem State.pwr_kept (s : State) (f : Power → Power) :
    (State.pwr s f).kept = s.kept := by
  unfold State.pwr
  repeat' (first | with_reducible rfl | simp only [↓kept_with, ↓kept_ite, ite_self] | refine kept_foldl (fun _ _ => ?_) ?_ | split | rfl)

@[simp] theorem State.paceSend_kept (s : State) (g : Nat) (ref : Nat) (kind : Nat) (freq : Nat) (tick : Nat) :
    (State.paceSend s g ref kind freq tick).kept = s.kept := by
  unfold State.paceSend
  repeat' (first | with_reducible rfl | simp only [↓kept_with, ↓kept_ite, ite_self, ↓State.request_kept] | refine kept_foldl (fun _ _ => ?_) ?_ | split | rfl)

@[simp] theorem State.setsDown_kept (s : State) (g : Nat) (freq : Nat) (tick : Nat) :
    (State.setsDown s g freq tick).kept = s.kept := by
  unfold State.setsDown
  repeat' (first | with_reducible rfl | simp only [↓kept_with, ↓kept_ite, ite_self, ↓State.paceSend_kept] | refine kept_foldl (fun _ _ => ?_) ?_ | split | rfl)

@[simp] theorem State.leaderSet_kept (s : State) (g : Nat) (m : Nat) :
    (State.leaderSet s g m).kept = s.kept := by
  unfold State.leaderSet
  repeat' (first | with_reducible rfl | simp only [↓kept_with, ↓kept_ite, ite_self, ↓State.odApply_kept, ↓State.pwr_kept, ↓State.setsDown_kept] | refine kept_foldl (fun _ _ => ?_) ?_ | split | rfl)

@[simp] theorem State.sendReport_kept (s : State) :
    (State.sendReport s).kept = s.kept := by
  unfold State.sendReport
  repeat' (first | with_reducible rfl | simp only [↓kept_with, ↓kept_ite, ite_self, ↓State.odApply_kept, ↓State.paceSend_kept, ↓State.pwr_kept] | refine kept_foldl (fun _ _ => ?_) ?_ | split | rfl)

@[simp] theorem State.paceEval_kept (s : State) :
    (State.paceEval s).kept = s.kept := by
  unfold State.paceEval
  repeat' (first | with_reducible rfl | simp only [↓kept_with, ↓kept_ite, ite_self, ↓State.leaderSet_kept, ↓State.odApply_kept, ↓State.pwr_kept, ↓State.sendReport_kept] | refine kept_foldl (fun _ _ => ?_) ?_ | split | rfl)

@[simp] theorem State.ceilingNow_kept (s : State) :
    (State.ceilingNow s).kept = s.kept := by
  unfold State.ceilingNow
  repeat' (first | with_reducible rfl | simp only [↓kept_with, ↓kept_ite, ite_self, ↓State.paceEval_kept, ↓State.pwr_kept] | refine kept_foldl (fun _ _ => ?_) ?_ | split | rfl)

@[simp] theorem State.clearClose_kept (s : State) (p : Nat) (fwd : Bool) :
    (State.clearClose s p fwd).kept = s.kept := by
  unfold State.clearClose
  repeat' (first | with_reducible rfl | simp only [↓kept_with, ↓kept_ite, ite_self, ↓State.epGo_kept, ↓State.setEp_kept, ↓State.toChildren_kept] | refine kept_foldl (fun _ _ => ?_) ?_ | split | rfl)

@[simp] theorem State.clearEvents_kept (s : State) (fn : Nat) (v : Word) :
    (State.clearEvents s fn v).kept = s.kept := by
  unfold State.clearEvents
  repeat' (first | with_reducible rfl | simp only [↓kept_with, ↓kept_ite, ite_self, ↓State.setFn_kept] | refine kept_foldl (fun _ _ => ?_) ?_ | split | rfl)

@[simp] theorem State.dropKeys_kept (s : State) (q : FlowKey → Bool) :
    (State.dropKeys s q).kept = s.kept := by
  unfold State.dropKeys
  repeat' (first | with_reducible rfl | simp only [↓kept_with, ↓kept_ite, ite_self] | refine kept_foldl (fun _ _ => ?_) ?_ | split | rfl)

@[simp] theorem State.unsealEnd_kept (s : State) (p : Nat) (code : Nat) (seg : Nat) :
    (State.unsealEnd s p code seg).kept = s.kept := by
  unfold State.unsealEnd
  repeat' (first | with_reducible rfl | simp only [↓kept_with, ↓kept_ite, ite_self, ↓State.odSetN_kept] | refine kept_foldl (fun _ _ => ?_) ?_ | split | rfl)

@[simp] theorem State.clearKeys_kept (s : State) :
    (State.clearKeys s).kept = s.kept := by
  unfold State.clearKeys
  repeat' (first | with_reducible rfl | simp only [↓kept_with, ↓kept_ite, ite_self, ↓State.dropKeys_kept, ↓State.odSetN_kept, ↓State.unsealEnd_kept] | refine kept_foldl (fun _ _ => ?_) ?_ | split | rfl)

@[simp] theorem State.setQueue_kept (s : State) (q : Nat) (x : Queue) :
    (State.setQueue s q x).kept = s.kept := by
  unfold State.setQueue
  repeat' (first | with_reducible rfl | simp only [↓kept_with, ↓kept_ite, ite_self] | refine kept_foldl (fun _ _ => ?_) ?_ | split | rfl)

@[simp] theorem State.updQueue_kept (s : State) (q : Nat) (f : Queue → Queue) :
    (State.updQueue s q f).kept = s.kept := by
  unfold State.updQueue
  repeat' (first | with_reducible rfl | simp only [↓kept_with, ↓kept_ite, ite_self, ↓State.setQueue_kept] | refine kept_foldl (fun _ _ => ?_) ?_ | split | rfl)

@[simp] theorem State.qGo_kept (s : State) (q : Nat) (c : QCode) :
    (State.qGo s q c).kept = s.kept := by
  unfold State.qGo
  repeat' (first | with_reducible rfl | simp only [↓kept_with, ↓kept_ite, ite_self, ↓State.fnEvent_kept, ↓State.lilac_kept, ↓State.updQueue_kept] | refine kept_foldl (fun _ _ => ?_) ?_ | split | rfl)

@[simp] theorem State.closeQueues_kept (s : State) (p : Nat) :
    (State.closeQueues s p).kept = s.kept := by
  unfold State.closeQueues
  repeat' (first | with_reducible rfl | simp only [↓kept_with, ↓kept_ite, ite_self, ↓State.qGo_kept, ↓State.updQueue_kept] | refine kept_foldl (fun _ _ => ?_) ?_ | split | rfl)

@[simp] theorem State.clusterAmber_kept (s : State) :
    (State.clusterAmber s).kept = s.kept := by
  unfold State.clusterAmber
  repeat' (first | with_reducible rfl | simp only [↓kept_with, ↓kept_ite, ite_self, ↓State.amber_kept] | refine kept_foldl (fun _ _ => ?_) ?_ | split | rfl)

@[simp] theorem State.updCmd_kept (s : State) (id : Nat) (f : SCmd → SCmd) :
    (State.updCmd s id f).kept = s.kept := by
  unfold State.updCmd
  repeat' (first | with_reducible rfl | simp only [↓kept_with, ↓kept_ite, ite_self] | refine kept_foldl (fun _ _ => ?_) ?_ | split | rfl)

@[simp] theorem State.cmdDone_kept (s : State) (id : Nat) (st : Nat) (us : List Nat) :
    (State.cmdDone s id st us).kept = s.kept := by
  unfold State.cmdDone
  repeat' (first | with_reducible rfl | simp only [↓kept_with, ↓kept_ite, ite_self, ↓State.updCmd_kept] | refine kept_foldl (fun _ _ => ?_) ?_ | split | rfl)

@[simp] theorem State.cmdEvent_kept (s : State) (x : SCmd) (c : Nat) :
    (State.cmdEvent s x c).kept = s.kept := by
  unfold State.cmdEvent
  repeat' (first | with_reducible rfl | simp only [↓kept_with, ↓kept_ite, ite_self, ↓State.pulse_kept] | refine kept_foldl (fun _ _ => ?_) ?_ | split | rfl)

@[simp] theorem State.mFault_kept (s : State) (n : Nat) (m : MOp) (code : Nat) (info : Nat) :
    (State.mFault s n m code info).kept = s.kept := by
  unfold State.mFault
  repeat' (first | with_reducible rfl | simp only [↓kept_with, ↓kept_ite, ite_self, ↓State.asyncFault_kept, ↓State.releaseCore_kept, ↓State.updMop_kept] | refine kept_foldl (fun _ _ => ?_) ?_ | split | rfl)

@[simp] theorem State.cmdReport_kept (s : State) (x : SCmd) :
    (State.cmdReport s x).kept = s.kept := by
  unfold State.cmdReport
  repeat' (first | with_reducible rfl | simp only [↓kept_with, ↓kept_ite, ite_self, ↓State.cmdEvent_kept, ↓State.dropMop_kept, ↓State.flightForce_kept, ↓State.mDone_kept, ↓State.mFault_kept, ↓State.odInc_kept, ↓State.updFlight_kept] | refine kept_foldl (fun _ _ => ?_) ?_ | split | rfl)

@[simp] theorem State.coClear_kept (s : State) (g : Nat) (epoch : Nat) :
    (State.coClear s g epoch).kept = s.kept := by
  unfold State.coClear
  repeat' (first | with_reducible rfl | simp only [↓kept_with, ↓kept_ite, ite_self, ↓State.clearClose_kept, ↓State.coGo_kept, ↓State.epSend_kept, ↓State.setEp_kept] | refine kept_foldl (fun _ _ => ?_) ?_ | split | rfl)

@[simp] theorem State.coQuery_kept (s : State) (g : Nat) (epoch : Nat) :
    (State.coQuery s g epoch).kept = s.kept := by
  unfold State.coQuery
  repeat' (first | with_reducible rfl | simp only [↓kept_with, ↓kept_ite, ite_self, ↓State.epSend_kept, ↓State.setMach_kept] | refine kept_foldl (fun _ _ => ?_) ?_ | split | rfl)

@[simp] theorem State.coRest_kept (s : State) (g : Nat) (epoch : Nat) :
    (State.coRest s g epoch).kept = s.kept := by
  unfold State.coRest
  repeat' (first | with_reducible rfl | simp only [↓kept_with, ↓kept_ite, ite_self, ↓State.coGo_kept] | refine kept_foldl (fun _ _ => ?_) ?_ | split | rfl)

@[simp] theorem State.collCheck_kept (s : State) (ref : DescRef) :
    (State.collCheck s ref).kept = s.kept := by
  unfold State.collCheck
  repeat' (first | with_reducible rfl | simp only [↓kept_with, ↓kept_ite, ite_self, ↓State.applyGroup_kept, ↓State.collFinish_kept, ↓State.collTrace_kept, ↓State.flightForce_kept, ↓State.setGSt_kept, ↓State.showPools_kept, ↓State.updFlight_kept] | refine kept_foldl (fun _ _ => ?_) ?_ | split | rfl)

@[simp] theorem State.regrant_kept (s : State) (ref : DescRef) :
    (State.regrant s ref).kept = s.kept := by
  unfold State.regrant
  repeat' (first | with_reducible rfl | simp only [↓kept_with, ↓kept_ite, ite_self, ↓State.grantUp_kept] | refine kept_foldl (fun _ _ => ?_) ?_ | split | rfl)

@[simp] theorem State.collAcked_kept (s : State) (ref : DescRef) :
    (State.collAcked s ref).kept = s.kept := by
  unfold State.collAcked
  repeat' (first | with_reducible rfl | simp only [↓kept_with, ↓kept_ite, ite_self, ↓State.collCheck_kept, ↓State.regrant_kept] | refine kept_foldl (fun _ _ => ?_) ?_ | split | rfl)

@[simp] theorem State.fullReport_kept (s : State) (p : Nat) (stack : Nat) :
    (State.fullReport s p stack).kept = s.kept := by
  unfold State.fullReport
  repeat' (first | with_reducible rfl | simp only [↓kept_with, ↓kept_ite, ite_self, ↓State.castAbort_kept, ↓State.odInc_kept, ↓State.raise_kept] | refine kept_foldl (fun _ _ => ?_) ?_ | split | rfl)

@[simp] theorem State.ledgerFull_kept (s : State) (p : Nat) (sector : Nat) (need : Nat) :
    (State.ledgerFull s p sector need).kept = s.kept := by
  unfold State.ledgerFull
  repeat' (first | with_reducible rfl | simp only [↓kept_with, ↓kept_ite, ite_self, ↓State.fullReport_kept, ↓State.odInc_kept] | refine kept_foldl (fun _ _ => ?_) ?_ | split | rfl)

@[simp] theorem State.noteAcc_kept (s : State) (p : Nat) (r : Acc) :
    (State.noteAcc s p r).kept = s.kept := by
  unfold State.noteAcc
  repeat' (first | with_reducible rfl | simp only [↓kept_with, ↓kept_ite, ite_self, ↓State.countAddress_kept, ↓State.countIsolation_kept, ↓State.ledgerFull_kept, ↓State.odInc_kept] | refine kept_foldl (fun _ _ => ?_) ?_ | split | rfl)

@[simp] theorem State.collBad_kept (s : State) (c : Coll) (a : Acc) :
    (State.collBad s c a).kept = s.kept := by
  unfold State.collBad
  repeat' (first | with_reducible rfl | simp only [↓kept_with, ↓kept_ite, ite_self, ↓State.collEnd_kept, ↓State.noteAcc_kept] | refine kept_foldl (fun _ _ => ?_) ?_ | split | rfl)

@[simp] theorem State.collRefused_kept (s : State) (ref : DescRef) (st : Nat) (p : Pkt) :
    (State.collRefused s ref st p).kept = s.kept := by
  unfold State.collRefused
  repeat' (first | with_reducible rfl | simp only [↓kept_with, ↓kept_ite, ite_self, ↓State.collFail_kept, ↓State.collFinish_kept, ↓State.freeVal_kept] | refine kept_foldl (fun _ _ => ?_) ?_ | split | rfl)

@[simp] theorem State.collsReset_kept (s : State) :
    (State.collsReset s).kept = s.kept := by
  unfold State.collsReset
  repeat' (first | with_reducible rfl | simp only [↓kept_with, ↓kept_ite, ite_self, ↓State.collEnd_kept, ↓State.flightForce_kept, ↓State.odInc_kept, ↓State.showPools_kept, ↓State.updFlight_kept] | refine kept_foldl (fun _ _ => ?_) ?_ | split | rfl)

@[simp] theorem State.collsTeardown_kept (s : State) (p : Nat) :
    (State.collsTeardown s p).kept = s.kept := by
  unfold State.collsTeardown
  repeat' (first | with_reducible rfl | simp only [↓kept_with, ↓kept_ite, ite_self, ↓State.collEnd_kept, ↓State.odSet_kept, ↓State.odSetN_kept, ↓State.setGSt_kept, ↓State.showPools_kept, ↓State.updFlight_kept] | refine kept_foldl (fun _ _ => ?_) ?_ | split | rfl)

@[simp] theorem State.colourStart_kept (s : State) (p : Nat) :
    (State.colourStart s p).kept = s.kept := by
  unfold State.colourStart
  repeat' (first | with_reducible rfl | simp only [↓kept_with, ↓kept_ite, ite_self] | refine kept_foldl (fun _ _ => ?_) ?_ | split | rfl)

@[simp] theorem State.coordWrite_kept (s : State) (v : Nat) :
    (State.coordWrite s v).kept = s.kept := by
  unfold State.coordWrite
  repeat' (first | with_reducible rfl | simp only [↓kept_with, ↓kept_ite, ite_self, ↓State.leaveWhite_kept, ↓State.odSetN_kept] | refine kept_foldl (fun _ _ => ?_) ?_ | split | rfl)

@[simp] theorem State.copyCheck_kept (s : State) (r : DescRef) :
    (State.copyCheck s r).kept = s.kept := by
  unfold State.copyCheck
  repeat' (first | with_reducible rfl | simp only [↓kept_with, ↓kept_ite, ite_self, ↓State.flightDone_kept, ↓State.updFlight_kept] | refine kept_foldl (fun _ _ => ?_) ?_ | split | rfl)

@[simp] theorem State.copyFault_kept (s : State) (n : Nat) (k : Nat) (code : Nat) :
    (State.copyFault s n k code).kept = s.kept := by
  unfold State.copyFault
  repeat' (first | with_reducible rfl | simp only [↓kept_with, ↓kept_ite, ite_self, ↓State.setCore_kept] | refine kept_foldl (fun _ _ => ?_) ?_ | split | rfl)

@[simp] theorem State.coreEnd_kept (s : State) (r : DescRef) (core : Nat) (e : UEnd) :
    (State.coreEnd s r core e).kept = s.kept := by
  unfold State.coreEnd
  repeat' (first | with_reducible rfl | simp only [↓kept_with, ↓kept_ite, ite_self, ↓State.unitEnd_kept] | refine kept_foldl (fun _ _ => ?_) ?_ | split | rfl)

@[simp] theorem State.corrected_kept (s : State) (x : Nat) :
    (State.corrected s x).kept = s.kept := by
  unfold State.corrected
  repeat' (first | with_reducible rfl | simp only [↓kept_with, ↓kept_ite, ite_self, ↓State.addRemap_kept, ↓State.odApply_kept, ↓State.odInc_kept] | refine kept_foldl (fun _ _ => ?_) ?_ | split | rfl)

@[simp] theorem State.countBad_kept (s : State) (p : Nat) (a : Nat) (len : Nat) :
    (State.countBad s p a len).kept = s.kept := by
  unfold State.countBad
  repeat' (first | with_reducible rfl | simp only [↓kept_with, ↓kept_ite, ite_self, ↓State.odInc_kept] | refine kept_foldl (fun _ _ => ?_) ?_ | split | rfl)

@[simp] theorem State.countReach_kept (s : State) (p : Nat) (r : Reach) :
    (State.countReach s p r).kept = s.kept := by
  unfold State.countReach
  repeat' (first | with_reducible rfl | simp only [↓kept_with, ↓kept_ite, ite_self, ↓State.countAddress_kept, ↓State.countIsolation_kept] | refine kept_foldl (fun _ _ => ?_) ?_ | split | rfl)

@[simp] theorem State.cutAll_kept (s : State) (p : Nat) :
    (State.cutAll s p).kept = s.kept := by
  unfold State.cutAll
  repeat' (first | with_reducible rfl | simp only [↓kept_with, ↓kept_ite, ite_self, ↓State.begunCut_kept, ↓State.setCore_kept, ↓State.setPart_kept, ↓State.unsealEnd_kept] | refine kept_foldl (fun _ _ => ?_) ?_ | split | rfl)

@[simp] theorem State.thm_kept (s : State) (f : Thermal → Thermal) :
    (State.thm s f).kept = s.kept := by
  unfold State.thm
  repeat' (first | with_reducible rfl | simp only [↓kept_with, ↓kept_ite, ite_self] | refine kept_foldl (fun _ _ => ?_) ?_ | split | rfl)

@[simp] theorem State.cycles_kept (s : State) (z : Nat) :
    (State.cycles s z).kept = s.kept := by
  unfold State.cycles
  repeat' (first | with_reducible rfl | simp only [↓kept_with, ↓kept_ite, ite_self, ↓State.odInc_kept, ↓State.thm_kept] | refine kept_foldl (fun _ _ => ?_) ?_ | split | rfl)

@[simp] theorem State.destroySecret_kept (s : State) (sel : Nat) :
    (State.destroySecret s sel).kept = s.kept := by
  unfold State.destroySecret
  repeat' (first | with_reducible rfl | simp only [↓kept_with, ↓kept_ite, ite_self, ↓State.dropKeys_kept, ↓State.odSetN_kept] | refine kept_foldl (fun _ _ => ?_) ?_ | split | rfl)

@[simp] theorem State.eccCount_kept (s : State) (e : Ecc) :
    (State.eccCount s e).kept = s.kept := by
  unfold State.eccCount
  repeat' (first | with_reducible rfl | simp only [↓kept_with, ↓kept_ite, ite_self, ↓State.odAdd_kept, ↓State.odInc_kept] | refine kept_foldl (fun _ _ => ?_) ?_ | split | rfl)

@[simp] theorem State.spoil_kept (s : State) (x : Nat) :
    (State.spoil s x).kept = s.kept := by
  unfold State.spoil
  repeat' (first | with_reducible rfl | simp only [↓kept_with, ↓kept_ite, ite_self, ↓State.odInc_kept] | refine kept_foldl (fun _ _ => ?_) ?_ | split | rfl)

@[simp] theorem State.eccSeen_kept (s : State) (e : Ecc) (a : Nat) (len : Nat) :
    (State.eccSeen s e a len).1.kept = s.kept := by
  unfold State.eccSeen
  repeat' (first | with_reducible rfl | simp only [↓kept_with, ↓kept_ite, ite_self, ↓State.corrected_kept, ↓State.eccCount_kept, ↓State.spoil_kept] | refine kept_foldl (fun _ _ => ?_) ?_ | split | rfl)

@[simp] theorem State.hotAdmit_kept (s : State) (k : Nat) (sector : Nat) :
    (State.hotAdmit s k sector).kept = s.kept := by
  unfold State.hotAdmit
  repeat' (first | with_reducible rfl | simp only [↓kept_with, ↓kept_ite, ite_self, ↓State.freeVal_kept] | refine kept_foldl (fun _ _ => ?_) ?_ | split | rfl)

@[simp] theorem State.hotRead_kept (s : State) (x : Nat) (parity : Bool) :
    (State.hotRead s x parity).1.kept = s.kept := by
  unfold State.hotRead
  repeat' (first | with_reducible rfl | simp only [↓kept_with, ↓kept_ite, ite_self, ↓State.hotAdmit_kept, ↓State.odApply_kept, ↓State.odInc_kept] | refine kept_foldl (fun _ _ => ?_) ?_ | split | rfl)

@[simp] theorem State.hotRange_kept (s : State) (p : Nat) (a : Nat) (len : Nat) :
    (State.hotRange s p a len).1.kept = s.kept := by
  have hf : ∀ (l : List Nat) (r : State × List Nat), (l.foldl (fun (r : State × List Nat) k =>
      match r.1.hbmOf p (64 * k) with
      | some (x, c) => if c && (r.1.beforeImage (x / 64)).isSome then r
        else ((r.1.hotRead x false).1, if (r.1.hotRead x false).2 then r.2 else r.2 ++ [x])
      | none => r) r).1.kept = r.1.kept := by
    intro l
    induction l with
    | nil => intro a; rfl
    | cons p l ih =>
      intro a
      rw [List.foldl_cons, ih]
      repeat' (first | rfl | simp only [State.hotRead_kept] | split)
  unfold State.hotRange
  exact hf _ _

@[simp] theorem State.readSeen_kept (s : State) (e : Ecc) (p : Nat) (a : Nat) (len : Nat) :
    (State.readSeen s e p a len).1.kept = s.kept := by
  unfold State.readSeen
  repeat' (first | with_reducible rfl | simp only [↓kept_with, ↓kept_ite, ite_self, ↓State.corrected_kept, ↓State.eccCount_kept, ↓State.hotRange_kept, ↓State.spoil_kept] | refine kept_foldl (fun _ _ => ?_) ?_ | split | rfl)

@[simp] theorem State.dmaSeen_kept (s : State) (n : Nat) (m : MOp) (ecc : Ecc) (dest : Ecc) :
    (State.dmaSeen s n m ecc dest).1.kept = s.kept := by
  unfold State.dmaSeen
  repeat' (first | with_reducible rfl | simp only [↓kept_with, ↓kept_ite, ite_self, ↓State.eccSeen_kept, ↓State.readSeen_kept] | refine kept_foldl (fun _ _ => ?_) ?_ | split | rfl)

@[simp] theorem State.doe_kept (s : State) (fn : Nat) (r : Rsp) (b : List Byte) :
    (State.doe s fn r b).kept = s.kept := by
  unfold State.doe
  repeat' (first | with_reducible rfl | simp only [↓kept_with, ↓kept_ite, ite_self, ↓State.emit_kept] | refine kept_foldl (fun _ _ => ?_) ?_ | split | rfl)

@[simp] theorem State.spdmError_kept (s : State) (fn : Nat) :
    (State.spdmError s fn).kept = s.kept := by
  unfold State.spdmError
  repeat' (first | with_reducible rfl | simp only [↓kept_with, ↓kept_ite, ite_self, ↓State.doe_kept] | refine kept_foldl (fun _ _ => ?_) ?_ | split | rfl)

@[simp] theorem State.doeSigned_kept (s : State) (fn : Nat) (r : Rsp) (asked : List Byte) (b : List Byte) :
    (State.doeSigned s fn r asked b).kept = s.kept := by
  unfold State.doeSigned
  repeat' (first | with_reducible rfl | simp only [↓kept_with, ↓kept_ite, ite_self, ↓State.doe_kept, ↓State.spdmError_kept] | refine kept_foldl (fun _ _ => ?_) ?_ | split | rfl)

@[simp] theorem State.ignored_kept (s : State) (kind : Nat) (part : Option Nat) (queue : Option Nat) (fn : Nat) (off : Nat) (val : Nat) :
    (State.ignored s kind part queue fn off val).kept = s.kept := by
  unfold State.ignored
  repeat' (first | with_reducible rfl | simp only [↓kept_with, ↓kept_ite, ite_self, ↓State.fnEvent_kept, ↓State.lilac_kept, ↓State.odInc_kept] | refine kept_foldl (fun _ _ => ?_) ?_ | split | rfl)

@[simp] theorem State.qIgnored_kept (s : State) (kind : Nat) (q : Nat) (r : Nat) (v : Word) :
    (State.qIgnored s kind q r v).kept = s.kept := by
  unfold State.qIgnored
  repeat' (first | with_reducible rfl | simp only [↓kept_with, ↓kept_ite, ite_self, ↓State.ignored_kept] | refine kept_foldl (fun _ _ => ?_) ?_ | split | rfl)

@[simp] theorem State.doorbell_kept (s : State) (q : Nat) (v : Word) :
    (State.doorbell s q v).kept = s.kept := by
  unfold State.doorbell
  repeat' (first | with_reducible rfl | simp only [↓kept_with, ↓kept_ite, ite_self, ↓State.pulse_kept, ↓State.qIgnored_kept, ↓State.setQueue_kept] | refine kept_foldl (fun _ _ => ?_) ?_ | split | rfl)

@[simp] theorem State.dropReqs_kept (s : State) (q : Req → Bool) :
    (State.dropReqs s q).kept = s.kept := by
  unfold State.dropReqs
  repeat' (first | with_reducible rfl | simp only [↓kept_with, ↓kept_ite, ite_self, ↓State.dropMop_kept, ↓State.releaseReqs_kept] | refine kept_foldl (fun _ _ => ?_) ?_ | split | rfl)

@[simp] theorem State.drainOut_kept (s : State) (f : Fence) :
    (State.drainOut s f).kept = s.kept := by
  unfold State.drainOut
  repeat' (first | with_reducible rfl | simp only [↓kept_with, ↓kept_ite, ite_self, ↓State.dropReqs_kept] | refine kept_foldl (fun _ _ => ?_) ?_ | split | rfl)

@[simp] theorem State.echo_kept (s : State) (p : Pkt) :
    (State.echo s p).kept = s.kept := by
  unfold State.echo
  repeat' (first | with_reducible rfl | simp only [↓kept_with, ↓kept_ite, ite_self, ↓State.odApplyAll_kept, ↓State.odInc_kept] | refine kept_foldl (fun _ _ => ?_) ?_ | split | rfl)

@[simp] theorem State.enableAgain_kept (s : State) (x : Suspect) :
    (State.enableAgain s x).kept = s.kept := by
  unfold State.enableAgain
  repeat' (first | with_reducible rfl | simp only [↓kept_with, ↓kept_ite, ite_self, ↓State.qGo_kept] | refine kept_foldl (fun _ _ => ?_) ?_ | split | rfl)

@[simp] theorem State.endCount_kept (s : State) (d : Nat) :
    (State.endCount s d).kept = s.kept := by
  unfold State.endCount
  repeat' (first | with_reducible rfl | simp only [↓kept_with, ↓kept_ite, ite_self, ↓State.addIn_kept] | refine kept_foldl (fun _ _ => ?_) ?_ | split | rfl)

@[simp] theorem State.qFront_kept (s : State) (q : Nat) :
    (State.qFront s q).kept = s.kept := by
  unfold State.qFront
  repeat' (first | with_reducible rfl | simp only [↓kept_with, ↓kept_ite, ite_self, ↓State.updQueue_kept] | refine kept_foldl (fun _ _ => ?_) ?_ | split | rfl)

@[simp] theorem State.qConsume_kept (s : State) (q : Nat) :
    (State.qConsume s q).kept = s.kept := by
  unfold State.qConsume
  repeat' (first | with_reducible rfl | simp only [↓kept_with, ↓kept_ite, ite_self, ↓State.qFront_kept, ↓State.updQueue_kept] | refine kept_foldl (fun _ _ => ?_) ?_ | split | rfl)

@[simp] theorem State.launchDesc_kept (s : State) (q : Nat) (units : Nat) :
    (State.launchDesc s q units).1.kept = s.kept := by
  unfold State.launchDesc
  repeat' (first | with_reducible rfl | simp only [↓kept_with, ↓kept_ite, ite_self, ↓State.lilac_kept, ↓State.qConsume_kept] | refine kept_foldl (fun _ _ => ?_) ?_ | split | rfl)

@[simp] theorem State.endNow_kept (s : State) (q : Nat) (units : Nat) (e : UEnd) :
    (State.endNow s q units e).kept = s.kept := by
  unfold State.endNow
  repeat' (first | with_reducible rfl | simp only [↓kept_with, ↓kept_ite, ite_self, ↓State.flightForce_kept, ↓State.launchDesc_kept] | refine kept_foldl (fun _ _ => ?_) ?_ | split | rfl)

@[simp] theorem State.endReplay_kept (s : State) (n : Nat) :
    (State.endReplay s n).kept = s.kept := by
  unfold State.endReplay
  repeat' (first | with_reducible rfl | simp only [↓kept_with, ↓kept_ite, ite_self] | refine kept_foldl (fun _ _ => ?_) ?_ | split | rfl)

@[simp] theorem State.endSession_kept (s : State) (id : Nat) :
    (State.endSession s id).kept = s.kept := by
  unfold State.endSession
  repeat' (first | with_reducible rfl | simp only [↓kept_with, ↓kept_ite, ite_self, ↓State.mgmtSet_kept] | refine kept_foldl (fun _ _ => ?_) ?_ | split | rfl)

@[simp] theorem State.engineFault_kept (s : State) (k : Nat) :
    (State.engineFault s k).kept = s.kept := by
  unfold State.engineFault
  repeat' (first | with_reducible rfl | simp only [↓kept_with, ↓kept_ite, ite_self, ↓State.abandon_kept, ↓State.bypassAmber_kept, ↓State.bypassPut_kept, ↓State.faultRecord_kept, ↓State.odAccept_kept, ↓State.odAdd_kept] | refine kept_foldl (fun _ _ => ?_) ?_ | split | rfl)

@[simp] theorem State.restoredUp_kept (s : State) (p : Nat) :
    (State.restoredUp s p).kept = s.kept := by
  unfold State.restoredUp
  repeat' (first | with_reducible rfl | simp only [↓kept_with, ↓kept_ite, ite_self, ↓State.coClear_kept, ↓State.epSend_kept, ↓State.setEp_kept] | refine kept_foldl (fun _ _ => ?_) ?_ | split | rfl)

@[simp] theorem State.enterFenced_kept (s : State) (p : Nat) :
    (State.enterFenced s p).kept = s.kept := by
  unfold State.enterFenced
  repeat' (first | with_reducible rfl | simp only [↓kept_with, ↓kept_ite, ite_self, ↓State.clearClose_kept, ↓State.epGo_kept, ↓State.epSend_kept, ↓State.odApply_kept, ↓State.restoredUp_kept, ↓State.setEp_kept, ↓State.unitEnd_kept, ↓State.updFlight_kept] | refine kept_foldl (fun _ _ => ?_) ?_ | split | rfl)

@[simp] theorem State.farTake_kept (s : State) (n : Nat) :
    (State.farTake s n).kept = s.kept := by
  unfold State.farTake
  repeat' (first | with_reducible rfl | simp only [↓kept_with, ↓kept_ite, ite_self, ↓State.odApply_kept, ↓State.updLink_kept] | refine kept_foldl (fun _ _ => ?_) ?_ | split | rfl)

@[simp] theorem State.enterNegotiate_kept (s : State) (n : Nat) :
    (State.enterNegotiate s n).kept = s.kept := by
  unfold State.enterNegotiate
  repeat' (first | with_reducible rfl | simp only [↓kept_with, ↓kept_ite, ite_self, ↓State.capSend_kept, ↓State.farTake_kept, ↓State.linkGo_kept, ↓State.odApplyAll_kept] | refine kept_foldl (fun _ _ => ?_) ?_ | split | rfl)

@[simp] theorem State.epAcked_kept (s : State) (g : Nat) (kind : Nat) (epoch : Nat) (rank : Nat) :
    (State.epAcked s g kind epoch rank).kept = s.kept := by
  unfold State.epAcked
  repeat' (first | with_reducible rfl | simp only [↓kept_with, ↓kept_ite, ite_self, ↓State.coCheck_kept, ↓State.setAgent_kept, ↓State.setMach_kept] | refine kept_foldl (fun _ _ => ?_) ?_ | split | rfl)

@[simp] theorem State.query_kept (s : State) (p : Nat) :
    (State.query s p).kept = s.kept := by
  unfold State.query
  repeat' (first | with_reducible rfl | simp only [↓kept_with, ↓kept_ite, ite_self, ↓State.epSend_kept, ↓State.setEp_kept] | refine kept_foldl (fun _ _ => ?_) ?_ | split | rfl)

@[simp] theorem State.sendTakes_kept (s : State) (g : Nat) (epoch : Nat) :
    (State.sendTakes s g epoch).kept = s.kept := by
  unfold State.sendTakes
  repeat' (first | with_reducible rfl | simp only [↓kept_with, ↓kept_ite, ite_self, ↓State.epSend_kept] | refine kept_foldl (fun _ _ => ?_) ?_ | split | rfl)

@[simp] theorem State.takeCheck_kept (s : State) (g : Nat) (epoch : Nat) :
    (State.takeCheck s g epoch).kept = s.kept := by
  unfold State.takeCheck
  repeat' (first | with_reducible rfl | simp only [↓kept_with, ↓kept_ite, ite_self, ↓State.coDecide_kept] | refine kept_foldl (fun _ _ => ?_) ?_ | split | rfl)

@[simp] theorem State.takeover_kept (s : State) (g : Nat) (epoch : Nat) :
    (State.takeover s g epoch).kept = s.kept := by
  unfold State.takeover
  repeat' (first | with_reducible rfl | simp only [↓kept_with, ↓kept_ite, ite_self, ↓State.coGo_kept, ↓State.odApply_kept, ↓State.odInc_kept, ↓State.sendTakes_kept, ↓State.setAgent_kept, ↓State.setMach_kept, ↓State.takeCheck_kept] | refine kept_foldl (fun _ _ => ?_) ?_ | split | rfl)

@[simp] theorem State.probe_kept (s : State) (g : Nat) (epoch : Nat) :
    (State.probe s g epoch).kept = s.kept := by
  unfold State.probe
  repeat' (first | with_reducible rfl | simp only [↓kept_with, ↓kept_ite, ite_self, ↓State.epSend_kept, ↓State.takeover_kept] | refine kept_foldl (fun _ _ => ?_) ?_ | split | rfl)

@[simp] theorem State.rankFailed_kept (s : State) (g : Nat) (epoch : Nat) (rank : Nat) :
    (State.rankFailed s g epoch rank).kept = s.kept := by
  unfold State.rankFailed
  repeat' (first | with_reducible rfl | simp only [↓kept_with, ↓kept_ite, ite_self, ↓State.coQuery_kept, ↓State.epAttention_kept, ↓State.probe_kept, ↓State.query_kept, ↓State.setAgent_kept, ↓State.takeover_kept] | refine kept_foldl (fun _ _ => ?_) ?_ | split | rfl)

@[simp] theorem State.epRefused_kept (s : State) (g : Nat) (kind : Nat) (epoch : Nat) (rank : Nat) (st : Nat) :
    (State.epRefused s g kind epoch rank st).kept = s.kept := by
  unfold State.epRefused
  repeat' (first | with_reducible rfl | simp only [↓kept_with, ↓kept_ite, ite_self, ↓State.coGo_kept, ↓State.coQuery_kept, ↓State.coRest_kept, ↓State.epGo_kept, ↓State.odApply_kept, ↓State.query_kept, ↓State.rankFailed_kept, ↓State.setEp_kept, ↓State.setMach_kept] | refine kept_foldl (fun _ _ => ?_) ?_ | split | rfl)

@[simp] theorem State.ledgerSettings_kept (s : State) (p : Nat) :
    (State.ledgerSettings s p).kept = s.kept := by
  unfold State.ledgerSettings
  repeat' (first | with_reducible rfl | simp only [↓kept_with, ↓kept_ite, ite_self, ↓State.odApplyAll_kept] | refine kept_foldl (fun _ _ => ?_) ?_ | split | rfl)

@[simp] theorem State.showLedger_kept (s : State) (p : Nat) :
    (State.showLedger s p).kept = s.kept := by
  unfold State.showLedger
  repeat' (first | with_reducible rfl | simp only [↓kept_with, ↓kept_ite, ite_self, ↓State.odSetN_kept] | refine kept_foldl (fun _ _ => ?_) ?_ | split | rfl)

@[simp] theorem State.epTorn_kept (s : State) (p : Nat) :
    (State.epTorn s p).kept = s.kept := by
  unfold State.epTorn
  repeat' (first | with_reducible rfl | simp only [↓kept_with, ↓kept_ite, ite_self, ↓State.castAbort_kept, ↓State.epGo_kept, ↓State.ledgerSettings_kept, ↓State.odSetN_kept, ↓State.setEp_kept, ↓State.showLedger_kept] | refine kept_foldl (fun _ _ => ?_) ?_ | split | rfl)

@[simp] theorem State.eqStart_kept (s : State) (n : Nat) :
    (State.eqStart s n).kept = s.kept := by
  unfold State.eqStart
  repeat' (first | with_reducible rfl | simp only [↓kept_with, ↓kept_ite, ite_self, ↓State.odApplyAll_kept, ↓State.updLink_kept] | refine kept_foldl (fun _ _ => ?_) ?_ | split | rfl)

@[simp] theorem State.progress_kept (s : State) (k : Nat) :
    (State.progress s k).kept = s.kept := by
  unfold State.progress
  repeat' (first | with_reducible rfl | simp only [↓kept_with, ↓kept_ite, ite_self, ↓State.odSetN_kept] | refine kept_foldl (fun _ _ => ?_) ?_ | split | rfl)

@[simp] theorem State.estimate_kept (s : State) :
    (State.estimate s).kept = s.kept := by
  unfold State.estimate
  repeat' (first | with_reducible rfl | simp only [↓kept_with, ↓kept_ite, ite_self, ↓State.odInc_kept, ↓State.odSetN_kept, ↓State.progress_kept] | refine kept_foldl (fun _ _ => ?_) ?_ | split | rfl)

@[simp] theorem State.paceLilac_kept (s : State) (code : Nat) :
    (State.paceLilac s code).kept = s.kept := by
  unfold State.paceLilac
  repeat' (first | with_reducible rfl | simp only [↓kept_with, ↓kept_ite, ite_self, ↓State.lilac_kept] | refine kept_foldl (fun _ _ => ?_) ?_ | split | rfl)

@[simp] theorem State.lockstepNow_kept (s : State) :
    (State.lockstepNow s).kept = s.kept := by
  unfold State.lockstepNow
  repeat' (first | with_reducible rfl | simp only [↓kept_with, ↓kept_ite, ite_self, ↓State.odInc_kept, ↓State.paceLilac_kept, ↓State.pwr_kept] | refine kept_foldl (fun _ _ => ?_) ?_ | split | rfl)

@[simp] theorem State.regate_kept (s : State) :
    (State.regate s).kept = s.kept := by
  unfold State.regate
  repeat' (first | with_reducible rfl | simp only [↓kept_with, ↓kept_ite, ite_self, ↓State.pwr_kept] | refine kept_foldl (fun _ _ => ?_) ?_ | split | rfl)

@[simp] theorem State.limitNow_kept (s : State) :
    (State.limitNow s).kept = s.kept := by
  unfold State.limitNow
  repeat' (first | with_reducible rfl | simp only [↓kept_with, ↓kept_ite, ite_self, ↓State.ceilingNow_kept, ↓State.lockstepNow_kept, ↓State.odSetN_kept, ↓State.regate_kept] | refine kept_foldl (fun _ _ => ?_) ?_ | split | rfl)

@[simp] theorem State.physicalFault_kept (s : State) (cause : Nat) (elem : Nat) (idx : Nat) (sub : Nat) :
    (State.physicalFault s cause elem idx sub).kept = s.kept := by
  unfold State.physicalFault
  repeat' (first | with_reducible rfl | simp only [↓kept_with, ↓kept_ite, ite_self, ↓State.faultRecord_kept, ↓State.raise_kept] | refine kept_foldl (fun _ _ => ?_) ?_ | split | rfl)

@[simp] theorem State.sensorAmber_kept (s : State) :
    (State.sensorAmber s).kept = s.kept := by
  unfold State.sensorAmber
  repeat' (first | with_reducible rfl | simp only [↓kept_with, ↓kept_ite, ite_self, ↓State.amber_kept] | refine kept_foldl (fun _ _ => ?_) ?_ | split | rfl)

@[simp] theorem State.leakFault_kept (s : State) (cause : Nat) :
    (State.leakFault s cause).kept = s.kept := by
  unfold State.leakFault
  repeat' (first | with_reducible rfl | simp only [↓kept_with, ↓kept_ite, ite_self, ↓State.alertSet_kept, ↓State.limitNow_kept, ↓State.odSetN_kept, ↓State.physicalFault_kept, ↓State.sensorAmber_kept, ↓State.thm_kept] | refine kept_foldl (fun _ _ => ?_) ?_ | split | rfl)

@[simp] theorem State.evalLeak_kept (s : State) (ohms : Nat) :
    (State.evalLeak s ohms).kept = s.kept := by
  unfold State.evalLeak
  repeat' (first | with_reducible rfl | simp only [↓kept_with, ↓kept_ite, ite_self, ↓State.leakFault_kept, ↓State.odSetN_kept, ↓State.thm_kept] | refine kept_foldl (fun _ _ => ?_) ?_ | split | rfl)

@[simp] theorem State.evalSelfTest_kept (s : State) (pass : Bool) :
    (State.evalSelfTest s pass).kept = s.kept := by
  unfold State.evalSelfTest
  repeat' (first | with_reducible rfl | simp only [↓kept_with, ↓kept_ite, ite_self, ↓State.alertSet_kept, ↓State.leakFault_kept, ↓State.limitNow_kept, ↓State.odInc_kept, ↓State.odSetN_kept, ↓State.progress_kept, ↓State.sensorAmber_kept, ↓State.thm_kept] | refine kept_foldl (fun _ _ => ?_) ?_ | split | rfl)

@[simp] theorem State.flowEstimate_kept (s : State) :
    (State.flowEstimate s).kept = s.kept := by
  unfold State.flowEstimate
  repeat' (first | with_reducible rfl | simp only [↓kept_with, ↓kept_ite, ite_self, ↓State.freeVal_kept, ↓State.odApply_kept, ↓State.odSetN_kept, ↓State.thm_kept] | refine kept_foldl (fun _ _ => ?_) ?_ | split | rfl)

@[simp] theorem State.inletEvent_kept (s : State) :
    (State.inletEvent s).kept = s.kept := by
  unfold State.inletEvent
  repeat' (first | with_reducible rfl | simp only [↓kept_with, ↓kept_ite, ite_self, ↓State.raise_kept, ↓State.thm_kept] | refine kept_foldl (fun _ _ => ?_) ?_ | split | rfl)

@[simp] theorem State.readSensors_kept (s : State) (predicted : List Int) :
    (State.readSensors s predicted).kept = s.kept := by
  unfold State.readSensors
  repeat' (first | with_reducible rfl | simp only [↓kept_with, ↓kept_ite, ite_self, ↓State.odSetN_kept, ↓State.sensorAmber_kept, ↓State.thm_kept] | refine kept_foldl (fun _ _ => ?_) ?_ | split | rfl)

@[simp] theorem State.readings_kept (s : State) (l : List Int) :
    (State.readings s l).kept = s.kept := by
  unfold State.readings
  repeat' (first | with_reducible rfl | simp only [↓kept_with, ↓kept_ite, ite_self, ↓State.odSetN_kept] | refine kept_foldl (fun _ _ => ?_) ?_ | split | rfl)

@[simp] theorem State.thermalStep_kept (s : State) :
    (State.thermalStep s).kept = s.kept := by
  unfold State.thermalStep
  repeat' (first | with_reducible rfl | simp only [↓kept_with, ↓kept_ite, ite_self, ↓State.odApply_kept, ↓State.pwr_kept] | refine kept_foldl (fun _ _ => ?_) ?_ | split | rfl)

@[simp] theorem State.evalTemps_kept (s : State) (readings : List Int) (predicted : List Int) :
    (State.evalTemps s readings predicted).kept = s.kept := by
  unfold State.evalTemps
  repeat' (first | with_reducible rfl | simp only [↓kept_with, ↓kept_ite, ite_self, ↓State.ceilingNow_kept, ↓State.cycles_kept, ↓State.estimate_kept, ↓State.flowEstimate_kept, ↓State.inletEvent_kept, ↓State.readSensors_kept, ↓State.readings_kept, ↓State.thermalStep_kept] | refine kept_foldl (fun _ _ => ?_) ?_ | split | rfl)

@[simp] theorem State.flightGuilty_kept (s : State) (r : DescRef) :
    (State.flightGuilty s r).kept = s.kept := by
  unfold State.flightGuilty
  repeat' (first | with_reducible rfl | simp only [↓kept_with, ↓kept_ite, ite_self, ↓State.flightDone_kept, ↓State.updFlight_kept] | refine kept_foldl (fun _ _ => ?_) ?_ | split | rfl)

@[simp] theorem State.setPhase_kept (s : State) (e : Nat) (v : Bool) :
    (State.setPhase s e v).kept = s.kept := by
  unfold State.setPhase
  repeat' (first | with_reducible rfl | simp only [↓kept_with, ↓kept_ite, ite_self] | refine kept_foldl (fun _ _ => ?_) ?_ | split | rfl)

@[simp] theorem State.flipPair_kept (s : State) (c : Nat) (b : Nat) :
    (State.flipPair s c b).kept = s.kept := by
  unfold State.flipPair
  repeat' (first | with_reducible rfl | simp only [↓kept_with, ↓kept_ite, ite_self, ↓State.setPhase_kept] | refine kept_foldl (fun _ _ => ?_) ?_ | split | rfl)

@[simp] theorem State.flipBoth_kept (s : State) (c : Nat) (b : Nat) :
    (State.flipBoth s c b).kept = s.kept := by
  unfold State.flipBoth
  repeat' (first | with_reducible rfl | simp only [↓kept_with, ↓kept_ite, ite_self, ↓State.flipPair_kept, ↓State.odSetN_kept] | refine kept_foldl (fun _ _ => ?_) ?_ | split | rfl)

@[simp] theorem State.flipIn_kept (s : State) (c : Nat) (b : Nat) :
    (State.flipIn s c b).kept = s.kept := by
  unfold State.flipIn
  repeat' (first | with_reducible rfl | simp only [↓kept_with, ↓kept_ite, ite_self, ↓State.setPhase_kept] | refine kept_foldl (fun _ _ => ?_) ?_ | split | rfl)

@[simp] theorem State.flitDiscard_kept (s : State) (n : Nat) :
    (State.flitDiscard s n).kept = s.kept := by
  unfold State.flitDiscard
  repeat' (first | with_reducible rfl | simp only [↓kept_with, ↓kept_ite, ite_self, ↓State.odInc_kept, ↓State.setLink_kept] | refine kept_foldl (fun _ _ => ?_) ?_ | split | rfl)

@[simp] theorem State.slot_kept (s : State) (n : Nat) (sop : Bool) (eop : Bool) (b : List Byte) :
    (State.slot s n sop eop b).kept = s.kept := by
  unfold State.slot
  repeat' (first | with_reducible rfl | simp only [↓kept_with, ↓kept_ite, ite_self, ↓State.odInc_kept, ↓State.setLink_kept] | refine kept_foldl (fun _ _ => ?_) ?_ | split | rfl)

@[simp] theorem State.flitIn_kept (s : State) (n : Nat) (flit : List Byte) :
    (State.flitIn s n flit).kept = s.kept := by
  unfold State.flitIn
  repeat' (first | with_reducible rfl | simp only [↓kept_with, ↓kept_ite, ite_self, ↓State.flitDiscard_kept, ↓State.setLink_kept, ↓State.slot_kept, ↓State.updLink_kept] | refine kept_foldl (fun _ _ => ?_) ?_ | split | rfl)

@[simp] theorem State.hcClear_kept (s : State) (p : Nat) :
    (State.hcClear s p).kept = s.kept := by
  unfold State.hcClear
  repeat' (first | with_reducible rfl | simp only [↓kept_with, ↓kept_ite, ite_self] | refine kept_foldl (fun _ _ => ?_) ?_ | split | rfl)

@[simp] theorem State.stopQueues_kept (s : State) (q : Nat → Bool) :
    (State.stopQueues s q).kept = s.kept := by
  unfold State.stopQueues
  repeat' (first | with_reducible rfl | simp only [↓kept_with, ↓kept_ite, ite_self, ↓State.qGo_kept] | refine kept_foldl (fun _ _ => ?_) ?_ | split | rfl)

@[simp] theorem State.tdiError_kept (s : State) (p : Nat) :
    (State.tdiError s p).kept = s.kept := by
  unfold State.tdiError
  repeat' (first | with_reducible rfl | simp only [↓kept_with, ↓kept_ite, ite_self, ↓State.odSetN_kept, ↓State.stopQueues_kept] | refine kept_foldl (fun _ _ => ?_) ?_ | split | rfl)

@[simp] theorem State.flr_kept (s : State) (fn : Nat) :
    (State.flr s fn).kept = s.kept := by
  unfold State.flr
  repeat' (first | with_reducible rfl | simp only [↓kept_with, ↓kept_ite, ite_self, ↓State.endSession_kept, ↓State.hcClear_kept, ↓State.mgmtSet_kept, ↓State.qGo_kept, ↓State.setFn_kept, ↓State.tdiError_kept, ↓State.updQueue_kept] | refine kept_foldl (fun _ _ => ?_) ?_ | split | rfl)

@[simp] theorem State.fromFormat_kept (s : State) :
    (State.fromFormat s).kept = s.kept := by
  unfold State.fromFormat
  repeat' (first | with_reducible rfl | simp only [↓kept_with, ↓kept_ite, ite_self, ↓State.fwSet_kept, ↓State.odSet_kept] | refine kept_foldl (fun _ _ => ?_) ?_ | split | rfl)

@[simp] theorem State.toFormat_kept (s : State) (f : Nat) :
    (State.toFormat s f).kept = s.kept := by
  unfold State.toFormat
  repeat' (first | with_reducible rfl | simp only [↓kept_with, ↓kept_ite, ite_self, ↓State.fwSet_kept, ↓State.odSet_kept] | refine kept_foldl (fun _ _ => ?_) ?_ | split | rfl)

@[simp] theorem State.formatSwap_kept (s : State) :
    (State.formatSwap s).kept = s.kept := by
  unfold State.formatSwap
  repeat' (first | with_reducible rfl | simp only [↓kept_with, ↓kept_ite, ite_self, ↓State.fromFormat_kept, ↓State.fwSet_kept, ↓State.odSetN_kept, ↓State.toFormat_kept] | refine kept_foldl (fun _ _ => ?_) ?_ | split | rfl)

@[simp] theorem State.fwShow_kept (s : State) :
    (State.fwShow s).kept = s.kept := by
  unfold State.fwShow
  repeat' (first | with_reducible rfl | simp only [↓kept_with, ↓kept_ite, ite_self, ↓State.amber_kept, ↓State.odSetN_kept] | refine kept_foldl (fun _ _ => ?_) ?_ | split | rfl)

@[simp] theorem State.fwGo_kept (s : State) (st : Nat) :
    (State.fwGo s st).kept = s.kept := by
  unfold State.fwGo
  repeat' (first | with_reducible rfl | simp only [↓kept_with, ↓kept_ite, ite_self, ↓State.fwSet_kept, ↓State.fwShow_kept, ↓State.raise_kept] | refine kept_foldl (fun _ _ => ?_) ?_ | split | rfl)

@[simp] theorem State.fwFinish_kept (s : State) :
    (State.fwFinish s).kept = s.kept := by
  unfold State.fwFinish
  repeat' (first | with_reducible rfl | simp only [↓kept_with, ↓kept_ite, ite_self, ↓State.fwGo_kept, ↓State.fwSet_kept] | refine kept_foldl (fun _ _ => ?_) ?_ | split | rfl)

@[simp] theorem State.groupWrite_kept (s : State) (g : Nat) (b : List Byte) :
    (State.groupWrite s g b).kept = s.kept := by
  unfold State.groupWrite
  repeat' (first | with_reducible rfl | simp only [↓kept_with, ↓kept_ite, ite_self, ↓State.applyGroup_kept, ↓State.odAccept_kept] | refine kept_foldl (fun _ _ => ?_) ?_ | split | rfl)

@[simp] theorem State.slateCross_kept (s : State) :
    (State.slateCross s).kept = s.kept := by
  unfold State.slateCross
  repeat' (first | with_reducible rfl | simp only [↓kept_with, ↓kept_ite, ite_self, ↓State.xingClear_kept] | refine kept_foldl (fun _ _ => ?_) ?_ | split | rfl)

@[simp] theorem State.switchOver_kept (s : State) :
    (State.switchOver s).kept = s.kept := by
  unfold State.switchOver
  repeat' (first | with_reducible rfl | simp only [↓kept_with, ↓kept_ite, ite_self, ↓State.formatSwap_kept, ↓State.fwSet_kept, ↓State.slateCross_kept] | refine kept_foldl (fun _ _ => ?_) ?_ | split | rfl)

@[simp] theorem State.handedOver_kept (s : State) :
    (State.handedOver s).kept = s.kept := by
  unfold State.handedOver
  repeat' (first | with_reducible rfl | simp only [↓kept_with, ↓kept_ite, ite_self, ↓State.fwGo_kept, ↓State.fwSet_kept, ↓State.fwShow_kept, ↓State.setSlate_kept, ↓State.switchOver_kept] | refine kept_foldl (fun _ _ => ?_) ?_ | split | rfl)

@[simp] theorem State.setHc_kept (s : State) (p : Nat) (h : Nat) (x : HCnt) :
    (State.setHc s p h x).kept = s.kept := by
  unfold State.setHc
  repeat' (first | with_reducible rfl | simp only [↓kept_with, ↓kept_ite, ite_self] | refine kept_foldl (fun _ _ => ?_) ?_ | split | rfl)

@[simp] theorem State.hcTest_kept (s : State) (p : Nat) (h : Nat) :
    (State.hcTest s p h).kept = s.kept := by
  unfold State.hcTest
  repeat' (first | with_reducible rfl | simp only [↓kept_with, ↓kept_ite, ite_self, ↓State.pulse_kept, ↓State.setHc_kept] | refine kept_foldl (fun _ _ => ?_) ?_ | split | rfl)

@[simp] theorem State.hcSet_kept (s : State) (p : Nat) (h : Nat) (v : Word) :
    (State.hcSet s p h v).kept = s.kept := by
  unfold State.hcSet
  repeat' (first | with_reducible rfl | simp only [↓kept_with, ↓kept_ite, ite_self, ↓State.hcTest_kept, ↓State.setHc_kept] | refine kept_foldl (fun _ _ => ?_) ?_ | split | rfl)

@[simp] theorem State.hcAdd_kept (s : State) (p : Nat) (h : Nat) (v : Word) :
    (State.hcAdd s p h v).kept = s.kept := by
  unfold State.hcAdd
  repeat' (first | with_reducible rfl | simp only [↓kept_with, ↓kept_ite, ite_self, ↓State.hcSet_kept] | refine kept_foldl (fun _ _ => ?_) ?_ | split | rfl)

@[simp] theorem State.holdSample_kept (s : State) (x : Sample) :
    (State.holdSample s x).kept = s.kept := by
  unfold State.holdSample
  repeat' (first | with_reducible rfl | simp only [↓kept_with, ↓kept_ite, ite_self, ↓State.thm_kept] | refine kept_foldl (fun _ _ => ?_) ?_ | split | rfl)

@[simp] theorem State.hotEnable_kept (s : State) (k : Nat) :
    (State.hotEnable s k).kept = s.kept := by
  unfold State.hotEnable
  repeat' (first | with_reducible rfl | simp only [↓kept_with, ↓kept_ite, ite_self, ↓State.hotClear_kept, ↓State.odApply_kept] | refine kept_foldl (fun _ _ => ?_) ?_ | split | rfl)

@[simp] theorem State.housekeepingOff_kept (s : State) :
    (State.housekeepingOff s).kept = s.kept := by
  unfold State.housekeepingOff
  repeat' (first | with_reducible rfl | simp only [↓kept_with, ↓kept_ite, ite_self, ↓State.alertLine_kept, ↓State.lifeSet_kept, ↓State.odSetN_kept] | refine kept_foldl (fun _ _ => ?_) ?_ | split | rfl)

@[simp] theorem State.inputSeen_kept (s : State) (mv : Nat) :
    (State.inputSeen s mv).kept = s.kept := by
  unfold State.inputSeen
  repeat' (first | with_reducible rfl | simp only [↓kept_with, ↓kept_ite, ite_self, ↓State.lifeSet_kept] | refine kept_foldl (fun _ _ => ?_) ?_ | split | rfl)

@[simp] theorem State.onyx_kept (s : State) (f : Onyx → Onyx) :
    (State.onyx s f).kept = s.kept := by
  unfold State.onyx
  repeat' (first | with_reducible rfl | simp only [↓kept_with, ↓kept_ite, ite_self] | refine kept_foldl (fun _ _ => ?_) ?_ | split | rfl)

@[simp] theorem State.secretNew_kept (s : State) (sel : Nat) :
    (State.secretNew s sel).kept = s.kept := by
  unfold State.secretNew
  repeat' (first | with_reducible rfl | simp only [↓kept_with, ↓kept_ite, ite_self, ↓State.dropKeys_kept] | refine kept_foldl (fun _ _ => ?_) ?_ | split | rfl)

@[simp] theorem State.jobDone_kept (s : State) (j : OJob) :
    (State.jobDone s j).kept = s.kept := by
  unfold State.jobDone
  repeat' (first | with_reducible rfl | simp only [↓kept_with, ↓kept_ite, ite_self, ↓State.freeVal_kept, ↓State.odSet_kept, ↓State.odSetN_kept, ↓State.onyx_kept, ↓State.secretNew_kept] | refine kept_foldl (fun _ _ => ?_) ?_ | split | rfl)

@[simp] theorem State.jobWrite_kept (s : State) (idx : Nat) (b : List Byte) :
    (State.jobWrite s idx b).kept = s.kept := by
  unfold State.jobWrite
  repeat' (first | with_reducible rfl | simp only [↓kept_with, ↓kept_ite, ite_self, ↓State.destroySecret_kept, ↓State.onyx_kept] | refine kept_foldl (fun _ _ => ?_) ?_ | split | rfl)

@[simp] theorem State.keepColl_kept (s : State) (l : List Nat) (f : State → State) : (s.keepColl l f).kept = (f s).kept := by
  unfold State.keepColl
  exact kept_foldl (fun _ _ => State.setCore_kept _ _ _) rfl

@[simp] theorem State.linkFail_kept (s : State) (n : Nat) (reason : Nat) :
    (State.linkFail s n reason).kept = s.kept := by
  unfold State.linkFail
  repeat' (first | with_reducible rfl | simp only [↓kept_with, ↓kept_ite, ite_self, ↓State.linkGo_kept, ↓State.odApply_kept] | refine kept_foldl (fun _ _ => ?_) ?_ | split | rfl)

@[simp] theorem State.lanesLost_kept (s : State) (n : Nat) :
    (State.lanesLost s n).kept = s.kept := by
  unfold State.lanesLost
  repeat' (first | with_reducible rfl | simp only [↓kept_with, ↓kept_ite, ite_self, ↓State.control_kept, ↓State.linkFail_kept] | refine kept_foldl (fun _ _ => ?_) ?_ | split | rfl)

@[simp] theorem State.laneFails_kept (s : State) (n : Nat) (lane : Nat) :
    (State.laneFails s n lane).kept = s.kept := by
  unfold State.laneFails
  repeat' (first | with_reducible rfl | simp only [↓kept_with, ↓kept_ite, ite_self, ↓State.askRepair_kept, ↓State.lanesLost_kept, ↓State.setLink_kept, ↓State.showMap_kept, ↓State.updLink_kept] | refine kept_foldl (fun _ _ => ?_) ?_ | split | rfl)

@[simp] theorem State.learn_kept (s : State) (g : Nat) (p : Nat) (d : Dec) :
    (State.learn s g p d).kept = s.kept := by
  unfold State.learn
  repeat' (first | with_reducible rfl | simp only [↓kept_with, ↓kept_ite, ite_self, ↓State.coRest_kept, ↓State.contradict_kept, ↓State.hold_kept, ↓State.memberDecide_kept] | refine kept_foldl (fun _ _ => ?_) ?_ | split | rfl)

@[simp] theorem State.leave_kept (s : State) (n : Nat) (k : Nat) (w : Word) :
    (State.leave s n k w).kept = s.kept := by
  unfold State.leave
  repeat' (first | with_reducible rfl | simp only [↓kept_with, ↓kept_ite, ite_self, ↓State.progressed_kept, ↓State.setCore_kept] | refine kept_foldl (fun _ _ => ?_) ?_ | split | rfl)

@[simp] theorem State.leaveService_kept (s : State) :
    (State.leaveService s).kept = s.kept := by
  unfold State.leaveService
  repeat' (first | with_reducible rfl | simp only [↓kept_with, ↓kept_ite, ite_self, ↓State.odSetN_kept, ↓State.stopQueues_kept] | refine kept_foldl (fun _ _ => ?_) ?_ | split | rfl)

@[simp] theorem State.licenceTake_kept (s : State) (b : List Byte) :
    (State.licenceTake s b).kept = s.kept := by
  unfold State.licenceTake
  repeat' (first | with_reducible rfl | simp only [↓kept_with, ↓kept_ite, ite_self, ↓State.applyLicence_kept, ↓State.odAccept_kept, ↓State.odSetN_kept] | refine kept_foldl (fun _ _ => ?_) ?_ | split | rfl)

@[simp] theorem State.testAbandoned_kept (s : State) (n : Nat) :
    (State.testAbandoned s n).kept = s.kept := by
  unfold State.testAbandoned
  repeat' (first | with_reducible rfl | simp only [↓kept_with, ↓kept_ite, ite_self, ↓State.odSetN_kept] | refine kept_foldl (fun _ _ => ?_) ?_ | split | rfl)

@[simp] theorem State.linkOff_kept (s : State) (n : Nat) :
    (State.linkOff s n).kept = s.kept := by
  unfold State.linkOff
  repeat' (first | with_reducible rfl | simp only [↓kept_with, ↓kept_ite, ite_self, ↓State.linkGo_kept, ↓State.linkReset_kept, ↓State.showMap_kept, ↓State.testAbandoned_kept, ↓State.updLink_kept] | refine kept_foldl (fun _ _ => ?_) ?_ | split | rfl)

@[simp] theorem State.linkDisableTick_kept (s : State) (n : Nat) :
    (State.linkDisableTick s n).kept = s.kept := by
  unfold State.linkDisableTick
  repeat' (first | with_reducible rfl | simp only [↓kept_with, ↓kept_ite, ite_self, ↓State.linkOff_kept] | refine kept_foldl (fun _ _ => ?_) ?_ | split | rfl)

@[simp] theorem State.linkEnableSet_kept (s : State) (n : Nat) (on : Bool) :
    (State.linkEnableSet s n on).kept = s.kept := by
  unfold State.linkEnableSet
  repeat' (first | with_reducible rfl | simp only [↓kept_with, ↓kept_ite, ite_self, ↓State.linkAmber_kept, ↓State.linkDetect_kept, ↓State.linkOff_kept, ↓State.linksProgress_kept, ↓State.odSetN_kept, ↓State.updLink_kept] | refine kept_foldl (fun _ _ => ?_) ?_ | split | rfl)

@[simp] theorem State.loopReturn_kept (s : State) (n : Nat) (before : LinkSt) :
    (State.loopReturn s n before).kept = s.kept := by
  unfold State.loopReturn
  repeat' (first | with_reducible rfl | simp only [↓kept_with, ↓kept_ite, ite_self, ↓State.enterNegotiate_kept, ↓State.linkDetect_kept, ↓State.linkOff_kept, ↓State.updLink_kept] | refine kept_foldl (fun _ _ => ?_) ?_ | split | rfl)

@[simp] theorem State.sendPattern_kept (s : State) (n : Nat) :
    (State.sendPattern s n).kept = s.kept := by
  unfold State.sendPattern
  repeat' (first | with_reducible rfl | simp only [↓kept_with, ↓kept_ite, ite_self, ↓State.emit_kept] | refine kept_foldl (fun _ _ => ?_) ?_ | split | rfl)

@[simp] theorem State.loopbackStart_kept (s : State) (n : Nat) (v : Nat) :
    (State.loopbackStart s n v).kept = s.kept := by
  unfold State.loopbackStart
  repeat' (first | with_reducible rfl | simp only [↓kept_with, ↓kept_ite, ite_self, ↓State.capSend_kept, ↓State.linkGo_kept, ↓State.odSetN_kept, ↓State.sendPattern_kept, ↓State.updLink_kept] | refine kept_foldl (fun _ _ => ?_) ?_ | split | rfl)

@[simp] theorem State.mAnswered_kept (s : State) (n : Nat) (id : Nat) :
    (State.mAnswered s n id).kept = s.kept := by
  unfold State.mAnswered
  repeat' (first | with_reducible rfl | simp only [↓kept_with, ↓kept_ite, ite_self, ↓State.updMop_kept] | refine kept_foldl (fun _ _ => ?_) ?_ | split | rfl)

@[simp] theorem State.mLeft_kept (s : State) (n : Nat) (id : Nat) (k : Nat) :
    (State.mLeft s n id k).kept = s.kept := by
  unfold State.mLeft
  repeat' (first | with_reducible rfl | simp only [↓kept_with, ↓kept_ite, ite_self, ↓State.updMop_kept] | refine kept_foldl (fun _ _ => ?_) ?_ | split | rfl)

@[simp] theorem State.mReqFault_kept (s : State) (n : Nat) (id : Nat) (code : Nat) (pkt : Pkt) :
    (State.mReqFault s n id code pkt).kept = s.kept := by
  unfold State.mReqFault
  repeat' (first | with_reducible rfl | simp only [↓kept_with, ↓kept_ite, ite_self, ↓State.mAnswered_kept, ↓State.mFault_kept] | refine kept_foldl (fun _ _ => ?_) ?_ | split | rfl)

@[simp] theorem State.markDefect_kept (s : State) (n : Nat) :
    (State.markDefect s n).kept = s.kept := by
  unfold State.markDefect
  repeat' (first | with_reducible rfl | simp only [↓kept_with, ↓kept_ite, ite_self, ↓State.odAccept_kept, ↓State.odSetN_kept] | refine kept_foldl (fun _ _ => ?_) ?_ | split | rfl)

@[simp] theorem State.mbxFlush_kept (s : State) :
    (State.mbxFlush s).kept = s.kept := by
  unfold State.mbxFlush
  repeat' (first | with_reducible rfl | simp only [↓kept_with, ↓kept_ite, ite_self, ↓State.mbxPut_kept, ↓State.mgmtSet_kept] | refine kept_foldl (fun _ _ => ?_) ?_ | split | rfl)

@[simp] theorem State.migrationEvents_kept (s : State) (f : Nat) :
    (State.migrationEvents s f).kept = s.kept := by
  unfold State.migrationEvents
  repeat' (first | with_reducible rfl | simp only [↓kept_with, ↓kept_ite, ite_self, ↓State.raise_kept] | refine kept_foldl (fun _ _ => ?_) ?_ | split | rfl)

@[simp] theorem State.noteGate_kept (s : State) (g : Gate) :
    (State.noteGate s g).kept = s.kept := by
  unfold State.noteGate
  repeat' (first | with_reducible rfl | simp only [↓kept_with, ↓kept_ite, ite_self, ↓State.ledgerFull_kept, ↓State.odInc_kept] | refine kept_foldl (fun _ _ => ?_) ?_ | split | rfl)

@[simp] theorem State.noteHost_kept (s : State) (p : Nat) (r : Acc) :
    (State.noteHost s p r).kept = s.kept := by
  unfold State.noteHost
  repeat' (first | with_reducible rfl | simp only [↓kept_with, ↓kept_ite, ite_self, ↓State.countAddress_kept, ↓State.noteAcc_kept] | refine kept_foldl (fun _ _ => ?_) ?_ | split | rfl)

@[simp] theorem State.odIgnored_kept (s : State) (door : Door) (idx : Nat) (sub : Nat) :
    (State.odIgnored s door idx sub).kept = s.kept := by
  unfold State.odIgnored
  repeat' (first | with_reducible rfl | simp only [↓kept_with, ↓kept_ite, ite_self, ↓State.ignored_kept, ↓State.odInc_kept] | refine kept_foldl (fun _ _ => ?_) ?_ | split | rfl)

@[simp] theorem State.pickId_kept (s : State) :
    (State.pickId s).2.kept = s.kept := by
  unfold State.pickId
  repeat' (first | with_reducible rfl | simp only [↓kept_with, ↓kept_ite, ite_self, ↓State.freeVal_kept] | refine kept_foldl (fun _ _ => ?_) ?_ | split | rfl)

@[simp] theorem State.updSession_kept (s : State) (id : Nat) (f : Session → Session) :
    (State.updSession s id f).kept = s.kept := by
  unfold State.updSession
  repeat' (first | with_reducible rfl | simp only [↓kept_with, ↓kept_ite, ite_self, ↓State.mgmtSet_kept] | refine kept_foldl (fun _ _ => ?_) ?_ | split | rfl)

@[simp] theorem State.replayEvents_kept (s : State) (id : Nat) (resume : Nat) :
    (State.replayEvents s id resume).kept = s.kept := by
  unfold State.replayEvents
  split
  · rfl
  · split
    · rfl
    · have hd : ∀ (o : Option Session) (t : State), (o.elim t t.deliverOne).kept = t.kept := by
        intro o t; cases o
        · rfl
        · exact State.deliverOne_kept t _
      simp only [hd, State.updSession_kept, kept_ite, State.sendTo_kept, ite_self]

@[simp] theorem State.openReq_kept (s : State) (f : Frame) (vmin : Nat) (vmax : Nat) (flags : Nat) (resume : Nat) :
    (State.openReq s f vmin vmax flags resume).kept = s.kept := by
  unfold State.openReq
  repeat' (first | with_reducible rfl | simp only [↓kept_with, ↓kept_ite, ite_self, ↓State.agedEvents_kept, ↓State.amber_kept, ↓State.endSession_kept, ↓State.mgmtSet_kept, ↓State.odApply_kept, ↓State.pickId_kept, ↓State.replayEvents_kept, ↓State.sendTo_kept] | refine kept_foldl (fun _ _ => ?_) ?_ | split | rfl)

@[simp] theorem State.sepiaAcked_kept (s : State) (id : Nat) (unit : Nat) :
    (State.sepiaAcked s id unit).kept = s.kept := by
  unfold State.sepiaAcked
  repeat' (first | with_reducible rfl | simp only [↓kept_with, ↓kept_ite, ite_self, ↓State.odApply_kept, ↓State.updCmd_kept] | refine kept_foldl (fun _ _ => ?_) ?_ | split | rfl)

@[simp] theorem State.ownerAcked_kept (s : State) (r : Req) :
    (State.ownerAcked s r).kept = s.kept := by
  unfold State.ownerAcked
  repeat' (first | with_reducible rfl | simp only [↓kept_with, ↓kept_ite, ite_self, ↓State.collAcked_kept, ↓State.epAcked_kept, ↓State.mAnswered_kept, ↓State.sepiaAcked_kept] | refine kept_foldl (fun _ _ => ?_) ?_ | split | rfl)

@[simp] theorem State.sepiaRefused_kept (s : State) (id : Nat) (unit : Nat) (st : Nat) :
    (State.sepiaRefused s id unit st).kept = s.kept := by
  unfold State.sepiaRefused
  repeat' (first | with_reducible rfl | simp only [↓kept_with, ↓kept_ite, ite_self, ↓State.updCmd_kept] | refine kept_foldl (fun _ _ => ?_) ?_ | split | rfl)

@[simp] theorem State.ownerFailed_kept (s : State) (r : Req) (st : Nat) :
    (State.ownerFailed s r st).kept = s.kept := by
  unfold State.ownerFailed
  repeat' (first | with_reducible rfl | simp only [↓kept_with, ↓kept_ite, ite_self, ↓State.collRefused_kept, ↓State.epRefused_kept, ↓State.mReqFault_kept, ↓State.sepiaRefused_kept] | refine kept_foldl (fun _ _ => ?_) ?_ | split | rfl)

@[simp] theorem State.paceGroupTake_kept (s : State) :
    (State.paceGroupTake s).kept = s.kept := by
  unfold State.paceGroupTake
  repeat' (first | with_reducible rfl | simp only [↓kept_with, ↓kept_ite, ite_self, ↓State.odApply_kept, ↓State.pwr_kept, ↓State.raise_kept] | refine kept_foldl (fun _ _ => ?_) ?_ | split | rfl)

@[simp] theorem State.partGo_kept (s : State) (p : Nat) (st : PartSt) :
    (State.partGo s p st).kept = s.kept := by
  unfold State.partGo
  repeat' (first | with_reducible rfl | simp only [↓kept_with, ↓kept_ite, ite_self, ↓State.odSetN_kept, ↓State.setPart_kept] | refine kept_foldl (fun _ _ => ?_) ?_ | split | rfl)

@[simp] theorem State.partTake_kept (s : State) (b : List Byte) :
    (State.partTake s b).kept = s.kept := by
  unfold State.partTake
  repeat' (first | with_reducible rfl | simp only [↓kept_with, ↓kept_ite, ite_self, ↓State.fwGo_kept, ↓State.fwSet_kept] | refine kept_foldl (fun _ _ => ?_) ?_ | split | rfl)

@[simp] theorem State.patternCut_kept (s : State) (lo : Nat) (hi : Nat) :
    (State.patternCut s lo hi).kept = s.kept := by
  unfold State.patternCut
  repeat' (first | with_reducible rfl | simp only [↓kept_with, ↓kept_ite, ite_self] | refine kept_foldl (fun _ _ => ?_) ?_ | split | rfl)

@[simp] theorem State.plcaTake_kept (s : State) :
    (State.plcaTake s).kept = s.kept := by
  unfold State.plcaTake
  repeat' (first | with_reducible rfl | simp only [↓kept_with, ↓kept_ite, ite_self, ↓State.odApplyAll_kept] | refine kept_foldl (fun _ _ => ?_) ?_ | split | rfl)

@[simp] theorem State.poolAbandon_kept (s : State) (c : Nat) :
    (State.poolAbandon s c).kept = s.kept := by
  unfold State.poolAbandon
  repeat' (first | with_reducible rfl | simp only [↓kept_with, ↓kept_ite, ite_self, ↓State.odSetN_kept] | refine kept_foldl (fun _ _ => ?_) ?_ | split | rfl)

@[simp] theorem State.powerOff_kept (s : State) (cause : Nat) (elem : Nat) :
    (State.powerOff s cause elem).kept = s.kept := by
  unfold State.powerOff
  repeat' (first | with_reducible rfl | simp only [↓kept_with, ↓kept_ite, ite_self, ↓State.alertSet_kept, ↓State.lifeSet_kept, ↓State.pwr_kept] | refine kept_foldl (fun _ _ => ?_) ?_ | split | rfl)

@[simp] theorem State.pushCmd_kept (s : State) (who : Issuer) (p : Nat) (seed : Nat) (c : Nat) :
    (State.pushCmd s who p seed c).kept = s.kept := by
  unfold State.pushCmd
  repeat' (first | with_reducible rfl | simp only [↓kept_with, ↓kept_ite, ite_self, ↓State.odInc_kept] | refine kept_foldl (fun _ _ => ?_) ?_ | split | rfl)

@[simp] theorem State.qDrained_kept (s : State) (q : Nat) :
    (State.qDrained s q).kept = s.kept := by
  unfold State.qDrained
  repeat' (first | with_reducible rfl | simp only [↓kept_with, ↓kept_ite, ite_self, ↓State.qGo_kept, ↓State.updQueue_kept] | refine kept_foldl (fun _ _ => ?_) ?_ | split | rfl)

@[simp] theorem State.storeCoeffs_kept (s : State) (n : Nat) :
    (State.storeCoeffs s n).kept = s.kept := by
  unfold State.storeCoeffs
  repeat' (first | with_reducible rfl | simp only [↓kept_with, ↓kept_ite, ite_self, ↓State.freeVal_kept, ↓State.odSet_kept] | refine kept_foldl (fun _ _ => ?_) ?_ | split | rfl)

@[simp] theorem State.qualResolve_kept (s : State) (n : Nat) :
    (State.qualResolve s n).kept = s.kept := by
  unfold State.qualResolve
  repeat' (first | with_reducible rfl | simp only [↓kept_with, ↓kept_ite, ite_self, ↓State.eqStart_kept, ↓State.linkFail_kept, ↓State.linkGo_kept, ↓State.setLink_kept, ↓State.storeCoeffs_kept] | refine kept_foldl (fun _ _ => ?_) ?_ | split | rfl)

@[simp] theorem State.readOnly_kept (s : State) (fn : Nat) (off : Nat) (part : Option Nat) (queue : Option Nat) (v : Word) :
    (State.readOnly s fn off part queue v).kept = s.kept := by
  unfold State.readOnly
  repeat' (first | with_reducible rfl | simp only [↓kept_with, ↓kept_ite, ite_self, ↓State.ignored_kept] | refine kept_foldl (fun _ _ => ?_) ?_ | split | rfl)

@[simp] theorem State.refuseMsg_kept (s : State) (f : Frame) (q : SReq) (status : Nat) (elem : Nat) :
    (State.refuseMsg s f q status elem).kept = s.kept := by
  unfold State.refuseMsg
  repeat' (first | with_reducible rfl | simp only [↓kept_with, ↓kept_ite, ite_self, ↓State.odInc_kept, ↓State.sendTo_kept] | refine kept_foldl (fun _ _ => ?_) ?_ | split | rfl)

@[simp] theorem State.refuseReq_kept (s : State) (p : Pkt) (st : Nat) :
    (State.refuseReq s p st).kept = s.kept := by
  unfold State.refuseReq
  repeat' (first | with_reducible rfl | simp only [↓kept_with, ↓kept_ite, ite_self, ↓State.answer_kept] | refine kept_foldl (fun _ _ => ?_) ?_ | split | rfl)

@[simp] theorem State.reissue_kept (s : State) (r : Req) :
    (State.reissue s r).kept = s.kept := by
  unfold State.reissue
  repeat' (first | with_reducible rfl | simp only [↓kept_with, ↓kept_ite, ite_self, ↓State.inject_kept, ↓State.odInc_kept] | refine kept_foldl (fun _ _ => ?_) ?_ | split | rfl)

@[simp] theorem State.releaseTake_kept (s : State) (v : Bool) :
    (State.releaseTake s v).kept = s.kept := by
  unfold State.releaseTake
  repeat' (first | with_reducible rfl | simp only [↓kept_with, ↓kept_ite, ite_self, ↓State.lifeSet_kept] | refine kept_foldl (fun _ _ => ?_) ?_ | split | rfl)

@[simp] theorem State.removalGo_kept (s : State) (k : Nat) :
    (State.removalGo s k).kept = s.kept := by
  unfold State.removalGo
  repeat' (first | with_reducible rfl | simp only [↓kept_with, ↓kept_ite, ite_self, ↓State.lifeSet_kept, ↓State.odSetN_kept, ↓State.raise_kept] | refine kept_foldl (fun _ _ => ?_) ?_ | split | rfl)

@[simp] theorem State.sealAmber_kept (s : State) :
    (State.sealAmber s).kept = s.kept := by
  unfold State.sealAmber
  repeat' (first | with_reducible rfl | simp only [↓kept_with, ↓kept_ite, ite_self, ↓State.amber_kept] | refine kept_foldl (fun _ _ => ?_) ?_ | split | rfl)

@[simp] theorem State.reopenCluster_kept (s : State) (c : Nat) :
    (State.reopenCluster s c).kept = s.kept := by
  unfold State.reopenCluster
  repeat' (first | with_reducible rfl | simp only [↓kept_with, ↓kept_ite, ite_self, ↓State.flipBoth_kept, ↓State.sealAmber_kept] | refine kept_foldl (fun _ _ => ?_) ?_ | split | rfl)

@[simp] theorem State.reqGone_kept (s : State) (dst : Nat) (spart : Nat) (seq : Nat) :
    (State.reqGone s dst spart seq).kept = s.kept := by
  unfold State.reqGone
  repeat' (first | with_reducible rfl | simp only [↓kept_with, ↓kept_ite, ite_self, ↓State.wake_kept] | refine kept_foldl (fun _ _ => ?_) ?_ | split | rfl)

@[simp] theorem State.reqTail_kept (s : State) (t : Nat) :
    (State.reqTail s t).kept = s.kept := by
  unfold State.reqTail
  repeat' (first | with_reducible rfl | simp only [↓kept_with, ↓kept_ite, ite_self, ↓State.mgmtSet_kept, ↓State.odInc_kept] | refine kept_foldl (fun _ _ => ?_) ?_ | split | rfl)

@[simp] theorem State.resetRefused_kept (s : State) (v : Nat) :
    (State.resetRefused s v).kept = s.kept := by
  unfold State.resetRefused
  repeat' (first | with_reducible rfl | simp only [↓kept_with, ↓kept_ite, ite_self, ↓State.resetStatus_kept] | refine kept_foldl (fun _ _ => ?_) ?_ | split | rfl)

@[simp] theorem State.resetUnits_kept (s : State) (n : Nat) (sub : Nat) :
    (State.resetUnits s n sub).kept = s.kept := by
  unfold State.resetUnits
  repeat' (first | with_reducible rfl | simp only [↓kept_with, ↓kept_ite, ite_self, ↓State.coreEnd_kept, ↓State.qGo_kept] | refine kept_foldl (fun _ _ => ?_) ?_ | split | rfl)

@[simp] theorem State.retireSlot_kept (s : State) (k : Nat) :
    (State.retireSlot s k).kept = s.kept := by
  unfold State.retireSlot
  repeat' (first | with_reducible rfl | simp only [↓kept_with, ↓kept_ite, ite_self, ↓State.amber_kept, ↓State.faultRecord_kept, ↓State.odSetN_kept, ↓State.showPools_kept] | refine kept_foldl (fun _ _ => ?_) ?_ | split | rfl)

@[simp] theorem State.retryHeld_kept (s : State) :
    (State.retryHeld s).kept = s.kept := by
  unfold State.retryHeld
  repeat' (first | with_reducible rfl | simp only [↓kept_with, ↓kept_ite, ite_self, ↓State.injectNow_kept] | refine kept_foldl (fun _ _ => ?_) ?_ | split | rfl)

@[simp] theorem State.setHdr_kept (s : State) (k : Nat) (h : RingHdr) :
    (State.setHdr s k h).kept = s.kept := by
  unfold State.setHdr
  repeat' (first | with_reducible rfl | simp only [↓kept_with, ↓kept_ite, ite_self] | refine kept_foldl (fun _ _ => ?_) ?_ | split | rfl)

@[simp] theorem State.ringLost_kept (s : State) (k : Nat) :
    (State.ringLost s k).kept = s.kept := by
  unfold State.ringLost
  repeat' (first | with_reducible rfl | simp only [↓kept_with, ↓kept_ite, ite_self, ↓State.setHdr_kept] | refine kept_foldl (fun _ _ => ?_) ?_ | split | rfl)

@[simp] theorem State.rspHead_kept (s : State) (h : Nat) :
    (State.rspHead s h).kept = s.kept := by
  unfold State.rspHead
  repeat' (first | with_reducible rfl | simp only [↓kept_with, ↓kept_ite, ite_self, ↓State.mbxFlush_kept, ↓State.mgmtSet_kept, ↓State.odInc_kept] | refine kept_foldl (fun _ _ => ?_) ?_ | split | rfl)

@[simp] theorem State.samplesRun_kept (s : State) :
    (State.samplesRun s).kept = s.kept := by
  unfold State.samplesRun
  repeat' (first | with_reducible rfl | simp only [↓kept_with, ↓kept_ite, ite_self, ↓State.evalLeak_kept, ↓State.evalSelfTest_kept, ↓State.evalTemps_kept, ↓State.thm_kept] | refine kept_foldl (fun _ _ => ?_) ?_ | split | rfl)

@[simp] theorem State.scrubKeys_kept (s : State) (p : Nat) (content : Bool) :
    (State.scrubKeys s p content).2.kept = s.kept := by
  unfold State.scrubKeys
  repeat' (first | with_reducible rfl | simp only [↓kept_with, ↓kept_ite, ite_self, ↓State.destroySecret_kept, ↓State.dropKeys_kept] | refine kept_foldl (fun _ _ => ?_) ?_ | split | rfl)

@[simp] theorem State.seenNext_kept (s : State) :
    (State.seenNext s).2.kept = s.kept := by
  unfold State.seenNext
  repeat' (first | with_reducible rfl | simp only [↓kept_with, ↓kept_ite, ite_self] | refine kept_foldl (fun _ _ => ?_) ?_ | split | rfl)

@[simp] theorem State.sendDown_kept (s : State) (ref : DescRef) (j : Nat) (off : Nat) (bs : List Byte) :
    (State.sendDown s ref j off bs).kept = s.kept := by
  unfold State.sendDown
  repeat' (first | with_reducible rfl | simp only [↓kept_with, ↓kept_ite, ite_self, ↓State.colSend_kept, ↓State.updColl_kept] | refine kept_foldl (fun _ _ => ?_) ?_ | split | rfl)

@[simp] theorem State.sendUp_kept (s : State) (c : Coll) (j : Nat) (off : Nat) (bs : List Byte) :
    (State.sendUp s c j off bs).kept = s.kept := by
  unfold State.sendUp
  repeat' (first | with_reducible rfl | simp only [↓kept_with, ↓kept_ite, ite_self, ↓State.colSend_kept] | refine kept_foldl (fun _ _ => ?_) ?_ | split | rfl)

@[simp] theorem State.setIde_kept (s : State) (k : Nat) (x : Ide) :
    (State.setIde s k x).kept = s.kept := by
  unfold State.setIde
  repeat' (first | with_reducible rfl | simp only [↓kept_with, ↓kept_ite, ite_self] | refine kept_foldl (fun _ _ => ?_) ?_ | split | rfl)

@[simp] theorem State.setMap_kept (s : State) (c : Nat) (marks : Nat) (pool : Bool) :
    (State.setMap s c marks pool).kept = s.kept := by
  unfold State.setMap
  repeat' (first | with_reducible rfl | simp only [↓kept_with, ↓kept_ite, ite_self, ↓State.clusterAmber_kept, ↓State.faultRecord_kept, ↓State.odSetN_kept] | refine kept_foldl (fun _ _ => ?_) ?_ | split | rfl)

@[simp] theorem State.setReplay_kept (s : State) (n : Nat) (f : Replay → Replay) :
    (State.setReplay s n f).kept = s.kept := by
  unfold State.setReplay
  repeat' (first | with_reducible rfl | simp only [↓kept_with, ↓kept_ite, ite_self] | refine kept_foldl (fun _ _ => ?_) ?_ | split | rfl)

@[simp] theorem State.setSpdm_kept (s : State) (fn : Nat) (x : Spdm) :
    (State.setSpdm s fn x).kept = s.kept := by
  unfold State.setSpdm
  repeat' (first | with_reducible rfl | simp only [↓kept_with, ↓kept_ite, ite_self] | refine kept_foldl (fun _ _ => ?_) ?_ | split | rfl)

@[simp] theorem State.setTag_kept (s : State) (k : Nat) (v : Nat) :
    (State.setTag s k v).kept = s.kept := by
  unfold State.setTag
  repeat' (first | with_reducible rfl | simp only [↓kept_with, ↓kept_ite, ite_self, ↓State.odSetN_kept] | refine kept_foldl (fun _ _ => ?_) ?_ | split | rfl)

@[simp] theorem State.setTakes_kept (s : State) :
    (State.setTakes s).kept = s.kept := by
  unfold State.setTakes
  repeat' (first | with_reducible rfl | simp only [↓kept_with, ↓kept_ite, ite_self, ↓State.odInc_kept, ↓State.pwr_kept] | refine kept_foldl (fun _ _ => ?_) ?_ | split | rfl)

@[simp] theorem State.settle_kept (s : State) :
    (State.settle s).kept = s.kept := by
  unfold State.settle
  repeat' (first | with_reducible rfl | simp only [↓kept_with, ↓kept_ite, ite_self, ↓State.landed_kept] | refine kept_foldl (fun _ _ => ?_) ?_ | split | rfl)

@[simp] theorem State.showTags_kept (s : State) :
    (State.showTags s).kept = s.kept := by
  unfold State.showTags
  repeat' (first | with_reducible rfl | simp only [↓kept_with, ↓kept_ite, ite_self, ↓State.odSetN_kept] | refine kept_foldl (fun _ _ => ?_) ?_ | split | rfl)

@[simp] theorem State.slateSilent_kept (s : State) :
    (State.slateSilent s).kept = s.kept := by
  unfold State.slateSilent
  repeat' (first | with_reducible rfl | simp only [↓kept_with, ↓kept_ite, ite_self, ↓State.faultRecord_kept, ↓State.fwGo_kept, ↓State.fwSet_kept, ↓State.fwShow_kept, ↓State.setSlate_kept, ↓State.slateCross_kept, ↓State.switchOver_kept] | refine kept_foldl (fun _ _ => ?_) ?_ | split | rfl)

@[simp] theorem State.slotLatch_kept (s : State) (straps : Nat) :
    (State.slotLatch s straps).kept = s.kept := by
  unfold State.slotLatch
  repeat' (first | with_reducible rfl | simp only [↓kept_with, ↓kept_ite, ite_self, ↓State.lifeSet_kept, ↓State.odSetN_kept] | refine kept_foldl (fun _ _ => ?_) ?_ | split | rfl)

@[simp] theorem State.stallStart_kept (s : State) (q : Nat) :
    (State.stallStart s q).kept = s.kept := by
  unfold State.stallStart
  repeat' (first | with_reducible rfl | simp only [↓kept_with, ↓kept_ite, ite_self, ↓State.odApply_kept, ↓State.updQueue_kept] | refine kept_foldl (fun _ _ => ?_) ?_ | split | rfl)

@[simp] theorem State.stillFull_kept (s : State) (p : Nat) (stack : Nat) :
    (State.stillFull s p stack).kept = s.kept := by
  unfold State.stillFull
  repeat' (first | with_reducible rfl | simp only [↓kept_with, ↓kept_ite, ite_self, ↓State.fullReport_kept] | refine kept_foldl (fun _ _ => ?_) ?_ | split | rfl)

@[simp] theorem State.storeCause_kept (s : State) :
    (State.storeCause s).kept = s.kept := by
  unfold State.storeCause
  repeat' (first | with_reducible rfl | simp only [↓kept_with, ↓kept_ite, ite_self, ↓State.lifeSet_kept, ↓State.odInc_kept, ↓State.odSetN_kept] | refine kept_foldl (fun _ _ => ?_) ?_ | split | rfl)

@[simp] theorem State.stray_kept (s : State) (p : Pkt) :
    (State.stray s p).kept = s.kept := by
  unfold State.stray
  repeat' (first | with_reducible rfl | simp only [↓kept_with, ↓kept_ite, ite_self, ↓State.odInc_kept] | refine kept_foldl (fun _ _ => ?_) ?_ | split | rfl)

@[simp] theorem State.swapRefused_kept (s : State) :
    (State.swapRefused s).kept = s.kept := by
  unfold State.swapRefused
  repeat' (first | with_reducible rfl | simp only [↓kept_with, ↓kept_ite, ite_self, ↓State.odSetN_kept] | refine kept_foldl (fun _ _ => ?_) ?_ | split | rfl)

@[simp] theorem State.swapRequest_kept (s : State) (v : Nat) :
    (State.swapRequest s v).kept = s.kept := by
  unfold State.swapRequest
  repeat' (first | with_reducible rfl | simp only [↓kept_with, ↓kept_ite, ite_self, ↓State.odApply_kept, ↓State.odSetN_kept] | refine kept_foldl (fun _ _ => ?_) ?_ | split | rfl)

@[simp] theorem State.switchOpens_kept (s : State) :
    (State.switchOpens s).kept = s.kept := by
  unfold State.switchOpens
  repeat' (first | with_reducible rfl | simp only [↓kept_with, ↓kept_ite, ite_self, ↓State.lifeSet_kept] | refine kept_foldl (fun _ _ => ?_) ?_ | split | rfl)

@[simp] theorem State.syncFault_kept (s : State) (n : Nat) (k : Nat) (w : Word) (code : Nat) (info : Nat) :
    (State.syncFault s n k w code info).kept = s.kept := by
  unfold State.syncFault
  repeat' (first | with_reducible rfl | simp only [↓kept_with, ↓kept_ite, ite_self, ↓State.setCore_kept] | refine kept_foldl (fun _ _ => ?_) ?_ | split | rfl)

@[simp] theorem State.tPush_kept (s : State) (n : Nat) (k : Nat) (w : Word) :
    (State.tPush s n k w).kept = s.kept := by
  unfold State.tPush
  repeat' (first | with_reducible rfl | simp only [↓kept_with, ↓kept_ite, ite_self, ↓State.retire_kept, ↓State.setCore_kept] | refine kept_foldl (fun _ _ => ?_) ?_ | split | rfl)

@[simp] theorem State.tagAdvance_kept (s : State) (k : Nat) :
    (State.tagAdvance s k).kept = s.kept := by
  unfold State.tagAdvance
  repeat' (first | with_reducible rfl | simp only [↓kept_with, ↓kept_ite, ite_self, ↓State.dropReqs_kept, ↓State.fence_kept, ↓State.setTag_kept, ↓State.showTags_kept] | refine kept_foldl (fun _ _ => ?_) ?_ | split | rfl)

@[simp] theorem State.unsealWrite_kept (s : State) (b : List Byte) :
    (State.unsealWrite s b).kept = s.kept := by
  unfold State.unsealWrite
  repeat' (first | with_reducible rfl | simp only [↓kept_with, ↓kept_ite, ite_self, ↓State.odSetN_kept, ↓State.onyx_kept] | refine kept_foldl (fun _ _ => ?_) ?_ | split | rfl)

@[simp] theorem State.windowTake_kept (s : State) (p : Nat) (w : Nat) (b : List Byte) :
    (State.windowTake s p w b).kept = s.kept := by
  unfold State.windowTake
  repeat' (first | with_reducible rfl | simp only [↓kept_with, ↓kept_ite, ite_self, ↓State.odAccept_kept, ↓State.odApply_kept] | refine kept_foldl (fun _ _ => ?_) ?_ | split | rfl)

@[simp] theorem State.takeBlob_kept (s : State) (idx : Nat) (sub : Nat) (b : List Byte) :
    (State.takeBlob s idx sub b).kept = s.kept := by
  unfold State.takeBlob
  repeat' (first | with_reducible rfl | simp only [↓kept_with, ↓kept_ite, ite_self, ↓State.groupWrite_kept, ↓State.jobWrite_kept, ↓State.ledgerSettings_kept, ↓State.licenceTake_kept, ↓State.odAccept_kept, ↓State.odSet_kept, ↓State.partTake_kept, ↓State.unsealWrite_kept, ↓State.windowTake_kept] | refine kept_foldl (fun _ _ => ?_) ?_ | split | rfl)

@[simp] theorem State.tdiState_kept (s : State) (p : Nat) :
    (State.tdiState s p).kept = s.kept := by
  unfold State.tdiState
  repeat' (first | with_reducible rfl | simp only [↓kept_with, ↓kept_ite, ite_self, ↓State.doe_kept] | refine kept_foldl (fun _ _ => ?_) ?_ | split | rfl)

@[simp] theorem State.teardown_kept (s : State) (p : Nat) :
    (State.teardown s p).kept = s.kept := by
  unfold State.teardown
  repeat' (first | with_reducible rfl | simp only [↓kept_with, ↓kept_ite, ite_self, ↓State.abandon_kept, ↓State.closeQueues_kept, ↓State.collsTeardown_kept, ↓State.epTorn_kept, ↓State.odSetN_kept, ↓State.partGo_kept, ↓State.setCore_kept, ↓State.setPart_kept, ↓State.tableEnds_kept, ↓State.tagAdvance_kept] | refine kept_foldl (fun _ _ => ?_) ?_ | split | rfl)

@[simp] theorem State.testAmber_kept (s : State) :
    (State.testAmber s).kept = s.kept := by
  unfold State.testAmber
  repeat' (first | with_reducible rfl | simp only [↓kept_with, ↓kept_ite, ite_self, ↓State.amber_kept] | refine kept_foldl (fun _ _ => ?_) ?_ | split | rfl)

@[simp] theorem State.tick_kept (s : State) :
    (State.tick s).kept = s.kept := by
  unfold State.tick
  repeat' (first | with_reducible rfl | simp only [↓kept_with, ↓kept_ite, ite_self, ↓State.advance_kept, ↓State.linkDisableTick_kept, ↓State.retryHeld_kept, ↓State.settle_kept] | refine kept_foldl (fun _ _ => ?_) ?_ | split | rfl)

@[simp] theorem State.timeChoose_kept (s : State) :
    (State.timeChoose s).kept = s.kept := by
  unfold State.timeChoose
  repeat' (first | with_reducible rfl | simp only [↓kept_with, ↓kept_ite, ite_self, ↓State.timeFree_kept] | refine kept_foldl (fun _ _ => ?_) ?_ | split | rfl)

@[simp] theorem State.tripCheck_kept (s : State) (z : Nat) :
    (State.tripCheck s z).kept = s.kept := by
  unfold State.tripCheck
  repeat' (first | with_reducible rfl | simp only [↓kept_with, ↓kept_ite, ite_self, ↓State.powerOff_kept, ↓State.thm_kept] | refine kept_foldl (fun _ _ => ?_) ?_ | split | rfl)

@[simp] theorem State.unfence_kept (s : State) (q : Fence → Bool) :
    (State.unfence s q).kept = s.kept := by
  unfold State.unfence
  repeat' (first | with_reducible rfl | simp only [↓kept_with, ↓kept_ite, ite_self] | refine kept_foldl (fun _ _ => ?_) ?_ | split | rfl)

@[simp] theorem State.unissued_kept (s : State) (n : Nat) :
    (State.unissued s n).kept = s.kept := by
  unfold State.unissued
  repeat' (first | with_reducible rfl | simp only [↓kept_with, ↓kept_ite, ite_self] | refine kept_foldl (fun _ _ => ?_) ?_ | split | rfl)

@[simp] theorem State.updateAfterLoss_kept (s : State) :
    (State.updateAfterLoss s).kept = s.kept := by
  unfold State.updateAfterLoss
  repeat' (first | with_reducible rfl | simp only [↓kept_with, ↓kept_ite, ite_self, ↓State.formatSwap_kept, ↓State.fwGo_kept, ↓State.fwSet_kept, ↓State.setSlate_kept] | refine kept_foldl (fun _ _ => ?_) ?_ | split | rfl)

@[simp] theorem State.updateCommand_kept (s : State) (v : Nat) :
    (State.updateCommand s v).kept = s.kept := by
  unfold State.updateCommand
  repeat' (first | with_reducible rfl | simp only [↓kept_with, ↓kept_ite, ite_self, ↓State.fwGo_kept, ↓State.fwSet_kept, ↓State.setSlate_kept] | refine kept_foldl (fun _ _ => ?_) ?_ | split | rfl)

@[simp] theorem State.vPush_kept (s : State) (n : Nat) (k : Nat) (w : Word) :
    (State.vPush s n k w).kept = s.kept := by
  unfold State.vPush
  repeat' (first | with_reducible rfl | simp only [↓kept_with, ↓kept_ite, ite_self, ↓State.retire_kept, ↓State.setCore_kept] | refine kept_foldl (fun _ _ => ?_) ?_ | split | rfl)

@[simp] theorem State.voteUp_kept (s : State) (p : Nat) :
    (State.voteUp s p).kept = s.kept := by
  unfold State.voteUp
  repeat' (first | with_reducible rfl | simp only [↓kept_with, ↓kept_ite, ite_self, ↓State.coDecide_kept, ↓State.epAttention_kept, ↓State.epSend_kept, ↓State.setEp_kept] | refine kept_foldl (fun _ _ => ?_) ?_ | split | rfl)

@[simp] theorem State.writeAbi_kept (s : State) (fn : Nat) (v : Word) :
    (State.writeAbi s fn v).kept = s.kept := by
  unfold State.writeAbi
  repeat' (first | with_reducible rfl | simp only [↓kept_with, ↓kept_ite, ite_self, ↓State.ignored_kept, ↓State.setFn_kept] | refine kept_foldl (fun _ _ => ?_) ?_ | split | rfl)

@[simp] theorem State.writeHcCtrl_kept (s : State) (fn : Nat) (p : Nat) (h : Nat) (v : Word) :
    (State.writeHcCtrl s fn p h v).kept = s.kept := by
  unfold State.writeHcCtrl
  repeat' (first | with_reducible rfl | simp only [↓kept_with, ↓kept_ite, ite_self, ↓State.ignored_kept, ↓State.setHc_kept] | refine kept_foldl (fun _ _ => ?_) ?_ | split | rfl)

@[simp] theorem State.writeMsix_kept (s : State) (fn : Nat) (vec : Nat) (w : Nat) (v : Word) :
    (State.writeMsix s fn vec w v).kept = s.kept := by
  unfold State.writeMsix
  repeat' (first | with_reducible rfl | simp only [↓kept_with, ↓kept_ite, ite_self, ↓State.emit_kept, ↓State.setFn_kept] | refine kept_foldl (fun _ _ => ?_) ?_ | split | rfl)

@[simp] theorem State.writeCqh_kept (s : State) (q : Nat) (v : Word) :
    (State.writeCqh s q v).kept = s.kept := by
  unfold State.writeCqh
  repeat' (first | with_reducible rfl | simp only [↓kept_with, ↓kept_ite, ite_self, ↓State.qIgnored_kept, ↓State.setQueue_kept] | refine kept_foldl (fun _ _ => ?_) ?_ | split | rfl)

@[simp] theorem State.writeEn_kept (s : State) (fn : Nat) (q : Nat) (v : Word) :
    (State.writeEn s fn q v).kept = s.kept := by
  unfold State.writeEn
  repeat' (first | with_reducible rfl | simp only [↓kept_with, ↓kept_ite, ite_self, ↓State.qFront_kept, ↓State.qGo_kept, ↓State.qIgnored_kept, ↓State.setQueue_kept, ↓State.updQueue_kept] | refine kept_foldl (fun _ _ => ?_) ?_ | split | rfl)

@[simp] theorem State.writeCtrl_kept (s : State) (fn : Nat) (q : Nat) (v : Word) :
    (State.writeCtrl s fn q v).kept = s.kept := by
  unfold State.writeCtrl
  repeat' (first | with_reducible rfl | simp only [↓kept_with, ↓kept_ite, ite_self, ↓State.qIgnored_kept, ↓State.setQueue_kept, ↓State.writeEn_kept] | refine kept_foldl (fun _ _ => ?_) ?_ | split | rfl)

@[simp] theorem State.writeRing_kept (s : State) (q : Nat) (cq : Bool) (v : Word) :
    (State.writeRing s q cq v).kept = s.kept := by
  unfold State.writeRing
  repeat' (first | with_reducible rfl | simp only [↓kept_with, ↓kept_ite, ite_self, ↓State.qIgnored_kept, ↓State.setQueue_kept] | refine kept_foldl (fun _ _ => ?_) ?_ | split | rfl)

@[simp] theorem State.writeQueuePage_kept (s : State) (fn : Nat) (q : Nat) (o : Nat) (v : Word) :
    (State.writeQueuePage s fn q o v).kept = s.kept := by
  unfold State.writeQueuePage
  repeat' (first | with_reducible rfl | simp only [↓kept_with, ↓kept_ite, ite_self, ↓State.doorbell_kept, ↓State.readOnly_kept, ↓State.writeCqh_kept, ↓State.writeCtrl_kept, ↓State.writeRing_kept] | refine kept_foldl (fun _ _ => ?_) ?_ | split | rfl)

@[simp] theorem State.writeThresh_kept (s : State) (p : Nat) (h : Nat) (v : Word) :
    (State.writeThresh s p h v).kept = s.kept := by
  unfold State.writeThresh
  repeat' (first | with_reducible rfl | simp only [↓kept_with, ↓kept_ite, ite_self, ↓State.hcTest_kept, ↓State.setHc_kept] | refine kept_foldl (fun _ _ => ?_) ?_ | split | rfl)

@[simp] theorem State.writeWin_kept (s : State) (fn : Nat) (w : Nat) (v : Word) :
    (State.writeWin s fn w v).kept = s.kept := by
  unfold State.writeWin
  repeat' (first | with_reducible rfl | simp only [↓kept_with, ↓kept_ite, ite_self, ↓State.ignored_kept, ↓State.setFn_kept] | refine kept_foldl (fun _ _ => ?_) ?_ | split | rfl)

@[simp] theorem State.writeBar0_kept (s : State) (fn : Nat) (off : Nat) (v : Word) :
    (State.writeBar0 s fn off v).kept = s.kept := by
  unfold State.writeBar0
  repeat' (first | with_reducible rfl | simp only [↓kept_with, ↓kept_ite, ite_self, ↓State.clearEvents_kept, ↓State.hcSet_kept, ↓State.mgmtSet_kept, ↓State.readOnly_kept, ↓State.reqTail_kept, ↓State.rspHead_kept, ↓State.writeAbi_kept, ↓State.writeHcCtrl_kept, ↓State.writeMsix_kept, ↓State.writeQueuePage_kept, ↓State.writeThresh_kept, ↓State.writeWin_kept] | refine kept_foldl (fun _ _ => ?_) ?_ | split | rfl)

end Sys2Proof.Machine
end

