-- ==== Sys2Proof/Laws/Tab.lean ====
section
/-! SUPPORT. The laws of a sparse table: a read after a write, and the canonical form that every write keeps. -/
namespace Sys2Proof.Machine

variable {α : Type}

@[simp] theorem tget_nil (d : α) (k : Nat) : tget d [] k = d := rfl
@[simp] theorem tfind_nil (k : Nat) : tfind ([] : Tab α) k = none := rfl

/-- A deleted entry reads as the default, and every other entry as before. -/
theorem tget_tdel (d : α) (t : Tab α) (k j : Nat) : tget d (tdel t k) j = if j = k then d else tget d t j := by
  induction t with
  | nil => simp [tdel]
  | cons e t ih => simp only [tdel]; split <;> grind [tget]

/-- A listed entry reads as it was written, and every other entry as before. -/
theorem tget_tput (d : α) (t : Tab α) (k j : Nat) (v : α) :
    tget d (tput t k v) j = if j = k then v else tget d t j := by
  induction t with
  | nil => simp [tput, tget]
  | cons e t ih =>
    simp only [tput]
    split
    · grind [tget]
    · split <;> grind [tget]

/-- A read after a write of a table: the written entry holds the value, every other entry what it held. -/
theorem tget_tset [DecidableEq α] (d : α) (t : Tab α) (k j : Nat) (v : α) :
    tget d (tset d t k v) j = if j = k then v else tget d t j := by
  unfold tset
  split
  · rename_i h; rw [tget_tdel, h]
  · rw [tget_tput]

@[simp] theorem tget_tset_same [DecidableEq α] (d : α) (t : Tab α) (k : Nat) (v : α) :
    tget d (tset d t k v) k = v := by simp [tget_tset]

theorem tget_tset_other [DecidableEq α] (d : α) (t : Tab α) {k j : Nat} (v : α) (h : j ≠ k) :
    tget d (tset d t k v) j = tget d t j := by simp [tget_tset, h]

theorem tfind_tput (t : Tab α) (k j : Nat) (v : α) :
    tfind (tput t k v) j = if j = k then some v else tfind t j := by
  induction t with
  | nil => simp [tput, tfind]
  | cons e t ih =>
    simp only [tput]
    split
    · grind [tfind]
    · split <;> grind [tfind]

theorem tfind_tdel (t : Tab α) (k j : Nat) : tfind (tdel t k) j = if j = k then none else tfind t j := by
  induction t with
  | nil => simp [tdel]
  | cons e t ih => simp only [tdel]; split <;> grind [tfind]

/-! ### The rising order of a table's numbers -/

theorem tsorted_iff (t : Tab α) : tsorted t = true ↔ t.Pairwise (fun x y => x.1 < y.1) := by
  induction t with
  | nil => simp [tsorted]
  | cons e t ih =>
    cases t with
    | nil => simp [tsorted]
    | cons f t =>
      simp only [tsorted, Bool.and_eq_true, decide_eq_true_eq, ih]
      constructor
      · rintro ⟨h, hp⟩
        refine List.pairwise_cons.2 ⟨fun x hx => ?_, hp⟩
        rcases List.mem_cons.1 hx with rfl | hx
        · exact h
        · exact Nat.lt_trans h ((List.pairwise_cons.1 hp).1 x hx)
      · intro hp
        have := List.pairwise_cons.1 hp
        exact ⟨this.1 f (by simp), this.2⟩

theorem mem_tdel {t : Tab α} {k : Nat} {e : Nat × α} (h : e ∈ tdel t k) : e ∈ t := by
  induction t with
  | nil => simp [tdel] at h
  | cons f t ih => simp only [tdel] at h; split at h <;> simp at h ⊢ <;> grind

theorem mem_tput {t : Tab α} {k : Nat} {v : α} {e : Nat × α} (h : e ∈ tput t k v) : e = (k, v) ∨ e ∈ t := by
  induction t with
  | nil => simp [tput] at h; exact .inl h
  | cons f t ih =>
    simp only [tput] at h
    split at h
    · simp at h ⊢; grind
    · split at h <;> simp at h ⊢ <;> grind

theorem tsorted_tdel {t : Tab α} (k : Nat) (h : tsorted t = true) : tsorted (tdel t k) = true := by
  rw [tsorted_iff] at *
  induction t with
  | nil => simp [tdel]
  | cons f t ih =>
    have hp := List.pairwise_cons.1 h
    simp only [tdel]
    split
    · exact ih hp.2
    · exact List.pairwise_cons.2 ⟨fun x hx => hp.1 x (mem_tdel hx), ih hp.2⟩

theorem tsorted_tput {t : Tab α} (k : Nat) (v : α) (h : tsorted t = true) : tsorted (tput t k v) = true := by
  rw [tsorted_iff] at *
  induction t with
  | nil => simp [tput]
  | cons f t ih =>
    have hp := List.pairwise_cons.1 h
    simp only [tput]
    split
    · rename_i hk
      exact List.pairwise_cons.2 ⟨fun x hx => by simpa [hk] using hp.1 x hx, hp.2⟩
    · split
      · rename_i hk hlt
        exact List.pairwise_cons.2 ⟨fun x hx => by
          rcases List.mem_cons.1 hx with rfl | hx
          · exact hlt
          · exact Nat.lt_trans hlt (hp.1 x hx), h⟩
      · rename_i hk hlt
        refine List.pairwise_cons.2 ⟨fun x hx => ?_, ih hp.2⟩
        rcases mem_tput hx with rfl | hx
        · show f.1 < k; omega
        · exact hp.1 x hx

/-- A write keeps a table's canonical form. -/
theorem tcanon_tset [DecidableEq α] (d : α) {t : Tab α} (k : Nat) (v : α) (h : tcanon d t = true) :
    tcanon d (tset d t k v) = true := by
  simp only [tcanon, Bool.and_eq_true, List.all_eq_true, decide_eq_true_eq] at *
  unfold tset
  split
  · exact ⟨tsorted_tdel k h.1, fun e he => h.2 e (mem_tdel he)⟩
  · rename_i hv
    refine ⟨tsorted_tput k v h.1, fun e he => ?_⟩
    rcases mem_tput he with rfl | he
    · exact hv
    · exact h.2 e he

/-- Dropping entries keeps a table's canonical form. -/
theorem tcanon_filter [DecidableEq α] (d : α) {t : Tab α} (p : Nat × α → Bool) (h : tcanon d t = true) :
    tcanon d (t.filter p) = true := by
  simp only [tcanon, Bool.and_eq_true, List.all_eq_true, decide_eq_true_eq] at *
  refine ⟨(tsorted_iff _).2 (((tsorted_iff t).1 h.1).filter p), fun e he => h.2 e (List.mem_filter.1 he).1⟩

/-- In a table whose numbers rise, an unlisted number reads as the default after its entry is dropped. -/
theorem tget_filter (d : α) (t : Tab α) (p : Nat → Bool) (j : Nat) :
    tget d (t.filter (fun e => p e.1)) j = if p j = true then tget d t j else d := by
  induction t with
  | nil => simp
  | cons e t ih =>
    simp only [List.filter]
    cases hp : p e.1
    · simp only [ih, tget]
      by_cases hj : j = e.1
      · subst hj; simp [hp]
      · simp [hj]
    · simp only [tget, ih]
      by_cases hj : j = e.1
      · subst hj; simp [hp]
      · simp [hj]

end Sys2Proof.Machine
end

