-- ==== Sys2Proof/Laws/State.lean ====
section
/-! SUPPORT. One law for each update of the state and each field that it leaves alone, and what the updated field reads after it. -/
namespace Sys2Proof.Machine

variable (s : State)

/-! ### What is read back -/

/-- A read under one default after a write of another number under another default. -/
theorem tget_tset_ne {α : Type} [DecidableEq α] (d e : α) (t : Tab α) {k j : Nat} (v : α) (h : j ≠ k) :
    tget d (tset e t k v) j = tget d t j := by
  unfold tset
  split
  · rw [tget_tdel, if_neg h]
  · rw [tget_tput, if_neg h]

theorem State.core_setCore (n m : Nat) (x : Core) : (s.setCore n x).core m = if m = n then x else s.core m :=
  tget_tset _ _ _ _ _
@[simp] theorem State.core_setCore_same (n : Nat) (x : Core) : (s.setCore n x).core n = x := tget_tset_same _ _ _ _

theorem State.fn_setFn (n m : Nat) (x : Fn) : (s.setFn n x).fn m = if m = n then x else s.fn m :=
  tget_tset _ _ _ _ _
@[simp] theorem State.fn_setFn_same (n : Nat) (x : Fn) : (s.setFn n x).fn n = x := tget_tset_same _ _ _ _

theorem State.part_setPart (n m : Nat) (x : Part) : (s.setPart n x).part m = if m = n then x else s.part m :=
  tget_tset _ _ _ _ _
@[simp] theorem State.part_setPart_same (n : Nat) (x : Part) : (s.setPart n x).part n = x := tget_tset_same _ _ _ _

theorem State.link_setLink (n m : Nat) (x : Link) : (s.setLink n x).link m = if m = n then x else s.link m :=
  tget_tset _ _ _ _ _
@[simp] theorem State.link_setLink_same (n : Nat) (x : Link) : (s.setLink n x).link n = x := tget_tset_same _ _ _ _

theorem State.queue_setQueue (n m : Nat) (x : Queue) : (s.setQueue n x).queue m = if m = n then x else s.queue m :=
  tget_tset _ _ _ _ _
@[simp] theorem State.queue_setQueue_same (n : Nat) (x : Queue) : (s.setQueue n x).queue n = x := tget_tset_same _ _ _ _

theorem State.ep_setEp (n m : Nat) (x : Ep) : (s.setEp n x).ep m = if m = n then x else s.ep m :=
  tget_tset _ _ _ _ _
@[simp] theorem State.ep_setEp_same (n : Nat) (x : Ep) : (s.setEp n x).ep n = x := tget_tset_same _ _ _ _

theorem State.agent_setAgent (n m : Nat) (x : Agent) : (s.setAgent n x).agent m = if m = n then x else s.agent m :=
  tget_tset _ _ _ _ _
@[simp] theorem State.agent_setAgent_same (n : Nat) (x : Agent) : (s.setAgent n x).agent n = x := tget_tset_same _ _ _ _

@[simp] theorem State.hc_setHc_same (p h : Nat) (x : HCnt) : (s.setHc p h x).hc p h = x := tget_tset_same _ _ _ _
@[simp] theorem State.odGet_odSet_same (i k : Nat) (v : OdVal) : (s.odSet i k v).odGet i k = v := tget_tset_same _ _ _ _
theorem State.odGet_odSet_other {i k j m : Nat} (v : OdVal) (h : odKey j m ≠ odKey i k) :
    (s.odSet i k v).odGet j m = s.odGet j m := tget_tset_ne _ _ _ _ h
@[simp] theorem State.odNum_odSetN_same (i k n : Nat) : (s.odSetN i k n).odNum i k = n := by
  simp [State.odNum, State.odSetN, OdVal.toNat]
@[simp] theorem State.odPending_odAccept_same (i k : Nat) (v : OdVal) : (s.odAccept i k v).odPending i k = some v := by
  simp [State.odPending, State.odAccept, tfind_tput]
@[simp] theorem State.out_emit (o : Out) : (s.emit o).out = s.out ++ [o] := rfl
@[simp] theorem State.life_lifeSet (f : Life → Life) : (s.lifeSet f).life = f s.life := rfl
@[simp] theorem State.fw_fwSet (f : Fw → Fw) : (s.fwSet f).fw = f s.fw := rfl
@[simp] theorem State.mgmt_mgmtSet (f : Mgmt → Mgmt) : (s.mgmtSet f).mgmt = f s.mgmt := rfl
@[simp] theorem State.power_pwr (f : Power → Power) : (s.pwr f).power = f s.power := rfl
@[simp] theorem State.thermal_thm (f : Thermal → Thermal) : (s.thm f).thermal = f s.thermal := rfl

/-- A slot of a core, and the parts of a core that a slot's update leaves alone. -/
theorem Core.slot_withSlot (c : Core) (k j : Nat) (x : Ctx) : (c.withSlot k x).slot j = if j = k then x else c.slot j :=
  tget_tset _ _ _ _ _
@[simp] theorem Core.slot_withSlot_same (c : Core) (k : Nat) (x : Ctx) : (c.withSlot k x).slot k = x := tget_tset_same _ _ _ _
@[simp] theorem Core.slot_addAct (c : Core) (a n k : Nat) : (c.addAct a n).slot k = c.slot k := rfl

/-! ### What is left alone -/

@[simp] theorem State.setCore_pending (n : Nat) (c : Core) : (s.setCore n c).pending = s.pending := rfl
@[simp] theorem State.setCore_mem (n : Nat) (c : Core) : (s.setCore n c).mem = s.mem := rfl
@[simp] theorem State.setCore_hostMem (n : Nat) (c : Core) : (s.setCore n c).hostMem = s.hostMem := rfl
@[simp] theorem State.setCore_od (n : Nat) (c : Core) : (s.setCore n c).od = s.od := rfl
@[simp] theorem State.setCore_clk (n : Nat) (c : Core) : (s.setCore n c).clk = s.clk := rfl
@[simp] theorem State.setCore_links (n : Nat) (c : Core) : (s.setCore n c).links = s.links := rfl
@[simp] theorem State.setCore_fabric (n : Nat) (c : Core) : (s.setCore n c).fabric = s.fabric := rfl
@[simp] theorem State.setCore_ftime (n : Nat) (c : Core) : (s.setCore n c).ftime = s.ftime := rfl
@[simp] theorem State.setCore_memory (n : Nat) (c : Core) : (s.setCore n c).memory = s.memory := rfl
@[simp] theorem State.setCore_sepia (n : Nat) (c : Core) : (s.setCore n c).sepia = s.sepia := rfl
@[simp] theorem State.setCore_eps (n : Nat) (c : Core) : (s.setCore n c).eps = s.eps := rfl
@[simp] theorem State.setCore_agents (n : Nat) (c : Core) : (s.setCore n c).agents = s.agents := rfl
@[simp] theorem State.setCore_queues (n : Nat) (c : Core) : (s.setCore n c).queues = s.queues := rfl
@[simp] theorem State.setCore_colls (n : Nat) (c : Core) : (s.setCore n c).colls = s.colls := rfl
@[simp] theorem State.setCore_hcnt (n : Nat) (c : Core) : (s.setCore n c).hcnt = s.hcnt := rfl
@[simp] theorem State.setCore_disp (n : Nat) (c : Core) : (s.setCore n c).disp = s.disp := rfl
@[simp] theorem State.setCore_parts (n : Nat) (c : Core) : (s.setCore n c).parts = s.parts := rfl
@[simp] theorem State.setCore_fns (n : Nat) (c : Core) : (s.setCore n c).fns = s.fns := rfl
@[simp] theorem State.setCore_mgmt (n : Nat) (c : Core) : (s.setCore n c).mgmt = s.mgmt := rfl
@[simp] theorem State.setCore_trace (n : Nat) (c : Core) : (s.setCore n c).trace = s.trace := rfl
@[simp] theorem State.setCore_faults (n : Nat) (c : Core) : (s.setCore n c).faults = s.faults := rfl
@[simp] theorem State.setCore_sec (n : Nat) (c : Core) : (s.setCore n c).sec = s.sec := rfl
@[simp] theorem State.setCore_power (n : Nat) (c : Core) : (s.setCore n c).power = s.power := rfl
@[simp] theorem State.setCore_thermal (n : Nat) (c : Core) : (s.setCore n c).thermal = s.thermal := rfl
@[simp] theorem State.setCore_taps (n : Nat) (c : Core) : (s.setCore n c).taps = s.taps := rfl
@[simp] theorem State.setCore_fw (n : Nat) (c : Core) : (s.setCore n c).fw = s.fw := rfl
@[simp] theorem State.setCore_life (n : Nat) (c : Core) : (s.setCore n c).life = s.life := rfl
@[simp] theorem State.setCore_stored (n : Nat) (c : Core) : (s.setCore n c).stored = s.stored := rfl
@[simp] theorem State.setCore_free (n : Nat) (c : Core) : (s.setCore n c).free = s.free := rfl
@[simp] theorem State.setCore_out (n : Nat) (c : Core) : (s.setCore n c).out = s.out := rfl

@[simp] theorem State.setFn_pending (k : Nat) (f : Fn) : (s.setFn k f).pending = s.pending := rfl
@[simp] theorem State.setFn_mem (k : Nat) (f : Fn) : (s.setFn k f).mem = s.mem := rfl
@[simp] theorem State.setFn_hostMem (k : Nat) (f : Fn) : (s.setFn k f).hostMem = s.hostMem := rfl
@[simp] theorem State.setFn_od (k : Nat) (f : Fn) : (s.setFn k f).od = s.od := rfl
@[simp] theorem State.setFn_clk (k : Nat) (f : Fn) : (s.setFn k f).clk = s.clk := rfl
@[simp] theorem State.setFn_links (k : Nat) (f : Fn) : (s.setFn k f).links = s.links := rfl
@[simp] theorem State.setFn_fabric (k : Nat) (f : Fn) : (s.setFn k f).fabric = s.fabric := rfl
@[simp] theorem State.setFn_ftime (k : Nat) (f : Fn) : (s.setFn k f).ftime = s.ftime := rfl
@[simp] theorem State.setFn_memory (k : Nat) (f : Fn) : (s.setFn k f).memory = s.memory := rfl
@[simp] theorem State.setFn_sepia (k : Nat) (f : Fn) : (s.setFn k f).sepia = s.sepia := rfl
@[simp] theorem State.setFn_eps (k : Nat) (f : Fn) : (s.setFn k f).eps = s.eps := rfl
@[simp] theorem State.setFn_agents (k : Nat) (f : Fn) : (s.setFn k f).agents = s.agents := rfl
@[simp] theorem State.setFn_queues (k : Nat) (f : Fn) : (s.setFn k f).queues = s.queues := rfl
@[simp] theorem State.setFn_colls (k : Nat) (f : Fn) : (s.setFn k f).colls = s.colls := rfl
@[simp] theorem State.setFn_hcnt (k : Nat) (f : Fn) : (s.setFn k f).hcnt = s.hcnt := rfl
@[simp] theorem State.setFn_disp (k : Nat) (f : Fn) : (s.setFn k f).disp = s.disp := rfl
@[simp] theorem State.setFn_cores (k : Nat) (f : Fn) : (s.setFn k f).cores = s.cores := rfl
@[simp] theorem State.setFn_parts (k : Nat) (f : Fn) : (s.setFn k f).parts = s.parts := rfl
@[simp] theorem State.setFn_mgmt (k : Nat) (f : Fn) : (s.setFn k f).mgmt = s.mgmt := rfl
@[simp] theorem State.setFn_trace (k : Nat) (f : Fn) : (s.setFn k f).trace = s.trace := rfl
@[simp] theorem State.setFn_faults (k : Nat) (f : Fn) : (s.setFn k f).faults = s.faults := rfl
@[simp] theorem State.setFn_sec (k : Nat) (f : Fn) : (s.setFn k f).sec = s.sec := rfl
@[simp] theorem State.setFn_power (k : Nat) (f : Fn) : (s.setFn k f).power = s.power := rfl
@[simp] theorem State.setFn_thermal (k : Nat) (f : Fn) : (s.setFn k f).thermal = s.thermal := rfl
@[simp] theorem State.setFn_taps (k : Nat) (f : Fn) : (s.setFn k f).taps = s.taps := rfl
@[simp] theorem State.setFn_fw (k : Nat) (f : Fn) : (s.setFn k f).fw = s.fw := rfl
@[simp] theorem State.setFn_life (k : Nat) (f : Fn) : (s.setFn k f).life = s.life := rfl
@[simp] theorem State.setFn_stored (k : Nat) (f : Fn) : (s.setFn k f).stored = s.stored := rfl
@[simp] theorem State.setFn_free (k : Nat) (f : Fn) : (s.setFn k f).free = s.free := rfl
@[simp] theorem State.setFn_out (k : Nat) (f : Fn) : (s.setFn k f).out = s.out := rfl

@[simp] theorem State.setPart_pending (p : Nat) (x : Part) : (s.setPart p x).pending = s.pending := rfl
@[simp] theorem State.setPart_mem (p : Nat) (x : Part) : (s.setPart p x).mem = s.mem := rfl
@[simp] theorem State.setPart_hostMem (p : Nat) (x : Part) : (s.setPart p x).hostMem = s.hostMem := rfl
@[simp] theorem State.setPart_od (p : Nat) (x : Part) : (s.setPart p x).od = s.od := rfl
@[simp] theorem State.setPart_clk (p : Nat) (x : Part) : (s.setPart p x).clk = s.clk := rfl
@[simp] theorem State.setPart_links (p : Nat) (x : Part) : (s.setPart p x).links = s.links := rfl
@[simp] theorem State.setPart_fabric (p : Nat) (x : Part) : (s.setPart p x).fabric = s.fabric := rfl
@[simp] theorem State.setPart_ftime (p : Nat) (x : Part) : (s.setPart p x).ftime = s.ftime := rfl
@[simp] theorem State.setPart_memory (p : Nat) (x : Part) : (s.setPart p x).memory = s.memory := rfl
@[simp] theorem State.setPart_sepia (p : Nat) (x : Part) : (s.setPart p x).sepia = s.sepia := rfl
@[simp] theorem State.setPart_eps (p : Nat) (x : Part) : (s.setPart p x).eps = s.eps := rfl
@[simp] theorem State.setPart_agents (p : Nat) (x : Part) : (s.setPart p x).agents = s.agents := rfl
@[simp] theorem State.setPart_queues (p : Nat) (x : Part) : (s.setPart p x).queues = s.queues := rfl
@[simp] theorem State.setPart_colls (p : Nat) (x : Part) : (s.setPart p x).colls = s.colls := rfl
@[simp] theorem State.setPart_hcnt (p : Nat) (x : Part) : (s.setPart p x).hcnt = s.hcnt := rfl
@[simp] theorem State.setPart_disp (p : Nat) (x : Part) : (s.setPart p x).disp = s.disp := rfl
@[simp] theorem State.setPart_cores (p : Nat) (x : Part) : (s.setPart p x).cores = s.cores := rfl
@[simp] theorem State.setPart_fns (p : Nat) (x : Part) : (s.setPart p x).fns = s.fns := rfl
@[simp] theorem State.setPart_mgmt (p : Nat) (x : Part) : (s.setPart p x).mgmt = s.mgmt := rfl
@[simp] theorem State.setPart_trace (p : Nat) (x : Part) : (s.setPart p x).trace = s.trace := rfl
@[simp] theorem State.setPart_faults (p : Nat) (x : Part) : (s.setPart p x).faults = s.faults := rfl
@[simp] theorem State.setPart_sec (p : Nat) (x : Part) : (s.setPart p x).sec = s.sec := rfl
@[simp] theorem State.setPart_power (p : Nat) (x : Part) : (s.setPart p x).power = s.power := rfl
@[simp] theorem State.setPart_thermal (p : Nat) (x : Part) : (s.setPart p x).thermal = s.thermal := rfl
@[simp] theorem State.setPart_taps (p : Nat) (x : Part) : (s.setPart p x).taps = s.taps := rfl
@[simp] theorem State.setPart_fw (p : Nat) (x : Part) : (s.setPart p x).fw = s.fw := rfl
@[simp] theorem State.setPart_life (p : Nat) (x : Part) : (s.setPart p x).life = s.life := rfl
@[simp] theorem State.setPart_stored (p : Nat) (x : Part) : (s.setPart p x).stored = s.stored := rfl
@[simp] theorem State.setPart_free (p : Nat) (x : Part) : (s.setPart p x).free = s.free := rfl
@[simp] theorem State.setPart_out (p : Nat) (x : Part) : (s.setPart p x).out = s.out := rfl

@[simp] theorem State.setLink_pending (n : Nat) (l : Link) : (s.setLink n l).pending = s.pending := rfl
@[simp] theorem State.setLink_mem (n : Nat) (l : Link) : (s.setLink n l).mem = s.mem := rfl
@[simp] theorem State.setLink_hostMem (n : Nat) (l : Link) : (s.setLink n l).hostMem = s.hostMem := rfl
@[simp] theorem State.setLink_od (n : Nat) (l : Link) : (s.setLink n l).od = s.od := rfl
@[simp] theorem State.setLink_clk (n : Nat) (l : Link) : (s.setLink n l).clk = s.clk := rfl
@[simp] theorem State.setLink_fabric (n : Nat) (l : Link) : (s.setLink n l).fabric = s.fabric := rfl
@[simp] theorem State.setLink_ftime (n : Nat) (l : Link) : (s.setLink n l).ftime = s.ftime := rfl
@[simp] theorem State.setLink_memory (n : Nat) (l : Link) : (s.setLink n l).memory = s.memory := rfl
@[simp] theorem State.setLink_sepia (n : Nat) (l : Link) : (s.setLink n l).sepia = s.sepia := rfl
@[simp] theorem State.setLink_eps (n : Nat) (l : Link) : (s.setLink n l).eps = s.eps := rfl
@[simp] theorem State.setLink_agents (n : Nat) (l : Link) : (s.setLink n l).agents = s.agents := rfl
@[simp] theorem State.setLink_queues (n : Nat) (l : Link) : (s.setLink n l).queues = s.queues := rfl
@[simp] theorem State.setLink_colls (n : Nat) (l : Link) : (s.setLink n l).colls = s.colls := rfl
@[simp] theorem State.setLink_hcnt (n : Nat) (l : Link) : (s.setLink n l).hcnt = s.hcnt := rfl
@[simp] theorem State.setLink_disp (n : Nat) (l : Link) : (s.setLink n l).disp = s.disp := rfl
@[simp] theorem State.setLink_cores (n : Nat) (l : Link) : (s.setLink n l).cores = s.cores := rfl
@[simp] theorem State.setLink_parts (n : Nat) (l : Link) : (s.setLink n l).parts = s.parts := rfl
@[simp] theorem State.setLink_fns (n : Nat) (l : Link) : (s.setLink n l).fns = s.fns := rfl
@[simp] theorem State.setLink_mgmt (n : Nat) (l : Link) : (s.setLink n l).mgmt = s.mgmt := rfl
@[simp] theorem State.setLink_trace (n : Nat) (l : Link) : (s.setLink n l).trace = s.trace := rfl
@[simp] theorem State.setLink_faults (n : Nat) (l : Link) : (s.setLink n l).faults = s.faults := rfl
@[simp] theorem State.setLink_sec (n : Nat) (l : Link) : (s.setLink n l).sec = s.sec := rfl
@[simp] theorem State.setLink_power (n : Nat) (l : Link) : (s.setLink n l).power = s.power := rfl
@[simp] theorem State.setLink_thermal (n : Nat) (l : Link) : (s.setLink n l).thermal = s.thermal := rfl
@[simp] theorem State.setLink_taps (n : Nat) (l : Link) : (s.setLink n l).taps = s.taps := rfl
@[simp] theorem State.setLink_fw (n : Nat) (l : Link) : (s.setLink n l).fw = s.fw := rfl
@[simp] theorem State.setLink_life (n : Nat) (l : Link) : (s.setLink n l).life = s.life := rfl
@[simp] theorem State.setLink_stored (n : Nat) (l : Link) : (s.setLink n l).stored = s.stored := rfl
@[simp] theorem State.setLink_free (n : Nat) (l : Link) : (s.setLink n l).free = s.free := rfl
@[simp] theorem State.setLink_out (n : Nat) (l : Link) : (s.setLink n l).out = s.out := rfl

@[simp] theorem State.setQueue_pending (q : Nat) (x : Queue) : (s.setQueue q x).pending = s.pending := rfl
@[simp] theorem State.setQueue_mem (q : Nat) (x : Queue) : (s.setQueue q x).mem = s.mem := rfl
@[simp] theorem State.setQueue_hostMem (q : Nat) (x : Queue) : (s.setQueue q x).hostMem = s.hostMem := rfl
@[simp] theorem State.setQueue_od (q : Nat) (x : Queue) : (s.setQueue q x).od = s.od := rfl
@[simp] theorem State.setQueue_clk (q : Nat) (x : Queue) : (s.setQueue q x).clk = s.clk := rfl
@[simp] theorem State.setQueue_links (q : Nat) (x : Queue) : (s.setQueue q x).links = s.links := rfl
@[simp] theorem State.setQueue_fabric (q : Nat) (x : Queue) : (s.setQueue q x).fabric = s.fabric := rfl
@[simp] theorem State.setQueue_ftime (q : Nat) (x : Queue) : (s.setQueue q x).ftime = s.ftime := rfl
@[simp] theorem State.setQueue_memory (q : Nat) (x : Queue) : (s.setQueue q x).memory = s.memory := rfl
@[simp] theorem State.setQueue_sepia (q : Nat) (x : Queue) : (s.setQueue q x).sepia = s.sepia := rfl
@[simp] theorem State.setQueue_eps (q : Nat) (x : Queue) : (s.setQueue q x).eps = s.eps := rfl
@[simp] theorem State.setQueue_agents (q : Nat) (x : Queue) : (s.setQueue q x).agents = s.agents := rfl
@[simp] theorem State.setQueue_colls (q : Nat) (x : Queue) : (s.setQueue q x).colls = s.colls := rfl
@[simp] theorem State.setQueue_hcnt (q : Nat) (x : Queue) : (s.setQueue q x).hcnt = s.hcnt := rfl
@[simp] theorem State.setQueue_disp (q : Nat) (x : Queue) : (s.setQueue q x).disp = s.disp := rfl
@[simp] theorem State.setQueue_cores (q : Nat) (x : Queue) : (s.setQueue q x).cores = s.cores := rfl
@[simp] theorem State.setQueue_parts (q : Nat) (x : Queue) : (s.setQueue q x).parts = s.parts := rfl
@[simp] theorem State.setQueue_fns (q : Nat) (x : Queue) : (s.setQueue q x).fns = s.fns := rfl
@[simp] theorem State.setQueue_mgmt (q : Nat) (x : Queue) : (s.setQueue q x).mgmt = s.mgmt := rfl
@[simp] theorem State.setQueue_trace (q : Nat) (x : Queue) : (s.setQueue q x).trace = s.trace := rfl
@[simp] theorem State.setQueue_faults (q : Nat) (x : Queue) : (s.setQueue q x).faults = s.faults := rfl
@[simp] theorem State.setQueue_sec (q : Nat) (x : Queue) : (s.setQueue q x).sec = s.sec := rfl
@[simp] theorem State.setQueue_power (q : Nat) (x : Queue) : (s.setQueue q x).power = s.power := rfl
@[simp] theorem State.setQueue_thermal (q : Nat) (x : Queue) : (s.setQueue q x).thermal = s.thermal := rfl
@[simp] theorem State.setQueue_taps (q : Nat) (x : Queue) : (s.setQueue q x).taps = s.taps := rfl
@[simp] theorem State.setQueue_fw (q : Nat) (x : Queue) : (s.setQueue q x).fw = s.fw := rfl
@[simp] theorem State.setQueue_life (q : Nat) (x : Queue) : (s.setQueue q x).life = s.life := rfl
@[simp] theorem State.setQueue_stored (q : Nat) (x : Queue) : (s.setQueue q x).stored = s.stored := rfl
@[simp] theorem State.setQueue_free (q : Nat) (x : Queue) : (s.setQueue q x).free = s.free := rfl
@[simp] theorem State.setQueue_out (q : Nat) (x : Queue) : (s.setQueue q x).out = s.out := rfl

@[simp] theorem State.setHc_pending (p h : Nat) (x : HCnt) : (s.setHc p h x).pending = s.pending := rfl
@[simp] theorem State.setHc_mem (p h : Nat) (x : HCnt) : (s.setHc p h x).mem = s.mem := rfl
@[simp] theorem State.setHc_hostMem (p h : Nat) (x : HCnt) : (s.setHc p h x).hostMem = s.hostMem := rfl
@[simp] theorem State.setHc_od (p h : Nat) (x : HCnt) : (s.setHc p h x).od = s.od := rfl
@[simp] theorem State.setHc_clk (p h : Nat) (x : HCnt) : (s.setHc p h x).clk = s.clk := rfl
@[simp] theorem State.setHc_links (p h : Nat) (x : HCnt) : (s.setHc p h x).links = s.links := rfl
@[simp] theorem State.setHc_fabric (p h : Nat) (x : HCnt) : (s.setHc p h x).fabric = s.fabric := rfl
@[simp] theorem State.setHc_ftime (p h : Nat) (x : HCnt) : (s.setHc p h x).ftime = s.ftime := rfl
@[simp] theorem State.setHc_memory (p h : Nat) (x : HCnt) : (s.setHc p h x).memory = s.memory := rfl
@[simp] theorem State.setHc_sepia (p h : Nat) (x : HCnt) : (s.setHc p h x).sepia = s.sepia := rfl
@[simp] theorem State.setHc_eps (p h : Nat) (x : HCnt) : (s.setHc p h x).eps = s.eps := rfl
@[simp] theorem State.setHc_agents (p h : Nat) (x : HCnt) : (s.setHc p h x).agents = s.agents := rfl
@[simp] theorem State.setHc_queues (p h : Nat) (x : HCnt) : (s.setHc p h x).queues = s.queues := rfl
@[simp] theorem State.setHc_colls (p h : Nat) (x : HCnt) : (s.setHc p h x).colls = s.colls := rfl
@[simp] theorem State.setHc_disp (p h : Nat) (x : HCnt) : (s.setHc p h x).disp = s.disp := rfl
@[simp] theorem State.setHc_cores (p h : Nat) (x : HCnt) : (s.setHc p h x).cores = s.cores := rfl
@[simp] theorem State.setHc_parts (p h : Nat) (x : HCnt) : (s.setHc p h x).parts = s.parts := rfl
@[simp] theorem State.setHc_fns (p h : Nat) (x : HCnt) : (s.setHc p h x).fns = s.fns := rfl
@[simp] theorem State.setHc_mgmt (p h : Nat) (x : HCnt) : (s.setHc p h x).mgmt = s.mgmt := rfl
@[simp] theorem State.setHc_trace (p h : Nat) (x : HCnt) : (s.setHc p h x).trace = s.trace := rfl
@[simp] theorem State.setHc_faults (p h : Nat) (x : HCnt) : (s.setHc p h x).faults = s.faults := rfl
@[simp] theorem State.setHc_sec (p h : Nat) (x : HCnt) : (s.setHc p h x).sec = s.sec := rfl
@[simp] theorem State.setHc_power (p h : Nat) (x : HCnt) : (s.setHc p h x).power = s.power := rfl
@[simp] theorem State.setHc_thermal (p h : Nat) (x : HCnt) : (s.setHc p h x).thermal = s.thermal := rfl
@[simp] theorem State.setHc_taps (p h : Nat) (x : HCnt) : (s.setHc p h x).taps = s.taps := rfl
@[simp] theorem State.setHc_fw (p h : Nat) (x : HCnt) : (s.setHc p h x).fw = s.fw := rfl
@[simp] theorem State.setHc_life (p h : Nat) (x : HCnt) : (s.setHc p h x).life = s.life := rfl
@[simp] theorem State.setHc_stored (p h : Nat) (x : HCnt) : (s.setHc p h x).stored = s.stored := rfl
@[simp] theorem State.setHc_free (p h : Nat) (x : HCnt) : (s.setHc p h x).free = s.free := rfl
@[simp] theorem State.setHc_out (p h : Nat) (x : HCnt) : (s.setHc p h x).out = s.out := rfl

@[simp] theorem State.setEp_pending (p : Nat) (e : Ep) : (s.setEp p e).pending = s.pending := rfl
@[simp] theorem State.setEp_mem (p : Nat) (e : Ep) : (s.setEp p e).mem = s.mem := rfl
@[simp] theorem State.setEp_hostMem (p : Nat) (e : Ep) : (s.setEp p e).hostMem = s.hostMem := rfl
@[simp] theorem State.setEp_od (p : Nat) (e : Ep) : (s.setEp p e).od = s.od := rfl
@[simp] theorem State.setEp_clk (p : Nat) (e : Ep) : (s.setEp p e).clk = s.clk := rfl
@[simp] theorem State.setEp_links (p : Nat) (e : Ep) : (s.setEp p e).links = s.links := rfl
@[simp] theorem State.setEp_fabric (p : Nat) (e : Ep) : (s.setEp p e).fabric = s.fabric := rfl
@[simp] theorem State.setEp_ftime (p : Nat) (e : Ep) : (s.setEp p e).ftime = s.ftime := rfl
@[simp] theorem State.setEp_memory (p : Nat) (e : Ep) : (s.setEp p e).memory = s.memory := rfl
@[simp] theorem State.setEp_sepia (p : Nat) (e : Ep) : (s.setEp p e).sepia = s.sepia := rfl
@[simp] theorem State.setEp_agents (p : Nat) (e : Ep) : (s.setEp p e).agents = s.agents := rfl
@[simp] theorem State.setEp_queues (p : Nat) (e : Ep) : (s.setEp p e).queues = s.queues := rfl
@[simp] theorem State.setEp_colls (p : Nat) (e : Ep) : (s.setEp p e).colls = s.colls := rfl
@[simp] theorem State.setEp_hcnt (p : Nat) (e : Ep) : (s.setEp p e).hcnt = s.hcnt := rfl
@[simp] theorem State.setEp_disp (p : Nat) (e : Ep) : (s.setEp p e).disp = s.disp := rfl
@[simp] theorem State.setEp_cores (p : Nat) (e : Ep) : (s.setEp p e).cores = s.cores := rfl
@[simp] theorem State.setEp_parts (p : Nat) (e : Ep) : (s.setEp p e).parts = s.parts := rfl
@[simp] theorem State.setEp_fns (p : Nat) (e : Ep) : (s.setEp p e).fns = s.fns := rfl
@[simp] theorem State.setEp_mgmt (p : Nat) (e : Ep) : (s.setEp p e).mgmt = s.mgmt := rfl
@[simp] theorem State.setEp_trace (p : Nat) (e : Ep) : (s.setEp p e).trace = s.trace := rfl
@[simp] theorem State.setEp_faults (p : Nat) (e : Ep) : (s.setEp p e).faults = s.faults := rfl
@[simp] theorem State.setEp_sec (p : Nat) (e : Ep) : (s.setEp p e).sec = s.sec := rfl
@[simp] theorem State.setEp_power (p : Nat) (e : Ep) : (s.setEp p e).power = s.power := rfl
@[simp] theorem State.setEp_thermal (p : Nat) (e : Ep) : (s.setEp p e).thermal = s.thermal := rfl
@[simp] theorem State.setEp_taps (p : Nat) (e : Ep) : (s.setEp p e).taps = s.taps := rfl
@[simp] theorem State.setEp_fw (p : Nat) (e : Ep) : (s.setEp p e).fw = s.fw := rfl
@[simp] theorem State.setEp_life (p : Nat) (e : Ep) : (s.setEp p e).life = s.life := rfl
@[simp] theorem State.setEp_stored (p : Nat) (e : Ep) : (s.setEp p e).stored = s.stored := rfl
@[simp] theorem State.setEp_free (p : Nat) (e : Ep) : (s.setEp p e).free = s.free := rfl
@[simp] theorem State.setEp_out (p : Nat) (e : Ep) : (s.setEp p e).out = s.out := rfl

@[simp] theorem State.setAgent_pending (g : Nat) (a : Agent) : (s.setAgent g a).pending = s.pending := rfl
@[simp] theorem State.setAgent_mem (g : Nat) (a : Agent) : (s.setAgent g a).mem = s.mem := rfl
@[simp] theorem State.setAgent_hostMem (g : Nat) (a : Agent) : (s.setAgent g a).hostMem = s.hostMem := rfl
@[simp] theorem State.setAgent_od (g : Nat) (a : Agent) : (s.setAgent g a).od = s.od := rfl
@[simp] theorem State.setAgent_clk (g : Nat) (a : Agent) : (s.setAgent g a).clk = s.clk := rfl
@[simp] theorem State.setAgent_links (g : Nat) (a : Agent) : (s.setAgent g a).links = s.links := rfl
@[simp] theorem State.setAgent_fabric (g : Nat) (a : Agent) : (s.setAgent g a).fabric = s.fabric := rfl
@[simp] theorem State.setAgent_ftime (g : Nat) (a : Agent) : (s.setAgent g a).ftime = s.ftime := rfl
@[simp] theorem State.setAgent_memory (g : Nat) (a : Agent) : (s.setAgent g a).memory = s.memory := rfl
@[simp] theorem State.setAgent_sepia (g : Nat) (a : Agent) : (s.setAgent g a).sepia = s.sepia := rfl
@[simp] theorem State.setAgent_eps (g : Nat) (a : Agent) : (s.setAgent g a).eps = s.eps := rfl
@[simp] theorem State.setAgent_queues (g : Nat) (a : Agent) : (s.setAgent g a).queues = s.queues := rfl
@[simp] theorem State.setAgent_colls (g : Nat) (a : Agent) : (s.setAgent g a).colls = s.colls := rfl
@[simp] theorem State.setAgent_hcnt (g : Nat) (a : Agent) : (s.setAgent g a).hcnt = s.hcnt := rfl
@[simp] theorem State.setAgent_disp (g : Nat) (a : Agent) : (s.setAgent g a).disp = s.disp := rfl
@[simp] theorem State.setAgent_cores (g : Nat) (a : Agent) : (s.setAgent g a).cores = s.cores := rfl
@[simp] theorem State.setAgent_parts (g : Nat) (a : Agent) : (s.setAgent g a).parts = s.parts := rfl
@[simp] theorem State.setAgent_fns (g : Nat) (a : Agent) : (s.setAgent g a).fns = s.fns := rfl
@[simp] theorem State.setAgent_mgmt (g : Nat) (a : Agent) : (s.setAgent g a).mgmt = s.mgmt := rfl
@[simp] theorem State.setAgent_trace (g : Nat) (a : Agent) : (s.setAgent g a).trace = s.trace := rfl
@[simp] theorem State.setAgent_faults (g : Nat) (a : Agent) : (s.setAgent g a).faults = s.faults := rfl
@[simp] theorem State.setAgent_sec (g : Nat) (a : Agent) : (s.setAgent g a).sec = s.sec := rfl
@[simp] theorem State.setAgent_power (g : Nat) (a : Agent) : (s.setAgent g a).power = s.power := rfl
@[simp] theorem State.setAgent_thermal (g : Nat) (a : Agent) : (s.setAgent g a).thermal = s.thermal := rfl
@[simp] theorem State.setAgent_taps (g : Nat) (a : Agent) : (s.setAgent g a).taps = s.taps := rfl
@[simp] theorem State.setAgent_fw (g : Nat) (a : Agent) : (s.setAgent g a).fw = s.fw := rfl
@[simp] theorem State.setAgent_life (g : Nat) (a : Agent) : (s.setAgent g a).life = s.life := rfl
@[simp] theorem State.setAgent_stored (g : Nat) (a : Agent) : (s.setAgent g a).stored = s.stored := rfl
@[simp] theorem State.setAgent_free (g : Nat) (a : Agent) : (s.setAgent g a).free = s.free := rfl
@[simp] theorem State.setAgent_out (g : Nat) (a : Agent) : (s.setAgent g a).out = s.out := rfl

@[simp] theorem State.odSet_pending (i k : Nat) (v : OdVal) : (s.odSet i k v).pending = s.pending := rfl
@[simp] theorem State.odSet_mem (i k : Nat) (v : OdVal) : (s.odSet i k v).mem = s.mem := rfl
@[simp] theorem State.odSet_hostMem (i k : Nat) (v : OdVal) : (s.odSet i k v).hostMem = s.hostMem := rfl
@[simp] theorem State.odSet_clk (i k : Nat) (v : OdVal) : (s.odSet i k v).clk = s.clk := rfl
@[simp] theorem State.odSet_links (i k : Nat) (v : OdVal) : (s.odSet i k v).links = s.links := rfl
@[simp] theorem State.odSet_fabric (i k : Nat) (v : OdVal) : (s.odSet i k v).fabric = s.fabric := rfl
@[simp] theorem State.odSet_ftime (i k : Nat) (v : OdVal) : (s.odSet i k v).ftime = s.ftime := rfl
@[simp] theorem State.odSet_memory (i k : Nat) (v : OdVal) : (s.odSet i k v).memory = s.memory := rfl
@[simp] theorem State.odSet_sepia (i k : Nat) (v : OdVal) : (s.odSet i k v).sepia = s.sepia := rfl
@[simp] theorem State.odSet_eps (i k : Nat) (v : OdVal) : (s.odSet i k v).eps = s.eps := rfl
@[simp] theorem State.odSet_agents (i k : Nat) (v : OdVal) : (s.odSet i k v).agents = s.agents := rfl
@[simp] theorem State.odSet_queues (i k : Nat) (v : OdVal) : (s.odSet i k v).queues = s.queues := rfl
@[simp] theorem State.odSet_colls (i k : Nat) (v : OdVal) : (s.odSet i k v).colls = s.colls := rfl
@[simp] theorem State.odSet_hcnt (i k : Nat) (v : OdVal) : (s.odSet i k v).hcnt = s.hcnt := rfl
@[simp] theorem State.odSet_disp (i k : Nat) (v : OdVal) : (s.odSet i k v).disp = s.disp := rfl
@[simp] theorem State.odSet_cores (i k : Nat) (v : OdVal) : (s.odSet i k v).cores = s.cores := rfl
@[simp] theorem State.odSet_parts (i k : Nat) (v : OdVal) : (s.odSet i k v).parts = s.parts := rfl
@[simp] theorem State.odSet_fns (i k : Nat) (v : OdVal) : (s.odSet i k v).fns = s.fns := rfl
@[simp] theorem State.odSet_mgmt (i k : Nat) (v : OdVal) : (s.odSet i k v).mgmt = s.mgmt := rfl
@[simp] theorem State.odSet_trace (i k : Nat) (v : OdVal) : (s.odSet i k v).trace = s.trace := rfl
@[simp] theorem State.odSet_faults (i k : Nat) (v : OdVal) : (s.odSet i k v).faults = s.faults := rfl
@[simp] theorem State.odSet_sec (i k : Nat) (v : OdVal) : (s.odSet i k v).sec = s.sec := rfl
@[simp] theorem State.odSet_power (i k : Nat) (v : OdVal) : (s.odSet i k v).power = s.power := rfl
@[simp] theorem State.odSet_thermal (i k : Nat) (v : OdVal) : (s.odSet i k v).thermal = s.thermal := rfl
@[simp] theorem State.odSet_taps (i k : Nat) (v : OdVal) : (s.odSet i k v).taps = s.taps := rfl
@[simp] theorem State.odSet_fw (i k : Nat) (v : OdVal) : (s.odSet i k v).fw = s.fw := rfl
@[simp] theorem State.odSet_life (i k : Nat) (v : OdVal) : (s.odSet i k v).life = s.life := rfl
@[simp] theorem State.odSet_stored (i k : Nat) (v : OdVal) : (s.odSet i k v).stored = s.stored := rfl
@[simp] theorem State.odSet_free (i k : Nat) (v : OdVal) : (s.odSet i k v).free = s.free := rfl
@[simp] theorem State.odSet_out (i k : Nat) (v : OdVal) : (s.odSet i k v).out = s.out := rfl

@[simp] theorem State.odAccept_pending (i k : Nat) (v : OdVal) : (s.odAccept i k v).pending = s.pending := rfl
@[simp] theorem State.odAccept_mem (i k : Nat) (v : OdVal) : (s.odAccept i k v).mem = s.mem := rfl
@[simp] theorem State.odAccept_hostMem (i k : Nat) (v : OdVal) : (s.odAccept i k v).hostMem = s.hostMem := rfl
@[simp] theorem State.odAccept_clk (i k : Nat) (v : OdVal) : (s.odAccept i k v).clk = s.clk := rfl
@[simp] theorem State.odAccept_links (i k : Nat) (v : OdVal) : (s.odAccept i k v).links = s.links := rfl
@[simp] theorem State.odAccept_fabric (i k : Nat) (v : OdVal) : (s.odAccept i k v).fabric = s.fabric := rfl
@[simp] theorem State.odAccept_ftime (i k : Nat) (v : OdVal) : (s.odAccept i k v).ftime = s.ftime := rfl
@[simp] theorem State.odAccept_memory (i k : Nat) (v : OdVal) : (s.odAccept i k v).memory = s.memory := rfl
@[simp] theorem State.odAccept_sepia (i k : Nat) (v : OdVal) : (s.odAccept i k v).sepia = s.sepia := rfl
@[simp] theorem State.odAccept_eps (i k : Nat) (v : OdVal) : (s.odAccept i k v).eps = s.eps := rfl
@[simp] theorem State.odAccept_agents (i k : Nat) (v : OdVal) : (s.odAccept i k v).agents = s.agents := rfl
@[simp] theorem State.odAccept_queues (i k : Nat) (v : OdVal) : (s.odAccept i k v).queues = s.queues := rfl
@[simp] theorem State.odAccept_colls (i k : Nat) (v : OdVal) : (s.odAccept i k v).colls = s.colls := rfl
@[simp] theorem State.odAccept_hcnt (i k : Nat) (v : OdVal) : (s.odAccept i k v).hcnt = s.hcnt := rfl
@[simp] theorem State.odAccept_disp (i k : Nat) (v : OdVal) : (s.odAccept i k v).disp = s.disp := rfl
@[simp] theorem State.odAccept_cores (i k : Nat) (v : OdVal) : (s.odAccept i k v).cores = s.cores := rfl
@[simp] theorem State.odAccept_parts (i k : Nat) (v : OdVal) : (s.odAccept i k v).parts = s.parts := rfl
@[simp] theorem State.odAccept_fns (i k : Nat) (v : OdVal) : (s.odAccept i k v).fns = s.fns := rfl
@[simp] theorem State.odAccept_mgmt (i k : Nat) (v : OdVal) : (s.odAccept i k v).mgmt = s.mgmt := rfl
@[simp] theorem State.odAccept_trace (i k : Nat) (v : OdVal) : (s.odAccept i k v).trace = s.trace := rfl
@[simp] theorem State.odAccept_faults (i k : Nat) (v : OdVal) : (s.odAccept i k v).faults = s.faults := rfl
@[simp] theorem State.odAccept_sec (i k : Nat) (v : OdVal) : (s.odAccept i k v).sec = s.sec := rfl
@[simp] theorem State.odAccept_power (i k : Nat) (v : OdVal) : (s.odAccept i k v).power = s.power := rfl
@[simp] theorem State.odAccept_thermal (i k : Nat) (v : OdVal) : (s.odAccept i k v).thermal = s.thermal := rfl
@[simp] theorem State.odAccept_taps (i k : Nat) (v : OdVal) : (s.odAccept i k v).taps = s.taps := rfl
@[simp] theorem State.odAccept_fw (i k : Nat) (v : OdVal) : (s.odAccept i k v).fw = s.fw := rfl
@[simp] theorem State.odAccept_life (i k : Nat) (v : OdVal) : (s.odAccept i k v).life = s.life := rfl
@[simp] theorem State.odAccept_stored (i k : Nat) (v : OdVal) : (s.odAccept i k v).stored = s.stored := rfl
@[simp] theorem State.odAccept_free (i k : Nat) (v : OdVal) : (s.odAccept i k v).free = s.free := rfl
@[simp] theorem State.odAccept_out (i k : Nat) (v : OdVal) : (s.odAccept i k v).out = s.out := rfl

@[simp] theorem State.emit_pending (o : Out) : (s.emit o).pending = s.pending := rfl
@[simp] theorem State.emit_mem (o : Out) : (s.emit o).mem = s.mem := rfl
@[simp] theorem State.emit_hostMem (o : Out) : (s.emit o).hostMem = s.hostMem := rfl
@[simp] theorem State.emit_od (o : Out) : (s.emit o).od = s.od := rfl
@[simp] theorem State.emit_clk (o : Out) : (s.emit o).clk = s.clk := rfl
@[simp] theorem State.emit_links (o : Out) : (s.emit o).links = s.links := rfl
@[simp] theorem State.emit_fabric (o : Out) : (s.emit o).fabric = s.fabric := rfl
@[simp] theorem State.emit_ftime (o : Out) : (s.emit o).ftime = s.ftime := rfl
@[simp] theorem State.emit_memory (o : Out) : (s.emit o).memory = s.memory := rfl
@[simp] theorem State.emit_sepia (o : Out) : (s.emit o).sepia = s.sepia := rfl
@[simp] theorem State.emit_eps (o : Out) : (s.emit o).eps = s.eps := rfl
@[simp] theorem State.emit_agents (o : Out) : (s.emit o).agents = s.agents := rfl
@[simp] theorem State.emit_queues (o : Out) : (s.emit o).queues = s.queues := rfl
@[simp] theorem State.emit_colls (o : Out) : (s.emit o).colls = s.colls := rfl
@[simp] theorem State.emit_hcnt (o : Out) : (s.emit o).hcnt = s.hcnt := rfl
@[simp] theorem State.emit_disp (o : Out) : (s.emit o).disp = s.disp := rfl
@[simp] theorem State.emit_cores (o : Out) : (s.emit o).cores = s.cores := rfl
@[simp] theorem State.emit_parts (o : Out) : (s.emit o).parts = s.parts := rfl
@[simp] theorem State.emit_fns (o : Out) : (s.emit o).fns = s.fns := rfl
@[simp] theorem State.emit_mgmt (o : Out) : (s.emit o).mgmt = s.mgmt := rfl
@[simp] theorem State.emit_trace (o : Out) : (s.emit o).trace = s.trace := rfl
@[simp] theorem State.emit_faults (o : Out) : (s.emit o).faults = s.faults := rfl
@[simp] theorem State.emit_sec (o : Out) : (s.emit o).sec = s.sec := rfl
@[simp] theorem State.emit_power (o : Out) : (s.emit o).power = s.power := rfl
@[simp] theorem State.emit_thermal (o : Out) : (s.emit o).thermal = s.thermal := rfl
@[simp] theorem State.emit_taps (o : Out) : (s.emit o).taps = s.taps := rfl
@[simp] theorem State.emit_fw (o : Out) : (s.emit o).fw = s.fw := rfl
@[simp] theorem State.emit_life (o : Out) : (s.emit o).life = s.life := rfl
@[simp] theorem State.emit_stored (o : Out) : (s.emit o).stored = s.stored := rfl
@[simp] theorem State.emit_free (o : Out) : (s.emit o).free = s.free := rfl

@[simp] theorem State.wr_pending (a : Nat) (bs : List Byte) : (s.wr a bs).pending = s.pending := rfl
@[simp] theorem State.wr_hostMem (a : Nat) (bs : List Byte) : (s.wr a bs).hostMem = s.hostMem := rfl
@[simp] theorem State.wr_od (a : Nat) (bs : List Byte) : (s.wr a bs).od = s.od := rfl
@[simp] theorem State.wr_clk (a : Nat) (bs : List Byte) : (s.wr a bs).clk = s.clk := rfl
@[simp] theorem State.wr_links (a : Nat) (bs : List Byte) : (s.wr a bs).links = s.links := rfl
@[simp] theorem State.wr_fabric (a : Nat) (bs : List Byte) : (s.wr a bs).fabric = s.fabric := rfl
@[simp] theorem State.wr_ftime (a : Nat) (bs : List Byte) : (s.wr a bs).ftime = s.ftime := rfl
@[simp] theorem State.wr_memory (a : Nat) (bs : List Byte) : (s.wr a bs).memory = s.memory := rfl
@[simp] theorem State.wr_sepia (a : Nat) (bs : List Byte) : (s.wr a bs).sepia = s.sepia := rfl
@[simp] theorem State.wr_eps (a : Nat) (bs : List Byte) : (s.wr a bs).eps = s.eps := rfl
@[simp] theorem State.wr_agents (a : Nat) (bs : List Byte) : (s.wr a bs).agents = s.agents := rfl
@[simp] theorem State.wr_queues (a : Nat) (bs : List Byte) : (s.wr a bs).queues = s.queues := rfl
@[simp] theorem State.wr_colls (a : Nat) (bs : List Byte) : (s.wr a bs).colls = s.colls := rfl
@[simp] theorem State.wr_hcnt (a : Nat) (bs : List Byte) : (s.wr a bs).hcnt = s.hcnt := rfl
@[simp] theorem State.wr_disp (a : Nat) (bs : List Byte) : (s.wr a bs).disp = s.disp := rfl
@[simp] theorem State.wr_cores (a : Nat) (bs : List Byte) : (s.wr a bs).cores = s.cores := rfl
@[simp] theorem State.wr_parts (a : Nat) (bs : List Byte) : (s.wr a bs).parts = s.parts := rfl
@[simp] theorem State.wr_fns (a : Nat) (bs : List Byte) : (s.wr a bs).fns = s.fns := rfl
@[simp] theorem State.wr_mgmt (a : Nat) (bs : List Byte) : (s.wr a bs).mgmt = s.mgmt := rfl
@[simp] theorem State.wr_trace (a : Nat) (bs : List Byte) : (s.wr a bs).trace = s.trace := rfl
@[simp] theorem State.wr_faults (a : Nat) (bs : List Byte) : (s.wr a bs).faults = s.faults := rfl
@[simp] theorem State.wr_sec (a : Nat) (bs : List Byte) : (s.wr a bs).sec = s.sec := rfl
@[simp] theorem State.wr_power (a : Nat) (bs : List Byte) : (s.wr a bs).power = s.power := rfl
@[simp] theorem State.wr_thermal (a : Nat) (bs : List Byte) : (s.wr a bs).thermal = s.thermal := rfl
@[simp] theorem State.wr_taps (a : Nat) (bs : List Byte) : (s.wr a bs).taps = s.taps := rfl
@[simp] theorem State.wr_fw (a : Nat) (bs : List Byte) : (s.wr a bs).fw = s.fw := rfl
@[simp] theorem State.wr_life (a : Nat) (bs : List Byte) : (s.wr a bs).life = s.life := rfl
@[simp] theorem State.wr_stored (a : Nat) (bs : List Byte) : (s.wr a bs).stored = s.stored := rfl
@[simp] theorem State.wr_free (a : Nat) (bs : List Byte) : (s.wr a bs).free = s.free := rfl
@[simp] theorem State.wr_out (a : Nat) (bs : List Byte) : (s.wr a bs).out = s.out := rfl

@[simp] theorem State.hwr_pending (a : Nat) (bs : List Byte) : (s.hwr a bs).pending = s.pending := rfl
@[simp] theorem State.hwr_mem (a : Nat) (bs : List Byte) : (s.hwr a bs).mem = s.mem := rfl
@[simp] theorem State.hwr_od (a : Nat) (bs : List Byte) : (s.hwr a bs).od = s.od := rfl
@[simp] theorem State.hwr_clk (a : Nat) (bs : List Byte) : (s.hwr a bs).clk = s.clk := rfl
@[simp] theorem State.hwr_links (a : Nat) (bs : List Byte) : (s.hwr a bs).links = s.links := rfl
@[simp] theorem State.hwr_fabric (a : Nat) (bs : List Byte) : (s.hwr a bs).fabric = s.fabric := rfl
@[simp] theorem State.hwr_ftime (a : Nat) (bs : List Byte) : (s.hwr a bs).ftime = s.ftime := rfl
@[simp] theorem State.hwr_memory (a : Nat) (bs : List Byte) : (s.hwr a bs).memory = s.memory := rfl
@[simp] theorem State.hwr_sepia (a : Nat) (bs : List Byte) : (s.hwr a bs).sepia = s.sepia := rfl
@[simp] theorem State.hwr_eps (a : Nat) (bs : List Byte) : (s.hwr a bs).eps = s.eps := rfl
@[simp] theorem State.hwr_agents (a : Nat) (bs : List Byte) : (s.hwr a bs).agents = s.agents := rfl
@[simp] theorem State.hwr_queues (a : Nat) (bs : List Byte) : (s.hwr a bs).queues = s.queues := rfl
@[simp] theorem State.hwr_colls (a : Nat) (bs : List Byte) : (s.hwr a bs).colls = s.colls := rfl
@[simp] theorem State.hwr_hcnt (a : Nat) (bs : List Byte) : (s.hwr a bs).hcnt = s.hcnt := rfl
@[simp] theorem State.hwr_disp (a : Nat) (bs : List Byte) : (s.hwr a bs).disp = s.disp := rfl
@[simp] theorem State.hwr_cores (a : Nat) (bs : List Byte) : (s.hwr a bs).cores = s.cores := rfl
@[simp] theorem State.hwr_parts (a : Nat) (bs : List Byte) : (s.hwr a bs).parts = s.parts := rfl
@[simp] theorem State.hwr_fns (a : Nat) (bs : List Byte) : (s.hwr a bs).fns = s.fns := rfl
@[simp] theorem State.hwr_mgmt (a : Nat) (bs : List Byte) : (s.hwr a bs).mgmt = s.mgmt := rfl
@[simp] theorem State.hwr_trace (a : Nat) (bs : List Byte) : (s.hwr a bs).trace = s.trace := rfl
@[simp] theorem State.hwr_faults (a : Nat) (bs : List Byte) : (s.hwr a bs).faults = s.faults := rfl
@[simp] theorem State.hwr_sec (a : Nat) (bs : List Byte) : (s.hwr a bs).sec = s.sec := rfl
@[simp] theorem State.hwr_power (a : Nat) (bs : List Byte) : (s.hwr a bs).power = s.power := rfl
@[simp] theorem State.hwr_thermal (a : Nat) (bs : List Byte) : (s.hwr a bs).thermal = s.thermal := rfl
@[simp] theorem State.hwr_taps (a : Nat) (bs : List Byte) : (s.hwr a bs).taps = s.taps := rfl
@[simp] theorem State.hwr_fw (a : Nat) (bs : List Byte) : (s.hwr a bs).fw = s.fw := rfl
@[simp] theorem State.hwr_life (a : Nat) (bs : List Byte) : (s.hwr a bs).life = s.life := rfl
@[simp] theorem State.hwr_stored (a : Nat) (bs : List Byte) : (s.hwr a bs).stored = s.stored := rfl
@[simp] theorem State.hwr_free (a : Nat) (bs : List Byte) : (s.hwr a bs).free = s.free := rfl
@[simp] theorem State.hwr_out (a : Nat) (bs : List Byte) : (s.hwr a bs).out = s.out := rfl

@[simp] theorem State.zero_pending (lo len : Nat) : (s.zero lo len).pending = s.pending := rfl
@[simp] theorem State.zero_hostMem (lo len : Nat) : (s.zero lo len).hostMem = s.hostMem := rfl
@[simp] theorem State.zero_od (lo len : Nat) : (s.zero lo len).od = s.od := rfl
@[simp] theorem State.zero_clk (lo len : Nat) : (s.zero lo len).clk = s.clk := rfl
@[simp] theorem State.zero_links (lo len : Nat) : (s.zero lo len).links = s.links := rfl
@[simp] theorem State.zero_fabric (lo len : Nat) : (s.zero lo len).fabric = s.fabric := rfl
@[simp] theorem State.zero_ftime (lo len : Nat) : (s.zero lo len).ftime = s.ftime := rfl
@[simp] theorem State.zero_memory (lo len : Nat) : (s.zero lo len).memory = s.memory := rfl
@[simp] theorem State.zero_sepia (lo len : Nat) : (s.zero lo len).sepia = s.sepia := rfl
@[simp] theorem State.zero_eps (lo len : Nat) : (s.zero lo len).eps = s.eps := rfl
@[simp] theorem State.zero_agents (lo len : Nat) : (s.zero lo len).agents = s.agents := rfl
@[simp] theorem State.zero_queues (lo len : Nat) : (s.zero lo len).queues = s.queues := rfl
@[simp] theorem State.zero_colls (lo len : Nat) : (s.zero lo len).colls = s.colls := rfl
@[simp] theorem State.zero_hcnt (lo len : Nat) : (s.zero lo len).hcnt = s.hcnt := rfl
@[simp] theorem State.zero_disp (lo len : Nat) : (s.zero lo len).disp = s.disp := rfl
@[simp] theorem State.zero_cores (lo len : Nat) : (s.zero lo len).cores = s.cores := rfl
@[simp] theorem State.zero_parts (lo len : Nat) : (s.zero lo len).parts = s.parts := rfl
@[simp] theorem State.zero_fns (lo len : Nat) : (s.zero lo len).fns = s.fns := rfl
@[simp] theorem State.zero_mgmt (lo len : Nat) : (s.zero lo len).mgmt = s.mgmt := rfl
@[simp] theorem State.zero_trace (lo len : Nat) : (s.zero lo len).trace = s.trace := rfl
@[simp] theorem State.zero_faults (lo len : Nat) : (s.zero lo len).faults = s.faults := rfl
@[simp] theorem State.zero_sec (lo len : Nat) : (s.zero lo len).sec = s.sec := rfl
@[simp] theorem State.zero_power (lo len : Nat) : (s.zero lo len).power = s.power := rfl
@[simp] theorem State.zero_thermal (lo len : Nat) : (s.zero lo len).thermal = s.thermal := rfl
@[simp] theorem State.zero_taps (lo len : Nat) : (s.zero lo len).taps = s.taps := rfl
@[simp] theorem State.zero_fw (lo len : Nat) : (s.zero lo len).fw = s.fw := rfl
@[simp] theorem State.zero_life (lo len : Nat) : (s.zero lo len).life = s.life := rfl
@[simp] theorem State.zero_stored (lo len : Nat) : (s.zero lo len).stored = s.stored := rfl
@[simp] theorem State.zero_free (lo len : Nat) : (s.zero lo len).free = s.free := rfl
@[simp] theorem State.zero_out (lo len : Nat) : (s.zero lo len).out = s.out := rfl

@[simp] theorem State.lifeSet_pending (f : Life → Life) : (s.lifeSet f).pending = s.pending := rfl
@[simp] theorem State.lifeSet_mem (f : Life → Life) : (s.lifeSet f).mem = s.mem := rfl
@[simp] theorem State.lifeSet_hostMem (f : Life → Life) : (s.lifeSet f).hostMem = s.hostMem := rfl
@[simp] theorem State.lifeSet_od (f : Life → Life) : (s.lifeSet f).od = s.od := rfl
@[simp] theorem State.lifeSet_clk (f : Life → Life) : (s.lifeSet f).clk = s.clk := rfl
@[simp] theorem State.lifeSet_links (f : Life → Life) : (s.lifeSet f).links = s.links := rfl
@[simp] theorem State.lifeSet_fabric (f : Life → Life) : (s.lifeSet f).fabric = s.fabric := rfl
@[simp] theorem State.lifeSet_ftime (f : Life → Life) : (s.lifeSet f).ftime = s.ftime := rfl
@[simp] theorem State.lifeSet_memory (f : Life → Life) : (s.lifeSet f).memory = s.memory := rfl
@[simp] theorem State.lifeSet_sepia (f : Life → Life) : (s.lifeSet f).sepia = s.sepia := rfl
@[simp] theorem State.lifeSet_eps (f : Life → Life) : (s.lifeSet f).eps = s.eps := rfl
@[simp] theorem State.lifeSet_agents (f : Life → Life) : (s.lifeSet f).agents = s.agents := rfl
@[simp] theorem State.lifeSet_queues (f : Life → Life) : (s.lifeSet f).queues = s.queues := rfl
@[simp] theorem State.lifeSet_colls (f : Life → Life) : (s.lifeSet f).colls = s.colls := rfl
@[simp] theorem State.lifeSet_hcnt (f : Life → Life) : (s.lifeSet f).hcnt = s.hcnt := rfl
@[simp] theorem State.lifeSet_disp (f : Life → Life) : (s.lifeSet f).disp = s.disp := rfl
@[simp] theorem State.lifeSet_cores (f : Life → Life) : (s.lifeSet f).cores = s.cores := rfl
@[simp] theorem State.lifeSet_parts (f : Life → Life) : (s.lifeSet f).parts = s.parts := rfl
@[simp] theorem State.lifeSet_fns (f : Life → Life) : (s.lifeSet f).fns = s.fns := rfl
@[simp] theorem State.lifeSet_mgmt (f : Life → Life) : (s.lifeSet f).mgmt = s.mgmt := rfl
@[simp] theorem State.lifeSet_trace (f : Life → Life) : (s.lifeSet f).trace = s.trace := rfl
@[simp] theorem State.lifeSet_faults (f : Life → Life) : (s.lifeSet f).faults = s.faults := rfl
@[simp] theorem State.lifeSet_sec (f : Life → Life) : (s.lifeSet f).sec = s.sec := rfl
@[simp] theorem State.lifeSet_power (f : Life → Life) : (s.lifeSet f).power = s.power := rfl
@[simp] theorem State.lifeSet_thermal (f : Life → Life) : (s.lifeSet f).thermal = s.thermal := rfl
@[simp] theorem State.lifeSet_taps (f : Life → Life) : (s.lifeSet f).taps = s.taps := rfl
@[simp] theorem State.lifeSet_fw (f : Life → Life) : (s.lifeSet f).fw = s.fw := rfl
@[simp] theorem State.lifeSet_stored (f : Life → Life) : (s.lifeSet f).stored = s.stored := rfl
@[simp] theorem State.lifeSet_free (f : Life → Life) : (s.lifeSet f).free = s.free := rfl
@[simp] theorem State.lifeSet_out (f : Life → Life) : (s.lifeSet f).out = s.out := rfl

@[simp] theorem State.fwSet_pending (f : Fw → Fw) : (s.fwSet f).pending = s.pending := rfl
@[simp] theorem State.fwSet_mem (f : Fw → Fw) : (s.fwSet f).mem = s.mem := rfl
@[simp] theorem State.fwSet_hostMem (f : Fw → Fw) : (s.fwSet f).hostMem = s.hostMem := rfl
@[simp] theorem State.fwSet_od (f : Fw → Fw) : (s.fwSet f).od = s.od := rfl
@[simp] theorem State.fwSet_clk (f : Fw → Fw) : (s.fwSet f).clk = s.clk := rfl
@[simp] theorem State.fwSet_links (f : Fw → Fw) : (s.fwSet f).links = s.links := rfl
@[simp] theorem State.fwSet_fabric (f : Fw → Fw) : (s.fwSet f).fabric = s.fabric := rfl
@[simp] theorem State.fwSet_ftime (f : Fw → Fw) : (s.fwSet f).ftime = s.ftime := rfl
@[simp] theorem State.fwSet_memory (f : Fw → Fw) : (s.fwSet f).memory = s.memory := rfl
@[simp] theorem State.fwSet_sepia (f : Fw → Fw) : (s.fwSet f).sepia = s.sepia := rfl
@[simp] theorem State.fwSet_eps (f : Fw → Fw) : (s.fwSet f).eps = s.eps := rfl
@[simp] theorem State.fwSet_agents (f : Fw → Fw) : (s.fwSet f).agents = s.agents := rfl
@[simp] theorem State.fwSet_queues (f : Fw → Fw) : (s.fwSet f).queues = s.queues := rfl
@[simp] theorem State.fwSet_colls (f : Fw → Fw) : (s.fwSet f).colls = s.colls := rfl
@[simp] theorem State.fwSet_hcnt (f : Fw → Fw) : (s.fwSet f).hcnt = s.hcnt := rfl
@[simp] theorem State.fwSet_disp (f : Fw → Fw) : (s.fwSet f).disp = s.disp := rfl
@[simp] theorem State.fwSet_cores (f : Fw → Fw) : (s.fwSet f).cores = s.cores := rfl
@[simp] theorem State.fwSet_parts (f : Fw → Fw) : (s.fwSet f).parts = s.parts := rfl
@[simp] theorem State.fwSet_fns (f : Fw → Fw) : (s.fwSet f).fns = s.fns := rfl
@[simp] theorem State.fwSet_mgmt (f : Fw → Fw) : (s.fwSet f).mgmt = s.mgmt := rfl
@[simp] theorem State.fwSet_trace (f : Fw → Fw) : (s.fwSet f).trace = s.trace := rfl
@[simp] theorem State.fwSet_faults (f : Fw → Fw) : (s.fwSet f).faults = s.faults := rfl
@[simp] theorem State.fwSet_sec (f : Fw → Fw) : (s.fwSet f).sec = s.sec := rfl
@[simp] theorem State.fwSet_power (f : Fw → Fw) : (s.fwSet f).power = s.power := rfl
@[simp] theorem State.fwSet_thermal (f : Fw → Fw) : (s.fwSet f).thermal = s.thermal := rfl
@[simp] theorem State.fwSet_taps (f : Fw → Fw) : (s.fwSet f).taps = s.taps := rfl
@[simp] theorem State.fwSet_life (f : Fw → Fw) : (s.fwSet f).life = s.life := rfl
@[simp] theorem State.fwSet_stored (f : Fw → Fw) : (s.fwSet f).stored = s.stored := rfl
@[simp] theorem State.fwSet_free (f : Fw → Fw) : (s.fwSet f).free = s.free := rfl
@[simp] theorem State.fwSet_out (f : Fw → Fw) : (s.fwSet f).out = s.out := rfl

@[simp] theorem State.mgmtSet_pending (f : Mgmt → Mgmt) : (s.mgmtSet f).pending = s.pending := rfl
@[simp] theorem State.mgmtSet_mem (f : Mgmt → Mgmt) : (s.mgmtSet f).mem = s.mem := rfl
@[simp] theorem State.mgmtSet_hostMem (f : Mgmt → Mgmt) : (s.mgmtSet f).hostMem = s.hostMem := rfl
@[simp] theorem State.mgmtSet_od (f : Mgmt → Mgmt) : (s.mgmtSet f).od = s.od := rfl
@[simp] theorem State.mgmtSet_clk (f : Mgmt → Mgmt) : (s.mgmtSet f).clk = s.clk := rfl
@[simp] theorem State.mgmtSet_links (f : Mgmt → Mgmt) : (s.mgmtSet f).links = s.links := rfl
@[simp] theorem State.mgmtSet_fabric (f : Mgmt → Mgmt) : (s.mgmtSet f).fabric = s.fabric := rfl
@[simp] theorem State.mgmtSet_ftime (f : Mgmt → Mgmt) : (s.mgmtSet f).ftime = s.ftime := rfl
@[simp] theorem State.mgmtSet_memory (f : Mgmt → Mgmt) : (s.mgmtSet f).memory = s.memory := rfl
@[simp] theorem State.mgmtSet_sepia (f : Mgmt → Mgmt) : (s.mgmtSet f).sepia = s.sepia := rfl
@[simp] theorem State.mgmtSet_eps (f : Mgmt → Mgmt) : (s.mgmtSet f).eps = s.eps := rfl
@[simp] theorem State.mgmtSet_agents (f : Mgmt → Mgmt) : (s.mgmtSet f).agents = s.agents := rfl
@[simp] theorem State.mgmtSet_queues (f : Mgmt → Mgmt) : (s.mgmtSet f).queues = s.queues := rfl
@[simp] theorem State.mgmtSet_colls (f : Mgmt → Mgmt) : (s.mgmtSet f).colls = s.colls := rfl
@[simp] theorem State.mgmtSet_hcnt (f : Mgmt → Mgmt) : (s.mgmtSet f).hcnt = s.hcnt := rfl
@[simp] theorem State.mgmtSet_disp (f : Mgmt → Mgmt) : (s.mgmtSet f).disp = s.disp := rfl
@[simp] theorem State.mgmtSet_cores (f : Mgmt → Mgmt) : (s.mgmtSet f).cores = s.cores := rfl
@[simp] theorem State.mgmtSet_parts (f : Mgmt → Mgmt) : (s.mgmtSet f).parts = s.parts := rfl
@[simp] theorem State.mgmtSet_fns (f : Mgmt → Mgmt) : (s.mgmtSet f).fns = s.fns := rfl
@[simp] theorem State.mgmtSet_trace (f : Mgmt → Mgmt) : (s.mgmtSet f).trace = s.trace := rfl
@[simp] theorem State.mgmtSet_faults (f : Mgmt → Mgmt) : (s.mgmtSet f).faults = s.faults := rfl
@[simp] theorem State.mgmtSet_sec (f : Mgmt → Mgmt) : (s.mgmtSet f).sec = s.sec := rfl
@[simp] theorem State.mgmtSet_power (f : Mgmt → Mgmt) : (s.mgmtSet f).power = s.power := rfl
@[simp] theorem State.mgmtSet_thermal (f : Mgmt → Mgmt) : (s.mgmtSet f).thermal = s.thermal := rfl
@[simp] theorem State.mgmtSet_taps (f : Mgmt → Mgmt) : (s.mgmtSet f).taps = s.taps := rfl
@[simp] theorem State.mgmtSet_fw (f : Mgmt → Mgmt) : (s.mgmtSet f).fw = s.fw := rfl
@[simp] theorem State.mgmtSet_life (f : Mgmt → Mgmt) : (s.mgmtSet f).life = s.life := rfl
@[simp] theorem State.mgmtSet_stored (f : Mgmt → Mgmt) : (s.mgmtSet f).stored = s.stored := rfl
@[simp] theorem State.mgmtSet_free (f : Mgmt → Mgmt) : (s.mgmtSet f).free = s.free := rfl
@[simp] theorem State.mgmtSet_out (f : Mgmt → Mgmt) : (s.mgmtSet f).out = s.out := rfl

@[simp] theorem State.pwr_pending (f : Power → Power) : (s.pwr f).pending = s.pending := rfl
@[simp] theorem State.pwr_mem (f : Power → Power) : (s.pwr f).mem = s.mem := rfl
@[simp] theorem State.pwr_hostMem (f : Power → Power) : (s.pwr f).hostMem = s.hostMem := rfl
@[simp] theorem State.pwr_od (f : Power → Power) : (s.pwr f).od = s.od := rfl
@[simp] theorem State.pwr_clk (f : Power → Power) : (s.pwr f).clk = s.clk := rfl
@[simp] theorem State.pwr_links (f : Power → Power) : (s.pwr f).links = s.links := rfl
@[simp] theorem State.pwr_fabric (f : Power → Power) : (s.pwr f).fabric = s.fabric := rfl
@[simp] theorem State.pwr_ftime (f : Power → Power) : (s.pwr f).ftime = s.ftime := rfl
@[simp] theorem State.pwr_memory (f : Power → Power) : (s.pwr f).memory = s.memory := rfl
@[simp] theorem State.pwr_sepia (f : Power → Power) : (s.pwr f).sepia = s.sepia := rfl
@[simp] theorem State.pwr_eps (f : Power → Power) : (s.pwr f).eps = s.eps := rfl
@[simp] theorem State.pwr_agents (f : Power → Power) : (s.pwr f).agents = s.agents := rfl
@[simp] theorem State.pwr_queues (f : Power → Power) : (s.pwr f).queues = s.queues := rfl
@[simp] theorem State.pwr_colls (f : Power → Power) : (s.pwr f).colls = s.colls := rfl
@[simp] theorem State.pwr_hcnt (f : Power → Power) : (s.pwr f).hcnt = s.hcnt := rfl
@[simp] theorem State.pwr_disp (f : Power → Power) : (s.pwr f).disp = s.disp := rfl
@[simp] theorem State.pwr_cores (f : Power → Power) : (s.pwr f).cores = s.cores := rfl
@[simp] theorem State.pwr_parts (f : Power → Power) : (s.pwr f).parts = s.parts := rfl
@[simp] theorem State.pwr_fns (f : Power → Power) : (s.pwr f).fns = s.fns := rfl
@[simp] theorem State.pwr_mgmt (f : Power → Power) : (s.pwr f).mgmt = s.mgmt := rfl
@[simp] theorem State.pwr_trace (f : Power → Power) : (s.pwr f).trace = s.trace := rfl
@[simp] theorem State.pwr_faults (f : Power → Power) : (s.pwr f).faults = s.faults := rfl
@[simp] theorem State.pwr_sec (f : Power → Power) : (s.pwr f).sec = s.sec := rfl
@[simp] theorem State.pwr_thermal (f : Power → Power) : (s.pwr f).thermal = s.thermal := rfl
@[simp] theorem State.pwr_taps (f : Power → Power) : (s.pwr f).taps = s.taps := rfl
@[simp] theorem State.pwr_fw (f : Power → Power) : (s.pwr f).fw = s.fw := rfl
@[simp] theorem State.pwr_life (f : Power → Power) : (s.pwr f).life = s.life := rfl
@[simp] theorem State.pwr_stored (f : Power → Power) : (s.pwr f).stored = s.stored := rfl
@[simp] theorem State.pwr_free (f : Power → Power) : (s.pwr f).free = s.free := rfl
@[simp] theorem State.pwr_out (f : Power → Power) : (s.pwr f).out = s.out := rfl

@[simp] theorem State.thm_pending (f : Thermal → Thermal) : (s.thm f).pending = s.pending := rfl
@[simp] theorem State.thm_mem (f : Thermal → Thermal) : (s.thm f).mem = s.mem := rfl
@[simp] theorem State.thm_hostMem (f : Thermal → Thermal) : (s.thm f).hostMem = s.hostMem := rfl
@[simp] theorem State.thm_od (f : Thermal → Thermal) : (s.thm f).od = s.od := rfl
@[simp] theorem State.thm_clk (f : Thermal → Thermal) : (s.thm f).clk = s.clk := rfl
@[simp] theorem State.thm_links (f : Thermal → Thermal) : (s.thm f).links = s.links := rfl
@[simp] theorem State.thm_fabric (f : Thermal → Thermal) : (s.thm f).fabric = s.fabric := rfl
@[simp] theorem State.thm_ftime (f : Thermal → Thermal) : (s.thm f).ftime = s.ftime := rfl
@[simp] theorem State.thm_memory (f : Thermal → Thermal) : (s.thm f).memory = s.memory := rfl
@[simp] theorem State.thm_sepia (f : Thermal → Thermal) : (s.thm f).sepia = s.sepia := rfl
@[simp] theorem State.thm_eps (f : Thermal → Thermal) : (s.thm f).eps = s.eps := rfl
@[simp] theorem State.thm_agents (f : Thermal → Thermal) : (s.thm f).agents = s.agents := rfl
@[simp] theorem State.thm_queues (f : Thermal → Thermal) : (s.thm f).queues = s.queues := rfl
@[simp] theorem State.thm_colls (f : Thermal → Thermal) : (s.thm f).colls = s.colls := rfl
@[simp] theorem State.thm_hcnt (f : Thermal → Thermal) : (s.thm f).hcnt = s.hcnt := rfl
@[simp] theorem State.thm_disp (f : Thermal → Thermal) : (s.thm f).disp = s.disp := rfl
@[simp] theorem State.thm_cores (f : Thermal → Thermal) : (s.thm f).cores = s.cores := rfl
@[simp] theorem State.thm_parts (f : Thermal → Thermal) : (s.thm f).parts = s.parts := rfl
@[simp] theorem State.thm_fns (f : Thermal → Thermal) : (s.thm f).fns = s.fns := rfl
@[simp] theorem State.thm_mgmt (f : Thermal → Thermal) : (s.thm f).mgmt = s.mgmt := rfl
@[simp] theorem State.thm_trace (f : Thermal → Thermal) : (s.thm f).trace = s.trace := rfl
@[simp] theorem State.thm_faults (f : Thermal → Thermal) : (s.thm f).faults = s.faults := rfl
@[simp] theorem State.thm_sec (f : Thermal → Thermal) : (s.thm f).sec = s.sec := rfl
@[simp] theorem State.thm_power (f : Thermal → Thermal) : (s.thm f).power = s.power := rfl
@[simp] theorem State.thm_taps (f : Thermal → Thermal) : (s.thm f).taps = s.taps := rfl
@[simp] theorem State.thm_fw (f : Thermal → Thermal) : (s.thm f).fw = s.fw := rfl
@[simp] theorem State.thm_life (f : Thermal → Thermal) : (s.thm f).life = s.life := rfl
@[simp] theorem State.thm_stored (f : Thermal → Thermal) : (s.thm f).stored = s.stored := rfl
@[simp] theorem State.thm_free (f : Thermal → Thermal) : (s.thm f).free = s.free := rfl
@[simp] theorem State.thm_out (f : Thermal → Thermal) : (s.thm f).out = s.out := rfl

@[simp] theorem State.onyx_pending (f : Onyx → Onyx) : (s.onyx f).pending = s.pending := rfl
@[simp] theorem State.onyx_mem (f : Onyx → Onyx) : (s.onyx f).mem = s.mem := rfl
@[simp] theorem State.onyx_hostMem (f : Onyx → Onyx) : (s.onyx f).hostMem = s.hostMem := rfl
@[simp] theorem State.onyx_od (f : Onyx → Onyx) : (s.onyx f).od = s.od := rfl
@[simp] theorem State.onyx_clk (f : Onyx → Onyx) : (s.onyx f).clk = s.clk := rfl
@[simp] theorem State.onyx_links (f : Onyx → Onyx) : (s.onyx f).links = s.links := rfl
@[simp] theorem State.onyx_fabric (f : Onyx → Onyx) : (s.onyx f).fabric = s.fabric := rfl
@[simp] theorem State.onyx_ftime (f : Onyx → Onyx) : (s.onyx f).ftime = s.ftime := rfl
@[simp] theorem State.onyx_memory (f : Onyx → Onyx) : (s.onyx f).memory = s.memory := rfl
@[simp] theorem State.onyx_sepia (f : Onyx → Onyx) : (s.onyx f).sepia = s.sepia := rfl
@[simp] theorem State.onyx_eps (f : Onyx → Onyx) : (s.onyx f).eps = s.eps := rfl
@[simp] theorem State.onyx_agents (f : Onyx → Onyx) : (s.onyx f).agents = s.agents := rfl
@[simp] theorem State.onyx_queues (f : Onyx → Onyx) : (s.onyx f).queues = s.queues := rfl
@[simp] theorem State.onyx_colls (f : Onyx → Onyx) : (s.onyx f).colls = s.colls := rfl
@[simp] theorem State.onyx_hcnt (f : Onyx → Onyx) : (s.onyx f).hcnt = s.hcnt := rfl
@[simp] theorem State.onyx_disp (f : Onyx → Onyx) : (s.onyx f).disp = s.disp := rfl
@[simp] theorem State.onyx_cores (f : Onyx → Onyx) : (s.onyx f).cores = s.cores := rfl
@[simp] theorem State.onyx_parts (f : Onyx → Onyx) : (s.onyx f).parts = s.parts := rfl
@[simp] theorem State.onyx_fns (f : Onyx → Onyx) : (s.onyx f).fns = s.fns := rfl
@[simp] theorem State.onyx_mgmt (f : Onyx → Onyx) : (s.onyx f).mgmt = s.mgmt := rfl
@[simp] theorem State.onyx_trace (f : Onyx → Onyx) : (s.onyx f).trace = s.trace := rfl
@[simp] theorem State.onyx_faults (f : Onyx → Onyx) : (s.onyx f).faults = s.faults := rfl
@[simp] theorem State.onyx_power (f : Onyx → Onyx) : (s.onyx f).power = s.power := rfl
@[simp] theorem State.onyx_thermal (f : Onyx → Onyx) : (s.onyx f).thermal = s.thermal := rfl
@[simp] theorem State.onyx_taps (f : Onyx → Onyx) : (s.onyx f).taps = s.taps := rfl
@[simp] theorem State.onyx_fw (f : Onyx → Onyx) : (s.onyx f).fw = s.fw := rfl
@[simp] theorem State.onyx_life (f : Onyx → Onyx) : (s.onyx f).life = s.life := rfl
@[simp] theorem State.onyx_stored (f : Onyx → Onyx) : (s.onyx f).stored = s.stored := rfl
@[simp] theorem State.onyx_free (f : Onyx → Onyx) : (s.onyx f).free = s.free := rfl
@[simp] theorem State.onyx_out (f : Onyx → Onyx) : (s.onyx f).out = s.out := rfl

@[simp] theorem State.setSpdm_pending (k : Nat) (x : Spdm) : (s.setSpdm k x).pending = s.pending := rfl
@[simp] theorem State.setSpdm_mem (k : Nat) (x : Spdm) : (s.setSpdm k x).mem = s.mem := rfl
@[simp] theorem State.setSpdm_hostMem (k : Nat) (x : Spdm) : (s.setSpdm k x).hostMem = s.hostMem := rfl
@[simp] theorem State.setSpdm_od (k : Nat) (x : Spdm) : (s.setSpdm k x).od = s.od := rfl
@[simp] theorem State.setSpdm_clk (k : Nat) (x : Spdm) : (s.setSpdm k x).clk = s.clk := rfl
@[simp] theorem State.setSpdm_links (k : Nat) (x : Spdm) : (s.setSpdm k x).links = s.links := rfl
@[simp] theorem State.setSpdm_fabric (k : Nat) (x : Spdm) : (s.setSpdm k x).fabric = s.fabric := rfl
@[simp] theorem State.setSpdm_ftime (k : Nat) (x : Spdm) : (s.setSpdm k x).ftime = s.ftime := rfl
@[simp] theorem State.setSpdm_memory (k : Nat) (x : Spdm) : (s.setSpdm k x).memory = s.memory := rfl
@[simp] theorem State.setSpdm_sepia (k : Nat) (x : Spdm) : (s.setSpdm k x).sepia = s.sepia := rfl
@[simp] theorem State.setSpdm_eps (k : Nat) (x : Spdm) : (s.setSpdm k x).eps = s.eps := rfl
@[simp] theorem State.setSpdm_agents (k : Nat) (x : Spdm) : (s.setSpdm k x).agents = s.agents := rfl
@[simp] theorem State.setSpdm_queues (k : Nat) (x : Spdm) : (s.setSpdm k x).queues = s.queues := rfl
@[simp] theorem State.setSpdm_colls (k : Nat) (x : Spdm) : (s.setSpdm k x).colls = s.colls := rfl
@[simp] theorem State.setSpdm_hcnt (k : Nat) (x : Spdm) : (s.setSpdm k x).hcnt = s.hcnt := rfl
@[simp] theorem State.setSpdm_disp (k : Nat) (x : Spdm) : (s.setSpdm k x).disp = s.disp := rfl
@[simp] theorem State.setSpdm_cores (k : Nat) (x : Spdm) : (s.setSpdm k x).cores = s.cores := rfl
@[simp] theorem State.setSpdm_parts (k : Nat) (x : Spdm) : (s.setSpdm k x).parts = s.parts := rfl
@[simp] theorem State.setSpdm_fns (k : Nat) (x : Spdm) : (s.setSpdm k x).fns = s.fns := rfl
@[simp] theorem State.setSpdm_mgmt (k : Nat) (x : Spdm) : (s.setSpdm k x).mgmt = s.mgmt := rfl
@[simp] theorem State.setSpdm_trace (k : Nat) (x : Spdm) : (s.setSpdm k x).trace = s.trace := rfl
@[simp] theorem State.setSpdm_faults (k : Nat) (x : Spdm) : (s.setSpdm k x).faults = s.faults := rfl
@[simp] theorem State.setSpdm_power (k : Nat) (x : Spdm) : (s.setSpdm k x).power = s.power := rfl
@[simp] theorem State.setSpdm_thermal (k : Nat) (x : Spdm) : (s.setSpdm k x).thermal = s.thermal := rfl
@[simp] theorem State.setSpdm_taps (k : Nat) (x : Spdm) : (s.setSpdm k x).taps = s.taps := rfl
@[simp] theorem State.setSpdm_fw (k : Nat) (x : Spdm) : (s.setSpdm k x).fw = s.fw := rfl
@[simp] theorem State.setSpdm_life (k : Nat) (x : Spdm) : (s.setSpdm k x).life = s.life := rfl
@[simp] theorem State.setSpdm_stored (k : Nat) (x : Spdm) : (s.setSpdm k x).stored = s.stored := rfl
@[simp] theorem State.setSpdm_free (k : Nat) (x : Spdm) : (s.setSpdm k x).free = s.free := rfl
@[simp] theorem State.setSpdm_out (k : Nat) (x : Spdm) : (s.setSpdm k x).out = s.out := rfl

@[simp] theorem State.setIde_pending (k : Nat) (x : Ide) : (s.setIde k x).pending = s.pending := rfl
@[simp] theorem State.setIde_mem (k : Nat) (x : Ide) : (s.setIde k x).mem = s.mem := rfl
@[simp] theorem State.setIde_hostMem (k : Nat) (x : Ide) : (s.setIde k x).hostMem = s.hostMem := rfl
@[simp] theorem State.setIde_od (k : Nat) (x : Ide) : (s.setIde k x).od = s.od := rfl
@[simp] theorem State.setIde_clk (k : Nat) (x : Ide) : (s.setIde k x).clk = s.clk := rfl
@[simp] theorem State.setIde_links (k : Nat) (x : Ide) : (s.setIde k x).links = s.links := rfl
@[simp] theorem State.setIde_fabric (k : Nat) (x : Ide) : (s.setIde k x).fabric = s.fabric := rfl
@[simp] theorem State.setIde_ftime (k : Nat) (x : Ide) : (s.setIde k x).ftime = s.ftime := rfl
@[simp] theorem State.setIde_memory (k : Nat) (x : Ide) : (s.setIde k x).memory = s.memory := rfl
@[simp] theorem State.setIde_sepia (k : Nat) (x : Ide) : (s.setIde k x).sepia = s.sepia := rfl
@[simp] theorem State.setIde_eps (k : Nat) (x : Ide) : (s.setIde k x).eps = s.eps := rfl
@[simp] theorem State.setIde_agents (k : Nat) (x : Ide) : (s.setIde k x).agents = s.agents := rfl
@[simp] theorem State.setIde_queues (k : Nat) (x : Ide) : (s.setIde k x).queues = s.queues := rfl
@[simp] theorem State.setIde_colls (k : Nat) (x : Ide) : (s.setIde k x).colls = s.colls := rfl
@[simp] theorem State.setIde_hcnt (k : Nat) (x : Ide) : (s.setIde k x).hcnt = s.hcnt := rfl
@[simp] theorem State.setIde_disp (k : Nat) (x : Ide) : (s.setIde k x).disp = s.disp := rfl
@[simp] theorem State.setIde_cores (k : Nat) (x : Ide) : (s.setIde k x).cores = s.cores := rfl
@[simp] theorem State.setIde_parts (k : Nat) (x : Ide) : (s.setIde k x).parts = s.parts := rfl
@[simp] theorem State.setIde_fns (k : Nat) (x : Ide) : (s.setIde k x).fns = s.fns := rfl
@[simp] theorem State.setIde_mgmt (k : Nat) (x : Ide) : (s.setIde k x).mgmt = s.mgmt := rfl
@[simp] theorem State.setIde_trace (k : Nat) (x : Ide) : (s.setIde k x).trace = s.trace := rfl
@[simp] theorem State.setIde_faults (k : Nat) (x : Ide) : (s.setIde k x).faults = s.faults := rfl
@[simp] theorem State.setIde_power (k : Nat) (x : Ide) : (s.setIde k x).power = s.power := rfl
@[simp] theorem State.setIde_thermal (k : Nat) (x : Ide) : (s.setIde k x).thermal = s.thermal := rfl
@[simp] theorem State.setIde_taps (k : Nat) (x : Ide) : (s.setIde k x).taps = s.taps := rfl
@[simp] theorem State.setIde_fw (k : Nat) (x : Ide) : (s.setIde k x).fw = s.fw := rfl
@[simp] theorem State.setIde_life (k : Nat) (x : Ide) : (s.setIde k x).life = s.life := rfl
@[simp] theorem State.setIde_stored (k : Nat) (x : Ide) : (s.setIde k x).stored = s.stored := rfl
@[simp] theorem State.setIde_free (k : Nat) (x : Ide) : (s.setIde k x).free = s.free := rfl
@[simp] theorem State.setIde_out (k : Nat) (x : Ide) : (s.setIde k x).out = s.out := rfl

@[simp] theorem State.putS_pending (n k r : Nat) (v : Word) : (s.putS n k r v).pending = s.pending := rfl
@[simp] theorem State.putS_mem (n k r : Nat) (v : Word) : (s.putS n k r v).mem = s.mem := rfl
@[simp] theorem State.putS_hostMem (n k r : Nat) (v : Word) : (s.putS n k r v).hostMem = s.hostMem := rfl
@[simp] theorem State.putS_od (n k r : Nat) (v : Word) : (s.putS n k r v).od = s.od := rfl
@[simp] theorem State.putS_clk (n k r : Nat) (v : Word) : (s.putS n k r v).clk = s.clk := rfl
@[simp] theorem State.putS_links (n k r : Nat) (v : Word) : (s.putS n k r v).links = s.links := rfl
@[simp] theorem State.putS_fabric (n k r : Nat) (v : Word) : (s.putS n k r v).fabric = s.fabric := rfl
@[simp] theorem State.putS_ftime (n k r : Nat) (v : Word) : (s.putS n k r v).ftime = s.ftime := rfl
@[simp] theorem State.putS_memory (n k r : Nat) (v : Word) : (s.putS n k r v).memory = s.memory := rfl
@[simp] theorem State.putS_sepia (n k r : Nat) (v : Word) : (s.putS n k r v).sepia = s.sepia := rfl
@[simp] theorem State.putS_eps (n k r : Nat) (v : Word) : (s.putS n k r v).eps = s.eps := rfl
@[simp] theorem State.putS_agents (n k r : Nat) (v : Word) : (s.putS n k r v).agents = s.agents := rfl
@[simp] theorem State.putS_queues (n k r : Nat) (v : Word) : (s.putS n k r v).queues = s.queues := rfl
@[simp] theorem State.putS_colls (n k r : Nat) (v : Word) : (s.putS n k r v).colls = s.colls := rfl
@[simp] theorem State.putS_hcnt (n k r : Nat) (v : Word) : (s.putS n k r v).hcnt = s.hcnt := rfl
@[simp] theorem State.putS_disp (n k r : Nat) (v : Word) : (s.putS n k r v).disp = s.disp := rfl
@[simp] theorem State.putS_parts (n k r : Nat) (v : Word) : (s.putS n k r v).parts = s.parts := rfl
@[simp] theorem State.putS_fns (n k r : Nat) (v : Word) : (s.putS n k r v).fns = s.fns := rfl
@[simp] theorem State.putS_mgmt (n k r : Nat) (v : Word) : (s.putS n k r v).mgmt = s.mgmt := rfl
@[simp] theorem State.putS_trace (n k r : Nat) (v : Word) : (s.putS n k r v).trace = s.trace := rfl
@[simp] theorem State.putS_faults (n k r : Nat) (v : Word) : (s.putS n k r v).faults = s.faults := rfl
@[simp] theorem State.putS_sec (n k r : Nat) (v : Word) : (s.putS n k r v).sec = s.sec := rfl
@[simp] theorem State.putS_power (n k r : Nat) (v : Word) : (s.putS n k r v).power = s.power := rfl
@[simp] theorem State.putS_thermal (n k r : Nat) (v : Word) : (s.putS n k r v).thermal = s.thermal := rfl
@[simp] theorem State.putS_taps (n k r : Nat) (v : Word) : (s.putS n k r v).taps = s.taps := rfl
@[simp] theorem State.putS_fw (n k r : Nat) (v : Word) : (s.putS n k r v).fw = s.fw := rfl
@[simp] theorem State.putS_life (n k r : Nat) (v : Word) : (s.putS n k r v).life = s.life := rfl
@[simp] theorem State.putS_stored (n k r : Nat) (v : Word) : (s.putS n k r v).stored = s.stored := rfl
@[simp] theorem State.putS_free (n k r : Nat) (v : Word) : (s.putS n k r v).free = s.free := rfl
@[simp] theorem State.putS_out (n k r : Nat) (v : Word) : (s.putS n k r v).out = s.out := rfl

@[simp] theorem State.alertLine_pending : (s.alertLine).pending = s.pending := rfl
@[simp] theorem State.alertLine_mem : (s.alertLine).mem = s.mem := rfl
@[simp] theorem State.alertLine_hostMem : (s.alertLine).hostMem = s.hostMem := rfl
@[simp] theorem State.alertLine_od : (s.alertLine).od = s.od := rfl
@[simp] theorem State.alertLine_clk : (s.alertLine).clk = s.clk := rfl
@[simp] theorem State.alertLine_links : (s.alertLine).links = s.links := rfl
@[simp] theorem State.alertLine_fabric : (s.alertLine).fabric = s.fabric := rfl
@[simp] theorem State.alertLine_ftime : (s.alertLine).ftime = s.ftime := rfl
@[simp] theorem State.alertLine_memory : (s.alertLine).memory = s.memory := rfl
@[simp] theorem State.alertLine_sepia : (s.alertLine).sepia = s.sepia := rfl
@[simp] theorem State.alertLine_eps : (s.alertLine).eps = s.eps := rfl
@[simp] theorem State.alertLine_agents : (s.alertLine).agents = s.agents := rfl
@[simp] theorem State.alertLine_queues : (s.alertLine).queues = s.queues := rfl
@[simp] theorem State.alertLine_colls : (s.alertLine).colls = s.colls := rfl
@[simp] theorem State.alertLine_hcnt : (s.alertLine).hcnt = s.hcnt := rfl
@[simp] theorem State.alertLine_disp : (s.alertLine).disp = s.disp := rfl
@[simp] theorem State.alertLine_cores : (s.alertLine).cores = s.cores := rfl
@[simp] theorem State.alertLine_parts : (s.alertLine).parts = s.parts := rfl
@[simp] theorem State.alertLine_fns : (s.alertLine).fns = s.fns := rfl
@[simp] theorem State.alertLine_mgmt : (s.alertLine).mgmt = s.mgmt := rfl
@[simp] theorem State.alertLine_trace : (s.alertLine).trace = s.trace := rfl
@[simp] theorem State.alertLine_faults : (s.alertLine).faults = s.faults := rfl
@[simp] theorem State.alertLine_sec : (s.alertLine).sec = s.sec := rfl
@[simp] theorem State.alertLine_power : (s.alertLine).power = s.power := rfl
@[simp] theorem State.alertLine_thermal : (s.alertLine).thermal = s.thermal := rfl
@[simp] theorem State.alertLine_taps : (s.alertLine).taps = s.taps := rfl
@[simp] theorem State.alertLine_fw : (s.alertLine).fw = s.fw := rfl
@[simp] theorem State.alertLine_stored : (s.alertLine).stored = s.stored := rfl
@[simp] theorem State.alertLine_free : (s.alertLine).free = s.free := rfl
@[simp] theorem State.alertLine_out : (s.alertLine).out = s.out := rfl

@[simp] theorem State.setReplay_pending (n : Nat) (f : Replay → Replay) : (s.setReplay n f).pending = s.pending := rfl
@[simp] theorem State.setReplay_mem (n : Nat) (f : Replay → Replay) : (s.setReplay n f).mem = s.mem := rfl
@[simp] theorem State.setReplay_hostMem (n : Nat) (f : Replay → Replay) : (s.setReplay n f).hostMem = s.hostMem := rfl
@[simp] theorem State.setReplay_od (n : Nat) (f : Replay → Replay) : (s.setReplay n f).od = s.od := rfl
@[simp] theorem State.setReplay_clk (n : Nat) (f : Replay → Replay) : (s.setReplay n f).clk = s.clk := rfl
@[simp] theorem State.setReplay_links (n : Nat) (f : Replay → Replay) : (s.setReplay n f).links = s.links := rfl
@[simp] theorem State.setReplay_fabric (n : Nat) (f : Replay → Replay) : (s.setReplay n f).fabric = s.fabric := rfl
@[simp] theorem State.setReplay_ftime (n : Nat) (f : Replay → Replay) : (s.setReplay n f).ftime = s.ftime := rfl
@[simp] theorem State.setReplay_memory (n : Nat) (f : Replay → Replay) : (s.setReplay n f).memory = s.memory := rfl
@[simp] theorem State.setReplay_sepia (n : Nat) (f : Replay → Replay) : (s.setReplay n f).sepia = s.sepia := rfl
@[simp] theorem State.setReplay_eps (n : Nat) (f : Replay → Replay) : (s.setReplay n f).eps = s.eps := rfl
@[simp] theorem State.setReplay_agents (n : Nat) (f : Replay → Replay) : (s.setReplay n f).agents = s.agents := rfl
@[simp] theorem State.setReplay_queues (n : Nat) (f : Replay → Replay) : (s.setReplay n f).queues = s.queues := rfl
@[simp] theorem State.setReplay_colls (n : Nat) (f : Replay → Replay) : (s.setReplay n f).colls = s.colls := rfl
@[simp] theorem State.setReplay_hcnt (n : Nat) (f : Replay → Replay) : (s.setReplay n f).hcnt = s.hcnt := rfl
@[simp] theorem State.setReplay_disp (n : Nat) (f : Replay → Replay) : (s.setReplay n f).disp = s.disp := rfl
@[simp] theorem State.setReplay_cores (n : Nat) (f : Replay → Replay) : (s.setReplay n f).cores = s.cores := rfl
@[simp] theorem State.setReplay_parts (n : Nat) (f : Replay → Replay) : (s.setReplay n f).parts = s.parts := rfl
@[simp] theorem State.setReplay_fns (n : Nat) (f : Replay → Replay) : (s.setReplay n f).fns = s.fns := rfl
@[simp] theorem State.setReplay_mgmt (n : Nat) (f : Replay → Replay) : (s.setReplay n f).mgmt = s.mgmt := rfl
@[simp] theorem State.setReplay_trace (n : Nat) (f : Replay → Replay) : (s.setReplay n f).trace = s.trace := rfl
@[simp] theorem State.setReplay_sec (n : Nat) (f : Replay → Replay) : (s.setReplay n f).sec = s.sec := rfl
@[simp] theorem State.setReplay_power (n : Nat) (f : Replay → Replay) : (s.setReplay n f).power = s.power := rfl
@[simp] theorem State.setReplay_thermal (n : Nat) (f : Replay → Replay) : (s.setReplay n f).thermal = s.thermal := rfl
@[simp] theorem State.setReplay_taps (n : Nat) (f : Replay → Replay) : (s.setReplay n f).taps = s.taps := rfl
@[simp] theorem State.setReplay_fw (n : Nat) (f : Replay → Replay) : (s.setReplay n f).fw = s.fw := rfl
@[simp] theorem State.setReplay_life (n : Nat) (f : Replay → Replay) : (s.setReplay n f).life = s.life := rfl
@[simp] theorem State.setReplay_stored (n : Nat) (f : Replay → Replay) : (s.setReplay n f).stored = s.stored := rfl
@[simp] theorem State.setReplay_free (n : Nat) (f : Replay → Replay) : (s.setReplay n f).free = s.free := rfl
@[simp] theorem State.setReplay_out (n : Nat) (f : Replay → Replay) : (s.setReplay n f).out = s.out := rfl

@[simp] theorem State.updCmd_pending (i : Nat) (f : SCmd → SCmd) : (s.updCmd i f).pending = s.pending := rfl
@[simp] theorem State.updCmd_mem (i : Nat) (f : SCmd → SCmd) : (s.updCmd i f).mem = s.mem := rfl
@[simp] theorem State.updCmd_hostMem (i : Nat) (f : SCmd → SCmd) : (s.updCmd i f).hostMem = s.hostMem := rfl
@[simp] theorem State.updCmd_od (i : Nat) (f : SCmd → SCmd) : (s.updCmd i f).od = s.od := rfl
@[simp] theorem State.updCmd_clk (i : Nat) (f : SCmd → SCmd) : (s.updCmd i f).clk = s.clk := rfl
@[simp] theorem State.updCmd_links (i : Nat) (f : SCmd → SCmd) : (s.updCmd i f).links = s.links := rfl
@[simp] theorem State.updCmd_fabric (i : Nat) (f : SCmd → SCmd) : (s.updCmd i f).fabric = s.fabric := rfl
@[simp] theorem State.updCmd_ftime (i : Nat) (f : SCmd → SCmd) : (s.updCmd i f).ftime = s.ftime := rfl
@[simp] theorem State.updCmd_memory (i : Nat) (f : SCmd → SCmd) : (s.updCmd i f).memory = s.memory := rfl
@[simp] theorem State.updCmd_eps (i : Nat) (f : SCmd → SCmd) : (s.updCmd i f).eps = s.eps := rfl
@[simp] theorem State.updCmd_agents (i : Nat) (f : SCmd → SCmd) : (s.updCmd i f).agents = s.agents := rfl
@[simp] theorem State.updCmd_queues (i : Nat) (f : SCmd → SCmd) : (s.updCmd i f).queues = s.queues := rfl
@[simp] theorem State.updCmd_colls (i : Nat) (f : SCmd → SCmd) : (s.updCmd i f).colls = s.colls := rfl
@[simp] theorem State.updCmd_hcnt (i : Nat) (f : SCmd → SCmd) : (s.updCmd i f).hcnt = s.hcnt := rfl
@[simp] theorem State.updCmd_disp (i : Nat) (f : SCmd → SCmd) : (s.updCmd i f).disp = s.disp := rfl
@[simp] theorem State.updCmd_cores (i : Nat) (f : SCmd → SCmd) : (s.updCmd i f).cores = s.cores := rfl
@[simp] theorem State.updCmd_parts (i : Nat) (f : SCmd → SCmd) : (s.updCmd i f).parts = s.parts := rfl
@[simp] theorem State.updCmd_fns (i : Nat) (f : SCmd → SCmd) : (s.updCmd i f).fns = s.fns := rfl
@[simp] theorem State.updCmd_mgmt (i : Nat) (f : SCmd → SCmd) : (s.updCmd i f).mgmt = s.mgmt := rfl
@[simp] theorem State.updCmd_trace (i : Nat) (f : SCmd → SCmd) : (s.updCmd i f).trace = s.trace := rfl
@[simp] theorem State.updCmd_faults (i : Nat) (f : SCmd → SCmd) : (s.updCmd i f).faults = s.faults := rfl
@[simp] theorem State.updCmd_sec (i : Nat) (f : SCmd → SCmd) : (s.updCmd i f).sec = s.sec := rfl
@[simp] theorem State.updCmd_power (i : Nat) (f : SCmd → SCmd) : (s.updCmd i f).power = s.power := rfl
@[simp] theorem State.updCmd_thermal (i : Nat) (f : SCmd → SCmd) : (s.updCmd i f).thermal = s.thermal := rfl
@[simp] theorem State.updCmd_taps (i : Nat) (f : SCmd → SCmd) : (s.updCmd i f).taps = s.taps := rfl
@[simp] theorem State.updCmd_fw (i : Nat) (f : SCmd → SCmd) : (s.updCmd i f).fw = s.fw := rfl
@[simp] theorem State.updCmd_life (i : Nat) (f : SCmd → SCmd) : (s.updCmd i f).life = s.life := rfl
@[simp] theorem State.updCmd_stored (i : Nat) (f : SCmd → SCmd) : (s.updCmd i f).stored = s.stored := rfl
@[simp] theorem State.updCmd_free (i : Nat) (f : SCmd → SCmd) : (s.updCmd i f).free = s.free := rfl
@[simp] theorem State.updCmd_out (i : Nat) (f : SCmd → SCmd) : (s.updCmd i f).out = s.out := rfl

end Sys2Proof.Machine
end

