-- ==== Sys2Proof/Laws/Cores.lean ====
section
/-! SUPPORT. What the shared operations of a core's control do: issue, the end of an instruction in line or at an address, a write of
a scalar register, a pulse to a crossing, the next ready context. -/
open Sys2Proof Sys2Proof.Machine
namespace Sys2Proof.Machine

/-- What a safe point leaves waiting: nothing of its own element, and every other element's value. -/
theorem odPending_odApply (s : State) (i k j m : Nat) :
    (s.odApply i k).odPending j m = if odKey j m = odKey i k then none else s.odPending j m := by
  unfold State.odApply
  split
  · rename_i h
    split
    · rename_i e
      unfold State.odPending at *
      rw [e, h]
    · rfl
  · simp only [State.odPending, tfind_tdel]

/-- What a safe point puts in force: its own element's waiting value, and nothing of any other element. -/
theorem odGet_odApply_other (s : State) {i k j m : Nat} (h : odKey j m ≠ odKey i k) : (s.odApply i k).odGet j m = s.odGet j m := by
  unfold State.odApply
  split
  · rfl
  · exact State.odGet_odSet_other _ _ h

/-- The value that a block uses at its safe point depends on the value in force and the one that waits. -/
theorem odLive_congr {s t : State} {i k : Nat} (h : t.odPending i k = s.odPending i k) (g : t.odGet i k = s.odGet i k) :
    t.odLive i k = s.odLive i k := by
  have e : ∀ u : State, u.odLive i k = ((u.odPending i k).getD (u.odGet i k)).toNat := by
    intro u
    unfold State.odLive State.odApply State.odNum
    split
    · rename_i h; rw [h]; rfl
    · rename_i v h
      rw [h]
      exact congrArg OdVal.toNat (State.odGet_odSet_same _ _ _ _)
  rw [e, e, h, g]

theorem odLive_odApply (s : State) (i k : Nat) : (s.odApply i k).odLive i k = s.odLive i k := by
  have e : (s.odApply i k).odPending i k = none := by rw [odPending_odApply]; simp
  have h : ∀ t : State, t.odPending i k = none → t.odApply i k = t := by
    intro t ht; unfold State.odApply; rw [ht]
  show ((s.odApply i k).odApply i k).odNum i k = _
  rw [h _ e]; rfl

theorem onlyCores_refl (s : State) : s.OnlyCores s := ⟨rfl, fun _ _ _ _ _ => rfl, fun _ _ _ _ => rfl, rfl⟩

/-- The destination pulse of a crossing other than the two with an interrupt behind them changes nothing more. -/
theorem landed_none (s : State) {i : Nat} (k : Nat) (h4 : i ≠ 4) (h10 : i ≠ 10) : s.landed i k = s := by
  unfold State.landed
  rw [if_neg h4, if_neg h10]

/-- A pulse to a crossing with no interrupt behind it changes the event crossings and merge counters only, and no core. -/
theorem pulse_spec (s : State) (i k : Nat) (hi : i < 256) (h4 : i ≠ 4) (h10 : i ≠ 10) :
    s.OnlyCores (s.pulse i k) ∧ (s.pulse i k).cores = s.cores := by
  unfold State.pulse
  simp only [landed_none _ k h4 h10]
  split
  · exact ⟨⟨rfl, fun _ _ _ _ _ => rfl, fun _ _ _ _ => rfl, odLive_congr rfl rfl⟩, rfl⟩
  · split
    · exact ⟨⟨rfl, fun _ _ _ _ _ => rfl, fun _ _ _ _ => rfl, odLive_congr rfl rfl⟩, rfl⟩
    · have g : ∀ a j, j < 256 → a ≠ 0x7820 → (s.odInc 0x7820 i).odGet a j = s.odGet a j := by
        intro a j hj ha
        unfold State.odInc State.odAdd State.odSetN
        exact State.odGet_odSet_other _ _ (by unfold odKey; omega)
      exact ⟨⟨rfl, fun a j hj ha _ => g a j hj ha, fun _ _ _ _ => rfl, odLive_congr rfl (g _ _ (by omega) (by omega))⟩, rfl⟩

theorem onlyCores_setCore {s t : State} (h : s.OnlyCores t) (n : Nat) (c : Core) : s.OnlyCores (t.setCore n c) := by
  refine ⟨?_, fun i j hj hi hk => h.2.1 i j hj hi hk, fun i j hj hi => h.2.2.1 i j hj hi, (odLive_congr (s := t) (t := t.setCore n c) rfl rfl).trans h.2.2.2⟩
  have := h.1
  conv_lhs => rw [this]
  rfl

theorem onlyCores_trans {s t u : State} (h : s.OnlyCores t) (g : t.OnlyCores u) : s.OnlyCores u := by
  refine ⟨?_, fun i j hj hi hk => (g.2.1 i j hj hi hk).trans (h.2.1 i j hj hi hk),
    fun i j hj hi => (g.2.2.1 i j hj hi).trans (h.2.2.1 i j hj hi), g.2.2.2.trans h.2.2.2⟩
  have a := h.1; have b := g.1
  rw [b, a]

/-- The safe point of OD 0x7020. -/
theorem onlyCores_odApply (s : State) : s.OnlyCores (s.odApply 0x7020 0) := by
  refine ⟨?_, fun i j hj hi hk => odGet_odApply_other s (by unfold odKey; omega), fun i j hj hi => ?_, odLive_odApply s _ _⟩
  · unfold State.odApply
    split <;> rfl
  · rw [odPending_odApply, if_neg (by unfold odKey; omega)]

/-- An instruction that `State.Issues` names runs its meaning and answers a next state. -/
theorem issue_ok {s : State} {n : Fin 288} {grp op k : Nat} {w : Word} (h : s.Issues n grp op k w) (f : Nat → Word → State) :
    issue s n grp op f = .next (f k w) := by
  obtain ⟨h1, h2, h3, h4, h5⟩ := h
  simp [issue, h1, h2, h3, h4, h5]

theorem running_st {c : Core} {k : Nat} (h : c.running = some k) : (c.slot k).st = .running := by
  unfold Core.running at h
  have := List.find?_some h
  simpa using this

theorem fetch_running {s : State} {n k : Nat} {w : Word} (h : s.fetch n = some (k, w)) : ((s.core n).slot k).st = .running := by
  unfold State.fetch at h
  split at h
  · cases h
  · rename_i k' hk
    simp only [Option.some.injEq, Prod.mk.injEq] at h
    obtain ⟨rfl, _⟩ := h
    exact running_st hk

/-- No pulse, and no progress, changes a core. -/
@[simp] theorem cores_msix (s : State) (i k : Nat) : (s.msix i k).cores = s.cores := by
  unfold State.msix
  split <;> rfl
@[simp] theorem cores_landed (s : State) (i k : Nat) : (s.landed i k).cores = s.cores := by
  unfold State.landed State.fnEvent
  repeat' (first | rfl | rw [cores_msix] | split)
@[simp] theorem cores_odApply (s : State) (i k : Nat) : (s.odApply i k).cores = s.cores := by
  unfold State.odApply
  split <;> rfl
@[simp] theorem cores_pulse (s : State) (i k : Nat) : (s.pulse i k).cores = s.cores := by
  unfold State.pulse State.odInc State.odAdd State.odSetN
  simp only []
  split
  · rw [cores_landed]
  · split <;> rfl
@[simp] theorem core_pulse (s : State) (i k n : Nat) : (s.pulse i k).core n = s.core n := by
  unfold State.core; rw [cores_pulse]
@[simp] theorem core_progressed (s : State) (i n : Nat) : (s.progressed i).core n = s.core n := by
  unfold State.core State.progressed; rw [cores_odApply, cores_pulse]

/-- The progress of a core changes nothing but what `State.OnlyCores` names, and no core. -/
theorem progressed_spec (s : State) (n : Nat) : s.OnlyCores (s.progressed n) :=
  onlyCores_trans (pulse_spec s 13 n (by omega) (by omega) (by omega)).1 (onlyCores_odApply _)

/-- A transfer to an address inside the region moves the context there and writes no scalar register. -/
theorem goto_in (s : State) (n : Fin 288) (k : Nat) (w pc : Word) (h : pc.toNat < ((s.core n).slot k).launch.len) :
    s.MovedTo (s.goto n k w pc) n k pc.toNat (s.core n) ∧ s.SameS (s.goto n k w pc) n k := by
  have e : s.goto n k w pc = (s.setCore n (((s.core n).addAct 0 1).withSlot k { (s.core n).slot k with pc := pc.toNat })).progressed n := by
    exact if_pos h
  rw [e]
  refine ⟨⟨⟨⟨onlyCores_trans (onlyCores_setCore (onlyCores_refl s) _ _) (progressed_spec _ n), fun m hm => ?_⟩, ?_, fun j hj => ?_⟩, ?_⟩, fun j => ?_⟩
  · rw [core_progressed, State.core_setCore, if_neg hm]
  · simp only [core_progressed, State.core_setCore_same]; rfl
  · simp only [core_progressed, State.core_setCore_same, Core.slot_withSlot, if_neg hj, Core.slot_addAct]
  · simp only [core_progressed, State.core_setCore_same, Core.slot_withSlot_same]
  · simp only [State.sreg, core_progressed, State.core_setCore_same, Core.slot_withSlot_same]; rfl

/-- A transfer outside the region faults the context with code 2 and the address (R86, R98). -/
theorem goto_out (s : State) (n : Fin 288) (k : Nat) (w pc : Word) (hr : ((s.core n).slot k).st = .running)
    (h : ((s.core n).slot k).launch.len ≤ pc.toNat) :
    s.Faulted (s.goto n k w pc) n k 2 (fGrp w) (fOp w) (pc.toNat % 2 ^ 44) ∧ s.SameS (s.goto n k w pc) n k := by
  have e : s.goto n k w pc = (s.setCore n (((s.core n).addAct 0 1).withSlot k { (s.core n).slot k with st := .draining, wait := .nothing, faultCode := 2, faultGrp := fGrp w, faultOp := fOp w, faultInfo := pc.toNat % 2 ^ 44 })).progressed n := by
    refine (if_neg (by simpa using h)).trans ?_
    unfold Core.fault
    simp [Core.slot_addAct, hr]
  rw [e]
  refine ⟨⟨⟨⟨onlyCores_trans (onlyCores_setCore (onlyCores_refl s) _ _) (progressed_spec _ n), fun m hm => ?_⟩, ?_, fun j hj => ?_⟩, ?_⟩, fun j => ?_⟩
  · rw [core_progressed, State.core_setCore, if_neg hm]
  · simp only [core_progressed, State.core_setCore_same]; rfl
  · simp only [core_progressed, State.core_setCore_same, Core.slot_withSlot, if_neg hj, Core.slot_addAct]
  · simp only [core_progressed, State.core_setCore_same, Core.slot_withSlot_same]
  · simp only [State.sreg, core_progressed, State.core_setCore_same, Core.slot_withSlot_same]; rfl

theorem inLine_pc {s : State} {n : Fin 288} {k : Nat} (h : s.InLine n k) :
    (s.pcNext n k).toNat = ((s.core n).slot k).pc + 1 := by
  obtain ⟨h1, h2⟩ := h
  unfold State.pcNext
  simp only [BitVec.toNat_ofNat]
  omega

/-- An instruction in line leaves the context at the next instruction. -/
theorem retire_in (s : State) (n : Fin 288) (k : Nat) (w : Word) (h : s.InLine n k) :
    s.Moved (s.retire n k w) n k (((s.core n).slot k).pc + 1) ∧ s.SameS (s.retire n k w) n k := by
  unfold State.retire
  rw [← inLine_pc h]
  exact goto_in s n k w _ (by rw [inLine_pc h]; exact h.1)

/-- A write of a scalar register before the context moves. -/
theorem putS_moved {s t : State} {n : Fin 288} {k r pc : Nat} {v : Word} (h : (s.putS n k r v).MovedTo t n k pc ((s.putS n k r v).core n)) :
    s.Moved t n k pc := by
  obtain ⟨⟨⟨ho, hc⟩, hn, hs⟩, hk⟩ := h
  have e : (s.putS n k r v).core n = (s.core n).withSlot k (((s.core n).slot k).setS r v) := by simp [State.putS]
  refine ⟨⟨⟨onlyCores_trans (onlyCores_setCore (onlyCores_refl s) _ _) ho, fun m hm => ?_⟩, ?_, fun j hj => ?_⟩, ?_⟩
  · rw [hc m hm]; simp [State.putS, State.core_setCore, hm]
  · rw [hn, e]; rfl
  · rw [hs j hj, e, Core.slot_withSlot, if_neg hj]
  · rw [hk, e, Core.slot_withSlot_same]
    unfold Ctx.setS
    split <;> rfl

/-- What a write of a scalar register leaves in every register; register 0 stays 0. -/
theorem sreg_putS (s : State) (n : Fin 288) (k r : Nat) (v : Word) : s.WroteS (s.putS n k r v) n k r v := by
  intro j
  simp only [State.sreg, State.putS, State.core_setCore_same, Core.slot_withSlot_same]
  unfold Ctx.setS Ctx.s
  by_cases hj : j = 0
  · subst hj; simp
  · by_cases hr : r = 0
    · subst hr; simp [hj]
    · simp only [hr, hj, if_false, ne_eq, not_false_eq_true, and_true]
      rw [tget_tset]

theorem inLine_putS {s : State} {n : Fin 288} {k : Nat} (r : Nat) (v : Word) (h : s.InLine n k) : (s.putS n k r v).InLine n k := by
  unfold State.InLine at *
  have : ∀ x : Ctx, (x.setS r v).pc = x.pc ∧ (x.setS r v).launch = x.launch := by
    intro x; unfold Ctx.setS; split <;> exact ⟨rfl, rfl⟩
  simp only [State.putS, State.core_setCore_same, Core.slot_withSlot_same, this]
  exact h

/-- A write of a scalar register before the context faults. -/
theorem putS_faulted {s t : State} {n : Fin 288} {k r a b c d : Nat} {v : Word} (h : (s.putS n k r v).Faulted t n k a b c d) :
    s.Faulted t n k a b c d := by
  obtain ⟨⟨⟨ho, hc⟩, hn, hs⟩, hk⟩ := h
  have e : (s.putS n k r v).core n = (s.core n).withSlot k (((s.core n).slot k).setS r v) := by simp [State.putS]
  refine ⟨⟨⟨onlyCores_trans (onlyCores_setCore (onlyCores_refl s) _ _) ho, fun m hm => ?_⟩, ?_, fun j hj => ?_⟩, ?_⟩
  · rw [hc m hm]; simp [State.putS, State.core_setCore, hm]
  · rw [hn, e]; rfl
  · rw [hs j hj, e, Core.slot_withSlot, if_neg hj]
  · rw [hk, e, Core.slot_withSlot_same]
    unfold Ctx.setS
    split <;> rfl

theorem slot_putS (s : State) (n : Fin 288) (k r : Nat) (v : Word) : ((s.putS n k r v).core n).slot k = ((s.core n).slot k).setS r v := by
  simp [State.putS]

theorem setS_keeps (x : Ctx) (r : Nat) (v : Word) : (x.setS r v).pc = x.pc ∧ (x.setS r v).launch = x.launch ∧ (x.setS r v).st = x.st := by
  unfold Ctx.setS; split <;> exact ⟨rfl, rfl, rfl⟩

theorem running_none {c : Core} (h : ∀ j, (c.slot j).st ≠ .running) : c.running = none := by
  unfold Core.running
  rw [List.find?_eq_none]
  intro x _
  simpa using h x

/-- The next ready slot depends on the current slot and on which slots are ready. -/
theorem nextReady_congr {c d : Core} (hc : c.cur = d.cur) (h : ∀ j, (c.slot j).st = .ready ↔ (d.slot j).st = .ready) :
    c.nextReady = d.nextReady := by
  unfold Core.nextReady
  rw [hc]
  congr 1
  funext k
  have := h k
  by_cases h1 : (c.slot k).st = .ready
  · simp [h1, this.1 h1]
  · simp [h1, mt this.2 h1]

end Sys2Proof.Machine
end

