-- ==== Sys2Proof/Laws/Fec.lean ====
section
/-! SUPPORT. What the code and the lanes do where nothing is in error: a codeword decodes to itself, lanes carry every symbol back to its
place, and a receiver sees the two codewords that were sent. -/
namespace Sys2Proof.Machine

theorem getAt_eq {α : Type} (d : α) (l : List α) (i : Nat) : getAt d l i = l.getD i d := by
  induction l generalizing i with
  | nil => rfl
  | cons a l ih => cases i with
    | zero => rfl
    | succ i => simp [getAt, ih]

/-- Of a list of pairs laid end to end, element 2i is the first of pair i and element 2i + 1 the second. -/
theorem getAt_pairs (F G : Nat → Nat) (l : List Nat) (i o : Nat) (ho : o < 2) (hi : i < l.length) :
    getAt 0 (l.flatMap (fun t => [F t, G t])) (2 * i + o) = if o = 0 then F l[i] else G l[i] := by
  induction l generalizing i with
  | nil => simp at hi
  | cons a l ih =>
    cases i with
    | zero => rcases (by omega : o = 0 ∨ o = 1) with rfl | rfl <;> simp [getAt]
    | succ i =>
      have h : 2 * (i + 1) + o = 2 * i + o + 2 := by omega
      simp only [List.flatMap_cons, List.cons_append, List.nil_append, h, getAt, List.getElem_cons_succ]
      exact ih i (by simpa using hi)

/-- The lane of a position is no other position's, in each lane map. -/
theorem findIdx_position (spare half q : Nat) (hh : half ∈ [0, 1, 0xF]) (hs : spare = 0xF ∨ spare ∈ positions half)
    (hq : q < (positions half).length) :
    laneAt spare (getAt 0 (positions half) q) < 9 ∧
    (positions half).findIdx? (fun p => laneAt spare p == laneAt spare (getAt 0 (positions half) q)) = some q := by
  have all : ∀ h ∈ [0, 1, 0xF], ∀ s < 16, (s = 0xF ∨ s ∈ positions h) → ∀ q < (positions h).length,
      laneAt s (getAt 0 (positions h) q) < 9 ∧
      (positions h).findIdx? (fun p => laneAt s p == laneAt s (getAt 0 (positions h) q)) = some q := by decide +kernel
  have bound : ∀ h ∈ [0, 1, 0xF], ∀ p ∈ positions h, p < 16 := by decide +kernel
  refine all half hh spare ?_ hs q hq
  rcases hs with rfl | hs
  · decide
  · exact bound half hh spare hs

/-- Each symbol comes back from the lane that carries it (R237). -/
theorem gather_spread (spare half : Nat) (a b : List Nat) (hh : half ∈ [0, 1, 0xF]) (hs : spare = 0xF ∨ spare ∈ positions half)
    (ha : a.length = 544) (hb : b.length = 544) : gather spare half (spread spare half (a, b)) = (a, b) := by
  have hw : (positions half).length = 4 ∨ (positions half).length = 8 := by
    revert hh; revert half; simp only [List.mem_cons, List.not_mem_nil, or_false]
    rintro h _ (rfl | rfl | rfl) <;> decide
  have key : ∀ o s, o < 2 → s < 544 →
      getAt 0 (getAt [] (spread spare half (a, b)) (laneAt spare (getAt 0 (positions half) (s % (positions half).length))))
        (2 * (s / (positions half).length) + o) = if o = 0 then getAt 0 a s else getAt 0 b s := by
    intro o s ho hs'
    have hq : s % (positions half).length < (positions half).length := Nat.mod_lt _ (by omega)
    obtain ⟨h9, hf⟩ := findIdx_position spare half _ hh hs hq
    have ht : s / (positions half).length < 544 / (positions half).length := by
      rcases hw with h | h <;> rw [h] <;> omega
    have hb' : s / (positions half).length * (positions half).length + s % (positions half).length = s :=
      Nat.div_add_mod' _ _
    rw [getAt_eq [] (spread _ _ _)]
    simp only [spread]
    rw [List.getD_eq_getElem _ _ (by simpa using h9), List.getElem_map, List.getElem_range, hf]
    simp only []
    rw [getAt_pairs _ _ _ _ _ ho (by simpa using ht)]
    simp only [List.getElem_range, hb']
  simp only [gather, Prod.mk.injEq]
  constructor
  · apply List.ext_getElem
    · simp [ha]
    · intro i h1 h2
      have := key 0 i (by omega) (by omega)
      simp only [List.getElem_map, List.getElem_range, this, if_true]
      rw [getAt_eq, List.getD_eq_getElem]
  · apply List.ext_getElem
    · simp [hb]
    · intro i h1 h2
      have := key 1 i (by omega) (by omega)
      simp only [List.getElem_map, List.getElem_range, this, Nat.one_ne_zero, if_false]
      rw [getAt_eq, List.getD_eq_getElem]

theorem length_rsParity (m : List Nat) : (rsParity m).length = 30 := by
  unfold rsParity
  have : ∀ r : List Nat, r.length = 30 → (m.foldl (fun r x =>
      let k := x ^^^ r.headD 0
      (r.drop 1 ++ [0]).zipWith (fun a g => a ^^^ gfMul k g) rsGen) r).length = 30 := by
    induction m with
    | nil => intro r h; exact h
    | cons x m ih => intro r h; rw [List.foldl_cons]; apply ih; simp [h, rsGen]
  exact this _ (by simp)

/-- A codeword that arrives as it was sent decodes to itself, without an error (R236, R238). -/
theorem rsDecode_encode (m : List Nat) (h : m.length = 514) : rsDecode (rsEncode m) = some (rsEncode m, []) := by
  unfold rsDecode rsEncode
  simp [← h]

theorem length_rsEncode (m : List Nat) (h : m.length = 514) : (rsEncode m).length = 544 := by
  unfold rsEncode; simp [h, length_rsParity]

theorem length_message (code seq gen : Nat) (bs : List Byte) : (headSymbols code seq gen ++ symbolsOf bs).length = 514 := by
  simp [headSymbols, symbolsOf]

/-- What a receiver makes of a pair that arrives as it was sent: both codewords, nothing corrected (R236 to R238). -/
theorem pairSeen_lanes (p : FlitPair) (hh : p.half ∈ [0, 1, 0xF]) (hs : p.spare = 0xF ∨ p.spare ∈ positions p.half) :
    pairSeen p.spare p.half p.lanes = ⟨some p.codewords.1, some p.codewords.2, 0, []⟩ := by
  unfold pairSeen FlitPair.lanes
  have h1 := length_message 0xA5 p.seq p.gen (p.flits.flatten.take 640)
  have h2 := length_message 0x5A p.seq p.gen (p.flits.flatten.drop 640)
  simp only [FlitPair.codewords]
  rw [gather_spread _ _ _ _ hh hs (length_rsEncode _ h1) (length_rsEncode _ h2)]
  simp only [rsDecode_encode _ h1, rsDecode_encode _ h2, Option.map_some, Option.getD_some, List.nil_append, List.length_nil,
    List.map_nil]

/-- The bytes that a codeword carries. -/
theorem codeBytes_encode (code seq gen : Nat) (bs : List Byte) :
    codeBytes (rsEncode (headSymbols code seq gen ++ symbolsOf bs)) = bytesOf (symbolsOf bs) := by
  unfold codeBytes rsEncode
  simp [headSymbols, symbolsOf]

end Sys2Proof.Machine
end

