-- ==== Sys2Proof/Laws/Memory.lean ====
section
/-! SUPPORT. The laws of the two byte memories: a read after a write, and the canonical form that every memory operation keeps. -/
namespace Sys2Proof.Machine

/-- A byte inside a write reads as it was written, and every other byte as before. -/
theorem tget_memPut (bs : List Byte) (m : List Host.Cell) (a j : Nat) :
    tget 0 (memPut m a bs) j = if a ≤ j ∧ j < a + bs.length then bs[j - a]?.getD 0 else tget 0 m j := by
  induction bs generalizing m a with
  | nil => simp only [memPut, List.length_nil]; rw [if_neg (by omega)]
  | cons b bs ih =>
    simp only [memPut, ih, tget_tset, List.length_cons]
    by_cases h1 : j = a
    · subst h1
      rw [if_neg (by omega), if_pos rfl, if_pos (by omega)]; simp
    · by_cases h2 : a + 1 ≤ j ∧ j < a + 1 + bs.length
      · rw [if_pos h2, if_pos (by omega)]
        have : j - a = (j - (a + 1)) + 1 := by omega
        rw [this, List.getElem?_cons_succ]
      · rw [if_neg h2, if_neg h1, if_neg (by omega)]

/-- A byte of local memory after a write (R28). -/
theorem State.rd_wr (s : State) (a : Nat) (bs : List Byte) (j : Nat) :
    (s.wr a bs).rd j = if a ≤ j ∧ j < a + bs.length then bs[j - a]?.getD 0 else s.rd j := tget_memPut bs s.mem a j

/-- A byte of host memory after a write. -/
theorem State.hrd_hwr (s : State) (a : Nat) (bs : List Byte) (j : Nat) :
    (s.hwr a bs).hrd j = if a ≤ j ∧ j < a + bs.length then bs[j - a]?.getD 0 else s.hrd j := tget_memPut bs s.hostMem a j

/-- A byte of local memory after a range is set to zero. -/
theorem State.rd_zero (s : State) (lo len j : Nat) :
    (s.zero lo len).rd j = if lo ≤ j ∧ j < lo + len then 0 else s.rd j := by
  unfold State.rd State.zero
  rw [tget_filter (0 : Byte) s.mem (fun c => !(decide (lo ≤ c) && decide (c < lo + len)))]
  by_cases h : lo ≤ j ∧ j < lo + len
  · simp [h.1, h.2]
  · rw [if_neg h, if_pos (by simp; omega)]

theorem Memory.wf_memPut {m : List Host.Cell} (h : Memory.wf m = true) (a : Nat) (bs : List Byte) :
    Memory.wf (memPut m a bs) = true := by
  induction bs generalizing m a with
  | nil => exact h
  | cons b bs ih => exact ih (tcanon_tset (0 : Byte) a b h) (a + 1)

theorem Memory.wf_filter {m : List Host.Cell} (h : Memory.wf m = true) (p : Host.Cell → Bool) :
    Memory.wf (m.filter p) = true := tcanon_filter (0 : Byte) p h

theorem State.wr_wf {s : State} (h : Memory.wf s.mem = true) (a : Nat) (bs : List Byte) :
    Memory.wf (s.wr a bs).mem = true := Memory.wf_memPut h a bs

theorem State.hwr_wf {s : State} (h : Memory.wf s.hostMem = true) (a : Nat) (bs : List Byte) :
    Memory.wf (s.hwr a bs).hostMem = true := Memory.wf_memPut h a bs

theorem State.zero_wf {s : State} (h : Memory.wf s.mem = true) (lo len : Nat) :
    Memory.wf (s.zero lo len).mem = true := Memory.wf_filter h _

end Sys2Proof.Machine
end

