-- ==== Sys2Proof/Laws/Inv.lean ====
section
/-! SUPPORT. The operations that write a memory keep its canonical form and the queue; those of `Laws/Kept.lean` write none. Each law is named
after its operation. -/
set_option linter.all false
namespace Sys2Proof.Machine

variable {p0 : List Instr}

/-- The queue is `p0` and both memories are in their canonical form. -/
def InvK (p0 : List Instr) (k : List Instr × List Host.Cell × List Host.Cell) : Prop :=
  k.1 = p0 ∧ Memory.wf k.2.1 = true ∧ Memory.wf k.2.2 = true

/-- The same of the states that an answer of the model's operations holds. -/
def InvO (p0 : List Instr) : Option State → Prop
  | none => True
  | some t => InvK p0 t.kept
def InvR (p0 : List Instr) : SRes → Prop
  | .ok t => InvK p0 t.kept
  | .wait _ _ => True
  | .fail _ t => InvK p0 t.kept
def InvE (p0 : List Instr) : Except (Nat × Acc) State → Prop
  | .ok t => InvK p0 t.kept
  | .error _ => True
def InvA (p0 : List Instr) (a : Ans) : Prop := InvK p0 a.st.kept ∧ ∀ t, InvK p0 t.kept → InvK p0 (a.after t).kept
def InvOA (p0 : List Instr) : Option Ans → Prop
  | none => True
  | some a => InvA p0 a

@[simp] theorem invO_none : InvO p0 none = True := rfl
@[simp] theorem invO_some (t : State) : InvO p0 (some t) = InvK p0 t.kept := rfl
@[simp] theorem invR_ok (t : State) : InvR p0 (.ok t) = InvK p0 t.kept := rfl
@[simp] theorem invR_wait (p : Nat) (a : Acc) : InvR p0 (.wait p a) = True := rfl
@[simp] theorem invE_ok (t : State) : InvE p0 (.ok t) = InvK p0 t.kept := rfl
@[simp] theorem invE_error (w : Nat × Acc) : InvE p0 (.error w) = True := rfl
@[simp] theorem invR_fail (k : Nat) (t : State) : InvR p0 (.fail k t) = InvK p0 t.kept := rfl
@[simp] theorem invOA_none : InvOA p0 none = True := rfl
@[simp] theorem invOA_some (a : Ans) : InvOA p0 (some a) = InvA p0 a := rfl

/-- The invariant of the model, read off the kept parts. -/
theorem inv_iff (s : State) : s.Inv ↔ InvK s.pending s.kept := by simp [State.Inv, InvK, State.kept]

theorem invA_say {s : State} (h : InvK p0 s.kept) (x : Session) (q : SReq) (st : Nat) (p : Bool) : InvA p0 (s.say x q st p) :=
  ⟨h, fun _ ht => ht⟩
theorem invA_id {s : State} (b : List Byte) (h : InvK p0 s.kept) : InvA p0 ⟨b, s, id⟩ := ⟨h, fun _ ht => ht⟩
theorem invA_ite {c : Prop} [Decidable c] {a b : Ans} (h : InvA p0 a) (g : InvA p0 b) : InvA p0 (if c then a else b) := by
  split <;> assumption
theorem invO_ite {c : Prop} [Decidable c] {a b : Option State} (h : InvO p0 a) (g : InvO p0 b) : InvO p0 (if c then a else b) := by
  split <;> assumption
theorem invR_ite {c : Prop} [Decidable c] {a b : SRes} (h : InvR p0 a) (g : InvR p0 b) : InvR p0 (if c then a else b) := by
  split <;> assumption
theorem invR_bind {r : SRes} {f : State → SRes} (h : InvR p0 r) (g : ∀ t, InvK p0 t.kept → InvR p0 (f t)) : InvR p0 (r.bind f) := by
  cases r with
  | ok t => exact g t h
  | wait p a => exact True.intro
  | fail k t => exact h
theorem invE_ite {c : Prop} [Decidable c] {a b : Except (Nat × Acc) State} (h : InvE p0 a) (g : InvE p0 b) : InvE p0 (if c then a else b) := by
  split <;> assumption
theorem orHeld_inv {s : State} {r : Except (Nat × Acc) State} (hk : InvK p0 s.kept) (h : InvE p0 r) : InvK p0 (s.orHeld r).kept := by
  unfold State.orHeld
  split
  · exact h
  · rw [State.noteAcc_kept]; exact hk
theorem invOA_ite {c : Prop} [Decidable c] {a b : Option Ans} (h : InvOA p0 a) (g : InvOA p0 b) : InvOA p0 (if c then a else b) := by
  split <;> assumption

theorem inv_of (t : State) (h0 : t.pending = p0) (h1 : Memory.wf t.mem = true) (h2 : Memory.wf t.hostMem = true) :
    InvK p0 t.kept := ⟨h0, h1, h2⟩


theorem inv_foldl {α : Type} {f : State → α → State} {l : List α} {x : State}
    (h : ∀ t a, InvK p0 t.kept → InvK p0 (f t a).kept) (h0 : InvK p0 x.kept) : InvK p0 (l.foldl f x).kept := by
  induction l generalizing x with
  | nil => exact h0
  | cons a l ih => exact ih (h x a h0)

theorem State.resetBase_inv (old : State) (run : ResetRun) (hk : InvK p0 old.kept) :
    InvK p0 (State.resetBase old run).kept := by
  exact ⟨hk.1, rfl, hk.2.2⟩

theorem State.wr_inv (s : State) (a : Nat) (bs : List Byte) (hk : InvK p0 s.kept) :
    InvK p0 (State.wr s a bs).kept := by
  exact ⟨hk.1, Memory.wf_memPut hk.2.1 _ _, hk.2.2⟩

theorem State.logEntry_inv (s : State) (e : LEntry) (hk : InvK p0 s.kept) :
    InvK p0 (State.logEntry s e).kept := by
  unfold State.logEntry
  repeat' (first | exact True.intro | with_reducible exact hk | with_reducible assumption | simp only [↓kept_with, ↓kept_ite, ite_self, ↓invO_none, ↓invO_some, ↓invR_ok, ↓invR_wait, ↓invR_fail, ↓invE_ok, ↓invE_error, ↓invOA_none, ↓invOA_some] | with_reducible apply invA_say | with_reducible apply invA_id | with_reducible apply invA_ite | with_reducible apply invO_ite | with_reducible apply invR_ite | with_reducible apply invE_ite | with_reducible apply State.wr_inv | with_reducible refine inv_foldl (fun _ _ _ => ?_) ?_ | split)

theorem State.sectorPut_inv (s : State) (a : Nat) (bs : List Byte) (hk : InvK p0 s.kept) :
    InvK p0 (State.sectorPut s a bs).kept := by
  unfold State.sectorPut
  repeat' (first | exact True.intro | with_reducible exact hk | with_reducible assumption | simp only [↓kept_with, ↓kept_ite, ite_self, ↓invO_none, ↓invO_some, ↓invR_ok, ↓invR_wait, ↓invR_fail, ↓invE_ok, ↓invE_error, ↓invOA_none, ↓invOA_some, ↓State.showLedger_kept] | with_reducible apply invA_say | with_reducible apply invA_id | with_reducible apply invA_ite | with_reducible apply invO_ite | with_reducible apply invR_ite | with_reducible apply invE_ite | with_reducible apply State.logEntry_inv | with_reducible apply State.wr_inv | with_reducible refine inv_foldl (fun _ _ _ => ?_) ?_ | split)

theorem State.hbmPut_inv (s : State) (a : Nat) (bs : List Byte) (hk : InvK p0 s.kept) :
    InvK p0 (State.hbmPut s a bs).kept := by
  unfold State.hbmPut
  repeat' (first | exact True.intro | with_reducible exact hk | with_reducible assumption | simp only [↓kept_with, ↓kept_ite, ite_self, ↓invO_none, ↓invO_some, ↓invR_ok, ↓invR_wait, ↓invR_fail, ↓invE_ok, ↓invE_error, ↓invOA_none, ↓invOA_some] | with_reducible apply invA_say | with_reducible apply invA_id | with_reducible apply invA_ite | with_reducible apply invO_ite | with_reducible apply invR_ite | with_reducible apply invE_ite | with_reducible apply State.sectorPut_inv | with_reducible refine inv_foldl (fun _ _ _ => ?_) ?_ | split)

theorem State.ringApply_inv (s : State) (k : Nat) (hk : InvK p0 s.kept) :
    InvK p0 (State.ringApply s k).kept := by
  unfold State.ringApply
  repeat' (first | exact True.intro | with_reducible exact hk | with_reducible assumption | simp only [↓kept_with, ↓kept_ite, ite_self, ↓invO_none, ↓invO_some, ↓invR_ok, ↓invR_wait, ↓invR_fail, ↓invE_ok, ↓invE_error, ↓invOA_none, ↓invOA_some, ↓State.odApply_kept, ↓State.patternCut_kept, ↓State.setHdr_kept] | with_reducible apply invA_say | with_reducible apply invA_id | with_reducible apply invA_ite | with_reducible apply invO_ite | with_reducible apply invR_ite | with_reducible apply invE_ite | with_reducible apply State.hbmPut_inv | with_reducible refine inv_foldl (fun _ _ _ => ?_) ?_ | split)

theorem State.sinkApply_inv (s : State) (hk : InvK p0 s.kept) :
    InvK p0 (State.sinkApply s).kept := by
  unfold State.sinkApply
  repeat' (first | exact True.intro | with_reducible exact hk | with_reducible assumption | simp only [↓kept_with, ↓kept_ite, ite_self, ↓invO_none, ↓invO_some, ↓invR_ok, ↓invR_wait, ↓invR_fail, ↓invE_ok, ↓invE_error, ↓invOA_none, ↓invOA_some, ↓State.odApply_kept] | with_reducible apply invA_say | with_reducible apply invA_id | with_reducible apply invA_ite | with_reducible apply invO_ite | with_reducible apply invR_ite | with_reducible apply invE_ite | with_reducible apply State.ringApply_inv | with_reducible refine inv_foldl (fun _ _ _ => ?_) ?_ | split)

theorem State.odModuleReset_inv (s : State) (hk : InvK p0 s.kept) :
    InvK p0 (State.odModuleReset s).kept := by
  unfold State.odModuleReset
  repeat' (first | exact True.intro | with_reducible exact hk | with_reducible assumption | simp only [↓kept_with, ↓kept_ite, ite_self, ↓invO_none, ↓invO_some, ↓invR_ok, ↓invR_wait, ↓invR_fail, ↓invE_ok, ↓invE_error, ↓invOA_none, ↓invOA_some, ↓State.odApply_kept] | with_reducible apply invA_say | with_reducible apply invA_id | with_reducible apply invA_ite | with_reducible apply invO_ite | with_reducible apply invR_ite | with_reducible apply invE_ite | with_reducible apply State.sinkApply_inv | with_reducible refine inv_foldl (fun _ _ _ => ?_) ?_ | split)

theorem State.resetOpens_inv (s : State) (run : ResetRun) (hk : InvK p0 s.kept) :
    InvK p0 (State.resetOpens s run).kept := by
  unfold State.resetOpens
  repeat' (first | exact True.intro | with_reducible exact hk | with_reducible assumption | simp only [↓kept_with, ↓kept_ite, ite_self, ↓invO_none, ↓invO_some, ↓invR_ok, ↓invR_wait, ↓invR_fail, ↓invE_ok, ↓invE_error, ↓invOA_none, ↓invOA_some, ↓State.lilac_kept, ↓State.linkOff_kept, ↓State.takeOver_kept, ↓State.testAbandoned_kept] | with_reducible apply invA_say | with_reducible apply invA_id | with_reducible apply invA_ite | with_reducible apply invO_ite | with_reducible apply invR_ite | with_reducible apply invE_ite | with_reducible apply State.odModuleReset_inv | with_reducible refine inv_foldl (fun _ _ _ => ?_) ?_ | split)

theorem State.moduleReset_inv (s : State) (fault : Bool) (held : Bool) (hk : InvK p0 s.kept) :
    InvK p0 (State.moduleReset s fault held).kept := by
  unfold State.moduleReset
  repeat' (first | exact True.intro | with_reducible exact hk | with_reducible assumption | simp only [↓kept_with, ↓kept_ite, ite_self, ↓invO_none, ↓invO_some, ↓invR_ok, ↓invR_wait, ↓invR_fail, ↓invE_ok, ↓invE_error, ↓invOA_none, ↓invOA_some, ↓State.alertSet_kept, ↓State.amber_kept, ↓State.bankAmber_kept, ↓State.bypassAmber_kept, ↓State.clusterAmber_kept, ↓State.enter_kept, ↓State.odSetN_kept, ↓State.sealAmber_kept] | with_reducible apply invA_say | with_reducible apply invA_id | with_reducible apply invA_ite | with_reducible apply invO_ite | with_reducible apply invR_ite | with_reducible apply invE_ite | with_reducible apply State.resetBase_inv | with_reducible apply State.resetOpens_inv | with_reducible refine inv_foldl (fun _ _ _ => ?_) ?_ | split)

theorem State.bankZero_inv (s : State) (n : Nat) (b : Nat) (hk : InvK p0 s.kept) :
    InvK p0 (State.bankZero s n b).kept := by
  exact ⟨hk.1, Memory.wf_filter hk.2.1 _, hk.2.2⟩

theorem State.bankFree_inv (s : State) (n : Nat) (b : Nat) (hk : InvK p0 s.kept) :
    InvK p0 (State.bankFree s n b).kept := by
  unfold State.bankFree
  repeat' (first | exact True.intro | with_reducible exact hk | with_reducible assumption | simp only [↓kept_with, ↓kept_ite, ite_self, ↓invO_none, ↓invO_some, ↓invR_ok, ↓invR_wait, ↓invR_fail, ↓invE_ok, ↓invE_error, ↓invOA_none, ↓invOA_some, ↓State.freeVal_kept] | with_reducible apply invA_say | with_reducible apply invA_id | with_reducible apply invA_ite | with_reducible apply invO_ite | with_reducible apply invR_ite | with_reducible apply invE_ite | with_reducible apply State.wr_inv | with_reducible refine inv_foldl (fun _ _ _ => ?_) ?_ | split)

theorem State.marchAbandon_inv (s : State) (n : Nat) (hk : InvK p0 s.kept) :
    InvK p0 (State.marchAbandon s n).kept := by
  unfold State.marchAbandon
  repeat' (first | exact True.intro | with_reducible exact hk | with_reducible assumption | simp only [↓kept_with, ↓kept_ite, ite_self, ↓invO_none, ↓invO_some, ↓invR_ok, ↓invR_wait, ↓invR_fail, ↓invE_ok, ↓invE_error, ↓invOA_none, ↓invOA_some, ↓State.marchResult_kept] | with_reducible apply invA_say | with_reducible apply invA_id | with_reducible apply invA_ite | with_reducible apply invO_ite | with_reducible apply invR_ite | with_reducible apply invE_ite | with_reducible apply State.bankFree_inv | with_reducible refine inv_foldl (fun _ _ _ => ?_) ?_ | split)

theorem State.coreClear_inv (s : State) (n : Nat) (keep : Bool) (hk : InvK p0 s.kept) :
    InvK p0 (State.coreClear s n keep).kept := by
  unfold State.coreClear
  repeat' (first | exact True.intro | with_reducible exact hk | with_reducible assumption | simp only [↓kept_with, ↓kept_ite, ite_self, ↓invO_none, ↓invO_some, ↓invR_ok, ↓invR_wait, ↓invR_fail, ↓invE_ok, ↓invE_error, ↓invOA_none, ↓invOA_some, ↓State.setCore_kept, ↓State.unissued_kept, ↓State.xingClear_kept] | with_reducible apply invA_say | with_reducible apply invA_id | with_reducible apply invA_ite | with_reducible apply invO_ite | with_reducible apply invR_ite | with_reducible apply invE_ite | with_reducible apply State.bankZero_inv | with_reducible apply State.marchAbandon_inv | with_reducible refine inv_foldl (fun _ _ _ => ?_) ?_ | split)

theorem State.clusterClear_inv (s : State) (c : Nat) (hk : InvK p0 s.kept) :
    InvK p0 (State.clusterClear s c).kept := by
  unfold State.clusterClear
  repeat' (first | exact True.intro | with_reducible exact hk | with_reducible assumption | simp only [↓kept_with, ↓kept_ite, ite_self, ↓invO_none, ↓invO_some, ↓invR_ok, ↓invR_wait, ↓invR_fail, ↓invE_ok, ↓invE_error, ↓invOA_none, ↓invOA_some, ↓State.abandon_kept, ↓State.poolAbandon_kept, ↓State.resetUnits_kept, ↓State.xingClear_kept] | with_reducible apply invA_say | with_reducible apply invA_id | with_reducible apply invA_ite | with_reducible apply invO_ite | with_reducible apply invR_ite | with_reducible apply invE_ite | with_reducible apply State.coreClear_inv | with_reducible refine inv_foldl (fun _ _ _ => ?_) ?_ | split)

theorem State.beginCluster_inv (s : State) (c : Nat) (hk : InvK p0 s.kept) :
    InvK p0 (State.beginCluster s c).kept := by
  unfold State.beginCluster
  repeat' (first | exact True.intro | with_reducible exact hk | with_reducible assumption | simp only [↓kept_with, ↓kept_ite, ite_self, ↓invO_none, ↓invO_some, ↓invR_ok, ↓invR_wait, ↓invR_fail, ↓invE_ok, ↓invE_error, ↓invOA_none, ↓invOA_some, ↓State.tagAdvance_kept, ↓State.unfence_kept] | with_reducible apply invA_say | with_reducible apply invA_id | with_reducible apply invA_ite | with_reducible apply invO_ite | with_reducible apply invR_ite | with_reducible apply invE_ite | with_reducible apply State.clusterClear_inv | with_reducible refine inv_foldl (fun _ _ _ => ?_) ?_ | split)

theorem State.beginCompute_inv (s : State) (hk : InvK p0 s.kept) :
    InvK p0 (State.beginCompute s).kept := by
  unfold State.beginCompute
  repeat' (first | exact True.intro | with_reducible exact hk | with_reducible assumption | simp only [↓kept_with, ↓kept_ite, ite_self, ↓invO_none, ↓invO_some, ↓invR_ok, ↓invR_wait, ↓invR_fail, ↓invE_ok, ↓invE_error, ↓invOA_none, ↓invOA_some, ↓State.abandon_kept, ↓State.castAbort_kept, ↓State.collsReset_kept, ↓State.flightForce_kept, ↓State.poolAbandon_kept, ↓State.stopQueues_kept, ↓State.tableEnds_kept, ↓State.tagAdvance_kept, ↓State.unfence_kept, ↓State.xingClear_kept] | with_reducible apply invA_say | with_reducible apply invA_id | with_reducible apply invA_ite | with_reducible apply invO_ite | with_reducible apply invR_ite | with_reducible apply invE_ite | with_reducible apply State.coreClear_inv | with_reducible refine inv_foldl (fun _ _ _ => ?_) ?_ | split)

theorem State.coreFence_inv (s : State) (n : Nat) (keep : Bool) (hk : InvK p0 s.kept) :
    InvK p0 (State.coreFence s n keep).kept := by
  unfold State.coreFence
  repeat' (first | exact True.intro | with_reducible exact hk | with_reducible assumption | simp only [↓kept_with, ↓kept_ite, ite_self, ↓invO_none, ↓invO_some, ↓invR_ok, ↓invR_wait, ↓invR_fail, ↓invE_ok, ↓invE_error, ↓invOA_none, ↓invOA_some, ↓State.fence_kept, ↓State.odAdd_kept] | with_reducible apply invA_say | with_reducible apply invA_id | with_reducible apply invA_ite | with_reducible apply invO_ite | with_reducible apply invR_ite | with_reducible apply invE_ite | with_reducible apply State.coreClear_inv | with_reducible refine inv_foldl (fun _ _ _ => ?_) ?_ | split)

theorem State.beginCore_inv (s : State) (n : Nat) (hk : InvK p0 s.kept) :
    InvK p0 (State.beginCore s n).kept := by
  unfold State.beginCore
  repeat' (first | exact True.intro | with_reducible exact hk | with_reducible assumption | simp only [↓kept_with, ↓kept_ite, ite_self, ↓invO_none, ↓invO_some, ↓invR_ok, ↓invR_wait, ↓invR_fail, ↓invE_ok, ↓invE_error, ↓invOA_none, ↓invOA_some, ↓State.resetUnits_kept] | with_reducible apply invA_say | with_reducible apply invA_id | with_reducible apply invA_ite | with_reducible apply invO_ite | with_reducible apply invR_ite | with_reducible apply invE_ite | with_reducible apply State.coreFence_inv | with_reducible refine inv_foldl (fun _ _ _ => ?_) ?_ | split)

theorem State.beginScope_inv (s : State) (scope : Nat) (target : Nat) (hk : InvK p0 s.kept) :
    InvK p0 (State.beginScope s scope target).kept := by
  unfold State.beginScope
  repeat' (first | exact True.intro | with_reducible exact hk | with_reducible assumption | simp only [↓kept_with, ↓kept_ite, ite_self, ↓invO_none, ↓invO_some, ↓invR_ok, ↓invR_wait, ↓invR_fail, ↓invE_ok, ↓invE_error, ↓invOA_none, ↓invOA_some] | with_reducible apply invA_say | with_reducible apply invA_id | with_reducible apply invA_ite | with_reducible apply invO_ite | with_reducible apply invR_ite | with_reducible apply invE_ite | with_reducible apply State.beginCluster_inv | with_reducible apply State.beginCompute_inv | with_reducible apply State.beginCore_inv | with_reducible refine inv_foldl (fun _ _ _ => ?_) ?_ | split)

theorem State.resetRequest_inv (s : State) (v : Nat) (hk : InvK p0 s.kept) :
    InvK p0 (State.resetRequest s v).kept := by
  unfold State.resetRequest
  repeat' (first | exact True.intro | with_reducible exact hk | with_reducible assumption | simp only [↓kept_with, ↓kept_ite, ite_self, ↓invO_none, ↓invO_some, ↓invR_ok, ↓invR_wait, ↓invR_fail, ↓invE_ok, ↓invE_error, ↓invOA_none, ↓invOA_some, ↓State.addReset_kept, ↓State.beginLegacy_kept, ↓State.odInc_kept, ↓State.resetStatus_kept] | with_reducible apply invA_say | with_reducible apply invA_id | with_reducible apply invA_ite | with_reducible apply invO_ite | with_reducible apply invR_ite | with_reducible apply invE_ite | with_reducible apply State.beginScope_inv | with_reducible apply State.moduleReset_inv | with_reducible refine inv_foldl (fun _ _ _ => ?_) ?_ | split)

theorem State.actAfter_inv (s : State) (idx : Nat) (n : Nat) (hk : InvK p0 s.kept) :
    InvK p0 (State.actAfter s idx n).kept := by
  unfold State.actAfter
  repeat' (first | exact True.intro | with_reducible exact hk | with_reducible assumption | simp only [↓kept_with, ↓kept_ite, ite_self, ↓invO_none, ↓invO_some, ↓invR_ok, ↓invR_wait, ↓invR_fail, ↓invE_ok, ↓invE_error, ↓invOA_none, ↓invOA_some] | with_reducible apply invA_say | with_reducible apply invA_id | with_reducible apply invA_ite | with_reducible apply invO_ite | with_reducible apply invR_ite | with_reducible apply invE_ite | with_reducible apply State.moduleReset_inv | with_reducible apply State.resetRequest_inv | with_reducible refine inv_foldl (fun _ _ _ => ?_) ?_ | split)

theorem State.zero_inv (s : State) (lo : Nat) (len : Nat) (hk : InvK p0 s.kept) :
    InvK p0 (State.zero s lo len).kept := by
  exact ⟨hk.1, Memory.wf_filter hk.2.1 _, hk.2.2⟩

theorem State.moveBanks_inv (s : State) (c : Nat) (was : List Nat) (hk : InvK p0 s.kept) :
    InvK p0 (State.moveBanks s c was).kept := by
  unfold State.moveBanks
  repeat' (first | exact True.intro | with_reducible exact hk | with_reducible assumption | simp only [↓kept_with, ↓kept_ite, ite_self, ↓invO_none, ↓invO_some, ↓invR_ok, ↓invR_wait, ↓invR_fail, ↓invE_ok, ↓invE_error, ↓invOA_none, ↓invOA_some] | with_reducible apply invA_say | with_reducible apply invA_id | with_reducible apply invA_ite | with_reducible apply invO_ite | with_reducible apply invR_ite | with_reducible apply invE_ite | with_reducible apply State.wr_inv | with_reducible apply State.zero_inv | with_reducible refine inv_foldl (fun _ _ _ => ?_) ?_ | split)

theorem State.applyMarks_inv (s : State) (c : Nat) (hk : InvK p0 s.kept) :
    InvK p0 (State.applyMarks s c).kept := by
  unfold State.applyMarks
  repeat' (first | exact True.intro | with_reducible exact hk | with_reducible assumption | simp only [↓kept_with, ↓kept_ite, ite_self, ↓invO_none, ↓invO_some, ↓invR_ok, ↓invR_wait, ↓invR_fail, ↓invE_ok, ↓invE_error, ↓invOA_none, ↓invOA_some, ↓State.bankAmber_kept, ↓State.odApply_kept, ↓State.setCore_kept, ↓State.setMap_kept] | with_reducible apply invA_say | with_reducible apply invA_id | with_reducible apply invA_ite | with_reducible apply invO_ite | with_reducible apply invR_ite | with_reducible apply invE_ite | with_reducible apply State.moveBanks_inv | with_reducible refine inv_foldl (fun _ _ _ => ?_) ?_ | split)

theorem State.bringupAbandon_inv (s : State) (hk : InvK p0 s.kept) :
    InvK p0 (State.bringupAbandon s).kept := by
  unfold State.bringupAbandon
  repeat' (first | exact True.intro | with_reducible exact hk | with_reducible assumption | simp only [↓kept_with, ↓kept_ite, ite_self, ↓invO_none, ↓invO_some, ↓invR_ok, ↓invR_wait, ↓invR_fail, ↓invE_ok, ↓invE_error, ↓invOA_none, ↓invOA_some, ↓State.linkOff_kept, ↓State.poolAbandon_kept, ↓State.setCore_kept] | with_reducible apply invA_say | with_reducible apply invA_id | with_reducible apply invA_ite | with_reducible apply invO_ite | with_reducible apply invR_ite | with_reducible apply invE_ite | with_reducible apply State.marchAbandon_inv | with_reducible refine inv_foldl (fun _ _ _ => ?_) ?_ | split)

theorem State.put_inv (s : State) (a : Nat) (bs : List Byte) (hk : InvK p0 s.kept) :
    InvK p0 (State.put s a bs).kept := by
  unfold State.put
  repeat' (first | exact True.intro | with_reducible exact hk | with_reducible assumption | simp only [↓kept_with, ↓kept_ite, ite_self, ↓invO_none, ↓invO_some, ↓invR_ok, ↓invR_wait, ↓invR_fail, ↓invE_ok, ↓invE_error, ↓invOA_none, ↓invOA_some, ↓State.odInc_kept] | with_reducible apply invA_say | with_reducible apply invA_id | with_reducible apply invA_ite | with_reducible apply invO_ite | with_reducible apply invR_ite | with_reducible apply invE_ite | with_reducible apply State.hbmPut_inv | with_reducible apply State.wr_inv | with_reducible refine inv_foldl (fun _ _ _ => ?_) ?_ | split)

theorem State.sepiaWrite_inv (s : State) (x : SCmd) (a : Nat) (bs : List Byte) (result : Option Nat) (hk : InvK p0 s.kept) :
    InvR p0 (State.sepiaWrite s x a bs result) := by
  unfold State.sepiaWrite
  repeat' (first | exact True.intro | with_reducible exact hk | with_reducible assumption | simp only [↓kept_with, ↓kept_ite, ite_self, ↓invO_none, ↓invO_some, ↓invR_ok, ↓invR_wait, ↓invR_fail, ↓invE_ok, ↓invE_error, ↓invOA_none, ↓invOA_some, ↓State.addIn_kept, ↓State.countBad_kept, ↓State.eccSeen_kept, ↓State.noteAcc_kept, ↓State.seenNext_kept, ↓State.updCmd_kept] | with_reducible apply invA_say | with_reducible apply invA_id | with_reducible apply invA_ite | with_reducible apply invO_ite | with_reducible apply invR_ite | with_reducible apply invE_ite | with_reducible apply State.put_inv | with_reducible refine inv_foldl (fun _ _ _ => ?_) ?_ | split)

theorem State.sepiaOut_inv (s : State) (x : SCmd) (unit : Nat) (o : Nat) (bs : List Byte) (hk : InvK p0 s.kept) :
    InvR p0 (State.sepiaOut s x unit o bs) := by
  unfold State.sepiaOut
  repeat' (first | exact True.intro | with_reducible exact hk | with_reducible assumption | simp only [↓kept_with, ↓kept_ite, ite_self, ↓invO_none, ↓invO_some, ↓invR_ok, ↓invR_wait, ↓invR_fail, ↓invE_ok, ↓invE_error, ↓invOA_none, ↓invOA_some, ↓State.request_kept] | with_reducible apply invA_say | with_reducible apply invA_id | with_reducible apply invA_ite | with_reducible apply invO_ite | with_reducible apply invR_ite | with_reducible apply invE_ite | with_reducible apply State.sepiaWrite_inv | with_reducible refine inv_foldl (fun _ _ _ => ?_) ?_ | split)

theorem sepiaRead_inv (s : State) (p a len : Nat) (hk : InvK p0 s.kept) : InvR p0 (s.sepiaRead p a len) := by
  unfold State.sepiaRead
  repeat' (first | exact True.intro | with_reducible exact hk | simp only [↓invR_ok, ↓invR_wait, ↓invR_fail, ↓State.countBad_kept, ↓State.noteAcc_kept, ↓State.readSeen_kept, ↓State.seenNext_kept] | with_reducible apply invR_ite)

/-- A step of a plan keeps the canonical form. -/
def InvPlan (p0 : List Instr) (p : Plan) : Prop := ∀ e ∈ p, ∀ t : State, InvK p0 t.kept → InvR p0 (e.2 t)

theorem readRow_inv {f : State → SRes} (s : State) (p t r len : Nat) (hk : InvK p0 s.kept)
    (hf : ∀ t, InvK p0 t.kept → InvR p0 (f t)) : InvR p0 (s.readRow p t r len f) := invR_bind (sepiaRead_inv s p _ len hk) hf
theorem readGrad_inv {f : State → SRes} (s : State) (p c j : Nat) (hk : InvK p0 s.kept)
    (hf : ∀ t, InvK p0 t.kept → InvR p0 (f t)) : InvR p0 (s.readGrad p c j f) := invR_bind (sepiaRead_inv s p _ _ hk) hf
theorem readRows_inv (s : State) (p t len : Nat) (l : List Nat) (hk : InvK p0 s.kept) : InvR p0 (s.readRows p t len l) := by
  induction l generalizing s with
  | nil => exact hk
  | cons r rs ih => exact readRow_inv s p t r len hk (fun t ht => ih t ht)
theorem readGrads_inv (s : State) (p c : Nat) (l : List Nat) (hk : InvK p0 s.kept) : InvR p0 (s.readGrads p c l) := by
  induction l generalizing s with
  | nil => exact hk
  | cons r rs ih => exact readGrad_inv s p c r hk (fun t ht => ih t ht)
theorem readLists_inv (s : State) (p : Nat) (l : List (Nat × Nat)) (hk : InvK p0 s.kept) : InvR p0 (s.readLists p l) := by
  induction l generalizing s with
  | nil => exact hk
  | cons r rs ih => exact invR_bind (sepiaRead_inv s p _ _ hk) (fun t ht => ih t ht)

theorem runPlan_inv (l : Plan) (hl : InvPlan p0 l) (s : State) (st : Nat) (d : List Nat) (hk : InvK p0 s.kept)
    (r : State × Nat × List Nat) (hr : runPlan l s st d = .ok r) : InvK p0 r.1.kept := by
  induction l generalizing s st d with
  | nil => simp only [runPlan, Except.ok.injEq] at hr; subst hr; exact hk
  | cons e l ih =>
    obtain ⟨us, f⟩ := e
    have hf : ∀ t, InvK p0 t.kept → InvR p0 (f t) := hl (us, f) (by simp)
    have hl' : InvPlan p0 l := fun e he => hl e (List.mem_cons_of_mem _ he)
    simp only [runPlan] at hr
    split at hr
    · split at hr
      · rename_i t ht; exact ih hl' t _ _ (by have := hf s hk; rw [ht] at this; exact this) hr
      · exact absurd hr (by simp)
      · rename_i k t ht; exact ih hl' t _ _ (by have := hf s hk; rw [ht] at this; exact this) hr
    · have hv : InvK p0 (s.freeVal 1).2.kept := by rw [State.freeVal_kept]; exact hk
      split at hr
      · exact ih hl' _ _ _ hv hr
      · split at hr
        · rename_i t ht; exact ih hl' t _ _ (by have := hf _ hv; rw [ht] at this; exact this) hr
        · exact ih hl' _ _ _ hv hr

theorem mapIdx_plan {a : Type} (l : List a) (f : Nat → a → List Nat × (State → SRes))
    (h : ∀ i x t, InvK p0 t.kept → InvR p0 ((f i x).2 t)) : InvPlan p0 (l.mapIdx f) := by
  intro e he t ht
  obtain ⟨i, hi, rfl⟩ := List.mem_mapIdx.1 he
  exact h _ _ _ ht

theorem rowPlan_inv (es : List (Option Nat)) (f : Nat → List Nat → State → SRes)
    (h : ∀ r js t, InvK p0 t.kept → InvR p0 (f r js t)) : InvPlan p0 (rowPlan es f) := by
  intro e he t ht
  rcases List.mem_append.1 he with he | he
  · obtain ⟨j, _, rfl⟩ := List.mem_map.1 he; exact ht
  · obtain ⟨j, _, rfl⟩ := List.mem_map.1 he; exact h _ _ _ ht

theorem plan_inv (x : SCmd) (f g : Fmt) (es : List (Option Nat)) (bags : List (Option (List Nat))) (h : Hyper)
    (n : Nat) : InvPlan p0 (match n with
      | 1 => planLookup x f g es
      | 2 => planPool x f g es bags
      | 3 => if cmMode x.bits = 4 then planExact x f es else planSeq x f es
      | 4 => planUpdate x f es h
      | 5 => planCopy x
      | _ => planFill x) := by
  split
  · refine mapIdx_plan _ _ (fun j e t ht => ?_)
    cases e with
    | none => exact State.sepiaOut_inv t _ _ _ _ ht
    | some r => exact readRow_inv t _ _ r _ ht (fun t ht => State.sepiaOut_inv t _ _ _ _ ht)
  · exact mapIdx_plan _ _ (fun j e t ht => invR_bind (readRows_inv t _ _ _ _ ht)
      (fun t ht => State.sepiaOut_inv t _ _ _ _ ht))
  · split
    · unfold planExact
      refine rowPlan_inv _ _ (fun r js t ht => ?_)
      refine invR_bind (readGrads_inv t _ _ js ht) (fun u hu => ?_)
      refine readRow_inv u _ _ r _ hu (fun v hv => ?_)
      exact State.sepiaWrite_inv v _ _ _ _ hv
    · refine mapIdx_plan _ _ (fun j e t ht => ?_)
      cases e with
      | none => exact ht
      | some r => exact readGrad_inv t _ _ j ht (fun t ht => readRow_inv _ _ _ _ _ ht
          (fun t ht => State.sepiaWrite_inv _ _ _ _ _ ht))
  · unfold planUpdate
    refine rowPlan_inv _ _ (fun r js t ht => ?_)
    refine invR_bind (readGrads_inv t _ _ js ht) (fun u hu => ?_)
    refine readRow_inv u _ _ r _ hu (fun v hv => ?_)
    exact State.sepiaWrite_inv v _ _ _ _ hv
  · intro e he t ht
    obtain ⟨j, _, rfl⟩ := List.mem_map.1 he
    exact invR_bind (sepiaRead_inv _ _ _ _ ht) (fun t ht => State.sepiaOut_inv _ _ _ _ _ ht)
  · intro e he t ht
    obtain ⟨j, _, rfl⟩ := List.mem_map.1 he
    exact State.sepiaOut_inv _ _ _ _ _ ht

theorem State.cmdRun_inv (s : State) (x : SCmd) (hk : InvK p0 s.kept) :
    InvE p0 (State.cmdRun s x) := by
  have hl := readLists_inv (p0 := p0) s x.part
  have hp := plan_inv (p0 := p0) x
  unfold State.cmdRun
  simp only []
  split
  · simp only [↓invE_ok, ↓State.cmdDone_kept, kept_ite, State.countAddress_kept, State.countIsolation_kept, ite_self]; exact hk
  · split
    · exact True.intro
    · rename_i k t ht
      simp only [↓invE_ok, ↓State.cmdDone_kept]; exact (congrArg (InvR p0) ht).mp (hl _ hk)
    · rename_i t ht
      have hl' : InvK p0 t.kept := (congrArg (InvR p0) ht).mp (hl _ hk)
      refine invE_ite ?_ ?_
      · simp only [↓invE_ok, ↓State.cmdDone_kept]; exact hl'
      · split
        · exact True.intro
        · rename_i r t' st done hr
          simp only [↓invE_ok, ↓State.cmdDone_kept]
          refine runPlan_inv _ (hp _ _ _ _ _ _) _ 0 [] ?_ _ hr
          simp only [kept_ite, State.odAdd_kept, ite_self]; exact hl'

theorem State.cmdTry_inv (s : State) (x : SCmd) (seen : List Ecc) (hk : InvK p0 s.kept) :
    InvK p0 (State.cmdTry s x seen).kept := by
  unfold State.cmdTry
  split
  · exact hk
  · exact orHeld_inv hk (State.cmdRun_inv _ x (by
      simp only [kept_with, State.odApply_kept]
      exact inv_foldl (fun t a ht => by rw [State.hotEnable_kept]; exact ht) hk))

theorem State.colPut_inv (s : State) (c : Coll) (a : Nat) (bs : List Byte) (ecc : Ecc) (hk : InvK p0 s.kept) :
    InvK p0 (State.colPut s c a bs ecc).2.kept := by
  unfold State.colPut
  repeat' (first | exact True.intro | with_reducible exact hk | with_reducible assumption | simp only [↓kept_with, ↓kept_ite, ite_self, ↓invO_none, ↓invO_some, ↓invR_ok, ↓invR_wait, ↓invR_fail, ↓invE_ok, ↓invE_error, ↓invOA_none, ↓invOA_some, ↓State.countBad_kept, ↓State.eccSeen_kept] | with_reducible apply invA_say | with_reducible apply invA_id | with_reducible apply invA_ite | with_reducible apply invO_ite | with_reducible apply invR_ite | with_reducible apply invE_ite | with_reducible apply State.put_inv | with_reducible refine inv_foldl (fun _ _ _ => ?_) ?_ | split)

theorem State.combine_inv (s : State) (c : Coll) (j : Nat) (bad : Option Nat) (ecc : Ecc) (dest : Ecc) (hk : InvK p0 s.kept) :
    InvE p0 (State.combine s c j bad ecc dest) := by
  unfold State.combine
  repeat' (first | exact True.intro | with_reducible exact hk | with_reducible assumption | simp only [↓kept_with, ↓kept_ite, ite_self, ↓invO_none, ↓invO_some, ↓invR_ok, ↓invR_wait, ↓invR_fail, ↓invE_ok, ↓invE_error, ↓invOA_none, ↓invOA_some, ↓State.collBad_kept, ↓State.collCheck_kept, ↓State.collFail_kept, ↓State.countBad_kept, ↓State.readSeen_kept, ↓State.regrant_kept, ↓State.retireSlot_kept, ↓State.sendDown_kept, ↓State.sendUp_kept, ↓State.updColl_kept] | with_reducible apply invA_say | with_reducible apply invA_id | with_reducible apply invA_ite | with_reducible apply invO_ite | with_reducible apply invR_ite | with_reducible apply invE_ite | with_reducible apply State.colPut_inv | with_reducible refine inv_foldl (fun _ _ _ => ?_) ?_ | split)

theorem State.hwr_inv (s : State) (a : Nat) (bs : List Byte) (hk : InvK p0 s.kept) :
    InvK p0 (State.hwr s a bs).kept := by
  exact ⟨hk.1, hk.2.1, Memory.wf_memPut hk.2.2 _ _⟩

theorem State.complete_inv (s : State) (f : Flight) (hk : InvK p0 s.kept) :
    InvK p0 (State.complete s f).kept := by
  unfold State.complete
  repeat' (first | exact True.intro | with_reducible exact hk | with_reducible assumption | simp only [↓kept_with, ↓kept_ite, ite_self, ↓invO_none, ↓invO_some, ↓invR_ok, ↓invR_wait, ↓invR_fail, ↓invE_ok, ↓invE_error, ↓invOA_none, ↓invOA_some, ↓State.endCount_kept, ↓State.hcAdd_kept, ↓State.lilac_kept, ↓State.odInc_kept, ↓State.qDrained_kept, ↓State.setQueue_kept, ↓State.stallStart_kept] | with_reducible apply invA_say | with_reducible apply invA_id | with_reducible apply invA_ite | with_reducible apply invO_ite | with_reducible apply invR_ite | with_reducible apply invE_ite | with_reducible apply State.hwr_inv | with_reducible refine inv_foldl (fun _ _ _ => ?_) ?_ | split)

theorem State.computeApply_inv (s : State) (spareBad : Nat) (armed : Nat) (hk : InvK p0 s.kept) :
    InvK p0 (State.computeApply s spareBad armed).kept := by
  unfold State.computeApply
  repeat' (first | exact True.intro | with_reducible exact hk | with_reducible assumption | simp only [↓kept_with, ↓kept_ite, ite_self, ↓invO_none, ↓invO_some, ↓invR_ok, ↓invR_wait, ↓invR_fail, ↓invE_ok, ↓invE_error, ↓invOA_none, ↓invOA_some, ↓State.applyLicence_kept, ↓State.applyRemap_kept, ↓State.applySpares_kept, ↓State.bandStart_kept, ↓State.odApply_kept, ↓State.reopenCluster_kept, ↓State.testAmber_kept] | with_reducible apply invA_say | with_reducible apply invA_id | with_reducible apply invA_ite | with_reducible apply invO_ite | with_reducible apply invR_ite | with_reducible apply invE_ite | with_reducible apply State.applyMarks_inv | with_reducible refine inv_foldl (fun _ _ _ => ?_) ?_ | split)

theorem State.copyOut_inv (s : State) (x : Queue) (d : Nat) (a : Nat) (bs : List Byte) (hk : InvK p0 s.kept) :
    InvK p0 (State.copyOut s x d a bs).kept := by
  unfold State.copyOut
  repeat' (first | exact True.intro | with_reducible exact hk | with_reducible assumption | simp only [↓kept_with, ↓kept_ite, ite_self, ↓invO_none, ↓invO_some, ↓invR_ok, ↓invR_wait, ↓invR_fail, ↓invE_ok, ↓invE_error, ↓invOA_none, ↓invOA_some] | with_reducible apply invA_say | with_reducible apply invA_id | with_reducible apply invA_ite | with_reducible apply invO_ite | with_reducible apply invR_ite | with_reducible apply invE_ite | with_reducible apply State.hwr_inv | with_reducible apply State.put_inv | with_reducible refine inv_foldl (fun _ _ _ => ?_) ?_ | split)

theorem State.copyPrefix_inv (s : State) (n : Nat) (slot : Nat) (p : Nat) (src : Nat) (dst : Nat) (len : Nat) (hk : InvK p0 s.kept) :
    InvK p0 (State.copyPrefix s n slot p src dst len).kept := by
  unfold State.copyPrefix
  repeat' (first | exact True.intro | with_reducible exact hk | with_reducible assumption | simp only [↓kept_with, ↓kept_ite, ite_self, ↓invO_none, ↓invO_some, ↓invR_ok, ↓invR_wait, ↓invR_fail, ↓invE_ok, ↓invE_error, ↓invOA_none, ↓invOA_some, ↓State.addAct_kept, ↓State.freeVal_kept] | with_reducible apply invA_say | with_reducible apply invA_id | with_reducible apply invA_ite | with_reducible apply invO_ite | with_reducible apply invR_ite | with_reducible apply invE_ite | with_reducible apply State.put_inv | with_reducible refine inv_foldl (fun _ _ _ => ?_) ?_ | split)

theorem State.coreDefect_inv (s : State) (n : Nat) (hk : InvK p0 s.kept) :
    InvK p0 (State.coreDefect s n).kept := by
  unfold State.coreDefect
  repeat' (first | exact True.intro | with_reducible exact hk | with_reducible assumption | simp only [↓kept_with, ↓kept_ite, ite_self, ↓invO_none, ↓invO_some, ↓invR_ok, ↓invR_wait, ↓invR_fail, ↓invE_ok, ↓invE_error, ↓invOA_none, ↓invOA_some, ↓State.addReset_kept, ↓State.odAccept_kept] | with_reducible apply invA_say | with_reducible apply invA_id | with_reducible apply invA_ite | with_reducible apply invO_ite | with_reducible apply invR_ite | with_reducible apply invE_ite | with_reducible apply State.beginCluster_inv | with_reducible refine inv_foldl (fun _ _ _ => ?_) ?_ | split)

theorem State.scrubFill_inv (s : State) (q : Nat → Bool) (hk : InvK p0 s.kept) :
    InvK p0 (State.scrubFill s q).kept := by
  exact ⟨hk.1, Memory.wf_filter hk.2.1 _, hk.2.2⟩

theorem State.create_inv (s : State) (p : Nat) (hk : InvK p0 s.kept) :
    InvK p0 (State.create s p).kept := by
  unfold State.create
  repeat' (first | exact True.intro | with_reducible exact hk | with_reducible assumption | simp only [↓kept_with, ↓kept_ite, ite_self, ↓invO_none, ↓invO_some, ↓invR_ok, ↓invR_wait, ↓invR_fail, ↓invE_ok, ↓invE_error, ↓invOA_none, ↓invOA_some, ↓State.freeVal_kept, ↓State.hcClear_kept, ↓State.odApplyAll_kept, ↓State.partGo_kept, ↓State.patternCut_kept, ↓State.setCore_kept, ↓State.setEp_kept, ↓State.setPart_kept, ↓State.showEp_kept, ↓State.showTags_kept] | with_reducible apply invA_say | with_reducible apply invA_id | with_reducible apply invA_ite | with_reducible apply invO_ite | with_reducible apply invR_ite | with_reducible apply invE_ite | with_reducible apply State.bankZero_inv | with_reducible apply State.scrubFill_inv | with_reducible refine inv_foldl (fun _ _ _ => ?_) ?_ | split)

theorem State.decodeSector_inv (s : State) (x : Nat) (errs : Nat) (hk : InvK p0 s.kept) :
    InvK p0 (State.decodeSector s x errs).1.kept := by
  unfold State.decodeSector
  repeat' (first | exact True.intro | with_reducible exact hk | with_reducible assumption | simp only [↓kept_with, ↓kept_ite, ite_self, ↓invO_none, ↓invO_some, ↓invR_ok, ↓invR_wait, ↓invR_fail, ↓invE_ok, ↓invE_error, ↓invOA_none, ↓invOA_some, ↓State.corrected_kept, ↓State.freeVal_kept, ↓State.odInc_kept, ↓State.spoil_kept] | with_reducible apply invA_say | with_reducible apply invA_id | with_reducible apply invA_ite | with_reducible apply invO_ite | with_reducible apply invR_ite | with_reducible apply invE_ite | with_reducible apply State.wr_inv | with_reducible refine inv_foldl (fun _ _ _ => ?_) ?_ | split)

theorem State.dmaCopy_inv (s : State) (n : Nat) (m : MOp) (ecc : Ecc) (dest : Ecc) (hk : InvK p0 s.kept) :
    InvK p0 (State.dmaCopy s n m ecc dest).kept := by
  unfold State.dmaCopy
  repeat' (first | exact True.intro | with_reducible exact hk | with_reducible assumption | simp only [↓kept_with, ↓kept_ite, ite_self, ↓invO_none, ↓invO_some, ↓invR_ok, ↓invR_wait, ↓invR_fail, ↓invE_ok, ↓invE_error, ↓invOA_none, ↓invOA_some, ↓State.addAct_kept, ↓State.countAddress_kept, ↓State.countBad_kept, ↓State.dmaSeen_kept, ↓State.dropMop_kept, ↓State.mDone_kept, ↓State.mFault_kept, ↓State.noteAcc_kept] | with_reducible apply invA_say | with_reducible apply invA_id | with_reducible apply invA_ite | with_reducible apply invO_ite | with_reducible apply invR_ite | with_reducible apply invE_ite | with_reducible apply State.copyPrefix_inv | with_reducible apply State.put_inv | with_reducible refine inv_foldl (fun _ _ _ => ?_) ?_ | split)

theorem State.marchTake_inv (s : State) (n : Nat) (hk : InvK p0 s.kept) :
    InvK p0 (State.marchTake s n).kept := by
  unfold State.marchTake
  repeat' (first | exact True.intro | with_reducible exact hk | with_reducible assumption | simp only [↓kept_with, ↓kept_ite, ite_self, ↓invO_none, ↓invO_some, ↓invR_ok, ↓invR_wait, ↓invR_fail, ↓invE_ok, ↓invE_error, ↓invOA_none, ↓invOA_some, ↓State.marchResult_kept, ↓State.odApply_kept, ↓State.setCore_kept] | with_reducible apply invA_say | with_reducible apply invA_id | with_reducible apply invA_ite | with_reducible apply invO_ite | with_reducible apply invR_ite | with_reducible apply invE_ite | with_reducible apply State.bankFree_inv | with_reducible refine inv_foldl (fun _ _ _ => ?_) ?_ | split)

theorem State.marchRequest_inv (s : State) (n : Nat) (v : Nat) (hk : InvK p0 s.kept) :
    InvK p0 (State.marchRequest s n v).kept := by
  unfold State.marchRequest
  repeat' (first | exact True.intro | with_reducible exact hk | with_reducible assumption | simp only [↓kept_with, ↓kept_ite, ite_self, ↓invO_none, ↓invO_some, ↓invR_ok, ↓invR_wait, ↓invR_fail, ↓invE_ok, ↓invE_error, ↓invOA_none, ↓invOA_some, ↓State.odAccept_kept] | with_reducible apply invA_say | with_reducible apply invA_id | with_reducible apply invA_ite | with_reducible apply invO_ite | with_reducible apply invR_ite | with_reducible apply invE_ite | with_reducible apply State.marchTake_inv | with_reducible refine inv_foldl (fun _ _ _ => ?_) ?_ | split)

theorem State.partCommand_inv (s : State) (p : Nat) (v : Nat) (hk : InvK p0 s.kept) :
    InvK p0 (State.partCommand s p v).kept := by
  unfold State.partCommand
  repeat' (first | exact True.intro | with_reducible exact hk | with_reducible assumption | simp only [↓kept_with, ↓kept_ite, ite_self, ↓invO_none, ↓invO_some, ↓invR_ok, ↓invR_wait, ↓invR_fail, ↓invE_ok, ↓invE_error, ↓invOA_none, ↓invOA_some, ↓State.setPart_kept, ↓State.teardown_kept] | with_reducible apply invA_say | with_reducible apply invA_id | with_reducible apply invA_ite | with_reducible apply invO_ite | with_reducible apply invR_ite | with_reducible apply invE_ite | with_reducible apply State.create_inv | with_reducible refine inv_foldl (fun _ _ _ => ?_) ?_ | split)

theorem State.removalStart_inv (s : State) (hk : InvK p0 s.kept) :
    InvK p0 (State.removalStart s).kept := by
  unfold State.removalStart
  repeat' (first | exact True.intro | with_reducible exact hk | with_reducible assumption | simp only [↓kept_with, ↓kept_ite, ite_self, ↓invO_none, ↓invO_some, ↓invR_ok, ↓invR_wait, ↓invR_fail, ↓invE_ok, ↓invE_error, ↓invOA_none, ↓invOA_some, ↓State.amber_kept, ↓State.lifeSet_kept, ↓State.removalGo_kept] | with_reducible apply invA_say | with_reducible apply invA_id | with_reducible apply invA_ite | with_reducible apply invO_ite | with_reducible apply invR_ite | with_reducible apply invE_ite | with_reducible apply State.bringupAbandon_inv | with_reducible apply State.partCommand_inv | with_reducible refine inv_foldl (fun _ _ _ => ?_) ?_ | split)

theorem State.takeNum_inv (s : State) (idx : Nat) (sub : Nat) (n : Nat) (hk : InvK p0 s.kept) :
    InvK p0 (State.takeNum s idx sub n).kept := by
  unfold State.takeNum
  repeat' (first | exact True.intro | with_reducible exact hk | with_reducible assumption | simp only [↓kept_with, ↓kept_ite, ite_self, ↓invO_none, ↓invO_some, ↓invR_ok, ↓invR_wait, ↓invR_fail, ↓invE_ok, ↓invE_error, ↓invOA_none, ↓invOA_some, ↓State.alertSet_kept, ↓State.apertureTake_kept, ↓State.assignSpare_kept, ↓State.bypassSafe_kept, ↓State.coordWrite_kept, ↓State.jobWrite_kept, ↓State.ledgerSettings_kept, ↓State.linkEnableSet_kept, ↓State.loopbackStart_kept, ↓State.odAccept_kept, ↓State.odSetN_kept, ↓State.releaseTake_kept, ↓State.spareWrite_kept, ↓State.swapRequest_kept, ↓State.updateCommand_kept] | with_reducible apply invA_say | with_reducible apply invA_id | with_reducible apply invA_ite | with_reducible apply invO_ite | with_reducible apply invR_ite | with_reducible apply invE_ite | with_reducible apply State.marchRequest_inv | with_reducible apply State.partCommand_inv | with_reducible apply State.removalStart_inv | with_reducible apply State.resetRequest_inv | with_reducible refine inv_foldl (fun _ _ _ => ?_) ?_ | split)

theorem State.odTake_inv (s : State) (idx : Nat) (sub : Nat) (v : OdVal) (hk : InvK p0 s.kept) :
    InvK p0 (State.odTake s idx sub v).kept := by
  unfold State.odTake
  repeat' (first | exact True.intro | with_reducible exact hk | with_reducible assumption | simp only [↓kept_with, ↓kept_ite, ite_self, ↓invO_none, ↓invO_some, ↓invR_ok, ↓invR_wait, ↓invR_fail, ↓invE_ok, ↓invE_error, ↓invOA_none, ↓invOA_some, ↓State.takeBlob_kept] | with_reducible apply invA_say | with_reducible apply invA_id | with_reducible apply invA_ite | with_reducible apply invO_ite | with_reducible apply invR_ite | with_reducible apply invE_ite | with_reducible apply State.takeNum_inv | with_reducible refine inv_foldl (fun _ _ _ => ?_) ?_ | split)

theorem State.writeElems_inv (s : State) (door : Door) (o : OdInfo) (k : Nat) (x4 : List Nat) (x5 : List Byte) (hk : InvK p0 s.kept) :
    InvK p0 (State.writeElems s door o k x4 x5).2.kept := by
  induction x4 generalizing s x5 with
  | nil => exact hk
  | cons i is ih =>
    simp only [State.writeElems]
    split
    · exact ih _ _ hk
    · refine ih _ _ ?_
      split
      · exact State.odTake_inv _ _ _ _ hk
      · exact hk

theorem State.writeAll_inv (s : State) (door : Door) (idx : Nat) (bs : List Byte) (hk : InvK p0 s.kept) :
    InvK p0 (State.writeAll s door idx bs).st.kept := by
  unfold State.writeAll
  repeat' (first | exact True.intro | with_reducible exact hk | with_reducible assumption | simp only [↓kept_with, ↓kept_ite, ite_self, ↓invO_none, ↓invO_some, ↓invR_ok, ↓invR_wait, ↓invR_fail, ↓invE_ok, ↓invE_error, ↓invOA_none, ↓invOA_some, ↓State.odIgnored_kept] | with_reducible apply invA_say | with_reducible apply invA_id | with_reducible apply invA_ite | with_reducible apply invO_ite | with_reducible apply invR_ite | with_reducible apply invE_ite | with_reducible apply State.writeElems_inv | with_reducible refine inv_foldl (fun _ _ _ => ?_) ?_ | split)

theorem State.writeOne_inv (s : State) (door : Door) (idx : Nat) (sub : Nat) (bs : List Byte) (hk : InvK p0 s.kept) :
    InvK p0 (State.writeOne s door idx sub bs).st.kept := by
  unfold State.writeOne
  repeat' (first | exact True.intro | with_reducible exact hk | with_reducible assumption | simp only [↓kept_with, ↓kept_ite, ite_self, ↓invO_none, ↓invO_some, ↓invR_ok, ↓invR_wait, ↓invR_fail, ↓invE_ok, ↓invE_error, ↓invOA_none, ↓invOA_some, ↓State.odIgnored_kept, ↓State.resetRefused_kept, ↓State.swapRefused_kept] | with_reducible apply invA_say | with_reducible apply invA_id | with_reducible apply invA_ite | with_reducible apply invO_ite | with_reducible apply invR_ite | with_reducible apply invE_ite | with_reducible apply State.odTake_inv | with_reducible refine inv_foldl (fun _ _ _ => ?_) ?_ | split)

theorem State.write_inv (s : State) (door : Door) (idx : Nat) (sub : Nat) (all : Bool) (bs : List Byte) (hk : InvK p0 s.kept) :
    InvK p0 (State.write s door idx sub all bs).st.kept := by
  unfold State.write
  repeat' (first | exact True.intro | with_reducible exact hk | with_reducible assumption | simp only [↓kept_with, ↓kept_ite, ite_self, ↓invO_none, ↓invO_some, ↓invR_ok, ↓invR_wait, ↓invR_fail, ↓invE_ok, ↓invE_error, ↓invOA_none, ↓invOA_some] | with_reducible apply invA_say | with_reducible apply invA_id | with_reducible apply invA_ite | with_reducible apply invO_ite | with_reducible apply invR_ite | with_reducible apply invE_ite | with_reducible apply State.writeAll_inv | with_reducible apply State.writeOne_inv | with_reducible refine inv_foldl (fun _ _ _ => ?_) ?_ | split)

theorem State.segDecide_inv (s : State) (x : Session) (q : SReq) (idx : Nat) (sub : Nat) (all : Bool) (bs : List Byte) (hk : InvK p0 s.kept) :
    InvA p0 (State.segDecide s x q idx sub all bs) := by
  unfold State.segDecide State.say
  exact ⟨State.write_inv _ _ _ _ _ _ hk, fun _ h => h⟩

theorem State.segWrite_inv (s : State) (x : Session) (q : SReq) (k : Nat) (bs : List Byte) (hk : InvK p0 s.kept) :
    InvA p0 (State.segWrite s x q k bs) := by
  unfold State.segWrite
  repeat' (first | exact True.intro | with_reducible exact hk | with_reducible assumption | simp only [↓kept_with, ↓kept_ite, ite_self, ↓invO_none, ↓invO_some, ↓invR_ok, ↓invR_wait, ↓invR_fail, ↓invE_ok, ↓invE_error, ↓invOA_none, ↓invOA_some, ↓State.updSession_kept] | with_reducible apply invA_say | with_reducible apply invA_id | with_reducible apply invA_ite | with_reducible apply invO_ite | with_reducible apply invR_ite | with_reducible apply invE_ite | with_reducible apply State.segDecide_inv | with_reducible refine inv_foldl (fun _ _ _ => ?_) ?_ | split)

theorem State.segWriteStart_inv (s : State) (x : Session) (q : SReq) (idx : Nat) (sub : Nat) (all : Bool) (total : Nat) (hk : InvK p0 s.kept) :
    InvA p0 (State.segWriteStart s x q idx sub all total) := by
  unfold State.segWriteStart
  repeat' (first | exact True.intro | with_reducible exact hk | with_reducible assumption | simp only [↓kept_with, ↓kept_ite, ite_self, ↓invO_none, ↓invO_some, ↓invR_ok, ↓invR_wait, ↓invR_fail, ↓invE_ok, ↓invE_error, ↓invOA_none, ↓invOA_some, ↓State.updSession_kept] | with_reducible apply invA_say | with_reducible apply invA_id | with_reducible apply invA_ite | with_reducible apply invO_ite | with_reducible apply invR_ite | with_reducible apply invE_ite | with_reducible apply State.segDecide_inv | with_reducible refine inv_foldl (fun _ _ _ => ?_) ?_ | split)

theorem State.writeReq_inv (s : State) (x : Session) (q : SReq) (idx : Nat) (sub : Nat) (all : Bool) (bs : List Byte) (hk : InvK p0 s.kept) :
    InvA p0 (State.writeReq s x q idx sub all bs) := by
  have hw := State.write_inv s x.door idx sub all bs hk
  unfold State.writeReq
  simp only []
  split
  · exact ⟨by simpa [State.say] using hk, fun _ h => h⟩
  · refine ⟨hw, fun t ht => ?_⟩
    simp only []
    split
    · exact State.actAfter_inv _ _ _ ht
    · exact ht

theorem State.stanExec_inv (s : State) (x : Session) (q : SReq) (hk : InvK p0 s.kept) :
    InvOA p0 (State.stanExec s x q) := by
  have hseg : ∀ i k a, InvA p0 (s.segReadStart x q i k a) := by
    intro i k a
    unfold State.segReadStart
    repeat' (first | with_reducible exact hk | simp only [↓kept_ite, ite_self, ↓State.updSession_kept] | with_reducible apply invA_say | with_reducible apply invA_id | with_reducible apply invA_ite)
  have hrd : ∀ k, InvOA p0 (s.segRead x q k) := by
    intro k
    unfold State.segRead
    repeat' (first | exact True.intro | with_reducible exact hk | simp only [↓kept_ite, ite_self, ↓invOA_none, ↓invOA_some, ↓State.updSession_kept] | with_reducible apply invA_say | with_reducible apply invA_id | with_reducible apply invA_ite | split)
  have hel : ∀ (o : Option Session) (t : State), InvK p0 t.kept → InvK p0 (o.elim t t.deliverOne).kept := by
    intro o t ht
    cases o with
    | none => exact ht
    | some x => simp only [Option.elim, State.deliverOne_kept]; exact ht
  unfold State.stanExec
  refine invOA_ite (invA_say hk _ _ _ _) ?_
  cases q <;> simp only []
  all_goals repeat' (first | exact True.intro | with_reducible exact hk | with_reducible exact hseg _ _ _ | with_reducible exact hrd _ | with_reducible apply State.writeReq_inv | with_reducible apply State.segWriteStart_inv | with_reducible apply State.segWrite_inv | simp only [↓kept_ite, ite_self, ↓invOA_none, ↓invOA_some, ↓State.updSession_kept] | with_reducible apply invA_say | with_reducible apply invA_id | with_reducible apply invA_ite | with_reducible apply invOA_ite)
  · exact ⟨hk, fun t ht => by simpa using ht⟩
  · exact ⟨by simpa using hk, fun t ht => hel _ t ht⟩

theorem State.stanTurn_inv (s : State) (x : Session) (seq : Nat) (q : SReq) (hk : InvK p0 s.kept) :
    InvO p0 (State.stanTurn s x seq q) := by
  have he := State.stanExec_inv s x q hk
  unfold State.stanTurn
  split
  · exact True.intro
  · rename_i a ha
    rw [ha] at he
    refine he.2 _ ?_
    rw [State.sendTo_kept, State.updSession_kept]
    exact he.1

theorem State.earlyRun_inv (x0 : Nat) (x1 : Nat) (x2 : State) (hk : InvK p0 x2.kept) :
    InvK p0 (State.earlyRun x0 x1 x2).kept := by
  induction x0 generalizing x2 with
  | zero => exact hk
  | succ k ih =>
    simp only [State.earlyRun]
    split
    · exact hk
    · split
      · exact hk
      · split
        · exact hk
        · rename_i t ht
          refine ih _ ?_
          rw [State.updSession_kept]
          exact (ht ▸ State.stanTurn_inv _ _ _ _ hk : InvO p0 (some t))

theorem State.enterRed_inv (s : State) (code : Nat) (hk : InvK p0 s.kept) :
    InvK p0 (State.enterRed s code).kept := by
  unfold State.enterRed
  repeat' (first | exact True.intro | with_reducible exact hk | with_reducible assumption | simp only [↓kept_with, ↓kept_ite, ite_self, ↓invO_none, ↓invO_some, ↓invR_ok, ↓invR_wait, ↓invR_fail, ↓invE_ok, ↓invE_error, ↓invOA_none, ↓invOA_some, ↓State.addReset_kept, ↓State.endResets_kept, ↓State.enter_kept, ↓State.leaveService_kept, ↓State.odSetN_kept] | with_reducible apply invA_say | with_reducible apply invA_id | with_reducible apply invA_ite | with_reducible apply invO_ite | with_reducible apply invR_ite | with_reducible apply invE_ite | with_reducible apply State.beginCompute_inv | with_reducible refine inv_foldl (fun _ _ _ => ?_) ?_ | split)

theorem State.redFault_inv (s : State) (code : Nat) (kind : Nat) (num : Nat) (part : Option Nat) (esc : Bool) (detail : Nat) (hk : InvK p0 s.kept) :
    InvK p0 (State.redFault s code kind num part esc detail).kept := by
  unfold State.redFault
  repeat' (first | exact True.intro | with_reducible exact hk | with_reducible assumption | simp only [↓kept_with, ↓kept_ite, ite_self, ↓invO_none, ↓invO_some, ↓invR_ok, ↓invR_wait, ↓invR_fail, ↓invE_ok, ↓invE_error, ↓invOA_none, ↓invOA_some, ↓State.faultRecord_kept] | with_reducible apply invA_say | with_reducible apply invA_id | with_reducible apply invA_ite | with_reducible apply invO_ite | with_reducible apply invR_ite | with_reducible apply invE_ite | with_reducible apply State.enterRed_inv | with_reducible refine inv_foldl (fun _ _ _ => ?_) ?_ | split)

theorem State.faultReset_inv (s : State) (code : Nat) (action : Nat) (scope : Nat) (target : Nat) (kind : Nat) (num : Nat) (part : Option Nat) (detail : Nat) (hk : InvK p0 s.kept) :
    InvK p0 (State.faultReset s code action scope target kind num part detail).kept := by
  unfold State.faultReset
  repeat' (first | exact True.intro | with_reducible exact hk | with_reducible assumption | simp only [↓kept_with, ↓kept_ite, ite_self, ↓invO_none, ↓invO_some, ↓invR_ok, ↓invR_wait, ↓invR_fail, ↓invE_ok, ↓invE_error, ↓invOA_none, ↓invOA_some, ↓State.addReset_kept, ↓State.faultRecord_kept, ↓State.faultRecordAs_kept, ↓State.odApply_kept, ↓State.odInc_kept] | with_reducible apply invA_say | with_reducible apply invA_id | with_reducible apply invA_ite | with_reducible apply invO_ite | with_reducible apply invR_ite | with_reducible apply invE_ite | with_reducible apply State.beginScope_inv | with_reducible apply State.moduleReset_inv | with_reducible apply State.redFault_inv | with_reducible refine inv_foldl (fun _ _ _ => ?_) ?_ | split)

theorem State.getArrives_inv (s : State) (n : Nat) (id : Nat) (dst : Nat) (bs : List Byte) (ecc : Ecc) (hk : InvK p0 s.kept) :
    InvE p0 (State.getArrives s n id dst bs ecc) := by
  unfold State.getArrives
  repeat' (first | exact True.intro | with_reducible exact hk | with_reducible assumption | simp only [↓kept_with, ↓kept_ite, ite_self, ↓invO_none, ↓invO_some, ↓invR_ok, ↓invR_wait, ↓invR_fail, ↓invE_ok, ↓invE_error, ↓invOA_none, ↓invOA_some, ↓State.addAct_kept, ↓State.countAddress_kept, ↓State.countBad_kept, ↓State.eccSeen_kept, ↓State.mAnswered_kept, ↓State.mFault_kept, ↓State.noteAcc_kept] | with_reducible apply invA_say | with_reducible apply invA_id | with_reducible apply invA_ite | with_reducible apply invO_ite | with_reducible apply invR_ite | with_reducible apply invE_ite | with_reducible apply State.put_inv | with_reducible refine inv_foldl (fun _ _ _ => ?_) ?_ | split)

theorem State.ordered_inv (s : State) (x : Session) (f : Frame) (q : SReq) (hk : InvK p0 s.kept) :
    InvK p0 (State.ordered s x f q).kept := by
  unfold State.ordered
  repeat' (first | exact True.intro | with_reducible exact hk | with_reducible assumption | simp only [↓kept_with, ↓kept_ite, ite_self, ↓invO_none, ↓invO_some, ↓invR_ok, ↓invR_wait, ↓invR_fail, ↓invE_ok, ↓invE_error, ↓invOA_none, ↓invOA_some, ↓State.refuseMsg_kept, ↓State.sendTo_kept, ↓State.updSession_kept] | with_reducible apply invA_say | with_reducible apply invA_id | with_reducible apply invA_ite | with_reducible apply invO_ite | with_reducible apply invR_ite | with_reducible apply invE_ite | with_reducible apply State.earlyRun_inv | with_reducible refine inv_foldl (fun _ _ _ => ?_) ?_ | split)

theorem State.receive_inv (s : State) (f : Frame) (q : SReq) (hk : InvK p0 s.kept) :
    InvK p0 (State.receive s f q).kept := by
  have ho : ∀ (o : Option Session) (t : State), InvK p0 t.kept → InvK p0 (o.elim t (fun x => t.ordered x f q)).kept := by
    intro o t ht
    cases o with
    | none => exact ht
    | some x => exact State.ordered_inv _ _ _ _ ht
  unfold State.receive
  repeat' (first | with_reducible exact hk | simp only [↓State.odInc_kept, ↓State.refuseMsg_kept, ↓State.openReq_kept] | refine ho _ _ ?_ | split)
  all_goals simpa using hk

theorem State.heldRun_inv (s : State) (hk : InvK p0 s.kept) :
    InvK p0 (State.heldRun s).kept := by
  unfold State.heldRun
  repeat' (first | exact True.intro | with_reducible exact hk | with_reducible assumption | simp only [↓kept_with, ↓kept_ite, ite_self, ↓invO_none, ↓invO_some, ↓invR_ok, ↓invR_wait, ↓invR_fail, ↓invE_ok, ↓invE_error, ↓invOA_none, ↓invOA_some, ↓State.mgmtSet_kept, ↓State.samplesRun_kept] | with_reducible apply invA_say | with_reducible apply invA_id | with_reducible apply invA_ite | with_reducible apply invO_ite | with_reducible apply invR_ite | with_reducible apply invE_ite | with_reducible apply State.receive_inv | with_reducible refine inv_foldl (fun _ _ _ => ?_) ?_ | split)

theorem State.latched_inv (s : State) (x : Session) (t : Xfer) (hk : InvK p0 s.kept) :
    InvK p0 (State.latched s x t).kept := by
  unfold State.latched
  repeat' (first | exact True.intro | with_reducible exact hk | with_reducible assumption | simp only [↓kept_with, ↓kept_ite, ite_self, ↓invO_none, ↓invO_some, ↓invR_ok, ↓invR_wait, ↓invR_fail, ↓invE_ok, ↓invE_error, ↓invOA_none, ↓invOA_some, ↓State.updSession_kept] | with_reducible apply invA_say | with_reducible apply invA_id | with_reducible apply invA_ite | with_reducible apply invO_ite | with_reducible apply invR_ite | with_reducible apply invE_ite | with_reducible apply State.earlyRun_inv | with_reducible refine inv_foldl (fun _ _ _ => ?_) ?_ | split)

theorem State.legacyGo_inv (s : State) (f : Fence) (hk : InvK p0 s.kept) :
    InvK p0 (State.legacyGo s f).kept := by
  unfold State.legacyGo
  repeat' (first | exact True.intro | with_reducible exact hk | with_reducible assumption | simp only [↓kept_with, ↓kept_ite, ite_self, ↓invO_none, ↓invO_some, ↓invR_ok, ↓invR_wait, ↓invR_fail, ↓invE_ok, ↓invE_error, ↓invOA_none, ↓invOA_some, ↓State.keepColl_kept, ↓State.resetUnits_kept] | with_reducible apply invA_say | with_reducible apply invA_id | with_reducible apply invA_ite | with_reducible apply invO_ite | with_reducible apply invR_ite | with_reducible apply invE_ite | with_reducible apply State.clusterClear_inv | with_reducible apply State.coreClear_inv | with_reducible refine inv_foldl (fun _ _ _ => ?_) ?_ | split)

theorem State.mStart1_inv (s : State) (n : Nat) (m : MOp) (e : Option Ecc) (hk : InvK p0 s.kept) :
    InvO p0 (State.mStart1 s n m e) := by
  unfold State.mStart1
  repeat' (first | exact True.intro | with_reducible exact hk | with_reducible assumption | simp only [↓kept_with, ↓kept_ite, ite_self, ↓invO_none, ↓invO_some, ↓invR_ok, ↓invR_wait, ↓invR_fail, ↓invE_ok, ↓invE_error, ↓invOA_none, ↓invOA_some, ↓State.addAct_kept, ↓State.countBad_kept, ↓State.mFault_kept, ↓State.mLeft_kept, ↓State.noteAcc_kept, ↓State.pushCmd_kept, ↓State.readSeen_kept, ↓State.request_kept] | with_reducible apply invA_say | with_reducible apply invA_id | with_reducible apply invA_ite | with_reducible apply invO_ite | with_reducible apply invR_ite | with_reducible apply invE_ite | with_reducible apply State.put_inv | with_reducible refine inv_foldl (fun _ _ _ => ?_) ?_ | split)

theorem State.mStart_inv (pick : Option (Nat × Ecc)) (x1 : Nat) (x2 : State) (x3 : Nat) (hk : InvK p0 x2.kept) :
    InvK p0 (State.mStart pick x1 x2 x3).kept := by
  induction x1 generalizing x2 with
  | zero => exact hk
  | succ k ih =>
    simp only [State.mStart]
    split
    · exact hk
    · split
      · exact hk
      · split
        · exact hk
        · rename_i t ht
          refine ih _ ?_
          rw [State.updMop_kept]
          exact (ht ▸ State.mStart1_inv _ _ _ _ hk : InvO p0 (some t))

theorem State.marchTakes_inv (s : State) (l : List Nat) (hk : InvK p0 s.kept) :
    InvK p0 (State.marchTakes s l).kept := by
  unfold State.marchTakes
  repeat' (first | exact True.intro | with_reducible exact hk | with_reducible assumption | simp only [↓kept_with, ↓kept_ite, ite_self, ↓invO_none, ↓invO_some, ↓invR_ok, ↓invR_wait, ↓invR_fail, ↓invE_ok, ↓invE_error, ↓invOA_none, ↓invOA_some] | with_reducible apply invA_say | with_reducible apply invA_id | with_reducible apply invA_ite | with_reducible apply invO_ite | with_reducible apply invR_ite | with_reducible apply invE_ite | with_reducible apply State.marchTake_inv | with_reducible refine inv_foldl (fun _ _ _ => ?_) ?_ | split)

theorem State.powerLost_inv (s : State) (hk : InvK p0 s.kept) :
    InvK p0 (State.powerLost s).kept := by
  exact ⟨hk.1, rfl, hk.2.2⟩

theorem State.stepEight_inv (s : State) (spareBad : Nat) (armed : Nat) (hk : InvK p0 s.kept) :
    InvK p0 (State.stepEight s spareBad armed).kept := by
  unfold State.stepEight
  repeat' (first | exact True.intro | with_reducible exact hk | with_reducible assumption | simp only [↓kept_with, ↓kept_ite, ite_self, ↓invO_none, ↓invO_some, ↓invR_ok, ↓invR_wait, ↓invR_fail, ↓invE_ok, ↓invE_error, ↓invOA_none, ↓invOA_some, ↓State.assignSpare_kept, ↓State.odSetN_kept] | with_reducible apply invA_say | with_reducible apply invA_id | with_reducible apply invA_ite | with_reducible apply invO_ite | with_reducible apply invR_ite | with_reducible apply invE_ite | with_reducible apply State.computeApply_inv | with_reducible refine inv_foldl (fun _ _ _ => ?_) ?_ | split)

theorem State.releaseScope_inv (s : State) (r : ResetRun) (spareBad : Nat) (hk : InvK p0 s.kept) :
    InvK p0 (State.releaseScope s r spareBad).kept := by
  unfold State.releaseScope
  repeat' (first | exact True.intro | with_reducible exact hk | with_reducible assumption | simp only [↓kept_with, ↓kept_ite, ite_self, ↓invO_none, ↓invO_some, ↓invR_ok, ↓invR_wait, ↓invR_fail, ↓invE_ok, ↓invE_error, ↓invOA_none, ↓invOA_some, ↓State.flipBoth_kept, ↓State.flipIn_kept, ↓State.flipPair_kept, ↓State.reopenCluster_kept, ↓State.sealAmber_kept] | with_reducible apply invA_say | with_reducible apply invA_id | with_reducible apply invA_ite | with_reducible apply invO_ite | with_reducible apply invR_ite | with_reducible apply invE_ite | with_reducible apply State.applyMarks_inv | with_reducible apply State.computeApply_inv | with_reducible apply State.marchTakes_inv | with_reducible apply State.stepEight_inv | with_reducible refine inv_foldl (fun _ _ _ => ?_) ?_ | split)

theorem State.verdict_inv (s : State) (n : Nat) (past : List Suspect) (hk : InvK p0 s.kept) :
    InvK p0 (State.verdict s n past).kept := by
  unfold State.verdict
  repeat' (first | exact True.intro | with_reducible exact hk | with_reducible assumption | simp only [↓kept_with, ↓kept_ite, ite_self, ↓invO_none, ↓invO_some, ↓invR_ok, ↓invR_wait, ↓invR_fail, ↓invE_ok, ↓invE_error, ↓invOA_none, ↓invOA_some, ↓State.enableAgain_kept, ↓State.endReplay_kept, ↓State.faultRecord_kept, ↓State.flightGuilty_kept, ↓State.odInc_kept, ↓State.qGo_kept] | with_reducible apply invA_say | with_reducible apply invA_id | with_reducible apply invA_ite | with_reducible apply invO_ite | with_reducible apply invR_ite | with_reducible apply invE_ite | with_reducible apply State.coreDefect_inv | with_reducible refine inv_foldl (fun _ _ _ => ?_) ?_ | split)

theorem State.replayEnds_inv (s : State) (n : Nat) (hung : Bool) (hk : InvK p0 s.kept) :
    InvK p0 (State.replayEnds s n hung).kept := by
  unfold State.replayEnds
  repeat' (first | exact True.intro | with_reducible exact hk | with_reducible assumption | simp only [↓kept_with, ↓kept_ite, ite_self, ↓invO_none, ↓invO_some, ↓invR_ok, ↓invR_wait, ↓invR_fail, ↓invE_ok, ↓invE_error, ↓invOA_none, ↓invOA_some, ↓State.setReplay_kept] | with_reducible apply invA_say | with_reducible apply invA_id | with_reducible apply invA_ite | with_reducible apply invO_ite | with_reducible apply invR_ite | with_reducible apply invE_ite | with_reducible apply State.coreFence_inv | with_reducible apply State.verdict_inv | with_reducible refine inv_foldl (fun _ _ _ => ?_) ?_ | split)

theorem State.restoreEntries_inv (s : State) (mine : LEntry → Bool) (hk : InvK p0 s.kept) :
    InvK p0 (State.restoreEntries s mine).kept := by
  unfold State.restoreEntries
  repeat' (first | exact True.intro | with_reducible exact hk | with_reducible assumption | simp only [↓kept_with, ↓kept_ite, ite_self, ↓invO_none, ↓invO_some, ↓invR_ok, ↓invR_wait, ↓invR_fail, ↓invE_ok, ↓invE_error, ↓invOA_none, ↓invOA_some, ↓State.odInc_kept] | with_reducible apply invA_say | with_reducible apply invA_id | with_reducible apply invA_ite | with_reducible apply invO_ite | with_reducible apply invR_ite | with_reducible apply invE_ite | with_reducible apply State.wr_inv | with_reducible refine inv_foldl (fun _ _ _ => ?_) ?_ | split)

theorem State.ringWrite_inv (s : State) (k : Nat) (time : Nat) (bs : List Byte) (hk : InvK p0 s.kept) :
    InvK p0 (State.ringWrite s k time bs).kept := by
  unfold State.ringWrite
  repeat' (first | exact True.intro | with_reducible exact hk | with_reducible assumption | simp only [↓kept_with, ↓kept_ite, ite_self, ↓invO_none, ↓invO_some, ↓invR_ok, ↓invR_wait, ↓invR_fail, ↓invE_ok, ↓invE_error, ↓invOA_none, ↓invOA_some, ↓State.patternCut_kept, ↓State.ringLost_kept, ↓State.setHdr_kept] | with_reducible apply invA_say | with_reducible apply invA_id | with_reducible apply invA_ite | with_reducible apply invO_ite | with_reducible apply invR_ite | with_reducible apply invE_ite | with_reducible apply State.hbmPut_inv | with_reducible refine inv_foldl (fun _ _ _ => ?_) ?_ | split)

theorem State.scrub_inv (s : State) (p : Nat) (hk : InvK p0 s.kept) :
    InvK p0 (State.scrub s p).kept := by
  unfold State.scrub
  repeat' (first | exact True.intro | with_reducible exact hk | with_reducible assumption | simp only [↓kept_with, ↓kept_ite, ite_self, ↓invO_none, ↓invO_some, ↓invR_ok, ↓invR_wait, ↓invR_fail, ↓invE_ok, ↓invE_error, ↓invOA_none, ↓invOA_some, ↓State.hcClear_kept, ↓State.keepColl_kept] | with_reducible apply invA_say | with_reducible apply invA_id | with_reducible apply invA_ite | with_reducible apply invO_ite | with_reducible apply invR_ite | with_reducible apply invE_ite | with_reducible apply State.coreClear_inv | with_reducible apply State.scrubFill_inv | with_reducible apply State.zero_inv | with_reducible refine inv_foldl (fun _ _ _ => ?_) ?_ | split)

theorem State.scrubEnd_inv (s : State) (p : Nat) (keys : Nat) (result : Nat) (hk : InvK p0 s.kept) :
    InvK p0 (State.scrubEnd s p keys result).kept := by
  unfold State.scrubEnd
  repeat' (first | exact True.intro | with_reducible exact hk | with_reducible assumption | simp only [↓kept_with, ↓kept_ite, ite_self, ↓invO_none, ↓invO_some, ↓invR_ok, ↓invR_wait, ↓invR_fail, ↓invE_ok, ↓invE_error, ↓invOA_none, ↓invOA_some, ↓State.flightForce_kept, ↓State.odSet_kept, ↓State.odSetN_kept, ↓State.partGo_kept, ↓State.qGo_kept, ↓State.raise_kept, ↓State.setPart_kept, ↓State.tableEnds_kept] | with_reducible apply invA_say | with_reducible apply invA_id | with_reducible apply invA_ite | with_reducible apply invO_ite | with_reducible apply invR_ite | with_reducible apply invE_ite | with_reducible apply State.complete_inv | with_reducible apply State.create_inv | with_reducible refine inv_foldl (fun _ _ _ => ?_) ?_ | split)

theorem State.stepFour_inv (s : State) (hk : InvK p0 s.kept) :
    InvK p0 (State.stepFour s).kept := by
  unfold State.stepFour
  repeat' (first | exact True.intro | with_reducible exact hk | with_reducible assumption | simp only [↓kept_with, ↓kept_ite, ite_self, ↓invO_none, ↓invO_some, ↓invR_ok, ↓invR_wait, ↓invR_fail, ↓invE_ok, ↓invE_error, ↓invOA_none, ↓invOA_some, ↓State.bandStart_kept, ↓State.bringupMarch_kept, ↓State.lifeSet_kept, ↓State.linkDetect_kept, ↓State.linksProgress_kept, ↓State.storeCause_kept] | with_reducible apply invA_say | with_reducible apply invA_id | with_reducible apply invA_ite | with_reducible apply invO_ite | with_reducible apply invR_ite | with_reducible apply invE_ite | with_reducible apply State.applyMarks_inv | with_reducible refine inv_foldl (fun _ _ _ => ?_) ?_ | split)

theorem State.switchFreq_inv (s : State) (f : Nat) (hk : InvK p0 s.kept) :
    InvK p0 (State.switchFreq s f).kept := by
  unfold State.switchFreq
  repeat' (first | exact True.intro | with_reducible exact hk | with_reducible assumption | simp only [↓kept_with, ↓kept_ite, ite_self, ↓invO_none, ↓invO_some, ↓invR_ok, ↓invR_wait, ↓invR_fail, ↓invE_ok, ↓invE_error, ↓invOA_none, ↓invOA_some, ↓State.pulse_kept] | with_reducible apply invA_say | with_reducible apply invA_id | with_reducible apply invA_ite | with_reducible apply invO_ite | with_reducible apply invR_ite | with_reducible apply invE_ite | with_reducible apply State.faultReset_inv | with_reducible refine inv_foldl (fun _ _ _ => ?_) ?_ | split)

theorem spadWrite_inv (n : Nat) (s : State) (x2 : List (Nat × List Byte)) (hk : InvK p0 s.kept) :
    InvK p0 (spadWrite n s x2).1.kept := by
  induction x2 generalizing s with
  | nil => exact hk
  | cons e l ih =>
    simp only [spadWrite]
    split
    · exact ih _ (State.wr_inv _ _ _ hk)
    · exact State.wr_inv _ _ _ hk

theorem State.tFinish_inv (s : State) (n : Nat) (q : QOp) (hk : InvK p0 s.kept) :
    InvK p0 (State.tFinish s n q).kept := by
  unfold State.tFinish
  repeat' (first | exact True.intro | with_reducible exact hk | with_reducible assumption | simp only [↓kept_with, ↓kept_ite, ite_self, ↓invO_none, ↓invO_some, ↓invR_ok, ↓invR_wait, ↓invR_fail, ↓invE_ok, ↓invE_error, ↓invOA_none, ↓invOA_some, ↓State.asyncFault_kept, ↓State.progressed_kept, ↓State.releaseCore_kept, ↓State.setCore_kept, ↓State.setPart_kept, ↓State.signalCE_kept] | with_reducible apply invA_say | with_reducible apply invA_id | with_reducible apply invA_ite | with_reducible apply invO_ite | with_reducible apply invR_ite | with_reducible apply invE_ite | with_reducible apply spadWrite_inv | with_reducible refine inv_foldl (fun _ _ _ => ?_) ?_ | split)

theorem State.unsealSegs_inv (s : State) (u : Unseal) (key : List Byte) (h : List Byte) (len : Nat) (x5 : Nat) (x6 : Nat) (hk : InvK p0 s.kept) :
    InvK p0 (State.unsealSegs s u key h len x5 x6).2.kept := by
  induction x5 generalizing s x6 with
  | zero => rw [State.unsealSegs]; exact hk
  | succ k ih =>
    rw [State.unsealSegs]
    split
    · exact hk
    · exact ih _ _ (State.put_inv s _ _ hk)

theorem State.unsealRun_inv (s : State) (u : Unseal) (hk : InvK p0 s.kept) :
    InvK p0 (State.unsealRun s u).2.2.kept := by
  unfold State.unsealRun
  have hs : ∀ key h len k i, InvK p0 (s.unsealSegs u key h len k i).2.kept := fun key h len k i =>
    State.unsealSegs_inv s u key h len k i hk
  simp only []
  repeat' (first | with_reducible exact hk | split)
  · rename_i e
    exact (congrArg (fun r => InvK p0 r.2.kept) e).mp (hs _ _ _ _ _)
  · rename_i e
    exact State.put_inv _ _ _ ((congrArg (fun r => InvK p0 r.2.kept) e).mp (hs _ _ _ _ _))

theorem State.vFinish_inv (s : State) (n : Nat) (q : QOp) (hk : InvK p0 s.kept) :
    InvK p0 (State.vFinish s n q).kept := by
  unfold State.vFinish
  repeat' (first | exact True.intro | with_reducible exact hk | with_reducible assumption | simp only [↓kept_with, ↓kept_ite, ite_self, ↓invO_none, ↓invO_some, ↓invR_ok, ↓invR_wait, ↓invR_fail, ↓invE_ok, ↓invE_error, ↓invOA_none, ↓invOA_some, ↓State.progressed_kept, ↓State.releaseCore_kept, ↓State.setCore_kept, ↓State.setPart_kept, ↓State.signalCE_kept] | with_reducible apply invA_say | with_reducible apply invA_id | with_reducible apply invA_ite | with_reducible apply invO_ite | with_reducible apply invR_ite | with_reducible apply invE_ite | with_reducible apply State.wr_inv | with_reducible refine inv_foldl (fun _ _ _ => ?_) ?_ | split)

theorem State.windowPut_inv (s : State) (ecc : Ecc) (a : Nat) (bs : List Byte) (hk : InvK p0 s.kept) :
    InvK p0 (State.windowPut s ecc a bs).kept := by
  unfold State.windowPut
  repeat' (first | exact True.intro | with_reducible exact hk | with_reducible assumption | simp only [↓kept_with, ↓kept_ite, ite_self, ↓invO_none, ↓invO_some, ↓invR_ok, ↓invR_wait, ↓invR_fail, ↓invE_ok, ↓invE_error, ↓invOA_none, ↓invOA_some, ↓State.corrected_kept, ↓State.eccSeen_kept, ↓State.freeVal_kept, ↓State.odInc_kept, ↓State.spoil_kept] | with_reducible apply invA_say | with_reducible apply invA_id | with_reducible apply invA_ite | with_reducible apply invO_ite | with_reducible apply invR_ite | with_reducible apply invE_ite | with_reducible apply State.put_inv | with_reducible refine inv_foldl (fun _ _ _ => ?_) ?_ | split)

end Sys2Proof.Machine
end

