-- ==== Sys2Proof/WellFormed.lean ====
section
/-! DEFINITION. Which commands are well formed: the operands that Lean's types do not bound have the lengths and bounds that the manual
gives the things they carry (R15, R176, R205, R212, R239, R247, R257, R431, R433, R477). Every other command is well formed as it
stands. -/
namespace Sys2Proof

def Instr.wf : Instr → Bool
  | .nop _ => true
  | .endOp _ => true
  | .yield _ => true
  | .li _ => true
  | .lih _ => true
  | .add _ => true
  | .sub _ => true
  | .mul _ => true
  | .and _ => true
  | .or _ => true
  | .xor _ => true
  | .shl _ => true
  | .shr _ => true
  | .sra _ => true
  | .slt _ => true
  | .sltu _ => true
  | .lds _ => true
  | .sts _ => true
  | .beq _ => true
  | .bne _ => true
  | .blt _ => true
  | .bge _ => true
  | .bltu _ => true
  | .bgeu _ => true
  | .jal _ => true
  | .jr _ => true
  | .loop _ => true
  | .wait _ => true
  | .sig _ => true
  | .cset _ => true
  | .crd _ => true
  | .fence _ => true
  | .cid _ => true
  | .time _ => true
  | .tdl _ => true
  | .tadv _ => true
  | .tzero _ => true
  | .tldacc _ => true
  | .tstacc _ => true
  | .mmaFp4 _ => true
  | .mmaFp8 _ => true
  | .mmaF16 _ => true
  | .mmaFp32 _ => true
  | .mmaInt8 _ => true
  | .tOpStart _ => true
  | .tOpComplete _ _ => true
  | .dmaCp _ => true
  | .rput _ _ => true
  | .rget _ => true
  | .csig _ => true
  | .rsig _ => true
  | .tbl _ _ => true
  | .mOpComplete _ _ _ _ => true
  | .vld _ => true
  | .vlds _ => true
  | .vst _ => true
  | .vsts _ => true
  | .vgath _ => true
  | .vscat _ => true
  | .vscadd _ => true
  | .vbcs _ => true
  | .vlane _ => true
  | .viota _ => true
  | .fadd _ => true
  | .fsub _ => true
  | .fmul _ => true
  | .ffma _ => true
  | .fmax _ => true
  | .fmin _ => true
  | .fabs _ => true
  | .fneg _ => true
  | .iadd _ => true
  | .isub _ => true
  | .imul _ => true
  | .imax _ => true
  | .imin _ => true
  | .vand _ => true
  | .vor _ => true
  | .vxor _ => true
  | .vshl _ => true
  | .vshr _ => true
  | .vsra _ => true
  | .fcmp _ => true
  | .icmp _ => true
  | .sel _ => true
  | .plogic _ => true
  | .pset _ => true
  | .pget _ => true
  | .vperm _ => true
  | .vrot _ => true
  | .vred _ => true
  | .vredbx _ => true
  | .vcvt _ => true
  | .mxpk _ => true
  | .mxunpk _ => true
  | .bxdep _ => true
  | .bxmrg _ => true
  | .bxfin _ => true
  | .vfunc _ => true
  | .vOpStart _ => true
  | .vOpComplete _ _ => true
  | .dispatchEntry _ => true
  | .programCopyComplete _ _ => true
  | .programCopyFault _ _ _ => true
  | .contextSwitch _ => true
  | .counterChanged _ => true
  | .asynchronousFault _ _ _ _ _ => true
  | .contextDrained _ _ => true
  | .bankCtrlWrite _ _ _ _ => true
  | .handoverPoint _ _ => true
  | .collision _ _ => true
  | .marchRequest _ _ _ => true
  | .marchTestEnd _ _ => true
  | .poolMarchEnd _ _ => true
  | .hbmRead _ _ _ errs => decide (errs ≤ 36)
  | .sectorWrite _ addr data => decide (1 ≤ data.length) && decide (addr.toNat % 64 + data.length ≤ 64)
  | .ledgerRoomFreed _ => true
  | .committedViewRead _ _ => true
  | .patrolRead _ errs => decide (errs ≤ 36)
  | .sparePairAssign _ _ _ => true
  | .sparePairCancel _ _ => true
  | .sparePairCopyDone _ => true
  | .sepiaLookup _ _ => true
  | .sepiaPool _ _ => true
  | .scatterAdd _ _ => true
  | .rowUpdate _ _ => true
  | .streamCopy _ _ => true
  | .sepiaFill _ _ => true
  | .sepiaCommandComplete _ => true
  | .sepiaWatchdogExpiry _ => true
  | .sepiaBypass _ _ _ => true
  | .epochColourDelivery _ => true
  | .epochDecisionDelivery _ => true
  | .sweepEnd _ _ => true
  | .restoreEnd _ _ => true
  | .doorbell _ _ _ => true
  | .queueEnable _ _ _ => true
  | .queueClose _ _ _ => true
  | .queueConfigWrite _ _ _ _ => true
  | .cqhIndexWrite _ _ _ => true
  | .abiReqWrite _ _ => true
  | .fnEventClear _ _ => true
  | .fnWinWrite _ _ _ => true
  | .hcntValueWrite _ _ _ _ => true
  | .hcntThreshWrite _ _ _ _ => true
  | .hcntCtrlWrite _ _ _ _ => true
  | .descriptorFetch _ => true
  | .descriptorDispatch => true
  | .nopDescriptor => true
  | .descKernel => true
  | .descCopy => true
  | .descTable => true
  | .descCollective => true
  | .waitCounter => true
  | .signalCounter => true
  | .fenceDescriptor => true
  | .epochBegin => true
  | .epochVote => true
  | .copyUnitDone _ _ _ _ => true
  | .descriptorComplete => true
  | .waitCounterTimeout _ => true
  | .functionLevelReset _ => true
  | .hostLinkLoss _ _ => true
  | .hostWindowRead _ _ _ len _ => decide (1 ≤ len.val)
  | .hostWindowWrite _ _ _ data _ => decide (1 ≤ data.length) && decide (data.length ≤ 512)
  | .registerWrite _ _ _ => true
  | .linkEnable _ _ => true
  | .linkDisable _ _ => true
  | .signalDetect _ _ => true
  | .trainingTimeout _ => true
  | .capabilityExchanged _ blocks => blocks.length == 9 && blocks.all (fun b => b.isEmpty || b.length == 64)
  | .equaliseDone _ _ => true
  | .alignDone _ seen _ => seen.length == 9
  | .qualifyWindowEnd _ errors _ => errors.length == 9
  | .qualResult _ => true
  | .degradeWindowEnd _ _ _ _ => true
  | .lossOfSignal _ _ => true
  | .swapReq _ => true
  | .swapAck _ => true
  | .halfReq _ => true
  | .halfAck _ => true
  | .swapTimeout _ => true
  | .linkDown _ => true
  | .retryIntervalExpiry _ => true
  | .flitReceive _ lanes => lanes.length == 9 && lanes.all (fun l => l.all (fun x => decide (x < 1024)))
  | .creditSync _ => true
  | .creditSyncSend _ => true
  | .loopbackRequest _ _ _ => true
  | .loopbackEnd _ results _ => results.length == 9
  | .packetRoute _ => true
  | .fabricWrite _ => true
  | .fabricRead _ => true
  | .fabricReadData _ => true
  | .fabricAck => true
  | .fabricSignal => true
  | .fabricError => true
  | .requestTimeout _ _ _ => true
  | .coordinateWrite _ _ => true
  | .routingTableWrite _ _ bytes => decide (bytes.length ≤ 65535)
  | .swapRequest _ _ => true
  | .swapStop => true
  | .swapApply => true
  | .swapResume => true
  | .windowEntryRelease _ _ => true
  | .limiterIncrease _ _ => true
  | .limiterIdleRelease _ _ => true
  | .timeMessage _ => true
  | .timeSend _ => true
  | .collUp _ _ => true
  | .downPhase _ => true
  | .collGrant => true
  | .collectiveAbort => true
  | .chunkCombined _ _ _ _ _ => true
  | .collectiveTimeout _ => true
  | .groupDescriptorWrite _ _ bytes => decide (bytes.length ≤ 65535)
  | .epochVoteMsg => true
  | .abortVote => true
  | .epochRecord => true
  | .epochTake => true
  | .epochPromise => true
  | .epochDecide => true
  | .epochQuery => true
  | .epochAnswer => true
  | .epochRestored => true
  | .epochClear => true
  | .voteTimeout _ => true
  | .outcomeTimeout _ _ => true
  | .clearTimeout _ _ => true
  | .partitionCreate _ _ => true
  | .partitionTeardown _ _ => true
  | .creationDone _ => true
  | .drainEnd _ _ => true
  | .scrubDone _ _ => true
  | .peerAdmissionWrite _ _ _ => true
  | .fabricWindowWrite _ _ _ data => decide (data.length ≤ 65535)
  | .createJobSecret _ _ => true
  | .makeOffer _ _ => true
  | .grantRequest _ data => decide (data.length ≤ 65535)
  | .installGrant _ data => decide (data.length ≤ 65535)
  | .destroyJobSecret _ _ => true
  | .unsealRequest _ data => decide (data.length ≤ 65535)
  | .tamper _ => true
  | .getVersion _ => true
  | .getCapabilities _ _ => true
  | .negotiateAlgorithms _ _ => true
  | .getDigests _ => true
  | .getCertificate _ _ _ _ => true
  | .challenge _ _ _ => true
  | .getMeasurements _ _ _ => true
  | .keyExchange _ _ _ => true
  | .finish _ _ _ => true
  | .heartbeat _ _ => true
  | .keyUpdate _ _ => true
  | .endSession _ _ => true
  | .ideKeyGet _ _ _ _ => true
  | .setPolicy _ _ _ => true
  | .keyProg _ _ _ _ _ => true
  | .kSetGo _ _ _ _ => true
  | .kSetStop _ _ _ _ => true
  | .lockInterfaceRequest _ _ => true
  | .startInterfaceRequest _ _ _ => true
  | .stopInterfaceRequest _ _ => true
  | .getDeviceInterfaceReport _ _ => true
  | .ideIntegrityFailure _ => true
  | .progressWatchdogFire _ => true
  | .stallTimerExpiry _ => true
  | .pllLossOfLock _ => true
  | .controlStateError _ => true
  | .slateSilence => true
  | .resetCore _ _ => true
  | .resetCluster _ _ => true
  | .resetComputePart _ _ => true
  | .resetWholeModule _ _ => true
  | .legacyCore _ _ => true
  | .legacyCluster _ _ => true
  | .legacyPartition _ _ => true
  | .legacyWholeModule _ _ => true
  | .resetRelease _ _ _ => true
  | .resetOverrun _ _ => true
  | .fenceEnd _ _ _ => true
  | .crossingSeal _ _ => true
  | .replayStart _ => true
  | .replayEnd _ _ => true
  | .prechargeMate _ => true
  | .prsntMate _ => true
  | .mainBladesMate _ _ => true
  | .mainSwitchClose => true
  | .inputOutOfRange _ _ => true
  | .holdupEnd => true
  | .pwrGood => true
  | .slateBootDone _ _ _ _ => true
  | .onyxRegenerationDone _ => true
  | .memoryTrainingDone _ _ => true
  | .hbmTestDone _ _ => true
  | .greyExit => true
  | .modReset => true
  | .modResetRelease => true
  | .removeReq => true
  | .removeCmd _ => true
  | .returnToService _ => true
  | .fabricRelease _ _ => true
  | .removalTimeout => true
  | .removalTeardownsDone => true
  | .removalLinksDown => true
  | .defectMarkWrite _ _ _ => true
  | .rowRemapListWrite _ bytes => decide (bytes.length ≤ 65535)
  | .failingPairsWrite _ _ _ => true
  | .powerGrantWrite _ _ => true
  | .powerMeterSample _ _ _ _ => true
  | .droopStretch _ => true
  | .guardBandNarrow => true
  | .ceilingRecompute => true
  | .paceTick => true
  | .paceReport => true
  | .paceSet => true
  | .raiseHoldExpiry => true
  | .reportRefresh => true
  | .energyAttribution m => m.ops.length == 24 && m.stackBytes.length == 16 && m.linkBytes.length == 16 && m.hostBytes.length == 16
  | .thermalSample readings predicted => readings.length == 196 && predicted.length == 196
  | .sensorFailed _ => true
  | .lowFlow => true
  | .leakMeasurement _ => true
  | .leakSelfTest _ _ => true
  | .safetyCauseStore => true
  | .safetySwitchOpen => true
  | .dieComparatorTrip _ => true
  | .managerAbsenceExpiry => true
  | .telemetrySample => true
  | .openSession _ _ _ _ _ => true
  | .closeSession _ => true
  | .keepalive _ => true
  | .readObject _ _ _ _ => true
  | .writeObject _ _ _ _ bytes => decide (bytes.length ≤ 1484)
  | .segReadInit _ _ _ _ => true
  | .segReadData _ _ => true
  | .segWriteInit _ _ _ _ _ => true
  | .segWriteData _ _ bytes => decide (bytes.length ≤ 1484)
  | .segAbort _ => true
  | .eventAck _ _ => true
  | .discover _ _ _ _ => true
  | .announce => true
  | .eventResend _ _ => true
  | .sessionTimeout _ => true
  | .segmentIdleTimeout _ => true
  | .beacon => true
  | .beaconTimeout => true
  | .reqTailWrite _ => true
  | .rspHeadWrite _ => true
  | .firmwareImagePart _ bytes => decide (bytes.length ≤ 65535)
  | .loadingDone _ => true
  | .handOver _ => true
  | .handoverDone => true
  | .handoverConfirmTimeout => true
  | .fwComplete _ => true
  | .completingDone => true
  | .fwRevert _ => true
  | .revertingDone => true
  | .fwCancel _ => true
  | .fuseStep => true
  | .licenceWrite _ bytes => decide (bytes.length ≤ 65535)
  | .traceRecord _ => true
  | .traceFrame => true
  | .snapshotLatch _ => true
  | .swapDeskewDone _ _ => true
  | .alignmentLost _ => true
  | .sepiaInternalCheckFailure _ => true
  | .onyxOperationDone _ => true
  | .hostLinkTrained _ _ => true
  | .inputReturn _ _ => true
  | .tckCycle _ _ _ _ => true
  | .trstAssert => true
  | .verificationDone => true
  | .cancellingDone => true

end Sys2Proof
end

