-- ==== Sys2Proof/Tests/Slice0.lean ====
section
/-! SUPPORT. The tests: for every statement with hypotheses, states and operands that meet the hypotheses of each of its clauses
(`test_hyps_<statement>`); the worked examples of the manual; an ill-formed command for each check. -/

open Sys2Proof Sys2Proof.Machine
namespace Sys2Proof.Tests
set_option maxRecDepth 100000
set_option Elab.async false

def put (n : Nat) (c : Core) (s : State := State.reset) : State := s.setCore n c

def lau (len : Nat := 2) (grant : Nat := 2 ^ 64 - 1) (part : Nat := 0) (acc : Bool := true) : Launch :=
  { Launch.blank with len := len, grant := BitVec.ofNat 64 grant, part := part, acc0 := acc, acc1 := acc }

def runs (n : Nat) (ws : List Nat) (regs : List (Nat × Word) := [(1, 7), (2, 5), (3, 9), (4, 0xFFFF_FFFF_FFFF_FFF8), (5, 24)]) (k : Nat := 0)
    (pc : Nat := 0) (len : Nat := 0) (f : Core → Core := id) (g : Ctx → Ctx := id) (s : State := State.reset) : State :=
  let x : Ctx := g { Ctx.blank with st := .running, pc := pc, sreg := regs, launch := lau (if len = 0 then ws.length + pc + 1 else len) }
  let s := s.setCore n (f ({ s.core n with cur := k }.withSlot k x))
  s.wr (istoreBase n + 8 * pc) (ws.flatMap (leBytes 8))

def cop (op : Nat) (sd : Nat := 0) (sa : Nat := 0) (sb : Nat := 0) (imm : Nat := 0) (cnt : Nat := 0) : Nat :=
  op * 2 ^ 56 + sd * 2 ^ 51 + sa * 2 ^ 46 + sb * 2 ^ 41 + cnt * 2 ^ 35 + imm % 2 ^ 32

def ins (grp op : Nat) (rest : Nat := 0) : Nat := grp * 2 ^ 62 + op * 2 ^ 56 + rest

def fld (lo v : Nat) : Nat := v * 2 ^ lo

def td (rows cols fmt : Nat) (base : Nat := 0) (stride : Nat := 4) (index : Nat := 0) (scale : Nat := 0) (ax : Nat := 0) : BitVec 256 :=
  BitVec.ofNat 256 (fld 192 index + fld 138 scale + fld 106 base + fld 90 stride + fld 77 rows + fld 64 cols + fld 59 fmt + fld 58 ax)

def lpart : Part := { Part.blank with st := .live, clusters := 0x3, regions := [(0, 0x1000000)] }

def up : State := { State.reset with faults := { Faults.reset with resets := [] }, life := { Life.reset with svc := .green }, parts := [(0, lpart)] }

def refN : Nat := 0x000F_FFFF

def GD (n : Nat := 1) (rank : Nat := 0) (parent : Nat := refN) (ch : List Nat := []) (succ : List Nat := []) (flags : Nat := 0) (part : Nat := 0) (gen : Nat := 0) : List Byte :=
  [1, BitVec.ofNat 8 flags, BitVec.ofNat 8 part, BitVec.ofNat 8 (max 1 ch.length), BitVec.ofNat 8 gen, 1, 0, 0] ++ leBytes 4 n ++ leBytes 4 rank ++ leBytes 4 1000 ++ leBytes 4 parent ++
  ((List.range 8).flatMap fun k => leBytes 4 (ch.getD k refN)) ++ ((List.range 4).flatMap fun k => leBytes 4 (succ.getD k refN)) ++ leBytes 8 0 ++ leBytes 8 0 ++ leBytes 4 0

def grp (b : List Byte) (s : State) (st : Nat := 1) (g : Nat := 1) : State := (s.odSet 0x5100 (g + 1) (.blob b)).odSetN 0x5200 (g + 1) st

def D (ty : Nat) (fs : List (Nat × Nat)) (slots : Nat := 1) (flags : Nat := 0) : List Byte := leBytes (64 * slots) (ty + 256 * (slots - 1) + flags + (fs.map (fun f => f.2 * 2 ^ f.1)).sum)

def dq (bs : List (List Byte)) (code : QCode := .enabled) (lg : Nat := 6) : Queue :=
  { Queue.blank with ring := 0x10000 + lg, cq := 0x20000 + 6, code := code, head := 2, tail := 5, cqwr := 4, cqhead := 1, phase := true, fetched := bs.zipIdx.map (fun b => ⟨b.2, 2 + b.2, b.1, some 0⟩), count := bs.length }

def ds (bs : List (List Byte)) (ch : Bool := true) (g : State → State := id) : State :=
  let u := { up with queues := [(0, dq bs)], fns := [(0, { Fn.blank with abiAgreed := 3 })] }
  g { u with disp := { u.disp with chosen := if ch then some 0 else none, last := 1023 } }

def pk (op : Nat) (f : Pkt → Pkt := id) (pl : List Byte := []) : Pkt := f { Pkt.req op 0x21 0 3 0 pl with src := 0x40, seq := 5 }

def fab0 : State := ((up.odSetN 0x4400 0 0x21).odSetN 0x6010 1 0x8).odSet 0x6100 3 (.blob (leBytes 8 0x1000 ++ leBytes 8 0x1000 ++ leBytes 8 3))

def inb (ps : List Pkt) (g : State → State := id) : State := g { fab0 with fabric := { fab0.fabric with inbox := ps } }

def FR (sess : Nat := 7) (seq : Nat := 4) (ver : Nat := 3) : Frame := ⟨.m, 0x1122, BitVec.ofNat 48 up.station, BitVec.ofNat 8 ver, BitVec.ofNat 16 sess, BitVec.ofNat 16 seq, true, true⟩

def SX (f : Session → Session := id) : Session := f ⟨7, 1, .m, 0x1122, 3, 1, 0, 0, 3, false, 0, 30, [], none, [], 0⟩

def ses (g : State → State := id) (f : Session → Session := id) (s : State := up) : State := g { s with mgmt := { s.mgmt with sessions := [SX f] } }

/-- A packet under a job secret, and a module that holds none and has received it. -/
def sealedPk : Pkt := { pk 0 with keyid := 9 }

def locked : State := inb [{ sealedPk with win := 2, offset := 16, payload := [1, 2, 3] }]

/-- Whether `NextIn` and `InSession` hold, as tests that run. -/
def nextInB (s : State) (f : Frame) (x : Session) : Bool :=
  decide (s.handing = false ∧ f.door = .m ∧ s.accepts f = true ∧ f.sound = true ∧ f.formed = true ∧ s.sessionOf f = some x ∧
    s.session? x.id = some x ∧ f.ver.toNat = x.ver ∧ s.odPending 0x1110 0 = none ∧ x.early = [] ∧
    (∀ e ∈ x.store, e.1 ≠ f.seq.toNat) ∧ (x.fresh = true ∨ f.seq.toNat = (x.top + 1) % 65536))

def inSessionB (s : State) (f : Frame) (x : Session) : Bool := s.activeRuns && nextInB s f x

/-- Whether an address lies in a core's control window. -/
def isCtl : Region → Bool
  | .coreCtl _ _ => true
  | _ => false

theorem not_ctl_iff (r : Region) : (∀ k o, r ≠ .coreCtl k o) ↔ isCtl r = false := by
  cases r <;> simp [isCtl]

theorem nextIn_iff (s : State) (f : Frame) (x : Session) : s.NextIn f x ↔ nextInB s f x = true := by
  unfold State.NextIn nextInB
  exact decide_eq_true_iff.symm

theorem inSession_iff (s : State) (f : Frame) (x : Session) : s.InSession f x ↔ inSessionB s f x = true := by
  unfold State.InSession inSessionB
  rw [Bool.and_eq_true, nextIn_iff]

/-- Whether `Takes` holds, as a test that runs. -/
def takesB (s : State) (c : Instr) : Bool :=
  match objectOf c with
  | some (f, idx, sub, bs) =>
    match s.sessionOf f with
    | some x => inSessionB s f x && (s.odStatus .m idx sub bs).1 == 0
    | none => false
  | none => false

theorem takes_iff (s : State) (c : Instr) : s.Takes c ↔ takesB s c = true := by
  unfold State.Takes takesB
  constructor
  · rintro ⟨f, i, j, bs, x, h, hs, h0⟩
    have hx : s.sessionOf f = some x := hs.2.2.2.2.2.2.1
    simp [h, hx, (inSession_iff s f x).1 hs, h0]
  · cases h : objectOf c with
    | none => simp
    | some p =>
      obtain ⟨f, i, j, bs⟩ := p
      cases hx : s.sessionOf f with
      | none => simp [hx]
      | some x => intro hb; simp [hx] at hb; exact ⟨f, i, j, bs, x, rfl, (inSession_iff s f x).2 hb.1, hb.2⟩

/-! States for the hypotheses of Contexts_AsynchronousFaults, Contexts_ContextEnds. -/
namespace AsynchronousFaultsStates
def cst (sts : List (CtxSt × WaitFor)) (cur : Nat := 3) (n : Nat := 0) (s : State := up) (f : Core → Core := id) (rep : Bool := false) : State :=
  let c := { Core.blank with cur := cur, cnt := [(2, 7)], ctx := sts.mapIdx (fun i x => (i, { Ctx.blank with st := x.1, wait := x.2, sreg := [(1, 5)], pc := i, launch := { Launch.blank with base := 100 + 10 * i, len := 5, replay := rep }, faultCode := if i = 2 ∧ x.1 = .draining then 3 else 0, faultInfo := if i = 2 then 77 else 0 })) }
  (put n (f c) s)
def q (s : Nat) : QOp := ⟨s, 5, 0, 0, 0, 0⟩
def mm (i s : Nat) (p : MPhase) : MOp := ⟨i, s, 5, 0,0,0,0,0,p,0,0,0⟩
def busy (c : Core) : Core := { c with tq := [q 0, q 1, q 2, q 3], vq := [q 3, q 1], mops := [mm 0 1 .queued, mm 1 1 .started, mm 2 2 .queued, mm 3 0 .handover], tRun := some (q 1), vRun := some (q 2) }
def st (i : Nat) : State :=
  ([cst [(.ready, .nothing)], cst [(.ready, .nothing)] 0, cst [(.ready, .nothing), (.waiting, .nothing), (.ready, .nothing)] 0, cst [(.ready, .nothing), (.waiting, .nothing), (.ready, .nothing)] 2,
  cst [(.waiting, .counter 2 7), (.waiting, .counter 2 8), (.waiting, .counter 0 0), (.waiting, .nothing)],
  cst [(.waiting, .fence 7), (.waiting, .fence 1), (.waiting, .fence 2), (.waiting, .fence 4)] (f := busy), cst [(.running, .nothing), (.draining, .nothing), (.draining, .nothing)] (f := busy), cst [(.running, .nothing), (.draining, .nothing), (.draining, .nothing)] (rep := true)] : List State).getD i State.reset
end AsynchronousFaultsStates

/-! States for the hypotheses of Attestation. -/
namespace AttestationStates
def spd (x : Spdm) (g : State → State := id) : State := g { up with sec := { up.sec with spdm := [(0, x), (1, x)] } }
def chn (s : State) : State := s.odSet 0x6402 0 (.blob [1,2,3,4,5])
def L1 : List State := [spd ⟨0, 0, []⟩, spd ⟨1, 0x12, []⟩, spd ⟨2, 0x12, []⟩, spd ⟨3, 0x12, []⟩ chn, spd ⟨3, 0x13, [⟨5, false, 9⟩, ⟨6, true, 9⟩]⟩ chn, spd ⟨3, 0x13, [⟨5, true, 9⟩, ⟨6, true, 9⟩, ⟨0x10005, true, 9⟩, ⟨0x20005, true, 9⟩]⟩ chn, (spd ⟨3, 0, []⟩).odSetN 0x6000 0 0]
def sx : Spdm := ⟨3, 0x13, [⟨5, true, 9⟩]⟩
def sec (k : Ide) (tdi : Nat) (g : State → State := id) (st : PartSt := .live): State :=
  let s := spd sx
  let s := { s with parts := [(0, { lpart with secure := true, st := st })], sec := { s.sec with ide := [(0, k), (1, k)], nonce := [(0, 77)] } }
  g (s.odSetN 0x6031 1 tdi)
def st (i : Nat) : State :=
  (L1 ++ L1.map fun s => { s with sec := { s.sec with onyx := { s.sec.onyx with identity := true } } } : List State).getD i State.reset
end AttestationStates

/-! States for the hypotheses of Banks_BankWrites, Banks_Handover. -/
namespace BankWritesStates
def bst (b : Bank) (no : Nat := 5) (n : Nat := 0) (s : State := up) (f : Core → Core := id) : State :=
  let s := put n (f { Core.blank with bank := [(no, b)] }) s
  s.wr (spadBase n + no * 32) [1,2,3,4] |>.wr (spadBase n + 0x1000) [7,8] |>.wr (poolBase 0) [9] |>.wr (poolBase 0 + 0x80_0000 - 1) [9, 9]
def B := Bank.blank
def wd (o nb p : Nat) : Word := BitVec.ofNat 64 (o + nb * 16 + p * 1024)
def dk (w : Word) (p : Pwr) : State := bst { B with pwr := p, moving := some ⟨.host 0, w⟩ }
def ma (d : Bool) (a : Nat): State := bst B (f := fun c => { c with march := some ⟨5, a, d, false, none⟩ })
def dmst (v : Nat) (x : Bank) (ce : Nat := 1) (d : Nat := 0) : State :=
  let w : Word := BitVec.ofNat 64 (ins 2 0 (fld 40 ce + fld 34 7))
  let m : MOp := ⟨5, 0, w, BitVec.ofNat 64 (bankCtrlAddr 0 5 + d), 0, BitVec.ofNat 64 (spadBase 0 + 0x1000), 0, 8, .started, 0, 0, 0⟩
  (bst x (f := fun c => { c with ctx := [(0, { Ctx.blank with st := .running, launch := lau 3 })], mops := [m, { m with id := 9, phase := .queued }], cnt := [(4, 9), (7, 2)] })).wr (spadBase 0 + 0x1000) (leBytes 8 v)
def hdm (x : Bank) (v : Nat) : State :=
  let s := dmst v { x with moving := some ⟨.dma 0 5, BitVec.ofNat 64 v⟩ }
  s.updMop 0 5 (fun m => { m with phase := .handover })
def dm2 : State :=
  let z := dmst 4 { B with owner := 1, nbr := 2 }
  let z := z.setCore 2 { Core.blank with ctx := [(0, { Ctx.blank with st := .running, launch := lau 3 })], mops := ((z.core 0).mops.map fun m => { m with s := BitVec.ofNat 64 (spadBase 2 + 0x1000) }), cnt := [(7, 3)] }
  z.wr (spadBase 2 + 0x1000) (leBytes 8 4)
def DL : List State := [dm2, dm2.setBank 0 5 { B with moving := some ⟨.dma 2 5, 4⟩, owner := 1, nbr := 2 }, dmst 0x60 B, dmst 0x63 B, dmst 4 B, dmst 0x61 B, dmst 0x10001 B, dmst 4 { B with owner := 4 }, dmst 4 { B with owner := 1, nbr := 2 }, dmst 4 { B with owner := 2 }, dmst 4 { B with moving := some ⟨.host 0, 1⟩ }, dmst 4 B (ce := 0), dmst 4 { B with owner := 1, nbr := 0 }, hdm B 4, hdm { B with pwr := .dark } 0, hdm { B with pwr := .dark } 3]
def st (i : Nat) : State :=
  (DL ++ [bst B, bst { B with moving := some ⟨.host 0, 1⟩ }, bst { B with owner := 4 }, bst { B with owner := 4, moving := some ⟨.host 0, 1⟩ , held := [⟨.host 0, 4⟩]},
  dk 1 .lit, dk (wd 0 0 0) .dark, dk (wd 0 0 1) .dark, dk (wd 0 0 2) .dark, dk (wd 3 6 0) .dark, dk (wd 4 0 0) .dim, bst { B with failed := true, moving := some ⟨.host 0, wd 0 0 0⟩ },
  ma true 0, ma false 1, ma true 1, (bst B).odSet 0x8805 1 (.num (2^28)), ((bst B).odSet 0x8805 1 (.num (2^28))).odSet 0x8800 0 (.num 1)] : List State).getD i State.reset
end BankWritesStates

/-! States for the hypotheses of ObjectRequests_BlockRequests, ObjectRequests_ServiceRequests. -/
namespace BlockRequestsStates
def rt : List Byte := [1, 1, 1, 1, 1, 0, 0, 0] ++ (List.range 8).flatMap (fun _ => leBytes 2 1) ++ List.replicate 40 0
def gw : List Byte := (GD (succ := [0x21]) ++ List.replicate (128 - GD.length) 0).set 3 3
def own (s : State) : State := s.odSetN 0x4400 0 0x21
def lock (s : State) : State := { own s with clk := { s.clk with fabricLocked := true } }
def lf (f : Life → Life) (s : State) : State := { s with life := f s.life }
def fwst (n : Nat) (s : State) : State := { s with fw := { s.fw with state := n } }
def st (i : Nat) : State :=
  ([ses own, ses (lf (fun l => { l with svc := .grey })), ses (fun s => s.setCore 0 { Core.blank with march := some ⟨5, 0, true, false, none⟩ }), ses (fun s => s.odSetN 0x8011 1 1), ses (lf (fun l => { l with begun := true })), ses (fun s => (s.setLink 0 { Link.blank with st := .active }).setLink 1 { Link.blank with st := .down }), ses (fun s => s.setLink 0 { Link.blank with st := .active, txq := [pk 0] }),
   ses (fun s => (lock s).odSet 0x4411 0 (.blob rt)), ses (fun s => own (grp gw s 2)), ses (fun s => own (grp gw s 1)), ses (fun s => (lock s).odSet 0x4411 0 (.blob rt) |>.odSetN 0x4402 0 0),
   ses (lf (fun l => { l with svc := .black, removal := 3 })), ses (lf (fun l => { l with removal := 2 })), ses (fwst 4), ses (fwst 6), ses (fwst 16), ses (fun s => { fwst 1 s with fw := { s.fw with state := 1, total := 5000 } })] : List State).getD i State.reset
end BlockRequestsStates

/-! States for the hypotheses of InsertionToRemoval_BringUp. -/
namespace BringUpStates
def rr (scope target : Nat) (held : Bool := false) : ResetRun := ⟨scope, target, 0, false, false, held, [], 0⟩
def grey (s : State) : State := { s with life := { s.life with svc := .grey } }
def pin (f : Life → Life) (g : State → State := id) : State := g { up with life := f up.life, mem := [(5, 6)], hostMem := [(7, 8)] }
def L3 : List State := [pin id, pin (fun l => { l with present := false }), pin (fun l => { l with present := false, precharge := false, blades := false }), pin (fun l => { l with blades := false }), pin (fun l => { l with mainSwitch := false, powerGood := false, bulkReady := true }), pin (fun l => { l with powerGood := false }),
  pin (fun l => { l with absentAt := some 5 }), pin (fun l => { l with holdup := true }), grey (pin id), grey (pin (fun l => { l with begun := true, memTrained := 0xFFFE })), grey (pin (fun l => { l with begun := true, memTrained := 0xFFFF, memTested := 0xFFFE })), grey (pin id (fun s => s.odSetN 0x2003 0 1023)), grey (pin id (fun s => (s.odSetN 0x2003 0 1023).odSetN 0x2001 0 0)), grey (pin id (fun s => ((s.odSetN 0x2003 0 1023).odSetN 0x2001 0 0).odSetN 0x2002 0 4)),
  pin (fun l => { l with modReset := true }) (fun s => { s with faults := { s.faults with resets := [rr 4 0 true] } }), pin id (fun s => { s with parts := [(0, lpart), (1, { lpart with st := .absent })] }), pin (fun l => { l with removal := 1 }) (fun s => { s with parts := [] }), pin (fun l => { l with removal := 1 }) (fun s => { s with parts := [] }.odSetN 0x4400 0 5), pin (fun l => { l with removal := 2 }), pin (fun l => { l with removal := 2, released := some 5 }) (fun s => s.setLink 1 { Link.blank with st := .active })]
def st (i : Nat) : State :=
  (L3 : List State).getD i State.reset
end BringUpStates

/-! States for the hypotheses of . -/
namespace BxMergeStates
def st (i : Nat) : State :=
  ([up, up] : List State).getD i State.reset
end BxMergeStates

/-! States for the hypotheses of . -/
namespace CapabilityMessagesStates
def lk (st : LinkSt) (n : Nat := 0) (f : Link → Link := id) (g : State → State := id) : State := g (up.setLink n (f { Link.blank with st := st }))
def st (i : Nat) : State :=
  ([up, lk .active 0 id (fun s => s.odSetN 0x4005 1 1)] : List State).getD i State.reset
end CapabilityMessagesStates

/-! States for the hypotheses of . -/
namespace CodewordPairsStates
def st (i : Nat) : State :=
  ([up] : List State).getD i State.reset
end CodewordPairsStates

/-! States for the hypotheses of Collectives_CollectiveChunks. -/
namespace CollectiveChunksStates
def K : Nat := 0x300040
def gdr : List Byte := GD 2 0 refN [K]
def gdm : List Byte := GD 2 1 K
def bitsC (cnt : Nat := 2) (fmt kind opr : Nat := 0) : Nat := leNat (D 4 [(500, 1), (496, kind), (492, opr), (487, fmt), (441, 0x1000), (397, 0x2000), (365, cnt)])
def cl (gd : List Byte) (b : Nat := bitsC) (f : Coll → Coll := id) : Coll := f ⟨⟨0,0⟩, 1, 0, 0, b, gd, colChunks gd b, [], false, 0, 0, [], [], [], [], [], [], none, []⟩
def cst (gd : List Byte) (c : Coll) (ps : List Pkt) (g : State → State := id) : State :=
  let s := grp gd fab0 2
  let s := s.odSetN 0x5300 2 1
  g { s with colls := { s.colls with run := [c], begun := [(1, true)] }, fabric := { s.fabric with inbox := ps } }
def cp (phase j off : Nat) (bs : List Byte) : Pkt := pk 5 (fun p => { p with win := phase * 16, offset := off, aux := 2 ^ 20 + j }) bs
def f32 (l : List Nat) : List Byte := l.flatMap (leBytes 4)
def m (s : State) : State := s.wr 0x1000 (f32 [0x3f800000, 0x40000000])
def L1 : List State := [cst gdr (cl gdr) [cp 0 0 0 (f32 [0x3f800000, 5])], cst gdr (cl gdr) [cp 0 0 4 (f32 [5])], cst gdm (cl gdm) [cp 1 0 0 (f32 [7, 5])], cst gdm (cl gdm) [cp 1 0 4 (f32 [7])], cst gdm (cl gdm) [cp 2 0 0 (leBytes 4 1 ++ leBytes 4 0 ++ leBytes 4 (descFp bitsC) ++ leBytes 4 (groupFp gdm))],
   cst gdm (cl gdm) [cp 3 0 0 (leBytes 8 4)], cst gdr (cl gdr) [cp 3 0 0 (leBytes 8 4)], cst gdr (cl gdr (f := fun c => { c with got := [(0, 8)], slots := [(0, (f32 [0x3f800000, 0x40400000]).zipIdx.map (fun e => (e.2, e.1)) |>.filter (fun e => e.2 ≠ 0))] })) [] m,
   cst gdm (cl gdm (f := fun c => { c with upLim := 1 })) [] m, cst gdr (cl gdr) [], cst (GD 1) (cl (GD 1) (bitsC 2 2)) [] m, cst (GD 1) (cl (GD 1) (bitsC 2 0 4 1)) [] m, cst (GD 1) (cl (GD 1) (bitsC 2 0 1 2)) [] m, cst (GD 2 0 refN [K] [] 1) (cl (GD 2 0 refN [K] [] 1) (f := fun c => { c with got := [(0, 32)] })) [] m]
def L1x : List State := [cst gdm (cl gdm) [cp 3 0 0 (leBytes 8 4) |> fun p => { p with src := 0x77 }], { cst gdm (cl gdm) [cp 1 0 0 [1]] with parts := [(0, { lpart with st := .draining })] }, (inb [cp 1 0 0 [1]]),
  cst gdm (cl gdm) [cp 1 0 0 [1]] (fun s => { s with faults := { s.faults with resets := [⟨3, 0, 0, false, false, false, [], 0⟩] } }), cst gdm (cl gdm) [{ cp 1 0 0 [1] with offset := 5 * 2 ^ 16 }]]
def st (i : Nat) : State :=
  (L1 ++ L1x : List State).getD i State.reset
end CollectiveChunksStates

/-! States for the hypotheses of Collectives_CollectivePackets. -/
namespace CollectivePacketsStates
def K : Nat := 0x300040
def gdr : List Byte := GD 2 0 refN [K]
def gdm : List Byte := GD 2 1 K
def bitsC (cnt : Nat := 2) (fmt kind opr : Nat := 0) : Nat := leNat (D 4 [(500, 1), (496, kind), (492, opr), (487, fmt), (441, 0x1000), (397, 0x2000), (365, cnt)])
def cl (gd : List Byte) (b : Nat := bitsC) (f : Coll → Coll := id) : Coll := f ⟨⟨0,0⟩, 1, 0, 0, b, gd, colChunks gd b, [], false, 0, 0, [], [], [], [], [], [], none, []⟩
def cst (gd : List Byte) (c : Coll) (ps : List Pkt) (g : State → State := id) : State :=
  let s := grp gd fab0 2
  let s := s.odSetN 0x5300 2 1
  g { s with colls := { s.colls with run := [c], begun := [(1, true)] }, fabric := { s.fabric with inbox := ps } }
def cp (phase j off : Nat) (bs : List Byte) : Pkt := pk 5 (fun p => { p with win := phase * 16, offset := off, aux := 2 ^ 20 + j }) bs
def f32 (l : List Nat) : List Byte := l.flatMap (leBytes 4)
def m (s : State) : State := s.wr 0x1000 (f32 [0x3f800000, 0x40000000])
def L1 : List State := [cst gdr (cl gdr) [cp 0 0 0 (f32 [0x3f800000, 5])], cst gdr (cl gdr) [cp 0 0 4 (f32 [5])], cst gdm (cl gdm) [cp 1 0 0 (f32 [7, 5])], cst gdm (cl gdm) [cp 1 0 4 (f32 [7])], cst gdm (cl gdm) [cp 2 0 0 (leBytes 4 1 ++ leBytes 4 0 ++ leBytes 4 (descFp bitsC) ++ leBytes 4 (groupFp gdm))],
   cst gdm (cl gdm) [cp 3 0 0 (leBytes 8 4)], cst gdr (cl gdr) [cp 3 0 0 (leBytes 8 4)], cst gdr (cl gdr (f := fun c => { c with got := [(0, 8)], slots := [(0, (f32 [0x3f800000, 0x40400000]).zipIdx.map (fun e => (e.2, e.1)) |>.filter (fun e => e.2 ≠ 0))] })) [] m,
   cst gdm (cl gdm (f := fun c => { c with upLim := 1 })) [] m, cst gdr (cl gdr) [], cst (GD 1) (cl (GD 1) (bitsC 2 2)) [] m, cst (GD 1) (cl (GD 1) (bitsC 2 0 4 1)) [] m, cst (GD 1) (cl (GD 1) (bitsC 2 0 1 2)) [] m, cst (GD 2 0 refN [K] [] 1) (cl (GD 2 0 refN [K] [] 1) (f := fun c => { c with got := [(0, 32)] })) [] m]
def L1x : List State := [cst gdm (cl gdm) [cp 3 0 0 (leBytes 8 4) |> fun p => { p with src := 0x77 }], { cst gdm (cl gdm) [cp 1 0 0 [1]] with parts := [(0, { lpart with st := .draining })] }, (inb [cp 1 0 0 [1]]),
  cst gdm (cl gdm) [cp 1 0 0 [1]] (fun s => { s with faults := { s.faults with resets := [⟨3, 0, 0, false, false, false, [], 0⟩] } }), cst gdm (cl gdm) [{ cp 1 0 0 [1] with offset := 5 * 2 ^ 16 }]]
def onchip : State := let b := leNat (D 4 [(500, 1), (496, 0), (492, 0), (487, 0), (441, 0x1000), (397, poolBase 0), (365, 1)]); cst gdm (cl gdm b) [cp 1 0 0 (f32 [7])]
def st (i : Nat) : State :=
  (L1 ++ L1x ++ [onchip] : List State).getD i State.reset
end CollectivePacketsStates

/-! States for the hypotheses of Banks_Collisions, Banks_MarchTests. -/
namespace CollisionsStates
def bst (b : Bank) (no : Nat := 5) (n : Nat := 0) (s : State := up) (f : Core → Core := id) : State :=
  let s := put n (f { Core.blank with bank := [(no, b)] }) s
  s.wr (spadBase n + no * 32) [1,2,3,4] |>.wr (spadBase n + 0x1000) [7,8] |>.wr (poolBase 0) [9] |>.wr (poolBase 0 + 0x80_0000 - 1) [9, 9]
def B := Bank.blank
def wd (o nb p : Nat) : Word := BitVec.ofNat 64 (o + nb * 16 + p * 1024)
def dk (w : Word) (p : Pwr) : State := bst { B with pwr := p, moving := some ⟨.host 0, w⟩ }
def ma (d : Bool) (a : Nat): State := bst B (f := fun c => { c with march := some ⟨5, a, d, false, none⟩ })
def st (i : Nat) : State :=
  ([bst B, bst { B with moving := some ⟨.host 0, 1⟩ }, bst { B with owner := 4 }, bst { B with owner := 4, moving := some ⟨.host 0, 1⟩ , held := [⟨.host 0, 4⟩]},
  dk 1 .lit, dk (wd 0 0 0) .dark, dk (wd 0 0 1) .dark, dk (wd 0 0 2) .dark, dk (wd 3 6 0) .dark, dk (wd 4 0 0) .dim, bst { B with failed := true, moving := some ⟨.host 0, wd 0 0 0⟩ },
  ma true 0, ma false 1, ma true 1, (bst B).odSet 0x8805 1 (.num (2^28)), ((bst B).odSet 0x8805 1 (.num (2^28))).odSet 0x8800 0 (.num 1)] : List State).getD i State.reset
end CollisionsStates

/-! States for the hypotheses of Sectors_CommittedViews. -/
namespace CommittedViewsStates
/-- protected 0x1000..0x1FFF; slice at 0x800000 of 1 MB -/
def ms (col : Nat) (f : Memory → Memory := id) (g : State → State := id) : State :=
  let u := up
  let u := ((u.odSet 0x5830 1 (.blob (leBytes 8 0x1000 ++ leBytes 8 0x1000))).odSetN 0x5840 1 0x800000).odSetN 0x5841 1 1
  let u := u.odSetN 0x8061 1 col
  let u := u.setEp 0 { Ep.blank with st := if col = 0 then .closed else .opened, epoch := 7, colour := col }
  let u := u.wr 0x1000 [1,2,3,4,5] |>.wr 0x1040 [9,9]
  g { u with memory := f u.memory }
def le (sec col : Nat) (com : Bool := false) (un : Bool := false) (part := 0) (ep := 7): LEntry := ⟨part, ep, sec, col, List.replicate 64 0x5A, un, com, 0x900000⟩
def hotS (s : State) : State := { s.odSetN 0x8040 1 1 with memory := { s.memory with hot := [(0, { Hot.blank with lines := [64, 65] })] } }
def ms2 : List State := [hotS (ms 0), hotS (ms 1), ms 1 (fun m => { m with short := [⟨64, 1, false⟩] }) (fun s => s.odSetN 0x5841 1 0), ms 0 id (fun s => { s with parts := [(0, { lpart with regions := [(0, 0x1000)] }), (1, { lpart with regions := [(0x1000, 0x1000)] })]}), (ms 0).odSetN 0x8040 1 0, (ms 1 (fun m => { m with bad := [65], ledger := [le 64 1] })).odSetN 0x8040 1 0, ms 0, ms 1, ms 1 (fun m => { m with colour := [(64, 1)], ledger := [le 64 1] }), ms 1 (fun m => { m with colour := [(64, 3)], ledger := [le 64 3 true] }),  ms 1 (fun m => { m with delivering := [0] }),
   ms 1 (fun m => { m with bad := [65], ledger := [le 64 1 false true] }), ms 1 (fun m => { m with held := [⟨0, 0x1000, [1,2]⟩] }), ms 1 id (fun s => (s.odSetN 0x5841 1 0)), ms 2 id (fun s => s.setEp 0 { s.ep 0 with st := .doomed, cause := 3 }),
   ms 2 id (fun s => s.odSetN 0x5841 1 0 |>.setEp 0 { s.ep 0 with st := .doomed, cause := 3 })]
def st (i : Nat) : State :=
  (ms2 ++ [(ms 1 (fun m => { m with colour := [(64, 1)] })).logEntry (le 64 1)] : List State).getD i State.reset
end CommittedViewsStates

/-! States for the hypotheses of CopiesAndCompletions_Completions, CopiesAndCompletions_CopyUnits. -/
namespace CompletionsStates
def cpy (len : Nat) (sh dh : Nat) (src : Nat := 0x1000) (dst : Nat := 0x2000) (fl : Nat := 0): List Byte := D 2 [(448, src), (384, dst), (344, len), (343, sh), (342, dh), (0, fl)]
def fl (bs : List Byte) (units started : Nat) (ends : Tab UEnd := []) (fin : Bool := false) : Flight := ⟨⟨0, 0⟩, 0, 2, bs, units, ends, started, fin, none, 0, false⟩
def fs (f : Flight) (ord : List DescRef := []) (cqwr : Nat := 4): State := ds [] false (fun s => { s with disp := { s.disp with flights := [f], order := ord }, hcnt := [(3, ⟨5, 6, true, true, 5⟩)], queues := [(0, { dq [] with cqwr := cqwr, cqhead := 1 })], hostMem := [(0x1000, 5), (0x1002, 7), (0x2005, 9)], mem := [(0x1000, 3), (0x1004, 4)] })
def Q : Nat := 2 ^ 21
def H : Nat := 2 ^ 22 + 3 * 2 ^ 23
def st (i : Nat) : State :=
  ([fs (fl (D 2 [(448, 0x2000_0000), (384, 0x9000), (344, 8), (342, 1)]) 1 1), fs (fl (D 2 [(448, 0x100_0000_0000), (384, 0x9000), (344, 8), (342, 1)]) 1 1), fs (fl (D 2 [(448, 0x9000), (384, 0x2000_0000), (344, 8), (343, 1)]) 1 1), fs (fl (D 2 [(448, 0x3FF_0000_0000), (384, 0x9000), (344, 8), (342, 1)]) 1 1), fs (fl (D 2 [(448, 0x1000), (384, 0x2000), (344, 8)]) 1 1), { fs (fl (cpy 8 0 1) 1 1) with queues := [(0, { (fs (fl (cpy 8 0 1) 1 1)).queue 0 with ctrl := 2^23 + 5 * 2 ^ 24 + 1 })] }, fs (fl (cpy 8 0 1) 1 1), fs (fl (cpy 50 1 0) 1 1), fs (fl (cpy 5000 0 1) 2 2 [(0, ⟨0,0,0⟩)]), fs (fl (cpy 5000 0 1) 2 2 [(0, ⟨0,0,0⟩), (1, ⟨4,5,6⟩)] true) [⟨0,0⟩], fs (fl (cpy 5000 0 1 (fl := Q)) 2 2 [(0, ⟨0,0,0⟩), (1, ⟨4,5,6⟩)] true) [⟨0,0⟩, ⟨0, 1⟩],
   fs (fl (cpy 50 0 1 (fl := Q)) 1 1 [(0, ⟨0,0,0⟩)] true) [⟨0,0⟩],  fs (fl (cpy 50 0 1 (fl := Q + H)) 1 1 [(0, ⟨0,0,0⟩)] true) [⟨0,0⟩], fs (fl (cpy 50 0 1 (fl := H)) 1 1 [(0, ⟨0,0,0⟩)] true) [⟨0,0⟩] 63, fs (fl (cpy 50 0 1 (fl := H + 0x8000 * 2 ^ 64)) 1 1 [(0, ⟨0,0,0⟩)] true) [⟨0,0⟩] 63] : List State).getD i State.reset
end CompletionsStates

/-! States for the hypotheses of Contexts_ContextSwitches. -/
namespace ContextSwitchesStates
def cst (sts : List (CtxSt × WaitFor)) (cur : Nat := 3) (n : Nat := 0) (s : State := up) (f : Core → Core := id) (rep : Bool := false) : State :=
  let c := { Core.blank with cur := cur, cnt := [(2, 7)], ctx := sts.mapIdx (fun i x => (i, { Ctx.blank with st := x.1, wait := x.2, sreg := [(1, 5)], pc := i, launch := { Launch.blank with base := 100 + 10 * i, len := 5, replay := rep }, faultCode := if i = 2 ∧ x.1 = .draining then 3 else 0, faultInfo := if i = 2 then 77 else 0 })) }
  (put n (f c) s)
def q (s : Nat) : QOp := ⟨s, 5, 0, 0, 0, 0⟩
def mm (i s : Nat) (p : MPhase) : MOp := ⟨i, s, 5, 0,0,0,0,0,p,0,0,0⟩
def busy (c : Core) : Core := { c with tq := [q 0, q 1, q 2, q 3], vq := [q 3, q 1], mops := [mm 0 1 .queued, mm 1 1 .started, mm 2 2 .queued, mm 3 0 .handover], tRun := some (q 1), vRun := some (q 2) }
def st (i : Nat) : State :=
  ([(fun s => put 0 ((s.core 0).withSlot 0 { (s.core 0).slot 0 with off := some (5, 27) }) s) (cst [(.ready, .nothing)]), cst [(.ready, .nothing)], cst [(.ready, .nothing)] 0, cst [(.ready, .nothing), (.waiting, .nothing), (.ready, .nothing)] 0, cst [(.ready, .nothing), (.waiting, .nothing), (.ready, .nothing)] 2,
  cst [(.waiting, .counter 2 7), (.waiting, .counter 2 8), (.waiting, .counter 0 0), (.waiting, .nothing)],
  cst [(.waiting, .fence 7), (.waiting, .fence 1), (.waiting, .fence 2), (.waiting, .fence 4)] (f := busy), cst [(.running, .nothing), (.draining, .nothing), (.draining, .nothing)] (f := busy), cst [(.running, .nothing), (.draining, .nothing), (.draining, .nothing)] (rep := true)] : List State).getD i State.reset
end ContextSwitchesStates

/-! States for the hypotheses of CopResults_CopAluResult, CopResults_CopMoveResult. -/
namespace CopAluResultStates
def st (i : Nat) : State :=
  (((List.range 16).map fun i => runs 0 [cop i 3 1 2 (if i % 2 = 0 then 1 else 2^32-2)] (pc := 1) (len := 4)) ++
  [runs 287 [cop 5 0 1 2 1], runs 14 [cop 0xD 2 4 1 1] (k := 2), runs 14 [cop 0x1E 3 0 0 0 2] (f := fun c => { c with cnt := [(2, 77)] }),
   runs 287 [cop 0x20 9] (k := 3), runs 0 [cop 0x21 9] (s := { State.reset with clk := { Clk.reset with localTime := 1234567 } }),
   runs 0 [cop 0x21 0] (s := { State.reset with clk := { Clk.reset with localTime := 120 } })] : List State).getD i State.reset
end CopAluResultStates

/-! States for the hypotheses of CopControl_CopBranch, CopControl_CopJump. -/
namespace CopBranchStates
def st (i : Nat) : State :=
  (((List.range 6).flatMap fun i => [runs 0 [cop (0x12 + i) 0 1 2 1], runs 14 [cop (0x12 + i) 0 2 1 1] (k := 2), runs 0 [cop (0x12 + i) 0 2 2 (2^32-2)], runs 0 [cop (0x12 + i) 0 4 1 0]]) ++
  [runs 0 [cop 0x18 1 0 0 1], runs 0 [cop 0x18 1 0 0 (2^32-9)], runs 0 [cop 0x19 0 6], runs 0 [cop 0x19 0 4], runs 0 [cop 0x1A 1 0 0 1], runs 0 [cop 0x1A 0 0 0 1],
   runs 0 [cop 0x1A 1 0 0 1] (regs := [(1, 1)]), runs 0 [cop 0x1A 3 0 0 44], runs 0 [cop 0x19 0 0] (pc := 3) ] : List State).getD i State.reset
end CopBranchStates

/-! States for the hypotheses of CopCountersAndWaits_CopCounters, CopCountersAndWaits_CopWaiting. -/
namespace CopCountersStates
def q1 : QOp := ⟨0, 0, 0, 0, 0, 0⟩
def two (w : Nat) (f : Core → Core := id) : State := runs 0 [w] (f := fun c => f (c.withSlot 2 { Ctx.blank with st := .ready }))
def st (i : Nat) : State :=
  ([runs 0 [cop 0], runs 0 [cop 0x1C 0 1 0 5 (cnt := 3)], runs 0 [cop 0x1D 0 1 0 5 (cnt := 3)] (f := fun c => c.setCounter 3 9),
   runs 0 [cop 0x1B 0 1 0 5 (cnt := 3)] (f := fun c => c.setCounter 3 12), runs 0 [cop 0x1B 0 1 0 5 (cnt := 3)] (f := fun c => c.setCounter 3 11),
   two (cop 0x1B 0 1 0 5 (cnt := 3)), two (cop 0x1B 0 1 0 5 (cnt := 3)) (fun c => c.withSlot 1 { Ctx.blank with st := .running }),
   runs 0 [cop 0x1F 0 0 0 7], runs 0 [cop 0x1F 0 0 0 1] (f := fun c => { c with vq := [q1] }), runs 0 [cop 0x1F 0 0 0 2] (f := fun c => { c with vq := [q1] }),
   two (cop 0x1F 0 0 0 2) (fun c => { c with vq := [q1] }), two (cop 0x1F 0 0 0 7) (fun c => { c with tRun := some q1 }),
   two (cop 2), runs 0 [cop 2], two (cop 1), runs 0 [cop 1] , runs 14 [cop 1] (k:= 3)] : List State).getD i State.reset
end CopCountersStates

/-! States for the hypotheses of CopControl_CopRegionEnd. -/
namespace CopRegionEndStates
def codes : List (Nat × Nat) := aluRows.map (fun e => (0, e.2.1)) ++ [(0,0), (0, 1), (0, 0x1B), (0, 0x1F)]
def st (i : Nat) : State :=
  (codes.flatMap (fun e => [runs 0 [ins e.1 e.2 (3 * 2^46 + 2 ^ 51 + 3)] (len := 1), runs 14 [ins e.1 e.2 (3 * 2^46 + 2 ^ 51 + 3)] (pc := 4) (len := 5) (f := fun c => { c with tq := [⟨0, 5, 0, 0, 0, 0⟩] }), runs 0 [ins e.1 e.2 (if e.2 = 0x1B then 3 * 2^46 + 3 else if e.2 = 0x1F then 1 else 0)] (pc := 4) (len := 5) (f := fun c => { c with tq := [⟨0, 5, 0, 0, 0, 0⟩] })]) : List State).getD i State.reset
end CopRegionEndStates

/-! States for the hypotheses of EngineIssue_CopScratchpad, EngineIssue_MoveIssue, EngineIssue_TensorIssue, EngineIssue_VectorIssue. -/
namespace CopScratchpadStates
def m0 (i : Nat) : MOp := ⟨i, 0, 0, 0, 0, 0, 0, 0, .started, 1, 0, 0⟩
def many (c : Core) : Core := { c with mops := (List.range 64).map m0, nextM := 64 }
def st (i : Nat) : State :=
  ([runs 0 [cop 0x10 1 2 3 (2^32-6)], runs 0 [cop 0x10 1 2 3 (2^32-5)], runs 0 [cop 0x11 1 5 5 (2^32-8)], runs 14 [cop 0x11 0 0 0 0x2FFFF8], runs 0 [cop 0x11 0 0 0 0x300000]] ++
  tensorRows.map (fun e => runs 0 [ins 1 e.2 (fld 28 3 + fld 34 1 + (if e.2 = 1 then fld 43 1 else 0))]) ++
  [runs 0 [ins 1 0 (fld 43 5 + 8)], runs 0 [ins 1 0 (fld 43 5 + 9)], runs 0 [ins 1 0 (fld 43 0 + 0x2FFFE0)], runs 0 [ins 1 0 (fld 43 0 + 0x300000)]] ++
  vectorRows.map (fun e => runs 14 [ins 3 e.2 (if e.2 = 0 then fld 31 2 else 0)]) ++
  moveEngineRows.map (fun e => runs 0 [ins 2 e.2 (if e.2 = 5 then 0 else if e.2 = 3 ∨ e.2 = 4 then fld 41 5 else fld 41 1)] (f := many)) : List State).getD i State.reset
end CopScratchpadStates

/-! States for the hypotheses of FlitsAndCredits_Credits. -/
namespace CreditsStates
def lk (st : LinkSt) (n : Nat := 0) (f : Link → Link := id) (g : State → State := id) : State := g (up.setLink n (f { Link.blank with st := st }))
def msg (n : Nat) (bs : List Byte) (st : LinkSt := .active) (f : Link → Link := id) (g : State → State := id): State := lk st n (fun l => f { l with ctl := [bs ++ List.replicate (240 - bs.length) 0, [9]] }) g
def L4 : List State := [lk .active, lk .active 0 (fun l => { l with lastSeq := some 6 }), lk .active 0 (fun l => { l with lastSeq := some 7 }), lk .active 0 (fun l => { l with lastSeq := some 4095, discards := 63 }), msg 0 ([1] ++ leBytes 4 5 ++ leBytes 4 (2^20-1) ++ leBytes 4 0 ++ leBytes 4 1) .active (fun l => { l with rcvd := [(0, 3), (2, 5)], freed := [(1, 3)] }), msg 0 ([1] ++ leBytes 4 5 ) .down]
def L4b : List State := [lk .active 0 (fun l => { l with flitSeq := 4093, pairSeq := 255, freed := [(0, 7), (3, 2^20)] }), lk .active 0 (fun l => { l with repair := some ⟨3, 0, 1⟩, flitSeq := 7 })]
def st (i : Nat) : State :=
  (L4 ++ L4b : List State).getD i State.reset
end CreditsStates

/-! States for the hypotheses of DescriptorFlow_DescriptorFetches. -/
namespace DescriptorFetchesStates
def krn : List Byte := D 1 [(384, 7), (340, 0x1000), (326, 5), (311, 3), (512, 0b1001), (1024, 11), (1088, 12)] 3
def wc (core : Nat) (idx : Nat := 1) (v : Nat := 0) (tmo : Nat := 0) : List Byte := D 5 [(448, v), (447, core), (438, idx), (400, tmo)]
def sg (core set : Nat) (v : Nat := 9) (cnt : Nat := 0) : List Byte := D 6 [(448, v), (447, core), (438, 1), (432, cnt), (431, set)]
def open1 (s : State) : State := s.setEp 0 { Ep.blank with st := .opened, group := 1, epoch := 5, tree := ⟨0, 2, 1, 3, [], []⟩ }
def flt (s : State) : State := s.setEp 0 { s.ep 0 with failed := true }
def doomed (s : State) : State := s.setEp 0 { s.ep 0 with st := .doomed }
def eb : List Byte := D 7 [(500, 1), (436, 5)]
def ev (ab : Nat := 0) : List Byte := D 8 [(500, 1), (436, 5), (435, ab)]
def cpy (len : Nat) (sh dh : Nat) (src : Nat := 0x1000) (dst : Nat := 0x2000) : List Byte := D 2 [(448, src), (384, dst), (344, len), (343, sh), (342, dh)]
def col (cnt : Nat := 8) (fmt : Nat := 0) (kind : Nat := 0) : List Byte := D 4 [(500, 1), (496, kind), (487, fmt), (441, 0x1000), (397, 0x2000), (365, cnt)]
def tbl : List Byte := D 3 [] 2
def st (i : Nat) : State :=
  ([ds [D 0 [], D 9 []] false, ds [D 77 []] false, ds [D 1 []] false, ds [D 2 [(448, 0x2000_0000), (384, 1), (344, 5)]] false, ds [ev] false, ds [eb] false open1,
   ds [D 0 []], ds [wc 0], ds [wc 1], ds [wc 0 1 7 9], ds [wc 1 1 7 9], ds [D 9 []], ds [krn], ds [krn] (g := fun s => s.setCore 0 { s.core 0 with waitq := [Launch.blank] }),
   ds [cpy 0 0 0], ds [cpy 4096 0 0], ds [cpy 40000 0 1], ds [tbl], ds [col] , ds [col] true (grp (GD)), ds [col 0] true (grp (GD)), ds [col 8 31] true (grp (GD)),
   ds [col] true (grp (GD (part := 1))), ds [col 9000 0 3] true (grp (GD)), 
   ds [sg 0 0], ds [sg 0 1], ds [sg 1 0 9 4], ds [sg 1 1 9 4], ds [eb], ds [eb] true (grp (GD 2 1 3)), ds [ev] true open1, ds [ev 1] true open1, ds [ev 0] true (flt ∘ open1), ds [ev 1] true (doomed ∘ open1)] : List State).getD i State.reset
end DescriptorFetchesStates

/-! States for the hypotheses of DeviceFaults. -/
namespace DeviceFaultsStates
def wk (s : State) (n : Nat := 0) : State := (s.setCore n { Core.blank with ctx := [(0, { Ctx.blank with st := .running, launch := lau 3 })], vRun := some ⟨0,0,0,0,0,0⟩ })
def fl0 : Flight := ⟨⟨0, 0⟩, 0, 3, D 1 [(512, 1)] 3, 1, [], 0, false, none, 0, false⟩
def fq (s : State) : State := { s with disp := { s.disp with flights := [fl0] }, queues := [(0, dq [D 0 []])] }
def L1 : List State := [wk up, wk up 13, (wk (fq up)).odSetN 0x7023 0 1, wk ((fq up).odSetN 0x7040 0 0), { wk up with faults := { up.faults with faultTimes := [1,2,3,4,5,6,7,8] } }, fq up, { up with life := { up.life with svc := .black } }, up.odSetN 0x7021 0 5, (fq up).odSetN 0x7021 0 5]
def st (i : Nat) : State :=
  (L1 ++ [(fq up).setQueue 0 { (fq up).queue 0 with stall := 5 }, (fq up).setQueue 0 { (fq up).queue 0 with stall := 0 }] : List State).getD i State.reset
end DeviceFaultsStates

/-! States for the hypotheses of DescriptorFlow_Dispatching. -/
namespace DispatchingStates
def krn : List Byte := D 1 [(384, 7), (340, 0x1000), (326, 5), (311, 3), (512, 0b1001), (1024, 11), (1088, 12)] 3
def wc (core : Nat) (idx : Nat := 1) (v : Nat := 0) (tmo : Nat := 0) : List Byte := D 5 [(448, v), (447, core), (438, idx), (400, tmo)]
def sg (core set : Nat) (v : Nat := 9) (cnt : Nat := 0) : List Byte := D 6 [(448, v), (447, core), (438, 1), (432, cnt), (431, set)]
def open1 (s : State) : State := s.setEp 0 { Ep.blank with st := .opened, group := 1, epoch := 5, tree := ⟨0, 2, 1, 3, [], []⟩ }
def flt (s : State) : State := s.setEp 0 { s.ep 0 with failed := true }
def doomed (s : State) : State := s.setEp 0 { s.ep 0 with st := .doomed }
def eb : List Byte := D 7 [(500, 1), (436, 5)]
def ev (ab : Nat := 0) : List Byte := D 8 [(500, 1), (436, 5), (435, ab)]
def cpy (len : Nat) (sh dh : Nat) (src : Nat := 0x1000) (dst : Nat := 0x2000) : List Byte := D 2 [(448, src), (384, dst), (344, len), (343, sh), (342, dh)]
def col (cnt : Nat := 8) (fmt : Nat := 0) (kind : Nat := 0) : List Byte := D 4 [(500, 1), (496, kind), (487, fmt), (441, 0x1000), (397, 0x2000), (365, cnt)]
def tbl : List Byte := D 3 [] 2
def dn (s : State) : State := s.odSetN 0x2100 1 0xF0003
def sl (s : State) : State := s.odSetN 0x7810 1 (2^17)
def st (i : Nat) : State :=
  ([dn (ds [sg 1 0 9 4] false), dn (ds [wc 1] false), sl (ds [sg 1 0 9 4]), sl (ds [sg 1 1 9 4]), { ds [wc 1 1 7 9] with queues := [(0, { (ds [wc 1 1 7 9]).queue 0 with code := .stopped })] }, ds [D 0 [], D 9 []] false, ds [D 77 []] false, ds [D 1 []] false, ds [D 2 [(448, 0x2000_0000), (384, 1), (344, 5)]] false, ds [ev] false, ds [eb] false open1,
   ds [D 0 []], ds [wc 0], ds [wc 1], ds [wc 0 1 7 9], ds [wc 1 1 7 9], ds [D 9 []], ds [krn], ds [krn] (g := fun s => s.setCore 0 { s.core 0 with waitq := [Launch.blank] }),
   ds [cpy 0 0 0], ds [cpy 4096 0 0], ds [cpy 40000 0 1], ds [tbl], ds [col] , ds [col] true (grp (GD)), ds [col 0] true (grp (GD)), ds [col 8 31] true (grp (GD)),
   ds [col] true (grp (GD (part := 1))), ds [col 9000 0 3] true (grp (GD)), 
   ds [sg 0 0], ds [sg 0 1], ds [sg 1 0 9 4], ds [sg 1 1 9 4], ds [eb], ds [eb] true (grp (GD 2 1 3)), ds [ev] true open1, ds [ev 1] true open1, ds [ev 0] true (flt ∘ open1), ds [ev 1] true (doomed ∘ open1)] : List State).getD i State.reset
end DispatchingStates

/-! States for the hypotheses of QueuesAndDoorbells_Doorbells, QueuesAndDoorbells_QueueStates. -/
namespace DoorbellsStates
def Q (code : QCode) (tail : Nat := 5) (head : Nat := 2) (fe : List Fetched := []) (ctrl : Nat := 0) (lg : Nat := 6): Queue :=
  { Queue.blank with ring := 0x10000 + lg, cq := 0x20000 + 6, ctrl := ctrl, code := code, head := head, tail := tail, cqwr := 4, cqhead := 1, fetched := fe, count := 3 }
def F : List Fetched := [⟨0, 2, List.replicate 128 0, some 3⟩, ⟨1, 4, List.replicate 64 0, none⟩]
def fl (q i : Nat) (sil : Bool := false) : Flight := ⟨⟨q, i⟩, 0, 0, [], 1, [], 0, false, none, 0, sil⟩
def hst (x : Queue) (q : Nat := 0) (abi : Nat := 3) (fls : List Flight := []) (s : State := up) : State :=
  { s with queues := [(q, x)], fns := [(0, { Fn.blank with abiAgreed := abi, event := 0x13, msixOpen := [(5, true)] })], disp := { s.disp with flights := fls }, hcnt := [(0, ⟨5, 7, true, true, 5⟩), (1, ⟨5, 7, true, true, 6⟩), (2, ⟨9, 7, true, false, 6⟩), (5, ⟨9, 7, false, true, 6⟩), (511, ⟨1, 0, true, true, 5⟩)], hostMem := (List.range 64).flatMap (fun i => [(0x10000 + 64 * i, 0x07), (0x10000 + 64 * i + 1, BitVec.ofNat 8 (i % 3))]) |>.filter (fun e => e.2 ≠ 0) }
def st (i : Nat) : State :=
  ([hst (Q .enabled), hst (Q .enabled (fe := F)), hst (Q .stopped (fe := F)), hst (Q .disabled 0 0), hst (Q .disabled 0 0) (abi := 0), hst (Q .stopped) (abi := 0), hst (Q .guilty) (fls := [fl 0 0, fl 0 1]),
   hst (Q .closing) (fls := [fl 0 0]), hst (Q .enabled) (fls := [fl 0 0 true]), hst (Q .enabled) (s := { up with life := { up.life with svc := .grey } }), hst (Q .enabled) (s := up.odSet 0x9001 1 (.num 1)), hst (Q .enabled 1 62), hst (Q .enabled 0 62 F),
   hst (Q .enabled 5 5), hst (Q .enabled 6 5), hst (Q .disabled 5 2 [] 0 3), hst (Q .enabled 5 2 [] (5 * 2^22 + 1))] : List State).getD i State.reset
end DoorbellsStates

/-! States for the hypotheses of TensorEngine_EngineStart, TensorEngine_MmaComplete, TensorEngine_TensorAbandoned. -/
namespace EngineStartStates
def tw (op : Nat) (z acc ta tb : Nat) (ce : Nat := 0) (cnt : Nat := 0) : Word := BitVec.ofNat 64 (ins 1 op (fld 55 z + fld 54 acc + fld 51 ta + fld 48 tb + fld 34 ce + fld 28 cnt))
def tctx (f g : Nat) (st : CtxSt := .running) : Ctx := { Ctx.blank with st := st, launch := lau 4, treg := [(0, td 2 3 f), (1, td 3 2 g), (2, td 2 2 9 0x100 8), (3, td 0 0 9)] }
def tcore (w : Word) (x : Ctx) (run : Bool) (acc : AccTag := .untyped) (slot := 0) : Core :=
  let q : QOp := ⟨slot, w, 0, 0, 0, 0⟩
  let a : AccSet := ⟨acc, false, if acc = .untyped then [] else [(0, 0x3f800000), (1, 5), (96*5+7, 0x40000000)]⟩
  { Core.blank with ctx := [(slot, x)], tRun := if run then some q else none, tq := if run then [] else [q, ⟨slot, 0, 0,0,0,0⟩, ⟨1, 0, 0,0,0,0⟩], acc0 := a, acc1 := a, cnt := [(3, 8)] }
def mk (w : Word) (x : Ctx) (run : Bool) (acc : AccTag := .untyped) (slot := 0) : State :=
  (put 0 (tcore w x run acc slot)).wr (spadBase 0) (List.range 24 |>.map (fun i => BitVec.ofNat 8 (if i % 2 = 0 then i else 0x38 + i % 5)))
def vrun (w : Word) (run : Bool) : State := 
  let q : QOp := ⟨0, w, 3, 5, 0, 0⟩
  put 0 { Core.blank with ctx := [(0, tctx 3 3)], vRun := if run then some q else none, vq := [q] }
def st (i : Nat) : State :=
  ([ mk (tw 0x11 0 0 0 1 1 3) (tctx 3 3) true, mk (tw 0x11 1 1 0 1 1 3) (tctx 3 4) true .fp, mk (tw 0x12 0 0 0 1) (tctx 1 1) true .fp, mk (tw 0x14 0 1 0 1) (tctx 8 8) true .int,
    mk (tw 0x13 0 1 0 1) (tctx 0 0) true .fp, mk (tw 0x10 0 1 0 1) (tctx 7 7) true .untyped, mk (tw 0x03 0 1 2 0) (tctx 7 7) true .fp, mk (tw 0x04 0 1 2 0) (tctx 7 7) true .fp, mk (tw 0x03 0 0 2 0) (tctx 7 7) true .int 2,
    mk (tw 0x11 0 0 0 1 1 3) (tctx 3 3) false, mk (tw 0x11 0 0 0 1 1 3) (tctx 3 8) false, mk (tw 0x11 0 0 0 1 1 3) (tctx 3 3) false .int, mk (tw 0x11 0 0 0 5 1 3) (tctx 3 3) false, mk (tw 0x03 0 0 3 5 1 3) (tctx 3 3) false,mk (tw 0x02 0 0 3 5 1 3) (tctx 3 3) false,
    mk (tw 0x11 0 0 0 1 1 3) (tctx 3 8 .empty) false, vrun (BitVec.ofNat 64 (ins 3 0x10 0)) false, vrun (BitVec.ofNat 64 (ins 3 0x00 (fld 55 1))) false, vrun (BitVec.ofNat 64 (ins 0 0x10 0)) false] : List State).getD i State.reset
end EngineStartStates

/-! States for the hypotheses of EpochAgents. -/
namespace EpochAgentsStates
def K : Nat := 0x300040
def gdr : List Byte := GD 2 0 refN [K]
def ek (kind : Nat) (term : Nat := 0) (v c rt cnt : Nat := 0) (ep : Nat := 5) : Pkt := pk 6 (fun p => { p with aux := 2 ^ 20 + kind * 2 ^ 16 + term }) (leBytes 8 ep ++ leBytes 1 v ++ leBytes 1 c ++ leBytes 1 rt ++ leBytes 1 0 ++ leBytes 4 cnt)
def est (ep : Ep) (a : Agent) (ps : List Pkt) (gd : List Byte := gdr) (g : State → State := id): State :=
  let s := grp gd fab0
  g { ((s.setEp 0 ep).setAgent 1 a) with fabric := { s.fabric with inbox := ps } }
def ep (st : MemSt) (f : Ep → Ep := id) (tr : Tree := treeOf gdr): Ep := f { Ep.blank with st := st, group := 1, epoch := 5, tree := tr }
def ag (co : CoSt) (f : Agent → Agent := id) (pr : List Promise := []) : Agent := f { Agent.blank with machs := if co = .idle then [] else [⟨5, co, ⟨5, 0, 0, 0⟩, [], pr, 0⟩] }
def tr4 : Tree := ⟨0, 4, 1, 0x300050, [], [0x21, K + 1, K, K + 2]⟩
def L2 : List State := [est (ep .opened) (ag .idle) [ek 0 0 0 0 0 1], est (ep .voted) (ag .collecting) [ek 0 0 0 0 0 1], est (ep .voted) (ag .collecting) [ek 0 0 0 0 0 2], est (ep .opened) (ag .collecting) [ek 1 0 0 3], est (ep .voted) (ag .collecting) [ek 1 0 0 3],
  est (ep .opened) (ag .idle) [ek 2 1 1 0], est (ep .opened) (ag .idle (fun a => { a with promised := [(5, 2)], records := [⟨5, 2, 1, 0⟩] })) [ek 2 1 1 0], est (ep .opened) (ag .idle (fun a => { a with promised := [(5, 2)] })) [ek 2 2 1 0],
  est (ep .opened) (ag .idle (fun a => { a with promised := [(5, 2)], records := [⟨5, 2, 1, 0⟩] })) [ek 3 3], est (ep .opened (tr := tr4)) (ag .taking) [ek 4 1 1 0 1], est (ep .opened (tr := tr4)) (ag .taking id [⟨3, 0, 0, 0⟩]) [ek 4 1 0 0 0],
  est (ep .inDoubt (tr := tr4)) (ag .taking id [⟨3, 0, 0, 0⟩]) [ek 4 1 0 0 0],
  est (ep .opened) (ag .idle (fun a => { a with held := [⟨5, 1, 0, 0⟩] })) [ek 6], est (ep .restoring) (ag .clearing) [ek 8 0 0 0 0 1]]
def st (i : Nat) : State :=
  (L2 : List State).getD i State.reset
end EpochAgentsStates

/-! States for the hypotheses of EpochMemory_EpochDeliveries, EpochMemory_SweepAndRestore. -/
namespace EpochDeliveriesStates
/-- protected 0x1000..0x1FFF; slice at 0x800000 of 1 MB -/
def ms (col : Nat) (f : Memory → Memory := id) (g : State → State := id) : State :=
  let u := up
  let u := ((u.odSet 0x5830 1 (.blob (leBytes 8 0x1000 ++ leBytes 8 0x1000))).odSetN 0x5840 1 0x800000).odSetN 0x5841 1 1
  let u := u.odSetN 0x8061 1 col
  let u := u.setEp 0 { Ep.blank with st := if col = 0 then .closed else .opened, epoch := 7, colour := col }
  let u := u.wr 0x1000 [1,2,3,4,5] |>.wr 0x1040 [9,9]
  g { u with memory := f u.memory }
def le (sec col : Nat) (com : Bool := false) (un : Bool := false) (part := 0) (ep := 7): LEntry := ⟨part, ep, sec, col, List.replicate 64 0x5A, un, com, 0x900000⟩
def ms3 : List State := [ms 0 (fun m => { m with delivering := [0] }) (fun s => s.setEp 0 { s.ep 0 with beginDesc := some ⟨0, 0⟩, tree := ⟨0,2,1,3,[],[]⟩, colour := 3 }), ms 1 (fun m => { m with deciding := [(1, true), (0, true)], ledger := [le 64 1, le 65 1 true, le 66 2 false false 1] }),
   ms 1 (fun m => { m with deciding := [(1, true), (0, false)], ledger := [le 64 1, le 65 1 true, le 66 2 false false 1] }), ms 1 (fun m => { m with colour := [(64, 1), (65, 2), (66, 1)], work := [⟨0, 0, 1, false⟩, ⟨0, 1, 1, false⟩, ⟨0, 15, 1, true⟩, ⟨1, 0, 2, true⟩], ledger := [le 64 1 true, le 65 1 true, le 66 2 false false 1]}),
   ms 1 (fun m => { m with colour := [(64, 1), (65, 2), (66, 1)], work := [⟨0, 0, 1, true⟩, ⟨0, 1, 1, false⟩, ⟨0, 15, 1, true⟩, ⟨1, 0, 2, true⟩], ledger := [le 64 1, le 65 1, le 66 2 false false 1]})]
def st (i : Nat) : State :=
  (ms3 : List State).getD i State.reset
end EpochDeliveriesStates

/-! States for the hypotheses of DescriptorKinds_EpochDescriptors, DescriptorKinds_UnitDescriptors. -/
namespace EpochDescriptorsStates
def krn : List Byte := D 1 [(384, 7), (340, 0x1000), (326, 5), (311, 3), (512, 0b1001), (1024, 11), (1088, 12)] 3
def wc (core : Nat) (idx : Nat := 1) (v : Nat := 0) (tmo : Nat := 0) : List Byte := D 5 [(448, v), (447, core), (438, idx), (400, tmo)]
def sg (core set : Nat) (v : Nat := 9) (cnt : Nat := 0) : List Byte := D 6 [(448, v), (447, core), (438, 1), (432, cnt), (431, set)]
def open1 (s : State) : State := s.setEp 0 { Ep.blank with st := .opened, group := 1, epoch := 5, tree := ⟨0, 2, 1, 3, [], []⟩ }
def flt (s : State) : State := s.setEp 0 { s.ep 0 with failed := true }
def doomed (s : State) : State := s.setEp 0 { s.ep 0 with st := .doomed }
def eb : List Byte := D 7 [(500, 1), (436, 5)]
def ev (ab : Nat := 0) : List Byte := D 8 [(500, 1), (436, 5), (435, ab)]
def cpy (len : Nat) (sh dh : Nat) (src : Nat := 0x1000) (dst : Nat := 0x2000) : List Byte := D 2 [(448, src), (384, dst), (344, len), (343, sh), (342, dh)]
def col (cnt : Nat := 8) (fmt : Nat := 0) (kind : Nat := 0) : List Byte := D 4 [(500, 1), (496, kind), (487, fmt), (441, 0x1000), (397, 0x2000), (365, cnt)]
def tbl : List Byte := D 3 [] 2
def dn (s : State) : State := s.odSetN 0x2100 1 0x1003
def sl (s : State) : State := s.odSetN 0x7810 1 (2^17)
def bz (k : Nat) (s : State) : State := { s with memory := { s.memory with delivering := if k = 0 then [0] else [], deciding := if k = 1 then [(0, true)] else [] } }
def st (i : Nat) : State :=
  ([ds [eb] true (bz 0 ∘ grp (GD 2 1 3)), ds [eb] true (bz 1 ∘ grp (GD 2 1 3)), dn (ds [sg 1 0 9 4] false), dn (ds [wc 1] false), sl (ds [sg 1 0 9 4]), sl (ds [sg 1 1 9 4]), { ds [wc 1 1 7 9] with queues := [(0, { (ds [wc 1 1 7 9]).queue 0 with code := .stopped })] }, ds [D 0 [], D 9 []] false, ds [D 77 []] false, ds [D 1 []] false, ds [D 2 [(448, 0x2000_0000), (384, 1), (344, 5)]] false, ds [ev] false, ds [eb] false open1,
   ds [D 0 []], ds [wc 0], ds [wc 1], ds [wc 0 1 7 9], ds [wc 1 1 7 9], ds [D 9 []], ds [krn], ds [krn] (g := fun s => s.setCore 0 { s.core 0 with waitq := [Launch.blank] }),
   ds [cpy 0 0 0], ds [cpy 16 0 0], ds [cpy 40000 0 1], ds [tbl], ds [col] , ds [col] true (grp (GD)), ds [col 0] true (grp (GD)), ds [col 8 31] true (grp (GD)),
   ds [col] true (grp (GD (part := 1))), ds [col 9000 0 3] true (grp (GD)), 
   ds [sg 0 0], ds [sg 0 1], ds [sg 1 0 9 4], ds [sg 1 1 9 4], ds [eb], ds [eb] true (grp (GD 2 1 3)), ds [ev] true open1, ds [ev 1] true open1, ds [ev 0] true (flt ∘ open1), ds [ev 1] true (doomed ∘ open1)] : List State).getD i State.reset
end EpochDescriptorsStates

/-! States for the hypotheses of EpochMembers_EpochMembers, EpochMembers_EpochTimers. -/
namespace EpochMembersStates
def K : Nat := 0x300040
def gdr : List Byte := GD 2 0 refN [K]
def ek (kind : Nat) (term : Nat := 0) (v c rt cnt : Nat := 0) (ep : Nat := 5) : Pkt := pk 6 (fun p => { p with aux := 2 ^ 20 + kind * 2 ^ 16 + term }) (leBytes 8 ep ++ leBytes 1 v ++ leBytes 1 c ++ leBytes 1 rt ++ leBytes 1 0 ++ leBytes 4 cnt)
def est (ep : Ep) (a : Agent) (ps : List Pkt) (gd : List Byte := gdr) (g : State → State := id): State :=
  let s := grp gd fab0
  g { ((s.setEp 0 ep).setAgent 1 a) with fabric := { s.fabric with inbox := ps } }
def ep (st : MemSt) (f : Ep → Ep := id) (tr : Tree := treeOf gdr): Ep := f { Ep.blank with st := st, group := 1, epoch := 5, tree := tr }
def ag (co : CoSt) (f : Agent → Agent := id) (pr : List Promise := []) : Agent := f { Agent.blank with machs := if co = .idle then [] else [⟨5, co, ⟨5, 0, 0, 0⟩, [], pr, 0⟩] }
def tr4 : Tree := ⟨0, 4, 1, 0x300050, [], [0x21, K + 1, K, K + 2]⟩
def L3 : List State := [est (ep .voted) (ag .idle) [ek 5 0 1], est (ep .inDoubt) (ag .idle) [ek 5 0 2 3], est (ep .voted) (ag .idle) [ek 7 0 1], est (ep .inDoubt (tr := tr4)) (ag .idle) [ek 7 0 2], est (ep .inDoubt (tr := tr4)) (ag .idle) [ek 7 0 0], est (ep .inDoubt (fun e => { e with asked := 1 }) (tr := tr4)) (ag .idle) [ek 7 0 3], est (ep .inDoubt (fun e => { e with asked := 4 }) (tr := tr4)) (ag .idle) [ek 7 0 3],
  est (ep .fenced) (ag .idle) [ek 9], est (ep .restoring) (ag .idle) [ek 9], est (ep .voted) (ag .collecting) [], est (ep .voted (tr := tr4)) (ag .idle) [], est (ep .voted) (ag .recording) [], est (ep .fenced) (ag .clearing) [], est (ep .restoring) (ag .clearing) []]
def st (i : Nat) : State :=
  (L3 : List State).getD i State.reset
end EpochMembersStates

/-! States for the hypotheses of FabricEnds_FabricReplies. -/
namespace FabricRepliesStates
def rq (o : ReqOwner) (tries : Nat := 1) (f : Pkt → Pkt := id) : Req := ⟨f { Pkt.req 0 0x40 2 3 0 [1] with src := 0x21, seq := 5 }, o, tries, 0, 4, 100⟩
def core0 (s : State) : State := s.setCore 0 { Core.blank with ctx := [(0, { Ctx.blank with st := .running, launch := lau 3 })], mops := [⟨5, 0, BitVec.ofNat 64 (ins 2 0), 0,0,0,0,0, .started, 3, 0, 0⟩] }
def rep (p : Pkt) (r : Req) (g : State → State := id) : State := let s := core0 (inb [p]); g { s with fabric := { s.fabric with out := [r, rq .pace 1 (fun p => { p with dst := 0x50 })] } }
def L2 : List State := [rep (pk 3) (rq (.mop 0 5)), rep (pk 2 id [7,8,9]) (rq (.get 0 5 0x1000)), rep (pk 7 (fun p => { p with status := 1 })) (rq (.mop 0 5)), rep (pk 7 (fun p => { p with status := 2 })) (rq (.mop 0 5)), rep (pk 7 (fun p => { p with status := 5 })) (rq (.mop 0 5)), rep (pk 7 (fun p => { p with status := 5 })) (rq (.mop 0 5) 4),
   rep (pk 7 (fun p => { p with status := 3 })) (rq (.mop 0 5)), rep (pk 7 (fun p => { p with status := 4 })) (rq (.mop 0 5)), rep (pk 7 (fun p => { p with status := 7 })) (rq (.mop 0 5)), rep (pk 3) (rq (.mop 0 5)) (fun s => { s with fabric := { s.fabric with stopped := true } }), rep (pk 3) (rq (.mop 0 5) 4)]
def st (i : Nat) : State :=
  (L2 : List State).getD i State.reset
end FabricRepliesStates

/-! States for the hypotheses of FabricArrivals_FabricRequests. -/
namespace FabricRequestsBStates
def mem1 (s : State) : State := s.wr 0x1000 (List.range 40 |>.map (BitVec.ofNat 8))
def L1 : List State := [up.setLink 0 { Link.blank with st := .active, rx := [pk 0, pk 1] }, (fab0.setLink 0 { Link.blank with st := .active, rx := [pk 0 id [1,2,3], pk 1] }), (fab0.setLink 5 { Link.blank with st := .active, rx := [pk 9] }), (fab0.setLink 5 { Link.blank with st := .active, rx := [pk 0 (fun p => { p with reserved := 1 })] }),
  inb [pk 0 (fun p => { p with win := 2, offset := 0x10 }) [1,2,3]], inb [pk 0 (fun p => { p with win := 2, offset := 0x10, ce := true, rcore := 1, rcnt := 4 }) [1,2,3]], inb [pk 1 (fun p => { p with win := 2, offset := 0x10, len := 16 })] mem1,
  inb [pk 1 (fun p => { p with win := 2, offset := 0, len := 16, ce := true, rcore := 1, rcnt := 3 })] mem1, inb [pk 4 (fun p => { p with rcore := 1, rcnt := 3 }) (leBytes 8 77)], inb [pk 0 (fun p => { p with win := 3 }) [1]], inb [pk 1 (fun p => { p with win := 2, offset := 0x1000, len := 1 })]]
def spw (s : State) : State := let s := s.setCore 0 (Core.blank.setBank 0 { Bank.blank with owner := 2 }); s.odSet 0x6100 4 (.blob (leBytes 8 (spadBase 0) ++ leBytes 8 0x1000 ++ leBytes 8 3))
def L1e : List State := [spw (inb [pk 0 (fun p => { p with win := 3, offset := 8 }) [1,2,3]]), spw (inb [pk 1 (fun p => { p with win := 3, offset := 8, len := 16 })])]
def st (i : Nat) : State :=
  (L1.drop 4 ++ L1e : List State).getD i State.reset
end FabricRequestsBStates

/-! States for the hypotheses of FabricTiming_FabricTime, FabricTiming_FlowTimers, FabricTiming_TableSwap. -/
namespace FabricTimeStates
def fbr (f : Fabric → Fabric) (s : State := fab0) : State := { s with fabric := f s.fabric }
def w1 (a b : Nat) : Win := ⟨a, b, 5, [], [], 0, 0⟩
def l1 (a b : Nat) (h : Bool) (r : Nat) : Limiter := ⟨a, b, r, none, h, 0, 0, 77, 0⟩
def tm (t3 t1 t2 root dist : Nat) (n : Nat := 0) (g : Clk → Clk := id): State := let s := fab0.setLink n { Link.blank with st := .active, ctl := [[8] ++ leBytes 8 t3 ++ leBytes 8 t1 ++ leBytes 8 t2 ++ leBytes 1 dist ++ leBytes 1 1 ++ leBytes 8 root ++ List.replicate 200 0] }
  { s with clk := g { s.clk with localTime := 1000, fabricTime := 5000 } }
def L3 : List State := [fbr (fun f => { f with swap := some ⟨1, 5, 6⟩ }), (fbr (fun f => { f with swap := some ⟨1, 5, 6⟩, stopped := true })).setLink 3 { Link.blank with st := .active, rx := [pk 0], txq := [pk 1, pk 0] }, fbr (fun f => { f with stopped := true }), fbr (fun f => { f with wins := [w1 0x40 3, w1 0x50 3, w1 0x40 0], limiters := [l1 0x40 3 false 5, l1 0x50 3 true 7, l1 0x40 0 false 400_000_000_000] }),
   tm 4000 3000 4500 0 0, tm 5000 300 1300 0 0, tm 4000 4000 40000000 0 0, tm 4990 4980 4990 0 1 5, tm 4990 0 4990 0 1 5]

def st (i : Nat) : State :=
  (L3 : List State).getD i State.reset
end FabricTimeStates

/-! States for the hypotheses of HostRegisters_FunctionRegisters, HostRegisters_QueueRegisters, HostRegisters_RegisterWrites. -/
namespace FunctionRegistersStates
def Q (code : QCode) (tail : Nat := 5) (head : Nat := 2) (fe : List Fetched := []) (ctrl : Nat := 0) (lg : Nat := 6): Queue :=
  { Queue.blank with ring := 0x10000 + lg, cq := 0x20000 + 6, ctrl := ctrl, code := code, head := head, tail := tail, cqwr := 4, cqhead := 1, fetched := fe, count := 3 }
def F : List Fetched := [⟨0, 2, List.replicate 128 0, some 3⟩, ⟨1, 4, List.replicate 64 0, none⟩]
def fl (q i : Nat) (sil : Bool := false) : Flight := ⟨⟨q, i⟩, 0, 0, [], 1, [], 0, false, none, 0, sil⟩
def hst (x : Queue) (q : Nat := 0) (abi : Nat := 3) (fls : List Flight := []) (s : State := up) : State :=
  { s with queues := [(q, x)], fns := [(0, { Fn.blank with abiAgreed := abi, event := 0x13, msixOpen := [(5, true)] })], disp := { s.disp with flights := fls }, hcnt := [(0, ⟨5, 7, true, true, 5⟩), (1, ⟨5, 7, true, true, 6⟩), (2, ⟨9, 7, true, false, 6⟩), (5, ⟨9, 7, false, true, 6⟩), (511, ⟨1, 0, true, true, 5⟩)], hostMem := (List.range 64).flatMap (fun i => [(0x10000 + 64 * i, 0x07), (0x10000 + 64 * i + 1, BitVec.ofNat 8 (i % 3))]) |>.filter (fun e => e.2 ≠ 0) }
def frz (x : Queue) : State := hst x (s := (up.odSet 0x9001 1 (.num 1)).odSet 0x6031 1 (.num 1))
def st (i : Nat) : State :=
  ([frz (Q .disabled), frz (Q .enabled), hst (Q .enabled), hst (Q .enabled (fe := F)), hst (Q .stopped (fe := F)), hst (Q .disabled 0 0), hst (Q .disabled 0 0) (abi := 0), hst (Q .stopped) (abi := 0), hst (Q .guilty) (fls := [fl 0 0, fl 0 1]),
   hst (Q .closing) (fls := [fl 0 0]), hst (Q .enabled) (fls := [fl 0 0 true]), hst (Q .enabled) (s := { up with life := { up.life with svc := .grey } }), hst (Q .enabled) (s := up.odSet 0x9001 1 (.num 1)), hst (Q .enabled 1 62), hst (Q .enabled 0 62 F),
   hst (Q .enabled 5 5), hst (Q .enabled 6 5), hst (Q .disabled 5 2 [] 0 3), hst (Q .enabled 5 2 [] (5 * 2^22 + 1))] : List State).getD i State.reset
end FunctionRegistersStates

/-! States for the hypotheses of HostFunctions_FunctionResets. -/
namespace FunctionResetsStates
def fl (q i : Nat) : Flight := ⟨⟨q, i⟩, q / 64, 2, [], 1, [], 1, false, none, 0, false⟩
def fs (vf : Bool) (win : Nat := 0x80) (w1 : Nat := 0x1000000080) (ls : Svc := .green): State := 
  let u := if vf then (up.odSetN 0x9001 1 1) else up
  let u := { u with life := { u.life with svc := ls }, disp := { u.disp with flights := [fl 0 0, fl 0 1, fl 64 0] }, hcnt := [(3, ⟨5, 6, true, true, 5⟩), (512, ⟨5, 6, true, true, 5⟩)], queues := [(0, { dq [] with cqwr := 3, cqhead := 1 }), (64, dq [D 0 []] .stopped), (1023, dq [] .closing)] }
  let f : Fn := { Fn.blank with win0 := win, win1 := w1, event := 5 }
  { u with fns := [(0, f), (1, f)], mem := [(0x1000, 3), (0x1004, 4)], hostMem := [(5, 6)] }
def st (i : Nat) : State :=
  ([(fs false).odSetN 0x6000 0 0, fs false 0x0000_0200_0000_0080, fs false 0x0000_0100_0000_0080, (fun s => { s with parts := [(0, { lpart with regions := [(0, 0x1000)]})] }) (fs false),fs false, fs true, fs true 0, fs false 0x81, fs true 0x80 0x80 .grey, (fs true).odSetN 0x6031 1 3, (fs false).odSetN 0x9000 0 0] : List State).getD i State.reset
end FunctionResetsStates

/-! States for the hypotheses of Resets_GuiltySearch. -/
namespace GuiltySearchStates
def wk (s : State) (n : Nat := 0) : State := (s.setCore n { Core.blank with ctx := [(0, { Ctx.blank with st := .running, launch := lau 3 })], vRun := some ⟨0,0,0,0,0,0⟩ })
def fl0 : Flight := ⟨⟨0, 0⟩, 0, 3, D 1 [(512, 1)] 3, 1, [], 0, false, none, 0, false⟩
def fq (s : State) : State := { s with disp := { s.disp with flights := [fl0] }, queues := [(0, dq [D 0 []])] }
def rr (scope target : Nat) (held : Bool := false) : ResetRun := ⟨scope, target, 0, false, false, held, [], 0⟩
def rst (l : List ResetRun) (f : Faults → Faults := id) (g : State → State := id) : State := g { wk up with faults := f { up.faults with resets := l } }
def grey (s : State) : State := { s with life := { s.life with svc := .grey } }
def sus (k : Nat) : Suspect := ⟨k, { Launch.blank with len := 3, base := 5 * k, desc := ⟨0, k⟩ }, false⟩
def rq (cur : Option Suspect) (todo past : List Suspect) : State := let u := fq (wk up); { u with queues := [(0, dq [D 0 []] .stopped)], faults := { up.faults with resets := [], replays := [⟨0, todo, cur, past, 5⟩] } }
def L2 : List State := [rst [rr 1 0], rst [rr 1 13, rr 2 1], rst [rr 2 0], rst [rr 3 0], rst [rr 4 0] id (fun s => grey (s.odSetN 0x2003 0 0x38)), rst [rr 6 1], rst [rr 2 1 true], rst [] (fun f => { f with fences := [⟨false, 0⟩, ⟨true, 1⟩] }), rst [] (fun f => { f with fences := [⟨false, 0⟩, ⟨true, 1⟩], tagWait := [0] }),
  rst [] id (fun s => s.setPhase (epIn 1 17) true), rst [rr 2 1] id (fun s => (s.setPhase (epIn 1 17) true).odSetN 0x7810 2 (2^17)), rq none [sus 0, sus 2] [], rq (some (sus 1)) [sus 2] [], rq (some (sus 1)) [] [], rq (some (sus 1)) [] [sus 3],
  ses (fun s => wk s), ses (fun s => (wk s).odSetN 0x7812 0 1)]
def st (i : Nat) : State :=
  (L2 : List State).getD i State.reset
end GuiltySearchStates

/-! States for the hypotheses of StackUpkeep_HeldWrites. -/
namespace HeldWritesStates
/-- protected 0x1000..0x1FFF; slice at 0x800000 of 1 MB -/
def ms (col : Nat) (f : Memory → Memory := id) (g : State → State := id) : State :=
  let u := up
  let u := ((u.odSet 0x5830 1 (.blob (leBytes 8 0x1000 ++ leBytes 8 0x1000))).odSetN 0x5840 1 0x800000).odSetN 0x5841 1 1
  let u := u.odSetN 0x8061 1 col
  let u := u.setEp 0 { Ep.blank with st := if col = 0 then .closed else .opened, epoch := 7, colour := col }
  let u := u.wr 0x1000 [1,2,3,4,5] |>.wr 0x1040 [9,9]
  g { u with memory := f u.memory }
def ms4 : List State := [ms 1 (fun m => { m with held := [⟨0, 0x1000, [1,2]⟩] }), ms 1 (fun m => { m with held := [⟨0, 0xC000000000 - 1, [1]⟩] }), ms 0, (ms 1).odSetN 0x8011 2 1, ms 1 (fun m => { m with patrol := [(0, stackSize / 64 - 1)] }), ms 1 (fun m => { m with held := [⟨0, 0x1000, [1,2]⟩] }) (fun s => s.odSetN 0x5841 1 0)]
def st (i : Nat) : State :=
  (ms4 : List State).getD i State.reset
end HeldWritesStates

/-! States for the hypotheses of HostCounting_HostCounters. -/
namespace HostCountersStates
def Q (code : QCode) (tail : Nat := 5) (head : Nat := 2) (fe : List Fetched := []) (ctrl : Nat := 0) (lg : Nat := 6): Queue :=
  { Queue.blank with ring := 0x10000 + lg, cq := 0x20000 + 6, ctrl := ctrl, code := code, head := head, tail := tail, cqwr := 4, cqhead := 1, fetched := fe, count := 3 }
def hst (x : Queue) (q : Nat := 0) (abi : Nat := 3) (fls : List Flight := []) (s : State := up) : State :=
  { s with queues := [(q, x)], fns := [(0, { Fn.blank with abiAgreed := abi, event := 0x13, msixOpen := [(5, true)] })], disp := { s.disp with flights := fls }, hcnt := [(0, ⟨5, 7, true, true, 5⟩), (1, ⟨5, 7, true, true, 6⟩), (2, ⟨9, 7, true, false, 6⟩), (5, ⟨9, 7, false, true, 6⟩), (511, ⟨1, 0, true, true, 5⟩)], hostMem := (List.range 64).flatMap (fun i => [(0x10000 + 64 * i, 0x07), (0x10000 + 64 * i + 1, BitVec.ofNat 8 (i % 3))]) |>.filter (fun e => e.2 ≠ 0) }
def xb (b p : Bool) : State := let s := hst (Q .enabled); { s with clk := { s.clk with xing := [(xingKey 4 5, ⟨b, p⟩), (xingKey 4 6, ⟨b, p⟩)] } }
def st (i : Nat) : State :=
  ([xb true false, xb true true, hst (Q .enabled), hst (Q .enabled) (s := up.odSet 0x9001 1 (.num 1))] : List State).getD i State.reset
end HostCountersStates

/-! States for the hypotheses of HostFunctions_HostWindows. -/
namespace HostWindowsStates
def fl (q i : Nat) : Flight := ⟨⟨q, i⟩, q / 64, 2, [], 1, [], 1, false, none, 0, false⟩
def fs (vf : Bool) (win : Nat := 0x80) (w1 : Nat := 0x1000000080) (ls : Svc := .green): State := 
  let u := if vf then (up.odSetN 0x9001 1 1) else up
  let u := { u with life := { u.life with svc := ls }, disp := { u.disp with flights := [fl 0 0, fl 0 1, fl 64 0] }, hcnt := [(3, ⟨5, 6, true, true, 5⟩), (512, ⟨5, 6, true, true, 5⟩)], queues := [(0, { dq [] with cqwr := 3, cqhead := 1 }), (64, dq [D 0 []] .stopped), (1023, dq [] .closing)] }
  let f : Fn := { Fn.blank with win0 := win, win1 := w1, event := 5 }
  { u with fns := [(0, f), (1, f)], mem := [(0x1000, 3), (0x1004, 4)], hostMem := [(5, 6)] }
def st (i : Nat) : State :=
  ([(fs false).odSetN 0x6000 0 0, fs false 0x0000_0100_0000_0080, (fun s => { s with parts := [(0, { lpart with regions := [(0, 0x1000)]})] }) (fs false),fs false, fs true, fs true 0, fs false 0x81, (fs true).odSetN 0x6031 1 3, (fs false).odSetN 0x9000 0 0] : List State).getD i State.reset
end HostWindowsStates

/-! States for the hypotheses of IllegalInstruction. -/
namespace IllegalInstructionStates
def codes : List (Nat × Nat) := aluRows.map (fun e => (0, e.2.1)) ++ tensorRows.map (fun e => (1, e.2)) ++
  vectorRows.map (fun e => (3, e.2)) ++ moveEngineRows.map (fun e => (2, e.2)) ++
  [(0, 0x00), (0, 0x01), (0, 0x02), (0, 0x10), (0, 0x11), (0, 0x18), (0, 0x19), (0, 0x1A), (0, 0x1B), (0, 0x1C), (0, 0x1D), (0, 0x1F),
   (0, 0x21), (1, 0x00)]
def st (i : Nat) : State :=
  (codes.map (fun e => runs 0 [ins e.1 e.2 (2 ^ 34 * (if e.1 = 0 then 1 else 0) + (if e.1 = 1 then 2 ^ 25 else if e.1 = 2 then 1 else if e.1 = 3 then 2 ^ 56 - 1 else 0))]) ++ [runs 0 [ins 3 0x0A], runs 14 [ins 1 0x3F], runs 0 [ins 0 0x3E], runs 0 [ins 2 7], runs 0 [ins 2 5 (2^49)]] : List State).getD i State.reset
end IllegalInstructionStates

/-! States for the hypotheses of DescriptorKinds_KernelDispatch. -/
namespace KernelDispatchStates
def krn : List Byte := D 1 [(384, 7), (340, 0x1000), (326, 5), (311, 3), (512, 0b1001), (1024, 11), (1088, 12)] 3
def wc (core : Nat) (idx : Nat := 1) (v : Nat := 0) (tmo : Nat := 0) : List Byte := D 5 [(448, v), (447, core), (438, idx), (400, tmo)]
def sg (core set : Nat) (v : Nat := 9) (cnt : Nat := 0) : List Byte := D 6 [(448, v), (447, core), (438, 1), (432, cnt), (431, set)]
def open1 (s : State) : State := s.setEp 0 { Ep.blank with st := .opened, group := 1, epoch := 5, tree := ⟨0, 2, 1, 3, [], []⟩ }
def flt (s : State) : State := s.setEp 0 { s.ep 0 with failed := true }
def doomed (s : State) : State := s.setEp 0 { s.ep 0 with st := .doomed }
def eb : List Byte := D 7 [(500, 1), (436, 5)]
def ev (ab : Nat := 0) : List Byte := D 8 [(500, 1), (436, 5), (435, ab)]
def cpy (len : Nat) (sh dh : Nat) (src : Nat := 0x1000) (dst : Nat := 0x2000) : List Byte := D 2 [(448, src), (384, dst), (344, len), (343, sh), (342, dh)]
def col (cnt : Nat := 8) (fmt : Nat := 0) (kind : Nat := 0) : List Byte := D 4 [(500, 1), (496, kind), (487, fmt), (441, 0x1000), (397, 0x2000), (365, cnt)]
def tbl : List Byte := D 3 [] 2
def dn (s : State) : State := s.odSetN 0x2100 1 0x1003
def sl (s : State) : State := s.odSetN 0x7810 1 (2^17)
def st (i : Nat) : State :=
  ([dn (ds [sg 1 0 9 4] false), dn (ds [wc 1] false), sl (ds [sg 1 0 9 4]), sl (ds [sg 1 1 9 4]), { ds [wc 1 1 7 9] with queues := [(0, { (ds [wc 1 1 7 9]).queue 0 with code := .stopped })] }, ds [D 0 [], D 9 []] false, ds [D 77 []] false, ds [D 1 []] false, ds [D 2 [(448, 0x2000_0000), (384, 1), (344, 5)]] false, ds [ev] false, ds [eb] false open1,
   ds [D 0 []], ds [wc 0], ds [wc 1], ds [wc 0 1 7 9], ds [wc 1 1 7 9], ds [D 9 []], ds [krn], ds [krn] (g := fun s => s.setCore 0 { s.core 0 with waitq := [Launch.blank] }),
   ds [cpy 0 0 0], ds [cpy 16 0 0], ds [cpy 40000 0 1], ds [tbl], ds [col] , ds [col] true (grp (GD)), ds [col 0] true (grp (GD)), ds [col 8 31] true (grp (GD)),
   ds [col] true (grp (GD (part := 1))), ds [col 9000 0 3] true (grp (GD)), 
   ds [sg 0 0], ds [sg 0 1], ds [sg 1 0 9 4], ds [sg 1 1 9 4], ds [eb], ds [eb] true (grp (GD 2 1 3)), ds [ev] true open1, ds [ev 1] true open1, ds [ev 0] true (flt ∘ open1), ds [ev 1] true (doomed ∘ open1)] : List State).getD i State.reset
end KernelDispatchStates

/-! States for the hypotheses of LaneRepair. -/
namespace LaneRepairStates
def lk (st : LinkSt) (n : Nat := 0) (f : Link → Link := id) (g : State → State := id) : State := g (up.setLink n (f { Link.blank with st := st }))
def msg (n : Nat) (bs : List Byte) (st : LinkSt := .active) (f : Link → Link := id) (g : State → State := id): State := lk st n (fun l => f { l with ctl := [bs ++ List.replicate (240 - bs.length) 0, [9]] }) g
def v3 (s : State) : State := s.odSetN 0x4004 1 (3 * 2 ^ 24 + 0xFFFF)
def L3 : List State := [lk .active 0 id v3, lk .activeHalf 0 id v3, msg 0 [2, 3, 5], msg 0 [3, 0], msg 0 [3, 1], msg 0 [4, 0, 0, 1] .active (fun l => { l with halfOk := true }) v3, msg 0 [4, 1, 0, 1] .active (fun l => { l with halfOk := true, rxFail := 1 }) v3, msg 0 [5, 0],
   lk .active 0 (fun l => { l with repair := some ⟨3, 15, 1⟩ }), lk .active 0 (fun l => { l with repair := some ⟨3, 15, 0⟩ }) (fun s => s.odSetN 0x4024 1 (2^32-1))]
def L3b : List State := [lk .active 0 (fun l => { l with repair := some ⟨3, 0, 1⟩, txSpare := 6 }), msg 0 [2, 3, 5] .active id v3]
def st (i : Nat) : State :=
  (L3 ++ L3b : List State).getD i State.reset
end LaneRepairStates

/-! States for the hypotheses of Launching_LaunchState, Launching_ProgramCopy. -/
namespace LaunchStateStates
def L1 : Launch := { Launch.blank with len := 3, args := [11, 12, 13], acc0 := true, prog := 0x1000, base := 5 }
def cst (sts : List CtxSt) (l : Launch := L1) (n : Nat := 0) (wq : Bool := true) (s : State := up) : State :=
  let c := { Core.blank with ctx := sts.mapIdx (fun i x => (i, { Ctx.blank with st := x, sreg := [(1, 5)], pc := i, launch := if x = .loading then l else { Launch.blank with base := 100 + 10 * i, len := 5 } })), waitq := if wq then [l, { l with base := 99 }] else [], acc0 := ⟨.int, true, [(3, 4)]⟩, acc1 := ⟨.int, true, [(3, 4)]⟩ }
  (put n c s).wr 0x1000 ((List.range 24).map (fun i => BitVec.ofNat 8 (i + 1)))
def st (i : Nat) : State :=
  ([cst [.empty, .empty], cst [.running, .ready, .draining, .empty], cst [.running, .empty, .draining, .empty], cst [.running, .ready, .draining, .empty] { L1 with base := 115 },
   cst [.loading, .running], cst [.running, .running, .running, .loading], cst [.running, .running, .running, .loading] { L1 with prog := 0x2000_0000 }, cst [.loading] { L1 with replay := true }, cst [.loading] (n := 14), cst [.loading] { L1 with prog := 0x40_0000_0000 }, cst [.loading] { L1 with prog := 0x1_0000_0000 }, cst [.loading] {L1 with prog := poolBase 0}, cst [.loading] {L1 with prog := spadBase 3}, cst [.loading] {L1 with prog := 0x3FF_FFFF_FFF0}, cst [] (n := 14) {L1 with acc1 := true, acc0 := false}] : List State).getD i State.reset
end LaunchStateStates

/-! States for the hypotheses of LinkEnds_LinkGoesDown. -/
namespace LinkGoesDownStates
def lk (st : LinkSt) (n : Nat := 0) (f : Link → Link := id) (g : State → State := id) : State := g (up.setLink n (f { Link.blank with st := st }))
def msg (n : Nat) (bs : List Byte) (st : LinkSt := .active) (f : Link → Link := id) (g : State → State := id): State := lk st n (fun l => f { l with ctl := [bs ++ List.replicate (240 - bs.length) 0, [9]] }) g
def pk0 : Pkt := { Pkt.req 0 5 0 0 0 [] with src := 3 }
def L2 : List State := [lk .detect, lk .negotiate, lk .active, lk .activeHalf 5, msg 0 [7, 1], lk .active 0 (fun l => { l with repair := some ⟨1, 15, 2⟩, rx := [pk0], txq := [pk0] }), lk .active 0 (fun l => { l with txHold := true }), lk .active 0 (fun l => { l with alignLost := [5, 8] }),
   lk .down 0 id (fun s => s.odSetN 0x4001 1 1), lk .loopback 0 (fun l => { l with loop := some ⟨1, 5, .down, true, true, 0⟩ }), lk .loopback 0 (fun l => { l with loop := some ⟨2, 5, .down, false, true, 0⟩ }) (fun s => s.odSetN 0x4001 1 1), lk .loopback 0 (fun l => { l with loop := some ⟨3, 5, .disabled, true, true, 0⟩ })]
def L2b : List State := [lk .active 0 (fun l => { l with lost := 1}), (lk .detect).odSetN 0x4032 0 1,(lk .down).odSetN 0x4032 0 1, (lk .negotiate).odSetN 0x4032 0 1, lk .negotiate 0 id (fun s => s.odSetN 0x400A 1 99), lk .loopback 0 (fun l => { l with loop := some ⟨1, 5, .negotiate, true, false, 0⟩ }), lk .loopback 0 (fun l => { l with loop := some ⟨1, 5, .detect, true, false, 0⟩ }), lk .loopback 0 (fun l => { l with loop := some ⟨1, 5, .negotiate, true, true, 0⟩ })]
def st (i : Nat) : State :=
  (L2 ++ L2b : List State).getD i State.reset
end LinkGoesDownStates

/-! States for the hypotheses of LinkTrains_LinkTrains. -/
namespace LinkTrainsStates
def lk (st : LinkSt) (n : Nat := 0) (f : Link → Link := id) (g : State → State := id) : State := g (up.setLink n (f { Link.blank with st := st }))
def msg (n : Nat) (bs : List Byte) (st : LinkSt := .active) (f : Link → Link := id) (g : State → State := id): State := lk st n (fun l => f { l with ctl := [bs ++ List.replicate (240 - bs.length) 0, [9]] }) g
def L1 : List State := [lk .detect, lk .detect 11, lk .negotiate, lk .negotiate 0 id (fun s => s.odSetN 0x400A 1 99), lk .equalise, lk .align, lk .qualify, msg 0 [6,1] .qualify (fun l => { l with mine := some true }), msg 5 [6,1] .qualify (fun l => { l with mine := some true }),
   msg 0 [6,0] .qualify (fun l => { l with mine := some true })]
def L1b : List State := [(lk .negotiate).odSet 0x4016 1 (.blob (leBytes 8 99 ++ List.replicate 72 1)), (lk .qualify 0 (fun l => { l with errs := [(1, 9_000_000)] })), (lk .qualify 0 (fun l => { l with lost := 2, rxSpare := 3 })), (lk .qualify 0 (fun l => { l with bad := 1 })), (lk .qualify 0 (fun l => { l with rxHalf := 1 })).odSetN 0x4004 1 (3 * 2 ^ 24 + 7), (lk .qualify 0 (fun l => { l with rxSpare := 1 })).odSetN 0x4004 1 (3 * 2 ^ 24 + 7)]
def st (i : Nat) : State :=
  (L1 ++ L1b ++ [lk .qualify 0 (fun l => { l with bad := 1, attempts := 3 }), msg 0 [6,0] .qualify (fun l => { l with mine := some true, attempts := 3 })] : List State).getD i State.reset
end LinkTrainsStates

/-! States for the hypotheses of LinkEnds_LoopbackEnds. -/
namespace LoopbackEndsStates
def lk (st : LinkSt) (n : Nat := 0) (f : Link → Link := id) (g : State → State := id) : State := g (up.setLink n (f { Link.blank with st := st }))
def msg (n : Nat) (bs : List Byte) (st : LinkSt := .active) (f : Link → Link := id) (g : State → State := id): State := lk st n (fun l => f { l with ctl := [bs ++ List.replicate (240 - bs.length) 0, [9]] }) g
def pk0 : Pkt := { Pkt.req 0 5 0 0 0 [] with src := 3 }
def L2 : List State := [lk .detect, lk .negotiate, lk .active, lk .activeHalf 5, msg 0 [7, 1], lk .active 0 (fun l => { l with repair := some ⟨1, 15, 2⟩, rx := [pk0], txq := [pk0] }), lk .active 0 (fun l => { l with txHold := true }), lk .active 0 (fun l => { l with alignLost := [5, 8] }),
   lk .down 0 id (fun s => s.odSetN 0x4001 1 1), lk .loopback 0 (fun l => { l with loop := some ⟨1, 5, .down, true, true, 0⟩ }), lk .loopback 0 (fun l => { l with loop := some ⟨2, 5, .down, false, true, 0⟩ }) (fun s => s.odSetN 0x4001 1 1), lk .loopback 0 (fun l => { l with loop := some ⟨3, 5, .disabled, true, true, 0⟩ })]
def L2b : List State := [lk .active 0 (fun l => { l with lost := 1}), (lk .detect).odSetN 0x4032 0 1,(lk .down).odSetN 0x4032 0 1, (lk .negotiate).odSetN 0x4032 0 1, lk .negotiate 0 id (fun s => s.odSetN 0x400A 1 99), lk .loopback 0 (fun l => { l with loop := some ⟨1, 5, .negotiate, true, false, 0⟩ }), lk .loopback 0 (fun l => { l with loop := some ⟨1, 5, .detect, true, false, 0⟩ }), lk .loopback 0 (fun l => { l with loop := some ⟨1, 5, .negotiate, true, true, 0⟩ })]
def st (i : Nat) : State :=
  (L2 ++ L2b ++ [lk .loopback 0 (fun l => { l with loop := some ⟨4, 5, .down, true, true, 0⟩ })] : List State).getD i State.reset
end LoopbackEndsStates

/-! States for the hypotheses of EngineTransfers_MoveEngineDone, EngineTransfers_ScratchpadDone. -/
namespace MoveEngineDoneStates
def bx (o : Nat) (nb : Nat := 0) : Bank := { Bank.blank with owner := o, nbr := nb }
def lst (op : Nat) (data : Nat) (sd : Nat := 3) (owner : Nat := 0) (x : CtxSt := .running) (n : Nat := 0) : State :=
  let w : Word := BitVec.ofNat 64 (cop op sd)
  let q : QOp := ⟨0, w, 0, 0, 0x1122334455667788, data⟩
  (put n { Core.blank with ctx := [(0, { Ctx.blank with st := x, launch := lau 3, sreg := [(3, 8)] })], vRun := some q, bank := if owner = 0 then [] else [(bankNo data, bx owner)] }).wr (spadBase n + data) [1,2,3,4,5,6,7,8,9]
def lpp : Part := { Part.blank with st := .live, clusters := 0x3, regions := [(0, 0x1000000)] }
def mst (op : Nat) (ce : Nat := 1) (rc : Nat := 1) (left : Nat := 0) (l : Nat := 64) (d : Nat := 0x2000) (s : Nat := 0x1008): State :=
  let w : Word := BitVec.ofNat 64 (ins 2 op (fld 40 ce + fld 34 7 + fld 24 rc + fld 18 4))
  let m : MOp := ⟨5, 0, w, BitVec.ofNat 64 d, 0, BitVec.ofNat 64 s, 0, BitVec.ofNat 64 l, .started, left, 0, 0⟩
  let z := (put 0 { Core.blank with ctx := [(0, { Ctx.blank with st := .running, launch := lau 3 })], mops := [{ m with id := 1 }, m], cnt := [(4, 9), (7, 2)] }).setCore 1 { Core.blank with cnt := [(4, 11)] }
  let z := { z with parts := [(0, lpp)], faults := { Faults.reset with resets := [] } }
  z.wr s [1,2,3,4,5,6,7,8,9]
def st (i : Nat) : State :=
  ([lst 0x10 0x1008, lst 0x10 0x2f_fff8 0, lst 0x11 0x1008, lst 0x11 0x1008 (owner := 1), lst 0x10 0x1008 (owner := 4), lst 0x11 0x1008 (owner := 4),
  lst 0x11 0x1008 (owner := 4) (x := .draining), mst 0, mst 0 (d := 0x1010), mst 3, mst 3 (rc := 0), mst 1, mst 2, mst 4, mst 4 (ce := 0)] : List State).getD i State.reset
end MoveEngineDoneStates

/-! States for the hypotheses of ObjectWrites. -/
namespace ObjectWritesStates
def L1 : List State := [ses, ses (fun s => s.odAccept 0x3000 0 (.num 5)), ses (fun s => { s with mgmt := { s.mgmt with mbx := s.mgmt.mbx } }.odAccept 0x1110 0 (.num 50))]
def st (i : Nat) : State :=
  (L1 : List State).getD i State.reset
end ObjectWritesStates

/-! States for the hypotheses of OnyxAndTamper. -/
namespace OnyxAndTamperStates
def spd (x : Spdm) (g : State → State := id) : State := g { up with sec := { up.sec with spdm := [(0, x), (1, x)] } }
def sx : Spdm := ⟨3, 0x13, [⟨5, true, 9⟩]⟩
def sec (k : Ide) (tdi : Nat) (g : State → State := id) (st : PartSt := .live): State :=
  let s := spd sx
  let s := { s with parts := [(0, { lpart with secure := true, st := st })], sec := { s.sec with ide := [(0, k), (1, k)], nonce := [(0, 77)] } }
  g (s.odSetN 0x6031 1 tdi)
def on (f : Onyx → Onyx) (g : State → State := id) : State := g { up with sec := { up.sec with onyx := f up.sec.onyx } }
def u1 : Unseal := ⟨0, 0x1000, 0x2000, 0x3000, 16⟩
def L3 : List State := [on (fun o => { o with job := some (.create 5) }), on (fun o => { o with job := some (.create 5), secret := [(0, 3)] }) (fun s => s.odSetN 0x6416 1 (5 * 256 + 2)), on (fun o => { o with job := some (.install [1, 5]), eph := [(0, 3)] }) (fun s => s.odSetN 0x6416 1 (5 * 256 + 1)),
  on (fun o => { o with unsealing := some u1 }), on (fun o => { o with unsealing := some u1 }) (fun s => { s with life := { s.life with svc := .grey } }), on (fun o => { o with hbmKey := [(0, 5)], secret := [(0, 3)], eph := [(1, 3)] }) (fun s => s.odSetN 0x6416 1 (5 * 256 + 2))]
def st (i : Nat) : State :=
  (L3 : List State).getD i State.reset
end OnyxAndTamperStates

/-! States for the hypotheses of Power_Pace. -/
namespace PaceStates
def pw (f : Power → Power) (g : State → State := id) (t : Nat := 30_000_000_000) : State := g { up with power := f up.power, clk := { up.clk with localTime := t, uptime := t } }
def fgrp (b : List Byte) (ps : List Pkt) (f : Power → Power := id) : State := let s := (grp b fab0).odSetN 0x6010 1 0x9; { s with power := f { s.power with group := 1 }, fabric := { s.fabric with inbox := ps }, clk := { s.clk with localTime := 5_000_000_000, uptime := 5_000_000_000, fabricTime := 5_000_000_000 } }
def pm (kind fc tick : Nat) : Pkt := pk 4 (fun p => { p with rcore := 0x1FF, rcnt := 0x3F, spart := 0 }) (leBytes 8 (kind * 2 ^ 60 + 1 * 2 ^ 48 + fc * 2 ^ 32 + tick))
def L1 : List State := [pw id, pw (fun p => { p with stretches := (List.range 14).map (· + 29_999_900_000) }), pw (fun p => { p with stretches := (List.range 15).map (· + 29_999_900_000), lastStretch := 29_999_999_000 }), (pw id).odSetN 0x3000 0 500, (pw id).odSetN 0x3032 0 3,
  fgrp (GD 2 0 refN [0x300040]) [pm 1 5 0], fgrp (GD 2 1 0x300040 []) [pm 2 5 5000], fgrp (GD 2 1 0x300040 []) [pm 2 5 7000], fgrp (GD 2 0 refN [0x300040]) [] (fun p => { p with above := some 0, f := 700, ceil := 1500 }), fgrp (GD 2 0 refN [0x300040]) [] (fun p => { p with above := some 5, f := 700, ceil := 1500, next := some (800, 5) })]
def st (i : Nat) : State :=
  (L1 : List State).getD i State.reset
end PaceStates

/-! States for the hypotheses of Partitions_PartitionRequests. -/
namespace PartitionRequestsBStates
def win : List Byte := leBytes 8 0x1000 ++ leBytes 8 0x100 ++ leBytes 8 3 ++ leBytes 8 0
def ab (s : State) : State := { s with parts := [] }
def asked (s : State) : State := ((ab s).odSetN 0x6003 1 3).odSet 0x6004 1 (.blob (leBytes 8 0 ++ leBytes 8 0x1000000))
def pst (x : PartSt) (s : State) : State := { s with parts := [(0, { lpart with st := x })], queues := [(3, { dq [D 0 []] with code := .enabled })] }
def L : List State := [ses ab, ses asked, ses (pst .live), ses (pst .creating), ses (fun s => (pst .live s).odSetN 0x6416 1 (5 * 256 + 2)), ses (fun s => let s := pst .live s; { s with fabric := { s.fabric with begun := [{ Pkt.req 0 0x40 0 3 0 [1] with dpart := 0, win := 5 }] } })]
def pt (st : PartSt) (g : State → State := id) (f : Part → Part := id) : State := g ({ up with parts := [(0, f { lpart with st := st, clusters := 1 }), (1, { lpart with clusters := 2, regions := [(0x2000000, 0x1000)] })] }.wr 0x1000 [1,2,3] |>.wr 0x2000000 [4] |>.wr (spadBase 0 + 5) [9] |>.wr (spadBase 12) [9])
def L4 : List State := [pt .creating, pt .draining, pt .draining (fun s => s.setCore 0 { Core.blank with vRun := some ⟨0,0,0,0,0,0⟩ }), pt .scrubbing]
def st (i : Nat) : State :=
  (L ++ L4 : List State).getD i State.reset
end PartitionRequestsBStates

/-! States for the hypotheses of Partitions_PartitionSteps. -/
namespace PartitionStepsStates
def pt (st : PartSt) (g : State → State := id) (f : Part → Part := id) : State := g ({ up with parts := [(0, f { lpart with st := st, clusters := 1 }), (1, { lpart with clusters := 2, regions := [(0x2000000, 0x1000)] })] }.wr 0x1000 [1,2,3] |>.wr 0x2000000 [4] |>.wr (spadBase 0 + 5) [9] |>.wr (spadBase 12) [9])
def L4 : List State := [pt .creating, pt .draining, pt .draining (fun s => s.setCore 0 { Core.blank with vRun := some ⟨0,0,0,0,0,0⟩ }), pt .scrubbing]
def st (i : Nat) : State :=
  (L4 : List State).getD i State.reset
end PartitionStepsStates

/-! States for the hypotheses of StackUpkeep_PatrolAndSpare. -/
namespace PatrolAndSpareStates
/-- protected 0x1000..0x1FFF; slice at 0x800000 of 1 MB -/
def ms (col : Nat) (f : Memory → Memory := id) (g : State → State := id) : State :=
  let u := up
  let u := ((u.odSet 0x5830 1 (.blob (leBytes 8 0x1000 ++ leBytes 8 0x1000))).odSetN 0x5840 1 0x800000).odSetN 0x5841 1 1
  let u := u.odSetN 0x8061 1 col
  let u := u.setEp 0 { Ep.blank with st := if col = 0 then .closed else .opened, epoch := 7, colour := col }
  let u := u.wr 0x1000 [1,2,3,4,5] |>.wr 0x1040 [9,9]
  g { u with memory := f u.memory }
def ms4 : List State := [ms 1 (fun m => { m with held := [⟨0, 0x1000, [1,2]⟩] }), ms 1 (fun m => { m with held := [⟨0, 0xC000000000 - 1, [1]⟩] }), ms 0, (ms 1).odSetN 0x8011 2 1, ms 1 (fun m => { m with patrol := [(0, stackSize / 64 - 1)] }), ms 1 (fun m => { m with held := [⟨0, 0x1000, [1,2]⟩] }) (fun s => s.odSetN 0x5841 1 0)]
def st (i : Nat) : State :=
  (ms4 ++ [(ms 1) |> fun s => { s with life := { s.life with svc := .grey } }] : List State).getD i State.reset
end PatrolAndSpareStates

/-! States for the hypotheses of DescriptorFlow_PlainDescriptors, HostCounting_SignalCounters. -/
namespace PlainDescriptorsStates
def krn : List Byte := D 1 [(384, 7), (340, 0x1000), (326, 5), (311, 3), (512, 0b1001), (1024, 11), (1088, 12)] 3
def wc (core : Nat) (idx : Nat := 1) (v : Nat := 0) (tmo : Nat := 0) : List Byte := D 5 [(448, v), (447, core), (438, idx), (400, tmo)]
def sg (core set : Nat) (v : Nat := 9) (cnt : Nat := 0) : List Byte := D 6 [(448, v), (447, core), (438, 1), (432, cnt), (431, set)]
def open1 (s : State) : State := s.setEp 0 { Ep.blank with st := .opened, group := 1, epoch := 5, tree := ⟨0, 2, 1, 3, [], []⟩ }
def flt (s : State) : State := s.setEp 0 { s.ep 0 with failed := true }
def doomed (s : State) : State := s.setEp 0 { s.ep 0 with st := .doomed }
def eb : List Byte := D 7 [(500, 1), (436, 5)]
def ev (ab : Nat := 0) : List Byte := D 8 [(500, 1), (436, 5), (435, ab)]
def cpy (len : Nat) (sh dh : Nat) (src : Nat := 0x1000) (dst : Nat := 0x2000) : List Byte := D 2 [(448, src), (384, dst), (344, len), (343, sh), (342, dh)]
def col (cnt : Nat := 8) (fmt : Nat := 0) (kind : Nat := 0) : List Byte := D 4 [(500, 1), (496, kind), (487, fmt), (441, 0x1000), (397, 0x2000), (365, cnt)]
def tbl : List Byte := D 3 [] 2
def dn (s : State) : State := s.odSetN 0x2100 1 0x1003
def sl (s : State) : State := s.odSetN 0x7810 1 (2^17)
def st (i : Nat) : State :=
  ([dn (ds [sg 1 0 9 4] false), dn (ds [wc 1] false), sl (ds [sg 1 0 9 4]), sl (ds [sg 1 1 9 4]), { ds [wc 1 1 7 9] with queues := [(0, { (ds [wc 1 1 7 9]).queue 0 with code := .stopped })] }, ds [D 0 [], D 9 []] false, ds [D 77 []] false, ds [D 1 []] false, ds [D 2 [(448, 0x2000_0000), (384, 1), (344, 5)]] false, ds [ev] false, ds [eb] false open1,
   ds [D 0 []], ds [wc 0], ds [wc 1], ds [wc 0 1 7 9], ds [wc 1 1 7 9], ds [D 9 []], ds [krn], ds [krn] (g := fun s => s.setCore 0 { s.core 0 with waitq := [Launch.blank] }),
   ds [cpy 0 0 0], ds [cpy 4096 0 0], ds [cpy 40000 0 1], ds [tbl], ds [col] , ds [col] true (grp (GD)), ds [col 0] true (grp (GD)), ds [col 8 31] true (grp (GD)),
   ds [col] true (grp (GD (part := 1))), ds [col 9000 0 3] true (grp (GD)), 
   ds [sg 0 0], ds [sg 0 1], ds [sg 1 0 9 4], ds [sg 1 1 9 4], ds [eb], ds [eb] true (grp (GD 2 1 3)), ds [ev] true open1, ds [ev 1] true open1, ds [ev 0] true (flt ∘ open1), ds [ev 1] true (doomed ∘ open1)] : List State).getD i State.reset
end PlainDescriptorsStates

/-! States for the hypotheses of PortEvents. -/
namespace PortEventsStates
def m (f : Mgmt → Mgmt) (s : State := ses) : State := { s with mgmt := f s.mgmt }
def ev (n : Nat) : Event := ⟨n, 5, 6, 7, 8, 9, 10⟩
def xs : Xfer := ⟨false, 0xA002, 0, false, 2, [1,2], [], false, 0⟩
def L1 : List State := [m id, m (fun g => { g with sessions := [], absence := some 5, discovers := [5, 3] }), m (fun g => { g with discovers := [5], mbx := { g.mbx with reqTail := 2, reqHead := 65535, rspTail := 3, rspHead := 1 } }), m (fun g => { g with events := [ev 1, ev 2] }) (ses id (fun x => { x with sent := 2, acked := 1 })),
   ses id (fun x => { x with xfer := some xs, snapGroup := 5 })]
def rom (s : State) : State := { s with fw := { s.fw with a := { s.fw.a with st := .rom }, b := { s.fw.b with st := .silent } } }
def lt (s : State) : State := { s with clk := { s.clk with localTime := 30_000_000_000_000, uptime := 30_000_000_000_000 } }
def hnd (s : State) : State := { s with fw := { s.fw with state := 5 } }
def st (i : Nat) : State :=
  (L1 ++ [rom (m id), lt (m (fun g => { g with events := [ev 1, ev 2] }) (ses id (fun x => { x with sent := 2, acked := 1 }))), lt (ses id (fun x => { x with xfer := some xs }))] ++ [ses id, m (fun g => { g with sessions := g.sessions ++ [SX (fun x => { x with id := 9, src := 3 })] }), hnd (m (fun g => { g with mbx := { g.mbx with reqTail := 1, reqHead := 0 } })), lt (m (fun g => { g with sessions := g.sessions ++ [SX (fun x => { x with id := 9, src := 3 })] }))] : List State).getD i State.reset
end PortEventsStates

/-! States for the hypotheses of Power_PowerControl. -/
namespace PowerControlStates
def pw (f : Power → Power) (g : State → State := id) (t : Nat := 30_000_000_000) : State := g { up with power := f up.power, clk := { up.clk with localTime := t, uptime := t } }
def fgrp (b : List Byte) (ps : List Pkt) (f : Power → Power := id) : State := let s := grp b fab0; { s with power := f { s.power with group := 1 }, fabric := { s.fabric with inbox := ps }, clk := { s.clk with localTime := 5_000_000_000, uptime := 5_000_000_000, fabricTime := 5_000_000_000 } }
def pm (kind fc tick : Nat) : Pkt := pk 4 (fun p => { p with rcore := 0x1FF, rcnt := 0x3F }) (leBytes 8 (kind * 2 ^ 60 + 1 * 2 ^ 48 + fc * 2 ^ 32 + tick))
def L1 : List State := [pw id, pw (fun p => { p with stretches := (List.range 14).map (· + 29_999_900_000) }), pw (fun p => { p with stretches := (List.range 15).map (· + 29_999_900_000), lastStretch := 29_999_999_000 }), (pw id).odSetN 0x3000 0 500, (pw id).odSetN 0x3032 0 3,
  fgrp (GD 2 0 refN [0x300040]) [pm 1 5 0], fgrp (GD 2 1 0x300040 []) [pm 2 5 5000], fgrp (GD 2 1 0x300040 []) [pm 2 5 7000], fgrp (GD 2 0 refN [0x300040]) [] (fun p => { p with above := some 0, f := 700, ceil := 1500 }), fgrp (GD 2 0 refN [0x300040]) [] (fun p => { p with above := some 5, f := 700, ceil := 1500, next := some (800, 5) })]
def st (i : Nat) : State :=
  (L1 ++ [(pw id).odSetN 0x3003 0 ((pw id).wattLimit * 2^16 + 1), ((pw id).odSetN 0x3000 0 500).odSetN 0x3003 0 (((pw id).odSetN 0x3000 0 500).wattLimit * 2^16 + 1), { (pw id) with life := { (pw id).life with offRuns := true } }] : List State).getD i State.reset
end PowerControlStates

/-! States for the hypotheses of InsertionToRemoval_PowerPins. -/
namespace PowerPinsStates
def rr (scope target : Nat) (held : Bool := false) : ResetRun := ⟨scope, target, 0, false, false, held, [], 0⟩
def grey (s : State) : State := { s with life := { s.life with svc := .grey } }
def pin (f : Life → Life) (g : State → State := id) : State := g { up with life := f up.life, mem := [(5, 6)], hostMem := [(7, 8)] }
def L3 : List State := [pin id, pin (fun l => { l with present := false }), pin (fun l => { l with present := false, precharge := false, blades := false }), pin (fun l => { l with blades := false }), pin (fun l => { l with mainSwitch := false, powerGood := false, bulkReady := true }), pin (fun l => { l with powerGood := false }),
  pin (fun l => { l with absentAt := some 5 }), pin (fun l => { l with holdup := true }), grey (pin id), grey (pin (fun l => { l with begun := true, memTrained := 0xFFFE })), grey (pin (fun l => { l with begun := true, memTrained := 0xFFFF, memTested := 0xFFFE })), grey (pin id (fun s => s.odSetN 0x2003 0 1023)), grey (pin id (fun s => (s.odSetN 0x2003 0 1023).odSetN 0x2001 0 0)), grey (pin id (fun s => ((s.odSetN 0x2003 0 1023).odSetN 0x2001 0 0).odSetN 0x2002 0 4)),
  pin (fun l => { l with modReset := true }) (fun s => { s with faults := { s.faults with resets := [rr 4 0 true] } }), pin id (fun s => { s with parts := [(0, lpart), (1, { lpart with st := .absent })] }), pin (fun l => { l with removal := 1 }) (fun s => { s with parts := [] }), pin (fun l => { l with removal := 1 }) (fun s => { s with parts := [] }.odSetN 0x4400 0 5), pin (fun l => { l with removal := 2 }), pin (fun l => { l with removal := 2, released := some 5 }) (fun s => s.setLink 1 { Link.blank with st := .active })]
def st (i : Nat) : State :=
  (L3 ++ [pin (fun l => { l with mainSwitch := false, absentAt := some 5 }), pin (fun l => { l with mainSwitch := false, absentAt := none, input := 65000 }), pin (fun l => { l with mainSwitch := false, absentAt := none, input := 65000, precharge := false })] : List State).getD i State.reset
end PowerPinsStates

/-! States for the hypotheses of InsertionToRemoval_Removal. -/
namespace RemovalStates
def rr (scope target : Nat) (held : Bool := false) : ResetRun := ⟨scope, target, 0, false, false, held, [], 0⟩
def grey (s : State) : State := { s with life := { s.life with svc := .grey } }
def pin (f : Life → Life) (g : State → State := id) : State := g { up with life := f up.life, mem := [(5, 6)], hostMem := [(7, 8)] }
def L3 : List State := [pin id, pin (fun l => { l with present := false }), pin (fun l => { l with present := false, precharge := false, blades := false }), pin (fun l => { l with blades := false }), pin (fun l => { l with mainSwitch := false, powerGood := false, bulkReady := true }), pin (fun l => { l with powerGood := false }),
  pin (fun l => { l with absentAt := some 5 }), pin (fun l => { l with holdup := true }), grey (pin id), grey (pin (fun l => { l with begun := true, memTrained := 0xFFFE })), grey (pin (fun l => { l with begun := true, memTrained := 0xFFFF, memTested := 0xFFFE })), grey (pin id (fun s => s.odSetN 0x2003 0 1023)), grey (pin id (fun s => (s.odSetN 0x2003 0 1023).odSetN 0x2001 0 0)), grey (pin id (fun s => ((s.odSetN 0x2003 0 1023).odSetN 0x2001 0 0).odSetN 0x2002 0 4)),
  pin (fun l => { l with modReset := true }) (fun s => { s with faults := { s.faults with resets := [rr 4 0 true] } }), pin id (fun s => { s with parts := [(0, lpart), (1, { lpart with st := .absent })] }), pin (fun l => { l with removal := 1 }) (fun s => { s with parts := [] }), pin (fun l => { l with removal := 1 }) (fun s => { s with parts := [] }.odSetN 0x4400 0 5), pin (fun l => { l with removal := 2 }), pin (fun l => { l with removal := 2, released := some 5 }) (fun s => s.setLink 1 { Link.blank with st := .active })]
def L3b : List State := [pin (fun l => { l with removal := 2, released := some 5 }) (fun s => s.setLink 1 { Link.blank with txq := [pk 0] }), pin (fun l => { l with removal := 2, released := some 5 }) (fun s => { s.setLink 1 { Link.blank with txq := [pk 0] } with clk := { s.clk with localTime := 2_000_000 } })]
def st (i : Nat) : State :=
  (L3 ++ L3b : List State).getD i State.reset
end RemovalStates

/-! States for the hypotheses of FabricEnds_ReplyEnds. -/
namespace ReplyEndsStates
def rq (o : ReqOwner) (tries : Nat := 1) (f : Pkt → Pkt := id) : Req := ⟨f { Pkt.req 0 0x40 2 3 0 [1] with src := 0x21, seq := 5 }, o, tries, 0, 4, 100⟩
def core0 (s : State) : State := s.setCore 0 { Core.blank with ctx := [(0, { Ctx.blank with st := .running, launch := lau 3 })], mops := [⟨5, 0, BitVec.ofNat 64 (ins 2 0), 0,0,0,0,0, .started, 3, 0, 0⟩] }
def rep (p : Pkt) (r : Req) (g : State → State := id) : State := let s := core0 (inb [p]); g { s with fabric := { s.fabric with out := [r, rq .pace 1 (fun p => { p with dst := 0x50 })] } }
def L2 : List State := [rep (pk 3) (rq (.mop 0 5)), rep (pk 2 id [7,8,9]) (rq (.get 0 5 0x1000)), rep (pk 7 (fun p => { p with status := 1 })) (rq (.mop 0 5)), rep (pk 7 (fun p => { p with status := 2 })) (rq (.mop 0 5)), rep (pk 7 (fun p => { p with status := 5 })) (rq (.mop 0 5)), rep (pk 7 (fun p => { p with status := 5 })) (rq (.mop 0 5) 4),
   rep (pk 7 (fun p => { p with status := 3 })) (rq (.mop 0 5)), rep (pk 7 (fun p => { p with status := 4 })) (rq (.mop 0 5)), rep (pk 7 (fun p => { p with status := 7 })) (rq (.mop 0 5)), rep (pk 3) (rq (.mop 0 5)) (fun s => { s with fabric := { s.fabric with stopped := true } }), rep (pk 3) (rq (.mop 0 5) 4)]
def reps (p : Pkt) (o : ReqOwner) (tr : Nat := 1) (g : State → State := id) : State := rep p (rq o tr) g
def withCmd (s : State) : State := { s with sepia := { s.sepia with cmds := [⟨3, .desc ⟨0,0⟩, 0, 0, 0, true, 0, [], [], false⟩] } }
def L2n : List State := [reps (pk 3) .pace, reps (pk 3) (.sepia 3 1) 1 withCmd, reps (pk 2 id [1,2]) .pace, reps (pk 2 id [1,2]) (.get 0 9 0x1000), reps (pk 2 id [1,2]) (.get 0 5 0x1000) 1 (fun s => s.setCore 0 { s.core 0 with mops := ⟨4, 0, BitVec.ofNat 64 (ins 2 0), 0x1000,0,0x2000,0,64, .started, 0, 0, 0⟩ :: (s.core 0).mops }), reps (pk 7 (fun p => { p with status := 6 })) .pace 4, reps (pk 7 (fun p => { p with status := 1 })) .pace,
  reps (pk 7 (fun p => { p with status := 3 })) (.sepia 3 1) 1 withCmd, reps (pk 3 (fun p => { p with seq := 9 })) .pace, reps (pk 2 (fun p => { p with seq := 9 })) .pace, reps (pk 7 (fun p => { p with seq := 9 })) .pace]
def st (i : Nat) : State :=
  (L2 ++ L2n : List State).getD i State.reset
end ReplyEndsStates

/-! States for the hypotheses of FabricEnds_RequestTimeouts. -/
namespace RequestTimeoutsStates
def rq (o : ReqOwner) (tries : Nat := 1) (f : Pkt → Pkt := id) : Req := ⟨f { Pkt.req 0 0x40 2 3 0 [1] with src := 0x21, seq := 5 }, o, tries, 0, 4, 100⟩
def core0 (s : State) : State := s.setCore 0 { Core.blank with ctx := [(0, { Ctx.blank with st := .running, launch := lau 3 })], mops := [⟨5, 0, BitVec.ofNat 64 (ins 2 0), 0,0,0,0,0, .started, 3, 0, 0⟩] }
def rep (p : Pkt) (r : Req) (g : State → State := id) : State := let s := core0 (inb [p]); g { s with fabric := { s.fabric with out := [r, rq .pace 1 (fun p => { p with dst := 0x50 })] } }
def L2 : List State := [rep (pk 3) (rq (.mop 0 5)), rep (pk 2 id [7,8,9]) (rq (.get 0 5 0x1000)), rep (pk 7 (fun p => { p with status := 1 })) (rq (.mop 0 5)), rep (pk 7 (fun p => { p with status := 2 })) (rq (.mop 0 5)), rep (pk 7 (fun p => { p with status := 5 })) (rq (.mop 0 5)), rep (pk 7 (fun p => { p with status := 5 })) (rq (.mop 0 5) 4),
   rep (pk 7 (fun p => { p with status := 3 })) (rq (.mop 0 5)), rep (pk 7 (fun p => { p with status := 4 })) (rq (.mop 0 5)), rep (pk 7 (fun p => { p with status := 7 })) (rq (.mop 0 5)), rep (pk 3) (rq (.mop 0 5)) (fun s => { s with fabric := { s.fabric with stopped := true } }), rep (pk 3) (rq (.mop 0 5) 4)]
def withCmd (s : State) : State := { s with sepia := { s.sepia with cmds := [⟨3, .desc ⟨0,0⟩, 0, 0, 0, true, 0, [], [], false⟩] } }
def st (i : Nat) : State :=
  (L2 ++ [rep (pk 3) (rq .pace 4), rep (pk 3) (rq (.sepia 3 1) 4) withCmd] : List State).getD i State.reset
end RequestTimeoutsStates

/-! States for the hypotheses of Resets_ResetEnds. -/
namespace ResetEndsStates
def wk (s : State) (n : Nat := 0) : State := (s.setCore n { Core.blank with ctx := [(0, { Ctx.blank with st := .running, launch := lau 3 })], vRun := some ⟨0,0,0,0,0,0⟩ })
def fl0 : Flight := ⟨⟨0, 0⟩, 0, 3, D 1 [(512, 1)] 3, 1, [], 0, false, none, 0, false⟩
def fq (s : State) : State := { s with disp := { s.disp with flights := [fl0] }, queues := [(0, dq [D 0 []])] }
def rr (scope target : Nat) (held : Bool := false) : ResetRun := ⟨scope, target, 0, false, false, held, [], 0⟩
def rst (l : List ResetRun) (f : Faults → Faults := id) (g : State → State := id) : State := g { wk up with faults := f { up.faults with resets := l } }
def grey (s : State) : State := { s with life := { s.life with svc := .grey } }
def sus (k : Nat) : Suspect := ⟨k, { Launch.blank with len := 3, base := 5 * k, desc := ⟨0, k⟩ }, false⟩
def rq (cur : Option Suspect) (todo past : List Suspect) : State := let u := fq (wk up); { u with queues := [(0, dq [D 0 []] .stopped)], faults := { up.faults with resets := [], replays := [⟨0, todo, cur, past, 5⟩] } }
def L2 : List State := [rst [rr 1 0], rst [rr 1 13, rr 2 1], rst [rr 2 0], rst [rr 3 0], rst [rr 4 0] id (fun s => grey (s.odSetN 0x2003 0 0x38)), rst [rr 6 1], rst [rr 2 1 true], rst [] (fun f => { f with fences := [⟨false, 0⟩, ⟨true, 1⟩] }), rst [] (fun f => { f with fences := [⟨false, 0⟩, ⟨true, 1⟩], tagWait := [0] }),
  rst [] id (fun s => s.setPhase (epIn 1 17) true), rst [rr 2 1] id (fun s => (s.setPhase (epIn 1 17) true).odSetN 0x7810 2 (2^17)), rq none [sus 0, sus 2] [], rq (some (sus 1)) [sus 2] [], rq (some (sus 1)) [] [], rq (some (sus 1)) [] [sus 3],
  ses (fun s => wk s), ses (fun s => (wk s).odSetN 0x7812 0 1)]
def st (i : Nat) : State :=
  (L2 ++ [rst [rr 5 0] (fun f => { f with fences := [⟨false, 0⟩] }), rst [rr 6 1] (fun f => { f with fences := [⟨true, 1⟩] }), rst [rr 6 0] (fun f => { f with fences := [⟨true, 0⟩] })] : List State).getD i State.reset
end ResetEndsStates

/-! States for the hypotheses of Resets_ResetRequests. -/
namespace ResetRequestsBStates
def wk (s : State) (n : Nat := 0) : State := (s.setCore n { Core.blank with ctx := [(0, { Ctx.blank with st := .running, launch := lau 3 })], vRun := some ⟨0,0,0,0,0,0⟩ })
def fl0 : Flight := ⟨⟨0, 0⟩, 0, 3, D 1 [(512, 1)] 3, 1, [], 0, false, none, 0, false⟩
def fq (s : State) : State := { s with disp := { s.disp with flights := [fl0] }, queues := [(0, dq [D 0 []])] }
def rr (scope target : Nat) (held : Bool := false) : ResetRun := ⟨scope, target, 0, false, false, held, [], 0⟩
def rst (l : List ResetRun) (f : Faults → Faults := id) (g : State → State := id) : State := g { wk up with faults := f { up.faults with resets := l } }
def grey (s : State) : State := { s with life := { s.life with svc := .grey } }
def sus (k : Nat) : Suspect := ⟨k, { Launch.blank with len := 3, base := 5 * k, desc := ⟨0, k⟩ }, false⟩
def rq (cur : Option Suspect) (todo past : List Suspect) : State := let u := fq (wk up); { u with queues := [(0, dq [D 0 []] .stopped)], faults := { up.faults with resets := [], replays := [⟨0, todo, cur, past, 5⟩] } }
def L2 : List State := [rst [rr 1 0], rst [rr 1 13, rr 2 1], rst [rr 2 0], rst [rr 3 0], rst [rr 4 0] id (fun s => grey (s.odSetN 0x2003 0 0x38)), rst [rr 6 1], rst [rr 2 1 true], rst [] (fun f => { f with fences := [⟨false, 0⟩, ⟨true, 1⟩] }), rst [] (fun f => { f with fences := [⟨false, 0⟩, ⟨true, 1⟩], tagWait := [0] }),
  rst [] id (fun s => s.setPhase (epIn 1 17) true), rst [rr 2 1] id (fun s => (s.setPhase (epIn 1 17) true).odSetN 0x7810 2 (2^17)), rq none [sus 0, sus 2] [], rq (some (sus 1)) [sus 2] [], rq (some (sus 1)) [] [], rq (some (sus 1)) [] [sus 3],
  ses (fun s => wk s), ses (fun s => (wk s).odSetN 0x7812 0 1)]
def st (i : Nat) : State :=
  (L2 : List State).getD i State.reset
end ResetRequestsBStates

/-! States for the hypotheses of FabricArrivals_Routing. -/
namespace RoutingStates
def mem1 (s : State) : State := s.wr 0x1000 (List.range 40 |>.map (BitVec.ofNat 8))
def L1 : List State := [up.setLink 0 { Link.blank with st := .active, rx := [pk 0, pk 1] }, (fab0.setLink 0 { Link.blank with st := .active, rx := [pk 0 id [1,2,3], pk 1] }), (fab0.setLink 5 { Link.blank with st := .active, rx := [pk 9] }), (fab0.setLink 5 { Link.blank with st := .active, rx := [pk 0 (fun p => { p with reserved := 1 })] }),
  inb [pk 0 (fun p => { p with win := 2, offset := 0x10 }) [1,2,3]], inb [pk 0 (fun p => { p with win := 2, offset := 0x10, ce := true, rcore := 1, rcnt := 4 }) [1,2,3]], inb [pk 1 (fun p => { p with win := 2, offset := 0x10, len := 16 })] mem1,
  inb [pk 1 (fun p => { p with win := 2, offset := 0, len := 16, ce := true, rcore := 1, rcnt := 3 })] mem1, inb [pk 4 (fun p => { p with rcore := 1, rcnt := 3 }) (leBytes 8 77)], inb [pk 0 (fun p => { p with win := 3 }) [1]], inb [pk 1 (fun p => { p with win := 2, offset := 0x1000, len := 1 })]]
def keyed (s : State) : State := let s := (s.odSetN 0x6010 1 (0x8 + 9 * 2 ^ 16)).odSetN 0x6416 3 (9 * 2 ^ 8 + 2); { s with sec := { s.sec with onyx := { s.sec.onyx with secret := [(2, 12345)] } } }
def kp (op : Nat) (f : Pkt → Pkt := id) (pl : List Byte := []) : Pkt := pk op (fun p => f { p with keyid := 9 }) pl
def sl (p : Pkt) : Pkt := { (keyed fab0).seal p with dim := 2, hops := 3 }
def L1k : List State := [keyed (inb [sl (kp 0 (fun p => { p with win := 2, offset := 0x10 }) [1,2,3])]), keyed (inb [sl (kp 4 (fun p => { p with rcore := 1, rcnt := 3 }) (leBytes 8 77))]), keyed (inb [pk 4, { sl (kp 0 (fun p => { p with win := 2, offset := 0x10 }) [1,2,3]) with tag := 7 }]), inb [sl (kp 0 (fun p => { p with win := 2, offset := 0x10 }) [1,2,3])]]
def spw (s : State) : State := s.odSet 0x6100 4 (.blob (leBytes 8 (spadBase 0) ++ leBytes 8 0x1000 ++ leBytes 8 3))
def L1e : List State := [spw (inb [pk 0 (fun p => { p with win := 3, offset := 8 }) [1,2,3]]), spw (inb [pk 1 (fun p => { p with win := 3, offset := 8, len := 16 })])]
def L1d : List State := [(fab0.setLink 0 { Link.blank with st := .detect, rx := [pk 0] }), (fab0.setLink 0 { Link.blank with st := .active, rx := [pk 0 (fun p => { p with dst := 0xF_FFFF })] })]
def st (i : Nat) : State :=
  (L1 ++ L1k ++ L1e ++ L1d ++ [(fab0.setLink 0 { Link.blank with st := .detect, rx := [{ pk 0 with dst := fab0.own }] }), (fab0.setLink 0 { Link.blank with st := .detect, rx := [{ pk 0 with reserved := 1, dst := fab0.own }] }), (fab0.setLink 0 { Link.blank with st := .detect, rx := [{ pk 0 with dst := 0xF_FFFF }] })] : List State).getD i State.reset
end RoutingStates

/-! States for the hypotheses of Cooling_SafetyPowerOff. -/
namespace SafetyPowerOffStates
def pw (f : Power → Power) (g : State → State := id) (t : Nat := 30_000_000_000) : State := g { up with power := f up.power, clk := { up.clk with localTime := t, uptime := t } }
def th (f : Thermal → Thermal := id) (l : Life → Life := id) (g : State → State := id) : State := pw id (fun s => g { s with thermal := f s.thermal, life := l s.life })
def L2 : List State := [th, th id (fun l => { l with begun := true }), th id (fun l => { l with powerGood := false }), th (fun t => { t with suspectAt := [(1, 5), (4, 29_000_000_000)] }) id (fun s => ((s.odSetN 0x3401 1 1).odSetN 0x3401 4 1).odSetN 0x3411 0 200), th (fun t => { t with suspectAt := [(1, 5)] }) id (fun s => (s.odSetN 0x3401 1 1).odSetN 0x3411 0 100),
  th (fun t => { t with lowSince := some 5 }), th (fun t => { t with lowSince := some 5, lowTold := true }), th id id (fun s => { s with mgmt := { s.mgmt with absence := some 0 } }.odSetN 0x3461 0 10), th id id (fun s => { s with mgmt := { s.mgmt with telem := List.replicate 60 ⟨1,2,3,[]⟩ } }),
  th (fun t => { t with wet := 2 }), th (fun t => { t with wet := 1 }), th (fun t => { t with tested := true, wet := 2 }) (fun l => { l with begun := true }), th (fun t => { t with leakCause := 3 }) (fun l => { l with begun := true }), th id (fun l => { l with safety := 16 * 2^24 }), th id (fun l => { l with safety := 16 * 2^24, safetyStored := true })]
def hnd (s : State) : State := { s with fw := { s.fw with state := 5 } }
def st (i : Nat) : State :=
  (L2 ++ [hnd (th id (fun l => { l with begun := true })), hnd (th (fun t => { t with tested := true, wet := 2 }) (fun l => { l with begun := true }))] ++ [th id (fun l => { l with begun := true, safety := 16*2^24, offRuns := true }), th id (fun l => { l with begun := true, safety := 16*2^24, offRuns := true, safetyStored := true }), th (fun t => { t with tested := false, leakCause := 0 }) (fun l => { l with begun := true, safety := 17*2^24, offRuns := true, safetyStored := false, mainSwitch := true })] : List State).getD i State.reset
end SafetyPowerOffStates

/-! States for the hypotheses of ScalarOperands. -/
namespace ScalarOperandsStates
def st (i : Nat) : State :=
  ([runs 0 [cop 5 3 1 4 7], runs 0 [cop 5 0 1 4 7], runs 14 [cop 6 3 1 4 (2^32-7)], runs 0 [cop 7 1 1 4 7] (k := 2)] : List State).getD i State.reset
end ScalarOperandsStates

/-! States for the hypotheses of . -/
namespace ScramblerStates
def st (i : Nat) : State :=
  ([] : List State).getD i State.reset
end ScramblerStates

/-! States for the hypotheses of Sectors_SectorReads. -/
namespace SectorReadsStates
/-- protected 0x1000..0x1FFF; slice at 0x800000 of 1 MB -/
def ms (col : Nat) (f : Memory → Memory := id) (g : State → State := id) : State :=
  let u := up
  let u := ((u.odSet 0x5830 1 (.blob (leBytes 8 0x1000 ++ leBytes 8 0x1000))).odSetN 0x5840 1 0x800000).odSetN 0x5841 1 1
  let u := u.odSetN 0x8061 1 col
  let u := u.setEp 0 { Ep.blank with st := if col = 0 then .closed else .opened, epoch := 7, colour := col }
  let u := u.wr 0x1000 [1,2,3,4,5] |>.wr 0x1040 [9,9]
  g { u with memory := f u.memory }
def le (sec col : Nat) (com : Bool := false) (un : Bool := false) (part := 0) (ep := 7): LEntry := ⟨part, ep, sec, col, List.replicate 64 0x5A, un, com, 0x900000⟩
def hotS (s : State) : State := { s.odSetN 0x8040 1 1 with memory := { s.memory with hot := [(0, { Hot.blank with lines := [64, 65] })] } }
def ms2 : List State := [hotS (ms 0), hotS (ms 1), ms 1 (fun m => { m with short := [⟨64, 1, false⟩] }) (fun s => s.odSetN 0x5841 1 0), ms 0 id (fun s => { s with parts := [(0, { lpart with regions := [(0, 0x1000)] }), (1, { lpart with regions := [(0x1000, 0x1000)] })]}), (ms 0).odSetN 0x8040 1 0, (ms 1 (fun m => { m with bad := [65], ledger := [le 64 1] })).odSetN 0x8040 1 0, ms 0, ms 1, ms 1 (fun m => { m with colour := [(64, 1)], ledger := [le 64 1] }), ms 1 (fun m => { m with colour := [(64, 3)], ledger := [le 64 3 true] }),  ms 1 (fun m => { m with delivering := [0] }),
   ms 1 (fun m => { m with bad := [65], ledger := [le 64 1 false true] }), ms 1 (fun m => { m with held := [⟨0, 0x1000, [1,2]⟩] }), ms 1 id (fun s => (s.odSetN 0x5841 1 0)), ms 2 id (fun s => s.setEp 0 { s.ep 0 with st := .doomed, cause := 3 }),
   ms 2 id (fun s => s.odSetN 0x5841 1 0 |>.setEp 0 { s.ep 0 with st := .doomed, cause := 3 })]
def st (i : Nat) : State :=
  (ms2 : List State).getD i State.reset
end SectorReadsStates

/-! States for the hypotheses of Sectors_SectorWrites. -/
namespace SectorWritesStates
/-- protected 0x1000..0x1FFF; slice at 0x800000 of 1 MB -/
def ms (col : Nat) (f : Memory → Memory := id) (g : State → State := id) : State :=
  let u := up
  let u := ((u.odSet 0x5830 1 (.blob (leBytes 8 0x1000 ++ leBytes 8 0x1000))).odSetN 0x5840 1 0x800000).odSetN 0x5841 1 1
  let u := u.odSetN 0x8061 1 col
  let u := u.setEp 0 { Ep.blank with st := if col = 0 then .closed else .opened, epoch := 7, colour := col }
  let u := u.wr 0x1000 [1,2,3,4,5] |>.wr 0x1040 [9,9]
  g { u with memory := f u.memory }
def le (sec col : Nat) (com : Bool := false) (un : Bool := false) (part := 0) (ep := 7): LEntry := ⟨part, ep, sec, col, List.replicate 64 0x5A, un, com, 0x900000⟩
def hotS (s : State) : State := { s.odSetN 0x8040 1 1 with memory := { s.memory with hot := [(0, { Hot.blank with lines := [64, 65] })] } }
def ms2 : List State := [hotS (ms 0), hotS (ms 1), ms 1 (fun m => { m with short := [⟨64, 1, false⟩] }) (fun s => s.odSetN 0x5841 1 0), ms 0 id (fun s => { s with parts := [(0, { lpart with regions := [(0, 0x1000)] }), (1, { lpart with regions := [(0x1000, 0x1000)] })]}), (ms 0).odSetN 0x8040 1 0, (ms 1 (fun m => { m with bad := [65], ledger := [le 64 1] })).odSetN 0x8040 1 0, ms 0, ms 1, ms 1 (fun m => { m with colour := [(64, 1)], ledger := [le 64 1] }), ms 1 (fun m => { m with colour := [(64, 3)], ledger := [le 64 3 true] }),  ms 1 (fun m => { m with delivering := [0] }),
   ms 1 (fun m => { m with bad := [65], ledger := [le 64 1 false true] }), ms 1 (fun m => { m with held := [⟨0, 0x1000, [1,2]⟩] }), ms 1 id (fun s => (s.odSetN 0x5841 1 0)), ms 2 id (fun s => s.setEp 0 { s.ep 0 with st := .doomed, cause := 3 }),
   ms 2 id (fun s => s.odSetN 0x5841 1 0 |>.setEp 0 { s.ep 0 with st := .doomed, cause := 3 })]
def st (i : Nat) : State :=
  (ms2 ++ [(ms 1) |> fun s => { s with power := { s.power with dies := 6 } }] : List State).getD i State.reset
end SectorWritesStates

/-! States for the hypotheses of SepiaWork_SepiaChecks. -/
namespace SepiaChecksStates
def tbn (base rows fmt elems : Nat) (stripe : Nat := 0) (rb : Nat := 0) : Nat := fld 88 base + fld 80 rb + fld 48 rows + fld 43 fmt + fld 42 stripe + fld 27 elems
def cm (op : Nat) (mode ofmt : Nat := 0) (t : Nat := tbn 0x10000 8 0 4) (src : Nat := 0x4000) (dst : Nat := 0x5000) (aux : Nat := 0) (count : Nat := 1) (bags : Nat := 0) (glob rce : Nat := 0) : Nat :=
  fld 504 op + fld 496 mode + fld 491 ofmt + fld 487 glob + fld 486 rce + fld 224 t + fld 180 src + fld 136 dst + fld 62 aux + fld 32 count + fld 8 bags
def sc (c : Nat) (id : Nat := 3) (who : Issuer := .desc ⟨0, 0⟩) (done : Bool := false) (st : Nat := 0): SCmd := ⟨id, who, 0, 99, c, done, st, [], [], false⟩
def ss (cs : List SCmd) (g : State → State := id) : State :=
  let u := up.wr 0x10080 (leBytes 4 0x3f800000 ++ leBytes 4 0x40000000 ++ leBytes 4 0x40400000 ++ leBytes 4 0x80000000) |>.wr 0x4000 (leBytes 4 0x3f800000 ++ leBytes 4 0x3f000000 ++ leBytes 4 0x3e800000 ++ leBytes 4 0x7fc00000)
  let u := u.wr 0x6000 (leBytes 4 2) |>.wr 0x6100 (leBytes 4 0 ++ leBytes 4 1) |>.wr 0x6200 (leBytes 4 99) |>.wr 0x7000 (leBytes 4 0x3dcccccd ++ leBytes 4 0x3f000000 ++ leBytes 4 0x3e000000 ++ leBytes 4 0x3e000000 ++ leBytes 4 0x3e000000)
  g { u with sepia := ⟨cs, 9, [], []⟩ }
def T0 := tbn 0x10000 8 0 4
def m1 : List State := [ss [sc (cm 6 (t := 0) (aux := 0xDEADBEEF) (src := 0))], ss [sc (cm 5 (t := 0))], ss [sc (cm 1 (src := 0x6000))], ss [sc (cm 1 (src := 0x6200))], ss [sc (cm 1 0 2 (src := 0x6200))], ss [sc (cm 2 (src := 0x6000) (aux := 0x6100) (bags := 1))],
   ss [sc (cm 3 (src := 0x4000) (aux := 0x6000))], ss [sc (cm 3 (t := tbn 0x10000 8 1 4) (src := 0x4000) (aux := 0x6000))],ss [sc (cm 4 (src := 0x4000) (dst := 0x7000) (aux := 0x6000))], ss [sc 0 1 (done := true), sc (cm 6 (t := 0))]]
def m2 : List State := ([1,2,3,4,5,6].flatMap fun o => [ss [sc (cm o 200), sc 0 7], ss [sc (cm o (dst := 0x2000_0000) (t := 0))], ss [sc (cm o (dst := 0xFFF_FFFF_FF00) (src := 0x6000) (t := if o > 4 then 0 else T0))]])
def st (i : Nat) : State :=
  (m1 ++ m2 : List State).getD i State.reset
end SepiaChecksStates

/-! States for the hypotheses of SepiaWork_SepiaCommands. -/
namespace SepiaCommandsStates
def tbn (base rows fmt elems : Nat) (stripe : Nat := 0) (rb : Nat := 0) : Nat := fld 88 base + fld 80 rb + fld 48 rows + fld 43 fmt + fld 42 stripe + fld 27 elems
def cm (op : Nat) (mode ofmt : Nat := 0) (t : Nat := tbn 0x10000 8 0 4) (src : Nat := 0x4000) (dst : Nat := 0x5000) (aux : Nat := 0) (count : Nat := 1) (bags : Nat := 0) (glob rce : Nat := 0) : Nat :=
  fld 504 op + fld 496 mode + fld 491 ofmt + fld 487 glob + fld 486 rce + fld 224 t + fld 180 src + fld 136 dst + fld 62 aux + fld 32 count + fld 8 bags
def sc (c : Nat) (id : Nat := 3) (who : Issuer := .desc ⟨0, 0⟩) (done : Bool := false) (st : Nat := 0): SCmd := ⟨id, who, 0, 99, c, done, st, [], [], false⟩
def ss (cs : List SCmd) (g : State → State := id) : State :=
  let u := up.wr 0x10080 (leBytes 4 0x3f800000 ++ leBytes 4 0x40000000 ++ leBytes 4 0x40400000 ++ leBytes 4 0x80000000) |>.wr 0x4000 (leBytes 4 0x3f800000 ++ leBytes 4 0x3f000000 ++ leBytes 4 0x3e800000 ++ leBytes 4 0x7fc00000)
  let u := u.wr 0x6000 (leBytes 4 2) |>.wr 0x6100 (leBytes 4 0 ++ leBytes 4 1) |>.wr 0x6200 (leBytes 4 99) |>.wr 0x7000 (leBytes 4 0x3dcccccd ++ leBytes 4 0x3f000000 ++ leBytes 4 0x3e000000 ++ leBytes 4 0x3e000000 ++ leBytes 4 0x3e000000)
  g { u with sepia := ⟨cs, 9, [], []⟩ }
def T0 := tbn 0x10000 8 0 4
def m1 : List State := [ss [sc (cm 6 (t := 0) (aux := 0xDEADBEEF) (src := 0))], ss [sc (cm 5 (t := 0))], ss [sc (cm 1 (src := 0x6000))], ss [sc (cm 1 (src := 0x6200))], ss [sc (cm 1 0 2 (src := 0x6200))], ss [sc (cm 2 (src := 0x6000) (aux := 0x6100) (bags := 1))],
   ss [sc (cm 3 (src := 0x4000) (aux := 0x6000))], ss [sc (cm 3 (t := tbn 0x10000 8 1 4) (src := 0x4000) (aux := 0x6000))],ss [sc (cm 4 (src := 0x4000) (dst := 0x7000) (aux := 0x6000))], ss [sc 0 1 (done := true), sc (cm 6 (t := 0))]]
def m2 : List State := ([1,2,3,4,5,6].flatMap fun o => [ss [sc (cm o 200), sc 0 7], ss [sc (cm o (dst := 0x2000_0000) (t := 0))], ss [sc (cm o (dst := 0xFFF_FFFF_FF00) (src := 0x6000) (t := if o > 4 then 0 else T0))]])
def st (i : Nat) : State :=
  (m1 ++ m2.take 3 ++ [ss [sc (cm 5 (t := 0) (src := spadBase 0))]] : List State).getD i State.reset
end SepiaCommandsStates

/-! States for the hypotheses of SepiaEnds_SepiaFaults. -/
namespace SepiaFaultsStates
def tbn (base rows fmt elems : Nat) (stripe : Nat := 0) (rb : Nat := 0) : Nat := fld 88 base + fld 80 rb + fld 48 rows + fld 43 fmt + fld 42 stripe + fld 27 elems
def cm (op : Nat) (mode ofmt : Nat := 0) (t : Nat := tbn 0x10000 8 0 4) (src : Nat := 0x4000) (dst : Nat := 0x5000) (aux : Nat := 0) (count : Nat := 1) (bags : Nat := 0) (glob rce : Nat := 0) : Nat :=
  fld 504 op + fld 496 mode + fld 491 ofmt + fld 487 glob + fld 486 rce + fld 224 t + fld 180 src + fld 136 dst + fld 62 aux + fld 32 count + fld 8 bags
def sc (c : Nat) (id : Nat := 3) (who : Issuer := .desc ⟨0, 0⟩) (done : Bool := false) (st : Nat := 0): SCmd := ⟨id, who, 0, 99, c, done, st, [], [], false⟩
def ss (cs : List SCmd) (g : State → State := id) : State :=
  let u := up.wr 0x10080 (leBytes 4 0x3f800000 ++ leBytes 4 0x40000000 ++ leBytes 4 0x40400000 ++ leBytes 4 0x80000000) |>.wr 0x4000 (leBytes 4 0x3f800000 ++ leBytes 4 0x3f000000 ++ leBytes 4 0x3e800000 ++ leBytes 4 0x7fc00000)
  let u := u.wr 0x6000 (leBytes 4 2) |>.wr 0x6100 (leBytes 4 0 ++ leBytes 4 1) |>.wr 0x6200 (leBytes 4 99) |>.wr 0x7000 (leBytes 4 0x3dcccccd ++ leBytes 4 0x3f000000 ++ leBytes 4 0x3e000000 ++ leBytes 4 0x3e000000 ++ leBytes 4 0x3e000000)
  g { u with sepia := ⟨cs, 9, [], []⟩ }
def dsc (fin : Bool := false) (x : SCmd) : State := ss [x, sc 0 7] (fun s => { s with disp := { s.disp with flights := [⟨⟨0,0⟩, 0, 2, D 3 [] 2, 1, [], 0, fin, none, 0, false⟩] } })
def cor (x : SCmd) (ce : Nat := 1) : State := ss [x, sc 0 7] (fun s => s.setCore 0 { Core.blank with ctx := [(0, { Ctx.blank with st := .running })], cnt := [(7, 2)], mops := [⟨5, 0, BitVec.ofNat 64 (ins 2 5 (fld 40 ce + fld 34 7)), 0, 0, 0, 0, 0, .started, 0, 0, 0⟩] })
def m3 : List State := [dsc false (sc (cm 6) 9 (done := true)), ss [sc (cm 6) 1, sc (cm 6) 3 (done := true)], dsc false (sc (cm 6) (done := true)), dsc false (sc (cm 6) (done := true) (st := 1)), dsc true (sc (cm 6) (done := true) (st := 1)), cor (sc (cm 6) 3 (.core 0 5) true), cor (sc (cm 6) 3 (.core 0 5) true) 0, cor (sc (cm 6) 3 (.core 0 5) true 1), ss [sc (cm 6 (t := 0)) 1, sc (cm 5 (t := 0)), sc (cm 1 (src := 0x6000)) 4], ss []]
def st (i : Nat) : State :=
  (m3 ++ [(ss [sc (cm 6) 1]).odSetN 0x8002 1 1] : List State).getD i State.reset
end SepiaFaultsStates

/-! States for the hypotheses of SepiaEnds_SepiaReports. -/
namespace SepiaReportsStates
def tbn (base rows fmt elems : Nat) (stripe : Nat := 0) (rb : Nat := 0) : Nat := fld 88 base + fld 80 rb + fld 48 rows + fld 43 fmt + fld 42 stripe + fld 27 elems
def cm (op : Nat) (mode ofmt : Nat := 0) (t : Nat := tbn 0x10000 8 0 4) (src : Nat := 0x4000) (dst : Nat := 0x5000) (aux : Nat := 0) (count : Nat := 1) (bags : Nat := 0) (glob rce : Nat := 0) : Nat :=
  fld 504 op + fld 496 mode + fld 491 ofmt + fld 487 glob + fld 486 rce + fld 224 t + fld 180 src + fld 136 dst + fld 62 aux + fld 32 count + fld 8 bags
def sc (c : Nat) (id : Nat := 3) (who : Issuer := .desc ⟨0, 0⟩) (done : Bool := false) (st : Nat := 0): SCmd := ⟨id, who, 0, 99, c, done, st, [], [], false⟩
def ss (cs : List SCmd) (g : State → State := id) : State :=
  let u := up.wr 0x10080 (leBytes 4 0x3f800000 ++ leBytes 4 0x40000000 ++ leBytes 4 0x40400000 ++ leBytes 4 0x80000000) |>.wr 0x4000 (leBytes 4 0x3f800000 ++ leBytes 4 0x3f000000 ++ leBytes 4 0x3e800000 ++ leBytes 4 0x7fc00000)
  let u := u.wr 0x6000 (leBytes 4 2) |>.wr 0x6100 (leBytes 4 0 ++ leBytes 4 1) |>.wr 0x6200 (leBytes 4 99) |>.wr 0x7000 (leBytes 4 0x3dcccccd ++ leBytes 4 0x3f000000 ++ leBytes 4 0x3e000000 ++ leBytes 4 0x3e000000 ++ leBytes 4 0x3e000000)
  g { u with sepia := ⟨cs, 9, [], []⟩ }
def dsc (fin : Bool := false) (x : SCmd) : State := ss [x, sc 0 7] (fun s => { s with disp := { s.disp with flights := [⟨⟨0,0⟩, 0, 2, D 3 [] 2, 1, [], 0, fin, none, 0, false⟩] } })
def cor (x : SCmd) (ce : Nat := 1) : State := ss [x, sc 0 7] (fun s => s.setCore 0 { Core.blank with ctx := [(0, { Ctx.blank with st := .running })], cnt := [(7, 2)], mops := [⟨5, 0, BitVec.ofNat 64 (ins 2 5 (fld 40 ce + fld 34 7)), 0, 0, 0, 0, 0, .started, 0, 0, 0⟩] })
def m3 : List State := [dsc false (sc (cm 6) 9 (done := true)), ss [sc (cm 6) 1, sc (cm 6) 3 (done := true)], dsc false (sc (cm 6) (done := true)), dsc false (sc (cm 6) (done := true) (st := 1)), dsc true (sc (cm 6) (done := true) (st := 1)), cor (sc (cm 6) 3 (.core 0 5) true), cor (sc (cm 6) 3 (.core 0 5) true) 0, cor (sc (cm 6) 3 (.core 0 5) true 1), ss [sc (cm 6 (t := 0)) 1, sc (cm 5 (t := 0)), sc (cm 1 (src := 0x6000)) 4], ss []]
def st (i : Nat) : State :=
  (m3 : List State).getD i State.reset
end SepiaReportsStates

/-! States for the hypotheses of SessionRequests. -/
namespace SessionRequestsStates
def xr (f : Xfer → Xfer := id) : Xfer := f ⟨false, 0x6402, 0, false, 2000, List.replicate 2000 5, [], false, 0⟩
def chn (s : State) : State := s.odSet 0x6402 0 (.blob (List.replicate 2000 5))
def two (s : State) : State := { s with mgmt := { s.mgmt with sessions := s.mgmt.sessions ++ [SX (fun x => { x with id := 9, src := 3 })] } }
def L1 : List State := [ses two, ses chn, ses id (fun x => { x with fresh := true }), ses id (fun x => { x with xfer := some (xr) }), ses id (fun x => { x with xfer := some (xr (fun u => { u with write := true })) }), ses id (fun x => { x with flags := 0, sent := 3 }), ses (fun s => s.odAccept 0x3000 0 (.num 5))]
def rom (s : State) : State := { s with fw := { s.fw with a := { s.fw.a with st := .rom }, b := { s.fw.b with st := .silent } } }
def st (i : Nat) : State :=
  (L1 ++ [rom (ses id)] : List State).getD i State.reset
end SessionRequestsStates

/-! States for the hypotheses of Firmware_SlateControllers, Firmware_UpdateSteps. -/
namespace SlateControllersStates
def im (v : Nat) : Img := { Img.shipped with version := v, svn := v }
def fw (f : Fw → Fw) (g : State → State := id) : State := g { up with fw := f up.fw }
def img0 : List Byte := List.replicate 5000 0
def sl (st : SlateSt) (c l i : Nat) : Slate := ⟨st, some (im c), some (im l), some (im i)⟩
def base (st : Nat) (f : Fw → Fw := id) (g : State → State := id): State := fw (fun w => f { w with state := st, a := sl .runs 1 2 1, b := sl .runs 3 4 3 }) g
def L1 : List State := [base 2 (fun w => { w with parts := [(0, img0)], total := 5000 }), base 3, base 3 (fun w => { w with bActive := true, newB := false }), base 5, base 8 (fun w => { w with back := true }), base 8, base 7 (fun w => { w with image := some (im 9) }), base 9 (fun w => { w with image := some (im 9) }),
  base 0 (fun w => { w with a := sl .restarting 1 1 1, b := sl .restarting 2 2 2, bActive := true }) (fun s => s.odSetN 0x2003 0 1), base 0 (fun w => { w with a := { w.a with st := .silent } }), base 0 (fun w => { w with a := sl .silent 1 1 1 }), base 6 (fun w => { w with b := sl .silent 1 1 1, bActive := true }), base 0 (fun w => { w with fuseTo := 5 }) (fun s => s.odSetN 0xB002 0 4)]
def st (i : Nat) : State :=
  (L1 : List State).getD i State.reset
end SlateControllersStates

/-! States for the hypotheses of StreamsAndInterfaces. -/
namespace StreamsAndInterfacesStates
def spd (x : Spdm) (g : State → State := id) : State := g { up with sec := { up.sec with spdm := [(0, x), (1, x)] } }
def sx : Spdm := ⟨3, 0x13, [⟨5, true, 9⟩]⟩
def allgo : Tab Bool := (List.range 6).map (fun i => (i, true))
def sec (k : Ide) (tdi : Nat) (g : State → State := id) (st : PartSt := .live): State :=
  let s := spd sx
  let s := { s with parts := [(0, { lpart with secure := true, st := st })], sec := { s.sec with ide := [(0, k), (1, k)], nonce := [(0, 77)] } }
  g (s.odSetN 0x6031 1 tdi)
def L2 : List State := [sec ⟨[], [], []⟩ 0, sec ⟨[(0, 77)], [], []⟩ 0, sec ⟨[(0, 77)], [(0, true), (5, true)], []⟩ 1, sec ⟨[(0, 77)], [(0, true), (5, true)], allgo⟩ 0, sec ⟨[(0, 77)], [(0, true), (5, true)], allgo⟩ 1, sec ⟨[(0, 77)], [(0, true), (5, true)], allgo⟩ 2 (fun s => s.odSetN 0x9001 1 1), sec ⟨[], [], []⟩ 2 id .creating]
def st (i : Nat) : State :=
  (L2 : List State).getD i State.reset
end StreamsAndInterfacesStates

/-! States for the hypotheses of Cooling_Temperatures. -/
namespace TemperaturesStates
def pw (f : Power → Power) (g : State → State := id) (t : Nat := 30_000_000_000) : State := g { up with power := f up.power, clk := { up.clk with localTime := t, uptime := t } }
def th (f : Thermal → Thermal := id) (l : Life → Life := id) (g : State → State := id) : State := pw id (fun s => g { s with thermal := f s.thermal, life := l s.life })
def L2 : List State := [th, th id (fun l => { l with begun := true }), th id (fun l => { l with powerGood := false }), th (fun t => { t with suspectAt := [(1, 5), (4, 29_000_000_000)] }) id (fun s => ((s.odSetN 0x3401 1 1).odSetN 0x3401 4 1).odSetN 0x3411 0 200), th (fun t => { t with suspectAt := [(1, 5)] }) id (fun s => (s.odSetN 0x3401 1 1).odSetN 0x3411 0 100),
  th (fun t => { t with lowSince := some 5 }), th (fun t => { t with lowSince := some 5, lowTold := true }), th id id (fun s => { s with mgmt := { s.mgmt with absence := some 0 } }.odSetN 0x3461 0 10), th id id (fun s => { s with mgmt := { s.mgmt with telem := List.replicate 60 ⟨1,2,3,[]⟩ } }),
  th (fun t => { t with wet := 2 }), th (fun t => { t with wet := 1 }), th (fun t => { t with tested := true, wet := 2 }) (fun l => { l with begun := true }), th (fun t => { t with leakCause := 3 }) (fun l => { l with begun := true }), th id (fun l => { l with safety := 16 * 2^24 }), th id (fun l => { l with safety := 16 * 2^24, safetyStored := true })]
def hnd (s : State) : State := { s with fw := { s.fw with state := 5 } }
def st (i : Nat) : State :=
  (L2 ++ [hnd (th id (fun l => { l with begun := true })), hnd (th (fun t => { t with tested := true, wet := 2 }) (fun l => { l with begun := true }))] : List State).getD i State.reset
end TemperaturesStates

/-! States for the hypotheses of TraceAndTest_TestPort, TraceAndTest_TraceSink. -/
namespace TestPortStates
def r0 : Lilac := ⟨77, 1, 1, 2, 3, 4, none, false, false⟩
def tr (f : Trace → Trace) (g : State → State := id) : State := g { up with parts := [], trace := f up.trace }
def L2 : List State := [tr (fun t => { t with src := [r0, { r0 with code := 2 }] }) (fun s => s.odSetN 0xA204 0 1), tr (fun t => { t with src := [r0], seq := 65535 }) (fun s => s.odSetN 0xA201 0 0), tr (fun t => { t with src := [r0] }) (fun s => ((s.odSetN 0xA201 0 1).odSet 0xA202 0 (.blob (leBytes 8 0x1000 ++ leBytes 8 0x1000))).odSetN 0xA204 0 0),
  tr (fun t => { t with src := [r0], hdr := [(0, ⟨127, 5, 6, 7⟩)] }) (fun s => ((s.odSetN 0xA201 0 1).odSet 0xA202 0 (.blob (leBytes 8 0x1000 ++ leBytes 8 0x1000))).odSetN 0xA204 0 0), tr (fun t => { t with portq := List.replicate 9 [1,2] }) (fun s => s.odSetN 0xA204 0 1), tr (fun t => { t with portq := List.replicate 9 [1,2] }) (fun s => s.odSetN 0xA204 0 0),
  tr id (fun s => { s with taps := [(0, ⟨.shDr, 2, [], [true, false, true]⟩), (1, ⟨.shIr, 2, [true, false, true], []⟩), (2, ⟨.capDr, 2, [], []⟩), (3, ⟨.shDr, 2, [], [true]⟩)] }), tr id (fun s => { s with taps := [(0, ⟨.selIr, 5, [], [true, false, true]⟩), (1, ⟨.ex2Ir, 2, [true, false, true], []⟩), (2, ⟨.ex1Ir, 7, [true, true], []⟩), (3, ⟨.shIr, 2, [true, true], [true]⟩)] })]
def st (i : Nat) : State :=
  (L2 : List State).getD i State.reset
end TestPortStates

/-! States for the hypotheses of VectorEngine_VectorLanes, VectorEngine_VectorScalarsAndPredicates. -/
namespace VectorLanesStates
def vx : Ctx := { Ctx.blank with st := .running, launch := lau 4, sreg := [(3, 77)], preg := [(1, 0xF0F0F0F0F0F0F0F5), (2, 0x8000000000000003)], vreg := ((List.range 64).map (fun l => (64+l, BitVec.ofNat 32 (0x3f800000 + l * 0x7001))) ++ (List.range 64).map (fun l => (128 + l, BitVec.ofNat 32 (0x40000000 + l * 0x12345))) ++ (List.range 64).map (fun l => (192 + l, BitVec.ofNat 32 (l * 0x1234567)))) }
def vst (op : Nat) (vd : Nat := 1) (va : Nat := 1) (vb : Nat := 2) (vc : Nat := 3) (pg : Nat := 0) (pz : Nat := 0) (imm : Nat := 3) (ce : Nat := 0) (slot : Nat := 0) (n : Nat := 0): State :=
  let w : Word := BitVec.ofNat 64 (ins 3 op (fld 51 vd + fld 46 va + fld 41 vb + fld 36 vc + fld 28 pg + fld 27 pz + fld 18 ce + fld 12 9 * ce + imm))
  let q : QOp := ⟨slot, w, 67, 5, 0, 0⟩
  put n { Core.blank with ctx := [(slot, vx)], vRun := some q, cnt := [(9, 3)] }
def ops := [0x07,0x09,0x10,0x11,0x12,0x13,0x18,0x19,0x1A,0x1D,0x1E,0x1F,0x26,0x2C,0x2D]
def ops2 := [0x08,0x2A,0x29,0x24,0x25]
def st (i : Nat) : State :=
  (ops.flatMap (fun o => [vst o, vst o (vd := 5) (pg := 1) (pz := 1) (ce := 1), vst o (vd := 2) (pg := 2) (n := 14) (slot := 3)]) ++
  ops2.flatMap (fun o => [vst o, vst o 0, vst o 3 (imm := 1),  vst o (vd := 9) (pg := 1) (pz := 1) (ce := 1), vst o (vd := 2) (pg := 2) (n := 14) (slot := 3)]) : List State).getD i State.reset
end VectorLanesStates

/-! States for the hypotheses of . -/
namespace FlitsStates
def lk (st : LinkSt) (n : Nat := 0) (f : Link → Link := id) (g : State → State := id) : State := g (up.setLink n (f { Link.blank with st := st }))
def msg (n : Nat) (bs : List Byte) (st : LinkSt := .active) (f : Link → Link := id) (g : State → State := id): State := lk st n (fun l => f { l with ctl := [bs ++ List.replicate (240 - bs.length) 0, [9]] }) g
def L4 : List State := [lk .active, lk .active 0 (fun l => { l with lastSeq := some 6 }), lk .active 0 (fun l => { l with lastSeq := some 7 }), lk .active 0 (fun l => { l with lastSeq := some 4095, discards := 63 }), msg 0 ([1] ++ leBytes 4 5 ++ leBytes 4 (2^20-1) ++ leBytes 4 0 ++ leBytes 4 1) .active (fun l => { l with rcvd := [(0, 3), (2, 5)], freed := [(1, 3)] }), msg 0 ([1] ++ leBytes 4 5 ) .down]
def L5 : List State := (L4.filter (fun s => s.link 0 |>.ctl |>.isEmpty)) ++ [lk .active 0 (fun l => { l with lastSeq := some 6, ctl := [[3]], asm := List.replicate 48 1 }), lk .activeHalf 0 (fun l => { l with rxHalf := 0}), lk .activeHalf 0 (fun l => { l with rxHalf := 1, rxSpare := 5}), lk .active 0 (fun l => { l with rxSpare := 3 })]
def st (i : Nat) : State :=
  (L5 : List State).getD i State.reset
end FlitsStates

/-! States for the hypotheses of . -/
namespace PacketEncryptionStates
def keyed (s : State) : State := let s := (s.odSetN 0x6010 1 (0x8 + 9 * 2 ^ 16)).odSetN 0x6416 3 (9 * 2 ^ 8 + 2); { s with sec := { s.sec with onyx := { s.sec.onyx with secret := [(2, 12345)] } } }
def st (i : Nat) : State :=
  ([keyed fab0, keyed (fab0.odSetN 0x6416 5 9)] : List State).getD i State.reset
end PacketEncryptionStates

theorem test_hyps_Contexts_AsynchronousFaults :
  (let n : Fin 288 := 0;
    let k : Fin 4 := 0;
    let code : Fin 14 := 1;
    let s : State := AsynchronousFaultsStates.st 0;
    let c : Core := s.core n.val;
    let x : Ctx := c.slot k.val;
    code.val ≠ 0 ∧ x.st ≠ CtxSt.empty) := by
  decide +kernel

theorem test_hyps_Attestation :
  (let fn : Fin 17 := 0;
    let s : State := AttestationStates.st 1;
    let x : Spdm := s.spdm fn.val;
    s.hasFn fn.val = true ∧
      let ver : BitVec 8 := 18#8;
      1 ≤ x.stage ∧ (ver = 18 ∨ ver = 19)) ∧
  (let fn : Fin 17 := 0;
    let s : State := AttestationStates.st 2;
    let x : Spdm := s.spdm fn.val;
    s.hasFn fn.val = true ∧ 2 ≤ x.stage) ∧
  (let fn : Fin 17 := 0;
    let s : State := AttestationStates.st 3;
    let x : Spdm := s.spdm fn.val;
    let chain : List Byte := s.odBlob 25602 0 ++ Config.leafCert;
    s.hasFn fn.val = true ∧
      x.stage = 3 ∧
        let off : BitVec 16 := 0#16;
        off.toNat ≤ chain.length) ∧
  (let fn : Fin 17 := 0;
    let s : State := AttestationStates.st 10;
    let x : Spdm := s.spdm fn.val;
    s.hasFn fn.val = true ∧ x.stage = 3 ∧ s.sec.onyx.identity = true) ∧
  (let fn : Fin 17 := 0;
    let s : State := AttestationStates.st 3;
    let x : Spdm := s.spdm fn.val;
    s.hasFn fn.val = true ∧ x.stage = 3 ∧ s.sec.onyx.identity = false) ∧
  (let fn : Fin 17 := 0;
    let s : State := AttestationStates.st 10;
    let x : Spdm := s.spdm fn.val;
    s.hasFn fn.val = true ∧
      x.stage = 3 ∧
        let k : BitVec 8 := 1#8;
        s.sec.onyx.identity = true ∧ 1 ≤ k.toNat ∧ k.toNat ≤ 6) ∧
  (let fn : Fin 17 := 0;
    let s : State := AttestationStates.st 10;
    let x : Spdm := s.spdm fn.val;
    s.hasFn fn.val = true ∧ x.stage = 3 ∧ s.sec.onyx.identity = true ∧ x.sess.length < 4) ∧
  (let fn : Fin 17 := 0;
    let s : State := AttestationStates.st 4;
    let x : Spdm := s.spdm fn.val;
    s.hasFn fn.val = true ∧
      let id : BitVec 32 := 5#32;
      ∃ y ∈ (List.find? (fun (y : SpdmSess) => y.id == id.toNat) x.sess).toList, y.open_ = false) ∧
  (let fn : Fin 17 := 0;
    let s : State := AttestationStates.st 4;
    s.hasFn fn.val = true ∧
      let id : BitVec 32 := 6#32;
      s.secured fn.val id.toNat = true) := by
  refine ⟨?_, ?_, ?_, ?_, ?_, ?_, ?_, ?_, ?_⟩ <;>
    decide +kernel

theorem test_hyps_Banks_BankWrites :
  (let n : Fin 288 := 0;
    let b : Fin 32 := 5;
    let f : Fin 17 := 0;
    let s : State := BankWritesStates.st 1;
    let p : ℕ := 0;
    let x : Bank := (s.core n.val).bankOf b.val;
    p < 16 ∧
      s.serving p = f.val ∧
        (s.part p).hasCluster (clusterOf n.val) = true ∧
          s.clusterDown (clusterOf n.val) = false ∧
            s.sealedAt (bankCtrlAddr n.val b.val) = false ∧ (s.core n.val).testing b.val = false ∧ x.moving.isSome = true) ∧
  (let n : Fin 288 := 0;
    let b : Fin 32 := 5;
    let f : Fin 17 := 0;
    let v : Word := 0#64;
    let s : State := BankWritesStates.st 7;
    let p : ℕ := 0;
    let x : Bank := (s.core n.val).bankOf b.val;
    p < 16 ∧
      s.serving p = f.val ∧
        (s.part p).hasCluster (clusterOf n.val) = true ∧
          s.clusterDown (clusterOf n.val) = false ∧
            s.sealedAt (bankCtrlAddr n.val b.val) = false ∧
              (s.core n.val).testing b.val = false ∧ x.moving = none ∧ x.owner = 4 ∧ x.wellFormed n.val v = true) ∧
  (let n : Fin 288 := 0;
    let b : Fin 32 := 0;
    let f : Fin 17 := 0;
    let v : Word := 0#64;
    let s : State := BankWritesStates.st 0;
    let p : ℕ := 0;
    let x : Bank := (s.core n.val).bankOf b.val;
    p < 16 ∧
      s.serving p = f.val ∧
        (s.part p).hasCluster (clusterOf n.val) = true ∧
          s.clusterDown (clusterOf n.val) = false ∧
            s.sealedAt (bankCtrlAddr n.val b.val) = false ∧
              (s.core n.val).testing b.val = false ∧ x.moving = none ∧ (x.owner ≠ 4 ∨ x.wellFormed n.val v = false)) ∧
  (let n : Fin 288 := 0;
    let c : Fin 288 := 0;
    let b : Fin 32 := 5;
    let id : ℕ := 5;
    let m : MOp := { id := 5, slot := 0, w := 0x8000011c00000000#64, d := 0x20000020050#64, d1 := 0#64, s := 0x10000001000#64, s1 := 0#64, l := 8#64, phase := MPhase.started, left := 0, err := 0, errInfo := 0 };
    let v : Word := 4#64;
    let s : State := BankWritesStates.st 1;
    let x : Bank := (s.core n.val).bankOf b.val;
    let p : ℕ := s.slotPart c.val m.slot;
    s.mop? c.val id = some m ∧
      fOp m.w = 0 ∧
        m.phase = MPhase.started ∧
          m.err = 0 ∧
            m.l = 8 ∧
              BitVec.toNat m.d = bankCtrlAddr n.val b.val ∧
                s.slotReplay c.val m.slot = false ∧
                  s.mSealed c.val m = false ∧
                    s.mBehind c.val id (s.mRanges c.val m) = false ∧
                      s.inSpad (BitVec.toNat m.s) 8 = true ∧
                        s.access (Who.dma c.val) p (BitVec.toNat m.s) 8 false = Acc.ok ∧
                          s.reachAll p (BitVec.toNat m.d) 8 true = Reach.ok ∧
                            BitVec.toNat v = leNat (s.rdRange p (BitVec.toNat m.s) 8) ∧
                              (s.core n.val).testing b.val = false ∧ x.moving.isSome = true) ∧
  (let n : Fin 288 := 0;
    let c : Fin 288 := 0;
    let b : Fin 32 := 5;
    let id : ℕ := 5;
    let m : MOp := { id := 5, slot := 0, w := 0x8000011c00000000#64, d := 0x20000020050#64, d1 := 0#64, s := 0x10000001000#64, s1 := 0#64, l := 8#64, phase := MPhase.started, left := 0, err := 0, errInfo := 0 };
    let v : Word := 4#64;
    let s : State := BankWritesStates.st 4;
    let x : Bank := (s.core n.val).bankOf b.val;
    let p : ℕ := s.slotPart c.val m.slot;
    s.mop? c.val id = some m ∧
      fOp m.w = 0 ∧
        m.phase = MPhase.started ∧
          m.err = 0 ∧
            m.l = 8 ∧
              BitVec.toNat m.d = bankCtrlAddr n.val b.val ∧
                s.slotReplay c.val m.slot = false ∧
                  s.mSealed c.val m = false ∧
                    s.mBehind c.val id (s.mRanges c.val m) = false ∧
                      s.inSpad (BitVec.toNat m.s) 8 = true ∧
                        s.access (Who.dma c.val) p (BitVec.toNat m.s) 8 false = Acc.ok ∧
                          s.reachAll p (BitVec.toNat m.d) 8 true = Reach.ok ∧
                            BitVec.toNat v = leNat (s.rdRange p (BitVec.toNat m.s) 8) ∧
                              (s.core n.val).testing b.val = false ∧
                                x.moving = none ∧
                                  (if x.owner = 1 then
                                      clusterOf c.val = clusterOf n.val ∧ c.val % 12 = x.nbr
                                    else x.owner ≠ 4 ∧ c = n) ∧
                                    x.wellFormed n.val v = true) ∧
  (let n : Fin 288 := 0;
    let c : Fin 288 := 0;
    let b : Fin 32 := 5;
    let id : ℕ := 5;
    let m : MOp := { id := 5, slot := 0, w := 0x8000011c00000000#64, d := 0x20000020050#64, d1 := 0#64, s := 0x10000001000#64, s1 := 0#64, l := 8#64, phase := MPhase.started, left := 0, err := 0, errInfo := 0 };
    let v : Word := 4#64;
    let s : State := BankWritesStates.st 0;
    let x : Bank := (s.core n.val).bankOf b.val;
    let p : ℕ := s.slotPart c.val m.slot;
    s.mop? c.val id = some m ∧
      fOp m.w = 0 ∧
        m.phase = MPhase.started ∧
          m.err = 0 ∧
            m.l = 8 ∧
              BitVec.toNat m.d = bankCtrlAddr n.val b.val ∧
                s.slotReplay c.val m.slot = false ∧
                  s.mSealed c.val m = false ∧
                    s.mBehind c.val id (s.mRanges c.val m) = false ∧
                      s.inSpad (BitVec.toNat m.s) 8 = true ∧
                        s.access (Who.dma c.val) p (BitVec.toNat m.s) 8 false = Acc.ok ∧
                          s.reachAll p (BitVec.toNat m.d) 8 true = Reach.ok ∧
                            BitVec.toNat v = leNat (s.rdRange p (BitVec.toNat m.s) 8) ∧
                              (s.core n.val).testing b.val = false ∧
                                x.moving = none ∧
                                  ¬((if x.owner = 1 then
                                        clusterOf c.val = clusterOf n.val ∧ c.val % 12 = x.nbr
                                      else x.owner ≠ 4 ∧ c = n) ∧
                                      x.wellFormed n.val v = true)) := by
  refine ⟨?_, ?_, ?_, ?_, ?_, ?_⟩ <;>
    decide +kernel

theorem test_hyps_ObjectRequests_BlockRequests :
  (let f : Frame := { door := .m, src := 0x1122#48, dst := 0x20000000001#48, ver := 3#8, session := 7#16, seq := 4#16, sound := true, formed := true };
    let s : State := BlockRequestsStates.st 2;
    let n : Fin 288 := 0;
    let v : BitVec 16 := 0#16;
    (s.core n.val).march.isSome = true ∧ s.Takes (Instr.marchRequest f n v)) ∧
  (let f : Frame := { door := .m, src := 0x1122#48, dst := 0x20000000001#48, ver := 3#8, session := 7#16, seq := 4#16, sound := true, formed := true };
    let s : State := BlockRequestsStates.st 0;
    let n : Fin 288 := 0;
    let v : BitVec 16 := 133#16;
    (s.core n.val).march = none ∧
      bit 7 v.toNat = true ∧
        bit 6 v.toNat = false ∧
          ((s.core n.val).bankOf (bits 4 0 v.toNat)).isLit = true ∧ s.Takes (Instr.marchRequest f n v)) ∧
  (let f : Frame := { door := .m, src := 0x1122#48, dst := 0x20000000001#48, ver := 3#8, session := 7#16, seq := 4#16, sound := true, formed := true };
    let s : State := BlockRequestsStates.st 0;
    let k : Fin 16 := 0;
    let c : Fin 32 := 0;
    s.Takes (Instr.sparePairAssign f k c)) ∧
  (let f : Frame := { door := .m, src := 0x1122#48, dst := 0x20000000001#48, ver := 3#8, session := 7#16, seq := 4#16, sound := true, formed := true };
    let s : State := BlockRequestsStates.st 0;
    let k : Fin 16 := 0;
    s.Takes (Instr.sparePairCancel f k)) ∧
  (let f : Frame := { door := .m, src := 0x1122#48, dst := 0x20000000001#48, ver := 3#8, session := 7#16, seq := 4#16, sound := true, formed := true };
    let s : State := BlockRequestsStates.st 0;
    let k : Fin 16 := 0;
    let v : Bool := false;
    s.onStack k.val = [] ∧ s.Takes (Instr.sepiaBypass f k v)) ∧
  (let f : Frame := { door := .m, src := 0x1122#48, dst := 0x20000000001#48, ver := 3#8, session := 7#16, seq := 4#16, sound := true, formed := true };
    let s : State := BlockRequestsStates.st 4;
    let n : Fin 12 := 0;
    (s.link n.val).st = LinkSt.disabled ∧
      s.linkLicensed n.val = true ∧ s.life.begun = true ∧ s.life.svc ≠ Svc.black ∧ s.Takes (Instr.linkEnable f n)) ∧
  (let f : Frame := { door := .m, src := 0x1122#48, dst := 0x20000000001#48, ver := 3#8, session := 7#16, seq := 4#16, sound := true, formed := true };
    let s : State := BlockRequestsStates.st 0;
    let n : Fin 12 := 0;
    s.Takes (Instr.linkDisable f n)) ∧
  (let f : Frame := { door := .m, src := 0x1122#48, dst := 0x20000000001#48, ver := 3#8, session := 7#16, seq := 4#16, sound := true, formed := true };
    let s : State := BlockRequestsStates.st 0;
    let n : Fin 12 := 0;
    let v : BitVec 32 := 0x80000001#32;
    bit 31 v.toNat = true ∧
      ((s.link n.val).st = LinkSt.disabled ∨ (s.link n.val).st = LinkSt.down) ∧ s.Takes (Instr.loopbackRequest f n v)) ∧
  (let f : Frame := { door := .m, src := 0x1122#48, dst := 0x20000000001#48, ver := 3#8, session := 7#16, seq := 4#16, sound := true, formed := true };
    let s : State := BlockRequestsStates.st 1;
    let v : BitVec 32 := 0#32;
    s.Takes (Instr.coordinateWrite f v)) ∧
  (let f : Frame := { door := .m, src := 0x1122#48, dst := 0x20000000001#48, ver := 3#8, session := 7#16, seq := 4#16, sound := true, formed := true };
    let s : State := BlockRequestsStates.st 0;
    let k : Bool := true;
    let b : List Byte := ([1, 1, 1, 1, 1, 0, 0, 0, 1, 0, 1, 0, 1, 0, 1, 0, 1, 0, 1, 0, 1, 0, 1] ++ List.replicate 41 0);
    s.Takes (Instr.routingTableWrite f k b)) ∧
  (let f : Frame := { door := .m, src := 0x1122#48, dst := 0x20000000001#48, ver := 3#8, session := 7#16, seq := 4#16, sound := true, formed := true };
    let s : State := BlockRequestsStates.st 7;
    let v : Word := 0x8000000000989680#64;
    s.Takes (Instr.swapRequest f v)) ∧
  (let f : Frame := { door := .m, src := 0x1122#48, dst := 0x20000000001#48, ver := 3#8, session := 7#16, seq := 4#16, sound := true, formed := true };
    let s : State := BlockRequestsStates.st 0;
    let g : Fin 4096 := 1;
    let b : List Byte := [];
    s.gSt g.val ≠ 2 ∧ s.Takes (Instr.groupDescriptorWrite f g b)) ∧
  (let f : Frame := { door := .m, src := 0x1122#48, dst := 0x20000000001#48, ver := 3#8, session := 7#16, seq := 4#16, sound := true, formed := true };
    let s : State := BlockRequestsStates.st 8;
    let g : Fin 4096 := 1;
    let b : List Byte := [];
    s.gSt g.val = 2 ∧ s.Takes (Instr.groupDescriptorWrite f g b)) := by
  refine ⟨?_, ?_, ?_, ?_, ?_, ?_, ?_, ?_, ?_, ?_, ?_, ?_, ?_⟩ <;>
    (simp only [takes_iff]; decide +kernel)

theorem test_hyps_InsertionToRemoval_BringUp :
  (let s : State := BringUpStates.st 8;
    s.life.powerGood = true ∧
      s.life.modReset = false ∧
        bit 2 (s.odNum 8195 0) = false ∧
          s.life.svc = Svc.grey ∧ s.life.removal = 0) ∧
  (let s : State := BringUpStates.st 9;
    let k : Fin 16 := 0;
    s.bringingUp = true ∧ bit k.val s.life.memTrained = false) ∧
  (let s : State := BringUpStates.st 9;
    let k : Fin 16 := 1;
    s.bringingUp = true ∧ bit k.val s.life.memTrained = true ∧ bit k.val s.life.memTested = false) ∧
  (let s : State := BringUpStates.st 11;
    s.life.svc = Svc.grey ∧
      s.life.removal = 0 ∧ s.odNum 8195 0 % 1024 = 1023) ∧
  (let s : State := BringUpStates.st 0;
    s.life.modReset = false ∧ s.poweringOff = false ∧ s.life.powerGood = true ∧ s.activeRuns = true) ∧
  (let s : State := BringUpStates.st 14;
    s.life.modReset = true) := by
  refine ⟨?_, ?_, ?_, ?_, ?_, ?_⟩ <;>
    decide +kernel

theorem test_hyps_BxMerge :
  (let a : BX := { fold0 := 0, fold1 := 0, bin := 0, nan := false, pinf := false, ninf := false, ovf := false };
    -2 ^ 55 ≤ a.fold0 ∧
      a.fold0 < 2 ^ 55 ∧
        -2 ^ 55 ≤ a.fold1 ∧ a.fold1 < 2 ^ 55) := by
  decide +kernel

theorem test_hyps_LinkTrains_CapabilityMessages :
  (let bs : List Byte := ([2, 3, 7, 0, 99] ++ List.replicate 7 0 ++ [31, 0, 0, 0, 1] ++ List.replicate 43 0 ++ [59, 218, 95, 243]);
    (fun (b : List Byte) =>
        b.length = 64 ∧ fieldAt b 60 4 = crc32c (List.take 60 b))
      bs) ∧
  (let bs : List Byte := ([252, 252, 248, 255, 156] ++ List.replicate 7 255 ++ [224, 255, 255, 252, 254] ++ List.replicate 43 255 ++ [76, 236, 171, 202]);
    let neg : List Byte := List.map (fun (x : Byte) => ~~~x) bs;
    ¬(fun (b : List Byte) =>
            b.length = 64 ∧ fieldAt b 60 4 = crc32c (List.take 60 b))
          bs ∧
      (fun (b : List Byte) =>
          b.length = 64 ∧ fieldAt b 60 4 = crc32c (List.take 60 b))
        neg) ∧
  (let bs : List Byte := [];
    let neg : List Byte := List.map (fun (x : Byte) => ~~~x) bs;
    ¬(fun (b : List Byte) =>
            b.length = 64 ∧ fieldAt b 60 4 = crc32c (List.take 60 b))
          bs ∧
      ¬(fun (b : List Byte) =>
            b.length = 64 ∧ fieldAt b 60 4 = crc32c (List.take 60 b))
          neg) ∧
  (let k : ℕ := 0;
    k < 9) := by
  refine ⟨?_, ?_, ?_, ?_⟩ <;>
    decide +kernel

theorem test_hyps_CodewordPairs :
  (let p : FlitPair := { seq := 3, gen := 1, spare := 15, half := 15, flits := [([192, 24, 0, 216, 4, 0, 29] ++ List.replicate 6 0 ++ List.replicate 239 3 ++ [179, 254, 154, 69]), ([192, 24, 0, 216, 4, 0, 33, 0, 0, 0, 0, 32] ++ List.replicate 240 3 ++ [193, 74, 230, 55]), ([192, 24, 0, 216, 4, 0, 37, 0, 0, 0, 0, 32, 8] ++ List.replicate 239 3 ++ [146, 134, 14, 203]), ([192, 24, 0, 216, 4, 0, 41] ++ List.replicate 6 0 ++ List.replicate 239 3 ++ [248, 209, 67, 210]), ([192, 24, 0, 216, 4, 0, 45, 0, 0, 0, 0, 32, 1] ++ List.replicate 239 3 ++ [173, 52, 198, 239])] };
    p.flits.length = 5 ∧
      (∀ f ∈ p.flits, f.length = 256) ∧
        p.half ∈ [0, 1, 15] ∧ (p.spare = 15 ∨ p.spare ∈ positions p.half)) := by
  decide +kernel

theorem test_hyps_Collectives_CollectiveChunks :
  (let g : Fin 4096 := 1;
    let j : Fin 1048576 := 0;
    let s : State := CollectiveChunksStates.st 7;
    let c : Coll := { ref := { queue := 0, index := 0 }, group := 1, inst := 0, part := 0, bits := 3273390607896165128852367158892320605739639164721122863464502448345876053517925256162215034628799026831932969240022192109151473189840739457668120313860, gd := ([1, 0, 0, 1, 0, 1, 0, 0, 2] ++ List.replicate 7 0 ++ [232, 3, 0, 0, 255, 255, 15, 0, 64, 0, 48, 0, 255, 255, 15, 0, 255, 255, 15, 0, 255, 255, 15, 0, 255, 255, 15, 0, 255, 255, 15, 0, 255, 255, 15, 0, 255, 255, 15, 0, 255, 255, 15, 0, 255, 255, 15, 0, 255, 255, 15, 0, 255, 255, 15] ++ List.replicate 21 0), chunks := 1, lease := [], endpoint := false, upLim := 0, upSent := 0, downLim := [], got := [(0, 8)], slots := [(0, [(2, 128#8), (3, 63#8), (6, 64#8), (7, 64#8)])], formed := [], down := [], hold := [], ended := none, lost := [] };
    let src : ℕ := colSrc c.bits + c.at j.val;
    let len : ℕ := c.elems j.val * (colW c.bits / 8);
    let kids : List (List Byte) := List.map (s.kidBytes c j.val) (List.range (gdChildren c.gd).length);
    let out : List Byte := c.form j.val (s.rdRange c.part src len) kids true;
    let d : ℕ × ℕ × ℕ := c.dstPart j.val;
    let bs : List Byte := slice out d.1 (d.2.1 - d.1);
    s.coll? g.val = some c ∧
      List.find? (fun (x : Coll) => x.ref == c.ref) s.colls.run = some c ∧
        s.readyChunk c j.val = true ∧
          colReduces c.bits = true ∧
            c.endpoint = false ∧
              (len ≠ 0 → s.access Who.coll c.part src len false = Acc.ok) ∧
                s.sealedRange src len = false ∧
                  gdRank c.gd = 0 ∧
                    bs ≠ [] ∧
                      s.access Who.coll c.part (colDst c.bits + d.2.2) bs.length true = Acc.ok ∧
                        s.sealedRange (colDst c.bits + d.2.2) (d.2.1 - d.1) = false) ∧
  (let g : Fin 4096 := 1;
    let j : Fin 1048576 := 0;
    let s : State := CollectiveChunksStates.st 8;
    let c : Coll := { ref := { queue := 0, index := 0 }, group := 1, inst := 0, part := 0, bits := 3273390607896165128852367158892320605739639164721122863464502448345876053517925256162215034628799026831932969240022192109151473189840739457668120313860, gd := ([1, 0, 0, 1, 0, 1, 0, 0, 2, 0, 0, 0, 1, 0, 0, 0, 232, 3, 0, 0, 64, 0, 48, 0, 255, 255, 15, 0, 255, 255, 15, 0, 255, 255, 15, 0, 255, 255, 15, 0, 255, 255, 15, 0, 255, 255, 15, 0, 255, 255, 15, 0, 255, 255, 15, 0, 255, 255, 15, 0, 255, 255, 15, 0, 255, 255, 15, 0, 255, 255, 15] ++ List.replicate 21 0), chunks := 1, lease := [], endpoint := false, upLim := 1, upSent := 0, downLim := [], got := [], slots := [], formed := [], down := [], hold := [], ended := none, lost := [] };
    let src : ℕ := colSrc c.bits + c.at j.val;
    let len : ℕ := c.elems j.val * (colW c.bits / 8);
    s.coll? g.val = some c ∧
      List.find? (fun (x : Coll) => x.ref == c.ref) s.colls.run = some c ∧
        s.readyChunk c j.val = true ∧
          colReduces c.bits = true ∧
            c.endpoint = false ∧
              (len ≠ 0 → s.access Who.coll c.part src len false = Acc.ok) ∧
                s.sealedRange src len = false ∧ gdRank c.gd ≠ 0) ∧
  (let g : Fin 4096 := 1;
    let s : State := CollectiveChunksStates.st 0;
    let c : Coll := { ref := { queue := 0, index := 0 }, group := 1, inst := 0, part := 0, bits := 3273390607896165128852367158892320605739639164721122863464502448345876053517925256162215034628799026831932969240022192109151473189840739457668120313860, gd := ([1, 0, 0, 1, 0, 1, 0, 0, 2] ++ List.replicate 7 0 ++ [232, 3, 0, 0, 255, 255, 15, 0, 64, 0, 48, 0, 255, 255, 15, 0, 255, 255, 15, 0, 255, 255, 15, 0, 255, 255, 15, 0, 255, 255, 15, 0, 255, 255, 15, 0, 255, 255, 15, 0, 255, 255, 15, 0, 255, 255, 15, 0, 255, 255, 15, 0, 255, 255, 15] ++ List.replicate 21 0), chunks := 1, lease := [], endpoint := false, upLim := 0, upSent := 0, downLim := [], got := [], slots := [], formed := [], down := [], hold := [], ended := none, lost := [] };
    s.coll? g.val = some c ∧
      List.find? (fun (x : Coll) => x.ref == c.ref) s.colls.run = some c ∧
        s.fabric.stopped = false ∧ s.odPending (gIdx 20736 c.group) (gSub c.group) = none) := by
  refine ⟨?_, ?_, ?_⟩ <;>
    decide +kernel

theorem test_hyps_Collectives_CollectivePackets :
  (let s : State := CollectivePacketsStates.st 0;
    let p : Pkt := { op := 5, vc := 0, dst := 33, src := 64, dpart := 0, spart := 3, win := 0, offset := 0, seq := 5, gen := 0, len := 8, ce := false, rcore := 0, rcnt := 0, mark := false, echo := false, dline := false, esc := false, reissue := false, dim := 0, status := 0, hops := 0, aux := 1048576, keyid := 0, reserved := 0, payload := [0, 0, 128, 63, 5, 0, 0, 0], wrap := 0, ridx := 0, tag := 0, die := 0 };
    let c : Coll := { ref := { queue := 0, index := 0 }, group := 1, inst := 0, part := 0, bits := 3273390607896165128852367158892320605739639164721122863464502448345876053517925256162215034628799026831932969240022192109151473189840739457668120313860, gd := ([1, 0, 0, 1, 0, 1, 0, 0, 2] ++ List.replicate 7 0 ++ [232, 3, 0, 0, 255, 255, 15, 0, 64, 0, 48, 0, 255, 255, 15, 0, 255, 255, 15, 0, 255, 255, 15, 0, 255, 255, 15, 0, 255, 255, 15, 0, 255, 255, 15, 0, 255, 255, 15, 0, 255, 255, 15, 0, 255, 255, 15, 0, 255, 255, 15, 0, 255, 255, 15] ++ List.replicate 21 0), chunks := 1, lease := [], endpoint := false, upLim := 0, upSent := 0, downLim := [], got := [], slots := [], formed := [], down := [], hold := [], ended := none, lost := [] };
    let j : ℕ := auxChunk p;
    let k : ℕ := 0;
    s.CollArrives 0 p c ∧
      j < c.chunks ∧
        colKind c.bits ≠ 2 ∧
          List.idxOf? (senderRef p) (gdChildren c.gd) = some k ∧ tget false c.formed j = false ∧ c.endpoint = false) ∧
  (let s : State := CollectivePacketsStates.st 19;
    let p : Pkt := { op := 5, vc := 0, dst := 33, src := 64, dpart := 0, spart := 3, win := 16, offset := 0, seq := 5, gen := 0, len := 4, ce := false, rcore := 0, rcnt := 0, mark := false, echo := false, dline := false, esc := false, reissue := false, dim := 0, status := 0, hops := 0, aux := 1048576, keyid := 0, reserved := 0, payload := [7, 0, 0, 0], wrap := 0, ridx := 0, tag := 0, die := 0 };
    let c : Coll := { ref := { queue := 0, index := 0 }, group := 1, inst := 0, part := 0, bits := 3273390607896165129208655211942621440034395838213199124561707989838952492785330983291033625348336121136235266434843618665614266040067937739100844457988, gd := ([1, 0, 0, 1, 0, 1, 0, 0, 2, 0, 0, 0, 1, 0, 0, 0, 232, 3, 0, 0, 64, 0, 48, 0, 255, 255, 15, 0, 255, 255, 15, 0, 255, 255, 15, 0, 255, 255, 15, 0, 255, 255, 15, 0, 255, 255, 15, 0, 255, 255, 15, 0, 255, 255, 15, 0, 255, 255, 15, 0, 255, 255, 15, 0, 255, 255, 15, 0, 255, 255, 15] ++ List.replicate 21 0), chunks := 1, lease := [], endpoint := false, upLim := 0, upSent := 0, downLim := [], got := [], slots := [], formed := [], down := [], hold := [], ended := none, lost := [] };
    let j : ℕ := auxChunk p;
    let n : ℕ := p.payload.length;
    let d : ℕ × ℕ × ℕ := c.dstPart j;
    let lo : ℕ := max (colOff p) d.1;
    let bs : List Byte := slice p.payload (lo - colOff p) (min (colOff p + n) d.2.1 - lo);
    let a : ℕ := colDst c.bits + d.2.2 + (lo - d.1);
    s.CollArrives 1 p c ∧
      j < c.chunks ∧
        bs ≠ [] ∧
          s.access Who.coll c.part a bs.length true = Acc.ok ∧
            s.sealedRange a bs.length = false ∧ s.onChip a bs.length = true ∧ partGranule a bs.length = true) ∧
  (let s : State := CollectivePacketsStates.st 4;
    let p : Pkt := { op := 5, vc := 0, dst := 33, src := 64, dpart := 0, spart := 3, win := 32, offset := 0, seq := 5, gen := 0, len := 16, ce := false, rcore := 0, rcnt := 0, mark := false, echo := false, dline := false, esc := false, reissue := false, dim := 0, status := 0, hops := 0, aux := 1048576, keyid := 0, reserved := 0, payload := ([1] ++ List.replicate 7 0 ++ [196, 72, 80, 30, 238, 247, 207, 119]), wrap := 0, ridx := 0, tag := 0, die := 0 };
    let c : Coll := { ref := { queue := 0, index := 0 }, group := 1, inst := 0, part := 0, bits := 3273390607896165128852367158892320605739639164721122863464502448345876053517925256162215034628799026831932969240022192109151473189840739457668120313860, gd := ([1, 0, 0, 1, 0, 1, 0, 0, 2, 0, 0, 0, 1, 0, 0, 0, 232, 3, 0, 0, 64, 0, 48, 0, 255, 255, 15, 0, 255, 255, 15, 0, 255, 255, 15, 0, 255, 255, 15, 0, 255, 255, 15, 0, 255, 255, 15, 0, 255, 255, 15, 0, 255, 255, 15, 0, 255, 255, 15, 0, 255, 255, 15, 0, 255, 255, 15, 0, 255, 255, 15] ++ List.replicate 21 0), chunks := 1, lease := [], endpoint := false, upLim := 0, upSent := 0, downLim := [], got := [], slots := [], formed := [], down := [], hold := [], ended := none, lost := [] };
    s.CollArrives 2 p c ∧
      s.current (auxGroup p) = some (colInst p) ∧
        fieldAt p.payload 8 4 = descFp c.bits ∧
          fieldAt p.payload 12 4 = groupFp c.gd ∧
            fieldAt p.payload 4 1 = 0 ∧
              senderRef p = gdParent c.gd ∧
                gdRank c.gd ≠ 0 ∧
                  c.upLim < fieldAt p.payload 0 4 ∧
                    colReduces c.bits = true ∧ ∃ i < c.chunks, tget false c.formed i = false) ∧
  (let s : State := CollectivePacketsStates.st 5;
    let p : Pkt := { op := 5, vc := 0, dst := 33, src := 64, dpart := 0, spart := 3, win := 48, offset := 0, seq := 5, gen := 0, len := 8, ce := false, rcore := 0, rcnt := 0, mark := false, echo := false, dline := false, esc := false, reissue := false, dim := 0, status := 0, hops := 0, aux := 1048576, keyid := 0, reserved := 0, payload := ([4] ++ List.replicate 7 0), wrap := 0, ridx := 0, tag := 0, die := 0 };
    let c : Coll := { ref := { queue := 0, index := 0 }, group := 1, inst := 0, part := 0, bits := 3273390607896165128852367158892320605739639164721122863464502448345876053517925256162215034628799026831932969240022192109151473189840739457668120313860, gd := ([1, 0, 0, 1, 0, 1, 0, 0, 2, 0, 0, 0, 1, 0, 0, 0, 232, 3, 0, 0, 64, 0, 48, 0, 255, 255, 15, 0, 255, 255, 15, 0, 255, 255, 15, 0, 255, 255, 15, 0, 255, 255, 15, 0, 255, 255, 15, 0, 255, 255, 15, 0, 255, 255, 15, 0, 255, 255, 15, 0, 255, 255, 15, 0, 255, 255, 15, 0, 255, 255, 15] ++ List.replicate 21 0), chunks := 1, lease := [], endpoint := false, upLim := 0, upSent := 0, downLim := [], got := [], slots := [], formed := [], down := [], hold := [], ended := none, lost := [] };
    s.CollArrives 3 p c ∧
      s.odPending (gIdx 20736 c.group) (gSub c.group) = none ∧ senderRef p ∈ c.neighbours) ∧
  (let s : State := CollectivePacketsStates.st 14;
    let p : Pkt := { op := 5, vc := 0, dst := 33, src := 119, dpart := 0, spart := 3, win := 48, offset := 0, seq := 5, gen := 0, len := 8, ce := false, rcore := 0, rcnt := 0, mark := false, echo := false, dline := false, esc := false, reissue := false, dim := 0, status := 0, hops := 0, aux := 1048576, keyid := 0, reserved := 0, payload := ([4] ++ List.replicate 7 0), wrap := 0, ridx := 0, tag := 0, die := 0 };
    let c : Coll := { ref := { queue := 0, index := 0 }, group := 1, inst := 0, part := 0, bits := 3273390607896165128852367158892320605739639164721122863464502448345876053517925256162215034628799026831932969240022192109151473189840739457668120313860, gd := ([1, 0, 0, 1, 0, 1, 0, 0, 2, 0, 0, 0, 1, 0, 0, 0, 232, 3, 0, 0, 64, 0, 48, 0, 255, 255, 15, 0, 255, 255, 15, 0, 255, 255, 15, 0, 255, 255, 15, 0, 255, 255, 15, 0, 255, 255, 15, 0, 255, 255, 15, 0, 255, 255, 15, 0, 255, 255, 15, 0, 255, 255, 15, 0, 255, 255, 15, 0, 255, 255, 15] ++ List.replicate 21 0), chunks := 1, lease := [], endpoint := false, upLim := 0, upSent := 0, downLim := [], got := [], slots := [], formed := [], down := [], hold := [], ended := none, lost := [] };
    s.CollArrives 3 p c ∧
      s.odPending (gIdx 20736 c.group) (gSub c.group) = none ∧ senderRef p ∉ c.neighbours) ∧
  (let s : State := CollectivePacketsStates.st 15;
    let p : Pkt := { op := 5, vc := 0, dst := 33, src := 64, dpart := 0, spart := 3, win := 16, offset := 0, seq := 5, gen := 0, len := 1, ce := false, rcore := 0, rcnt := 0, mark := false, echo := false, dline := false, esc := false, reissue := false, dim := 0, status := 0, hops := 0, aux := 1048576, keyid := 0, reserved := 0, payload := [1], wrap := 0, ridx := 0, tag := 0, die := 0 };
    let part : PartSt := (s.part p.dpart).st;
    (s.Arrives p fun (p : Pkt) => p.op == 5 && colPhase p == 1) ∧
      (part = PartSt.draining ∨ part = PartSt.scrubbing)) ∧
  (let s : State := CollectivePacketsStates.st 16;
    let p : Pkt := { op := 5, vc := 0, dst := 33, src := 64, dpart := 0, spart := 3, win := 16, offset := 0, seq := 5, gen := 0, len := 1, ce := false, rcore := 0, rcnt := 0, mark := false, echo := false, dline := false, esc := false, reissue := false, dim := 0, status := 0, hops := 0, aux := 1048576, keyid := 0, reserved := 0, payload := [1], wrap := 0, ridx := 0, tag := 0, die := 0 };
    let part : PartSt := (s.part p.dpart).st;
    (s.Arrives p fun (p : Pkt) => p.op == 5 && colPhase p == 1) ∧
      part ≠ PartSt.draining ∧ part ≠ PartSt.scrubbing ∧ s.gSt (auxGroup p) = 0) ∧
  (let s : State := CollectivePacketsStates.st 17;
    let p : Pkt := { op := 5, vc := 0, dst := 33, src := 64, dpart := 0, spart := 3, win := 16, offset := 0, seq := 5, gen := 0, len := 1, ce := false, rcore := 0, rcnt := 0, mark := false, echo := false, dline := false, esc := false, reissue := false, dim := 0, status := 0, hops := 0, aux := 1048576, keyid := 0, reserved := 0, payload := [1], wrap := 0, ridx := 0, tag := 0, die := 0 };
    let part : PartSt := (s.part p.dpart).st;
    (s.Arrives p fun (p : Pkt) => p.op == 5 && colPhase p == 1) ∧
      part ≠ PartSt.draining ∧
        part ≠ PartSt.scrubbing ∧
          s.gSt (auxGroup p) ≠ 0 ∧
            gdPart (s.gd (auxGroup p)) = p.dpart ∧ gdGen (s.gd (auxGroup p)) = colGen p ∧ s.computeReset = true) ∧
  (let s : State := CollectivePacketsStates.st 18;
    let p : Pkt := { op := 5, vc := 0, dst := 33, src := 64, dpart := 0, spart := 3, win := 16, offset := 327680, seq := 5, gen := 0, len := 1, ce := false, rcore := 0, rcnt := 0, mark := false, echo := false, dline := false, esc := false, reissue := false, dim := 0, status := 0, hops := 0, aux := 1048576, keyid := 0, reserved := 0, payload := [1], wrap := 0, ridx := 0, tag := 0, die := 0 };
    let part : PartSt := (s.part p.dpart).st;
    (s.Arrives p fun (p : Pkt) => p.op == 5 && colPhase p == 1) ∧
      part ≠ PartSt.draining ∧
        part ≠ PartSt.scrubbing ∧
          s.gSt (auxGroup p) ≠ 0 ∧
            gdPart (s.gd (auxGroup p)) = p.dpart ∧
              gdGen (s.gd (auxGroup p)) = colGen p ∧ s.computeReset = false ∧ s.current (auxGroup p) ≠ some (colInst p)) := by
  refine ⟨?_, ?_, ?_, ?_, ?_, ?_, ?_, ?_, ?_⟩
  · simp only [State.Arrives, State.CollArrives]; decide +kernel
  · simp only [State.Arrives, State.CollArrives]; decide +kernel
  · simp only [State.Arrives, State.CollArrives]; decide +kernel
  · simp only [State.Arrives, State.CollArrives]; decide +kernel
  · simp only [State.Arrives, State.CollArrives]; decide +kernel
  · simp only [State.Arrives]; decide +kernel
  · simp only [State.Arrives]; decide +kernel
  · simp only [State.Arrives]; decide +kernel
  · simp only [State.Arrives]; decide +kernel

theorem test_hyps_Banks_Collisions :
  (let n : Fin 288 := 0;
    let k : Fin 5 := 0;
    let s : State := CollisionsStates.st 0;
    s.clusterDown (clusterOf n.val) = false ∧ k.val ≠ 3) ∧
  (let n : Fin 288 := 0;
    let k : Fin 5 := 3;
    let s : State := CollisionsStates.st 0;
    s.clusterDown (clusterOf n.val) = false ∧ k.val = 3) := by
  refine ⟨?_, ?_⟩ <;>
    decide +kernel

theorem test_hyps_Sectors_CommittedViews :
  (let p : Fin 16 := 0;
    let addr : Addr := 0xc000001000#44;
    let s : State := CommittedViewsStates.st 16;
    let a : ℕ := BitVec.toNat addr / 64 * 64;
    let x : ℕ := a - 824633720832;
    824633720832 ≤ a ∧
      a < 1099511627776 ∧
        s.reach p.val a false = Reach.ok ∧
          s.stackGated (stackOf x) = false ∧
            (∀ d ∈ s.memory.deciding, s.holder x ≠ some d.1) ∧
              ∃ e ∈ (s.beforeImage (x / 64)).toList, e.uncorr = false ∧ s.entryBad e = false) ∧
  (let p : Fin 16 := 0;
    let addr : Addr := 0xc000001000#44;
    let s : State := CommittedViewsStates.st 0;
    let a : ℕ := BitVec.toNat addr / 64 * 64;
    let x : ℕ := a - 824633720832;
    824633720832 ≤ a ∧
      a < 1099511627776 ∧
        s.reach p.val a false = Reach.ok ∧
          s.stackGated (stackOf x) = false ∧
            (∀ d ∈ s.memory.deciding, s.holder x ≠ some d.1) ∧
              s.beforeImage (x / 64) = none ∧ x / 64 ∉ s.memory.bad) := by
  refine ⟨?_, ?_⟩ <;>
    decide +kernel

theorem test_hyps_CopiesAndCompletions_Completions :
  (let s : State := CompletionsStates.st 9;
    let r : DescRef := { queue := 0, index := 0 };
    let rest : List DescRef := [];
    let f : Flight := { ref := { queue := 0, index := 0 }, part := 0, slot := 2, bytes := ([2] ++ List.replicate 41 0 ++ [64, 136, 19, 0, 0, 0, 0, 32] ++ List.replicate 7 0 ++ [16] ++ List.replicate 6 0), units := 2, ends := [(0, { status := 0, sub := 0, detail := 0 }), (1, { status := 4, sub := 5, detail := 6 })], started := 2, finished := true, force := none, detail := 0, silent := false };
    let d : ℕ := dNum f.bytes;
    let x : Queue := s.queue r.queue;
    s.disp.order = r :: rest ∧
      s.flight? r = some f ∧
        s.suspected r = false ∧
          f.silent = false ∧
            f.part < 16 ∧
              x.cqFull = false ∧
                (dQuiet d = false ∨ f.outcome.status ≠ 0) ∧
                  (dDmap d = 0 ∨ f.outcome.status = 0)) ∧
  (let s : State := CompletionsStates.st 11;
    let r : DescRef := { queue := 0, index := 0 };
    let rest : List DescRef := [];
    let f : Flight := { ref := { queue := 0, index := 0 }, part := 0, slot := 2, bytes := ([2, 0, 32] ++ List.replicate 39 0 ++ [64, 50, 0, 0, 0, 0, 0, 32] ++ List.replicate 7 0 ++ [16] ++ List.replicate 6 0), units := 1, ends := [(0, { status := 0, sub := 0, detail := 0 })], started := 1, finished := true, force := none, detail := 0, silent := false };
    let d : ℕ := dNum f.bytes;
    s.disp.order = r :: rest ∧
      s.flight? r = some f ∧
        s.suspected r = false ∧ f.silent = false ∧ f.part < 16 ∧ dQuiet d = true ∧ f.outcome.status = 0) := by
  refine ⟨?_, ?_⟩ <;>
    decide +kernel

theorem test_hyps_Contexts_ContextEnds :
  (let n : Fin 288 := 0;
    let k : Fin 4 := 1;
    let s : State := AsynchronousFaultsStates.st 7;
    let c : Core := s.core n.val;
    (c.slot k.val).st = CtxSt.draining ∧ c.tBusy k.val = false ∧ c.vBusy k.val = false ∧ c.mBusy k.val = false) ∧
  (let n : Fin 288 := 0;
    let k : Fin 4 := 1;
    let s : State := AsynchronousFaultsStates.st 6;
    let c : Core := s.core n.val;
    (c.slot k.val).st = CtxSt.draining ∧ (c.tBusy k.val = true ∨ c.vBusy k.val = true ∨ c.mBusy k.val = true)) := by
  refine ⟨?_, ?_⟩ <;>
    decide +kernel

theorem test_hyps_Contexts_ContextSwitches :
  (let n : Fin 288 := 0;
    let s : State := ContextSwitchesStates.st 0;
    let d : ℕ := 1;
    let c : Core := s.core n.val;
    let k : ℕ := (c.cur + d) % 4;
    let x : Ctx := c.slot k;
    (∀ j < 4, (c.slot j).st ≠ CtxSt.running) ∧
      1 ≤ d ∧
        d ≤ 4 ∧
          x.st = CtxSt.ready ∧ ∀ e < d, 1 ≤ e → (c.slot ((c.cur + e) % 4)).st ≠ CtxSt.ready) := by
  decide +kernel

theorem test_hyps_CopResults_CopAluResult :
  (let e : (Fin 288 → Instr) × ℕ × (Word → Word → Word) := (aluRows)[0];
    let n : Fin 288 := 0;
    let s : State := CopAluResultStates.st 5;
    let k : ℕ := 0;
    let w : Word := 0x5184400fffffffe#64;
    s.Issues n 0 e.2.1 k w ∧ s.InLine n k) := by
  simp only [State.Issues, State.InLine]; decide +kernel

theorem test_hyps_CopControl_CopBranch :
  (let e : (Fin 288 → Instr) × ℕ × (Word → Word → Bool) := (branchRows)[0];
    let n : Fin 288 := 0;
    let s : State := CopBranchStates.st 0;
    let k : ℕ := 0;
    let w : Word := 0x1200440000000001#64;
    s.Issues n 0 e.2.1 k w ∧
      let x : Ctx := (s.core n.val).slot k;
      let target : Word :=
        if e.2.2 (s.sreg n.val k (cSA w)) (s.sreg n.val k (cSB w)) = true then BitVec.ofNat 64 x.pc + cIMM w
        else BitVec.ofNat 64 (x.pc + 1);
      BitVec.toNat target < x.launch.len) ∧
  (let e : (Fin 288 → Instr) × ℕ × (Word → Word → Bool) := (branchRows)[0];
    let n : Fin 288 := 0;
    let s : State := CopBranchStates.st 2;
    let k : ℕ := 0;
    let w : Word := 0x12008400fffffffe#64;
    s.Issues n 0 e.2.1 k w ∧
      let x : Ctx := (s.core n.val).slot k;
      let target : Word :=
        if e.2.2 (s.sreg n.val k (cSA w)) (s.sreg n.val k (cSB w)) = true then BitVec.ofNat 64 x.pc + cIMM w
        else BitVec.ofNat 64 (x.pc + 1);
      x.launch.len ≤ BitVec.toNat target) := by
  refine ⟨?_, ?_⟩ <;>
    (simp only [State.Issues]; decide +kernel)

theorem test_hyps_CopCountersAndWaits_CopCounters :
  (let n : Fin 288 := 0;
    let s : State := CopCountersStates.st 0;
    let k : ℕ := 0;
    let w : Word := 0#64;
    s.InLine n k ∧ s.Issues n 0 0 k w) ∧
  (let n : Fin 288 := 0;
    let s : State := CopCountersStates.st 1;
    let k : ℕ := 0;
    let w : Word := 0x1c00401800000005#64;
    s.InLine n k ∧ s.Issues n 0 28 k w) ∧
  (let n : Fin 288 := 0;
    let s : State := CopCountersStates.st 2;
    let k : ℕ := 0;
    let w : Word := 0x1d00401800000005#64;
    s.InLine n k ∧ s.Issues n 0 29 k w) ∧
  (let n : Fin 288 := 0;
    let s : State := CopCountersStates.st 3;
    let k : ℕ := 0;
    let w : Word := 0x1b00401800000005#64;
    s.InLine n k ∧
      let v : Word := s.sreg n.val k (cSA w) + cIMM w;
      s.Issues n 0 27 k w ∧ BitVec.toNat v ≤ BitVec.toNat ((s.core n.val).counter (cCNT w))) ∧
  (let n : Fin 288 := 0;
    let s : State := CopCountersStates.st 7;
    let k : ℕ := 0;
    let w : Word := 0x1f00000000000007#64;
    s.InLine n k ∧
      s.Issues n 0 31 k w ∧
        ¬(bit 0 (BitVec.toNat w) = true ∧ (s.core n.val).tBusy k = true) ∧
          ¬(bit 1 (BitVec.toNat w) = true ∧ (s.core n.val).vBusy k = true) ∧
            ¬(bit 2 (BitVec.toNat w) = true ∧ (s.core n.val).mBusy k = true)) := by
  refine ⟨?_, ?_, ?_, ?_, ?_⟩ <;>
    (simp only [State.Issues, State.InLine]; decide +kernel)

theorem test_hyps_CopControl_CopJump :
  (let n : Fin 288 := 0;
    let s : State := CopBranchStates.st 24;
    let k : ℕ := 0;
    let w : Word := 0x1808000000000001#64;
    let x : Ctx := (s.core n.val).slot k;
    let far : Word := BitVec.ofNat 64 x.pc + cIMM w;
    s.Issues n 0 24 k w ∧ BitVec.toNat far < x.launch.len) ∧
  (let n : Fin 288 := 0;
    let s : State := CopBranchStates.st 25;
    let k : ℕ := 0;
    let w : Word := 0x18080000fffffff7#64;
    let x : Ctx := (s.core n.val).slot k;
    let far : Word := BitVec.ofNat 64 x.pc + cIMM w;
    s.Issues n 0 24 k w ∧ x.launch.len ≤ BitVec.toNat far) ∧
  (let n : Fin 288 := 0;
    let s : State := CopBranchStates.st 26;
    let k : ℕ := 0;
    let w : Word := 0x1901800000000000#64;
    let x : Ctx := (s.core n.val).slot k;
    s.Issues n 0 25 k w ∧ BitVec.toNat (s.sreg n.val k (cSA w)) < x.launch.len) ∧
  (let n : Fin 288 := 0;
    let s : State := CopBranchStates.st 27;
    let k : ℕ := 0;
    let w : Word := 0x1901000000000000#64;
    let x : Ctx := (s.core n.val).slot k;
    s.Issues n 0 25 k w ∧ x.launch.len ≤ BitVec.toNat (s.sreg n.val k (cSA w))) ∧
  (let n : Fin 288 := 0;
    let s : State := CopBranchStates.st 28;
    let k : ℕ := 0;
    let w : Word := 0x1a08000000000001#64;
    let x : Ctx := (s.core n.val).slot k;
    let far : Word := BitVec.ofNat 64 x.pc + cIMM w;
    let next : Word := BitVec.ofNat 64 (x.pc + 1);
    let down : Word := s.sreg n.val k (cSD w) - 1;
    s.Issues n 0 26 k w ∧
      BitVec.toNat (if cSD w ≠ 0 ∧ down ≠ 0 then far else next) < x.launch.len) ∧
  (let n : Fin 288 := 0;
    let s : State := CopBranchStates.st 31;
    let k : ℕ := 0;
    let w : Word := 0x1a1800000000002c#64;
    let x : Ctx := (s.core n.val).slot k;
    let far : Word := BitVec.ofNat 64 x.pc + cIMM w;
    let next : Word := BitVec.ofNat 64 (x.pc + 1);
    let down : Word := s.sreg n.val k (cSD w) - 1;
    s.Issues n 0 26 k w ∧
      x.launch.len ≤ BitVec.toNat (if cSD w ≠ 0 ∧ down ≠ 0 then far else next)) := by
  refine ⟨?_, ?_, ?_, ?_, ?_, ?_⟩ <;>
    (simp only [State.Issues]; decide +kernel)

theorem test_hyps_CopResults_CopMoveResult :
  (let e : (Fin 288 → Instr) × ℕ × (State → Fin 288 → ℕ → Word → Word) := (moveRows)[2];
    let n : Fin 288 := 14;
    let s : State := CopAluResultStates.st 18;
    let k : ℕ := 0;
    let w : Word := 0x1e18001000000000#64;
    s.Issues n 0 e.2.1 k w ∧ s.InLine n k) ∧
  (let n : Fin 288 := 0;
    let s : State := CopAluResultStates.st 20;
    let k : ℕ := 0;
    let w : Word := 0x2148000000000000#64;
    s.Issues n 0 33 k w ∧ s.InLine n k) := by
  refine ⟨?_, ?_⟩ <;>
    (simp only [State.Issues, State.InLine]; decide +kernel)

theorem test_hyps_CopControl_CopRegionEnd :
  (let n : Fin 288 := 0;
    let s : State := CopRegionEndStates.st 0;
    let k : ℕ := 0;
    let w : Word := 0x508c00000000003#64;
    let x : Ctx := (s.core n.val).slot k;
    x.pc + 1 = x.launch.len ∧
      x.launch.len ≤ 16384 ∧
        let e : (Fin 288 → Instr) × ℕ × (Word → Word → Word) := (aluRows)[0];
        s.Issues n 0 e.2.1 k w) ∧
  (let n : Fin 288 := 0;
    let s : State := CopRegionEndStates.st 35;
    let k : ℕ := 0;
    let w : Word := 0#64;
    let x : Ctx := (s.core n.val).slot k;
    x.pc + 1 = x.launch.len ∧ x.launch.len ≤ 16384 ∧ s.Issues n 0 0 k w) ∧
  (let n : Fin 288 := 0;
    let s : State := CopRegionEndStates.st 41;
    let k : ℕ := 0;
    let w : Word := 0x1b00c00000000003#64;
    let x : Ctx := (s.core n.val).slot k;
    let v : Word := s.sreg n.val k (cSA w) + cIMM w;
    x.pc + 1 = x.launch.len ∧
      x.launch.len ≤ 16384 ∧
        s.Issues n 0 27 k w ∧ BitVec.toNat ((s.core n.val).counter (cCNT w)) < BitVec.toNat v) ∧
  (let n : Fin 288 := 0;
    let s : State := CopRegionEndStates.st 44;
    let k : ℕ := 0;
    let w : Word := 0x1f00000000000001#64;
    let x : Ctx := (s.core n.val).slot k;
    x.pc + 1 = x.launch.len ∧
      x.launch.len ≤ 16384 ∧
        s.Issues n 0 31 k w ∧
          (s.core n.val).fenceDone k (bits 2 0 (BitVec.toNat w)) = false) ∧
  (let n : Fin 288 := 0;
    let s : State := CopRegionEndStates.st 38;
    let k : ℕ := 0;
    let w : Word := 0x100000000000000#64;
    let x : Ctx := (s.core n.val).slot k;
    x.pc + 1 = x.launch.len ∧ x.launch.len ≤ 16384 ∧ s.Issues n 0 1 k w) := by
  refine ⟨?_, ?_, ?_, ?_, ?_⟩ <;>
    (simp only [State.Issues]; decide +kernel)

theorem test_hyps_EngineIssue_CopScratchpad :
  (let e : (Fin 288 → Instr) × ℕ := ([(Instr.lds, OfNat.ofNat 16), (Instr.sts, OfNat.ofNat 17)])[0];
    let n : Fin 288 := 0;
    let s : State := CopScratchpadStates.st 0;
    let k : ℕ := 0;
    let w : Word := 0x10088600fffffffa#64;
    s.Issues n 0 e.2 k w ∧
      s.InLine n k ∧
        let a : ℕ := BitVec.toNat (s.sreg n.val k (cSA w) + (s.sreg n.val k (cSB w) + cIMM w));
        a % 8 = 0 ∧ a ≤ 3145720 ∧ (s.core n.val).vq.length < 16) ∧
  (let e : (Fin 288 → Instr) × ℕ := ([(Instr.lds, OfNat.ofNat 16), (Instr.sts, OfNat.ofNat 17)])[0];
    let n : Fin 288 := 0;
    let s : State := CopScratchpadStates.st 1;
    let k : ℕ := 0;
    let w : Word := 0x10088600fffffffb#64;
    s.Issues n 0 e.2 k w ∧
      s.InLine n k ∧
        let a : ℕ := BitVec.toNat (s.sreg n.val k (cSA w) + (s.sreg n.val k (cSB w) + cIMM w));
        ¬(a % 8 = 0 ∧ a ≤ 3145720)) := by
  refine ⟨?_, ?_⟩ <;>
    (simp only [State.Issues, State.InLine]; decide +kernel)

theorem test_hyps_CopCountersAndWaits_CopWaiting :
  (let n : Fin 288 := 0;
    let s : State := CopCountersStates.st 4;
    let k : ℕ := 0;
    let w : Word := 0x1b00401800000005#64;
    s.InLine n k ∧
      let v : Word := s.sreg n.val k (cSA w) + cIMM w;
      s.Issues n 0 27 k w ∧ BitVec.toNat ((s.core n.val).counter (cCNT w)) < BitVec.toNat v) ∧
  (let n : Fin 288 := 0;
    let s : State := CopCountersStates.st 9;
    let k : ℕ := 0;
    let w : Word := 0x1f00000000000002#64;
    s.InLine n k ∧
      s.Issues n 0 31 k w ∧
        (bit 0 (BitVec.toNat w) = true ∧ (s.core n.val).tBusy k = true ∨
          bit 1 (BitVec.toNat w) = true ∧ (s.core n.val).vBusy k = true ∨
            bit 2 (BitVec.toNat w) = true ∧ (s.core n.val).mBusy k = true)) ∧
  (let n : Fin 288 := 0;
    let s : State := CopCountersStates.st 12;
    let k : ℕ := 0;
    let w : Word := 0x200000000000000#64;
    s.InLine n k ∧
      s.Issues n 0 2 k w ∧ (s.core n.val).nextReady.isSome = true ∧ (s.core n.val).cur = k) ∧
  (let n : Fin 288 := 0;
    let s : State := CopCountersStates.st 13;
    let k : ℕ := 0;
    let w : Word := 0x200000000000000#64;
    s.InLine n k ∧ s.Issues n 0 2 k w ∧ (s.core n.val).nextReady = none) ∧
  (let n : Fin 288 := 0;
    let s : State := CopCountersStates.st 14;
    let k : ℕ := 0;
    let w : Word := 0x100000000000000#64;
    s.InLine n k ∧ s.Issues n 0 1 k w) := by
  refine ⟨?_, ?_, ?_, ?_, ?_⟩ <;>
    (simp only [State.Issues, State.InLine]; decide +kernel)

theorem test_hyps_CopiesAndCompletions_CopyUnits :
  (let q : Fin 1024 := 0;
    let i : ℕ := 0;
    let u : ℕ := 0;
    let s : State := CompletionsStates.st 1;
    let f : Flight := { ref := { queue := 0, index := 0 }, part := 0, slot := 2, bytes := ([2] ++ List.replicate 41 0 ++ [64, 8, 0, 0, 0, 0, 0, 144] ++ List.replicate 11 0 ++ [1, 0, 0]), units := 1, ends := [], started := 1, finished := false, force := none, detail := 0, silent := false };
    let d : ℕ := dNum f.bytes;
    let n : ℕ := min 4096 (cpyLen d - 4096 * u);
    let src : ℕ := cpySrc d + 4096 * u;
    s.flight? { queue := q.val, index := i : DescRef } = some f ∧
      dType d = 2 ∧
        f.finished = false ∧
          u < f.started ∧
            tfind f.ends u = none ∧
              (s.part f.part).st ≠ PartSt.scrubbing ∧
                cpySrcH d = false ∧ cpyDstH d = true ∧ s.access Who.host f.part src n false = Acc.ok ∧ s.sealedAt src = false) ∧
  (let q : Fin 1024 := 0;
    let i : ℕ := 0;
    let u : ℕ := 0;
    let s : State := CompletionsStates.st 7;
    let f : Flight := { ref := { queue := 0, index := 0 }, part := 0, slot := 2, bytes := ([2] ++ List.replicate 41 0 ++ [128, 50, 0, 0, 0, 0, 0, 32] ++ List.replicate 7 0 ++ [16] ++ List.replicate 6 0), units := 1, ends := [], started := 1, finished := false, force := none, detail := 0, silent := false };
    let d : ℕ := dNum f.bytes;
    let n : ℕ := min 4096 (cpyLen d - 4096 * u);
    let dst : ℕ := cpyDst d + 4096 * u;
    s.flight? { queue := q.val, index := i : DescRef } = some f ∧
      dType d = 2 ∧
        f.finished = false ∧
          u < f.started ∧
            tfind f.ends u = none ∧
              (s.part f.part).st ≠ PartSt.scrubbing ∧
                cpySrcH d = true ∧ cpyDstH d = false ∧ s.access Who.host f.part dst n true = Acc.ok ∧ s.sealedAt dst = false) ∧
  (let q : Fin 1024 := 0;
    let i : ℕ := 0;
    let u : ℕ := 0;
    let s : State := CompletionsStates.st 4;
    let f : Flight := { ref := { queue := 0, index := 0 }, part := 0, slot := 2, bytes := ([2] ++ List.replicate 42 0 ++ [8, 0, 0, 0, 0, 0, 32] ++ List.replicate 7 0 ++ [16] ++ List.replicate 6 0), units := 1, ends := [], started := 1, finished := false, force := none, detail := 0, silent := false };
    let d : ℕ := dNum f.bytes;
    let n : ℕ := min 4096 (cpyLen d - 4096 * u);
    let src : ℕ := cpySrc d + 4096 * u;
    let dst : ℕ := cpyDst d + 4096 * u;
    s.flight? { queue := q.val, index := i : DescRef } = some f ∧
      dType d = 2 ∧
        f.finished = false ∧
          u < f.started ∧
            tfind f.ends u = none ∧
              (s.part f.part).st ≠ PartSt.scrubbing ∧
                cpySrcH d = false ∧
                  cpyDstH d = false ∧
                    s.access Who.host f.part src n false = Acc.ok ∧
                      s.access Who.host f.part dst n true = Acc.ok ∧ s.sealedAt src = false ∧ s.sealedAt dst = false) ∧
  (let q : Fin 1024 := 0;
    let i : ℕ := 0;
    let u : ℕ := 0;
    let s : State := CompletionsStates.st 0;
    let f : Flight := { ref := { queue := 0, index := 0 }, part := 0, slot := 2, bytes := ([2] ++ List.replicate 41 0 ++ [64, 8, 0, 0, 0, 0, 0, 144] ++ List.replicate 9 0 ++ [32, 0, 0, 0, 0]), units := 1, ends := [], started := 1, finished := false, force := none, detail := 0, silent := false };
    let d : ℕ := dNum f.bytes;
    let n : ℕ := min 4096 (cpyLen d - 4096 * u);
    let src : ℕ := cpySrc d + 4096 * u;
    let dst : ℕ := cpyDst d + 4096 * u;
    s.flight? { queue := q.val, index := i : DescRef } = some f ∧
      dType d = 2 ∧
        f.finished = false ∧
          u < f.started ∧
            tfind f.ends u = none ∧
              (s.part f.part).st ≠ PartSt.scrubbing ∧
                let r : Machine.Acc := Acc.isolation;
                (cpySrcH d = false → s.sealedAt src = false) ∧
                  (cpyDstH d = false → s.sealedAt dst = false) ∧
                    (r = Acc.address ∨ r = Acc.isolation) ∧
                      (cpySrcH d = false ∧
                          s.access Who.host f.part src n false = r ∧
                            (cpyDstH d = true ∨ (s.access Who.host f.part dst n true).waits = false) ∨
                        cpySrcH d = true ∧ cpyDstH d = false ∧ s.access Who.host f.part dst n true = r)) := by
  refine ⟨?_, ?_, ?_, ?_⟩ <;>
    decide +kernel

theorem test_hyps_FlitsAndCredits_Credits :
  (let n : Fin 12 := 0;
    let s : State := CreditsStates.st 4;
    let l : Link := s.link n.val;
    let m : List Byte := ([1, 5, 0, 0, 0, 255, 255, 15, 0, 0, 0, 0, 0, 1] ++ List.replicate 226 0);
    let rest : List (List Byte) := [[9]];
    s.Message n.val 1 m rest ∧ l.asm = []) ∧
  (let n : Fin 12 := 0;
    let s : State := CreditsStates.st 0;
    s.linkUp n.val = true) := by
  refine ⟨?_, ?_⟩
  · simp only [State.Message]; decide +kernel
  · decide +kernel

theorem test_hyps_DescriptorFlow_DescriptorFetches :
  (let q : Fin 1024 := 0;
    let s : State := DescriptorFetchesStates.st 0;
    let x : Queue := s.queue q.val;
    let next : ℕ := (x.head + x.fetchedSlots) % x.slots;
    let ready : ℕ := (x.tail + x.slots - next) % x.slots;
    let n : ℕ := BitVec.toNat (s.hrd (x.ringBase + 64 * next + 1)) % 4 + 1;
    x.code = QCode.enabled ∧ 0 < ready ∧ n ≤ ready) ∧
  (let q : Fin 1024 := 0;
    let s : State := DescriptorFetchesStates.st 12;
    let x : Queue := s.queue q.val;
    let next : ℕ := (x.head + x.fetchedSlots) % x.slots;
    let ready : ℕ := (x.tail + x.slots - next) % x.slots;
    let n : ℕ := BitVec.toNat (s.hrd (x.ringBase + 64 * next + 1)) % 4 + 1;
    x.code = QCode.enabled ∧ (ready = 0 ∨ ready < n)) := by
  refine ⟨?_, ?_⟩ <;>
    decide +kernel

theorem test_hyps_DeviceFaults :
  (let s : State := DeviceFaultsStates.st 0;
    let n : Fin 288 := 0;
    s.engineWork n.val = true ∧
      (∀ r ∈ s.faults.replays, r.core ≠ n.val) ∧
        s.odPending 28704 0 = none ∧
          s.odPending 28707 0 = none ∧ s.Calm 1 n.val) ∧
  (let s : State := DeviceFaultsStates.st 3;
    let n : Fin 288 := 0;
    s.engineWork n.val = true ∧
      (∀ r ∈ s.faults.replays, r.core ≠ n.val) ∧
        s.odPending 28704 0 = none ∧
          s.odPending 28707 0 = none ∧
            s.life.svc = Svc.green ∧
              s.faults.resets = [] ∧
                s.odPending 28736 0 = none ∧
                  s.odPending 28737 0 = none ∧ s.escalates = true) ∧
  (let s : State := DeviceFaultsStates.st 0;
    let i : Fin 372 := 0;
    let c : Fin 24 := 0;
    (i.val < 312 ∧ c.val = i.val / 13 ∨ i.val = 312 + c.val) ∧ s.Calm 2 c.val) ∧
  (let s : State := DeviceFaultsStates.st 0;
    let i : Fin 372 := 336;
    336 ≤ i.val ∧ s.Calm 4 0) ∧
  (let s : State := DeviceFaultsStates.st 0;
    let c : Fin 24 := 0;
    s.Calm 2 c.val) ∧
  (let s : State := DeviceFaultsStates.st 10;
    let q : Fin 1024 := 0;
    let i : ℕ := 3;
    let rest : List ℕ := [2];
    List.map (fun (x : Flight) => x.slot) (List.filter (fun (f : Flight) => f.ref.queue == q.val && !f.silent) s.disp.flights) ++
          List.map (fun (x : Fetched) => x.slot) (s.queue q.val).fetched =
        i :: rest ∧
      (s.queue q.val).stall = 0) ∧
  (let s : State := DeviceFaultsStates.st 2;
    let q : Fin 1024 := 0;
    let i : ℕ := 3;
    let rest : List ℕ := [2];
    List.map (fun (x : Flight) => x.slot) (List.filter (fun (f : Flight) => f.ref.queue == q.val && !f.silent) s.disp.flights) ++
          List.map (fun (x : Fetched) => x.slot) (s.queue q.val).fetched =
        i :: rest ∧
      (s.queue q.val).stall ≠ 0) := by
  refine ⟨?_, ?_, ?_, ?_, ?_, ?_, ?_⟩
  · simp only [State.Calm]; decide +kernel
  · decide +kernel
  · simp only [State.Calm]; decide +kernel
  · simp only [State.Calm]; decide +kernel
  · simp only [State.Calm]; decide +kernel
  · decide +kernel
  · decide +kernel

theorem test_hyps_DescriptorFlow_Dispatching :
  (let s : State := DispatchingStates.st 2;
    let q : ℕ := 0;
    let f : Fetched := { index := 0, slot := 2, bytes := ([6] ++ List.replicate 53 0 ++ [68, 128, 9] ++ List.replicate 7 0), since := some 0 };
    List.find? (fun (r : ℕ) => s.turn r != Turn.held) s.round = some q ∧
      (s.queue q).fetched.head? = some f ∧
        s.tearing (qPart q) = false ∧ s.flight? { queue := q, index := f.index : DescRef } = none ∧ s.turn q = Turn.go) ∧
  (let s : State := DispatchingStates.st 7;
    let q : ℕ := 0;
    let f : Fetched := { index := 0, slot := 2, bytes := ([1] ++ List.replicate 63 0), since := some 0 };
    List.find? (fun (r : ℕ) => s.turn r != Turn.held) s.round = some q ∧
      (s.queue q).fetched.head? = some f ∧
        s.tearing (qPart q) = false ∧
          s.flight? { queue := q, index := f.index : DescRef } = none ∧
            let k : ℕ := 7;
            s.turn q = Turn.ignore k) ∧
  (let s : State := DispatchingStates.st 8;
    let q : ℕ := 0;
    let f : Fetched := { index := 0, slot := 2, bytes := ([2] ++ List.replicate 42 0 ++ [5, 0, 0, 0, 0, 1] ++ List.replicate 10 0 ++ [32, 0, 0, 0, 0]), since := some 0 };
    List.find? (fun (r : ℕ) => s.turn r != Turn.held) s.round = some q ∧
      (s.queue q).fetched.head? = some f ∧
        s.tearing (qPart q) = false ∧
          s.flight? { queue := q, index := f.index : DescRef } = none ∧
            let u : ℕ := 1;
            s.turn q = Turn.isolated u) ∧
  (let s : State := DispatchingStates.st 0;
    let q : ℕ := 0;
    let f : Fetched := { index := 0, slot := 2, bytes := ([6] ++ List.replicate 53 0 ++ [68, 128, 9] ++ List.replicate 7 0), since := some 0 };
    List.find? (fun (r : ℕ) => s.turn r != Turn.held) s.round = some q ∧
      (s.queue q).fetched.head? = some f ∧
        s.tearing (qPart q) = false ∧
          s.flight? { queue := q, index := f.index : DescRef } = none ∧
            let u : ℕ := 1;
            s.turn q = Turn.unavailable u) := by
  refine ⟨?_, ?_, ?_, ?_⟩ <;>
    decide +kernel

theorem test_hyps_QueuesAndDoorbells_Doorbells :
  (let fn : Fin 17 := 0;
    let q : Fin 1024 := 0;
    let v : Word := 0#64;
    let s : State := DoorbellsStates.st 0;
    let x : Queue := s.queue q.val;
    let t' : ℕ := BitVec.toNat v % 2 ^ 16;
    s.serving (q.val / 64) = fn.val ∧
      (x.code = QCode.enabled ∨ x.code = QCode.stopped) ∧
        s.inService = true ∧ t' < x.slots ∧ ¬(t' + x.slots - x.head) % x.slots < x.fetchedSlots) ∧
  (let fn : Fin 17 := 0;
    let q : Fin 1024 := 0;
    let v : Word := 0#64;
    let s : State := DoorbellsStates.st 3;
    let x : Queue := s.queue q.val;
    let t' : ℕ := BitVec.toNat v % 2 ^ 16;
    s.serving (q.val / 64) = fn.val ∧
      let k : ℕ := 1;
      ¬((x.code = QCode.enabled ∨ x.code = QCode.stopped) ∧ s.inService = true) ∧ k = 1 ∨
        ((x.code = QCode.enabled ∨ x.code = QCode.stopped) ∧ s.inService = true) ∧ x.slots ≤ t' ∧ k = 2 ∨
          ((x.code = QCode.enabled ∨ x.code = QCode.stopped) ∧ s.inService = true) ∧
            t' < x.slots ∧ (t' + x.slots - x.head) % x.slots < x.fetchedSlots ∧ k = 3) := by
  refine ⟨?_, ?_⟩ <;>
    decide +kernel

theorem test_hyps_TensorEngine_EngineStart :
  (let n : Fin 288 := 0;
    let s : State := EngineStartStates.st 9;
    let q : QOp := { slot := 0, w := 0x5101000430000000#64, sa := 0#64, sb := 0#64, sd := 0#64, data := 0 };
    let rest : List QOp := [{ slot := 0, w := 0#64, sa := 0#64, sb := 0#64, sd := 0#64, data := 0 }, { slot := 1, w := 0#64, sa := 0#64, sb := 0#64, sd := 0#64, data := 0 }];
    let c : Core := s.core n.val;
    c.tRun = none ∧ c.tq = q :: rest ∧ fOp q.w ≠ 0 ∧ tStartFault c q = none) ∧
  (let n : Fin 288 := 0;
    let s : State := EngineStartStates.st 16;
    let q : QOp := { slot := 0, w := 0xd000000000000000#64, sa := 3#64, sb := 5#64, sd := 0#64, data := 0 };
    let rest : List QOp := [];
    let c : Core := s.core n.val;
    c.vRun = none ∧ c.vq = q :: rest ∧ vAddrFault (c.slot q.slot) q = none) ∧
  (let n : Fin 288 := 0;
    let s : State := EngineStartStates.st 10;
    let q : QOp := { slot := 0, w := 0x5101000430000000#64, sa := 0#64, sb := 0#64, sd := 0#64, data := 0 };
    let rest : List QOp := [{ slot := 0, w := 0#64, sa := 0#64, sb := 0#64, sd := 0#64, data := 0 }, { slot := 1, w := 0#64, sa := 0#64, sb := 0#64, sd := 0#64, data := 0 }];
    let c : Core := s.core n.val;
    let code : ℕ := 4;
    let info : ℕ := 0;
    c.tRun = none ∧
      c.tq = q :: rest ∧
        fOp q.w ≠ 0 ∧
          tStartFault c q = some (code, info) ∧ (c.slot q.slot).st ≠ CtxSt.empty ∧ (c.slot q.slot).st ≠ CtxSt.draining) := by
  refine ⟨?_, ?_, ?_⟩ <;>
    decide +kernel

theorem test_hyps_EpochAgents :
  (let s : State := EpochAgentsStates.st 1;
    let p : Pkt := { op := 6, vc := 0, dst := 33, src := 64, dpart := 0, spart := 3, win := 0, offset := 0, seq := 5, gen := 0, len := 16, ce := false, rcore := 0, rcnt := 0, mark := false, echo := false, dline := false, esc := false, reissue := false, dim := 0, status := 0, hops := 0, aux := 1048576, keyid := 0, reserved := 0, payload := ([5] ++ List.replicate 11 0 ++ [1, 0, 0, 0]), wrap := 0, ridx := 0, tag := 0, die := 0 };
    let g : ℕ := epGrp p;
    let a : Agent := s.agent g;
    let e : Ep := s.ep p.dpart;
    let n : ℕ := epNum p;
    let m : Mach := s.mach g n;
    let vote : Vote := { epoch := n, from_ := epFrom p, count := epCount p : Vote };
    (s.Arrives p fun (p : Pkt) => p.op == 6 && (epKind p == 0 || decide (epKind p ≥ 10))) ∧
      s.epKnown p = true ∧
        s.epMine p = true ∧
          e.st = MemSt.voted ∧
            e.sentUp = false ∧
              e.tree.rank = 0 ∧
                m.st = CoSt.collecting ∧ a.heldDec n = none ∧ childCount e (addVote a.votes vote) = some e.tree.n) ∧
  (let s : State := EpochAgentsStates.st 3;
    let p : Pkt := { op := 6, vc := 0, dst := 33, src := 64, dpart := 0, spart := 3, win := 0, offset := 0, seq := 5, gen := 0, len := 16, ce := false, rcore := 0, rcnt := 0, mark := false, echo := false, dline := false, esc := false, reissue := false, dim := 0, status := 0, hops := 0, aux := 1114112, keyid := 0, reserved := 0, payload := ([5] ++ List.replicate 8 0 ++ [3] ++ List.replicate 6 0), wrap := 0, ridx := 0, tag := 0, die := 0 };
    let g : ℕ := epGrp p;
    let a : Agent := s.agent g;
    let n : ℕ := epNum p;
    let m : Mach := s.mach g n;
    s.EpArrives 1 p ∧ s.gRank g = 0 ∧ m.st = CoSt.collecting ∧ a.heldDec n = none) ∧
  (let s : State := EpochAgentsStates.st 5;
    let p : Pkt := { op := 6, vc := 0, dst := 33, src := 64, dpart := 0, spart := 3, win := 0, offset := 0, seq := 5, gen := 0, len := 16, ce := false, rcore := 0, rcnt := 0, mark := false, echo := false, dline := false, esc := false, reissue := false, dim := 0, status := 0, hops := 0, aux := 1179649, keyid := 0, reserved := 0, payload := ([5] ++ List.replicate 7 0 ++ [1] ++ List.replicate 7 0), wrap := 0, ridx := 0, tag := 0, die := 0 };
    let g : ℕ := epGrp p;
    let a : Agent := s.agent g;
    let n : ℕ := epNum p;
    s.EpArrives 2 p ∧ tget 0 a.promised n ≤ epTerm p) ∧
  (let s : State := EpochAgentsStates.st 6;
    let p : Pkt := { op := 6, vc := 0, dst := 33, src := 64, dpart := 0, spart := 3, win := 0, offset := 0, seq := 5, gen := 0, len := 16, ce := false, rcore := 0, rcnt := 0, mark := false, echo := false, dline := false, esc := false, reissue := false, dim := 0, status := 0, hops := 0, aux := 1179649, keyid := 0, reserved := 0, payload := ([5] ++ List.replicate 7 0 ++ [1] ++ List.replicate 7 0), wrap := 0, ridx := 0, tag := 0, die := 0 };
    let g : ℕ := epGrp p;
    let a : Agent := s.agent g;
    let n : ℕ := epNum p;
    s.EpArrives 2 p ∧ epTerm p < tget 0 a.promised n) ∧
  (let s : State := EpochAgentsStates.st 8;
    let p : Pkt := { op := 6, vc := 0, dst := 33, src := 64, dpart := 0, spart := 3, win := 0, offset := 0, seq := 5, gen := 0, len := 16, ce := false, rcore := 0, rcnt := 0, mark := false, echo := false, dline := false, esc := false, reissue := false, dim := 0, status := 0, hops := 0, aux := 1245187, keyid := 0, reserved := 0, payload := ([5] ++ List.replicate 15 0), wrap := 0, ridx := 0, tag := 0, die := 0 };
    let g : ℕ := epGrp p;
    let a : Agent := s.agent g;
    let n : ℕ := epNum p;
    s.EpArrives 3 p ∧ tget 0 a.promised n ≤ epTerm p) ∧
  (let s : State := EpochAgentsStates.st 9;
    let p : Pkt := { op := 6, vc := 0, dst := 33, src := 64, dpart := 0, spart := 3, win := 0, offset := 0, seq := 5, gen := 0, len := 16, ce := false, rcore := 0, rcnt := 0, mark := false, echo := false, dline := false, esc := false, reissue := false, dim := 0, status := 0, hops := 0, aux := 1310721, keyid := 0, reserved := 0, payload := ([5] ++ List.replicate 7 0 ++ [1, 0, 1, 0, 0, 0, 0, 0]), wrap := 0, ridx := 0, tag := 0, die := 0 };
    let g : ℕ := epGrp p;
    let n : ℕ := epNum p;
    let m : Mach := s.mach g n;
    let tr : Machine.Tree := { gen := 0, n := 4, rank := 1, parent := 3145808, child := [], succ := [33, 3145793, 3145792, 3145794] };
    let k : ℕ := 2;
    s.EpArrives 4 p ∧
      s.treeFor g = some tr ∧
        List.idxOf? (epFrom p) tr.succ = some k ∧
          k ≠ 0 ∧ m.st = CoSt.taking ∧ (∀ q ∈ m.promises, q.rank ≠ k) ∧ m.promises.length + 1 < tr.quorum) ∧
  (let s : State := EpochAgentsStates.st 10;
    let p : Pkt := { op := 6, vc := 0, dst := 33, src := 64, dpart := 0, spart := 3, win := 0, offset := 0, seq := 5, gen := 0, len := 16, ce := false, rcore := 0, rcnt := 0, mark := false, echo := false, dline := false, esc := false, reissue := false, dim := 0, status := 0, hops := 0, aux := 1310721, keyid := 0, reserved := 0, payload := ([5] ++ List.replicate 15 0), wrap := 0, ridx := 0, tag := 0, die := 0 };
    let g : ℕ := epGrp p;
    let a : Agent := s.agent g;
    let n : ℕ := epNum p;
    let m : Mach := s.mach g n;
    let tr : Machine.Tree := { gen := 0, n := 4, rank := 1, parent := 3145808, child := [], succ := [33, 3145793, 3145792, 3145794] };
    let k : ℕ := 2;
    s.EpArrives 4 p ∧
      s.treeFor g = some tr ∧
        List.idxOf? (epFrom p) tr.succ = some k ∧
          k ≠ 0 ∧
            m.st = CoSt.taking ∧
              (∀ q ∈ m.promises, q.rank ≠ k) ∧
                tr.quorum ≤ m.promises.length + 1 ∧
                  (∀ q ∈ m.promises, q.value = 0) ∧ epValue p = 0 ∧ a.heldDec n = none) ∧
  (let s : State := EpochAgentsStates.st 12;
    let p : Pkt := { op := 6, vc := 0, dst := 33, src := 64, dpart := 0, spart := 3, win := 0, offset := 0, seq := 5, gen := 0, len := 16, ce := false, rcore := 0, rcnt := 0, mark := false, echo := false, dline := false, esc := false, reissue := false, dim := 0, status := 0, hops := 0, aux := 1441792, keyid := 0, reserved := 0, payload := ([5] ++ List.replicate 15 0), wrap := 0, ridx := 0, tag := 0, die := 0 };
    let g : ℕ := epGrp p;
    let a : Agent := s.agent g;
    let n : ℕ := epNum p;
    let d : Dec := { epoch := 5, value := 1, cause := 0, term := 0 };
    s.EpArrives 6 p ∧ a.heldDec n = some d) ∧
  (let s : State := EpochAgentsStates.st 13;
    let p : Pkt := { op := 6, vc := 0, dst := 33, src := 64, dpart := 0, spart := 3, win := 0, offset := 0, seq := 5, gen := 0, len := 16, ce := false, rcore := 0, rcnt := 0, mark := false, echo := false, dline := false, esc := false, reissue := false, dim := 0, status := 0, hops := 0, aux := 1572864, keyid := 0, reserved := 0, payload := ([5] ++ List.replicate 11 0 ++ [1, 0, 0, 0]), wrap := 0, ridx := 0, tag := 0, die := 0 };
    s.EpArrives 8 p) := by
  refine ⟨?_, ?_, ?_, ?_, ?_, ?_, ?_, ?_, ?_⟩
  · simp only [State.Arrives]; decide +kernel
  · simp only [State.Arrives, State.EpArrives]; decide +kernel
  · simp only [State.Arrives, State.EpArrives]; decide +kernel
  · simp only [State.Arrives, State.EpArrives]; decide +kernel
  · simp only [State.Arrives, State.EpArrives]; decide +kernel
  · simp only [State.Arrives, State.EpArrives]; decide +kernel
  · simp only [State.Arrives, State.EpArrives]; decide +kernel
  · simp only [State.Arrives, State.EpArrives]; decide +kernel
  · simp only [State.Arrives, State.EpArrives]; decide +kernel

theorem test_hyps_EpochMemory_EpochDeliveries :
  (let p : Fin 16 := 0;
    let s : State := EpochDeliveriesStates.st 0;
    let e : Ep := s.ep p.val;
    ∃ r ∈ e.beginDesc.toList, p.val ∈ s.memory.delivering ∧ (s.agent e.group).heldDec e.epoch = none ∧ e.tree.rank ≠ 0) ∧
  (let p : Fin 16 := 0;
    let s : State := EpochDeliveriesStates.st 1;
    ∃ d ∈ (List.find? (fun (d : ℕ × Bool) => d.1 == p.val) s.memory.deciding).toList, True) := by
  refine ⟨?_, ?_⟩ <;>
    decide +kernel

theorem test_hyps_DescriptorKinds_EpochDescriptors :
  (let s : State := EpochDescriptorsStates.st 0;
    let q : ℕ := 0;
    let f : Fetched := { index := 0, slot := 2, bytes := ([7] ++ List.replicate 53 0 ++ [80] ++ List.replicate 7 0 ++ [16, 0]), since := some 0 };
    let d : ℕ := dNum f.bytes;
    s.Front q 7 f ∧ s.gSt (epGroup d) ≠ 0) ∧
  (let s : State := EpochDescriptorsStates.st 35;
    let q : ℕ := 0;
    let f : Fetched := { index := 0, slot := 2, bytes := ([7] ++ List.replicate 53 0 ++ [80] ++ List.replicate 7 0 ++ [16, 0]), since := some 0 };
    let d : ℕ := dNum f.bytes;
    s.Front q 7 f ∧ s.gSt (epGroup d) = 0) ∧
  (let s : State := EpochDescriptorsStates.st 37;
    let q : ℕ := 0;
    let f : Fetched := { index := 0, slot := 2, bytes := ([8] ++ List.replicate 53 0 ++ [80] ++ List.replicate 7 0 ++ [16, 0]), since := some 0 };
    let d : ℕ := dNum f.bytes;
    let p : ℕ := qPart q;
    let e : Ep := s.ep p;
    s.Front q 8 f ∧ e.st = MemSt.opened ∧ e.failed = false ∧ epAbort d = false ∧ e.tree.rank ≠ 0) ∧
  (let s : State := EpochDescriptorsStates.st 38;
    let q : ℕ := 0;
    let f : Fetched := { index := 0, slot := 2, bytes := ([8] ++ List.replicate 53 0 ++ [88] ++ List.replicate 7 0 ++ [16, 0]), since := some 0 };
    let d : ℕ := dNum f.bytes;
    let p : ℕ := qPart q;
    let e : Ep := s.ep p;
    s.Front q 8 f ∧
      (e.st = MemSt.doomed ∨ e.st = MemSt.opened ∧ e.tree.rank ≠ 0 ∧ (epAbort d = true ∨ e.failed = true))) := by
  refine ⟨?_, ?_, ?_, ?_⟩ <;>
    (simp only [State.Front]; decide +kernel)

theorem test_hyps_EpochMembers_EpochMembers :
  (let s : State := EpochMembersStates.st 0;
    let p : Pkt := { op := 6, vc := 0, dst := 33, src := 64, dpart := 0, spart := 3, win := 0, offset := 0, seq := 5, gen := 0, len := 16, ce := false, rcore := 0, rcnt := 0, mark := false, echo := false, dline := false, esc := false, reissue := false, dim := 0, status := 0, hops := 0, aux := 1376256, keyid := 0, reserved := 0, payload := ([5] ++ List.replicate 7 0 ++ [1] ++ List.replicate 7 0), wrap := 0, ridx := 0, tag := 0, die := 0 };
    let g : ℕ := epGrp p;
    let e : Ep := s.ep p.dpart;
    let n : ℕ := epNum p;
    s.EpArrives 5 p ∧
      s.epMine p = true ∧ (e.st = MemSt.voted ∨ e.st = MemSt.inDoubt) ∧ (s.agent g).heldDec n = none ∧ epValue p = 1) ∧
  (let s : State := EpochMembersStates.st 1;
    let p : Pkt := { op := 6, vc := 0, dst := 33, src := 64, dpart := 0, spart := 3, win := 0, offset := 0, seq := 5, gen := 0, len := 16, ce := false, rcore := 0, rcnt := 0, mark := false, echo := false, dline := false, esc := false, reissue := false, dim := 0, status := 0, hops := 0, aux := 1376256, keyid := 0, reserved := 0, payload := ([5] ++ List.replicate 7 0 ++ [2, 3] ++ List.replicate 6 0), wrap := 0, ridx := 0, tag := 0, die := 0 };
    let g : ℕ := epGrp p;
    let e : Ep := s.ep p.dpart;
    let n : ℕ := epNum p;
    s.EpArrives 5 p ∧
      s.epMine p = true ∧ (e.st = MemSt.voted ∨ e.st = MemSt.inDoubt) ∧ (s.agent g).heldDec n = none ∧ epValue p = 2) ∧
  (let s : State := EpochMembersStates.st 2;
    let p : Pkt := { op := 6, vc := 0, dst := 33, src := 64, dpart := 0, spart := 3, win := 0, offset := 0, seq := 5, gen := 0, len := 16, ce := false, rcore := 0, rcnt := 0, mark := false, echo := false, dline := false, esc := false, reissue := false, dim := 0, status := 0, hops := 0, aux := 1507328, keyid := 0, reserved := 0, payload := ([5] ++ List.replicate 7 0 ++ [1] ++ List.replicate 7 0), wrap := 0, ridx := 0, tag := 0, die := 0 };
    let g : ℕ := epGrp p;
    let e : Ep := s.ep p.dpart;
    let n : ℕ := epNum p;
    s.EpArrives 7 p ∧
      s.epMine p = true ∧ (e.st = MemSt.voted ∨ e.st = MemSt.inDoubt) ∧ (s.agent g).heldDec n = none ∧ epValue p = 1) ∧
  (let s : State := EpochMembersStates.st 3;
    let p : Pkt := { op := 6, vc := 0, dst := 33, src := 64, dpart := 0, spart := 3, win := 0, offset := 0, seq := 5, gen := 0, len := 16, ce := false, rcore := 0, rcnt := 0, mark := false, echo := false, dline := false, esc := false, reissue := false, dim := 0, status := 0, hops := 0, aux := 1507328, keyid := 0, reserved := 0, payload := ([5] ++ List.replicate 7 0 ++ [2] ++ List.replicate 7 0), wrap := 0, ridx := 0, tag := 0, die := 0 };
    let g : ℕ := epGrp p;
    let e : Ep := s.ep p.dpart;
    let n : ℕ := epNum p;
    s.EpArrives 7 p ∧
      s.epMine p = true ∧ (e.st = MemSt.voted ∨ e.st = MemSt.inDoubt) ∧ (s.agent g).heldDec n = none ∧ epValue p = 2) ∧
  (let s : State := EpochMembersStates.st 4;
    let p : Pkt := { op := 6, vc := 0, dst := 33, src := 64, dpart := 0, spart := 3, win := 0, offset := 0, seq := 5, gen := 0, len := 16, ce := false, rcore := 0, rcnt := 0, mark := false, echo := false, dline := false, esc := false, reissue := false, dim := 0, status := 0, hops := 0, aux := 1507328, keyid := 0, reserved := 0, payload := ([5] ++ List.replicate 15 0), wrap := 0, ridx := 0, tag := 0, die := 0 };
    let e : Ep := s.ep p.dpart;
    s.EpArrives 7 p ∧
      s.epMine p = true ∧ e.st = MemSt.inDoubt ∧ (epValue p = 0 ∨ epValue p = 3)) ∧
  (let s : State := EpochMembersStates.st 7;
    let p : Pkt := { op := 6, vc := 0, dst := 33, src := 64, dpart := 0, spart := 3, win := 0, offset := 0, seq := 5, gen := 0, len := 16, ce := false, rcore := 0, rcnt := 0, mark := false, echo := false, dline := false, esc := false, reissue := false, dim := 0, status := 0, hops := 0, aux := 1638400, keyid := 0, reserved := 0, payload := ([5] ++ List.replicate 15 0), wrap := 0, ridx := 0, tag := 0, die := 0 };
    let e : Ep := s.ep p.dpart;
    s.EpArrives 9 p ∧ s.epMine p = true ∧ e.st = MemSt.fenced) ∧
  (let s : State := EpochMembersStates.st 8;
    let p : Pkt := { op := 6, vc := 0, dst := 33, src := 64, dpart := 0, spart := 3, win := 0, offset := 0, seq := 5, gen := 0, len := 16, ce := false, rcore := 0, rcnt := 0, mark := false, echo := false, dline := false, esc := false, reissue := false, dim := 0, status := 0, hops := 0, aux := 1638400, keyid := 0, reserved := 0, payload := ([5] ++ List.replicate 15 0), wrap := 0, ridx := 0, tag := 0, die := 0 };
    let e : Ep := s.ep p.dpart;
    s.EpArrives 9 p ∧ s.epMine p = true ∧ e.st = MemSt.restoring) := by
  refine ⟨?_, ?_, ?_, ?_, ?_, ?_, ?_⟩ <;>
    (simp only [State.Arrives, State.EpArrives]; decide +kernel)

theorem test_hyps_EpochMembers_EpochTimers :
  (let g : Fin 4096 := 1;
    let s : State := EpochMembersStates.st 9;
    let a : Agent := s.agent g.val;
    s.fabric.stopped = false ∧
      ∃ m ∈ ((fun (q : Mach → Bool) => List.find? q a.machs) fun (m : Mach) => m.st == CoSt.collecting).toList,
        a.heldDec m.epoch = none) ∧
  (let g : Fin 4096 := 1;
    let s : State := EpochMembersStates.st 0;
    let p : ℕ := s.agentPart g.val;
    let e : Ep := s.ep p;
    s.fabric.stopped = false ∧ e.group = g.val ∧ e.st = MemSt.voted) ∧
  (let g : Fin 4096 := 1;
    let s : State := EpochMembersStates.st 11;
    let a : Agent := s.agent g.val;
    s.fabric.stopped = false ∧
      ∃
        m ∈
          ((fun (q : Mach → Bool) => List.find? q a.machs) fun (m : Mach) =>
              m.st == CoSt.recording || m.st == CoSt.taking || m.st == CoSt.deferred && !s.doubts g.val m.epoch).toList,
        m.st = CoSt.recording) ∧
  (let g : Fin 4096 := 1;
    let s : State := EpochMembersStates.st 7;
    let p : ℕ := s.agentPart g.val;
    let e : Ep := s.ep p;
    s.fabric.stopped = false ∧ e.group = g.val ∧ e.st = MemSt.fenced) ∧
  (let s : State := EpochMembersStates.st 12;
    s.fabric.stopped = false) := by
  refine ⟨?_, ?_, ?_, ?_, ?_⟩ <;>
    decide +kernel

theorem test_hyps_FabricEnds_FabricReplies :
  (let s : State := FabricRepliesStates.st 0;
    let p : Pkt := { op := 3, vc := 0, dst := 33, src := 64, dpart := 0, spart := 3, win := 0, offset := 0, seq := 5, gen := 0, len := 0, ce := false, rcore := 0, rcnt := 0, mark := false, echo := false, dline := false, esc := false, reissue := false, dim := 0, status := 0, hops := 0, aux := 0, keyid := 0, reserved := 0, payload := [], wrap := 0, ridx := 0, tag := 0, die := 0 };
    let r : Req := { pkt := { op := 0, vc := 0, dst := 64, src := 33, dpart := 2, spart := 3, win := 0, offset := 0, seq := 5, gen := 0, len := 1, ce := false, rcore := 0, rcnt := 0, mark := false, echo := false, dline := false, esc := false, reissue := false, dim := 0, status := 0, hops := 0, aux := 0, keyid := 0, reserved := 0, payload := [1], wrap := 0, ridx := 0, tag := 0, die := 0 }, owner := ReqOwner.mop 0 5, tries := 1, at_ := 0, limit := 4, timeout := 100 };
    let n : ℕ := 0;
    let id : ℕ := 5;
    let m : MOp := { id := 5, slot := 0, w := 0x8000000000000000#64, d := 0#64, d1 := 0#64, s := 0#64, s1 := 0#64, l := 0#64, phase := MPhase.started, left := 3, err := 0, errInfo := 0 };
    s.mop? n id = some m ∧ s.Reply p 3 r ∧ r.owner = ReqOwner.mop n id) ∧
  (let s : State := FabricRepliesStates.st 1;
    let p : Pkt := { op := 2, vc := 0, dst := 33, src := 64, dpart := 0, spart := 3, win := 0, offset := 0, seq := 5, gen := 0, len := 3, ce := false, rcore := 0, rcnt := 0, mark := false, echo := false, dline := false, esc := false, reissue := false, dim := 0, status := 0, hops := 0, aux := 0, keyid := 0, reserved := 0, payload := [7, 8, 9], wrap := 0, ridx := 0, tag := 0, die := 0 };
    let r : Req := { pkt := { op := 0, vc := 0, dst := 64, src := 33, dpart := 2, spart := 3, win := 0, offset := 0, seq := 5, gen := 0, len := 1, ce := false, rcore := 0, rcnt := 0, mark := false, echo := false, dline := false, esc := false, reissue := false, dim := 0, status := 0, hops := 0, aux := 0, keyid := 0, reserved := 0, payload := [1], wrap := 0, ridx := 0, tag := 0, die := 0 }, owner := ReqOwner.get 0 5 4096, tries := 1, at_ := 0, limit := 4, timeout := 100 };
    let n : ℕ := 0;
    let id : ℕ := 5;
    let m : MOp := { id := 5, slot := 0, w := 0x8000000000000000#64, d := 0#64, d1 := 0#64, s := 0#64, s1 := 0#64, l := 0#64, phase := MPhase.started, left := 3, err := 0, errInfo := 0 };
    s.mop? n id = some m ∧
      let dst : ℕ := 4096;
      s.Reply p 2 r ∧
        r.owner = ReqOwner.get n id dst ∧
          s.access (Who.dma n) (s.slotPart n m.slot) dst p.payload.length true = Acc.ok ∧
            (∀ i < p.payload.length, ∀ (k o : ℕ), s.region (dst + i) ≠ Region.coreCtl k o) ∧
              s.mBehind n id (s.plain (s.slotPart n m.slot) dst p.payload.length) = false) ∧
  (let s : State := FabricRepliesStates.st 2;
    let p : Pkt := { op := 7, vc := 0, dst := 33, src := 64, dpart := 0, spart := 3, win := 0, offset := 0, seq := 5, gen := 0, len := 0, ce := false, rcore := 0, rcnt := 0, mark := false, echo := false, dline := false, esc := false, reissue := false, dim := 0, status := 1, hops := 0, aux := 0, keyid := 0, reserved := 0, payload := [], wrap := 0, ridx := 0, tag := 0, die := 0 };
    let r : Req := { pkt := { op := 0, vc := 0, dst := 64, src := 33, dpart := 2, spart := 3, win := 0, offset := 0, seq := 5, gen := 0, len := 1, ce := false, rcore := 0, rcnt := 0, mark := false, echo := false, dline := false, esc := false, reissue := false, dim := 0, status := 0, hops := 0, aux := 0, keyid := 0, reserved := 0, payload := [1], wrap := 0, ridx := 0, tag := 0, die := 0 }, owner := ReqOwner.mop 0 5, tries := 1, at_ := 0, limit := 4, timeout := 100 };
    let n : ℕ := 0;
    let id : ℕ := 5;
    let m : MOp := { id := 5, slot := 0, w := 0x8000000000000000#64, d := 0#64, d1 := 0#64, s := 0#64, s1 := 0#64, l := 0#64, phase := MPhase.started, left := 3, err := 0, errInfo := 0 };
    s.mop? n id = some m ∧
      let st : ℕ := 1;
      let code : ℕ := 8;
      (st, code) ∈
          [(1, 8), (2, 10), (3, 11),
            (4, 12), (7, 9)] ∧
        s.Reply p 7 r ∧
          r.owner = ReqOwner.mop n id ∧
            p.status = st ∧
              m.err = 0 ∧
                ((s.core n).slot m.slot).st ∉ [CtxSt.empty, CtxSt.draining] ∧ (s.ep r.pkt.spart).st = MemSt.closed) ∧
  (let s : State := FabricRepliesStates.st 4;
    let p : Pkt := { op := 7, vc := 0, dst := 33, src := 64, dpart := 0, spart := 3, win := 0, offset := 0, seq := 5, gen := 0, len := 0, ce := false, rcore := 0, rcnt := 0, mark := false, echo := false, dline := false, esc := false, reissue := false, dim := 0, status := 5, hops := 0, aux := 0, keyid := 0, reserved := 0, payload := [], wrap := 0, ridx := 0, tag := 0, die := 0 };
    let r : Req := { pkt := { op := 0, vc := 0, dst := 64, src := 33, dpart := 2, spart := 3, win := 0, offset := 0, seq := 5, gen := 0, len := 1, ce := false, rcore := 0, rcnt := 0, mark := false, echo := false, dline := false, esc := false, reissue := false, dim := 0, status := 0, hops := 0, aux := 0, keyid := 0, reserved := 0, payload := [1], wrap := 0, ridx := 0, tag := 0, die := 0 }, owner := ReqOwner.mop 0 5, tries := 1, at_ := 0, limit := 4, timeout := 100 };
    let n : ℕ := 0;
    let id : ℕ := 5;
    let m : MOp := { id := 5, slot := 0, w := 0x8000000000000000#64, d := 0#64, d1 := 0#64, s := 0#64, s1 := 0#64, l := 0#64, phase := MPhase.started, left := 3, err := 0, errInfo := 0 };
    s.mop? n id = some m ∧ s.Reply p 7 r ∧ p.status = 5 ∧ r.tries < r.limit) := by
  refine ⟨?_, ?_, ?_, ?_⟩
  · simp only [State.Reply]; decide +kernel
  · simp only [State.Reply, not_ctl_iff]; decide +kernel
  · simp only [State.Reply]; decide +kernel
  · simp only [State.Reply]; decide +kernel

theorem test_hyps_FabricArrivals_FabricRequests :
  (let s : State := FabricRequestsBStates.st 7;
    let p : Pkt := { op := 0, vc := 0, dst := 33, src := 64, dpart := 0, spart := 3, win := 3, offset := 8, seq := 5, gen := 0, len := 3, ce := false, rcore := 0, rcnt := 0, mark := false, echo := false, dline := false, esc := false, reissue := false, dim := 0, status := 0, hops := 0, aux := 0, keyid := 0, reserved := 0, payload := [1, 2, 3], wrap := 0, ridx := 0, tag := 0, die := 0 };
    let a : ℕ := 1099511627784;
    s.sealed (clusterOf p.rcore) 17 = false ∧
      (s.Arrives p fun (p : Pkt) => p.op == 0) ∧
        s.sealedAt a = false ∧
          s.targetReset p.dpart a = none ∧
            s.refusal p = none ∧
              s.windowAt p 1 = some a ∧
                s.refusedWrite p.dpart a p.payload.length = false ∧
                  s.access Who.fabric p.dpart a p.payload.length true = Acc.ok ∧
                    s.onChip a p.payload.length = true ∧ partGranule a p.payload.length = true) ∧
  (let s : State := FabricRequestsBStates.st 8;
    let p : Pkt := { op := 1, vc := 0, dst := 33, src := 64, dpart := 0, spart := 3, win := 3, offset := 8, seq := 5, gen := 0, len := 16, ce := false, rcore := 0, rcnt := 0, mark := false, echo := false, dline := false, esc := false, reissue := false, dim := 0, status := 0, hops := 0, aux := 0, keyid := 0, reserved := 0, payload := [], wrap := 0, ridx := 0, tag := 0, die := 0 };
    let a : ℕ := 1099511627784;
    s.sealed (clusterOf p.rcore) 17 = false ∧
      (s.Arrives p fun (p : Pkt) => p.op == 1) ∧
        s.sealedAt a = false ∧
          s.targetReset p.dpart a = none ∧
            s.refusal p = none ∧
              s.windowAt p 0 = some a ∧ s.access Who.fabric p.dpart a p.len false = Acc.ok ∧ s.onChip a p.len = true) ∧
  (let s : State := FabricRequestsBStates.st 4;
    let p : Pkt := { op := 4, vc := 0, dst := 33, src := 64, dpart := 0, spart := 3, win := 0, offset := 0, seq := 5, gen := 0, len := 8, ce := false, rcore := 1, rcnt := 3, mark := false, echo := false, dline := false, esc := false, reissue := false, dim := 0, status := 0, hops := 0, aux := 0, keyid := 0, reserved := 0, payload := ([77] ++ List.replicate 7 0), wrap := 0, ridx := 0, tag := 0, die := 0 };
    s.sealed (clusterOf p.rcore) 17 = false ∧
      (s.Arrives p fun (p : Pkt) => p.op == 4 && !p.isPace) ∧
        s.refusal p = none ∧ p.rcore < 288 ∧ s.coreBlocked p.rcore = false) ∧
  (let s : State := FabricRequestsBStates.st 5;
    let p : Pkt := { op := 0, vc := 0, dst := 33, src := 64, dpart := 0, spart := 3, win := 3, offset := 0, seq := 5, gen := 0, len := 1, ce := false, rcore := 0, rcnt := 0, mark := false, echo := false, dline := false, esc := false, reissue := false, dim := 0, status := 0, hops := 0, aux := 0, keyid := 0, reserved := 0, payload := [1], wrap := 0, ridx := 0, tag := 0, die := 0 };
    s.sealed (clusterOf p.rcore) 17 = false ∧
      (s.Arrives p fun (p : Pkt) => p.op == 0) ∧ s.refusal p = none ∧ s.windowAt p 1 = none) ∧
  (let s : State := FabricRequestsBStates.st 6;
    let p : Pkt := { op := 1, vc := 0, dst := 33, src := 64, dpart := 0, spart := 3, win := 2, offset := 4096, seq := 5, gen := 0, len := 1, ce := false, rcore := 0, rcnt := 0, mark := false, echo := false, dline := false, esc := false, reissue := false, dim := 0, status := 0, hops := 0, aux := 0, keyid := 0, reserved := 0, payload := [], wrap := 0, ridx := 0, tag := 0, die := 0 };
    s.sealed (clusterOf p.rcore) 17 = false ∧
      (s.Arrives p fun (p : Pkt) => p.op == 1) ∧ s.refusal p = none ∧ s.windowAt p 0 = none) ∧
  (let s : State := locked;
        let x : Pkt := { sealedPk with win := 2, offset := 16, payload := [1, 2, 3] };
        s.fabric.inbox.find? (fun y => (s.clear y).op == 0) = some x ∧ s.opened x = Except.error 2 ∧
          s.inService = true ∧ s.life.removal = 0 ∧ (s.escapeMode = true → s.storedReplies ≤ Config.replyStore)) := by
  refine ⟨?_, ?_, ?_, ?_, ?_, ?_⟩
  · simp only [State.Arrives]; decide +kernel
  · simp only [State.Arrives]; decide +kernel
  · simp only [State.Arrives]; decide +kernel
  · simp only [State.Arrives]; decide +kernel
  · simp only [State.Arrives]; decide +kernel
  · decide +kernel

theorem test_hyps_FabricTiming_FabricTime :
  (let n : Fin 12 := 0;
    let s : State := FabricTimeStates.st 4;
    s.linkUp n.val = true) ∧
  (let n : Fin 12 := 0;
    let s : State := FabricTimeStates.st 4;
    let m : List Byte := ([8, 160, 15] ++ List.replicate 6 0 ++ [184, 11] ++ List.replicate 6 0 ++ [148, 17] ++ List.replicate 7 0 ++ [1] ++ List.replicate 208 0);
    let rest : List (List Byte) := [];
    let t3 : ℕ := fieldAt m 1 8;
    let t1 : ℕ := fieldAt m 9 8;
    let t2 : ℕ := fieldAt m 17 8;
    let ps : ℤ := 500 * (t2.cast - t1.cast - (s.fab.cast - t3.cast));
    s.Message n.val 8 m rest ∧
      (s.timeHeard n m rest).ftime.parent = some n.val ∧
        (t1 ≠ 0 ∨ t2 ≠ 0) ∧ ps.natAbs ≤ 10000000) ∧
  (let n : Fin 12 := 0;
    let s : State := FabricTimeStates.st 6;
    let m : List Byte := ([8, 160, 15] ++ List.replicate 6 0 ++ [160, 15] ++ List.replicate 7 0 ++ [90, 98, 2, 0, 0, 0, 0, 0, 1] ++ List.replicate 208 0);
    let rest : List (List Byte) := [];
    let t3 : ℕ := fieldAt m 1 8;
    let t1 : ℕ := fieldAt m 9 8;
    let t2 : ℕ := fieldAt m 17 8;
    let ps : ℤ := 500 * (t2.cast - t1.cast - (s.fab.cast - t3.cast));
    s.Message n.val 8 m rest ∧
      (s.timeHeard n m rest).ftime.parent = some n.val ∧
        (t1 ≠ 0 ∨ t2 ≠ 0) ∧ 10000000 < ps.natAbs) := by
  refine ⟨?_, ?_, ?_⟩
  · decide +kernel
  · simp only [State.Message]; decide +kernel
  · simp only [State.Message]; decide +kernel

theorem test_hyps_FabricTiming_FlowTimers :
  (let s : State := FabricTimeStates.st 3;
        let w : Win := FabricTimeStates.w1 0x40 0;
        w ∈ s.fabric.wins ∧ w.src = (0x40 : BitVec 20).toNat ∧ w.spart = (0 : Fin 16).val) ∧
  (let s : State := FabricTimeStates.st 3;
        let l : Limiter := FabricTimeStates.l1 0x40 0 false 400_000_000_000;
        l ∈ s.fabric.limiters ∧ l.dst = (0x40 : BitVec 20).toNat ∧ l.spart = (0 : Fin 16).val) ∧
  (let d : BitVec 20 := 64#20;
    let p : Fin 16 := 0;
    let s : State := FabricTimeStates.st 3;
    ∃ l ∈ (List.find? (Limiter.is d.toNat p.val) s.fabric.limiters).toList,
      s.odPending 18435 0 = none ∧ s.odPending 18436 0 = none) := by
  refine ⟨?_, ?_, ?_⟩ <;>
    decide +kernel

theorem test_hyps_HostRegisters_FunctionRegisters :
  (let fn : Fin 17 := 16;
    let s : State := FunctionRegistersStates.st 0;
    ¬s.hasFn fn.val = true) ∧
  (let fn : Fin 17 := 0;
    let s : State := FunctionRegistersStates.st 0;
    s.hasFn fn.val = true ∧ s.fnOpen fn.val = false) ∧
  (let fn : Fin 17 := 0;
    let s : State := FunctionRegistersStates.st 0;
    s.hasFn fn.val = true) ∧
  (let fn : Fin 17 := 0;
    let v : Word := 0#64;
    let s : State := FunctionRegistersStates.st 2;
    s.hasFn fn.val = true ∧
      s.serving (BitVec.toNat v % 16) = fn.val ∧ (fn.val = 0 ∨ s.frozen (fn.val - 1) = false)) ∧
  (let fn : Fin 17 := 0;
    let v : Word := 0#64;
    let s : State := FunctionRegistersStates.st 0;
    s.hasFn fn.val = true ∧
      s.serving (BitVec.toNat v % 16) ≠ fn.val ∧ (fn.val = 0 ∨ s.frozen (fn.val - 1) = false)) := by
  refine ⟨?_, ?_, ?_, ?_, ?_⟩ <;>
    decide +kernel

theorem test_hyps_HostFunctions_FunctionResets :
  (let fn : Fin 17 := 1;
    let s : State := FunctionResetsStates.st 1;
    s.hasFn fn.val = true ∧ fn.val ≠ 0) ∧
  (let r : Fin 7 := 1;
    let w : Fin 17 := 1;
    let s : State := FunctionResetsStates.st 0;
    s.life.powerGood = true ∧
      (s.activeRuns = true ∨ bit 1 (s.odNum 8195 0) = true) ∧
        1 ≤ r.val ∧
          r.val ≤ s.odLive 36867 0 ∧
            w.val ∈ [1, 2, 4, 8, 16]) := by
  refine ⟨?_, ?_⟩ <;>
    decide +kernel

theorem test_hyps_Resets_GuiltySearch :
  (let n : Fin 288 := 0;
    let s : State := GuiltySearchStates.st 11;
    let r : Replay := { core := 0, todo := [{ slot := 0, launch := { desc := { queue := 0, index := 0 }, prog := 0, base := 0, len := 3, grant := 0#64, acc0 := false, acc1 := false, seed := 0#64, args := [], part := 0, gen := 0, replay := false }, hung := false }, { slot := 2, launch := { desc := { queue := 0, index := 2 }, prog := 0, base := 10, len := 3, grant := 0#64, acc0 := false, acc1 := false, seed := 0#64, args := [], part := 0, gen := 0, replay := false }, hung := false }], cur := none, past := [], start := 5 };
    let x : Suspect := { slot := 0, launch := { desc := { queue := 0, index := 0 }, prog := 0, base := 0, len := 3, grant := 0#64, acc0 := false, acc1 := false, seed := 0#64, args := [], part := 0, gen := 0, replay := false }, hung := false };
    s.replayOf n.val = some r ∧
      let rest : List Suspect := [{ slot := 2, launch := { desc := { queue := 0, index := 2 }, prog := 0, base := 10, len := 3, grant := 0#64, acc0 := false, acc1 := false, seed := 0#64, args := [], part := 0, gen := 0, replay := false }, hung := false }];
      r.cur = none ∧ r.todo = x :: rest ∧ s.coreBlocked n.val = false ∧ ∀ y ∈ s.faults.replays, y.cur = none) ∧
  (let n : Fin 288 := 0;
    let s : State := GuiltySearchStates.st 12;
    let r : Replay := { core := 0, todo := [{ slot := 2, launch := { desc := { queue := 0, index := 2 }, prog := 0, base := 10, len := 3, grant := 0#64, acc0 := false, acc1 := false, seed := 0#64, args := [], part := 0, gen := 0, replay := false }, hung := false }], cur := some { slot := 1, launch := { desc := { queue := 0, index := 1 }, prog := 0, base := 5, len := 3, grant := 0#64, acc0 := false, acc1 := false, seed := 0#64, args := [], part := 0, gen := 0, replay := false }, hung := false }, past := [], start := 5 };
    let x : Suspect := { slot := 1, launch := { desc := { queue := 0, index := 1 }, prog := 0, base := 5, len := 3, grant := 0#64, acc0 := false, acc1 := false, seed := 0#64, args := [], part := 0, gen := 0, replay := false }, hung := false };
    s.replayOf n.val = some r ∧ r.cur = some x ∧ r.todo ≠ []) ∧
  (let n : Fin 288 := 0;
    let s : State := GuiltySearchStates.st 13;
    let r : Replay := { core := 0, todo := [], cur := some { slot := 1, launch := { desc := { queue := 0, index := 1 }, prog := 0, base := 5, len := 3, grant := 0#64, acc0 := false, acc1 := false, seed := 0#64, args := [], part := 0, gen := 0, replay := false }, hung := false }, past := [], start := 5 };
    let x : Suspect := { slot := 1, launch := { desc := { queue := 0, index := 1 }, prog := 0, base := 5, len := 3, grant := 0#64, acc0 := false, acc1 := false, seed := 0#64, args := [], part := 0, gen := 0, replay := false }, hung := false };
    s.replayOf n.val = some r ∧
      r.cur = some x ∧
        r.todo = [] ∧
          r.past = [] ∧ s.engineWork n.val = true ∧ (s.queue x.launch.desc.queue).code ∈ [QCode.enabled, QCode.stopped]) := by
  refine ⟨?_, ?_, ?_⟩ <;>
    decide +kernel

theorem test_hyps_Banks_Handover :
  (let n : Fin 288 := 0;
    let b : Fin 32 := 5;
    let s : State := BankWritesStates.st 1;
    let who : BankReq := BankReq.dma 2 5;
    let v : Word := 4#64;
    let x : Bank := (s.core n.val).bankOf b.val;
    x.moving = some { who := who, v := v : BankWrite } ∧ x.held = [] ∧ (s.core n.val).scatters b.val = false) := by
  decide +kernel

theorem test_hyps_StackUpkeep_HeldWrites :
  (let k : Fin 16 := 0;
    let s : State := HeldWritesStates.st 0;
    let h : HeldWrite := { part := 0, addr := 4096, bytes := [1, 2] };
    s.memory.held = [h] ∧
      stackOf h.addr = k.val ∧
        s.stackGated k.val = false ∧
          { pending := s.pending, mem := s.mem, hostMem := s.hostMem, od := s.od, clk := s.clk, links := s.links,
                  fabric := s.fabric, ftime := s.ftime,
                  memory :=
                    have __src : Memory := s.memory;
                    { colour := __src.colour, ledger := __src.ledger, work := __src.work, delivering := __src.delivering,
                      deciding := __src.deciding, held := [], bad := __src.bad, rowErrs := __src.rowErrs, remap := __src.remap,
                      patrol := __src.patrol, scrubbed := __src.scrubbed, hot := __src.hot, apWait := __src.apWait,
                      short := __src.short, tail := __src.tail, pattern := __src.pattern : Memory },
                  sepia := s.sepia, eps := s.eps, agents := s.agents, queues := s.queues, colls := s.colls, hcnt := s.hcnt,
                  disp := s.disp, cores := s.cores, parts := s.parts, fns := s.fns, mgmt := s.mgmt, trace := s.trace,
                  faults := s.faults, sec := s.sec, power := s.power, thermal := s.thermal, taps := s.taps, fw := s.fw,
                  life := s.life, stored := s.stored, free := s.free, out := s.out : State }.gate
              h.addr h.bytes.length =
            Gate.go) ∧
  (let k : Fin 16 := 0;
    let s : State := HeldWritesStates.st 1;
    ∀ h ∈ s.memory.held, stackOf h.addr ≠ k.val) := by
  refine ⟨?_, ?_⟩ <;>
    decide +kernel

theorem test_hyps_HostCounting_HostCounters :
  (let fn : Fin 17 := 0;
    let p : Fin 16 := 0;
    let v : Word := 5#64;
    let s : State := HostCountersStates.st 0;
    s.serving p.val = fn.val ∧
      BitVec.toNat v % 2048 ≠ 0 ∧
        BitVec.toNat v % 2048 < if fn.val = 0 then 2048 else 256) := by
  decide +kernel

theorem test_hyps_HostFunctions_HostWindows :
  (let fn : Fin 17 := 1;
    let s : State := HostWindowsStates.st 0;
    s.hasFn fn.val = false) ∧
  (let fn : Fin 17 := 0;
    let w : Fin 2 := 0;
    let off : BitVec 36 := 0#36;
    let s : State := HostWindowsStates.st 1;
    let x : ℕ := if w.val = 0 then (s.fn fn.val).win0 else (s.fn fn.val).win1;
    let p : ℕ := x % 16;
    let a : ℕ := bits 43 36 x * 2 ^ 36 + off.toNat;
    s.hasFn fn.val = true ∧
      let len : Fin 4097 := 3;
      bit 7 x = true ∧
        s.serving p = fn.val ∧
          (fn.val = 0 ∨ s.odNum 24625 fn.val ≠ 3) ∧
            off.toNat + len.val ≤ 2 ^ 36 ∧
              s.access Who.host p a len.val false = Acc.ok ∧ s.sealedAt a = false ∧ s.onChip a len.val = true) ∧
  (let fn : Fin 17 := 0;
    let w : Fin 2 := 0;
    let off : BitVec 36 := 0#36;
    let s : State := HostWindowsStates.st 4;
    let x : ℕ := if w.val = 0 then (s.fn fn.val).win0 else (s.fn fn.val).win1;
    let p : ℕ := x % 16;
    let a : ℕ := bits 43 36 x * 2 ^ 36 + off.toNat;
    s.hasFn fn.val = true ∧
      let len : Fin 4097 := 0;
      (fun (n : ℕ) (write : Bool) =>
          ¬(bit 7 x = true ∧
                s.serving p = fn.val ∧ (fn.val = 0 ∨ s.odNum 24625 fn.val ≠ 3)) ∨
            2 ^ 36 < off.toNat + n ∨ s.access Who.host p a n write = Acc.address)
        len.val false) ∧
  (let fn : Fin 17 := 0;
    let w : Fin 2 := 0;
    let off : BitVec 36 := 0#36;
    let s : State := HostWindowsStates.st 0;
    let x : ℕ := if w.val = 0 then (s.fn fn.val).win0 else (s.fn fn.val).win1;
    let p : ℕ := x % 16;
    let a : ℕ := bits 43 36 x * 2 ^ 36 + off.toNat;
    s.hasFn fn.val = true ∧
      let bs : List Byte := [1, 2, 3];
      bit 7 x = true ∧
        s.serving p = fn.val ∧
          (fn.val = 0 ∨ s.odNum 24625 fn.val ≠ 3) ∧
            off.toNat + bs.length ≤ 2 ^ 36 ∧
              s.access Who.host p a bs.length true = Acc.ok ∧
                s.sealedAt a = false ∧
                  (∀ (n o : ℕ), s.region a ≠ Region.coreCtl n o) ∧
                    bs ≠ [] ∧
                      (s.onChip a bs.length = true ∧ a % 8 + bs.length ≤ 8 ∧ bs.length < 8 ∨
                        s.onChip a bs.length = false ∧
                          a % 64 + bs.length ≤ 64 ∧ bs.length < 64)) ∧
  (let fn : Fin 17 := 0;
    let w : Fin 2 := 0;
    let off : BitVec 36 := 0#36;
    let s : State := HostWindowsStates.st 4;
    let x : ℕ := if w.val = 0 then (s.fn fn.val).win0 else (s.fn fn.val).win1;
    let p : ℕ := x % 16;
    let a : ℕ := bits 43 36 x * 2 ^ 36 + off.toNat;
    s.hasFn fn.val = true ∧
      let bs : List Byte := [];
      (fun (n : ℕ) (write : Bool) =>
          ¬(bit 7 x = true ∧
                s.serving p = fn.val ∧ (fn.val = 0 ∨ s.odNum 24625 fn.val ≠ 3)) ∨
            2 ^ 36 < off.toNat + n ∨ s.access Who.host p a n write = Acc.address)
        bs.length true) := by
  refine ⟨?_, ?_, ?_, ?_, ?_⟩
  · decide +kernel
  · decide +kernel
  · decide +kernel
  · simp only [not_ctl_iff]; decide +kernel
  · decide +kernel

theorem test_hyps_IllegalInstruction :
  (let n : Fin 288 := 0;
    let s : State := IllegalInstructionStates.st 86;
    let k : ℕ := 0;
    let w : Word := 0xca00000000000000#64;
    s.fetch n.val = some (k, w) ∧ listed w = false) ∧
  (let e : (Fin 288 → Instr) × ℕ × ℕ := (List.map (fun e => (e.1, OfNat.ofNat 0, e.2.1)) aluRows ++ List.map (fun e => (e.1, OfNat.ofNat 0, e.2.1)) moveRows ++ List.map (fun e => (e.1, OfNat.ofNat 0, e.2.1)) branchRows ++ List.map (fun e => (e.1, OfNat.ofNat 1, e.2)) tensorRows ++ List.map (fun e => (e.1, OfNat.ofNat 3, e.2)) vectorRows ++ List.map (fun e => (e.1 (Ecc.ok 0), OfNat.ofNat 2, e.2)) moveEngineRows ++ [(Instr.nop, OfNat.ofNat 0, OfNat.ofNat 0), (Instr.endOp, OfNat.ofNat 0, OfNat.ofNat 1), (Instr.yield, OfNat.ofNat 0, OfNat.ofNat 2), (Instr.lds, OfNat.ofNat 0, OfNat.ofNat 16), (Instr.sts, OfNat.ofNat 0, OfNat.ofNat 17), (Instr.jal, OfNat.ofNat 0, OfNat.ofNat 24), (Instr.jr, OfNat.ofNat 0, OfNat.ofNat 25), (Instr.loop, OfNat.ofNat 0, OfNat.ofNat 26), (Instr.wait, OfNat.ofNat 0, OfNat.ofNat 27), (Instr.sig, OfNat.ofNat 0, OfNat.ofNat 28), (Instr.cset, OfNat.ofNat 0, OfNat.ofNat 29), (Instr.fence, OfNat.ofNat 0, OfNat.ofNat 31), (Instr.time, OfNat.ofNat 0, OfNat.ofNat 33), (Instr.tdl, OfNat.ofNat 1, OfNat.ofNat 0)])[0];
    let n : Fin 288 := 0;
    let s : State := IllegalInstructionStates.st 0;
    let k : ℕ := 0;
    let w : Word := 0x500000400000000#64;
    s.fetch n.val = some (k, w) ∧
      fGrp w = e.2.1 ∧
        fOp w = e.2.2 ∧
          legal w ((s.core n.val).slot k).launch.grant ((s.core n.val).slot k).launch.acc0 ((s.core n.val).slot k).launch.acc1 =
            false) := by
  refine ⟨?_, ?_⟩ <;>
    decide +kernel

theorem test_hyps_DescriptorKinds_KernelDispatch :
  (let s : State := KernelDispatchStates.st 17;
    let q : ℕ := 0;
    let f : Fetched := { index := 0, slot := 2, bytes := ([1, 2] ++ List.replicate 36 0 ++ [128, 1, 64, 1, 0, 0, 1, 0, 0, 0, 7] ++ List.replicate 15 0 ++ [9] ++ List.replicate 63 0 ++ [11] ++ List.replicate 7 0 ++ [12] ++ List.replicate 55 0), since := some 0 };
    s.Front q 1 f ∧
      let d : ℕ := dNum f.bytes;
      ∀ n < 288,
        bit n (krnCores d) = true → s.clusterDown (clusterOf n) = false ∧ s.sealed (clusterOf n) 16 = false) := by
  simp only [State.Front]; decide +kernel

theorem test_hyps_LaneRepair :
  (let n : Fin 12 := 0;
    let s : State := LaneRepairStates.st 0;
    let l : Link := s.link n.val;
    let k : Fin 9 := 0;
    let errors : ℕ := 1000000;
    k.val < 8 ∧
      s.linkUp n.val = true ∧
        3 ≤ s.linkVer n.val ∧
          s.odLive 16407 0 * 425000000 <
              (tget 0 l.errs k.val + errors) * 10 ^ 9 ∧
            s.linkFeat n.val 0 = true ∧
              l.uses k.val = true ∧ l.rxSpare = 15 ∧ bit 8 l.rxFail = false ∧ l.repair = none) ∧
  (let n : Fin 12 := 0;
    let s : State := LaneRepairStates.st 2;
    let m : List Byte := ([2, 3, 5] ++ List.replicate 237 0);
    let rest : List (List Byte) := [[9]];
    s.Message n.val 2 m rest ∧ (s.linkVer n.val < 3 ∨ s.linkFeat n.val 0 = false)) ∧
  (let n : Fin 12 := 0;
    let s : State := LaneRepairStates.st 11;
    let l : Link := s.link n.val;
    let m : List Byte := ([2, 3, 5] ++ List.replicate 237 0);
    let rest : List (List Byte) := [[9]];
    s.Message n.val 2 m rest ∧
      l.st.up = true ∧
        3 ≤ s.linkVer n.val ∧
          s.linkFeat n.val 0 = true ∧ fieldAt m 2 1 % 16 ≠ l.txGen) ∧
  (let n : Fin 12 := 0;
    let s : State := LaneRepairStates.st 3;
    let l : Link := s.link n.val;
    let m : List Byte := ([3] ++ List.replicate 239 0);
    let rest : List (List Byte) := [[9]];
    s.Message n.val 3 m rest ∧
      l.st.up = true ∧ fieldAt m 1 1 % 16 = l.txGen ∧ l.txq = []) ∧
  (let n : Fin 12 := 0;
    let s : State := LaneRepairStates.st 5;
    let l : Link := s.link n.val;
    let m : List Byte := ([4, 0, 0, 1] ++ List.replicate 236 0);
    let rest : List (List Byte) := [[9]];
    s.Message n.val 4 m rest ∧
      l.st.up = true ∧
        fieldAt m 3 1 % 16 ≠ l.txGen ∧
          l.halfOk = true ∧
            fieldAt m 1 1 ≤ 1 ∧
              halfFits l.rxFail (fieldAt m 1 1) (s.linkFeat n.val 0) = true) ∧
  (let n : Fin 12 := 0;
    let s : State := LaneRepairStates.st 7;
    let l : Link := s.link n.val;
    let m : List Byte := ([5] ++ List.replicate 239 0);
    let rest : List (List Byte) := [[9]];
    s.Message n.val 5 m rest ∧
      l.st = LinkSt.active ∧ fieldAt m 1 1 % 16 = l.txGen ∧ l.txq = []) ∧
  (let n : Fin 12 := 0;
    let s : State := LaneRepairStates.st 8;
    let l : Link := s.link n.val;
    let g : Fin 16 := 1;
    let pos : ℕ := 3;
    l.repair = some { pos := pos, half := 15, gen := g.val : Repair } ∧ l.st.up = true ∧ l.pend = [] ∧ l.asm = []) ∧
  (let n : Fin 12 := 0;
    let s : State := LaneRepairStates.st 10;
    let l : Link := s.link n.val;
    let g : Fin 16 := 1;
    let pos : ℕ := 3;
    let h : ℕ := 0;
    l.repair = some { pos := pos, half := h, gen := g.val : Repair } ∧ h < 2 ∧ l.st = LinkSt.active ∧ l.pend = []) := by
  refine ⟨?_, ?_, ?_, ?_, ?_, ?_, ?_, ?_⟩
  · decide +kernel
  · simp only [State.Message]; decide +kernel
  · simp only [State.Message]; decide +kernel
  · simp only [State.Message]; decide +kernel
  · simp only [State.Message]; decide +kernel
  · simp only [State.Message]; decide +kernel
  · decide +kernel
  · decide +kernel

theorem test_hyps_Launching_LaunchState :
  (let n : Fin 288 := 0;
    let s : State := LaunchStateStates.st 0;
    let l : Launch := { desc := { queue := 0, index := 0 }, prog := 4096, base := 5, len := 3, grant := 0#64, acc0 := true, acc1 := false, seed := 0#64, args := [11#64, 12#64, 13#64], part := 0, gen := 0, replay := false };
    let rest : List Launch := [{ desc := { queue := 0, index := 0 }, prog := 4096, base := 99, len := 3, grant := 0#64, acc0 := true, acc1 := false, seed := 0#64, args := [11#64, 12#64, 13#64], part := 0, gen := 0, replay := false }];
    let k : ℕ := 0;
    let c : Core := s.core n.val;
    c.march = none ∧
      c.waitq = l :: rest ∧
        k < 4 ∧
          (c.slot k).st = CtxSt.empty ∧
            (∀ j < k, (c.slot j).st ≠ CtxSt.empty) ∧
              s.coreBlocked n.val = false ∧
                s.coreSealed n.val = false ∧
                  s.sealed (clusterOf n.val) 16 = false ∧
                    (∀ r ∈ s.faults.replays, r.core ≠ n.val) ∧ c.refuses l = none) := by
  decide +kernel

theorem test_hyps_LinkEnds_LinkGoesDown :
  (let n : Fin 12 := 0;
    let s : State := LinkGoesDownStates.st 0;
    let l : Link := s.link n.val;
    l.st = LinkSt.detect ∨ l.st = LinkSt.negotiate) ∧
  (let n : Fin 12 := 0;
    let s : State := LinkGoesDownStates.st 1;
    let l : Link := s.link n.val;
    let blocks : List (List Byte) := [([2, 3, 7, 0, 99] ++ List.replicate 7 0 ++ [31, 0, 0, 0, 1] ++ List.replicate 43 0 ++ [59, 218, 95, 243]), ([2, 3, 7, 0, 99] ++ List.replicate 7 0 ++ [31, 0, 0, 0, 1] ++ List.replicate 43 0 ++ [59, 218, 95, 243])];
    let c : Cap := { vmin := 2, vmax := 3, feat := 7, flags := 1, id := { serial := 99, coord := 31, lane := 0, inverted := false } };
    let rest : List Cap := [{ vmin := 2, vmax := 3, feat := 7, flags := 1, id := { serial := 99, coord := 31, lane := 0, inverted := false } }];
    l.st = LinkSt.negotiate ∧
      List.filterMap id (List.map capOf blocks) = c :: rest ∧
        bit 1 c.flags = false ∧
          ¬miswired (List.map (fun (b : List Byte) => Option.map Cap.id (capOf b)) blocks) = false) ∧
  (let n : Fin 12 := 0;
    let s : State := LinkGoesDownStates.st 1;
    let l : Link := s.link n.val;
    let blocks : List (List Byte) := [([4, 5, 7, 0, 99] ++ List.replicate 7 0 ++ [31, 0, 0, 0, 1] ++ List.replicate 43 0 ++ [168, 88, 175, 114]), ([4, 5, 7, 0, 99] ++ List.replicate 7 0 ++ [31, 0, 0, 1, 1] ++ List.replicate 43 0 ++ [25, 124, 63, 28]), ([4, 5, 7, 0, 99] ++ List.replicate 7 0 ++ [31, 0, 0, 2, 1] ++ List.replicate 43 0 ++ [202, 17, 143, 175]), ([4, 5, 7, 0, 99] ++ List.replicate 7 0 ++ [31, 0, 0, 3, 1] ++ List.replicate 43 0 ++ [123, 53, 31, 193]), ([4, 5, 7, 0, 99] ++ List.replicate 7 0 ++ [31, 0, 0, 4, 1] ++ List.replicate 43 0 ++ [157, 188, 3, 205]), ([4, 5, 7, 0, 99] ++ List.replicate 7 0 ++ [31, 0, 0, 5, 1] ++ List.replicate 43 0 ++ [44, 152, 147, 163]), ([4, 5, 7, 0, 99] ++ List.replicate 7 0 ++ [31, 0, 0, 6, 1] ++ List.replicate 43 0 ++ [255, 245, 35, 16]), ([4, 5, 7, 0, 99] ++ List.replicate 7 0 ++ [31, 0, 0, 7, 1] ++ List.replicate 43 0 ++ [78, 209, 179, 126]), ([4, 5, 7, 0, 99] ++ List.replicate 7 0 ++ [31, 0, 0, 8, 1] ++ List.replicate 43 0 ++ [51, 230, 26, 8])];
    let c : Cap := { vmin := 4, vmax := 5, feat := 7, flags := 1, id := { serial := 99, coord := 31, lane := 0, inverted := false } };
    let rest : List Cap := [{ vmin := 4, vmax := 5, feat := 7, flags := 1, id := { serial := 99, coord := 31, lane := 1, inverted := false } }, { vmin := 4, vmax := 5, feat := 7, flags := 1, id := { serial := 99, coord := 31, lane := 2, inverted := false } }, { vmin := 4, vmax := 5, feat := 7, flags := 1, id := { serial := 99, coord := 31, lane := 3, inverted := false } }, { vmin := 4, vmax := 5, feat := 7, flags := 1, id := { serial := 99, coord := 31, lane := 4, inverted := false } }, { vmin := 4, vmax := 5, feat := 7, flags := 1, id := { serial := 99, coord := 31, lane := 5, inverted := false } }, { vmin := 4, vmax := 5, feat := 7, flags := 1, id := { serial := 99, coord := 31, lane := 6, inverted := false } }, { vmin := 4, vmax := 5, feat := 7, flags := 1, id := { serial := 99, coord := 31, lane := 7, inverted := false } }, { vmin := 4, vmax := 5, feat := 7, flags := 1, id := { serial := 99, coord := 31, lane := 8, inverted := false } }];
    l.st = LinkSt.negotiate ∧
      List.filterMap id (List.map capOf blocks) = c :: rest ∧
        bit 1 c.flags = false ∧
          miswired (List.map (fun (b : List Byte) => Option.map Cap.id (capOf b)) blocks) = false ∧
            (c.vmax < 2 ∨ 3 < c.vmin)) ∧
  (let n : Fin 12 := 0;
    let s : State := LinkGoesDownStates.st 16;
    let l : Link := s.link n.val;
    let blocks : List (List Byte) := [([2, 3, 7, 0, 98] ++ List.replicate 7 0 ++ [31, 0, 0, 0, 1] ++ List.replicate 43 0 ++ [195, 7, 21, 109]), ([2, 3, 7, 0, 98] ++ List.replicate 7 0 ++ [31, 0, 0, 1, 1] ++ List.replicate 43 0 ++ [114, 35, 133, 3]), ([2, 3, 7, 0, 98] ++ List.replicate 7 0 ++ [31, 0, 0, 2, 1] ++ List.replicate 43 0 ++ [161, 78, 53, 176]), ([2, 3, 7, 0, 98] ++ List.replicate 7 0 ++ [31, 0, 0, 3, 1] ++ List.replicate 43 0 ++ [16, 106, 165, 222]), ([2, 3, 7, 0, 98] ++ List.replicate 7 0 ++ [31, 0, 0, 4, 1] ++ List.replicate 43 0 ++ [246, 227, 185, 210]), ([2, 3, 7, 0, 98] ++ List.replicate 7 0 ++ [31, 0, 0, 5, 1] ++ List.replicate 43 0 ++ [71, 199, 41, 188]), ([2, 3, 7, 0, 98] ++ List.replicate 7 0 ++ [31, 0, 0, 6, 1] ++ List.replicate 43 0 ++ [148, 170, 153, 15]), ([2, 3, 7, 0, 98] ++ List.replicate 7 0 ++ [31, 0, 0, 7, 1] ++ List.replicate 43 0 ++ [37, 142, 9, 97]), ([2, 3, 7, 0, 98] ++ List.replicate 7 0 ++ [31, 0, 0, 8, 1] ++ List.replicate 43 0 ++ [88, 185, 160, 23])];
    let c : Cap := { vmin := 2, vmax := 3, feat := 7, flags := 1, id := { serial := 98, coord := 31, lane := 0, inverted := false } };
    let rest : List Cap := [{ vmin := 2, vmax := 3, feat := 7, flags := 1, id := { serial := 98, coord := 31, lane := 1, inverted := false } }, { vmin := 2, vmax := 3, feat := 7, flags := 1, id := { serial := 98, coord := 31, lane := 2, inverted := false } }, { vmin := 2, vmax := 3, feat := 7, flags := 1, id := { serial := 98, coord := 31, lane := 3, inverted := false } }, { vmin := 2, vmax := 3, feat := 7, flags := 1, id := { serial := 98, coord := 31, lane := 4, inverted := false } }, { vmin := 2, vmax := 3, feat := 7, flags := 1, id := { serial := 98, coord := 31, lane := 5, inverted := false } }, { vmin := 2, vmax := 3, feat := 7, flags := 1, id := { serial := 98, coord := 31, lane := 6, inverted := false } }, { vmin := 2, vmax := 3, feat := 7, flags := 1, id := { serial := 98, coord := 31, lane := 7, inverted := false } }, { vmin := 2, vmax := 3, feat := 7, flags := 1, id := { serial := 98, coord := 31, lane := 8, inverted := false } }];
    l.st = LinkSt.negotiate ∧
      List.filterMap id (List.map capOf blocks) = c :: rest ∧
        bit 1 c.flags = false ∧
          miswired (List.map (fun (b : List Byte) => Option.map Cap.id (capOf b)) blocks) = false ∧
            2 ≤ c.vmax ∧
              c.vmin ≤ 3 ∧
                s.odNum 16394 (n.val + 1) ≠ 0 ∧
                  s.odNum 16394 (n.val + 1) ≠ c.id.serial) ∧
  (let n : Fin 12 := 0;
    let s : State := LinkGoesDownStates.st 2;
    let l : Link := s.link n.val;
    let lanes : BitVec 9 := 7#9;
    3 ≤ popCount 9 (l.lost ||| lanes.toNat) ∧ s.linkUp n.val = true) ∧
  (let n : Fin 12 := 0;
    let s : State := LinkGoesDownStates.st 4;
    let m : List Byte := ([7, 1] ++ List.replicate 238 0);
    let rest : List (List Byte) := [[9]];
    s.Message n.val 7 m rest ∧ s.linkUp n.val = true) ∧
  (let n : Fin 12 := 0;
    let s : State := LinkGoesDownStates.st 5;
    let l : Link := s.link n.val;
    (l.repair.isSome = true ∨ l.txHold = true) ∧ s.linkUp n.val = true) ∧
  (let n : Fin 12 := 0;
    let s : State := LinkGoesDownStates.st 7;
    let l : Link := s.link n.val;
    let a : ℕ := 5;
    let b : ℕ := 8;
    l.alignLost = [a, b] ∧ s.now < a + 1000000 ∧ s.now < b + 1000000 ∧ s.linkUp n.val = true) ∧
  (let n : Fin 12 := 0;
    let s : State := LinkGoesDownStates.st 2;
    let l : Link := s.link n.val;
    s.linkUp n.val = true ∧ l.alignLost = []) ∧
  (let n : Fin 12 := 0;
    let s : State := LinkGoesDownStates.st 8;
    let l : Link := s.link n.val;
    l.st = LinkSt.down ∧ s.odBool 16385 (n.val + 1) = true) := by
  refine ⟨?_, ?_, ?_, ?_, ?_, ?_, ?_, ?_, ?_, ?_⟩
  · decide +kernel
  · decide +kernel
  · decide +kernel
  · decide +kernel
  · decide +kernel
  · simp only [State.Message]; decide +kernel
  · decide +kernel
  · decide +kernel
  · decide +kernel
  · decide +kernel

theorem test_hyps_LinkTrains_LinkTrains :
  (let n : Fin 12 := 0;
    let s : State := LinkTrainsStates.st 0;
    let l : Link := s.link n.val;
    let lanes : BitVec 9 := 15#9;
    l.st = LinkSt.detect ∧ 4 ≤ popCount 9 lanes.toNat) ∧
  (let n : Fin 12 := 0;
    let s : State := LinkTrainsStates.st 2;
    let l : Link := s.link n.val;
    let blocks : List (List Byte) := [([2, 3, 7, 0, 99] ++ List.replicate 7 0 ++ [31, 0, 0, 0, 1] ++ List.replicate 43 0 ++ [59, 218, 95, 243]), ([2, 3, 7, 0, 99] ++ List.replicate 7 0 ++ [31, 0, 0, 1, 1] ++ List.replicate 43 0 ++ [138, 254, 207, 157]), ([2, 3, 7, 0, 99] ++ List.replicate 7 0 ++ [31, 0, 0, 2, 1] ++ List.replicate 43 0 ++ [89, 147, 127, 46]), ([2, 3, 7, 0, 99] ++ List.replicate 7 0 ++ [31, 0, 0, 3, 1] ++ List.replicate 43 0 ++ [232, 183, 239, 64]), ([2, 3, 7, 0, 99] ++ List.replicate 7 0 ++ [31, 0, 0, 4, 1] ++ List.replicate 43 0 ++ [14, 62, 243, 76]), ([2, 3, 7, 0, 99] ++ List.replicate 7 0 ++ [31, 0, 0, 5, 1] ++ List.replicate 43 0 ++ [191, 26, 99, 34]), ([2, 3, 7, 0, 99] ++ List.replicate 7 0 ++ [31, 0, 0, 6, 1] ++ List.replicate 43 0 ++ [108, 119, 211, 145]), ([2, 3, 7, 0, 99] ++ List.replicate 7 0 ++ [31, 0, 0, 7, 1] ++ List.replicate 43 0 ++ [221, 83, 67, 255]), ([2, 3, 7, 0, 99] ++ List.replicate 7 0 ++ [31, 0, 0, 8, 1] ++ List.replicate 43 0 ++ [160, 100, 234, 137])];
    let c : Cap := { vmin := 2, vmax := 3, feat := 7, flags := 1, id := { serial := 99, coord := 31, lane := 0, inverted := false } };
    let rest : List Cap := [{ vmin := 2, vmax := 3, feat := 7, flags := 1, id := { serial := 99, coord := 31, lane := 1, inverted := false } }, { vmin := 2, vmax := 3, feat := 7, flags := 1, id := { serial := 99, coord := 31, lane := 2, inverted := false } }, { vmin := 2, vmax := 3, feat := 7, flags := 1, id := { serial := 99, coord := 31, lane := 3, inverted := false } }, { vmin := 2, vmax := 3, feat := 7, flags := 1, id := { serial := 99, coord := 31, lane := 4, inverted := false } }, { vmin := 2, vmax := 3, feat := 7, flags := 1, id := { serial := 99, coord := 31, lane := 5, inverted := false } }, { vmin := 2, vmax := 3, feat := 7, flags := 1, id := { serial := 99, coord := 31, lane := 6, inverted := false } }, { vmin := 2, vmax := 3, feat := 7, flags := 1, id := { serial := 99, coord := 31, lane := 7, inverted := false } }, { vmin := 2, vmax := 3, feat := 7, flags := 1, id := { serial := 99, coord := 31, lane := 8, inverted := false } }];
    l.st = LinkSt.negotiate ∧
      List.filterMap id (List.map capOf blocks) = c :: rest ∧
        bit 1 c.flags = false ∧
          miswired (List.map (fun (b : List Byte) => Option.map Cap.id (capOf b)) blocks) = false ∧
            2 ≤ c.vmax ∧
              c.vmin ≤ 3 ∧
                (s.odNum 16394 (n.val + 1) = 0 ∨
                  s.odNum 16394 (n.val + 1) = c.id.serial)) ∧
  (let n : Fin 12 := 0;
    let s : State := LinkTrainsStates.st 4;
    let l : Link := s.link n.val;
    l.st = LinkSt.equalise ∧ l.rxFail = 0) ∧
  (let n : Fin 12 := 0;
    let s : State := LinkTrainsStates.st 5;
    let l : Link := s.link n.val;
    let seen : List (Option LaneId) := [some { serial := 99, coord := 31, lane := 0, inverted := false }, some { serial := 99, coord := 31, lane := 1, inverted := false }, some { serial := 99, coord := 31, lane := 2, inverted := false }, some { serial := 99, coord := 31, lane := 3, inverted := false }, some { serial := 99, coord := 31, lane := 4, inverted := false }, some { serial := 99, coord := 31, lane := 5, inverted := false }, some { serial := 99, coord := 31, lane := 6, inverted := false }, some { serial := 99, coord := 31, lane := 7, inverted := false }, some { serial := 99, coord := 31, lane := 8, inverted := false }];
    l.st = LinkSt.align ∧ l.rxFail = 0 ∧ miswired seen = false) ∧
  (let n : Fin 12 := 0;
    let s : State := LinkTrainsStates.st 6;
    let l : Link := s.link n.val;
    let errors : List ℕ := [];
    let lost : ℕ := 0;
    l.st = LinkSt.qualify ∧
      l.mine = none ∧
        l.partner = none ∧
          let sent : ℕ :=
            (if 3 ≤ s.linkVer n.val then 425000000 else 212500000) * 1000;
          ∀ k < 9,
            l.uses k = true →
              (fun (k : ℕ) =>
                  (tget 0 l.errs k + getAt 0 errors k) * 100000 ≤ 2 * sent ∧
                    l.bad + lost = 0 ∧ bit k l.lost = false)
                k) ∧
  (let n : Fin 12 := 0;
    let s : State := LinkTrainsStates.st 16;
    let l : Link := s.link n.val;
    let errors : List ℕ := [];
    let lost : ℕ := 0;
    l.st = LinkSt.qualify ∧
      l.mine = none ∧
        l.partner = none ∧
          let sent : ℕ :=
            (if 3 ≤ s.linkVer n.val then 425000000 else 212500000) * 1000;
          (¬∀ k < 9,
                l.uses k = true →
                  (fun (k : ℕ) =>
                      (tget 0 l.errs k + getAt 0 errors k) * 100000 ≤
                          2 * sent ∧
                        l.bad + lost = 0 ∧ bit k l.lost = false)
                    k) ∧
            1 < l.attempts) ∧
  (let n : Fin 12 := 0;
    let s : State := LinkTrainsStates.st 6;
    let l : Link := s.link n.val;
    let errors : List ℕ := [];
    let lost : ℕ := 1;
    l.st = LinkSt.qualify ∧
      l.mine = none ∧
        l.partner = none ∧
          let sent : ℕ :=
            (if 3 ≤ s.linkVer n.val then 425000000 else 212500000) * 1000;
          (¬∀ k < 9,
                l.uses k = true →
                  (fun (k : ℕ) =>
                      (tget 0 l.errs k + getAt 0 errors k) * 100000 ≤
                          2 * sent ∧
                        l.bad + lost = 0 ∧ bit k l.lost = false)
                    k) ∧
            l.attempts ≤ 1) ∧
  (let n : Fin 12 := 0;
    let s : State := LinkTrainsStates.st 17;
    let l : Link := s.link n.val;
    let m : List Byte := ([6] ++ List.replicate 239 0);
    let rest : List (List Byte) := [[9]];
    l.st = LinkSt.qualify ∧
      s.Message n.val 6 m rest ∧
        fieldAt m 1 1 ≠ 1 ∧ 1 < l.attempts) ∧
  (let n : Fin 12 := 0;
    let s : State := LinkTrainsStates.st 9;
    let l : Link := s.link n.val;
    let m : List Byte := ([6] ++ List.replicate 239 0);
    let rest : List (List Byte) := [[9]];
    l.st = LinkSt.qualify ∧
      s.Message n.val 6 m rest ∧
        fieldAt m 1 1 ≠ 1 ∧ l.attempts ≤ 1) ∧
  (let n : Fin 12 := 0;
    let s : State := LinkTrainsStates.st 7;
    let l : Link := s.link n.val;
    let m : List Byte := ([6, 1] ++ List.replicate 238 0);
    let rest : List (List Byte) := [[9]];
    l.st = LinkSt.qualify ∧
      l.mine = some true ∧
        l.rxHalf = 15 ∧
          l.txHalf = 15 ∧
            s.Message n.val 6 m rest ∧ fieldAt m 1 1 = 1) := by
  refine ⟨?_, ?_, ?_, ?_, ?_, ?_, ?_, ?_, ?_, ?_⟩
  · decide +kernel
  · decide +kernel
  · decide +kernel
  · decide +kernel
  · decide +kernel
  · decide +kernel
  · decide +kernel
  · simp only [State.Message]; decide +kernel
  · simp only [State.Message]; decide +kernel
  · simp only [State.Message]; decide +kernel

theorem test_hyps_LinkEnds_LoopbackEnds :
  (let n : Fin 12 := 0;
    let s : State := LoopbackEndsStates.st 9;
    let l : Link := s.link n.val;
    let lb : Loop := { mode := 1, ms := 5, before := LinkSt.down, full := true, accepted := true, pat := 0 };
    l.st = LinkSt.loopback ∧ l.loop = some lb ∧ lb.mode < 4) ∧
  (let n : Fin 12 := 0;
    let s : State := LoopbackEndsStates.st 17;
    let l : Link := s.link n.val;
    let lb : Loop := { mode := 1, ms := 5, before := LinkSt.negotiate, full := true, accepted := false, pat := 0 };
    l.st = LinkSt.loopback ∧ l.loop = some lb ∧ lb.mode = 1 ∧ lb.accepted = false) ∧
  (let n : Fin 12 := 0;
    let s : State := LoopbackEndsStates.st 0;
    let l : Link := s.link n.val;
    let blocks : List (List Byte) := [([2, 3, 7, 0, 99] ++ List.replicate 7 0 ++ [31, 0, 0, 0, 3] ++ List.replicate 43 0 ++ [69, 146, 253, 51]), ([2, 3, 7, 0, 99] ++ List.replicate 7 0 ++ [31, 0, 0, 1, 3] ++ List.replicate 43 0 ++ [244, 182, 109, 93]), ([2, 3, 7, 0, 99] ++ List.replicate 7 0 ++ [31, 0, 0, 2, 3] ++ List.replicate 43 0 ++ [39, 219, 221, 238]), ([2, 3, 7, 0, 99] ++ List.replicate 7 0 ++ [31, 0, 0, 3, 3] ++ List.replicate 43 0 ++ [150, 255, 77, 128]), ([2, 3, 7, 0, 99] ++ List.replicate 7 0 ++ [31, 0, 0, 4, 3] ++ List.replicate 43 0 ++ [112, 118, 81, 140]), ([2, 3, 7, 0, 99] ++ List.replicate 7 0 ++ [31, 0, 0, 5, 3] ++ List.replicate 43 0 ++ [193, 82, 193, 226]), ([2, 3, 7, 0, 99] ++ List.replicate 7 0 ++ [31, 0, 0, 6, 3] ++ List.replicate 43 0 ++ [18, 63, 113, 81]), ([2, 3, 7, 0, 99] ++ List.replicate 7 0 ++ [31, 0, 0, 7, 3] ++ List.replicate 43 0 ++ [163, 27, 225, 63]), ([2, 3, 7, 0, 99] ++ List.replicate 7 0 ++ [31, 0, 0, 8, 3] ++ List.replicate 43 0 ++ [222, 44, 72, 73])];
    let c : Cap := { vmin := 2, vmax := 3, feat := 7, flags := 3, id := { serial := 99, coord := 31, lane := 0, inverted := false } };
    let rest : List Cap := [{ vmin := 2, vmax := 3, feat := 7, flags := 3, id := { serial := 99, coord := 31, lane := 1, inverted := false } }, { vmin := 2, vmax := 3, feat := 7, flags := 3, id := { serial := 99, coord := 31, lane := 2, inverted := false } }, { vmin := 2, vmax := 3, feat := 7, flags := 3, id := { serial := 99, coord := 31, lane := 3, inverted := false } }, { vmin := 2, vmax := 3, feat := 7, flags := 3, id := { serial := 99, coord := 31, lane := 4, inverted := false } }, { vmin := 2, vmax := 3, feat := 7, flags := 3, id := { serial := 99, coord := 31, lane := 5, inverted := false } }, { vmin := 2, vmax := 3, feat := 7, flags := 3, id := { serial := 99, coord := 31, lane := 6, inverted := false } }, { vmin := 2, vmax := 3, feat := 7, flags := 3, id := { serial := 99, coord := 31, lane := 7, inverted := false } }, { vmin := 2, vmax := 3, feat := 7, flags := 3, id := { serial := 99, coord := 31, lane := 8, inverted := false } }];
    (l.st = LinkSt.detect ∨ l.st = LinkSt.negotiate ∨ l.st = LinkSt.down) ∧
      List.filterMap id (List.map capOf blocks) = c :: rest ∧
        bit 1 c.flags = true ∧ 3 ≤ c.vmax ∧ s.farOk n.val = true) ∧
  (let n : Fin 12 := 0;
    let s : State := LoopbackEndsStates.st 20;
    let l : Link := s.link n.val;
    l.st = LinkSt.loopback ∧ Option.map Loop.mode l.loop = some 4) := by
  refine ⟨?_, ?_, ?_, ?_⟩ <;>
    decide +kernel

theorem test_hyps_Banks_MarchTests :
  (let n : Fin 288 := 0;
    let s : State := CollisionsStates.st 11;
    let m : March := { bank := 5, alg := 0, destroy := true, bringup := false, first := none };
    let reads : List MarchRead := [];
    let c : Core := s.core n.val;
    let bad : Option MarchRead :=
      s.marchFirst m.alg m.destroy (spadBase n.val) 3072
        (List.filter (fun (r : MarchRead) => r.bank.val == m.bank) reads);
    c.march = some m ∧
      m.bringup = false ∧
        m.first = none ∧
          m.bank < 32 ∧
            (c.bankOf m.bank).held = [] ∧
              s.odPending (marchReqObj n.val) (n.val % 144 + 1) = none ∧ bad = none) ∧
  (let n : Fin 288 := 0;
    let s : State := CollisionsStates.st 11;
    let m : March := { bank := 5, alg := 0, destroy := true, bringup := false, first := none };
    let c : Core := s.core n.val;
    c.march = some m ∧
      m.bringup = false ∧
        m.first = none ∧
          m.bank < 32 ∧
            (c.bankOf m.bank).held = [] ∧ s.odPending (marchReqObj n.val) (n.val % 144 + 1) = none) ∧
  (let c : Fin 24 := 0;
    let s : State := CollisionsStates.st 14;
    let reads : List MarchRead := [];
    let bad : Option MarchRead :=
      s.marchFirst (s.odNum 34816 0) true (poolBase c.val) 8192 reads;
    s.odNum 34821 (c.val + 1) / 2 ^ 28 % 16 = 1 ∧
      bad = none) ∧
  (let c : Fin 24 := 0;
    let s : State := CollisionsStates.st 14;
    s.odNum 34821 (c.val + 1) / 2 ^ 28 % 16 = 1) := by
  refine ⟨?_, ?_, ?_, ?_⟩ <;>
    decide +kernel

theorem test_hyps_TensorEngine_MmaComplete :
  (let n : Fin 288 := 0;
    let s : State := EngineStartStates.st 0;
    let q : QOp := { slot := 0, w := 0x5101000430000000#64, sa := 0#64, sb := 0#64, sd := 0#64, data := 0 };
    let a : TileD × Fmt := ({ index := 0, tensor := 0, scale := 0, base := 0, stride := 4, rows := 2, cols := 3, fmt := 3, mxaxis := 0, ipitch := 0, rsvd := 0 }, Fmt.e4m3);
    let b : TileD × Fmt := ({ index := 0, tensor := 0, scale := 0, base := 0, stride := 4, rows := 3, cols := 2, fmt := 3, mxaxis := 0, ipitch := 0, rsvd := 0 }, Fmt.e4m3);
    let c : Core := s.core n.val;
    c.tRun = some q ∧
      fOp q.w ∈ [16, 17, 18, 19, 20] ∧
        tileReg (c.slot q.slot) (tTA q.w) = some a ∧
          tileReg (c.slot q.slot) (tTB q.w) = some b ∧
            b.1.cols ≤ 96 ∧ ∀ o ∈ tReads c q, c.portOk o = true ∧ c.underTest (bankNo o) = false) := by
  decide +kernel

theorem test_hyps_EngineTransfers_MoveEngineDone :
  (let n : Fin 288 := 0;
    let s : State := MoveEngineDoneStates.st 7;
    let m : MOp := { id := 1, slot := 0, w := 0x8000011c01100000#64, d := 0x2000#64, d1 := 0#64, s := 0x1008#64, s1 := 0#64, l := 64#64, phase := MPhase.started, left := 0, err := 0, errInfo := 0 };
    let c : Core := s.core n.val;
    let p : ℕ := s.slotPart n.val m.slot;
    s.mop? n.val m.id = some m ∧
      m.phase = MPhase.started ∧
        m.err = 0 ∧
          (∀ x ∈ c.mops, x.phase ≠ MPhase.queued) ∧
            s.mSealed n.val m = false ∧
              s.slotReplay n.val m.slot = false ∧
                fOp m.w = 0 ∧
                  s.mBehind n.val m.id (s.mRanges n.val m) = false ∧
                    s.access (Who.dma n.val) p (BitVec.toNat m.s) (BitVec.toNat m.l) false = Acc.ok ∧
                      s.access (Who.dma n.val) p (BitVec.toNat m.d) (BitVec.toNat m.l) true = Acc.ok ∧
                        ∀ (k o : ℕ), s.region (BitVec.toNat m.d) ≠ Region.coreCtl k o) ∧
  (let n : Fin 288 := 0;
    let s : State := MoveEngineDoneStates.st 9;
    let m : MOp := { id := 1, slot := 0, w := 0x8300011c01100000#64, d := 0x2000#64, d1 := 0#64, s := 0x1008#64, s1 := 0#64, l := 64#64, phase := MPhase.started, left := 0, err := 0, errInfo := 0 };
    let c : Core := s.core n.val;
    let p : ℕ := s.slotPart n.val m.slot;
    s.mop? n.val m.id = some m ∧
      m.phase = MPhase.started ∧
        m.err = 0 ∧
          (∀ x ∈ c.mops, x.phase ≠ MPhase.queued) ∧
            s.mSealed n.val m = false ∧
              s.slotReplay n.val m.slot = false ∧
                fOp m.w = 3 ∧
                  (s.part p).hasCluster (clusterOf (oRCORE m.w)) = true ∧ s.coreBlocked (oRCORE m.w) = false ∧ oRCORE m.w ≠ n.val) ∧
  (let n : Fin 288 := 0;
    let s : State := MoveEngineDoneStates.st 11;
    let m : MOp := { id := 1, slot := 0, w := 0x8100011c01100000#64, d := 0x2000#64, d1 := 0#64, s := 0x1008#64, s1 := 0#64, l := 64#64, phase := MPhase.started, left := 0, err := 0, errInfo := 0 };
    let c : Core := s.core n.val;
    s.mop? n.val m.id = some m ∧
      m.phase = MPhase.started ∧
        m.err = 0 ∧
          (∀ x ∈ c.mops, x.phase ≠ MPhase.queued) ∧
            s.mSealed n.val m = false ∧
              s.slotReplay n.val m.slot = false ∧ fOp m.w ∈ [1, 2] ∧ m.left = 0) ∧
  (let n : Fin 288 := 0;
    let s : State := MoveEngineDoneStates.st 13;
    let m : MOp := { id := 1, slot := 0, w := 0x8400011c01100000#64, d := 0x2000#64, d1 := 0#64, s := 0x1008#64, s1 := 0#64, l := 64#64, phase := MPhase.started, left := 0, err := 0, errInfo := 0 };
    let c : Core := s.core n.val;
    s.mop? n.val m.id = some m ∧
      m.phase = MPhase.started ∧
        m.err = 0 ∧
          (∀ x ∈ c.mops, x.phase ≠ MPhase.queued) ∧
            s.mSealed n.val m = false ∧ s.slotReplay n.val m.slot = false ∧ fOp m.w = 4 ∧ m.left = 0) := by
  refine ⟨?_, ?_, ?_, ?_⟩
  · simp only [not_ctl_iff]; decide +kernel
  · decide +kernel
  · decide +kernel
  · decide +kernel

theorem test_hyps_EngineIssue_MoveIssue :
  (let e : (Ecc → Fin 288 → Instr) × ℕ := (moveEngineRows)[0];
    let n : Fin 288 := 0;
    let s : State := CopScratchpadStates.st 64;
    let k : ℕ := 0;
    let w : Word := 0x8000020000000000#64;
    s.Issues n 2 e.2 k w ∧
      s.InLine n k ∧
        let c : Core := s.core n.val;
        let m : MOp :=
          { id := c.nextM, slot := k, w := w, d := s.sreg n.val k (oSD w),
            d1 := (fun (r : ℕ) => if r = 31 then 0 else s.sreg n.val k (r + 1)) (oSD w),
            s := s.sreg n.val k (oSS w),
            s1 := (fun (r : ℕ) => if r = 31 then 0 else s.sreg n.val k (r + 1)) (oSS w),
            l := s.sreg n.val k (oSL w), phase := MPhase.queued, left := 0, err := 0,
            errInfo := 0 : MOp };
        mIssueFault e.2 w m = none ∧
          (List.filter (fun (m : MOp) => m.phase == MPhase.queued) c.mops).length < 32 ∧
            (List.filter (fun (m : MOp) => m.phase != MPhase.queued) c.mops).length ≥ 64) := by
  simp only [State.Issues, State.InLine]; decide +kernel

theorem test_hyps_ObjectWrites :
  (let f : Frame := { door := .m, src := 0x1122#48, dst := 0x20000000001#48, ver := 3#8, session := 7#16, seq := 4#16, sound := true, formed := true };
    let s : State := ObjectWritesStates.st 0;
    let x : Session := { id := 7, slot := 1, door := .m, src := 4386, ver := 3, flags := 1, acked := 0, sent := 0, top := 3, fresh := false, heard := 0, timeout := 30, store := [], xfer := none, early := [], snapGroup := 0 };
    let bs : List Byte := [1];
    s.InSession f x ∧
      let i : BitVec 16 := 0x4012#16;
      let k : BitVec 8 := 0#8;
      let o : OdInfo := { idx := 16402, ty := OdTy.u8, n := 0, mr := true, mw := true, hr := true, hw := false, cls := OdCls.staged, dflt := 2, lo := 1, hi := 8, own := OdOwner.none };
      let n : ℕ := 1;
      bs.length ≤ 1484 ∧
        odInfo i.toNat = some o ∧
          s.odStatus Door.m i.toNat k.toNat bs = (0, OdVal.num n) ∧
            (o.cls = OdCls.live ∨ o.cls = OdCls.staged) ∧
              i.toNat ∉
                [8480, 16385, 22592, 22593, 32770, 34817,
                  34818]) ∧
  (let f : Frame := { door := .m, src := 0x1122#48, dst := 0x20000000001#48, ver := 3#8, session := 7#16, seq := 4#16, sound := true, formed := true };
    let s : State := ObjectWritesStates.st 0;
    let x : Session := { id := 7, slot := 1, door := .m, src := 4386, ver := 3, flags := 1, acked := 0, sent := 0, top := 3, fresh := false, heard := 0, timeout := 30, store := [], xfer := none, early := [], snapGroup := 0 };
    let bs : List Byte := [];
    s.InSession f x ∧
      let i : BitVec 16 := 0x3000#16;
      let k : BitVec 8 := 0#8;
      bs.length ≤ 1484 ∧ (s.odStatus Door.m i.toNat k.toNat bs).1 ≠ 0) ∧
  (let f : Frame := { door := .m, src := 0x1122#48, dst := 0x20000000001#48, ver := 3#8, session := 7#16, seq := 4#16, sound := true, formed := true };
    let s : State := ObjectWritesStates.st 0;
    let x : Session := { id := 7, slot := 1, door := .m, src := 4386, ver := 3, flags := 1, acked := 0, sent := 0, top := 3, fresh := false, heard := 0, timeout := 30, store := [], xfer := none, early := [], snapGroup := 0 };
    let bs : List Byte := [1];
    s.InSession f x ∧
      let c : Instr := Instr.linkEnable { door := .m, src := 0x1122#48, dst := 0x20000000001#48, ver := 3#8, session := 7#16, seq := 4#16, sound := true, formed := true } 0;
      let idx : ℕ := 16385;
      let sub : ℕ := 1;
      objectOf c = some (f, idx, sub, bs) ∧ bs.length ≤ 1024) := by
  refine ⟨?_, ?_, ?_⟩ <;>
    (simp only [State.InSession, State.NextIn]; decide +kernel)

theorem test_hyps_OnyxAndTamper :
  (let s : State := OnyxAndTamperStates.st 0;
    let sel : ℕ := 5;
    let i : ℕ := 0;
    s.sec.onyx.job = some (OJob.create sel) ∧ s.secretSlot sel = some i) ∧
  (let s : State := OnyxAndTamperStates.st 2;
    let b : List Byte := [1, 5];
    let i : ℕ := 0;
    s.sec.onyx.job = some (OJob.install b) ∧ s.slotIn (fieldAt b 1 1) 1 = some i) ∧
  (let s : State := OnyxAndTamperStates.st 3;
    ∃ u ∈ s.sec.onyx.unsealing.toList, (s.unsealAcc u).waits = false) ∧
  (let s : State := OnyxAndTamperStates.st 0;
    s.life.svc ≠ Svc.red ∧ s.life.svc ≠ Svc.black) := by
  refine ⟨?_, ?_, ?_, ?_⟩ <;>
    decide +kernel

theorem test_hyps_Power_Pace :
  (let s : State := PaceStates.st 0;
    s.power.group = 65535 ∧
      s.odNum 12304 0 = 65535 ∧
        s.odPending 12304 0 = none ∧
          s.odPending 12305 0 = none ∧ s.power.next = none) ∧
  (let s : State := PaceStates.st 5;
    let p : Pkt := { op := 4, vc := 0, dst := 33, src := 64, dpart := 0, spart := 0, win := 0, offset := 0, seq := 5, gen := 0, len := 8, ce := false, rcore := 511, rcnt := 63, mark := false, echo := false, dline := false, esc := false, reissue := false, dim := 0, status := 0, hops := 0, aux := 0, keyid := 0, reserved := 0, payload := [0, 0, 0, 0, 5, 0, 1, 16], wrap := 0, ridx := 0, tag := 0, die := 0 };
    let g : ℕ := 1;
    let i : ℕ := 0;
    s.paceGroup = some g ∧
      s.refusal p = none ∧
        s.paceBad p = false ∧
          (s.Arrives p fun (p : Pkt) => p.isPace && p.paceKind == 1) ∧
            List.findIdx? (fun (r : ℕ) => refCoord r == p.src) (gdChildren (s.gd g)) = some i) ∧
  (let s : State := PaceStates.st 7;
    let p : Pkt := { op := 4, vc := 0, dst := 33, src := 64, dpart := 0, spart := 0, win := 0, offset := 0, seq := 5, gen := 0, len := 8, ce := false, rcore := 511, rcnt := 63, mark := false, echo := false, dline := false, esc := false, reissue := false, dim := 0, status := 0, hops := 0, aux := 0, keyid := 0, reserved := 0, payload := [88, 27, 0, 0, 5, 0, 1, 32], wrap := 0, ridx := 0, tag := 0, die := 0 };
    let g : ℕ := 1;
    s.paceGroup = some g ∧
      s.refusal p = none ∧
        s.paceBad p = false ∧
          (s.Arrives p fun (p : Pkt) => p.isPace && p.paceKind != 1) ∧
            2 ^ 31 ≤
              (s.fab / 1000000 + 2 ^ 32 - p.paceTick) % 2 ^ 32) ∧
  (let s : State := PaceStates.st 8;
    let g : ℕ := 1;
    let since : ℕ := 0;
    s.paceGroup = some g ∧
      s.leads = true ∧
        s.power.above = some since ∧
          s.targetF < s.leaderM ∧ since + s.odNum 12308 0 * 1000000 ≤ s.now) ∧
  (let s : State := PaceStates.st 6;
    ∃ g ∈ s.paceGroup.toList, s.leads = false) := by
  refine ⟨?_, ?_, ?_, ?_, ?_⟩
  · decide +kernel
  · simp only [State.Arrives]; decide +kernel
  · simp only [State.Arrives]; decide +kernel
  · decide +kernel
  · decide +kernel

theorem test_hyps_Partitions_PartitionRequests :
  (let f : Frame := { door := .m, src := 0x1122#48, dst := 0x20000000001#48, ver := 3#8, session := 7#16, seq := 4#16, sound := true, formed := true };
    let s : State := PartitionRequestsBStates.st 1;
    let p : Fin 16 := 0;
    (s.part p.val).st = PartSt.absent ∧ s.Takes (Instr.partitionCreate f p)) ∧
  (let f : Frame := { door := .m, src := 0x1122#48, dst := 0x20000000001#48, ver := 3#8, session := 7#16, seq := 4#16, sound := true, formed := true };
    let s : State := PartitionRequestsBStates.st 2;
    let p : Fin 16 := 0;
    (s.part p.val).st = PartSt.live ∧ s.Takes (Instr.partitionTeardown f p)) ∧
  (let f : Frame := { door := .m, src := 0x1122#48, dst := 0x20000000001#48, ver := 3#8, session := 7#16, seq := 4#16, sound := true, formed := true };
    let s : State := PartitionRequestsBStates.st 3;
    let p : Fin 16 := 0;
    (s.part p.val).st = PartSt.creating ∧ s.Takes (Instr.partitionTeardown f p)) ∧
  (let f : Frame := { door := .m, src := 0x1122#48, dst := 0x20000000001#48, ver := 3#8, session := 7#16, seq := 4#16, sound := true, formed := true };
    let s : State := PartitionRequestsBStates.st 2;
    let p : Fin 16 := 0;
    let v : BitVec 32 := 0#32;
    s.Takes (Instr.peerAdmissionWrite f p v)) ∧
  (let f : Frame := { door := .m, src := 0x1122#48, dst := 0x20000000001#48, ver := 3#8, session := 7#16, seq := 4#16, sound := true, formed := true };
    let s : State := PartitionRequestsBStates.st 2;
    let p : Fin 16 := 0;
    let w : Fin 64 := 0;
    let b : List Byte := ([0, 16] ++ List.replicate 7 0 ++ [1] ++ List.replicate 6 0 ++ [3] ++ List.replicate 15 0);
    (¬∃ q ∈ s.fabric.begun, q.op ≤ 1 ∧ q.dpart = p.val ∧ q.win = w.val) ∧ s.Takes (Instr.fabricWindowWrite f p w b)) ∧
  (let f : Frame := { door := .m, src := 0x1122#48, dst := 0x20000000001#48, ver := 3#8, session := 7#16, seq := 4#16, sound := true, formed := true };
    let s : State := PartitionRequestsBStates.st 5;
    let p : Fin 16 := 0;
    let w : Fin 64 := 5;
    let b : List Byte := ([0, 16] ++ List.replicate 7 0 ++ [1] ++ List.replicate 6 0 ++ [3] ++ List.replicate 15 0);
    (∃ q ∈ s.fabric.begun, q.op ≤ 1 ∧ q.dpart = p.val ∧ q.win = w.val) ∧ s.Takes (Instr.fabricWindowWrite f p w b)) ∧
  (let f : Frame := { door := .m, src := 0x1122#48, dst := 0x20000000001#48, ver := 3#8, session := 7#16, seq := 4#16, sound := true, formed := true };
    let s : State := PartitionRequestsBStates.st 0;
    let v : BitVec 8 := 5#8;
    s.Takes (Instr.createJobSecret f v)) ∧
  (let f : Frame := { door := .m, src := 0x1122#48, dst := 0x20000000001#48, ver := 3#8, session := 7#16, seq := 4#16, sound := true, formed := true };
    let s : State := PartitionRequestsBStates.st 0;
    let v : BitVec 8 := 5#8;
    s.Takes (Instr.makeOffer f v)) ∧
  (let f : Frame := { door := .m, src := 0x1122#48, dst := 0x20000000001#48, ver := 3#8, session := 7#16, seq := 4#16, sound := true, formed := true };
    let s : State := PartitionRequestsBStates.st 0;
    let v : BitVec 8 := 5#8;
    s.Takes (Instr.destroyJobSecret f v)) ∧
  (let f : Frame := { door := .m, src := 0x1122#48, dst := 0x20000000001#48, ver := 3#8, session := 7#16, seq := 4#16, sound := true, formed := true };
    let s : State := PartitionRequestsBStates.st 0;
    let b : List Byte := (List.replicate 9 0 ++ [16] ++ List.replicate 7 0 ++ [32] ++ List.replicate 7 0 ++ [48] ++ List.replicate 6 0 ++ [16] ++ List.replicate 7 0);
    s.Takes (Instr.unsealRequest f b)) := by
  refine ⟨?_, ?_, ?_, ?_, ?_, ?_, ?_, ?_, ?_, ?_⟩ <;>
    (simp only [takes_iff]; decide +kernel)

theorem test_hyps_Partitions_PartitionSteps :
  (let p : Fin 16 := 0;
    let s : State := PartitionStepsStates.st 0;
    let x : Machine.Part := s.part p.val;
    x.st = PartSt.creating ∧ x.held = false) ∧
  (let p : Fin 16 := 0;
    let s : State := PartitionStepsStates.st 1;
    let x : Machine.Part := s.part p.val;
    x.st = PartSt.draining ∧ s.inFlight p.val = 0) ∧
  (let p : Fin 16 := 0;
    let s : State := PartitionStepsStates.st 3;
    let x : Machine.Part := s.part p.val;
    x.st = PartSt.scrubbing ∧ x.recreate = false ∧ s.faults.resets = []) ∧
  (let p : Fin 16 := 0;
    let s : State := PartitionStepsStates.st 3;
    let x : Machine.Part := s.part p.val;
    let n : Fin 288 := 0;
    x.st = PartSt.scrubbing ∧ x.recreate = false ∧ s.faults.resets = [] ∧ x.hasCluster (clusterOf n.val) = true) := by
  refine ⟨?_, ?_, ?_, ?_⟩ <;>
    decide +kernel

theorem test_hyps_StackUpkeep_PatrolAndSpare :
  (let s : State := PatrolAndSpareStates.st 6;
    s.life.svc = Svc.grey) ∧
  (let k : Fin 16 := 0;
    let s : State := PatrolAndSpareStates.st 0;
    let n : ℕ := tget 0 s.memory.patrol k.val;
    let x : ℕ := k.val * (stackSize / 64) + n;
    s.life.svc ≠ Svc.grey ∧ s.stackGated k.val = false ∧ n + 1 < stackSize / 64 ∧ x ∉ s.memory.bad) ∧
  (let k : Fin 16 := 0;
    let s : State := PatrolAndSpareStates.st 0;
    let n : ℕ := tget 0 s.memory.patrol k.val;
    let x : ℕ := k.val * (stackSize / 64) + n;
    s.life.svc ≠ Svc.grey ∧ s.stackGated k.val = false ∧ n + 1 < stackSize / 64 ∧ x ∉ s.memory.bad) ∧
  (let k : Fin 16 := 1;
    let s : State := PatrolAndSpareStates.st 3;
    s.odNum 32785 (k.val + 1) = 1) := by
  refine ⟨?_, ?_, ?_, ?_⟩ <;>
    decide +kernel

theorem test_hyps_DescriptorFlow_PlainDescriptors :
  (let e : Instr × ℕ := ([(Instr.nopDescriptor, OfNat.ofNat 0), (Instr.waitCounter, OfNat.ofNat 5), (Instr.fenceDescriptor, OfNat.ofNat 9)])[0];
    let s : State := PlainDescriptorsStates.st 11;
    let q : ℕ := 0;
    let f : Fetched := { index := 0, slot := 2, bytes := (List.replicate 64 0), since := some 0 };
    s.Front q e.2 f) ∧
  (let s : State := PlainDescriptorsStates.st 14;
    let q : Fin 1024 := 0;
    ∃ f ∈ (s.queue q.val).fetched.head?.toList,
      dType (dNum f.bytes) = 5 ∧
        wtTmo (dNum f.bytes) ≠ 0 ∧
          s.queueHeld q.val = false ∧
            s.frontTurn q.val (dNum f.bytes) = Turn.held ∧
              s.tearing (qPart q.val) = false ∧ s.flight? { queue := q.val, index := f.index : DescRef } = none) ∧
  (let s : State := PlainDescriptorsStates.st 4;
    let q : Fin 1024 := 0;
    ∃ f ∈ (s.queue q.val).fetched.head?.toList,
      dType (dNum f.bytes) = 5 ∧
        wtTmo (dNum f.bytes) ≠ 0 ∧ (s.queueHeld q.val = true ∨ s.frontTurn q.val (dNum f.bytes) = Turn.go)) := by
  refine ⟨?_, ?_, ?_⟩
  · simp only [State.Front]; decide +kernel
  · decide +kernel
  · decide +kernel

theorem test_hyps_PortEvents :
  (let s : State := PortEventsStates.st 0;
    let f : Frame := { door := .m, src := 0x1122#48, dst := 0x20000000001#48, ver := 3#8, session := 7#16, seq := 4#16, sound := true, formed := true };
    let lo : BitVec 8 := 0#8;
    let hi : BitVec 8 := 1#8;
    let fl : BitVec 8 := 0#8;
    let ver : ℕ := 1;
    s.activeRuns = true ∧
      s.handing = false ∧
        f.door = Door.m ∧
          s.accepts f = true ∧
            f.sound = true ∧
              f.formed = true ∧
                fl.toNat ≤ 1 ∧
                  commonVersion lo.toNat hi.toNat = some ver ∧
                    (List.filter (fun (x : Session) => x.door == Door.m) s.mgmt.sessions).length < 4) ∧
  (let s : State := PortEventsStates.st 5;
    let f : Frame := { door := .m, src := 0x1122#48, dst := 0x20000000001#48, ver := 3#8, session := 7#16, seq := 4#16, sound := true, formed := true };
    let lo : BitVec 8 := 0#8;
    let hi : BitVec 8 := 1#8;
    let fl : BitVec 8 := 0#8;
    s.romServes = true ∧
      s.handing = false ∧
        f.door = Door.m ∧
          s.accepts f = true ∧
            f.sound = true ∧
              f.formed = true ∧
                fl.toNat ≤ 1 ∧
                  lo ≤ 1 ∧
                    1 ≤ hi ∧
                      (List.filter (fun (x : Session) => x.door == Door.m) s.mgmt.sessions).length < 4) ∧
  (let s : State := PortEventsStates.st 0;
    let dst : BitVec 48 := 0xffffffffffff#48;
    s.activeRuns = true ∧ dst.toNat = broadcast) ∧
  (let s : State := PortEventsStates.st 0;
    let dst : BitVec 48 := 0#48;
    s.activeRuns = true ∧ dst.toNat ≠ broadcast) ∧
  (let s : State := PortEventsStates.st 0;
    let f : Frame := { door := .m, src := 0x1122#48, dst := 77#48, ver := 3#8, session := 7#16, seq := 4#16, sound := true, formed := true };
    f.door = Door.m ∧ s.accepts f = false) ∧
  (let s : State := PortEventsStates.st 10;
    let f : Frame := { door := Door.h, src := 0x1122#48, dst := 0x20000000001#48, ver := 3#8, session := 7#16, seq := 4#16, sound := true, formed := true };
    f.door = Door.h ∧ s.activeRuns = true ∧ s.handing = true ∧ s.mgmt.mbx.reqTail ≠ s.mgmt.mbx.reqHead) ∧
  (let s : State := PortEventsStates.st 1;
    let d : ℕ := 5;
    let rest : List ℕ := [3];
    s.activeRuns = true ∧ s.odPending 4370 0 = none ∧ s.mgmt.discovers = d :: rest) ∧
  (let s : State := PortEventsStates.st 6;
    let id : BitVec 16 := 7#16;
    let n : BitVec 32 := 2#32;
    let x : Session := { id := 7, slot := 1, door := .m, src := 4386, ver := 3, flags := 1, acked := 1, sent := 2, top := 3, fresh := false, heard := 0, timeout := 30, store := [], xfer := none, early := [], snapGroup := 0 };
    let e : Event := { seq := 2, code := 5, index := 6, sub := 7, time := 8, detail := 9, at_ := 10 };
    s.session? id.toNat = some x ∧
      x.door = Door.m ∧
        List.find? (fun (e : Event) => e.seq == n.toNat) s.mgmt.events = some e ∧
          x.acked < e.seq ∧
            e.seq ≤ x.sent ∧ bit 0 x.flags = true ∧ s.activeRuns = true ∧ e.at_ + 500000000 ≤ s.now) ∧
  (let s : State := PortEventsStates.st 6;
    let id : BitVec 16 := 7#16;
    ∃ x ∈ (s.session? id.toNat).toList, x.heard + x.timeout * 1000000000 ≤ s.now) ∧
  (let s : State := PortEventsStates.st 0;
    let id : BitVec 16 := 7#16;
    ∃ x ∈ (s.session? id.toNat).toList, s.now < x.heard + x.timeout * 1000000000) ∧
  (let s : State := PortEventsStates.st 7;
    let id : BitVec 16 := 7#16;
    let x : Session := { id := 7, slot := 1, door := .m, src := 4386, ver := 3, flags := 1, acked := 0, sent := 0, top := 3, fresh := false, heard := 0, timeout := 30, store := [], xfer := some { write := false, index := 40962, sub := 0, all := false, total := 2, value := [1, 2], segs := [], latched := false, at_ := 0 }, early := [], snapGroup := 0 };
    let u : Xfer := { write := false, index := 40962, sub := 0, all := false, total := 2, value := [1, 2], segs := [], latched := false, at_ := 0 };
    s.session? id.toNat = some x ∧ x.xfer = some u ∧ u.at_ + 5000000000 ≤ s.now) ∧
  (let s : State := PortEventsStates.st 4;
    let id : BitVec 16 := 7#16;
    let x : Session := { id := 7, slot := 1, door := .m, src := 4386, ver := 3, flags := 1, acked := 0, sent := 0, top := 3, fresh := false, heard := 0, timeout := 30, store := [], xfer := some { write := false, index := 40962, sub := 0, all := false, total := 2, value := [1, 2], segs := [], latched := false, at_ := 0 }, early := [], snapGroup := 5 };
    let u : Xfer := { write := false, index := 40962, sub := 0, all := false, total := 2, value := [1, 2], segs := [], latched := false, at_ := 0 };
    s.session? id.toNat = some x ∧ x.xfer = some u ∧ s.now < u.at_ + 5000000000) ∧
  (let s : State := PortEventsStates.st 0;
    s.activeRuns = true ∧
      s.odPending 4354 0 = none ∧
        s.odPending 4356 0 = none ∧ s.odPending 4357 0 = none) ∧
  (let s : State := PortEventsStates.st 0;
    let v : BitVec 16 := 0#16;
    let b : Mbx := s.mgmt.mbx;
    let k : ℕ := (v.toNat + 65536 - b.reqHead) % 65536;
    k ≤ 4 ∧ (b.reqTail + 65536 - b.reqHead) % 65536 ≤ k) ∧
  (let s : State := PortEventsStates.st 0;
    let v : BitVec 16 := 5#16;
    let b : Mbx := s.mgmt.mbx;
    let k : ℕ := (v.toNat + 65536 - b.reqHead) % 65536;
    4 < k) ∧
  (let s : State := PortEventsStates.st 0;
    let v : BitVec 16 := 0#16;
    let b : Mbx := s.mgmt.mbx;
    (v.toNat + 65536 - b.rspHead) % 65536 ≤
        (b.rspTail + 65536 - b.rspHead) % 65536 ∧
      b.held = []) ∧
  (let s : State := PortEventsStates.st 4;
    let id : BitVec 16 := 7#16;
    let x : Session := { id := 7, slot := 1, door := .m, src := 4386, ver := 3, flags := 1, acked := 0, sent := 0, top := 3, fresh := false, heard := 0, timeout := 30, store := [], xfer := some { write := false, index := 40962, sub := 0, all := false, total := 2, value := [1, 2], segs := [], latched := false, at_ := 0 }, early := [], snapGroup := 5 };
    let u : Xfer := { write := false, index := 40962, sub := 0, all := false, total := 2, value := [1, 2], segs := [], latched := false, at_ := 0 };
    s.session? id.toNat = some x ∧
      x.xfer = some u ∧ u.write = false ∧ u.index = 40962 ∧ u.latched = false ∧ x.early = []) := by
  refine ⟨?_, ?_, ?_, ?_, ?_, ?_, ?_, ?_, ?_, ?_, ?_, ?_, ?_, ?_, ?_, ?_, ?_⟩ <;>
    decide +kernel

theorem test_hyps_Power_PowerControl :
  (let s : State := PowerControlStates.st 0;
    s.odPending 12288 0 = none) ∧
  (let s : State := PowerControlStates.st 0;
    s.power.lastStretch + 10000000000 ≤ s.now) := by
  refine ⟨?_, ?_⟩ <;>
    decide +kernel

theorem test_hyps_InsertionToRemoval_PowerPins :
  (let s : State := PowerPinsStates.st 1;
    s.life.present = false) ∧
  (let s : State := PowerPinsStates.st 0;
    s.life.precharge = true) ∧
  (let mv : Fin 72001 := 50000;
    let s : State := PowerPinsStates.st 3;
    s.life.present = true ∧ s.life.blades = false ∧ 50000 ≤ mv.val) ∧
  (let s : State := PowerPinsStates.st 4;
    s.life.present = true ∧
      s.life.precharge = true ∧
        s.life.blades = true ∧
          s.life.bulkReady = true ∧
            inputGood s.life.input = true ∧
              s.life.locked = false ∧
                s.life.holdup = false ∧ s.life.mainSwitch = false ∧ s.life.powerGood = false ∧ s.life.readyAt ≤ s.now) ∧
  (let s : State := PowerPinsStates.st 5;
    s.life.mainSwitch = true ∧ s.life.powerGood = false) ∧
  (let mv : Fin 72001 := 72000;
    64000 < mv.val) ∧
  (let mv : Fin 72001 := 0;
    mv.val < 50000) ∧
  (let v : ℤ := -1;
    v < 0 ∨ 72000 < v) ∧
  (let mv : Fin 72001 := 50000;
    let s : State := PowerPinsStates.st 21;
    s.life.present = true ∧
      s.life.blades = true ∧
        s.life.mainSwitch = false ∧ s.life.absentAt = none ∧ inputGood s.life.input = false ∧ 50000 ≤ mv.val) ∧
  (let mv : Fin 72001 := 50000;
    let s : State := PowerPinsStates.st 20;
    s.life.present = true ∧ s.life.blades = true ∧ s.life.mainSwitch = false ∧ s.life.absentAt ≠ none ∧ 50000 ≤ mv.val) ∧
  (let s : State := PowerPinsStates.st 7;
    s.life.holdup = true) := by
  refine ⟨?_, ?_, ?_, ?_, ?_, ?_, ?_, ?_, ?_, ?_, ?_⟩ <;>
    decide +kernel

theorem test_hyps_Launching_ProgramCopy :
  (let n : Fin 288 := 0;
    let k : Fin 4 := 0;
    let s : State := LaunchStateStates.st 4;
    let x : Ctx := (s.core n.val).slot k.val;
    let l : Launch := x.launch;
    x.st = CtxSt.loading ∧
      s.access (Who.dma n.val) l.part l.prog (8 * l.len) false = Acc.ok ∧
        l.replay = false ∧ s.coreSealed n.val = false ∧ s.sealed (clusterOf n.val) 18 = false) ∧
  (let n : Fin 288 := 0;
    let k : Fin 4 := 0;
    let s : State := LaunchStateStates.st 4;
    let x : Ctx := (s.core n.val).slot k.val;
    let l : Launch := x.launch;
    x.st = CtxSt.loading ∧
      let u : Bool := false;
      let r : Machine.Acc := Acc.ok;
      s.access (Who.dma n.val) l.part (s.readAt n.val k.val l.prog) (8 * l.len) false = r ∧
        s.coreSealed n.val = false ∧ s.sealed (clusterOf n.val) 18 = false ∧ r = Acc.ok ∧ u = false) ∧
  (let n : Fin 288 := 0;
    let k : Fin 4 := 0;
    let s : State := LaunchStateStates.st 9;
    let x : Ctx := (s.core n.val).slot k.val;
    let l : Launch := x.launch;
    x.st = CtxSt.loading ∧
      let u : Bool := false;
      let r : Machine.Acc := Acc.isolation;
      s.access (Who.dma n.val) l.part (s.readAt n.val k.val l.prog) (8 * l.len) false = r ∧
        s.coreSealed n.val = false ∧
          s.sealed (clusterOf n.val) 18 = false ∧
            (r = Acc.address ∨
              r = Acc.bank ∨
                r = Acc.isolation ∨ r = Acc.ok ∧ u = true ∧ s.onChip (s.readAt n.val k.val l.prog) (8 * l.len) = true)) := by
  refine ⟨?_, ?_, ?_⟩ <;>
    decide +kernel

theorem test_hyps_HostRegisters_QueueRegisters :
  (let fn : Fin 17 := 0;
    let q : Fin 1024 := 0;
    let s : State := FunctionRegistersStates.st 5;
    let x : Queue := s.queue q.val;
    s.serving (q.val / 64) = fn.val ∧ x.code = QCode.disabled ∧ s.frozen (q.val / 64) = false) ∧
  (let fn : Fin 17 := 0;
    let q : Fin 1024 := 0;
    let v : Word := 0#64;
    let s : State := FunctionRegistersStates.st 2;
    let x : Queue := s.queue q.val;
    let n : ℕ := BitVec.toNat v / 4096 * 4096 + BitVec.toNat v % 32;
    s.serving (q.val / 64) = fn.val ∧
      (s.frozen (q.val / 64) = true ∨ x.code ≠ QCode.disabled ∧ n ≠ x.ring)) ∧
  (let fn : Fin 17 := 0;
    let q : Fin 1024 := 0;
    let v : Word := 0#64;
    let s : State := FunctionRegistersStates.st 2;
    let x : Queue := s.queue q.val;
    let n : ℕ := BitVec.toNat v / 4096 * 4096 + BitVec.toNat v % 32;
    s.serving (q.val / 64) = fn.val ∧ (s.frozen (q.val / 64) = true ∨ x.code ≠ QCode.disabled ∧ n ≠ x.cq)) ∧
  (let fn : Fin 17 := 0;
    let q : Fin 1024 := 0;
    let v : Word := 0#64;
    let s : State := FunctionRegistersStates.st 18;
    let x : Queue := s.queue q.val;
    s.serving (q.val / 64) = fn.val ∧
      x.code ≠ QCode.disabled ∧
        bits 43 22 (BitVec.toNat v) ≠ bits 43 22 x.ctrl) ∧
  (let fn : Fin 17 := 0;
    let q : Fin 1024 := 0;
    let v : Word := 1#64;
    let s : State := FunctionRegistersStates.st 2;
    let x : Queue := s.queue q.val;
    let h : ℕ := BitVec.toNat v % 2 ^ 16;
    let r : ℕ := x.records;
    s.serving (q.val / 64) = fn.val ∧ h < r ∧ (h + r - x.cqhead % r) % r ≤ (x.cqwr + r - x.cqhead % r) % r) ∧
  (let fn : Fin 17 := 0;
    let q : Fin 1024 := 0;
    let v : Word := 0#64;
    let s : State := FunctionRegistersStates.st 2;
    let x : Queue := s.queue q.val;
    let h : ℕ := BitVec.toNat v % 2 ^ 16;
    let r : ℕ := x.records;
    s.serving (q.val / 64) = fn.val ∧ ¬(h < r ∧ (h + r - x.cqhead % r) % r ≤ (x.cqwr + r - x.cqhead % r) % r)) := by
  refine ⟨?_, ?_, ?_, ?_, ?_, ?_⟩ <;>
    decide +kernel

theorem test_hyps_QueuesAndDoorbells_QueueStates :
  (let fn : Fin 17 := 0;
    let q : Fin 1024 := 0;
    let v : Word := 0#64;
    let s : State := DoorbellsStates.st 3;
    let x : Queue := s.queue q.val;
    s.serving (q.val / 64) = fn.val ∧
      bits 43 22 (BitVec.toNat v) = bits 43 22 x.ctrl ∧
        x.code = QCode.disabled ∧ s.serviceable fn.val q.val = true) ∧
  (let fn : Fin 17 := 0;
    let q : Fin 1024 := 0;
    let v : Word := 0#64;
    let s : State := DoorbellsStates.st 2;
    let x : Queue := s.queue q.val;
    s.serving (q.val / 64) = fn.val ∧
      bits 43 22 (BitVec.toNat v) = bits 43 22 x.ctrl ∧
        x.code = QCode.stopped ∧ s.serviceable fn.val q.val = true) ∧
  (let fn : Fin 17 := 0;
    let q : Fin 1024 := 0;
    let v : Word := 0#64;
    let s : State := DoorbellsStates.st 4;
    let x : Queue := s.queue q.val;
    s.serving (q.val / 64) = fn.val ∧
      bits 43 22 (BitVec.toNat v) = bits 43 22 x.ctrl ∧
        (x.code ∈ [QCode.disabled, QCode.stopped, QCode.guilty] ∧ s.serviceable fn.val q.val = false ∨ x.code = QCode.closing)) ∧
  (let fn : Fin 17 := 0;
    let q : Fin 1024 := 0;
    let v : Word := 0#64;
    let s : State := DoorbellsStates.st 0;
    let x : Queue := s.queue q.val;
    s.serving (q.val / 64) = fn.val ∧
      bits 43 22 (BitVec.toNat v) = bits 43 22 x.ctrl ∧
        (x.code = QCode.enabled ∨ x.code = QCode.stopped ∨ x.code = QCode.guilty) ∧ s.qOut q.val = 0) ∧
  (let fn : Fin 17 := 0;
    let q : Fin 1024 := 0;
    let v : Word := 0#64;
    let s : State := DoorbellsStates.st 6;
    let x : Queue := s.queue q.val;
    s.serving (q.val / 64) = fn.val ∧
      bits 43 22 (BitVec.toNat v) = bits 43 22 x.ctrl ∧
        (x.code = QCode.enabled ∨ x.code = QCode.stopped ∨ x.code = QCode.guilty) ∧ s.qOut q.val ≠ 0) := by
  refine ⟨?_, ?_, ?_, ?_, ?_⟩ <;>
    decide +kernel

theorem test_hyps_HostRegisters_RegisterWrites :
  (let fn : Fin 17 := 16;
    let s : State := FunctionRegistersStates.st 0;
    s.hasFn fn.val = false) ∧
  (let fn : Fin 17 := 0;
    let s : State := FunctionRegistersStates.st 0;
    s.hasFn fn.val = true ∧
      let q : Fin 1024 := 64;
      s.serving (q.val / 64) = fn.val) ∧
  (let fn : Fin 17 := 0;
    let s : State := FunctionRegistersStates.st 0;
    s.hasFn fn.val = true ∧
      let p : Fin 16 := 1;
      s.serving p.val = fn.val) := by
  refine ⟨?_, ?_, ?_⟩ <;>
    decide +kernel

theorem test_hyps_InsertionToRemoval_Removal :
  (let s : State := RemovalStates.st 0;
    s.life.modReset = false ∧
      s.life.powerGood = true ∧ s.activeRuns = true ∧ s.life.svc ≠ Svc.black ∧ s.life.removal = 0) ∧
  (let s : State := RemovalStates.st 16;
    s.life.removal = 1 ∧ ∀ p < 16, (s.part p).st = PartSt.absent) ∧
  (let s : State := RemovalStates.st 18;
    s.life.removal = 2 ∧ s.life.released = none) ∧
  (let s : State := RemovalStates.st 20;
    let r : ℕ := 5;
    s.life.removal = 2 ∧
      s.life.released = some r ∧ (∃ n < 12, (s.link n).txq ≠ []) ∧ s.now < r + 1000000) ∧
  (let s : State := RemovalStates.st 19;
    let r : ℕ := 5;
    s.life.removal = 2 ∧
      s.life.released = some r ∧
        ((∀ n < 12, (s.link n).txq = []) ∨ r + 1000000 ≤ s.now) ∧ s.life.svc ≠ Svc.black) := by
  refine ⟨?_, ?_, ?_, ?_, ?_⟩ <;>
    decide +kernel

theorem test_hyps_FabricEnds_ReplyEnds :
  (let s : State := ReplyEndsStates.st 0;
    let p : Pkt := { op := 3, vc := 0, dst := 33, src := 64, dpart := 0, spart := 3, win := 0, offset := 0, seq := 5, gen := 0, len := 0, ce := false, rcore := 0, rcnt := 0, mark := false, echo := false, dline := false, esc := false, reissue := false, dim := 0, status := 0, hops := 0, aux := 0, keyid := 0, reserved := 0, payload := [], wrap := 0, ridx := 0, tag := 0, die := 0 };
    let r : Req := { pkt := { op := 0, vc := 0, dst := 64, src := 33, dpart := 2, spart := 3, win := 0, offset := 0, seq := 5, gen := 0, len := 1, ce := false, rcore := 0, rcnt := 0, mark := false, echo := false, dline := false, esc := false, reissue := false, dim := 0, status := 0, hops := 0, aux := 0, keyid := 0, reserved := 0, payload := [1], wrap := 0, ridx := 0, tag := 0, die := 0 }, owner := ReqOwner.mop 0 5, tries := 1, at_ := 0, limit := 4, timeout := 100 };
    s.Reply p 3 r) ∧
  (let s : State := ReplyEndsStates.st 1;
    let p : Pkt := { op := 2, vc := 0, dst := 33, src := 64, dpart := 0, spart := 3, win := 0, offset := 0, seq := 5, gen := 0, len := 3, ce := false, rcore := 0, rcnt := 0, mark := false, echo := false, dline := false, esc := false, reissue := false, dim := 0, status := 0, hops := 0, aux := 0, keyid := 0, reserved := 0, payload := [7, 8, 9], wrap := 0, ridx := 0, tag := 0, die := 0 };
    let r : Req := { pkt := { op := 0, vc := 0, dst := 64, src := 33, dpart := 2, spart := 3, win := 0, offset := 0, seq := 5, gen := 0, len := 1, ce := false, rcore := 0, rcnt := 0, mark := false, echo := false, dline := false, esc := false, reissue := false, dim := 0, status := 0, hops := 0, aux := 0, keyid := 0, reserved := 0, payload := [1], wrap := 0, ridx := 0, tag := 0, die := 0 }, owner := ReqOwner.get 0 5 4096, tries := 1, at_ := 0, limit := 4, timeout := 100 };
    s.Reply p 2 r) ∧
  (let s : State := ReplyEndsStates.st 2;
    let p : Pkt := { op := 7, vc := 0, dst := 33, src := 64, dpart := 0, spart := 3, win := 0, offset := 0, seq := 5, gen := 0, len := 0, ce := false, rcore := 0, rcnt := 0, mark := false, echo := false, dline := false, esc := false, reissue := false, dim := 0, status := 1, hops := 0, aux := 0, keyid := 0, reserved := 0, payload := [], wrap := 0, ridx := 0, tag := 0, die := 0 };
    let r : Req := { pkt := { op := 0, vc := 0, dst := 64, src := 33, dpart := 2, spart := 3, win := 0, offset := 0, seq := 5, gen := 0, len := 1, ce := false, rcore := 0, rcnt := 0, mark := false, echo := false, dline := false, esc := false, reissue := false, dim := 0, status := 0, hops := 0, aux := 0, keyid := 0, reserved := 0, payload := [1], wrap := 0, ridx := 0, tag := 0, die := 0 }, owner := ReqOwner.mop 0 5, tries := 1, at_ := 0, limit := 4, timeout := 100 };
    s.Reply p 7 r) ∧
  (let s : State := ReplyEndsStates.st 19;
    let p : Pkt := { op := 3, vc := 0, dst := 33, src := 64, dpart := 0, spart := 3, win := 0, offset := 0, seq := 9, gen := 0, len := 0, ce := false, rcore := 0, rcnt := 0, mark := false, echo := false, dline := false, esc := false, reissue := false, dim := 0, status := 0, hops := 0, aux := 0, keyid := 0, reserved := 0, payload := [], wrap := 0, ridx := 0, tag := 0, die := 0 };
    let e : Instr × ℕ := ([(Instr.fabricReadData (Ecc.ok 0), OfNat.ofNat 2), (Instr.fabricAck, OfNat.ofNat 3), (Instr.fabricError, OfNat.ofNat 7)])[1];
    ∃ x ∈ (List.find? (fun (y : Pkt) => (s.clear y).op == e.2) s.fabric.inbox).toList,
      s.opened x = Except.ok p ∧ List.find? (fun (r : Req) => r.answers p && r.pkt.gen == p.gen) s.fabric.out = none) := by
  refine ⟨?_, ?_, ?_, ?_⟩
  · simp only [State.Reply]; decide +kernel
  · simp only [State.Reply]; decide +kernel
  · simp only [State.Reply]; decide +kernel
  · decide +kernel

theorem test_hyps_FabricEnds_RequestTimeouts :
  (let dst : BitVec 20 := 64#20;
    let part : Fin 16 := 0;
    let seq : BitVec 24 := 5#24;
    let s : State := RequestTimeoutsStates.st 0;
    let found : Option Req :=
      List.find? (fun (r : Req) => r.pkt.dst == dst.toNat && r.pkt.spart == part.val && r.pkt.seq == seq.toNat) s.fabric.out;
    found = none) ∧
  (let dst : BitVec 20 := 64#20;
    let part : Fin 16 := 3;
    let seq : BitVec 24 := 5#24;
    let s : State := RequestTimeoutsStates.st 11;
    let r : Req := { pkt := { op := 0, vc := 0, dst := 64, src := 33, dpart := 2, spart := 3, win := 0, offset := 0, seq := 5, gen := 0, len := 1, ce := false, rcore := 0, rcnt := 0, mark := false, echo := false, dline := false, esc := false, reissue := false, dim := 0, status := 0, hops := 0, aux := 0, keyid := 0, reserved := 0, payload := [1], wrap := 0, ridx := 0, tag := 0, die := 0 }, owner := ReqOwner.pace, tries := 4, at_ := 0, limit := 4, timeout := 100 };
    let found : Option Req :=
      List.find? (fun (r : Req) => r.pkt.dst == dst.toNat && r.pkt.spart == part.val && r.pkt.seq == seq.toNat) s.fabric.out;
    let id : ℕ := 0;
    let u : ℕ := 0;
    found = some r ∧
      (r.owner = ReqOwner.sepia id u ∨ r.owner = ReqOwner.pace) ∧
        s.fabric.stopped = false ∧ r.limit ≤ r.tries ∧ s.fabric.waiting = []) ∧
  (let dst : BitVec 20 := 64#20;
    let part : Fin 16 := 3;
    let seq : BitVec 24 := 5#24;
    let s : State := RequestTimeoutsStates.st 0;
    let r : Req := { pkt := { op := 0, vc := 0, dst := 64, src := 33, dpart := 2, spart := 3, win := 0, offset := 0, seq := 5, gen := 0, len := 1, ce := false, rcore := 0, rcnt := 0, mark := false, echo := false, dline := false, esc := false, reissue := false, dim := 0, status := 0, hops := 0, aux := 0, keyid := 0, reserved := 0, payload := [1], wrap := 0, ridx := 0, tag := 0, die := 0 }, owner := ReqOwner.mop 0 5, tries := 1, at_ := 0, limit := 4, timeout := 100 };
    let found : Option Req :=
      List.find? (fun (r : Req) => r.pkt.dst == dst.toNat && r.pkt.spart == part.val && r.pkt.seq == seq.toNat) s.fabric.out;
    found = some r ∧ s.fabric.stopped = false ∧ r.tries < r.limit) ∧
  (let dst : BitVec 20 := 64#20;
    let part : Fin 16 := 3;
    let seq : BitVec 24 := 5#24;
    let s : State := RequestTimeoutsStates.st 5;
    let r : Req := { pkt := { op := 0, vc := 0, dst := 64, src := 33, dpart := 2, spart := 3, win := 0, offset := 0, seq := 5, gen := 0, len := 1, ce := false, rcore := 0, rcnt := 0, mark := false, echo := false, dline := false, esc := false, reissue := false, dim := 0, status := 0, hops := 0, aux := 0, keyid := 0, reserved := 0, payload := [1], wrap := 0, ridx := 0, tag := 0, die := 0 }, owner := ReqOwner.mop 0 5, tries := 4, at_ := 0, limit := 4, timeout := 100 };
    let found : Option Req :=
      List.find? (fun (r : Req) => r.pkt.dst == dst.toNat && r.pkt.spart == part.val && r.pkt.seq == seq.toNat) s.fabric.out;
    let n : ℕ := 0;
    let id : ℕ := 5;
    let m : MOp := { id := 5, slot := 0, w := 0x8000000000000000#64, d := 0#64, d1 := 0#64, s := 0#64, s1 := 0#64, l := 0#64, phase := MPhase.started, left := 3, err := 0, errInfo := 0 };
    found = some r ∧
      s.fabric.stopped = false ∧
        r.limit ≤ r.tries ∧
          r.owner = ReqOwner.mop n id ∧
            s.mop? n id = some m ∧
              m.err = 0 ∧ ((s.core n).slot m.slot).st ∉ [CtxSt.empty, CtxSt.draining] ∧ s.fabric.waiting = []) ∧
  (let dst : BitVec 20 := 64#20;
    let part : Fin 16 := 3;
    let seq : BitVec 24 := 5#24;
    let s : State := RequestTimeoutsStates.st 9;
    let r : Req := { pkt := { op := 0, vc := 0, dst := 64, src := 33, dpart := 2, spart := 3, win := 0, offset := 0, seq := 5, gen := 0, len := 1, ce := false, rcore := 0, rcnt := 0, mark := false, echo := false, dline := false, esc := false, reissue := false, dim := 0, status := 0, hops := 0, aux := 0, keyid := 0, reserved := 0, payload := [1], wrap := 0, ridx := 0, tag := 0, die := 0 }, owner := ReqOwner.mop 0 5, tries := 1, at_ := 0, limit := 4, timeout := 100 };
    let found : Option Req :=
      List.find? (fun (r : Req) => r.pkt.dst == dst.toNat && r.pkt.spart == part.val && r.pkt.seq == seq.toNat) s.fabric.out;
    found = some r ∧ s.fabric.stopped = true) := by
  refine ⟨?_, ?_, ?_, ?_, ?_⟩ <;>
    decide +kernel

theorem test_hyps_Resets_ResetEnds :
  (let s : State := ResetEndsStates.st 0;
    let k : Fin 9 := 1;
    let g : Fin 512 := 0;
    ∃ r ∈ (List.find? (fun (r : ResetRun) => r.scope == k.val && r.target == g.val) s.faults.resets).toList,
      s.releaseWaits r = false) ∧
  (let s : State := ResetEndsStates.st 0;
    let k : Fin 5 := 1;
    let g : Fin 512 := 0;
    let r : ResetRun := { scope := 1, target := 0, start := 0, fault := false, replay := false, held := false, tags := [], armed := 0 };
    1 ≤ k.val ∧
      k.val ≤ 3 ∧
        List.find? (fun (r : ResetRun) => r.scope == k.val && r.target == g.val && !r.held) s.faults.resets = some r ∧
          let l : ℕ × ℕ := largerScope k.val g.val;
          l.1 ≤ 3 ∧ s.Calm l.1 l.2) ∧
  (let s : State := ResetEndsStates.st 4;
    let g : Fin 512 := 0;
    ∃ r ∈ (List.find? (fun (r : ResetRun) => r.scope == 4 && r.target == g.val && !r.held) s.faults.resets).toList,
      s.life.svc = Svc.grey) ∧
  (let s : State := ResetEndsStates.st 7;
    let c : Bool := false;
    let n : Fin 288 := 0;
    let late : Bool := false;
    { isCluster := c, num := n.val : Fence } ∈ s.faults.fences ∧
      n.val ∉ s.faults.tagWait ∧ (s.fenceBusy { isCluster := c, num := n.val : Fence } = false ∨ late = true)) ∧
  (let s : State := ResetEndsStates.st 9;
    let c : Fin 24 := 1;
    let b : Fin 20 := 17;
    b.val ∈ sealBits ∧ s.phaseOf (epIn c.val b.val) ≠ s.phaseOf (epOut c.val b.val) ∧ s.sealed c.val b.val = false) := by
  refine ⟨?_, ?_, ?_, ?_, ?_⟩
  · decide +kernel
  · simp only [State.Calm]; decide +kernel
  · decide +kernel
  · decide +kernel
  · decide +kernel

theorem test_hyps_Resets_ResetRequests :
  (let f : Frame := { door := .m, src := 0x1122#48, dst := 0x20000000001#48, ver := 3#8, session := 7#16, seq := 4#16, sound := true, formed := true };
    let g : BitVec 28 := 0#28;
    let s : State := ResetRequestsBStates.st 15;
    s.Takes (Instr.resetCore f g)) ∧
  (let f : Frame := { door := .m, src := 0x1122#48, dst := 0x20000000001#48, ver := 3#8, session := 7#16, seq := 4#16, sound := true, formed := true };
    let g : BitVec 28 := 0#28;
    let s : State := ResetRequestsBStates.st 15;
    s.Takes (Instr.resetCluster f g)) ∧
  (let f : Frame := { door := .m, src := 0x1122#48, dst := 0x20000000001#48, ver := 3#8, session := 7#16, seq := 4#16, sound := true, formed := true };
    let g : BitVec 28 := 0#28;
    let s : State := ResetRequestsBStates.st 15;
    s.Takes (Instr.resetComputePart f g)) ∧
  (let f : Frame := { door := .m, src := 0x1122#48, dst := 0x20000000001#48, ver := 3#8, session := 7#16, seq := 4#16, sound := true, formed := true };
    let g : BitVec 28 := 0#28;
    let s : State := ResetRequestsBStates.st 16;
    s.Takes (Instr.legacyCore f g)) ∧
  (let f : Frame := { door := .m, src := 0x1122#48, dst := 0x20000000001#48, ver := 3#8, session := 7#16, seq := 4#16, sound := true, formed := true };
    let g : BitVec 28 := 0#28;
    let s : State := ResetRequestsBStates.st 16;
    s.Takes (Instr.legacyCluster f g)) ∧
  (let f : Frame := { door := .m, src := 0x1122#48, dst := 0x20000000001#48, ver := 3#8, session := 7#16, seq := 4#16, sound := true, formed := true };
    let g : BitVec 28 := 0#28;
    let s : State := ResetRequestsBStates.st 16;
    s.Takes (Instr.legacyPartition f g)) ∧
  (let f : Frame := { door := .m, src := 0x1122#48, dst := 0x20000000001#48, ver := 3#8, session := 7#16, seq := 4#16, sound := true, formed := true };
    let g : BitVec 28 := 0#28;
    let s : State := ResetRequestsBStates.st 15;
    s.Takes (Instr.resetWholeModule f g)) ∧
  (let f : Frame := { door := .m, src := 0x1122#48, dst := 0x20000000001#48, ver := 3#8, session := 7#16, seq := 4#16, sound := true, formed := true };
    let g : BitVec 28 := 0#28;
    let s : State := ResetRequestsBStates.st 16;
    s.Takes (Instr.legacyWholeModule f g)) := by
  refine ⟨?_, ?_, ?_, ?_, ?_, ?_, ?_, ?_⟩ <;>
    (simp only [takes_iff]; decide +kernel)

theorem test_hyps_FabricArrivals_Routing :
  (let n : Fin 12 := 0;
    let s : State := RoutingStates.st 1;
    let p : Pkt := { op := 0, vc := 0, dst := 33, src := 64, dpart := 0, spart := 3, win := 0, offset := 0, seq := 5, gen := 0, len := 3, ce := false, rcore := 0, rcnt := 0, mark := false, echo := false, dline := false, esc := false, reissue := false, dim := 0, status := 0, hops := 0, aux := 0, keyid := 0, reserved := 0, payload := [1, 2, 3], wrap := 0, ridx := 0, tag := 0, die := 0 };
    let rest : List Pkt := [{ op := 1, vc := 0, dst := 33, src := 64, dpart := 0, spart := 3, win := 0, offset := 0, seq := 5, gen := 0, len := 0, ce := false, rcore := 0, rcnt := 0, mark := false, echo := false, dline := false, esc := false, reissue := false, dim := 0, status := 0, hops := 0, aux := 0, keyid := 0, reserved := 0, payload := [], wrap := 0, ridx := 0, tag := 0, die := 0 }];
    let l : Link := s.link n.val;
    l.rx = p :: rest ∧ p.malformed = false ∧ p.dst = s.own ∧ s.own ≠ 1048575) ∧
  (let n : Fin 12 := 0;
    let s : State := RoutingStates.st 20;
    let p : Pkt := { op := 0, vc := 0, dst := 33, src := 64, dpart := 0, spart := 3, win := 0, offset := 0, seq := 5, gen := 0, len := 0, ce := false, rcore := 0, rcnt := 0, mark := false, echo := false, dline := false, esc := false, reissue := false, dim := 0, status := 0, hops := 0, aux := 0, keyid := 0, reserved := 1, payload := [], wrap := 0, ridx := 0, tag := 0, die := 0 };
    let rest : List Pkt := [];
    let l : Link := s.link n.val;
    l.rx = p :: rest ∧ p.malformed = true) ∧
  (let n : Fin 12 := 0;
    let s : State := RoutingStates.st 0;
    let p : Pkt := { op := 0, vc := 0, dst := 33, src := 64, dpart := 0, spart := 3, win := 0, offset := 0, seq := 5, gen := 0, len := 0, ce := false, rcore := 0, rcnt := 0, mark := false, echo := false, dline := false, esc := false, reissue := false, dim := 0, status := 0, hops := 0, aux := 0, keyid := 0, reserved := 0, payload := [], wrap := 0, ridx := 0, tag := 0, die := 0 };
    let rest : List Pkt := [{ op := 1, vc := 0, dst := 33, src := 64, dpart := 0, spart := 3, win := 0, offset := 0, seq := 5, gen := 0, len := 0, ce := false, rcore := 0, rcnt := 0, mark := false, echo := false, dline := false, esc := false, reissue := false, dim := 0, status := 0, hops := 0, aux := 0, keyid := 0, reserved := 0, payload := [], wrap := 0, ridx := 0, tag := 0, die := 0 }];
    let l : Link := s.link n.val;
    l.rx = p :: rest ∧ p.malformed = false ∧ (p.dst = 1048575 ∨ s.own = 1048575)) := by
  refine ⟨?_, ?_, ?_⟩ <;>
    decide +kernel

theorem test_hyps_Cooling_SafetyPowerOff :
  (let s : State := SafetyPowerOffStates.st 9;
    let ohms : ℕ := 0;
    s.life.powerGood = true ∧
      ohms < 7000 ∧ 2 ≤ s.thermal.wet ∧ s.life.offRuns = false ∧ s.life.mainSwitch = true) ∧
  (let s : State := SafetyPowerOffStates.st 11;
    let ohms : ℕ := 9000;
    s.life.powerGood = true ∧
      8500 ≤ ohms ∧
        ohms ≤ 11500 ∧ s.life.begun = true ∧ s.thermal.tested = true ∧ s.thermal.leakCause = 0) ∧
  (let s : State := SafetyPowerOffStates.st 1;
    s.life.begun = true ∧ s.handing = false) ∧
  (let s : State := SafetyPowerOffStates.st 0;
    s.life.powerGood = true ∧ s.life.offRuns = false ∧ s.life.mainSwitch = true) ∧
  (let s : State := SafetyPowerOffStates.st 17;
    s.poweringOff = true ∧ s.life.safetyStored = false ∧ s.activeRuns = true ∧ s.handing = false) ∧
  (let s : State := SafetyPowerOffStates.st 18;
    s.poweringOff = true ∧ s.life.safetyStored = true) := by
  refine ⟨?_, ?_, ?_, ?_, ?_, ?_⟩ <;>
    decide +kernel

theorem test_hyps_ScalarOperands :
  (let n : Fin 288 := 0;
    let s : State := ScalarOperandsStates.st 0;
    let k : ℕ := 0;
    let w : Word := 0x518480000000007#64;
    s.Issues n 0 5 k w) ∧
  (let n : Fin 288 := 14;
    let s : State := ScalarOperandsStates.st 2;
    let k : ℕ := 0;
    let w : Word := 0x6184800fffffff9#64;
    s.Issues n 0 6 k w) ∧
  (let n : Fin 288 := 0;
    let s : State := ScalarOperandsStates.st 3;
    let k : ℕ := 2;
    let w : Word := 0x708480000000007#64;
    s.Issues n 0 7 k w) := by
  refine ⟨?_, ?_, ?_⟩ <;>
    (simp only [State.Issues]; decide +kernel)

theorem test_hyps_TraceAndTest_Scrambler :
  (let st : ℕ := 0;
    let bs : List Byte := [1, 2, 3];
    st < 2 ^ 58 ∧
      let i : ℕ := 0;
      i < 8 * bs.length) := by
  decide +kernel

theorem test_hyps_EngineTransfers_ScratchpadDone :
  (let n : Fin 288 := 0;
    let s : State := MoveEngineDoneStates.st 0;
    let q : QOp := { slot := 0, w := 0x1018000000000000#64, sa := 0#64, sb := 0#64, sd := 0x1122334455667788#64, data := 4104 };
    let c : Core := s.core n.val;
    c.vRun = some q ∧
      fGrp q.w = 0 ∧
        fOp q.w = 16 ∧ ∀ i < 8, c.portOk (q.data + i) = true ∧ c.underTest (bankNo (q.data + i)) = false) ∧
  (let n : Fin 288 := 0;
    let s : State := MoveEngineDoneStates.st 2;
    let q : QOp := { slot := 0, w := 0x1118000000000000#64, sa := 0#64, sb := 0#64, sd := 0x1122334455667788#64, data := 4104 };
    let c : Core := s.core n.val;
    c.vRun = some q ∧
      fGrp q.w = 0 ∧
        fOp q.w = 17 ∧ ∀ i < 8, c.portOk (q.data + i) = true ∧ c.underTest (bankNo (q.data + i)) = false) ∧
  (let n : Fin 288 := 0;
    let s : State := MoveEngineDoneStates.st 3;
    let q : QOp := { slot := 0, w := 0x1118000000000000#64, sa := 0#64, sb := 0#64, sd := 0x1122334455667788#64, data := 4104 };
    let c : Core := s.core n.val;
    let x : Ctx := c.slot q.slot;
    c.vRun = some q ∧
      fGrp q.w = 0 ∧
        (∃ i < 8, c.portOk (q.data + i) = false) ∧
          (∀ i < 8, c.underTest (bankNo (q.data + i)) = false) ∧ x.st ≠ CtxSt.empty ∧ x.st ≠ CtxSt.draining) := by
  refine ⟨?_, ?_, ?_⟩ <;>
    decide +kernel

theorem test_hyps_Sectors_SectorReads :
  (let p : Fin 16 := 0;
    let addr : Addr := 0x1000#44;
    let s : State := SectorReadsStates.st 4;
    let x : ℕ := BitVec.toNat addr / 64 * 64;
    let k : ℕ := stackOf x;
    BitVec.toNat addr < 824633720832 ∧
      s.reach p.val x false = Reach.ok ∧
        s.stackGated k = false ∧
          s.restoring (x / 64) = false ∧
            x / 64 ∉ s.memory.bad ∧
              s.odPending 32833 0 = none ∧
                (∀ h ∈ s.memory.held, h.part = p.val → x / 64 ∉ sectorsOf h.addr h.bytes.length) ∧
                  s.odBool 32832 (k + 1) = false) ∧
  (let p : Fin 16 := 0;
    let addr : Addr := 0x1000#44;
    let s : State := SectorReadsStates.st 0;
    let x : ℕ := BitVec.toNat addr / 64 * 64;
    let k : ℕ := stackOf x;
    BitVec.toNat addr < 824633720832 ∧
      s.reach p.val x false = Reach.ok ∧
        s.stackGated k = false ∧
          s.restoring (x / 64) = false ∧
            x / 64 ∉ s.memory.bad ∧
              s.odPending 32833 0 = none ∧
                (∀ h ∈ s.memory.held, h.part = p.val → x / 64 ∉ sectorsOf h.addr h.bytes.length) ∧
                  s.odBool 32832 (k + 1) = true ∧
                    s.odBool 32770 (k + 1) = false ∧
                      x / 64 ∈ (tget Hot.blank s.memory.hot k).lines) ∧
  (let p : Fin 16 := 0;
    let addr : Addr := 0x800000#44;
    let s : State := SectorReadsStates.st 0;
    let x : ℕ := BitVec.toNat addr / 64 * 64;
    BitVec.toNat addr < 824633720832 ∧ s.reach p.val x false = Reach.address) ∧
  (let p : Fin 16 := 0;
    let addr : Addr := 0x1000#44;
    let s : State := SectorReadsStates.st 3;
    let x : ℕ := BitVec.toNat addr / 64 * 64;
    BitVec.toNat addr < 824633720832 ∧ s.reach p.val x false = Reach.isolation) := by
  refine ⟨?_, ?_, ?_, ?_⟩ <;>
    decide +kernel

theorem test_hyps_Sectors_SectorWrites :
  (let addr : Addr := 0x1000#44;
    let s : State := SectorWritesStates.st 16;
    let a : ℕ := BitVec.toNat addr;
    s.stackGated (stackOf a) = true) ∧
  (let p : Fin 16 := 0;
    let q : Fin 16 := 0;
    let addr : Addr := 0x1000#44;
    let bs : List Byte := [1, 2, 3];
    let s : State := SectorWritesStates.st 0;
    let a : ℕ := BitVec.toNat addr;
    let k : ℕ := a / 64;
    s.stackGated (stackOf a) = false ∧
      a < 824633720832 ∧
        0 < bs.length ∧
          a % 64 + bs.length ≤ 64 ∧
            s.reachAll p.val a bs.length true = Reach.ok ∧
              k ∉ s.memory.bad ∧ s.holder a = some q.val ∧ s.gate a bs.length = Gate.go) ∧
  (let p : Fin 16 := 0;
    let q : Fin 16 := 0;
    let addr : Addr := 0x1000#44;
    let bs : List Byte := [1, 2, 3];
    let s : State := SectorWritesStates.st 10;
    let a : ℕ := BitVec.toNat addr;
    let k : ℕ := a / 64;
    s.stackGated (stackOf a) = false ∧
      a < 824633720832 ∧
        0 < bs.length ∧
          a % 64 + bs.length ≤ 64 ∧
            s.reachAll p.val a bs.length true = Reach.ok ∧
              k ∉ s.memory.bad ∧ s.holder a = some q.val ∧ s.gate a bs.length = Gate.wait) ∧
  (let p : Fin 16 := 0;
    let q : Fin 16 := 0;
    let addr : Addr := 0x1000#44;
    let bs : List Byte := [1, 2, 3];
    let s : State := SectorWritesStates.st 2;
    let a : ℕ := BitVec.toNat addr;
    let k : ℕ := a / 64;
    s.stackGated (stackOf a) = false ∧
      a < 824633720832 ∧
        0 < bs.length ∧
          a % 64 + bs.length ≤ 64 ∧
            s.reachAll p.val a bs.length true = Reach.ok ∧
              k ∉ s.memory.bad ∧
                s.holder a = some q.val ∧
                  let r : ℕ := 0;
                  let j : ℕ := 64;
                  let n : ℕ := 1;
                  s.gate a bs.length = Gate.full r j n) ∧
  (let p : Fin 16 := 0;
    let q : Fin 16 := 0;
    let addr : Addr := 0x1000#44;
    let bs : List Byte := [1, 2, 3];
    let s : State := SectorWritesStates.st 15;
    let a : ℕ := BitVec.toNat addr;
    let k : ℕ := a / 64;
    s.stackGated (stackOf a) = false ∧
      a < 824633720832 ∧
        0 < bs.length ∧
          a % 64 + bs.length ≤ 64 ∧
            s.reachAll p.val a bs.length true = Reach.ok ∧
              k ∉ s.memory.bad ∧
                s.holder a = some q.val ∧
                  let r : ℕ := 0;
                  s.gate a bs.length = Gate.drop r) := by
  refine ⟨?_, ?_, ?_, ?_, ?_⟩ <;>
    decide +kernel

theorem test_hyps_SepiaWork_SepiaChecks :
  (let e : (ℕ → List Ecc → Instr) × ℕ := ([(Instr.sepiaLookup, OfNat.ofNat 1), (Instr.sepiaPool, OfNat.ofNat 2), (Instr.scatterAdd, OfNat.ofNat 3), (Instr.rowUpdate, OfNat.ofNat 4), (Instr.streamCopy, OfNat.ofNat 5), (Instr.sepiaFill, OfNat.ofNat 6)])[0];
    let id : ℕ := 3;
    let x : SCmd := { id := 3, who := Issuer.desc { queue := 0, index := 0 }, part := 0, seed := 99, bits := 93291632325040043295375906359586575838174298312227347047086485186492854999076137658766669727218269217136846674888451793836867789566322280304840007483392, done := false, status := 0, units := [], refused := [], lost := false };
    let s : State := SepiaChecksStates.st 10;
    s.InTurn id e.2 x ∧ s.cmCheck x.part x.bits ≠ 0) := by
  simp only [State.InTurn]; decide +kernel

theorem test_hyps_SepiaWork_SepiaCommands :
  (let id : ℕ := 3;
    let x : SCmd := { id := 3, who := Issuer.desc { queue := 0, index := 0 }, part := 0, seed := 99, bits := 261871248631691349601055175746207932177331363683445183158663309447690703712373964390661607386097440979012483237319764720880062512192702677913063118602240, done := false, status := 0, units := [], refused := [], lost := false };
    let s : State := SepiaCommandsStates.st 1;
    let c : ℕ := x.bits;
    let p : ℕ := x.part;
    s.cmCheck p c = 0 ∧
      cmGlob c = false ∧
        cmRce c = false ∧
          cmCount c = 1 ∧
            s.InTurn id 5 x ∧
              (fun (a len : ℕ) => s.access Who.sepia p a len false = Acc.ok) (cmSrc c) 64 ∧
                (s.hotRange p (cmSrc c) 64).2 ≠ []) ∧
  (let id : ℕ := 3;
    let x : SCmd := { id := 3, who := Issuer.desc { queue := 0, index := 0 }, part := 0, seed := 99, bits := 314245498358029619521266210895449518612797636420134219790395971337228844454848757268793928863286799086485123460305382699334725180191960928867201746731008, done := false, status := 0, units := [], refused := [], lost := false };
    let s : State := SepiaCommandsStates.st 0;
    let seen : List Ecc := [];
    let c : ℕ := x.bits;
    let p : ℕ := x.part;
    s.cmCheck p c = 0 ∧
      cmGlob c = false ∧
        cmRce c = false ∧
          cmCount c = 1 ∧
            (∀ e ∈ seen, e = Ecc.ok 0) ∧
              s.InTurn id 6 x ∧
                (fun (a len : ℕ) => s.access Who.sepia p a len true = Acc.ok) (cmDst c) 64) ∧
  (let id : ℕ := 3;
    let x : SCmd := { id := 3, who := Issuer.desc { queue := 0, index := 0 }, part := 0, seed := 99, bits := 261871248631691349601055175746207932177331363683445183158663309447690703712373964390661607386097440979012483237319764720880062512192702677913063118602240, done := false, status := 0, units := [], refused := [], lost := false };
    let s : State := SepiaCommandsStates.st 1;
    let seen : List Ecc := [];
    let c : ℕ := x.bits;
    let p : ℕ := x.part;
    s.cmCheck p c = 0 ∧
      cmGlob c = false ∧
        cmRce c = false ∧
          cmCount c = 1 ∧
            (∀ e ∈ seen, e = Ecc.ok 0) ∧
              s.InTurn id 5 x ∧
                (fun (a len : ℕ) => s.access Who.sepia p a len false = Acc.ok) (cmSrc c) 64 ∧
                  (fun (a len : ℕ) => s.access Who.sepia p a len true = Acc.ok) (cmDst c) 64) ∧
  (let id : ℕ := 3;
    let x : SCmd := { id := 3, who := Issuer.desc { queue := 0, index := 0 }, part := 0, seed := 99, bits := 52374249726338269920211035149241586435466272736689037178545343085291182544017705722725793573157021456221536484821622485068067415574959578027161481641984, done := false, status := 0, units := [], refused := [], lost := false };
    let s : State := SepiaCommandsStates.st 2;
    let seen : List Ecc := [];
    let c : ℕ := x.bits;
    let p : ℕ := x.part;
    let t : ℕ := cmTable c;
    let f : Fmt := (tbFormat t).getD Fmt.binary32;
    let n : ℕ := tbElems t;
    let r : ℕ := leNat (s.rdRange p (cmSrc c) 4);
    s.cmCheck p c = 0 ∧
      cmGlob c = false ∧
        cmRce c = false ∧
          cmCount c = 1 ∧
            (∀ e ∈ seen, e = Ecc.ok 0) ∧
              s.InTurn id 1 x ∧
                (fun (a len : ℕ) => s.access Who.sepia p a len false = Acc.ok) (cmSrc c) 4 ∧
                  (fun (a len : ℕ) => s.access Who.sepia p a len true = Acc.ok) (cmDst c) (outBytes c) ∧
                    r < tbRows t ∧ (fun (a len : ℕ) => s.access Who.sepia p a len false = Acc.ok) (tbRow t r) (n * fmtBytes f)) ∧
  (let id : ℕ := 3;
    let x : SCmd := { id := 3, who := Issuer.desc { queue := 0, index := 0 }, part := 0, seed := 99, bits := 52374249726338269920211035149241586435466272736689037178545343085291182544017705722725793573157806093938459819917101958745968373876972372457719485956096, done := false, status := 0, units := [], refused := [], lost := false };
    let s : State := SepiaCommandsStates.st 3;
    let seen : List Ecc := [];
    let c : ℕ := x.bits;
    let p : ℕ := x.part;
    let t : ℕ := cmTable c;
    let r : ℕ := leNat (s.rdRange p (cmSrc c) 4);
    s.cmCheck p c = 0 ∧
      cmGlob c = false ∧
        cmRce c = false ∧
          cmCount c = 1 ∧
            (∀ e ∈ seen, e = Ecc.ok 0) ∧
              s.InTurn id 1 x ∧
                (fun (a len : ℕ) => s.access Who.sepia p a len false = Acc.ok) (cmSrc c) 4 ∧
                  tbRows t ≤ r ∧
                    let s' : State := s.odAdd 32848 (p + 1) 1;
                    s'.access Who.sepia p (cmDst c) (outBytes c) true = Acc.ok) ∧
  (let id : ℕ := 3;
    let x : SCmd := { id := 3, who := Issuer.desc { queue := 0, index := 0 }, part := 0, seed := 99, bits := 104748499452676539840422070298483172870932545473378073810278004974829323286492498600858115050371487970635723430862583621215543520423643254090006819504384, done := false, status := 0, units := [], refused := [], lost := false };
    let s : State := SepiaCommandsStates.st 5;
    let seen : List Ecc := [];
    let c : ℕ := x.bits;
    let p : ℕ := x.part;
    let t : ℕ := cmTable c;
    let f : Fmt := (tbFormat t).getD Fmt.binary32;
    let n : ℕ := tbElems t;
    let r : ℕ := leNat (s.rdRange p (cmSrc c) 4);
    s.cmCheck p c = 0 ∧
      cmGlob c = false ∧
        cmRce c = false ∧
          cmCount c = 1 ∧
            (∀ e ∈ seen, e = Ecc.ok 0) ∧
              s.InTurn id 2 x ∧
                cmMode c = 0 ∧
                  cmOfmt c = 0 ∧
                    cmBags c = 1 ∧
                      (fun (a len : ℕ) => s.access Who.sepia p a len false = Acc.ok) (cmSrc c) 4 ∧
                        (fun (a len : ℕ) => s.access Who.sepia p a len false = Acc.ok) (cmAux c) 8 ∧
                          s.words32 p (cmAux c) 2 = [0, 1] ∧
                            r < tbRows t ∧
                              (fun (a len : ℕ) => s.access Who.sepia p a len false = Acc.ok) (tbRow t r) (n * fmtBytes f) ∧
                                (fun (a len : ℕ) => s.access Who.sepia p a len true = Acc.ok) (cmDst c) (n * 4)) ∧
  (let id : ℕ := 3;
    let x : SCmd := { id := 3, who := Issuer.desc { queue := 0, index := 0 }, part := 0, seed := 99, bits := 157122749179014809760633105447724759306398818210067110442010666864367464028967291478990436527573400281579137015375873178516604292324424240433617780604928, done := false, status := 0, units := [], refused := [], lost := false };
    let s : State := SepiaCommandsStates.st 6;
    let seen : List Ecc := [];
    let c : ℕ := x.bits;
    let p : ℕ := x.part;
    let t : ℕ := cmTable c;
    let f : Fmt := (tbFormat t).getD Fmt.binary32;
    let n : ℕ := tbElems t;
    let r' : ℕ := leNat (s.rdRange p (cmAux c) 4);
    s.cmCheck p c = 0 ∧
      cmGlob c = false ∧
        cmRce c = false ∧
          cmCount c = 1 ∧
            (∀ e ∈ seen, e = Ecc.ok 0) ∧
              s.InTurn id 3 x ∧
                cmMode c = 0 ∧
                  (fun (a len : ℕ) => s.access Who.sepia p a len false = Acc.ok) (cmAux c) 4 ∧
                    r' < tbRows t ∧
                      (fun (a len : ℕ) => s.access Who.sepia p a len false = Acc.ok) (cmSrc c) (4 * n) ∧
                        (fun (a len : ℕ) => s.access Who.sepia p a len false = Acc.ok) (tbRow t r') (n * fmtBytes f) ∧
                          (fun (a len : ℕ) => s.access Who.sepia p a len true = Acc.ok) (tbRow t r') (n * fmtBytes f)) ∧
  (let id : ℕ := 3;
    let x : SCmd := { id := 3, who := Issuer.desc { queue := 0, index := 0 }, part := 0, seed := 99, bits := 209496998905353079680844140596966345741865090946756147073743328753905604771442084357122758004787866795993324675040680667644020926201575254034442413408256, done := false, status := 0, units := [], refused := [], lost := false };
    let s : State := SepiaCommandsStates.st 8;
    let seen : List Ecc := [];
    let c : ℕ := x.bits;
    let p : ℕ := x.part;
    let t : ℕ := cmTable c;
    let n : ℕ := tbElems t;
    let r' : ℕ := leNat (s.rdRange p (cmAux c) 4);
    s.cmCheck p c = 0 ∧
      cmGlob c = false ∧
        cmRce c = false ∧
          cmCount c = 1 ∧
            (∀ e ∈ seen, e = Ecc.ok 0) ∧
              s.InTurn id 4 x ∧
                cmMode c = 0 ∧
                  tbFmt t = 0 ∧
                    (fun (a len : ℕ) => s.access Who.sepia p a len false = Acc.ok) (cmAux c) 4 ∧
                      (fun (a len : ℕ) => s.access Who.sepia p a len false = Acc.ok) (cmDst c) 64 ∧
                        r' < tbRows t ∧
                          (fun (a len : ℕ) => s.access Who.sepia p a len false = Acc.ok) (cmSrc c) (4 * n) ∧
                            (fun (a len : ℕ) => s.access Who.sepia p a len false = Acc.ok) (tbRow t r') (n * 4) ∧
                              (fun (a len : ℕ) => s.access Who.sepia p a len true = Acc.ok) (tbRow t r') (n * 4)) := by
  refine ⟨?_, ?_, ?_, ?_, ?_, ?_, ?_, ?_⟩ <;>
    (simp only [State.InTurn]; decide +kernel)

theorem test_hyps_SepiaEnds_SepiaFaults :
  (let k : Fin 16 := 0;
    let s : State := SepiaFaultsStates.st 0;
    s.odBool 32770 (k.val + 1) = false ∧
      ∃ x ∈ List.take 8 (s.onStack k.val), s.cmdWaits x = false) ∧
  (let k : Fin 16 := 0;
    let s : State := SepiaFaultsStates.st 9;
    s.odBool 32770 (k.val + 1) = true ∨
      ∀ x ∈ List.take 8 (s.onStack k.val), s.cmdWaits x = true) ∧
  (let k : Fin 16 := 0;
    let s : State := SepiaFaultsStates.st 10;
    s.odBool 32770 (k.val + 1) = true) := by
  refine ⟨?_, ?_, ?_⟩ <;>
    decide +kernel

theorem test_hyps_SepiaEnds_SepiaReports :
  (let id : ℕ := 3;
    let x : SCmd := { id := 3, who := Issuer.desc { queue := 0, index := 0 }, part := 0, seed := 99, bits := 314245498358029619521266210895449518612797636420134220337208652532981886256391670113387400959216799824821697853498756586959032606413586311404515619766272, done := true, status := 0, units := [], refused := [], lost := false };
    let s : State := SepiaReportsStates.st 1;
    List.find? (fun (y : SCmd) => y.id == id) s.sepia.cmds = some x ∧
      x.done = true ∧
        x.status ≤ 1 ∧
          s.cmdLeft id = 0 ∧
            x.lost = false ∧
              1 ≤ cmOp x.bits ∧
                cmOp x.bits ≤ 6 ∧
                  ∃ y ∈ s.sepia.cmds,
                    (fun (y : SCmd) =>
                        y.id < id ∧ y.who.same x.who = true ∧ ∃ k ∈ s.cmdStacks x.part x.bits, k ∈ s.cmdStacks y.part y.bits)
                      y) ∧
  (let id : ℕ := 3;
    let x : SCmd := { id := 3, who := Issuer.desc { queue := 0, index := 0 }, part := 0, seed := 99, bits := 314245498358029619521266210895449518612797636420134220337208652532981886256391670113387400959216799824821697853498756586959032606413586311404515619766272, done := true, status := 0, units := [], refused := [], lost := false };
    let s : State := SepiaReportsStates.st 2;
    List.find? (fun (y : SCmd) => y.id == id) s.sepia.cmds = some x ∧
      x.done = true ∧
        x.status ≤ 1 ∧
          s.cmdLeft id = 0 ∧
            x.lost = false ∧
              1 ≤ cmOp x.bits ∧
                cmOp x.bits ≤ 6 ∧
                  (∀ y ∈ s.sepia.cmds,
                      ¬(fun (y : SCmd) =>
                            y.id < id ∧ y.who.same x.who = true ∧ ∃ k ∈ s.cmdStacks x.part x.bits, k ∈ s.cmdStacks y.part y.bits)
                          y) ∧
                    (∀ k < 16, s.odPending 32770 (k + 1) = none) ∧
                      let d : DescRef := { queue := 0, index := 0 };
                      let f : Flight := { ref := { queue := 0, index := 0 }, part := 0, slot := 2, bytes := ([3, 1] ++ List.replicate 126 0), units := 1, ends := [], started := 0, finished := false, force := none, detail := 0, silent := false };
                      x.who = Issuer.desc d ∧ s.flight? d = some f ∧ f.finished = false ∧ s.tearing f.part = false) ∧
  (let id : ℕ := 3;
    let x : SCmd := { id := 3, who := Issuer.core 0 5, part := 0, seed := 99, bits := 314245498358029619521266210895449518612797636420134220337208652532981886256391670113387400959216799824821697853498756586959032606413586311404515619766272, done := true, status := 0, units := [], refused := [], lost := false };
    let s : State := SepiaReportsStates.st 5;
    List.find? (fun (y : SCmd) => y.id == id) s.sepia.cmds = some x ∧
      x.done = true ∧
        x.status ≤ 1 ∧
          s.cmdLeft id = 0 ∧
            x.lost = false ∧
              1 ≤ cmOp x.bits ∧
                cmOp x.bits ≤ 6 ∧
                  (∀ y ∈ s.sepia.cmds,
                      ¬(fun (y : SCmd) =>
                            y.id < id ∧ y.who.same x.who = true ∧ ∃ k ∈ s.cmdStacks x.part x.bits, k ∈ s.cmdStacks y.part y.bits)
                          y) ∧
                    (∀ k < 16, s.odPending 32770 (k + 1) = none) ∧
                      let n : ℕ := 0;
                      let i : ℕ := 5;
                      let m : MOp := { id := 5, slot := 0, w := 0x8500011c00000000#64, d := 0#64, d1 := 0#64, s := 0#64, s1 := 0#64, l := 0#64, phase := MPhase.started, left := 0, err := 0, errInfo := 0 };
                      x.who = Issuer.core n i ∧
                        s.mop? n i = some m ∧
                          m.err = 0 ∧
                            s.sealed (clusterOf n) 18 = false ∧ ∀ y ∈ (s.core n).mops, y.phase ≠ MPhase.queued) := by
  refine ⟨?_, ?_, ?_⟩ <;>
    decide +kernel

theorem test_hyps_ObjectRequests_ServiceRequests :
  (let f : Frame := { door := .m, src := 0x1122#48, dst := 0x20000000001#48, ver := 3#8, session := 7#16, seq := 4#16, sound := true, formed := true };
    let s : State := BlockRequestsStates.st 0;
    s.life.removal = 0 ∧ s.Takes (Instr.removeCmd f)) ∧
  (let f : Frame := { door := .m, src := 0x1122#48, dst := 0x20000000001#48, ver := 3#8, session := 7#16, seq := 4#16, sound := true, formed := true };
    let s : State := BlockRequestsStates.st 11;
    s.Takes (Instr.returnToService f)) ∧
  (let f : Frame := { door := .m, src := 0x1122#48, dst := 0x20000000001#48, ver := 3#8, session := 7#16, seq := 4#16, sound := true, formed := true };
    let s : State := BlockRequestsStates.st 0;
    let v : Bool := false;
    s.Takes (Instr.fabricRelease f v)) ∧
  (let f : Frame := { door := .m, src := 0x1122#48, dst := 0x20000000001#48, ver := 3#8, session := 7#16, seq := 4#16, sound := true, formed := true };
    let s : State := BlockRequestsStates.st 0;
    let c : Fin 24 := 0;
    let v : BitVec 32 := 0#32;
    s.Takes (Instr.defectMarkWrite f c v)) ∧
  (let f : Frame := { door := .m, src := 0x1122#48, dst := 0x20000000001#48, ver := 3#8, session := 7#16, seq := 4#16, sound := true, formed := true };
    let s : State := BlockRequestsStates.st 0;
    let b : List Byte := [];
    s.Takes (Instr.rowRemapListWrite f b)) ∧
  (let f : Frame := { door := .m, src := 0x1122#48, dst := 0x20000000001#48, ver := 3#8, session := 7#16, seq := 4#16, sound := true, formed := true };
    let s : State := BlockRequestsStates.st 0;
    let k : Fin 16 := 0;
    let v : BitVec 32 := 0#32;
    s.Takes (Instr.failingPairsWrite f k v)) ∧
  (let f : Frame := { door := .m, src := 0x1122#48, dst := 0x20000000001#48, ver := 3#8, session := 7#16, seq := 4#16, sound := true, formed := true };
    let s : State := BlockRequestsStates.st 0;
    let v : BitVec 16 := 700#16;
    s.Takes (Instr.powerGrantWrite f v)) ∧
  (let f : Frame := { door := .m, src := 0x1122#48, dst := 0x20000000001#48, ver := 3#8, session := 7#16, seq := 4#16, sound := true, formed := true };
    let s : State := BlockRequestsStates.st 0;
    let b : List Byte := ([0, 0, 0, 0, 136, 19] ++ List.replicate 5002 0);
    s.Takes (Instr.firmwareImagePart f b)) ∧
  (let f : Frame := { door := .m, src := 0x1122#48, dst := 0x20000000001#48, ver := 3#8, session := 7#16, seq := 4#16, sound := true, formed := true };
    let s : State := BlockRequestsStates.st 13;
    s.Takes (Instr.handOver f)) ∧
  (let f : Frame := { door := .m, src := 0x1122#48, dst := 0x20000000001#48, ver := 3#8, session := 7#16, seq := 4#16, sound := true, formed := true };
    let s : State := BlockRequestsStates.st 14;
    s.Takes (Instr.fwComplete f)) ∧
  (let f : Frame := { door := .m, src := 0x1122#48, dst := 0x20000000001#48, ver := 3#8, session := 7#16, seq := 4#16, sound := true, formed := true };
    let s : State := BlockRequestsStates.st 14;
    s.Takes (Instr.fwRevert f)) ∧
  (let f : Frame := { door := .m, src := 0x1122#48, dst := 0x20000000001#48, ver := 3#8, session := 7#16, seq := 4#16, sound := true, formed := true };
    let s : State := BlockRequestsStates.st 13;
    s.Takes (Instr.fwCancel f)) := by
  refine ⟨?_, ?_, ?_, ?_, ?_, ?_, ?_, ?_, ?_, ?_, ?_, ?_⟩ <;>
    (simp only [takes_iff]; decide +kernel)

theorem test_hyps_SessionRequests :
  (let f : Frame := { door := .m, src := 0x1122#48, dst := 0x20000000001#48, ver := 3#8, session := 7#16, seq := 4#16, sound := true, formed := true };
    let s : State := SessionRequestsStates.st 7;
    let x : Session := { id := 7, slot := 1, door := .m, src := 4386, ver := 3, flags := 1, acked := 0, sent := 0, top := 3, fresh := false, heard := 0, timeout := 30, store := [], xfer := none, early := [], snapGroup := 0 };
    let i : BitVec 16 := 0x3000#16;
    s.romServes = true ∧
      s.NextIn f x ∧ (i < 4096 ∨ 4100 < i ∧ i < 45056 ∨ 45062 < i)) ∧
  (let f : Frame := { door := .m, src := 0x1122#48, dst := 0x20000000001#48, ver := 3#8, session := 7#16, seq := 4#16, sound := true, formed := true };
    let s : State := SessionRequestsStates.st 0;
    let x : Session := { id := 7, slot := 1, door := .m, src := 4386, ver := 3, flags := 1, acked := 0, sent := 0, top := 3, fresh := false, heard := 0, timeout := 30, store := [], xfer := none, early := [], snapGroup := 0 };
    s.InSession f x ∧
      let i : BitVec 16 := 0x3000#16;
      let k : BitVec 8 := 0#8;
      let r : ℕ × Bool × List Byte := s.readAny Door.m x.snapGroup i.toNat k.toNat false;
      r.1 = 0 ∧ r.2.2.length ≤ 1024) ∧
  (let f : Frame := { door := .m, src := 0x1122#48, dst := 0x20000000001#48, ver := 3#8, session := 7#16, seq := 4#16, sound := true, formed := true };
    let s : State := SessionRequestsStates.st 0;
    let x : Session := { id := 7, slot := 1, door := .m, src := 4386, ver := 3, flags := 1, acked := 0, sent := 0, top := 3, fresh := false, heard := 0, timeout := 30, store := [], xfer := none, early := [], snapGroup := 0 };
    s.InSession f x ∧
      let i : BitVec 16 := 0x9999#16;
      odInfo i.toNat = none) ∧
  (let f : Frame := { door := .m, src := 0x1122#48, dst := 0x20000000001#48, ver := 3#8, session := 7#16, seq := 4#16, sound := true, formed := true };
    let s : State := SessionRequestsStates.st 1;
    let x : Session := { id := 7, slot := 1, door := .m, src := 4386, ver := 3, flags := 1, acked := 0, sent := 0, top := 3, fresh := false, heard := 0, timeout := 30, store := [], xfer := none, early := [], snapGroup := 0 };
    s.InSession f x ∧
      let i : BitVec 16 := 0x6402#16;
      let k : BitVec 8 := 0#8;
      let r : ℕ × Bool × List Byte := s.readAny Door.m x.snapGroup i.toNat k.toNat false;
      x.xfer = none ∧ r.1 = 0 ∧ segAllowed i.toNat false r.2.2.length = true ∧ r.2.2 ≠ [] ∧ i ≠ 40962) ∧
  (let f : Frame := { door := .m, src := 0x1122#48, dst := 0x20000000001#48, ver := 3#8, session := 7#16, seq := 4#16, sound := true, formed := true };
    let s : State := SessionRequestsStates.st 0;
    let x : Session := { id := 7, slot := 1, door := .m, src := 4386, ver := 3, flags := 1, acked := 0, sent := 0, top := 3, fresh := false, heard := 0, timeout := 30, store := [], xfer := none, early := [], snapGroup := 0 };
    s.InSession f x ∧
      let i : BitVec 16 := 0xb003#16;
      let k : BitVec 8 := 0#8;
      let n : BitVec 32 := 1#32;
      x.xfer = none ∧
        s.writeAdmit Door.m i.toNat k.toNat = 0 ∧ segAllowed i.toNat false n.toNat = true ∧ n ≠ 0) ∧
  (let f : Frame := { door := .m, src := 0x1122#48, dst := 0x20000000001#48, ver := 3#8, session := 7#16, seq := 4#16, sound := true, formed := true };
    let s : State := SessionRequestsStates.st 3;
    let x : Session := { id := 7, slot := 1, door := .m, src := 4386, ver := 3, flags := 1, acked := 0, sent := 0, top := 3, fresh := false, heard := 0, timeout := 30, store := [], xfer := some { write := false, index := 25602, sub := 0, all := false, total := 2000, value := (List.replicate 2000 5), segs := [], latched := false, at_ := 0 }, early := [], snapGroup := 0 };
    s.InSession f x ∧
      let k : BitVec 16 := 0#16;
      ∃ u ∈ x.xfer.toList, u.write = false ∧ u.index ≠ 40962 ∧ 1024 * k.toNat < u.total) ∧
  (let f : Frame := { door := .m, src := 0x1122#48, dst := 0x20000000001#48, ver := 3#8, session := 7#16, seq := 4#16, sound := true, formed := true };
    let s : State := SessionRequestsStates.st 4;
    let x : Session := { id := 7, slot := 1, door := .m, src := 4386, ver := 3, flags := 1, acked := 0, sent := 0, top := 3, fresh := false, heard := 0, timeout := 30, store := [], xfer := some { write := true, index := 25602, sub := 0, all := false, total := 2000, value := (List.replicate 2000 5), segs := [], latched := false, at_ := 0 }, early := [], snapGroup := 0 };
    s.InSession f x ∧
      let k : BitVec 16 := 0#16;
      ∃ u ∈ x.xfer.toList,
        let bs : List Byte := (List.replicate 1024 7);
        u.write = true ∧ u.segs = [] ∧ k = 0 ∧ 1024 < u.total ∧ bs.length = 1024) ∧
  (let f : Frame := { door := .m, src := 0x1122#48, dst := 0x20000000001#48, ver := 3#8, session := 7#16, seq := 4#16, sound := true, formed := true };
    let s : State := SessionRequestsStates.st 5;
    let x : Session := { id := 7, slot := 1, door := .m, src := 4386, ver := 3, flags := 0, acked := 0, sent := 3, top := 3, fresh := false, heard := 0, timeout := 30, store := [], xfer := none, early := [], snapGroup := 0 };
    s.InSession f x ∧
      let n : BitVec 32 := 0#32;
      bit 0 x.flags = false ∧ n.toNat ≤ x.sent) := by
  refine ⟨?_, ?_, ?_, ?_, ?_, ?_, ?_, ?_⟩
  · simp only [State.NextIn]; decide +kernel
  · simp only [State.InSession, State.NextIn]; decide +kernel
  · simp only [State.InSession, State.NextIn]; decide +kernel
  · simp only [State.InSession, State.NextIn]; decide +kernel
  · simp only [State.InSession, State.NextIn]; decide +kernel
  · simp only [State.InSession, State.NextIn]; decide +kernel
  · simp only [State.InSession, State.NextIn]; decide +kernel
  · simp only [State.InSession, State.NextIn]; decide +kernel

theorem test_hyps_HostCounting_SignalCounters :
  (let s : State := PlainDescriptorsStates.st 2;
    let q : ℕ := 0;
    let f : Fetched := { index := 0, slot := 2, bytes := ([6] ++ List.replicate 53 0 ++ [68, 128, 9] ++ List.replicate 7 0), since := some 0 };
    s.Front q 6 f ∧
      let d : ℕ := dNum f.bytes;
      wtCore d = true ∧ s.sealed (clusterOf (wtIdx d)) 17 = true) ∧
  (let s : State := PlainDescriptorsStates.st 31;
    let q : ℕ := 0;
    let f : Fetched := { index := 0, slot := 2, bytes := ([6] ++ List.replicate 53 0 ++ [68, 128, 9] ++ List.replicate 7 0), since := some 0 };
    s.Front q 6 f ∧
      let d : ℕ := dNum f.bytes;
      wtCore d = true ∧ s.sealed (clusterOf (wtIdx d)) 17 = false) ∧
  (let s : State := PlainDescriptorsStates.st 29;
    let q : ℕ := 0;
    let f : Fetched := { index := 0, slot := 2, bytes := ([6] ++ List.replicate 53 0 ++ [64, 0, 9] ++ List.replicate 7 0), since := some 0 };
    s.Front q 6 f ∧
      let d : ℕ := dNum f.bytes;
      wtCore d = false) := by
  refine ⟨?_, ?_, ?_⟩ <;>
    (simp only [State.Front]; decide +kernel)

theorem test_hyps_Firmware_SlateControllers :
  (let s : State := SlateControllersStates.st 8;
    s.life.powerGood = true ∧
      s.fw.state = 0 ∧
        bit 1 (s.odNum 8195 0) = false ∧
          ∀ (b : Bool), (s.slate b).st = SlateSt.restarting ∧ s.bootable (s.slate b).cur true = true) ∧
  (let s : State := SlateControllersStates.st 0;
    s.silenceSeen = true ∧ s.mgmt.held = []) ∧
  (let s : State := SlateControllersStates.st 12;
    s.odNum 45058 0 < s.fw.fuseTo ∧ s.fw.fuseTo < 256) := by
  refine ⟨?_, ?_, ?_⟩ <;>
    decide +kernel

theorem test_hyps_StreamsAndInterfaces :
  (let id : BitVec 32 := 5#32;
    let s : State := StreamsAndInterfacesStates.st 1;
    s.secured 0 id.toNat = true) ∧
  (let id : BitVec 32 := 5#32;
    let s : State := StreamsAndInterfacesStates.st 1;
    let k : Fin 17 := 0;
    let dir : Bool := false;
    let sub : Fin 3 := 0;
    let key : BitVec 256 := 77#256;
    let i : ℕ := ideSub dir sub.val;
    let x : Ide := s.ide k.val;
    s.secured 0 id.toNat = true ∧ tfind x.key i = some key.toNat) ∧
  (let id : BitVec 32 := 5#32;
    let s : State := StreamsAndInterfacesStates.st 0;
    let k : Fin 17 := 0;
    let dir : Bool := false;
    let sub : Fin 3 := 0;
    let key : BitVec 256 := 0#256;
    let i : ℕ := ideSub dir sub.val;
    let x : Ide := s.ide k.val;
    s.secured 0 id.toNat = true ∧ tfind x.key i ≠ some key.toNat) ∧
  (let id : BitVec 32 := 5#32;
    let s : State := StreamsAndInterfacesStates.st 2;
    let k : Fin 17 := 0;
    let dir : Bool := false;
    let sub : Fin 3 := 0;
    let i : ℕ := ideSub dir sub.val;
    let x : Ide := s.ide k.val;
    s.secured 0 id.toNat = true ∧ tget false x.prog i = true) ∧
  (let id : BitVec 32 := 5#32;
    let s : State := StreamsAndInterfacesStates.st 3;
    let p : Fin 16 := 0;
    let tdi : ℕ := s.odNum 24625 (p.val + 1);
    s.hasFn (p.val + 1) = true ∧
      (s.part p.val).secure = true ∧
        (s.part p.val).st ≠ PartSt.absent ∧
          s.secured (p.val + 1) id.toNat = true ∧
            tdi = 0 ∧ (s.part p.val).st = PartSt.live ∧ s.ideSecure (p.val + 1) = true) ∧
  (let id : BitVec 32 := 5#32;
    let s : State := StreamsAndInterfacesStates.st 2;
    let p : Fin 16 := 0;
    let tdi : ℕ := s.odNum 24625 (p.val + 1);
    s.hasFn (p.val + 1) = true ∧
      (s.part p.val).secure = true ∧
        (s.part p.val).st ≠ PartSt.absent ∧
          s.secured (p.val + 1) id.toNat = true ∧
            let n : BitVec 256 := 77#256;
            tdi = 1 ∧ tfind s.sec.nonce p.val = some n.toNat) ∧
  (let id : BitVec 32 := 5#32;
    let s : State := StreamsAndInterfacesStates.st 2;
    let p : Fin 16 := 0;
    let tdi : ℕ := s.odNum 24625 (p.val + 1);
    s.hasFn (p.val + 1) = true ∧
      (s.part p.val).secure = true ∧
        (s.part p.val).st ≠ PartSt.absent ∧
          s.secured (p.val + 1) id.toNat = true ∧
            let n : BitVec 256 := 0#256;
            tdi = 1 ∧ tfind s.sec.nonce p.val ≠ some n.toNat) ∧
  (let id : BitVec 32 := 5#32;
    let s : State := StreamsAndInterfacesStates.st 2;
    let p : Fin 16 := 0;
    let tdi : ℕ := s.odNum 24625 (p.val + 1);
    s.hasFn (p.val + 1) = true ∧
      (s.part p.val).secure = true ∧
        (s.part p.val).st ≠ PartSt.absent ∧
          s.secured (p.val + 1) id.toNat = true ∧ tdi ≠ 0 ∧ (s.part p.val).st = PartSt.live) ∧
  (let id : BitVec 32 := 5#32;
    let s : State := StreamsAndInterfacesStates.st 5;
    let p : Fin 16 := 0;
    let tdi : ℕ := s.odNum 24625 (p.val + 1);
    s.hasFn (p.val + 1) = true ∧
      (s.part p.val).secure = true ∧
        (s.part p.val).st ≠ PartSt.absent ∧
          s.secured (p.val + 1) id.toNat = true ∧
            let fn : Fin 17 := 1;
            fn.val = p.val + 1 ∧ s.serving p.val = p.val + 1 ∧ (tdi = 1 ∨ tdi = 2)) ∧
  (let s : State := StreamsAndInterfacesStates.st 2;
    let p : Fin 16 := 0;
    let fn : Fin 17 := 1;
    fn.val = p.val + 1 ∧
      (s.odNum 24625 (p.val + 1) = 1 ∨
        s.odNum 24625 (p.val + 1) = 2)) := by
  refine ⟨?_, ?_, ?_, ?_, ?_, ?_, ?_, ?_, ?_, ?_⟩ <;>
    decide +kernel

theorem test_hyps_EpochMemory_SweepAndRestore :
  (let k : Fin 16 := 0;
    let p : Fin 16 := 0;
    let s : State := EpochDeliveriesStates.st 3;
    let w : StackWork := { part := 0, stack := 0, colour := 1, restore := false };
    List.find? (fun (w : StackWork) => w.part == p.val && w.stack == k.val && !w.restore) s.memory.work = some w) ∧
  (let k : Fin 16 := 0;
    let p : Fin 16 := 0;
    let s : State := EpochDeliveriesStates.st 4;
    let w : StackWork := { part := 0, stack := 0, colour := 1, restore := true };
    List.find? (fun (w : StackWork) => w.part == p.val && w.stack == k.val && w.restore) s.memory.work = some w ∧
      List.Pairwise (fun (l m : LEntry) => l.sector ≠ m.sector) s.memory.ledger ∧
        ∀ l ∈ s.memory.ledger, l.before.length = 64) := by
  refine ⟨?_, ?_⟩ <;>
    decide +kernel

theorem test_hyps_FabricTiming_TableSwap :
  (let s : State := FabricTimeStates.st 0;
    let q : SwapReq := { table := 1, stop := 5, drain := 6 };
    s.fabric.swap = some q ∧ s.fabric.stopped = false) ∧
  (let s : State := FabricTimeStates.st 1;
    let q : SwapReq := { table := 1, stop := 5, drain := 6 };
    s.fabric.swap = some q ∧ q.table < 2 ∧ s.fabric.stopped = true) ∧
  (let s : State := FabricTimeStates.st 2;
    s.fabric.swap = none ∧ s.fabric.stopped = true ∧ s.fabric.frozen = [] ∧ s.fabric.held = []) := by
  refine ⟨?_, ?_, ?_⟩ <;>
    decide +kernel

theorem test_hyps_Cooling_Temperatures :
  (let s : State := TemperaturesStates.st 0;
    s.life.powerGood = true) ∧
  (let s : State := TemperaturesStates.st 3;
    let k : Fin 196 := 0;
    ∃ since ∈ (tfind s.thermal.suspectAt (k.val + 1)).toList,
      s.sensorSt (k.val + 1) = 1 ∧
        since + 2000000000 ≤ s.now ∧ 200 ≤ s.odNum 13329 0 ∧ s.handing = false) ∧
  (let s : State := TemperaturesStates.st 5;
    ∃ since ∈ s.thermal.lowSince.toList, s.thermal.lowTold = false ∧ since + 5000000000 ≤ s.now) ∧
  (let s : State := TemperaturesStates.st 7;
    s.odPending 13409 0 = none ∧
      s.mgmt.absence ≠ none ∧ s.odNum 13409 0 ≤ s.absenceSeconds) := by
  refine ⟨?_, ?_, ?_, ?_⟩ <;>
    decide +kernel

theorem test_hyps_TensorEngine_TensorAbandoned :
  (let n : Fin 288 := 0;
    let s : State := EngineStartStates.st 0;
    let q : QOp := { slot := 0, w := 0x5101000430000000#64, sa := 0#64, sb := 0#64, sd := 0#64, data := 0 };
    let c : Core := s.core n.val;
    c.tRun = some q ∧
      (∀ o ∈ tReads c q, c.portOk o = true ∧ c.underTest (bankNo o) = false) ∧
        fOp q.w ≠ 4 ∧ (c.slot q.slot).st ≠ CtxSt.empty ∧ (c.slot q.slot).st ≠ CtxSt.draining) := by
  decide +kernel

theorem test_hyps_EngineIssue_TensorIssue :
  (let e : (Fin 288 → Instr) × ℕ := (tensorRows)[0];
    let n : Fin 288 := 0;
    let s : State := CopScratchpadStates.st 5;
    let k : ℕ := 0;
    let w : Word := 0x4100080430000000#64;
    s.Issues n 1 e.2 k w ∧ s.InLine n k ∧ (s.core n.val).tq.length < 8) ∧
  (let n : Fin 288 := 0;
    let s : State := CopScratchpadStates.st 14;
    let k : ℕ := 0;
    let w : Word := 0x4000280000000008#64;
    s.Issues n 1 0 k w ∧
      s.InLine n k ∧
        let a : ℕ := BitVec.toNat (s.sreg n.val k (tSA w) + tIMM w);
        a % 32 = 0 ∧ a ≤ 3145696 ∧ (s.core n.val).tq.length < 8) ∧
  (let n : Fin 288 := 0;
    let s : State := CopScratchpadStates.st 15;
    let k : ℕ := 0;
    let w : Word := 0x4000280000000009#64;
    s.Issues n 1 0 k w ∧
      s.InLine n k ∧
        let a : ℕ := BitVec.toNat (s.sreg n.val k (tSA w) + tIMM w);
        ¬(a % 32 = 0 ∧ a ≤ 3145696)) := by
  refine ⟨?_, ?_, ?_⟩ <;>
    (simp only [State.Issues, State.InLine]; decide +kernel)

theorem test_hyps_TraceAndTest_TestPort :
  (let s : State := TestPortStates.st 0;
    s.life.powerGood = true) := by
  decide +kernel

theorem test_hyps_TraceAndTest_TraceSink :
  (let s : State := TestPortStates.st 0;
    let r : Lilac := { time := 77, kind := 1, code := 1, src := 2, addr := 3, data := 4, part := none, unlocked := false, hide := false };
    let rest : List Lilac := [{ time := 77, kind := 1, code := 2, src := 2, addr := 3, data := 4, part := none, unlocked := false, hide := false }];
    s.trace.src = r :: rest ∧
      s.odPending 41473 0 = none ∧
        s.odNum 41473 0 = 0 ∧
          s.odBool 41476 0 = true ∧ s.trace.portq.length < 1024) ∧
  (let s : State := TestPortStates.st 0;
    let r : Lilac := { time := 77, kind := 1, code := 1, src := 2, addr := 3, data := 4, part := none, unlocked := false, hide := false };
    let rest : List Lilac := [{ time := 77, kind := 1, code := 2, src := 2, addr := 3, data := 4, part := none, unlocked := false, hide := false }];
    s.trace.src = r :: rest ∧
      s.odPending 41473 0 = none ∧ s.odNum 41473 0 = 0) ∧
  (let s : State := TestPortStates.st 2;
    let r : Lilac := { time := 77, kind := 1, code := 1, src := 2, addr := 3, data := 4, part := none, unlocked := false, hide := false };
    let rest : List Lilac := [];
    s.trace.src = r :: rest ∧
      s.odPending 41473 0 = none ∧
        let base : ℕ := 4096;
        let len : ℕ := 4096;
        s.odNum 41473 0 = 1 ∧
          s.odBool 41476 0 = false ∧
            s.ringSet 0 = some (base, len) ∧ s.ringBlocked base len = false) ∧
  (let s : State := TestPortStates.st 0;
    s.life.powerGood = true ∧
      (∀ r ∈ s.faults.resets, r.scope ≠ 4 ∧ r.scope ≠ 8) ∧
        s.odPending 41476 0 = none) := by
  refine ⟨?_, ?_, ?_, ?_⟩ <;>
    decide +kernel

theorem test_hyps_DescriptorKinds_UnitDescriptors :
  (let s : State := EpochDescriptorsStates.st 22;
    let q : ℕ := 0;
    let f : Fetched := { index := 0, slot := 2, bytes := ([2] ++ List.replicate 42 0 ++ [16, 0, 0, 0, 0, 0, 32] ++ List.replicate 7 0 ++ [16] ++ List.replicate 6 0), since := some 0 };
    let d : ℕ := dNum f.bytes;
    s.Front q 2 f ∧ cpyLen d ≠ 0) ∧
  (let s : State := EpochDescriptorsStates.st 21;
    let q : ℕ := 0;
    let f : Fetched := { index := 0, slot := 2, bytes := ([2] ++ List.replicate 48 0 ++ [32] ++ List.replicate 7 0 ++ [16] ++ List.replicate 6 0), since := some 0 };
    let d : ℕ := dNum f.bytes;
    s.Front q 2 f ∧ cpyLen d = 0) ∧
  (let s : State := EpochDescriptorsStates.st 24;
    let q : ℕ := 0;
    let f : Fetched := { index := 0, slot := 2, bytes := ([3, 1] ++ List.replicate 126 0), since := some 0 };
    s.Front q 3 f) ∧
  (let s : State := EpochDescriptorsStates.st 25;
    let q : ℕ := 0;
    let f : Fetched := { index := 0, slot := 2, bytes := ([4] ++ List.replicate 45 0 ++ [1, 0, 0, 0, 0, 4, 0, 0, 0, 0, 32, 0, 0, 0, 0, 0, 16, 0]), since := some 0 };
    let d : ℕ := dNum f.bytes;
    let p : ℕ := qPart q;
    let e : UEnd := { status := 6, sub := 2, detail := 0 };
    let u : ℕ := 1;
    s.Front q 4 f ∧ s.admission p d = Admit.done e u) ∧
  (let s : State := EpochDescriptorsStates.st 26;
    let q : ℕ := 0;
    let f : Fetched := { index := 0, slot := 2, bytes := ([4] ++ List.replicate 45 0 ++ [1, 0, 0, 0, 0, 4, 0, 0, 0, 0, 32, 0, 0, 0, 0, 0, 16, 0]), since := some 0 };
    let d : ℕ := dNum f.bytes;
    let p : ℕ := qPart q;
    let b : List Byte := ([1, 0, 0, 1, 0, 1, 0, 0, 1] ++ List.replicate 7 0 ++ [232, 3, 0, 0, 255, 255, 15, 0, 255, 255, 15, 0, 255, 255, 15, 0, 255, 255, 15, 0, 255, 255, 15, 0, 255, 255, 15, 0, 255, 255, 15, 0, 255, 255, 15, 0, 255, 255, 15, 0, 255, 255, 15, 0, 255, 255, 15, 0, 255, 255, 15, 0, 255, 255, 15] ++ List.replicate 21 0);
    s.Front q 4 f ∧
      s.admission p d = Admit.go b ∧
        gdN b = 1 ∧
          gdRank b = 0 ∧
            gdChildren b = [] ∧ s.colls.grants = [] ∧ ∀ c ∈ s.colls.run, c.ref ≠ { queue := q, index := f.index : DescRef }) := by
  refine ⟨?_, ?_, ?_, ?_, ?_⟩ <;>
    (simp only [State.Front]; decide +kernel)

theorem test_hyps_Firmware_UpdateSteps :
  (let s : State := SlateControllersStates.st 0;
    let e : ℕ := s.verifyEnd s.fw.received;
    s.fw.state = 2 ∧ e ≠ 3) ∧
  (let s : State := SlateControllersStates.st 1;
    s.fw.state = 3 ∧ s.loadsBoth = false) ∧
  (let s : State := SlateControllersStates.st 3;
    s.mgmt.held = [] ∧ s.fw.state = 5) ∧
  (let s : State := SlateControllersStates.st 4;
    s.mgmt.held = [] ∧ s.fw.state = 8 ∧ s.fw.back = true) ∧
  (let s : State := SlateControllersStates.st 6;
    s.fw.state = 7) ∧
  (let s : State := SlateControllersStates.st 5;
    s.fw.state = 8 ∧ s.fw.back = false) ∧
  (let s : State := SlateControllersStates.st 7;
    s.fw.state = 9) := by
  refine ⟨?_, ?_, ?_, ?_, ?_, ?_, ?_⟩ <;>
    decide +kernel

theorem test_hyps_EngineIssue_VectorIssue :
  (let e : (Fin 288 → Instr) × ℕ := (vectorRows)[0];
    let n : Fin 288 := 14;
    let s : State := CopScratchpadStates.st 18;
    let k : ℕ := 0;
    let w : Word := 0xc000000100000000#64;
    s.Issues n 3 e.2 k w ∧ s.InLine n k ∧ (s.core n.val).vq.length < 16) := by
  simp only [State.Issues, State.InLine]; decide +kernel

theorem test_hyps_VectorEngine_VectorLanes :
  (let e : ℕ × (Ctx → QOp → ℕ → Lane) := ([(OfNat.ofNat 7, fun x q x_1 => BitVec.ofNat (OfNat.ofNat 32) (BitVec.toNat q.sa)), (OfNat.ofNat 9, fun x q l => BitVec.ofNat (OfNat.ofNat 32) (BitVec.toNat q.sa + l * BitVec.toNat (vIMMs q.w))), (OfNat.ofNat 16, fun x q l => fadd (x.lane (vVA q.w) l) (x.lane (vVB q.w) l)), (OfNat.ofNat 17, fun x q l => fsub (x.lane (vVA q.w) l) (x.lane (vVB q.w) l)), (OfNat.ofNat 18, fun x q l => fmul (x.lane (vVA q.w) l) (x.lane (vVB q.w) l)), (OfNat.ofNat 19, fun x q l => ffma (x.lane (vVA q.w) l) (x.lane (vVB q.w) l) (x.lane (vVC q.w) l)), (OfNat.ofNat 24, fun x q l => x.lane (vVA q.w) l + x.lane (vVB q.w) l), (OfNat.ofNat 25, fun x q l => x.lane (vVA q.w) l - x.lane (vVB q.w) l), (OfNat.ofNat 26, fun x q l => x.lane (vVA q.w) l * x.lane (vVB q.w) l), (OfNat.ofNat 29, fun x q l => x.lane (vVA q.w) l &&& x.lane (vVB q.w) l), (OfNat.ofNat 30, fun x q l => x.lane (vVA q.w) l ||| x.lane (vVB q.w) l), (OfNat.ofNat 31, fun x q l => x.lane (vVA q.w) l ^^^ x.lane (vVB q.w) l), (OfNat.ofNat 38, fun x q l => if bit l (BitVec.toNat (x.pred (vVC q.w % OfNat.ofNat 8))) = true then x.lane (vVA q.w) l else x.lane (vVB q.w) l), (OfNat.ofNat 44, fun x q l => x.lane (vVA q.w) (BitVec.toNat (x.lane (vVB q.w) l) % OfNat.ofNat 64)), (OfNat.ofNat 45, fun x q l => x.lane (vVA q.w) ((BitVec.ofNat (OfNat.ofNat 64) l + q.sa + vIMMs q.w).toNat % OfNat.ofNat 64))])[0];
    let n : Fin 288 := 0;
    let s : State := VectorLanesStates.st 0;
    let q : QOp := { slot := 0, w := 0xc708443000000003#64, sa := 67#64, sb := 5#64, sd := 0#64, data := 0 };
    let c : Core := s.core n.val;
    c.vRun = some q ∧ fGrp q.w = 3 ∧ fOp q.w = e.1) := by
  decide +kernel

theorem test_hyps_VectorEngine_VectorScalarsAndPredicates :
  (let n : Fin 288 := 0;
    let s : State := VectorLanesStates.st 45;
    let q : QOp := { slot := 0, w := 0xc808443000000003#64, sa := 67#64, sb := 5#64, sd := 0#64, data := 0 };
    let c : Core := s.core n.val;
    c.vRun = some q ∧ fGrp q.w = 3 ∧ fOp q.w = 8) ∧
  (let n : Fin 288 := 0;
    let s : State := VectorLanesStates.st 50;
    let q : QOp := { slot := 0, w := 0xea08443000000003#64, sa := 67#64, sb := 5#64, sd := 0#64, data := 0 };
    let c : Core := s.core n.val;
    c.vRun = some q ∧ fGrp q.w = 3 ∧ fOp q.w = 42) ∧
  (let n : Fin 288 := 0;
    let s : State := VectorLanesStates.st 55;
    let q : QOp := { slot := 0, w := 0xe908443000000003#64, sa := 67#64, sb := 5#64, sd := 0#64, data := 0 };
    let c : Core := s.core n.val;
    c.vRun = some q ∧ fGrp q.w = 3 ∧ fOp q.w = 41) ∧
  (let n : Fin 288 := 0;
    let s : State := VectorLanesStates.st 60;
    let q : QOp := { slot := 0, w := 0xe408443000000003#64, sa := 67#64, sb := 5#64, sd := 0#64, data := 0 };
    let c : Core := s.core n.val;
    c.vRun = some q ∧ fGrp q.w = 3 ∧ fOp q.w = 36) ∧
  (let n : Fin 288 := 0;
    let s : State := VectorLanesStates.st 65;
    let q : QOp := { slot := 0, w := 0xe508443000000003#64, sa := 67#64, sb := 5#64, sd := 0#64, data := 0 };
    let c : Core := s.core n.val;
    c.vRun = some q ∧ fGrp q.w = 3 ∧ fOp q.w = 37) := by
  refine ⟨?_, ?_, ?_, ?_, ?_⟩ <;>
    decide +kernel

/-! ### Hypotheses of statements about every state -/

/-- Whether an outcome is a next state. -/
def goes (o : Host.Outcome State Fault Refusal) : Bool :=
  match o with
  | .next _ => true
  | _ => false

theorem exists_next {o : Host.Outcome State Fault Refusal} (h : goes o = true) : ∃ t, o = .next t := by
  cases o with
  | next t => exact ⟨t, rfl⟩
  | fault f => cases h
  | refused r => cases h

theorem test_hyps_BxNeverOverflows :
    (Built 1 (BX.empty.deposit 0x3F800000) ∧ 1 ≤ 2 ^ 31) ∧
    (let a : BX := { BX.empty with fold0 := 2 ^ 54 }
     let c : BX := { BX.empty with fold0 := 2 ^ 54, fold1 := 1 }
     a.bin = c.bin ∧ 2 ^ 55 ≤ a.fold0 + c.fold0) ∧
    ({ BX.empty with ovf := true } : BX).ovf = true :=
  ⟨⟨.deposit _ .empty, by decide⟩, by decide, rfl⟩

theorem test_hyps_IdleStep :
    (let s : State := { State.reset with life := { State.reset.life with powerGood := false } }
     s.pending = [] ∧ s.life.powerGood = false) ∧
    (let s : State := { State.reset with life := { State.reset.life with powerGood := true }, ftime := { State.reset.ftime with slew := -5 } }
     s.pending = [] ∧ s.life.powerGood = true ∧ s.ftime.slew < 0 ∧ 0 ≤ s.ftime.frac ∧ (-10_000 : Int) ≤ -1 ∧
     (∀ n < 12, (s.link n).disableAt = none) ∧ s.fabric.held = [] ∧
     ∀ e ∈ s.clk.xing, e.2.pending = true → e.1 / 65536 ≠ 4 ∧ e.1 / 65536 ≠ 10) := by
  decide +kernel

theorem test_hyps_StepKeepsInv :
    let s : State := { CopAluResultStates.st 0 with pending := [.add 0] }
    s.Inv ∧ ∃ t, step s = .next t :=
  ⟨by unfold State.Inv; decide +kernel, exists_next (by decide +kernel)⟩

theorem test_hyps_QueueAndMemory :
    (∃ t, exec (.add 0) (CopAluResultStates.st 0) = .next t) ∧ stores (.add 0) = false :=
  ⟨exists_next (by decide +kernel), by decide⟩

theorem test_hyps_ContextIsolation :
    Instr.add ∈ computeRows ∧ (∃ t, exec (.add 0) (CopAluResultStates.st 0) = .next t) ∧
    ((CopAluResultStates.st 0).core 0).running ≠ some 1 :=
  ⟨by simp [computeRows, aluRows], exists_next (by decide +kernel), by decide +kernel⟩

/-! ### Hypotheses that rest on what no one can compute here: a signature that verifies, a secret that unwraps -/

/-- A licence: version 1, the serial of the states here, both features, sequence number 4. -/
def lic : List Byte := [1, 0, 0, 0] ++ leBytes 8 (up.odNum 0x1000 0) ++ leBytes 4 0xF ++ leBytes 4 4 ++ List.replicate 14 0 ++ List.replicate 3405 0

/-- An offer of the job secret 5, and a grant of it to the module of the states here. -/
def offer : List Byte := [1, 5] ++ List.replicate 1291 0 ++ List.replicate 3405 0
def grant : List Byte := [1, 5] ++ List.replicate 8 0 ++ leBytes 8 (up.odNum 0x1000 0) ++ List.replicate 1235 0 ++ List.replicate 3405 0

/-- An image of 5,000 bytes with three empty components. -/
def image : List Byte :=
  leBytes 4 0x4D495848 ++ [1, 0, 0, 0] ++ leBytes 4 0xFFFF ++ leBytes 2 0 ++ leBytes 2 0xFFFF ++ leBytes 4 5000 ++ leBytes 4 1593 ++
  List.replicate 40 0 ++
  ([1, 2, 3].flatMap fun t => [t, 0, 0, 0] ++ leBytes 4 (256 * t.toNat) ++ leBytes 4 0 ++ List.replicate 52 0) ++ List.replicate 4744 0

/-- A write of bytes is accepted where the door may write the object and the object's own check passes. -/
theorem odStatus_blob {s : State} {idx sub : Nat} {b : List Byte}
    (ho : (odInfo idx).any (fun o => decide (o.ty = .blob) && !(o.cls == .lockedW)) = true) (hn : b.length ≤ 65535)
    (ha : s.writeAdmit .m idx sub = 0) (hb : s.ownBlob .m idx sub b = 0) : (s.odStatus .m idx sub b).1 = 0 := by
  cases h : odInfo idx with
  | none => simp [h] at ho
  | some o =>
    simp only [h, Option.any_some, Bool.and_eq_true, decide_eq_true_eq, Bool.not_eq_true'] at ho
    have hr : odRead o.ty b = some (.blob b) := by simp [odRead, ho.1, OdTy.size, hn]
    simp [State.odStatus, h, hr, ha, hb, ho.2, firstStatus]

/-- The session of the tests, as it is in their states. -/
def sx : Session := ⟨7, 1, .m, 0x1122, 3, 1, 0, 0, 3, false, 0, 30, [], none, [], 0⟩

def licState : State := ses

/-- The state in which a licence with sequence number 3 is in effect. -/
def heldState : State := licState.odSet 0x6450 0 (.blob (lic.set 16 3))

theorem test_hyps_ObjectRequests_ServiceRequests_licence (h : signedOk 2 32 lic = true) :
    (licState.licence = [] ∧ licState.licencePending = none ∧ licState.Takes (.licenceWrite FR lic)) ∧
    (heldState.licence ≠ [] ∧ heldState.licence ≠ lic ∧ heldState.licencePending ≠ some lic ∧
      heldState.Takes (.licenceWrite FR lic)) := by
  have own : ∀ s : State, s.licenceOk lic = true → s.ownBlob .m 0x6450 0 lic = 0 := by
    intro s hs
    have hg : groupOf 0x6450 0 = none := by decide +kernel
    simp [State.ownBlob, hg, hs]
  have ok1 : licState.licenceOk lic = true := by
    unfold State.licenceOk
    rw [h]
    decide +kernel
  have ok2 : heldState.licenceOk lic = true := by
    unfold State.licenceOk
    rw [h]
    decide +kernel
  refine ⟨⟨by decide +kernel, by decide +kernel, FR, 0x6450, 0, lic, sx, rfl, ?_, ?_⟩,
    by decide +kernel, by decide +kernel, by decide +kernel, FR, 0x6450, 0, lic, sx, rfl, ?_, ?_⟩
  · exact (inSession_iff _ _ _).2 (by decide +kernel)
  · exact odStatus_blob (by decide +kernel) (by decide +kernel) (by decide +kernel) (own _ ok1)
  · exact (inSession_iff _ _ _).2 (by decide +kernel)
  · exact odStatus_blob (by decide +kernel) (by decide +kernel) (by decide +kernel) (own _ ok2)

/-- The slot of the job secret 5 holds its value, or waits for its grant. -/
def jobState (st : Nat) : State := ses (fun s =>
  { s.odSetN 0x6416 1 (5 * 256 + st) with sec := { s.sec with onyx := { s.sec.onyx with secret := [(0, 3)], eph := [(0, 9)] } } })

theorem test_hyps_Partitions_PartitionRequests_grants (h1 : signedOk 0 1291 offer = true)
    (h2 : signedOk 0 1251 grant = true) (h3 : agreeOk (slice offer 10 97) (slice offer 107 1184) = true)
    (h4 : Config.p384Point (slice grant 18 97) = true) :
    (jobState 2).Takes (.grantRequest FR offer) ∧
    (jobState 1).Takes (.installGrant FR grant) := by
  have hg : ∀ i, i = 0x6413 ∨ i = 0x6415 → groupOf i 0 = none := by
    rintro i (rfl | rfl) <;> decide +kernel
  have e1 : (jobState 2).jobBad 0x6413 offer = false := by
    simp only [State.jobBad, offerOk, h1, h3]
    decide +kernel
  have e2 : (jobState 1).jobBad 0x6415 grant = false := by
    have hs : (jobState 1).slotIn (fieldAt grant 1 1) 1 = some 0 := by decide +kernel
    simp only [State.jobBad, grantOk, h2, hs, h4]
    decide +kernel
  refine ⟨⟨FR, 0x6413, 0, offer, sx, rfl, (inSession_iff _ _ _).2 (by decide +kernel), ?_⟩,
    FR, 0x6415, 0, grant, sx, rfl, (inSession_iff _ _ _).2 (by decide +kernel), ?_⟩
  · refine odStatus_blob (by decide +kernel) (by decide +kernel) (by decide +kernel) ?_
    have hj : (jobState 2).sec.onyx.job = none := by decide +kernel
    simp [State.ownBlob, hg, State.jobCheck, e1, hj]
  · refine odStatus_blob (by decide +kernel) (by decide +kernel) (by decide +kernel) ?_
    have hj : (jobState 1).sec.onyx.job = none := by decide +kernel
    simp [State.ownBlob, hg, State.jobCheck, e2, hj]

theorem five_lt (n : Nat) (h : 3 ≤ n) : 5 < 2 ^ n :=
  Nat.lt_of_lt_of_le (show 5 < 2 ^ 3 by decide) (Nat.pow_le_pow_right Nat.two_pos h)

theorem test_hyps_OnyxAndTamper_agreement
    (h : let x := agreeSend 7 (slice offer 10 97) (slice offer 107 1184); agreeReceive 9 (x.2.take 97) (x.2.drop 97) = x.1) :
    3 < 2 ^ 64 ∧ 5 < 2 ^ 384 ∧ 1291 ≤ offer.length ∧
      (let x := agreeSend 7 (slice offer 10 97) (slice offer 107 1184); agreeReceive 9 (x.2.take 97) (x.2.drop 97) = x.1) :=
  ⟨by decide, five_lt 384 (by decide), by decide +kernel, h⟩

theorem test_hyps_Firmware_UpdateSteps_verified (h : imgSigned image = true) :
    let s : State := { SlateControllersStates.base 2 (fun w => { w with parts := [(0, image)], total := 5000 }) with od := up.od }
    s.fw.state = 2 ∧ s.verifyEnd s.fw.received = 3 ∧ s.noFirmware = false := by
  intro s
  have hr : s.fw.received = image := by decide +kernel
  have hf : s.settingsFit (imgOf image) = true := by decide +kernel
  have hl : imgLayout image = true := by decide +kernel
  have hh : ¬ (imgOf image).hwMin > s.odNum 0x1003 0 := by decide +kernel
  have hv : ¬ (imgOf image).svn < s.odNum 0xB002 0 := by decide +kernel
  refine ⟨by decide +kernel, ?_, by decide +kernel⟩
  rw [hr]
  simp only [State.verifyEnd, hl, h, hf, hh, hv, Bool.not_true, Bool.false_eq_true, if_false]

/-! ### A pair of flits as it was sent, and a packet under a job secret -/

/-- A flit of a type, number and message code, with its CRC. -/
def flitOf (typ seq code : Nat) : List Byte :=
  let b := leBytes 12 (typ * 2 ^ 92 + seq * 2 ^ 50 + 2 ^ 48 + 77 * 2 ^ 28 + 2 * 2 ^ 26 + 99 * 2 ^ 6) ++ leBytes 1 code ++
    List.replicate 239 3
  b ++ leBytes 4 (crc32c b)

def flitsOf : List (List Byte) := [flitOf 0 7 0, flitOf 2 8 3, flitOf 2 9 8, flitOf 0 10 0, flitOf 2 11 1]
def pairOf : FlitPair := ⟨3, 1, 15, 15, flitsOf⟩

theorem test_hyps_FlitsAndCredits_Flits :
    let s : State := FlitsStates.st 0
    let l := s.link 0
    let x := pairSeen l.rxSpare l.rxHalf (l.inOrder pairOf.lanes)
    let typ := fun (f : List Byte) => bits 95 92 (leNat (f.take 12))
    let seq := fun (f : List Byte) => bits 61 50 (leNat (f.take 12))
    l.st.up = true ∧ s.fabric.held = [] ∧ l.txq = [] ∧ l.lastSeq = none ∧ x.flits = flitsOf.map some ∧
    (∀ f ∈ flitsOf, f.length = 256 ∧ fieldAt f 252 4 = crc32c (f.take 252) ∧ typ f ≤ 2 ∧ typ f ≠ 1 ∧
      (typ f = 2 → 1 ≤ fieldAt f 12 1 ∧ fieldAt f 12 1 ≤ 8)) ∧
    ∀ i < 4, seq (flitsOf.getD (i + 1) []) = (seq (flitsOf.getD i []) + 1) % 4096 := by
  have h1 : ((FlitsStates.st 0).link 0).rxSpare = pairOf.spare := by decide +kernel
  have h2 : ((FlitsStates.st 0).link 0).rxHalf = pairOf.half := by decide +kernel
  have h3 : ((FlitsStates.st 0).link 0).lanes = [] := by decide +kernel
  refine ⟨by decide +kernel, by decide +kernel, by decide +kernel, by decide +kernel, ?_, by decide +kernel, by decide +kernel⟩
  simp only [Link.inOrder, h1, h2, h3, List.isEmpty_nil, if_true]
  rw [pairSeen_lanes pairOf (by decide) (by decide)]
  simp only [PairSeen.flits, FlitPair.codewords, Option.map_some, Option.bind_some, codeBytes_encode]
  decide +kernel

theorem test_hyps_PacketEncryption :
    let s : State := PacketEncryptionStates.st 0
    let p : Pkt := { sealedPk with len := 3, payload := [1, 2, 3] }
    let z : List Byte := [57, 48] ++ List.replicate 46 0
    p.keyid ≠ 0 ∧ s.jobSecret p.keyid = some z ∧ p.payload.length = p.carried ∧
    (if (s.seal p).tag = 0 then 1 else 0) % 2 ^ 96 ≠ (s.seal p).tag := by
  refine ⟨by decide, by decide +kernel, by decide +kernel, ?_⟩
  generalize (State.seal _ _).tag = k
  split <;> omega

/-! ### The worked examples of the manual -/

/-- Chapter 3: 0x40533333 to E4M3 under RNE, the tie 1.0625, 500 under either SAT; under SR with two random words. -/
theorem test_conversions :
    (encodeF fE4M3 .rne false 0 (dec32 0x40533333)).1 = 0x45 ∧ (encodeF fE4M3 .rne false 0 (dec32 0x3F880000)).1 = 0x38 ∧
    (encodeF fE4M3 .rne false 0 (dec32 0x43FA0000)).1 = 0x7E ∧ (encodeF fE4M3 .rne true 0 (dec32 0x43FA0000)).1 = 0x7E ∧
    (encodeF fE4M3 .sr false 0x12345678 (dec32 0x40533333)).1 = 0x46 ∧
    (encodeF fE4M3 .sr false 0x80000000 (dec32 0x40533333)).1 = 0x45 := by
  decide +kernel

/-- Chapter 3: the MXFP8 block of largest magnitude 10.0, with 10.0 and the binary32 value nearest 0.3. -/
theorem test_mx_block : encodeMx .mxE4m3 .rne [(dec32 0x41200000, 0), (dec32 0x3E99999A, 0)] = (0x7A, [0x7A, 0x52]) := by
  decide +kernel

/-- Chapter 3: 2^24, 1.0 and -2^24 in BX32, in two orders, and the value after the first deposit. -/
theorem test_bx_sum :
    let d := fun (l : List Lane) => l.foldl BX.deposit BX.empty
    (d [0xCB800000]).toNat = 0xFFFF_FFFF_FFFF_C000_0000_0000_0000_0070 ∧
    (d [0xCB800000, 0x4B800000, 0x3F800000]).toNat = 0x0000_0000_0000_0000_0000_0000_0040_0070 ∧
    (d [0x4B800000, 0x3F800000, 0xCB800000]).toNat = 0x0000_0000_0000_0000_0000_0000_0040_0070 ∧
    (d [0x4B800000, 0x3F800000, 0xCB800000]).finalise fBinary32 .rne false 0 = 0x3F800000 := by
  decide +kernel

/-- Chapter 4: one row of 34 bfloat16 ones by a column with 2^24, 1.0 and 1.0 at 0, 17 and 33; all at once, and in two MMAs. -/
theorem test_mma_order :
    let rd : Nat → Byte := fun a =>
      if a < 0x1000 then (if a % 2 = 1 then 0x3F else 0x80)
      else if a = 0x1000 then 0x80 else if a = 0x1001 then 0x4B
      else if a = 0x1220 ∨ a = 0x1420 then 0x80 else if a = 0x1221 ∨ a = 0x1421 then 0x3F else 0
    let a : Nat → Nat → TileD := fun base n => tileOf (td 1 n 2 base 4)
    let b : Nat → Nat → TileD := fun base n => tileOf (td n 1 2 base 1)
    mmaElem 0x12 rd (a 0 34, .bfloat16) (b 0x1000 34, .bfloat16) 0 0 0 = 0x4B800000 ∧
    mmaElem 0x12 rd (a 0 17, .bfloat16) (b 0x1220 17, .bfloat16) (mmaElem 0x12 rd (a 0 17, .bfloat16) (b 0x1000 17, .bfloat16) 0 0 0) 0 0 =
      0x4B800001 := by
  decide +kernel

/-- Chapter 5: 1.0, 1.0 and -2^24 scatter-added to 2^24 in lane order. -/
theorem test_scadd :
    let go := fun (f old : Nat) => [(0x3F800000 : Lane), 0x3F800000, 0xCB800000].foldl (fun o v => scaddElem f o v) old
    go 0 0x4B800000 = 0 ∧ (bxOfNat (go 0x10 (BX.empty.deposit 0x4B800000).toNat)).finalise fBinary32 .rne false 0 = 0x40000000 := by
  decide +kernel

/-- Chapter 1: a core window's core and offset, a pool's base, a committed address. -/
theorem test_addresses :
    State.reset.region 0x100_39C0_0040 = .spad 231 0x40 ∧ poolBase 19 = 0x101_0980_0000 ∧ bankNo 0x40 = 2 := by
  decide +kernel

/-- Chapter 7: row 1,000,003 of a striped table with 128-byte rows, and the DRAM row that it lies in. -/
theorem test_table_row :
    let t := 0x1_0000_0000 * 2 ^ 88 + 1 * 2 ^ 80 + 2000000 * 2 ^ 48 + 1 * 2 ^ 42 + 32 * 2 ^ 27
    tbRow t 1000003 = 0x025_007A_1200 ∧ tbStack t 1000003 = 3 ∧
    rowKey 0x025_007A_1200 = ((3 * 64 + 18) * 32 + 26) * 24576 + 2051 := by
  decide +kernel

/-- Chapter 8: the record and the done map of a COPY whose unit 97 ended ADDRESS and whose units from 105 on never started. -/
theorem test_completion_record :
    let bad : UEnd := ⟨7, 1, 0⟩
    let f : Flight := ⟨⟨5, 0⟩, 2, 0x12, leBytes 64 (0xA7 * 2 ^ 32), 256,
      (List.range 105).map (fun u => (u, if u = 97 then bad else ⟨0, 0, 0⟩)), 0, true, none, 0, false⟩
    f.frontier = 97 ∧ f.doneBits = 0x2FF_FFFF ∧
    f.record f.outcome true true = [0x03, 0, 0, 0x14, 1, 7, 0x12, 0, 0, 1, 0, 0, 0xFF, 0xFF, 0xFF, 2, 0, 0, 0, 0, 0x61, 0, 0, 0,
      0, 0, 0, 0, 0xA7, 0, 0, 0] ∧
    f.doneMap = List.replicate 12 0xFF ++ [0xFD, 0x01] ++ List.replicate 18 0 := by
  decide +kernel

/-- Chapter 11: element 0 of the all-reduce over the first tree and over the tree without the failed member. -/
theorem test_collective_order :
    let c : Coll := ⟨⟨0, 0⟩, 40, 0, 1, 0, [], 245, [], false, 0, 0, [], [], [], [], [], [], none, []⟩
    let one := 0x3F800000
    c.resultCode 0 0x4B800000 [c.partialCode 0 0 [one, one], 0, 0] = 0x4B800001 ∧
    c.resultCode 0 0x4B800000 [c.partialCode 0 0 [one], 0, one] = 0x4B800000 := by
  decide +kernel

/-- Chapter 16: the ceiling at an average of 1,800 W at 1,800 MHz under a grant of 1,300 W. -/
theorem test_grant_ceiling : grantCeil 1800 1800 1300 = 1425 := by decide +kernel

/-- Chapter 21: the record of rank 1's move from Open to Doomed, bytes 0 to 31, and withheld. -/
theorem test_record :
    let r : Lilac := ⟨5000012000, 2, 2, 0x28, 1207, 0x01020300, some 1, false, false⟩
    r.bytes 0x123 false = [0, 3, 2, 1, 0, 0, 0, 0, 0xB7, 4, 0, 0, 0, 0, 0, 0, 0x28, 0, 0, 0x18, 0x23, 1, 2, 2,
      0xE0, 0x20, 6, 0x2A, 1, 0, 0, 0] ∧
    fieldAt (r.bytes 0x123 true) 16 8 = 0x0202_0123_1C00_0028 ∧ fieldAt (r.bytes 0x123 true) 0 16 = 0 := by
  decide +kernel

/-- Chapter 17: the first eight bits of the chain after Test-Logic-Reset are those of 0xE7. -/
theorem test_idcode : (bitsOf 32 (idcode 3)).take 8 = [true, true, true, false, false, true, true, true] := by decide +kernel

/-- Chapters 19 and 21: the object of counter 1,000 and of counter 1,073; group 300's descriptor. -/
theorem test_objects :
    counterElem 8 49 = some (0x5861, 2) ∧ (gIdx 0x5100 300, gSub 300) = (0x5102, 0x2D) := by
  decide +kernel

/-- Chapter 10: from (3.17.2) to (125.17.5) in a block of an X ring and a Y ring of 128 and a Z chain of 64: -X, then +Z. -/
theorem test_directions :
    let t : List Byte := [1, 3, 128, 128, 64, 0, 0, 0]
    let own := 3 * 2 ^ 13 + 17 * 2 ^ 6 + 2
    let dst := 125 * 2 ^ 13 + 17 * 2 ^ 6 + 5
    inBlock t dst = true ∧ dirOf t own dst 0 = 1 ∧ dirOf t own dst 2 = 0 ∧ coordDim 1 own = coordDim 1 dst := by
  decide +kernel

/-- FIPS 180-4's example "abc", and FIPS 197's example C.3. -/
theorem test_standards :
    beNat (sha384 (ascii "abc")) = 0xCB00753F45A35E8BB5A03D699AC65007272C32AB0EDED1631A8B605A43FF5BED8086072BA1E7CC2358BAECA134C825A7 ∧
    beNat (aesBlock (aesRounds (beBytes 32 0x000102030405060708090A0B0C0D0E0F101112131415161718191A1B1C1D1E1F))
      (beBytes 16 0x00112233445566778899AABBCCDDEEFF)) = 0x8EA2B7CA516745BFEAFC49904B496089 := by
  unfold sha384
  decide +kernel

/-- Chapter 9: the generator polynomial's roots are the powers 0 to 29 of the primitive element. -/
theorem test_generator : (gfPowers 2 30).all (fun x => gfEval (rsGen.reverse ++ [1]) x == 0) = true := by decide +kernel

/-! ### Ill-formed commands, one for each check, and the bounds that pass -/

theorem test_wf_counts :
    (Instr.hbmRead 0 0 false 37).wf = false ∧ (Instr.hbmRead 0 0 true 36).wf = true ∧ (Instr.patrolRead 0 37).wf = false ∧
    (Instr.sectorWrite 0 0 []).wf = false ∧ (Instr.sectorWrite 0 63 [1, 2]).wf = false ∧ (Instr.sectorWrite 0 63 [1]).wf = true ∧
    (Instr.hostWindowRead 0 0 0 0 (.ok 0)).wf = false ∧ (Instr.hostWindowRead 0 0 0 1 .uncorrectable).wf = true ∧
    (Instr.hostWindowWrite 0 0 0 [] (.ok 0)).wf = false ∧ (Instr.hostWindowWrite 0 0 0 (List.replicate 513 0) (.ok 0)).wf = false ∧
    (Instr.energyAttribution ⟨0, 0, 0, 0, 0, [], [], [], []⟩).wf = false ∧
    (Instr.energyAttribution ⟨0, 0, 0, 0, 0, List.replicate 24 0, List.replicate 16 0, List.replicate 16 0, List.replicate 16 0⟩).wf = true ∧
    (Instr.thermalSample (List.replicate 195 0) (List.replicate 196 0)).wf = false ∧
    (Instr.thermalSample (List.replicate 196 0) (List.replicate 195 0)).wf = false := by
  decide +kernel

theorem test_wf_lanes :
    (Instr.capabilityExchanged 0 (List.replicate 8 [])).wf = false ∧
    (Instr.capabilityExchanged 0 (List.replicate 9 [1])).wf = false ∧
    (Instr.capabilityExchanged 0 ([] :: List.replicate 8 (List.replicate 64 0))).wf = true ∧
    (Instr.alignDone 0 [] 0).wf = false ∧ (Instr.qualifyWindowEnd 0 [1] 0).wf = false ∧ (Instr.loopbackEnd 0 [] 0).wf = false ∧
    (Instr.flitReceive 0 [[5]]).wf = false ∧ (Instr.flitReceive 0 (List.replicate 9 [1024])).wf = false ∧
    (Instr.flitReceive 0 (List.replicate 9 [1023])).wf = true := by
  decide +kernel

theorem test_wf_lengths :
    let long : List Byte := List.replicate 65536 0
    (Instr.routingTableWrite FR false long).wf = false ∧ (Instr.groupDescriptorWrite FR 0 long).wf = false ∧
    (Instr.fabricWindowWrite FR 0 0 long).wf = false ∧ (Instr.grantRequest FR long).wf = false ∧
    (Instr.installGrant FR long).wf = false ∧ (Instr.unsealRequest FR long).wf = false ∧
    (Instr.rowRemapListWrite FR long).wf = false ∧ (Instr.firmwareImagePart FR long).wf = false ∧
    (Instr.licenceWrite FR long).wf = false ∧ (Instr.writeObject FR 0x1000 0 false (List.replicate 1485 0)).wf = false ∧
    (Instr.segWriteData FR 0 (List.replicate 1485 0)).wf = false := by
  simp only [Instr.wf, List.length_replicate]
  decide


end Sys2Proof.Tests
end

/-! SUPPORT. BX32 arithmetic (R76 to R83): what `add56`, a renormalisation, a merge and a deposit do to each field, and the
proofs of the merge and of the bound on a value's folds. -/
namespace Sys2Proof.Machine

/-! ### 56-bit sums (R78) -/

/-- The range of a fold, a 56-bit two's complement integer (R76). -/
def FoldRange (z : Int) : Prop := -(2 ^ 55) ≤ z ∧ z < 2 ^ 55

/-- Storing an integer in 56 bits and reading it back is the balanced remainder modulo 2^56. -/
theorem toSigned_ofSigned_56 (z : Int) : toSigned 56 (ofSigned 56 z) = z.bmod (2 ^ 56) := by
  simp only [toSigned, ofSigned, Int.bmod_def]
  omega

theorem add56_fst (f v : Int) : (add56 f v).1 = (f + v).bmod (2 ^ 56) := toSigned_ofSigned_56 _

theorem add56_snd (f v : Int) : (add56 f v).2 = true ↔ f + v < -(2 ^ 55) ∨ 2 ^ 55 ≤ f + v := by
  simp only [add56, Bool.or_eq_true, decide_eq_true_eq]
  omega

theorem add56_comm (f v : Int) : add56 f v = add56 v f := by
  simp only [add56, Int.add_comm f v]

theorem add56_fst_range (f v : Int) : FoldRange (add56 f v).1 := by
  rw [add56_fst]
  exact ⟨Int.le_bmod (by decide), Int.bmod_lt (by decide)⟩

theorem dvd_add56_fst_sub (f v : Int) : (2 ^ 56 : Int) ∣ (add56 f v).1 - (f + v) := by
  rw [add56_fst]
  exact Int.dvd_bmod_sub_self

/-- Within the range of a fold the sum is the integers' own, and nothing overflows. -/
theorem add56_of_range {f v : Int} (h : FoldRange (f + v)) : add56 f v = (f + v, false) := by
  obtain ⟨hlo, hhi⟩ := h
  refine Prod.ext ?_ (Bool.eq_false_iff.2 fun ho => ?_)
  · rw [add56_fst]
    exact Int.bmod_eq_of_le hlo hhi
  · have := (add56_snd f v).1 ho
    omega

theorem add56_zero_right {f : Int} (h : FoldRange f) : add56 f 0 = (f, false) := by
  simpa using add56_of_range (f := f) (v := 0) (by simpa using h)

/-! ### Renormalising (R79) -/

/-- Renormalising to a bin at or above the value's own: each fold is the one that belongs to its bin, and the flags stay. -/
theorem BX.renorm_eq (a : BX) {b : Nat} (h : a.bin ≤ b) :
    a.renorm b = { a with
      fold0 := if a.bin = b then a.fold0 else 0
      fold1 := if a.bin = b then a.fold1 else if a.bin + 1 = b then a.fold0 else 0
      bin := b } := by
  unfold BX.renorm
  rcases (by omega : a.bin = b ∨ a.bin + 1 = b ∨ a.bin + 1 < b) with rfl | rfl | hb
  · simp
  · simp
  · simp [show b - a.bin ≠ 0 by omega, show b - a.bin ≠ 1 by omega, show a.bin ≠ b by omega, show a.bin + 1 ≠ b by omega]

theorem BX.renorm_bin_self (a : BX) : a.renorm a.bin = a := by
  simp [BX.renorm]

@[simp] theorem BX.empty_fold0 : BX.empty.fold0 = 0 := rfl
@[simp] theorem BX.empty_fold1 : BX.empty.fold1 = 0 := rfl

@[simp] theorem BX.empty_renorm (b : Nat) : BX.empty.renorm b = { BX.empty with bin := b } := by
  rw [BX.renorm_eq _ (Nat.zero_le b)]
  simp only [BX.empty_fold0, BX.empty_fold1, ite_self]

/-! ### Merging (R80) -/

theorem BX.merge_comm (a c : BX) : a.merge c = c.merge a := by
  simp only [BX.merge, max_comm c.bin, add56_comm (c.renorm _).fold0, add56_comm (c.renorm _).fold1, Bool.or_comm c.nan,
    Bool.or_comm c.pinf, Bool.or_comm c.ninf, Bool.or_comm c.ovf]

theorem BX.merge_ovf (a c : BX) :
    (a.merge c).ovf = true ↔ a.ovf = true ∨ c.ovf = true ∨
      (add56 (a.renorm (max a.bin c.bin)).fold0 (c.renorm (max a.bin c.bin)).fold0).2 = true ∨
      (add56 (a.renorm (max a.bin c.bin)).fold1 (c.renorm (max a.bin c.bin)).fold1).2 = true := by
  simp only [BX.merge, Bool.or_eq_true, or_assoc]

theorem BX.merge_empty {a : BX} (h0 : FoldRange a.fold0) (h1 : FoldRange a.fold1) : a.merge BX.empty = a := by
  have hb : max a.bin BX.empty.bin = a.bin := Nat.max_zero _
  simp only [BX.merge, hb, BX.renorm_bin_self, BX.empty_renorm]
  simp [BX.empty, add56_zero_right h0, add56_zero_right h1]

/-! ### Depositing (R78) -/

/-- The top bin of an addend: the bin of its most significant 1 bit. -/
def topBin (ex m : Nat) : Nat := (ex + Nat.log2 m) / 24

/-- The magnitude of an addend's part in its top bin. -/
def hiPart (ex m : Nat) : Nat :=
  if 24 * topBin ex m ≤ ex then m <<< (ex - 24 * topBin ex m) else m >>> (24 * topBin ex m - ex)

/-- The magnitude of an addend's part in the bin below its top bin. -/
def loPart (ex m : Nat) : Nat :=
  if 24 * topBin ex m ≤ ex then 0 else (m % 2 ^ (24 * topBin ex m - ex)) <<< (24 - (24 * topBin ex m - ex))

/-- A magnitude with a sign. -/
def signedPart (neg : Bool) (n : Nat) : Int := if neg then -(n : Int) else n

/-- An addend's two parts, as a value whose bin is the addend's top bin. -/
def BX.addend (neg : Bool) (ex m : Nat) : BX :=
  { BX.empty with fold0 := signedPart neg (hiPart ex m), fold1 := signedPart neg (loPart ex m), bin := topBin ex m }

@[simp] theorem BX.addend_fold0 (neg : Bool) (ex m : Nat) : (BX.addend neg ex m).fold0 = signedPart neg (hiPart ex m) := rfl
@[simp] theorem BX.addend_fold1 (neg : Bool) (ex m : Nat) : (BX.addend neg ex m).fold1 = signedPart neg (loPart ex m) := rfl
@[simp] theorem BX.addend_nan (neg : Bool) (ex m : Nat) : (BX.addend neg ex m).nan = false := rfl
@[simp] theorem BX.addend_pinf (neg : Bool) (ex m : Nat) : (BX.addend neg ex m).pinf = false := rfl
@[simp] theorem BX.addend_ninf (neg : Bool) (ex m : Nat) : (BX.addend neg ex m).ninf = false := rfl
@[simp] theorem BX.addend_ovf (neg : Bool) (ex m : Nat) : (BX.addend neg ex m).ovf = false := rfl

@[simp] theorem natAbs_signedPart (neg : Bool) (n : Nat) : (signedPart neg n).natAbs = n := by
  cases neg <;> simp [signedPart]

/-- A deposit renormalises the value to the addend's top bin if that is above its own, and adds the parts that have a fold. -/
theorem BX.depositFin_eq (a : BX) (neg : Bool) (ex m : Nat) :
    a.depositFin neg ex m =
      let p := BX.addend neg ex m
      let r := if p.bin > a.bin then a.renorm p.bin else a
      if p.bin = r.bin then
        { r with fold0 := (add56 r.fold0 p.fold0).1, fold1 := (add56 r.fold1 p.fold1).1,
                 ovf := r.ovf || (add56 r.fold0 p.fold0).2 || (add56 r.fold1 p.fold1).2 }
      else if p.bin + 1 = r.bin then
        { r with fold1 := (add56 r.fold1 p.fold0).1, ovf := r.ovf || (add56 r.fold1 p.fold0).2 }
      else r := by
  have hd : (24 * (((ex + Nat.log2 m) / 24 : Nat) : Int) - ex ≤ 0) = (24 * topBin ex m ≤ ex) := by
    unfold topBin; exact propext (by omega)
  have hneg : (-(24 * (((ex + Nat.log2 m) / 24 : Nat) : Int) - ex)).toNat = ex - 24 * topBin ex m := by
    unfold topBin; omega
  have hpos : (24 * (((ex + Nat.log2 m) / 24 : Nat) : Int) - ex).toNat = 24 * topBin ex m - ex := by
    unfold topBin; omega
  simp only [BX.depositFin, hd, hneg, hpos]
  rfl

/-- Depositing a finite addend is merging with the value of its parts (R78, R80). -/
theorem BX.depositFin_eq_merge {a : BX} (h0 : FoldRange a.fold0) (h1 : FoldRange a.fold1) (neg : Bool) (ex m : Nat) :
    a.depositFin neg ex m = a.merge (BX.addend neg ex m) := by
  rw [BX.depositFin_eq]
  rcases lt_or_ge a.bin (BX.addend neg ex m).bin with hlt | hge
  · simp [BX.merge, max_eq_right hlt.le, hlt, BX.renorm_bin_self, a.renorm_eq hlt.le]
  · simp only [BX.merge, max_eq_left hge, gt_iff_lt, not_lt.2 hge, if_false, BX.renorm_bin_self, BX.renorm_eq _ hge]
    by_cases hsame : (BX.addend neg ex m).bin = a.bin
    · simp [hsame]
    · by_cases hbelow : (BX.addend neg ex m).bin + 1 = a.bin
      · simp [hsame, hbelow, add56_zero_right h0]
      · simp [hsame, hbelow, add56_zero_right h0, add56_zero_right h1]

/-! ### How far the folds can grow (R83) -/

/-- A value that has not overflowed, with folds no larger than `n` parts of at most 2^24 - 1 each. -/
structure BX.Within (n : Nat) (a : BX) : Prop where
  ovf : a.ovf = false
  fold0_le : a.fold0.natAbs ≤ n * (2 ^ 24 - 1)
  fold1_le : a.fold1.natAbs ≤ n * (2 ^ 24 - 1)

/-- Up to 2^31 parts stay inside the range of a fold. -/
theorem foldRange_of_natAbs_le {n : Nat} {z : Int} (hz : z.natAbs ≤ n * (2 ^ 24 - 1)) (hn : n ≤ 2 ^ 31) : FoldRange z := by
  unfold FoldRange
  omega

/-- Sums of at most 2^31 parts in all do not overflow, and their bounds add. -/
theorem add56_of_natAbs_le {m n : Nat} {f v : Int} (hf : f.natAbs ≤ m * (2 ^ 24 - 1)) (hv : v.natAbs ≤ n * (2 ^ 24 - 1))
    (h : m + n ≤ 2 ^ 31) : add56 f v = (f + v, false) ∧ (f + v).natAbs ≤ (m + n) * (2 ^ 24 - 1) := by
  have hsum : (f + v).natAbs ≤ (m + n) * (2 ^ 24 - 1) := by omega
  exact ⟨add56_of_range (foldRange_of_natAbs_le hsum h), hsum⟩

theorem BX.Within.empty : BX.empty.Within 0 := ⟨rfl, le_rfl, le_rfl⟩

theorem BX.Within.mono {m n : Nat} {a : BX} (h : a.Within m) (hmn : m ≤ n) : a.Within n := by
  obtain ⟨hovf, h0, h1⟩ := h
  have hle : m * (2 ^ 24 - 1) ≤ n * (2 ^ 24 - 1) := Nat.mul_le_mul_right _ hmn
  exact ⟨hovf, h0.trans hle, h1.trans hle⟩

theorem BX.Within.foldRange {n : Nat} {a : BX} (h : a.Within n) (hn : n ≤ 2 ^ 31) : FoldRange a.fold0 ∧ FoldRange a.fold1 :=
  ⟨foldRange_of_natAbs_le h.fold0_le hn, foldRange_of_natAbs_le h.fold1_le hn⟩

/-- Renormalising moves or drops folds, and so keeps their bound. -/
theorem BX.Within.renorm {n b : Nat} {a : BX} (h : a.Within n) (hb : a.bin ≤ b) : (a.renorm b).Within n := by
  obtain ⟨hovf, h0, h1⟩ := h
  rw [a.renorm_eq hb]
  constructor
  case ovf => exact hovf
  case fold0_le =>
    dsimp only
    split
    · exact h0
    · exact Nat.zero_le _
  case fold1_le =>
    dsimp only
    split_ifs
    · exact h1
    · exact h0
    · exact Nat.zero_le _

theorem BX.Within.merge {m n : Nat} {a c : BX} (ha : a.Within m) (hc : c.Within n) (h : m + n ≤ 2 ^ 31) :
    (a.merge c).Within (m + n) := by
  have ra := ha.renorm (le_max_left a.bin c.bin)
  have rc := hc.renorm (le_max_right a.bin c.bin)
  obtain ⟨e0, b0⟩ := add56_of_natAbs_le ra.fold0_le rc.fold0_le h
  obtain ⟨e1, b1⟩ := add56_of_natAbs_le ra.fold1_le rc.fold1_le h
  constructor
  case ovf => simp only [BX.merge, e0, e1, ha.ovf, hc.ovf, Bool.or_self]
  case fold0_le => simpa only [BX.merge, e0] using b0
  case fold1_le => simpa only [BX.merge, e1] using b1

/-! ### The parts of a binary32 addend (R78) -/

/-- The significand of a finite value has at most one bit more than the format's fraction. -/
theorem decodeF_significand_lt {f : FFmt} {c : Nat} {neg : Bool} {m : Nat} {e : Int} (h : decodeF f c = .fin neg m e) :
    m < 2 ^ (f.fb + 1) := by
  have hfrac : c % 2 ^ f.fb < 2 ^ f.fb := Nat.mod_lt _ (by positivity)
  rw [pow_succ]
  simp only [decodeF] at h
  split at h
  · split at h <;> cases h
  · split at h
    · cases h
    · split at h <;> cases h <;> omega

theorem topBin_le (ex m : Nat) : 24 * topBin ex m ≤ ex + Nat.log2 m := Nat.mul_div_le _ _

theorem lt_topBin_add (ex m : Nat) : ex + Nat.log2 m < 24 * topBin ex m + 24 := by
  unfold topBin
  omega

theorem hiPart_lt {m : Nat} (ex : Nat) (hm : m < 2 ^ 24) : hiPart ex m < 2 ^ 24 := by
  unfold hiPart
  split
  next hle =>
    have hexp : Nat.log2 m + 1 + (ex - 24 * topBin ex m) ≤ 24 := by
      have := lt_topBin_add ex m
      omega
    calc m <<< (ex - 24 * topBin ex m)
        = m * 2 ^ (ex - 24 * topBin ex m) := Nat.shiftLeft_eq _ _
      _ < 2 ^ (Nat.log2 m + 1) * 2 ^ (ex - 24 * topBin ex m) := Nat.mul_lt_mul_of_pos_right Nat.lt_log2_self (by positivity)
      _ = 2 ^ (Nat.log2 m + 1 + (ex - 24 * topBin ex m)) := (pow_add _ _ _).symm
      _ ≤ 2 ^ 24 := Nat.pow_le_pow_right (by decide) hexp
  next => exact (Nat.shiftRight_le _ _).trans_lt hm

theorem loPart_lt {m : Nat} (ex : Nat) (hm : m < 2 ^ 24) : loPart ex m < 2 ^ 24 := by
  unfold loPart
  split
  next => decide
  next =>
    have hlog : Nat.log2 m < 24 := by
      rcases Nat.eq_zero_or_pos m with rfl | hpos
      · decide
      · exact (Nat.log2_lt hpos.ne').2 hm
    have hshift : 24 * topBin ex m - ex ≤ 24 := by
      have := topBin_le ex m
      omega
    calc (m % 2 ^ (24 * topBin ex m - ex)) <<< (24 - (24 * topBin ex m - ex))
        = m % 2 ^ (24 * topBin ex m - ex) * 2 ^ (24 - (24 * topBin ex m - ex)) := Nat.shiftLeft_eq _ _
      _ < 2 ^ (24 * topBin ex m - ex) * 2 ^ (24 - (24 * topBin ex m - ex)) :=
          Nat.mul_lt_mul_of_pos_right (Nat.mod_lt _ (by positivity)) (by positivity)
      _ = 2 ^ 24 := by rw [← pow_add, Nat.add_sub_cancel' hshift]

theorem BX.Within.addend {m : Nat} (neg : Bool) (ex : Nat) (hm : m < 2 ^ 24) : (BX.addend neg ex m).Within 1 := by
  have hhi := hiPart_lt ex hm
  have hlo := loPart_lt ex hm
  refine ⟨rfl, ?_, ?_⟩
  · rw [BX.addend_fold0, natAbs_signedPart]
    omega
  · rw [BX.addend_fold1, natAbs_signedPart]
    omega

/-- A deposit adds at most one part to each fold: a special only sets a flag, a zero nothing (R78, R83). -/
theorem BX.Within.deposit {n : Nat} {a : BX} (ha : a.Within n) (x : Lane) (hn : n + 1 ≤ 2 ^ 31) : (a.deposit x).Within (n + 1) := by
  obtain ⟨hovf, hfold0, hfold1⟩ := ha.mono n.le_succ
  unfold BX.deposit
  split
  next => exact ⟨hovf, hfold0, hfold1⟩
  next => split <;> exact ⟨hovf, hfold0, hfold1⟩
  next neg m e hx =>
    split
    next => exact ⟨hovf, hfold0, hfold1⟩
    next =>
      obtain ⟨h0, h1⟩ := ha.foldRange (by omega)
      rw [BX.depositFin_eq_merge h0 h1]
      exact ha.merge (.addend neg _ (decodeF_significand_lt hx)) hn

/-- A value built from at most 2^31 addends is within the bound for its number of addends (R83). -/
theorem Built.within {n : Nat} {a : BX} (h : Built n a) (hn : n ≤ 2 ^ 31) : a.Within n := by
  induction h with
  | empty => exact .empty
  | deposit x _ ih => exact (ih (by omega)).deposit x hn
  | merge _ _ iha ihc => exact (iha (by omega)).merge (ihc (by omega)) hn

/-! ### Beyond the bound (R80, R81) -/

theorem BX.merge_ovf_of_fold0 {a c : BX} (hb : a.bin = c.bin) (h : 2 ^ 55 ≤ a.fold0 + c.fold0) : (a.merge c).ovf = true := by
  have hsum : (add56 a.fold0 c.fold0).2 = true := (add56_snd _ _).2 (.inr h)
  have hc : c.renorm a.bin = c := hb ▸ c.renorm_bin_self
  rw [BX.merge_ovf, ← hb, max_self, a.renorm_bin_self, hc]
  exact .inr (.inr (.inl hsum))

theorem BX.value_of_ovf {a : BX} (h : a.ovf = true) : a.value = .nan := by
  simp [BX.value, h]

/-- An overflowed value finalises to the format's canonical NaN. -/
theorem BX.finalise_of_ovf {a : BX} (h : a.ovf = true) (f : FFmt) (hf : f.hasNan = true) (rnd : Rnd) (sat : Bool) (r : Nat) :
    a.finalise f rnd sat r = f.nanCode := by
  simp [BX.finalise, BX.value_of_ovf h, encodeF, hf]

end Sys2Proof.Machine

namespace Sys2Proof.Proofs
open Sys2Proof.Machine

/-- Settles O51: both folds of a merge are `add56` of the operands' folds after renormalising (R79), and `add56` is commutative. -/
theorem bxMerge : Obligations.BxMerge := by
  unfold Obligations.BxMerge
  refine ⟨fun a c => ?_, fun a l0 u0 l1 u1 => BX.merge_empty ⟨l0, u0⟩ ⟨l1, u1⟩⟩
  intro r b hi lo out
  have ha : a.renorm b = { a with fold0 := hi a, fold1 := lo a, bin := b } := a.renorm_eq (le_max_left _ _)
  have hc : c.renorm b = { c with fold0 := hi c, fold1 := lo c, bin := b } := c.renorm_eq (le_max_right _ _)
  have h0 : r.fold0 = (add56 (hi a) (hi c)).1 := by
    show (add56 (a.renorm b).fold0 (c.renorm b).fold0).1 = _
    rw [ha, hc]
  have h1 : r.fold1 = (add56 (lo a) (lo c)).1 := by
    show (add56 (a.renorm b).fold1 (c.renorm b).fold1).1 = _
    rw [ha, hc]
  have hovf : r.ovf = true ↔ a.ovf = true ∨ c.ovf = true ∨ out (hi a + hi c) ∨ out (lo a + lo c) := by
    rw [BX.merge_ovf, ha, hc, add56_snd, add56_snd]
  have inside : ∀ {z : Int}, FoldRange z → ¬ out z := fun h => not_or.2 ⟨not_lt.2 h.1, not_le.2 h.2⟩
  have comm : r = c.merge a := BX.merge_comm a c
  refine ⟨congrArg BX.toNat comm, comm, rfl, rfl, rfl, rfl, hovf, ?_, ?_, ?_, ?_⟩
  · exact h0 ▸ inside (add56_fst_range _ _)
  · exact h1 ▸ inside (add56_fst_range _ _)
  · exact h0 ▸ dvd_add56_fst_sub _ _
  · exact h1 ▸ dvd_add56_fst_sub _ _

/-- Settles O52: by induction over the deposits and merges, each fold holds at most one part of at most 2^24 - 1 for each addend.
Folds of 2^54, 2^54 and -2^24 overflow or not with the order of their merges. -/
theorem bxNeverOverflows : Obligations.BxNeverOverflows := by
  unfold Obligations.BxNeverOverflows
  refine ⟨fun n a h hn => ?_, fun a c => BX.merge_ovf_of_fold0, fun a rnd sat r h => ?_, ?_⟩
  · obtain ⟨hovf, h0, h1⟩ := h.within hn
    exact ⟨hovf, h0, h1, by omega⟩
  · exact ⟨BX.finalise_of_ovf h fBinary32 rfl rnd sat r, BX.finalise_of_ovf h fBfloat16 rfl rnd sat r⟩
  · exact ⟨{ BX.empty with fold0 := 2 ^ 54 }, { BX.empty with fold0 := 2 ^ 54 }, { BX.empty with fold0 := -(2 ^ 24) }, by decide⟩

end Sys2Proof.Proofs

/-! SUPPORT. Scalar operands (R115): the fields of a C-op, and the scalar registers after a C-op that writes sD, wherever the context
goes on. -/
namespace Sys2Proof.Machine

/-- A field of a word as a quotient and a remainder (R6). -/
theorem bits_eq_div_mod (hi lo n : Nat) : bits hi lo n = n / 2 ^ lo % 2 ^ (hi + 1 - lo) := by
  rw [bits, Nat.shiftRight_eq_div_pow]

theorem toSigned_32_range (n : Nat) : -(2 ^ 31) ≤ toSigned 32 n ∧ toSigned 32 n < 2 ^ 31 := by
  simp only [toSigned]
  omega

/-- Sign extension keeps the two's complement value: it fits in 32 bits, and so in 64. -/
theorem toInt_sext64_32 (n : Nat) : (sext64 32 n).toInt = toSigned 32 n := by
  obtain ⟨hlo, hhi⟩ := toSigned_32_range n
  exact BitVec.toInt_ofInt_eq_self (by decide) (by omega) (by omega)

@[simp] theorem sreg_zero (s : State) (n k : Nat) : s.sreg n k 0 = 0 := rfl

/-- Retiring an instruction writes no scalar register, also where the context faults at the end of its region. -/
theorem retire_sameS {s : State} {n : Fin 288} {k : Nat} (w : Word) (hr : ((s.core n).slot k).st = .running) :
    s.SameS (s.retire n k w) n k := by
  rcases lt_or_ge (s.pcNext n k).toNat ((s.core n).slot k).launch.len with h | h
  · exact (goto_in s n k w _ h).2
  · exact (goto_out s n k w _ hr h).2

/-- A C-op's result goes to sD and to no other register, and s0 stays 0. -/
theorem alu_wroteS {s : State} {n : Fin 288} {k : Nat} (w v : Word) (hr : ((s.core n).slot k).st = .running) :
    s.WroteS (s.alu n k w v) n k (cSD w) v := by
  have hr' : (((s.putS n k (cSD w) v).core n).slot k).st = .running := by
    rw [slot_putS, (setS_keeps _ _ _).2.2, hr]
  intro j
  exact (retire_sameS w hr' j).trans (sreg_putS s n k (cSD w) v j)

/-- A command that issues a C-op with result `f` answers with the result modulo 2^64 in sD. -/
theorem answers_alu {c : Instr} {s : State} {n : Fin 288} {op k v : Nat} {w : Word} {f : Nat → Word → Word}
    (hexec : exec c s = issue s n 0 op fun k w => s.alu n k w (f k w)) (h : s.Issues n 0 op k w)
    (hv : (f k w).toNat = v % 2 ^ 64) :
    Answers c s fun t => ∀ j, (t.sreg n k j).toNat = if j = cSD w ∧ j ≠ 0 then v % 2 ^ 64 else (s.sreg n k j).toNat := by
  refine ⟨_, hexec.trans (issue_ok h _), fun j => ?_⟩
  rw [alu_wroteS w (f k w) (fetch_running h.1) j, apply_ite BitVec.toNat, hv]

end Sys2Proof.Machine

namespace Sys2Proof.Proofs
open Sys2Proof.Machine

/-- Settles O53: the fields are quotients and remainders, and ADD, SUB and MUL are `State.alu` of a sum, difference and product of
64-bit words. -/
theorem scalarOperands : Obligations.ScalarOperands := by
  unfold Obligations.ScalarOperands
  intro n s k w a b result
  refine ⟨bits_eq_div_mod 55 51 _, bits_eq_div_mod 50 46 _, bits_eq_div_mod 45 41 _, bits_eq_div_mod 40 35 _,
    toInt_sext64_32 _, BitVec.toNat_add _ _, sreg_zero s n k, fun r j v => sreg_putS s n k r v j, ?add, ?sub, ?mul⟩
  case add => exact fun h => answers_alu rfl h (BitVec.toNat_add _ _)
  case sub =>
    have hb : b < 2 ^ 64 := (s.op2 n k w).isLt
    refine fun h => answers_alu rfl h ((BitVec.toNat_sub _ _).trans ?_)
    show (2 ^ 64 - b + a) % 2 ^ 64 = (2 ^ 64 + a - b) % 2 ^ 64
    rw [Nat.sub_add_comm hb.le]
  case mul => exact fun h => answers_alu rfl h (BitVec.toNat_mul _ _)

end Sys2Proof.Proofs

/-! SUPPORT. What each command that issues an instruction runs: one equation for each table of rows (R86, R95, R116). -/
namespace Sys2Proof.Machine

/-- A two-operand C-op writes its function of sA and op2 to sD. -/
theorem exec_aluRows : ∀ e ∈ aluRows, ∀ (n : Fin 288) (s : State), exec (e.1 n) s =
    issue s n 0 e.2.1 fun k w => s.alu n k w (e.2.2 (s.sreg n k (cSA w)) (s.op2 n k w)) := by
  have slt (n : Fin 288) (s : State) : exec (.slt n) s = issue s n 0 0x0E fun k w =>
      s.alu n k w (if (s.sreg n k (cSA w)).toInt < (s.op2 n k w).toInt then 1 else 0) := by
    simp only [exec, execSlt, BitVec.slt, decide_eq_true_eq]
  have sltu (n : Fin 288) (s : State) : exec (.sltu n) s = issue s n 0 0x0F fun k w =>
      s.alu n k w (if (s.sreg n k (cSA w)).toNat < (s.op2 n k w).toNat then 1 else 0) := by
    simp only [exec, execSltu, BitVec.ult, decide_eq_true_eq]
  simp only [aluRows, List.forall_mem_cons, List.not_mem_nil, false_imp_iff, implies_true, and_true]
  exact ⟨fun _ _ => rfl, fun _ _ => rfl, fun _ _ => rfl, fun _ _ => rfl, fun _ _ => rfl, fun _ _ => rfl, fun _ _ => rfl,
    fun _ _ => rfl, fun _ _ => rfl, slt, sltu⟩

/-- The other C-ops with a scalar result. -/
theorem exec_moveRows : ∀ e ∈ moveRows, ∀ (n : Fin 288) (s : State), exec (e.1 n) s =
    issue s n 0 e.2.1 fun k w => s.alu n k w (e.2.2 s n k w) := by
  simp only [moveRows, List.forall_mem_cons, List.not_mem_nil, false_imp_iff, implies_true, and_true]
  exact ⟨fun _ _ => rfl, fun _ _ => rfl, fun _ _ => rfl, fun _ _ => rfl⟩

/-- A conditional branch. -/
theorem exec_branchRows : ∀ e ∈ branchRows, ∀ (n : Fin 288) (s : State), exec (e.1 n) s =
    issue s n 0 e.2.1 fun k w => s.branch n k w (e.2.2 (s.sreg n k (cSA w)) (s.sreg n k (cSB w))) := by
  have ge {w : Nat} (a b : BitVec w) : decide (a.toInt ≥ b.toInt) = !a.slt b := by
    rw [BitVec.slt, ← decide_not]; exact decide_eq_decide.2 not_lt.symm
  have geu {w : Nat} (a b : BitVec w) : decide (a.toNat ≥ b.toNat) = !a.ult b := by
    rw [BitVec.ult, ← decide_not]; exact decide_eq_decide.2 not_lt.symm
  have ne (a b : Word) : (a != b) = decide (a ≠ b) := by rw [Bool.eq_iff_iff]; simp
  simp only [branchRows, List.forall_mem_cons, List.not_mem_nil, false_imp_iff, implies_true, and_true, ge, geu]
  refine ⟨fun _ _ => rfl, fun n s => ?_, fun _ _ => rfl, fun _ _ => rfl, fun _ _ => rfl, fun _ _ => rfl⟩
  simp only [exec, execBne, ne]

/-- A T-op without a check of its own at issue enters the tensor queue. -/
theorem exec_tensorRows : ∀ e ∈ tensorRows, ∀ (n : Fin 288) (s : State), exec (e.1 n) s =
    issue s n 1 e.2 fun k w => s.tPush n k w := by
  simp only [tensorRows, List.forall_mem_cons, List.not_mem_nil, false_imp_iff, implies_true, and_true]
  exact ⟨fun _ _ => rfl, fun _ _ => rfl, fun _ _ => rfl, fun _ _ => rfl, fun _ _ => rfl, fun _ _ => rfl, fun _ _ => rfl,
    fun _ _ => rfl, fun _ _ => rfl⟩

/-- A V-op enters the vector queue. -/
theorem exec_vectorRows : ∀ e ∈ vectorRows, ∀ (n : Fin 288) (s : State), exec (e.1 n) s =
    issue s n 3 e.2 fun k w => s.vPush n k w := by
  simp only [vectorRows, List.forall_mem_append, List.forall_mem_cons, List.not_mem_nil, false_imp_iff, implies_true, and_true]
  and_intros <;> exact fun _ _ => rfl

/-- An M-op: RPUT and TBL with the check bits of their source, the others with sound ones. -/
theorem exec_moveEngineRows : ∀ e ∈ moveEngineRows, ∀ (ecc : Ecc) (n : Fin 288) (s : State), ∃ ecc', exec (e.1 ecc n) s =
    mIssue n e.2 ecc' s := by
  simp only [moveEngineRows, List.forall_mem_cons, List.not_mem_nil, false_imp_iff, implies_true, and_true]
  exact ⟨fun _ _ _ => ⟨_, rfl⟩, fun e _ _ => ⟨e, rfl⟩, fun _ _ _ => ⟨_, rfl⟩, fun _ _ _ => ⟨_, rfl⟩, fun _ _ _ => ⟨_, rfl⟩,
    fun e _ _ => ⟨e, rfl⟩⟩

/-- LDS and STS put an access of 8 bytes into the vector queue, and fault at an offset outside the scratchpad (R116). -/
def State.spadAccess (s : State) (n k : Nat) (w : Word) : State :=
  let a := (s.sreg n k (cSA w) + s.op2 n k w).toNat
  if a % 8 ≠ 0 || a > 0x2F_FFF8 then s.syncFault n k w 5 0
  else if (s.core n).vq.length ≥ 16 then s
  else
    let c := s.core n
    (s.setCore n { c with vq := c.vq ++ [⟨k, w, 0, 0, s.sreg n k (cSD w), a⟩] }).retire n k w

theorem exec_lds (n : Fin 288) (s : State) : exec (.lds n) s = issue s n 0 0x10 fun k w => s.spadAccess n k w := rfl
theorem exec_sts (n : Fin 288) (s : State) : exec (.sts n) s = issue s n 0 0x11 fun k w => s.spadAccess n k w := rfl

/-! ### What an issued instruction answers -/

/-- A command whose instruction the core is to issue answers with the instruction's effect. -/
theorem answers_issue {c : Instr} {s : State} {n : Fin 288} {grp op k : Nat} {w : Word} {f : Nat → Word → State} {P : State → Prop}
    (hc : exec c s = issue s n grp op f) (h : s.Issues n grp op k w) (hP : P (f k w)) : Answers c s P :=
  ⟨f k w, hc.trans (issue_ok h f), hP⟩

/-- A C-op that writes sD and goes on in line (R115, R116). -/
theorem alu_in {s : State} {n : Fin 288} {k : Nat} (w v : Word) (hr : ((s.core n).slot k).st = .running) (hl : s.InLine n k) :
    s.WroteS (s.alu n k w v) n k (cSD w) v ∧ s.Moved (s.alu n k w v) n k (((s.core n).slot k).pc + 1) := by
  refine ⟨alu_wroteS w v hr, putS_moved (r := cSD w) (v := v) ?_⟩
  have h := (retire_in (s.putS n k (cSD w) v) n k w (inLine_putS _ _ hl)).1
  rwa [slot_putS, (setS_keeps _ _ _).1] at h

end Sys2Proof.Machine

/-! SUPPORT. The end of an instruction that branches, waits or yields: where its context goes, and which context the scalar unit takes
up (R90, R91, R98, R116). -/
namespace Sys2Proof.Machine

/-! ### Transfers of control -/

/-- A transfer goes to its address inside the region, and raises the instruction-address fault outside it. -/
theorem goto_goes {c : Instr} {s u : State} {n : Fin 288} {op k : Nat} {w target : Word} {f : Nat → Word → State} {q : State → Prop}
    (hc : exec c s = issue s n 0 op f) (h : s.Issues n 0 op k w) (hf : f k w = u.goto n k w target)
    (hr : ((u.core n).slot k).st = .running) (hlen : ((u.core n).slot k).launch.len = ((s.core n).slot k).launch.len)
    (hm : ∀ t, u.MovedTo t n k target.toNat (u.core n) → s.Moved t n k target.toNat)
    (hx : ∀ t, u.Faulted t n k 2 0 op (target.toNat % 2 ^ 44) → s.Faulted t n k 2 0 op (target.toNat % 2 ^ 44))
    (hq : u.SameS (u.goto n k w target) n k → q (u.goto n k w target)) :
    (target.toNat < ((s.core n).slot k).launch.len → Answers c s fun t => s.Moved t n k target.toNat ∧ q t) ∧
    (((s.core n).slot k).launch.len ≤ target.toNat → Answers c s fun t => s.Faulted t n k 2 0 op (target.toNat % 2 ^ 44) ∧ q t) := by
  obtain ⟨-, hgrp, hop, -, -⟩ := id h
  refine ⟨fun hin => answers_issue hc h ?_, fun hout => answers_issue hc h ?_⟩
  · obtain ⟨hmoved, hsame⟩ := goto_in u n k w target (hlen ▸ hin)
    exact hf ▸ ⟨hm _ hmoved, hq hsame⟩
  · obtain ⟨hfault, hsame⟩ := goto_out u n k w target hr (hlen ▸ hout)
    rw [hgrp, hop] at hfault
    exact hf ▸ ⟨hx _ hfault, hq hsame⟩

/-- A transfer that writes no register. -/
theorem goto_goes_same {c : Instr} {s : State} {n : Fin 288} {op k : Nat} {w target : Word} {f : Nat → Word → State}
    (hc : exec c s = issue s n 0 op f) (h : s.Issues n 0 op k w) (hf : f k w = s.goto n k w target) :
    (target.toNat < ((s.core n).slot k).launch.len → Answers c s fun t => s.Moved t n k target.toNat ∧ s.SameS t n k) ∧
    (((s.core n).slot k).launch.len ≤ target.toNat → Answers c s fun t =>
      s.Faulted t n k 2 0 op (target.toNat % 2 ^ 44) ∧ s.SameS t n k) :=
  goto_goes hc h hf (fetch_running h.1) rfl (fun _ h => h) (fun _ h => h) id

/-- A transfer after a write of a scalar register. -/
theorem goto_goes_wrote {c : Instr} {s : State} {n : Fin 288} {op k r : Nat} {w target v : Word} {f : Nat → Word → State}
    (hc : exec c s = issue s n 0 op f) (h : s.Issues n 0 op k w) (hf : f k w = (s.putS n k r v).goto n k w target) :
    (target.toNat < ((s.core n).slot k).launch.len → Answers c s fun t => s.Moved t n k target.toNat ∧ s.WroteS t n k r v) ∧
    (((s.core n).slot k).launch.len ≤ target.toNat → Answers c s fun t =>
      s.Faulted t n k 2 0 op (target.toNat % 2 ^ 44) ∧ s.WroteS t n k r v) := by
  obtain ⟨-, hlaunch, hst⟩ := setS_keeps ((s.core n).slot k) r v
  refine goto_goes hc h hf ?_ ?_ (fun _ h => putS_moved h) (fun _ h => putS_faulted h)
    (fun hs j => (hs j).trans (sreg_putS s n k r v j))
  · rw [slot_putS, hst]; exact fetch_running h.1
  · rw [slot_putS, hlaunch]

/-- Where a branch goes. -/
theorem branch_eq_goto (s : State) (n k : Nat) (w : Word) (b : Bool) : s.branch n k w b =
    s.goto n k w (if b then BitVec.ofNat 64 ((s.core n).slot k).pc + cIMM w else BitVec.ofNat 64 (((s.core n).slot k).pc + 1)) := by
  cases b <;> rfl

/-- LOOP jumps while its register, counted down, is not 0; s0 stays 0 and never jumps. -/
theorem loop_branch (s : State) (n : Fin 288) (k r : Nat) (w v : Word) :
    (s.putS n k r v).branch n k w ((s.putS n k r v).sreg n k r != 0) =
      (s.putS n k r v).goto n k w (if r ≠ 0 ∧ v ≠ 0 then BitVec.ofNat 64 ((s.core n).slot k).pc + cIMM w
        else BitVec.ofNat 64 (((s.core n).slot k).pc + 1)) := by
  have hv : ((s.putS n k r v).sreg n k r != 0) = decide (r ≠ 0 ∧ v ≠ 0) := by
    rw [sreg_putS s n k r v r]
    by_cases hr : r = 0
    · simp [hr]
    · simp [hr, bne, Bool.beq_eq_decide_eq]
  rw [branch_eq_goto, hv, slot_putS, (setS_keeps _ _ _).1]
  simp only [decide_eq_true_eq]

/-- A C-op in line at the last instruction of its region. -/
theorem regionEnd_pcNext {s : State} {n : Fin 288} {k : Nat} (h : ((s.core n).slot k).pc + 1 = ((s.core n).slot k).launch.len)
    (hl : ((s.core n).slot k).launch.len ≤ 16384) : (s.pcNext n k).toNat = ((s.core n).slot k).launch.len := by
  unfold State.pcNext
  rw [h, BitVec.toNat_ofNat]
  omega

/-! ### Giving up the scalar unit -/

theorem running_lt {c : Core} {k : Nat} (h : c.running = some k) : k < 4 :=
  List.mem_range.1 (List.mem_of_find?_eq_some h)

theorem nextReady_spec {c : Core} {k : Nat} (h : c.nextReady = some k) : k < 4 ∧ (c.slot k).st = .ready := by
  unfold Core.nextReady at h
  have hm := List.mem_of_find?_eq_some h
  simp only [List.map_cons, List.map_nil, List.mem_cons, List.not_mem_nil, or_false] at hm
  exact ⟨by omega, by simpa using List.find?_some h⟩

/-- Of a core with nothing Running, slot `k` made Running is the one Running. -/
theorem running_withSlot {c : Core} {k : Nat} {x : Ctx} (h : c.running = none) (hk : k < 4) (hx : x.st = .running) :
    (c.withSlot k x).running = some k := by
  unfold Core.running at *
  rw [List.find?_eq_none] at h
  rw [List.find?_eq_some_iff_getElem]
  refine ⟨by simp [hx], k, by simpa using hk, by simp, fun j hj => ?_⟩
  have hjk : j ≠ k := by omega
  have := h j (by simp; omega)
  simpa [Core.slot_withSlot, hjk] using this

/-- A core with a context led outside its region: that context, Running, faults at its fetch (R98). -/
theorem overrun_slot {c : Core} {k : Nat} {x : Ctx} (h : c.running = some k) (hx : c.slot k = { x with st := .running }) (j : Nat) :
    c.overrun.slot j = if j = k then x.taken else c.slot j := by
  unfold Core.overrun
  rw [h]
  simp only
  have hoff : (c.slot k).off = x.off := by rw [hx]
  rw [hoff]
  rcases ho : x.off with _ | ⟨tgt, g⟩
  · simp only [Ctx.taken, ho]
    split
    next hj => rw [hj, hx, ho]
    next => rfl
  · simp only [Ctx.taken, ho, Core.fault, hx, Core.slot_withSlot, reduceIte, reduceCtorEq, decide_false, Bool.or_self,
      Bool.false_eq_true]
    split <;> rfl

theorem fault_frame (c : Core) (k code grp op info : Nat) :
    c.fault k code grp op info = { c with ctx := (c.fault k code grp op info).ctx } := by
  unfold Core.fault
  simp only
  split <;> rfl

theorem overrun_frame (c : Core) : c.overrun = { c with ctx := c.overrun.ctx } := by
  unfold Core.overrun
  split
  next => rfl
  next =>
    split
    next => rfl
    next => rw [fault_frame]; rfl

/-- The core with slot `k` made the one that runs. -/
def Core.takeUp (c : Core) (k : Nat) : Core := { c.withSlot k { c.slot k with st := .running } with cur := k }

theorem slot_takeUp (c : Core) (k j : Nat) :
    (c.takeUp k).slot j = if j = k then { c.slot k with st := .running } else c.slot j := by
  simp only [Core.takeUp, Core.slot, Core.withSlot, tget_tset]

theorem switch_eq_overrun {c : Core} {k : Nat} (hr : c.running = none) (hn : c.nextReady = some k) :
    c.switch = (c.takeUp k).overrun := by
  unfold Core.switch
  rw [hr, hn]
  rfl

/-- With nothing Running and a context Ready, the first Ready one is taken up (R90, R91). -/
theorem switch_taken {c : Core} {k : Nat} (hr : c.running = none) (hn : c.nextReady = some k) :
    c.switch.cur = k ∧ ∀ j, c.switch.slot j = if j = k then (c.slot k).taken else c.slot j := by
  have hrun : (c.takeUp k).running = some k :=
    running_withSlot (x := { c.slot k with st := .running }) hr (nextReady_spec hn).1 rfl
  rw [switch_eq_overrun hr hn]
  refine ⟨by rw [overrun_frame]; rfl, fun j => ?_⟩
  rw [overrun_slot hrun (by rw [slot_takeUp, if_pos rfl]), slot_takeUp]
  split <;> rfl

/-- A core that has a Running context, or none that is Ready, does not switch (R91). -/
theorem switch_stays {c : Core} (h : ∀ k, c.running = none → c.nextReady ≠ some k) : c.switch = c := by
  unfold Core.switch
  split
  next hr hn => exact absurd hn (h _ hr)
  next => rfl

theorem switch_frame (c : Core) : c.switch = { c with ctx := c.switch.ctx, cur := c.switch.cur } := by
  unfold Core.switch
  split
  · rw [overrun_frame]; rfl
  · rfl

/-- A switch takes up a Ready context or leaves a slot as it was. -/
theorem switch_slot (c : Core) (j : Nat) :
    c.switch.slot j = c.slot j ∨ c.switch.slot j = (c.slot j).taken ∧ (c.slot j).st = .ready := by
  by_cases h : ∃ k, c.running = none ∧ c.nextReady = some k
  · obtain ⟨k, hr, hn⟩ := h
    rw [(switch_taken hr hn).2 j]
    split
    next hj => exact .inr ⟨by rw [hj], hj ▸ (nextReady_spec hn).2⟩
    next => exact .inl rfl
  · exact .inl (by rw [switch_stays fun k hr hn => h ⟨k, hr, hn⟩])

/-- A context whose instruction gives up the scalar unit stops as `g` says, and the next Ready context is taken up. -/
def State.giveUp (s : State) (n k : Nat) (w : Word) (g : Ctx → Ctx) : State :=
  let t := s.leave n k w
  t.setCore n ((t.core n).withSlot k (g ((t.core n).slot k))).switch

/-- The context after an instruction that gives up the scalar unit, still Running: in line, or led outside its region (R98). -/
def Ctx.left (x : Ctx) (w : Word) : Ctx :=
  if x.pc + 1 < x.launch.len then { x with pc := x.pc + 1 } else { x with off := some (x.pc + 1, fGrp w * 64 + fOp w) }

theorem leave_eq (s : State) (n k : Nat) (w : Word) : s.leave n k w =
    (s.setCore n (((s.core n).addAct 0 1).withSlot k (((s.core n).slot k).left w))).progressed n := by
  unfold State.leave Ctx.left
  by_cases h : ((s.core n).slot k).pc + 1 < ((s.core n).slot k).launch.len <;> simp only [h, if_true, if_false, Core.slot_addAct]

/-- The core before the switch. -/
def State.given (s : State) (n k : Nat) (w : Word) (g : Ctx → Ctx) : Core :=
  (((s.core n).addAct 0 1).withSlot k (((s.core n).slot k).left w)).withSlot k (g (((s.core n).slot k).left w))

theorem slot_given (s : State) (n k : Nat) (w : Word) (g : Ctx → Ctx) (j : Nat) :
    (s.given n k w g).slot j = if j = k then g (((s.core n).slot k).left w) else (s.core n).slot j := by
  simp only [State.given, Core.slot_withSlot, Core.slot_addAct]
  split <;> rfl

theorem giveUp_core (s : State) (n k : Nat) (w : Word) (g : Ctx → Ctx) :
    (s.giveUp n k w g).core n = (s.given n k w g).switch := by
  unfold State.giveUp State.given
  simp only [leave_eq, core_progressed, State.core_setCore_same, Core.slot_withSlot_same]

theorem giveUp_onlyCore (s : State) (n : Fin 288) (k : Nat) (w : Word) (g : Ctx → Ctx) :
    s.OnlyCore (s.giveUp n k w g) n := by
  unfold State.giveUp
  rw [leave_eq]
  refine ⟨onlyCores_setCore (onlyCores_trans (onlyCores_setCore (onlyCores_refl s) _ _) (progressed_spec _ n)) _ _, fun m hm => ?_⟩
  simp only [State.core_setCore, if_neg hm, core_progressed]

theorem giveUp_frame (s : State) (n k : Nat) (w : Word) (g : Ctx → Ctx) : (s.giveUp n k w g).core n =
    { s.core n with ctx := ((s.giveUp n k w g).core n).ctx, act := ((s.giveUp n k w g).core n).act,
                    cur := ((s.giveUp n k w g).core n).cur } := by
  rw [giveUp_core, switch_frame]
  rfl

/-- A context that gives up the scalar unit and is not itself taken up again. -/
theorem giveUp_slot {s : State} {n k : Nat} {w : Word} {g : Ctx → Ctx}
    (hk : (g (((s.core n).slot k).left w)).st = .ready → (s.given n k w g).nextReady ≠ some k) :
    ((s.giveUp n k w g).core n).slot k = g (((s.core n).slot k).left w) := by
  have hslot : (s.given n k w g).slot k = g (((s.core n).slot k).left w) := by rw [slot_given, if_pos rfl]
  rw [giveUp_core]
  by_cases h : ∃ j, (s.given n k w g).running = none ∧ (s.given n k w g).nextReady = some j
  · obtain ⟨j, hr, hn⟩ := h
    have hkj : k ≠ j := by
      rintro rfl
      exact hk (hslot ▸ (nextReady_spec hn).2) hn
    rw [(switch_taken hr hn).2 k, if_neg hkj, hslot]
  · rw [switch_stays fun j hr hn => h ⟨j, hr, hn⟩, hslot]

/-- The next Ready slot where the current one, last in the order, becomes Ready itself. -/
theorem nextReady_of_cur {c d : Core} {k j : Nat} (hk : k < 4) (hc : c.cur = k) (hd : d.cur = k)
    (h : ∀ i, i ≠ k → (c.slot i).st = (d.slot i).st) (hs : (c.slot k).st ≠ .ready) (hn : c.nextReady = some j) :
    d.nextReady = some j := by
  have split4 (c : Core) : c.nextReady = (([1, 2, 3].map fun i => (c.cur + i) % 4).find? fun k => (c.slot k).st == .ready).or
      ([(c.cur + 4) % 4].find? fun k => (c.slot k).st == .ready) :=
    List.find?_append (xs := [1, 2, 3].map fun i => (c.cur + i) % 4)
  have hlast : (k + 4) % 4 = k := by omega
  have hfirst : ([1, 2, 3].map fun i => (k + i) % 4).find? (fun k => (c.slot k).st == .ready) =
      ([1, 2, 3].map fun i => (k + i) % 4).find? fun k => (d.slot k).st == .ready := by
    refine List.find?_congr fun i hi => ?_
    simp only [List.map_cons, List.map_nil, List.mem_cons, List.not_mem_nil, or_false] at hi
    rw [h i (by omega)]
  rw [split4, hc, hlast, hfirst, List.find?_singleton, if_neg (by simpa using hs), Option.or_none] at hn
  rw [split4, hd, hn]
  rfl

/-- A context that gives up the scalar unit in line stops in its new state (R90, R91). -/
theorem giveUp_paused {s : State} {n : Fin 288} {k : Nat} {w : Word} {g : Ctx → Ctx} {st : CtxSt} {wf : WaitFor}
    (hl : s.InLine n k) (hr : (s.core n).running = some k) (hst : st ≠ .running)
    (hg : ∀ x, g x = { x with st := st, wait := (g x).wait })
    (hwf : (g { (s.core n).slot k with pc := ((s.core n).slot k).pc + 1 }).wait = wf)
    (hready : st = .ready → (s.core n).cur = k ∧ (s.core n).nextReady.isSome = true) :
    s.Paused (s.giveUp n k w g) n k st wf := by
  have hrun := running_st hr
  have hleft : ((s.core n).slot k).left w = { (s.core n).slot k with pc := ((s.core n).slot k).pc + 1 } := if_pos hl.1
  have hgst : (g (((s.core n).slot k).left w)).st = st := by rw [hg]
  -- the next Ready context is the one that was next before, and not the one that stops
  have hnext : ∀ j, (s.core n).cur = k ∨ st ≠ .ready → (s.core n).nextReady = some j → (s.given n k w g).nextReady = some j := by
    intro j hcase hn
    rcases eq_or_ne st .ready with rfl | hne
    · refine nextReady_of_cur (running_lt hr) (hcase.resolve_right (absurd rfl)) (hcase.resolve_right (absurd rfl))
        (fun i hi => ?_) (by rw [hrun]; decide) hn
      rw [slot_given, if_neg hi]
    · rw [← hn]
      refine nextReady_congr (c := s.given n k w g) (d := s.core n) rfl fun i => ?_
      rw [slot_given]
      split
      next hi => rw [hgst, hi, hrun]; simp [hne]
      next => rfl
  have hslot := giveUp_slot (s := s) (n := n) (k := k) (w := w) (g := g) fun hrdy => by
    rw [hgst] at hrdy
    obtain ⟨hcur, hsome⟩ := hready hrdy
    obtain ⟨j, hj⟩ := Option.isSome_iff_exists.1 hsome
    rw [hnext j (.inl hcur) hj]
    rintro ⟨⟩
    have := (nextReady_spec hj).2
    rw [hrun] at this
    cases this
  refine ⟨giveUp_onlyCore s n k w g, giveUp_frame s n k w g, fun j hj => ?_, ?_, fun hcur hothers j hj => ?_⟩
  · have := switch_slot (s.given n k w g) j
    rwa [← giveUp_core, slot_given, if_neg hj] at this
  · rw [hslot, hg, hleft, hwf]
  · have hnone : (s.given n k w g).running = none := by
      refine running_none fun i => ?_
      rw [slot_given]
      split
      next => rw [hgst]; exact hst
      next hi => exact hothers i hi
    have hn := hnext j (.inl hcur) hj
    have hjk : j ≠ k := by
      rintro rfl
      have := (nextReady_spec hj).2
      rw [hrun] at this
      cases this
    obtain ⟨hc, hs⟩ := switch_taken hnone hn
    rw [giveUp_core, hs j, if_pos rfl, slot_given, if_neg hjk]
    exact ⟨rfl, hc⟩

end Sys2Proof.Machine

/-! The scalar results, transfers, waits and the issue to the engines (R86, R90, R93, R97, R98, R115 to R117). -/
namespace Sys2Proof.Machine

/-- A C-op with a result, at the last instruction of its region (R98). -/
theorem alu_regionEnd {s : State} {n : Fin 288} {op k : Nat} {w : Word} (v : Word) (h : s.Issues n 0 op k w)
    (hend : ((s.core n).slot k).pc + 1 = ((s.core n).slot k).launch.len) (hl : ((s.core n).slot k).launch.len ≤ 16384) :
    s.Faulted (s.alu n k w v) n k 2 0 op ((s.core n).slot k).launch.len ∧ s.WroteS (s.alu n k w v) n k (cSD w) v := by
  have hr := fetch_running h.1
  obtain ⟨-, hgrp, hop, -, -⟩ := h
  obtain ⟨hpc, hlaunch, hst⟩ := setS_keeps ((s.core n).slot k) (cSD w) v
  refine ⟨putS_faulted (r := cSD w) (v := v) ?_, alu_wroteS w v hr⟩
  have hnext : ((s.putS n k (cSD w) v).pcNext n k).toNat = ((s.core n).slot k).launch.len := by
    rw [State.pcNext, slot_putS, hpc]; exact regionEnd_pcNext hend hl
  have := (goto_out (s.putS n k (cSD w) v) n k w _ (by rw [slot_putS, hst]; exact hr)
    (by rw [slot_putS, hlaunch, hnext])).1
  rwa [hnext, hgrp, hop, Nat.mod_eq_of_lt (by omega)] at this

/-- TIME's copy is a multiple of 40 ns, at most the local time and less than 40 ns and 4 core cycles before it (R43, R116). -/
theorem timeCopy_spec (s : State) (n : Nat) : s.timeCopy n % 40 = 0 ∧ s.timeCopy n ≤ s.clk.localTime ∧
    (s.clk.localTime - s.timeCopy n) * s.clk.coreMHz < 40 * s.clk.coreMHz + 4000 := by
  have hr : s.clk.localTime % 40 * s.clk.coreMHz ≤ 40 * s.clk.coreMHz :=
    Nat.mul_le_mul_right _ (Nat.mod_lt _ (by decide)).le
  unfold State.timeCopy
  simp only [Bool.and_eq_true, decide_eq_true_eq]
  split
  next h =>
    have : (s.clk.localTime - (s.clk.localTime / 40 * 40 - 40)) * s.clk.coreMHz ≤ (s.clk.localTime % 40 + 40) * s.clk.coreMHz :=
      Nat.mul_le_mul_right _ (by omega)
    rw [Nat.add_mul] at this
    omega
  next h =>
    have : s.clk.localTime - s.clk.localTime / 40 * 40 = s.clk.localTime % 40 := by omega
    rw [this]
    omega

/-- WAIT and FENCE that are not satisfied, and YIELD to another context, give up the scalar unit. -/
theorem exec_wait (n : Fin 288) (s : State) : exec (.wait n) s = issue s n 0 0x1B fun k w =>
    if (s.sreg n k (cSA w) + cIMM w).ule ((s.core n).counter (cCNT w)) then s.retire n k w
    else s.giveUp n k w fun x => { x with st := .waiting, wait := .counter (cCNT w) (s.sreg n k (cSA w) + cIMM w) } := rfl

theorem exec_fence (n : Fin 288) (s : State) : exec (.fence n) s = issue s n 0 0x1F fun k w =>
    if (s.core n).fenceDone k (bits 2 0 w.toNat) then s.retire n k w
    else s.giveUp n k w fun x => { x with st := .waiting, wait := .fence (bits 2 0 w.toNat) } := rfl

theorem exec_yield (n : Fin 288) (s : State) : exec (.yield n) s = issue s n 0 0x02 fun k w =>
    if (s.core n).nextReady.isSome then s.giveUp n k w fun x => { x with st := .ready } else s.retire n k w := rfl

/-- END: its context drains, and the PC stays (R90). -/
def State.endCtx (s : State) (n k : Nat) : State :=
  (s.setCore n (((s.core n).addAct 0 1).withSlot k { (s.core n).slot k with st := .draining })).progressed n

theorem exec_endOp (n : Fin 288) (s : State) : exec (.endOp n) s = issue s n 0 0x01 fun k _ => s.endCtx n k := rfl

theorem endCtx_spec (s : State) (n : Fin 288) (k : Nat) : s.OnlySlot (s.endCtx n k) n k (s.core n) ∧
    ((s.endCtx n k).core n).slot k = { (s.core n).slot k with st := .draining } := by
  unfold State.endCtx
  refine ⟨⟨⟨onlyCores_trans (onlyCores_setCore (onlyCores_refl s) _ _) (progressed_spec _ n), fun m hm => ?_⟩, ?_, fun j hj => ?_⟩, ?_⟩
  · rw [core_progressed, State.core_setCore, if_neg hm]
  · simp only [core_progressed, State.core_setCore_same]; rfl
  · simp only [core_progressed, State.core_setCore_same, Core.slot_withSlot, if_neg hj, Core.slot_addAct]
  · simp only [core_progressed, State.core_setCore_same, Core.slot_withSlot_same]

/-- A context that waits at the last instruction of its region stands outside it when it runs again (R98). -/
theorem giveUp_regionEnd {s : State} {n : Fin 288} {k : Nat} {w : Word} (wf : WaitFor) (hgrp : fGrp w = 0)
    (hend : ((s.core n).slot k).pc + 1 = ((s.core n).slot k).launch.len) :
    s.OnlyCore (s.giveUp n k w fun x => { x with st := .waiting, wait := wf }) n ∧
    ((s.giveUp n k w fun x => { x with st := .waiting, wait := wf }).core n).slot k =
      { (s.core n).slot k with st := .waiting, wait := wf, off := some (((s.core n).slot k).launch.len, fOp w) } := by
  refine ⟨giveUp_onlyCore s n k w _, ?_⟩
  rw [giveUp_slot (fun h => by cases h), Ctx.left, if_neg hend.ge.not_gt, hend, hgrp, Nat.zero_mul, Nat.zero_add]

theorem fenceDone_eq_false (c : Core) (k m : Nat) : c.fenceDone k m = false ↔
    (bit 0 m = true ∧ c.tBusy k = true) ∨ (bit 1 m = true ∧ c.vBusy k = true) ∨ (bit 2 m = true ∧ c.mBusy k = true) := by
  simp only [Core.fenceDone, Bool.not_eq_false', Bool.or_eq_true, Bool.and_eq_true, or_assoc]

/-- The mask of a FENCE is its low three bits. -/
theorem bit_bits (w : Nat) {i : Nat} (hi : i < 3) : bit i (bits 2 0 w) = bit i w := by
  simp only [bit, bits, Nat.shiftRight_eq_div_pow]
  interval_cases i <;> simp <;> omega

theorem fenceDone_bits (c : Core) (k w : Nat) : c.fenceDone k (bits 2 0 w) = c.fenceDone k w := by
  simp only [Core.fenceDone, bit_bits w (i := 0) (by decide), bit_bits w (i := 1) (by decide), bit_bits w (i := 2) (by decide)]

theorem fetch_slot {s : State} {n k : Nat} {w : Word} (h : s.fetch n = some (k, w)) : (s.core n).running = some k := by
  unfold State.fetch at h
  split at h
  next => cases h
  next hk => cases h; exact hk

/-! ### After an update of the core that leaves its contexts -/

theorem onlyCore_setCore (s : State) (n : Fin 288) (c : Core) : s.OnlyCore (s.setCore n c) n :=
  ⟨onlyCores_setCore (onlyCores_refl s) _ _, fun m hm => by rw [State.core_setCore, if_neg hm]⟩

/-- An instruction in line after an update of its core that leaves the contexts alone. -/
theorem retire_after {s u : State} {n : Fin 288} {k : Nat} (w : Word) (hu : s.OnlyCore u n) (hctx : (u.core n).ctx = (s.core n).ctx)
    (hl : s.InLine n k) :
    s.MovedTo (u.retire n k w) n k (((s.core n).slot k).pc + 1) (u.core n) ∧ s.SameS (u.retire n k w) n k := by
  have hslot (j : Nat) : (u.core n).slot j = (s.core n).slot j := by unfold Core.slot; rw [hctx]
  obtain ⟨⟨⟨⟨hcores, hother⟩, hcore, hslots⟩, hk⟩, hsame⟩ := retire_in u n k w (by unfold State.InLine; rw [hslot]; exact hl)
  rw [hslot] at hk
  refine ⟨⟨⟨⟨onlyCores_trans hu.1 hcores, fun m hm => (hother m hm).trans (hu.2 m hm)⟩, hcore,
    fun j hj => (hslots j hj).trans (hslot j)⟩, hk⟩, fun j => (hsame j).trans ?_⟩
  unfold State.sreg
  rw [hslot]

/-- A synchronous fault of a Running context (R119, R120). -/
theorem syncFault_spec {s : State} {n : Fin 288} {k : Nat} (w : Word) (code info : Nat) (hr : ((s.core n).slot k).st = .running) :
    s.Faulted (s.syncFault n k w code info) n k code (fGrp w) (fOp w) (info % 2 ^ 44) ∧ s.SameS (s.syncFault n k w code info) n k := by
  have hfault : (s.core n).fault k code (fGrp w) (fOp w) info = (s.core n).withSlot k { (s.core n).slot k with
      st := .draining, wait := .nothing, faultCode := code, faultGrp := fGrp w, faultOp := fOp w, faultInfo := info % 2 ^ 44 } := by
    simp only [Core.fault, hr, reduceCtorEq, decide_false, Bool.or_self, Bool.false_eq_true, if_false]
  unfold State.syncFault
  rw [hfault]
  refine ⟨⟨⟨onlyCore_setCore s n _, ?_, fun j hj => ?_⟩, ?_⟩, fun j => ?_⟩
  · rw [State.core_setCore_same]; rfl
  · rw [State.core_setCore_same, Core.slot_withSlot, if_neg hj]
  · rw [State.core_setCore_same, Core.slot_withSlot_same]
  · simp only [State.sreg, State.core_setCore_same, Core.slot_withSlot_same]; rfl

/-- A change of a counter at its own core (R93). -/
theorem setCnt_spec (s : State) (n : Fin 288) (i : Nat) (v : Word) : s.OnlyCore (s.setCnt n i v) n ∧
    (s.setCnt n i v).core n = (s.core n).setCounter i v := by
  unfold State.setCnt
  refine ⟨⟨onlyCores_trans (onlyCores_setCore (onlyCores_refl s) _ _) (pulse_spec _ 3 n (by decide) (by decide) (by decide)).1,
    fun m hm => ?_⟩, ?_⟩
  · rw [core_pulse, State.core_setCore, if_neg hm]
  · rw [core_pulse, State.core_setCore_same]

theorem counter_setCounter (c : Core) (i j : Nat) (v : Word) : (c.setCounter i v).counter j = if j = i then v else c.counter j :=
  tget_tset _ _ _ _ _

/-- A counter set by an instruction that goes on in line. -/
theorem setCnt_retire {s : State} {n : Fin 288} {k : Nat} (w : Word) (i : Nat) (v : Word) (hl : s.InLine n k) :
    (∀ j, (((s.setCnt n i v).retire n k w).core n).counter j = if j = i then v else (s.core n).counter j) ∧
    s.MovedTo ((s.setCnt n i v).retire n k w) n k (((s.core n).slot k).pc + 1)
      { s.core n with cnt := (((s.setCnt n i v).retire n k w).core n).cnt } ∧ s.SameS ((s.setCnt n i v).retire n k w) n k := by
  obtain ⟨hu, hcore⟩ := setCnt_spec s n i v
  obtain ⟨hmoved, hsame⟩ := retire_after w hu (by rw [hcore]; rfl) hl
  have hcnt : (((s.setCnt n i v).retire n k w).core n).cnt = ((s.core n).setCounter i v).cnt := by
    rw [hmoved.1.2.1, hcore]
  refine ⟨fun j => ?_, ?_, hsame⟩
  · unfold Core.counter
    rw [hcnt]
    exact counter_setCounter _ _ _ _
  · rw [hcnt]
    rwa [hcore] at hmoved

end Sys2Proof.Machine

namespace Sys2Proof.Proofs
open Sys2Proof.Machine

/-- Settles O1: each command is `State.alu` of its result, and TIME's copy lags by less than 40 ns and 4 cycles. -/
theorem copResults : Obligations.CopResults := by
  unfold Obligations.CopResults
  refine ⟨fun e he n s k w h hl => ?_, fun e he n s k w h hl => ?_, fun n s k w h hl => ?_⟩
  · exact answers_issue (exec_aluRows e he n s) h (alu_in w _ (fetch_running h.1) hl)
  · exact answers_issue (exec_moveRows e he n s) h (alu_in w _ (fetch_running h.1) hl)
  · obtain ⟨hwrote, hmoved⟩ := alu_in w (BitVec.ofNat 64 (s.timeCopy n)) (fetch_running h.1) hl
    obtain ⟨hmod, hle, hlag⟩ := timeCopy_spec s n
    exact answers_issue (grp := 0) (op := 0x21) rfl h ⟨hmoved, s.timeCopy n, hmod, hle, hlag, hwrote⟩

/-- Settles O2: every transfer is `State.goto`; at the end of a region the next PC is the region's length, which is outside it. -/
theorem copControl : Obligations.CopControl := by
  unfold Obligations.CopControl
  refine ⟨fun e he n s k w h => ?_, fun n s k w => ⟨?jal, ?jr, ?loop⟩, fun n s k w => ?_⟩
  · exact goto_goes_same (exec_branchRows e he n s) h (branch_eq_goto s n k w _)
  case jal => exact fun h => goto_goes_wrote rfl h rfl
  case jr => exact fun h => goto_goes_same rfl h rfl
  case loop => exact fun h => goto_goes_wrote rfl h (loop_branch s n k (cSD w) w _)
  intro x v waits hend hlen
  refine ⟨?alu, fun h => ?nop, fun h hlt => ?wait, fun h hbusy => ?fence, fun h => ?endOp⟩
  case alu => exact fun e he h => answers_issue (exec_aluRows e he n s) h (alu_regionEnd _ h hend hlen)
  case nop =>
    have hpc := regionEnd_pcNext hend hlen
    obtain ⟨hfault, hsame⟩ := goto_out s n k w (s.pcNext n k) (fetch_running h.1) hpc.ge
    obtain ⟨-, hgrp, hop, -, -⟩ := id h
    rw [hpc, hgrp, hop, Nat.mod_eq_of_lt (hlen.trans_lt (by decide))] at hfault
    exact answers_issue (op := 0) rfl h ⟨hfault, hsame⟩
  case wait =>
    refine answers_issue (exec_wait n s) h ?_
    rw [if_neg (by rw [BitVec.ule, decide_eq_true_eq]; exact hlt.not_ge)]
    exact giveUp_regionEnd _ h.2.1 hend
  case fence =>
    refine answers_issue (exec_fence n s) h ?_
    rw [if_neg (by simp [hbusy])]
    exact giveUp_regionEnd _ h.2.1 hend
  case endOp => exact answers_issue (exec_endOp n s) h (endCtx_spec s n k)

/-- Settles O3: counters change before the context moves on; what waits or yields gives up the scalar unit. -/
theorem copCountersAndWaits : Obligations.CopCountersAndWaits := by
  unfold Obligations.CopCountersAndWaits
  refine ⟨fun n s k w hl => ?_, fun n s k w hl => ?_⟩
  · intro v on
    refine ⟨fun h => ?nop, fun h => ?sig, fun h => ?cset, fun h hge => ?wait, fun h ht hv hm => ?fence⟩
    case nop => exact answers_issue (op := 0) rfl h (retire_in s n k w hl)
    case sig =>
      obtain ⟨hcnt, hmoved, hsame⟩ := setCnt_retire w (cCNT w) ((s.core n).counter (cCNT w) + v) hl
      refine answers_issue (op := 0x1C) rfl h ⟨fun j => (hcnt j).trans ?_, hmoved, hsame⟩
      split
      next hj => rw [hj]
      next => rfl
    case cset => exact answers_issue (op := 0x1D) rfl h (setCnt_retire w (cCNT w) v hl)
    case wait =>
      refine answers_issue (exec_wait n s) h ?_
      rw [if_pos (by rw [BitVec.ule, decide_eq_true_eq]; exact hge)]
      exact retire_in s n k w hl
    case fence =>
      refine answers_issue (exec_fence n s) h ?_
      rw [if_pos]
      · exact retire_in s n k w hl
      · rw [← Bool.not_eq_false, fenceDone_bits, fenceDone_eq_false]
        exact not_or.2 ⟨ht, not_or.2 ⟨hv, hm⟩⟩
  · intro v
    refine ⟨fun h hlt => ?wait, fun h hbusy => ?fence, fun h hready hcur => ?yield, fun h hnone => ?alone, fun h => ?endOp⟩
    case wait =>
      refine answers_issue (exec_wait n s) h ?_
      rw [if_neg (by rw [BitVec.ule, decide_eq_true_eq]; exact hlt.not_ge)]
      exact giveUp_paused hl (fetch_slot h.1) nofun (fun _ => rfl) rfl nofun
    case fence =>
      refine answers_issue (exec_fence n s) h ?_
      rw [if_neg (by rw [Bool.not_eq_true, fenceDone_bits, fenceDone_eq_false]; exact hbusy)]
      exact giveUp_paused hl (fetch_slot h.1) nofun (fun _ => rfl) rfl nofun
    case yield =>
      refine answers_issue (exec_yield n s) h ?_
      rw [if_pos hready]
      exact giveUp_paused hl (fetch_slot h.1) nofun (fun _ => rfl) rfl fun _ => ⟨hcur, hready⟩
    case alone =>
      refine answers_issue (exec_yield n s) h ?_
      rw [hnone]
      exact retire_in s n k w hl
    case endOp => exact answers_issue (exec_endOp n s) h (endCtx_spec s n k)

end Sys2Proof.Proofs

/-! SUPPORT. Issue to the engines and illegal words (R86, R97, R104, R110, R114, R116, R119, R129). -/
namespace Sys2Proof.Machine

/-- A full move engine starts nothing (R86, R114). -/
theorem mStart_full {s : State} {n : Nat} (pick : Option (Nat × Ecc)) (i : Nat)
    (h : 64 ≤ ((s.core n).mops.filter fun m => m.phase != .queued).length) : State.mStart pick i s n = s := by
  cases i with
  | zero => rfl
  | succ i => rw [State.mStart]; exact if_pos h

/-- A word whose `OP` its group does not list is no legal instruction (R97). -/
theorem legal_of_not_listed {w : Word} (h : listed w = false) (grant : Word) (acc0 acc1 : Bool) : legal w grant acc0 acc1 = false := by
  unfold listed at h
  unfold legal
  split at h
  all_goals
    rw [Option.isSome_eq_false_iff, Option.isNone_iff_eq_none] at h
    simp [*]

/-- A word of TBL's group and number is listed. -/
theorem listed_tbl {w : Word} (hgrp : fGrp w = 2) (hop : fOp w = 5) : listed w = true := by
  unfold listed
  rw [hgrp, hop]
  rfl

/-- A word that R97 forbids faults, whichever command of an issue finds it (R97, R119, R123). -/
theorem answers_illegal {c : Instr} {s : State} {n : Fin 288} {grp op k : Nat} {w : Word} {f : Nat → Word → State}
    (hc : exec c s = issue s n grp op f) (h : s.fetch n = some (k, w)) :
    (listed w = false → Answers c s fun t =>
      s.Faulted t n k 1 (fGrp w) (fOp w) 0 ∧ s.SameS t n k ∧ t.clk = s.clk ∧ t.od = s.od) ∧
    (fGrp w = grp → fOp w = op →
      legal w ((s.core n).slot k).launch.grant ((s.core n).slot k).launch.acc0 ((s.core n).slot k).launch.acc1 = false →
      Answers c s fun t =>
        s.Faulted t n k 1 grp op (if grp = 2 ∧ op = 5 then (s.sreg n k (oSS w)).toNat % 2 ^ 44 else 0) ∧
        s.SameS t n k ∧ t.clk = s.clk ∧ t.od = s.od) := by
  have hr := fetch_running h
  have named : fGrp w = grp → fOp w = op →
      legal w ((s.core n).slot k).launch.grant ((s.core n).slot k).launch.acc0 ((s.core n).slot k).launch.acc1 = false →
      Answers c s fun t =>
        s.Faulted t n k 1 grp op (if grp = 2 ∧ op = 5 then (s.sreg n k (oSS w)).toNat % 2 ^ 44 else 0) ∧
        s.SameS t n k ∧ t.clk = s.clk ∧ t.od = s.od := by
    intro hgrp hop hlegal
    obtain ⟨hfault, hsame⟩ := syncFault_spec w 1 (if grp = 2 && op = 5 then (s.sreg n k (oSS w)).toNat else 0) hr
    refine ⟨s.syncFault n k w 1 (if grp = 2 && op = 5 then (s.sreg n k (oSS w)).toNat else 0), hc.trans ?_, ?_, hsame, rfl, rfl⟩
    · simp [issue, h, hgrp, hop, hlegal, State.sreg]
    · convert hfault using 1
      · exact hgrp.symm
      · exact hop.symm
      · simp only [Bool.and_eq_true, decide_eq_true_eq]; split <;> rfl
  refine ⟨fun hl => ?_, named⟩
  have hlegal := legal_of_not_listed hl ((s.core n).slot k).launch.grant ((s.core n).slot k).launch.acc0 ((s.core n).slot k).launch.acc1
  by_cases hthis : fGrp w = grp ∧ fOp w = op
  · have hne : ¬ (grp = 2 ∧ op = 5) := fun ⟨h2, h5⟩ => by
      rw [listed_tbl (hthis.1.trans h2) (hthis.2.trans h5)] at hl
      cases hl
    have := named hthis.1 hthis.2 hlegal
    rwa [if_neg hne, ← hthis.1, ← hthis.2] at this
  · obtain ⟨hfault, hsame⟩ := syncFault_spec w 1 0 hr
    refine ⟨s.syncFault n k w 1 0, hc.trans ?_, hfault, hsame, rfl, rfl⟩
    have hcond : (decide (fGrp w = grp) && decide (fOp w = op)) = false := by
      rw [← Bool.not_eq_true, Bool.and_eq_true, decide_eq_true_eq, decide_eq_true_eq]; exact hthis
    simp [issue, h, hcond, hl]

/-- An LDS or STS with room in the vector queue, and one that faults (R116). -/
theorem spadAccess_spec {s : State} {n : Fin 288} {op k : Nat} {w : Word} (h : s.Issues n 0 op k w) (hl : s.InLine n k) :
    let a := (s.sreg n k (cSA w) + (s.sreg n k (cSB w) + cIMM w)).toNat
    (a % 8 = 0 → a ≤ 0x2F_FFF8 → (s.core n).vq.length < 16 →
      s.MovedTo (s.spadAccess n k w) n k (((s.core n).slot k).pc + 1)
        { s.core n with vq := (s.core n).vq ++ [⟨k, w, 0, 0, s.sreg n k (cSD w), a⟩] } ∧ s.SameS (s.spadAccess n k w) n k) ∧
    (¬ (a % 8 = 0 ∧ a ≤ 0x2F_FFF8) → s.Faulted (s.spadAccess n k w) n k 5 0 op 0 ∧ s.SameS (s.spadAccess n k w) n k) := by
  intro a
  have hr := fetch_running h.1
  obtain ⟨-, hgrp, hop, -, -⟩ := h
  have hbad : (decide (a % 8 ≠ 0) || decide (a > 0x2F_FFF8)) = true ↔ ¬ (a % 8 = 0 ∧ a ≤ 0x2F_FFF8) := by
    simp only [Bool.or_eq_true, decide_eq_true_eq]
    omega
  refine ⟨fun h8 hhi hroom => ?_, fun hne => ?_⟩
  · have heq : s.spadAccess n k w = (s.setCore n { s.core n with
        vq := (s.core n).vq ++ [⟨k, w, 0, 0, s.sreg n k (cSD w), a⟩] }).retire n k w := by
      refine (if_neg (hbad.not.2 (not_not.2 ⟨h8, hhi⟩))).trans (if_neg (by omega))
    rw [heq]
    have := retire_after w (onlyCore_setCore s n { s.core n with vq := (s.core n).vq ++ [⟨k, w, 0, 0, s.sreg n k (cSD w), a⟩] })
      (by rw [State.core_setCore_same]) hl
    rwa [State.core_setCore_same] at this
  · have heq : s.spadAccess n k w = s.syncFault n k w 5 0 := if_pos (hbad.2 hne)
    have := syncFault_spec w 5 0 hr
    rwa [← heq, hgrp, hop] at this

/-- A T-op and a V-op with room in their queue (R104, R129, R142). -/
theorem tPush_in {s : State} {n : Fin 288} {k : Nat} (w : Word) (hl : s.InLine n k) (hroom : (s.core n).tq.length < 8) :
    s.MovedTo (s.tPush n k w) n k (((s.core n).slot k).pc + 1)
      { s.core n with tq := (s.core n).tq ++ [⟨k, w, s.sreg n k (tSA w), s.sreg n k (tSB w), 0, 0⟩] } ∧ s.SameS (s.tPush n k w) n k := by
  have heq : s.tPush n k w = (s.setCore n { s.core n with
      tq := (s.core n).tq ++ [⟨k, w, s.sreg n k (tSA w), s.sreg n k (tSB w), 0, 0⟩] }).retire n k w := if_neg (by omega)
  rw [heq]
  have := retire_after w (onlyCore_setCore s n { s.core n with
    tq := (s.core n).tq ++ [⟨k, w, s.sreg n k (tSA w), s.sreg n k (tSB w), 0, 0⟩] }) (by rw [State.core_setCore_same]) hl
  rwa [State.core_setCore_same] at this

theorem vPush_in {s : State} {n : Fin 288} {k : Nat} (w : Word) (hl : s.InLine n k) (hroom : (s.core n).vq.length < 16) :
    s.MovedTo (s.vPush n k w) n k (((s.core n).slot k).pc + 1)
      { s.core n with vq := (s.core n).vq ++ [⟨k, w, s.sreg n k (vSA w), s.sreg n k (vVB w), 0, 0⟩] } ∧ s.SameS (s.vPush n k w) n k := by
  have heq : s.vPush n k w = (s.setCore n { s.core n with
      vq := (s.core n).vq ++ [⟨k, w, s.sreg n k (vSA w), s.sreg n k (vVB w), 0, 0⟩] }).retire n k w := if_neg (by omega)
  rw [heq]
  have := retire_after w (onlyCore_setCore s n { s.core n with
    vq := (s.core n).vq ++ [⟨k, w, s.sreg n k (vSA w), s.sreg n k (vVB w), 0, 0⟩] }) (by rw [State.core_setCore_same]) hl
  rwa [State.core_setCore_same] at this

theorem exec_tdl (n : Fin 288) (s : State) : exec (.tdl n) s = issue s n 1 0x00 fun k w =>
    if s.tdlOff n k w % 32 ≠ 0 || s.tdlOff n k w > 0x2F_FFE0 then s.syncFault n k w 5 0 else s.tPush n k w := rfl

/-- The M-op that an instruction makes of its word, with the register values read at issue (R110). -/
def State.mopOf (s : State) (n k : Nat) (w : Word) : MOp :=
  ⟨(s.core n).nextM, k, w, s.sreg n k (oSD w), if oSD w = 31 then 0 else s.sreg n k (oSD w + 1), s.sreg n k (oSS w),
    if oSS w = 31 then 0 else s.sreg n k (oSS w + 1), s.sreg n k (oSL w), .queued, 0, 0, 0⟩

/-- The core with a queued M-op. -/
def State.mQueued (s : State) (n k : Nat) (w : Word) : Core :=
  { s.core n with mops := (s.core n).mops ++ [s.mopOf n k w], nextM := (s.core n).nextM + 1 }

theorem mIssue_eq (n : Fin 288) (op : Nat) (ecc : Ecc) (s : State) : mIssue n op ecc s = issue s n 2 op fun k w =>
    match mIssueFault op w (s.mopOf n k w) with
    | some (code, info) => s.syncFault n k w code info
    | none => if ((s.core n).mops.filter fun m => m.phase == .queued).length ≥ 32 then s
      else State.mStart (some ((s.mopOf n k w).id, ecc)) 33 ((s.setCore n (s.mQueued n k w)).retire n k w) n := rfl

/-- An M-op that issues while 64 execute stays queued (R110, R114). -/
theorem mIssue_full {s : State} {n : Fin 288} {k : Nat} (w : Word) (pick : Option (Nat × Ecc)) (hl : s.InLine n k)
    (h : 64 ≤ ((s.core n).mops.filter fun m => m.phase != .queued).length) :
    let t := State.mStart pick 33 ((s.setCore n (s.mQueued n k w)).retire n k w) n
    s.MovedTo t n k (((s.core n).slot k).pc + 1) (s.mQueued n k w) ∧ s.SameS t n k := by
  obtain ⟨hmoved, hsame⟩ := retire_after w (onlyCore_setCore s n (s.mQueued n k w)) (by rw [State.core_setCore_same]; rfl) hl
  rw [State.core_setCore_same] at hmoved
  have hmops : (((s.setCore n (s.mQueued n k w)).retire n k w).core n).mops = (s.core n).mops ++ [s.mopOf n k w] := by
    rw [hmoved.1.2.1]; rfl
  rw [mStart_full pick 33]
  · exact ⟨hmoved, hsame⟩
  · rw [hmops, List.filter_append, List.length_append]
    omega

end Sys2Proof.Machine

namespace Sys2Proof.Proofs
open Sys2Proof.Machine

/-- Settles O4: what enters a queue does so before its context moves on. -/
theorem engineIssue : Obligations.EngineIssue := by
  unfold Obligations.EngineIssue
  refine ⟨?spad, ⟨fun e he n s k w h hl hroom => ?tensor, fun n s k w h hl => ?tdl⟩, fun e he n s k w h hl hroom => ?vector,
    fun e he ecc n s k w h hl => ?move⟩
  case spad =>
    simp only [List.forall_mem_cons, List.not_mem_nil, false_imp_iff, implies_true, and_true]
    refine ⟨fun n s k w h hl => ?_, fun n s k w h hl => ?_⟩
    · exact ⟨fun h8 hhi hroom => answers_issue (exec_lds n s) h ((spadAccess_spec h hl).1 h8 hhi hroom),
        fun hbad => answers_issue (exec_lds n s) h ((spadAccess_spec h hl).2 hbad)⟩
    · exact ⟨fun h8 hhi hroom => answers_issue (exec_sts n s) h ((spadAccess_spec h hl).1 h8 hhi hroom),
        fun hbad => answers_issue (exec_sts n s) h ((spadAccess_spec h hl).2 hbad)⟩
  case tensor => exact answers_issue (exec_tensorRows e he n s) h (tPush_in w hl hroom)
  case tdl =>
    intro a
    have hbad : (decide (s.tdlOff n k w % 32 ≠ 0) || decide (s.tdlOff n k w > 0x2F_FFE0)) = true ↔ ¬ (a % 32 = 0 ∧ a ≤ 0x2F_FFE0) := by
      have : s.tdlOff n k w = a := rfl
      simp only [Bool.or_eq_true, decide_eq_true_eq, this]
      omega
    refine ⟨fun h32 hhi hroom => answers_issue (exec_tdl n s) h ?_, fun hne => answers_issue (exec_tdl n s) h ?_⟩
    · rw [if_neg (hbad.not.2 (not_not.2 ⟨h32, hhi⟩))]
      exact tPush_in w hl hroom
    · rw [if_pos (hbad.2 hne)]
      have := syncFault_spec w 5 0 (fetch_running h.1)
      rwa [h.2.1, h.2.2.1] at this
  case vector => exact answers_issue (exec_vectorRows e he n s) h (vPush_in w hl hroom)
  case move =>
    intro c pair m hnofault hroom hfull
    obtain ⟨ecc', hexec⟩ := exec_moveEngineRows e he ecc n s
    refine answers_issue (hexec.trans (mIssue_eq n e.2 ecc' s)) h ?_
    have hm : s.mopOf n k w = m := rfl
    simp only [hm, hnofault]
    rw [if_neg hroom.not_ge]
    exact mIssue_full w _ hl hfull

/-- Settles O5: every command that issues an instruction finds the illegal word and raises the fault. -/
theorem illegalInstruction : Obligations.IllegalInstruction := by
  unfold Obligations.IllegalInstruction
  intro ecc e he n s k w hfetch
  suffices h : ∃ f, exec (e.1 n) s = issue s n e.2.1 e.2.2 f by
    obtain ⟨f, hf⟩ := h
    exact answers_illegal hf hfetch
  revert e he
  simp only [List.forall_mem_append, List.forall_mem_map]
  refine ⟨⟨⟨⟨⟨⟨fun e he => ⟨_, exec_aluRows e he n s⟩, fun e he => ⟨_, exec_moveRows e he n s⟩⟩,
    fun e he => ⟨_, exec_branchRows e he n s⟩⟩, fun e he => ⟨_, exec_tensorRows e he n s⟩⟩,
    fun e he => ⟨_, exec_vectorRows e he n s⟩⟩, fun e he => ?_⟩, ?_⟩
  · obtain ⟨ecc', hexec⟩ := exec_moveEngineRows e he ecc n s
    exact ⟨_, hexec.trans (mIssue_eq n e.2 ecc' s)⟩
  · simp only [List.forall_mem_cons, List.not_mem_nil, false_imp_iff, implies_true, and_true]
    and_intros <;> exact ⟨_, rfl⟩

end Sys2Proof.Proofs

/-! SUPPORT. What an issue leaves alone: every other core and context, what waits in the engines, and their operations (R86, R90, R91,
R118). -/
namespace Sys2Proof.Machine

/-- What the issue of an instruction of slot `k` may change: the contexts as `slots` says, the counters and activity, and what the slot
itself adds behind the queues. -/
def State.Isolates (s t : State) (n : Fin 288) (k : Nat) : Prop :=
  s.OnlyCore t n ∧
  t.core n = { s.core n with ctx := (t.core n).ctx, cur := (t.core n).cur, cnt := (t.core n).cnt, tq := (t.core n).tq,
                             vq := (t.core n).vq, act := (t.core n).act } ∧
  (∃ l, (t.core n).tq = (s.core n).tq ++ l ∧ ∀ q ∈ l, q.slot = k) ∧ (∃ l, (t.core n).vq = (s.core n).vq ++ l ∧ ∀ q ∈ l, q.slot = k) ∧
  ∀ j, j ≠ k → (t.core n).slot j = (s.core n).slot j ∨ (t.core n).slot j = ((s.core n).slot j).taken ∧ ((s.core n).slot j).st = .ready

theorem isolates_refl (s : State) (n : Fin 288) (k : Nat) : s.Isolates s n k :=
  ⟨⟨onlyCores_refl s, fun _ _ => rfl⟩, rfl, ⟨[], by simp⟩, ⟨[], by simp⟩, fun _ _ => .inl rfl⟩

/-- Two steps of an issue, the first of which leaves every other context alone. -/
theorem isolates_trans {s t u : State} {n : Fin 288} {k : Nat} (h : s.Isolates t n k)
    (hs : ∀ j, j ≠ k → (t.core n).slot j = (s.core n).slot j) (g : t.Isolates u n k) : s.Isolates u n k := by
  obtain ⟨⟨hcores, hother⟩, hframe, ⟨l, hl, hlk⟩, ⟨m, hm, hmk⟩, -⟩ := h
  obtain ⟨⟨gcores, gother⟩, gframe, ⟨l', hl', hlk'⟩, ⟨m', hm', hmk'⟩, gslots⟩ := g
  refine ⟨⟨onlyCores_trans hcores gcores, fun i hi => (gother i hi).trans (hother i hi)⟩, ?_, ⟨l ++ l', ?_, ?_⟩, ⟨m ++ m', ?_, ?_⟩,
    fun j hj => ?_⟩
  · rw [gframe, hframe]
  · rw [hl', hl, List.append_assoc]
  · exact fun q hq => (List.mem_append.1 hq).elim (hlk q) (hlk' q)
  · rw [hm', hm, List.append_assoc]
  · exact fun q hq => (List.mem_append.1 hq).elim (hmk q) (hmk' q)
  · rw [← hs j hj]
    exact gslots j hj

/-- An update of the core that changes slot `k` and its contexts' bookkeeping only. -/
theorem isolates_of_core {s t : State} {n : Fin 288} {k : Nat} (h : s.OnlyCore t n)
    (hframe : t.core n = { s.core n with ctx := (t.core n).ctx, cnt := (t.core n).cnt, act := (t.core n).act })
    (hs : ∀ j, j ≠ k → (t.core n).slot j = (s.core n).slot j) : s.Isolates t n k := by
  refine ⟨h, ?_, ⟨[], ?_⟩, ⟨[], ?_⟩, fun j hj => .inl (hs j hj)⟩
  · rw [hframe]
  · rw [hframe]; simp
  · rw [hframe]; simp

theorem isolates_of_onlySlot {s t : State} {n : Fin 288} {k : Nat} (h : s.OnlySlot t n k (s.core n)) : s.Isolates t n k := by
  obtain ⟨honly, hframe, hslots⟩ := h
  exact isolates_of_core honly (by rw [hframe]) hslots

/-! ### The shared ends of an instruction -/

theorem fault_slot_other (c : Core) {k j : Nat} (code grp op info : Nat) (h : j ≠ k) :
    (c.fault k code grp op info).slot j = c.slot j := by
  unfold Core.fault
  simp only
  split
  · rfl
  · rw [Core.slot_withSlot, if_neg h]

theorem goto_onlySlot (s : State) (n : Fin 288) (k : Nat) (w pc : Word) : s.OnlySlot (s.goto n k w pc) n k (s.core n) := by
  have key (c : Core) (hframe : c = { s.core n with ctx := c.ctx, act := c.act }) (hs : ∀ j, j ≠ k → c.slot j = (s.core n).slot j) :
      s.OnlySlot ((s.setCore n c).progressed n) n k (s.core n) := by
    obtain ⟨hcores, hother⟩ := onlyCore_setCore s n c
    refine ⟨⟨onlyCores_trans hcores (progressed_spec _ n), fun m hm => ?_⟩, ?_, fun j hj => ?_⟩
    · rw [core_progressed, hother m hm]
    · simp only [core_progressed, State.core_setCore_same]; exact hframe
    · simp only [core_progressed, State.core_setCore_same]; exact hs j hj
  unfold State.goto
  simp only
  split
  · exact key _ rfl fun j hj => by rw [Core.slot_withSlot, if_neg hj, Core.slot_addAct]
  · exact key _ (by rw [fault_frame]; rfl) fun j hj => by rw [fault_slot_other _ _ _ _ _ hj, Core.slot_addAct]

theorem isolates_goto (s : State) (n : Fin 288) (k : Nat) (w pc : Word) : s.Isolates (s.goto n k w pc) n k :=
  isolates_of_onlySlot (goto_onlySlot s n k w pc)

theorem isolates_retire (s : State) (n : Fin 288) (k : Nat) (w : Word) : s.Isolates (s.retire n k w) n k :=
  isolates_goto s n k w _

theorem isolates_branch (s : State) (n : Fin 288) (k : Nat) (w : Word) (b : Bool) : s.Isolates (s.branch n k w b) n k := by
  rw [branch_eq_goto]
  exact isolates_goto s n k w _

theorem isolates_syncFault (s : State) (n : Fin 288) (k : Nat) (w : Word) (code info : Nat) :
    s.Isolates (s.syncFault n k w code info) n k := by
  refine isolates_of_core (onlyCore_setCore s n _) ?_ fun j hj => ?_
  · simp only [State.syncFault, State.core_setCore_same]
    rw [fault_frame]
  · simp only [State.syncFault, State.core_setCore_same]
    exact fault_slot_other _ _ _ _ _ hj

theorem slot_setCore_other {s : State} {n : Fin 288} {k j : Nat} {c : Core} (hc : ∀ j, j ≠ k → c.slot j = (s.core n).slot j)
    (hj : j ≠ k) : ((s.setCore n c).core n).slot j = (s.core n).slot j := by
  rw [State.core_setCore_same]; exact hc j hj

/-- An update of the issuing core before the instruction's end. -/
theorem isolates_after {s u t : State} {n : Fin 288} {k : Nat} (h : s.OnlyCore u n)
    (hframe : u.core n = { s.core n with ctx := (u.core n).ctx, cnt := (u.core n).cnt, tq := (u.core n).tq, vq := (u.core n).vq })
    (hs : ∀ j, j ≠ k → (u.core n).slot j = (s.core n).slot j)
    (htq : ∃ l, (u.core n).tq = (s.core n).tq ++ l ∧ ∀ q ∈ l, q.slot = k)
    (hvq : ∃ l, (u.core n).vq = (s.core n).vq ++ l ∧ ∀ q ∈ l, q.slot = k) (g : u.Isolates t n k) : s.Isolates t n k :=
  isolates_trans ⟨h, by rw [hframe], htq, hvq, fun j hj => .inl (hs j hj)⟩ hs g

theorem isolates_putS {s t : State} {n : Fin 288} {k r : Nat} {v : Word} (g : (s.putS n k r v).Isolates t n k) :
    s.Isolates t n k := by
  have hcore : (s.putS n k r v).core n = (s.core n).withSlot k (((s.core n).slot k).setS r v) := State.core_setCore_same _ _ _
  have honly : s.OnlyCore (s.putS n k r v) n := onlyCore_setCore s n _
  refine isolates_after honly ?_ (fun j hj => ?_) ⟨[], ?_⟩ ⟨[], ?_⟩ g
  · simp only [hcore]; rfl
  · rw [hcore, Core.slot_withSlot, if_neg hj]
  · rw [hcore]; simp [Core.withSlot]
  · rw [hcore]; simp [Core.withSlot]

theorem isolates_alu (s : State) (n : Fin 288) (k : Nat) (w v : Word) : s.Isolates (s.alu n k w v) n k :=
  isolates_putS (isolates_retire _ n k w)

theorem isolates_setCnt {s t : State} {n : Fin 288} {k i : Nat} {v : Word} (g : (s.setCnt n i v).Isolates t n k) :
    s.Isolates t n k := by
  obtain ⟨honly, hcore⟩ := setCnt_spec s n i v
  refine isolates_after honly ?_ (fun j _ => ?_) ⟨[], ?_⟩ ⟨[], ?_⟩ g
  · simp only [hcore]; rfl
  · rw [hcore]; rfl
  · rw [hcore]; simp [Core.setCounter]
  · rw [hcore]; simp [Core.setCounter]

theorem isolates_giveUp (s : State) (n : Fin 288) (k : Nat) (w : Word) (g : Ctx → Ctx) : s.Isolates (s.giveUp n k w g) n k := by
  have hframe := giveUp_frame s n k w g
  refine ⟨giveUp_onlyCore s n k w g, ?_, ⟨[], ?_⟩, ⟨[], ?_⟩, fun j hj => ?_⟩
  · rw [hframe]
  · rw [hframe]; simp
  · rw [hframe]; simp
  · have := switch_slot (s.given n k w g) j
    rwa [← giveUp_core, slot_given, if_neg hj] at this

/-- An operation queued behind an engine's work by slot `k`. -/
theorem isolates_vq {s : State} {n : Fin 288} {k : Nat} (w : Word) {q : QOp} (hq : q.slot = k) :
    s.Isolates ((s.setCore n { s.core n with vq := (s.core n).vq ++ [q] }).retire n k w) n k := by
  refine isolates_after (onlyCore_setCore s n _) ?_ (fun j _ => ?_) ⟨[], ?_⟩ ⟨[q], ?_⟩ (isolates_retire _ n k w)
  all_goals simp only [State.core_setCore_same]
  · rfl
  · simp
  · simpa using hq

theorem isolates_tq {s : State} {n : Fin 288} {k : Nat} (w : Word) {q : QOp} (hq : q.slot = k) :
    s.Isolates ((s.setCore n { s.core n with tq := (s.core n).tq ++ [q] }).retire n k w) n k := by
  refine isolates_after (onlyCore_setCore s n _) ?_ (fun j _ => ?_) ⟨[q], ?_⟩ ⟨[], ?_⟩ (isolates_retire _ n k w)
  all_goals simp only [State.core_setCore_same]
  · rfl
  · simpa using hq
  · simp

theorem isolates_spadAccess (s : State) (n : Fin 288) (k : Nat) (w : Word) : s.Isolates (s.spadAccess n k w) n k := by
  unfold State.spadAccess
  simp only
  split
  · exact isolates_syncFault s n k w 5 0
  · split
    · exact isolates_refl s n k
    · exact isolates_vq w rfl

theorem isolates_tPush (s : State) (n : Fin 288) (k : Nat) (w : Word) : s.Isolates (s.tPush n k w) n k := by
  unfold State.tPush
  simp only
  split
  · exact isolates_refl s n k
  · exact isolates_tq w rfl

theorem isolates_vPush (s : State) (n : Fin 288) (k : Nat) (w : Word) : s.Isolates (s.vPush n k w) n k := by
  unfold State.vPush
  simp only
  split
  · exact isolates_refl s n k
  · exact isolates_vq w rfl

/-- An issue with an isolated effect: it changes nothing, raises a fault at the word, or has its effect. -/
theorem isolates_issue {s t : State} {n : Fin 288} {grp op : Nat} {f : Nat → Word → State} (hf : ∀ k w, s.Isolates (f k w) n k)
    (h : issue s n grp op f = .next t) : t = s ∨ ∃ k, (s.core n).running = some k ∧ s.Isolates t n k := by
  unfold issue at h
  split at h
  next => cases h; exact .inl rfl
  next k w hfetch =>
    have hrun := fetch_slot hfetch
    split at h
    · simp only at h
      split at h
      · cases h; exact .inr ⟨k, hrun, isolates_syncFault s n k w _ _⟩
      · split at h
        · cases h; exact .inl rfl
        · cases h; exact .inr ⟨k, hrun, hf k w⟩
    · split at h
      · cases h; exact .inr ⟨k, hrun, isolates_syncFault s n k w _ _⟩
      · cases h; exact .inl rfl

/-- Every compute row issues with an isolated effect. -/
theorem computeRows_isolate : ∀ f ∈ computeRows, ∀ (n : Fin 288) (s : State), ∃ grp op g,
    exec (f n) s = issue s n grp op g ∧ ∀ k w, s.Isolates (g k w) n k := by
  simp only [computeRows, List.forall_mem_append, List.forall_mem_map]
  refine ⟨⟨⟨⟨⟨fun e he n s => ?_, fun e he n s => ?_⟩, fun e he n s => ?_⟩, fun e he n s => ?_⟩, fun e he n s => ?_⟩, ?_⟩
  · exact ⟨_, _, _, exec_aluRows e he n s, fun k w => isolates_alu s n k w _⟩
  · exact ⟨_, _, _, exec_moveRows e he n s, fun k w => isolates_alu s n k w _⟩
  · exact ⟨_, _, _, exec_branchRows e he n s, fun k w => isolates_branch s n k w _⟩
  · exact ⟨_, _, _, exec_tensorRows e he n s, fun k w => isolates_tPush s n k w⟩
  · exact ⟨_, _, _, exec_vectorRows e he n s, fun k w => isolates_vPush s n k w⟩
  simp only [List.forall_mem_cons, List.not_mem_nil, false_imp_iff, implies_true, and_true]
  refine ⟨fun n s => ⟨0, 0x00, _, rfl, fun k w => isolates_retire s n k w⟩, fun n s => ⟨_, _, _, exec_endOp n s, fun k w => ?endOp⟩,
    fun n s => ⟨_, _, _, exec_yield n s, fun k w => ?yield⟩, fun n s => ⟨_, _, _, exec_lds n s, fun k w => isolates_spadAccess s n k w⟩,
    fun n s => ⟨_, _, _, exec_sts n s, fun k w => isolates_spadAccess s n k w⟩,
    fun n s => ⟨0, 0x18, _, rfl, fun k w => isolates_putS (isolates_goto _ n k w _)⟩,
    fun n s => ⟨0, 0x19, _, rfl, fun k w => isolates_goto s n k w _⟩,
    fun n s => ⟨0, 0x1A, _, rfl, fun k w => isolates_putS (isolates_branch _ n k w _)⟩,
    fun n s => ⟨_, _, _, exec_wait n s, fun k w => ?wait⟩,
    fun n s => ⟨0, 0x1C, _, rfl, fun k w => isolates_setCnt (isolates_retire _ n k w)⟩,
    fun n s => ⟨0, 0x1D, _, rfl, fun k w => isolates_setCnt (isolates_retire _ n k w)⟩,
    fun n s => ⟨_, _, _, exec_fence n s, fun k w => ?fence⟩, fun n s => ⟨0, 0x21, _, rfl, fun k w => isolates_alu s n k w _⟩,
    fun n s => ⟨_, _, _, exec_tdl n s, fun k w => ?tdl⟩⟩
  case endOp => exact isolates_of_onlySlot (endCtx_spec s n k).1
  case yield => split; exacts [isolates_giveUp s n k w _, isolates_retire s n k w]
  case wait => split; exacts [isolates_retire s n k w, isolates_giveUp s n k w _]
  case fence => split; exacts [isolates_retire s n k w, isolates_giveUp s n k w _]
  case tdl => split; exacts [isolates_syncFault s n k w 5 0, isolates_tPush s n k w]

/-! ### The dictionary's defaults -/

/-- A group's state is not set until a descriptor is written (R290). -/
theorem odDefault_gSt {g : Nat} (h : g < 4096) : odDefault (gIdx 0x5200 g) (gSub g) = .num 0 := by
  have hfam : odInfo (gIdx 0x5200 g) = some (odR (gIdx 0x5200 g) .enum8 128 0) := by
    unfold odInfo odFamily gIdx
    rw [if_neg (by simp; omega), if_pos (by simp; omega)]
    rfl
  have hlist : odListDefault (gIdx 0x5200 g) (gSub g) = none := by
    unfold odListDefault gIdx
    split
    case h_7 => rfl
    all_goals omega
  unfold odDefault
  rw [hfam, hlist]
  simp [odR, gSub]

end Sys2Proof.Machine

namespace Sys2Proof.Proofs
open Sys2Proof.Machine

/-- Settles O60: each compute row changes at most its own slot, the counters, what it queues, and the slot that it lets run. -/
theorem contextIsolation : Obligations.ContextIsolation := by
  unfold Obligations.ContextIsolation
  intro f hf n s t h c d
  obtain ⟨grp, op, g, hexec, hg⟩ := computeRows_isolate f hf n s
  rcases isolates_issue hg (hexec ▸ h) with rfl | ⟨k, hrun, honly, hframe, ⟨l, htq, hl⟩, ⟨m, hvq, hm⟩, hslots⟩
  · obtain ⟨honly, hframe, -, -, -⟩ := isolates_refl t n 0
    exact ⟨honly, hframe, ⟨[], by simp [c, d]⟩, ⟨[], by simp [c, d]⟩, fun j _ => .inl rfl⟩
  · refine ⟨honly, hframe, ⟨l, htq, fun q hq => ?_⟩, ⟨m, hvq, fun q hq => ?_⟩, fun j hj => hslots j ?_⟩
    · rw [hrun, hl q hq]
    · rw [hrun, hm q hq]
    · rintro rfl
      exact hj hrun

/-- Settles O54: by the definition of a step. -/
theorem frontCommand : Obligations.FrontCommand := by
  unfold Obligations.FrontCommand
  exact fun _ _ _ => rfl

/-- Settles O56: the reset state's tables are empty, so that each entry reads as its default. -/
theorem resetState : Obligations.ResetState := by
  unfold Obligations.ResetState
  refine ⟨⟨⟨rfl, rfl⟩, rfl⟩, ?_⟩
  intro s
  refine ⟨rfl, by decide, by decide, rfl, by decide, fun _ => rfl, fun _ => rfl, fun _ => rfl, fun _ _ => ⟨rfl, rfl⟩, fun _ => rfl,
    fun g hg => ?_, fun _ _ => ⟨rfl, rfl, rfl⟩, fun _ _ => ⟨rfl, rfl⟩, fun _ => ⟨rfl, rfl⟩⟩
  show (odDefault (gIdx 0x5200 g) (gSub g)).toNat = 0
  rw [odDefault_gSt hg]
  rfl

end Sys2Proof.Proofs

/-! SUPPORT. Bytes and the numbers that they hold (R6), and the symbols of a codeword (R236). -/
namespace Sys2Proof.Machine

@[simp] theorem length_leBytes (k n : Nat) : (leBytes k n).length = k := by
  induction k generalizing n with
  | zero => rfl
  | succ k ih => simp [leBytes, ih]

theorem leBytes_leNat (bs : List Byte) : leBytes bs.length (leNat bs) = bs := by
  induction bs with
  | nil => rfl
  | cons b bs ih =>
    have hb := b.isLt
    rw [List.length_cons, leBytes, leNat]
    congr 1
    · apply BitVec.eq_of_toNat_eq
      rw [BitVec.toNat_ofNat]
      omega
    · rw [show (b.toNat + 256 * leNat bs) / 256 = leNat bs by omega, ih]

theorem leNat_leBytes (k n : Nat) : leNat (leBytes k n) = n % 256 ^ k := by
  induction k generalizing n with
  | zero => simp [leBytes, leNat, Nat.mod_one]
  | succ k ih =>
    rw [leBytes, leNat, ih, BitVec.toNat_ofNat, pow_succ' 256 k]
    exact (Nat.mod_mul (x := n) (a := 256)).symm

theorem leNat_lt (bs : List Byte) : leNat bs < 256 ^ bs.length := by
  have := leNat_leBytes bs.length (leNat bs)
  rw [leBytes_leNat] at this
  exact this ▸ Nat.mod_lt _ (Nat.pow_pos (by decide))

/-- The number that a run of symbols spells, from the lowest. -/
theorem foldr_symbols (n : Nat) (k : Nat) :
    ((List.range k).map fun i => bits (10 * i + 9) (10 * i) n).foldr (fun x n => x + 1024 * n) 0 = n % 1024 ^ k := by
  induction k generalizing n with
  | zero => simp [Nat.mod_one]
  | succ k ih =>
    have htail : (fun i => bits (10 * i + 9) (10 * i) n) ∘ Nat.succ = fun i => bits (10 * i + 9) (10 * i) (n / 1024) := by
      funext i
      simp only [Function.comp, bits_eq_div_mod]
      rw [show 10 * i.succ = 10 + 10 * i by omega, pow_add, ← Nat.div_div_eq_div_mul]
      congr 2
      omega
    rw [List.range_succ_eq_map, List.map_cons, List.map_map, List.foldr_cons, htail, ih, bits_eq_div_mod, pow_succ' 1024 k,
      Nat.mul_zero, Nat.pow_zero, Nat.div_one]
    exact (Nat.mod_mul (x := n) (a := 1024)).symm

/-- The bytes of a codeword's 512 symbols are the bytes that it was made of (R236). -/
theorem bytesOf_symbolsOf (bs : List Byte) (h : bs.length = 640) : bytesOf (symbolsOf bs) = bs := by
  have hlt : leNat bs < 1024 ^ 512 := by
    have := leNat_lt bs
    rwa [h, show 256 ^ 640 = 1024 ^ 512 by rw [show 256 = 2 ^ 8 by rfl, show 1024 = 2 ^ 10 by rfl, ← pow_mul, ← pow_mul]] at this
  rw [bytesOf, symbolsOf, foldr_symbols, Nat.mod_eq_of_lt hlt, ← h, leBytes_leNat]

/-- Five flits of 256 bytes cut from the two halves of a pair (R236). -/
theorem slices_of_flits {a b c d e : List Byte} (ha : a.length = 256) (hb : b.length = 256) (hc : c.length = 256)
    (hd : d.length = 256) (he : e.length = 256) :
    let bs := [a, b, c, d, e].flatten
    let u := bs.take 640
    let v := bs.drop 640
    slice u 0 256 = a ∧ slice u 256 256 = b ∧ slice u 512 128 ++ slice v 0 128 = c ∧ slice v 128 256 = d ∧ slice v 384 256 = e := by
  intro bs u v
  have hu : u = a ++ (b ++ c.take 128) := by
    simp [u, bs, List.take_append, ha, hb, hc, List.take_of_length_le]
  have hv : v = c.drop 128 ++ (d ++ e) := by
    simp [v, bs, List.drop_append, ha, hb, hc, List.drop_of_length_le]
  rw [hu, hv]
  refine ⟨?_, ?_, ?_, ?_, ?_⟩ <;>
    simp [slice, List.drop_append, ha, hb, hc, hd, he, List.take_of_length_le, List.drop_of_length_le]

end Sys2Proof.Machine

namespace Sys2Proof.Proofs
open Sys2Proof.Machine

/-- Settles O24: the lanes bring both codewords back, and each codeword's symbols spell its half of the pair. -/
theorem codewordPairs : Obligations.CodewordPairs := by
  unfold Obligations.CodewordPairs
  intro p hlen hflits hhalf hspare x
  have hx : x = ⟨some p.codewords.1, some p.codewords.2, 0, []⟩ := pairSeen_lanes p hhalf hspare
  obtain ⟨a, b, c, d, e, hp⟩ : ∃ a b c d e, p.flits = [a, b, c, d, e] := by
    match p.flits, hlen with
    | [a, b, c, d, e], _ => exact ⟨a, b, c, d, e, rfl⟩
  rw [hp] at hflits
  simp only [List.forall_mem_cons, List.not_mem_nil, false_imp_iff, implies_true, and_true] at hflits
  obtain ⟨ha, hb, hc, hd, he⟩ := hflits
  have htotal : p.flits.flatten.length = 1280 := by simp [hp, ha, hb, hc, hd, he]
  have hA : codeBytes p.codewords.1 = p.flits.flatten.take 640 :=
    (codeBytes_encode _ _ _ _).trans (bytesOf_symbolsOf _ (by rw [List.length_take, htotal]; rfl))
  have hB : codeBytes p.codewords.2 = p.flits.flatten.drop 640 :=
    (codeBytes_encode _ _ _ _).trans (bytesOf_symbolsOf _ (by rw [List.length_drop, htotal]))
  obtain ⟨h1, h2, h3, h4, h5⟩ := slices_of_flits ha hb hc hd he
  refine ⟨?_, by rw [hx], by rw [hx]⟩
  simp only [hx, PairSeen.flits, Option.map_some, Option.bind_some, hA, hB]
  rw [hp, h1, h2, h3, h4, h5]
  rfl

end Sys2Proof.Proofs

/-! SUPPORT. The lengths of the standards' algorithms, and GCM's stream, which undoes itself (R352, R359, R360). -/
namespace Sys2Proof.Machine

@[simp] theorem length_beBytes (k n : Nat) : (beBytes k n).length = k := by simp [beBytes]

@[simp] theorem length_padTo (k : Nat) (bs : List Byte) : (padTo k bs).length = k := by
  simp only [padTo, List.length_take, List.length_append, List.length_replicate]
  omega

/-! ### SHA-384 and the key derivation -/

theorem length_shaRound (v : List Nat) (kw : Nat × Nat) : (shaRound v kw).length = v.length := by
  unfold shaRound
  split <;> rfl

theorem length_shaBlock (h : List Nat) (b : List Byte) : (shaBlock h b).length = h.length := by
  have hrounds (l : List (Nat × Nat)) (v : List Nat) : (l.foldl shaRound v).length = v.length := by
    induction l generalizing v with
    | nil => rfl
    | cons kw l ih => rw [List.foldl_cons, ih, length_shaRound]
  simp only [shaBlock, List.length_zipWith, hrounds, Nat.min_self]

@[simp] theorem length_sha384 (bs : List Byte) : (sha384 bs).length = 48 := by
  have hblocks (l : List (List Byte)) (h : List Nat) : (l.foldl shaBlock h).length = h.length := by
    induction l generalizing h with
    | nil => rfl
    | cons b l ih => rw [List.foldl_cons, ih, length_shaBlock]
  unfold sha384
  simp only [List.length_take, List.length_flatMap, length_beBytes, List.map_const', List.sum_replicate, hblocks]
  rfl

theorem length_kdf (z : List Byte) (label : String) (fields : List Byte) : (kdf z label fields).length = 48 := by
  unfold kdf hmac384
  exact length_sha384 _

/-! ### AES-256 -/

/-- Every word of the key schedule has four bytes. -/
theorem aesKeys_words (n : Nat) (l : List (List Nat)) (h8 : 8 ≤ l.length) (h : ∀ x ∈ l, x.length = 4) :
    (aesKeys n l).length = l.length + n ∧ ∀ x ∈ aesKeys n l, x.length = 4 := by
  induction n generalizing l with
  | zero => exact ⟨rfl, h⟩
  | succ n ih =>
    have hat (i : Nat) (hi : i < 8) : (getAt [] l i).length = 4 := by
      rw [getAt_eq, List.getD_eq_getElem _ _ (by omega)]
      exact h _ (List.getElem_mem _)
    have h0 := hat 0 (by decide)
    rw [aesKeys]
    have := ih ((getAt [] l 7).zipWith (fun x y => x ^^^ y)
      (if l.length % 8 = 0 then ((((getAt [] l 0).drop 1 ++ (getAt [] l 0).take 1).map aesSub).mapIdx fun j x =>
          if j = 0 then x ^^^ 2 ^ (l.length / 8 - 1) else x)
        else if l.length % 8 = 4 then (getAt [] l 0).map aesSub else getAt [] l 0) :: l)
      (by simp; omega) (by
        simp only [List.forall_mem_cons]
        refine ⟨?_, h⟩
        rw [List.length_zipWith, hat 7 (by decide)]
        split
        · simp [h0]
        · split <;> simp [h0])
    refine ⟨this.1.trans ?_, this.2⟩
    simp
    omega

theorem length_chunksOf (k n : Nat) (bs : List Byte) (h : bs.length = k * n) (hk : 0 < k) :
    (chunksOf k n bs).length = n ∧ ∀ b ∈ chunksOf k n bs, b.length = k := by
  induction n generalizing bs with
  | zero => simp [chunksOf]
  | succ n ih =>
    have hne : bs.isEmpty = false := by
      rw [List.isEmpty_eq_false_iff, ← List.length_pos_iff, h]
      positivity
    obtain ⟨hl, hb⟩ := ih (bs.drop k) (by rw [List.length_drop, h, Nat.mul_succ]; omega)
    rw [chunksOf, hne]
    simp only [Bool.false_eq_true, if_false, List.length_cons, hl, List.forall_mem_cons, true_and]
    exact ⟨by rw [List.length_take, h, Nat.mul_succ]; omega, hb⟩

/-- The 15 round keys of a 32-byte key have 16 bytes each. -/
theorem length_roundKey (key : List Byte) (h : key.length = 32) (r : Nat) (hr : r < 15) : (getAt [] (aesRounds key) r).length = 16 := by
  obtain ⟨hl, hb⟩ := length_chunksOf 4 8 key h (by decide)
  obtain ⟨hlen, hwords⟩ := aesKeys_words 52 ((chunksOf 4 8 key).map fun b => b.map BitVec.toNat).reverse (by simp [hl]) (by
    intro x hx
    obtain ⟨b, hmem, rfl⟩ := List.mem_map.1 (List.mem_reverse.1 hx)
    rw [List.length_map, hb b hmem])
  rw [getAt_eq, aesRounds, List.getD_eq_getElem _ _ (by simpa using hr), List.getElem_map, List.getElem_range, List.length_flatten]
  have h4 : ∀ x ∈ (((aesKeys 52 ((chunksOf 4 8 key).map fun b => b.map BitVec.toNat).reverse).reverse.drop (4 * r)).take 4).map List.length,
      x = 4 := by
    intro x hx
    obtain ⟨w, hw, rfl⟩ := List.mem_map.1 hx
    exact hwords w (List.mem_reverse.1 (List.mem_of_mem_drop (List.mem_of_mem_take hw)))
  rw [List.eq_replicate_of_mem h4, List.sum_replicate]
  simp [hlen, hl]
  omega

theorem length_aesShift (s : List Nat) : (aesShift s).length = 16 := by simp [aesShift]

/-- A block under the round keys of a 32-byte key has 16 bytes. -/
theorem length_aesBlock (key b : List Byte) (h : key.length = 32) : (aesBlock (aesRounds key) b).length = 16 := by
  simp only [aesBlock, List.length_map, List.length_zipWith, length_aesShift, length_roundKey key h 14 (by decide)]
  rfl

/-! ### GCM -/

theorem length_xorBytes (a b : List Byte) : (xorBytes a b).length = min a.length b.length := List.length_zipWith

theorem xorBytes_cancel (a b : List Byte) (h : a.length ≤ b.length) : xorBytes (xorBytes a b) b = a := by
  induction a generalizing b with
  | nil => simp [xorBytes]
  | cons x a ih =>
    cases b with
    | nil => simp at h
    | cons y b =>
      have := ih b (by simpa using h)
      simp only [xorBytes, List.zipWith_cons_cons, BitVec.xor_assoc, BitVec.xor_self, BitVec.xor_zero] at this ⊢
      rw [this]

/-- Bytes cut into blocks of 16, block `i` added to `K i` (SP 800-38D). -/
def streamed (K : Nat → List Byte) (n : Nat) (bs : List Byte) : List Byte :=
  ((chunksOf 16 n bs).mapIdx fun i b => xorBytes b (K i)).flatten

theorem gcmStream_eq (ks : List (List Nat)) (nonce bs : List Byte) :
    gcmStream ks nonce bs = streamed (fun i => aesBlock ks (nonce ++ beBytes 4 (i + 2))) (bs.length / 16 + 1) bs := rfl

theorem streamed_nil (K : Nat → List Byte) (n : Nat) : streamed K n [] = [] := by
  cases n <;> rfl

theorem streamed_cons (K : Nat → List Byte) (n : Nat) {bs : List Byte} (h : bs ≠ []) :
    streamed K (n + 1) bs = xorBytes (bs.take 16) (K 0) ++ streamed (fun i => K (i + 1)) n (bs.drop 16) := by
  have : bs.isEmpty = false := List.isEmpty_eq_false_iff.2 h
  simp only [streamed, chunksOf, this, Bool.false_eq_true, if_false, List.mapIdx_cons, List.flatten_cons]

/-- The stream keeps the length, and adding it twice gives the bytes back. -/
theorem streamed_twice {K : Nat → List Byte} (hK : ∀ i, (K i).length = 16) {n : Nat} {bs : List Byte} (hn : bs.length ≤ 16 * n) :
    (streamed K n bs).length = bs.length ∧ streamed K n (streamed K n bs) = bs := by
  induction n generalizing bs K with
  | zero =>
    obtain rfl : bs = [] := List.length_eq_zero_iff.1 (by omega)
    exact ⟨rfl, rfl⟩
  | succ n ih =>
    rcases eq_or_ne bs [] with rfl | hne
    · simp only [streamed_nil, and_self]
    have hpos := List.length_pos_iff.2 hne
    obtain ⟨hlen, htwice⟩ := ih (K := fun i => K (i + 1)) (fun i => hK (i + 1)) (bs := bs.drop 16) (by rw [List.length_drop]; omega)
    rw [List.length_drop] at hlen
    have hx : (xorBytes (bs.take 16) (K 0)).length = min 16 bs.length := by
      rw [length_xorBytes, hK, List.length_take]
      omega
    rw [streamed_cons K n hne]
    generalize hr : streamed (fun i => K (i + 1)) n (bs.drop 16) = rest at hlen htwice
    have htotal : (xorBytes (bs.take 16) (K 0) ++ rest).length = bs.length := by
      rw [List.length_append, hx, hlen]
      omega
    have htake : (xorBytes (bs.take 16) (K 0) ++ rest).take 16 = xorBytes (bs.take 16) (K 0) := by
      rcases le_or_gt 16 bs.length with h | h
      · exact List.take_left' (by rw [hx]; omega)
      · obtain rfl : rest = [] := List.length_eq_zero_iff.1 (by omega)
        rw [List.append_nil, List.take_of_length_le (by rw [hx]; omega)]
    have hdrop : (xorBytes (bs.take 16) (K 0) ++ rest).drop 16 = rest := by
      rcases le_or_gt 16 bs.length with h | h
      · exact List.drop_left' (by rw [hx]; omega)
      · obtain rfl : rest = [] := List.length_eq_zero_iff.1 (by omega)
        rw [List.append_nil, List.drop_of_length_le (by rw [hx]; omega)]
    refine ⟨htotal, ?_⟩
    rw [streamed_cons K n (List.length_pos_iff.1 (htotal ▸ hpos)), htake, hdrop, htwice,
      xorBytes_cancel _ _ (by rw [hK, List.length_take]; omega), List.take_append_drop]

/-- GCM under a 32-byte key: the stream keeps the length and undoes itself, and the tag has 16 bytes. -/
theorem gcmStream_twice (key nonce bs : List Byte) (h : key.length = 32) :
    (gcmStream (aesRounds key) nonce bs).length = bs.length ∧
    gcmStream (aesRounds key) nonce (gcmStream (aesRounds key) nonce bs) = bs := by
  have := streamed_twice (K := fun i => aesBlock (aesRounds key) (nonce ++ beBytes 4 (i + 2))) (fun i => length_aesBlock key _ h)
    (n := bs.length / 16 + 1) (bs := bs) (by omega)
  refine ⟨this.1, ?_⟩
  rw [gcmStream_eq, gcmStream_eq, this.1]
  exact this.2

theorem length_gcmTag (key nonce aad ct : List Byte) (h : key.length = 32) : (gcmTag (aesRounds key) nonce aad ct).length = 16 := by
  simp only [gcmTag, length_xorBytes, length_beBytes, length_aesBlock key _ h, Nat.min_self]

/-- What a key seals, the same key opens under the leading bytes of its tag, and under no others of their length (R359). -/
theorem gcmOpen_gcmSeal (key nonce aad pt tag : List Byte) (h : key.length = 32) (htag : tag.length = 12) :
    gcmOpen key nonce aad (gcmSeal key nonce aad pt).1 tag =
      if (gcmSeal key nonce aad pt).2.take 12 = tag then some pt else none := by
  unfold gcmOpen gcmSeal
  simp only [htag, (gcmStream_twice key nonce pt h).2]

theorem length_gcmSeal (key nonce aad pt : List Byte) (h : key.length = 32) :
    (gcmSeal key nonce aad pt).1.length = pt.length ∧ (gcmSeal key nonce aad pt).2.length = 16 := by
  unfold gcmSeal
  exact ⟨(gcmStream_twice key nonce pt h).1, length_gcmTag key _ _ _ h⟩

theorem length_flowKey (p : Pkt) (z : List Byte) : (p.flowKey z).1.length = 32 := by
  simp [Pkt.flowKey, length_kdf]

/-- What a receiver that holds the job secret makes of GCM's answer (R360). -/
theorem opened_of_some {t : State} {q : Pkt} {z bs : List Byte} (hkey : q.keyid ≠ 0) (hz : t.jobSecret q.keyid = some z)
    (h : gcmOpen (q.flowKey z).1 (q.nonce (q.flowKey z).2) q.aad (q.payload.take q.carried) (leBytes 12 q.tag) = some bs) :
    t.opened q = .ok { q with payload := bs } := by
  unfold State.opened
  rw [if_neg hkey, hz]
  simp only [h]

theorem opened_of_none {t : State} {q : Pkt} {z : List Byte} (hkey : q.keyid ≠ 0) (hz : t.jobSecret q.keyid = some z)
    (h : gcmOpen (q.flowKey z).1 (q.nonce (q.flowKey z).2) q.aad (q.payload.take q.carried) (leBytes 12 q.tag) = none) :
    t.opened q = .error 1 := by
  unfold State.opened
  rw [if_neg hkey, hz]
  simp only [h]

theorem seal_of_secret {s : State} {p : Pkt} {z : List Byte} (hkey : p.keyid ≠ 0) (hz : s.jobSecret p.keyid = some z) :
    let r := gcmSeal (p.flowKey z).1 (p.nonce (p.flowKey z).2) p.aad (p.payload.take p.carried)
    s.seal p = { p with payload := r.1, tag := leNat (r.2.take 12) } := by
  unfold State.seal
  rw [if_neg hkey, hz]

end Sys2Proof.Machine

namespace Sys2Proof.Proofs
open Sys2Proof.Machine

/-- Settles O29: GCM's stream undoes itself under the flow's key, which both ends derive from the job secret, and the tag's 12 bytes are
told apart by the number that they spell. -/
theorem packetEncryption : Obligations.PacketEncryption := by
  unfold Obligations.PacketEncryption
  intro s t p z hkey hs ht hlen vc dim hops mark dline esc sent hop
  have hk32 := length_flowKey p z
  have hseal : sent = _ := seal_of_secret hkey hs
  simp only [hlen ▸ List.take_length] at hseal
  generalize hr : gcmSeal (p.flowKey z).1 (p.nonce (p.flowKey z).2) p.aad p.payload = r at hseal
  obtain ⟨hct, htag⟩ := hr ▸ length_gcmSeal (p.flowKey z).1 (p.nonce (p.flowKey z).2) p.aad p.payload hk32
  clear_value sent
  subst hseal
  -- the hops change no part of a packet's key, nonce or additional data: under any tag `x` it is opened as it was sealed
  have hgcm (x : Nat) : gcmOpen (p.flowKey z).1 (p.nonce (p.flowKey z).2) p.aad (r.1.take p.carried) (leBytes 12 x) =
      if r.2.take 12 = leBytes 12 x then some p.payload else none := by
    have := gcmOpen_gcmSeal (p.flowKey z).1 (p.nonce (p.flowKey z).2) p.aad p.payload (leBytes 12 x) hk32 (length_leBytes _ _)
    rw [hr] at this
    rwa [List.take_of_length_le (by omega)]
  have htag12 : (r.2.take 12).length = 12 := by rw [List.length_take]; omega
  refine ⟨rfl, hct, opened_of_some hkey ht ((hgcm _).trans (if_pos ?_)), fun x hx => ?_⟩
  · have := leBytes_leNat (r.2.take 12)
    rw [htag12] at this
    exact this.symm
  · refine opened_of_none hkey ht ((hgcm x).trans (if_neg fun heq => hx ?_))
    show x % 2 ^ 96 = leNat (r.2.take 12)
    rw [heq, leNat_leBytes]
    rfl

end Sys2Proof.Proofs

/-! SUPPORT. What the commands may do to the queue of waiting commands and to the two memories, said once for every property of the three
that memory writes keep: each operation that writes a memory keeps it. -/
namespace Sys2Proof.Machine

/-- The queue and the two memories, as `State.kept` gives them. -/
abbrev Kept := List Instr × List Host.Cell × List Host.Cell

/-- A property of the queue and the memories that no write of a memory breaks. -/
class MemStable (P : Kept → Prop) : Prop where
  put {q : List Instr} {m h : List Host.Cell} (a : Nat) (bs : List Byte) : P (q, m, h) → P (q, memPut m a bs, h)
  hput {q : List Instr} {m h : List Host.Cell} (a : Nat) (bs : List Byte) : P (q, m, h) → P (q, m, memPut h a bs)
  drop {q : List Instr} {m h : List Host.Cell} (f : Host.Cell → Bool) : P (q, m, h) → P (q, m.filter f, h)
  clear {q : List Instr} {m h : List Host.Cell} : P (q, m, h) → P (q, [], h)

section
variable {P : Kept → Prop}

/-- The same of the states that an answer of the model's operations holds. -/
def OnO (P : Kept → Prop) : Option State → Prop
  | none => True
  | some t => P t.kept
def OnR (P : Kept → Prop) : SRes → Prop
  | .ok t => P t.kept
  | .wait _ _ => True
  | .fail _ t => P t.kept
def OnE (P : Kept → Prop) : Except (Nat × Acc) State → Prop
  | .ok t => P t.kept
  | .error _ => True
def OnA (P : Kept → Prop) (a : Ans) : Prop := P a.st.kept ∧ ∀ t, P t.kept → P (a.after t).kept
def OnOA (P : Kept → Prop) : Option Ans → Prop
  | none => True
  | some a => OnA P a

theorem onO_none : OnO P none = True := rfl
theorem onO_some (t : State) : OnO P (some t) = P t.kept := rfl
theorem onR_ok (t : State) : OnR P (.ok t) = P t.kept := rfl
theorem onR_wait (p : Nat) (a : Acc) : OnR P (.wait p a) = True := rfl
theorem onR_fail (k : Nat) (t : State) : OnR P (.fail k t) = P t.kept := rfl
theorem onE_ok (t : State) : OnE P (.ok t) = P t.kept := rfl
theorem onE_error (w : Nat × Acc) : OnE P (.error w) = True := rfl
theorem onOA_none : OnOA P none = True := rfl
theorem onOA_some (a : Ans) : OnOA P (some a) = OnA P a := rfl

theorem onA_say {s : State} (h : P s.kept) (x : Session) (q : SReq) (st : Nat) (p : Bool) : OnA P (s.say x q st p) :=
  ⟨h, fun _ ht => ht⟩
theorem onA_id {s : State} (b : List Byte) (h : P s.kept) : OnA P ⟨b, s, id⟩ := ⟨h, fun _ ht => ht⟩
theorem onA_ite {c : Prop} [Decidable c] {a b : Ans} (h : OnA P a) (g : OnA P b) : OnA P (if c then a else b) := by
  split <;> assumption
theorem onO_ite {c : Prop} [Decidable c] {a b : Option State} (h : OnO P a) (g : OnO P b) : OnO P (if c then a else b) := by
  split <;> assumption
theorem onR_ite {c : Prop} [Decidable c] {a b : SRes} (h : OnR P a) (g : OnR P b) : OnR P (if c then a else b) := by
  split <;> assumption
theorem onE_ite {c : Prop} [Decidable c] {a b : Except (Nat × Acc) State} (h : OnE P a) (g : OnE P b) : OnE P (if c then a else b) := by
  split <;> assumption
theorem onOA_ite {c : Prop} [Decidable c] {a b : Option Ans} (h : OnOA P a) (g : OnOA P b) : OnOA P (if c then a else b) := by
  split <;> assumption
theorem onR_bind {r : SRes} {f : State → SRes} (h : OnR P r) (g : ∀ t, P t.kept → OnR P (f t)) : OnR P (r.bind f) := by
  cases r with
  | ok t => exact g t h
  | wait p a => exact True.intro
  | fail k t => exact h
theorem orHeld_stable {s : State} {r : Except (Nat × Acc) State} (hk : P s.kept) (h : OnE P r) : P (s.orHeld r).kept := by
  unfold State.orHeld
  split
  · exact h
  · rw [State.noteAcc_kept]; exact hk
theorem foldl_stable {α : Type} {f : State → α → State} {l : List α} {x : State}
    (h : ∀ t a, P t.kept → P (f t a).kept) (h0 : P x.kept) : P (l.foldl f x).kept := by
  induction l generalizing x with
  | nil => exact h0
  | cons a l ih => exact ih (h x a h0)

variable [MemStable P]

theorem State.resetBase_stable (old : State) (run : ResetRun) (hk : P old.kept) :
    P (State.resetBase old run).kept :=
  MemStable.clear hk

theorem State.wr_stable (s : State) (a : Nat) (bs : List Byte) (hk : P s.kept) :
    P (State.wr s a bs).kept :=
  MemStable.put a bs hk

theorem State.logEntry_stable (s : State) (e : LEntry) (hk : P s.kept) :
    P (State.logEntry s e).kept := by
  unfold State.logEntry
  repeat' (first | with_reducible assumption | simp only [↓kept_with] | with_reducible apply State.wr_stable)

theorem State.sectorPut_stable (s : State) (a : Nat) (bs : List Byte) (hk : P s.kept) :
    P (State.sectorPut s a bs).kept := by
  unfold State.sectorPut
  repeat' (first | with_reducible assumption | simp only [↓kept_with, ↓kept_ite, ite_self, ↓State.showLedger_kept]
                 | with_reducible apply State.logEntry_stable | with_reducible apply State.wr_stable | split)

theorem State.hbmPut_stable (s : State) (a : Nat) (bs : List Byte) (hk : P s.kept) :
    P (State.hbmPut s a bs).kept := by
  unfold State.hbmPut
  repeat' (first | with_reducible assumption | simp only [] | with_reducible apply State.sectorPut_stable
                 | with_reducible refine foldl_stable (fun _ _ _ => ?_) ?_)

theorem State.ringApply_stable (s : State) (k : Nat) (hk : P s.kept) :
    P (State.ringApply s k).kept := by
  unfold State.ringApply
  repeat' (first | with_reducible assumption | simp only [↓kept_ite, ↓State.odApply_kept, ↓State.patternCut_kept, ↓State.setHdr_kept]
                 | with_reducible apply State.hbmPut_stable | split)

theorem State.sinkApply_stable (s : State) (hk : P s.kept) :
    P (State.sinkApply s).kept := by
  unfold State.sinkApply
  repeat' (first | with_reducible assumption | simp only [↓kept_ite, ↓State.odApply_kept] | with_reducible apply State.ringApply_stable
                 | with_reducible refine foldl_stable (fun _ _ _ => ?_) ?_ | split)

theorem State.odModuleReset_stable (s : State) (hk : P s.kept) :
    P (State.odModuleReset s).kept := by
  unfold State.odModuleReset
  repeat' (first | with_reducible assumption | simp only [↓kept_with, ↓kept_ite, ↓State.odApply_kept]
                 | with_reducible apply State.sinkApply_stable | with_reducible refine foldl_stable (fun _ _ _ => ?_) ?_ | split)

theorem State.resetOpens_stable (s : State) (run : ResetRun) (hk : P s.kept) :
    P (State.resetOpens s run).kept := by
  unfold State.resetOpens
  repeat' (first | with_reducible assumption | simp only [↓kept_ite, ite_self, ↓State.lilac_kept, ↓State.linkOff_kept,
                 ↓State.takeOver_kept, ↓State.testAbandoned_kept] | with_reducible apply State.odModuleReset_stable
                 | with_reducible refine foldl_stable (fun _ _ _ => ?_) ?_)

theorem State.moduleReset_stable (s : State) (fault : Bool) (held : Bool) (hk : P s.kept) :
    P (State.moduleReset s fault held).kept := by
  unfold State.moduleReset
  repeat' (first | with_reducible assumption | simp only [↓State.alertSet_kept, ↓State.amber_kept, ↓State.bankAmber_kept,
                 ↓State.bypassAmber_kept, ↓State.clusterAmber_kept, ↓State.enter_kept, ↓State.odSetN_kept, ↓State.sealAmber_kept]
                 | with_reducible apply State.resetBase_stable | with_reducible apply State.resetOpens_stable)

theorem State.bankZero_stable (s : State) (n : Nat) (b : Nat) (hk : P s.kept) :
    P (State.bankZero s n b).kept :=
  MemStable.drop _ hk

theorem State.bankFree_stable (s : State) (n : Nat) (b : Nat) (hk : P s.kept) :
    P (State.bankFree s n b).kept := by
  unfold State.bankFree
  repeat' (first | with_reducible assumption | simp only [↓State.freeVal_kept] | with_reducible apply State.wr_stable
                 | with_reducible refine foldl_stable (fun _ _ _ => ?_) ?_)

theorem State.marchAbandon_stable (s : State) (n : Nat) (hk : P s.kept) :
    P (State.marchAbandon s n).kept := by
  unfold State.marchAbandon
  repeat' (first | with_reducible assumption | simp only [↓State.marchResult_kept] | with_reducible apply State.bankFree_stable | split)

theorem State.coreClear_stable (s : State) (n : Nat) (keep : Bool) (hk : P s.kept) :
    P (State.coreClear s n keep).kept := by
  unfold State.coreClear
  repeat' (first | with_reducible assumption | simp only [↓kept_ite, ↓State.setCore_kept, ↓State.unissued_kept, ↓State.xingClear_kept]
                 | with_reducible apply State.bankZero_stable | with_reducible apply State.marchAbandon_stable
                 | with_reducible refine foldl_stable (fun _ _ _ => ?_) ?_ | split)

theorem State.clusterClear_stable (s : State) (c : Nat) (hk : P s.kept) :
    P (State.clusterClear s c).kept := by
  unfold State.clusterClear
  repeat' (first | with_reducible assumption | simp only [↓State.abandon_kept, ↓State.poolAbandon_kept, ↓State.resetUnits_kept,
                 ↓State.xingClear_kept] | with_reducible apply State.coreClear_stable
                 | with_reducible refine foldl_stable (fun _ _ _ => ?_) ?_)

theorem State.beginCluster_stable (s : State) (c : Nat) (hk : P s.kept) :
    P (State.beginCluster s c).kept := by
  unfold State.beginCluster
  repeat' (first | with_reducible assumption | simp only [↓State.tagAdvance_kept, ↓State.unfence_kept]
                 | with_reducible apply State.clusterClear_stable)

theorem State.beginCompute_stable (s : State) (hk : P s.kept) :
    P (State.beginCompute s).kept := by
  unfold State.beginCompute
  repeat' (first | with_reducible assumption | simp only [↓kept_with, ↓State.abandon_kept, ↓State.castAbort_kept, ↓State.collsReset_kept,
                 ↓State.flightForce_kept, ↓State.poolAbandon_kept, ↓State.stopQueues_kept, ↓State.tableEnds_kept, ↓State.tagAdvance_kept,
                 ↓State.unfence_kept, ↓State.xingClear_kept] | with_reducible apply State.coreClear_stable
                 | with_reducible refine foldl_stable (fun _ _ _ => ?_) ?_)

theorem State.coreFence_stable (s : State) (n : Nat) (keep : Bool) (hk : P s.kept) :
    P (State.coreFence s n keep).kept := by
  unfold State.coreFence
  repeat' (first | with_reducible assumption | simp only [↓kept_ite, ite_self, ↓State.fence_kept, ↓State.odAdd_kept]
                 | with_reducible apply State.coreClear_stable)

theorem State.beginCore_stable (s : State) (n : Nat) (hk : P s.kept) :
    P (State.beginCore s n).kept := by
  unfold State.beginCore
  repeat' (first | with_reducible assumption | simp only [↓State.resetUnits_kept] | with_reducible apply State.coreFence_stable)

theorem State.beginScope_stable (s : State) (scope : Nat) (target : Nat) (hk : P s.kept) :
    P (State.beginScope s scope target).kept := by
  unfold State.beginScope
  repeat' (first | with_reducible assumption | simp only [↓kept_with, ↓kept_ite, ite_self]
                 | with_reducible apply State.beginCluster_stable | with_reducible apply State.beginCompute_stable
                 | with_reducible apply State.beginCore_stable | split)

theorem State.resetRequest_stable (s : State) (v : Nat) (hk : P s.kept) :
    P (State.resetRequest s v).kept := by
  unfold State.resetRequest
  repeat' (first | with_reducible assumption | simp only [↓kept_ite, ↓State.addReset_kept, ↓State.beginLegacy_kept, ↓State.odInc_kept,
                 ↓State.resetStatus_kept] | with_reducible apply State.beginScope_stable | with_reducible apply State.moduleReset_stable
                 | split)

theorem State.actAfter_stable (s : State) (idx : Nat) (n : Nat) (hk : P s.kept) :
    P (State.actAfter s idx n).kept := by
  unfold State.actAfter
  repeat' (first | with_reducible assumption | simp only [↓kept_ite] | with_reducible apply State.moduleReset_stable
                 | with_reducible apply State.resetRequest_stable | split)

theorem State.zero_stable (s : State) (lo : Nat) (len : Nat) (hk : P s.kept) :
    P (State.zero s lo len).kept :=
  MemStable.drop _ hk

theorem State.moveBanks_stable (s : State) (c : Nat) (was : List Nat) (hk : P s.kept) :
    P (State.moveBanks s c was).kept := by
  unfold State.moveBanks
  repeat' (first | with_reducible assumption | simp only [] | with_reducible apply State.wr_stable
                 | with_reducible apply State.zero_stable | with_reducible refine foldl_stable (fun _ _ _ => ?_) ?_ | split)

theorem State.applyMarks_stable (s : State) (c : Nat) (hk : P s.kept) :
    P (State.applyMarks s c).kept := by
  unfold State.applyMarks
  repeat' (first | with_reducible assumption | simp only [↓kept_ite, ↓State.bankAmber_kept, ↓State.odApply_kept, ↓State.setCore_kept,
                 ↓State.setMap_kept] | with_reducible apply State.moveBanks_stable
                 | with_reducible refine foldl_stable (fun _ _ _ => ?_) ?_ | split)

theorem State.bringupAbandon_stable (s : State) (hk : P s.kept) :
    P (State.bringupAbandon s).kept := by
  unfold State.bringupAbandon
  repeat' (first | with_reducible assumption | simp only [↓kept_ite, ite_self, ↓State.linkOff_kept, ↓State.poolAbandon_kept,
                 ↓State.setCore_kept] | with_reducible apply State.marchAbandon_stable
                 | with_reducible refine foldl_stable (fun _ _ _ => ?_) ?_ | split)

theorem State.put_stable (s : State) (a : Nat) (bs : List Byte) (hk : P s.kept) :
    P (State.put s a bs).kept := by
  unfold State.put
  repeat' (first | with_reducible assumption | simp only [↓kept_ite, ite_self, ↓State.odInc_kept]
                 | with_reducible apply State.hbmPut_stable | with_reducible apply State.wr_stable | split)

theorem State.sepiaWrite_stable (s : State) (x : SCmd) (a : Nat) (bs : List Byte) (result : Option Nat) (hk : P s.kept) :
    OnR P (State.sepiaWrite s x a bs result) := by
  unfold State.sepiaWrite
  repeat' (first | exact True.intro | with_reducible exact hk | with_reducible assumption
                 | simp only [↓kept_ite, ite_self, ↓onR_ok, ↓onR_fail, ↓State.addIn_kept, ↓State.countBad_kept, ↓State.eccSeen_kept,
                 ↓State.noteAcc_kept, ↓State.seenNext_kept, ↓State.updCmd_kept] | with_reducible apply onA_say
                 | with_reducible apply onA_id | with_reducible apply onA_ite | with_reducible apply onO_ite
                 | with_reducible apply onR_ite | with_reducible apply onE_ite | with_reducible apply State.put_stable)

theorem State.sepiaOut_stable (s : State) (x : SCmd) (unit : Nat) (o : Nat) (bs : List Byte) (hk : P s.kept) :
    OnR P (State.sepiaOut s x unit o bs) := by
  unfold State.sepiaOut
  repeat' (first | exact True.intro | with_reducible exact hk | with_reducible assumption | simp only [↓onR_ok, ↓State.request_kept]
                 | with_reducible apply onA_say | with_reducible apply onA_id | with_reducible apply onA_ite
                 | with_reducible apply onO_ite | with_reducible apply onR_ite | with_reducible apply onE_ite
                 | with_reducible apply State.sepiaWrite_stable | with_reducible refine foldl_stable (fun _ _ _ => ?_) ?_)

omit [MemStable P] in
theorem sepiaRead_stable (s : State) (p a len : Nat) (hk : P s.kept) : OnR P (s.sepiaRead p a len) := by
  unfold State.sepiaRead
  repeat' (first | exact True.intro | with_reducible exact hk | simp only [↓onR_ok, ↓onR_fail, ↓State.countBad_kept, ↓State.noteAcc_kept,
                 ↓State.readSeen_kept, ↓State.seenNext_kept] | with_reducible apply onR_ite)

/-- A step of a plan keeps the canonical form. -/
def OnPlan (P : Kept → Prop) (p : Plan) : Prop := ∀ e ∈ p, ∀ t : State, P t.kept → OnR P (e.2 t)

theorem readRow_stable {f : State → SRes} (s : State) (p t r len : Nat) (hk : P s.kept)
    (hf : ∀ t, P t.kept → OnR P (f t)) : OnR P (s.readRow p t r len f) := onR_bind (sepiaRead_stable s p _ len hk) hf
theorem readGrad_stable {f : State → SRes} (s : State) (p c j : Nat) (hk : P s.kept)
    (hf : ∀ t, P t.kept → OnR P (f t)) : OnR P (s.readGrad p c j f) := onR_bind (sepiaRead_stable s p _ _ hk) hf
theorem readRows_stable (s : State) (p t len : Nat) (l : List Nat) (hk : P s.kept) : OnR P (s.readRows p t len l) := by
  induction l generalizing s with
  | nil => exact hk
  | cons r rs ih => exact readRow_stable s p t r len hk (fun t ht => ih t ht)
theorem readGrads_stable (s : State) (p c : Nat) (l : List Nat) (hk : P s.kept) : OnR P (s.readGrads p c l) := by
  induction l generalizing s with
  | nil => exact hk
  | cons r rs ih => exact readGrad_stable s p c r hk (fun t ht => ih t ht)
theorem readLists_stable (s : State) (p : Nat) (l : List (Nat × Nat)) (hk : P s.kept) : OnR P (s.readLists p l) := by
  induction l generalizing s with
  | nil => exact hk
  | cons r rs ih => exact onR_bind (sepiaRead_stable s p _ _ hk) (fun t ht => ih t ht)

omit [MemStable P] in
theorem runPlan_stable (l : Plan) (hl : OnPlan P l) (s : State) (st : Nat) (d : List Nat) (hk : P s.kept)
    (r : State × Nat × List Nat) (hr : runPlan l s st d = .ok r) : P r.1.kept := by
  induction l generalizing s st d with
  | nil => simp only [runPlan, Except.ok.injEq] at hr; subst hr; exact hk
  | cons e l ih =>
    obtain ⟨us, f⟩ := e
    have hf : ∀ t, P t.kept → OnR P (f t) := hl (us, f) (by simp)
    have hl' : OnPlan P l := fun e he => hl e (List.mem_cons_of_mem _ he)
    simp only [runPlan] at hr
    split at hr
    · split at hr
      · rename_i t ht; exact ih hl' t _ _ (by have := hf s hk; rw [ht] at this; exact this) hr
      · exact absurd hr (by simp)
      · rename_i k t ht; exact ih hl' t _ _ (by have := hf s hk; rw [ht] at this; exact this) hr
    · have hv : P (s.freeVal 1).2.kept := by rw [State.freeVal_kept]; exact hk
      split at hr
      · exact ih hl' _ _ _ hv hr
      · split at hr
        · rename_i t ht; exact ih hl' t _ _ (by have := hf _ hv; rw [ht] at this; exact this) hr
        · exact ih hl' _ _ _ hv hr

omit [MemStable P] in
theorem mapIdx_onPlan {a : Type} (l : List a) (f : Nat → a → List Nat × (State → SRes))
    (h : ∀ i x t, P t.kept → OnR P ((f i x).2 t)) : OnPlan P (l.mapIdx f) := by
  intro e he t ht
  obtain ⟨i, hi, rfl⟩ := List.mem_mapIdx.1 he
  exact h _ _ _ ht

omit [MemStable P] in
theorem rowPlan_stable (es : List (Option Nat)) (f : Nat → List Nat → State → SRes)
    (h : ∀ r js t, P t.kept → OnR P (f r js t)) : OnPlan P (rowPlan es f) := by
  intro e he t ht
  rcases List.mem_append.1 he with he | he
  · obtain ⟨j, _, rfl⟩ := List.mem_map.1 he; exact ht
  · obtain ⟨j, _, rfl⟩ := List.mem_map.1 he; exact h _ _ _ ht

theorem plan_stable (x : SCmd) (f g : Fmt) (es : List (Option Nat)) (bags : List (Option (List Nat))) (h : Hyper)
    (n : Nat) : OnPlan P (match n with
      | 1 => planLookup x f g es
      | 2 => planPool x f g es bags
      | 3 => if cmMode x.bits = 4 then planExact x f es else planSeq x f es
      | 4 => planUpdate x f es h
      | 5 => planCopy x
      | _ => planFill x) := by
  split
  · refine mapIdx_onPlan _ _ (fun j e t ht => ?_)
    cases e with
    | none => exact State.sepiaOut_stable t _ _ _ _ ht
    | some r => exact readRow_stable t _ _ r _ ht (fun t ht => State.sepiaOut_stable t _ _ _ _ ht)
  · exact mapIdx_onPlan _ _ (fun j e t ht => onR_bind (readRows_stable t _ _ _ _ ht)
      (fun t ht => State.sepiaOut_stable t _ _ _ _ ht))
  · split
    · unfold planExact
      refine rowPlan_stable _ _ (fun r js t ht => ?_)
      refine onR_bind (readGrads_stable t _ _ js ht) (fun u hu => ?_)
      refine readRow_stable u _ _ r _ hu (fun v hv => ?_)
      exact State.sepiaWrite_stable v _ _ _ _ hv
    · refine mapIdx_onPlan _ _ (fun j e t ht => ?_)
      cases e with
      | none => exact ht
      | some r => exact readGrad_stable t _ _ j ht (fun t ht => readRow_stable _ _ _ _ _ ht
          (fun t ht => State.sepiaWrite_stable _ _ _ _ _ ht))
  · unfold planUpdate
    refine rowPlan_stable _ _ (fun r js t ht => ?_)
    refine onR_bind (readGrads_stable t _ _ js ht) (fun u hu => ?_)
    refine readRow_stable u _ _ r _ hu (fun v hv => ?_)
    exact State.sepiaWrite_stable v _ _ _ _ hv
  · intro e he t ht
    obtain ⟨j, _, rfl⟩ := List.mem_map.1 he
    exact onR_bind (sepiaRead_stable _ _ _ _ ht) (fun t ht => State.sepiaOut_stable _ _ _ _ _ ht)
  · intro e he t ht
    obtain ⟨j, _, rfl⟩ := List.mem_map.1 he
    exact State.sepiaOut_stable _ _ _ _ _ ht

theorem State.cmdRun_stable (s : State) (x : SCmd) (hk : P s.kept) :
    OnE P (State.cmdRun s x) := by
  have hl := readLists_stable (P := P) s x.part
  have hp := plan_stable (P := P) x
  unfold State.cmdRun
  simp only []
  split
  · simp only [↓onE_ok, ↓State.cmdDone_kept, kept_ite, State.countAddress_kept, State.countIsolation_kept, ite_self]; exact hk
  · split
    · exact True.intro
    · rename_i k t ht
      simp only [↓onE_ok, ↓State.cmdDone_kept]; exact (congrArg (OnR P) ht).mp (hl _ hk)
    · rename_i t ht
      have hl' : P t.kept := (congrArg (OnR P) ht).mp (hl _ hk)
      refine onE_ite ?_ ?_
      · simp only [↓onE_ok, ↓State.cmdDone_kept]; exact hl'
      · split
        · exact True.intro
        · rename_i r t' st done hr
          simp only [↓onE_ok, ↓State.cmdDone_kept]
          refine runPlan_stable _ (hp _ _ _ _ _ _) _ 0 [] ?_ _ hr
          simp only [kept_ite, State.odAdd_kept, ite_self]; exact hl'

theorem State.cmdTry_stable (s : State) (x : SCmd) (seen : List Ecc) (hk : P s.kept) :
    P (State.cmdTry s x seen).kept := by
  unfold State.cmdTry
  split
  · exact hk
  · exact orHeld_stable hk (State.cmdRun_stable _ x (by
      simp only [kept_with, State.odApply_kept]
      exact foldl_stable (fun t a ht => by rw [State.hotEnable_kept]; exact ht) hk))

theorem State.colPut_stable (s : State) (c : Coll) (a : Nat) (bs : List Byte) (ecc : Ecc) (hk : P s.kept) :
    P (State.colPut s c a bs ecc).2.kept := by
  unfold State.colPut
  repeat' (first | with_reducible assumption | simp only [↓State.countBad_kept, ↓State.eccSeen_kept]
                 | with_reducible apply State.put_stable | split)

theorem State.combine_stable (s : State) (c : Coll) (j : Nat) (bad : Option Nat) (ecc : Ecc) (dest : Ecc) (hk : P s.kept) :
    OnE P (State.combine s c j bad ecc dest) := by
  unfold State.combine
  repeat' (first | exact True.intro | with_reducible exact hk | with_reducible assumption
                 | simp only [↓onE_ok, ↓State.collBad_kept, ↓State.collCheck_kept, ↓State.collFail_kept, ↓State.countBad_kept,
                 ↓State.readSeen_kept, ↓State.regrant_kept, ↓State.retireSlot_kept, ↓State.sendDown_kept, ↓State.sendUp_kept,
                 ↓State.updColl_kept] | with_reducible apply onA_say | with_reducible apply onA_id | with_reducible apply onA_ite
                 | with_reducible apply onO_ite | with_reducible apply onR_ite | with_reducible apply onE_ite
                 | with_reducible apply State.colPut_stable | with_reducible refine foldl_stable (fun _ _ _ => ?_) ?_ | split)

theorem State.hwr_stable (s : State) (a : Nat) (bs : List Byte) (hk : P s.kept) :
    P (State.hwr s a bs).kept :=
  MemStable.hput a bs hk

theorem State.complete_stable (s : State) (f : Flight) (hk : P s.kept) :
    P (State.complete s f).kept := by
  unfold State.complete
  repeat' (first | with_reducible assumption | simp only [↓kept_with, ↓kept_ite, ite_self, ↓State.endCount_kept, ↓State.hcAdd_kept,
                 ↓State.lilac_kept, ↓State.odInc_kept, ↓State.qDrained_kept, ↓State.setQueue_kept, ↓State.stallStart_kept]
                 | with_reducible apply State.hwr_stable | split)

theorem State.computeApply_stable (s : State) (spareBad : Nat) (armed : Nat) (hk : P s.kept) :
    P (State.computeApply s spareBad armed).kept := by
  unfold State.computeApply
  repeat' (first | with_reducible assumption | simp only [↓State.applyLicence_kept, ↓State.applyRemap_kept, ↓State.applySpares_kept,
                 ↓State.bandStart_kept, ↓State.odApply_kept, ↓State.reopenCluster_kept, ↓State.testAmber_kept]
                 | with_reducible apply State.applyMarks_stable | with_reducible refine foldl_stable (fun _ _ _ => ?_) ?_)

theorem State.copyOut_stable (s : State) (x : Queue) (d : Nat) (a : Nat) (bs : List Byte) (hk : P s.kept) :
    P (State.copyOut s x d a bs).kept := by
  unfold State.copyOut
  repeat' (first | with_reducible assumption | simp only [↓kept_ite] | with_reducible apply State.hwr_stable
                 | with_reducible apply State.put_stable | split)

theorem State.copyPrefix_stable (s : State) (n : Nat) (slot : Nat) (p : Nat) (src : Nat) (dst : Nat) (len : Nat) (hk : P s.kept) :
    P (State.copyPrefix s n slot p src dst len).kept := by
  unfold State.copyPrefix
  repeat' (first | with_reducible assumption | simp only [↓kept_ite, ↓State.addAct_kept, ↓State.freeVal_kept]
                 | with_reducible apply State.put_stable | split)

theorem State.coreDefect_stable (s : State) (n : Nat) (hk : P s.kept) :
    P (State.coreDefect s n).kept := by
  unfold State.coreDefect
  repeat' (first | with_reducible assumption | simp only [↓State.addReset_kept, ↓State.odAccept_kept]
                 | with_reducible apply State.beginCluster_stable)

theorem State.scrubFill_stable (s : State) (q : Nat → Bool) (hk : P s.kept) :
    P (State.scrubFill s q).kept :=
  MemStable.drop _ hk

theorem State.create_stable (s : State) (p : Nat) (hk : P s.kept) :
    P (State.create s p).kept := by
  unfold State.create
  repeat' (first | with_reducible assumption | simp only [↓kept_with, ↓kept_ite, ↓State.freeVal_kept, ↓State.hcClear_kept,
                 ↓State.odApplyAll_kept, ↓State.partGo_kept, ↓State.patternCut_kept, ↓State.setCore_kept, ↓State.setEp_kept,
                 ↓State.setPart_kept, ↓State.showEp_kept, ↓State.showTags_kept] | with_reducible apply State.bankZero_stable
                 | with_reducible apply State.scrubFill_stable | with_reducible refine foldl_stable (fun _ _ _ => ?_) ?_ | split)

theorem State.decodeSector_stable (s : State) (x : Nat) (errs : Nat) (hk : P s.kept) :
    P (State.decodeSector s x errs).1.kept := by
  unfold State.decodeSector
  repeat' (first | with_reducible assumption | simp only [↓kept_with, ↓State.corrected_kept, ↓State.freeVal_kept, ↓State.odInc_kept,
                 ↓State.spoil_kept] | with_reducible apply State.wr_stable | split)

theorem State.dmaCopy_stable (s : State) (n : Nat) (m : MOp) (ecc : Ecc) (dest : Ecc) (hk : P s.kept) :
    P (State.dmaCopy s n m ecc dest).kept := by
  unfold State.dmaCopy
  repeat' (first | with_reducible assumption | simp only [↓kept_ite, ↓State.addAct_kept, ↓State.countAddress_kept, ↓State.countBad_kept,
                 ↓State.dmaSeen_kept, ↓State.dropMop_kept, ↓State.mDone_kept, ↓State.mFault_kept, ↓State.noteAcc_kept]
                 | with_reducible apply State.copyPrefix_stable | with_reducible apply State.put_stable | split)

theorem State.marchTake_stable (s : State) (n : Nat) (hk : P s.kept) :
    P (State.marchTake s n).kept := by
  unfold State.marchTake
  repeat' (first | with_reducible assumption | simp only [↓kept_ite, ↓State.marchResult_kept, ↓State.odApply_kept, ↓State.setCore_kept]
                 | with_reducible apply State.bankFree_stable | split)

theorem State.marchRequest_stable (s : State) (n : Nat) (v : Nat) (hk : P s.kept) :
    P (State.marchRequest s n v).kept := by
  unfold State.marchRequest
  repeat' (first | with_reducible assumption | simp only [↓State.odAccept_kept] | with_reducible apply State.marchTake_stable)

theorem State.partCommand_stable (s : State) (p : Nat) (v : Nat) (hk : P s.kept) :
    P (State.partCommand s p v).kept := by
  unfold State.partCommand
  repeat' (first | with_reducible assumption | simp only [↓kept_ite, ↓State.setPart_kept, ↓State.teardown_kept]
                 | with_reducible apply State.create_stable | split)

theorem State.removalStart_stable (s : State) (hk : P s.kept) :
    P (State.removalStart s).kept := by
  unfold State.removalStart
  repeat' (first | with_reducible assumption | simp only [↓kept_ite, ↓State.amber_kept, ↓State.lifeSet_kept, ↓State.removalGo_kept]
                 | with_reducible apply State.bringupAbandon_stable | with_reducible apply State.partCommand_stable
                 | with_reducible refine foldl_stable (fun _ _ _ => ?_) ?_ | split)

theorem State.takeNum_stable (s : State) (idx : Nat) (sub : Nat) (n : Nat) (hk : P s.kept) :
    P (State.takeNum s idx sub n).kept := by
  unfold State.takeNum
  repeat' (first | with_reducible assumption | simp only [↓kept_ite, ite_self, ↓State.alertSet_kept, ↓State.apertureTake_kept,
                 ↓State.assignSpare_kept, ↓State.bypassSafe_kept, ↓State.coordWrite_kept, ↓State.jobWrite_kept, ↓State.ledgerSettings_kept,
                 ↓State.linkEnableSet_kept, ↓State.loopbackStart_kept, ↓State.odAccept_kept, ↓State.odSetN_kept, ↓State.releaseTake_kept,
                 ↓State.spareWrite_kept, ↓State.swapRequest_kept, ↓State.updateCommand_kept]
                 | with_reducible apply State.marchRequest_stable | with_reducible apply State.partCommand_stable
                 | with_reducible apply State.removalStart_stable | with_reducible apply State.resetRequest_stable | split)

theorem State.odTake_stable (s : State) (idx : Nat) (sub : Nat) (v : OdVal) (hk : P s.kept) :
    P (State.odTake s idx sub v).kept := by
  unfold State.odTake
  repeat' (first | with_reducible assumption | simp only [↓State.takeBlob_kept] | with_reducible apply State.takeNum_stable | split)

theorem State.writeElems_stable (s : State) (door : Door) (o : OdInfo) (k : Nat) (x4 : List Nat) (x5 : List Byte) (hk : P s.kept) :
    P (State.writeElems s door o k x4 x5).2.kept := by
  induction x4 generalizing s x5 with
  | nil => exact hk
  | cons i is ih =>
    simp only [State.writeElems]
    split
    · exact ih _ _ hk
    · refine ih _ _ ?_
      split
      · exact State.odTake_stable _ _ _ _ hk
      · exact hk

theorem State.writeAll_stable (s : State) (door : Door) (idx : Nat) (bs : List Byte) (hk : P s.kept) :
    P (State.writeAll s door idx bs).st.kept := by
  unfold State.writeAll
  repeat' (first | with_reducible assumption | simp only [↓kept_ite, ite_self, ↓State.odIgnored_kept]
                 | with_reducible apply State.writeElems_stable | split)

theorem State.writeOne_stable (s : State) (door : Door) (idx : Nat) (sub : Nat) (bs : List Byte) (hk : P s.kept) :
    P (State.writeOne s door idx sub bs).st.kept := by
  unfold State.writeOne
  repeat' (first | with_reducible assumption | simp only [↓kept_ite, ite_self, ↓State.odIgnored_kept, ↓State.resetRefused_kept,
                 ↓State.swapRefused_kept] | with_reducible apply State.odTake_stable | split)

theorem State.write_stable (s : State) (door : Door) (idx : Nat) (sub : Nat) (all : Bool) (bs : List Byte) (hk : P s.kept) :
    P (State.write s door idx sub all bs).st.kept := by
  unfold State.write
  repeat' (first | with_reducible assumption | simp only [↓kept_with, ↓kept_ite, ite_self] | with_reducible apply State.writeAll_stable
                 | with_reducible apply State.writeOne_stable | split)

theorem State.segDecide_stable (s : State) (x : Session) (q : SReq) (idx : Nat) (sub : Nat) (all : Bool) (bs : List Byte) (hk : P s.kept) :
    OnA P (State.segDecide s x q idx sub all bs) := by
  unfold State.segDecide State.say
  exact ⟨State.write_stable _ _ _ _ _ _ hk, fun _ h => h⟩

theorem State.segWrite_stable (s : State) (x : Session) (q : SReq) (k : Nat) (bs : List Byte) (hk : P s.kept) :
    OnA P (State.segWrite s x q k bs) := by
  unfold State.segWrite
  repeat' (first | exact True.intro | with_reducible exact hk | with_reducible assumption | simp only [↓State.updSession_kept]
                 | with_reducible apply onA_say | with_reducible apply onA_id | with_reducible apply onA_ite
                 | with_reducible apply onO_ite | with_reducible apply onR_ite | with_reducible apply onE_ite
                 | with_reducible apply State.segDecide_stable | with_reducible refine foldl_stable (fun _ _ _ => ?_) ?_ | split)

theorem State.segWriteStart_stable (s : State) (x : Session) (q : SReq) (idx : Nat) (sub : Nat) (all : Bool) (total : Nat) (hk : P s.kept) :
    OnA P (State.segWriteStart s x q idx sub all total) := by
  unfold State.segWriteStart
  repeat' (first | exact True.intro | with_reducible exact hk | with_reducible assumption | simp only [↓State.updSession_kept]
                 | with_reducible apply onA_say | with_reducible apply onA_id | with_reducible apply onA_ite
                 | with_reducible apply onO_ite | with_reducible apply onR_ite | with_reducible apply onE_ite
                 | with_reducible apply State.segDecide_stable)

theorem State.writeReq_stable (s : State) (x : Session) (q : SReq) (idx : Nat) (sub : Nat) (all : Bool) (bs : List Byte) (hk : P s.kept) :
    OnA P (State.writeReq s x q idx sub all bs) := by
  have hw := State.write_stable s x.door idx sub all bs hk
  unfold State.writeReq
  simp only []
  split
  · exact ⟨by simpa [State.say] using hk, fun _ h => h⟩
  · refine ⟨hw, fun t ht => ?_⟩
    simp only []
    split
    · exact State.actAfter_stable _ _ _ ht
    · exact ht

theorem State.stanExec_stable (s : State) (x : Session) (q : SReq) (hk : P s.kept) :
    OnOA P (State.stanExec s x q) := by
  have hseg : ∀ i k a, OnA P (s.segReadStart x q i k a) := by
    intro i k a
    unfold State.segReadStart
    repeat' (first | with_reducible exact hk | simp only [↓kept_ite, ite_self, ↓State.updSession_kept] | with_reducible apply onA_say
                   | with_reducible apply onA_id | with_reducible apply onA_ite)
  have hrd : ∀ k, OnOA P (s.segRead x q k) := by
    intro k
    unfold State.segRead
    repeat' (first | exact True.intro | with_reducible exact hk | simp only [↓onOA_some, ↓State.updSession_kept]
                   | with_reducible apply onA_say | with_reducible apply onA_id | with_reducible apply onA_ite | split)
  have hel : ∀ (o : Option Session) (t : State), P t.kept → P (o.elim t t.deliverOne).kept := by
    intro o t ht
    cases o with
    | none => exact ht
    | some x => simp only [Option.elim, State.deliverOne_kept]; exact ht
  unfold State.stanExec
  refine onOA_ite (onA_say hk _ _ _ _) ?_
  cases q <;> simp only []
  all_goals repeat' (first | exact True.intro | with_reducible exact hk | with_reducible exact hseg _ _ _ | with_reducible exact hrd _
                           | with_reducible apply State.writeReq_stable | with_reducible apply State.segWriteStart_stable
                           | with_reducible apply State.segWrite_stable | simp only [↓onOA_some, ↓State.updSession_kept]
                           | with_reducible apply onA_say | with_reducible apply onA_id | with_reducible apply onA_ite
                           | with_reducible apply onOA_ite)
  · exact ⟨hk, fun t ht => by simpa using ht⟩
  · exact ⟨by simpa using hk, fun t ht => hel _ t ht⟩

theorem State.stanTurn_stable (s : State) (x : Session) (seq : Nat) (q : SReq) (hk : P s.kept) :
    OnO P (State.stanTurn s x seq q) := by
  have he := State.stanExec_stable s x q hk
  unfold State.stanTurn
  split
  · exact True.intro
  · rename_i a ha
    rw [ha] at he
    refine he.2 _ ?_
    rw [State.sendTo_kept, State.updSession_kept]
    exact he.1

theorem State.earlyRun_stable (x0 : Nat) (x1 : Nat) (x2 : State) (hk : P x2.kept) :
    P (State.earlyRun x0 x1 x2).kept := by
  induction x0 generalizing x2 with
  | zero => exact hk
  | succ k ih =>
    simp only [State.earlyRun]
    split
    · exact hk
    · split
      · exact hk
      · split
        · exact hk
        · rename_i t ht
          refine ih _ ?_
          rw [State.updSession_kept]
          exact (ht ▸ State.stanTurn_stable _ _ _ _ hk : OnO P (some t))

theorem State.enterRed_stable (s : State) (code : Nat) (hk : P s.kept) :
    P (State.enterRed s code).kept := by
  unfold State.enterRed
  repeat' (first | with_reducible assumption | simp only [↓kept_ite, ↓State.addReset_kept, ↓State.endResets_kept, ↓State.enter_kept,
                 ↓State.leaveService_kept, ↓State.odSetN_kept] | with_reducible apply State.beginCompute_stable | split)

theorem State.redFault_stable (s : State) (code : Nat) (kind : Nat) (num : Nat) (part : Option Nat) (esc : Bool) (detail : Nat)
    (hk : P s.kept) :
    P (State.redFault s code kind num part esc detail).kept := by
  unfold State.redFault
  repeat' (first | with_reducible assumption | simp only [↓State.faultRecord_kept] | with_reducible apply State.enterRed_stable)

theorem State.faultReset_stable (s : State) (code : Nat) (action : Nat) (scope : Nat) (target : Nat) (kind : Nat) (num : Nat)
    (part : Option Nat) (detail : Nat) (hk : P s.kept) :
    P (State.faultReset s code action scope target kind num part detail).kept := by
  unfold State.faultReset
  repeat' (first | with_reducible assumption | simp only [↓kept_with, ↓kept_ite, ↓State.addReset_kept, ↓State.faultRecord_kept,
                 ↓State.faultRecordAs_kept, ↓State.odApply_kept, ↓State.odInc_kept] | with_reducible apply State.beginScope_stable
                 | with_reducible apply State.moduleReset_stable | with_reducible apply State.redFault_stable | split)

theorem State.getArrives_stable (s : State) (n : Nat) (id : Nat) (dst : Nat) (bs : List Byte) (ecc : Ecc) (hk : P s.kept) :
    OnE P (State.getArrives s n id dst bs ecc) := by
  unfold State.getArrives
  repeat' (first | exact True.intro | with_reducible exact hk | with_reducible assumption
                 | simp only [↓kept_ite, ite_self, ↓onE_ok, ↓State.addAct_kept, ↓State.countAddress_kept, ↓State.countBad_kept,
                 ↓State.eccSeen_kept, ↓State.mAnswered_kept, ↓State.mFault_kept, ↓State.noteAcc_kept] | with_reducible apply onA_say
                 | with_reducible apply onA_id | with_reducible apply onA_ite | with_reducible apply onO_ite
                 | with_reducible apply onR_ite | with_reducible apply onE_ite | with_reducible apply State.put_stable
                 | with_reducible refine foldl_stable (fun _ _ _ => ?_) ?_ | split)

theorem State.ordered_stable (s : State) (x : Session) (f : Frame) (q : SReq) (hk : P s.kept) :
    P (State.ordered s x f q).kept := by
  unfold State.ordered
  repeat' (first | with_reducible assumption | simp only [↓kept_ite, ↓State.refuseMsg_kept, ↓State.sendTo_kept, ↓State.updSession_kept]
                 | with_reducible apply State.earlyRun_stable | split)

theorem State.receive_stable (s : State) (f : Frame) (q : SReq) (hk : P s.kept) :
    P (State.receive s f q).kept := by
  have ho : ∀ (o : Option Session) (t : State), P t.kept → P (o.elim t (fun x => t.ordered x f q)).kept := by
    intro o t ht
    cases o with
    | none => exact ht
    | some x => exact State.ordered_stable _ _ _ _ ht
  unfold State.receive
  repeat' (first | with_reducible exact hk | simp only [↓State.odInc_kept, ↓State.refuseMsg_kept, ↓State.openReq_kept] | refine ho _ _ ?_
                 | split)
  all_goals simpa using hk

theorem State.heldRun_stable (s : State) (hk : P s.kept) :
    P (State.heldRun s).kept := by
  unfold State.heldRun
  repeat' (first | with_reducible assumption | simp only [↓State.mgmtSet_kept, ↓State.samplesRun_kept]
                 | with_reducible apply State.receive_stable | with_reducible refine foldl_stable (fun _ _ _ => ?_) ?_)

theorem State.latched_stable (s : State) (x : Session) (t : Xfer) (hk : P s.kept) :
    P (State.latched s x t).kept := by
  unfold State.latched
  repeat' (first | with_reducible assumption | simp only [↓State.updSession_kept] | with_reducible apply State.earlyRun_stable)

theorem State.legacyGo_stable (s : State) (f : Fence) (hk : P s.kept) :
    P (State.legacyGo s f).kept := by
  unfold State.legacyGo
  repeat' (first | with_reducible assumption | simp only [↓kept_ite, ↓State.keepColl_kept, ↓State.resetUnits_kept]
                 | with_reducible apply State.clusterClear_stable | with_reducible apply State.coreClear_stable | split)

theorem State.mStart1_stable (s : State) (n : Nat) (m : MOp) (e : Option Ecc) (hk : P s.kept) :
    OnO P (State.mStart1 s n m e) := by
  unfold State.mStart1
  repeat' (first | exact True.intro | with_reducible exact hk | with_reducible assumption
                 | simp only [↓kept_ite, ↓onO_some, ↓State.addAct_kept, ↓State.countBad_kept, ↓State.mFault_kept, ↓State.mLeft_kept,
                 ↓State.noteAcc_kept, ↓State.pushCmd_kept, ↓State.readSeen_kept, ↓State.request_kept] | with_reducible apply onA_say
                 | with_reducible apply onA_id | with_reducible apply onA_ite | with_reducible apply onO_ite
                 | with_reducible apply onR_ite | with_reducible apply onE_ite | with_reducible apply State.put_stable
                 | with_reducible refine foldl_stable (fun _ _ _ => ?_) ?_ | split)

theorem State.mStart_stable (pick : Option (Nat × Ecc)) (x1 : Nat) (x2 : State) (x3 : Nat) (hk : P x2.kept) :
    P (State.mStart pick x1 x2 x3).kept := by
  induction x1 generalizing x2 with
  | zero => exact hk
  | succ k ih =>
    simp only [State.mStart]
    split
    · exact hk
    · split
      · exact hk
      · split
        · exact hk
        · rename_i t ht
          refine ih _ ?_
          rw [State.updMop_kept]
          exact (ht ▸ State.mStart1_stable _ _ _ _ hk : OnO P (some t))

theorem State.marchTakes_stable (s : State) (l : List Nat) (hk : P s.kept) :
    P (State.marchTakes s l).kept := by
  unfold State.marchTakes
  repeat' (first | with_reducible assumption | simp only [↓kept_with, ↓kept_ite, ite_self] | with_reducible apply State.marchTake_stable
                 | with_reducible refine foldl_stable (fun _ _ _ => ?_) ?_)

theorem State.powerLost_stable (s : State) (hk : P s.kept) :
    P (State.powerLost s).kept :=
  MemStable.clear hk

theorem State.stepEight_stable (s : State) (spareBad : Nat) (armed : Nat) (hk : P s.kept) :
    P (State.stepEight s spareBad armed).kept := by
  unfold State.stepEight
  repeat' (first | with_reducible assumption | simp only [↓State.assignSpare_kept, ↓State.odSetN_kept]
                 | with_reducible apply State.computeApply_stable | with_reducible refine foldl_stable (fun _ _ _ => ?_) ?_)

theorem State.releaseScope_stable (s : State) (r : ResetRun) (spareBad : Nat) (hk : P s.kept) :
    P (State.releaseScope s r spareBad).kept := by
  unfold State.releaseScope
  repeat' (first | with_reducible assumption | simp only [↓State.flipBoth_kept, ↓State.flipIn_kept, ↓State.flipPair_kept,
                 ↓State.reopenCluster_kept, ↓State.sealAmber_kept] | with_reducible apply State.applyMarks_stable
                 | with_reducible apply State.computeApply_stable | with_reducible apply State.marchTakes_stable
                 | with_reducible apply State.stepEight_stable | with_reducible refine foldl_stable (fun _ _ _ => ?_) ?_ | split)

theorem State.verdict_stable (s : State) (n : Nat) (past : List Suspect) (hk : P s.kept) :
    P (State.verdict s n past).kept := by
  unfold State.verdict
  repeat' (first | with_reducible assumption | simp only [↓kept_ite, ite_self, ↓State.enableAgain_kept, ↓State.endReplay_kept,
                 ↓State.faultRecord_kept, ↓State.flightGuilty_kept, ↓State.odInc_kept, ↓State.qGo_kept]
                 | with_reducible apply State.coreDefect_stable | with_reducible refine foldl_stable (fun _ _ _ => ?_) ?_ | split)

theorem State.replayEnds_stable (s : State) (n : Nat) (hung : Bool) (hk : P s.kept) :
    P (State.replayEnds s n hung).kept := by
  unfold State.replayEnds
  repeat' (first | with_reducible assumption | simp only [↓kept_ite, ↓State.setReplay_kept] | with_reducible apply State.coreFence_stable
                 | with_reducible apply State.verdict_stable | split)

theorem State.restoreEntries_stable (s : State) (mine : LEntry → Bool) (hk : P s.kept) :
    P (State.restoreEntries s mine).kept := by
  unfold State.restoreEntries
  repeat' (first | with_reducible assumption | simp only [↓kept_with, ↓kept_ite, ite_self, ↓State.odInc_kept]
                 | with_reducible apply State.wr_stable | with_reducible refine foldl_stable (fun _ _ _ => ?_) ?_)

theorem State.ringWrite_stable (s : State) (k : Nat) (time : Nat) (bs : List Byte) (hk : P s.kept) :
    P (State.ringWrite s k time bs).kept := by
  unfold State.ringWrite
  repeat' (first | with_reducible assumption | simp only [↓kept_ite, ↓State.patternCut_kept, ↓State.ringLost_kept, ↓State.setHdr_kept]
                 | with_reducible apply State.hbmPut_stable | split)

theorem State.scrub_stable (s : State) (p : Nat) (hk : P s.kept) :
    P (State.scrub s p).kept := by
  unfold State.scrub
  repeat' (first | with_reducible assumption | simp only [↓kept_with, ↓State.hcClear_kept, ↓State.keepColl_kept]
                 | with_reducible apply State.coreClear_stable | with_reducible apply State.scrubFill_stable
                 | with_reducible apply State.zero_stable | with_reducible refine foldl_stable (fun _ _ _ => ?_) ?_)

theorem State.scrubEnd_stable (s : State) (p : Nat) (keys : Nat) (result : Nat) (hk : P s.kept) :
    P (State.scrubEnd s p keys result).kept := by
  unfold State.scrubEnd
  repeat' (first | with_reducible assumption | simp only [↓kept_with, ↓kept_ite, ite_self, ↓State.flightForce_kept, ↓State.odSet_kept,
                 ↓State.odSetN_kept, ↓State.partGo_kept, ↓State.qGo_kept, ↓State.raise_kept, ↓State.setPart_kept, ↓State.tableEnds_kept]
                 | with_reducible apply State.complete_stable | with_reducible apply State.create_stable
                 | with_reducible refine foldl_stable (fun _ _ _ => ?_) ?_ | split)

theorem State.stepFour_stable (s : State) (hk : P s.kept) :
    P (State.stepFour s).kept := by
  unfold State.stepFour
  repeat' (first | with_reducible assumption | simp only [↓kept_with, ↓kept_ite, ite_self, ↓State.bandStart_kept, ↓State.bringupMarch_kept,
                 ↓State.lifeSet_kept, ↓State.linkDetect_kept, ↓State.linksProgress_kept, ↓State.storeCause_kept]
                 | with_reducible apply State.applyMarks_stable | with_reducible refine foldl_stable (fun _ _ _ => ?_) ?_ | split)

theorem State.switchFreq_stable (s : State) (f : Nat) (hk : P s.kept) :
    P (State.switchFreq s f).kept := by
  unfold State.switchFreq
  repeat' (first | with_reducible assumption | simp only [↓kept_with, ↓State.pulse_kept] | with_reducible apply State.faultReset_stable
                 | with_reducible refine foldl_stable (fun _ _ _ => ?_) ?_)

theorem spadWrite_stable (n : Nat) (s : State) (x2 : List (Nat × List Byte)) (hk : P s.kept) :
    P (spadWrite n s x2).1.kept := by
  induction x2 generalizing s with
  | nil => exact hk
  | cons e l ih =>
    simp only [spadWrite]
    split
    · exact ih _ (State.wr_stable _ _ _ hk)
    · exact State.wr_stable _ _ _ hk

theorem State.tFinish_stable (s : State) (n : Nat) (q : QOp) (hk : P s.kept) :
    P (State.tFinish s n q).kept := by
  unfold State.tFinish
  repeat' (first | with_reducible assumption | simp only [↓kept_ite, ite_self, ↓State.asyncFault_kept, ↓State.progressed_kept,
                 ↓State.releaseCore_kept, ↓State.setCore_kept, ↓State.setPart_kept, ↓State.signalCE_kept]
                 | with_reducible apply spadWrite_stable)

theorem State.unsealSegs_stable (s : State) (u : Unseal) (key : List Byte) (h : List Byte) (len : Nat) (x5 : Nat) (x6 : Nat)
    (hk : P s.kept) :
    P (State.unsealSegs s u key h len x5 x6).2.kept := by
  induction x5 generalizing s x6 with
  | zero => rw [State.unsealSegs]; exact hk
  | succ k ih =>
    rw [State.unsealSegs]
    split
    · exact hk
    · exact ih _ _ (State.put_stable s _ _ hk)

theorem State.unsealRun_stable (s : State) (u : Unseal) (hk : P s.kept) :
    P (State.unsealRun s u).2.2.kept := by
  unfold State.unsealRun
  have hs : ∀ key h len k i, P (s.unsealSegs u key h len k i).2.kept := fun key h len k i =>
    State.unsealSegs_stable s u key h len k i hk
  simp only []
  repeat' (first | with_reducible exact hk | split)
  · rename_i e
    exact (congrArg (fun r => P r.2.kept) e).mp (hs _ _ _ _ _)
  · rename_i e
    exact State.put_stable _ _ _ ((congrArg (fun r => P r.2.kept) e).mp (hs _ _ _ _ _))

theorem State.vFinish_stable (s : State) (n : Nat) (q : QOp) (hk : P s.kept) :
    P (State.vFinish s n q).kept := by
  unfold State.vFinish
  repeat' (first | with_reducible assumption | simp only [↓kept_ite, ite_self, ↓State.progressed_kept, ↓State.releaseCore_kept,
                 ↓State.setCore_kept, ↓State.setPart_kept, ↓State.signalCE_kept] | with_reducible apply State.wr_stable
                 | with_reducible refine foldl_stable (fun _ _ _ => ?_) ?_)

theorem State.windowPut_stable (s : State) (ecc : Ecc) (a : Nat) (bs : List Byte) (hk : P s.kept) :
    P (State.windowPut s ecc a bs).kept := by
  unfold State.windowPut
  repeat' (first | with_reducible assumption | simp only [↓kept_ite, ite_self, ↓State.corrected_kept, ↓State.eccSeen_kept,
                 ↓State.freeVal_kept, ↓State.odInc_kept, ↓State.spoil_kept] | with_reducible apply State.put_stable
                 | with_reducible refine foldl_stable (fun _ _ _ => ?_) ?_ | split)

end
end Sys2Proof.Machine

/-! SUPPORT. A command's effect is a next state, and that state has what P says of the queue and the memories where the state before it does. -/
namespace Sys2Proof.Machine

/-- The outcome is a next state, whose queue and memories have `P`. -/
def Runs (P : Kept → Prop) (o : Host.Outcome State Fault Refusal) : Prop := ∃ t, o = .next t ∧ P t.kept

section
variable {P : Kept → Prop} {s : State}

theorem runs_next {t : State} (h : P t.kept) : Runs P (.next t) := ⟨t, rfl, h⟩
theorem runs_ite {c : Prop} [Decidable c] {a b : Host.Outcome State Fault Refusal} (h : Runs P a) (g : Runs P b) :
    Runs P (if c then a else b) := by
  split <;> assumption

theorem take_stable {q : Pkt → Bool} {p : Pkt} {t : State} (h : s.take q = some (p, t)) (hk : P s.kept) : P t.kept := by
  unfold State.take at h
  split at h
  · cases h
  · cases h; exact hk

theorem takeCtl_stable {n code : Nat} {m : List Byte} {t : State} (h : s.takeCtl n code = some (m, t)) (hk : P s.kept) :
    P t.kept := by
  unfold State.takeCtl at h
  split at h
  · split at h
    · cases h; exact hk
    · cases h
  · cases h

theorem unseal_stable {p q : Pkt} {t : State} (h : s.unseal p = .ok (q, t)) (hk : P s.kept) : P t.kept := by
  unfold State.unseal at h
  split at h
  · cases h; rw [State.keyCached_kept]; exact hk
  · cases h

theorem unseal_error_stable {p : Pkt} {t : State} (h : s.unseal p = .error t) (hk : P s.kept) : P t.kept := by
  unfold State.unseal at h
  split at h
  · cases h
  · cases h; exact hk

/-- The same of what an arrival leaves. -/
def OnArr (P : Kept → Prop) : Arr → Prop
  | .none => True
  | .done t => P t.kept
  | .act _ _ t => P t.kept

theorem onArr_ite {c : Prop} [Decidable c] {a b : Arr} (h : OnArr P a) (g : OnArr P b) : OnArr P (if c then a else b) := by
  split <;> assumption

theorem arrive_stable {q : Pkt → Bool} (hk : P s.kept) : OnArr P (s.arrive q) := by
  unfold State.arrive
  split
  · exact True.intro
  next p t ht =>
    have ht := take_stable ht hk
    have hi : ∀ u x y, P u.kept → P (State.odInc u x y).kept := fun u x y hu => (State.odInc_kept u x y).symm ▸ hu
    have ho : P (t.odApply 0x6010 (p.dpart + 1)).kept := (State.odApply_kept t _ _).symm ▸ ht
    refine onArr_ite (hi _ _ _ ho) (onArr_ite ?_ ?_)
    · exact (congrArg P (State.inject_kept _ _)).mpr ho
    · split
      next u hu => exact unseal_error_stable hu ho
      next p u hu =>
        have hu := unseal_stable hu ho
        split
        · refine onArr_ite ?_ hu
          exact (congrArg P (State.inject_kept _ _)).mpr (hi _ _ _ hu)
        · refine onArr_ite (hi _ _ _ hu) ?_
          split
          · exact onArr_ite hu ((congrArg P (State.answer_kept _ _ _)).mpr hu)
          · exact onArr_ite (hi _ _ _ hu) hu

theorem issue_runs {n : Fin 288} {grp op : Nat} {f : Nat → Word → State} (hk : P s.kept) (hf : ∀ k w, P (f k w).kept) :
    Runs P (issue s n grp op f) := by
  unfold issue
  split
  · exact runs_next hk
  · refine runs_ite (runs_ite (runs_next ?_) (runs_ite (runs_next hk) (runs_next (hf _ _)))) (runs_ite (runs_next ?_) (runs_next hk))
    · rw [State.syncFault_kept]; exact hk
    · rw [State.syncFault_kept]; exact hk

theorem onFn_runs {fn : Nat} {f : State} (hk : P s.kept) (hf : P f.kept) : Runs P (onFn s fn f) := runs_ite (runs_next hf) (runs_next hk)

theorem inSession_runs {fn session : Nat} {f : State} (hk : P s.kept) (hf : P f.kept) : Runs P (inSession s fn session f) := by
  refine onFn_runs hk ?_
  rw [kept_ite, State.spdmError_kept]
  split <;> assumption

theorem negotiated_runs {fn : Nat} {f : State} (hk : P s.kept) (hf : P f.kept) : Runs P (negotiated s fn f) := by
  refine onFn_runs hk ?_
  rw [kept_ite, State.spdmError_kept]
  split <;> assumption

theorem tdisp_runs {p session : Nat} {f : State} (hk : P s.kept) (hf : P f.kept) : Runs P (tdisp s p session f) := by
  refine onFn_runs hk ?_
  simp only [kept_ite, State.doe_kept]
  split
  · exact hk
  · split <;> assumption

theorem descRow_runs {t : Nat} {f : Nat → Nat → State} (hk : P s.kept) (hf : ∀ q d, P (f q d).kept) : Runs P (descRow s t f) := by
  unfold descRow
  split
  · exact runs_next hk
  · split
    · exact runs_next hk
    · exact runs_ite (runs_next (hf _ _)) (runs_next hk)

theorem serve_runs {q : Pkt → Bool} {f : Pkt → Bool → State → Except (Nat × Acc) State} (hk : P s.kept)
    (hf : ∀ p again t, P t.kept → OnE P (f p again t)) : Runs P (serve s q f) := by
  have ha := arrive_stable (q := q) hk
  unfold serve
  split
  · exact runs_next hk
  · split
    · exact runs_next hk
    next t ht =>
      rw [ht] at ha
      exact runs_next ((State.begunGone_kept _ _).symm ▸ ha)
    next p again t ht =>
      rw [ht] at ha
      have hf := hf p again t ha
      split
      next u hu => rw [hu] at hf; exact runs_next ((State.begunGone_kept _ _).symm ▸ hf)
      · refine runs_next ?_
        rw [State.begin_kept, State.noteAcc_kept]; exact hk

theorem colRow_runs {phase : Nat} {f : Pkt → Coll → State → Except (Nat × Acc) State} (hk : P s.kept)
    (hf : ∀ p c t, P t.kept → OnE P (f p c t)) : Runs P (colRow s phase f) := by
  refine serve_runs hk (fun p _ t ht => ?_)
  have ha : ∀ r, P (t.answer p r).kept := fun r => (State.answer_kept t p r).symm ▸ ht
  split
  · exact ha _
  · split
    · exact ha _
    · exact onE_ite (ha _) (hf _ _ _ ht)

theorem epRow_runs {kind : Nat → Bool} {f : Pkt → State → Option State} (hk : P s.kept)
    (hf : ∀ p t, P t.kept → OnO P (f p t)) : Runs P (epRow s kind f) := by
  refine serve_runs hk (fun p _ t ht => ?_)
  have ha : ∀ u r, P u.kept → P (State.answer u p r).kept := fun u r hu => (State.answer_kept u p r).symm ▸ hu
  have hi : ∀ u x y, P u.kept → P (State.odInc u x y).kept := fun u x y hu => (State.odInc_kept u x y).symm ▸ hu
  refine onE_ite (ha _ _ ht) (onE_ite (ha _ _ (hi _ _ _ ht)) ?_)
  have hf := hf p t ht
  split
  next u hu =>
    rw [hu] at hf
    rw [onE_ok, State.ledgerSettings_kept]
    exact ha _ _ hf
  · exact ha _ _ (hi _ _ _ ht)

theorem paceRow_runs {q : Pkt → Bool} {f : Pkt → State → State} (hk : P s.kept)
    (hf : ∀ p t, P t.kept → P (f p t).kept) : Runs P (paceRow s q f) := by
  refine serve_runs hk (fun p _ t ht => ?_)
  have ha : ∀ u r, P u.kept → P (State.answer u p r).kept := fun u r hu => (State.answer_kept u p r).symm ▸ hu
  split
  · exact ha _ _ ht
  · exact onE_ite (ha _ _ ((State.odInc_kept t _ _).symm ▸ ht)) (hf _ _ (ha _ _ ht))

theorem replyRow_runs {op : Nat} {f : Pkt → Req → State → Except (Nat × Acc) State} (hk : P s.kept)
    (hf : ∀ p r t, P t.kept → OnE P (f p r t)) : Runs P (replyRow s op f) := by
  unfold replyRow
  split
  · exact runs_next hk
  next p t ht =>
    have ht := take_stable ht hk
    split
    next u hu => exact runs_next (unseal_error_stable hu ht)
    next p u hu =>
      have hu := unseal_stable hu ht
      split
      · exact runs_next ((State.stray_kept u p).symm ▸ hu)
      next r _ =>
        have he : P (u.echo p).kept := (State.echo_kept u p).symm ▸ hu
        refine runs_ite (runs_next ?_) (runs_next (orHeld_stable hk (hf _ _ _ he)))
        rw [State.odInc_kept, State.reqGone_kept]; exact he

theorem execNop_runs (core : Fin 288) (hk : P s.kept) : Runs P (execNop core s) := by
  unfold execNop
  repeat' (first | with_reducible assumption | with_reducible apply runs_next | with_reducible apply runs_ite
                 | with_reducible refine issue_runs ‹_› (fun _ _ => ?_) | simp only [↓State.retire_kept])
theorem execEndOp_runs (core : Fin 288) (hk : P s.kept) : Runs P (execEndOp core s) := by
  unfold execEndOp
  repeat' (first | with_reducible assumption | with_reducible apply runs_next | with_reducible apply runs_ite
                 | with_reducible refine issue_runs ‹_› (fun _ _ => ?_) | simp only [↓State.progressed_kept, ↓State.setCore_kept])
theorem execYield_runs (core : Fin 288) (hk : P s.kept) : Runs P (execYield core s) := by
  unfold execYield
  repeat' (first | with_reducible assumption | with_reducible apply runs_next | with_reducible apply runs_ite
                 | with_reducible refine issue_runs ‹_› (fun _ _ => ?_) | simp only [↓kept_ite, ite_self, ↓State.leave_kept,
                 ↓State.retire_kept, ↓State.setCore_kept])
theorem execLi_runs (core : Fin 288) (hk : P s.kept) : Runs P (execLi core s) := by
  unfold execLi
  repeat' (first | with_reducible assumption | with_reducible apply runs_next | with_reducible apply runs_ite
                 | with_reducible refine issue_runs ‹_› (fun _ _ => ?_) | simp only [↓State.alu_kept])
theorem execLih_runs (core : Fin 288) (hk : P s.kept) : Runs P (execLih core s) := by
  unfold execLih
  repeat' (first | with_reducible assumption | with_reducible apply runs_next | with_reducible apply runs_ite
                 | with_reducible refine issue_runs ‹_› (fun _ _ => ?_) | simp only [↓State.alu_kept])
theorem execAdd_runs (core : Fin 288) (hk : P s.kept) : Runs P (execAdd core s) := by
  unfold execAdd
  repeat' (first | with_reducible assumption | with_reducible apply runs_next | with_reducible apply runs_ite
                 | with_reducible refine issue_runs ‹_› (fun _ _ => ?_) | simp only [↓State.alu_kept])
theorem execSub_runs (core : Fin 288) (hk : P s.kept) : Runs P (execSub core s) := by
  unfold execSub
  repeat' (first | with_reducible assumption | with_reducible apply runs_next | with_reducible apply runs_ite
                 | with_reducible refine issue_runs ‹_› (fun _ _ => ?_) | simp only [↓State.alu_kept])
theorem execMul_runs (core : Fin 288) (hk : P s.kept) : Runs P (execMul core s) := by
  unfold execMul
  repeat' (first | with_reducible assumption | with_reducible apply runs_next | with_reducible apply runs_ite
                 | with_reducible refine issue_runs ‹_› (fun _ _ => ?_) | simp only [↓State.alu_kept])
theorem execAnd_runs (core : Fin 288) (hk : P s.kept) : Runs P (execAnd core s) := by
  unfold execAnd
  repeat' (first | with_reducible assumption | with_reducible apply runs_next | with_reducible apply runs_ite
                 | with_reducible refine issue_runs ‹_› (fun _ _ => ?_) | simp only [↓State.alu_kept])
theorem execOr_runs (core : Fin 288) (hk : P s.kept) : Runs P (execOr core s) := by
  unfold execOr
  repeat' (first | with_reducible assumption | with_reducible apply runs_next | with_reducible apply runs_ite
                 | with_reducible refine issue_runs ‹_› (fun _ _ => ?_) | simp only [↓State.alu_kept])
theorem execXor_runs (core : Fin 288) (hk : P s.kept) : Runs P (execXor core s) := by
  unfold execXor
  repeat' (first | with_reducible assumption | with_reducible apply runs_next | with_reducible apply runs_ite
                 | with_reducible refine issue_runs ‹_› (fun _ _ => ?_) | simp only [↓State.alu_kept])
theorem execShl_runs (core : Fin 288) (hk : P s.kept) : Runs P (execShl core s) := by
  unfold execShl
  repeat' (first | with_reducible assumption | with_reducible apply runs_next | with_reducible apply runs_ite
                 | with_reducible refine issue_runs ‹_› (fun _ _ => ?_) | simp only [↓State.alu_kept])
theorem execShr_runs (core : Fin 288) (hk : P s.kept) : Runs P (execShr core s) := by
  unfold execShr
  repeat' (first | with_reducible assumption | with_reducible apply runs_next | with_reducible apply runs_ite
                 | with_reducible refine issue_runs ‹_› (fun _ _ => ?_) | simp only [↓State.alu_kept])
theorem execSra_runs (core : Fin 288) (hk : P s.kept) : Runs P (execSra core s) := by
  unfold execSra
  repeat' (first | with_reducible assumption | with_reducible apply runs_next | with_reducible apply runs_ite
                 | with_reducible refine issue_runs ‹_› (fun _ _ => ?_) | simp only [↓State.alu_kept])
theorem execSlt_runs (core : Fin 288) (hk : P s.kept) : Runs P (execSlt core s) := by
  unfold execSlt
  repeat' (first | with_reducible assumption | with_reducible apply runs_next | with_reducible apply runs_ite
                 | with_reducible refine issue_runs ‹_› (fun _ _ => ?_) | simp only [↓State.alu_kept])
theorem execSltu_runs (core : Fin 288) (hk : P s.kept) : Runs P (execSltu core s) := by
  unfold execSltu
  repeat' (first | with_reducible assumption | with_reducible apply runs_next | with_reducible apply runs_ite
                 | with_reducible refine issue_runs ‹_› (fun _ _ => ?_) | simp only [↓State.alu_kept])
theorem execLds_runs (core : Fin 288) (hk : P s.kept) : Runs P (execLds core s) := by
  unfold execLds
  repeat' (first | with_reducible assumption | with_reducible apply runs_next | with_reducible apply runs_ite
                 | with_reducible refine issue_runs ‹_› (fun _ _ => ?_) | simp only [↓kept_ite, ite_self, ↓State.retire_kept,
                 ↓State.setCore_kept, ↓State.syncFault_kept])
theorem execSts_runs (core : Fin 288) (hk : P s.kept) : Runs P (execSts core s) := by
  unfold execSts
  repeat' (first | with_reducible assumption | with_reducible apply runs_next | with_reducible apply runs_ite
                 | with_reducible refine issue_runs ‹_› (fun _ _ => ?_) | simp only [↓kept_ite, ite_self, ↓State.retire_kept,
                 ↓State.setCore_kept, ↓State.syncFault_kept])
theorem execBeq_runs (core : Fin 288) (hk : P s.kept) : Runs P (execBeq core s) := by
  unfold execBeq
  repeat' (first | with_reducible assumption | with_reducible apply runs_next | with_reducible apply runs_ite
                 | with_reducible refine issue_runs ‹_› (fun _ _ => ?_) | simp only [↓State.branch_kept])
theorem execBne_runs (core : Fin 288) (hk : P s.kept) : Runs P (execBne core s) := by
  unfold execBne
  repeat' (first | with_reducible assumption | with_reducible apply runs_next | with_reducible apply runs_ite
                 | with_reducible refine issue_runs ‹_› (fun _ _ => ?_) | simp only [↓State.branch_kept])
theorem execBlt_runs (core : Fin 288) (hk : P s.kept) : Runs P (execBlt core s) := by
  unfold execBlt
  repeat' (first | with_reducible assumption | with_reducible apply runs_next | with_reducible apply runs_ite
                 | with_reducible refine issue_runs ‹_› (fun _ _ => ?_) | simp only [↓State.branch_kept])
theorem execBge_runs (core : Fin 288) (hk : P s.kept) : Runs P (execBge core s) := by
  unfold execBge
  repeat' (first | with_reducible assumption | with_reducible apply runs_next | with_reducible apply runs_ite
                 | with_reducible refine issue_runs ‹_› (fun _ _ => ?_) | simp only [↓State.branch_kept])
theorem execBltu_runs (core : Fin 288) (hk : P s.kept) : Runs P (execBltu core s) := by
  unfold execBltu
  repeat' (first | with_reducible assumption | with_reducible apply runs_next | with_reducible apply runs_ite
                 | with_reducible refine issue_runs ‹_› (fun _ _ => ?_) | simp only [↓State.branch_kept])
theorem execBgeu_runs (core : Fin 288) (hk : P s.kept) : Runs P (execBgeu core s) := by
  unfold execBgeu
  repeat' (first | with_reducible assumption | with_reducible apply runs_next | with_reducible apply runs_ite
                 | with_reducible refine issue_runs ‹_› (fun _ _ => ?_) | simp only [↓State.branch_kept])
theorem execJal_runs (core : Fin 288) (hk : P s.kept) : Runs P (execJal core s) := by
  unfold execJal
  repeat' (first | with_reducible assumption | with_reducible apply runs_next | with_reducible apply runs_ite
                 | with_reducible refine issue_runs ‹_› (fun _ _ => ?_) | simp only [↓State.goto_kept, ↓State.putS_kept])
theorem execJr_runs (core : Fin 288) (hk : P s.kept) : Runs P (execJr core s) := by
  unfold execJr
  repeat' (first | with_reducible assumption | with_reducible apply runs_next | with_reducible apply runs_ite
                 | with_reducible refine issue_runs ‹_› (fun _ _ => ?_) | simp only [↓State.goto_kept])
theorem execLoop_runs (core : Fin 288) (hk : P s.kept) : Runs P (execLoop core s) := by
  unfold execLoop
  repeat' (first | with_reducible assumption | with_reducible apply runs_next | with_reducible apply runs_ite
                 | with_reducible refine issue_runs ‹_› (fun _ _ => ?_) | simp only [↓State.branch_kept, ↓State.putS_kept])
theorem execWait_runs (core : Fin 288) (hk : P s.kept) : Runs P (execWait core s) := by
  unfold execWait
  repeat' (first | with_reducible assumption | with_reducible apply runs_next | with_reducible apply runs_ite
                 | with_reducible refine issue_runs ‹_› (fun _ _ => ?_) | simp only [↓kept_ite, ite_self, ↓State.leave_kept,
                 ↓State.retire_kept, ↓State.setCore_kept])
theorem execSig_runs (core : Fin 288) (hk : P s.kept) : Runs P (execSig core s) := by
  unfold execSig
  repeat' (first | with_reducible assumption | with_reducible apply runs_next | with_reducible apply runs_ite
                 | with_reducible refine issue_runs ‹_› (fun _ _ => ?_) | simp only [↓State.addCnt_kept, ↓State.retire_kept])
theorem execCset_runs (core : Fin 288) (hk : P s.kept) : Runs P (execCset core s) := by
  unfold execCset
  repeat' (first | with_reducible assumption | with_reducible apply runs_next | with_reducible apply runs_ite
                 | with_reducible refine issue_runs ‹_› (fun _ _ => ?_) | simp only [↓State.retire_kept, ↓State.setCnt_kept])
theorem execCrd_runs (core : Fin 288) (hk : P s.kept) : Runs P (execCrd core s) := by
  unfold execCrd
  repeat' (first | with_reducible assumption | with_reducible apply runs_next | with_reducible apply runs_ite
                 | with_reducible refine issue_runs ‹_› (fun _ _ => ?_) | simp only [↓State.alu_kept])
theorem execFence_runs (core : Fin 288) (hk : P s.kept) : Runs P (execFence core s) := by
  unfold execFence
  repeat' (first | with_reducible assumption | with_reducible apply runs_next | with_reducible apply runs_ite
                 | with_reducible refine issue_runs ‹_› (fun _ _ => ?_) | simp only [↓kept_ite, ite_self, ↓State.leave_kept,
                 ↓State.retire_kept, ↓State.setCore_kept])
theorem execCid_runs (core : Fin 288) (hk : P s.kept) : Runs P (execCid core s) := by
  unfold execCid
  repeat' (first | with_reducible assumption | with_reducible apply runs_next | with_reducible apply runs_ite
                 | with_reducible refine issue_runs ‹_› (fun _ _ => ?_) | simp only [↓State.alu_kept])
theorem execTime_runs (core : Fin 288) (hk : P s.kept) : Runs P (execTime core s) := by
  unfold execTime
  repeat' (first | with_reducible assumption | with_reducible apply runs_next | with_reducible apply runs_ite
                 | with_reducible refine issue_runs ‹_› (fun _ _ => ?_) | simp only [↓State.alu_kept])
theorem execTdl_runs (core : Fin 288) (hk : P s.kept) : Runs P (execTdl core s) := by
  unfold execTdl
  repeat' (first | with_reducible assumption | with_reducible apply runs_next | with_reducible apply runs_ite
                 | with_reducible refine issue_runs ‹_› (fun _ _ => ?_) | simp only [↓kept_ite, ite_self, ↓State.syncFault_kept,
                 ↓State.tPush_kept])
theorem execTadv_runs (core : Fin 288) (hk : P s.kept) : Runs P (execTadv core s) := by
  unfold execTadv
  repeat' (first | with_reducible assumption | with_reducible apply runs_next | with_reducible apply runs_ite
                 | with_reducible refine issue_runs ‹_› (fun _ _ => ?_) | simp only [↓State.tPush_kept])
theorem execTzero_runs (core : Fin 288) (hk : P s.kept) : Runs P (execTzero core s) := by
  unfold execTzero
  repeat' (first | with_reducible assumption | with_reducible apply runs_next | with_reducible apply runs_ite
                 | with_reducible refine issue_runs ‹_› (fun _ _ => ?_) | simp only [↓State.tPush_kept])
theorem execTldacc_runs (core : Fin 288) (hk : P s.kept) : Runs P (execTldacc core s) := by
  unfold execTldacc
  repeat' (first | with_reducible assumption | with_reducible apply runs_next | with_reducible apply runs_ite
                 | with_reducible refine issue_runs ‹_› (fun _ _ => ?_) | simp only [↓State.tPush_kept])
theorem execTstacc_runs (core : Fin 288) (hk : P s.kept) : Runs P (execTstacc core s) := by
  unfold execTstacc
  repeat' (first | with_reducible assumption | with_reducible apply runs_next | with_reducible apply runs_ite
                 | with_reducible refine issue_runs ‹_› (fun _ _ => ?_) | simp only [↓State.tPush_kept])
theorem execMmaFp4_runs (core : Fin 288) (hk : P s.kept) : Runs P (execMmaFp4 core s) := by
  unfold execMmaFp4
  repeat' (first | with_reducible assumption | with_reducible apply runs_next | with_reducible apply runs_ite
                 | with_reducible refine issue_runs ‹_› (fun _ _ => ?_) | simp only [↓State.tPush_kept])
theorem execMmaFp8_runs (core : Fin 288) (hk : P s.kept) : Runs P (execMmaFp8 core s) := by
  unfold execMmaFp8
  repeat' (first | with_reducible assumption | with_reducible apply runs_next | with_reducible apply runs_ite
                 | with_reducible refine issue_runs ‹_› (fun _ _ => ?_) | simp only [↓State.tPush_kept])
theorem execMmaF16_runs (core : Fin 288) (hk : P s.kept) : Runs P (execMmaF16 core s) := by
  unfold execMmaF16
  repeat' (first | with_reducible assumption | with_reducible apply runs_next | with_reducible apply runs_ite
                 | with_reducible refine issue_runs ‹_› (fun _ _ => ?_) | simp only [↓State.tPush_kept])
theorem execMmaFp32_runs (core : Fin 288) (hk : P s.kept) : Runs P (execMmaFp32 core s) := by
  unfold execMmaFp32
  repeat' (first | with_reducible assumption | with_reducible apply runs_next | with_reducible apply runs_ite
                 | with_reducible refine issue_runs ‹_› (fun _ _ => ?_) | simp only [↓State.tPush_kept])
theorem execMmaInt8_runs (core : Fin 288) (hk : P s.kept) : Runs P (execMmaInt8 core s) := by
  unfold execMmaInt8
  repeat' (first | with_reducible assumption | with_reducible apply runs_next | with_reducible apply runs_ite
                 | with_reducible refine issue_runs ‹_› (fun _ _ => ?_) | simp only [↓State.tPush_kept])
theorem execTOpStart_runs (core : Fin 288) (hk : P s.kept) : Runs P (execTOpStart core s) := by
  unfold execTOpStart
  repeat' (first | with_reducible assumption | with_reducible apply runs_next | with_reducible apply runs_ite
                 | simp only [↓State.asyncFault_kept, ↓State.releaseCore_kept, ↓State.setCore_kept] | split)
theorem execVld_runs (core : Fin 288) (hk : P s.kept) : Runs P (execVld core s) := by
  unfold execVld
  repeat' (first | with_reducible assumption | with_reducible apply runs_next | with_reducible apply runs_ite
                 | with_reducible refine issue_runs ‹_› (fun _ _ => ?_) | simp only [↓State.vPush_kept])
theorem execVlds_runs (core : Fin 288) (hk : P s.kept) : Runs P (execVlds core s) := by
  unfold execVlds
  repeat' (first | with_reducible assumption | with_reducible apply runs_next | with_reducible apply runs_ite
                 | with_reducible refine issue_runs ‹_› (fun _ _ => ?_) | simp only [↓State.vPush_kept])
theorem execVst_runs (core : Fin 288) (hk : P s.kept) : Runs P (execVst core s) := by
  unfold execVst
  repeat' (first | with_reducible assumption | with_reducible apply runs_next | with_reducible apply runs_ite
                 | with_reducible refine issue_runs ‹_› (fun _ _ => ?_) | simp only [↓State.vPush_kept])
theorem execVsts_runs (core : Fin 288) (hk : P s.kept) : Runs P (execVsts core s) := by
  unfold execVsts
  repeat' (first | with_reducible assumption | with_reducible apply runs_next | with_reducible apply runs_ite
                 | with_reducible refine issue_runs ‹_› (fun _ _ => ?_) | simp only [↓State.vPush_kept])
theorem execVgath_runs (core : Fin 288) (hk : P s.kept) : Runs P (execVgath core s) := by
  unfold execVgath
  repeat' (first | with_reducible assumption | with_reducible apply runs_next | with_reducible apply runs_ite
                 | with_reducible refine issue_runs ‹_› (fun _ _ => ?_) | simp only [↓State.vPush_kept])
theorem execVscat_runs (core : Fin 288) (hk : P s.kept) : Runs P (execVscat core s) := by
  unfold execVscat
  repeat' (first | with_reducible assumption | with_reducible apply runs_next | with_reducible apply runs_ite
                 | with_reducible refine issue_runs ‹_› (fun _ _ => ?_) | simp only [↓State.vPush_kept])
theorem execVscadd_runs (core : Fin 288) (hk : P s.kept) : Runs P (execVscadd core s) := by
  unfold execVscadd
  repeat' (first | with_reducible assumption | with_reducible apply runs_next | with_reducible apply runs_ite
                 | with_reducible refine issue_runs ‹_› (fun _ _ => ?_) | simp only [↓State.vPush_kept])
theorem execVbcs_runs (core : Fin 288) (hk : P s.kept) : Runs P (execVbcs core s) := by
  unfold execVbcs
  repeat' (first | with_reducible assumption | with_reducible apply runs_next | with_reducible apply runs_ite
                 | with_reducible refine issue_runs ‹_› (fun _ _ => ?_) | simp only [↓State.vPush_kept])
theorem execVlane_runs (core : Fin 288) (hk : P s.kept) : Runs P (execVlane core s) := by
  unfold execVlane
  repeat' (first | with_reducible assumption | with_reducible apply runs_next | with_reducible apply runs_ite
                 | with_reducible refine issue_runs ‹_› (fun _ _ => ?_) | simp only [↓State.vPush_kept])
theorem execViota_runs (core : Fin 288) (hk : P s.kept) : Runs P (execViota core s) := by
  unfold execViota
  repeat' (first | with_reducible assumption | with_reducible apply runs_next | with_reducible apply runs_ite
                 | with_reducible refine issue_runs ‹_› (fun _ _ => ?_) | simp only [↓State.vPush_kept])
theorem execFadd_runs (core : Fin 288) (hk : P s.kept) : Runs P (execFadd core s) := by
  unfold execFadd
  repeat' (first | with_reducible assumption | with_reducible apply runs_next | with_reducible apply runs_ite
                 | with_reducible refine issue_runs ‹_› (fun _ _ => ?_) | simp only [↓State.vPush_kept])
theorem execFsub_runs (core : Fin 288) (hk : P s.kept) : Runs P (execFsub core s) := by
  unfold execFsub
  repeat' (first | with_reducible assumption | with_reducible apply runs_next | with_reducible apply runs_ite
                 | with_reducible refine issue_runs ‹_› (fun _ _ => ?_) | simp only [↓State.vPush_kept])
theorem execFmul_runs (core : Fin 288) (hk : P s.kept) : Runs P (execFmul core s) := by
  unfold execFmul
  repeat' (first | with_reducible assumption | with_reducible apply runs_next | with_reducible apply runs_ite
                 | with_reducible refine issue_runs ‹_› (fun _ _ => ?_) | simp only [↓State.vPush_kept])
theorem execFfma_runs (core : Fin 288) (hk : P s.kept) : Runs P (execFfma core s) := by
  unfold execFfma
  repeat' (first | with_reducible assumption | with_reducible apply runs_next | with_reducible apply runs_ite
                 | with_reducible refine issue_runs ‹_› (fun _ _ => ?_) | simp only [↓State.vPush_kept])
theorem execFmax_runs (core : Fin 288) (hk : P s.kept) : Runs P (execFmax core s) := by
  unfold execFmax
  repeat' (first | with_reducible assumption | with_reducible apply runs_next | with_reducible apply runs_ite
                 | with_reducible refine issue_runs ‹_› (fun _ _ => ?_) | simp only [↓State.vPush_kept])
theorem execFmin_runs (core : Fin 288) (hk : P s.kept) : Runs P (execFmin core s) := by
  unfold execFmin
  repeat' (first | with_reducible assumption | with_reducible apply runs_next | with_reducible apply runs_ite
                 | with_reducible refine issue_runs ‹_› (fun _ _ => ?_) | simp only [↓State.vPush_kept])
theorem execFabs_runs (core : Fin 288) (hk : P s.kept) : Runs P (execFabs core s) := by
  unfold execFabs
  repeat' (first | with_reducible assumption | with_reducible apply runs_next | with_reducible apply runs_ite
                 | with_reducible refine issue_runs ‹_› (fun _ _ => ?_) | simp only [↓State.vPush_kept])
theorem execFneg_runs (core : Fin 288) (hk : P s.kept) : Runs P (execFneg core s) := by
  unfold execFneg
  repeat' (first | with_reducible assumption | with_reducible apply runs_next | with_reducible apply runs_ite
                 | with_reducible refine issue_runs ‹_› (fun _ _ => ?_) | simp only [↓State.vPush_kept])
theorem execIadd_runs (core : Fin 288) (hk : P s.kept) : Runs P (execIadd core s) := by
  unfold execIadd
  repeat' (first | with_reducible assumption | with_reducible apply runs_next | with_reducible apply runs_ite
                 | with_reducible refine issue_runs ‹_› (fun _ _ => ?_) | simp only [↓State.vPush_kept])
theorem execIsub_runs (core : Fin 288) (hk : P s.kept) : Runs P (execIsub core s) := by
  unfold execIsub
  repeat' (first | with_reducible assumption | with_reducible apply runs_next | with_reducible apply runs_ite
                 | with_reducible refine issue_runs ‹_› (fun _ _ => ?_) | simp only [↓State.vPush_kept])
theorem execImul_runs (core : Fin 288) (hk : P s.kept) : Runs P (execImul core s) := by
  unfold execImul
  repeat' (first | with_reducible assumption | with_reducible apply runs_next | with_reducible apply runs_ite
                 | with_reducible refine issue_runs ‹_› (fun _ _ => ?_) | simp only [↓State.vPush_kept])
theorem execImax_runs (core : Fin 288) (hk : P s.kept) : Runs P (execImax core s) := by
  unfold execImax
  repeat' (first | with_reducible assumption | with_reducible apply runs_next | with_reducible apply runs_ite
                 | with_reducible refine issue_runs ‹_› (fun _ _ => ?_) | simp only [↓State.vPush_kept])
theorem execImin_runs (core : Fin 288) (hk : P s.kept) : Runs P (execImin core s) := by
  unfold execImin
  repeat' (first | with_reducible assumption | with_reducible apply runs_next | with_reducible apply runs_ite
                 | with_reducible refine issue_runs ‹_› (fun _ _ => ?_) | simp only [↓State.vPush_kept])
theorem execVand_runs (core : Fin 288) (hk : P s.kept) : Runs P (execVand core s) := by
  unfold execVand
  repeat' (first | with_reducible assumption | with_reducible apply runs_next | with_reducible apply runs_ite
                 | with_reducible refine issue_runs ‹_› (fun _ _ => ?_) | simp only [↓State.vPush_kept])
theorem execVor_runs (core : Fin 288) (hk : P s.kept) : Runs P (execVor core s) := by
  unfold execVor
  repeat' (first | with_reducible assumption | with_reducible apply runs_next | with_reducible apply runs_ite
                 | with_reducible refine issue_runs ‹_› (fun _ _ => ?_) | simp only [↓State.vPush_kept])
theorem execVxor_runs (core : Fin 288) (hk : P s.kept) : Runs P (execVxor core s) := by
  unfold execVxor
  repeat' (first | with_reducible assumption | with_reducible apply runs_next | with_reducible apply runs_ite
                 | with_reducible refine issue_runs ‹_› (fun _ _ => ?_) | simp only [↓State.vPush_kept])
theorem execVshl_runs (core : Fin 288) (hk : P s.kept) : Runs P (execVshl core s) := by
  unfold execVshl
  repeat' (first | with_reducible assumption | with_reducible apply runs_next | with_reducible apply runs_ite
                 | with_reducible refine issue_runs ‹_› (fun _ _ => ?_) | simp only [↓State.vPush_kept])
theorem execVshr_runs (core : Fin 288) (hk : P s.kept) : Runs P (execVshr core s) := by
  unfold execVshr
  repeat' (first | with_reducible assumption | with_reducible apply runs_next | with_reducible apply runs_ite
                 | with_reducible refine issue_runs ‹_› (fun _ _ => ?_) | simp only [↓State.vPush_kept])
theorem execVsra_runs (core : Fin 288) (hk : P s.kept) : Runs P (execVsra core s) := by
  unfold execVsra
  repeat' (first | with_reducible assumption | with_reducible apply runs_next | with_reducible apply runs_ite
                 | with_reducible refine issue_runs ‹_› (fun _ _ => ?_) | simp only [↓State.vPush_kept])
theorem execFcmp_runs (core : Fin 288) (hk : P s.kept) : Runs P (execFcmp core s) := by
  unfold execFcmp
  repeat' (first | with_reducible assumption | with_reducible apply runs_next | with_reducible apply runs_ite
                 | with_reducible refine issue_runs ‹_› (fun _ _ => ?_) | simp only [↓State.vPush_kept])
theorem execIcmp_runs (core : Fin 288) (hk : P s.kept) : Runs P (execIcmp core s) := by
  unfold execIcmp
  repeat' (first | with_reducible assumption | with_reducible apply runs_next | with_reducible apply runs_ite
                 | with_reducible refine issue_runs ‹_› (fun _ _ => ?_) | simp only [↓State.vPush_kept])
theorem execSel_runs (core : Fin 288) (hk : P s.kept) : Runs P (execSel core s) := by
  unfold execSel
  repeat' (first | with_reducible assumption | with_reducible apply runs_next | with_reducible apply runs_ite
                 | with_reducible refine issue_runs ‹_› (fun _ _ => ?_) | simp only [↓State.vPush_kept])
theorem execPlogic_runs (core : Fin 288) (hk : P s.kept) : Runs P (execPlogic core s) := by
  unfold execPlogic
  repeat' (first | with_reducible assumption | with_reducible apply runs_next | with_reducible apply runs_ite
                 | with_reducible refine issue_runs ‹_› (fun _ _ => ?_) | simp only [↓State.vPush_kept])
theorem execPset_runs (core : Fin 288) (hk : P s.kept) : Runs P (execPset core s) := by
  unfold execPset
  repeat' (first | with_reducible assumption | with_reducible apply runs_next | with_reducible apply runs_ite
                 | with_reducible refine issue_runs ‹_› (fun _ _ => ?_) | simp only [↓State.vPush_kept])
theorem execPget_runs (core : Fin 288) (hk : P s.kept) : Runs P (execPget core s) := by
  unfold execPget
  repeat' (first | with_reducible assumption | with_reducible apply runs_next | with_reducible apply runs_ite
                 | with_reducible refine issue_runs ‹_› (fun _ _ => ?_) | simp only [↓State.vPush_kept])
theorem execVperm_runs (core : Fin 288) (hk : P s.kept) : Runs P (execVperm core s) := by
  unfold execVperm
  repeat' (first | with_reducible assumption | with_reducible apply runs_next | with_reducible apply runs_ite
                 | with_reducible refine issue_runs ‹_› (fun _ _ => ?_) | simp only [↓State.vPush_kept])
theorem execVrot_runs (core : Fin 288) (hk : P s.kept) : Runs P (execVrot core s) := by
  unfold execVrot
  repeat' (first | with_reducible assumption | with_reducible apply runs_next | with_reducible apply runs_ite
                 | with_reducible refine issue_runs ‹_› (fun _ _ => ?_) | simp only [↓State.vPush_kept])
theorem execVred_runs (core : Fin 288) (hk : P s.kept) : Runs P (execVred core s) := by
  unfold execVred
  repeat' (first | with_reducible assumption | with_reducible apply runs_next | with_reducible apply runs_ite
                 | with_reducible refine issue_runs ‹_› (fun _ _ => ?_) | simp only [↓State.vPush_kept])
theorem execVredbx_runs (core : Fin 288) (hk : P s.kept) : Runs P (execVredbx core s) := by
  unfold execVredbx
  repeat' (first | with_reducible assumption | with_reducible apply runs_next | with_reducible apply runs_ite
                 | with_reducible refine issue_runs ‹_› (fun _ _ => ?_) | simp only [↓State.vPush_kept])
theorem execVcvt_runs (core : Fin 288) (hk : P s.kept) : Runs P (execVcvt core s) := by
  unfold execVcvt
  repeat' (first | with_reducible assumption | with_reducible apply runs_next | with_reducible apply runs_ite
                 | with_reducible refine issue_runs ‹_› (fun _ _ => ?_) | simp only [↓State.vPush_kept])
theorem execMxpk_runs (core : Fin 288) (hk : P s.kept) : Runs P (execMxpk core s) := by
  unfold execMxpk
  repeat' (first | with_reducible assumption | with_reducible apply runs_next | with_reducible apply runs_ite
                 | with_reducible refine issue_runs ‹_› (fun _ _ => ?_) | simp only [↓State.vPush_kept])
theorem execMxunpk_runs (core : Fin 288) (hk : P s.kept) : Runs P (execMxunpk core s) := by
  unfold execMxunpk
  repeat' (first | with_reducible assumption | with_reducible apply runs_next | with_reducible apply runs_ite
                 | with_reducible refine issue_runs ‹_› (fun _ _ => ?_) | simp only [↓State.vPush_kept])
theorem execBxdep_runs (core : Fin 288) (hk : P s.kept) : Runs P (execBxdep core s) := by
  unfold execBxdep
  repeat' (first | with_reducible assumption | with_reducible apply runs_next | with_reducible apply runs_ite
                 | with_reducible refine issue_runs ‹_› (fun _ _ => ?_) | simp only [↓State.vPush_kept])
theorem execBxmrg_runs (core : Fin 288) (hk : P s.kept) : Runs P (execBxmrg core s) := by
  unfold execBxmrg
  repeat' (first | with_reducible assumption | with_reducible apply runs_next | with_reducible apply runs_ite
                 | with_reducible refine issue_runs ‹_› (fun _ _ => ?_) | simp only [↓State.vPush_kept])
theorem execBxfin_runs (core : Fin 288) (hk : P s.kept) : Runs P (execBxfin core s) := by
  unfold execBxfin
  repeat' (first | with_reducible assumption | with_reducible apply runs_next | with_reducible apply runs_ite
                 | with_reducible refine issue_runs ‹_› (fun _ _ => ?_) | simp only [↓State.vPush_kept])
theorem execVfunc_runs (core : Fin 288) (hk : P s.kept) : Runs P (execVfunc core s) := by
  unfold execVfunc
  repeat' (first | with_reducible assumption | with_reducible apply runs_next | with_reducible apply runs_ite
                 | with_reducible refine issue_runs ‹_› (fun _ _ => ?_) | simp only [↓State.vPush_kept])
theorem execVOpStart_runs (core : Fin 288) (hk : P s.kept) : Runs P (execVOpStart core s) := by
  unfold execVOpStart
  repeat' (first | with_reducible assumption | with_reducible apply runs_next | with_reducible apply runs_ite
                 | simp only [↓State.asyncFault_kept, ↓State.releaseCore_kept, ↓State.setCore_kept] | split)
theorem execDispatchEntry_runs (core : Fin 288) (hk : P s.kept) : Runs P (execDispatchEntry core s) := by
  unfold execDispatchEntry
  repeat' (first | with_reducible assumption | with_reducible apply runs_next | with_reducible apply runs_ite
                 | simp only [↓State.coreEnd_kept, ↓State.setCore_kept] | split)
theorem execProgramCopyFault_runs (core : Fin 288) (slot : Fin 4) (uncorrectable : Bool) (hk : P s.kept) : Runs P
    (execProgramCopyFault core slot uncorrectable s) := by
  unfold execProgramCopyFault
  repeat' (first | with_reducible assumption | with_reducible apply runs_next | with_reducible apply runs_ite
                 | simp only [↓State.copyFault_kept, ↓State.countBad_kept, ↓State.noteAcc_kept, ↓State.readSeen_kept])
theorem execContextSwitch_runs (core : Fin 288) (hk : P s.kept) : Runs P (execContextSwitch core s) := by
  unfold execContextSwitch
  repeat' (first | with_reducible assumption | with_reducible apply runs_next | with_reducible apply runs_ite
                 | simp only [↓State.setCore_kept])
theorem execCounterChanged_runs (core : Fin 288) (hk : P s.kept) : Runs P (execCounterChanged core s) := by
  unfold execCounterChanged
  repeat' (first | with_reducible assumption | with_reducible apply runs_next | with_reducible apply runs_ite
                 | simp only [↓State.releaseCore_kept])
theorem execAsynchronousFault_runs (core : Fin 288) (slot : Fin 4) (word : Word) (code : Fin 14) (info : Addr) (hk : P s.kept) : Runs P
    (execAsynchronousFault core slot word code info s) := by
  unfold execAsynchronousFault
  repeat' (first | with_reducible assumption | with_reducible apply runs_next | with_reducible apply runs_ite
                 | simp only [↓State.abandonOp_kept, ↓State.asyncFault_kept, ↓State.releaseCore_kept])
theorem execContextDrained_runs (core : Fin 288) (slot : Fin 4) (hk : P s.kept) : Runs P (execContextDrained core slot s) := by
  unfold execContextDrained
  repeat' (first | with_reducible assumption | with_reducible apply runs_next | with_reducible apply runs_ite
                 | simp only [↓kept_ite, ite_self, ↓State.coreEnd_kept, ↓State.setCore_kept])
theorem execBankCtrlWrite_runs (core : Fin 288) (bank : Fin 32) (who : BankReq) (value : Word) (hk : P s.kept) : Runs P
    (execBankCtrlWrite core bank who value s) := by
  unfold execBankCtrlWrite
  repeat' (first | with_reducible assumption | with_reducible apply runs_next | with_reducible apply runs_ite
                 | simp only [↓State.bankWrite_kept] | split)
theorem execCollision_runs (core : Fin 288) (cls : Fin 5) (hk : P s.kept) : Runs P (execCollision core cls s) := by
  unfold execCollision
  repeat' (first | with_reducible assumption | with_reducible apply runs_next | with_reducible apply runs_ite
                 | simp only [↓State.odInc_kept, ↓State.setCore_kept])
theorem execCommittedViewRead_runs (part : Fin 16) (addr : Addr) (hk : P s.kept) : Runs P (execCommittedViewRead part addr s) := by
  unfold execCommittedViewRead
  repeat' (first | with_reducible assumption | with_reducible apply runs_next | with_reducible apply runs_ite
                 | simp only [↓State.countReach_kept, ↓State.emit_kept, ↓State.odInc_kept, ↓State.readSeen_kept] | split)
theorem execSparePairCopyDone_runs (stack : Fin 16) (hk : P s.kept) : Runs P (execSparePairCopyDone stack s) := by
  unfold execSparePairCopyDone
  repeat' (first | with_reducible assumption | with_reducible apply runs_next | with_reducible apply runs_ite
                 | simp only [↓State.spareGo_kept])
theorem execSepiaWatchdogExpiry_runs (stack : Fin 16) (hk : P s.kept) : Runs P (execSepiaWatchdogExpiry stack s) := by
  unfold execSepiaWatchdogExpiry
  repeat' (first | with_reducible assumption | with_reducible apply runs_next | with_reducible apply runs_ite
                 | simp only [↓State.engineFault_kept, ↓State.odApply_kept])
theorem execEpochColourDelivery_runs (part : Fin 16) (hk : P s.kept) : Runs P (execEpochColourDelivery part s) := by
  unfold execEpochColourDelivery
  repeat' (first | with_reducible assumption | with_reducible apply runs_next | with_reducible apply runs_ite
                 | simp only [↓kept_with, ↓kept_ite, ite_self, ↓State.coCollect_kept, ↓State.epCause_kept, ↓State.epGo_kept,
                 ↓State.odSetN_kept, ↓State.pulse_kept, ↓State.setEp_kept, ↓State.toChildren_kept, ↓State.unitEnd_kept] | split)
theorem execEpochDecisionDelivery_runs (part : Fin 16) (hk : P s.kept) : Runs P (execEpochDecisionDelivery part s) := by
  unfold execEpochDecisionDelivery
  repeat' (first | with_reducible assumption | with_reducible apply runs_next | with_reducible apply runs_ite
                 | simp only [↓kept_with, ↓State.colourStart_kept, ↓State.odSetN_kept] | split)
theorem execSweepEnd_runs (stack part : Fin 16) (hk : P s.kept) : Runs P (execSweepEnd stack part s) := by
  unfold execSweepEnd
  repeat' (first | with_reducible assumption | with_reducible apply runs_next | with_reducible apply runs_ite
                 | simp only [↓kept_with, ↓State.colourStart_kept, ↓State.ledgerSettings_kept, ↓State.showLedger_kept,
                 ↓State.stillFull_kept] | with_reducible refine foldl_stable (fun _ _ ht => ?_) ?_ | split)
theorem execDoorbell_runs (fn : Fin 17) (queue : Fin 1024) (value : Word) (hk : P s.kept) : Runs P (execDoorbell fn queue value s) := by
  unfold execDoorbell
  repeat' (first | with_reducible assumption | with_reducible apply runs_next | with_reducible apply runs_ite
                 | simp only [↓State.doorbell_kept])
theorem execQueueEnable_runs (fn : Fin 17) (queue : Fin 1024) (value : Word) (hk : P s.kept) : Runs P
    (execQueueEnable fn queue value s) := by
  unfold execQueueEnable
  repeat' (first | with_reducible assumption | with_reducible apply runs_next | with_reducible apply runs_ite
                 | simp only [↓State.writeCtrl_kept])
theorem execQueueClose_runs (fn : Fin 17) (queue : Fin 1024) (value : Word) (hk : P s.kept) : Runs P (execQueueClose fn queue value s) := by
  unfold execQueueClose
  repeat' (first | with_reducible assumption | with_reducible apply runs_next | with_reducible apply runs_ite
                 | simp only [↓State.writeCtrl_kept])
theorem execQueueConfigWrite_runs (fn : Fin 17) (queue : Fin 1024) (reg : Fin 3) (value : Word) (hk : P s.kept) : Runs P
    (execQueueConfigWrite fn queue reg value s) := by
  unfold execQueueConfigWrite
  repeat' (first | with_reducible assumption | with_reducible apply runs_next | with_reducible apply runs_ite
                 | simp only [↓State.writeCtrl_kept, ↓State.writeRing_kept])
theorem execCqhIndexWrite_runs (fn : Fin 17) (queue : Fin 1024) (value : Word) (hk : P s.kept) : Runs P
    (execCqhIndexWrite fn queue value s) := by
  unfold execCqhIndexWrite
  repeat' (first | with_reducible assumption | with_reducible apply runs_next | with_reducible apply runs_ite
                 | simp only [↓State.writeCqh_kept])
theorem execAbiReqWrite_runs (fn : Fin 17) (value : Word) (hk : P s.kept) : Runs P (execAbiReqWrite fn value s) := by
  unfold execAbiReqWrite
  repeat' (first | with_reducible assumption | with_reducible apply runs_next | with_reducible apply runs_ite
                 | with_reducible apply onFn_runs | simp only [↓State.writeAbi_kept])
theorem execFnEventClear_runs (fn : Fin 17) (value : Word) (hk : P s.kept) : Runs P (execFnEventClear fn value s) := by
  unfold execFnEventClear
  repeat' (first | with_reducible assumption | with_reducible apply runs_next | with_reducible apply runs_ite
                 | with_reducible apply onFn_runs | simp only [↓State.clearEvents_kept])
theorem execFnWinWrite_runs (fn : Fin 17) (win : Fin 2) (value : Word) (hk : P s.kept) : Runs P (execFnWinWrite fn win value s) := by
  unfold execFnWinWrite
  repeat' (first | with_reducible assumption | with_reducible apply runs_next | with_reducible apply runs_ite
                 | with_reducible apply onFn_runs | simp only [↓State.writeWin_kept])
theorem execHcntValueWrite_runs (fn : Fin 17) (part : Fin 16) (cnt : Fin 512) (value : Word) (hk : P s.kept) : Runs P
    (execHcntValueWrite fn part cnt value s) := by
  unfold execHcntValueWrite
  repeat' (first | with_reducible assumption | with_reducible apply runs_next | with_reducible apply runs_ite
                 | simp only [↓State.hcSet_kept])
theorem execHcntThreshWrite_runs (fn : Fin 17) (part : Fin 16) (cnt : Fin 512) (value : Word) (hk : P s.kept) : Runs P
    (execHcntThreshWrite fn part cnt value s) := by
  unfold execHcntThreshWrite
  repeat' (first | with_reducible assumption | with_reducible apply runs_next | with_reducible apply runs_ite
                 | simp only [↓State.writeThresh_kept])
theorem execHcntCtrlWrite_runs (fn : Fin 17) (part : Fin 16) (cnt : Fin 512) (value : Word) (hk : P s.kept) : Runs P
    (execHcntCtrlWrite fn part cnt value s) := by
  unfold execHcntCtrlWrite
  repeat' (first | with_reducible assumption | with_reducible apply runs_next | with_reducible apply runs_ite
                 | simp only [↓State.writeHcCtrl_kept])
theorem execDescriptorFetch_runs (queue : Fin 1024) (hk : P s.kept) : Runs P (execDescriptorFetch queue s) := by
  unfold execDescriptorFetch
  repeat' (first | with_reducible assumption | with_reducible apply runs_next | with_reducible apply runs_ite
                 | simp only [↓kept_ite, ite_self, ↓State.qFront_kept, ↓State.stallStart_kept, ↓State.updQueue_kept])
theorem execDescriptorDispatch_runs  (hk : P s.kept) : Runs P (execDescriptorDispatch s) := by
  unfold execDescriptorDispatch
  repeat' (first | with_reducible assumption | with_reducible apply runs_next | with_reducible apply runs_ite
                 | simp only [↓kept_with, ↓State.countIsolation_kept, ↓State.endNow_kept, ↓State.ignored_kept] | split)
theorem execNopDescriptor_runs  (hk : P s.kept) : Runs P (execNopDescriptor s) := by
  unfold execNopDescriptor
  repeat' (first | with_reducible assumption | with_reducible apply runs_next | with_reducible apply runs_ite
                 | with_reducible refine descRow_runs ‹_› (fun _ _ => ?_) | simp only [↓State.launchDesc_kept, ↓State.unitEnd_kept])
theorem execDescKernel_runs  (hk : P s.kept) : Runs P (execDescKernel s) := by
  unfold execDescKernel
  repeat' (first | with_reducible assumption | with_reducible apply runs_next | with_reducible apply runs_ite
                 | with_reducible refine descRow_runs ‹_› (fun _ _ => ?_) | simp only [↓kept_ite, ite_self, ↓State.coreEnd_kept,
                 ↓State.launchDesc_kept, ↓State.pulse_kept, ↓State.setCore_kept] | with_reducible refine foldl_stable (fun _ _ ht => ?_) ?_)
theorem execDescCopy_runs  (hk : P s.kept) : Runs P (execDescCopy s) := by
  unfold execDescCopy
  repeat' (first | with_reducible assumption | with_reducible apply runs_next | with_reducible apply runs_ite
                 | with_reducible refine descRow_runs ‹_› (fun _ _ => ?_) | simp only [↓kept_ite, ite_self, ↓State.flightDone_kept,
                 ↓State.launchDesc_kept, ↓State.updFlight_kept])
theorem execDescTable_runs  (hk : P s.kept) : Runs P (execDescTable s) := by
  unfold execDescTable
  repeat' (first | with_reducible assumption | with_reducible apply runs_next | with_reducible apply runs_ite
                 | with_reducible refine descRow_runs ‹_› (fun _ _ => ?_) | simp only [↓State.launchDesc_kept, ↓State.pushCmd_kept])
theorem execDescCollective_runs  (hk : P s.kept) : Runs P (execDescCollective s) := by
  unfold execDescCollective
  repeat' (first | with_reducible assumption | with_reducible apply runs_next | with_reducible apply runs_ite
                 | with_reducible refine descRow_runs ‹_› (fun _ _ => ?_) | simp only [↓State.admitFailed_kept, ↓State.admitGo_kept,
                 ↓State.endNow_kept, ↓State.launchDesc_kept] | split)
theorem execWaitCounter_runs  (hk : P s.kept) : Runs P (execWaitCounter s) := by
  unfold execWaitCounter
  repeat' (first | with_reducible assumption | with_reducible apply runs_next | with_reducible apply runs_ite
                 | with_reducible refine descRow_runs ‹_› (fun _ _ => ?_) | simp only [↓State.launchDesc_kept, ↓State.unitEnd_kept])
theorem execSignalCounter_runs  (hk : P s.kept) : Runs P (execSignalCounter s) := by
  unfold execSignalCounter
  repeat' (first | with_reducible assumption | with_reducible apply runs_next | with_reducible apply runs_ite
                 | with_reducible refine descRow_runs ‹_› (fun _ _ => ?_) | simp only [↓kept_ite, ite_self, ↓State.addIn_kept,
                 ↓State.cntIn_kept, ↓State.hcAdd_kept, ↓State.hcSet_kept, ↓State.launchDesc_kept, ↓State.unitEnd_kept])
theorem execFenceDescriptor_runs  (hk : P s.kept) : Runs P (execFenceDescriptor s) := by
  unfold execFenceDescriptor
  repeat' (first | with_reducible assumption | with_reducible apply runs_next | with_reducible apply runs_ite
                 | with_reducible refine descRow_runs ‹_› (fun _ _ => ?_) | simp only [↓State.launchDesc_kept, ↓State.unitEnd_kept])
theorem execEpochBegin_runs  (hk : P s.kept) : Runs P (execEpochBegin s) := by
  unfold execEpochBegin
  repeat' (first | with_reducible assumption | with_reducible apply runs_next | with_reducible apply runs_ite
                 | with_reducible refine descRow_runs ‹_› (fun _ _ => ?_) | simp only [↓kept_ite, ite_self, ↓State.colourStart_kept,
                 ↓State.endNow_kept, ↓State.launchDesc_kept, ↓State.setEp_kept])
theorem execEpochVote_runs  (hk : P s.kept) : Runs P (execEpochVote s) := by
  unfold execEpochVote
  repeat' (first | with_reducible assumption | with_reducible apply runs_next | with_reducible apply runs_ite
                 | with_reducible refine descRow_runs ‹_› (fun _ _ => ?_) | simp only [↓kept_ite, ite_self, ↓State.epGo_kept,
                 ↓State.launchDesc_kept, ↓State.odApply_kept, ↓State.sendAbort_kept, ↓State.setEp_kept, ↓State.startRestore_kept,
                 ↓State.voteUp_kept])
theorem execWaitCounterTimeout_runs (queue : Fin 1024) (hk : P s.kept) : Runs P (execWaitCounterTimeout queue s) := by
  unfold execWaitCounterTimeout
  repeat' (first | with_reducible assumption | with_reducible apply runs_next | with_reducible apply runs_ite
                 | simp only [↓State.endNow_kept, ↓State.qGo_kept] | split)
theorem execFunctionLevelReset_runs (fn : Fin 17) (hk : P s.kept) : Runs P (execFunctionLevelReset fn s) := by
  unfold execFunctionLevelReset
  repeat' (first | with_reducible assumption | with_reducible apply runs_next | with_reducible apply runs_ite | simp only [↓State.flr_kept])
theorem execHostLinkLoss_runs (perst cable : Bool) (hk : P s.kept) : Runs P (execHostLinkLoss perst cable s) := by
  unfold execHostLinkLoss
  repeat' (first | with_reducible assumption | with_reducible apply runs_next | with_reducible apply runs_ite
                 | simp only [↓State.faultRecord_kept, ↓State.flr_kept, ↓State.lifeSet_kept, ↓State.odSetN_kept]
                 | with_reducible refine foldl_stable (fun _ _ ht => ?_) ?_)
theorem execHostWindowRead_runs (fn : Fin 17) (win : Fin 2) (off : BitVec 36) (len : Fin 4097) (ecc : Ecc) (hk : P s.kept) : Runs P
    (execHostWindowRead fn win off len ecc s) := by
  unfold execHostWindowRead
  repeat' (first | with_reducible assumption | with_reducible apply runs_next | with_reducible apply runs_ite
                 | simp only [↓State.countAddress_kept, ↓State.countBad_kept, ↓State.emit_kept, ↓State.noteHost_kept,
                 ↓State.readSeen_kept] | split)
theorem execRegisterWrite_runs (fn : Fin 17) (off : BitVec 23) (value : Word) (hk : P s.kept) : Runs P
    (execRegisterWrite fn off value s) := by
  unfold execRegisterWrite
  repeat' (first | with_reducible assumption | with_reducible apply runs_next | with_reducible apply runs_ite
                 | with_reducible apply onFn_runs | simp only [↓State.writeBar0_kept])
theorem execSignalDetect_runs (link : Fin 12) (lanes : BitVec 9) (hk : P s.kept) : Runs P (execSignalDetect link lanes s) := by
  unfold execSignalDetect
  repeat' (first | with_reducible assumption | with_reducible apply runs_next | with_reducible apply runs_ite
                 | simp only [↓State.enterNegotiate_kept])
theorem execTrainingTimeout_runs (link : Fin 12) (hk : P s.kept) : Runs P (execTrainingTimeout link s) := by
  unfold execTrainingTimeout
  repeat' (first | with_reducible assumption | with_reducible apply runs_next | with_reducible apply runs_ite
                 | simp only [↓State.linkFail_kept, ↓State.loopReturn_kept, ↓State.odSetN_kept]
                 | with_reducible refine foldl_stable (fun _ _ ht => ?_) ?_ | split)
theorem execCapabilityExchanged_runs (link : Fin 12) (blocks : List (List Byte)) (hk : P s.kept) : Runs P
    (execCapabilityExchanged link blocks s) := by
  unfold execCapabilityExchanged
  repeat' (first | with_reducible assumption | with_reducible apply runs_next | with_reducible apply runs_ite
                 | simp only [↓kept_ite, ite_self, ↓State.capSend_kept, ↓State.eqStart_kept, ↓State.linkFail_kept, ↓State.linkGo_kept,
                 ↓State.odSetN_kept, ↓State.sendPattern_kept, ↓State.updLink_kept] | split)
theorem execEqualiseDone_runs (link : Fin 12) (failing : BitVec 9) (hk : P s.kept) : Runs P (execEqualiseDone link failing s) := by
  unfold execEqualiseDone
  repeat' (first | with_reducible assumption | with_reducible apply runs_next | with_reducible apply runs_ite
                 | simp only [↓State.linkFail_kept, ↓State.linkGo_kept, ↓State.setLink_kept, ↓State.showMap_kept] | split)
theorem execAlignDone_runs (link : Fin 12) (seen : List (Option LaneId)) (partner : BitVec 9) (hk : P s.kept) : Runs P
    (execAlignDone link seen partner s) := by
  unfold execAlignDone
  repeat' (first | with_reducible assumption | with_reducible apply runs_next | with_reducible apply runs_ite
                 | simp only [↓State.emit_kept, ↓State.linkFail_kept, ↓State.linkGo_kept, ↓State.setLink_kept, ↓State.showMap_kept] | split)
theorem execQualifyWindowEnd_runs (link : Fin 12) (errors : List Nat) (uncorrectable : Nat) (hk : P s.kept) : Runs P
    (execQualifyWindowEnd link errors uncorrectable s) := by
  unfold execQualifyWindowEnd
  repeat' (first | with_reducible assumption | with_reducible apply runs_next | with_reducible apply runs_ite
                 | simp only [↓State.control_kept, ↓State.qualResolve_kept, ↓State.setLink_kept, ↓State.showMap_kept])
theorem execQualResult_runs (link : Fin 12) (hk : P s.kept) : Runs P (execQualResult link s) := by
  unfold execQualResult
  repeat' (first | with_reducible assumption | with_reducible apply runs_next | with_reducible apply runs_ite
                 | simp only [↓State.qualResolve_kept, ↓State.updLink_kept] | with_reducible exact takeCtl_stable ‹_› ‹_› | split)
theorem execDegradeWindowEnd_runs (link : Fin 12) (lane : Fin 9) (errors uncorrectable : Nat) (hk : P s.kept) : Runs P
    (execDegradeWindowEnd link lane errors uncorrectable s) := by
  unfold execDegradeWindowEnd
  repeat' (first | with_reducible assumption | with_reducible apply runs_next | with_reducible apply runs_ite
                 | simp only [↓kept_ite, ite_self, ↓State.laneFails_kept, ↓State.odApply_kept, ↓State.odSetN_kept, ↓State.setLink_kept])
theorem execLossOfSignal_runs (link : Fin 12) (lanes : BitVec 9) (hk : P s.kept) : Runs P (execLossOfSignal link lanes s) := by
  unfold execLossOfSignal
  repeat' (first | with_reducible assumption | with_reducible apply runs_next | with_reducible apply runs_ite
                 | simp only [↓kept_ite, ite_self, ↓State.laneFails_kept, ↓State.linkFail_kept, ↓State.setLink_kept]
                 | with_reducible refine foldl_stable (fun _ _ ht => ?_) ?_)
theorem execSwapReq_runs (link : Fin 12) (hk : P s.kept) : Runs P (execSwapReq link s) := by
  unfold execSwapReq
  repeat' (first | with_reducible assumption | with_reducible apply runs_next | with_reducible apply runs_ite
                 | simp only [↓State.emit_kept, ↓State.setLink_kept, ↓State.showMap_kept] | with_reducible exact takeCtl_stable ‹_› ‹_›
                 | split)
theorem execSwapAck_runs (link : Fin 12) (hk : P s.kept) : Runs P (execSwapAck link s) := by
  unfold execSwapAck
  repeat' (first | with_reducible assumption | with_reducible apply runs_next | with_reducible apply runs_ite
                 | simp only [↓State.drainLink_kept, ↓State.updLink_kept] | with_reducible exact takeCtl_stable ‹_› ‹_› | split)
theorem execHalfReq_runs (link : Fin 12) (hk : P s.kept) : Runs P (execHalfReq link s) := by
  unfold execHalfReq
  repeat' (first | with_reducible assumption | with_reducible apply runs_next | with_reducible apply runs_ite
                 | simp only [↓State.emit_kept, ↓State.lanesLost_kept, ↓State.setLink_kept, ↓State.showMap_kept]
                 | with_reducible exact takeCtl_stable ‹_› ‹_› | split)
theorem execHalfAck_runs (link : Fin 12) (hk : P s.kept) : Runs P (execHalfAck link s) := by
  unfold execHalfAck
  repeat' (first | with_reducible assumption | with_reducible apply runs_next | with_reducible apply runs_ite
                 | simp only [↓kept_ite, ite_self, ↓State.drainLink_kept, ↓State.linkGo_kept, ↓State.updLink_kept]
                 | with_reducible exact takeCtl_stable ‹_› ‹_› | split)
theorem execSwapTimeout_runs (link : Fin 12) (hk : P s.kept) : Runs P (execSwapTimeout link s) := by
  unfold execSwapTimeout
  repeat' (first | with_reducible assumption | with_reducible apply runs_next | with_reducible apply runs_ite
                 | simp only [↓State.linkFail_kept])
theorem execLinkDown_runs (link : Fin 12) (hk : P s.kept) : Runs P (execLinkDown link s) := by
  unfold execLinkDown
  repeat' (first | with_reducible assumption | with_reducible apply runs_next | with_reducible apply runs_ite
                 | simp only [↓kept_ite, ite_self, ↓State.linkFail_kept] | with_reducible exact takeCtl_stable ‹_› ‹_› | split)
theorem execRetryIntervalExpiry_runs (link : Fin 12) (hk : P s.kept) : Runs P (execRetryIntervalExpiry link s) := by
  unfold execRetryIntervalExpiry
  repeat' (first | with_reducible assumption | with_reducible apply runs_next | with_reducible apply runs_ite
                 | simp only [↓State.linkDetect_kept])
theorem execFlitReceive_runs (link : Fin 12) (lanes : List (List Nat)) (hk : P s.kept) : Runs P (execFlitReceive link lanes s) := by
  unfold execFlitReceive
  repeat' (first | with_reducible assumption | with_reducible apply runs_next | with_reducible apply runs_ite
                 | simp only [↓kept_ite, ite_self, ↓State.drainLink_kept, ↓State.emit_kept, ↓State.flitDiscard_kept, ↓State.flitIn_kept,
                 ↓State.odAdd_kept, ↓State.retryHeld_kept,
                 ↓State.setLink_kept] | with_reducible refine foldl_stable (fun _ _ ht => ?_) ?_ | split)
theorem execCreditSync_runs (link : Fin 12) (hk : P s.kept) : Runs P (execCreditSync link s) := by
  unfold execCreditSync
  repeat' (first | with_reducible assumption | with_reducible apply runs_next | with_reducible apply runs_ite
                 | simp only [↓State.odAdd_kept, ↓State.setLink_kept] | with_reducible exact takeCtl_stable ‹_› ‹_›
                 | with_reducible refine foldl_stable (fun _ _ ht => ?_) ?_ | split)
theorem execCreditSyncSend_runs (link : Fin 12) (hk : P s.kept) : Runs P (execCreditSyncSend link s) := by
  unfold execCreditSyncSend
  repeat' (first | with_reducible assumption | with_reducible apply runs_next | with_reducible apply runs_ite
                 | simp only [↓State.control_kept])
theorem execLoopbackEnd_runs (link : Fin 12) (results : List LaneResult) (delay : BitVec 32) (hk : P s.kept) : Runs P
    (execLoopbackEnd link results delay s) := by
  unfold execLoopbackEnd
  repeat' (first | with_reducible assumption | with_reducible apply runs_next | with_reducible apply runs_ite
                 | simp only [↓kept_ite, ite_self, ↓State.loopReturn_kept, ↓State.odSetN_kept]
                 | with_reducible refine foldl_stable (fun _ _ ht => ?_) ?_ | split)
theorem execPacketRoute_runs (link : Fin 12) (hk : P s.kept) : Runs P (execPacketRoute link s) := by
  unfold execPacketRoute
  repeat' (first | with_reducible assumption | with_reducible apply runs_next | with_reducible apply runs_ite
                 | simp only [↓kept_ite, ite_self, ↓State.odInc_kept, ↓State.route_kept, ↓State.sendPair_kept, ↓State.updLink_kept] | split)
theorem execFabricRead_runs (ecc : Ecc) (hk : P s.kept) : Runs P (execFabricRead ecc s) := by
  unfold execFabricRead
  repeat' (first | with_reducible assumption | with_reducible apply runs_next | with_reducible apply runs_ite
                 | with_reducible refine serve_runs ‹_› (fun _ _ _ _ => ?_) | simp only [↓kept_ite, ite_self, ↓onE_ok, ↓onE_error,
                 ↓State.answer_kept, ↓State.arrivalCount_kept, ↓State.countBad_kept, ↓State.noteAcc_kept, ↓State.readSeen_kept,
                 ↓State.refuseReq_kept] | with_reducible apply onE_ite | split)
theorem execFabricAck_runs  (hk : P s.kept) : Runs P (execFabricAck s) := by
  unfold execFabricAck
  repeat' (first | with_reducible assumption | with_reducible apply runs_next | with_reducible apply runs_ite
                 | with_reducible refine replyRow_runs ‹_› (fun _ _ _ _ => ?_) | simp only [↓onE_ok, ↓State.ownerAcked_kept,
                 ↓State.reqGone_kept])
theorem execFabricSignal_runs  (hk : P s.kept) : Runs P (execFabricSignal s) := by
  unfold execFabricSignal
  repeat' (first | with_reducible assumption | with_reducible apply runs_next | with_reducible apply runs_ite
                 | with_reducible refine serve_runs ‹_› (fun _ _ _ _ => ?_) | simp only [↓onE_ok, ↓State.answer_kept,
                 ↓State.arrivalCount_kept, ↓State.odInc_kept] | with_reducible apply onE_ite | split)
theorem execFabricError_runs  (hk : P s.kept) : Runs P (execFabricError s) := by
  unfold execFabricError
  repeat' (first | with_reducible assumption | with_reducible apply runs_next | with_reducible apply runs_ite
                 | with_reducible refine replyRow_runs ‹_› (fun _ _ _ _ => ?_) | simp only [↓kept_ite, ite_self, ↓onE_ok,
                 ↓State.castAbort_kept, ↓State.odInc_kept, ↓State.ownerFailed_kept, ↓State.reissue_kept, ↓State.reqGone_kept]
                 | with_reducible apply onE_ite)
theorem execRequestTimeout_runs (dst : BitVec 20) (part : Fin 16) (seq : BitVec 24) (hk : P s.kept) : Runs P
    (execRequestTimeout dst part seq s) := by
  unfold execRequestTimeout
  repeat' (first | with_reducible assumption | with_reducible apply runs_next | with_reducible apply runs_ite
                 | simp only [↓State.odInc_kept, ↓State.ownerFailed_kept, ↓State.reissue_kept, ↓State.reqGone_kept] | split)
theorem execSwapStop_runs  (hk : P s.kept) : Runs P (execSwapStop s) := by
  unfold execSwapStop
  repeat' (first | with_reducible assumption | with_reducible apply runs_next | with_reducible apply runs_ite
                 | simp only [↓kept_with, ↓State.odSetN_kept])
theorem execSwapApply_runs  (hk : P s.kept) : Runs P (execSwapApply s) := by
  unfold execSwapApply
  repeat' (first | with_reducible assumption | with_reducible apply runs_next | with_reducible apply runs_ite
                 | simp only [↓kept_with, ↓State.odAdd_kept, ↓State.odApply_kept, ↓State.odSetN_kept, ↓State.updLink_kept]
                 | with_reducible refine foldl_stable (fun _ _ ht => ?_) ?_ | split)
theorem execSwapResume_runs  (hk : P s.kept) : Runs P (execSwapResume s) := by
  unfold execSwapResume
  repeat' (first | with_reducible assumption | with_reducible apply runs_next | with_reducible apply runs_ite
                 | simp only [↓kept_with, ↓State.inject_kept, ↓State.odSetN_kept, ↓State.retryHeld_kept]
                 | with_reducible refine foldl_stable (fun _ _ ht => ?_) ?_)
theorem execWindowEntryRelease_runs (src : BitVec 20) (part : Fin 16) (hk : P s.kept) : Runs P (execWindowEntryRelease src part s) := by
  unfold execWindowEntryRelease
  repeat' (first | with_reducible assumption | with_reducible apply runs_next | with_reducible apply runs_ite
                 | simp only [↓kept_with, ↓State.odApply_kept])
theorem execLimiterIncrease_runs (dst : BitVec 20) (part : Fin 16) (hk : P s.kept) : Runs P (execLimiterIncrease dst part s) := by
  unfold execLimiterIncrease
  repeat' (first | with_reducible assumption | with_reducible apply runs_next | with_reducible apply runs_ite
                 | simp only [↓kept_with, ↓State.odApplyAll_kept] | split)
theorem execLimiterIdleRelease_runs (dst : BitVec 20) (part : Fin 16) (hk : P s.kept) : Runs P (execLimiterIdleRelease dst part s) := by
  unfold execLimiterIdleRelease
  repeat' (first | with_reducible assumption | with_reducible apply runs_next | with_reducible apply runs_ite
                 | simp only [↓kept_with, ↓State.odApply_kept])
theorem execTimeMessage_runs (link : Fin 12) (hk : P s.kept) : Runs P (execTimeMessage link s) := by
  unfold execTimeMessage
  repeat' (first | with_reducible assumption | with_reducible apply runs_next | with_reducible apply runs_ite
                 | simp only [↓kept_with, ↓State.lilac_kept, ↓State.odInc_kept, ↓State.odSetN_kept, ↓State.showTime_kept,
                 ↓State.timeChoose_kept] | with_reducible exact takeCtl_stable ‹_› ‹_› | split)
theorem execTimeSend_runs (link : Fin 12) (hk : P s.kept) : Runs P (execTimeSend link s) := by
  unfold execTimeSend
  repeat' (first | with_reducible assumption | with_reducible apply runs_next | with_reducible apply runs_ite
                 | simp only [↓State.control_kept, ↓State.odApply_kept, ↓State.showTime_kept, ↓State.timeChoose_kept])
theorem execCollGrant_runs  (hk : P s.kept) : Runs P (execCollGrant s) := by
  unfold execCollGrant
  repeat' (first | with_reducible assumption | with_reducible apply runs_next | with_reducible apply runs_ite
                 | with_reducible refine serve_runs ‹_› (fun _ _ _ _ => ?_) | simp only [↓kept_with, ↓onE_ok, ↓State.answer_kept,
                 ↓State.collCheck_kept, ↓State.takeGrant_kept] | with_reducible apply onE_ite | split)
theorem execCollectiveAbort_runs  (hk : P s.kept) : Runs P (execCollectiveAbort s) := by
  unfold execCollectiveAbort
  repeat' (first | with_reducible assumption | with_reducible apply runs_next | with_reducible apply runs_ite
                 | with_reducible refine colRow_runs ‹_› (fun _ _ _ _ => ?_) | simp only [↓onE_ok, ↓State.answer_kept,
                 ↓State.collEnd_kept] | with_reducible apply onE_ite)
theorem execCollectiveTimeout_runs (group : Fin 4096) (hk : P s.kept) : Runs P (execCollectiveTimeout group s) := by
  unfold execCollectiveTimeout
  repeat' (first | with_reducible assumption | with_reducible apply runs_next | with_reducible apply runs_ite
                 | simp only [↓State.collFail_kept] | split)
theorem execEpochVoteMsg_runs  (hk : P s.kept) : Runs P (execEpochVoteMsg s) := by
  unfold execEpochVoteMsg
  repeat' (first | with_reducible assumption | with_reducible apply runs_next | with_reducible apply runs_ite
                 | with_reducible refine epRow_runs ‹_› (fun _ _ _ => ?_) | simp only [↓kept_ite, ite_self, ↓onO_some,
                 ↓State.coCollect_kept, ↓State.setAgent_kept, ↓State.voteUp_kept])
theorem execAbortVote_runs  (hk : P s.kept) : Runs P (execAbortVote s) := by
  unfold execAbortVote
  repeat' (first | with_reducible assumption | with_reducible apply runs_next | with_reducible apply runs_ite
                 | with_reducible refine epRow_runs ‹_› (fun _ _ _ => ?_) | simp only [↓kept_ite, ite_self, ↓onO_some, ↓State.coAbort_kept])
theorem execEpochRecord_runs  (hk : P s.kept) : Runs P (execEpochRecord s) := by
  unfold execEpochRecord
  repeat' (first | with_reducible assumption | with_reducible apply runs_next | with_reducible apply runs_ite
                 | with_reducible refine epRow_runs ‹_› (fun _ _ _ => ?_) | simp only [↓onO_none, ↓onO_some, ↓State.setAgent_kept]
                 | with_reducible apply onO_ite)
theorem execEpochTake_runs  (hk : P s.kept) : Runs P (execEpochTake s) := by
  unfold execEpochTake
  repeat' (first | with_reducible assumption | with_reducible apply runs_next | with_reducible apply runs_ite
                 | with_reducible refine epRow_runs ‹_› (fun _ _ _ => ?_) | simp only [↓onO_some, ↓State.epSend_kept,
                 ↓State.setAgent_kept] | with_reducible apply onO_ite)
theorem execEpochPromise_runs  (hk : P s.kept) : Runs P (execEpochPromise s) := by
  unfold execEpochPromise
  repeat' (first | with_reducible assumption | with_reducible apply runs_next | with_reducible apply runs_ite
                 | with_reducible refine epRow_runs ‹_› (fun _ _ _ => ?_) | simp only [↓onO_some, ↓State.setMach_kept,
                 ↓State.takeCheck_kept] | with_reducible apply onO_ite | split)
theorem execEpochDecide_runs  (hk : P s.kept) : Runs P (execEpochDecide s) := by
  unfold execEpochDecide
  repeat' (first | with_reducible assumption | with_reducible apply runs_next | with_reducible apply runs_ite
                 | with_reducible refine epRow_runs ‹_› (fun _ _ _ => ?_) | simp only [↓onO_some, ↓State.learn_kept])
theorem execEpochQuery_runs  (hk : P s.kept) : Runs P (execEpochQuery s) := by
  unfold execEpochQuery
  repeat' (first | with_reducible assumption | with_reducible apply runs_next | with_reducible apply runs_ite
                 | with_reducible refine epRow_runs ‹_› (fun _ _ _ => ?_) | simp only [↓kept_ite, ite_self, ↓onO_some, ↓State.epSend_kept,
                 ↓State.probe_kept] | with_reducible apply onO_ite | split)
theorem execEpochAnswer_runs  (hk : P s.kept) : Runs P (execEpochAnswer s) := by
  unfold execEpochAnswer
  repeat' (first | with_reducible assumption | with_reducible apply runs_next | with_reducible apply runs_ite
                 | with_reducible refine epRow_runs ‹_› (fun _ _ _ => ?_) | simp only [↓kept_ite, ite_self, ↓onO_some, ↓State.coQuery_kept,
                 ↓State.learn_kept, ↓State.query_kept] | with_reducible apply onO_ite)
theorem execEpochRestored_runs  (hk : P s.kept) : Runs P (execEpochRestored s) := by
  unfold execEpochRestored
  repeat' (first | with_reducible assumption | with_reducible apply runs_next | with_reducible apply runs_ite
                 | with_reducible refine epRow_runs ‹_› (fun _ _ _ => ?_) | simp only [↓kept_ite, ite_self, ↓onO_some,
                 ↓State.restoredUp_kept, ↓State.setAgent_kept])
theorem execEpochClear_runs  (hk : P s.kept) : Runs P (execEpochClear s) := by
  unfold execEpochClear
  repeat' (first | with_reducible assumption | with_reducible apply runs_next | with_reducible apply runs_ite
                 | with_reducible refine epRow_runs ‹_› (fun _ _ _ => ?_) | simp only [↓onO_some, ↓State.clearClose_kept,
                 ↓State.setEp_kept] | with_reducible apply onO_ite | split)
theorem execVoteTimeout_runs (group : Fin 4096) (hk : P s.kept) : Runs P (execVoteTimeout group s) := by
  unfold execVoteTimeout
  repeat' (first | with_reducible assumption | with_reducible apply runs_next | with_reducible apply runs_ite
                 | simp only [↓State.coDecide_kept] | split)
theorem execOutcomeTimeout_runs (group : Fin 4096) (machine : Bool) (hk : P s.kept) : Runs P (execOutcomeTimeout group machine s) := by
  unfold execOutcomeTimeout
  repeat' (first | with_reducible assumption | with_reducible apply runs_next | with_reducible apply runs_ite
                 | simp only [↓State.coQuery_kept, ↓State.epGo_kept, ↓State.odApply_kept, ↓State.query_kept, ↓State.sendRecords_kept,
                 ↓State.sendTakes_kept, ↓State.setEp_kept, ↓State.setMach_kept, ↓State.takeCheck_kept] | split)
theorem execClearTimeout_runs (group : Fin 4096) (machine : Bool) (hk : P s.kept) : Runs P (execClearTimeout group machine s) := by
  unfold execClearTimeout
  repeat' (first | with_reducible assumption | with_reducible apply runs_next | with_reducible apply runs_ite
                 | simp only [↓State.clearClose_kept, ↓State.coClear_kept, ↓State.ledgerSettings_kept] | split)
theorem execCreationDone_runs (part : Fin 16) (hk : P s.kept) : Runs P (execCreationDone part s) := by
  unfold execCreationDone
  repeat' (first | with_reducible assumption | with_reducible apply runs_next | with_reducible apply runs_ite
                 | simp only [↓State.emit_kept, ↓State.partGo_kept, ↓State.raise_kept, ↓State.setPart_kept, ↓State.teardown_kept])
theorem execDrainEnd_runs (part : Fin 16) (timedOut : Bool) (hk : P s.kept) : Runs P (execDrainEnd part timedOut s) := by
  unfold execDrainEnd
  repeat' (first | with_reducible assumption | with_reducible apply runs_next | with_reducible apply runs_ite
                 | simp only [↓State.cutAll_kept, ↓State.partGo_kept])
theorem execGetVersion_runs (fn : Fin 17) (hk : P s.kept) : Runs P (execGetVersion fn s) := by
  unfold execGetVersion
  repeat' (first | with_reducible assumption | with_reducible apply runs_next | with_reducible apply runs_ite
                 | with_reducible apply onFn_runs | simp only [↓State.doe_kept, ↓State.setSpdm_kept])
theorem execGetCapabilities_runs (fn : Fin 17) (ver : BitVec 8) (hk : P s.kept) : Runs P (execGetCapabilities fn ver s) := by
  unfold execGetCapabilities
  repeat' (first | with_reducible assumption | with_reducible apply runs_next | with_reducible apply runs_ite
                 | with_reducible apply onFn_runs | simp only [↓kept_ite, ite_self, ↓State.doe_kept, ↓State.setSpdm_kept,
                 ↓State.spdmError_kept])
theorem execNegotiateAlgorithms_runs (fn : Fin 17) (offered : Algorithms) (hk : P s.kept) : Runs P
    (execNegotiateAlgorithms fn offered s) := by
  unfold execNegotiateAlgorithms
  repeat' (first | with_reducible assumption | with_reducible apply runs_next | with_reducible apply runs_ite
                 | with_reducible apply onFn_runs | simp only [↓kept_ite, ite_self, ↓State.doe_kept, ↓State.setSpdm_kept,
                 ↓State.spdmError_kept])
theorem execGetDigests_runs (fn : Fin 17) (hk : P s.kept) : Runs P (execGetDigests fn s) := by
  unfold execGetDigests
  repeat' (first | with_reducible assumption | with_reducible apply runs_next | with_reducible apply runs_ite
                 | with_reducible apply negotiated_runs | simp only [↓State.doe_kept])
theorem execGetCertificate_runs (fn : Fin 17) (slot : BitVec 8) (off len : BitVec 16) (hk : P s.kept) : Runs P
    (execGetCertificate fn slot off len s) := by
  unfold execGetCertificate
  repeat' (first | with_reducible assumption | with_reducible apply runs_next | with_reducible apply runs_ite
                 | with_reducible apply negotiated_runs | simp only [↓kept_ite, ite_self, ↓State.doe_kept, ↓State.spdmError_kept])
theorem execChallenge_runs (fn : Fin 17) (slot : BitVec 8) (nonce : BitVec 256) (hk : P s.kept) : Runs P
    (execChallenge fn slot nonce s) := by
  unfold execChallenge
  repeat' (first | with_reducible assumption | with_reducible apply runs_next | with_reducible apply runs_ite
                 | with_reducible apply negotiated_runs | simp only [↓kept_ite, ite_self, ↓State.doeSigned_kept, ↓State.freeVal_kept,
                 ↓State.spdmError_kept])
theorem execGetMeasurements_runs (fn : Fin 17) (index : BitVec 8) (nonce : BitVec 256) (hk : P s.kept) : Runs P
    (execGetMeasurements fn index nonce s) := by
  unfold execGetMeasurements
  repeat' (first | with_reducible assumption | with_reducible apply runs_next | with_reducible apply runs_ite
                 | with_reducible apply negotiated_runs | simp only [↓State.doeSigned_kept, ↓State.spdmError_kept] | split)
theorem execKeyExchange_runs (fn : Fin 17) (slot : BitVec 8) (half : BitVec 16) (hk : P s.kept) : Runs P
    (execKeyExchange fn slot half s) := by
  unfold execKeyExchange
  repeat' (first | with_reducible assumption | with_reducible apply runs_next | with_reducible apply runs_ite
                 | with_reducible apply negotiated_runs | simp only [↓kept_ite, ite_self, ↓State.doeSigned_kept, ↓State.freeVal_kept,
                 ↓State.setSpdm_kept, ↓State.spdmError_kept])
theorem execFinish_runs (fn : Fin 17) (session : BitVec 32) (verified : Bool) (hk : P s.kept) : Runs P
    (execFinish fn session verified s) := by
  unfold execFinish
  repeat' (first | with_reducible assumption | with_reducible apply runs_next | with_reducible apply runs_ite
                 | with_reducible apply onFn_runs | simp only [↓kept_ite, ite_self, ↓State.doe_kept, ↓State.setSpdm_kept,
                 ↓State.spdmError_kept])
theorem execHeartbeat_runs (fn : Fin 17) (session : BitVec 32) (hk : P s.kept) : Runs P (execHeartbeat fn session s) := by
  unfold execHeartbeat
  repeat' (first | with_reducible assumption | with_reducible apply runs_next | with_reducible apply runs_ite
                 | with_reducible apply inSession_runs | simp only [↓State.doe_kept])
theorem execKeyUpdate_runs (fn : Fin 17) (session : BitVec 32) (hk : P s.kept) : Runs P (execKeyUpdate fn session s) := by
  unfold execKeyUpdate
  repeat' (first | with_reducible assumption | with_reducible apply runs_next | with_reducible apply runs_ite
                 | with_reducible apply inSession_runs | simp only [↓State.doe_kept, ↓State.freeVal_kept, ↓State.setSpdm_kept])
theorem execEndSession_runs (fn : Fin 17) (session : BitVec 32) (hk : P s.kept) : Runs P (execEndSession fn session s) := by
  unfold execEndSession
  repeat' (first | with_reducible assumption | with_reducible apply runs_next | with_reducible apply runs_ite
                 | with_reducible apply inSession_runs | simp only [↓State.doe_kept, ↓State.setSpdm_kept])
theorem execIdeKeyGet_runs (session : BitVec 32) (stream : Fin 17) (dir : Bool) (subStream : Fin 3) (hk : P s.kept) : Runs P
    (execIdeKeyGet session stream dir subStream s) := by
  unfold execIdeKeyGet
  repeat' (first | with_reducible assumption | with_reducible apply runs_next | with_reducible apply runs_ite
                 | with_reducible apply inSession_runs | simp only [↓State.doe_kept, ↓State.freeVal_kept, ↓State.setIde_kept] | split)
theorem execSetPolicy_runs (fn : Fin 17) (session : BitVec 32) (policy : BitVec 32) (hk : P s.kept) : Runs P
    (execSetPolicy fn session policy s) := by
  unfold execSetPolicy
  repeat' (first | with_reducible assumption | with_reducible apply runs_next | with_reducible apply runs_ite
                 | with_reducible apply inSession_runs | simp only [↓kept_ite, ite_self, ↓State.doe_kept, ↓State.odSetN_kept,
                 ↓State.spdmError_kept])
theorem execKeyProg_runs (session : BitVec 32) (stream : Fin 17) (dir : Bool) (subStream : Fin 3) (key : BitVec 256)
    (hk : P s.kept) : Runs P (execKeyProg session stream dir subStream key s) := by
  unfold execKeyProg
  repeat' (first | with_reducible assumption | with_reducible apply runs_next | with_reducible apply runs_ite
                 | with_reducible apply inSession_runs | simp only [↓kept_ite, ite_self, ↓State.doe_kept, ↓State.setIde_kept])
theorem execKSetGo_runs (session : BitVec 32) (stream : Fin 17) (dir : Bool) (subStream : Fin 3) (hk : P s.kept) : Runs P
    (execKSetGo session stream dir subStream s) := by
  unfold execKSetGo
  repeat' (first | with_reducible assumption | with_reducible apply runs_next | with_reducible apply runs_ite
                 | with_reducible apply inSession_runs | simp only [↓kept_ite, ite_self, ↓State.doe_kept, ↓State.setIde_kept,
                 ↓State.spdmError_kept])
theorem execKSetStop_runs (session : BitVec 32) (stream : Fin 17) (dir : Bool) (subStream : Fin 3) (hk : P s.kept) : Runs P
    (execKSetStop session stream dir subStream s) := by
  unfold execKSetStop
  repeat' (first | with_reducible assumption | with_reducible apply runs_next | with_reducible apply runs_ite
                 | with_reducible apply inSession_runs | simp only [↓State.doe_kept, ↓State.setIde_kept])
theorem execLockInterfaceRequest_runs (part : Fin 16) (session : BitVec 32) (hk : P s.kept) : Runs P
    (execLockInterfaceRequest part session s) := by
  unfold execLockInterfaceRequest
  repeat' (first | with_reducible assumption | with_reducible apply runs_next | with_reducible apply runs_ite
                 | with_reducible apply tdisp_runs | simp only [↓kept_with, ↓kept_ite, ite_self, ↓State.doe_kept, ↓State.freeVal_kept,
                 ↓State.odSetN_kept, ↓State.tdiState_kept])
theorem execStartInterfaceRequest_runs (part : Fin 16) (session : BitVec 32) (nonce : BitVec 256) (hk : P s.kept) : Runs P
    (execStartInterfaceRequest part session nonce s) := by
  unfold execStartInterfaceRequest
  repeat' (first | with_reducible assumption | with_reducible apply runs_next | with_reducible apply runs_ite
                 | with_reducible apply tdisp_runs | simp only [↓kept_with, ↓kept_ite, ite_self, ↓State.doe_kept, ↓State.odSetN_kept,
                 ↓State.tdiState_kept])
theorem execStopInterfaceRequest_runs (part : Fin 16) (session : BitVec 32) (hk : P s.kept) : Runs P
    (execStopInterfaceRequest part session s) := by
  unfold execStopInterfaceRequest
  repeat' (first | with_reducible assumption | with_reducible apply runs_next | with_reducible apply runs_ite
                 | with_reducible apply tdisp_runs | simp only [↓kept_with, ↓kept_ite, ↓State.odSetN_kept, ↓State.setPart_kept,
                 ↓State.tdiState_kept, ↓State.teardown_kept] | split)
theorem execGetDeviceInterfaceReport_runs (part : Fin 16) (session : BitVec 32) (hk : P s.kept) : Runs P
    (execGetDeviceInterfaceReport part session s) := by
  unfold execGetDeviceInterfaceReport
  repeat' (first | with_reducible assumption | with_reducible apply runs_next | with_reducible apply runs_ite
                 | with_reducible apply tdisp_runs | simp only [↓State.doe_kept])
theorem execIdeIntegrityFailure_runs (fn : Fin 17) (hk : P s.kept) : Runs P (execIdeIntegrityFailure fn s) := by
  unfold execIdeIntegrityFailure
  repeat' (first | with_reducible assumption | with_reducible apply runs_next | with_reducible apply runs_ite
                 | simp only [↓State.setIde_kept, ↓State.tdiError_kept])
theorem execStallTimerExpiry_runs (queue : Fin 1024) (hk : P s.kept) : Runs P (execStallTimerExpiry queue s) := by
  unfold execStallTimerExpiry
  repeat' (first | with_reducible assumption | with_reducible apply runs_next | with_reducible apply runs_ite
                 | simp only [↓State.faultRecord_kept, ↓State.stallStart_kept] | split)
theorem execCrossingSeal_runs (cluster : Fin 24) (bit : Fin 20) (hk : P s.kept) : Runs P (execCrossingSeal cluster bit s) := by
  unfold execCrossingSeal
  repeat' (first | with_reducible assumption | with_reducible apply runs_next | with_reducible apply runs_ite
                 | simp only [↓State.faultRecord_kept, ↓State.odInc_kept, ↓State.odSetN_kept, ↓State.raise_kept, ↓State.sealAmber_kept])
theorem execPrechargeMate_runs (input : Fin 72001) (hk : P s.kept) : Runs P (execPrechargeMate input s) := by
  unfold execPrechargeMate
  repeat' (first | with_reducible assumption | with_reducible apply runs_next | with_reducible apply runs_ite
                 | simp only [↓State.housekeepingOff_kept, ↓State.lifeSet_kept])
theorem execPrsntMate_runs (mated : Bool) (hk : P s.kept) : Runs P (execPrsntMate mated s) := by
  unfold execPrsntMate
  repeat' (first | with_reducible assumption | with_reducible apply runs_next | with_reducible apply runs_ite
                 | simp only [↓State.lifeSet_kept, ↓State.switchOpens_kept])
theorem execMainBladesMate_runs (input : Fin 72001) (straps : BitVec 6) (hk : P s.kept) : Runs P (execMainBladesMate input straps s) := by
  unfold execMainBladesMate
  repeat' (first | with_reducible assumption | with_reducible apply runs_next | with_reducible apply runs_ite
                 | simp only [↓State.inputSeen_kept, ↓State.lifeSet_kept, ↓State.slotLatch_kept])
theorem execMainSwitchClose_runs  (hk : P s.kept) : Runs P (execMainSwitchClose s) := by
  unfold execMainSwitchClose
  repeat' (first | with_reducible assumption | with_reducible apply runs_next | with_reducible apply runs_ite
                 | simp only [↓kept_with, ↓State.lifeSet_kept])
theorem execPwrGood_runs  (hk : P s.kept) : Runs P (execPwrGood s) := by
  unfold execPwrGood
  repeat' (first | with_reducible assumption | with_reducible apply runs_next | with_reducible apply runs_ite
                 | simp only [↓State.lifeSet_kept, ↓State.progress_kept])
theorem execHbmTestDone_runs (stack : Fin 16) (rows : List (Fin 50331648)) (hk : P s.kept) : Runs P (execHbmTestDone stack rows s) := by
  unfold execHbmTestDone
  repeat' (first | with_reducible assumption | with_reducible apply runs_next | with_reducible apply runs_ite
                 | simp only [↓kept_with, ↓kept_ite, ite_self, ↓State.addRemap_kept, ↓State.lifeSet_kept, ↓State.progress_kept]
                 | with_reducible refine foldl_stable (fun _ _ ht => ?_) ?_)
theorem execGreyExit_runs  (hk : P s.kept) : Runs P (execGreyExit s) := by
  unfold execGreyExit
  repeat' (first | with_reducible assumption | with_reducible apply runs_next | with_reducible apply runs_ite
                 | simp only [↓State.enter_kept, ↓State.linkAmber_kept])
theorem execRemovalTimeout_runs  (hk : P s.kept) : Runs P (execRemovalTimeout s) := by
  unfold execRemovalTimeout
  repeat' (first | with_reducible assumption | with_reducible apply runs_next | with_reducible apply runs_ite
                 | simp only [↓State.lifeSet_kept, ↓State.removalGo_kept])
theorem execRemovalTeardownsDone_runs  (hk : P s.kept) : Runs P (execRemovalTeardownsDone s) := by
  unfold execRemovalTeardownsDone
  repeat' (first | with_reducible assumption | with_reducible apply runs_next | with_reducible apply runs_ite
                 | simp only [↓State.lifeSet_kept, ↓State.odApply_kept, ↓State.removalGo_kept])
theorem execPowerMeterSample_runs (millivolts milliamps idle run : Nat) (hk : P s.kept) : Runs P
    (execPowerMeterSample millivolts milliamps idle run s) := by
  unfold execPowerMeterSample
  repeat' (first | with_reducible assumption | with_reducible apply runs_next | with_reducible apply runs_ite
                 | simp only [↓kept_ite, ite_self, ↓State.limitNow_kept, ↓State.lockstepNow_kept, ↓State.odApply_kept, ↓State.odSetN_kept,
                 ↓State.pwr_kept, ↓State.regate_kept])
theorem execDroopStretch_runs (_island : Fin 372) (hk : P s.kept) : Runs P (execDroopStretch _island s) := by
  unfold execDroopStretch
  repeat' (first | with_reducible assumption | with_reducible apply runs_next | with_reducible apply runs_ite
                 | simp only [↓kept_ite, ite_self, ↓State.odInc_kept, ↓State.odSetN_kept, ↓State.pwr_kept])
theorem execGuardBandNarrow_runs  (hk : P s.kept) : Runs P (execGuardBandNarrow s) := by
  unfold execGuardBandNarrow
  repeat' (first | with_reducible assumption | with_reducible apply runs_next | with_reducible apply runs_ite
                 | simp only [↓State.odSetN_kept, ↓State.pwr_kept])
theorem execCeilingRecompute_runs  (hk : P s.kept) : Runs P (execCeilingRecompute s) := by
  unfold execCeilingRecompute
  repeat' (first | with_reducible assumption | with_reducible apply runs_next | with_reducible apply runs_ite
                 | simp only [↓State.ceilingNow_kept])
theorem execPaceReport_runs  (hk : P s.kept) : Runs P (execPaceReport s) := by
  unfold execPaceReport
  repeat' (first | with_reducible assumption | with_reducible apply runs_next | with_reducible apply runs_ite
                 | with_reducible refine paceRow_runs ‹_› (fun _ _ _ => ?_) | simp only [↓State.paceEval_kept, ↓State.pwr_kept] | split)
theorem execPaceSet_runs  (hk : P s.kept) : Runs P (execPaceSet s) := by
  unfold execPaceSet
  repeat' (first | with_reducible assumption | with_reducible apply runs_next | with_reducible apply runs_ite
                 | with_reducible refine paceRow_runs ‹_› (fun _ _ _ => ?_) | simp only [↓kept_ite, ite_self, ↓State.odInc_kept,
                 ↓State.pwr_kept, ↓State.setsDown_kept] | split)
theorem execRaiseHoldExpiry_runs  (hk : P s.kept) : Runs P (execRaiseHoldExpiry s) := by
  unfold execRaiseHoldExpiry
  repeat' (first | with_reducible assumption | with_reducible apply runs_next | with_reducible apply runs_ite
                 | simp only [↓State.leaderSet_kept] | split)
theorem execReportRefresh_runs  (hk : P s.kept) : Runs P (execReportRefresh s) := by
  unfold execReportRefresh
  repeat' (first | with_reducible assumption | with_reducible apply runs_next | with_reducible apply runs_ite
                 | simp only [↓State.sendReport_kept])
theorem execEnergyAttribution_runs (m : EnergyMeter) (hk : P s.kept) : Runs P (execEnergyAttribution m s) := by
  unfold execEnergyAttribution
  repeat' (first | with_reducible assumption | with_reducible apply runs_next | with_reducible apply runs_ite
                 | simp only [↓State.odAdd_kept, ↓State.pwr_kept] | with_reducible refine foldl_stable (fun _ _ ht => ?_) ?_)
theorem execThermalSample_runs (readings predicted : List Int) (hk : P s.kept) : Runs P (execThermalSample readings predicted s) := by
  unfold execThermalSample
  repeat' (first | with_reducible assumption | with_reducible apply runs_next | with_reducible apply runs_ite
                 | simp only [↓kept_ite, ite_self, ↓State.evalTemps_kept, ↓State.holdSample_kept, ↓State.readings_kept,
                 ↓State.tripCheck_kept] | with_reducible refine foldl_stable (fun _ _ ht => ?_) ?_)
theorem execSensorFailed_runs (sensor : Fin 196) (hk : P s.kept) : Runs P (execSensorFailed sensor s) := by
  unfold execSensorFailed
  repeat' (first | with_reducible assumption | with_reducible apply runs_next | with_reducible apply runs_ite
                 | simp only [↓kept_ite, ite_self, ↓State.limitNow_kept, ↓State.odSetN_kept, ↓State.physicalFault_kept,
                 ↓State.sensorAmber_kept, ↓State.thm_kept] | split)
theorem execLowFlow_runs  (hk : P s.kept) : Runs P (execLowFlow s) := by
  unfold execLowFlow
  repeat' (first | with_reducible assumption | with_reducible apply runs_next | with_reducible apply runs_ite
                 | simp only [↓State.raise_kept, ↓State.thm_kept] | split)
theorem execLeakMeasurement_runs (ohms : Nat) (hk : P s.kept) : Runs P (execLeakMeasurement ohms s) := by
  unfold execLeakMeasurement
  repeat' (first | with_reducible assumption | with_reducible apply runs_next | with_reducible apply runs_ite
                 | simp only [↓kept_ite, ite_self, ↓State.evalLeak_kept, ↓State.holdSample_kept, ↓State.odSetN_kept, ↓State.powerOff_kept,
                 ↓State.thm_kept])
theorem execLeakSelfTest_runs (low high : Nat) (hk : P s.kept) : Runs P (execLeakSelfTest low high s) := by
  unfold execLeakSelfTest
  repeat' (first | with_reducible assumption | with_reducible apply runs_next | with_reducible apply runs_ite
                 | simp only [↓kept_ite, ite_self, ↓State.evalSelfTest_kept, ↓State.holdSample_kept])
theorem execSafetyCauseStore_runs  (hk : P s.kept) : Runs P (execSafetyCauseStore s) := by
  unfold execSafetyCauseStore
  repeat' (first | with_reducible assumption | with_reducible apply runs_next | with_reducible apply runs_ite
                 | simp only [↓kept_ite, ite_self, ↓State.lilac_kept, ↓State.raise_kept, ↓State.storeCause_kept])
theorem execDieComparatorTrip_runs (die : Fin 4) (hk : P s.kept) : Runs P (execDieComparatorTrip die s) := by
  unfold execDieComparatorTrip
  repeat' (first | with_reducible assumption | with_reducible apply runs_next | with_reducible apply runs_ite
                 | simp only [↓State.powerOff_kept, ↓State.pwr_kept])
theorem execManagerAbsenceExpiry_runs  (hk : P s.kept) : Runs P (execManagerAbsenceExpiry s) := by
  unfold execManagerAbsenceExpiry
  repeat' (first | with_reducible assumption | with_reducible apply runs_next | with_reducible apply runs_ite
                 | simp only [↓State.amber_kept, ↓State.odApply_kept])
theorem execTelemetrySample_runs  (hk : P s.kept) : Runs P (execTelemetrySample s) := by
  unfold execTelemetrySample
  repeat' (first | with_reducible assumption | with_reducible apply runs_next | with_reducible apply runs_ite | simp only [↓kept_with])
theorem execDiscover_runs (src dst : BitVec 48) (sound formed : Bool) (hk : P s.kept) : Runs P (execDiscover src dst sound formed s) := by
  unfold execDiscover
  repeat' (first | with_reducible assumption | with_reducible apply runs_next | with_reducible apply runs_ite
                 | simp only [↓State.mgmtSet_kept, ↓State.odInc_kept, ↓State.sendTo_kept])
theorem execAnnounce_runs  (hk : P s.kept) : Runs P (execAnnounce s) := by
  unfold execAnnounce
  repeat' (first | with_reducible assumption | with_reducible apply runs_next | with_reducible apply runs_ite
                 | simp only [↓State.announceTo_kept, ↓State.mgmtSet_kept] | split)
theorem execEventResend_runs (session : BitVec 16) (seq : BitVec 32) (hk : P s.kept) : Runs P (execEventResend session seq s) := by
  unfold execEventResend
  repeat' (first | with_reducible assumption | with_reducible apply runs_next | with_reducible apply runs_ite
                 | simp only [↓State.sendTo_kept] | split)
theorem execSessionTimeout_runs (session : BitVec 16) (hk : P s.kept) : Runs P (execSessionTimeout session s) := by
  unfold execSessionTimeout
  repeat' (first | with_reducible assumption | with_reducible apply runs_next | with_reducible apply runs_ite
                 | simp only [↓State.endSession_kept] | split)
theorem execSegmentIdleTimeout_runs (session : BitVec 16) (hk : P s.kept) : Runs P (execSegmentIdleTimeout session s) := by
  unfold execSegmentIdleTimeout
  repeat' (first | with_reducible assumption | with_reducible apply runs_next | with_reducible apply runs_ite
                 | simp only [↓State.updSession_kept] | split)
theorem execBeacon_runs  (hk : P s.kept) : Runs P (execBeacon s) := by
  unfold execBeacon
  repeat' (first | with_reducible assumption | with_reducible apply runs_next | with_reducible apply runs_ite
                 | simp only [↓State.mgmtSet_kept, ↓State.plcaTake_kept])
theorem execBeaconTimeout_runs  (hk : P s.kept) : Runs P (execBeaconTimeout s) := by
  unfold execBeaconTimeout
  repeat' (first | with_reducible assumption | with_reducible apply runs_next | with_reducible apply runs_ite
                 | simp only [↓State.mgmtSet_kept])
theorem execReqTailWrite_runs (value : BitVec 16) (hk : P s.kept) : Runs P (execReqTailWrite value s) := by
  unfold execReqTailWrite
  repeat' (first | with_reducible assumption | with_reducible apply runs_next | with_reducible apply runs_ite
                 | simp only [↓State.reqTail_kept])
theorem execRspHeadWrite_runs (value : BitVec 16) (hk : P s.kept) : Runs P (execRspHeadWrite value s) := by
  unfold execRspHeadWrite
  repeat' (first | with_reducible assumption | with_reducible apply runs_next | with_reducible apply runs_ite
                 | simp only [↓State.rspHead_kept])
theorem execCompletingDone_runs  (hk : P s.kept) : Runs P (execCompletingDone s) := by
  unfold execCompletingDone
  repeat' (first | with_reducible assumption | with_reducible apply runs_next | with_reducible apply runs_ite
                 | simp only [↓State.fwFinish_kept, ↓State.setSlate_kept])
theorem execRevertingDone_runs  (hk : P s.kept) : Runs P (execRevertingDone s) := by
  unfold execRevertingDone
  repeat' (first | with_reducible assumption | with_reducible apply runs_next | with_reducible apply runs_ite
                 | simp only [↓State.fwGo_kept, ↓State.fwSet_kept, ↓State.setSlate_kept])
theorem execFuseStep_runs  (hk : P s.kept) : Runs P (execFuseStep s) := by
  unfold execFuseStep
  repeat' (first | with_reducible assumption | with_reducible apply runs_next | with_reducible apply runs_ite
                 | simp only [↓State.odInc_kept])
theorem execTraceFrame_runs  (hk : P s.kept) : Runs P (execTraceFrame s) := by
  unfold execTraceFrame
  repeat' (first | with_reducible assumption | with_reducible apply runs_next | with_reducible apply runs_ite
                 | simp only [↓kept_with, ↓State.emit_kept, ↓State.odApply_kept])
theorem execSwapDeskewDone_runs (link : Fin 12) (gen : Fin 16) (hk : P s.kept) : Runs P (execSwapDeskewDone link gen s) := by
  unfold execSwapDeskewDone
  repeat' (first | with_reducible assumption | with_reducible apply runs_next | with_reducible apply runs_ite
                 | simp only [↓kept_ite, ite_self, ↓State.control_kept, ↓State.laneFails_kept, ↓State.linkEvent_kept, ↓State.linkGo_kept,
                 ↓State.odInc_kept, ↓State.setLink_kept, ↓State.showMap_kept] | with_reducible refine foldl_stable (fun _ _ ht => ?_) ?_
                 | split)
theorem execAlignmentLost_runs (link : Fin 12) (hk : P s.kept) : Runs P (execAlignmentLost link s) := by
  unfold execAlignmentLost
  repeat' (first | with_reducible assumption | with_reducible apply runs_next | with_reducible apply runs_ite
                 | simp only [↓kept_ite, ite_self, ↓State.linkFail_kept, ↓State.setLink_kept])
theorem execSepiaInternalCheckFailure_runs (stack : Fin 16) (hk : P s.kept) : Runs P (execSepiaInternalCheckFailure stack s) := by
  unfold execSepiaInternalCheckFailure
  repeat' (first | with_reducible assumption | with_reducible apply runs_next | with_reducible apply runs_ite
                 | simp only [↓kept_ite, ite_self, ↓State.engineFault_kept])
theorem execHostLinkTrained_runs (rate : Fin 7) (width : Fin 17) (hk : P s.kept) : Runs P (execHostLinkTrained rate width s) := by
  unfold execHostLinkTrained
  repeat' (first | with_reducible assumption | with_reducible apply runs_next | with_reducible apply runs_ite
                 | simp only [↓State.lifeSet_kept, ↓State.odApply_kept, ↓State.odSetN_kept])
theorem execInputReturn_runs (input : Fin 72001) (straps : BitVec 6) (hk : P s.kept) : Runs P (execInputReturn input straps s) := by
  unfold execInputReturn
  repeat' (first | with_reducible assumption | with_reducible apply runs_next | with_reducible apply runs_ite
                 | simp only [↓kept_ite, ite_self, ↓State.inputSeen_kept, ↓State.slotLatch_kept])
theorem execTckCycle_runs (tms tdi removeReq perst : Bool) (hk : P s.kept) : Runs P (execTckCycle tms tdi removeReq perst s) := by
  unfold execTckCycle
  repeat' (first | with_reducible assumption | with_reducible apply runs_next | with_reducible apply runs_ite
                 | simp only [↓kept_with, ↓kept_ite, ite_self, ↓State.emit_kept] | with_reducible refine foldl_stable (fun _ _ ht => ?_) ?_)
theorem execTrstAssert_runs  (hk : P s.kept) : Runs P (execTrstAssert s) := by
  unfold execTrstAssert
  repeat' (first | with_reducible assumption | with_reducible apply runs_next | with_reducible apply runs_ite | simp only [↓kept_with])
theorem execVerificationDone_runs  (hk : P s.kept) : Runs P (execVerificationDone s) := by
  unfold execVerificationDone
  repeat' (first | with_reducible assumption | with_reducible apply runs_next | with_reducible apply runs_ite
                 | simp only [↓kept_ite, ite_self, ↓State.fwGo_kept, ↓State.fwSet_kept, ↓State.migrationEvents_kept, ↓State.setSlate_kept,
                 ↓State.slateCross_kept])
theorem execCancellingDone_runs  (hk : P s.kept) : Runs P (execCancellingDone s) := by
  unfold execCancellingDone
  repeat' (first | with_reducible assumption | with_reducible apply runs_next | with_reducible apply runs_ite
                 | simp only [↓kept_ite, ite_self, ↓State.fwGo_kept, ↓State.fwSet_kept, ↓State.setSlate_kept])
end
end Sys2Proof.Machine

/-! SUPPORT. The commands that store: their effect is a next state too, and keeps what memory writes keep. -/
namespace Sys2Proof.Machine
section
variable {P : Kept → Prop} [MemStable P] {s : State}

omit [MemStable P] in
theorem onE_map {r : Except (Nat × Acc) State} {f : State → State} (h : OnE P r) (hf : ∀ t, P t.kept → P (f t).kept) :
    OnE P (r.map f) := by
  cases r with
  | ok t => exact hf t h
  | error w => exact True.intro

theorem mIssue_runs {n : Fin 288} {op : Nat} {ecc : Ecc} (hk : P s.kept) : Runs P (mIssue n op ecc s) := by
  refine issue_runs hk (fun k w => ?_)
  simp only []
  split
  · exact (congrArg P (State.syncFault_kept _ _ _ _ _ _)).mpr hk
  · rw [kept_ite]
    split
    · exact hk
    · exact State.mStart_stable _ _ _ _ ((congrArg P (State.retire_kept _ _ _ _)).mpr hk)

theorem sepiaRow_runs {op id : Nat} {seen : List Ecc} (hk : P s.kept) : Runs P (sepiaRow op id seen s) := by
  unfold sepiaRow
  split
  · exact runs_next hk
  · refine runs_next ?_
    rw [kept_ite]
    split
    · exact State.cmdTry_stable _ _ _ hk
    · exact hk

theorem stanReq_runs {f : Frame} {q : SReq} (hk : P s.kept) : Runs P (stanReq f q s) := by
  unfold stanReq
  refine runs_ite (runs_next hk) ?_
  have hm : P (if f.door == .h then s.mbxNext else (some (f, q), s)).2.kept := by split <;> exact hk
  split
  next t h => rw [h] at hm; exact runs_next hm
  next r t h => rw [h] at hm; exact runs_ite (runs_next hm) (runs_next (State.receive_stable _ _ _ hm))

theorem execTOpComplete_runs (core : Fin 288) (ecc : Ecc) (hk : P s.kept) : Runs P (execTOpComplete core ecc s) := by
  unfold execTOpComplete
  repeat' (first | with_reducible assumption | with_reducible apply runs_next | with_reducible apply runs_ite
                 | simp only [↓kept_ite, ite_self, ↓State.addAct_kept, ↓State.asyncFault_kept, ↓State.eccCount_kept, ↓State.freeVal_kept,
                 ↓State.releaseCore_kept, ↓State.setCore_kept] | with_reducible exact take_stable ‹_› ‹_›
                 | with_reducible apply State.tFinish_stable | with_reducible apply spadWrite_stable | split)
theorem execDmaCp_runs (core : Fin 288) (hk : P s.kept) : Runs P (execDmaCp core s) := mIssue_runs hk
theorem execRput_runs (core : Fin 288) (ecc : Ecc) (hk : P s.kept) : Runs P (execRput core ecc s) := mIssue_runs hk
theorem execRget_runs (core : Fin 288) (hk : P s.kept) : Runs P (execRget core s) := mIssue_runs hk
theorem execCsig_runs (core : Fin 288) (hk : P s.kept) : Runs P (execCsig core s) := mIssue_runs hk
theorem execRsig_runs (core : Fin 288) (hk : P s.kept) : Runs P (execRsig core s) := mIssue_runs hk
theorem execTbl_runs (core : Fin 288) (ecc : Ecc) (hk : P s.kept) : Runs P (execTbl core ecc s) := mIssue_runs hk
theorem execMOpComplete_runs (core : Fin 288) (id : Nat) (ecc dest : Ecc) (hk : P s.kept) : Runs P
    (execMOpComplete core id ecc dest s) := by
  unfold execMOpComplete
  repeat' (first | with_reducible assumption | with_reducible apply runs_next | with_reducible apply runs_ite
                 | simp only [↓State.addCnt_kept, ↓State.countIsolation_kept, ↓State.dropMop_kept, ↓State.mDone_kept, ↓State.mFault_kept]
                 | with_reducible apply State.dmaCopy_stable | with_reducible apply State.mStart_stable | split)
theorem execVOpComplete_runs (core : Fin 288) (ecc : Ecc) (hk : P s.kept) : Runs P (execVOpComplete core ecc s) := by
  unfold execVOpComplete
  repeat' (first | with_reducible assumption | with_reducible apply runs_next | with_reducible apply runs_ite
                 | simp only [↓kept_ite, ite_self, ↓State.asyncFault_kept, ↓State.eccCount_kept, ↓State.releaseCore_kept,
                 ↓State.setCore_kept] | with_reducible apply State.vFinish_stable | split)
theorem execProgramCopyComplete_runs (core : Fin 288) (slot : Fin 4) (hk : P s.kept) : Runs P (execProgramCopyComplete core slot s) := by
  unfold execProgramCopyComplete
  repeat' (first | with_reducible assumption | with_reducible apply runs_next | with_reducible apply runs_ite
                 | simp only [↓State.copyFault_kept, ↓State.countBad_kept, ↓State.noteAcc_kept, ↓State.readSeen_kept,
                 ↓State.setCore_kept] | with_reducible apply State.wr_stable)
theorem execHandoverPoint_runs (core : Fin 288) (bank : Fin 32) (hk : P s.kept) : Runs P (execHandoverPoint core bank s) := by
  unfold execHandoverPoint
  repeat' (first | with_reducible assumption | with_reducible apply runs_next | with_reducible apply runs_ite
                 | simp only [↓kept_ite, ↓State.bankHeldGo_kept, ↓State.bankWritten_kept, ↓State.setBank_kept]
                 | with_reducible apply State.bankZero_stable | split)
theorem execMarchRequest_runs (frame : Frame) (core : Fin 288) (value : BitVec 16) (hk : P s.kept) : Runs P
    (execMarchRequest frame core value s) := stanReq_runs hk
theorem execMarchTestEnd_runs (core : Fin 288) (reads : List MarchRead) (hk : P s.kept) : Runs P (execMarchTestEnd core reads s) := by
  unfold execMarchTestEnd
  repeat' (first | with_reducible assumption | with_reducible apply runs_next | with_reducible apply runs_ite
                 | simp only [↓kept_ite, ite_self, ↓State.bankFail_kept, ↓State.bankHeldGo_kept, ↓State.marchProgress_kept,
                 ↓State.marchResult_kept, ↓State.markDefect_kept, ↓State.setCore_kept] | with_reducible apply State.bankFree_stable
                 | with_reducible apply State.bankZero_stable | with_reducible apply State.marchTake_stable | split)
theorem execPoolMarchEnd_runs (cluster : Fin 24) (reads : List MarchRead) (hk : P s.kept) : Runs P (execPoolMarchEnd cluster reads s) := by
  unfold execPoolMarchEnd
  repeat' (first | with_reducible assumption | with_reducible apply runs_next | with_reducible apply runs_ite
                 | simp only [↓kept_ite, ite_self, ↓State.faultRecord_kept, ↓State.marchProgress_kept, ↓State.odSetN_kept,
                 ↓State.setMap_kept] | with_reducible apply State.zero_stable)
theorem execHbmRead_runs (part : Fin 16) (addr : Addr) (parity : Bool) (errs : Nat) (hk : P s.kept) : Runs P
    (execHbmRead part addr parity errs s) := by
  unfold execHbmRead
  repeat' (first | with_reducible assumption | with_reducible apply runs_next | with_reducible apply runs_ite
                 | simp only [↓State.countReach_kept, ↓State.emit_kept, ↓State.hotRead_kept]
                 | with_reducible apply State.decodeSector_stable | split)
theorem execSectorWrite_runs (part : Fin 16) (addr : Addr) (data : List Byte) (hk : P s.kept) : Runs P
    (execSectorWrite part addr data s) := by
  unfold execSectorWrite
  repeat' (first | with_reducible assumption | with_reducible apply runs_next | with_reducible apply runs_ite
                 | simp only [↓kept_with, ↓State.countBad_kept, ↓State.countReach_kept, ↓State.noteGate_kept]
                 | with_reducible apply State.hbmPut_stable | split)
theorem execLedgerRoomFreed_runs (stack : Fin 16) (hk : P s.kept) : Runs P (execLedgerRoomFreed stack s) := by
  unfold execLedgerRoomFreed
  repeat' (first | with_reducible assumption | with_reducible apply runs_next | with_reducible apply runs_ite
                 | simp only [↓kept_with, ↓kept_ite, ↓State.odInc_kept] | with_reducible apply State.hbmPut_stable
                 | with_reducible refine foldl_stable (fun _ _ ht => ?_) ?_ | split)
theorem execPatrolRead_runs (stack : Fin 16) (errs : Nat) (hk : P s.kept) : Runs P (execPatrolRead stack errs s) := by
  unfold execPatrolRead
  repeat' (first | with_reducible assumption | with_reducible apply runs_next | with_reducible apply runs_ite
                 | simp only [↓kept_with, ↓kept_ite, ite_self, ↓State.odApply_kept, ↓State.raise_kept]
                 | with_reducible apply State.decodeSector_stable)
theorem execSparePairAssign_runs (frame : Frame) (stack : Fin 16) (channel : Fin 32) (hk : P s.kept) : Runs P
    (execSparePairAssign frame stack channel s) := stanReq_runs hk
theorem execSparePairCancel_runs (frame : Frame) (stack : Fin 16) (hk : P s.kept) : Runs P
    (execSparePairCancel frame stack s) := stanReq_runs hk
theorem execSepiaLookup_runs (id : Nat) (seen : List Ecc) (hk : P s.kept) : Runs P (execSepiaLookup id seen s) := sepiaRow_runs hk
theorem execSepiaPool_runs (id : Nat) (seen : List Ecc) (hk : P s.kept) : Runs P (execSepiaPool id seen s) := sepiaRow_runs hk
theorem execScatterAdd_runs (id : Nat) (seen : List Ecc) (hk : P s.kept) : Runs P (execScatterAdd id seen s) := sepiaRow_runs hk
theorem execRowUpdate_runs (id : Nat) (seen : List Ecc) (hk : P s.kept) : Runs P (execRowUpdate id seen s) := sepiaRow_runs hk
theorem execStreamCopy_runs (id : Nat) (seen : List Ecc) (hk : P s.kept) : Runs P (execStreamCopy id seen s) := sepiaRow_runs hk
theorem execSepiaFill_runs (id : Nat) (seen : List Ecc) (hk : P s.kept) : Runs P (execSepiaFill id seen s) := sepiaRow_runs hk
theorem execSepiaCommandComplete_runs (id : Nat) (hk : P s.kept) : Runs P (execSepiaCommandComplete id s) := by
  unfold execSepiaCommandComplete
  repeat' (first | with_reducible assumption | with_reducible apply runs_next | with_reducible apply runs_ite
                 | simp only [↓kept_ite, ↓State.bypassSafe_kept, ↓State.cmdReport_kept] | with_reducible apply State.cmdTry_stable
                 | with_reducible apply State.mStart_stable | split)
theorem execSepiaBypass_runs (frame : Frame) (stack : Fin 16) (value : Bool) (hk : P s.kept) : Runs P
    (execSepiaBypass frame stack value s) := stanReq_runs hk
theorem execRestoreEnd_runs (stack part : Fin 16) (hk : P s.kept) : Runs P (execRestoreEnd stack part s) := by
  unfold execRestoreEnd
  repeat' (first | with_reducible assumption | with_reducible apply runs_next | with_reducible apply runs_ite
                 | simp only [↓kept_with, ↓kept_ite, ite_self, ↓State.colourStart_kept, ↓State.enterFenced_kept,
                 ↓State.ledgerSettings_kept, ↓State.odSetN_kept, ↓State.showLedger_kept, ↓State.stillFull_kept]
                 | with_reducible apply State.restoreEntries_stable | split)
theorem execCopyUnitDone_runs (queue : Fin 1024) (index unit : Nat) (result : CopyResult) (hk : P s.kept) : Runs P
    (execCopyUnitDone queue index unit result s) := by
  unfold execCopyUnitDone
  repeat' (first | with_reducible assumption | with_reducible apply runs_next | with_reducible apply runs_ite
                 | simp only [↓kept_ite, ite_self, ↓State.copyCheck_kept, ↓State.countBad_kept, ↓State.eccSeen_kept, ↓State.freeVal_kept,
                 ↓State.noteAcc_kept, ↓State.noteHost_kept, ↓State.readSeen_kept, ↓State.updFlight_kept]
                 | with_reducible exact take_stable ‹_› ‹_› | with_reducible apply State.copyOut_stable | split)
theorem execDescriptorComplete_runs  (hk : P s.kept) : Runs P (execDescriptorComplete s) := by
  unfold execDescriptorComplete
  repeat' (first | with_reducible assumption | with_reducible apply runs_next | with_reducible apply runs_ite | simp only []
                 | with_reducible apply State.complete_stable | split)
theorem execHostWindowWrite_runs (fn : Fin 17) (win : Fin 2) (off : BitVec 36) (data : List Byte) (ecc : Ecc) (hk : P s.kept) : Runs P
    (execHostWindowWrite fn win off data ecc s) := by
  unfold execHostWindowWrite
  repeat' (first | with_reducible assumption | with_reducible apply runs_next | with_reducible apply runs_ite
                 | simp only [↓State.bankWrite_kept, ↓State.countAddress_kept, ↓State.noteGate_kept, ↓State.noteHost_kept]
                 | with_reducible apply State.windowPut_stable | split)
theorem execLinkEnable_runs (frame : Frame) (link : Fin 12) (hk : P s.kept) : Runs P (execLinkEnable frame link s) := stanReq_runs hk
theorem execLinkDisable_runs (frame : Frame) (link : Fin 12) (hk : P s.kept) : Runs P (execLinkDisable frame link s) := stanReq_runs hk
theorem execLoopbackRequest_runs (frame : Frame) (link : Fin 12) (value : BitVec 32) (hk : P s.kept) : Runs P
    (execLoopbackRequest frame link value s) := stanReq_runs hk
theorem execFabricWrite_runs (ecc : Ecc) (hk : P s.kept) : Runs P (execFabricWrite ecc s) := by
  unfold execFabricWrite
  repeat' (first | with_reducible assumption | with_reducible apply runs_next | with_reducible apply runs_ite
                 | with_reducible refine serve_runs ‹_› (fun _ _ _ _ => ?_) | simp only [↓kept_ite, ite_self, ↓onE_ok, ↓onE_error,
                 ↓State.answer_kept, ↓State.arrivalCount_kept, ↓State.countBad_kept, ↓State.eccSeen_kept, ↓State.noteAcc_kept,
                 ↓State.refuseReq_kept] | with_reducible apply State.put_stable | with_reducible apply onE_ite | split)
theorem execFabricReadData_runs (ecc : Ecc) (hk : P s.kept) : Runs P (execFabricReadData ecc s) := by
  unfold execFabricReadData
  refine replyRow_runs hk (fun p r t ht => ?_)
  split
  · exact onE_map (State.getArrives_stable _ _ _ _ _ _ ht) (fun u hu => (congrArg P (State.reqGone_kept _ _ _ _)).mpr hu)
  · exact (congrArg P (State.reqGone_kept _ _ _ _)).mpr ht
theorem execCoordinateWrite_runs (frame : Frame) (value : BitVec 32) (hk : P s.kept) : Runs P
    (execCoordinateWrite frame value s) := stanReq_runs hk
theorem execRoutingTableWrite_runs (frame : Frame) (table : Bool) (bytes : List Byte) (hk : P s.kept) : Runs P
    (execRoutingTableWrite frame table bytes s) := stanReq_runs hk
theorem execSwapRequest_runs (frame : Frame) (value : Word) (hk : P s.kept) : Runs P (execSwapRequest frame value s) := stanReq_runs hk
theorem execCollUp_runs (bad : Bool) (ecc : Ecc) (hk : P s.kept) : Runs P (execCollUp bad ecc s) := by
  unfold execCollUp
  repeat' (first | with_reducible assumption | with_reducible apply runs_next | with_reducible apply runs_ite
                 | with_reducible refine colRow_runs ‹_› (fun _ _ _ _ => ?_) | simp only [↓onE_ok, ↓onE_error, ↓State.answer_kept,
                 ↓State.colSend_kept, ↓State.collBad_kept, ↓State.collFail_kept, ↓State.retireSlot_kept, ↓State.updColl_kept]
                 | with_reducible apply State.colPut_stable | with_reducible apply onE_ite
                 | with_reducible refine foldl_stable (fun _ _ ht => ?_) ?_ | split)
theorem execDownPhase_runs (ecc : Ecc) (hk : P s.kept) : Runs P (execDownPhase ecc s) := by
  unfold execDownPhase
  repeat' (first | with_reducible assumption | with_reducible apply runs_next | with_reducible apply runs_ite
                 | with_reducible refine colRow_runs ‹_› (fun _ _ _ _ => ?_) | simp only [↓onE_ok, ↓onE_error, ↓State.answer_kept,
                 ↓State.collBad_kept, ↓State.collCheck_kept, ↓State.sendDown_kept, ↓State.updColl_kept]
                 | with_reducible apply State.colPut_stable | with_reducible apply onE_ite)
theorem execChunkCombined_runs (group : Fin 4096) (chunk : Fin 1048576) (bad : Option (Fin 8)) (ecc dest : Ecc) (hk : P s.kept) : Runs P
    (execChunkCombined group chunk bad ecc dest s) := by
  unfold execChunkCombined
  repeat' (first | with_reducible assumption | with_reducible apply runs_next | with_reducible apply runs_ite
                 | simp only [↓kept_with, ↓kept_ite, ite_self] | with_reducible apply State.combine_stable
                 | with_reducible apply orHeld_stable | split)
theorem execGroupDescriptorWrite_runs (frame : Frame) (group : Fin 4096) (bytes : List Byte) (hk : P s.kept) : Runs P
    (execGroupDescriptorWrite frame group bytes s) := stanReq_runs hk
theorem execPartitionCreate_runs (frame : Frame) (part : Fin 16) (hk : P s.kept) : Runs P
    (execPartitionCreate frame part s) := stanReq_runs hk
theorem execPartitionTeardown_runs (frame : Frame) (part : Fin 16) (hk : P s.kept) : Runs P
    (execPartitionTeardown frame part s) := stanReq_runs hk
theorem execScrubDone_runs (part : Fin 16) (bad : List (Fin 288 × Fin 32)) (hk : P s.kept) : Runs P (execScrubDone part bad s) := by
  unfold execScrubDone
  repeat' (first | with_reducible assumption | with_reducible apply runs_next | with_reducible apply runs_ite
                 | simp only [↓State.bankFail_kept, ↓State.scrubKeys_kept] | with_reducible apply State.scrub_stable
                 | with_reducible apply State.scrubEnd_stable | with_reducible refine foldl_stable (fun _ _ ht => ?_) ?_)
theorem execPeerAdmissionWrite_runs (frame : Frame) (part : Fin 16) (value : BitVec 32) (hk : P s.kept) : Runs P
    (execPeerAdmissionWrite frame part value s) := stanReq_runs hk
theorem execFabricWindowWrite_runs (frame : Frame) (part : Fin 16) (win : Fin 64) (data : List Byte) (hk : P s.kept) : Runs P
    (execFabricWindowWrite frame part win data s) := stanReq_runs hk
theorem execCreateJobSecret_runs (frame : Frame) (sel : BitVec 8) (hk : P s.kept) : Runs P
    (execCreateJobSecret frame sel s) := stanReq_runs hk
theorem execMakeOffer_runs (frame : Frame) (sel : BitVec 8) (hk : P s.kept) : Runs P (execMakeOffer frame sel s) := stanReq_runs hk
theorem execGrantRequest_runs (frame : Frame) (data : List Byte) (hk : P s.kept) : Runs P (execGrantRequest frame data s) := stanReq_runs hk
theorem execInstallGrant_runs (frame : Frame) (data : List Byte) (hk : P s.kept) : Runs P (execInstallGrant frame data s) := stanReq_runs hk
theorem execDestroyJobSecret_runs (frame : Frame) (sel : BitVec 8) (hk : P s.kept) : Runs P
    (execDestroyJobSecret frame sel s) := stanReq_runs hk
theorem execUnsealRequest_runs (frame : Frame) (data : List Byte) (hk : P s.kept) : Runs P
    (execUnsealRequest frame data s) := stanReq_runs hk
theorem execTamper_runs (cause : Fin 4) (hk : P s.kept) : Runs P (execTamper cause s) := by
  unfold execTamper
  repeat' (first | with_reducible assumption | with_reducible apply runs_next | with_reducible apply runs_ite
                 | simp only [↓State.clearKeys_kept, ↓State.odInc_kept, ↓State.odSetN_kept] | with_reducible apply State.redFault_stable)
theorem execProgressWatchdogFire_runs (core : Fin 288) (hk : P s.kept) : Runs P (execProgressWatchdogFire core s) := by
  unfold execProgressWatchdogFire
  repeat' (first | with_reducible assumption | with_reducible apply runs_next | with_reducible apply runs_ite
                 | simp only [↓kept_with, ↓State.odApply_kept] | with_reducible apply State.faultReset_stable
                 | with_reducible apply State.replayEnds_stable)
theorem execPllLossOfLock_runs (island : Fin 372) (hk : P s.kept) : Runs P (execPllLossOfLock island s) := by
  unfold execPllLossOfLock
  repeat' (first | with_reducible assumption | with_reducible apply runs_next | with_reducible apply runs_ite
                 | simp only [↓kept_with, ↓kept_ite, ite_self] | with_reducible apply State.faultReset_stable)
theorem execControlStateError_runs (cluster : Option (Fin 24)) (hk : P s.kept) : Runs P (execControlStateError cluster s) := by
  unfold execControlStateError
  repeat' (first | with_reducible assumption | with_reducible apply runs_next | with_reducible apply runs_ite
                 | simp only [↓kept_with, ↓kept_ite, ite_self] | with_reducible apply State.faultReset_stable | split)
theorem execSlateSilence_runs  (hk : P s.kept) : Runs P (execSlateSilence s) := by
  unfold execSlateSilence
  repeat' (first | with_reducible assumption | with_reducible apply runs_next | with_reducible apply runs_ite
                 | simp only [↓State.announceTo_kept, ↓State.slateSilent_kept] | with_reducible apply State.heldRun_stable)
theorem execResetCore_runs (frame : Frame) (target : BitVec 28) (hk : P s.kept) : Runs P (execResetCore frame target s) := stanReq_runs hk
theorem execResetCluster_runs (frame : Frame) (target : BitVec 28) (hk : P s.kept) : Runs P
    (execResetCluster frame target s) := stanReq_runs hk
theorem execResetComputePart_runs (frame : Frame) (target : BitVec 28) (hk : P s.kept) : Runs P
    (execResetComputePart frame target s) := stanReq_runs hk
theorem execResetWholeModule_runs (frame : Frame) (target : BitVec 28) (hk : P s.kept) : Runs P
    (execResetWholeModule frame target s) := stanReq_runs hk
theorem execLegacyCore_runs (frame : Frame) (target : BitVec 28) (hk : P s.kept) : Runs P (execLegacyCore frame target s) := stanReq_runs hk
theorem execLegacyCluster_runs (frame : Frame) (target : BitVec 28) (hk : P s.kept) : Runs P
    (execLegacyCluster frame target s) := stanReq_runs hk
theorem execLegacyPartition_runs (frame : Frame) (target : BitVec 28) (hk : P s.kept) : Runs P
    (execLegacyPartition frame target s) := stanReq_runs hk
theorem execLegacyWholeModule_runs (frame : Frame) (target : BitVec 28) (hk : P s.kept) : Runs P
    (execLegacyWholeModule frame target s) := stanReq_runs hk
theorem execResetRelease_runs (scope : Fin 9) (target : Fin 512) (spareBad : BitVec 16) (hk : P s.kept) : Runs P
    (execResetRelease scope target spareBad s) := by
  unfold execResetRelease
  repeat' (first | with_reducible assumption | with_reducible apply runs_next | with_reducible apply runs_ite
                 | simp only [↓kept_with, ↓kept_ite, ite_self, ↓State.lilac_kept, ↓State.resetStatus_kept]
                 | with_reducible apply State.releaseScope_stable | split)
theorem execResetOverrun_runs (scope : Fin 5) (target : Fin 512) (hk : P s.kept) : Runs P (execResetOverrun scope target s) := by
  unfold execResetOverrun
  repeat' (first | with_reducible assumption | with_reducible apply runs_next | with_reducible apply runs_ite
                 | simp only [↓kept_ite, ite_self, ↓State.resetStatus_kept] | with_reducible apply State.faultReset_stable
                 | with_reducible apply State.redFault_stable | split)
theorem execFenceEnd_runs (isCluster : Bool) (num : Fin 288) (timedOut : Bool) (hk : P s.kept) : Runs P
    (execFenceEnd isCluster num timedOut s) := by
  unfold execFenceEnd
  repeat' (first | with_reducible assumption | with_reducible apply runs_next | with_reducible apply runs_ite
                 | simp only [↓kept_ite, ite_self, ↓State.drainOut_kept, ↓State.tagAdvance_kept, ↓State.unfence_kept]
                 | with_reducible apply State.legacyGo_stable)
theorem execReplayStart_runs (core : Fin 288) (hk : P s.kept) : Runs P (execReplayStart core s) := by
  unfold execReplayStart
  repeat' (first | with_reducible assumption | with_reducible apply runs_next | with_reducible apply runs_ite
                 | simp only [↓State.odApply_kept, ↓State.odInc_kept, ↓State.setCore_kept, ↓State.setReplay_kept]
                 | with_reducible apply State.coreClear_stable | split)
theorem execReplayEnd_runs (core : Fin 288) (how : ReplayEnd) (hk : P s.kept) : Runs P (execReplayEnd core how s) := by
  unfold execReplayEnd
  repeat' (first | with_reducible assumption | with_reducible apply runs_next | with_reducible apply runs_ite | simp only []
                 | with_reducible apply State.replayEnds_stable | split)
theorem execHoldupEnd_runs  (hk : P s.kept) : Runs P (execHoldupEnd s) := by
  unfold execHoldupEnd
  repeat' (first | with_reducible assumption | with_reducible apply runs_next | with_reducible apply runs_ite | simp only [↓kept_with]
                 | with_reducible apply State.powerLost_stable)
theorem execSlateBootDone_runs (aCur aLast bCur bLast : Bool) (hk : P s.kept) : Runs P (execSlateBootDone aCur aLast bCur bLast s) := by
  unfold execSlateBootDone
  repeat' (first | with_reducible assumption | with_reducible apply runs_next | with_reducible apply runs_ite
                 | simp only [↓kept_ite, ite_self, ↓State.announceTo_kept, ↓State.bootOne_kept, ↓State.fwSet_kept, ↓State.fwShow_kept,
                 ↓State.plcaTake_kept, ↓State.progress_kept, ↓State.updateAfterLoss_kept] | with_reducible apply State.stepFour_stable
                 | split)
theorem execOnyxRegenerationDone_runs (ok : Bool) (hk : P s.kept) : Runs P (execOnyxRegenerationDone ok s) := by
  unfold execOnyxRegenerationDone
  repeat' (first | with_reducible assumption | with_reducible apply runs_next | with_reducible apply runs_ite
                 | simp only [↓State.freeVal_kept, ↓State.odSet_kept, ↓State.odSetN_kept, ↓State.onyx_kept, ↓State.progress_kept]
                 | with_reducible apply State.redFault_stable | with_reducible apply State.stepFour_stable)
theorem execMemoryTrainingDone_runs (stack : Fin 16) (failing : BitVec 64) (hk : P s.kept) : Runs P
    (execMemoryTrainingDone stack failing s) := by
  unfold execMemoryTrainingDone
  repeat' (first | with_reducible assumption | with_reducible apply runs_next | with_reducible apply runs_ite
                 | simp only [↓kept_ite, ite_self, ↓State.lifeSet_kept, ↓State.pairFailing_kept, ↓State.progress_kept]
                 | with_reducible apply State.redFault_stable | with_reducible refine foldl_stable (fun _ _ ht => ?_) ?_)
theorem execModReset_runs  (hk : P s.kept) : Runs P (execModReset s) := by
  unfold execModReset
  repeat' (first | with_reducible assumption | with_reducible apply runs_next | with_reducible apply runs_ite
                 | simp only [↓State.lifeSet_kept] | with_reducible apply State.moduleReset_stable)
theorem execModResetRelease_runs  (hk : P s.kept) : Runs P (execModResetRelease s) := by
  unfold execModResetRelease
  repeat' (first | with_reducible assumption | with_reducible apply runs_next | with_reducible apply runs_ite
                 | simp only [↓kept_with, ↓State.lifeSet_kept] | with_reducible apply State.stepFour_stable)
theorem execRemoveReq_runs  (hk : P s.kept) : Runs P (execRemoveReq s) := by
  unfold execRemoveReq
  repeat' (first | with_reducible assumption | with_reducible apply runs_next | with_reducible apply runs_ite
                 | simp only [↓State.lifeSet_kept] | with_reducible apply State.removalStart_stable)
theorem execRemoveCmd_runs (frame : Frame) (hk : P s.kept) : Runs P (execRemoveCmd frame s) := stanReq_runs hk
theorem execReturnToService_runs (frame : Frame) (hk : P s.kept) : Runs P (execReturnToService frame s) := stanReq_runs hk
theorem execFabricRelease_runs (frame : Frame) (value : Bool) (hk : P s.kept) : Runs P (execFabricRelease frame value s) := stanReq_runs hk
theorem execRemovalLinksDown_runs  (hk : P s.kept) : Runs P (execRemovalLinksDown s) := by
  unfold execRemovalLinksDown
  repeat' (first | with_reducible assumption | with_reducible apply runs_next | with_reducible apply runs_ite
                 | simp only [↓kept_with, ↓kept_ite, ite_self, ↓State.addReset_kept, ↓State.control_kept, ↓State.enter_kept,
                 ↓State.leaveService_kept, ↓State.linkOff_kept, ↓State.removalGo_kept] | with_reducible apply State.beginCompute_stable
                 | with_reducible refine foldl_stable (fun _ _ ht => ?_) ?_)
theorem execDefectMarkWrite_runs (frame : Frame) (cluster : Fin 24) (value : BitVec 32) (hk : P s.kept) : Runs P
    (execDefectMarkWrite frame cluster value s) := stanReq_runs hk
theorem execRowRemapListWrite_runs (frame : Frame) (bytes : List Byte) (hk : P s.kept) : Runs P
    (execRowRemapListWrite frame bytes s) := stanReq_runs hk
theorem execFailingPairsWrite_runs (frame : Frame) (stack : Fin 16) (value : BitVec 32) (hk : P s.kept) : Runs P
    (execFailingPairsWrite frame stack value s) := stanReq_runs hk
theorem execPowerGrantWrite_runs (frame : Frame) (value : BitVec 16) (hk : P s.kept) : Runs P
    (execPowerGrantWrite frame value s) := stanReq_runs hk
theorem execPaceTick_runs  (hk : P s.kept) : Runs P (execPaceTick s) := by
  unfold execPaceTick
  repeat' (first | with_reducible assumption | with_reducible apply runs_next | with_reducible apply runs_ite
                 | simp only [↓kept_ite, ite_self, ↓State.lockstepNow_kept, ↓State.odApply_kept, ↓State.paceEval_kept,
                 ↓State.paceGroupTake_kept, ↓State.paceLilac_kept, ↓State.pwr_kept, ↓State.regate_kept, ↓State.setTakes_kept]
                 | with_reducible apply State.switchFreq_stable | split)
theorem execSafetySwitchOpen_runs  (hk : P s.kept) : Runs P (execSafetySwitchOpen s) := by
  unfold execSafetySwitchOpen
  repeat' (first | with_reducible assumption | with_reducible apply runs_next | with_reducible apply runs_ite
                 | simp only [↓State.lifeSet_kept] | with_reducible apply State.powerLost_stable)
theorem execOpenSession_runs (frame : Frame) (vmin vmax flags : BitVec 8) (resume : BitVec 32) (hk : P s.kept) : Runs P
    (execOpenSession frame vmin vmax flags resume s) := stanReq_runs hk
theorem execCloseSession_runs (frame : Frame) (hk : P s.kept) : Runs P (execCloseSession frame s) := stanReq_runs hk
theorem execKeepalive_runs (frame : Frame) (hk : P s.kept) : Runs P (execKeepalive frame s) := stanReq_runs hk
theorem execReadObject_runs (frame : Frame) (index : BitVec 16) (sub : BitVec 8) (all : Bool) (hk : P s.kept) : Runs P
    (execReadObject frame index sub all s) := stanReq_runs hk
theorem execWriteObject_runs (frame : Frame) (index : BitVec 16) (sub : BitVec 8) (all : Bool) (bytes : List Byte)
    (hk : P s.kept) : Runs P (execWriteObject frame index sub all bytes s) := stanReq_runs hk
theorem execSegReadInit_runs (frame : Frame) (index : BitVec 16) (sub : BitVec 8) (all : Bool) (hk : P s.kept) : Runs P
    (execSegReadInit frame index sub all s) := stanReq_runs hk
theorem execSegReadData_runs (frame : Frame) (seg : BitVec 16) (hk : P s.kept) : Runs P (execSegReadData frame seg s) := stanReq_runs hk
theorem execSegWriteInit_runs (frame : Frame) (index : BitVec 16) (sub : BitVec 8) (all : Bool) (total : BitVec 32)
    (hk : P s.kept) : Runs P (execSegWriteInit frame index sub all total s) := stanReq_runs hk
theorem execSegWriteData_runs (frame : Frame) (seg : BitVec 16) (bytes : List Byte) (hk : P s.kept) : Runs P
    (execSegWriteData frame seg bytes s) := stanReq_runs hk
theorem execSegAbort_runs (frame : Frame) (hk : P s.kept) : Runs P (execSegAbort frame s) := stanReq_runs hk
theorem execEventAck_runs (frame : Frame) (seq : BitVec 32) (hk : P s.kept) : Runs P (execEventAck frame seq s) := stanReq_runs hk
theorem execFirmwareImagePart_runs (frame : Frame) (bytes : List Byte) (hk : P s.kept) : Runs P
    (execFirmwareImagePart frame bytes s) := stanReq_runs hk
theorem execLoadingDone_runs (ok : Bool) (hk : P s.kept) : Runs P (execLoadingDone ok s) := by
  unfold execLoadingDone
  repeat' (first | with_reducible assumption | with_reducible apply runs_next | with_reducible apply runs_ite
                 | simp only [↓kept_ite, ite_self, ↓State.announceTo_kept, ↓State.fwFinish_kept, ↓State.fwGo_kept, ↓State.fwSet_kept,
                 ↓State.odSetN_kept, ↓State.plcaTake_kept, ↓State.progress_kept, ↓State.setSlate_kept, ↓State.toFormat_kept]
                 | with_reducible apply State.stepFour_stable | split)
theorem execHandOver_runs (frame : Frame) (hk : P s.kept) : Runs P (execHandOver frame s) := stanReq_runs hk
theorem execHandoverDone_runs  (hk : P s.kept) : Runs P (execHandoverDone s) := by
  unfold execHandoverDone
  repeat' (first | with_reducible assumption | with_reducible apply runs_next | with_reducible apply runs_ite
                 | simp only [↓State.announceTo_kept, ↓State.handedOver_kept] | with_reducible apply State.heldRun_stable)
theorem execHandoverConfirmTimeout_runs  (hk : P s.kept) : Runs P (execHandoverConfirmTimeout s) := by
  unfold execHandoverConfirmTimeout
  repeat' (first | with_reducible assumption | with_reducible apply runs_next | with_reducible apply runs_ite
                 | simp only [↓State.fwGo_kept] | with_reducible apply State.heldRun_stable)
theorem execFwComplete_runs (frame : Frame) (hk : P s.kept) : Runs P (execFwComplete frame s) := stanReq_runs hk
theorem execFwRevert_runs (frame : Frame) (hk : P s.kept) : Runs P (execFwRevert frame s) := stanReq_runs hk
theorem execFwCancel_runs (frame : Frame) (hk : P s.kept) : Runs P (execFwCancel frame s) := stanReq_runs hk
theorem execLicenceWrite_runs (frame : Frame) (bytes : List Byte) (hk : P s.kept) : Runs P
    (execLicenceWrite frame bytes s) := stanReq_runs hk
theorem execTraceRecord_runs (full : Bool) (hk : P s.kept) : Runs P (execTraceRecord full s) := by
  unfold execTraceRecord
  repeat' (first | with_reducible assumption | with_reducible apply runs_next | with_reducible apply runs_ite
                 | simp only [↓kept_with, ↓kept_ite, ite_self, ↓State.odInc_kept, ↓State.ringLost_kept]
                 | with_reducible apply State.ringWrite_stable | with_reducible apply State.sinkApply_stable | split)
theorem execSnapshotLatch_runs (session : BitVec 16) (hk : P s.kept) : Runs P (execSnapshotLatch session s) := by
  unfold execSnapshotLatch
  repeat' (first | with_reducible assumption | with_reducible apply runs_next | with_reducible apply runs_ite
                 | simp only [↓kept_with, ↓kept_ite, ite_self] | with_reducible apply State.latched_stable
                 | with_reducible apply State.write_stable | split)
theorem execOnyxOperationDone_runs (unsealing : Bool) (hk : P s.kept) : Runs P (execOnyxOperationDone unsealing s) := by
  unfold execOnyxOperationDone
  repeat' (first | with_reducible assumption | with_reducible apply runs_next | with_reducible apply runs_ite
                 | simp only [↓State.jobDone_kept, ↓State.noteAcc_kept, ↓State.pulse_kept, ↓State.unsealEnd_kept]
                 | with_reducible apply State.unsealRun_stable | split)

end
end Sys2Proof.Machine

/-! SUPPORT. Every command at once: `exec` answers a next state with what P says of the queue and the memories, for every command but an
input voltage beyond 0 to 72 V; a command that stores nothing needs no closure of P under memory writes. -/
namespace Sys2Proof.Machine

/-- The command's input voltage, if it has one, lies within 0 to 72 V (R451). -/
def InRange : Instr → Prop
  | .inputOutOfRange v _ => ¬ (v < 0 ∨ 72000 < v)
  | _ => True

section
variable {P : Kept → Prop} {s : State}

theorem execInputOutOfRange_runs {v : Int} {on : Bool} (hv : ¬ (v < 0 ∨ 72000 < v)) (hk : P s.kept) :
    Runs P (execInputOutOfRange v on s) := by
  unfold execInputOutOfRange
  rw [if_neg (by simpa using hv)]
  repeat' (first | with_reducible assumption | with_reducible apply runs_next | with_reducible apply runs_ite | simp only [↓kept_with, ↓kept_ite, ite_self, ↓State.housekeepingOff_kept, ↓State.inputSeen_kept, ↓State.lifeSet_kept, ↓State.switchOpens_kept] | split)

theorem exec_runs (c : Instr) (hv : InRange c) (hP : stores c = true → MemStable P) (hk : P s.kept) : Runs P (exec c s) := by
  cases c with
  | nop core => exact execNop_runs core hk
  | endOp core => exact execEndOp_runs core hk
  | yield core => exact execYield_runs core hk
  | li core => exact execLi_runs core hk
  | lih core => exact execLih_runs core hk
  | add core => exact execAdd_runs core hk
  | sub core => exact execSub_runs core hk
  | mul core => exact execMul_runs core hk
  | and core => exact execAnd_runs core hk
  | or core => exact execOr_runs core hk
  | xor core => exact execXor_runs core hk
  | shl core => exact execShl_runs core hk
  | shr core => exact execShr_runs core hk
  | sra core => exact execSra_runs core hk
  | slt core => exact execSlt_runs core hk
  | sltu core => exact execSltu_runs core hk
  | lds core => exact execLds_runs core hk
  | sts core => exact execSts_runs core hk
  | beq core => exact execBeq_runs core hk
  | bne core => exact execBne_runs core hk
  | blt core => exact execBlt_runs core hk
  | bge core => exact execBge_runs core hk
  | bltu core => exact execBltu_runs core hk
  | bgeu core => exact execBgeu_runs core hk
  | jal core => exact execJal_runs core hk
  | jr core => exact execJr_runs core hk
  | loop core => exact execLoop_runs core hk
  | wait core => exact execWait_runs core hk
  | sig core => exact execSig_runs core hk
  | cset core => exact execCset_runs core hk
  | crd core => exact execCrd_runs core hk
  | fence core => exact execFence_runs core hk
  | cid core => exact execCid_runs core hk
  | time core => exact execTime_runs core hk
  | tdl core => exact execTdl_runs core hk
  | tadv core => exact execTadv_runs core hk
  | tzero core => exact execTzero_runs core hk
  | tldacc core => exact execTldacc_runs core hk
  | tstacc core => exact execTstacc_runs core hk
  | mmaFp4 core => exact execMmaFp4_runs core hk
  | mmaFp8 core => exact execMmaFp8_runs core hk
  | mmaF16 core => exact execMmaF16_runs core hk
  | mmaFp32 core => exact execMmaFp32_runs core hk
  | mmaInt8 core => exact execMmaInt8_runs core hk
  | tOpStart core => exact execTOpStart_runs core hk
  | tOpComplete core ecc => haveI := hP rfl; exact execTOpComplete_runs core ecc hk
  | dmaCp core => haveI := hP rfl; exact execDmaCp_runs core hk
  | rput core ecc => haveI := hP rfl; exact execRput_runs core ecc hk
  | rget core => haveI := hP rfl; exact execRget_runs core hk
  | csig core => haveI := hP rfl; exact execCsig_runs core hk
  | rsig core => haveI := hP rfl; exact execRsig_runs core hk
  | tbl core ecc => haveI := hP rfl; exact execTbl_runs core ecc hk
  | mOpComplete core id ecc dest => haveI := hP rfl; exact execMOpComplete_runs core id ecc dest hk
  | vld core => exact execVld_runs core hk
  | vlds core => exact execVlds_runs core hk
  | vst core => exact execVst_runs core hk
  | vsts core => exact execVsts_runs core hk
  | vgath core => exact execVgath_runs core hk
  | vscat core => exact execVscat_runs core hk
  | vscadd core => exact execVscadd_runs core hk
  | vbcs core => exact execVbcs_runs core hk
  | vlane core => exact execVlane_runs core hk
  | viota core => exact execViota_runs core hk
  | fadd core => exact execFadd_runs core hk
  | fsub core => exact execFsub_runs core hk
  | fmul core => exact execFmul_runs core hk
  | ffma core => exact execFfma_runs core hk
  | fmax core => exact execFmax_runs core hk
  | fmin core => exact execFmin_runs core hk
  | fabs core => exact execFabs_runs core hk
  | fneg core => exact execFneg_runs core hk
  | iadd core => exact execIadd_runs core hk
  | isub core => exact execIsub_runs core hk
  | imul core => exact execImul_runs core hk
  | imax core => exact execImax_runs core hk
  | imin core => exact execImin_runs core hk
  | vand core => exact execVand_runs core hk
  | vor core => exact execVor_runs core hk
  | vxor core => exact execVxor_runs core hk
  | vshl core => exact execVshl_runs core hk
  | vshr core => exact execVshr_runs core hk
  | vsra core => exact execVsra_runs core hk
  | fcmp core => exact execFcmp_runs core hk
  | icmp core => exact execIcmp_runs core hk
  | sel core => exact execSel_runs core hk
  | plogic core => exact execPlogic_runs core hk
  | pset core => exact execPset_runs core hk
  | pget core => exact execPget_runs core hk
  | vperm core => exact execVperm_runs core hk
  | vrot core => exact execVrot_runs core hk
  | vred core => exact execVred_runs core hk
  | vredbx core => exact execVredbx_runs core hk
  | vcvt core => exact execVcvt_runs core hk
  | mxpk core => exact execMxpk_runs core hk
  | mxunpk core => exact execMxunpk_runs core hk
  | bxdep core => exact execBxdep_runs core hk
  | bxmrg core => exact execBxmrg_runs core hk
  | bxfin core => exact execBxfin_runs core hk
  | vfunc core => exact execVfunc_runs core hk
  | vOpStart core => exact execVOpStart_runs core hk
  | vOpComplete core ecc => haveI := hP rfl; exact execVOpComplete_runs core ecc hk
  | dispatchEntry core => exact execDispatchEntry_runs core hk
  | programCopyComplete core slot => haveI := hP rfl; exact execProgramCopyComplete_runs core slot hk
  | programCopyFault core slot uncorrectable => exact execProgramCopyFault_runs core slot uncorrectable hk
  | contextSwitch core => exact execContextSwitch_runs core hk
  | counterChanged core => exact execCounterChanged_runs core hk
  | asynchronousFault core slot word code info => exact execAsynchronousFault_runs core slot word code info hk
  | contextDrained core slot => exact execContextDrained_runs core slot hk
  | bankCtrlWrite core bank who value => exact execBankCtrlWrite_runs core bank who value hk
  | handoverPoint core bank => haveI := hP rfl; exact execHandoverPoint_runs core bank hk
  | collision core cls => exact execCollision_runs core cls hk
  | marchRequest frame core value => haveI := hP rfl; exact execMarchRequest_runs frame core value hk
  | marchTestEnd core reads => haveI := hP rfl; exact execMarchTestEnd_runs core reads hk
  | poolMarchEnd cluster reads => haveI := hP rfl; exact execPoolMarchEnd_runs cluster reads hk
  | hbmRead part addr parity errs => haveI := hP rfl; exact execHbmRead_runs part addr parity errs hk
  | sectorWrite part addr data => haveI := hP rfl; exact execSectorWrite_runs part addr data hk
  | ledgerRoomFreed stack => haveI := hP rfl; exact execLedgerRoomFreed_runs stack hk
  | committedViewRead part addr => exact execCommittedViewRead_runs part addr hk
  | patrolRead stack errs => haveI := hP rfl; exact execPatrolRead_runs stack errs hk
  | sparePairAssign frame stack channel => haveI := hP rfl; exact execSparePairAssign_runs frame stack channel hk
  | sparePairCancel frame stack => haveI := hP rfl; exact execSparePairCancel_runs frame stack hk
  | sparePairCopyDone stack => exact execSparePairCopyDone_runs stack hk
  | sepiaLookup id seen => haveI := hP rfl; exact execSepiaLookup_runs id seen hk
  | sepiaPool id seen => haveI := hP rfl; exact execSepiaPool_runs id seen hk
  | scatterAdd id seen => haveI := hP rfl; exact execScatterAdd_runs id seen hk
  | rowUpdate id seen => haveI := hP rfl; exact execRowUpdate_runs id seen hk
  | streamCopy id seen => haveI := hP rfl; exact execStreamCopy_runs id seen hk
  | sepiaFill id seen => haveI := hP rfl; exact execSepiaFill_runs id seen hk
  | sepiaCommandComplete id => haveI := hP rfl; exact execSepiaCommandComplete_runs id hk
  | sepiaWatchdogExpiry stack => exact execSepiaWatchdogExpiry_runs stack hk
  | sepiaBypass frame stack value => haveI := hP rfl; exact execSepiaBypass_runs frame stack value hk
  | epochColourDelivery part => exact execEpochColourDelivery_runs part hk
  | epochDecisionDelivery part => exact execEpochDecisionDelivery_runs part hk
  | sweepEnd stack part => exact execSweepEnd_runs stack part hk
  | restoreEnd stack part => haveI := hP rfl; exact execRestoreEnd_runs stack part hk
  | doorbell fn queue value => exact execDoorbell_runs fn queue value hk
  | queueEnable fn queue value => exact execQueueEnable_runs fn queue value hk
  | queueClose fn queue value => exact execQueueClose_runs fn queue value hk
  | queueConfigWrite fn queue reg value => exact execQueueConfigWrite_runs fn queue reg value hk
  | cqhIndexWrite fn queue value => exact execCqhIndexWrite_runs fn queue value hk
  | abiReqWrite fn value => exact execAbiReqWrite_runs fn value hk
  | fnEventClear fn value => exact execFnEventClear_runs fn value hk
  | fnWinWrite fn win value => exact execFnWinWrite_runs fn win value hk
  | hcntValueWrite fn part cnt value => exact execHcntValueWrite_runs fn part cnt value hk
  | hcntThreshWrite fn part cnt value => exact execHcntThreshWrite_runs fn part cnt value hk
  | hcntCtrlWrite fn part cnt value => exact execHcntCtrlWrite_runs fn part cnt value hk
  | descriptorFetch queue => exact execDescriptorFetch_runs queue hk
  | descriptorDispatch => exact execDescriptorDispatch_runs hk
  | nopDescriptor => exact execNopDescriptor_runs hk
  | descKernel => exact execDescKernel_runs hk
  | descCopy => exact execDescCopy_runs hk
  | descTable => exact execDescTable_runs hk
  | descCollective => exact execDescCollective_runs hk
  | waitCounter => exact execWaitCounter_runs hk
  | signalCounter => exact execSignalCounter_runs hk
  | fenceDescriptor => exact execFenceDescriptor_runs hk
  | epochBegin => exact execEpochBegin_runs hk
  | epochVote => exact execEpochVote_runs hk
  | copyUnitDone queue index unit result => haveI := hP rfl; exact execCopyUnitDone_runs queue index unit result hk
  | descriptorComplete => haveI := hP rfl; exact execDescriptorComplete_runs hk
  | waitCounterTimeout queue => exact execWaitCounterTimeout_runs queue hk
  | functionLevelReset fn => exact execFunctionLevelReset_runs fn hk
  | hostLinkLoss perst cable => exact execHostLinkLoss_runs perst cable hk
  | hostWindowRead fn win off len ecc => exact execHostWindowRead_runs fn win off len ecc hk
  | hostWindowWrite fn win off data ecc => haveI := hP rfl; exact execHostWindowWrite_runs fn win off data ecc hk
  | registerWrite fn off value => exact execRegisterWrite_runs fn off value hk
  | linkEnable frame link => haveI := hP rfl; exact execLinkEnable_runs frame link hk
  | linkDisable frame link => haveI := hP rfl; exact execLinkDisable_runs frame link hk
  | signalDetect link lanes => exact execSignalDetect_runs link lanes hk
  | trainingTimeout link => exact execTrainingTimeout_runs link hk
  | capabilityExchanged link blocks => exact execCapabilityExchanged_runs link blocks hk
  | equaliseDone link failing => exact execEqualiseDone_runs link failing hk
  | alignDone link seen partner => exact execAlignDone_runs link seen partner hk
  | qualifyWindowEnd link errors uncorrectable => exact execQualifyWindowEnd_runs link errors uncorrectable hk
  | qualResult link => exact execQualResult_runs link hk
  | degradeWindowEnd link lane errors uncorrectable => exact execDegradeWindowEnd_runs link lane errors uncorrectable hk
  | lossOfSignal link lanes => exact execLossOfSignal_runs link lanes hk
  | swapReq link => exact execSwapReq_runs link hk
  | swapAck link => exact execSwapAck_runs link hk
  | halfReq link => exact execHalfReq_runs link hk
  | halfAck link => exact execHalfAck_runs link hk
  | swapTimeout link => exact execSwapTimeout_runs link hk
  | linkDown link => exact execLinkDown_runs link hk
  | retryIntervalExpiry link => exact execRetryIntervalExpiry_runs link hk
  | flitReceive link lanes => exact execFlitReceive_runs link lanes hk
  | creditSync link => exact execCreditSync_runs link hk
  | creditSyncSend link => exact execCreditSyncSend_runs link hk
  | loopbackRequest frame link value => haveI := hP rfl; exact execLoopbackRequest_runs frame link value hk
  | loopbackEnd link results delay => exact execLoopbackEnd_runs link results delay hk
  | packetRoute link => exact execPacketRoute_runs link hk
  | fabricWrite ecc => haveI := hP rfl; exact execFabricWrite_runs ecc hk
  | fabricRead ecc => exact execFabricRead_runs ecc hk
  | fabricReadData ecc => haveI := hP rfl; exact execFabricReadData_runs ecc hk
  | fabricAck => exact execFabricAck_runs hk
  | fabricSignal => exact execFabricSignal_runs hk
  | fabricError => exact execFabricError_runs hk
  | requestTimeout dst part seq => exact execRequestTimeout_runs dst part seq hk
  | coordinateWrite frame value => haveI := hP rfl; exact execCoordinateWrite_runs frame value hk
  | routingTableWrite frame table bytes => haveI := hP rfl; exact execRoutingTableWrite_runs frame table bytes hk
  | swapRequest frame value => haveI := hP rfl; exact execSwapRequest_runs frame value hk
  | swapStop => exact execSwapStop_runs hk
  | swapApply => exact execSwapApply_runs hk
  | swapResume => exact execSwapResume_runs hk
  | windowEntryRelease src part => exact execWindowEntryRelease_runs src part hk
  | limiterIncrease dst part => exact execLimiterIncrease_runs dst part hk
  | limiterIdleRelease dst part => exact execLimiterIdleRelease_runs dst part hk
  | timeMessage link => exact execTimeMessage_runs link hk
  | timeSend link => exact execTimeSend_runs link hk
  | collUp bad ecc => haveI := hP rfl; exact execCollUp_runs bad ecc hk
  | downPhase ecc => haveI := hP rfl; exact execDownPhase_runs ecc hk
  | collGrant => exact execCollGrant_runs hk
  | collectiveAbort => exact execCollectiveAbort_runs hk
  | chunkCombined group chunk bad ecc dest => haveI := hP rfl; exact execChunkCombined_runs group chunk bad ecc dest hk
  | collectiveTimeout group => exact execCollectiveTimeout_runs group hk
  | groupDescriptorWrite frame group bytes => haveI := hP rfl; exact execGroupDescriptorWrite_runs frame group bytes hk
  | epochVoteMsg => exact execEpochVoteMsg_runs hk
  | abortVote => exact execAbortVote_runs hk
  | epochRecord => exact execEpochRecord_runs hk
  | epochTake => exact execEpochTake_runs hk
  | epochPromise => exact execEpochPromise_runs hk
  | epochDecide => exact execEpochDecide_runs hk
  | epochQuery => exact execEpochQuery_runs hk
  | epochAnswer => exact execEpochAnswer_runs hk
  | epochRestored => exact execEpochRestored_runs hk
  | epochClear => exact execEpochClear_runs hk
  | voteTimeout group => exact execVoteTimeout_runs group hk
  | outcomeTimeout group machine => exact execOutcomeTimeout_runs group machine hk
  | clearTimeout group machine => exact execClearTimeout_runs group machine hk
  | partitionCreate frame part => haveI := hP rfl; exact execPartitionCreate_runs frame part hk
  | partitionTeardown frame part => haveI := hP rfl; exact execPartitionTeardown_runs frame part hk
  | creationDone part => exact execCreationDone_runs part hk
  | drainEnd part timedOut => exact execDrainEnd_runs part timedOut hk
  | scrubDone part bad => haveI := hP rfl; exact execScrubDone_runs part bad hk
  | peerAdmissionWrite frame part value => haveI := hP rfl; exact execPeerAdmissionWrite_runs frame part value hk
  | fabricWindowWrite frame part win data => haveI := hP rfl; exact execFabricWindowWrite_runs frame part win data hk
  | createJobSecret frame sel => haveI := hP rfl; exact execCreateJobSecret_runs frame sel hk
  | makeOffer frame sel => haveI := hP rfl; exact execMakeOffer_runs frame sel hk
  | grantRequest frame data => haveI := hP rfl; exact execGrantRequest_runs frame data hk
  | installGrant frame data => haveI := hP rfl; exact execInstallGrant_runs frame data hk
  | destroyJobSecret frame sel => haveI := hP rfl; exact execDestroyJobSecret_runs frame sel hk
  | unsealRequest frame data => haveI := hP rfl; exact execUnsealRequest_runs frame data hk
  | tamper cause => haveI := hP rfl; exact execTamper_runs cause hk
  | getVersion fn => exact execGetVersion_runs fn hk
  | getCapabilities fn ver => exact execGetCapabilities_runs fn ver hk
  | negotiateAlgorithms fn offered => exact execNegotiateAlgorithms_runs fn offered hk
  | getDigests fn => exact execGetDigests_runs fn hk
  | getCertificate fn slot off len => exact execGetCertificate_runs fn slot off len hk
  | challenge fn slot nonce => exact execChallenge_runs fn slot nonce hk
  | getMeasurements fn index nonce => exact execGetMeasurements_runs fn index nonce hk
  | keyExchange fn slot half => exact execKeyExchange_runs fn slot half hk
  | finish fn session verified => exact execFinish_runs fn session verified hk
  | heartbeat fn session => exact execHeartbeat_runs fn session hk
  | keyUpdate fn session => exact execKeyUpdate_runs fn session hk
  | endSession fn session => exact execEndSession_runs fn session hk
  | ideKeyGet session stream dir subStream => exact execIdeKeyGet_runs session stream dir subStream hk
  | setPolicy fn session policy => exact execSetPolicy_runs fn session policy hk
  | keyProg session stream dir subStream key => exact execKeyProg_runs session stream dir subStream key hk
  | kSetGo session stream dir subStream => exact execKSetGo_runs session stream dir subStream hk
  | kSetStop session stream dir subStream => exact execKSetStop_runs session stream dir subStream hk
  | lockInterfaceRequest part session => exact execLockInterfaceRequest_runs part session hk
  | startInterfaceRequest part session nonce => exact execStartInterfaceRequest_runs part session nonce hk
  | stopInterfaceRequest part session => exact execStopInterfaceRequest_runs part session hk
  | getDeviceInterfaceReport part session => exact execGetDeviceInterfaceReport_runs part session hk
  | ideIntegrityFailure fn => exact execIdeIntegrityFailure_runs fn hk
  | progressWatchdogFire core => haveI := hP rfl; exact execProgressWatchdogFire_runs core hk
  | stallTimerExpiry queue => exact execStallTimerExpiry_runs queue hk
  | pllLossOfLock island => haveI := hP rfl; exact execPllLossOfLock_runs island hk
  | controlStateError cluster => haveI := hP rfl; exact execControlStateError_runs cluster hk
  | slateSilence => haveI := hP rfl; exact execSlateSilence_runs hk
  | resetCore frame target => haveI := hP rfl; exact execResetCore_runs frame target hk
  | resetCluster frame target => haveI := hP rfl; exact execResetCluster_runs frame target hk
  | resetComputePart frame target => haveI := hP rfl; exact execResetComputePart_runs frame target hk
  | resetWholeModule frame target => haveI := hP rfl; exact execResetWholeModule_runs frame target hk
  | legacyCore frame target => haveI := hP rfl; exact execLegacyCore_runs frame target hk
  | legacyCluster frame target => haveI := hP rfl; exact execLegacyCluster_runs frame target hk
  | legacyPartition frame target => haveI := hP rfl; exact execLegacyPartition_runs frame target hk
  | legacyWholeModule frame target => haveI := hP rfl; exact execLegacyWholeModule_runs frame target hk
  | resetRelease scope target spareBad => haveI := hP rfl; exact execResetRelease_runs scope target spareBad hk
  | resetOverrun scope target => haveI := hP rfl; exact execResetOverrun_runs scope target hk
  | fenceEnd isCluster num timedOut => haveI := hP rfl; exact execFenceEnd_runs isCluster num timedOut hk
  | crossingSeal cluster bit => exact execCrossingSeal_runs cluster bit hk
  | replayStart core => haveI := hP rfl; exact execReplayStart_runs core hk
  | replayEnd core how => haveI := hP rfl; exact execReplayEnd_runs core how hk
  | prechargeMate input => exact execPrechargeMate_runs input hk
  | prsntMate mated => exact execPrsntMate_runs mated hk
  | mainBladesMate input straps => exact execMainBladesMate_runs input straps hk
  | mainSwitchClose => exact execMainSwitchClose_runs hk
  | inputOutOfRange v on => exact execInputOutOfRange_runs hv hk
  | holdupEnd => haveI := hP rfl; exact execHoldupEnd_runs hk
  | pwrGood => exact execPwrGood_runs hk
  | slateBootDone aCur aLast bCur bLast => haveI := hP rfl; exact execSlateBootDone_runs aCur aLast bCur bLast hk
  | onyxRegenerationDone ok => haveI := hP rfl; exact execOnyxRegenerationDone_runs ok hk
  | memoryTrainingDone stack failing => haveI := hP rfl; exact execMemoryTrainingDone_runs stack failing hk
  | hbmTestDone stack rows => exact execHbmTestDone_runs stack rows hk
  | greyExit => exact execGreyExit_runs hk
  | modReset => haveI := hP rfl; exact execModReset_runs hk
  | modResetRelease => haveI := hP rfl; exact execModResetRelease_runs hk
  | removeReq => haveI := hP rfl; exact execRemoveReq_runs hk
  | removeCmd frame => haveI := hP rfl; exact execRemoveCmd_runs frame hk
  | returnToService frame => haveI := hP rfl; exact execReturnToService_runs frame hk
  | fabricRelease frame value => haveI := hP rfl; exact execFabricRelease_runs frame value hk
  | removalTimeout => exact execRemovalTimeout_runs hk
  | removalTeardownsDone => exact execRemovalTeardownsDone_runs hk
  | removalLinksDown => haveI := hP rfl; exact execRemovalLinksDown_runs hk
  | defectMarkWrite frame cluster value => haveI := hP rfl; exact execDefectMarkWrite_runs frame cluster value hk
  | rowRemapListWrite frame bytes => haveI := hP rfl; exact execRowRemapListWrite_runs frame bytes hk
  | failingPairsWrite frame stack value => haveI := hP rfl; exact execFailingPairsWrite_runs frame stack value hk
  | powerGrantWrite frame value => haveI := hP rfl; exact execPowerGrantWrite_runs frame value hk
  | powerMeterSample millivolts milliamps idle run => exact execPowerMeterSample_runs millivolts milliamps idle run hk
  | droopStretch island => exact execDroopStretch_runs island hk
  | guardBandNarrow => exact execGuardBandNarrow_runs hk
  | ceilingRecompute => exact execCeilingRecompute_runs hk
  | paceTick => haveI := hP rfl; exact execPaceTick_runs hk
  | paceReport => exact execPaceReport_runs hk
  | paceSet => exact execPaceSet_runs hk
  | raiseHoldExpiry => exact execRaiseHoldExpiry_runs hk
  | reportRefresh => exact execReportRefresh_runs hk
  | energyAttribution m => exact execEnergyAttribution_runs m hk
  | thermalSample readings predicted => exact execThermalSample_runs readings predicted hk
  | sensorFailed sensor => exact execSensorFailed_runs sensor hk
  | lowFlow => exact execLowFlow_runs hk
  | leakMeasurement ohms => exact execLeakMeasurement_runs ohms hk
  | leakSelfTest low high => exact execLeakSelfTest_runs low high hk
  | safetyCauseStore => exact execSafetyCauseStore_runs hk
  | safetySwitchOpen => haveI := hP rfl; exact execSafetySwitchOpen_runs hk
  | dieComparatorTrip die => exact execDieComparatorTrip_runs die hk
  | managerAbsenceExpiry => exact execManagerAbsenceExpiry_runs hk
  | telemetrySample => exact execTelemetrySample_runs hk
  | openSession frame vmin vmax flags resume => haveI := hP rfl; exact execOpenSession_runs frame vmin vmax flags resume hk
  | closeSession frame => haveI := hP rfl; exact execCloseSession_runs frame hk
  | keepalive frame => haveI := hP rfl; exact execKeepalive_runs frame hk
  | readObject frame index sub all => haveI := hP rfl; exact execReadObject_runs frame index sub all hk
  | writeObject frame index sub all bytes => haveI := hP rfl; exact execWriteObject_runs frame index sub all bytes hk
  | segReadInit frame index sub all => haveI := hP rfl; exact execSegReadInit_runs frame index sub all hk
  | segReadData frame seg => haveI := hP rfl; exact execSegReadData_runs frame seg hk
  | segWriteInit frame index sub all total => haveI := hP rfl; exact execSegWriteInit_runs frame index sub all total hk
  | segWriteData frame seg bytes => haveI := hP rfl; exact execSegWriteData_runs frame seg bytes hk
  | segAbort frame => haveI := hP rfl; exact execSegAbort_runs frame hk
  | eventAck frame seq => haveI := hP rfl; exact execEventAck_runs frame seq hk
  | discover src dst sound formed => exact execDiscover_runs src dst sound formed hk
  | announce => exact execAnnounce_runs hk
  | eventResend session seq => exact execEventResend_runs session seq hk
  | sessionTimeout session => exact execSessionTimeout_runs session hk
  | segmentIdleTimeout session => exact execSegmentIdleTimeout_runs session hk
  | beacon => exact execBeacon_runs hk
  | beaconTimeout => exact execBeaconTimeout_runs hk
  | reqTailWrite value => exact execReqTailWrite_runs value hk
  | rspHeadWrite value => exact execRspHeadWrite_runs value hk
  | firmwareImagePart frame bytes => haveI := hP rfl; exact execFirmwareImagePart_runs frame bytes hk
  | loadingDone ok => haveI := hP rfl; exact execLoadingDone_runs ok hk
  | handOver frame => haveI := hP rfl; exact execHandOver_runs frame hk
  | handoverDone => haveI := hP rfl; exact execHandoverDone_runs hk
  | handoverConfirmTimeout => haveI := hP rfl; exact execHandoverConfirmTimeout_runs hk
  | fwComplete frame => haveI := hP rfl; exact execFwComplete_runs frame hk
  | completingDone => exact execCompletingDone_runs hk
  | fwRevert frame => haveI := hP rfl; exact execFwRevert_runs frame hk
  | revertingDone => exact execRevertingDone_runs hk
  | fwCancel frame => haveI := hP rfl; exact execFwCancel_runs frame hk
  | fuseStep => exact execFuseStep_runs hk
  | licenceWrite frame bytes => haveI := hP rfl; exact execLicenceWrite_runs frame bytes hk
  | traceRecord full => haveI := hP rfl; exact execTraceRecord_runs full hk
  | traceFrame => exact execTraceFrame_runs hk
  | snapshotLatch session => haveI := hP rfl; exact execSnapshotLatch_runs session hk
  | swapDeskewDone link gen => exact execSwapDeskewDone_runs link gen hk
  | alignmentLost link => exact execAlignmentLost_runs link hk
  | sepiaInternalCheckFailure stack => exact execSepiaInternalCheckFailure_runs stack hk
  | onyxOperationDone unsealing => haveI := hP rfl; exact execOnyxOperationDone_runs unsealing hk
  | hostLinkTrained rate width => exact execHostLinkTrained_runs rate width hk
  | inputReturn input straps => exact execInputReturn_runs input straps hk
  | tckCycle tms tdi removeReq perst => exact execTckCycle_runs tms tdi removeReq perst hk
  | trstAssert => exact execTrstAssert_runs hk
  | verificationDone => exact execVerificationDone_runs hk
  | cancellingDone => exact execCancellingDone_runs hk

end
end Sys2Proof.Machine

/-! SUPPORT. The two properties that memory writes keep: the queue, and the canonical form. -/
namespace Sys2Proof.Machine

theorem memStable_queue (q : List Instr) : MemStable (fun k => k.1 = q) where
  put _ _ h := h
  hput _ _ h := h
  drop _ h := h
  clear h := h

theorem memStable_invK (q : List Instr) : MemStable (InvK q) where
  put _ _ h := ⟨h.1, Memory.wf_memPut h.2.1 _ _, h.2.2⟩
  hput _ _ h := ⟨h.1, h.2.1, Memory.wf_memPut h.2.2 _ _⟩
  drop _ h := ⟨h.1, Memory.wf_filter h.2.1 _, h.2.2⟩
  clear h := ⟨h.1, rfl, h.2.2⟩

/-- An input beyond the range stops by name. -/
theorem exec_outOfRange {c : Instr} (h : ¬ InRange c) (s : State) :
    ∃ v k, c = .inputOutOfRange v k ∧ (v < 0 ∨ 72000 < v) ∧ exec c s = .fault .inputBeyondAbsolute := by
  cases c with
  | inputOutOfRange v k =>
    have hv : v < 0 ∨ 72000 < v := Classical.not_not.mp h
    exact ⟨v, k, rfl, hv, if_pos (by simpa using hv)⟩
  | _ => exact absurd True.intro h

theorem inRange_of_next {c : Instr} {s t : State} (h : exec c s = .next t) : InRange c := by
  refine Classical.byContradiction (fun hn => ?_)
  obtain ⟨_, _, _, _, hf⟩ := exec_outOfRange hn s
  exact absurd (h.symm.trans hf) (by simp)

/-- What the next state has, read off the outcome. -/
theorem Runs.next {P : Kept → Prop} {t : State} {o : Host.Outcome State Fault Refusal} (h : Runs P o) (ho : o = .next t) : P t.kept := by
  obtain ⟨u, hu, hp⟩ := h
  cases hu.symm.trans ho
  exact hp

theorem exec_queue {c : Instr} {s t : State} (h : exec c s = .next t) : t.pending = s.pending :=
  (exec_runs (P := fun k => k.1 = s.pending) c (inRange_of_next h) (fun _ => memStable_queue _) rfl).next h

theorem exec_inv {c : Instr} {s t : State} (h : exec c s = .next t) (hs : s.Inv) : t.Inv := by
  have ht := (exec_runs c (inRange_of_next h) (fun _ => memStable_invK _) ((inv_iff s).mp hs)).next h
  rw [← exec_queue h] at ht
  exact (inv_iff t).mpr ht

theorem exec_kept {c : Instr} {s t : State} (h : exec c s = .next t) (hc : stores c = false) : t.kept = s.kept :=
  (exec_runs (P := fun k => k = s.kept) c (inRange_of_next h) (fun hs => absurd (hc.symm.trans hs) (by simp)) rfl).next h

end Sys2Proof.Machine

namespace Sys2Proof.Proofs
open Sys2Proof.Machine

/-- Settles O57: an idle step writes neither memory, and a command writes them only by operations that keep the canonical form. -/
theorem stepKeepsInv : Obligations.StepKeepsInv := by
  unfold Obligations.StepKeepsInv
  intro s t hs h
  unfold step at h
  split at h
  · cases h
    rw [inv_iff, State.tick_kept]
    exact ⟨(congrArg Prod.fst (State.tick_kept s)).symm, hs⟩
  · exact exec_inv h hs

/-- Settles O58: every command keeps the queue as memory writes do, and one that stores nothing keeps both memories with it. -/
theorem queueAndMemory : Obligations.QueueAndMemory := by
  unfold Obligations.QueueAndMemory
  intro c s t h
  refine ⟨exec_queue h, fun hc => ?_⟩
  obtain ⟨-, hm, hh⟩ : t.pending = s.pending ∧ t.mem = s.mem ∧ t.hostMem = s.hostMem := by
    simpa [State.kept] using exec_kept h hc
  exact ⟨hm, hh, fun a => ⟨by simp [State.rd, hm], by simp [State.hrd, hh]⟩⟩

/-- Settles O59: every command in range runs to a next state, and an input out of range stops by name. -/
theorem everyCommandAnswers : Obligations.EveryCommandAnswers := by
  unfold Obligations.EveryCommandAnswers
  intro c s
  by_cases hc : InRange c
  · obtain ⟨t, ht, -⟩ := exec_runs (P := fun k => k.1 = s.pending) c hc (fun _ => memStable_queue _) (s := s) rfl
    exact .inl ⟨t, ht⟩
  · exact .inr (exec_outOfRange hc s)

end Sys2Proof.Proofs

/-! SUPPORT. What the operations of links and packets leave of the cores and the counts of time. Each law is named after its operation. -/
namespace Sys2Proof.Machine

/-- The cores and the counts of time. -/
def State.timed (s : State) : Tab Core × Nat × Nat × Nat × Int := (s.cores, s.clk.uptime, s.clk.localTime, s.clk.fabricTime, s.ftime.frac)

theorem timed_ite (c : Prop) [Decidable c] (a b : State) :
    (if c then a else b).timed = if c then a.timed else b.timed := by split <;> rfl

theorem timed_foldl {α : Type} {f : State → α → State} {l : List α} {x s : State}
    (h : ∀ t a, (f t a).timed = t.timed) (h0 : x.timed = s.timed) : (l.foldl f x).timed = s.timed := by
  induction l generalizing x with
  | nil => exact h0
  | cons a l ih => exact ih ((h x a).trans h0)

theorem timed_with (x : State) (pending : List Instr) (mem : List Host.Cell) (hostMem : List Host.Cell) (od : Od) (links : Tab Link)
    (fabric : Fabric) (memory : Memory) (sepia : Sepia) (eps : Tab Ep) (agents : Tab Agent) (queues : Tab Queue) (colls : Colls)
    (hcnt : Tab HCnt) (disp : Disp) (parts : Tab Part) (fns : Tab Fn) (mgmt : Mgmt) (trace : Trace) (faults : Faults) (sec : Sec)
    (power : Power) (thermal : Thermal) (taps : Tab Tap) (fw : Fw) (life : Life) (stored : Option Stored) (free : Nat) (out : List Out)  :
    State.timed (State.mk pending mem hostMem od x.clk links fabric x.ftime memory sepia eps agents queues colls hcnt disp x.cores parts
    fns mgmt trace faults sec power thermal taps fw life stored free out) = x.timed := rfl
theorem timed_withClk (x : State) (pending : List Instr) (mem : List Host.Cell) (hostMem : List Host.Cell) (od : Od) (links : Tab Link)
    (fabric : Fabric) (memory : Memory) (sepia : Sepia) (eps : Tab Ep) (agents : Tab Agent) (queues : Tab Queue) (colls : Colls)
    (hcnt : Tab HCnt) (disp : Disp) (parts : Tab Part) (fns : Tab Fn) (mgmt : Mgmt) (trace : Trace) (faults : Faults) (sec : Sec)
    (power : Power) (thermal : Thermal) (taps : Tab Tap) (fw : Fw) (life : Life) (stored : Option Stored) (free : Nat) (out : List Out)
    (lk : Bool) (mhz : Nat) (xi : Tab Xing) (ph : Tab Bool) :
    State.timed (State.mk pending mem hostMem od (⟨x.clk.localTime, x.clk.uptime, x.clk.fabricTime, lk, mhz, xi, ph⟩) links fabric x.ftime
    memory sepia eps agents queues colls hcnt disp x.cores parts fns mgmt trace faults sec power thermal taps fw life stored free out) = x.timed := rfl
theorem timed_withFTime (x : State) (pending : List Instr) (mem : List Host.Cell) (hostMem : List Host.Cell) (od : Od) (links : Tab Link)
    (fabric : Fabric) (memory : Memory) (sepia : Sepia) (eps : Tab Ep) (agents : Tab Agent) (queues : Tab Queue) (colls : Colls)
    (hcnt : Tab HCnt) (disp : Disp) (parts : Tab Part) (fns : Tab Fn) (mgmt : Mgmt) (trace : Trace) (faults : Faults) (sec : Sec)
    (power : Power) (thermal : Thermal) (taps : Tab Tap) (fw : Fw) (life : Life) (stored : Option Stored) (free : Nat) (out : List Out)
    (ls : Tab LinkTime) (pa : Option Nat) (ro di go : Nat) (sl fr : Int) :
    State.timed (State.mk pending mem hostMem od x.clk links fabric (⟨ls, pa, ro, di, go, sl, x.ftime.frac, fr⟩) memory sepia eps agents
    queues colls hcnt disp x.cores parts fns mgmt trace faults sec power thermal taps fw life stored free out) = x.timed := rfl

theorem State.freeVal_timed (s : State) (w : Nat) :
    (State.freeVal s w).2.timed = s.timed := by
  unfold State.freeVal
  repeat' (first | with_reducible rfl | simp only [↓timed_with])

theorem State.keyCached_timed (s : State) (p : Pkt) (part : Nat) :
    (State.keyCached s p part).timed = s.timed := by
  unfold State.keyCached
  repeat' (first | with_reducible rfl | simp only [↓timed_with, ↓timed_ite, ite_self, ↓State.freeVal_timed])

theorem State.odSet_timed (s : State) (idx : Nat) (sub : Nat) (v : OdVal) :
    (State.odSet s idx sub v).timed = s.timed := by
  unfold State.odSet
  repeat' (first | with_reducible rfl | simp only [↓timed_with])

theorem State.odApply_timed (s : State) (idx : Nat) (sub : Nat) :
    (State.odApply s idx sub).timed = s.timed := by
  unfold State.odApply
  repeat' (first | with_reducible rfl | simp only [↓timed_with, ↓State.odSet_timed] | refine timed_foldl (fun _ _ => ?_) ?_ | split)

theorem State.limiterFor_timed (s : State) (p : Pkt) :
    (State.limiterFor s p).timed = s.timed := by
  unfold State.limiterFor
  repeat' (first | with_reducible rfl | simp only [↓timed_with, ↓timed_ite, ite_self, ↓State.odApply_timed])

theorem State.odSetN_timed (s : State) (idx : Nat) (sub : Nat) (n : Nat) :
    (State.odSetN s idx sub n).timed = s.timed := by
  unfold State.odSetN
  repeat' (first | with_reducible rfl | simp only [↓State.odSet_timed])

theorem State.odAdd_timed (s : State) (idx : Nat) (sub : Nat) (n : Nat) :
    (State.odAdd s idx sub n).timed = s.timed := by
  unfold State.odAdd
  repeat' (first | with_reducible rfl | simp only [↓State.odSetN_timed])

theorem State.odInc_timed (s : State) (idx : Nat) (sub : Nat) :
    (State.odInc s idx sub).timed = s.timed := by
  unfold State.odInc
  repeat' (first | with_reducible rfl | simp only [↓State.odAdd_timed])

theorem State.emit_timed (s : State) (o : Out) :
    (State.emit s o).timed = s.timed := by
  unfold State.emit
  repeat' (first | with_reducible rfl | simp only [↓timed_with])

theorem State.setLink_timed (s : State) (n : Nat) (l : Link) :
    (State.setLink s n l).timed = s.timed := by
  unfold State.setLink
  repeat' (first | with_reducible rfl | simp only [↓timed_with])

theorem State.updLink_timed (s : State) (n : Nat) (f : Link → Link) :
    (State.updLink s n f).timed = s.timed := by
  unfold State.updLink
  repeat' (first | with_reducible rfl | simp only [↓State.setLink_timed])

theorem State.linkTx_timed (s : State) (n : Nat) (p : Pkt) :
    (State.linkTx s n p).timed = s.timed := by
  unfold State.linkTx
  repeat' (first | with_reducible rfl | simp only [↓State.emit_timed, ↓State.updLink_timed])

theorem State.sendPair_timed (s : State) (n : Nat) (bs : List Body) :
    (State.sendPair s n bs).timed = s.timed := by
  unfold State.sendPair
  repeat' (first | with_reducible rfl | simp only [↓State.emit_timed, ↓State.setLink_timed])

theorem State.sendBodies_timed (n : Nat) (x1 : Nat) (x2 : State) (x3 : List Body) :
    (State.sendBodies n x1 x2 x3).timed = x2.timed := by
  induction x1 generalizing x2 x3 with
  | zero => rfl
  | succ k ih =>
    simp only [State.sendBodies]
    split
    · rfl
    · rw [ih, State.sendPair_timed]

theorem State.drainLink_timed (s : State) (n : Nat) :
    (State.drainLink s n).timed = s.timed := by
  have hf : ∀ (l : List Pkt) (a : State × List Pkt × List Pkt), (l.foldl (fun (a : State × List Pkt × List Pkt) p =>
      if a.2.1.any (fun x => x.vc == p.vc) || a.1.freeCredits n p.vc < p.slots then (a.1, a.2.1 ++ [p], a.2.2)
      else (a.1.linkTx n p, a.2.1, a.2.2 ++ [p])) a).1.timed = a.1.timed := by
    intro l
    induction l with
    | nil => intro a; rfl
    | cons p l ih =>
      intro a
      rw [List.foldl_cons, ih]
      split
      · rfl
      · exact State.linkTx_timed _ _ _
  unfold State.drainLink
  split
  · rfl
  · simp only [State.sendBodies_timed, State.updLink_timed, hf]

theorem State.setFn_timed (s : State) (k : Nat) (f : Fn) :
    (State.setFn s k f).timed = s.timed := by
  unfold State.setFn
  repeat' (first | with_reducible rfl | simp only [↓timed_with])

theorem State.msix_timed (s : State) (k : Nat) (vec : Nat) :
    (State.msix s k vec).timed = s.timed := by
  unfold State.msix
  repeat' (first | with_reducible rfl | simp only [↓timed_ite, ite_self, ↓State.emit_timed, ↓State.setFn_timed])

theorem State.fnEvent_timed (s : State) (k : Nat) (b : Nat) :
    (State.fnEvent s k b).timed = s.timed := by
  unfold State.fnEvent
  repeat' (first | with_reducible rfl | simp only [↓timed_ite, ite_self, ↓State.msix_timed, ↓State.setFn_timed])

theorem State.landed_timed (s : State) (ev : Nat) (i : Nat) :
    (State.landed s ev i).timed = s.timed := by
  unfold State.landed
  repeat' (first | with_reducible rfl | simp only [↓timed_ite, ite_self, ↓State.fnEvent_timed, ↓State.msix_timed])

theorem State.pulse_timed (s : State) (ev : Nat) (i : Nat) :
    (State.pulse s ev i).timed = s.timed := by
  unfold State.pulse
  repeat' (first | with_reducible rfl | simp only [↓timed_withClk, ↓timed_ite, ite_self, ↓State.landed_timed, ↓State.odInc_timed])

theorem State.lilac_timed (s : State) (kind : Nat) (code : Nat) (src : Nat) (addr : Nat) (data : Nat) (part : Option Nat) :
    (State.lilac s kind code src addr data part).timed = s.timed := by
  unfold State.lilac
  repeat' (first | with_reducible rfl | simp only [↓timed_with, ↓timed_ite, ite_self, ↓State.odApply_timed, ↓State.pulse_timed])

theorem State.linkPut_timed (s : State) (n : Nat) (p : Pkt) :
    (State.linkPut s n p).timed = s.timed := by
  unfold State.linkPut
  repeat' (first | with_reducible rfl | simp only [↓timed_with, ↓timed_ite, ite_self, ↓State.drainLink_timed, ↓State.lilac_timed,
                 ↓State.odApply_timed, ↓State.odInc_timed, ↓State.updLink_timed])

theorem State.routeOnce_timed (s : State) (p : Pkt) :
    (State.routeOnce s p).1.timed = s.timed := by
  unfold State.routeOnce
  repeat' (first | with_reducible rfl | simp only [↓timed_with, ↓State.linkPut_timed, ↓State.odApply_timed, ↓State.odInc_timed]
                 | refine timed_foldl (fun _ _ => ?_) ?_ | split)

theorem State.route_timed (s : State) (p : Pkt) :
    (State.route s p).timed = s.timed := by
  unfold State.route; split
  · next h => rw [← State.routeOnce_timed s p, h]
  · next h => rw [State.routeOnce_timed, ← State.routeOnce_timed s p, h]

/-- What a limiter's draw and an injection leave alone. -/
theorem State.draw_timed {s t : State} {p : Pkt} (h : s.draw p = some t) : t.timed = s.timed := by
  unfold State.draw at h
  simp only at h
  repeat' (first | cases h | split at h | rfl)

theorem State.tryInject_timed {s t : State} {p : Pkt} (h : s.tryInject p = some t) : t.timed = s.timed := by
  unfold State.tryInject at h
  split at h
  · cases h
  · obtain ⟨x, hx, rfl⟩ := Option.map_eq_some_iff.mp h
    rw [State.route_timed, State.keyCached_timed, State.draw_timed hx, State.limiterFor_timed]

theorem State.injectNow_timed (s : State) (p : Pkt) :
    (State.injectNow s p).timed = s.timed := by
  unfold State.injectNow
  split
  · rfl
  · split
    · next h => exact State.tryInject_timed h
    · rfl

theorem State.mbxPut_timed (s : State) (m : List Byte) :
    (State.mbxPut s m).timed = s.timed := by
  unfold State.mbxPut
  repeat' (first | with_reducible rfl | simp only [↓timed_with, ↓timed_ite, ite_self, ↓State.pulse_timed])

theorem State.sendTo_timed (s : State) (door : Door) (src : Nat) (m : List Byte) :
    (State.sendTo s door src m).timed = s.timed := by
  unfold State.sendTo
  repeat' (first | with_reducible rfl | simp only [↓State.emit_timed, ↓State.mbxPut_timed] | refine timed_foldl (fun _ _ => ?_) ?_ | split)

theorem State.deliverOne_timed (s : State) (se : Session) :
    (State.deliverOne s se).timed = s.timed := by
  unfold State.deliverOne
  repeat' (first | with_reducible rfl | simp only [↓timed_with, ↓timed_ite, ↓State.sendTo_timed] | refine timed_foldl (fun _ _ => ?_) ?_
                 | split)

theorem State.deliver_timed (s : State) :
    (State.deliver s).timed = s.timed := by
  unfold State.deliver
  repeat' (first | with_reducible rfl | simp only [↓State.deliverOne_timed] | refine timed_foldl (fun _ _ => ?_) ?_)

theorem State.raise_timed (s : State) (code : Nat) (idx : Nat) (sub : Nat) (detail : Nat) :
    (State.raise s code idx sub detail).timed = s.timed := by
  unfold State.raise
  repeat' (first | with_reducible rfl | simp only [↓timed_with, ↓timed_ite, ite_self, ↓State.deliver_timed, ↓State.odInc_timed])

theorem State.mgmtSet_timed (s : State) (f : Mgmt → Mgmt) :
    (State.mgmtSet s f).timed = s.timed := by
  unfold State.mgmtSet
  repeat' (first | with_reducible rfl | simp only [↓timed_with])

theorem State.alertLine_timed (s : State) :
    (State.alertLine s).timed = s.timed := by
  unfold State.alertLine
  repeat' (first | with_reducible rfl | simp only [↓timed_with])

theorem State.alertSet_timed (s : State) (b : Nat) (on : Bool) :
    (State.alertSet s b on).timed = s.timed := by
  unfold State.alertSet
  repeat' (first | with_reducible rfl | simp only [↓State.alertLine_timed, ↓State.odSetN_timed])

theorem State.leavesGrey_timed (s : State) :
    (State.leavesGrey s).timed = s.timed := by
  unfold State.leavesGrey
  repeat' (first | with_reducible rfl | simp only [↓timed_with])

theorem State.enter_timed (s : State) (v : Svc) (alert : Bool) :
    (State.enter s v alert).timed = s.timed := by
  unfold State.enter
  repeat' (first | with_reducible rfl | simp only [↓timed_with, ↓timed_ite, ite_self, ↓State.alertSet_timed, ↓State.fnEvent_timed,
                 ↓State.leavesGrey_timed, ↓State.odSetN_timed, ↓State.raise_timed] | refine timed_foldl (fun _ _ => ?_) ?_ | split)

theorem State.amber_timed (s : State) (b : Nat) (on : Bool) :
    (State.amber s b on).timed = s.timed := by
  unfold State.amber
  repeat' (first | with_reducible rfl | simp only [↓timed_ite, ite_self, ↓State.enter_timed, ↓State.odSetN_timed])

theorem State.faultRecordAs_timed (s : State) (st : Nat) (code : Nat) (action : Nat) (kind : Nat) (target : Nat) (part : Option Nat)
    (esc : Bool) (detail : Nat) :
    (State.faultRecordAs s st code action kind target part esc detail).timed = s.timed := by
  unfold State.faultRecordAs
  repeat' (first | with_reducible rfl | simp only [↓State.lilac_timed, ↓State.odInc_timed, ↓State.odSet_timed, ↓State.raise_timed])

theorem State.faultRecord_timed (s : State) (code : Nat) (action : Nat) (kind : Nat) (target : Nat) (part : Option Nat) (esc : Bool)
    (detail : Nat) :
    (State.faultRecord s code action kind target part esc detail).timed = s.timed := by
  unfold State.faultRecord
  repeat' (first | with_reducible rfl | simp only [↓State.faultRecordAs_timed])

theorem State.linkAmber_timed (s : State) :
    (State.linkAmber s).timed = s.timed := by
  unfold State.linkAmber
  repeat' (first | with_reducible rfl | simp only [↓State.amber_timed])

theorem State.linksProgress_timed (s : State) :
    (State.linksProgress s).timed = s.timed := by
  unfold State.linksProgress
  repeat' (first | with_reducible rfl | simp only [↓timed_ite, ite_self, ↓State.odSetN_timed])

theorem State.linkEnded_timed (s : State) (n : Nat) :
    (State.linkEnded s n).timed = s.timed := by
  unfold State.linkEnded
  repeat' (first | with_reducible rfl | simp only [↓timed_with, ↓State.linksProgress_timed])

theorem State.linkEvent_timed (s : State) (n : Nat) :
    (State.linkEvent s n).timed = s.timed := by
  unfold State.linkEvent
  repeat' (first | with_reducible rfl | simp only [↓State.raise_timed])

theorem State.showTime_timed (s : State) :
    (State.showTime s).timed = s.timed := by
  unfold State.showTime
  repeat' (first | with_reducible rfl | simp only [↓State.odSetN_timed])

theorem State.timeFree_timed (s : State) :
    (State.timeFree s).timed = s.timed := by
  unfold State.timeFree
  repeat' (first | with_reducible rfl | simp only [↓State.showTime_timed] | refine timed_foldl (fun _ _ => ?_) ?_ | split | rfl)

theorem State.timeLost_timed (s : State) (n : Nat) :
    (State.timeLost s n).timed = s.timed := by
  unfold State.timeLost
  repeat' (first | with_reducible rfl | simp only [↓timed_ite, ite_self, ↓State.timeFree_timed])

theorem State.linkGo_timed (s : State) (n : Nat) (st : LinkSt) (reason : Nat) :
    (State.linkGo s n st reason).timed = s.timed := by
  unfold State.linkGo
  repeat' (first | with_reducible rfl | simp only [↓timed_ite, ite_self, ↓State.faultRecord_timed, ↓State.linkAmber_timed,
                 ↓State.linkEnded_timed, ↓State.linkEvent_timed, ↓State.odInc_timed, ↓State.odSetN_timed, ↓State.pulse_timed,
                 ↓State.setLink_timed, ↓State.timeLost_timed, ↓State.updLink_timed])

theorem State.xingClear_timed (s : State) (q : Nat → Nat → Bool) :
    (State.xingClear s q).timed = s.timed := by
  unfold State.xingClear
  repeat' (first | with_reducible rfl | simp only [↓timed_withClk])

theorem State.linkReset_timed (s : State) (n : Nat) :
    (State.linkReset s n).timed = s.timed := by
  unfold State.linkReset
  repeat' (first | with_reducible rfl | simp only [↓State.xingClear_timed])

theorem State.showMap_timed (s : State) (n : Nat) :
    (State.showMap s n).timed = s.timed := by
  unfold State.showMap
  repeat' (first | with_reducible rfl | simp only [↓State.odSetN_timed])

theorem State.control_timed (s : State) (n : Nat) (code : Nat) (bs : List Byte) :
    (State.control s n code bs).timed = s.timed := by
  unfold State.control
  repeat' (first | with_reducible rfl | simp only [↓State.emit_timed, ↓State.sendPair_timed])

theorem State.testAbandoned_timed (s : State) (n : Nat) :
    (State.testAbandoned s n).timed = s.timed := by
  unfold State.testAbandoned
  repeat' (first | with_reducible rfl | simp only [↓State.odSetN_timed] | refine timed_foldl (fun _ _ => ?_) ?_)

theorem State.linkOff_timed (s : State) (n : Nat) :
    (State.linkOff s n).timed = s.timed := by
  unfold State.linkOff
  repeat' (first | with_reducible rfl | simp only [↓timed_ite, ite_self, ↓State.linkGo_timed, ↓State.linkReset_timed, ↓State.showMap_timed,
                 ↓State.testAbandoned_timed, ↓State.updLink_timed])

theorem State.linkDisableTick_timed (s : State) (n : Nat) :
    (State.linkDisableTick s n).timed = s.timed := by
  unfold State.linkDisableTick
  repeat' (first | with_reducible rfl | simp only [↓timed_ite, ite_self, ↓State.linkOff_timed] | refine timed_foldl (fun _ _ => ?_) ?_
                 | split)

theorem State.mbxFlush_timed (s : State) :
    (State.mbxFlush s).timed = s.timed := by
  unfold State.mbxFlush
  repeat' (first | with_reducible rfl | simp only [↓State.mbxPut_timed, ↓State.mgmtSet_timed] | refine timed_foldl (fun _ _ => ?_) ?_)

theorem State.retryHeld_timed (s : State) :
    (State.retryHeld s).timed = s.timed := by
  unfold State.retryHeld
  repeat' (first | with_reducible rfl | simp only [↓timed_with, ↓timed_ite, ↓State.injectNow_timed]
                 | refine timed_foldl (fun _ _ => ?_) ?_ | split)

theorem State.rspHead_timed (s : State) (h : Nat) :
    (State.rspHead s h).timed = s.timed := by
  unfold State.rspHead
  repeat' (first | with_reducible rfl | simp only [↓timed_ite, ite_self, ↓State.mbxFlush_timed, ↓State.mgmtSet_timed, ↓State.odInc_timed])

theorem State.settle_timed (s : State) :
    (State.settle s).timed = s.timed := by
  unfold State.settle
  repeat' (first | with_reducible rfl | simp only [↓State.landed_timed] | refine timed_foldl (fun _ _ => ?_) ?_ | split | rfl)

end Sys2Proof.Machine

/-! SUPPORT. What an idle step does to the event crossings and the time bases. -/
namespace Sys2Proof.Machine

/-- Only what an interrupt reaches differs: the functions' registers and the output. -/
def State.OnlyMessages (s t : State) : Prop := t = { s with fns := t.fns, out := t.out }

theorem State.OnlyMessages.refl (s : State) : s.OnlyMessages s := rfl

theorem State.OnlyMessages.trans {s t u : State} (h : s.OnlyMessages t) (g : t.OnlyMessages u) : s.OnlyMessages u := by
  unfold State.OnlyMessages at *
  rw [h] at g
  exact g

theorem msix_onlyMessages (s : State) (k vec : Nat) : s.OnlyMessages (s.msix k vec) := by
  unfold State.msix
  split <;> rfl

theorem landed_onlyMessages (s : State) (ev i : Nat) : s.OnlyMessages (s.landed ev i) := by
  unfold State.landed
  split
  · exact msix_onlyMessages s _ _
  · split
    · unfold State.fnEvent
      split
      · rfl
      · exact State.OnlyMessages.trans (t := s.setFn _ _) rfl (msix_onlyMessages _ _ _)
    · rfl

theorem foldl_landed_onlyMessages (l : Tab Xing) (s : State) :
    s.OnlyMessages (l.foldl (fun s e => s.landed (e.1 / 65536) (e.1 % 65536)) s) := by
  induction l generalizing s with
  | nil => exact State.OnlyMessages.refl s
  | cons e l ih => exact (landed_onlyMessages s _ _).trans (ih _)

theorem foldl_landed_quiet (l : Tab Xing) (s : State) (h : ∀ e ∈ l, e.1 / 65536 ≠ 4 ∧ e.1 / 65536 ≠ 10) :
    l.foldl (fun s e => s.landed (e.1 / 65536) (e.1 % 65536)) s = s := by
  induction l generalizing s with
  | nil => rfl
  | cons e l ih =>
    obtain ⟨h4, h10⟩ := h e (by simp)
    rw [List.foldl_cons, landed_none s _ h4 h10, ih s (fun x hx => h x (List.mem_cons_of_mem _ hx))]

/-- What is launched at the end of a busy period: the events that were pending. -/
theorem mem_settle (c : Clk) (e : Nat × Xing) :
    e ∈ c.settle.xing ↔ e.2.busy = true ∧ e.2.pending = false ∧ ∃ x ∈ c.xing, x.1 = e.1 ∧ x.2.pending = true := by
  obtain ⟨k, b, p⟩ := e
  simp only [Clk.settle, List.mem_filterMap, Option.ite_none_right_eq_some, Option.some.injEq, Prod.mk.injEq, Xing.mk.injEq]
  constructor
  · rintro ⟨x, hx, hp, rfl, rfl, rfl⟩
    exact ⟨rfl, rfl, x, hx, rfl, hp⟩
  · rintro ⟨rfl, rfl, x, hx, rfl, hp⟩
    exact ⟨x, hx, hp, rfl, rfl, rfl⟩

theorem settle_spec (s : State) :
    ({ s with clk := s.clk.settle } : State).OnlyMessages s.settle ∧
    ((∀ e ∈ s.clk.xing, e.2.pending = true → e.1 / 65536 ≠ 4 ∧ e.1 / 65536 ≠ 10) → s.settle = { s with clk := s.clk.settle }) := by
  refine ⟨foldl_landed_onlyMessages _ _, fun h => foldl_landed_quiet _ _ (fun e he => ?_)⟩
  obtain ⟨-, -, x, hx, h1, hp⟩ := (mem_settle s.clk e).mp he
  exact h1 ▸ h x hx hp

theorem linkDisableTick_none {s : State} (h : ∀ n, n < 12 → (s.link n).disableAt = none) :
    (List.range 12).foldl State.linkDisableTick s = s := by
  have hn : ∀ n ∈ List.range 12, s.linkDisableTick n = s := by
    intro n hn
    rw [State.linkDisableTick, h n (List.mem_range.mp hn)]
  generalize List.range 12 = l at hn
  induction l with
  | nil => rfl
  | cons n l ih => rw [List.foldl_cons, hn n (by simp), ih (fun m hm => hn m (List.mem_cons_of_mem _ hm))]

theorem retryHeld_none {s : State} (h : s.fabric.held = []) : s.retryHeld = s := by
  unfold State.retryHeld
  rw [if_pos (by simp [h])]

/-- Time passes, and then only what `State.timed` leaves out may differ. -/
theorem tick_timed {s : State} (h : s.life.powerGood = true) :
    s.tick.timed = State.timed ({ s with clk := { s.clk with uptime := s.clk.uptime + 10 } } : State).advance := by
  unfold State.tick
  simp only [h, Bool.not_true, Bool.false_eq_true, if_false]
  rw [State.retryHeld_timed, timed_foldl (fun t n => State.linkDisableTick_timed t n) (State.settle_timed _)]

/-- Fabric time and the fraction of a nanosecond together advance by 10 ns and the slew (R281, R283). -/
theorem advance_fabric (s : State)
    (hf : 0 ≤ s.ftime.frac)
    (hd : (-10000 : Int) ≤ if s.ftime.slew > 0 then 1 else if s.ftime.slew < 0 then -1 else if s.ftime.parent = none then s.ftime.free else 0) :
    (1000 * s.advance.clk.fabricTime + s.advance.ftime.frac : Int) = 1000 * s.clk.fabricTime + s.ftime.frac + 10000 +
      if s.ftime.slew > 0 then 1 else if s.ftime.slew < 0 then -1 else if s.ftime.parent = none then s.ftime.free else 0 := by
  have hs : (if s.ftime.parent.isNone && s.ftime.slew = 0 then s.ftime.free
      else if s.ftime.slew > 0 then 1 else if s.ftime.slew < 0 then -1 else 0 : Int) =
      if s.ftime.slew > 0 then 1 else if s.ftime.slew < 0 then -1 else if s.ftime.parent = none then s.ftime.free else 0 := by
    have hp : s.ftime.parent.isNone = decide (s.ftime.parent = none) := by cases s.ftime.parent <;> simp
    rw [hp]
    by_cases h1 : s.ftime.slew > 0
    · have : s.ftime.slew ≠ 0 := by omega
      simp [h1, this]
    · by_cases h2 : s.ftime.slew < 0
      · have : s.ftime.slew ≠ 0 := by omega
        simp [h1, h2, this]
      · have : s.ftime.slew = 0 := by omega
        simp [this]
  have ha : s.advance.clk.fabricTime = s.clk.fabricTime + ((s.ftime.frac + 10000 + (if s.ftime.parent.isNone && s.ftime.slew = 0 then
      s.ftime.free else if s.ftime.slew > 0 then 1 else if s.ftime.slew < 0 then -1 else 0)) / 1000).toNat ∧
      s.advance.ftime.frac = (s.ftime.frac + 10000 + (if s.ftime.parent.isNone && s.ftime.slew = 0 then
      s.ftime.free else if s.ftime.slew > 0 then 1 else if s.ftime.slew < 0 then -1 else 0)) % 1000 := ⟨rfl, rfl⟩
  rw [ha.1, ha.2, hs]
  generalize (if s.ftime.slew > 0 then 1 else if s.ftime.slew < 0 then -1 else if s.ftime.parent = none then s.ftime.free else 0 : Int) = d at hd ⊢
  omega

end Sys2Proof.Machine

namespace Sys2Proof.Proofs
open Sys2Proof.Machine

/-- Settles O55: the counts of time pass through the rest of the tick, which does nothing where no link and no packet waits. -/
theorem idleStep : Obligations.IdleStep := by
  unfold Obligations.IdleStep
  intro s hs
  refine ⟨s.tick, by rw [step, hs], ?_⟩
  obtain ⟨hq, hm, hh⟩ : s.tick.pending = s.pending ∧ s.tick.mem = s.mem ∧ s.tick.hostMem = s.hostMem := by
    simpa [State.kept] using State.tick_kept s
  have hoff : s.life.powerGood = false → s.tick = { s with clk := { s.clk with uptime := s.clk.uptime + 10 } } := by
    intro h
    unfold State.tick
    simp [h]
  have hon : s.life.powerGood = true → s.tick.cores = s.cores ∧ s.tick.clk.uptime = s.clk.uptime + 10 ∧
      s.tick.clk.localTime = (s.clk.localTime + 10) % 2 ^ 64 ∧
      s.tick.clk.fabricTime = s.advance.clk.fabricTime ∧ s.tick.ftime.frac = s.advance.ftime.frac := by
    intro h
    have ht := tick_timed h
    simp only [State.timed, Prod.mk.injEq] at ht
    exact ht
  refine ⟨hq.trans hs, hm, hh, ?_, ?_, hoff, fun h => ?_⟩
  · cases h : s.life.powerGood with
    | false => rw [hoff h]
    | true => exact (hon h).1
  · cases h : s.life.powerGood with
    | false => rw [hoff h]
    | true => exact (hon h).2.1
  obtain ⟨-, -, hl, hfab, hfrac⟩ := hon h
  refine ⟨hl, ?_, fun hn hheld => ?_⟩
  · intro d hf hd
    rw [hfab, hfrac]
    exact advance_fabric s hf hd
  · obtain ⟨ho, hno⟩ := settle_spec ({ s with clk := { s.clk with uptime := s.clk.uptime + 10 } } : State).advance
    have ht : s.tick = State.settle ({ s with clk := { s.clk with uptime := s.clk.uptime + 10 } } : State).advance := by
      unfold State.tick
      simp only [h, Bool.not_true, Bool.false_eq_true, if_false]
      rw [linkDisableTick_none, retryHeld_none]
      · rw [ho]; exact hheld
      · intro n hl; rw [ho]; exact hn n hl
    rw [ht]
    refine ⟨?_, fun e => ?_, fun hx => ?_⟩
    · rw [ho]; rfl
    · rw [ho]; exact mem_settle s.clk e
    · rw [hno hx]; exact ⟨rfl, rfl⟩

end Sys2Proof.Proofs

/-! SUPPORT. The dictionary's counters, and what the operations that report something (a pulse, a record, an event, a message) leave alone. -/
namespace Sys2Proof.Machine

/-! ### The dictionary -/

/-- The objects that a count of 64 bits stands in wrap (R508). -/
def odWraps (i : Nat) : Bool :=
  match odInfo i with
  | some o => o.ty.top == 2 ^ 64 - 1
  | none => true

theorem odNum_odAdd_same (s : State) {i : Nat} (k n : Nat) (h : odWraps i = true) :
    (s.odAdd i k n).odNum i k = (s.odNum i k + n) % 2 ^ 64 := by
  unfold State.odAdd
  rw [State.odNum_odSetN_same]
  unfold odWraps at h
  cases ho : odInfo i with
  | none => rfl
  | some o =>
    rw [ho] at h
    exact if_pos (by simpa using h)

theorem odNum_odInc_same (s : State) {i : Nat} (k : Nat) (h : odWraps i = true) :
    (s.odInc i k).odNum i k = (s.odNum i k + 1) % 2 ^ 64 := odNum_odAdd_same s k 1 h

theorem odGet_odSetN_other (s : State) {i k j m : Nat} (n : Nat) (h : odKey j m ≠ odKey i k) :
    (s.odSetN i k n).odGet j m = s.odGet j m := State.odGet_odSet_other _ _ h
theorem odGet_odAdd_other (s : State) {i k j m : Nat} (n : Nat) (h : odKey j m ≠ odKey i k) :
    (s.odAdd i k n).odGet j m = s.odGet j m := odGet_odSetN_other _ _ h
theorem odGet_odInc_other (s : State) {i k j m : Nat} (h : odKey j m ≠ odKey i k) :
    (s.odInc i k).odGet j m = s.odGet j m := odGet_odSetN_other _ _ h

theorem odKey_ne {i k j m : Nat} (hk : k < 256) (hm : m < 256) (h : j ≠ i) : odKey j m ≠ odKey i k := by
  unfold odKey; omega

theorem odKey_ne_sub {i k m : Nat} (h : m ≠ k) : odKey i m ≠ odKey i k := by
  unfold odKey; omega

/-! ### Reports -/

/-- The elements that a report may count or put in force: merged pulses, the trace's sources, lost events, the mailbox. -/
def Noisy (i : Nat) : Prop := i = 0x7820 ∨ i = 0xA200 ∨ i = 0x1122

/-- Only what reports write differs: crossings, the functions' registers, output, trace, management, and the dictionary where reports count. -/
def State.Reports (s t : State) : Prop :=
  t = { s with od := t.od, clk := { s.clk with xing := t.clk.xing }, fns := t.fns, out := t.out, trace := t.trace, mgmt := t.mgmt } ∧
  ∀ i j, j < 256 → ¬ Noisy i → t.odGet i j = s.odGet i j ∧ t.odPending i j = s.odPending i j

namespace State.Reports

theorem refl (s : State) : s.Reports s := ⟨rfl, fun _ _ _ _ => ⟨rfl, rfl⟩⟩

theorem trans {s t u : State} (h : s.Reports t) (g : t.Reports u) : s.Reports u := by
  obtain ⟨h1, h2⟩ := h
  obtain ⟨g1, g2⟩ := g
  refine ⟨?_, fun i j hj hi => ⟨(g2 i j hj hi).1.trans (h2 i j hj hi).1, (g2 i j hj hi).2.trans (h2 i j hj hi).2⟩⟩
  rw [g1, h1]

/-- The same dictionary, and the rest as a report leaves it. -/
theorem of_same {s t : State}
    (h : t = { s with od := t.od, clk := { s.clk with xing := t.clk.xing }, fns := t.fns, out := t.out, trace := t.trace, mgmt := t.mgmt })
    (ho : t.od = s.od) : s.Reports t :=
  ⟨h, fun i j _ _ => ⟨by unfold State.odGet; rw [ho], by unfold State.odPending; rw [ho]⟩⟩

theorem odGet {s t : State} (h : s.Reports t) {i j : Nat} (hj : j < 256) (hi : ¬ Noisy i) : t.odGet i j = s.odGet i j := (h.2 i j hj hi).1
theorem odNum {s t : State} (h : s.Reports t) {i j : Nat} (hj : j < 256) (hi : ¬ Noisy i) : t.odNum i j = s.odNum i j := by
  unfold State.odNum; rw [h.odGet hj hi]
theorem odPending {s t : State} (h : s.Reports t) {i j : Nat} (hj : j < 256) (hi : ¬ Noisy i) : t.odPending i j = s.odPending i j :=
  (h.2 i j hj hi).2

theorem foldl {α : Type} {f : State → α → State} (h : ∀ (s : State) a, s.Reports (f s a)) (l : List α) (s : State) : s.Reports (l.foldl f s) := by
  induction l generalizing s with
  | nil => exact refl s
  | cons a l ih => exact (h s a).trans (ih _)

theorem withMgmt {s t : State} (h : s.Reports t) (m : Mgmt) : s.Reports { t with mgmt := m } :=
  h.trans (of_same rfl rfl)

end State.Reports

theorem odSetN_reports {s : State} {i k n : Nat} (hi : Noisy i) (hk : k < 256) : s.Reports (s.odSetN i k n) :=
  ⟨rfl, fun a j hj ha => ⟨odGet_odSetN_other s n (odKey_ne hk hj (fun e => ha (e ▸ hi))), rfl⟩⟩

theorem odInc_reports {s : State} {i k : Nat} (hi : Noisy i) (hk : k < 256) : s.Reports (s.odInc i k) := odSetN_reports hi hk

theorem odApply_reports {s : State} {i k : Nat} (hi : Noisy i) (hk : k < 256) : s.Reports (s.odApply i k) := by
  refine ⟨?_, fun a j hj ha => ?_⟩
  · unfold State.odApply
    split <;> rfl
  · have hne := odKey_ne hk hj (fun e : a = i => ha (e ▸ hi))
    exact ⟨odGet_odApply_other s hne, by rw [odPending_odApply, if_neg hne]⟩

theorem msix_reports (s : State) (k vec : Nat) : s.Reports (s.msix k vec) := by
  unfold State.msix
  split
  · exact .of_same rfl rfl
  · exact .of_same rfl rfl

theorem fnEvent_reports (s : State) (k b : Nat) : s.Reports (s.fnEvent k b) := by
  unfold State.fnEvent
  split
  · exact .refl s
  · exact State.Reports.trans (t := s.setFn _ _) (.of_same rfl rfl) (msix_reports _ _ _)

theorem landed_reports (s : State) (ev i : Nat) : s.Reports (s.landed ev i) := by
  unfold State.landed
  split
  · exact msix_reports s _ _
  · split
    · exact fnEvent_reports s _ _
    · exact .refl s

theorem pulse_reports (s : State) {ev : Nat} (i : Nat) (h : ev < 256) : s.Reports (s.pulse ev i) := by
  unfold State.pulse
  simp only []
  split
  · exact State.Reports.trans (t := { s with clk := _ }) (.of_same rfl rfl) (landed_reports _ _ _)
  · split
    · exact .of_same rfl rfl
    · exact odInc_reports (.inl rfl) h

theorem lilac_reports (s : State) (kind code src addr data : Nat) (part : Option Nat) :
    s.Reports (s.lilac kind code src addr data part) := by
  unfold State.lilac
  simp only []
  have ha := odApply_reports (s := s) (i := 0xA200) (k := 0) (.inr (.inl rfl)) (by omega)
  split
  · exact ha.trans (State.Reports.trans (t := { s.odApply 0xA200 0 with trace := _ }) (.of_same rfl rfl) (pulse_reports _ _ (by omega)))
  · exact ha

theorem mbxPut_reports (s : State) (m : List Byte) : s.Reports (s.mbxPut m) := by
  unfold State.mbxPut
  simp only []
  split
  · exact State.Reports.trans (t := { s with mgmt := _ }) (.of_same rfl rfl) (pulse_reports _ _ (by omega))
  · exact .of_same rfl rfl

theorem sendTo_reports (s : State) (door : Door) (src : Nat) (m : List Byte) : s.Reports (s.sendTo door src m) := by
  cases door with
  | m => exact .of_same rfl rfl
  | h => exact mbxPut_reports s m

theorem deliverOne_reports (s : State) (x : Session) : s.Reports (s.deliverOne x) := by
  unfold State.deliverOne
  split
  · exact State.Reports.withMgmt (State.Reports.foldl (fun s _ => sendTo_reports s x.door x.src _) _ s) _
  · exact .refl s

theorem raise_reports (s : State) (code idx sub detail : Nat) : s.Reports (s.raise code idx sub detail) := by
  unfold State.raise
  simp only []
  have hi : s.Reports (if decide ((s.mgmt.events.filter (fun x => decide (s.now ≤ x.at_ + 60_000_000_000))).length ≥ 4096) then
      s.odInc 0x1122 0 else s) := by
    split
    · exact odInc_reports (.inr (.inr rfl)) (by omega)
    · exact .refl s
  exact (hi.withMgmt _).trans (State.Reports.foldl deliverOne_reports _ _)

end Sys2Proof.Machine

/-! SUPPORT. Bits of words, and the functions' events. -/
namespace Sys2Proof.Machine

theorem bit_eq_testBit (k n : Nat) : bit k n = n.testBit k := by
  unfold bit
  rw [Nat.testBit_eq_decide_div_mod_eq, Nat.shiftRight_eq_div_pow]
  by_cases h : n / 2 ^ k % 2 = 1 <;> simp [h]

theorem bit_withBit_same (k n : Nat) (b : Bool) : bit k (withBit k b n) = b := by
  have h2 : 2 ^ k > 0 := Nat.two_pow_pos k
  unfold withBit
  cases hb : bit k n <;> cases b <;> simp only [if_true, if_false, hb, Bool.false_eq_true]
  · rw [bit_eq_testBit] at hb ⊢
    rw [Nat.add_comm, Nat.testBit_two_pow_add_eq, hb]; rfl
  · rw [bit_eq_testBit] at hb ⊢
    have hle : 2 ^ k ≤ n := Nat.ge_two_pow_of_testBit hb
    have he : n.testBit k = !(n - 2 ^ k).testBit k := by
      rw [← Nat.testBit_two_pow_add_eq, Nat.add_sub_cancel' hle]
    rw [hb] at he
    simpa using he

/-- The bits of a word as a division, without a bound. -/
theorem bits_or_one (n : Nat) {hi lo : Nat} (h : 1 ≤ lo) : bits hi lo (n ||| 1) = bits hi lo n := by
  unfold bits
  congr 1
  apply Nat.eq_of_testBit_eq
  intro i
  have : (1 : Nat).testBit (lo + i) = false := by
    rw [Nat.testBit_eq_false_of_lt]
    exact Nat.one_lt_two_pow (by omega)
  simp [Nat.testBit_shiftRight, this]

theorem toNat_or_one (v : Word) : (v ||| 1).toNat = v.toNat ||| 1 := BitVec.toNat_or ..

theorem bit_or_one (n : Nat) : bit 0 (n ||| 1) = true := by
  rw [bit_eq_testBit, Nat.testBit_or]; simp

theorem testBit_and_not_one (v : Word) (i : Nat) : (v &&& ~~~1).toNat.testBit i = (decide (i ≠ 0) && v.toNat.testBit i) := by
  rw [BitVec.testBit_toNat, BitVec.testBit_toNat, BitVec.getLsbD_and, BitVec.getLsbD_not, show (1 : Word) = 1#64 from rfl,
    BitVec.getLsbD_one, Bool.and_comm]
  by_cases h : i < 64
  · simp [h]
  · simp [h, BitVec.getLsbD_of_ge v i (by omega)]

theorem bits_and_not_one (v : Word) {hi lo : Nat} (h : 1 ≤ lo) : bits hi lo (v &&& ~~~1).toNat = bits hi lo v.toNat := by
  unfold bits
  congr 1
  apply Nat.eq_of_testBit_eq
  intro i
  have h0 : lo + i ≠ 0 := by omega
  rw [Nat.testBit_shiftRight, Nat.testBit_shiftRight, testBit_and_not_one, decide_eq_true h0, Bool.true_and]

theorem bit_and_not_one (v : Word) : bit 0 (v &&& ~~~1).toNat = false := by
  rw [bit_eq_testBit, testBit_and_not_one]; rfl

/-! ### The functions' events, and ignored sequences (R210, R230) -/

theorem lilac_fns (s : State) (kind code src addr data : Nat) (part : Option Nat) : (s.lilac kind code src addr data part).fns = s.fns := by
  have ha : (s.odApply 0xA200 0).fns = s.fns := by unfold State.odApply; split <;> rfl
  unfold State.lilac
  simp only []
  split
  · rw [(pulse_spec _ 12 _ (by omega) (by omega) (by omega)).1.1]; exact ha
  · exact ha

theorem fn_msix_event (s : State) (k vec j : Nat) : ((s.msix k vec).fn j).event = (s.fn j).event := by
  unfold State.msix
  split
  · rfl
  · rw [State.fn_setFn]; split
    · rename_i e; rw [e]
    · rfl

theorem fnEvent_sets (s : State) (k b : Nat) : bit b ((s.fnEvent k b).fn k).event = true := by
  unfold State.fnEvent
  split
  · assumption
  · rw [fn_msix_event, State.fn_setFn_same]
    exact bit_withBit_same b (s.fn k).event true

/-- What an ignored sequence does: it is counted in an element of OD 0x9010 and by its kind, and a function is told (R230). -/
theorem ignoredAt_spec (s : State) (kind m : Nat) (k : State → Nat) (code src addr data : Nat) (part : Option Nat) (hk : kind < 256)
    (hm : m < 256) :
    let u := (s.odInc 0x9010 m).odInc 0x9011 kind
    let t := (u.fnEvent (k u) 4).lilac 7 code src addr data part
    t = { s with od := t.od, clk := { s.clk with xing := t.clk.xing }, fns := t.fns, out := t.out, trace := t.trace, mgmt := t.mgmt } ∧
    t.odNum 0x9010 m = (s.odNum 0x9010 m + 1) % 2 ^ 64 ∧
    t.odNum 0x9011 kind = (s.odNum 0x9011 kind + 1) % 2 ^ 64 ∧ bit 4 (t.fn (k u)).event = true := by
  intro u t
  have hr : u.Reports t := (fnEvent_reports u (k u) 4).trans (lilac_reports _ _ _ _ _ _ _)
  have hn9010 : ¬ Noisy 0x9010 := by unfold Noisy; omega
  have hn9011 : ¬ Noisy 0x9011 := by unfold Noisy; omega
  refine ⟨by rw [hr.1]; rfl, ?_, ?_, ?_⟩
  · rw [hr.odNum hm hn9010]
    have : u.odNum 0x9010 m = (s.odInc 0x9010 m).odNum 0x9010 m := by
      unfold State.odNum; rw [odGet_odInc_other _ (odKey_ne hk hm (by omega))]
    rw [this, odNum_odInc_same _ _ (by decide)]
  · rw [hr.odNum hk hn9011, odNum_odInc_same _ _ (by decide)]
    unfold State.odNum
    rw [odGet_odInc_other _ (odKey_ne hm hk (by omega))]
  · have : t.fns = (u.fnEvent (k u) 4).fns := lilac_fns _ _ _ _ _ _ _
    unfold State.fn
    rw [this]
    exact fnEvent_sets _ _ _

/-- An ignored sequence of a partition. -/
theorem ignored_spec (s : State) (kind p : Nat) (queue : Option Nat) (fn off val : Nat) (hk : kind < 256) (hp : p + 1 < 256) :
    let t := s.ignored kind (some p) queue fn off val
    t = { s with od := t.od, clk := { s.clk with xing := t.clk.xing }, fns := t.fns, out := t.out, trace := t.trace, mgmt := t.mgmt } ∧
    t.odNum 0x9010 (p + 1) = (s.odNum 0x9010 (p + 1) + 1) % 2 ^ 64 ∧
    t.odNum 0x9011 kind = (s.odNum 0x9011 kind + 1) % 2 ^ 64 ∧ bit 4 (t.fn (s.serving p)).event = true := by
  have hs : ((s.odInc 0x9010 (p + 1)).odInc 0x9011 kind).serving p = s.serving p := by
    unfold State.serving State.odBool State.odNum
    rw [odGet_odInc_other _ (odKey_ne hk hp (by omega)), odGet_odInc_other _ (odKey_ne hp hp (by omega))]
  rw [← hs]
  exact ignoredAt_spec s kind (p + 1) (fun u => u.serving p) _ _ _ _ _ hk hp

/-- An ignored sequence of no partition. -/
theorem ignored_none_spec (s : State) (kind : Nat) (queue : Option Nat) (fn off val : Nat) (hk : kind < 256) :
    let t := s.ignored kind none queue fn off val
    t = { s with od := t.od, clk := { s.clk with xing := t.clk.xing }, fns := t.fns, out := t.out, trace := t.trace, mgmt := t.mgmt } ∧
    t.odNum 0x9011 kind = (s.odNum 0x9011 kind + 1) % 2 ^ 64 := by
  obtain ⟨h, -, hk, -⟩ := ignoredAt_spec s kind 17 (fun _ => fn) kind (queue.getD 0xFFFF) off (val % 2 ^ 64) none hk (by omega)
  exact ⟨h, hk⟩

/-- An ignored sequence of a queue's page. -/
theorem qIgnored_spec (s : State) (kind q r : Nat) (v : Word) (hk : kind < 256) (hq : q < 1024) :
    let t := s.qIgnored kind q r v
    t = { s with od := t.od, clk := { s.clk with xing := t.clk.xing }, fns := t.fns, out := t.out, trace := t.trace, mgmt := t.mgmt } ∧
    t.odNum 0x9010 (q / 64 + 1) = (s.odNum 0x9010 (q / 64 + 1) + 1) % 2 ^ 64 ∧
    t.odNum 0x9011 kind = (s.odNum 0x9011 kind + 1) % 2 ^ 64 ∧ bit 4 (t.fn (s.serving (q / 64))).event = true :=
  ignored_spec s kind (q / 64) (some q) _ _ _ hk (by omega)

end Sys2Proof.Machine

/-! SUPPORT. What the operations on a queue's registers do. -/
namespace Sys2Proof.Machine

/-- A pulse with no interrupt behind it changes the crossings and the merge counters only (R46). -/
theorem pulse_eq (s : State) (i k : Nat) (hi : i < 256) (h4 : i ≠ 4) (h10 : i ≠ 10) :
    s.pulse i k = { s with clk := { s.clk with xing := (s.pulse i k).clk.xing }, od := (s.pulse i k).od } := by
  obtain ⟨⟨h, -, -, -⟩, hc⟩ := pulse_spec s i k hi h4 h10
  conv_lhs => rw [h, hc]

/-- A record of the trace touches no queue. -/
theorem State.Reports.queue {s t : State} (h : s.Reports t) (r : Nat) : t.queue r = s.queue r := by
  unfold State.queue; rw [h.1]

theorem servesQ_of {s : State} {fn q : Nat} (h : s.serving (q / 64) = fn) : s.servesQ fn q = true := by
  simp [State.servesQ, qPart, h]

theorem exec_doorbell {s : State} {fn : Fin 17} {q : Fin 1024} (v : Word) (h : s.serving (q / 64) = fn.val) :
    exec (.doorbell fn q v) s = .next (s.doorbell q v) := if_pos (servesQ_of h)
theorem exec_queueEnable {s : State} {fn : Fin 17} {q : Fin 1024} (v : Word) (h : s.serving (q / 64) = fn.val) :
    exec (.queueEnable fn q v) s = .next (s.writeCtrl fn q (v ||| 1)) := if_pos (servesQ_of h)
theorem exec_queueClose {s : State} {fn : Fin 17} {q : Fin 1024} (v : Word) (h : s.serving (q / 64) = fn.val) :
    exec (.queueClose fn q v) s = .next (s.writeCtrl fn q (v &&& ~~~1)) := if_pos (servesQ_of h)

/-- A change of state of a queue that no interrupt tells leaves everything but that queue as reports do (R214, R215). -/
theorem qGo_queue (s : State) (q r : Nat) {c : QCode} (h : (s.queue q).code ≠ c) (hc : c ≠ .stopped) (hg : c ≠ .guilty) :
    (s.qGo q c).queue r = if r = q then { s.queue q with code := c } else s.queue r := by
  unfold State.qGo
  rw [if_neg h]
  cases c with
  | stopped => exact absurd rfl hc
  | guilty => exact absurd rfl hg
  | enabled => exact ((lilac_reports _ _ _ _ _ _ _).queue r).trans (s.queue_setQueue q r _)
  | closing => exact ((lilac_reports _ _ _ _ _ _ _).queue r).trans (s.queue_setQueue q r _)
  | disabled => exact ((lilac_reports _ _ _ _ _ _ _).queue r).trans (s.queue_setQueue q r _)

theorem updQueue_queue (s : State) (q r : Nat) (f : Queue → Queue) :
    (s.updQueue q f).queue r = if r = q then f (s.queue q) else s.queue r := s.queue_setQueue q r _

/-- A recorded tail. -/
theorem doorbell_records {s : State} {q : Nat} {v : Word}
    (hopen : ((s.queue q).code = .enabled ∨ (s.queue q).code = .stopped) ∧ s.inService = true)
    (ht : v.toNat % 2 ^ 16 < (s.queue q).slots)
    (hb : ¬ (v.toNat % 2 ^ 16 + (s.queue q).slots - (s.queue q).head) % (s.queue q).slots < (s.queue q).fetchedSlots) :
    s.doorbell q v = (s.setQueue q { s.queue q with tail := v.toNat % 2 ^ 16 }).pulse 1 q := by
  have hv : bits 15 0 v.toNat = v.toNat % 2 ^ 16 := by simp [bits]
  obtain ⟨hc, hs⟩ := hopen
  have hc : ((s.queue q).code == .enabled || (s.queue q).code == .stopped) = true := by simpa using hc
  unfold State.doorbell
  simp only [hv, hc, hs, Bool.not_true, Bool.or_self, Bool.false_eq_true, if_false]
  rw [if_neg (by omega), if_neg hb]

theorem doorbell_ignored {s : State} {q k : Nat} {v : Word} :
    let open_ := ((s.queue q).code = .enabled ∨ (s.queue q).code = .stopped) ∧ s.inService = true
    let t := v.toNat % 2 ^ 16
    let behind := (t + (s.queue q).slots - (s.queue q).head) % (s.queue q).slots < (s.queue q).fetchedSlots
    (¬ open_ ∧ k = 1 ∨ open_ ∧ (s.queue q).slots ≤ t ∧ k = 2 ∨ open_ ∧ t < (s.queue q).slots ∧ behind ∧ k = 3) →
    s.doorbell q v = s.qIgnored k q 0x40 v := by
  intro open_ t behind h
  have hv : bits 15 0 v.toNat = t := by simp [bits, t]
  have ho : (!((s.queue q).code == .enabled || (s.queue q).code == .stopped) || !s.inService) = !decide open_ := by
    simp only [open_, Bool.decide_and, Bool.decide_or, Bool.decide_eq_true, Bool.not_and]
    rfl
  unfold State.doorbell
  simp only [hv, ho]
  rcases h with ⟨h, rfl⟩ | ⟨h, hle, rfl⟩ | ⟨h, hlt, hb, rfl⟩
  · rw [if_pos (by simp [h])]
  · rw [if_neg (by simp [h]), if_pos hle]
  · rw [if_neg (by simp [h]), if_neg (by omega), if_pos hb]

/-- QUEUE.CTRL with the other fields as they are writes the enable only (R214). -/
theorem writeCtrl_same {s : State} {fn q : Nat} {v : Word} (h : bits 43 22 v.toNat = bits 43 22 (s.queue q).ctrl) :
    s.writeCtrl fn q v = s.writeEn fn q v := by
  unfold State.writeCtrl
  simp only [h, ne_eq, not_true_eq_false, if_false]

/-- QUEUE.CTRL.EN of a serviceable Disabled queue (R214). -/
theorem writeEn_disabled {s : State} {fn q : Nat} {v : Word} (hv : bit 0 v.toNat = true) (hc : (s.queue q).code = .disabled)
    (hs : s.serviceable fn q = true) (r : Nat) :
    (s.writeEn fn q v).queue r = if r = q then { s.queue q with
      code := .enabled, head := 0, tail := 0, cqwr := 0, phase := true, fetched := [], ctrl := withBit 0 true (s.queue q).ctrl }
    else s.queue r := by
  unfold State.writeEn
  simp only [hv, hc, hs, if_true]
  rw [updQueue_queue, qGo_queue _ _ _ (by simp) (by simp) (by simp), qGo_queue _ _ _ (by simp) (by simp) (by simp),
    State.queue_setQueue, State.queue_setQueue]
  split <;> simp

theorem writeEn_stopped {s : State} {fn q : Nat} {v : Word} (hv : bit 0 v.toNat = true) (hc : (s.queue q).code = .stopped)
    (hs : s.serviceable fn q = true) :
    s.writeEn fn q v = ((s.qGo q .enabled).updQueue q (fun x => { x with ctrl := withBit 0 true x.ctrl })).qFront q := by
  unfold State.writeEn
  simp only [hv, hc, hs, if_true]

theorem qFront_queue (s : State) (q : Nat) :
    (s.qFront q).queue q = { s.queue q with fetched := ((s.qFront q).queue q).fetched } ∧
    ((s.qFront q).queue q).fetched.map Fetched.bytes = (s.queue q).fetched.map Fetched.bytes ∧
    ∀ r, r ≠ q → (s.qFront q).queue r = s.queue r := by
  unfold State.qFront
  refine ⟨?_, ?_, fun r hr => by rw [updQueue_queue, if_neg hr]⟩
  · rw [updQueue_queue, if_pos rfl]; split <;> rfl
  · rw [updQueue_queue, if_pos rfl]
    split
    · rename_i h; rw [h]; rfl
    · rfl

/-- QUEUE.CTRL.EN of a queue that is not serviceable, or Closing, is ignored (R214, R230). -/
theorem writeEn_ignored {s : State} {fn q : Nat} {v : Word} (hv : bit 0 v.toNat = true)
    (h : (s.queue q).code ∈ [.disabled, .stopped, .guilty] ∧ s.serviceable fn q = false ∨ (s.queue q).code = .closing) :
    s.writeEn fn q v = s.qIgnored 5 q 0x10 v := by
  unfold State.writeEn
  rcases h with ⟨hc, hs⟩ | hc
  · simp only [List.mem_cons, List.not_mem_nil, or_false] at hc
    rcases hc with hc | hc | hc <;> simp [hv, hc, hs]
  · simp [hv, hc]

/-- A close of a queue that is open (R214, R215). -/
theorem writeEn_close {s : State} {fn q : Nat} {v : Word} (hv : bit 0 v.toNat = false)
    (hc : (s.queue q).code = .enabled ∨ (s.queue q).code = .stopped ∨ (s.queue q).code = .guilty) :
    (s.writeEn fn q v).queue q = if s.qOut q = 0 then
      { s.queue q with code := .disabled, fetched := [], ctrl := withBit 0 false (s.queue q).ctrl }
    else { s.queue q with code := .closing, ctrl := withBit 0 false (s.queue q).ctrl } := by
  have hne : ∀ c, c = .disabled ∨ c = .closing → (s.queue q).code ≠ c := by
    rintro c (rfl | rfl) h <;> simp [h] at hc
  have he : s.writeEn fn q v = if s.qOut q = 0 then ((s.setQueue q { s.queue q with fetched := [] }).qGo q .disabled).updQueue q
      (fun x => { x with ctrl := withBit 0 false x.ctrl })
    else (s.qGo q .closing).updQueue q (fun x => { x with ctrl := withBit 0 false x.ctrl }) := by
    unfold State.writeEn
    rcases hc with hc | hc | hc <;> simp only [hv, hc, Bool.false_eq_true, if_false]
  rw [he]
  split
  · rw [updQueue_queue, if_pos rfl, qGo_queue _ _ _ (by simpa using hne _ (.inl rfl)) (by simp) (by simp), if_pos rfl, State.queue_setQueue_same]
  · rw [updQueue_queue, if_pos rfl, qGo_queue _ _ _ (hne _ (.inr rfl)) (by simp) (by simp), if_pos rfl]

end Sys2Proof.Machine

namespace Sys2Proof.Proofs
open Sys2Proof.Machine

/-- Settles O12: the doorbell's and QUEUE.CTRL's branches one by one; what a branch reports touches no queue. -/
theorem queuesAndDoorbells : Obligations.QueuesAndDoorbells := by
  unfold Obligations.QueuesAndDoorbells
  refine ⟨?_, ?_⟩
  · intro fn q v s x t' open_ behind hs
    refine ⟨fun ho ht hb => ⟨_, exec_doorbell v hs, ?_⟩, fun k hk => ⟨_, exec_doorbell v hs, ?_⟩⟩
    · rw [doorbell_records ho ht hb]
      have hp := pulse_reports (s.setQueue q { s.queue q with tail := v.toNat % 2 ^ 16 }) (ev := 1) q (by omega)
      refine ⟨?_, fun r => ?_⟩
      · rw [pulse_eq _ 1 q (by omega) (by omega) (by omega)]; rfl
      · rw [hp.queue, State.queue_setQueue]
    · rw [doorbell_ignored hk]
      obtain ⟨hf, h10, h11, he⟩ := qIgnored_spec s k q 0x40 v (by omega) q.isLt
      rw [hs] at he
      exact ⟨by rw [hf], by rw [hf], by rw [hf], h10, h11, he⟩
  · intro fn q v s x hs hv
    have hv1 : bits 43 22 (v ||| 1).toNat = bits 43 22 (s.queue q).ctrl := by rw [toNat_or_one, bits_or_one _ (by omega)]; exact hv
    have hv0 : bits 43 22 (v &&& ~~~1).toNat = bits 43 22 (s.queue q).ctrl := by rw [bits_and_not_one _ (by omega)]; exact hv
    have hb1 : bit 0 (v ||| 1).toNat = true := by rw [toNat_or_one]; exact bit_or_one _
    have hb0 := bit_and_not_one v
    refine ⟨fun hc hserv => ⟨_, exec_queueEnable v hs, ?_⟩, fun hc hserv => ⟨_, exec_queueEnable v hs, ?_⟩,
      fun hc => ⟨_, exec_queueEnable v hs, ?_⟩, fun hc => ⟨fun hout => ⟨_, exec_queueClose v hs, ?_⟩, fun hout => ⟨_, exec_queueClose v hs, ?_⟩⟩⟩
    · rw [writeCtrl_same hv1]
      refine ⟨?_, fun r hr => ?_⟩
      · rw [writeEn_disabled hb1 hc hserv, if_pos rfl]
      · rw [writeEn_disabled hb1 hc hserv, if_neg hr]
    · rw [writeCtrl_same hv1, writeEn_stopped hb1 hc hserv]
      have hu : ∀ r, ((s.qGo q .enabled).updQueue q (fun x => { x with ctrl := withBit 0 true x.ctrl })).queue r =
          if r = q.val then { s.queue q with code := .enabled, ctrl := withBit 0 true (s.queue q).ctrl } else s.queue r := by
        intro r
        rw [updQueue_queue, qGo_queue _ _ _ (by rw [hc]; simp) (by simp) (by simp), if_pos rfl,
          qGo_queue _ _ _ (by rw [hc]; simp) (by simp) (by simp)]
        split <;> rfl
      obtain ⟨h1, h2, h3⟩ := qFront_queue ((s.qGo q .enabled).updQueue q (fun x => { x with ctrl := withBit 0 true x.ctrl })) q
      rw [hu, if_pos rfl] at h1 h2
      exact ⟨h1, h2, fun r hr => by rw [h3 r hr, hu, if_neg hr]⟩
    · rw [writeCtrl_same hv1, writeEn_ignored hb1 hc]
      obtain ⟨hf, -, h11, -⟩ := qIgnored_spec s 5 q 0x10 (v ||| 1) (by omega) q.isLt
      exact ⟨by rw [hf], h11⟩
    · rw [writeCtrl_same hv0]; exact (writeEn_close hb0 hc).trans (if_pos hout)
    · rw [writeCtrl_same hv0]; exact (writeEn_close hb0 hc).trans (if_neg hout)

end Sys2Proof.Proofs

/-! SUPPORT. What the writes of the host's registers do (R205 to R218, R229). -/
namespace Sys2Proof.Machine

theorem exec_queueConfigWrite {s : State} {fn : Fin 17} {q : Fin 1024} (r : Fin 3) (v : Word) (h : s.serving (q / 64) = fn.val) :
    exec (.queueConfigWrite fn q r v) s = .next (if r.val = 2 then s.writeCtrl fn q v else s.writeRing q (r.val == 1) v) := by
  show execQueueConfigWrite fn q r v s = _
  unfold execQueueConfigWrite
  rw [if_neg (by simp [servesQ_of h])]
  split <;> rfl
theorem exec_cqhIndexWrite {s : State} {fn : Fin 17} {q : Fin 1024} (v : Word) (h : s.serving (q / 64) = fn.val) :
    exec (.cqhIndexWrite fn q v) s = .next (s.writeCqh q v) := if_pos (servesQ_of h)

theorem onFn_has {s : State} {fn : Nat} (f : State) (h : s.hasFn fn = true) : onFn s fn f = .next f := if_pos h
theorem onFn_hasNot {s : State} {fn : Nat} (f : State) (h : ¬ s.hasFn fn = true) : onFn s fn f = .next s := if_neg h

theorem bits_low (n w : Nat) : bits w 0 n = n % 2 ^ (w + 1) := by simp [bits]

/-- A ring's register of a Disabled queue that nothing freezes takes its value (R214). -/
theorem writeRing_takes {s : State} {q : Nat} (cq : Bool) {v : Word} (hc : (s.queue q).code = .disabled)
    (hf : s.frozen (q / 64) = false) :
    let n := v.toNat / 4096 * 4096 + v.toNat % 32
    let y := if cq then { s.queue q with cq := n } else { s.queue q with ring := n }
    s.writeRing q cq v = { s with queues := (s.writeRing q cq v).queues } ∧
    ∀ k, (s.writeRing q cq v).queue k = if k = q then y else s.queue k := by
  intro n y
  have hv : bits 4 0 v.toNat = v.toNat % 32 := bits_low _ _
  have he : s.writeRing q cq v = if n = (if cq then (s.queue q).cq else (s.queue q).ring) then s else s.setQueue q y := by
    unfold State.writeRing
    simp only [hv]
    rw [if_neg (by simp [qPart, hf]), if_neg (c := (s.queue q).code ≠ .disabled) (by simp [hc])]
  by_cases hn : n = (if cq then (s.queue q).cq else (s.queue q).ring)
  · have hy : y = s.queue q := by
      cases cq
      · exact congrArg (fun n : Nat => { s.queue q with ring := n }) hn
      · exact congrArg (fun n : Nat => { s.queue q with cq := n }) hn
    rw [he, if_pos hn, hy]
    exact ⟨rfl, fun k => by split <;> simp [*]⟩
  · rw [he, if_neg hn]
    exact ⟨rfl, fun k => s.queue_setQueue q k y⟩

theorem writeRing_ignored {s : State} {q : Nat} (cq : Bool) {v : Word}
    (h : s.frozen (q / 64) = true ∨ ((s.queue q).code ≠ .disabled ∧
      v.toNat / 4096 * 4096 + v.toNat % 32 ≠ (if cq then (s.queue q).cq else (s.queue q).ring))) :
    s.writeRing q cq v = s.qIgnored 4 q (if cq then 8 else 0) v := by
  have hv : bits 4 0 v.toNat = v.toNat % 32 := bits_low _ _
  unfold State.writeRing
  simp only [hv]
  rcases h with h | ⟨hc, hn⟩
  · exact if_pos h
  · rw [if_neg hn, if_pos hc, ite_self]

theorem writeCtrl_ignored {s : State} {fn q : Nat} {v : Word} (hc : (s.queue q).code ≠ .disabled)
    (hv : bits 43 22 v.toNat ≠ bits 43 22 (s.queue q).ctrl) : s.writeCtrl fn q v = s.qIgnored 4 q 0x10 v := by
  unfold State.writeCtrl
  simp only []
  rw [if_pos hv, if_pos (by simp [hc])]

/-- CQHEAD takes an index among the records written, and no other (R218). -/
theorem writeCqh_eq (s : State) (q : Nat) (v : Word) :
    let x := s.queue q
    let h := v.toNat % 2 ^ 16
    let r := x.records
    s.writeCqh q v = if h < r ∧ (h + r - x.cqhead % r) % r ≤ (x.cqwr + r - x.cqhead % r) % r then s.setQueue q { x with cqhead := h }
      else s.qIgnored 10 q 0x20 v := by
  intro x h r
  have hv : bits 15 0 v.toNat = h := bits_low _ _
  unfold State.writeCqh
  simp only [hv]
  by_cases hi : h < r ∧ (h + r - x.cqhead % r) % r ≤ (x.cqwr + r - x.cqhead % r) % r
  · rw [if_pos hi]
    exact if_neg (by simpa using hi)
  · rw [if_neg hi]
    exact if_pos (by simpa [Classical.or_iff_not_imp_left] using hi)

theorem setFn_only (s : State) (k : Nat) (f : Fn) :
    s.setFn k f = { s with fns := (s.setFn k f).fns } ∧ ∀ j, (s.setFn k f).fn j = if j = k then f else s.fn j :=
  ⟨rfl, fun j => s.fn_setFn k j f⟩

theorem writeAbi_closed {s : State} {fn : Nat} (v : Word) (h : s.fnOpen fn = false) :
    s.writeAbi fn v = s.setFn fn { s.fn fn with
      abiReq := v.toNat % 256,
      abiAgreed := if v.toNat % 256 < 2 then 0 else if v.toNat % 256 < 3 then v.toNat % 256 else 3,
      feat := if v.toNat % 256 < 2 then 0 else if v.toNat % 256 < 3 then 0x18 else 0x1F } := by
  have ha : bits 7 0 v.toNat = v.toNat % 256 := bits_low _ _
  unfold State.writeAbi
  simp only [h, Bool.false_eq_true, if_false, ha, abiFeatures]
  by_cases h2 : v.toNat % 256 < 2
  · simp [h2]
  · by_cases h3 : v.toNat % 256 < 3
    · have : v.toNat % 256 = 2 := by omega
      simp [this]
    · have : min (v.toNat % 256) 3 = 3 := by omega
      simp [h2, h3, this]

/-- The other bits of a word stand when a bit that is set is taken away. -/
theorem testBit_sub_two_pow {k n i : Nat} (h : n.testBit k = true) (hi : i ≠ k) : (n - 2 ^ k).testBit i = n.testBit i := by
  have hb : n % 2 ^ k < 2 ^ k := Nat.mod_lt _ (Nat.two_pow_pos k)
  have hodd : n / 2 ^ k = 2 * (n / 2 ^ k / 2) + 1 := by
    have : n / 2 ^ k % 2 = 1 := by simpa [Nat.testBit_eq_decide_div_mod_eq] using h
    omega
  have hn : n = 2 ^ k * (2 * (n / 2 ^ k / 2) + 1) + n % 2 ^ k := by rw [← hodd]; exact (Nat.div_add_mod n (2 ^ k)).symm
  generalize n / 2 ^ k / 2 = a at hn
  generalize n % 2 ^ k = b at hn hb
  have hs : n - 2 ^ k = 2 ^ k * (2 * a) + b := by rw [hn, Nat.mul_add]; omega
  rw [hs, hn, Nat.testBit_two_pow_mul_add _ hb, Nat.testBit_two_pow_mul_add _ hb]
  split
  · rfl
  · obtain ⟨m, hm⟩ : ∃ m, i - k = m + 1 := ⟨i - k - 1, by omega⟩
    rw [hm, Nat.testBit_succ, Nat.testBit_succ]
    congr 1
    omega

theorem bit_withBit_false (k n i : Nat) : bit i (withBit k false n) = (bit i n && decide (i ≠ k)) := by
  by_cases hi : i = k
  · subst hi
    rw [bit_withBit_same]; simp
  · unfold withBit
    simp only [Bool.false_eq_true, if_false]
    split
    next h =>
      rw [bit_eq_testBit] at h
      rw [bit_eq_testBit, bit_eq_testBit, testBit_sub_two_pow h hi]
      simp [hi]
    · simp [hi]

/-- FN.EVENT clears the bits written 1 (R210). -/
theorem clearEvents_bits (e n : Nat) (l : List Nat) (b : Nat) :
    bit b (l.foldl (fun e b => if bit b n then withBit b false e else e) e) = (bit b e && !(decide (b ∈ l) && bit b n)) := by
  induction l generalizing e with
  | nil => simp
  | cons a l ih =>
    rw [List.foldl_cons, ih]
    by_cases hb : b = a
    · subst hb
      cases hn : bit b n <;> simp [bit_withBit_false]
    · cases hn : bit a n <;> simp [bit_withBit_false, hb]

theorem writeWin_takes {s : State} {fn : Nat} (w : Nat) {v : Word} (hs : s.serving (v.toNat % 16) = fn)
    (hf : fn = 0 ∨ s.frozen (fn - 1) = false) :
    let m := bits 43 36 v.toNat * 2 ^ 36 + (if bit 7 v.toNat then 128 else 0) + v.toNat % 16
    s.writeWin fn w v = s.setFn fn (if w = 0 then { s.fn fn with win0 := m } else { s.fn fn with win1 := m }) := by
  have hp : winPart v.toNat = v.toNat % 16 := bits_low _ _
  have hm : bits 43 36 v.toNat * 2 ^ 36 + b2n (bit 7 v.toNat) * 2 ^ 7 + v.toNat % 16 =
      bits 43 36 v.toNat * 2 ^ 36 + (if bit 7 v.toNat then 128 else 0) + v.toNat % 16 := by
    cases bit 7 v.toNat <;> rfl
  unfold State.writeWin
  simp only [winBase, winEn, hp, hm]
  rw [if_neg (by rcases hf with hf | hf <;> simp [hf]), if_neg (by simp [hs])]

theorem writeWin_ignored {s : State} {fn : Nat} (w : Nat) {v : Word} (hs : s.serving (v.toNat % 16) ≠ fn)
    (hf : fn = 0 ∨ s.frozen (fn - 1) = false) : s.writeWin fn w v = s.ignored 11 none none fn (0x020 + 8 * w) v.toNat := by
  have hp : winPart v.toNat = v.toNat % 16 := bits_low _ _
  unfold State.writeWin
  simp only [hp]
  rw [if_neg (by rcases hf with hf | hf <;> simp [hf]), if_pos hs]

/-- An event changes a function's event and pending bits only (R210). -/
theorem fnEvent_fn (s : State) (k b j : Nat) : (s.fnEvent k b).fn j =
    { s.fn j with event := ((s.fnEvent k b).fn j).event, msixPend := ((s.fnEvent k b).fn j).msixPend } := by
  have hm : ∀ (t : State) (vec : Nat), (t.msix k vec).fn j = { t.fn j with msixPend := ((t.msix k vec).fn j).msixPend } := by
    intro t vec
    unfold State.msix
    split
    · rfl
    · rw [State.fn_setFn]; split
      next h => rw [h]
      · rfl
  unfold State.fnEvent
  split
  · rfl
  · rw [hm, State.fn_setFn]
    split
    next h => rw [h]
    · rfl

theorem ignored_none_win (s : State) (kind : Nat) (queue : Option Nat) (fn off val j : Nat) :
    ((s.ignored kind none queue fn off val).fn j).win0 = (s.fn j).win0 ∧
    ((s.ignored kind none queue fn off val).fn j).win1 = (s.fn j).win1 := by
  have h : (s.ignored kind none queue fn off val).fn j = (((s.odInc 0x9010 17).odInc 0x9011 kind).fnEvent fn 4).fn j :=
    congrArg (fun t => tget Fn.blank t j) (lilac_fns _ _ _ _ _ _ _)
  rw [h, fnEvent_fn]
  exact ⟨rfl, rfl⟩

/-! ### BAR 0 (R209) -/

theorem writeBar0_queue {s : State} {fn q r : Nat} (v : Word) (hq : q < 1024) (hr : r < 0x1000) (hs : s.serving (q / 64) = fn) :
    s.writeBar0 fn (0x40_0000 + q * 0x1000 + r) v = s.writeQueuePage fn q r v := by
  have hd : (0x40_0000 + q * 0x1000 + r - 0x40_0000) / 0x1000 = q := by omega
  have hm : (0x40_0000 + q * 0x1000 + r) % 0x1000 = r := by omega
  unfold State.writeBar0
  simp only [hd, hm]
  iterate 5 rw [if_neg (by simp; try omega)]
  rw [if_pos (by omega), if_pos (by simp [qPart, hs, hq])]

theorem writeBar0_counter {s : State} {fn p h : Nat} (v : Word) (hp : p < 16) (hh : h < 512) (hs : s.serving p = fn) :
    s.writeBar0 fn (0x20_0000 + p * 0x4000 + h * 0x20) v = s.hcSet p h v ∧
    s.writeBar0 fn (0x20_0000 + p * 0x4000 + h * 0x20 + 8) v = s.writeThresh p h v ∧
    s.writeBar0 fn (0x20_0000 + p * 0x4000 + h * 0x20 + 16) v = s.writeHcCtrl fn p h v := by
  have hd : ∀ r, r < 0x20 → (0x20_0000 + p * 0x4000 + h * 0x20 + r - 0x20_0000) / 0x4000 = p ∧
      (0x20_0000 + p * 0x4000 + h * 0x20 + r - 0x20_0000) % 0x4000 / 0x20 = h ∧ (0x20_0000 + p * 0x4000 + h * 0x20 + r) % 0x20 = r := by
    intro r hr; omega
  have hpage : ∀ r, r < 0x20 → s.writeBar0 fn (0x20_0000 + p * 0x4000 + h * 0x20 + r) v =
      match (generalizing := false) r with
      | 0x00 => s.hcSet p h v
      | 0x08 => s.writeThresh p h v
      | 0x10 => s.writeHcCtrl fn p h v
      | _ => s := by
    intro r hr
    obtain ⟨h1, h2, h3⟩ := hd r hr
    unfold State.writeBar0
    simp only [h1, h2, h3]
    iterate 4 rw [if_neg (by simp; try omega)]
    rw [if_pos (by simp; omega), if_neg (by simp [hs])] <;> rfl
  exact ⟨hpage 0 (by omega), hpage 8 (by omega), hpage 16 (by omega)⟩

theorem exec_registerWrite {s : State} {fn : Fin 17} {n : Nat} (v : Word) (h : s.hasFn fn = true) (hn : n < 2 ^ 23) (h8 : n % 8 = 0) :
    exec (.registerWrite fn (BitVec.ofNat 23 n) v) s = .next (s.writeBar0 fn n v) := by
  have hb : (BitVec.ofNat 23 n).toNat / 8 * 8 = n := by
    rw [BitVec.toNat_ofNat, Nat.mod_eq_of_lt hn]; omega
  show onFn s fn (s.writeBar0 fn ((BitVec.ofNat 23 n).toNat / 8 * 8) v) = _
  rw [onFn_has _ h, hb]

end Sys2Proof.Machine

namespace Sys2Proof.Proofs
open Sys2Proof.Machine

/-- Settles O13: the registers' writes branch by branch, and BAR 0 by the offset of each register. -/
theorem hostRegisters : Obligations.HostRegisters := by
  unfold Obligations.HostRegisters
  refine ⟨?_, ?_, ?_⟩
  · intro fn q v s x n h r inside only hs
    have hign : ∀ kind off, kind < 256 → (s.qIgnored kind q off v).queues = s.queues ∧
        (s.qIgnored kind q off v).odNum 0x9011 kind = (s.odNum 0x9011 kind + 1) % 2 ^ 64 := by
      intro kind off hk
      obtain ⟨hf, -, h11, -⟩ := qIgnored_spec s kind q off v hk q.isLt
      exact ⟨by rw [hf], h11⟩
    refine ⟨fun hc hf => ⟨⟨_, exec_queueConfigWrite 0 v hs, writeRing_takes false hc hf⟩, ⟨_, exec_queueConfigWrite 1 v hs, writeRing_takes true hc hf⟩⟩,
      fun hc => ⟨_, exec_queueConfigWrite 0 v hs, ?_⟩, fun hc => ⟨_, exec_queueConfigWrite 1 v hs, ?_⟩,
      fun hc hv => ⟨_, exec_queueConfigWrite 2 v hs, ?_⟩, fun hi => ⟨_, exec_cqhIndexWrite v hs, ?_⟩, fun hi => ⟨_, exec_cqhIndexWrite v hs, ?_⟩⟩
    · show _ ∧ _
      rw [if_neg (by simp), writeRing_ignored _ hc]
      exact hign 4 _ (by omega)
    · show _ ∧ _
      rw [if_neg (by simp), writeRing_ignored _ hc]
      exact hign 4 _ (by omega)
    · show _ ∧ _
      rw [if_pos (show ((2 : Fin 3) : Nat) = 2 from rfl), writeCtrl_ignored hc hv]
      exact hign 4 _ (by omega)
    · rw [writeCqh_eq, if_pos hi]
      exact ⟨rfl, fun k => s.queue_setQueue q k _⟩
    · rw [writeCqh_eq, if_neg hi]
      exact hign 10 _ (by omega)
  · intro fn v s f only a win here
    refine ⟨fun hn w => ⟨⟨_, onFn_hasNot _ hn, rfl⟩, ⟨_, onFn_hasNot _ hn, rfl⟩, ⟨_, onFn_hasNot _ hn, rfl⟩⟩,
      fun hh ho => ⟨_, onFn_has _ hh, ?_⟩, fun hh => ⟨_, onFn_has _ hh, ?_⟩, fun hh hs hf => ⟨⟨_, onFn_has _ hh, ?_⟩, ⟨_, onFn_has _ hh, ?_⟩⟩,
      fun hh w hs hf => ⟨_, onFn_has _ hh, ?_⟩⟩
    · rw [writeAbi_closed v ho]
      exact setFn_only s fn _
    · refine ⟨rfl, fun k hk => ((setFn_only s fn _).2 k).trans (if_neg hk), ?_, fun b => ?_⟩
      · unfold State.clearEvents; rw [State.fn_setFn_same]
      · unfold State.clearEvents
        rw [State.fn_setFn_same]
        exact (clearEvents_bits _ _ _ _).trans (by rw [show decide (b ∈ List.range 5) = decide (b < 5) by simp])
    · rw [show ((0 : Fin 2) : Nat) = 0 from rfl, writeWin_takes 0 hs hf]
      exact setFn_only s fn _
    · rw [show ((1 : Fin 2) : Nat) = 1 from rfl, writeWin_takes 1 hs hf]
      exact setFn_only s fn _
    · rw [writeWin_ignored _ hs hf]
      obtain ⟨h0, h1⟩ := ignored_none_win s 11 none fn (0x020 + 8 * w) v.toNat fn
      exact ⟨h0, h1, (ignored_none_spec s 11 none fn (0x020 + 8 * w) v.toNat (by omega)).2⟩
  · intro fn v s
    refine ⟨fun o hn => ⟨_, onFn_hasNot _ (by simp [hn]), rfl⟩, fun hh => ⟨fun q hs => ?_, fun p h hs => ?_, ⟨_, exec_registerWrite (n := 0x008) v hh (by omega) (by omega), onFn_has _ hh⟩,
      ⟨_, exec_registerWrite (n := 0x018) v hh (by omega) (by omega), onFn_has _ hh⟩, ⟨_, exec_registerWrite (n := 0x020) v hh (by omega) (by omega), onFn_has _ hh⟩,
      ⟨_, exec_registerWrite (n := 0x028) v hh (by omega) (by omega), onFn_has _ hh⟩⟩⟩
    · have hr : ∀ r, r < 0x1000 → r % 8 = 0 → exec (.registerWrite fn (BitVec.ofNat 23 (0x40_0000 + q * 0x1000 + r)) v) s =
          .next (s.writeQueuePage fn q r v) := by
        intro r hr h8
        rw [exec_registerWrite v hh (by omega) (by omega), writeBar0_queue v q.isLt hr hs]
      exact ⟨(hr 0 (by omega) rfl).trans (exec_queueConfigWrite 0 v hs).symm, (hr 8 (by omega) rfl).trans (exec_queueConfigWrite 1 v hs).symm,
        (hr 0x10 (by omega) rfl).trans (exec_queueConfigWrite 2 v hs).symm, (hr 0x20 (by omega) rfl).trans (exec_cqhIndexWrite v hs).symm,
        (hr 0x40 (by omega) rfl).trans (exec_doorbell v hs).symm⟩
    · obtain ⟨h0, h8, h16⟩ := writeBar0_counter v p.isLt h.isLt hs
      have he : ∀ n t, n < 2 ^ 23 → n % 8 = 0 → s.writeBar0 fn n v = t → exec (.registerWrite fn (BitVec.ofNat 23 n) v) s = .next t := by
        intro n t hn h8 ht
        rw [exec_registerWrite v hh hn h8, ht]
      exact ⟨(he _ _ (by omega) (by omega) h0).trans (if_pos hs).symm, (he _ _ (by omega) (by omega) h8).trans (if_pos hs).symm,
        (he _ _ (by omega) (by omega) h16).trans (if_pos hs).symm⟩

end Sys2Proof.Proofs

/-! SUPPORT. A queue whose stall interval differs from OD 0x7021, with one descriptor published: what refutes O15. -/
namespace Sys2Proof.Machine
set_option Elab.async false

/-- An Enabled queue of partition 0 with a ring of 64 slots, one slot published, nothing fetched, and a stall interval of 5, while OD 0x7021
holds its default of 30. -/
def stalledQueue : Queue := { Queue.blank with ring := 6, code := .enabled, tail := 1, stall := 5 }
def stalledState : State := { State.reset with queues := [(0, stalledQueue)] }

/-- The interval of a queue's stall timer after a command, 0 where there is none. -/
def stallAfter (o : Host.Outcome State Fault Refusal) (q : Nat) : Nat :=
  match o with
  | .next t => (t.queue q).stall
  | _ => 0

/-- The fetch of the first descriptor starts the stall timer with the interval of OD 0x7021. -/
theorem stallAfter_fetch : stallAfter (exec (.descriptorFetch 0) stalledState) 0 = 30 := by decide +kernel

end Sys2Proof.Machine

namespace Sys2Proof.Proofs
open Sys2Proof.Machine
set_option Elab.async false

/-- Refutes O15: a fetch into an Enabled queue with nothing fetched and nothing outstanding also starts the queue's stall timer, so that the
queue is not as it was but for its fetched descriptors and their count. -/
theorem not_descriptorFlow : ¬ Obligations.DescriptorFlow := by
  unfold Obligations.DescriptorFlow
  rintro ⟨hfetch, -, -⟩
  obtain ⟨t, ht, -, -, hy, -⟩ := (hfetch 0 stalledState rfl).1 (by decide +kernel) (by decide +kernel)
  have hnew : (t.queue 0).stall = 30 := by
    have h := stallAfter_fetch
    rw [ht] at h
    exact h
  have hold : (t.queue 0).stall = 5 := by
    have h := congrArg Queue.stall hy
    exact h
  omega

end Sys2Proof.Proofs

/-! SUPPORT. A descriptor that leaves its queue and one that ends (R216 to R218, R226). -/
namespace Sys2Proof.Machine

/-- The flight that a descriptor's launch starts. -/
def Fetched.flight (f : Fetched) (q n : Nat) : Flight := ⟨⟨q, f.index⟩, qPart q, f.slot, f.bytes, n, [], 0, false, none, 0, false⟩

/-- The state with a descriptor's flight, and the state in which its launch has been reported, before its slots are consumed. -/
def State.launching (s : State) (q n : Nat) (f : Fetched) : State :=
  { s with disp := { s.disp with flights := s.disp.flights ++ [f.flight q n], last := q, chosen := none } }
def State.launched (s : State) (q n : Nat) (f : Fetched) : State :=
  (s.launching q n f).lilac 1 1 q ((s.queue q).ringAddr + 64 * f.slot)
    (dTag (dNum f.bytes) * 2 ^ 32 + (s.queue q).code.code * 2 ^ 16 + dType (dNum f.bytes)) (some (qPart q))

theorem launchDesc_eq {s : State} {q : Nat} {f : Fetched} (n : Nat) (hf : (s.queue q).fetched.head? = some f) :
    s.launchDesc q n = ((s.launched q n f).qConsume q, ⟨q, f.index⟩, dNum f.bytes) := by
  obtain ⟨rest, hr⟩ : ∃ rest, (s.queue q).fetched = f :: rest := by
    cases h : (s.queue q).fetched with
    | nil => rw [h] at hf; cases hf
    | cons a l => rw [h] at hf; cases hf; exact ⟨l, rfl⟩
  unfold State.launchDesc
  simp only [hr]
  rfl

/-- Only what a record of the trace writes differs: the crossings, the trace, and the dictionary. -/
def State.Records (s t : State) : Prop := t = { s with od := t.od, clk := { s.clk with xing := t.clk.xing }, trace := t.trace }

theorem State.Records.trans {s t u : State} (h : s.Records t) (g : t.Records u) : s.Records u := by
  unfold State.Records at *
  rw [g, h]

/-- A report that no interrupt follows: the record of the trace (R543) and its counts. -/
theorem lilac_records (s : State) (kind code src addr data : Nat) (part : Option Nat) : s.Records (s.lilac kind code src addr data part) := by
  have ha : s.Records (s.odApply 0xA200 0) := by unfold State.Records State.odApply; split <;> rfl
  have hp : ∀ (t : State) ev i, ev < 256 → ev ≠ 4 → ev ≠ 10 → t.Records (t.pulse ev i) := by
    intro t ev i h h4 h10
    unfold State.Records
    conv_lhs => rw [pulse_eq t ev i h h4 h10]
    rw [show (t.pulse ev i).trace = t.trace by rw [pulse_eq t ev i h h4 h10]]
  unfold State.lilac
  simp only []
  split
  · exact ha.trans (State.Records.trans (t := { s.odApply 0xA200 0 with trace := _ }) rfl (hp _ _ _ (by omega) (by omega) (by omega)))
  · exact ha

/-- What the first descriptor's departure leaves of its queue (R217). -/
theorem qConsume_queue {s : State} {q : Nat} {f : Fetched} {rest : List Fetched} (h : (s.queue q).fetched = f :: rest) :
    (s.qConsume q).queue q = { s.queue q with
      fetched := ((s.qConsume q).queue q).fetched, head := ((s.queue q).head + f.bytes.length / 64) % (s.queue q).slots } ∧
    ((s.qConsume q).queue q).fetched.map Fetched.bytes = rest.map Fetched.bytes ∧
    ∀ r, r ≠ q → (s.qConsume q).queue r = s.queue r := by
  let upd := fun (x : Queue) => match x.fetched with
    | f :: rest => { x with fetched := rest, head := (x.head + f.bytes.length / 64) % x.slots }
    | [] => x
  have hu : upd (s.queue q) = { s.queue q with fetched := rest, head := ((s.queue q).head + f.bytes.length / 64) % (s.queue q).slots } := by
    simp only [upd, h]
  obtain ⟨h1, h2, h3⟩ := qFront_queue (s.updQueue q upd) q
  rw [updQueue_queue, if_pos rfl, hu] at h1 h2
  exact ⟨h1, h2, fun r hr => (h3 r hr).trans ((updQueue_queue s q r upd).trans (if_neg hr))⟩

theorem odGet_of_od {s t : State} (h : t.od = s.od) (i j : Nat) : t.odGet i j = s.odGet i j := by
  unfold State.odGet; rw [h]
theorem odPending_of_od {s t : State} (h : t.od = s.od) (i j : Nat) : t.odPending i j = s.odPending i j := by
  unfold State.odPending; rw [h]

theorem qConsume_eq (s : State) (q : Nat) : s.qConsume q = { s with queues := (s.qConsume q).queues } := rfl

/-- What a launch leaves: the descriptor is consumed and in flight, and only its queue differs beside the report. -/
structure State.LeavesQueue (s t : State) (q n : Nat) (f : Fetched) : Prop where
  frame : t = { s with queues := t.queues, disp := t.disp, trace := t.trace, od := t.od, clk := { s.clk with xing := t.clk.xing } }
  took : s.Took t q f
  flights : t.disp.flights = s.disp.flights ++ [f.flight q n]
  order : t.disp.order = s.disp.order
  code : (t.queue q).code = (s.queue q).code
  quiet : ∀ i j, j < 256 → ¬ Noisy i → t.odGet i j = s.odGet i j ∧ t.odPending i j = s.odPending i j

theorem launch_leaves {s : State} {q : Nat} {f : Fetched} (n : Nat) (hf : (s.queue q).fetched.head? = some f) :
    s.LeavesQueue ((s.launched q n f).qConsume q) q n f := by
  have hl : (s.launching q n f).Records (s.launched q n f) := lilac_records _ 1 1 q _ _ _
  have hr : (s.launching q n f).Reports (s.launched q n f) := lilac_reports _ 1 1 q _ _ _
  have hq : ∀ r, (s.launched q n f).queue r = s.queue r := fun r => hr.queue r
  obtain ⟨rest, hrest⟩ : ∃ rest, (s.queue q).fetched = f :: rest := by
    cases h : (s.queue q).fetched with
    | nil => rw [h] at hf; cases hf
    | cons a l => rw [h] at hf; cases hf; exact ⟨l, rfl⟩
  have hc := qConsume_eq (s.launched q n f) q
  obtain ⟨h1, h2, h3⟩ := qConsume_queue (s := s.launched q n f) (q := q) (f := f) (rest := rest) (by rw [hq]; exact hrest)
  rw [hq] at h1
  have hd : ((s.launched q n f).qConsume q).disp = (s.launching q n f).disp := by rw [hc, hl]
  constructor
  · rw [hc, hl]; rfl
  · refine ⟨by rw [hrest]; exact h2, by rw [h1], by rw [h1], fun r hr => (h3 r hr).trans (hq r), by rw [hd]; rfl⟩
  · rw [hd]; rfl
  · rw [hd]; rfl
  · rw [h1]
  · intro i j hj hi
    have ho : ((s.launched q n f).qConsume q).od = (s.launched q n f).od := by rw [hc]
    exact ⟨(odGet_of_od ho i j).trans (hr.2 i j hj hi).1, (odPending_of_od ho i j).trans (hr.2 i j hj hi).2⟩

theorem find?_append_last {α : Type} {p : α → Bool} {l : List α} {a : α} (hl : l.find? p = none) (ha : p a = true) :
    (l ++ [a]).find? p = some a := by
  rw [List.find?_append, hl]; simp [ha]

theorem updFirst_append_last {α : Type} {p : α → Bool} (f : α → α) {l : List α} {a : α} (hl : l.find? p = none) (ha : p a = true) :
    updFirst p f (l ++ [a]) = l ++ [f a] := by
  induction l with
  | nil => simp [updFirst, ha]
  | cons b l ih =>
    rw [List.find?_cons] at hl
    split at hl
    · cases hl
    next hb => rw [List.cons_append, updFirst, hb, ih hl]; rfl

/-- A flight that is the only one of its number. -/
theorem flight?_last {t : State} {l : List Flight} {x : Flight} (hd : t.disp.flights = l ++ [x])
    (hl : l.find? (fun y => y.ref == x.ref) = none) : t.flight? x.ref = some x := by
  unfold State.flight?
  rw [hd]
  exact find?_append_last hl (by simp)

theorem updFlight_last {t : State} {l : List Flight} {x : Flight} (f : Flight → Flight) (hd : t.disp.flights = l ++ [x])
    (hl : l.find? (fun y => y.ref == x.ref) = none) :
    t.updFlight x.ref f = { t with disp := { t.disp with flights := l ++ [f x] } } := by
  unfold State.updFlight
  rw [hd, updFirst_append_last f hl (by simp)]

/-- A flight of one unit ends with it (R225, R226). -/
theorem unitEnd_last {t : State} {l : List Flight} {x : Flight} (e : UEnd) (hd : t.disp.flights = l ++ [x])
    (hl : l.find? (fun y => y.ref == x.ref) = none) (hx : x.finished = false) (hn : x.ends = []) (hu : x.units = 1)
    (ht : t.tearing x.part = false) :
    t.unitEnd x.ref 0 e = { t with disp := { t.disp with
      flights := l ++ [{ x with ends := [(0, e)], finished := true }], order := t.disp.order ++ [x.ref] } } := by
  have h1 : t.updFlight x.ref (fun f => { f with ends := [(0, e)] }) =
      { t with disp := { t.disp with flights := l ++ [{ x with ends := [(0, e)] }] } } := updFlight_last _ hd hl
  have hf : ({ t with disp := { t.disp with flights := l ++ [{ x with ends := [(0, e)] }] } } : State).flightDone x.ref =
      { t with disp := { t.disp with
        flights := l ++ [{ x with ends := [(0, e)], finished := true }], order := t.disp.order ++ [x.ref] } } := by
    have hte : ∀ d : Disp, ({ t with disp := d } : State).tearing x.part = false := fun _ => ht
    have hfl : ({ t with disp := { t.disp with flights := l ++ [{ x with ends := [(0, e)] }] } } : State).flight? x.ref =
        some { x with ends := [(0, e)] } := flight?_last (x := { x with ends := [(0, e)] }) rfl hl
    have hup : ({ t with disp := { t.disp with flights := l ++ [{ x with ends := [(0, e)] }] } } : State).updFlight x.ref
        (fun f => { f with finished := true }) =
        { t with disp := { t.disp with flights := l ++ [{ x with ends := [(0, e)], finished := true }] } } :=
      updFlight_last (x := { x with ends := [(0, e)] }) _ rfl hl
    unfold State.flightDone
    rw [hfl]
    simp only [hx, Bool.false_or]
    rw [if_neg (by rw [hte]; simp)]
    simp only [hx] at hup
    rw [hup]
  unfold State.unitEnd
  rw [flight?_last hd hl]
  simp only [hx, hn, tput, tfind_nil, Option.isSome_none, Bool.or_self, Bool.false_eq_true, if_false]
  rw [h1, if_pos (by simp [hu]), hf]

end Sys2Proof.Machine

namespace Sys2Proof.Machine

/-- A descriptor of one unit that ends as it is launched, with what happened in between elsewhere (R218, R225). -/
theorem ended_unitEnd {s u v : State} {q : Nat} {f : Fetched} (e : UEnd) (hl : s.LeavesQueue u q 1 f) (hq : v.queues = u.queues)
    (hd : v.disp = u.disp) (ht : v.tearing (qPart q) = false) (hn : s.flight? ⟨q, f.index⟩ = none)
    (he : e.status ≠ 0 ∨ e = ⟨0, 0, 0⟩) :
    s.Ended (v.unitEnd ⟨q, f.index⟩ 0 e) q f e ∧ v.unitEnd ⟨q, f.index⟩ 0 e = { v with disp := (v.unitEnd ⟨q, f.index⟩ 0 e).disp } := by
  have hx : v.disp.flights = s.disp.flights ++ [f.flight q 1] := by rw [hd, hl.flights]
  have h := unitEnd_last (t := v) (x := f.flight q 1) e hx hn rfl rfl rfl ht
  rw [show (f.flight q 1).ref = ⟨q, f.index⟩ from rfl] at h
  obtain ⟨t1, t2, t3, t4, t5⟩ := hl.took
  have hqueue : ∀ r, (v.unitEnd ⟨q, f.index⟩ 0 e).queue r = u.queue r := by
    intro r; unfold State.queue; rw [h, ← hq]
  refine ⟨⟨⟨?_, ?_, ?_, ?_, ?_⟩, ?_, { f.flight q 1 with ends := [(0, e)], finished := true }, ?_, rfl, ?_, rfl, rfl⟩, ?_⟩
  · rw [hqueue]; exact t1
  · rw [hqueue]; exact t2
  · rw [hqueue]; exact t3
  · intro r hr; rw [hqueue]; exact t4 r hr
  · rw [h, hd]; exact t5
  · rw [h, hd, ← hl.order]
  · rw [h]
    exact flight?_last (x := { f.flight q 1 with ends := [(0, e)], finished := true }) rfl hn
  · unfold Flight.outcome
    rcases he with he | rfl
    · simp [Fetched.flight, he]
    · rfl
  · rw [h]

/-- A descriptor in flight (R217, R220). -/
theorem inFlight_of {s u v : State} {q n : Nat} {f : Fetched} (hl : s.LeavesQueue u q n f) (hq : v.queues = u.queues)
    (hd : v.disp = u.disp) (hn : s.flight? ⟨q, f.index⟩ = none) : s.InFlight v q f n := by
  have hqueue : ∀ r, v.queue r = u.queue r := by
    intro r; unfold State.queue; rw [hq]
  obtain ⟨t1, t2, t3, t4, t5⟩ := hl.took
  refine ⟨⟨?_, ?_, ?_, ?_, ?_⟩, ?_, f.flight q n, ?_, rfl, rfl, rfl, rfl, rfl⟩
  · rw [hqueue]; exact t1
  · rw [hqueue]; exact t2
  · rw [hqueue]; exact t3
  · intro r hr; rw [hqueue]; exact t4 r hr
  · rw [hd]; exact t5
  · rw [hd]; exact hl.order
  · exact flight?_last (x := f.flight q n) (by rw [hd]; exact hl.flights) hn

/-- The descriptor that stands at the front of the chosen queue is the one that its command dispatches (R217). -/
theorem descRow_front {s : State} {q ty : Nat} {f : Fetched} (g : Nat → Nat → State) (h : s.Front q ty f) :
    descRow s ty g = .next (g q (dNum f.bytes)) := by
  obtain ⟨hc, hf, ht, hg, -, -⟩ := h
  obtain ⟨rest, hrest⟩ : ∃ rest, (s.queue q).fetched = f :: rest := by
    cases h : (s.queue q).fetched with
    | nil => rw [h] at hf; cases hf
    | cons a l => rw [h] at hf; cases hf; exact ⟨l, rfl⟩
  unfold descRow
  simp only [hc, hrest, ht, hg, decide_true, Bool.and_self, if_true]

end Sys2Proof.Machine

/-! SUPPORT. Host counters (R229), and what SIGNAL_COUNTER does (R224). -/
namespace Sys2Proof.Machine

theorem hc_setHc_other (s : State) {p h q k : Nat} (x : HCnt) (hh : h < 512) (hk : k < 512) (hne : ¬ (q = p ∧ k = h)) :
    (s.setHc p h x).hc q k = s.hc q k := tget_tset_other _ _ _ (by omega)

/-- The vector that a crossing of EV04 carries (R46). -/
theorem evVector_inv (fn vec : Nat) : evVector fn vec / 2048 = fn ∧ evVector fn vec % 2048 = vec % 2048 := by
  unfold evVector; omega

/-- What a counter's test does: it fires when it is enabled, armed and at its threshold (R229). -/
theorem hcTest_eq (s : State) (p h : Nat) :
    s.hcTest p h = if (s.hc p h).en = true ∧ (s.hc p h).armed = true ∧ (s.hc p h).thresh.toNat ≤ (s.hc p h).value.toNat then
      (s.setHc p h { s.hc p h with armed := false }).pulse 4 (evVector (s.serving p) (s.hc p h).vec) else s := by
  unfold State.hcTest
  simp only [BitVec.ule_eq_decide, Bool.and_eq_true, decide_eq_true_eq, and_assoc]

/-- An interrupt's pulse at a free crossing signals the vector or leaves it pending; at a busy one it waits, and a second one merges (R46, R51). -/
theorem pulse_vector (s : State) (fn vec : Nat) :
    let i := evVector fn vec
    let x := tget ⟨false, false⟩ s.clk.xing (xingKey 4 i)
    let t := s.pulse 4 i
    let x' := tget ⟨false, false⟩ t.clk.xing (xingKey 4 i)
    t = { s with clk := t.clk, od := t.od, fns := t.fns, out := t.out } ∧
    (x.busy = false → x'.busy = true ∧ x'.pending = false ∧
      (tget false (s.fn fn).msixOpen (vec % 2048) = true → t.out = s.out ++ [.msix fn (vec % 2048)]) ∧
      (tget false (s.fn fn).msixOpen (vec % 2048) = false → tget false (t.fn fn).msixPend (vec % 2048) = true ∧ t.out = s.out)) ∧
    (x.busy = true → x'.busy = true ∧ x'.pending = true ∧ t.out = s.out ∧ t.fns = s.fns ∧
      (x.pending = true → t.odNum 0x7820 4 = (s.odNum 0x7820 4 + 1) % 2 ^ 64)) := by
  intro i x t x'
  obtain ⟨h1, h2⟩ := evVector_inv fn vec
  have hx : tget ⟨false, false⟩ s.clk.xing (xingKey 4 i) = x := rfl
  cases hb : x.busy with
  | false =>
    let u : State := { s with clk := { s.clk with xing := tset ⟨false, false⟩ s.clk.xing (xingKey 4 i) ⟨true, false⟩ } }
    have ht : t = u.msix fn (vec % 2048) := by
      show s.pulse 4 i = _
      unfold State.pulse
      simp only [hx, hb, Bool.not_false, if_true]
      unfold State.landed
      rw [if_pos rfl, h1, h2]
    have hm : u.msix fn (vec % 2048) = if tget false (s.fn fn).msixOpen (vec % 2048) then u.emit (.msix fn (vec % 2048)) else
        u.setFn fn { s.fn fn with msixPend := tset false (s.fn fn).msixPend (vec % 2048) true } := rfl
    have hx' : x' = ⟨true, false⟩ := by
      show tget _ t.clk.xing _ = _
      rw [ht, hm]
      split <;> exact tget_tset_same (⟨false, false⟩ : Xing) s.clk.xing (xingKey 4 i) ⟨true, false⟩
    refine ⟨?_, fun _ => ⟨by rw [hx'], by rw [hx'], fun ho => ?_, fun ho => ?_⟩, fun h => by cases h⟩
    · rw [ht, hm]
      split <;> rfl
    · rw [ht, hm, if_pos ho]; rfl
    · rw [ht, hm, if_neg (by simp [ho])]
      exact ⟨by rw [State.fn_setFn_same]; exact tget_tset_same false (s.fn fn).msixPend _ true, rfl⟩
  | true =>
    have ht : t = if !x.pending then { s with clk := { s.clk with xing := tset ⟨false, false⟩ s.clk.xing (xingKey 4 i) ⟨true, true⟩ } }
        else s.odInc 0x7820 4 := by
      show s.pulse 4 i = _
      unfold State.pulse
      simp only [hx, hb, Bool.not_true, Bool.false_eq_true, if_false]
    cases hp : x.pending with
    | false =>
      rw [hp] at ht
      simp only [Bool.not_false, if_true] at ht
      have hx' : x' = ⟨true, true⟩ := by
        show tget _ t.clk.xing _ = _
        rw [ht]; exact tget_tset_same (⟨false, false⟩ : Xing) s.clk.xing (xingKey 4 i) ⟨true, true⟩
      exact ⟨by rw [ht], fun h => by (cases h), fun _ => ⟨by rw [hx'], by rw [hx'], by rw [ht], by rw [ht], fun h => by cases h⟩⟩
    | true =>
      rw [hp] at ht
      simp only [Bool.not_true, Bool.false_eq_true, if_false] at ht
      have hx' : x' = x := by
        show tget _ t.clk.xing _ = _
        rw [ht]; rfl
      exact ⟨by rw [ht]; rfl, fun h => by (cases h), fun _ => ⟨by rw [hx', hb], by rw [hx', hp], by rw [ht]; rfl, by rw [ht]; rfl,
        fun _ => by rw [ht]; exact odNum_odInc_same _ _ (by decide)⟩⟩

/-- A counter written and tested: it fires, or stands as written; no other counter differs (R229). -/
theorem hcWrite_spec (s : State) {p h : Nat} (hh : h < 512) (y : HCnt) :
    let t := (s.setHc p h y).hcTest p h
    let fires := y.en = true ∧ y.armed = true ∧ y.thresh.toNat ≤ y.value.toNat
    t = { s with hcnt := t.hcnt, clk := t.clk, od := t.od, fns := t.fns, out := t.out } ∧
    (∀ q k, k < 512 → ¬ (q = p ∧ k = h) → t.hc q k = s.hc q k) ∧
    (fires → t.hc p h = { y with armed := false } ∧ ∃ u : State, t = u.pulse 4 (evVector (s.serving p) y.vec) ∧
      u = { s with hcnt := u.hcnt }) ∧
    (¬ fires → t.hc p h = y ∧ t.out = s.out ∧ t.fns = s.fns) := by
  intro t fires
  have hy : (s.setHc p h y).hc p h = y := State.hc_setHc_same s p h y
  let u := (s.setHc p h y).setHc p h { y with armed := false }
  have hother : ∀ q k, k < 512 → ¬ (q = p ∧ k = h) → u.hc q k = s.hc q k := fun q k hk hne =>
    (hc_setHc_other _ _ hh hk hne).trans (hc_setHc_other _ _ hh hk hne)
  have ht : t = if fires then u.pulse 4 (evVector (s.serving p) y.vec) else s.setHc p h y := by
    show (s.setHc p h y).hcTest p h = _
    rw [hcTest_eq, hy]
    rfl
  by_cases hf : fires
  · rw [if_pos hf] at ht
    obtain ⟨hp, -, -⟩ := pulse_vector u (s.serving p) y.vec
    have hhc : t.hcnt = u.hcnt := by rw [ht, hp]
    have hc : ∀ q k, t.hc q k = u.hc q k := fun q k => by unfold State.hc; rw [hhc]
    refine ⟨?_, fun q k hk hne => (hc q k).trans (hother q k hk hne), fun _ => ⟨(hc p h).trans (State.hc_setHc_same _ _ _ _), u, ht, rfl⟩,
      fun hn => absurd hf hn⟩
    rw [ht]
    conv_lhs => rw [hp]
    rw [show (u.pulse 4 (evVector (s.serving p) y.vec)).hcnt = u.hcnt by rw [hp]]
    rfl
  · rw [if_neg hf] at ht
    exact ⟨by rw [ht]; rfl, fun q k hk hne => by rw [ht]; exact hc_setHc_other s y hh hk hne, fun h => absurd h hf,
      fun _ => ⟨by rw [ht, hy], by rw [ht]; rfl, by rw [ht]; rfl⟩⟩

theorem writeHcCtrl_takes {s : State} {fn p h : Nat} {v : Word} (h0 : v.toNat % 2048 ≠ 0)
    (hlt : v.toNat % 2048 < if fn = 0 then 2048 else 256) :
    s.writeHcCtrl fn p h v = s.setHc p h { s.hc p h with en := bit 15 v.toNat, vec := v.toNat % 2048 } := by
  have hv : bits 10 0 v.toNat = v.toNat % 2048 := bits_low _ _
  unfold State.writeHcCtrl
  simp only [hv]
  rw [if_neg]
  simp only [Bool.or_eq_true, decide_eq_true_eq, not_or]
  exact ⟨h0, by omega⟩

/-- The change that SIGNAL_COUNTER makes (R224). -/
def State.signalled (s : State) (p d : Nat) : State :=
  let v := BitVec.ofNat 64 (wtValue d)
  if wtCore d then (if sgSet d then s.cntIn (wtIdx d) (wtCnt d) v else s.addIn (wtIdx d) (wtCnt d) v)
  else (if sgSet d then s.hcSet p (wtIdx d) v else s.hcAdd p (wtIdx d) v)

theorem exec_signalCounter {s : State} {q : Nat} {f : Fetched} (h : s.Front q 6 f) : exec .signalCounter s =
    .next ((((s.launched q 1 f).qConsume q).signalled (qPart q) (dNum f.bytes)).unitEnd ⟨q, f.index⟩ 0 ⟨0, 0, 0⟩) := by
  show execSignalCounter s = _
  unfold execSignalCounter
  rw [descRow_front _ h]
  simp only [launchDesc_eq 1 h.2.1]
  rfl

/-- SIGNAL_COUNTER sets or adds a core's counter, behind an open crossing (R57, R94). -/
theorem signalled_core {s : State} {p d : Nat} (hc : wtCore d = true) :
    (s.signalled p d).queues = s.queues ∧ (s.signalled p d).disp = s.disp ∧ (s.signalled p d).parts = s.parts ∧
    (s.signalled p d).hcnt = s.hcnt ∧ (s.sealed (clusterOf (wtIdx d)) 17 = true → (s.signalled p d).cores = s.cores) ∧
    (s.sealed (clusterOf (wtIdx d)) 17 = false → ∀ n, (s.signalled p d).core n =
      if n = wtIdx d then (s.core n).setCounter (wtCnt d)
        (if sgSet d then BitVec.ofNat 64 (wtValue d) else (s.core n).counter (wtCnt d) + BitVec.ofNat 64 (wtValue d)) else s.core n) := by
  have he : s.signalled p d = if s.sealed (clusterOf (wtIdx d)) 17 then s else s.setCnt (wtIdx d) (wtCnt d)
      (if sgSet d then BitVec.ofNat 64 (wtValue d) else (s.core (wtIdx d)).counter (wtCnt d) + BitVec.ofNat 64 (wtValue d)) := by
    unfold State.signalled State.addIn State.cntIn
    rw [if_pos hc]
    split <;> rfl
  rw [he]
  cases hs : s.sealed (clusterOf (wtIdx d)) 17 with
  | true => exact ⟨rfl, rfl, rfl, rfl, fun _ => rfl, fun h => absurd h (by simp)⟩
  | false =>
    simp only [Bool.false_eq_true, if_false]
    have hp := pulse_eq (s.setCore (wtIdx d) ((s.core (wtIdx d)).setCounter (wtCnt d)
      (if sgSet d then BitVec.ofNat 64 (wtValue d) else (s.core (wtIdx d)).counter (wtCnt d) + BitVec.ofNat 64 (wtValue d)))) 3 (wtIdx d)
      (by omega) (by omega) (by omega)
    unfold State.setCnt
    refine ⟨by rw [hp]; rfl, by rw [hp]; rfl, by rw [hp]; rfl, by rw [hp]; rfl, fun h => absurd h (by simp), fun _ n => ?_⟩
    rw [core_pulse, State.core_setCore]
    split
    next h => rw [h]
    · rfl

theorem signalled_host {s : State} {p d : Nat} (hc : wtCore d = false) :
    (s.signalled p d).queues = s.queues ∧ (s.signalled p d).disp = s.disp ∧ (s.signalled p d).parts = s.parts ∧
    (s.signalled p d).cores = s.cores ∧
    ((s.signalled p d).hc p (wtIdx d)).value =
      (if sgSet d then BitVec.ofNat 64 (wtValue d) else (s.hc p (wtIdx d)).value + BitVec.ofNat 64 (wtValue d)) ∧
    ∀ h, h < 512 → h ≠ wtIdx d → (s.signalled p d).hc p h = s.hc p h := by
  have hi : wtIdx d < 512 := Nat.mod_lt _ (by decide)
  let y : HCnt := { s.hc p (wtIdx d) with
    value := if sgSet d then BitVec.ofNat 64 (wtValue d) else (s.hc p (wtIdx d)).value + BitVec.ofNat 64 (wtValue d) }
  have he : s.signalled p d = (s.setHc p (wtIdx d) y).hcTest p (wtIdx d) := by
    unfold State.signalled State.hcAdd State.hcSet
    rw [if_neg (by simp [hc])]
    simp only [y]
    split <;> rfl
  obtain ⟨h1, h2, h3, h4⟩ := hcWrite_spec s hi (p := p) y
  rw [← he] at h1 h2 h3 h4
  refine ⟨by rw [h1], by rw [h1], by rw [h1], by rw [h1], ?_, fun h hh hne => h2 p h hh (fun e => hne e.2)⟩
  by_cases hf : y.en = true ∧ y.armed = true ∧ y.thresh.toNat ≤ y.value.toNat
  · rw [(h3 hf).1]
  · rw [(h4 hf).1]

theorem setCounter_eq (c : Core) (k : Nat) (v : Word) (j : Nat) :
    c.setCounter k v = { c with cnt := (c.setCounter k v).cnt } ∧ (c.setCounter k v).counter j = if j = k then v else c.counter j :=
  ⟨rfl, counter_setCounter c k j v⟩

end Sys2Proof.Machine

namespace Sys2Proof.Proofs
open Sys2Proof.Machine

/-- Settles O14: a counter's write and test, the pulse that a firing is, and the launch and end of SIGNAL_COUNTER around its change. -/
theorem hostCounting : Obligations.HostCounting := by
  unfold Obligations.HostCounting
  refine ⟨?_, ?_⟩
  · intro fn p h v s hs x result
    have hwrite : ∀ y, result y ((s.setHc p h y).hcTest p h) := by
      intro y
      obtain ⟨h1, h2, h3, h4⟩ := hcWrite_spec s h.isLt (p := p) y
      refine ⟨h1, h2, fun hf => ?_, h4⟩
      obtain ⟨hd, u, ht, hu⟩ := h3 hf
      obtain ⟨-, h5, h6⟩ := pulse_vector u (s.serving p) y.vec
      have hev : evVector fn (y.vec % 2048) = evVector fn y.vec := by unfold evVector; omega
      refine ⟨hd, ?_⟩
      rw [ht]
      rw [hs, hu] at h5 h6
      dsimp only
      rw [hev, hs, hu]
      exact ⟨h5, h6⟩
    refine ⟨⟨_, if_pos hs, hwrite _⟩, ⟨_, if_pos hs, hwrite _⟩, fun h0 hlt => ⟨_, if_pos hs, ?_⟩⟩
    rw [writeHcCtrl_takes h0 hlt]
    exact ⟨rfl, State.hc_setHc_same _ _ _ _, fun q k hk hne => hc_setHc_other s _ h.isLt hk hne⟩
  · intro s q f hfront d p v
    have hl := launch_leaves 1 hfront.2.1
    have ht := hfront.2.2.2.2.1
    have hn := hfront.2.2.2.2.2
    have hcores : ((s.launched q 1 f).qConsume q).cores = s.cores := by rw [hl.frame]
    have hcore : ∀ n, ((s.launched q 1 f).qConsume q).core n = s.core n := fun n => by unfold State.core; rw [hcores]
    have hhcnt : ((s.launched q 1 f).qConsume q).hcnt = s.hcnt := by rw [hl.frame]
    have hhc : ∀ k, ((s.launched q 1 f).qConsume q).hc p k = s.hc p k := fun k => by unfold State.hc; rw [hhcnt]
    have hparts : ((s.launched q 1 f).qConsume q).parts = s.parts := by rw [hl.frame]
    have hseal : ((s.launched q 1 f).qConsume q).sealed (clusterOf (wtIdx d)) 17 = s.sealed (clusterOf (wtIdx d)) 17 := by
      have hi : wtIdx d < 512 := Nat.mod_lt _ (by decide)
      unfold State.sealed State.odNum
      rw [(hl.quiet 0x7810 (clusterOf (wtIdx d) + 1) (by unfold clusterOf; omega) (by unfold Noisy; omega)).1]
    have htear : ∀ w : State, w.parts = s.parts → w.tearing (qPart q) = false := by
      intro w hw
      rw [← ht]; unfold State.tearing State.part; rw [hw]
    have hend : ∀ w : State, ((s.launched q 1 f).qConsume q).signalled p d = w → w.queues = ((s.launched q 1 f).qConsume q).queues →
        w.disp = ((s.launched q 1 f).qConsume q).disp → w.parts = ((s.launched q 1 f).qConsume q).parts →
        s.Ended (w.unitEnd ⟨q, f.index⟩ 0 ⟨0, 0, 0⟩) q f ⟨0, 0, 0⟩ ∧
        w.unitEnd ⟨q, f.index⟩ 0 ⟨0, 0, 0⟩ = { w with disp := (w.unitEnd ⟨q, f.index⟩ 0 ⟨0, 0, 0⟩).disp } :=
      fun w _ hq hd hp => ended_unitEnd ⟨0, 0, 0⟩ hl hq hd (htear w (hp.trans hparts)) hn (.inr rfl)
    refine ⟨fun hc hs => ⟨_, exec_signalCounter hfront, ?_⟩, fun hc hs => ⟨_, exec_signalCounter hfront, ?_⟩,
      fun hc => ⟨_, exec_signalCounter hfront, ?_⟩⟩
    · obtain ⟨h1, h2, h3, h4, h5, -⟩ := signalled_core (s := (s.launched q 1 f).qConsume q) (p := p) hc
      obtain ⟨he, hf⟩ := hend _ rfl h1 h2 h3
      refine ⟨he, ?_, ?_⟩
      · rw [hf]; exact h4.trans hhcnt
      · rw [hf]; exact (h5 (hseal.trans hs)).trans hcores
    · obtain ⟨h1, h2, h3, h4, -, h5⟩ := signalled_core (s := (s.launched q 1 f).qConsume q) (p := p) hc
      obtain ⟨he, hf⟩ := hend _ rfl h1 h2 h3
      have hk : ∀ n, ((((s.launched q 1 f).qConsume q).signalled p d).unitEnd ⟨q, f.index⟩ 0 ⟨0, 0, 0⟩).core n =
          if n = wtIdx d then (s.core n).setCounter (wtCnt d) (if sgSet d then v else (s.core n).counter (wtCnt d) + v) else s.core n := by
        intro n
        rw [← hcore n, ← h5 (hseal.trans hs) n]
        unfold State.core; rw [hf]
      refine ⟨he, ?_, fun n hn => by rw [hk, if_neg hn], ?_, fun k => ?_⟩
      · rw [hf]; exact h4.trans hhcnt
      · rw [hk, if_pos rfl]; exact (setCounter_eq _ _ _ 0).1
      · rw [hk, if_pos rfl, (setCounter_eq _ _ _ k).2]
        split
        next h => rw [h]
        · rfl
    · obtain ⟨h1, h2, h3, h4, h5, h6⟩ := signalled_host (s := (s.launched q 1 f).qConsume q) (p := p) hc
      obtain ⟨he, hf⟩ := hend _ rfl h1 h2 h3
      have hk : ∀ k, ((((s.launched q 1 f).qConsume q).signalled p d).unitEnd ⟨q, f.index⟩ 0 ⟨0, 0, 0⟩).hc p k =
          (((s.launched q 1 f).qConsume q).signalled p d).hc p k := by
        intro k; unfold State.hc; rw [hf]
      rw [hhc] at h5
      exact ⟨he, by rw [hf]; exact h4.trans hcores, by rw [hk]; exact h5, fun h hh hne => by rw [hk, h6 h hh hne, hhc]⟩

end Sys2Proof.Proofs

/-! SUPPORT. What packets, reports and messages leave alone: everything but the fields that they are made of. Each law is named after its
operation. -/
namespace Sys2Proof.Machine

/-- What packets, reports and messages never change: the state with the fields that they are made of taken away. -/
def State.calm (s : State) : State :=
  { s with od := Od.reset, clk := Clk.reset, links := [], fabric := Fabric.reset, fns := [], mgmt := Mgmt.reset, trace := Trace.reset, sec := Sec.reset, free := 0, out := [] }

theorem calm_ite (c : Prop) [Decidable c] (a b : State) :
    (if c then a else b).calm = if c then a.calm else b.calm := by split <;> rfl

theorem calm_foldl {α : Type} {f : State → α → State} {l : List α} {x s : State}
    (h : ∀ t a, (f t a).calm = t.calm) (h0 : x.calm = s.calm) : (l.foldl f x).calm = s.calm := by
  induction l generalizing x with
  | nil => exact h0
  | cons a l ih => exact ih ((h x a).trans h0)

theorem calm_with (x : State) (od : Od) (clk : Clk) (links : Tab Link) (fabric : Fabric) (fns : Tab Fn) (mgmt : Mgmt) (trace : Trace)
    (sec : Sec) (free : Nat) (out : List Out)  :
    State.calm (State.mk x.pending x.mem x.hostMem od clk links fabric x.ftime x.memory x.sepia x.eps x.agents x.queues x.colls x.hcnt
    x.disp x.cores x.parts fns mgmt trace x.faults sec x.power x.thermal x.taps x.fw x.life x.stored free out) = x.calm := rfl

theorem calm_mem {s t : State} (h : t.calm = s.calm) : t.mem = s.mem := show t.calm.mem = s.calm.mem by rw [h]
theorem calm_hostMem {s t : State} (h : t.calm = s.calm) : t.hostMem = s.hostMem := show t.calm.hostMem = s.calm.hostMem by rw [h]
theorem calm_pending {s t : State} (h : t.calm = s.calm) : t.pending = s.pending := show t.calm.pending = s.calm.pending by rw [h]
theorem calm_memory {s t : State} (h : t.calm = s.calm) : t.memory = s.memory := show t.calm.memory = s.calm.memory by rw [h]
theorem calm_sepia {s t : State} (h : t.calm = s.calm) : t.sepia = s.sepia := show t.calm.sepia = s.calm.sepia by rw [h]
theorem calm_eps {s t : State} (h : t.calm = s.calm) : t.eps = s.eps := show t.calm.eps = s.calm.eps by rw [h]
theorem calm_agents {s t : State} (h : t.calm = s.calm) : t.agents = s.agents := show t.calm.agents = s.calm.agents by rw [h]
theorem calm_queues {s t : State} (h : t.calm = s.calm) : t.queues = s.queues := show t.calm.queues = s.calm.queues by rw [h]
theorem calm_colls {s t : State} (h : t.calm = s.calm) : t.colls = s.colls := show t.calm.colls = s.calm.colls by rw [h]
theorem calm_hcnt {s t : State} (h : t.calm = s.calm) : t.hcnt = s.hcnt := show t.calm.hcnt = s.calm.hcnt by rw [h]
theorem calm_disp {s t : State} (h : t.calm = s.calm) : t.disp = s.disp := show t.calm.disp = s.calm.disp by rw [h]
theorem calm_cores {s t : State} (h : t.calm = s.calm) : t.cores = s.cores := show t.calm.cores = s.calm.cores by rw [h]
theorem calm_parts {s t : State} (h : t.calm = s.calm) : t.parts = s.parts := show t.calm.parts = s.calm.parts by rw [h]
theorem calm_life {s t : State} (h : t.calm = s.calm) : t.life = s.life := show t.calm.life = s.calm.life by rw [h]
theorem calm_faults {s t : State} (h : t.calm = s.calm) : t.faults = s.faults := show t.calm.faults = s.calm.faults by rw [h]

theorem State.freeVal_calm (s : State) (w : Nat) :
    (State.freeVal s w).2.calm = s.calm := by
  unfold State.freeVal
  repeat' (first | with_reducible rfl | simp only [↓calm_with])

theorem State.keyCached_calm (s : State) (p : Pkt) (part : Nat) :
    (State.keyCached s p part).calm = s.calm := by
  unfold State.keyCached
  repeat' (first | with_reducible rfl | simp only [↓calm_with, ↓calm_ite, ite_self, ↓State.freeVal_calm])

theorem State.odSet_calm (s : State) (idx : Nat) (sub : Nat) (v : OdVal) :
    (State.odSet s idx sub v).calm = s.calm := by
  unfold State.odSet
  repeat' (first | with_reducible rfl | simp only [↓calm_with])

theorem State.odApply_calm (s : State) (idx : Nat) (sub : Nat) :
    (State.odApply s idx sub).calm = s.calm := by
  unfold State.odApply
  repeat' (first | with_reducible rfl | simp only [↓calm_with, ↓State.odSet_calm] | refine calm_foldl (fun _ _ => ?_) ?_ | split)

theorem State.limiterFor_calm (s : State) (p : Pkt) :
    (State.limiterFor s p).calm = s.calm := by
  unfold State.limiterFor
  repeat' (first | with_reducible rfl | simp only [↓calm_with, ↓calm_ite, ite_self, ↓State.odApply_calm])

theorem State.odSetN_calm (s : State) (idx : Nat) (sub : Nat) (n : Nat) :
    (State.odSetN s idx sub n).calm = s.calm := by
  unfold State.odSetN
  repeat' (first | with_reducible rfl | simp only [↓State.odSet_calm])

theorem State.odAdd_calm (s : State) (idx : Nat) (sub : Nat) (n : Nat) :
    (State.odAdd s idx sub n).calm = s.calm := by
  unfold State.odAdd
  repeat' (first | with_reducible rfl | simp only [↓State.odSetN_calm])

theorem State.odInc_calm (s : State) (idx : Nat) (sub : Nat) :
    (State.odInc s idx sub).calm = s.calm := by
  unfold State.odInc
  repeat' (first | with_reducible rfl | simp only [↓State.odAdd_calm])

theorem State.emit_calm (s : State) (o : Out) :
    (State.emit s o).calm = s.calm := by
  unfold State.emit
  repeat' (first | with_reducible rfl | simp only [↓calm_with])

theorem State.setLink_calm (s : State) (n : Nat) (l : Link) :
    (State.setLink s n l).calm = s.calm := by
  unfold State.setLink
  repeat' (first | with_reducible rfl | simp only [↓calm_with])

theorem State.updLink_calm (s : State) (n : Nat) (f : Link → Link) :
    (State.updLink s n f).calm = s.calm := by
  unfold State.updLink
  repeat' (first | with_reducible rfl | simp only [↓State.setLink_calm])

theorem State.linkTx_calm (s : State) (n : Nat) (p : Pkt) :
    (State.linkTx s n p).calm = s.calm := by
  unfold State.linkTx
  repeat' (first | with_reducible rfl | simp only [↓State.emit_calm, ↓State.updLink_calm])

theorem State.sendPair_calm (s : State) (n : Nat) (bs : List Body) :
    (State.sendPair s n bs).calm = s.calm := by
  unfold State.sendPair
  repeat' (first | with_reducible rfl | simp only [↓State.emit_calm, ↓State.setLink_calm])

theorem State.sendBodies_calm (n : Nat) (x1 : Nat) (x2 : State) (x3 : List Body) :
    (State.sendBodies n x1 x2 x3).calm = x2.calm := by
  induction x1 generalizing x2 x3 with
  | zero => rfl
  | succ k ih =>
    simp only [State.sendBodies]
    split
    · rfl
    · rw [ih, State.sendPair_calm]

theorem State.drainLink_calm (s : State) (n : Nat) :
    (State.drainLink s n).calm = s.calm := by
  have hf : ∀ (l : List Pkt) (a : State × List Pkt × List Pkt), (l.foldl (fun (a : State × List Pkt × List Pkt) p =>
      if a.2.1.any (fun x => x.vc == p.vc) || a.1.freeCredits n p.vc < p.slots then (a.1, a.2.1 ++ [p], a.2.2)
      else (a.1.linkTx n p, a.2.1, a.2.2 ++ [p])) a).1.calm = a.1.calm := by
    intro l
    induction l with
    | nil => intro a; rfl
    | cons p l ih =>
      intro a
      rw [List.foldl_cons, ih]
      split
      · rfl
      · exact State.linkTx_calm _ _ _
  unfold State.drainLink
  split
  · rfl
  · simp only [State.sendBodies_calm, State.updLink_calm, hf]

theorem State.setFn_calm (s : State) (k : Nat) (f : Fn) :
    (State.setFn s k f).calm = s.calm := by
  unfold State.setFn
  repeat' (first | with_reducible rfl | simp only [↓calm_with])

theorem State.msix_calm (s : State) (k : Nat) (vec : Nat) :
    (State.msix s k vec).calm = s.calm := by
  unfold State.msix
  repeat' (first | with_reducible rfl | simp only [↓calm_ite, ite_self, ↓State.emit_calm, ↓State.setFn_calm])

theorem State.fnEvent_calm (s : State) (k : Nat) (b : Nat) :
    (State.fnEvent s k b).calm = s.calm := by
  unfold State.fnEvent
  repeat' (first | with_reducible rfl | simp only [↓calm_ite, ite_self, ↓State.msix_calm, ↓State.setFn_calm])

theorem State.landed_calm (s : State) (ev : Nat) (i : Nat) :
    (State.landed s ev i).calm = s.calm := by
  unfold State.landed
  repeat' (first | with_reducible rfl | simp only [↓calm_ite, ite_self, ↓State.fnEvent_calm, ↓State.msix_calm])

theorem State.pulse_calm (s : State) (ev : Nat) (i : Nat) :
    (State.pulse s ev i).calm = s.calm := by
  unfold State.pulse
  repeat' (first | with_reducible rfl | simp only [↓calm_with, ↓calm_ite, ite_self, ↓State.landed_calm, ↓State.odInc_calm])

theorem State.lilac_calm (s : State) (kind : Nat) (code : Nat) (src : Nat) (addr : Nat) (data : Nat) (part : Option Nat) :
    (State.lilac s kind code src addr data part).calm = s.calm := by
  unfold State.lilac
  repeat' (first | with_reducible rfl | simp only [↓calm_with, ↓calm_ite, ite_self, ↓State.odApply_calm, ↓State.pulse_calm])

theorem State.linkPut_calm (s : State) (n : Nat) (p : Pkt) :
    (State.linkPut s n p).calm = s.calm := by
  unfold State.linkPut
  repeat' (first | with_reducible rfl | simp only [↓calm_with, ↓calm_ite, ite_self, ↓State.drainLink_calm, ↓State.lilac_calm,
                 ↓State.odApply_calm, ↓State.odInc_calm, ↓State.updLink_calm])

theorem State.routeOnce_calm (s : State) (p : Pkt) :
    (State.routeOnce s p).1.calm = s.calm := by
  unfold State.routeOnce
  repeat' (first | with_reducible rfl | simp only [↓calm_with, ↓State.linkPut_calm, ↓State.odApply_calm, ↓State.odInc_calm]
                 | refine calm_foldl (fun _ _ => ?_) ?_ | split)

theorem State.route_calm (s : State) (p : Pkt) :
    (State.route s p).calm = s.calm := by
  unfold State.route; split
  · next h => rw [← State.routeOnce_calm s p, h]
  · next h => rw [State.routeOnce_calm, ← State.routeOnce_calm s p, h]

/-- What a limiter's draw and an injection leave alone. -/
theorem State.draw_calm {s t : State} {p : Pkt} (h : s.draw p = some t) : t.calm = s.calm := by
  unfold State.draw at h
  simp only at h
  repeat' (first | cases h | split at h | rfl)

theorem State.tryInject_calm {s t : State} {p : Pkt} (h : s.tryInject p = some t) : t.calm = s.calm := by
  unfold State.tryInject at h
  split at h
  · cases h
  · obtain ⟨x, hx, rfl⟩ := Option.map_eq_some_iff.mp h
    rw [State.route_calm, State.keyCached_calm, State.draw_calm hx, State.limiterFor_calm]

theorem State.injectNow_calm (s : State) (p : Pkt) :
    (State.injectNow s p).calm = s.calm := by
  unfold State.injectNow
  split
  · rfl
  · split
    · next h => exact State.tryInject_calm h
    · rfl

theorem State.inject_calm (s : State) (p : Pkt) :
    (State.inject s p).calm = s.calm := by
  unfold State.inject
  repeat' (first | with_reducible rfl | simp only [↓calm_with, ↓calm_ite, ite_self, ↓State.injectNow_calm])

theorem State.odApplyAll_calm (s : State) (l : List (Nat × Nat)) :
    (State.odApplyAll s l).calm = s.calm := by
  unfold State.odApplyAll
  repeat' (first | with_reducible rfl | simp only [↓State.odApply_calm] | refine calm_foldl (fun _ _ => ?_) ?_)

theorem State.setFlow_calm (s : State) (f : Flow) :
    (State.setFlow s f).calm = s.calm := by
  unfold State.setFlow
  repeat' (first | with_reducible rfl | simp only [↓calm_with])

theorem State.issueReq_calm (s : State) (r : Req) :
    (State.issueReq s r).calm = s.calm := by
  unfold State.issueReq
  repeat' (first | with_reducible rfl | simp only [↓calm_with, ↓calm_ite, ite_self, ↓State.inject_calm, ↓State.odApplyAll_calm,
                 ↓State.setFlow_calm])

theorem State.mbxPut_calm (s : State) (m : List Byte) :
    (State.mbxPut s m).calm = s.calm := by
  unfold State.mbxPut
  repeat' (first | with_reducible rfl | simp only [↓calm_with, ↓calm_ite, ite_self, ↓State.pulse_calm])

theorem State.sendTo_calm (s : State) (door : Door) (src : Nat) (m : List Byte) :
    (State.sendTo s door src m).calm = s.calm := by
  unfold State.sendTo
  repeat' (first | with_reducible rfl | simp only [↓State.emit_calm, ↓State.mbxPut_calm] | refine calm_foldl (fun _ _ => ?_) ?_ | split)

theorem State.deliverOne_calm (s : State) (se : Session) :
    (State.deliverOne s se).calm = s.calm := by
  unfold State.deliverOne
  repeat' (first | with_reducible rfl | simp only [↓calm_with, ↓calm_ite, ↓State.sendTo_calm] | refine calm_foldl (fun _ _ => ?_) ?_
                 | split)

theorem State.deliver_calm (s : State) :
    (State.deliver s).calm = s.calm := by
  unfold State.deliver
  repeat' (first | with_reducible rfl | simp only [↓State.deliverOne_calm] | refine calm_foldl (fun _ _ => ?_) ?_)

theorem State.collTrace_calm (s : State) (c : Coll) (code : Nat) (sub : Nat) :
    (State.collTrace s c code sub).calm = s.calm := by
  unfold State.collTrace
  repeat' (first | with_reducible rfl | simp only [↓State.lilac_calm])

theorem State.request_calm (s : State) (owner : ReqOwner) (p : Pkt) :
    (State.request s owner p).calm = s.calm := by
  unfold State.request
  repeat' (first | with_reducible rfl | simp only [↓calm_with, ↓calm_ite, ite_self, ↓State.issueReq_calm])

theorem State.colSend_calm (s : State) (c : Coll) (p : Pkt) :
    (State.colSend s c p).calm = s.calm := by
  unfold State.colSend
  repeat' (first | with_reducible rfl | simp only [↓State.request_calm])

theorem State.showPools_calm (s : State) :
    (State.showPools s).calm = s.calm := by
  unfold State.showPools
  repeat' (first | with_reducible rfl | simp only [↓State.odSetN_calm] | refine calm_foldl (fun _ _ => ?_) ?_)

theorem State.mgmtSet_calm (s : State) (f : Mgmt → Mgmt) :
    (State.mgmtSet s f).calm = s.calm := by
  unfold State.mgmtSet
  repeat' (first | with_reducible rfl | simp only [↓calm_with])

theorem State.control_calm (s : State) (n : Nat) (code : Nat) (bs : List Byte) :
    (State.control s n code bs).calm = s.calm := by
  unfold State.control
  repeat' (first | with_reducible rfl | simp only [↓State.emit_calm, ↓State.sendPair_calm])

theorem State.showEp_calm (s : State) (p : Nat) :
    (State.showEp s p).calm = s.calm := by
  unfold State.showEp
  repeat' (first | with_reducible rfl | simp only [↓State.odSetN_calm])

theorem State.epSend_calm (s : State) (g : Nat) (ref : Nat) (kind : Nat) (term : Nat) (epoch : Nat) (value : Nat) (cause : Nat)
    (rterm : Nat) (count : Nat) (rank : Nat) :
    (State.epSend s g ref kind term epoch value cause rterm count rank).calm = s.calm := by
  unfold State.epSend
  repeat' (first | with_reducible rfl | simp only [↓State.request_calm])

theorem State.mbxFlush_calm (s : State) :
    (State.mbxFlush s).calm = s.calm := by
  unfold State.mbxFlush
  repeat' (first | with_reducible rfl | simp only [↓State.mbxPut_calm, ↓State.mgmtSet_calm] | refine calm_foldl (fun _ _ => ?_) ?_)

theorem State.rspHead_calm (s : State) (h : Nat) :
    (State.rspHead s h).calm = s.calm := by
  unfold State.rspHead
  repeat' (first | with_reducible rfl | simp only [↓calm_ite, ite_self, ↓State.mbxFlush_calm, ↓State.mgmtSet_calm, ↓State.odInc_calm])

end Sys2Proof.Machine

/-! SUPPORT. Descriptors that end as they are launched, and the launches of the kinds of descriptor (R220 to R224). -/
namespace Sys2Proof.Machine

theorem flightDone_last {t : State} {l : List Flight} {x : Flight} (hd : t.disp.flights = l ++ [x])
    (hl : l.find? (fun y => y.ref == x.ref) = none) (hx : x.finished = false) (ht : t.tearing x.part = false) :
    t.flightDone x.ref = { t with disp := { t.disp with
      flights := l ++ [{ x with finished := true }], order := t.disp.order ++ [x.ref] } } := by
  unfold State.flightDone
  rw [flight?_last hd hl]
  simp only [hx, ht, Bool.or_self, Bool.false_eq_true, if_false]
  rw [updFlight_last _ hd hl]

theorem flightForce_last {t : State} {l : List Flight} {x : Flight} (e : UEnd) (hd : t.disp.flights = l ++ [x])
    (hl : l.find? (fun y => y.ref == x.ref) = none) (hx : x.finished = false) (ht : t.tearing x.part = false) :
    t.flightForce x.ref e = { t with disp := { t.disp with
      flights := l ++ [{ x with force := some e, finished := true }], order := t.disp.order ++ [x.ref] } } := by
  unfold State.flightForce
  rw [flight?_last hd hl]
  simp only [hx, ht, Bool.or_self, Bool.false_eq_true, if_false]
  rw [updFlight_last _ hd hl]
  exact flightDone_last (x := { x with force := some e }) rfl hl hx ht

/-- What a launch and an end of the same descriptor leave of its queue and of the descriptors in flight. -/
theorem ended_of {s u t : State} {q n : Nat} {f : Fetched} {x : Flight} {e : UEnd} (hl : s.LeavesQueue u q n f) (hq : t.queues = u.queues)
    (hn : s.flight? ⟨q, f.index⟩ = none) (hd : t.disp = { u.disp with flights := s.disp.flights ++ [x], order := s.disp.order ++ [⟨q, f.index⟩] })
    (hr : x.ref = ⟨q, f.index⟩) (hf : x.finished = true) (ho : x.outcome = e) (hb : x.bytes = f.bytes) (hp : x.part = qPart q) :
    s.Ended t q f e := by
  have hqueue : ∀ r, t.queue r = u.queue r := by
    intro r; unfold State.queue; rw [hq]
  obtain ⟨t1, t2, t3, t4, t5⟩ := hl.took
  refine ⟨⟨?_, ?_, ?_, ?_, ?_⟩, ?_, x, ?_, hf, ho, hb, hp⟩
  · rw [hqueue]; exact t1
  · rw [hqueue]; exact t2
  · rw [hqueue]; exact t3
  · intro r hr; rw [hqueue]; exact t4 r hr
  · rw [hd]; exact t5
  · rw [hd]
  · rw [← hr] at hn ⊢
    exact flight?_last (by rw [hd]) hn

/-- A launch whose flight then changes but for its identity. -/
theorem inFlight_upd {s u t : State} {q n : Nat} {f : Fetched} {x : Flight} (hl : s.LeavesQueue u q n f) (hq : t.queues = u.queues)
    (hn : s.flight? ⟨q, f.index⟩ = none) (hd : t.disp = { u.disp with flights := s.disp.flights ++ [x] })
    (hr : x.ref = ⟨q, f.index⟩) (hf : x.finished = false) (he : x.ends = []) (hu : x.units = n) (hb : x.bytes = f.bytes)
    (hp : x.part = qPart q) : s.InFlight t q f n ∧ t.flight? ⟨q, f.index⟩ = some x := by
  have hqueue : ∀ r, t.queue r = u.queue r := by
    intro r; unfold State.queue; rw [hq]
  obtain ⟨t1, t2, t3, t4, t5⟩ := hl.took
  have hx : t.flight? ⟨q, f.index⟩ = some x := by
    rw [← hr] at hn ⊢
    exact flight?_last (by rw [hd]) hn
  refine ⟨⟨⟨?_, ?_, ?_, ?_, ?_⟩, ?_, x, hx, hf, he, hu, hb, hp⟩, hx⟩
  · rw [hqueue]; exact t1
  · rw [hqueue]; exact t2
  · rw [hqueue]; exact t3
  · intro r hr; rw [hqueue]; exact t4 r hr
  · rw [hd]; exact t5
  · rw [hd]; exact hl.order

theorem tearing_of_parts {s t : State} (h : t.parts = s.parts) (p : Nat) : t.tearing p = s.tearing p := by
  unfold State.tearing State.part; rw [h]

/-- A descriptor that ends at once (R218, R226). -/
theorem endNow_spec {s : State} {q : Nat} {f : Fetched} (n : Nat) (e : UEnd) (hf : (s.queue q).fetched.head? = some f)
    (ht : s.tearing (qPart q) = false) (hn : s.flight? ⟨q, f.index⟩ = none) :
    let t := s.endNow q n e
    s.Ended t q f e ∧
    t = { s with queues := t.queues, disp := t.disp, trace := t.trace, od := t.od, clk := { s.clk with xing := t.clk.xing } } ∧
    (t.queue q).code = (s.queue q).code ∧
    ∀ i j, j < 256 → ¬ Noisy i → t.odGet i j = s.odGet i j ∧ t.odPending i j = s.odPending i j := by
  have hl := launch_leaves n hf
  have he : s.endNow q n e = ((s.launched q n f).qConsume q).flightForce (f.flight q n).ref e := by
    unfold State.endNow
    rw [launchDesc_eq n hf]
    rfl
  have htu : ((s.launched q n f).qConsume q).tearing (f.flight q n).part = false := by
    rw [← ht]; exact tearing_of_parts (by rw [hl.frame]) _
  rw [flightForce_last e hl.flights hn rfl htu] at he
  rw [he]
  refine ⟨ended_of hl rfl hn (by rw [hl.order]; rfl) rfl rfl rfl rfl rfl, ?_, hl.code, hl.quiet⟩
  conv_lhs => rw [hl.frame]

/-! ### KERNEL (R88, R89, R221) -/

/-- A dispatch entry placed at a core. -/
def State.place (s : State) (r : DescRef) (p d n : Nat) : State :=
  (s.setCore n { s.core n with waitq := (s.core n).waitq ++ [launchOf r p (s.coreTag n) d] }).pulse 2 (clusterOf n)

theorem place_onlyCores (s : State) (r : DescRef) (p d n : Nat) : s.OnlyCores (s.place r p d n) :=
  onlyCores_trans (onlyCores_setCore (onlyCores_refl s) n _) (pulse_spec _ 2 _ (by omega) (by omega) (by omega)).1

theorem place_core (s : State) (r : DescRef) (p d n m : Nat) : (s.place r p d n).core m =
    if m = n then { s.core m with waitq := (s.core m).waitq ++ [launchOf r p (s.coreTag m) d] } else s.core m := by
  unfold State.place
  rw [core_pulse, State.core_setCore]
  split
  next h => rw [h]
  · rfl

/-- What says whether a core is reached is outside the reach of a placement. -/
theorem onlyCores_reach {s t : State} (h : s.OnlyCores t) {n : Nat} (hn : n < 288) :
    t.clusterDown (clusterOf n) = s.clusterDown (clusterOf n) ∧ (∀ b, t.sealed (clusterOf n) b = s.sealed (clusterOf n) b) ∧
    t.coreTag n = s.coreTag n := by
  have hc : clusterOf n + 1 < 256 := by unfold clusterOf; omega
  unfold State.clusterDown State.sealed State.coreTag State.odNum
  rw [h.2.1 _ _ hc (by omega) (by omega), h.2.1 _ _ hc (by omega) (by omega), h.2.1 _ _ hc (by omega) (by omega)]
  exact ⟨rfl, fun _ => rfl, rfl⟩

/-- A dispatch entry placed at a core, or the unit's end where the core cannot be reached. -/
def State.dispatchTo (r : DescRef) (p d : Nat) (s : State) (n : Nat) : State :=
  if s.clusterDown (clusterOf n) || s.sealed (clusterOf n) 16 then s.coreEnd r n ⟨2, 0, 0⟩ else s.place r p d n

theorem foldl_dispatchTo (r : DescRef) (p d : Nat) {l : List Nat} (hl : l.Nodup) (hlt : ∀ n ∈ l, n < 288) {s : State}
    (ho : ∀ n ∈ l, s.clusterDown (clusterOf n) = false ∧ s.sealed (clusterOf n) 16 = false) :
    s.OnlyCores (l.foldl (State.dispatchTo r p d) s) ∧ ∀ m, m < 288 → (l.foldl (State.dispatchTo r p d) s).core m =
      if m ∈ l then { s.core m with waitq := (s.core m).waitq ++ [launchOf r p (s.coreTag m) d] } else s.core m := by
  induction l generalizing s with
  | nil => exact ⟨onlyCores_refl s, fun m _ => by simp⟩
  | cons n l ih =>
    obtain ⟨hnl, hnd⟩ := List.nodup_cons.mp hl
    obtain ⟨h1, h2⟩ := ho n (by simp)
    have hp := place_onlyCores s r p d n
    have hin : ∀ m ∈ l, (s.place r p d n).clusterDown (clusterOf m) = false ∧ (s.place r p d n).sealed (clusterOf m) 16 = false := by
      intro m hm
      obtain ⟨e1, e2, -⟩ := onlyCores_reach hp (hlt m (List.mem_cons_of_mem _ hm))
      rw [e1, e2]
      exact ho m (List.mem_cons_of_mem _ hm)
    obtain ⟨hi1, hi2⟩ := ih hnd (fun m hm => hlt m (List.mem_cons_of_mem _ hm)) hin
    have hd : State.dispatchTo r p d s n = s.place r p d n := by
      unfold State.dispatchTo
      rw [h1, h2]; rfl
    rw [List.foldl_cons, hd]
    refine ⟨onlyCores_trans hp hi1, fun m hm => ?_⟩
    rw [hi2 m hm, place_core, (onlyCores_reach hp hm).2.2]
    by_cases hmn : m = n
    · subst hmn
      simp [hnl]
    · simp [hmn]

theorem exec_descKernel {s : State} {q : Nat} {f : Fetched} (h : s.Front q 1 f) : exec .descKernel s =
    .next ((krnList (dNum f.bytes)).foldl (State.dispatchTo ⟨q, f.index⟩ (qPart q) (dNum f.bytes))
      ((s.launched q (krnList (dNum f.bytes)).length f).qConsume q)) := by
  show execDescKernel s = _
  unfold execDescKernel
  rw [descRow_front _ h]
  simp only [launchDesc_eq _ h.2.1]
  rfl

/-! ### COPY, TABLE and COLLECTIVE (R186, R222, R223, R300) -/

theorem exec_descCopy {s : State} {q : Nat} {f : Fetched} (h : s.Front q 2 f) : exec .descCopy s =
    .next (if cpyUnits (dNum f.bytes) = 0 then ((s.launched q (cpyUnits (dNum f.bytes)) f).qConsume q).flightDone ⟨q, f.index⟩
      else ((s.launched q (cpyUnits (dNum f.bytes)) f).qConsume q).updFlight ⟨q, f.index⟩
        (fun x => { x with started := min 8 (cpyUnits (dNum f.bytes)) })) := by
  show execDescCopy s = _
  unfold execDescCopy
  rw [descRow_front _ h]
  simp only [launchDesc_eq _ h.2.1]

theorem exec_descTable {s : State} {q : Nat} {f : Fetched} (h : s.Front q 3 f) : exec .descTable s =
    .next (((s.launched q (cmUnits (tblCmd (dNum f.bytes))) f).qConsume q).pushCmd (.desc ⟨q, f.index⟩) (qPart q)
      (tblSeed (dNum f.bytes)) (tblCmd (dNum f.bytes))) := by
  show execDescTable s = _
  unfold execDescTable
  rw [descRow_front _ h]
  simp only [launchDesc_eq _ h.2.1]

/-- A command pushed: behind the commands there, its engine counters beside (R186). -/
theorem pushCmd_spec (s : State) (who : Issuer) (p seed c : Nat) :
    let t := s.pushCmd who p seed c
    t = { s with sepia := t.sepia, od := t.od } ∧
    t.sepia.cmds = s.sepia.cmds ++ [⟨s.sepia.next, who, p, seed, c, false, 0, [], [], false⟩] := by
  have hod : ∀ (l : List Nat) (u : State), l.foldl (fun s k => s.odInc 0x8003 (k + 1)) u =
      { u with od := (l.foldl (fun s k => s.odInc 0x8003 (k + 1)) u).od } := by
    intro l
    induction l with
    | nil => exact fun _ => rfl
    | cons k l ih => intro u; rw [List.foldl_cons, ih]; rfl
  unfold State.pushCmd
  simp only []
  rw [hod]
  exact ⟨rfl, rfl⟩

theorem exec_descCollective_done {s : State} {q : Nat} {f : Fetched} {e : UEnd} {u : Nat} (h : s.Front q 4 f)
    (ha : s.admission (qPart q) (dNum f.bytes) = .done e u) :
    exec .descCollective s = .next ((s.admitFailed (qPart q) e).endNow q u e) := by
  show execDescCollective s = _
  unfold execDescCollective
  rw [descRow_front _ h]
  simp only [ha]

theorem exec_descCollective_go {s : State} {q : Nat} {f : Fetched} {b : List Byte} (h : s.Front q 4 f)
    (ha : s.admission (qPart q) (dNum f.bytes) = .go b) : exec .descCollective s =
    .next (((s.launched q (colChunks b (dNum f.bytes)) f).qConsume q).admitGo ⟨q, f.index⟩ (qPart q) (dNum f.bytes) b) := by
  show execDescCollective s = _
  unfold execDescCollective
  rw [descRow_front _ h]
  simp only [ha, launchDesc_eq _ h.2.1]

/-- What a refused admission counts is apart from queues, descriptors and collectives (R300). -/
theorem admitFailed_spec (s : State) (p : Nat) (e : UEnd) :
    (s.admitFailed p e).queues = s.queues ∧ (s.admitFailed p e).disp = s.disp ∧ (s.admitFailed p e).colls = s.colls ∧
    (s.admitFailed p e).tearing p = s.tearing p := by
  unfold State.admitFailed
  split
  · exact ⟨rfl, rfl, rfl, rfl⟩
  · refine ⟨rfl, rfl, rfl, ?_⟩
    unfold State.tearing State.countAddress
    rw [State.part_setPart_same]
  · unfold State.countIsolation
    simp only []
    split
    · have hr := raise_reports ((s.odInc 0x6008 (p + 1)).setPart p { (s.odInc 0x6008 (p + 1)).part p with
        isoEventAt := (s.odInc 0x6008 (p + 1)).now + 1_000_000_000 }) 0x0006 0x6008 (p + 1) ((s.odInc 0x6008 (p + 1)).odNum 0x6008 (p + 1))
      refine ⟨by rw [hr.1]; rfl, by rw [hr.1]; rfl, by rw [hr.1]; rfl, ?_⟩
      rw [tearing_of_parts (s := (s.odInc 0x6008 (p + 1)).setPart p _) (by rw [hr.1])]
      unfold State.tearing
      rw [State.part_setPart_same]
      rfl
    · exact ⟨rfl, rfl, rfl, rfl⟩
  · exact ⟨rfl, rfl, rfl, rfl⟩


theorem foldl_odSetN_other {α : Type} (l : List α) (sub val : State → α → Nat) {i j m : Nat} (hs : ∀ s a, a ∈ l → sub s a < 256) (hm : m < 256)
    (hi : j ≠ i) (s : State) : (l.foldl (fun s a => s.odSetN i (sub s a) (val s a)) s).odGet j m = s.odGet j m := by
  induction l generalizing s with
  | nil => rfl
  | cons a l ih =>
    rw [List.foldl_cons, ih (fun s b hb => hs s b (List.mem_cons_of_mem _ hb)),
      odGet_odSetN_other _ _ (odKey_ne (hs s a (by simp)) hm hi)]

theorem showPools_odGet (s : State) {i j : Nat} (hj : j < 256) (h1 : i ≠ 0x5001) (h4 : i ≠ 0x5004) :
    s.showPools.odGet i j = s.odGet i j := by
  unfold State.showPools
  simp only []
  rw [foldl_odSetN_other (List.range 16) (fun _ p => p + 1) _ (fun _ p hp => by simp at hp; omega) hj h4,
    foldl_odSetN_other (List.range 2) (fun _ k => k + 1) _ (fun _ p hp => by simp at hp; omega) hj h1]

/-- The collective that an admission starts alone in its group, before anything is granted to it (R300). -/
def aloneColl (ref : DescRef) (inst p d : Nat) (b : List Byte) : Coll :=
  ⟨ref, colGroup d, inst, p, d, b, colChunks b d, [], false, 0, 0, [], [], [], [], [], [], none, []⟩

/-- The state in which an admission without a lease has set its collective down and its group's state and number. -/
def State.admitBase (s : State) (p d : Nat) (c : Coll) : State :=
  let u := s.odInc 0x5011 (2 * p + 1)
  { u with colls := { u.colls with run := u.colls.run ++ [c], begun := tset false u.colls.begun (colGroup d) true } }
def State.admitSet (s : State) (p d inst : Nat) (c : Coll) : State :=
  ((s.admitBase p d c).setGSt (colGroup d) 2).odSetN (gIdx 0x5300 (colGroup d)) (gSub (colGroup d)) ((inst + 1) % 65536)

theorem grantUp_none (s : State) {c : Coll} (lim : Nat) (h : gdChildren c.gd = []) :
    s.grantUp c lim = s.updColl c.ref (fun c => { c with upSent := lim }) := by
  unfold State.grantUp
  rw [h]; rfl

/-- What an admission does once its collective is set down: the grants of its endpoint, and those that waited (R300). -/
def State.admitEnd (s : State) (c : Coll) : State :=
  let s := if gdRank c.gd = 0 then s else s.grant c (gdParent c.gd) c.chunks 1
  let lim := if colReduces c.bits then gdDepth c.gd else if colKind c.bits = 2 && gdRank c.gd = 0 then c.chunks else 0
  let s := s.grantUp c lim
  let mine := s.colls.grants.filter (fun q => auxGroup q == c.group && colInst q == c.inst)
  let s := { s with colls := { s.colls with grants := s.colls.grants.filter (fun q => !(auxGroup q == c.group && colInst q == c.inst)) } }
  mine.foldl (fun s q => s.takeGrant c.ref q) s

/-- An admission of a collective that needs no lease (R300). -/
theorem admitGo_noLease {s : State} (ref : DescRef) (p : Nat) {d : Nat} {b : List Byte} (h : leaseSize b d = 0) :
    let c := aloneColl ref (s.gInst (colGroup d)) p d b
    s.admitGo ref p d b = ((s.admitSet p d (s.gInst (colGroup d)) c).showPools.collTrace c 1 0).admitEnd c := by
  unfold State.admitGo
  rw [h]
  rfl

theorem admitEnd_alone {s : State} {c : Coll} (hr : gdRank c.gd = 0) (hc : gdChildren c.gd = []) (hg : s.colls.grants = []) :
    ∃ lim, s.admitEnd c = s.updColl c.ref (fun c => { c with upSent := lim }) := by
  refine ⟨if colReduces c.bits then gdDepth c.gd else if colKind c.bits = 2 && gdRank c.gd = 0 then c.chunks else 0, ?_⟩
  unfold State.admitEnd
  simp only [grantUp_none _ _ hc]
  rw [if_pos hr, show (s.updColl c.ref _).colls.grants = s.colls.grants from rfl, hg]
  have hs : ∀ u : State, u.colls.grants = [] → ({ u with colls := { u.colls with grants := [] } } : State) = u := by
    intro u hu; rw [← hu]
  exact hs _ hg

/-- An admission without parent or children, where no grant waits (R300). -/
theorem admitGo_alone {s : State} (ref : DescRef) (p : Nat) {d : Nat} {b : List Byte} (hr : gdRank b = 0) (hc : gdChildren b = [])
    (hg : s.colls.grants = []) (hn : ∀ c ∈ s.colls.run, c.ref ≠ ref) (hd : colGroup d < 4096) :
    let t := s.admitGo ref p d b
    t.queues = s.queues ∧ t.disp = s.disp ∧ t.gSt (colGroup d) = 2 ∧ t.gInst (colGroup d) = (s.gInst (colGroup d) + 1) % 65536 ∧
    ∃ lim, t.colls.run = s.colls.run ++ [{ aloneColl ref (s.gInst (colGroup d)) p d b with upSent := lim }] := by
  have hls : leaseSize b d = 0 := by unfold leaseSize; simp [hc]
  rw [admitGo_noLease ref p hls]
  generalize hcc : aloneColl ref (s.gInst (colGroup d)) p d b = c
  have hcr : c.ref = ref := by rw [← hcc]; rfl
  generalize hv : s.admitSet p d (s.gInst (colGroup d)) c = v
  have hvc : v.colls.run = s.colls.run ++ [c] ∧ v.colls.grants = [] ∧ v.queues = s.queues ∧ v.disp = s.disp := by
    rw [← hv]; exact ⟨rfl, hg, rfl, rfl⟩
  have hcalm : (v.showPools.collTrace c 1 0).calm = v.calm := (State.collTrace_calm _ _ _ _).trans (State.showPools_calm v)
  obtain ⟨lim, he⟩ := admitEnd_alone (s := v.showPools.collTrace c 1 0) (c := c) (by rw [← hcc]; exact hr) (by rw [← hcc]; exact hc)
    (by rw [calm_colls hcalm]; exact hvc.2.1)
  have hod : ∀ i j, j < 256 → i ≠ 0x5001 → i ≠ 0x5004 → ¬ Noisy i → (v.showPools.collTrace c 1 0).odNum i j = v.odNum i j := by
    intro i j hj h1 h4 hi
    unfold State.collTrace
    rw [(lilac_reports v.showPools 3 1 c.group _ _ _).odNum hj hi]
    unfold State.odNum
    rw [showPools_odGet v hj h1 h4]
  have hsub : gSub (colGroup d) < 256 := by unfold gSub; omega
  rw [he]
  refine ⟨(calm_queues hcalm).trans hvc.2.2.1, (calm_disp hcalm).trans hvc.2.2.2, ?_, ?_, lim, ?_⟩
  · refine (hod _ _ hsub (by unfold gIdx; omega) (by unfold gIdx; omega) (by unfold gIdx Noisy; omega)).trans ?_
    rw [← hv]
    unfold State.admitSet State.odNum
    rw [odGet_odSetN_other _ _ (odKey_ne hsub hsub (by unfold gIdx; omega))]
    exact State.odNum_odSetN_same _ _ _ _
  · refine (hod _ _ hsub (by unfold gIdx; omega) (by unfold gIdx; omega) (by unfold gIdx Noisy; omega)).trans ?_
    rw [← hv]
    exact State.odNum_odSetN_same _ _ _ _
  · show updFirst _ _ (v.showPools.collTrace c 1 0).colls.run = _
    rw [calm_colls hcalm, hvc.1]
    refine updFirst_append_last (p := fun x => x.ref == c.ref) (a := c) (fun c : Coll => { c with upSent := lim }) ?_ (by simp)
    rw [List.find?_eq_none]
    intro x hx
    simpa [hcr] using hn x hx

/-! ### EPOCH_BEGIN and EPOCH_VOTE (R198, R224, R324, R328, R329) -/

/-- The member of an epoch that begins with a group's tree (R224, R324). -/
def Ep.begun (e : Ep) (tree : Tree) (r : DescRef) (d : Nat) : Ep :=
  { e with group := epGroup d, epoch := epEpoch d, tree := tree, cause := 0, beginDesc := some r }

theorem exec_epochBegin {s : State} {q : Nat} {f : Fetched} (h : s.Front q 7 f) : exec .epochBegin s =
    .next (if s.gSt (epGroup (dNum f.bytes)) = 0 then s.endNow q 1 ⟨6, 2, 0⟩
      else (((s.launched q 1 f).qConsume q).setEp (qPart q) ((((s.launched q 1 f).qConsume q).ep (qPart q)).begun
        (treeOf (((s.launched q 1 f).qConsume q).gd (epGroup (dNum f.bytes)))) ⟨q, f.index⟩ (dNum f.bytes))).colourStart (qPart q)) := by
  show execEpochBegin s = _
  unfold execEpochBegin
  rw [descRow_front _ h]
  simp only [launchDesc_eq _ h.2.1]
  rfl

/-- The delivery of the next colour starts, unless it may not (R198). -/
theorem colourStart_spec (s : State) (p : Nat) (hb : (s.ep p).beginDesc.isSome = true) :
    let busy := s.memory.delivering.contains p ∨ (∃ x ∈ s.memory.deciding, x.1 = p) ∨
      ∃ w ∈ s.memory.work, w.part = p ∧ w.colour = (s.ep p).colour % 3 + 1
    (¬ busy → s.colourStart p = { s with memory := { s.memory with delivering := s.memory.delivering ++ [p] } }) ∧
    (busy → s.colourStart p = s) := by
  have hb : (s.ep p).beginDesc.isNone = false := by
    cases h : (s.ep p).beginDesc <;> simp [h] at hb ⊢
  unfold State.colourStart
  simp only [hb, Bool.false_or, Bool.or_eq_true, List.any_eq_true, beq_iff_eq, Bool.and_eq_true, or_assoc]
  exact ⟨fun h => if_neg h, fun h => if_pos h⟩

theorem colourStart_queues (s : State) (p : Nat) : (s.colourStart p).queues = s.queues := by
  unfold State.colourStart
  simp only []
  split <;> rfl

theorem colourStart_disp (s : State) (p : Nat) : (s.colourStart p).disp = s.disp := by
  unfold State.colourStart
  simp only []
  split <;> rfl

theorem colourStart_eps (s : State) (p : Nat) : (s.colourStart p).eps = s.eps := by
  unfold State.colourStart
  simp only []
  split <;> rfl

/-- What a member does with its vote (R328, R329). -/
def State.castVote (u : State) (p : Nat) (r : DescRef) (d : Nat) : State :=
  let v := u.setEp p { u.ep p with voteDesc := some r }
  if (u.ep p).st = .doomed then v.startRestore p
  else if epAbort d || (u.ep p).failed then (v.sendAbort p (if epAbort d then 1 else 2)).startRestore p
  else ((v.odApply 0x5821 0).epGo p .voted).voteUp p

theorem exec_epochVote {s : State} {q : Nat} {f : Fetched} (h : s.Front q 8 f) :
    exec .epochVote s = .next (((s.launched q 1 f).qConsume q).castVote (qPart q) ⟨q, f.index⟩ (dNum f.bytes)) := by
  show execEpochVote s = _
  unfold execEpochVote
  rw [descRow_front _ h]
  simp only [launchDesc_eq _ h.2.1]
  rfl

theorem calm_setEp {s t : State} (h : s.calm = t.calm) (p : Nat) (e : Ep) : (s.setEp p e).calm = (t.setEp p e).calm := by
  have he : s.eps = t.eps := calm_eps h
  have hs : ∀ u : State, (u.setEp p e).calm = { u.calm with eps := tset Ep.blank u.eps p e } := fun _ => rfl
  rw [hs, hs, h, he]

/-- What an epoch's change of state leaves: its member in the state, and everything else as reports leave it. -/
theorem epGo_calm (s : State) (p : Nat) (st : MemSt) : (s.epGo p st).calm = (s.setEp p { s.ep p with st := st }).calm := by
  unfold State.epGo
  simp only []
  rw [State.lilac_calm, State.showEp_calm]

theorem ep_of_eps {s t : State} (h : t.eps = s.eps) (p : Nat) : t.ep p = s.ep p := by
  unfold State.ep; rw [h]

/-- An abort's restore: the member is Restoring and its decision is on its way to the stacks (R329). -/
theorem startRestore_spec (s : State) (p : Nat) :
    let t := s.startRestore p
    t.queues = s.queues ∧ t.disp = s.disp ∧ (t.ep p).st = .restoring ∧ (t.ep p).lastDecided = (s.ep p).epoch ∧
    t.memory.deciding = s.memory.deciding ++ [(p, false)] := by
  generalize he : ({ s.ep p with restored := false, sentUp := false, anyDecided := true, lastDecided := (s.ep p).epoch } : Ep) = e
  have hc := epGo_calm (s.setEp p e) p .restoring
  generalize hg : (s.setEp p e).epGo p .restoring = g at hc
  have ht : (s.startRestore p).calm =
      State.calm { g with memory := { g.memory with deciding := g.memory.deciding ++ [(p, false)] } } := by
    unfold State.startRestore State.toStacks
    simp only []
    rw [he, hg, State.odInc_calm, State.pulse_calm]
  have hq : g.queues = s.queues := (calm_queues hc).trans rfl
  have hd : g.disp = s.disp := (calm_disp hc).trans rfl
  have hm : g.memory = s.memory := (calm_memory hc).trans rfl
  have hep : (s.startRestore p).ep p = { e with st := .restoring } := by
    rw [ep_of_eps (calm_eps ht)]
    show g.ep p = _
    rw [ep_of_eps (calm_eps hc), State.ep_setEp_same, State.ep_setEp_same]
  refine ⟨(calm_queues ht).trans hq, (calm_disp ht).trans hd, by rw [hep], by rw [hep, ← he], ?_⟩
  rw [calm_memory ht, hm]

/-- The abort that a member other than the coordinator sends up (R328). -/
theorem sendAbort_spec (s : State) (p c : Nat) (h : (s.ep p).tree.rank ≠ 0) :
    let t := s.sendAbort p c
    t.queues = s.queues ∧ t.disp = s.disp ∧ t.memory = s.memory ∧ t.ep p = { s.ep p with cause := c, counted := true } := by
  intro t
  have ht : t.calm = (s.setEp p { s.ep p with cause := c, counted := true }).calm := by
    show (State.sendAbort s p c).calm = _
    unfold State.sendAbort
    simp only [if_neg h]
    rw [State.epSend_calm]
    unfold State.epCause
    simp only []
    rw [State.showEp_calm, calm_ite, State.odInc_calm, ite_self]
  exact ⟨(calm_queues ht).trans rfl, (calm_disp ht).trans rfl, (calm_memory ht).trans rfl, by rw [ep_of_eps (calm_eps ht), State.ep_setEp_same]⟩

/-- A vote sent up by a member other than the coordinator changes only what it has sent (R328). -/
theorem voteUp_spec (s : State) (p : Nat) (h : (s.ep p).tree.rank ≠ 0) :
    let t := s.voteUp p
    t.queues = s.queues ∧ t.disp = s.disp ∧ t.memory = s.memory ∧ ∃ b, t.ep p = { s.ep p with sentUp := b } := by
  unfold State.voteUp
  simp only []
  split
  · exact ⟨rfl, rfl, rfl, (s.ep p).sentUp, rfl⟩
  · split
    · exact ⟨rfl, rfl, rfl, (s.ep p).sentUp, rfl⟩
    next n _ =>
      have hc := State.epSend_calm (s.setEp p { s.ep p with sentUp := true }) (s.ep p).group (s.ep p).tree.parent 0 0 (s.ep p).epoch 1 0 0 n 0
      exact ⟨(calm_queues hc).trans rfl, (calm_disp hc).trans rfl, (calm_memory hc).trans rfl, true, by rw [ep_of_eps (calm_eps hc), State.ep_setEp_same]⟩

/-- A vote for commit of a member other than the coordinator (R328). -/
theorem castVote_commit {u : State} {p : Nat} {r : DescRef} {d : Nat} (ho : (u.ep p).st = .opened) (hf : (u.ep p).failed = false)
    (ha : epAbort d = false) (hr : (u.ep p).tree.rank ≠ 0) :
    let t := u.castVote p r d
    t.queues = u.queues ∧ t.disp = u.disp ∧ t.memory = u.memory ∧ (t.ep p).st = .voted ∧ (t.ep p).voteDesc = some r := by
  unfold State.castVote
  simp only []
  rw [if_neg (by rw [ho]; decide), if_neg (by rw [ha, hf]; decide)]
  generalize hv : u.setEp p { u.ep p with voteDesc := some r } = v
  have hg : ((v.odApply 0x5821 0).epGo p .voted).calm = (v.setEp p { u.ep p with voteDesc := some r, st := .voted }).calm := by
    have h1 : (v.odApply 0x5821 0).ep p = { u.ep p with voteDesc := some r } := by
      rw [ep_of_eps (calm_eps (State.odApply_calm v 0x5821 0)), ← hv, State.ep_setEp_same]
    rw [epGo_calm, h1]
    exact calm_setEp (State.odApply_calm v 0x5821 0) p _
  generalize (v.odApply 0x5821 0).epGo p .voted = w at hg
  have hwe : w.ep p = { u.ep p with voteDesc := some r, st := .voted } := by
    rw [ep_of_eps (calm_eps hg), State.ep_setEp_same]
  obtain ⟨a1, a2, a3, b, a4⟩ := voteUp_spec w p (by rw [hwe]; exact hr)
  refine ⟨?_, ?_, ?_, by rw [a4, hwe], by rw [a4, hwe]⟩
  · rw [a1, calm_queues hg, ← hv]; rfl
  · rw [a2, calm_disp hg, ← hv]; rfl
  · rw [a3, calm_memory hg, ← hv]; rfl

/-- A vote that ends in an abort, of a Doomed member or of another than the coordinator (R328, R329). -/
theorem castVote_abort {u : State} {p : Nat} {r : DescRef} {d : Nat}
    (hc : (u.ep p).st = .doomed ∨ (u.ep p).st = .opened ∧ (u.ep p).tree.rank ≠ 0 ∧ (epAbort d = true ∨ (u.ep p).failed = true)) :
    let t := u.castVote p r d
    t.queues = u.queues ∧ t.disp = u.disp ∧ (t.ep p).st = .restoring ∧ (t.ep p).lastDecided = (u.ep p).epoch ∧
    t.memory.deciding = u.memory.deciding ++ [(p, false)] := by
  unfold State.castVote
  simp only []
  generalize hv : u.setEp p { u.ep p with voteDesc := some r } = v
  have hve : v.ep p = { u.ep p with voteDesc := some r } := by rw [← hv, State.ep_setEp_same]
  obtain ⟨hvq, hvd, hvm⟩ : v.queues = u.queues ∧ v.disp = u.disp ∧ v.memory = u.memory := by rw [← hv]; exact ⟨rfl, rfl, rfl⟩
  split
  · obtain ⟨a1, a2, a3, a4, a5⟩ := startRestore_spec v p
    exact ⟨a1.trans hvq, a2.trans hvd, a3, by rw [a4, hve], by rw [a5, hvm]⟩
  next hd =>
    obtain ⟨-, hr, hab⟩ := hc.resolve_left hd
    rw [if_pos (by simpa using hab)]
    obtain ⟨b1, b2, b3, b4⟩ := sendAbort_spec v p (if epAbort d then 1 else 2) (by rw [hve]; exact hr)
    obtain ⟨a1, a2, a3, a4, a5⟩ := startRestore_spec (v.sendAbort p (if epAbort d then 1 else 2)) p
    exact ⟨a1.trans (b1.trans hvq), a2.trans (b2.trans hvd), a3, by rw [a4, b4, hve], by rw [a5, b3, hvm]⟩

end Sys2Proof.Machine

namespace Sys2Proof.Proofs
open Sys2Proof.Machine

/-- Settles O16: each kind's launch, and what its command does to the launched descriptor. -/
theorem descriptorKinds : Obligations.DescriptorKinds := by
  unfold Obligations.DescriptorKinds
  refine ⟨?_, ?_, ?_⟩
  · intro s q f h d ho
    have hl := launch_leaves (krnList d).length h.2.1
    refine ⟨_, exec_descKernel h, ?_⟩
    have hmem : ∀ n, n ∈ krnList d ↔ n < 288 ∧ bit n (krnCores d) = true := by
      intro n; simp [krnList, bitList]
    have hreach : ∀ n, n < 288 → ((s.launched q (krnList d).length f).qConsume q).clusterDown (clusterOf n) = s.clusterDown (clusterOf n) ∧
        ((s.launched q (krnList d).length f).qConsume q).sealed (clusterOf n) 16 = s.sealed (clusterOf n) 16 ∧
        ((s.launched q (krnList d).length f).qConsume q).coreTag n = s.coreTag n := by
      intro n hn
      have hsub : clusterOf n + 1 < 256 := by unfold clusterOf; omega
      unfold State.clusterDown State.sealed State.coreTag State.odNum
      rw [(hl.quiet 0x2100 _ hsub (by unfold Noisy; omega)).1, (hl.quiet 0x7810 _ hsub (by unfold Noisy; omega)).1,
        (hl.quiet 0x7030 _ hsub (by unfold Noisy; omega)).1]
      exact ⟨rfl, rfl, rfl⟩
    have hcores : ((s.launched q (krnList d).length f).qConsume q).cores = s.cores := by rw [hl.frame]
    obtain ⟨h1, h2⟩ := foldl_dispatchTo ⟨q, f.index⟩ (qPart q) d (l := krnList d) (List.nodup_range.filter _)
      (fun n hn => ((hmem n).mp hn).1) (s := (s.launched q (krnList d).length f).qConsume q) (fun n hn => by
        obtain ⟨hlt, hb⟩ := (hmem n).mp hn
        obtain ⟨e1, e2, -⟩ := hreach n hlt
        rw [e1, e2]; exact ho n hlt hb)
    refine ⟨inFlight_of hl (by rw [h1.1]) (by rw [h1.1]) h.2.2.2.2.2, ?_, fun n hn => ?_⟩
    · rw [h1.1]
      show ((s.launched q (krnList d).length f).qConsume q).mem = _
      rw [hl.frame]
    · refine (h2 n hn).trans ?_
      rw [(hreach n hn).2.2, show ((s.launched q (krnList d).length f).qConsume q).core n = s.core n by unfold State.core; rw [hcores]]
      by_cases hb : bit n (krnCores d) = true
      · rw [if_pos ((hmem n).mpr ⟨hn, hb⟩), if_pos hb]; rfl
      · rw [if_neg (fun hm => hb ((hmem n).mp hm).2), if_neg hb]
  · intro s q f d p
    refine ⟨fun h hc => ⟨_, exec_descCopy h, ?_⟩, fun h hc => ⟨_, exec_descCopy h, ?_⟩, fun h => ⟨_, exec_descTable h, ?_⟩,
      fun e u h ha => ⟨_, exec_descCollective_done h ha, ?_⟩, fun b h ha h1 hr hch hg hne => ⟨_, exec_descCollective_go h ha, ?_⟩⟩
    · have hl := launch_leaves (cpyUnits d) h.2.1
      have hu : cpyUnits d ≠ 0 := by unfold cpyUnits; omega
      have hup := updFlight_last (fun x => { x with started := min 8 (cpyUnits d) }) hl.flights h.2.2.2.2.2
      rw [show (f.flight q (cpyUnits d)).ref = ⟨q, f.index⟩ from rfl] at hup
      obtain ⟨hi, hx⟩ := inFlight_upd (t := ((s.launched q (cpyUnits d) f).qConsume q).updFlight ⟨q, f.index⟩
        (fun x => { x with started := min 8 (cpyUnits d) })) hl (by rw [hup]) h.2.2.2.2.2 (by rw [hup]) rfl rfl rfl rfl rfl rfl
      rw [if_neg hu]
      refine ⟨hi, ?_, ?_, _, hx, rfl⟩
      · rw [hup]; show ((s.launched q (cpyUnits d) f).qConsume q).mem = _; rw [hl.frame]
      · rw [hup]; show ((s.launched q (cpyUnits d) f).qConsume q).hostMem = _; rw [hl.frame]
    · have hl := launch_leaves (cpyUnits d) h.2.1
      have hu : cpyUnits d = 0 := by unfold cpyUnits; omega
      have hte : ((s.launched q (cpyUnits d) f).qConsume q).tearing (qPart q) = false := by
        rw [← h.2.2.2.2.1]; exact tearing_of_parts (by rw [hl.frame]) _
      have hfd := flightDone_last hl.flights h.2.2.2.2.2 rfl hte
      rw [show (f.flight q (cpyUnits d)).ref = ⟨q, f.index⟩ from rfl] at hfd
      rw [if_pos hu, hfd]
      refine ⟨ended_of hl rfl h.2.2.2.2.2 (by rw [hl.order]) rfl rfl rfl rfl rfl, ?_⟩
      show ((s.launched q (cpyUnits d) f).qConsume q).mem = _
      rw [hl.frame]
    · have hl := launch_leaves (cmUnits (tblCmd d)) h.2.1
      obtain ⟨hp, hc⟩ := pushCmd_spec ((s.launched q (cmUnits (tblCmd d)) f).qConsume q) (.desc ⟨q, f.index⟩) p (tblSeed d) (tblCmd d)
      refine ⟨inFlight_of hl (by rw [hp]) (by rw [hp]) h.2.2.2.2.2, ?_, hc.trans ?_⟩
      · rw [hp]; show ((s.launched q (cmUnits (tblCmd d)) f).qConsume q).mem = _; rw [hl.frame]
      · rw [show ((s.launched q (cmUnits (tblCmd d)) f).qConsume q).sepia = s.sepia by rw [hl.frame]]
    · obtain ⟨a1, a2, a3, a4⟩ := admitFailed_spec s p e
      have hq : ∀ r, (s.admitFailed p e).queue r = s.queue r := fun r => by unfold State.queue; rw [a1]
      obtain ⟨he, hf, -, -⟩ := endNow_spec (s := s.admitFailed p e) (q := q) (f := f) u e (by rw [hq]; exact h.2.1)
        (a4.trans h.2.2.2.2.1) (by unfold State.flight?; rw [a2]; exact h.2.2.2.2.2)
      refine ⟨?_, by rw [hf]; exact a3, ?_⟩
      · obtain ⟨⟨t1, t2, t3, t4, t5⟩, t6⟩ := he
        simp only [hq, a2] at t1 t2 t3 t4 t6
        exact ⟨⟨t1, t2, t3, t4, t5⟩, t6⟩
      · have hk := exec_kept (exec_descCollective_done h ha) rfl
        exact congrArg (fun k => k.2.1) hk
    · have hl := launch_leaves (colChunks b d) h.2.1
      generalize hu : (s.launched q (colChunks b d) f).qConsume q = u at hl
      have hcolls : u.colls = s.colls := by rw [hl.frame]
      have hsub : gSub (colGroup d) < 256 := by unfold gSub; omega
      have hgrp : colGroup d < 4096 := Nat.mod_lt _ (by decide)
      have hinst : u.gInst (colGroup d) = s.gInst (colGroup d) := by
        unfold State.gInst State.odNum
        rw [(hl.quiet _ _ hsub (by unfold gIdx Noisy; omega)).1]
      obtain ⟨a1, a2, a3, a4, lim, a5⟩ := admitGo_alone (s := u) ⟨q, f.index⟩ p hr hch (by rw [hcolls]; exact hg)
        (by rw [hcolls]; exact hne) hgrp
      refine ⟨inFlight_of hl a1 a2 h.2.2.2.2.2, ?_, a3, by rw [← hinst]; exact a4, _, by rw [← hcolls]; exact a5, rfl, rfl, hinst, rfl, rfl⟩
      have hk := exec_kept (exec_descCollective_go h ha) rfl
      rw [hu] at hk
      exact congrArg (fun k => k.2.1) hk
  · intro s q f d p e busy
    refine ⟨fun h hg => ⟨_, exec_epochBegin h, ?_⟩, fun h hg => ⟨_, exec_epochBegin h, ?_⟩, fun h ho hf ha hr => ⟨_, exec_epochVote h, ?_⟩,
      fun h hc => ⟨_, exec_epochVote h, ?_⟩⟩
    · have hmem : ∀ t, exec .epochBegin s = .next t → t.mem = s.mem := fun t ht => congrArg (fun k => k.2.1) (exec_kept ht rfl)
      have hm := hmem _ (exec_epochBegin h)
      revert hm
      rw [if_neg hg]
      have hl := launch_leaves 1 h.2.1
      generalize (s.launched q 1 f).qConsume q = u at hl
      obtain ⟨hue, hum⟩ : u.eps = s.eps ∧ u.memory = s.memory := by rw [hl.frame]; exact ⟨rfl, rfl⟩
      have hgd : u.gd (epGroup d) = s.gd (epGroup d) := by
        have hlt : epGroup d < 4096 := Nat.mod_lt _ (by decide)
        unfold State.gd State.odBlob
        rw [(hl.quiet _ _ (by unfold gSub; omega) (by unfold gIdx Noisy; omega)).1]
      intro hm
      refine ⟨inFlight_of hl ?_ ?_ h.2.2.2.2.2, hm, ?_⟩
      · exact colourStart_queues _ _
      · exact colourStart_disp _ _
      rw [ep_of_eps hue, hgd]
      obtain ⟨hfree, hheld⟩ := colourStart_spec (u.setEp p (e.begun (treeOf (s.gd (epGroup d))) ⟨q, f.index⟩ d)) p
        (by rw [State.ep_setEp_same]; rfl)
      rw [State.ep_setEp_same, show (u.setEp p _).memory = s.memory from hum] at hfree hheld
      refine ⟨fun hb => (congrArg State.memory (hfree hb)).trans rfl, fun hb => (congrArg State.memory (hheld hb)).trans hum, ?_, fun r hr => ?_⟩
      · rw [ep_of_eps (colourStart_eps _ _), State.ep_setEp_same]; rfl
      · rw [ep_of_eps (colourStart_eps _ _), State.ep_setEp, if_neg hr, ep_of_eps hue]
    · rw [if_pos hg]
      obtain ⟨he, hf, -, -⟩ := endNow_spec 1 ⟨6, 2, 0⟩ h.2.1 h.2.2.2.2.1 h.2.2.2.2.2
      exact ⟨he, by rw [hf], by rw [hf]⟩
    · have hl := launch_leaves 1 h.2.1
      have hue : ((s.launched q 1 f).qConsume q).ep p = e := ep_of_eps (by rw [hl.frame]) p
      obtain ⟨a1, a2, a3, a4, a5⟩ := castVote_commit (u := (s.launched q 1 f).qConsume q) (p := p) (r := ⟨q, f.index⟩) (d := d)
        (by rw [hue]; exact ho) (by rw [hue]; exact hf) ha (by rw [hue]; exact hr)
      refine ⟨inFlight_of hl a1 a2 h.2.2.2.2.2, a4, a5, ?_⟩
      rw [a3, hl.frame]
    · have hl := launch_leaves 1 h.2.1
      have hue : ((s.launched q 1 f).qConsume q).ep p = e := ep_of_eps (by rw [hl.frame]) p
      obtain ⟨a1, a2, a3, a4, a5⟩ := castVote_abort (u := (s.launched q 1 f).qConsume q) (p := p) (r := ⟨q, f.index⟩) (d := d)
        (by rw [hue]; exact hc)
      refine ⟨inFlight_of hl a1 a2 h.2.2.2.2.2, a3, by rw [a4, hue], ?_⟩
      rw [a5, hl.frame]

end Sys2Proof.Proofs

/-! SUPPORT. The responders of SPDM: their mailbox, their sessions and the guards before their requests (R353, R354). -/
namespace Sys2Proof.Machine

@[simp] theorem State.spdm_setSpdm_same (s : State) (fn : Nat) (x : Spdm) : (s.setSpdm fn x).spdm fn = x := tget_tset_same _ _ _ _

@[simp] theorem State.spdm_doe (s : State) (fn k : Nat) (r : Rsp) (b : List Byte) : (s.doe fn r b).spdm k = s.spdm k := rfl

/-- A mailbox's answer changes nothing but the output (R353). -/
theorem replied_doe (s : State) (fn : Nat) (r : Rsp) (b : List Byte) : s.Replied (s.doe fn r b) fn r b :=
  ⟨rfl, rfl, fun _ _ => rfl, fun _ _ _ _ _ => rfl⟩

/-- A responder that has changed as well, and a value that has been drawn (R353). -/
theorem replied_setSpdm (s : State) (fn n : Nat) (x : Spdm) (r : Rsp) (b : List Byte) :
    s.Replied (({ s with free := n }.setSpdm fn x).doe fn r b) fn r b :=
  ⟨rfl, rfl, fun _ h => tget_tset_other _ _ _ h, fun _ _ _ _ _ => rfl⟩

theorem negotiated_has {s : State} {fn : Nat} (f : State) (h : s.hasFn fn = true) (hs : (s.spdm fn).stage = 3) :
    negotiated s fn f = .next f := by
  unfold negotiated
  rw [onFn_has _ h, if_pos hs]

theorem inSession_has {s : State} {fn id : Nat} (f : State) (h : s.hasFn fn = true) (hs : s.secured fn id = true) :
    inSession s fn id f = .next f := by
  unfold inSession
  rw [onFn_has _ h, if_pos hs]

/-- An answer under the leaf's signature, while the key store holds its key (R353). -/
theorem doeSigned_held {s : State} (fn : Nat) (r : Rsp) (asked b : List Byte) (h : s.sec.onyx.identity = true) :
    s.doeSigned fn r asked b = s.doe fn r (b ++ padTo 96 (Config.ecdsaSign Config.leafKey (sha384 (asked ++ b)))) := by
  unfold State.doeSigned State.leafSign
  rw [if_pos h]

theorem doeSigned_lost {s : State} (fn : Nat) (r : Rsp) (asked b : List Byte) (h : s.sec.onyx.identity = false) :
    s.doeSigned fn r asked b = s.doe fn .error [] := by
  unfold State.doeSigned State.leafSign
  rw [if_neg (by rw [h]; decide)]
  rfl

/-- The random half of a new session's identifier: while fewer than 4 are open one of the four numbers is free (R353). -/
theorem find_free_session {l : List SpdmSess} (h : l.length < 4) :
    let r := ((List.range 4).find? (fun k => !l.any (fun y => y.id / 2 ^ 16 == k))).getD 0
    r < 4 ∧ ∀ y ∈ l, y.id / 2 ^ 16 ≠ r := by
  intro r
  have hex : ∃ k, (List.range 4).find? (fun k => !l.any (fun y => y.id / 2 ^ 16 == k)) = some k := by
    rw [← Option.isSome_iff_exists, List.find?_isSome]
    by_contra hno
    have hsub : List.range 4 ⊆ l.map (fun y => y.id / 2 ^ 16) := by
      intro k hk
      have : l.any (fun y => y.id / 2 ^ 16 == k) = true := by
        by_contra hn
        exact hno ⟨k, hk, by simpa using hn⟩
      obtain ⟨y, hy, he⟩ := List.any_eq_true.mp this
      exact List.mem_map.mpr ⟨y, hy, by simpa using he⟩
    have hlen := (List.subperm_of_subset List.nodup_range hsub).length_le
    simp only [List.length_range, List.length_map] at hlen
    omega
  obtain ⟨k, hk⟩ := hex
  have hr : r = k := by show Option.getD _ 0 = k; rw [hk]; rfl
  have hp := List.find?_some hk
  have hm := List.mem_of_find?_eq_some hk
  rw [hr]
  refine ⟨List.mem_range.mp hm, fun y hy he => ?_⟩
  simp only [Bool.not_eq_true', List.any_eq_false, beq_iff_eq] at hp
  exact hp y hy he

theorem find?_updFirst {α : Type} {p : α → Bool} (g : α → α) {l : List α} {a : α} (h : l.find? p = some a) (hg : p (g a) = true) :
    (updFirst p g l).find? p = some (g a) := by
  induction l with
  | nil => cases h
  | cons x l ih =>
    unfold updFirst
    by_cases hx : p x = true
    · rw [List.find?_cons_of_pos hx] at h
      cases h
      rw [if_pos hx, List.find?_cons_of_pos hg]
    · rw [List.find?_cons_of_neg hx] at h
      rw [if_neg hx, List.find?_cons_of_neg hx, ih h]

theorem mem_updFirst_of_not {α : Type} {p : α → Bool} (g : α → α) {l : List α} {a : α} (h : a ∈ l) (hp : p a = false) :
    a ∈ updFirst p g l := by
  induction l with
  | nil => cases h
  | cons x l ih =>
    unfold updFirst
    rcases List.mem_cons.mp h with rfl | hm
    · rw [if_neg (by rw [hp]; decide)]; exact List.mem_cons_self
    · split
      · exact List.mem_cons_of_mem _ hm
      · exact List.mem_cons_of_mem _ (ih hm)

end Sys2Proof.Machine

namespace Sys2Proof.Proofs
open Sys2Proof.Machine

/-- Settles O37: each request's answer, by the guards before it. -/
theorem attestation : Obligations.Attestation := by
  unfold Obligations.Attestation
  intro fn s x chain sig same plain hfn
  refine ⟨⟨_, onFn_has _ hfn, replied_setSpdm s fn s.free _ _ _, ⟨rfl, rfl⟩, State.spdm_setSpdm_same _ _ _⟩, ?_, ?_, ?_, ?_, ?_⟩
  · intro ver h1 hv
    refine ⟨_, onFn_has _ hfn, ?_⟩
    rw [if_pos (by rcases hv with rfl | rfl <;> simp [h1, x] at h1 ⊢ <;> exact h1)]
    exact ⟨replied_setSpdm s fn s.free _ _ _, ⟨rfl, rfl⟩, State.spdm_setSpdm_same _ _ _⟩
  · intro h2
    refine ⟨_, onFn_has _ hfn, ?_⟩
    rw [if_pos (by simpa using h2)]
    exact ⟨replied_setSpdm s fn s.free _ _ _, ⟨rfl, rfl⟩, State.spdm_setSpdm_same _ _ _⟩
  · intro h3
    refine ⟨⟨_, negotiated_has _ hfn h3, replied_doe s fn _ _, rfl, rfl, rfl⟩, fun off len ho => ?_, fun nonce hi => ?_, fun nonce hi => ?_,
      fun k nonce hi hk1 hk6 => ?_, fun half hi hl => ?_⟩
    · refine ⟨_, negotiated_has _ hfn h3, ?_⟩
      rw [if_neg (by simpa [chain, State.slot0] using ho)]
      exact ⟨replied_doe s fn _ _, rfl, rfl, rfl⟩
    · refine ⟨_, negotiated_has _ hfn h3, ?_⟩
      rw [if_neg (by decide), doeSigned_held (s := (s.freeVal 256).2) _ _ _ _ hi]
      exact ⟨rfl, ⟨rfl, rfl⟩, (s.freeVal 256).1, ⟨rfl, rfl, fun _ _ => rfl, fun _ _ _ _ _ => rfl⟩⟩
    · refine ⟨_, negotiated_has _ hfn h3, [], ?_⟩
      rw [if_neg (by decide), doeSigned_lost (s := (s.freeVal 256).2) _ _ _ _ hi]
      exact ⟨⟨rfl, rfl, fun _ _ => rfl, fun _ _ _ _ _ => rfl⟩, rfl, rfl, rfl⟩
    · refine ⟨_, negotiated_has _ hfn h3, ?_⟩
      have h7 : k.toNat ≤ if fn.val = 0 then 6 else 7 := by split <;> omega
      simp only [if_neg (show k.toNat ≠ 0 by omega), if_pos h7, if_neg (show k.toNat ≠ 7 by omega)]
      rw [doeSigned_held _ _ _ _ hi]
      exact ⟨replied_doe s fn _ _, rfl, rfl, rfl⟩
    · refine ⟨_, negotiated_has _ hfn h3, ?_⟩
      obtain ⟨hr, hne⟩ := find_free_session hl
      rw [if_neg (by simp [hi]; exact hl)]
      rw [doeSigned_held (s := (s.freeVal 384).2.setSpdm fn _) _ _ _ _ hi]
      exact ⟨⟨rfl, rfl⟩, _, (s.freeVal 384).1, hr, hne, replied_setSpdm s fn (s.free + 1) _ _ _, State.spdm_setSpdm_same _ _ _⟩
  · intro id y hy ho
    refine ⟨_, onFn_has _ hfn, ?_⟩
    have hany : x.sess.any (fun y => y.id == id.toNat && !y.open_) = true := by
      rw [List.any_eq_true]
      exact ⟨y, List.mem_of_find?_eq_some hy, by have := List.find?_some hy; simp_all⟩
    rw [if_neg (by rw [hany]; decide), if_pos rfl]
    refine ⟨replied_setSpdm s fn s.free _ _ _, ⟨rfl, rfl⟩, ?_⟩
    rw [State.spdm_doe, State.spdm_setSpdm_same]
    exact find?_updFirst _ hy (show (y.id == id.toNat) = true from List.find?_some (p := fun y : SpdmSess => y.id == id.toNat) hy)
  · intro id hs
    refine ⟨⟨_, inSession_has _ hfn hs, replied_doe s fn _ _, rfl, rfl, rfl⟩, ⟨_, inSession_has _ hfn hs, ?_⟩, ⟨_, inSession_has _ hfn hs, ?_⟩⟩
    · refine ⟨replied_setSpdm s fn (s.free + 1) _ _ _, ⟨rfl, rfl⟩, fun y hy hne => ?_⟩
      rw [State.spdm_doe, State.spdm_setSpdm_same]
      exact mem_updFirst_of_not _ hy (by simpa using hne)
    · refine ⟨replied_setSpdm s fn s.free _ _ _, ⟨rfl, rfl⟩, fun y => ?_⟩
      rw [State.spdm_doe, State.spdm_setSpdm_same]
      simp [List.mem_filter, x]

end Sys2Proof.Proofs

/-! SUPPORT. What a command that answers leaves of a part of the state, as a value that the kernel evaluates: the refutations rest on it. And
a running collective whose group number no admission gives, which refutes O36 and O38. -/
namespace Sys2Proof.Machine
set_option Elab.async false

/-- A part of the state after a command, `d` where it answers none. -/
def ofNext {α : Type} (d : α) (f : State → α) (o : Host.Outcome State Fault Refusal) : α :=
  match o with
  | .next t => f t
  | _ => d

theorem ofNext_eq {α : Type} {d a : α} {f : State → α} {c : Instr} {s t : State} (h : exec c s = .next t)
    (he : ofNext d f (exec c s) = a) : f t = a := by
  rw [h] at he
  exact he

/-- A running collective of partition 0 whose group has number `g`. -/
def strayColl (g : Nat) : Coll := ⟨⟨0, 0⟩, g, 0, 0, 0, [], 0, [], false, 0, 0, [], [], [], [], [], [], none, []⟩

/-- A secure Live partition 0 with its TDI locked and a session on its function; a collective of group 0x718 80 runs in it, the state of
which group number would stand at OD 0x6031, the TDI's own state. -/
def strayTdi : State := State.odSetN { State.reset with
    parts := [(0, { Part.blank with st := .live, secure := true })],
    sec := { Sec.reset with spdm := [(1, ⟨3, 0, [⟨0, true, 0⟩]⟩)] },
    colls := { Colls.reset with run := [strayColl (128 * (0x6031 - 0x5200))] } } 0x6031 1 1

theorem stop_strayTdi : ofNext 0 (fun t => t.odNum 0x6031 1) (exec (.stopInterfaceRequest 0 0) strayTdi) = 3 := by decide +kernel

/-- A module in service with partition 0 Live on clusters 0 and 1, and a session at the management door whose next request is number 4. -/
def servedSession : Session := ⟨7, 1, .m, 0x1122, 3, 1, 0, 0, 3, false, 0, 30, [], none, [], 0⟩
def servedPart : Part := { Part.blank with st := .live, clusters := 3, regions := [(0, 0x1000000)] }
def served : State := { State.reset with
    faults := { Faults.reset with resets := [] }, life := { Life.reset with svc := .green }, parts := [(0, servedPart)],
    mgmt := { Mgmt.reset with sessions := [servedSession] } }
def nextFrame : Frame := ⟨.m, 0x1122#48, BitVec.ofNat 48 served.station, 3#8, 7#16, 4#16, true, true⟩

/-- A collective runs in partition 0 whose group's descriptor and state would stand at OD 0x5F02 and 0x6002, the partition's own state,
with an empty descriptor pending. -/
def strayPart : State := { served with
    colls := { served.colls with run := [strayColl (128 * (0x6002 - 0x5200))] },
    od := { served.od with acc := [(odKey (0x6002 - 0x100) 1, .blob [])] } }

theorem takes_strayPart : strayPart.Takes (.partitionTeardown nextFrame 0) := by
  refine ⟨_, _, _, _, servedSession, rfl, ?_, by decide +kernel⟩
  unfold State.InSession State.NextIn
  decide +kernel

theorem teardown_strayPart : ofNext 9 (fun t => t.odNum 0x6002 1)
    (exec (.partitionTeardown nextFrame 0) strayPart) = 0 := by decide +kernel

end Sys2Proof.Machine

namespace Sys2Proof.Proofs
open Sys2Proof.Machine
set_option Elab.async false

/-- Refutes O38: a TDI that is stopped is not left at 0 where a collective of the partition runs whose group number is beyond 4,095: the
end of the collective by the teardown writes the state of its group at the TDI's own element. No admission makes such a collective, but
the statement is about every state. -/
theorem not_streamsAndInterfaces : ¬ Obligations.StreamsAndInterfaces := by
  unfold Obligations.StreamsAndInterfaces
  intro h
  obtain ⟨-, -, -, hstop, -⟩ := (h 0 strayTdi).2.1 0 (by decide +kernel) (by decide +kernel) (by decide +kernel) (by decide +kernel)
  obtain ⟨t, ht, h0, -⟩ := hstop (by decide +kernel) (by decide +kernel)
  have h3 := ofNext_eq ht stop_strayTdi
  rw [show t.odNum 0x6031 1 = 0 from h0] at h3
  exact absurd h3 (by decide)

/-- Refutes O36: a teardown does not leave OD 0x6002 at Draining where a collective of the partition runs whose group number is beyond
4,095: the end of the collective writes its group's state at the partition's own element. No admission makes such a collective, but the
statement is about every state. -/
theorem not_partitions : ¬ Obligations.Partitions := by
  unfold Obligations.Partitions
  rintro ⟨h, -⟩
  obtain ⟨-, htear, -⟩ := (h nextFrame strayPart).1 0
  obtain ⟨t, ht, -, h3, -⟩ := htear (by decide +kernel) takes_strayPart
  have h0 := ofNext_eq ht teardown_strayPart
  rw [show t.odNum 0x6002 1 = 3 from h3] at h0
  exact absurd h0 (by decide)

end Sys2Proof.Proofs

/-! SUPPORT. The states that refute O35, O39, O41 and O42. -/
namespace Sys2Proof.Machine
set_option Elab.async false

/-- Epoch 5 of group 1 in partition 0: a member of rank 1 of a tree of two, in doubt, that would ask its own rank next. -/
def lastAsker : Ep := { Ep.blank with st := .inDoubt, group := 1, epoch := 5, tree := ⟨0, 2, 1, 0, [], [0, 0]⟩, asked := 1 }

/-- An ANSWER without a decision for epoch 5 of group 1. -/
def emptyAnswer : Pkt := { Pkt.req 6 0 0 3 0 (5 :: List.replicate 15 0) with aux := 2 ^ 20 + 7 * 2 ^ 16 }

def doubtful : State := ({ served with
    eps := [(0, lastAsker)], fabric := { served.fabric with inbox := [emptyAnswer] } }).odSetN 0x6010 1 8

theorem arrives_doubtful : doubtful.EpArrives 7 emptyAnswer := by
  simp only [State.EpArrives, State.Arrives]
  decide +kernel

theorem asked_doubtful : ofNext 0 (fun t => (t.ep 0).asked) (exec .epochAnswer doubtful) = 2 := by decide +kernel

/-- A removal has begun, no partition is left, and the coordinator of group 0 still records its decision of epoch 1. -/
def recordingStill : State := { State.reset with
    life := { Life.reset with removal := 1 },
    agents := [(0, { Agent.blank with machs := [⟨1, .recording, ⟨1, 1, 0, 0⟩, [], [], 0⟩] })] }

theorem removal_recordingStill : ofNext 0 (fun t => t.life.removal) (exec .removalTeardownsDone recordingStill) = 1 := by decide +kernel

/-- A collective runs in partition 0 whose group's state would stand at OD 0x7004 sub 3, the count of resets of the compute part. -/
def strayReset : State := { served with colls := { served.colls with run := [strayColl (128 * (0x7004 - 0x5200) + 2)] } }

theorem takes_strayReset : strayReset.Takes (.resetComputePart nextFrame 0) := by
  refine ⟨_, _, _, _, servedSession, rfl, ?_, by decide +kernel⟩
  unfold State.InSession State.NextIn
  decide +kernel

theorem count_strayReset : ofNext 0 (fun t => t.odNum 0x7004 3) (exec (.resetComputePart nextFrame 0) strayReset) = 3 := by decide +kernel

/-- An image is being unsealed for a partition whose result would stand at OD 0x7820 sub 11, the count of merged pulses of event 11, while
that event's crossing has a pulse pending. -/
def strayUnseal : State := { State.reset with
    clk := { State.reset.clk with xing := [(xingKey 11 0, ⟨true, true⟩)] },
    sec := { Sec.reset with onyx := { Sec.reset.onyx with unsealing := some ⟨0x13FF * 256 + 10, 0, 0, 0, 0⟩ } } }

theorem end_strayUnseal : ofNext 0 (fun t => t.odNum 0x6421 (0x13FF * 256 + 11)) (exec (.onyxOperationDone true) strayUnseal)
    = 7 * 2 ^ 56 + 1 := by decide +kernel

end Sys2Proof.Machine

namespace Sys2Proof.Proofs
open Sys2Proof.Machine
set_option Elab.async false

/-- Refutes O35: a member in doubt that would ask its own rank next, the last of the ranks, is left with the place behind it and not with
the place it had: the member of rank 1 in a tree of two. -/
theorem not_epochMembers : ¬ Obligations.EpochMembers := by
  unfold Obligations.EpochMembers
  rintro ⟨h, -⟩
  obtain ⟨-, -, hask, -⟩ := h doubtful emptyAnswer
  obtain ⟨t, ht, -, -, -, hep⟩ := hask arrives_doubtful (by decide +kernel) (by decide +kernel) (by decide +kernel)
  have h1 : (t.ep 0).asked = 1 := by
    rw [show t.ep 0 = _ from hep]
    decide +kernel
  have h2 := ofNext_eq ht asked_doubtful
  rw [h1] at h2
  exact absurd h2 (by decide)

/-- Refutes O39: the result of an unsealing does not stand where its partition's number is beyond the module's sixteen, such that the
result's element is the count of merged pulses of event 11, and the pulse of the end itself merges. No request names such a partition, but
the statement is about every state. -/
theorem not_onyxAndTamper : ¬ Obligations.OnyxAndTamper := by
  unfold Obligations.OnyxAndTamper
  intro h
  obtain ⟨-, -, -, hun, -⟩ := h strayUnseal
  obtain ⟨t, ht, -, hr, -⟩ := hun _ rfl (by decide +kernel)
  have h1 : t.odNum 0x6421 (0x13FF * 256 + 11) = 7 * 2 ^ 56 := by
    rw [show t.odNum 0x6421 (0x13FF * 256 + 11) = _ from hr]
    decide +kernel
  have h2 := ofNext_eq ht end_strayUnseal
  rw [h1] at h2
  exact absurd h2 (by decide)

/-- Refutes O41: a reset of the compute part does not count 1 at OD 0x7004 where a collective runs whose group number is beyond 4,095: its
end by the reset writes the state of its group at that count. No admission makes such a collective, but the statement is about every
state. -/
theorem not_resets : ¬ Obligations.Resets := by
  unfold Obligations.Resets
  rintro ⟨h, -⟩
  obtain ⟨-, -, hpart, -⟩ := h nextFrame 0 strayReset
  obtain ⟨t, ht, -, h1, -⟩ := hpart takes_strayReset
  have h1 : t.odNum 0x7004 3 = 1 := by
    rw [show t.odNum 0x7004 3 = _ from h1]
    decide +kernel
  have h3 := ofNext_eq ht count_strayReset
  rw [h1] at h3
  exact absurd h3 (by decide)

/-- Refutes O42: with no partition left the removal does not go on while a coordinator of the module still records a decision and the
outcome timeout has not passed since the removal began (R409 step 2). -/
theorem not_insertionToRemoval : ¬ Obligations.InsertionToRemoval := by
  unfold Obligations.InsertionToRemoval
  rintro ⟨-, -, h⟩
  obtain ⟨-, hdone, -⟩ := h recordingStill
  obtain ⟨t, ht, h2, -⟩ := hdone (by decide +kernel) (by decide +kernel)
  have h1 := ofNext_eq ht removal_recordingStill
  rw [h2] at h1
  exact absurd h1 (by decide)

end Sys2Proof.Proofs

/-! SUPPORT. A handover that holds a failed leak self-test, which refutes O49. -/
namespace Sys2Proof.Machine
set_option Elab.async false

/-- The station to which the last output goes, where that is a message of the management door. -/
def lastStation (t : State) : Option Nat :=
  t.out.getLast?.bind fun | .stanan d _ => some d | _ => none

/-- A handover is under way and holds a failed leak self-test; the session of `served` is sent events. -/
def heldTest : State := { served with
    fw := { served.fw with state := 5 },
    mgmt := { served.mgmt with sessions := [{ servedSession with flags := 1 }] },
    thermal := { served.thermal with held := [.selfTest false] } }

theorem last_heldTest : ofNext none lastStation (exec .handoverDone heldTest) = some 0x1122 := by decide +kernel

end Sys2Proof.Machine

namespace Sys2Proof.Proofs
open Sys2Proof.Machine
set_option Elab.async false

/-- Refutes O49: the announcement is not the last output of a handover that held a failed leak self-test: its evaluation follows, and the
fault's events go to the session that receives them (R531). -/
theorem not_firmware : ¬ Obligations.Firmware := by
  unfold Obligations.Firmware
  rintro ⟨h, -⟩
  obtain ⟨-, -, -, hhand, -⟩ := h heldTest
  obtain ⟨t, ht, -, -, -, -, m, hm⟩ := (hhand rfl).1 (by decide +kernel) |>.1
  have h1 := ofNext_eq ht last_heldTest
  rw [lastStation, hm] at h1
  exact absurd (Option.some.inj h1) (by decide)

end Sys2Proof.Proofs

/-! SUPPORT. The states that refute O6, O7 and O9. -/
namespace Sys2Proof.Machine
set_option Elab.async false

/-- Core 0 runs the context of slot 0; a TADV, which reads no operand, has started. -/
def startedTadv : QOp := ⟨0, 0x4100000000000000#64, 0, 0, 0, 0⟩
def advancing : State := { State.reset with
    cores := [(0, { Core.blank with ctx := [(0, { Ctx.blank with st := .running })], tRun := some startedTadv })] }

theorem running_advancing : ofNext false (fun t => decide (((t.core 0).slot 0).st = .running))
    (exec (.tOpComplete 0 .uncorrectable) advancing) = true := by decide +kernel

/-- Core 0 runs the context of slot 0; the FADD of v0 to itself has started, and lane 0 holds a negative zero. -/
def startedFadd : QOp := ⟨0, 0xD000000000000000#64, 0, 0, 0, 0⟩
def addingZeros : State := { State.reset with
    cores := [(0, { Core.blank with ctx := [(0, { Ctx.blank with st := .running, vreg := [(0, 0x80000000#32)] })], vRun := some startedFadd })] }

theorem lane_addingZeros : ofNext 1 (fun t => ((t.core 0).slot 0).lane 0 0) (exec (.vOpComplete 0 (.ok 0)) addingZeros) = 0 := by
  decide +kernel

/-- The program of slot 0 of core 0 is to be copied from a sector of stack 0, the cache of which holds 16 lines and admits a line on its
first miss. -/
def admitting : State := ({ served with
    cores := [(0, { Core.blank with ctx := [(0, { Ctx.blank with st := .loading, launch := { Launch.blank with prog := 0x1000, len := 8 } })] })],
    memory := { served.memory with hot := [(0, { Hot.blank with lines := List.range 16 })] } }).odSetN 0x8040 1 1 |>.odSetN 0x8041 0 1

theorem free_admitting : ofNext 0 (fun t => t.free) (exec (.programCopyComplete 0 0) admitting) = 1 := by decide +kernel

end Sys2Proof.Machine

namespace Sys2Proof.Proofs
open Sys2Proof.Machine
set_option Elab.async false

/-- Refutes O6: a T-op that reads no word, as a TADV, meets no uncorrectable one and is not abandoned (R148, R162). -/
theorem not_tensorEngine : ¬ Obligations.TensorEngine := by
  unfold Obligations.TensorEngine
  rintro ⟨-, -, h⟩
  obtain ⟨t, ht, -, -, -, -, hst, -⟩ := h 0 advancing startedTadv (by decide +kernel) (by decide +kernel) (by decide +kernel) (by decide +kernel)
    (by decide +kernel)
  have h1 := of_decide_eq_true (ofNext_eq ht running_advancing)
  rw [show ((t.core 0).slot 0).st = .draining from hst] at h1
  exact absurd h1 (by decide)

/-- Refutes O7: the FADD of two negative zeros is +0 (R135), and not the sum -0 that the statement names. -/
theorem not_vectorEngine : ¬ Obligations.VectorEngine := by
  unfold Obligations.VectorEngine
  rintro ⟨h, -⟩
  obtain ⟨t, ht, -, -, -, hl, -⟩ := h _ (List.mem_of_getElem? (i := 2) rfl) 0 addingZeros startedFadd (.ok 0) (by decide +kernel)
    (by decide +kernel) (by decide +kernel)
  have h1 : ((t.core 0).slot 0).lane 0 0 = 0x80000000#32 := by
    rw [show ((t.core 0).slot 0).lane 0 0 = _ from hl 0 0 (by decide)]
    decide +kernel
  have h2 := ofNext_eq ht lane_addingZeros
  rw [h1] at h2
  exact absurd h2 (by decide)

/-- Refutes O9: where the read of the program fills a hot-row cache of 16 lines, which line leaves is a free value, and the count of free
values moves beside what the statement names (R203). -/
theorem not_launching : ¬ Obligations.Launching := by
  unfold Obligations.Launching
  rintro ⟨-, h⟩
  obtain ⟨hcopy, -⟩ := h 0 0 admitting (by decide +kernel)
  obtain ⟨t, ht, hs, -⟩ := hcopy (by decide +kernel) (by decide +kernel) (by decide +kernel) (by decide +kernel)
  have h1 : t.free = 0 := by
    rw [hs]
    change admitting.free = 0
    decide +kernel
  have h2 := ofNext_eq ht free_admitting
  rw [h1] at h2
  exact absurd h2 (by decide)

end Sys2Proof.Proofs

/-! SUPPORT. A module in service whose management session receives events. -/
namespace Sys2Proof.Machine
set_option Elab.async false

def watched : State := { served with mgmt := { served.mgmt with sessions := [{ servedSession with flags := 1 }] } }

theorem out_watched : ofNext 0 (fun t => t.out.length) (exec (.hbmRead 0 0x2000000 false 0) watched) = 1 := by decide +kernel

end Sys2Proof.Machine

namespace Sys2Proof.Proofs
open Sys2Proof.Machine
set_option Elab.async false

/-- Refutes O19: a read outside its partition is no silent refusal where a session receives events: the isolation event goes out to it
(R347, R491). -/
theorem not_sectors : ¬ Obligations.Sectors := by
  unfold Obligations.Sectors
  rintro ⟨h, -⟩
  obtain ⟨-, -, hiso⟩ := h 0 0x2000000 false watched (by decide +kernel)
  obtain ⟨t, ht, hout, -⟩ := hiso 0 (by decide +kernel)
  have h1 := ofNext_eq ht out_watched
  rw [hout] at h1
  exact absurd h1 (by decide +kernel)

end Sys2Proof.Proofs

/-! SUPPORT. A table command's result behind a sealed crossing, which refutes O22, and a window of qualification in which only a lane that is
not in use fails, which refutes O25. -/
namespace Sys2Proof.Machine
set_option Elab.async false

/-- STREAM_COPY of the sector at 0 to bank 0 of core 0's scratchpad, issued by core 0. -/
def copyBits : Nat := 5 * 2 ^ 504 + 2 ^ 136 * spadBase 0 + 2 ^ 32
def copyCmd : SCmd := ⟨0, .core 0 0, 0, 0, copyBits, false, 0, [], [], false⟩

/-- The command's turn has come; core 0's bank 0 takes the result, and the inbound crossing 17 of its cluster is sealed. -/
def sealedCopy : State := State.odSetN ({ served with sepia := { served.sepia with cmds := [copyCmd] } }.setBank 0 0
    { Bank.blank with owner := 3 } |>.setBank 0 1 { Bank.blank with owner := 3 }) 0x7810 1 (2 ^ 17)

theorem inTurn_sealedCopy : sealedCopy.InTurn 0 5 copyCmd := by
  unfold State.InTurn
  decide +kernel

theorem lost_sealedCopy : ofNext false (fun t => (t.sepia.cmds.find? (fun y => y.id == 0)).any SCmd.lost)
    (exec (.streamCopy 0 []) sealedCopy) = true := by decide +kernel

theorem find_sealedCopy : ((sealedCopy.sepia.cmds.find? (fun y => y.id == 0)).map (fun x =>
    { x with done := true, status := 0, units := [0] })).any SCmd.lost = false := by decide +kernel

/-- Link 0 in qualification with lanes 0, 1 and 3 to 8 in use; lane 2 has more bit errors than its ratio allows. -/
def spareWindow : State := { served with
    links := [(0, { Link.blank with st := .qualify, rxSpare := 2, errs := [(2, 10 ^ 12)] })] }

theorem pass_spareWindow : ∀ k, k < 9 → (spareWindow.link 0).uses k = true →
    (tget 0 (spareWindow.link 0).errs k + getAt 0 [] k) * 100_000 ≤
      2 * ((if 3 ≤ spareWindow.linkVer 0 then 425_000_000 else 212_500_000) * 1000) ∧
    (spareWindow.link 0).bad + 0 = 0 ∧ bit k (spareWindow.link 0).lost = false := by decide +kernel

/-- The result that the end sends names lane 2 as failing. -/
theorem out_spareWindow : ofNext true (fun t => decide (Out.control 0 0x06 (leBytes 1 1 ++ leBytes 2 0) ∈ t.out))
    (exec (.qualifyWindowEnd 0 [] 0) spareWindow) = false := by decide +kernel

end Sys2Proof.Machine

namespace Sys2Proof.Proofs
open Sys2Proof.Machine
set_option Elab.async false

/-- Refutes O22: a STREAM_COPY to a scratchpad behind its cluster's sealed inbound crossing writes nothing and leaves its command with a lost
result (R57). -/
theorem not_sepiaWork : ¬ Obligations.SepiaWork := by
  unfold Obligations.SepiaWork
  rintro ⟨h, -⟩
  obtain ⟨-, h⟩ := h 0 copyCmd sealedCopy [] (by decide +kernel) (by decide +kernel) (by decide +kernel) (by decide +kernel)
  obtain ⟨-, hcopy, -⟩ := h (by simp)
  obtain ⟨t, ht, ⟨-, hfind⟩, -⟩ := hcopy inTurn_sealedCopy (by decide +kernel) (by decide +kernel)
  have hlost := ofNext_eq ht lost_sealedCopy
  rw [hfind, find_sealedCopy] at hlost
  exact absurd hlost (by decide)

/-- Refutes O25: QUAL_RESULT names every lane that fails, also one that is not in use, so an end that passes does not always send an empty
mask (R250). -/
theorem not_linkTrains : ¬ Obligations.LinkTrains := by
  unfold Obligations.LinkTrains
  rintro ⟨-, h⟩
  obtain ⟨-, -, -, -, hqual, -⟩ := h 0 spareWindow
  obtain ⟨hpass, -⟩ := hqual [] 0 (by decide +kernel) (by decide +kernel) (by decide +kernel)
  obtain ⟨t, ht, -, -, -, hout⟩ := hpass pass_spareWindow
  have hno := ofNext_eq ht out_spareWindow
  exact absurd (hout (by decide +kernel)) (of_decide_eq_false hno)

end Sys2Proof.Proofs

/-! SUPPORT. The row error of a host read with a full list of remapped rows, an event of which leaves the module beside the read's
completion; it refutes O18. -/
namespace Sys2Proof.Machine
set_option Elab.async false

/-- The threshold of row errors is reached in the row at 0x100 of stack 0, and function 0's window 0 is open on partition 0. -/
def openWindow : State := { watched with
    fns := [(0, { Fn.blank with win0 := 2 ^ 7 })],
    memory := { watched.memory with rowErrs := [(rowKey 0x100, List.replicate 8 0)] } }

/-- An accepted list of `n` remapped rows, each row 0 of stack 0. -/
def zeroRows (n : Nat) : List Byte := List.replicate (8 * n) 0

/-- The same, with 4,096 remapped rows. -/
def fullRemap : State := openWindow.odAccept 0x2110 0 (.blob (zeroRows 4096))

theorem leNat_replicate_zero (n : Nat) : leNat (List.replicate n 0#8) = 0 := by
  induction n with
  | zero => rfl
  | succ n ih => simp [List.replicate_succ, leNat, ih]

theorem remapOf_zeroRows (n : Nat) : remapOf (zeroRows n) = List.replicate n 0 := by
  refine List.ext_getElem (by simp [remapOf, zeroRows]) ?_
  intro i _ _
  simp [remapOf, zeroRows, fieldAt, slice, leNat_replicate_zero]

/-- A row that is not among the remapped ones is reported, and not remapped, where there are 4,096 (R179). -/
theorem addRemap_of_full {s : State} {k n : Nat} (h : s.remapBytes = zeroRows n) (hn : 4096 ≤ n) (hk : remapEntry k ≠ 0) :
    s.addRemap k = s.raise 0x000A 0x2110 0 (k / 24576 / 2048) := by
  unfold State.addRemap
  simp only [h, remapOf_zeroRows, List.contains_replicate, List.length_replicate]
  rw [if_neg (by simp [hk]), if_pos hn]

/-- The moments of a row's corrected reads within a day, with the one that is counted now (R178). -/
def State.rowTimes (s : State) (x : Nat) : List Nat :=
  ((tget [] s.memory.rowErrs (rowKey x)).filter (fun t => decide (s.now < t + 86_400_000_000_000))) ++ [s.now]

/-- What a corrected read of a row leaves before its remapping (R178, R179). -/
def State.rowCounted (s : State) (x : Nat) : State :=
  let s := (s.odInc 0x8020 (stackOf x + 1)).odApply 0x8022 0
  { s with memory := { s.memory with rowErrs := tset [] s.memory.rowErrs (rowKey x) (s.rowTimes x) } }

theorem corrected_of_many {s : State} {x : Nat}
    (h : (s.rowCounted x).odNum 0x8022 0 ≤ (((s.odInc 0x8020 (stackOf x + 1)).odApply 0x8022 0).rowTimes x).length) :
    s.corrected x = (s.rowCounted x).addRemap (rowKey x) :=
  if_pos h

theorem hostWindowRead_admitted {fn : Fin 17} {win : Fin 2} {off : BitVec 36} {len : Fin 4097} {e : Ecc} {s : State} {p a : Nat}
    (hp : winPart ((s.fn fn.val).win win.val) = p) (ha : winBase ((s.fn fn.val).win win.val) * 2 ^ 36 + off.toNat = a)
    (hfn : s.hasFn fn = true) (hopen : s.winOpen fn win = true) (hlen : ¬ 2 ^ 36 < off.toNat + len)
    (hacc : s.access .host p a len false = .ok) (hseal : s.sealedAt a = false) (hread : (s.readSeen e p a len).2 = false) :
    exec (.hostWindowRead fn win off len e) s =
      .next ((s.readSeen e p a len).1.emit (.completion fn 0 (s.rdRange p a len))) := by
  subst hp ha
  simp only [exec, execHostWindowRead, hfn, hopen, hacc, hseal, hread, hlen]
  rfl

theorem remapBytes_rowCounted_fullRemap :
    ((fullRemap.hotRange 0 0x100 64).1.rowCounted 0x100).remapBytes = zeroRows 4096 := rfl

theorem out_corrected_fullRemap : ((fullRemap.hotRange 0 0x100 64).1.corrected 0x100).out.length = 1 := by
  have hmany : ((fullRemap.hotRange 0 0x100 64).1.rowCounted 0x100).odNum 0x8022 0 ≤
    ((((fullRemap.hotRange 0 0x100 64).1.odInc 0x8020 (stackOf 0x100 + 1)).odApply 0x8022 0).rowTimes 0x100).length := by decide +kernel
  have hrow : remapEntry (rowKey 0x100) ≠ 0 := by decide +kernel
  rw [corrected_of_many hmany, addRemap_of_full remapBytes_rowCounted_fullRemap (Nat.le_refl _) hrow]
  decide +kernel

theorem readSeen_ok {s : State} {p a len x : Nat} {l : List Nat} (hchip : s.onChip a len = false) (hrows : (s.hotRange p a len).2 = x :: l) :
    s.readSeen (.ok 1) p a len = ((s.hotRange p a len).1.corrected x, false) := by
  simp [State.readSeen, hchip, hrows]

theorem readSeen_fullRemap : fullRemap.readSeen (.ok 1) 0 0x100 64 = ((fullRemap.hotRange 0 0x100 64).1.corrected 0x100, false) :=
  readSeen_ok (l := []) (by decide +kernel) (by decide +kernel)

end Sys2Proof.Machine

namespace Sys2Proof.Proofs
open Sys2Proof.Machine
set_option Elab.async false

/-- Refutes O18: a corrected read of a window that reaches the threshold of its row, with 4,096 rows remapped, sends an event beside the
completion where a session receives events (R179, R491). -/
theorem not_hostFunctions : ¬ Obligations.HostFunctions := by
  unfold Obligations.HostFunctions
  rintro ⟨h, -⟩
  obtain ⟨hread, -⟩ := (h 0 0 0x100 fullRemap).2 (by decide +kernel)
  obtain ⟨hok, -⟩ := hread 64 (by decide +kernel) (by decide +kernel) (by decide +kernel) (by decide +kernel)
  obtain ⟨t, ht, hout, -⟩ := hok 1
  have hseen : (fullRemap.readSeen (.ok 1) 0 0x100 (64 : Fin 4097).val).2 = false := congrArg Prod.snd readSeen_fullRemap
  rw [hostWindowRead_admitted (len := 64) (p := 0) (a := 0x100) (by decide +kernel) (by decide +kernel) (by decide +kernel) (by decide +kernel)
    (by decide +kernel) (by decide +kernel) (by decide +kernel) hseen] at ht
  have hlen := congrArg List.length hout
  rw [← Host.Outcome.next.inj ht, State.emit, List.length_append, List.length_append] at hlen
  rw [show (fullRemap.readSeen (.ok 1) 0 0x100 (64 : Fin 4097).val).1.out.length = 1 from
    (congrArg (fun r => r.1.out.length) readSeen_fullRemap).trans out_corrected_fullRemap] at hlen
  exact absurd hlen (by decide)

end Sys2Proof.Proofs

/-! SUPPORT. A packet whose partition number no header carries, which refutes O30. -/
namespace Sys2Proof.Machine
set_option Elab.async false

/-- A WRITE under a key selector without a secret; the setting of its partition's admission would stand at OD 0x6418 2, the count of the
packets without an installed secret. -/
def strayWrite : Pkt := { Pkt.req 0 0 (256 * (0x6418 - 0x6010) + 1) 0 0 [] with keyid := 1 }

/-- The module in service holds the WRITE, with a value pending where its admission would stand. -/
def strayInbox : State := { served with
    fabric := { served.fabric with inbox := [strayWrite] },
    od := { served.od with acc := [(odKey 0x6418 2, .num 5)] } }

theorem write_strayInbox : ofNext 0 (fun t => t.odNum 0x6418 2) (exec (.fabricWrite (.ok 0)) strayInbox) = 6 := by decide +kernel

end Sys2Proof.Machine

namespace Sys2Proof.Proofs
open Sys2Proof.Machine
set_option Elab.async false

/-- Refutes O30: the packet with no installed secret is not counted once where its target partition has a number far beyond 15: the
admission setting that an arrival applies is then another object's pending value. No header carries such a number, but the statement is
about every packet and state. -/
theorem not_fabricArrivals : ¬ Obligations.FabricArrivals := by
  unfold Obligations.FabricArrivals
  rintro ⟨-, h⟩
  obtain ⟨-, -, -, -, -, hlost⟩ := h strayInbox strayWrite 0 (by decide +kernel)
  have herr : strayInbox.opened strayWrite = .error 2 := rfl
  obtain ⟨t, ht, -, -, -, -, -, hcount⟩ := hlost strayWrite 2 (by decide +kernel) herr (by decide +kernel) (by decide +kernel)
    (by decide +kernel) (.ok 0)
  have h6 := ofNext_eq ht write_strayInbox
  rw [hcount] at h6
  exact absurd h6 (by decide +kernel)

end Sys2Proof.Proofs

/-! SUPPORT. A reply to a READ of an M-op that still stands in its queue, which refutes O31. -/
namespace Sys2Proof.Machine
set_option Elab.async false

/-- An M-op of core 0's slot 0 that has not started. -/
def queuedMop : MOp := ⟨0, 0, 0, 0, 0, 0, 0, 0, .queued, 1, 0, 0⟩

/-- The READ of the M-op, the bytes of which go to an address that the partition does not have, and its reply. -/
def strayReq : Req := ⟨Pkt.req 1 0 0 0 0 [], .get 0 0 0x3FF_0000_0000, 0, 0, 1, 0⟩
def strayReply : Pkt := Pkt.req 2 0 0 0 0 [0]

def queuedGet : State := { served with
    cores := [(0, { Core.blank with ctx := [(0, { Ctx.blank with st := .running })], mops := [queuedMop] })],
    fabric := { served.fabric with inbox := [strayReply], out := [strayReq] } }

theorem reply_queuedGet : queuedGet.Reply strayReply 2 strayReq := by
  refine ⟨⟨strayReply, by decide +kernel, rfl⟩, by decide +kernel, by decide +kernel, by decide +kernel⟩

theorem gone_queuedGet : ofNext true (fun t => (t.mop? 0 0).isSome) (exec (.fabricReadData (.ok 0)) queuedGet) = false := by decide +kernel

end Sys2Proof.Machine

namespace Sys2Proof.Proofs
open Sys2Proof.Machine
set_option Elab.async false

/-- Refutes O31: where the bytes of a READ may not be written, the fault of their M-op discards the queued M-ops of its context (R90, R121); an
M-op that has its READ out and stands queued is then no more. No M-op issues a READ before it starts, but the statement is about every
state. -/
theorem not_fabricEnds : ¬ Obligations.FabricEnds := by
  unfold Obligations.FabricEnds
  rintro ⟨-, h, -⟩
  obtain ⟨-, hread, -⟩ := h queuedGet strayReply strayReq (.ok 0)
  obtain ⟨t, ht, -, -, hget⟩ := hread reply_queuedGet
  obtain ⟨-, hgo⟩ := hget 0 0 0x3FF_0000_0000 queuedMop rfl (by decide +kernel)
  obtain ⟨-, m, hm, -⟩ := hgo (by decide +kernel)
  have hnone := ofNext_eq ht gone_queuedGet
  simp [hm] at hnone

end Sys2Proof.Proofs

/-! SUPPORT. A refused table swap and a frame that no message of R477 fits, which refute O46 and O45. -/
namespace Sys2Proof.Machine
set_option Elab.async false

/-- A request for a table swap at time 0, which is past. -/
def pastSwap : List Byte := leBytes 8 0

theorem inSession_served : served.InSession nextFrame servedSession := by
  unfold State.InSession State.NextIn
  decide +kernel

theorem swapState_served : ofNext (.num 0) (fun t => t.odGet 0x4414 0) (exec (.writeObject nextFrame 0x4412 0 false pastSwap) served) = .num 4 := by
  decide +kernel

/-- The ROM loader serves the management door. -/
def inRom : State := { served with fw := { served.fw with a := ⟨.rom, none, none, none⟩, b := ⟨.rom, none, none, none⟩ } }

/-- More bytes than a WRITE can carry. -/
def longBytes : List Byte := List.replicate 1485 0

theorem nextIn_inRom : inRom.NextIn nextFrame servedSession := by
  unfold State.NextIn
  decide +kernel

theorem silent_inRom : ofNext 1 (fun t => t.out.length) (exec (.writeObject nextFrame 0 0 false longBytes) inRom) = 0 := by
  decide +kernel

end Sys2Proof.Machine

namespace Sys2Proof.Proofs
open Sys2Proof.Machine
set_option Elab.async false

/-- Refutes O46: the refusal of a table swap is reported in OD 0x4414 (R273), so a WRITE that is not accepted does not leave every object as
it was. -/
theorem not_objectWrites : ¬ Obligations.ObjectWrites := by
  unfold Obligations.ObjectWrites
  intro h
  obtain ⟨-, hrefused, -⟩ := h nextFrame served servedSession pastSwap inSession_served
  obtain ⟨t, ht, -, -, hsame⟩ := hrefused 0x4412 0 (by decide +kernel) (by decide +kernel)
  have hget := ofNext_eq ht swapState_served
  rw [(hsame 0x4414 0 (by decide) (by decide)).1] at hget
  exact absurd hget (by decide +kernel)

/-- Refutes O45: a WRITE with more bytes than a message's body has is no sound frame and is counted, not answered (R477, R479), also where the
ROM loader serves. -/
theorem not_sessionRequests : ¬ Obligations.SessionRequests := by
  unfold Obligations.SessionRequests
  intro h
  obtain ⟨hrom, -⟩ := h nextFrame inRom servedSession
  obtain ⟨-, t, ht, ⟨hst, -⟩, -⟩ := hrom 0 0 longBytes (by decide +kernel) nextIn_inRom (.inl (by decide))
  have hlen := ofNext_eq ht silent_inRom
  rw [hst] at hlen
  exact absurd (List.length_append.symm.trans hlen) (by decide +kernel)

end Sys2Proof.Proofs

/-! SUPPORT. The management ring in a ledger slice, which refutes O50. -/
namespace Sys2Proof.Machine
set_option Elab.async false

def someRecord : Lilac := ⟨0, 1, 0, 0, 0, 0, none, false, false⟩

/-- A record is on its way to the management ring, which begins at address 0; partition 0 has declared the first 1 MiB of each stack for its
ledger, and owns no region there. -/
def ringInSlice : State := ((State.odSetN { State.reset with trace := { Trace.reset with src := [someRecord] } } 0xA201 0 1).odSet
    0xA202 0 (.blob (leBytes 8 0 ++ leBytes 8 65504))).odSetN 0x5841 1 1 |>.odSetN 0x5840 1 0

theorem lost_ringInSlice : ofNext 1 (fun t => (t.ringHdr 0).written) (exec (.traceRecord false) ringInSlice) = 0 := by decide +kernel

end Sys2Proof.Machine

namespace Sys2Proof.Proofs
open Sys2Proof.Machine
set_option Elab.async false

/-- Refutes O50: a record for the management ring is lost while the ring lies in a declared ledger slice, and its header counts none as
written (R319, R545). -/
theorem not_traceAndTest : ¬ Obligations.TraceAndTest := by
  unfold Obligations.TraceAndTest
  rintro ⟨h, -⟩
  obtain ⟨-, -, hring⟩ := (h ringInSlice someRecord []).1 rfl (by decide +kernel)
  obtain ⟨t, ht, hhdr, -⟩ := hring 0 65504 (by decide +kernel) (by decide +kernel) (by decide +kernel) (by decide +kernel)
  have hw := ofNext_eq ht lost_ringInSlice
  rw [hhdr] at hw
  exact absurd hw (by decide +kernel)

end Sys2Proof.Proofs

/-! SUPPORT. The rows of the service state and of its causes: what they show, and what they leave alone. -/
namespace Sys2Proof.Machine

/-- The elements that a report or a row of the service state may write: those of reports, the state, its causes, the alerts. -/
def Posted (i : Nat) : Prop := Noisy i ∨ i = 0x2000 ∨ i = 0x2002 ∨ i = 0x2005

/-- What a report writes may differ, and the service state with the alert line. -/
def State.Posts (s t : State) : Prop :=
  t = { s with od := t.od, clk := { s.clk with xing := t.clk.xing }, fns := t.fns, out := t.out, trace := t.trace, mgmt := t.mgmt,
               life := { s.life with svc := t.life.svc, alert := t.life.alert } } ∧
  ∀ i j, j < 256 → ¬ Posted i → t.odGet i j = s.odGet i j ∧ t.odPending i j = s.odPending i j

namespace State.Posts

theorem refl (s : State) : s.Posts s := ⟨rfl, fun _ _ _ _ => ⟨rfl, rfl⟩⟩

theorem trans {s t u : State} (h : s.Posts t) (g : t.Posts u) : s.Posts u := by
  obtain ⟨h1, h2⟩ := h
  obtain ⟨g1, g2⟩ := g
  refine ⟨?_, fun i j hj hi => ⟨(g2 i j hj hi).1.trans (h2 i j hj hi).1, (g2 i j hj hi).2.trans (h2 i j hj hi).2⟩⟩
  rw [g1, h1]

theorem of_reports {s t : State} (h : s.Reports t) : s.Posts t := by
  refine ⟨?_, fun i j hj hi => h.2 i j hj (fun e => hi (.inl e))⟩
  rw [h.1]

/-- The same dictionary, and the rest as a row of the service state leaves it. -/
theorem of_same {s t : State}
    (h : t = { s with od := t.od, clk := { s.clk with xing := t.clk.xing }, fns := t.fns, out := t.out, trace := t.trace, mgmt := t.mgmt,
                      life := { s.life with svc := t.life.svc, alert := t.life.alert } })
    (ho : t.od = s.od) : s.Posts t :=
  ⟨h, fun i j _ _ => ⟨by unfold State.odGet; rw [ho], by unfold State.odPending; rw [ho]⟩⟩

theorem odGet {s t : State} (h : s.Posts t) {i j : Nat} (hj : j < 256) (hi : ¬ Posted i) : t.odGet i j = s.odGet i j := (h.2 i j hj hi).1
theorem odNum {s t : State} (h : s.Posts t) {i j : Nat} (hj : j < 256) (hi : ¬ Posted i) : t.odNum i j = s.odNum i j := by
  unfold State.odNum; rw [h.odGet hj hi]

theorem mem {s t : State} (h : s.Posts t) : t.mem = s.mem := by rw [h.1]
theorem memory {s t : State} (h : s.Posts t) : t.memory = s.memory := by rw [h.1]

theorem foldl {α : Type} {f : State → α → State} (h : ∀ (s : State) a, s.Posts (f s a)) (l : List α) (s : State) : s.Posts (l.foldl f s) := by
  induction l generalizing s with
  | nil => exact refl s
  | cons a l ih => exact (h s a).trans (ih _)

end State.Posts

theorem odSetN_posts {s : State} {i k n : Nat} (hi : Posted i) (hk : k < 256) : s.Posts (s.odSetN i k n) :=
  ⟨rfl, fun a j hj ha => ⟨odGet_odSetN_other s n (odKey_ne hk hj (fun e => ha (e ▸ hi))), rfl⟩⟩

theorem alertSet_posts (s : State) (b : Nat) (on : Bool) : s.Posts (s.alertSet b on) :=
  (odSetN_posts (.inr (.inr (.inr rfl))) (by decide)).trans (.of_same rfl rfl)

theorem enter_posts {s : State} (v : Svc) (alert : Bool) (h : s.life.svc ≠ .grey) : s.Posts (s.enter v alert) := by
  unfold State.enter
  split
  · exact .refl s
  simp only [h, if_false]
  have hv : s.Posts (({ s with life := { s.life with svc := v } } : State).odSetN 0x2000 0 v.code) :=
    (State.Posts.of_same (t := { s with life := { s.life with svc := v } }) rfl rfl).trans
      (odSetN_posts (.inr (.inl rfl)) (by decide))
  refine State.Posts.trans ?_ (.of_reports (raise_reports _ _ _ _ _))
  refine State.Posts.trans ?_ (.of_reports (.foldl (fun s k => fnEvent_reports s k 3) _ _))
  split
  · exact hv.trans (alertSet_posts _ _ _)
  · exact hv

theorem amber_posts (s : State) (b : Nat) (on : Bool) : s.Posts (s.amber b on) := by
  have hc : ∀ n, s.Posts (s.odSetN 0x2002 0 n) := fun n => odSetN_posts (.inr (.inr (.inl rfl))) (by decide)
  unfold State.amber
  simp only []
  split
  · next h => exact (hc _).trans (enter_posts _ _ (by simp only [Bool.and_eq_true, decide_eq_true_eq] at h; rw [h.1]; decide))
  · split
    · next h => exact (hc _).trans (enter_posts _ _ (by simp only [Bool.and_eq_true, decide_eq_true_eq] at h; rw [h.1]; decide))
    · exact hc _

/-! ### Sectors -/

theorem showLedger_memory (s : State) (p : Nat) : (s.showLedger p).memory = s.memory := rfl

theorem logEntry_held (s : State) (e : LEntry) : (s.logEntry e).memory.held = s.memory.held := by
  unfold State.logEntry
  rw [State.wr_memory]

theorem sectorPut_held (s : State) (a : Nat) (bs : List Byte) : (s.sectorPut a bs).memory.held = s.memory.held := by
  unfold State.sectorPut
  cases s.holder a with
  | none => simp only [State.wr_memory]
  | some p =>
    simp only []
    split <;> split <;> 
      simp only [State.wr_memory, showLedger_memory, apply_ite State.memory, apply_ite Memory.held, logEntry_held, ite_self]

theorem hbmPut_held (s : State) (a : Nat) (bs : List Byte) : (s.hbmPut a bs).memory.held = s.memory.held := by
  unfold State.hbmPut
  generalize sectorsOf a bs.length = l
  induction l generalizing s with
  | nil => rfl
  | cons k l ih => exact (ih _).trans (sectorPut_held s _ _)

theorem spareGo_armed_posts (s : State) (k : Nat) : (s.odSetN 0x8011 (k + 1) 2).Posts (s.spareGo k 2) :=
  State.Posts.trans (.of_reports (raise_reports _ _ _ _ _)) (amber_posts _ _ _)

/-! ### Held writes and the patrol -/

/-- Writes of other stacks wait on, in their order. -/
theorem heldAgain_others {s : State} {k : Nat} {f : State → HeldWrite → State} (l : List HeldWrite)
    (hf : ∀ u h, stackOf h.addr ≠ k → f u h = { u with memory := { u.memory with held := u.memory.held ++ [h] } })
    (hl : ∀ h ∈ l, stackOf h.addr ≠ k) :
    l.foldl f s = { s with memory := { s.memory with held := s.memory.held ++ l } } := by
  induction l generalizing s with
  | nil => simp
  | cons h l ih =>
    rw [List.foldl_cons, ih (fun x hx => hl x (List.mem_cons_of_mem _ hx)), hf _ _ (hl h List.mem_cons_self)]
    simp

theorem ledgerRoomFreed_go {s : State} {k : Fin 16} {h : HeldWrite} (hh : s.memory.held = [h]) (hk : stackOf h.addr = k.val)
    (hg : s.stackGated k = false)
    (hw : ({ s with memory := { s.memory with held := [] } } : State).gate h.addr h.bytes.length = .go) :
    exec (.ledgerRoomFreed k) s = .next (({ s with memory := { s.memory with held := [] } } : State).hbmPut h.addr h.bytes) := by
  show execLedgerRoomFreed k s = _
  unfold execLedgerRoomFreed
  simp [hg, hh, hk, hw]

theorem ledgerRoomFreed_others {s : State} {k : Fin 16} (h : ∀ h ∈ s.memory.held, stackOf h.addr ≠ k.val) :
    exec (.ledgerRoomFreed k) s = .next s := by
  show execLedgerRoomFreed k s = _
  unfold execLedgerRoomFreed
  simp only []
  split
  · rfl
  · rw [heldAgain_others (k := k.val) _ (fun u x hx => if_pos hx) h]
    rfl

theorem patrolRead_grey {s : State} (k : Fin 16) (e : Nat) (h : s.life.svc = .grey) : exec (.patrolRead k e) s = .next s := by
  show execPatrolRead k e s = _
  simp [execPatrolRead, h]

/-- The patrol of a stack stands at sector n. -/
def State.patrolAt (s : State) (k n : Nat) : State := { s with memory := { s.memory with patrol := tset 0 s.memory.patrol k n } }

theorem patrolAt_patrol (s : State) (k n j : Nat) :
    tget 0 (s.patrolAt k n).memory.patrol j = if j = k then n else tget 0 s.memory.patrol j := by
  unfold State.patrolAt
  exact tget_tset ..

/-- A patrol read that does not end its round moves on to the next sector. -/
theorem patrolRead_next {s : State} {k : Fin 16} (e : Nat) (h : s.life.svc ≠ .grey) (hg : s.stackGated k = false)
    (hn : tget 0 s.memory.patrol k.val + 1 < stackSize / 64) :
    exec (.patrolRead k e) s =
      let n := tget 0 s.memory.patrol k.val
      let r := s.decodeSector (k * stackSize + 64 * n) e
      .next ((if r.2 then r.1 else r.1.raise 0x000A 0x8021 (k + 1) k).patrolAt k (n + 1)) := by
  show execPatrolRead k e s = _
  unfold execPatrolRead
  have hs : (s.life.svc == Svc.grey) = false := by simpa using h
  simp [hs, hg, Nat.ne_of_lt hn, State.patrolAt]

theorem patrolSector (k n : Nat) : (k * stackSize + 64 * n) / 64 = k * (stackSize / 64) + n := by
  unfold stackSize; omega

theorem decodeSector_sound {s : State} {x : Nat} (h : x / 64 ∉ s.memory.bad) : s.decodeSector x 0 = (s, true) := by
  unfold State.decodeSector
  simp [h]

theorem decodeSector_two {s : State} {x : Nat} (h : x / 64 ∉ s.memory.bad) : s.decodeSector x 2 = (s.spoil x, false) := by
  unfold State.decodeSector
  simp [h]

theorem spoil_bad {s : State} {x : Nat} (h : x / 64 ∉ s.memory.bad) : (s.spoil x).memory.bad = s.memory.bad ++ [x / 64] := by
  unfold State.spoil
  simp only [List.contains_eq_mem, h, decide_false, Bool.false_eq_true, if_false]
  rfl

end Sys2Proof.Machine

namespace Sys2Proof.Proofs
open Sys2Proof.Machine

/-- Settles O21: the writes of other stacks are held again in their order; a patrol read decodes the next sector, and what it reports
touches neither memory nor its place. -/
theorem stackUpkeep : Obligations.StackUpkeep := by
  unfold Obligations.StackUpkeep
  refine ⟨fun k s => ⟨fun h hh hk hg hw => ⟨_, ledgerRoomFreed_go hh hk hg hw, ?_, rfl⟩,
    fun h => ⟨_, ledgerRoomFreed_others h, rfl⟩⟩, fun k s => ?_, fun k s h => ?_⟩
  · rw [hbmPut_held]
  · refine ⟨fun h e => ⟨_, patrolRead_grey k e h, rfl⟩, fun h hg hn => ⟨fun hx => ?_, fun hx => ?_⟩⟩
    · rw [← patrolSector] at hx
      have e := patrolRead_next 0 h hg hn
      simp only [decodeSector_sound hx, if_true] at e
      refine ⟨s.patrolAt k _, e, rfl, fun j => ?_⟩
      rw [patrolAt_patrol]
      split
      · next e => rw [e]
      · simp
    · rw [← patrolSector] at hx ⊢
      have e := patrolRead_next 2 h hg hn
      simp only [decodeSector_two hx, Bool.false_eq_true, if_false] at e
      generalize hx' : k.val * stackSize + 64 * tget 0 s.memory.patrol k.val = x at *
      have hst : stackOf x = k.val := by unfold stackOf stackSize at *; omega
      have hr := raise_reports (s.spoil x) 0x000A 0x8021 (k + 1) k
      have hm : ((s.spoil x).raise 0x000A 0x8021 (k + 1) k).memory = (s.spoil x).memory := by rw [hr.1]
      refine ⟨((s.spoil x).raise 0x000A 0x8021 (k + 1) k).patrolAt k _, e, ?_, ?_, ?_, ?_⟩
      · show ((s.spoil x).raise 0x000A 0x8021 (k + 1) k).memory.bad = _
        rw [hm, spoil_bad hx]
      · show ((s.spoil x).raise 0x000A 0x8021 (k + 1) k).mem = (s.spoil x).mem
        rw [hr.1]
      · rw [patrolAt_patrol, if_pos rfl]
      · show ((s.spoil x).raise 0x000A 0x8021 (k + 1) k).odNum _ _ = _
        rw [hr.odNum (by omega) (by unfold Noisy; omega)]
        show (State.odInc _ 0x8021 (stackOf x + 1)).odNum _ _ = _
        rw [hst]
        exact odNum_odInc_same _ _ (by decide)
  · have e : exec (.sparePairCopyDone k) s = .next (s.spareGo k 2) := if_pos h
    have hp := spareGo_armed_posts s k
    refine ⟨_, e, ?_, ?_, hp.mem, hp.memory⟩
    · rw [hp.odNum (by omega) (by unfold Posted Noisy; omega)]
      exact State.odNum_odSetN_same ..
    · rw [hp.odNum (by omega) (by unfold Posted Noisy; omega)]
      unfold State.odNum
      rw [odGet_odSetN_other _ _ (odKey_ne (by omega) (by omega) (by decide))]

end Sys2Proof.Proofs

/-! SUPPORT. The table swap, the flow timers and fabric time. -/
namespace Sys2Proof.Machine

/-! ### The table swap -/

/-- What the router holds of a link is discarded, its slots freed (R272). -/
def Link.emptied (l : Link) : Link :=
  { l with txq := [], rx := [], freed := l.rx.foldl (fun t p => tset 0 t p.vc ((tget 0 t p.vc + p.slots) % 2 ^ 20)) l.freed }

theorem link_updLink (s : State) (n m : Nat) (f : Link → Link) : (s.updLink n f).link m = if m = n then f (s.link n) else s.link m := by
  unfold State.updLink State.setLink State.link
  exact tget_tset ..

theorem foldl_emptied_only (l : List Nat) (s : State) :
    l.foldl (fun s n => s.updLink n Link.emptied) s = { s with links := (l.foldl (fun s n => s.updLink n Link.emptied) s).links } := by
  induction l generalizing s with
  | nil => rfl
  | cons n l ih => exact ih _

theorem foldl_emptied_link (l : List Nat) (s : State) (m : Nat) (h : m ∈ l ∨ (s.link m).txq = [] ∧ (s.link m).rx = []) :
    let t := l.foldl (fun s n => s.updLink n Link.emptied) s
    (t.link m).txq = [] ∧ (t.link m).rx = [] ∧ (t.link m).st = (s.link m).st := by
  induction l generalizing s with
  | nil =>
    have h := h.resolve_left List.not_mem_nil
    exact ⟨h.1, h.2, rfl⟩
  | cons n l ih =>
    have hl := link_updLink s n m Link.emptied
    obtain ⟨ht, hr, hst⟩ := ih (s.updLink n Link.emptied) (by
      rw [hl]
      split
      · exact .inr ⟨rfl, rfl⟩
      · next hne => exact h.imp (fun hm => (List.mem_cons.mp hm).resolve_left hne) id)
    refine ⟨ht, hr, hst.trans ?_⟩
    rw [hl]
    split
    · next e => rw [e]; rfl
    · rfl

theorem swapStop_eq {s : State} {q : SwapReq} (h : s.fabric.swap = some q) (hs : s.fabric.stopped = false) :
    exec .swapStop s = .next (({ s with fabric := { s.fabric with stopped := true } } : State).odSetN 0x4414 0 2) := by
  show execSwapStop s = _
  simp [execSwapStop, h, hs]

/-- What the swap discards: the packets that the router still holds (R272). -/
def State.routerHeld (s : State) : Nat := ((List.range 12).map (fun n => (s.link n).txq.length + (s.link n).rx.length)).sum

/-- Every link emptied. -/
def State.emptied (s : State) : State := (List.range 12).foldl (fun s n => s.updLink n Link.emptied) s

theorem State.emptied_only (s : State) : ∃ L, s.emptied = { s with links := L } := ⟨_, foldl_emptied_only _ s⟩

theorem State.emptied_link (s : State) {n : Nat} (h : n < 12) :
    (s.emptied.link n).txq = [] ∧ (s.emptied.link n).rx = [] ∧ (s.emptied.link n).st = (s.link n).st :=
  foldl_emptied_link _ s n (.inl (List.mem_range.mpr h))

theorem odApply_od (s : State) (i k : Nat) : s.odApply i k = { s with od := (s.odApply i k).od } := by
  unfold State.odApply
  split <;> rfl

/-- The table t is the active one, and n packets are counted as discarded (R272). -/
def State.tabled (s : State) (n t : Nat) : State := ((s.odAdd 0x4415 0 n).odSetN 0x4402 0 t).odApply 0x4401 0

theorem State.tabled_od (s : State) (n t : Nat) : s.tabled n t = { s with od := (s.tabled n t).od } := by
  unfold State.tabled
  rw [odApply_od]
  rfl

theorem State.tabled_link (s : State) (n t k : Nat) : (s.tabled n t).link k = s.link k := by
  rw [s.tabled_od]
  rfl

theorem State.tabled_table (s : State) (n t : Nat) : (s.tabled n t).odNum 0x4402 0 = t := by
  unfold State.tabled State.odNum
  rw [odGet_odApply_other _ (odKey_ne (by decide) (by decide) (by decide))]
  exact State.odNum_odSetN_same ..

theorem State.tabled_count (s : State) (n t : Nat) : (s.tabled n t).odNum 0x4415 0 = (s.odNum 0x4415 0 + n) % 2 ^ 64 := by
  rw [← odNum_odAdd_same _ 0 _ (by decide)]
  unfold State.tabled State.odNum
  rw [odGet_odApply_other _ (odKey_ne (by decide) (by decide) (by decide)),
    odGet_odSetN_other _ _ (odKey_ne (by decide) (by decide) (by decide))]

/-- The state when the requested table has become the active one (R272). -/
def State.swapped (s : State) (q : SwapReq) : State := s.emptied.tabled s.routerHeld q.table

theorem swapApply_eq {s : State} {q : SwapReq} (h : s.fabric.swap = some q) (hs : s.fabric.stopped = true) :
    exec .swapApply s = .next { s.swapped q with fabric := { (s.swapped q).fabric with swap := none } } := by
  show execSwapApply s = _
  unfold execSwapApply
  simp only [h, hs, Bool.not_true, Bool.false_eq_true, if_false]
  rfl

theorem swapped_only (s : State) (q : SwapReq) : s.swapped q = { s with od := (s.swapped q).od, links := (s.swapped q).links } := by
  obtain ⟨L, hL⟩ := s.emptied_only
  unfold State.swapped
  rw [State.tabled_od, hL]

theorem swapped_discarded (s : State) (q : SwapReq) :
    (s.swapped q).odNum 0x4415 0 = (s.odNum 0x4415 0 + s.routerHeld) % 2 ^ 64 := by
  obtain ⟨L, hL⟩ := s.emptied_only
  unfold State.swapped
  have hn : ({ s with links := L } : State).odNum 0x4415 0 = s.odNum 0x4415 0 := rfl
  rw [State.tabled_count, hL, hn]

theorem swapped_link (s : State) (q : SwapReq) {n : Nat} (h : n < 12) :
    ((s.swapped q).link n).txq = [] ∧ ((s.swapped q).link n).rx = [] ∧ ((s.swapped q).link n).st = (s.link n).st := by
  unfold State.swapped
  rw [State.tabled_link]
  exact s.emptied_link h

theorem swapResume_eq {s : State} (h : s.fabric.swap = none) (hs : s.fabric.stopped = true) (hf : s.fabric.frozen = [])
    (hh : s.fabric.held = []) :
    exec .swapResume s = .next (({ s with fabric := { s.fabric with stopped := false } } : State).odSetN 0x4414 0 3) := by
  have he : ({ s.fabric with stopped := false, frozen := [] } : Fabric) = { s.fabric with stopped := false } := by rw [← hf]
  show execSwapResume s = _
  unfold execSwapResume
  rw [hs, h, hf, he]
  exact congrArg Host.Outcome.next (retryHeld_none hh)

/-! ### The flow timers -/

theorem odApply_none {s : State} {i k : Nat} (h : s.odPending i k = none) : s.odApply i k = s := by
  unfold State.odApply
  rw [h]

theorem Win.is_iff {src spart : Nat} {w : Win} : Win.is src spart w = true ↔ w.src = src ∧ w.spart = spart := by
  simp [Win.is]

theorem Limiter.is_iff {dst spart : Nat} {l : Limiter} : Limiter.is dst spart l = true ↔ l.dst = dst ∧ l.spart = spart := by
  simp [Limiter.is]

theorem windowEntryRelease_eq {s : State} {d : BitVec 20} {p : Fin 16} {w : Win} (hw : w ∈ s.fabric.wins) (hs : w.src = d.toNat)
    (hp : w.spart = p.val) :
    exec (.windowEntryRelease d p) s = .next { s.odApply 0x4425 0 with
      fabric := { (s.odApply 0x4425 0).fabric with wins := (s.odApply 0x4425 0).fabric.wins.filter (fun w => !Win.is d.toNat p w) } } :=
  if_pos (List.any_eq_true.mpr ⟨w, hw, Win.is_iff.mpr ⟨hs, hp⟩⟩)

theorem limiterIdleRelease_eq {s : State} {d : BitVec 20} {p : Fin 16} {l : Limiter} (hl : l ∈ s.fabric.limiters) (hs : l.dst = d.toNat)
    (hp : l.spart = p.val) :
    exec (.limiterIdleRelease d p) s = .next { s.odApply 0x4806 0 with
      fabric := { (s.odApply 0x4806 0).fabric with
        limiters := (s.odApply 0x4806 0).fabric.limiters.filter (fun l => !Limiter.is d.toNat p l) } } :=
  if_pos (List.any_eq_true.mpr ⟨l, hl, Limiter.is_iff.mpr ⟨hs, hp⟩⟩)

/-- A flow's limiter at the end of an increase interval: its bucket filled to now, its rate, no halving (R280). -/
def State.increased (s : State) (d : BitVec 20) (p : Fin 16) (l : Limiter) : Nat :=
  if l.halved then l.rate
  else min (l.rate + s.flowRate { Pkt.req 0 d.toNat 0 p 0 [] with src := s.own } * s.odNum 0x4803 0 / 1000)
    (s.flowRate { Pkt.req 0 d.toNat 0 p 0 [] with src := s.own })

theorem limiterIncrease_eq {s : State} {d : BitVec 20} {p : Fin 16} {l : Limiter}
    (hl : s.fabric.limiters.find? (Limiter.is d.toNat p) = some l) (h3 : s.odPending 0x4803 0 = none) (h4 : s.odPending 0x4804 0 = none) :
    exec (.limiterIncrease d p) s = .next { s with fabric := { s.fabric with
      limiters := updFirst (Limiter.is d.toNat p) (fun x => { x.upTo s.now with rate := s.increased d p l, halved := false })
        s.fabric.limiters } } := by
  have ha : s.odApplyAll [(0x4803, 0), (0x4804, 0)] = s := by
    show (s.odApply 0x4803 0).odApply 0x4804 0 = s
    rw [odApply_none h3, odApply_none h4]
  show execLimiterIncrease d p s = _
  unfold execLimiterIncrease
  simp only [hl, ha]
  rfl

/-! ### Fabric time -/

/-- Only the choice of the parent differs: the tree, the lock, and what shows them. -/
def State.Chosen (s t : State) : Prop :=
  t = { s with od := t.od, ftime := { t.ftime with links := s.ftime.links, frac := s.ftime.frac },
               clk := { s.clk with fabricLocked := t.clk.fabricLocked } }

theorem State.Chosen.trans {s t u : State} (h : s.Chosen t) (g : t.Chosen u) : s.Chosen u := by
  unfold State.Chosen at *
  rw [h] at g
  exact g

theorem odSetN_chosen (s : State) (i k n : Nat) : s.Chosen (s.odSetN i k n) := rfl

theorem showTime_chosen (s : State) : s.Chosen s.showTime := (odSetN_chosen s _ _ _).trans (odSetN_chosen _ _ _ _)

theorem timeFree_chosen (s : State) : s.Chosen s.timeFree :=
  State.Chosen.trans (t := { s with ftime := { s.ftime with parent := none, good := 0, dist := 0xFF, slew := 0, free := _ },
                                    clk := { s.clk with fabricLocked := false } }) rfl (showTime_chosen _)

theorem odApply_chosen (s : State) (i k : Nat) : s.Chosen (s.odApply i k) := by
  unfold State.odApply
  split <;> rfl

theorem timeChoose_chosen (s : State) : s.Chosen s.timeChoose := by
  unfold State.timeChoose
  simp only []
  split
  · exact timeFree_chosen s
  · split
    · rfl
    · split <;> rfl

/-- While the module has a parent the count of good exchanges goes on. -/
theorem timeChoose_good {s : State} {n : Nat} (h : s.timeChoose.ftime.parent = some n) : s.timeChoose.ftime.good = s.ftime.good := by
  unfold State.timeChoose at *
  simp only [] at *
  split at h
  · cases h
  · split
    · rfl
    · split <;> rfl

/-- The state that an Active link sends TIME from (R281, R282). -/
def State.timeTold (s : State) : State := (s.odApply 0x4440 0).timeChoose.showTime

theorem timeTold_chosen (s : State) : s.Chosen s.timeTold :=
  ((odApply_chosen s _ _).trans (timeChoose_chosen _)).trans (showTime_chosen _)

/-- The content of a TIME message: three times, the distance, the lock, the root (R281). -/
def State.timeBytes (s : State) (n : Nat) : List Byte :=
  let t := (tfind s.ftime.links n).getD ⟨0, 0, 0xFF, 0, 0, 0⟩
  let root := s.ftime.dist == 0 && s.odBool 0x4440 0
  leBytes 8 s.fab ++ leBytes 8 t.ptx ++ leBytes 8 t.prx ++ leBytes 1 s.ftime.dist ++
    leBytes 1 (b2n s.clk.fabricLocked + 2 * b2n root) ++ leBytes 8 (if root || s.ftime.parent.isSome then s.ftime.root else 0)

theorem timeSend_eq {s : State} {n : Fin 12} (h : s.linkUp n = true) :
    exec (.timeSend n) s = .next (s.timeTold.control n 0x08 (s.timeTold.timeBytes n)) := if_pos h

theorem control_out (s : State) (n code : Nat) (bs : List Byte) : (s.control n code bs).out[s.out.length]? = some (.control n code bs) := by
  show ((s.out ++ [_]) ++ [_])[s.out.length]? = _
  simp

theorem fieldAt_append_left {a b : List Byte} {i k : Nat} (h : i + k ≤ a.length) : fieldAt (a ++ b) i k = fieldAt a i k := by
  unfold fieldAt slice
  rw [List.drop_append_of_le_length (by omega), List.take_append_of_le_length (by simp; omega)]

theorem fieldAt_append_right {a b : List Byte} {i k : Nat} (h : a.length ≤ i) : fieldAt (a ++ b) i k = fieldAt b (i - a.length) k := by
  unfold fieldAt slice
  rw [List.drop_append, List.drop_eq_nil_of_le h, List.nil_append]

theorem fieldAt_leBytes (k n : Nat) : fieldAt (leBytes k n) 0 k = n % 256 ^ k := by
  unfold fieldAt slice
  rw [List.drop_zero, List.take_of_length_le (by simp), leNat_leBytes]

theorem fieldAt_word (x : Nat) (rest : List Byte) : fieldAt (leBytes 8 x ++ rest) 0 8 = x % 2 ^ 64 := by
  rw [fieldAt_append_left (by simp), fieldAt_leBytes]
  norm_num

theorem fieldAt_word_skip (x : Nat) (rest : List Byte) {i : Nat} (h : 8 ≤ i) (k : Nat) :
    fieldAt (leBytes 8 x ++ rest) i k = fieldAt rest (i - 8) k := by
  rw [fieldAt_append_right (by simpa using h), length_leBytes]

theorem timeBytes_fields (s : State) (n : Nat) :
    (s.timeBytes n).length = 34 ∧ fieldAt (s.timeBytes n) 0 8 = s.fab % 2 ^ 64 ∧
    fieldAt (s.timeBytes n) 8 8 = ((tfind s.ftime.links n).getD ⟨0, 0, 0xFF, 0, 0, 0⟩).ptx % 2 ^ 64 ∧
    fieldAt (s.timeBytes n) 16 8 = ((tfind s.ftime.links n).getD ⟨0, 0, 0xFF, 0, 0, 0⟩).prx % 2 ^ 64 := by
  unfold State.timeBytes
  simp only [List.append_assoc]
  refine ⟨by simp, fieldAt_word _ _, ?_, ?_⟩
  · rw [fieldAt_word_skip _ _ (by decide)]
    exact fieldAt_word _ _
  · rw [fieldAt_word_skip _ _ (by decide), fieldAt_word_skip _ _ (by decide)]
    exact fieldAt_word _ _

theorem takeCtl_message {s : State} {n code : Nat} {m : List Byte} {rest : List (List Byte)} (h : s.Message n code m rest) :
    s.takeCtl n code = some (m, s.setLink n { s.link n with ctl := rest }) := by
  obtain ⟨hl, hc⟩ := h
  unfold State.takeCtl
  rw [hl]
  exact if_pos hc

theorem fieldAt_tail (m : List Byte) (i k : Nat) : fieldAt (m.drop 1) i k = fieldAt m (1 + i) k := by
  unfold fieldAt slice
  rw [List.drop_drop]

/-- The message of bytes b, taken from a link, is recorded and the parent is chosen (R281, R282). -/
def State.timeTaken (s : State) (n : Fin 12) (b : List Byte) : State :=
  let path : Int := if fieldAt b 8 8 = 0 && fieldAt b 16 8 = 0 then 0
    else 500 * (((s.fab : Int) - fieldAt b 8 8) - ((fieldAt b 0 8 : Int) - fieldAt b 16 8))
  { s with ftime := { s.ftime with
      links := tput s.ftime.links n ⟨fieldAt b 0 8, s.fab, fieldAt b 24 1, fieldAt b 25 1, fieldAt b 26 8, path⟩ } }.timeChoose

/-- Fabric time steps by ps (R282). -/
def State.timeStepped (u : State) (n : Fin 12) (ps : Int) : State :=
  ((({ u with clk := { u.clk with fabricTime := ((u.fab : Int) + ps / 1000).toNat, fabricLocked := false },
              ftime := { u.ftime with slew := 0, good := 0 } } : State).odInc 0x4445 0).lilac 8 0 n 0 (ofSigned 64 (ps / 1000)) none).showTime

/-- Fabric time is slewed by ps, with the lock and the count of good exchanges (R283). -/
def State.timeSlewed (u : State) (lock : Bool) (ps : Int) (good : Nat) : State :=
  ({ u with clk := { u.clk with fabricLocked := lock }, ftime := { u.ftime with slew := ps, good := good } } : State).showTime

/-- The offset ps steps fabric time, beyond 10 us, or slews it (R282, R283). -/
def State.steered (v : State) (n : Fin 12) (ps : Int) : State :=
  let u := v.odSetN 0x4444 0 (ofSigned 32 (ps / 1000))
  let good := if ps.natAbs < 50_000 then u.ftime.good + 1 else 0
  if ps.natAbs > 10_000_000 then u.timeStepped n ps
  else u.timeSlewed (if ps.natAbs > 200_000 then false else u.clk.fabricLocked || decide (good ≥ 10)) ps (min good 10)

theorem timeTaken_eq (s : State) (n : Fin 12) (m : List Byte) (rest : List (List Byte)) :
    (s.setLink n { s.link n with ctl := rest }).timeTaken n (m.drop 1) = s.timeHeard n m rest := by
  unfold State.timeTaken State.timeHeard State.pathOf
  simp only [fieldAt_tail, Bool.and_eq_true, decide_eq_true_eq]
  rfl

theorem timeMessage_taken {s t : State} {n : Fin 12} {m : List Byte} (h : s.takeCtl n 8 = some (m, t))
    (hp : (t.timeTaken n (m.drop 1)).ftime.parent = some n.val) (h12 : fieldAt (m.drop 1) 8 8 ≠ 0 ∨ fieldAt (m.drop 1) 16 8 ≠ 0) :
    exec (.timeMessage n) s = .next ((t.timeTaken n (m.drop 1)).steered n
      (500 * (((fieldAt (m.drop 1) 16 8 : Int) - fieldAt (m.drop 1) 8 8) - ((t.fab : Int) - fieldAt (m.drop 1) 0 8)))) := by
  show execTimeMessage n s = _
  unfold execTimeMessage
  rw [h]
  have hc : (decide ((t.timeTaken n (m.drop 1)).ftime.parent ≠ some n.val) ||
      (decide (fieldAt (m.drop 1) 8 8 = 0) && decide (fieldAt (m.drop 1) 16 8 = 0))) = false := by
    rw [hp]
    rcases h12 with h | h <;> simp only [h, ne_eq, not_true_eq_false, decide_false, Bool.and_false, Bool.false_and, Bool.or_false]
  refine (if_neg (by rw [Bool.not_eq_true]; exact hc)).trans ?_
  unfold State.steered
  by_cases hps : (500 * (((fieldAt (m.drop 1) 16 8 : Int) - fieldAt (m.drop 1) 8 8) - ((t.fab : Int) - fieldAt (m.drop 1) 0 8))).natAbs
      > 10_000_000
  · exact (if_pos hps).trans (congrArg Host.Outcome.next (if_pos hps).symm)
  · exact (if_neg hps).trans (congrArg Host.Outcome.next (if_neg hps).symm)

/-- A message of the parent that echoes something steps fabric time or slews it (R282, R283). -/
theorem timeMessage_steers {s : State} {n : Fin 12} {m : List Byte} {rest : List (List Byte)} (h : s.Message n 8 m rest)
    (hp : (s.timeHeard n m rest).ftime.parent = some n.val) (h12 : fieldAt m 9 8 ≠ 0 ∨ fieldAt m 17 8 ≠ 0) :
    exec (.timeMessage n) s = .next ((s.timeHeard n m rest).steered n
      (500 * (((fieldAt m 17 8 : Int) - fieldAt m 9 8) - ((s.fab : Int) - fieldAt m 1 8)))) := by
  have e := timeMessage_taken (takeCtl_message h) (by rw [timeTaken_eq, hp]) (by simpa only [fieldAt_tail] using h12)
  rw [timeTaken_eq] at e
  simp only [fieldAt_tail] at e
  exact e

theorem timeStepped_leaves (u : State) (n : Fin 12) (ps : Int) :
    let t := u.timeStepped n ps
    t.clk.fabricTime = ((u.fab : Int) + ps / 1000).toNat ∧ t.clk.fabricLocked = false ∧ t.ftime.good = 0 ∧ t.ftime.slew = 0 ∧
    t.mem = u.mem ∧ t.cores = u.cores := by
  unfold State.timeStepped
  generalize hx : ({ u with clk := _, ftime := _ } : State) = x
  have hs := showTime_chosen ((x.odInc 0x4445 0).lilac 8 0 n 0 (ofSigned 64 (ps / 1000)) none)
  have hr := lilac_reports (x.odInc 0x4445 0) 8 0 n 0 (ofSigned 64 (ps / 1000)) none
  generalize (x.odInc 0x4445 0).lilac 8 0 n 0 (ofSigned 64 (ps / 1000)) none = y at hs hr
  have hw : ((x.odInc 0x4445 0).clk, (x.odInc 0x4445 0).ftime, (x.odInc 0x4445 0).mem, (x.odInc 0x4445 0).cores) =
      (x.clk, x.ftime, x.mem, x.cores) := rfl
  simp only [Prod.mk.injEq] at hw
  obtain ⟨hc, hf, hm, hk⟩ := hw
  rw [hs, hr.1]
  simp only [hc, hf, hm, hk, ← hx]
  exact ⟨rfl, rfl, rfl, rfl, rfl, rfl⟩

theorem showTime_same (s : State) : s.showTime.ftime = s.ftime ∧ s.showTime.clk = s.clk ∧ s.showTime.mem = s.mem ∧ s.showTime.cores = s.cores := by
  unfold State.showTime
  simp [State.odSetN]

theorem timeSlewed_leaves (u : State) (lock : Bool) (ps : Int) (good : Nat) :
    (u.timeSlewed lock ps good).ftime = { u.ftime with slew := ps, good := good } ∧
    (u.timeSlewed lock ps good).clk = { u.clk with fabricLocked := lock } ∧ (u.timeSlewed lock ps good).mem = u.mem ∧
    (u.timeSlewed lock ps good).cores = u.cores := by
  unfold State.timeSlewed
  obtain ⟨hf, hc, hm, hk⟩ := showTime_same
    ({ u with clk := { u.clk with fabricLocked := lock }, ftime := { u.ftime with slew := ps, good := good } } : State)
  rw [hf, hc, hm, hk]
  exact ⟨rfl, rfl, rfl, rfl⟩

/-- What a step of fabric time leaves (R282). -/
theorem steered_far {v : State} {n : Fin 12} {ps : Int} (h : 10_000_000 < ps.natAbs) :
    (v.steered n ps).clk.fabricTime = ((v.fab : Int) + ps / 1000).toNat ∧ (v.steered n ps).clk.fabricLocked = false ∧
    (v.steered n ps).ftime.good = 0 ∧ (v.steered n ps).ftime.slew = 0 ∧ (v.steered n ps).mem = v.mem ∧ (v.steered n ps).cores = v.cores := by
  have e : v.steered n ps = (v.odSetN 0x4444 0 (ofSigned 32 (ps / 1000))).timeStepped n ps := if_pos h
  rw [e]
  exact timeStepped_leaves _ n ps

/-- What a slew leaves (R283). -/
theorem steered_near {v : State} {n : Fin 12} {ps : Int} (h : ps.natAbs ≤ 10_000_000) :
    (v.steered n ps).ftime.slew = ps ∧ (v.steered n ps).ftime.links = v.ftime.links ∧
    (v.steered n ps).clk.fabricTime = v.clk.fabricTime ∧ (v.steered n ps).mem = v.mem ∧ (v.steered n ps).cores = v.cores ∧
    (v.steered n ps).ftime.good = if ps.natAbs < 50_000 then min (v.ftime.good + 1) 10 else 0 := by
  have e : ∃ lock, v.steered n ps = (v.odSetN 0x4444 0 (ofSigned 32 (ps / 1000))).timeSlewed lock ps
      (min (if ps.natAbs < 50_000 then v.ftime.good + 1 else 0) 10) := ⟨_, if_neg (Nat.not_lt.mpr h)⟩
  obtain ⟨lock, e⟩ := e
  rw [e]
  obtain ⟨hf, hc, hm, hk⟩ := timeSlewed_leaves (v.odSetN 0x4444 0 (ofSigned 32 (ps / 1000))) lock ps
    (min (if ps.natAbs < 50_000 then v.ftime.good + 1 else 0) 10)
  rw [hf, hc, hm, hk]
  refine ⟨rfl, rfl, rfl, rfl, rfl, ?_⟩
  show min (if ps.natAbs < 50_000 then v.ftime.good + 1 else 0) 10 = _
  split <;> simp

theorem timeHeard_chosen (s : State) (n : Fin 12) (m : List Byte) (rest : List (List Byte)) :
    (s.timeHeard n m rest).clk.fabricTime = s.clk.fabricTime ∧ (s.timeHeard n m rest).mem = s.mem ∧ (s.timeHeard n m rest).cores = s.cores ∧
    (tfind (s.timeHeard n m rest).ftime.links n).map LinkTime.path = some (s.pathOf m) := by
  have h := timeChoose_chosen ({ s with links := tset Link.blank s.links n { s.link n with ctl := rest }, ftime := { s.ftime with
    links := tput s.ftime.links n ⟨fieldAt m 1 8, s.fab, fieldAt m 25 1, fieldAt m 26 1, fieldAt m 27 8, s.pathOf m⟩ } } : State)
  unfold State.timeHeard
  rw [h]
  refine ⟨rfl, rfl, rfl, ?_⟩
  show (tfind (tput s.ftime.links n _) n).map LinkTime.path = _
  rw [tfind_tput, if_pos rfl]
  rfl

end Sys2Proof.Machine

namespace Sys2Proof.Proofs
open Sys2Proof.Machine

/-- Settles O32: the swap empties every link and puts the table in force, the flow timers write their one flow, and fabric time is
chosen, then stepped or slewed. -/
theorem fabricTiming : Obligations.FabricTiming := by
  unfold Obligations.FabricTiming
  refine ⟨fun s q => ⟨fun h hs => ⟨_, swapStop_eq h hs, rfl, State.odNum_odSetN_same ..⟩, fun h _ hs => ?_,
    fun h hs hf hh => ⟨_, swapResume_eq h hs hf hh, rfl, State.odNum_odSetN_same ..⟩⟩, fun d p s => ⟨?_, ?_, ?_⟩, fun n s => ⟨?_, ?_⟩⟩
  · have ho := swapped_only s q
    refine ⟨_, swapApply_eq h hs, ?_, State.tabled_table _ _ _, fun n hn => swapped_link s q hn, swapped_discarded s q⟩
    rw [ho]
  · intro w hw hd hp
    refine ⟨_, windowEntryRelease_eq hw hd hp, ?_, fun x => ?_⟩
    · rw [odApply_od]
    · rw [odApply_od]
      rw [List.mem_filter, ← Win.is_iff, Bool.not_eq_true, Bool.not_eq_true']
  · intro l hl hd hp
    refine ⟨_, limiterIdleRelease_eq hl hd hp, ?_, fun x => ?_⟩
    · rw [odApply_od]
    · rw [odApply_od]
      rw [List.mem_filter, ← Limiter.is_iff, Bool.not_eq_true, Bool.not_eq_true']
  · intro l hl h3 h4
    refine ⟨_, limiterIncrease_eq hl h3 h4, rfl, ?_⟩
    have hi := Limiter.is_iff.mp (List.find?_some hl)
    exact find?_updFirst _ hl (Limiter.is_iff.mpr hi)
  · intro h
    have ht := timeTold_chosen s
    obtain ⟨h34, h0, h8, h16⟩ := timeBytes_fields s.timeTold n
    have ho : (s.timeTold.control n 0x08 (s.timeTold.timeBytes n)).out[s.out.length]? = some (.control n 0x08 (s.timeTold.timeBytes n)) := by
      have e : s.timeTold.out = s.out := by rw [ht]
      rw [← e]
      exact control_out _ _ _ _
    have hl : s.timeTold.ftime.links = s.ftime.links := by rw [ht]
    have hf : s.timeTold.fab = s.fab := by rw [ht]; rfl
    have hc := State.control_timed s.timeTold n 0x08 (s.timeTold.timeBytes n)
    have htm : s.timeTold.timed = s.timed := by rw [ht]; rfl
    have hc := hc.trans htm
    unfold State.timed at hc
    simp only [Prod.mk.injEq] at hc
    have hkept : _ = s.kept := exec_kept (timeSend_eq h) rfl
    refine ⟨_, timeSend_eq h, congrArg (fun k => k.2.1) hkept, hc.1, hc.2.2.2.1, ?_⟩
    · rw [ho]
      refine ⟨rfl, rfl, h34, hf ▸ h0, ?_, ?_⟩
      · rw [h8, hl]
        cases tfind s.ftime.links n.val <;> rfl
      · rw [h16, hl]
        cases tfind s.ftime.links n.val <;> rfl
  · intro m rest t3 t1 t2 ps h hp h12
    obtain ⟨hft, hm, hc, hpath⟩ := timeHeard_chosen s n m rest
    have hfab : (s.timeHeard n m rest).fab = s.fab := hft
    refine ⟨fun hps => ?_, fun hps => ?_⟩
    · obtain ⟨hs, hl, hf, hm', hc', hg⟩ := steered_near (v := s.timeHeard n m rest) (n := n) hps
      refine ⟨_, timeMessage_steers h hp h12, hs, ?_, hf.trans hft, hm'.trans hm, hc'.trans hc, ?_⟩
      · rw [hl, hpath]
        exact congrArg some (if_neg (by omega))
      · have hgood : (s.timeHeard n m rest).ftime.good = s.ftime.good := timeChoose_good hp
        rw [hg, hgood]
    · obtain ⟨hf, hl, hg, hs, hm', hc'⟩ := steered_far (v := s.timeHeard n m rest) (n := n) hps
      rw [hfab] at hf
      exact ⟨_, timeMessage_steers h hp h12, hf, hl, hg, hs, hm'.trans hm, hc'.trans hc⟩

end Sys2Proof.Proofs

/-! SUPPORT. The management port: who has a session, an OPEN, and the port's own events. -/
namespace Sys2Proof.Machine

/-! ### Who has a session -/

/-- What a session is opened with: its door, source address, version, flags and identifier. -/
def Session.who (x : Session) : Door × Nat × Nat × Nat × Nat := (x.door, x.src, x.ver, x.flags, x.id)

/-- The same sessions are open, and the manager's absence is timed as before. -/
def State.SameDoors (s t : State) : Prop :=
  t.mgmt.sessions.map Session.who = s.mgmt.sessions.map Session.who ∧ t.mgmt.absence = s.mgmt.absence

namespace State.SameDoors

theorem refl (s : State) : s.SameDoors s := ⟨rfl, rfl⟩
theorem trans {s t u : State} (h : s.SameDoors t) (g : t.SameDoors u) : s.SameDoors u := ⟨g.1.trans h.1, g.2.trans h.2⟩
theorem of_mgmt {s t : State} (h : t.mgmt = s.mgmt) : s.SameDoors t := ⟨by rw [h], by rw [h]⟩
theorem foldl {α : Type} {f : State → α → State} (h : ∀ (s : State) a, s.SameDoors (f s a)) (l : List α) (s : State) :
    s.SameDoors (l.foldl f s) := by
  induction l generalizing s with
  | nil => exact refl s
  | cons a l ih => exact (h s a).trans (ih _)


theorem withMgmt {s t : State} (h : s.SameDoors t) (m : Mgmt) (h1 : m.sessions.map Session.who = t.mgmt.sessions.map Session.who)
    (h2 : m.absence = t.mgmt.absence) : s.SameDoors { t with mgmt := m } := h.trans ⟨h1, h2⟩

end State.SameDoors

theorem map_updFirst {α β : Type} {p : α → Bool} {f : α → α} {g : α → β} (h : ∀ x, g (f x) = g x) (l : List α) :
    (updFirst p f l).map g = l.map g := by
  induction l with
  | nil => rfl
  | cons x l ih =>
    unfold updFirst
    split
    · rw [List.map_cons, List.map_cons, h]
    · rw [List.map_cons, List.map_cons, ih]

theorem updSession_sameDoors (s : State) (id : Nat) {f : Session → Session} (h : ∀ x, (f x).who = x.who) :
    s.SameDoors (s.updSession id f) := ⟨map_updFirst h _, rfl⟩

theorem msix_mgmt (s : State) (k vec : Nat) : (s.msix k vec).mgmt = s.mgmt := by
  rw [msix_onlyMessages s k vec]

theorem fnEvent_mgmt (s : State) (k b : Nat) : (s.fnEvent k b).mgmt = s.mgmt := by
  unfold State.fnEvent
  split
  · rfl
  · exact msix_mgmt _ _ _

theorem pulse_mgmt (s : State) (ev i : Nat) : (s.pulse ev i).mgmt = s.mgmt := by
  unfold State.pulse
  simp only []
  split
  · rw [landed_onlyMessages]
  · split <;> rfl

theorem pulse_sameDoors (s : State) (ev i : Nat) : s.SameDoors (s.pulse ev i) := .of_mgmt (pulse_mgmt s ev i)

theorem mbxPut_sameDoors (s : State) (m : List Byte) : s.SameDoors (s.mbxPut m) := by
  unfold State.mbxPut
  simp only []
  split
  · exact ((State.SameDoors.refl s).withMgmt _ rfl rfl).trans (pulse_sameDoors _ _ _)
  · exact ⟨rfl, rfl⟩

theorem sendTo_sameDoors (s : State) (door : Door) (src : Nat) (m : List Byte) : s.SameDoors (s.sendTo door src m) := by
  cases door with
  | m => exact ⟨rfl, rfl⟩
  | h => exact mbxPut_sameDoors s m

theorem deliverOne_sameDoors (s : State) (x : Session) : s.SameDoors (s.deliverOne x) := by
  unfold State.deliverOne
  split
  · refine (State.SameDoors.foldl (fun s _ => sendTo_sameDoors s x.door x.src _) _ s).withMgmt _ ?_ rfl
    exact map_updFirst (by exact fun _ => rfl) _
  · exact .refl s

theorem raise_sameDoors (s : State) (code idx sub detail : Nat) : s.SameDoors (s.raise code idx sub detail) := by
  unfold State.raise
  simp only []
  have hi : s.SameDoors (if decide ((s.mgmt.events.filter (fun x => decide (s.now ≤ x.at_ + 60_000_000_000))).length ≥ 4096) then
      s.odInc 0x1122 0 else s) := by
    split <;> exact ⟨rfl, rfl⟩
  exact (hi.withMgmt _ rfl rfl).trans (.foldl deliverOne_sameDoors _ _)

theorem enter_sameDoors {s : State} (v : Svc) (alert : Bool) (h : s.life.svc ≠ .grey) : s.SameDoors (s.enter v alert) := by
  unfold State.enter
  split
  · exact .refl s
  simp only [h, if_false]
  refine State.SameDoors.trans ?_ (raise_sameDoors _ _ _ _ _)
  refine State.SameDoors.trans ?_ (.foldl (fun s k => .of_mgmt (fnEvent_mgmt s k 3)) _ _)
  split <;> exact ⟨rfl, rfl⟩

theorem amber_sameDoors (s : State) (b : Nat) (on : Bool) : s.SameDoors (s.amber b on) := by
  unfold State.amber
  simp only [Bool.and_eq_true, decide_eq_true_eq]
  split
  · next h => exact State.SameDoors.trans (t := s.odSetN 0x2002 0 _) ⟨rfl, rfl⟩ (enter_sameDoors _ _ (by rw [h.1]; decide))
  · split
    · next h => exact State.SameDoors.trans (t := s.odSetN 0x2002 0 _) ⟨rfl, rfl⟩ (enter_sameDoors _ _ (by rw [h.1]; decide))
    · exact ⟨rfl, rfl⟩

theorem elim_sameDoors (s : State) (o : Option Session) : s.SameDoors (o.elim s s.deliverOne) := by
  cases o with
  | none => exact .refl s
  | some x => exact deliverOne_sameDoors s x

theorem replayEvents_sameDoors (s : State) (id resume : Nat) : s.SameDoors (s.replayEvents id resume) := by
  unfold State.replayEvents
  cases s.session? id with
  | none => exact .refl s
  | some x =>
    simp only []
    generalize (if resume = 0xFFFF_FFFF then 0 else min resume (s.mgmt.nextEvent - 1)) = last
    split
    · exact .refl s
    · refine State.SameDoors.trans ?_ (elim_sameDoors _ _)
      refine State.SameDoors.trans ?_ (updSession_sameDoors _ id (fun x => rfl))
      split
      · exact .refl s
      · exact sendTo_sameDoors _ _ _ _

theorem mem_who {s t : State} {x : Session} (h : s.SameDoors t) (hx : x ∈ s.mgmt.sessions) : ∃ y ∈ t.mgmt.sessions, y.who = x.who := by
  have hm : x.who ∈ t.mgmt.sessions.map Session.who := h.1 ▸ List.mem_map_of_mem hx
  obtain ⟨y, hy, e⟩ := List.mem_map.mp hm
  exact ⟨y, hy, e⟩

/-! ### OPEN -/

/-- What an OPEN on the management door changes: what a row of the service state may, a free value, and what the dictionary holds. -/
def State.Opens (s t : State) : Prop :=
  t = { s with od := t.od, clk := { s.clk with xing := t.clk.xing }, fns := t.fns, out := t.out, trace := t.trace, mgmt := t.mgmt,
               life := { s.life with svc := t.life.svc, alert := t.life.alert }, free := t.free }

theorem State.Opens.trans {s t u : State} (h : s.Opens t) (g : t.Opens u) : s.Opens u := by
  unfold State.Opens at *
  rw [h] at g
  exact g

theorem State.Opens.of_posts {s t : State} (h : s.Posts t) : s.Opens t := by
  unfold State.Opens
  rw [h.1]

theorem State.Opens.of_reports {s t : State} (h : s.Reports t) : s.Opens t := .of_posts (.of_reports h)

theorem elim_reports (s : State) (o : Option Session) : s.Reports (o.elim s s.deliverOne) := by
  cases o with
  | none => exact .refl s
  | some x => exact deliverOne_reports s x

theorem replayEvents_reports (s : State) (id resume : Nat) : s.Reports (s.replayEvents id resume) := by
  unfold State.replayEvents
  cases s.session? id with
  | none => exact .refl s
  | some x =>
    simp only []
    generalize (if resume = 0xFFFF_FFFF then 0 else min resume (s.mgmt.nextEvent - 1)) = last
    split
    · exact .refl s
    · refine State.Reports.trans ?_ (elim_reports _ _)
      refine State.Reports.withMgmt ?_ _
      split
      · exact .refl s
      · exact sendTo_reports _ _ _ _

theorem endSession_sessions (s : State) (id : Nat) :
    s.endSession id = { s with mgmt := (s.endSession id).mgmt } ∧
    ∀ p : Session → Bool, ((s.endSession id).mgmt.sessions.filter p).length ≤ (s.mgmt.sessions.filter p).length := by
  have hl : ∀ (l : List Session) (p : Session → Bool), ((l.filter (fun y => y.id != id)).filter p).length ≤ (l.filter p).length :=
    fun l p => (List.Sublist.filter p List.filter_sublist).length_le
  unfold State.endSession
  cases s.session? id with
  | none => exact ⟨rfl, fun _ => Nat.le_refl _⟩
  | some x =>
    simp only []
    split <;> exact ⟨rfl, fun p => hl _ p⟩

theorem endSessions_sessions (l : List Session) (s : State) :
    l.foldl (fun s x => s.endSession x.id) s = { s with mgmt := (l.foldl (fun s x => s.endSession x.id) s).mgmt } ∧
    ∀ p : Session → Bool, ((l.foldl (fun s x => s.endSession x.id) s).mgmt.sessions.filter p).length ≤ (s.mgmt.sessions.filter p).length := by
  induction l generalizing s with
  | nil => exact ⟨rfl, fun _ => Nat.le_refl _⟩
  | cons x l ih =>
    obtain ⟨h1, h2⟩ := ih (s.endSession x.id)
    obtain ⟨g1, g2⟩ := endSession_sessions s x.id
    refine ⟨?_, fun p => (h2 p).trans (g2 p)⟩
    rw [List.foldl_cons, h1, g1]

theorem pickId_pos (s : State) : s.pickId.1 ≠ 0 := by
  unfold State.pickId
  simp only []
  cases h : List.find? _ ((List.range 80).map _) with
  | none => decide
  | some n =>
    have hn := List.find?_some h
    intro e
    have e : n = 0 := e
    simp [e] at hn

/-- A session is open on the management door: it is added, the absence ends, the answer is sent, and the events are sent again. -/
def State.opened1 (u : State) (x : Session) (ids : List Nat) (src : Nat) (body : State → List Byte) (resume : Nat) : State :=
  let v := (u.mgmtSet (fun m => { m with sessions := m.sessions ++ [x], lastIds := ids })).mgmtSet (fun m => { m with absence := none })
  ((v.amber 12 false).sendTo .m src (body (v.amber 12 false))).replayEvents x.id resume

theorem opened1_spec (u : State) (x : Session) (ids : List Nat) (src : Nat) (body : State → List Byte) (resume : Nat) :
    u.Opens (u.opened1 x ids src body resume) ∧ (u.opened1 x ids src body resume).mgmt.absence = none ∧
    ∃ y ∈ (u.opened1 x ids src body resume).mgmt.sessions, y.who = x.who := by
  unfold State.opened1
  simp only []
  generalize hv : (u.mgmtSet (fun m => { m with sessions := m.sessions ++ [x], lastIds := ids })).mgmtSet _ = v
  have hu : u.Opens v := by rw [← hv]; rfl
  have hs : x ∈ v.mgmt.sessions := by rw [← hv]; simp [State.mgmtSet]
  have ha : v.mgmt.absence = none := by rw [← hv]; rfl
  have hd := ((amber_sameDoors v 12 false).trans (sendTo_sameDoors _ .m src (body (v.amber 12 false)))).trans
    (replayEvents_sameDoors _ x.id resume)
  refine ⟨?_, hd.2.trans ha, mem_who hd hs⟩
  exact ((hu.trans (.of_posts (amber_posts v 12 false))).trans (.of_reports (sendTo_reports _ _ _ _))).trans
    (.of_reports (replayEvents_reports _ _ _))

/-- An OPEN on the management door with a common version and room for a session (R480). -/
theorem openReq_eq {s : State} {f : Frame} {lo hi fl resume ver : Nat} (hd : f.door = .m)
    (hv : commonVersion lo (min hi s.topVersion) = some ver) (hn : (s.mgmt.sessions.filter (fun x => x.door == .m)).length < 4) :
    ∃ u x ids body, s.Opens u ∧ x.who = (.m, f.src.toNat, ver, fl, x.id) ∧ x.id ≠ 0 ∧
      s.openReq f lo hi fl resume = u.opened1 x ids f.src.toNat body resume := by
  obtain ⟨h1, h2⟩ := endSessions_sessions (s.mgmt.sessions.filter (fun x => x.door == .m && x.src == f.src.toNat)) s
  unfold State.openReq
  simp only [hd, beq_self_eq_true, if_true]
  generalize (s.mgmt.sessions.filter (fun x => x.door == .m && x.src == f.src.toNat)).foldl (fun s x => s.endSession x.id) s = e at h1 h2 ⊢
  have htop : e.topVersion = s.topVersion := by rw [h1]; rfl
  have he : s.Opens e := by unfold State.Opens; rw [h1]
  rw [htop, hv]
  simp only []
  rw [if_neg (by have := h2 (fun x => x.door == .m); omega)]
  have hu : s.Opens (e.odApply 0x1110 0).pickId.2.agedEvents :=
    (he.trans (u := e.odApply 0x1110 0) (by unfold State.Opens State.odApply; split <;> rfl)).trans rfl
  exact ⟨(e.odApply 0x1110 0).pickId.2.agedEvents, ⟨(e.odApply 0x1110 0).pickId.1, _, .m, f.src.toNat, ver, fl, 0, 0, 0, true, _, _, [], none, [], 0⟩,
    _, fun s => stMsg ver 0x81 (e.odApply 0x1110 0).pickId.1 f.seq.toNat (s.openBody 0 ver (e.odApply 0x1110 0).pickId.1),
    hu, rfl, pickId_pos _, rfl⟩

theorem openReq_opens {s : State} {f : Frame} {lo hi fl resume ver : Nat} (hd : f.door = .m)
    (hv : commonVersion lo (min hi s.topVersion) = some ver) (hn : (s.mgmt.sessions.filter (fun x => x.door == .m)).length < 4) :
    s.Opens (s.openReq f lo hi fl resume) ∧ (s.openReq f lo hi fl resume).mgmt.absence = none ∧
    ∃ y ∈ (s.openReq f lo hi fl resume).mgmt.sessions, y.door = .m ∧ y.src = f.src.toNat ∧ y.ver = ver ∧ y.flags = fl ∧ y.id ≠ 0 := by
  obtain ⟨u, x, ids, body, hu, hx, hid, e⟩ := openReq_eq (resume := resume) (fl := fl) hd hv hn
  obtain ⟨g1, g2, y, hy, hw⟩ := opened1_spec u x ids f.src.toNat body resume
  rw [hx] at hw
  unfold Session.who at hw
  simp only [Prod.mk.injEq] at hw
  obtain ⟨w1, w2, w3, w4, w5⟩ := hw
  rw [e]
  exact ⟨hu.trans g1, g2, y, hy, w1, w2, w3, w4, w5 ▸ hid⟩

theorem commonVersion_le {lo hi ver : Nat} (h : commonVersion lo hi = some ver) : commonVersion lo (min hi 3) = some ver := by
  rw [← h]
  unfold commonVersion
  simp [List.find?_cons]

theorem stanReq_receive {s : State} {f : Frame} {q : SReq} (hs : s.served f.door = true) (ha : s.accepts f = true) (hd : f.door = .m)
    (hh : s.handing = false) : stanReq f q s = .next (s.receive f q) := by
  unfold stanReq
  rw [hs, ha, hd]
  simp [hh]

theorem receive_open {s : State} {f : Frame} {a b c d : Nat} (hs : f.sound = true) (hf : f.formed = true) (hc : c ≤ 1) :
    s.receive f (.open_ a b c d) = s.openReq f a b c d := by
  unfold State.receive
  have hr : (SReq.open_ a b c d).reservedSet = false := by simp [SReq.reservedSet]; omega
  simp [hs, hf, hr, SReq.fits, SReq.isAll]

theorem romServes_of_activeRuns {s : State} (h : s.activeRuns = true) : s.romServes = false := by
  unfold State.romServes State.noFirmware
  unfold State.activeRuns at h
  cases hb : s.fw.bActive <;> rw [hb] at h <;> simp [h]

theorem openSession_eq {s : State} {f : Frame} {lo hi fl : BitVec 8} {resume : BitVec 32} (hs : s.served f.door = true)
    (ha : s.accepts f = true) (hd : f.door = .m) (hh : s.handing = false) (hso : f.sound = true) (hf : f.formed = true) (hfl : fl.toNat ≤ 1) :
    exec (.openSession f lo hi fl resume) s = .next (s.openReq f lo.toNat hi.toNat fl.toNat resume.toNat) := by
  show stanReq f _ s = _
  rw [stanReq_receive hs ha hd hh, receive_open hso hf hfl]

/-! ### The port's own events -/

theorem served_of_activeRuns {s : State} (h : s.activeRuns = true) (d : Door) : s.served d = true := by
  unfold State.served
  rw [h]
  rfl

theorem stanReq_refused {s : State} {f : Frame} (q : SReq) (h : s.accepts f = false) : stanReq f q s = .next s := by
  unfold stanReq
  simp [h]

/-- The bytes of the mailbox's next slot (R495). -/
def State.nextSlot (s : State) : List Byte :=
  (List.range 0x600).map (fun i => tget (0 : Byte) s.mgmt.mbx.reqSlots (0x600 * (s.mgmt.mbx.reqHead % 4) + i))

/-- A handover holds the mailbox's next request (R487). -/
theorem stanReq_held {s : State} {f : Frame} (q : SReq) (hd : f.door = .h) (ha : s.activeRuns = true) (hh : s.handing = true)
    (hm : s.mgmt.mbx.reqTail ≠ s.mgmt.mbx.reqHead) :
    stanReq f q s = .next { s with mgmt := { s.mgmt with
      mbx := { s.mgmt.mbx with reqHead := (s.mgmt.mbx.reqHead + 1) % 65536 }, held := s.mgmt.held ++ (slotReq s.nextSlot).toList } } := by
  have hn : s.mbxNext = (slotReq s.nextSlot, s.mgmtSet (fun m => { m with mbx := { s.mgmt.mbx with reqHead := (s.mgmt.mbx.reqHead + 1) % 65536 } })) := rfl
  have hx : s.accepts f = true := by unfold State.accepts; simp [hd]
  have hc : (!s.served f.door || !s.accepts f || (f.door == .h && s.mgmt.mbx.reqTail == s.mgmt.mbx.reqHead)) = false := by
    simp [served_of_activeRuns ha, hx, hm]
  unfold stanReq
  simp only []
  rw [if_neg (by rw [hc]; decide), hd, if_pos (by decide), hn]
  cases slotReq s.nextSlot with
  | none => simp only [Option.toList_none, List.append_nil]; rfl
  | some r => exact if_pos hh

theorem discover_eq {s : State} (src dst : BitVec 48) (h : s.activeRuns = true) :
    exec (.discover src dst true true) s = .next (if dst.toNat = broadcast then
      s.mgmtSet (fun m => { m with discovers := m.discovers ++ [src.toNat] }) else s) := by
  show execDiscover src dst true true s = _
  unfold execDiscover
  rw [served_of_activeRuns h]
  simp only [Bool.not_true, Bool.false_or, Bool.false_eq_true, if_false]
  by_cases hb : dst.toNat = broadcast
  · rw [if_pos hb, if_neg (by simp [hb])]
    exact if_pos (by simp [hb])
  · rw [if_neg hb]
    split
    · rfl
    · exact if_neg (by simpa using hb)

/-- A field behind the first k bytes of a message. -/
theorem fieldAt_skip (k n : Nat) (rest : List Byte) (i w : Nat) : fieldAt (leBytes k n ++ rest) (k + i) w = fieldAt rest i w := by
  rw [fieldAt_append_right (by simp), length_leBytes, Nat.add_sub_cancel_left]

theorem fieldAt_first (k n : Nat) (rest : List Byte) : fieldAt (leBytes k n ++ rest) 0 k = n % 256 ^ k := by
  rw [fieldAt_append_left (by simp), fieldAt_leBytes]

theorem stMsg_type (ver typ sess seq : Nat) (body : List Byte) : fieldAt (framed (stMsg ver typ sess seq body)) 1 1 = typ % 256 := by
  unfold framed stMsg
  simp only [List.append_assoc]
  exact (fieldAt_skip 1 ver _ 0 1).trans (fieldAt_first 1 typ _)

theorem stMsg_body (ver typ sess seq x : Nat) (rest : List Byte) :
    fieldAt (framed (stMsg ver typ sess seq (leBytes 8 x ++ rest))) 8 8 = x % 2 ^ 64 := by
  unfold framed stMsg
  simp only [List.append_assoc]
  refine (fieldAt_skip 1 ver _ 7 8).trans ((fieldAt_skip 1 typ _ 6 8).trans ((fieldAt_skip 2 sess _ 4 8).trans
    ((fieldAt_skip 2 seq _ 2 8).trans ((fieldAt_skip 2 _ _ 0 8).trans ?_))))
  exact fieldAt_word _ _

theorem announce_eq {s : State} {d : Nat} {rest : List Nat} (h : s.activeRuns = true) (ho : s.odPending 0x1112 0 = none)
    (hd : s.mgmt.discovers = d :: rest) :
    ∃ more, exec .announce s = .next ({ s with mgmt := { s.mgmt with discovers := rest }, out := s.out ++ [.stanan d
      (framed (stMsg s.topVersion 0x41 0 0 (leBytes 8 s.serial ++ more)))] }) := by
  have ho' : State.odPending (s.mgmtSet (fun m => { m with discovers := rest })) 0x1112 0 = none := ho
  have e : exec .announce s = .next ((s.mgmtSet (fun m => { m with discovers := rest })).announceTo d) := by
    show execAnnounce s = _
    unfold execAnnounce
    rw [served_of_activeRuns h, hd]
    rfl
  unfold State.announceTo at e
  rw [odApply_none ho'] at e
  simp only [List.append_assoc] at e
  exact ⟨_, e⟩

theorem sessionTimeout_eq {s : State} {id : BitVec 16} {x : Session} (h : s.session? id.toNat = some x) :
    exec (.sessionTimeout id) s = if s.now ≥ x.heard + x.timeout * 1_000_000_000 then .next (s.endSession x.id) else .next s := by
  show execSessionTimeout id s = _
  unfold execSessionTimeout
  rw [h]

theorem session?_id {s : State} {id : Nat} {x : Session} (h : s.session? id = some x) : x.id = id := by
  have := List.find?_some h
  simpa using this

theorem endSession_some {s : State} {id : Nat} {x : Session} (h : s.session? id = some x) :
    (s.endSession id).mgmt.sessions = s.mgmt.sessions.filter (fun y => y.id != id) := by
  unfold State.endSession
  rw [h]
  simp only []
  split <;> rfl

theorem session?_updSession {s : State} {id : Nat} {x : Session} {f : Session → Session} (h : s.session? id = some x) (hf : (f x).id = x.id) :
    (s.updSession id f).session? id = some (f x) :=
  find?_updFirst f h (by rw [hf, session?_id h]; exact beq_self_eq_true id)

theorem reqTail_takes {s : State} {t : Nat} (h4 : (t + 65536 - s.mgmt.mbx.reqHead) % 65536 ≤ 4)
    (h : (s.mgmt.mbx.reqTail + 65536 - s.mgmt.mbx.reqHead) % 65536 ≤ (t + 65536 - s.mgmt.mbx.reqHead) % 65536) :
    s.reqTail t = { s with mgmt := { s.mgmt with mbx := { s.mgmt.mbx with reqTail := t } } } := by
  unfold State.reqTail
  exact if_pos (by simp [h4, h])

theorem reqTail_refused {s : State} {t : Nat} (h4 : 4 < (t + 65536 - s.mgmt.mbx.reqHead) % 65536) : s.reqTail t = s.odInc 0x1131 4 := by
  unfold State.reqTail
  exact if_neg (by simp; omega)

theorem rspHead_takes {s : State} {h : Nat}
    (hk : (h + 65536 - s.mgmt.mbx.rspHead) % 65536 ≤ (s.mgmt.mbx.rspTail + 65536 - s.mgmt.mbx.rspHead) % 65536) (hh : s.mgmt.mbx.held = []) :
    s.rspHead h = { s with mgmt := { s.mgmt with mbx := { s.mgmt.mbx with rspHead := h } } } := by
  have e : ({ s.mgmt.mbx with rspHead := h, held := [] } : Mbx) = { s.mgmt.mbx with rspHead := h } := by rw [← hh]
  unfold State.rspHead
  refine (if_pos hk).trans ?_
  unfold State.mbxFlush
  rw [show (s.mgmtSet (fun m => { m with mbx := { s.mgmt.mbx with rspHead := h } })).mgmt.mbx.held = [] from hh]
  exact congrArg (fun b => ({ s with mgmt := { s.mgmt with mbx := b } } : State)) e

theorem earlyRun_none {s : State} {id : Nat} {x : Session} (k : Nat) (h : s.session? id = some x) (he : x.early = []) : State.earlyRun k id s = s := by
  cases k with
  | zero => rfl
  | succ k =>
    unfold State.earlyRun
    simp [h, he]

theorem snapshotLatch_eq {s : State} {id : BitVec 16} {x : Session} {u : Xfer} (h : s.session? id.toNat = some x) (hx : x.xfer = some u)
    (hw : u.write = false) (hi : u.index = 0xA002) (hl : u.latched = false) : exec (.snapshotLatch id) s = .next (s.latched x u) := by
  show execSnapshotLatch id s = _
  unfold execSnapshotLatch
  rw [h]
  simp only [hx]
  exact if_neg (by simp [hw, hi, hl])

theorem plcaTake_none {s : State} (h2 : s.odPending 0x1102 0 = none) (h4 : s.odPending 0x1104 0 = none) (h5 : s.odPending 0x1105 0 = none) :
    s.plcaTake = { s with mgmt := { s.mgmt with plcaId := s.plcaPick, plcaTimer := s.odNum 0x1104 0, plcaBurst := s.odNum 0x1105 0 } } := by
  have ha : s.odApplyAll [(0x1102, 0), (0x1104, 0), (0x1105, 0)] = s := by
    show ((s.odApply 0x1102 0).odApply 0x1104 0).odApply 0x1105 0 = s
    rw [odApply_none h2, odApply_none h4, odApply_none h5]
  unfold State.plcaTake
  simp only [ha]

end Sys2Proof.Machine

namespace Sys2Proof.Proofs
open Sys2Proof.Machine

/-- Settles O47: an OPEN adds its session and what follows leaves who is open as it is; each of the port's own events has one effect. -/
theorem portEvents : Obligations.PortEvents := by
  unfold Obligations.PortEvents
  intro s
  refine ⟨?_, ?_, ?_, ?_, ?_, ?_, ?_, ?_, ?_, ?_, ?_, ?_, ?_⟩
  · intro f lo hi fl resume ver ha hh hd hacc hso hf hfl hv hn
    have htop : s.topVersion = 3 := by unfold State.topVersion; rw [romServes_of_activeRuns ha]; rfl
    obtain ⟨h1, h2, x, hx, h3⟩ := openReq_opens (resume := resume.toNat) (fl := fl.toNat) (s := s) hd
      (htop ▸ commonVersion_le hv) hn
    refine ⟨_, openSession_eq (served_of_activeRuns ha _) hacc hd hh hso hf hfl, ⟨x, hx, h3⟩, h2, ?_, ?_⟩
    · rw [h1]
    · rw [h1]
  · intro f lo hi fl resume hr hh hd hacc hso hf hfl hlo hhi hn
    have htop : s.topVersion = 1 := by unfold State.topVersion; rw [hr]; rfl
    have hv : commonVersion lo.toNat (min hi.toNat s.topVersion) = some 1 := by
      have hlo : lo.toNat ≤ 1 := hlo
      have hhi : 1 ≤ hi.toNat := hhi
      rw [htop, Nat.min_eq_right hhi]
      unfold commonVersion
      simp [hlo]
    have hs : s.served f.door = true := by unfold State.served; simp [hr, hd]
    obtain ⟨-, -, x, hx, h3⟩ := openReq_opens (resume := resume.toNat) (fl := fl.toNat) (s := s) hd hv hn
    exact ⟨_, openSession_eq hs hacc hd hh hso hf hfl, x, hx, h3⟩
  · intro src dst ha
    exact ⟨fun h => ⟨_, discover_eq src dst ha, if_pos h⟩, fun h => ⟨_, discover_eq src dst ha, if_neg h⟩⟩
  · intro f _ ha
    exact ⟨⟨_, stanReq_refused _ ha, rfl⟩, ⟨_, stanReq_refused _ ha, rfl⟩, ⟨_, stanReq_refused _ ha, rfl⟩⟩
  · intro f hd ha hh hm
    exact ⟨⟨_, stanReq_held _ hd ha hh hm, rfl⟩, ⟨_, stanReq_held _ hd ha hh hm, rfl⟩⟩
  · intro d rest ha ho hd
    obtain ⟨more, e⟩ := announce_eq ha ho hd
    exact ⟨_, e, rfl, _, rfl, stMsg_type _ _ _ _ _, stMsg_body _ _ _ _ _ _⟩
  · intro id n x e hx hd he hak hse hfl ha hnow
    refine ⟨_, ?_, rfl⟩
    show execEventResend id n s = _
    unfold execEventResend
    rw [hx, he]
    refine (if_pos (by simp [hak, hse, hfl, ha, hnow])).trans ?_
    rw [hd]
    rfl
  · intro id x hx
    have hid := session?_id hx
    refine ⟨fun h => ⟨_, (sessionTimeout_eq hx).trans (if_pos h), (endSession_sessions s x.id).1, ?_, fun y hy hne => ?_⟩,
      fun h => ⟨_, (sessionTimeout_eq hx).trans (if_neg (by omega)), rfl⟩⟩
    · unfold State.session?
      rw [hid, endSession_some hx]
      simp
    · rw [hid, endSession_some hx]
      simp [hy, hne]
  · intro id x u hx hu
    have hb : (s.session? id.toNat).bind (·.xfer) = some u := by rw [hx]; exact hu
    refine ⟨fun h => ⟨s.updSession id.toNat (fun x => { x with xfer := none }), ?_, rfl, session?_updSession hx rfl⟩, fun h => ⟨s, ?_, rfl⟩⟩
    · show execSegmentIdleTimeout id s = _
      unfold execSegmentIdleTimeout
      rw [hb]
      exact if_pos h
    · show execSegmentIdleTimeout id s = _
      unfold execSegmentIdleTimeout
      rw [hb]
      exact if_neg (by omega)
  · intro ha h2 h4 h5
    refine ⟨_, if_pos ha, ?_⟩
    rw [plcaTake_none h2 h4 h5]
    rfl
  · exact ⟨_, rfl, rfl⟩
  · intro v b k
    refine ⟨fun h4 h => ⟨_, rfl, reqTail_takes h4 h⟩, fun h4 => ⟨_, rfl, ?_, ?_⟩, fun hk hh => ⟨_, rfl, rspHead_takes hk hh⟩⟩
    · rw [reqTail_refused h4]
      rfl
    · rw [reqTail_refused h4]
      exact odNum_odInc_same s 4 (by decide)
  · intro id x u hx hu hw hi hl he
    have hid := session?_id hx
    have hy := session?_updSession (f := fun z => { z with xfer := some { u with latched := true, value := s.snapshot x.door (fieldAt u.value 0 2) } }) hx rfl
    refine ⟨_, snapshotLatch_eq hx hu hw hi hl, ?_⟩
    unfold State.latched
    rw [hid, earlyRun_none 9 hy he]
    exact ⟨rfl, _, hy, rfl⟩

end Sys2Proof.Proofs

/-! SUPPORT. What a packet on its way leaves of the dictionary and of the clocks. -/
namespace Sys2Proof.Machine

/-- The elements that a packet on its way may count in or put in force: those of reports, of routing, of requests and of flow control. -/
def Routed (i : Nat) : Prop :=
  Noisy i ∨ i ∈ [0x4403, 0x4416, 0x4420, 0x4421, 0x4422, 0x4423, 0x4800, 0x4801, 0x4807, 0x4810]

/-- The clocks but for event crossings, and the dictionary but for the elements of packets on their way. -/
def State.Carries (s t : State) : Prop :=
  t.clk = { s.clk with xing := t.clk.xing } ∧
  ∀ i j, j < 256 → ¬ Routed i → t.odGet i j = s.odGet i j ∧ t.odPending i j = s.odPending i j

namespace State.Carries

theorem refl (s : State) : s.Carries s := ⟨rfl, fun _ _ _ _ => ⟨rfl, rfl⟩⟩

theorem trans {s t u : State} (h : s.Carries t) (g : t.Carries u) : s.Carries u := by
  obtain ⟨h1, h2⟩ := h
  obtain ⟨g1, g2⟩ := g
  refine ⟨?_, fun i j hj hi => ⟨(g2 i j hj hi).1.trans (h2 i j hj hi).1, (g2 i j hj hi).2.trans (h2 i j hj hi).2⟩⟩
  rw [g1, h1]

theorem of_same {s t : State} (hc : t.clk = s.clk) (ho : t.od = s.od) : s.Carries t :=
  ⟨by rw [hc], fun i j _ _ => ⟨by unfold State.odGet; rw [ho], by unfold State.odPending; rw [ho]⟩⟩

theorem of_reports {s t : State} (h : s.Reports t) : s.Carries t := by
  refine ⟨?_, fun i j hj hi => h.2 i j hj (fun e => hi (.inl e))⟩
  have := congrArg State.clk h.1
  exact this

theorem odGet {s t : State} (h : s.Carries t) {i j : Nat} (hj : j < 256) (hi : ¬ Routed i) : t.odGet i j = s.odGet i j := (h.2 i j hj hi).1
theorem odNum {s t : State} (h : s.Carries t) {i j : Nat} (hj : j < 256) (hi : ¬ Routed i) : t.odNum i j = s.odNum i j := by
  unfold State.odNum; rw [h.odGet hj hi]

theorem foldl {α : Type} {f : State → α → State} (h : ∀ (s : State) a, s.Carries (f s a)) (l : List α) (s : State) :
    s.Carries (l.foldl f s) := by
  induction l generalizing s with
  | nil => exact refl s
  | cons a l ih => exact (h s a).trans (ih _)

theorem withFabric {s t : State} (h : s.Carries t) (f : Fabric) : s.Carries { t with fabric := f } := h.trans (of_same rfl rfl)

theorem ite {s t u : State} {c : Prop} [Decidable c] (h : s.Carries t) (g : s.Carries u) : s.Carries (if c then t else u) := by
  split
  · exact h
  · exact g

end State.Carries

theorem odSetN_carries {s : State} {i k n : Nat} (hi : Routed i) (hk : k < 256) : s.Carries (s.odSetN i k n) :=
  ⟨rfl, fun _ _ hj ha => ⟨odGet_odSetN_other s n (odKey_ne hk hj (fun e => ha (e ▸ hi))), rfl⟩⟩

theorem odInc_carries {s : State} {i k : Nat} (hi : Routed i) (hk : k < 256) : s.Carries (s.odInc i k) := odSetN_carries hi hk

theorem odApply_carries {s : State} {i k : Nat} (hi : Routed i) (hk : k < 256) : s.Carries (s.odApply i k) := by
  refine ⟨by rw [odApply_od], fun a j hj ha => ?_⟩
  have hne := odKey_ne hk hj (fun e : a = i => ha (e ▸ hi))
  exact ⟨odGet_odApply_other s hne, by rw [odPending_odApply, if_neg hne]⟩

theorem linkTx_carries (s : State) (n : Nat) (p : Pkt) : s.Carries (s.linkTx n p) := .of_same rfl rfl

theorem sendBodies_carries (n k : Nat) (s : State) (bs : List Body) : s.Carries (State.sendBodies n k s bs) := by
  induction k generalizing s bs with
  | zero => exact .refl s
  | succ k ih =>
    unfold State.sendBodies
    split
    · exact .refl s
    · exact State.Carries.trans (t := s.sendPair n (bs.take 5)) (.of_same rfl rfl) (ih _ _)

theorem drainTx_carries (n : Nat) (q : List Pkt) (a : State × List Pkt × List Pkt) :
    a.1.Carries (q.foldl (fun (a : State × List Pkt × List Pkt) p =>
      if a.2.1.any (fun x => x.vc == p.vc) || a.1.freeCredits n p.vc < p.slots then (a.1, a.2.1 ++ [p], a.2.2)
      else (a.1.linkTx n p, a.2.1, a.2.2 ++ [p])) a).1 := by
  induction q generalizing a with
  | nil => exact .refl _
  | cons p q ih =>
    rw [List.foldl_cons]
    split
    · exact ih _
    · exact (linkTx_carries a.1 n p).trans (ih _)

theorem drainLink_carries (s : State) (n : Nat) : s.Carries (s.drainLink n) := by
  unfold State.drainLink
  split
  · exact .refl s
  · refine (drainTx_carries n (s.link n).txq (s, [], [])).trans (State.Carries.trans ?_ (sendBodies_carries _ _ _ _))
    exact .of_same rfl rfl

theorem linkPut_carries (s : State) (n : Nat) (p : Pkt) : s.Carries (s.linkPut n p) := by
  have h1 := odApply_carries (s := s) (i := 0x4800) (k := 0) (.inr (by decide)) (by decide)
  unfold State.linkPut
  simp only []
  generalize s.odApply 0x4800 0 = t at h1
  refine h1.trans (State.Carries.trans ?_ (drainLink_carries _ _))
  refine State.Carries.trans (t := if _ then _ else t) ?_ (.of_same rfl rfl)
  split
  · have h2 := (odInc_carries (s := t) (i := 0x4810) (k := 1) (.inr (by decide)) (by decide)).trans
      (odApply_carries (i := 0x4807) (k := 0) (.inr (by decide)) (by decide))
    refine h2.trans ?_
    split
    · exact ((State.Carries.refl _).withFabric _).trans (.of_reports (lilac_reports _ _ _ _ _ _ _))
    · exact (State.Carries.refl _).withFabric _
  · exact .refl t

theorem way_lost {s : State} {p : Pkt} {k : Nat} (h : s.way p = .lost k) : k < 256 := by
  unfold State.way at h
  simp only [] at h
  repeat' split at h
  all_goals cases h
  all_goals decide

theorem routeOnce_carries (s : State) (p : Pkt) : s.Carries (s.routeOnce p).1 := by
  have h1 := odApply_carries (s := s) (i := 0x4403) (k := 0) (.inr (by decide)) (by decide)
  unfold State.routeOnce
  simp only []
  generalize s.odApply 0x4403 0 = t at h1
  refine h1.trans ?_
  cases hw : t.way p with
  | deliver => exact .of_same rfl rfl
  | unreachable =>
    simp only []
    split
    · exact odInc_carries (i := 0x4416) (k := 1) (.inr (by decide)) (by decide)
    · exact .refl t
  | lost k =>
    simp only []
    exact odInc_carries (i := 0x4416) (k := k) (.inr (by decide)) (way_lost hw)
  | hop n q =>
    simp only []
    exact linkPut_carries t n q

theorem route_carries (s : State) (p : Pkt) : s.Carries (s.route p) := by
  have h1 := routeOnce_carries s p
  unfold State.route
  cases hr : s.routeOnce p with
  | mk t o =>
    rw [hr] at h1
    cases o with
    | none => exact h1
    | some r => exact h1.trans (routeOnce_carries t r)

theorem limiterFor_carries (s : State) (p : Pkt) : s.Carries (s.limiterFor p) := by
  have h := odApply_carries (s := s) (i := 0x4801) (k := 0) (.inr (by decide)) (by decide)
  unfold State.limiterFor
  refine .ite (.refl s) ?_
  simp only []
  generalize s.odApply 0x4801 0 = t at h
  exact h.withFabric _

theorem draw_carries {s t : State} {p : Pkt} (h : s.draw p = some t) : s.Carries t := by
  unfold State.draw at h
  simp only [] at h
  split at h
  · split at h
    · cases h
    · rw [← Option.some.inj h]
      exact (State.Carries.refl s).withFabric _
  · split at h
    · cases h
    · rw [← Option.some.inj h]
      exact ((State.Carries.refl s).withFabric _).trans (odInc_carries (.inr (by decide)) (by decide))

theorem keyCached_carries (s : State) (p : Pkt) (part : Nat) : s.Carries (s.keyCached p part) := by
  unfold State.keyCached
  simp only []
  repeat' split
  all_goals exact .of_same rfl rfl

theorem tryInject_carries {s t : State} {p : Pkt} (h : s.tryInject p = some t) : s.Carries t := by
  unfold State.tryInject at h
  split at h
  · cases h
  · obtain ⟨u, hu, rfl⟩ := Option.map_eq_some_iff.mp h
    exact (((limiterFor_carries s p).trans (draw_carries hu)).trans (keyCached_carries _ _ _)).trans (route_carries _ _)

theorem injectNow_carries (s : State) (p : Pkt) : s.Carries (s.injectNow p) := by
  unfold State.injectNow
  split
  · exact .of_same rfl rfl
  · split
    · next h => exact tryInject_carries h
    · exact .of_same rfl rfl

theorem inject_carries (s : State) (p : Pkt) : s.Carries (s.inject p) := by
  unfold State.inject
  split
  · exact .of_same rfl rfl
  · split
    · exact .refl s
    · exact injectNow_carries s p

theorem issueReq_carries (s : State) (r : Req) : s.Carries (s.issueReq r) := by
  have h1 : s.Carries (s.odApplyAll [(0x4420, 0), (0x4421, 0), (0x4422, 0), (0x4423, 0)]) :=
    (((odApply_carries (s := s) (i := 0x4420) (k := 0) (.inr (by decide)) (by decide)).trans
      (odApply_carries (i := 0x4421) (k := 0) (.inr (by decide)) (by decide))).trans
      (odApply_carries (i := 0x4422) (k := 0) (.inr (by decide)) (by decide))).trans
      (odApply_carries (i := 0x4423) (k := 0) (.inr (by decide)) (by decide))
  unfold State.issueReq
  simp only []
  generalize s.odApplyAll _ = t at h1
  refine h1.trans ?_
  have hs : ∀ f, t.Carries (t.setFlow f) := fun _ => .of_same rfl rfl
  exact .ite ((hs _).withFabric _) (((hs _).withFabric _).trans (inject_carries _ _))

theorem request_carries (s : State) (owner : ReqOwner) (p : Pkt) : s.Carries (s.request owner p) := by
  unfold State.request
  simp only []
  split
  · exact issueReq_carries s _
  · exact .of_same rfl rfl

end Sys2Proof.Machine

/-! SUPPORT. What the ceiling, its reports to the pace group and the gating leave alone. -/
namespace Sys2Proof.Machine

/-- The elements that pace messages and the limit write: those of packets on their way, the limit in force, the pace settings and counts. -/
def Paced (i : Nat) : Prop := Routed i ∨ i ∈ [0x3003, 0x3013, 0x3014, 0x3015, 0x3016]

/-- What a change of the ceiling or of the limit leaves: memory, cores, all state but that of packets and reports, and of the power state
all but the ceiling, the pace group's frequencies and the duty. -/
structure State.Paces (s t : State) : Prop where
  rest : ({ t with power := s.power } : State).calm = s.calm
  clk : t.clk = { s.clk with xing := t.clk.xing }
  power : t.power = { s.power with ceil := t.power.ceil, next := t.power.next, above := t.power.above, sent := t.power.sent,
                                   broken := t.power.broken, gate := t.power.gate }
  quiet : ∀ i j, j < 256 → ¬ Paced i → t.odGet i j = s.odGet i j ∧ t.odPending i j = s.odPending i j

namespace State.Paces

theorem refl (s : State) : s.Paces s := ⟨rfl, rfl, rfl, fun _ _ _ _ => ⟨rfl, rfl⟩⟩

theorem trans {s t u : State} (h : s.Paces t) (g : t.Paces u) : s.Paces u := by
  refine ⟨?_, ?_, ?_, fun i j hj hi => ⟨(g.quiet i j hj hi).1.trans (h.quiet i j hj hi).1,
    (g.quiet i j hj hi).2.trans (h.quiet i j hj hi).2⟩⟩
  · have h1 := h.rest
    have g1 := congrArg (fun x : State => { x with power := s.power }) g.rest
    exact Eq.trans g1 h1
  · rw [g.clk, h.clk]
  · rw [g.power, h.power]

/-- Packets and reports alone. -/
theorem of_carries {s t : State} (hc : t.calm = s.calm) (h : s.Carries t) : s.Paces t := by
  refine ⟨?_, h.1, ?_, fun i j hj hi => h.2 i j hj (fun e => hi (.inl e))⟩
  · have := congrArg (fun x : State => { x with power := s.power }) hc
    exact this
  · have : t.power = s.power := show t.calm.power = s.calm.power by rw [hc]
    rw [this]

theorem odNum {s t : State} (h : s.Paces t) {i j : Nat} (hj : j < 256) (hi : ¬ Paced i) : t.odNum i j = s.odNum i j := by
  unfold State.odNum; rw [(h.quiet i j hj hi).1]

theorem mem {s t : State} (h : s.Paces t) : t.mem = s.mem := show ({ t with power := s.power } : State).calm.mem = s.calm.mem by rw [h.rest]
theorem cores {s t : State} (h : s.Paces t) : t.cores = s.cores := show ({ t with power := s.power } : State).calm.cores = s.calm.cores by rw [h.rest]
theorem life {s t : State} (h : s.Paces t) : t.life = s.life := show ({ t with power := s.power } : State).calm.life = s.calm.life by rw [h.rest]
theorem thermal {s t : State} (h : s.Paces t) : t.thermal = s.thermal := show ({ t with power := s.power } : State).calm.thermal = s.calm.thermal by rw [h.rest]
theorem fw {s t : State} (h : s.Paces t) : t.fw = s.fw := show ({ t with power := s.power } : State).calm.fw = s.calm.fw by rw [h.rest]

theorem foldl {α : Type} {f : State → α → State} (h : ∀ (s : State) a, s.Paces (f s a)) (l : List α) (s : State) : s.Paces (l.foldl f s) := by
  induction l generalizing s with
  | nil => exact refl s
  | cons a l ih => exact (h s a).trans (ih _)

end State.Paces

theorem odSetN_paces {s : State} {i k n : Nat} (hi : Paced i) (hk : k < 256) : s.Paces (s.odSetN i k n) :=
  ⟨rfl, rfl, rfl, fun _ _ hj ha => ⟨odGet_odSetN_other s n (odKey_ne hk hj (fun e => ha (e ▸ hi))), rfl⟩⟩

theorem odInc_paces {s : State} {i k : Nat} (hi : Paced i) (hk : k < 256) : s.Paces (s.odInc i k) := odSetN_paces hi hk

theorem odApply_paces {s : State} {i k : Nat} (hi : Paced i) (hk : k < 256) : s.Paces (s.odApply i k) := by
  refine ⟨by rw [odApply_od]; rfl, by rw [odApply_od], by rw [odApply_od], fun a j hj ha => ?_⟩
  have hne := odKey_ne hk hj (fun e : a = i => ha (e ▸ hi))
  exact ⟨odGet_odApply_other s hne, by rw [odPending_odApply, if_neg hne]⟩

/-- A change of the power state alone. -/
theorem pwr_paces (s : State) {f : Power → Power}
    (h : ∀ p, f p = { p with ceil := (f p).ceil, next := (f p).next, above := (f p).above, sent := (f p).sent, broken := (f p).broken,
                             gate := (f p).gate }) : s.Paces (s.pwr f) :=
  ⟨rfl, rfl, h s.power, fun _ _ _ _ => ⟨rfl, rfl⟩⟩

theorem reports_paces {s t : State} (hc : t.calm = s.calm) (h : s.Reports t) : s.Paces t := .of_carries hc (.of_reports h)

theorem paceSend_paces (s : State) (g ref kind freq tick : Nat) : s.Paces (s.paceSend g ref kind freq tick) :=
  .of_carries (State.request_calm _ _ _) (request_carries _ _ _)

theorem setsDown_paces (s : State) (g freq tick : Nat) : s.Paces (s.setsDown g freq tick) :=
  .foldl (fun s r => paceSend_paces s g r 2 freq tick) _ s

theorem leaderSet_paces (s : State) (g m : Nat) : s.Paces (s.leaderSet g m) :=
  ((odApply_paces (i := 0x3013) (k := 0) (.inr (by decide)) (by decide)).trans (pwr_paces _ (fun _ => rfl))).trans (setsDown_paces _ _ _ _)

theorem sendReport_paces (s : State) : s.Paces s.sendReport := by
  unfold State.sendReport
  split
  · exact .refl s
  · split
    · exact .refl s
    · exact ((odApply_paces (i := 0x3015) (k := 0) (.inr (by decide)) (by decide)).trans (pwr_paces _ (fun _ => rfl))).trans
        (paceSend_paces _ _ _ _ _ _)

theorem paceEval_paces (s : State) : s.Paces s.paceEval := by
  have h := odApply_paces (s := s) (i := 0x3014) (k := 0) (.inr (by decide)) (by decide)
  unfold State.paceEval
  split
  · exact .refl s
  · split
    · refine h.trans ?_
      simp only []
      split
      · exact leaderSet_paces _ _ _
      · split <;> exact pwr_paces _ (fun _ => rfl)
    · split
      · exact .refl s
      · exact sendReport_paces s

theorem ceilingNow_paces (s : State) : s.Paces s.ceilingNow :=
  (pwr_paces s (f := fun p => { p with ceil := s.ceiling }) (fun _ => rfl)).trans (paceEval_paces _)

theorem regate_paces (s : State) : s.Paces s.regate := by
  unfold State.regate
  split
  · exact .refl s
  · exact pwr_paces _ (fun _ => rfl)

theorem lockstepNow_paces (s : State) : s.Paces s.lockstepNow := by
  unfold State.lockstepNow
  simp only []
  split
  · exact ((pwr_paces s (fun _ => rfl)).trans (odInc_paces (i := 0x3016) (k := 3) (.inr (by decide)) (by decide))).trans
      (reports_paces (State.lilac_calm _ _ _ _ _ _ _) (lilac_reports _ _ _ _ _ _ _))
  · exact pwr_paces s (fun _ => rfl)

theorem limitNow_paces (s : State) : s.Paces s.limitNow := by
  unfold State.limitNow
  simp only []
  generalize s.wattLimit * 2 ^ 16 + _ = v
  split
  · exact .refl s
  · exact (((odSetN_paces (i := 0x3003) (k := 0) (.inr (by decide)) (by decide)).trans (ceilingNow_paces _)).trans (regate_paces _)).trans
      (lockstepNow_paces _)

/-! ### The rows of temperatures and of the leak loop -/

/-- What these rows write of the dictionary: reports, the service state's causes, pace messages, the records of faults, and a list of their own. -/
def Cooled (own : List Nat) (i : Nat) : Prop := Posted i ∨ Paced i ∨ i ∈ [0x7000, 0x7010, 0x7011] ∨ i ∈ own

/-- Everything is kept but packets, reports, power, the service state, what the thermal state holds of single samples, and the dictionary's
elements of these rows. -/
structure State.Keeps (own : List Nat) (s t : State) : Prop where
  rest : ({ t with power := s.power, life := s.life, thermal := s.thermal } : State).calm = s.calm
  ceil : t.power.thermCeil = s.power.thermCeil
  held : t.thermal.held = s.thermal.held
  begun : t.life.begun = s.life.begun
  quiet : ∀ i j, j < 256 → ¬ Cooled own i → t.odNum i j = s.odNum i j

namespace State.Keeps
variable {own : List Nat}

theorem refl (s : State) : s.Keeps own s := ⟨rfl, rfl, rfl, rfl, fun _ _ _ _ => rfl⟩

theorem trans {s t u : State} (h : s.Keeps own t) (g : t.Keeps own u) : s.Keeps own u := by
  refine ⟨?_, g.ceil.trans h.ceil, g.held.trans h.held, g.begun.trans h.begun, fun i j hj hi => (g.quiet i j hj hi).trans (h.quiet i j hj hi)⟩
  have h1 := h.rest
  have g1 := congrArg (fun x : State => { x with power := s.power, life := s.life, thermal := s.thermal }) g.rest
  exact Eq.trans g1 h1

theorem of_posts {s t : State} (h : s.Posts t) : s.Keeps own t := by
  refine ⟨?_, ?_, ?_, ?_, fun i j hj hi => h.odNum hj (fun e => hi (.inl e))⟩ <;> rw [h.1] <;> rfl

theorem of_reports {s t : State} (h : s.Reports t) : s.Keeps own t := of_posts (.of_reports h)

theorem of_paces {s t : State} (h : s.Paces t) : s.Keeps own t := by
  refine ⟨?_, ?_, ?_, ?_, fun i j hj hi => h.odNum hj (fun e => hi (.inr (.inl e)))⟩
  · have := congrArg (fun x : State => { x with power := s.power, life := s.life, thermal := s.thermal }) h.rest
    exact this
  · rw [h.power]
  · rw [h.thermal]
  · rw [h.life]

theorem cores {s t : State} (h : s.Keeps own t) : t.cores = s.cores :=
  show ({ t with power := s.power, life := s.life, thermal := s.thermal } : State).calm.cores = s.calm.cores by rw [h.rest]
theorem fw {s t : State} (h : s.Keeps own t) : t.fw = s.fw :=
  show ({ t with power := s.power, life := s.life, thermal := s.thermal } : State).calm.fw = s.calm.fw by rw [h.rest]
theorem handing {s t : State} (h : s.Keeps own t) : t.handing = s.handing := by
  unfold State.handing
  rw [h.fw]

theorem odSetN {s : State} {i k n : Nat} (hi : Cooled own i) (hk : k < 256) : s.Keeps own (s.odSetN i k n) := by
  refine ⟨rfl, rfl, rfl, rfl, fun a j hj ha => ?_⟩
  have hne := odKey_ne hk hj (fun e : a = i => ha (e ▸ hi))
  unfold State.odNum
  rw [odGet_odSetN_other s n hne]

theorem odInc {s : State} {i k : Nat} (hi : Cooled own i) (hk : k < 256) : s.Keeps own (s.odInc i k) := odSetN hi hk

theorem odApply {s : State} {i k : Nat} (hi : Cooled own i) (hk : k < 256) : s.Keeps own (s.odApply i k) := by
  refine ⟨by rw [odApply_od]; rfl, by rw [odApply_od], by rw [odApply_od], by rw [odApply_od], fun a j hj ha => ?_⟩
  unfold State.odNum
  rw [odGet_odApply_other s (odKey_ne hk hj (fun e : a = i => ha (e ▸ hi)))]

theorem thm (s : State) {f : Thermal → Thermal} (h : ∀ x, (f x).held = x.held) : s.Keeps own (s.thm f) :=
  ⟨rfl, rfl, h _, rfl, fun _ _ _ _ => rfl⟩

theorem pwr (s : State) {f : Power → Power} (h : ∀ x, (f x).thermCeil = x.thermCeil) : s.Keeps own (s.pwr f) :=
  ⟨rfl, h _, rfl, rfl, fun _ _ _ _ => rfl⟩

theorem lifeSet (s : State) {f : Life → Life} (h : ∀ x, (f x).begun = x.begun) : s.Keeps own (s.lifeSet f) :=
  ⟨rfl, rfl, rfl, h _, fun _ _ _ _ => rfl⟩

theorem free (s : State) (w : Nat) : s.Keeps own (s.freeVal w).2 := ⟨rfl, rfl, rfl, rfl, fun _ _ _ _ => rfl⟩

theorem foldl {α : Type} {f : State → α → State} {l : List α} (h : ∀ (s : State), ∀ a ∈ l, s.Keeps own (f s a)) (s : State) :
    s.Keeps own (l.foldl f s) := by
  induction l generalizing s with
  | nil => exact refl s
  | cons a l ih => exact (h s a List.mem_cons_self).trans (ih (fun s b hb => h s b (List.mem_cons_of_mem _ hb)) _)

end State.Keeps

section
variable {own : List Nat}

theorem faultRecord_keeps (s : State) {code : Nat} (hc : code < 256) (action kind target : Nat) (part : Option Nat) (esc : Bool) (detail : Nat) :
    s.Keeps own (s.faultRecord code action kind target part esc detail) := by
  have hw : ∀ v, s.Keeps own (s.odSet 0x7010 (s.odNum 0x7000 0 % 65536 % 64 + 1) v) := fun v =>
    ⟨rfl, rfl, rfl, rfl, fun i j hj hi => by
      unfold State.odNum
      rw [State.odGet_odSet_other _ _ (odKey_ne (by omega) hj (fun e => hi (.inr (.inr (.inl (by simp [e]))))))]⟩
  unfold State.faultRecord State.faultRecordAs
  simp only []
  exact ((((hw _).trans (.odInc (.inr (.inr (.inl (by decide)))) (by decide))).trans (.odInc (.inr (.inr (.inl (by decide)))) hc)).trans
    (.of_reports (raise_reports _ _ _ _ _))).trans (.of_reports (lilac_reports _ _ _ _ _ _ _))

theorem physicalFault_keeps (s : State) (cause elem idx sub : Nat) : s.Keeps own (s.physicalFault cause elem idx sub) :=
  (State.Keeps.of_reports (raise_reports _ _ _ _ _)).trans (faultRecord_keeps _ (by decide) _ _ _ _ _ _)

theorem progress_keeps (s : State) (k : Nat) (h : Cooled own 0x2003) : s.Keeps own (s.progress k) := .odSetN h (by decide)

theorem sensorAmber_posts (s : State) : s.Posts s.sensorAmber := amber_posts _ _ _

theorem powerOff_keeps (s : State) (cause elem : Nat) : s.Keeps own (s.powerOff cause elem) := by
  unfold State.powerOff
  split
  · exact .refl s
  · exact ((State.Keeps.lifeSet s (by intro; rfl)).trans (.pwr _ (by intro; rfl))).trans (.of_posts (alertSet_posts _ _ _))

theorem tripCheck_keeps (s : State) (z : Nat) : s.Keeps own (s.tripCheck z) := by
  unfold State.tripCheck
  simp only []
  split
  · exact (State.Keeps.thm s (by intro; rfl)).trans (powerOff_keeps _ _ _)
  · exact .thm s (by intro; rfl)

theorem readings_keeps (s : State) (l : List Int) (h : Cooled own 0x3400) : s.Keeps own (s.readings l) :=
  .foldl (fun s k hk => .odSetN h (by have := List.mem_range.mp hk; omega)) s

theorem readSensors_keeps (s : State) (predicted : List Int) (h : Cooled own 0x3401) : s.Keeps own (s.readSensors predicted) := by
  refine State.Keeps.trans (.foldl (fun s k hk => ?_) s) (.of_posts (sensorAmber_posts _))
  have hk : k + 1 < 256 := by have := List.mem_range.mp hk; omega
  simp only []
  split
  · exact .refl s
  · split
    · exact (State.Keeps.odSetN h hk).trans (.thm _ (by intro; rfl))
    · exact (State.Keeps.odSetN h hk).trans (.thm _ (by intro; rfl))

theorem estimate_keeps (s : State) (h1 : Cooled own 0x3411) (h0 : Cooled own 0x3410) (h3 : Cooled own 0x2003) : s.Keeps own s.estimate := by
  have h := (State.Keeps.odInc (s := s) h1 (k := 0) (by decide))
  unfold State.estimate
  simp only []
  generalize s.odInc 0x3411 0 = t at h
  refine h.trans ?_
  generalize ofSigned 32 _ = v
  split
  · exact (State.Keeps.odSetN h0 (by decide)).trans (progress_keeps _ _ h3)
  · exact .odSetN h0 (by decide)

theorem flowEstimate_keeps (s : State) (h1 : Cooled own 0x3421) (h0 : Cooled own 0x3420) : s.Keeps own s.flowEstimate := by
  have h := (State.Keeps.odApply (s := s) h1 (k := 0) (by decide))
  unfold State.flowEstimate
  simp only []
  generalize s.odApply 0x3421 0 = t at h
  refine h.trans ?_
  have hf : t.Keeps own (if t.outlet2 - t.inlet2 ≤ 0 then (t.freeVal 16).2.odSetN 0x3420 0 (t.freeVal 16).1
      else t.odSetN 0x3420 0 (min 65535 (t.odNum 0x3001 0 * 400_000 / (13 * (t.outlet2 - t.inlet2).toNat)))) := by
    split
    · exact (State.Keeps.free t 16).trans (.odSetN h0 (by decide))
    · exact .odSetN h0 (by decide)
  generalize (if t.outlet2 - t.inlet2 ≤ 0 then _ else _) = u at hf
  refine hf.trans ?_
  split <;> exact .thm _ (by intro; rfl)

theorem cycles_keeps (s : State) {z : Nat} (hz : z < 5) (h : Cooled own 0x3430) : s.Keeps own (s.cycles z) := by
  unfold State.cycles
  split
  · exact .refl s
  · simp only []
    split
    · split
      · exact (State.Keeps.odInc h (by omega)).trans (.thm _ (by intro; rfl))
      · exact .thm _ (by intro; rfl)
    · split <;> exact .thm _ (by intro; rfl)

theorem inletEvent_keeps (s : State) : s.Keeps own s.inletEvent := by
  unfold State.inletEvent
  simp only []
  refine State.Keeps.trans ?_ (.thm _ (by intro; rfl))
  split
  · exact .of_reports (raise_reports _ _ _ _ _)
  · exact .refl s

end

end Sys2Proof.Machine

/-! SUPPORT. Temperatures, the leak loop and the safety power-off. -/
namespace Sys2Proof.Machine

theorem mem_of_exec {c : Instr} {s t : State} (h : exec c s = .next t) (hc : stores c = false) : t.mem = s.mem :=
  congrArg (fun k => k.2.1) (exec_kept h hc)

/-! ### Zones -/

theorem zoneSensors_lt (z : Nat) {i : Nat} (h : i ∈ zoneSensors z) : i < 256 := by
  unfold zoneSensors at h
  split at h <;> simp at h <;> omega

/-- One step of the search for a zone's hottest sensor. -/
def State.hotter (s : State) (m : Option Nat) (i : Nat) : Option Nat :=
  if s.sensorSt i = 2 then m
  else match m with
    | none => some i
    | some j => if s.temp i > s.temp j then some i else m

theorem hottest_eq (s : State) (z : Nat) : s.hottest z = (zoneSensors z).foldl s.hotter none := by
  unfold State.hottest
  congr

/-- The readings and the state of the sensors, and the limits of the zones, are the same. -/
def State.SameSensors (s t : State) : Prop :=
  ∀ i, i ∈ [0x3400, 0x3401, 0x3402] → ∀ j, j < 256 → t.odNum i j = s.odNum i j

theorem temp_congr {s t : State} (h : s.SameSensors t) {j : Nat} (hj : j < 256) : t.temp j = s.temp j := by
  unfold State.temp
  rw [h 0x3400 (by decide) j hj]

theorem sensorSt_congr {s t : State} (h : s.SameSensors t) {j : Nat} (hj : j < 256) : t.sensorSt j = s.sensorSt j :=
  h 0x3401 (by decide) j hj

theorem throttle_congr {s t : State} (h : s.SameSensors t) {z : Nat} (hz : z < 5) : t.throttle z = s.throttle z := by
  unfold State.throttle
  rw [h 0x3402 (by decide) (z + 1) (by omega)]

theorem hotter_congr {s t : State} (h : s.SameSensors t) {m : Option Nat} (hm : ∀ j, m = some j → j < 256) {i : Nat} (hi : i < 256) :
    t.hotter m i = s.hotter m i ∧ ∀ j, s.hotter m i = some j → j < 256 := by
  unfold State.hotter
  rw [sensorSt_congr h hi]
  cases m with
  | none =>
    refine ⟨rfl, fun j hj => ?_⟩
    split at hj
    · cases hj
    · cases hj; exact hi
  | some k =>
    have hk := hm k rfl
    simp only []
    rw [temp_congr h hi, temp_congr h hk]
    refine ⟨rfl, fun j hj => ?_⟩
    split at hj
    · cases hj; exact hk
    · split at hj
      · cases hj; exact hi
      · cases hj; exact hk

theorem foldl_hotter_congr {s t : State} (h : s.SameSensors t) (l : List Nat) (m : Option Nat) (hl : ∀ i ∈ l, i < 256)
    (hm : ∀ j, m = some j → j < 256) :
    l.foldl t.hotter m = l.foldl s.hotter m ∧ ∀ j, l.foldl s.hotter m = some j → j < 256 := by
  induction l generalizing m with
  | nil =>
    rw [List.foldl_nil, List.foldl_nil]
    exact ⟨rfl, hm⟩
  | cons i l ih =>
    obtain ⟨h1, h2⟩ := hotter_congr h hm (hl i List.mem_cons_self)
    rw [List.foldl_cons, List.foldl_cons, h1]
    exact ih _ (fun i hi => hl i (List.mem_cons_of_mem _ hi)) h2

theorem zoneTemp_congr {s t : State} (h : s.SameSensors t) (z : Nat) : t.zoneTemp z = s.zoneTemp z := by
  obtain ⟨h1, h2⟩ := foldl_hotter_congr h (zoneSensors z) none (fun _ hi => zoneSensors_lt z hi) (by simp)
  unfold State.zoneTemp
  rw [hottest_eq, hottest_eq, h1]
  cases hm : (zoneSensors z).foldl s.hotter none with
  | none => rw [Option.map_none, Option.map_none]
  | some j => exact congrArg some (temp_congr h (h2 j hm))

theorem zoneHasFailed_congr {s t : State} (h : s.SameSensors t) (z : Nat) : t.zoneHasFailed z = s.zoneHasFailed z := by
  unfold State.zoneHasFailed
  rw [Bool.eq_iff_iff, List.any_eq_true, List.any_eq_true]
  refine exists_congr (fun i => and_congr_right (fun hi => ?_))
  rw [sensorSt_congr h (zoneSensors_lt z hi)]

/-- The step of the thermal ceiling that a state's zones ask for (R423, R434). -/
def State.thermNext (s : State) (c : Nat) : Nat :=
  let hot := (List.range 4).any (fun z => (s.zoneTemp z).any (fun x => decide (x > s.throttle z)))
  let cool := (List.range 5).all (fun z => !s.zoneHasFailed z && (s.zoneTemp z).all (fun x => decide (x + 3000 ≤ s.throttle z)))
  if hot then max 600 (c - 25) else if cool then min 2100 (c + 25) else c

theorem any_congr_range {n : Nat} {f g : Nat → Bool} (h : ∀ z, z < n → f z = g z) : (List.range n).any f = (List.range n).any g := by
  rw [Bool.eq_iff_iff, List.any_eq_true, List.any_eq_true]
  exact exists_congr (fun z => and_congr_right (fun hz => by rw [h z (List.mem_range.mp hz)]))

theorem all_congr_range {n : Nat} {f g : Nat → Bool} (h : ∀ z, z < n → f z = g z) : (List.range n).all f = (List.range n).all g := by
  rw [Bool.eq_iff_iff, List.all_eq_true, List.all_eq_true]
  exact forall_congr' (fun z => forall_congr' (fun hz => by rw [h z (List.mem_range.mp hz)]))

theorem thermNext_congr {s t : State} (h : s.SameSensors t) (c : Nat) : t.thermNext c = s.thermNext c := by
  unfold State.thermNext
  rw [any_congr_range (fun z hz => by rw [zoneTemp_congr h, throttle_congr h (show z < 5 by omega)]),
    all_congr_range (fun z hz => by rw [zoneTemp_congr h, throttle_congr h hz, zoneHasFailed_congr h])]

/-! ### The thermal sample -/

theorem readings_odNum (s : State) (l : List Int) {k : Nat} (h : k < 196) :
    (s.readings l).odNum 0x3400 (k + 1) = ofSigned 32 (getAt 0 l k) := by
  have hn : ∀ (n : Nat) (s : State), k < n →
      ((List.range n).foldl (fun s k => s.odSetN 0x3400 (k + 1) (ofSigned 32 (getAt 0 l k))) s).odNum 0x3400 (k + 1) = ofSigned 32 (getAt 0 l k) := by
    intro n
    induction n with
    | zero => intro _ h; omega
    | succ n ih =>
      intro s hk
      rw [List.range_succ, List.foldl_append, List.foldl_cons, List.foldl_nil]
      by_cases e : k = n
      · rw [e, State.odNum_odSetN_same]
      · unfold State.odNum
        rw [odGet_odSetN_other _ _ (odKey_ne_sub (by omega))]
        exact ih s (by omega)
  exact hn 196 s h

/-- What the evaluation of a thermal sample writes of the dictionary. -/
def thermalOwn : List Nat := [0x3400, 0x3401, 0x3402, 0x3410, 0x3411, 0x2003, 0x3420, 0x3421, 0x3430]

/-- The same but for the readings. -/
def evaluatedOwn : List Nat := [0x3401, 0x3402, 0x3410, 0x3411, 0x2003, 0x3420, 0x3421, 0x3430]

theorem cooled_own {own : List Nat} {i : Nat} (h : i ∈ own) : Cooled own i := .inr (.inr (.inr h))

theorem not_cooled {own : List Nat} {i : Nat} (h : ¬ (i ∈ [0x7820, 0xA200, 0x1122, 0x2000, 0x2002, 0x2005, 0x4403, 0x4416, 0x4420, 0x4421, 0x4422,
    0x4423, 0x4800, 0x4801, 0x4807, 0x4810, 0x3003, 0x3013, 0x3014, 0x3015, 0x3016, 0x7000, 0x7010, 0x7011] ∨ i ∈ own)) : ¬ Cooled own i := by
  unfold Cooled Posted Paced Routed Noisy
  simp only [List.mem_cons, List.not_mem_nil, or_false] at h ⊢
  tauto

theorem Cooled.mono {own more : List Nat} (h : own ⊆ more) {i : Nat} (hi : Cooled own i) : Cooled more i := by
  rcases hi with h1 | h1 | h1 | h1
  · exact .inl h1
  · exact .inr (.inl h1)
  · exact .inr (.inr (.inl h1))
  · exact cooled_own (h h1)

theorem State.Keeps.mono {own more : List Nat} (h : own ⊆ more) {s t : State} (hk : s.Keeps own t) : s.Keeps more t :=
  ⟨hk.rest, hk.ceil, hk.held, hk.begun, fun i j hj hi => hk.quiet i j hj (fun e => hi (e.mono h))⟩

/-- The safety monitor's part of a thermal sample. -/
def State.monitored (s : State) (l : List Int) : State := (List.range 5).foldl State.tripCheck (s.readings l)

theorem monitored_keeps (s : State) (l : List Int) : s.Keeps thermalOwn (s.monitored l) :=
  (readings_keeps s l (cooled_own (by decide))).trans (.foldl (fun s z _ => tripCheck_keeps s z) _)

theorem monitored_readings (s : State) (l : List Int) {k : Nat} (h : k < 196) :
    (s.monitored l).odNum 0x3400 (k + 1) = ofSigned 32 (getAt 0 l k) := by
  have hk : (s.readings l).Keeps [] (s.monitored l) := .foldl (fun s z _ => tripCheck_keeps s z) _
  rw [hk.quiet 0x3400 (k + 1) (by omega) (not_cooled (by decide)), readings_odNum s l h]

/-- The zones' limits as they stand at the sample. -/
def State.limitsTaken (s : State) : State := (List.range 5).foldl (fun s z => s.odApply 0x3402 (z + 1)) s

theorem thermalStep_eq (s : State) :
    s.thermalStep = s.limitsTaken.pwr (fun p => { p with thermCeil := s.limitsTaken.thermNext s.limitsTaken.power.thermCeil }) := by
  unfold State.thermalStep State.thermNext State.limitsTaken
  simp only []

/-- The evaluation up to the ceiling's step. -/
def State.evaluated (s : State) (l pr : List Int) : State :=
  ((List.range 5).foldl State.cycles ((((s.readings l).readSensors pr).estimate).flowEstimate)).limitsTaken

theorem evaluated_keeps (s : State) (l pr : List Int) : (s.readings l).Keeps evaluatedOwn (s.evaluated l pr) := by
  refine State.Keeps.trans (State.Keeps.trans (State.Keeps.trans (State.Keeps.trans
    (readSensors_keeps _ pr (cooled_own (by decide))) (estimate_keeps _ (cooled_own (by decide)) (cooled_own (by decide)) (cooled_own (by decide))))
    (flowEstimate_keeps _ (cooled_own (by decide)) (cooled_own (by decide)))) (.foldl (fun s z hz => ?_) _)) (.foldl (fun s z hz => ?_) _)
  · exact cycles_keeps s (List.mem_range.mp hz) (cooled_own (by decide))
  · exact .odApply (cooled_own (by decide)) (by have := List.mem_range.mp hz; omega)

theorem odNum_pwr (s : State) (f : Power → Power) (i j : Nat) : (s.pwr f).odNum i j = s.odNum i j := rfl
theorem cores_pwr (s : State) (f : Power → Power) : (s.pwr f).cores = s.cores := rfl

/-- What an evaluated sample leaves: the thermal ceiling has moved by the step that the zones ask for. -/
theorem evalTemps_spec (s : State) (l pr : List Int) :
    (s.evalTemps l pr).cores = s.cores ∧
    (∀ k, k < 196 → (s.evalTemps l pr).odNum 0x3400 (k + 1) = ofSigned 32 (getAt 0 l k)) ∧
    (s.evalTemps l pr).power.thermCeil = (s.evalTemps l pr).thermNext s.power.thermCeil := by
  have he : s.Keeps thermalOwn (s.evaluated l pr) :=
    (readings_keeps s l (cooled_own (by decide))).trans ((evaluated_keeps s l pr).mono (by decide))
  have hx : s.evalTemps l pr = (((s.evaluated l pr).pwr (fun p =>
      { p with thermCeil := (s.evaluated l pr).thermNext (s.evaluated l pr).power.thermCeil })).inletEvent).ceilingNow := by
    unfold State.evalTemps State.evaluated
    simp only []
    rw [thermalStep_eq]
  generalize hv : (s.evaluated l pr).pwr (fun p =>
    { p with thermCeil := (s.evaluated l pr).thermNext (s.evaluated l pr).power.thermCeil }) = v at hx
  have hlast : v.Keeps [] (s.evalTemps l pr) := by
    rw [hx]
    exact (inletEvent_keeps v).trans (.of_paces (ceilingNow_paces _))
  have hod : ∀ i j, v.odNum i j = (s.evaluated l pr).odNum i j := by intro i j; rw [← hv, odNum_pwr]
  have hsame : (s.evaluated l pr).SameSensors (s.evalTemps l pr) := by
    intro i hi j hj
    refine (hlast.quiet i j hj (not_cooled ?_)).trans (hod i j)
    simp only [List.mem_cons, List.not_mem_nil, or_false] at hi ⊢
    omega
  refine ⟨?_, fun k hk => ?_, ?_⟩
  · rw [hlast.cores, ← hv, cores_pwr, he.cores]
  · rw [hsame 0x3400 (by decide) (k + 1) (by omega), (evaluated_keeps s l pr).quiet 0x3400 (k + 1) (by omega) (not_cooled (by decide)),
      readings_odNum s l hk]
  · rw [hlast.ceil, ← hv, thermNext_congr hsame, ← he.ceil, State.power_pwr]

theorem thermalSample_eq {s : State} (l pr : List Int) (h : s.life.powerGood = true) :
    exec (.thermalSample l pr) s = .next (if (s.monitored l).life.begun = false then s.monitored l
      else if (s.monitored l).handing then (s.monitored l).holdSample (.temps l pr) else (s.monitored l).evalTemps l pr) := by
  show execThermalSample l pr s = _
  unfold execThermalSample State.monitored
  simp only [h, Bool.not_true, Bool.false_eq_true, if_false]
  generalize (List.range 5).foldl State.tripCheck (s.readings l) = u
  cases hb : u.life.begun with
  | false => rfl
  | true => rfl

/-! ### Sensors, flow, absence, telemetry -/

/-- A sensor has failed: its status, the amber cause, the fault (R436). -/
def State.sensorDown (s : State) (i : Nat) : State :=
  (((s.odSetN 0x3401 i 2).thm (fun h => { h with suspectAt := tdel h.suspectAt i })).sensorAmber).physicalFault 1 i 0x3401 i

theorem sensorDown_keeps (s : State) (i : Nat) : (s.odSetN 0x3401 i 2).Keeps [] (s.sensorDown i) :=
  ((State.Keeps.thm _ (by intro; rfl)).trans (.of_posts (sensorAmber_posts _))).trans (physicalFault_keeps _ _ _ _ _)

/-- With both sensors of a coolant pair failed, the pair's fault and the limit. -/
def State.pairDown (s : State) (i : Nat) : State :=
  if (zoneOf i = 4 && s.inletFailed) || (zoneOf i = 3 && s.outletFailed) then (s.physicalFault 5 i 0x3401 i).limitNow else s

theorem pairDown_keeps (s : State) (i : Nat) : s.Keeps [] (s.pairDown i) := by
  unfold State.pairDown
  split
  · exact (physicalFault_keeps _ _ _ _ _).trans (.of_paces (limitNow_paces _))
  · exact .refl s

theorem sensorFailed_eq {s : State} {k : Fin 196} {since : Nat} (h : tfind s.thermal.suspectAt (k + 1) = some since)
    (hs : s.sensorSt (k + 1) = 1) (hn : since + 2_000_000_000 ≤ s.now) (h200 : 200 ≤ s.odNum 0x3411 0) (hh : s.handing = false) :
    exec (.sensorFailed k) s = .next ((s.sensorDown (k + 1)).pairDown (k + 1)) := by
  have hc : (decide (s.sensorSt (k.val + 1) ≠ 1) || decide (s.now < since + 2_000_000_000) || decide (s.odNum 0x3411 0 < 200) || s.handing) = false := by
    simp only [hs, hh, ne_eq, not_true_eq_false, decide_false, Bool.false_or, Bool.or_false, Bool.or_eq_false_iff, decide_eq_false_iff_not]
    omega
  show execSensorFailed k s = _
  unfold execSensorFailed
  simp only []
  rw [h]
  exact if_neg (by rw [hc]; decide)

theorem sendTo_nextEvent (s : State) (door : Door) (src : Nat) (m : List Byte) : (s.sendTo door src m).mgmt.nextEvent = s.mgmt.nextEvent := by
  cases door with
  | m => rfl
  | h =>
    show (s.mbxPut m).mgmt.nextEvent = _
    unfold State.mbxPut
    simp only []
    split
    · rw [pulse_mgmt]
    · rfl

theorem foldl_mgmt {α β : Type} {g : State → β} {f : State → α → State} (h : ∀ s a, g (f s a) = g s) (l : List α) (s : State) :
    g (l.foldl f s) = g s := by
  induction l generalizing s with
  | nil => rfl
  | cons a l ih => exact (ih _).trans (h s a)

theorem deliverOne_nextEvent (s : State) (x : Session) : (s.deliverOne x).mgmt.nextEvent = s.mgmt.nextEvent := by
  unfold State.deliverOne
  split
  · exact foldl_mgmt (g := fun s => s.mgmt.nextEvent) (fun s e => sendTo_nextEvent s _ _ _) _ s
  · rfl

theorem raise_nextEvent (s : State) (code idx sub detail : Nat) :
    (s.raise code idx sub detail).mgmt.nextEvent = (s.mgmt.nextEvent + 1) % 2 ^ 32 := by
  unfold State.raise State.deliver
  simp only []
  refine (foldl_mgmt (g := fun s => s.mgmt.nextEvent) deliverOne_nextEvent _ _).trans ?_
  split <;> rfl

theorem lowFlow_eq {s : State} {since : Nat} (h : s.thermal.lowSince = some since) (ht : s.thermal.lowTold = false)
    (hn : since + 5_000_000_000 ≤ s.now) :
    exec .lowFlow s = .next ((s.thm (fun h => { h with lowTold := true })).raise 0x0009 0x3420 0 0) := by
  show execLowFlow s = _
  unfold execLowFlow
  rw [h]
  exact if_neg (by simp [ht]; omega)

theorem enter_causes {s : State} (v : Svc) (h : s.life.svc ≠ .grey) : (s.enter v false).odNum 0x2002 0 = s.odNum 0x2002 0 := by
  unfold State.enter
  split
  · rfl
  simp only [h, if_false, Bool.false_eq_true]
  have hn : ¬ Noisy 0x2002 := by unfold Noisy; omega
  rw [(raise_reports _ _ _ _ _).odNum (by decide) hn,
    (State.Reports.foldl (fun s k => fnEvent_reports s k 3) _ _).odNum (by decide) hn]
  unfold State.odNum
  rw [odGet_odSetN_other _ _ (odKey_ne (by decide) (by decide) (by decide))]
  rfl

theorem amber_causes (s : State) (b : Nat) (on : Bool) : (s.amber b on).odNum 0x2002 0 = withBit b on (s.odNum 0x2002 0) := by
  unfold State.amber
  simp only [Bool.and_eq_true, decide_eq_true_eq]
  split
  · next h => rw [enter_causes _ (by rw [h.1]; decide), State.odNum_odSetN_same]
  · split
    · next h => rw [enter_causes _ (by rw [h.1]; decide), State.odNum_odSetN_same]
    · rw [State.odNum_odSetN_same]

theorem managerAbsenceExpiry_eq {s : State} (h : s.odPending 0x3461 0 = none) (ha : s.mgmt.absence ≠ none)
    (hs : s.odNum 0x3461 0 ≤ s.absenceSeconds) : exec .managerAbsenceExpiry s = .next (s.amber 12 true) := by
  show execManagerAbsenceExpiry s = _
  unfold execManagerAbsenceExpiry
  rw [odApply_none h]
  exact if_pos (by simp [Option.isSome_iff_ne_none, ha, hs])

/-- The record of a telemetry sample (R497). -/
def State.telemNow (s : State) : Telem :=
  ⟨s.fab, s.odNum 0x3001 0, s.odNum 0x3003 0, (List.range 5).map (fun z => (s.zoneTemp z).getD (s.throttle z))⟩

theorem telemetrySample_eq (s : State) : exec .telemetrySample s = .next { s with mgmt := { s.mgmt with
    telem := (s.mgmt.telem ++ [s.telemNow]).drop ((s.mgmt.telem ++ [s.telemNow]).length - 60) } } := rfl

theorem getLast?_last60 {α : Type} (l : List α) (a : α) : ((l ++ [a]).drop ((l ++ [a]).length - 60)).getLast? = some a := by
  rw [List.drop_append_of_le_length (by simp), List.getLast?_append]
  rfl

/-! ### The leak loop -/

theorem powerOff_eq {s : State} (cause elem : Nat) (ho : s.life.offRuns = false) (hm : s.life.mainSwitch = true) :
    s.powerOff cause elem = ((s.lifeSet (fun l => { l with safety := cause * 2 ^ 24 + elem, safetyAt := s.now, safetyStored := false, offRuns := true })).pwr
      (fun p => { p with gate := 16 })).alertSet 2 true := by
  unfold State.powerOff
  exact if_neg (by simp [ho, hm])

theorem alertSet_same (s : State) (b : Nat) (on : Bool) :
    (s.alertSet b on).power = s.power ∧ (s.alertSet b on).thermal = s.thermal ∧ (s.alertSet b on).life.safety = s.life.safety := by
  refine ⟨?_, ?_, ?_⟩ <;> simp [State.alertSet, State.odSetN, State.alertLine]

theorem alertSet_odNum (s : State) (b : Nat) (on : Bool) (i : Nat) :
    (s.alertSet b on).odNum i 0 = if i = 0x2005 then withBit b on (s.odNum 0x2005 0) else s.odNum i 0 := by
  show (s.odSetN 0x2005 0 (withBit b on (s.odNum 0x2005 0))).odNum i 0 = _
  split
  · next e => rw [e, State.odNum_odSetN_same]
  · next e =>
    unfold State.odNum
    rw [odGet_odSetN_other _ _ (odKey_ne (by decide) (by decide) e)]

/-- What a safety power-off leaves (R442, R443). -/
theorem powerOff_spec {s : State} (cause : Nat) (ho : s.life.offRuns = false) (hm : s.life.mainSwitch = true) :
    (s.powerOff cause 0).life.safety = cause * 2 ^ 24 ∧ (s.powerOff cause 0).power = { s.power with gate := 16 } ∧
    bit 2 ((s.powerOff cause 0).odNum 0x2005 0) = true ∧ (s.powerOff cause 0).thermal = s.thermal ∧
    ∀ i, i ≠ 0x2005 → (s.powerOff cause 0).odNum i 0 = s.odNum i 0 := by
  rw [powerOff_eq cause 0 ho hm]
  generalize hu : (s.lifeSet _).pwr _ = u
  obtain ⟨hp, ht, hs⟩ := alertSet_same u 2 true
  have ho : u.od = s.od := by rw [← hu]; rfl
  have hod : ∀ i, u.odNum i 0 = s.odNum i 0 := fun i => by unfold State.odNum; rw [odGet_of_od ho]
  rw [hp, ht, hs, alertSet_odNum, if_pos rfl]
  refine ⟨by rw [← hu]; exact Nat.add_zero _, by rw [← hu]; rfl, bit_withBit_same _ _ _, by rw [← hu]; rfl, fun i hi => ?_⟩
  rw [alertSet_odNum, if_neg hi, hod]

/-- A reading that is neither open nor indeterminate begins no sensor fault. -/
theorem evalLeak_closed {s : State} {ohms : Nat} (ho : leakOpen ohms = false) (h : leakWet ohms = true ∨ leakDry ohms = true) :
    s.evalLeak ohms =
      let u := s.thm (fun t => { t with opened := 0, indet := 0, dry := t.dry && leakDry ohms })
      if s.life.begun = true ∧ leakDry ohms = true ∧ s.thermal.tested = true ∧ s.thermal.leakCause = 0 then u.odSetN 0x3441 0 1 else u := by
  have hi : (!leakWet ohms && !leakOpen ohms && !leakDry ohms) = false := by
    rcases h with h | h <;> simp [h]
  rw [ho] at hi
  unfold State.evalLeak
  simp only [ho, hi, Bool.false_eq_true, if_false]
  generalize hu : s.thm (fun t => { t with opened := 0, indet := 0, dry := t.dry && leakDry ohms }) = u
  have hb : u.life = s.life := by rw [← hu]; rfl
  have h1 : u.thermal.opened = 0 := by rw [← hu]; rfl
  have h2 : u.thermal.indet = 0 := by rw [← hu]; rfl
  have h3 : u.thermal.tested = s.thermal.tested := by rw [← hu]; rfl
  have h4 : u.thermal.leakCause = s.thermal.leakCause := by rw [← hu]; rfl
  rw [hb, h1, h2, h3, h4, if_neg (show ¬ 0 ≥ 3 by decide), if_neg (show ¬ 0 ≥ 100 by decide)]
  cases hbg : s.life.begun with
  | false => simp
  | true => simp [and_assoc]

/-- The state that a reading leaves before it is evaluated: the resistance, and the wet readings in a row. -/
def State.measured (s : State) (ohms : Nat) : State :=
  (s.odSetN 0x3440 0 (min ohms (2 ^ 32 - 1))).thm (fun t => { t with wet := if leakWet ohms then t.wet + 1 else 0 })

theorem leakMeasurement_eq {s : State} (ohms : Nat) (h : s.life.powerGood = true) :
    exec (.leakMeasurement ohms) s =
      let u := if (s.measured ohms).thermal.wet ≥ 3 then ((s.measured ohms).odSetN 0x3441 0 2).powerOff 16 0 else s.measured ohms
      .next (if u.handing then u.holdSample (.leak ohms) else u.evalLeak ohms) := by
  show execLeakMeasurement ohms s = _
  unfold execLeakMeasurement
  rw [h]
  rfl

theorem measured_odNum (s : State) {ohms : Nat} (h : ohms < 2 ^ 32) : (s.measured ohms).odNum 0x3440 0 = ohms := by
  have ho : (s.measured ohms).odNum 0x3440 0 = min ohms (2 ^ 32 - 1) := State.odNum_odSetN_same ..
  rw [ho, Nat.min_eq_left (by omega)]

theorem leak_wet {s : State} {ohms : Nat} (hp : s.life.powerGood = true) (h : ohms < 7000) (hw : 2 ≤ s.thermal.wet)
    (ho : s.life.offRuns = false) (hm : s.life.mainSwitch = true) :
    ∃ t, exec (.leakMeasurement ohms) s = .next t ∧ t.odNum 0x3440 0 = ohms ∧ t.odNum 0x3441 0 = 2 ∧ t.life.safety = 16 * 2 ^ 24 ∧
      t.power.gate = 16 ∧ bit 2 (t.odNum 0x2005 0) = true := by
  have hwet : leakWet ohms = true := by unfold leakWet; simpa using h
  have hopen : leakOpen ohms = false := by unfold leakOpen; simp; omega
  have hdry : leakDry ohms = false := by unfold leakDry; simp; omega
  have h3 : (s.measured ohms).thermal.wet ≥ 3 := by
    show (if leakWet ohms then s.thermal.wet + 1 else 0) ≥ 3
    rw [hwet, if_pos rfl]
    omega
  have e := leakMeasurement_eq ohms hp
  rw [if_pos h3] at e
  obtain ⟨p1, p2, p3, p4, p5⟩ := powerOff_spec (s := (s.measured ohms).odSetN 0x3441 0 2) 16 ho hm
  have hod : ((s.measured ohms).odSetN 0x3441 0 2).odNum 0x3440 0 = ohms := by
    refine Eq.trans ?_ (measured_odNum s (ohms := ohms) (by omega))
    unfold State.odNum
    rw [odGet_odSetN_other _ _ (odKey_ne (by decide) (by decide) (by decide))]
  have h40 := (p5 0x3440 (by decide)).trans hod
  have h41 := (p5 0x3441 (by decide)).trans (State.odNum_odSetN_same ..)
  generalize ((s.measured ohms).odSetN 0x3441 0 2).powerOff 16 0 = u at *
  refine ⟨_, e, ?_⟩
  have hg : u.power.gate = 16 := by rw [p2]
  split
  · exact ⟨h40, h41, p1, hg, p3⟩
  · rw [evalLeak_closed hopen (.inl hwet)]
    simp only [hdry, Bool.false_eq_true, false_and, and_false, if_false]
    exact ⟨h40, h41, p1, hg, p3⟩

theorem leak_dry {s : State} {ohms : Nat} (hp : s.life.powerGood = true) (h1 : 8500 ≤ ohms) (h2 : ohms ≤ 11_500) (hb : s.life.begun = true)
    (ht : s.thermal.tested = true) (hc : s.thermal.leakCause = 0) :
    ∃ t, exec (.leakMeasurement ohms) s = .next t ∧ t.odNum 0x3440 0 = ohms ∧ (s.handing = false → t.odNum 0x3441 0 = 1) ∧
      (s.handing = true → t.thermal.held = s.thermal.held ++ [.leak ohms]) ∧ t.thermal.wet = 0 ∧ t.life = s.life := by
  have hwet : leakWet ohms = false := by unfold leakWet; simp; omega
  have hopen : leakOpen ohms = false := by unfold leakOpen; simp; omega
  have hdry : leakDry ohms = true := by unfold leakDry; simp; omega
  have hw : (s.measured ohms).thermal.wet = 0 := by
    show (if leakWet ohms then s.thermal.wet + 1 else 0) = 0
    rw [hwet]
    rfl
  have e := leakMeasurement_eq ohms hp
  have h3 : ¬ (s.measured ohms).thermal.wet ≥ 3 := by rw [hw]; decide
  rw [if_neg h3] at e
  have h40 := measured_odNum s (ohms := ohms) (by omega)
  have hl : (s.measured ohms).life = s.life := rfl
  have hh : (s.measured ohms).handing = s.handing := rfl
  have hheld : (s.measured ohms).thermal.held = s.thermal.held := rfl
  have ht' : (s.measured ohms).thermal.tested = true := ht
  have hc' : (s.measured ohms).thermal.leakCause = 0 := hc
  generalize s.measured ohms = u at *
  refine ⟨_, e, ?_⟩
  simp only [hh]
  cases hhd : s.handing with
  | true =>
    rw [if_pos rfl]
    exact ⟨h40, fun h => absurd h (by decide), fun _ => congrArg (· ++ [_]) hheld, hw, hl⟩
  | false =>
    rw [if_neg (by decide), evalLeak_closed hopen (.inr hdry)]
    simp only []
    rw [if_pos ⟨by rw [hl]; exact hb, hdry, ht', hc'⟩]
    refine ⟨?_, fun _ => State.odNum_odSetN_same .., fun h => absurd h (by decide), hw, hl⟩
    unfold State.odNum
    rw [odGet_odSetN_other _ _ (odKey_ne (by decide) (by decide) (by decide))]
    exact h40

/-! ### The leak self-test -/

theorem leakNear_both (low high : Nat) : (leakNear 10_000 low && leakNear 1_000_000 high) = true ↔
    9_500 ≤ low ∧ low ≤ 10_500 ∧ 950_000 ≤ high ∧ high ≤ 1_050_000 := by
  unfold leakNear
  simp only [Bool.and_eq_true, decide_eq_true_eq]
  omega

theorem leakSelfTest_eq {s : State} (low high : Nat) (hb : s.life.begun = true) (hh : s.handing = false) :
    exec (.leakSelfTest low high) s = .next (s.evalSelfTest (leakNear 10_000 low && leakNear 1_000_000 high)) := by
  show execLeakSelfTest low high s = _
  unfold execLeakSelfTest
  rw [hb, hh]
  rfl

/-- A self-test is counted, and bring-up has made its step. -/
def State.selfTested (s : State) (sub : Nat) : State := (s.odInc 0x3442 sub).progress 8

theorem bit_withBit_other {k j n : Nat} (b : Bool) (h : j ≠ k) : bit j (withBit k b n) = bit j n := by
  cases b with
  | false => simp [bit_withBit_false, h]
  | true =>
    unfold withBit
    rw [if_pos rfl]
    split
    · rfl
    · next hb =>
      rw [Bool.not_eq_true] at hb
      rw [bit_eq_testBit] at hb ⊢
      have hk : (n + 2 ^ k).testBit k = true := by rw [Nat.add_comm, Nat.testBit_two_pow_add_eq, hb]; rfl
      rw [← testBit_sub_two_pow hk h, Nat.add_sub_cancel, bit_eq_testBit]

theorem selfTested_odNum (s : State) {sub : Nat} (h : sub < 256) :
    (s.selfTested sub).odNum 0x3442 sub = (s.odNum 0x3442 sub + 1) % 2 ^ 64 ∧ bit 8 ((s.selfTested sub).odNum 0x2003 0) = true := by
  unfold State.selfTested State.progress
  refine ⟨?_, ?_⟩
  · rw [← odNum_odInc_same s sub (i := 0x3442) (by decide)]
    unfold State.odNum
    rw [odGet_odSetN_other _ _ (odKey_ne (by decide) h (by decide))]
  · rw [State.odNum_odSetN_same, bit_withBit_other _ (by decide), bit_withBit_other _ (by decide), bit_withBit_same]

theorem State.Reports.thermal {s t : State} (h : s.Reports t) : t.thermal = s.thermal := by rw [h.1]

theorem faultRecord_thermal (s : State) (code action kind target : Nat) (part : Option Nat) (esc : Bool) (detail : Nat) :
    (s.faultRecord code action kind target part esc detail).thermal = s.thermal := by
  unfold State.faultRecord State.faultRecordAs
  simp only []
  rw [(lilac_reports _ _ _ _ _ _ _).thermal, (raise_reports _ _ _ _ _).thermal]
  simp [State.odInc, State.odAdd, State.odSetN]

theorem physicalFault_thermal (s : State) (cause elem idx sub : Nat) : (s.physicalFault cause elem idx sub).thermal = s.thermal := by
  unfold State.physicalFault
  rw [faultRecord_thermal, (raise_reports _ _ _ _ _).thermal]

theorem sensorAmber_thermal (s : State) : s.sensorAmber.thermal = s.thermal := by rw [(sensorAmber_posts s).1]

/-- What follows the row of a leak-loop sensor fault: the alert, the amber cause, the fault, the limit. -/
def State.leakReported (s : State) (cause : Nat) : State := (((s.alertSet 1 true).sensorAmber).physicalFault cause 0 0x3441 0).limitNow

theorem leakReported_keeps (s : State) (cause : Nat) : s.Keeps [] (s.leakReported cause) :=
  (((State.Keeps.of_posts (alertSet_posts s 1 true)).trans (.of_posts (sensorAmber_posts _))).trans (physicalFault_keeps _ _ _ _ _)).trans
    (.of_paces (limitNow_paces _))

theorem leakReported_thermal (s : State) (cause : Nat) : (s.leakReported cause).thermal = s.thermal := by
  unfold State.leakReported
  rw [(limitNow_paces _).thermal, physicalFault_thermal, sensorAmber_thermal, (alertSet_same s 1 true).2.1]

/-- A sensor fault of the leak loop begins (R441). -/
theorem leakFault_spec (s : State) (cause : Nat) :
    s.Keeps [0x3441] (s.leakFault cause) ∧
    (s.thermal.leakCause = 0 → (s.leakFault cause).thermal.leakCause = cause ∧ (s.leakFault cause).odNum 0x3441 0 = 3) := by
  unfold State.leakFault
  generalize hu : (s.odSetN 0x3441 0 3).thm (fun t => { t with leakCause := cause, passes := 0, dry := cause == 4 }) = u
  have hk : s.Keeps [0x3441] u := by
    rw [← hu]
    exact (State.Keeps.odSetN (cooled_own (by decide)) (by decide)).trans (.thm _ (by intro; rfl))
  have ht : u.thermal.leakCause = cause := by rw [← hu]; rfl
  have ho : u.odNum 0x3441 0 = 3 := by rw [← hu]; exact State.odNum_odSetN_same ..
  split
  · next h => exact ⟨.refl s, fun h0 => absurd h (by simp [h0])⟩
  · show s.Keeps [0x3441] (u.leakReported cause) ∧ (_ → (u.leakReported cause).thermal.leakCause = _ ∧ (u.leakReported cause).odNum 0x3441 0 = 3)
    refine ⟨hk.trans ((leakReported_keeps u cause).mono (by decide)), fun _ => ⟨?_, ?_⟩⟩
    · rw [leakReported_thermal, ht]
    · rw [(leakReported_keeps u cause).quiet 0x3441 0 (by decide) (not_cooled (by decide)), ho]

theorem evalSelfTest_fails (s : State) :
    (s.selfTested 2).Keeps [0x3441] (s.evalSelfTest false) ∧
    (s.thermal.leakCause = 0 → (s.evalSelfTest false).thermal.leakCause = 4 ∧ (s.evalSelfTest false).odNum 0x3441 0 = 3) := by
  have e : s.evalSelfTest false = ((s.selfTested 2).thm (fun t => { t with passes := 0, dry := true })).leakFault 4 := rfl
  obtain ⟨h1, h2⟩ := leakFault_spec ((s.selfTested 2).thm (fun t => { t with passes := 0, dry := true })) 4
  rw [e]
  exact ⟨(State.Keeps.thm _ (by intro; rfl)).trans h1, h2⟩

/-- A sensor fault of the leak loop is cleared (R441). -/
def State.leakCleared (s : State) : State :=
  ((((s.thm (fun t => { t with leakCause := 0 })).odSetN 0x3441 0 1).alertSet 1 false).sensorAmber).limitNow

theorem leakCleared_keeps (s : State) : s.Keeps [0x3441] s.leakCleared :=
  ((((State.Keeps.thm s (by intro; rfl)).trans (.odSetN (cooled_own (by decide)) (by decide))).trans (.of_posts (alertSet_posts _ _ _))).trans
    (.of_posts (sensorAmber_posts _))).trans (.of_paces (limitNow_paces _))

theorem leakCleared_tested (s : State) : s.leakCleared.thermal.tested = s.thermal.tested := by
  unfold State.leakCleared
  rw [(limitNow_paces _).thermal, sensorAmber_thermal, (alertSet_same _ 1 false).2.1]
  rfl

/-- A self-test has passed, with n passes in a row. -/
def State.passed (s : State) (n : Nat) : State := s.thm (fun t => { t with tested := true, passes := n, dry := true })

theorem evalSelfTest_true (s : State) : ∃ n, s.evalSelfTest true =
    if ((s.selfTested 1).passed n).thermal.leakCause != 0 && decide (n ≥ 3) then ((s.selfTested 1).passed n).leakCleared
    else (s.selfTested 1).passed n :=
  ⟨if (s.selfTested 1).thermal.dry then (s.selfTested 1).thermal.passes + 1 else 0, rfl⟩

theorem evalSelfTest_passes (s : State) : (s.selfTested 1).Keeps [0x3441] (s.evalSelfTest true) ∧ (s.evalSelfTest true).thermal.tested = true := by
  obtain ⟨n, e⟩ := evalSelfTest_true s
  have hp : (s.selfTested 1).Keeps [0x3441] ((s.selfTested 1).passed n) := .thm _ (by intro; rfl)
  have ht : ((s.selfTested 1).passed n).thermal.tested = true := rfl
  rw [e]
  split
  · exact ⟨hp.trans (leakCleared_keeps _), (leakCleared_tested _).trans ht⟩
  · exact ⟨hp, ht⟩

/-! ### The safety power-off's rows -/

theorem dieComparatorTrip_eq {s : State} (d : Fin 4) (h : s.life.powerGood = true) :
    exec (.dieComparatorTrip d) s = .next ((s.pwr (fun p => { p with dies := withBit d.val true p.dies })).powerOff 17 0) := by
  show execDieComparatorTrip d s = _
  unfold execDieComparatorTrip
  rw [h]
  rfl

/-- The event and the record of a stored cause. -/
def State.causeTold (s : State) (cause elem : Nat) : State :=
  (if cause = 16 then s.raise 0x0009 0x3441 0 (cause * 256) else s.raise 0x0009 0x3401 elem (cause * 256 + elem)).lilac 6 0x0F 0 0 (cause * 256 + elem) none

theorem causeTold_reports (s : State) (cause elem : Nat) : s.Reports (s.causeTold cause elem) := by
  unfold State.causeTold
  split
  · exact (raise_reports _ _ _ _ _).trans (lilac_reports _ _ _ _ _ _ _)
  · exact (raise_reports _ _ _ _ _).trans (lilac_reports _ _ _ _ _ _ _)

theorem safetyCauseStore_eq {s : State} (h : s.poweringOff = true) (hs : s.life.safetyStored = false) (ha : s.activeRuns = true)
    (hh : s.handing = false) :
    exec .safetyCauseStore s = .next (s.storeCause.causeTold (bits 31 24 s.life.safety) (bits 7 0 s.life.safety)) := by
  show execSafetyCauseStore s = _
  unfold execSafetyCauseStore
  rw [h, hs, ha, hh]
  rfl

/-- The highest count of an object (R508). -/
def odTop (i : Nat) : Nat := (odInfo i).elim (2 ^ 64 - 1) (fun o => o.ty.top)

theorem odNum_odAdd_top (s : State) {i : Nat} (k n top : Nat) (h : odTop i = top) (ht : top ≠ 2 ^ 64 - 1) :
    (s.odAdd i k n).odNum i k = min (s.odNum i k + n) top := by
  unfold State.odAdd
  rw [State.odNum_odSetN_same]
  unfold odTop at h
  cases ho : odInfo i with
  | none =>
    rw [ho] at h
    exact absurd h.symm ht
  | some o =>
    rw [ho] at h
    have h : o.ty.top = top := h
    show (if o.ty.top = 2 ^ 64 - 1 then _ else min _ o.ty.top) = _
    rw [h, if_neg ht]

theorem storeCause_odNum (s : State) : s.storeCause.odNum 0x3450 0 = s.life.safety ∧
    s.storeCause.odNum 0x3451 0 = min (s.odNum 0x3451 0 + 1) (2 ^ 32 - 1) := by
  have h1 : s.storeCause.odNum 0x3450 0 = ((s.odSetN 0x3450 0 s.life.safety).odInc 0x3451 0).odNum 0x3450 0 := rfl
  have h2 : s.storeCause.odNum 0x3451 0 = ((s.odSetN 0x3450 0 s.life.safety).odInc 0x3451 0).odNum 0x3451 0 := rfl
  refine ⟨?_, ?_⟩
  · rw [h1]
    unfold State.odNum
    rw [odGet_odInc_other _ (odKey_ne (by decide) (by decide) (by decide))]
    exact State.odNum_odSetN_same ..
  · rw [h2]
    refine (odNum_odAdd_top _ 0 1 (2 ^ 32 - 1) (by decide) (by decide)).trans ?_
    unfold State.odNum
    rw [odGet_odSetN_other _ _ (odKey_ne (by decide) (by decide) (by decide))]

theorem safetySwitchOpen_eq {s : State} (h : s.poweringOff = true) (hs : s.life.safetyStored = true) :
    exec .safetySwitchOpen s =
      .next (s.powerLost.lifeSet (fun l => { l with mainSwitch := false, locked := true, offRuns := false, reopened := true })) := by
  show execSafetySwitchOpen s = _
  unfold execSafetySwitchOpen
  rw [h, hs]
  rfl

theorem powerLost_gone (s : State) : s.powerLost.life.powerGood = false ∧ s.powerLost.mem = [] ∧ s.powerLost.hostMem = s.hostMem := by
  unfold State.powerLost
  simp only []
  generalize hu : ({ State.reset with pending := _, hostMem := _, free := _, out := _, od := _, clk := _, faults := _, thermal := _, fw := _, life := _ } : State) = u
  have hp : u.life.powerGood = false := by rw [← hu]
  have hm : u.mem = [] := by rw [← hu]; rfl
  have hh : u.hostMem = s.hostMem := by rw [← hu]
  have hk : ∀ n, ((u.alertSet 1 false).odSetN 0x2001 0 n).life.powerGood = false ∧ ((u.alertSet 1 false).odSetN 0x2001 0 n).mem = [] ∧
      ((u.alertSet 1 false).odSetN 0x2001 0 n).hostMem = s.hostMem := by
    intro n
    refine ⟨?_, ?_, ?_⟩ <;> simp [State.alertSet, State.odSetN, State.alertLine, hp, hm, hh]
  exact hk _

end Sys2Proof.Machine

namespace Sys2Proof.Proofs
open Sys2Proof.Machine

/-- Settles O44: what the rows of temperatures and of the leak loop write is kept by the reports, the pace messages and the limits that
follow; a safety power-off gates everything, and the open switch loses memory. -/
theorem cooling : Obligations.Cooling := by
  unfold Obligations.Cooling
  refine ⟨fun s => ⟨?_, ?_, ?_, ?_, ?_⟩, fun s => ⟨?_, ?_, ?_, ?_, ?_, ?_⟩⟩
  · intro l pr hp
    have e := thermalSample_eq l pr hp
    have hm := mem_of_exec e rfl
    have hk := monitored_keeps s l
    have hr := fun k hk => monitored_readings s l (k := k) hk
    refine ⟨_, e, hm, ?_⟩
    rw [hk.begun, hk.handing]
    generalize s.monitored l = u at hk hr ⊢
    cases hb : s.life.begun with
    | false =>
      rw [if_pos rfl]
      exact ⟨hk.cores, hr, fun h => absurd h (by decide), fun h => absurd h (by decide)⟩
    | true =>
      rw [if_neg (by decide)]
      cases hh : s.handing with
      | true =>
        rw [if_pos rfl]
        exact ⟨hk.cores, hr, fun _ _ => ⟨congrArg (· ++ [_]) hk.held, hk.ceil⟩, fun _ h => absurd h (by decide)⟩
      | false =>
        rw [if_neg (by decide)]
        obtain ⟨h1, h2, h3⟩ := evalTemps_spec u l pr
        rw [hk.ceil] at h3
        exact ⟨h1.trans hk.cores, h2, fun _ h => absurd h (by decide), fun _ _ => h3⟩
  · intro k since h hs hn h200 hh
    have e := sensorFailed_eq h hs hn h200 hh
    have hk := (sensorDown_keeps s (k + 1)).trans (pairDown_keeps _ (k + 1))
    refine ⟨_, e, ?_, fun j _ hne => ?_, mem_of_exec e rfl⟩
    · exact (hk.quiet 0x3401 (k + 1) (by omega) (not_cooled (by decide))).trans (State.odNum_odSetN_same ..)
    · have hne : j.val ≠ k.val + 1 := fun h => hne (Fin.ext (by
        have hlt : k.val + 1 < 196 := h ▸ j.isLt
        rw [h, Fin.val_add]
        exact (Nat.mod_eq_of_lt hlt).symm))
      refine (hk.quiet 0x3401 j (by omega) (not_cooled (by decide))).trans ?_
      unfold State.odNum State.sensorSt
      rw [odGet_odSetN_other _ _ (odKey_ne_sub hne)]
      rfl
  · intro since h ht hn
    have e := lowFlow_eq h ht hn
    refine ⟨_, e, ?_, raise_nextEvent _ _ _ _ _, mem_of_exec e rfl⟩
    rw [(raise_reports _ _ _ _ _).thermal]
    rfl
  · intro h ha hs
    have hp := amber_posts s 12 true
    refine ⟨_, managerAbsenceExpiry_eq h ha hs, ?_, hp.mem, ?_⟩
    · rw [amber_causes, bit_withBit_same]
    · rw [hp.1]
  · refine ⟨_, telemetrySample_eq s, rfl, ?_, ?_⟩
    · simp only [List.length_drop, List.length_append, List.length_singleton]
      omega
    · exact getLast?_last60 _ _
  · intro ohms hp h hw ho hm
    obtain ⟨t, e, h1, h2, h3, h4, h5⟩ := leak_wet hp h hw ho hm
    exact ⟨t, e, h1, h2, h3, h4, h5, mem_of_exec e rfl⟩
  · intro ohms hp h1 h2 hb ht hc
    obtain ⟨t, e, g1, g2, g3, g4, g5⟩ := leak_dry hp h1 h2 hb ht hc
    exact ⟨t, e, g1, g2, g3, g4, g5, mem_of_exec e rfl⟩
  · intro low high hb hh pass
    have hpass := leakNear_both low high
    have e := leakSelfTest_eq low high hb hh
    by_cases hc : pass
    · rw [hpass.mpr hc] at e
      obtain ⟨hk, ht⟩ := evalSelfTest_passes s
      obtain ⟨h1, h2⟩ := selfTested_odNum s (sub := 1) (by decide)
      refine ⟨_, e, ?_, ?_, fun _ => ht, fun h => absurd hc h⟩
      · rw [if_pos hc, hk.quiet 0x3442 1 (by decide) (not_cooled (by decide)), h1]
      · rw [hk.quiet 0x2003 0 (by decide) (not_cooled (by decide)), h2]
    · have hf : (leakNear 10_000 low && leakNear 1_000_000 high) = false := by
        rw [← Bool.not_eq_true, hpass]
        exact hc
      rw [hf] at e
      obtain ⟨hk, ht⟩ := evalSelfTest_fails s
      obtain ⟨h1, h2⟩ := selfTested_odNum s (sub := 2) (by decide)
      refine ⟨_, e, ?_, ?_, fun h => absurd h hc, fun _ h => ht h⟩
      · rw [if_neg hc, hk.quiet 0x3442 2 (by decide) (not_cooled (by decide)), h1]
      · rw [hk.quiet 0x2003 0 (by decide) (not_cooled (by decide)), h2]
  · intro d hp ho hm
    have e := dieComparatorTrip_eq d hp
    obtain ⟨p1, p2, p3, -, -⟩ := powerOff_spec (s := s.pwr (fun p => { p with dies := withBit d.val true p.dies })) 17 ho hm
    refine ⟨_, e, p1, by rw [p2], ?_, p3, mem_of_exec e rfl⟩
    rw [p2]
    exact bit_withBit_same d.val s.power.dies true
  · intro h hs ha hh
    have e := safetyCauseStore_eq h hs ha hh
    have hr := causeTold_reports s.storeCause (bits 31 24 s.life.safety) (bits 7 0 s.life.safety)
    obtain ⟨h1, h2⟩ := storeCause_odNum s
    refine ⟨_, e, ?_, ?_, ?_, mem_of_exec e rfl⟩
    · rw [hr.odNum (by decide) (by unfold Noisy; omega), h1]
    · rw [hr.1]
      rfl
    · rw [hr.odNum (by decide) (by unfold Noisy; omega), h2]
  · intro h hs
    obtain ⟨h1, h2, h3⟩ := powerLost_gone s
    exact ⟨_, safetySwitchOpen_eq h hs, rfl, rfl, h1, h2, h3⟩

end Sys2Proof.Proofs

/-! SUPPORT. What leaves the windows of the receiver alone: everything but arrivals. Each law is named after its operation. -/
namespace Sys2Proof.Machine

/-- The windows that the receiver keeps of its senders (R276). -/
@[reducible] def State.wins (s : State) : List Win := s.fabric.wins

theorem wins_ite (c : Prop) [Decidable c] (a b : State) :
    (if c then a else b).wins = if c then a.wins else b.wins := by split <;> rfl

theorem wins_foldl {α : Type} {f : State → α → State} {l : List α} {x s : State}
    (h : ∀ t a, (f t a).wins = t.wins) (h0 : x.wins = s.wins) : (l.foldl f x).wins = s.wins := by
  induction l generalizing x with
  | nil => exact h0
  | cons a l ih => exact ih ((h x a).trans h0)

theorem wins_withFabric (s : State) (f : Fabric) (h : f.wins = s.fabric.wins) : State.wins { s with fabric := f } = s.wins := h

theorem State.freeVal_wins (s : State) (w : Nat) :
    (State.freeVal s w).2.wins = s.wins := by
  unfold State.freeVal
  repeat' (first | with_reducible rfl | simp only [↓wins_ite, ite_self] | refine wins_foldl (fun _ _ => ?_) ?_ | split | rfl)

theorem State.keyCached_wins (s : State) (p : Pkt) (part : Nat) :
    (State.keyCached s p part).wins = s.wins := by
  unfold State.keyCached
  repeat' (first | with_reducible rfl | simp only [↓wins_ite, ite_self, ↓State.freeVal_wins] | refine wins_foldl (fun _ _ => ?_) ?_ | split | rfl)

theorem State.odSet_wins (s : State) (idx : Nat) (sub : Nat) (v : OdVal) :
    (State.odSet s idx sub v).wins = s.wins := by
  unfold State.odSet
  repeat' (first | with_reducible rfl | simp only [↓wins_ite, ite_self] | refine wins_foldl (fun _ _ => ?_) ?_ | split | rfl)

theorem State.odApply_wins (s : State) (idx : Nat) (sub : Nat) :
    (State.odApply s idx sub).wins = s.wins := by
  unfold State.odApply
  repeat' (first | with_reducible rfl | simp only [↓wins_ite, ite_self, ↓State.odSet_wins] | refine wins_foldl (fun _ _ => ?_) ?_ | split | rfl)

theorem State.limiterFor_wins (s : State) (p : Pkt) :
    (State.limiterFor s p).wins = s.wins := by
  unfold State.limiterFor
  repeat' (first | with_reducible rfl | simp only [↓wins_ite, ite_self, ↓State.odApply_wins] | refine wins_foldl (fun _ _ => ?_) ?_ | split | rfl)

theorem State.odSetN_wins (s : State) (idx : Nat) (sub : Nat) (n : Nat) :
    (State.odSetN s idx sub n).wins = s.wins := by
  unfold State.odSetN
  repeat' (first | with_reducible rfl | simp only [↓wins_ite, ite_self, ↓State.odSet_wins] | refine wins_foldl (fun _ _ => ?_) ?_ | split | rfl)

theorem State.odAdd_wins (s : State) (idx : Nat) (sub : Nat) (n : Nat) :
    (State.odAdd s idx sub n).wins = s.wins := by
  unfold State.odAdd
  repeat' (first | with_reducible rfl | simp only [↓wins_ite, ite_self, ↓State.odSetN_wins] | refine wins_foldl (fun _ _ => ?_) ?_ | split | rfl)

theorem State.odInc_wins (s : State) (idx : Nat) (sub : Nat) :
    (State.odInc s idx sub).wins = s.wins := by
  unfold State.odInc
  repeat' (first | with_reducible rfl | simp only [↓wins_ite, ite_self, ↓State.odAdd_wins] | refine wins_foldl (fun _ _ => ?_) ?_ | split | rfl)

theorem State.emit_wins (s : State) (o : Out) :
    (State.emit s o).wins = s.wins := by
  unfold State.emit
  repeat' (first | with_reducible rfl | simp only [↓wins_ite, ite_self] | refine wins_foldl (fun _ _ => ?_) ?_ | split | rfl)

theorem State.setLink_wins (s : State) (n : Nat) (l : Link) :
    (State.setLink s n l).wins = s.wins := by
  unfold State.setLink
  repeat' (first | with_reducible rfl | simp only [↓wins_ite, ite_self] | refine wins_foldl (fun _ _ => ?_) ?_ | split | rfl)

theorem State.updLink_wins (s : State) (n : Nat) (f : Link → Link) :
    (State.updLink s n f).wins = s.wins := by
  unfold State.updLink
  repeat' (first | with_reducible rfl | simp only [↓wins_ite, ite_self, ↓State.setLink_wins] | refine wins_foldl (fun _ _ => ?_) ?_ | split | rfl)

theorem State.linkTx_wins (s : State) (n : Nat) (p : Pkt) :
    (State.linkTx s n p).wins = s.wins := by
  unfold State.linkTx
  repeat' (first | with_reducible rfl | simp only [↓wins_ite, ite_self, ↓State.emit_wins, ↓State.updLink_wins] | refine wins_foldl (fun _ _ => ?_) ?_ | split | rfl)

theorem State.sendPair_wins (s : State) (n : Nat) (bs : List Body) :
    (State.sendPair s n bs).wins = s.wins := by
  unfold State.sendPair
  repeat' (first | with_reducible rfl | simp only [↓wins_ite, ite_self, ↓State.emit_wins, ↓State.setLink_wins] | refine wins_foldl (fun _ _ => ?_) ?_ | split | rfl)

theorem State.sendBodies_wins (n : Nat) (x1 : Nat) (x2 : State) (x3 : List Body) :
    (State.sendBodies n x1 x2 x3).wins = x2.wins := by
  induction x1 generalizing x2 x3 with
  | zero => rfl
  | succ k ih =>
    simp only [State.sendBodies]
    split
    · rfl
    · rw [ih, State.sendPair_wins]

theorem State.drainLink_wins (s : State) (n : Nat) :
    (State.drainLink s n).wins = s.wins := by
  have hf : ∀ (l : List Pkt) (a : State × List Pkt × List Pkt), (l.foldl (fun (a : State × List Pkt × List Pkt) p =>
      if a.2.1.any (fun x => x.vc == p.vc) || a.1.freeCredits n p.vc < p.slots then (a.1, a.2.1 ++ [p], a.2.2)
      else (a.1.linkTx n p, a.2.1, a.2.2 ++ [p])) a).1.wins = a.1.wins := by
    intro l
    induction l with
    | nil => intro a; rfl
    | cons p l ih =>
      intro a
      rw [List.foldl_cons, ih]
      split
      · rfl
      · exact State.linkTx_wins _ _ _
  unfold State.drainLink
  split
  · rfl
  · simp only [State.sendBodies_wins, State.updLink_wins, hf]

theorem State.setFn_wins (s : State) (k : Nat) (f : Fn) :
    (State.setFn s k f).wins = s.wins := by
  unfold State.setFn
  repeat' (first | with_reducible rfl | simp only [↓wins_ite, ite_self] | refine wins_foldl (fun _ _ => ?_) ?_ | split | rfl)

theorem State.msix_wins (s : State) (k : Nat) (vec : Nat) :
    (State.msix s k vec).wins = s.wins := by
  unfold State.msix
  repeat' (first | with_reducible rfl | simp only [↓wins_ite, ite_self, ↓State.emit_wins, ↓State.setFn_wins] | refine wins_foldl (fun _ _ => ?_) ?_ | split | rfl)

theorem State.fnEvent_wins (s : State) (k : Nat) (b : Nat) :
    (State.fnEvent s k b).wins = s.wins := by
  unfold State.fnEvent
  repeat' (first | with_reducible rfl | simp only [↓wins_ite, ite_self, ↓State.msix_wins, ↓State.setFn_wins] | refine wins_foldl (fun _ _ => ?_) ?_ | split | rfl)

theorem State.landed_wins (s : State) (ev : Nat) (i : Nat) :
    (State.landed s ev i).wins = s.wins := by
  unfold State.landed
  repeat' (first | with_reducible rfl | simp only [↓wins_ite, ite_self, ↓State.fnEvent_wins, ↓State.msix_wins] | refine wins_foldl (fun _ _ => ?_) ?_ | split | rfl)

theorem State.pulse_wins (s : State) (ev : Nat) (i : Nat) :
    (State.pulse s ev i).wins = s.wins := by
  unfold State.pulse
  repeat' (first | with_reducible rfl | simp only [↓wins_ite, ite_self, ↓State.landed_wins, ↓State.odInc_wins] | refine wins_foldl (fun _ _ => ?_) ?_ | split | rfl)

theorem State.lilac_wins (s : State) (kind : Nat) (code : Nat) (src : Nat) (addr : Nat) (data : Nat) (part : Option Nat) :
    (State.lilac s kind code src addr data part).wins = s.wins := by
  unfold State.lilac
  simp only []
  split
  · exact (State.pulse_wins _ _ _).trans (State.odApply_wins s _ _)
  · exact State.odApply_wins s _ _

theorem State.linkPut_wins (s : State) (n : Nat) (p : Pkt) :
    (State.linkPut s n p).wins = s.wins := by
  unfold State.linkPut
  repeat' (first | with_reducible rfl | simp only [↓wins_ite, ite_self, ↓State.drainLink_wins, ↓State.lilac_wins, ↓State.odApply_wins, ↓State.odInc_wins, ↓State.updLink_wins] | refine wins_foldl (fun _ _ => ?_) ?_ | split | rfl)

theorem State.routeOnce_wins (s : State) (p : Pkt) :
    (State.routeOnce s p).1.wins = s.wins := by
  unfold State.routeOnce
  repeat' (first | with_reducible rfl | simp only [↓wins_ite, ite_self, ↓State.linkPut_wins, ↓State.odApply_wins, ↓State.odInc_wins] | refine wins_foldl (fun _ _ => ?_) ?_ | split | rfl)

theorem State.route_wins (s : State) (p : Pkt) :
    (State.route s p).wins = s.wins := by
  unfold State.route; split
  · next h => rw [← State.routeOnce_wins s p, h]
  · next h => rw [State.routeOnce_wins, ← State.routeOnce_wins s p, h]

/-- What a limiter's draw and an injection leave alone. -/
theorem State.draw_wins {s t : State} {p : Pkt} (h : s.draw p = some t) : t.wins = s.wins := by
  unfold State.draw at h
  simp only [] at h
  split at h
  · split at h
    · cases h
    · rw [← Option.some.inj h]
  · split at h
    · cases h
    · rw [← Option.some.inj h]
      exact (State.odInc_wins _ _ _).trans (wins_withFabric s _ rfl)

theorem State.tryInject_wins {s t : State} {p : Pkt} (h : s.tryInject p = some t) : t.wins = s.wins := by
  unfold State.tryInject at h
  split at h
  · cases h
  · obtain ⟨x, hx, rfl⟩ := Option.map_eq_some_iff.mp h
    rw [State.route_wins, State.keyCached_wins, State.draw_wins hx, State.limiterFor_wins]

theorem State.injectNow_wins (s : State) (p : Pkt) :
    (State.injectNow s p).wins = s.wins := by
  unfold State.injectNow
  split
  · rfl
  · split
    · next h => exact State.tryInject_wins h
    · rfl

theorem State.inject_wins (s : State) (p : Pkt) :
    (State.inject s p).wins = s.wins := by
  unfold State.inject
  split
  · rfl
  · split
    · rfl
    · exact State.injectNow_wins s p

theorem State.odApplyAll_wins (s : State) (l : List (Nat × Nat)) :
    (State.odApplyAll s l).wins = s.wins := by
  unfold State.odApplyAll
  repeat' (first | with_reducible rfl | simp only [↓wins_ite, ite_self, ↓State.odApply_wins] | refine wins_foldl (fun _ _ => ?_) ?_ | split | rfl)

theorem State.setFlow_wins (s : State) (f : Flow) :
    (State.setFlow s f).wins = s.wins := rfl

theorem State.issueReq_wins (s : State) (r : Req) :
    (State.issueReq s r).wins = s.wins := by
  unfold State.issueReq
  repeat' (first | with_reducible rfl | simp only [↓wins_ite, ite_self, ↓State.inject_wins, ↓State.odApplyAll_wins, ↓State.setFlow_wins] | refine wins_foldl (fun _ _ => ?_) ?_ | split | rfl)

theorem State.mbxPut_wins (s : State) (m : List Byte) :
    (State.mbxPut s m).wins = s.wins := by
  unfold State.mbxPut
  repeat' (first | with_reducible rfl | simp only [↓wins_ite, ite_self, ↓State.pulse_wins] | refine wins_foldl (fun _ _ => ?_) ?_ | split | rfl)

theorem State.sendTo_wins (s : State) (door : Door) (src : Nat) (m : List Byte) :
    (State.sendTo s door src m).wins = s.wins := by
  unfold State.sendTo
  repeat' (first | with_reducible rfl | simp only [↓wins_ite, ite_self, ↓State.emit_wins, ↓State.mbxPut_wins] | refine wins_foldl (fun _ _ => ?_) ?_ | split | rfl)

theorem State.deliverOne_wins (s : State) (se : Session) :
    (State.deliverOne s se).wins = s.wins := by
  unfold State.deliverOne
  repeat' (first | with_reducible rfl | simp only [↓wins_ite, ite_self, ↓State.sendTo_wins] | refine wins_foldl (fun _ _ => ?_) ?_ | split | rfl)

theorem State.deliver_wins (s : State) :
    (State.deliver s).wins = s.wins := by
  unfold State.deliver
  repeat' (first | with_reducible rfl | simp only [↓wins_ite, ite_self, ↓State.deliverOne_wins] | refine wins_foldl (fun _ _ => ?_) ?_ | split | rfl)

theorem State.request_wins (s : State) (owner : ReqOwner) (p : Pkt) :
    (State.request s owner p).wins = s.wins := by
  unfold State.request
  repeat' (first | with_reducible rfl | simp only [↓wins_ite, ite_self, ↓State.issueReq_wins] | refine wins_foldl (fun _ _ => ?_) ?_ | split | rfl)

theorem State.colSend_wins (s : State) (c : Coll) (p : Pkt) :
    (State.colSend s c p).wins = s.wins := by
  unfold State.colSend
  repeat' (first | with_reducible rfl | simp only [↓wins_ite, ite_self, ↓State.request_wins] | refine wins_foldl (fun _ _ => ?_) ?_ | split | rfl)

theorem State.epSend_wins (s : State) (g : Nat) (ref : Nat) (kind : Nat) (term : Nat) (epoch : Nat) (value : Nat) (cause : Nat) (rterm : Nat) (count : Nat) (rank : Nat) :
    (State.epSend s g ref kind term epoch value cause rterm count rank).wins = s.wins := by
  unfold State.epSend
  repeat' (first | with_reducible rfl | simp only [↓wins_ite, ite_self, ↓State.request_wins] | refine wins_foldl (fun _ _ => ?_) ?_ | split | rfl)

theorem State.pwr_wins (s : State) (f : Power → Power) :
    (State.pwr s f).wins = s.wins := by
  unfold State.pwr
  repeat' (first | with_reducible rfl | simp only [↓wins_ite, ite_self] | refine wins_foldl (fun _ _ => ?_) ?_ | split | rfl)

theorem State.paceSend_wins (s : State) (g : Nat) (ref : Nat) (kind : Nat) (freq : Nat) (tick : Nat) :
    (State.paceSend s g ref kind freq tick).wins = s.wins := by
  unfold State.paceSend
  repeat' (first | with_reducible rfl | simp only [↓wins_ite, ite_self, ↓State.request_wins] | refine wins_foldl (fun _ _ => ?_) ?_ | split | rfl)

theorem State.setsDown_wins (s : State) (g : Nat) (freq : Nat) (tick : Nat) :
    (State.setsDown s g freq tick).wins = s.wins := by
  unfold State.setsDown
  repeat' (first | with_reducible rfl | simp only [↓wins_ite, ite_self, ↓State.paceSend_wins] | refine wins_foldl (fun _ _ => ?_) ?_ | split | rfl)

theorem State.leaderSet_wins (s : State) (g : Nat) (m : Nat) :
    (State.leaderSet s g m).wins = s.wins := by
  unfold State.leaderSet
  repeat' (first | with_reducible rfl | simp only [↓wins_ite, ite_self, ↓State.odApply_wins, ↓State.pwr_wins, ↓State.setsDown_wins] | refine wins_foldl (fun _ _ => ?_) ?_ | split | rfl)

theorem State.sendReport_wins (s : State) :
    (State.sendReport s).wins = s.wins := by
  unfold State.sendReport
  repeat' (first | with_reducible rfl | simp only [↓wins_ite, ite_self, ↓State.odApply_wins, ↓State.paceSend_wins, ↓State.pwr_wins] | refine wins_foldl (fun _ _ => ?_) ?_ | split | rfl)

theorem State.paceEval_wins (s : State) :
    (State.paceEval s).wins = s.wins := by
  unfold State.paceEval
  repeat' (first | with_reducible rfl | simp only [↓wins_ite, ite_self, ↓State.leaderSet_wins, ↓State.odApply_wins, ↓State.pwr_wins, ↓State.sendReport_wins] | refine wins_foldl (fun _ _ => ?_) ?_ | split | rfl)

theorem State.paceLilac_wins (s : State) (code : Nat) :
    (State.paceLilac s code).wins = s.wins := by
  unfold State.paceLilac
  repeat' (first | with_reducible rfl | simp only [↓wins_ite, ite_self, ↓State.lilac_wins] | refine wins_foldl (fun _ _ => ?_) ?_ | split | rfl)

theorem State.lockstepNow_wins (s : State) :
    (State.lockstepNow s).wins = s.wins := by
  unfold State.lockstepNow
  repeat' (first | with_reducible rfl | simp only [↓wins_ite, ite_self, ↓State.odInc_wins, ↓State.paceLilac_wins, ↓State.pwr_wins] | refine wins_foldl (fun _ _ => ?_) ?_ | split | rfl)

end Sys2Proof.Machine

/-! SUPPORT. The arrival of an admitted packet: what its row finds, and the reply that its window entry keeps (R265, R276). -/
namespace Sys2Proof.Machine

/-- A packet `p` has been taken from the inbox, its flow has a window entry, and its key is at hand. -/
def State.receives (s : State) (p : Pkt) (inbox : List Pkt) (keys : List FlowKey) (free : Nat) : State :=
  { s with free := free, fabric := { s.fabric with inbox := inbox, keys := keys, wins := s.fabric.wins ++ [s.newWin p] } }

/-- A key at hand changes only the keys at hand. -/
theorem keyCached_keys (s : State) (p : Pkt) (part : Nat) :
    ∃ keys free, s.keyCached p part = { s with free := free, fabric := { s.fabric with keys := keys } } := by
  unfold State.keyCached
  split
  · exact ⟨s.fabric.keys, s.free, rfl⟩
  · simp only []
    split
    · exact ⟨s.fabric.keys, s.free, rfl⟩
    · split
      · exact ⟨_, s.free, rfl⟩
      · exact ⟨_, (s.freeVal 14).2.free, rfl⟩

/-- What is read in clear has the header that was sent. -/
theorem opened_header {s : State} {x p : Pkt} (h : s.opened x = .ok p) : p = { x with payload := p.payload } := by
  unfold State.opened at h
  split at h
  · cases h; rfl
  · split at h
    · cases h
    · simp only [] at h
      split at h
      · cases h
      · cases h; rfl

theorem opened_inbox (s : State) (x : Pkt) (inbox : List Pkt) :
    ({ s with fabric := { s.fabric with inbox := inbox } } : State).opened x = s.opened x := rfl

/-- A packet that arrives acts in the state that has taken it. -/
theorem arrive_arrives {s : State} {p : Pkt} {q : Pkt → Bool} (h : s.Arrives p q) :
    ∃ x inbox keys free u, s.take q = some (x, u) ∧ s.arrive q = .act p false (s.receives p inbox keys free) := by
  obtain ⟨⟨x, hx, ho⟩, hsvc, hrem, hesc, hpend, hwin, hlen, -⟩ := h
  have hd : x.dpart = p.dpart := by rw [opened_header ho]
  have htake : s.take q = some (x, { s with fabric := { s.fabric with inbox := s.fabric.inbox.erase x } }) := by
    unfold State.take; rw [hx]
  have hroom : ({ s with fabric := { s.fabric with inbox := s.fabric.inbox.erase x } } : State).escapeMode = true →
      ¬ s.storedReplies > Config.replyStore := fun e => Nat.not_lt.mpr (hesc e)
  generalize hu : ({ s with fabric := { s.fabric with inbox := s.fabric.inbox.erase x } } : State) = u at htake hroom
  have hpend' : u.odPending 0x6010 (x.dpart + 1) = none := by rw [← hu, hd]; exact hpend
  have hst : u.storedReplies = s.storedReplies := by rw [← hu]; rfl
  have hsvc' : u.inService = true := by rw [← hu]; exact hsvc
  have hrem' : u.life.removal = 0 := by rw [← hu]; exact hrem
  have ho' : u.opened x = .ok p := by rw [← hu]; exact ho
  obtain ⟨keys, free, hk⟩ := keyCached_keys u x (if x.isReply then x.spart else x.dpart)
  refine ⟨x, s.fabric.inbox.erase x, keys, free, u, htake, ?_⟩
  have hc : ¬ ((u.escapeMode && decide (u.storedReplies > Config.replyStore)) = true) := by
    rw [hst]; simpa using fun e => Nat.le_of_not_lt (hroom e)
  have hw : (u.keyCached x (if x.isReply then x.spart else x.dpart)).fabric.wins = s.fabric.wins := by rw [hk, ← hu]
  unfold State.arrive
  rw [htake]
  simp only [odApply_none hpend', hc, hsvc', hrem', State.unseal, ho', hw, hwin]
  rw [hk, ← hu]
  simp only [Bool.not_true, bne_self_eq_false, Bool.false_and, Bool.or_self, Bool.false_eq_true, if_false]
  rw [if_neg (Nat.not_le.mpr hlen)]
  rfl

theorem serve_arrives {s : State} {p : Pkt} {q : Pkt → Bool} (h : s.Arrives p q) :
    ∃ x inbox keys free, ∀ f t, f p false (s.receives p inbox keys free) = .ok t → serve s q f = .next (t.begunGone x) := by
  obtain ⟨x, inbox, keys, free, u, ht, ha⟩ := arrive_arrives h
  refine ⟨x, inbox, keys, free, fun f t hf => ?_⟩
  unfold serve
  rw [ht, ha]
  simp only [hf]

/-! ### The reply that is kept -/

/-- A key that a filter keeps is found as before. -/
theorem tfind_filter {α : Type} (t : Tab α) (k : Nat) (f : Nat → Bool) (hk : f k = true) : tfind (t.filter (fun e => f e.1)) k = tfind t k := by
  induction t with
  | nil => rfl
  | cons e t ih =>
    obtain ⟨k', v'⟩ := e
    by_cases hf : f k' = true
    · simp only [List.filter_cons, hf, if_true, tfind, ih]
    · have hne : k ≠ k' := fun e => hf (e ▸ hk)
      simpa only [List.filter_cons, hf, Bool.false_eq_true, if_false, tfind, if_neg hne] using ih

/-- The first request of a flow is finished: its reply is the one kept under its number. -/
theorem newWin_finish (s : State) (p r : Pkt) : tfind ((s.newWin p).finish p.seq r).replies p.seq = some r := by
  have ha : (p.seq + 2 ^ 24 - (p.seq + 2 ^ 24 - 1) % 2 ^ 24) % 2 ^ 24 < 2 ^ 23 := by omega
  unfold Win.finish
  simp only [State.newWin, ha, decide_true, if_true]
  refine (tfind_filter _ _ (fun n => decide (Win.behind _ n < 1024)) ?_).trans ((tfind_tput _ _ _ _).trans (if_pos rfl))
  simp [Win.behind]

theorem finish_flow (w : Win) (n : Nat) (r : Pkt) : (w.finish n r).src = w.src ∧ (w.finish n r).spart = w.spart := by
  unfold Win.finish
  exact ⟨rfl, rfl⟩

theorem updFirst_last {α : Type} (q : α → Bool) (f : α → α) {l : List α} {x : α} (h : l.find? q = none) (hx : q x = true) :
    updFirst q f (l ++ [x]) = l ++ [f x] := by
  induction l with
  | nil => simp [updFirst, hx]
  | cons y l ih =>
    rw [List.find?_cons] at h
    split at h
    · cases h
    · next hy => simp [updFirst, hy, ih h]

/-- A packet of a flow without a window entry, answered by a reply: its entry keeps the reply. -/
theorem answer_answered {s u : State} {p r : Pkt} (hw : s.fabric.wins.find? (Win.is p.src p.spart) = none)
    (hu : u.fabric.wins = s.fabric.wins ++ [s.newWin p]) (hdst : r.dst = p.src) (hsrc : r.src = p.dst) (hseq : r.seq = p.seq)
    (hgen : r.gen = p.gen) : (u.answer p r).Answered p r.op r.status r.payload := by
  have hn : Win.is p.src p.spart (s.newWin p) = true := by simp [Win.is, State.newWin]
  have h : (u.answer p r).fabric.wins = s.fabric.wins ++ [(s.newWin p).finish p.seq { r with ridx := u.replyIdx p }] := by
    refine (State.inject_wins _ _).trans ?_
    show updFirst _ _ u.fabric.wins = _
    rw [hu, updFirst_last _ _ hw hn]
  refine ⟨(s.newWin p).finish p.seq { r with ridx := u.replyIdx p }, { r with ridx := u.replyIdx p }, ?_, rfl, rfl,
    newWin_finish s p _, rfl, rfl, rfl, hdst, hsrc, hseq, hgen⟩
  rw [h]
  exact List.mem_append_right _ (List.mem_singleton.mpr rfl)

theorem Answered.of_wins {t u : State} {p : Pkt} {op status : Nat} {bs : List Byte} (h : t.Answered p op status bs) (hw : u.wins = t.wins) :
    u.Answered p op status bs := by
  unfold State.Answered at h ⊢
  rw [show u.fabric.wins = t.fabric.wins from hw]
  exact h

theorem begunGone_calm (s : State) (x : Pkt) : (s.begunGone x).calm = s.calm := State.odApplyAll_calm _ _
theorem begunGone_wins (s : State) (x : Pkt) : (s.begunGone x).wins = s.wins := State.odApplyAll_wins _ _

end Sys2Proof.Machine

/-! SUPPORT. What resets leave of the frequencies. Each law is named after its operation. -/
namespace Sys2Proof.Machine

/-- The frequency that a pace group asks for and the one that the cores run at. -/
def State.rate (s : State) : Nat × Nat := (s.power.f, s.clk.coreMHz)

theorem rate_ite (c : Prop) [Decidable c] (a b : State) :
    (if c then a else b).rate = if c then a.rate else b.rate := by split <;> rfl

theorem rate_foldl {α : Type} {f : State → α → State} {l : List α} {x s : State}
    (h : ∀ t a, (f t a).rate = t.rate) (h0 : x.rate = s.rate) : (l.foldl f x).rate = s.rate := by
  induction l generalizing x with
  | nil => exact h0
  | cons a l ih => exact ih ((h x a).trans h0)

theorem rate_with (x : State) (pending : List Instr) (mem : List Host.Cell) (hostMem : List Host.Cell) (od : Od) (links : Tab Link) (fabric : Fabric) (ftime : FTime) (memory : Memory) (sepia : Sepia) (eps : Tab Ep) (agents : Tab Agent) (queues : Tab Queue) (colls : Colls) (hcnt : Tab HCnt) (disp : Disp) (cores : Tab Core) (parts : Tab Part) (fns : Tab Fn) (mgmt : Mgmt) (trace : Trace) (faults : Faults) (sec : Sec) (thermal : Thermal) (taps : Tab Tap) (fw : Fw) (life : Life) (stored : Option Stored) (free : Nat) (out : List Out)  :
    State.rate (State.mk pending mem hostMem od (x.clk) links fabric ftime memory sepia eps agents queues colls hcnt disp cores parts fns mgmt trace faults sec (x.power) thermal taps fw life stored free out) = x.rate := rfl
theorem rate_withClk (x : State) (pending : List Instr) (mem : List Host.Cell) (hostMem : List Host.Cell) (od : Od) (links : Tab Link) (fabric : Fabric) (ftime : FTime) (memory : Memory) (sepia : Sepia) (eps : Tab Ep) (agents : Tab Agent) (queues : Tab Queue) (colls : Colls) (hcnt : Tab HCnt) (disp : Disp) (cores : Tab Core) (parts : Tab Part) (fns : Tab Fn) (mgmt : Mgmt) (trace : Trace) (faults : Faults) (sec : Sec) (thermal : Thermal) (taps : Tab Tap) (fw : Fw) (life : Life) (stored : Option Stored) (free : Nat) (out : List Out) (lt up ft : Nat) (lk : Bool) (xi : Tab Xing) (ph : Tab Bool) :
    State.rate (State.mk pending mem hostMem od (⟨lt, up, ft, lk, x.clk.coreMHz, xi, ph⟩) links fabric ftime memory sepia eps agents queues colls hcnt disp cores parts fns mgmt trace faults sec (x.power) thermal taps fw life stored free out) = x.rate := rfl

theorem rate_withPower (s : State) (p : Power) (h : p.f = s.power.f) : State.rate { s with power := p } = s.rate :=
  congrArg (·, s.clk.coreMHz) h

theorem rate_withColls (s : State) (c : Colls) : State.rate { s with colls := c } = s.rate := rfl

theorem State.pwr_rate (s : State) (f : Power → Power) (h : ∀ p, (f p).f = p.f) : (s.pwr f).rate = s.rate :=
  congrArg (·, s.clk.coreMHz) (h s.power)

theorem State.freeVal_rate (s : State) (w : Nat) :
    (State.freeVal s w).2.rate = s.rate := by
  unfold State.freeVal
  repeat' (first | with_reducible rfl | simp only [↓rate_with, ↓rate_withClk, ↓rate_ite, ite_self] | refine rate_foldl (fun _ _ => ?_) ?_ | split | rfl)

theorem State.keyCached_rate (s : State) (p : Pkt) (part : Nat) :
    (State.keyCached s p part).rate = s.rate := by
  unfold State.keyCached
  repeat' (first | with_reducible rfl | simp only [↓rate_with, ↓rate_withClk, ↓rate_ite, ite_self, ↓State.freeVal_rate] | refine rate_foldl (fun _ _ => ?_) ?_ | split | rfl)

theorem State.odSet_rate (s : State) (idx : Nat) (sub : Nat) (v : OdVal) :
    (State.odSet s idx sub v).rate = s.rate := by
  unfold State.odSet
  repeat' (first | with_reducible rfl | simp only [↓rate_with, ↓rate_withClk, ↓rate_ite, ite_self] | refine rate_foldl (fun _ _ => ?_) ?_ | split | rfl)

theorem State.odApply_rate (s : State) (idx : Nat) (sub : Nat) :
    (State.odApply s idx sub).rate = s.rate := by
  unfold State.odApply
  repeat' (first | with_reducible rfl | simp only [↓rate_with, ↓rate_withClk, ↓rate_ite, ite_self, ↓State.odSet_rate] | refine rate_foldl (fun _ _ => ?_) ?_ | split | rfl)

theorem State.limiterFor_rate (s : State) (p : Pkt) :
    (State.limiterFor s p).rate = s.rate := by
  unfold State.limiterFor
  repeat' (first | with_reducible rfl | simp only [↓rate_with, ↓rate_withClk, ↓rate_ite, ite_self, ↓State.odApply_rate] | refine rate_foldl (fun _ _ => ?_) ?_ | split | rfl)

theorem State.odSetN_rate (s : State) (idx : Nat) (sub : Nat) (n : Nat) :
    (State.odSetN s idx sub n).rate = s.rate := by
  unfold State.odSetN
  repeat' (first | with_reducible rfl | simp only [↓rate_with, ↓rate_withClk, ↓rate_ite, ite_self, ↓State.odSet_rate] | refine rate_foldl (fun _ _ => ?_) ?_ | split | rfl)

theorem State.odAdd_rate (s : State) (idx : Nat) (sub : Nat) (n : Nat) :
    (State.odAdd s idx sub n).rate = s.rate := by
  unfold State.odAdd
  repeat' (first | with_reducible rfl | simp only [↓rate_with, ↓rate_withClk, ↓rate_ite, ite_self, ↓State.odSetN_rate] | refine rate_foldl (fun _ _ => ?_) ?_ | split | rfl)

theorem State.odInc_rate (s : State) (idx : Nat) (sub : Nat) :
    (State.odInc s idx sub).rate = s.rate := by
  unfold State.odInc
  repeat' (first | with_reducible rfl | simp only [↓rate_with, ↓rate_withClk, ↓rate_ite, ite_self, ↓State.odAdd_rate] | refine rate_foldl (fun _ _ => ?_) ?_ | split | rfl)

theorem State.emit_rate (s : State) (o : Out) :
    (State.emit s o).rate = s.rate := by
  unfold State.emit
  repeat' (first | with_reducible rfl | simp only [↓rate_with, ↓rate_withClk, ↓rate_ite, ite_self] | refine rate_foldl (fun _ _ => ?_) ?_ | split | rfl)

theorem State.setLink_rate (s : State) (n : Nat) (l : Link) :
    (State.setLink s n l).rate = s.rate := by
  unfold State.setLink
  repeat' (first | with_reducible rfl | simp only [↓rate_with, ↓rate_withClk, ↓rate_ite, ite_self] | refine rate_foldl (fun _ _ => ?_) ?_ | split | rfl)

theorem State.updLink_rate (s : State) (n : Nat) (f : Link → Link) :
    (State.updLink s n f).rate = s.rate := by
  unfold State.updLink
  repeat' (first | with_reducible rfl | simp only [↓rate_with, ↓rate_withClk, ↓rate_ite, ite_self, ↓State.setLink_rate] | refine rate_foldl (fun _ _ => ?_) ?_ | split | rfl)

theorem State.linkTx_rate (s : State) (n : Nat) (p : Pkt) :
    (State.linkTx s n p).rate = s.rate := by
  unfold State.linkTx
  repeat' (first | with_reducible rfl | simp only [↓rate_with, ↓rate_withClk, ↓rate_ite, ite_self, ↓State.emit_rate, ↓State.updLink_rate] | refine rate_foldl (fun _ _ => ?_) ?_ | split | rfl)

theorem State.sendPair_rate (s : State) (n : Nat) (bs : List Body) :
    (State.sendPair s n bs).rate = s.rate := by
  unfold State.sendPair
  repeat' (first | with_reducible rfl | simp only [↓rate_with, ↓rate_withClk, ↓rate_ite, ite_self, ↓State.emit_rate, ↓State.setLink_rate] | refine rate_foldl (fun _ _ => ?_) ?_ | split | rfl)

theorem State.sendBodies_rate (n : Nat) (x1 : Nat) (x2 : State) (x3 : List Body) :
    (State.sendBodies n x1 x2 x3).rate = x2.rate := by
  induction x1 generalizing x2 x3 with
  | zero => rfl
  | succ k ih =>
    simp only [State.sendBodies]
    split
    · rfl
    · rw [ih, State.sendPair_rate]

theorem State.drainLink_rate (s : State) (n : Nat) :
    (State.drainLink s n).rate = s.rate := by
  have hf : ∀ (l : List Pkt) (a : State × List Pkt × List Pkt), (l.foldl (fun (a : State × List Pkt × List Pkt) p =>
      if a.2.1.any (fun x => x.vc == p.vc) || a.1.freeCredits n p.vc < p.slots then (a.1, a.2.1 ++ [p], a.2.2)
      else (a.1.linkTx n p, a.2.1, a.2.2 ++ [p])) a).1.rate = a.1.rate := by
    intro l
    induction l with
    | nil => intro a; rfl
    | cons p l ih =>
      intro a
      rw [List.foldl_cons, ih]
      split
      · rfl
      · exact State.linkTx_rate _ _ _
  unfold State.drainLink
  split
  · rfl
  · simp only [State.sendBodies_rate, State.updLink_rate, hf]

theorem State.setFn_rate (s : State) (k : Nat) (f : Fn) :
    (State.setFn s k f).rate = s.rate := by
  unfold State.setFn
  repeat' (first | with_reducible rfl | simp only [↓rate_with, ↓rate_withClk, ↓rate_ite, ite_self] | refine rate_foldl (fun _ _ => ?_) ?_ | split | rfl)

theorem State.msix_rate (s : State) (k : Nat) (vec : Nat) :
    (State.msix s k vec).rate = s.rate := by
  unfold State.msix
  repeat' (first | with_reducible rfl | simp only [↓rate_with, ↓rate_withClk, ↓rate_ite, ite_self, ↓State.emit_rate, ↓State.setFn_rate] | refine rate_foldl (fun _ _ => ?_) ?_ | split | rfl)

theorem State.fnEvent_rate (s : State) (k : Nat) (b : Nat) :
    (State.fnEvent s k b).rate = s.rate := by
  unfold State.fnEvent
  repeat' (first | with_reducible rfl | simp only [↓rate_with, ↓rate_withClk, ↓rate_ite, ite_self, ↓State.msix_rate, ↓State.setFn_rate] | refine rate_foldl (fun _ _ => ?_) ?_ | split | rfl)

theorem State.landed_rate (s : State) (ev : Nat) (i : Nat) :
    (State.landed s ev i).rate = s.rate := by
  unfold State.landed
  repeat' (first | with_reducible rfl | simp only [↓rate_with, ↓rate_withClk, ↓rate_ite, ite_self, ↓State.fnEvent_rate, ↓State.msix_rate] | refine rate_foldl (fun _ _ => ?_) ?_ | split | rfl)

theorem State.pulse_rate (s : State) (ev : Nat) (i : Nat) :
    (State.pulse s ev i).rate = s.rate := by
  unfold State.pulse
  repeat' (first | with_reducible rfl | simp only [↓rate_with, ↓rate_withClk, ↓rate_ite, ite_self, ↓State.landed_rate, ↓State.odInc_rate] | refine rate_foldl (fun _ _ => ?_) ?_ | split | rfl)

theorem State.lilac_rate (s : State) (kind : Nat) (code : Nat) (src : Nat) (addr : Nat) (data : Nat) (part : Option Nat) :
    (State.lilac s kind code src addr data part).rate = s.rate := by
  unfold State.lilac
  repeat' (first | with_reducible rfl | simp only [↓rate_with, ↓rate_withClk, ↓rate_ite, ite_self, ↓State.odApply_rate, ↓State.pulse_rate] | refine rate_foldl (fun _ _ => ?_) ?_ | split | rfl)

theorem State.linkPut_rate (s : State) (n : Nat) (p : Pkt) :
    (State.linkPut s n p).rate = s.rate := by
  unfold State.linkPut
  repeat' (first | with_reducible rfl | simp only [↓rate_with, ↓rate_withClk, ↓rate_ite, ite_self, ↓State.drainLink_rate, ↓State.lilac_rate, ↓State.odApply_rate, ↓State.odInc_rate, ↓State.updLink_rate] | refine rate_foldl (fun _ _ => ?_) ?_ | split | rfl)

theorem State.routeOnce_rate (s : State) (p : Pkt) :
    (State.routeOnce s p).1.rate = s.rate := by
  unfold State.routeOnce
  repeat' (first | with_reducible rfl | simp only [↓rate_with, ↓rate_withClk, ↓rate_ite, ite_self, ↓State.linkPut_rate, ↓State.odApply_rate, ↓State.odInc_rate] | refine rate_foldl (fun _ _ => ?_) ?_ | split | rfl)

theorem State.route_rate (s : State) (p : Pkt) :
    (State.route s p).rate = s.rate := by
  unfold State.route; split
  · next h => rw [← State.routeOnce_rate s p, h]
  · next h => rw [State.routeOnce_rate, ← State.routeOnce_rate s p, h]

/-- What a limiter's draw and an injection leave alone. -/
theorem State.draw_rate {s t : State} {p : Pkt} (h : s.draw p = some t) : t.rate = s.rate := by
  unfold State.draw at h
  simp only at h
  repeat' (first | cases h | split at h | rfl | simp only [State.odInc_rate])
  all_goals rfl

theorem State.tryInject_rate {s t : State} {p : Pkt} (h : s.tryInject p = some t) : t.rate = s.rate := by
  unfold State.tryInject at h
  split at h
  · cases h
  · obtain ⟨x, hx, rfl⟩ := Option.map_eq_some_iff.mp h
    rw [State.route_rate, State.keyCached_rate, State.draw_rate hx, State.limiterFor_rate]

theorem State.injectNow_rate (s : State) (p : Pkt) :
    (State.injectNow s p).rate = s.rate := by
  unfold State.injectNow
  split
  · rfl
  · split
    · next h => exact State.tryInject_rate h
    · rfl

theorem State.inject_rate (s : State) (p : Pkt) :
    (State.inject s p).rate = s.rate := by
  unfold State.inject
  repeat' (first | with_reducible rfl | simp only [↓rate_with, ↓rate_withClk, ↓rate_ite, ite_self, ↓State.injectNow_rate] | refine rate_foldl (fun _ _ => ?_) ?_ | split | rfl)

theorem State.odApplyAll_rate (s : State) (l : List (Nat × Nat)) :
    (State.odApplyAll s l).rate = s.rate := by
  unfold State.odApplyAll
  repeat' (first | with_reducible rfl | simp only [↓rate_with, ↓rate_withClk, ↓rate_ite, ite_self, ↓State.odApply_rate] | refine rate_foldl (fun _ _ => ?_) ?_ | split | rfl)

theorem State.setFlow_rate (s : State) (f : Flow) :
    (State.setFlow s f).rate = s.rate := by
  unfold State.setFlow
  repeat' (first | with_reducible rfl | simp only [↓rate_with, ↓rate_withClk, ↓rate_ite, ite_self] | refine rate_foldl (fun _ _ => ?_) ?_ | split | rfl)

theorem State.issueReq_rate (s : State) (r : Req) :
    (State.issueReq s r).rate = s.rate := by
  unfold State.issueReq
  repeat' (first | with_reducible rfl | simp only [↓rate_with, ↓rate_withClk, ↓rate_ite, ite_self, ↓State.inject_rate, ↓State.odApplyAll_rate, ↓State.setFlow_rate] | refine rate_foldl (fun _ _ => ?_) ?_ | split | rfl)

theorem State.wake_rate (s : State) :
    (State.wake s).rate = s.rate := by
  unfold State.wake
  repeat' (first | with_reducible rfl | simp only [↓rate_with, ↓rate_withClk, ↓rate_ite, ite_self, ↓State.issueReq_rate] | refine rate_foldl (fun _ _ => ?_) ?_ | split | rfl)

theorem State.releaseReqs_rate (s : State) (q : Req → Bool) :
    (State.releaseReqs s q).rate = s.rate := by
  unfold State.releaseReqs
  repeat' (first | with_reducible rfl | simp only [↓rate_with, ↓rate_withClk, ↓rate_ite, ite_self, ↓State.wake_rate] | refine rate_foldl (fun _ _ => ?_) ?_ | split | rfl)

theorem State.abandon_rate (s : State) (q : SCmd → Bool) :
    (State.abandon s q).rate = s.rate := by
  unfold State.abandon
  repeat' (first | with_reducible rfl | simp only [↓rate_with, ↓rate_withClk, ↓rate_ite, ite_self, ↓State.releaseReqs_rate] | refine rate_foldl (fun _ _ => ?_) ?_ | split | rfl)

theorem State.setCore_rate (s : State) (n : Nat) (c : Core) :
    (State.setCore s n c).rate = s.rate := by
  unfold State.setCore
  repeat' (first | with_reducible rfl | simp only [↓rate_with, ↓rate_withClk, ↓rate_ite, ite_self] | refine rate_foldl (fun _ _ => ?_) ?_ | split | rfl)

theorem State.dropMop_rate (s : State) (n : Nat) (id : Nat) :
    (State.dropMop s n id).rate = s.rate := by
  unfold State.dropMop
  repeat' (first | with_reducible rfl | simp only [↓rate_with, ↓rate_withClk, ↓rate_ite, ite_self, ↓State.setCore_rate] | refine rate_foldl (fun _ _ => ?_) ?_ | split | rfl)

theorem State.mbxPut_rate (s : State) (m : List Byte) :
    (State.mbxPut s m).rate = s.rate := by
  unfold State.mbxPut
  repeat' (first | with_reducible rfl | simp only [↓rate_with, ↓rate_withClk, ↓rate_ite, ite_self, ↓State.pulse_rate] | refine rate_foldl (fun _ _ => ?_) ?_ | split | rfl)

theorem State.sendTo_rate (s : State) (door : Door) (src : Nat) (m : List Byte) :
    (State.sendTo s door src m).rate = s.rate := by
  unfold State.sendTo
  repeat' (first | with_reducible rfl | simp only [↓rate_with, ↓rate_withClk, ↓rate_ite, ite_self, ↓State.emit_rate, ↓State.mbxPut_rate] | refine rate_foldl (fun _ _ => ?_) ?_ | split | rfl)

theorem State.deliverOne_rate (s : State) (se : Session) :
    (State.deliverOne s se).rate = s.rate := by
  unfold State.deliverOne
  repeat' (first | with_reducible rfl | simp only [↓rate_with, ↓rate_withClk, ↓rate_ite, ite_self, ↓State.sendTo_rate] | refine rate_foldl (fun _ _ => ?_) ?_ | split | rfl)

theorem State.deliver_rate (s : State) :
    (State.deliver s).rate = s.rate := by
  unfold State.deliver
  repeat' (first | with_reducible rfl | simp only [↓rate_with, ↓rate_withClk, ↓rate_ite, ite_self, ↓State.deliverOne_rate] | refine rate_foldl (fun _ _ => ?_) ?_ | split | rfl)

theorem State.raise_rate (s : State) (code : Nat) (idx : Nat) (sub : Nat) (detail : Nat) :
    (State.raise s code idx sub detail).rate = s.rate := by
  unfold State.raise
  repeat' (first | with_reducible rfl | simp only [↓rate_with, ↓rate_withClk, ↓rate_ite, ite_self, ↓State.deliver_rate, ↓State.odInc_rate] | refine rate_foldl (fun _ _ => ?_) ?_ | split | rfl)

theorem State.resetStatus_rate (s : State) (scope : Nat) (target : Nat) (st : Nat) :
    (State.resetStatus s scope target st).rate = s.rate := by
  unfold State.resetStatus
  repeat' (first | with_reducible rfl | simp only [↓rate_with, ↓rate_withClk, ↓rate_ite, ite_self, ↓State.odSetN_rate] | refine rate_foldl (fun _ _ => ?_) ?_ | split | rfl)

theorem State.endResets_rate (s : State) (q : ResetRun → Bool) :
    (State.endResets s q).rate = s.rate := by
  unfold State.endResets
  repeat' (first | with_reducible rfl | simp only [↓rate_with, ↓rate_withClk, ↓rate_ite, ite_self, ↓State.resetStatus_rate] | refine rate_foldl (fun _ _ => ?_) ?_ | split | rfl)

theorem State.takeOver_rate (s : State) (n : ResetRun) :
    (State.takeOver s n).rate = s.rate := by
  unfold State.takeOver
  repeat' (first | with_reducible rfl | simp only [↓rate_with, ↓rate_withClk, ↓rate_ite, ite_self, ↓State.endResets_rate] | refine rate_foldl (fun _ _ => ?_) ?_ | split | rfl)

theorem State.addReset_rate (s : State) (scope : Nat) (target : Nat) (fault : Bool) (replay : Bool) (held : Bool) :
    (State.addReset s scope target fault replay held).rate = s.rate := by
  unfold State.addReset
  repeat' (first | with_reducible rfl | simp only [↓rate_with, ↓rate_withClk, ↓rate_ite, ite_self, ↓State.lilac_rate, ↓State.takeOver_rate] | refine rate_foldl (fun _ _ => ?_) ?_ | split | rfl)

theorem State.collTrace_rate (s : State) (c : Coll) (code : Nat) (sub : Nat) :
    (State.collTrace s c code sub).rate = s.rate := by
  unfold State.collTrace
  repeat' (first | with_reducible rfl | simp only [↓rate_with, ↓rate_withClk, ↓rate_ite, ite_self, ↓State.lilac_rate] | refine rate_foldl (fun _ _ => ?_) ?_ | split | rfl)

theorem State.request_rate (s : State) (owner : ReqOwner) (p : Pkt) :
    (State.request s owner p).rate = s.rate := by
  unfold State.request
  repeat' (first | with_reducible rfl | simp only [↓rate_with, ↓rate_withClk, ↓rate_ite, ite_self, ↓State.issueReq_rate] | refine rate_foldl (fun _ _ => ?_) ?_ | split | rfl)

theorem State.colSend_rate (s : State) (c : Coll) (p : Pkt) :
    (State.colSend s c p).rate = s.rate := by
  unfold State.colSend
  repeat' (first | with_reducible rfl | simp only [↓rate_with, ↓rate_withClk, ↓rate_ite, ite_self, ↓State.request_rate] | refine rate_foldl (fun _ _ => ?_) ?_ | split | rfl)

theorem State.updColl_rate (s : State) (r : DescRef) (f : Coll → Coll) :
    (State.updColl s r f).rate = s.rate := by
  unfold State.updColl
  repeat' (first | with_reducible rfl | simp only [↓rate_with, ↓rate_withClk, ↓rate_ite, ite_self] | refine rate_foldl (fun _ _ => ?_) ?_ | split | rfl)

theorem State.setGSt_rate (s : State) (g : Nat) (st : Nat) :
    (State.setGSt s g st).rate = s.rate := by
  unfold State.setGSt
  repeat' (first | with_reducible rfl | simp only [↓rate_with, ↓rate_withClk, ↓rate_ite, ite_self, ↓State.odSetN_rate] | refine rate_foldl (fun _ _ => ?_) ?_ | split | rfl)

theorem State.showPools_rate (s : State) :
    (State.showPools s).rate = s.rate := by
  unfold State.showPools
  repeat' (first | with_reducible rfl | simp only [↓rate_with, ↓rate_withClk, ↓rate_ite, ite_self, ↓State.odSetN_rate] | refine rate_foldl (fun _ _ => ?_) ?_ | split | rfl)

theorem State.applyGroup_rate (s : State) (g : Nat) : (State.applyGroup s g).rate = s.rate := by
  unfold State.applyGroup
  split
  · rfl
  · simp only []
    rw [State.odSetN_rate, State.setGSt_rate]
    split
    · exact (rate_withPower _ _ rfl).trans ((rate_withColls _ _).trans (State.odApply_rate s _ _))
    · exact (rate_withColls _ _).trans (State.odApply_rate s _ _)

theorem State.updFlight_rate (s : State) (r : DescRef) (f : Flight → Flight) :
    (State.updFlight s r f).rate = s.rate := by
  unfold State.updFlight
  repeat' (first | with_reducible rfl | simp only [↓rate_with, ↓rate_withClk, ↓rate_ite, ite_self] | refine rate_foldl (fun _ _ => ?_) ?_ | split | rfl)

theorem State.flightDone_rate (s : State) (r : DescRef) :
    (State.flightDone s r).rate = s.rate := by
  unfold State.flightDone
  repeat' (first | with_reducible rfl | simp only [↓rate_with, ↓rate_withClk, ↓rate_ite, ite_self, ↓State.updFlight_rate] | refine rate_foldl (fun _ _ => ?_) ?_ | split | rfl)

theorem State.flightForce_rate (s : State) (r : DescRef) (e : UEnd) :
    (State.flightForce s r e).rate = s.rate := by
  unfold State.flightForce
  repeat' (first | with_reducible rfl | simp only [↓rate_with, ↓rate_withClk, ↓rate_ite, ite_self, ↓State.flightDone_rate, ↓State.updFlight_rate] | refine rate_foldl (fun _ _ => ?_) ?_ | split | rfl)

theorem State.collFinish_rate (s : State) (c : Coll) :
    (State.collFinish s c).rate = s.rate := by
  unfold State.collFinish
  repeat' (first | with_reducible rfl | simp only [↓rate_with, ↓rate_withClk, ↓rate_ite, ite_self, ↓State.flightForce_rate, ↓State.updFlight_rate] | refine rate_foldl (fun _ _ => ?_) ?_ | split | rfl)

theorem State.collEnd_rate (s : State) (c : Coll) (e : UEnd) (abortSub : Nat) (from_ : Option Nat) :
    (State.collEnd s c e abortSub from_).rate = s.rate := by
  unfold State.collEnd
  repeat' (first | with_reducible rfl | simp only [↓rate_with, ↓rate_withClk, ↓rate_ite, ite_self, ↓State.applyGroup_rate, ↓State.colSend_rate, ↓State.collFinish_rate, ↓State.collTrace_rate, ↓State.odInc_rate, ↓State.setGSt_rate, ↓State.showPools_rate, ↓State.updColl_rate] | refine rate_foldl (fun _ _ => ?_) ?_ | split | rfl)

theorem State.alertLine_rate (s : State) :
    (State.alertLine s).rate = s.rate := by
  unfold State.alertLine
  repeat' (first | with_reducible rfl | simp only [↓rate_with, ↓rate_withClk, ↓rate_ite, ite_self] | refine rate_foldl (fun _ _ => ?_) ?_ | split | rfl)

theorem State.alertSet_rate (s : State) (b : Nat) (on : Bool) :
    (State.alertSet s b on).rate = s.rate := by
  unfold State.alertSet
  repeat' (first | with_reducible rfl | simp only [↓rate_with, ↓rate_withClk, ↓rate_ite, ite_self, ↓State.alertLine_rate, ↓State.odSetN_rate] | refine rate_foldl (fun _ _ => ?_) ?_ | split | rfl)

theorem State.leavesGrey_rate (s : State) :
    (State.leavesGrey s).rate = s.rate := by
  unfold State.leavesGrey
  repeat' (first | with_reducible rfl | simp only [↓rate_with, ↓rate_withClk, ↓rate_ite, ite_self] | refine rate_foldl (fun _ _ => ?_) ?_ | split | rfl)

theorem State.enter_rate (s : State) (v : Svc) (alert : Bool) :
    (State.enter s v alert).rate = s.rate := by
  unfold State.enter
  repeat' (first | with_reducible rfl | simp only [↓rate_with, ↓rate_withClk, ↓rate_ite, ite_self, ↓State.alertSet_rate, ↓State.fnEvent_rate, ↓State.leavesGrey_rate, ↓State.odSetN_rate, ↓State.raise_rate] | refine rate_foldl (fun _ _ => ?_) ?_ | split | rfl)

theorem State.faultRecordAs_rate (s : State) (st : Nat) (code : Nat) (action : Nat) (kind : Nat) (target : Nat) (part : Option Nat) (esc : Bool) (detail : Nat) :
    (State.faultRecordAs s st code action kind target part esc detail).rate = s.rate := by
  unfold State.faultRecordAs
  repeat' (first | with_reducible rfl | simp only [↓rate_with, ↓rate_withClk, ↓rate_ite, ite_self, ↓State.lilac_rate, ↓State.odInc_rate, ↓State.odSet_rate, ↓State.raise_rate] | refine rate_foldl (fun _ _ => ?_) ?_ | split | rfl)

theorem State.faultRecord_rate (s : State) (code : Nat) (action : Nat) (kind : Nat) (target : Nat) (part : Option Nat) (esc : Bool) (detail : Nat) :
    (State.faultRecord s code action kind target part esc detail).rate = s.rate := by
  unfold State.faultRecord
  repeat' (first | with_reducible rfl | simp only [↓rate_with, ↓rate_withClk, ↓rate_ite, ite_self, ↓State.faultRecordAs_rate] | refine rate_foldl (fun _ _ => ?_) ?_ | split | rfl)

theorem State.xingClear_rate (s : State) (q : Nat → Nat → Bool) :
    (State.xingClear s q).rate = s.rate := by
  unfold State.xingClear
  repeat' (first | with_reducible rfl | simp only [↓rate_with, ↓rate_withClk, ↓rate_ite, ite_self] | refine rate_foldl (fun _ _ => ?_) ?_ | split | rfl)

theorem State.setEp_rate (s : State) (p : Nat) (e : Ep) :
    (State.setEp s p e).rate = s.rate := by
  unfold State.setEp
  repeat' (first | with_reducible rfl | simp only [↓rate_with, ↓rate_withClk, ↓rate_ite, ite_self] | refine rate_foldl (fun _ _ => ?_) ?_ | split | rfl)

theorem State.showEp_rate (s : State) (p : Nat) :
    (State.showEp s p).rate = s.rate := by
  unfold State.showEp
  repeat' (first | with_reducible rfl | simp only [↓rate_with, ↓rate_withClk, ↓rate_ite, ite_self, ↓State.odSetN_rate] | refine rate_foldl (fun _ _ => ?_) ?_ | split | rfl)

theorem State.epGo_rate (s : State) (p : Nat) (st : MemSt) :
    (State.epGo s p st).rate = s.rate := by
  unfold State.epGo
  repeat' (first | with_reducible rfl | simp only [↓rate_with, ↓rate_withClk, ↓rate_ite, ite_self, ↓State.lilac_rate, ↓State.setEp_rate, ↓State.showEp_rate] | refine rate_foldl (fun _ _ => ?_) ?_ | split | rfl)

theorem State.setAgent_rate (s : State) (g : Nat) (a : Agent) :
    (State.setAgent s g a).rate = s.rate := by
  unfold State.setAgent
  repeat' (first | with_reducible rfl | simp only [↓rate_with, ↓rate_withClk, ↓rate_ite, ite_self] | refine rate_foldl (fun _ _ => ?_) ?_ | split | rfl)

theorem State.setMach_rate (s : State) (g : Nat) (m : Mach) :
    (State.setMach s g m).rate = s.rate := by
  unfold State.setMach
  repeat' (first | with_reducible rfl | simp only [↓rate_with, ↓rate_withClk, ↓rate_ite, ite_self, ↓State.setAgent_rate] | refine rate_foldl (fun _ _ => ?_) ?_ | split | rfl)

theorem State.coGo_rate (s : State) (g : Nat) (epoch : Nat) (st : CoSt) :
    (State.coGo s g epoch st).rate = s.rate := by
  unfold State.coGo
  repeat' (first | with_reducible rfl | simp only [↓rate_with, ↓rate_withClk, ↓rate_ite, ite_self, ↓State.lilac_rate, ↓State.odSetN_rate, ↓State.setMach_rate] | refine rate_foldl (fun _ _ => ?_) ?_ | split | rfl)

theorem State.coCollect_rate (s : State) (g : Nat) (epoch : Nat) :
    (State.coCollect s g epoch).rate = s.rate := by
  unfold State.coCollect
  repeat' (first | with_reducible rfl | simp only [↓rate_with, ↓rate_withClk, ↓rate_ite, ite_self, ↓State.coGo_rate, ↓State.odApply_rate] | refine rate_foldl (fun _ _ => ?_) ?_ | split | rfl)

theorem State.epSend_rate (s : State) (g : Nat) (ref : Nat) (kind : Nat) (term : Nat) (epoch : Nat) (value : Nat) (cause : Nat) (rterm : Nat) (count : Nat) (rank : Nat) :
    (State.epSend s g ref kind term epoch value cause rterm count rank).rate = s.rate := by
  unfold State.epSend
  repeat' (first | with_reducible rfl | simp only [↓rate_with, ↓rate_withClk, ↓rate_ite, ite_self, ↓State.request_rate] | refine rate_foldl (fun _ _ => ?_) ?_ | split | rfl)

theorem State.hold_rate (s : State) (g : Nat) (d : Dec) :
    (State.hold s g d).rate = s.rate := by
  unfold State.hold
  repeat' (first | with_reducible rfl | simp only [↓rate_with, ↓rate_withClk, ↓rate_ite, ite_self, ↓State.setAgent_rate] | refine rate_foldl (fun _ _ => ?_) ?_ | split | rfl)

theorem State.toStacks_rate (s : State) (p : Nat) (commit : Bool) :
    (State.toStacks s p commit).rate = s.rate := by
  unfold State.toStacks
  repeat' (first | with_reducible rfl | simp only [↓rate_with, ↓rate_withClk, ↓rate_ite, ite_self, ↓State.pulse_rate] | refine rate_foldl (fun _ _ => ?_) ?_ | split | rfl)

theorem State.unitEnd_rate (s : State) (r : DescRef) (u : Nat) (e : UEnd) :
    (State.unitEnd s r u e).rate = s.rate := by
  unfold State.unitEnd
  repeat' (first | with_reducible rfl | simp only [↓rate_with, ↓rate_withClk, ↓rate_ite, ite_self, ↓State.flightDone_rate, ↓State.updFlight_rate] | refine rate_foldl (fun _ _ => ?_) ?_ | split | rfl)

theorem State.commitClose_rate (s : State) (p : Nat) :
    (State.commitClose s p).rate = s.rate := by
  unfold State.commitClose
  repeat' (first | with_reducible rfl | simp only [↓rate_with, ↓rate_withClk, ↓rate_ite, ite_self, ↓State.epGo_rate, ↓State.odInc_rate, ↓State.setEp_rate, ↓State.toStacks_rate, ↓State.unitEnd_rate, ↓State.updFlight_rate] | refine rate_foldl (fun _ _ => ?_) ?_ | split | rfl)

theorem State.epAttention_rate (s : State) (p : Nat) (k : Nat) :
    (State.epAttention s p k).rate = s.rate := by
  unfold State.epAttention
  repeat' (first | with_reducible rfl | simp only [↓rate_with, ↓rate_withClk, ↓rate_ite, ite_self, ↓State.raise_rate] | refine rate_foldl (fun _ _ => ?_) ?_ | split | rfl)

theorem State.contradict_rate (s : State) (p : Nat) :
    (State.contradict s p).rate = s.rate := by
  unfold State.contradict
  repeat' (first | with_reducible rfl | simp only [↓rate_with, ↓rate_withClk, ↓rate_ite, ite_self, ↓State.epAttention_rate, ↓State.odInc_rate] | refine rate_foldl (fun _ _ => ?_) ?_ | split | rfl)

theorem State.epCause_rate (s : State) (p : Nat) (c : Nat) :
    (State.epCause s p c).rate = s.rate := by
  unfold State.epCause
  repeat' (first | with_reducible rfl | simp only [↓rate_with, ↓rate_withClk, ↓rate_ite, ite_self, ↓State.odInc_rate, ↓State.setEp_rate, ↓State.showEp_rate] | refine rate_foldl (fun _ _ => ?_) ?_ | split | rfl)

theorem State.startRestore_rate (s : State) (p : Nat) :
    (State.startRestore s p).rate = s.rate := by
  unfold State.startRestore
  repeat' (first | with_reducible rfl | simp only [↓rate_with, ↓rate_withClk, ↓rate_ite, ite_self, ↓State.epGo_rate, ↓State.odInc_rate, ↓State.setEp_rate, ↓State.toStacks_rate] | refine rate_foldl (fun _ _ => ?_) ?_ | split | rfl)

theorem State.toChildren_rate (s : State) (p : Nat) (kind : Nat) (value : Nat) (cause : Nat) :
    (State.toChildren s p kind value cause).rate = s.rate := by
  unfold State.toChildren
  repeat' (first | with_reducible rfl | simp only [↓rate_with, ↓rate_withClk, ↓rate_ite, ite_self, ↓State.epSend_rate] | refine rate_foldl (fun _ _ => ?_) ?_ | split | rfl)

theorem State.memberDecide_rate (s : State) (p : Nat) (value : Nat) (cause : Nat) (fwd : Bool) :
    (State.memberDecide s p value cause fwd).rate = s.rate := by
  unfold State.memberDecide
  repeat' (first | with_reducible rfl | simp only [↓rate_with, ↓rate_withClk, ↓rate_ite, ite_self, ↓State.commitClose_rate, ↓State.contradict_rate, ↓State.epCause_rate, ↓State.epGo_rate, ↓State.setEp_rate, ↓State.startRestore_rate, ↓State.toChildren_rate] | refine rate_foldl (fun _ _ => ?_) ?_ | split | rfl)

theorem State.coDecided_rate (s : State) (g : Nat) (epoch : Nat) :
    (State.coDecided s g epoch).rate = s.rate := by
  unfold State.coDecided
  repeat' (first | with_reducible rfl | simp only [↓rate_with, ↓rate_withClk, ↓rate_ite, ite_self, ↓State.coGo_rate, ↓State.epSend_rate, ↓State.hold_rate, ↓State.memberDecide_rate, ↓State.odApply_rate] | refine rate_foldl (fun _ _ => ?_) ?_ | split | rfl)

theorem State.coCheck_rate (s : State) (g : Nat) (epoch : Nat) :
    (State.coCheck s g epoch).rate = s.rate := by
  unfold State.coCheck
  repeat' (first | with_reducible rfl | simp only [↓rate_with, ↓rate_withClk, ↓rate_ite, ite_self, ↓State.coDecided_rate] | refine rate_foldl (fun _ _ => ?_) ?_ | split | rfl)

theorem State.sendRecords_rate (s : State) (g : Nat) (epoch : Nat) :
    (State.sendRecords s g epoch).rate = s.rate := by
  unfold State.sendRecords
  repeat' (first | with_reducible rfl | simp only [↓rate_with, ↓rate_withClk, ↓rate_ite, ite_self, ↓State.epSend_rate] | refine rate_foldl (fun _ _ => ?_) ?_ | split | rfl)

theorem State.coDecide_rate (s : State) (g : Nat) (d : Dec) :
    (State.coDecide s g d).rate = s.rate := by
  unfold State.coDecide
  repeat' (first | with_reducible rfl | simp only [↓rate_with, ↓rate_withClk, ↓rate_ite, ite_self, ↓State.coCheck_rate, ↓State.coGo_rate, ↓State.epCause_rate, ↓State.odApply_rate, ↓State.odInc_rate, ↓State.sendRecords_rate, ↓State.setAgent_rate, ↓State.setMach_rate] | refine rate_foldl (fun _ _ => ?_) ?_ | split | rfl)

theorem State.coAbort_rate (s : State) (g : Nat) (epoch : Nat) (cause : Nat) :
    (State.coAbort s g epoch cause).rate = s.rate := by
  unfold State.coAbort
  repeat' (first | with_reducible rfl | simp only [↓rate_with, ↓rate_withClk, ↓rate_ite, ite_self, ↓State.coCollect_rate, ↓State.coDecide_rate] | refine rate_foldl (fun _ _ => ?_) ?_ | split | rfl)

theorem State.sendAbort_rate (s : State) (p : Nat) (cause : Nat) :
    (State.sendAbort s p cause).rate = s.rate := by
  unfold State.sendAbort
  repeat' (first | with_reducible rfl | simp only [↓rate_with, ↓rate_withClk, ↓rate_ite, ite_self, ↓State.coAbort_rate, ↓State.epCause_rate, ↓State.epSend_rate] | refine rate_foldl (fun _ _ => ?_) ?_ | split | rfl)

theorem State.castAbort_rate (s : State) (p : Nat) (cause : Nat) :
    (State.castAbort s p cause).rate = s.rate := by
  unfold State.castAbort
  repeat' (first | with_reducible rfl | simp only [↓rate_with, ↓rate_withClk, ↓rate_ite, ite_self, ↓State.epGo_rate, ↓State.sendAbort_rate] | refine rate_foldl (fun _ _ => ?_) ?_ | split | rfl)

theorem State.fence_rate (s : State) (isCluster : Bool) (num : Nat) :
    (State.fence s isCluster num).rate = s.rate := by
  unfold State.fence
  repeat' (first | with_reducible rfl | simp only [↓rate_with, ↓rate_withClk, ↓rate_ite, ite_self, ↓State.odApply_rate, ↓State.odInc_rate] | refine rate_foldl (fun _ _ => ?_) ?_ | split | rfl)

theorem State.tableEnds_rate (s : State) (q : SCmd → Bool) :
    (State.tableEnds s q).rate = s.rate := by
  unfold State.tableEnds
  repeat' (first | with_reducible rfl | simp only [↓rate_with, ↓rate_withClk, ↓rate_ite, ite_self, ↓State.updFlight_rate] | refine rate_foldl (fun _ _ => ?_) ?_ | split | rfl)

theorem State.marchResult_rate (s : State) (n : Nat) (st : Nat) (bank : Nat) (alg : Nat) (mode : Nat) (row : Nat) :
    (State.marchResult s n st bank alg mode row).rate = s.rate := by
  unfold State.marchResult
  repeat' (first | with_reducible rfl | simp only [↓rate_with, ↓rate_withClk, ↓rate_ite, ite_self, ↓State.odSetN_rate] | refine rate_foldl (fun _ _ => ?_) ?_ | split | rfl)

theorem State.setQueue_rate (s : State) (q : Nat) (x : Queue) :
    (State.setQueue s q x).rate = s.rate := by
  unfold State.setQueue
  repeat' (first | with_reducible rfl | simp only [↓rate_with, ↓rate_withClk, ↓rate_ite, ite_self] | refine rate_foldl (fun _ _ => ?_) ?_ | split | rfl)

theorem State.updQueue_rate (s : State) (q : Nat) (f : Queue → Queue) :
    (State.updQueue s q f).rate = s.rate := by
  unfold State.updQueue
  repeat' (first | with_reducible rfl | simp only [↓rate_with, ↓rate_withClk, ↓rate_ite, ite_self, ↓State.setQueue_rate] | refine rate_foldl (fun _ _ => ?_) ?_ | split | rfl)

theorem State.qGo_rate (s : State) (q : Nat) (c : QCode) :
    (State.qGo s q c).rate = s.rate := by
  unfold State.qGo
  repeat' (first | with_reducible rfl | simp only [↓rate_with, ↓rate_withClk, ↓rate_ite, ite_self, ↓State.fnEvent_rate, ↓State.lilac_rate, ↓State.updQueue_rate] | refine rate_foldl (fun _ _ => ?_) ?_ | split | rfl)

theorem State.collsReset_rate (s : State) :
    (State.collsReset s).rate = s.rate := by
  unfold State.collsReset
  repeat' (first | with_reducible rfl | simp only [↓rate_with, ↓rate_withClk, ↓rate_ite, ite_self, ↓State.collEnd_rate, ↓State.flightForce_rate, ↓State.odInc_rate, ↓State.showPools_rate, ↓State.updFlight_rate] | refine rate_foldl (fun _ _ => ?_) ?_ | split | rfl)

theorem State.coreEnd_rate (s : State) (r : DescRef) (core : Nat) (e : UEnd) :
    (State.coreEnd s r core e).rate = s.rate := by
  unfold State.coreEnd
  repeat' (first | with_reducible rfl | simp only [↓rate_with, ↓rate_withClk, ↓rate_ite, ite_self, ↓State.unitEnd_rate] | refine rate_foldl (fun _ _ => ?_) ?_ | split | rfl)

theorem State.dropReqs_rate (s : State) (q : Req → Bool) :
    (State.dropReqs s q).rate = s.rate := by
  unfold State.dropReqs
  repeat' (first | with_reducible rfl | simp only [↓rate_with, ↓rate_withClk, ↓rate_ite, ite_self, ↓State.dropMop_rate, ↓State.releaseReqs_rate] | refine rate_foldl (fun _ _ => ?_) ?_ | split | rfl)

theorem State.paceLilac_rate (s : State) (code : Nat) :
    (State.paceLilac s code).rate = s.rate := by
  unfold State.paceLilac
  repeat' (first | with_reducible rfl | simp only [↓rate_with, ↓rate_withClk, ↓rate_ite, ite_self, ↓State.lilac_rate] | refine rate_foldl (fun _ _ => ?_) ?_ | split | rfl)

theorem State.lockstepNow_rate (s : State) :
    (State.lockstepNow s).rate = s.rate := by
  unfold State.lockstepNow
  repeat' (first | with_reducible rfl | simp only [↓rate_with, ↓rate_withClk, ↓rate_ite, ite_self, ↓State.odInc_rate, ↓State.paceLilac_rate, ↓State.pwr_rate] | refine rate_foldl (fun _ _ => ?_) ?_ | split | rfl)

theorem State.stopQueues_rate (s : State) (q : Nat → Bool) :
    (State.stopQueues s q).rate = s.rate := by
  unfold State.stopQueues
  repeat' (first | with_reducible rfl | simp only [↓rate_with, ↓rate_withClk, ↓rate_ite, ite_self, ↓State.qGo_rate] | refine rate_foldl (fun _ _ => ?_) ?_ | split | rfl)

theorem State.poolAbandon_rate (s : State) (c : Nat) :
    (State.poolAbandon s c).rate = s.rate := by
  unfold State.poolAbandon
  repeat' (first | with_reducible rfl | simp only [↓rate_with, ↓rate_withClk, ↓rate_ite, ite_self, ↓State.odSetN_rate] | refine rate_foldl (fun _ _ => ?_) ?_ | split | rfl)

theorem State.resetUnits_rate (s : State) (n : Nat) (sub : Nat) :
    (State.resetUnits s n sub).rate = s.rate := by
  unfold State.resetUnits
  repeat' (first | with_reducible rfl | simp only [↓rate_with, ↓rate_withClk, ↓rate_ite, ite_self, ↓State.coreEnd_rate, ↓State.qGo_rate] | refine rate_foldl (fun _ _ => ?_) ?_ | split | rfl)

theorem State.setTag_rate (s : State) (k : Nat) (v : Nat) :
    (State.setTag s k v).rate = s.rate := by
  unfold State.setTag
  repeat' (first | with_reducible rfl | simp only [↓rate_with, ↓rate_withClk, ↓rate_ite, ite_self, ↓State.odSetN_rate] | refine rate_foldl (fun _ _ => ?_) ?_ | split | rfl)

theorem State.showTags_rate (s : State) :
    (State.showTags s).rate = s.rate := by
  unfold State.showTags
  repeat' (first | with_reducible rfl | simp only [↓rate_with, ↓rate_withClk, ↓rate_ite, ite_self, ↓State.odSetN_rate] | refine rate_foldl (fun _ _ => ?_) ?_ | split | rfl)

theorem State.tagAdvance_rate (s : State) (k : Nat) :
    (State.tagAdvance s k).rate = s.rate := by
  unfold State.tagAdvance
  repeat' (first | with_reducible rfl | simp only [↓rate_with, ↓rate_withClk, ↓rate_ite, ite_self, ↓State.dropReqs_rate, ↓State.fence_rate, ↓State.setTag_rate, ↓State.showTags_rate] | refine rate_foldl (fun _ _ => ?_) ?_ | split | rfl)

theorem State.unfence_rate (s : State) (q : Fence → Bool) :
    (State.unfence s q).rate = s.rate := by
  unfold State.unfence
  repeat' (first | with_reducible rfl | simp only [↓rate_with, ↓rate_withClk, ↓rate_ite, ite_self] | refine rate_foldl (fun _ _ => ?_) ?_ | split | rfl)

theorem State.unissued_rate (s : State) (n : Nat) :
    (State.unissued s n).rate = s.rate := by
  unfold State.unissued
  repeat' (first | with_reducible rfl | simp only [↓rate_with, ↓rate_withClk, ↓rate_ite, ite_self] | refine rate_foldl (fun _ _ => ?_) ?_ | split | rfl)

theorem State.wr_rate (s : State) (a : Nat) (bs : List Byte) :
    (State.wr s a bs).rate = s.rate := by
  unfold State.wr
  repeat' (first | with_reducible rfl | simp only [↓rate_with, ↓rate_ite, ite_self] | refine rate_foldl (fun _ _ => ?_) ?_ | split)

theorem State.bankZero_rate (s : State) (n b : Nat) :
    (State.bankZero s n b).rate = s.rate := by
  unfold State.bankZero
  repeat' (first | with_reducible rfl | simp only [↓rate_with, ↓rate_ite, ite_self] | refine rate_foldl (fun _ _ => ?_) ?_ | split)

theorem State.bankFree_rate (s : State) (n b : Nat) :
    (State.bankFree s n b).rate = s.rate := by
  unfold State.bankFree
  repeat' (first | with_reducible rfl | simp only [↓rate_with, ↓rate_ite, ite_self, ↓State.wr_rate, ↓State.freeVal_rate] | refine rate_foldl (fun _ _ => ?_) ?_ | split)

theorem State.marchAbandon_rate (s : State) (n : Nat) :
    (State.marchAbandon s n).rate = s.rate := by
  unfold State.marchAbandon
  repeat' (first | with_reducible rfl | simp only [↓rate_with, ↓rate_ite, ite_self, ↓State.marchResult_rate, ↓State.bankFree_rate] | refine rate_foldl (fun _ _ => ?_) ?_ | split)

theorem State.coreClear_rate (s : State) (n : Nat) (keep : Bool) :
    (State.coreClear s n keep).rate = s.rate := by
  unfold State.coreClear
  repeat' (first | with_reducible rfl | simp only [↓rate_with, ↓rate_ite, ite_self, ↓State.xingClear_rate, ↓State.setCore_rate, ↓State.bankZero_rate, ↓State.unissued_rate, ↓State.marchAbandon_rate] | refine rate_foldl (fun _ _ => ?_) ?_ | split)

theorem State.coreFence_rate (s : State) (n : Nat) (keep : Bool) :
    (State.coreFence s n keep).rate = s.rate := by
  unfold State.coreFence
  repeat' (first | with_reducible rfl | simp only [↓rate_with, ↓rate_ite, ite_self, ↓State.odAdd_rate, ↓State.fence_rate, ↓State.coreClear_rate] | refine rate_foldl (fun _ _ => ?_) ?_ | split)

theorem State.beginCore_rate (s : State) (n : Nat) :
    (State.beginCore s n).rate = s.rate := by
  unfold State.beginCore
  repeat' (first | with_reducible rfl | simp only [↓rate_with, ↓rate_ite, ite_self, ↓State.coreFence_rate, ↓State.resetUnits_rate] | refine rate_foldl (fun _ _ => ?_) ?_ | split)

theorem State.clusterClear_rate (s : State) (c : Nat) :
    (State.clusterClear s c).rate = s.rate := by
  unfold State.clusterClear
  repeat' (first | with_reducible rfl | simp only [↓rate_with, ↓rate_ite, ite_self, ↓State.xingClear_rate, ↓State.abandon_rate, ↓State.coreClear_rate, ↓State.resetUnits_rate, ↓State.poolAbandon_rate] | refine rate_foldl (fun _ _ => ?_) ?_ | split)

theorem State.beginCluster_rate (s : State) (c : Nat) :
    (State.beginCluster s c).rate = s.rate := by
  unfold State.beginCluster
  repeat' (first | with_reducible rfl | simp only [↓rate_with, ↓rate_ite, ite_self, ↓State.tagAdvance_rate, ↓State.unfence_rate, ↓State.clusterClear_rate] | refine rate_foldl (fun _ _ => ?_) ?_ | split)

theorem State.beginCompute_rate (s : State) :
    (State.beginCompute s).rate = s.rate := by
  unfold State.beginCompute
  repeat' (first | with_reducible rfl | simp only [↓rate_with, ↓rate_ite, ite_self, ↓State.tagAdvance_rate, ↓State.unfence_rate, ↓State.xingClear_rate, ↓State.poolAbandon_rate, ↓State.coreClear_rate, ↓State.flightForce_rate, ↓State.tableEnds_rate, ↓State.stopQueues_rate, ↓State.abandon_rate, ↓State.collsReset_rate, ↓State.castAbort_rate] | refine rate_foldl (fun _ _ => ?_) ?_ | split)

theorem State.beginScope_rate (s : State) (scope target : Nat) :
    (State.beginScope s scope target).rate = s.rate := by
  unfold State.beginScope
  repeat' (first | with_reducible rfl | simp only [↓rate_with, ↓rate_ite, ite_self, ↓State.beginCore_rate, ↓State.beginCluster_rate, ↓State.beginCompute_rate] | refine rate_foldl (fun _ _ => ?_) ?_ | split)

theorem State.leaveService_rate (s : State) :
    (State.leaveService s).rate = s.rate := by
  unfold State.leaveService
  repeat' (first | with_reducible rfl | simp only [↓rate_with, ↓rate_ite, ite_self, ↓State.stopQueues_rate, ↓State.odSetN_rate] | refine rate_foldl (fun _ _ => ?_) ?_ | split)

theorem State.enterRed_rate (s : State) (code : Nat) :
    (State.enterRed s code).rate = s.rate := by
  unfold State.enterRed
  repeat' (first | with_reducible rfl | simp only [↓rate_with, ↓rate_ite, ite_self, ↓State.beginCompute_rate, ↓State.addReset_rate, ↓State.endResets_rate, ↓State.leaveService_rate, ↓State.enter_rate, ↓State.odSetN_rate] | refine rate_foldl (fun _ _ => ?_) ?_ | split)

theorem State.redFault_rate (s : State) (code kind num : Nat) (part : Option Nat) (esc : Bool) (detail : Nat) :
    (State.redFault s code kind num part esc detail).rate = s.rate := by
  unfold State.redFault
  repeat' (first | with_reducible rfl | simp only [↓rate_with, ↓rate_ite, ite_self, ↓State.faultRecord_rate, ↓State.enterRed_rate] | refine rate_foldl (fun _ _ => ?_) ?_ | split)

end Sys2Proof.Machine

/-! SUPPORT. Meter samples, droop, energy, and the frequencies of a pace group (R416 to R432). -/
namespace Sys2Proof.Machine

/-! ### What the ceiling and the gating compute -/

theorem wattLimit_congr {s t : State} (h0 : t.odNum 0x3000 0 = s.odNum 0x3000 0) (h1 : ∀ i, i < 256 → t.odNum 0x3401 i = s.odNum 0x3401 i)
    (ht : t.thermal = s.thermal) : t.wattLimit = s.wattLimit ∧ t.safetyFloor = s.safetyFloor := by
  have hf : t.safetyFloor = s.safetyFloor := by
    unfold State.safetyFloor State.inletFailed State.outletFailed State.sensorSt
    rw [ht, h1 193 (by decide), h1 194 (by decide), h1 195 (by decide), h1 196 (by decide)]
  unfold State.wattLimit
  exact ⟨by rw [hf, h0], hf⟩

theorem State.Paces.wattLimit {s t : State} (h : s.Paces t) : t.wattLimit = s.wattLimit ∧ t.safetyFloor = s.safetyFloor :=
  wattLimit_congr (h.odNum (by decide) (by unfold Paced Routed Noisy; decide)) (fun _ hi => h.odNum hi (by unfold Paced Routed Noisy; decide)) h.thermal

/-- Packets and reports leave the power state. -/
theorem State.Carries.odPower {s t : State} (h : t.calm = s.calm) : t.power = s.power := show t.calm.power = s.calm.power by rw [h]

theorem paceSend_power (s : State) (g ref kind freq tick : Nat) : (s.paceSend g ref kind freq tick).power = s.power :=
  State.Carries.odPower (State.request_calm _ _ _)

theorem setsDown_power (s : State) (g freq tick : Nat) : (s.setsDown g freq tick).power = s.power := by
  unfold State.setsDown
  generalize gdChildren (s.gd g) = l
  induction l generalizing s with
  | nil => rfl
  | cons r l ih => exact (ih _).trans (paceSend_power s g r 2 freq tick)

theorem pwr_power (s : State) (f : Power → Power) : (s.pwr f).power = f s.power := rfl

theorem odApply_power (s : State) (i k : Nat) : (s.odApply i k).power = s.power := by rw [odApply_od]

theorem leaderSet_power (s : State) (g m : Nat) : ∃ t, (s.leaderSet g m).power = { s.power with next := some (m, t), above := none } := by
  unfold State.leaderSet
  simp only [setsDown_power, pwr_power, odApply_power]
  exact ⟨_, rfl⟩

theorem sendReport_power (s : State) : ∃ m, s.sendReport.power = { s.power with sent := m } := by
  unfold State.sendReport
  split
  · exact ⟨_, rfl⟩
  · split
    · exact ⟨_, rfl⟩
    · simp only [paceSend_power, pwr_power, odApply_power]
      exact ⟨_, rfl⟩

/-- The evaluation of a pace group changes what is agreed with the group, and neither the ceiling nor the gating. -/
theorem paceEval_power (s : State) : ∃ n a m, s.paceEval.power = { s.power with next := n, above := a, sent := m } := by
  have ho := odApply_power s 0x3014 0
  unfold State.paceEval
  split
  · exact ⟨_, _, _, rfl⟩
  next g _ =>
    split
    · simp only []
      generalize s.odApply 0x3014 0 = t at ho
      rw [← ho]
      split
      · obtain ⟨n, h⟩ := leaderSet_power t g t.leaderM
        exact ⟨_, _, _, h⟩
      · split <;> exact ⟨_, _, _, rfl⟩
    · split
      · exact ⟨_, _, _, rfl⟩
      · obtain ⟨m, h⟩ := sendReport_power s
        exact ⟨_, _, _, h⟩

theorem ceilingNow_ceil (s : State) : s.ceilingNow.power.ceil = s.ceiling := by
  obtain ⟨n, a, m, h⟩ := paceEval_power (s.pwr (fun p => { p with ceil := s.ceiling }))
  unfold State.ceilingNow
  rw [h]
  rfl

theorem lilac_power (s : State) (kind code src addr data : Nat) (part : Option Nat) : (s.lilac kind code src addr data part).power = s.power :=
  State.Carries.odPower (State.lilac_calm _ _ _ _ _ _ _)

theorem lockstepNow_power (s : State) : ∃ b, s.lockstepNow.power = { s.power with broken := b } := by
  unfold State.lockstepNow
  simp only []
  generalize (s.paceGroup.isSome && _) = b
  refine ⟨b, ?_⟩
  split
  · exact lilac_power _ _ _ _ _ _ _
  · rfl

theorem regate_gate {s : State} (h1 : s.life.offRuns = false) (h2 : s.power.dies = 0) (h3 : s.life.svc ≠ .black) :
    s.regate.power.gate = if s.power.limiting then max (gateFor s.power.idle s.power.run s.wattLimit) (min 15 (s.power.gate + 1))
      else gateFor s.power.idle s.power.run s.wattLimit := by
  unfold State.regate
  simp only [h1, h2]
  rw [if_neg (by simpa using h3)]
  rfl

/-! ### Meter samples -/

/-- The samples of the last millisecond with a new one of a draw. -/
def State.sampled (s : State) (draw : Nat) : List (Nat × Nat) :=
  s.power.samples.filter (fun e => decide (s.now < e.1 + 1_000_000)) ++ [(s.now, draw)]

/-- The average draw over the samples `l` of the last `span` ns, in W. -/
def State.averageOf (s : State) (l : List (Nat × Nat)) (span : Nat) : Nat :=
  let x := (l.filter (fun e => decide (s.now < e.1 + span))).map (·.2)
  x.sum / (x.length * 1_000_000)

/-- The input shown and the power state changed. -/
def State.shownPower (s : State) (volts watts peak : Nat) (p : Power) : State :=
  (({ s.odSetN 0x3004 0 volts with power := p } : State).odSetN 0x3001 0 watts).odSetN 0x3002 0 peak

theorem shownPower_same (s : State) (v w k : Nat) (p : Power) :
    (s.shownPower v w k p).thermal = s.thermal ∧ (s.shownPower v w k p).life = s.life ∧ (s.shownPower v w k p).power = p ∧
    (s.shownPower v w k p).mem = s.mem ∧ (s.shownPower v w k p).cores = s.cores := ⟨rfl, rfl, rfl, rfl, rfl⟩

theorem shownPower_odNum (s : State) (v w k : Nat) (p : Power) :
    (s.shownPower v w k p).odNum 0x3001 0 = w ∧ (s.shownPower v w k p).odNum 0x3004 0 = v ∧
    ∀ i j, j < 256 → i ≠ 0x3001 ∧ i ≠ 0x3002 ∧ i ≠ 0x3004 → (s.shownPower v w k p).odNum i j = s.odNum i j := by
  unfold State.shownPower State.odNum
  refine ⟨?_, ?_, fun i j hj hi => ?_⟩
  · rw [odGet_odSetN_other _ _ (by decide)]
    exact State.odNum_odSetN_same _ _ _ _
  · rw [odGet_odSetN_other _ _ (by decide), odGet_odSetN_other _ _ (by decide)]
    exact State.odNum_odSetN_same _ _ _ _
  · rw [odGet_odSetN_other _ _ (odKey_ne (by decide) hj hi.2.1), odGet_odSetN_other _ _ (odKey_ne (by decide) hj hi.1)]
    exact congrArg OdVal.toNat (odGet_odSetN_other _ _ (odKey_ne (by decide) hj hi.2.2))

/-- A meter sample is recorded and its averages shown, before the limit follows. -/
def State.metered (s : State) (mv ma idle run : Nat) : State :=
  let l := s.sampled (mv * ma)
  let a := s.averageOf l 10_000
  let ps := (s.power.peaks.filter (fun e => decide (s.now ≤ e.1 + 1_000_000_000) && decide (a < e.2))) ++ [(s.now, a)]
  s.shownPower (min mv 65535) (min (s.averageOf l 1_000_000) 65535) (min (ps.foldl (fun m e => max m e.2) 0) 65535)
    { s.power with samples := l, peaks := ps, limiting := decide (a > 2450), idle := idle, run := run }

/-- What follows a sample: the limit, and the gating where the average exceeds it or the peak limiter acts or has acted. -/
theorem meter_exec {s : State} (mv ma idle run : Nat) (h : s.odPending 0x3000 0 = none) :
    exec (.powerMeterSample mv ma idle run) s =
      .next (if s.averageOf (s.sampled (mv * ma)) 1_000_000 > (s.metered mv ma idle run).limitNow.wattLimit ||
          (s.metered mv ma idle run).limitNow.power.limiting || s.power.limiting
        then (s.metered mv ma idle run).limitNow.regate.lockstepNow else (s.metered mv ma idle run).limitNow) := by
  show execPowerMeterSample mv ma idle run s = _
  unfold execPowerMeterSample
  rw [odApply_none h]
  rfl

/-- What a sample recorded is. -/
theorem metered_shown (s : State) (mv ma idle run : Nat) : ∃ k p, s.metered mv ma idle run =
    s.shownPower (min mv 65535) (min (s.averageOf (s.sampled (mv * ma)) 1_000_000) 65535) k
      { s.power with samples := s.sampled (mv * ma), peaks := p, idle := idle, run := run,
                     limiting := decide (2450 < s.averageOf (s.sampled (mv * ma)) 10_000) } :=
  ⟨_, _, rfl⟩

theorem metered_wattLimit (s : State) (mv ma idle run : Nat) :
    (s.metered mv ma idle run).wattLimit = s.wattLimit ∧ (s.metered mv ma idle run).safetyFloor = s.safetyFloor := by
  obtain ⟨k, p, h⟩ := metered_shown s mv ma idle run
  rw [h]
  obtain ⟨-, -, ho⟩ := shownPower_odNum s (min mv 65535) _ k _
  exact wattLimit_congr (ho _ _ (by decide) (by decide)) (fun _ hj => ho _ _ hj (by decide)) (shownPower_same _ _ _ _ _).1

/-- The end of a sample is the sample recorded, but for the ceiling, what is agreed with the pace group, and the gating. -/
theorem meter_paces (s : State) (mv ma idle run : Nat) (c : Bool) :
    (s.metered mv ma idle run).Paces (if c then (s.metered mv ma idle run).limitNow.regate.lockstepNow
      else (s.metered mv ma idle run).limitNow) := by
  have h := limitNow_paces (s.metered mv ma idle run)
  split
  · exact (h.trans (regate_paces _)).trans (lockstepNow_paces _)
  · exact h

theorem limitNow_same {s : State} (h : s.odNum 0x3003 0 = s.wattLimit * 2 ^ 16 + (if s.safetyFloor then 2 else 1)) : s.limitNow = s := by
  unfold State.limitNow
  exact if_pos h

/-- The duty after a sample that leads to gating. -/
theorem metered_gate (s u : State) (mv ma idle run : Nat) (hu : (s.metered mv ma idle run).Paces u) (h1 : s.life.offRuns = false)
    (h2 : s.power.dies = 0) (h3 : s.life.svc ≠ .black) :
    u.regate.lockstepNow.power.gate = if 2450 < s.averageOf (s.sampled (mv * ma)) 10_000
      then max (gateFor idle run s.wattLimit) (min 15 (u.power.gate + 1)) else gateFor idle run s.wattLimit := by
  obtain ⟨b, hb⟩ := lockstepNow_power u.regate
  obtain ⟨k, p, hm⟩ := metered_shown s mv ma idle run
  obtain ⟨-, hml, hmp, -, -⟩ := shownPower_same s (min mv 65535) (min (s.averageOf (s.sampled (mv * ma)) 1_000_000) 65535) k
    { s.power with samples := s.sampled (mv * ma), peaks := p, idle := idle, run := run,
                   limiting := decide (2450 < s.averageOf (s.sampled (mv * ma)) 10_000) }
  rw [← hm] at hml hmp
  have hl : u.life = s.life := hu.life.trans hml
  have hp : u.power.limiting = decide (2450 < s.averageOf (s.sampled (mv * ma)) 10_000) := by rw [hu.power, hmp]
  have hi : u.power.idle = idle ∧ u.power.run = run ∧ u.power.dies = s.power.dies := by rw [hu.power, hmp]; exact ⟨rfl, rfl, rfl⟩
  rw [hb]
  show u.regate.power.gate = _
  rw [regate_gate (by rw [hl]; exact h1) (by rw [hi.2.2]; exact h2) (by rw [hl]; exact h3), hi.1, hi.2.1, hu.wattLimit.1,
    (metered_wattLimit s mv ma idle run).1, hp]
  simp only [decide_eq_true_eq]


/-! ### Droop and the guard band -/

/-- A stretch is counted, and the stretches of the last millisecond are `l`. -/
def State.stretched (s : State) (l : List Nat) : State :=
  (s.odInc 0x3031 0).pwr (fun p => { p with stretches := l, lastStretch := s.now })

theorem stretched_spec (s : State) (l : List Nat) : s.stretched l = { s with od := (s.stretched l).od, power := (s.stretched l).power } ∧
    (s.stretched l).power.lastStretch = s.now ∧ (s.stretched l).odNum 0x3031 0 = (s.odNum 0x3031 0 + 1) % 2 ^ 64 ∧
    (s.stretched l).odNum 0x3032 0 = s.odNum 0x3032 0 :=
  ⟨rfl, rfl, odNum_odInc_same s (i := 0x3031) 0 (by decide), congrArg OdVal.toNat (odGet_odInc_other s (by decide))⟩

/-- A stretch widens the guard band when it is the 16th. -/
theorem stretch_exec (i : Fin 372) (s : State) :
    let recent := s.power.stretches.filter (fun x => decide (s.now ≤ x + 1_000_000))
    exec (.droopStretch i) s = .next (if recent.length < 15 then s.stretched (recent ++ [s.now])
      else (s.stretched []).odSetN 0x3032 0 (min 3 ((s.stretched []).odNum 0x3032 0 + 1))) := by
  intro recent
  show execDroopStretch i s = _
  unfold execDroopStretch
  have hn : (s.odInc 0x3031 0).now = s.now := rfl
  have hp : (s.odInc 0x3031 0).power = s.power := rfl
  simp only [hn, hp]
  have hl : (recent ++ [s.now]).length = recent.length + 1 := by simp
  have hd : decide ((recent ++ [s.now]).length ≥ 16) = decide (¬ recent.length < 15) := by
    rw [hl]
    exact decide_eq_decide.mpr (by omega)
  rw [hd]
  by_cases hw : recent.length < 15
  · simp only [hw, not_true_eq_false, decide_false, Bool.false_eq_true, if_false, if_true]
    rfl
  · simp only [hw, not_false_eq_true, decide_true, if_false, if_true]
    rfl

/-! ### Energy -/

theorem getAt_of_length {α : Type} (d : α) (l : List α) : (List.range l.length).map (getAt d l) = l := by
  induction l with
  | nil => rfl
  | cons x l ih =>
    rw [List.length_cons, List.range_succ_eq_map, List.map_cons, List.map_map]
    exact congrArg (x :: ·) ih

theorem sum_range_getAt (l : List Nat) (n : Nat) (h : l.length = n) : ((List.range n).map (fun i => getAt 0 l i)).sum = l.sum := by
  subst h
  exact congrArg List.sum (getAt_of_length 0 l)

theorem sum_map_add (l : List Nat) (f g : Nat → Nat) : (l.map (fun i => f i + g i)).sum = (l.map f).sum + (l.map g).sum := by
  induction l with
  | nil => rfl
  | cons x l ih => simp only [List.map_cons, List.sum_cons, ih]; omega

/-- The first weights together are no more than all. -/
theorem sum_getAt_le (n : Nat) (l : List Nat) : ((List.range n).map (getAt 0 l)).sum ≤ l.sum := by
  induction l generalizing n with
  | nil =>
    have : (List.range n).map (getAt 0 ([] : List Nat)) = List.replicate n 0 := by
      refine List.eq_replicate_iff.mpr ⟨by simp, fun b hb => ?_⟩
      obtain ⟨i, -, rfl⟩ := List.mem_map.mp hb
      cases i <;> rfl
    simp [this]
  | cons x l ih =>
    cases n with
    | zero => simp
    | succ n =>
      rw [List.range_succ_eq_map, List.map_cons, List.map_map, List.sum_cons, List.sum_cons]
      exact Nat.add_le_add_left (ih n) x

/-- Parts in proportion, each rounded down, are together no more than the whole. -/
theorem sum_parts_le (e w : Nat) (l : List Nat) (f : Nat → Nat) (h : (l.map f).sum ≤ w) : (l.map (fun i => e * f i / w)).sum ≤ e := by
  have hs : ∀ l : List Nat, (l.map (fun i => e * f i / w)).sum * w ≤ e * (l.map f).sum := by
    intro l
    induction l with
    | nil => simp
    | cons x l ih =>
      simp only [List.map_cons, List.sum_cons, Nat.add_mul, Nat.mul_add]
      exact Nat.add_le_add (Nat.div_mul_le_self _ _) ih
  cases Nat.eq_zero_or_pos w with
  | inl h0 => subst h0; simp
  | inr hp => exact Nat.le_of_mul_le_mul_right ((hs l).trans (Nat.mul_le_mul_left e h)) hp

theorem shareOut_sum (e : Nat) (ws : List Nat) : (shareOut e ws).length = 17 ∧ (shareOut e ws).sum = e := by
  have h := sum_parts_le e ws.sum (List.range 16) (getAt 0 ws) (sum_getAt_le 16 ws)
  unfold shareOut
  simp only []
  rw [List.sum_append, List.length_append, List.length_map, List.length_range]
  exact ⟨rfl, by rw [List.sum_singleton]; omega⟩

theorem energyShares_sum (s : State) (m : EnergyMeter) : (s.energyShares m).length = 17 ∧
    (s.energyShares m).sum = m.coreE + m.stackE + m.linkE + m.hostE + m.restE := by
  unfold State.energyShares
  simp only []
  refine ⟨by rw [List.length_map, List.length_range], ?_⟩
  rw [sum_map_add, sum_map_add, sum_map_add, sum_map_add]
  have hr : ∀ ws e, ((List.range 17).map (fun i => getAt 0 (shareOut e ws) i)).sum = e := fun ws e =>
    (sum_range_getAt _ 17 (shareOut_sum e ws).1).trans (shareOut_sum e ws).2
  have h16 : ((List.range 17).map (fun i => if i = 16 then m.restE else 0)).sum = m.restE := by simp [List.range_succ]
  rw [hr, hr, hr, hr, h16]

/-- An element counts whole millijoules `e` more, and keeps the microjoules `x`. -/
def State.energized (s : State) (i x e : Nat) : State :=
  ((s.pwr (fun p => { p with micro := tset 0 p.micro i x })).odAdd 0x3040 (i + 1) e).odAdd 0x3041 0 e

theorem odAdd_od (s : State) (i k n : Nat) : s.odAdd i k n = { s with od := (s.odAdd i k n).od } := rfl

theorem energized_frame (s : State) (i x e : Nat) :
    s.energized i x e = { s with od := (s.energized i x e).od, power := { s.power with micro := tset 0 s.power.micro i x } } := by
  unfold State.energized
  have hb := odAdd_od (s.pwr (fun p => { p with micro := tset 0 p.micro i x })) 0x3040 (i + 1) e
  generalize State.odAdd _ 0x3040 (i + 1) e = b at hb ⊢
  have hc := odAdd_od b 0x3041 0 e
  generalize State.odAdd b 0x3041 0 e = c at hc ⊢
  refine hc.trans ?_
  rw [hb]
  rfl

theorem energized_spec (s : State) {i : Nat} (x e : Nat) (hi : i < 17) :
    s.energized i x e = { s with od := (s.energized i x e).od, power := { s.power with micro := tset 0 s.power.micro i x } } ∧
    (s.energized i x e).odNum 0x3041 0 = (s.odNum 0x3041 0 + e) % 2 ^ 64 ∧
    (s.energized i x e).odNum 0x3040 (i + 1) = (s.odNum 0x3040 (i + 1) + e) % 2 ^ 64 ∧
    ∀ j, j < 17 → j ≠ i → (s.energized i x e).odNum 0x3040 (j + 1) = s.odNum 0x3040 (j + 1) := by
  refine ⟨energized_frame s i x e, ?_⟩
  unfold State.energized
  refine ⟨?_, ?_, fun j hj hne => ?_⟩
  · rw [odNum_odAdd_same _ 0 e (by decide)]
    exact congrArg (fun x => (x + e) % 2 ^ 64) (congrArg OdVal.toNat (odGet_odAdd_other _ e (odKey_ne (by omega) (by decide) (by decide))))
  · refine (congrArg OdVal.toNat (odGet_odAdd_other _ e (odKey_ne (by decide) (by omega) (by decide)))).trans ?_
    exact odNum_odAdd_same _ (i + 1) e (by decide)
  · refine (congrArg OdVal.toNat (odGet_odAdd_other _ e (odKey_ne (by decide) (by omega) (by decide)))).trans ?_
    exact congrArg OdVal.toNat (odGet_odAdd_other _ e (by unfold odKey; omega))

/-- The microjoules that an element holds with its share of `l`. -/
def State.held (s : State) (l : List Nat) (i : Nat) : Nat := tget 0 s.power.micro i + getAt 0 l i

/-- The first `n` elements have their shares of `l`. -/
def State.sharedOut (s : State) (l : List Nat) (n : Nat) : State :=
  (List.range n).foldl (fun s i => s.energized i (s.held l i % 1000) (s.held l i / 1000)) s

theorem energy_exec (m : EnergyMeter) (s : State) : exec (.energyAttribution m) s = .next (s.sharedOut (s.energyShares m) 17) := rfl

theorem sharedOut_succ (s : State) (l : List Nat) (n : Nat) : s.sharedOut l (n + 1) =
    (s.sharedOut l n).energized n ((s.sharedOut l n).held l n % 1000) ((s.sharedOut l n).held l n / 1000) := by
  unfold State.sharedOut
  rw [List.range_succ, List.foldl_append]
  rfl

theorem sharedOut_spec (s : State) (l : List Nat) (n : Nat) (hn : n ≤ 17) :
    s.sharedOut l n = { s with od := (s.sharedOut l n).od, power := { s.power with micro := (s.sharedOut l n).power.micro } } ∧
    (s.sharedOut l n).odNum 0x3041 0 % 2 ^ 64 = (s.odNum 0x3041 0 + ((List.range n).map (fun i => s.held l i / 1000)).sum) % 2 ^ 64 ∧
    ∀ i, i < 17 → ((s.sharedOut l n).odNum 0x3040 (i + 1) = if i < n then (s.odNum 0x3040 (i + 1) + s.held l i / 1000) % 2 ^ 64
        else s.odNum 0x3040 (i + 1)) ∧
      tget 0 (s.sharedOut l n).power.micro i = if i < n then s.held l i % 1000 else tget 0 s.power.micro i := by
  induction n with
  | zero => exact ⟨rfl, by simp [State.sharedOut], fun i _ => ⟨rfl, rfl⟩⟩
  | succ n ih =>
    obtain ⟨h1, h2, h3⟩ := ih (by omega)
    have hheld : (s.sharedOut l n).held l n = s.held l n := by
      unfold State.held
      rw [(h3 n (by omega)).2, if_neg (by omega)]
    rw [sharedOut_succ, hheld]
    obtain ⟨e1, e2, e3, e4⟩ := energized_spec (s.sharedOut l n) (s.held l n % 1000) (s.held l n / 1000) (i := n) (by omega)
    generalize (s.sharedOut l n).energized n (s.held l n % 1000) (s.held l n / 1000) = t at e1 e2 e3 e4
    generalize s.sharedOut l n = u at h1 h2 h3 e1 e2 e3 e4
    have hm : t.power.micro = tset 0 u.power.micro n (s.held l n % 1000) := by rw [e1]
    refine ⟨by rw [e1, h1], ?_, fun i hi => ?_⟩
    · rw [e2, Nat.mod_mod, Nat.add_mod, h2, ← Nat.add_mod, List.range_succ, List.map_append, List.sum_append, List.map_singleton,
        List.sum_singleton, Nat.add_assoc]
    · obtain ⟨h3a, h3b⟩ := h3 i hi
      by_cases hin : i = n
      · subst hin
        rw [e3, hm, tget_tset_same, h3a, if_neg (by omega), if_pos (by omega), if_pos (by omega)]
        exact ⟨rfl, rfl⟩
      · rw [e4 i hi hin, hm, tget_tset_other _ _ _ hin, h3a, h3b]
        by_cases hlt : i < n
        · rw [if_pos hlt, if_pos hlt, if_pos (by omega), if_pos (by omega)]
          exact ⟨rfl, rfl⟩
        · rw [if_neg hlt, if_neg hlt, if_neg (by omega), if_neg (by omega)]
          exact ⟨rfl, rfl⟩

theorem sharedOut_total (s : State) (l : List Nat) : (s.sharedOut l 17).odNum 0x3041 0 =
    (s.odNum 0x3041 0 + ((List.range 17).map (fun i => s.held l i / 1000)).sum) % 2 ^ 64 := by
  rw [← (sharedOut_spec s l 17 (Nat.le_refl _)).2.1, sharedOut_succ]
  obtain ⟨-, h, -⟩ := energized_spec (s.sharedOut l 16) ((s.sharedOut l 16).held l 16 % 1000) ((s.sharedOut l 16).held l 16 / 1000) (i := 16) (by decide)
  rw [h, Nat.mod_mod]

end Sys2Proof.Machine

/-! SUPPORT. Ticks, reports and settings of a pace group (R425 to R428). -/
namespace Sys2Proof.Machine

/-! ### A tick without a pace group -/

theorem regate_rate (s : State) : s.regate.rate = s.rate := by
  unfold State.regate
  split
  · rfl
  · exact State.pwr_rate s _ (by intro; rfl)

theorem rate_withFaults (s : State) (f : Faults) : State.rate { s with faults := f } = s.rate := rfl

theorem rate_withMHz (s : State) (f : Nat) : State.rate { s with clk := { s.clk with coreMHz := f } } = (s.rate.1, f) := rfl

/-- A fault's reset of less than the module leaves the frequencies. -/
theorem faultReset_rate (s : State) (code action : Nat) {scope : Nat} (target kind num : Nat) (part : Option Nat) (detail : Nat)
    (h : scope ≠ 4) : (s.faultReset code action scope target kind num part detail).rate = s.rate := by
  have ho : ((s.odApply 0x7040 0).odApply 0x7041 0).rate = s.rate := (State.odApply_rate _ _ _).trans (State.odApply_rate s _ _)
  unfold State.faultReset
  split
  · exact State.faultRecord_rate _ _ _ _ _ _ _ _
  · simp only []
    generalize (s.odApply 0x7040 0).odApply 0x7041 0 = t at ho
    rw [← ho]
    split
    · exact State.redFault_rate _ _ _ _ _ _ _
    · refine (State.faultRecord_rate _ _ _ _ _ _ _ _).trans ((State.beginScope_rate _ _ _).trans ((State.addReset_rate _ _ _ _ _ _).trans ?_))
      exact (rate_withFaults _ _).trans (State.odInc_rate t _ _)

theorem switchFreq_rate (s : State) (f : Nat) : (s.switchFreq f).rate = (s.power.f, f) := by
  unfold State.switchFreq
  simp only []
  refine (rate_foldl (fun t i => faultReset_rate t 4 3 (scope := 2) _ 7 8 none 0 (by decide)) rfl).trans ?_
  exact (rate_withMHz _ f).trans (congrArg (fun p => (p.1, f)) (rate_foldl (fun t i => State.pulse_rate t 8 i) rfl))

/-- The member's frequency follows, where it changes. -/
def State.follows (s : State) (f : Nat) : State :=
  if f = s.clk.coreMHz then s
  else (s.pwr (fun p => { p with run := p.run * profileAt profile f / profileAt profile s.clk.coreMHz })).switchFreq f

theorem follows_rate (s : State) (f : Nat) : (s.follows f).rate = (s.power.f, f) := by
  unfold State.follows
  split
  · next h => rw [h]; rfl
  · exact switchFreq_rate _ f

/-- The end of a tick: the frequency follows, a SET applied is told, and the gating is computed again. -/
def State.ticked (s : State) (sets : Nat) : State :=
  let u := s.follows (min s.power.f s.power.ceil)
  (if u.odNum 0x3016 1 = sets then u else u.paceLilac 1).regate.lockstepNow

theorem ticked_rate (s : State) (sets : Nat) : (s.ticked sets).rate = (s.power.f, min s.power.f s.power.ceil) := by
  have h := follows_rate s (min s.power.f s.power.ceil)
  unfold State.ticked
  simp only []
  rw [State.lockstepNow_rate, regate_rate]
  split
  · exact h
  · exact (State.paceLilac_rate _ _).trans h

/-- The settings and the SET that apply at a tick. -/
def State.tickTakes (s : State) : State := ((s.odApply 0x3011 0).paceGroupTake).setTakes

theorem paceTick_exec (s : State) : exec .paceTick s = .next (State.ticked (match s.tickTakes.paceGroup with
    | none => s.tickTakes.pwr (fun p => { p with f := min (s.tickTakes.odNum 0x3011 0) p.ceil })
    | some _ => s.tickTakes.paceEval) (s.odNum 0x3016 1)) := rfl

/-- Without a pace group nothing applies but the requested frequency. -/
theorem tickTakes_alone {s : State} (hg : s.power.group = 0xFFFF) (h0 : s.odNum 0x3010 0 = 0xFFFF) (h1 : s.odPending 0x3010 0 = none)
    (h2 : s.odPending 0x3011 0 = none) (hn : s.power.next = none) : s.tickTakes = s.pwr (fun p => { p with astray := false }) := by
  have ht : s.paceGroupTake = s.pwr (fun p => { p with astray := false }) := by
    unfold State.paceGroupTake
    rw [odApply_none h1]
    simp only [h0, hg]
    rfl
  unfold State.tickTakes
  rw [odApply_none h2, ht]
  unfold State.setTakes
  rw [show (s.pwr (fun p => { p with astray := false })).power.next = none from hn]

theorem paceTick_alone {s : State} (hg : s.power.group = 0xFFFF) (h0 : s.odNum 0x3010 0 = 0xFFFF) (h1 : s.odPending 0x3010 0 = none)
    (h2 : s.odPending 0x3011 0 = none) (hn : s.power.next = none) :
    ∃ t, exec .paceTick s = .next t ∧ t.rate = (min (s.odNum 0x3011 0) s.power.ceil, min (s.odNum 0x3011 0) s.power.ceil) := by
  have hp : (s.pwr (fun p => { p with astray := false })).paceGroup = none := by
    unfold State.paceGroup
    rw [show (s.pwr (fun p => { p with astray := false })).power.group = 0xFFFF from hg]
    rfl
  rw [paceTick_exec, tickTakes_alone hg h0 h1 h2 hn, hp]
  refine ⟨_, rfl, (ticked_rate _ _).trans ?_⟩
  refine Prod.ext rfl ?_
  exact Nat.min_eq_left (Nat.min_le_right _ _)

/-! ### Reports and settings that arrive -/

/-- The acknowledgement of a packet has been given, in a state that is otherwise as it was. -/
structure State.Acked (s : State) (p : Pkt) (v : State) : Prop where
  calm : v.calm = s.calm
  carries : s.Carries v
  answered : v.Answered p 3 0 []

theorem receives_acked {s : State} {p : Pkt} (inbox : List Pkt) (keys : List FlowKey) (free : Nat)
    (hw : s.fabric.wins.find? (Win.is p.src p.spart) = none) :
    let u := s.receives p inbox keys free
    s.Acked p (u.answer p (u.ackOf p)) := by
  intro u
  refine ⟨(State.inject_calm _ _).trans rfl, ?_, answer_answered hw rfl rfl rfl rfl rfl⟩
  exact State.Carries.trans (t := u.updWin p.src p.spart _) (.of_same rfl rfl) (inject_carries _ _)

/-- A pace message that is neither refused nor malformed is acknowledged, and acts. -/
theorem paceRow_arrives {s : State} {p : Pkt} {q : Pkt → Bool} (h : s.Arrives p (fun p => p.isPace && q p)) (hr : s.refusal p = none)
    (hb : s.paceBad p = false) : ∃ v x, s.Acked p v ∧ ∀ f, paceRow s q f = .next ((f p v).begunGone x) := by
  obtain ⟨x, inbox, keys, free, hs⟩ := serve_arrives h
  obtain ⟨-, -, -, -, -, hw, -, -⟩ := h
  refine ⟨_, x, receives_acked inbox keys free hw, fun f => ?_⟩
  have hr' : (s.receives p inbox keys free).refusal p = none := hr
  have hb' : (s.receives p inbox keys free).paceBad p = false := hb
  unfold paceRow
  refine hs _ _ ?_
  simp only [hr', hb']
  rfl

/-- A group's descriptor and state are not among what packets change. -/
theorem groups_quiet {g : Nat} (hg : g < 4096) : gSub g < 256 ∧ ¬ Routed (gIdx 0x5100 g) ∧ ¬ Routed (gIdx 0x5200 g) := by
  have h : g / 128 < 32 := by omega
  refine ⟨by unfold gSub; omega, ?_⟩
  unfold gIdx
  generalize g / 128 = k at h
  unfold Routed Noisy
  revert k
  decide

theorem Acked.group {s v : State} {p : Pkt} {g : Nat} (h : s.Acked p v) (hg : s.paceGroup = some g) (hlt : g < 4096) :
    v.paceGroup = some g ∧ v.gd g = s.gd g ∧ v.power = s.power := by
  obtain ⟨h0, h1, h2⟩ := groups_quiet hlt
  have hp : v.power = s.power := State.Carries.odPower h.calm
  have hpg : s.power.group = g := by
    unfold State.paceGroup at hg
    simp only [] at hg
    split at hg
    · cases hg
    · exact Option.some.inj hg
  have hst : v.gSt g = s.gSt g := h.carries.odNum h0 h2
  have hgd : v.gd g = s.gd g := by
    unfold State.gd State.odBlob
    rw [h.carries.odGet h0 h1]
  refine ⟨?_, hgd, hp⟩
  unfold State.paceGroup at hg ⊢
  simp only [hp, hpg] at hg ⊢
  rw [hst]
  exact hg

theorem paceBad_group {s : State} {p : Pkt} {g : Nat} (h : s.paceGroup = some g) (hb : s.paceBad p = false) : g < 4096 := by
  unfold State.paceBad at hb
  rw [h] at hb
  simp only [Bool.or_eq_false_iff, bne_eq_false_iff_eq] at hb
  obtain ⟨⟨⟨-, hg⟩, -⟩, -⟩ := hb
  rw [← hg]
  unfold bits
  exact Nat.mod_lt _ (by decide)


/-- A REPORT of child `i` is kept. -/
theorem paceReport_arrives {s : State} {p : Pkt} {g i : Nat} (hg : s.paceGroup = some g) (hr : s.refusal p = none) (hb : s.paceBad p = false)
    (h : s.Arrives p (fun p => p.isPace && p.paceKind == 1)) (hi : (gdChildren (s.gd g)).findIdx? (fun r => refCoord r == p.src) = some i) :
    ∃ t, exec .paceReport s = .next t ∧ tfind t.power.reports (reportKey (gdGen (s.gd g)) i) = some p.paceFreq ∧ t.Answered p 3 0 [] ∧
      t.mem = s.mem ∧ t.cores = s.cores := by
  obtain ⟨v, x, hv, hx⟩ := paceRow_arrives h hr hb
  obtain ⟨hvg, hgd, hp⟩ := Acked.group hv hg (paceBad_group hg hb)
  have hvc : v.cores = s.cores := calm_cores hv.calm
  have he : exec .paceReport s = .next (((v.pwr (fun y => { y with
      reports := tput y.reports (reportKey (gdGen (s.gd g)) i) p.paceFreq })).paceEval).begunGone x) := by
    show execPaceReport s = _
    unfold execPaceReport
    refine (hx _).trans ?_
    simp only [hvg, hgd, hi]
  generalize hu : v.pwr (fun y => { y with reports := tput y.reports (reportKey (gdGen (s.gd g)) i) p.paceFreq }) = u at he
  obtain ⟨n, a, m, hpe⟩ := paceEval_power u
  have hpw : (u.paceEval.begunGone x).power = u.paceEval.power := State.Carries.odPower (begunGone_calm _ _)
  refine ⟨_, he, ?_, ?_, mem_of_exec he rfl, ?_⟩
  · rw [hpw, hpe, ← hu]
    exact (tfind_tput _ _ _ _).trans (if_pos rfl)
  · refine Answered.of_wins hv.answered ((begunGone_wins _ _).trans ((State.paceEval_wins _).trans ?_))
    rw [← hu]
    rfl
  · refine (calm_cores (begunGone_calm _ _)).trans ((paceEval_paces u).cores.trans ?_)
    rw [← hu]
    exact hvc

/-- A SET is held until its tick. -/
theorem paceSet_arrives {s : State} {p : Pkt} {g : Nat} (hg : s.paceGroup = some g) (hr : s.refusal p = none) (hb : s.paceBad p = false)
    (h : s.Arrives p (fun p => p.isPace && p.paceKind != 1)) (ht : 2 ^ 31 ≤ (s.fab / 1_000_000 + 2 ^ 32 - p.paceTick) % 2 ^ 32) :
    ∃ t, exec .paceSet s = .next t ∧ t.power.next = some (p.paceFreq, p.paceTick) ∧ t.power.f = s.power.f ∧ t.Answered p 3 0 [] ∧
      t.mem = s.mem ∧ t.cores = s.cores := by
  obtain ⟨v, x, hv, hx⟩ := paceRow_arrives h hr hb
  obtain ⟨hvg, hgd, hp⟩ := Acked.group hv hg (paceBad_group hg hb)
  have hvc : v.cores = s.cores := calm_cores hv.calm
  have hfab : v.fab = s.fab := by unfold State.fab; rw [hv.carries.1]
  have hlate : decide ((v.fab / 1_000_000 + 2 ^ 32 - p.paceTick) % 2 ^ 32 < 2 ^ 31) = false := by
    rw [hfab]
    exact decide_eq_false (Nat.not_lt.mpr ht)
  have he : exec .paceSet s = execPaceSet s := rfl
  unfold execPaceSet at he
  obtain ⟨u, hu, hup, hum, huw⟩ : ∃ u : State, exec .paceSet s = .next (u.begunGone x) ∧
      u.power = { s.power with next := some (p.paceFreq, p.paceTick) } ∧ u.cores = s.cores ∧ u.wins = v.wins := by
    by_cases hn : v.power.next = some (p.paceFreq, p.paceTick)
    · refine ⟨v, he.trans ((hx _).trans ?_), by rw [← hn, hp], hvc, rfl⟩
      simp only [hvg, if_pos hn]
    · refine ⟨(v.pwr (fun y => { y with next := some (p.paceFreq, p.paceTick) })).setsDown g p.paceFreq p.paceTick,
        he.trans ((hx _).trans ?_), ?_, ?_,
        State.setsDown_wins _ _ _ _⟩
      · simp only [hvg, if_neg hn, hlate, Bool.false_eq_true, if_false]
      · rw [setsDown_power, pwr_power, hp]
      · exact (setsDown_paces _ _ _ _).cores.trans hvc
  have hpw : (u.begunGone x).power = u.power := State.Carries.odPower (begunGone_calm _ _)
  refine ⟨_, hu, by rw [hpw, hup], by rw [hpw, hup], Answered.of_wins hv.answered ((begunGone_wins _ _).trans huw), mem_of_exec hu rfl,
    (calm_cores (begunGone_calm _ _)).trans hum⟩

theorem raiseHold_exec {s : State} {g since : Nat} (hg : s.paceGroup = some g) (hl : s.leads = true) (ha : s.power.above = some since)
    (hm : s.targetF < s.leaderM) (ht : since + s.odNum 0x3014 0 * 1_000_000 ≤ s.now) :
    exec .raiseHoldExpiry s = .next (s.leaderSet g s.leaderM) := by
  show execRaiseHoldExpiry s = _
  unfold execRaiseHoldExpiry
  rw [hg, ha]
  simp only [hl, Bool.true_and]
  rw [if_pos]
  simp only [Bool.and_eq_true, decide_eq_true_eq]
  exact ⟨hm, ht⟩

/-- The setting that a report applies is none of what the lowest value is computed from. -/
theorem odApply_lowest (s : State) : (s.odApply 0x3015 0).lowest = s.lowest := by
  have hgd : ∀ g, (s.odApply 0x3015 0).gd g = s.gd g := fun g => by
    unfold State.gd State.odBlob
    rw [odGet_odApply_other s (by unfold odKey gIdx; have := Nat.zero_le (g / 128); omega)]
  unfold State.lowest
  rw [odApply_power, hgd]

theorem sendReport_sent {s : State} {g : Nat} (hg : s.paceGroup = some g) (hl : s.leads = false) : s.sendReport.power.sent = s.lowest := by
  unfold State.sendReport
  rw [hg]
  simp only [hl, Bool.false_eq_true, if_false]
  rw [paceSend_power, pwr_power]
  exact odApply_lowest s

/-! ### The answer to a meter sample -/

theorem meter_answers {s : State} (mv ma idle run : Nat) (h : s.odPending 0x3000 0 = none) :
    Answers (.powerMeterSample mv ma idle run) s fun t =>
      t.odNum 0x3004 0 = min mv 65535 ∧ t.odNum 0x3001 0 = min (s.averageOf (s.sampled (mv * ma)) 1_000_000) 65535 ∧
      t.power.limiting = decide (2450 < s.averageOf (s.sampled (mv * ma)) 10_000) ∧ t.power.samples = s.sampled (mv * ma) ∧
      t.mem = s.mem ∧ t.cores = s.cores ∧
      (s.life.offRuns = false → s.power.dies = 0 → s.life.svc ≠ .black →
        (s.averageOf (s.sampled (mv * ma)) 10_000 ≤ 2450 → s.wattLimit < s.averageOf (s.sampled (mv * ma)) 1_000_000 →
          t.power.gate = gateFor idle run s.wattLimit) ∧
        (2450 < s.averageOf (s.sampled (mv * ma)) 10_000 → s.odNum 0x3003 0 = s.wattLimit * 2 ^ 16 + (if s.safetyFloor then 2 else 1) →
          t.power.gate = max (gateFor idle run s.wattLimit) (min 15 (s.power.gate + 1)))) := by
  obtain ⟨k, p, hm⟩ := metered_shown s mv ma idle run
  obtain ⟨hlim, hfloor⟩ := metered_wattLimit s mv ma idle run
  have he := meter_exec (s := s) mv ma idle run h
  have hpc := fun c => meter_paces s mv ma idle run c
  have hg := fun u hu => metered_gate s u mv ma idle run hu
  have hl := limitNow_paces (s.metered mv ma idle run)
  obtain ⟨ho1, ho4, hoo⟩ := shownPower_odNum s (min mv 65535) (min (s.averageOf (s.sampled (mv * ma)) 1_000_000) 65535) k
    { s.power with samples := s.sampled (mv * ma), peaks := p, idle := idle, run := run,
                   limiting := decide (2450 < s.averageOf (s.sampled (mv * ma)) 10_000) }
  obtain ⟨-, -, hpw, hmem, hcore⟩ := shownPower_same s (min mv 65535) (min (s.averageOf (s.sampled (mv * ma)) 1_000_000) 65535) k
    { s.power with samples := s.sampled (mv * ma), peaks := p, idle := idle, run := run,
                   limiting := decide (2450 < s.averageOf (s.sampled (mv * ma)) 10_000) }
  rw [← hm] at ho1 ho4 hoo hpw hmem hcore
  generalize s.metered mv ma idle run = u at he hpc hg hl ho1 ho4 hoo hpw hmem hcore hlim hfloor
  generalize s.averageOf (s.sampled (mv * ma)) 10_000 = a10 at *
  generalize s.averageOf (s.sampled (mv * ma)) 1_000_000 = a1 at *
  have hlimiting : u.limitNow.power.limiting = decide (2450 < a10) := by rw [hl.power, hpw]
  have hpaced := hpc (decide (a1 > u.limitNow.wattLimit) || u.limitNow.power.limiting || s.power.limiting)
  have hq : ∀ i, ¬ Paced i → ∀ t, u.Paces t → t.odNum i 0 = u.odNum i 0 := fun i hi t ht => ht.odNum (by decide) hi
  refine ⟨_, he, (hq 0x3004 (by unfold Paced Routed Noisy; decide) _ hpaced).trans ho4,
    (hq 0x3001 (by unfold Paced Routed Noisy; decide) _ hpaced).trans ho1, ?_, ?_, hpaced.mem.trans hmem, hpaced.cores.trans hcore,
    fun h1 h2 h3 => ⟨fun ha hw => ?_, fun ha hv => ?_⟩⟩
  · rw [hpaced.power, hpw]
  · rw [hpaced.power, hpw]
  · rw [if_pos (by rw [hl.wattLimit.1, hlim, decide_eq_true hw]; rfl), hg _ hl h1 h2 h3, if_neg (Nat.not_lt.mpr ha)]
  · have hsame : u.limitNow = u := limitNow_same (by rw [hlim, hfloor, hoo 0x3003 0 (by decide) (by decide), hv])
    rw [if_pos (by rw [hlimiting, decide_eq_true ha]; simp), hg _ hl h1 h2 h3, if_pos ha, hsame, hpw]

end Sys2Proof.Machine

namespace Sys2Proof.Proofs
open Sys2Proof.Machine

/-- Settles O43: a sample, a recomputation and a refresh leave all but what is agreed with the pace group and the gating; the shares of an
energy add up to it. -/
theorem power : Obligations.Power := by
  unfold Obligations.Power
  refine ⟨fun s => ⟨?_, ?_, ?_, ?_, ?_⟩, fun s => ⟨?_, ?_, ?_, ?_⟩⟩
  · intro mv ma idle run hp l average g
    refine meter_answers mv ma idle run hp
  · intro i recent
    obtain ⟨a1, a2, a3, a4⟩ := stretched_spec s (recent ++ [s.now])
    obtain ⟨b1, b2, b3, b4⟩ := stretched_spec s []
    refine ⟨_, stretch_exec i s, ?_⟩
    by_cases hw : recent.length < 15
    · rw [if_pos hw, if_pos hw]
      exact ⟨a1, a3, a2, a4⟩
    · rw [if_neg hw, if_neg hw, b4]
      refine ⟨?_, ?_, b2, State.odNum_odSetN_same _ _ _ _⟩
      · generalize s.stretched [] = u at b1
        rw [b1]
        rfl
      · exact (congrArg OdVal.toNat (odGet_odSetN_other _ _ (by decide))).trans b3
  · intro h
    have he : exec .guardBandNarrow s = execGuardBandNarrow s := rfl
    unfold execGuardBandNarrow at he
    rw [if_neg (Nat.not_lt.mpr h)] at he
    exact ⟨_, he, rfl, State.odNum_odSetN_same _ _ _ _⟩
  · have hp := ceilingNow_paces s
    exact ⟨_, rfl, ceilingNow_ceil s, by rw [hp.clk], hp.mem, hp.cores⟩
  · intro m l v
    obtain ⟨hlen, hsum⟩ := energyShares_sum s m
    obtain ⟨h1, -, h3⟩ := sharedOut_spec s l 17 (Nat.le_refl _)
    refine ⟨hlen, hsum, _, energy_exec m s, h1, sharedOut_total s l, fun i hi => ?_⟩
    obtain ⟨ha, hb⟩ := h3 i hi
    rw [if_pos hi] at ha hb
    exact ⟨ha, hb⟩
  · intro h1 h2 h3 h4 h5
    obtain ⟨t, e, ht⟩ := paceTick_alone h1 h2 h3 h4 h5
    exact ⟨t, e, congrArg Prod.fst ht, congrArg Prod.snd ht⟩
  · exact fun p g i hg hr hb => ⟨fun ha hi => paceReport_arrives hg hr hb ha hi, fun ha ht => paceSet_arrives hg hr hb ha ht⟩
  · intro g since hg hl ha hm ht
    obtain ⟨k, hk⟩ := leaderSet_power s g s.leaderM
    refine ⟨_, raiseHold_exec hg hl ha hm ht, by rw [hk]; rfl, by rw [hk], by rw [(leaderSet_paces s g s.leaderM).clk]⟩
  · intro g hg hl
    have hp := sendReport_paces s
    exact ⟨_, rfl, sendReport_sent hg hl, by rw [hp.clk], hp.mem⟩

end Sys2Proof.Proofs

/-! SUPPORT. Context switches, wake-ups, asynchronous faults and the ends of contexts (R90, R119, R121). -/
namespace Sys2Proof.Machine

/-! ### The switch -/

theorem running_idle {c : Core} (h : ∀ j, j < 4 → (c.slot j).st ≠ .running) : c.running = none := by
  unfold Core.running
  rw [List.find?_eq_none]
  intro j hj
  simpa using h j (List.mem_range.mp hj)

/-- The first Ready slot at distance `d` after the current one. -/
theorem nextReady_at {c : Core} {d : Nat} (h1 : 1 ≤ d) (h4 : d ≤ 4) (hr : (c.slot ((c.cur + d) % 4)).st = .ready)
    (h : ∀ e, 1 ≤ e → e < d → (c.slot ((c.cur + e) % 4)).st ≠ .ready) : c.nextReady = some ((c.cur + d) % 4) := by
  unfold Core.nextReady
  rw [List.find?_map]
  have hf : [1, 2, 3, 4].find? ((fun k => (c.slot k).st == .ready) ∘ fun i => (c.cur + i) % 4) = some d := by
    rw [List.find?_eq_some_iff_append]
    refine ⟨by simpa using hr, (List.range' 1 (d - 1)), List.range' (d + 1) (4 - d), ?_, fun e he => ?_⟩
    · interval_cases d <;> rfl
    · have := List.mem_range'_1.mp he
      simpa using h e (by omega) (by omega)
  rw [hf]
  rfl

/-! ### Wake-ups -/

/-- One slot's context becomes Ready where its wait is done. -/
def Core.releaseSlot (c : Core) (k : Nat) : Core :=
  if (c.slot k).st = .waiting && c.waitDone k then c.withSlot k { c.slot k with st := .ready, wait := .nothing } else c

theorem releaseSlot_frame (c : Core) (k : Nat) : c.releaseSlot k = { c with ctx := (c.releaseSlot k).ctx } := by
  unfold Core.releaseSlot
  split <;> rfl

theorem releaseSlot_slot (c : Core) (k j : Nat) : (c.releaseSlot k).slot j =
    if j = k ∧ (c.slot k).st = .waiting ∧ c.waitDone k = true then { c.slot k with st := .ready, wait := .nothing } else c.slot j := by
  unfold Core.releaseSlot
  by_cases h : (c.slot k).st = .waiting ∧ c.waitDone k = true
  · rw [if_pos (by simpa using h), Core.slot_withSlot]
    simp only [h, and_true]
  · rw [if_neg (by simpa using h), if_neg (fun e => h e.2)]

/-- Whether a wait is done depends on its own slot and on what the engines and counters hold. -/
theorem waitDone_congr {c d : Core} {k : Nat} (hs : d.slot k = c.slot k) (h : d = { c with ctx := d.ctx }) : d.waitDone k = c.waitDone k := by
  unfold Core.waitDone
  rw [hs, h]
  rfl

theorem releaseSlots_spec (c : Core) (n : Nat) :
    let d := (List.range n).foldl Core.releaseSlot c
    d = { c with ctx := d.ctx } ∧ ∀ j, d.slot j =
      if j < n ∧ (c.slot j).st = .waiting ∧ c.waitDone j = true then { c.slot j with st := .ready, wait := .nothing } else c.slot j := by
  induction n with
  | zero => exact ⟨rfl, fun j => by simp⟩
  | succ n ih =>
    rw [List.range_succ, List.foldl_append]
    simp only [List.foldl_cons, List.foldl_nil]
    generalize (List.range n).foldl Core.releaseSlot c = d at ih
    obtain ⟨h1, h2⟩ := ih
    have hn : d.slot n = c.slot n := by rw [h2, if_neg (by omega)]
    refine ⟨by rw [releaseSlot_frame, h1], fun j => ?_⟩
    rw [releaseSlot_slot, hn, waitDone_congr hn h1, h2]
    by_cases hj : j = n
    · subst hj
      simp
    · have : (j < n + 1) ↔ j < n := by omega
      simp only [hj, false_and, if_false, this]

theorem release_slot (c : Core) {j : Nat} (hj : j < 4) : c.release.slot j =
    if (c.slot j).st = .waiting ∧ c.waitDone j = true then { c.slot j with st := .ready, wait := .nothing } else c.slot j := by
  refine ((releaseSlots_spec c 4).2 j).trans ?_
  simp only [hj, true_and]

theorem release_frame (c : Core) : c.release = { c with ctx := c.release.ctx } := (releaseSlots_spec c 4).1

theorem fenceDone_iff (c : Core) (k m : Nat) : c.fenceDone k m = true ↔
    (bit 0 m = true → c.tBusy k = false) ∧ (bit 1 m = true → c.vBusy k = false) ∧ (bit 2 m = true → c.mBusy k = false) := by
  unfold Core.fenceDone
  simp [and_assoc, imp_iff_not_or]

theorem waitDone_iff (c : Core) (k : Nat) : c.waitDone k = true ↔ match (c.slot k).wait with
    | .nothing => True
    | .counter x v => v.toNat ≤ (c.counter x).toNat
    | .fence m => (bit 0 m = true → c.tBusy k = false) ∧ (bit 1 m = true → c.vBusy k = false) ∧ (bit 2 m = true → c.mBusy k = false) := by
  unfold Core.waitDone
  cases (c.slot k).wait with
  | nothing => simp
  | counter x v => exact BitVec.ule_iff_toNat_le
  | fence m => exact fenceDone_iff c k m

/-! ### Asynchronous faults -/

/-- The record that a fault leaves in a resident context: a draining one with a record keeps it. -/
def Ctx.faulted (x : Ctx) (w : Word) (code info : Nat) : Ctx :=
  if x.st = .draining ∧ x.faultCode ≠ 0 then x
  else { x with st := .draining, wait := if x.st = .draining then x.wait else .nothing, faultCode := code, faultGrp := fGrp w, faultOp := fOp w,
                faultInfo := info % 2 ^ 44 }

theorem faulted_spec (x : Ctx) (w : Word) (code info : Nat) :
    (x.faulted w code info).st = .draining ∧ (x.faulted w code info).pc = x.pc ∧ (x.faulted w code info).sreg = x.sreg ∧
    (x.faulted w code info).vreg = x.vreg ∧ (x.faulted w code info).preg = x.preg ∧ (x.faulted w code info).treg = x.treg ∧
    (x.faulted w code info).faultCode = (if x.st = .draining ∧ x.faultCode ≠ 0 then x.faultCode else code) ∧
    (x.faulted w code info).faultInfo = (if x.st = .draining ∧ x.faultCode ≠ 0 then x.faultInfo else info % 2 ^ 44) := by
  unfold Ctx.faulted
  by_cases h : x.st = .draining ∧ x.faultCode ≠ 0
  · rw [if_pos h, if_pos h, if_pos h]
    exact ⟨h.1, rfl, rfl, rfl, rfl, rfl, rfl, rfl⟩
  · rw [if_neg h, if_neg h, if_neg h]
    exact ⟨rfl, rfl, rfl, rfl, rfl, rfl, rfl, rfl⟩

/-- A fault found after issue: its record, and the discard of what its context has queued. -/
theorem asyncFault_eq {s : State} {n k : Nat} (w : Word) (code info : Nat) (h : ((s.core n).slot k).st ≠ .empty) :
    ∃ d : Core, s.asyncFault n k w code info = s.setCore n (d.discard k) ∧ d = { s.core n with ctx := d.ctx } ∧
      d.slot k = ((s.core n).slot k).faulted w code info := by
  unfold State.asyncFault Ctx.faulted
  simp only [h, if_false]
  by_cases hd : ((s.core n).slot k).st = .draining
  · simp only [hd, if_true, true_and]
    by_cases hc : ((s.core n).slot k).faultCode = 0
    · simp only [hc, if_true, ne_eq, not_true_eq_false, if_false]
      refine ⟨_, rfl, rfl, ?_⟩
      rw [Core.slot_withSlot_same, ← hd]
    · simp only [hc, if_false, ne_eq, not_false_eq_true, if_true]
      exact ⟨_, rfl, rfl, rfl⟩
  · simp only [hd, if_false, false_and]
    refine ⟨_, rfl, fault_frame _ _ _ _ _ _, ?_⟩
    unfold Core.fault
    simp [h, hd]

/-- Only core `n` differs. -/
def State.Local (s t : State) (n : Nat) : Prop := t = { s with cores := t.cores } ∧ ∀ m, m ≠ n → t.core m = s.core m

theorem State.Local.refl (s : State) (n : Nat) : s.Local s n := ⟨rfl, fun _ _ => rfl⟩

theorem State.Local.setCore {s t : State} {n : Nat} (h : s.Local t n) (c : Core) : s.Local (t.setCore n c) n :=
  ⟨by rw [h.1]; rfl, fun m hm => by rw [State.core_setCore, if_neg hm]; exact h.2 m hm⟩

theorem State.Local.trans {s t u : State} {n : Nat} (h : s.Local t n) (g : t.Local u n) : s.Local u n :=
  ⟨by rw [g.1, h.1], fun m hm => (g.2 m hm).trans (h.2 m hm)⟩

/-- What the abandonment of a started operation changes of its core. -/
structure Core.Abandons (c d : Core) (k : Nat) (w : Word) : Prop where
  ctx : d.ctx = c.ctx
  cnt : d.cnt = c.cnt
  tq : d.tq = c.tq
  vq : d.vq = c.vq
  tRun : d.tRun = if c.tRun.any (fun q => q.slot == k && q.w == w) = true then none else c.tRun
  vRun : d.vRun = if c.tRun.any (fun q => q.slot == k && q.w == w) = false ∧ c.vRun.any (fun q => q.slot == k && q.w == w) = true then none
    else c.vRun
  acc : c.tRun.any (fun q => q.slot == k && q.w == w) = false → d.acc0 = c.acc0 ∧ d.acc1 = c.acc1
  mops : (∀ m ∈ c.mops, ¬ (m.slot = k ∧ m.w = w ∧ m.phase = .started)) → d.mops = c.mops

theorem tAbandon_frame (c : Core) (q : QOp) : tAbandon c q = { c with acc0 := (tAbandon c q).acc0, acc1 := (tAbandon c q).acc1 } := by
  unfold tAbandon Core.withAcc
  simp only []
  split
  · split <;> rfl
  · rfl

theorem filter_any {α : Type} (o : Option α) (q : α → Bool) : (∃ x, o.filter q = some x) ↔ o.any q = true := by
  cases o with
  | none => simp
  | some x => by_cases h : q x = true <;> simp [Option.filter, h]

theorem abandonOp_core (s : State) (n k code : Nat) (w : Word) :
    s.Local (s.abandonOp n k code w) n ∧ (s.core n).Abandons ((s.abandonOp n k code w).core n) k w := by
  unfold State.abandonOp
  simp only []
  generalize hc : s.core n = c
  split
  next q hq =>
    have ht : c.tRun.any (fun q => q.slot == k && q.w == w) = true := (filter_any _ _).mp ⟨q, hq⟩
    refine ⟨(State.Local.refl s n).setCore _, ?_⟩
    rw [State.core_setCore_same, tAbandon_frame]
    exact ⟨rfl, rfl, rfl, rfl, by rw [if_pos ht], by rw [ht]; rfl, fun h => absurd (ht.symm.trans h) (by decide), fun _ => rfl⟩
  next hq =>
    have ht : c.tRun.any (fun q => q.slot == k && q.w == w) = false := by
      rw [← Bool.not_eq_true]
      exact fun h => by obtain ⟨x, hx⟩ := (filter_any _ _).mpr h; rw [hq] at hx; cases hx
    split
    next hv =>
      refine ⟨(State.Local.refl s n).setCore _, ?_⟩
      rw [State.core_setCore_same]
      exact ⟨rfl, rfl, rfl, rfl, by rw [ht]; rfl, by rw [if_pos ⟨ht, hv⟩], fun _ => ⟨rfl, rfl⟩, fun _ => rfl⟩
    next hv =>
      have hrun : c.Abandons c k w := ⟨rfl, rfl, rfl, rfl, by rw [ht]; rfl, by rw [if_neg (fun h => hv h.2)], fun _ => ⟨rfl, rfl⟩, fun _ => rfl⟩
      split
      next =>
        rw [hc]
        exact ⟨State.Local.refl s n, hrun⟩
      next m hm =>
        have hmem := List.mem_of_find?_eq_some hm
        have hst := List.find?_some hm
        simp only [Bool.and_eq_true, beq_iff_eq] at hst
        have hno : ¬ ∀ m ∈ c.mops, ¬ (m.slot = k ∧ m.w = w ∧ m.phase = .started) :=
          fun h => h m hmem ⟨hst.1.1.1, hst.1.1.2, hst.1.2⟩
        obtain ⟨h1, h2, h3, h4, h5, h6, h7, -⟩ := hrun
        split
        · refine ⟨(State.Local.refl s n).setCore _, ?_⟩
          unfold State.dropMop
          rw [State.core_setCore_same, hc]
          exact ⟨h1, h2, h3, h4, h5, h6, h7, fun h => absurd h hno⟩
        · refine ⟨(State.Local.refl s n).setCore _, ?_⟩
          unfold State.updMop
          rw [State.core_setCore_same, hc]
          exact ⟨h1, h2, h3, h4, h5, h6, h7, fun h => absurd h hno⟩

/-! ### The end of a context -/

theorem flightDone_disp (s : State) (r : DescRef) : s.flightDone r = { s with disp := (s.flightDone r).disp } := by
  unfold State.flightDone
  split
  · rfl
  · split <;> rfl

theorem unitEnd_disp (s : State) (r : DescRef) (u : Nat) (e : UEnd) : s.unitEnd r u e = { s with disp := (s.unitEnd r u e).disp } := by
  unfold State.unitEnd
  split
  · rfl
  · split
    · rfl
    · simp only []
      split
      · rw [flightDone_disp]
        rfl
      · rfl

theorem coreEnd_disp (s : State) (r : DescRef) (n : Nat) (e : UEnd) : s.coreEnd r n e = { s with disp := (s.coreEnd r n e).disp } := by
  unfold State.coreEnd
  split
  · rfl
  · exact unitEnd_disp _ _ _ _

/-! ### The rows -/

theorem counterChanged_answers (n : Fin 288) (s : State) : Answers (.counterChanged n) s fun t =>
    t = { s with cores := t.cores } ∧ (∀ m, m ≠ n.val → t.core m = s.core m) ∧ t.core n = { s.core n with ctx := (t.core n).ctx } ∧
    ∀ j, j < 4 → (t.core n).slot j = if ((s.core n).slot j).st = .waiting ∧ (s.core n).waitDone j = true
      then { (s.core n).slot j with st := .ready, wait := .nothing } else (s.core n).slot j := by
  have hl := (State.Local.refl s n.val).setCore (s.core n).release
  refine ⟨s.setCore n (s.core n).release, rfl, hl.1, hl.2, ?_⟩
  rw [State.core_setCore_same]
  exact ⟨release_frame _, fun j hj => release_slot _ hj⟩

/-- A fault found after issue abandons its operation where that has started, is recorded, and lets waiting contexts see it. -/
theorem asynchronousFault_exec (n : Fin 288) (k : Fin 4) (w : Word) (code : Fin 14) (info : Addr) (s : State) (hcode : code.val ≠ 0)
    (hx : ((s.core n).slot k).st ≠ .empty) : ∃ (t : State) (a d : Core), exec (.asynchronousFault n k w code info) s = .next t ∧ s.Local t n ∧
      (s.core n).Abandons a k w ∧ d = { a with ctx := d.ctx } ∧ t.core n = (d.discard k).release ∧
      d.slot k = ((s.core n).slot k).faulted w code info.toNat := by
  obtain ⟨hloc, hab⟩ := abandonOp_core s n k code.val w
  have he : exec (.asynchronousFault n k w code info) s =
      .next (((s.abandonOp n k code.val w).asyncFault n k w code.val info.toNat).releaseCore n) := if_neg hcode
  generalize s.abandonOp n k code.val w = u at hloc hab he
  have hslot : (u.core n).slot k = (s.core n).slot k := by unfold Core.slot; rw [hab.ctx]
  obtain ⟨d, hd, hframe, hdx⟩ := asyncFault_eq (s := u) (n := n) (k := k) w code.val info.toNat (by rw [hslot]; exact hx)
  rw [hd] at he
  refine ⟨_, u.core n, d, he, (hloc.setCore (d.discard k)).setCore _, hab, hframe, ?_, by rw [hdx, hslot]⟩
  unfold State.releaseCore
  rw [State.core_setCore_same, State.core_setCore_same]

theorem contextDrained_exec (n : Fin 288) (k : Fin 4) (s : State) (hst : ((s.core n).slot k).st = .draining) (ht : (s.core n).tBusy k = false)
    (hv : (s.core n).vBusy k = false) (hm : (s.core n).mBusy k = false) :
    let u := s.setCore n ((s.core n).withSlot k { (s.core n).slot k with st := .empty })
    exec (.contextDrained n k) s = .next (if ((s.core n).slot k).launch.replay then u
      else u.coreEnd ((s.core n).slot k).launch.desc n (((s.core n).slot k).endStatus n)) := by
  intro u
  show execContextDrained n k s = _
  unfold execContextDrained
  simp only [hst, ht, hv, hm]
  rfl

end Sys2Proof.Machine

namespace Sys2Proof.Proofs
open Sys2Proof.Machine

/-- Settles O10: a switch takes up the first Ready context, a change wakes the contexts whose wait is done, and a fault or an end touches
its own core alone. -/
theorem contexts : Obligations.Contexts := by
  unfold Obligations.Contexts
  refine ⟨?_, ?_, ?_, ?_⟩
  · intro n s d c k x hidle h1 h4 hx hfirst
    have hnext : c.nextReady = some k := nextReady_at h1 h4 hx hfirst
    obtain ⟨hcur, hslot⟩ := switch_taken (running_idle hidle) hnext
    refine ⟨s.setCore n c.switch, rfl, rfl, fun m hm => by rw [State.core_setCore, if_neg hm], ?_, fun j hj => ?_, ?_, ?_, ?_⟩
    · rw [State.core_setCore_same]
      have := switch_frame c
      rw [hcur] at this
      exact this
    · rw [State.core_setCore_same, hslot, if_neg hj]
    · rw [State.core_setCore_same, hslot, if_pos rfl]
    · intro ho
      simp only [Ctx.taken, ho]
    · intro tgt g ho
      simp only [Ctx.taken, ho]
  · intro n s c
    obtain ⟨t, e, h1, h2, h3, h4⟩ := counterChanged_answers n s
    refine ⟨t, e, h1, h2, h3, fun j hj => ?_⟩
    have hw := waitDone_iff c j
    rw [h4 j hj]
    generalize hwt : (c.slot j).wait = wt at hw ⊢
    cases wt with
    | nothing => exact ⟨fun h => if_pos ⟨h.1, hw.mpr h.2⟩, fun h => if_neg (fun g => h ⟨g.1, hw.mp g.2⟩)⟩
    | counter y v => exact ⟨fun h => if_pos ⟨h.1, hw.mpr h.2⟩, fun h => if_neg (fun g => h ⟨g.1, hw.mp g.2⟩)⟩
    | fence m => exact ⟨fun h => if_pos ⟨h.1, hw.mpr h.2⟩, fun h => if_neg (fun g => h ⟨g.1, hw.mp g.2⟩)⟩
  · intro n k w code info s c x hcode hx
    obtain ⟨t, a, d, e, hl, hab, hd, ht, hdx⟩ := asynchronousFault_exec n k w code info s hcode hx
    obtain ⟨f1, f2, f3, f4, f5, f6, f7, f8⟩ := faulted_spec x w code.val info.toNat
    have hy : (t.core n).slot k = x.faulted w code info.toNat := by
      rw [ht, release_slot _ k.isLt, if_neg]
      · exact hdx
      · intro h
        have : (d.slot k).st = .waiting := h.1
        rw [hdx, f1] at this
        cases this
    have hcore : t.core n = { a.discard k with ctx := (t.core n).ctx } := by
      rw [ht, release_frame, hd]
      rfl
    obtain ⟨a1, a2, a3, a4, a5, a6, a7, a8⟩ := hab
    refine ⟨t, e, hl.1, hl.2, by rw [hy, f1], by rw [hy, f2], by rw [hy, f3], by rw [hy, f4], by rw [hy, f5], by rw [hy, f7], by rw [hy, f8],
      ?_, ?_, ?_, ?_, ?_, ?_, ?_⟩
    · rw [hcore]; exact congrArg (List.filter _) a3
    · rw [hcore]; exact congrArg (List.filter _) a4
    · rw [hcore]; exact a5
    · rw [hcore]; exact a6
    · rw [hcore]; exact a2
    · intro h
      rw [hy, f6, hcore]
      exact ⟨rfl, a7 h⟩
    · intro h
      rw [hcore]
      exact congrArg (List.filter _) (a8 h)
  · intro n k s c hst
    refine ⟨fun h1 h2 h3 => ?_, fun h => ?_⟩
    · have he := contextDrained_exec n k s hst h1 h2 h3
      have hl := (State.Local.refl s n.val).setCore ((s.core n).withSlot k { (s.core n).slot k with st := .empty })
      have hc : (s.setCore n ((s.core n).withSlot k { (s.core n).slot k with st := .empty })).core n = c.withSlot k { c.slot k with st := .empty } :=
        State.core_setCore_same _ _ _
      have hdisp : (s.setCore n ((s.core n).withSlot k { (s.core n).slot k with st := .empty })).disp = s.disp := rfl
      simp only [] at he
      generalize s.setCore n ((s.core n).withSlot k { (s.core n).slot k with st := .empty }) = u at he hl hc hdisp
      by_cases hr : ((s.core n).slot k).launch.replay = true
      · rw [if_pos hr] at he
        exact ⟨u, he, hc, hl.2, by rw [hl.1], fun _ => hdisp⟩
      · rw [if_neg hr] at he
        have hcd := coreEnd_disp u ((s.core n).slot k).launch.desc n (((s.core n).slot k).endStatus n)
        generalize u.coreEnd ((s.core n).slot k).launch.desc n (((s.core n).slot k).endStatus n) = v at he hcd
        have hvc : ∀ m, v.core m = u.core m := fun m => by rw [hcd]; rfl
        exact ⟨v, he, (hvc _).trans hc, fun m hm => (hvc m).trans (hl.2 m hm), by rw [hcd, hl.1], fun h => absurd h hr⟩
    · refine ⟨s, ?_, rfl⟩
      show execContextDrained n k s = _
      unfold execContextDrained
      simp only []
      rw [if_pos]
      rcases h with h | h | h
      · rw [show (s.core n).tBusy k = true from h]; simp
      · rw [show (s.core n).vBusy k = true from h]; simp
      · rw [show (s.core n).mBusy k = true from h]; simp

end Sys2Proof.Proofs

/-! SUPPORT. What the reset of a core or of a cluster leaves of the dictionary and of the resets under way (R90, R376, R377). -/
namespace Sys2Proof.Machine

/-- The elements that such a reset may write: those of packets on their way, the results of March tests, the tags, the fences and the
reset's status. -/
def Cut (i : Nat) : Prop := Routed i ∨ i ∈ [0x6006, 0x7002, 0x7024, 0x7030, 0x7031, 0x7032, 0x7033, 0x8803, 0x8804, 0x8805]

/-- The resets and replays under way are as before, and the dictionary but for the elements of such a reset. -/
structure State.Retires (s t : State) : Prop where
  resets : t.faults.resets = s.faults.resets
  replays : t.faults.replays = s.faults.replays
  quiet : ∀ i j, j < 256 → ¬ Cut i → t.odGet i j = s.odGet i j

namespace State.Retires

theorem refl (s : State) : s.Retires s := ⟨rfl, rfl, fun _ _ _ _ => rfl⟩

theorem trans {s t u : State} (h : s.Retires t) (g : t.Retires u) : s.Retires u :=
  ⟨g.resets.trans h.resets, g.replays.trans h.replays, fun i j hj hi => (g.quiet i j hj hi).trans (h.quiet i j hj hi)⟩

theorem of_same {s t : State} (hf : t.faults = s.faults) (ho : t.od = s.od) : s.Retires t :=
  ⟨by rw [hf], by rw [hf], fun i j _ _ => by unfold State.odGet; rw [ho]⟩

theorem of_carries {s t : State} (hc : t.calm = s.calm) (h : s.Carries t) : s.Retires t :=
  ⟨by rw [calm_faults hc], by rw [calm_faults hc], fun _ _ hj hi => h.odGet hj (fun e => hi (.inl e))⟩

theorem of_reports {s t : State} (h : s.Reports t) : s.Retires t := by
  have hf : t.faults = s.faults := by rw [h.1]
  exact ⟨by rw [hf], by rw [hf], fun i j hj hi => (h.2 i j hj (fun e => hi (.inl (.inl e)))).1⟩

theorem odNum {s t : State} (h : s.Retires t) {i j : Nat} (hj : j < 256) (hi : ¬ Cut i) : t.odNum i j = s.odNum i j := by
  unfold State.odNum; rw [h.quiet i j hj hi]

theorem odSetN {s : State} {i k n : Nat} (hi : Cut i) (hk : k < 256) : s.Retires (s.odSetN i k n) :=
  ⟨rfl, rfl, fun _ _ hj ha => odGet_odSetN_other s n (odKey_ne hk hj (fun e => ha (e ▸ hi)))⟩

theorem odInc {s : State} {i k : Nat} (hi : Cut i) (hk : k < 256) : s.Retires (s.odInc i k) := odSetN hi hk

theorem odApply {s : State} {i k : Nat} (hi : Cut i) (hk : k < 256) : s.Retires (s.odApply i k) := by
  have hf : (s.odApply i k).faults = s.faults := by rw [odApply_od]
  exact ⟨by rw [hf], by rw [hf], fun a j hj ha => odGet_odApply_other s (odKey_ne hk hj (fun e : a = i => ha (e ▸ hi)))⟩

theorem foldl {α : Type} {f : State → α → State} {l : List α} (h : ∀ (s : State), ∀ a ∈ l, s.Retires (f s a)) (s : State) :
    s.Retires (l.foldl f s) := by
  induction l generalizing s with
  | nil => exact refl s
  | cons a l ih => exact (h s a List.mem_cons_self).trans (ih (fun s b hb => h s b (List.mem_cons_of_mem _ hb)) _)

end State.Retires

theorem qGo_retires (s : State) (q : Nat) (c : QCode) : s.Retires (s.qGo q c) := by
  unfold State.qGo
  split
  · exact .refl s
  · simp only []
    refine State.Retires.trans (t := s.updQueue q (fun x => { x with code := c })) (.of_same rfl rfl) ?_
    generalize s.updQueue q (fun x => { x with code := c }) = t
    refine State.Retires.trans ?_ (.of_reports (lilac_reports _ _ _ _ _ _ _))
    cases c with
    | stopped => exact .of_reports (fnEvent_reports _ _ _)
    | guilty => exact .of_reports (fnEvent_reports _ _ _)
    | disabled => exact .refl t
    | enabled => exact .refl t
    | closing => exact .refl t

theorem coreEnd_retires (s : State) (r : DescRef) (n : Nat) (e : UEnd) : s.Retires (s.coreEnd r n e) := by
  rw [coreEnd_disp]
  exact .of_same rfl rfl

theorem resetUnits_retires (s : State) (n sub : Nat) : s.Retires (s.resetUnits n sub) := by
  refine .foldl (fun s r _ => ?_) s
  refine State.Retires.trans ?_ (coreEnd_retires _ _ _ _)
  split
  · exact qGo_retires _ _ _
  · exact .refl s

theorem bankFree_retires (s : State) (n b : Nat) : s.Retires (s.bankFree n b) := by
  unfold State.bankFree
  generalize List.range 3072 = l
  refine State.Retires.foldl (fun s r _ => ?_) s
  exact .of_same rfl rfl

theorem marchAbandon_retires (s : State) (n : Nat) : s.Retires (s.marchAbandon n) := by
  unfold State.marchAbandon
  split
  · exact .refl s
  · refine State.Retires.trans (.odSetN ?_ ?_) (bankFree_retires _ _ _)
    · unfold marchResObj
      split
      · exact .inr (by decide)
      · exact .inr (by decide)
    · have := Nat.mod_lt n (y := 144) (by decide)
      omega

theorem coreClear_retires (s : State) (n : Nat) (keep : Bool) : s.Retires (s.coreClear n keep) := by
  have h := marchAbandon_retires s n
  unfold State.coreClear
  simp only []
  generalize s.marchAbandon n = t at h
  refine h.trans (State.Retires.trans (t := t.unissued n) (.of_same rfl rfl) ?_)
  generalize t.unissued n = u
  refine State.Retires.trans (.foldl (fun s e _ => ?_) u) (.of_same rfl rfl)
  split
  · exact .of_same rfl rfl
  · exact .refl s

theorem fence_retires (s : State) (c : Bool) (n : Nat) : s.Retires (s.fence c n) := by
  unfold State.fence
  split
  · exact .refl s
  · refine State.Retires.trans (t := { s with faults := { s.faults with fences := s.faults.fences ++ [⟨c, n⟩] } }) ⟨rfl, rfl, fun _ _ _ _ => rfl⟩ ?_
    exact (State.Retires.odInc (.inr (by decide)) (by decide)).trans (.odApply (.inr (by decide)) (by decide))

theorem beginCore_retires (s : State) (n : Nat) : s.Retires (s.beginCore n) := by
  have h := (resetUnits_retires s n 1).trans ((coreClear_retires _ n false).trans (fence_retires _ false n))
  unfold State.beginCore State.coreFence
  simp only []
  split
  · exact h
  · exact h.trans (State.Retires.odSetN (.inr (by decide)) (by decide))

theorem poolAbandon_retires (s : State) {c : Nat} (h : c < 24) : s.Retires (s.poolAbandon c) := by
  unfold State.poolAbandon
  split
  · exact .refl s
  · exact .odSetN (.inr (by decide)) (by omega)

theorem wake_retires (s : State) : s.Retires s.wake := by
  unfold State.wake
  refine State.Retires.trans (t := { s with fabric := { s.fabric with waiting := [] } }) (.of_same rfl rfl) ?_
  refine .foldl (fun s r _ => ?_) _
  split
  · exact .of_carries (State.issueReq_calm _ _) (issueReq_carries _ _)
  · exact .of_same rfl rfl

theorem releaseReqs_retires (s : State) (q : Req → Bool) : s.Retires (s.releaseReqs q) := by
  unfold State.releaseReqs
  refine State.Retires.trans ?_ (wake_retires _)
  exact .of_same rfl rfl

theorem abandon_retires (s : State) (q : SCmd → Bool) : s.Retires (s.abandon q) := by
  unfold State.abandon
  simp only []
  exact (releaseReqs_retires s _).trans (.of_same rfl rfl)

theorem dropReqs_retires (s : State) (q : Req → Bool) : s.Retires (s.dropReqs q) := by
  unfold State.dropReqs
  simp only []
  refine (releaseReqs_retires s q).trans (.foldl (fun s r _ => ?_) _)
  split
  · exact .of_same rfl rfl
  · exact .of_same rfl rfl
  · exact .refl s

theorem tagAdvance_retires (s : State) {k : Nat} (h : k < 24) : s.Retires (s.tagAdvance k) := by
  unfold State.tagAdvance
  split
  · simp only []
    refine (dropReqs_retires s (fun r => s.domainOf r == k && r.pkt.gen == s.tag k)).trans ?_
    generalize s.dropReqs (fun r => s.domainOf r == k && r.pkt.gen == s.tag k) = t
    refine State.Retires.trans (t := { t with faults := { t.faults with
        tagTimes := tput t.faults.tagTimes (256 * k + s.tag k) t.now, tagWait := t.faults.tagWait.filter (fun x => x != k) } })
      ⟨rfl, rfl, fun _ _ _ _ => rfl⟩ ?_
    refine State.Retires.trans ?_ (.foldl (fun s p hp => .odSetN (.inr (by decide)) (by have := List.mem_range.mp hp; omega)) _)
    unfold State.setTag
    rw [if_pos h]
    exact .odSetN (.inr (by decide)) (by omega)
  · simp only []
    refine (fence_retires s true k).trans ?_
    split
    · exact .refl _
    · exact ⟨rfl, rfl, fun _ _ _ _ => rfl⟩

theorem xingClear_retires (s : State) (q : Nat → Nat → Bool) : s.Retires (s.xingClear q) := .of_same rfl rfl

theorem unfence_retires (s : State) (q : Fence → Bool) : s.Retires (s.unfence q) := ⟨rfl, rfl, fun _ _ _ _ => rfl⟩

/-- The cores of `l` are cleared, and what was outstanding on them ends. -/
def State.clearCores (s : State) (l : List Nat) : State := l.foldl (fun s n => (s.resetUnits n 2).coreClear n false) s

theorem clearCores_retires (s : State) (l : List Nat) : s.Retires (s.clearCores l) :=
  .foldl (fun s n _ => (resetUnits_retires s n 2).trans (coreClear_retires _ n false)) s

theorem clusterClear_retires (s : State) {c : Nat} (h : c < 24) : s.Retires (s.clusterClear c) := by
  unfold State.clusterClear
  simp only []
  refine State.Retires.trans (State.Retires.trans ?_ (abandon_retires _ _)) (xingClear_retires _ _)
  exact (poolAbandon_retires s h).trans (clearCores_retires _ (coresOf c))

theorem beginCluster_retires (s : State) {c : Nat} (h : c < 24) : s.Retires (s.beginCluster c) := by
  unfold State.beginCluster
  exact (clusterClear_retires s h).trans ((unfence_retires _ _).trans (tagAdvance_retires _ h))

/-! ### The cores that a reset clears -/

theorem cleared_reset (c : Core) (keep : Bool) : (∀ k, ((c.cleared keep).slot k).st = .empty) ∧ (∀ k, (c.cleared keep).counter k = 0) ∧
    (c.cleared keep).tRun = none ∧ (c.cleared keep).vRun = none ∧ (c.cleared keep).mops = [] :=
  ⟨fun _ => rfl, fun _ => rfl, rfl, rfl, rfl⟩

theorem CoreReset.of_core {s t : State} {n : Nat} (h : s.CoreReset n) (hc : t.core n = s.core n) : t.CoreReset n := by
  unfold State.CoreReset at h ⊢
  rw [hc]
  exact h

theorem qGo_cores (s : State) (q : Nat) (c : QCode) : (s.qGo q c).cores = s.cores := by
  unfold State.qGo
  split
  · rfl
  · simp only []
    refine (calm_cores (State.lilac_calm _ _ _ _ _ _ _)).trans ?_
    have hu : (s.updQueue q (fun x => { x with code := c })).cores = s.cores := rfl
    generalize s.updQueue q (fun x => { x with code := c }) = t at hu
    rw [← hu]
    split
    · exact calm_cores (State.fnEvent_calm _ _ _)
    · exact calm_cores (State.fnEvent_calm _ _ _)
    · rfl

theorem resetUnits_cores (s : State) (n sub : Nat) : (s.resetUnits n sub).cores = s.cores := by
  unfold State.resetUnits
  generalize s.kernelsOn n = l
  induction l generalizing s with
  | nil => rfl
  | cons r l ih =>
    rw [List.foldl_cons, ih, coreEnd_disp]
    show (if _ then _ else s : State).cores = _
    split
    · exact qGo_cores _ _ _
    · rfl

theorem bankFree_cores (s : State) (n b : Nat) : (s.bankFree n b).cores = s.cores := by
  unfold State.bankFree
  generalize List.range 3072 = l
  induction l generalizing s with
  | nil => rfl
  | cons r l ih => exact ih _

theorem marchAbandon_cores (s : State) (n : Nat) : (s.marchAbandon n).cores = s.cores := by
  unfold State.marchAbandon
  split
  · rfl
  · exact bankFree_cores _ _ _

theorem coreClear_local (s : State) (n : Nat) (keep : Bool) :
    (∀ m, m ≠ n → (s.coreClear n keep).core m = s.core m) ∧ (s.coreClear n keep).core n = (s.core n).cleared keep := by
  have hz : ∀ (b : List (Nat × Bank)) (u : State), (b.foldl (fun s e => if e.2.pwr = .dark then s.bankZero n e.1 else s) u).cores = u.cores := by
    intro b
    induction b with
    | nil => exact fun _ => rfl
    | cons e b ih =>
      intro u
      rw [List.foldl_cons, ih]
      split <;> rfl
  have hm : ((s.marchAbandon n).unissued n).cores = s.cores := marchAbandon_cores s n
  unfold State.coreClear
  simp only []
  generalize (s.marchAbandon n).unissued n = u at hm
  have hc := (hz (u.core n).bank u).trans hm
  generalize (u.core n).bank.foldl (fun s e => if e.2.pwr = .dark then s.bankZero n e.1 else s) u = v at hc
  have hu : u.core n = s.core n := by unfold State.core; rw [hm]
  constructor
  · intro m hne
    show (v.setCore n _).core m = _
    rw [State.core_setCore, if_neg hne]
    unfold State.core
    rw [hc]
  · show (v.setCore n _).core n = _
    rw [State.core_setCore_same, hu]

/-- Cores that are cleared stay so while others are cleared. -/
theorem clearCores_core (s : State) (l : List Nat) (n : Nat) : (n ∈ l ∨ s.CoreReset n) → (s.clearCores l).CoreReset n := by
  unfold State.clearCores
  induction l generalizing s with
  | nil => exact fun h => h.elim (fun e => by cases e) id
  | cons m l ih =>
    intro h
    rw [List.foldl_cons]
    refine ih _ ?_
    obtain ⟨ho, hm⟩ := coreClear_local (s.resetUnits m 2) m false
    by_cases hn : n = m
    · right
      unfold State.CoreReset
      rw [hn, hm]
      exact cleared_reset _ _
    · rcases h with h | h
      · exact .inl ((List.mem_cons.mp h).resolve_left hn)
      · right
        refine CoreReset.of_core h ((ho n hn).trans ?_)
        unfold State.core
        rw [resetUnits_cores]

theorem dropMop_reset {s : State} {n : Nat} (h : s.CoreReset n) (m id : Nat) : (s.dropMop m id).CoreReset n := by
  unfold State.dropMop State.CoreReset at *
  rw [State.core_setCore]
  split
  next hm =>
    obtain ⟨h1, h2, h3, h4, h5⟩ := h
    rw [hm] at h1 h2 h3 h4 h5
    exact ⟨h1, h2, h3, h4, by rw [h5]; rfl⟩
  next => exact h

theorem wake_cores (s : State) : s.wake.cores = s.cores := by
  unfold State.wake
  simp only []
  have h0 : ({ s with fabric := { s.fabric with waiting := [] } } : State).cores = s.cores := rfl
  generalize ({ s with fabric := { s.fabric with waiting := [] } } : State) = u at h0
  generalize s.fabric.waiting = l
  induction l generalizing u with
  | nil => exact h0
  | cons r l ih =>
    rw [List.foldl_cons]
    refine ih _ ?_
    split
    · exact (calm_cores (State.issueReq_calm u r)).trans h0
    · exact h0

theorem releaseReqs_cores (s : State) (q : Req → Bool) : (s.releaseReqs q).cores = s.cores := wake_cores _

theorem abandon_cores (s : State) (q : SCmd → Bool) : (s.abandon q).cores = s.cores := releaseReqs_cores _ _

theorem dropReqs_reset {s : State} {n : Nat} (h : s.CoreReset n) (q : Req → Bool) : (s.dropReqs q).CoreReset n := by
  unfold State.dropReqs
  simp only []
  have hr : (s.releaseReqs q).CoreReset n := CoreReset.of_core h (by unfold State.core; rw [releaseReqs_cores])
  generalize s.releaseReqs q = u at hr
  generalize List.filter q _ = l
  induction l generalizing u with
  | nil => exact hr
  | cons r l ih =>
    rw [List.foldl_cons]
    refine ih _ ?_
    split
    · exact dropMop_reset hr _ _
    · exact dropMop_reset hr _ _
    · exact hr

theorem fence_cores (s : State) (c : Bool) (n : Nat) : (s.fence c n).cores = s.cores := by
  unfold State.fence
  split
  · rfl
  · rw [odApply_od]
    rfl

theorem showTags_cores (s : State) : s.showTags.cores = s.cores := by
  unfold State.showTags
  generalize List.range 16 = l
  induction l generalizing s with
  | nil => rfl
  | cons p l ih => exact ih _

theorem setTag_cores (s : State) (k v : Nat) : (s.setTag k v).cores = s.cores := by
  unfold State.setTag
  split <;> rfl

theorem tagAdvance_reset {s : State} {n : Nat} (h : s.CoreReset n) (k : Nat) : (s.tagAdvance k).CoreReset n := by
  unfold State.tagAdvance
  split
  · simp only []
    have hd := dropReqs_reset h (fun r => s.domainOf r == k && r.pkt.gen == s.tag k)
    generalize s.dropReqs (fun r => s.domainOf r == k && r.pkt.gen == s.tag k) = t at hd
    refine CoreReset.of_core hd ?_
    unfold State.core
    rw [showTags_cores, setTag_cores]
  · simp only []
    have hf : (s.fence true k).CoreReset n := CoreReset.of_core h (by unfold State.core; rw [fence_cores])
    generalize s.fence true k = t at hf
    split
    · exact hf
    · exact hf

theorem odSetN_cores (s : State) (i k n : Nat) : (s.odSetN i k n).cores = s.cores := rfl

theorem poolAbandon_cores (s : State) (c : Nat) : (s.poolAbandon c).cores = s.cores := by
  unfold State.poolAbandon
  split
  · rfl
  · exact odSetN_cores _ _ _ _

theorem mem_coresOf {c n : Nat} (h : clusterOf n = c) : n ∈ coresOf c := by
  unfold clusterOf at h
  unfold coresOf
  exact List.mem_map.mpr ⟨n % 12, List.mem_range.mpr (Nat.mod_lt _ (by decide)), by omega⟩

theorem beginCluster_reset (s : State) {c n : Nat} (h : clusterOf n = c) : (s.beginCluster c).CoreReset n := by
  unfold State.beginCluster
  refine tagAdvance_reset ?_ c
  have hc : (s.clusterClear c).CoreReset n := by
    unfold State.clusterClear
    simp only []
    have hk := clearCores_core (s.poolAbandon c) (coresOf c) n (.inl (mem_coresOf h))
    unfold State.clearCores at hk
    generalize (coresOf c).foldl (fun s n => (s.resetUnits n 2).coreClear n false) (s.poolAbandon c) = t at hk
    refine CoreReset.of_core hk ?_
    show (t.abandon _).core n = _
    unfold State.core
    rw [abandon_cores]
  generalize s.clusterClear c = t at hc
  exact hc

theorem beginCore_spec (s : State) (n : Nat) : (∀ m, m ≠ n → (s.beginCore n).core m = s.core m) ∧ (s.beginCore n).CoreReset n ∧
    (⟨false, n⟩ : Fence) ∈ (s.beginCore n).faults.fences := by
  obtain ⟨ho, hm⟩ := coreClear_local (s.resetUnits n 1) n false
  have hr : ∀ m, (s.resetUnits n 1).core m = s.core m := fun m => by unfold State.core; rw [resetUnits_cores]
  unfold State.beginCore State.coreFence
  simp only []
  generalize (s.resetUnits n 1).coreClear n false = t at ho hm
  have hf : ∀ m, (t.fence false n).core m = t.core m := fun m => by unfold State.core; rw [fence_cores]
  have hin : (⟨false, n⟩ : Fence) ∈ (t.fence false n).faults.fences := by
    unfold State.fence
    split
    next h => exact List.contains_iff_mem.mp h
    next =>
      rw [odApply_od]
      exact List.mem_append_right _ (List.mem_singleton.mpr rfl)
  generalize t.fence false n = u at hf hin
  generalize (s.resetUnits n 1).localOps n = k
  have hu : (∀ m, m ≠ n → u.core m = s.core m) ∧ u.CoreReset n ∧ (⟨false, n⟩ : Fence) ∈ u.faults.fences := by
    refine ⟨fun m hne => (hf m).trans ((ho m hne).trans (hr m)), ?_, hin⟩
    unfold State.CoreReset
    rw [hf n, hm]
    exact cleared_reset _ _
  split
  · exact hu
  · exact hu

end Sys2Proof.Machine

/-! SUPPORT. The machines of epoch agents, and what a reset of the compute part leaves of the service state and of its cause (R332, R379). -/
namespace Sys2Proof.Machine

/-! ### Agents and their machines -/

theorem mach_epoch (s : State) (g epoch : Nat) : (s.mach g epoch).epoch = epoch := by
  unfold State.mach
  cases h : (s.agent g).machs.find? (fun m => m.epoch == epoch) with
  | none => rfl
  | some m =>
    have hm := List.find?_some h
    exact beq_iff_eq.mp hm

theorem agent_setAgent (s : State) (g h : Nat) (a : Agent) : (s.setAgent g a).agent h = if h = g then a else s.agent h := tget_tset _ _ _ _ _

theorem mach_of_machs {s t : State} {g : Nat} (h : (t.agent g).machs = (s.agent g).machs) (epoch : Nat) : t.mach g epoch = s.mach g epoch := by
  unfold State.mach; rw [h]

theorem mach_of_agents {s t : State} (h : t.agents = s.agents) (g epoch : Nat) : t.mach g epoch = s.mach g epoch :=
  mach_of_machs (by unfold State.agent; rw [h]) epoch

theorem agent_of_agents {s t : State} (h : t.agents = s.agents) (g : Nat) : t.agent g = s.agent g := by
  unfold State.agent; rw [h]

/-- A machine that is set changes only the machines of its agent. -/
theorem setMach_agent (s : State) (g : Nat) (m : Mach) : (s.setMach g m).agent g = { s.agent g with machs := ((s.setMach g m).agent g).machs } ∧
    ∀ h, h ≠ g → (s.setMach g m).agent h = s.agent h := by
  unfold State.setMach
  simp only []
  generalize (if m.st = .idle then _ else _ : List Mach) = l
  constructor
  · rw [agent_setAgent, if_pos rfl]
  · intro h hne
    rw [agent_setAgent, if_neg hne]

theorem find?_updFirst_const (l : List Mach) (m : Mach) (h : l.any (fun x => x.epoch == m.epoch) = true) :
    (updFirst (fun x => x.epoch == m.epoch) (fun _ => m) l).find? (fun x => x.epoch == m.epoch) = some m := by
  induction l with
  | nil => cases h
  | cons x l ih =>
    unfold updFirst
    by_cases hx : (x.epoch == m.epoch) = true
    · rw [if_pos hx]
      exact List.find?_cons_of_pos (by simp)
    · rw [if_neg hx, List.find?_cons_of_neg (by simpa using hx)]
      rw [List.any_cons, Bool.or_eq_true] at h
      exact ih (h.resolve_left hx)

theorem mach_setMach_same (s : State) (g : Nat) (m : Mach) (h : m.st ≠ .idle) : (s.setMach g m).mach g m.epoch = m := by
  unfold State.setMach State.mach
  simp only [if_neg h]
  rw [agent_setAgent, if_pos rfl]
  by_cases ha : (s.agent g).machs.any (fun x => x.epoch == m.epoch) = true
  · simp only [ha, if_true]
    rw [find?_updFirst_const _ _ ha]
    rfl
  · simp only [ha, Bool.false_eq_true, if_false]
    have hn : (s.agent g).machs.find? (fun x => x.epoch == m.epoch) = none := by
      rw [List.find?_eq_none]
      exact fun x hx hp => ha (List.any_eq_true.mpr ⟨x, hx, hp⟩)
    rw [List.find?_append, hn, Option.none_or, List.find?_cons_of_pos (by simp)]
    rfl

/-! ### A machine's steps -/

theorem coGo_agents (s : State) (g epoch : Nat) (st : CoSt) : (s.coGo g epoch st).agents = (s.setMach g { s.mach g epoch with st := st }).agents := by
  unfold State.coGo
  exact calm_agents ((State.lilac_calm _ _ _ _ _ _ _).trans (State.odSetN_calm _ _ _ _))

theorem coGo_mach (s : State) (g epoch : Nat) {st : CoSt} (h : st ≠ .idle) : (s.coGo g epoch st).mach g epoch = { s.mach g epoch with st := st } := by
  rw [mach_of_agents (coGo_agents s g epoch st)]
  have := mach_setMach_same s g { s.mach g epoch with st := st } h
  rw [show ({ s.mach g epoch with st := st } : Mach).epoch = epoch from mach_epoch s g epoch] at this
  exact this

/-! ### The service state and its cause -/

/-- The life of the module and the cause of Red are as before. -/
def State.Spares (s t : State) : Prop := t.life = s.life ∧ t.odGet 0x7042 0 = s.odGet 0x7042 0

namespace State.Spares

theorem refl (s : State) : s.Spares s := ⟨rfl, rfl⟩
theorem trans {s t u : State} (h : s.Spares t) (g : t.Spares u) : s.Spares u := ⟨g.1.trans h.1, g.2.trans h.2⟩
theorem of_same {s t : State} (hl : t.life = s.life) (ho : t.od = s.od) : s.Spares t := ⟨hl, by unfold State.odGet; rw [ho]⟩
theorem of_retires {s t : State} (hl : t.life = s.life) (h : s.Retires t) : s.Spares t :=
  ⟨hl, h.quiet 0x7042 0 (by decide) (by unfold Cut Routed Noisy; decide)⟩
theorem of_carries {s t : State} (hc : t.calm = s.calm) (h : s.Carries t) : s.Spares t :=
  of_retires (calm_life hc) (.of_carries hc h)
theorem of_reports {s t : State} (h : s.Reports t) : s.Spares t := of_retires (by rw [h.1]) (.of_reports h)

theorem odSetN {s : State} {i k : Nat} (n : Nat) (hi : 0x7042 ≠ i) (hk : k < 256) : s.Spares (s.odSetN i k n) :=
  ⟨rfl, odGet_odSetN_other s n (odKey_ne hk (by decide) hi)⟩
theorem odInc {s : State} {i k : Nat} (hi : 0x7042 ≠ i) (hk : k < 256) : s.Spares (s.odInc i k) := odSetN _ hi hk
theorem odApply {s : State} {i k : Nat} (hi : 0x7042 ≠ i) (hk : k < 256) : s.Spares (s.odApply i k) :=
  ⟨by rw [odApply_od], odGet_odApply_other s (odKey_ne hk (by decide) hi)⟩

theorem foldl {α : Type} {f : State → α → State} {l : List α} (h : ∀ (s : State), ∀ a ∈ l, s.Spares (f s a)) (s : State) :
    s.Spares (l.foldl f s) := by
  induction l generalizing s with
  | nil => exact refl s
  | cons a l ih => exact (h s a List.mem_cons_self).trans (ih (fun s b hb => h s b (List.mem_cons_of_mem _ hb)) _)

theorem ite {s t u : State} {c : Prop} [Decidable c] (h : s.Spares t) (g : s.Spares u) : s.Spares (if c then t else u) := by
  split
  · exact h
  · exact g

end State.Spares

/-! ### Epochs -/

theorem setEp_spares (s : State) (p : Nat) (e : Ep) : s.Spares (s.setEp p e) := .of_same rfl rfl
theorem setAgent_spares (s : State) (g : Nat) (a : Agent) : s.Spares (s.setAgent g a) := .of_same rfl rfl
theorem setMach_spares (s : State) (g : Nat) (m : Mach) : s.Spares (s.setMach g m) := .of_same rfl rfl
theorem hold_spares (s : State) (g : Nat) (d : Dec) : s.Spares (s.hold g d) := .of_same rfl rfl
theorem updFlight_spares (s : State) (r : DescRef) (f : Flight → Flight) : s.Spares (s.updFlight r f) := .of_same rfl rfl
theorem deciding_spares (s : State) (l : List (Nat × Bool)) : s.Spares { s with memory := { s.memory with deciding := l } } := .of_same rfl rfl


theorem lilac_spares (s : State) (kind code src addr data : Nat) (part : Option Nat) : s.Spares (s.lilac kind code src addr data part) :=
  .of_reports (lilac_reports _ _ _ _ _ _ _)

theorem epSend_spares (s : State) (g ref kind term epoch value cause rterm count rank : Nat) :
    s.Spares (s.epSend g ref kind term epoch value cause rterm count rank) :=
  .of_carries (State.epSend_calm _ _ _ _ _ _ _ _ _ _ _) (request_carries _ _ _)

theorem showEp_spares (s : State) {p : Nat} (hp : p < 16) : s.Spares (s.showEp p) :=
  ((State.Spares.odSetN _ (by decide) (by omega)).trans (.odSetN _ (by decide) (by omega))).trans (.odSetN _ (by decide) (by omega))

theorem epGo_spares (s : State) {p : Nat} (hp : p < 16) (st : MemSt) : s.Spares (s.epGo p st) := by
  unfold State.epGo
  refine State.Spares.trans ?_ (lilac_spares _ _ _ _ _ _ _)
  exact State.Spares.trans (setEp_spares s p _) (showEp_spares _ hp)

theorem epCause_spares (s : State) {p c : Nat} (hp : p < 16) (hc : c < 256) : s.Spares (s.epCause p c) := by
  unfold State.epCause
  simp only []
  refine State.Spares.trans ?_ (showEp_spares _ hp)
  refine State.Spares.trans (setEp_spares s p { s.ep p with cause := c, counted := true }) ?_
  exact .ite (.refl _) (.odInc (by decide) (by omega))

theorem toStacks_spares (s : State) (p : Nat) (commit : Bool) : s.Spares (s.toStacks p commit) :=
  State.Spares.trans (deciding_spares s _) (.of_reports (pulse_reports _ _ (by decide)))

theorem startRestore_spares (s : State) {p : Nat} (hp : p < 16) : s.Spares (s.startRestore p) := by
  unfold State.startRestore
  refine State.Spares.trans ?_ (.odInc (by decide) (by omega))
  refine State.Spares.trans ?_ (toStacks_spares _ _ _)
  exact State.Spares.trans (setEp_spares s p _) (epGo_spares _ hp _)

theorem unitEnd_spares (s : State) (r : DescRef) (u : Nat) (e : UEnd) : s.Spares (s.unitEnd r u e) := by
  rw [unitEnd_disp]
  exact .of_same rfl rfl

theorem commitClose_spares (s : State) {p : Nat} (hp : p < 16) : s.Spares (s.commitClose p) := by
  have h : s.Spares (((((s.setEp p { s.ep p with anyDecided := true, lastDecided := (s.ep p).epoch, voteDesc := none }).epGo p .closed).toStacks p
      true)).odInc 0x5860 (p + 1)) := by
    refine State.Spares.trans ?_ (.odInc (by decide) (by omega))
    refine State.Spares.trans ?_ (toStacks_spares _ _ _)
    exact State.Spares.trans (setEp_spares s p _) (epGo_spares _ hp _)
  unfold State.commitClose
  simp only []
  generalize State.odInc _ 0x5860 (p + 1) = t at h ⊢
  split
  · exact h.trans (State.Spares.trans (updFlight_spares _ _ _) (unitEnd_spares _ _ _ _))
  · exact h

theorem contradict_spares (s : State) (p : Nat) : s.Spares (s.contradict p) :=
  (State.Spares.odInc (by decide) (by omega)).trans (.of_reports (raise_reports _ _ _ _ _))

theorem toChildren_spares (s : State) (p kind value cause : Nat) : s.Spares (s.toChildren p kind value cause) :=
  .foldl (fun s r _ => epSend_spares s _ r kind 0 _ value cause 0 0 0) s

theorem memberDecide_spares (s : State) {p cause : Nat} (hp : p < 16) (hc : cause < 256) (value : Nat) (fwd : Bool) :
    s.Spares (s.memberDecide p value cause fwd) := by
  have hf : ∀ u : State, u.Spares (if fwd && !(u.ep p).forwarded then
      (u.setEp p { u.ep p with forwarded := true }).toChildren p 5 value cause else u) := fun u =>
    .ite (State.Spares.trans (setEp_spares u p _) (toChildren_spares _ _ _ _ _)) (.refl u)
  unfold State.memberDecide
  simp only []
  split
  · exact .ite (((epCause_spares s hp hc).trans (epGo_spares _ hp _)).trans (hf _)) (contradict_spares s p)
  · exact .ite (hf s) (contradict_spares s p)
  · exact .ite (((epCause_spares s hp hc).trans (hf _)).trans (startRestore_spares _ hp)) ((hf s).trans (commitClose_spares _ hp))
  · exact .ite (((epCause_spares s hp hc).trans (hf _)).trans (startRestore_spares _ hp)) ((hf s).trans (commitClose_spares _ hp))
  · exact .ite (hf s) (contradict_spares s p)
  · exact .ite (hf s) (contradict_spares s p)
  · exact .refl s

theorem agentPart_lt (s : State) (g : Nat) : s.agentPart g < 16 := by
  unfold State.agentPart
  split
  next p h => exact List.mem_range.mp (List.mem_of_find?_eq_some h)
  next => exact Nat.mod_lt _ (by decide)

theorem coGo_spares (s : State) (g epoch : Nat) (st : CoSt) : s.Spares (s.coGo g epoch st) := by
  have hp := agentPart_lt s g
  unfold State.coGo
  refine State.Spares.trans ?_ (lilac_spares _ _ _ _ _ _ _)
  refine State.Spares.trans (setMach_spares s g _) (.odSetN _ (by decide) ?_)
  omega

theorem sendRecords_spares (s : State) (g epoch : Nat) : s.Spares (s.sendRecords g epoch) := by
  unfold State.sendRecords
  split
  · exact .refl s
  · exact .foldl (fun s k _ => .ite (.refl s) (epSend_spares _ _ _ _ _ _ _ _ _ _ _)) s

theorem coDecided_spares (s : State) (g epoch : Nat) (hc : (s.mach g epoch).dec.cause < 256) : s.Spares (s.coDecided g epoch) := by
  have hp := agentPart_lt s g
  unfold State.coDecided
  simp only []
  split
  · exact .refl s
  next t _ =>
    generalize (s.mach g epoch).dec = d at hc
    have h1 : s.Spares ((t.deciders d.term).foldl (fun s r => s.epSend g r 5 0 epoch d.value d.cause 0 0 0)
        ((s.coGo g epoch .decided).hold g d)) :=
      ((coGo_spares s g epoch .decided).trans (hold_spares _ g d)).trans (.foldl (fun s r _ => epSend_spares _ _ _ _ _ _ _ _ _ _ _) _)
    generalize (t.deciders d.term).foldl _ _ = u at h1
    have h2 : s.Spares (if (u.ep (s.agentPart g)).group = g ∧ (u.ep (s.agentPart g)).epoch = epoch
        then u.memberDecide (s.agentPart g) d.value d.cause false else u) :=
      .ite (h1.trans (memberDecide_spares u hp hc _ _)) h1
    simp only [Bool.and_eq_true, decide_eq_true_eq]
    generalize (if (u.ep (s.agentPart g)).group = g ∧ (u.ep (s.agentPart g)).epoch = epoch
      then u.memberDecide (s.agentPart g) d.value d.cause false else u) = v at h2 ⊢
    exact .ite (h2.trans (coGo_spares _ _ _ _)) ((h2.trans (.odApply (by decide) (by omega))).trans (coGo_spares _ _ _ _))

theorem coCheck_spares (s : State) (g epoch : Nat) (hc : (s.mach g epoch).dec.cause < 256) : s.Spares (s.coCheck g epoch) := by
  unfold State.coCheck
  split
  · exact .refl s
  · exact .ite (coDecided_spares s g epoch hc) (.refl s)

/-- What a step keeps of its agent's machines when it changes none. -/
theorem epCause_agents (s : State) (p c : Nat) : (s.epCause p c).agents = s.agents := by
  unfold State.epCause
  simp only []
  rw [calm_agents (State.showEp_calm _ p)]
  split <;> rfl

theorem foldl_agents {α : Type} {f : State → α → State} (h : ∀ s a, (f s a).agents = s.agents) (l : List α) (s : State) :
    (l.foldl f s).agents = s.agents := by
  induction l generalizing s with
  | nil => rfl
  | cons a l ih => exact (ih _).trans (h s a)

theorem epSend_agents (s : State) (g ref kind term epoch value cause rterm count rank : Nat) :
    (s.epSend g ref kind term epoch value cause rterm count rank).agents = s.agents :=
  calm_agents (State.epSend_calm _ _ _ _ _ _ _ _ _ _ _)

theorem sendRecords_agents (s : State) (g epoch : Nat) : (s.sendRecords g epoch).agents = s.agents := by
  unfold State.sendRecords
  split
  · rfl
  · refine foldl_agents (fun s k => ?_) _ s
    split
    · rfl
    · exact epSend_agents _ _ _ _ _ _ _ _ _ _ _

/-- The agent with a decision that its machine records: the machine holds it, and so do the records where it is of a term. -/
def State.recording (s : State) (g : Nat) (d : Dec) : State :=
  let s := s.odApply 0x5821 0
  let s := s.setMach g { s.mach g d.epoch with dec := d, acks := [] }
  let s := if d.term = 0 then s else s.setAgent g { s.agent g with records := keepDec (s.agent g).records d }
  s.coGo g d.epoch .recording

theorem recording_mach (s : State) (g : Nat) (d : Dec) (h : (s.mach g d.epoch).st ≠ .idle) :
    (s.recording g d).mach g d.epoch = { s.mach g d.epoch with dec := d, acks := [], st := .recording } := by
  have ha : (s.odApply 0x5821 0).agents = s.agents := by rw [odApply_od]
  have hm : (s.odApply 0x5821 0).mach g d.epoch = s.mach g d.epoch := mach_of_agents ha _ _
  unfold State.recording
  simp only [hm]
  rw [coGo_mach _ _ _ (by decide)]
  have hs := mach_setMach_same (s.odApply 0x5821 0) g { s.mach g d.epoch with dec := d, acks := [] } h
  rw [show ({ s.mach g d.epoch with dec := d, acks := [] } : Mach).epoch = d.epoch from mach_epoch s g d.epoch] at hs
  generalize (s.odApply 0x5821 0).setMach g { s.mach g d.epoch with dec := d, acks := [] } = u at hs
  split
  · rw [hs]
  · rw [mach_of_machs (s := u) (by rw [agent_setAgent, if_pos rfl]), hs]

theorem recording_spares (s : State) (g : Nat) (d : Dec) : s.Spares (s.recording g d) := by
  unfold State.recording
  simp only []
  refine State.Spares.trans (State.Spares.odApply (i := 0x5821) (k := 0) (by decide) (by decide)) ?_
  generalize s.odApply 0x5821 0 = t
  refine State.Spares.trans (setMach_spares t g { t.mach g d.epoch with dec := d, acks := [] }) ?_
  generalize t.setMach g { t.mach g d.epoch with dec := d, acks := [] } = u
  exact State.Spares.trans (.ite (.refl u) (setAgent_spares u g _)) (coGo_spares _ _ _ _)

/-- An abort is told to the member and counted. -/
def State.abortTold (s : State) (p g : Nat) (d : Dec) : State :=
  if d.value = 2 && (s.ep p).group = g && (s.ep p).epoch = d.epoch && (s.ep p).st != .closed then s.epCause p d.cause
  else if d.value = 2 then s.odInc 0x5862 d.cause else s

theorem coDecide_eq (s : State) (g : Nat) (d : Dec) : s.coDecide g d =
    (((s.recording g d).abortTold (s.agentPart g) g d).sendRecords g d.epoch).coCheck g d.epoch := rfl

theorem abortTold_agents (s : State) (p g : Nat) (d : Dec) : (s.abortTold p g d).agents = s.agents := by
  unfold State.abortTold
  split
  · exact epCause_agents _ _ _
  · split <;> rfl

theorem abortTold_spares (s : State) {p : Nat} (hp : p < 16) (g : Nat) {d : Dec} (hc : d.cause < 256) : s.Spares (s.abortTold p g d) :=
  .ite (epCause_spares s hp hc) (.ite (.odInc (by decide) hc) (.refl s))

/-- The machine before the check of its quorum. -/
theorem coDecide_mach (s : State) (g : Nat) (d : Dec) (h : (s.mach g d.epoch).st ≠ .idle) :
    (((s.recording g d).abortTold (s.agentPart g) g d).sendRecords g d.epoch).mach g d.epoch =
      { s.mach g d.epoch with dec := d, acks := [], st := .recording } := by
  rw [mach_of_agents (sendRecords_agents _ _ _), mach_of_agents (abortTold_agents _ _ _ _), recording_mach s g d h]

theorem coDecide_spares (s : State) (g : Nat) {d : Dec} (h : (s.mach g d.epoch).st ≠ .idle) (hc : d.cause < 256) : s.Spares (s.coDecide g d) := by
  rw [coDecide_eq]
  refine (((recording_spares s g d).trans (abortTold_spares _ (agentPart_lt s g) g hc)).trans (sendRecords_spares _ _ _)).trans (coCheck_spares _ _ _ ?_)
  rw [coDecide_mach s g d h]
  exact hc

theorem coCollect_spares (s : State) (g epoch : Nat) : s.Spares (s.coCollect g epoch) :=
  .ite ((State.Spares.odApply (by decide) (by decide)).trans (coGo_spares _ _ _ _)) (.refl s)

theorem coAbort_spares (s : State) (g epoch : Nat) {cause : Nat} (hc : cause < 256) : s.Spares (s.coAbort g epoch cause) := by
  have h := coCollect_spares s g epoch
  unfold State.coAbort
  simp only []
  generalize s.coCollect g epoch = t at h
  refine h.trans ?_
  split
  next hm => exact coDecide_spares t g (d := ⟨epoch, 2, cause, 0⟩) (by rw [hm]; decide) hc
  next => exact .refl t

theorem castAbort_spares (s : State) {p cause : Nat} (hp : p < 16) (hc : cause < 256) : s.Spares (s.castAbort p cause) := by
  unfold State.castAbort
  split
  · refine (epGo_spares s hp .doomed).trans ?_
    unfold State.sendAbort
    simp only []
    exact (epCause_spares _ hp hc).trans (.ite (coAbort_spares _ _ _ hc) (epSend_spares _ _ _ _ _ _ _ _ _ _ _))
  · exact .refl s

/-! ### Collectives, queues and tables -/

theorem showPools_spares (s : State) : s.Spares s.showPools := by
  unfold State.showPools
  simp only []
  refine State.Spares.trans (.foldl (fun s k hk => .odSetN _ (by decide) ?_) s) (.foldl (fun s p hp => .odSetN _ (by decide) ?_) _)
  · have := List.mem_range.mp hk
    omega
  · have := List.mem_range.mp hp
    omega

/-- No element of a group has the sub-index of the cause. -/
theorem odSetN_gSub_spares (s : State) (i g n : Nat) : s.Spares (s.odSetN i (gSub g) n) :=
  ⟨rfl, odGet_odSetN_other s n (by unfold odKey gSub; omega)⟩

theorem odApply_gSub_spares (s : State) (i g : Nat) : s.Spares (s.odApply i (gSub g)) :=
  ⟨by rw [odApply_od], odGet_odApply_other s (by unfold odKey gSub; omega)⟩

theorem setGSt_spares (s : State) (g st : Nat) : s.Spares (s.setGSt g st) := odSetN_gSub_spares _ _ _ _

theorem withColls_spares (s : State) (c : Colls) : s.Spares { s with colls := c } := .of_same rfl rfl
theorem withPower_spares (s : State) (p : Power) : s.Spares { s with power := p } := .of_same rfl rfl

theorem applyGroup_spares (s : State) (g : Nat) : s.Spares (s.applyGroup g) := by
  unfold State.applyGroup
  split
  · exact .refl s
  · simp only []
    refine State.Spares.trans ?_ (odSetN_gSub_spares _ _ _ _)
    refine State.Spares.trans ?_ (setGSt_spares _ _ _)
    have h := (odApply_gSub_spares s (gIdx 0x5100 g) g).trans (withColls_spares _ { (s.odApply (gIdx 0x5100 g) (gSub g)).colls with
      begun := tset false (s.odApply (gIdx 0x5100 g) (gSub g)).colls.begun g false,
      grants := (s.odApply (gIdx 0x5100 g) (gSub g)).colls.grants.filter (fun p => auxGroup p != g) })
    split
    · exact h.trans (withPower_spares _ _)
    · exact h

theorem flightDone_spares (s : State) (r : DescRef) : s.Spares (s.flightDone r) := by
  rw [flightDone_disp]
  exact .of_same rfl rfl

theorem flightForce_spares (s : State) (r : DescRef) (e : UEnd) : s.Spares (s.flightForce r e) := by
  unfold State.flightForce
  split
  · exact .refl s
  · exact .ite (.refl s) ((updFlight_spares s r _).trans (flightDone_spares _ _))

theorem collFinish_spares (s : State) (c : Coll) : s.Spares (s.collFinish c) := by
  unfold State.collFinish
  split
  · exact .refl s
  · refine .ite (.refl s) ?_
    simp only []
    exact State.Spares.trans (State.Spares.trans (withColls_spares s _) (updFlight_spares _ _ _)) (flightForce_spares _ _ _)

theorem collEnd_spares (s : State) (c : Coll) {e : UEnd} (abortSub : Nat) (from_ : Option Nat) (he : e.status = 6 → e.sub < 256) :
    s.Spares (s.collEnd c e abortSub from_) := by
  unfold State.collEnd
  simp only []
  refine State.Spares.trans ?_ (collFinish_spares _ _)
  refine State.Spares.trans ?_ (showPools_spares _)
  refine State.Spares.trans ?_ (applyGroup_spares _ _)
  refine State.Spares.trans ?_ (.foldl (fun s r _ => .of_carries (State.colSend_calm _ _ _) (request_carries _ _ _)) _)
  refine State.Spares.trans ?_ (setGSt_spares _ _ _)
  refine State.Spares.trans ?_ (withColls_spares _ _)
  refine State.Spares.trans ?_ (lilac_spares _ _ _ _ _ _ _)
  split
  next h => exact .odInc (by decide) (he h)
  next => exact .refl s

theorem collsReset_spares (s : State) : s.Spares s.collsReset := by
  refine .foldl (fun s c _ => ?_) s
  simp only []
  have h : s.Spares (if c.ended.isNone = true then (s.odInc 0x5012 5).collEnd c ⟨0xB, 3, 0⟩ 5 none else s) :=
    .ite ((State.Spares.odInc (by decide) (by decide)).trans (collEnd_spares _ c 5 none (fun h => absurd h (by decide)))) (.refl s)
  generalize (if c.ended.isNone = true then (s.odInc 0x5012 5).collEnd c ⟨0xB, 3, 0⟩ 5 none else s) = t at h ⊢
  refine State.Spares.trans ?_ (showPools_spares _)
  refine State.Spares.trans ?_ (flightForce_spares _ _ _)
  refine State.Spares.trans ?_ (updFlight_spares _ _ _)
  exact h.trans (withColls_spares t _)

end Sys2Proof.Machine

/-! SUPPORT. Resets that a device fault makes, and the escalation to Red (R371, R376, R379, R390). -/
namespace Sys2Proof.Machine

/-! ### A reset of the compute part leaves the service state -/

theorem wake_calm (s : State) : s.wake.calm = s.calm := by
  unfold State.wake
  refine (calm_foldl (s := s) (fun u r => ?_) rfl)
  split
  · exact State.issueReq_calm _ _
  · rfl

theorem releaseReqs_calm (s : State) (q : Req → Bool) : (s.releaseReqs q).calm = s.calm := (wake_calm _).trans rfl

theorem withSepia_spares (s : State) (x : Sepia) : s.Spares { s with sepia := x } := .of_same rfl rfl
theorem withFaults_spares (s : State) (x : Faults) : s.Spares { s with faults := x } := .of_same rfl rfl
theorem withMemory_spares (s : State) (x : Memory) : s.Spares { s with memory := x } := .of_same rfl rfl

theorem releaseReqs_spares (s : State) (q : Req → Bool) : s.Spares (s.releaseReqs q) :=
  .of_retires (calm_life (releaseReqs_calm s q)) (releaseReqs_retires s q)

theorem abandon_spares (s : State) (q : SCmd → Bool) : s.Spares (s.abandon q) :=
  (releaseReqs_spares s _).trans (withSepia_spares _ _)

theorem qGo_life (s : State) (q : Nat) (c : QCode) : (s.qGo q c).life = s.life := by
  unfold State.qGo
  split
  · rfl
  · simp only []
    refine (calm_life (State.lilac_calm _ _ _ _ _ _ _)).trans ?_
    have hu : (s.updQueue q (fun x => { x with code := c })).life = s.life := rfl
    generalize s.updQueue q (fun x => { x with code := c }) = t at hu
    rw [← hu]
    split
    · exact calm_life (State.fnEvent_calm _ _ _)
    · exact calm_life (State.fnEvent_calm _ _ _)
    · rfl

theorem qGo_spares (s : State) (q : Nat) (c : QCode) : s.Spares (s.qGo q c) := .of_retires (qGo_life s q c) (qGo_retires s q c)

theorem stopQueues_spares (s : State) (q : Nat → Bool) : s.Spares (s.stopQueues q) :=
  .foldl (fun s e _ => .ite (qGo_spares _ _ _) (.refl s)) s

theorem tableEnds_spares (s : State) (q : SCmd → Bool) : s.Spares (s.tableEnds q) := by
  refine .foldl (fun s x _ => ?_) s
  split
  · exact updFlight_spares _ _ _
  · exact .refl s

theorem bankFree_life (s : State) (n b : Nat) : (s.bankFree n b).life = s.life := by
  unfold State.bankFree
  generalize List.range 3072 = l
  induction l generalizing s with
  | nil => rfl
  | cons r l ih => exact ih _

theorem marchAbandon_life (s : State) (n : Nat) : (s.marchAbandon n).life = s.life := by
  unfold State.marchAbandon
  split
  · rfl
  · exact bankFree_life _ _ _

theorem coreClear_life (s : State) (n : Nat) (keep : Bool) : (s.coreClear n keep).life = s.life := by
  have hz : ∀ (b : List (Nat × Bank)) (u : State), (b.foldl (fun s e => if e.2.pwr = .dark then s.bankZero n e.1 else s) u).life = u.life := by
    intro b
    induction b with
    | nil => exact fun _ => rfl
    | cons e b ih =>
      intro u
      rw [List.foldl_cons, ih]
      split <;> rfl
  have hm : ((s.marchAbandon n).unissued n).life = s.life := marchAbandon_life s n
  unfold State.coreClear
  simp only []
  generalize (s.marchAbandon n).unissued n = u at hm
  exact (hz (u.core n).bank u).trans hm

theorem coreClear_spares (s : State) (n : Nat) (keep : Bool) : s.Spares (s.coreClear n keep) :=
  .of_retires (coreClear_life s n keep) (coreClear_retires s n keep)

theorem poolAbandon_spares (s : State) {c : Nat} (h : c < 24) : s.Spares (s.poolAbandon c) := by
  unfold State.poolAbandon
  exact .ite (.refl s) (.odSetN _ (by decide) (by omega))

theorem dropReqs_spares (s : State) (q : Req → Bool) : s.Spares (s.dropReqs q) := by
  unfold State.dropReqs
  simp only []
  refine (releaseReqs_spares s q).trans (.foldl (fun s r _ => ?_) _)
  split
  · exact .of_same rfl rfl
  · exact .of_same rfl rfl
  · exact .refl s

theorem fence_spares (s : State) (c : Bool) (n : Nat) : s.Spares (s.fence c n) :=
  .ite (.refl s) (((withFaults_spares s _).trans (.odInc (by decide) (by decide))).trans (.odApply (by decide) (by decide)))

theorem tagAdvance_spares (s : State) {k : Nat} (h : k < 24) : s.Spares (s.tagAdvance k) := by
  refine .of_retires ?_ (tagAdvance_retires s h)
  have hd := (dropReqs_spares s (fun r => s.domainOf r == k && r.pkt.gen == s.tag k)).1
  have hf := (fence_spares s true k).1
  have hs : ∀ u : State, u.showTags.life = u.life := fun u => by
    unfold State.showTags
    generalize List.range 16 = l
    induction l generalizing u with
    | nil => rfl
    | cons p l ih => exact ih _
  have ht : ∀ (u : State) (k v : Nat), (u.setTag k v).life = u.life := fun u k v => by
    unfold State.setTag
    split <;> rfl
  unfold State.tagAdvance
  split
  · simp only []
    generalize s.dropReqs (fun r => s.domainOf r == k && r.pkt.gen == s.tag k) = t at hd
    rw [hs, ht]
    exact hd
  · simp only []
    generalize s.fence true k = t at hf
    split
    · exact hf
    · exact hf

theorem beginCompute_spares (s : State) : s.Spares s.beginCompute := by
  unfold State.beginCompute
  simp only []
  refine State.Spares.trans ?_ (.foldl (fun s c hc => tagAdvance_spares s (List.mem_range.mp hc)) _)
  refine State.Spares.trans ?_ (withFaults_spares _ _)
  refine State.Spares.trans (u := State.xingClear _ _) ?_ (.of_same rfl rfl)
  refine State.Spares.trans ?_ (.foldl (fun s c hc => poolAbandon_spares s (List.mem_range.mp hc)) _)
  refine State.Spares.trans ?_ (.foldl (fun s e _ => coreClear_spares s e.1 false) _)
  refine State.Spares.trans ?_ (.foldl (fun s r _ => flightForce_spares s r _) _)
  refine State.Spares.trans ?_ (tableEnds_spares _ _)
  refine State.Spares.trans ?_ (stopQueues_spares _ _)
  refine State.Spares.trans ?_ (abandon_spares _ _)
  refine State.Spares.trans ?_ (collsReset_spares _)
  refine State.Spares.trans ?_ (withMemory_spares _ _)
  exact .foldl (fun s p hp => castAbort_spares s (List.mem_range.mp hp) (by decide)) s

/-! ### The escalation to Red -/

theorem endResets_spares (s : State) (q : ResetRun → Bool) : s.Spares (s.endResets q) := by
  unfold State.endResets
  simp only []
  refine State.Spares.trans ?_ (withFaults_spares _ _)
  exact .foldl (fun s r _ => .ite (.odSetN _ (by decide) (by decide)) (.ite (.odSetN _ (by decide) (by decide)) (.refl s))) s

theorem addReset_spares (s : State) (scope target : Nat) (fault replay held : Bool) : s.Spares (s.addReset scope target fault replay held) := by
  unfold State.addReset
  simp only []
  have h : ∀ n : ResetRun, s.Spares { s.takeOver n with faults := { (s.takeOver n).faults with resets := (s.takeOver n).faults.resets ++ [n] } } :=
    fun n => ((endResets_spares s _).trans (withFaults_spares _ _)).trans (withFaults_spares _ _)
  exact .ite ((h _).trans (lilac_spares _ _ _ _ _ _ _)) (h _)

theorem leaveService_spares (s : State) : s.Spares s.leaveService := by
  unfold State.leaveService
  simp only []
  refine (stopQueues_spares s _).trans (.foldl (fun s p hp => .ite (.odSetN _ (by decide) ?_) (.refl s)) _)
  have := List.mem_range.mp hp
  omega

theorem faultRecord_spares (s : State) {code : Nat} (hc : code < 256) (action kind target : Nat) (part : Option Nat) (esc : Bool) (detail : Nat) :
    s.Spares (s.faultRecord code action kind target part esc detail) := by
  have hw : ∀ v, s.Spares (s.odSet 0x7010 (s.odNum 0x7000 0 % 65536 % 64 + 1) v) := fun v =>
    ⟨rfl, State.odGet_odSet_other _ _ (odKey_ne (by omega) (by decide) (by decide))⟩
  unfold State.faultRecord State.faultRecordAs
  simp only []
  exact ((((hw _).trans (.odInc (by decide) (by decide))).trans (.odInc (by decide) hc)).trans
    (.of_reports (raise_reports _ _ _ _ _))).trans (lilac_spares _ _ _ _ _ _ _)

theorem reports_life {s t : State} (h : s.Reports t) : t.life = s.life := by rw [h.1]

/-- The module enters a service state. -/
theorem enter_svc (s : State) (v : Svc) : (s.enter v false).life.svc = v := by
  unfold State.enter
  split
  next h => exact h
  next =>
    simp only [Bool.false_eq_true, if_false]
    rw [reports_life (raise_reports _ _ _ _ _), reports_life (State.Reports.foldl (fun s k => fnEvent_reports s k 3) _ _)]
    rfl

/-- The module turns Red from Green, and shows why. -/
theorem redFault_spec {s : State} {code : Nat} (hs : s.life.svc = .green) (hc : code < 256) (kind num : Nat) (part : Option Nat) (esc : Bool)
    (detail : Nat) : (s.redFault code kind num part esc detail).life.svc = .red ∧
      (s.redFault code kind num part esc detail).odNum 0x7042 0 = code := by
  have he : ((s.odSetN 0x7042 0 code).enter .red false).life.svc = .red ∧ ((s.odSetN 0x7042 0 code).enter .red false).odNum 0x7042 0 = code := by
    have hg : (s.odSetN 0x7042 0 code).life.svc = .green := hs
    have h0 : (s.odSetN 0x7042 0 code).odNum 0x7042 0 = code := State.odNum_odSetN_same _ _ _ _
    generalize s.odSetN 0x7042 0 code = t at hg h0
    refine ⟨enter_svc t .red, ?_⟩
    rw [(enter_posts .red false (by rw [hg]; decide)).odNum (by decide) (by unfold Posted Noisy; decide)]
    exact h0
  unfold State.redFault State.enterRed
  rw [if_neg (by rw [hs]; decide)]
  simp only []
  generalize (s.odSetN 0x7042 0 code).enter .red false = t at he
  have h := ((((leaveService_spares t).trans (endResets_spares _ (fun r => r.scope == 4 || r.scope == 8 || r.scope == 3))).trans
    (addReset_spares _ 3 0 false false true)).trans (beginCompute_spares _)).trans (faultRecord_spares _ hc 6 kind num part esc detail)
  refine ⟨by rw [h.1]; exact he.1, ?_⟩
  unfold State.odNum
  rw [h.2]
  exact he.2

/-! ### The record of a fault -/

theorem faultRecord_spec (s : State) {code : Nat} (hc : code < 256) (action kind target : Nat) (part : Option Nat) (esc : Bool) (detail : Nat) :
    let t := s.faultRecord code action kind target part esc detail
    t.faults = s.faults ∧ t.cores = s.cores ∧ t.queues = s.queues ∧ t.disp = s.disp ∧ t.mem = s.mem ∧ t.life = s.life ∧
    t.odNum 0x7011 code = (s.odNum 0x7011 code + 1) % 2 ^ 64 ∧
    ∀ i j, j < 256 → ¬ Noisy i → i ∉ [0x7000, 0x7010, 0x7011] → t.odGet i j = s.odGet i j ∧ t.odPending i j = s.odPending i j := by
  unfold State.faultRecord State.faultRecordAs
  simp only []
  generalize OdVal.blob _ = v
  generalize he : s.odNum 0x7000 0 % 65536 % 64 + 1 = e
  have hlt : e < 256 := by omega
  have h1 : (s.odSet 0x7010 e v).odNum 0x7011 code = s.odNum 0x7011 code := by
    unfold State.odNum
    rw [State.odGet_odSet_other _ _ (odKey_ne hlt hc (by decide))]
  have h2 : ((s.odSet 0x7010 e v).odInc 0x7000 0).odNum 0x7011 code = (s.odSet 0x7010 e v).odNum 0x7011 code :=
    congrArg OdVal.toNat (odGet_odInc_other _ (odKey_ne (by decide) hc (by decide)))
  have h3 := odNum_odInc_same ((s.odSet 0x7010 e v).odInc 0x7000 0) (i := 0x7011) code (by decide)
  have hq : ∀ i j, j < 256 → i ∉ [0x7000, 0x7010, 0x7011] →
      (((s.odSet 0x7010 e v).odInc 0x7000 0).odInc 0x7011 code).odGet i j = s.odGet i j ∧
      (((s.odSet 0x7010 e v).odInc 0x7000 0).odInc 0x7011 code).odPending i j = s.odPending i j := by
    intro i j hj hi
    simp only [List.mem_cons, List.not_mem_nil, or_false, not_or] at hi
    refine ⟨?_, rfl⟩
    rw [odGet_odInc_other _ (odKey_ne hc hj hi.2.2), odGet_odInc_other _ (odKey_ne (by decide) hj hi.1),
      State.odGet_odSet_other _ _ (odKey_ne hlt hj hi.2.1)]
  have hf : (((s.odSet 0x7010 e v).odInc 0x7000 0).odInc 0x7011 code).calm = s.calm :=
    (State.odInc_calm _ _ _).trans ((State.odInc_calm _ _ _).trans (State.odSet_calm _ _ _ _))
  generalize ((s.odSet 0x7010 e v).odInc 0x7000 0).odInc 0x7011 code = u at h3 hq hf
  have hr : u.Reports ((u.raise 0x0002 0x7010 e (s.odNum 0x7000 0 % 65536 * 256 + code)).lilac 6 code target 0 detail part) :=
    (raise_reports _ _ _ _ _).trans (lilac_reports _ _ _ _ _ _ _)
  generalize (u.raise 0x0002 0x7010 e (s.odNum 0x7000 0 % 65536 * 256 + code)).lilac 6 code target 0 detail part = t at hr
  refine ⟨?_, ?_, ?_, ?_, ?_, ?_, ?_, fun i j hj hn hi => ?_⟩
  · rw [hr.1]; exact calm_faults hf
  · rw [hr.1]; exact calm_cores hf
  · rw [hr.1]; exact calm_queues hf
  · rw [hr.1]; exact calm_disp hf
  · rw [hr.1]; exact calm_mem hf
  · rw [hr.1]; exact calm_life hf
  · rw [hr.odNum hc (by unfold Noisy; omega), h3, h2, h1]
  · exact ⟨(hr.2 i j hj hn).1.trans (hq i j hj hi).1, (hr.2 i j hj hn).2.trans (hq i j hj hi).2⟩

/-! ### The reset that a fault makes -/

/-- The fault's reset, before it begins: counted, and under way. -/
def State.faulting (s : State) (scope target : Nat) : State :=
  ({ s.odInc 0x7003 scope with faults := { s.faults with faultTimes := s.faults.faultTimes ++ [s.now] } }).addReset scope target true false false

theorem calm_clear {s : State} {scope target : Nat} (h : s.Calm scope target) :
    ¬ ((decide (s.life.svc = .black) || s.faults.resets.any (s.insideLarger scope target)) = true) := by
  obtain ⟨hb, hr, -, -, -⟩ := h
  simp only [Bool.or_eq_true, decide_eq_true_eq, List.any_eq_true, not_or, not_exists, not_and]
  refine ⟨hb, fun r hm => ?_⟩
  unfold State.insideLarger
  simp [hr r hm]

theorem faultReset_calm {s : State} {scope target : Nat} (h : s.Calm scope target) (hs : scope ≠ 4) (code action kind num : Nat)
    (part : Option Nat) (detail : Nat) : s.faultReset code action scope target kind num part detail =
      ((s.faulting scope target).beginScope scope target).faultRecord code action kind num part false detail := by
  have hc := calm_clear h
  obtain ⟨-, -, h1, h2, he⟩ := h
  unfold State.faultReset
  rw [if_neg hc, odApply_none h1, odApply_none h2]
  simp only [he, Bool.false_eq_true, if_false, if_neg hs]
  rfl

theorem resetStatus_retires (s : State) (scope target st : Nat) : s.Retires (s.resetStatus scope target st) :=
  .odSetN (.inr (by decide)) (by decide)

theorem resetStatus_cores (s : State) (scope target st : Nat) : (s.resetStatus scope target st).cores = s.cores := odSetN_cores _ _ _ _

/-- The status of a reset that a larger one takes over. -/
def State.statusTaken (s : State) (r : ResetRun) : State :=
  if s.resetShown r.scope r.target then s.resetStatus r.scope r.target 4
  else if r.scope = 4 && s.resetShown 8 0 then s.resetStatus 8 0 4 else s

theorem statusTaken_spec (s : State) (r : ResetRun) : s.Retires (s.statusTaken r) ∧ (s.statusTaken r).cores = s.cores := by
  unfold State.statusTaken
  split
  · exact ⟨resetStatus_retires _ _ _ _, resetStatus_cores _ _ _ _⟩
  · split
    · exact ⟨resetStatus_retires _ _ _ _, resetStatus_cores _ _ _ _⟩
    · exact ⟨.refl s, rfl⟩

theorem statusesTaken_cores (s : State) (l : List ResetRun) : (l.foldl State.statusTaken s).cores = s.cores := by
  induction l generalizing s with
  | nil => rfl
  | cons r l ih => exact (ih _).trans (statusTaken_spec s r).2

theorem withFaults_same (s : State) (f : Faults) : ({ s with faults := f } : State).cores = s.cores ∧
    ∀ i j, ({ s with faults := f } : State).odGet i j = s.odGet i j := ⟨rfl, fun _ _ => rfl⟩

theorem endResets_spec (s : State) (q : ResetRun → Bool) : (s.endResets q).cores = s.cores ∧
    (s.endResets q).faults.replays = s.faults.replays ∧ ∀ i j, j < 256 → ¬ Cut i → (s.endResets q).odGet i j = s.odGet i j := by
  have hr : s.Retires ((s.faults.resets.filter q).foldl State.statusTaken s) := .foldl (fun s r _ => (statusTaken_spec s r).1) s
  have hc := statusesTaken_cores s (s.faults.resets.filter q)
  have he : ∃ f : Faults, s.endResets q = { (s.faults.resets.filter q).foldl State.statusTaken s with faults := f } ∧
      f.replays = ((s.faults.resets.filter q).foldl State.statusTaken s).faults.replays := ⟨_, rfl, rfl⟩
  generalize (s.faults.resets.filter q).foldl State.statusTaken s = t at hr hc he
  obtain ⟨f, he, hf⟩ := he
  rw [he]
  exact ⟨hc, hf.trans hr.replays, hr.quiet⟩

theorem takeOver_spec (s : State) (n : ResetRun) : (s.takeOver n).cores = s.cores ∧
    (n.scope = 1 → (s.takeOver n).faults.replays = s.faults.replays) ∧
    ∀ i j, j < 256 → ¬ Cut i → (s.takeOver n).odGet i j = s.odGet i j := by
  obtain ⟨h1, h2, h3⟩ := endResets_spec s (fun r => s.inside r.scope r.target n)
  have he : ∃ f : Faults, s.takeOver n = { s.endResets (fun r => s.inside r.scope r.target n) with faults := f } ∧
      (n.scope = 1 → f.replays = (s.endResets (fun r => s.inside r.scope r.target n)).faults.replays) :=
    ⟨_, rfl, fun hn => if_pos (by rw [hn]; rfl)⟩
  generalize s.endResets (fun r => s.inside r.scope r.target n) = t at h1 h2 h3 he
  obtain ⟨f, he, hf⟩ := he
  rw [he]
  exact ⟨h1, fun hn => (hf hn).trans h2, h3⟩

/-- A reset under way is the last of the resets. -/
theorem addReset_spec (s : State) {scope : Nat} (hs : scope ≤ 4) (target : Nat) (fault replay held : Bool) :
    let t := s.addReset scope target fault replay held
    (∃ r ∈ t.faults.resets, r.scope = scope ∧ r.target = target ∧ r.fault = fault ∧ r.held = held) ∧ t.cores = s.cores ∧
    (scope = 1 → t.faults.replays = s.faults.replays) ∧ ∀ i j, j < 256 → ¬ Cut i → t.odGet i j = s.odGet i j := by
  have he : ∃ n : ResetRun, n.scope = scope ∧ n.target = target ∧ n.fault = fault ∧ n.held = held ∧ s.addReset scope target fault replay held =
      ({ s.takeOver n with faults := { (s.takeOver n).faults with resets := (s.takeOver n).faults.resets ++ [n] } } : State).lilac 6 0x20 target 0
        scope none := ⟨_, rfl, rfl, rfl, rfl, if_pos hs⟩
  obtain ⟨n, hn1, hn2, hn3, hn4, he⟩ := he
  obtain ⟨h1, h2, h3⟩ := takeOver_spec s n
  rw [he]
  generalize s.takeOver n = u at h1 h2 h3
  have hr := lilac_reports ({ u with faults := { u.faults with resets := u.faults.resets ++ [n] } }) 6 0x20 target 0 scope none
  generalize State.lilac _ 6 0x20 target 0 scope none = t at hr
  have hq := (State.Retires.of_reports hr).quiet
  refine ⟨⟨n, ?_, hn1, hn2, hn3, hn4⟩, ?_, fun hsc => ?_, fun i j hj hi => (hq i j hj hi).trans (h3 i j hj hi)⟩
  · rw [hr.1]
    exact List.mem_append_right _ (List.mem_singleton.mpr rfl)
  · rw [hr.1]
    exact h1
  · rw [hr.1]
    exact h2 (hn1.trans hsc)

theorem faulting_spec (s : State) {scope : Nat} (hs : scope ≤ 4) (target : Nat) :
    let t := s.faulting scope target
    (∃ r ∈ t.faults.resets, r.scope = scope ∧ r.target = target ∧ r.fault = true ∧ r.held = false) ∧ t.cores = s.cores ∧
    (scope = 1 → t.faults.replays = s.faults.replays) ∧ t.odNum 0x7003 scope = (s.odNum 0x7003 scope + 1) % 2 ^ 64 ∧
    ∀ i j, j < 256 → ¬ Cut i → i ≠ 0x7003 → t.odGet i j = s.odGet i j := by
  have hi := odNum_odInc_same s (i := 0x7003) scope (by decide)
  have ho : ∀ i j, j < 256 → i ≠ 0x7003 → (s.odInc 0x7003 scope).odGet i j = s.odGet i j :=
    fun i j hj hne => odGet_odInc_other s (odKey_ne (by omega) hj hne)
  have hc : (s.odInc 0x7003 scope).cores = s.cores := rfl
  unfold State.faulting
  generalize s.odInc 0x7003 scope = u at hi ho hc
  obtain ⟨h1, h2, h3, h4⟩ := addReset_spec { u with faults := { s.faults with faultTimes := s.faults.faultTimes ++ [s.now] } } hs target true false false
  refine ⟨h1, h2.trans hc, h3, ?_, fun i j hj hi hne => (h4 i j hj hi).trans (ho i j hj hne)⟩
  refine Eq.trans (congrArg OdVal.toNat (h4 0x7003 scope (by omega) (by unfold Cut Routed Noisy; decide))) ?_
  exact hi

/-- A fault's reset of a core or a cluster is made, and its cores are as the reset leaves them. -/
theorem faultReset_made {s : State} {scope target : Nat} (h : s.Calm scope target) (hs : scope = 1 ∨ scope = 2 ∧ target < 24) {code : Nat}
    (hc : code < 256) (action kind num : Nat) (part : Option Nat) (detail : Nat) :
    let u := (s.faulting scope target).beginScope scope target
    let t := s.faultReset code action scope target kind num part detail
    s.ResetMade t code scope target ∧ t.faults = u.faults ∧ t.cores = u.cores := by
  intro u t
  have ht : t = u.faultRecord code action kind num part false detail := faultReset_calm h (by omega) code action kind num part detail
  obtain ⟨⟨r, hr, hr'⟩, -, -, f4, f5⟩ := faulting_spec s (scope := scope) (by omega) target
  have hu : (s.faulting scope target).Retires u := by
    rcases hs with rfl | ⟨rfl, hlt⟩
    · exact beginCore_retires _ _
    · exact beginCluster_retires _ hlt
  obtain ⟨g1, g2, -, -, -, -, g7, g8⟩ := faultRecord_spec u hc action kind num part false detail
  rw [← ht] at g1 g2 g7 g8
  refine ⟨⟨⟨r, by rw [g1, hu.resets]; exact hr, hr'⟩, ?_, ?_⟩, g1, g2⟩
  · refine Eq.trans (congrArg OdVal.toNat (g8 0x7003 scope (by omega) (by unfold Noisy; decide) (by decide)).1) ?_
    rw [← f4]
    exact hu.odNum (by omega) (by unfold Cut Routed Noisy; decide)
  · rw [g7, hu.odNum hc (by unfold Cut Routed Noisy; decide)]
    unfold State.odNum
    rw [f5 0x7011 code hc (by unfold Cut Routed Noisy; decide) (by decide)]

theorem core_of_cores {s t : State} (h : t.cores = s.cores) (n : Nat) : t.core n = s.core n := by unfold State.core; rw [h]

/-- A fault's reset of a cluster. -/
theorem clusterFault {s : State} {c : Nat} (h : s.Calm 2 c) (hc : c < 24) {code : Nat} (hcode : code < 256) (action kind num : Nat)
    (part : Option Nat) (detail : Nat) : s.ResetMade (s.faultReset code action 2 c kind num part detail) code 2 c ∧
      ∀ n, clusterOf n = c → (s.faultReset code action 2 c kind num part detail).CoreReset n := by
  obtain ⟨h1, -, h3⟩ := faultReset_made h (.inr ⟨rfl, hc⟩) hcode action kind num part detail
  exact ⟨h1, fun n hn => CoreReset.of_core (beginCluster_reset _ hn) (core_of_cores h3 n)⟩

/-! ### The whole module -/

/-- Cores that keep only the banks marked failed. -/
theorem tget_cons {α : Type} (d v : α) (k : Nat) (t : Tab α) (n : Nat) : tget d ((k, v) :: t) n = if n = k then v else tget d t n := rfl

theorem tget_filterMap_reset (t : Tab Core) (n : Nat) :
    let c := tget Core.blank (t.filterMap (fun e => if e.2.failedBanks.isEmpty then none else some (e.1, { Core.blank with bank := e.2.onlyFailed }))) n
    (∀ k, (c.slot k).st = .empty) ∧ (∀ k, c.counter k = 0) ∧ c.tRun = none ∧ c.vRun = none ∧ c.mops = [] := by
  have hb : ∀ b : Tab Bank, (∀ k, (({ Core.blank with bank := b } : Core).slot k).st = .empty) ∧
      (∀ k, ({ Core.blank with bank := b } : Core).counter k = 0) ∧ ({ Core.blank with bank := b } : Core).tRun = none ∧
      ({ Core.blank with bank := b } : Core).vRun = none ∧ ({ Core.blank with bank := b } : Core).mops = [] :=
    fun b => ⟨fun _ => rfl, fun _ => rfl, rfl, rfl, rfl⟩
  induction t with
  | nil => exact hb []
  | cons e t ih =>
    obtain ⟨k, c⟩ := e
    rw [List.filterMap_cons]
    by_cases hf : c.failedBanks.isEmpty = true
    · simp only [hf, if_true]
      exact ih
    · simp only [hf, Bool.false_eq_true, if_false]
      rw [tget_cons]
      split
      · exact hb _
      · exact ih

theorem resetBase_spec (old : State) (run : ResetRun) : (old.resetBase run).faults.resets = [run] ∧ ∀ n, (old.resetBase run).CoreReset n :=
  ⟨rfl, fun n => tget_filterMap_reset old.cores n⟩

theorem enterGrey_posts (s : State) : s.Posts (s.enter .grey false) := by
  by_cases h : s.life.svc = .grey
  · have : s.enter .grey false = s := if_pos h
    rw [this]
    exact .refl s
  · exact enter_posts .grey false h

theorem sealAmber_posts (s : State) : s.Posts s.sealAmber := amber_posts _ _ _
theorem bankAmber_posts (s : State) : s.Posts s.bankAmber := amber_posts _ _ _
theorem clusterAmber_posts (s : State) : s.Posts s.clusterAmber := amber_posts _ _ _
theorem bypassAmber_posts (s : State) : s.Posts s.bypassAmber := amber_posts _ _ _

/-- What a reset of the module sets of its conditions. -/
def State.resetAmber (v : State) : State :=
  ((((((((v.amber 9 false).sealAmber).bankAmber).clusterAmber).bypassAmber).amber 6 false).amber 11 false).alertSet 1 false)

/-- The last part of a reset of the module: its conditions are set again and it is Grey. -/
def State.resetGrey (v : State) : State := v.resetAmber.enter .grey false

theorem resetAmber_posts (v : State) : v.Posts v.resetAmber :=
  (((((((amber_posts v 9 false).trans (sealAmber_posts _)).trans (bankAmber_posts _)).trans (clusterAmber_posts _)).trans
    (bypassAmber_posts _)).trans (amber_posts _ 6 false)).trans (amber_posts _ 11 false)).trans (alertSet_posts _ 1 false)

theorem resetGrey_posts (v : State) : v.Posts v.resetGrey := (resetAmber_posts v).trans (enterGrey_posts v.resetAmber)

theorem resetGrey_svc (v : State) : v.resetGrey.life.svc = .grey := by
  unfold State.resetGrey
  exact enter_svc v.resetAmber .grey

theorem resetFrom_grey (u : State) (run : ResetRun) (h1 : u.faults.resets = [run]) (h2 : ∀ n, u.CoreReset n) :
    let t := (u.odSetN 0x3003 0 (u.odNum 0x3000 0 * 2 ^ 16 + 1)).resetGrey
    t.life.svc = .grey ∧ t.faults.resets = [run] ∧ ∀ n, t.CoreReset n := by
  simp only []
  have hc := odSetN_cores u 0x3003 0 (u.odNum 0x3000 0 * 2 ^ 16 + 1)
  have hf := calm_faults (State.odSetN_calm u 0x3003 0 (u.odNum 0x3000 0 * 2 ^ 16 + 1))
  generalize u.odSetN 0x3003 0 (u.odNum 0x3000 0 * 2 ^ 16 + 1) = v at hc hf
  have h := resetGrey_posts v
  have hg := resetGrey_svc v
  generalize v.resetGrey = w at h hg
  have kc := congrArg State.cores h.1
  have kf := congrArg State.faults h.1
  refine ⟨hg, ?_, fun n => CoreReset.of_core (h2 n) (core_of_cores (kc.trans hc) n)⟩
  rw [kf, hf, h1]

theorem moduleReset_eq (s : State) (fault held : Bool) : ∃ (u : State) (run : ResetRun), run.scope = 4 ∧ run.fault = fault ∧
    u.faults.resets = [run] ∧ (∀ n, u.CoreReset n) ∧
    s.moduleReset fault held = (u.odSetN 0x3003 0 (u.odNum 0x3000 0 * 2 ^ 16 + 1)).resetGrey := by
  refine ⟨(s.resetOpens ⟨4, 0, s.now, fault, false, held, [], s.armedNow⟩).resetBase ⟨4, 0, s.now, fault, false, held, [], s.armedNow⟩,
    ⟨4, 0, s.now, fault, false, held, [], s.armedNow⟩, rfl, rfl, (resetBase_spec _ _).1, (resetBase_spec _ _).2, ?_⟩
  unfold State.moduleReset State.resetGrey State.resetAmber
  rfl

theorem moduleReset_spec (s : State) (fault held : Bool) : (s.moduleReset fault held).life.svc = .grey ∧
    (s.moduleReset fault held).faults.resets.map (fun r => (r.scope, r.fault)) = [(4, fault)] ∧ ∀ n, (s.moduleReset fault held).CoreReset n := by
  obtain ⟨u, run, hs, hf, h1, h2, he⟩ := moduleReset_eq s fault held
  obtain ⟨g, r, c⟩ := resetFrom_grey u run h1 h2
  rw [he]
  refine ⟨g, ?_, c⟩
  rw [r, ← hs, ← hf]
  rfl

theorem moduleFault {s : State} (h : s.Calm 4 0) (code action kind num : Nat) (part : Option Nat) (detail : Nat) :
    let t := s.faultReset code action 4 0 kind num part detail
    t.life.svc = .grey ∧ t.faults.resets.map (fun r => (r.scope, r.fault)) = [(4, true)] ∧ ∀ n, t.CoreReset n := by
  have hc := calm_clear h
  obtain ⟨-, -, h1, h2, he⟩ := h
  have ht : ∃ u : State, s.faultReset code action 4 0 kind num part detail = u.moduleReset true false := by
    unfold State.faultReset
    rw [if_neg hc, odApply_none h1, odApply_none h2]
    simp only [he, Bool.false_eq_true, if_false, if_true]
    exact ⟨_, rfl⟩
  obtain ⟨u, hu⟩ := ht
  rw [hu]
  exact moduleReset_spec u true false

/-! ### The watchdog and the stall timer -/

/-- A watchdog's fault, and the search for the guilty context that it starts. -/
def State.watched (s : State) (n : Nat) : State :=
  s.faultReset 0x01 (if s.odBool 0x7023 0 then 9 else 2) 1 n 1 n (((s.suspects n).head?).map (fun x => x.launch.part))
    (s.workMask n + (s.suspects n).foldl (fun a x => a + 2 ^ x.slot) 0)

theorem watchdog_exec {s : State} (n : Fin 288) (hw : s.engineWork n = true) (hr : ∀ r ∈ s.faults.replays, r.core ≠ n)
    (h1 : s.odPending 0x7020 0 = none) (h2 : s.odPending 0x7023 0 = none) : exec (.progressWatchdogFire n) s =
      .next (if s.odBool 0x7023 0 && (s.watched n).faults.resets.any (fun r => r.scope == 1 && r.target == n) && !(s.suspects n).isEmpty
        then { s.watched n with faults := { (s.watched n).faults with
          replays := (s.watched n).faults.replays ++ [⟨n, s.suspects n, none, [], (s.watched n).now⟩] } }
        else s.watched n) := by
  have hn : s.replayOf n = none := by
    unfold State.replayOf
    rw [List.find?_eq_none]
    intro r hm
    simpa using hr r hm
  show execProgressWatchdogFire n s = _
  unfold execProgressWatchdogFire
  simp only [hw, hn]
  rw [odApply_none h1, odApply_none h2]
  simp only [Bool.not_true, Bool.false_eq_true, if_false, Option.any_none]
  rw [apply_ite Host.Outcome.next]
  rfl

theorem stall_exec {s : State} {q : Fin 1024} {i : Nat} {rest : List Nat}
    (h : (s.disp.flights.filter (fun f => f.ref.queue == q.val && !f.silent)).map (·.slot) ++ (s.queue q).fetched.map (·.slot) = i :: rest) :
    exec (.stallTimerExpiry q) s = if (s.queue q).stall = 0 then .next s
      else .next ((s.faultRecord 0x02 0 5 q (some (qPart q)) false i).stallStart q) := by
  show execStallTimerExpiry q s = _
  unfold execStallTimerExpiry
  simp only [h]

theorem stallStart_spec (s : State) (q : Nat) : (s.stallStart q).queue q = { s.queue q with stall := s.odLive 0x7021 0 } ∧
    (∀ j, j ≠ q → (s.stallStart q).queue j = s.queue j) ∧ (s.stallStart q).disp = s.disp ∧ (s.stallStart q).cores = s.cores ∧
    (s.stallStart q).mem = s.mem ∧ (s.stallStart q).faults = s.faults ∧ (s.stallStart q).life = s.life ∧
    ∀ i j, j < 256 → i ≠ 0x7021 → (s.stallStart q).odGet i j = s.odGet i j := by
  have hc := State.odApply_calm s 0x7021 0
  have ho : ∀ i j, j < 256 → i ≠ 0x7021 → (s.odApply 0x7021 0).odGet i j = s.odGet i j :=
    fun i j hj hi => odGet_odApply_other s (odKey_ne (by decide) hj hi)
  unfold State.stallStart State.odLive
  simp only []
  generalize s.odApply 0x7021 0 = t at hc ho
  have hq : ∀ j, t.queue j = s.queue j := fun j => by unfold State.queue; rw [calm_queues hc]
  have hu : ∀ j, (t.updQueue q (fun x => { x with stall := t.odNum 0x7021 0 })).queue j = if j = q then { t.queue q with stall := t.odNum 0x7021 0 }
      else t.queue j := fun j => tget_tset _ _ _ _ _
  refine ⟨?_, fun j hj => ?_, (calm_disp hc :), (calm_cores hc :), (calm_mem hc :), (calm_faults hc :), (calm_life hc :), ho⟩
  · rw [hu, if_pos rfl, hq]
  · rw [hu, if_neg hj, hq]

end Sys2Proof.Machine

namespace Sys2Proof.Proofs
open Sys2Proof.Machine

/-- Settles O40: a fault's reset is made at its target and leaves its cores reset, an escalation turns the module Red, and a stall is
recorded. -/
theorem deviceFaults : Obligations.DeviceFaults := by
  unfold Obligations.DeviceFaults
  intro s
  refine ⟨fun n hw hr h1 h2 => ⟨fun hc => ?_, fun hg hn h3 h4 he => ?_⟩, fun i c hi hc => ?_, fun i hi hc => ?_, fun c hc => ?_,
    fun q i rest hl => ⟨fun hs => ?_, fun hs => ?_⟩⟩
  · have hx := watchdog_exec n hw hr h1 h2
    obtain ⟨m1, m2, m3⟩ := faultReset_made hc (.inl rfl) (code := 0x01) (by decide) (if s.odBool 0x7023 0 then 9 else 2) 1 n
      (((s.suspects n).head?).map (fun x => x.launch.part)) (s.workMask n + (s.suspects n).foldl (fun a x => a + 2 ^ x.slot) 0)
    obtain ⟨-, f2, f3, -, -⟩ := faulting_spec s (scope := 1) (by decide) n
    obtain ⟨b1, b2, b3⟩ := beginCore_spec (s.faulting 1 n) n
    have hret := beginCore_retires (s.faulting 1 n) n
    change s.ResetMade (s.watched n) 1 1 n at m1
    change (s.watched n).faults = ((s.faulting 1 n).beginCore n).faults at m2
    change (s.watched n).cores = ((s.faulting 1 n).beginCore n).cores at m3
    have hmade : (s.watched n).faults.resets.any (fun r => r.scope == 1 && r.target == n) = true := by
      obtain ⟨⟨r, hr, hs, ht, -, -⟩, -⟩ := m1
      exact List.any_eq_true.mpr ⟨r, hr, by simp [hs, ht]⟩
    have hrep : (s.watched n).faults.replays = s.faults.replays := by rw [m2, hret.replays, f3 rfl]
    have hcore : (s.watched n).CoreReset n := CoreReset.of_core b2 (core_of_cores m3 n)
    have hothers : ∀ m, m ≠ n.val → (s.watched n).core m = s.core m := fun m hm =>
      (core_of_cores m3 m).trans ((b1 m hm).trans (core_of_cores f2 m))
    have hfence : (⟨false, n⟩ : Fence) ∈ (s.watched n).faults.fences := by rw [m2]; exact b3
    rw [hmade] at hx
    generalize s.watched n = t at hx m1 hrep hcore hothers hfence
    by_cases hgo : s.odNum 0x7023 0 ≠ 0 ∧ s.suspects n ≠ []
    · have hb : (s.odBool 0x7023 0 && true && !(s.suspects n).isEmpty) = true := by
        simpa [State.odBool] using hgo
      rw [if_pos hb] at hx
      refine ⟨_, hx, m1, hcore, hfence, hothers, ?_⟩
      rw [if_pos hgo]
      exact congrArg (· ++ _) hrep
    · have hb : ¬ (s.odBool 0x7023 0 && true && !(s.suspects n).isEmpty) = true := by
        simpa [State.odBool] using hgo
      rw [if_neg hb] at hx
      refine ⟨_, hx, m1, hcore, hfence, hothers, ?_⟩
      rw [if_neg hgo, List.append_nil]
      exact hrep
  · have hx := watchdog_exec n hw hr h1 h2
    have ht : s.watched n = s.redFault 0x01 1 n (((s.suspects n).head?).map (fun x => x.launch.part)) true
        (s.workMask n + (s.suspects n).foldl (fun a x => a + 2 ^ x.slot) 0) := by
      unfold State.watched State.faultReset
      rw [hn, odApply_none h3, odApply_none h4]
      simp only [hg, he]
      rfl
    obtain ⟨r1, r2⟩ := redFault_spec (code := 0x01) hg (by decide) 1 n (((s.suspects n).head?).map (fun x => x.launch.part)) true
        (s.workMask n + (s.suspects n).foldl (fun a x => a + 2 ^ x.slot) 0)
    rw [← ht] at r1 r2
    generalize s.watched n = t at hx r1 r2
    refine ⟨_, hx, ?_⟩
    split
    · exact ⟨r1, r2⟩
    · exact ⟨r1, r2⟩
  · rcases hi with ⟨hlt, hci⟩ | hci
    · have hx : exec (.pllLossOfLock i) s = .next (s.faultReset 0x04 3 2 (i / 13) 8 i none 0) := by
        show execPllLossOfLock i s = _
        unfold execPllLossOfLock
        exact if_pos hlt
      rw [← hci] at hx
      exact ⟨_, hx, clusterFault hc c.isLt (by decide) 3 8 i none 0⟩
    · have hx : exec (.pllLossOfLock i) s = .next (s.faultReset 0x04 3 2 (i - 312) 8 i none 0) := by
        show execPllLossOfLock i s = _
        unfold execPllLossOfLock
        have := c.isLt
        exact (if_neg (by omega)).trans (if_pos (by omega))
      rw [show i.val - 312 = c.val by omega] at hx
      exact ⟨_, hx, clusterFault hc c.isLt (by decide) 3 8 i none 0⟩
  · have hx : exec (.pllLossOfLock i) s = .next (s.faultReset 0x04 5 4 0 8 i none 0) := by
      show execPllLossOfLock i s = _
      unfold execPllLossOfLock
      exact (if_neg (by omega)).trans (if_neg (by omega))
    exact ⟨_, hx, moduleFault hc 0x04 5 8 i none 0⟩
  · exact ⟨_, rfl, clusterFault hc c.isLt (by decide) 3 2 c none 0⟩
  · exact ⟨s, (stall_exec hl).trans (if_pos hs), rfl⟩
  · have hx := (stall_exec hl).trans (if_neg hs)
    obtain ⟨g1, g2, g3, g4, g5, g6, g7, g8⟩ := faultRecord_spec s (code := 0x02) (by decide) 0 5 q (some (qPart q)) false i
    generalize s.faultRecord 0x02 0 5 q (some (qPart q)) false i = u at hx g1 g2 g3 g4 g5 g6 g7 g8
    obtain ⟨k1, k2, k3, k4, k5, k6, k7, k8⟩ := stallStart_spec u q
    have hq : ∀ j, u.queue j = s.queue j := fun j => by unfold State.queue; rw [g3]
    have hlive : u.odLive 0x7021 0 = s.odLive 0x7021 0 := by
      obtain ⟨a, b⟩ := g8 0x7021 0 (by decide) (by unfold Noisy; decide) (by decide)
      exact odLive_congr b a
    refine ⟨_, hx, ?_, ?_, fun j hj => (k2 j hj).trans (hq j), k3.trans g4, k4.trans g2, k5.trans g5, k6.trans g1, k7.trans g6⟩
    · exact (congrArg OdVal.toNat (k8 0x7011 2 (by decide) (by decide))).trans g7
    · rw [k1, hq, hlive]

end Sys2Proof.Proofs

/-! SUPPORT. What the protocol of epochs leaves of the receiver's windows, of the votes and of the decisions held, and its packets as
they arrive (R326 to R335). -/
namespace Sys2Proof.Machine

/-! ### Only members and messages change -/

/-- The receiver's windows and the epoch agents are as before. -/
def State.Told (s t : State) : Prop := t.wins = s.wins ∧ t.agents = s.agents

namespace State.Told

theorem refl (s : State) : s.Told s := ⟨rfl, rfl⟩
theorem trans {s t u : State} (h : s.Told t) (g : t.Told u) : s.Told u := ⟨g.1.trans h.1, g.2.trans h.2⟩
theorem of_same {s t : State} (hf : t.fabric = s.fabric) (ha : t.agents = s.agents) : s.Told t := ⟨congrArg Fabric.wins hf, ha⟩
theorem of_reports {s t : State} (h : s.Reports t) : s.Told t := ⟨by rw [h.1], by rw [h.1]⟩
theorem foldl {α : Type} {f : State → α → State} (h : ∀ (s : State) a, s.Told (f s a)) (l : List α) (s : State) : s.Told (l.foldl f s) := by
  induction l generalizing s with
  | nil => exact refl s
  | cons a l ih => exact (h s a).trans (ih _)
theorem ite {s t u : State} {c : Prop} [Decidable c] (h : s.Told t) (g : s.Told u) : s.Told (if c then t else u) := by
  split
  · exact h
  · exact g

end State.Told

theorem setEp_told (s : State) (p : Nat) (e : Ep) : s.Told (s.setEp p e) := .of_same rfl rfl
theorem odSetN_told (s : State) (i k n : Nat) : s.Told (s.odSetN i k n) := .of_same rfl rfl
theorem odInc_told (s : State) (i k : Nat) : s.Told (s.odInc i k) := .of_same rfl rfl
theorem odApply_told (s : State) (i k : Nat) : s.Told (s.odApply i k) := ⟨State.odApply_wins s i k, calm_agents (State.odApply_calm s i k)⟩

theorem lilac_told (s : State) (kind code src addr data : Nat) (part : Option Nat) : s.Told (s.lilac kind code src addr data part) :=
  .of_reports (lilac_reports _ _ _ _ _ _ _)

theorem epSend_told (s : State) (g ref kind term epoch value cause rterm count rank : Nat) :
    s.Told (s.epSend g ref kind term epoch value cause rterm count rank) :=
  ⟨State.epSend_wins _ _ _ _ _ _ _ _ _ _ _, epSend_agents _ _ _ _ _ _ _ _ _ _ _⟩

theorem epAttention_told (s : State) (p k : Nat) : s.Told (s.epAttention p k) := .of_reports (raise_reports _ _ _ _ _)

theorem showEp_told (s : State) (p : Nat) : s.Told (s.showEp p) :=
  ((odSetN_told s _ _ _).trans (odSetN_told _ _ _ _)).trans (odSetN_told _ _ _ _)

theorem epGo_told (s : State) (p : Nat) (st : MemSt) : s.Told (s.epGo p st) :=
  ((setEp_told s p { s.ep p with st := st }).trans (showEp_told _ p)).trans (lilac_told _ _ _ _ _ _ _)

theorem epCause_told (s : State) (p c : Nat) : s.Told (s.epCause p c) := by
  unfold State.epCause
  exact ((setEp_told s p { s.ep p with cause := c, counted := true }).trans (.ite (.refl _) (odInc_told _ _ _))).trans (showEp_told _ p)

theorem toStacks_told (s : State) (p : Nat) (commit : Bool) : s.Told (s.toStacks p commit) :=
  State.Told.trans (t := { s with memory := { s.memory with deciding := s.memory.deciding ++ [(p, commit)] } }) (.of_same rfl rfl)
    (.of_reports (pulse_reports _ _ (by decide)))

theorem startRestore_told (s : State) (p : Nat) : s.Told (s.startRestore p) :=
  (((setEp_told s p _).trans (epGo_told _ p .restoring)).trans (toStacks_told _ p false)).trans (odInc_told _ _ _)

theorem unitEnd_told (s : State) (r : DescRef) (u : Nat) (e : UEnd) : s.Told (s.unitEnd r u e) := by
  rw [unitEnd_disp]
  exact .of_same rfl rfl

theorem commitClose_told (s : State) (p : Nat) : s.Told (s.commitClose p) := by
  have h : s.Told (((((s.setEp p { s.ep p with anyDecided := true, lastDecided := (s.ep p).epoch, voteDesc := none }).epGo p .closed).toStacks p
      true)).odInc 0x5860 (p + 1)) :=
    (((setEp_told s p _).trans (epGo_told _ p .closed)).trans (toStacks_told _ p true)).trans (odInc_told _ _ _)
  unfold State.commitClose
  simp only []
  generalize State.odInc _ 0x5860 (p + 1) = t at h ⊢
  split
  next r _ => exact h.trans (State.Told.trans (t := t.updFlight r _) (.of_same rfl rfl) (unitEnd_told _ _ _ _))
  next => exact h

theorem contradict_told (s : State) (p : Nat) : s.Told (s.contradict p) := (odInc_told s _ _).trans (epAttention_told _ _ _)

theorem toChildren_told (s : State) (p kind value cause : Nat) : s.Told (s.toChildren p kind value cause) :=
  .foldl (fun s r => epSend_told s _ r kind 0 _ value cause 0 0 0) _ s

theorem memberDecide_told (s : State) (p value cause : Nat) (fwd : Bool) : s.Told (s.memberDecide p value cause fwd) := by
  have hf : ∀ u : State, u.Told (if fwd && !(u.ep p).forwarded then
      (u.setEp p { u.ep p with forwarded := true }).toChildren p 5 value cause else u) := fun u =>
    .ite ((setEp_told u p _).trans (toChildren_told _ _ _ _ _)) (.refl u)
  unfold State.memberDecide
  simp only []
  split
  · exact .ite (((epCause_told s p cause).trans (epGo_told _ p _)).trans (hf _)) (contradict_told s p)
  · exact .ite (hf s) (contradict_told s p)
  · exact .ite (((epCause_told s p cause).trans (hf _)).trans (startRestore_told _ p)) ((hf s).trans (commitClose_told _ p))
  · exact .ite (((epCause_told s p cause).trans (hf _)).trans (startRestore_told _ p)) ((hf s).trans (commitClose_told _ p))
  · exact .ite (hf s) (contradict_told s p)
  · exact .ite (hf s) (contradict_told s p)
  · exact .refl s

theorem clearClose_told (s : State) (p : Nat) (fwd : Bool) : s.Told (s.clearClose p fwd) := by
  unfold State.clearClose
  simp only []
  exact (State.Told.trans (.ite (toChildren_told s p 9 2 _) (.refl s)) (setEp_told _ p _)).trans (epGo_told _ p .closed)

theorem sendRecords_told (s : State) (g epoch : Nat) : s.Told (s.sendRecords g epoch) := by
  unfold State.sendRecords
  split
  · exact .refl s
  · exact .foldl (fun s k => .ite (.refl s) (epSend_told _ _ _ _ _ _ _ _ _ _ _)) _ s

theorem abortTold_told (s : State) (p g : Nat) (d : Dec) : s.Told (s.abortTold p g d) :=
  .ite (epCause_told _ _ _) (.ite (odInc_told _ _ _) (.refl s))

/-! ### The votes stay -/

/-- The receiver's windows, and the votes and restored counts of every agent, are as before. -/
structure State.Polls (s t : State) : Prop where
  wins : t.wins = s.wins
  votes : ∀ h, (t.agent h).votes = (s.agent h).votes
  restored : ∀ h, (t.agent h).restored = (s.agent h).restored

namespace State.Polls

theorem refl (s : State) : s.Polls s := ⟨rfl, fun _ => rfl, fun _ => rfl⟩
theorem trans {s t u : State} (h : s.Polls t) (g : t.Polls u) : s.Polls u :=
  ⟨g.wins.trans h.wins, fun k => (g.votes k).trans (h.votes k), fun k => (g.restored k).trans (h.restored k)⟩
theorem of_told {s t : State} (h : s.Told t) : s.Polls t :=
  ⟨h.1, fun k => by rw [agent_of_agents h.2], fun k => by rw [agent_of_agents h.2]⟩
theorem ite {s t u : State} {c : Prop} [Decidable c] (h : s.Polls t) (g : s.Polls u) : s.Polls (if c then t else u) := by
  split
  · exact h
  · exact g

end State.Polls

theorem setAgent_polls (s : State) (g : Nat) (a : Agent) (hv : a.votes = (s.agent g).votes) (hr : a.restored = (s.agent g).restored) :
    s.Polls (s.setAgent g a) := by
  refine ⟨rfl, fun h => ?_, fun h => ?_⟩
  all_goals
    rw [agent_setAgent]
    split
    next e => subst e; assumption
    next => rfl

theorem setMach_polls (s : State) (g : Nat) (m : Mach) : s.Polls (s.setMach g m) := setAgent_polls s g _ rfl rfl
theorem hold_polls (s : State) (g : Nat) (d : Dec) : s.Polls (s.hold g d) := setAgent_polls s g _ rfl rfl

theorem coGo_polls (s : State) (g epoch : Nat) (st : CoSt) : s.Polls (s.coGo g epoch st) :=
  (setMach_polls s g { s.mach g epoch with st := st }).trans (.of_told ((odSetN_told _ _ _ _).trans (lilac_told _ _ _ _ _ _ _)))

theorem coCollect_polls (s : State) (g epoch : Nat) : s.Polls (s.coCollect g epoch) :=
  .ite ((State.Polls.of_told (odApply_told s _ _)).trans (coGo_polls _ _ _ _)) (.refl s)

/-- What has been decided is held. -/
def State.deciding (s : State) (t : Tree) (g epoch : Nat) (d : Dec) : State :=
  (t.deciders d.term).foldl (fun s r => s.epSend g r 5 0 epoch d.value d.cause 0 0 0) ((s.coGo g epoch .decided).hold g d)

theorem deciding_told (s : State) (t : Tree) (g epoch : Nat) (d : Dec) :
    ((s.coGo g epoch .decided).hold g d).Told (s.deciding t g epoch d) :=
  .foldl (fun s r => epSend_told _ _ _ _ _ _ _ _ _ _ _) _ _

/-- Once its records suffice, a decision is held and sent, the member here takes it, and the machine rests or waits for restores. -/
theorem coDecided_eq {s : State} {g epoch : Nat} {t : Tree} (ht : s.treeFor g = some t) {d : Dec} (hd : (s.mach g epoch).dec = d) :
    ∃ u, (s.deciding t g epoch d).Told u ∧ s.coDecided g epoch =
      if d.value = 1 then u.coGo g epoch .idle else (u.odApply 0x5822 0).coGo g epoch .clearing := by
  refine ⟨if ((s.deciding t g epoch d).ep (s.agentPart g)).group = g && ((s.deciding t g epoch d).ep (s.agentPart g)).epoch = epoch
    then (s.deciding t g epoch d).memberDecide (s.agentPart g) d.value d.cause false else s.deciding t g epoch d,
    .ite (memberDecide_told _ _ _ _ _) (.refl _), ?_⟩
  subst hd
  unfold State.coDecided State.deciding
  rw [ht]

theorem coDecided_polls (s : State) (g epoch : Nat) : s.Polls (s.coDecided g epoch) := by
  cases ht : s.treeFor g with
  | none => unfold State.coDecided; rw [ht]; exact .refl s
  | some t =>
    obtain ⟨u, hu, he⟩ := coDecided_eq ht (d := (s.mach g epoch).dec) (g := g) rfl
    have h : s.Polls u := (((coGo_polls s g epoch .decided).trans (hold_polls _ g _)).trans (.of_told (deciding_told _ _ _ _ _))).trans (.of_told hu)
    rw [he]
    exact .ite (h.trans (coGo_polls _ _ _ _)) ((h.trans (.of_told (odApply_told _ _ _))).trans (coGo_polls _ _ _ _))

theorem coCheck_polls (s : State) (g epoch : Nat) : s.Polls (s.coCheck g epoch) := by
  unfold State.coCheck
  split
  · exact .refl s
  · exact .ite (coDecided_polls s g epoch) (.refl s)

theorem recording_polls (s : State) (g : Nat) (d : Dec) : s.Polls (s.recording g d) := by
  unfold State.recording
  simp only []
  refine State.Polls.trans (.of_told (odApply_told s 0x5821 0)) ?_
  generalize s.odApply 0x5821 0 = t
  refine State.Polls.trans (setMach_polls t g { t.mach g d.epoch with dec := d, acks := [] }) ?_
  generalize t.setMach g { t.mach g d.epoch with dec := d, acks := [] } = u
  refine State.Polls.trans (.ite (c := d.term = 0) (.refl u) (setAgent_polls u g { u.agent g with records := keepDec (u.agent g).records d } rfl rfl)) ?_
  generalize (if d.term = 0 then u else u.setAgent g { u.agent g with records := keepDec (u.agent g).records d }) = v
  exact coGo_polls v g d.epoch .recording

theorem coDecide_polls (s : State) (g : Nat) (d : Dec) : s.Polls (s.coDecide g d) := by
  rw [coDecide_eq]
  exact ((recording_polls s g d).trans (.of_told ((abortTold_told _ _ _ _).trans (sendRecords_told _ _ _)))).trans (coCheck_polls _ _ _)

theorem coAbort_polls (s : State) (g epoch cause : Nat) : s.Polls (s.coAbort g epoch cause) := by
  unfold State.coAbort
  exact State.Polls.trans (coCollect_polls s g epoch) (.ite (coDecide_polls _ _ _) (.refl _))

theorem voteUp_polls (s : State) (p : Nat) : s.Polls (s.voteUp p) := by
  unfold State.voteUp
  simp only []
  split
  · exact .refl s
  · split
    · exact .refl s
    · refine State.Polls.trans (.of_told (setEp_told s p _)) (.ite (.of_told (epSend_told _ _ _ _ _ _ _ _ _ _ _)) (.ite ?_ (.refl _)))
      exact .ite (coDecide_polls _ _ _) ((State.Polls.of_told (epAttention_told _ _ _)).trans (coDecide_polls _ _ _))

theorem coClear_polls (z : State) (g epoch : Nat) : z.Polls (z.coClear g epoch) := by
  unfold State.coClear
  simp only []
  split
  next => exact coGo_polls _ _ _ _
  next t _ =>
    refine State.Polls.trans (State.Polls.trans (.of_told (.foldl (fun s r => epSend_told s g r 9 0 epoch 2 (z.mach g epoch).dec.cause 0 0 0) (t.deciders (z.mach g epoch).dec.term) z)) (coGo_polls _ g epoch .idle)) ?_
    exact .ite (.ite (.of_told (clearClose_told _ _ _)) (.ite (.of_told (setEp_told _ _ _)) (.refl _))) (.refl _)

theorem restoredUp_polls (s : State) (p : Nat) : s.Polls (s.restoredUp p) := by
  unfold State.restoredUp
  simp only []
  split
  · exact .refl s
  · split
    · exact .refl s
    · exact State.Polls.trans (.of_told (setEp_told s p _)) (.ite (.of_told (epSend_told _ _ _ _ _ _ _ _ _ _ _)) (.ite (coClear_polls _ _ _) (.refl _)))

theorem takeCheck_polls (s : State) (g epoch : Nat) : s.Polls (s.takeCheck g epoch) := by
  unfold State.takeCheck
  split
  · exact .refl s
  · simp only []
    exact .ite (.ite (coDecide_polls _ _ _) (coDecide_polls _ _ _)) (.refl s)

/-! ### A decision is at its machine or held -/

/-- The agent of a group has decided: its machine has the decision, or it is held. -/
def State.Decides (t : State) (g : Nat) (d : Dec) : Prop := (t.mach g d.epoch).dec = d ∨ (t.agent g).heldDec d.epoch = some d

theorem keepDec_find (l : List Dec) (d : Dec) : (keepDec l d).find? (fun x => x.epoch == d.epoch) = some d := by
  have hn : ∀ k, ((l.filter (fun x => x.epoch != d.epoch)).drop k).find? (fun x => x.epoch == d.epoch) = none := fun k =>
    List.find?_eq_none.mpr fun x hx => by
      have := (List.mem_filter.mp (List.mem_of_mem_drop hx)).2
      simpa using this
  unfold keepDec
  simp only []
  rw [List.drop_append_of_le_length (by simp), List.find?_append, hn]
  simp

theorem hold_heldDec (s : State) (g : Nat) (d : Dec) : ((s.hold g d).agent g).heldDec d.epoch = some d := by
  unfold State.hold
  rw [agent_setAgent, if_pos rfl]
  exact keepDec_find _ d

theorem coGo_heldDec (s : State) (g epoch : Nat) (st : CoSt) (n : Nat) :
    ((s.coGo g epoch st).agent g).heldDec n = (s.agent g).heldDec n := by
  rw [agent_of_agents (coGo_agents s g epoch st), (setMach_agent s g _).1]
  rfl

theorem ite_decides {s t : State} {c : Prop} [Decidable c] {g : Nat} {d : Dec} (h : s.Decides g d) (k : t.Decides g d) :
    (if c then s else t).Decides g d := by
  split
  · exact h
  · exact k

theorem coCheck_decides {s : State} {g : Nat} {d : Dec} (h : (s.mach g d.epoch).dec = d) : (s.coCheck g d.epoch).Decides g d := by
  unfold State.coCheck
  split
  next => exact .inl h
  next t ht =>
    simp only []
    refine ite_decides ?_ (.inl h)
    · obtain ⟨u, hu, he⟩ := coDecided_eq ht h
      have hh : (u.agent g).heldDec d.epoch = some d := by
        rw [agent_of_agents hu.2, agent_of_agents (deciding_told _ _ _ _ _).2]
        exact hold_heldDec _ _ _
      rw [he]
      refine ite_decides (.inr ?_) (.inr ?_)
      · rw [coGo_heldDec]
        exact hh
      · rw [coGo_heldDec, agent_of_agents (odApply_told _ _ _).2]
        exact hh

theorem coDecide_decides (s : State) (g : Nat) (d : Dec) (h : (s.mach g d.epoch).st ≠ .idle) : (s.coDecide g d).Decides g d := by
  rw [coDecide_eq]
  refine coCheck_decides ?_
  rw [coDecide_mach s g d h]

/-! ### EPOCH packets that arrive -/

theorem ledgerSettings_frame (s : State) (p : Nat) : s.Told (s.ledgerSettings p) ∧ (s.ledgerSettings p).eps = s.eps := by
  have hc := State.odApplyAll_calm s [(0x5830, p + 1), (0x5840, p + 1), (0x5841, p + 1)]
  have hw := State.odApplyAll_wins s [(0x5830, p + 1), (0x5840, p + 1), (0x5841, p + 1)]
  unfold State.ledgerSettings
  split
  · simp only []
    generalize s.odApplyAll [(0x5830, p + 1), (0x5840, p + 1), (0x5841, p + 1)] = t at hc hw
    split
    · exact ⟨⟨hw, calm_agents hc⟩, calm_eps hc⟩
    · exact ⟨⟨hw, (calm_agents hc :)⟩, (calm_eps hc :)⟩
  · exact ⟨.refl s, rfl⟩

theorem odApplyAll_odGet {i j : Nat} (l : List (Nat × Nat)) (h : ∀ e ∈ l, odKey e.1 e.2 ≠ odKey i j) (s : State) :
    (s.odApplyAll l).odGet i j = s.odGet i j := by
  unfold State.odApplyAll
  induction l generalizing s with
  | nil => rfl
  | cons e l ih =>
    rw [List.foldl_cons, ih (fun x hx => h x (List.mem_cons_of_mem _ hx))]
    have he := h e List.mem_cons_self
    generalize e.1 = a at he ⊢
    generalize e.2 = b at he ⊢
    exact odGet_odApply_other s he.symm

/-- The windows whose writes wait are above every object of a lower index. -/
theorem odKey_lt {i j k m : Nat} (hj : j < 256) (h : i < k) : odKey k m ≠ odKey i j := by
  unfold odKey
  omega

theorem begunGone_odNum (s : State) (x : Pkt) {i j : Nat} (hi : i < 0x6100) (hj : j < 256) : (s.begunGone x).odNum i j = s.odNum i j := by
  have h : ∀ (u : State) (l : List Pkt), (u.odApplyAll (l.map (fun q => (0x6100 + q.dpart, q.win + 1)))).odNum i j = u.odNum i j := by
    intro u l
    refine congrArg OdVal.toNat (odApplyAll_odGet _ (fun e he => ?_) u)
    obtain ⟨q, -, rfl⟩ := List.mem_map.mp he
    exact odKey_lt hj (Nat.lt_of_lt_of_le hi (Nat.le_add_right _ _))
  unfold State.begunGone State.begunCut
  exact h _ _

/-- An EPOCH packet of a known tree that arrives is acted on, and acknowledged unless it is refused. -/
theorem epRow_arrives {s : State} {p : Pkt} {kind : Nat → Bool} (h : s.Arrives p (fun p => p.op == 6 && kind (epKind p)))
    (hk : s.epKnown p = true) : ∃ inbox keys free, ∀ f,
    (∀ t, f p (s.receives p inbox keys free) = some t → t.wins = (s.receives p inbox keys free).wins →
      ∃ v, epRow s kind f = .next v ∧ v.Answered p 3 0 [] ∧ v.agents = t.agents ∧ v.eps = t.eps) ∧
    (f p (s.receives p inbox keys free) = none → ∃ v, epRow s kind f = .next v ∧ v.agents = s.agents ∧ v.eps = s.eps ∧
      v.Answered p 7 1 [] ∧ v.odNum 0x5864 0 = (s.odNum 0x5864 0 + 1) % 2 ^ 64) := by
  obtain ⟨x, inbox, keys, free, hs⟩ := serve_arrives h
  obtain ⟨-, -, -, -, -, hw, -, ha⟩ := h
  have ha' : (s.receives p inbox keys free).admitted p = true := ha
  have hk' : (s.receives p inbox keys free).epKnown p = true := hk
  refine ⟨inbox, keys, free, fun f => ⟨fun t hf ht => ?_, fun hf => ?_⟩⟩
  · have hx := hs (fun p _ s => if !s.admitted p then .ok (s.answer p (s.errorOf p 4 0))
      else if !s.epKnown p then .ok ((s.odInc 0x5864 0).answer p (s.errorOf p 1 0))
      else match f p s with
        | some s => .ok ((s.answer p (s.ackOf p)).ledgerSettings p.dpart)
        | none => .ok ((s.odInc 0x5864 0).answer p (s.errorOf p 1 0))) ((t.answer p (t.ackOf p)).ledgerSettings p.dpart) (by
        simp only [ha', hk', hf, Bool.not_true, Bool.false_eq_true, if_false])
    have han : (t.answer p (t.ackOf p)).Answered p 3 0 [] := answer_answered hw ht rfl rfl rfl rfl
    have hc : (t.answer p (t.ackOf p)).calm = t.calm := (State.inject_calm _ _).trans rfl
    obtain ⟨⟨l1, l2⟩, l3⟩ := ledgerSettings_frame (t.answer p (t.ackOf p)) p.dpart
    refine ⟨_, hx, Answered.of_wins (Answered.of_wins han l1) (begunGone_wins _ _), ?_, ?_⟩
    · exact (calm_agents (begunGone_calm _ _)).trans (l2.trans (calm_agents hc))
    · exact (calm_eps (begunGone_calm _ _)).trans (l3.trans (calm_eps hc))
  · have hx := hs (fun p _ s => if !s.admitted p then .ok (s.answer p (s.errorOf p 4 0))
      else if !s.epKnown p then .ok ((s.odInc 0x5864 0).answer p (s.errorOf p 1 0))
      else match f p s with
        | some s => .ok ((s.answer p (s.ackOf p)).ledgerSettings p.dpart)
        | none => .ok ((s.odInc 0x5864 0).answer p (s.errorOf p 1 0)))
      (((s.receives p inbox keys free).odInc 0x5864 0).answer p ((s.receives p inbox keys free).errorOf p 1 0)) (by
        simp only [ha', hk', hf, Bool.not_true, Bool.false_eq_true, if_false])
    generalize hu : s.receives p inbox keys free = u at hx
    have hwu : u.fabric.wins = s.fabric.wins ++ [s.newWin p] := by rw [← hu]; rfl
    have hau : u.agents = s.agents ∧ u.eps = s.eps ∧ u.od = s.od := by rw [← hu]; exact ⟨rfl, rfl, rfl⟩
    have han : ((u.odInc 0x5864 0).answer p (u.errorOf p 1 0)).Answered p 7 1 [] := answer_answered hw hwu rfl rfl rfl rfl
    have hc : ((u.odInc 0x5864 0).answer p (u.errorOf p 1 0)).calm = (u.odInc 0x5864 0).calm := (State.inject_calm _ _).trans rfl
    have hcar : (u.odInc 0x5864 0).Carries ((u.odInc 0x5864 0).answer p (u.errorOf p 1 0)) :=
      State.Carries.trans (t := (u.odInc 0x5864 0).updWin p.src p.spart _) (.of_same rfl rfl) (inject_carries _ _)
    have hn : (u.odInc 0x5864 0).odNum 0x5864 0 = (s.odNum 0x5864 0 + 1) % 2 ^ 64 := by
      rw [odNum_odInc_same (i := 0x5864) (k := 0) u (by decide)]
      unfold State.odNum State.odGet
      rw [hau.2.2]
    refine ⟨_, hx, ?_, ?_, Answered.of_wins han (begunGone_wins _ _), ?_⟩
    · exact (calm_agents (begunGone_calm _ _)).trans ((calm_agents hc).trans hau.1)
    · exact (calm_eps (begunGone_calm _ _)).trans ((calm_eps hc).trans hau.2.1)
    · rw [begunGone_odNum _ _ (by decide) (by decide), hcar.odNum (by decide) (by unfold Routed Noisy; decide), hn]

/-- A row that acts on a packet acknowledges it, and leaves the agents and members that its action leaves. -/
theorem epDone {s : State} {p : Pkt} {kind : Nat → Bool} (h : s.Arrives p (fun p => p.op == 6 && kind (epKind p))) (hk : s.epKnown p = true)
    {c : Instr} {f : Pkt → State → Option State} (hc : exec c s = epRow s kind f) (hm : stores c = false) {P : State → Prop}
    (hP : ∀ u : State, u.agents = s.agents → u.eps = s.eps → u.od = s.od →
      ∃ t, f p u = some t ∧ t.wins = u.wins ∧ ∀ v : State, v.agents = t.agents → v.eps = t.eps → P v) :
    Answers c s fun t => t.mem = s.mem ∧ t.Answered p 3 0 [] ∧ P t := by
  obtain ⟨inbox, keys, free, hf⟩ := epRow_arrives h hk
  obtain ⟨t, ht, hw, hv⟩ := hP (s.receives p inbox keys free) rfl rfl rfl
  obtain ⟨v, hx, ha, hg, he⟩ := (hf f).1 t ht hw
  rw [← hc] at hx
  exact ⟨v, hx, mem_of_exec hx hm, ha, hv v hg he⟩

theorem treeFor_congr {s t : State} (he : t.eps = s.eps) (ho : t.od = s.od) (g : Nat) : t.treeFor g = s.treeFor g := by
  unfold State.treeFor State.ep State.gd State.odBlob State.odGet
  rw [he, ho]

theorem epMine_congr {s t : State} (he : t.eps = s.eps) (p : Pkt) : t.epMine p = s.epMine p := by
  unfold State.epMine State.ep
  rw [he]

theorem Decides.of_agents {s t : State} {g : Nat} {d : Dec} (h : s.Decides g d) (ha : t.agents = s.agents) : t.Decides g d := by
  unfold State.Decides
  rw [mach_of_agents ha, agent_of_agents ha]
  exact h

/-- With every rank's vote in, the coordinator at the root decides commit. -/
theorem voteUp_decides {s : State} {p : Nat} (hst : (s.ep p).st = .voted) (hu : (s.ep p).sentUp = false) (hr : (s.ep p).tree.rank = 0)
    (hm : (s.mach (s.ep p).group (s.ep p).epoch).st = .collecting)
    (hc : childCount (s.ep p) (s.agent (s.ep p).group).votes = some (s.ep p).tree.n) :
    (s.voteUp p).Decides (s.ep p).group ⟨(s.ep p).epoch, 1, 0, 0⟩ := by
  unfold State.voteUp
  simp only []
  rw [if_neg (by rw [hu, hst]; decide), hc]
  simp only []
  have hm' : ((s.setEp p { s.ep p with sentUp := true }).mach (s.ep p).group (s.ep p).epoch).st = .collecting := hm
  generalize s.setEp p { s.ep p with sentUp := true } = u at hm' ⊢
  rw [if_neg (not_not.mpr hr), if_pos hm', if_pos trivial]
  refine coDecide_decides u _ ⟨(s.ep p).epoch, 1, 0, 0⟩ ?_
  rw [hm']
  decide

/-! ### What each packet does -/

/-- What a VOTE does at the agent that takes it. -/
def State.voteMsg (s : State) (p : Pkt) : State :=
  let g := epGrp p
  let s := if s.gRank g = 0 then s.coCollect g (epNum p) else s
  let s := s.setAgent g { s.agent g with votes := addVote (s.agent g).votes ⟨epNum p, epFrom p, epCount p⟩ }
  if s.epMine p then s.voteUp p.dpart else s

/-- What a RESTORED does at the agent that takes it. -/
def State.restoredMsg (s : State) (p : Pkt) : State :=
  let s := s.setAgent (epGrp p) { s.agent (epGrp p) with
    restored := addVote (s.agent (epGrp p)).restored ⟨epNum p, epFrom p, epCount p⟩ }
  if s.epMine p then s.restoredUp p.dpart else s

theorem collect_polls (s : State) (g epoch : Nat) : s.Polls (if s.gRank g = 0 then s.coCollect g epoch else s) :=
  .ite (coCollect_polls s g epoch) (.refl s)

theorem voteMsg_spec (s : State) (p : Pkt) : (s.voteMsg p).wins = s.wins ∧
    ((s.voteMsg p).agent (epGrp p)).votes = addVote (s.agent (epGrp p)).votes ⟨epNum p, epFrom p, epCount p⟩ := by
  unfold State.voteMsg
  simp only []
  have hc := collect_polls s (epGrp p) (epNum p)
  generalize (if s.gRank (epGrp p) = 0 then s.coCollect (epGrp p) (epNum p) else s) = u at hc ⊢
  have hv : ((u.setAgent (epGrp p) { u.agent (epGrp p) with votes := addVote (u.agent (epGrp p)).votes ⟨epNum p, epFrom p, epCount p⟩ }).agent
      (epGrp p)).votes = addVote (u.agent (epGrp p)).votes ⟨epNum p, epFrom p, epCount p⟩ := by
    rw [agent_setAgent, if_pos rfl]
  have hw : (u.setAgent (epGrp p) { u.agent (epGrp p) with votes := addVote (u.agent (epGrp p)).votes ⟨epNum p, epFrom p, epCount p⟩ }).wins =
      u.wins := rfl
  generalize u.setAgent (epGrp p) { u.agent (epGrp p) with votes := addVote (u.agent (epGrp p)).votes ⟨epNum p, epFrom p, epCount p⟩ } = v at hv hw
  have h : v.Polls (if v.epMine p then v.voteUp p.dpart else v) := .ite (voteUp_polls v p.dpart) (.refl v)
  exact ⟨h.wins.trans (hw.trans hc.wins), (h.votes _).trans (by rw [hv, hc.votes])⟩

theorem restoredMsg_spec (s : State) (p : Pkt) : (s.restoredMsg p).wins = s.wins ∧
    ((s.restoredMsg p).agent (epGrp p)).restored = addVote (s.agent (epGrp p)).restored ⟨epNum p, epFrom p, epCount p⟩ := by
  unfold State.restoredMsg
  simp only []
  have hv : ((s.setAgent (epGrp p) { s.agent (epGrp p) with restored := addVote (s.agent (epGrp p)).restored ⟨epNum p, epFrom p, epCount p⟩ }).agent
      (epGrp p)).restored = addVote (s.agent (epGrp p)).restored ⟨epNum p, epFrom p, epCount p⟩ := by
    rw [agent_setAgent, if_pos rfl]
  have hw : (s.setAgent (epGrp p) { s.agent (epGrp p) with restored := addVote (s.agent (epGrp p)).restored ⟨epNum p, epFrom p, epCount p⟩ }).wins =
      s.wins := rfl
  generalize s.setAgent (epGrp p) { s.agent (epGrp p) with restored := addVote (s.agent (epGrp p)).restored ⟨epNum p, epFrom p, epCount p⟩ } = v at hv hw
  have h : v.Polls (if v.epMine p then v.restoredUp p.dpart else v) := .ite (restoredUp_polls v p.dpart) (.refl v)
  exact ⟨h.wins.trans hw, (h.restored _).trans hv⟩

/-- A machine that collects goes on collecting. -/
theorem coCollect_of_collecting {s : State} {g epoch : Nat} (h : (s.mach g epoch).st = .collecting) : s.coCollect g epoch = s := by
  unfold State.coCollect
  rw [h]
  rfl

/-- The last vote of this member's subtree, at the root, brings about commit. -/
theorem voteMsg_decides {s : State} {p : Pkt} (hmine : s.epMine p = true) (hst : (s.ep p.dpart).st = .voted) (hu : (s.ep p.dpart).sentUp = false)
    (hr : (s.ep p.dpart).tree.rank = 0) (hm : (s.mach (epGrp p) (epNum p)).st = .collecting)
    (hc : childCount (s.ep p.dpart) (addVote (s.agent (epGrp p)).votes ⟨epNum p, epFrom p, epCount p⟩) = some (s.ep p.dpart).tree.n) :
    (s.voteMsg p).Decides (epGrp p) ⟨epNum p, 1, 0, 0⟩ := by
  have hg : (s.ep p.dpart).group = epGrp p ∧ (s.ep p.dpart).epoch = epNum p := by
    unfold State.epMine at hmine
    simp only [Bool.and_eq_true, beq_iff_eq] at hmine
    exact hmine.1
  unfold State.voteMsg
  simp only [coCollect_of_collecting hm, ite_self]
  have hv : ((s.setAgent (epGrp p) { s.agent (epGrp p) with votes := addVote (s.agent (epGrp p)).votes ⟨epNum p, epFrom p, epCount p⟩ }).agent
      (epGrp p)).votes = addVote (s.agent (epGrp p)).votes ⟨epNum p, epFrom p, epCount p⟩ := by
    rw [agent_setAgent, if_pos rfl]
  have he : (s.setAgent (epGrp p) { s.agent (epGrp p) with votes := addVote (s.agent (epGrp p)).votes ⟨epNum p, epFrom p, epCount p⟩ }).eps =
      s.eps := rfl
  have hm' : (s.setAgent (epGrp p) { s.agent (epGrp p) with votes := addVote (s.agent (epGrp p)).votes ⟨epNum p, epFrom p, epCount p⟩ }).mach
      (epGrp p) (epNum p) = s.mach (epGrp p) (epNum p) := mach_of_machs (by rw [agent_setAgent, if_pos rfl]) _
  generalize s.setAgent (epGrp p) { s.agent (epGrp p) with votes := addVote (s.agent (epGrp p)).votes ⟨epNum p, epFrom p, epCount p⟩ } = v
    at hv he hm'
  have hep : v.ep p.dpart = s.ep p.dpart := by unfold State.ep; rw [he]
  rw [if_pos ((epMine_congr he p).trans hmine)]
  have h := voteUp_decides (s := v) (p := p.dpart) (by rw [hep, hst]) (by rw [hep, hu]) (by rw [hep, hr])
    (by rw [hep, hg.1, hg.2, hm', hm]) (by rw [hep, hg.1, hv, hc])
  rw [hep, hg.1, hg.2] at h
  exact h

theorem coAbort_decides {s : State} {g epoch : Nat} (hm : (s.mach g epoch).st = .collecting) (cause : Nat) :
    (s.coAbort g epoch cause).Decides g ⟨epoch, 2, cause, 0⟩ := by
  unfold State.coAbort
  simp only [coCollect_of_collecting hm]
  rw [if_pos hm]
  exact coDecide_decides s g ⟨epoch, 2, cause, 0⟩ (by rw [hm]; decide)

/-- Promises that carry no decision leave none to take over. -/
theorem bestPromise_none (l : List Promise) (h : ∀ q ∈ l, q.value = 0) (b : Promise) :
    l.foldl (fun (b : Promise) q => if q.value != 0 && (b.value == 0 || q.term > b.term) then q else b) b = b := by
  induction l generalizing b with
  | nil => rfl
  | cons q l ih =>
    rw [List.foldl_cons, h q List.mem_cons_self]
    exact ih (fun x hx => h x (List.mem_cons_of_mem _ hx)) b

/-- The machine with one promise more. -/
def State.promised (s : State) (g epoch : Nat) (q : Promise) : State :=
  s.setMach g { s.mach g epoch with promises := (s.mach g epoch).promises ++ [q] }

theorem setMach_taking {s : State} {g epoch : Nat} {m : Mach} (he : m.epoch = epoch) (hm : m.st = .taking) : (s.setMach g m).mach g epoch = m := by
  subst he
  exact mach_setMach_same s g m (by rw [hm]; decide)

theorem promised_mach {s : State} {g epoch : Nat} {q : Promise} (hm : (s.mach g epoch).st = .taking) :
    (s.promised g epoch q).mach g epoch = { s.mach g epoch with promises := (s.mach g epoch).promises ++ [q] } :=
  setMach_taking (mach_epoch s g epoch) hm

theorem find?_updFirst_other (l : List Mach) (m : Mach) {x : Nat} (h : x ≠ m.epoch) :
    (updFirst (fun y => y.epoch == m.epoch) (fun _ => m) l).find? (fun y => y.epoch == x) = l.find? (fun y => y.epoch == x) := by
  induction l with
  | nil => rfl
  | cons y l ih =>
    unfold updFirst
    split
    next hy =>
      have hy' : y.epoch = m.epoch := beq_iff_eq.mp hy
      rw [List.find?_cons_of_neg (by simpa using h.symm), List.find?_cons_of_neg (by simpa [hy'] using h.symm)]
    next => rw [List.find?_cons, List.find?_cons, ih]

/-- A machine that goes on leaves the machines of other epochs. -/
theorem mach_setMach_other (s : State) (g : Nat) {m : Mach} (hm : m.st ≠ .idle) {x : Nat} (h : x ≠ m.epoch) : (s.setMach g m).mach g x = s.mach g x := by
  unfold State.setMach State.mach
  simp only [if_neg hm]
  rw [agent_setAgent, if_pos rfl]
  split
  · simp only [find?_updFirst_other _ _ h]
  · simp only []
    rw [List.find?_append, List.find?_cons_of_neg (by simpa using h.symm)]
    simp

theorem takeCheck_few {s : State} {g epoch : Nat} {t : Tree} (ht : s.treeFor g = some t)
    (hq : (s.mach g epoch).promises.length < t.quorum) : s.takeCheck g epoch = s := by
  unfold State.takeCheck
  simp only [ht]
  rw [if_neg (by simp only [Bool.and_eq_true, decide_eq_true_eq]; omega)]

theorem takeCheck_none {s : State} {g epoch : Nat} {t : Tree} (ht : s.treeFor g = some t) (hm : (s.mach g epoch).st = .taking)
    (hq : t.quorum ≤ (s.mach g epoch).promises.length) (h0 : ∀ q ∈ (s.mach g epoch).promises, q.value = 0) :
    s.takeCheck g epoch = s.coDecide g ⟨epoch, 2, 7, t.rank⟩ := by
  unfold State.takeCheck
  simp only [ht, bestPromise_none _ h0]
  rw [if_pos (by simp only [Bool.and_eq_true, decide_eq_true_eq]; exact ⟨hm, hq⟩), if_pos trivial]

/-- A rank that has not promised yet promises. -/
theorem promise_row {u : State} {p : Pkt} {tr : Tree} {k : Nat} (ht : u.treeFor (epGrp p) = some tr) (hk : tr.succ.idxOf? (epFrom p) = some k)
    (h0 : k ≠ 0) (hm : (u.mach (epGrp p) (epNum p)).st = .taking) (hn : ∀ q ∈ (u.mach (epGrp p) (epNum p)).promises, q.rank ≠ k) :
    (match u.treeFor (epGrp p) with
    | none => some u
    | some t =>
      let r := (t.succ.idxOf? (epFrom p)).getD 0
      let m := u.mach (epGrp p) (epNum p)
      if m.st = .taking && r ≠ 0 && !(m.promises.any (fun q => q.rank == r)) then
        some ((u.setMach (epGrp p) { m with promises := m.promises ++ [⟨r, epValue p, epCauseOf p, epRterm p⟩] }).takeCheck (epGrp p) (epNum p))
      else some u) = some ((u.promised (epGrp p) (epNum p) ⟨k, epValue p, epCauseOf p, epRterm p⟩).takeCheck (epGrp p) (epNum p)) := by
  have hn' : (u.mach (epGrp p) (epNum p)).promises.any (fun q => q.rank == k) = false := by
    rw [List.any_eq_false]
    intro q hq
    simpa using hn q hq
  simp only [ht, hk, Option.getD_some, hn']
  rw [if_pos (by simp [hm, h0])]
  rfl

end Sys2Proof.Machine

namespace Sys2Proof.Proofs
open Sys2Proof.Machine

/-- Settles O34: each packet's row acts on the agent as its kind says and acknowledges; the votes survive a decision that they bring
about, and what is decided is at the machine or held. -/
theorem epochAgents : Obligations.EpochAgents := by
  unfold Obligations.EpochAgents
  intro s p
  refine ⟨fun h hk => ⟨?_, fun hmine hst hup hr hm _ hc => ?_⟩, fun ⟨h, hk⟩ hr hm _ => ?_, fun ⟨h, hk⟩ ht => ?_, fun ⟨h, hk⟩ ht => ?_,
    fun ⟨h, hk⟩ ht => ?_, fun tr k ⟨h, hk⟩ htr hidx hk0 hm hnew => ⟨fun hq => ?_, fun hq h0 hv _ => ?_⟩, fun d ⟨h, hk⟩ hd => ?_, fun ⟨h, hk⟩ => ?_⟩
  · have hx : exec .epochVoteMsg s = epRow s (fun k => k == 0 || decide (k ≥ 10)) (fun p s => some (s.voteMsg p)) := rfl
    refine epDone h hk hx rfl fun u ha _ _ => ?_
    obtain ⟨hw, hv⟩ := voteMsg_spec u p
    exact ⟨_, rfl, hw, fun v hva _ => by rw [agent_of_agents hva, hv, agent_of_agents ha]⟩
  · have hx : exec .epochVoteMsg s = epRow s (fun k => k == 0 || decide (k ≥ 10)) (fun p s => some (s.voteMsg p)) := rfl
    refine epDone h hk hx rfl fun u ha he _ => ?_
    have hep : u.ep p.dpart = s.ep p.dpart := by unfold State.ep; rw [he]
    refine ⟨_, rfl, (voteMsg_spec u p).1, fun v hva _ => ?_⟩
    refine Decides.of_agents (voteMsg_decides ((epMine_congr he p).trans hmine) (by rw [hep]; exact hst) (by rw [hep]; exact hup) (by rw [hep]; exact hr)
      (by rw [mach_of_agents ha]; exact hm) ?_) hva
    rw [hep, agent_of_agents ha]
    exact hc
  · have hx : exec .abortVote s = epRow s (fun k => k == 1) (fun p s =>
        some (if s.gRank (epGrp p) = 0 then s.coAbort (epGrp p) (epNum p) (epCauseOf p) else s)) := rfl
    refine epDone h hk hx rfl fun u ha he ho => ?_
    have hr' : u.gRank (epGrp p) = 0 := by
      unfold State.gRank at hr ⊢
      rw [treeFor_congr he ho]
      exact hr
    simp only [if_pos hr']
    exact ⟨_, rfl, (coAbort_polls _ _ _ _).wins, fun v hva _ =>
      Decides.of_agents (coAbort_decides (by rw [mach_of_agents ha]; exact hm) _) hva⟩
  · have hx : exec .epochRecord s = epRow s (fun k => k == 2) (fun p s =>
        let a := s.agent (epGrp p)
        if epTerm p < tget 0 a.promised (epNum p) then none
        else some (s.setAgent (epGrp p) { a with records := keepDec a.records ⟨epNum p, epValue p, epCauseOf p, epTerm p⟩ })) := rfl
    refine epDone h hk hx rfl fun u ha he ho => ?_
    have hag := agent_of_agents ha (epGrp p)
    simp only [hag]
    rw [if_neg (Nat.not_lt.mpr ht)]
    refine ⟨_, rfl, rfl, fun v hva hve => ⟨hve.trans he, ?_⟩⟩
    rw [agent_of_agents hva, agent_setAgent, if_pos rfl]
  · obtain ⟨inbox, keys, free, hf⟩ := epRow_arrives (kind := fun k => k == 2) h hk
    obtain ⟨v, hx, h1, h2, h3, h4⟩ := (hf (fun p s =>
        let a := s.agent (epGrp p)
        if epTerm p < tget 0 a.promised (epNum p) then none
        else some (s.setAgent (epGrp p) { a with records := keepDec a.records ⟨epNum p, epValue p, epCauseOf p, epTerm p⟩ }))).2 (if_pos ht)
    exact ⟨v, hx, h1, h2, h3, h4⟩
  · have hx : exec .epochTake s = epRow s (fun k => k == 3) (fun p s =>
        let g := epGrp p
        let a := s.agent g
        let t := tget 0 a.promised (epNum p)
        if t > epTerm p then some s
        else
          let s := s.setAgent g { a with promised := tset 0 a.promised (epNum p) (max t (epTerm p)) }
          let r := (a.record (epNum p)).getD ⟨epNum p, 0, 0, 0⟩
          some (s.epSend g (epFrom p) 4 0 (epNum p) r.value r.cause r.term 0 0)) := rfl
    refine epDone h hk hx rfl fun u ha he ho => ?_
    have hag := agent_of_agents ha (epGrp p)
    simp only [hag]
    rw [if_neg (Nat.not_lt.mpr ht)]
    refine ⟨_, rfl, (epSend_told _ _ _ _ _ _ _ _ _ _ _).1.trans rfl, fun v hva hve => ?_⟩
    have hv : v.agent (epGrp p) = { s.agent (epGrp p) with
        promised := tset 0 (s.agent (epGrp p)).promised (epNum p) (max (tget 0 (s.agent (epGrp p)).promised (epNum p)) (epTerm p)) } := by
      rw [agent_of_agents hva, agent_of_agents (epSend_agents _ _ _ _ _ _ _ _ _ _ _), agent_setAgent, if_pos rfl]
    refine ⟨hve.trans ((calm_eps (State.epSend_calm _ _ _ _ _ _ _ _ _ _ _)).trans he), by rw [hv], ?_⟩
    rw [hv]
    simp only [tget_tset, if_true]
    omega
  · have hx : exec .epochPromise s = epRow s (fun k => k == 4) _ := rfl
    refine epDone h hk hx rfl fun u ha he ho => ?_
    have htr' := (treeFor_congr he ho (epGrp p)).trans htr
    have hmu := mach_of_agents ha (epGrp p)
    have hm' : (u.mach (epGrp p) (epNum p)).st = .taking := by rw [hmu]; exact hm
    have hfew : (u.promised (epGrp p) (epNum p) ⟨k, epValue p, epCauseOf p, epRterm p⟩).takeCheck (epGrp p) (epNum p) =
        u.promised (epGrp p) (epNum p) ⟨k, epValue p, epCauseOf p, epRterm p⟩ := by
      refine takeCheck_few (t := tr) htr' ?_
      rw [promised_mach hm', hmu]
      simpa using hq
    refine ⟨_, promise_row htr' hidx hk0 hm' (by rw [hmu]; exact hnew), ?_, ?_⟩
    · rw [hfew]
      rfl
    · rw [hfew]
      intro v hva hve
      refine ⟨hve.trans he, ?_, ?_, fun x hx => ?_⟩
      · rw [agent_of_agents hva]
        have hs := (setMach_agent u (epGrp p) { u.mach (epGrp p) (epNum p) with
          promises := (u.mach (epGrp p) (epNum p)).promises ++ [⟨k, epValue p, epCauseOf p, epRterm p⟩] }).1
        rw [agent_of_agents ha] at hs
        exact hs
      · rw [mach_of_agents hva, promised_mach hm', hmu]
      · rw [mach_of_agents hva]
        have hne : x ≠ (u.mach (epGrp p) (epNum p)).epoch := by rw [mach_epoch]; exact hx
        rw [← mach_of_agents ha]
        exact mach_setMach_other u (epGrp p) (by rw [show ({ u.mach (epGrp p) (epNum p) with promises := _ } : Mach).st = .taking from hm']; decide) hne
  · have hx : exec .epochPromise s = epRow s (fun k => k == 4) _ := rfl
    refine epDone h hk hx rfl fun u ha he ho => ?_
    have htr' := (treeFor_congr he ho (epGrp p)).trans htr
    have hmu := mach_of_agents ha (epGrp p)
    have hm' : (u.mach (epGrp p) (epNum p)).st = .taking := by rw [hmu]; exact hm
    have hpm := promised_mach (q := ⟨k, epValue p, epCauseOf p, epRterm p⟩) hm'
    have hst : ((u.promised (epGrp p) (epNum p) ⟨k, epValue p, epCauseOf p, epRterm p⟩).mach (epGrp p) (epNum p)).st = .taking := by
      rw [hpm]; exact hm'
    refine ⟨_, promise_row htr' hidx hk0 hm' (by rw [hmu]; exact hnew), ?_, fun v hva _ => ?_⟩
    · exact (takeCheck_polls _ _ _).wins
    · refine Decides.of_agents (d := ⟨epNum p, 2, 7, tr.rank⟩) ?_ hva
      rw [takeCheck_none (s := u.promised (epGrp p) (epNum p) ⟨k, epValue p, epCauseOf p, epRterm p⟩) (t := tr) htr' hst (by rw [hpm, hmu]; simpa using hq) ?_]
      · exact coDecide_decides _ _ ⟨epNum p, 2, 7, tr.rank⟩ (by rw [hst]; decide)
      · rw [hpm, hmu]
        intro q hq
        rcases List.mem_append.mp hq with hq | hq
        · exact h0 q hq
        · rw [List.mem_singleton.mp hq]
          exact hv
  · have hx : exec .epochQuery s = epRow s (fun k => k == 6) (fun p s =>
        let g := epGrp p
        let a := s.agent g
        match a.heldDec (epNum p) with
        | some d => some (s.epSend g (epFrom p) 7 0 (epNum p) d.value d.cause d.term 0 0)
        | none =>
          let st := (s.mach g (epNum p)).st
          let busy := st == .collecting || st == .recording || st == .taking
          let s := s.epSend g (epFrom p) 7 0 (epNum p) (if busy then 3 else 0) 0 0 0 0
          some (if busy then s else s.probe g (epNum p))) := rfl
    refine epDone h hk hx rfl fun u ha he ho => ?_
    simp only [agent_of_agents ha, hd]
    exact ⟨_, rfl, (epSend_told _ _ _ _ _ _ _ _ _ _ _).1, fun v hva hve =>
      ⟨hve.trans ((calm_eps (State.epSend_calm _ _ _ _ _ _ _ _ _ _ _)).trans he), hva.trans ((epSend_agents _ _ _ _ _ _ _ _ _ _ _).trans ha)⟩⟩
  · have hx : exec .epochRestored s = epRow s (fun k => k == 8) (fun p s => some (s.restoredMsg p)) := rfl
    refine epDone h hk hx rfl fun u ha _ _ => ?_
    obtain ⟨hw, hv⟩ := restoredMsg_spec u p
    exact ⟨_, rfl, hw, fun v hva _ => by rw [agent_of_agents hva, hv, agent_of_agents ha]⟩

end Sys2Proof.Proofs

/-! SUPPORT. What the epoch protocol never changes: memory, the ledger, colours, sweeps and restores, cores and the rest. Each law is named
after its operation. -/
namespace Sys2Proof.Machine

/-- The state without its members, agents and flights, and without what waits for the stacks. -/
def State.apart (s : State) : State :=
  { s with eps := [], agents := [], disp := Disp.reset,
           memory := { s.memory with deciding := [], delivering := [], short := [], tail := [] } }

/-- What the epoch protocol and its messages never change: the state with the fields that they are made of taken away. -/
def State.aside (s : State) : State := s.calm.apart

theorem aside_of_calm {s t : State} (h : t.calm = s.calm) : t.aside = s.aside := congrArg State.apart h

theorem aside_mem {s t : State} (h : t.aside = s.aside) : t.mem = s.mem := show t.aside.mem = s.aside.mem by rw [h]
theorem aside_work {s t : State} (h : t.aside = s.aside) : t.memory.work = s.memory.work := show t.aside.memory.work = s.aside.memory.work by rw [h]
theorem aside_ledger {s t : State} (h : t.aside = s.aside) : t.memory.ledger = s.memory.ledger :=
  show t.aside.memory.ledger = s.aside.memory.ledger by rw [h]
theorem aside_colour {s t : State} (h : t.aside = s.aside) : t.memory.colour = s.memory.colour :=
  show t.aside.memory.colour = s.aside.memory.colour by rw [h]

theorem aside_ite (c : Prop) [Decidable c] (a b : State) :
    (if c then a else b).aside = if c then a.aside else b.aside := by split <;> rfl

theorem aside_foldl {α : Type} {f : State → α → State} {l : List α} {x s : State}
    (h : ∀ t a, (f t a).aside = t.aside) (h0 : x.aside = s.aside) : (l.foldl f x).aside = s.aside := by
  induction l generalizing x with
  | nil => exact h0
  | cons a l ih => exact ih ((h x a).trans h0)

theorem State.odApply_aside (s : State) (idx : Nat) (sub : Nat) : (State.odApply s idx sub).aside = s.aside := aside_of_calm (State.odApply_calm s idx sub)
theorem State.odSetN_aside (s : State) (idx : Nat) (sub : Nat) (n : Nat) : (State.odSetN s idx sub n).aside = s.aside := aside_of_calm (State.odSetN_calm s idx sub n)
theorem State.odInc_aside (s : State) (idx : Nat) (sub : Nat) : (State.odInc s idx sub).aside = s.aside := aside_of_calm (State.odInc_calm s idx sub)
theorem State.pulse_aside (s : State) (ev : Nat) (i : Nat) : (State.pulse s ev i).aside = s.aside := aside_of_calm (State.pulse_calm s ev i)
theorem State.lilac_aside (s : State) (kind : Nat) (code : Nat) (src : Nat) (addr : Nat) (data : Nat) (part : Option Nat) : (State.lilac s kind code src addr data part).aside = s.aside := aside_of_calm (State.lilac_calm s kind code src addr data part)
theorem State.odApplyAll_aside (s : State) (l : List (Nat × Nat)) : (State.odApplyAll s l).aside = s.aside := aside_of_calm (State.odApplyAll_calm s l)
theorem State.deliver_aside (s : State) : (State.deliver s).aside = s.aside := aside_of_calm (State.deliver_calm s)
theorem State.showEp_aside (s : State) (p : Nat) : (State.showEp s p).aside = s.aside := aside_of_calm (State.showEp_calm s p)
theorem State.epSend_aside (s : State) (g ref kind term epoch value cause rterm count rank : Nat) : (State.epSend s g ref kind term epoch value cause rterm count rank).aside = s.aside := aside_of_calm (State.epSend_calm s g ref kind term epoch value cause rterm count rank)

theorem State.raise_aside (s : State) (code : Nat) (idx : Nat) (sub : Nat) (detail : Nat) :
    (State.raise s code idx sub detail).aside = s.aside := by
  unfold State.raise
  simp only []
  rw [State.deliver_aside]
  split
  · exact Eq.trans rfl (State.odInc_aside s 0x1122 0)
  · rfl

theorem State.updFlight_aside (s : State) (r : DescRef) (f : Flight → Flight) :
    (State.updFlight s r f).aside = s.aside := rfl

theorem State.flightDone_aside (s : State) (r : DescRef) :
    (State.flightDone s r).aside = s.aside := by
  unfold State.flightDone
  repeat' (first | with_reducible rfl | simp only [↓aside_ite, ite_self, ↓State.updFlight_aside] | refine aside_foldl (fun _ _ => ?_) ?_ | split | rfl)

theorem State.setEp_aside (s : State) (p : Nat) (e : Ep) :
    (State.setEp s p e).aside = s.aside := rfl

theorem State.epGo_aside (s : State) (p : Nat) (st : MemSt) :
    (State.epGo s p st).aside = s.aside := by
  unfold State.epGo
  repeat' (first | with_reducible rfl | simp only [↓aside_ite, ite_self, ↓State.lilac_aside, ↓State.setEp_aside, ↓State.showEp_aside] | refine aside_foldl (fun _ _ => ?_) ?_ | split)

theorem State.setAgent_aside (s : State) (g : Nat) (a : Agent) :
    (State.setAgent s g a).aside = s.aside := rfl

theorem State.setMach_aside (s : State) (g : Nat) (m : Mach) :
    (State.setMach s g m).aside = s.aside := by
  unfold State.setMach
  repeat' (first | with_reducible rfl | simp only [↓aside_ite, ite_self, ↓State.setAgent_aside] | refine aside_foldl (fun _ _ => ?_) ?_ | split)

theorem State.coGo_aside (s : State) (g : Nat) (epoch : Nat) (st : CoSt) :
    (State.coGo s g epoch st).aside = s.aside := by
  unfold State.coGo
  repeat' (first | with_reducible rfl | simp only [↓aside_ite, ite_self, ↓State.lilac_aside, ↓State.odSetN_aside, ↓State.setMach_aside] | refine aside_foldl (fun _ _ => ?_) ?_ | split)

theorem State.coCollect_aside (s : State) (g : Nat) (epoch : Nat) :
    (State.coCollect s g epoch).aside = s.aside := by
  unfold State.coCollect
  repeat' (first | with_reducible rfl | simp only [↓aside_ite, ite_self, ↓State.coGo_aside, ↓State.odApply_aside] | refine aside_foldl (fun _ _ => ?_) ?_ | split)

theorem State.hold_aside (s : State) (g : Nat) (d : Dec) :
    (State.hold s g d).aside = s.aside := by
  unfold State.hold
  repeat' (first | with_reducible rfl | simp only [↓aside_ite, ite_self, ↓State.setAgent_aside] | refine aside_foldl (fun _ _ => ?_) ?_ | split)

theorem State.toStacks_aside (s : State) (p : Nat) (commit : Bool) :
    (State.toStacks s p commit).aside = s.aside := by
  unfold State.toStacks
  repeat' (first | with_reducible rfl | simp only [↓aside_ite, ite_self, ↓State.pulse_aside] | refine aside_foldl (fun _ _ => ?_) ?_ | split | rfl)

theorem State.unitEnd_aside (s : State) (r : DescRef) (u : Nat) (e : UEnd) :
    (State.unitEnd s r u e).aside = s.aside := by
  unfold State.unitEnd
  repeat' (first | with_reducible rfl | simp only [↓aside_ite, ite_self, ↓State.flightDone_aside, ↓State.updFlight_aside] | refine aside_foldl (fun _ _ => ?_) ?_ | split)

theorem State.commitClose_aside (s : State) (p : Nat) :
    (State.commitClose s p).aside = s.aside := by
  unfold State.commitClose
  repeat' (first | with_reducible rfl | simp only [↓aside_ite, ite_self, ↓State.epGo_aside, ↓State.odInc_aside, ↓State.setEp_aside, ↓State.toStacks_aside, ↓State.unitEnd_aside, ↓State.updFlight_aside] | refine aside_foldl (fun _ _ => ?_) ?_ | split)

theorem State.epAttention_aside (s : State) (p : Nat) (k : Nat) :
    (State.epAttention s p k).aside = s.aside := by
  unfold State.epAttention
  repeat' (first | with_reducible rfl | simp only [↓aside_ite, ite_self, ↓State.raise_aside] | refine aside_foldl (fun _ _ => ?_) ?_ | split)

theorem State.contradict_aside (s : State) (p : Nat) :
    (State.contradict s p).aside = s.aside := by
  unfold State.contradict
  repeat' (first | with_reducible rfl | simp only [↓aside_ite, ite_self, ↓State.epAttention_aside, ↓State.odInc_aside] | refine aside_foldl (fun _ _ => ?_) ?_ | split)

theorem State.epCause_aside (s : State) (p : Nat) (c : Nat) :
    (State.epCause s p c).aside = s.aside := by
  unfold State.epCause
  repeat' (first | with_reducible rfl | simp only [↓aside_ite, ite_self, ↓State.odInc_aside, ↓State.setEp_aside, ↓State.showEp_aside] | refine aside_foldl (fun _ _ => ?_) ?_ | split)

theorem State.startRestore_aside (s : State) (p : Nat) :
    (State.startRestore s p).aside = s.aside := by
  unfold State.startRestore
  repeat' (first | with_reducible rfl | simp only [↓aside_ite, ite_self, ↓State.epGo_aside, ↓State.odInc_aside, ↓State.setEp_aside, ↓State.toStacks_aside] | refine aside_foldl (fun _ _ => ?_) ?_ | split)

theorem State.toChildren_aside (s : State) (p : Nat) (kind : Nat) (value : Nat) (cause : Nat) :
    (State.toChildren s p kind value cause).aside = s.aside := by
  unfold State.toChildren
  repeat' (first | with_reducible rfl | simp only [↓aside_ite, ite_self, ↓State.epSend_aside] | refine aside_foldl (fun _ _ => ?_) ?_ | split)

theorem State.memberDecide_aside (s : State) (p : Nat) (value : Nat) (cause : Nat) (fwd : Bool) :
    (State.memberDecide s p value cause fwd).aside = s.aside := by
  have hf : ∀ u : State, (if fwd && !(u.ep p).forwarded then
      (u.setEp p { u.ep p with forwarded := true }).toChildren p 5 value cause else u).aside = u.aside := by
    intro u
    split
    · rw [State.toChildren_aside, State.setEp_aside]
    · rfl
  unfold State.memberDecide
  simp only []
  split
  all_goals
    simp only [aside_ite, hf, State.startRestore_aside, State.commitClose_aside, State.contradict_aside, State.epGo_aside, State.epCause_aside,
      ite_self]

theorem State.coDecided_aside (s : State) (g : Nat) (epoch : Nat) :
    (State.coDecided s g epoch).aside = s.aside := by
  unfold State.coDecided
  repeat' (first | with_reducible rfl | simp only [↓aside_ite, ite_self, ↓State.coGo_aside, ↓State.epSend_aside, ↓State.hold_aside, ↓State.memberDecide_aside, ↓State.odApply_aside] | refine aside_foldl (fun _ _ => ?_) ?_ | split)

theorem State.coCheck_aside (s : State) (g : Nat) (epoch : Nat) :
    (State.coCheck s g epoch).aside = s.aside := by
  unfold State.coCheck
  repeat' (first | with_reducible rfl | simp only [↓aside_ite, ite_self, ↓State.coDecided_aside] | refine aside_foldl (fun _ _ => ?_) ?_ | split)

theorem State.sendRecords_aside (s : State) (g : Nat) (epoch : Nat) :
    (State.sendRecords s g epoch).aside = s.aside := by
  unfold State.sendRecords
  repeat' (first | with_reducible rfl | simp only [↓aside_ite, ite_self, ↓State.epSend_aside] | refine aside_foldl (fun _ _ => ?_) ?_ | split)

theorem State.coDecide_aside (s : State) (g : Nat) (d : Dec) :
    (State.coDecide s g d).aside = s.aside := by
  unfold State.coDecide
  repeat' (first | with_reducible rfl | simp only [↓aside_ite, ite_self, ↓State.coCheck_aside, ↓State.coGo_aside, ↓State.epCause_aside, ↓State.odApply_aside, ↓State.odInc_aside, ↓State.sendRecords_aside, ↓State.setAgent_aside, ↓State.setMach_aside] | refine aside_foldl (fun _ _ => ?_) ?_ | split)

theorem State.coAbort_aside (s : State) (g : Nat) (epoch : Nat) (cause : Nat) :
    (State.coAbort s g epoch cause).aside = s.aside := by
  unfold State.coAbort
  repeat' (first | with_reducible rfl | simp only [↓aside_ite, ite_self, ↓State.coCollect_aside, ↓State.coDecide_aside] | refine aside_foldl (fun _ _ => ?_) ?_ | split)

theorem State.sendAbort_aside (s : State) (p : Nat) (cause : Nat) :
    (State.sendAbort s p cause).aside = s.aside := by
  unfold State.sendAbort
  repeat' (first | with_reducible rfl | simp only [↓aside_ite, ite_self, ↓State.coAbort_aside, ↓State.epCause_aside, ↓State.epSend_aside] | refine aside_foldl (fun _ _ => ?_) ?_ | split)

theorem State.castAbort_aside (s : State) (p : Nat) (cause : Nat) :
    (State.castAbort s p cause).aside = s.aside := by
  unfold State.castAbort
  repeat' (first | with_reducible rfl | simp only [↓aside_ite, ite_self, ↓State.epGo_aside, ↓State.sendAbort_aside] | refine aside_foldl (fun _ _ => ?_) ?_ | split)

theorem State.clearClose_aside (s : State) (p : Nat) (fwd : Bool) :
    (State.clearClose s p fwd).aside = s.aside := by
  unfold State.clearClose
  repeat' (first | with_reducible rfl | simp only [↓aside_ite, ite_self, ↓State.epGo_aside, ↓State.setEp_aside, ↓State.toChildren_aside] | refine aside_foldl (fun _ _ => ?_) ?_ | split)

theorem State.coClear_aside (s : State) (g : Nat) (epoch : Nat) :
    (State.coClear s g epoch).aside = s.aside := by
  unfold State.coClear
  repeat' (first | with_reducible rfl | simp only [↓aside_ite, ite_self, ↓State.clearClose_aside, ↓State.coGo_aside, ↓State.epSend_aside, ↓State.setEp_aside] | refine aside_foldl (fun _ _ => ?_) ?_ | split)

theorem State.fullReport_aside (s : State) (p : Nat) (stack : Nat) :
    (State.fullReport s p stack).aside = s.aside := by
  unfold State.fullReport
  repeat' (first | with_reducible rfl | simp only [↓aside_ite, ite_self, ↓State.castAbort_aside, ↓State.odInc_aside, ↓State.raise_aside] | refine aside_foldl (fun _ _ => ?_) ?_ | split | rfl)

theorem State.restoredUp_aside (s : State) (p : Nat) :
    (State.restoredUp s p).aside = s.aside := by
  unfold State.restoredUp
  repeat' (first | with_reducible rfl | simp only [↓aside_ite, ite_self, ↓State.coClear_aside, ↓State.epSend_aside, ↓State.setEp_aside] | refine aside_foldl (fun _ _ => ?_) ?_ | split)

theorem State.enterFenced_aside (s : State) (p : Nat) :
    (State.enterFenced s p).aside = s.aside := by
  unfold State.enterFenced
  repeat' (first | with_reducible rfl | simp only [↓aside_ite, ite_self, ↓State.clearClose_aside, ↓State.epGo_aside, ↓State.epSend_aside, ↓State.odApply_aside, ↓State.restoredUp_aside, ↓State.setEp_aside, ↓State.unitEnd_aside, ↓State.updFlight_aside] | refine aside_foldl (fun _ _ => ?_) ?_ | split)

theorem State.ledgerSettings_aside (s : State) (p : Nat) :
    (State.ledgerSettings s p).aside = s.aside := by
  have h := State.odApplyAll_aside s [(0x5830, p + 1), (0x5840, p + 1), (0x5841, p + 1)]
  unfold State.ledgerSettings
  split
  · simp only []
    split
    · exact h
    · exact Eq.trans rfl h
  · rfl

theorem State.stillFull_aside (s : State) (p : Nat) (stack : Nat) :
    (State.stillFull s p stack).aside = s.aside := by
  unfold State.stillFull
  repeat' (first | with_reducible rfl | simp only [↓aside_ite, ite_self, ↓State.fullReport_aside] | refine aside_foldl (fun _ _ => ?_) ?_ | split | rfl)

end Sys2Proof.Machine

/-! SUPPORT. Colours, decisions, sweeps and restores at the memory stacks (R198, R200, R321). -/
namespace Sys2Proof.Machine

/-! ### Restores -/

/-- One before-image is written back, with colour 0. -/
def State.restoreOne (s : State) (e : LEntry) : State :=
  let m := s.memory
  let bad := m.bad.filter (fun x => x != e.sector)
  let lost := s.entryBad e
  let s := { s with memory := { m with colour := tset 0 m.colour e.sector 0, bad := if e.uncorr || lost then bad ++ [e.sector] else bad } }
  (if lost then s.odInc 0x8021 (stackOf e.at_ + 1) else s).wr (64 * e.sector) e.before

theorem getAt_getD {α : Type} (d : α) (l : List α) (i : Nat) : getAt d l i = l[i]?.getD d := by
  induction l generalizing i with
  | nil => rfl
  | cons x l ih =>
    cases i with
    | zero => rfl
    | succ i => exact (ih i).trans (by rw [List.getElem?_cons_succ])

theorem restoreOne_spec (s : State) (e : LEntry) : (s.restoreOne e).memory.ledger = s.memory.ledger ∧
    (s.restoreOne e).memory.work = s.memory.work ∧
    (∀ j, (s.restoreOne e).colourOf j = if j = e.sector then 0 else s.colourOf j) ∧
    (s.restoreOne e).mem = (s.wr (64 * e.sector) e.before).mem := by
  unfold State.restoreOne
  simp only []
  split
  · exact ⟨rfl, rfl, fun j => tget_tset 0 s.memory.colour e.sector j 0, rfl⟩
  · exact ⟨rfl, rfl, fun j => tget_tset 0 s.memory.colour e.sector j 0, rfl⟩

theorem restoreOne_rd (s : State) {e : LEntry} (hl : e.before.length = 64) : (∀ i, i < 64 → (s.restoreOne e).rd (64 * e.sector + i) = getAt 0 e.before i) ∧
    ∀ a, a / 64 ≠ e.sector → (s.restoreOne e).rd a = s.rd a := by
  have h : ∀ a, (s.restoreOne e).rd a = (s.wr (64 * e.sector) e.before).rd a := fun a => by
    unfold State.rd
    rw [(restoreOne_spec s e).2.2.2]
  refine ⟨fun i hi => ?_, fun a ha => ?_⟩
  · rw [h, State.rd_wr, if_pos (by omega), getAt_getD, Nat.add_sub_cancel_left]
  · rw [h, State.rd_wr, if_neg (by omega)]

/-- Before-images of different sectors are written back one after the other. -/
theorem foldl_restoreOne (L : List LEntry) (hp : L.Pairwise (fun l m => l.sector ≠ m.sector)) (hl : ∀ l ∈ L, l.before.length = 64) (s : State) :
    let t := L.foldl State.restoreOne s
    t.memory.ledger = s.memory.ledger ∧ t.memory.work = s.memory.work ∧
    (∀ l ∈ L, t.colourOf l.sector = 0 ∧ ∀ i, i < 64 → t.rd (64 * l.sector + i) = getAt 0 l.before i) ∧
    (∀ j, (∀ l ∈ L, l.sector ≠ j) → t.colourOf j = s.colourOf j) ∧ ∀ a, (∀ l ∈ L, a / 64 ≠ l.sector) → t.rd a = s.rd a := by
  induction L generalizing s with
  | nil => exact ⟨rfl, rfl, fun _ h => absurd h List.not_mem_nil, fun _ _ => rfl, fun _ _ => rfl⟩
  | cons e L ih =>
    obtain ⟨hne, hp⟩ := List.pairwise_cons.mp hp
    obtain ⟨o1, o2, o3, -⟩ := restoreOne_spec s e
    obtain ⟨r1, r2⟩ := restoreOne_rd s (hl e List.mem_cons_self)
    obtain ⟨i1, i2, i3, i4, i5⟩ := ih hp (fun l h => hl l (List.mem_cons_of_mem _ h)) (s.restoreOne e)
    have heq : (e :: L).foldl State.restoreOne s = L.foldl State.restoreOne (s.restoreOne e) := rfl
    rw [heq]
    refine ⟨i1.trans o1, i2.trans o2, fun l hm => ?_, fun j hj => ?_, fun a ha => ?_⟩
    · rcases List.mem_cons.mp hm with rfl | hm
      · refine ⟨?_, fun i hi => ?_⟩
        · rw [i4 _ (fun m hm => (hne m hm).symm), o3, if_pos rfl]
        · rw [i5 _ (fun m hm => ?_), r1 i hi]
          have := hne m hm
          omega
      · exact i3 l hm
    · rw [i4 j (fun l hm => hj l (List.mem_cons_of_mem _ hm)), o3, if_neg (fun h => hj e List.mem_cons_self h.symm)]
    · rw [i5 a (fun l hm => ha l (List.mem_cons_of_mem _ hm)), r2 a (ha e List.mem_cons_self)]

/-- The entries that are chosen are restored and released, and nothing else of memory changes. -/
structure State.Restored (s t : State) (mine : LEntry → Bool) : Prop where
  ledger : t.memory.ledger = s.memory.ledger.filter (fun e => !mine e)
  back : ∀ l ∈ s.memory.ledger, mine l = true → t.colourOf l.sector = 0 ∧ ∀ i, i < 64 → t.rd (64 * l.sector + i) = getAt 0 l.before i
  colours : ∀ j, (∀ l ∈ s.memory.ledger, mine l = true → l.sector ≠ j) → t.colourOf j = s.colourOf j
  rest : ∀ a, (∀ l ∈ s.memory.ledger, mine l = true → a / 64 ≠ l.sector) → t.rd a = s.rd a

theorem restoreEntries_restored (s : State) (mine : LEntry → Bool) (hp : s.memory.ledger.Pairwise (fun l m => l.sector ≠ m.sector))
    (hl : ∀ l ∈ s.memory.ledger, l.before.length = 64) : s.Restored (s.restoreEntries mine) mine ∧ (s.restoreEntries mine).memory.work = s.memory.work := by
  obtain ⟨h1, h2, h3, h4, h5⟩ := foldl_restoreOne (s.memory.ledger.filter mine) (hp.filter _) (fun l h => hl l (List.mem_filter.mp h).1) s
  have heq : s.restoreEntries mine = { (s.memory.ledger.filter mine).foldl State.restoreOne s with
      memory := { ((s.memory.ledger.filter mine).foldl State.restoreOne s).memory with
        ledger := ((s.memory.ledger.filter mine).foldl State.restoreOne s).memory.ledger.filter (fun e => !mine e) } } := rfl
  generalize (s.memory.ledger.filter mine).foldl State.restoreOne s = t at h1 h2 h3 h4 h5 heq
  rw [heq]
  have hm : ∀ l, l ∈ s.memory.ledger.filter mine → l ∈ s.memory.ledger ∧ mine l = true := fun l h => List.mem_filter.mp h
  refine ⟨⟨by rw [← h1], fun l hl hml => h3 l (List.mem_filter.mpr ⟨hl, hml⟩), fun j hj => h4 j (fun l h => hj l (hm l h).1 (hm l h).2),
    fun a ha => h5 a (fun l h => ha l (hm l h).1 (hm l h).2)⟩, h2⟩

/-- What leaves memory, the ledger, colours and work alone keeps what has been restored. -/
theorem Restored.of_same {s t u : State} {mine : LEntry → Bool} (h : s.Restored t mine) (hm : u.mem = t.mem) (hl : u.memory.ledger = t.memory.ledger)
    (hc : u.memory.colour = t.memory.colour) : s.Restored u mine := by
  have hrd : ∀ a, u.rd a = t.rd a := fun a => by unfold State.rd; rw [hm]
  have hco : ∀ j, u.colourOf j = t.colourOf j := fun j => by unfold State.colourOf; rw [hc]
  exact ⟨hl.trans h.ledger, fun l hl hml => ⟨(hco _).trans (h.back l hl hml).1, fun i hi => (hrd _).trans ((h.back l hl hml).2 i hi)⟩,
    fun j hj => (hco j).trans (h.colours j hj), fun a ha => (hrd a).trans (h.rest a ha)⟩

theorem Restored.of_aside {s t u : State} {mine : LEntry → Bool} (h : s.Restored t mine) (ha : u.aside = t.aside) : s.Restored u mine :=
  Restored.of_same h (aside_mem ha) (aside_ledger ha) (aside_colour ha)

theorem colourStart_aside (s : State) (p : Nat) : (s.colourStart p).aside = s.aside := by
  unfold State.colourStart
  simp only []
  split <;> rfl

theorem showLedger_aside (s : State) (p : Nat) : (s.showLedger p).aside = s.aside := aside_of_calm (State.odSetN_calm _ _ _ _)

/-- A restore of some entries, and then of those of a wider choice that are left, is one of the wider choice. -/
theorem Restored.then {s t u v : State} {mine more : LEntry → Bool} (h : s.Restored t mine) (hm : u.mem = t.mem)
    (hl : u.memory.ledger = t.memory.ledger) (hc : u.memory.colour = t.memory.colour) (g : u.Restored v more)
    (hsub : ∀ e, mine e = true → more e = true) (hsec : ∀ e f, more f = true → mine f = false → mine e = true → f.sector ≠ e.sector) :
    s.Restored v more := by
  have k := Restored.of_same h hm hl hc
  have hmem : ∀ l, l ∈ u.memory.ledger ↔ l ∈ s.memory.ledger ∧ mine l = false := fun l => by
    rw [k.ledger, List.mem_filter, Bool.not_eq_true']
  refine ⟨?_, fun l hls hml => ?_, fun j hj => ?_, fun a ha => ?_⟩
  · rw [g.ledger, k.ledger, List.filter_filter]
    refine List.filter_congr fun e _ => ?_
    cases he : mine e with
    | false => simp
    | true => simp [hsub e he]
  · cases hmi : mine l with
    | false => exact g.back l ((hmem l).mpr ⟨hls, hmi⟩) hml
    | true =>
      have hne : ∀ f ∈ u.memory.ledger, more f = true → f.sector ≠ l.sector := fun f hf hmf =>
        hsec l f hmf ((hmem f).mp hf).2 hmi
      obtain ⟨b1, b2⟩ := k.back l hls hmi
      refine ⟨(g.colours _ hne).trans b1, fun i hi => (g.rest _ fun f hf hmf => ?_).trans (b2 i hi)⟩
      have := hne f hf hmf
      omega
  · rw [g.colours j (fun l hlu hml => hj l ((hmem l).mp hlu).1 hml), k.colours j (fun l hls hmi => hj l hls (hsub l hmi))]
  · rw [g.rest a (fun l hlu hml => ha l ((hmem l).mp hlu).1 hml), k.rest a (fun l hls hmi => ha l hls (hsub l hmi))]

/-! ### Sweeps -/

/-- The colours after a sweep: an entry's sector whose colour is still the epoch's has none. -/
def sweptColours (w : Nat) (L : List LEntry) (c : Tab Nat) : Tab Nat :=
  L.foldl (fun c e => if tget 0 c e.sector = w then tset 0 c e.sector 0 else c) c

theorem sweptColours_other (w : Nat) (L : List LEntry) (c : Tab Nat) (j : Nat) (h : ∀ l ∈ L, l.sector ≠ j) :
    tget 0 (sweptColours w L c) j = tget 0 c j := by
  unfold sweptColours
  induction L generalizing c with
  | nil => rfl
  | cons e L ih =>
    rw [List.foldl_cons, ih _ (fun l hl => h l (List.mem_cons_of_mem _ hl))]
    split
    · rw [tget_tset, if_neg (h e List.mem_cons_self).symm]
    · rfl

theorem sweptColours_zero (w : Nat) (L : List LEntry) (c : Tab Nat) (j : Nat) (h : tget 0 c j = 0) : tget 0 (sweptColours w L c) j = 0 := by
  unfold sweptColours
  induction L generalizing c with
  | nil => exact h
  | cons e L ih =>
    rw [List.foldl_cons]
    refine ih _ ?_
    split
    · rw [tget_tset]
      split
      · rfl
      · exact h
    · exact h

theorem sweptColours_mine (w : Nat) (L : List LEntry) (c : Tab Nat) {l : LEntry} (hl : l ∈ L) (h : tget 0 c l.sector = w) :
    tget 0 (sweptColours w L c) l.sector = 0 := by
  unfold sweptColours
  induction L generalizing c with
  | nil => exact absurd hl List.not_mem_nil
  | cons e L ih =>
    rw [List.foldl_cons]
    by_cases he : e.sector = l.sector
    · refine sweptColours_zero w L _ _ ?_
      rw [he, if_pos h, tget_tset_same]
    · refine ih _ ((List.mem_cons.mp hl).resolve_left fun e' => he (by rw [e'])) ?_
      split
      · rw [tget_tset, if_neg (fun x => he x.symm)]
        exact h
      · exact h

theorem sweepEnd_exec {s : State} {k p : Fin 16} {w : StackWork} (h : s.memory.work.find? (fun w => w.part == p.val && w.stack == k.val && !w.restore) = some w) :
    let mine := fun (e : LEntry) => e.part == p.val && stackOf (64 * e.sector) == k.val && e.colour == w.colour && e.committed
    ∃ t, exec (.sweepEnd k p) s = .next t ∧ t.aside = State.aside { s with memory := { s.memory with
      colour := sweptColours w.colour (s.memory.ledger.filter mine) s.memory.colour, ledger := s.memory.ledger.filter (fun e => !mine e),
      work := s.memory.work.erase w } } := by
  intro mine
  have hx : exec (.sweepEnd k p) s = .next (((({ s with memory := { s.memory with
      colour := sweptColours w.colour (s.memory.ledger.filter mine) s.memory.colour, ledger := s.memory.ledger.filter (fun e => !mine e),
      work := s.memory.work.erase w } } : State).showLedger p).stillFull p k |>.ledgerSettings p).colourStart p) := by
    show execSweepEnd k p s = _
    unfold execSweepEnd
    rw [h]
    rfl
  refine ⟨_, hx, ?_⟩
  rw [colourStart_aside, State.ledgerSettings_aside, State.stillFull_aside, showLedger_aside]

theorem sweepEnd_spec {s : State} {k p : Fin 16} {w : StackWork} (h : s.memory.work.find? (fun w => w.part == p.val && w.stack == k.val && !w.restore) = some w) :
    let mine := fun (l : LEntry) => l.part = p.val ∧ stackOf (64 * l.sector) = k.val ∧ l.colour = w.colour ∧ l.committed = true
    Answers (.sweepEnd k p) s fun t =>
      t.mem = s.mem ∧ t.memory.work = s.memory.work.erase w ∧ (∀ l, l ∈ t.memory.ledger ↔ l ∈ s.memory.ledger ∧ ¬ mine l) ∧
      (∀ l ∈ s.memory.ledger, mine l → s.colourOf l.sector = w.colour → t.colourOf l.sector = 0) ∧
      (∀ j, (∀ l ∈ s.memory.ledger, mine l → l.sector ≠ j) → t.colourOf j = s.colourOf j) := by
  intro mine
  obtain ⟨t, hx, ht⟩ := sweepEnd_exec h
  have hb : ∀ e : LEntry, (e.part == p.val && stackOf (64 * e.sector) == k.val && e.colour == w.colour && e.committed) = true ↔ mine e := fun e => by
    simp only [Bool.and_eq_true, beq_iff_eq, mine, and_assoc]
  have hc : ∀ j, t.colourOf j = tget 0 (sweptColours w.colour (s.memory.ledger.filter fun (e : LEntry) =>
      e.part == p.val && stackOf (64 * e.sector) == k.val && e.colour == w.colour && e.committed) s.memory.colour) j := fun j =>
    congrArg (fun c => tget 0 c j) (aside_colour ht)
  refine ⟨t, hx, (aside_mem ht :), (aside_work ht :), fun l => ?_, fun l hl hm hw => ?_, fun j hj => ?_⟩
  · rw [show t.memory.ledger = _ from aside_ledger ht, List.mem_filter, Bool.not_eq_true', ← Bool.not_eq_true, hb]
  · rw [hc]
    exact sweptColours_mine _ _ _ (List.mem_filter.mpr ⟨hl, (hb l).mpr hm⟩) hw
  · rw [hc]
    exact sweptColours_other _ _ _ _ fun l hl => hj l (List.mem_filter.mp hl).1 ((hb l).mp (List.mem_filter.mp hl).2)

/-! ### A restore's end -/

theorem odSetN_aside (s : State) (i k n : Nat) : (s.odSetN i k n).aside = s.aside := aside_of_calm (State.odSetN_calm _ _ _ _)

/-- The end of a restore on a stack: its entries are restored, and with the partition's last restore every entry of the epoch that is left. -/
theorem restoreEnd_exec {s : State} {k p : Fin 16} {w : StackWork}
    (h : s.memory.work.find? (fun w => w.part == p.val && w.stack == k.val && w.restore) = some w)
    (hp : s.memory.ledger.Pairwise (fun l m => l.sector ≠ m.sector)) (hl : ∀ l ∈ s.memory.ledger, l.before.length = 64) :
    ∃ t, exec (.restoreEnd k p) s = .next t ∧ t.memory.work = s.memory.work.erase w ∧
      ((s.memory.work.erase w).any (fun w => w.part == p.val && w.restore) = true →
        s.Restored t (fun e => (e.part == p.val && e.colour == w.colour && !e.committed) && stackOf (64 * e.sector) == k.val)) ∧
      ((s.memory.work.erase w).any (fun w => w.part == p.val && w.restore) = false →
        s.Restored t (fun e => e.part == p.val && e.colour == w.colour && !e.committed)) := by
  obtain ⟨hr, hw⟩ := restoreEntries_restored s (fun e => (e.part == p.val && e.colour == w.colour && !e.committed) && stackOf (64 * e.sector) == k.val) hp hl
  have hx : exec (.restoreEnd k p) s =
      (let t := s.restoreEntries (fun e => (e.part == p.val && e.colour == w.colour && !e.committed) && stackOf (64 * e.sector) == k.val)
       let t := { t with memory := { t.memory with work := t.memory.work.erase w } }
       let t := (t.showLedger p).stillFull p k
       if t.memory.work.any (fun w => w.part == p.val && w.restore) then .next t
       else
         let t := ((t.restoreEntries (fun e => e.part == p.val && e.colour == w.colour && !e.committed)).showLedger p).odSetN 0x8061 (p + 1) 0
         .next ((((if (t.ep p).st = .restoring then t.enterFenced p else t)).ledgerSettings p).colourStart p)) := by
    show execRestoreEnd k p s = _
    unfold execRestoreEnd
    rw [h]
  simp only [] at hx
  generalize s.restoreEntries (fun e => (e.part == p.val && e.colour == w.colour && !e.committed) && stackOf (64 * e.sector) == k.val) = t at hx hr hw
  have hu : (({ t with memory := { t.memory with work := t.memory.work.erase w } } : State).showLedger p |>.stillFull p k).aside =
      State.aside { t with memory := { t.memory with work := t.memory.work.erase w } } := by
    rw [State.stillFull_aside, showLedger_aside]
  generalize (({ t with memory := { t.memory with work := t.memory.work.erase w } } : State).showLedger p |>.stillFull p k) = u at hx hu
  have hu1 : u.mem = t.mem := (aside_mem hu :)
  have hu2 : u.memory.ledger = t.memory.ledger := (aside_ledger hu :)
  have hu3 : u.memory.colour = t.memory.colour := (aside_colour hu :)
  have hu4 : u.memory.work = s.memory.work.erase w := (aside_work hu).trans (congrArg (fun l => List.erase l w) hw)
  rw [hu4] at hx
  by_cases ha : (s.memory.work.erase w).any (fun w => w.part == p.val && w.restore) = true
  · rw [if_pos ha] at hx
    exact ⟨u, hx, hu4, fun _ => Restored.of_same hr hu1 hu2 hu3, fun hf => absurd (ha.symm.trans hf) (by decide)⟩
  · rw [if_neg ha] at hx
    have hul : u.memory.ledger = s.memory.ledger.filter (fun e => !((e.part == p.val && e.colour == w.colour && !e.committed) &&
        stackOf (64 * e.sector) == k.val)) := hu2.trans hr.ledger
    obtain ⟨gr, gw⟩ := restoreEntries_restored u (fun e => e.part == p.val && e.colour == w.colour && !e.committed)
      (by rw [hul]; exact hp.filter _) (fun l hm => hl l (by rw [hul] at hm; exact (List.mem_filter.mp hm).1))
    have hall := Restored.then hr hu1 hu2 hu3 gr (fun e he => (Bool.and_eq_true_iff.mp he).1) (fun e f hf hnf he hs => by
      have h1 := (Bool.and_eq_true_iff.mp he).2
      rw [hf, hs, h1] at hnf
      exact absurd hnf (by decide))
    generalize u.restoreEntries (fun e => e.part == p.val && e.colour == w.colour && !e.committed) = v at hx gr gw hall
    have hv : ((v.showLedger p).odSetN 0x8061 (p + 1) 0).aside = v.aside := by rw [odSetN_aside, showLedger_aside]
    generalize (v.showLedger p).odSetN 0x8061 (p + 1) 0 = x at hx hv
    have hy : (((if (x.ep p).st = .restoring then x.enterFenced p else x).ledgerSettings p).colourStart p).aside = v.aside := by
      rw [colourStart_aside, State.ledgerSettings_aside, aside_ite, State.enterFenced_aside, ite_self, hv]
    refine ⟨_, hx, (aside_work hy).trans (gw.trans hu4), fun hf => absurd hf ha, fun _ => Restored.of_aside hall hy⟩

/-! ### Colours and decisions -/

/-- A member that takes its colour. -/
def Ep.taken (e : Ep) (c : Nat) : Ep :=
  { e with beginDesc := none, colour := c, failed := false, counted := false, voteDesc := none, forwarded := false, clearKept := false,
           restored := false, sentUp := false, asked := 0 }

/-- A partition's colour is no longer on its way. -/
def State.delivered (s : State) (p : Nat) : State :=
  let short := s.memory.short.filter (fun x => s.holder (64 * x.sector) != some p)
  { s with memory := { s.memory with delivering := s.memory.delivering.filter (fun q => q != p), short := short } }

/-- The stacks take a partition's next colour, and its member with them. -/
def State.takesColour (s : State) (p c : Nat) : State :=
  (((s.delivered p).pulse 7 p).odSetN 0x8061 (p + 1) c).setEp p ((s.ep p).taken c)

/-- A decision has reached the stacks, whose ledger is `L` then. -/
def State.reached (s : State) (p : Nat) (d : Nat × Bool) (L : List LEntry) : State :=
  let work := s.memory.work ++ allStacks p (s.ep p).colour (!d.2)
  { s with memory := { s.memory with deciding := s.memory.deciding.erase d, work := work, ledger := L } }

/-- The member opens, or is Doomed where an abort is held, and its EPOCH_BEGIN completes. -/
def State.begins (u : State) (p : Nat) (e : Ep) (r : DescRef) : State :=
  let held := ((u.agent e.group).heldDec e.epoch).filter (fun d => d.value == 2)
  let u := match held with
    | some d =>
      let u := ((u.epCause p d.cause).epGo p .doomed).toChildren p 5 2 d.cause
      u.setEp p { u.ep p with forwarded := true }
    | none => u.epGo p .opened
  let u := if e.tree.rank = 0 then u.coCollect e.group e.epoch else u
  u.unitEnd r 0 ⟨0, 0, 0⟩

theorem begins_open {u : State} {p : Nat} {e : Ep} {r : DescRef} (hh : (u.agent e.group).heldDec e.epoch = none) (hr : e.tree.rank ≠ 0) :
    u.begins p e r = (u.epGo p .opened).unitEnd r 0 ⟨0, 0, 0⟩ := by
  unfold State.begins
  simp only [hh, Option.filter_none]
  rw [if_neg hr]

/-- A member that goes to a state: its member and its dictionary as they show it, and everything else as before. -/
theorem epGo_spec (u : State) {p : Nat} (hp : p < 16) (st : MemSt) : (u.epGo p st).mem = u.mem ∧ (u.epGo p st).memory = u.memory ∧
    (u.epGo p st).eps = (u.setEp p { u.ep p with st := st }).eps ∧ (u.epGo p st).openColour p = u.openColour p := by
  have hc := epGo_calm u p st
  refine ⟨(calm_mem hc).trans rfl, (calm_memory hc).trans rfl, calm_eps hc, ?_⟩
  unfold State.openColour State.epGo State.showEp
  simp only []
  rw [(lilac_reports _ _ _ _ _ _ _).odNum (by omega) (by unfold Noisy; decide)]
  unfold State.odNum
  rw [odGet_odSetN_other _ _ (odKey_ne (by omega) (by omega) (by decide)), odGet_odSetN_other _ _ (odKey_ne (by omega) (by omega) (by decide)),
    odGet_odSetN_other _ _ (odKey_ne (by omega) (by omega) (by decide))]
  rfl

theorem colourDelivery_spec {s : State} {p : Fin 16} {r : DescRef} (hb : (s.ep p).beginDesc = some r) (hd : p.val ∈ s.memory.delivering)
    (hh : (s.agent (s.ep p).group).heldDec (s.ep p).epoch = none) (hr : (s.ep p).tree.rank ≠ 0) :
    let e := s.ep p
    let c := e.colour % 3 + 1
    Answers (.epochColourDelivery p) s fun t =>
      t.mem = s.mem ∧ t.openColour p = c ∧ (t.ep p).st = .opened ∧ (t.ep p).colour = c ∧ (t.ep p).beginDesc = none ∧
      (t.ep p).epoch = e.epoch ∧ (∀ q, q ≠ p.val → t.ep q = s.ep q) ∧
      t.memory = { s.memory with delivering := s.memory.delivering.filter (fun q => q != p.val), short := t.memory.short } := by
  intro e c
  have hx : exec (.epochColourDelivery p) s = .next ((s.takesColour p c).begins p e r) := by
    show execEpochColourDelivery p s = _
    unfold execEpochColourDelivery
    simp only [hb]
    rw [if_neg (by simpa using hd)]
    rfl
  have hpc := State.pulse_calm (s.delivered p) 7 p
  have ht : s.takesColour p c = (((s.delivered p).pulse 7 p).odSetN 0x8061 (p + 1) c).setEp p (e.taken c) := rfl
  generalize (s.delivered p).pulse 7 p = v at hpc ht
  have hag : (s.takesColour p c).agents = s.agents := by rw [ht]; exact (calm_agents hpc :)
  have hmem : (s.takesColour p c).mem = s.mem := by rw [ht]; exact (calm_mem hpc :)
  have hmy : (s.takesColour p c).memory = (s.delivered p).memory := by rw [ht]; exact (calm_memory hpc :)
  have hep : ∀ q, (s.takesColour p c).ep q = if q = p then e.taken c else s.ep q := fun q => by
    rw [ht, State.ep_setEp]
    split
    · rfl
    · exact ep_of_eps (calm_eps hpc) q
  have hcol : (s.takesColour p c).openColour p = c := by rw [ht]; exact State.odNum_odSetN_same v 0x8061 (p + 1) c
  generalize s.takesColour p c = u at hx hag hmem hmy hep hcol
  rw [begins_open (by rw [agent_of_agents hag]; exact hh) hr] at hx
  obtain ⟨g1, g2, g3, g4⟩ := epGo_spec u p.isLt .opened
  generalize u.epGo p .opened = x at hx g1 g2 g3 g4
  have hxe : ∀ q, x.ep q = if q = p then { e.taken c with st := .opened } else s.ep q := fun q => by
    rw [ep_of_eps g3, State.ep_setEp]
    by_cases hq : q = p
    · rw [if_pos hq, if_pos hq, hep, if_pos rfl]
    · rw [if_neg hq, if_neg hq, hep, if_neg hq]
  have hp' := hxe p
  rw [if_pos rfl] at hp'
  rw [unitEnd_disp] at hx
  refine ⟨_, hx, g1.trans hmem, g4.trans hcol, ?_, ?_, ?_, ?_, fun q hq => (hxe q).trans (if_neg hq), ?_⟩
  · exact congrArg Ep.st hp'
  · exact congrArg Ep.colour hp'
  · exact congrArg Ep.beginDesc hp'
  · exact (congrArg Ep.epoch hp' :)
  · have hm := g2.trans hmy
    show x.memory = { s.memory with delivering := s.memory.delivering.filter (fun q => q != p.val), short := x.memory.short }
    rw [hm]
    rfl

theorem colourStart_with (s : State) (p : Nat) : ∃ l, s.colourStart p = { s with memory := { s.memory with delivering := l } } := by
  unfold State.colourStart
  simp only []
  split
  · exact ⟨s.memory.delivering, rfl⟩
  · exact ⟨_, rfl⟩

/-- A ledger whose entries of a partition are committed. -/
theorem commitLedger (L : List LEntry) (p : Nat) : updAll (fun (e : LEntry) => e.part == p && !e.committed) (fun e => { e with committed := true }) L =
    L.map (fun l => if l.part = p then { l with committed := true } else l) := by
  unfold updAll
  refine List.map_congr_left fun l _ => ?_
  by_cases hp : l.part = p
  · cases hc : l.committed with
    | false => rw [if_pos hp, if_pos (by simp [hp, hc])]
    | true =>
      rw [if_pos hp, if_neg (by simp [hc])]
      cases l
      cases hc
      rfl
  · rw [if_neg hp, if_neg (by simp [hp])]

theorem decisionDelivery_spec {s : State} {p : Fin 16} {d : Nat × Bool} (hd : s.memory.deciding.find? (fun d => d.1 == p.val) = some d) :
    Answers (.epochDecisionDelivery p) s fun t =>
       t = { s with memory := t.memory, od := t.od } ∧
       t.memory.work = s.memory.work ++ (List.range 16).map (fun k => ⟨p, k, (s.ep p).colour, !d.2⟩) ∧
       t.memory.deciding = s.memory.deciding.erase d ∧
       (d.2 = true → t.openColour p = 0 ∧ t.memory.ledger = s.memory.ledger.map (fun l =>
         if l.part = p.val then { l with committed := true } else l)) ∧
       (d.2 = false → t.openColour p = s.openColour p ∧ t.memory.ledger = s.memory.ledger) := by
  have hx : exec (.epochDecisionDelivery p) s = .next (if d.2 then
      ((s.reached p d (s.memory.ledger.map (fun l => if l.part = p.val then { l with committed := true } else l))).odSetN 0x8061 (p + 1) 0).colourStart p
      else (s.reached p d s.memory.ledger).colourStart p) := by
    show execEpochDecisionDelivery p s = _
    unfold execEpochDecisionDelivery
    rw [hd]
    simp only [commitLedger]
    split
    · rfl
    · rfl
  cases h2 : d.2 with
  | true =>
    obtain ⟨l, hl⟩ := colourStart_with ((s.reached p d (s.memory.ledger.map (fun l => if l.part = p.val then { l with committed := true } else l))).odSetN
      0x8061 (p + 1) 0) p
    rw [if_pos h2, hl] at hx
    refine ⟨_, hx, rfl, by rw [← h2]; rfl, rfl, fun _ => ⟨?_, rfl⟩, fun h => absurd h (by decide)⟩
    exact State.odNum_odSetN_same (s.reached p d _) 0x8061 (p + 1) 0
  | false =>
    obtain ⟨l, hl⟩ := colourStart_with (s.reached p d s.memory.ledger) p
    rw [if_neg (by rw [h2]; decide), hl] at hx
    exact ⟨_, hx, rfl, by rw [← h2]; rfl, rfl, fun h => absurd h (by decide), fun _ => ⟨rfl, rfl⟩⟩

end Sys2Proof.Machine

namespace Sys2Proof.Proofs
open Sys2Proof.Machine

/-- Settles O20: colours and decisions are delivered to the stacks, a sweep releases what is committed, and a restore writes the
before-images back, those that were logged late with the partition's last stack. -/
theorem epochMemory : Obligations.EpochMemory := by
  unfold Obligations.EpochMemory
  refine ⟨fun p s => ⟨fun r hb hd hh hr => colourDelivery_spec hb hd hh hr, fun d hd => decisionDelivery_spec hd⟩,
    fun k p s w => ⟨fun h => sweepEnd_spec h, fun h hp hl => ?_⟩⟩
  intro last its
  obtain ⟨t, hx, hw, hsome, hnone⟩ := restoreEnd_exec h hp hl
  have hlast : last ↔ (s.memory.work.erase w).any (fun w => w.part == p.val && w.restore) = false := by
    rw [List.any_eq_false]
    simp only [last, Bool.and_eq_true, beq_iff_eq]
  have key : ∃ mine : LEntry → Bool, (∀ l, mine l = true ↔ its l) ∧ s.Restored t mine := by
    cases ha : (s.memory.work.erase w).any (fun w => w.part == p.val && w.restore) with
    | true =>
      have hn : ¬ last := fun hl => absurd (ha.symm.trans (hlast.mp hl)) (by decide)
      refine ⟨_, fun l => ?_, hsome ha⟩
      simp only [its, hn, or_false, Bool.and_eq_true, beq_iff_eq, Bool.not_eq_true', and_assoc]
    | false =>
      have hn : last := hlast.mpr ha
      refine ⟨_, fun l => ?_, hnone ha⟩
      simp only [its, hn, or_true, and_true, Bool.and_eq_true, beq_iff_eq, Bool.not_eq_true', and_assoc]
  obtain ⟨mine, hm, hr⟩ := key
  refine ⟨t, hx, hw, fun l => ?_, fun l hl hi => hr.back l hl ((hm l).mpr hi), fun a ha => hr.rest a fun l hl hi => ha l hl ((hm l).mp hi)⟩
  rw [hr.ledger, List.mem_filter, Bool.not_eq_true', ← Bool.not_eq_true, hm]

end Sys2Proof.Proofs

/-! SUPPORT. A command whose partition number is out of range: the watchdog's interval is its aperture's base, which refutes O23. -/
namespace Sys2Proof.Machine
set_option Elab.async false

/-- No partition: OD 0x5810 of this number is OD 0x8004. -/
def strayPartition : Nat := (0x8004 - 0x5810) * 256 - 1

/-- A STREAM_COPY for it that reads the first sector of the aperture. -/
def strayCmd : SCmd := ⟨0, .desc ⟨0, 0⟩, strayPartition, 0, 5 * 2 ^ 504 + 0x280_0000_0000 * 2 ^ 180, false, 0, [], [], false⟩

/-- The command reads the aperture, whose new base waits for it. -/
def strayWatchdog : State := State.odAccept { State.reset with
  sepia := { State.reset.sepia with cmds := [strayCmd] }
  memory := { State.reset.memory with apWait := [(strayPartition, [(2, 0, 0)])] } } 0x8004 0 (.num stackSize)

theorem done_strayWatchdog :
    ofNext [] (fun t => t.sepia.cmds.map (fun y => (y.id, y.done))) (exec (.sepiaWatchdogExpiry 5) strayWatchdog) = [(0, false)] := by decide +kernel

theorem onStack_strayWatchdog : strayWatchdog.onStack 5 = [strayCmd] := by decide +kernel

theorem waits_strayCmd : strayWatchdog.cmdWaits strayCmd = false := by decide +kernel

end Sys2Proof.Machine

namespace Sys2Proof.Proofs
open Sys2Proof.Machine
set_option Elab.async false

/-- Refutes O23: a command of a partition that does not exist has its aperture's base in OD 0x8004, whose pending interval the watchdog puts
in force: the command is then on another stack, and is not abandoned (R197). -/
theorem not_sepiaEnds : ¬ Obligations.SepiaEnds := by
  unfold Obligations.SepiaEnds
  rintro ⟨-, h⟩
  obtain ⟨h, -, -⟩ := h 5 strayWatchdog
  obtain ⟨hdog, -⟩ := h (by decide +kernel)
  have hx : strayCmd ∈ (strayWatchdog.onStack 5).take 8 := by
    rw [onStack_strayWatchdog]
    exact List.mem_singleton.mpr rfl
  obtain ⟨t, ht, -, -, -, -, hall⟩ := hdog ⟨strayCmd, hx, waits_strayCmd⟩
  have hm : (0, false) ∈ t.sepia.cmds.map (fun y => (y.id, y.done)) := by
    rw [ofNext_eq ht done_strayWatchdog]
    exact List.mem_singleton.mpr rfl
  obtain ⟨y, hy, he⟩ := List.mem_map.mp hm
  obtain ⟨hid, hdone⟩ := Prod.mk.inj he
  have hd := (hall y hy ⟨strayCmd, hx, hid.symm⟩).1
  exact absurd (hdone.symm.trans hd) (by decide)

end Sys2Proof.Proofs

/-! SUPPORT. A copy of a partition whose number is out of range: its read puts its aperture's next base in force, which refutes O8. -/
namespace Sys2Proof.Machine
set_option Elab.async false

/-- No partition: OD 0x5810 of this number is OD 0x8041, which the look into the hot-row cache puts in force. -/
def strayCopier : Nat := (0x8041 - 0x5810) * 256 - 1

/-- A DMA.CP of the aperture's first sector to the scratchpad. -/
def strayCopy : MOp := ⟨0, 0, 0, 0x2000, 0, 0x280_0000_0000, 0, 64, .started, 0, 0, 0⟩

/-- The aperture's first byte is 1 at the base in force, and 0 at the base that waits. -/
def strayCopying : State := State.odAccept { State.reset with
  mem := (State.reset.wr 0x40_0000_0000 [1]).mem
  cores := [(0, { Core.blank with
    ctx := [(0, { Ctx.blank with st := .running, launch := { Launch.blank with part := strayCopier } })]
    mops := [strayCopy] })]
  parts := [(strayCopier, { Part.blank with regions := [(0, 2 ^ 48)] })]
  memory := { State.reset.memory with apWait := [(strayCopier, [(0, 0, 0)])] } } 0x8041 0 (.num 0x50_0000_0000)

theorem slotPart_strayCopying : strayCopying.slotPart 0 0 = strayCopier := by decide +kernel

theorem onlyCopy_strayCopying : ∀ x ∈ (strayCopying.core 0).mops, x.phase ≠ .queued := by decide +kernel

theorem source_strayCopying : strayCopying.access (.dma 0) strayCopier 0x280_0000_0000 64 false = .ok := by decide +kernel

theorem target_strayCopying : strayCopying.access (.dma 0) strayCopier 0x2000 64 true = .ok := by decide +kernel

theorem plain_strayCopying : ∀ k o, strayCopying.region 0x2000 ≠ .coreCtl k o := by
  have h : strayCopying.region 0x2000 = .hbm 0x2000 := by decide +kernel
  intro k o he
  rw [h] at he
  cases he

theorem ran_strayCopying :
    ofNext 9 (fun t => t.rd 0x2000) (exec (.mOpComplete 0 0 (.ok 0) (.ok 0)) strayCopying) = 0 := by decide +kernel

theorem due_strayCopying :
    (strayCopying.put 0x2000 (strayCopying.rdRange strayCopier 0x280_0000_0000 64)).rd 0x2000 = 1 := by decide +kernel

end Sys2Proof.Machine

namespace Sys2Proof.Proofs
open Sys2Proof.Machine
set_option Elab.async false

/-- Refutes O8: a DMA.CP of a context whose partition does not exist has its aperture's base in OD 0x8041, whose pending value its own read
puts in force: the bytes it copies are not the ones that stood at its source (R114). -/
theorem not_engineTransfers : ¬ Obligations.EngineTransfers := by
  unfold Obligations.EngineTransfers
  rintro ⟨-, h⟩
  obtain ⟨h, -⟩ := h 0 strayCopying strayCopy (.ok 0) (.ok 0) (by decide +kernel) rfl rfl onlyCopy_strayCopying (by decide +kernel)
    (by decide +kernel)
  obtain ⟨t, ht, hm, -⟩ := h (by decide +kernel) (by decide +kernel) (slotPart_strayCopying ▸ source_strayCopying)
    (slotPart_strayCopying ▸ target_strayCopying) plain_strayCopying
  have hr := congrArg (fun y => State.rd { t with mem := y } 0x2000) hm
  have ht1 : t.rd 0x2000 = 0 := ofNext_eq ht ran_strayCopying
  have hp : strayCopying.slotPart ((0 : Fin 288) : Nat) strayCopy.slot = strayCopier := slotPart_strayCopying
  rw [hp] at hr
  exact absurd (ht1.symm.trans (hr.trans due_strayCopying)) (by decide)

end Sys2Proof.Proofs

/-! SUPPORT. A command whose partition number is out of range: its aperture's base is the stack's bypass setting, which refutes O48. -/
namespace Sys2Proof.Machine
set_option Elab.async false

/-- No partition: OD 0x5810 of this number is stack 0's element of OD 0x8002. -/
def strayOwner : Nat := (0x8002 - 0x5810) * 256

/-- The command's source is at its aperture's base, in stack 1, until the setting is accepted. -/
def strayBypass : State := State.odSetN { served with
  sepia := { served.sepia with cmds := [{ strayCmd with part := strayOwner }] } } 0x8002 1 stackSize

theorem takes_strayBypass : strayBypass.Takes (.sepiaBypass nextFrame 0 true) := by
  refine ⟨_, _, _, _, servedSession, rfl, ?_, by decide +kernel⟩
  unfold State.InSession State.NextIn
  decide +kernel

theorem waits_strayBypass :
    ofNext none (fun t => t.odPending 0x8002 1) (exec (.sepiaBypass nextFrame 0 true) strayBypass) = some (.num 1) := by
  decide +kernel

end Sys2Proof.Machine

namespace Sys2Proof.Proofs
open Sys2Proof.Machine
set_option Elab.async false

/-- Refutes O48: the base of the aperture of a command whose partition does not exist is the bypass setting itself, so that its acceptance
brings the command to the stack: the setting then waits, although no command was on the stack (R196). -/
theorem not_objectRequests : ¬ Obligations.ObjectRequests := by
  unfold Obligations.ObjectRequests
  rintro ⟨h, -⟩
  obtain ⟨-, -, -, hbypass, -⟩ := h nextFrame strayBypass
  obtain ⟨t, ht, -, hp⟩ := hbypass 0 true (by decide +kernel) takes_strayBypass
  have hw : t.odPending 0x8002 1 = some (.num 1) := ofNext_eq ht waits_strayBypass
  exact absurd (hw.symm.trans hp) (by decide)

end Sys2Proof.Proofs

/-! SUPPORT. The banks of a scratchpad: the end of an M-op, a write of BANK.CTRL and its handover, and what a March test leaves (R153 to
R171). -/
namespace Sys2Proof.Machine

/-! ### The end of an M-op -/

/-- Cores, crossings and merge counters may differ, and no other core than `n`; no bank of it. -/
def State.EndsAt (s t : State) (n : Nat) : Prop :=
  t = { s with cores := t.cores, clk := t.clk, od := t.od } ∧ (∀ k, k ≠ n → t.core k = s.core k) ∧ (t.core n).bank = (s.core n).bank ∧
  ∀ i j, j < 256 → i ≠ 0x7820 → i ≠ 0x7020 → t.odGet i j = s.odGet i j

theorem State.EndsAt.refl (s : State) (n : Nat) : s.EndsAt s n := ⟨rfl, fun _ _ => rfl, rfl, fun _ _ _ _ _ => rfl⟩

theorem State.EndsAt.trans {s t u : State} {n : Nat} (h : s.EndsAt t n) (g : t.EndsAt u n) : s.EndsAt u n := by
  obtain ⟨h1, h2, h3, h4⟩ := h
  obtain ⟨g1, g2, g3, g4⟩ := g
  exact ⟨by rw [g1, h1], fun k hk => (g2 k hk).trans (h2 k hk), g3.trans h3, fun i j hj hi hi' => (g4 i j hj hi hi').trans (h4 i j hj hi hi')⟩

theorem setCore_endsAt (s : State) (n : Nat) {c : Core} (hb : c.bank = (s.core n).bank) : s.EndsAt (s.setCore n c) n :=
  ⟨rfl, fun k hk => by rw [State.core_setCore, if_neg hk], by rw [State.core_setCore_same, hb], fun _ _ _ _ _ => rfl⟩

theorem pulse_endsAt (s : State) (n : Nat) : s.EndsAt (s.pulse 3 n) n := by
  obtain ⟨⟨h1, h2, -, -⟩, h3⟩ := pulse_spec s 3 n (by decide) (by decide) (by decide)
  refine ⟨?_, fun k _ => core_pulse _ _ _ _, by rw [core_pulse], h2⟩
  rw [h1]

theorem signalCE_endsAt (s : State) (n : Nat) (ce : Bool) (cnt v : Nat) : s.EndsAt (s.signalCE n ce cnt v) n := by
  unfold State.signalCE
  split
  · exact (setCore_endsAt s n (c := (s.core n).setCounter cnt ((s.core n).counter cnt + BitVec.ofNat 64 v)) rfl).trans (pulse_endsAt _ n)
  · exact .refl s n

theorem signalCE_core (s : State) (n : Nat) (ce : Bool) (cnt v : Nat) : ((s.signalCE n ce cnt v).core n).mops = (s.core n).mops ∧
    ∀ k, ((s.signalCE n ce cnt v).core n).counter k =
      if ce = true ∧ k = cnt then (s.core n).counter k + BitVec.ofNat 64 v else (s.core n).counter k := by
  unfold State.signalCE
  cases ce with
  | false => exact ⟨rfl, fun k => by simp⟩
  | true =>
    simp only [if_true, true_and]
    unfold State.addCnt State.setCnt
    rw [core_pulse, State.core_setCore_same]
    refine ⟨rfl, fun k => ?_⟩
    rw [counter_setCounter]
    split
    · next h => rw [h]
    · rfl

theorem mDone_endsAt (s : State) (n : Nat) (m : MOp) (v : Nat) : s.EndsAt (s.mDone n m v) n := by
  refine State.EndsAt.trans (t := s.dropMop n m.id) (setCore_endsAt s n rfl) (.trans (signalCE_endsAt _ n (oCE m.w) (oCNT m.w) v) ?_)
  unfold State.mDone State.releaseCore
  generalize (s.dropMop n m.id).signalCE n (oCE m.w) (oCNT m.w) v = u
  exact setCore_endsAt u n (by rw [release_frame])

theorem release_mops (c : Core) : c.release.mops = c.mops := by rw [release_frame]

theorem release_counter (c : Core) (k : Nat) : c.release.counter k = c.counter k := by
  have h : c.release.cnt = c.cnt := by rw [release_frame]
  unfold Core.counter
  rw [h]

theorem mDone_core (s : State) (n : Nat) (m : MOp) (v : Nat) :
    ((s.mDone n m v).core n).mops = (s.core n).mops.filter (fun x => x.id != m.id) ∧
    ∀ k, ((s.mDone n m v).core n).counter k =
      if oCE m.w = true ∧ k = oCNT m.w then (s.core n).counter k + BitVec.ofNat 64 v else (s.core n).counter k := by
  obtain ⟨h1, h2⟩ := signalCE_core (s.dropMop n m.id) n (oCE m.w) (oCNT m.w) v
  have hd : (s.dropMop n m.id).core n = { s.core n with mops := (s.core n).mops.filter (fun x => x.id != m.id) } :=
    State.core_setCore_same _ _ _
  rw [hd] at h1 h2
  unfold State.mDone State.releaseCore
  generalize (s.dropMop n m.id).signalCE n (oCE m.w) (oCNT m.w) v = u at h1 h2
  rw [State.core_setCore_same]
  exact ⟨(release_mops _).trans h1, fun k => (release_counter _ k).trans (h2 k)⟩

/-! ### A write of BANK.CTRL -/

theorem bankWritten_endsAt (s : State) (c : Fin 288) (id : Nat) : s.EndsAt (s.bankWritten (.dma c id)) c := by
  unfold State.bankWritten
  simp only []
  split
  · exact State.EndsAt.trans (t := s.addAct c 3 8) (setCore_endsAt s c.val rfl) (mDone_endsAt _ _ _ _)
  · exact .refl s c

theorem mop_id {s : State} {n id : Nat} {m : MOp} (h : s.mop? n id = some m) : m.id = id := by
  have := List.find?_some h
  simpa using this

theorem bankWritten_core {s : State} {c : Fin 288} {id : Nat} {m : MOp} (h : s.mop? c id = some m) :
    ((s.bankWritten (.dma c id)).core c).mops = (s.core c).mops.filter (fun x => x.id != id) ∧
    ∀ k, ((s.bankWritten (.dma c id)).core c).counter k =
      if oCE m.w = true ∧ k = oCNT m.w then (s.core c).counter k + 8 else (s.core c).counter k := by
  have e : s.bankWritten (.dma c id) = (s.addAct c 3 8).mDone c m 8 := by
    unfold State.bankWritten
    simp only [h]
  obtain ⟨h1, h2⟩ := mDone_core (s.addAct c 3 8) c m 8
  rw [e]
  unfold State.addAct at h1 h2 ⊢
  rw [State.core_setCore_same, mop_id h] at h1
  rw [State.core_setCore_same] at h2
  exact ⟨h1, h2⟩

theorem bankOf_setBank (c : Core) (b j : Nat) (x : Bank) : (c.setBank b x).bankOf j = if j = b then x else c.bankOf j := tget_tset _ _ _ _ _

theorem setBank_bankOf_same (s : State) (n b : Nat) (x : Bank) : ((s.setBank n b x).core n).bankOf b = x := by
  unfold State.setBank
  rw [State.core_setCore_same, bankOf_setBank, if_pos rfl]

theorem setBank_bankOf_other (s : State) {n b j : Nat} (x : Bank) (h : j ≠ b) :
    ((s.setBank n b x).core n).bankOf j = (s.core n).bankOf j := by
  unfold State.setBank
  rw [State.core_setCore_same, bankOf_setBank, if_neg h]

theorem setBank_core_other (s : State) {n b k : Nat} (x : Bank) (h : k ≠ n) : (s.setBank n b x).core k = s.core k := by
  unfold State.setBank
  rw [State.core_setCore, if_neg h]

theorem setBank_mops (s : State) (n b k : Nat) (x : Bank) : ((s.setBank n b x).core k).mops = (s.core k).mops := by
  unfold State.setBank
  rw [State.core_setCore]
  split
  · next h => rw [h]; rfl
  · rfl

theorem setBank_counter (s : State) (n b k : Nat) (x : Bank) : ((s.setBank n b x).core k).cnt = (s.core k).cnt := by
  unfold State.setBank
  rw [State.core_setCore]
  split
  · next h => rw [h]; rfl
  · rfl

theorem setBank_mop (s : State) (n b k id : Nat) (x : Bank) : (s.setBank n b x).mop? k id = s.mop? k id := by
  unfold State.mop?
  rw [setBank_mops]

/-- A DMA.CP waits for the handover point of the bank that it writes. -/
def MOp.handing (m : MOp) : MOp := { m with phase := .handover }

theorem updMop_bank (s : State) (c id n : Nat) (f : MOp → MOp) : ((s.updMop c id f).core n).bank = (s.core n).bank := by
  unfold State.updMop
  rw [State.core_setCore]
  split
  · next h => rw [h]
  · rfl

theorem updMop_core_other (s : State) {c k : Nat} (id : Nat) (f : MOp → MOp) (h : k ≠ c) : (s.updMop c id f).core k = s.core k := by
  unfold State.updMop
  rw [State.core_setCore, if_neg h]

theorem updMop_mop {s : State} {c id : Nat} {m : MOp} {f : MOp → MOp} (h : s.mop? c id = some m) (hf : (f m).id = m.id) :
    (s.updMop c id f).mop? c id = some (f m) := by
  unfold State.mop? State.updMop
  rw [State.core_setCore_same]
  exact find?_updFirst f h (by rw [hf, mop_id h]; exact beq_self_eq_true id)

theorem filter_updFirst {f : MOp → MOp} (hf : ∀ x, (f x).id = x.id) (id : Nat) (l : List MOp) :
    (updFirst (fun m => m.id == id) f l).filter (fun x => x.id != id) = l.filter (fun x => x.id != id) := by
  induction l with
  | nil => rfl
  | cons x l ih =>
    unfold updFirst
    by_cases hx : x.id = id
    · simp [hx, hf]
    · simp [hx, ih]

/-- The condition under which a host function's write reaches a bank. -/
theorem bankCtrlWrite_host {n : Fin 288} {b : Fin 32} {f : Fin 17} {v : Word} {s : State} {p : Nat} (hp : p < 16) (hf : s.serving p = f.val)
    (hc : (s.part p).hasCluster (clusterOf n) = true) (hd : s.clusterDown (clusterOf n) = false) (hs : s.sealedAt (bankCtrlAddr n b) = false) :
    exec (.bankCtrlWrite n b (.host f) v) s = .next (s.bankWrite n b ⟨.host f, v⟩) := by
  have h : (List.range 16).any (fun p => s.serving p == f.val && (s.part p).hasCluster (clusterOf n)) = true :=
    List.any_eq_true.mpr ⟨p, List.mem_range.mpr hp, by simp [hf, hc]⟩
  exact if_pos (by simp [h, hd, hs])

theorem ownedBy_dma (x : Bank) (n c : Fin 288) (id : Nat) : x.ownedBy n (.dma c id) = true ↔
    if x.owner = 1 then clusterOf c = clusterOf n ∧ c.val % 12 = x.nbr else x.owner ≠ 4 ∧ c = n := by
  unfold Bank.ownedBy clusterOf
  simp only []
  split <;> simp [Fin.ext_iff]

/-! ### The handover point -/

theorem bankHeldGo_nil (k : Nat) {s : State} {n b : Nat} (h : ((s.core n).bankOf b).held = []) : State.bankHeldGo k s n b = s := by
  cases k with
  | zero => rfl
  | succ k =>
    unfold State.bankHeldGo
    simp only [h, ite_self]

theorem rd_bankZero (s : State) (n b a : Nat) : (s.bankZero n b).rd a =
    if spadBase n ≤ a ∧ a < spadBase n + 0x30_0000 ∧ bankNo (a - spadBase n) = b then 0 else s.rd a := by
  unfold State.rd State.bankZero
  rw [tget_filter (0 : Byte) s.mem
    (fun c => !(decide (spadBase n ≤ c) && decide (c < spadBase n + 0x30_0000) && bankNo (c - spadBase n) == b))]
  by_cases h : spadBase n ≤ a ∧ a < spadBase n + 0x30_0000 ∧ bankNo (a - spadBase n) = b
  · rw [if_pos h]
    obtain ⟨h1, h2, h3⟩ := h
    simp [h1, h2, h3]
  · rw [if_neg h]
    rw [if_pos]
    simp only [Bool.not_eq_true', Bool.and_eq_false_iff, decide_eq_false_iff_not, beq_eq_false_iff_ne]
    by_contra hn
    simp only [not_or, not_not, ne_eq] at hn
    exact h ⟨hn.1.1, hn.1.2, hn.2⟩

/-! ### A DMA.CP's write of BANK.CTRL -/

/-- The M-op has reached the bank. -/
def State.reaching (s : State) (c : Fin 288) (id : Nat) : State := s.updMop c id MOp.handing

theorem reaching_endsAt (s : State) (c : Fin 288) (id : Nat) : s.EndsAt (s.reaching c id) c :=
  ⟨rfl, fun _ hk => updMop_core_other s id _ hk, updMop_bank s c id c _, fun _ _ _ _ _ => rfl⟩

theorem reaching_bankOf (s : State) (c : Fin 288) (id n b : Nat) : ((s.reaching c id).core n).bankOf b = (s.core n).bankOf b := by
  unfold Core.bankOf State.reaching
  rw [updMop_bank]

theorem bankWrite_dma (s : State) (n c : Fin 288) (b : Fin 32) (id : Nat) (v : Word) (ht : (s.core n).testing b = false) :
    s.bankWrite n b ⟨.dma c id, v⟩ =
      if ((s.core n).bankOf b).moving.isSome = true then (s.reaching c id).setBank n b
        { (s.core n).bankOf b with held := ((s.core n).bankOf b).held ++ [⟨.dma c id, v⟩] }
      else (s.reaching c id).bankTake n b ⟨.dma c id, v⟩ := by
  have hm : ((s.reaching c id).core n).testing b = false := by
    unfold State.reaching State.updMop
    rw [State.core_setCore]
    split
    · next h => rw [h] at ht; exact ht
    · exact ht
  have e : s.bankWrite n b ⟨.dma c id, v⟩ =
      if ((s.core n).bankOf b).moving.isSome || ((s.reaching c id).core n).testing b then (s.reaching c id).setBank n b
        { (s.core n).bankOf b with held := ((s.core n).bankOf b).held ++ [⟨.dma c id, v⟩] }
      else (s.reaching c id).bankTake n b ⟨.dma c id, v⟩ := rfl
  rw [e, hm, Bool.or_false]

/-- The write sets out, or is held: only the bank and the M-op's phase change. -/
theorem reaching_setBank {s : State} {n c : Fin 288} {b : Fin 32} {id : Nat} {m : MOp} (h : s.mop? c id = some m) (y : Bank) :
    let t := (s.reaching c id).setBank n b y
    t = { s with cores := t.cores } ∧ (t.core n).bankOf b = y ∧ (∀ j, j ≠ b.val → (t.core n).bankOf j = (s.core n).bankOf j) ∧
    t.mop? c id = some { m with phase := .handover } ∧ ∀ k, k ≠ n.val → k ≠ c.val → t.core k = s.core k := by
  refine ⟨rfl, setBank_bankOf_same _ _ _ _, fun j hj => ?_, ?_, fun k hn hc => ?_⟩
  · rw [setBank_bankOf_other _ _ hj, reaching_bankOf]
  · rw [setBank_mop]
    exact updMop_mop h rfl
  · rw [setBank_core_other _ _ hn]
    exact updMop_core_other s id _ hc

/-- A write that is ignored: counted, and the M-op ends with its 8 bytes. -/
theorem bankWritten_refused {s : State} {c : Fin 288} {id : Nat} {m : MOp} (h : s.mop? c id = some m) (n : Fin 288) :
    let t := ((s.reaching c id).odInc 0x8809 0).bankWritten (.dma c id)
    t.mem = s.mem ∧ (∀ j, (t.core n).bankOf j = (s.core n).bankOf j) ∧ (∀ k, k ≠ c.val → t.core k = s.core k) ∧
    (t.core c).mops = (s.core c).mops.filter (fun y => y.id != id) ∧
    (∀ k, (t.core c).counter k = if oCE m.w ∧ k = oCNT m.w then (s.core c).counter k + 8 else (s.core c).counter k) ∧
    t.odNum 0x8809 0 = (s.odNum 0x8809 0 + 1) % 2 ^ 64 := by
  have hs := reaching_endsAt s c id
  have hu : ((s.reaching c id).odInc 0x8809 0).mop? c id = some (m.handing) := updMop_mop h rfl
  have hcore : ∀ k, ((s.reaching c id).odInc 0x8809 0).core k = (s.reaching c id).core k := fun _ => rfl
  have hn : ((s.reaching c id).odInc 0x8809 0).odNum 0x8809 0 = (s.odNum 0x8809 0 + 1) % 2 ^ 64 :=
    odNum_odInc_same (s.reaching c id) 0 (by decide)
  have hmem : ((s.reaching c id).odInc 0x8809 0).mem = s.mem := rfl
  have hmops : ((s.reaching c id).core c).mops = updFirst (fun m => m.id == id) MOp.handing (s.core c).mops := by
    unfold State.reaching State.updMop
    rw [State.core_setCore_same]
  have hcnt : ((s.reaching c id).core c).cnt = (s.core c).cnt := by
    unfold State.reaching State.updMop
    rw [State.core_setCore_same]
  generalize (s.reaching c id).odInc 0x8809 0 = u at *
  obtain ⟨h1, h2, h3, h4⟩ := bankWritten_endsAt u c id
  obtain ⟨g1, g2⟩ := bankWritten_core hu
  generalize u.bankWritten (.dma c id) = t at *
  refine ⟨?_, fun j => ?_, fun k hk => ?_, ?_, fun k => ?_, ?_⟩
  · rw [h1]; exact hmem
  · rw [← reaching_bankOf s c id]
    unfold Core.bankOf
    by_cases hj : n.val = c.val
    · rw [hj, h3, hcore]
    · rw [h2 _ hj, hcore]
  · rw [h2 k hk, hcore, hs.2.1 k hk]
  · rw [g1, hcore, hmops, filter_updFirst (f := MOp.handing) (fun _ => rfl)]
  · refine (g2 k).trans ?_
    unfold Core.counter
    rw [hcore, hcnt]
    rfl
  · rw [← hn]
    unfold State.odNum
    rw [h4 _ _ (by decide) (by decide) (by decide)]

/-! ### The handover point -/

/-- The bank after its handover point. -/
def Bank.handed (x : Bank) (v : Word) : Bank :=
  { x with owner := bOwner v, nbr := bNbr v, pwr := pwrOf (bPwr v), moving := none }

theorem handoverPoint_exec {n : Fin 288} {b : Fin 32} {s : State} {w : BankWrite} (hm : ((s.core n).bankOf b).moving = some w)
    (hh : ((s.core n).bankOf b).held = []) (hs : (s.core n).scatters b = false) :
    exec (.handoverPoint n b) s = .next ((((if ((s.core n).bankOf b).pwr = .dark && pwrOf (bPwr w.v) = .lit then s.bankZero n b else s).setBank n b
      (((s.core n).bankOf b).handed w.v))).bankWritten w.who) := by
  have hcore : ∀ c : Prop, [Decidable c] → ((if c then s.bankZero n b else s).core n) = s.core n := by
    intro c _
    split <;> rfl
  show execHandoverPoint n b s = _
  unfold execHandoverPoint
  simp only [hm, hs, Bool.false_eq_true, if_false]
  have hb : ∀ u : State, ((u.setBank n b (((s.core n).bankOf b).handed w.v)).core n).bankOf b = ((s.core n).bankOf b).handed w.v :=
    fun u => setBank_bankOf_same _ _ _ _
  generalize (if (((s.core n).bankOf b).pwr = .dark && pwrOf (bPwr w.v) = .lit) = true then s.bankZero n b else s) = u
  have hu := hb u
  refine congrArg Host.Outcome.next (bankHeldGo_nil _ ?_)
  show (((u.setBank n b (((s.core n).bankOf b).handed w.v)).bankWritten w.who).core n |>.bankOf b).held = []
  have hk : (((u.setBank n b (((s.core n).bankOf b).handed w.v)).bankWritten w.who).core n).bank =
      ((u.setBank n b (((s.core n).bankOf b).handed w.v)).core n).bank := by
    generalize u.setBank n b (((s.core n).bankOf b).handed w.v) = x
    cases w.who with
    | host f => rfl
    | dma c id =>
      obtain ⟨-, h2, h3, -⟩ := bankWritten_endsAt x c id
      by_cases hj : n.val = c.val
      · rw [hj, h3]
      · rw [h2 _ hj]
  have hx : ((((u.setBank n b (((s.core n).bankOf b).handed w.v)).bankWritten w.who).core n).bankOf b) = ((s.core n).bankOf b).handed w.v :=
    (congrArg (fun t => tget Bank.blank t b.val) hk).trans hu
  rw [hx]
  exact hh

theorem pwrOf_lit (k : Nat) : pwrOf k = .lit ↔ k ≠ 1 ∧ k ≠ 2 := by
  unfold pwrOf
  split
  · next h => simp [h]
  · next h =>
    split
    · next g => simp [g]
    · next g => simp [h, g]

/-! ### March tests -/

/-- A bank of undefined contents: only its own bytes may differ. -/
theorem bankFree_row (u : State) (n b r : Nat) : let t := (u.freeVal 256).2.wr (spadBase n + r * 1024 + b * 32) (leBytes 32 (u.freeVal 256).1)
    t = { u with mem := t.mem, free := t.free } ∧ (r < 3072 → b < 32 → ∀ a,
      ¬ (spadBase n ≤ a ∧ a < spadBase n + 0x30_0000 ∧ bankNo (a - spadBase n) = b) → t.rd a = u.rd a) := by
  refine ⟨rfl, fun hr hb a ha => ?_⟩
  have hw := State.rd_wr (u.freeVal 256).2 (spadBase n + r * 1024 + b * 32) (leBytes 32 (u.freeVal 256).1) a
  refine hw.trans ((if_neg ?_).trans rfl)
  rw [length_leBytes]
  unfold bankNo at ha
  generalize spadBase n = z at ha ⊢
  omega

theorem bankFree_spec (s : State) (n : Nat) {b : Nat} (hb : b < 32) : s.bankFree n b = { s with mem := (s.bankFree n b).mem, free := (s.bankFree n b).free } ∧
    ∀ a, ¬ (spadBase n ≤ a ∧ a < spadBase n + 0x30_0000 ∧ bankNo (a - spadBase n) = b) → (s.bankFree n b).rd a = s.rd a := by
  unfold State.bankFree
  have hl : ∀ r ∈ List.range 3072, r < 3072 := fun r hr => List.mem_range.mp hr
  generalize List.range 3072 = l at hl
  induction l generalizing s with
  | nil => exact ⟨rfl, fun _ _ => rfl⟩
  | cons r l ih =>
    obtain ⟨h1, h2⟩ := bankFree_row s n b r
    obtain ⟨g1, g2⟩ := ih ((s.freeVal 256).2.wr (spadBase n + r * 1024 + b * 32) (leBytes 32 (s.freeVal 256).1))
      (fun x hx => hl x (List.mem_cons_of_mem r hx))
    simp only [List.foldl_cons]
    exact ⟨g1.trans rfl, fun a ha => (g2 a ha).trans (h2 (hl r List.mem_cons_self) hb a ha)⟩

theorem marchTake_none {s : State} {n : Nat} (h : s.odPending (marchReqObj n) (n % 144 + 1) = none) : s.marchTake n = s := by
  unfold State.marchTake
  simp only [h, ite_self]

/-- What a requested test of the bank leaves of memory. -/
def State.marchMem (s : State) (n : Nat) (m : March) (failed : Bool) : State :=
  if m.destroy then s.bankZero n m.bank else if failed then s.bankFree n m.bank else s

theorem marchMem_spec (s : State) (n : Nat) {m : March} (hb : m.bank < 32) (failed : Bool) :
    let t := s.marchMem n m failed
    t = { s with mem := t.mem, free := t.free } ∧ (failed = false → t.free = s.free ∧ (m.destroy = false → t.mem = s.mem)) ∧
    (∀ o, m.destroy = true → o < 0x30_0000 → bankNo o = m.bank → t.rd (spadBase n + o) = 0) ∧
    ∀ a, ¬ (spadBase n ≤ a ∧ a < spadBase n + 0x30_0000 ∧ bankNo (a - spadBase n) = m.bank) → t.rd a = s.rd a := by
  unfold State.marchMem
  cases hd : m.destroy with
  | true =>
    simp only [if_true]
    refine ⟨rfl, fun _ => ⟨rfl, fun h => by cases h⟩, fun o _ ho hm => ?_, fun a ha => ?_⟩
    · rw [rd_bankZero, if_pos ⟨by omega, by omega, by rwa [Nat.add_sub_cancel_left]⟩]
    · rw [rd_bankZero, if_neg ha]
  | false =>
    cases failed with
    | true =>
      obtain ⟨h1, h2⟩ := bankFree_spec s n hb
      simp only [Bool.false_eq_true, if_false, if_true]
      exact ⟨h1, fun h => (by cases h), fun _ h => (by cases h), h2⟩
    | false => exact ⟨rfl, fun _ => ⟨rfl, fun _ => rfl⟩, fun _ h => (by cases h), fun _ _ => rfl⟩

/-- The test has ended, with its result. -/
def State.marchOver (s : State) (n : Nat) (m : March) (bad : Option MarchRead) : State :=
  (s.setCore n { s.core n with march := none }).marchResult n (if bad.isSome then 3 else 2) m.bank m.alg (b2n m.destroy)
    (bad.elim 0 (·.row.val))

theorem marchOver_core (s : State) (n : Nat) (m : March) (bad : Option MarchRead) :
    (s.marchOver n m bad).core n = { s.core n with march := none } := State.core_setCore_same _ _ _

theorem marchTestEnd_exec {n : Fin 288} {s : State} {m : March} {reads : List MarchRead} (hm : (s.core n).march = some m)
    (hu : m.bringup = false) (hf : m.first = none) (hheld : ((s.core n).bankOf m.bank).held = [])
    (hp : s.odPending (marchReqObj n) (n % 144 + 1) = none) {bad : Option MarchRead}
    (hbad : s.marchFirst m.alg m.destroy (spadBase n) 3072 (reads.filter (fun r => r.bank.val == m.bank)) = bad) {t : State}
    (ht : t = if bad.isNone then (s.marchOver n m bad).marchMem n m bad.isSome
      else (((s.marchOver n m bad).marchMem n m bad.isSome).bankFail n m.bank).markDefect n)
    (hth : ((t.core n).bankOf m.bank).held = []) (htp : t.odPending (marchReqObj n) (n % 144 + 1) = none) :
    exec (.marchTestEnd n reads) s = .next t := by
  have e : exec (.marchTestEnd n reads) s = .next ((State.bankHeldGo ((t.core n).bankOf m.bank).held.length.succ t n m.bank).marchTake n) := by
    show execMarchTestEnd n reads s = _
    unfold execMarchTestEnd
    simp only [hm, hu, hf, hbad, Bool.false_and, Bool.false_eq_true, if_false]
    rw [ht]
    cases bad with
    | none => rfl
    | some r => rfl
  rw [e, bankHeldGo_nil _ hth, marchTake_none htp]

/-! ### A bank that fails -/

theorem odPending_odAccept_other (s : State) {i k j m : Nat} (v : OdVal) (h : odKey j m ≠ odKey i k) :
    (s.odAccept i k v).odPending j m = s.odPending j m := by
  unfold State.odPending State.odAccept
  exact (tfind_tput _ _ _ _).trans (if_neg h)

theorem markDefect_spec (s : State) {n : Nat} (hn : n < 288) : (s.markDefect n) = { s with od := (s.markDefect n).od } ∧
    ∀ i j, j < 256 → i ≠ 0x2101 → (s.markDefect n).odGet i j = s.odGet i j ∧ (s.markDefect n).odPending i j = s.odPending i j := by
  have hk : clusterOf n + 1 < 256 := by unfold clusterOf; omega
  unfold State.markDefect
  simp only []
  split
  · next v _ =>
    refine ⟨rfl, fun i j hj hi => ⟨odGet_odSetN_other _ _ (odKey_ne hk hj hi), ?_⟩⟩
    exact odPending_odAccept_other s _ (odKey_ne hk hj hi)
  · exact ⟨rfl, fun i j hj hi => ⟨odGet_odSetN_other _ _ (odKey_ne hk hj hi), rfl⟩⟩

theorem bankFail_spec (s : State) (n b : Nat) : let t := s.bankFail n b
    t.cores = (s.setBank n b { (s.core n).bankOf b with failed := true }).cores ∧ t.mem = s.mem ∧
    ∀ i j, j < 256 → ¬ Posted i → i ∉ [0x7000, 0x7010, 0x7011] → t.odGet i j = s.odGet i j ∧ t.odPending i j = s.odPending i j := by
  unfold State.bankFail
  simp only []
  have hx : ∀ i j, (s.setBank n b { (s.core n).bankOf b with failed := true }).odGet i j = s.odGet i j ∧
      (s.setBank n b { (s.core n).bankOf b with failed := true }).odPending i j = s.odPending i j := fun _ _ => ⟨rfl, rfl⟩
  have hxm : (s.setBank n b { (s.core n).bankOf b with failed := true }).mem = s.mem := rfl
  generalize s.setBank n b { (s.core n).bankOf b with failed := true } = u at hx hxm ⊢
  have ha := bankAmber_posts u
  generalize u.bankAmber = v at ha
  obtain ⟨-, h2, -, -, h5, -, -, h8⟩ := faultRecord_spec v (by decide : 0x09 < 256) 1 1 n none false b
  refine ⟨h2.trans (by rw [ha.1]), h5.trans (ha.mem.trans hxm), fun i j hj hp hi => ?_⟩
  obtain ⟨g1, g2⟩ := h8 i j hj (fun h => hp (.inl h)) hi
  obtain ⟨a1, a2⟩ := ha.2 i j hj hp
  exact ⟨g1.trans (a1.trans (hx i j).1), g2.trans (a2.trans (hx i j).2)⟩

/-- An element of a March engine is neither posted nor a fault's. -/
theorem marchObj_quiet {i : Nat} (h : i = 0x8801 ∨ i = 0x8802 ∨ i = 0x8803 ∨ i = 0x8804) :
    ¬ Posted i ∧ i ∉ [0x7000, 0x7010, 0x7011] ∧ i ≠ 0x2101 := by
  rcases h with rfl | rfl | rfl | rfl <;> (unfold Posted Noisy; decide)

theorem marchReqObj_cases (n : Nat) : marchReqObj n = 0x8801 ∨ marchReqObj n = 0x8802 ∨ marchReqObj n = 0x8803 ∨ marchReqObj n = 0x8804 := by
  unfold marchReqObj
  split <;> simp

theorem marchResObj_cases (n : Nat) : marchResObj n = 0x8801 ∨ marchResObj n = 0x8802 ∨ marchResObj n = 0x8803 ∨ marchResObj n = 0x8804 := by
  unfold marchResObj
  split <;> simp

/-- The bank fails and its position is marked defective. -/
theorem bankMarked_spec (s : State) {n : Nat} (hn : n < 288) (b : Nat) : let t := (s.bankFail n b).markDefect n
    t.cores = (s.setBank n b { (s.core n).bankOf b with failed := true }).cores ∧ t.mem = s.mem ∧
    t.odPending (marchReqObj n) (n % 144 + 1) = s.odPending (marchReqObj n) (n % 144 + 1) ∧
    t.odGet (marchResObj n) (n % 144 + 1) = s.odGet (marchResObj n) (n % 144 + 1) := by
  obtain ⟨h1, h2, h3⟩ := bankFail_spec s n b
  obtain ⟨g1, g2⟩ := markDefect_spec (s.bankFail n b) hn
  have hk : n % 144 + 1 < 256 := by omega
  obtain ⟨a1, a2, a3⟩ := marchObj_quiet (marchReqObj_cases n)
  obtain ⟨b1, b2, b3⟩ := marchObj_quiet (marchResObj_cases n)
  refine ⟨?_, ?_, ?_, ?_⟩
  · rw [g1]; exact h1
  · rw [g1]; exact h2
  · exact (g2 _ _ hk a3).2.trans (h3 _ _ hk a1 a2).2
  · exact (g2 _ _ hk b3).1.trans (h3 _ _ hk b1 b2).1

/-! ### The test of a pool -/

theorem marchProgress_spec (s : State) : s.marchProgress = { s with od := s.marchProgress.od } ∧
    ∀ i j, j < 256 → i ≠ 0x2003 → s.marchProgress.odGet i j = s.odGet i j := by
  unfold State.marchProgress
  split
  · exact ⟨rfl, fun i j hj hi => odGet_odSetN_other _ _ (odKey_ne (by decide) hj hi)⟩
  · exact ⟨rfl, fun _ _ _ _ => rfl⟩

theorem mapWord_excl (marks : Nat) : bits 19 16 (mapWord marks true) = 15 := by
  have h : mapWord marks true = 2 ^ 31 + 15 * 2 ^ 16 + marks % 2 ^ 13 := by
    unfold mapWord
    simp [b2n]
  rw [h, bits_eq_div_mod]
  omega

theorem setMap_spec (s : State) {c : Nat} (hc : c < 24) (marks : Nat) : let t := s.setMap c marks true
    t.clusterDown c = true ∧ t.mem = s.mem ∧
    ∀ i j, j < 256 → ¬ Posted i → i ∉ [0x2100, 0x7000, 0x7010, 0x7011] → t.odGet i j = s.odGet i j := by
  have h0 : (s.odSetN 0x2100 (c + 1) (mapWord marks true)).clusterDown c = true := by
    unfold State.clusterDown
    rw [State.odNum_odSetN_same, mapWord_excl]
    rfl
  have ha := clusterAmber_posts (s.odSetN 0x2100 (c + 1) (mapWord marks true))
  have hm : (s.odSetN 0x2100 (c + 1) (mapWord marks true)).mem = s.mem := rfl
  have hg : ∀ i j, j < 256 → i ≠ 0x2100 → (s.odSetN 0x2100 (c + 1) (mapWord marks true)).odGet i j = s.odGet i j :=
    fun i j hj hi => odGet_odSetN_other _ _ (odKey_ne (by omega) hj hi)
  unfold State.setMap
  simp only []
  generalize s.odSetN 0x2100 (c + 1) (mapWord marks true) = u at h0 ha hm hg
  generalize u.clusterAmber = v at ha
  have hv : v.clusterDown c = true := by
    rw [← h0]
    unfold State.clusterDown
    rw [ha.odNum (by omega) (by unfold Posted Noisy; decide)]
  have hi' : ∀ {i : Nat}, i ∉ [0x2100, 0x7000, 0x7010, 0x7011] → i ≠ 0x2100 ∧ i ∉ [0x7000, 0x7010, 0x7011] := by
    intro i h
    simp only [List.mem_cons, List.not_mem_nil, or_false, not_or] at h ⊢
    exact ⟨h.1, h.2⟩
  split
  · obtain ⟨-, -, -, -, h5, -, -, h8⟩ := faultRecord_spec v (by decide : 0x0D < 256) 1 2 c none false 0
    refine ⟨?_, h5.trans (ha.mem.trans hm), fun i j hj hp hi => ?_⟩
    · rw [← hv]
      unfold State.clusterDown State.odNum
      rw [(h8 0x2100 (c + 1) (by omega) (by unfold Noisy; decide) (by decide)).1]
    · exact (h8 i j hj (fun h => hp (.inl h)) (hi' hi).2).1.trans ((ha.odGet hj hp).trans (hg i j hj (hi' hi).1))
  · exact ⟨hv, ha.mem.trans hm, fun i j hj hp hi => (ha.odGet hj hp).trans (hg i j hj (hi' hi).1)⟩

/-- A pool's test has a result, and the pool holds zeros. -/
def State.poolTested (s : State) (c result : Nat) : State := (s.odSetN 0x8805 (c + 1) result).zero (poolBase c) 0x80_0000

/-- The pool's bytes are 0, and every other byte as it was. -/
def State.poolZero (s t : State) (c : Nat) : Prop := (∀ o, o < 0x80_0000 → t.rd (poolBase c + o) = 0) ∧
  ∀ a, ¬ (poolBase c ≤ a ∧ a < poolBase c + 0x80_0000) → t.rd a = s.rd a

theorem poolTested_spec (s : State) (c result : Nat) : let t := s.poolTested c result
    t = { s with mem := t.mem, od := t.od } ∧ t.odNum 0x8805 (c + 1) = result ∧ s.poolZero t c := by
  have hr : ∀ a, (s.poolTested c result).rd a = if poolBase c ≤ a ∧ a < poolBase c + 0x80_0000 then 0 else s.rd a :=
    fun a => State.rd_zero (s.odSetN 0x8805 (c + 1) result) (poolBase c) 0x80_0000 a
  refine ⟨rfl, State.odNum_odSetN_same s 0x8805 (c + 1) result, fun o ho => ?_, fun a ha => ?_⟩
  · rw [hr, if_pos (by omega)]
  · rw [hr, if_neg ha]

theorem poolZero_of_mem {s t u : State} {c : Nat} (h : s.poolZero u c) (hm : t.mem = u.mem) : s.poolZero t c := by
  have hr : ∀ a, t.rd a = u.rd a := fun a => by unfold State.rd; rw [hm]
  exact ⟨fun o ho => (hr _).trans (h.1 o ho), fun a ha => (hr a).trans (h.2 a ha)⟩

/-- A failure is recorded once more where the cluster was unavailable already. -/
def State.poolFailed (s : State) (c : Nat) : State :=
  let t := s.setMap c (bits 12 0 (s.odNum 0x2100 (c + 1))) true
  if s.clusterDown c then t.faultRecord 0x0D 1 2 c none false 0 else t

theorem poolFailed_spec (u : State) (c : Fin 24) : (u.poolFailed c).mem = u.mem ∧
    (u.poolFailed c).odGet 0x8805 (c + 1) = u.odGet 0x8805 (c + 1) ∧ (u.poolFailed c).clusterDown c = true := by
  obtain ⟨g1, g2, g3⟩ := setMap_spec u c.isLt (bits 12 0 (u.odNum 0x2100 (c + 1)))
  unfold State.poolFailed
  simp only []
  generalize u.setMap c (bits 12 0 (u.odNum 0x2100 (c + 1))) true = v at g1 g2 g3
  have hk : v.odGet 0x8805 (c + 1) = u.odGet 0x8805 (c + 1) := g3 _ _ (by omega) (by unfold Posted Noisy; decide) (by decide)
  split
  · obtain ⟨-, -, -, -, h5, -, -, h8⟩ := faultRecord_spec v (by decide : 0x0D < 256) 1 2 c none false 0
    refine ⟨h5.trans g2, (h8 _ _ (by omega) (by unfold Noisy; decide) (by decide)).1.trans hk, ?_⟩
    rw [← g1]
    unfold State.clusterDown State.odNum
    rw [(h8 0x2100 (c + 1) (by omega) (by unfold Noisy; decide) (by decide)).1]
  · exact ⟨g2, hk, g1⟩

/-- The state that the end of a pool's test leaves. -/
def State.poolEnd (s : State) (c : Nat) (bad : Option MarchRead) : State :=
  match bad with
  | none => (s.poolTested c (poolResult 2 31 (s.odNum 0x8800 0) 0)).marchProgress
  | some r => ((s.poolTested c (poolResult 3 r.bank (s.odNum 0x8800 0) r.row)).poolFailed c).marchProgress

theorem poolMarchEnd_exec {c : Fin 24} {s : State} {reads : List MarchRead} (h : bits 31 28 (s.odNum 0x8805 (c + 1)) = 1)
    {bad : Option MarchRead} (hb : s.marchFirst (s.odNum 0x8800 0) true (poolBase c) 8192 reads = bad) :
    exec (.poolMarchEnd c reads) s = .next (s.poolEnd c bad) := by
  have hp : ∀ v, (s.odSetN 0x8805 (c.val + 1) v).zero (poolBase c) 0x80_0000 = s.poolTested c v := fun _ => rfl
  show execPoolMarchEnd c reads s = _
  unfold execPoolMarchEnd
  simp only []
  rw [if_neg (not_not.mpr h), hb, hp]
  cases bad with
  | none => simp only [Option.isNone_none, if_true, State.poolEnd]
  | some r =>
    simp only [Option.isNone_some, Bool.false_eq_true, if_false, State.poolEnd]
    generalize s.poolTested c (poolResult 3 r.bank (s.odNum 0x8800 0) r.row) = u
    rfl

theorem poolPassed_spec (s : State) (c : Fin 24) : let t := s.poolEnd c none
    t = { s with mem := t.mem, od := t.od } ∧ t.odNum 0x8805 (c + 1) = poolResult 2 31 (s.odNum 0x8800 0) 0 ∧ s.poolZero t c := by
  obtain ⟨hs, hn, hz⟩ := poolTested_spec s c (poolResult 2 31 (s.odNum 0x8800 0) 0)
  have e : s.poolEnd c none = (s.poolTested c (poolResult 2 31 (s.odNum 0x8800 0) 0)).marchProgress := rfl
  rw [e]
  generalize poolResult 2 31 (s.odNum 0x8800 0) 0 = v at hs hn hz ⊢
  generalize s.poolTested c v = u at hs hn hz ⊢
  obtain ⟨h1, h2⟩ := marchProgress_spec u
  refine ⟨?_, ?_, poolZero_of_mem hz (by rw [h1])⟩
  · rw [h1, hs]
  · unfold State.odNum at hn ⊢
    rw [h2 _ _ (by omega) (by decide), hn]

theorem poolFailed_over (u : State) (c : Fin 24) : let t := (u.poolFailed c).marchProgress
    t.mem = u.mem ∧ t.odGet 0x8805 (c + 1) = u.odGet 0x8805 (c + 1) ∧ t.clusterDown c = true := by
  obtain ⟨g1, g2, g3⟩ := poolFailed_spec u c
  obtain ⟨h1, h2⟩ := marchProgress_spec (u.poolFailed c)
  refine ⟨(congrArg State.mem h1).trans g1, (h2 _ _ (by omega) (by decide)).trans g2, ?_⟩
  unfold State.clusterDown State.odNum at g3 ⊢
  rw [h2 _ _ (by omega) (by decide)]
  exact g3

theorem poolDown_spec (s : State) (c : Fin 24) (r : MarchRead) : let t := s.poolEnd c (some r)
    t.odNum 0x8805 (c + 1) = poolResult 3 r.bank (s.odNum 0x8800 0) r.row ∧ s.poolZero t c ∧ t.clusterDown c = true := by
  obtain ⟨-, hn, hz⟩ := poolTested_spec s c (poolResult 3 r.bank (s.odNum 0x8800 0) r.row)
  obtain ⟨h1, h2, h3⟩ := poolFailed_over (s.poolTested c (poolResult 3 r.bank (s.odNum 0x8800 0) r.row)) c
  exact ⟨(congrArg OdVal.toNat h2).trans hn, poolZero_of_mem hz h1, h3⟩

/-! ### Flags -/

/-- Setting a bit that is clear carries into no bit above it. -/
theorem bit_add_above {k j n : Nat} (hk : bit k n = false) (hj : k < j) : bit j (n + 2 ^ k) = bit j n := by
  obtain ⟨i, rfl⟩ := Nat.exists_eq_add_of_lt hj
  have he : n / 2 ^ k % 2 = 0 := by
    unfold bit at hk
    rw [Nat.shiftRight_eq_div_pow] at hk
    simpa using hk
  have hd : ∀ x, (x : Nat).testBit (k + i + 1) = (x / 2 ^ k / 2).testBit i := fun x => by
    rw [show k + i + 1 = i + (k + 1) by omega, Nat.testBit_add, pow_succ, Nat.div_div_eq_div_mul]
  rw [bit_eq_testBit, bit_eq_testBit, hd, hd, Nat.add_div_right _ (Nat.two_pow_pos k)]
  congr 1
  omega

theorem bit_withBit_true (k j n : Nat) : bit j (withBit k true n) = (decide (j = k) || bit j n) := by
  by_cases h : j = k
  · rw [h, bit_withBit_same, decide_eq_true rfl, Bool.true_or]
  · rw [decide_eq_false h, Bool.false_or]
    unfold withBit
    split
    · split
      · rfl
      · next hk =>
        rcases Nat.lt_or_gt_of_ne h with hlt | hgt
        · rw [bit_eq_testBit, bit_eq_testBit, Nat.add_comm, Nat.testBit_two_pow_add_gt hlt]
        · exact bit_add_above (by simpa using hk) hgt
    · next e => exact absurd rfl e

end Sys2Proof.Machine

namespace Sys2Proof.Proofs
open Sys2Proof.Machine

theorem banks_host (n : Fin 288) (b : Fin 32) (f : Fin 17) (v : Word) (s : State) (p : Nat) :
    let x := (s.core n).bankOf b
    p < 16 → s.serving p = f.val → (s.part p).hasCluster (clusterOf n) = true → s.clusterDown (clusterOf n) = false →
    s.sealedAt (bankCtrlAddr n b) = false → (s.core n).testing b = false →
    (x.moving.isSome = true → Answers (.bankCtrlWrite n b (.host f) v) s fun t =>
      t = s.setBank n b { x with held := x.held ++ [⟨.host f, v⟩] }) ∧
    (x.moving = none → x.owner = 4 → x.wellFormed n v = true → Answers (.bankCtrlWrite n b (.host f) v) s fun t =>
      t = s.setBank n b { x with moving := some ⟨.host f, v⟩ }) ∧
    (x.moving = none → (x.owner ≠ 4 ∨ x.wellFormed n v = false) → Answers (.bankCtrlWrite n b (.host f) v) s fun t =>
      t = { s with od := t.od } ∧ t.odNum 0x8809 0 = (s.odNum 0x8809 0 + 1) % 2 ^ 64) := by
  intro x hp hf hc hd hs ht
  have he := bankCtrlWrite_host (v := v) hp hf hc hd hs
  have hw : s.bankWrite n b ⟨.host f, v⟩ = if x.moving.isSome || (s.core n).testing b then
      s.setBank n b { x with held := x.held ++ [⟨.host f, v⟩] } else s.bankTake n b ⟨.host f, v⟩ := rfl
  have hk : s.bankTake n b ⟨.host f, v⟩ = if x.ownedBy n (.host f) && x.wellFormed n v then
      s.setBank n b { x with moving := some ⟨.host f, v⟩ } else s.odInc 0x8809 0 := rfl
  have ho : x.ownedBy n (.host f) = (x.owner == 4) := rfl
  rw [ht, Bool.or_false] at hw
  rw [ho] at hk
  refine ⟨fun hm => ⟨_, he, ?_⟩, fun hm h1 h2 => ⟨_, he, ?_⟩, fun hm hno => ⟨_, he, ?_⟩⟩
  · rw [hw, if_pos hm]
  · rw [hw, hm, if_neg (by decide), hk, if_pos (by simp [h1, h2])]
  · rw [hw, hm, if_neg (by decide), hk, if_neg ?_]
    · exact ⟨rfl, odNum_odInc_same s 0 (by decide)⟩
    · intro h
      simp only [Bool.and_eq_true, beq_iff_eq] at h
      rcases hno with h' | h'
      · exact h' h.1
      · rw [h'] at h; exact absurd h.2 (by decide)

theorem banks_dma (n c : Fin 288) (b : Fin 32) (id : Nat) (m : MOp) (v : Word) (s : State) :
    let x := (s.core n).bankOf b
    let p := s.slotPart c m.slot
    let owns := if x.owner = 1 then clusterOf c = clusterOf n ∧ c.val % 12 = x.nbr else x.owner ≠ 4 ∧ c = n
    let taken := fun (y : Bank) => Answers (.bankCtrlWrite n b (.dma c id) v) s fun t =>
      t = { s with cores := t.cores } ∧ (t.core n).bankOf b = y ∧ (∀ j, j ≠ b.val → (t.core n).bankOf j = (s.core n).bankOf j) ∧
      t.mop? c id = some { m with phase := .handover } ∧ (∀ k, k ≠ n.val → k ≠ c.val → t.core k = s.core k)
    s.mop? c id = some m → fOp m.w = 0 → m.phase = .started → m.err = 0 → m.l = 8 → m.d.toNat = bankCtrlAddr n b →
    s.slotReplay c m.slot = false → s.mSealed c m = false → s.mBehind c id (s.mRanges c m) = false → s.inSpad m.s.toNat 8 = true →
    s.access (.dma c) p m.s.toNat 8 false = .ok → s.reachAll p m.d.toNat 8 true = .ok → v.toNat = leNat (s.rdRange p m.s.toNat 8) →
    (s.core n).testing b = false →
    (x.moving.isSome = true → taken { x with held := x.held ++ [⟨.dma c id, v⟩] }) ∧
    (x.moving = none → owns → x.wellFormed n v = true → taken { x with moving := some ⟨.dma c id, v⟩ }) ∧
    (x.moving = none → ¬ (owns ∧ x.wellFormed n v = true) → Answers (.bankCtrlWrite n b (.dma c id) v) s fun t =>
      t.mem = s.mem ∧ (∀ j, (t.core n).bankOf j = (s.core n).bankOf j) ∧ (∀ k, k ≠ c.val → t.core k = s.core k) ∧
      (t.core c).mops = (s.core c).mops.filter (fun y => y.id != id) ∧
      (∀ k, (t.core c).counter k = if oCE m.w ∧ k = oCNT m.w then (s.core c).counter k + 8 else (s.core c).counter k) ∧
      t.odNum 0x8809 0 = (s.odNum 0x8809 0 + 1) % 2 ^ 64) := by
  intro x p owns taken hm hop hph herr hl hd hrep hseal hbeh hspad hacc hreach hv htest
  have hread : s.readAt c m.slot m.s.toNat = m.s.toNat := by
    unfold State.readAt
    rw [hrep]
    rfl
  have hdis : s.discards c m.slot m.d.toNat = false := by
    unfold State.discards
    rw [hrep]
    rfl
  have hl' : m.l.toNat = 8 := by rw [hl]; rfl
  have he : exec (.bankCtrlWrite n b (.dma c id) v) s = .next (s.bankWrite n b ⟨.dma c id, v⟩) := by
    show execBankCtrlWrite n b (.dma c id) v s = _
    unfold execBankCtrlWrite
    simp only [hm, hread, hdis]
    refine if_pos ?_
    have hacc' : s.access (.dma c) (s.slotPart c m.slot) m.s.toNat 8 false = .ok := hacc
    have hreach' : s.reachAll (s.slotPart c m.slot) (bankCtrlAddr n b) 8 true = .ok := hd ▸ hreach
    have hv' : v.toNat = leNat (s.rdRange (s.slotPart c m.slot) m.s.toNat 8) := hv
    simp only [hseal, hop, hph, herr, hl', hd, hspad, hbeh, hacc', hreach', hv', Bool.not_false, Bool.and_self, decide_true]
  rw [bankWrite_dma s n c b id v htest] at he
  have hk : (s.reaching c id).bankTake n b ⟨.dma c id, v⟩ =
      if x.ownedBy n (.dma c id) && x.wellFormed n v then (s.reaching c id).setBank n b { x with moving := some ⟨.dma c id, v⟩ }
      else ((s.reaching c id).odInc 0x8809 0).bankWritten (.dma c id) := by
    unfold State.bankTake
    simp only [reaching_bankOf]
    rfl
  have ho : x.ownedBy n (.dma c id) = true ↔ owns := ownedBy_dma x n c id
  refine ⟨fun hmv => ⟨_, he, ?_⟩, fun hmv h1 h2 => ⟨_, he, ?_⟩, fun hmv hno => ⟨_, he, ?_⟩⟩
  · rw [if_pos hmv]
    exact reaching_setBank hm _
  · rw [show ((s.core n).bankOf b).moving = none from hmv, if_neg (by decide), hk, if_pos (by rw [ho.mpr h1, h2]; rfl)]
    exact reaching_setBank hm _
  · rw [show ((s.core n).bankOf b).moving = none from hmv, if_neg (by decide), hk, if_neg ?_]
    · exact bankWritten_refused hm n
    · intro h
      rw [Bool.and_eq_true] at h
      exact hno ⟨ho.mp h.1, h.2⟩

theorem banks_handover (n : Fin 288) (b : Fin 32) (s : State) (who : BankReq) (v : Word) :
    let x := (s.core n).bankOf b
    let wakes := x.pwr = .dark ∧ bits 11 10 v.toNat ≠ 1 ∧ bits 11 10 v.toNat ≠ 2
    x.moving = some ⟨who, v⟩ → x.held = [] → (s.core n).scatters b = false → Answers (.handoverPoint n b) s fun t =>
      let y := (t.core n).bankOf b
      t = { s with mem := t.mem, cores := t.cores, clk := t.clk, od := t.od } ∧
      (∀ m, m ≠ n.val → (∀ c id, who = .dma c id → m ≠ c.val) → t.core m = s.core m) ∧
      y = { x with owner := bits 2 0 v.toNat, nbr := bits 7 4 v.toNat, pwr := pwrOf (bits 11 10 v.toNat), moving := none } ∧
      (∀ j, j ≠ b.val → (t.core n).bankOf j = (s.core n).bankOf j) ∧
      (∀ f, who = .host f → t.clk = s.clk ∧ t.od = s.od ∧ (t.core n).ctx = (s.core n).ctx ∧ (t.core n).mops = (s.core n).mops ∧
        (t.core n).cnt = (s.core n).cnt) ∧
      (∀ c id m, who = .dma c id → s.mop? c id = some m →
        (t.core c).mops = (s.core c).mops.filter (fun y => y.id != id) ∧
        ∀ k, (t.core c).counter k = if oCE m.w ∧ k = oCNT m.w then (s.core c).counter k + 8 else (s.core c).counter k) ∧
      (∀ o, o < 0x30_0000 → bankNo o = b.val → wakes → t.rd (spadBase n + o) = 0) ∧
      ∀ a, (¬ wakes ∨ ¬ (spadBase n ≤ a ∧ a < spadBase n + 0x30_0000 ∧ bankNo (a - spadBase n) = b.val)) →
        t.rd a = s.rd a := by
  intro x wakes hm hh hs
  have he := handoverPoint_exec hm hh hs
  have hw : ((((s.core n).bankOf b).pwr = .dark && pwrOf (bPwr v) = .lit) = true) ↔ wakes := by
    simp only [Bool.and_eq_true, decide_eq_true_eq, pwrOf_lit]
    rfl
  -- the memory and the bank first, then the writer's own core
  have hz : ∃ z : State, (if ((s.core n).bankOf b).pwr = .dark && pwrOf (bPwr v) = .lit then s.bankZero n b else s) = z ∧
      z = { s with mem := z.mem } ∧ (∀ o, o < 0x30_0000 → bankNo o = b.val → wakes → z.rd (spadBase n + o) = 0) ∧
      ∀ a, (¬ wakes ∨ ¬ (spadBase n ≤ a ∧ a < spadBase n + 0x30_0000 ∧ bankNo (a - spadBase n) = b.val)) → z.rd a = s.rd a := by
    refine ⟨_, rfl, ?_⟩
    by_cases h : wakes
    · rw [if_pos (hw.mpr h)]
      refine ⟨rfl, fun o ho hb _ => ?_, fun a ha => ?_⟩
      · rw [rd_bankZero, if_pos ⟨by omega, by omega, by rwa [Nat.add_sub_cancel_left]⟩]
      · rw [rd_bankZero, if_neg (ha.resolve_left (fun g => g h))]
    · rw [if_neg (fun g => h (hw.mp g))]
      exact ⟨rfl, fun _ _ _ g => absurd g h, fun _ _ => rfl⟩
  obtain ⟨z, hz, hzs, hz0, hzr⟩ := hz
  have hzc : ∀ k, z.core k = s.core k := fun k => by rw [hzs]; rfl
  have hzm : ∀ k id, z.mop? k id = s.mop? k id := fun k id => by unfold State.mop?; rw [hzc]
  rw [show ((s.core n).bankOf b).pwr = x.pwr from rfl] at he hz
  rw [hz] at he
  have hbank : ((z.setBank n b (x.handed v)).core n).bankOf b = x.handed v := setBank_bankOf_same _ _ _ _
  have hother : ∀ j, j ≠ b.val → ((z.setBank n b (x.handed v)).core n).bankOf j = (s.core n).bankOf j := fun j hj => by
    rw [setBank_bankOf_other _ _ hj, hzc]
  have hcore : ∀ k, k ≠ n.val → (z.setBank n b (x.handed v)).core k = s.core k := fun k hk => by
    rw [setBank_core_other _ _ hk, hzc]
  have hu : z.setBank n b (x.handed v) = { s with mem := z.mem, cores := (z.setBank n b (x.handed v)).cores } := by
    have : z.setBank n b (x.handed v) = { z with cores := (z.setBank n b (x.handed v)).cores } := rfl
    rw [this, hzs]
  have hmop : ∀ k id, (z.setBank n b (x.handed v)).mop? k id = s.mop? k id := fun k id => by rw [setBank_mop, hzm]
  have hmops : ∀ k, ((z.setBank n b (x.handed v)).core k).mops = (s.core k).mops := fun k => by rw [setBank_mops, hzc]
  have hcnt : ∀ k, ((z.setBank n b (x.handed v)).core k).cnt = (s.core k).cnt := fun k => by rw [setBank_counter, hzc]
  have hctx : ((z.setBank n b (x.handed v)).core n).ctx = (s.core n).ctx := by
    unfold State.setBank
    rw [State.core_setCore_same, hzc]
    rfl
  have he : exec (.handoverPoint n b) s = .next ((z.setBank n b (x.handed v)).bankWritten who) := he
  refine ⟨_, he, ?_⟩
  clear he
  generalize z.setBank n b (x.handed v) = u at *
  cases who with
  | host f =>
    refine ⟨?_, fun k hk _ => hcore k hk, hbank, hother, fun _ _ => ?_, (fun _ _ _ h => nomatch h), fun o ho hb hwk => ?_, fun a ha => ?_⟩
    · exact hu.trans (by rw [hu]; rfl)
    · exact ⟨(congrArg State.clk hu).trans rfl, (congrArg State.od hu).trans rfl, hctx, hmops _, hcnt _⟩
    · show u.rd _ = 0
      rw [hu]
      exact hz0 o ho hb hwk
    · show u.rd a = _
      rw [hu]
      exact hzr a ha
  | dma c id =>
    obtain ⟨h1, h2, h3, -⟩ := bankWritten_endsAt u c id
    have hbk : ((u.bankWritten (.dma c id)).core n).bank = (u.core n).bank := by
      by_cases hj : n.val = c.val
      · rw [hj, h3]
      · rw [h2 _ hj]
    have hbof : ∀ j, ((u.bankWritten (.dma c id)).core n).bankOf j = (u.core n).bankOf j := fun j => congrArg (fun t => tget Bank.blank t j) hbk
    have hw := fun (m : MOp) (h : s.mop? c id = some m) => bankWritten_core ((hmop c id).trans h)
    generalize u.bankWritten (.dma c id) = t at *
    have hmem : ∀ a, t.rd a = z.rd a := fun a => by
      unfold State.rd
      rw [h1, hu]
    refine ⟨?_, fun k hk hne => ?_, (hbof b).trans hbank, fun j hj => (hbof j).trans (hother j hj), (fun _ h => nomatch h), ?_,
      fun o ho hb hwk => (hmem _).trans (hz0 o ho hb hwk), fun a ha => (hmem a).trans (hzr a ha)⟩
    · rw [h1, hu]
    · rw [h2 k (hne c id rfl), hcore k hk]
    · intro c' id' m h hm'
      injection h with hc hi
      subst hc hi
      obtain ⟨g1, g2⟩ := hw m hm'
      refine ⟨by rw [g1, hmops], fun k => ?_⟩
      rw [g2 k]
      unfold Core.counter
      rw [hcnt]

theorem banks_collision (n : Fin 288) (k : Fin 5) (s : State) (h : s.clusterDown (clusterOf n) = false) :
    (k.val ≠ 3 → Answers (.collision n k) s fun t =>
      t = { s with cores := t.cores, od := t.od } ∧ (∀ m, m ≠ n.val → t.core m = s.core m) ∧
      t.core n = { s.core n with coll := (t.core n).coll } ∧
      (∀ j, j < 5 → bit j (t.core n).coll = (decide (j = k.val) || bit j (s.core n).coll)) ∧
      t.odNum 0x8808 (k.val + 1) = (s.odNum 0x8808 (k.val + 1) + 1) % 2 ^ 64) ∧
    (k.val = 3 → Answers (.collision n k) s fun t => t = s) := by
  refine ⟨fun hk => ?_, fun hk => ⟨s, if_pos (by simp [hk]), rfl⟩⟩
  have he : exec (.collision n k) s =
      .next ((s.setCore n { s.core n with coll := withBit k true (s.core n).coll }).odInc 0x8808 (k.val + 1)) := if_neg (by simp [hk, h])
  have hc : ((s.setCore n { s.core n with coll := withBit k true (s.core n).coll }).odInc 0x8808 (k.val + 1)).core n =
      { s.core n with coll := withBit k true (s.core n).coll } := State.core_setCore_same _ _ _
  refine ⟨_, he, rfl, fun m hm => (State.core_setCore _ _ _ _).trans (if_neg hm), ?_, fun j hj => ?_, odNum_odInc_same _ _ (by decide)⟩
  · rw [hc]
  · rw [hc]
    exact bit_withBit_true _ _ _

theorem banks_march (n : Fin 288) (s : State) (m : March) (reads : List MarchRead) :
    let c := s.core n
    let bad := s.marchFirst m.alg m.destroy (spadBase n) 3072 (reads.filter (fun r => r.bank.val == m.bank))
    let word := fun (st row : Nat) =>
      st * 2 ^ 28 + m.bank * 2 ^ 23 + m.alg * 2 ^ 22 + (if m.destroy then 1 else 0) * 2 ^ 21 + row * 2 ^ 9
    let its := fun (a : Nat) => spadBase n ≤ a ∧ a < spadBase n + 0x30_0000 ∧ bankNo (a - spadBase n) = m.bank
    let ends := fun (t : State) => (t.core n).march = none ∧ (t.core n).ctx = c.ctx ∧ (∀ m', m' ≠ n.val → t.core m' = s.core m') ∧
      (∀ o, m.destroy = true → o < 0x30_0000 → bankNo o = m.bank → t.rd (spadBase n + o) = 0) ∧
      ∀ a, ¬ its a → t.rd a = s.rd a
    c.march = some m → m.bringup = false → m.first = none → m.bank < 32 → (c.bankOf m.bank).held = [] →
    s.odPending (marchReqObj n) (n % 144 + 1) = none →
    (bad = none → Answers (.marchTestEnd n reads) s fun t =>
      t = { s with mem := t.mem, cores := t.cores, od := t.od } ∧ t.core n = { c with march := none } ∧ ends t ∧
      t.odNum (marchResObj n) (n % 144 + 1) = word 2 0 ∧ (m.destroy = false → t.mem = s.mem)) ∧
    (∀ r, bad = some r → Answers (.marchTestEnd n reads) s fun t =>
      ends t ∧ t.odNum (marchResObj n) (n % 144 + 1) = word 3 r.row ∧
      (t.core n).bankOf m.bank = { c.bankOf m.bank with failed := true } ∧
      ∀ j, j ≠ m.bank → (t.core n).bankOf j = c.bankOf j) := by
  intro c bad word its ends hm hu hf hb hh hp
  -- the test is over in `o`, with its result; then memory is in `z`
  have ho : ∀ bad : Option MarchRead, ∃ o : State, s.marchOver n m bad = o ∧ o = { s with cores := o.cores, od := o.od } ∧
      (o.core n) = { c with march := none } ∧ (∀ k, k ≠ n.val → o.core k = s.core k) ∧
      o.odPending (marchReqObj n) (n % 144 + 1) = none ∧
      o.odNum (marchResObj n) (n % 144 + 1) = word (if bad.isSome then 3 else 2) (bad.elim 0 (·.row.val)) := by
    intro bad
    refine ⟨_, rfl, rfl, marchOver_core _ _ _ _, fun k hk => (State.core_setCore _ _ _ _).trans (if_neg hk), hp, ?_⟩
    exact State.odNum_odSetN_same _ _ _ _
  have hz : ∀ (o : State) (f : Bool), ∃ z : State, o.marchMem n m f = z ∧ z = { o with mem := z.mem, free := z.free } ∧
      (f = false → z.free = o.free ∧ (m.destroy = false → z.mem = o.mem)) ∧
      (∀ i, m.destroy = true → i < 0x30_0000 → bankNo i = m.bank → z.rd (spadBase n + i) = 0) ∧ ∀ a, ¬ its a → z.rd a = o.rd a :=
    fun o f => ⟨_, rfl, marchMem_spec o n hb f⟩
  refine ⟨fun hbad => ?_, fun r hbad => ?_⟩
  · obtain ⟨o, hoe, ho1, ho2, ho3, ho4, ho5⟩ := ho none
    obtain ⟨z, hze, hz1, hz2, hz3, hz4⟩ := hz o false
    obtain ⟨hfree, hkeep⟩ := hz2 rfl
    have hzc : ∀ k, z.core k = o.core k := fun k => by rw [hz1]; rfl
    have he := marchTestEnd_exec hm hu hf hh hp hbad (t := z) (by rw [hoe]; exact hze.symm)
      (by rw [hzc, ho2]; exact hh) (by rw [hz1]; exact ho4)
    refine ⟨z, he, ?_, by rw [hzc, ho2], ⟨by rw [hzc, ho2], by rw [hzc, ho2], fun k hk => (hzc k).trans (ho3 k hk), hz3, fun a ha => ?_⟩, ?_, fun hd => ?_⟩
    · rw [hz1, hfree, ho1]
    · rw [hz4 a ha, ho1]
      rfl
    · rw [hz1]
      exact ho5
    · rw [hkeep hd, ho1]
  · obtain ⟨o, hoe, ho1, ho2, ho3, ho4, ho5⟩ := ho (some r)
    obtain ⟨z, hze, hz1, -, hz3, hz4⟩ := hz o true
    obtain ⟨h1, h2, h3, h4⟩ := bankMarked_spec z n.isLt m.bank
    have hzc : ∀ k, z.core k = o.core k := fun k => by rw [hz1]; rfl
    have hzp : z.odPending (marchReqObj n) (n % 144 + 1) = none := by rw [hz1]; exact ho4
    have hzn : z.odNum (marchResObj n) (n % 144 + 1) = word 3 r.row := by rw [hz1]; exact ho5
    have hrd : ∀ a, ((z.bankFail n m.bank).markDefect n).rd a = z.rd a := fun a => by unfold State.rd; rw [h2]
    have hcs : ∀ k, ((z.bankFail n m.bank).markDefect n).core k = (z.setBank n m.bank { (z.core n).bankOf m.bank with failed := true }).core k :=
      core_of_cores h1
    have hcn : ((z.bankFail n m.bank).markDefect n).core n = (z.core n).setBank m.bank { (z.core n).bankOf m.bank with failed := true } :=
      (hcs n).trans (State.core_setCore_same _ _ _)
    have hco : ∀ k, k ≠ n.val → ((z.bankFail n m.bank).markDefect n).core k = z.core k := fun k hk =>
      (hcs k).trans (setBank_core_other _ _ hk)
    have hbk : (z.core n).bankOf m.bank = c.bankOf m.bank := by rw [hzc, ho2]; rfl
    have he := marchTestEnd_exec hm hu hf hh hp hbad (t := (z.bankFail n m.bank).markDefect n) (by rw [hoe]; exact congrArg (fun z => (z.bankFail n m.bank).markDefect n) hze.symm)
      (by rw [hcn, bankOf_setBank, if_pos rfl, hbk]; exact hh) (h3.trans hzp)
    refine ⟨_, he, ⟨?_, ?_, fun k hk => ?_, fun i hd hi hbi => (hrd _).trans (hz3 i hd hi hbi), fun a ha => ?_⟩, ?_, ?_, fun j hj => ?_⟩
    · rw [hcn]
      show (z.core n).march = none
      rw [hzc, ho2]
    · rw [hcn]
      show (z.core n).ctx = c.ctx
      rw [hzc, ho2]
    · rw [hco k hk, hzc, ho3 k hk]
    · rw [hrd, hz4 a ha, ho1]
      rfl
    · unfold State.odNum at hzn ⊢
      rw [h4, hzn]
    · rw [hcn, bankOf_setBank, if_pos rfl, hbk]
    · rw [hcn, bankOf_setBank, if_neg hj, hzc, ho2]
      rfl

theorem banks_pool (c : Fin 24) (s : State) (reads : List MarchRead) :
    let bad := s.marchFirst (s.odNum 0x8800 0) true (poolBase c) 8192 reads
    let zeroed := fun (t : State) => (∀ o, o < 0x80_0000 → t.rd (poolBase c + o) = 0) ∧
      ∀ a, ¬ (poolBase c ≤ a ∧ a < poolBase c + 0x80_0000) → t.rd a = s.rd a
    s.odNum 0x8805 (c + 1) / 2 ^ 28 % 16 = 1 →
    (bad = none → Answers (.poolMarchEnd c reads) s fun t =>
      t = { s with mem := t.mem, od := t.od } ∧
      t.odNum 0x8805 (c + 1) = 2 * 2 ^ 28 + 31 * 2 ^ 23 + s.odNum 0x8800 0 * 2 ^ 22 ∧ zeroed t) ∧
    (∀ r, bad = some r → Answers (.poolMarchEnd c reads) s fun t =>
      t.odNum 0x8805 (c + 1) = 3 * 2 ^ 28 + r.bank * 2 ^ 23 + s.odNum 0x8800 0 * 2 ^ 22 + r.row * 2 ^ 9 ∧ zeroed t ∧
      t.clusterDown c = true) := by
  intro bad zeroed hst
  have hst' : bits 31 28 (s.odNum 0x8805 (c + 1)) = 1 := (bits_eq_div_mod _ _ _).trans hst
  refine ⟨fun hbad => ⟨_, poolMarchEnd_exec hst' hbad, ?_⟩, fun r hbad => ⟨_, poolMarchEnd_exec hst' hbad, ?_⟩⟩
  · obtain ⟨h1, h2, h3⟩ := poolPassed_spec s c
    refine ⟨h1, h2.trans ?_, h3⟩
    unfold poolResult
    rw [Nat.zero_mul, Nat.add_zero]
  · exact poolDown_spec s c r

/-- Settles O11: a bank changes at its handover point only, by the write that has set out; a March test ends with its result, and its bank
is the only one whose bytes it leaves different. -/
theorem banks : Obligations.Banks := by
  unfold Obligations.Banks
  exact ⟨⟨banks_host, banks_dma⟩, banks_handover, banks_collision, banks_march, banks_pool⟩

end Sys2Proof.Proofs

/-! SUPPORT. A COPY whose source lies beyond every stack: the count of its corrected symbol is a partition's colour, which refutes O17. -/
namespace Sys2Proof.Machine
set_option Elab.async false

/-- No stack: its element of OD 0x8020 is partition 0's of OD 0x8061. -/
def strayStack : Nat := (0x8061 - 0x8020) * 256

/-- A COPY of the aperture's first sector to HBM address 0, under way. -/
def strayUnit : Flight := ⟨⟨0, 0⟩, 0, 0, leBytes 64 (2 + 64 * 2 ^ 344 + 0x280_0000_0000 * 2 ^ 448), 1, [], 1, false, none, 0, false⟩

/-- Partition 0 has no open epoch and its aperture's base in that stack; the first sector of HBM is protected. -/
def strayCopyUnit : State := State.odSet (State.odSetN (State.odSetN (State.odSetN { State.reset with
  disp := { State.reset.disp with flights := [strayUnit] }
  parts := [(0, { Part.blank with st := .live, regions := [(0, 2 ^ 60)] })] } 0x5810 1 (strayStack * stackSize)) 0x5840 1 0x10_0000)
  0x5841 1 1) 0x5830 1 (.blob (leBytes 8 0 ++ leBytes 8 64))

theorem logged_strayCopyUnit :
    ofNext 0 (fun t => t.rd 0x10_0050) (exec (.copyUnitDone 0 0 0 (.ok 1)) strayCopyUnit) = 1 := by decide +kernel

theorem plain_strayCopyUnit :
    (strayCopyUnit.put 0 (strayCopyUnit.rdRange 0 0x280_0000_0000 64)).rd 0x10_0050 = 0 := by decide +kernel

end Sys2Proof.Machine

namespace Sys2Proof.Proofs
open Sys2Proof.Machine
set_option Elab.async false

/-- Refutes O17: the aperture's base of a partition may lie beyond every stack, where the count of a corrected symbol is the colour of the
partition's epoch: the copy then logs a before-image, and memory is not as the data alone leave it (R199, R222). -/
theorem not_copiesAndCompletions : ¬ Obligations.CopiesAndCompletions := by
  unfold Obligations.CopiesAndCompletions
  rintro ⟨h, -⟩
  obtain ⟨-, -, h, -⟩ := h 0 0 0 strayCopyUnit strayUnit rfl (by decide +kernel) rfl (by decide) rfl (by decide)
  obtain ⟨t, ht, -, hm, -⟩ := h (by decide +kernel) (by decide +kernel) (by decide +kernel) (by decide +kernel) (by decide +kernel)
    (by decide +kernel) 1
  have h1 : t.rd 0x10_0050 = 1 := ofNext_eq ht logged_strayCopyUnit
  have hd : cpyDst (dNum strayUnit.bytes) + 4096 * 0 = 0 := by decide +kernel
  have hs : cpySrc (dNum strayUnit.bytes) + 4096 * 0 = 0x280_0000_0000 := by decide +kernel
  have hl : min 4096 (cpyLen (dNum strayUnit.bytes) - 4096 * 0) = 64 := by decide +kernel
  rw [hd, hs, hl] at hm
  have hr : t.rd 0x10_0050 = 0 := (congrArg (fun m => State.rd { t with mem := m } 0x10_0050) hm).trans plain_strayCopyUnit
  exact absurd (h1.symm.trans hr) (by decide)

end Sys2Proof.Proofs

/-! SUPPORT. A collective whose input lies beyond every stack: the count of its read is a partition's colour, which refutes O33. -/
namespace Sys2Proof.Machine
set_option Elab.async false

/-- No stack: the element of OD 0x8042 that counts its misses is partition 1's of OD 0x8061. -/
def strayRow : Nat := (0x8061 - 0x8042) * 128

/-- The root of a group of two members of partition 1, with its member's partial of a sum of two FP32 elements; its input is the aperture's
first sector and its result goes to HBM address 0. -/
def straySum : Coll := ⟨⟨64, 0⟩, 1, 0, 1, 4 + 2 * 2 ^ 365 + 0x280_0000_0000 * 2 ^ 441 + 2 ^ 500,
  [1, 0, 0, 1, 0, 1, 0, 0, 2] ++ List.replicate 7 0 ++ [232, 3, 0, 0, 255, 255, 15, 0, 64, 0, 48, 0] ++
    (List.replicate 9 [255, 255, 15, 0]).flatten ++ List.replicate 20 0,
  1, [], false, 0, 0, [], [(0, 8)], [], [], [], [], none, []⟩

/-- Partition 1 has no open epoch and its aperture's base in that stack; the first sector of HBM is protected. -/
def straySumming : State := State.odSet (State.odSetN (State.odSetN (State.odSetN { State.reset with
  colls := { State.reset.colls with run := [straySum] }
  parts := [(1, { Part.blank with st := .live, regions := [(0, 2 ^ 60)] })] } 0x5810 2 (strayRow * stackSize)) 0x5840 2 0x10_0000)
  0x5841 2 1) 0x5830 2 (.blob (leBytes 8 0 ++ leBytes 8 64))

/-- What the root writes of the sum. -/
def straySummed : List Byte := slice (straySum.form 0 (straySumming.rdRange 1 0x280_0000_0000 8) [straySumming.kidBytes straySum 0 0] true) 0 8

theorem length_straySummed : straySummed.length = 8 := by decide +kernel

theorem source_straySum : colSrc straySum.bits + straySum.at 0 = 0x280_0000_0000 := by decide +kernel
theorem length_straySum : straySum.elems 0 * (colW straySum.bits / 8) = 8 := by decide +kernel
theorem target_straySum : colDst straySum.bits = 0 := by decide +kernel
theorem part_straySum : straySum.dstPart 0 = (0, 8, 0) := by decide +kernel
theorem children_straySum : (gdChildren straySum.gd).length = 1 := by decide +kernel
theorem own_straySum : straySum.part = 1 := rfl

theorem logged_straySumming :
    ofNext 0 (fun t => t.rd 0x10_0050) (exec (.chunkCombined 1 0 none (.ok 0) (.ok 0)) straySumming) = 1 := by decide +kernel

theorem plain_straySumming : (straySumming.put 0 straySummed).rd 0x10_0050 = 0 := by decide +kernel

end Sys2Proof.Machine

namespace Sys2Proof.Proofs
open Sys2Proof.Machine
set_option Elab.async false

/-- Refutes O33: the aperture's base of a partition may lie beyond every stack, where the count of a read's miss is the colour of the
partition's epoch: the root's write then logs a before-image, and memory is not as the data alone leave it (R199, R304). -/
theorem not_collectives : ¬ Obligations.Collectives := by
  unfold Obligations.Collectives
  rintro ⟨-, h⟩
  obtain ⟨h, -⟩ := h 1 0 straySumming straySum (by decide +kernel) (by decide +kernel)
  have hs : colSrc straySum.bits + straySum.at ((0 : Fin 1048576) : Nat) = 0x280_0000_0000 := source_straySum
  have hl : straySum.elems ((0 : Fin 1048576) : Nat) * (colW straySum.bits / 8) = 8 := length_straySum
  have hp : straySum.dstPart ((0 : Fin 1048576) : Nat) = (0, 8, 0) := part_straySum
  have hb : slice (straySum.form ((0 : Fin 1048576) : Nat) (straySumming.rdRange 1 0x280_0000_0000 8)
      ((List.range 1).map (straySumming.kidBytes straySum ((0 : Fin 1048576) : Nat))) true) 0 (8 - 0) = straySummed := rfl
  simp only [hs, hl, hp, target_straySum, children_straySum, own_straySum, hb, length_straySummed, Nat.add_zero, Nat.sub_zero] at h
  obtain ⟨h, -⟩ := h (by decide +kernel) (by decide +kernel) rfl (fun _ => by decide +kernel) (by decide +kernel)
  obtain ⟨t, ht, hm⟩ := h (by decide +kernel) (fun he => by have := congrArg List.length he; rw [length_straySummed] at this; cases this)
    (by decide +kernel) (by decide +kernel)
  have h1 : t.rd 0x10_0050 = 1 := ofNext_eq ht logged_straySumming
  have hr : t.rd 0x10_0050 = 0 := (congrArg (fun m => State.rd { t with mem := m } 0x10_0050) hm).trans plain_straySumming
  exact absurd (h1.symm.trans hr) (by decide)

end Sys2Proof.Proofs

set_option Elab.async false
/-! SUPPORT. Flits: the header of a flit, and the five of a pair (R236, R239, R242). -/
namespace Sys2Proof.Machine

/-! ### A flit that is sent -/

/-- The header of a link's next flit, as a number (R239). -/
def Link.flitHead (l : Link) (b : Body) : Nat :=
  let v := l.flitSeq % 2 * 2
  b.typ * 2 ^ 92 + b.sop * 2 ^ 77 + b.eop * 2 ^ 62 + l.flitSeq % 4096 * 2 ^ 50 + v * 2 ^ 48 + tget 0 l.freed v % 2 ^ 20 * 2 ^ 28 +
    (v + 1) * 2 ^ 26 + tget 0 l.freed (v + 1) % 2 ^ 20 * 2 ^ 6

/-- A flit without its check. -/
def Link.flitBytes (l : Link) (b : Body) : List Byte := leBytes 12 (l.flitHead b) ++ padTo 240 b.bytes

theorem Link.flit_eq (l : Link) (b : Body) : l.flit b = l.flitBytes b ++ leBytes 4 (crc32c (l.flitBytes b)) := rfl

theorem Link.length_flitBytes (l : Link) (b : Body) : (l.flitBytes b).length = 252 := by
  unfold Link.flitBytes
  simp [length_padTo]

theorem Link.length_flit (l : Link) (b : Body) : (l.flit b).length = 256 := by
  simp [Link.flit_eq, Link.length_flitBytes]

theorem Link.take_flit (l : Link) (b : Body) : (l.flit b).take 252 = l.flitBytes b := by
  rw [Link.flit_eq, List.take_append_of_le_length (by rw [Link.length_flitBytes]), List.take_of_length_le (by rw [Link.length_flitBytes])]

theorem crcBits_lt (k : Nat) {c : Nat} (h : c < 2 ^ 32) : crcBits k c < 2 ^ 32 := by
  induction k generalizing c with
  | zero => exact h
  | succ k ih =>
    refine ih ?_
    split
    · exact Nat.xor_lt_two_pow (by omega) (by decide)
    · omega

theorem crc32c_lt (bs : List Byte) : crc32c bs < 2 ^ 32 := by
  have h (c : Nat) (hc : c < 2 ^ 32) : bs.foldl (fun c b => crcBits 8 (c ^^^ b.toNat)) c < 2 ^ 32 := by
    induction bs generalizing c with
    | nil => exact hc
    | cons b bs ih => exact ih _ (crcBits_lt 8 (Nat.xor_lt_two_pow hc (Nat.lt_trans b.isLt (by decide))))
  exact Nat.xor_lt_two_pow (h _ (by decide)) (by decide)

theorem Link.check_flit (l : Link) (b : Body) : fieldAt (l.flit b) 252 4 = crc32c ((l.flit b).take 252) := by
  rw [Link.take_flit, Link.flit_eq, fieldAt_append_right (by rw [Link.length_flitBytes]), Link.length_flitBytes, fieldAt_leBytes]
  exact Nat.mod_eq_of_lt (crc32c_lt _)

theorem Link.head_flit (l : Link) (b : Body) : leNat ((l.flit b).take 12) = l.flitHead b % 256 ^ 12 := by
  rw [← leNat_leBytes, Link.flit_eq, Link.flitBytes, List.append_assoc, List.take_append_of_le_length (by simp),
    List.take_of_length_le (by simp)]

theorem Link.slot_flit (l : Link) (b : Body) {k : Nat} (h : k ≤ b.bytes.length) (hb : b.bytes.length ≤ 240) :
    slice (l.flit b) 12 k = b.bytes.take k := by
  have hd : (l.flit b).drop 12 = padTo 240 b.bytes ++ leBytes 4 (crc32c (l.flitBytes b)) := by
    rw [Link.flit_eq, Link.flitBytes, List.append_assoc, List.drop_append, List.drop_of_length_le (by simp), length_leBytes]
    simp
  unfold slice
  rw [hd, List.take_append_of_le_length (by rw [length_padTo]; omega)]
  unfold padTo
  rw [List.take_take, Nat.min_eq_left (by omega), List.take_append_of_le_length h]

/-- A body without the start or the end of a packet: an idle or control flit. -/
def Body.Bare (b : Body) : Prop := b.typ ≤ 2 ∧ b.sop = 0 ∧ b.eop = 0

theorem Body.idle_bare : Body.idle.Bare := ⟨by decide, rfl, rfl⟩
theorem Body.control_bare (code : Nat) (bs : List Byte) : (Body.control code bs).Bare := ⟨Nat.le_refl 2, rfl, rfl⟩

/-- The bits of a field, between what stands above and what stands below it. -/
theorem bits_of_field {hi lo h x : Nat} (above below : Nat) (hh : h = (above * 2 ^ (hi + 1 - lo) + x) * 2 ^ lo + below)
    (hb : below < 2 ^ lo) (hx : x < 2 ^ (hi + 1 - lo)) : bits hi lo h = x := by
  rw [bits_eq_div_mod, hh, Nat.add_comm, Nat.add_mul_div_right _ _ (Nat.two_pow_pos _), Nat.div_eq_of_lt hb, Nat.zero_add, Nat.add_comm,
    Nat.add_mul_mod_self_right, Nat.mod_eq_of_lt hx]

/-- The bits of a header of fields that keep to their widths (R239). -/
theorem head_bits {h typ seq v f g : Nat} (ht : typ ≤ 2) (hs : seq < 2 ^ 12) (hv : v ≤ 2) (hf : f < 2 ^ 20) (hg : g < 2 ^ 20)
    (hh : h = typ * 2 ^ 92 + seq * 2 ^ 50 + v * 2 ^ 48 + f * 2 ^ 28 + (v + 1) * 2 ^ 26 + g * 2 ^ 6) :
    h < 256 ^ 12 ∧
    bits 95 92 h = typ ∧ bits 61 50 h = seq ∧ bits 49 48 h = v ∧ bits 47 28 h = f ∧ bits 27 26 h = v + 1 ∧ bits 25 6 h = g := by
  have hlt : h < 256 ^ 12 := by
    rw [hh]
    clear hh
    norm_num at *
    omega
  refine ⟨hlt,
    bits_of_field 0 (seq * 2 ^ 50 + v * 2 ^ 48 + f * 2 ^ 28 + (v + 1) * 2 ^ 26 + g * 2 ^ 6) (hh.trans ?_) ?_ ?_,
    bits_of_field (typ * 2 ^ 30) (v * 2 ^ 48 + f * 2 ^ 28 + (v + 1) * 2 ^ 26 + g * 2 ^ 6) (hh.trans ?_) ?_ hs,
    bits_of_field (typ * 2 ^ 42 + seq) (f * 2 ^ 28 + (v + 1) * 2 ^ 26 + g * 2 ^ 6) (hh.trans ?_) ?_ ?_,
    bits_of_field (typ * 2 ^ 44 + seq * 2 ^ 2 + v) ((v + 1) * 2 ^ 26 + g * 2 ^ 6) (hh.trans ?_) ?_ hf,
    bits_of_field (typ * 2 ^ 64 + seq * 2 ^ 22 + v * 2 ^ 20 + f) (g * 2 ^ 6) (hh.trans ?_) ?_ ?_,
    bits_of_field (typ * 2 ^ 66 + seq * 2 ^ 24 + v * 2 ^ 22 + f * 2 ^ 2 + (v + 1)) 0 (hh.trans ?_) ?_ hg⟩ <;>
  clear hh hlt <;> norm_num at * <;> omega

theorem Link.flitHead_bare (l : Link) {b : Body} (h : b.Bare) :
    let v := l.flitSeq % 2 * 2
    l.flitHead b = b.typ * 2 ^ 92 + l.flitSeq % 4096 * 2 ^ 50 + v * 2 ^ 48 + tget 0 l.freed v % 2 ^ 20 * 2 ^ 28 +
      (v + 1) * 2 ^ 26 + tget 0 l.freed (v + 1) % 2 ^ 20 * 2 ^ 6 := by
  obtain ⟨-, hs, he⟩ := h
  unfold Link.flitHead
  simp only [hs, he, Nat.zero_mul, Nat.add_zero]

theorem Link.bits_flit (l : Link) {b : Body} (h : b.Bare) :
    let x := leNat ((l.flit b).take 12)
    let v := l.flitSeq % 2 * 2
    bits 95 92 x = b.typ ∧ bits 61 50 x = l.flitSeq % 4096 ∧ bits 49 48 x = v ∧ bits 47 28 x = tget 0 l.freed v % 2 ^ 20 ∧
    bits 27 26 x = v + 1 ∧ bits 25 6 x = tget 0 l.freed (v + 1) % 2 ^ 20 := by
  obtain ⟨hlt, hb⟩ := head_bits (v := l.flitSeq % 2 * 2) h.1 (Nat.mod_lt l.flitSeq (by decide)) (by omega)
    (Nat.mod_lt (tget 0 l.freed (l.flitSeq % 2 * 2)) (by decide)) (Nat.mod_lt (tget 0 l.freed (l.flitSeq % 2 * 2 + 1)) (by decide))
    (l.flitHead_bare h)
  rw [Link.head_flit, Nat.mod_eq_of_lt hlt]
  exact hb

/-! ### The flits of a pair -/

/-- A link when `k` flits of a pair have been numbered. -/
def Link.numbered (l : Link) (k : Nat) : Link := { l with flitSeq := if k = 0 then l.flitSeq else (l.flitSeq + k) % 4096 }

/-- One more flit of a pair. -/
def Link.addFlit (a : Link × List (List Byte)) (b : Body) : Link × List (List Byte) :=
  ({ a.1 with flitSeq := (a.1.flitSeq + 1) % 4096 }, a.2 ++ [a.1.flit b])

theorem Link.numbered_succ (l : Link) (k : Nat) : { l.numbered k with flitSeq := ((l.numbered k).flitSeq + 1) % 4096 } = l.numbered (k + 1) := by
  unfold Link.numbered
  by_cases h : k = 0
  · simp [h]
  · simp [h, Nat.add_assoc]

theorem Link.foldl_addFlit (l : Link) (bs : List Body) (k : Nat) (acc : List (List Byte)) :
    bs.foldl Link.addFlit (l.numbered k, acc) = (l.numbered (k + bs.length), acc ++ bs.mapIdx (fun i b => (l.numbered (k + i)).flit b)) := by
  induction bs generalizing k acc with
  | nil => simp
  | cons b bs ih =>
    rw [List.foldl_cons, Link.addFlit, Link.numbered_succ, ih, List.mapIdx_cons]
    simp [Nat.add_comm, Nat.add_left_comm]

/-- The bodies of a pair: those given, and for the rest idle flits or the repair's request (R252). -/
def Link.filled (l : Link) (bs : List Body) : List Body :=
  bs ++ List.replicate (5 - bs.length) (match l.repair with
    | some r => Body.control r.code r.fields
    | none => Body.idle)

/-- The flits of the pair that carries the bodies. -/
def Link.pairFlits (l : Link) (bs : List Body) : List (List Byte) := (l.filled bs).mapIdx (fun i b => (l.numbered i).flit b)

theorem sendPair_eq (s : State) (n : Nat) (bs : List Body) :
    let l := s.link n
    s.sendPair n bs = (s.setLink n { l.numbered (l.filled bs).length with pairSeq := (l.pairSeq + 1) % 256 }).emit
      (.pair n ⟨l.pairSeq, l.txGen, l.txSpare, l.txHalf, l.pairFlits bs⟩) := by
  intro l
  have h := l.foldl_addFlit (l.filled bs) 0 []
  rw [List.nil_append, Nat.zero_add, show l.numbered 0 = l from rfl] at h
  simp only [Nat.zero_add] at h
  show (s.setLink n { ((l.filled bs).foldl Link.addFlit (l, [])).1 with pairSeq := (l.pairSeq + 1) % 256 }).emit
    (.pair n ⟨l.pairSeq, l.txGen, l.txSpare, l.txHalf, ((l.filled bs).foldl Link.addFlit (l, [])).2⟩) = _
  rw [h]
  rfl

/-- The pair that carries one control message: five sound flits in sequence, with the credits of the channels that each names. -/
theorem Link.pairFlits_control (l : Link) (code : Nat) (bs : List Byte) {i : Nat} (hi : i < 5) :
    let f := (l.pairFlits [Body.control code bs]).getD i []
    let h := leNat (f.take 12)
    let c := bits 49 48 h
    f.length = 256 ∧ fieldAt f 252 4 = crc32c (f.take 252) ∧ bits 61 50 h = (l.flitSeq + i) % 4096 ∧
    bits 27 26 h = c + 1 ∧ bits 47 28 h = tget 0 l.freed c % 2 ^ 20 ∧ bits 25 6 h = tget 0 l.freed (c + 1) % 2 ^ 20 := by
  have hlen : (l.filled [Body.control code bs]).length = 5 := rfl
  obtain ⟨b, hb, hbare⟩ : ∃ b, (l.filled [Body.control code bs])[i]? = some b ∧ b.Bare := by
    refine ⟨(l.filled [Body.control code bs])[i], List.getElem?_eq_getElem (by rw [hlen]; exact hi), ?_⟩
    have hm : (l.filled [Body.control code bs])[i] ∈ l.filled [Body.control code bs] := List.getElem_mem _
    unfold Link.filled at hm ⊢
    rcases List.mem_append.mp hm with h | h
    · rw [List.mem_singleton.mp h]
      exact Body.control_bare _ _
    · rw [(List.mem_replicate.mp h).2]
      split
      · exact Body.control_bare _ _
      · exact Body.idle_bare
  have hf : (l.pairFlits [Body.control code bs]).getD i [] = (l.numbered i).flit b := by
    unfold Link.pairFlits
    rw [List.getD_eq_getElem?_getD, List.getElem?_mapIdx, hb]
    rfl
  rw [hf]
  obtain ⟨-, hseq, hv, hf1, hv1, hg⟩ := (l.numbered i).bits_flit hbare
  have hs : (l.numbered i).flitSeq % 4096 = (l.flitSeq + i) % 4096 := by
    unfold Link.numbered
    by_cases h : i = 0 <;> simp [h]
  refine ⟨Link.length_flit _ _, Link.check_flit _ _, hseq.trans hs, ?_, ?_, ?_⟩
  · rw [hv1, hv]
  · rw [hf1, hv]; rfl
  · rw [hg, hv]; rfl

end Sys2Proof.Machine

set_option Elab.async false
/-! SUPPORT. What a received pair leaves of its link, and the credits (R238 to R243). -/
namespace Sys2Proof.Machine

/-! ### Credits -/

/-- The four counts that CREDIT_SYNC carries (R242). -/
def State.sentCounts (s : State) (n : Nat) : List Byte := (List.range 4).flatMap (fun vc => leBytes 4 (tget 0 (s.link n).sent vc))

theorem creditSyncSend_eq {s : State} {n : Fin 12} (h : s.linkUp n = true) :
    exec (.creditSyncSend n) s = .next (s.control n 0x01 (s.sentCounts n)) := if_pos h

theorem State.sentCounts_eq (s : State) (n : Nat) :
    s.sentCounts n = leBytes 4 (tget 0 (s.link n).sent 0) ++ leBytes 4 (tget 0 (s.link n).sent 1) ++ leBytes 4 (tget 0 (s.link n).sent 2) ++
      leBytes 4 (tget 0 (s.link n).sent 3) := rfl

/-- A control message goes out as it is, and in a pair of its own (R243). -/
theorem control_eq (s : State) (n code : Nat) (bs : List Byte) :
    let l := s.link n
    s.control n code bs = ((s.emit (.control n code bs)).setLink n { l.numbered 5 with pairSeq := (l.pairSeq + 1) % 256 }).emit
      (.pair n ⟨l.pairSeq, l.txGen, l.txSpare, l.txHalf, l.pairFlits [Body.control code bs]⟩) :=
  sendPair_eq (s.emit (.control n code bs)) n [Body.control code bs]

theorem control_only (s : State) (n code : Nat) (bs : List Byte) :
    s.control n code bs = { s with links := (s.control n code bs).links, out := (s.control n code bs).out } := by
  rw [control_eq]
  rfl

theorem link_control (s : State) (n code : Nat) (bs : List Byte) (m : Nat) :
    (s.control n code bs).link m = if m = n then { (s.link n).numbered 5 with pairSeq := ((s.link n).pairSeq + 1) % 256 } else s.link m := by
  rw [control_eq]
  exact State.link_setLink ..

theorem out_control (s : State) (n code : Nat) (bs : List Byte) :
    (s.control n code bs).out = s.out ++ [.control n code bs,
      .pair n ⟨(s.link n).pairSeq, (s.link n).txGen, (s.link n).txSpare, (s.link n).txHalf, (s.link n).pairFlits [Body.control code bs]⟩] := by
  rw [control_eq]
  exact List.append_assoc ..

theorem Link.length_pairFlits_control (l : Link) (code : Nat) (bs : List Byte) : (l.pairFlits [Body.control code bs]).length = 5 := by
  simp [Link.pairFlits, Link.filled]

theorem Link.head_pairFlits_control (l : Link) (code : Nat) (bs : List Byte) :
    (l.pairFlits [Body.control code bs]).getD 0 [] = l.flit (Body.control code bs) := by
  simp [Link.pairFlits, Link.filled, Link.numbered]

/-- A number of lost slots of one channel is received and freed (R242). -/
def Link.credited (l : Link) (vc lost : Nat) : Link :=
  { l with rcvd := tset 0 l.rcvd vc ((tget 0 l.rcvd vc + lost) % 2 ^ 20), freed := tset 0 l.freed vc ((tget 0 l.freed vc + lost) % 2 ^ 20) }

/-- The slots of a channel that a CREDIT_SYNC shows to be lost (R242). -/
def Link.lostSlots (l : Link) (m : List Byte) (vc : Nat) : Nat :=
  let part := if !l.asm.isEmpty && (pktOf l.asm).vc = vc then l.asm.length / 16 else 0
  (fieldAt m (1 + 4 * vc) 4 + 2 ^ 20 - (tget 0 l.rcvd vc + part) % 2 ^ 20) % 2 ^ 20

theorem Link.lostSlots_idle {l : Link} (h : l.asm = []) (m : List Byte) (vc : Nat) :
    l.lostSlots m vc = (fieldAt m (1 + 4 * vc) 4 + 2 ^ 20 - tget 0 l.rcvd vc % 2 ^ 20) % 2 ^ 20 := by
  unfold Link.lostSlots
  simp only [h, List.isEmpty_nil, Bool.not_true, Bool.false_and, Bool.false_eq_true, if_false, Nat.add_zero]

/-- A number of lost slots of one channel is received, freed and counted (R242). -/
def State.credited (s : State) (n vc lost : Nat) : State := (s.setLink n ((s.link n).credited vc lost)).odAdd 0x4026 (n + 1) lost

theorem credited_only (s : State) (n vc lost : Nat) : ∃ L O, s.credited n vc lost = { s with links := L, od := O } := ⟨_, _, rfl⟩

theorem link_credited (s : State) (n vc lost j : Nat) :
    (s.credited n vc lost).link j = if j = n then (s.link n).credited vc lost else s.link j := State.link_setLink ..

/-- The slots of one channel that were sent and not received are received and freed (R242). -/
def State.syncVc (n : Nat) (m : List Byte) (s : State) (vc : Nat) : State := s.credited n vc ((s.link n).lostSlots m vc)

theorem Link.credited_counts (l : Link) (vc lost : Nat) :
    l.credited vc lost = { l with rcvd := (l.credited vc lost).rcvd, freed := (l.credited vc lost).freed } ∧
    (∀ c, c ≠ vc → tget 0 (l.credited vc lost).rcvd c = tget 0 l.rcvd c ∧ tget 0 (l.credited vc lost).freed c = tget 0 l.freed c) ∧
    tget 0 (l.credited vc lost).rcvd vc = (tget 0 l.rcvd vc + lost) % 2 ^ 20 ∧
    tget 0 (l.credited vc lost).freed vc = (tget 0 l.freed vc + lost) % 2 ^ 20 :=
  ⟨rfl, fun _ h => ⟨tget_tset_other _ _ _ h, tget_tset_other _ _ _ h⟩, tget_tset_same .., tget_tset_same ..⟩

/-- The counts after the slots that were sent, `sent` in all, and not received are received and freed (R242). -/
theorem synced_counts {sent r f r' f' lost : Nat} (hl : lost = (sent + 2 ^ 20 - r % 2 ^ 20) % 2 ^ 20) (hr : r' = (r + lost) % 2 ^ 20)
    (hf : f' = (f + lost) % 2 ^ 20) : r' = sent % 2 ^ 20 ∧ (f' + r) % 2 ^ 20 = (f + r') % 2 ^ 20 := by
  norm_num at *
  omega

theorem creditSync_eq {s : State} {n : Fin 12} {m : List Byte} {rest : List (List Byte)} (h : s.Message n 1 m rest)
    (ha : (s.link n).asm = []) :
    exec (.creditSync n) s = .next ((List.range 4).foldl (State.syncVc n m) (s.setLink n { s.link n with ctl := rest })) := by
  show execCreditSync n s = _
  unfold execCreditSync
  rw [if_neg (by rw [ha]; decide), takeCtl_message h]
  rfl

/-- Only the counts of some channels of a link have come to a CREDIT_SYNC's (R242). -/
structure State.Synced (s t : State) (n : Nat) (m : List Byte) (vcs : List Nat) : Prop where
  only : t = { s with links := t.links, od := t.od }
  others : ∀ j, j ≠ n → t.link j = s.link j
  link : t.link n = { s.link n with rcvd := (t.link n).rcvd, freed := (t.link n).freed }
  same : ∀ vc, vc ∉ vcs → tget 0 (t.link n).rcvd vc = tget 0 (s.link n).rcvd vc ∧ tget 0 (t.link n).freed vc = tget 0 (s.link n).freed vc
  synced : ∀ vc, vc ∈ vcs → tget 0 (t.link n).rcvd vc = fieldAt m (1 + 4 * vc) 4 % 2 ^ 20 ∧
    (tget 0 (t.link n).freed vc + tget 0 (s.link n).rcvd vc) % 2 ^ 20 = (tget 0 (s.link n).freed vc + tget 0 (t.link n).rcvd vc) % 2 ^ 20

theorem State.Synced.refl (s : State) (n : Nat) (m : List Byte) : s.Synced s n m [] :=
  ⟨rfl, fun _ _ => rfl, rfl, fun _ _ => ⟨rfl, rfl⟩, fun _ h => nomatch h⟩

/-- One more channel, of a link that assembles no packet. -/
theorem State.Synced.syncVc {s t : State} {n : Nat} {m : List Byte} {vcs : List Nat} (h : s.Synced t n m vcs) {vc : Nat} (hv : vc ∉ vcs)
    (ha : (s.link n).asm = []) : s.Synced (t.syncVc n m vc) n m (vcs ++ [vc]) := by
  have hasm : (t.link n).asm = [] := by rw [h.link]; exact ha
  obtain ⟨hr, hf⟩ := h.same vc hv
  have hlost := Link.lostSlots_idle hasm m vc
  have hl : (t.syncVc n m vc).link n = (t.link n).credited vc ((t.link n).lostSlots m vc) := (link_credited ..).trans (if_pos rfl)
  obtain ⟨heq, hother, hrcvd, hfreed⟩ := (t.link n).credited_counts vc ((t.link n).lostSlots m vc)
  rw [hr] at hlost
  refine ⟨?_, fun j hj => ?_, ?_, fun c hc => ?_, fun c hc => ?_⟩
  · obtain ⟨L, O, e⟩ := credited_only t n vc ((t.link n).lostSlots m vc)
    rw [State.syncVc, e, h.only]
  · rw [State.syncVc, link_credited, if_neg hj, h.others j hj]
  · rw [hl, heq, h.link]
  · rw [List.mem_append, List.mem_singleton, not_or] at hc
    rw [hl, (hother c hc.2).1, (hother c hc.2).2]
    exact h.same c hc.1
  · rw [hl]
    rcases List.mem_append.mp hc with hc | hc
    · have hne : c ≠ vc := fun e => hv (e ▸ hc)
      rw [(hother c hne).1, (hother c hne).2]
      exact h.synced c hc
    · rw [List.mem_singleton.mp hc]
      rw [hr] at hrcvd
      rw [hf] at hfreed
      exact synced_counts hlost hrcvd hfreed

theorem synced_all {s : State} {n : Nat} (m : List Byte) (ha : (s.link n).asm = []) :
    s.Synced ((List.range 4).foldl (State.syncVc n m) s) n m [0, 1, 2, 3] :=
  ((((State.Synced.refl s n m).syncVc (vc := 0) (by decide) ha).syncVc (vc := 1) (by decide) ha).syncVc (vc := 2) (by decide) ha).syncVc
    (vc := 3) (by decide) ha

/-! ### The queue behind a link that holds nothing -/

theorem drainLink_idle {s : State} {n : Nat} (h : (s.link n).txq = []) :
    s.drainLink n = { s with links := (s.drainLink n).links } ∧ ∀ j, (s.drainLink n).link j = s.link j := by
  unfold State.drainLink
  split
  · exact ⟨rfl, fun _ => rfl⟩
  · have hb : dataBodies [] = [] := rfl
    simp only [h, List.foldl_nil, hb, List.length_nil, State.sendBodies]
    refine ⟨rfl, fun j => (link_updLink s n j _).trans ?_⟩
    split
    · next e => rw [e, ← h]
    · rfl

/-! ### Flits received -/

/-- A flit that a link takes: whole, with its check, of a known type, and no reserved message (R239, R240). -/
def Sound (f : List Byte) : Prop :=
  f.length = 256 ∧ fieldAt f 252 4 = crc32c (f.take 252) ∧ bits 95 92 (leNat (f.take 12)) ≤ 2 ∧
  (bits 95 92 (leNat (f.take 12)) = 2 → 1 ≤ fieldAt f 12 1 ∧ fieldAt f 12 1 ≤ 8)

/-- Only link `n`, but neither what it sends nor its state, and the counts of discarded flits and packets differ. -/
structure State.Hears (s t : State) (n : Nat) : Prop where
  only : t = { s with links := t.links, od := t.od }
  others : ∀ j, j ≠ n → t.link j = s.link j
  queue : (t.link n).txq = (s.link n).txq
  counts : ∀ i k, k < 256 → i ≠ 0x4023 → i ≠ 0x4416 → t.odGet i k = s.odGet i k

namespace State.Hears

theorem refl (s : State) (n : Nat) : s.Hears s n := ⟨rfl, fun _ _ => rfl, rfl, fun _ _ _ _ _ => rfl⟩

theorem trans {s t u : State} {n : Nat} (h : s.Hears t n) (g : t.Hears u n) : s.Hears u n :=
  ⟨by rw [g.only, h.only], fun j hj => (g.others j hj).trans (h.others j hj), g.queue.trans h.queue,
    fun i k hk h1 h2 => (g.counts i k hk h1 h2).trans (h.counts i k hk h1 h2)⟩

theorem setLink (s : State) (n : Nat) {l : Link} (h : l.txq = (s.link n).txq) : s.Hears (s.setLink n l) n :=
  ⟨rfl, fun j hj => (State.link_setLink ..).trans (if_neg hj), by rw [State.link_setLink_same, h], fun _ _ _ _ _ => rfl⟩

theorem odInc (s : State) (n : Nat) {i k : Nat} (hi : i = 0x4023 ∨ i = 0x4416) (hk : k < 256) : s.Hears (s.odInc i k) n :=
  ⟨rfl, fun _ _ => rfl, rfl, fun j m hm h1 h2 => odGet_odInc_other s (odKey_ne hk hm (fun e => by
    rcases hi with rfl | rfl
    · exact h1 e
    · exact h2 e))⟩

theorem foldl {α : Type} {f : State → α → State} {n : Nat} (h : ∀ (s : State) a, s.Hears (f s a) n) (l : List α) (s : State) :
    s.Hears (l.foldl f s) n := by
  induction l generalizing s with
  | nil => exact refl s n
  | cons a l ih => exact (h s a).trans (ih _)

theorem odNum {s t : State} {n : Nat} (h : s.Hears t n) {i k : Nat} (hk : k < 256) (h1 : i ≠ 0x4023) (h2 : i ≠ 0x4416) :
    t.odNum i k = s.odNum i k := by
  unfold State.odNum
  rw [h.counts i k hk h1 h2]

end State.Hears

theorem Link.enterResync_spec (l : Link) :
    l.enterResync.asm = [] ∧ l.enterResync.resync = true ∧ l.enterResync.txq = l.txq ∧ l.enterResync.ctl = l.ctl := by
  unfold Link.enterResync
  simp only
  split <;> exact ⟨rfl, rfl, rfl, rfl⟩

theorem Link.enterResync_idle {l : Link} (h : l.asm = []) : l.enterResync = { l with resync := true } := by
  unfold Link.enterResync
  simp only [h, List.length_nil, Nat.zero_div]
  rw [if_pos (by decide)]

/-- A link with one more flit discarded (R240, R241). -/
def Link.discarded (l : Link) : Link :=
  let l := { l with discards := l.discards + 1 }
  if l.discards % 64 = 0 then l.enterResync else l

theorem flitDiscard_eq (s : State) (n : Nat) : s.flitDiscard n = (s.odInc 0x4023 (n + 1)).setLink n (s.link n).discarded := rfl

theorem Link.discarded_spec (l : Link) : l.discarded.txq = l.txq ∧ l.discarded.ctl = l.ctl ∧
    (l.resync = true → l.asm = [] → l.discarded.resync = true ∧ l.discarded.asm = []) := by
  unfold Link.discarded
  simp only
  split
  · obtain ⟨ha, hr, hq, hc⟩ := Link.enterResync_spec { l with discards := l.discards + 1 }
    exact ⟨hq, hc, fun _ _ => ⟨hr, ha⟩⟩
  · exact ⟨rfl, rfl, fun hr ha => ⟨hr, ha⟩⟩

theorem flitDiscard_hears (s : State) {n : Nat} (hn : n < 12) : s.Hears (s.flitDiscard n) n :=
  (State.Hears.odInc s n (.inl rfl) (by omega)).trans (State.Hears.setLink _ n (Link.discarded_spec _).1)

theorem flitDiscard_counts (s : State) (n : Nat) : (s.flitDiscard n).odNum 0x4023 (n + 1) = (s.odNum 0x4023 (n + 1) + 1) % 2 ^ 64 :=
  odNum_odInc_same s (n + 1) (by decide)

/-- A link with one more slot of a packet in assembly, before the packet ends (R241). -/
def Link.slotIn (l : Link) (sop : Bool) (b : List Byte) : Link :=
  if sop then { l with asm := b, resync := false }
  else if l.resync || l.asm.isEmpty then l
  else { l with asm := l.asm ++ b }

theorem Link.slotIn_txq (l : Link) (sop : Bool) (b : List Byte) : (l.slotIn sop b).txq = l.txq := by
  unfold Link.slotIn
  split
  · rfl
  · split <;> rfl

theorem slot_hears (s : State) (n : Nat) (sop eop : Bool) (b : List Byte) : s.Hears (s.slot n sop eop b) n := by
  have hq := (s.link n).slotIn_txq sop b
  unfold State.slot
  simp only
  rw [← Link.slotIn]
  split
  · split
    · refine State.Hears.trans (State.Hears.setLink s n ?_) (State.Hears.odInc (i := 0x4416) (k := 4) _ n (.inr rfl) (by decide))
      exact hq
    · exact State.Hears.setLink s n hq
  · exact State.Hears.setLink s n hq

end Sys2Proof.Machine

set_option Elab.async false
/-! SUPPORT. The flits of a received pair, one after another (R236 to R243). -/
namespace Sys2Proof.Machine

/-- The number and the type of a flit (R239). -/
def flitNo (f : List Byte) : Nat := bits 61 50 (leNat (f.take 12))
def flitType (f : List Byte) : Nat := bits 95 92 (leNat (f.take 12))

/-! ### One flit -/

/-- A flit that is not sound is discarded (R240). -/
theorem flitIn_unsound {s : State} {n : Nat} {f : List Byte} (h : ¬ Sound f) : s.flitIn n f = s.flitDiscard n := by
  unfold State.flitIn
  refine if_pos ?_
  by_contra hc
  refine h ?_
  simp only [Bool.or_eq_true, Bool.and_eq_true, decide_eq_true_eq, not_or, ne_eq, not_not, gt_iff_lt, not_lt, not_and] at hc
  obtain ⟨⟨⟨hl, hk⟩, ht⟩, hm⟩ := hc
  refine ⟨hl, hk, ht, fun h2 => ?_⟩
  obtain ⟨h0, h8⟩ := hm h2
  omega

/-- The number of a flit does not follow that of the last one. -/
def Link.gap (l : Link) (f : List Byte) : Bool :=
  match l.lastSeq with
  | some q => decide (flitNo f ≠ (q + 1) % 4096)
  | none => false

/-- A link with a sound flit's number and credits (R239, R241, R242). -/
def Link.flitTaken (l : Link) (f : List Byte) : Link :=
  let h := leNat (f.take 12)
  let l := if l.gap f then l.enterResync else l
  { l with lastSeq := some (flitNo f), discards := 0,
           credit := tset 0 (tset 0 l.credit (bits 49 48 h) (bits 47 28 h)) (bits 27 26 h) (bits 25 6 h) }

/-- The slots of a data flit, taken one after another (R239). -/
def State.slotsIn (n : Nat) (f : List Byte) (s : State) : State :=
  (List.range 15).foldl (fun s j => s.slot n (bit (77 + j) (leNat (f.take 12))) (bit (62 + j) (leNat (f.take 12))) (slice f (12 + 16 * j) 16)) s

theorem flitIn_sound {s : State} {n : Nat} {f : List Byte} (h : Sound f) : s.flitIn n f =
    let l := (s.link n).flitTaken f
    if flitType f = 2 then (s.setLink n l).updLink n (fun l => { l with ctl := l.ctl ++ [slice f 12 240] })
    else if flitType f = 1 && l.repair.isNone && l.st.up then (s.setLink n l).slotsIn n f
    else s.setLink n l := by
  obtain ⟨hl, hk, ht, hm⟩ := h
  unfold State.flitIn
  refine if_neg ?_
  simp only [Bool.or_eq_true, Bool.and_eq_true, decide_eq_true_eq, not_or, ne_eq, not_not, gt_iff_lt, not_lt, not_and]
  exact ⟨⟨⟨hl, hk⟩, ht⟩, fun h2 => ⟨by have := hm h2; omega, (hm h2).2⟩⟩

theorem Link.flitTaken_txq (l : Link) (f : List Byte) : (l.flitTaken f).txq = l.txq := by
  unfold Link.flitTaken
  cases l.gap f
  · rfl
  · exact l.enterResync_spec.2.2.1

theorem slotsIn_hears (s : State) (n : Nat) (f : List Byte) : s.Hears (s.slotsIn n f) n :=
  State.Hears.foldl (fun s _ => slot_hears s n _ _ _) _ s

theorem flitIn_hears (s : State) {n : Nat} (hn : n < 12) (f : List Byte) : s.Hears (s.flitIn n f) n := by
  by_cases h : Sound f
  · have ht := State.Hears.setLink s n ((s.link n).flitTaken_txq f)
    rw [flitIn_sound h]
    simp only
    split
    · exact ht.trans (State.Hears.setLink _ n rfl)
    · split
      · exact ht.trans (slotsIn_hears _ n f)
      · exact ht
  · rw [flitIn_unsound h]
    exact flitDiscard_hears s hn

theorem slot_discards (s : State) (n : Nat) (sop eop : Bool) (b : List Byte) {k : Nat} (hk : k < 256) :
    (s.slot n sop eop b).odNum 0x4023 k = s.odNum 0x4023 k := by
  unfold State.slot
  simp only
  rw [← Link.slotIn]
  split
  · split
    · unfold State.odNum
      rw [odGet_odInc_other (i := 0x4416) (k := 4) _ (odKey_ne (by decide) hk (by decide))]
      rfl
    · rfl
  · rfl

theorem foldl_slot_discards (n : Nat) (h : Nat) (f : List Byte) {k : Nat} (hk : k < 256) (js : List Nat) (s : State) :
    (js.foldl (fun s j => s.slot n (bit (77 + j) h) (bit (62 + j) h) (slice f (12 + 16 * j) 16)) s).odNum 0x4023 k = s.odNum 0x4023 k := by
  induction js generalizing s with
  | nil => rfl
  | cons j js ih => exact (ih _).trans (slot_discards s n _ _ _ hk)

/-- A sound flit is not counted as discarded. -/
theorem flitIn_discards {s : State} {n : Nat} {f : List Byte} (h : Sound f) {k : Nat} (hk : k < 256) :
    (s.flitIn n f).odNum 0x4023 k = s.odNum 0x4023 k := by
  rw [flitIn_sound h]
  simp only
  split
  · rfl
  · split
    · exact foldl_slot_discards n _ f hk _ _
    · rfl

/-- A sound idle or control flit that follows the last one: its message is delivered, and its credits are returned (R239, R242, R243). -/
theorem flitIn_follows {s : State} {n : Nat} {f : List Byte} (h : Sound f) (h1 : flitType f ≠ 1) (hg : (s.link n).gap f = false) :
    let x := leNat (f.take 12)
    (s.flitIn n f).link n = { s.link n with
      lastSeq := some (flitNo f), discards := 0,
      ctl := (s.link n).ctl ++ if flitType f = 2 then [slice f 12 240] else [],
      credit := tset 0 (tset 0 (s.link n).credit (bits 49 48 x) (bits 47 28 x)) (bits 27 26 x) (bits 25 6 x) } := by
  have ht : (s.link n).flitTaken f = { s.link n with
      lastSeq := some (flitNo f), discards := 0,
      credit := tset 0 (tset 0 (s.link n).credit (bits 49 48 (leNat (f.take 12))) (bits 47 28 (leNat (f.take 12))))
        (bits 27 26 (leNat (f.take 12))) (bits 25 6 (leNat (f.take 12))) } := by
    unfold Link.flitTaken
    rw [hg]
    rfl
  rw [flitIn_sound h, ht]
  by_cases h2 : flitType f = 2
  · simp only [h2, if_true]
    rw [link_updLink, if_pos rfl, State.link_setLink_same]
  · simp only [h2, h1, decide_false, Bool.false_and, Bool.false_eq_true, if_false, List.append_nil]
    exact State.link_setLink_same ..

/-! ### The flits of a pair -/

/-- What a link does with a flit of a pair: one that is lost is discarded (R240). -/
def State.flitOn (n : Nat) (s : State) (o : Option (List Byte)) : State :=
  match o with
  | some f => s.flitIn n f
  | none => s.flitDiscard n

theorem flitOn_hears (s : State) {n : Nat} (hn : n < 12) (o : Option (List Byte)) : s.Hears (s.flitOn n o) n := by
  cases o with
  | none => exact flitDiscard_hears s hn
  | some f => exact flitIn_hears s hn f

theorem foldl_flitOn_sound {n : Nat} {k : Nat} (hk : k < 256) (os : List (Option (List Byte))) (h : ∀ o ∈ os, ∃ f, o = some f ∧ Sound f)
    (s : State) : (os.foldl (State.flitOn n) s).odNum 0x4023 k = s.odNum 0x4023 k := by
  induction os generalizing s with
  | nil => rfl
  | cons o os ih =>
    obtain ⟨f, rfl, hf⟩ := h o List.mem_cons_self
    exact (ih (fun o ho => h o (List.mem_cons_of_mem _ ho)) _).trans (flitIn_discards hf hk)

theorem flitOn_unsound {s : State} {n : Nat} {o : Option (List Byte)} (h : ∀ f, o = some f → ¬ Sound f) : s.flitOn n o = s.flitDiscard n := by
  cases o with
  | none => rfl
  | some f => exact flitIn_unsound (h f rfl)

theorem foldl_flitOn_unsound {n : Nat} (os : List (Option (List Byte))) (h : ∀ o ∈ os, ∀ f, o = some f → ¬ Sound f) (s : State)
    (hs : s.odNum 0x4023 (n + 1) < 2 ^ 64) :
    (os.foldl (State.flitOn n) s).odNum 0x4023 (n + 1) = (s.odNum 0x4023 (n + 1) + os.length) % 2 ^ 64 := by
  induction os generalizing s with
  | nil => exact (Nat.mod_eq_of_lt hs).symm
  | cons o os ih =>
    have hc := flitDiscard_counts s n
    rw [List.foldl_cons, flitOn_unsound (h o List.mem_cons_self),
      ih (fun o ho => h o (List.mem_cons_of_mem _ ho)) _ (by rw [hc]; exact Nat.mod_lt _ (by decide)), hc, Nat.mod_add_mod, List.length_cons,
      Nat.add_assoc, Nat.add_comm 1]

theorem foldl_flitOn_unsound_cons {n : Nat} (o : Option (List Byte)) (os : List (Option (List Byte)))
    (h : ∀ p ∈ o :: os, ∀ f, p = some f → ¬ Sound f) (s : State) :
    ((o :: os).foldl (State.flitOn n) s).odNum 0x4023 (n + 1) = (s.odNum 0x4023 (n + 1) + (os.length + 1)) % 2 ^ 64 := by
  have hc := flitDiscard_counts s n
  rw [List.foldl_cons, flitOn_unsound (h o List.mem_cons_self), foldl_flitOn_unsound os (fun p hp => h p (List.mem_cons_of_mem _ hp)) _
    (by rw [hc]; exact Nat.mod_lt _ (by decide)), hc, Nat.mod_add_mod, Nat.add_assoc, Nat.add_comm 1]

/-- Lost flits leave a link that is in resync there, and deliver nothing (R240, R241). -/
theorem foldl_flitOn_lost {n : Nat} (os : List (Option (List Byte))) (h : ∀ o ∈ os, o = none) (s : State)
    (hr : (s.link n).resync = true) (ha : (s.link n).asm = []) :
    let t := os.foldl (State.flitOn n) s
    (t.link n).resync = true ∧ (t.link n).asm = [] ∧ (t.link n).ctl = (s.link n).ctl := by
  induction os generalizing s with
  | nil => exact ⟨hr, ha, rfl⟩
  | cons o os ih =>
    obtain rfl := h o List.mem_cons_self
    have hl : (s.flitDiscard n).link n = (s.link n).discarded := State.link_setLink_same ..
    obtain ⟨-, hc, hd⟩ := (s.link n).discarded_spec
    obtain ⟨hr', ha'⟩ := hd hr ha
    obtain ⟨h1, h2, h3⟩ := ih (fun o ho => h o (List.mem_cons_of_mem _ ho)) (s.flitDiscard n) (by rw [hl]; exact hr') (by rw [hl]; exact ha')
    exact ⟨h1, h2, h3.trans (by rw [hl]; exact hc)⟩

/-- The flits follow each other in number, modulo 4,096 (R239). -/
def InSequence : List (List Byte) → Prop
  | f :: g :: fs => flitNo g = (flitNo f + 1) % 4096 ∧ InSequence (g :: fs)
  | _ => True

/-- The messages that control flits carry (R243). -/
def flitMessages (fs : List (List Byte)) : List (List Byte) := (fs.filter (fun f => flitType f == 2)).map (fun f => slice f 12 240)

theorem flitMessages_cons (f : List Byte) (fs : List (List Byte)) :
    flitMessages (f :: fs) = (if flitType f = 2 then [slice f 12 240] else []) ++ flitMessages fs := by
  unfold flitMessages
  by_cases h : flitType f = 2 <;> simp [h]

/-- Sound idle and control flits in sequence deliver their messages in order and return their credits (R239 to R243). -/
theorem foldl_flitIn_follow {n : Nat} (f : List Byte) (fs : List (List Byte)) (hs : ∀ g ∈ f :: fs, Sound g ∧ flitType g ≠ 1)
    (hq : InSequence (f :: fs)) (s : State) (hg : (s.link n).gap f = false) :
    let t := (f :: fs).foldl (fun s f => s.flitIn n f) s
    let last := (f :: fs).getLastD []
    (t.link n).ctl = (s.link n).ctl ++ flitMessages (f :: fs) ∧
    (t.link n).lastSeq = some (flitNo last) ∧ (t.link n).discards = 0 ∧ (t.link n).rx = (s.link n).rx ∧
    (t.link n).asm = (s.link n).asm ∧ tget 0 (t.link n).credit (bits 27 26 (leNat (last.take 12))) = bits 25 6 (leNat (last.take 12)) := by
  induction fs generalizing f s with
  | nil =>
    obtain ⟨hf, h1⟩ := hs f List.mem_cons_self
    simp only [List.foldl_cons, List.foldl_nil, flitIn_follows hf h1 hg, flitMessages_cons]
    exact ⟨congrArg _ (List.append_nil _).symm, rfl, trivial, trivial, trivial, tget_tset_same ..⟩
  | cons g fs ih =>
    obtain ⟨hf, h1⟩ := hs f List.mem_cons_self
    have hl := flitIn_follows hf h1 hg
    have hgap : ((s.flitIn n f).link n).gap g = false := by
      unfold Link.gap
      rw [hl]
      exact decide_eq_false (not_not_intro hq.1)
    obtain ⟨hctl, hseq, hd, hrx, hasm, hcr⟩ := ih g (fun x hx => hs x (List.mem_cons_of_mem _ hx)) hq.2 (s.flitIn n f) hgap
    refine ⟨hctl.trans ?_, hseq, hd, hrx.trans (by rw [hl]), hasm.trans (by rw [hl]), hcr⟩
    rw [hl, flitMessages_cons f, List.append_assoc]

/-- CREDIT_SYNC brings the counts of all four channels to the partner's (R242). -/
theorem creditSync_synced {s : State} {n : Fin 12} {m : List Byte} {rest : List (List Byte)} (h : s.Message n 1 m rest)
    (ha : (s.link n).asm = []) :
    Answers (.creditSync n) s fun t => (s.setLink n { s.link n with ctl := rest }).Synced t n m [0, 1, 2, 3] :=
  ⟨_, creditSync_eq h ha, synced_all m (by rw [State.link_setLink_same]; exact ha)⟩

/-! ### A received pair -/

/-- A link with the errors of a pair counted; one that has lost a codeword is in resync (R238, R250). -/
def Link.pairCounted (l : Link) (x : PairSeen) : Link :=
  let lost := b2n x.a.isNone + b2n x.b.isNone
  let l := { l with errs := x.errs.foldl (fun t e => tset 0 t e.1 (tget 0 t e.1 + e.2)) l.errs, bad := l.bad + lost }
  if lost = 0 then l else l.enterResync

/-- The corrections and the lost codewords of a pair are counted (R238). -/
def State.pairCounted (s : State) (n : Nat) (x : PairSeen) : State :=
  ((s.odAdd 0x4021 (n + 1) x.corrected).odAdd 0x4022 (n + 1) (b2n x.a.isNone + b2n x.b.isNone)).setLink n ((s.link n).pairCounted x)

/-- The pair that a link sees in what its lanes bring (R234, R236). -/
def Link.pairOn (l : Link) (lanes : List (List Nat)) : PairSeen := pairSeen l.rxSpare l.rxHalf (l.inOrder lanes)

theorem flitReceive_eq {s : State} {n : Fin 12} (lanes : List (List Nat)) (h : (s.link n).st.up = true) :
    exec (.flitReceive n lanes) s = .next (((((s.link n).pairOn lanes).flits.foldl (State.flitOn n)
      (s.pairCounted n ((s.link n).pairOn lanes))).drainLink n).retryHeld) := by
  have h9 : ((s.link n).st == .loopback) = false := beq_eq_false_iff_ne.mpr (fun e => by rw [e] at h; cases h)
  show execFlitReceive n lanes s = _
  unfold execFlitReceive
  simp only [h9, h, Bool.false_eq_true, if_false, Bool.true_or, Bool.not_true]
  rfl

theorem link_pairCounted (s : State) (n : Nat) (x : PairSeen) (j : Nat) :
    (s.pairCounted n x).link j = if j = n then (s.link n).pairCounted x else s.link j := State.link_setLink ..

theorem Link.pairCounted_spec (l : Link) (x : PairSeen) :
    (l.pairCounted x).txq = l.txq ∧ (l.pairCounted x).ctl = l.ctl ∧
    (x.a = none → (l.pairCounted x).resync = true ∧ (l.pairCounted x).asm = []) ∧
    (x.a ≠ none → x.b ≠ none → l.pairCounted x = { l with errs := (l.pairCounted x).errs, bad := (l.pairCounted x).bad }) := by
  unfold Link.pairCounted
  simp only
  split
  · next h0 =>
    refine ⟨rfl, rfl, fun ha => ?_, fun _ _ => rfl⟩
    rw [ha] at h0
    exact absurd h0 (by simp [b2n])
  · next h0 =>
    obtain ⟨ha, hr, hq, hc⟩ := Link.enterResync_spec { l with
      errs := x.errs.foldl (fun t e => tset 0 t e.1 (tget 0 t e.1 + e.2)) l.errs, bad := l.bad + (b2n x.a.isNone + b2n x.b.isNone) }
    refine ⟨hq, hc, fun _ => ⟨hr, ha⟩, fun h1 h2 => absurd ?_ h0⟩
    simp [b2n, h1, h2]

theorem pairCounted_counts (s : State) {n : Nat} (hn : n < 12) (x : PairSeen) :
    (s.pairCounted n x).odNum 0x4021 (n + 1) = (s.odNum 0x4021 (n + 1) + x.corrected) % 2 ^ 64 ∧
    (s.pairCounted n x).odNum 0x4022 (n + 1) = (s.odNum 0x4022 (n + 1) + (b2n x.a.isNone + b2n x.b.isNone)) % 2 ^ 64 ∧
    (s.pairCounted n x).odNum 0x4023 (n + 1) = s.odNum 0x4023 (n + 1) := by
  have hn : n + 1 < 256 := by omega
  refine ⟨?_, ?_, ?_⟩
  · rw [← odNum_odAdd_same s (n + 1) x.corrected (by decide)]
    exact congrArg _ (odGet_odAdd_other _ _ (odKey_ne hn hn (by decide)))
  · have h := odNum_odAdd_same (s.odAdd 0x4021 (n + 1) x.corrected) (i := 0x4022) (n + 1) (b2n x.a.isNone + b2n x.b.isNone) (by decide)
    refine h.trans ?_
    congr 2
    exact congrArg _ (odGet_odAdd_other _ _ (odKey_ne hn hn (by decide)))
  · show ((s.odAdd 0x4021 (n + 1) x.corrected).odAdd 0x4022 (n + 1) (b2n x.a.isNone + b2n x.b.isNone)).odNum 0x4023 (n + 1) = _
    unfold State.odNum
    rw [odGet_odAdd_other _ _ (odKey_ne hn hn (by decide)), odGet_odAdd_other _ _ (odKey_ne hn hn (by decide))]

theorem pairCounted_only (s : State) (n : Nat) (x : PairSeen) : ∃ L O, s.pairCounted n x = { s with links := L, od := O } := ⟨_, _, rfl⟩

/-- When the flits of a pair have been taken, by a link with nothing queued and no request held back, nothing more happens (R241). -/
theorem drained_pair {s t : State} {n : Nat} (h : s.Hears t n) (hq : (s.link n).txq = []) (hh : s.fabric.held = []) :
    ∃ L, (t.drainLink n).retryHeld = { t with links := L } ∧ ∀ j, ((t.drainLink n).retryHeld).link j = t.link j := by
  obtain ⟨hd, hl⟩ := drainLink_idle (h.queue.trans hq)
  have hf : (t.drainLink n).fabric.held = [] := by rw [hd, h.only]; exact hh
  rw [retryHeld_none hf]
  exact ⟨_, hd, hl⟩

/-- The flits of a pair of which both codewords are lost. -/
theorem flits_lost {x : PairSeen} (ha : x.a = none) (hb : x.b = none) : ∀ o ∈ x.flits, o = none := by
  unfold PairSeen.flits
  rw [ha, hb]
  simp

theorem flits_whole {x : PairSeen} {fs : List (List Byte)} (h : x.flits = fs.map some) : x.a ≠ none ∧ x.b ≠ none := by
  have hm : ∀ o ∈ x.flits, o ≠ none := by
    rw [h]
    simp
  constructor
  · intro ha
    exact hm ((x.a.map codeBytes).map (slice · 0 256)) (by simp [PairSeen.flits]) (by rw [ha]; rfl)
  · intro hb
    exact hm ((x.b.map codeBytes).map (slice · 128 256)) (by simp [PairSeen.flits]) (by rw [hb]; rfl)

theorem foldl_flitOn_some (n : Nat) (fs : List (List Byte)) (s : State) :
    (fs.map some).foldl (State.flitOn n) s = fs.foldl (fun s f => s.flitIn n f) s := by
  rw [List.foldl_map]
  rfl

theorem five_of_length {α : Type} {l : List α} (h : l.length = 5) : ∃ a b c d e, l = [a, b, c, d, e] :=
  match l, h with
  | [a, b, c, d, e], _ => ⟨a, b, c, d, e, rfl⟩

/-- The first flit of a pair follows the last one received, or is the first (R240). -/
theorem Link.gap_first {l : Link} {f : List Byte} (h : l.lastSeq = none ∨ l.lastSeq = some ((flitNo f + 4095) % 4096)) :
    l.gap f = false := by
  have hlt : flitNo f < 4096 := by
    unfold flitNo
    rw [bits_eq_div_mod]
    exact Nat.mod_lt _ (by decide)
  unfold Link.gap
  rcases h with h | h <;> rw [h]
  exact decide_eq_false (not_not_intro (by omega))

/-- What a pair leaves: the flits taken one after another, after the counts, by a link with nothing queued (R236 to R243). -/
structure State.PairTaken (s t : State) (n : Nat) (x : PairSeen) : Prop where
  hears : (s.pairCounted n x).Hears (x.flits.foldl (State.flitOn n) (s.pairCounted n x)) n
  rest : ∃ L, t = { x.flits.foldl (State.flitOn n) (s.pairCounted n x) with links := L }
  link : ∀ j, t.link j = (x.flits.foldl (State.flitOn n) (s.pairCounted n x)).link j

theorem flitReceive_taken {s : State} {n : Fin 12} (lanes : List (List Nat)) (h : (s.link n).st.up = true) (hh : s.fabric.held = [])
    (hq : (s.link n).txq = []) : Answers (.flitReceive n lanes) s fun t => s.PairTaken t n ((s.link n).pairOn lanes) := by
  have hl : (s.pairCounted n ((s.link n).pairOn lanes)).link n = (s.link n).pairCounted ((s.link n).pairOn lanes) :=
    (link_pairCounted ..).trans (if_pos rfl)
  have hk : (s.pairCounted n ((s.link n).pairOn lanes)).Hears
      (((s.link n).pairOn lanes).flits.foldl (State.flitOn n) (s.pairCounted n ((s.link n).pairOn lanes))) n :=
    State.Hears.foldl (fun s o => flitOn_hears s n.isLt o) _ _
  obtain ⟨L, hL, hj⟩ := drained_pair hk (by rw [hl, ((s.link n).pairCounted_spec _).1]; exact hq) hh
  exact ⟨_, flitReceive_eq lanes h, hk, ⟨L, hL⟩, hj⟩

namespace State.PairTaken

theorem odNum {s t : State} {n : Nat} {x : PairSeen} (h : s.PairTaken t n x) (i k : Nat) :
    t.odNum i k = (x.flits.foldl (State.flitOn n) (s.pairCounted n x)).odNum i k := by
  obtain ⟨L, e⟩ := h.rest
  rw [e]
  rfl

theorem leaves {s t : State} {n : Nat} {x : PairSeen} (h : s.PairTaken t n x) :
    t.cores = s.cores ∧ t.mem = s.mem ∧ ∀ j, j ≠ n → t.link j = s.link j := by
  obtain ⟨L, e⟩ := h.rest
  obtain ⟨L', O, e'⟩ := pairCounted_only s n x
  refine ⟨?_, ?_, fun j hj => ?_⟩
  · rw [e, h.hears.only, e']
  · rw [e, h.hears.only, e']
  · rw [h.link, h.hears.others j hj, link_pairCounted, if_neg hj]

end State.PairTaken

end Sys2Proof.Machine

namespace Sys2Proof.Proofs
open Sys2Proof.Machine

/-- Settles O28: a sound flit is no discard and every other one is, so the counts follow from the five flits of a pair; sound idle and
control flits in sequence meet no gap. CREDIT_SYNC's lost slots bring the received count to the sent one and the freed count along. -/
theorem flitsAndCredits : Obligations.FlitsAndCredits := by
  unfold Obligations.FlitsAndCredits
  refine ⟨fun n lanes s => ?_, fun n s => ⟨fun m rest hm ha => ?_, fun hup => ?_⟩⟩
  · intro l x head typ seq code sound none' hup hh hq
    obtain ⟨t, ht, hp⟩ := flitReceive_taken lanes hup hh hq
    have hp : s.PairTaken t n x := hp
    have hn : n.val + 1 < 256 := by omega
    obtain ⟨h21, h22, h23⟩ := pairCounted_counts s n.isLt x
    have hl : (s.pairCounted n x).link n = l.pairCounted x := (link_pairCounted ..).trans (if_pos rfl)
    obtain ⟨-, hctl, hlost, hwhole⟩ := l.pairCounted_spec x
    refine ⟨⟨t, ht, ?_, ?_, hp.leaves.1, hp.leaves.2.1, hp.leaves.2.2, fun hs => ?_, fun hs => ?_, fun ha hb => ?_⟩, ?_⟩
    · rw [hp.odNum, hp.hears.odNum hn (by decide) (by decide), h21]
    · rw [hp.odNum, hp.hears.odNum hn (by decide) (by decide), h22]
      cases hxa : x.a <;> cases hxb : x.b <;> simp [none', b2n, Nat.add_assoc]
    · rw [hp.odNum, foldl_flitOn_sound hn _ hs, h23]
    · rw [hp.odNum, ← h23]
      exact foldl_flitOn_unsound_cons _ _ hs _
    · obtain ⟨hr, ha'⟩ := hlost ha
      obtain ⟨h1, h2, h3⟩ := foldl_flitOn_lost (n := n) x.flits (flits_lost ha hb) (s.pairCounted n x) (by rw [hl]; exact hr)
        (by rw [hl]; exact ha')
      rw [hp.link]
      exact ⟨h1, h2, h3.trans (by rw [hl]; exact hctl)⟩
    · intro fs hfs hsound q hfirst hseq
      obtain ⟨ha, hb⟩ := flits_whole hfs
      have hw := hwhole ha hb
      have hlen : fs.length = 5 := by rw [← List.length_map (f := some), ← hfs]; rfl
      obtain ⟨a, b, c, d, e, rfl⟩ := five_of_length hlen
      have hgap : ((s.pairCounted n x).link n).gap a = false := by
        rw [hl, hw]
        exact Link.gap_first hfirst
      have h := foldl_flitIn_follow (n := n) a [b, c, d, e] hsound ⟨hseq 0 (by decide), hseq 1 (by decide), hseq 2 (by decide), hseq 3 (by decide),
        trivial⟩ (s.pairCounted n x) hgap
      dsimp only at h
      rw [← foldl_flitOn_some, ← hfs, ← hp.link, hl, hw] at h
      exact ⟨t, ht, h⟩
  · obtain ⟨t, ht, h⟩ := creditSync_synced hm ha
    have hl : (s.setLink n { s.link n with ctl := rest }).link n = { s.link n with ctl := rest } := State.link_setLink_same ..
    refine ⟨t, ht, h.only, fun j hj => (h.others j hj).trans ((State.link_setLink ..).trans (if_neg hj)), ?_, fun vc hvc => ?_⟩
    · have e := h.link
      rw [hl] at e
      exact e
    · have hc := h.synced vc (by interval_cases vc <;> simp)
      rw [hl] at hc
      exact hc
  · refine ⟨_, creditSyncSend_eq hup, control_only _ _ _ _, ?_, ?_, ?_⟩
    · rw [out_control]
      exact List.mem_append_right _ List.mem_cons_self
    · rw [link_control, if_pos rfl]
      rfl
    · rw [out_control, List.getLast?_append_of_ne_nil _ (by simp)]
      have h0 := (s.link n).head_pairFlits_control 0x01 (s.sentCounts n)
      refine ⟨rfl, rfl, rfl, rfl, rfl, Link.length_pairFlits_control _ _ _, ?_, ?_, fun i hi => Link.pairFlits_control _ _ _ hi⟩
      · show slice (((s.link n).pairFlits [Body.control 0x01 (s.sentCounts n)]).getD 0 []) 12 17 = _
        rw [h0, Link.slot_flit _ _ (by simp [Body.control, State.sentCounts_eq]) (by simp [Body.control, State.sentCounts_eq])]
        exact List.take_of_length_le (by simp [Body.control, State.sentCounts_eq])
      · show bits 95 92 (leNat ((((s.link n).pairFlits [Body.control 0x01 (s.sentCounts n)]).getD 0 []).take 12)) = 2
        rw [h0]
        exact (Link.bits_flit _ (Body.control_bare _ _)).1

end Sys2Proof.Proofs

set_option Elab.async false
/-! SUPPORT. What a change of one link leaves alone: the other links, cores, memory, what has been put out, and most of the dictionary. -/
namespace Sys2Proof.Machine

/-! ### Reports take nothing out of the output -/

/-- What has been put out stays, and more may follow. -/
def State.Grows (s t : State) : Prop := s.out <+: t.out

namespace State.Grows

theorem refl (s : State) : s.Grows s := List.prefix_refl _
theorem trans {s t u : State} (h : s.Grows t) (g : t.Grows u) : s.Grows u := List.IsPrefix.trans h g
theorem of_out {s t : State} (h : t.out = s.out) : s.Grows t := by unfold State.Grows; rw [h]
theorem of_eq {s t u : State} (h : u.Grows t) (e : u.out = s.out) : s.Grows t := by unfold State.Grows; rw [← e]; exact h
theorem emit (s : State) (o : Out) : s.Grows (s.emit o) := List.prefix_append ..

theorem foldl {α : Type} {f : State → α → State} (h : ∀ (s : State) a, s.Grows (f s a)) (l : List α) (s : State) : s.Grows (l.foldl f s) := by
  induction l generalizing s with
  | nil => exact refl s
  | cons a l ih => exact (h s a).trans (ih _)

end State.Grows

theorem odApply_out (s : State) (i k : Nat) : (s.odApply i k).out = s.out := by rw [odApply_od]

theorem msix_grows (s : State) (k vec : Nat) : s.Grows (s.msix k vec) := by
  unfold State.msix
  split
  · exact .emit s _
  · exact .of_out rfl

theorem fnEvent_grows (s : State) (k b : Nat) : s.Grows (s.fnEvent k b) := by
  unfold State.fnEvent
  split
  · exact .refl s
  · exact State.Grows.trans (t := s.setFn _ _) (.of_out rfl) (msix_grows _ _ _)

theorem landed_grows (s : State) (ev i : Nat) : s.Grows (s.landed ev i) := by
  unfold State.landed
  split
  · exact msix_grows s _ _
  · split
    · exact fnEvent_grows s _ _
    · exact .refl s

theorem pulse_grows (s : State) (ev i : Nat) : s.Grows (s.pulse ev i) := by
  unfold State.pulse
  simp only []
  split
  · exact (landed_grows _ _ _).of_eq rfl
  · split
    · exact .of_out rfl
    · exact .of_out rfl

theorem lilac_grows (s : State) (kind code src addr data : Nat) (part : Option Nat) : s.Grows (s.lilac kind code src addr data part) := by
  unfold State.lilac
  simp only []
  split
  · exact (pulse_grows _ _ _).of_eq (odApply_out s _ _)
  · exact .of_out (odApply_out s _ _)

theorem mbxPut_grows (s : State) (m : List Byte) : s.Grows (s.mbxPut m) := by
  unfold State.mbxPut
  simp only []
  split
  · exact (pulse_grows _ _ _).of_eq rfl
  · exact .of_out rfl

theorem sendTo_grows (s : State) (door : Door) (src : Nat) (m : List Byte) : s.Grows (s.sendTo door src m) := by
  cases door with
  | m => exact .emit s _
  | h => exact mbxPut_grows s m

theorem deliverOne_grows (s : State) (x : Session) : s.Grows (s.deliverOne x) := by
  unfold State.deliverOne
  split
  · exact State.Grows.trans (State.Grows.foldl (fun s _ => sendTo_grows s x.door x.src _) _ s) (.of_out rfl)
  · exact .refl s

theorem raise_grows (s : State) (code idx sub detail : Nat) : s.Grows (s.raise code idx sub detail) := by
  unfold State.raise
  simp only []
  refine State.Grows.of_eq (State.Grows.foldl deliverOne_grows _ _) ?_
  split <;> rfl

theorem enter_grows {s : State} (v : Svc) (h : s.life.svc ≠ .grey) : s.Grows (s.enter v false) := by
  unfold State.enter
  split
  · exact .refl s
  simp only [h, if_false, Bool.false_eq_true]
  refine State.Grows.trans (State.Grows.of_eq (State.Grows.foldl (fun s k => fnEvent_grows s k 3) _ _) ?_) (raise_grows _ _ _ _ _)
  rfl

theorem amber_grows (s : State) (b : Nat) (on : Bool) : s.Grows (s.amber b on) := by
  unfold State.amber
  simp only []
  split
  · next h => exact (enter_grows .amber (by simp only [Bool.and_eq_true, decide_eq_true_eq] at h; rw [h.1]; decide)).of_eq rfl
  · split
    · next h => exact (enter_grows .green (by simp only [Bool.and_eq_true, decide_eq_true_eq] at h; rw [h.1]; decide)).of_eq rfl
    · exact .of_out rfl

/-! ### One link changes -/

/-- Only link `n` may differ among the links; cores, memory and the gated dies are as before, what has been put out stays, and of the
dictionary at most the objects that `P` names have changed. -/
structure State.Near (s t : State) (n : Nat) (P : Nat → Prop) : Prop where
  others : ∀ m, m ≠ n → t.link m = s.link m
  cores : t.cores = s.cores
  mem : t.mem = s.mem
  power : t.power = s.power
  out : s.out <+: t.out
  od : ∀ i j, j < 256 → ¬ P i → t.odGet i j = s.odGet i j

namespace State.Near

theorem refl (s : State) (n : Nat) (P : Nat → Prop) : s.Near s n P := ⟨fun _ _ => rfl, rfl, rfl, rfl, List.prefix_refl _, fun _ _ _ _ => rfl⟩

theorem trans {s t u : State} {n : Nat} {P : Nat → Prop} (h : s.Near t n P) (g : t.Near u n P) : s.Near u n P :=
  ⟨fun m hm => (g.others m hm).trans (h.others m hm), g.cores.trans h.cores, g.mem.trans h.mem, g.power.trans h.power, h.out.trans g.out,
    fun i j hj hi => (g.od i j hj hi).trans (h.od i j hj hi)⟩

theorem mono {s t : State} {n : Nat} {P Q : Nat → Prop} (h : s.Near t n P) (hPQ : ∀ i, P i → Q i) : s.Near t n Q :=
  { h with od := fun i j hj hi => h.od i j hj (fun hp => hi (hPQ i hp)) }

/-- Neither links, cores, memory, dies, output nor dictionary differ. -/
theorem of_same {s t : State} {n : Nat} {P : Nat → Prop} (hl : t.links = s.links) (hc : t.cores = s.cores) (hm : t.mem = s.mem)
    (hp : t.power = s.power) (ho : t.out = s.out) (hd : t.od = s.od) : s.Near t n P :=
  ⟨fun m _ => by unfold State.link; rw [hl], hc, hm, hp, by rw [ho], fun i j _ _ => by unfold State.odGet; rw [hd]⟩

theorem of_reports {s t : State} {n : Nat} {P : Nat → Prop} (h : s.Reports t) (hg : s.Grows t) (hP : ∀ i, Noisy i → P i) : s.Near t n P :=
  ⟨fun m _ => by unfold State.link; rw [h.1], by rw [h.1], by rw [h.1], by rw [h.1], hg, fun i j hj hi => h.odGet hj (fun e => hi (hP i e))⟩

theorem of_posts {s t : State} {n : Nat} {P : Nat → Prop} (h : s.Posts t) (hg : s.Grows t) (hP : ∀ i, Posted i → P i) : s.Near t n P :=
  ⟨fun m _ => by unfold State.link; rw [h.1], by rw [h.1], by rw [h.1], by rw [h.1], hg, fun i j hj hi => h.odGet hj (fun e => hi (hP i e))⟩

theorem odSet (s : State) (n : Nat) {P : Nat → Prop} {i k : Nat} (v : OdVal) (hi : P i) (hk : k < 256) : s.Near (s.odSet i k v) n P :=
  ⟨fun _ _ => rfl, rfl, rfl, rfl, List.prefix_refl _, fun _ _ hj ha =>
    State.odGet_odSet_other _ _ (odKey_ne hk hj (fun e => ha (e ▸ hi)))⟩

theorem odSetN (s : State) (n : Nat) {P : Nat → Prop} {i k : Nat} (v : Nat) (hi : P i) (hk : k < 256) : s.Near (s.odSetN i k v) n P :=
  odSet s n _ hi hk

theorem odInc (s : State) (n : Nat) {P : Nat → Prop} {i k : Nat} (hi : P i) (hk : k < 256) : s.Near (s.odInc i k) n P := odSet s n _ hi hk

theorem odApply (s : State) (n : Nat) {P : Nat → Prop} {i k : Nat} (hi : P i) (hk : k < 256) : s.Near (s.odApply i k) n P :=
  ⟨fun _ _ => by rw [odApply_od]; rfl, by rw [odApply_od], by rw [odApply_od], by rw [odApply_od], by rw [odApply_od], fun a j hj ha =>
    odGet_odApply_other _ (odKey_ne hk hj (fun e => ha (e ▸ hi)))⟩

theorem setLink (s : State) (n : Nat) (P : Nat → Prop) (l : Link) : s.Near (s.setLink n l) n P :=
  ⟨fun _ hm => (State.link_setLink ..).trans (if_neg hm), rfl, rfl, rfl, List.prefix_refl _, fun _ _ _ _ => rfl⟩

theorem emit (s : State) (n : Nat) (P : Nat → Prop) (o : Out) : s.Near (s.emit o) n P :=
  ⟨fun _ _ => rfl, rfl, rfl, rfl, List.prefix_append .., fun _ _ _ _ => rfl⟩

theorem control (s : State) (n : Nat) (P : Nat → Prop) (code : Nat) (bs : List Byte) : s.Near (s.control n code bs) n P :=
  ⟨fun m hm => (link_control ..).trans (if_neg hm), by rw [control_only], by rw [control_only], by rw [control_only],
    by rw [out_control]; exact List.prefix_append .., fun i j _ _ => by rw [control_only]; rfl⟩

theorem foldl {α : Type} {f : State → α → State} {n : Nat} {P : Nat → Prop} {l : List α} (h : ∀ (s : State) a, a ∈ l → s.Near (f s a) n P)
    (s : State) : s.Near (l.foldl f s) n P := by
  induction l generalizing s with
  | nil => exact refl s n P
  | cons a l ih => exact (h s a List.mem_cons_self).trans (ih (fun s b hb => h s b (List.mem_cons_of_mem _ hb)) _)

theorem odNum {s t : State} {n : Nat} {P : Nat → Prop} (h : s.Near t n P) {i j : Nat} (hj : j < 256) (hi : ¬ P i) : t.odNum i j = s.odNum i j := by
  unfold State.odNum
  rw [h.od i j hj hi]

theorem odBool {s t : State} {n : Nat} {P : Nat → Prop} (h : s.Near t n P) {i j : Nat} (hj : j < 256) (hi : ¬ P i) :
    t.odBool i j = s.odBool i j := by
  unfold State.odBool
  rw [h.odNum hj hi]

theorem mem_out {s t : State} {n : Nat} {P : Nat → Prop} (h : s.Near t n P) {o : Out} (ho : o ∈ s.out) : o ∈ t.out := h.out.subset ho

end State.Near

end Sys2Proof.Machine

set_option Elab.async false
/-! SUPPORT. A link's change of state (R245, R255), and the ways into it. -/
namespace Sys2Proof.Machine

/-! ### What a change of state tells -/

/-- The objects that a link's change of state may write beside its own: the service state and its causes, the progress of bring-up, the
transition counts, the steering, the fault records. -/
def LinkTold (i : Nat) : Prop := Posted i ∨ i ∈ [0x2003, 0x4025, 0x4442, 0x4443, 0x7000, 0x7010, 0x7011]

/-- No link differs, and of the dictionary at most those objects. -/
def State.Tells (s t : State) : Prop := ∀ n, s.Near t n LinkTold

namespace State.Tells

theorem refl (s : State) : s.Tells s := fun n => .refl s n _
theorem trans {s t u : State} (h : s.Tells t) (g : t.Tells u) : s.Tells u := fun n => (h n).trans (g n)
theorem link {s t : State} (h : s.Tells t) (m : Nat) : t.link m = s.link m := (h (m + 1)).others m (by omega)
theorem odNum {s t : State} (h : s.Tells t) {i j : Nat} (hj : j < 256) (hi : ¬ LinkTold i) : t.odNum i j = s.odNum i j := (h 0).odNum hj hi
theorem of_reports {s t : State} (h : s.Reports t) (hg : s.Grows t) : s.Tells t := fun n => .of_reports (n := n) h hg (fun _ hi => .inl (.inl hi))
theorem odSetN (s : State) {i k : Nat} (v : Nat) (hi : LinkTold i) (hk : k < 256) : s.Tells (s.odSetN i k v) := fun n => .odSetN s n v hi hk

theorem odInc (s : State) {i k : Nat} (hi : LinkTold i) (hk : k < 256) : s.Tells (s.odInc i k) := odSetN s _ hi hk

theorem ite {s t u : State} {c : Prop} [Decidable c] (h : s.Tells t) (g : s.Tells u) : s.Tells (if c then t else u) := by
  split
  · exact h
  · exact g

end State.Tells

theorem raise_tells (s : State) (code idx sub detail : Nat) : s.Tells (s.raise code idx sub detail) :=
  .of_reports (raise_reports ..) (raise_grows ..)

theorem faultRecord_tells (s : State) {code : Nat} (hc : code < 256) (action kind target : Nat) (part : Option Nat) (esc : Bool) (detail : Nat) :
    s.Tells (s.faultRecord code action kind target part esc detail) := by
  have h1 (e : Nat) (v : OdVal) (he : e < 256) : s.Tells (s.odSet 0x7010 e v) := fun n => .odSet s n v (.inr (by decide)) he
  unfold State.faultRecord State.faultRecordAs
  simp only []
  exact ((((h1 _ _ (by omega)).trans (State.Tells.odInc (i := 0x7000) (k := 0) _ (.inr (by decide)) (by decide))).trans
    (State.Tells.odInc (i := 0x7011) _ (.inr (by decide)) hc)).trans (raise_tells _ _ _ _ _)).trans
    (.of_reports (lilac_reports _ _ _ _ _ _ _) (lilac_grows _ _ _ _ _ _ _))

theorem linksProgress_tells (s : State) : s.Tells s.linksProgress := .ite (.odSetN _ _ (.inr (by decide)) (by decide)) (.refl s)

theorem linkEnded_tells (s : State) (n : Nat) : s.Tells (s.linkEnded n) :=
  State.Tells.trans (t := { s with life := { s.life with linksDone := withBit n true s.life.linksDone } })
    (fun _ => .of_same rfl rfl rfl rfl rfl rfl) (linksProgress_tells _)

theorem linkAmber_tells (s : State) : s.Tells s.linkAmber :=
  fun n => .of_posts (n := n) (amber_posts ..) (amber_grows ..) (fun _ hi => .inl hi)

theorem showTime_tells (s : State) : s.Tells s.showTime :=
  (State.Tells.odSetN (i := 0x4442) (k := 0) s _ (.inr (by decide)) (by decide)).trans
    (.odSetN (i := 0x4443) (k := 0) _ _ (.inr (by decide)) (by decide))

theorem timeLost_tells (s : State) (n : Nat) : s.Tells (s.timeLost n) := by
  refine .ite ?_ (.refl s)
  unfold State.timeFree
  refine State.Tells.trans ?_ (showTime_tells _)
  exact fun _ => .of_same rfl rfl rfl rfl rfl rfl

/-! ### A change of state -/

/-- A link when it has gone to a state: it loses what it holds when it leaves Active (R245). -/
def Link.gone (l : Link) (st : LinkSt) : Link := { (if l.st.up && !st.up then l.drop else l) with st := st }

/-- The link is in its new state, and OD 0x4002 and 0x4003 show it. -/
def State.linkTurned (s : State) (n : Nat) (st : LinkSt) (reason : Nat) : State :=
  (((if (s.link n).st.up && !st.up then (s.setLink n (s.link n).drop).timeLost n else s).updLink n (fun l => { l with st := st })).odSetN
    0x4002 (n + 1) st.code).odSetN 0x4003 (n + 1) reason

theorem linkGo_tells (s : State) {n : Nat} (hn : n < 12) (st : LinkSt) (reason : Nat) :
    (s.linkTurned n st reason).Tells (s.linkGo n st reason) := by
  have h1 : (s.linkTurned n st reason).Tells (((((s.linkTurned n st reason).odInc 0x4025 (n + 1)).pulse 9 n).linkEvent n).linkAmber) :=
    (((State.Tells.odInc (i := 0x4025) (k := n + 1) _ (.inr (by decide)) (by omega)).trans
      (.of_reports (pulse_reports (ev := 9) _ _ (by decide)) (pulse_grows _ _ _))).trans (raise_tells _ _ _ _ _)).trans (linkAmber_tells _)
  have h2 := h1.trans (State.Tells.ite (c := (st == .active || st == .activeHalf || st == .down) = true) (linkEnded_tells _ n) (.refl _))
  exact h2.trans (State.Tells.ite (faultRecord_tells _ (by decide) _ _ _ _ _ _) (.refl _))

/-- The objects that a link's change of state may write. -/
def LinkShown (i : Nat) : Prop := LinkTold i ∨ i = 0x4002 ∨ i = 0x4003

theorem linkTurned_spec (s : State) {n : Nat} (hn : n < 12) (st : LinkSt) (reason : Nat) :
    s.Near (s.linkTurned n st reason) n LinkShown ∧ (s.linkTurned n st reason).link n = (s.link n).gone st ∧
    (s.linkTurned n st reason).odNum 0x4002 (n + 1) = st.code ∧ (s.linkTurned n st reason).odNum 0x4003 (n + 1) = reason := by
  have hk : n + 1 < 256 := by omega
  have h1 : s.Near (if (s.link n).st.up && !st.up then (s.setLink n (s.link n).drop).timeLost n else s) n LinkShown ∧
      (if (s.link n).st.up && !st.up then (s.setLink n (s.link n).drop).timeLost n else s).link n =
        if (s.link n).st.up && !st.up then (s.link n).drop else s.link n := by
    split
    · have h := timeLost_tells (s.setLink n (s.link n).drop) n
      exact ⟨(State.Near.setLink s n _ _).trans ((h n).mono (fun _ => .inl)), (h.link n).trans (State.link_setLink_same ..)⟩
    · exact ⟨.refl s n _, rfl⟩
  unfold State.linkTurned
  generalize (if (s.link n).st.up && !st.up then (s.setLink n (s.link n).drop).timeLost n else s) = u at h1
  obtain ⟨hu, hl⟩ := h1
  refine ⟨((hu.trans (.setLink u n _ _)).trans (.odSetN _ n _ (.inr (.inl rfl)) hk)).trans (.odSetN _ n _ (.inr (.inr rfl)) hk), ?_, ?_, ?_⟩
  · show (u.updLink n (fun l => { l with st := st })).link n = _
    rw [link_updLink, if_pos rfl, hl]
    rfl
  · unfold State.odNum
    rw [odGet_odSetN_other _ _ (odKey_ne hk hk (by decide))]
    exact State.odNum_odSetN_same ..
  · exact State.odNum_odSetN_same ..

/-- The link is in its new state, which OD 0x4002 and 0x4003 show; of the rest only what the change tells differs. -/
structure State.LinkGone (s t : State) (n : Nat) (l : Link) (st : LinkSt) (reason : Nat) (P : Nat → Prop) : Prop where
  near : s.Near t n P
  link : t.link n = l
  code : t.odNum 0x4002 (n + 1) = st.code
  reason : t.odNum 0x4003 (n + 1) = reason

theorem linkGo_gone (s : State) {n : Nat} (hn : n < 12) (st : LinkSt) (reason : Nat) :
    s.LinkGone (s.linkGo n st reason) n ((s.link n).gone st) st reason LinkShown := by
  obtain ⟨h1, h2, h3, h4⟩ := linkTurned_spec s hn st reason
  have h := linkGo_tells s hn st reason
  exact ⟨h1.trans ((h n).mono (fun _ => .inl)), (h.link n).trans h2,
    (h.odNum (by omega) (by unfold LinkTold Posted Noisy; decide)).trans h3,
    (h.odNum (by omega) (by unfold LinkTold Posted Noisy; decide)).trans h4⟩

namespace State.LinkGone

/-- A change of the link that comes before. -/
theorem before {s u t : State} {n : Nat} {l : Link} {st : LinkSt} {reason : Nat} {P : Nat → Prop} (h : s.Near u n P)
    (g : u.LinkGone t n l st reason P) : s.LinkGone t n l st reason P := ⟨h.trans g.near, g.link, g.code, g.reason⟩

/-- A change of the link that comes after, and leaves OD 0x4002 and 0x4003. -/
theorem after {s u t : State} {n : Nat} {l : Link} {st : LinkSt} {reason : Nat} {P Q : Nat → Prop} (g : s.LinkGone u n l st reason P) (hn : n < 12)
    (h : u.Near t n Q) (h2 : ¬ Q 0x4002) (h3 : ¬ Q 0x4003) (hQ : ∀ i, Q i → P i) : s.LinkGone t n (t.link n) st reason P :=
  ⟨g.near.trans (h.mono hQ), rfl, (h.odNum (by omega) h2).trans g.code, (h.odNum (by omega) h3).trans g.reason⟩

theorem mono {s t : State} {n : Nat} {l : Link} {st : LinkSt} {reason : Nat} {P Q : Nat → Prop} (h : s.LinkGone t n l st reason P)
    (hPQ : ∀ i, P i → Q i) : s.LinkGone t n l st reason Q := { h with near := h.near.mono hPQ }

theorem linkAt {s t : State} {n : Nat} {l : Link} {st : LinkSt} {reason : Nat} {P : Nat → Prop} (h : s.LinkGone t n l st reason P)
    (hl : l.st = st) (hP : ¬ P 0x4032) : s.LinkAt t n st reason := by
  refine ⟨by rw [h.link]; exact hl, h.code, h.reason, fun m hm _ => ?_, h.near.cores, h.near.mem⟩
  have hm := h.near.others m hm
  refine ⟨by rw [hm], ?_⟩
  unfold State.farOk
  rw [hm, h.near.odBool (by decide) hP]

end State.LinkGone

/-! ### The ways into a state -/

/-- The objects that the commands of the links may write, beside OD 0x4032. -/
def LinkSet (i : Nat) : Prop :=
  LinkShown i ∨ i ∈ [0x4005, 0x4007, 0x4008, 0x4009, 0x400A, 0x4010, 0x4011, 0x4012]

theorem linkSet_far : ¬ LinkSet 0x4032 := by unfold LinkSet LinkShown LinkTold Posted Noisy; decide

theorem odApply_link (s : State) (i k m : Nat) : (s.odApply i k).link m = s.link m := by
  rw [odApply_od]
  rfl

theorem linkFail_gone (s : State) {n : Nat} (hn : n < 12) (reason : Nat) :
    s.LinkGone (s.linkFail n reason) n ((s.link n).gone .down) .down reason LinkSet := by
  have h := (linkGo_gone s hn .down reason).mono (Q := LinkSet) (fun _ => .inl)
  unfold State.linkFail
  generalize s.linkGo n .down reason = u at h
  have hg := h.after hn (State.Near.odApply (P := fun i => i = 0x4011) u n (k := 0) rfl (by decide)) (by decide) (by decide)
    (fun i hi => .inr (by rw [hi]; decide))
  exact ⟨hg.near, (odApply_link u _ _ _).trans h.link, hg.code, hg.reason⟩

/-! ### The lane map -/

theorem link_odSetN (s : State) (i k v m : Nat) : (s.odSetN i k v).link m = s.link m := rfl

theorem link_showMap (s : State) (n m : Nat) : (s.showMap n).link m = s.link m := link_odSetN s 0x4007 (n + 1) (s.link n).mapWord m

theorem showMap_near (s : State) {n : Nat} (hn : n < 12) : s.Near (s.showMap n) n (fun i => i = 0x4007) :=
  State.Near.odSetN (i := 0x4007) (k := n + 1) s n (s.link n).mapWord rfl (by omega)

theorem State.LinkGone.showMap {s t : State} {n : Nat} {l : Link} {st : LinkSt} {reason : Nat} (h : s.LinkGone t n l st reason LinkSet)
    (hn : n < 12) : s.LinkGone (t.showMap n) n l st reason LinkSet := by
  have g := h.after hn (showMap_near t hn) (by decide) (by decide) (fun i hi => .inr (by rw [hi]; decide))
  exact ⟨g.near, (link_showMap t n n).trans h.link, g.code, g.reason⟩

end Sys2Proof.Machine

set_option Elab.async false
/-! SUPPORT. Lane repair (R251 to R254). -/
namespace Sys2Proof.Machine

/-! ### A lane fails -/

theorem Link.enterResync_eq (l : Link) : l.enterResync =
    { l with asm := [], resync := true, rcvd := l.enterResync.rcvd, freed := l.enterResync.freed } := by
  unfold Link.enterResync
  simp only
  split <;> rfl

/-- The agreed version and features are read of OD 0x4004 alone. -/
theorem linkVer_of_od {s t : State} {n : Nat} (h : t.odGet 0x4004 (n + 1) = s.odGet 0x4004 (n + 1)) :
    t.linkVer n = s.linkVer n ∧ ∀ k, t.linkFeat n k = s.linkFeat n k := by
  unfold State.linkVer State.linkFeat State.odNum
  rw [h]
  exact ⟨rfl, fun _ => rfl⟩

/-- A link with a lane marked as failing, in resync (R252). -/
def Link.marked (l : Link) (lane : Nat) : Link := { l.enterResync with rxFail := withBit lane true l.rxFail }

theorem Link.marked_eq (l : Link) (lane : Nat) : l.marked lane = { l with
    asm := [], resync := true, rcvd := l.enterResync.rcvd, freed := l.enterResync.freed, rxFail := withBit lane true l.rxFail } := by
  unfold Link.marked
  rw [Link.enterResync_eq]

/-- The state with a lane marked as failing. -/
def State.laneMarked (s : State) (n lane : Nat) : State :=
  (s.updLink n (fun l => { l.enterResync with rxFail := withBit lane true l.rxFail })).showMap n

theorem laneMarked_spec (s : State) {n : Nat} (hn : n < 12) (lane : Nat) :
    (s.laneMarked n lane).link n = (s.link n).marked lane ∧ (s.laneMarked n lane).linkVer n = s.linkVer n ∧
    (∀ k, (s.laneMarked n lane).linkFeat n k = s.linkFeat n k) := by
  refine ⟨?_, linkVer_of_od ?_⟩
  · rw [State.laneMarked, link_showMap, link_updLink, if_pos rfl]
    rfl
  · exact (showMap_near _ hn).od 0x4004 (n + 1) (by omega) (by decide)

/-- A failing position asks the partner for a swap to the spare, where the swap is in use and the spare is free and good (R252). -/
theorem laneFails_asks {s : State} {n lane : Nat} (hn : n < 12) (hu : (s.link n).uses lane = true) (hr : (s.link n).repair = none)
    (hv : 3 ≤ s.linkVer n) (hf : s.linkFeat n 0 = true) (h8 : lane < 8) (hs : (s.link n).rxSpare = 0xF) (hb : bit 8 (s.link n).rxFail = false) :
    s.laneFails n lane = (s.laneMarked n lane).askRepair n ⟨lane, 0xF, ((s.link n).rxGen + 1) % 16⟩ := by
  obtain ⟨hl, hv', hf'⟩ := laneMarked_spec s hn lane
  have hm := (s.link n).marked_eq lane
  have hb' : bit 8 (withBit lane true (s.link n).rxFail) = false := (bit_withBit_other true (by omega)).trans hb
  unfold State.laneFails
  simp only
  rw [← State.laneMarked, hl, hm]
  simp only [hu, hr, hv', hf', hf, hs, hb', Bool.true_or, Bool.not_true, Bool.not_false, Bool.false_eq_true, if_false, Option.isSome_none,
    Nat.not_lt.mpr hv, beq_self_eq_true, Bool.and_true, bne_iff_ne, ne_eq, Nat.ne_of_lt h8, not_false_eq_true, if_true]

theorem askRepair_spec (s : State) (n : Nat) (r : Repair) :
    (s.askRepair n r).link n = { (s.link n) with
      repair := some r, flitSeq := ((s.askRepair n r).link n).flitSeq, pairSeq := ((s.askRepair n r).link n).pairSeq } ∧
    .control n r.code r.fields ∈ (s.askRepair n r).out := by
  unfold State.askRepair
  refine ⟨?_, ?_⟩
  · rw [link_control, if_pos rfl, link_updLink, if_pos rfl]
    rfl
  · rw [out_control]
    exact List.mem_append_right _ List.mem_cons_self

/-! ### The window of a lane -/

/-- A lane's window has ended with its bits in error and its uncorrectable codewords: the counts start anew, and after 1,000 windows OD
0x4020 shows the last second (R251). -/
def State.windowEnded (s : State) (n lane errors uncorrectable : Nat) : State :=
  let s := s.odApply 0x4017 0
  let l := s.link n
  let u := if uncorrectable ≥ 4 then tget 0 l.unc lane + 1 else 0
  let k := tget 0 l.nwin lane + 1
  let sum := tget 0 l.ratio lane + (tget 0 l.errs lane + errors)
  let s := if k = 1000 then s.odSetN 0x4020 (9 * n + lane + 1) (min (sum * 10 ^ 12 / s.laneBits n 1000) (2 ^ 32 - 1)) else s
  s.setLink n { l with errs := tset 0 l.errs lane 0, unc := tset 0 l.unc lane (if u ≥ 3 then 0 else u),
                       nwin := tset 0 l.nwin lane (if k = 1000 then 0 else k), ratio := tset 0 l.ratio lane (if k = 1000 then 0 else sum) }

theorem windowEnded_spec (s : State) {n lane : Nat} (hn : n < 12) (hk : lane < 9) (errors lost : Nat) :
    let u := s.windowEnded n lane errors lost
    u.link n = { s.link n with errs := (u.link n).errs, unc := (u.link n).unc, nwin := (u.link n).nwin, ratio := (u.link n).ratio } ∧
    u.odNum 0x4017 0 = s.odLive 0x4017 0 ∧ u.linkVer n = s.linkVer n ∧ ∀ i, u.linkFeat n i = s.linkFeat n i := by
  have hd : (s.odApply 0x4017 0).Near (s.windowEnded n lane errors lost) n (fun i => i = 0x4020) := by
    unfold State.windowEnded
    simp only
    split
    · exact State.Near.trans (.odSetN _ n _ rfl (by omega)) (.setLink _ n _ _)
    · exact .setLink _ n _ _
  refine ⟨?_, hd.odNum (by decide) (by decide), linkVer_of_od ?_⟩
  · unfold State.windowEnded
    simp only [State.link_setLink_same, odApply_link]
  · rw [hd.od _ _ (by omega) (by decide), odGet_odApply_other _ (odKey_ne (by decide) (by omega) (by decide))]

/-- A breach of the degrade threshold makes the lane failing (R251). -/
theorem degrade_fails {s : State} {n : Fin 12} {k : Fin 9} {errors lost : Nat} (hup : s.linkUp n = true) (hv : 3 ≤ s.linkVer n)
    (he : s.odLive 0x4017 0 * 425_000_000 < (tget 0 (s.link n).errs k + errors) * 10 ^ 9) :
    exec (.degradeWindowEnd n k errors lost) s = .next ((s.windowEnded n k errors lost).laneFails n k) := by
  obtain ⟨-, hth, hver, -⟩ := windowEnded_spec s n.isLt k.isLt errors lost
  have hbits : (s.windowEnded n k errors lost).laneBits n 1 = 425_000_000 := by
    unfold State.laneBits
    rw [hver, if_pos hv]
  have hc : (decide ((tget 0 ((s.odApply 0x4017 0).link n).errs k + errors) * 10 ^ 9 >
      (s.windowEnded n k errors lost).odNum 0x4017 0 * (s.windowEnded n k errors lost).laneBits n 1) ||
      decide ((if lost ≥ 4 then tget 0 ((s.odApply 0x4017 0).link n).unc k + 1 else 0) ≥ 3)) = true := by
    rw [hth, hbits, odApply_link, Bool.or_eq_true, decide_eq_true_eq]
    exact .inl he
  show execDegradeWindowEnd n k errors lost s = _
  unfold execDegradeWindowEnd
  exact (if_pos hup).trans (if_pos hc)

end Sys2Proof.Machine

set_option Elab.async false
/-! SUPPORT. The messages of a repair, and its end (R252 to R254). -/
namespace Sys2Proof.Machine

/-! ### Requests -/

theorem showMap_only (s : State) (n : Nat) : ∃ O, s.showMap n = { s with od := O } := ⟨_, rfl⟩

/-- The link as it stands on a new map, which OD 0x4007 shows, and alignment blocks of a generation (R252). -/
def State.moved (s : State) (n : Nat) (l : Link) (g : Nat) : State := ((s.setLink n l).showMap n).emit (.blocks n g)

theorem moved_spec (s : State) (n : Nat) (l : Link) (g : Nat) :
    (∃ L O, s.moved n l g = { s with links := L, od := O, out := s.out ++ [.blocks n g] }) ∧ (s.moved n l g).link n = l := by
  obtain ⟨O, h⟩ := showMap_only (s.setLink n l) n
  unfold State.moved
  refine ⟨?_, ?_⟩
  · rw [h]
    exact ⟨_, _, rfl⟩
  · show ((s.setLink n l).showMap n).link n = l
    rw [link_showMap, State.link_setLink_same]

/-- A link without its first control message. -/
def State.ctlTaken (s : State) (n : Nat) (rest : List (List Byte)) : State := s.setLink n { s.link n with ctl := rest }

theorem link_ctlTaken (s : State) (n : Nat) (rest : List (List Byte)) : (s.ctlTaken n rest).link n = { s.link n with ctl := rest } :=
  State.link_setLink_same ..

theorem takeCtl_taken {s : State} {n code : Nat} {m : List Byte} {rest : List (List Byte)} (h : s.Message n code m rest) :
    s.takeCtl n code = some (m, s.ctlTaken n rest) := takeCtl_message h

theorem swapReq_unused {s : State} {n : Fin 12} {m : List Byte} {rest : List (List Byte)} (h : s.Message n 0x02 m rest)
    (hu : s.linkVer n < 3 ∨ s.linkFeat n 0 = false) : exec (.swapReq n) s = .next (s.ctlTaken n rest) := by
  show execSwapReq n s = _
  unfold execSwapReq
  rw [takeCtl_taken h]
  refine if_pos ?_
  have hv : (s.ctlTaken n rest).linkVer n = s.linkVer n := rfl
  have hf : (s.ctlTaken n rest).linkFeat n 0 = s.linkFeat n 0 := rfl
  rw [hv, hf]
  rcases hu with h | h <;> simp [h]

theorem swapReq_moves {s : State} {n : Fin 12} {m : List Byte} {rest : List (List Byte)} (h : s.Message n 0x02 m rest)
    (hup : (s.link n).st.up = true) (hv : 3 ≤ s.linkVer n) (hf : s.linkFeat n 0 = true) (hg : fieldAt m 2 1 % 16 ≠ (s.link n).txGen) :
    exec (.swapReq n) s = .next ((s.ctlTaken n rest).moved n { s.link n with
      ctl := rest, txSpare := fieldAt m 1 1 % 16, txGen := fieldAt m 2 1 % 16, txHold := true } (fieldAt m 2 1 % 16)) := by
  have hl := link_ctlTaken s n rest
  have hv' : (s.ctlTaken n rest).linkVer n = s.linkVer n := rfl
  have hf' : (s.ctlTaken n rest).linkFeat n 0 = s.linkFeat n 0 := rfl
  show execSwapReq n s = _
  unfold execSwapReq
  simp only [takeCtl_taken h, hl, hv', hf', hup, hf, Nat.not_lt.mpr hv, hg.symm, Bool.not_true, decide_false, Bool.or_false, Bool.false_eq_true,
    if_false]
  rfl

theorem halfReq_moves {s : State} {n : Fin 12} {m : List Byte} {rest : List (List Byte)} (h : s.Message n 0x04 m rest)
    (hup : (s.link n).st.up = true) (hg : fieldAt m 3 1 % 16 ≠ (s.link n).txGen) (hok : (s.link n).halfOk = true) (h1 : fieldAt m 1 1 ≤ 1)
    (hf : halfFits (s.link n).rxFail (fieldAt m 1 1) (s.linkFeat n 0) = true) :
    exec (.halfReq n) s = .next ((s.ctlTaken n rest).moved n { ({ s.link n with ctl := rest } : Link).enterResync with
      txSpare := if fieldAt m 2 1 = 0xFF then 0xF else fieldAt m 2 1 % 16, txHalf := fieldAt m 1 1, rxHalf := fieldAt m 1 1,
      rxSpare := halfSpare (s.link n).rxFail (fieldAt m 1 1), txGen := fieldAt m 3 1 % 16, txHold := true } (fieldAt m 3 1 % 16)) := by
  have hl := link_ctlTaken s n rest
  have hf' : (s.ctlTaken n rest).linkFeat n 0 = s.linkFeat n 0 := rfl
  show execHalfReq n s = _
  unfold execHalfReq
  simp only [takeCtl_taken h, hl, hf', hup, hok, hf, Nat.not_lt.mpr h1, hg.symm, Bool.not_true, decide_false, Bool.or_false, Bool.false_eq_true,
    if_false, gt_iff_lt]
  rfl

/-! ### Acknowledgements -/

theorem drainLink_near {s : State} {n : Nat} (h : (s.link n).txq = []) : s.Near (s.drainLink n) n (fun _ => False) := by
  obtain ⟨hd, hl⟩ := drainLink_idle h
  exact ⟨fun m _ => hl m, by rw [hd], by rw [hd], by rw [hd], by rw [hd], fun i j _ _ => by rw [hd]; rfl⟩

theorem swapAck_resumes {s : State} {n : Fin 12} {m : List Byte} {rest : List (List Byte)} (h : s.Message n 0x03 m rest)
    (hup : (s.link n).st.up = true) (hg : fieldAt m 1 1 % 16 = (s.link n).txGen) :
    exec (.swapAck n) s = .next (((s.ctlTaken n rest).updLink n (fun l => { l with txHold := false })).drainLink n) := by
  have hl := link_ctlTaken s n rest
  show execSwapAck n s = _
  unfold execSwapAck
  simp only [takeCtl_taken h, hl, hup, hg, Bool.true_and, decide_true, if_true]

theorem halfAck_narrows {s : State} {n : Fin 12} {m : List Byte} {rest : List (List Byte)} (h : s.Message n 0x05 m rest)
    (hst : (s.link n).st = .active) (hg : fieldAt m 1 1 % 16 = (s.link n).txGen) :
    exec (.halfAck n) s = .next ((((s.ctlTaken n rest).updLink n (fun l => { l with txHold := false })).linkGo n .activeHalf 0).drainLink n) := by
  have hl := link_ctlTaken s n rest
  have hl' : ((s.ctlTaken n rest).updLink n (fun l => { l with txHold := false })).link n = { s.link n with ctl := rest, txHold := false } := by
    rw [link_updLink, if_pos rfl, hl]
  have hup : LinkSt.active.up = true := rfl
  show execHalfAck n s = _
  unfold execHalfAck
  simp only [takeCtl_taken h, hl, hl', hup, hst, hg, Bool.true_and, decide_true, if_true, beq_self_eq_true]

/-! ### The end of a repair -/

/-- The link when its receiver has deskewed on the new map (R252, R253). -/
def Link.deskewed (l : Link) (r : Repair) : Link :=
  let swap := r.half == 0xF
  { l.enterResync with
    repair := none, rxGen := r.gen, rxSpare := r.pos, rxHalf := if swap then l.rxHalf else r.half,
    txHalf := if swap then l.txHalf else r.half,
    txSpare := if swap || decide (l.txSpare / 4 = r.half) then l.txSpare else 0xF, pend := [] }

/-- The link has acknowledged the new map. -/
def State.acked (s : State) (n : Nat) (r : Repair) : State :=
  (s.setLink n ((s.link n).deskewed r)).control n (if r.half == 0xF then 0x03 else 0x05) (leBytes 1 r.gen)

theorem acked_spec (s : State) (n : Nat) (r : Repair) :
    s.Near (s.acked n r) n (fun _ => False) ∧
    (s.acked n r).link n = { (s.link n).deskewed r with
      flitSeq := ((s.acked n r).link n).flitSeq, pairSeq := ((s.acked n r).link n).pairSeq } ∧
    .control n (if r.half == 0xF then 0x03 else 0x05) (leBytes 1 r.gen) ∈ (s.acked n r).out := by
  unfold State.acked
  refine ⟨(State.Near.setLink s n _ _).trans (.control _ n _ _ _), ?_, ?_⟩
  · rw [link_control, if_pos rfl, State.link_setLink_same]
    rfl
  · rw [out_control]
    exact List.mem_append_right _ List.mem_cons_self

theorem deskew_swap {s : State} {n : Fin 12} {g : Fin 16} {r : Repair} (hr : (s.link n).repair = some r) (hg : r.gen = g)
    (hup : (s.link n).st.up = true) (hp : (s.link n).pend = []) (h : r.half = 0xF) :
    exec (.swapDeskewDone n g) s = .next ((((s.acked n r).odInc 0x4024 (n + 1)).showMap n).linkEvent n) := by
  have hs : (r.half == 0xF) = true := by rw [h]; rfl
  show execSwapDeskewDone n g s = _
  unfold execSwapDeskewDone
  simp only [hr, hg, hup, hp, hs, Bool.not_true, ne_eq, not_true_eq_false, decide_false, Bool.or_false, Bool.false_eq_true, if_false,
    List.foldl_nil, State.acked, Link.deskewed, Bool.true_or, Bool.false_or, if_true]

theorem deskew_half {s : State} {n : Fin 12} {g : Fin 16} {r : Repair} (hr : (s.link n).repair = some r) (hg : r.gen = g)
    (hup : (s.link n).st.up = true) (hp : (s.link n).pend = []) (h : r.half < 2) :
    exec (.swapDeskewDone n g) s = .next (((s.acked n r).showMap n).linkGo n .activeHalf 0) := by
  have hs : (r.half == 0xF) = false := beq_eq_false_iff_ne.mpr (by omega)
  show execSwapDeskewDone n g s = _
  unfold execSwapDeskewDone
  simp only [hr, hg, hup, hp, hs, Bool.not_true, ne_eq, not_true_eq_false, decide_false, Bool.or_false, Bool.false_eq_true, if_false,
    List.foldl_nil, State.acked, Link.deskewed, Bool.true_or, Bool.false_or, if_true]

end Sys2Proof.Machine

set_option Elab.async false
/-! SUPPORT. A swap that ends (R252). -/
namespace Sys2Proof.Machine

/-- A link that stays Active, or becomes it, keeps what it holds. -/
theorem Link.gone_up {l : Link} {st : LinkSt} (h : st.up = true) : l.gone st = { l with st := st } := by
  unfold Link.gone
  rw [h, Bool.not_true, Bool.and_false]
  rfl

/-- A swap that ends: the link on its new map in resync, the acknowledgement out, and the swap counted (R252). -/
theorem swapped_spec {s : State} {n : Nat} (hn : n < 12) {g : Nat} {r : Repair} (hg : r.gen = g) (hp : (s.link n).pend = [])
    (ha : (s.link n).asm = []) (h : r.half = 0xF) :
    let t := (((s.acked n r).odInc 0x4024 (n + 1)).showMap n).linkEvent n
    t.link n = { s.link n with
      ctl := (t.link n).ctl, flitSeq := (t.link n).flitSeq, pairSeq := (t.link n).pairSeq,
      repair := none, rxGen := g, rxSpare := r.pos, resync := true } ∧
    .control n 0x03 (leBytes 1 g) ∈ t.out ∧ t.odNum 0x4024 (n + 1) = min (s.odNum 0x4024 (n + 1) + 1) (2 ^ 32 - 1) := by
  obtain ⟨h1, h2, h3⟩ := acked_spec s n r
  have hs : (r.half == 0xF) = true := by rw [h]; rfl
  have hl : (s.link n).deskewed r = { s.link n with repair := none, rxGen := g, rxSpare := r.pos, resync := true } := by
    unfold Link.deskewed
    simp only [hs, Link.enterResync_idle ha, hg, Bool.true_or, if_true]
    rw [hp]
  have ht : ((s.acked n r).odInc 0x4024 (n + 1)).Near (((s.acked n r).odInc 0x4024 (n + 1)).showMap n) n (fun i => i = 0x4007) := showMap_near _ hn
  have hlm : (((s.acked n r).odInc 0x4024 (n + 1)).showMap n).link n = (s.acked n r).link n := link_showMap _ _ _
  have hc : ((s.acked n r).odInc 0x4024 (n + 1)).odNum 0x4024 (n + 1) = min ((s.acked n r).odNum 0x4024 (n + 1) + 1) (2 ^ 32 - 1) :=
    odNum_odAdd_top _ _ 1 (2 ^ 32 - 1) (by decide) (by decide)
  have ho : ((s.acked n r).odInc 0x4024 (n + 1)).out = (s.acked n r).out := rfl
  rw [h1.odNum (by omega) (fun h => h)] at hc
  rw [← ho] at h3
  generalize (s.acked n r).odInc 0x4024 (n + 1) = u at ht hlm hc h3
  have he := raise_tells (u.showMap n) 0x0003 0x4002 (n + 1) (((u.showMap n).link n).st.code * 256 + (u.showMap n).odNum 0x4003 (n + 1))
  intro t
  have he : (u.showMap n).Tells t := he
  have hlt : t.link n = (s.acked n r).link n := (he.link n).trans hlm
  refine ⟨?_, (he n).mem_out (ht.mem_out ?_), ?_⟩
  · rw [hlt, h2, hl]
  · rw [hs, if_pos rfl, hg] at h3
    exact h3
  · rw [he.odNum (by omega) (by unfold LinkTold Posted Noisy; decide), ht.odNum (by omega) (by decide), hc]

end Sys2Proof.Machine

namespace Sys2Proof.Proofs
open Sys2Proof.Machine

/-- Settles O27: each message of a repair changes its link alone, on the map that it names; what a change of state tells beside leaves the
link and its acknowledgement as they are. -/
theorem laneRepair : Obligations.LaneRepair := by
  unfold Obligations.LaneRepair
  intro n s
  refine ⟨fun k errors lost hk hup hv he hf hu hs hb hr => ?_, fun m rest hm hu => ?_, fun m rest hm hup hv hf hg => ?_,
    fun m rest hm hup hg hq => ?_, fun m rest hm hup hg hok h1 hf => ?_, fun m rest hm hst hg hq => ?_,
    fun g pos hr hup hp ha => ?_, fun g pos h hr hh hst hp => ?_⟩
  · obtain ⟨hl, -, hver, hfeat⟩ := windowEnded_spec s n.isLt k.isLt errors lost
    refine ⟨_, degrade_fails hup hv he, ?_⟩
    generalize s.windowEnded n k errors lost = u at hl hver hfeat
    rw [laneFails_asks n.isLt (by rw [hl]; exact hu) (by rw [hl]; exact hr) (by rw [hver]; exact hv) (by rw [hfeat]; exact hf) hk
      (by rw [hl]; exact hs) (by rw [hl]; exact hb)]
    obtain ⟨hlm, -, -⟩ := laneMarked_spec u n.isLt k
    obtain ⟨ht, ho⟩ := askRepair_spec (u.laneMarked n k) n ⟨k, 0xF, ((u.link n).rxGen + 1) % 16⟩
    rw [hlm, Link.marked_eq] at ht
    have hgen : (u.link n).rxGen = (s.link n).rxGen := by rw [hl]
    have hst : (u.link n).st = (s.link n).st := by rw [hl]
    refine ⟨?_, ?_, ?_, ?_⟩
    · rw [ht, hgen]
    · rw [ht]
      show bit k (withBit k true (u.link n).rxFail) = true
      exact bit_withBit_same _ _ _
    · rw [ht]
      exact hst
    · rw [← hgen]
      exact ho
  · exact ⟨_, swapReq_unused hm hu, rfl, link_ctlTaken s n rest⟩
  · obtain ⟨⟨L, O, h⟩, hl⟩ := moved_spec (s.ctlTaken n rest) n { s.link n with
      ctl := rest, txSpare := fieldAt m 1 1 % 16, txGen := fieldAt m 2 1 % 16, txHold := true } (fieldAt m 2 1 % 16)
    refine ⟨_, swapReq_moves hm hup hv hf hg, ?_, ?_, hl⟩
    · rw [h]
      rfl
    · rw [h]
      rfl
  · have hl : ((s.ctlTaken n rest).updLink n (fun l => { l with txHold := false })).link n = { s.link n with ctl := rest, txHold := false } := by
      rw [link_updLink, if_pos rfl, link_ctlTaken]
    obtain ⟨hd, hld⟩ := drainLink_idle (s := (s.ctlTaken n rest).updLink n (fun l => { l with txHold := false })) (n := n)
      (by rw [hl]; exact hq)
    exact ⟨_, swapAck_resumes hm hup hg, by rw [hd]; rfl, (hld n).trans hl⟩
  · obtain ⟨⟨L, O, h⟩, hl⟩ := moved_spec (s.ctlTaken n rest) n { ({ s.link n with ctl := rest } : Link).enterResync with
      txSpare := if fieldAt m 2 1 = 0xFF then 0xF else fieldAt m 2 1 % 16, txHalf := fieldAt m 1 1, rxHalf := fieldAt m 1 1,
      rxSpare := halfSpare (s.link n).rxFail (fieldAt m 1 1), txGen := fieldAt m 3 1 % 16, txHold := true } (fieldAt m 3 1 % 16)
    refine ⟨_, halfReq_moves hm hup hg hok h1 hf, ?_, ?_, ?_, ?_, ?_, ?_⟩
    · rw [h]
      rfl
    · rw [hl]
    · rw [hl]
    · rw [hl]
    · rw [hl]
    · rw [h]
      rfl
  · have hl : ((s.ctlTaken n rest).updLink n (fun l => { l with txHold := false })).link n = { s.link n with ctl := rest, txHold := false } := by
      rw [link_updLink, if_pos rfl, link_ctlTaken]
    have hn : s.Near ((s.ctlTaken n rest).updLink n (fun l => { l with txHold := false })) n LinkSet :=
      (State.Near.setLink s n _ _).trans (.setLink _ n _ _)
    refine ⟨_, halfAck_narrows hm hst hg, ?_⟩
    generalize (s.ctlTaken n rest).updLink n (fun l => { l with txHold := false }) = u at hl hn
    have hgo := linkGo_gone u n.isLt .activeHalf 0
    rw [Link.gone_up rfl, hl] at hgo
    have hidle : ((u.linkGo n .activeHalf 0).link n).txq = [] := by rw [hgo.link]; exact hq
    obtain ⟨-, hld⟩ := drainLink_idle hidle
    have ht := (hgo.mono (Q := LinkSet) (fun _ => .inl)).after n.isLt (drainLink_near hidle) (fun h => h) (fun h => h) (fun _ h => h.elim)
    have hlt := (hld n).trans hgo.link
    exact ⟨(ht.before hn).linkAt (by rw [hlt]) linkSet_far, by rw [hlt], by rw [hlt]⟩
  · exact ⟨_, deskew_swap hr rfl hup hp rfl, swapped_spec n.isLt rfl hp ha rfl⟩
  · have hup : (s.link n).st.up = true := by rw [hst]; rfl
    obtain ⟨h1, h2, h3⟩ := acked_spec s n ⟨pos, h, g⟩
    have hs : ((h == 0xF) : Bool) = false := beq_eq_false_iff_ne.mpr (by omega)
    refine ⟨_, deskew_half hr rfl hup hp hh, ?_⟩
    have hm := showMap_near (s.acked n ⟨pos, h, g⟩) n.isLt
    have hl : ((s.acked n ⟨pos, h, g⟩).showMap n).link n = (s.acked n ⟨pos, h, g⟩).link n := link_showMap _ _ _
    have hn : s.Near ((s.acked n ⟨pos, h, g⟩).showMap n) n LinkSet :=
      (h1.mono (fun _ h => h.elim)).trans (hm.mono (fun i hi => .inr (by rw [hi]; decide)))
    have ho := hm.mem_out h3
    generalize (s.acked n ⟨pos, h, g⟩).showMap n = u at hl hn ho
    have hgo := linkGo_gone u n.isLt .activeHalf 0
    rw [Link.gone_up rfl, hl, h2] at hgo
    have hd : (s.link n).deskewed ⟨pos, h, g⟩ = { (s.link n).deskewed ⟨pos, h, g⟩ with
        repair := none, rxGen := g, rxSpare := pos, rxHalf := h, txHalf := h } := by
      unfold Link.deskewed
      simp only [hs, Bool.false_eq_true, if_false]
    rw [hd] at hgo
    simp only [hs, Bool.false_eq_true, if_false] at ho
    refine ⟨((hgo.mono (Q := LinkSet) (fun _ => .inl)).before hn).linkAt rfl linkSet_far, ?_, ?_, ?_, ?_, ?_, hgo.near.mem_out ho⟩ <;>
    rw [hgo.link]

end Sys2Proof.Proofs

set_option Elab.async false
/-! SUPPORT. The ways back from a test, and into Detect and Disabled (R245, R256, R257, R259). -/
namespace Sys2Proof.Machine

theorem linkReset_near (s : State) (n m : Nat) (P : Nat → Prop) : s.Near (s.linkReset m) n P := .of_same rfl rfl rfl rfl rfl rfl

theorem link_linkReset (s : State) (n m : Nat) : (s.linkReset n).link m = s.link m := rfl

/-- A link that is not Active leaves with what it holds. -/
theorem Link.gone_down {l : Link} {st : LinkSt} (h : l.st.up = false) : l.gone st = { l with st := st } := by
  unfold Link.gone
  rw [h, Bool.false_and]
  rfl

theorem odLive_after (s : State) {i j : Nat} (h : odKey j 0 ≠ odKey i 0) :
    ((s.odApply i 0).odApply j 0).odNum j 0 = s.odLive j 0 :=
  odLive_congr (by rw [odPending_odApply, if_neg h]) (odGet_odApply_other s h)

/-- Into Detect, with the attempts taken anew (R245, R259). -/
theorem linkDetect_gone {s : State} {n : Nat} (hn : n < 12) (hup : (s.link n).st.up = false) :
    s.LinkGone (s.linkDetect n) n { Link.blank with attempts := s.odLive 0x4012 0, st := .detect, farOk := (s.link n).farOk } .detect 0 LinkSet := by
  have h1 : s.Near ((s.odApply 0x4010 0).odApply 0x4012 0) n LinkSet :=
    (State.Near.odApply s n (.inr (by decide)) (by decide)).trans (.odApply _ n (.inr (by decide)) (by decide))
  have h2 : ((s.odApply 0x4010 0).odApply 0x4012 0).link n = s.link n := (odApply_link _ _ _ _).trans (odApply_link _ _ _ _)
  have h3 : ((s.odApply 0x4010 0).odApply 0x4012 0).odNum 0x4012 0 = s.odLive 0x4012 0 := odLive_after s (odKey_ne (by decide) (by decide) (by decide))
  unfold State.linkDetect
  simp only
  generalize (s.odApply 0x4010 0).odApply 0x4012 0 = u at h1 h2 h3
  rw [h3]
  have h4 : s.Near ((u.updLink n (fun l => { Link.blank with attempts := s.odLive 0x4012 0, st := l.st, farOk := l.farOk })).linkReset n) n LinkSet :=
    (h1.trans (.setLink u n _ _)).trans (linkReset_near _ n n _)
  have h5 : ((u.updLink n (fun l => { Link.blank with attempts := s.odLive 0x4012 0, st := l.st, farOk := l.farOk })).linkReset n).link n =
      { Link.blank with attempts := s.odLive 0x4012 0, st := (s.link n).st, farOk := (s.link n).farOk } := by
    rw [link_linkReset, link_updLink, if_pos rfl, h2]
  generalize (u.updLink n (fun l => { Link.blank with attempts := s.odLive 0x4012 0, st := l.st, farOk := l.farOk })).linkReset n = v at h4 h5
  have h6 := ((linkGo_gone v hn .detect 0).mono (Q := LinkSet) (fun _ => .inl)).before h4
  rw [Link.gone_down (by rw [h5]; exact hup), h5] at h6
  exact h6.showMap hn

/-- Into Disabled, of a link that is not Active and has no test of its own (R245). -/
theorem linkOff_gone {s : State} {n : Nat} (hn : n < 12) (hup : (s.link n).st.up = false) (hd : (s.link n).st ≠ .disabled)
    (ht : (s.link n).testing = false) :
    s.LinkGone (s.linkOff n) n { Link.blank with farOk := (s.link n).farOk } .disabled 0 LinkSet := by
  unfold State.linkOff
  simp only [ht, hd, Bool.false_eq_true, if_false]
  have h1 := (linkGo_gone s hn .disabled 0).mono (Q := LinkSet) (fun _ => .inl)
  rw [Link.gone_down hup] at h1
  generalize s.linkGo n .disabled 0 = u at h1
  have h2 := h1.after hn ((State.Near.setLink u n (fun _ => False) { Link.blank with farOk := (u.link n).farOk }).trans (linkReset_near _ n n _))
    (fun h => h) (fun h => h) (fun _ h => h.elim)
  have h3 : ((u.updLink n (fun l => { Link.blank with farOk := l.farOk })).linkReset n).link n = { Link.blank with farOk := (s.link n).farOk } := by
    rw [link_linkReset, link_updLink, if_pos rfl, h1.link]
  exact State.LinkGone.showMap ⟨h2.near, h3, h2.code, h2.reason⟩ hn

/-! ### Into Negotiate -/

/-- A link with the value of OD 0x4032 that it has taken, or else the value in force. -/
def Link.farKept (l : Link) (old : Bool) : Link := { l with farOk := some (l.farOk.getD old) }

theorem foldl_farKept (old : Bool) (ks : List Nat) (s : State) (m : Nat) :
    let t := ks.foldl (fun s k => s.updLink k (fun l => { l with farOk := some (l.farOk.getD old) })) s
    (∃ L, t = { s with links := L }) ∧ (t.link m = if m ∈ ks then (s.link m).farKept old else s.link m) := by
  induction ks generalizing s with
  | nil => exact ⟨⟨_, rfl⟩, rfl⟩
  | cons k ks ih =>
    obtain ⟨⟨L, h1⟩, h2⟩ := ih (s.updLink k (fun l => { l with farOk := some (l.farOk.getD old) }))
    refine ⟨⟨L, h1⟩, ?_⟩
    rw [List.foldl_cons, h2, link_updLink]
    by_cases hm : m = k
    · subst hm
      by_cases hk : m ∈ ks <;> simp [hk, Link.farKept]
    · simp [hm]

/-- What a link that enters Negotiate leaves: every other link has taken the value of OD 0x4032 that it had (R259). -/
structure State.FarTaken (s t : State) (n : Nat) : Prop where
  others : ∀ m, m ≠ n → m < 12 → t.link m = (s.link m).farKept (s.odBool 0x4032 0)
  link : t.link n = { s.link n with farOk := (t.link n).farOk }
  cores : t.cores = s.cores
  mem : t.mem = s.mem
  od : ∀ i j, j < 256 → i ≠ 0x4032 → t.odGet i j = s.odGet i j

theorem farTake_taken (s : State) {n : Nat} (hn : n < 12) : s.FarTaken (s.farTake n) n := by
  have hf := foldl_farKept (s.odBool 0x4032 0) (List.range 12) s
  unfold State.farTake
  simp only
  generalize (List.range 12).foldl (fun s' k => s'.updLink k (fun l => { l with farOk := some (l.farOk.getD (s.odBool 0x4032 0)) })) s = u at hf
  obtain ⟨L, hL⟩ := (hf 0).1
  have hl := fun m => (hf m).2
  have ha : (u.odApply 0x4032 0).Near ((u.odApply 0x4032 0).updLink n (fun l => { l with farOk := some ((u.odApply 0x4032 0).odBool 0x4032 0) })) n
    (fun _ => False) := .setLink _ n _ _
  have hb := State.Near.odApply (P := fun i => i = 0x4032) u n (k := 0) rfl (by decide)
  refine ⟨fun m hm hlt => ?_, ?_, ?_, ?_, fun i j hj hi => ?_⟩
  · rw [ha.others m hm, odApply_link, hl, if_pos (List.mem_range.mpr hlt)]
  · rw [link_updLink, if_pos rfl, odApply_link, hl, if_pos (List.mem_range.mpr hn)]
    rfl
  · rw [ha.cores, hb.cores, hL]
  · rw [ha.mem, hb.mem, hL]
  · rw [ha.od i j hj (fun h => h), hb.od i j hj hi, hL]
    rfl

/-- Into Negotiate (R245, R259): the test's results stay. -/
theorem enterNegotiate_spec {s : State} {n : Nat} (hn : n < 12) (hup : (s.link n).st.up = false) :
    let t := s.enterNegotiate n
    s.LinkAt t n .negotiate 0 ∧ (t.link n).loop = (s.link n).loop ∧ ∀ i j, j < 256 → ¬ LinkSet i → i ≠ 0x4032 → t.odGet i j = s.odGet i j := by
  have h1 : s.Near (s.odApplyAll [(0x4005, n + 1), (0x400A, n + 1)]) n LinkSet :=
    (State.Near.odApply (i := 0x4005) (k := n + 1) s n (.inr (by decide)) (by omega)).trans
      (.odApply (i := 0x400A) (k := n + 1) _ n (.inr (by decide)) (by omega))
  have h2 : (s.odApplyAll [(0x4005, n + 1), (0x400A, n + 1)]).link n = s.link n := (odApply_link _ _ _ _).trans (odApply_link _ _ _ _)
  unfold State.enterNegotiate
  generalize s.odApplyAll [(0x4005, n + 1), (0x400A, n + 1)] = u at h1 h2
  have h3 := farTake_taken u hn
  generalize u.farTake n = v at h3
  have h4 : v.LinkGone ((v.linkGo n .negotiate 0).capSend n 0) n ((v.link n).gone .negotiate) .negotiate 0 LinkSet := by
    have h := (linkGo_gone v hn .negotiate 0).mono (Q := LinkSet) (fun _ => .inl)
    generalize v.linkGo n .negotiate 0 = w at h
    have hc := h.after hn (State.Near.emit w n (fun _ => False) (.capability n (w.capBlocks n 0))) (fun h => h) (fun h => h) (fun _ h => h.elim)
    exact ⟨hc.near, h.link, hc.code, hc.reason⟩
  rw [Link.gone_down (by rw [h3.link, h2]; exact hup)] at h4
  intro t
  have h4 : v.LinkGone t n { v.link n with st := .negotiate } .negotiate 0 LinkSet := h4
  have hbool : u.odBool 0x4032 0 = s.odBool 0x4032 0 := h1.odBool (by decide) linkSet_far
  refine ⟨⟨by rw [h4.link], h4.code, h4.reason, fun m hm hlt => ?_, ?_, ?_⟩, ?_, fun i j hj hi hf => ?_⟩
  · have hm' : t.link m = (s.link m).farKept (s.odBool 0x4032 0) := by
      rw [h4.near.others m hm, h3.others m hm hlt, h1.others m hm, hbool]
    refine ⟨by rw [hm']; rfl, ?_⟩
    unfold State.farOk
    rw [hm']
    rfl
  · rw [h4.near.cores, h3.cores, h1.cores]
  · rw [h4.near.mem, h3.mem, h1.mem]
  · rw [h4.link, h3.link, h2]
  · rw [h4.near.od i j hj hi, h3.od i j hj hf, h1.od i j hj hi]

/-! ### Back from a test -/

/-- The state that a link returns to from a test (R245, R257). -/
def State.loopBack (s : State) (n : Nat) (before : LinkSt) : LinkSt :=
  if before = .down then (if s.odBool 0x4001 (n + 1) then .detect else .disabled)
  else if before = .detect ∨ before = .negotiate then before else .disabled

/-- A link has returned from a test, whose results stay. -/
structure State.Returned (s t : State) (n : Nat) (st : LinkSt) : Prop where
  at_ : s.LinkAt t n st 0
  loop : (t.link n).loop = none
  od : ∀ i j, j < 256 → ¬ LinkSet i → i ≠ 0x4032 → t.odGet i j = s.odGet i j

theorem State.Returned.of_gone {s u t : State} {n : Nat} {l : Link} {st : LinkSt} (h : s.Near u n LinkSet)
    (g : u.LinkGone t n l st 0 LinkSet) (hst : l.st = st) (hl : l.loop = none) : s.Returned t n st :=
  ⟨(g.before h).linkAt hst linkSet_far, by rw [g.link, hl], fun i j hj hi _ => (g.before h).near.od i j hj hi⟩

/-- What a change of the link alone comes before, the same holds of its result. -/
theorem State.LinkAt.before {s u t : State} {n : Nat} {st : LinkSt} {reason : Nat} {P : Nat → Prop} (h : s.Near u n P) (hP : ¬ P 0x4032)
    (g : u.LinkAt t n st reason) : s.LinkAt t n st reason := by
  obtain ⟨h1, h2, h3, h4, h5, h6⟩ := g
  refine ⟨h1, h2, h3, fun m hm hlt => ?_, h5.trans h.cores, h6.trans h.mem⟩
  obtain ⟨g1, g2⟩ := h4 m hm hlt
  refine ⟨by rw [← h.others m hm]; exact g1, g2.trans ?_⟩
  unfold State.farOk
  rw [h.others m hm, h.odBool (by decide) hP]

theorem loopReturn_returned {s : State} {n : Nat} (hn : n < 12) (hst : (s.link n).st = .loopback) (before : LinkSt) :
    s.Returned (s.loopReturn n before) n (s.loopBack n before) := by
  have h1 : s.Near (s.updLink n (fun l => { l with loop := none })) n LinkSet := .setLink s n _ _
  have h2 : (s.updLink n (fun l => { l with loop := none })).link n = { s.link n with loop := none } := by
    rw [link_updLink, if_pos rfl]
  have h3 : (s.updLink n (fun l => { l with loop := none })).odBool 0x4001 (n + 1) = s.odBool 0x4001 (n + 1) := rfl
  unfold State.loopReturn
  simp only
  generalize s.updLink n (fun l => { l with loop := none }) = u at h1 h2 h3
  have hup : (u.link n).st.up = false := by rw [h2, hst]; rfl
  have detect : s.Returned (u.linkDetect n) n .detect := .of_gone h1 (linkDetect_gone hn hup) rfl rfl
  have off : s.Returned (u.linkOff n) n .disabled :=
    .of_gone h1 (linkOff_gone hn hup (by rw [h2, hst]; decide) (by rw [h2]; rfl)) rfl rfl
  cases before
  case down =>
    simp only [h3, State.loopBack, if_true]
    split
    · exact detect
    · exact off
  case detect => exact detect
  case negotiate =>
    obtain ⟨g1, g2, g3⟩ := enterNegotiate_spec hn hup
    exact ⟨g1.before h1 linkSet_far, g2.trans (by rw [h2]), fun i j hj hi hf => (g3 i j hj hi hf).trans (h1.od i j hj hi)⟩
  all_goals exact off

/-! ### The results of a test -/

/-- The lanes of a link report their words (R257). -/
def State.laneWords (s : State) (n : Nat) (w : Nat → Nat) (ks : List Nat) : State :=
  ks.foldl (fun s k => s.odSetN 0x4031 (9 * n + k + 1) (w k)) s

/-- The objects of a test's results. -/
def LoopShown (i : Nat) : Prop := i = 0x4031 ∨ i = 0x4033

theorem laneWords_near (s : State) {n : Nat} (hn : n < 12) (w : Nat → Nat) {ks : List Nat} (h : ∀ k ∈ ks, k < 9) :
    s.Near (s.laneWords n w ks) n LoopShown := .foldl (fun s k hk => .odSetN s n _ (.inl rfl) (by have := h k hk; omega)) s

theorem link_laneWords (s : State) (n : Nat) (w : Nat → Nat) (ks : List Nat) (m : Nat) : (s.laneWords n w ks).link m = s.link m := by
  induction ks generalizing s with
  | nil => rfl
  | cons k ks ih => exact (ih _).trans (link_odSetN ..)

theorem laneWords_odNum (s : State) (n : Nat) (w : Nat → Nat) {ks : List Nat} (k : Nat) :
    (s.laneWords n w ks).odNum 0x4031 (9 * n + k + 1) = if k ∈ ks then w k else s.odNum 0x4031 (9 * n + k + 1) := by
  induction ks generalizing s with
  | nil => rfl
  | cons j ks ih =>
    refine (ih (s.odSetN 0x4031 (9 * n + j + 1) (w j))).trans ?_
    by_cases hj : k = j
    · subst hj
      rw [State.odNum_odSetN_same]
      simp
    · unfold State.odNum
      rw [odGet_odSetN_other _ _ (odKey_ne_sub (by omega))]
      simp [hj]

theorem not_linkSet_shown {i : Nat} (h : LoopShown i) : ¬ LinkSet i ∧ i ≠ 0x4032 := by
  unfold LinkSet LinkShown LinkTold Posted Noisy
  rcases h with rfl | rfl <;> decide

/-- A test that ends with its lanes' words, and with a delay where there is one: the link returns, and what the lanes report stays. -/
theorem test_ends {s u : State} {n : Nat} (hn : n < 12) (h : s.Near u n LoopShown) (hl : (u.link n).st = .loopback) (before : LinkSt) :
    let t := u.loopReturn n before
    s.LinkAt t n (s.loopBack n before) 0 ∧ (t.link n).loop = none ∧
    ∀ i j, j < 256 → LoopShown i → t.odNum i j = u.odNum i j := by
  have hr := loopReturn_returned hn hl before
  have hb : u.loopBack n before = s.loopBack n before := by
    unfold State.loopBack
    rw [h.odBool (by omega) (by unfold LoopShown; decide)]
  rw [hb] at hr
  refine ⟨hr.at_.before h (by unfold LoopShown; decide), hr.loop, fun i j hj hi => ?_⟩
  obtain ⟨h1, h2⟩ := not_linkSet_shown hi
  unfold State.odNum
  rw [hr.od i j hj h1 h2]

end Sys2Proof.Machine

set_option Elab.async false
/-! SUPPORT. What takes a link Down, and what ends a test (R245, R256, R257). -/
namespace Sys2Proof.Machine

/-! ### Down -/

/-- A link that goes Down after changes of its own. -/
theorem linkFail_at {s u : State} {n : Nat} (hn : n < 12) (h : s.Near u n LinkSet) (reason : Nat) :
    s.LinkAt (u.linkFail n reason) n .down reason := ((linkFail_gone u hn reason).before h).linkAt rfl linkSet_far

/-- An Active link that goes Down loses what it holds (R245). -/
theorem linkFail_drops {s u : State} {n : Nat} (hn : n < 12) (h : s.Near u n LinkSet) (hup : (u.link n).st.up = true) (reason : Nat) :
    let t := u.linkFail n reason
    s.LinkAt t n .down reason ∧ (t.link n).rx = [] ∧ (t.link n).txq = [] ∧ (t.link n).repair = none := by
  have hd : (u.link n).gone .down = { (u.link n).drop with st := .down } := by
    unfold Link.gone
    rw [hup]
    rfl
  have hg := linkFail_gone u hn reason
  rw [hd] at hg
  intro t
  refine ⟨linkFail_at hn h reason, ?_, ?_, ?_⟩ <;> rw [show t.link n = _ from hg.link] <;> rfl

theorem linkUp_up {s : State} {n : Nat} (h : s.linkUp n = true) : (s.link n).st.up = true := by
  unfold State.linkUp at h
  rw [Bool.and_eq_true] at h
  exact h.1

theorem trainingTimeout_fails {s : State} {n : Fin 12} (h : (s.link n).st = .detect ∨ (s.link n).st = .negotiate) :
    exec (.trainingTimeout n) s = .next (s.linkFail n 1) := by
  show execTrainingTimeout n s = _
  unfold execTrainingTimeout
  rcases h with h | h <;> rw [h]

/-- The partner's serial and coordinate are shown (R247). -/
def State.partnerShown (s : State) (n : Nat) (c : Cap) : State := (s.odSetN 0x4008 (n + 1) c.id.serial).odSetN 0x4009 (n + 1) c.id.coord

theorem partnerShown_near (s : State) {n : Nat} (hn : n < 12) (c : Cap) : s.Near (s.partnerShown n c) n (fun i => i = 0x4008 ∨ i = 0x4009) :=
  (State.Near.odSetN s n _ (.inl rfl) (by omega)).trans (.odSetN _ n _ (.inr rfl) (by omega))

theorem partnerShown_set (s : State) {n : Nat} (hn : n < 12) (c : Cap) : s.Near (s.partnerShown n c) n LinkSet :=
  (partnerShown_near s hn c).mono (fun i hi => .inr (by rcases hi with rfl | rfl <;> decide))

/-- The lanes that the blocks name. -/
def lanesOf (blocks : List (List Byte)) : List (Option LaneId) := blocks.map (fun b => (capOf b).map Cap.id)

theorem exchange_fails {s : State} {n : Fin 12} {blocks : List (List Byte)} {c : Cap} {rest : List Cap} (hst : (s.link n).st = .negotiate)
    (hc : (blocks.map capOf).filterMap id = c :: rest) (hf : bit 1 c.flags = false) :
    (miswired (lanesOf blocks) = true → exec (.capabilityExchanged n blocks) s = .next ((s.partnerShown n c).linkFail n 4)) ∧
    (miswired (lanesOf blocks) = false → (c.vmax < 2 ∨ 3 < c.vmin) →
      exec (.capabilityExchanged n blocks) s = .next ((s.partnerShown n c).linkFail n 2)) ∧
    (miswired (lanesOf blocks) = false → 2 ≤ c.vmax → c.vmin ≤ 3 → s.odNum 0x400A (n + 1) ≠ 0 → s.odNum 0x400A (n + 1) ≠ c.id.serial →
      exec (.capabilityExchanged n blocks) s = .next ((s.partnerShown n c).linkFail n 3)) := by
  have hl : (blocks.map capOf).map (Option.map Cap.id) = lanesOf blocks := List.map_map
  have hn : (s.partnerShown n c).odNum 0x400A (n + 1) = s.odNum 0x400A (n + 1) := (partnerShown_near s n.isLt c).odNum (by omega) (by decide)
  have hlo : ((LinkSt.negotiate == .loopback) : Bool) = false := by decide
  have hne : ((LinkSt.negotiate != .negotiate) : Bool) = false := by decide
  refine ⟨fun hm => ?_, fun hm hv => ?_, fun hm h2 h3 h0 hs => ?_⟩ <;> show execCapabilityExchanged n blocks s = _ <;>
    unfold execCapabilityExchanged <;>
    simp only [hc, hst, hf, hl, hlo, hne, Bool.false_and, Bool.false_eq_true, if_false] <;> rw [← State.partnerShown]
  · rw [if_pos hm]
  · rw [if_neg (by rw [hm]; decide), if_pos (by simpa using hv)]
  · rw [if_neg (by rw [hm]; decide), if_neg (by simp; omega), if_pos (by rw [hn]; simp [h0, hs])]

theorem loss_fails {s : State} {n : Fin 12} {lanes : BitVec 9} (hup : (s.link n).st.up = true)
    (hp : 3 ≤ popCount 9 ((s.link n).lost ||| lanes.toNat)) :
    exec (.lossOfSignal n lanes) s = .next ((s.setLink n { s.link n with lost := (s.link n).lost ||| lanes.toNat }).linkFail n 7) := by
  show execLossOfSignal n lanes s = _
  unfold execLossOfSignal
  simp only [hup, hp, Bool.true_or, Bool.not_true, Bool.false_eq_true, if_true, if_false, ge_iff_le]

theorem down_fails {s : State} {n : Fin 12} {m : List Byte} {rest : List (List Byte)} (h : s.Message n 0x07 m rest) (hup : s.linkUp n = true) :
    exec (.linkDown n) s = .next ((s.ctlTaken n rest).linkFail n 8) := by
  have hu : (s.ctlTaken n rest).linkUp n = true := by
    unfold State.linkUp at hup ⊢
    rw [link_ctlTaken]
    exact hup
  show execLinkDown n s = _
  unfold execLinkDown
  rw [takeCtl_taken h]
  exact congrArg Host.Outcome.next (if_pos hu)

theorem swapTimeout_fails {s : State} {n : Fin 12} (hup : (s.link n).st.up = true)
    (h : (s.link n).repair.isSome = true ∨ (s.link n).txHold = true) : exec (.swapTimeout n) s = .next (s.linkFail n 9) :=
  if_pos (by rw [hup, Bool.true_and, Bool.or_eq_true]; exact h)

/-- The moments of the losses of alignment within 1 ms, the last one now. -/
def State.lossTimes (s : State) (n : Nat) : List Nat :=
  ((s.link n).enterResync.alignLost.filter (fun t => decide (s.now < t + 1_000_000))) ++ [s.now]

/-- A link that has lost alignment: in resync, with the moment kept (R241). -/
def State.alignLoss (s : State) (n : Nat) : State :=
  s.setLink n { (s.link n).enterResync with alignLost := s.lossTimes n }

theorem alignmentLost_eq {s : State} {n : Fin 12} (hup : s.linkUp n = true) :
    exec (.alignmentLost n) s = .next (if (s.lossTimes n).length ≥ 3 then (s.alignLoss n).linkFail n 10 else s.alignLoss n) := if_pos hup

theorem alignLost_enterResync (l : Link) : l.enterResync.alignLost = l.alignLost := by
  rw [Link.enterResync_eq]

/-! ### Tests -/

theorem loopbackEnd_eq {s : State} {n : Fin 12} {rs : List LaneResult} {d : BitVec 32} {lb : Loop} (hst : (s.link n).st = .loopback)
    (hl : (s.link n).loop = some lb) (hm : lb.mode < 4) :
    let u := s.laneWords n (fun k => laneWord lb.full (425_000_000 * lb.ms) (getAt LaneResult.noSignal rs k)) (List.range 9)
    exec (.loopbackEnd n rs d) s =
      .next ((if lb.mode = 1 || lb.mode = 2 then u.odSetN 0x4033 (n + 1) d.toNat else u).loopReturn n lb.before) := by
  show execLoopbackEnd n rs d s = _
  unfold execLoopbackEnd
  rw [hst, hl]
  simp only [Nat.ne_of_lt hm, if_false]
  rfl

theorem trainingTimeout_unanswered {s : State} {n : Fin 12} {lb : Loop} (hst : (s.link n).st = .loopback)
    (hl : (s.link n).loop = some lb) (hm : lb.mode = 1) (ha : lb.accepted = false) :
    exec (.trainingTimeout n) s = .next ((s.laneWords n (fun _ => 4 * 2 ^ 28) (List.range 9)).loopReturn n lb.before) := by
  show execTrainingTimeout n s = _
  unfold execTrainingTimeout
  rw [hst, hl]
  simp only [hm, ha, Bool.not_false, decide_true, Bool.true_and, if_true]
  rfl

theorem link_capSend (s : State) (n flags m : Nat) : (s.capSend n flags).link m = s.link m := rfl

/-- A far-end request that is accepted: the acceptance goes out, and the link is in Loopback (R256). -/
theorem exchange_accepts {s : State} {n : Fin 12} {blocks : List (List Byte)} {c : Cap} {rest : List Cap}
    (hst : (s.link n).st = .detect ∨ (s.link n).st = .negotiate ∨ (s.link n).st = .down)
    (hc : (blocks.map capOf).filterMap id = c :: rest) (hf : bit 1 c.flags = true) (hv : 3 ≤ c.vmax) (ho : s.farOk n = true) :
    exec (.capabilityExchanged n blocks) s = .next (((s.updLink n (fun l => { l with loop := some ⟨4, 0, (s.link n).st, false, true, 0⟩ })).capSend
      n 4).linkGo n .loopback 0) := by
  have hs : ((s.link n).st == .detect || (s.link n).st == .negotiate || (s.link n).st == .down) = true := by
    rcases hst with h | h | h <;> rw [h] <;> rfl
  show execCapabilityExchanged n blocks s = _
  unfold execCapabilityExchanged
  simp only [hc]
  rw [if_pos (by simp only [hf, hv, hs, ho, ge_iff_le, decide_true, Bool.and_true])]

/-- The words and the delay of a test are shown (R257). -/
def State.resultsShown (s : State) (n : Nat) (lb : Loop) (rs : List LaneResult) (d : BitVec 32) : State :=
  let u := s.laneWords n (fun k => laneWord lb.full (425_000_000 * lb.ms) (getAt LaneResult.noSignal rs k)) (List.range 9)
  if lb.mode = 1 || lb.mode = 2 then u.odSetN 0x4033 (n + 1) d.toNat else u

theorem resultsShown_spec {s : State} {n : Nat} (hn : n < 12) (hst : (s.link n).st = .loopback) (lb : Loop) (rs : List LaneResult)
    (d : BitVec 32) :
    let u := s.resultsShown n lb rs d
    s.Near u n LoopShown ∧ (u.link n).st = .loopback ∧
    (∀ k, k < 9 → u.odNum 0x4031 (9 * n + k + 1) = laneWord lb.full (425_000_000 * lb.ms) (getAt LaneResult.noSignal rs k)) ∧
    ((lb.mode = 1 ∨ lb.mode = 2) → u.odNum 0x4033 (n + 1) = d.toNat) := by
  have hw := laneWords_near s hn (fun k => laneWord lb.full (425_000_000 * lb.ms) (getAt LaneResult.noSignal rs k)) (ks := List.range 9)
    (fun k hk => List.mem_range.mp hk)
  have hl := link_laneWords s n (fun k => laneWord lb.full (425_000_000 * lb.ms) (getAt LaneResult.noSignal rs k)) (List.range 9) n
  have hk := fun k (hk : k < 9) => (laneWords_odNum s n (fun k => laneWord lb.full (425_000_000 * lb.ms) (getAt LaneResult.noSignal rs k)) k).trans
    (if_pos (List.mem_range.mpr hk))
  unfold State.resultsShown
  simp only
  generalize s.laneWords n (fun k => laneWord lb.full (425_000_000 * lb.ms) (getAt LaneResult.noSignal rs k)) (List.range 9) = u at hw hl hk
  split
  · have h3 := State.Near.odSetN (P := fun i => i = 0x4033) u n (k := n + 1) d.toNat rfl (by omega)
    exact ⟨hw.trans (h3.mono (fun _ => .inr)), by rw [link_odSetN, hl, hst],
      fun k hk9 => (h3.odNum (by omega) (by decide)).trans (hk k hk9), fun _ => State.odNum_odSetN_same ..⟩
  · next hm => exact ⟨hw, by rw [hl, hst], hk, fun h => absurd (by simpa using h) hm⟩

/-- The word of a lane, with its test written out (R257). -/
theorem laneWord_eq (full : Bool) (ms : Nat) (r : LaneResult) : laneWord full (425_000_000 * ms) r = match r with
    | .noSignal => 4 * 2 ^ 28
    | .measured lock e =>
      let pass := if full then lock && decide (e * 100_000 ≤ 2 * (425_000_000 * ms)) else decide (e = 0)
      (if pass then 2 else 3) * 2 ^ 28 + min e 0xFFF_FFFF := by
  cases r with
  | noSignal => rfl
  | measured lock e =>
    unfold laneWord ratioOk
    simp only [beq_eq_decide]

end Sys2Proof.Machine

namespace Sys2Proof.Proofs
open Sys2Proof.Machine

/-- Settles O26: every way Down is a change of the link's own before one change of state, and every end of a test is nine words and a way
back that keeps them. -/
theorem linkEnds : Obligations.LinkEnds := by
  unfold Obligations.LinkEnds
  refine ⟨fun n s => ?_, fun n rs d s => ?_⟩
  · intro l down broken
    refine ⟨fun h => ⟨_, trainingTimeout_fails h, linkFail_at n.isLt (.refl s n _) 1⟩, fun blocks c rest hst hc hf => ?_,
      fun lanes hp hup => ?_, fun m rest hm hup => ?_, fun hr hup => ?_, fun a b hl ha hb hup => ?_, fun hup hl => ?_, fun hst hb => ?_⟩
    · obtain ⟨h4, h2, h3⟩ := exchange_fails hst hc hf
      have hn := partnerShown_set s n.isLt c
      refine ⟨fun hw => ⟨_, h4 ((Bool.not_eq_false _).mp hw), linkFail_at n.isLt hn 4⟩, fun hw hv => ⟨_, h2 hw hv, linkFail_at n.isLt hn 2⟩,
        fun hw h2' h3' h0 hs => ⟨_, h3 hw h2' h3' h0 hs, linkFail_at n.isLt hn 3⟩⟩
    · exact ⟨_, loss_fails (linkUp_up hup) hp, linkFail_drops n.isLt (.setLink s n _ _) (by rw [State.link_setLink_same]; exact linkUp_up hup) 7⟩
    · exact ⟨_, down_fails hm hup, linkFail_drops n.isLt (u := s.ctlTaken n rest) (.setLink s n _ _)
        (by rw [link_ctlTaken]; exact linkUp_up hup) 8⟩
    · exact ⟨_, swapTimeout_fails (linkUp_up hup) hr, linkFail_drops n.isLt (.refl s n _) (linkUp_up hup) 9⟩
    · have ht : s.lossTimes n = [a, b, s.now] := by
        unfold State.lossTimes
        rw [alignLost_enterResync, show (s.link n).alignLost = [a, b] from hl]
        simp [ha, hb]
      have hu : ((s.alignLoss n).link n).st.up = true := by
        rw [State.alignLoss, State.link_setLink_same, Link.enterResync_eq]
        exact linkUp_up hup
      have he := alignmentLost_eq hup
      rw [if_pos (by rw [ht]; exact Nat.le_refl 3)] at he
      exact ⟨_, he, linkFail_drops n.isLt (.setLink s n _ _) hu 10⟩
    · have ht : s.lossTimes n = [s.now] := by
        unfold State.lossTimes
        rw [alignLost_enterResync, show (s.link n).alignLost = [] from hl]
        rfl
      have hk : (s.alignLoss n).link n = { (s.link n).enterResync with alignLost := [s.now] } := by
        rw [State.alignLoss, State.link_setLink_same, ht]
      have he := alignmentLost_eq hup
      rw [if_neg (by rw [ht]; exact Nat.not_succ_le_self 1 ∘ Nat.le_of_succ_le)] at he
      obtain ⟨ha, hr, -, -⟩ := (s.link n).enterResync_spec
      refine ⟨_, he, rfl, ?_, ?_, ?_, ?_⟩ <;> rw [hk]
      · rw [Link.enterResync_eq]
      · exact hr
      · exact ha
    · have hst : (s.link n).st = .down := hst
      have hg := linkDetect_gone (s := s) n.isLt (by rw [hst]; rfl)
      refine ⟨_, if_pos (by rw [hst, hb]; rfl), hg.linkAt rfl linkSet_far, ?_⟩
      rw [hg.link]
  · intro l back
    refine ⟨fun lb hst hl hm => ?_, fun lb hst hl hm ha => ?_, fun blocks c rest hst hc hf hv ho => ?_, fun lanes hst hl => ?_⟩
    · obtain ⟨hn, hst', hword, hdelay⟩ := resultsShown_spec (s := s) n.isLt hst lb rs d
      obtain ⟨h1, h2, h3⟩ := test_ends n.isLt hn hst' lb.before
      refine ⟨_, loopbackEnd_eq hst hl hm, h1, h2, fun hd => ?_, fun k hk => ?_⟩
      · exact (h3 _ _ (by omega) (.inr rfl)).trans (hdelay hd)
      · exact ((h3 _ _ (by omega) (.inl rfl)).trans (hword k hk)).trans (laneWord_eq _ _ _)
    · have hw := laneWords_near s n.isLt (fun _ => 4 * 2 ^ 28) (ks := List.range 9) (fun k hk => List.mem_range.mp hk)
      obtain ⟨h1, -, h3⟩ := test_ends n.isLt hw (by rw [link_laneWords]; exact hst) lb.before
      refine ⟨_, trainingTimeout_unanswered hst hl hm ha, h1, fun k hk => ?_⟩
      exact (h3 _ _ (by omega) (.inl rfl)).trans ((laneWords_odNum s n _ k).trans (if_pos (List.mem_range.mpr hk)))
    · have hn : s.Near ((s.updLink n (fun l => { l with loop := some ⟨4, 0, (s.link n).st, false, true, 0⟩ })).capSend n 4) n LinkSet :=
        (State.Near.setLink s n _ _).trans (.emit _ n _ _)
      have hu : ((s.updLink n (fun l => { l with loop := some ⟨4, 0, (s.link n).st, false, true, 0⟩ })).capSend n 4).link n =
          { s.link n with loop := some ⟨4, 0, (s.link n).st, false, true, 0⟩ } := by
        rw [link_capSend, link_updLink, if_pos rfl]
      have ho' : .capability n (s.capBlocks n 4) ∈
          ((s.updLink n (fun l => { l with loop := some ⟨4, 0, (s.link n).st, false, true, 0⟩ })).capSend n 4).out :=
        List.mem_append_right _ List.mem_cons_self
      refine ⟨_, exchange_accepts hst hc hf hv ho, ?_⟩
      generalize (s.updLink n (fun l => { l with loop := some ⟨4, 0, (s.link n).st, false, true, 0⟩ })).capSend n 4 = u at hn hu ho'
      have hg := linkGo_gone u n.isLt .loopback 0
      have hup : (u.link n).st.up = false := by
        rw [hu]
        show (s.link n).st.up = false
        rcases hst with h | h | h <;> rw [show (s.link n).st = _ from h] <;> rfl
      rw [Link.gone_down hup, hu] at hg
      refine ⟨((hg.mono (Q := LinkSet) (fun _ => .inl)).before hn).linkAt rfl linkSet_far, ?_, hg.near.mem_out ho'⟩
      rw [hg.link]
      rfl
    · have hm : ((s.link n).loop.any (fun b => b.mode == 4)) = true := by
        obtain ⟨lb, hlb, h4⟩ := Option.map_eq_some_iff.mp hl
        rw [show (s.link n).loop = some lb from hlb]
        simp [h4]
      have hlo : ((s.link n).st == .loopback) = true := by rw [show (s.link n).st = _ from hst]; rfl
      refine ⟨_, (if_pos hlo).trans (congrArg Host.Outcome.next (if_pos hm)), rfl⟩

end Sys2Proof.Proofs
